-- ==== Sys2Proof/Word.lean ====
section
/-! DEFINITION. The word types of the GT-4880: sectors, codeword payloads and map entries. -/

namespace Sys2Proof

/-- A sector's 4,096 bytes; byte j lies at bits [8j+7:8j] (R3, R8). -/
abbrev Sector := BitVec 32768

/-- The 4,160-byte information part of a codeword: 4,096 bytes of data, then 64 bytes of metadata (R149, R186). -/
abbrev Payload := BitVec 33280

/-- A whole codeword of 4,608 bytes: the payload, then 448 bytes of LDPC check bits (R186, Table 8.4). -/
abbrev Codeword := BitVec 36864

/-- A map entry, 40 bits (R73, Table 4.1). -/
abbrev MapEntry := BitVec 40

/-- A codeword's or page set's place on the shelf, in map entry form (Table 4.1). -/
abbrev Loc := BitVec 40

/-- A sparse table: keys rising, entries equal to the table's default left out where the table has one. -/
abbrev Tab (α : Type) := List (Nat × α)

end Sys2Proof
end

