-- ==== Sys2Proof/Syntax.lean ====
section
/-! DEFINITION. The commands of the block: one constructor for each row of the opcode table, with the operand types
they carry. The shelf's images, messages, capsules and frames come decoded, field by field; where a published
standard decides (a digest, a signature, a CRC, an FCS) its outcome comes with the structure. -/

namespace Sys2Proof

/-- The data of one RDMA response packet, at most 4,096 bytes (R289, R290). -/
abbrev Payload4k := Sector

/-! ### Chapter 2: the rig image and the schedule -/

/-- Slot table entry, Table 2.2 (R28). `length` is LENGTH as stored: slots in the run, less 1. -/
structure SlotEntry where
  start : Nat
  length : Nat
  resource : Nat
  cls : Nat
  lane : Nat
  reserved : Nat
  deriving DecidableEq, Repr

/-- A slot table section with its sub-header (R491). -/
structure SlotTable where
  seqId : Nat
  reserved : Nat
  entries : List SlotEntry
  deriving DecidableEq, Repr

/-- Lane table entry, Table 2.5 (R30, R31, R33). -/
structure LaneEntry where
  tenant : Nat
  lclass : Nat
  budget : Nat
  bound : Nat
  spillOff : Nat
  spillLen : Nat
  drain : Nat
  escapeCr : Nat
  reserved : Nat
  deriving DecidableEq, Repr

/-- Credit reservation entry, Table 3.7 (R72). -/
structure CreditEntry where
  pool : Nat
  drain : Nat
  inst : Nat
  swclass : Nat
  escapeCr : Nat
  reserved : Nat
  deriving DecidableEq, Repr

/-- Live setting bounds entry of section 0x000D (R493). -/
structure SettingBound where
  id : Nat
  reserved : Nat
  min : Nat
  max : Nat
  default : Nat
  deriving DecidableEq, Repr

/-- Section 0x000D: its 16-byte header, VERSION, COUNT and 8 reserved bytes, and its entries (R493). -/
structure SettingSection where
  version : Nat
  count : Nat
  reserved : Nat
  bounds : List SettingBound
  deriving DecidableEq, Repr

/-- Section table entry, Table 2.7. `digestOk` says whether DIGEST is the SHA-384 of the section's bytes
(the digest is a published standard's; the comparison's outcome comes with the image). -/
structure SectionEntry where
  type : Nat
  version : Nat
  inst : Nat
  reserved : Nat
  offset : Nat
  length : Nat
  digestOk : Bool
  deriving DecidableEq, Repr

/-- Signature block, R36. `verifies` is the outcome of ECDSA P-384 over header bytes 0x000 to 0x0AF. -/
structure SigBlock where
  alg : Nat
  reserved : Nat
  keyId : BitVec 64
  verifies : Bool
  deriving DecidableEq, Repr

/-! ### Chapter 6: placement -/

/-- Placement table entry, Table 6.4 (R145): MEMBER, ALT0, ALT1. -/
structure Pattern where
  members : List Nat
  alt0 : Nat
  alt1 : Nat
  reserved : Nat
  deriving DecidableEq, Repr

/-- Placement table, Tables 6.3 and 6.4 (R145). -/
structure Placement where
  layout : Nat
  data : Nat
  parity : Nat
  bays : Nat
  patterns : Nat
  reserve : Nat
  bayMask : BitVec 64
  journal : List Nat
  root : List Nat
  jalt : List Nat
  pairMin : Nat
  pairMax : Nat
  sysblk : Nat
  reserved : Nat
  table : List Pattern
  deriving DecidableEq, Repr

/-- Write stream entry of section 0x000C, Table 4.5 (R83). -/
structure StreamEntry where
  kind : Nat
  deadline : Nat
  reserved : Nat
  deriving DecidableEq, Repr

/-- Section 0x000C (R83). -/
structure StreamTable where
  dirtyBudget : Nat
  reserved : Nat
  streams : List StreamEntry
  deriving DecidableEq, Repr

/-! ### Chapters 8 and 9: modules and the Sheet link -/

/-- Module descriptor, Table 8.2 (R185), with the factory bad-block pages of Table 8.3. `formOk` says that
every page's CRC-32C checks, the MAGIC is that of Table 8.2 and every reserved field is 0. -/
structure ModuleDesc where
  formOk : Bool
  version : Nat
  pages : Nat
  maker : Nat
  part : Nat
  serial : Nat
  bridgeFw : Nat
  dies : Nat
  planes : Nat
  cell : Nat
  levels : Nat
  ppb : Nat
  epp : Nat
  trMax : Nat
  trSlcMax : Nat
  tprogMax : Nat
  tprogSlcMax : Nat
  tbersMax : Nat
  tsusMax : Nat
  peRated : Nat
  peSlcRated : Nat
  rdLimit : Nat
  retHours : Nat
  offsetStep : Nat
  retryCount : Nat
  tempMax : Nat
  af : List Nat
  retry : List (List Int)
  opsPerDie : Nat
  badBlocks : List (List (Nat × Nat))
  deriving DecidableEq, Repr

/-- Sheet frame header, Table 9.1 (R214), as received; `crcOk` is the outcome of the frame CRC (R215). -/
structure SheetHdr where
  type : Nat
  flags : Nat
  seq : Nat
  ack : Nat
  len : Nat
  tag : Nat
  index : Nat
  code : Nat
  die : Nat
  crCmd : Nat
  crData : Nat
  crRsp : Nat
  reserved : Nat
  crcOk : Bool
  deriving DecidableEq, Repr

/-- INIT payload, Table 9.3 (R221). -/
structure SheetInit where
  version : Nat
  port : Nat
  lanes : Nat
  crCmd : Nat
  crData : Nat
  crRsp : Nat
  epoch : Nat
  owner : Nat
  reserved : Nat
  seen : Bool
  deriving DecidableEq, Repr

/-- A Sheet command as the module receives it (Tables 9.1, 9.5): the port it came on (`portB` for port B),
its tag, die and payload. -/
structure SheetCmd where
  portB : Bool
  tag : Nat
  die : Nat
  page : Nat
  slc : Bool
  cwmask : BitVec 16
  arg : Nat
  epoch : Nat
  prio : Bool
  offsets : List Int
  value : BitVec 64
  reserved : Bool
  deriving DecidableEq, Repr

/-- What an operation of Table 9.4 hands back beside its status code (R229): nothing, the module status
of Table 9.6, a tag state (R231), an 8-byte value, temperatures, an epoch, or a descriptor. -/
inductive SheetResult where
  | none
  | status (epoch owner flags : Nat) (dieFault : BitVec 128)
  | tagState (state code : Nat)
  | value (v : BitVec 64)
  | temp (nand bridge : Int)
  | epoch (e : Nat)
  | desc (d : ModuleDesc)
  deriving DecidableEq, Repr

/-- Outcome the NAND reports for a program or an erase (R226, R227), an environment's choice. -/
inductive NandResult where
  | ok | fail | noAnswer
  deriving DecidableEq, Repr

/-- What an LDPC cell reports for one codeword (R188). `altered` carries the decoded information part when it
differs from what was stored (silent corruption); otherwise the stored payload is what decodes. -/
structure Decode where
  ok : Bool
  bits : Nat
  imbalance : List Int
  altered : Option Payload
  deriving DecidableEq, Repr

/-! ### Chapter 10: capsules and namespaces -/

/-- Namespace table entry, Table 10.4 (R254). `nsType` is TYPE: 0 Standard, 1 Ledger, 2 Retention. -/
structure NsEntry where
  present : Bool
  pin : Bool
  gcm : Bool
  nsType : Nat
  tenant : Nat
  mapBase : Nat
  capacity : Nat
  stream0 : Nat
  stream1 : Nat
  keysel : Nat
  retPeriod : Nat
  nguid : BitVec 128
  reserved : Nat
  deriving DecidableEq, Repr

/-- Namespace table section (R254); `entries` lists (namespace number, entry). -/
structure NsTable where
  count : Nat
  dirBase : Nat
  sysPages : Nat
  reserved : Nat
  entries : List (Nat × NsEntry)
  deriving DecidableEq, Repr

/-- The data a Fabrics Connect carries (fetched with its SGL): host NQN, subsystem NQN and CNTLID. -/
structure ConnectData where
  hostNqn : Nat
  subNqnOk : Bool
  discovery : Bool
  cntlid : Nat
  deriving DecidableEq, Repr

/-- A 64-byte command capsule as received, with the small data blocks some commands fetch (Connect data,
Dataset Management ranges as (first LBA, sectors)). -/
structure Capsule where
  opcode : Nat
  fctype : Nat
  cid : Nat
  nsid : Nat
  sglKeyed : Bool
  sglAddr : Nat
  sglKey : Nat
  sglLen : Nat
  slba : Nat
  nlb : Nat
  deac : Bool
  cdw10 : Nat
  cdw11 : Nat
  cdw12 : Nat
  cdw13 : Nat
  ranges : List (Nat × Nat)
  dealloc : Bool
  connect : Option ConnectData
  deriving DecidableEq, Repr

/-! ### Chapter 11: RDMA -/

/-- Tenant entry, Table 11.3 (R280). -/
structure TenantEntry where
  present : Bool
  qpLimit : Nat
  ctrBase : Nat
  ctrLen : Nat
  txCir : Nat
  reserved : Nat
  deriving DecidableEq, Repr

/-- Host entry, Table 11.4 (R280, R281). The NQN is the number its bytes up to the first 0x00 spell. -/
structure HostEntry where
  nqn : Nat
  tenant : Nat
  reserved : Nat
  deriving DecidableEq, Repr

/-- Tenant table section (R280). -/
structure TenantTable where
  version : Nat
  hostsCount : Nat
  reserved : Nat
  tenants : List (Nat × TenantEntry)
  hosts : List HostEntry
  deriving DecidableEq, Repr

/-- A CM connection request (R278, R282, R284; Table 11.9). `optionsOk` says every option lies in Table 11.5. -/
structure CmReq where
  frontPort : Fin 8
  addr : Nat
  hostQpn : BitVec 24
  optionsOk : Bool
  pmtu : Nat
  startPsn : BitVec 24
  sqEntries : Nat
  responder : Nat
  ackT : Nat
  retry : Nat
  rnrRetry : Nat
  qid : Nat
  deriving DecidableEq, Repr

/-- The transport fields of an inbound RoCEv2 packet (R277, R282, R287, R296). -/
structure PktHdr where
  qpn : BitVec 24
  psn : BitVec 24
  pkeyOk : Bool
  icrcOk : Bool
  addrOk : Bool
  ackReq : Bool
  ce : Bool
  deriving DecidableEq, Repr

/-- Syndromes of a NAK from the host (R294, R295). -/
inductive NakKind where
  | sequenceError | remoteAccess | remoteOperational | invalidRequest
  | rnr (timerUs : Nat)
  deriving DecidableEq, Repr

/-! ### Chapters 12 and 13: frames, classification and the switch -/

/-- Port table entry, Table 12.4 (R304). -/
structure ClsPort where
  root : Nat
  treeV : Bool
  malf : Nat
  reserved : Nat
  deriving DecidableEq, Repr

/-- Tree nodes, Table 12.5. -/
inductive ClsNode where
  | cut (width offset child reserved : Nat)
  | leaf (entries : List (Nat × Nat)) (reserved : Nat)
  | badKind
  deriving DecidableEq, Repr

/-- Action entry, Table 12.6. -/
structure ClsAction where
  kind : Nat
  out : Nat
  swclass : Nat
  setclass : Bool
  policer : Nat
  reserved : Nat
  deriving DecidableEq, Repr

/-- Classification section (R304): `rules` are (value, mask); `nodes` are the tree nodes from node 2 × RULES. -/
structure ClsSection where
  version : Nat
  rulesCount : Nat
  nodesCount : Nat
  actionsCount : Nat
  nodeOff : Nat
  reserved : Nat
  ports : List ClsPort
  actions : List ClsAction
  rules : List (BitVec 512 × BitVec 512)
  nodes : List ClsNode
  deriving DecidableEq, Repr

/-- Port entry of section 0x000A, Table 13.2 (R318). -/
structure PortEntry where
  breakout : Nat
  pfc : BitVec 8
  maxFrame : Nat
  trustDscp : Bool
  defClass : Nat
  ctlClass : Nat
  pcpMap : List Nat
  clsPcp : List Nat
  dscpMap : List Nat
  reserved : Nat
  deriving DecidableEq, Repr

/-- Address entry of section 0x000A (R318): KIND 1 MAC, 2 IPv4, 3 IPv6. -/
structure AddrEntry where
  lport : Nat
  kind : Nat
  addr : Nat
  reserved : Nat
  deriving DecidableEq, Repr

/-- Section 0x000A (R318): ports, per-input eligibility masks by class, owned addresses. -/
structure PortMap where
  version : Nat
  addrsCount : Nat
  reserved : Nat
  ports : List PortEntry
  eligible : List (List (BitVec 16))
  addrs : List AddrEntry
  deriving DecidableEq, Repr

/-- Policer entry, Table 13.4 (R334). -/
structure PolicerEntry where
  cir : Nat
  pir : Nat
  cbs : Nat
  pbs : Nat
  overhead : Int
  redDrop : Bool
  enabled : Bool
  reserved : Nat
  deriving DecidableEq, Repr

/-- Drop profile, Table 13.5. -/
structure DropProfile where
  minTh : Nat
  maxTh : Nat
  maxp : Nat
  w : Nat
  reserved : Nat
  deriving DecidableEq, Repr

/-- Queue entry, Table 13.6. -/
structure QueueEntry where
  strict : Bool
  ecn : Bool
  weight : Nat
  green : Nat
  yellow : Nat
  red : Nat
  maxCells : Nat
  shRate : Nat
  shBurst : Nat
  reserved : Nat
  deriving DecidableEq, Repr

/-- QoS section (R334). -/
structure QosSection where
  version : Nat
  storageMask : BitVec 8
  xoffCells : Nat
  xonCells : Nat
  reserved : Nat
  policers : List PolicerEntry
  profiles : List DropProfile
  queues : List QueueEntry
  deriving DecidableEq, Repr

/-- The malformed checks of Table 12.9 that a frame fails. -/
structure Malformed where
  ipv4 : Bool
  ipv6 : Bool
  udp : Bool
  roce : Bool
  deriving DecidableEq, Repr

/-- A frame as a MAC/PCS cell hands it on (R299, R302): its length in bytes from DMAC through FCS (Table 13.1), the outcome of its FCS, and its first
bytes, at most the 128 of the parse window. -/
structure RxFrame where
  len : Nat
  fcsOk : Bool
  head : List (BitVec 8)
  deriving DecidableEq, Repr

/-- What the parser makes of a frame (R302): its length, the outcome of its FCS, the key fields of Table 12.2
other than LPORT, the fragment identification, and what it carries for output 13. -/
structure Frame where
  len : Nat
  fcsOk : Bool
  vlanV : Bool
  pcp : Nat
  vid : Nat
  etype : Nat
  l3 : Nat
  dscp : Nat
  ecn : Nat
  proto : Nat
  frag : Nat
  l4V : Bool
  bthV : Bool
  capV : Bool
  sip : BitVec 128
  dip : BitVec 128
  sport : Nat
  dport : Nat
  bthOpc : Nat
  dqpn : Nat
  pkey : Nat
  capOpc : Nat
  nsid : Nat
  icmpType : Nat
  icmpCode : Nat
  dmac : Nat
  ipId : Nat
  malf : Malformed
  deriving DecidableEq, Repr

/-- What a frame on control output 13 is (R307, Table 12.7). -/
inductive CtlFrame where
  | arp | neighbour | echo | ieee1588 | cm | other
  deriving DecidableEq, Repr

/-! ### Chapters 14 to 16: keys, the pair and bay power -/

/-- A lease message, Table 15.3 (R362). `crcOk` is the outcome of its CRC-32C, `reserved` the number its
reserved fields spell. `rx` is Shroud A when false, Shroud B when true. -/
structure LeaseMsg where
  type : Nat
  slot : Nat
  pstate : Nat
  toPeer : Bool
  withdraw : Bool
  leaseMs : Nat
  fn : Nat
  term : Nat
  seq : Nat
  rclk : Nat
  reach : BitVec 64
  chan : BitVec 64
  reserved : Nat
  crcOk : Bool
  deriving DecidableEq, Repr

/-- A shroud (R369). -/
inductive Shroud where
  | a | b
  deriving DecidableEq, Repr

/-- A feed (R382). -/
inductive Feed where
  | a | b
  deriving DecidableEq, Repr

/-- Bay channel settings, Table 16.4 and Table 16.13 (R389, R390). -/
structure BayCfg where
  gateI : Nat
  ft3 : Bool
  insDelay : Nat
  ilim : Nat
  soa : Nat
  rampTo : Nat
  deriving DecidableEq, Repr

/-- A record shipped from the active to the standby (R370, Table 15.6). -/
inductive ShipRec where
  | journal (jpos : Nat) (type count ns pos lba arg wseq : Nat)
  | stripe (id kind stream roles : Nat) (alt padded : Bool) (wseqMax : Nat) (members : List Loc)
  | highWater (order : Nat)
  | chain (ns chainNo counter : Nat)
  | reservation (q entries tenant : Nat) (held : Bool)
  | stripePlace (stream : Nat) (lba ns : Nat)
  | page (mpn : Nat) (content : Sector)
  | key (slot : Nat) (state mode gen : Nat) (material : BitVec 512)
  deriving DecidableEq, Repr

/-! ### Chapters 17 to 22: management, faults, counters, start-up -/

/-- Module type entry, Table 21.7 (R469, R473). MAKER and PART 0 stand for "all spaces", any. -/
structure ModuleType where
  dies : Nat
  cell : Nat
  ppb : Nat
  epp : Nat
  trMax : Nat
  trSlcMax : Nat
  tprogMax : Nat
  tprogSlcMax : Nat
  tbersMax : Nat
  tsusMax : Nat
  maker : Nat
  part : Nat
  reserved : Nat
  deriving DecidableEq, Repr

/-- Shelf declaration, Table 21.6 (R469). -/
structure ShelfDecl where
  version : Nat
  bays : Nat
  minBays : Nat
  layout : Nat
  typesCount : Nat
  bayMask : BitVec 64
  bayType : List Nat
  reserve : Nat
  sysblk : Nat
  compat : Nat
  leaseMs : Nat
  holderGuard : Nat
  takerGuard : Nat
  durability : Nat
  dramMin : Nat
  strikeWA : Nat
  strikeWB : Nat
  reserved : Nat
  types : List ModuleType
  deriving DecidableEq, Repr

/-- Section 0x000E (R450): one routing byte per source 0x000 to 0xEFF, listed as (source, queue) when enabled. -/
structure RouteSection where
  version : Nat
  reserved : Nat
  routes : List (Nat × Nat)
  deriving DecidableEq, Repr

/-- Section 0x000F (R456): the user-mapping mask and the non-zero selectors as (counter, selector). -/
structure PmcSection where
  version : Nat
  userMask : BitVec 16
  reserved : Nat
  selectors : List (Nat × BitVec 32)
  deriving DecidableEq, Repr

/-- A rig image (R34, Tables 2.6 to 2.8): the header fields, the section table with the outcome of each
digest, and the sections' contents decoded by their owning chapters' formats. -/
structure RigImage where
  magic : BitVec 32
  fmtMajor : Nat
  fmtMinor : Nat
  hdrSize : Nat
  secCount : Nat
  signed : Bool
  format : Bool
  flagsReserved : Nat
  imgLen : Nat
  fetched : Nat
  zenuxVer : BitVec 32
  fwIf : BitVec 32
  stepping : Nat
  secEntSize : Nat
  secTblOff : Nat
  rigGen : Nat
  shelfId : BitVec 128
  sigOff : Nat
  sigLen : Nat
  reserved : Nat
  hdrDigestOk : Bool
  secTblDigestOk : Bool
  sections : List SectionEntry
  sig : Option SigBlock
  decl : ShelfDecl
  slotTables : List SlotTable
  lanes : List (Nat × LaneEntry)
  spill : List Nat
  placement : Placement
  ns : NsTable
  tenants : TenantTable
  cls : ClsSection
  qos : QosSection
  ports : PortMap
  credits : List CreditEntry
  streams : StreamTable
  settings : SettingSection
  routes : Option RouteSection
  pmc : Option PmcSection
  deriving DecidableEq, Repr

/-- What start-up step 9 reads from a shelf root (R471). -/
structure RootFound where
  shelfId : BitVec 128
  rigGen : Nat
  number : Nat
  copies : Nat
  deriving DecidableEq, Repr

/-- What the environment shows at the end of a start-up step of Table 21.2 (R464). -/
inductive StepEnv where
  | plain
  | dram (gib : Nat)
  | selfTest (fails : List (Nat × Nat))
  | declCopy (ok : Bool)
  | shelf (roots : List RootFound) (image : Option RigImage) (imageReadable : Bool)
  deriving DecidableEq, Repr

/-- Board and fuse facts of a controller (R463, R419, Table 22.10): slot 1 A or 2 B, chip identity, whether
the debug port is enabled, the DRAM fitted, revoked firmware keys and blown SVN fuses. -/
structure Board where
  slot : Nat
  chipId : BitVec 64
  debugPort : Bool
  dramGib : Nat
  revoked : List Nat
  svnFuses : Nat
  deriving DecidableEq, Repr

/-- Firmware image header, Table 21.4, with the outcomes of its digest and signature (R466). -/
structure FwImage where
  magicOk : Bool
  fmt : Nat
  fwIf : BitVec 32
  svn : Nat
  raiseSvn : Bool
  build : BitVec 64
  length : Nat
  stepping : Nat
  digestOk : Bool
  keyId : Nat
  sigOk : Bool
  reserved : Nat
  deriving DecidableEq, Repr

/-- Causes of a chip reset (Table 21.1). -/
inductive ResetCause where
  | chipReset | fwActivate | fStop
  deriving DecidableEq, Repr

/-- Outcome of the bulk transfer of a mailbox command (R412, R414, R424). -/
inductive Dma where
  | ok
  | poisoned
  | timedOut
  | badList (first : Nat)
  | badSum
  deriving DecidableEq, Repr

/-- A mailbox command's header, Table 18.3 (R422 to R424), with what checking its parameters' form and
fetching its bulk data gave. `plenOk` says PLEN is the sum of the parameter sizes; `reserved` is the offset
of a non-zero reserved field, if any. -/
structure MbxHdr where
  mbx : Fin 64
  list : Bool
  sig : Option SigBlock
  plenOk : Bool
  reserved : Option Nat
  dptr : Nat
  dlen : Nat
  dma : Dma
  deriving DecidableEq, Repr

/-- Where a command named in a row is held: the head capsule of a queue pair, or an order number. -/
inductive CmdRef where
  | qp (q : Fin 16384)
  | ord (n : Nat)
  deriving DecidableEq, Repr

/-- A Translation Cache range operation's fields, Table 5.8. -/
structure RangeOp where
  byNs : Bool
  unlock : Bool
  ns : Nat
  lba : Nat
  len : Nat
  deriving DecidableEq, Repr

/-- Purposes of a controller's read of host memory (R400). -/
inductive RegClient where
  | host | debug | firmware
  deriving DecidableEq, Repr

/-- Key of a fragment table entry (R313). -/
structure FragKey where
  sip : BitVec 128
  dip : BitVec 128
  ipId : Nat
  proto : Nat
  deriving DecidableEq, Repr

/-- Why a hold-up test starts (R386). -/
inductive HoldTest where
  | startUp | daily
  deriving DecidableEq, Repr

/-- A happening that a counter may select (R451, R453): the cell's unit, the event, the value it carries, the
tenant concerned, and what a sample would capture (Table 20.6). -/
structure Happening where
  unit : Nat
  event : Nat
  value : Nat
  tenant : Option Nat
  pc : BitVec 64
  core : Nat
  deriving DecidableEq, Repr

/-- A completion forwarded across the peer link (R271), with a read's data. -/
structure FwdCqe where
  sct : Nat
  sc : Nat
  dnr : Bool
  dw0 : Nat
  data : List Sector
  deriving DecidableEq, Repr

/-- A forwarded command (R271): sent by the standby for queue pair `q`, or arriving at the active, with the
peer's handle, the tenant, the Ledger chain bound to its queue, if any, and the data of a write or compare, which the
standby's cells fetched. -/
inductive FwdCmd where
  | send (q : Fin 16384)
  | arrive (handle tenant : Nat) (chain : Option (Nat × Nat)) (cap : Capsule) (data : List Sector) (delay : Fin 3)
  deriving DecidableEq, Repr

/-- An effect received through a peer mailbox (R419). -/
inductive PeerEffect where
  | modClear (bay : Fin 48)
  | keyDestroy (tenant : Nat) (slot : Nat)
  deriving DecidableEq, Repr

/-- A management OPEN datagram (R420): the key index and the outcome of its signature. -/
structure OpenMsg where
  keyIndex : Nat
  sigOk : Bool
  deriving DecidableEq, Repr

/-- The commands (one row of the opcode table each). -/
inductive Instr where
  /-- R463: Auxiliary 12 V enters its window; the BPD starts, fuses are read and start-up begins at step 1. -/
  | auxPowerOn (board : Board)
  /-- R463: A feed selector leaves DOWN and the main die is powered up from step 3 of start-up. -/
  | mainDiePowerUp
  /-- R463: A chip reset restarts the main die at step 4, keeping the BPD and the Crowsnest history. -/
  | chipReset (cause : ResetCause)
  /-- R464: A start-up step of Table 21.2 ends and the next step begins, including replay, joining and the checks of the declared environment. -/
  | startUpStepEnd (env : StepEnv)
  /-- R26: A frame boundary advances the frame number, restores lane budgets and moves the intake pointer. -/
  | frameBoundary
  /-- R27: Each sequencer plays its slot table entry for the slot, granting resources to the work classes and lanes named. -/
  | sequencerSlot (slot : Fin 16384)
  /-- R58: At the start of a slot intake takes at most 8 visible heads, oldest first slot first, and gives each the next order number. -/
  | intakeSlot (slot : Fin 16384)
  /-- R31: A taken command is admitted into its lane's service against the lane's budget, possibly incurring debt. -/
  | admission (ord : Nat)
  /-- R59: A command waiting behind an earlier overlapping command proceeds once that command has taken effect or its data has arrived. -/
  | overlapWaitEnd (ord : Nat)
  /-- R322: Switch matching runs request, grant and accept for a cell time and moves the matched cells. -/
  | switchMatch (cell : Fin 7680)
  /-- R299: A front port MAC/PCS cell receives a frame, checks FCS and size, and hands it to a parser cell. -/
  | frontFrameRx (port : Fin 8) (sub : Fin 4) (f : RxFrame)
  /-- R305: A parsed frame's key is walked through its logical port's tree to choose an action. -/
  | classify (port : Fin 8) (pseq : Nat)
  /-- R300: The reorder cell releases a classified frame to the switch in port sequence order. -/
  | reorderRelease (port : Fin 8)
  /-- R313: A fragment table entry expires 2 ms after its first fragment arrived. -/
  | fragmentEntryExpiry (key : FragKey)
  /-- R315: A parked later fragment is released with the default action after 500 µs. -/
  | fragmentParkTimeout (port : Fin 8) (pseq : Nat)
  /-- R307: Masthead firmware handles a frame on control output 13: ARP, neighbour discovery, echo, IEEE 1588 or connection management. -/
  | controlPortFrame (port : Fin 8) (kind : CtlFrame)
  /-- R309: An affected port advances through the hold, drain, root cache reload and release of a rule update. -/
  | ruleUpdatePortStep (lport : Fin 32)
  /-- R333: A received PFC frame pauses the classes mapped to the paused priorities on that sub-port. -/
  | pfcFrameRx (port : Fin 8) (sub : Fin 4) (prios : BitVec 8) (quanta : Nat)
  /-- R333: A PFC pause expires after the quanta it gave. -/
  | pfcPauseExpiry (port : Fin 8) (sub : Fin 4) (prio : Fin 8)
  /-- R333: A sub-port in XOFF repeats its XOFF every 20 µs, or sends XON when held cells fall to XON_CELLS. -/
  | pfcXoffRepeat (port : Fin 8) (sub : Fin 4) (prio : Fin 8)
  /-- R443: A front port loses or regains link or FEC and retrains, raising an event. -/
  | frontLinkChange (port : Fin 8) (up : Bool)
  /-- R282: An RDMA CM connection request is accepted into a queue pair in CONNECTING or rejected. -/
  | cmRequest (req : CmReq)
  /-- R283: The ready-to-use message or a valid packet moves a CONNECTING queue pair to READY. -/
  | cmReadyToUse (q : Fin 16384)
  /-- R283: A CM reject from the host moves a CONNECTING queue pair to TIMEWAIT. -/
  | cmRejectRx (q : Fin 16384)
  /-- R283: A CM disconnect request or reply moves a READY queue pair to FLUSHING. -/
  | cmDisconnect (q : Fin 16384)
  /-- R283: A queue pair in CONNECTING for 1 s without ready-to-use goes to TIMEWAIT. -/
  | connectingTimeout (q : Fin 16384)
  /-- R283: A queue pair in TIMEWAIT for 100 ms becomes FREE. -/
  | timewaitExpiry (q : Fin 16384)
  /-- R283: A FLUSHING queue pair whose ordered commands have all ended goes to TIMEWAIT. -/
  | qpFlushComplete (q : Fin 16384)
  /-- R287: An inbound SEND Only capsule is accepted, held, discarded or answered as a duplicate by its PSN. -/
  | rdmaSendRx (h : PktHdr) (c : Capsule)
  /-- R294: An ACK from the host frees acknowledged send entries and updates the host's credit count. -/
  | rdmaAckRx (h : PktHdr) (msn : Nat) (code : Nat)
  /-- R295: A NAK from the host causes a go-back-N resend, an RNR wait, or FLUSHING. -/
  | rdmaNakRx (h : PktHdr) (kind : NakKind)
  /-- R290: An RDMA READ response packet is placed by PSN offset into staging slots or dropped as late. -/
  | rdmaReadResponseRx (h : PktHdr) (bytes : Nat) (payload : Sector)
  /-- R282: A packet with an opcode not accepted is answered with NAK Invalid Request and the queue pair enters FLUSHING. -/
  | rdmaOpcodeRefused (h : PktHdr) (opcode : Nat)
  /-- R297: A received CNP lowers the queue pair's transmit rate limiter. -/
  | cnpRx (h : PktHdr)
  /-- R284: A received capsule moves from its buffer to intake once its lane has a staging credit. -/
  | capsuleToIntake (q : Fin 16384) (delay : Fin 3)
  /-- R289: An RDMA READ request for a write's data is issued once window, request count and staging slots allow. -/
  | rdmaReadIssue (q : Fin 16384)
  /-- R293: Read data is written to the host by RDMA WRITE and the completion sent by SEND Only. -/
  | readDataToHost (ord : Nat)
  /-- R287: An expected PSN unfilled 32 µs after a packet was held ahead of it causes a NAK Sequence Error. -/
  | rdmaRequestGapTimer (q : Fin 16384)
  /-- R291: A response gap lasting 32 µs causes a re-issue of the RDMA READ request from its first missing PSN. -/
  | rdmaResponseGapTimer (q : Fin 16384)
  /-- R295: The ACK timeout runs out, causing a resend round or a request re-issue and counting a retry. -/
  | rdmaAckTimeout (q : Fin 16384)
  /-- R287: The ACK for the highest accepted PSN is sent within 2 µs of acceptance. -/
  | rdmaAckCoalesceTimer (q : Fin 16384)
  /-- R294: After an RNR NAK the cell resends when the named timer expires. -/
  | rdmaRnrRetryTimer (q : Fin 16384)
  /-- R297: Each 55 µs without a CNP the limiter decays alpha and raises its rates. -/
  | rateIncreaseTimer (q : Fin 16384)
  /-- R298: A 10 ms window ends; a tenant held below TX_CIR with limited work raises an event. -/
  | txCirWindow (tenant : Fin 1024) (sent : Nat) (held : Bool)
  /-- R258: An NVMe Read returns the sectors at its order number, through the cache, pool, flash or reconstruction. -/
  | read (ord : Nat)
  /-- R257: An NVMe Write is checked for its namespace type and fetched, placed, mirrored and acknowledged. -/
  | write (ord : Nat)
  /-- R90: A Flush closes open stripes holding earlier sectors of the namespace and completes when they are committed. -/
  | flush (ord : Nat)
  /-- R258: A Write Zeroes sets its range to zeroes or deallocates it at its order number. -/
  | writeZeroes (ord : Nat)
  /-- R258: A Compare reads its range at its order number and completes with success or Compare Failure. -/
  | compare (ord : Nat)
  /-- R258: A Dataset Management Deallocate unmaps its ranges at its order number, subject to retention. -/
  | datasetManagement (ord : Nat)
  /-- R249: Identify returns the controller, namespace or namespace list data. -/
  | identify (q : Fin 16384)
  /-- R276: Get Log Page returns a standard or vendor page assembled at its order number. -/
  | getLogPage (ref : CmdRef)
  /-- R259: Set Features changes a supported feature or refuses a change that is not allowed. -/
  | setFeatures (q : Fin 16384)
  /-- R259: Get Features reports a supported feature value. -/
  | getFeatures (q : Fin 16384)
  /-- R270: An Asynchronous Event Request is held until an ANA change or SMART event completes it. -/
  | asynchronousEventRequest (q : Fin 16384)
  /-- R252: A Keep Alive restarts the NVMe controller's KATO timer. -/
  | keepAlive (q : Fin 16384)
  /-- R268: Abort completes successfully reporting not aborted and changes nothing. -/
  | abort (q : Fin 16384)
  /-- R250: A Fabrics Connect creates an admin or I/O queue after the limits are reserved with the active. -/
  | connect (q : Fin 16384)
  /-- R248: Property Get returns a controller property. -/
  | propertyGet (q : Fin 16384)
  /-- R269: Property Set writes a controller property; clearing CC.EN tears down the I/O queues. -/
  | propertySet (q : Fin 16384)
  /-- R269: CSTS.RDY clears when the last ordered command of a controller with CC.EN cleared has ended. -/
  | ccEnClearComplete (ctl : Fin 4096)
  /-- R269: A Fabrics Disconnect deletes the queue, discarding unordered commands and the completions of ordered ones. -/
  | disconnect (q : Fin 16384)
  /-- R262: LEDGER BIND binds an I/O queue to a ledger chain and returns the chain's next counter. -/
  | ledgerBind (ord : Nat)
  /-- R248: A command, feature or log page that the controller does not support completes with the prescribed error. -/
  | nvmeUnsupportedOpcode (q : Fin 16384)
  /-- R252: No admin command within KATO tears down the NVMe controller. -/
  | keepAliveTimeout (ctl : Fin 4096)
  /-- R251: The active decides a Connect's reservation of submission queue entries and queue pairs in arrival order. -/
  | queueReservation (handle : Nat) (tenant : Nat) (entries : Nat)
  /-- R271: The standby forwards a received command to the active through intake input 16. -/
  | forwardCommand (f : FwdCmd)
  /-- R271: The standby receives the active's completion and returns it on its own queue. -/
  | forwardCompletionRx (handle : Nat) (cqe : FwdCqe)
  /-- R271: A recall of a forwarded command is evaluated after intake and discards it if not yet taken. -/
  | forwardRecall (handle : Nat)
  /-- R85: A stream cell places a whole command's enciphered sectors into its open stripe, waiting on the dirty budget if needed. -/
  | writePlace (ord : Nat) (unit : Nat)
  /-- R86: The peer's mirror confirmation arrives, and the write is acknowledged once all conditions hold. -/
  | mirrorConfirm (ord : Nat)
  /-- R381: No peer confirmation 100 µs after a write's last sector is placed; the write proceeds as in SINGLE. -/
  | mirrorTimeout (ord : Nat)
  /-- R370: The standby receives a mirrored sector into its peer mirror buffer. -/
  | mirrorDataRx (stream : Fin 64) (payload : Payload)
  /-- R370: The standby applies a shipped journal or stripe journal record to its warm state. -/
  | logShipRecordRx (r : ShipRec)
  /-- R89: An open stripe's DEADLINE expires and the stripe closes with padding. -/
  | stripeDeadline (stream : Fin 64)
  /-- R157: A stripe journal module-copy page is closed 20 µs after its first record and programmed. -/
  | journalPageTimer
  /-- R229: A Sheet RESPONSE frame completes an operation with its status and the controller handles it. -/
  | sheetResponse (bay : Fin 48) (tag : Nat) (code : Nat) (res : SheetResult)
  /-- R93: A committed write's map update is applied after earlier overlapping writes and a journal record appended. -/
  | mapUpdateApply (stripe : Nat) (wseq : Nat)
  /-- R76: A map page fetch from flash completes, fills a pool slot and serves the waiting lookups. -/
  | mapFetchComplete (mpn : Nat)
  /-- R188: An LDPC cell finishes a decode, reporting success, corrected bits and level imbalance. -/
  | ldpcDecodeDone (job : Nat) (d : Decode)
  /-- R195: A pending probe repeats a capped host read with further retry entries in the patrol lane. -/
  | probeIssue
  /-- R115: A Translation Cache fill installs its line and serves the lookups parked on its miss entry. -/
  | tcFillComplete (la : Nat)
  /-- R120: A dirty line is written back to its pool slot 64 frames after it became dirty. -/
  | tcWritebackTimer
  /-- R126: A firmware write of TC_LOCK_WAYS starts locking or unlocking ways. -/
  | tcLockWaysWrite (value : BitVec 32)
  /-- R126: A lock-ways change completes after writing back and invalidating the newly locked ways. -/
  | tcLockChangeDone
  /-- R128: A firmware write of TC_WAY_PWR requests power-down or power-up of a way group. -/
  | tcWayPwrWrite (value : BitVec 32)
  /-- R128: A way group finishes cleaning and is powered down. -/
  | tcGroupPowerDownDone (g : Fin 4)
  /-- R129: A way group comes up invalid and becomes eligible. -/
  | tcGroupPowerUpDone (g : Fin 4)
  /-- R130: Range operation 1 drops the valid lines of a range after writing back dirty ones. -/
  | tcInvalidate (op : RangeOp)
  /-- R130: Range operation 2 writes back dirty lines of a range and keeps them. -/
  | tcClean (op : RangeOp)
  /-- R130: Range operation 3 writes back and drops the lines of a range. -/
  | tcCleanInvalidate (op : RangeOp)
  /-- R130: Range operation 4 fills every absent line of a range as a streaming fill. -/
  | tcPreload (op : RangeOp)
  /-- R130: Range operation 5 fills every line of a range into locked ways and locks it. -/
  | tcPreloadLock (op : RangeOp)
  /-- R131: A range operation completes, setting DONE or ERROR and its result counts. -/
  | tcRangeDone
  /-- R98: Reclaim chooses its next victim unit by score, lowest validity, or wear gap. -/
  | reclaimVictimSelect
  /-- R99: A valid sector is read and written to a reclaim stream, its update applied only if the entry still names it. -/
  | relocation (loc : Loc)
  /-- R100: A victim is erased once a durable checkpoint passes the record that emptied it. -/
  | reclaimErase (unit : Nat)
  /-- R102: A checkpoint starts, at least once a second or on reclaim, drain or replay triggers. -/
  | checkpointStart
  /-- R104: The Strike trigger stops intake and the lease holder writes acknowledged dirty data into strike groups. -/
  | strikeTrigger
  /-- R168: A batch of repair strips advances to its next step once the directory pages of the previous step are durable. -/
  | repairBatchAdvance
  /-- R170: Rebuild processes the stripe under its cursor, repairing lost roles or relocating an unrecoverable stripe. -/
  | rebuildStep
  /-- R169: A stripe rebuild held for lack of a target or stripe is retried once a second. -/
  | rebuildRetryTimer
  /-- R156: A lost stripe journal or root copy finishes being placed on a JALT bay. -/
  | journalCopyPlaced (bay : Fin 48)
  /-- R174: The sweep reads the next map page and repoints or poisons entries in the loss set. -/
  | sweepStep
  /-- R179: The patrol issues its frame's codeword reads in cycle order. -/
  | patrolIssue
  /-- R181: A queued erase block is rewritten as repair strips while rebuild is IDLE or SWEEP. -/
  | rewriteIssue
  /-- R197: Once a second each module's temperature is read and its age clock advanced. -/
  | ageClockTick (bay : Fin 48) (reading : Option Int)
  /-- R198: The hourly scan queues blocks near retention age for rewrite. -/
  | blockRecordScan
  /-- R201: Once a second a wear gap above 5 % of PE_RATED takes the least worn programmed unit as victim. -/
  | wearCheck
  /-- R210: Once a minute the controller junction histogram is updated. -/
  | junctionSample
  /-- R213: A Sheet port training attempt starts on each lane. -/
  | trainingAttempt (bay : Fin 48)
  /-- R213: Training ends with the lanes aligned and the port enters INIT. -/
  | lanesAligned (bay : Fin 48) (lane0 : Bool) (lane1 : Bool)
  /-- R213: A training attempt or INIT exchange exceeds its time and fails. -/
  | trainingTimeout (bay : Fin 48)
  /-- R221: Each end sends an INIT frame every 10 µs until the port is up. -/
  | sheetInitSendTimer (bay : Fin 48)
  /-- R221: A received INIT frame is checked, SEEN is set, and the port comes up or is refused. -/
  | sheetInitRx (bay : Fin 48) (i : SheetInit)
  /-- R217: A sequenced sheet frame is accepted in order or discarded as corrupt, ahead or duplicate. -/
  | sheetFrameRx (bay : Fin 48) (h : SheetHdr)
  /-- R225: A DATA frame carrying a read codeword reaches the Channel block for decoding. -/
  | sheetDataRx (bay : Fin 48) (tag : Nat) (index : Fin 16) (payload : Payload)
  /-- R217: An ACK frame cumulatively frees replay buffer entries. -/
  | sheetAckRx (bay : Fin 48) (ack : Nat)
  /-- R218: A NAK frame causes a replay of every unacknowledged frame from the oldest. -/
  | sheetNakRx (bay : Fin 48) (ack : Nat)
  /-- R220: A CREDIT frame returns credits for sequenced channels. -/
  | sheetCreditRx (bay : Fin 48) (cmd : Nat) (data : Nat)
  /-- R217: An end that accepted a frame and sent nothing for 0.5 µs sends an ACK. -/
  | sheetAckTimer (bay : Fin 48)
  /-- R218: 4 µs after the oldest unacknowledged frame was sent, the sender replays; after 8 replays the frame fails. -/
  | sheetReplayTimer (bay : Fin 48)
  /-- R225: The module performs a multi-plane array read and returns raw codewords, suspending a program if PRIO. -/
  | sheetRead (bay : Fin 48) (c : SheetCmd) (nand : NandResult)
  /-- R226: The module programs a page set from 16 data frames if the epoch and owner port match. -/
  | sheetProgram (bay : Fin 48) (c : SheetCmd) (frames : List Payload) (nand : NandResult)
  /-- R227: The module erases a block on all planes if the epoch and owner port match. -/
  | sheetErase (bay : Fin 48) (c : SheetCmd) (nand : NandResult)
  /-- R228: The module returns its status or a tag state. -/
  | sheetStatus (bay : Fin 48) (c : SheetCmd)
  /-- R228: The module returns a parameter value. -/
  | getParam (bay : Fin 48) (c : SheetCmd)
  /-- R228: The module sets a parameter value. -/
  | setParam (bay : Fin 48) (c : SheetCmd)
  /-- R228: The module returns a descriptor page. -/
  | descRead (bay : Fin 48) (c : SheetCmd)
  /-- R228: The module returns its NAND and bridge temperatures. -/
  | temp (bay : Fin 48) (c : SheetCmd)
  /-- R227: The module aborts every operation on a die. -/
  | dieReset (bay : Fin 48) (c : SheetCmd)
  /-- R228: The module enters active, idle or quiesced power state. -/
  | powerState (bay : Fin 48) (c : SheetCmd)
  /-- R233: The module raises its epoch and owner, or answers OK or EPOCH_STALE. -/
  | fence (bay : Fin 48) (c : SheetCmd)
  /-- R238: A Sheet operation times out; reads go to reconstruction, programs and erases get a die reset. -/
  | sheetOpTimeout (bay : Fin 48) (tag : Nat)
  /-- R236: A FENCE unanswered within TBERS_MAX + 1 ms retires its module. -/
  | fenceTimeout (bay : Fin 48)
  /-- R231: A tag found in the array after re-initialisation is queried again after 1 ms. -/
  | tagRequeryTimer (bay : Fin 48) (tag : Nat)
  /-- R235: Every 100 ms each controller sends STATUS on each port whose module is READY or beyond. -/
  | sheetStatusPoll
  /-- R239: Once a second the module receiver's FEC counts are read through LANE_ERR. -/
  | laneErrPoll
  /-- R242: A module UNREACHABLE for 1 s is retired. -/
  | unreachableTimeout (bay : Fin 48)
  /-- R388: A bay's debounced presence asserts or deasserts, changing module, port and channel states. -/
  | presenceChange (bay : Fin 48) (present : Option ModuleDesc)
  /-- R382: A feed voltage leaves or re-enters its window. -/
  | feedWindowChange (f : Feed) (inWindow : Bool) (decivolts : Nat)
  /-- R382: A feed out of window for 5 µs is lost and the selector reacts. -/
  | feedLost (f : Feed)
  /-- R382: A feed in window for 10 ms becomes good. -/
  | feedGood (f : Feed)
  /-- R384: The feed path being left is confirmed off and the other path is driven. -/
  | pathConfirmedOff
  /-- R384: A path not confirmed off within 2 µs sets STUCK and the selector enters HOLDUP. -/
  | pathConfirmTimeout
  /-- R385: Feed A good for 1 s while in ON_B starts the switch back to feed A. -/
  | feedReturnTimer
  /-- R397: A feed good for 1 s in DOWN returns the selector to INIT and start-up. -/
  | downRestartTimer
  /-- R396: The controller not running Strike turns off 12 ms after entering HOLDUP or at HOLD_MIN. -/
  | holdupPeerTimer
  /-- R397: The bus falls below HOLD_MIN; all channels and regulators turn off and the selector enters DOWN. -/
  | busBelowHoldMin
  /-- R386: A hold-up test starts at start-up, daily or on command, turning the selected path off. -/
  | holdupTestStart (why : HoldTest)
  /-- R386: A hold-up test ends after 200 µs or 0.5 V of droop and computes the hold time. -/
  | holdupTestEnd (milliamps : Nat) (v0Mv : Nat) (droopMv : Nat) (micros : Nat)
  /-- R388: A bay channel's insertion delay ends with the bus in window and the channel starts ramping. -/
  | insertionDelayExpiry (bay : Fin 48)
  /-- R389: A ramping channel's output reaches the bus and it enters ON. -/
  | channelPowerGood (bay : Fin 48)
  /-- R389: The fast-trip comparator fires and the channel trips. -/
  | fastTrip (bay : Fin 48)
  /-- R389: The SOA timer runs out while current limiting and the channel trips. -/
  | soaTimeout (bay : Fin 48)
  /-- R391: No power good within the ramp timeout and the channel trips. -/
  | rampTimeout (bay : Fin 48)
  /-- R389: A channel's power good is lost for 100 µs while ON and it trips. -/
  | pgLost (bay : Fin 48)
  /-- R391: A tripped channel's 1 s cool-down ends in LATCHED or WAIT_INSERT. -/
  | cooldownExpiry (bay : Fin 48)
  /-- R392: VOUT above 1.5 V for 20 ms while commanded off puts the channel in FET_FAULT. -/
  | fetFaultTimer (bay : Fin 48)
  /-- R479: A rail's power good rises and the next rail is enabled, or reset is released. -/
  | railPowerGood (k : Fin 7)
  /-- R479: A rail's power good does not rise within 4 ms; rails are disabled and PWR_FAULT_N driven low. -/
  | railPgTimeout
  /-- R479: 1 s after a power failure the rail sequence is tried again once. -/
  | railRetryTimer
  /-- R480: A rail's power good falls for 10 µs in service; the main die resets and powers down. -/
  | railPgLost (k : Fin 7)
  /-- R481: REFCLK_SYS has no edge for 20 µs and is handled as a lost rail. -/
  | refclkSysLoss
  /-- R483: The sixteen junction sensors are read every 1 ms. -/
  | junctionSensorRead (values : List Int)
  /-- R484: The junction held past a threshold enters or leaves a throttle level, or trips. -/
  | thermalLevelChange
  /-- R364: The holder sends a RENEW on both shrouds every 8 ms. -/
  | renewTimer
  /-- R364: A non-holder receives a valid RENEW and answers with GRANT. -/
  | renewRx (sh : Shroud) (m : LeaseMsg)
  /-- R364: The holder receives the first GRANT for a RENEW and extends its expiry. -/
  | grantRx (sh : Shroud) (m : LeaseMsg)
  /-- R367: A RELEASE from the holder lets the receiver take, or WITHDRAW makes the lease self-held. -/
  | releaseRx (sh : Shroud) (m : LeaseMsg)
  /-- R360: A HELLO from a peer in INIT is heard for the cold take decision. -/
  | helloRx (sh : Shroud) (m : LeaseMsg)
  /-- R364: No GRANT by expiry − HOLDER_GUARD; the holder stops acting and enters LAPSED. -/
  | leaseHolderStop
  /-- R365: No valid RENEW by the last one + LEASE_MS + TAKER_GUARD; the controller takes the lease. -/
  | leaseTakeTimer
  /-- R373: In INIT with no RENEW for 2 × LEASE_MS the controller makes a cold takeover. -/
  | coldTakeTimer
  /-- R371: A takeover advances through fencing, journal reading, candidate application, Strike arming and opening. -/
  | takeoverStep
  /-- R375: A LAPSED controller probes the modules and retakes the lease or joins. -/
  | lapsedProbe
  /-- R369: A shroud with no valid message for 24 ms is lost. -/
  | shroudLossTimer (sh : Shroud)
  /-- R443: A peer link lane group loses lock and, after three retrains, goes down. -/
  | peerLinkGroupLoss (g : Fin 2)
  /-- R381: A joining controller finishes resynchronisation and enters STANDBY. -/
  | resyncComplete
  /-- R347: A controller without a shelf key receives it from its peer by authenticated key exchange. -/
  | shelfKeyTransfer (certOk : Bool) (key : BitVec 256)
  /-- R377: The periodic swap interval runs out and a planned swap is started or postponed. -/
  | periodicSwapTimer
  /-- R378: The standby reaching more bays for 100 ms starts a planned swap. -/
  | reachSwapTimer
  /-- R41: A DRAINING function completes its commands, stripes and checkpoint and becomes STOPPED or returns to RUNNING. -/
  | drainComplete
  /-- R46: Once every admitted write is acknowledged the giving controller sends RELEASE with TO_PEER and enters GIVING. -/
  | swapRelease
  /-- R344: A DRBG instance reseeds from the TRNG after 2^16 requests or 100 ms. -/
  | drbgReseed (i : Fin 4) (healthy : Bool)
  /-- R344: No DRBG output for 10 ms fences the Storage region. -/
  | drbgStallTimer
  /-- R355: A retention index head entry is dropped when its sectors expire. -/
  | retentionExpiry (ns : Fin 4096)
  /-- R359: A seal's digest is finished and the signed record returned. -/
  | sealDigestDone (m : Fin 64) (digest : BitVec 384) (bad : Option Nat)
  /-- R15: A cell detects a fault and passes a fault word to its block's concentrator. -/
  | faultRaise (word : BitVec 64)
  /-- R439: A concentrator takes a fault word, merges, handles or passes it upward. -/
  | faultConcentratorTake (unit : Nat)
  /-- R19: 100 ms after an F stop the BPD applies a chip reset, unless it is the third stop in an hour. -/
  | fStopResetTimer
  /-- R449: The handling of a U or X word ends and its event record is raised. -/
  | faultHandlingEnd (unit : Nat) (completed : Bool)
  /-- R21: Fault words held by the BPD pass to the Crowsnest once the BPD interface runs. -/
  | bpdWordsDelivered
  /-- R441: Firmware writes CWN_ACK to close an M record. -/
  | cwnAckWrite (seq : Nat)
  /-- R410: A host write of EVQ_HEAD consumes entries and rearms the queue, or sets HEAD_ERR. -/
  | evqHeadWrite (q : Fin 64) (value : BitVec 32)
  /-- R411: The oldest unsignalled record waits TIME_TH and the queue sends its vector. -/
  | evqTimeThreshold (q : Fin 64)
  /-- R411: Unmasking an MSI-X vector with its pending bit set sends the message. -/
  | msixVectorUnmask (v : Fin 64)
  /-- R451: A selected happening reaches its bank cell and is added to the counter, wrapping and sampling as set. -/
  | counterHappening (h : Happening)
  /-- R459: A host write of PMC_SMP_HEAD consumes samples or is ignored if out of range. -/
  | pmcSmpHeadWrite (bank : Fin 16) (value : BitVec 32)
  /-- R9: A write to a register with no row of its own updates RW or RW1C fields, ignoring reserved bits. -/
  | registerWrite (client : RegClient) (offset : Nat) (wide : Bool) (value : BitVec 64)
  /-- R412: A PCIe completion for a controller read is received, with poisoned data handled by purpose. -/
  | pcieCompletionRx (tag : Fin 1024) (poisoned : Bool)
  /-- R414: A request times out; its command fails and its tag is quarantined. -/
  | pcieCompletionTimeout (tag : Fin 1024)
  /-- R414: A timed-out request's tag becomes usable again after 100 ms. -/
  | tagQuarantineExpiry (tag : Fin 1024)
  /-- R415: Bus Master Enable is cleared; requests stop and DMA-bound work is held. -/
  | busMasterEnableClear
  /-- R415: Bus Master Enable is set again; held records and MSI-X are sent and held commands abort. -/
  | busMasterEnableSet
  /-- R416: An FLR, hot reset, link-down or PERST resets the management function only. -/
  | functionLevelReset
  /-- R420: A management Ethernet OPEN is verified and answered with ACCEPT, creating a session key. -/
  | sessionOpen (m : OpenMsg)
  /-- R421: A CLOSE datagram ends a management session. -/
  | sessionClose (i : Fin 8) (seq : Nat) (tagOk : Bool)
  /-- R421: A session without a valid datagram for 60 s ends. -/
  | sessionTimeout (i : Fin 8)
  /-- R419: A peer mailbox carries out the effect of MOD.CLEAR or KEY.DESTROY received by the peer. -/
  | peerMailboxEffect (m : Fin 64) (e : PeerEffect)
  /-- R425: A command finishes, its response is written and its mailbox becomes DONE with an optional record. -/
  | mailboxCompletion (m : Fin 64)
  /-- R436: A mailbox command with an unlisted opcode completes with INVALID_OPCODE. -/
  | mailboxInvalidOpcode (h : MbxHdr) (opcode : Nat)
  /-- R40: FN.START opens host lanes and moves ARMED to RUNNING. -/
  | fnStart (h : MbxHdr)
  /-- R41: FN.STOP moves ARMED to STOPPED or RUNNING to DRAINING. -/
  | fnStop (h : MbxHdr)
  /-- R43: FN.ARM commits a staged image, formats if asked, and arms the function. -/
  | fnArm (h : MbxHdr) (format : Nat)
  /-- R432: FN.STATUS returns the function state, pair state, frame and order number. -/
  | fnStatus (h : MbxHdr)
  /-- R432: FN.CHIPRESET resets the chip after releasing any lease. -/
  | fnChipreset (h : MbxHdr)
  /-- R414: FN.CPLTO sets the PCIe completion timeout. -/
  | fnCplto (h : MbxHdr) (timeout : Nat)
  /-- R39: RIG.LOAD fetches and checks an image and stages it or refuses it. -/
  | rigLoad (h : MbxHdr) (image : RigImage)
  /-- R39: RIG.VERIFY runs the loader checks without staging. -/
  | rigVerify (h : MbxHdr) (image : RigImage)
  /-- R432: RIG.INFO returns the committed and staged image headers. -/
  | rigInfo (h : MbxHdr)
  /-- R37: RIG.ENROLL permanently enrols a customer rig key. -/
  | rigEnroll (h : MbxHdr) (keyId : BitVec 64) (pubkey : BitVec 776)
  /-- R308: RIG.RULES checks and stages a new classification rule set. -/
  | rigRules (h : MbxHdr) (cls : ClsSection)
  /-- R433: MOD.LIST returns module and port states for both controllers. -/
  | modList (h : MbxHdr)
  /-- R433: MOD.DESC returns a module descriptor page. -/
  | modDesc (h : MbxHdr) (bay : Nat) (page : Nat)
  /-- R433: MOD.STATUS returns a module's status. -/
  | modStatus (h : MbxHdr) (bay : Nat)
  /-- R433: MOD.RETIRE retires and latches a module. -/
  | modRetire (h : MbxHdr) (bay : Nat)
  /-- R243: MOD.CLEAR clears a bay's retirements on both controllers. -/
  | modClear (h : MbxHdr) (bay : Nat)
  /-- R433: NS.LIST returns the namespace table in force. -/
  | nsList (h : MbxHdr)
  /-- R433: NS.READ reads sectors to management host memory at its order number. -/
  | nsRead (h : MbxHdr) (ns : Nat) (lba : Nat) (count : Nat)
  /-- R433: NS.WRITE writes sectors from management host memory, marking poisoned ones. -/
  | nsWrite (h : MbxHdr) (ns : Nat) (lba : Nat) (count : Nat) (data : List Sector) (poisoned : List Nat)
  /-- R433: NS.DEALLOC deallocates a range at its order number. -/
  | nsDealloc (h : MbxHdr) (ns : Nat) (lba : Nat) (count : Nat)
  /-- R433: NS.CACHE runs a Translation Cache range operation. -/
  | nsCache (h : MbxHdr) (op : Nat) (unlock : Nat) (ns : Nat) (lba : Nat) (len : Nat)
  /-- R346: KEY.GENERATE draws new key material into an empty slot. -/
  | keyGenerate (h : MbxHdr) (tenant : Nat) (slot : Nat) (mode : Nat)
  /-- R346: KEY.IMPORT unwraps imported key material into an empty slot. -/
  | keyImport (h : MbxHdr) (tenant : Nat) (slot : Nat) (mode : Nat) (unwrapped : Option (BitVec 512))
  /-- R346: KEY.DESTROY erases a slot's key on both controllers. -/
  | keyDestroy (h : MbxHdr) (tenant : Nat) (slot : Nat)
  /-- R346: KEY.STATUS returns a key slot record without the wrapped key. -/
  | keyStatus (h : MbxHdr) (tenant : Nat) (slot : Nat)
  /-- R346: KEY.ESCROW returns the shelf key encrypted to a customer key. -/
  | keyEscrow (h : MbxHdr) (cpub : BitVec 776)
  /-- R346: KEY.RESTORE installs an escrowed shelf key. -/
  | keyRestore (h : MbxHdr) (unwrapped : Option (BitVec 256))
  /-- R434: KEY.MGMTENROLL writes or removes an operator key. -/
  | keyMgmtenroll (h : MbxHdr) (index : Nat) (pubkey : BitVec 776)
  /-- R434: HLTH.MODULE returns a module health record. -/
  | hlthModule (h : MbxHdr) (bay : Nat)
  /-- R434: HLTH.PAGE returns the health page over every namespace. -/
  | hlthPage (h : MbxHdr)
  /-- R193: HLTH.CAPS sets the host and background read retry caps. -/
  | hlthCaps (h : MbxHdr) (hostCap : Nat) (bgCap : Nat)
  /-- R211: HLTH.THRESH sets the rewrite and early-warning thresholds. -/
  | hlthThresh (h : MbxHdr) (rewrite : Nat) (thresholds : List Nat)
  /-- R178: HLTH.PATROL sets the patrol cycle. -/
  | hlthPatrol (h : MbxHdr) (days : Nat)
  /-- R407: EVT.QCREATE creates an event queue. -/
  | evtQcreate (h : MbxHdr) (q : Nat) (log2n : Nat) (vector : Nat) (countTh : Nat) (timeTh : Nat) (base : BitVec 64)
  /-- R410: EVT.QDELETE deletes an event queue and drops its unwritten records. -/
  | evtQdelete (h : MbxHdr) (q : Nat)
  /-- R407: EVT.QMOD changes a queue's moderation thresholds. -/
  | evtQmod (h : MbxHdr) (q : Nat) (countTh : Nat) (timeTh : Nat)
  /-- R450: EVT.ROUTE routes a range of event sources to a queue. -/
  | evtRoute (h : MbxHdr) (first : Nat) (last : Nat) (q : Nat) (enable : Nat)
  /-- R446: CWN.HISTORY returns the Crowsnest history. -/
  | cwnHistory (h : MbxHdr)
  /-- R445: CWN.ACK with the trigger's FAULT_SEQ re-arms the history. -/
  | cwnAck (h : MbxHdr) (seq : Nat)
  /-- R454: PMC.PROGRAM writes counter selectors and zeroes the counters. -/
  | pmcProgram (h : MbxHdr) (bank : Nat) (first : Nat) (selectors : List (BitVec 32))
  /-- R461: PMC.USERMAP opens or closes a bank to user mapping. -/
  | pmcUsermap (h : MbxHdr) (bank : Nat) (allow : Nat)
  /-- R459: PMC.SAMPLE chooses or ends a bank's sampling counter. -/
  | pmcSample (h : MbxHdr) (bank : Nat) (counter : Nat) (enable : Nat)
  /-- R395: BAY.ENABLE enables a bay channel. -/
  | bayEnable (h : MbxHdr) (bay : Nat)
  /-- R395: BAY.DISABLE disables a bay channel, quiescing the module first if needed. -/
  | bayDisable (h : MbxHdr) (bay : Nat)
  /-- R390: BAY.CONFIG sets a channel's power settings for its next start. -/
  | bayConfig (h : MbxHdr) (bay : Nat) (gate : Nat) (ft3 : Nat) (insDelay : Nat) (ilim : Nat) (soa : Nat) (rampTo : Nat)
  /-- R394: BAY.TOGGLE clears and sets a channel's enable as one toggle. -/
  | bayToggle (h : MbxHdr) (bay : Nat)
  /-- R386: PWR.HOLDTEST runs a hold-up test and returns its result. -/
  | pwrHoldtest (h : MbxHdr)
  /-- R435: PWR.STATUS returns the BPD registers. -/
  | pwrStatus (h : MbxHdr)
  /-- R435: PAIR.STATUS returns the pair, shroud, lease and reach state. -/
  | pairStatus (h : MbxHdr)
  /-- R376: PAIR.SWAP starts a planned role swap or names the unmet condition. -/
  | pairSwap (h : MbxHdr)
  /-- R377: PAIR.INTERVAL sets the periodic swap interval. -/
  | pairInterval (h : MbxHdr) (hours : Nat)
  /-- R466: FW.DOWNLOAD writes a verified firmware image into the idle slot. -/
  | fwDownload (h : MbxHdr) (slot : Nat) (image : FwImage)
  /-- R467: FW.ACTIVATE sets the ACTIVE slot and optionally restarts. -/
  | fwActivate (h : MbxHdr) (slot : Nat) (restart : Nat)
  /-- R435: FW.INFO returns the running slot and the slots' builds. -/
  | fwInfo (h : MbxHdr)
  /-- R358: SEAL.RANGE takes an order number and hashes a range for a signed seal record. -/
  | sealRange (h : MbxHdr) (ns : Nat) (lba : Nat) (count : Nat)
  /-- R359: SEAL.CERT returns the device certificate. -/
  | sealCert (h : MbxHdr)
  /-- R353: RET.ADVANCE moves the retention clock forward. -/
  | retAdvance (h : MbxHdr) (delta : Nat) (advSeq : Nat)
  /-- R353: RET.CLOCK returns the retention clock. -/
  | retClock (h : MbxHdr)
  /-- R435: DIAG.ECHO returns its parameter bytes. -/
  | diagEcho (h : MbxHdr) (bytes : List (BitVec 8))
  /-- R468: DIAG.SELFTEST runs the selected self-tests. -/
  | diagSelftest (h : MbxHdr) (mask : BitVec 32) (fails : List (Nat × Nat))
  /-- R240: A lane of a Sheet port in UP or UP_1L loses lock; the port enters RETRAIN, and a third loss within 60 s retires the lane. -/
  | sheetLaneLockLoss (bay : Fin 48) (lane : Fin 2)
  /-- R388: The controller bus leaves or re-enters the 11.0 V to 13.6 V start window, restarting insertion delays and ending or restoring hold-up good. -/
  | busStartWindowChange (inWindow : Bool) (above11 : Bool)
  /-- R387: The last hold-up test becomes older than 25 h, so hold-up good ends and Strike is disarmed. -/
  | holdupTestAgeExpiry
  /-- R243: A bay's presence stays absent for 100 ms: it counts as a reseat and a toggle, clearing latched retirements and moving LOST, FOREIGN and RETIRED states to ABSENT or OFF. -/
  | presenceAbsent100ms (bay : Fin 48)
  /-- R392: Auxiliary 12 V leaves its window; the BPD stops, FET_FAULT latches and a third-F-stop or PWR_FAULT_N hold ends. -/
  | auxiliaryPowerRemoved
  /-- R481: REFCLK_SYS runs again for 10 ms after a loss, and the BPD starts the rail sequence of R479. -/
  | refclkSysRestored
  /-- R369: The peer link comes back up, raising RESTORED on ES 0x613 and letting mirror, log shipping and forwarding resume. -/
  | peerLinkRestored (g : Fin 2)
  /-- R344: A DRBG instance that has not reseeded within 1 s of being due stops giving output. -/
  | drbgReseedOverdue (i : Fin 4)
  /-- R421: A COMMAND datagram of an open session is received: a failed tag or an old SEQ is dropped, an equal SEQ resends the last RESPONSE, and a higher SEQ is taken as a GO. -/
  | commandDatagramRx (i : Fin 8) (seq : Nat) (tagOk : Bool)
  /-- R400: A configuration write moves the PCIe function into D3hot, where it behaves as with bus-master enable cleared, or back to D0, keeping every register. -/
  | d3hotTransition (enter : Bool)
  deriving DecidableEq, Repr

end Sys2Proof
end

