-- ==== Sys2Proof/Decode.lean ====
section
/-! DEFINITION. Words: no row of the opcode table gives bits, so no word spells a command of the block. -/

namespace Sys2Proof

/-- The command that a word spells by the opcode table's bits: the table gives none of its rows any bits, so
every word is refused. -/
def decodeTableWord (_nbits _w : Nat) : Option Instr := none

end Sys2Proof
end

