-- ==== Sys2Proof/Config.lean ====
section
/-! DEFINITION. Free values and the published primitives the spec names without restating them: constants with
no body, so that no proof can see what they are. -/

namespace Sys2Proof.Config

/-- The n-th free number (R227 undefined page contents, R327 the Buffer block's LFSR, and other values the
spec leaves open). -/
opaque freeNat : Nat → Nat

/-- The n-th free codeword payload: what an aborted program leaves in a page (R227), raw bit errors. -/
opaque freePayload : Nat → Payload

/-- XTS-AES-256 encipherment of a sector under a 512-bit key and a 128-bit tweak (R339). -/
opaque xtsEncrypt : BitVec 512 → BitVec 128 → Sector → Sector

/-- XTS-AES-256 decipherment (R339). -/
opaque xtsDecrypt : BitVec 512 → BitVec 128 → Sector → Sector

/-- AES-256-GCM encipherment of a sector under a 256-bit key and a 96-bit IV (R340). -/
opaque gcmEncrypt : BitVec 256 → BitVec 96 → Sector → Sector

/-- AES-256-GCM decipherment (R340). -/
opaque gcmDecrypt : BitVec 256 → BitVec 96 → Sector → Sector

/-- The 128-bit GCM tag over the ciphertext with 32 bytes of additional data (R340). -/
opaque gcmTag : BitVec 256 → BitVec 96 → BitVec 256 → Sector → BitVec 128

/-- HMAC-SHA-384 keyed with a 512-bit string over a message of n bytes (R342, Table 14.3). -/
opaque hmac384 : BitVec 512 → (n : Nat) → Nat → BitVec 384

/-- The n-th 512-bit output drawn from the DRBGs (R344, R346). -/
opaque drbgOut : Nat → BitVec 512

/-- ECDSA P-384 signature (r, s) by the device key over a message, for the n-th signature (R359). -/
opaque deviceSign : Nat → Nat → BitVec 384 × BitVec 384

/-- AES-256 key wrap with padding of a slot's 64 bytes of key material under the shelf key (Table 14.3). -/
opaque keyWrap : BitVec 256 → BitVec 512 → BitVec 576

/-- Unwrapping of a slot key record's WRAPPED under the shelf key (Table 14.3). -/
opaque keyUnwrap : BitVec 256 → BitVec 576 → BitVec 512

/-- The shelf key encrypted to a customer key: EPUB of 97 bytes and WRAPPED of 40 bytes (R346). -/
opaque escrowWrap : Nat → BitVec 256 → BitVec 776 → BitVec 776 × BitVec 320

/-- The device certificate's bytes, as sectors of DMA data (R359). -/
opaque deviceCert : BitVec 64 → List Sector

/-- The 448 bytes of LDPC check bits of a payload: the spec states the code's sizes and strength, not the code (R186, R187). -/
opaque ldpcBits : Payload → BitVec 3584

/-- The model, serial and firmware revision strings of Identify Controller (bytes 4 to 71): their text is not
stated beyond the part name, SHELF_ID and firmware version they carry (R249). -/
opaque identStrings : BitVec 128 → BitVec 64 → Nat

/-- A controller property or feature value the spec does not state: CAP and the temperature threshold. -/
opaque nvmeValue : Nat → Nat

/-- Bytes of a descriptor or log page whose content the spec leaves to a published standard without a value. -/
opaque stdPage : Nat → Nat → Nat

/-- Capacity of one instance of a credit pool of Table 3.6 whose capacity the spec does not state, in the pool's unit (R72). -/
opaque poolCapacity : Nat → Nat

end Sys2Proof.Config
end

