-- ==== Sys2Proof/Machine/State.lean ====
section
/-! DEFINITION. The state of the block, chapter by chapter, and the state right after reset. Plain data only. -/

namespace Sys2Proof.Machine

/-! ### Chapter 4: translation and the write log -/

/-- GMD entry, Table 4.3 (R78), with the flash location kept beside the slot number (the pool slot's
descriptor holds it, R78). -/
structure GmdEntry where
  resident : Bool
  dirty : Bool
  empty : Bool
  fetching : Bool
  loc : Loc
  slot : Nat
  deriving DecidableEq, Repr

/-- A slot of the DRAM map-page pool with its descriptor (R78, R79) and its page (Table 4.2). `entries`
lists the entries that are not unmapped; `snap` is the JPOS of the last copy given to the map stream. -/
structure PoolSlot where
  mpn : Nat
  loc : Loc
  pins : Nat
  age : Nat
  jpos : Nat
  snap : Nat
  entries : Tab MapEntry
  deriving DecidableEq, Repr

/-- Map journal record, Table 4.7 (R94). -/
structure JRec where
  type : Nat
  count : Nat
  ns : Nat
  pos : Nat
  lba : Nat
  arg : Nat
  wseq : Nat
  deriving DecidableEq, Repr

/-- A map journal record in the tail or the ring, with its journal position and what its durability
depends on (R93, R94): `stripe` is the stripe it belongs to (0 with `hasStripe` false otherwise). -/
structure JSlot where
  jpos : Nat
  record : JRec
  durable : Bool
  written : Bool
  deriving DecidableEq, Repr

/-- Ledger chain (R95, R96): the next counter, the last durable counter and the binding (Table 10.6). -/
structure Chain where
  ns : Nat
  key : Nat
  next : Nat
  lastDurable : Nat
  lastAcked : Nat
  bound : Bool
  deriving DecidableEq, Repr

/-- What an overlap table entry stands for (R80). -/
inductive OvKind where
  | read | write | compare | dealloc | zeroes
  deriving DecidableEq, Repr

/-- Overlap table entry (R80): a write's stays until its map updates are applied. `settled` says the command has taken effect (a read
has its data, a write is placed). `superseded` lists sector offsets (R93). -/
structure Overlap where
  ns : Nat
  lba : Nat
  len : Nat
  kind : OvKind
  settled : Bool
  superseded : List Nat
  deriving DecidableEq, Repr

/-! ### Chapter 6: stripes -/

/-- State of a role of a stripe in flight. -/
inductive RoleState where
  | waiting | issued | programmed | failed
  deriving DecidableEq, Repr

/-- A member page set of a stripe (R138, R140). -/
structure Member where
  bay : Nat
  die : Nat
  page : Nat
  alternates : Nat
  st : RoleState
  deriving DecidableEq, Repr

/-- A sector in a stripe buffer: its codeword payload, and for a relocation the copy that was read (R99). -/
structure BufSector where
  payload : Payload
  source : Option MapEntry
  mapped : Bool
  deriving DecidableEq, Repr

/-- State of a closed stripe. -/
inductive StripeState where
  | programming | journaling | committed | abandoned
  deriving DecidableEq, Repr

/-- A closed stripe still held in its buffer (R93, R155). -/
structure Stripe where
  stream : Nat
  sectors : List BufSector
  members : List Member
  alt : Bool
  padded : Bool
  wseqMax : Nat
  st : StripeState
  jposLast : Nat
  deriving DecidableEq, Repr

/-- Open stripe of a stream (R85, R89). `since` is the time its first sector was placed; `next` holds, whole, what waits for the stream's
next stripe while this one cannot close for want of a unit or of a pattern. -/
structure OpenStripe where
  sectors : List BufSector
  since : Nat
  next : List (List BufSector)
  deriving DecidableEq, Repr

/-- A write stream (R82, R138, R143). -/
structure Stream where
  counter : Nat
  openUnit : Option Nat
  index : Nat
  stripe : Option OpenStripe
  deriving DecidableEq, Repr

/-- State of a reclaim unit (R97, R137). -/
inductive UnitState where
  | free | opened | closed | victim | erasing | retired
  deriving DecidableEq, Repr

/-- A reclaim unit (R97, R98, R137, R142, R200). `nextPos` gives, per bay, the next free position. -/
structure UnitRec where
  st : UnitState
  use : Nat
  stream : Nat
  valid : Nat
  sectors : Nat
  lastCommit : Nat
  emptiedJpos : Nat
  topScore : Bool
  erasesLeft : Nat
  nextPos : Tab Nat
  deriving DecidableEq, Repr

/-- An open row's XOR accumulator (R134): 16 payloads and the positions issued. -/
structure RowAcc where
  issued : Nat
  acc : List Payload
  deriving DecidableEq, Repr

/-- Stripe journal record, Table 6.8 (R155). `kind` is STATE 1 to 4. -/
structure SjRec where
  stripe : Nat
  kind : Nat
  stream : Nat
  roles : Nat
  alt : Bool
  padded : Bool
  wseqMax : Nat
  members : List Loc
  deriving DecidableEq, Repr

/-- A record in a module copy's ring that may not be dropped yet (R158): the ring page it is in, and, once known, the JPOS of the last map
journal record of its stripe's sectors. -/
structure SjLive where
  page : Nat
  record : SjRec
  past : Option Nat
  deriving DecidableEq, Repr

/-- A module copy of the stripe journal (R156, R158): its next page's serial and place in the ring, and the records in it. -/
structure SjCopy where
  bay : Nat
  serial : Nat
  next : Nat
  placed : Bool
  records : List SjLive
  deriving DecidableEq, Repr

/-- A page of the stripe journal being filled or programmed (R157). -/
structure SjPage where
  records : List SjRec
  since : Nat
  waitBays : List Nat
  done : Nat
  deriving DecidableEq, Repr

/-- The durable root record (R101). -/
structure Root where
  number : Nat
  jpos : Nat
  highOrder : Nat
  strikeUsed : Option Nat
  rigGen : Nat
  gmd : Tab Loc
  stopped : Bool
  deriving DecidableEq, Repr

/-- Progress of a checkpoint (R101). `index` lists the places of its committed index pages. -/
structure Ckpt where
  number : Nat
  jposTarget : Nat
  index : List Loc
  rootDone : Nat
  phase : Nat
  deriving DecidableEq, Repr

/-- Strike steps of Table 4.8. -/
inductive StrikePhase where
  | idle | running | complete | lost
  deriving DecidableEq, Repr

/-- A group-row of the strike half with its header (R103): once laid out, the page index it takes, its bays in groups of 9, and the
positions among them whose page sets have not yet succeeded. -/
structure StrikeRow where
  sectors : List Payload
  records : List JRec
  highWseq : Nat
  headerOk : Bool
  idx : Nat
  bays : List Nat
  left : List Nat
  deriving DecidableEq, Repr

/-! ### Chapter 5: Translation Cache -/

/-- A way of a set: its tag with the parity bit P (Table 5.3), its line (Tables 5.1, 5.2), and the check bits of the line's eight words
(R113, R114). -/
structure TcLine where
  la : Nat
  v : Bool
  l : Bool
  age : Nat
  f : Bool
  entries : List MapEntry
  dirtyMask : BitVec 12
  ns : Nat
  streamed : Bool
  p : Bool
  check : List (BitVec 8)
  deriving DecidableEq, Repr

/-- A miss entry of a lookup cell (R115): the reserved way, whether the fill is streaming, the updates
recorded for it, the lookups parked, and whether an invalidate passed it (R131 race rule). -/
structure TcMiss where
  la : Nat
  way : Option Nat
  streaming : Bool
  lock : Bool
  ns : Nat
  updates : List (Nat × MapEntry)
  parked : List Nat
  dropV : Bool
  deriving DecidableEq, Repr

/-- A write-back queue entry (R120). -/
structure TcWb where
  la : Nat
  way : Nat
  frame : Nat
  deriving DecidableEq, Repr
/-! ### Chapter 7: the unit directory, rebuild and the patrol -/

/-- Exception entry, Table 7.2 (R162). -/
structure ExcEntry where
  index : Nat
  type : Nat
  role : Nat
  bay : Nat
  count : Nat
  arg : Nat
  deriving DecidableEq, Repr

/-- Unit record and exception list, Table 7.1 (R162). -/
structure UnitDir where
  use : Nat
  stream : Nat
  start : Nat
  stripes : Nat
  exceptions : List ExcEntry
  deriving DecidableEq, Repr

/-- Rebuild states, Table 7.4 (R172). -/
inductive RebuildState where
  | idle | journal | critical | single | sweep | held
  deriving DecidableEq, Repr

/-- A repair strip in a batch (R168). -/
structure Repair where
  unit : Nat
  use : Nat
  index : Nat
  role : Nat
  oldLoc : Loc
  payloads : List (Nat × Payload)
  bay : Nat
  newLoc : Loc
  reserved : Bool
  programmed : Bool
  deriving DecidableEq, Repr

/-- A lost bay or die (R160). -/
inductive LossItem where
  | bay (b : Nat)
  | die (b d : Nat)
  deriving DecidableEq, Repr

/-- A queued erase block (R181). -/
structure EraseBlock where
  bay : Nat
  die : Nat
  block : Nat
  deriving DecidableEq, Repr

/-! ### Chapter 8: media -/

/-- Block states of Table 8.6. -/
inductive BlockState where
  | erased | opened | programmed | bad
  deriving DecidableEq, Repr

/-- Block record, Table 8.6 (R196). -/
structure BlockRec where
  pe : Nat
  bin : Nat
  shift : Int
  bad : Bool
  slc : Bool
  st : BlockState
  reads : Nat
  ageMark : Nat
  deriving DecidableEq, Repr

/-- Media record, Table 8.7 (R204). -/
structure MediaRec where
  mgen : Nat
  bay : Nat
  die : Nat
  block : Nat
  kind : Nat
  row : Nat
  unit : Nat
  deriving DecidableEq, Repr

/-- Unit health record (R202). -/
structure UnitHealth where
  wear : Nat
  opens : Nat
  mgenOpen : Nat
  deriving DecidableEq, Repr

/-- Bin vector of a die and bin with the tracking sums (R189, R191). -/
structure BinVec where
  offsets : List Int
  next : List Int
  sums : List Int
  decodes : Nat
  deriving DecidableEq, Repr

/-- An early-warning monitor (R211). -/
structure Warn where
  armed : Bool
  last : Nat
  held : Nat
  deriving DecidableEq, Repr

/-- Module health record, Table 8.8 (R209); derived fields are computed when the record is returned. -/
structure Health where
  serial : Nat
  cwRead : Nat
  bitsCorrected : Nat
  hourCw : Nat
  hourBits : Nat
  retries : Nat
  reconstructed : Nat
  capCost : Nat
  probesDropped : Nat
  programFails : Nat
  eraseFails : Nat
  silent : Nat
  silentCycle : Nat
  reconHour : List Nat
  tempNow : Int
  tempPeak : Int
  tempHist : List Nat
  minuteBands : Nat
  ageClock : Nat
  deriving DecidableEq, Repr

/-- A pending probe (R195). -/
structure Probe where
  loc : Loc
  next : Nat
  last : Nat
  offsets : List Int
  inflight : Bool
  deriving DecidableEq, Repr

/-! ### Codeword reads and reconstruction -/

/-- Whom a codeword read serves. -/
inductive RdFor where
  | host (ord : Nat) (sector : Nat)
  | mapPage (mpn : Nat)
  | relocate (unit : Nat)
  | survivor (job : Nat) (slot : Nat)
  | repair (batch : Nat) (slot : Nat) (k : Nat)
  | patrol (unit index role k : Nat)
  | patrolRow (unit row pos k : Nat)
  | probe
  deriving DecidableEq, Repr

/-- Phase of a codeword read (R192, R193, R165). -/
inductive RdPhase where
  | waiting | reading | queued | decoding | dieXor | cross
  deriving DecidableEq, Repr

/-- A codeword read in progress. `offsets` are fixed at the first issue (R192); `cap` is the cap in force at
admission (Cap change meets a read). -/
structure CwRead where
  loc : Loc
  user : RdFor
  host : Bool
  attempt : Nat
  cap : Nat
  offsets : List Int
  phase : RdPhase
  raw : Option Payload
  deriving DecidableEq, Repr

/-- A survivor read of a reconstruction round (Table 7.3): the role (or row position) it stands for. -/
structure Survivor where
  role : Nat
  loc : Loc
  got : Option Payload
  failed : Bool
  deriving DecidableEq, Repr

/-- A reconstruction of one codeword (R165). -/
structure Recon where
  dieXor : Bool
  role : Nat
  stripeLost : List Nat
  survivors : List Survivor
  withQ : Bool
  deriving DecidableEq, Repr

/-! ### Chapter 9: the Sheet link -/

/-- Port states, Table 9.10 (R245). -/
inductive PortState where
  | off | training | init | up | up1 | retrain | retired
  deriving DecidableEq, Repr

/-- Module states, Table 9.12 (R246). -/
inductive ModState where
  | absent | powering | linking | identify | ready | fencing | inService | unreachable | lost | foreign
  deriving DecidableEq, Repr

/-- What an outstanding Sheet operation is for. -/
inductive OpFor where
  | read (job : Nat)
  | member (stripe : Nat) (role : Nat)
  | rowXor (unit row : Nat)
  | unitErase (unit : Nat)
  | firstErase (block : Nat)
  | sjPage
  | root
  | strike
  | repair (batch slot : Nat)
  | strikeErase (half : Nat)
  | other
  deriving DecidableEq, Repr

/-- An outstanding operation of a port (R224, R238), with its reissues so far, what it carries, which a reissue sends again (R231), and the
slot in which its timer expires (R238). Its entry is also the response buffer reserved at its issue (R71, R220). -/
structure SheetOp where
  code : Nat
  die : Nat
  page : Nat
  slc : Bool
  arg : Nat
  epoch : Nat
  prio : Bool
  cwmask : BitVec 16
  user : OpFor
  timedOut : Bool
  requery : Bool
  tries : Nat
  value : BitVec 64
  offsets : List Int
  frames : List Payload
  due : Nat
  deriving DecidableEq, Repr

/-- A sequenced frame kept in a replay buffer (R217, R218). -/
structure ReplayFrame where
  seq : Nat
  type : Nat
  tag : Nat
  replays : Nat
  deriving DecidableEq, Repr

/-- A lane of a Sheet port. -/
structure SheetLane where
  locked : Bool
  retired : Bool
  failed : Nat
  lossTimes : List Nat
  uncorr : Nat
  corr : Nat
  deriving DecidableEq, Repr

/-- A Sheet port of this controller with the module state it keeps for the bay (R217 to R246). `slowed` says the module was
put in power state 1 for heat, `hot` that it takes no new strips (R485). `returned` says the
module came back after a retirement, a reseat or an exchange: each of its erase blocks is erased before its first program, and
`erasedBack` lists those that were (R161, R243); `needErase` lists single blocks whose erase is owed. `answered` says a STATUS has been answered
since a take or a probe last asked every port (R375). -/
structure Port where
  st : PortState
  attempts : Nat
  lane0 : SheetLane
  lane1 : SheetLane
  initRx : Bool
  initSeen : Bool
  seenSent : Bool
  modLanes : Nat
  txSeq : Nat
  rxSeq : Nat
  replay : List ReplayFrame
  nakSent : Bool
  ackDue : Bool
  crCmd : Nat
  crData : Nat
  failTimes : List Nat
  ops : Tab SheetOp
  nextTag : Nat
  modSt : ModState
  desc : Option ModuleDesc
  descPart : Option ModuleDesc
  serialOk : Option Nat
  epochSeen : Nat
  ownerSeen : Nat
  status : SheetResult
  answered : Bool
  temp : Int
  unreachSince : Nat
  returned : Bool
  needErase : List EraseBlock
  erasedBack : List EraseBlock
  latchedLost : Bool
  presentAtFormat : Bool
  dieTimeouts : Tab Nat
  dieReset : Tab Nat
  laneErr : BitVec 64
  slowed : Bool
  hot : Bool
  deriving DecidableEq, Repr

/-- State of an operation inside a module (R231): not started, in the array, or completed with its code. -/
structure ModOp where
  portB : Bool
  tag : Nat
  die : Nat
  code : Nat
  state : Nat
  result : Nat
  deriving DecidableEq, Repr

/-- The module in a bay: its fence state (R232, R234), power state, faults and kept results. -/
structure Module where
  desc : ModuleDesc
  epoch : Nat
  owner : Nat
  power : Nat
  fatal : Bool
  overtemp : Bool
  dieFault : BitVec 128
  idleDelay : Nat
  laneErrA : BitVec 64
  laneErrB : BitVec 64
  slcBlocks : List (Nat × Nat)
  ops : List ModOp
  nand : Int
  bridge : Int
  deriving DecidableEq, Repr
/-! ### Chapter 10: queues, controllers and commands -/

/-- Key slot record, Table 14.3 (R345), with the key of the key store, 0 while it is not unwrapped; `check` is its KCV. -/
structure KeySlot where
  st : Nat
  mode : Nat
  gen : Nat
  sectors : Nat
  material : BitVec 512
  check : Nat
  wrapped : BitVec 576
  deriving DecidableEq, Repr

/-- An EMPTY key slot in which no key has been placed. -/
def KeySlot.blank : KeySlot := ⟨0, 0, 0, 0, 0, 0, 0⟩

/-- An NVMe controller (R250 to R252, R269, R270). -/
structure NvmeCtl where
  tenant : Nat
  discovery : Bool
  adminQp : Nat
  enabled : Bool
  ready : Bool
  kato : Nat
  lastAdmin : Nat
  aers : List Nat
  aec : Nat
  anaChanges : Nat
  warnSeen : Nat
  noticePend : Bool
  errCount : Nat
  errors : List (Nat × Nat × Nat)
  deriving DecidableEq, Repr

/-- Where a command came from: a queue pair of this controller, the peer (with the peer's handle), or a
mailbox. -/
inductive CmdSrc where
  | qp (q : Nat) (cid : Nat)
  | peer (h tenant : Nat) (chain : Option (Nat × Nat))
  | mbx (m : Nat)
  deriving DecidableEq, Repr

/-- What a command in flight does. -/
inductive CmdKind where
  | read | write | flush | zeroes | compare | dsm | log | bind | seal
  deriving DecidableEq, Repr

/-- How far a command has come. -/
inductive CmdPhase where
  | taken | admitted | running | done
  deriving DecidableEq, Repr

/-- A unit of R49 of a write: its sectors fetched, enciphered and placed. -/
inductive UnitPhase where
  | fetching | whole | placed | ended
  deriving DecidableEq, Repr

/-- What a sector of a read command gave. -/
inductive RdResult where
  | waiting
  | data (plain : Sector)
  | tagFail (plain : Sector)
  | zero
  | unrecovered
  | marked
  | notReady
  deriving DecidableEq, Repr

/-- A command that holds an order number (R59). `retClock` is the retention clock read in the slot of its
intake (R265), `readCap` the host read cap in force at its admission ("Cap change meets a read"). -/
structure Cmd where
  src : CmdSrc
  kind : CmdKind
  ns : Nat
  lba : Nat
  len : Nat
  cap : Capsule
  lane : Option Nat
  phase : CmdPhase
  seq : Bool
  chain : Option Nat
  lcount : Nat
  retClock : Nat
  stream : Nat
  fetched : List (Nat × Sector)
  fetchNext : Nat
  units : List UnitPhase
  results : List (Nat × RdResult)
  placedAt : Nat
  mirrored : Bool
  mirrorLost : Bool
  acked : Bool
  status : Option (Nat × Nat × Bool)
  orphan : Bool
  marked : List Nat
  key : Option (Nat × KeySlot)
  readCap : Nat
  deriving DecidableEq, Repr

/-- A completion not yet sent, for the in-order return of a Ledger queue (R261). -/
structure Cqe where
  cid : Nat
  sct : Nat
  sc : Nat
  dnr : Bool
  dw0 : Nat
  deriving DecidableEq, Repr

/-- A queue's reservation at the active (R251). -/
structure Reservation where
  entries : Nat
  tenant : Nat
  peer : Bool
  deriving DecidableEq, Repr

/-! ### Chapter 11: queue pairs -/

/-- Queue pair states, Table 11.6 (R283). -/
inductive QpState where
  | free | connecting | ready | flushing | timewait
  deriving DecidableEq, Repr

/-- An outstanding RDMA READ request (R289 to R291): the command it serves, its byte range within the
command's data, its first PSN, its bitmap, and its re-issue state. -/
structure RdReq where
  ord : Nat
  offset : Nat
  length : Nat
  firstPsn : Nat
  got : List Nat
  chunks : List (Nat × Payload4k)
  higherAt : Option Nat
  reissue : Bool
  sentAt : Nat
  deriving DecidableEq, Repr

/-- A send entry (R293): one packet not yet acknowledged. -/
structure SendEntry where
  psn : Nat
  send : Bool
  bytes : Nat
  sentAt : Nat
  deriving DecidableEq, Repr

/-- A queue pair (R277 to R298). -/
structure Qp where
  st : QpState
  since : Nat
  port : Nat
  addr : Nat
  hostQpn : BitVec 24
  pmtu : Nat
  tenant : Option Nat
  ctl : Option Nat
  qid : Nat
  admin : Bool
  chain : Option (Nat × Nat)
  entries : Nat
  responder : Nat
  ackT : Nat
  retryMax : Nat
  rnrMax : Nat
  retries : Nat
  rnrTries : Nat
  rnrUntil : Nat
  ePsn : BitVec 24
  held : List (Nat × Capsule)
  heldSince : Option Nat
  nakOut : Bool
  inq : List Capsule
  msn : Nat
  ackDue : Option Nat
  sPsn : BitVec 24
  reqs : List RdReq
  sends : List SendEntry
  hostCredit : Nat
  cqes : List Cqe
  ledgerWait : List (Nat × Option Cqe)
  rc : Nat
  rt : Nat
  alpha : Nat
  k : Nat
  lastCnpRx : Nat
  lastCnpTx : Option Nat
  deriving DecidableEq, Repr

/-- What waits in a cell's control queue (R288). -/
inductive CtlKind where
  | ack | nak | cnp
  deriving DecidableEq, Repr

/-- An entry of a cell's control queue (R288). -/
structure CtlEntry where
  q : Nat
  kind : CtlKind
  psn : Nat
  syndrome : Nat
  msn : Nat
  deriving DecidableEq, Repr

/-- Counters and pools of an RDMA cell (R277, R282, R288, R290, R293). -/
structure RdmaCell where
  stagingUsed : Nat
  sendUsed : Nat
  late : Nat
  duplicates : Nat
  dropped : Nat
  control : List CtlEntry
  deriving DecidableEq, Repr

/-! ### Chapters 12 and 13: classification and the switch -/

/-- A frame in the ingress path of a port (R300, R315). -/
structure InFrame where
  pseq : Nat
  sub : Nat
  frame : Frame
  parser : Nat
  action : Option ClsAction
  malformed : Bool
  deriving DecidableEq, Repr

/-- Fragment table entry (R313). -/
structure FragEntry where
  key : FragKey
  action : ClsAction
  since : Nat
  deriving DecidableEq, Repr

/-- A parked fragment (R315). -/
structure Parked where
  key : FragKey
  port : Nat
  fr : InFrame
  since : Nat
  deriving DecidableEq, Repr

/-- Rule update phase of a logical port (R309, Table 12.8). -/
inductive RulePhase where
  | running | holding | empty | reloaded
  deriving DecidableEq, Repr

/-- A front port's ingress side (R299, R300, R310). -/
structure FrontPort where
  linkUp : Bool
  rxCount : Nat
  pseqNext : Nat
  pseqOut : Nat
  ingress : List InFrame
  hold : List (Nat × Nat × Frame)
  holdBytes : Nat
  fcsDrops : Nat
  longDrops : Nat
  pauseDrops : Nat
  malformed : Nat
  deriving DecidableEq, Repr

/-- Where a frame's cells are held (R325). -/
inductive CellHold where
  | shared
  | esc (drain cls : Nat)
  deriving DecidableEq, Repr

/-- A frame in a virtual output queue (R317, R320). -/
structure VoqFrame where
  id : Nat
  len : Nat
  cells : Nat
  crossed : Nat
  hold : CellHold
  drain : Nat
  ce : Bool
  inSub : Nat
  prio : Nat
  deriving DecidableEq, Repr

/-- A virtual output queue's name: input, output, sub-port, class (R320). -/
structure VoqKey where
  inp : Nat
  outp : Nat
  sub : Nat
  cls : Nat
  deriving DecidableEq, Repr

/-- A policer's buckets in 1/1024 byte (R328). -/
structure Buckets where
  tc : Nat
  tp : Nat
  stamp : Nat
  deriving DecidableEq, Repr

/-- A frame an RDMA cell offers to its storage input (R332): the cell and queue pair, the tenant whose
committed bucket it draws on, its queue and its frame. -/
structure Offer where
  cell : Nat
  q : Nat
  tenant : Nat
  key : VoqKey
  len : Nat
  deriving DecidableEq, Repr

/-- Colours (R328). -/
inductive Colour where
  | green | yellow | red
  deriving DecidableEq, Repr

/-- A shaper's bucket in 1/1024 byte (R330). -/
structure Shaper where
  count : Int
  stamp : Nat
  deriving DecidableEq, Repr
/-! ### Chapter 14: keys, epochs, retention -/

/-- A DRBG (R344): when reseeding fell due if that was before its 100 ms were over, whether it has stopped, and when it was last reseeded or
stopped giving output. -/
structure Drbg where
  dueAt : Option Nat
  stopped : Bool
  lastOut : Nat
  deriving DecidableEq, Repr

/-- Retention time index entry, Table 14.5 (R354). -/
structure RetEntry where
  minute : Nat
  count : Nat
  firstWseq : Nat
  deriving DecidableEq, Repr

/-- A seal in progress (R358). `mbx` is its mailbox, or 64 + the mailbox whose reset has left it running on its own (R417). -/
structure Seal where
  mbx : Nat
  ns : Nat
  lba : Nat
  count : Nat
  ord : Nat
  rclk : Nat
  wall : Nat
  deriving DecidableEq, Repr

/-! ### Chapter 15: the pair -/

/-- Pair states, Table 15.1 (R360). -/
inductive PairState where
  | init | joining | standby | active | single | taking | giving | lapsed
  deriving DecidableEq, Repr

/-- A shroud's state (R369): whether it is lost and when its last messages arrived. -/
structure ShroudSt where
  lost : Bool
  times : List Nat
  deriving DecidableEq, Repr

/-- How the lease is held (R364, R368). -/
inductive LeaseHold where
  | no | self | granted
  deriving DecidableEq, Repr

/-- Takeover: warm from another pair state, cold, the reduced form of R375, or a planned swap, which continues the cipher
epoch (R376). -/
inductive TakeKind where
  | warm | cold | probe | swap
  deriving DecidableEq, Repr

/-- A swap in progress or waiting (R376 to R378). -/
structure Swap where
  running : Bool
  postponed : Bool
  retryAt : Nat
  lastEnd : Nat
  reachSince : Option Nat
  deriving DecidableEq, Repr

/-! ### Chapter 16: the Bay Power Die -/

/-- A feed as the BPD sees it (R382). -/
structure FeedSt where
  inWindow : Bool
  since : Nat
  lost : Bool
  good : Bool
  volt : Nat
  stuck : Bool
  deriving DecidableEq, Repr

/-- Feed selector states, Table 16.2 (R383). -/
inductive Selector where
  | init | onA | breakAB | onB | breakBA | holdup | down
  deriving DecidableEq, Repr

/-- Bay channel states, Table 16.6 (R393). -/
inductive ChanState where
  | off | waitInsert | ramp | on | cooldown | latched | fetFault
  deriving DecidableEq, Repr

/-- A bay channel (R388 to R395). `run` is the setting it started with, `cfg` the live setting. -/
structure Chan where
  st : ChanState
  pres : Bool
  pg : Bool
  ilimAct : Bool
  enabled : Bool
  togglePend : Bool
  lastFault : Nat
  current : Nat
  trips : Nat
  cfg : BayCfg
  run : BayCfg
  since : Nat
  deriving DecidableEq, Repr
/-! ### Chapters 17 and 18: management -/

/-- `MBX_STATUS` states, Table 17.6. -/
inductive MbxState where
  | idle | busy | done
  deriving DecidableEq, Repr

/-- A response, Table 18.5 (R425). -/
structure Resp where
  opcode : Nat
  status : Nat
  detail : Nat
  frame : Nat
  order : Nat
  xfer : Nat
  result : List (BitVec 8)
  deriving DecidableEq, Repr

/-- Why a running command has not answered yet. -/
inductive MbxWait where
  | free
  | running (opcode : Nat)
  | answer (r : Resp)
  deriving DecidableEq, Repr

/-- A mailbox (R404 to R406, Table 17.6). `bay` is what its command holds against others: bay n, 1000 + tenant for key
commands, 5000 for the Translation Cache's range operation. `fetching` says its bulk data is awaited; `discard` says its
result is to be dropped (R417, R421). -/
structure Mbx where
  st : MbxState
  overrun : Bool
  wrBusy : Bool
  dmaHold : Bool
  token : Nat
  notify : Bool
  evq : Nat
  takenSeq : Nat
  wait : MbxWait
  bay : Option Nat
  fetching : Bool
  discard : Bool
  buf : Tab (BitVec 8)
  deriving DecidableEq, Repr

/-- An event record, Table 17.7 (R408, R409). -/
structure EvRec where
  source : Nat
  kind : Nat
  seq : Nat
  data0 : Nat
  data1 : Nat
  deriving DecidableEq, Repr

/-- An event queue (R407 to R411, Tables 17.8 and 17.9). -/
structure Evq where
  enabled : Bool
  base : BitVec 64
  log2n : Nat
  vector : Nat
  countTh : Nat
  timeTh : Nat
  head : Nat
  tail : Nat
  overflow : Bool
  headErr : Bool
  armed : Bool
  heldRecs : List EvRec
  seq : Nat
  unsignalled : Nat
  oldest : Nat
  deriving DecidableEq, Repr

/-- An MSI-X vector (Table 17.1, R411). -/
structure Msix where
  addr : BitVec 64
  data : BitVec 32
  masked : Bool
  pend : Bool
  deriving DecidableEq, Repr

/-- State of a request tag (R400, R414). -/
inductive TagState where
  | outstanding (m : Nat)
  | quarantine (since : Nat)
  | dead (since : Nat)
  deriving DecidableEq, Repr

/-- A management session (R420, R421). -/
structure Session where
  number : Nat
  keyIndex : Nat
  rxSeq : Nat
  txSeq : Nat
  lastRx : Nat
  deriving DecidableEq, Repr

/-- A live setting command waiting for its frame boundary (R47, R429). -/
inductive LiveChange where
  | setting (id value : Nat)
  | evqCreate (q log2n vector countTh timeTh : Nat) (base : BitVec 64)
  | evqDelete (q : Nat)
  | evqMod (q countTh timeTh : Nat)
  | route (first last q : Nat) (on : Bool)
  | cplto (timeout : Nat)
  | pmcProgram (first : Nat) (sels : List (BitVec 32))
  | pmcUser (bank : Nat) (allow : Bool)
  | pmcSample (bank counter : Nat) (on : Bool)
  | bayCfg (bay : Nat) (cfg : BayCfg)
  | bayEnable (bay : Nat) (on : Bool)
  | bayToggle (bay : Nat)
  | keySlot (slot : Nat) (k : KeySlot)
  | retAdvance (delta : Nat)
  | binVec (key : Nat)
  | rules (cls : ClsSection)
  deriving DecidableEq, Repr

/-! ### Chapter 19: faults -/

/-- A fault word with its merge count and flags (R437, R440, R441). -/
structure FWord where
  word : BitVec 64
  merged : Nat
  escalated : Bool
  fromBpd : Bool
  deriving DecidableEq, Repr

/-- A concentrator (R439): the input queue and the word in handling. -/
structure Conc where
  queue : List FWord
  handling : Option FWord
  last : Nat
  deriving DecidableEq, Repr

/-- A history entry, Table 19.6. -/
structure HistEntry where
  word : BitVec 64
  seq : Nat
  merged : Nat
  flags : BitVec 8
  handled : Nat
  time : Nat
  frame : Nat
  deriving DecidableEq, Repr

/-- History states, `CWN_STATUS.HIST` (R444, R445). -/
inductive HistState where
  | recording | triggered | frozen
  deriving DecidableEq, Repr

/-- An open record of an M cause (R441). -/
structure OpenRec where
  unit : Nat
  seq : Nat
  deriving DecidableEq, Repr

/-! ### Chapter 20: counters -/

/-- A sample, Table 20.6. -/
structure Sample where
  place : BitVec 64
  counter : Nat
  unit : Nat
  core : Nat
  deriving DecidableEq, Repr

/-- A counter bank's control state (R451, R457 to R461). -/
structure Bank where
  user : Bool
  sampleEn : Bool
  sampleCtr : Nat
  ring : List Sample
  head : Nat
  tail : Nat
  lost : Nat
  deriving DecidableEq, Repr

/-! ### Chapter 21: start-up -/

/-- A firmware slot of the SPI NOR (R465 to R467). -/
structure FwSlot where
  valid : Bool
  build : BitVec 64
  fwIf : BitVec 32
  svn : Nat
  raiseSvn : Bool
  deriving DecidableEq, Repr

/-- The declaration copy (R471), with the bays its section 0x0001 declares. -/
structure DeclCopy where
  shelfId : BitVec 128
  rigGen : Nat
  bays : BitVec 64
  deriving DecidableEq, Repr

/-! ### Outputs -/

/-- RDMA packets a cell sends (Table 11.5). -/
inductive Pkt where
  | ack (psn msn code : Nat)
  | nakSequence (psn msn : Nat)
  | nakInvalid (psn : Nat)
  | nakRnr (psn timer : Nat)
  | sendOnly (psn : Nat) (cqe : Cqe)
  | rdmaWrite (psn addr key : Nat) (data : Sector)
  | readRequest (psn addr key length : Nat)
  | cnp
  | resendFrom (psn : Nat)
  deriving DecidableEq, Repr

/-- Link control and sequenced frames a Sheet port sends (Table 9.2). -/
inductive SheetTx where
  | init (seen : Bool)
  | ack (n : Nat)
  | nak (n : Nat)
  | command (tag : Nat) (op : SheetOp) (value : BitVec 64) (offsets : List Int)
  | data (tag : Nat) (frames : List Codeword)
  | replay (seqs : List Nat)
  deriving DecidableEq, Repr

/-- What the block sends or drives outward, newest first in `State.out`: the model's own record. -/
inductive Emit where
  | rdma (q : Nat) (p : Pkt)
  | cm (q : Nat) (accept : Bool)
  | cmReject
  | frame (outp sub cls id len : Nat) (ce : Bool)
  | frameDrop (id : Nat)
  | xoff (port sub prio quanta : Nat)
  | control (port : Nat) (kind : CtlFrame)
  | sheet (bay : Nat) (tx : SheetTx)
  | module (bay tag code status : Nat) (res : SheetResult) (frames : List Payload)
  | lease (sh : Shroud) (m : LeaseMsg)
  | mirror (stream : Nat) (payload : Payload)
  | ship (r : ShipRec)
  | mirrorAck (lba ns : Nat)
  | forward (handle : Nat) (c : Capsule) (data : List Sector)
  | forwardCqe (handle : Nat) (c : Cqe) (data : List Sector)
  | recall (handle : Nat)
  | reserve (handle tenant entries : Nat)
  | reserveAnswer (handle : Nat) (ok : Bool)
  | peerEffect (e : PeerEffect)
  | ring (q index : Nat) (bytes : BitVec 256)
  | msix (v : Nat)
  | dmaWrite (m : Nat) (bytes : Nat) (poisoned : Bool)
  | dmaData (m : Nat) (data : List Sector)
  | dmaRead (m tag : Nat)
  | response (m : Nat) (r : Resp)
  | sessionAccept (i : Nat)
  | strikeTrigger
  | strikeComplete
  | shelfKey
  | swapStarted
  | handBack (bufs : List (Nat × Payload))
  deriving DecidableEq, Repr
/-! ### The state -/

/-- Time (R26, R58, R351): the frame number, the slot within the frame, and the slots that had passed when
frame 0 began, so that `base + 16384 * frame + slot` counts slots (0.625 ns) for every timer. -/
structure Clk where
  frame : Nat
  slot : Nat
  base : Nat
  wall : Nat
  dramNet : Bool
  deriving DecidableEq, Repr

/-- Storage function states, Table 2.11 (R40). -/
inductive FnState where
  | empty | stopped | armed | running | draining | fenced
  deriving DecidableEq, Repr

/-- Why the function drains (Table 2.12). -/
inductive DrainCause where
  | stop | swap
  deriving DecidableEq, Repr

/-- The storage function and the rig image (chapter 2). `live` lists the settings of Table 2.17 that a command has set (key:
ID − 1), `kept` the live changes kept for FN.ARM, `changes` those due at the next frame boundary (mailbox, change). `arming` is the image whose commit
record FN.ARM waits to become durable (R43). -/
structure Fn where
  st : FnState
  readOnly : Bool
  roCause : Nat
  lastCheck : Nat
  refusal : Nat
  stoppedByCmd : Bool
  drain : Option DrainCause
  committed : Option RigImage
  staged : Option RigImage
  rules : Option ClsSection
  live : Tab Nat
  kept : List LiveChange
  changes : List (Nat × LiveChange)
  lanesOpen : Bool
  arming : Option RigImage
  deriving DecidableEq, Repr

/-- An intake head: a capsule (or a peer's or mailbox's command) in a dual-clock queue, the slot edge at which
it becomes visible, and its lane (R56 to R58). -/
structure Head where
  src : CmdSrc
  cap : Capsule
  kind : CmdKind
  ns : Nat
  visible : Nat
  lane : Option Nat
  data : List (Nat × Sector)
  marked : List Nat
  deriving DecidableEq, Repr

/-- Ready work in the schedule (R32, R60): its class, lane, and order number if it has one. -/
structure Work where
  cls : Nat
  lane : Nat
  ord : Option Nat
  deriving DecidableEq, Repr

/-- A slot granted (R28 to R32): sequencer, resource, class, the owning lane and the lane that received it. -/
structure Grant where
  seq : Nat
  resource : Nat
  cls : Nat
  owner : Nat
  taker : Option Nat
  deriving DecidableEq, Repr

/-- Scheduling (chapters 2 and 3). `late` counts a block's late arrivals (R65) and `peerHeld` keeps forwarded commands in the Peer block until
their lane has a staging credit (R57). -/
structure Sched where
  left : Tab Nat
  debt : Tab Nat
  staged : Tab Nat
  inputs : List (List Head)
  lastTaken : List Nat
  nextOrder : Nat
  cmds : Tab Cmd
  overlap : Tab Overlap
  lastRead : Tab Nat
  lastWrite : Tab Nat
  work : List Work
  grants : List Grant
  late : Tab Nat
  intakeStopped : Bool
  peerHeld : List Head
  deriving DecidableEq, Repr

/-- What waits for a map page to come into the pool (R76, R99, R166): a read command's lookup, the relocation of a codeword of a unit, or the
poisoning of a sector that named it. -/
inductive MapWait where
  | read (ord : Nat)
  | relocate (unit : Nat) (loc : Loc)
  | poison (ns lba : Nat) (loc : Loc)
  deriving DecidableEq, Repr

/-- The forward map (chapter 4). `nus` counts the sectors of a namespace that are not unmapped (R256); `sysSent` gives, by MPN, the ENTRIES of
the system ranges' pages as last given to the map stream, or shipped (R164, R197). -/
structure MapSt where
  gmd : Tab GmdEntry
  pool : Tab PoolSlot
  nextSlot : Nat
  gmdDirty : List Nat
  waits : List (Nat × MapWait)
  nus : Tab Nat
  poisoned : Tab Nat
  poisonLbas : List (Nat × Nat)
  sysSent : Tab Nat
  applied : Nat
  deriving DecidableEq, Repr

/-- The Translation Cache (chapter 5). `queue` holds the misses that wait for a miss entry of their cell (R115), `runOp` and `runNs` the range
operation that runs, as GO found it (R130). -/
structure TcSt where
  lines : Tab TcLine
  miss : List TcMiss
  wb : List TcWb
  ctrlOp : Nat
  ctrlByNs : Bool
  ctrlUnlock : Bool
  ctrlNs : Nat
  lba : Nat
  len : Nat
  busy : Bool
  done : Bool
  error : Bool
  overrun : Bool
  errCode : Nat
  resLines : Nat
  resWritten : Nat
  resNotLocked : Nat
  range : List Nat
  lockMask : BitVec 16
  lockNext : Option (BitVec 16)
  reqOff : BitVec 4
  on : BitVec 4
  thermalOff : List Nat
  errCorrected : Nat
  errParity : Nat
  errRebuilt : Nat
  goMbx : Option Nat
  pinQueue : List Nat
  queue : List TcMiss
  runOp : Nat
  runNs : Nat
  deriving DecidableEq, Repr

/-- The write log (chapters 4 and 6). `rootMoved` gives the bay that took over the root copy of a lost bay, `strikeResets` the (bay, die)
pairs that Strike has still to reset (R104), `padWait` the positions of units that abandoned stripes left without a program (R134). -/
structure LogSt where
  streams : List Stream
  stripes : Tab Stripe
  units : Tab UnitRec
  rows : Tab RowAcc
  validBay : Tab Nat
  jposNext : Nat
  journal : List JSlot
  tailSince : Nat
  chains : Tab Chain
  sjCopies : List SjCopy
  sjPage : Option SjPage
  sjWait : List SjPage
  sjPeer : List SjRec
  root : Option Root
  rootMoved : Tab Nat
  rootImage : Option RigImage
  rootRclk : Nat
  ckpt : Option Ckpt
  strikeArmed : Bool
  strikeHalf : Nat
  halfErased : List Bool
  halfUsed : Option Nat
  strike : StrikePhase
  strikeRows : List StrikeRow
  strikeResets : List (Nat × Nat)
  padWait : List (Nat × Loc)
  mirrorBuf : List (Nat × Payload)
  peerHigh : Nat
  waiting : List Nat
  deriving DecidableEq, Repr

/-- The unit directory, rebuild and the patrol (chapter 7). `journalLost` lists the copies to place again: a bay for a stripe
journal copy, 64 + bay for a root copy. `patrolSeen` holds the codewords read for rows not yet checked (by location), `patrolBad` the
page sets located as corrupted in the unit being read. -/
structure RebSt where
  loss : List LossItem
  dirs : Tab UnitDir
  st : RebuildState
  kept : RebuildState
  unit : Nat
  index : Nat
  sweepMpn : Nat
  sweepPending : Bool
  repaired : Nat
  poisonedCount : Nat
  lostCw : List Loc
  retryHeld : Bool
  batch : List Repair
  batchPhase : Nat
  batchNo : Nat
  journalLost : List Nat
  patrolUnit : Nat
  patrolIndex : Nat
  patrolRole : Nat
  patrolCycleStart : Nat
  patrolGot : List (Nat × Nat × Option Payload)
  patrolSeen : Tab Payload
  patrolBad : List Loc
  patrolLate : List (Nat × Nat × Nat)
  rewrite : List EraseBlock
  deriving DecidableEq, Repr

/-- Flash media management (chapter 8). -/
structure MedSt where
  blocks : Tab BlockRec
  bins : Tab BinVec
  mgen : Nat
  records : List MediaRec
  unitHealth : Tab UnitHealth
  dieRetired : List (Nat × Nat)
  health : List Health
  capHour : Tab (List Nat)
  probes : List Probe
  warns : Tab Warn
  reconCycle : List Loc
  condemned : List EraseBlock
  ctlHist : List Nat
  deriving DecidableEq, Repr

/-- Reads in progress and their reconstructions (chapters 7 and 8). -/
structure RdSt where
  jobs : Tab CwRead
  recons : Tab Recon
  nextJob : Nat
  deriving DecidableEq, Repr

/-- The Sheet ports of this controller and the modules behind them (chapter 9). `media` holds the payload of
each programmed codeword by its map entry. -/
structure SheetSt where
  ports : List Port
  modules : List (Option Module)
  media : Tab Payload
  epoch : Nat
  programsHeld : Bool
  deriving DecidableEq, Repr

/-- The NVMe side (chapter 10). -/
structure NvmeSt where
  ctls : Tab NvmeCtl
  resv : Tab Reservation
  forwards : Tab (Nat × Capsule)
  nextHandle : Nat
  hostRead : Tab Nat
  hostWrite : Tab Nat
  dataRead : Tab Nat
  dataWritten : Tab Nat
  mediaErr : Tab Nat
  deriving DecidableEq, Repr

/-- The RDMA engine (chapter 11). -/
structure RdmaSt where
  qps : Tab Qp
  cells : List RdmaCell
  cirEvent : Tab Nat
  deriving DecidableEq, Repr

/-- Classification and the switch (chapters 12 and 13). -/
structure NetSt where
  ports : List FrontPort
  frags : List FragEntry
  parked : List Parked
  tableFull : Nat
  parkTimeouts : Nat
  parkOverflow : Nat
  noDest : Nat
  clsDrops : Nat
  rulePhase : List RulePhase
  ruleNext : Option ClsSection
  ruleMbx : Option Nat
  ruleFrame : Nat
  voqs : List (VoqKey × List VoqFrame)
  nextFrame : Nat
  grantPtr : Tab Nat
  acceptPtr : List Nat
  deficit : Tab Nat
  avg : Tab Nat
  buckets : Tab Buckets
  shapers : Tab Shaper
  paused : Tab Nat
  xoff : List (Nat × Nat × Nat)
  eligDrops : Nat
  profileDrops : Nat
  pushDrops : Nat
  admitDrops : Nat
  redDrops : Nat
  ecnMarks : Nat
  cirBucket : Tab Buckets
  offers : List Offer
  offerPtr : List Nat
  ctlDiscards : Nat
  deriving DecidableEq, Repr

/-- Keys, randomness and the retention clock (chapter 14). `retFirst` counts the entries that have left the head of a namespace's index: entry i
lies at place (retFirst + i) mod the index's size in its pages (R354). -/
structure CipSt where
  slots : Tab KeySlot
  shelfKey : Option (BitVec 256)
  drbgs : List Drbg
  withdrawn : List Nat
  epochs : List (Nat × Nat)
  rclkPs : Nat
  index : Tab (List RetEntry)
  retFirst : Tab Nat
  seals : List Seal
  deriving DecidableEq, Repr

/-- The pair (chapter 15). -/
structure PairSt where
  st : PairState
  hold : LeaseHold
  term : Nat
  seenTerm : Nat
  seq : Nat
  sent : List (Nat × Nat)
  expiry : Nat
  lastRenew : Nat
  lastGranted : Bool
  releaseAt : Nat
  lapsedT : Nat
  heardSince : Bool
  shA : ShroudSt
  shB : ShroudSt
  peerState : Option PairState
  peerFn : Nat
  peerLeaseMs : Option Nat
  peerReach : BitVec 64
  peerChan : BitVec 64
  groups : List Bool
  groupTries : List Nat
  take : TakeKind
  takeStep : Nat
  initSince : Nat
  resync : Nat
  swap : Swap
  deriving DecidableEq, Repr

/-- The Bay Power Die (chapter 16) and the rails it sequences (chapter 22). -/
structure BpdSt where
  aux : Bool
  feedA : FeedSt
  feedB : FeedSt
  sel : Selector
  onBSince : Nat
  switches : Nat
  mainOn : Bool
  strikeTrig : Bool
  busOk : Bool
  busIn : Bool
  testBusy : Bool
  testMbx : Option Nat
  holdUs : Nat
  testAt : Option Nat
  testFail : Bool
  chans : List Chan
  held : List FWord
  lostWords : Bool
  temp : Int
  rails : Nat
  railAttempt : Nat
  railsOff : Bool
  pwrFault : Bool
  refclk : Bool
  mainReset : Bool
  deriving DecidableEq, Repr

/-- The management endpoint (chapters 17 and 18). -/
structure MgmtSt where
  bme : Bool
  d3 : Bool
  tags : Tab TagState
  poisonIn : Nat
  poisonOut : Nat
  cplTimeout : Nat
  lateCpl : Nat
  aer : Nat
  cplTo : Nat
  linkSpeed : Nat
  linkWidth : Nat
  retrains : Nat
  msix : List Msix
  mbx : List Mbx
  taken : Nat
  evqs : List Evq
  routes : Tab Nat
  sdtGen : Nat
  sessions : List (Option Session)
  nextSession : Nat
  dropped : Nat
  deriving DecidableEq, Repr

/-- Faults and the Crowsnest (chapters 1 and 19). `history` lists the entries oldest first, `histHead` is the ring index of the
oldest (CWN_STATUS.HEAD), `dramPages` counts the DRAM pages of a channel taken out of use (Table 19.5), and `bpdIf` says that the BPD
interface runs (R21). -/
structure FltSt where
  cells : Tab FWord
  concs : Tab Conc
  opens : List OpenRec
  hist : HistState
  history : List HistEntry
  histHead : Nat
  after : Nat
  trigSeq : Nat
  preserved : Bool
  fSeen : Bool
  seqNext : Nat
  counts : List Nat
  fenced : BitVec 4
  summarised : Nat
  summary : List (Nat × Nat)
  stopped : Bool
  stopTimes : List Nat
  stuck : Bool
  withdrawn : List Nat
  withdrawTimes : Tab (List Nat)
  coreResets : List Nat
  dramPages : Tab Nat
  bpdIf : Bool
  deriving DecidableEq, Repr

/-- Performance counters (chapter 20). -/
structure PmcSt where
  vals : Tab (BitVec 64)
  sels : Tab (BitVec 32)
  ovf : Tab Bool
  banks : List Bank
  deriving DecidableEq, Repr

/-- Start-up, SPI NOR, firmware and heat (chapters 21 and 22). -/
structure BootSt where
  board : Board
  step : Nat
  running : Nat
  active : Nat
  failed : Nat
  slotA : FwSlot
  slotB : FwSlot
  svnFuses : Nat
  opKeys : List (BitVec 776)
  rigKey : Option (BitVec 64 × BitVec 776)
  devKeyId : BitVec 64
  shelfKeyNor : Option (BitVec 256)
  sealSeq : Nat
  advSeq : Nat
  declCopy : Option DeclCopy
  junction : Int
  thermal : Nat
  aboveSince : Nat
  belowSince : Nat
  tripSince : Option Nat
  tripHold : Bool
  deriving DecidableEq, Repr

/-- The state of the block: one GT-4880 controller with its Bay Power Die and the modules in its bays. `out`
(what has been sent), `pending` (the commands waiting) and `freeNo` (the count of free values taken) are the
model's own fields. -/
structure State where
  clk : Clk
  fn : Fn
  sched : Sched
  map : MapSt
  tc : TcSt
  log : LogSt
  reb : RebSt
  med : MedSt
  rd : RdSt
  sheet : SheetSt
  nvme : NvmeSt
  rdma : RdmaSt
  net : NetSt
  cip : CipSt
  pair : PairSt
  bpd : BpdSt
  mgmt : MgmtSt
  flt : FltSt
  pmc : PmcSt
  boot : BootSt
  out : List Emit
  pending : List Instr
  freeNo : Nat
  deriving DecidableEq, Repr

/-! ### Outcomes -/

/-- Reasons a step stops the block for good. -/
inductive Fault where
  /-- The Translation Cache is asked to rebuild a line whose records have left the ring: the spec says it cannot
  occur (Table 5.5, last row); no meaning raises it, since the spec then fences the Storage region. Safe. -/
  | ringOverrun
  deriving DecidableEq, Repr

/-- Reasons a command has no meaning. -/
inductive Refusal where
  /-- Raised by the dispatcher for a command whose meaning is not written. Safe. -/
  | notModelled (mnemonic : String)
  deriving DecidableEq, Repr

/-- The result of a meaning. -/
abbrev Res (σ : Type) := Host.Outcome σ Fault Refusal

/-! ### Reset -/

/-- A lane of a Sheet port before training. -/
def SheetLane.reset : SheetLane := ⟨false, false, 0, [], 0, 0⟩

/-- A Sheet port with its bay empty (Tables 9.10 and 9.12: OFF, ABSENT). -/
def Port.reset : Port :=
  { st := .off, attempts := 0, lane0 := SheetLane.reset, lane1 := SheetLane.reset, initRx := false,
    initSeen := false, seenSent := false, modLanes := 0, txSeq := 0, rxSeq := 0, replay := [],
    nakSent := false, ackDue := false, crCmd := 0, crData := 0, failTimes := [], ops := [], nextTag := 0,
    modSt := .absent, desc := none, descPart := none, serialOk := none, epochSeen := 0, ownerSeen := 0, status := .none, answered := false,
    temp := 0, unreachSince := 0, returned := false, needErase := [], erasedBack := [], latchedLost := false,
    presentAtFormat := false, dieTimeouts := [], dieReset := [], laneErr := 0, slowed := false, hot := false }

/-- A health record started from zero (R209). -/
def Health.reset : Health :=
  { serial := 0, cwRead := 0, bitsCorrected := 0, hourCw := 0, hourBits := 0, retries := 0,
    reconstructed := 0, capCost := 0, probesDropped := 0, programFails := 0, eraseFails := 0, silent := 0,
    silentCycle := 0, reconHour := [], tempNow := 0, tempPeak := 0, tempHist := List.replicate 16 0,
    minuteBands := 0, ageClock := 0 }

/-- A write stream at format (R143). -/
def Stream.reset : Stream := ⟨0, none, 0, none⟩

/-- An unused queue pair (R283). -/
def Qp.reset : Qp :=
  { st := .free, since := 0, port := 0, addr := 0, hostQpn := 0, pmtu := 0, tenant := none, ctl := none,
    qid := 0, admin := false, chain := none, entries := 0, responder := 0, ackT := 0, retryMax := 0,
    rnrMax := 0, retries := 0, rnrTries := 0, rnrUntil := 0, ePsn := 0, held := [], heldSince := none,
    nakOut := false, inq := [], msn := 0, ackDue := none, sPsn := 0, reqs := [], sends := [], hostCredit := 0, cqes := [], ledgerWait := [], rc := 0, rt := 0, alpha := 0, k := 0,
    lastCnpRx := 0, lastCnpTx := none }

/-- An RDMA cell with nothing in hand. -/
def RdmaCell.reset : RdmaCell := ⟨0, 0, 0, 0, 0, []⟩

/-- A front port at chip reset (R299, R300). -/
def FrontPort.reset : FrontPort := ⟨false, 0, 0, 0, [], [], 0, 0, 0, 0, 0⟩

/-- A DRBG instance at chip reset (R344). -/
def Drbg.reset : Drbg := ⟨none, false, 0⟩

/-- A shroud that has carried no message. -/
def ShroudSt.reset : ShroudSt := ⟨false, []⟩

/-- No swap in progress (R376 to R378). -/
def Swap.reset : Swap := ⟨false, false, 0, 0, none⟩

/-- A feed before its first sample (R382, Table 16.10). -/
def FeedSt.reset : FeedSt := ⟨false, 0, true, false, 0, false⟩

/-- Bay channel settings at reset, Table 16.13. -/
def BayCfg.reset : BayCfg := ⟨2, false, 25, 25, 5, 50⟩

/-- A bay channel at auxiliary power-on, Tables 16.12 and 16.13. -/
def Chan.reset : Chan :=
  { st := .off, pres := false, pg := false, ilimAct := false, enabled := false, togglePend := false,
    lastFault := 0, current := 0, trips := 0, cfg := BayCfg.reset, run := BayCfg.reset, since := 0 }

/-- A mailbox at reset, Table 17.6. -/
def Mbx.reset : Mbx :=
  { st := .idle, overrun := false, wrBusy := false, dmaHold := false, token := 0, notify := false, evq := 0, takenSeq := 0, wait := .free, bay := none, fetching := false, discard := false, buf := [] }

/-- An event queue at reset, Table 17.9. -/
def Evq.reset : Evq :=
  { enabled := false, base := 0, log2n := 0, vector := 0, countTh := 0, timeTh := 0, head := 0, tail := 0,
    overflow := false, headErr := false, armed := false, heldRecs := [], seq := 0, unsignalled := 0,
    oldest := 0 }

/-- An MSI-X vector at reset: masked, as PCIe leaves it. -/
def Msix.reset : Msix := ⟨0, 0, true, false⟩

/-- A counter bank at reset, Tables 20.4 and 20.5. -/
def Bank.reset : Bank := ⟨false, false, 0, [], 0, 0, 0⟩

/-- A firmware slot holding nothing valid. -/
def FwSlot.reset : FwSlot := ⟨false, 0, 0, 0, false⟩

/-- Firmware slot A at reset: a valid image of interface 1.0 (DESIGN CHOICE: the spec states no first content of the SPI NOR). -/
def FwSlot.first : FwSlot := ⟨true, 0, 0x00010000, 0, false⟩

/-- Board facts before the fuses are read. -/
def Board.reset : Board := ⟨1, 0, false, 0, [], 0⟩

/-- The manual's defaults of the thirteen live settings of Table 2.17, in ID order. -/
def liveDefaults : List Nat := [2, 6, 70, 20, 90, 40, 256, 64, 1, 5, 105, 7, 24]

/-- Time at reset: the frame number starts at 0 (R26). -/
def Clk.reset : Clk := ⟨0, 0, 0, 0, true⟩

/-- The storage function at reset: EMPTY (Table 2.13). -/
def Fn.reset : Fn :=
  { st := .empty, readOnly := false, roCause := 0, lastCheck := 0, refusal := 0, stoppedByCmd := false,
    drain := none, committed := none, staged := none, rules := none, live := [], kept := [],
    changes := [], lanesOpen := false, arming := none }

/-- Scheduling at reset: no command taken. -/
def Sched.reset : Sched :=
  { left := [], debt := [], staged := [], inputs := List.replicate 18 [], lastTaken := List.replicate 18 0,
    nextOrder := 1, cmds := [], overlap := [], lastRead := [], lastWrite := [], work := [], grants := [],
    late := [], intakeStopped := false, peerHeld := [] }

/-- The forward map with every entry unmapped (R74). -/
def MapSt.reset : MapSt := ⟨[], [], 0, [], [], [], [], [], [], 0⟩

/-- The Translation Cache empty, its registers at Tables 5.8 to 5.11. -/
def TcSt.reset : TcSt :=
  { lines := [], miss := [], wb := [], ctrlOp := 0, ctrlByNs := false, ctrlUnlock := false, ctrlNs := 0,
    lba := 0, len := 0, busy := false, done := false, error := false, overrun := false, errCode := 0,
    resLines := 0, resWritten := 0, resNotLocked := 0, range := [], lockMask := 0, lockNext := none,
    reqOff := 0, on := 0xF, thermalOff := [], errCorrected := 0, errParity := 0, errRebuilt := 0,
    goMbx := none, pinQueue := [], queue := [], runOp := 0, runNs := 0 }

/-- The write log of a shelf never formatted. -/
def LogSt.reset : LogSt :=
  { streams := List.replicate 64 Stream.reset, stripes := [], units := [], rows := [], validBay := [],
    jposNext := 1, journal := [], tailSince := 0, chains := [], sjCopies := [], sjPage := none, sjWait := [],
    sjPeer := [], root := none, rootMoved := [], rootImage := none, rootRclk := 0, ckpt := none,
    strikeArmed := false, strikeHalf := 0, halfErased := [false, false], halfUsed := none,
    strike := .idle, strikeRows := [], strikeResets := [], padWait := [], mirrorBuf := [], peerHigh := 0, waiting := [] }

/-- No loss, no rebuild, the patrol at its start. -/
def RebSt.reset : RebSt :=
  { loss := [], dirs := [], st := .idle, kept := .idle, unit := 0, index := 0, sweepMpn := 0,
    sweepPending := false, repaired := 0, poisonedCount := 0, lostCw := [], retryHeld := false, batch := [],
    batchPhase := 0, batchNo := 0, journalLost := [], patrolUnit := 0, patrolIndex := 0, patrolRole := 0,
    patrolCycleStart := 0, patrolGot := [], patrolSeen := [], patrolBad := [], patrolLate := [], rewrite := [] }

/-- Media records of a shelf never used. -/
def MedSt.reset : MedSt :=
  { blocks := [], bins := [], mgen := 0, records := [], unitHealth := [], dieRetired := [],
    health := List.replicate 48 Health.reset, capHour := [], probes := [], warns := [], reconCycle := [],
    condemned := [], ctlHist := List.replicate 16 0 }

/-- No read in progress. -/
def RdSt.reset : RdSt := ⟨[], [], 0⟩

/-- Every port OFF, every bay empty, nothing programmed. -/
def SheetSt.reset : SheetSt :=
  { ports := List.replicate 48 Port.reset, modules := List.replicate 48 none, media := [], epoch := 0,
    programsHeld := false }

/-- No NVMe controller. -/
def NvmeSt.reset : NvmeSt := ⟨[], [], [], 0, [], [], [], [], []⟩

/-- No queue pair in use. -/
def RdmaSt.reset : RdmaSt := ⟨[], List.replicate 16 RdmaCell.reset, []⟩

/-- Classifier and switch empty. -/
def NetSt.reset : NetSt :=
  { ports := List.replicate 8 FrontPort.reset, frags := [], parked := [], tableFull := 0, parkTimeouts := 0,
    parkOverflow := 0, noDest := 0, clsDrops := 0, rulePhase := List.replicate 32 .running, ruleNext := none,
    ruleMbx := none, ruleFrame := 0, voqs := [], nextFrame := 0, grantPtr := [], acceptPtr := List.replicate 14 0,
    deficit := [], avg := [], buckets := [], shapers := [], paused := [], xoff := [],
    eligDrops := 0, profileDrops := 0, pushDrops := 0, admitDrops := 0, redDrops := 0, ecnMarks := 0,
    cirBucket := [], offers := [], offerPtr := List.replicate 4 0, ctlDiscards := 0 }

/-- Every key slot EMPTY, no shelf key, retention clock 0. -/
def CipSt.reset : CipSt := ⟨[], none, List.replicate 4 Drbg.reset, [], [], 0, [], [], []⟩

/-- Pair state INIT, no lease (Table 15.2). -/
def PairSt.reset : PairSt :=
  { st := .init, hold := .no, term := 0, seenTerm := 0, seq := 0, sent := [], expiry := 0, lastRenew := 0,
    lastGranted := false, releaseAt := 0, lapsedT := 0, heardSince := false,
    shA := ShroudSt.reset, shB := ShroudSt.reset, peerState := none, peerFn := 0, peerLeaseMs := none, peerReach := 0,
    peerChan := 0, groups := [true, true], groupTries := [0, 0], take := .cold, takeStep := 0, initSince := 0, resync := 0, swap := Swap.reset }

/-- The BPD with auxiliary power just applied (Tables 16.9 to 16.13). -/
def BpdSt.reset : BpdSt :=
  { aux := true, feedA := FeedSt.reset, feedB := FeedSt.reset, sel := .init, onBSince := 0,
    switches := 0, mainOn := false, strikeTrig := false, busOk := false, busIn := false, testBusy := false,
    testMbx := none, holdUs := 0, testAt := none, testFail := false, chans := List.replicate 48 Chan.reset,
    held := [], lostWords := false, temp := 0, rails := 0, railAttempt := 0, railsOff := false,
    pwrFault := false, refclk := true, mainReset := true }

/-- The management endpoint at reset (Tables 17.6, 17.9, 17.12). -/
def MgmtSt.reset : MgmtSt :=
  { bme := false, d3 := false, tags := [], poisonIn := 0, poisonOut := 0, cplTimeout := 0, lateCpl := 0,
    aer := 0, cplTo := 1000, linkSpeed := 0, linkWidth := 0, retrains := 0,
    msix := List.replicate 64 Msix.reset, mbx := List.replicate 64 Mbx.reset, taken := 0,
    evqs := List.replicate 64 Evq.reset, routes := [], sdtGen := 0,
    sessions := List.replicate 8 none, nextSession := 1, dropped := 0 }

/-- No fault, the history recording, FAULT_SEQ from 1 (R442, Tables 19.7 and 19.8). -/
def FltSt.reset : FltSt :=
  { cells := [], concs := [], opens := [], hist := .recording, history := [], histHead := 0, after := 0, trigSeq := 0,
    preserved := false, fSeen := false, seqNext := 1, counts := [0, 0, 0, 0, 0], fenced := 0,
    summarised := 0, summary := [], stopped := false, stopTimes := [], stuck := false, withdrawn := [],
    withdrawTimes := [], coreResets := [], dramPages := [], bpdIf := false }

/-- Every counter 0 and off (R456). -/
def PmcSt.reset : PmcSt := ⟨[], [], [], List.replicate 16 Bank.reset⟩

/-- Start-up before its first step, the SPI NOR holding firmware in slot A and nothing else. -/
def BootSt.reset : BootSt :=
  { board := Board.reset, step := 1, running := 0, active := 1, failed := 0,
    slotA := FwSlot.first, slotB := FwSlot.reset, svnFuses := 0,
    opKeys := List.replicate 8 0, rigKey := none, devKeyId := 0, shelfKeyNor := none, sealSeq := 0,
    advSeq := 0, declCopy := none, junction := 0, thermal := 0, aboveSince := 0, belowSince := 0,
    tripSince := none, tripHold := false }

/-- The block right after auxiliary power comes into its window (Table 21.1), on a shelf never formatted. -/
def State.reset : State :=
  { clk := Clk.reset, fn := Fn.reset, sched := Sched.reset, map := MapSt.reset, tc := TcSt.reset,
    log := LogSt.reset, reb := RebSt.reset, med := MedSt.reset, rd := RdSt.reset, sheet := SheetSt.reset,
    nvme := NvmeSt.reset, rdma := RdmaSt.reset, net := NetSt.reset, cip := CipSt.reset,
    pair := PairSt.reset, bpd := BpdSt.reset, mgmt := MgmtSt.reset, flt := FltSt.reset,
    pmc := PmcSt.reset, boot := BootSt.reset, out := [], pending := [], freeNo := 0 }

end Sys2Proof.Machine
end

