-- ==== Sys2Proof/Machine/Tab.lean ====
section
/-! DEFINITION. Sparse tables: lists of (key, value) with keys strictly rising. -/

namespace Sys2Proof.Machine

variable {α : Type}

/-- The entry of key `k`, if the table lists one. -/
def tabGet : Tab α → Nat → Option α
  | [], _ => none
  | (j, v) :: t, k => if j = k then some v else if k < j then none else tabGet t k

/-- The entry of key `k`, or the default `d` where none is listed. -/
def tabGetD (t : Tab α) (k : Nat) (d : α) : α := (tabGet t k).getD d

/-- The table with `v` listed under key `k`. -/
def tabPut : Tab α → Nat → α → Tab α
  | [], k, v => [(k, v)]
  | (j, w) :: t, k, v =>
    if k < j then (k, v) :: (j, w) :: t
    else if j = k then (k, v) :: t
    else (j, w) :: tabPut t k v

/-- The table with no entry for key `k`. -/
def tabDel : Tab α → Nat → Tab α
  | [], _ => []
  | (j, w) :: t, k => if j = k then t else if k < j then (j, w) :: t else (j, w) :: tabDel t k

/-- The table with `v` under key `k`, where a value equal to the default is not listed: the canonical form
of a table that reads `d` where nothing is listed. -/
def tabPutD [DecidableEq α] (d : α) (t : Tab α) (k : Nat) (v : α) : Tab α :=
  if v = d then tabDel t k else tabPut t k v

/-- The table with the listed entry of key `k` changed by `f`; unchanged where none is listed. -/
def tabMod (t : Tab α) (k : Nat) (f : α → α) : Tab α :=
  match tabGet t k with
  | none => t
  | some v => tabPut t k (f v)

/-- The table with the entry of key `k` (default `d`) changed by `f`. -/
def tabUpd (d : α) (t : Tab α) (k : Nat) (f : α → α) : Tab α :=
  tabPut t k (f (tabGetD t k d))

/-- Every listed value changed by `f`. -/
def tabMap (f : Nat → α → α) (t : Tab α) : Tab α := t.map fun e => (e.1, f e.1 e.2)

/-- The entries that `p` keeps. -/
def tabKeep (p : Nat → α → Bool) (t : Tab α) : Tab α := t.filter fun e => p e.1 e.2

/-- The first entry, in key order, that `p` accepts. -/
def tabFind (p : Nat → α → Bool) (t : Tab α) : Option (Nat × α) := t.find? fun e => p e.1 e.2

/-- Whether some listed entry satisfies `p`. -/
def tabAny (p : Nat → α → Bool) (t : Tab α) : Bool := t.any fun e => p e.1 e.2

/-- Keys strictly rising. -/
def tabWf : Tab α → Bool
  | [] => true
  | [_] => true
  | (a, _) :: (b, w) :: t => decide (a < b) && tabWf ((b, w) :: t)

/-- List element `i`, or `d` past the end. -/
def nth (l : List α) (i : Nat) (d : α) : α := l.getD i d

/-- The list with element `i` changed by `f`; unchanged past the end. -/
def modNth : List α → Nat → (α → α) → List α
  | [], _, _ => []
  | x :: t, 0, f => f x :: t
  | x :: t, i + 1, f => x :: modNth t i f

/-- The list with element `i` replaced by `v`. -/
def putNth (l : List α) (i : Nat) (v : α) : List α := modNth l i fun _ => v

/-- The indices below `n` that `p` accepts, rising. -/
def indices (n : Nat) (p : Nat → Bool) : List Nat := (List.range n).filter p

/-- Put an element into a list sorted by `f`, before those of the same value. -/
def insertBy (f : α → Nat) (x : α) : List α → List α
  | [] => [x]
  | y :: t => if f x ≤ f y then x :: y :: t else y :: insertBy f x t

/-- The list sorted by `f`, equal elements in their order. -/
def sortBy (f : α → Nat) (l : List α) : List α := l.foldr (insertBy f) []

end Sys2Proof.Machine
end

