-- ==== Sys2Proof/Machine/Ops.lean ====
section
/-! DEFINITION. The named operations over the state: one updater per group of fields, time, what is sent
outward, events and their queues, fault words and their concentrators. -/

namespace Sys2Proof.Machine

/-! ### Updaters -/

/-- Change time. -/
def State.onClk (s : State) (g : Clk → Clk) : State :=
  { s with clk := g s.clk }

/-- Change the storage function. -/
def State.onFn (s : State) (g : Fn → Fn) : State :=
  { s with fn := g s.fn }

/-- Change scheduling. -/
def State.onSched (s : State) (g : Sched → Sched) : State :=
  { s with sched := g s.sched }

/-- Change the forward map. -/
def State.onMap (s : State) (g : MapSt → MapSt) : State :=
  { s with map := g s.map }

/-- Change the Translation Cache. -/
def State.onTc (s : State) (g : TcSt → TcSt) : State :=
  { s with tc := g s.tc }

/-- Change the write log. -/
def State.onLog (s : State) (g : LogSt → LogSt) : State :=
  { s with log := g s.log }

/-- Change rebuild and patrol. -/
def State.onReb (s : State) (g : RebSt → RebSt) : State :=
  { s with reb := g s.reb }

/-- Change media records. -/
def State.onMed (s : State) (g : MedSt → MedSt) : State :=
  { s with med := g s.med }

/-- Change reads in progress. -/
def State.onRd (s : State) (g : RdSt → RdSt) : State :=
  { s with rd := g s.rd }

/-- Change the Sheet ports and modules. -/
def State.onSheet (s : State) (g : SheetSt → SheetSt) : State :=
  { s with sheet := g s.sheet }

/-- Change the NVMe side. -/
def State.onNvme (s : State) (g : NvmeSt → NvmeSt) : State :=
  { s with nvme := g s.nvme }

/-- Change the RDMA engine. -/
def State.onRdma (s : State) (g : RdmaSt → RdmaSt) : State :=
  { s with rdma := g s.rdma }

/-- Change classifier and switch. -/
def State.onNet (s : State) (g : NetSt → NetSt) : State :=
  { s with net := g s.net }

/-- Change keys and the retention clock. -/
def State.onCip (s : State) (g : CipSt → CipSt) : State :=
  { s with cip := g s.cip }

/-- Change the pair. -/
def State.onPair (s : State) (g : PairSt → PairSt) : State :=
  { s with pair := g s.pair }

/-- Change the Bay Power Die. -/
def State.onBpd (s : State) (g : BpdSt → BpdSt) : State :=
  { s with bpd := g s.bpd }

/-- Change the management endpoint. -/
def State.onMgmt (s : State) (g : MgmtSt → MgmtSt) : State :=
  { s with mgmt := g s.mgmt }

/-- Change faults and the Crowsnest. -/
def State.onFlt (s : State) (g : FltSt → FltSt) : State :=
  { s with flt := g s.flt }

/-- Change performance counters. -/
def State.onPmc (s : State) (g : PmcSt → PmcSt) : State :=
  { s with pmc := g s.pmc }

/-- Change start-up, SPI NOR and heat. -/
def State.onBoot (s : State) (g : BootSt → BootSt) : State :=
  { s with boot := g s.boot }

/-- Record something sent or driven outward. -/
def State.emit (s : State) (e : Emit) : State := { s with out := e :: s.out }

/-- Take one free value: the counter that numbers them advances. -/
def State.tick (s : State) : State := { s with freeNo := s.freeNo + 1 }

/-- The state with `q` as its queue of waiting commands. -/
def State.withPending (s : State) (q : List Instr) : State := { s with pending := q }
/-! ### Elements of the state's lists and tables -/

/-- Change the Sheet port of bay `b`. -/
def State.onPort (s : State) (b : Nat) (g : Port → Port) : State :=
  s.onSheet fun x => { x with ports := modNth x.ports b g }

/-- The Sheet port of bay `b`. -/
def State.port (s : State) (b : Nat) : Port := nth s.sheet.ports b Port.reset

/-- Change the module in bay `b`, if one is there. -/
def State.onModule (s : State) (b : Nat) (g : Module → Module) : State :=
  s.onSheet fun x => { x with modules := modNth x.modules b (Option.map g) }

/-- The module in bay `b`. -/
def State.module (s : State) (b : Nat) : Option Module := nth s.sheet.modules b none

/-- Change mailbox `m`. -/
def State.onMbx (s : State) (m : Nat) (g : Mbx → Mbx) : State :=
  s.onMgmt fun x => { x with mbx := modNth x.mbx m g }

/-- Mailbox `m`. -/
def State.mbx (s : State) (m : Nat) : Mbx := nth s.mgmt.mbx m Mbx.reset

/-- Change event queue `q`. -/
def State.onEvq (s : State) (q : Nat) (g : Evq → Evq) : State :=
  s.onMgmt fun x => { x with evqs := modNth x.evqs q g }

/-- Event queue `q`. -/
def State.evq (s : State) (q : Nat) : Evq := nth s.mgmt.evqs q Evq.reset

/-- Change bay channel `b`. -/
def State.onChan (s : State) (b : Nat) (g : Chan → Chan) : State :=
  s.onBpd fun x => { x with chans := modNth x.chans b g }

/-- Bay channel `b`. -/
def State.chan (s : State) (b : Nat) : Chan := nth s.bpd.chans b Chan.reset

/-- Change queue pair `q`; a queue pair not listed is FREE and stays so. -/
def State.onQp (s : State) (q : Nat) (g : Qp → Qp) : State :=
  s.onRdma fun x => { x with qps := tabMod x.qps q g }

/-- Queue pair `q`. -/
def State.qp (s : State) (q : Nat) : Qp := tabGetD s.rdma.qps q Qp.reset

/-- Change the RDMA cell of queue pair `q`: cell q mod 16 (R277). -/
def State.onCell (s : State) (q : Nat) (g : RdmaCell → RdmaCell) : State :=
  s.onRdma fun x => { x with cells := modNth x.cells (q % 16) g }

/-- The RDMA cell of queue pair `q` (R277). -/
def State.cell (s : State) (q : Nat) : RdmaCell := nth s.rdma.cells (q % 16) RdmaCell.reset

/-- Change the command that holds order number `n`. -/
def State.onCmd (s : State) (n : Nat) (g : Cmd → Cmd) : State :=
  s.onSched fun x => { x with cmds := tabMod x.cmds n g }

/-- The command that holds order number `n` (R59). -/
def State.cmd (s : State) (n : Nat) : Option Cmd := tabGet s.sched.cmds n

/-- Change NVMe controller `c`. -/
def State.onCtl (s : State) (c : Nat) (g : NvmeCtl → NvmeCtl) : State :=
  s.onNvme fun x => { x with ctls := tabMod x.ctls c g }

/-- Change the health record of bay `b`. -/
def State.onHealth (s : State) (b : Nat) (g : Health → Health) : State :=
  s.onMed fun x => { x with health := modNth x.health b g }

/-- The health record of bay `b` (R209). -/
def State.health (s : State) (b : Nat) : Health := nth s.med.health b Health.reset

/-! ### Bits and bytes -/

/-- Bits [hi:lo] of the number `x`. -/
def bits (x hi lo : Nat) : Nat := x / 2 ^ lo % 2 ^ (hi + 1 - lo)

/-- `n` bytes of `x`, little-endian (R8). -/
def leBytes : Nat → Nat → List (BitVec 8)
  | 0, _ => []
  | n + 1, x => BitVec.ofNat 8 x :: leBytes n (x / 256)

/-- The number that little-endian bytes spell (R8). -/
def ofLe : List (BitVec 8) → Nat
  | [] => 0
  | b :: t => b.toNat + 256 * ofLe t

/-- 1 for true, 0 for false. -/
def b2n (b : Bool) : Nat := if b then 1 else 0

/-- Saturating addition at `top`. -/
def satAdd (top a n : Nat) : Nat := if a + n ≤ top then a + n else top

/-- The number of set bits of a mask of `w` bits. -/
def ones {w : Nat} (m : BitVec w) : Nat := ((List.range w).filter fun i => m.getLsbD i).length

/-- Bytes of data as 4,096-byte sectors, the last padded with zeros. -/
def packSectors : Nat → List (BitVec 8) → List Sector
  | 0, _ => []
  | _ + 1, [] => []
  | n + 1, b :: t => BitVec.ofNat 32768 (ofLe ((b :: t).take 4096)) :: packSectors n ((b :: t).drop 4096)

/-- One step of CRC-32C, reflected, for one bit (PRESUMED: the Castagnoli polynomial 0x82F63B78). -/
def crcStep (c : BitVec 32) : BitVec 32 :=
  if c.getLsbD 0 then (c >>> 1) ^^^ 0x82F63B78#32 else c >>> 1

/-- CRC-32C register after one more byte. -/
def crcByte (c : BitVec 32) (b : BitVec 8) : BitVec 32 :=
  crcStep (crcStep (crcStep (crcStep (crcStep (crcStep (crcStep (crcStep (c ^^^ b.setWidth 32))))))))

/-- CRC-32C of a byte string. -/
def crc32c (l : List (BitVec 8)) : BitVec 32 := ~~~ (l.foldl crcByte 0xFFFFFFFF#32)

/-! ### Time -/

/-- The slots since the block's time began (0.625 ns each): the schedule clock of R26 and R58. -/
def State.now (s : State) : Nat := s.clk.base + 16384 * s.clk.frame + s.clk.slot

/-- Slots in `n` microseconds (1,600 slots of 0.625 ns). -/
def us (n : Nat) : Nat := 1600 * n

/-- Slots in `n` milliseconds. -/
def ms (n : Nat) : Nat := 1600000 * n

/-- Slots in `n` seconds. -/
def secs (n : Nat) : Nat := 1600000000 * n

/-- Timebase time in nanoseconds, outside the guarantee (R53). -/
def State.timeNs (s : State) : Nat := s.now * 5 / 8

/-- Live setting `i` of Table 2.17 (in ID order from 0): the value a command set, else DEFAULT of section 0x000D, else
this manual's default (R493). -/
def State.setting (s : State) (i : Nat) : Nat :=
  match tabGet s.fn.live i with
  | some v => v
  | none => match s.fn.committed with
    | some im => match im.settings.bounds.find? fun b => b.id == i + 1 with
      | some b => b.default
      | none => nth liveDefaults i 0
    | none => nth liveDefaults i 0

/-- The image the next root record commits: the one being armed, else the committed one (R43). -/
def State.nextImage (s : State) : Option RigImage := match s.fn.arming with
  | some i => some i
  | none => s.fn.committed

/-- An arrival has lost to its timer: it is counted in the late-arrival counter of the receiving block (R65). -/
def State.countLate (s : State) (block : Nat) : State := s.onSched fun x => { x with late := tabUpd 0 x.late block (· + 1) }

/-! ### Events (R406 to R411, R448 to R450) -/

/-- Whether requests may be sent: bus mastering on and the function not in D3hot (R400, R415). -/
def State.master (s : State) : Bool := s.mgmt.bme && !s.mgmt.d3

/-- Send MSI-X vector `v`, or set its pending bit while it is masked or bus mastering is off (R411, R415). -/
def State.msix (s : State) (v : Nat) : State :=
  if s.master && !(nth s.mgmt.msix v Msix.reset).masked then s.emit (.msix v)
  else s.onMgmt fun x => { x with msix := modNth x.msix v fun e => { e with pend := true } }

/-- P of R409: entries written and not consumed. -/
def evqPending (e : Evq) : Nat := (e.tail + 2 ^ 32 - e.head) % 2 ^ 32

/-- The phase of the record written at tail `t` in a ring of `n` entries (R408). -/
def evqPhase (t n : Nat) : Bool := (t / n + 1) % 2 = 1

/-- Send the queue's vector if it is armed and a condition of R411 holds (`force`: an overflow record). -/
def State.evqSignal (s : State) (q : Nat) (force : Bool) : State :=
  let e := s.evq q
  if e.armed && (force || decide (0 < e.unsignalled ∧ e.countTh ≤ e.unsignalled)) then
    (s.onEvq q fun e => { e with armed := false, unsignalled := 0 }).msix e.vector
  else s

/-- The 32 little-endian bytes of a record as the ring holds it (R8, Table 17.7): `time` in ns and the entry's phase. -/
def EvRec.bits (r : EvRec) (phase : Bool) (time : Nat) : BitVec 256 :=
  BitVec.ofNat 256 (r.source % 2 ^ 12 + 2 ^ 16 * (r.kind % 2 ^ 8) + 2 ^ 32 * (r.seq % 2 ^ 32) + 2 ^ 64 * (time % 2 ^ 64) + 2 ^ 128 * (r.data0 % 2 ^ 64)
    + 2 ^ 192 * (r.data1 % 2 ^ 32) + 2 ^ 255 * (if phase then 1 else 0))

/-- Write a record to the ring of queue `q`, as an overflow record in its last free entry, or drop it
(R409). -/
def State.evqWrite (s : State) (q : Nat) (r : EvRec) : State :=
  let e := s.evq q
  let n := 2 ^ e.log2n
  let p := evqPending e
  if n ≤ p then s
  else
    let ovf := p = n - 1
    let rec0 : EvRec := if ovf then { source := 0xFFF, kind := 0xFF, seq := r.seq, data0 := 0, data1 := 0 } else r
    let s1 := s.emit (.ring q (e.tail % n) (rec0.bits (evqPhase e.tail n) s.timeNs))
    let s2 := s1.onEvq q fun e =>
      { e with
        tail := (e.tail + 1) % 2 ^ 32
        overflow := e.overflow || ovf
        oldest := if e.armed && e.unsignalled == 0 then s.now else e.oldest
        unsignalled := if e.armed then e.unsignalled + 1 else e.unsignalled }
    s2.evqSignal q ovf

/-- Post a record to queue `q`: SEQ rises for every record routed; with bus mastering off up to 64 records are
held and the rest lost (R409, R415); a queue that is not enabled drops it (R410). -/
def State.evqPost (s : State) (q source kind data0 data1 : Nat) : State :=
  let e := s.evq q
  if !e.enabled then s.onMgmt fun x => { x with dropped := x.dropped + 1 }
  else
    let r : EvRec := { source := source, kind := kind, seq := e.seq, data0 := data0, data1 := data1 }
    let s1 := s.onEvq q fun e => { e with seq := (e.seq + 1) % 2 ^ 32 }
    if s.master then s1.evqWrite q r
    else if e.heldRecs.length < 64 then s1.onEvq q fun e => { e with heldRecs := e.heldRecs ++ [r] }
    else s1

/-- Raise an event at a source: the record goes to the queue its route names, or nowhere (R450). -/
def State.event (s : State) (source kind data0 data1 : Nat) : State :=
  match tabGet s.mgmt.routes source with
  | some q => s.evqPost q source kind data0 data1
  | none => s

/-- A STATE record (Table 19.10): new state, old state, cause, detail. -/
def State.eventState (s : State) (source new old cause detail : Nat) : State :=
  s.event source 2 (new % 256 + 256 * (old % 256) + 65536 * (cause % 256) + 2 ^ 24 * detail) 0

/-! ### Fault words (R437 to R441) -/

/-- Fault classes, Table 1.3. -/
def classC : Nat := 0
/-- T, transient. -/
def classT : Nat := 1
/-- U, uncorrectable. -/
def classU : Nat := 2
/-- X, uncontained. -/
def classX : Nat := 3
/-- F, fatal. -/
def classF : Nat := 4

/-- A fault word (Table 19.1). -/
def mkWord (level unit cls cause addr : Nat) : BitVec 64 :=
  BitVec.ofNat 64 (2 ^ 62 * (level % 4) + 2 ^ 50 * (unit % 4096) + 2 ^ 47 * (cls % 8) + 2 ^ 42 * (cause % 32)
    + addr % 2 ^ 42)

/-- LEVEL of a fault word. -/
def wLevel (w : BitVec 64) : Nat := bits w.toNat 63 62
/-- UNIT of a fault word. -/
def wUnit (w : BitVec 64) : Nat := bits w.toNat 61 50
/-- KIND of a fault word. -/
def wKind (w : BitVec 64) : Nat := bits w.toNat 49 42
/-- Class of a fault word. -/
def wClass (w : BitVec 64) : Nat := bits w.toNat 49 47
/-- Cause of a fault word. -/
def wCause (w : BitVec 64) : Nat := bits w.toNat 46 42
/-- ADDRESS of a fault word. -/
def wAddr (w : BitVec 64) : Nat := bits w.toNat 41 0

/-- The word with another KIND. -/
def withKind (w : BitVec 64) (k : Nat) : BitVec 64 :=
  BitVec.ofNat 64 (w.toNat / 2 ^ 50 * 2 ^ 50 + 2 ^ 42 * (k % 256) + wAddr w)

/-- ADDRESS for the causes that name a codeword or page set (Table 19.3): the bay and map entry bits
[33:0]. -/
def addrLoc (bay : Nat) (loc : Loc) : Nat := 2 ^ 36 * (bay % 64) + loc.toNat % 2 ^ 34

/-- ADDRESS for cause LANE (Table 19.3). -/
def addrLane (bay lane count : Nat) : Nat := 2 ^ 36 * (bay % 64) + 2 ^ 32 * (lane % 16) + count % 2 ^ 32

/-- The block of a cell unit (Table 1.4). -/
def cellBlock (u : Nat) : Option Nat :=
  if 0x110 ≤ u ∧ u ≤ 0x117 then some 0x101
  else if 0x118 ≤ u ∧ u ≤ 0x11B then some 0x102
  else if 0x11C ≤ u ∧ u ≤ 0x11D then some 0x105
  else if 0x120 ≤ u ∧ u ≤ 0x123 then some 0x107
  else if 0x124 ≤ u ∧ u ≤ 0x127 then some 0x108
  else if 0x140 ≤ u ∧ u ≤ 0x17F then some 0x103
  else if 0x180 ≤ u ∧ u ≤ 0x187 then some 0x104
  else if 0x190 ≤ u ∧ u ≤ 0x1BF then some 0x104
  else if 0x1C0 ≤ u ∧ u ≤ 0x1DF then some 0x106
  else if 0x210 ≤ u ∧ u ≤ 0x23F then some (0x201 + (u - 0x210) / 4)
  else if 0x240 ≤ u ∧ u ≤ 0x29F then some (0x201 + (u - 0x240) / 8)
  else if 0x310 ≤ u ∧ u ≤ 0x317 then some (0x301 + (u - 0x310))
  else if 0x318 ≤ u ∧ u ≤ 0x327 then some (0x301 + (u - 0x318) / 2)
  else if 0x328 ≤ u ∧ u ≤ 0x32F then some 0x309
  else if 0x330 ≤ u ∧ u ≤ 0x333 then some 0x30A
  else if u = 0x334 then some 0x30B
  else if 0x350 ≤ u ∧ u ≤ 0x35F then some 0x30C
  else if 0x360 ≤ u ∧ u ≤ 0x368 then some 0x30D
  else if 0x370 ≤ u ∧ u ≤ 0x37F then some (0x30E + (u - 0x370) / 4)
  else if 0x380 ≤ u ∧ u ≤ 0x382 then some 0x312
  else if 0x410 ≤ u ∧ u ≤ 0x414 then some 0x401
  else if 0x415 ≤ u ∧ u ≤ 0x417 then some (0x402 + (u - 0x415))
  else if u = 0x418 then some 0x406
  else if 0x419 ≤ u ∧ u ≤ 0x41F then some (0x408 + (u - 0x419))
  else if 0x420 ≤ u ∧ u ≤ 0x42F then some 0x405
  else if 0x430 ≤ u ∧ u ≤ 0x43B then some 0x407
  else if 0x440 ≤ u ∧ u ≤ 0x471 then some 0x40F
  else none

/-- The region of a block unit (Table 1.4). -/
def blockRegion (u : Nat) : Option Nat :=
  if 0x101 ≤ u ∧ u ≤ 0x108 then some 0x100
  else if 0x201 ≤ u ∧ u ≤ 0x20C then some 0x200
  else if 0x301 ≤ u ∧ u ≤ 0x312 then some 0x300
  else if 0x401 ≤ u ∧ u ≤ 0x40F then some 0x400
  else none

/-- A place in the hierarchy: 4096 × LEVEL + UNIT (R16; the level tells a block from a cell where Table 1.4
gives both one number). -/
abbrev Node := Nat

/-- The node of a word's LEVEL and UNIT. -/
def wNode (w : BitVec 64) : Node := 4096 * wLevel w + wUnit w

/-- The concentrator above a node: a cell's block, a block's region, a region's chip (R15). -/
def parentNode (n : Node) : Option Node :=
  if n / 4096 = 0 then (cellBlock (n % 4096)).map (4096 + ·)
  else if n / 4096 = 1 then (blockRegion (n % 4096)).map (8192 + ·)
  else if n / 4096 = 2 then
    if n % 4096 = 0x100 ∨ n % 4096 = 0x200 ∨ n % 4096 = 0x300 ∨ n % 4096 = 0x400 then some 12288 else none
  else none

/-- The region, 0 Storage to 3 Control, that holds a node; the chip has none. -/
def nodeRegion (n : Node) : Option Nat :=
  if n / 4096 = 0 then ((cellBlock (n % 4096)).bind blockRegion).map fun r => r / 256 - 1
  else if n / 4096 = 1 then (blockRegion (n % 4096)).map fun r => r / 256 - 1
  else if n / 4096 = 2 then (parentNode n).map fun _ => n % 4096 / 256 - 1
  else none

/-- Whether LEVEL and UNIT name a unit of Table 1.4 (R17). -/
def unitKnown (w : BitVec 64) : Bool :=
  match wLevel w with
  | 0 => (cellBlock (wUnit w)).isSome
  | 1 => (blockRegion (wUnit w)).isSome
  | 2 => (parentNode (8192 + wUnit w)).isSome
  | _ => wUnit w == 0

/-- Causes of Table 19.2 (R438). -/
def causeKnown (c : Nat) : Bool := decide (c ≤ 0x19) || c == 0x1F

/-- Causes whose records firmware closes: the M rows of Table 19.2 (R438, R441). -/
def causeM (c : Nat) : Bool :=
  c == 0x02 || c == 0x04 || c == 0x0E || c == 0x12 || c == 0x13 || c == 0x14

/-- Two words of one unit combined (R440): the first word's place and address, the higher class and the KIND
of the word that carries it. -/
def mergeWord (a : FWord) (w : BitVec 64) : FWord :=
  { a with
    word := if wClass a.word < wClass w then withKind a.word (wKind w) else a.word
    merged := satAdd 65535 a.merged 1 }

/-- A fresh word. -/
def FWord.fresh (w : BitVec 64) : FWord :=
  { word := w, merged := 0, escalated := false, fromBpd := false }

/-- A channel or the concentrator of the Bay Power Die, which keeps running through every reset of the main die (R20, Table 1.4). -/
def bpdNode (n : Node) : Bool := n == 0x140F || decide (0x440 ≤ n ∧ n ≤ 0x471)

/-- Whether the word comes from the Bay Power Die or its channels (R20, R21). -/
def fromBpdUnit (w : BitVec 64) : Bool :=
  (wLevel w == 1 && wUnit w == 0x40F) || (wLevel w == 0 && decide (0x440 ≤ wUnit w ∧ wUnit w ≤ 0x471))

/-- The concentrator holding a word of this node in handling, if any. -/
def handlingOf (f : FltSt) (n : Node) : Option Node :=
  (f.concs.find? fun e => match e.2.handling with
    | some w => wNode w.word == n
    | none => false).map (·.1)

/-- The words taken into a region's summary so far. -/
def FltSt.inSummary (f : FltSt) (region : Nat) : Nat := ((f.summary.find? fun e => e.1 == region).map (·.2)).getD 0

/-- Take a word into its fenced region's summary word, whose ADDRESS counts them (R18, Table 19.3). The one summary entry of the history
is brought up to date in place; it stays as it is once it has been overwritten (DESIGN CHOICE, notes/assumptions/40.md). -/
def FltSt.summarise (f : FltSt) (region count : Nat) : FltSt :=
  let n := f.inSummary region + count
  { f with
    summarised := satAdd 65535 f.summarised count
    summary := f.summary.map fun e => if e.1 = region then (region, n) else e
    history := f.history.map fun e =>
      if e.flags.getLsbD 3 && wUnit e.word == 0x100 * (region + 1) then
        { e with word := BitVec.ofNat 64 (e.word.toNat / 2 ^ 42 * 2 ^ 42 + n % 2 ^ 42) }
      else e }

/-- Whether region `r` is fenced. -/
def FltSt.isFenced (f : FltSt) (r : Nat) : Bool := f.fenced.getLsbD r

/-- Whether the main die is out of reset and not stopped: it may act on what arrives. -/
def State.awake (s : State) : Bool := !s.bpd.mainReset && !s.flt.stopped

/-- Whether the sequencers play the committed image (Table 2.11). -/
def State.sequencing (s : State) : Bool :=
  s.awake && (s.fn.st == .armed || s.fn.st == .running || s.fn.st == .draining)

/-- Whether the Network region takes new work: it is out of reset and not fenced (R18, R19). -/
def State.nrUp (s : State) : Bool := s.awake && !s.flt.isFenced 2

/-- A unit raises a fault word: a C word only counts; the Bay Power Die holds its words while the main die is
in reset or stopped, and until the BPD interface runs, up to 16; a word of a fenced region goes to its summary; a word whose unit has one waiting or in
handling is merged; otherwise it waits in its cell (R15, R18, R21, R437 to R440). -/
def State.raiseWord (s : State) (w : BitVec 64) : State :=
  if !unitKnown w || !causeKnown (wCause w) || decide (4 < wClass w) then s
  else if fromBpdUnit w && (s.bpd.mainReset || s.flt.stopped || !s.flt.bpdIf) then
    s.onBpd fun b =>
      if b.held.length < 16 then { b with held := b.held ++ [{ FWord.fresh w with fromBpd := true }] }
      else { b with lostWords := true }
  else if s.bpd.mainReset || s.flt.stopped then s
  else if wClass w = classC then
    s.onFlt fun f => { f with counts := modNth f.counts 0 (satAdd (2 ^ 64 - 1) · 1) }
  else
    let n := wNode w
    let region := nodeRegion n
    if (region.map s.flt.isFenced).getD false then
      s.onFlt fun f => f.summarise (region.getD 0) 1
    else
      match tabGet s.flt.cells n with
      | some a => s.onFlt fun f => { f with cells := tabPut f.cells n (mergeWord a w) }
      | none =>
        match handlingOf s.flt n with
        | some c =>
          s.onFlt fun f =>
            { f with concs := tabMod f.concs c fun k => { k with handling := k.handling.map (mergeWord · w) } }
        | none => s.onFlt fun f => { f with cells := tabPut f.cells n (FWord.fresh w) }

/-- A cell raises a word. -/
def State.raise (s : State) (unit cls cause addr : Nat) : State := s.raiseWord (mkWord 0 unit cls cause addr)

/-- A block raises a word. -/
def State.raiseBlock (s : State) (unit cls cause addr : Nat) : State :=
  s.raiseWord (mkWord 1 unit cls cause addr)

/-- Sheet port cell of bay `b` (R11). -/
def portUnit (b : Nat) : Nat := 0x210 + b

/-! ### Mailbox answers (R425, R429) -/

/-- A response with a status, a detail and no result (Tables 18.5, 18.6). -/
def mkResp (opcode status detail : Nat) : Resp :=
  { opcode := opcode, status := status, detail := detail, frame := 0, order := 0, xfer := 0, result := [] }

/-- The opcode of the command running in mailbox `m`, 0 if none runs. -/
def Mbx.opcode (b : Mbx) : Nat :=
  match b.wait with
  | .running op => op
  | .answer r => r.opcode
  | .free => 0

/-- Hand mailbox `m`'s running command its response; it is written by its completion (R425). -/
def State.answer (s : State) (m : Nat) (r : Resp) : State :=
  s.onMbx m fun b =>
    match b.wait with
    | .running op => { b with wait := .answer { r with opcode := op } }
    | .answer _ => b
    | .free => b

/-- Draw the next output of the DRBGs (R344, R346): a free value. -/
def State.draw (s : State) : BitVec 512 × State := (Config.drbgOut s.freeNo, s.tick)

/-- Take a free number. -/
def State.freeNat (s : State) : Nat × State := (Config.freeNat s.freeNo, s.tick)

end Sys2Proof.Machine
end

