-- ==== Sys2Proof/Machine/CipherOps.lean ====
section
/-! DEFINITION. Shared operations of chapters 4 and 14 on one codeword: its metadata, its CRC, and enciphering and
deciphering a host sector. -/

namespace Sys2Proof.Machine

/-! ### Codeword metadata, Table 4.6 -/

/-- `n` bytes of the metadata from offset `off`, as a number. -/
def mdField (p : Payload) (off n : Nat) : Nat := p.toNat / 2 ^ (32768 + 8 * off) % 2 ^ (8 * n)

/-- WSEQ. -/
def mdWseq (p : Payload) : Nat := mdField p 0x00 8
/-- ADDR [47:0], the LBA. -/
def mdLba (p : Payload) : Nat := bits (mdField p 0x08 8) 47 0
/-- ADDR [59:48], the namespace. -/
def mdNs (p : Payload) : Nat := bits (mdField p 0x08 8) 59 48
/-- ADDR [63:60], KIND. -/
def mdKind (p : Payload) : Nat := bits (mdField p 0x08 8) 63 60
/-- CMD_INDEX. -/
def mdIndex (p : Payload) : Nat := mdField p 0x10 1
/-- CMD_LAST. -/
def mdLast (p : Payload) : Nat := mdField p 0x11 1
/-- FLAGS. -/
def mdFlags (p : Payload) : Nat := mdField p 0x12 2
/-- FLAGS.POISON. -/
def mdPoison (p : Payload) : Bool := bits (mdFlags p) 0 0 == 1
/-- FLAGS.LEDGER. -/
def mdLedger (p : Payload) : Bool := bits (mdFlags p) 1 1 == 1
/-- FLAGS.TAGGED. -/
def mdTagged (p : Payload) : Bool := bits (mdFlags p) 3 3 == 1
/-- KEY [11:0]. -/
def mdKey (p : Payload) : Nat := bits (mdField p 0x14 2) 11 0
/-- LCHAIN. -/
def mdChain (p : Payload) : Nat := mdField p 0x16 2
/-- LCOUNT. -/
def mdCount (p : Payload) : Nat := mdField p 0x18 4
/-- TAG. -/
def mdTag (p : Payload) : BitVec 128 := BitVec.ofNat 128 (mdField p 0x20 16)
/-- CRC. -/
def mdCrc (p : Payload) : Nat := mdField p 0x30 4
/-- RELOC_GEN. -/
def mdReloc (p : Payload) : Nat := mdField p 0x34 2
/-- The 4,096 data bytes. -/
def plData (p : Payload) : Sector := p.setWidth 32768

/-- The CRC of Table 4.6: CRC-32C over the data and metadata bytes 0x00 to 0x2F. -/
def plCrc (p : Payload) : Nat := (crc32c (leBytes 4144 (p.toNat % 2 ^ 33152))).toNat

/-- A codeword payload from its data, the number its metadata bytes 0x00 to 0x2F spell, and RELOC_GEN, with
its CRC (Table 4.6). -/
def mkPayload (data : Sector) (md reloc : Nat) : Payload :=
  let body := data.toNat + 2 ^ 32768 * (md % 2 ^ 384)
  let crc := (crc32c (leBytes 4144 body)).toNat
  BitVec.ofNat 33280 (body + 2 ^ (32768 + 384) * crc + 2 ^ (32768 + 416) * (reloc % 65536))

/-- Metadata bytes 0x00 to 0x2F (Table 4.6). -/
structure Meta where
  wseq : Nat
  lba : Nat
  ns : Nat
  kind : Nat
  index : Nat
  last : Nat
  poison : Bool
  ledger : Bool
  retention : Bool
  tagged : Bool
  key : Nat
  chain : Nat
  count : Nat
  tag : BitVec 128
  deriving DecidableEq, Repr

/-- The number metadata bytes 0x00 to 0x2F spell. -/
def Meta.toNat (m : Meta) : Nat :=
  m.wseq % 2 ^ 64 + 2 ^ 64 * (m.lba % 2 ^ 48) + 2 ^ 112 * (m.ns % 4096) + 2 ^ 124 * (m.kind % 16)
    + 2 ^ 128 * (m.index % 256) + 2 ^ 136 * (m.last % 256) + 2 ^ 144 * b2n m.poison + 2 ^ 145 * b2n m.ledger
    + 2 ^ 146 * b2n m.retention + 2 ^ 147 * b2n m.tagged + 2 ^ 160 * (m.key % 4096) + 2 ^ 176 * (m.chain % 65536)
    + 2 ^ 192 * (m.count % 2 ^ 32) + 2 ^ 256 * m.tag.toNat

/-- The metadata of a sector the controller itself writes: only WSEQ, ADDR and KIND. -/
def sysMeta (wseq lba ns kind : Nat) : Meta :=
  { wseq := wseq, lba := lba, ns := ns, kind := kind, index := 0, last := 0, poison := false, ledger := false,
    retention := false, tagged := false, key := 0, chain := 0, count := 0, tag := 0 }

/-- A pad sector: KIND 1, WSEQ 0, never mapped (R85). -/
def padPayload : Payload := mkPayload 0 (sysMeta 0 0 0 1).toNat 0

/-- The same sector relocated: RELOC_GEN rises by one, saturating (R92). -/
def relocated (p : Payload) : Payload :=
  BitVec.ofNat 33280 (p.toNat % 2 ^ (32768 + 416)
    + 2 ^ (32768 + 416) * (satAdd 65535 (mdReloc p) 1))

/-- Whether a codeword read back is readable as the sector asked for: its CRC checks and it names the LBA,
namespace and KIND 0 (R92). -/
def hostMatch (p : Payload) (ns lba : Nat) : Bool :=
  mdCrc p == plCrc p && mdKind p == 0 && mdNs p == ns && mdLba p == lba

/-! ### Keys (R337 to R342, R345) -/

/-- Key slot `k` of the shelf; an unlisted slot is EMPTY. -/
def State.keySlot (s : State) (k : Nat) : KeySlot := tabGetD s.cip.slots k KeySlot.blank

/-- The slot as the key store holds it: its record unwrapped under the shelf key; without one no record can be unwrapped, and none is ACTIVE
there (R345, R347). -/
def State.storeKey (s : State) (k : Nat) : KeySlot :=
  let x := s.keySlot k
  match s.cip.shelfKey with
  | none => { x with st := 0, material := 0 }
  | some key => if x.st = 1 ∧ x.material = 0 then { x with material := Config.keyUnwrap key x.wrapped } else x

/-- A key slot record (Table 14.3). -/
def KeySlot.recNat (k : KeySlot) : Nat :=
  let body := k.st + 2 ^ 8 * k.mode + 2 ^ 32 * (k.gen % 2 ^ 32) + 2 ^ 64 * (k.sectors % 2 ^ 64) + 2 ^ 128 * k.check + 2 ^ 192 * k.wrapped.toNat
  body + 2 ^ 992 * (crc32c (leBytes 124 body)).toNat

/-- A key slot from its record; `old` is the slot as the key store held it, whose key is the same if GEN is. -/
def KeySlot.ofRec (n : Nat) (old : KeySlot) : KeySlot :=
  { st := bits n 7 0, mode := bits n 15 8, gen := bits n 63 32, sectors := bits n 127 64, check := bits n 159 128
    material := if bits n 7 0 = 1 ∧ old.st = 1 ∧ old.gen = bits n 63 32 then old.material else 0, wrapped := BitVec.ofNat 576 (n / 2 ^ 192) }

/-- KCV: the first 4 bytes of HMAC-SHA-384 keyed with the material over "KCV" (Table 14.3). -/
def kcv (k : KeySlot) : Nat := (Config.hmac384 k.material 3 (0x4B + 256 * 0x43 + 65536 * 0x56)).toNat % 2 ^ 32

/-- The cipher epoch of a sector: the entry with the greatest START not above its WSEQ (R341). -/
def State.epochOf (s : State) (wseq : Nat) : Nat :=
  (s.cip.epochs.foldl (fun (b : Option (Nat × Nat)) e =>
    if e.2 ≤ wseq then
      match b with
      | some x => if x.2 ≤ e.2 then some e else b
      | none => some e
    else b) none).map (·.1) |>.getD 0

/-- The AES key of a Sector-GCM sector in epoch `e` with slot `k`: the first 32 bytes of HMAC-SHA-384 keyed
with key bytes 0 to 31 over "GCMEPOCH", E and the slot number (R342). -/
def gcmKey (material : BitVec 512) (e k : Nat) : BitVec 256 :=
  (Config.hmac384 ((material.setWidth 256).setWidth 512) 14
    (0x48434F50454D4347 + 2 ^ 64 * (e % 2 ^ 32) + 2 ^ 96 * (k % 65536))).setWidth 256

/-- The Sector-GCM IV, Table 14.1. -/
def gcmIv (wseq ns lba : Nat) : BitVec 96 :=
  BitVec.ofNat 96 (wseq % 2 ^ 64 + 2 ^ 64 * (ns % 4096) + 2 ^ 76 * (lba % 2 ^ 20))

/-- The XTS tweak (R339): bits [47:0] the LBA, [59:48] the namespace number. -/
def xtsTweak (ns lba : Nat) : BitVec 128 := BitVec.ofNat 128 (lba % 2 ^ 48 + 2 ^ 48 * (ns % 4096))

/-- Encipher a host sector and build its payload: XTS, or Sector-GCM with its tag over metadata bytes 0x00 to
0x1F (R339, R340). -/
def encipher (s : State) (m : Meta) (key : KeySlot) (plain : Sector) : Payload :=
  if key.mode = 2 then
    let m1 := { m with tagged := true, tag := 0 }
    let k := gcmKey key.material (s.epochOf m.wseq) m.key
    let iv := gcmIv m.wseq m.ns m.lba
    let ct := Config.gcmEncrypt k iv plain
    mkPayload ct { m1 with tag := Config.gcmTag k iv (BitVec.ofNat 256 m1.toNat) ct }.toNat 0
  else mkPayload (Config.xtsEncrypt key.material (xtsTweak m.ns m.lba) plain) m.toNat 0

/-- The plaintext of a payload under a key slot (R339, R340). -/
def decipher (s : State) (p : Payload) (key : KeySlot) : Sector :=
  if mdTagged p then
    Config.gcmDecrypt (gcmKey key.material (s.epochOf (mdWseq p)) (mdKey p)) (gcmIv (mdWseq p) (mdNs p) (mdLba p)) (plData p)
  else Config.xtsDecrypt key.material (xtsTweak (mdNs p) (mdLba p)) (plData p)

/-- Whether a tagged payload's tag agrees with its bytes (R340, R350). -/
def tagGood (s : State) (p : Payload) (key : KeySlot) : Bool :=
  !mdTagged p ||
    Config.gcmTag (gcmKey key.material (s.epochOf (mdWseq p)) (mdKey p)) (gcmIv (mdWseq p) (mdNs p) (mdLba p))
      (BitVec.ofNat 256 (mdField p 0 32)) (plData p) == mdTag p

/-! ### The retention clock (R351) -/

/-- RCLK in milliseconds; the clock is kept in picoseconds of the scaled reference. -/
def State.rclk (s : State) : Nat := s.cip.rclkPs / 10 ^ 9

/-- The retention clock in minutes (R351). -/
def State.rclkMin (s : State) : Nat := s.rclk / 60000

end Sys2Proof.Machine
end

