-- ==== Sys2Proof/Machine/NetOps.lean ====
section
/-! DEFINITION. Shared operations of chapters 12 and 13: the classification key and walk, the native action,
policers, drop profiles, buffer admission, push-out and the virtual output queues. -/

namespace Sys2Proof.Machine

/-! ### The image in force -/

/-- The committed rig image's QoS section (R334). -/
def State.qos (s : State) : Option QosSection := s.fn.committed.map (·.qos)

/-- The port map entry of front port `p` (R318). -/
def State.portEntry (s : State) (p : Nat) : Option PortEntry := s.fn.committed.bind fun i => i.ports.ports[p]?

/-- Queue target of output `o` and sub-port `sub` (R334). -/
def queueTarget (o sub : Nat) : Nat := if o < 8 then 4 * o + sub else 32 + (o - 8)

/-- The queue entry of a target and class (R334, Table 13.6). -/
def State.queueEntry (s : State) (o sub c : Nat) : Option QueueEntry :=
  s.qos.bind fun q => q.queues[8 * queueTarget o sub + c]?

/-- The classification rules a logical port runs on: while an update is in progress a port that has not been
reloaded keeps the old set (R309, Table 12.8). -/
def State.rulesFor (s : State) (lport : Nat) : Option ClsSection :=
  match s.net.ruleNext with
  | none => s.fn.rules
  | some n =>
    match nth s.net.rulePhase lport .running with
    | .running => some n
    | .reloaded => some n
    | .holding => s.fn.rules
    | .empty => s.fn.rules

/-! ### The parser (R302, R311, Table 12.9) -/

/-- Bytes of a frame before its FCS. -/
def rxBody (f : RxFrame) : Nat := f.len - 4

/-- Byte `i` of a frame's parse window; 0 beyond it. -/
def rxByte (f : RxFrame) (i : Nat) : Nat := if i < min 128 (rxBody f) then (nth f.head i 0).toNat else 0

/-- `n` bytes from `i` on, the first the most significant. -/
def rxBe (f : RxFrame) (i n : Nat) : Nat := (List.range n).foldl (fun a k => 256 * a + rxByte f (i + k)) 0

/-- Whether a header of `n` bytes at `i` lies wholly inside the window (R302). -/
def rxHas (f : RxFrame) (i n : Nat) : Bool := decide (i + n ≤ min 128 (min (rxBody f) f.head.length))

/-- A frame of which nothing is parsed: every field 0, every valid bit clear. -/
def emptyFrame (f : RxFrame) : Frame :=
  { len := f.len, fcsOk := f.fcsOk, vlanV := false, pcp := 0, vid := 0, etype := 0, l3 := 0, dscp := 0, ecn := 0, proto := 0, frag := 0
    l4V := false, bthV := false, capV := false, sip := 0, dip := 0, sport := 0, dport := 0, bthOpc := 0, dqpn := 0, pkey := 0, capOpc := 0
    nsid := 0, icmpType := 0, icmpCode := 0, dmac := 0, ipId := 0, malf := ⟨false, false, false, false⟩ }

/-- The IPv4 header checksum: the ones' complement sum of the header's 16-bit words is all ones. -/
def ipv4Sum (f : RxFrame) (h bytes : Nat) : Bool :=
  let n := (List.range (bytes / 2)).foldl (fun a k => a + rxBe f (h + 2 * k) 2) 0
  let m := n % 65536 + n / 65536
  m % 65536 + m / 65536 == 65535

/-- FRAG of Table 12.2 from a fragment offset and the more-fragments bit. -/
def fragOf (offset more : Nat) : Nat := if offset ≠ 0 then 2 else if more = 1 then 1 else 0

/-- Whether the BTH names a capsule's carrier: SEND Only to a queue pair other than 1 (R302). -/
def parseCapsule (f : RxFrame) (h : Nat) (g : Frame) : Frame :=
  if g.bthOpc = 4 ∧ g.dqpn ≠ 1 ∧ rxHas f h 8 then
    { g with capV := true, capOpc := rxByte f h, nsid := rxByte f (h + 4) + 256 * rxByte f (h + 5) + 65536 * rxByte f (h + 6) + 2 ^ 24 * rxByte f (h + 7) }
  else g

/-- The BTH behind a UDP header at `h` whose datagram has `bytes` bytes (R302, Table 12.9). -/
def parseBth (f : RxFrame) (h bytes : Nat) (g : Frame) : Frame :=
  if g.dport ≠ 4791 then g
  else if bytes < 24 then { g with malf := { g.malf with roce := true } }
  else if rxHas f (h + 8) 12 then
    parseCapsule f (h + 20) { g with bthV := true, bthOpc := rxByte f (h + 8), pkey := rxBe f (h + 10) 2, dqpn := rxBe f (h + 13) 3 }
  else g

/-- What follows an IP header: UDP, or ICMP's type and code, not in a later fragment; `bytes` is the length of the IP payload (R302, R303,
Table 12.9). -/
def parseL4 (f : RxFrame) (h bytes icmp : Nat) (g : Frame) : Frame :=
  if g.frag = 2 then g
  else if g.proto = 17 then
    if !rxHas f h 8 then g
    else
      let n := rxBe f (h + 4) 2
      if n < 8 ∨ (g.frag = 0 ∧ n ≠ bytes) then { g with malf := { g.malf with udp := true } }
      else parseBth f h n { g with l4V := true, sport := rxBe f h 2, dport := rxBe f (h + 2) 2 }
  else if g.proto = icmp ∧ rxHas f h 4 then { g with l4V := true, icmpType := rxByte f h, icmpCode := rxByte f (h + 1) }
  else g

/-- An IPv4 header at `h`, its options skipped by IHL; one that is inconsistent ends the parse (R302, R311, Table 12.9). -/
def parseIpv4 (f : RxFrame) (h : Nat) (g : Frame) : Frame :=
  if !rxHas f h 20 then g
  else
    let bytes := 4 * (rxByte f h % 16)
    let total := rxBe f (h + 2) 2
    if rxByte f h / 16 ≠ 4 ∨ bytes < 20 ∨ total < bytes ∨ rxBody f < h + total then { g with malf := { g.malf with ipv4 := true } }
    else if !rxHas f h bytes then g
    else if !ipv4Sum f h bytes then { g with malf := { g.malf with ipv4 := true } }
    else
      let w := rxBe f (h + 6) 2
      parseL4 f (h + bytes) (total - bytes) 1
        { g with
          l3 := 1, dscp := rxByte f (h + 1) / 4, ecn := rxByte f (h + 1) % 4, proto := rxByte f (h + 9), ipId := rxBe f (h + 4) 2
          frag := fragOf (w % 8192) (w / 8192 % 2), sip := BitVec.ofNat 128 (rxBe f (h + 12) 4), dip := BitVec.ofNat 128 (rxBe f (h + 16) 4) }

/-- An IPv6 header at `h`, with one Fragment header directly after it (R302, R311, Table 12.9). -/
def parseIpv6 (f : RxFrame) (h : Nat) (g : Frame) : Frame :=
  if !rxHas f h 40 then g
  else
    let bytes := rxBe f (h + 4) 2
    if rxByte f h / 16 ≠ 6 ∨ rxBody f < h + 40 + bytes then { g with malf := { g.malf with ipv6 := true } }
    else
      let tc := rxBe f h 2 / 16 % 256
      let g1 := { g with
        l3 := 2, dscp := tc / 4, ecn := tc % 4, proto := rxByte f (h + 6), sip := BitVec.ofNat 128 (rxBe f (h + 8) 16)
        dip := BitVec.ofNat 128 (rxBe f (h + 24) 16) }
      if g1.proto = 44 ∧ rxHas f (h + 40) 8 then
        let w := rxBe f (h + 42) 2
        parseL4 f (h + 48) (bytes - 8) 58 { g1 with proto := rxByte f (h + 40), ipId := rxBe f (h + 44) 4, frag := fragOf (w / 8) (w % 2) }
      else parseL4 f (h + 40) bytes 58 g1

/-- The L3 header that ETYPE names, at `h`. -/
def parseL3 (f : RxFrame) (h : Nat) (g : Frame) : Frame :=
  if g.etype = 0x0800 then parseIpv4 f h g else if g.etype = 0x86DD then parseIpv6 f h g else g

/-- Parse a frame: Ethernet II, at most one VLAN tag, and what follows, as far as headers lie wholly inside the window and are consistent
(R302, R311). -/
def parseFrame (f : RxFrame) : Frame :=
  if !rxHas f 0 14 then emptyFrame f
  else
    let g := { emptyFrame f with dmac := rxBe f 0 6, etype := rxBe f 12 2 }
    if g.etype = 0x8100 ∧ rxHas f 14 4 then
      let tci := rxBe f 14 2
      parseL3 f 18 { g with vlanV := true, pcp := tci / 8192, vid := tci % 4096, etype := rxBe f 16 2 }
    else parseL3 f 14 g

/-! ### The key and the walk (R303 to R307) -/

/-- The classification key, Table 12.2 (R303). -/
def keyOf (lport : Nat) (f : Frame) : BitVec 512 :=
  BitVec.ofNat 512 (
    lport % 32 + 2 ^ 8 * b2n f.vlanV + 2 ^ 9 * (f.pcp % 8) + 2 ^ 12 * (f.vid % 4096) + 2 ^ 24 * (f.etype % 65536)
    + 2 ^ 40 * (f.l3 % 4) + 2 ^ 42 * (f.dscp % 64) + 2 ^ 48 * (f.ecn % 4) + 2 ^ 50 * (f.proto % 256)
    + 2 ^ 58 * (f.frag % 4) + 2 ^ 61 * b2n f.l4V + 2 ^ 62 * b2n f.bthV + 2 ^ 63 * b2n f.capV
    + 2 ^ 64 * f.sip.toNat + 2 ^ 192 * f.dip.toNat + 2 ^ 320 * (f.sport % 65536) + 2 ^ 336 * (f.dport % 65536)
    + 2 ^ 352 * (f.bthOpc % 256) + 2 ^ 360 * (f.dqpn % 2 ^ 24) + 2 ^ 384 * (f.pkey % 65536)
    + 2 ^ 400 * (f.capOpc % 256) + 2 ^ 416 * (f.nsid % 2 ^ 32) + 2 ^ 448 * (f.icmpType % 256)
    + 2 ^ 456 * (f.icmpCode % 256) + 2 ^ 464 * (f.dmac % 2 ^ 48))

/-- Action 0, the default: NATIVE, SETCLASS 0, POLICER 0x7FF (Table 12.6). -/
def defaultAction : ClsAction := ⟨0, 0, 0, false, 0x7FF, 0⟩

/-- Action `a` of a section. -/
def actionOf (c : ClsSection) (a : Nat) : ClsAction := nth c.actions a defaultAction

/-- The first entry of a leaf whose rule matches the key, in priority order (R305). -/
def leafMatch (c : ClsSection) (key : BitVec 512) : List (Nat × Nat) → Option Nat
  | [] => none
  | (r, a) :: t =>
    match c.rules[r]? with
    | some (v, m) => if key &&& m = v then some a else leafMatch c key t
    | none => leafMatch c key t

/-- The walk from node `n`, at most `fuel` cut nodes (R305, R306). Tree nodes follow from node 2 × RULES
(R304). -/
def walk (c : ClsSection) (key : BitVec 512) : Nat → Nat → ClsAction
  | 0, _ => defaultAction
  | fuel + 1, n =>
    match c.nodes[n - 2 * c.rulesCount]? with
    | some (.cut width offset child _) => walk c key fuel (child + bits key.toNat (offset + width - 1) offset)
    | some (.leaf entries _) =>
      match leafMatch c key entries with
      | some a => actionOf c a
      | none => defaultAction
    | _ => defaultAction

/-- The action of a frame on a logical port (R305). -/
def classifyKey (c : ClsSection) (lport : Nat) (f : Frame) : ClsAction :=
  match c.ports[lport]? with
  | some e => if e.treeV then walk c (keyOf lport f) 25 e.root else defaultAction
  | none => defaultAction

/-- Whether an address entry of the given kind owns the address on this logical port. -/
def State.owned (s : State) (lport kind addr : Nat) : Bool :=
  match s.fn.committed with
  | some i => i.ports.addrs.any fun a => a.kind == kind && a.addr == addr && a.lport == lport
  | none => false

/-- Table 12.7, first row: the destination MAC addresses the port takes. -/
def State.dmacTaken (s : State) (lport : Nat) (d : Nat) : Bool :=
  s.owned lport 1 d || d == 0xFFFFFFFFFFFF || d == 0x0180C200000E || d == 0x011B19000000 ||
    (match s.fn.committed with
    | some i => i.ports.addrs.any fun a => a.kind == 3 && a.lport == lport && d == 0x3333FF000000 + a.addr % 2 ^ 24
    | none => false)

/-- ARP, neighbour discovery, ICMP or ICMPv6 to an owned address, LLDP and IEEE 1588 (Table 12.7). -/
def State.ctlTraffic (s : State) (lport : Nat) (f : Frame) : Bool :=
  f.etype == 0x0806 || f.etype == 0x88CC || f.etype == 0x88F7
    || (f.l4V && f.proto == 17 && (f.dport == 319 || f.dport == 320))
    || (f.l3 == 2 && f.proto == 58 && decide (133 ≤ f.icmpType ∧ f.icmpType ≤ 137))
    || (f.l3 == 1 && f.proto == 1 && s.owned lport 2 f.dip.toNat)
    || (f.l3 == 2 && f.proto == 58 && s.owned lport 3 f.dip.toNat)

/-- Where the NATIVE action sends a frame: the first matching row of Table 12.7 (R307). -/
def State.nativeDest (s : State) (lport : Nat) (f : Frame) : Option Nat :=
  if !s.dmacTaken lport f.dmac then none
  else if f.frag = 1 ∨ f.frag = 2 then some 13
  else if f.bthV && f.dqpn == 1 then some 13
  else if f.bthV then some (9 + f.dqpn % 16384 % 16 / 4)
  else if s.ctlTraffic lport f then some 13
  else none

/-- The switch class from the port's priority map: by PCP or by DSCP (Table 13.2). -/
def mapClass (e : PortEntry) (f : Frame) : Nat :=
  if e.trustDscp then nth e.dscpMap f.dscp 0
  else if f.vlanV then nth e.pcpMap f.pcp 0 else e.defClass

/-! ### Buffer accounting (R324 to R326) -/

/-- Drain class of a frame's path (R324). -/
def drainOf (inp outp : Nat) : Nat := if 9 ≤ inp ∧ inp ≤ 12 ∧ outp ≤ 7 then 4 else 5

/-- Escape cells reserved for a drain class at an output and class, pool 0x06 (R72). -/
def State.escCredits (s : State) (drain o c : Nat) : Nat :=
  match s.fn.committed with
  | some i => (i.credits.filter fun e => e.pool == 6 && e.drain == drain && e.inst == o && e.swclass == c).foldl
      (fun n e => n + e.escapeCr) 0
  | none => 0

/-- Cells of the shared part: 262,144 less every escape credit of pool 0x06 (R324). -/
def State.sharedCells (s : State) : Nat :=
  match s.fn.committed with
  | some i => 262144 - (i.credits.filter fun e => e.pool == 6).foldl (fun n e => n + e.escapeCr) 0
  | none => 262144

/-- Every frame held, with its queue. -/
def NetSt.frames (n : NetSt) : List (VoqKey × VoqFrame) := n.voqs.flatMap fun e => e.2.map fun f => (e.1, f)

/-- Shared cells in use. -/
def NetSt.sharedUsed (n : NetSt) : Nat :=
  (n.frames.filter fun e => e.2.hold == .shared).foldl (fun a e => a + e.2.cells) 0

/-- Shared cells held by the queue of an output sub-port and class, over every input. -/
def NetSt.queueCells (n : NetSt) (o sub c : Nat) : Nat :=
  (n.frames.filter fun e => e.2.hold == .shared && e.1.outp == o && e.1.sub == sub && e.1.cls == c).foldl
    (fun a e => a + e.2.cells) 0

/-- Cells held by the queue of an output sub-port and class, over every input, on shared cells or escape credits (R327). -/
def NetSt.queueDepth (n : NetSt) (o sub c : Nat) : Nat :=
  (n.frames.filter fun e => e.1.outp == o && e.1.sub == sub && e.1.cls == c).foldl (fun a e => a + e.2.cells) 0

/-- Escape cells in use for a drain class at an output and class. -/
def NetSt.escCells (n : NetSt) (drain o c : Nat) : Nat :=
  (n.frames.filter fun e => e.2.hold == .esc drain c && e.1.outp == o).foldl (fun a e => a + e.2.cells) 0

/-- Shared cells held by frames that entered on a sub-port with a priority (R333). -/
def NetSt.prioCells (n : NetSt) (port sub k : Nat) : Nat :=
  (n.frames.filter fun e => e.2.hold == .shared && e.1.inp == port && e.2.inSub == sub && e.2.prio == k).foldl
    (fun a e => a + e.2.cells) 0

/-- The frames of a queue. -/
def voqGet (v : List (VoqKey × List VoqFrame)) (k : VoqKey) : List VoqFrame :=
  match v.find? fun e => e.1 == k with
  | some e => e.2
  | none => []

/-- The queues with the frames of one replaced; an empty queue is not listed. -/
def voqPut (v : List (VoqKey × List VoqFrame)) (k : VoqKey) (l : List VoqFrame) : List (VoqKey × List VoqFrame) :=
  let rest := v.filter fun e => e.1 != k
  if l.isEmpty then rest else rest ++ [(k, l)]

/-- Cells of a queue's frames. -/
def cellsOf (l : List VoqFrame) : Nat := l.foldl (fun a f => a + f.cells) 0

/-- Frames that push-out may take at an output sub-port for an arriving frame of class `c` (R326): whole
frames in shared cells, of a lower class, not begun to cross, not of drain class 4. -/
def NetSt.victims (n : NetSt) (o sub c : Nat) : List (VoqKey × VoqFrame) :=
  n.frames.filter fun e => e.2.hold == .shared && e.1.outp == o && e.1.sub == sub && decide (e.1.cls < c)
    && e.2.crossed == 0 && e.2.drain != 4

/-- The next victim: the lowest class, within it the longest queue (ties to the lowest input), within it the
last frame (R326). -/
def NetSt.nextVictim (n : NetSt) (o sub c : Nat) : Option (VoqKey × VoqFrame) :=
  (n.victims o sub c).foldl (fun best e =>
    match best with
    | none => some e
    | some b =>
      let lb := cellsOf (voqGet n.voqs b.1)
      let le := cellsOf (voqGet n.voqs e.1)
      if e.1.cls < b.1.cls then some e
      else if b.1.cls < e.1.cls then some b
      else if e.1 = b.1 then some e
      else if lb < le then some e
      else if le < lb then some b
      else if e.1.inp < b.1.inp then some e else some b) none

/-- Evict until `need` cells of the shared part are free (R326). -/
def NetSt.pushOut (n : NetSt) (o sub c total need : Nat) : Nat → NetSt
  | 0 => n
  | fuel + 1 =>
    if n.sharedUsed + need ≤ total then n
    else
      match n.nextVictim o sub c with
      | none => n
      | some (k, f) =>
        ({ n with
            voqs := voqPut n.voqs k ((voqGet n.voqs k).filter fun g => g.id != f.id)
            pushDrops := n.pushDrops + 1 }).pushOut o sub c total need fuel

/-- Escape credits a frame may use, in order: its own drain class, then class 5 (R71, R325). -/
def State.escHold (s : State) (n : NetSt) (drain o c cells : Nat) : Option CellHold :=
  if n.escCells drain o c + cells ≤ s.escCredits drain o c then some (.esc drain c)
  else if drain < 5 ∧ n.escCells 5 o c + cells ≤ s.escCredits 5 o c then some (.esc 5 c)
  else none

/-! ### Policers, profiles and shapers (R327 to R330) -/

/-- A bucket in 1/1,024 byte refilled at `rate` Mb/s for `dt` slots, up to `burst` bytes (R328, R329). -/
def refill (v rate dt burst : Nat) : Nat := min (burst * 1024) (v + rate * dt * 2 / 25)

/-- The counted length of R328 in 1/1,024 byte. -/
def counted (len : Nat) (overhead : Int) : Nat := ((len : Int) + overhead).toNat * 1024

/-- Colour a frame against tenant `t`'s policer (R328); a tenant whose buckets are not listed has them full
(R329). -/
def State.police (s : State) (t len : Nat) : Colour × State :=
  match s.qos.bind fun q => q.policers[t]? with
  | none => (.green, s)
  | some p =>
    if !p.enabled then (.green, s)
    else
      let b := tabGetD s.net.buckets t ⟨p.cbs * 1024, p.pbs * 1024, s.now⟩
      let dt := s.now - b.stamp
      let tc := refill b.tc p.cir dt p.cbs
      let tp := refill b.tp p.pir dt p.pbs
      let l := counted len p.overhead
      let r : Colour × Buckets :=
        if tp < l then (.red, ⟨tc, tp, s.now⟩)
        else if tc < l then (.yellow, ⟨tc, tp - l, s.now⟩)
        else (.green, ⟨tc - l, tp - l, s.now⟩)
      (r.1, s.onNet fun n => { n with buckets := tabPut n.buckets t r.2 })

/-- What a drop profile says of a frame. -/
inductive ProfileVerdict where
  | pass | mark | drop
  deriving DecidableEq, Repr

/-- Drop profile of the frame's colour at its queue (R327). The average is kept in 1/65,536 cell; the draw is
a free value of 16 bits. -/
def State.profile (s : State) (q : QueueEntry) (col : Colour) (inp o sub c : Nat) (ecn : Nat) :
    ProfileVerdict × State :=
  let idx := match col with
    | .green => q.green
    | .yellow => q.yellow
    | .red => q.red
  match s.qos.bind fun x => x.profiles[idx]? with
  | none => (.pass, s)
  | some p =>
    let key := 8 * queueTarget o sub + c
    let depth := s.net.queueDepth o sub c * 65536
    let a := tabGetD s.net.avg key 0
    let a' : Nat := if a ≤ depth then a + (depth - a) / 2 ^ p.w else a - (a - depth) / 2 ^ p.w
    let s1 := s.onNet fun n => { n with avg := tabPutD 0 n.avg key a' }
    let lo := p.minTh * 65536
    let hi := p.maxTh * 65536
    let draw := Config.freeNat s.freeNo % 65536
    let meets : Bool :=
      if a' < lo then false
      else if hi ≤ a' then true
      else decide (draw * 256 * (hi - lo) < 65536 * p.maxp * (a' - lo))
    let s2 := if lo ≤ a' ∧ a' < hi then s1.tick else s1
    if !meets then (.pass, s2)
    else if (ecn = 1 ∨ ecn = 2) && q.ecn then (.mark, s2)
    else if 9 ≤ inp then (.pass, s2)
    else (.drop, s2)

/-- The XOFF a sub-port owes after a frame of priority `k` took shared cells (R333). -/
def State.pfcCheck (s : State) (port sub k : Nat) : State :=
  match s.portEntry port, s.qos with
  | some e, some q =>
    if port < 8 ∧ e.pfc.getLsbD k ∧ q.xoffCells < s.net.prioCells port sub k ∧ !s.net.xoff.contains (port, sub, k) then
      (s.emit (.xoff port sub k 0xFFFF)).onNet fun n => { n with xoff := n.xoff ++ [(port, sub, k)] }
    else s
  | _, _ => s

/-- Put an admitted frame at the tail of its queue. -/
def State.voqPush (s : State) (k : VoqKey) (f : VoqFrame) : State :=
  s.onNet fun n => { n with voqs := voqPut n.voqs k (voqGet n.voqs k ++ [f]), nextFrame := n.nextFrame + 1 }

/-- Take cells for a frame: shared cells, push-out, escape credits, or the frame is dropped (R325 steps 3 to
6). -/
def State.takeCells (s : State) (k : VoqKey) (len : Nat) (ce : Bool) (inSub prio : Nat) : State :=
  let cells := (len + 255) / 256
  let drain := drainOf k.inp k.outp
  let maxCells := match s.queueEntry k.outp k.sub k.cls with
    | some q => q.maxCells
    | none => 262144
  let total := s.sharedCells
  let fitsQueue : Bool := decide (s.net.queueCells k.outp k.sub k.cls + cells ≤ maxCells)
  let mk (h : CellHold) : VoqFrame := ⟨s.net.nextFrame, len, cells, 0, h, drain, ce, inSub, prio⟩
  if s.net.sharedUsed + cells ≤ total && fitsQueue then (s.voqPush k (mk .shared)).pfcCheck k.inp inSub prio
  else
    let freeable := (s.net.victims k.outp k.sub k.cls).foldl (fun a e => a + e.2.cells) 0
    if total < s.net.sharedUsed + cells ∧ fitsQueue ∧ s.net.sharedUsed + cells ≤ total + freeable then
      let s1 := s.onNet fun n => n.pushOut k.outp k.sub k.cls total cells n.frames.length
      (s1.voqPush k (mk .shared)).pfcCheck k.inp inSub prio
    else
      match s.escHold s.net drain k.outp k.cls cells with
      | some h => s.voqPush k (mk h)
      | none => s.onNet fun n => { n with admitDrops := n.admitDrops + 1 }

/-- Offer a frame to its queue: eligibility, policer, drop profile, then cells (R321, R325). -/
def State.admitFrame (s : State) (k : VoqKey) (len policer ecn inSub prio : Nat) : State :=
  let mask : BitVec 16 := match s.fn.committed with
    | some i => nth (nth i.ports.eligible k.inp []) k.cls 0
    | none => 0
  if !mask.getLsbD k.outp then s.onNet fun n => { n with eligDrops := n.eligDrops + 1 }
  else
    let pc : Colour × State := if 9 ≤ k.inp ∨ policer = 0x7FF then (.green, s) else s.police policer len
    let redDrop := match s.qos.bind fun q => q.policers[policer]? with
      | some p => p.redDrop
      | none => false
    if pc.1 == .red && redDrop then pc.2.onNet fun n => { n with redDrops := n.redDrops + 1 }
    else
      match pc.2.queueEntry k.outp k.sub k.cls with
      | none => pc.2.takeCells k len false inSub prio
      | some q =>
        let v := pc.2.profile q pc.1 k.inp k.outp k.sub k.cls ecn
        match v.1 with
        | .pass => v.2.takeCells k len false inSub prio
        | .mark => (v.2.onNet fun n => { n with ecnMarks := n.ecnMarks + 1 }).takeCells k len true inSub prio
        | .drop => v.2.onNet fun n => { n with profileDrops := n.profileDrops + 1 }

/-- A classified frame goes where its action sends it (R305, R307): to its queue, or dropped. -/
def State.switchFrame (s : State) (port : Nat) (fr : InFrame) : State :=
  let act := fr.action.getD defaultAction
  let lport := 4 * port + fr.sub
  let dest : Option Nat :=
    if act.kind = 0 then s.nativeDest lport fr.frame
    else if act.kind = 2 ∨ act.kind = 4 then some act.out
    else if act.kind = 3 then some 13
    else none
  match dest with
  | none =>
    if act.kind = 0 then s.onNet fun n => { n with noDest := n.noDest + 1 }
    else s.onNet fun n => { n with clsDrops := n.clsDrops + 1 }
  | some o =>
    let cls := if act.setclass then act.swclass
      else match s.portEntry port with
        | some e => mapClass e fr.frame
        | none => 0
    s.admitFrame ⟨port, o, 0, cls⟩ fr.frame.len act.policer fr.frame.ecn fr.sub
      (if fr.frame.vlanV then fr.frame.pcp else 0)

end Sys2Proof.Machine
end

