-- ==== Sys2Proof/Machine/CmdOps.lean ====
section
/-! DEFINITION. Shared operations of commands: namespaces, lanes, roles and ANA states, what an RDMA queue pair sends,
completions, and the end of a command (chapters 3, 10 and 11). -/

namespace Sys2Proof.Machine

/-! ### Roles and the function (R40, R270, R360, R361) -/

/-- Whether the controller holds the active role and serves (R360): ACTIVE or SINGLE. -/
def State.active (s : State) : Bool := s.pair.st == .active || s.pair.st == .single

/-- Whether the controller holds the Halyard lease (Table 15.1). -/
def State.holder (s : State) : Bool := s.active || s.pair.st == .taking

/-- Whether order numbers may be issued: the active role with the function RUNNING, host lanes open and
intake not stopped (R59, R104, R361). -/
def State.canOrder (s : State) : Bool :=
  s.active && s.fn.st == .running && s.fn.lanesOpen && !s.sched.intakeStopped

/-- ANA states by their codes in the NVMe log page. -/
inductive Ana where
  | optimized | nonOptimized | inaccessible | persistentLoss
  deriving DecidableEq, Repr

/-- ANA state by role and function state (Table 10.7, R360). -/
def State.ana (s : State) : Ana :=
  if s.pair.st = .init ∨ s.pair.st = .joining ∨ s.pair.st = .lapsed then .inaccessible
  else if s.fn.st = .fenced ∧ !s.flt.isFenced 2 then .persistentLoss
  else if s.fn.st ≠ .running ∨ s.pair.swap.running then .inaccessible
  else if s.pair.st = .active ∨ s.pair.st = .single then .optimized
  else if s.pair.st = .standby then .nonOptimized
  else .inaccessible

/-- The status of a command that cannot take an order number on its path (R270): SCT 3h. -/
def State.anaSc (s : State) : Nat := if s.ana = .persistentLoss then 0x01 else 0x02

/-- Whether the peer link is up: a lane group is up (R369, Table 15.5). -/
def State.peerLink (s : State) : Bool := s.pair.groups.any id

/-- Whether log records, stripe journal records and placed sectors go to the peer (R370, R381): to a standby, and to a joining
controller that resynchronises, while the peer link is up. -/
def State.ships (s : State) : Bool :=
  s.peerLink && (s.pair.st == .active || (s.pair.st == .single && s.pair.peerState == some .joining))

/-! ### Namespaces and lanes (R30, R75, R253, R254, R494) -/

/-- The namespace table entry of namespace `n`, if present (R254). -/
def State.nsEntry (s : State) (n : Nat) : Option NsEntry :=
  match s.fn.committed with
  | none => none
  | some i =>
    match i.ns.entries.find? fun e => e.1 == n with
    | some e => if e.2.present then some e.2 else none
    | none => none

/-- The lane of a tenant and lane class (R30). -/
def State.laneOf (s : State) (tenant lclass : Nat) : Option Nat :=
  match s.fn.committed with
  | none => none
  | some i => (i.lanes.find? fun e => e.2.tenant == tenant && e.2.lclass == lclass && e.2.budget != 0).map (·.1)

/-- Lane table entry. -/
def State.laneEntry (s : State) (l : Nat) : Option LaneEntry :=
  match s.fn.committed with
  | none => none
  | some i => (i.lanes.find? fun e => e.1 == l).map (·.2)

/-- The lane of Flush, Compare and ordered admin commands: the Standard write lane, else the host read lane
(Table 2.4). -/
def State.miscLane (s : State) (tenant : Nat) : Option Nat :=
  match s.laneOf tenant 1 with
  | some l => some l
  | none => s.laneOf tenant 0

/-- The lane a command of a kind travels in (Table 2.4). -/
def State.laneFor (s : State) (kind : CmdKind) (ns tenant : Nat) : Option Nat :=
  match kind with
  | .read => s.laneOf tenant 0
  | .seal => s.laneOf tenant 0
  | .flush => s.miscLane tenant
  | .compare => s.miscLane tenant
  | .log => s.miscLane tenant
  | .bind => s.miscLane tenant
  | .write | .zeroes | .dsm =>
    match s.nsEntry ns with
    | some e => s.laneOf tenant (1 + e.nsType)
    | none => s.miscLane tenant

/-- The kind of an I/O capsule that takes an order number. -/
def ioKind (opcode : Nat) : Option CmdKind :=
  if opcode = 0x02 then some .read
  else if opcode = 0x01 then some .write
  else if opcode = 0x00 then some .flush
  else if opcode = 0x08 then some .zeroes
  else if opcode = 0x05 then some .compare
  else if opcode = 0x09 then some .dsm
  else none

/-- The kind of an admin capsule that takes an order number (R270): Get Log Page of LID 02h and C0h to C4h,
and LEDGER BIND. -/
def adminKind (c : Capsule) : Option CmdKind :=
  if c.opcode = 0x02 then
    let lid := c.cdw10 % 256
    if lid = 0x02 ∨ (0xC0 ≤ lid ∧ lid ≤ 0xC4) then some .log else none
  else if c.opcode = 0xC0 then some .bind
  else none

/-- The kind of an ordered command on an admin or I/O queue. -/
def capKind (admin : Bool) (c : Capsule) : Option CmdKind := if admin then adminKind c else ioKind c.opcode

/-- Whether a lane has a staging credit free: its own escape credits, at least 1 (R57, R71, Table 3.6). -/
def State.hasCredit (s : State) (lane : Option Nat) : Bool :=
  match lane with
  | some l => match s.laneEntry l with
    | some e => decide (tabGetD s.sched.staged l 0 < max 1 e.escapeCr)
    | none => true
  | none => true

/-- A head enters an intake input against a staging credit of its lane (R57). -/
def State.enqueue (s : State) (input : Nat) (h : Head) : State :=
  s.onSched fun d =>
    { d with
      inputs := modNth d.inputs input fun l => l ++ [h]
      staged := match h.lane with
        | some l => tabUpd 0 d.staged l (· + 1)
        | none => d.staged }

/-- The forwarded commands that wait in the Peer block enter input 16, oldest first, as their lanes have credits: no lane holds back another
(R57). -/
def State.deliverHeld (s : State) : State :=
  s.sched.peerHeld.foldl (fun (s : State) h =>
    if s.hasCredit h.lane then s.enqueue 16 { h with visible := max h.visible (s.now + 2) }
    else s.onSched fun d => { d with peerHeld := d.peerHeld ++ [h] }) (s.onSched fun d => { d with peerHeld := [] })

/-- A lane's staging credit returns, and what waits in the Peer block for it goes on (R57). -/
def State.returnCredit (s : State) (lane : Option Nat) : State :=
  match lane with
  | some l => (s.onSched fun x => { x with staged := tabPutD 0 x.staged l (tabGetD x.staged l 0 - 1) }).deliverHeld
  | none => s

/-- Sectors a command covers. -/
def capLen (kind : CmdKind) (c : Capsule) : Nat :=
  match kind with
  | .read | .write | .zeroes | .compare => c.nlb + 1
  | _ => 0

/-- The namespace number an NSID names. -/
def capNs (c : Capsule) : Nat := c.nsid - 1

/-! ### What a queue pair sends (R285, R288, R293, R294) -/

/-- Credit counts of the InfiniBand credit encoding, code 0 first (R285). -/
def creditCounts : List Nat :=
  [0, 1, 2, 3, 4, 6, 8, 12, 16, 24, 32, 48, 64, 96, 128, 192, 256, 384, 512, 768, 1024, 1536, 2048, 3072, 4096, 6144,
   8192, 12288, 16384, 24576, 32768]

/-- The largest code whose count does not exceed `n` (R285). -/
def creditCode (n : Nat) : Nat := ((List.range 31).filter fun c => decide (nth creditCounts c 0 ≤ n)).foldl max 0

/-- Free receive buffers of a queue pair (R284, R286). -/
def Qp.freeBufs (q : Qp) : Nat := q.entries - q.inq.length - q.held.length

/-- The switch class of an RDMA cell's frames: the lowest storage class (R324). -/
def State.storageClass (s : State) : Nat :=
  match s.qos with
  | some q => (indices 8 q.storageMask.getLsbD).headD 0
  | none => 0

/-- The sub-port that a queue pair's address names (R278, R319). -/
def State.qpSub (s : State) (q : Qp) : Nat :=
  match s.fn.committed with
  | some i => match i.ports.addrs.find? fun a => a.addr == q.addr && a.lport / 4 == q.port with
    | some a => a.lport % 4
    | none => 0
  | none => 0

/-- Frame bytes of a packet that carries `n` payload bytes (R317: a 4 KiB middle packet is 4,162). -/
def frameLen (n : Nat) : Nat := 66 + n

/-- Send a packet on a queue pair: it goes outward and its frame is offered to the storage input (R332). -/
def State.sendPkt (s : State) (q : Nat) (p : Pkt) (payload : Nat) : State :=
  let x := s.qp q
  (s.emit (.rdma q p)).onNet fun n =>
    { n with
      offers := n.offers ++ [⟨q % 16, q, x.tenant.getD 0, ⟨9 + q % 16 / 4, x.port, s.qpSub x, s.storageClass⟩, frameLen payload⟩] }

/-- Put an acknowledgement, NAK or CNP in the cell's control queue; an ACK or NAK replaces one of the same
queue pair that still waits (R288). -/
def State.sendCtl (s : State) (q : Nat) (kind : CtlKind) (psn : BitVec 24) (syndrome : Nat) : State :=
  let x := s.qp q
  let e : CtlEntry := ⟨q, kind, psn.toNat, syndrome, x.msn⟩
  s.onCell q fun c =>
    { c with control := (if kind = .cnp then c.control else c.control.filter fun f => f.q != q || f.kind == .cnp) ++ [e] }

/-- The acknowledgement of R285: the highest accepted PSN, the MSN and the credit code. -/
def State.sendAck (s : State) (q : Nat) : State :=
  let x := s.qp q
  (s.sendCtl q .ack (x.ePsn - 1) (creditCode x.freeBufs)).onQp q fun x => { x with ackDue := none }

/-- Whether a send entry may be taken: at most 64 a queue pair and 256 a cell (R293). -/
def State.sendFree (s : State) (q : Nat) : Bool :=
  decide ((s.qp q).sends.length < 64 ∧ (s.cell q).sendUsed < 256)

/-- Take a send entry for the next PSN (R293). -/
def State.takeSend (s : State) (q : Nat) (isSend : Bool) (bytes : Nat) : State :=
  (s.onQp q fun x =>
    { x with sends := x.sends ++ [⟨x.sPsn.toNat, isSend, bytes, s.now⟩], sPsn := x.sPsn + 1 }).onCell q fun c =>
    { c with sendUsed := c.sendUsed + 1 }

/-- Whether a SEND may leave: the host's credit beyond its MSN, or one unacknowledged SEND without credit
(R294). -/
def Qp.sendCredit (q : Qp) : Bool :=
  let out := (q.sends.filter (·.send)).length
  decide (out < q.hostCredit) || out == 0

/-- Send the completions that wait, in order, while credit and send entries allow (R293, R294). -/
def State.pump (s : State) (q : Nat) : Nat → State
  | 0 => s
  | fuel + 1 =>
    let x := s.qp q
    match x.cqes with
    | [] => s
    | c :: t =>
      if x.st == .ready && x.sendCredit && s.sendFree q then
        let s1 := (s.sendPkt q (.sendOnly x.sPsn.toNat c) 16).takeSend q true 16
        (s1.onQp q fun x => { x with cqes := t }).pump q fuel
      else s

/-- Queue a completion entry on a queue pair and send what may be sent. -/
def State.sendCqe (s : State) (q : Nat) (c : Cqe) : State :=
  if (s.qp q).st = .ready then
    let s1 := s.onQp q fun x => { x with cqes := x.cqes ++ [c] }
    s1.pump q (s1.qp q).cqes.length
  else s

/-- Return a completion on a Ledger queue in submission order: it is held until those of every earlier command
have been sent (R261). -/
def releaseLedger : List (Nat × Option Cqe) → List Cqe × List (Nat × Option Cqe)
  | (_, some c) :: t => let r := releaseLedger t; (c :: r.1, r.2)
  | (o, none) :: t => ([], (o, none) :: t)
  | [] => ([], [])

/-- Complete a command of queue pair `q`: directly, or in submission order on a Ledger queue (R261). -/
def State.returnCqe (s : State) (q ord : Nat) (c : Cqe) : State :=
  let x := s.qp q
  if x.ledgerWait.any fun e => e.1 == ord then
    let marked := x.ledgerWait.map fun e => if e.1 = ord then (ord, some c) else e
    let r := releaseLedger marked
    r.1.foldl (fun s c => s.sendCqe q c) (s.onQp q fun x => { x with ledgerWait := r.2 })
  else s.sendCqe q c

/-! ### Notices (R270, R275) -/

/-- DW0 of an asynchronous event completion: type, information, log page. -/
def aenDw0 (type info lid : Nat) : Nat := type + 256 * info + 65536 * lid

/-- Complete an outstanding Asynchronous Event Request of controller `c`; false where none waits. -/
def State.sendAen (s : State) (c type info lid : Nat) : Bool × State :=
  match tabGet s.nvme.ctls c with
  | some k =>
    match k.aers with
    | cid :: t => (true, (s.onCtl c fun k => { k with aers := t }).sendCqe k.adminQp ⟨cid, 0, 0, false, aenDw0 type info lid⟩)
    | [] => (false, s)
  | none => (false, s)

/-- A change of ANA state: every controller's change count rises, and a Notice, ANA change, goes to each that
enabled it or waits for its next request (R270). -/
def State.anaNotice (s : State) : State :=
  s.nvme.ctls.foldl (fun s e =>
    let s1 := s.onCtl e.1 fun k => { k with anaChanges := k.anaChanges + 1 }
    if e.2.discovery ∨ e.2.aec.testBit 11 = false then s1
    else
      let r := s1.sendAen e.1 2 3 0x0C
      if r.1 then r.2 else s1.onCtl e.1 fun k => { k with noticePend := true }) s

/-- `after` with the notice owed when its ANA state differs from `before`'s (R270). -/
def withAna (before after : State) : State := if before.ana = after.ana then after else after.anaNotice

/-- Code of a function state (Table 2.11). -/
def fnCode : FnState → Nat
  | .empty => 0
  | .stopped => 1
  | .armed => 2
  | .running => 3
  | .draining => 4
  | .fenced => 5

/-- Code of a pair state (Table 15.1). -/
def pairCode : PairState → Nat
  | .init => 0
  | .joining => 1
  | .standby => 2
  | .active => 3
  | .single => 4
  | .taking => 5
  | .giving => 6
  | .lapsed => 7

/-- The Shelf Descriptor Table is rewritten: SDT_GEN rises by 2 and an event gives the cause (R403, ES 0x638). -/
def State.sdtChange (s : State) (cause : Nat) : State :=
  let g := (s.mgmt.sdtGen + 2) % 2 ^ 32
  (s.onMgmt fun m => { m with sdtGen := g }).eventState 0x638 (g % 256) (s.mgmt.sdtGen % 256) cause g

/-- The storage function enters a state: its event, and the ANA notice owed (R40, R270, ES 0x600). -/
def State.setFn (s : State) (f : FnState) (cause : Nat) : State :=
  if s.fn.st = f then s
  else withAna s ((s.onFn fun x => { x with st := f }).eventState 0x600 (fnCode f) (fnCode s.fn.st) cause 0)

/-- The controller enters a pair state: its event, the descriptor table's change, and the ANA notice owed
(R360, R403, ES 0x610). -/
def State.setPair (s : State) (p : PairState) : State :=
  if s.pair.st = p then s
  else withAna s (((s.onPair fun x => { x with st := p }).eventState 0x610 (pairCode p) (pairCode s.pair.st) 0 0).sdtChange 2)

/-! ### The end of a command -/

/-- Count a tenant's error completion (Table 10.9: SCT 2h, or 7h/C0h). -/
def State.countError (s : State) (tenant sct sc : Nat) : State :=
  if sct = 2 ∨ (sct = 7 ∧ sc = 0xC0) then s.onNvme fun n => { n with mediaErr := tabUpd 0 n.mediaErr tenant (· + 1) } else s

/-- The tenant of a command. -/
def State.tenantOf (s : State) (c : Cmd) : Nat :=
  match s.nsEntry c.ns with
  | some e => e.tenant
  | none => match c.src with
    | .qp q _ => (s.qp q).tenant.getD 0
    | .peer _ t _ => t
    | .mbx _ => 0

/-- The status code of a mailbox response for a storage status (Table 18.6). -/
def mbxStorage (sct sc : Nat) : Nat := if sct = 0 ∧ sc = 0 then 0 else 0x8000 + 0x100 * sct + sc

/-- Answer a command with its status on the path it came by: on its queue, to the peer, or to its mailbox, where a write gives the bytes
moved and the sectors marked poisoned (Table 18.8). -/
def State.reply (s : State) (ord : Nat) (c : Cmd) (sct sc : Nat) (dnr : Bool) (dw0 : Nat) : State :=
  match c.src with
  | .qp q cid => s.returnCqe q ord ⟨cid, sct, sc, dnr, dw0⟩
  | .peer h _ _ => s.emit (.forwardCqe h ⟨c.cap.cid, sct, sc, dnr, dw0⟩ [])
  | .mbx m =>
    let w : Bool := c.kind == .write
    s.answer m
      { mkResp 0 (mbxStorage sct sc) 0 with
        order := ord
        xfer := if w then 4096 * c.len else 0
        result := if w && mbxStorage sct sc == 0 then leBytes 4 c.marked.length else [] }

/-- Whether a command's overlap entry stays after its completion: a placed write's until its map updates are applied
(R80). -/
def keepsOverlap (c : Cmd) (s : State) (ord : Nat) : Bool :=
  c.kind == .write && (match tabGet s.sched.overlap ord with
    | some o => o.settled
    | none => false)

/-- The command has ended: it leaves the command table and its work leaves the schedule; its overlap entry
leaves too, unless a placed write still waits for its map update (R80). -/
def State.dropCmd (s : State) (ord : Nat) : State :=
  match s.cmd ord with
  | none => s
  | some c =>
    let keep := keepsOverlap c s ord
    s.onSched fun x =>
      { x with
        cmds := tabDel x.cmds ord
        work := x.work.filter fun w => w.ord != some ord
        overlap := if keep then x.overlap else tabDel x.overlap ord }

/-- Complete a command with a status and end it. -/
def State.finish (s : State) (ord sct sc : Nat) (dnr : Bool) (dw0 : Nat) : State :=
  match s.cmd ord with
  | none => s
  | some c => ((s.countError (s.tenantOf c) sct sc).reply ord c sct sc dnr dw0).dropCmd ord

/-- Complete a command successfully. -/
def State.finishOk (s : State) (ord : Nat) : State := s.finish ord 0 0 false 0

/-! ### Ledger chains (R95, R262, R264) -/

/-- Key of a chain: namespace and chain number. -/
def chainKey (ns chain : Nat) : Nat := ns * 65536 + chain

/-- A chain; one never written starts at 1 (R262). -/
def State.chain (s : State) (k : Nat) : Chain := tabGetD s.log.chains k ⟨k / 65536, k % 65536, 1, 0, 0, false⟩

/-- A Ledger write failed after intake and before it was placed: every later taken write of its chain halts,
and the chain's next counter returns to the failed write's (R264). -/
def State.haltChain (s : State) (ord : Nat) : State :=
  match s.cmd ord with
  | none => s
  | some c =>
    match c.chain with
    | none => s
    | some ch =>
      let key := chainKey c.ns ch
      let later := s.sched.cmds.filter fun e =>
        decide (ord < e.1) && e.2.kind == .write && e.2.ns == c.ns && e.2.chain == some ch && e.2.placedAt == 0
      let s1 := later.foldl (fun s e => s.finish e.1 7 0xC4 false 0) s
      s1.onLog fun l => { l with chains := tabPut l.chains key { s.chain key with next := c.lcount } }

/-- A command fails: a Ledger write halts its chain first (R264), then the command completes with its own
status. -/
def State.failCmd (s : State) (ord sct sc : Nat) (dnr : Bool) : State :=
  (s.haltChain ord).finish ord sct sc dnr 0

/-! ### Overlap (R59, R80, R93, R261, R266) -/

/-- Whether two sector ranges meet. -/
def meets (a la b lb : Nat) : Bool := decide (a < b + lb ∧ b < a + la)

/-- The ranges a command covers in its namespace: a Dataset Management command's ranges, else its own. -/
def Cmd.ranges (c : Cmd) : List (Nat × Nat) := if c.kind = .dsm then c.cap.ranges else [(c.lba, c.len)]

/-- The ranges an overlap entry stands for. -/
def State.ovRanges (s : State) (ord : Nat) (o : Overlap) : List (Nat × Nat) :=
  match o.kind with
  | .dealloc => match s.cmd ord with
    | some c => c.ranges
    | none => [(o.lba, o.len)]
  | _ => [(o.lba, o.len)]

/-- Whether two lists of ranges meet. -/
def rangesMeet (a b : List (Nat × Nat)) : Bool := a.any fun x => b.any fun y => meets x.1 x.2 y.1 y.2

/-- Whether command `ord` still waits for an earlier one (R59): an unsettled earlier command whose range meets
its own, two reads apart, or any unsettled earlier command of its Ledger queue (R261). -/
def State.mustWait (s : State) (ord : Nat) (c : Cmd) : Bool :=
  let readOnly (k : CmdKind) : Bool := k == .read || k == .compare || k == .seal
  (s.sched.overlap.any fun e =>
    decide (e.1 < ord) && !e.2.settled && e.2.ns == c.ns
      && !(readOnly c.kind && (e.2.kind == .read || e.2.kind == .compare))
      && (c.kind == .flush || rangesMeet c.ranges (s.ovRanges e.1 e.2)))
  || (match c.src with
    | .qp q _ =>
      (s.qp q).chain.isSome && (s.sched.cmds.any fun e => decide (e.1 < ord) && (match e.2.src with
        | .qp q2 _ => q2 == q
        | _ => false) && (match tabGet s.sched.overlap e.1 with
        | some o => !o.settled
        | none => false))
    | .peer _ _ (some ch) =>
      s.sched.cmds.any fun e => decide (e.1 < ord) && (match e.2.src with
        | .peer _ _ (some ch2) => ch2 == ch
        | _ => false) && (match tabGet s.sched.overlap e.1 with
        | some o => !o.settled
        | none => false)
    | _ => false)

/-- Mark a command's overlap entry settled (R59). -/
def State.settle (s : State) (ord : Nat) : State :=
  s.onSched fun x => { x with overlap := tabMod x.overlap ord fun o => { o with settled := true } }

/-! ### Units (R49) -/

/-- Number of 512 KiB units of a write of `len` sectors (R49). -/
def unitCount (len : Nat) : Nat := (len + 127) / 128

/-- Sectors of unit `u`. -/
def unitLen (len u : Nat) : Nat := min 128 (len - 128 * u)

/-- Whether every sector of unit `u` is held. -/
def Cmd.unitWhole (c : Cmd) (u : Nat) : Bool :=
  (List.range (unitLen c.len u)).all fun i => c.fetched.any fun e => e.1 == 128 * u + i

/-- End every unit of a write that lacks data: it places nothing (R283, "Disconnect meets fetch"). -/
def Cmd.endIncomplete (c : Cmd) : Cmd :=
  { c with
    units := (List.range (unitCount c.len)).map fun u =>
      match nth c.units u .fetching with
      | .fetching => if c.unitWhole u then .whole else .ended
      | x => x
    orphan := true }

end Sys2Proof.Machine
end

