-- ==== Sys2Proof/Machine/SheetOps.lean ====
section
/-! DEFINITION. Shared operations of the shelf's geometry and of the Sheet ports: locations, reclaim units, modules in
service, retirement, and issuing an operation (chapters 6, 7, 8 and 9). -/

namespace Sys2Proof.Machine

/-! ### Map entries as places (Table 4.1, R74) -/

/-- CW of a location. -/
def locCw (l : Loc) : Nat := bits l.toNat 1 0
/-- PLANE of a location. -/
def locPlane (l : Loc) : Nat := bits l.toNat 3 2
/-- PAGE of a location: erase block × PPB + page. -/
def locPage (l : Loc) : Nat := bits l.toNat 26 4
/-- DIE of a location. -/
def locDie (l : Loc) : Nat := bits l.toNat 33 27
/-- MODULE of a location. -/
def locBay (l : Loc) : Nat := bits l.toNat 39 34

/-- A location from its fields. -/
def mkLoc (bay die page plane cw : Nat) : Loc :=
  BitVec.ofNat 40 (cw % 4 + 4 * (plane % 4) + 16 * (page % 2 ^ 23) + 2 ^ 27 * (die % 128) + 2 ^ 34 * (bay % 64))

/-- The codeword `k` = 4 × PLANE + CW of a page set (R140). -/
def locAt (l : Loc) (k : Nat) : Loc := mkLoc (locBay l) (locDie l) (locPage l) (k / 4) k

/-- Unmapped (R74). -/
def eUnmapped : MapEntry := 0xFFFFFFFFFF#40
/-- Zeroes (R74). -/
def eZeroes : MapEntry := 0xFC00000002#40
/-- Poisoned (R74). -/
def ePoisoned : MapEntry := 0xFC00000001#40

/-- Whether a map entry names a codeword (R74). -/
def isLoc (e : MapEntry) : Bool := decide (locBay e < 48)

/-! ### The declared shelf (R136, R137, R140, R141) -/

/-- A placement table naming nothing. -/
def Placement.empty : Placement :=
  { layout := 0, data := 0, parity := 0, bays := 0, patterns := 0, reserve := 0, bayMask := 0, journal := [],
    root := [], jalt := [], pairMin := 0, pairMax := 0, sysblk := 0, reserved := 0, table := [] }

/-- The placement table in force. -/
def State.pl (s : State) : Placement :=
  match s.fn.committed with
  | some i => i.placement
  | none => Placement.empty

/-- The module geometry every bay declares (R141). -/
def State.geo (s : State) : ModuleType :=
  match s.fn.committed with
  | some i => i.decl.types.headD ⟨0, 0, 0, 0, 0, 0, 0, 0, 0, 0, 0, 0, 0⟩
  | none => ⟨0, 0, 0, 0, 0, 0, 0, 0, 0, 0, 0, 0, 0⟩

/-- Die groups of a module (R137). -/
def State.groups (s : State) : Nat := s.geo.dies / 16

/-- Reclaim units of the shelf (R137). -/
def State.unitTotal (s : State) : Nat := s.groups * (s.geo.epp - s.pl.sysblk)

/-- Erase block index of a unit (R137). -/
def State.unitBlock (s : State) (u : Nat) : Nat := s.pl.sysblk + u / s.groups

/-- Die group of a unit (R137). -/
def State.unitGroup (s : State) (u : Nat) : Nat := u % s.groups

/-- The reclaim unit of a location; none in a system block (R136, R137). -/
def State.locUnit (s : State) (l : Loc) : Option Nat :=
  let block := locPage l / s.geo.ppb
  if s.geo.ppb = 0 ∨ s.groups = 0 ∨ block < s.pl.sysblk then none
  else some ((block - s.pl.sysblk) * s.groups + locDie l / 16)

/-- Sectors of a stripe (Table 6.1). -/
def State.stripeSectors (s : State) : Nat := 16 * s.pl.data

/-- Roles of a stripe (R140). -/
def State.roles (s : State) : Nat := s.pl.data + s.pl.parity

/-- Declared bays. -/
def State.bays (s : State) : List Nat := indices 48 fun b => s.pl.bayMask.getLsbD b

/-! ### Modules and ports (R147, R160, R246) -/

/-- Port UP or UP_1L (Table 9.10). -/
def Port.up (p : Port) : Bool := p.st == .up || p.st == .up1

/-- The other controller's port to the bay is up, as the peer reports it (R235, R369). -/
def State.peerUp (s : State) (b : Nat) : Bool := s.peerLink && s.pair.peerReach.getLsbD b

/-- A module is in service while the lease holder holds it IN_SERVICE and its port is up (R246). -/
def State.inService (s : State) (b : Nat) : Bool := s.holder && (s.port b).modSt == .inService && (s.port b).up

/-- Whether a bay is in the loss set. -/
def State.bayLost (s : State) (b : Nat) : Bool := s.reb.loss.contains (.bay b)

/-- Whether a die, or its bay, is in the loss set. -/
def State.dieLost (s : State) (b d : Nat) : Bool := s.bayLost b || s.reb.loss.contains (.die b d)

/-- Code of a module state (Table 9.12). -/
def modCode : ModState → Nat
  | .absent => 0
  | .powering => 1
  | .linking => 2
  | .identify => 3
  | .ready => 4
  | .fencing => 5
  | .inService => 6
  | .unreachable => 7
  | .lost => 8
  | .foreign => 9

/-- Code of a port state (Table 9.10). -/
def portCode : PortState → Nat
  | .off => 0
  | .training => 1
  | .init => 2
  | .up => 3
  | .up1 => 4
  | .retrain => 5
  | .retired => 6

/-- The module of bay `b` enters a state: its event (ES 0x500 + n) gives the port state in [27:24]. -/
def State.setMod (s : State) (b : Nat) (m : ModState) : State :=
  if (s.port b).modSt = m then s
  else (s.onPort b fun p => { p with modSt := m }).eventState (0x500 + b) (modCode m) (modCode (s.port b).modSt) 0
    (portCode (s.port b).st)

/-- The dies of group `g` on bay `b` not retired by a media record with MGEN at most `mgen` (R205). -/
def State.groupDies (s : State) (b g mgen : Nat) : List Nat :=
  ((List.range 16).map fun i => 16 * g + i).filter fun d => !(s.med.records.any fun r =>
    r.bay == b && decide (r.mgen ≤ mgen) && ((r.kind == 5 && r.die == d) || (r.kind == 6 && r.die / 16 == g)))

/-- The unit health record's MGEN_OPEN (R202, R204). -/
def State.mgenOpen (s : State) (u : Nat) : Nat :=
  match tabGet s.med.unitHealth u with
  | some h => h.mgenOpen
  | none => 0

/-- Whether a page of a die is void in a unit on a bay (R205). -/
def State.voidAt (s : State) (u b die row : Nat) : Bool :=
  s.med.records.any fun r =>
    r.bay == b &&
      (if r.mgen ≤ s.mgenOpen u then
        (r.kind == 5 && r.die == die) || (r.kind == 6 && r.die / 16 == die / 16)
          || (r.die == die && r.block == s.unitBlock u && (r.kind == 2 || r.kind == 3 || r.kind == 4))
       else r.unit == u && decide (r.row ≤ row) && r.die == die && (r.kind == 2 || r.kind == 5)
          || (r.unit == u && r.kind == 6 && decide (r.row ≤ row) && r.die / 16 == die / 16))

/-- Row, die and page of position `n` of a row group with dies `w` and no void positions (R133, R138). -/
def plainPos (w : List Nat) (n : Nat) : Nat × Nat :=
  let k := w.length - 1
  (n / k, nth w ((n / k + 1 + n % k) % w.length) 0)

/-- Page set of position `n` of unit `u` on bay `b`: the n-th position that is not void, rows in order (R133,
R138, R163, R205); none past the last. -/
def State.posPage (s : State) (u b n : Nat) : Option Loc :=
  let w := s.groupDies b (s.unitGroup u) (s.mgenOpen u)
  let total := s.geo.ppb * (w.length - 1)
  let dies := w.filter fun d => s.med.records.any fun r => r.bay == b && (r.kind != 8) && (r.die == d || r.kind == 6)
  let m :=
    if dies.isEmpty then (if n < total then some n else none)
    else (((List.range total).filter fun i => !(s.voidAt u b (plainPos w i).2 (plainPos w i).1))[n]?)
  m.map fun i => mkLoc b (plainPos w i).2 (s.unitBlock u * s.geo.ppb + (plainPos w i).1) 0 0

/-- The page set that holds the XOR of row `row` of unit `u` on bay `b` (R133). -/
def State.xorPage (s : State) (u b row : Nat) : Loc :=
  let w := s.groupDies b (s.unitGroup u) (s.mgenOpen u)
  mkLoc b (nth w (row % w.length) 0) (s.unitBlock u * s.geo.ppb + row) 0 0

/-- Row of a location within its erase block. -/
def State.locRow (s : State) (l : Loc) : Nat := locPage l % s.geo.ppb

/-- The row's page sets other than the XOR page set, in position order (R133). -/
def State.rowPages (s : State) (u b row : Nat) : List Loc :=
  let w := s.groupDies b (s.unitGroup u) (s.mgenOpen u)
  (List.range (w.length - 1)).map fun i =>
    mkLoc b (nth w ((row + 1 + i) % w.length) 0) (s.unitBlock u * s.geo.ppb + row) 0 0

/-- Key of an open row's accumulator (R134). -/
def rowKey (u b row : Nat) : Nat := (u * 64 + b) * 2048 + row

/-- Whether a row carries no valid XOR page set: a KIND 8 record names it, or its XOR page is void (R205). -/
def State.rowInvalid (s : State) (u b row : Nat) : Bool :=
  (s.med.records.any fun r => r.bay == b && r.kind == 8 && r.unit == u && r.row == row)
    || s.voidAt u b (locDie (s.xorPage u b row)) row

/-- Whether the row's XOR page set is programmed and valid (R205, Table 7.3). -/
def State.rowXorValid (s : State) (u b row : Nat) : Bool :=
  !s.rowInvalid u b row && (tabGet s.log.rows (rowKey u b row)).isNone && (tabGet s.sheet.media (s.xorPage u b row).toNat).isSome

/-! ### Issuing an operation (R217, R220, R224, R235, R236) -/

/-- Codes of Table 9.4 that are die operations. -/
def isDieOp (code : Nat) : Bool := code == 1 || code == 2 || code == 3

/-- Whether this controller may issue an operation of this code on bay `b` (R235, R236, R246). -/
def State.mayIssue (s : State) (b code : Nat) : Bool :=
  if s.flt.isFenced 1 then false
  else if code = 1 then s.holder || s.pair.st == .giving || s.pair.st == .lapsed
  else if code = 4 ∨ code = 5 ∨ code = 7 ∨ code = 8 then true
  else if code = 2 ∨ code = 3 then
    s.inService b && !s.sheet.programsHeld
      && !(s.pair.st == .taking && s.sheet.ports.any fun p => p.modSt == .fencing)
  else s.holder

/-- Whether the port can take one more operation of this code and die, with `frames` data frames to send: at most
64 frames unacknowledged, credits held, 4 die operations a die and 16 others (R217, R220, R224). -/
def Port.room (p : Port) (code die frames : Nat) : Bool :=
  p.up && decide (p.replay.length + 1 + frames ≤ 64 ∧ 1 ≤ p.crCmd ∧ frames ≤ p.crData)
    && (if isDieOp code then decide ((p.ops.filter fun e => isDieOp e.2.code && e.2.die == die).length < 4)
        else decide ((p.ops.filter fun e => !isDieOp e.2.code).length < 16))

/-- The next free tag, 0 to 0xFFE (R224). -/
def Port.freeTag (p : Port) : Nat :=
  (((List.range (p.ops.length + 1)).map fun i => (p.nextTag + i) % 0xFFF).find? fun t => (tabGet p.ops t).isNone).getD 0

/-- Sequenced frames put in the replay buffer: `n` frames of one type and tag (R217). -/
def Port.seqFrames (p : Port) (type tag : Nat) : Nat → Port
  | 0 => p
  | n + 1 =>
    Port.seqFrames { p with replay := p.replay ++ [⟨p.txSeq, type, tag, 0⟩], txSeq := (p.txSeq + 1) % 65536 } type tag n

/-- The escape credits of bay `b`'s port that pool 0x02 keeps for drain class 2, the programs of closed stripes (R71, R72, Table 3.6). -/
def State.cmdEscape (s : State) (b : Nat) : Nat :=
  match s.fn.committed with
  | some i => ((i.credits.find? fun e => e.pool == 2 && e.inst == b).map (·.escapeCr)).getD 0
  | none => 0

/-- Whether an operation may take a command credit of bay `b`'s port: a program any, every other only one beyond the escape part (R71). -/
def State.creditFor (s : State) (b code : Nat) : Bool := code == 2 || decide (s.cmdEscape b < (s.port b).crCmd)

/-- The declared maximum of a die operation on bay `b`, in slots; 0 where the module has declared none (R183, R238). -/
def State.declaredMax (s : State) (b code : Nat) (slc : Bool) : Nat :=
  match (s.port b).desc with
  | none => 0
  | some d =>
    if code = 1 then us (if slc then d.trSlcMax else d.trMax)
    else if code = 2 then us (if slc then d.tprogSlcMax else d.tprogMax)
    else if code = 3 then us d.tbersMax
    else 0

/-- The Sheet operation timeout of an operation issued now (R238); a FENCE has TBERS_MAX and 1 ms (R236). -/
def State.opTimeout (s : State) (b : Nat) (op : SheetOp) : Nat :=
  if isDieOp op.code then
    let ahead := (s.port b).ops.filter fun e => isDieOp e.2.code && e.2.die == op.die
    s.declaredMax b op.code op.slc + ahead.foldl (fun n e => n + s.declaredMax b e.2.code e.2.slc) 0 + us 200
      + (if op.prio then us 100 else 0)
  else if op.code = 0x0B then s.declaredMax b 3 false + ms 1
  else us 200

/-- A PRIO READ extends the timeout of each PROGRAM and ERASE outstanding on its die by TR_MAX and TSUS_MAX (R238). -/
def extendFor (op : SheetOp) (more : Nat) (t : Tab SheetOp) : Tab SheetOp :=
  if op.code = 1 ∧ op.prio then
    tabMap (fun _ o => if (o.code = 2 ∨ o.code = 3) ∧ o.die = op.die then { o with due := o.due + more } else o) t
  else t

/-- TR_MAX and TSUS_MAX of bay `b`'s module, in slots. -/
def State.suspendMax (s : State) (b : Nat) : Nat := ((s.port b).desc.map fun d => us (d.trMax + d.tsusMax)).getD 0

/-- The codeword that a DATA frame carries: systematic, its payload in bytes 0 to 4,159 and the check bits after it (R186, R226, Table 8.4).
Frame 4p + c holds codeword c of plane p, byte 4,608 c of the plane's page. -/
def codewordOf (p : Payload) : Codeword := Config.ldpcBits p ++ p

/-- Issue an operation on the port of bay `b`; none when it must wait (R71, R217, R220, R224, R235, R236). -/
def State.issue (s : State) (b : Nat) (op : SheetOp) (value : BitVec 64) (offsets : List Int) (frames : List Payload) :
    Option State :=
  let p := s.port b
  if s.mayIssue b op.code && s.creditFor b op.code && p.room op.code op.die frames.length then
    let tag := p.freeTag
    let s1 := s.onPort b fun p =>
      Port.seqFrames (Port.seqFrames
        { p with
          ops := tabPut (extendFor op (s.suspendMax b) p.ops) tag
            { op with value := value, offsets := offsets, frames := frames, due := s.now + s.opTimeout b op }
          nextTag := (tag + 1) % 0xFFF, crCmd := p.crCmd - 1, crData := p.crData - frames.length, ackDue := false } 0x10 tag 1) 0x20 tag frames.length
    let s2 := s1.emit (.sheet b (.command tag op value offsets))
    some (if frames.isEmpty then s2 else s2.emit (.sheet b (.data tag (frames.map codewordOf))))
  else none

/-- An operation with the epoch this controller last wrote (R223, R236). -/
def State.mkOp (s : State) (code die page : Nat) (slc : Bool) (user : OpFor) : SheetOp :=
  { code := code, die := die, page := page, slc := slc, arg := 0,
    epoch := if code = 2 ∨ code = 3 ∨ code = 0x0B then s.sheet.epoch else 0
    prio := false, cwmask := 0, user := user, timedOut := false, requery := false, tries := 0, value := 0, offsets := [],
    frames := [], due := 0 }

/-- Issue a module operation without data and without waiting for room: nothing is sent when there is none. -/
def State.ask (s : State) (b code arg : Nat) (value : BitVec 64) : State :=
  (s.issue b { s.mkOp code 0xFF 0 false .other with arg := arg } value [] []).getD s

/-- Send FENCE at this controller's epoch to the module of bay `b` (R236, Table 9.13). -/
def State.sendFence (s : State) (b : Nat) : State :=
  match s.issue b (s.mkOp 0x0B 0xFF 0 false .other) 0 [] [] with
  | some t => t.setMod b .fencing
  | none => s.setMod b .fencing

/-! ### Background budgets (R31) -/

/-- Units a shelf background lane has left in this frame: 0 in debt, and 0 where the image has no such lane (R31, Table 2.4). -/
def State.backLeft (s : State) (lclass : Nat) : Nat :=
  match s.laneOf 0x7FF lclass with
  | some l => if tabGetD s.sched.debt l 0 = 0 then tabGetD s.sched.left l 0 else 0
  | none => 0

/-- Charge units to a shelf background lane; what exceeds its budget is debt (R31). -/
def State.chargeBack (s : State) (lclass u : Nat) : State :=
  match s.laneOf 0x7FF lclass with
  | some l =>
    s.onSched fun x =>
      let n := tabGetD x.left l 0
      { x with left := tabPut x.left l (n - u), debt := tabPutD 0 x.debt l (tabGetD x.debt l 0 + (u - n)) }
  | none => s

/-! ### The loss set and rebuild's reaction (R160, R172) -/

/-- Code of a rebuild state (Table 7.4). -/
def rebCode : RebuildState → Nat
  | .idle => 0
  | .journal => 1
  | .critical => 2
  | .single => 3
  | .sweep => 4
  | .held => 5

/-- Enter a rebuild state, be it the one it is in, with its event (R172, R175, ES 0x605): HELD raises none. -/
def State.enterReb (s : State) (r : RebuildState) : State :=
  let old := s.reb.st
  let s1 := s.onReb fun x => { x with st := r }
  if r = .held then s1
  else if r = .idle then
    s1.event 0x605 2 (0 + 256 * rebCode old + 2 ^ 24 * min s.reb.repaired (2 ^ 40 - 1)) (min s.reb.poisonedCount (2 ^ 32 - 1))
  else s1.eventState 0x605 (rebCode r) (rebCode old) 0 0

/-- Enter another rebuild state than the one it is in (R172, R175). -/
def State.setReb (s : State) (r : RebuildState) : State := if s.reb.st = r then s else s.enterReb r

/-- Whether the function is ARMED or RUNNING on the lease holder, where rebuild runs (R170, Table 7.5). -/
def State.rebuildMay (s : State) : Bool := s.holder && (s.fn.st == .armed || s.fn.st == .running)

/-- A bay or die enters the loss set: rebuild goes to JOURNAL with its cursor at unit 0 and its counts from zero,
keeping the sweep pending; a retired die 1 takes a module copy of the stripe journal with it, die 0 a root copy (R156, R160, R172, R173,
R175, Table 7.5). -/
def State.addLoss (s : State) (x : LossItem) : State :=
  if s.reb.loss.contains x then s
  else
    let lostRings : List Nat := match x with
      | .bay b => (s.log.sjCopies.map SjCopy.bay).filter (· == b) ++ ((s.pl.root.filter fun r => tabGetD s.log.rootMoved r r == b).map fun _ => 64 + b)
      | .die b 1 => (s.log.sjCopies.map SjCopy.bay).filter (· == b)
      | .die b 0 => (s.pl.root.filter fun r => tabGetD s.log.rootMoved r r == b).map fun _ => 64 + b
      | .die _ _ => []
    let s1 := s.onReb fun r =>
      { r with
        loss := r.loss ++ [x], unit := 0, index := 0, repaired := 0, poisonedCount := 0
        sweepPending := r.sweepPending || r.st == .sweep || r.kept == .sweep
        journalLost := r.journalLost ++ lostRings.filter fun b => !r.journalLost.contains b }
    let s2 := match x with
      | .bay b => s1.onLog fun l => { l with sjCopies := l.sjCopies.filter fun c => c.bay != b }
      | .die b d => if d = 1 then s1.onLog fun l => { l with sjCopies := l.sjCopies.filter fun c => c.bay != b } else s1
    if s.rebuildMay then s2.enterReb .journal else s2.onReb fun r => { r with st := .held, kept := .journal }

end Sys2Proof.Machine
end

