-- ==== Sys2Proof/Machine/MapOps.lean ====
section
/-! DEFINITION. Shared operations of the forward map: the pool and the GMD, the Translation Cache's lines, lookups and
map updates, the retention time index (chapters 4, 5 and 14). -/

namespace Sys2Proof.Machine

/-! ### Map pages (R75 to R79) -/

/-- The map page number of a sector (R75). -/
def State.mpnOf (s : State) (ns lba : Nat) : Nat :=
  match s.nsEntry ns with
  | some e => e.mapBase + lba / 816
  | none => lba / 816

/-- The GMD entry of a page that holds nothing (Table 4.3). -/
def GmdEntry.blank : GmdEntry :=
  { resident := false, dirty := false, empty := true, fetching := false, loc := 0xFFFFFFFFFF#40, slot := 0 }

/-- The GMD entry of a map page (R78). -/
def State.gmd (s : State) (mpn : Nat) : GmdEntry := tabGetD s.map.gmd mpn GmdEntry.blank

/-- Change a GMD entry; the changed entry's GMD page is due in the next checkpoint (R101). -/
def State.onGmd (s : State) (mpn : Nat) (g : GmdEntry → GmdEntry) : State :=
  s.onMap fun m =>
    { m with
      gmd := tabPut m.gmd mpn (g (tabGetD m.gmd mpn GmdEntry.blank))
      gmdDirty := if m.gmdDirty.contains (mpn / 512) then m.gmdDirty else m.gmdDirty ++ [mpn / 512] }

/-- Pool slots the fitted DRAM holds: what 64 GiB of fixed areas and the GMD leave, at 4,112 bytes a slot
(worked example of chapter 4). -/
def State.poolCap (s : State) : Nat :=
  match s.fn.committed with
  | some i => ((s.boot.board.dramGib - 64) * 2 ^ 30 - 8 * (i.ns.dirBase + i.ns.sysPages)) / 4112
  | none => 0

/-- Whether a map page belongs to the system ranges, always resident and pinned (R164, R197, R345, R354). -/
def State.sysPage (s : State) (mpn : Nat) : Bool :=
  match s.fn.committed with
  | some i => decide (i.ns.dirBase ≤ mpn)
  | none => false

/-- Change the pool slot of a resident page. -/
def State.onSlot (s : State) (mpn : Nat) (g : PoolSlot → PoolSlot) : State :=
  if (s.gmd mpn).resident then s.onMap fun m => { m with pool := tabMod m.pool (s.gmd mpn).slot g } else s

/-- The pool slot of a resident page. -/
def State.slotOf (s : State) (mpn : Nat) : Option PoolSlot :=
  if (s.gmd mpn).resident then tabGet s.map.pool (s.gmd mpn).slot else none

/-- Whether a map update to a page is pending: a committed stripe holds a host sector of it that is not mapped yet (R79, R93). -/
def State.updatePending (s : State) (mpn : Nat) : Bool :=
  s.log.stripes.any fun e => e.2.st == .committed && e.2.sectors.any fun x =>
    mdKind x.payload == 0 && !x.mapped && s.mpnOf (mdNs x.payload) (mdLba x.payload) == mpn

/-- Whether a slot may be evicted: clean, unpinned, no update of it pending, and not of a system range (R79). -/
def State.evictable (s : State) (p : PoolSlot) : Bool :=
  p.pins == 0 && !(s.gmd p.mpn).dirty && !s.sysPage p.mpn && !s.updatePending p.mpn

/-- Pool slots reserved for fetches in progress, other than one for `mpn` (R76). -/
def State.slotsHeld (s : State) (mpn : Nat) : Nat := (s.map.gmd.filter fun e => e.2.fetching && e.1 != mpn).length

/-- Evict the oldest clean unpinned page, by the ageing of R118; false where none may go (R79). -/
def State.evict (s : State) : Bool × State :=
  let cand := s.map.pool.filter fun e => s.evictable e.2
  let top := cand.foldl (fun a e => max a e.2.age) 0
  match cand.find? fun e => e.2.age == top with
  | none => (false, s)
  | some e =>
    let s1 := s.onMap fun m =>
      { m with
        pool := tabMap (fun _ p => if s.evictable p then { p with age := p.age + (3 - top) } else p) (tabDel m.pool e.1)
        gmd := tabMod m.gmd e.2.mpn fun g =>
          { g with resident := false, slot := 0, loc := e.2.loc, empty := g.empty || !isLoc e.2.loc } }
    (true, s1)

/-- Make sure a pool slot is free for a page beside those that fetches hold, evicting if the pool is full; false where none can be had
(R76, R79). -/
def State.freeSlot (s : State) (mpn : Nat) : Bool × State :=
  if s.map.pool.length + s.slotsHeld mpn < s.poolCap then (true, s) else s.evict

/-- Take a pool slot for a page; false where no slot can be had, and no fetch of it is then in progress (R78, R79). -/
def State.takeSlot (s : State) (mpn : Nat) (p : PoolSlot) : Bool × State :=
  let r := s.freeSlot mpn
  if r.1 then
    let s1 := r.2
    let n := s1.map.nextSlot
    let free := ((List.range (s1.map.pool.length + 1)).map fun i => (n + i) % (s1.map.pool.length + 1)).find? fun i =>
      (tabGet s1.map.pool i).isNone
    let slot := free.getD s1.map.pool.length
    (true, (s1.onMap fun m => { m with pool := tabPut m.pool slot p, nextSlot := slot + 1 }).onMap fun m =>
      { m with
        gmd := tabUpd GmdEntry.blank m.gmd mpn fun g => { g with resident := true, fetching := false, slot := slot, empty := false } })
  else (false, s.onMap fun m => { m with gmd := tabMod m.gmd mpn fun g => { g with fetching := false } })

/-- A page with no copy anywhere comes into the pool with every entry unmapped (R74, R78). -/
def State.blankPage (s : State) (mpn : Nat) : Bool × State :=
  s.takeSlot mpn ⟨mpn, 0xFFFFFFFFFF#40, 0, 1, 0, 0, []⟩

/-! ### The Translation Cache's lines (R111, R112, R117 to R122) -/

/-- Line address (R111). -/
def lineAddr (mpn lba : Nat) : Nat := mpn * 68 + lba % 816 / 12

/-- Set of a line address (R112). -/
def tcSet (la : Nat) : Nat := Nat.xor (Nat.xor (la % 65536) (la / 65536 % 65536)) (la / 2 ^ 32 % 128)

/-- Table key of a way of a set. -/
def tcKey (set way : Nat) : Nat := 16 * set + way

/-- The tag of a way never used: V clear (Table 5.3). -/
def TcLine.blank : TcLine :=
  { la := 0, v := false, l := false, age := 0, f := false, entries := [], dirtyMask := 0, ns := 0, streamed := false, p := false
    check := List.replicate 8 0 }

/-- Parity of 64 bits: true for an odd number of ones. -/
def oddOnes (w : BitVec 64) : Bool :=
  let a := w ^^^ (w >>> 32)
  let b := a ^^^ (a >>> 16)
  let c := b ^^^ (b >>> 8)
  let d := c ^^^ (c >>> 4)
  let e := d ^^^ (d >>> 2)
  (e ^^^ (e >>> 1)).getLsbD 0

/-- Tag bits 44 to 0 (Table 5.3). -/
def TcLine.tag (l : TcLine) : BitVec 64 :=
  BitVec.ofNat 64 (l.la % 2 ^ 39 + 2 ^ 39 * b2n l.v + 2 ^ 40 * b2n (l.dirtyMask != 0) + 2 ^ 41 * b2n l.l + 2 ^ 42 * (l.age % 4) + 2 ^ 44 * b2n l.f)

/-- Whether the tag's parity bit checks (R113). -/
def TcLine.tagOk (l : TcLine) : Bool := l.p == oddOnes l.tag

/-- The line's eight 64-bit words: ENTRIES, then LMETA (Tables 5.1, 5.2). -/
def TcLine.words (l : TcLine) : List (BitVec 64) :=
  let meta_ := l.dirtyMask.toNat + 2 ^ 12 * (l.ns % 4096) + 2 ^ 24 * (l.la % 68) + 2 ^ 31 * b2n l.streamed
  let n := (List.range 12).foldl (fun a i => a + (nth l.entries i 0).toNat * 2 ^ (40 * i)) (meta_ * 2 ^ 480)
  (List.range 8).map fun k => BitVec.ofNat 64 (n / 2 ^ (64 * k))

/-- The data bits that each of the seven Hamming check bits covers: bit i of a word has the i-th number from 3 to 71 that is no power of two as
its place (R114; DESIGN CHOICE, log 50: the spec names no SECDED code). -/
def hammingMasks : List (BitVec 64) :=
  [0xab55555556aaad5b, 0xcd9999999b33366d, 0xf1e1e1e1e3c3c78e, 0x1fe01fe03fc07f0, 0x1fffe0003fff800, 0x1fffffffc000000, 0xfe00000000000000]

/-- The seven Hamming check bits of a word. -/
def hamming (w : BitVec 64) : Nat := (List.range 7).foldl (fun a j => a + b2n (oddOnes (w &&& nth hammingMasks j 0)) * 2 ^ j) 0

/-- The eight check bits of a word: the Hamming bits, and bit 7 that makes the number of ones in all 72 even (R114). -/
def secded (w : BitVec 64) : BitVec 8 :=
  let h := hamming w
  BitVec.ofNat 8 (h + 128 * b2n (oddOnes w != oddOnes (BitVec.ofNat 64 h)))

/-- What a read of a protected word finds (R114). -/
inductive WordRead where
  | good (w : BitVec 64)
  | fixed (w : BitVec 64)
  | bad
  deriving DecidableEq, Repr

/-- Read a word with its check bits: a single wrong bit, of the word or of the check bits, is corrected, two are detected (R114). -/
def readWord (w : BitVec 64) (c : BitVec 8) : WordRead :=
  let syn := Nat.xor (hamming w) (c.toNat % 128)
  let odd := oddOnes w != oddOnes (c.setWidth 64)
  if syn = 0 then (if odd then .fixed w else .good w)
  else if !odd then .bad
  else if [1, 2, 4, 8, 16, 32, 64].contains syn then .fixed w
  else match (List.range 64).find? fun i => hamming (BitVec.ofNat 64 (2 ^ i)) == syn with
    | some i => .fixed (w ^^^ BitVec.ofNat 64 (2 ^ i))
    | none => .bad

/-- The line as it is written to the arrays: with the parity bit of its tag and the check bits of its words (R113, R114). -/
def TcLine.sealed (l : TcLine) : TcLine := { l with p := oddOnes l.tag, check := l.words.map secded }

/-- The line's words as a read finds them (R114). -/
def TcLine.reads (l : TcLine) : List WordRead :=
  let w := l.words
  (List.range 8).map fun k => readWord (nth w k 0) (nth l.check k 0)

/-- The line with the words that a read corrected (R114, Table 5.5). -/
def TcLine.corrected (l : TcLine) : TcLine :=
  let w := l.reads.map fun r => match r with
    | .good w | .fixed w => w
    | .bad => 0
  let n := (List.range 8).foldl (fun a k => a + (nth w k 0).toNat * 2 ^ (64 * k)) 0
  { l with
    entries := (List.range 12).map fun i => BitVec.ofNat 40 (n / 2 ^ (40 * i))
    dirtyMask := BitVec.ofNat 12 (n / 2 ^ 480), ns := n / 2 ^ 492 % 4096, streamed := decide (n / 2 ^ 511 % 2 = 1) }.sealed

/-- A way of a set. -/
def State.tcWayOf (s : State) (set way : Nat) : TcLine := tabGetD s.tc.lines (tcKey set way) TcLine.blank

/-- Write a way of a set, with the parity bit and the check bits (R113, R114). -/
def State.putLine (s : State) (set way : Nat) (l : TcLine) : State :=
  s.onTc fun t => { t with lines := tabPutD TcLine.blank t.lines (tcKey set way) l.sealed }

/-- The way that hits: V = 1, F = 0 and a matching LA, with no tag parity error (R76, chapter 5). -/
def State.tcHit (s : State) (la : Nat) : Option Nat :=
  (List.range 16).find? fun w => let l := s.tcWayOf (tcSet la) w; l.v && !l.f && l.la == la && l.tagOk

/-- Whether a way is powered and eligible (R128). -/
def State.wayOn (s : State) (w : Nat) : Bool := s.tc.on.getLsbD (w / 4) && !s.tc.reqOff.getLsbD (w / 4)

/-- Change the pin count of a page's slot (R79). -/
def State.pin (s : State) (mpn : Nat) (up : Bool) : State :=
  s.onSlot mpn fun p => { p with pins := if up then p.pins + 1 else p.pins - 1 }

/-- Entry `i` of a page set to `e`; an unmapped entry is not listed. -/
def setPageEntry (t : Tab MapEntry) (i : Nat) (e : MapEntry) : Tab MapEntry := tabPutD eUnmapped t i e

/-- Write a line's dirty entries back to its pool slot: the line is clean and its pin released (R119, R120). -/
def State.writeBack (s : State) (set way : Nat) : State :=
  let l := s.tcWayOf set way
  if l.v && l.dirtyMask != 0 then
    let mpn := l.la / 68
    let first := l.la % 68 * 12
    let s1 := s.onSlot mpn fun p =>
      { p with
        entries := (List.range 12).foldl (fun t i =>
          if l.dirtyMask.getLsbD i then setPageEntry t (first + i) (nth l.entries i eUnmapped) else t) p.entries }
    ((s1.putLine set way { l with dirtyMask := 0 }).pin mpn false).onTc fun t =>
      { t with wb := t.wb.filter fun e => !(e.la == l.la && e.way == way) }
  else s

/-- Drop a line: written back if dirty, its lock's pin released (R125, R128, R130). -/
def State.dropLine (s : State) (set way : Nat) : State :=
  let s1 := s.writeBack set way
  let l := s1.tcWayOf set way
  let s2 := if l.v && l.l then s1.pin (l.la / 68) false else s1
  s2.putLine set way TcLine.blank

/-- Write back every dirty line of a map page (R121). -/
def State.writeBackPage (s : State) (mpn : Nat) : State :=
  (List.range 68).foldl (fun s i =>
    match s.tcHit (mpn * 68 + i) with
    | some w => s.writeBack (tcSet (mpn * 68 + i)) w
    | none => s) s

/-- Choose a victim way (R118): the lowest invalid way, else the lowest with AGE 3, else ageing raises every
eligible way and the lowest that reaches 3 goes; none where no way is eligible. Ways `ok` only. -/
def State.victim (s : State) (set : Nat) (ok : Nat → Bool) : Option (Nat × State) :=
  let elig := (List.range 16).filter fun w => ok w && (let l := s.tcWayOf set w; !l.l && !l.f)
  match elig.find? fun w => !(s.tcWayOf set w).v with
  | some w => some (w, s)
  | none =>
    let top := elig.foldl (fun a w => max a (s.tcWayOf set w).age) 0
    match elig.find? fun w => (s.tcWayOf set w).age == top with
    | none => none
    | some w =>
      some (w, if top = 3 then s else elig.foldl (fun s w =>
        let l := s.tcWayOf set w
        s.putLine set w { l with age := l.age + (3 - top) }) s)

/-- Take a miss entry and reserve a victim way for a fill, or park on the fill already in flight, which then installs by a
preload's rule if a preload shares it; each lookup cell has 64 miss entries, and a lookup that finds none free waits for the next one. The
entry holds a pin on its page (R79, R115, R118, "Preload meets miss"). -/
def State.startFill (s : State) (la ns : Nat) (streaming lock : Bool) (parked : Option Nat) : State :=
  let add (m : TcMiss) : TcMiss := match parked with
    | some o => if m.parked.contains o then m else { m with parked := m.parked ++ [o] }
    | none => m
  if s.tc.miss.any fun m => m.la == la then
    s.onTc fun t => { t with miss := t.miss.map fun m =>
      if m.la = la then { add m with lock := m.lock || lock, streaming := if parked.isNone then streaming else m.streaming } else m }
  else
    let set := tcSet la
    if (s.tc.miss.filter fun m => tcSet m.la % 4 == set % 4).length ≥ 64 then
      if parked.isNone then s
      else s.onTc fun t =>
        { t with
          queue := if t.queue.any fun m => m.la == la then t.queue.map fun m => if m.la = la then add m else m
            else t.queue ++ [add ⟨la, none, streaming, lock, ns, [], [], false⟩] }
    else
      let okWay (w : Nat) : Bool := s.wayOn w && (if lock then s.tc.lockMask.getLsbD w else !s.tc.lockMask.getLsbD w)
      let pick := match s.victim set okWay with
        | some r => some r
        | none => if lock then s.victim set fun w => s.wayOn w && !s.tc.lockMask.getLsbD w else none
      let mpn := la / 68
      match pick with
      | none => (s.pin mpn true).onTc fun t => { t with miss := t.miss ++ [add ⟨la, none, streaming, lock, ns, [], [], false⟩] }
      | some (w, s1) =>
        let s2 := s1.dropLine set w
        ((s2.putLine set w { TcLine.blank with la := la, f := true }).pin mpn true).onTc fun t =>
          { t with miss := t.miss ++ [add ⟨la, some w, streaming, lock, ns, [], [], false⟩] }

/-- Start a fetch of a map page from flash: FETCHING is set (R76, R78). The codeword read is started by the
caller. -/
def State.markFetch (s : State) (mpn : Nat) : State :=
  s.onMap fun m => { m with gmd := tabUpd GmdEntry.blank m.gmd mpn fun g => { g with fetching := true } }

/-! ### Lookups (R76, R110) -/

/-- What a lookup finds. -/
inductive Look where
  | entry (e : MapEntry)
  | fill (la : Nat)
  | fetch (mpn : Nat)
  deriving DecidableEq, Repr

/-- Look a sector's map entry up (R76): the cache, then the GMD and the pool; a page in flash must be fetched. -/
def State.look (s : State) (ns lba : Nat) : Look :=
  let mpn := s.mpnOf ns lba
  let la := lineAddr mpn lba
  match s.tcHit la with
  | some w => .entry (nth (s.tcWayOf (tcSet la) w).entries (lba % 816 % 12) eUnmapped)
  | none =>
    let g := s.gmd mpn
    if g.resident then .fill la
    else if g.empty then .entry eUnmapped
    else .fetch mpn

/-- The map's value for a sector whose page is not in flash alone: the cache's dirty or clean entry, else the
pool's. -/
def State.mapNow (s : State) (ns lba : Nat) : Option MapEntry :=
  match s.look ns lba with
  | .entry e => some e
  | .fill _ => (s.slotOf (s.mpnOf ns lba)).map fun p => tabGetD p.entries (lba % 816) eUnmapped
  | .fetch _ => none

/-- A hit sets AGE to 0 and STREAMED to 0 for a host lookup that is not sequential (R117). -/
def State.touch (s : State) (ns lba : Nat) (streaming : Bool) : State :=
  let la := lineAddr (s.mpnOf ns lba) lba
  if streaming then s
  else match s.tcHit la with
    | some w => let l := s.tcWayOf (tcSet la) w
      s.putLine (tcSet la) w { l with age := 0, streamed := false }
    | none => s

/-! ### The retention time index (R265, R354 to R357) -/

/-- A Retention namespace's index. -/
def State.retIndex (s : State) (ns : Nat) : List RetEntry := tabGetD s.cip.index ns []

/-- Entries the index of a namespace may hold (R357). -/
def retCap (period : Nat) : Nat := min (period + 2) (65536 * 255)

/-- An entry is appended when a write takes its order number in a later minute than the tail's; in a full index
the tail's MINUTE is raised instead, with an event (R355, R357). -/
def State.retAppend (s : State) (ns minute wseq : Nat) : State :=
  match s.nsEntry ns with
  | none => s
  | some e =>
    let l := s.retIndex ns
    let tail := (l.getLast?.map fun x => x.minute)
    if (match tail with
      | some m => decide (minute ≤ m)
      | none => false) then s
    else if l.length < retCap e.retPeriod then
      s.onCip fun c => { c with index := tabPut c.index ns (l ++ [⟨minute, 0, wseq⟩]) }
    else
      (s.onCip fun c =>
        { c with index := tabPut c.index ns (modNth l (l.length - 1) fun x => { x with minute := minute }) }).event 0x631 0x0A 1 ns

/-- A sector's index entry: the one with the greatest FIRST_WSEQ not above its WSEQ (R355). -/
def retPlace (l : List RetEntry) (wseq : Nat) : Option Nat :=
  (List.range l.length).foldl (fun b i => match l[i]? with
    | some e => if e.firstWseq ≤ wseq then some i else b
    | none => b) none

/-- COUNT of the entry of `wseq` rises by `n` sectors (R355). -/
def State.retCount (s : State) (ns wseq n : Nat) : State :=
  match retPlace (s.retIndex ns) wseq with
  | some i => s.onCip fun c => { c with index := tabMod c.index ns fun l => modNth l i fun e => { e with count := e.count + n } }
  | none => s

/-- Whether a written sector of WSEQ `wseq` is unexpired: not below the head entry's FIRST_WSEQ, heads dropped by
the clock `minute` (R355). -/
def State.unexpired (s : State) (ns wseq minute : Nat) : Bool :=
  match s.nsEntry ns with
  | none => false
  | some e =>
    match (s.retIndex ns).find? fun x => decide (minute < x.minute + 1 + e.retPeriod) with
    | some x => decide (x.firstWseq ≤ wseq)
    | none => false

/-! ### Map updates (R93, R97, R119, R345) -/

/-- The payload of a programmed codeword, or of one held in a stripe buffer. -/
def State.codeword (s : State) (l : Loc) : Option Payload := tabGet s.sheet.media l.toNat

/-- A DESTROYED slot whose last sector is gone and that no KEYSEL names becomes EMPTY (R348). -/
def State.keyEmpty (s : State) (k : Nat) : State :=
  let x := s.keySlot k
  let named := match s.fn.committed with
    | some i => i.ns.entries.any fun e => e.2.present && 4 * e.2.tenant + e.2.keysel == k
    | none => false
  if x.st = 2 ∧ x.sectors = 0 ∧ !named then
    s.onCip fun c => { c with slots := tabPut c.slots k { x with st := 0, mode := 0, material := 0, check := 0, wrapped := 0 } }
  else s

/-- Change a key slot's SECTORS by one sector (Table 14.3, R348). -/
def State.keyCount (s : State) (k : Nat) (up : Bool) : State :=
  let s1 := s.onCip fun c =>
    { c with slots := tabUpd KeySlot.blank c.slots k fun x => { x with sectors := if up then x.sectors + 1 else x.sectors - 1 } }
  if up then s1 else s1.keyEmpty k

/-- A free reclaim unit never opened. -/
def UnitRec.blank : UnitRec :=
  { st := .free, use := 0, stream := 0, valid := 0, sectors := 0, lastCommit := 0, emptiedJpos := 0,
    topScore := false, erasesLeft := 0, nextPos := [] }

/-- A reclaim unit. -/
def State.unit (s : State) (u : Nat) : UnitRec := tabGetD s.log.units u UnitRec.blank

/-- Change a reclaim unit. -/
def State.onUnit (s : State) (u : Nat) (g : UnitRec → UnitRec) : State :=
  s.onLog fun l => { l with units := tabUpd UnitRec.blank l.units u g }

/-- The records of an update have been appended from JPOS `from_` on: a unit that the update emptied counts as emptied by the last of them
(R100). -/
def State.settleEmptied (s : State) (from_ : Nat) : State :=
  s.onLog fun l =>
    { l with units := tabMap (fun _ u => if u.valid = 0 ∧ u.stream ≠ 61 ∧ from_ ≤ u.emptiedJpos then { u with emptiedJpos := l.jposNext - 1 } else u) l.units }

/-- A map entry starts (`up`) or stops pointing at a location: valid counts of its unit and bay, and its key
slot's SECTORS (R97, R170, Table 14.3). -/
def State.countLoc (s : State) (e : MapEntry) (up : Bool) (key : Option Nat) : State :=
  if !isLoc e then s
  else
    let s1 := match s.locUnit e with
      | none => s
      | some u =>
        (s.onUnit u fun x =>
          let v := if up then x.valid + 1 else x.valid - 1
          { x with valid := v, emptiedJpos := if v = 0 then s.log.jposNext else x.emptiedJpos }).onLog fun l =>
          { l with validBay := tabUpd 0 l.validBay (64 * u + locBay e) fun n => if up then n + 1 else n - 1 }
    match key with
    | some k => s1.keyCount k up
    | none => s1

/-- The key slot a codeword's metadata names, for a host sector. -/
def State.keyOfLoc (s : State) (e : MapEntry) : Option Nat :=
  match s.codeword e with
  | some p => if mdKind p = 0 then some (mdKey p) else none
  | none => none

/-- Write an entry into the cache line if it is present, else into the pool slot; a line that becomes dirty joins
the write-back queue and pins its page, or is written through while the queue is full (R119, R120). An update of
a line being filled goes to the pool slot and the miss entry ("Update meets fill"). -/
def State.putEntry (s : State) (ns lba : Nat) (e : MapEntry) : State :=
  let mpn := s.mpnOf ns lba
  let la := lineAddr mpn lba
  let set := tcSet la
  let i := lba % 816 % 12
  let direct (s : State) : State := s.onSlot mpn fun p => { p with entries := setPageEntry p.entries (lba % 816) e }
  let s1 := s.onGmd mpn fun g => { g with dirty := true, empty := false }
  match s1.tcHit la with
  | some w =>
    let l := s1.tcWayOf set w
    let l1 := { l with entries := modNth l.entries i fun _ => e }
    if l.dirtyMask ≠ 0 then s1.putLine set w { l1 with dirtyMask := l.dirtyMask ||| BitVec.ofNat 12 (2 ^ i) }
    else if s1.tc.wb.length < 65536 then
      ((s1.putLine set w { l1 with dirtyMask := BitVec.ofNat 12 (2 ^ i) }).pin mpn true).onTc fun t =>
        { t with wb := t.wb ++ [⟨la, w, s.clk.frame⟩] }
    else direct (s1.putLine set w l1)
  | none =>
    (direct s1).onTc fun t =>
      { t with miss := t.miss.map fun m => if m.la = la then { m with updates := m.updates ++ [(i, e)] } else m }

/-- The map updates of one frame at most (R122). -/
def updateLimit : Nat := 2048

/-- Whether a map page can take an update now: resident, or brought in blank when no copy exists (R79). -/
def State.readyPage (s : State) (mpn : Nat) : Bool × State :=
  let g := s.gmd mpn
  if g.resident then (true, s) else if g.empty then s.blankPage mpn else (false, s)

/-- Bring map pages into the pool, each pinned until all are looked at: whether all are there; what is only in flash is fetched (R76, R79). -/
def State.readyPages (s : State) (fetch : State → Nat → State) (pages : List Nat) : Bool × State :=
  let a := pages.foldl (fun a m =>
    let r := a.2.2.readyPage m
    if r.1 then (a.1, m :: a.2.1, r.2.pin m true) else (false, a.2.1, if (r.2.gmd m).empty then r.2 else fetch r.2 m)) (true, ([] : List Nat), s)
  (a.1, a.2.1.foldl (fun s m => s.pin m false) a.2.2)

/-- Apply one map update to a resident page (R93, R97, R176, R256): the entry, the valid counts, NUSE and the
poison counts. `key` is the slot the new copy's metadata names. -/
def State.applyEntry (s : State) (ns lba : Nat) (e : MapEntry) (key : Option Nat) : State :=
  let old := (s.mapNow ns lba).getD eUnmapped
  let s1 := (s.countLoc old false (s.keyOfLoc old)).putEntry ns lba e
  let s2 := s1.countLoc e true key
  s2.onMap fun m =>
    { m with
      nus := tabUpd 0 m.nus ns fun n =>
        if old = eUnmapped then (if e = eUnmapped then n else n + 1) else (if e = eUnmapped then n - 1 else n)
      poisoned := tabUpd 0 m.poisoned ns fun n =>
        if e = ePoisoned then (if old = ePoisoned then n else n + 1) else (if old = ePoisoned then n - 1 else n)
      poisonLbas := if e = ePoisoned then (if m.poisonLbas.contains (ns, lba) then m.poisonLbas else m.poisonLbas ++ [(ns, lba)])
        else m.poisonLbas.filter (· != (ns, lba)) }

/-- Record in a page's header that it includes updates up to a journal position (Table 4.2). -/
def State.stampPage (s : State) (mpn jpos : Nat) : State := s.onSlot mpn fun p => { p with jpos := jpos }

/-- The 4 KiB of a map page (Table 4.2). -/
def mapPageData (mpn jpos : Nat) (entries : Tab MapEntry) : Sector :=
  let blank := 2 ^ 32640 - 1
  let ents := entries.foldl (fun a e =>
    if e.1 < 816 then a - (2 ^ 40 - 1) * 2 ^ (40 * e.1) + e.2.toNat * 2 ^ (40 * e.1) else a) blank
  let head := mpn % 2 ^ 32 + 2 ^ 32 * (jpos % 2 ^ 48)
  let crc := (crc32c (leBytes 12 head ++ leBytes 4080 ents)).toNat
  BitVec.ofNat 32768 (head + 2 ^ 96 * crc + 2 ^ 128 * ents)

/-- The entries of a map page's 4 KiB that are not unmapped (Table 4.2). -/
def mapPageEntries (d : Sector) : Tab MapEntry :=
  (List.range 816).filterMap fun i =>
    let e : MapEntry := BitVec.ofNat 40 (d.toNat / 2 ^ (128 + 40 * i))
    if e = eUnmapped then none else some (i, e)

/-- JPOS of a map page's header. -/
def mapPageJpos (d : Sector) : Nat := bits d.toNat 79 32

/-- Whether a fetched page is readable: its MPN and CRC check and no entry is invalid (R74, R77). -/
def mapPageOk (mpn : Nat) (d : Sector) : Bool :=
  bits d.toNat 31 0 == mpn
    && (crc32c (leBytes 12 (d.toNat % 2 ^ 96) ++ leBytes 4080 (d.toNat / 2 ^ 128))).toNat == bits d.toNat 127 96
    && (mapPageEntries d).all fun e => isLoc e.2 || e.2 == eZeroes || e.2 == ePoisoned

/-- Install a fetched page in a pool slot (R76, R78). -/
def State.installPage (s : State) (mpn : Nat) (loc : Loc) (jpos : Nat) (entries : Tab MapEntry) : Bool × State :=
  s.takeSlot mpn ⟨mpn, loc, 0, 1, jpos, jpos, entries⟩

/-! ### The unit directory (R162, R163) -/

/-- The unit of a stripe ID (Table 6.2). -/
def idUnitOf (id : Nat) : Nat := id / 65536 % 2 ^ 20

/-- Patterns skipped before stripe `i` of a unit: the sum of COUNT over the TYPE 2 entries with INDEX at most `i` (R163). -/
def skipOf (d : UnitDir) (i : Nat) : Nat :=
  (d.exceptions.filter fun e => e.type == 2 && decide (e.index ≤ i)).foldl (fun a e => a + e.count) 0

/-- The bays a stripe of a unit's directory is placed on, by its pattern and the last alternate each role took (R163). -/
def State.stripeBays (s : State) (d : UnitDir) (i : Nat) : List Nat :=
  match s.pl.table[(d.start + i + skipOf d i) % (max 1 s.pl.table.length)]? with
  | none => []
  | some p => (List.range s.roles).map fun r =>
    match (d.exceptions.filter fun e => e.type == 1 && e.index == i && e.role == r).getLast? with
    | some e => e.bay
    | none => nth p.members r 0xFF

/-- The page set a role of a stripe was programmed at, its repair strips left out (R163). -/
def State.roleLoc0 (s : State) (u i r : Nat) : Option Loc :=
  match tabGet s.reb.dirs u with
  | none => none
  | some d =>
    match (s.stripeBays d i)[r]? with
    | none => none
    | some b =>
      let before := ((List.range i).filter fun j => (s.stripeBays d j).contains b).length
      let held := (d.exceptions.filter fun e => e.type == 5 && e.bay == b && decide (e.index ≤ i)).length
      s.posPage u b (before + held)

/-- The repair strip of a role, if the unit's directory names one (R163, TYPE 4). -/
def State.repairStrip (s : State) (u i r : Nat) : Option Loc :=
  match tabGet s.reb.dirs u with
  | none => none
  | some d => (d.exceptions.find? fun e => e.type == 4 && e.index == i && e.role == r).map fun e => BitVec.ofNat 40 e.arg

/-- The page set of role `r` of stripe `i` of unit `u` (R163). -/
def State.roleLoc (s : State) (u i r : Nat) : Option Loc :=
  match s.repairStrip u i r with
  | some l => some l
  | none => s.roleLoc0 u i r

/-- Whether a stripe was abandoned (R162). -/
def abandonedIn (d : UnitDir) (i : Nat) : Bool := d.exceptions.any fun e => e.type == 3 && e.index == i

/-- The page set of a location: PLANE 0, CW 0. -/
def pageSet (l : Loc) : Loc := mkLoc (locBay l) (locDie l) (locPage l) 0 0

/-- The stripe and role a page set holds (R163): through a TYPE 4 entry for a repair strip, else by its unit's
directory; a page set that a repair strip has replaced still names its role. -/
def State.stripeOf (s : State) (l : Loc) : Option (Nat × Nat × Nat) :=
  let p := pageSet l
  match s.reb.dirs.findSome? fun e => (e.2.exceptions.find? fun x => x.type == 4 && x.arg == p.toNat).map fun x => (e.1, x.index, x.role) with
  | some x => some x
  | none =>
    match s.locUnit l with
    | none => none
    | some u =>
      match tabGet s.reb.dirs u with
      | none => none
      | some d => (List.range d.stripes).findSome? fun i =>
        if (s.stripeBays d i).contains (locBay l) then
          ((List.range s.roles).find? fun r => s.roleLoc0 u i r == some p).map fun r => (u, i, r)
        else none

/-- The page sets of a unit's held positions with their TYPE 5 entries (R163): a bay's stripes below INDEX, and the positions held before. -/
def State.heldPages (s : State) (u : Nat) : List (ExcEntry × Loc) :=
  match tabGet s.reb.dirs u with
  | none => []
  | some d =>
    let l := d.exceptions.filter fun e => e.type == 5
    (List.range l.length).filterMap fun n => (l[n]?).bind fun e =>
      let before := ((List.range (min e.index d.stripes)).filter fun j => (s.stripeBays d j).contains e.bay).length
      (s.posPage u e.bay (before + ((l.take n).filter fun x => x.bay == e.bay).length)).map fun p => (e, p)

/-- Whether a page set is a dead position: held by a TYPE 5 entry with no matching TYPE 4 entry in its owner, and not in the batch under way; it
counts as void in its row and holds no valid sector (R168). -/
def State.deadAt (s : State) (u : Nat) (l : Loc) : Bool :=
  (s.unit u).stream == 59 && (s.heldPages u).any fun x => x.2 == pageSet l
    && !(s.reb.batch.any fun q => q.newLoc == x.2 && q.reserved)
    && (match tabGet s.reb.dirs (x.1.arg % 2 ^ 20) with
      | some o => !(o.use == x.1.arg / 2 ^ 36 && o.exceptions.any fun y => y.type == 4 && y.arg == x.2.toNat)
      | none => true)

end Sys2Proof.Machine
end

