-- ==== Sys2Proof/Machine/Parity.lean ====
section
/-! DEFINITION. Parity arithmetic of chapter 6: P, Q, row XOR and the recovery equations of Table 6.6, over whole
codeword payloads of 4,160 bytes. -/

namespace Sys2Proof.Machine

/-- The bit 7 of every byte of a payload. -/
def gfHigh : Payload := BitVec.ofNat 33280 (0x80 * ((2 ^ 33280 - 1) / 255))

/-- Every byte multiplied by g = 0x02 in GF(2^8) with polynomial 0x11D (R149). -/
def gfX (p : Payload) : Payload :=
  let hi := (p &&& gfHigh) >>> 7
  ((p &&& ~~~gfHigh) <<< 1) ^^^ hi ^^^ (hi <<< 2) ^^^ (hi <<< 3) ^^^ (hi <<< 4)

/-- Every byte multiplied by g^n (R149). -/
def gfPow : Nat → Payload → Payload
  | 0, p => p
  | n + 1, p => gfPow n (gfX p)

/-- A byte multiplied by g. -/
def gfXb (a : Nat) : Nat := if a < 128 then 2 * a else Nat.xor (2 * a - 256) 0x1D

/-- The byte g^n (Table 6.5). -/
def gfPowB : Nat → Nat
  | 0 => 1
  | n + 1 => gfXb (gfPowB n)

/-- The exponent of a non-zero byte. -/
def gfLog (c : Nat) : Nat := ((List.range 255).find? fun k => gfPowB k == c).getD 0

/-- Every byte divided by the byte `c`: multiplied by its inverse (R151). -/
def gfDiv (c : Nat) (p : Payload) : Payload := gfPow ((255 - gfLog c) % 255) p

/-- XOR of payloads. -/
def xorAll (l : List Payload) : Payload := l.foldl (· ^^^ ·) 0

/-- P of one codeword position (R149). -/
def parityP (data : List Payload) : Payload := xorAll data

/-- Q of one codeword position: the data roles from g^`i` on (R149). -/
def parityQ : Nat → List Payload → Payload
  | _, [] => 0
  | i, d :: t => gfPow i d ^^^ parityQ (i + 1) t

/-- The 16 payloads of role `r` of a stripe with `d` data roles whose data sectors are `secs` (R140, R149). -/
def rolePayloads (d : Nat) (secs : List Payload) (r : Nat) : List Payload :=
  let at_ (i k : Nat) : Payload := nth secs (16 * i + k) 0
  (List.range 16).map fun k =>
    if r < d then at_ r k
    else if r = d then parityP ((List.range d).map fun i => at_ i k)
    else parityQ 0 ((List.range d).map fun i => at_ i k)

/-- The payload of one lost role from what was read of a codeword position (Table 6.6): `got` lists (role,
payload) of the roles read, `lost` the roles that could not be; none when the equations do not solve it. -/
def solveRole (d : Nat) (got : List (Nat × Payload)) (lost : List Nat) (want : Nat) : Option Payload :=
  let data := got.filter fun e => decide (e.1 < d)
  let p := (got.find? fun e => e.1 == d).map (·.2)
  let q := (got.find? fun e => e.1 == d + 1).map (·.2)
  let lostData := lost.filter fun r => decide (r < d)
  let a := p.map fun x => x ^^^ xorAll (data.map (·.2))
  let b := q.map fun x => x ^^^ xorAll (data.map fun e => gfPow e.1 e.2)
  let solved : Option (List (Nat × Payload)) :=
    match lostData with
    | [] => some []
    | [x] =>
      match a, b with
      | some v, _ => some [(x, v)]
      | none, some v => some [(x, gfDiv (gfPowB x) v)]
      | none, none => none
    | [x, y] =>
      match a, b with
      | some va, some vb =>
        let lo := min x y
        let hi := max x y
        let dy := gfDiv (Nat.xor (gfPowB lo) (gfPowB hi)) (vb ^^^ gfPow lo va)
        some [(hi, dy), (lo, va ^^^ dy)]
      | _, _ => none
    | _ => none
  match solved with
  | none => none
  | some l =>
    let all := data ++ l
    let full := (List.range d).map fun i => ((all.find? fun e => e.1 == i).map (·.2)).getD 0
    if want < d then (all.find? fun e => e.1 == want).map (·.2)
    else if want = d then some (parityP full)
    else some (parityQ 0 full)

end Sys2Proof.Machine
end

