-- ==== Sys2Proof/Machine/LogOps.lean ====
section
/-! DEFINITION. Shared operations of the write log: the journal tail, open and closed stripes, reclaim units, the stripe
journal, acknowledgement and Strike's arming (chapters 4 and 6). -/

namespace Sys2Proof.Machine

/-! ### Space (R108, R109, R152, R153, R154) -/

/-- Units not free. -/
def State.usedUnits (s : State) : Nat := (s.log.units.filter fun e => e.2.st != .free).length

/-- Free reclaim units. -/
def State.freeUnits (s : State) : Nat := s.unitTotal - s.usedUnits

/-- Units of the reclaim-only part: 2 % (R108, R152). -/
def State.reclaimReserve (s : State) : Nat := s.unitTotal * 2 / 100

/-- Data sectors of one unit: 15/16 of its page sets, times d / (d + p) (R152). -/
def State.unitSectors (s : State) : Nat :=
  if s.roles = 0 then 0 else (s.bays.length * 15 * s.geo.ppb * 16) * s.pl.data / s.roles

/-- Usable capacity in sectors (R154). -/
def State.usable (s : State) : Nat :=
  match s.fn.committed with
  | none => 0
  | some i =>
    let su := s.bays.length * s.geo.dies * 4 * (s.geo.epp - s.pl.sysblk) * s.geo.ppb * 4
    let h := (su * 15 / 16) * s.pl.data / (max 1 s.roles) * (1000 - s.pl.reserve) / 1000
    let mp := (h + 815) / 816 + 4096
    h - mp - (mp + 511) / 512 - i.ns.sysPages - 3149632

/-- Data-bearing capacity C in sectors (R152). -/
def State.capacityC (s : State) : Nat :=
  (s.bays.length * s.geo.dies * 4 * s.geo.epp * s.geo.ppb * 4 * 15 / 16) * s.pl.data / (max 1 s.roles)

/-- The rebuild share (R152). -/
def State.rebuildShare (s : State) : Nat := s.capacityC * s.pl.parity / (max 1 s.bays.length)

/-- The spare pool at format: the over-provisioning part less the rebuild share (R152). -/
def State.spareAtFormat (s : State) : Nat := s.capacityC * (s.pl.reserve - 20) / 1000 - s.rebuildShare

/-- Sectors retired: retired dies and grown-bad blocks (R154, R208). -/
def State.retiredSectors (s : State) : Nat :=
  (s.med.records.foldl (fun a r =>
    if r.mgen = 0 then a
    else if r.kind = 5 then a + s.geo.epp * s.geo.ppb * 16
    else if r.kind = 2 ∨ r.kind = 3 ∨ r.kind = 4 then a + s.geo.ppb * 16 else a) 0) * 15 / 16 * s.pl.data / (max 1 s.roles)

/-- Free data sectors outside the reclaim-only part (R108). -/
def State.freeSectors (s : State) : Nat := (s.freeUnits - s.reclaimReserve) * s.unitSectors

/-- The spare pool now: what free space beyond the rebuild share still holds of it (R108, R154). -/
def State.spareNow (s : State) : Nat := min (s.spareAtFormat - s.retiredSectors) (s.freeSectors - s.rebuildShare)

/-- Free units that host streams leave: the reclaim-only part and the rebuild share (R108, R152). -/
def State.hostReserve (s : State) : Nat := s.reclaimReserve + (s.rebuildShare + s.unitSectors - 1) / max 1 s.unitSectors

/-- Bays in service for placement (R148, R485). -/
def State.bayCount (s : State) : Nat := (s.bays.filter fun b => s.inService b && !(s.port b).hot).length

/-- Enter or leave read-only by free space and bays in service, with its event (R108, R109, R148, ES 0x601). -/
def State.checkSpace (s : State) : State :=
  let space := s.freeUnits ≤ s.hostReserve
  let few := s.bayCount < s.roles
  if s.fn.committed.isNone ∨ !s.holder ∨ s.roles = 0 then s
  else if !s.fn.readOnly then
    if space ∨ few then
      let cause := if space then 1 else 2
      (s.onFn fun f => { f with readOnly := true, roCause := cause }).eventState 0x601 1 0 cause 0
    else s
  else if !few ∧ s.usable ≤ 100 * s.freeSectors ∧ s.spareNow = s.spareAtFormat - s.retiredSectors then
    (s.onFn fun f => { f with readOnly := false, roCause := 0 }).eventState 0x601 0 1 s.fn.roCause 0
  else s

/-! ### Dirty data and Strike's arming (R87, R88, R387) -/

/-- Hold-up good (R387): a passed test within 25 h, the selector on a feed, and the bus at least 11.0 V. -/
def State.holdupGood (s : State) : Bool :=
  (match s.bpd.testAt with
    | some t => decide (s.now ≤ t + secs 90000) && !s.bpd.testFail
    | none => false)
  && (s.bpd.sel == .onA || s.bpd.sel == .onB) && s.bpd.busOk

/-- Every sector an open stripe holds, with what waits for the stream's next one. -/
def OpenStripe.all (o : OpenStripe) : List BufSector := o.sectors ++ o.next.flatten

/-- Every sector a stream's buffers hold before a stripe closes. -/
def Stream.held (x : Stream) : List BufSector := (x.stripe.map OpenStripe.all).getD []

/-- Dirty data in units of 4 KiB: every sector held in a stripe buffer, and the journal tail (R87). -/
def State.dirty (s : State) : Nat :=
  s.log.streams.foldl (fun a x => a + x.held.length) 0
  + s.log.stripes.foldl (fun a e => a + e.2.sectors.length) 0
  + ((s.log.journal.filter fun j => !j.durable).length + 126) / 127

/-- DIRTY_BUDGET (R83). -/
def State.dirtyBudget (s : State) : Nat :=
  match s.fn.committed with
  | some i => i.streams.dirtyBudget
  | none => 0

/-- The first condition of R87 not met: 1 hold-up, 2 strike half, 3 lease, 4 dirty data; 0 when all hold. -/
def State.strikeLack (s : State) : Nat :=
  if !s.holdupGood then 1
  else if !(nth s.log.halfErased s.log.strikeHalf false) then 2
  else if !s.holder then 3
  else if s.dirtyBudget < s.dirty then 4
  else 0

/-- Strike becomes armed or disarmed as the conditions of R87 begin or cease to hold, with its event (R87, R88,
ES 0x602). -/
def State.checkStrike (s : State) : State :=
  let c := s.strikeLack
  if s.log.strikeArmed = decide (c = 0) then s
  else
    (s.onLog fun l => { l with strikeArmed := decide (c = 0) }).eventState 0x602 (b2n (decide (c = 0)))
      (b2n s.log.strikeArmed) c 0

/-! ### The journal tail (R93, R94, R122) -/

/-- A sector of a stripe that carries a payload of the controller's own. -/
def sysSector (p : Payload) : BufSector := ⟨p, none, false⟩

/-- The journal ring keeps the 262,144 most recent records (R122), and an older one only until it is durable. -/
def ringTrim (l : List JSlot) : List JSlot :=
  (l.take (l.length - 262144)).filter (fun j => !j.durable) ++ l.drop (l.length - 262144)

/-- Append a record to the map journal tail and ship it to the standby (R93, R94, R370). -/
def State.appendRec (s : State) (r : JRec) : State :=
  let j := s.log.jposNext
  let s1 := s.onLog fun l =>
    { l with
      jposNext := j + 1
      tailSince := if l.journal.any (fun x => !x.written) then l.tailSince else s.now
      journal := ringTrim (l.journal ++ [⟨j, r, false, false⟩]) }
  if s.ships then
    let s2 := (s1.emit (.ship (.journal j r.type r.count r.ns r.pos r.lba r.arg r.wseq))).emit (.ship (.highWater (s.sched.nextOrder - 1)))
    if r.type = 7 then s2.emit (.ship (.chain r.ns r.pos (r.arg + 1))) else s2
  else s1

/-- A journal record's 32 bytes (Table 4.7). -/
def JRec.toNat (r : JRec) : Nat :=
  r.type % 256 + 2 ^ 8 * (r.count % 256) + 2 ^ 16 * (r.ns % 4096) + 2 ^ 32 * (r.pos % 65536) + 2 ^ 64 * (r.lba % 2 ^ 64)
    + 2 ^ 128 * (r.arg % 2 ^ 64) + 2 ^ 192 * (r.wseq % 2 ^ 64)

/-- A map journal page: a 32-byte header with the first JPOS, the count and a CRC, then at most 127 records (R94).
The order of the header's fields is the model's. -/
def journalPage (l : List JSlot) : Payload :=
  let first := match l with
    | j :: _ => j.jpos
    | [] => 0
  let body := (List.range l.length).foldl (fun a i => match l[i]? with
    | some j => a + 2 ^ (256 + 256 * i) * j.record.toNat
    | none => a) 0
  let head := first % 2 ^ 48 + 2 ^ 64 * l.length
  let crc := (crc32c (leBytes 12 head ++ leBytes 4064 (body / 2 ^ 256))).toNat
  mkPayload (BitVec.ofNat 32768 (head + 2 ^ 96 * crc + body))
    (sysMeta (l.foldl (fun a j => max a j.record.wseq) 0) first 0 4).toNat 0

/-! ### Streams (R82, R83, R85, R89) -/

/-- Write stream `k`. -/
def State.stream (s : State) (k : Nat) : Stream := nth s.log.streams k Stream.reset

/-- Change write stream `k`. -/
def State.onStream (s : State) (k : Nat) (g : Stream → Stream) : State :=
  s.onLog fun l => { l with streams := modNth l.streams k g }

/-- KIND of a stream: fixed for 56 to 63, the image's for 0 to 55 (Table 4.4). -/
def State.streamKind (s : State) (k : Nat) : Nat :=
  if k = 56 ∨ k = 57 ∨ k = 58 then 5 else if k = 59 then 6 else if k = 60 then 7 else if k = 61 then 8 else if 62 ≤ k then 0
  else match s.fn.committed with
    | some i => (match i.streams.streams[k]? with
      | some e => e.kind
      | none => 0)
    | none => 0

/-- DEADLINE of a stream in microseconds (R83). -/
def State.deadline (s : State) (k : Nat) : Nat :=
  match s.fn.committed with
  | some i => (match i.streams.streams[k]? with
    | some e => e.deadline
    | none => 200)
  | none => 200

/-- Free positions of a stream's open stripe. -/
def State.freePos (s : State) (k : Nat) : Nat :=
  match (s.stream k).stripe with
  | some o => s.stripeSectors - o.sectors.length
  | none => s.stripeSectors

/-! ### Reclaim units (R137, R200, R202) -/

/-- A unit's wear from its health record (R200, R202). -/
def State.wear (s : State) (u : Nat) : Nat :=
  match tabGet s.med.unitHealth u with
  | some h => h.wear
  | none => 0

/-- The best of some units by a measure, ties to the lowest number. -/
def bestBy (f : Nat → Nat) (l : List Nat) : Option Nat :=
  l.foldl (fun b u => match b with
    | some v => if f u < f v then some u else some v
    | none => some u) none

/-- The median of a list of numbers. -/
def median (l : List Nat) : Nat := nth (sortBy id l) ((l.length - 1) / 2) 0

/-- The erased unit a stream opens next (R200); host streams may take neither the reclaim-only part nor
the rebuild share (R108). -/
def State.pickUnit (s : State) (k : Nat) : Option Nat :=
  let kind := s.streamKind k
  if kind ≤ 4 ∧ s.freeUnits ≤ s.hostReserve then none
  else
    let free := (List.range s.unitTotal).filter fun u => (s.unit u).st == .free
    if kind = 1 ∨ kind = 3 ∨ k = 56 then bestBy s.wear free
    else
      let m := median (free.map s.wear)
      bestBy (fun u => m - s.wear u) (free.filter fun u => decide (s.wear u ≤ m))

/-- Whether bay `b` may take a strip of unit `u` (R147, R161, R208): in service, and taken in when the unit
opened, with its die group not retired then. -/
def State.bayFor (s : State) (u b : Nat) : Bool :=
  s.inService b && !(s.port b).hot && (tabGet (s.unit u).nextPos b).isSome && decide (12 ≤ (s.groupDies b (s.unitGroup u) (s.mgenOpen u)).length)

/-- Whether a unit that opens takes a bay in: not a lost one, nor one whose module is not there (R147, R161). -/
def State.takenIn (s : State) (b : Nat) : Bool :=
  !s.bayLost b && (s.port b).modSt != .absent && (s.port b).modSt != .lost && (s.port b).modSt != .foreign

/-- Open a unit for a stream: its use count, health record, directory record and stream (R137, R162, R200, R202). -/
def State.openUnit (s : State) (k u : Nat) (start : Nat) : State :=
  let h := tabGetD s.med.unitHealth u ⟨0, 0, 0⟩
  let s1 := s.onUnit u fun x =>
    { UnitRec.blank with
      st := .opened, use := h.opens, stream := k, topScore := false, lastCommit := x.lastCommit
      nextPos := (s.bays.filter s.takenIn).map fun b => (b, 0) }
  let s2 := s1.onMed fun m => { m with unitHealth := tabPut m.unitHealth u { h with opens := h.opens + 1, mgenOpen := m.mgen } }
  let s3 := s2.onReb fun r => { r with dirs := tabPut r.dirs u ⟨h.opens, k, start, 0, []⟩ }
  s3.onStream k fun x => { x with openUnit := some u, index := 0 }

/-- Add an exception entry to a unit's directory, kept in INDEX order (R162). -/
def State.addExc (s : State) (u : Nat) (e : ExcEntry) : State :=
  s.onReb fun r => { r with dirs := tabMod r.dirs u fun d =>
    { d with exceptions := (d.exceptions.filter fun x => decide (x.index ≤ e.index)) ++ [e]
        ++ (d.exceptions.filter fun x => decide (e.index < x.index)) } }

/-! ### Programs of a stripe (R134, R138, R140) -/

/-- The row accumulator takes a page set's payloads (R134). -/
def accAdd (a : RowAcc) (l : List Payload) : RowAcc :=
  { issued := a.issued + 1
    acc := (List.range 16).map fun k => nth a.acc k 0 ^^^ nth l k 0 }

/-- Issue the XOR page set of a row whose last position has been issued (R134); it waits while the port has no
room. -/
def State.tryXor (s : State) (u b row : Nat) : State :=
  match tabGet s.log.rows (rowKey u b row) with
  | none => s
  | some a =>
    let w := s.groupDies b (s.unitGroup u) (s.mgenOpen u)
    let voids := (s.rowPages u b row).filter fun l => s.voidAt u b (locDie l) row || s.deadAt u l
    if a.issued + voids.length < w.length - 1 then s
    else
      let x := s.xorPage u b row
      if s.rowInvalid u b row ∧ s.voidAt u b (locDie x) row then s.onLog fun l => { l with rows := tabDel l.rows (rowKey u b row) }
      else
        let frames := if s.rowInvalid u b row then List.replicate 16 padPayload else a.acc
        match s.issue b (s.mkOp 2 (locDie x) (locPage x) false (.rowXor u row)) 0 [] frames with
        | some t => t.onLog fun l => { l with rows := tabDel l.rows (rowKey u b row) }
        | none => s

/-- A page set goes to a position of a unit: the row's accumulator takes it, and the row's XOR page set follows its
last position (R134). -/
def State.intoRow (s : State) (u : Nat) (page : Loc) (payloads : List Payload) : State :=
  let b := locBay page
  let row := s.locRow page
  (s.onLog fun l =>
    { l with rows := tabUpd ⟨0, List.replicate 16 0⟩ l.rows (rowKey u b row) fun a => accAdd a payloads }).tryXor u b row

/-- Whether an earlier row's XOR page set is still to be issued on a die (R134). -/
def State.xorPending (s : State) (u b row die : Nat) : Bool :=
  row != 0 && (tabGet s.log.rows (rowKey u b (row - 1))).isSome && locDie (s.xorPage u b (row - 1)) == die

/-- Issue an erase that a returned module's block needs before its first program (R243); true when the block may be
programmed. -/
def State.firstErase (s : State) (b die block : Nat) : Bool × State :=
  let e : EraseBlock := ⟨b, die, block⟩
  if (s.port b).needErase.contains e || ((s.port b).returned && !(s.port b).erasedBack.contains e) then
    let busy := (s.port b).ops.any fun x => x.2.user == .firstErase block && x.2.die == die
    if busy then (false, s)
    else (false, (s.issue b (s.mkOp 3 die block false (.firstErase block)) 0 [] []).getD s)
  else (true, s)

/-- The place of a page set among the positions of its bay in a unit: row by row, in position order (R133). -/
def State.posRank (s : State) (u : Nat) (l : Loc) : Nat :=
  16 * s.locRow l + ((s.rowPages u (locBay l) (s.locRow l)).idxOf? (pageSet l)).getD 15

/-- Whether an earlier position of the bay in the unit waits for its program: of a stripe, of an abandoned one, or of a repair strip (R134). -/
def State.earlierWaits (s : State) (u : Nat) (l : Loc) : Bool :=
  let before (x : Loc) : Bool := locBay x == locBay l && decide (s.posRank u x < s.posRank u l)
  (s.log.stripes.any fun e => idUnitOf e.1 == u && e.2.st == .programming && e.2.members.any fun m =>
    m.st == .waiting && before (mkLoc m.bay m.die m.page 0 0))
  || (s.log.padWait.any fun e => e.1 == u && before e.2)
  || s.reb.batch.any fun q => q.reserved && !q.programmed && s.locUnit q.newLoc == some u && before q.newLoc
    && !((s.port q.bay).ops.any fun e => e.2.code == 2 && e.2.die == locDie q.newLoc && e.2.page == locPage q.newLoc)

/-- Issue the pads of the positions that abandoned stripes left (R134; DESIGN CHOICE, log 49). -/
def State.kickPads (s : State) : State :=
  s.log.padWait.foldl (fun s e =>
    let b := locBay e.2
    let drop (s : State) : State := s.onLog fun l => { l with padWait := l.padWait.filter (· != e) }
    if !s.inService b then drop s
    else if s.earlierWaits e.1 e.2 ∨ s.xorPending e.1 b (s.locRow e.2) (locDie e.2) then s
    else
      let pads := List.replicate 16 padPayload
      match s.issue b (s.mkOp 2 (locDie e.2) (locPage e.2) false .other) 0 [] pads with
      | some t => (drop t).intoRow e.1 e.2 pads
      | none => s) s

/-- Issue the program of a waiting member, in its bay's position order (R134, R138, R243). -/
def State.tryMember (s : State) (id r : Nat) : State :=
  match tabGet s.log.stripes id with
  | none => s
  | some x =>
    match x.members[r]? with
    | none => s
    | some m =>
      if m.st ≠ .waiting ∨ x.st ≠ .programming then s
      else
        let u := id / 65536 % 2 ^ 20
        let row := m.page % (max 1 s.geo.ppb)
        if s.earlierWaits u (mkLoc m.bay m.die m.page 0 0) then s
        else if s.xorPending u m.bay row m.die then s.tryXor u m.bay (row - 1)
        else
          let e := s.firstErase m.bay m.die (m.page / (max 1 s.geo.ppb))
          if e.1 then
            let frames := rolePayloads s.pl.data (x.sectors.map (·.payload)) r
            match s.issue m.bay (s.mkOp 2 m.die m.page false (.member id r)) 0 [] frames with
            | none => s
            | some t =>
              (t.onLog fun l => { l with stripes := tabMod l.stripes id fun y =>
                { y with members := modNth y.members r fun m => { m with st := .issued } } }).intoRow u
                (mkLoc m.bay m.die m.page 0 0) frames
          else e.2

/-- Issue what programs wait, in stripe order (R138). -/
def State.kickMembers (s : State) : State :=
  s.log.stripes.foldl (fun s e =>
    if e.2.st = .programming then (List.range e.2.members.length).foldl (fun s r => s.tryMember e.1 r) s else s) s.kickPads

/-! ### Closing a stripe (R85, R89, R138, R143, R147, R155, R162) -/

/-- The patterns of a stream from its counter on (R143). -/
def State.patternNo (s : State) (k i : Nat) : Nat :=
  ((s.stream k).counter + i + k * (s.pl.table.length / 64)) % (max 1 s.pl.table.length)

/-- The bay of each role of a pattern with the roles moved to alternates (R147, R162); none if a role can be
filled by neither. -/
def fillRoles (ok : Nat → Bool) (p : Pattern) (roles : Nat) : Option (List Nat) :=
  (List.range roles).foldl (fun acc r => match acc with
    | none => none
    | some l =>
      let m := nth p.members r 0xFF
      if ok m then some (l ++ [m])
      else if ok p.alt0 && !l.contains p.alt0 then some (l ++ [p.alt0])
      else if p.alt1 != 0xFF && ok p.alt1 && !l.contains p.alt1 then some (l ++ [p.alt1])
      else none) (some [])

/-- The first pattern that the stream can fill in a unit, how many were skipped, and the bays (R147, R148). -/
def State.choosePattern (s : State) (k u : Nat) : Option (Nat × List Nat) :=
  (List.range s.pl.table.length).findSome? fun i =>
    match s.pl.table[s.patternNo k i]? with
    | some p => (fillRoles (s.bayFor u) p s.roles).map fun l => (i, l)
    | none => none

/-- The next free page set of a bay in a unit (R138). -/
def State.nextPage (s : State) (u b : Nat) : Option Loc := s.posPage u b (tabGetD (s.unit u).nextPos b 0)

/-- Issue the pad page sets that complete a row of a closing unit (R135). -/
def State.padRow (s : State) (u b : Nat) : Nat → State
  | 0 => s
  | n + 1 =>
    match s.nextPage u b with
    | none => s
    | some page =>
      if (tabGet s.log.rows (rowKey u b (s.locRow page))).isNone then s
      else
        let pads := List.replicate 16 padPayload
        match s.issue b (s.mkOp 2 (locDie page) (locPage page) false .other) 0 [] pads with
        | none => s
        | some t =>
          ((t.onUnit u fun x => { x with nextPos := tabUpd 0 x.nextPos b (· + 1) }).intoRow u page pads).padRow u b n

/-- Complete the open rows of a closed unit, as far as the ports have room (R135). -/
def State.finishRows (s : State) (u : Nat) : State :=
  (s.unit u).nextPos.foldl (fun s e => s.padRow u e.1 16) s

/-- A unit closes (R135, R138). -/
def State.closeUnit (s : State) (k : Nat) : State :=
  match (s.stream k).openUnit with
  | none => s
  | some u => ((s.onUnit u fun x => { x with st := .closed }).onStream k fun x => { x with openUnit := none, index := 0 }).finishRows u

/-- Make sure the stream has an open unit (R137, R200); false when no unit may be opened. -/
def State.needUnit (s : State) (k : Nat) : Bool × State :=
  match (s.stream k).openUnit with
  | some _ => (true, s)
  | none => match s.pickUnit k with
    | some u => (true, s.openUnit k u (s.patternNo k 0))
    | none => (false, s)

/-- Stripe ID (Table 6.2). -/
def stripeId (index unit use : Nat) : Nat := index % 65536 + 65536 * (unit % 2 ^ 20) + 2 ^ 36 * (use % 2 ^ 28)

/-- The members a stripe takes in a unit: pattern skip count and page sets, if every member has a position. -/
def State.members (s : State) (k u : Nat) : Option (Nat × List (Option Loc)) :=
  (s.choosePattern k u).map fun c => (c.1, c.2.map fun b => s.nextPage u b)

/-- A stripe journal record of a stripe (Table 6.8). -/
def sjOf (id : Nat) (x : Stripe) (kind : Nat) : SjRec :=
  { stripe := id, kind := kind, stream := x.stream, roles := x.members.length, alt := x.alt, padded := x.padded,
    wseqMax := x.wseqMax, members := x.members.map fun m => mkLoc m.bay m.die m.page 0 0 }

/-- Send a stripe journal record to the peer's copy (R155, R157). -/
def State.sjShip (s : State) (r : SjRec) : State :=
  if s.ships then s.emit (.ship (.stripe r.stripe r.kind r.stream r.roles r.alt r.padded r.wseqMax r.members)) else s

/-- The groups, first come first, that fit into a stripe of `cap` sectors after `acc`, and the others (R85). -/
def fitGroups (cap : Nat) (acc : List BufSector) : List (List BufSector) → List BufSector × List (List BufSector)
  | [] => (acc, [])
  | g :: t => if acc.isEmpty ∨ acc.length + g.length ≤ cap then fitGroups cap (acc ++ g) t else (acc, g :: t)

/-- The open stripe that follows one that closes: what waited for it (R85). -/
def nextStripe (cap now : Nat) (o : Option OpenStripe) : Option OpenStripe :=
  match o with
  | none => none
  | some x => if x.next.isEmpty then none else
    let f := fitGroups cap [] x.next
    some ⟨f.1, now, f.2⟩

/-- The stripe takes its members in unit `u`: its ID, exceptions and OPEN record, and its programs are issued (R138,
R142, R155, R162). -/
def State.takeMembers (s : State) (k u skip : Nat) (pages : List Loc) (secs : List BufSector) (padded : Bool) : State :=
  let idx := (s.stream k).index
  let id := stripeId idx u (s.unit u).use
  let pat := s.pl.table[s.patternNo k skip]?
  let moved := match pat with
    | some p => (List.range pages.length).filter fun r => nth p.members r 0xFF != locBay (nth pages r 0)
    | none => []
  let x : Stripe :=
    { stream := k, sectors := secs, members := pages.map fun l => ⟨locBay l, locDie l, locPage l, 0, .waiting⟩, alt := !moved.isEmpty
      padded := padded, wseqMax := secs.foldl (fun a e => max a (mdWseq e.payload)) 0, st := .programming, jposLast := 0 }
  let s1 := if skip = 0 then s else s.addExc u ⟨idx, 2, 0xFF, 0xFF, skip, 0⟩
  let s2 := moved.foldl (fun s r => s.addExc u ⟨idx, 1, r, locBay (nth pages r 0), 0, 0⟩) s1
  let s3 := s2.onUnit u fun y =>
    { y with nextPos := pages.foldl (fun t l => tabUpd 0 t (locBay l) (· + 1)) y.nextPos, sectors := y.sectors + secs.length }
  let s4 := s3.onReb fun r => { r with dirs := tabMod r.dirs u fun d => { d with stripes := idx + 1 } }
  let s5 := s4.onStream k fun y =>
    { y with counter := y.counter + 1 + skip, index := idx + 1, stripe := nextStripe s.stripeSectors s.now y.stripe }
  let s6 := (s5.onLog fun l => { l with stripes := tabPut l.stripes id x }).sjShip (sjOf id x 1)
  (List.range pages.length).foldl (fun s r => s.tryMember id r) s6

/-- A stream's open stripe closes: it is padded, takes its members (opening the stream's next unit when a member has
no free position left) and its programs are issued; with no pattern that can be filled it stays open (R85, R89,
R138, R148). -/
def State.closeStripe (s : State) (k : Nat) : State :=
  match (s.stream k).stripe with
  | none => s
  | some o =>
    if o.sectors.isEmpty ∨ s.stripeSectors = 0 then s
    else
      let pads := s.stripeSectors - o.sectors.length
      let secs := o.sectors ++ List.replicate pads (sysSector padPayload)
      let go (s : State) (u : Nat) : Option State :=
        match s.members k u with
        | some (skip, pages) =>
          if pages.all Option.isSome then some (s.takeMembers k u skip (pages.filterMap id) secs (decide (0 < pads))) else none
        | none => none
      let n1 := s.needUnit k
      if !n1.1 then s.checkSpace
      else
        match (n1.2.stream k).openUnit with
        | none => s
        | some u =>
          match n1.2.members k u with
          | none => n1.2.checkSpace
          | some (_, pages) =>
            if pages.all Option.isSome then (go n1.2 u).getD n1.2
            else
              let n2 := (n1.2.closeUnit k).needUnit k
              match (n2.2.stream k).openUnit with
              | none => n2.2.checkSpace
              | some v => (go n2.2 v).getD n2.2

/-- An open stripe takes sectors, or keeps them whole for the stream's next stripe where they do not fit (R85). -/
def takeInto (free now : Nat) (secs : List BufSector) : Option OpenStripe → OpenStripe
  | some o => if o.next.isEmpty ∧ secs.length ≤ free then { o with sectors := o.sectors ++ secs } else { o with next := o.next ++ [secs] }
  | none => ⟨secs, now, []⟩

/-- Put sectors, whole, into consecutive positions of a stream's open stripe, closing the stripe first when they do
not fit and after when they fill it; while it cannot close they wait for the stream's next stripe (R85, R89). -/
def State.placeSectors (s : State) (k : Nat) (secs : List BufSector) : State :=
  let s1 := if s.freePos k < secs.length then s.closeStripe k else s
  let s2 := s1.onStream k fun x => { x with stripe := some (takeInto (s1.freePos k) s.now secs x.stripe) }
  let s3 := if s2.freePos k = 0 then s2.closeStripe k else s2
  s3.checkStrike

/-- Close every stripe that is full or that keeps sectors waiting for the next one (R85, R89). -/
def State.closeFull (s : State) : State :=
  ((List.range 64).filter fun k => match (s.stream k).stripe with
    | some o => !o.next.isEmpty || (s.stripeSectors != 0 && decide (s.stripeSectors ≤ o.sectors.length))
    | none => false).foldl (fun s k => s.closeStripe k) s

/-- Close every open stripe (R89). -/
def State.closeAll (s : State) : State := (List.range 64).foldl (fun s k => s.closeStripe k) s

/-! ### Journal pages (R94) -/

/-- Put the next journal page of up to 127 unwritten records into stream 61. -/
def State.writeJournalPage (s : State) : State :=
  let l := (s.log.journal.filter fun j => !j.written).take 127
  match l with
  | [] => s
  | f :: _ =>
    let last := (l.getLast?.map fun j => j.jpos).getD f.jpos
    (s.onLog fun x => { x with journal := x.journal.map fun j => if f.jpos ≤ j.jpos ∧ j.jpos ≤ last then { j with written := true } else j }).placeSectors
      61 [sysSector (journalPage l)]

/-- Full journal pages go to the map journal stream as they fill (R94). -/
def State.fullPages (s : State) : State :=
  if 127 ≤ (s.log.journal.filter fun j => !j.written).length then s.writeJournalPage else s

/-- Make the whole journal tail go to stream 61 and close its stripe (R101). -/
def State.flushTail : Nat → State → State
  | 0, s => s.closeStripe 61
  | n + 1, s => if s.log.journal.any fun j => !j.written then State.flushTail n s.writeJournalPage else s.closeStripe 61

/-- Append a record and write a journal page when one is full. -/
def State.journal (s : State) (r : JRec) : State := (s.appendRec r).fullPages

/-! ### The stripe journal (R155 to R158) -/

/-- The bays holding module copies in service. -/
def State.sjBays (s : State) : List Nat := (s.log.sjCopies.filter fun c => c.placed && s.inService c.bay).map SjCopy.bay

/-- A stripe journal record's 128 bytes (Table 6.8). -/
def SjRec.toNat (r : SjRec) : Nat :=
  let body := r.stripe % 2 ^ 64 + 2 ^ 64 * r.kind + 2 ^ 72 * r.stream + 2 ^ 80 * r.roles + 2 ^ 88 * (b2n r.alt + 2 * b2n r.padded)
    + 2 ^ 128 * (r.wseqMax % 2 ^ 64)
    + (List.range 18).foldl (fun a i => a + 2 ^ (192 + 40 * i) * (match r.members[i]? with
      | some l => l.toNat
      | none => 2 ^ 40 - 1)) 0
  body + 2 ^ 992 * (crc32c (leBytes 124 body)).toNat

/-- A module-copy page as the 16 payloads of its page set: 16 KiB of records, then pads (R158). DESIGN CHOICE (log 49): the page lies in plane
0, its codewords carry KIND 1 and WSEQ 0, and the other planes hold pads. -/
def sjPayloads (serial : Nat) (l : List SjRec) : List Payload :=
  let body := serial % 2 ^ 64 + 2 ^ 64 * l.length + (List.range l.length).foldl (fun a i => match l[i]? with
    | some r => a + 2 ^ (1024 + 1024 * i) * r.toNat
    | none => a) 0
  let page := body + 2 ^ 992 * (crc32c (leBytes 16384 body)).toNat
  (List.range 16).map fun k =>
    if k < 4 then mkPayload (BitVec.ofNat 32768 (page / 2 ^ (32768 * k))) (sysMeta 0 0 0 1).toNat 0 else padPayload

/-- Pages of a module copy's ring: the system blocks of die 1 from block 2 on (R156; the blocks' assignment is the model's). -/
def State.ringSize (s : State) : Nat := max 1 ((s.pl.sysblk - 2) * s.geo.ppb)

/-- The page set of a place in the ring. -/
def State.ringPage (s : State) (n : Nat) : Nat := 2 * s.geo.ppb + n % s.ringSize

/-- The place a copy's next page takes: past the ring's blocks that are grown-bad (R206). -/
def State.goodPlace (s : State) (b n : Nat) : Nat :=
  let ppb := max 1 s.geo.ppb
  let at_ (i : Nat) : Nat := if i = 0 then n else (n / ppb + i) * ppb
  match (List.range (s.pl.sysblk - 2)).find? fun i =>
    !(s.med.records.any fun r => r.kind == 7 && r.bay == b && r.die == 1 && r.block == s.ringPage (at_ i) / ppb) with
  | some i => at_ i
  | none => n

/-- Whether the ring is full at a place: a page that begins a block waits while a record in that block may not be dropped (R158). -/
def State.ringFull (s : State) (c : SjCopy) (n : Nat) : Bool :=
  let ppb := max 1 s.geo.ppb
  n % ppb == 0 && c.records.any fun r => s.ringPage r.page / ppb == s.ringPage n / ppb

/-- Issue a program in a system block; at a block's first page what the block still holds is erased first (R158, R206). -/
def State.issueSys (s : State) (b die page : Nat) (user : OpFor) (frames : List Payload) : Option State :=
  let ppb := max 1 s.geo.ppb
  let block := page / ppb
  let used := s.sheet.media.any fun e =>
    let l : Loc := BitVec.ofNat 40 e.1
    locBay l == b && locDie l == die && locPage l / ppb == block
  let s1 := if page % ppb = 0 && used then (s.issue b (s.mkOp 3 die block true .other) 0 [] []).getD s else s
  s1.issue b (s1.mkOp 2 die page true user) 0 [] frames

/-- Issue a stripe journal page's program on each copy in service that still has to take it; it waits while the copy's ring is full (R157, R158). -/
def State.trySj (s : State) : State :=
  s.log.sjWait.foldl (fun s p =>
    p.waitBays.foldl (fun s b =>
      match s.log.sjCopies.find? fun c => c.bay == b with
      | none => s
      | some c =>
        if (s.port b).ops.any fun e => e.2.user == .sjPage then s
        else
          let n := s.goodPlace b c.next
          if s.ringFull c n then s
          else match s.issueSys b 1 (s.ringPage n) .sjPage (sjPayloads c.serial p.records) with
          | some t => t.onLog fun l => { l with sjCopies := l.sjCopies.map fun c => if c.bay = b then { c with next := n } else c }
          | none => s) s) s

/-- A copy of the stripe journal moves on to its ring's next block and writes its still-needed records again (R206). -/
def State.moveRing (s : State) (b : Nat) : State :=
  let ppb := max 1 s.geo.ppb
  let again := match s.log.sjCopies.find? fun c => c.bay == b with
    | some c => (List.range (c.records.length / 127 + 1)).filterMap fun i =>
        let l := (c.records.drop (127 * i)).take 127
        if l.isEmpty then none else some (⟨l.map (·.record), s.now, [b], 0⟩ : SjPage)
    | none => []
  (s.onLog fun l =>
    { l with
      sjCopies := l.sjCopies.map fun c => if c.bay = b then { c with next := (c.next / ppb + 1) * ppb, records := [] } else c
      sjWait := again ++ l.sjWait }).trySj

/-- Close the stripe journal page being filled: at 127 records, or 20 µs after its first (R157). -/
def State.closeSjPage (s : State) : State :=
  match s.log.sjPage with
  | none => s
  | some p => (s.onLog fun l => { l with sjPage := none, sjWait := l.sjWait ++ [{ p with waitBays := s.sjBays, done := 0 }] }).trySj

/-- Put a COMMIT or ABANDON record in the stripe journal's module copies and the peer's (R155, R157). -/
def State.sjWrite (s : State) (r : SjRec) : State :=
  let s1 := (s.sjShip r).onLog fun l =>
    { l with sjPage := match l.sjPage with
      | some p => some { p with records := p.records ++ [r] }
      | none => some ⟨[r], s.now, [], 0⟩ }
  match s1.log.sjPage with
  | some p => if 127 ≤ p.records.length then s1.closeSjPage else s1
  | none => s1

/-! ### Strike halves (R103) -/

/-- Whether nothing is programmed in a strike half: block `h` of the system blocks of every die. -/
def State.halfClean (s : State) (h : Nat) : Bool :=
  s.geo.ppb == 0 || s.sheet.media.all fun e =>
    let l : Loc := BitVec.ofNat 40 e.1
    !s.pl.bayMask.getLsbD (locBay l) || locPage l / s.geo.ppb != h

/-- Erase a strike half that the last root names consumed, in the background (R103, R106): each die of it that is programmed. -/
def State.tryHalf (s : State) : State :=
  match s.log.halfUsed, s.log.root with
  | some h, some r =>
    if r.strikeUsed ≠ some h ∨ s.log.strike ≠ .idle then s
    else if s.halfClean h then
      s.onLog fun l => { l with halfUsed := none, halfErased := putNth l.halfErased h true }
    else
      let dirty := (s.sheet.media.filter fun e =>
        let l : Loc := BitVec.ofNat 40 e.1
        s.inService (locBay l) && locPage l / (max 1 s.geo.ppb) == h).map fun e => (locBay (BitVec.ofNat 40 e.1), locDie (BitVec.ofNat 40 e.1))
      dirty.eraseDups.foldl (fun s x =>
        if (s.port x.1).ops.any fun e => e.2.user == .strikeErase h && e.2.die == x.2 then s
        else (s.issue x.1 (s.mkOp 3 x.2 h true (.strikeErase h)) 0 [] []).getD s) s
  | _, _ => s

/-! ### Strike group-rows (R103, R104, Table 4.8) -/

/-- Group-rows that one die's block of a strike half can hold, each with a page index for its header (R103). -/
def State.rowsPerDie (s : State) : Nat := max 1 (s.geo.ppb / 2)

/-- The page set of a bay at a page index of a strike half (`extra` 0), or at the next one, the header's (1). DESIGN CHOICE (log 49): half `h` is
block `h` of the system blocks of every die, and its page indexes are counted die by die (R103). -/
def State.strikeLoc (s : State) (b h idx extra : Nat) : Loc :=
  mkLoc b (idx / s.rowsPerDie) (h * s.geo.ppb + 2 * (idx % s.rowsPerDie) + extra) 0 0

/-- The page index of a strike half that a page set of it belongs to. -/
def State.strikeIdx (s : State) (l : Loc) : Nat := locDie l * s.rowsPerDie + s.locRow l / 2

/-- The bays that can take page sets at a page index: in service, the half's block there not grown-bad (R206). -/
def State.strikeBays (s : State) (idx : Nat) : List Nat :=
  s.bays.filter fun b => s.inService b && !(s.med.records.any fun r =>
    r.kind == 7 && r.bay == b && r.die == idx / s.rowsPerDie && r.block == s.log.strikeHalf)

/-- The first number from `i` on, `fuel` of them tried, that satisfies `ok`. -/
def firstFrom (ok : Nat → Bool) : Nat → Nat → Option Nat
  | 0, _ => none
  | fuel + 1, i => if ok i then some i else firstFrom ok fuel (i + 1)

/-- Split a list into runs of at most `n`. -/
def chunks {α : Type} (n : Nat) : Nat → List α → List (List α)
  | 0, _ => []
  | _ + 1, [] => []
  | k + 1, l => l.take n :: chunks n k (l.drop n)

/-- Sectors one group-row holds: every strike group that fits on the bays in service, 8 page sets of 16 sectors each (R103). -/
def State.rowSectors (s : State) : Nat := max 1 (((s.bays.filter s.inService).length / 9) * 8 * 16)

/-- Group-rows of at most `n` sectors each, not yet laid out. -/
def strikeRowsOf (n : Nat) (l : List Payload) : List StrikeRow :=
  (chunks n (l.length / n + 1) l).map fun x => ⟨x, [], x.foldl (fun a p => max a (mdWseq p)) 0, false, 0, [], []⟩

/-- The first group-row without its header. -/
def LogSt.openRow (l : LogSt) : Option (Nat × StrikeRow) :=
  (List.range l.strikeRows.length).findSome? fun i => match l.strikeRows[i]? with
    | some r => if r.headerOk then none else some (i, r)
    | none => none

/-- Lay a group-row out at the first page index, past those already taken, where enough bays can take it (R103, R206). -/
def State.layRow (s : State) (i : Nat) (r : StrikeRow) : State :=
  let need := max 1 ((r.sectors.length + 127) / 128)
  let from_ := s.log.strikeRows.foldl (fun a x => if x.bays.isEmpty then a else max a (x.idx + 1)) 0
  match firstFrom (fun j => decide (need ≤ (s.strikeBays j).length / 9)) (s.geo.dies * s.rowsPerDie - from_) from_ with
  | none => s
  | some j => s.onLog fun l =>
    { l with strikeRows := modNth l.strikeRows i fun r =>
      { r with idx := j, bays := (s.strikeBays j).take (9 * need), left := List.range (9 * need) } }

/-- The payloads of position `j` of a group-row: a page set of its sectors, or every ninth the XOR of the group's eight (R103). -/
def rowFrames (r : StrikeRow) (j : Nat) : List Payload :=
  let sets := chunks 16 (r.sectors.length / 16 + 1) r.sectors
  let g := j / 9
  (List.range 16).map fun k =>
    if j % 9 < 8 then nth (nth sets (8 * g + j % 9) []) k padPayload
    else xorAll ((List.range 8).map fun m => nth (nth sets (8 * g + m) []) k padPayload)

/-- The strike header of a group-row (R103). -/
def strikeHeader (r : StrikeRow) : Payload :=
  mkPayload (BitVec.ofNat 32768 (r.sectors.length + 2 ^ 64 * r.highWseq)) (sysMeta r.highWseq 0 0 6).toNat 0

/-- Issue a page set of the strike area, unless its program is outstanding or the port has no room (R104). -/
def State.issueStrike (s : State) (b : Nat) (l : Loc) (header : Nat) (frames : List Payload) : State :=
  if (s.port b).ops.any fun e => e.2.user == .strike && !e.2.timedOut && e.2.die == locDie l && e.2.page == locPage l then s
  else (s.issue b { s.mkOp 2 (locDie l) (locPage l) true .strike with arg := header } 0 [] frames).getD s

/-- Issue what a laid-out group-row still lacks: its page sets, and after all of them its header, on the first module of its first group
(R103). -/
def State.issueRow (s : State) (r : StrikeRow) : State :=
  if r.left.isEmpty then
    match r.bays with
    | [] => s
    | b :: _ => s.issueStrike b (s.strikeLoc b s.log.strikeHalf r.idx 1) 1 (List.replicate 16 (strikeHeader r))
  else r.left.foldl (fun s j =>
    let b := nth r.bays j 0
    s.issueStrike b (s.strikeLoc b s.log.strikeHalf r.idx 0) 0 (rowFrames r j)) s

/-- Strike completes: the main die signals its BPD (R104, R396). -/
def State.strikeDone (s : State) : State :=
  (s.onLog fun l =>
    { l with strike := .complete, halfUsed := if l.strikeRows.isEmpty then l.halfUsed else some l.strikeHalf }).emit .strikeComplete

/-- Reset the dies whose programs and erases Strike has given up, as their ports have room (R104, Table 4.8 step 2). -/
def State.strikeResetDies (s : State) : State :=
  s.log.strikeResets.foldl (fun s x =>
    let done (s : State) : State := s.onLog fun l => { l with strikeResets := l.strikeResets.filter (· != x) }
    if !(s.port x.1).up then done s
    else match s.issue x.1 (s.mkOp 9 x.2 0 false .other) 0 [] [] with
      | some t => done t
      | none => s) s

/-- Move Strike on as far as the ports have room: the die resets, then the group-rows one after the other, then its end (R104, Table 4.8). -/
def State.strikeKick (s : State) : State :=
  if s.log.strike ≠ .running then s
  else
    let s1 := s.strikeResetDies
    if !s1.log.strikeResets.isEmpty then s1
    else match s1.log.openRow with
      | none => s1.strikeDone
      | some (i, r) =>
        let s2 := if r.bays.isEmpty then s1.layRow i r else s1
        match s2.log.strikeRows[i]? with
        | some r => s2.issueRow r
        | none => s2

/-- The position of a group-row that a program on bay `b` is for; none for a program of another index. -/
def State.rowPos (s : State) (r : StrikeRow) (b : Nat) (op : SheetOp) : Option Nat :=
  let l := s.strikeLoc b s.log.strikeHalf r.idx op.arg
  if op.die = locDie l ∧ op.page = locPage l then r.bays.idxOf? b else none

/-- A strike page set or header has been programmed: when the row's page sets have all succeeded its header follows; when
its header has, the next row, or Strike's end (Table 4.8). -/
def State.strikeStep (s : State) (b : Nat) (op : SheetOp) : State :=
  match s.log.openRow with
  | none => s.strikeKick
  | some (i, r) =>
    match s.rowPos r b op with
    | none => s.strikeKick
    | some j =>
      (s.onLog fun l => { l with strikeRows := modNth l.strikeRows i fun r =>
        if op.arg = 1 then { r with headerOk := true } else { r with left := r.left.filter (· != j) } }).strikeKick

/-- A program of the open group-row has failed or its bay has gone: the row's sectors are set out again in group-rows of the bays left, past
the page indexes used (R103, R104; DESIGN CHOICE, log 49). -/
def State.strikeRedo (s : State) (b : Nat) (op : SheetOp) : State :=
  match s.log.openRow with
  | none => s
  | some (i, r) =>
    if (s.rowPos r b op).isNone ∨ s.log.strike ≠ .running then s
    else
      let again := match strikeRowsOf s.rowSectors r.sectors with
        | x :: t => { x with records := r.records } :: t
        | [] => []
      (s.onLog fun l => { l with strikeRows := l.strikeRows.take i
        ++ [{ r with sectors := [], records := [], headerOk := true, left := [] }] ++ again ++ l.strikeRows.drop (i + 1) }).strikeKick

/-! ### Durability of journal records and buffer release (R93) -/

/-- The journal positions of a journal page: its first and one past its last. -/
def pageSpan (p : Payload) : Nat × Nat :=
  let d := plData p
  (bits d.toNat 47 0, bits d.toNat 47 0 + bits d.toNat 95 64)

/-- The spans of journal pages in committed stripes still held. -/
def State.committedSpans (s : State) : List (Nat × Nat) :=
  s.log.stripes.flatMap fun e =>
    if e.2.st = .committed ∧ e.2.stream = 61 then
      (e.2.sectors.filter fun x => mdKind x.payload == 4).map fun x => pageSpan x.payload
    else []

/-- Records become durable in the order they were appended, when the stripe that holds them commits (R93). -/
def settleSlots (spans : List (Nat × Nat)) : List JSlot → List JSlot
  | [] => []
  | j :: t =>
    if j.durable then j :: settleSlots spans t
    else if spans.any fun x => decide (x.1 ≤ j.jpos ∧ j.jpos < x.2) then { j with durable := true } :: settleSlots spans t
    else j :: t

/-- The lowest journal position not yet durable. -/
def State.durableTo (s : State) : Nat :=
  match s.log.journal.find? fun j => !j.durable with
  | some j => j.jpos
  | none => s.log.jposNext

/-- Whether every host sector of a stripe is mapped (or superseded) and its last record durable; a stream-61
stripe's records are all durable (R93). -/
def State.releasable (s : State) (x : Stripe) : Bool :=
  (x.st == .committed || x.st == .abandoned)
    && x.sectors.all (fun e => mdKind e.payload != 0 || e.mapped)
    && (decide (x.jposLast = 0) || decide (x.jposLast < s.durableTo))
    && x.sectors.all fun e => mdKind e.payload != 4 || decide ((pageSpan e.payload).2 ≤ s.durableTo)

/-- A type 7 record made durable raises its chain's last durable counter (R95). -/
def State.settleChains (s : State) (before : List JSlot) : State :=
  s.log.journal.foldl (fun s j =>
    if j.durable && j.record.type == 7 && (before.any fun x => x.jpos == j.jpos && !x.durable) then
      s.onLog fun l =>
        { l with chains := tabUpd ⟨j.record.ns, j.record.pos, 1, 0, 0, false⟩ l.chains (chainKey j.record.ns j.record.pos) fun c =>
          { c with lastDurable := max c.lastDurable j.record.arg } }
    else s) s

/-- A type 6 record made durable: the page it names is clean unless updated since its snapshot (R79). -/
def State.settlePages (s : State) (before : List JSlot) : State :=
  s.log.journal.foldl (fun s j =>
    if j.durable && j.record.type == 6 && decide (j.record.lba < 2 ^ 63) && (before.any fun x => x.jpos == j.jpos && !x.durable) then
      match s.slotOf j.record.lba with
      | some p =>
        if p.loc.toNat = j.record.arg then
          s.onMap fun m => { m with gmd := tabMod m.gmd j.record.lba fun g =>
            { g with dirty := g.dirty && p.snap != p.jpos } }
        else s
      | none => s
    else s) s

/-- Move durability forward and release the buffers it frees: a RELEASED record goes to the peer, and the JPOS that a checkpoint must pass
before the stripe's journal records are dropped is known (R93, R155, R158). -/
def State.settleJournal (s : State) : State :=
  let before := s.log.journal
  let s1 := s.onLog fun l => { l with journal := settleSlots s.committedSpans l.journal }
  let s2 := (s1.settleChains before).settlePages before
  let gone := s2.log.stripes.filter fun e => s2.releasable e.2
  let s3 := gone.foldl (fun s e => s.sjShip (sjOf e.1 e.2 4)) s2
  let past (r : SjLive) : SjLive := match gone.find? fun e => e.1 == r.record.stripe with
    | some e => { r with past := some (if e.2.jposLast = 0 then s2.log.jposNext - 1 else e.2.jposLast) }
    | none => r
  (s3.onLog fun l =>
    { l with
      stripes := tabKeep (fun k _ => !(gone.any fun e => e.1 == k)) l.stripes
      sjCopies := l.sjCopies.map fun c => { c with records := c.records.map past } }).checkStrike

/-! ### Acknowledgement (R86, R88, R379) -/

/-- Whether the write counts as mirrored, or needs no mirror: ACTIVE with the confirmation; SINGLE on a granted lease
with DURABILITY BUFFERED (Table 15.8). -/
def State.mirrorHeld (s : State) (c : Cmd) : Bool :=
  if s.pair.st = .active ∧ !c.mirrorLost then c.mirrored
  else s.pair.hold == .granted && (match s.fn.committed with
    | some i => i.decl.durability == 1
    | none => false)

/-- Whether every stripe that holds a sector of order number `ord` is committed, its sectors mapped and its records
durable (R88). -/
def State.committedWrite (s : State) (ord : Nat) : Bool :=
  (s.log.streams.all fun x => x.held.all fun e => !(mdKind e.payload == 0 && mdWseq e.payload == ord))
  && s.log.stripes.all fun e =>
    !(e.2.sectors.any fun x => mdKind x.payload == 0 && mdWseq x.payload == ord)
      || (e.2.st == .committed && (e.2.sectors.all fun x => mdWseq x.payload != ord || mdKind x.payload != 0 || x.mapped)
        && decide (e.2.jposLast < s.durableTo))

/-- Whether the journal records of order number `ord` are durable. -/
def State.recordsDurable (s : State) (ord : Nat) : Bool :=
  s.log.journal.all fun j => j.record.wseq != ord || j.durable

/-- Whether order number `ord` may be acknowledged: R86 with the mirror or BUFFERED while Strike is armed, else the
conditions of R88; in ACTIVE with Strike armed only the mirror's confirmation counts (R379). -/
def State.mayAck (s : State) (ord : Nat) (c : Cmd) : Bool :=
  s.log.strike == .idle
    && ((s.log.strikeArmed && s.mirrorHeld c)
      || (!(s.log.strikeArmed && s.pair.st == .active && !c.mirrorLost) && s.committedWrite ord && s.recordsDurable ord))

/-- Whether every unit of a write is placed, or ended for want of its data (R283). -/
def Cmd.allPlaced (c : Cmd) : Bool :=
  c.units.length == unitCount c.len && c.units.all fun u => u == .placed || u == .ended

/-- A write has been acknowledged: a Ledger write's counter becomes its chain's last acknowledged (R262). -/
def State.noteAck (s : State) (c : Cmd) : State :=
  match c.chain with
  | none => s
  | some ch =>
    let k := chainKey c.ns ch
    s.onLog fun l => { l with chains := tabPut l.chains k { s.chain k with lastAcked := max (s.chain k).lastAcked c.lcount } }

/-- Acknowledge a command whose conditions hold (R86, R88): a write whose sectors are placed, or a Deallocate or Write
Zeroes that has taken effect. -/
def State.tryAck (s : State) (ord : Nat) : State :=
  match s.cmd ord with
  | none => s
  | some c =>
    let ready := match c.kind with
      | .write => c.allPlaced
      | .zeroes | .dsm => c.phase == .done
      | _ => false
    if ready && !c.acked && s.pair.st != .lapsed && s.mayAck ord c then
      ((s.noteAck c).onCmd ord fun c => { c with acked := true }).finishOk ord
    else s

/-- A Flush waits for no open or closed stripe with an earlier sector of its namespace that is not committed (R90). -/
def State.flushDone (s : State) (ord ns : Nat) (all : Bool) (mine : Nat → Bool) : Bool :=
  let hit (e : BufSector) : Bool :=
    mdKind e.payload == 0 && decide (mdWseq e.payload < ord) && (if all then mine (mdNs e.payload) else mdNs e.payload == ns)
  (s.log.streams.all fun x => x.held.all fun e => !hit e)
  && s.log.stripes.all fun e => !(e.2.sectors.any hit) || e.2.st == .committed || e.2.st == .abandoned

/-- Whether a namespace belongs to the command's tenant. -/
def State.mineNs (s : State) (tenant ns : Nat) : Bool :=
  match s.nsEntry ns with
  | some e => e.tenant == tenant
  | none => false

/-- Complete a Flush whose stripes are all committed (R90). -/
def State.tryFlush (s : State) (ord : Nat) : State :=
  match s.cmd ord with
  | none => s
  | some c =>
    let tenant := match c.src with
      | .qp q _ => (s.qp q).tenant.getD 0
      | _ => s.tenantOf c
    if c.kind == .flush && c.phase == .running && s.pair.st != .lapsed
        && s.flushDone ord c.ns (c.cap.nsid == 0xFFFFFFFF) (s.mineNs tenant) then
      (s.settle ord).finishOk ord
    else s

/-- Try every command that waits for acknowledgement, and every Flush. -/
def State.tryAll (s : State) : State :=
  (s.sched.cmds.map (·.1)).foldl (fun s o => (s.tryAck o).tryFlush o) s

end Sys2Proof.Machine
end

