-- ==== Sys2Proof/Machine/MediaOps.lean ====
section
/-! DEFINITION. Shared operations of flash media management: block records, read thresholds, the rewrite queue, grown-bad
blocks, die retirement, health counts and early warnings (chapters 7 and 8). -/

namespace Sys2Proof.Machine

/-- The descriptor of the module in a bay. -/
def State.desc (s : State) (b : Nat) : Option ModuleDesc := (s.port b).desc

/-- Key of a block record: bay, die, block index (R196). -/
def blockKey (b die block : Nat) : Nat := (b * 128 + die) * 16384 + block

/-- A block record never written: erased, SHIFT 0 (Table 8.6). -/
def BlockRec.blank : BlockRec :=
  { pe := 0, bin := 0, shift := 0, bad := false, slc := false, st := .erased, reads := 0, ageMark := 0 }

/-- The record of a block that nothing has changed yet: a system block is used in SLC mode (Table 8.6, R155). -/
def State.blockBlank (s : State) (block : Nat) : BlockRec := { BlockRec.blank with slc := decide (block < s.pl.sysblk) }

/-- The record of a block (R196). -/
def State.block (s : State) (b die block : Nat) : BlockRec := tabGetD s.med.blocks (blockKey b die block) (s.blockBlank block)

/-- Change a block record. -/
def State.onBlock (s : State) (b die block : Nat) (g : BlockRec → BlockRec) : State :=
  s.onMed fun m => { m with blocks := tabUpd (s.blockBlank block) m.blocks (blockKey b die block) g }

/-- Erase block of a location. -/
def State.locBlock (s : State) (l : Loc) : Nat := locPage l / (max 1 s.geo.ppb)

/-- Equivalent age of a block in reference seconds (R197). -/
def State.blockAge (s : State) (b : Nat) (r : BlockRec) : Nat := ((s.health b).ageClock / 256 - r.ageMark) * 16

/-- The bin of an age in reference seconds (R190). -/
def binOf (age : Nat) : Nat :=
  let h := age / 3600
  if h = 0 then 0 else if 16384 ≤ h then 15 else (List.range 15).foldl (fun a k => if 2 ^ k ≤ h then k + 1 else a) 0

/-- Key of a bin vector: bay, die, bin (R189). -/
def binKey (b die bin : Nat) : Nat := (b * 128 + die) * 16 + bin

/-- A bin vector at format: offsets 0 (R189). -/
def BinVec.blank : BinVec := ⟨List.replicate 15 0, List.replicate 15 0, List.replicate 15 0, 0⟩

/-- Limit an offset to −128 to +127 (R189). -/
def clampOff (x : Int) : Int := max (-128) (min 127 x)

/-- The offsets of a read of a block: BINVEC[bin][v] + SHIFT, limited (R189); the bin is computed again (R190). -/
def State.readOffsets (s : State) (b die block : Nat) : List Int :=
  let r := s.block b die block
  let v := tabGetD s.med.bins (binKey b die (binOf (s.blockAge b r))) BinVec.blank
  v.offsets.map fun o => clampOff (o + r.shift)

/-- RETRY entry `n` of a module (R192). -/
def retryEntry (d : ModuleDesc) (n : Nat) : List Int := nth d.retry (n - 1) []

/-- Offsets of retry `n`: the read's offsets plus RETRY entry n (R192). -/
def State.retryOffsets (s : State) (b : Nat) (offs : List Int) (n : Nat) : List Int :=
  match s.desc b with
  | none => offs
  | some d => if n = 0 then offs
    else (List.range offs.length).map fun v => clampOff (nth offs v 0 + nth (retryEntry d n) v 0)

/-- The read cap of a reader: the host cap, or the background cap held to the least RETRY_COUNT (R193, R493). -/
def State.readCap (s : State) (host : Bool) : Nat :=
  if host then s.setting 0
  else (s.bays.filterMap fun b => if s.inService b then (s.desc b).map fun d => d.retryCount else none).foldl min (s.setting 1)

/-! ### Early warnings (R211, Table 8.10) -/

/-- Key of a monitor: row of Table 8.10, bay (48 for the controller) and die (128 for none). -/
def warnKey (row b die : Nat) : Nat := (row * 64 + b) * 256 + die

/-- Data word 0 of a WARN or CLEAR record (Table 19.10). -/
def warnData (row value die : Nat) : Nat := value % 2 ^ 32 + 2 ^ 32 * (if die < 128 then die else 0xFFFF) + 2 ^ 48 * row

/-- A monitored value against its threshold: `past` it, `back` returned past it by the hysteresis. An event is
raised once per crossing and at most once an hour; crossings between are counted (R211). -/
def State.monitor (s : State) (source row b die value : Nat) (past back : Bool) : State :=
  let k := warnKey row b die
  let w := tabGetD s.med.warns k ⟨true, 0, 0⟩
  let put (s : State) (w : Warn) : State := s.onMed fun m => { m with warns := tabPut m.warns k w }
  if past && w.armed then
    if w.last = 0 ∨ w.last + secs 3600 ≤ s.now then
      (put s ⟨false, s.now + 1, 0⟩).event source 3 (warnData row value die) w.held
    else put s { w with armed := false, held := w.held + 1 }
  else if back && !w.armed then (put s { w with armed := true }).event source 4 (warnData row value die) 0
  else s

/-- Whether a monitor of a row has been raised and not re-armed. -/
def State.warned (s : State) (row b die : Nat) : Bool := !(tabGetD s.med.warns (warnKey row b die) ⟨true, 0, 0⟩).armed

/-- Retirement count L of a die: the greater of 16 and 2 % of E (R207). -/
def State.retireCount (s : State) : Nat := max 16 (s.geo.epp * 2 / 100)

/-- Grown-bad blocks of a bay's die. -/
def State.grownBad (s : State) (b die : Nat) : Nat :=
  (s.med.records.filter fun r => r.bay == b && r.die == die && r.mgen != 0 && (r.kind == 2 || r.kind == 3 || r.kind == 4 || r.kind == 7)).length

/-- SPARE_LEFT of a bay in 0.01 % (Table 8.8). -/
def State.spareLeft (s : State) (b : Nat) : Nat :=
  let l := s.retireCount
  let bad := (s.med.records.filter fun r => r.bay == b && r.mgen != 0 && (r.kind == 2 || r.kind == 3 || r.kind == 4 || r.kind == 7)).length
  let dead := (s.med.dieRetired.filter fun x => x.1 == b).length
  10000 - 10000 * (bad + dead * l) / (max 1 (s.geo.dies * l))

/-- Check SPARE_LEFT, the hour's MEAN_BITS, reconstructions and SILENT of a bay against their thresholds. -/
def State.checkBay (s : State) (b : Nat) : State :=
  let h := s.health b
  let src := 0x500 + b
  let sp := s.spareLeft b
  let mean := if h.hourCw = 0 then 0 else 1000 * h.hourBits / (160 * h.hourCw)
  let rec1 := (h.reconHour.filter fun t => decide (s.now ≤ t + secs 3600)).length
  let s1 := s.monitor src 1 b 128 sp (decide (sp < 100 * s.setting 3)) (decide (100 * s.setting 3 + 200 ≤ sp))
  let s2 := s1.monitor src 3 b 128 mean (decide (10 * s.setting 5 < mean)) (decide (mean + 50 < 10 * s.setting 5))
  let s3 := s2.monitor src 4 b 128 rec1 (decide (s.setting 6 ≤ rec1)) (decide (2 * rec1 < s.setting 6))
  s3.monitor src 6 b 128 (h.silent - h.silentCycle) (decide (s.setting 8 ≤ h.silent - h.silentCycle)) false

/-! ### The rewrite queue (R167, R180, R181, R198, R199) -/

/-- Queue an erase block for rewrite; a full queue gives its unit the highest reclaim score, with an event (R181). -/
def State.queueRewrite (s : State) (b die block : Nat) : State :=
  let e : EraseBlock := ⟨b, die, block⟩
  if s.reb.rewrite.contains e then s
  else if s.reb.rewrite.length < 4096 then s.onReb fun r => { r with rewrite := r.rewrite ++ [e] }
  else
    let s1 := match s.locUnit (mkLoc b die (block * s.geo.ppb) 0 0) with
      | some u => s.onUnit u fun x => { x with topScore := true }
      | none => s
    s1.event 0x608 0x0A 1 0

/-- One array read of a page set of a block: READS, the bin, and the queueing limits (R190, R198, R199). -/
def State.countRead (s : State) (b die block : Nat) : State :=
  let r := s.block b die block
  let reads := satAdd 0xFFFFFF r.reads 1
  let s1 := s.onBlock b die block fun x => { x with reads := reads, bin := binOf (s.blockAge b r) }
  match s.desc b with
  | none => s1
  | some d =>
    let s2 := if reads = d.rdLimit then s1.event (0x500 + b) 8 (1 + 256 * (die * 65536 + block)) 0 else s1
    if 8 * d.rdLimit ≤ 10 * reads ∨ 8 * d.retHours * 3600 ≤ 10 * s.blockAge b r then s2.queueRewrite b die block else s2

/-! ### Grown-bad blocks and retirement (R203 to R208) -/

/-- A media record: MGEN rises by 1 and the record carries it (R204). -/
def State.mediaRec (s : State) (b die block kind row unit : Nat) : State :=
  s.onMed fun m => { m with mgen := m.mgen + 1, records := m.records ++ [⟨m.mgen + 1, b, die, block, kind, row, unit⟩] }

/-- Every die group of a module is retired. -/
def State.allGroupsGone (s : State) (b : Nat) : Bool :=
  s.groups != 0 && (List.range s.groups).all fun g => s.med.records.any fun r => r.bay == b && r.kind == 6 && r.die / 16 == g

/-- A module is retired into LOST and its bay enters the loss set; operations on it end (R242, R160). -/
def State.loseModule (s : State) (b : Nat) : State :=
  ((((s.setMod b .lost).event (0x500 + b) 7 2 0).onPort b fun p => { p with latchedLost := true }).addLoss (.bay b)).onLog fun l =>
    { l with units := l.units.map fun e => (e.1, { e.2 with nextPos := tabDel e.2.nextPos b }) }

/-- The first row of a die that no strip of the open unit has taken yet: the ROW of a record made now (Table 8.7). -/
def State.voidRow (s : State) (u b die : Nat) : Nat :=
  match s.nextPage u b with
  | none => s.geo.ppb
  | some l =>
    let p := s.locRow l
    let order := (s.rowPages u b p).map locDie
    match order.idxOf? die with
    | some i => if i < (order.idxOf? (locDie l)).getD 0 then p + 1 else p
    | none => p

/-- The media records of a die or die group retired (Table 8.7): one for each unit of the group open now, with the first row void there, or one
that takes effect at the next openings (R135, R205). -/
def State.groupRecs (s : State) (b die kind : Nat) (row : State → Nat → Nat) : State :=
  match s.log.units.filter fun e => e.2.st == .opened && s.unitGroup e.1 == die / 16 with
  | [] => s.mediaRec b die 0xFFFF kind 0 0xFFFFFFFF
  | l => l.foldl (fun s e => s.mediaRec b die 0xFFFF kind (row s e.1) e.1) s

/-- A die is retired: its record, the loss set, its events; a group left with fewer than 12 dies is retired whole, and a
module whose groups are all retired is lost (R207, R208). -/
def State.retireDie (s : State) (b die : Nat) : State :=
  if s.med.dieRetired.contains (b, die) then s
  else
    let s1 := (s.groupRecs b die 5 fun s u => s.voidRow u b die).onMed fun m => { m with dieRetired := m.dieRetired ++ [(b, die)] }
    let s2 := ((s1.addLoss (.die b die)).event (0x500 + b) 7 (3 + 256 * die) 0).event (0x500 + b) 8 (2 + 256 * die) 0
    let g := die / 16
    let left := ((List.range 16).filter fun i => !s2.med.dieRetired.contains (b, 16 * g + i)).length
    let s3 :=
      if left < 12 ∧ !(s2.med.records.any fun r => r.bay == b && r.kind == 6 && r.die / 16 == g) then
        let rest := (List.range 16).filter fun i => !s2.med.dieRetired.contains (b, 16 * g + i)
        let t := rest.foldl (fun s i =>
          (s.onMed fun m => { m with dieRetired := m.dieRetired ++ [(b, 16 * g + i)] }).addLoss (.die b (16 * g + i)))
          (s2.groupRecs b (16 * g) 6 fun s u => (rest.map fun i => s.voidRow u b (16 * g + i)).foldl max 0)
        (t.event (0x500 + b) 7 (3 + 256 * die + 65536) 0).event (0x500 + b) 8 (3 + 256 * (16 * g)) 0
      else s2
    let s4 := if s3.allGroupsGone b then s3.loseModule b else s3
    (s4.checkBay b).checkSpace

/-- A block becomes grown-bad (R203, R204): program failure at once, other causes at the unit's next erase; a die whose
grown-bad blocks reach the count of R207 is retired, and one with more than 2 grown-bad system blocks (R206). -/
def State.growBad (s : State) (b die block kind row : Nat) : State :=
  let sys := decide (block < s.pl.sysblk)
  let unit := match s.locUnit (mkLoc b die (block * s.geo.ppb) 0 0) with
    | some u => if kind = 2 then u else 0xFFFFFFFF
    | none => 0xFFFFFFFF
  let s1 := (s.mediaRec b die block (if sys then 7 else kind) row unit).onBlock b die block fun r => { r with bad := true, st := .bad }
  let sysBad := (s1.med.records.filter fun r => r.bay == b && r.die == die && r.kind == 7).length
  let s2 := if s1.retireCount ≤ s1.grownBad b die ∨ 2 < sysBad then s1.retireDie b die else s1
  s2.checkBay b

/-- A row without a valid XOR page set: a KIND 8 record, ES 0x608 FAILED item 2, the highest reclaim score (R135). -/
def State.rowWithoutXor (s : State) (u b row : Nat) : State :=
  let x := s.xorPage u b row
  (((s.mediaRec b (locDie x) (s.unitBlock u) 8 row u).event 0x608 0x0A 2 0).onUnit u fun r => { r with topScore := true })

/-- Probes of a block that is erased before they are issued are dropped and counted ("Probe meets erase"). -/
def State.dropProbes (s : State) (b die block : Nat) : State :=
  let hit (p : Probe) : Bool := !p.inflight && locBay p.loc == b && locDie p.loc == die && s.locBlock p.loc == block
  let n := (s.med.probes.filter hit).length
  if n = 0 then s
  else (s.onMed fun m => { m with probes := m.probes.filter fun p => !hit p }).onHealth b fun h =>
    { h with probesDropped := satAdd 0xFFFFFFFF h.probesDropped n }

/-- A block is erased: PE rises, READS, SHIFT and AGE_MARK clear ("Read count meets erase", R189). -/
def State.blockErased (s : State) (b die block : Nat) : State :=
  (s.dropProbes b die block).onBlock b die block fun r =>
    { r with pe := satAdd 0xFFFFF r.pe 1, bin := 0, shift := 0, reads := 0, ageMark := 0, st := if r.bad then .bad else .erased }

/-- A page set of a block is programmed: the first one after an erase marks its age (Table 8.6). -/
def State.blockProgrammed (s : State) (b die block : Nat) : State :=
  let h := s.health b
  s.onBlock b die block fun r =>
    if r.st = .erased then { r with st := .opened, ageMark := h.ageClock / 256 } else { r with st := if r.st = .bad then .bad else .programmed }

/-- Table 8.11 band of a temperature. -/
def tempBand (t : Int) : Nat := if t < 10 then 0 else if 80 ≤ t then 15 else ((t - 5) / 5).toNat

/-- Table 8.9 band of a junction temperature. -/
def junctionBand (t : Int) : Nat := if t < 40 then 0 else if 110 ≤ t then 15 else ((t - 35) / 5).toNat

end Sys2Proof.Machine
end

