-- ==== Sys2Proof/Machine/SysPages.lean ====
section
/-! DEFINITION. The system ranges of the map: the unit directory's pages and the media, key and retention ranges, what they hold, and when they
are given to the map stream and taken back (chapters 7, 8 and 14). -/

namespace Sys2Proof.Machine

/-! ### Where the ranges lie (R164, R197, R345, R354; DESIGN CHOICE, log 48: Zenux's sizes are the model's) -/

/-- Pages of the key range: 4,096 key slot records, 31 to a page, and the cipher epoch table (R341, R345). -/
def keyPages : Nat := 133 + 4113

/-- The Retention namespaces, each with the first page of its index in the retention range and its index's size (R354, R357). -/
def State.retRanges (s : State) : List (Nat × Nat × Nat) :=
  match s.fn.committed with
  | some i => ((i.ns.entries.filter fun e => e.2.present && e.2.nsType == 2).foldl (fun (a : List (Nat × Nat × Nat) × Nat) e =>
      (a.1 ++ [(e.1, a.2, retCap e.2.retPeriod)], a.2 + (retCap e.2.retPeriod + 254) / 255)) ([], 0)).1
  | none => []

/-- Pages of the retention range (R354). -/
def State.retPages (s : State) : Nat := s.retRanges.foldl (fun n e => max n (e.2.1 + (e.2.2 + 254) / 255)) 0

/-- The first MPN of the directory range (R164, R254). -/
def State.dirBase (s : State) : Nat :=
  match s.fn.committed with
  | some i => i.ns.dirBase
  | none => 0

/-- Directory pages of unit records, 127 to a page (R164). -/
def State.dirUnitPages (s : State) : Nat := (s.unitTotal + 126) / 127

/-- Media range pages of block records, 255 to a page (R196, R197). -/
def State.blockPageCount (s : State) : Nat := (48 * s.geo.dies * s.geo.epp + 254) / 255

/-- Media range pages of unit health records (R202). -/
def State.healthPageCount (s : State) : Nat := (s.unitTotal + 254) / 255

/-- The first MPN of the media range: after the directory range, which takes what SYS_PAGES leaves (R197). -/
def State.mediaBase (s : State) : Nat :=
  s.dirBase + ((match s.fn.committed with
    | some i => i.ns.sysPages
    | none => 0) - (keyPages + s.retPages + s.blockPageCount + s.healthPageCount + 48 * s.geo.dies))

/-- The first MPN of the key range, after the media range (R345). -/
def State.keyBase (s : State) : Nat := s.mediaBase + s.blockPageCount + s.healthPageCount + 48 * s.geo.dies

/-- The first MPN of the retention range, after the key range (R354). -/
def State.retBase (s : State) : Nat := s.keyBase + keyPages

/-! ### Records as bytes (Tables 7.1, 7.2, 8.6, 8.7, 14.5) -/

/-- A unit record (Table 7.1); `first` is EXC_FIRST. -/
def UnitDir.toNat (u : Nat) (d : UnitDir) (first : Nat) : Nat :=
  u + 2 ^ 32 * (d.use % 2 ^ 28) + 2 ^ 64 * d.stream + 2 ^ 80 * d.start + 2 ^ 96 * d.stripes + 2 ^ 128 * d.exceptions.length + 2 ^ 160 * first

/-- The UNIT of an empty place among the unit records (DESIGN CHOICE, log 48). -/
def noUnit : Nat := 2 ^ 32 - 1

/-- A unit record from its 32 bytes, its exception list still empty, with EXC_COUNT and EXC_FIRST. -/
def UnitDir.ofNat (n : Nat) : Nat × UnitDir × Nat × Nat :=
  (bits n 31 0, ⟨bits n 59 32, bits n 71 64, bits n 95 80, bits n 111 96, []⟩, bits n 159 128, bits n 191 160)

/-- An exception entry (Table 7.2). -/
def ExcEntry.toNat (e : ExcEntry) : Nat :=
  e.index % 2 ^ 16 + 2 ^ 16 * e.type + 2 ^ 24 * e.role + 2 ^ 32 * e.bay + 2 ^ 48 * e.count + 2 ^ 64 * e.arg

/-- An exception entry from its 16 bytes. -/
def ExcEntry.ofNat (n : Nat) : ExcEntry := ⟨bits n 15 0, bits n 23 16, bits n 31 24, bits n 39 32, bits n 63 48, bits n 127 64⟩

/-- STATE of a block record (Table 8.6). -/
def BlockState.code : BlockState → Nat
  | .erased => 0
  | .opened => 1
  | .programmed => 2
  | .bad => 3

/-- The block state of a code. -/
def BlockState.ofCode (n : Nat) : BlockState := if n = 0 then .erased else if n = 1 then .opened else if n = 2 then .programmed else .bad

/-- A block record (Table 8.6). -/
def BlockRec.toNat (r : BlockRec) : Nat :=
  r.pe + 2 ^ 20 * r.bin + 2 ^ 24 * (r.shift % 16).toNat + 2 ^ 28 * b2n r.bad + 2 ^ 29 * b2n r.slc + 2 ^ 30 * r.st.code + 2 ^ 32 * r.reads
    + 2 ^ 64 * (r.ageMark % 2 ^ 32)

/-- A block record from its 16 bytes. -/
def BlockRec.ofNat (n : Nat) : BlockRec :=
  { pe := bits n 19 0, bin := bits n 23 20, shift := if 8 ≤ bits n 27 24 then (bits n 27 24 : Int) - 16 else bits n 27 24
    bad := decide (bits n 28 28 = 1), slc := decide (bits n 29 29 = 1), st := BlockState.ofCode (bits n 31 30), reads := bits n 55 32
    ageMark := bits n 95 64 }

/-- A media record (Table 8.7). -/
def MediaRec.toNat (r : MediaRec) : Nat :=
  r.mgen + 2 ^ 32 * r.bay + 2 ^ 40 * r.die + 2 ^ 48 * (r.block % 2 ^ 16) + 2 ^ 64 * r.kind + 2 ^ 80 * (r.row % 2 ^ 16) + 2 ^ 96 * r.unit

/-- A media record from its 16 bytes. -/
def MediaRec.ofNat (n : Nat) : MediaRec :=
  ⟨bits n 31 0, bits n 39 32, bits n 47 40, bits n 63 48, bits n 71 64, bits n 95 80, bits n 127 96⟩

/-- A unit health record: wear, opening count and MGEN_OPEN (R202; the order of the fields is the model's). -/
def UnitHealth.toNat (h : UnitHealth) : Nat := h.wear + 2 ^ 32 * h.opens + 2 ^ 64 * h.mgenOpen

/-- A unit health record from its 16 bytes. -/
def UnitHealth.ofNat (n : Nat) : UnitHealth := ⟨bits n 31 0, bits n 63 32, bits n 95 64⟩

/-- A retention time index entry (Table 14.5). -/
def RetEntry.toNat (e : RetEntry) : Nat := e.minute % 2 ^ 32 + 2 ^ 32 * (e.count % 2 ^ 32) + 2 ^ 64 * e.firstWseq

/-- A retention time index entry from its 16 bytes. -/
def RetEntry.ofNat (n : Nat) : RetEntry := ⟨bits n 31 0, bits n 63 32, bits n 127 64⟩

/-- Records of `w` bits one after the other. -/
def packed (w : Nat) : List Nat → Nat
  | [] => 0
  | n :: t => n + 2 ^ w * packed w t

/-! ### What the pages hold now -/

/-- The pages of a unit's exception list, counted from the start of the directory range: each list takes pages of its own, in unit order
after the unit records (R164; DESIGN CHOICE, log 48). -/
def excFirsts (first : Nat) : Tab UnitDir → List (Nat × UnitDir × Nat)
  | [] => []
  | (u, d) :: t => (u, d, first) :: excFirsts (first + (d.exceptions.length + 254) / 255) t

/-- ENTRIES of a page of unit records in which no unit has one. -/
def noUnits : Nat := packed 256 (List.replicate 127 noUnit)

/-- ENTRIES of the directory pages that hold anything: unit u has the place u mod 127 of page u / 127; exception lists follow (R162, R164). -/
def State.dirImage (s : State) : Tab Nat :=
  let l := excFirsts s.dirUnitPages s.reb.dirs
  let units := l.foldl (fun t x =>
    tabUpd noUnits t (s.dirBase + x.1 / 127) fun n => n - noUnit * 2 ^ (256 * (x.1 % 127)) + UnitDir.toNat x.1 x.2.1 x.2.2 * 2 ^ (256 * (x.1 % 127))) []
  l.foldl (fun t x =>
    let pages := chunks 255 (x.2.1.exceptions.length / 255 + 1) x.2.1.exceptions
    (List.range pages.length).foldl (fun t i =>
      tabPut t (s.dirBase + x.2.2 + i) (packed 128 ((nth pages i []).map ExcEntry.toNat))) t) units

/-- Index of a block record in the media range. -/
def State.blockIndex (s : State) (key : Nat) : Nat := (key / 16384 / 128 * s.geo.dies + key / 16384 % 128) * s.geo.epp + key % 16384

/-- ENTRIES of the media range's pages that hold anything: block records, unit health records and media records (R196, R202, R204). -/
def State.mediaImage (s : State) : Tab Nat :=
  let put (base : Nat) (t : Tab Nat) (i n : Nat) : Tab Nat := tabUpd 0 t (base + i / 255) fun x => x + n * 2 ^ (128 * (i % 255))
  let blocks := s.med.blocks.foldl (fun t e => put s.mediaBase t (s.blockIndex e.1) e.2.toNat) []
  let base1 := s.mediaBase + s.blockPageCount
  let health := s.med.unitHealth.foldl (fun t e => put base1 t e.1 e.2.toNat) blocks
  let base2 := base1 + s.healthPageCount
  let recs := s.med.records.filter fun r => r.mgen != 0
  (List.range recs.length).foldl (fun t i => match recs[i]? with
    | some r => put base2 t i r.toNat
    | none => t) health

/-- The key slots that commands have changed and the changes have not taken effect for (R47, R346). -/
def State.keysDue (s : State) : List (Nat × KeySlot) :=
  (s.fn.kept ++ s.fn.changes.map (·.2)).filterMap fun c => match c with
    | .keySlot n x => some (n, x)
    | _ => none

/-- A key slot as the last command carried out left it (R346). -/
def State.keyView (s : State) (k : Nat) : KeySlot :=
  match s.keysDue.reverse.find? fun e => e.1 == k with
  | some e => { e.2 with sectors := (s.keySlot k).sectors }
  | none => s.keySlot k

/-- ENTRIES of a page of key slot records, 31 to a page; a record is rewritten before its change takes effect (R345, R346). -/
def State.keyPage (s : State) (page : Nat) : Nat := packed 1024 ((List.range 31).map fun i => (s.keyView (31 * page + i)).recNat)

/-- ENTRIES of the key range's pages that hold anything: key slot records, then the cipher epochs, 255 to a page (R341, R345). -/
def State.keyImage (s : State) : Tab Nat :=
  let slots := ((s.cip.slots.map (·.1) ++ s.keysDue.map (·.1)).map (· / 31)).eraseDups.map fun p => (s.keyBase + p, s.keyPage p)
  let epochs := chunks 255 (s.cip.epochs.length / 255 + 1) s.cip.epochs
  slots ++ (List.range epochs.length).map fun i =>
    (s.keyBase + 133 + i, packed 128 ((nth epochs i []).map fun e => e.1 % 2 ^ 32 + 2 ^ 64 * e.2))

/-- ENTRIES of the retention range's pages that hold anything: each namespace's index as a ring of its entries (R354). -/
def State.retImage (s : State) : Tab Nat :=
  s.retRanges.foldl (fun t x =>
    let l := s.retIndex x.1
    (List.range l.length).foldl (fun t i =>
      let p := (tabGetD s.cip.retFirst x.1 0 + i) % max 1 x.2.2
      tabUpd 0 t (s.retBase + x.2.1 + p / 255) fun n => n + (nth l i ⟨0, 0, 0⟩).toNat * 2 ^ (128 * (p % 255))) t) []

/-- ENTRIES of the pages of the ranges; directory pages beyond their range are not held (log 48). -/
def State.sysImage (s : State) : Tab Nat :=
  s.dirImage.filter (fun e => decide (e.1 < s.mediaBase)) ++ s.mediaImage ++ s.keyImage ++ s.retImage

/-- ENTRIES of a page of the ranges that holds nothing. -/
def State.sysBlank (s : State) (mpn : Nat) : Nat :=
  if mpn < s.dirBase + s.dirUnitPages then noUnits
  else if s.keyBase ≤ mpn ∧ mpn < s.keyBase + 133 then packed 1024 (List.replicate 31 KeySlot.blank.recNat)
  else 0

/-- The pages of the ranges whose contents differ from the copy last given to the map stream. -/
def State.sysChanged (s : State) : List (Nat × Nat) :=
  let img := s.sysImage
  (img.filter fun e => tabGet s.map.sysSent e.1 != some e.2)
    ++ (s.map.sysSent.filter fun e => (tabGet img e.1).isNone && e.2 != s.sysBlank e.1).map fun e => (e.1, s.sysBlank e.1)

/-! ### Writing and shipping (R79, R164, R168, R370) -/

/-- The 4 KiB of a page of the system ranges, in the form of Table 4.2. -/
def sysPageData (mpn jpos body : Nat) : Sector :=
  let head := mpn % 2 ^ 32 + 2 ^ 32 * (jpos % 2 ^ 48)
  let crc := (crc32c (leBytes 12 head ++ leBytes 4080 body)).toNat
  BitVec.ofNat 32768 (head + 2 ^ 96 * crc + 2 ^ 128 * (body % 2 ^ 32640))

/-- Whether a page of the system ranges is readable: its MPN and CRC check (R77). -/
def sysPageOk (mpn : Nat) (d : Sector) : Bool :=
  bits d.toNat 31 0 == mpn && (crc32c (leBytes 12 (d.toNat % 2 ^ 96) ++ leBytes 4080 (d.toNat / 2 ^ 128))).toNat == bits d.toNat 127 96

/-- Give changed pages of the system ranges to the map stream, and ship their contents to the standby (R79, R164, R370). -/
def State.writeSys (s : State) (l : List (Nat × Nat)) : State :=
  l.foldl (fun s e =>
    let d := sysPageData e.1 (s.log.jposNext - 1) e.2
    let s1 := s.onMap fun m => { m with sysSent := tabPut m.sysSent e.1 e.2 }
    let s2 := if s1.ships then s1.emit (.ship (.page e.1 d)) else s1
    s2.placeSectors 60 [sysSector (mkPayload d (sysMeta (s.sched.nextOrder - 1) e.1 0 2).toNat 0)]) s

/-- A page of the system ranges whose copy must move is written again with the next ones (R99). -/
def State.sysAgain (s : State) (mpn : Nat) : State := s.onMap fun m => { m with sysSent := tabPut m.sysSent mpn (2 ^ 32768) }

/-- Whether an MPN is of the directory range. -/
def State.dirPage (s : State) (mpn : Nat) : Bool := s.fn.committed.isSome && decide (s.dirBase ≤ mpn ∧ mpn < s.mediaBase)

/-- Whether every page `pages` that was given to the map stream is programmed and its type 6 record durable (R168, R346). -/
def State.pagesSettled (s : State) (pages : Nat → Bool) : Bool :=
  let mine (e : BufSector) : Bool := mdKind e.payload == 2 && pages (mdLba e.payload)
  (s.log.streams.all fun x => x.held.all fun e => !mine e)
  && (s.log.stripes.all fun e => e.2.st == .committed || e.2.sectors.all fun x => !mine x)
  && s.log.journal.all fun j => j.durable || j.record.type != 6 || !pages j.record.lba

/-- Close the stripes that make pages given to the map stream durable. -/
def State.finishSys (s : State) : State :=
  let s1 := s.closeStripe 60
  State.flushTail (s1.log.journal.length + 1) s1

/-- Whether the directory pages as they are now are written and their type 6 records durable (R168). -/
def State.dirDurable (s : State) : Bool := (s.sysChanged.all fun e => !s.dirPage e.1) && s.pagesSettled s.dirPage

/-- Write the directory pages that have changed, and close the stripes that make them durable (R168). -/
def State.pushDir (s : State) : State := (s.writeSys (s.sysChanged.filter fun e => s.dirPage e.1)).finishSys

/-- Whether the key range page last given to the map stream has a slot's record as `k` says, SECTORS aside. -/
def State.keySent (s : State) (slot : Nat) (k : KeySlot) : Bool :=
  match tabGet s.map.sysSent (s.keyBase + slot / 31) with
  | some b =>
    let r := KeySlot.ofRec (b / 2 ^ (1024 * (slot % 31)) % 2 ^ 1024) k
    (r.st, r.mode, r.gen, r.check, r.wrapped) == (k.st, k.mode, k.gen, k.check, k.wrapped)
  | none => false

/-- Whether a key change is durable: the page of its record is programmed and the type 6 record durable (R346). -/
def State.keyDurable (s : State) (slot : Nat) (k : KeySlot) : Bool := s.keySent slot k && s.pagesSettled (· == s.keyBase + slot / 31)

/-- Write the page of a key change, once, and close the stripes that make it durable (R346). -/
def State.pushKey (s : State) (slot : Nat) (k : KeySlot) : State :=
  (if s.keySent slot k then s else s.writeSys [(s.keyBase + slot / 31, s.keyPage (slot / 31))]).finishSys

/-! ### Taking the pages back (R164, R176, R196, R345, R354) -/

/-- What has been read of the two ranges' pages: MPN and ENTRIES. -/
def bodyOf (d : Sector) : Nat := d.toNat / 2 ^ 128

/-- The unit directory that pages give; a unit whose exception pages are missing has none of their entries (R162, R164, R176). -/
def State.dirsFrom (s : State) (pages : Tab Nat) : Tab UnitDir :=
  let recs := (pages.filter fun e => decide (s.dirBase ≤ e.1 ∧ e.1 < s.dirBase + s.dirUnitPages)).flatMap fun e =>
    (List.range 127).filterMap fun j =>
      let r := UnitDir.ofNat (e.2 / 2 ^ (256 * j) % 2 ^ 256)
      if r.1 = noUnit ∨ r.1 ≠ 127 * (e.1 - s.dirBase) + j then none else some r
  recs.foldl (fun t r =>
    let exc := (List.range r.2.2.1).filterMap fun i =>
      (tabGet pages (s.dirBase + r.2.2.2 + i / 255)).map fun n => ExcEntry.ofNat (n / 2 ^ (128 * (i % 255)) % 2 ^ 128)
    tabPut t r.1 { r.2.1 with exceptions := exc }) []

/-- The block records, unit health records and media records that pages give; records made at a module's identification stay (R196, R202,
R204). -/
def State.mediaFrom (s : State) (pages : Tab Nat) : State :=
  let slots (base n : Nat) : List (Nat × Nat) := (pages.filter fun e => decide (base ≤ e.1 ∧ e.1 < base + n)).flatMap fun e =>
    (List.range 255).filterMap fun j =>
      let w := e.2 / 2 ^ (128 * j) % 2 ^ 128
      if w = 0 then none else some (255 * (e.1 - base) + j, w)
  let base1 := s.mediaBase + s.blockPageCount
  let base2 := base1 + s.healthPageCount
  let dies := max 1 s.geo.dies
  let epp := max 1 s.geo.epp
  let recs := (slots base2 (48 * s.geo.dies)).map fun e => MediaRec.ofNat e.2
  s.onMed fun m =>
    { m with
      blocks := (slots s.mediaBase s.blockPageCount).foldl (fun t e =>
        let r := BlockRec.ofNat e.2
        tabUpd BlockRec.blank t (blockKey (e.1 / epp / dies) (e.1 / epp % dies) (e.1 % epp)) fun x => { r with bad := r.bad || x.bad }) m.blocks
      unitHealth := (slots base1 s.healthPageCount).foldl (fun t e => tabPut t e.1 (UnitHealth.ofNat e.2)) m.unitHealth
      records := (m.records.filter fun r => r.mgen == 0) ++ recs
      mgen := recs.foldl (fun a r => max a r.mgen) m.mgen
      dieRetired := recs.foldl (fun l r =>
        if r.kind = 5 then (if l.contains (r.bay, r.die) then l else l ++ [(r.bay, r.die)])
        else if r.kind = 6 then l ++ (((List.range 16).map fun i => (r.bay, r.die / 16 * 16 + i)).filter fun x => !l.contains x)
        else l) m.dieRetired }

/-- The key slots and cipher epochs that pages give (R341, R345). -/
def State.keysFrom (s : State) (pages : Tab Nat) : State :=
  let slots := (pages.filter fun e => decide (s.keyBase ≤ e.1 ∧ e.1 < s.keyBase + 133)).flatMap fun e =>
    (List.range 31).filterMap fun j =>
      let n := e.2 / 2 ^ (1024 * j) % 2 ^ 1024
      let k := 31 * (e.1 - s.keyBase) + j
      if n % 2 ^ 992 = 0 then none else some (k, KeySlot.ofRec n (s.keySlot k))
  let epochs := (pages.filter fun e => decide (s.keyBase + 133 ≤ e.1 ∧ e.1 < s.retBase)).flatMap fun e =>
    (List.range 255).filterMap fun j =>
      let n := e.2 / 2 ^ (128 * j) % 2 ^ 128
      if n = 0 then none else some (bits n 31 0, bits n 127 64)
  s.onCip fun c => { c with slots := slots.foldl (fun t e => tabPut t e.1 e.2) [], epochs := epochs }

/-- The retention time indexes that pages give: the entries of each ring in the order of FIRST_WSEQ (R354). -/
def State.retFrom (s : State) (pages : Tab Nat) : State :=
  s.retRanges.foldl (fun s x =>
    let found := (pages.filter fun e => decide (s.retBase + x.2.1 ≤ e.1 ∧ e.1 < s.retBase + x.2.1 + (x.2.2 + 254) / 255)).flatMap fun e =>
      (List.range 255).filterMap fun j =>
        let n := e.2 / 2 ^ (128 * j) % 2 ^ 128
        if n = 0 then none else some (255 * (e.1 - s.retBase - x.2.1) + j, RetEntry.ofNat n)
    let l := sortBy (fun e => e.2.firstWseq) found
    s.onCip fun c => { c with index := tabPut c.index x.1 (l.map (·.2)), retFirst := tabPut c.retFirst x.1 ((l.head?.map (·.1)).getD 0) }) s

/-- Dies retired by media records are in the loss set while their bay is not lost (R160, R207). -/
def State.lossFromMedia (s : State) : State :=
  s.onReb fun r => { r with loss := r.loss ++ (s.med.dieRetired.map fun x => LossItem.die x.1 x.2).filter fun x => !r.loss.contains x }

/-- A shipped page of the system ranges: the standby's directory, media records, key slots, epochs and retention indexes follow it (R168, R370,
Table 15.6). -/
def State.tookSysPage (s : State) (mpn : Nat) (d : Sector) : State :=
  let s1 := s.onMap fun m => { m with sysSent := tabPut m.sysSent mpn (bodyOf d) }
  if s1.dirPage mpn then s1.onReb fun r => { r with dirs := s1.dirsFrom (s1.map.sysSent.filter fun e => s1.dirPage e.1) }
  else if mpn < s1.keyBase then s1.mediaFrom s1.map.sysSent
  else if mpn < s1.retBase then s1.keysFrom s1.map.sysSent
  else s1.retFrom s1.map.sysSent

end Sys2Proof.Machine
end

