-- ==== Sys2Proof/Machine/ReadOps.lean ====
section
/-! DEFINITION. Codeword reads, retries and reconstruction (chapters 7 and 8), and what a read codeword is delivered to:
host reads, map fetches, relocations, repair strips, the patrol and probes. -/

namespace Sys2Proof.Machine

/-! ### Whom a codeword serves -/

/-- The serving status of a host sector read back (R273, R274, R337, R349): poison first, then the key slot's page and
mode, then deciphering and the tag. -/
def State.hostResult (s : State) (ns : Nat) (p : Payload) : RdResult :=
  let k := s.storeKey (mdKey p)
  let tenant := match s.nsEntry ns with
    | some e => e.tenant
    | none => 1024
  if mdPoison p then .marked
  else if mdKey p / 4 ≠ tenant ∨ k.st ≠ 1 ∨ (decide (k.mode = 2)) ≠ mdTagged p then .notReady
  else if tagGood s p k then .data (decipher s p k)
  else .tagFail (decipher s p k)

/-- Give a sector of a read command its result. -/
def State.setResult (s : State) (ord off : Nat) (r : RdResult) : State :=
  s.onCmd ord fun c => { c with results := c.results.map fun e => if e.1 = off then (off, r) else e }

/-- Whether every sector of a read command has its result. -/
def Cmd.allRead (c : Cmd) : Bool := c.results.all fun e => e.2 != .waiting

/-- The first sector, in LBA order, whose data cannot be returned, with its status (R166, R274, R337, R349). -/
def Cmd.readError (c : Cmd) : Option (Nat × Nat × Nat) :=
  c.results.findSome? fun e => match e.2 with
    | .unrecovered | .notReady => some (e.1, 2, 0x81)
    | .marked => some (e.1, 7, 0xC3)
    | _ => none

/-- The index of the first sector whose tag failed (R273). -/
def Cmd.firstTagFail (c : Cmd) : Option Nat :=
  c.results.findSome? fun e => match e.2 with
    | .tagFail _ => some e.1
    | _ => none

/-- The plaintext a result stands for: zeros for an unmapped or zeroes sector (R74). -/
def rdPlain : RdResult → Sector
  | .data p => p
  | .tagFail p => p
  | _ => 0

/-- Queue a probe of a host read that reached its cap (R195): at most 1,024 pend, the rest are counted. -/
def State.queueProbe (s : State) (r : CwRead) : State :=
  let last := s.readCap false
  if last ≤ r.cap then s
  else if s.med.probes.length < 1024 then
    s.onMed fun m => { m with probes := m.probes ++ [⟨r.loc, r.cap + 1, last, r.offsets, false⟩] }
  else s.onHealth (locBay r.loc) fun h => { h with probesDropped := satAdd 0xFFFFFFFF h.probesDropped 1 }

/-- Drop the probe in flight for a place. -/
def State.endProbe (s : State) (l : Loc) : State :=
  s.onMed fun m => { m with probes := m.probes.filter fun p => !(p.inflight && p.loc == l) }

/-! ### Starting a read -/

/-- Whether a bay's module can be read now: its port up, and the module IN_SERVICE for the holder, or the reads of a
controller that stopped acting (R235, R246). -/
def State.readable (s : State) (b : Nat) : Bool :=
  (s.port b).up && (match (s.port b).modSt with
    | .inService | .fencing => true
    | .ready => s.pair.st == .giving || s.pair.st == .lapsed || s.pair.st == .standby || s.pair.st == .taking
    | _ => false)

/-- Issue the array read of a job that waits (R192, R225): the read counts on its block; it waits while the port has no
room. -/
def State.tryRead (s : State) (job : Nat) : State :=
  match tabGet s.rd.jobs job with
  | none => s
  | some r =>
    if r.phase ≠ .waiting then s
    else
      let b := locBay r.loc
      let block := s.locBlock r.loc
      let offs := if r.offsets.isEmpty then s.readOffsets b (locDie r.loc) block else r.offsets
      let slc := (s.block b (locDie r.loc) block).slc
      let op : SheetOp :=
        { s.mkOp 1 (locDie r.loc) (locPage r.loc) slc (.read job) with
          cwmask := BitVec.ofNat 16 (2 ^ (4 * locPlane r.loc + locCw r.loc)), prio := r.host }
      match s.issue b op 0 (s.retryOffsets b offs r.attempt) [] with
      | none => s
      | some t =>
        (t.countRead b (locDie r.loc) block).onRd fun x =>
          { x with jobs := tabMod x.jobs job fun r => { r with offsets := offs, phase := .reading } }

/-- Codewords in decode in the LDPC cells of a bay's Channel block. -/
def State.decoding (s : State) (b : Nat) : Nat := (s.rd.jobs.filter fun e => e.2.phase == .decoding && locBay e.2.loc / 4 == b / 4).length

/-- Whether a bay's Channel block can take another codeword: each of its LDPC cells that is not withdrawn holds two in decode at once (R188). -/
def State.decodeRoom (s : State) (b : Nat) : Bool :=
  let cells := ((List.range 8).filter fun j => !s.flt.withdrawn.contains (0x240 + 8 * (b / 4) + j)).length
  decide (s.decoding b < 2 * cells)

/-- A codeword that has been read enters an LDPC cell with room, or waits for one (R188). -/
def State.toDecode (s : State) (job b : Nat) : State :=
  s.onRd fun x => { x with jobs := tabMod x.jobs job fun r => { r with phase := if s.decodeRoom b then .decoding else .queued } }

/-- Codewords that wait for an LDPC cell enter those that have room. -/
def State.kickDecodes (s : State) : State :=
  s.rd.jobs.foldl (fun s e => if e.2.phase = .queued then s.toDecode e.1 (locBay e.2.loc) else s) s

/-- Issue every read that waits. -/
def State.kickReads (s : State) : State :=
  s.rd.jobs.foldl (fun s e => if e.2.phase = .waiting then s.tryRead e.1 else s) s

/-- The cap of a new codeword read: of a host command's, the one in force at the command's admission, of a survivor's that of the read it serves,
of any other's the one in force now ("Cap change meets a read", R193). -/
def State.capOf (s : State) (user : RdFor) (host : Bool) : Nat :=
  match user with
  | .host ord _ => match s.cmd ord with
    | some c => c.readCap
    | none => s.readCap host
  | .survivor job _ => match tabGet s.rd.jobs job with
    | some r => r.cap
    | none => s.readCap host
  | _ => s.readCap host

/-- A new codeword read with its cap. -/
def State.newJob (s : State) (loc : Loc) (user : RdFor) (host : Bool) : Nat × State :=
  let j := s.rd.nextJob
  (j, s.onRd fun x =>
    { x with
      nextJob := j + 1
      jobs := tabPut x.jobs j ⟨loc, user, host, 0, s.capOf user host, [], .waiting, none⟩ })

/-! ### Reconstruction (R165, Tables 7.3 and 6.6) -/

/-- Whether a block of a returned bay has not been erased since its return: it counts as empty (R161, R243). -/
def State.emptyBack (s : State) (l : Loc) : Bool :=
  (s.port (locBay l)).returned && !(s.port (locBay l)).erasedBack.contains ⟨locBay l, locDie l, s.locBlock l⟩

/-- Whether a place holds nothing that may be read: its die or bay is lost, or its bay returned and counts as empty there (R160, R161). -/
def State.placeLost (s : State) (l : Loc) : Bool := s.dieLost (locBay l) (locDie l) || s.emptyBack l

/-- The roles of a stripe that lie on a lost or unreachable member (R160, R246). -/
def State.lostRoles (s : State) (u i : Nat) : List Nat :=
  (List.range s.roles).filter fun r => match s.roleLoc u i r with
    | some l => s.placeLost l || !s.readable (locBay l)
    | none => true

/-- Whether a read's row can serve a die XOR round (R205, Table 7.3): the bay in service, the row's XOR page set valid,
and, for a codeword lost for this read, no lost die in the group. -/
def State.dieXorMay (s : State) (l : Loc) : Bool :=
  match s.locUnit l with
  | none => false
  | some u =>
    let b := locBay l
    let group := locDie l / 16
    s.readable b && !s.bayLost b && !s.emptyBack l && s.rowXorValid u b (s.locRow l)
      && (s.dieLost b (locDie l) || !((List.range 16).any fun i => s.dieLost b (16 * group + i)))

/-- Start the reads of a reconstruction's survivors that are not void. -/
def State.startSurvivors (s : State) (job : Nat) (host : Bool) : State :=
  match tabGet s.rd.recons job with
  | none => s
  | some r => (List.range r.survivors.length).foldl (fun s k =>
      match r.survivors[k]? with
      | some v =>
        if v.got.isSome ∨ v.failed ∨ (s.rd.jobs.any fun e => e.2.user == .survivor job k) then s
        else let n := s.newJob v.loc (.survivor job k) host
          n.2.tryRead n.1
      | none => s) s

/-- Whether a page set's program failed: its block has a program-failure record of the unit, and its stripe was abandoned or none
holds it; the row's XOR goes without it ("Program failure meets an open row", R168). -/
def State.failedAt (s : State) (u : Nat) (l : Loc) : Bool :=
  (s.med.records.any fun r => r.kind == 2 && r.bay == locBay l && r.die == locDie l && r.block == s.locBlock l && r.unit == u)
    && (match s.stripeOf l with
      | some (v, i, _) => (match tabGet s.reb.dirs v with
        | some d => abandonedIn d i
        | none => false)
      | none => true)

/-- Begin the die XOR round of a read (Table 7.3): the row's other W − 1 page sets, its XOR page set included, voids as
zeros. -/
def State.beginDieXor (s : State) (job : Nat) (r : CwRead) : State :=
  match s.locUnit r.loc with
  | none => s
  | some u =>
    let b := locBay r.loc
    let row := s.locRow r.loc
    let k := 4 * locPlane r.loc + locCw r.loc
    let pages := (s.xorPage u b row :: s.rowPages u b row).filter fun l => locDie l != locDie r.loc
    let sv := pages.map fun l =>
      (⟨0, locAt l k, if s.voidAt u b (locDie l) row || s.failedAt u l || s.deadAt u l then some 0 else none, s.dieLost b (locDie l)⟩ : Survivor)
    (s.onRd fun x =>
      { x with
        recons := tabPut x.recons job ⟨true, 0, [], sv, false⟩
        jobs := tabMod x.jobs job fun r => { r with phase := .dieXor } }).startSurvivors job r.host

/-- Begin the cross-module round of a read (Table 7.3): the other data roles and P, and Q when a second role is lost in
Twin; false when the stripe is not known or no survivor is left to read. -/
def State.beginCross (s : State) (job : Nat) (r : CwRead) : Bool × State :=
  match s.stripeOf r.loc with
  | none => (false, s)
  | some (u, i, role) =>
    let k := 4 * locPlane r.loc + locCw r.loc
    let lost := (s.lostRoles u i).filter (· != role)
    let withQ := s.pl.parity == 2 && !lost.isEmpty
    let want := (List.range s.roles).filter fun x => x != role && (decide (x ≤ s.pl.data) || withQ)
    let sv := want.filterMap fun x => (s.roleLoc u i x).map fun l => (⟨x, locAt l k, none, lost.contains x⟩ : Survivor)
    if sv.all (·.failed) then (false, s)
    else (true, (s.onRd fun x =>
      { x with
        recons := tabPut x.recons job ⟨false, role, lost, sv, withQ⟩
        jobs := tabMod x.jobs job fun r => { r with phase := .cross } }).startSurvivors job r.host)

/-- The outcome of a reconstruction round whose survivors have all answered. -/
inductive RoundEnd where
  | waiting
  | solved (p : Payload)
  | needQ
  | failed
  deriving DecidableEq, Repr

/-- Judge a round (R165, Table 7.3, Table 6.6). -/
def State.roundEnd (s : State) (r : Recon) : RoundEnd :=
  if r.survivors.any fun v => v.got.isNone && !v.failed then .waiting
  else if r.dieXor then
    if r.survivors.any (·.failed) then .failed else .solved (xorAll (r.survivors.map fun v => v.got.getD 0))
  else
    let got := r.survivors.filterMap fun v => v.got.map fun p => (v.role, p)
    let bad := (r.survivors.filter (·.failed)).map (·.role)
    let lost := (r.role :: r.stripeLost ++ bad).eraseDups
    match solveRole s.pl.data got lost r.role with
    | some p => .solved p
    | none => if s.pl.parity = 2 ∧ !r.withQ ∧ lost.length ≤ 2 then .needQ else .failed

/-! ### Delivery -/

/-- Whether a decoded codeword passes the checks of R92 for its user: a host sector names the sector asked for, a map
page its MPN; parity and pads are not checked (R150). -/
def State.acceptable (s : State) (user : RdFor) (p : Payload) : Bool :=
  match user with
  | .host ord off => match s.cmd ord with
    | some c => hostMatch p c.ns (c.lba + off)
    | none => true
  | .mapPage mpn => mdCrc p == plCrc p && mapPageOk mpn (plData p)
  | .relocate _ => mdCrc p == plCrc p
  | .repair _ slot _ => match s.reb.batch[slot]? with
    | some q => decide (s.pl.data ≤ q.role) || mdCrc p == plCrc p
    | none => true
  | .survivor _ _ | .patrol _ _ _ _ | .patrolRow _ _ _ _ | .probe => true

/-- Remove a job and its reconstruction. -/
def State.endJob (s : State) (job : Nat) : State :=
  s.onRd fun x => { x with jobs := tabDel x.jobs job, recons := tabDel x.recons job }

/-- Poison a sector whose rounds have all failed while its map entry still names the codeword, once the map page is in the pool (R166). -/
def State.poisonSector (s : State) (ns lba : Nat) (loc : Loc) : State :=
  if !s.holder then s
  else match s.mapNow ns lba with
    | none =>
      let w := (s.mpnOf ns lba, MapWait.poison ns lba loc)
      s.onMap fun m => { m with waits := if m.waits.contains w then m.waits else m.waits ++ [w] }
    | some e =>
      if e ≠ loc then s
      else
        let s1 := s.applyEntry ns lba ePoisoned none
        let s2 := (s1.journal ⟨5, 0, ns, 0, lba, 0, (s.codeword loc).elim 0 mdWseq⟩).settleEmptied s.log.jposNext
        (s2.stampPage (s.mpnOf ns lba) s.log.jposNext).onReb fun r => { r with poisonedCount := r.poisonedCount + 1 }

/-- Rebuild's reaction to an unrecoverable codeword found by a read or the patrol: it is recorded, and the sweep runs
when rebuild is idle (Table 7.5). -/
def State.recordLost (s : State) (loc : Loc) : State :=
  let s1 := s.onReb fun r => { r with lostCw := if r.lostCw.contains loc then r.lostCw else r.lostCw ++ [loc] }
  if s1.reb.st = .idle ∧ s1.rebuildMay then (s1.onReb fun r => { r with sweepMpn := 0 }).setReb .sweep else s1

/-- Namespace and LBA of entry `i` of a map page (R75). -/
def State.ownerOf (s : State) (mpn i : Nat) : Option (Nat × Nat) :=
  match s.fn.committed with
  | none => none
  | some im => (im.ns.entries.find? fun e => e.2.present && decide (e.2.mapBase ≤ mpn ∧ mpn < e.2.mapBase + (e.2.capacity + 815) / 816)).map fun e =>
      (e.1, (mpn - e.2.mapBase) * 816 + i)

/-- The place of a stripe's position as a record names it: in the stripe's buffer entry while that is held, else by the unit directory. -/
def State.recLoc (s : State) (id pos : Nat) : MapEntry :=
  match (tabGet s.log.stripes id).bind fun x => x.members[pos / 16]? with
  | some m => locAt (mkLoc m.bay m.die m.page 0 0) (pos % 16)
  | none => match s.roleLoc (id / 65536 % 2 ^ 20) (id % 65536) (pos / 16) with
    | some l => locAt l (pos % 16)
    | none => ePoisoned

/-- The sectors a map update record changes and their new entries (Table 4.7). -/
def State.recEntries (s : State) (r : JRec) (i : Nat) : Option MapEntry :=
  if r.type = 1 ∨ r.type = 2 then (if i ≤ r.count then some (s.recLoc r.arg (r.pos + i)) else none)
  else if r.type = 3 then (if i < r.arg then some eUnmapped else none)
  else if r.type = 4 then (if i < r.arg then some eZeroes else none)
  else if r.type = 5 then (if i ≤ r.count then some ePoisoned else none)
  else none

/-- What a record of the journal ring makes of a sector's entry. -/
def State.ringRec (s : State) (r : JRec) (ns lba : Nat) : Option MapEntry :=
  if r.ns = ns ∧ r.lba ≤ lba then s.recEntries r (lba - r.lba) else none

/-- A sector's entry after every record of the journal ring, in JPOS order (R122, R123, R176). -/
def State.ringEntry (s : State) (ns lba : Nat) (e : MapEntry) : MapEntry :=
  s.log.journal.foldl (fun e j => (s.ringRec j.record ns lba).getD e) e

/-- The entries of a map page that cannot be read: every one of it poisoned, and on top, in order, every update that the journal still holds
(R176): the last record of an entry is its state, whether the lost copy had it or not. -/
def State.poisonedEntries (s : State) (mpn : Nat) : Tab MapEntry :=
  (List.range 816).filterMap fun i => (s.ownerOf mpn i).bind fun o =>
    let e := s.ringEntry o.1 o.2 ePoisoned
    if e = eUnmapped then none else some (i, e)

/-! ### Errors in the Translation Cache (R123, R124, Table 5.5) -/

/-- A damaged line without updates of its own is invalidated and the next lookup refetches; a locked one is refetched from its pinned page into
the same way, L set again, and a reserved way stays reserved (R123, R124). -/
def State.tcLose (s : State) (set way : Nat) : State :=
  let l := s.tcWayOf set way
  if l.f then s.putLine set way l
  else match s.slotOf (l.la / 68) with
    | some p =>
      if l.l && l.v then
        s.putLine set way
          { l with dirtyMask := 0, entries := (List.range 12).map fun i => tabGetD p.entries (l.la % 68 * 12 + i) eUnmapped }
      else s.putLine set way TcLine.blank
    | none => s.putLine set way TcLine.blank

/-- Rebuild a dirty line into the same way: its entries from the pool slot and then every record of the ring, each to be written back; an update
that no record of the ring covers fences the Storage region (R123, Table 5.5). -/
def State.tcRebuild (s : State) (set way la cause : Nat) : State :=
  let l := s.tcWayOf set way
  let first := la % 68 * 12
  let pool := match s.slotOf (la / 68) with
    | some p => p.entries
    | none => []
  let at_ (i : Nat) : MapEntry :=
    let e := tabGetD pool (first + i) eUnmapped
    match s.ownerOf (la / 68) (first + i) with
    | some o => s.ringEntry o.1 o.2 e
    | none => e
  let older := (List.range 12).any fun i => l.dirtyMask.getLsbD i && (match s.ownerOf (la / 68) (first + i) with
    | some o => s.log.journal.all fun j => (s.ringRec j.record o.1 o.2).isNone
    | none => false)
  let s1 := (s.putLine set way { l with la := la, v := true, f := false, entries := (List.range 12).map at_, dirtyMask := 0xFFF }).onTc fun t =>
    { t with errRebuilt := satAdd 0xFFFF t.errRebuilt 1 }
  if older then s1.raise (0x118 + set % 4) classX cause 0 else s1

/-- The kinds of error of Table 5.5. -/
inductive TcErr where
  | single
  | double
  | parity
  deriving DecidableEq, Repr

/-- Handle an error in a way (Table 5.5): a single-bit error is corrected in place; a way that the write-back queue names is rebuilt, its tag
restored from the queue's entry; any other is invalidated or refetched (R123, R124). -/
def State.tcFix (s : State) (set way : Nat) (e : TcErr) : State :=
  let named := (s.tc.wb.find? fun x => tcSet x.la == set && x.way == way).map (·.la)
  match e with
  | .single => (s.putLine set way (s.tcWayOf set way).corrected).onTc fun t => { t with errCorrected := satAdd 0xFFFFFFFF t.errCorrected 1 }
  | .double => match named with
    | some la => s.tcRebuild set way la 2
    | none => s.tcLose set way
  | .parity =>
    let s1 := s.onTc fun t => { t with errParity := satAdd 0xFFFF t.errParity 1 }
    match named with
    | some la => s1.tcRebuild set way la 3
    | none => s1.tcLose set way

/-- The fault class of an error in a way (Table 5.5). -/
def State.tcErrClass (s : State) (set way : Nat) (e : TcErr) : Nat :=
  if e = .single then classC else if s.tc.wb.any fun x => tcSet x.la == set && x.way == way then classU else classT

/-- ADDRESS of a word for a way: structure 0 with the word's place in the data array, or structure 1 with the way's in the tag array (Table 19.3;
DESIGN CHOICE, log 50: the spec numbers neither structures nor entries). -/
def tcAddr (set way : Nat) (e : TcErr) : Nat := if e = .parity then 2 ^ 32 + (16 * set + way) else 8 * (16 * set + way)

/-- An error that a lookup finds: its word, and its handling (R123). -/
def State.tcFound (s : State) (set way : Nat) (e : TcErr) : State :=
  (s.raise (0x118 + set % 4) (s.tcErrClass set way e) (if e = .single then 1 else if e = .double then 2 else 3) (tcAddr set way e)).tcFix set way e

/-- The error in a line's data, if any (R114). -/
def TcLine.dataErr (l : TcLine) : Option TcErr :=
  let r := l.reads
  if r.any (· == .bad) then some .double
  else if r.any fun x => match x with
    | .fixed _ => true
    | _ => false then some .single
  else none

/-- A way in which an error of that class was found, or none. -/
def State.tcMend (s : State) (set way : Nat) : Option TcErr → State
  | none => s
  | some e => s.tcFound set way e

/-- The tags of a set, read together: a way whose parity is wrong is mended. -/
def State.tcMendTags (s : State) (set : Nat) : State :=
  (List.range 16).foldl (fun s w => s.tcMend set w (if (s.tcWayOf set w).tagOk then none else some .parity)) s

/-- The data of the way that hits, read: a wrong word is mended. -/
def State.tcMendLine (s : State) (set : Nat) : Option Nat → State
  | none => s
  | some w => s.tcMend set w (s.tcWayOf set w).dataErr

/-- A lookup reads the tags of the line's set and, on a hit, the line's words, and what it finds wrong is handled before it goes on (R110, R114,
R123, Table 5.4). -/
def State.tcCheck (s : State) (la : Nat) : State :=
  let s1 := s.tcMendTags (tcSet la)
  s1.tcMendLine (tcSet la) (s1.tcHit la)

/-- A lookup of reclaim, rebuild or the patrol: it takes the entry, and its miss starts a streaming fill (R116, R117). -/
def State.backLook (s : State) (ns lba : Nat) : Option MapEntry × State :=
  let s1 := s.tcCheck (lineAddr (s.mpnOf ns lba) lba)
  match s1.look ns lba with
  | .entry e => (some e, s1)
  | .fill la => (s1.mapNow ns lba, s1.startFill la ns true false none)
  | .fetch _ => (none, s1)

/-- A map page that cannot be reconstructed: every entry of it is poisoned, later journal records apply on top, the poison counts follow, and a
U fault is raised (R176, R177); a preload that needs it stops there (Table 5.9). -/
def State.poisonPage (s : State) (mpn : Nat) : State :=
  let g := s.gmd mpn
  let ents := s.poisonedEntries mpn
  let bad := ents.filterMap fun e => if e.2 = ePoisoned then s.ownerOf mpn e.1 else none
  let r := s.installPage mpn g.loc 0 ents
  let s1 := r.2.onMap fun m =>
    let old := m.poisonLbas.filter fun o => s.mpnOf o.1 o.2 != mpn
    { m with
      poisonLbas := old ++ bad
      poisoned := bad.foldl (fun t o => tabUpd 0 t o.1 (· + 1)) (m.poisonLbas.foldl (fun t o =>
        if s.mpnOf o.1 o.2 = mpn then tabUpd 0 t o.1 (· - 1) else t) m.poisoned) }
  let s2 := s1.onTc fun t =>
    if t.busy && (t.runOp == 4 || t.runOp == 5) && t.range.any fun la => la / 68 == mpn then
      { t with error := true, errCode := 5, range := [] }
    else t
  s2.raise (0x118 + tcSet (68 * mpn) % 4) classU 0x17 (addrLoc (locBay g.loc) g.loc)

/-- What waited for a map page (R76). -/
def State.takeWaits (s : State) (mpn : Nat) : List MapWait × State :=
  ((s.map.waits.filter fun w => w.1 == mpn).map (·.2), s.onMap fun m => { m with waits := m.waits.filter fun w => w.1 != mpn })

/-- The relocation stream of a unit's valid sector (Table 4.4). -/
def State.relocStream (s : State) (u : Nat) (p : Payload) : Nat :=
  let k := (s.unit u).stream
  let kind := s.streamKind k
  let nsType := match s.nsEntry (mdNs p) with
    | some e => e.nsType
    | none => 0
  if kind = 3 ∨ kind = 4 ∨ k = 58 ∨ nsType ≠ 0 then 58
  else if kind = 2 ∨ k = 57 then 57
  else 56

/-- A relocated sector enters its reclaim stream, RELOC_GEN raised, remembering the copy it was read from (R92, R99); rebuild's costs its lane
one work unit (R171). -/
def State.placeReloc (s : State) (u : Nat) (loc : Loc) (p : Payload) : State :=
  if u = 0xFFFFFFFF then (s.chargeBack 6 1).placeSectors 59 [⟨relocated p, some loc, false⟩]
  else s.placeSectors (s.relocStream u p) [⟨relocated p, some loc, false⟩]

/-- A probe's retry decoded: one cap-cost reconstruction for the die, and SHIFT (R195). -/
def State.capCost (s : State) (b die : Nat) : State :=
  let s1 := s.onHealth b fun h => { h with capCost := satAdd 0xFFFFFFFF h.capCost 1 }
  let k := b * 128 + die
  let s2 := s1.onMed fun m =>
    { m with capHour := tabUpd [] m.capHour k fun l => (l.filter fun t => decide (s.now ≤ t + secs 3600)) ++ [s.now] }
  let n := (tabGetD s2.med.capHour k []).length
  s2.monitor (0x500 + b) 5 b die n (decide (s.setting 7 ≤ n)) (decide (2 * n < s.setting 7))

/-- The patrol and row check keep what they read (R182): with its role or row position, and for the check of its row. -/
def State.patrolKeep (s : State) (role k : Nat) (loc : Loc) (p : Option Payload) : State :=
  s.onReb fun r =>
    { r with
      patrolGot := r.patrolGot ++ [(role, k, p)]
      patrolSeen := match p with
        | some x => tabPut r.patrolSeen loc.toNat x
        | none => r.patrolSeen }

/-- Deliver the end of a read to its user: a payload, or nothing when every round failed. Survivor reads settle the
reconstruction they serve, which may deliver in its turn; `fuel` bounds that nesting (a read, its survivors, and
rebuild's survivors of survivors). -/
def State.deliver : Nat → State → Nat → Option Payload → State
  | 0, s, _, _ => s
  | fuel + 1, s, job, res =>
    match tabGet s.rd.jobs job with
    | none => s
    | some r =>
      let s0 := s.endJob job
      match r.user with
      | .host ord off =>
        match s0.cmd ord, res with
        | none, _ => s0
        | some c, some p => s0.setResult ord off (s0.hostResult c.ns p)
        | some c, none =>
          ((s0.setResult ord off .unrecovered).event 0x606 8 r.loc.toNat 0).poisonSector c.ns (c.lba + off) r.loc
      | .mapPage mpn =>
        match res with
        | some p => (s0.installPage mpn r.loc (mapPageJpos (plData p)) (mapPageEntries (plData p))).2
        | none => s0.poisonPage mpn
      | .relocate u =>
        match res with
        | some p => s0.placeReloc u r.loc p
        | none => s0.recordLost r.loc
      | .survivor parent slot =>
        match tabGet s0.rd.recons parent with
        | none => s0
        | some x =>
          let x1 := { x with survivors := modNth x.survivors slot fun v =>
            match res with
            | some p => { v with got := some p }
            | none => { v with failed := true } }
          let s1 := s0.onRd fun y => { y with recons := tabPut y.recons parent x1 }
          match s1.roundEnd x1, tabGet s1.rd.jobs parent with
          | .waiting, _ => s1
          | _, none => s1.endJob parent
          | .solved p, some pr =>
            if s1.acceptable pr.user p then State.deliver fuel s1 parent (some p)
            else if x1.dieXor then (match s1.beginCross parent pr with
              | (true, t) => t
              | (false, t) => State.deliver fuel t parent none)
            else State.deliver fuel s1 parent none
          | .needQ, some pr =>
            match s1.stripeOf pr.loc with
            | none => State.deliver fuel s1 parent none
            | some (u, i, _) =>
              let k := 4 * locPlane pr.loc + locCw pr.loc
              match s1.roleLoc u i (s1.pl.data + 1) with
              | none => State.deliver fuel s1 parent none
              | some l =>
                (s1.onRd fun y => { y with recons := tabMod y.recons parent fun x =>
                  { x with withQ := true, survivors := x.survivors ++ [⟨s1.pl.data + 1, locAt l k, none, false⟩] } }).startSurvivors
                  parent pr.host
          | .failed, some pr =>
            if x1.dieXor && (match pr.user with
              | .survivor _ _ => false
              | _ => true) then
              match s1.beginCross parent pr with
              | (true, t) => t
              | (false, t) => State.deliver fuel t parent none
            else
              let s2 := match pr.user with
                | .repair _ _ _ | .relocate _ => (x1.survivors.filter (·.failed)).foldl (fun (s : State) (v : Survivor) => s.recordLost v.loc) s1
                | _ => s1
              State.deliver fuel s2 parent none
      | .repair no slot k =>
        match res with
        | some p => if no ≠ s0.reb.batchNo then s0 else s0.onReb fun x => { x with batch := modNth x.batch slot fun q => { q with payloads := q.payloads ++ [(k, p)] } }
        | none => s0.recordLost r.loc
      | .patrol _ _ role k => s0.patrolKeep role k r.loc res
      | .patrolRow _ _ pos k => s0.patrolKeep (100 + pos) k r.loc res
      | .probe => s0

/-- How deep deliveries nest: a read, its survivors and rebuild's survivors of survivors, each with two rounds. -/
def deliverFuel : Nat := 8

/-- A codeword in place has needed reconstruction: the second one of a block within a patrol cycle condemns the block, which becomes
grown-bad when its unit is next erased (R203; lost and unreachable members explain theirs). -/
def State.noteRecon (s : State) (x : Loc) : State :=
  let e : EraseBlock := ⟨locBay x, locDie x, s.locBlock x⟩
  if s.placeLost x ∨ !s.inService (locBay x) ∨ s.med.reconCycle.contains x ∨ s.locBlock x < s.pl.sysblk then s
  else
    let other := s.med.reconCycle.any fun y => locBay y == e.bay && locDie y == e.die && s.locBlock y == e.block
    s.onMed fun m =>
      { m with
        reconCycle := m.reconCycle ++ [x]
        condemned := if other && !m.condemned.contains e then m.condemned ++ [e] else m.condemned }

/-- A read can go no further on its codeword: it goes to reconstruction by the first round that applies, or fails
(R165, R193, Table 7.3), and its block is queued for rewrite; rebuild's own reads of what is lost queue none (R167); a probe just ends (R195). A host read's survivors have
no round of their own; others may use the die XOR round ("Unreadable sector meets rebuild"). -/
def State.reconstruct (s : State) (job : Nat) : State :=
  match tabGet s.rd.jobs job with
  | none => s
  | some r =>
    if r.user = .probe then (s.endProbe r.loc).endJob job else
    let s1 := (s.onHealth (locBay r.loc) fun h =>
      { h with
        reconstructed := satAdd 0xFFFFFFFF h.reconstructed 1
        reconHour := (h.reconHour.filter fun t => decide (s.now ≤ t + secs 3600)) ++ [s.now] }).checkBay (locBay r.loc)
    let own : Bool := match r.user with
      | .repair _ _ _ | .survivor _ _ => true
      | _ => false
    let s2 := if own && s1.placeLost r.loc then s1 else s1.queueRewrite (locBay r.loc) (locDie r.loc) (s1.locBlock r.loc)
    match r.user with
    | .survivor _ _ =>
      if !r.host && s2.dieXorMay r.loc then s2.beginDieXor job r else State.deliver deliverFuel s2 job none
    | _ =>
      if s2.dieXorMay r.loc then s2.beginDieXor job r
      else match s2.beginCross job r with
        | (true, t) => t
        | (false, t) => State.deliver deliverFuel t job none

/-- Start a codeword read: from the media, or by reconstruction when its die or bay is lost or unreachable (R160, R165,
R246). -/
def State.readCw (s : State) (loc : Loc) (user : RdFor) (host : Bool) : State :=
  let n := s.newJob loc user host
  let b := locBay loc
  if n.2.placeLost loc ∨ !n.2.readable b then n.2.reconstruct n.1 else n.2.tryRead n.1

/-- A fetch of a map page, by media read or reconstruction, for what waits on it; a pool slot is reserved first, and without one the fetch is
tried again later (R76). `host` says whether a host command asks for it (R193). -/
def State.needPage (s : State) (mpn : Nat) (wait : Option MapWait) (host : Bool) : State :=
  let s1 := match wait with
    | some w => s.onMap fun m => { m with waits := if m.waits.contains (mpn, w) then m.waits else m.waits ++ [(mpn, w)] }
    | none => s
  if (s1.gmd mpn).fetching ∨ (s1.gmd mpn).resident then s1
  else
    let r := s1.freeSlot mpn
    if r.1 then (r.2.markFetch mpn).readCw (r.2.gmd mpn).loc (.mapPage mpn) host else r.2

/-- Start the fetches that waited for a pool slot (R76). -/
def State.kickPages (s : State) : State :=
  s.map.waits.foldl (fun s w =>
    let g := s.gmd w.1
    if g.resident ∨ g.fetching ∨ g.empty then s else s.needPage w.1 none (match w.2 with
      | .read _ => true
      | _ => false)) s

/-! ### Serving a read's sectors (R76, R81) -/

/-- A sector held in a stripe buffer by its WSEQ (R81). -/
def State.bufferOf (s : State) (wseq ns lba : Nat) : Option Payload :=
  let hit (e : BufSector) : Bool :=
    mdKind e.payload == 0 && mdWseq e.payload == wseq && mdNs e.payload == ns && mdLba e.payload == lba
  match s.log.streams.findSome? fun x => (x.held.find? hit).map (·.payload) with
  | some p => some p
  | none => s.log.stripes.findSome? fun e => if e.2.st = .abandoned then none else (e.2.sectors.find? hit).map (·.payload)

/-- A codeword held in a closed stripe's buffer at its place (R165, last sentence). -/
def State.bufferAt (s : State) (l : Loc) : Option Payload :=
  s.log.stripes.findSome? fun e =>
    match (List.range s.pl.data).find? fun r => match e.2.members[r]? with
      | some m => mkLoc m.bay m.die m.page 0 0 == pageSet l
      | none => false with
    | some r => (e.2.sectors[16 * r + 4 * locPlane l + locCw l]?).map (·.payload)
    | none => none

/-- The earlier write that answers for a sector, if its map update is not applied and the sector is not superseded
(R81): the one with the highest order number. -/
def State.ovWrite (s : State) (ord ns lba : Nat) : Option Nat :=
  (s.sched.overlap.filter fun e =>
    decide (e.1 < ord) && e.2.ns == ns && e.2.kind == .write && e.2.settled
      && meets lba 1 e.2.lba e.2.len && !e.2.superseded.contains (lba - e.2.lba)).foldl (fun _ e => some e.1) none

/-- Whether a read counts as streaming in the cache: at least 128 KiB, or following the last LBA of the previous read
(R116); decided at intake and kept in `stream`. -/
def Cmd.streaming (c : Cmd) : Bool := c.stream == 1

/-- Serve a sector of a read whose map entry is known (R74, R76, R165). -/
def State.serveEntry (s : State) (ord : Nat) (c : Cmd) (off : Nat) (e : MapEntry) : State :=
  let lba := c.lba + off
  if e = ePoisoned then s.setResult ord off .unrecovered
  else if !isLoc e then s.setResult ord off .zero
  else match s.bufferAt e with
    | some p => s.setResult ord off (if hostMatch p c.ns lba then s.hostResult c.ns p else .unrecovered)
    | none => if s.rd.jobs.any fun x => x.2.user == .host ord off then s else s.readCw e (.host ord off) true

/-- Serve one waiting sector of a read as far as it goes now (R76, R81, R165). -/
def State.serveSector (s : State) (ord : Nat) (c : Cmd) (off : Nat) : State :=
  let lba := c.lba + off
  let buffered := match s.ovWrite ord c.ns lba with
    | some w => s.bufferOf w c.ns lba
    | none => none
  match buffered with
  | some p => s.setResult ord off (s.hostResult c.ns p)
  | none =>
    let s := s.tcCheck (lineAddr (s.mpnOf c.ns lba) lba)
    match s.look c.ns lba with
    | .fill la => s.startFill la c.ns c.streaming false (some ord)
    | .fetch mpn => s.needPage mpn (some (.read ord)) true
    | .entry e => (s.touch c.ns lba c.streaming).serveEntry ord c off e

/-- Serve every waiting sector of a read. -/
def State.serveRead (s : State) (ord : Nat) : State :=
  match s.cmd ord with
  | none => s
  | some c =>
    (c.results.filter fun e => e.2 == .waiting).foldl (fun s e => s.serveSector ord c e.1) s

/-- Serve the reads that waited for a map page or a cache fill. -/
def State.serveAll (s : State) (ords : List Nat) : State := ords.foldl State.serveRead s

/-- Issue whatever waits for room on the ports or for space: stripes, members, row XORs, journal pages, reads, map fetches and Strike. -/
def State.kick (s : State) : State :=
  let s1 := s.closeFull.kickMembers.trySj
  let s2 := s1.log.rows.foldl (fun s e => s.tryXor (e.1 / 2048 / 64) (e.1 / 2048 % 64) (e.1 % 2048)) s1
  let s3 := s2.log.units.foldl (fun s e => if e.2.st = .closed then s.finishRows e.1 else s) s2
  ((s3.kickDecodes.kickReads).kickPages).strikeKick

end Sys2Proof.Machine
end

