-- ==== Sys2Proof/Machine/CommitOps.lean ====
section
/-! DEFINITION. Shared operations of commit and what follows it: stripe commit and abandonment, map updates, checkpoints,
reclaim's bookkeeping and Strike (chapters 4 and 6). -/

namespace Sys2Proof.Machine

/-! ### Commit (R93, R155, R157) -/

/-- The map entry of stripe position `i` of a closed stripe (R140). -/
def memberLoc (x : Stripe) (i : Nat) : Loc :=
  match x.members[i / 16]? with
  | some m => mkLoc m.bay m.die m.page (i % 16 / 4) i
  | none => eUnmapped

/-- A map page's copy has committed: its slot names the new place, its GMD page is due in a checkpoint, and a type 6 record says so (R78, R79,
R94, R101). -/
def State.commitMapPage (s : State) (loc : Loc) (p : Payload) : State :=
  let mpn := mdLba p
  let old := match s.slotOf mpn with
    | some x => x.loc
    | none => (s.gmd mpn).loc
  let s1 := (((s.countLoc old false none).onSlot mpn fun x => { x with loc := loc }).onGmd mpn fun g =>
    if g.resident then g else { g with loc := loc, empty := false }).countLoc loc true none
  s1.journal ⟨6, 0, 0, 0, mpn, loc.toNat, mdWseq p⟩

/-- The locations of all GMD pages: the root's, with every later type 6 record of a GMD page applied. -/
def State.gmdPages (s : State) : Tab Loc :=
  s.log.journal.foldl (fun t j =>
    if j.record.type = 6 ∧ 2 ^ 63 ≤ j.record.lba then tabPut t (j.record.lba - 2 ^ 63) (BitVec.ofNat 40 j.record.arg) else t)
    (match s.log.root with
      | some r => r.gmd
      | none => [])

/-- A GMD page's copy has committed: its unit gains it and the unit of the copy before loses it (R78, R94, R97). -/
def State.commitGmdPage (s : State) (loc : Loc) (p : Payload) : State :=
  let s1 := match tabGet s.gmdPages (mdLba p) with
    | some old => s.countLoc old false none
    | none => s
  (s1.countLoc loc true none).journal ⟨6, 0, 0, 0, 2 ^ 63 + mdLba p, loc.toNat, mdWseq p⟩

/-- The last record of a stream-61 unit lies at JPOS `j` or later; an index page counts as a record appended after its checkpoint's, since
the next checkpoint alone no longer needs it (R98; DEDUCED for the index page, log 49). -/
def State.lastOf61 (s : State) (u j : Nat) : State := s.onUnit u fun x => { x with emptiedJpos := max x.emptiedJpos j }

/-- A stripe commits: its COMMIT record is held by the stripe journal (R93, R157). Map and GMD pages take their type 6
records; journal pages make records durable; host sectors wait for their map updates. -/
def State.commitStripe (s : State) (id : Nat) : State :=
  match tabGet s.log.stripes id with
  | none => s
  | some x =>
    if x.st ≠ .journaling then s
    else
      let s1 := (s.onLog fun l =>
        { l with stripes := tabPut l.stripes id { x with st := .committed } }).onUnit (id / 65536 % 2 ^ 20) fun u =>
        { u with lastCommit := s.clk.frame }
      let s2 := (List.range x.sectors.length).foldl (fun s i =>
        match x.sectors[i]? with
        | some e =>
          if mdKind e.payload = 2 then s.commitMapPage (memberLoc x i) e.payload
          else if mdKind e.payload = 3 then s.commitGmdPage (memberLoc x i) e.payload
          else if mdKind e.payload = 4 then s.lastOf61 (id / 65536 % 2 ^ 20) ((pageSpan e.payload).2 - 1)
          else if mdKind e.payload = 5 then (s.lastOf61 (id / 65536 % 2 ^ 20) s.log.jposNext).onLog fun l =>
            { l with ckpt := l.ckpt.map fun c => { c with index := c.index ++ [memberLoc x i] } }
          else s
        | none => s) s1
      s2.settleJournal

/-- Every member of a stripe is programmed: its COMMIT record is written (R155). -/
def State.memberDone (s : State) (id r : Nat) : State :=
  let s1 := s.onLog fun l => { l with stripes := tabMod l.stripes id fun y =>
    { y with members := modNth y.members r fun m => { m with st := .programmed } } }
  match tabGet s1.log.stripes id with
  | none => s1
  | some x =>
    if x.st = .programming ∧ x.members.all (fun m => m.st == .programmed) then
      let x1 := { x with st := .journaling }
      (s1.onLog fun l => { l with stripes := tabPut l.stripes id x1 }).sjWrite (sjOf id x1 2)
    else s1

/-- A record as it enters a module copy's ring: an ABANDON, or one whose stripe is no longer held, may be dropped after the next checkpoint
(R158). -/
def State.liveRec (s : State) (page : Nat) (r : SjRec) : SjLive :=
  ⟨page, r, if r.kind = 3 ∨ (tabGet s.log.stripes r.stripe).isNone then some s.log.jposNext else none⟩

/-- A stripe journal page is programmed on a bay: when every copy in service has it, and at least one, its stripes
commit (R157). -/
def State.sjDone (s : State) (b : Nat) (ok : Bool) : State :=
  match s.log.sjWait.find? fun p => p.waitBays.contains b with
  | none => s
  | some p =>
    let p1 := { p with waitBays := p.waitBays.filter (· != b), done := if ok then p.done + 1 else p.done }
    let s1 := s.onLog fun l =>
      { l with
        sjCopies := if ok then l.sjCopies.map fun c =>
          if c.bay = b then { c with serial := c.serial + 1, next := c.next + 1, records := c.records ++ p.records.map (s.liveRec c.next) } else c else l.sjCopies
        sjWait := l.sjWait.map fun q => if q = p then p1 else q }
    if p1.waitBays.isEmpty ∧ 0 < p1.done then
      let s2 := s1.onLog fun l => { l with sjWait := l.sjWait.filter (· != p1) }
      p1.records.foldl (fun s r => if r.kind = 2 then s.commitStripe r.stripe else s) s2
    else s1

/-- A stripe is given up: ABANDON is written, its exception entry made, and its host and system sectors are placed again
in the stream's next stripe, WSEQ, metadata and source unchanged ("Program failure meets a stripe"). Positions it took and did not program are
filled with pads (R134). -/
def State.abandonStripe (s : State) (id : Nat) : State :=
  match tabGet s.log.stripes id with
  | none => s
  | some x =>
    if x.st = .committed ∨ x.st = .abandoned then s
    else
      let u := id / 65536 % 2 ^ 20
      let s1 := (s.sjWrite (sjOf id x 3)).addExc u ⟨id % 65536, 3, 0xFF, 0xFF, 0, 0⟩
      let keep := x.sectors.filter fun e => mdKind e.payload != 1
      let left := (x.members.filter fun m => m.st == .waiting).map fun m => (u, mkLoc m.bay m.die m.page 0 0)
      let s2 := s1.onLog fun l => { l with stripes := tabDel l.stripes id, padWait := l.padWait ++ left }
      if keep.isEmpty then s2 else s2.placeSectors x.stream keep

/-- A member whose bay left service before commit moves once to the first alternate in service, at that bay's next free
position; with none the stripe is abandoned ("Module loss meets an open stripe", "Alternate meets failure"). An alternate on which a later stripe
of the unit has taken a position already is passed over, since R163 counts a bay's positions in stripe order (DEDUCED, log 49). -/
def State.moveMember (s : State) (id r : Nat) : State :=
  match tabGet s.log.stripes id with
  | none => s
  | some x =>
    let u := id / 65536 % 2 ^ 20
    let used := x.members.map Member.bay
    let pat := match tabGet s.reb.dirs u with
      | none => none
      | some d => s.pl.table[(d.start + id % 65536 + skipOf d (id % 65536)) % (max 1 s.pl.table.length)]?
    let later (b : Nat) : Bool := match tabGet s.reb.dirs u with
      | none => true
      | some d => (List.range d.stripes).any fun j => decide (id % 65536 < j) && (s.stripeBays d j).contains b
    let cand := match pat with
      | some p => [p.alt0, p.alt1].filter fun b => b != 0xFF && s.bayFor u b && !used.contains b && !later b
      | none => []
    match cand with
    | [] => s.abandonStripe id
    | b :: _ =>
      match s.nextPage u b with
      | none => s.abandonStripe id
      | some l =>
        let n := match x.members[r]? with
          | some m => m.alternates + 1
          | none => 1
        if 2 < n then s.abandonStripe id
        else
          let s1 := (s.onLog fun g =>
            { g with stripes := tabPut g.stripes id { x with alt := true, members := modNth x.members r fun _ => ⟨b, locDie l, locPage l, n, .waiting⟩ } }).addExc
            u ⟨id % 65536, 1, r, b, 0, 0⟩
          (s1.onUnit u fun y => { y with nextPos := tabUpd 0 y.nextPos b (· + 1) }).tryMember id r

/-- Every unfinished member on a bay that left service moves or its stripe is abandoned (R147); the row that a program cut off may
have left incomplete has no valid XOR page set any longer (R135). -/
def State.membersOff (s : State) (b : Nat) : State :=
  s.log.stripes.foldl (fun s e =>
    if e.2.st = .programming then
      (List.range e.2.members.length).foldl (fun s r =>
        match (tabGet s.log.stripes e.1).bind fun x => x.members[r]? with
        | some m =>
          if m.bay = b ∧ m.st ≠ .programmed then
            let u := e.1 / 65536 % 2 ^ 20
            let s1 := if m.st = .issued ∧ !s.bayLost b then s.rowWithoutXor u b (m.page % (max 1 s.geo.ppb)) else s
            s1.moveMember e.1 r
          else s
        | none => s) s
    else s) s

/-! ### Map updates of a committed stripe (R93, R97, R99) -/

/-- Whether the update of write `wseq` over the sectors must wait: an overlapping write with a lower order number is not
applied (R93), or the map pages are not all in the pool. -/
def State.updateWaits (s : State) (wseq : Nat) : Bool :=
  match tabGet s.sched.overlap wseq with
  | none => false
  | some o => s.sched.overlap.any fun e =>
      decide (e.1 < wseq) && (e.2.kind == .write || !e.2.settled) && e.2.ns == o.ns
        && rangesMeet (s.ovRanges e.1 e.2) [(o.lba, o.len)]

/-- The positions of a stripe's unmapped host sectors of one WSEQ. -/
def Stripe.due (x : Stripe) (wseq : Nat) : List Nat :=
  (List.range x.sectors.length).filter fun i => match x.sectors[i]? with
    | some e => mdKind e.payload == 0 && mdWseq e.payload == wseq && !e.mapped
    | none => false

/-- Bring the map pages of some sectors into the pool: whether all are there now. -/
def State.readyAll (s : State) (l : List (Nat × Nat)) : Bool × State :=
  s.readyPages (fun s m => s.needPage m none false) (l.map fun x => s.mpnOf x.1 x.2).eraseDups

/-- Runs of positions whose sectors follow one another in LBA, at most 256 each (COUNT of Table 4.7): first position,
namespace, first LBA, length, relocated. -/
def runs : List (Nat × Nat × Nat × Bool) → List (Nat × Nat × Nat × Nat × Bool)
  | [] => []
  | (p, ns, lba, rel) :: t =>
    match runs t with
    | (p2, ns2, lba2, n, rel2) :: r =>
      if p2 = p + 1 ∧ ns2 = ns ∧ lba2 = lba + 1 ∧ rel2 = rel ∧ n < 256 then (p, ns, lba, n + 1, rel) :: r
      else (p, ns, lba, 1, rel) :: (p2, ns2, lba2, n, rel2) :: r
    | [] => [(p, ns, lba, 1, rel)]

/-- Whether a write has no sector left to map: every unit is placed or ended and no buffer holds an unmapped sector of
it. -/
def State.writeApplied (s : State) (wseq : Nat) : Bool :=
  (match s.cmd wseq with
    | some c => c.units.length == unitCount c.len && c.units.all fun u => u == .placed || u == .ended
    | none => true)
  && (s.log.streams.all fun x => x.held.all fun e => !(mdKind e.payload == 0 && mdWseq e.payload == wseq && e.source.isNone))
  && s.log.stripes.all fun e => e.2.sectors.all fun x => !(mdKind x.payload == 0 && mdWseq x.payload == wseq && x.source.isNone && !x.mapped)

/-- The write's updates are all applied: its overlap entry leaves the table (R80). -/
def State.settleWrite (s : State) (wseq : Nat) : State :=
  if s.writeApplied wseq then s.onSched fun x => { x with overlap := tabDel x.overlap wseq } else s

/-- JPOS of the record of a Deallocate or Write Zeroes of a higher WSEQ that superseded a sector, 0 once it has left the ring (R93). -/
def State.supersededAt (s : State) (wseq ns lba : Nat) : Nat :=
  ((s.log.journal.find? fun j => (j.record.type == 3 || j.record.type == 4) && j.record.ns == ns && decide (wseq < j.record.wseq)
    && meets lba 1 j.record.lba j.record.arg).map (·.jpos)).getD 0

/-- Apply the map update of one write's (or relocation's) sectors in a committed stripe and append its records: a
superseded sector is left out and counts as durable with the record that superseded it, a relocated one applies only while the entry still names the copy that was read (R93,
R99, R122). Nothing happens while the update must wait. -/
def State.applyUpdate (s : State) (id wseq : Nat) : State :=
  match tabGet s.log.stripes id with
  | none => s
  | some x =>
    let due := x.due wseq
    if x.st ≠ .committed ∨ due.isEmpty then s
    else if s.updateWaits wseq ∧ due.any (fun i => match x.sectors[i]? with
      | some e => e.source.isNone
      | none => false) then s
    else if s.map.applied ≠ 0 ∧ updateLimit < s.map.applied + due.length then s
    else
      let info := due.filterMap fun i => (x.sectors[i]?).map fun e => (i, e)
      let r := s.readyAll (info.map fun e => (mdNs e.2.payload, mdLba e.2.payload))
      if !r.1 then r.2
      else
        let s0 := r.2
        let sup := match tabGet s0.sched.overlap wseq with
          | some o => fun lba => o.superseded.contains (lba - o.lba)
          | none => fun _ => false
        let take := info.filter fun e => match e.2.source with
          | some src => s0.mapNow (mdNs e.2.payload) (mdLba e.2.payload) == some src
          | none => !sup (mdLba e.2.payload)
        let s1 := take.foldl (fun s e =>
          let p := e.2.payload
          let t := s.applyEntry (mdNs p) (mdLba p) (memberLoc x e.1) (some (mdKey p))
          if e.2.source.isNone then t.retCount (mdNs p) wseq 1 else t) s0
        let recs := runs (take.map fun e => (e.1, mdNs e.2.payload, mdLba e.2.payload, e.2.source.isSome))
        let s2 := (recs.foldl (fun s q =>
          s.journal ⟨if q.2.2.2.2 then 2 else 1, q.2.2.2.1 - 1, q.2.1, q.1, q.2.2.1, id, wseq⟩) s1).settleEmptied s0.log.jposNext
        let gone := info.foldl (fun a e =>
          if e.2.source.isNone && sup (mdLba e.2.payload) then max a (s0.supersededAt wseq (mdNs e.2.payload) (mdLba e.2.payload)) else a) 0
        let top := s2.log.jposNext - 1
        let s3 := (take.map fun e => s2.mpnOf (mdNs e.2.payload) (mdLba e.2.payload)).eraseDups.foldl (fun s m => s.stampPage m top) s2
        let s4 := s3.onLog fun l =>
          { l with stripes := tabMod l.stripes id fun y =>
            { y with
              jposLast := max (max y.jposLast gone) (if recs.isEmpty then 0 else top)
              sectors := (List.range y.sectors.length).filterMap fun i => (y.sectors[i]?).map fun e => if due.contains i then { e with mapped := true } else e } }
        ((s4.onMap fun m => { m with applied := m.applied + due.length }).settleWrite wseq).settleJournal

/-! ### Checkpoints (R101, R102) -/

/-- A GMD page: 512 entries of Table 4.3. -/
def gmdPageData (f : Nat → GmdEntry) (page : Nat) : Sector :=
  BitVec.ofNat 32768 ((List.range 512).foldl (fun a i =>
    let g := f (512 * page + i)
    a + 2 ^ (64 * i) * (4 * b2n g.empty + 2 ^ 8 * g.loc.toNat)) 0)

/-- The GMD entries of a GMD page's 4 KiB, pages with no copy left out. -/
def gmdPageEntries (page : Nat) (d : Sector) : Tab Loc :=
  (List.range 512).filterMap fun i =>
    let w := d.toNat / 2 ^ (64 * i) % 2 ^ 64
    if bits w 2 2 = 1 then none else some (512 * page + i, BitVec.ofNat 40 (w / 256))

/-- The GMD entry as it stands in flash: the page's flash location (R78). -/
def State.gmdFlash (s : State) (mpn : Nat) : GmdEntry :=
  let g := s.gmd mpn
  match s.slotOf mpn with
  | some p => { g with loc := p.loc, empty := !isLoc p.loc }
  | none => g

/-- The rebuild cursor and counts that a checkpoint's index pages carry: the state (of HELD the kept one), the unit, the INDEX, the repair
strips written and the sectors poisoned (R173). -/
structure RebCursor where
  st : RebuildState
  unit : Nat
  index : Nat
  repaired : Nat
  poisoned : Nat
  deriving DecidableEq, Repr

/-- Where rebuild has to go on if its batch is lost: at the cursor, or at the first stripe before it with a role in the batch (R173). -/
def RebSt.from_ (r : RebSt) : Nat × Nat :=
  r.batch.foldl (fun c q =>
    if q.unit ≠ 0xFFFFFFFF ∧ (q.unit < c.1 ∨ (q.unit = c.1 ∧ q.index < c.2)) then (q.unit, q.index) else c) (r.unit, r.index)

/-- The rebuild cursor now (R173). -/
def RebSt.cursor (r : RebSt) : RebCursor :=
  ⟨if r.st = .held then r.kept else r.st, r.from_.1, r.from_.2, r.repaired, r.poisonedCount⟩

/-- The rebuild state of a code of Table 7.4. -/
def rebOf (n : Nat) : RebuildState :=
  if n = 1 then .journal else if n = 2 then .critical else if n = 3 then .single else if n = 4 then .sweep else .idle

/-- The 256 bits of a rebuild cursor. -/
def RebCursor.toNat (c : RebCursor) : Nat :=
  rebCode c.st + 2 ^ 32 * (c.unit % 2 ^ 32) + 2 ^ 64 * (c.index % 2 ^ 32) + 2 ^ 128 * (c.repaired % 2 ^ 64) + 2 ^ 192 * (c.poisoned % 2 ^ 64)

/-- A rebuild cursor from its bits. -/
def RebCursor.ofNat (n : Nat) : RebCursor := ⟨rebOf (bits n 31 0), bits n 63 32, bits n 95 64, bits n 191 128, bits n 255 192⟩

/-- A checkpoint index page: the checkpoint's number, the RCLK sample, the rebuild cursor, and the places of its GMD pages (R101, R173, R352;
the order of the fields is the model's). -/
def indexPage (number rclk : Nat) (cur : RebCursor) (locs : List (Nat × Loc)) : Sector :=
  BitVec.ofNat 32768 (number % 2 ^ 64 + 2 ^ 64 * (rclk % 2 ^ 64) + 2 ^ 128 * locs.length + 2 ^ 256 * cur.toNat
    + (List.range locs.length).foldl (fun a i => match locs[i]? with
      | some e => a + 2 ^ (512 + 72 * i) * (e.1 + 2 ^ 32 * e.2.toNat)
      | none => a) 0)

/-- The (GMD page, place) pairs of an index page. -/
def indexEntries (d : Sector) : List (Nat × Loc) :=
  (List.range (min 400 (bits d.toNat 255 128))).map fun i =>
    let w := d.toNat / 2 ^ (512 + 72 * i)
    (w % 2 ^ 32, BitVec.ofNat 40 (w / 2 ^ 32))

/-- A root record's sector: number, JPOS, highest order number, strike half used (0xFF none), the STOPPED flag of R476, RIG_GEN,
and the places of the index pages, under a CRC-32C (R101; the order of the fields is the model's). -/
def rootSector (r : Root) (index : List Loc) : Sector :=
  let body := r.number % 2 ^ 64 + 2 ^ 64 * (r.jpos % 2 ^ 64) + 2 ^ 128 * (r.highOrder % 2 ^ 64)
    + 2 ^ 192 * (match r.strikeUsed with
      | some h => h % 2
      | none => 0xFF)
    + 2 ^ 200 * b2n r.stopped + 2 ^ 208 * (index.length % 2 ^ 16) + 2 ^ 256 * (r.rigGen % 2 ^ 64)
    + (List.range index.length).foldl (fun a i => match index[i]? with
      | some l => a + 2 ^ (512 + 40 * i) * l.toNat
      | none => a) 0
  BitVec.ofNat 32768 (body + 2 ^ 320 * (crc32c (leBytes 4096 body)).toNat)

/-- The root record a sector holds, if its CRC checks, with the places of its index pages. -/
def rootOf (d : Sector) : Option (Root × List Loc) :=
  let n := d.toNat
  let crc := bits n 351 320
  if (crc32c (leBytes 4096 (n - 2 ^ 320 * crc))).toNat = crc then
    some (⟨bits n 63 0, bits n 127 64, bits n 191 128, (if bits n 199 192 = 0xFF then none else some (bits n 199 192)), bits n 319 256, [],
      decide (bits n 200 200 = 1)⟩, (List.range (bits n 223 208)).map fun i => BitVec.ofNat 40 (n / 2 ^ (512 + 40 * i)))
  else none

/-- Give the map stream a copy of a dirty page: its dirty lines are written back first and the copy carries the page's
JPOS (R79, R121). -/
def State.snapshotPage (s : State) (mpn : Nat) : State :=
  let s1 := s.writeBackPage mpn
  match s1.slotOf mpn with
  | none => s1
  | some p =>
    let pay := mkPayload (mapPageData mpn p.jpos p.entries) (sysMeta (s1.sched.nextOrder - 1) mpn 0 2).toNat 0
    (s1.onSlot mpn fun x => { x with snap := x.jpos }).placeSectors 60 [sysSector pay]

/-- The dirty resident pages of the pool. -/
def State.dirtyPages (s : State) : List Nat := (s.map.gmd.filter fun e => e.2.dirty && e.2.resident).map (·.1)

/-- Whether reclaim and checkpoints run here: on the lease holder while the sequencers run (R97, R102, Table 2.11). -/
def State.logRuns (s : State) : Bool :=
  s.holder && (s.fn.st == .armed || s.fn.st == .running || s.fn.st == .draining)

/-- A checkpoint starts (R101, R102): every changed page of the system ranges and every dirty map page is given to the map stream, whose stripe
closes, and the journal tail is made durable (R164, R196). -/
def State.startCkpt (s : State) : State :=
  if s.log.ckpt.isSome ∨ !s.holder ∨ s.fn.committed.isNone ∨ s.log.strike ≠ .idle then s
  else
    let n := (match s.log.root with
      | some r => r.number
      | none => 0) + 1
    let target := s.log.jposNext - 1
    let s1 := s.onLog fun l =>
      { l with ckpt := some ⟨n, target, [], 0, 1⟩, rootRclk := s.rclk }
    let s1 := s1.writeSys s1.sysChanged
    let s2 := (s1.dirtyPages.foldl State.snapshotPage s1).closeStripe 60
    State.flushTail (s2.log.journal.length + 1) s2

/-- Whether a stream has nothing unfinished: no sector in its open stripe, no closed stripe short of commit. -/
def State.streamIdle (s : State) (k : Nat) : Bool :=
  (match (s.stream k).stripe with
    | some o => o.all.isEmpty
    | none => true)
  && s.log.stripes.all fun e => e.2.stream != k || e.2.st == .committed || e.2.st == .abandoned

/-- Root page sets of the two root blocks of die 0, taken alternately: block 2 or 3 of the system blocks (R101; the
blocks' assignment is the model's). -/
def State.rootPage (s : State) (number : Nat) : Nat := (2 + number % 2) * s.geo.ppb + number / 2 % (max 1 s.geo.ppb)

/-- The root record of a checkpoint (R101, R476): it names a strike half once a replay or a takeover has consumed it. -/
def State.rootRecord (s : State) (c : Ckpt) : Root :=
  ⟨c.number, c.jposTarget, s.sched.nextOrder - 1, (if s.log.strike = .idle ∧ s.log.strikeRows.isEmpty then s.log.halfUsed else none),
    (s.nextImage.map (·.rigGen)).getD 0, s.gmdPages, s.fn.stoppedByCmd⟩

/-- The bays that hold the root copies: the placement's, or the bay that took over from a lost one (R101, "Journal copy meets
failure"). -/
def State.rootBays (s : State) : List Nat := s.pl.root.map fun b => tabGetD s.log.rootMoved b b

/-- Program a root record into the root bays (R101). DESIGN CHOICE (log 49): its codewords carry KIND 5, which Table 4.6 gives to no root copy. -/
def State.issueRoot (s : State) (c : Ckpt) : State :=
  let pay := List.replicate 16 (mkPayload (rootSector (s.rootRecord c) c.index) (sysMeta (s.sched.nextOrder - 1) 0 0 5).toNat 0)
  s.rootBays.foldl (fun s b => (s.issueSys b 0 (s.rootPage c.number) .root pay).getD s) s

/-- Units of stream 61 whose last record a durable checkpoint has passed may be erased (R98); records of stripes whose sectors' records it has
passed leave the stripe journal's rings (R158). -/
def State.ckptFrees (s : State) (jpos : Nat) : State :=
  let idle := s.log.units.filter fun e =>
    e.2.st == .closed && e.2.stream == 61 && decide (e.2.emptiedJpos ≤ jpos) && !(s.log.stripes.any fun x => x.1 / 65536 % 2 ^ 20 == e.1)
  let s1 := idle.foldl (fun s e => s.onUnit e.1 fun u => { u with st := .victim }) s
  s1.onLog fun l =>
    { l with sjCopies := l.sjCopies.map fun c => { c with records := c.records.filter fun r => match r.past with
      | some j => decide (jpos < j)
      | none => true } }

/-- A checkpoint is durable: two of the three root copies are programmed (R101). -/
def State.ckptDurable (s : State) (c : Ckpt) : State :=
  let s1 := s.onLog fun l => { l with root := some (s.rootRecord c), rootImage := s.nextImage, ckpt := none }
  (s1.ckptFrees c.jposTarget).tryHalf

/-- Move a checkpoint on when its current phase is complete (R101): 1 map pages and tail, 2 GMD pages, 3 index pages,
4 root. -/
def State.ckptStep (s : State) : State :=
  match s.log.ckpt with
  | none => s
  | some c =>
    let tailDone := s.log.journal.all fun j => j.durable || decide (c.jposTarget < j.jpos) && j.record.type != 6
    if c.phase = 1 then
      if !s.streamIdle 60 then s
      else if !tailDone then State.flushTail (s.log.journal.length + 1) s
      else
        let pages := s.map.gmdDirty
        let s1 := s.onMap fun m => { m with gmdDirty := [] }
        let s2 := pages.foldl (fun s g =>
          s.placeSectors 60 [sysSector (mkPayload (gmdPageData s.gmdFlash g) (sysMeta (s.sched.nextOrder - 1) g 0 3).toNat 0)]) s1
        (s2.closeStripe 60).onLog fun l => { l with ckpt := some { c with phase := 2 } }
    else if c.phase = 2 then
      if !s.streamIdle 60 then s
      else
        let locs := s.gmdPages
        let pages := chunks 400 (locs.length / 400 + 2) locs
        let s1 := (if pages.isEmpty then [[]] else pages).foldl (fun s l =>
          s.placeSectors 61 [sysSector (mkPayload (indexPage c.number s.log.rootRclk s.reb.cursor l) (sysMeta (s.sched.nextOrder - 1) 0 0 5).toNat 0)]) s
        (s1.closeStripe 61).onLog fun l => { l with ckpt := some { c with phase := 3 } }
    else if c.phase = 3 then
      if s.streamIdle 61 then (s.issueRoot c).onLog fun l => { l with ckpt := some { c with phase := 4 } } else s
    else if 2 ≤ c.rootDone then s.ckptDurable c
    else s

/-! ### Strike (R103, R104, Table 4.8) -/

/-- The dirty host sectors of acknowledged commands, lowest WSEQ first as the buffers hold them (R104). -/
def State.ackedDirty (s : State) : List Payload :=
  let acked (e : BufSector) : Bool := mdKind e.payload == 0 && !e.mapped && (match s.cmd (mdWseq e.payload) with
    | some c => c.acked
    | none => true)
  (s.log.streams.flatMap Stream.held ++ s.log.stripes.flatMap fun e => e.2.sectors).filterMap fun e => if acked e then some e.payload else none

/-- What entering DRAINING does to the log: open stripes close and a checkpoint begins (R89, R102). -/
def State.drainLog (s : State) : State := if s.holder then s.closeAll.startCkpt else s

/-- A checkpoint begins a second after the last one began, where checkpoints run (R102). -/
def State.ckptAge (s : State) : State := if s.logRuns && decide (s.log.rootRclk + 1000 ≤ s.rclk) then s.startCkpt else s

/-- Strike's steps 1 and 2, and the first group-row of step 3 (R89, R104, Table 4.8): intake stops, host lanes close, open stripes close,
programs and erases in progress are given up by die reset and reads dropped, and the dirty sectors of acknowledged commands and the journal
tail are set out in group-rows of the strike half. -/
def State.beginStrike (s : State) : State :=
  if s.log.strike ≠ .idle ∨ !s.holder then s
  else
    let s1 := ((s.onSched fun x => { x with intakeStopped := true }).onFn fun f => { f with lanesOpen := false }).closeAll
    let resets := (List.range 48).flatMap fun b =>
      (((s1.port b).ops.filter fun e => e.2.code == 2 || e.2.code == 3).map fun e => (b, e.2.die)).eraseDups
    let s2 := (List.range 48).foldl (fun s b => s.onPort b fun p => { p with ops := tabKeep (fun _ o => !isDieOp o.code) p.ops }) s1
    let slots := s.log.journal.filter fun j => !j.durable
    let rows := strikeRowsOf s2.rowSectors (s.ackedDirty ++ (chunks 127 (slots.length / 127 + 1) slots).map journalPage)
    let rows1 := match rows with
      | r :: t => { r with records := slots.map (·.record) } :: t
      | [] => []
    (s2.onLog fun l =>
      { l with
        strike := .running, strikeRows := rows1, strikeResets := resets
        halfErased := if rows1.isEmpty then l.halfErased else putNth l.halfErased l.strikeHalf false }).strikeKick

/-! ### Reclaim (R97 to R100) -/

/-- Whether a unit may be chosen as a victim: closed, holding no open stripe and no stripe short of release, not the
patrol's or rebuild's unit (R97, "Reclaim meets rebuild"). -/
def State.victimOk (s : State) (u : Nat) (x : UnitRec) : Bool :=
  x.st == .closed && x.stream != 61 && !(s.reb.st != .idle && s.reb.st != .held && s.reb.unit == u)
    && !(s.log.stripes.any fun e => e.1 / 65536 % 2 ^ 20 == u && (e.2.st == .programming || e.2.st == .journaling))

/-- The live repair strips a unit holds: TYPE 4 entries of other units that still hold valid data (R169). -/
def State.stripsIn (s : State) (u : Nat) : List Loc :=
  s.reb.dirs.flatMap fun e =>
    if (s.unit e.1).valid = 0 then []
    else e.2.exceptions.filterMap fun x =>
      let l : Loc := BitVec.ofNat 40 x.arg
      if x.type = 4 ∧ s.locUnit l = some u then some l else none

/-- The valid sectors of a unit as reclaim counts them: each live repair strip counts as 16 (R97, R169). -/
def State.effValid (s : State) (u : Nat) : Nat :=
  let x := s.unit u
  if x.stream ≠ 59 then x.valid
  else (s.stripsIn u).foldl (fun n l =>
    n + 16 - ((List.range 16).filter fun k => match s.codeword (locAt l k) with
      | some p => s.mapNow (mdNs p) (mdLba p) == some (locAt l k)
      | none => false).length) x.valid

/-- Reclaim's score of a unit (R98), scaled: (1 − u) × a / (1 + u) with u = valid / sectors and a the frames since its
last stripe committed, limited to 2^32; a unit given the highest score comes first. -/
def State.score (s : State) (u : Nat) : Nat :=
  let x := s.unit u
  let v := s.effValid u
  if x.topScore then 2 ^ 100
  else (x.sectors - v) * min (2 ^ 32) (s.clk.frame - x.lastCommit) * 2 ^ 32 / (max 1 (x.sectors + v))

/-- A victim's blocks are erased once a durable checkpoint has passed the record that emptied it (R100, R169). -/
def State.eraseMay (s : State) (u : Nat) : Bool :=
  let x := s.unit u
  x.st == .victim && (x.stream == 61 || x.valid == 0) && (s.stripsIn u).isEmpty && (match s.log.root with
    | some r => decide (x.emptiedJpos ≤ r.jpos)
    | none => false)

/-- All erases of a unit have ended: it is free, its records and directory go, and its wear is taken again (R200). -/
def State.unitErased (s : State) (u : Nat) : State :=
  let block := s.unitBlock u
  let g := s.unitGroup u
  let wear := s.bays.foldl (fun a b => (List.range 16).foldl (fun a i =>
    let r := s.block b (16 * g + i) block
    if r.bad then a else max a r.pe) a) 0
  let s1 := s.onUnit u fun x => { UnitRec.blank with lastCommit := x.lastCommit }
  let s2 := s1.onReb fun r => { r with dirs := tabDel r.dirs u }
  let s3 := s2.onMed fun m => { m with unitHealth := tabUpd ⟨0, 0, 0⟩ m.unitHealth u fun h => { h with wear := wear } }
  (s3.onLog fun l => { l with validBay := tabKeep (fun k _ => k / 64 != u) l.validBay }).checkSpace

/-- One erase of a unit's block has ended. -/
def State.eraseStep (s : State) (u : Nat) : State :=
  let s1 := s.onUnit u fun x => { x with erasesLeft := x.erasesLeft - 1 }
  if (s1.unit u).st = .erasing ∧ (s1.unit u).erasesLeft = 0 then s1.unitErased u else s1

/-- Blocks condemned by repeated reconstruction become grown-bad when their unit is erased, and their erase is skipped (R203). -/
def State.growCondemned (s : State) (u : Nat) : State :=
  let hit (e : EraseBlock) : Bool := e.block == s.unitBlock u && e.die / 16 == s.unitGroup u
  (s.med.condemned.filter hit).foldl (fun (s : State) (e : EraseBlock) => s.growBad e.bay e.die e.block 4 0)
    (s.onMed fun m => { m with condemned := m.condemned.filter fun e => !hit e })

/-- Issue the erases of an erasing unit's blocks that are neither bad nor issued, on bays in service (R100, R203). -/
def State.issueErases (s0 : State) (u : Nat) : State :=
  let s := s0.growCondemned u
  let block := s.unitBlock u
  let g := s.unitGroup u
  let todo := s.bays.flatMap fun b => (List.range 16).map fun i => (b, 16 * g + i)
  let n := (todo.filter fun x => !(s.block x.1 x.2 block).bad && s.inService x.1 && !s.dieLost x.1 x.2)
  let s1 := n.foldl (fun s x =>
    match s.issue x.1 (s.mkOp 3 x.2 block false (.unitErase u)) 0 [] [] with
    | some t => t.onUnit u fun y => { y with erasesLeft := y.erasesLeft + 1 }
    | none => s.onPort x.1 fun p => { p with needErase := p.needErase ++ [⟨x.1, x.2, block⟩] }) s
  if (s1.unit u).erasesLeft = 0 then s1.unitErased u else s1

end Sys2Proof.Machine
end

