-- ==== Sys2Proof/Machine/PairOps.lean ====
section
/-! DEFINITION. Shared operations of the pair and of resets: lease messages, releasing and losing the lease, modules that
follow the lease, and what a loss of the main die leaves (chapters 9, 15, 16 and 21). -/

namespace Sys2Proof.Machine

/-! ### Lease messages (R362, R364, R367, R378, R395) -/

/-- The shelf declaration in force. -/
def State.decl (s : State) : Option ShelfDecl := s.fn.committed.map (·.decl)

/-- LEASE_MS in slots; the default of Table 15.4 without a declaration. -/
def State.leaseLen (s : State) : Nat := ms ((s.decl.map (·.leaseMs)).getD 40)

/-- HOLDER_GUARD in slots. -/
def State.holderGuard (s : State) : Nat := ms ((s.decl.map (·.holderGuard)).getD 2)

/-- TAKER_GUARD in slots. -/
def State.takerGuard (s : State) : Nat := ms ((s.decl.map (·.takerGuard)).getD 4)

/-- Whether REACH has bit n for bay `b` (R378). -/
def State.reaches (s : State) (b : Nat) : Bool :=
  (s.port b).up && ((s.port b).modSt == .ready || (s.port b).modSt == .fencing || (s.port b).modSt == .inService)

/-- A mask of bays. -/
def bayMask (p : Nat → Bool) : BitVec 64 := BitVec.ofNat 64 ((indices 48 p).foldl (fun a b => a + 2 ^ b) 0)

/-- REACH (Table 15.3). -/
def State.reach (s : State) : BitVec 64 := bayMask s.reaches

/-- CHAN: this controller's bay channels that are ON (Table 15.3). -/
def State.chanMask (s : State) : BitVec 64 := bayMask fun b => (s.chan b).st == .on

/-- A lease message of this controller (Table 15.3). -/
def State.mkLease (s : State) (type seq : Nat) (toPeer withdraw : Bool) : LeaseMsg :=
  { type := type, slot := s.boot.board.slot, pstate := pairCode s.pair.st, toPeer := toPeer, withdraw := withdraw
    leaseMs := (s.decl.map (·.leaseMs)).getD 40, fn := fnCode s.fn.st, term := s.pair.term, seq := seq, rclk := s.rclk
    reach := s.reach, chan := s.chanMask, reserved := 0, crcOk := true }

/-- Send a lease message on both shrouds: Shroud A lies in the peer link (R369). -/
def State.sendLease (s : State) (m : LeaseMsg) : State :=
  (if s.peerLink then s.emit (.lease .a m) else s).emit (.lease .b m)

/-! ### Modules follow the lease (R236, R246, Table 9.13) -/

/-- The lease is released or lost: modules in service are READY again, and those held unreachable with them. -/
def State.modulesBack (s : State) : State :=
  (List.range 48).foldl (fun s b =>
    if (s.port b).modSt = .inService ∨ (s.port b).modSt = .fencing ∨ (s.port b).modSt = .unreachable then s.setMod b .ready
    else s) s

/-- The epoch a taker chooses: one above the highest any module reports and the one it last wrote (R236). -/
def State.nextEpoch (s : State) : Nat := s.sheet.ports.foldl (fun a p => max a p.epochSeen) s.sheet.epoch + 1

/-- Send FENCE to every module in READY, at a new epoch (R236). -/
def State.fenceAll (s : State) : State :=
  let e := s.nextEpoch
  let s1 := s.onSheet fun x => { x with epoch := e }
  (List.range 48).foldl (fun s b => if (s.port b).modSt = .ready ∧ (s.port b).up then s.sendFence b else s) s1

/-! ### Taking, releasing and losing the lease (R360, R361, R367, R368, R375) -/

/-- Stop acting: intake takes no more commands; a running rebuild is held (Table 7.5). -/
def State.holdRebuild (s : State) : State :=
  s.onReb fun r =>
    { r with
      st := .held
      kept := if r.st = .held then r.kept else r.st
      unit := r.from_.1, index := r.from_.2
      batch := [], batchPhase := 0, batchNo := r.batchNo + 1 }

/-- STATUS to every port that is up; which modules answer is noted from here on (R375, step 1 of Table 15.7). -/
def State.statusAll (s : State) : State :=
  (List.range 48).foldl (fun s b => if (s.port b).up then (s.onPort b fun p => { p with answered := false }).ask b 4 0xFFF 0 else s) s

/-- Whether a STATUS is outstanding on a port that is up. -/
def State.statusOut (s : State) : Bool := s.sheet.ports.any fun p => p.up && p.ops.any fun e => e.2.code == 4

/-- Take the lease: TERM goes one above the highest seen, the lease is self-held, a RENEW goes out, and STATUS to every
port (R235, R367, R368, step 1 of Table 15.7). -/
def State.takeLease (s : State) (k : TakeKind) : State :=
  let s1 := s.onPair fun p =>
    { p with
      term := max p.term p.seenTerm + 1, seenTerm := max p.term p.seenTerm + 1, hold := .self, seq := p.seq + 1
      sent := [(p.seq + 1, s.now)], lastRenew := s.now, take := k, takeStep := 1 }
  let s2 := (s1.setPair .taking).onFn fun f => { f with lanesOpen := false }
  let s3 := s2.sendLease (s2.mkLease 1 s2.pair.seq false false)
  s3.statusAll

/-- The holder stops acting without releasing: it goes to LAPSED, and its modules to READY (Table 15.2, R374, R375). -/
def State.lapse (s : State) : State :=
  let t := if s.pair.hold = .granted then s.pair.expiry else s.now + s.leaseLen
  let s1 := s.onPair fun p =>
    { p with hold := .no, lapsedT := t, heardSince := false, sent := [], takeStep := 0 }
  ((s1.setPair .lapsed).modulesBack).holdRebuild

/-- Send RELEASE on both shrouds and hold the lease no longer (R367). -/
def State.release (s : State) (toPeer : Bool) : State :=
  let s1 := s.sendLease (s.mkLease 3 0 toPeer false)
  s1.onPair fun p => { p with hold := .no, releaseAt := s.now, sent := [] }

/-- Leave TAKING for INIT (Table 15.2). -/
def State.toInit (s : State) : State :=
  ((s.onPair fun p => { p with hold := .no, takeStep := 0, initSince := s.now, sent := [] }).setPair .init).modulesBack

/-- The lease is released because another port owns a module at an equal or higher epoch: programs stop, an event is
raised, and the holder lapses, a taker going back to INIT (R237, Table 15.2). -/
def State.staleLease (s : State) : State :=
  if !s.holder then s
  else
    let s1 := s.event 0x614 0x0A 1 0
    let was := s.pair.hold
    let s2 := s1.sendLease (s1.mkLease 3 0 false false)
    let s3 := s2.onPair fun p => { p with releaseAt := s.now, hold := was }
    if s.pair.st = .taking then s3.toInit else s3.lapse

/-- The cache without its lines and what was in progress on them; its settings stay (R110). -/
def TcSt.emptied (t : TcSt) : TcSt :=
  { t with lines := [], miss := [], wb := [], busy := false, range := [], lockNext := none, goMbx := none, pinQueue := [], queue := [] }

/-- Discard every command taken, without completion, and what was placed for them, with the map, the cache, the units and the directory, which
are the peer's from now on (R374, R375, Table 15.6). -/
def State.discardAll (s : State) : State :=
  let s1 := s.onSched fun x =>
    { x with cmds := [], overlap := [], work := [], inputs := List.replicate 18 [], staged := [], peerHeld := [] }
  let s2 := s1.onLog fun l =>
    { l with
      stripes := [], streams := l.streams.map fun x => { x with stripe := none, openUnit := none }, units := [], rows := [], sjPage := none
      sjWait := [], ckpt := none, journal := l.journal.filter (·.durable), waiting := [], mirrorBuf := [], sjPeer := [] }
  (((s2.onRd fun _ => RdSt.reset).onMap fun _ => MapSt.reset).onTc fun t => t.emptied).onReb fun r => { r with dirs := [] }

/-- Join: a controller that hears a holder (Table 15.2, R381). -/
def State.join (s : State) : State :=
  ((s.onPair fun p => { p with hold := .no, resync := 0, takeStep := 0 }).setPair .joining).modulesBack

/-! ### What a loss of the main die leaves (R463, Table 21.1) -/

/-- What the shelf holds of the write log: the root, the units, the durable journal, the stripe journal's module copies and
the strike areas. -/
def LogSt.stored (l : LogSt) : LogSt :=
  let j := l.journal.filter (·.durable)
  { LogSt.reset with
    streams := l.streams.map fun x => { x with stripe := none, openUnit := none, index := 0 }
    jposNext := (j.getLast?.map (·.jpos)).getD (l.jposNext - 1 - (l.journal.length - j.length)) + 1
    journal := j, chains := tabMap (fun _ c => { c with bound := false, next := c.lastDurable + 1 }) l.chains
    sjCopies := l.sjCopies, root := l.root, rootMoved := l.rootMoved, rootImage := l.rootImage, rootRclk := l.rootRclk, strikeHalf := l.strikeHalf
    halfErased := l.halfErased, halfUsed := l.halfUsed
    strike := if l.strike = .idle then .idle else if l.strike = .complete then .complete else .lost
    strikeRows := l.strikeRows.filter (·.headerOk) }

/-- A port after a reset of the main die: retirements stay latched (R243). -/
def Port.restarted (p : Port) (pres : Bool) : Port :=
  { Port.reset with
    st := if p.st = .retired then .retired else .off
    lane0 := { SheetLane.reset with retired := p.lane0.retired }
    lane1 := { SheetLane.reset with retired := p.lane1.retired }
    modSt := if p.latchedLost then .lost else if p.modSt = .foreign then .foreign else if pres then .powering else .absent
    serialOk := p.serialOk, needErase := p.needErase, erasedBack := p.erasedBack, latchedLost := p.latchedLost, returned := p.returned
    presentAtFormat := p.presentAtFormat }

/-- The main die loses its state: what a chip reset leaves of the controller (Table 21.1). Stored data, module epochs, the
SPI NOR, the Bay Power Die and the Crowsnest history stay; DRAM, counters, routing, the cache, queues and the pair state
go. -/
def State.dieReset (s : State) : State :=
  { s with
    clk := ⟨0, 0, s.now, 0, true⟩
    fn := Fn.reset
    sched := Sched.reset
    map := MapSt.reset
    tc := TcSt.reset
    log := s.log.stored
    reb := { s.reb with
      dirs := [], st := .held, kept := if s.reb.st = .held then s.reb.kept else s.reb.st, batch := [], batchPhase := 0, batchNo := s.reb.batchNo + 1, patrolGot := [], patrolSeen := [], patrolBad := [], patrolLate := []
      lostCw := [], retryHeld := false, rewrite := [] }
    med := { s.med with
      blocks := [], unitHealth := [], mgen := 0, records := [], dieRetired := [], probes := [], warns := [], capHour := [], reconCycle := [], condemned := [] }
    rd := RdSt.reset
    sheet := { s.sheet with
      ports := (List.range 48).map fun b => (s.port b).restarted (s.chan b).pres, epoch := 0, programsHeld := false }
    nvme := NvmeSt.reset
    rdma := RdmaSt.reset
    net := NetSt.reset
    cip := { s.cip with shelfKey := none, epochs := [], index := [], retFirst := [], drbgs := List.replicate 4 { Drbg.reset with lastOut := s.now }, withdrawn := [], rclkPs := 0, seals := [] }
    pair := { PairSt.reset with initSince := s.now }
    mgmt := MgmtSt.reset
    flt := { s.flt with
      cells := tabKeep (fun n _ => bpdNode n) s.flt.cells, concs := tabKeep (fun n _ => bpdNode n) s.flt.concs, bpdIf := false
      preserved := !s.flt.history.isEmpty, counts := [0, 0, 0, 0, 0], fenced := 0, summarised := 0
      summary := [], stopped := false, withdrawn := [], withdrawTimes := [], coreResets := [], dramPages := [] }
    pmc := PmcSt.reset
    boot := { s.boot with step := 4, running := 0, thermal := 0, aboveSince := 0, belowSince := 0, tripSince := none } }

/-- The main die loses power: the Crowsnest history goes too (R446); start-up will begin at step 3. The Bay Power Die keeps its own fault
words and its count of F stops, and a chip that it left stopped stays stopped until auxiliary power is removed (R19). -/
def State.diePowerOff (s : State) : State :=
  let t := s.dieReset
  { t with
    flt := { FltSt.reset with
      stopTimes := s.flt.stopTimes, stuck := s.flt.stuck, stopped := s.flt.stuck, cells := t.flt.cells, concs := t.flt.concs }
    boot := { t.boot with step := 3 } }

end Sys2Proof.Machine
end

