-- ==== Sys2Proof/Machine/PowerOps.lean ====
section
/-! DEFINITION. Shared operations of bay power: what a Sheet port and its module do when power or presence comes and goes, the
bay channels, the feed selector, hold-up and the main die's supply (chapters 9, 16 and 22). -/

namespace Sys2Proof.Machine

/-! ### A port that goes (R242, R245, R246, "Presence loss meets operations") -/

/-- One outstanding operation ends without a response: a read goes to reconstruction, an erase is kept for the module's
return; programs of stripes are handled with their members (R243, "Presence loss meets operations"). -/
def State.endOp (s : State) (b : Nat) (op : SheetOp) : State :=
  match op.user with
  | .read job => s.reconstruct job
  | .rowXor u row => s.rowWithoutXor u b row
  | .unitErase u => (s.onPort b fun p => { p with needErase := p.needErase ++ [⟨b, op.die, op.page⟩] }).eraseStep u
  | .sjPage => s.sjDone b false
  | .repair no slot =>
    let l := mkLoc b op.die op.page 0 0
    let s1 := match s.locUnit l with
      | some u => if s.bayLost b then s else s.rowWithoutXor u b (s.locRow l)
      | none => s
    if no ≠ s.reb.batchNo then s1 else s1.onReb fun r => { r with batch := modNth r.batch slot fun q => { q with reserved := false, programmed := false, bay := 0xFF } }
  | .strike => s.strikeRedo b op
  | .member _ _ | .firstErase _ | .root | .strikeErase _ | .other => s

/-- Every operation outstanding on a port ends at once. -/
def State.endOps (s : State) (b : Nat) : State :=
  let l := (s.port b).ops
  let s1 := s.onPort b fun p => { p with ops := [], replay := [], nakSent := false, ackDue := false }
  (l.foldl (fun s e => s.endOp b e.2) s1).membersOff b

/-- This controller's copies of the stripe journal wait no longer for a bay that left service (R157). -/
def State.sjOff (s : State) (b : Nat) : State :=
  (s.log.sjWait.filter fun p => p.waitBays.contains b).foldl (fun s _ => s.sjDone b false) s

/-- The port to bay `b` is OFF or RETIRED: its module's state follows (R242, Table 9.13). -/
def State.portGone (s : State) (b : Nat) : State :=
  let p := s.port b
  let s1 :=
    if s.holder then
      match p.modSt with
      | .inService | .fencing =>
        if (s.chan b).pres ∧ s.peerUp b then (s.setMod b .unreachable).onPort b fun p => { p with unreachSince := s.now }
        else s.loseModule b
      | .linking | .identify => if p.st = PortState.retired then s.loseModule b else s.setMod b .powering
      | .ready => if p.st = PortState.retired then s else s.setMod b .powering
      | .absent | .powering | .unreachable | .lost | .foreign => s
    else
      match p.modSt with
      | .linking | .identify | .ready | .inService | .fencing => if p.st = PortState.retired then s else s.setMod b .powering
      | .absent | .powering | .unreachable | .lost | .foreign => s
  ((s1.endOps b).sjOff b).checkSpace

/-- A port enters a state; the event of its bay carries it when the module's state changes. -/
def State.setPort (s : State) (b : Nat) (st : PortState) : State := s.onPort b fun p => { p with st := st }

/-- A port is retired: its event, and what its module does (R241, Table 9.11). -/
def State.retirePort (s : State) (b : Nat) : State :=
  if (s.port b).st = .retired then s else ((s.setPort b .retired).event (0x500 + b) 7 1 0).portGone b

/-- A port goes OFF: power good lost or presence absent; a RETIRED port stays (Table 9.11). -/
def State.portOff (s : State) (b : Nat) : State :=
  if (s.port b).st = .retired ∨ (s.port b).st = .off then s
  else
    (s.onPort b fun p =>
      { p with st := .off, attempts := 0, initRx := false, initSeen := false, seenSent := false }).portGone b

/-! ### Bay power as the controller sees it (R213, R245, R395) -/

/-- Whether a bay is powered: this controller's channel ON, or the peer's as it last reported it (R395). -/
def State.bayPowered (s : State) (b : Nat) : Bool := (s.chan b).st == .on || s.pair.peerChan.getLsbD b

/-- Whether a bay is declared, or no declaration is known yet (R471, R472). -/
def State.bayDeclared (s : State) (b : Nat) : Bool :=
  match s.decl with
  | some d => d.bayMask.getLsbD b
  | none => true

/-- The port and module of a bay follow its power: power good starts training, its loss turns the port off (Table 9.11). -/
def State.powerFollow (s : State) (b : Nat) : State :=
  if !s.awake ∨ s.boot.step < 9 then s
  else if (s.chan b).pres && s.bayPowered b then
    let s1 := if (s.port b).modSt = .powering ∧ s.bayDeclared b then s.setMod b .linking else s
    if (s1.port b).st = .off ∧ s.bayDeclared b then s1.onPort b fun p => { p with st := .training, attempts := 1 } else s1
  else s.portOff b

/-! ### Bay channels (R388 to R395, Tables 16.5 to 16.7) -/

/-- Code of a channel state (Table 16.6). -/
def chanCode : ChanState → Nat
  | .off => 0
  | .waitInsert => 1
  | .ramp => 2
  | .on => 3
  | .cooldown => 4
  | .latched => 5
  | .fetFault => 6

/-- A channel without power at its output keeps no module state: nothing runs in the module (R231, Table 9.6). -/
def State.modulePower (s : State) (b : Nat) : State :=
  if s.bayPowered b then s else s.onModule b fun m => { m with ops := [], dieFault := 0, power := 0 }

/-- A channel enters a state, with its event and what follows at the bay (Table 16.6, ES 0x540 + n). -/
def State.setChan (s : State) (b : Nat) (st : ChanState) : State :=
  let old := (s.chan b).st
  if old = st then s
  else
    let s1 := s.onChan b fun c =>
      { c with
        st := st, since := s.now, pg := decide (st = .on), ilimAct := c.ilimAct && (st == .ramp || st == .on)
        run := if st = .waitInsert then c.cfg else c.run }
    let s2 := s1.eventState (0x540 + b) (chanCode st) (chanCode old) 0 0
    if st = .on ∨ old = .on then (s2.powerFollow b).modulePower b else s2

/-- Whether the selector drives the bus from a feed. -/
def State.feedOn (s : State) : Bool := s.bpd.sel == .onA || s.bpd.sel == .onB

/-- A channel that may leave OFF does (Table 16.7): enabled, presence asserted, a feed selected. -/
def State.chanTry (s : State) (b : Nat) : State :=
  let c := s.chan b
  if c.st = .off ∧ c.enabled ∧ c.pres ∧ s.feedOn then s.setChan b .waitInsert else s

/-- A channel trips on a fault kind of Table 16.5 (R391): the gate goes off, TRIPS rises, an event and a fault word are
raised. -/
def State.trip (s : State) (b kind : Nat) : State :=
  let s1 := s.onChan b fun c => { c with lastFault := kind, trips := satAdd 255 c.trips 1, togglePend := false }
  let s2 := s1.setChan b .cooldown
  (s2.event (0x540 + b) 9 kind (s2.chan b).trips).raise (0x440 + b) classU 0x15 (2 ^ 36 * b + kind)

/-- A toggle of a channel (R391, R394): LATCHED and ON go to WAIT_INSERT, COOLDOWN records it. -/
def State.toggle (s : State) (b : Nat) : State :=
  match (s.chan b).st with
  | .cooldown => s.onChan b fun c => { c with togglePend := true }
  | .latched => s.setChan b .waitInsert
  | .on => (s.setChan b .off).chanTry b
  | .waitInsert | .ramp => (s.setChan b .off).chanTry b
  | .off | .fetFault => s

/-! ### The feed selector (R382 to R385, R393, R396, Table 16.3) -/

/-- Code of a selector state (Table 16.2). -/
def selCode : Selector → Nat
  | .init => 0
  | .onA => 1
  | .breakAB => 2
  | .onB => 3
  | .breakBA => 4
  | .holdup => 5
  | .down => 6

/-- The selector enters a state, with its event; Strike's arming follows hold-up good (R383, R387, ES 0x620). -/
def State.setSel (s : State) (x : Selector) : State :=
  if s.bpd.sel = x then s
  else
    let s1 := s.onBpd fun b =>
      { b with
        sel := x, switches := if x = .breakAB ∨ x = .breakBA then satAdd 255 b.switches 1 else b.switches
        onBSince := if x = .onB then s.now else b.onBSince }
    let s2 := (s1.eventState 0x620 (selCode x) (selCode s.bpd.sel) 0 0).checkStrike
    if x = .onA ∨ x = .onB then (List.range 48).foldl State.chanTry s2 else s2

/-- The selector enters HOLDUP: the Strike trigger is signalled; channels that are not ON, and are waiting or ramping, go OFF
(R393, R396). -/
def State.enterHoldup (s : State) : State :=
  let s1 := (s.setSel .holdup).onBpd fun b =>
    { b with strikeTrig := true, testBusy := false, testMbx := none }
  ((List.range 48).foldl (fun s b =>
    if (s.chan b).st = .waitInsert ∨ (s.chan b).st = .ramp then s.setChan b .off else s) s1).emit .strikeTrigger

/-- All channels and the main die's regulators are turned off, and the selector enters DOWN (R396, R397). `low` says the bus
fell below HOLD_MIN: fault kind 8 of Table 16.5. The main die stops with them and retires no module for it. -/
def State.goDown (s0 : State) (low : Bool) : State :=
  let s := s0.onBpd fun b => { b with mainReset := true }
  let s1 := (List.range 48).foldl (fun s b =>
    match (s.chan b).st with
    | .on => (if low then s.onChan b fun c => { c with lastFault := 8 } else s).setChan b .off
    | .waitInsert | .ramp => s.setChan b .off
    | .off | .cooldown | .latched | .fetFault => s) s
  let s2 := (s1.setSel .down).onBpd fun b =>
    { b with strikeTrig := false, mainOn := false, rails := 0, railAttempt := 0, mainReset := true, pwrFault := b.pwrFault && b.railsOff }
  s2.diePowerOff

/-- A selector with both paths off takes a feed as INIT gives (Table 16.3). -/
def State.selInit (s : State) : State :=
  if s.bpd.sel ≠ .init then s
  else if s.bpd.feedA.good then s.setSel .onA
  else if s.bpd.feedB.good then s.setSel .onB
  else s

/-- The path being left is off: the other feed is taken if it is in window, else HOLDUP (Table 16.3). -/
def State.pathOff (s : State) : State :=
  match s.bpd.sel with
  | .breakAB => if s.bpd.feedB.inWindow then s.setSel .onB else s.enterHoldup
  | .breakBA => if s.bpd.feedA.inWindow then s.setSel .onA else s.enterHoldup
  | .init | .onA | .onB | .holdup | .down => s

/-- Strike complete in HOLDUP: the lease holder sends RELEASE and its BPD turns everything off (R396, R398). -/
def State.strikeEnd (s : State) : State :=
  if s.log.strike = .complete ∧ s.bpd.sel = .holdup then ((if s.holder then s.release false else s).goDown false) else s

/-! ### The main die's supply (R479 to R481) -/

/-- A rail or the reference is lost in service: the main die resets and powers down; the sequence is tried again after 1 s
("Rail loss meets service", "Reference loss meets lease"). -/
def State.railLost (s : State) : State :=
  (s.onBpd fun b => { b with mainOn := false, rails := 0, railAttempt := 0, pwrFault := true, mainReset := true }).diePowerOff

/-! ### Heat (R483 to R485) -/

/-- The next level's entry threshold and the present level's exit threshold (Table 22.6). -/
def thermalEnter (level : Nat) : Int := if level = 0 then 108 else 113

/-- Below this the present level is left (Table 22.6). -/
def thermalLeave (level : Nat) : Int := if level = 2 then 108 else 103

/-- The junction has a new reading: the times since it passed each threshold (Table 22.6). -/
def State.junctionTimes (s : State) : State :=
  s.onBoot fun b =>
    { b with
      aboveSince := if b.thermal < 2 ∧ thermalEnter b.thermal ≤ b.junction then (if b.aboveSince = 0 then s.now + 1 else b.aboveSince) else 0
      belowSince := if 0 < b.thermal ∧ b.junction < thermalLeave b.thermal then (if b.belowSince = 0 then s.now + 1 else b.belowSince) else 0
      tripSince := if 120 ≤ b.junction then some (b.tripSince.getD s.now) else none
      tripHold := b.tripHold && decide (100 ≤ b.junction) }

end Sys2Proof.Machine
end

