-- ==== Sys2Proof/Machine/ReplayOps.lean ====
section
/-! DEFINITION. Replay: what is read back from the shelf after a restart or a takeover, the candidates and how they are applied,
the cipher epoch and the retention clock (chapters 4, 6, 14 and 15). -/

namespace Sys2Proof.Machine

/-! ### Reading the shelf -/

/-- A journal record from its 32 bytes (Table 4.7). -/
def JRec.ofNat (n : Nat) : JRec :=
  ⟨bits n 7 0, bits n 15 8, bits n 27 16, bits n 47 32, bits n 127 64, bits n 191 128, bits n 255 192⟩

/-- The records of a journal page with their positions, if its CRC checks (R94). -/
def journalRecs (p : Payload) : List (Nat × JRec) :=
  let d := (plData p).toNat
  let first := bits d 47 0
  let count := min 127 (bits d 95 64)
  if (crc32c (leBytes 12 (d % 2 ^ 96) ++ leBytes 4064 (d / 2 ^ 256))).toNat = bits d 127 96 then
    (List.range count).map fun i => (first + i, JRec.ofNat (d / 2 ^ (256 + 256 * i) % 2 ^ 256))
  else []

/-- A stripe journal record from its 128 bytes, if its CRC checks and its STATE is one of Table 6.8. -/
def SjRec.ofNat (n : Nat) : Option SjRec :=
  let kind := bits n 71 64
  if (crc32c (leBytes 124 (n % 2 ^ 992))).toNat = bits n 1023 992 ∧ 1 ≤ kind ∧ kind ≤ 4 then
    let roles := bits n 87 80
    some
      { stripe := bits n 63 0, kind := kind, stream := bits n 79 72, roles := roles, alt := decide (bits n 88 88 = 1)
        padded := decide (bits n 89 89 = 1), wseqMax := bits n 191 128
        members := (List.range roles).map fun i => BitVec.ofNat 40 (n / 2 ^ (192 + 40 * i)) }
  else none

/-- The records of the stripe journal page at a page set: its header's count, if the page's CRC checks (R158). -/
def State.sjPageAt (s : State) (l : Loc) : List SjRec :=
  let n := (List.range 4).foldl (fun a k => a + 2 ^ (32768 * k) * ((s.codeword (locAt l k)).elim 0 fun p => (plData p).toNat)) 0
  let count := min 127 (bits n 95 64)
  if (crc32c (leBytes 16384 (n - 2 ^ 992 * bits n 1023 992))).toNat = bits n 1023 992 then
    (List.range count).filterMap fun i => SjRec.ofNat (n / 2 ^ (1024 + 1024 * i) % 2 ^ 1024)
  else []

/-- Locations programmed on readable modules. -/
def State.written (s : State) : List (Loc × Payload) :=
  (s.sheet.media.map fun e => ((BitVec.ofNat 40 e.1 : Loc), e.2)).filter fun e => (s.port (locBay e.1)).up

/-- Every record of the stripe journal rings: die 1, system blocks from 2 on, of the JOURNAL and JALT bays (R156). -/
def State.shelfSj (s : State) : List SjRec :=
  let pages := (s.written.filter fun e =>
    (s.pl.journal.contains (locBay e.1) || s.pl.jalt.contains (locBay e.1)) && locDie e.1 == 1 && locCw e.1 == 0 && locPlane e.1 == 0
      && decide (2 * s.geo.ppb ≤ locPage e.1 ∧ locPage e.1 < s.pl.sysblk * s.geo.ppb)).map (·.1)
  (pages.flatMap s.sjPageAt).eraseDups

/-- The committed stripes the rings show: a COMMIT record and no ABANDON (R155, R157, R159). -/
def committedOf (l : List SjRec) : List SjRec :=
  l.filter fun r => r.kind == 2 && !(l.any fun x => x.kind == 3 && x.stripe == r.stripe)

/-- Unit, USE and INDEX of a stripe ID (Table 6.2). -/
def idUnit (id : Nat) : Nat := id / 65536 % 2 ^ 20
/-- USE of a stripe ID. -/
def idUse (id : Nat) : Nat := id / 2 ^ 36
/-- INDEX of a stripe ID. -/
def idIndex (id : Nat) : Nat := id % 65536

/-- The records of the rings that speak of a unit's present contents: of its latest USE, in the rings and in the directory; what earlier openings
left there has been erased (R142, R159). -/
def State.fresh (s : State) (l : List SjRec) : List SjRec :=
  l.filter fun r => (l.all fun x => idUnit x.stripe != idUnit r.stripe || decide (idUse x.stripe ≤ idUse r.stripe))
    && (match tabGet s.reb.dirs (idUnit r.stripe) with
      | some d => decide (d.use ≤ idUse r.stripe)
      | none => true)

/-- The codeword at a place, where it can be read (R160, R161). -/
def State.direct (s : State) (l : Loc) : Option Payload :=
  if (s.port (locBay l)).up ∧ !s.placeLost l then s.codeword l else none

/-- The member page sets of the stripe that holds a page set, with its role: by the rings' records, else by the unit directory (R150, R163). -/
def State.shelfStripe (s : State) (com : List SjRec) (l : Loc) : Option (List (Option Loc) × Nat) :=
  match com.findSome? fun r => (r.members.idxOf? (pageSet l)).map fun x => (r.members.map some, x) with
  | some x => some x
  | none => (s.stripeOf l).map fun x => ((List.range s.roles).map fun r => s.roleLoc x.1 x.2.1 r, x.2.2)

/-- One codeword of a stripe's role by cross-module parity (Table 6.6, Table 7.3). -/
def State.byParity (s : State) (members : List (Option Loc)) (role k : Nat) : Option Payload :=
  let get (x : Nat) : Option Payload := (nth members x none).bind fun l => s.direct (locAt l k)
  let roles := (List.range members.length).filter (· != role)
  solveRole s.pl.data (roles.filterMap fun x => (get x).map fun p => (x, p)) (role :: roles.filter fun x => (get x).isNone) role

/-- One codeword by its row's XOR (Table 6.6, Table 7.3). -/
def State.byRow (s : State) (l : Loc) : Option Payload :=
  (s.locUnit l).bind fun u =>
    let b := locBay l
    let row := s.locRow l
    let k := 4 * locPlane l + locCw l
    let sets := ((s.xorPage u b row :: s.rowPages u b row).filter fun x => locDie x != locDie l).map fun x =>
      if s.voidAt u b (locDie x) row || s.deadAt u x then some 0 else s.direct (locAt x k)
    if s.rowInvalid u b row || !sets.all Option.isSome then none else some (xorAll (sets.filterMap id))

/-- A codeword of the shelf that satisfies `ok`: as it stands, else reconstructed (R74, R77, R92, R165). -/
def State.shelfAt (s : State) (com : List SjRec) (ok : Payload → Bool) (l : Loc) : Option Payload :=
  let try_ (p : Option Payload) : Option Payload := p.bind fun x => if ok x then some x else none
  match try_ (s.direct l) with
  | some p => some p
  | none => match try_ (s.byRow l) with
    | some p => some p
    | none => try_ ((s.shelfStripe com l).bind fun x => s.byParity x.1 x.2 (4 * locPlane l + locCw l))

/-- Whether a codeword's CRC checks (R92). -/
def crcOk (p : Payload) : Bool := mdCrc p == plCrc p

/-- The codeword at data position `i` of a committed stripe, by parity where its member cannot be read (R92, R165). -/
def State.shelfCw (s : State) (com : List SjRec) (r : SjRec) (i : Nat) : Option Payload :=
  (r.members[i / 16]?).bind fun l => s.shelfAt com crcOk (locAt l (i % 16))

/-- The place of data position `i` of a stripe (R140). -/
def sjLoc (r : SjRec) (i : Nat) : Loc :=
  match r.members[i / 16]? with
  | some l => locAt l (i % 16)
  | none => eUnmapped

/-- The sectors of committed stripes: stripe ID, position, place and payload. -/
def State.stripeCws (s : State) (com : List SjRec) : List (Nat × Nat × Loc × Payload) :=
  com.flatMap fun r => (List.range (16 * s.pl.data)).filterMap fun i => (s.shelfCw com r i).map fun p => (r.stripe, i, sjLoc r i, p)

/-- The root records on the shelf that two copies hold, with the places of their index pages: the one of the highest number (R101,
R106). -/
def State.shelfRoot (s : State) : Option (Root × List Loc) :=
  let found := (s.written.filter fun e =>
    locDie e.1 == 0 && locCw e.1 == 0 && locPlane e.1 == 0
      && decide (2 * s.geo.ppb ≤ locPage e.1 ∧ locPage e.1 < 4 * s.geo.ppb)).filterMap fun e => rootOf (plData e.2)
  (found.filter fun r => decide (2 ≤ (found.filter fun x => x.1.number == r.1.number).length)).foldl (fun b r => match b with
    | some x => if x.1.number < r.1.number then some r else b
    | none => some r) none

/-- The index pages of a root: the places of all GMD pages, the RCLK sample and the rebuild cursor they give (R101, R173, R352). -/
def State.shelfIndex (s : State) (com : List SjRec) (index : List Loc) : Tab Loc × Nat × Option RebCursor :=
  index.foldl (fun a l => match s.shelfAt com (fun p => crcOk p && mdKind p == 5) l with
    | some p => ((indexEntries (plData p)).foldl (fun t e => tabPut t e.1 e.2) a.1, bits (plData p).toNat 127 64,
        some (RebCursor.ofNat ((plData p).toNat / 2 ^ 256 % 2 ^ 256)))
    | none => a) ([], 0, none)

/-- Load the GMD from its pages, reconstructed where they cannot be read: map pages stay in flash (R106). -/
def State.loadGmd (s : State) (com : List SjRec) (pages : Tab Loc) : State :=
  let entries := pages.flatMap fun e => match s.shelfAt com (fun p => crcOk p && mdKind p == 3) e.2 with
    | some p => gmdPageEntries e.1 (plData p)
    | none => []
  s.onMap fun m =>
    { m with gmd := entries.foldl (fun t e => tabPut t e.1 { GmdEntry.blank with loc := e.2, empty := false }) [], pool := [], nextSlot := 0 }

/-- Whether a codeword holds a readable copy of a map page (R74, R77, R92). -/
def pageCopy (mpn : Nat) (p : Payload) : Bool := crcOk p && mapPageOk mpn (plData p)

/-- Bring a map page into the pool at once: from its flash copy, reconstructed if need be, or poisoned where that fails (R74, R76, R77,
R176). -/
def State.loadPage (s : State) (com : List SjRec) (mpn : Nat) : State :=
  let g := s.gmd mpn
  if g.resident then s
  else if g.empty then (s.blankPage mpn).2
  else match s.shelfAt com (pageCopy mpn) g.loc with
    | some p => (s.installPage mpn g.loc (mapPageJpos (plData p)) (mapPageEntries (plData p))).2
    | none => s.poisonPage mpn

/-! ### The system ranges (R164, R168, R173, R176, R196) -/

/-- The pages of the system ranges that the GMD names and that can be read, and those that cannot. -/
def State.sysPages (s : State) (com : List SjRec) : Tab Nat × List Nat :=
  let l := (s.map.gmd.filter fun e => s.sysPage e.1 && !e.2.empty).map fun e =>
    (e.1, (s.shelfAt com (fun p => crcOk p && sysPageOk e.1 (plData p)) e.2.loc).map fun p => bodyOf (plData p))
  (l.filterMap fun e => e.2.map fun b => (e.1, b), (l.filter fun e => e.2.isNone).map (·.1))

/-- The unit directory, the media records, the key slots, the cipher epochs and the retention indexes are taken from their pages; a page that cannot
be reconstructed gives no records, with a U fault (R164, R176, R196, R345, R354). -/
def State.loadSys (s : State) (com : List SjRec) : State :=
  let r := s.sysPages com
  let s1 := (s.onMap fun m => { m with sysSent := r.1 }).onReb fun x => { x with dirs := s.dirsFrom r.1 }
  r.2.foldl (fun (s : State) mpn => s.raise (0x118 + tcSet (68 * mpn) % 4) classU 0x17 (addrLoc (locBay (s.gmd mpn).loc) (s.gmd mpn).loc))
    (((s1.mediaFrom r.1).keysFrom r.1).retFrom r.1).lossFromMedia

/-- Apply the type 6 records of system pages ahead of the others, so that the directory is known when those are applied. -/
def State.sysPlaces (s : State) (recs : List JRec) : State :=
  recs.foldl (fun s r =>
    if r.type = 6 ∧ r.lba < 2 ^ 63 ∧ s.sysPage r.lba then s.onGmd r.lba fun g => { g with loc := BitVec.ofNat 40 r.arg, empty := false } else s) s

/-- TYPE 4 entries of a directory, with their unit. -/
def stripEntries (t : Tab UnitDir) : List (Nat × ExcEntry) :=
  t.flatMap fun e => (e.2.exceptions.filter fun x => x.type == 4).map fun x => (e.1, x)

/-- Rebuild resumes at the cursor of the last durable checkpoint, its counts carried on; repair strips whose TYPE 4 entries were made after that
checkpoint (`old` the directory it holds) are counted as written. With members lost and no state to resume, JOURNAL is due (R172, R173;
DEDUCED, log 48). -/
def State.resumeCursor (s : State) (cur : Option RebCursor) (old : Tab UnitDir) : State :=
  let c := cur.getD ⟨.idle, 0, 0, 0, 0⟩
  let more := ((stripEntries s.reb.dirs).filter fun x => !(stripEntries old).contains x).length
  let st := if c.st = .idle ∧ !s.reb.loss.isEmpty then RebuildState.journal else c.st
  s.onReb fun r =>
    { r with
      st := .held, kept := st, unit := if st = c.st then c.unit else 0, index := if st = c.st then c.index else 0
      repaired := c.repaired + (if c.st = .idle then 0 else more), poisonedCount := c.poisoned }

/-- READS of a block lost since the last checkpoint count as RD_LIMIT / 16, unless its record shows more; blocks of the system area carry SLC
(R196, Table 8.6). -/
def State.restoreReads (s : State) : State :=
  let known := s.med.blocks.map (·.1)
  let programmed := (s.written.map fun e => blockKey (locBay e.1) (locDie e.1) (s.locBlock e.1)).eraseDups.filter fun k => !known.contains k
  (known ++ programmed).foldl (fun (s : State) k =>
    match s.desc (k / 16384 / 128) with
    | some d => s.onMed fun m => { m with blocks := tabUpd BlockRec.blank m.blocks k fun r =>
        { r with reads := max r.reads (d.rdLimit / 16), slc := r.slc || decide (k % 16384 < s.pl.sysblk) } }
    | none => s) s

/-! ### The directory from the rings (R142, R143, R162, R164) -/

/-- Whether a stripe's members are those of a pattern after R147: each role on its bay or on one of the alternates. -/
def fitsPattern (alt : Bool) (bays : List Nat) (p : Pattern) : Bool :=
  (List.range bays.length).all fun r =>
    let b := nth bays r 0xFF
    b == nth p.members r 0xFE || (alt && (b == p.alt0 || (p.alt1 != 0xFF && b == p.alt1)))

/-- The first pattern at or after `from_` that a stripe's members fit: how many are skipped. -/
def State.matchPattern (s : State) (from_ : Nat) (r : SjRec) : Option Nat :=
  (List.range s.pl.table.length).find? fun j => match s.pl.table[(from_ + j) % (max 1 s.pl.table.length)]? with
    | some p => fitsPattern r.alt (r.members.map locBay) p
    | none => false

/-- The pattern that follows the last stripe of a unit's directory. -/
def State.nextPattern (s : State) (d : UnitDir) : Nat := (d.start + d.stripes + skipOf d d.stripes) % (max 1 s.pl.table.length)

/-- A stream's pattern counter is set so that its next stripe takes pattern `p` (R143). -/
def State.setCounter (s : State) (k p : Nat) : State :=
  let l := max 1 s.pl.table.length
  s.onStream k fun x => { x with counter := (p + l * 64 - k * (s.pl.table.length / 64)) % l }

/-- TYPE 1 entries for the roles that a record shows on another bay than the directory gives (R147, R164). -/
def State.notedRoles (s : State) (u i : Nat) (r : SjRec) : State :=
  (List.range r.members.length).foldl (fun s x =>
    match tabGet s.reb.dirs u with
    | some d =>
      let b := locBay (nth r.members x 0)
      if nth (s.stripeBays d i) x 0xFF = b then s else s.addExc u ⟨i, 1, x, b, 0, 0⟩
    | none => s) s

/-- One stripe journal record brings the directory up to date: a stripe not yet there is matched to the first pattern at or after its expected
one, with a TYPE 2 entry for those skipped; TYPE 1 for moved roles; TYPE 3 for ABANDON; a unit opened since has a new record, at the pattern
its stream's next stripe was expected to take (R142, R164). -/
def State.noteStripe (s : State) (r : SjRec) : State :=
  let u := idUnit r.stripe
  let i := idIndex r.stripe
  let use := idUse r.stripe
  let s1 := s.onMed fun m => { m with unitHealth := tabUpd ⟨0, 0, 0⟩ m.unitHealth u fun h => if use < h.opens then h else { h with opens := use + 1, mgenOpen := m.mgen } }
  let known : Bool := match tabGet s.reb.dirs u with
    | some d => decide (use ≤ d.use)
    | none => false
  let stale : Bool := match tabGet s.reb.dirs u with
    | some d => decide (use < d.use)
    | none => false
  if stale ∨ s.pl.table.isEmpty then s
  else
    let s2 := if known then s1 else
      let e := s1.patternNo r.stream 0
      let p := e + (s1.matchPattern e r).getD 0
      s1.onReb fun x => { x with dirs := tabPut x.dirs u ⟨use, r.stream, if i = 0 then e else (p + s.pl.table.length * 65536 - i) % s.pl.table.length, 0, []⟩ }
    match tabGet s2.reb.dirs u with
    | none => s2
    | some d =>
      let s3 :=
        if i < d.stripes then s2
        else
          let j := (s2.matchPattern (d.start + i + skipOf d i) r).getD 0
          let t := if j = 0 then s2 else s2.addExc u ⟨i, 2, 0xFF, 0xFF, j, 0⟩
          (t.onReb fun x => { x with dirs := tabMod x.dirs u fun d => { d with stripes := i + 1 } })
      let s4 := if i < d.stripes then s3 else match tabGet s3.reb.dirs u with
        | some d => s3.setCounter r.stream (s3.nextPattern d)
        | none => s3
      let s5 := s4.notedRoles u i r
      if r.kind = 3 ∧ !(abandonedIn d i) then s5.addExc u ⟨i, 3, 0xFF, 0xFF, 0, 0⟩ else s5

/-- The rings' records bring the directory up to date, in the order their stripes were placed in (R142, R143, R164). -/
def State.noteStripes (s : State) (sj : List SjRec) : State :=
  (sortBy (fun (r : SjRec) => idIndex r.stripe + 65536 * r.wseqMax) (sj.filter fun r => r.kind != 4)).foldl State.noteStripe s

/-- Whether the blocks of a unit on a returned bay still hold what they held before (R161, R243). -/
def State.unitBack (s : State) (u b : Nat) : Bool :=
  (s.port b).returned && !((s.port b).erasedBack.any fun e => e.block == s.unitBlock u && e.die / 16 == s.unitGroup u)

/-- The first position of a bay in a unit, from `n` on, whose page set is not programmed. -/
def State.pastProgrammed (s : State) (u b : Nat) : Nat → Nat → Nat
  | 0, n => n
  | fuel + 1, n => match s.posPage u b n with
    | some l => if (s.codeword l).isSome then State.pastProgrammed s u b fuel (n + 1) else n
    | none => n

/-- Positions of a bay in a unit that its directory accounts for (R163). -/
def State.positionsTaken (s : State) (d : UnitDir) (b : Nat) : Nat :=
  ((List.range d.stripes).filter fun j => (s.stripeBays d j).contains b).length + (d.exceptions.filter fun e => e.type == 5 && e.bay == b).length

/-- Whether a unit holds programmed page sets past those its directory accounts for: stripes cut short, whose pages are never used (R159). -/
def State.torn (s : State) (u : Nat) (d : UnitDir) : Bool :=
  s.bays.any fun b => !s.unitBack u b && (match s.posPage u b (s.positionsTaken d b) with
    | some l => (s.codeword l).isSome
    | none => false)

/-- A unit's record by its directory: its positions taken, its stream and use; it counts as closed (R137, R138). -/
def State.adoptUnit (s : State) (u : Nat) (d : UnitDir) : State :=
  let l := (s.bays.filter fun b => !s.bayLost b && !s.unitBack u b).map fun b =>
    (b, s.pastProgrammed u b (16 * s.geo.ppb) (s.positionsTaken d b))
  s.onUnit u fun x =>
    { UnitRec.blank with
      st := .closed, use := d.use, stream := d.stream, sectors := d.stripes * s.stripeSectors, lastCommit := x.lastCommit, topScore := x.topScore
      emptiedJpos := s.log.jposNext - 1, nextPos := l }

/-- A stream goes on where it stood: its counter and, where its next stripe still finds a position on every member, its open unit, by its
highest stripe ID (R138, R143). A unit with stripes cut short takes no further stripe (DEDUCED, log 48: R163 counts positions by stripes). -/
def State.adoptStream (s : State) (k : Nat) : State :=
  let mine := s.reb.dirs.filter fun e => e.2.stream == k && e.2.stripes != 0
  match mine.foldl (fun (b : Option (Nat × UnitDir)) e => match b with
    | some x => if stripeId x.2.stripes x.1 x.2.use < stripeId e.2.stripes e.1 e.2.use then some e else b
    | none => some e) none with
  | none => s
  | some (u, d) =>
    let s1 := s.setCounter k (s.nextPattern d)
    let goes : Bool := match s1.members k u with
      | some m => m.2.all Option.isSome
      | none => false
    if goes && !s.torn u d then
      (s1.onUnit u fun x => { x with st := .opened }).onStream k fun x => { x with openUnit := some u, index := d.stripes }
    else s1

/-- The reclaim units and the streams follow the unit directory (R137, R138, R143). -/
def State.adoptUnits (s : State) : State :=
  let s1 := s.onLog fun l => { l with units := [], streams := l.streams.map fun x => { x with openUnit := none, index := 0 } }
  (List.range 62).foldl State.adoptStream (s.reb.dirs.foldl (fun (s : State) e => s.adoptUnit e.1 e.2)
    (s1.onLog fun l => { l with units := (s.log.units.filter fun e => (tabGet s.reb.dirs e.1).isSome).map fun e =>
      (e.1, { UnitRec.blank with lastCommit := e.2.lastCommit, topScore := e.2.topScore }) }))

/-! ### Candidates (R96, R106, R107) -/

/-- A candidate host sector: its payload, and where it lies in a committed stripe: with the stripe and position, or without where the stripe is
not known; a sector of the strike area or of a mirrored buffer lies nowhere. -/
structure Cand where
  payload : Payload
  place : Option (Option (Nat × Nat) × Loc)
  stream : Nat
  deriving DecidableEq, Repr

/-- The R49 unit a sector belongs to: its WSEQ, namespace and the LBA of CMD_INDEX 0. -/
def candUnit (p : Payload) : Nat × Nat × Nat := (mdWseq p, mdNs p, mdLba p - mdIndex p)

/-- Whether every sector of a candidate's unit is among the candidates (R106). -/
def wholeUnit (l : List Cand) (p : Payload) : Bool :=
  (List.range (mdLast p + 1)).all fun i => l.any fun c => candUnit c.payload == candUnit p && mdIndex c.payload == i

/-- Whether a durable Deallocate or Write Zeroes of a higher WSEQ covers a sector (R106). -/
def coveredBy (recs : List JRec) (p : Payload) : Bool :=
  recs.any fun r => (r.type == 3 || r.type == 4) && r.ns == mdNs p && decide (mdWseq p < r.wseq) && meets (mdLba p) 1 r.lba r.arg

/-- The highest counter from `n` on up to which every one satisfies `ok`. -/
def keptTo (ok : Nat → Bool) : Nat → Nat → Nat
  | 0, n => n
  | fuel + 1, n => if ok (n + 1) then keptTo ok fuel (n + 1) else n

/-- The last counter kept of chain (`ns`, `ch`), whose last durable counter was `last` (R96): `recs` all the type 7 records seen, `cands` the whole
candidates, `mapped` the order numbers with a durable type 1 record. A write is kept while it is mapped or whole and has its commit record; one
of a counter up to `last` of which nothing is seen had both before the last checkpoint (DEDUCED, log 48). -/
def chainKept (recs : List JRec) (cands : List Cand) (mapped : Nat → Bool) (last ns ch : Nat) : Nat :=
  let seven := recs.filter fun r => r.type == 7 && r.ns == ns && r.pos == ch
  let all := (seven.map (·.arg)) ++ (cands.filter fun c => mdLedger c.payload && mdNs c.payload == ns && mdChain c.payload == ch).map fun c => mdCount c.payload
  let low := all.foldl min (last + 1)
  let ok (n : Nat) : Bool := match seven.filter fun r => r.arg == n with
    | [] => decide (n ≤ last)
    | l => l.any fun r => mapped r.wseq || cands.any fun c => mdWseq c.payload == r.wseq && mdLedger c.payload
  keptTo ok (all.length + (last + 1 - low)) (low - 1)

/-- The Ledger chains among records and candidates. -/
def chainsOf (recs : List JRec) (cands : List Cand) : List (Nat × Nat) :=
  ((recs.filter fun r => r.type == 7).map (fun r => (r.ns, r.pos))
    ++ (cands.filter fun c => mdLedger c.payload).map fun c => (mdNs c.payload, mdChain c.payload)).eraseDups

/-- The chains go on after the last counter kept (R95, R96). -/
def State.chainsKept (s : State) (l : List (Nat × Nat)) (keep : Nat → Nat → Nat) : State :=
  l.foldl (fun s x => s.onLog fun g =>
    { g with chains := tabUpd ⟨x.1, x.2, 1, 0, 0, false⟩ g.chains (chainKey x.1 x.2) fun c => { c with lastDurable := keep x.1 x.2, next := keep x.1 x.2 + 1 } }) s

/-- Set one entry in replay, unless its page already includes the record (R106). -/
def State.replaySet (s : State) (com : List SjRec) (ns lba : Nat) (e : MapEntry) (jpos : Nat) : State :=
  let mpn := s.mpnOf ns lba
  let t := s.loadPage com mpn
  match t.slotOf mpn with
  | none => t
  | some p => if jpos ≤ p.jpos then t else t.putEntry ns lba e

/-- The place of a stripe's position: its repair strip, else by the rings or by its unit's directory (R163). -/
def State.placeOf (s : State) (sj : List SjRec) (id pos : Nat) : MapEntry :=
  match s.repairStrip (idUnit id) (idIndex id) (pos / 16) with
  | some l => locAt l (pos % 16)
  | none => match sj.find? fun r => r.stripe == id with
    | some r => sjLoc r pos
    | none => match s.roleLoc (idUnit id) (idIndex id) (pos / 16) with
      | some l => locAt l (pos % 16)
      | none => ePoisoned

/-- Apply one journal record in replay (Table 4.7, R106). -/
def State.replayRec (s : State) (sj : List SjRec) (jpos : Nat) (r : JRec) : State :=
  let stamp (s : State) (ns lba : Nat) : State := s.onSlot (s.mpnOf ns lba) fun p => { p with jpos := max p.jpos jpos }
  let run (s : State) (n : Nat) (f : Nat → MapEntry) : State :=
    let t := (List.range n).foldl (fun s i => s.replaySet sj r.ns (r.lba + i) (f i) jpos) s
    (List.range n).foldl (fun s i => stamp s r.ns (r.lba + i)) t
  if r.type = 1 ∨ r.type = 2 then
    let t := run s (r.count + 1) fun i => s.placeOf sj r.arg (r.pos + i)
    if r.type = 1 then t.retCount r.ns r.wseq (r.count + 1) else t
  else if r.type = 3 then run s r.arg fun _ => eUnmapped
  else if r.type = 4 then (run s r.arg fun _ => eZeroes).retCount r.ns r.wseq r.arg
  else if r.type = 5 then run s (r.count + 1) fun _ => ePoisoned
  else if r.type = 6 then
    if r.lba < 2 ^ 63 then
      (s.onSlot r.lba fun p => { p with loc := BitVec.ofNat 40 r.arg }).onGmd r.lba fun g => { g with loc := BitVec.ofNat 40 r.arg, empty := false }
    else s
  else if r.type = 7 then
    s.onLog fun l => { l with chains := tabUpd ⟨r.ns, r.pos, 1, 0, 0, false⟩ l.chains (chainKey r.ns r.pos) fun c =>
      { c with lastDurable := max c.lastDurable r.arg, next := max c.next (r.arg + 1) } }
  else s

/-- Durable records: those with JPOS after the root's, in order, up to the first one missing (R93, R106). -/
def durableRun : Nat → List (Nat × JRec) → List (Nat × JRec)
  | _, [] => []
  | j, (k, r) :: t => if k = j + 1 then (k, r) :: durableRun k t else if k ≤ j then durableRun j t else []

/-! ### Counts that follow the map -/

/-- The entries of a map page, resident or in flash, reconstructed if need be (R77). -/
def State.pageNow (s : State) (com : List SjRec) (mpn : Nat) : Tab MapEntry :=
  match s.slotOf mpn with
  | some p => p.entries
  | none => if (s.gmd mpn).empty then [] else match s.shelfAt com (pageCopy mpn) (s.gmd mpn).loc with
    | some p => mapPageEntries (plData p)
    | none => []

/-- Take the valid counts, the namespaces' use, the poison counts and the key slots' SECTORS again from the whole map (R97, R256, R345). -/
def State.recount (s : State) (com : List SjRec) : State :=
  let pages := s.map.gmd.map (·.1)
  let ents := pages.flatMap fun m => (s.pageNow com m).filterMap fun e => (s.ownerOf m e.1).map fun o => (o, e.2)
  let s1 := s.onLog fun l => { l with units := tabMap (fun _ u => { u with valid := 0 }) l.units, validBay := [] }
  let s2 := s1.onMap fun m => { m with nus := [], poisoned := [], poisonLbas := [] }
  let s3 := s2.onCip fun c => { c with slots := tabMap (fun _ k => { k with sectors := 0 }) c.slots }
  let s4 := ents.foldl (fun s x =>
    let t := s.onMap fun m =>
      { m with
        nus := tabUpd 0 m.nus x.1.1 (· + 1)
        poisoned := if x.2 = ePoisoned then tabUpd 0 m.poisoned x.1.1 (· + 1) else m.poisoned
        poisonLbas := if x.2 = ePoisoned then m.poisonLbas ++ [x.1] else m.poisonLbas }
    t.countLoc x.2 true (t.keyOfLoc x.2)) s3
  let s5 := pages.foldl (fun s m => match s.slotOf m with
    | some p => s.countLoc p.loc true none
    | none => s.countLoc (s.gmd m).loc true none) s4
  s5.gmdPages.foldl (fun s e => s.countLoc e.2 true none) s5

/-- Units that hold programmed pages and are not known to be open or closed count as closed, of their directory's stream; their pages are not
programmed again, and a checkpoint must come before they are erased (R100). -/
def State.closeUnknown (s : State) : State :=
  let used := (s.sheet.media.filterMap fun e => s.locUnit (BitVec.ofNat 40 e.1)).eraseDups
  used.foldl (fun s u => if (s.unit u).st = .free ∨ (s.unit u).st = .erasing then s.onUnit u fun x =>
    { x with st := .closed, emptiedJpos := s.log.jposNext - 1 } else s) s

/-- A page set of a row as it can be read, or recovered by the cross-module round when its stripe is committed (R135, Table 7.3). -/
def State.rowSet (s : State) (com : List SjRec) (u : Nat) (l : Loc) : List (Option Payload) :=
  (List.range 16).map fun k =>
    if s.voidAt u (locBay l) (locDie l) (s.locRow l) || s.deadAt u l then some 0
    else match s.direct (locAt l k) with
      | some p => some p
      | none => (s.shelfStripe com l).bind fun x => s.byParity x.1 x.2 k

/-- The accumulator of a row whose XOR page set is not programmed, from the row's programmed positions; a row with a taken position
that can be neither read nor recovered has no valid XOR page set (R135). -/
def State.rebuildRow (s : State) (com : List SjRec) (u b row taken : Nat) : State :=
  let sets := ((s.rowPages u b row).take taken).map (s.rowSet com u)
  if sets.all fun x => x.all Option.isSome then
    let acc : RowAcc := ⟨taken, (List.range 16).map fun k => xorAll (sets.map fun x => (nth x k none).getD 0)⟩
    s.onLog fun l => { l with rows := tabPut l.rows (rowKey u b row) acc }
  else
    (s.onLog fun l => { l with rows := tabPut l.rows (rowKey u b row) ⟨taken, List.replicate 16 0⟩ }).rowWithoutXor u b row

/-- Rebuild the open rows' accumulators after a restart or a takeover (R135). -/
def State.rebuildRows (s : State) (com : List SjRec) : State :=
  (s.log.units.filter fun e => e.2.st == .opened || e.2.st == .closed).foldl (fun s e =>
    e.2.nextPos.foldl (fun s x =>
      let u := e.1
      let b := x.1
      let w := s.groupDies b (s.unitGroup u) (s.mgenOpen u)
      let k := w.length - 1
      (List.range s.geo.ppb).foldl (fun s row =>
        let taken := min k (x.2 - row * k)
        if row * k < x.2 ∧ (s.codeword (s.xorPage u b row)).isNone ∧ !s.rowInvalid u b row then s.rebuildRow com u b row taken else s) s) s) s

/-! ### The cipher epoch and the retention clock (R341, R352, R356) -/

/-- A new cipher epoch begins at the next order number, with its event; a full table begins none (R341). -/
def State.newEpoch (s : State) : State :=
  if s.cip.epochs.length < 1048576 then
    let e := (s.cip.epochs.foldl (fun a x => max a x.1) 0) + 1
    (s.onCip fun c => { c with epochs := c.epochs ++ [(e, s.sched.nextOrder)] }).event 0x630 8 1 e
  else s.event 0x630 0x0A 2 0

/-- RCLK after a replay: the greater of the local value and the checkpoint's sample, plus 1,002 ms (R352). -/
def State.restoreRclk (s : State) (sample : Nat) : State :=
  s.onCip fun c => { c with rclkPs := max c.rclkPs (sample * 10 ^ 9) + 1002 * 10 ^ 9 }

/-- Each Retention namespace's index takes an entry of the minute then current after a replay (R356). -/
def State.retRestart (s : State) (high : Nat) : State :=
  match s.fn.committed with
  | none => s
  | some i => (i.ns.entries.filter fun e => e.2.present && e.2.nsType == 2).foldl (fun s e =>
      s.onCip fun c =>
        { c with index := tabUpd [] c.index e.1 fun l => (l.filter fun x => decide (x.firstWseq ≤ high)) ++ [⟨s.rclkMin, 0, high + 1⟩] }) s

/-! ### The strike areas (R103, R398) -/

/-- Programmed codewords of a strike half on readable modules. -/
def State.halfWritten (s : State) (h : Nat) : List (Loc × Payload) :=
  s.written.filter fun e => locPage e.1 / (max 1 s.geo.ppb) == h

/-- The group-rows of a strike half that have a readable header: their page indexes. -/
def State.strikeHeads (s : State) (h : Nat) : List Nat :=
  (((s.halfWritten h).filter fun e => s.locRow e.1 % 2 == 1 && mdKind e.2 == 6 && crcOk e.2).map fun e => s.strikeIdx e.1).eraseDups

/-- Sectors of the group-rows with a header in a strike half: host sectors and journal pages. -/
def State.strikeCws (s : State) (h : Nat) : List Payload :=
  let rows := s.strikeHeads h
  ((s.halfWritten h).filter fun e => s.locRow e.1 % 2 == 0 && rows.contains (s.strikeIdx e.1) && (mdKind e.2 == 0 || mdKind e.2 == 4) && crcOk e.2).map (·.2)

/-- Whether a strike half ends in a group-row without a header: a torn Strike (R103, R105). -/
def State.strikeTorn (s : State) (h : Nat) : Bool :=
  (s.halfWritten h).any fun e => s.locRow e.1 % 2 == 0 && (s.strikeHeads h).all fun i => decide (i < s.strikeIdx e.1)

/-- The strike half that holds group-rows and that the root does not name consumed. -/
def State.usedHalf (s : State) (consumed : Option Nat) : Option Nat :=
  [0, 1].find? fun h => consumed != some h && !s.halfClean h

/-! ### Applying candidates -/

/-- Sectors that a write of a higher number, or a Deallocate or Write Zeroes, has mapped are superseded in the entries of earlier writes
that have not been applied (R93, R106). -/
def State.supersede (s : State) (wseq ns lba len : Nat) : State :=
  s.onSched fun x =>
    { x with
      overlap := x.overlap.map fun e =>
        if e.1 < wseq ∧ e.2.kind = .write ∧ e.2.ns = ns ∧ meets lba len e.2.lba e.2.len then
          (e.1, { e.2 with
            superseded := (e.2.superseded ++ (List.range e.2.len).filter fun i =>
              decide (lba ≤ e.2.lba + i ∧ e.2.lba + i < lba + len)).eraseDups })
        else e }

/-- The overlap table's entry of a write whose sectors are placed again: reads take them from the buffers until they are mapped (R80,
R81, R106). Sectors of its range that are not placed again count as superseded. -/
def loosenOv (lbas : List Nat) (ns : Nat) : Overlap :=
  let lo := lbas.foldl min (lbas.headD 0)
  let len := lbas.foldl max 0 + 1 - lo
  { ns := ns, lba := lo, len := len, kind := .write, settled := true
    superseded := (List.range len).filter fun i => !lbas.contains (lo + i) }

/-- Enter the writes of the candidates that are placed again. -/
def State.enterLoose (s : State) (cands : List Cand) : State :=
  let loose := cands.filter fun c => c.place.isNone
  (loose.map fun c => mdWseq c.payload).eraseDups.foldl (fun (s : State) w =>
    let mine := loose.filter fun c => mdWseq c.payload == w
    let ns := (mine.head?.map fun c => mdNs c.payload).getD 0
    s.onSched fun x => { x with overlap := tabPut x.overlap w (loosenOv (mine.map fun c => mdLba c.payload) ns) }) s

/-- Whether the map already names a copy of a sector that is no older: a committed stripe's sector whose record was durable before the last
checkpoint, and superseded since (R93, R106; DEDUCED, log 48). -/
def State.newerMapped (s : State) (com : List SjRec) (p : Payload) : Bool :=
  match s.mapNow (mdNs p) (mdLba p) with
  | some e => isLoc e && (match s.shelfAt com crcOk e with
    | some q => mdKind q == 0 && mdNs q == mdNs p && mdLba q == mdLba p && decide (mdWseq p ≤ mdWseq q ∧ mdReloc p ≤ mdReloc q)
    | none => false)
  | none => false

/-- A sector of a committed stripe is mapped where it lies, with a new record where its stripe is known (R106). -/
def State.applyPlaced (s : State) (com : List SjRec) (p : Payload) (at_ : Option (Nat × Nat)) (l : Loc) : State :=
  let s0 := s.loadPage com (s.mpnOf (mdNs p) (mdLba p))
  if s0.newerMapped com p then s0
  else
    let t := match at_ with
      | some (id, pos) => s0.appendRec ⟨1, 0, mdNs p, pos, mdLba p, id, mdWseq p⟩
      | none => s0
    (((t.putEntry (mdNs p) (mdLba p) l).stampPage (t.mpnOf (mdNs p) (mdLba p)) (t.log.jposNext - 1)).supersede (mdWseq p) (mdNs p) (mdLba p) 1).retCount
      (mdNs p) (mdWseq p) 1

/-- The stream a recovered sector is placed in: of its namespace's streams the cold one for a unit of at least 128 KiB, else the hot one (R84). -/
def State.candStream (s : State) (p : Payload) : Nat :=
  match s.nsEntry (mdNs p) with
  | some e => if e.nsType = 0 ∧ 32 ≤ mdLast p + 1 then e.stream1 else e.stream0
  | none => 0

/-- Keep the candidates that replay applies (R96, R106): whole, not relocated copies, not covered, within their chain (`keep`); one a sector
and WSEQ, a committed place first; in WSEQ order. -/
def pickCands (durable : List JRec) (keep : Nat → Nat → Nat) (l : List Cand) (scan : Bool) : List Cand :=
  let whole := l.filter fun c => wholeUnit l c.payload && (scan || mdReloc c.payload == 0) && !coveredBy (if scan then [] else durable) c.payload
  let kept := whole.filter fun c => !mdLedger c.payload || decide (mdCount c.payload ≤ keep (mdNs c.payload) (mdChain c.payload))
  let same (a b : Payload) : Bool := mdWseq a == mdWseq b && mdNs a == mdNs b && mdLba a == mdLba b
  let placed := kept.filter fun c => c.place.isSome
  let loose := kept.filter fun c => c.place.isNone && !(placed.any fun x => same x.payload c.payload)
  let once := loose.foldl (fun a c => if a.any fun x => same x.payload c.payload then a else a ++ [c]) []
  sortBy (fun (a : Cand) => mdWseq a.payload * 65536 + mdReloc a.payload) (placed ++ once)

/-- The candidates that are whole (R106). -/
def wholeOnly (l : List Cand) : List Cand := l.filter fun c => wholeUnit l c.payload

/-- What replay applies at one order number: a sector where it lies, a whole R49 unit to be placed again, or a record. -/
inductive Item where
  | placed (p : Payload) (at_ : Option (Nat × Nat)) (l : Loc)
  | loose (stream : Nat) (unit : List Payload)
  | record (r : JRec)
  deriving DecidableEq, Repr

/-- The items of candidates and candidate records with their order numbers: of each R49 unit what is placed again goes together (R85, R106). -/
def itemsOf (cands : List Cand) (recs : List JRec) : List (Nat × Item) :=
  let loose := (cands.filter fun c => c.place.isNone)
  (cands.filterMap fun c => c.place.map fun x => (mdWseq c.payload, Item.placed c.payload x.1 x.2))
    ++ ((loose.map fun c => candUnit c.payload).eraseDups.map fun u =>
      let mine := sortBy (fun (c : Cand) => mdIndex c.payload) (loose.filter fun c => candUnit c.payload == u)
      (u.1, Item.loose ((mine.head?.map (·.stream)).getD 0) (mine.map (·.payload))))
    ++ recs.map fun r => (r.wseq, Item.record r)

/-- What a replay or a takeover applies, in WSEQ order: candidate sectors with candidate records between them (R106). Candidate
records of types 3, 4 and 5 act like durable ones; a type 7 record of a kept counter is written again. -/
def State.applyAll (s : State) (com : List SjRec) (cands : List Cand) (recs : List JRec) (keep : Nat → Nat → Nat) : State :=
  let again := recs.filter fun r => r.type == 3 || r.type == 4 || r.type == 5 || (r.type == 7 && decide (r.arg ≤ keep r.ns r.pos))
  (sortBy (fun e => e.1) (itemsOf cands again)).foldl (fun s x =>
    match x.2 with
    | .placed p at_ l => s.applyPlaced com p at_ l
    | .loose k ps => s.placeSectors k (ps.map fun p => ⟨p, none, false⟩)
    | .record r =>
      let t := s.appendRec r
      let t1 := t.replayRec com (t.log.jposNext - 1) r
      if r.type = 3 ∨ r.type = 4 then t1.supersede r.wseq r.ns r.lba r.arg else t1) (s.enterLoose cands)

/-- The highest WSEQ seen (R106). -/
def highSeen (high : Nat) (recs : List JRec) (cands : List Cand) : Nat :=
  cands.foldl (fun a c => max a (mdWseq c.payload)) (recs.foldl (fun a r => max a r.wseq) high)

/-- The highest order number recovered: of the durable records, the candidates and the records applied; with none, the checkpoint's (R105). -/
def highKept (root : Nat) (recs : List JRec) (cands : List Cand) : Nat :=
  if recs.isEmpty ∧ cands.isEmpty then root else highSeen 0 recs cands

/-- What ends every replay: the counts, the next order number, the rows, the read counts, and the cipher epoch (R106, R135, R196, R341). -/
def State.endReplay (s : State) (com : List SjRec) (high : Nat) : State :=
  let s1 := (((s.recount com).closeUnknown).rebuildRows com).restoreReads
  (s1.onSched fun x => { x with nextOrder := max x.nextOrder (high + 1) }).newEpoch

/-- The strike half that Strike is armed on, and the used one, after a replay (R103, R106). -/
def State.setHalves (s : State) (used consumed : Option Nat) : State :=
  s.onLog fun l =>
    { l with
      halfUsed := used, strikeHalf := match used with
        | some h => 1 - h
        | none => match consumed with
          | some h => 1 - h
          | none => l.strikeHalf
      halfErased := [s.halfClean 0, s.halfClean 1] }

/-- The last durable counter of a chain as known before the replay. -/
def State.lastOf (s : State) (ns ch : Nat) : Nat := (s.chain (chainKey ns ch)).lastDurable

/-- Replay from the last durable checkpoint (R106). -/
def State.replayFrom (s : State) (root : Root) (index : List Loc) : State :=
  let sj0 := s.shelfSj
  let com0 := committedOf (s.fresh sj0)
  let idx := s.shelfIndex com0 index
  let s1 := (s.onLog fun l => { l with root := some { root with gmd := idx.1 }, strike := .idle, strikeRows := [], strikeResets := [], journal := [] }).loadGmd com0 idx.1
  let old := s1.loadSys com0
  let pages0 := ((s1.stripeCws com0).filter fun c => mdKind c.2.2.2 == 4).flatMap fun c => journalRecs c.2.2.2
  let durable := durableRun root.jpos ((sortBy (fun e => e.1) pages0).eraseDups)
  let drecs := durable.map (·.2)
  -- the indexes as the checkpoint has them: COUNT follows the records after it
  let s2 := ((((s1.sysPlaces drecs).loadSys com0).onCip fun c => { c with index := old.cip.index, retFirst := old.cip.retFirst }).restoreRclk
    idx.2.1).retRestart root.highOrder
  let sj := s2.fresh sj0
  let com := committedOf sj
  let s3 := (((s2.noteStripes (com ++ sj.filter fun r => r.kind == 3)).resumeCursor idx.2.2 old.reb.dirs).onLog fun l =>
    { l with jposNext := (durable.foldl (fun a r => max a r.1) root.jpos) + 1 }).adoptUnits
  let cws := s3.stripeCws com
  let pages := (cws.filter fun c => mdKind c.2.2.2 == 4).flatMap fun c => journalRecs c.2.2.2
  let s4 := durable.foldl (fun s r => s.replayRec com r.1 r.2) s3
  let used := s4.usedHalf root.strikeUsed
  let strike := match used with
    | some h => s4.strikeCws h
    | none => []
  let late := (pages.filter fun r => decide (root.jpos < r.1) && !durable.contains r).map (·.2)
  let crecs := (late ++ ((strike.filter fun p => mdKind p == 4).flatMap journalRecs).map (·.2)).eraseDups
  let settled := drecs ++ (pages.filter fun r => decide (r.1 ≤ root.jpos)).map (·.2)
  let noRec (id pos : Nat) : Bool := !(settled.any fun r => (r.type == 1 || r.type == 2) && r.arg == id && decide (r.pos ≤ pos ∧ pos ≤ r.pos + r.count))
  let fromStripes := (cws.filter fun c => mdKind c.2.2.2 == 0 && noRec c.1 c.2.1).map fun c => (⟨c.2.2.2, some (some (c.1, c.2.1), c.2.2.1), 0⟩ : Cand)
  let fromStrike := (strike.filter fun p => mdKind p == 0).map fun p => (⟨p, none, s4.candStream p⟩ : Cand)
  let all := fromStripes ++ fromStrike
  let mapped (w : Nat) : Bool := settled.any fun r => r.type == 1 && r.wseq == w
  let keep (ns ch : Nat) : Nat := chainKept (settled ++ crecs) (wholeOnly all) mapped (s.lastOf ns ch) ns ch
  let cands := pickCands settled keep all false
  let s5 := (s4.onLog fun l => { l with journal := durable.map fun r => ⟨r.1, r.2, true, true⟩ }).setHalves used root.strikeUsed
  let s6 := (s5.applyAll com cands crecs keep).chainsKept (chainsOf (drecs ++ crecs) all) keep
  let s7 := s6.endReplay com (highSeen root.highOrder (drecs ++ crecs) all)
  s7.event 0x604 8 (highKept root.highOrder (drecs ++ crecs.filter fun r => r.type != 1 && r.type != 2 && r.type != 6) cands) (if [0, 1].any s7.strikeTorn then 1 else 2)

/-- The newest readable copy of each system page among all programmed codewords: its MPN, place and ENTRIES (R107, R164, R197). -/
def State.scanSys (s : State) : List (Nat × Loc × Nat) :=
  let l := s.written.filter fun e => mdKind e.2 == 2 && crcOk e.2 && s.sysPage (mdLba e.2) && sysPageOk (mdLba e.2) (plData e.2)
  let rank (p : Payload) : Nat := mdWseq p * 2 ^ 48 + mapPageJpos (plData p)
  (l.filter fun e => l.all fun x => mdLba x.2 != mdLba e.2 || decide (rank x.2 ≤ rank e.2)).map fun e => (mdLba e.2, e.1, bodyOf (plData e.2))

/-- Whether a full scan reads metadata at a place: not of a parity role of a stripe in the rings or the directory, of an abandoned stripe, of a
row's XOR page set, or of what is empty for the shelf (R107, R150, R159, R161). -/
def State.scanned (s : State) (sj : List SjRec) (l : Loc) : Bool :=
  match s.locUnit l with
  | none => false
  | some u =>
    let p := pageSet l
    !s.placeLost l && s.xorPage u (locBay l) (s.locRow l) != p
      && !(sj.any fun r => (r.kind == 3 && r.members.contains p) || (r.members.drop s.pl.data).contains p)
      && (match s.stripeOf l with
        | some (v, i, r) => decide (r < s.pl.data) && (match tabGet s.reb.dirs v with
          | some d => !abandonedIn d i
          | none => true)
        | none => true)

/-- Without a valid checkpoint the map is rebuilt from the metadata of every written codeword and of the strike areas (R107). A host sector newer
than the oldest stripe the rings still show, and in no stripe they show committed, belongs to a stripe that never was (R159; DEDUCED, log 48). -/
def State.fullScan (s : State) : State :=
  let sj0 := s.shelfSj
  let s1 := (s.onLog fun l => { l with root := none, strike := .idle, strikeRows := [], strikeResets := [], journal := [] }).onMap fun _ => MapSt.reset
  let s2 := (s1.scanSys.foldl (fun s x => s.onGmd x.1 fun g => { g with loc := x.2.1, empty := false }) s1).loadSys []
  let s2 := s2.onCip fun c => { c with index := tabMap (fun _ l => l.map fun e => { e with count := 0 }) c.index }
  let sj := s2.fresh sj0
  let com := committedOf sj
  let recs := (((s2.written.filter fun e => mdKind e.2 == 4 && crcOk e.2).map (·.2) ++ (([0, 1].flatMap s2.strikeCws).filter fun p => mdKind p == 4)).flatMap journalRecs).eraseDups
  let s3 := (((s2.noteStripes (com ++ sj.filter fun r => r.kind == 3)).resumeCursor none []).onLog fun l =>
    { l with jposNext := max l.jposNext ((recs.foldl (fun a r => max a r.1) 0) + 1) }).adoptUnits
  let oldest := com.foldl (fun a r => min a r.wseqMax) (2 ^ 64)
  let hosts := (s3.written.filter fun e => mdKind e.2 == 0 && crcOk e.2 && s3.scanned sj e.1).filterMap fun e =>
    let k := 4 * locPlane e.1 + locCw e.1
    match com.findSome? fun r => (r.members.idxOf? (pageSet e.1)).map fun x => (r.stripe, 16 * x + k) with
    | some x => some (⟨e.2, some (some x, e.1), 0⟩ : Cand)
    | none =>
      if oldest < mdWseq e.2 then none
      else some ⟨e.2, some ((s3.stripeOf e.1).map fun y => (stripeId y.2.1 y.1 (s3.unit y.1).use, 16 * y.2.2 + k), e.1), 0⟩
  let loose := (([0, 1].flatMap s3.strikeCws).filter fun p => mdKind p == 0).map fun p => (⟨p, none, s3.candStream p⟩ : Cand)
  let all := hosts ++ loose
  let rs := recs.map (·.2)
  let keep (ns ch : Nat) : Nat := chainKept rs (wholeOnly all) (fun _ => false) (s.lastOf ns ch) ns ch
  let cands := pickCands [] keep all true
  let s4 := s3.setHalves ([0, 1].find? fun h => !(s3.strikeHeads h).isEmpty) none
  let s5 := (s4.applyAll com cands rs keep).chainsKept (chainsOf rs all) keep
  let high := highSeen 0 rs all
  let s6 := ((s5.restoreRclk 0).retRestart high).endReplay com high
  s6.event 0x604 8 (highKept 0 (rs.filter fun r => r.type != 1 && r.type != 2 && r.type != 6) cands) (if [0, 1].any s6.strikeTorn then 1 else 2)

/-- Replay from the last durable checkpoint (R106), or a full scan where there is none (R107). -/
def State.replay (s : State) : State :=
  match s.shelfRoot with
  | some (root, index) => s.replayFrom root index
  | none => s.fullScan

/-! ### The warm takeover's step 5 (Table 15.7, R371, R398) -/

/-- Step 4 and 5 of a warm takeover: COMMIT and ABANDON records of the journal bays past those shipped are taken; committed stripes
and mirrored buffers give the candidates; the mirrored buffers are placed as this controller's own stripes. Units and streams go on as the
directory shows them, and rebuild at the last durable checkpoint's cursor;
each retention index takes an entry as after a replay (R143, R164, R173, R356; DEDUCED, log 48). -/
def State.warmApply (s : State) : State :=
  let sj := s.fresh (s.shelfSj ++ s.log.sjPeer).eraseDups
  let com := committedOf sj
  let cur := (s.shelfRoot).bind fun r => (s.shelfIndex com r.2).2.2
  let s1 := (((s.noteStripes (com ++ sj.filter fun r => r.kind == 3)).resumeCursor cur s.reb.dirs).onMap fun m => { m with sysSent := [] }).adoptUnits
  let drecs := s1.log.journal.map (·.record)
  let cws := s1.stripeCws com
  let noRec (id pos : Nat) : Bool := !(drecs.any fun r => (r.type == 1 || r.type == 2) && r.arg == id && decide (r.pos ≤ pos ∧ pos ≤ r.pos + r.count))
  let fresh := (cws.filter fun c => mdKind c.2.2.2 == 0 && noRec c.1 c.2.1 && (s1.log.mirrorBuf.any fun m => mdWseq m.2 == mdWseq c.2.2.2)).map fun c =>
    (⟨c.2.2.2, some (some (c.1, c.2.1), c.2.2.1), 0⟩ : Cand)
  let loose := (s1.log.mirrorBuf.filter fun m =>
    !(drecs.any fun r => (r.type == 1 || r.type == 2) && r.wseq == mdWseq m.2 && r.ns == mdNs m.2 && meets (mdLba m.2) 1 r.lba (r.count + 1))).map fun m =>
    (⟨m.2, none, m.1⟩ : Cand)
  let all := fresh ++ loose
  let cands := pickCands drecs (fun _ _ => 2 ^ 32) all false
  let high := highSeen (max s1.log.peerHigh (s1.sched.nextOrder - 1)) drecs all
  let s2 := s1.applyAll com cands [] fun _ _ => 2 ^ 32
  let s3 := ((List.range 64).foldl (fun s k => s.closeStripe k) s2).onSched fun x => { x with nextOrder := max x.nextOrder (high + 1) }
  let heads := [0, 1].find? fun h => !s3.halfClean h && !(s3.strikeHeads h).isEmpty
  let s4 := ((s3.onLog fun l => { l with mirrorBuf := [], sjPeer := [] }).setHalves heads none).retRestart ((s.shelfRoot.map fun r => r.1.highOrder).getD high)
  ((s4.recount com).closeUnknown).rebuildRows com

end Sys2Proof.Machine
end

