-- ==== Sys2Proof/Machine/RebuildOps.lean ====
section
/-! DEFINITION. Shared operations of rebuild and the patrol: repair strips and their batch, relocation of a stripe, the states of
rebuild (chapter 7). -/

namespace Sys2Proof.Machine

/-! ### States (R172) -/

/-- HELD ends while the function is ARMED or RUNNING on the lease holder: the kept state resumes at its cursor; an IDLE rebuild with
codewords recorded as unrecoverable sweeps (Table 7.5). -/
def State.resumeRebuild (s : State) : State :=
  if !s.rebuildMay then s
  else
    let s1 := if s.reb.st ≠ .held then s
      else s.setReb s.reb.kept
    if s1.reb.st = .idle ∧ !s1.reb.lostCw.isEmpty then (s1.onReb fun r => { r with sweepMpn := 0 }).setReb .sweep else s1

/-- HELD begins: the function leaves ARMED and RUNNING (Table 7.5). -/
def State.pauseRebuild (s : State) : State :=
  if s.reb.st = .held ∨ s.rebuildMay then s else s.onReb fun r => { r with st := .held, kept := r.st }

/-! ### Relocation of one codeword (R99) -/

/-- Relocate what a codeword holds, if it is valid: a map page is marked dirty, a GMD page is left to the next checkpoint, a host
sector is read for its stream once its map page is in the pool; `u` names the victim, 0xFFFFFFFF rebuild's stream 59 (R99). -/
def State.relocateAt (s : State) (u : Nat) (loc : Loc) : State :=
  match s.map.pool.find? fun e => e.2.loc == loc with
  | some e => s.onGmd e.2.mpn fun g => { g with dirty := true }
  | none =>
    match s.map.gmd.find? fun e => !e.2.resident && !e.2.empty && e.2.loc == loc with
    | some e => if s.sysPage e.1 then s.sysAgain e.1 else (s.needPage e.1 none false).onGmd e.1 fun g => { g with dirty := true }
    | none =>
      match s.gmdPages.find? fun e => e.2 == loc with
      | some e => s.onMap fun m => { m with gmdDirty := if m.gmdDirty.contains e.1 then m.gmdDirty else m.gmdDirty ++ [e.1] }
      | none =>
        if s.rd.jobs.any fun e => e.2.loc == loc && e.2.user == .relocate u then s
        else match s.codeword loc with
          | some p =>
            if mdKind p ≠ 0 then s
            else match s.backLook (mdNs p) (mdLba p) with
              | (some e, t) => if e = loc then t.readCw loc (.relocate u) false else t
              | (none, t) => t.needPage (t.mpnOf (mdNs p) (mdLba p)) (some (.relocate u loc)) false
          | none => s.readCw loc (.relocate u) false

/-- Every valid sector of a stripe that can still be obtained goes to stream 59; what cannot is recorded for the sweep (R169,
R170). -/
def State.relocateStripe (s : State) (u i : Nat) : State :=
  ((List.range s.pl.data).flatMap fun r => match s.roleLoc u i r with
    | some l => (List.range 16).map fun k => locAt l k
    | none => []).foldl (fun s l => s.relocateAt 0xFFFFFFFF l) s

/-- Whether stream 59 can form a stripe (R148, R169). -/
def State.canRelocate (s : State) : Bool :=
  let n := s.needUnit 59
  n.1 && (match (n.2.stream 59).openUnit with
    | some u => (n.2.choosePattern 59 u).isSome
    | none => false)

/-! ### Repair strips (R168, R169) -/

/-- The bays a stripe's roles lie on now, with its repair strips and those of the batch (R169). -/
def State.memberBays (s : State) (u i : Nat) : List Nat :=
  ((List.range s.roles).filterMap fun r => (s.roleLoc u i r).map locBay)
    ++ (s.reb.batch.filter fun q => q.unit == u && q.index == i && q.bay != 0xFF).map (·.bay)

/-- The target bay of a repair strip: the first of ALT0, ALT1 and the bays in ascending number that is in service, not lost and not
a member of the stripe (R169). -/
def State.repairTarget (s : State) (u i : Nat) : Option Nat :=
  match tabGet s.reb.dirs u with
  | none => none
  | some d =>
    let alts := match s.pl.table[(d.start + i + skipOf d i) % (max 1 s.pl.table.length)]? with
      | some p => [p.alt0, p.alt1]
      | none => []
    let members := s.memberBays u i
    (alts ++ s.bays).find? fun b => b != 0xFF && s.inService b && !s.bayLost b && !members.contains b

/-- Whether a role's page set is being repaired in the batch. -/
def State.inBatch (s : State) (u i r : Nat) : Bool := s.reb.batch.any fun q => q.unit == u && q.index == i && q.role == r

/-- Take a role into the batch: its 16 codewords are read, or given as already computed (R168, R170, R182). -/
def State.addRepair (s : State) (u i r : Nat) (old : Loc) (given : List (Nat × Payload)) : State :=
  let slot := s.reb.batch.length
  let s1 := s.onReb fun x =>
    { x with batch := x.batch ++ [⟨u, (s.unit u).use, i, r, pageSet old, given, 0xFF, 0, false, false⟩] }
  if given.isEmpty then
    (List.range 16).foldl (fun s k => s.readCw (locAt old k) (.repair s.reb.batchNo slot k) false) s1
  else s1

/-- Whether the batch can take `n` more roles: it is being collected and holds at most 256 (R168). -/
def State.batchRoom (s : State) (n : Nat) : Bool := s.reb.batchPhase == 0 && decide (s.reb.batch.length + n ≤ 256)

/-- Reserve a position on a bay in the open unit of stream 59: a TYPE 5 entry names its owner (R162, R168 step 1); the next unit is
opened when the bay has no position left. None when there is none to be had. -/
def State.reserve59 (s : State) (q : Repair) (b : Nat) : Option (Loc × State) :=
  let take (s : State) : Option (Loc × State) :=
    match (s.stream 59).openUnit with
    | none => none
    | some v =>
      if !s.bayFor v b then none
      else match s.nextPage v b with
        | none => none
        | some l =>
          some (l, (s.addExc v ⟨(s.stream 59).index, 5, q.role, b, 0, q.unit + 2 ^ 20 * q.index + 2 ^ 36 * q.use⟩).onUnit v fun y =>
            { y with nextPos := tabUpd 0 y.nextPos b (· + 1) })
  let n := s.needUnit 59
  if !n.1 then none
  else match take n.2 with
    | some x => some x
    | none =>
      let m := (n.2.closeUnit 59).needUnit 59
      if m.1 then take m.2 else none

/-- Reserve a position for one role of the batch; without a target its stripe is relocated, and without a stripe for that rebuild
holds there with its event (R169). -/
def State.reserveSlot (s : State) (slot : Nat) : State :=
  match s.reb.batch[slot]? with
  | none => s
  | some q =>
    if q.reserved then s
    else match (s.repairTarget q.unit q.index).bind fun b => (s.reserve59 q b).map fun x => (b, x) with
      | some (b, l, t) => t.onReb fun r => { r with batch := modNth r.batch slot fun q => { q with bay := b, newLoc := l, reserved := true } }
      | none =>
        if s.canRelocate then
          (s.relocateStripe q.unit q.index).onReb fun r =>
            { r with batch := modNth r.batch slot fun q => { q with unit := 0xFFFFFFFF, reserved := true, programmed := true } }
        else if s.reb.retryHeld then s
        else (s.onReb fun r => { r with retryHeld := true }).event 0x608 0x0A 4 0

/-- Issue the program of a reserved repair strip: the target bay's row takes it like any other position (R134, R168 step 2). -/
def State.programSlot (s : State) (slot : Nat) : State :=
  match s.reb.batch[slot]? with
  | none => s
  | some q =>
    let busy := (s.port q.bay).ops.any fun e => e.2.user == .repair s.reb.batchNo slot
    if !q.reserved ∨ q.programmed ∨ busy then s
    else match s.locUnit q.newLoc with
      | none => s
      | some v =>
        let row := s.locRow q.newLoc
        let die := locDie q.newLoc
        if s.xorPending v q.bay row die then s.tryXor v q.bay (row - 1)
        else
          let e := s.firstErase q.bay die (s.locBlock q.newLoc)
          if !e.1 then e.2
          else
            let frames := (List.range 16).map fun k => ((q.payloads.find? fun e => e.1 == k).map (·.2)).getD 0
            match s.issue q.bay (s.mkOp 2 die (locPage q.newLoc) false (.repair s.reb.batchNo slot)) 0 [] frames with
            | some t => t.intoRow v q.newLoc frames
            | none => s

/-- The TYPE 4 entry of a repaired role, which replaces an earlier one (R162, R168 step 3, R169). -/
def State.addStrip (s : State) (q : Repair) : State :=
  if q.unit = 0xFFFFFFFF then s
  else
    let s1 := s.onReb fun r =>
      { r with
        dirs := tabMod r.dirs q.unit fun d => { d with exceptions := d.exceptions.filter fun e => !(e.type == 4 && e.index == q.index && e.role == q.role) }
        repaired := r.repaired + 1 }
    s1.addExc q.unit ⟨q.index, 4, q.role, q.bay, 0, q.newLoc.toNat⟩

/-- The sectors of a repair strip whose map entries still name the replaced page set are repointed, each with a type 2 record; a map
page's or a GMD page's place is recorded as after a commit (R168 step 4). -/
def State.repointStrip (s : State) (q : Repair) : State :=
  if q.unit = 0xFFFFFFFF ∨ s.pl.data ≤ q.role then s
  else q.payloads.foldl (fun (s : State) (e : Nat × Payload) =>
    let p := e.2
    let old := locAt q.oldLoc e.1
    let new := locAt q.newLoc e.1
    if mdKind p = 0 then
      let r := s.backLook (mdNs p) (mdLba p)
      if r.1 = some old then
        let s1 := (r.2.applyEntry (mdNs p) (mdLba p) new (some (mdKey p))).journal
          ⟨2, 0, mdNs p, 16 * q.role + e.1, mdLba p, stripeId q.index q.unit q.use, mdWseq p⟩
        s1.stampPage (s1.mpnOf (mdNs p) (mdLba p)) (s1.log.jposNext - 1)
      else r.2
    else if mdKind p = 2 then
      if (s.gmdFlash (mdLba p)).loc = old then
        (s.onGmd (mdLba p) fun g => { g with loc := new }).commitMapPage new p
      else s
    else if mdKind p = 3 then
      if tabGet s.gmdPages (mdLba p) = some old then s.commitGmdPage new p else s
    else s) s

/-- A batch moves on (R168): 0 its roles are read and then reserved; 1 programmed, once the directory pages with their TYPE 5 entries are durable,
and their TYPE 4 entries made; 2 repointed, once the directory pages with those are durable, within the updates of a frame (R122). -/
def State.batchStep (s : State) : State :=
  let slots := List.range s.reb.batch.length
  if s.reb.batch.isEmpty ∨ s.sheet.programsHeld then s
  else if s.reb.batchPhase = 0 then
    if s.rd.jobs.any fun e => match e.2.user with
      | .repair _ _ _ => true
      | _ => false then s
    else
      let bad := (s.reb.batch.filter fun q => q.payloads.length < 16).map fun q => (q.unit, q.index)
      let s1 := s.onReb fun r =>
        { r with batch := r.batch.filter fun q => decide (16 ≤ q.payloads.length) && !bad.contains (q.unit, q.index), batchPhase := 1 }
      let s2 := bad.eraseDups.foldl (fun s x => s.relocateStripe x.1 x.2) s1
      let s3 := (List.range s2.reb.batch.length).foldl (fun s k => s.reserveSlot k) s2
      if s3.reb.batch.isEmpty then s3.onReb fun r => { r with batchPhase := 0 } else s3.pushDir
  else if s.reb.batchPhase = 1 then
    if s.reb.batch.any fun q => !q.reserved then (slots.foldl (fun s k => s.reserveSlot k) s).pushDir
    else if !s.dirDurable then s.pushDir
    else
      let s1 := slots.foldl (fun s k => s.programSlot k) s
      if s1.reb.batch.all (·.programmed) then
        ((s1.reb.batch.foldl (fun s q => s.addStrip q) s1).onReb fun r => { r with batchPhase := 2 }).pushDir
      else s1
  else if !s.dirDurable then s.pushDir
  else
    let need := s.reb.batch.flatMap fun q =>
      if q.role < s.pl.data then (q.payloads.filter fun e => mdKind e.2 == 0).map fun e => (mdNs e.2, mdLba e.2) else []
    let r := s.readyAll need
    if !r.1 then r.2
    else
      let now := r.2.reb.batch.take ((updateLimit - r.2.map.applied) / 16)
      let s1 := (now.foldl (fun s q => s.repointStrip q) r.2).onMap fun m => { m with applied := m.applied + 16 * now.length }
      let left := s1.reb.batch.drop now.length
      if left.isEmpty then s1.onReb fun x => { x with batch := [], batchPhase := 0, batchNo := x.batchNo + 1 }
      else s1.onReb fun x => { x with batch := left }

end Sys2Proof.Machine
end

