-- ==== Sys2Proof/Machine/Faults.lean ====
section
/-! DEFINITION. Faults and the Crowsnest collector: fault words, concentrators, fences, the chip stop, the history: the meanings of the
fault commands (chapters 1 and 19). -/

namespace Sys2Proof.Machine

/-! ### The history (R442, R444, R445) -/

/-- History flags (Table 19.6). -/
def histFlags (trigger escalated climbed summary bpd : Bool) : BitVec 8 :=
  BitVec.ofNat 8 (b2n trigger + 2 * b2n escalated + 4 * b2n climbed + 8 * b2n summary + 16 * b2n bpd + 32)

/-- The next FAULT_SEQ after `n`: from 0xFFFF_FFFF it wraps to 1 (R442). -/
def seqAfter (n : Nat) : Nat := if n = 0xFFFFFFFF then 1 else n + 1

/-- A word reaches the collector (R442, R444): it takes the next FAULT_SEQ and is counted by its class, and while the history records it
is written, the first of class U or higher as the trigger; 31 entries later the history freezes. -/
def State.recordWord (s : State) (w : FWord) (level : Nat) (climbed summary : Bool) : Nat × State :=
  let seq := s.flt.seqNext
  let cls := wClass w.word
  let trig := s.flt.hist == .recording && decide (classU ≤ cls)
  let e : HistEntry :=
    ⟨w.word, seq, w.merged, histFlags trig w.escalated climbed summary w.fromBpd, level, s.timeNs, s.clk.frame⟩
  (seq, s.onFlt fun f =>
    let f1 := { f with
      seqNext := seqAfter seq
      counts := if summary then f.counts else modNth f.counts cls (satAdd (2 ^ 64 - 1) · 1) }
    if f.hist = .frozen then f1
    else
      let after := if trig then 31 else f.after - 1
      { f1 with
        history := (f.history ++ [e]).drop ((f.history.length + 1) - 64)
        histHead := if 64 ≤ f.history.length then (f.histHead + 1) % 64 else f.histHead
        fSeen := f.fSeen || cls == classF
        trigSeq := if trig then seq else f.trigSeq
        after := if f.hist = .recording ∧ !trig then 0 else after
        hist := if trig then .triggered else if f.hist = .triggered ∧ after = 0 then .frozen else f.hist })

/-- The event of a fault word: source its UNIT, KIND its KIND (R449). -/
def State.faultEvent (s : State) (w : FWord) (seq : Nat) : State := s.event (wUnit w.word) (wKind w.word) w.word.toNat seq

/-! ### Fencing and stopping (R18, R19, Table 2.12) -/

/-- Whether a word comes from inside a region. -/
def inRegion (r : Nat) (w : FWord) : Bool := nodeRegion (wNode w.word) == some r

/-- Words a region's cells and concentrators hold, with those merged into them. -/
def FltSt.regionWords (f : FltSt) (r : Nat) : Nat :=
  let held := f.cells.map (·.2) ++ f.concs.flatMap fun e => e.2.queue ++ (match e.2.handling with
    | some w => [w]
    | none => [])
  (held.filter (inRegion r)).foldl (fun n w => n + 1 + w.merged) 0

/-- The words of a region leave its cells and concentrators. -/
def FltSt.dropRegion (f : FltSt) (r : Nat) : FltSt :=
  { f with
    cells := tabKeep (fun _ w => !inRegion r w) f.cells
    concs := tabMap (fun _ c =>
      { c with
        queue := c.queue.filter fun w => !inRegion r w
        handling := c.handling.filter fun w => !inRegion r w }) f.concs }

/-- The lease is released and this controller no longer acts: a holder goes to LAPSED, a taker to INIT, a standby leaves its role
(R18, R367, Table 15.2). -/
def State.giveUpLease (s : State) : State :=
  if s.holder then
    let was := s.pair.hold
    let s1 := (s.sendLease (s.mkLease 3 0 false false)).onPair fun p => { p with releaseAt := s.now, hold := was }
    if s.pair.st = .taking then s1.toInit else s1.lapse
  else if s.pair.st = .standby then (s.onPair fun p => { p with resync := 0 }).setPair .joining
  else s

/-- Fence a region (R18): its words go to one summary word, programs and erases stop, the storage function is FENCED, and the lease is
released without waiting for its expiry. The summary word has LEVEL 2, the region's own unit, class X and cause 0x00 (DESIGN CHOICE,
notes/assumptions/40.md: the spec states only its ADDRESS). -/
def State.fenceRegion (s : State) (r : Nat) : State :=
  if s.flt.isFenced r then s
  else
    let n := s.flt.regionWords r
    let s1 := s.onFlt fun f =>
      { (f.dropRegion r) with
        fenced := f.fenced ||| BitVec.ofNat 4 (2 ^ r)
        summarised := satAdd 65535 f.summarised n
        summary := f.summary ++ [(r, n)] }
    let w := FWord.fresh (mkWord 2 (0x100 * (r + 1)) classX 0 n)
    let s2 := (s1.recordWord w 3 false true).2
    let s3 := s2.onSheet fun x => { x with programsHeld := true }
    let s4 := if s3.fn.st = .empty then s3
      else (s3.onFn fun f => { f with drain := none, lanesOpen := false }).setFn .fenced 0
    s4.giveUpLease.pauseRebuild

/-- Stop the chip (R19): programs and erases stop, the lease is released on Shroud B, from a non-holder with WITHDRAW, and the regions
are held in reset. -/
def State.chipStop (s : State) : State :=
  let s1 := s.onSheet fun x => { x with programsHeld := true }
  let s2 := s1.emit (.lease .b (s1.mkLease 3 0 false (!s1.holder)))
  let s3 := s2.onPair fun p => { p with hold := .no, sent := [] }
  s3.onFlt fun f =>
    { f with stopped := true, stopTimes := (f.stopTimes.filter fun t => decide (s.now < t + secs 3600)) ++ [s.now] }

/-- A word of class X or F is handled by the chip: an X word fences its region with its event, one of the Control region or of the chip
stops the chip as an F word does (Table 1.3, R18, R19, R449). -/
def State.chipHandle (s : State) (w : FWord) : State :=
  let r := s.recordWord w 3 true false
  if wClass w.word = classF then r.2.chipStop
  else
    let s1 := r.2.faultEvent w r.1
    match nodeRegion (wNode w.word) with
    | some 0 => s1.fenceRegion 0
    | some 1 => s1.fenceRegion 1
    | some 2 => s1.fenceRegion 2
    | _ => s1.chipStop

/-! ### Concentrators (R15, R439 to R441) -/

/-- The level that handles a class (Table 1.3): the block T, the region U, the chip X and F. -/
def handleLevel (cls : Nat) : Nat := if cls ≤ classT then 1 else if cls = classU then 2 else 3

/-- Whether the concentrator at a node handles a word. -/
def handlesHere (c : Node) (w : FWord) : Bool := decide (handleLevel (wClass w.word) ≤ c / 4096)

/-- Whether a node is a concentrator of the hierarchy: a block, a region or the chip (R15). -/
def isConc (c : Node) : Bool := c == 12288 || (decide (4096 ≤ c) && (parentNode c).isSome)

/-- The concentrator at a node. -/
def State.conc (s : State) (c : Node) : Conc := tabGetD s.flt.concs c ⟨[], none, 0⟩

/-- The word a concentrator offers upward: the head of its queue, or the word in handling, once a higher level must handle it. -/
def offerUp (k : Node) (c : Conc) : Option FWord :=
  match c.handling with
  | some w => if handlesHere k w then (match c.queue with
      | h :: _ => if handlesHere k h then none else some h
      | [] => none) else some w
  | none => match c.queue with
    | h :: _ => if handlesHere k h then none else some h
    | [] => none

/-- The word a concentrator has offered is taken from it. -/
def dropOffer (k : Node) (c : Conc) : Conc :=
  match c.handling with
  | some w => if handlesHere k w then { c with queue := c.queue.drop 1 } else { c with handling := none }
  | none => { c with queue := c.queue.drop 1 }

/-- Where a unit's own words are offered first: a cell's to its block, those of a block, a region or the chip to its own concentrator, for
the raising block or region handles them (R15, Table 1.3). -/
def firstConc (n : Node) : Option Node := if n < 4096 then parentNode n else some n

/-- The children of a concentrator that have a word for it, by node: the units whose own words come here, and the concentrators below. The
Bay Power Die's concentrator passes its words on through the BPD interface, so only while that runs (R20, R21). -/
def State.offers (s : State) (c : Node) : Tab FWord :=
  let own := s.flt.cells.filter fun e => firstConc e.1 == some c
  s.flt.concs.foldl (fun t e =>
    if parentNode e.1 = some c ∧ (e.1 ≠ 0x140F ∨ s.flt.bpdIf = true) then (match offerUp e.1 e.2 with
      | some w => if (tabGet t e.1).isSome then t else tabPut t e.1 w
      | none => t) else t) own

/-- Escalation (R441): a further U word of a unit whose M record is open becomes X. -/
def State.escalate (s : State) (w : FWord) : FWord :=
  if wClass w.word = classU ∧ s.flt.opens.any (fun o => o.unit == wUnit w.word) then
    { w with word := withKind w.word (32 * classX + wCause w.word), escalated := true }
  else w

/-- The head of a concentrator's queue goes into handling when this level handles it; the chip handles X and F words at once. -/
def State.promote (s : State) (c : Node) : State :=
  let k := s.conc c
  match k.handling, k.queue with
  | none, w :: rest =>
    if !handlesHere c w then s
    else if c = 12288 ∧ classX ≤ wClass w.word then
      (s.onFlt fun f => { f with concs := tabPut f.concs c { k with queue := rest } }).chipHandle w
    else s.onFlt fun f => { f with concs := tabPut f.concs c { k with queue := rest, handling := some w } }
  | _, _ => s

/-- A concentrator takes one word from its children, round-robin by unit number (R439). -/
def State.takeWord (s : State) (c : Node) : State :=
  let k := s.conc c
  let l := s.offers c
  if 8 ≤ k.queue.length then s
  else
    match (match l.find? fun e => decide (k.last < e.1) with
      | some e => some e
      | none => l.head?) with
    | none => s
    | some (n, w) =>
      let w1 := s.escalate w
      s.onFlt fun f =>
        let f1 := if firstConc n = some c then { f with cells := tabDel f.cells n } else { f with concs := tabMod f.concs n (dropOffer n) }
        { f1 with concs := tabPut f1.concs c { k with queue := k.queue ++ [w1], last := n } }

/-- A counter's storage read uncorrectable: the bank cell has raised a U word of cause 0x02, sets the counter to 0 and marks the lost
count with its overflow bit (R458). The entry of ADDRESS is the counter's index in the bank. -/
def State.counterLost (s : State) (word : BitVec 64) : State :=
  let u := wUnit word
  if wLevel word = 0 ∧ 0x420 ≤ u ∧ u ≤ 0x42F ∧ wClass word = classU ∧ wCause word = 2 then
    let i := 512 * (u - 0x420) + wAddr word % 512
    s.onPmc fun p => { p with vals := tabDel p.vals i, ovf := tabPut p.ovf i true }
  else s

/-- A lookup cell has found an error in the Translation Cache: it is handled as Table 5.5 says, at the way that ADDRESS names, a set of the
cell (R112, R123, R124). -/
def State.tcFault (s : State) (word : BitVec 64) : State :=
  let entry := wAddr word % 2 ^ 32
  let place := if wCause word = 3 then entry else entry / 8
  let set := place / 16
  if 65536 ≤ set ∨ set % 4 + 0x118 ≠ wUnit word then s
  else match wCause word with
    | 1 => s.tcFix set (place % 16) .single
    | 2 => s.tcFix set (place % 16) .double
    | 3 => s.tcFix set (place % 16) .parity
    | _ => s

/-- FAULT_RAISE: a unit raises a fault word, which goes to its cell's outgoing place (R15, R437 to R440). The Translation Cache handles
the errors that its lookup cells find (R123), and a counter bank's lost counter restarts from 0 (R458). -/
def execFaultRaise (word : BitVec 64) (s : State) : Res State :=
  .next (
    let s1 := s.raiseWord word
    let lookup := s.awake && wLevel word == 0 && decide (0x118 ≤ wUnit word ∧ wUnit word ≤ 0x11B)
    if !s.awake then s1
    else if !lookup then s1.counterLost word
    else s1.tcFault word)

/-- FAULT_CONCENTRATOR_TAKE: a concentrator takes at most one word from its children and puts the head of its queue into handling where
its level handles the class (R15, R439 to R441). -/
def execFaultConcentratorTake (unit : Nat) (s : State) : Res State :=
  .next (if !s.awake ∨ !isConc unit then s else ((s.promote unit).takeWord unit).promote unit)

/-! ### The end of a handling (R441, R443, R449) -/

/-- A cell is withdrawn until the next chip reset; the second LDPC cell of a Channel block takes the block's four Sheet ports with it
(Table 19.5). -/
def State.withdraw (s : State) (u : Nat) : State :=
  if s.flt.withdrawn.contains u then s
  else
    let s1 := s.onFlt fun f => { f with withdrawn := f.withdrawn ++ [u] }
    if 0x240 ≤ u ∧ u ≤ 0x29F then
      let k := (u - 0x240) / 8
      if (s1.flt.withdrawn.filter fun x => decide (0x240 + 8 * k ≤ x ∧ x < 0x248 + 8 * k)).length = 2 then
        (List.range 4).foldl (fun s i => s.retirePort (4 * k + i)) s1
      else s1
    else if 0x1C0 ≤ u ∧ u ≤ 0x1DF then s1.onCip fun c => { c with withdrawn := c.withdrawn ++ [u - 0x1C0] }
    else s1

/-- The retirement rule of a unit whose U word has been handled (Table 19.5): a cipher cell at its first disagreement, an LDPC cell at
its second U within an hour, a DRAM page at once, with an early warning at a channel's 64th. -/
def State.retireRule (s : State) (w : BitVec 64) : State :=
  let u := wUnit w
  let c := wCause w
  if wLevel w ≠ 0 then s
  else if 0x1C0 ≤ u ∧ u ≤ 0x1DF ∧ c = 0x0E then s.withdraw u
  else if 0x240 ≤ u ∧ u ≤ 0x29F ∧ (c = 2 ∨ c = 4) then
    let times := (tabGetD s.flt.withdrawTimes u []).filter fun t => decide (s.now < t + secs 3600)
    let s1 := s.onFlt fun f => { f with withdrawTimes := tabPut f.withdrawTimes u (times ++ [s.now]) }
    if times.isEmpty then s1 else s1.withdraw u
  else if 0x430 ≤ u ∧ u ≤ 0x43B ∧ c = 0x0D then
    let n := tabGetD s.flt.dramPages (u - 0x430) 0 + 1
    let s1 := s.onFlt fun f => { f with dramPages := tabPut f.dramPages (u - 0x430) n }
    if n = 64 then s1.event u 3 n 0 else s1
  else s

/-- A second watchdog of a core within the hour of its reset (Table 19.5). -/
def State.secondWatchdog (s : State) (w : BitVec 64) : Bool :=
  wLevel w == 0 && wCause w == 0x14 && decide (0x410 ≤ wUnit w ∧ wUnit w ≤ 0x413)
    && s.flt.coreResets.any fun t => decide (s.now < t + secs 3600)

/-- FAULT_HANDLING_END: a T word that succeeded counts as C, one whose budget is spent is raised again as U by the block (or, for a word a
region or the chip raised itself, the unit) that handled it, with that unit's own LEVEL and UNIT (R16); a U word ends
with its event, and its record stays open for an M cause; one that no single operation contains is raised as X (Table 1.3, R441,
R449). -/
def execFaultHandlingEnd (unit : Nat) (completed : Bool) (s : State) : Res State :=
  .next (
    match (s.conc unit).handling with
    | none => s
    | some w =>
      if !s.awake ∨ !handlesHere unit w then s
      else
        let s0 := s.onFlt fun f => { f with concs := tabMod f.concs unit fun c => { c with handling := none } }
        let level := unit / 4096
        let next (s : State) : State := s.promote unit
        if wClass w.word ≤ classT then
          let r := s0.recordWord w level false false
          if completed then
            next (r.2.onFlt fun f => { f with counts := modNth (modNth f.counts classT (· - 1)) classC (satAdd (2 ^ 64 - 1) · 1) })
          else
            next (r.2.raiseWord (mkWord level (unit % 4096) classU (wCause w.word) (wAddr w.word)))
        else if completed ∧ !s.secondWatchdog w.word then
          let r := s0.recordWord w level (unit == 12288) false
          let s1 := r.2.faultEvent w r.1
          let s2 := if causeM (wCause w.word) then s1.onFlt fun f => { f with opens := f.opens ++ [⟨wUnit w.word, r.1⟩] } else s1
          let s3 := if wCause w.word = 0x14 then s2.onFlt fun f => { f with coreResets := f.coreResets ++ [s.now] } else s2
          next (s3.retireRule w.word)
        else
          let x := { w with word := withKind w.word (32 * classX + wCause w.word) }
          if unit = 12288 then next (s0.chipHandle x)
          else s0.onFlt fun f => { f with concs := tabMod f.concs unit fun c => { c with queue := x :: c.queue } })

/-- A write of `CWN_ACK` closes the M record of its FAULT_SEQ (R441). -/
def State.ackRecord (s : State) (seq : Nat) : State := s.onFlt fun f => { f with opens := f.opens.filter fun o => o.seq != seq }

/-- CWN_ACK_WRITE: firmware closes the M record of a FAULT_SEQ (R441). -/
def execCwnAckWrite (seq : Nat) (s : State) : Res State :=
  .next (if !s.awake then s else s.ackRecord seq)

/-- The collector takes a word the Bay Power Die held, with FROM_BPD (R21, R446): a word of class X or F is handled by the chip, one of
class U has its event and, for an M cause, an open record (R441, R449), one of class T was retried in the die that raised it and is
recorded; once a held word has stopped the chip the others go on being held. -/
def State.takeHeldWord (s : State) (w : FWord) : State :=
  if s.flt.stopped then s.onBpd fun b => { b with held := b.held ++ [w] }
  else if classX ≤ wClass w.word then s.chipHandle w
  else
    let r := s.recordWord w 3 true false
    if wClass w.word < classU then r.2
    else
      let s1 := r.2.faultEvent w r.1
      if causeM (wCause w.word) then s1.onFlt fun f => { f with opens := f.opens ++ [⟨wUnit w.word, r.1⟩] } else s1

/-- BPD_WORDS_DELIVERED: the BPD interface runs; the words the Bay Power Die held pass to the collector in their order, and its lost-words
flag with them, as a word of the BPD interface (R21, R446). Table 19.2 gives that word's cause, 0x1F; its LEVEL 0, unit 0x41B and class U
are the model's (DESIGN CHOICE, notes/assumptions/40.md), its ADDRESS a free value. -/
def execBpdWordsDelivered (s : State) : Res State :=
  .next (
    if !s.awake then s
    else
      let s0 := s.onFlt fun f => { f with bpdIf := true }
      let s1 := s0.onBpd fun b => { b with held := [], lostWords := false }
      let s2 := s.bpd.held.foldl State.takeHeldWord s1
      if s.bpd.lostWords then
        let n := s2.freeNat
        n.2.takeHeldWord { FWord.fresh (mkWord 0 0x41B classU 0x1F n.1) with fromBpd := true }
      else s2)

/-- F_STOP_RESET_TIMER: 100 ms after an F stop the Bay Power Die applies a chip reset; after the third stop within an hour it applies
none, and the chip stays stopped until auxiliary power is removed (R19). -/
def execFStopResetTimer (s : State) : Res State :=
  .next (
    if !s.flt.stopped ∨ s.flt.stuck ∨ s.bpd.mainReset then s
    else
      let s0 := s.onClk fun c => { c with base := c.base + ms 100 }
      let recent := s.flt.stopTimes.filter fun t => decide (s.now < t + secs 3600)
      if 3 ≤ recent.length then s0.onFlt fun f => { f with stuck := true } else s0.dieReset)

end Sys2Proof.Machine
end

