-- ==== Sys2Proof/Machine/Cipher.lean ====
section
/-! DEFINITION. Keys, randomness, retention expiry and seals: the meanings of the cipher commands (chapter 14). -/

namespace Sys2Proof.Machine

/-- SHELF_KEY_TRANSFER: a controller without a shelf key takes it from its peer over the peer link, each side having checked the
other's certificate; its copy in SPI NOR is wrapped under its own root key (R347, Table 14.2). -/
def execShelfKeyTransfer (certOk : Bool) (key : BitVec 256) (s : State) : Res State :=
  .next (
    if s.awake && certOk && s.cip.shelfKey.isNone && s.peerLink then
      (s.onCip fun c => { c with shelfKey := some key }).onBoot fun b => { b with shelfKeyNor := some key }
    else s)

/-- When an instance's reseeding falls due: 100 ms after the last one at the latest (R344). -/
def Drbg.due (d : Drbg) : Nat := d.dueAt.getD (d.lastOut + ms 100)

/-- DRBG_RESEED: an instance reseeds from the TRNG; a failed health test withholds the sample with a U fault at the TRNG, and the
instance stays due (R344). -/
def execDrbgReseed (i : Fin 4) (healthy : Bool) (s : State) : Res State :=
  .next (
    if !s.awake then s
    else if healthy then
      s.onCip fun c => { c with drbgs := modNth c.drbgs i.val fun _ => ⟨none, false, s.now⟩ }
    else
      (s.onCip fun c =>
        { c with drbgs := modNth c.drbgs i.val fun d => { d with dueAt := some (min s.now d.due) } }).raise 0x41A classU 0x0F 0)

/-- DRBG_RESEED_OVERDUE: an instance that has not reseeded within 1 s of being due gives no more output (R344). -/
def execDrbgReseedOverdue (i : Fin 4) (s : State) : Res State :=
  .next (
    if !s.awake then s
    else s.onCip fun c =>
      { c with drbgs := modNth c.drbgs i.val fun d =>
          if d.due + secs 1 ≤ s.now ∧ !d.stopped then { d with stopped := true, lastOut := s.now } else d })

/-- DRBG_STALL_TIMER: with no output of any instance for 10 ms the Crowsnest collector fences the Storage region (R18, R344). -/
def execDrbgStallTimer (s : State) : Res State :=
  .next (
    if s.awake && s.cip.drbgs.all (fun d => d.stopped && decide (d.lastOut + ms 10 ≤ s.now)) && !s.flt.isFenced 0 then
      s.chipHandle (FWord.fresh (mkWord 1 0x106 classX 0x10 0))
    else s)

/-- RETENTION_EXPIRY: the head entry of a Retention namespace's index is dropped once the retention clock reaches MINUTE + 1 +
RET_PERIOD (R355). -/
def execRetentionExpiry (ns : Fin 4096) (s : State) : Res State :=
  .next (
    match s.nsEntry ns.val, s.retIndex ns.val with
    | some e, x :: rest =>
      if s.awake && decide (x.minute + 1 + e.retPeriod ≤ s.rclkMin) then s.onCip fun c =>
        { c with index := tabPut c.index ns.val rest, retFirst := tabUpd 0 c.retFirst ns.val (· + 1) }
      else s
    | _, _ => s)

/-- The bytes 0x00 to 0x8F of a seal record, as a number (Table 14.6). -/
def State.sealBody (s : State) (x : Seal) (e : NsEntry) (digest : BitVec 384) : Nat :=
  0x4C455347 + 2 ^ 32 * 1 + 2 ^ 48 * (b2n (e.nsType == 2) + 2 * b2n e.gcm)
    + 2 ^ 64 * ((s.fn.committed.map fun i => i.shelfId.toNat).getD 0) + 2 ^ 192 * e.nguid.toNat
    + 2 ^ 320 * (x.lba % 2 ^ 64) + 2 ^ 384 * (x.count % 2 ^ 64) + 2 ^ 448 * (x.ord % 2 ^ 64) + 2 ^ 512 * (x.rclk % 2 ^ 64)
    + 2 ^ 576 * ((s.boot.sealSeq + 1) % 2 ^ 64) + 2 ^ 640 * digest.toNat + 2 ^ 1024 * s.boot.devKeyId.toNat
    + 2 ^ 1088 * (x.wall % 2 ^ 64)

/-- SEAL_DIGEST_DONE: the seal in a mailbox has read its whole range: a sector that failed ends it with MEDIA_ERROR naming the first
such LBA, and an event; otherwise its record is signed by this controller's device key, with the next SEAL_SEQ (R358, R359, R435). -/
def execSealDigestDone (m : Fin 64) (digest : BitVec 384) (bad : Option Nat) (s : State) : Res State :=
  .next (
    match s.cip.seals.find? fun x => x.mbx % 64 == m.val with
    | none => s
    | some x =>
      match s.cmd x.ord, s.nsEntry x.ns with
      | some c, some e =>
        if !s.awake ∨ c.phase = .taken ∨ c.fetchNext < c.len then s
        else
          let s1 := s.onCip fun y => { y with seals := y.seals.filter fun z => z.ord != x.ord }
          match bad with
          | some lba =>
            ((s1.event 0x631 0x0A 2 0).answer x.mbx { mkResp 0 0xF 0 with order := x.ord, result := leBytes 8 lba }).dropCmd x.ord
          | none =>
            let body := s.sealBody x e digest
            let sg := Config.deviceSign s.boot.sealSeq body
            let rec0 := leBytes 144 body ++ leBytes 48 sg.1.toNat ++ leBytes 48 sg.2.toNat
            ((s1.onBoot fun b => { b with sealSeq := b.sealSeq + 1 }).answer x.mbx
              { mkResp 0 0 0 with order := x.ord, result := rec0 }).dropCmd x.ord
      | _, _ => s)

end Sys2Proof.Machine
end

