-- ==== Sys2Proof/Machine/WriteLog.lean ====
section
/-! DEFINITION. Chapters 4 and 6: placing writes, the mirror, stripe deadlines, map updates, map fetches, reclaim,
checkpoints and the Strike trigger. -/

namespace Sys2Proof.Machine

/-! ### Placing and acknowledging -/

/-- The payloads of a unit of a write: each sector enciphered with its metadata (R85, R91, R337). -/
def State.unitPayloads (s : State) (ord : Nat) (c : Cmd) (u : Nat) : List Payload :=
  let e := s.nsEntry c.ns
  let type := match e with
    | some x => x.nsType
    | none => 0
  let key := c.key.getD (0, KeySlot.blank)
  let n := unitLen c.len u
  (List.range n).map fun i =>
    let off := 128 * u + i
    let data := ((c.fetched.find? fun x => x.1 == off).map (·.2)).getD 0
    encipher s
      { wseq := ord, lba := c.lba + off, ns := c.ns, kind := 0, index := i, last := n - 1, poison := c.marked.contains off
        ledger := c.chain.isSome, retention := decide (type = 2), tagged := false, key := key.1, chain := c.chain.getD 0
        count := if c.chain.isSome then c.lcount else 0, tag := 0 } key.2 data

/-- Whether a stream can take `n` sectors now: its open stripe has room, or closes and leaves its next one (R85, R108, R148). -/
def State.roomFor (s : State) (k n : Nat) : Bool :=
  !s.fn.readOnly && (decide (n ≤ s.freePos k) || decide (n ≤ (s.closeStripe k).freePos k))

/-- What is placed after a stream's DEADLINE ran out in an earlier slot goes into its next stripe: the open one closes first (R64, R65). -/
def State.pastDeadline (s : State) (k : Nat) : State :=
  match (s.stream k).stripe with
  | some o => if o.since + us (s.deadline k) < s.now then s.closeStripe k else s
  | none => s

/-- Send a placed unit to the peer's mirror (R86, R370). -/
def State.mirrorOut (s : State) (k : Nat) (l : List Payload) : State :=
  if s.ships then l.foldl (fun s p => s.emit (.mirror k p)) s else s

/-- WRITE_PLACE: the unit, whole and enciphered, takes consecutive positions of its stream's open stripe and goes to the
mirror; a Ledger write appends its commit record. Over the dirty budget the stream cell waits, with an event; with no space
left the command completes with Capacity Exceeded (R85, R86, R87, R95, R108). -/
def execWritePlace (ord : Nat) (unit : Nat) (s : State) : Res State :=
  .next (
    match s.cmd ord with
    | none => s
    | some c =>
      if c.kind ≠ .write ∨ c.phase ≠ .running ∨ c.units[unit]? ≠ some .whole ∨ s.pair.st = .lapsed ∨ s.log.strike ≠ .idle
          ∨ !s.holder then s
      else
        let n := unitLen c.len unit
        if !s.roomFor c.stream n then (s.checkSpace.failCmd ord 0 0x81 true)
        else if s.dirtyBudget < s.dirty + n then
          if s.log.waiting.contains ord then s
          else (s.onLog fun l => { l with waiting := l.waiting ++ [ord] }).event 0x603 8 c.stream 0
        else
          let pays := s.unitPayloads ord c unit
          let s1 := ((s.pastDeadline c.stream).placeSectors c.stream (pays.map fun p => ⟨p, none, false⟩)).mirrorOut c.stream pays
          let s2 := match c.chain with
            | some ch => s1.journal ⟨7, 0, c.ns, ch, c.lba, c.lcount, ord⟩
            | none => s1
          let s3 := s2.onCmd ord fun c =>
            { c with
              units := putNth c.units unit .placed
              fetched := c.fetched.filter fun e => e.1 / 128 != unit
              placedAt := s.now + 1 }
          let s4 := match c.src with
            | .qp q _ => s3.onCell q fun x => { x with stagingUsed := x.stagingUsed - n }
            | _ => s3
          let s5 := s4.onLog fun l => { l with waiting := l.waiting.filter (· != ord) }
          match s5.cmd ord with
          | some c1 => if c1.allPlaced then (s5.settle ord).tryAck ord else s5
          | none => s5)

/-- Whether a write's mirror timer runs or has run out: every sector placed and no confirmation yet, at the active (R381). -/
def State.mirrorWaits (s : State) (c : Cmd) : Bool := c.allPlaced && !c.mirrored && !c.mirrorLost && s.pair.st == .active

/-- The mirror timer of a write has run out: it counts as a write in SINGLE and the controller enters SINGLE (R379, R381). -/
def State.mirrorLate (s : State) (ord : Nat) : State := ((s.onCmd ord fun c => { c with mirrorLost := true }).setPair .single).tryAll

/-- MIRROR_CONFIRM: the peer has confirmed the write's bytes; a confirmation that lost to the timer, which expired in an earlier slot, is
discarded and counted at the Peer block (R64, R65, R86, "Mirror timeout meets write"). -/
def execMirrorConfirm (ord : Nat) (s : State) : Res State :=
  .next (
    match s.cmd ord with
    | none => s
    | some c =>
      if c.mirrorLost then s.countLate 0x312
      else if s.mirrorWaits c && decide (c.placedAt + us 100 ≤ s.now) then (s.mirrorLate ord).countLate 0x312
      else (s.onCmd ord fun c => { c with mirrored := true }).tryAck ord)

/-- MIRROR_TIMEOUT: 100 µs after the write's last sector was placed without a confirmation, the write counts as a write in
SINGLE and the controller enters SINGLE (R379, R381). -/
def execMirrorTimeout (ord : Nat) (s : State) : Res State :=
  .next (
    match s.cmd ord with
    | none => s
    | some c =>
      if s.mirrorWaits c && decide (c.placedAt + us 100 ≤ s.now + 1) then s.mirrorLate ord else s)

/-- MIRROR_DATA_RX: the standby, or a joining controller, keeps the sector in its mirror buffer and confirms it (R370,
R381). -/
def execMirrorDataRx (stream : Fin 64) (payload : Payload) (s : State) : Res State :=
  .next (
    if s.pair.st = .standby ∨ s.pair.st = .joining then
      (s.onLog fun l => { l with mirrorBuf := l.mirrorBuf ++ [(stream.val, payload)] }).emit (.mirrorAck (mdLba payload) (mdNs payload))
    else s)

/-- The members of a stripe as the peer's stripe journal gives them. -/
def State.peerMembers (s : State) (id : Nat) : List Loc :=
  match s.log.sjPeer.find? fun r => r.stripe == id with
  | some r => r.members
  | none => []

/-- Apply a journal record to the warm map (R370, Table 4.7). -/
def State.applyRec (s : State) (r : JRec) (jpos : Nat) : State :=
  let put (s : State) (lba : Nat) (e : MapEntry) (key : Option Nat) : State :=
    let q := s.readyPage (s.mpnOf r.ns lba)
    (q.2.applyEntry r.ns lba e key).stampPage (s.mpnOf r.ns lba) jpos
  if r.type = 1 ∨ r.type = 2 then
    let m := s.peerMembers r.arg
    let s0 := if r.type = 1 then s.retCount r.ns r.wseq (r.count + 1) else s
    (List.range (r.count + 1)).foldl (fun s i =>
      let pos := r.pos + i
      let place := match s.repairStrip (r.arg / 65536 % 2 ^ 20) (r.arg % 65536) (pos / 16) with
        | some l => some l
        | none => m[pos / 16]?
      match place with
      | some l => let loc := locAt l (pos % 16)
        put s (r.lba + i) loc (s.keyOfLoc loc)
      | none => s) s0
  else if r.type = 3 then (List.range r.arg).foldl (fun s i => put s (r.lba + i) eUnmapped none) s
  else if r.type = 4 then (List.range r.arg).foldl (fun s i => put s (r.lba + i) eZeroes none) (s.retCount r.ns r.wseq r.arg)
  else if r.type = 5 then (List.range (r.count + 1)).foldl (fun s i => put s (r.lba + i) ePoisoned none) s
  else if r.type = 6 then
    if r.lba < 2 ^ 63 then
      if (s.gmd r.lba).resident then s.onSlot r.lba fun p => { p with loc := BitVec.ofNat 40 r.arg }
      else s.onGmd r.lba fun g => { g with loc := BitVec.ofNat 40 r.arg, empty := false }
    else s
  else s

/-- LOG_SHIP_RECORD_RX: the standby, or a joining controller, applies a shipped record to its warm state; its ring keeps the 262,144 most recent
records (R122, R370, Table 15.6). -/
def execLogShipRecordRx (r : ShipRec) (s : State) : Res State :=
  .next (
    if s.pair.st ≠ .standby ∧ s.pair.st ≠ .joining then s
    else match r with
    | .journal jpos type count ns pos lba arg wseq =>
      let rec0 : JRec := ⟨type, count, ns, pos, lba, arg, wseq⟩
      let s1 := s.onLog fun l => 
        { l with journal := (l.journal ++ [(⟨jpos, rec0, false, true⟩ : JSlot)]).drop (l.journal.length + 1 - 262144), jposNext := jpos + 1 }
      s1.applyRec rec0 jpos
    | .stripe id kind stream roles alt padded wseqMax members =>
      let rec0 : SjRec := ⟨id, kind, stream, roles, alt, padded, wseqMax, members⟩
      if kind = 4 then
        let gone := s.log.journal.filter fun j => (j.record.type == 1 || j.record.type == 2) && j.record.arg == id
        s.onLog fun l =>
          { l with
            sjPeer := l.sjPeer.filter fun x => x.stripe != id
            mirrorBuf := l.mirrorBuf.filter fun e => !(gone.any fun j =>
              j.record.ns == mdNs e.2 && j.record.wseq == mdWseq e.2 && meets (mdLba e.2) 1 j.record.lba (j.record.count + 1)) }
      else (s.onLog fun l => { l with sjPeer := l.sjPeer ++ [rec0] }).noteStripe rec0
    | .highWater order => s.onLog fun l => { l with peerHigh := max l.peerHigh order }
    | .chain ns chainNo counter =>
      s.onLog fun l =>
        { l with chains := tabUpd ⟨ns, chainNo, 1, 0, 0, false⟩ l.chains (chainKey ns chainNo) fun c => { c with next := counter } }
    | .reservation q entries tenant held =>
      s.onNvme fun n => { n with resv := if held then tabPut n.resv (2 ^ 20 + q) ⟨entries, tenant, true⟩ else tabDel n.resv (2 ^ 20 + q) }
    | .stripePlace _ _ _ => s
    | .page mpn content =>
      if s.sysPage mpn then s.tookSysPage mpn content
      else (s.installPage mpn (s.gmd mpn).loc (mapPageJpos content) (mapPageEntries content)).2
    | .key slot state mode gen material =>
      s.onCip fun c => { c with slots := tabUpd KeySlot.blank c.slots slot fun k =>
        let n : KeySlot := ⟨state, mode, gen, k.sectors, material, k.check, k.wrapped⟩
        if state = 1 then { n with check := kcv n, wrapped := (s.cip.shelfKey.map fun x => Config.keyWrap x material).getD k.wrapped }
        else { n with wrapped := 0 } })

/-- STRIPE_DEADLINE: a stream's open stripe closes once DEADLINE has run from the placement of its first sector; what
arrives later goes into the next stripe (R65, R89). The map journal's tail goes to its stream with it, a page short of 127
records once DEADLINE has run from its first record (R93, R94; DESIGN CHOICE for the short page). -/
def execStripeDeadline (stream : Fin 64) (s : State) : Res State :=
  .next (
    let k := stream.val
    let old (since : Nat) : Bool := decide (since + us (s.deadline k) ≤ s.now)
    let open_ : Bool := match (s.stream k).stripe with
      | some o => old o.since
      | none => false
    let tail : Bool := s.log.journal.any (fun j => !j.written) && old s.log.tailSince
    if k = 61 ∧ s.logRuns ∧ (open_ || tail) then State.flushTail (s.log.journal.length + 1) s
    else if open_ then s.closeStripe k
    else s)

/-- JOURNAL_PAGE_TIMER: a stripe journal page closes 20 µs after its first record and is programmed to every copy in
service (R157). -/
def execJournalPageTimer (s : State) : Res State :=
  .next (
    match s.log.sjPage with
    | some p => if p.since + us 20 ≤ s.now then s.closeSjPage else s
    | none => s)

/-- MAP_UPDATE_APPLY: the update of one write's sectors in a committed stripe is applied once every earlier overlapping
write's is, with its records, and what waited on it goes on (R93, R122). -/
def execMapUpdateApply (stripe : Nat) (wseq : Nat) (s : State) : Res State :=
  .next ((s.applyUpdate stripe wseq).tryAll)

/-- Go on with what waited for a map page (R76, R99, R166). -/
def State.serveWait (s : State) : MapWait → State
  | .read ord => s.serveRead ord
  | .relocate u loc => s.relocateAt u loc
  | .poison ns lba loc => s.poisonSector ns lba loc

/-- MAP_FETCH_COMPLETE: once the fetched page is in its pool slot, the lookups that waited are served (R76, "Fetch meets
fetch"). -/
def execMapFetchComplete (mpn : Nat) (s : State) : Res State :=
  .next (
    if (s.gmd mpn).resident then
      let w := s.takeWaits mpn
      w.1.foldl State.serveWait w.2
    else s)

/-! ### Reclaim and checkpoints -/

/-- The units that may be victims. -/
def State.victims (s : State) : List Nat := (s.log.units.filter fun e => s.victimOk e.1 e.2).map (·.1)

/-- RECLAIM_VICTIM_SELECT: the eligible unit with the highest score, or with the lowest valid fraction once free units fall
to the reclaim-only part; ties to the lowest number (R98). -/
def execReclaimVictimSelect (s : State) : Res State :=
  .next (
    if !s.logRuns then s
    else
      let pick := if s.freeUnits ≤ s.reclaimReserve then
          bestBy (fun u => s.effValid u * 2 ^ 32 / (max 1 (s.unit u).sectors)) s.victims
        else bestBy (fun u => 2 ^ 110 - s.score u) s.victims
      match pick with
      | some u => s.onUnit u fun x => { x with st := .victim }
      | none => s)

/-- RELOCATION: a valid codeword of a victim is read for its reclaim stream; a map page is marked dirty, and a GMD page is
left to the next checkpoint (R99); a codeword of a live repair strip has its whole role written as a repair strip again (R169). -/
def execRelocation (loc : Loc) (s : State) : Res State :=
  .next (
    match s.locUnit loc with
    | none => s
    | some u =>
      if (s.unit u).st ≠ .victim ∨ !s.logRuns then s
      else if (s.stripsIn u).contains (pageSet loc) then
        match s.stripeOf loc with
        | some (v, i, r) => if s.batchRoom 1 && !s.inBatch v i r then s.addRepair v i r loc [] else s
        | none => s
      else s.relocateAt u loc)

/-- Whether a victim waits for a checkpoint while free units are below twice the reclaim-only part (R100, R102). -/
def State.eraseWaits (s : State) (u : Nat) : Bool :=
  let x := s.unit u
  x.st == .victim && (x.stream == 61 || x.valid == 0) && !s.eraseMay u && decide (s.freeUnits < 2 * s.reclaimReserve)

/-- RECLAIM_ERASE: a victim is erased once a durable checkpoint has passed the record that emptied it; while it waits for one with few free
units a checkpoint begins (R100, R102). -/
def execReclaimErase (unit : Nat) (s : State) : Res State :=
  .next (
    if s.eraseMay unit ∧ s.logRuns ∧ !s.sheet.programsHeld then
      (s.onUnit unit fun x => { x with st := .erasing, erasesLeft := 0 }).issueErases unit
    else if s.eraseWaits unit ∧ s.logRuns then s.startCkpt.ckptStep
    else s)

/-- CHECKPOINT_START: a checkpoint begins: the journal tail and the dirty map pages first (R101, R102). -/
def execCheckpointStart (s : State) : Res State := .next (if s.logRuns then s.startCkpt.ckptStep else s)

/-- STRIKE_TRIGGER: the lease holder runs Strike, armed or not; another controller stops intake and forwarding (R104, R396,
Table 4.8). -/
def execStrikeTrigger (s : State) : Res State :=
  .next (
    if !s.bpd.strikeTrig ∨ !s.awake then s
    else if s.holder then s.beginStrike.strikeEnd
    else s.onSched fun x => { x with intakeStopped := true })

end Sys2Proof.Machine
end

