-- ==== Sys2Proof/Machine/Rdma.lean ====
section
/-! DEFINITION. Chapter 11: queue pairs, receive buffers, inbound sequence, fetching host data, sending to the host
and congestion. -/

namespace Sys2Proof.Machine

/-! ### Small operations -/

/-- The queue pair a destination QPN names (Table 11.1): bits [15:14] and [23:18] 0 and [17:16] this controller's slot. -/
def State.qpnIndex (s : State) (qpn : BitVec 24) : Option Nat :=
  let n := qpn.toNat
  if bits n 15 14 = 0 ∧ bits n 23 18 = 0 ∧ bits n 17 16 = s.boot.board.slot then some (n % 16384) else none

/-- The QPN of queue pair `q` (Table 11.1). -/
def State.qpnOf (s : State) (q : Nat) : Nat := q + 65536 * s.boot.board.slot

/-- The port rate in Mb/s of a queue pair's front port (R297, Table 13.2). -/
def State.portRate (s : State) (x : Qp) : Nat :=
  match s.portEntry x.port with
  | some e => if e.breakout = 0 then 800000 else if e.breakout = 1 then 400000 else 200000
  | none => 800000

/-- One more dropped packet in the cell of queue pair `q` (R277, R282). -/
def State.dropPkt (s : State) (q : Nat) : State := s.onCell q fun c => { c with dropped := c.dropped + 1 }

/-- How far PSN `p` lies beyond PSN `e`, modulo 2^24 (R287). -/
def psnDist (p e : BitVec 24) : Nat := (p - e).toNat

/-- Queue pairs not in FREE in a cell (R278). -/
def State.cellLoad (s : State) (cell : Nat) : Nat :=
  (s.rdma.qps.filter fun e => e.1 % 16 == cell && e.2.st != .free).length

/-- The lowest free index of a cell (R278). -/
def State.freeIndex (s : State) (cell : Nat) : Option Nat :=
  ((List.range 1024).map fun k => cell + 16 * k).find? fun q => (s.qp q).st == .free

/-- The index a new queue pair takes: the cell with the fewest queue pairs, ties to the lowest (R278). -/
def State.chooseQp (s : State) : Option Nat :=
  let cells := (List.range 16).filter fun c => decide (s.cellLoad c < 1024)
  let best := cells.foldl (fun (b : Option Nat) c =>
    match b with
    | none => some c
    | some x => if s.cellLoad c < s.cellLoad x then some c else b) none
  best.bind s.freeIndex

/-- Sectors of a unit whose staging slots a write has reserved (R289). -/
def Cmd.reservedIn (c : Cmd) (u : Nat) : Nat := min (unitLen c.len u) (c.fetchNext - 128 * u)

/-- Staging slots that ending the incomplete units of a write releases. -/
def Cmd.endedSlots (c : Cmd) : Nat :=
  ((List.range (unitCount c.len)).filter fun u => nth c.units u .fetching == .fetching && !c.unitWhole u).foldl
    (fun n u => n + c.reservedIn u) 0

/-- Sector offsets of the units that lack data. -/
def Cmd.endedOffsets (c : Cmd) : List Nat :=
  ((List.range (unitCount c.len)).filter fun u => nth c.units u .fetching == .fetching && !c.unitWhole u).flatMap fun u =>
    (List.range (unitLen c.len u)).map fun i => 128 * u + i

/-- A queue pair's end meets a write or compare in flight: units with their data whole go on, the others end without
effect, release their slots and leave the overlap table; a Ledger write ended this way halts its chain (R264, R283
"Disconnect meets fetch"). -/
def State.endFetch (s : State) (ord : Nat) : State :=
  match s.cmd ord with
  | none => s
  | some c =>
    if c.phase ≠ .running then s.onCmd ord fun c => { c with orphan := true }
    else if c.kind = .compare then
      if c.fetched.length < c.len then
        (match c.src with
          | .qp q _ => s.onCell q fun x => { x with stagingUsed := x.stagingUsed - min c.len c.fetchNext }
          | _ => s).finish ord 3 2 false 0
      else s
    else if c.kind = .write then
      let freed := c.endedSlots
      let offs := c.endedOffsets
      let s1 := match c.src with
        | .qp q _ => s.onCell q fun x => { x with stagingUsed := x.stagingUsed - freed }
        | _ => s
      let s2 := (s1.onCmd ord Cmd.endIncomplete).onSched fun x =>
        { x with overlap := tabMod x.overlap ord fun o => { o with superseded := o.superseded ++ offs } }
      match s2.cmd ord with
      | none => s2
      | some d =>
        if d.units.all (· == .ended) then (if d.chain.isSome then s2.failCmd ord 7 0xC4 false else (s2.settle ord).finishOk ord)
        else if d.allPlaced then (s2.settle ord).tryAck ord
        else s2
    else s

/-- A queue pair enters FLUSHING: capsules without an order number are discarded, nothing more is sent, its
submission queue entries return to the total, its Ledger chain is unbound, and its fetches end (R251, R269, R283). -/
def State.flushQp (s : State) (q : Nat) : State :=
  let x := s.qp q
  if x.st ≠ .ready then s
  else
    let used := x.sends.length
    let s1 := s.onQp q fun x =>
      { x with
        st := .flushing, since := s.now, held := [], heldSince := none, inq := [], cqes := [], sends := [], reqs := [],
        chain := none }
    let s2 := s1.onCell q fun c => { c with sendUsed := c.sendUsed - used }
    let s3 := match x.chain with
      | some (ns, ch) =>
        let k := chainKey ns ch
        s2.onLog fun l => { l with chains := tabPut l.chains k { s2.chain k with bound := false } }
      | none => s2
    let s4 := s3.onNvme fun n => { n with resv := tabMod n.resv q fun r => { r with entries := 0 } }
    let recalled := s4.nvme.forwards.filter fun e => e.2.1 == q
    let s5 := recalled.foldl (fun s e => s.emit (.recall e.1)) s4
    let s6 := s5.onNvme fun n => { n with forwards := n.forwards.filter fun e => e.2.1 != q }
    let mine := s6.sched.cmds.filter fun e => match e.2.src with
      | .qp q2 _ => q2 == q
      | _ => false
    mine.foldl (fun s e => s.endFetch e.1) s6

/-- A queue pair enters FLUSHING for a transport failure, with the tenant's event (R283, R295, ES 0x800 + t). -/
def State.failQp (s : State) (q : Nat) : State :=
  let x := s.qp q
  let s1 := s.flushQp q
  match x.tenant with
  | some t => s1.event (0x800 + t) 0x0A (3 + 256 * s.qpnOf q) 0
  | none => s1

/-- A controller is torn down: every queue of its association goes to FLUSHING and the controller is gone (R252). -/
def State.teardownCtl (s : State) (c : Nat) : State :=
  let mine := s.rdma.qps.filter fun e => e.2.ctl == some c && e.2.st == .ready
  (mine.foldl (fun s e => s.flushQp e.1) s).onNvme fun n => { n with ctls := tabDel n.ctls c }

/-- A queue is deleted or disconnected; an admin queue takes its whole association with it (R252, R269). -/
def State.closeQueue (s : State) (q : Nat) : State :=
  let x := s.qp q
  match x.ctl with
  | some c => if x.admin ∧ x.st = .ready then s.teardownCtl c else s.flushQp q
  | none => s.flushQp q

/-- One more retry of a queue pair; past its retry count it goes to FLUSHING with an event (R291, R295). -/
def State.countRetry (s : State) (q : Nat) : Bool × State :=
  let x := s.qp q
  if x.retryMax ≤ x.retries then (false, s.failQp q) else (true, s.onQp q fun x => { x with retries := x.retries + 1 })

/-- A packet's common checks (R277, R282, R296): QPN, state, P_Key, ICRC and address; a CONNECTING queue pair becomes
READY by a valid packet; a CE mark owes a CNP at most once in 50 µs. -/
def State.acceptPkt (s : State) (h : PktHdr) : Option Nat × State :=
  if !s.awake then (none, s) else
  match s.qpnIndex h.qpn with
  | none => (none, s.dropPkt h.qpn.toNat)
  | some q =>
    let x := s.qp q
    if x.st = .free ∨ x.st = .timewait ∨ !h.pkeyOk ∨ !h.icrcOk ∨ !h.addrOk then (none, s.dropPkt q)
    else
      let s1 := if x.st = .connecting then s.onQp q fun x => { x with st := .ready, since := s.now } else s
      let due : Bool := match x.lastCnpTx with
        | some t => decide (t + us 50 ≤ s.now)
        | none => true
      let s2 := if h.ce ∧ due then (s1.sendCtl q .cnp 0 0).onQp q fun x => { x with lastCnpTx := some s.now } else s1
      (some q, s2)

/-! ### Connections (R278, R282, R283) -/

/-- CM_REQUEST: a request within Table 11.5 takes a free index and goes to CONNECTING; any other is rejected with no queue
pair made (R278, R282 to R284, Table 11.9). -/
def execCmRequest (req : CmReq) (s : State) : Res State :=
  .next (
    let pmtuOk : Bool := req.pmtu == 1024 || req.pmtu == 2048 || req.pmtu == 4096
    if !s.awake then s else
    match (if req.optionsOk && pmtuOk && s.nrUp then s.chooseQp else none) with
    | none => s.emit .cmReject
    | some q =>
      let t := if req.ackT = 0 then 8 else max 8 (min 18 req.ackT)
      let x : Qp :=
        { Qp.reset with
          st := .connecting, since := s.now, port := req.frontPort.val, addr := req.addr, hostQpn := req.hostQpn,
          pmtu := req.pmtu, qid := req.qid, entries := req.sqEntries, responder := req.responder, ackT := t,
          retryMax := max 1 req.retry, rnrMax := req.rnrRetry, ePsn := req.startPsn, alpha := 65536 }
      let rate := s.portRate x
      (s.onRdma fun r => { r with qps := tabPut r.qps q { x with rc := rate, rt := rate } }).emit (.cm q true))

/-- CM_READY_TO_USE: CONNECTING becomes READY (R283). -/
def execCmReadyToUse (q : Fin 16384) (s : State) : Res State :=
  .next (if !s.awake then s else if (s.qp q.val).st = .connecting then s.onQp q.val fun x => { x with st := .ready, since := s.now } else s)

/-- To TIMEWAIT, the queue pair keeping nothing it had in hand (R283). -/
def State.toTimewait (s : State) (q : Nat) : State :=
  s.onQp q fun x => { x with st := .timewait, since := s.now, inq := [], held := [], ledgerWait := [] }

/-- CM_REJECT_RX: CONNECTING becomes TIMEWAIT (R283). -/
def execCmRejectRx (q : Fin 16384) (s : State) : Res State :=
  .next (if !s.awake then s else if (s.qp q.val).st = .connecting then s.toTimewait q.val else s)

/-- CM_DISCONNECT: READY becomes FLUSHING (R269, R283). -/
def execCmDisconnect (q : Fin 16384) (s : State) : Res State := .next (if !s.awake then s else s.closeQueue q.val)

/-- CONNECTING_TIMEOUT: no ready-to-use message within 1 s (R283). -/
def execConnectingTimeout (q : Fin 16384) (s : State) : Res State :=
  .next (
    if !s.awake then s else
    let x := s.qp q.val
    if x.st = .connecting ∧ x.since + secs 1 ≤ s.now then s.toTimewait q.val else s)

/-- TIMEWAIT_EXPIRY: 100 ms in TIMEWAIT, then FREE; the queue pair no longer counts against any limit (R251, R283). -/
def execTimewaitExpiry (q : Fin 16384) (s : State) : Res State :=
  .next (
    if !s.awake then s else
    let x := s.qp q.val
    if x.st = .timewait ∧ x.since + ms 100 ≤ s.now then
      (s.onRdma fun r => { r with qps := tabDel r.qps q.val }).onNvme fun n => { n with resv := tabDel n.resv q.val }
    else s)

/-- Whether a command of queue pair `q` still holds an order number (R269). -/
def State.qpBusy (s : State) (q : Nat) : Bool :=
  s.sched.cmds.any fun e => match e.2.src with
    | .qp q2 _ => q2 == q
    | _ => false

/-- QP_FLUSH_COMPLETE: every ordered command of the FLUSHING queue pair has ended (R283). -/
def execQpFlushComplete (q : Fin 16384) (s : State) : Res State :=
  .next (if !s.awake then s else if (s.qp q.val).st = .flushing ∧ !s.qpBusy q.val then s.toTimewait q.val else s)

/-! ### Inbound (R284 to R288) -/

/-- Held capsules that follow PSN `e` without a gap, with the PSN expected next and those left (R287). -/
def takeHeld : Nat → BitVec 24 → List (Nat × Capsule) → List Capsule × BitVec 24 × List (Nat × Capsule)
  | 0, e, h => ([], e, h)
  | n + 1, e, h =>
    match h.find? fun x => x.1 == e.toNat with
    | none => ([], e, h)
    | some x =>
      let r := takeHeld n (e + 1) (h.filter fun y => y.1 != e.toNat)
      (x.2 :: r.1, r.2.1, r.2.2)

/-- RDMA_SEND_RX: a capsule by its PSN: accepted with the held ones behind it, held, discarded, answered with a NAK, or
acknowledged as a duplicate (R284 to R288, Table 11.8). -/
def execRdmaSendRx (h : PktHdr) (c : Capsule) (s : State) : Res State :=
  .next (
    if !s.nrUp then s else
    match s.acceptPkt h with
    | (none, s1) => s1
    | (some q, s1) =>
      let x := s1.qp q
      let d := psnDist h.psn x.ePsn
      if 2 ^ 23 ≤ d then
        (s1.sendAck q).onCell q fun k => { k with duplicates := k.duplicates + 1 }
      else if x.st ≠ .ready then s1
      else if d = 0 then
        if x.freeBufs = 0 then
          s1.sendCtl q .nak x.ePsn 0x21
        else
          let r := takeHeld x.held.length (x.ePsn + 1) x.held
          let s2 := s1.onQp q fun x =>
            { x with
              ePsn := r.2.1, held := r.2.2, inq := x.inq ++ (c :: r.1), msn := (x.msn + 1 + r.1.length) % 2 ^ 24,
              nakOut := false, heldSince := if r.2.2.isEmpty then none else some s.now,
              ackDue := match x.ackDue with
                | some t => some t
                | none => some (s.now + us 2) }
          if h.ackReq then s2.sendAck q else s2
      else if d ≤ 255 then
        if x.held.any fun e => e.1 == h.psn.toNat then s1.dropPkt q
        else if d < x.freeBufs then
          s1.onQp q fun x =>
            { x with
              held := x.held ++ [(h.psn.toNat, c)]
              heldSince := match x.heldSince with
                | some t => some t
                | none => some s.now }
        else s1.dropPkt q
      else if x.nakOut then s1
      else (s1.sendCtl q .nak x.ePsn 0x60).onQp q fun x => { x with nakOut := true })

/-- RDMA_REQUEST_GAP_TIMER: the expected PSN is still unfilled 32 µs after a packet was held ahead of it (R287). -/
def execRdmaRequestGapTimer (q : Fin 16384) (s : State) : Res State :=
  .next (
    if !s.awake then s else
    let x := s.qp q.val
    match x.heldSince with
    | some t =>
      if x.st = .ready ∧ t + us 32 ≤ s.now then
        (s.sendCtl q.val .nak x.ePsn 0x60).onQp q.val fun x => { x with nakOut := true, heldSince := some s.now }
      else s
    | none => s)

/-- RDMA_ACK_COALESCE_TIMER: the ACK due at most 2 µs after a packet was accepted (R287). -/
def execRdmaAckCoalesceTimer (q : Fin 16384) (s : State) : Res State :=
  .next (
    if !s.awake then s else
    match (s.qp q.val).ackDue with
    | some t => if t ≤ s.now then s.sendAck q.val else s
    | none => s)

/-- RDMA_OPCODE_REFUSED: a NAK Invalid Request, and the queue pair enters FLUSHING with its event (R282, R283). -/
def execRdmaOpcodeRefused (h : PktHdr) (opcode : Nat) (s : State) : Res State :=
  .next (
    let known := opcode = 0x04 ∨ opcode = 0x11 ∨ (0x0D ≤ opcode ∧ opcode ≤ 0x10) ∨ opcode = 0x81
    if known then s
    else
      match s.acceptPkt h with
      | (none, s1) => s1
      | (some q, s1) => if (s1.qp q).st = .ready then (s1.sendCtl q .nak h.psn 0x61).failQp q else s1)

/-- CAPSULE_TO_INTAKE: the oldest capsule of a queue pair moves to its intake input when its lane has a staging credit:
it is visible from the second slot edge after the hand-over, plus the edge delay that is a timing freedom (R56, R57,
R284). A capsule before the Connect, or one that takes no order number, stays for its own command. -/
def execCapsuleToIntake (q : Fin 16384) (delay : Fin 3) (s : State) : Res State :=
  .next (
    if !s.awake then s else
    let x := s.qp q.val
    match x.st, x.inq, x.tenant with
    | .ready, c :: t, some tenant =>
      match capKind x.admin c with
      | none => s
      | some k =>
        if s.pair.st = .standby then s
        else
        let lane := s.laneFor k (capNs c) tenant
        if !s.hasCredit lane then s
        else
          let head : Head :=
            { src := .qp q.val c.cid, cap := c, kind := k, ns := capNs c, visible := s.now + 2 + delay.val, lane := lane,
              data := [], marked := [] }
          (s.onQp q.val fun x => { x with inq := t }).enqueue (q.val % 16) head
    | _, _, _ => s)

/-! ### Fetching host data (R289 to R292) -/

/-- The key of a forwarded command in the standby's own command table: above every order number (R271). -/
def fwdKey (handle : Nat) : Nat := 2 ^ 70 + handle

/-- The write or compare of queue pair `q`, oldest first, that still has data to ask for. -/
def State.nextFetch (s : State) (q : Nat) : Option (Nat × Cmd) :=
  s.sched.cmds.find? fun e =>
    (e.2.kind == .write || e.2.kind == .compare) && e.2.phase == .running && !e.2.orphan && decide (e.2.fetchNext < e.2.len)
      && (match e.2.src with
        | .qp q2 _ => q2 == q
        | _ => false)

/-- PSNs of a request (R289). -/
def RdReq.packets (r : RdReq) (pmtu : Nat) : Nat := (r.length + pmtu - 1) / pmtu

/-- The window base: the first response PSN of the oldest outstanding request, else the next send PSN (R289). -/
def Qp.windowBase (x : Qp) : BitVec 24 :=
  match x.reqs with
  | r :: _ => BitVec.ofNat 24 r.firstPsn
  | [] => x.sPsn

/-- RDMA_READ_ISSUE: one request of at most 128 KiB for the oldest command of the queue pair with data to fetch, when the
window, the request count and the staging slots allow (R289, R290). -/
def execRdmaReadIssue (q : Fin 16384) (s : State) : Res State :=
  .next (
    if !s.awake then s else
    let x := s.qp q.val
    match s.nextFetch q.val with
    | none => s
    | some (ord, c) =>
      let n := min 32 (c.len - c.fetchNext)
      let bytes := 4096 * n
      let pk := (bytes + x.pmtu - 1) / x.pmtu
      let last := x.sPsn + BitVec.ofNat 24 pk - 1
      if x.st ≠ .ready ∨ 16 ≤ x.reqs.length ∨ x.responder ≤ x.reqs.length ∨ 256 ≤ psnDist last x.windowBase
          ∨ 512 < (s.cell q.val).stagingUsed + n then s
      else
        let r : RdReq :=
          { ord := ord, offset := 4096 * c.fetchNext, length := bytes, firstPsn := x.sPsn.toNat, got := [], chunks := [],
            higherAt := none, reissue := false, sentAt := s.now }
        let s1 := s.sendPkt q.val (.readRequest x.sPsn.toNat (c.cap.sglAddr + r.offset) c.cap.sglKey bytes) 16
        let s2 := s1.onQp q.val fun x => { x with reqs := x.reqs ++ [r], sPsn := x.sPsn + BitVec.ofNat 24 pk }
        let s3 := s2.onCell q.val fun k => { k with stagingUsed := k.stagingUsed + n }
        s3.onCmd ord fun c => { c with fetchNext := c.fetchNext + n })

/-- A sector of a request whose packets have all arrived, from the packets' payloads. -/
def RdReq.sector (r : RdReq) (pmtu k : Nat) : Option Sector :=
  let per := 4096 / pmtu
  let idx := (List.range per).map fun j => per * k + j
  if idx.all r.got.contains then
    some (BitVec.ofNat 32768 (idx.foldl (fun a i =>
      match r.chunks.find? fun e => e.1 == i with
      | some e => a + (e.2.toNat % 2 ^ (8 * pmtu)) * 2 ^ (8 * pmtu * (i - per * k))
      | none => a) 0))
  else none

/-- The sectors of a request that are whole, as offsets within the command. -/
def RdReq.sectors (r : RdReq) (pmtu : Nat) : List (Nat × Sector) :=
  (List.range (r.length / 4096)).filterMap fun k => (r.sector pmtu k).map fun d => (r.offset / 4096 + k, d)

/-- Sectors that have become whole join the command; a unit with all its sectors is whole (R49, R290). -/
def Cmd.addSectors (c : Cmd) (l : List (Nat × Sector)) : Cmd :=
  let c1 := l.foldl (fun (c : Cmd) e =>
    if c.fetched.any (fun f => f.1 == e.1) || nth c.units (e.1 / 128) .fetching != .fetching then c
    else { c with fetched := c.fetched ++ [e] }) c
  { c1 with
    units := (List.range (unitCount c1.len)).map fun u =>
      match nth c1.units u .fetching with
      | .fetching => if c1.unitWhole u then .whole else .fetching
      | x => x }

/-- On the standby, a forwarded write or compare whose data is whole leaves for the active with it (R271). -/
def State.forwardWhole (s : State) (ord : Nat) : State :=
  match s.cmd ord with
  | none => s
  | some c =>
    if 2 ^ 70 ≤ ord ∧ c.fetched.length = c.len then
      let data := (List.range c.len).filterMap fun i => (c.fetched.find? fun e => e.1 == i).map (·.2)
      let s1 := match c.src with
        | .qp q _ => s.onCell q fun k => { k with stagingUsed := k.stagingUsed - c.len }
        | _ => s
      (s1.emit (.forward (ord - 2 ^ 70) c.cap data)).dropCmd ord
    else s

/-- A response packet's place: the outstanding request that holds its PSN. -/
def Qp.reqOf (x : Qp) (psn : BitVec 24) : Option RdReq :=
  x.reqs.find? fun r => decide (psnDist psn (BitVec.ofNat 24 r.firstPsn) < r.packets x.pmtu)

/-- RDMA_READ_RESPONSE_RX: late packets are dropped and counted, a set bit discards, any other payload is placed by its
PSN's offset; a request with its bitmap full is complete (R290, R291). -/
def execRdmaReadResponseRx (h : PktHdr) (bytes : Nat) (payload : Sector) (s : State) : Res State :=
  .next (
    match s.acceptPkt h with
    | (none, s1) => s1
    | (some q, s1) =>
      let x := s1.qp q
      match (if 256 ≤ psnDist h.psn x.windowBase then none else x.reqOf h.psn) with
      | none => s1.onCell q fun c => { c with late := c.late + 1 }
      | some r =>
        let i := psnDist h.psn (BitVec.ofNat 24 r.firstPsn)
        if r.got.contains i then s1
        else if bytes ≠ min x.pmtu (r.length - i * x.pmtu) then s1.dropPkt q
        else
          let r1 : RdReq := { r with got := i :: r.got, chunks := (i, payload) :: r.chunks, sentAt := s1.now }
          let full := r1.got.length = r1.packets x.pmtu
          let mark (y : RdReq) : RdReq :=
            let missing := (List.range (y.packets x.pmtu)).any fun j =>
              !y.got.contains j && decide (psnDist (BitVec.ofNat 24 (y.firstPsn + j)) x.windowBase < psnDist h.psn x.windowBase)
            if missing ∧ y.higherAt = none then { y with higherAt := some s1.now } else y
          let reqs := (x.reqs.map fun y => if y.firstPsn = r.firstPsn then r1 else y).map mark
          let s2 := s1.onQp q fun x =>
            { x with reqs := if full then reqs.filter fun y => y.firstPsn != r.firstPsn else reqs }
          (s2.onCmd r.ord fun c => c.addSectors (r1.sectors x.pmtu)).forwardWhole r.ord)

/-- Re-issue a request from its first missing PSN to its end, at the same PSN, for one retry (R291). -/
def State.readAgain (s : State) (q : Nat) (r : RdReq) : State :=
  let x := s.qp q
  match (List.range (r.packets x.pmtu)).find? fun j => !r.got.contains j with
  | none => s
  | some m =>
    match s.countRetry q with
    | (false, s1) => s1
    | (true, s1) =>
      match s1.cmd r.ord with
      | none => s1
      | some c =>
        let s2 := s1.sendPkt q (.readRequest ((r.firstPsn + m) % 2 ^ 24) (c.cap.sglAddr + r.offset + m * x.pmtu) c.cap.sglKey
          (r.length - m * x.pmtu)) 16
        s2.onQp q fun x =>
          { x with
            reqs := x.reqs.map fun y =>
              if y.firstPsn = r.firstPsn then { y with reissue := true, higherAt := none, sentAt := s.now } else y }

/-- RDMA_RESPONSE_GAP_TIMER: a response is missing 32 µs after one with a higher PSN arrived (R291). -/
def execRdmaResponseGapTimer (q : Fin 16384) (s : State) : Res State :=
  .next (
    if !s.awake then s else
    match (s.qp q.val).reqs.find? fun r => !r.reissue && (match r.higherAt with
      | some t => decide (t + us 32 ≤ s.now)
      | none => false) with
    | some r => s.readAgain q.val r
    | none => s)

/-- The ACK timeout in slots: 4.096 µs × 2^T (Table 11.9). -/
def Qp.ackTimeout (x : Qp) : Nat := 65536 * 2 ^ x.ackT / 10

/-- Resend from the oldest unacknowledged packet (R295). -/
def State.resend (s : State) (q : Nat) : State :=
  match (s.qp q).sends with
  | [] => s
  | e :: _ =>
    (s.emit (.rdma q (.resendFrom e.psn))).onQp q fun x => { x with sends := x.sends.map fun f => { f with sentAt := s.now } }

/-- RDMA_ACK_TIMEOUT: the oldest unacknowledged packet is resent from, or a request with no response for that long is
re-issued; each counts one retry (R291, R295). -/
def execRdmaAckTimeout (q : Fin 16384) (s : State) : Res State :=
  .next (
    if !s.awake then s else
    let x := s.qp q.val
    let late (t : Nat) : Bool := decide (t + x.ackTimeout ≤ s.now)
    if x.st ≠ .ready then s
    else if (x.sends.head?.map fun e => late e.sentAt).getD false then
      match s.countRetry q.val with
      | (false, s1) => s1
      | (true, s1) => s1.resend q.val
    else
      match x.reqs.find? fun r => late r.sentAt with
      | some r => s.readAgain q.val r
      | none => s)

/-! ### Sending to the host (R293 to R295) -/

/-- Acknowledge every packet up to `psn`: its send entries are free again (R293). -/
def State.freeSends (s : State) (q : Nat) (psn : BitVec 24) : State :=
  let x := s.qp q
  let gone := x.sends.filter fun e => decide (psnDist psn (BitVec.ofNat 24 e.psn) < 2 ^ 23)
  (s.onQp q fun x =>
    { x with
      sends := x.sends.filter fun e => decide (2 ^ 23 ≤ psnDist psn (BitVec.ofNat 24 e.psn))
      retries := if gone.isEmpty then x.retries else 0
      rnrTries := if gone.isEmpty then x.rnrTries else 0 }).onCell q fun c => { c with sendUsed := c.sendUsed - gone.length }

/-- RDMA_ACK_RX: acknowledged send entries are freed and the host's credit count is taken; what waited is sent (R293,
R294). -/
def execRdmaAckRx (h : PktHdr) (_msn : Nat) (code : Nat) (s : State) : Res State :=
  .next (
    match s.acceptPkt h with
    | (none, s1) => s1
    | (some q, s1) =>
      if (s1.qp q).st ≠ .ready then s1
      else
        let s2 := (s1.freeSends q h.psn).onQp q fun x =>
          { x with hostCredit := if code = 31 then 65536 else nth creditCounts code 0 }
        s2.pump q (s2.qp q).cqes.length)

/-- RDMA_NAK_RX: a sequence error resends from the PSN named, an RNR NAK waits out its timer within the RNR retry count,
and any other NAK sends the queue pair to FLUSHING with its event (R283, R294, R295). -/
def execRdmaNakRx (h : PktHdr) (kind : NakKind) (s : State) : Res State :=
  .next (
    match s.acceptPkt h with
    | (none, s1) => s1
    | (some q, s1) =>
      let x := s1.qp q
      if x.st ≠ .ready then s1
      else
        match kind with
        | .sequenceError =>
          match (s1.freeSends q (h.psn - 1)).countRetry q with
          | (false, s2) => s2
          | (true, s2) => s2.resend q
        | .rnr t =>
          let s2 := s1.freeSends q (h.psn - 1)
          if x.rnrMax ≠ 7 ∧ x.rnrMax ≤ x.rnrTries then s2.failQp q
          else s2.onQp q fun x => { x with rnrTries := x.rnrTries + 1, rnrUntil := s.now + us t }
        | .remoteAccess | .remoteOperational | .invalidRequest => s1.failQp q)

/-- RDMA_RNR_RETRY_TIMER: the timer an RNR NAK named has run out: resend (R294). -/
def execRdmaRnrRetryTimer (q : Fin 16384) (s : State) : Res State :=
  .next (
    if !s.awake then s else
    let x := s.qp q.val
    if x.st = .ready ∧ 0 < x.rnrUntil ∧ x.rnrUntil ≤ s.now then (s.onQp q.val fun x => { x with rnrUntil := 0 }).resend q.val
    else s)

/-- NUMD of Get Log Page: CDW11 [15:0] over CDW10 [31:16]. -/
def logNumd (c : Capsule) : Nat := c.cdw11 % 65536 * 65536 + c.cdw10 / 65536 % 65536

/-- Bytes that a command returns to its host: a read's sectors, or the bytes a log page request asks for. -/
def Cmd.outBytes (c : Cmd) : Nat :=
  if c.kind = .log then 4 * (logNumd c.cap + 1) else 4096 * c.results.length

/-- Sector `i` of what a command returns. -/
def Cmd.outSector (c : Cmd) (i : Nat) : Sector :=
  match c.results.find? fun e => e.1 == i with
  | some e => rdPlain e.2
  | none => 0

/-- Send RDMA WRITE packets of a command's data while send entries are free (R293). -/
def State.sendData (s : State) (q ord : Nat) : Nat → State
  | 0 => s
  | fuel + 1 =>
    match s.cmd ord with
    | none => s
    | some c =>
      let x := s.qp q
      let at_ := c.fetchNext
      if c.outBytes ≤ at_ ∨ !s.sendFree q then s
      else
        let n := min x.pmtu (c.outBytes - at_)
        let d : Sector := (c.outSector (at_ / 4096)) >>> (8 * (at_ % 4096))
        let s1 := (s.sendPkt q (.rdmaWrite x.sPsn.toNat (c.cap.sglAddr + at_) c.cap.sglKey d) n).takeSend q false n
        (s1.onCmd ord fun c => { c with fetchNext := at_ + n }).sendData q ord fuel

/-- The status a read's data ends with: success, or Integrity Check Failed naming the first sector (R273). -/
def Cmd.readStatus (c : Cmd) : Nat × Nat × Nat :=
  match c.readError with
  | some (_, sct, sc) => (sct, sc, 0)
  | none =>
    match c.firstTagFail with
    | some i => (7, 0xC0, 1 + 65536 * i)
    | none =>
      match c.status with
      | some (a, b, _) => (a, b, c.lcount)
      | none => (0, 0, 0)

/-- Whether a command came from a mailbox. -/
def CmdSrc.isMbx : CmdSrc → Bool
  | .mbx _ => true
  | _ => false

/-- A mailbox read's data goes out by DMA (R413, R415, R425): with bus mastering off it is held; sectors that cannot be read go out as
zeros marked with EP, each TLP counted, and the command completes with POISONED_DATA. A TLP carries 128 bytes, the least
Max_Payload_Size (PRESUMED). A command whose mailbox no longer awaits it only ends. -/
def State.mbxDataOut (s : State) (ord : Nat) (c : Cmd) (m : Nat) : State :=
  match (s.mbx m).wait with
  | .running _ =>
    if !s.master then s.onMbx m fun b => { b with dmaHold := true }
    else
      let bad := (c.results.filter fun e => match e.2 with
        | .unrecovered | .marked | .notReady => true
        | _ => false).length
      let bytes := 4096 * c.results.length
      let s1 := s.emit (.dmaData m ((List.range c.results.length).map c.outSector))
      let s2 := if bad = 0 then s1 else
        (s1.emit (.dmaWrite m (4096 * bad) true)).onMgmt fun g => { g with poisonOut := satAdd (2 ^ 32 - 1) g.poisonOut (32 * bad) }
      let st := c.readStatus
      let code := if bad = 0 then mbxStorage st.1 st.2.1 else 0xE
      ((s2.countError (s2.tenantOf c) st.1 st.2.1).answer m { mkResp 0 code 0 with order := ord, xfer := bytes }).dropCmd ord
  | _ => s.dropCmd ord

/-- READ_DATA_TO_HOST: a read whose sectors are all present is written to host memory by RDMA WRITE, then completed; a
sector that cannot be given completes the read with no data. A forwarded read's data goes back over the peer link, a
mailbox's by its own transfer (R166, R271, R273, R274, R293). -/
def execReadDataToHost (ord : Nat) (s : State) : Res State :=
  .next (
    if !s.awake then s else
    match s.cmd ord with
    | none => s
    | some c =>
      if (c.kind ≠ .read ∧ c.kind ≠ .log) ∨ c.phase ≠ .running ∨ !c.allRead then s
      else
        let st := c.readStatus
        let dnr : Bool := st.1 != 0
        let s1 := s.settle ord
        let s0 := match (if c.readError.isNone && c.fetchNext == 0 then c.firstTagFail else none) with
          | some i =>
            let lba := c.lba + i
            s1.event (0x800 + s.tenantOf c) 0x0A (1 + 2 ^ 8 * (c.ns + 1) + 2 ^ 40 * (lba / 2 ^ 32)) (lba % 2 ^ 32)
          | none => s1
        if c.readError.isSome && !c.src.isMbx then s0.finish ord st.1 st.2.1 true 0
        else
          match c.src with
          | .qp q _ =>
            if (s.qp q).st ≠ .ready then s0.finish ord st.1 st.2.1 dnr st.2.2
            else
              let s1 := s0.sendData q ord 64
              match s1.cmd ord with
              | none => s1
              | some d => if d.outBytes ≤ d.fetchNext then s1.finish ord st.1 st.2.1 dnr st.2.2 else s1
          | .peer h _ _ =>
            let data := (List.range ((c.outBytes + 4095) / 4096)).map c.outSector
            ((s0.countError (s.tenantOf c) st.1 st.2.1).emit
              (.forwardCqe h ⟨c.cap.cid, st.1, st.2.1, dnr, st.2.2⟩ data)).dropCmd ord
          | .mbx m => s0.mbxDataOut ord c m)

/-! ### Congestion (R296 to R298) -/

/-- CNP_RX: the target rate becomes the current rate, the current rate falls by half of α, and α rises (R297). -/
def execCnpRx (h : PktHdr) (s : State) : Res State :=
  .next (
    match s.acceptPkt h with
    | (none, s1) => s1
    | (some q, s1) =>
      s1.onQp q fun x =>
        { x with
          rt := x.rc, rc := max 100 (x.rc - x.rc * x.alpha / 131072), alpha := x.alpha * 255 / 256 + 256, k := 0,
          lastCnpRx := s.now })

/-- RATE_INCREASE_TIMER: 55 µs with no CNP: α decays and the rate recovers half way to its target (R297). -/
def execRateIncreaseTimer (q : Fin 16384) (s : State) : Res State :=
  .next (
    if !s.awake then s else
    let x := s.qp q.val
    if x.st ≠ .ready ∨ s.now < x.lastCnpRx + us 55 then s
    else
      let rate := s.portRate x
      let k := x.k + 1
      let rt := if 5 < k then min rate (x.rt + 100) else x.rt
      s.onQp q.val fun x =>
        { x with alpha := x.alpha * 255 / 256, k := k, rt := rt, rc := (x.rc + rt) / 2, lastCnpRx := s.now })

/-- The tenant table entry of tenant `t`, if present (R280). -/
def State.tenantEntry (s : State) (t : Nat) : Option TenantEntry :=
  match s.fn.committed with
  | none => none
  | some i => match i.tenants.tenants.find? fun e => e.1 == t with
    | some e => if e.2.present then some e.2 else none
    | none => none

/-- TX_CIR_WINDOW: over a 10 ms window the tenant sent `sent` bytes, below its committed rate, while work was held by a
limiter: an event, at most once a second (R298). -/
def execTxCirWindow (tenant : Fin 1024) (sent : Nat) (held : Bool) (s : State) : Res State :=
  .next (
    if !s.awake then s else
    match s.tenantEntry tenant.val with
    | none => s
    | some e =>
      let recent : Bool := match tabGet s.rdma.cirEvent tenant.val with
        | some t => decide (s.now < t + secs 1)
        | none => false
      if !held ∨ recent ∨ e.txCir * 10 ^ 6 ≤ 8 * sent then s
      else
        (s.event (0x800 + tenant.val) 0x0A 2 0).onRdma fun r => { r with cirEvent := tabPut r.cirEvent tenant.val s.now })

end Sys2Proof.Machine
end

