-- ==== Sys2Proof/Machine/Logs.lean ====
section
/-! DEFINITION. The pages that Identify and Get Log Page return (chapters 8, 10 and 20): each page is the number its bytes
spell, little-endian. -/

namespace Sys2Proof.Machine

/-- The number that fields at byte offsets spell. -/
def pack (l : List (Nat × Nat)) : Nat := l.foldl (fun a e => a + e.2 * 2 ^ (8 * e.1)) 0

/-- Sectors `off` bytes into a page, `len` bytes long (R276). -/
def pageSectors (page off len : Nat) : List Sector :=
  (List.range ((len + 4095) / 4096)).map fun i =>
    BitVec.ofNat 32768 (page / 2 ^ (8 * (off + 4096 * i)) % 2 ^ (8 * min 4096 (len - 4096 * i)))

/-- A signed byte. -/
def sbyte (x : Int) : Nat := (x % 256).toNat

/-! ### Health records (Table 8.8) -/

/-- PE counts of a bay's listed blocks. -/
def State.bayPe (s : State) (b : Nat) : List Nat :=
  (s.med.blocks.filter fun e => e.1 / 2 ^ 21 == b && !e.2.bad).map fun e => e.2.pe

/-- WEAR_MAX of a bay in 0.1 % (Table 8.8). -/
def State.wearMax (s : State) (b : Nat) : Nat :=
  match s.desc b with
  | some d => (s.bayPe b).foldl max 0 * 1000 / max 1 d.peRated
  | none => 0

/-- WEAR_AVG of a bay in 0.1 %, over its blocks that are not bad (Table 8.8). -/
def State.wearAvg (s : State) (b : Nat) : Nat :=
  match s.desc b with
  | some d =>
    let bad := (s.med.blocks.filter fun e => e.1 / 2 ^ 21 == b && e.2.bad).length
    (s.bayPe b).foldl (· + ·) 0 * 1000 / max 1 d.peRated / max 1 (s.geo.dies * s.geo.epp - bad)
  | none => 0

/-- The 128-byte health record of bay `b` (Table 8.8); zero for a bay not declared. -/
def State.healthRecord (s : State) (b : Nat) : Nat :=
  if !(s.bays.contains b) then 0
  else
    let h := s.health b
    let dead := (s.med.dieRetired.filter fun x => x.1 == b).length
    pack ([(0, b), (2, s.geo.dies - dead), (4, s.spareLeft b), (6, min 65535 (s.wearAvg b)), (8, min 65535 (s.wearMax b)),
      (0xA, if h.hourCw = 0 then 0 else 1000 * h.hourBits / (160 * h.hourCw)), (0x10, h.cwRead), (0x18, h.bitsCorrected),
      (0x20, h.retries), (0x24, h.reconstructed), (0x28, h.capCost), (0x2C, h.probesDropped), (0x30, h.programFails),
      (0x34, h.eraseFails), (0x38, h.silent), (0x3C, sbyte h.tempNow), (0x3D, sbyte h.tempPeak)]
      ++ (List.range 16).map fun k => (0x40 + 4 * k, nth h.tempHist k 0))

/-- Namespaces of a tenant, ascending. -/
def State.tenantNs (s : State) (t : Nat) : List (Nat × NsEntry) :=
  match s.fn.committed with
  | none => []
  | some i => i.ns.entries.filter fun e => e.2.present && e.2.tenant == t

/-- Bay mask of the loss set. -/
def State.lossMask (s : State) : Nat := ((indices 48 s.bayLost).map fun b => 2 ^ b).foldl (· + ·) 0

/-- Health page C0h for a list of namespaces (Table 10.11). -/
def State.healthPage (s : State) (l : List (Nat × NsEntry)) : Nat :=
  pack ([(0, 1), (4, 48), (6, l.length), (8, rebCode s.reb.st), (0x10, s.lossMask), (0x18, s.reb.unit), (0x1C, s.unitTotal),
    (0x20, s.reb.repaired), (0x28, s.reb.poisonedCount)]
    ++ ((List.range 16).map fun k => (0x40 + 4 * k, nth s.med.ctlHist k 0))
    ++ ((List.range 48).map fun b => (0x80 + 128 * b, s.healthRecord b))
    ++ ((List.range l.length).flatMap fun i =>
      match l[i]? with
      | none => []
      | some e =>
        let o := 0x1880 + 24 * i
        let lbas := (s.map.poisonLbas.filter fun x => x.1 == e.1).map (·.2)
        [(o, e.1 + 1), (o + 8, tabGetD s.map.poisoned e.1 0),
          (o + 16, match lbas with
            | [] => 2 ^ 64 - 1
            | x :: t => t.foldl min x)]))

/-- Length of page C0h (Table 10.10). -/
def healthLen (n : Nat) : Nat := 0x1880 + 24 * n

/-- The chains of a tenant ever written or bound, in NSID then chain order. -/
def State.tenantChains (s : State) (t : Nat) : List (Nat × Chain) :=
  s.log.chains.filter fun e =>
    (match s.nsEntry (e.1 / 65536) with
      | some n => n.tenant == t
      | none => false) && (e.2.bound || decide (1 < e.2.next) || decide (0 < e.2.lastDurable))

/-- Ledger chains page C1h (Table 10.12). -/
def State.chainPage (s : State) (t : Nat) : Nat :=
  let l := s.tenantChains t
  pack ([(0, 1), (4, l.length)] ++ (List.range l.length).flatMap fun i =>
    match l[i]? with
    | none => []
    | some e =>
      let o := 16 + 16 * i
      [(o, e.1 / 65536 + 1), (o + 4, e.1 % 65536), (o + 6, b2n e.2.bound), (o + 8, e.2.lastDurable), (o + 12, e.2.next)])

/-- Raw capacity in sectors (R154). -/
def State.rawSectors (s : State) : Nat := s.bays.length * s.geo.dies * 4 * s.geo.epp * s.geo.ppb * 4

/-- Capacity page C2h (Table 10.13). -/
def State.capacityPage (s : State) (t : Nat) : Nat :=
  let l := s.tenantNs t
  pack [(0, 1), (4, s.pl.layout), (5, b2n s.fn.readOnly), (6, s.pl.reserve), (8, s.rawSectors), (0x10, s.usable),
    (0x18, s.spareAtFormat), (0x20, s.spareNow), (0x28, s.freeSectors), (0x30, l.foldl (fun a e => a + e.2.capacity) 0),
    (0x38, l.foldl (fun a e => a + tabGetD s.map.nus e.1 0) 0)]

/-- Tenant counters page C3h (R462). -/
def State.counterPage (s : State) (e : TenantEntry) : Nat :=
  pack ([(0, 1), (4, e.ctrLen), (8, s.clk.frame)] ++ (List.range e.ctrLen).map fun k =>
    (16 + 8 * k, (tabGetD s.pmc.vals (e.ctrBase + k) 0).toNat))

/-- Retention page C4h (Table 10.14), its counts derived from the index (R355). -/
def State.retentionPage (s : State) (t : Nat) : Nat :=
  let l := (s.tenantNs t).filter fun e => e.2.nsType == 2
  pack ([(0, 1), (4, l.length), (8, s.rclkMin)] ++ (List.range l.length).flatMap fun i =>
    match l[i]? with
    | none => []
    | some e =>
      let o := 16 + 48 * i
      let ix := (s.retIndex e.1).filter fun x => decide (s.rclkMin < x.minute + 1 + e.2.retPeriod)
      [(o, e.1 + 1), (o + 4, e.2.retPeriod), (o + 8, tabGetD s.map.nus e.1 0), (o + 16, ix.foldl (fun a x => a + x.count) 0),
        (o + 24, match ix with
          | [] => 0
          | x :: _ => x.minute + 1 + e.2.retPeriod)])

/-! ### SMART / Health (R275, Table 10.9) -/

/-- Critical Warning, bits 0 to 4 (Table 10.9). -/
def State.criticalWarning (s : State) : Nat :=
  b2n (decide (100 * s.spareNow < s.setting 3 * s.spareAtFormat))
    + 2 * b2n ((List.range 48).any (fun b => s.warned 7 b 128) || s.warned 8 63 128)
    + 4 * b2n (!s.reb.loss.isEmpty || s.reb.st != .idle) + 8 * b2n s.fn.readOnly + 16 * b2n (!s.log.strikeArmed)

/-- The SMART / Health log page for tenant `t` and controller `c` (Table 10.9), at the standard's offsets. -/
def State.smartPage (s : State) (t : Nat) (errs : Nat) : Nat :=
  let temp := (s.bays.map fun b => ((s.health b).tempNow + 273).toNat).foldl max 0
  let used := min 255 ((s.bays.map s.wearMax).foldl max 0 / 10)
  let units (n : Nat) : Nat := (8 * n + 999) / 1000
  pack [(0, s.criticalWarning), (1, temp), (3, 100 * s.spareNow / max 1 s.spareAtFormat), (4, s.setting 3), (5, used),
    (32, units (tabGetD s.nvme.dataRead t 0)), (48, units (tabGetD s.nvme.dataWritten t 0)), (64, tabGetD s.nvme.hostRead t 0),
    (80, tabGetD s.nvme.hostWrite t 0), (160, tabGetD s.nvme.mediaErr t 0), (176, errs)]

/-- Raise SMART / Health events for Critical Warning bits that have set since the last one sent (R275). -/
def State.smartCheck (s : State) : State :=
  let w := s.criticalWarning
  s.nvme.ctls.foldl (fun s e =>
    let new := (List.range 5).filter fun i => w.testBit i && !e.2.warnSeen.testBit i && e.2.aec.testBit i
    let s1 := s.onCtl e.1 fun k => { k with warnSeen := k.warnSeen % 32 &&& w }
    if e.2.discovery then s
    else
      match new with
      | [] => s1
      | i :: _ =>
        let r := s1.sendAen e.1 1 (if i = 1 then 1 else if i = 0 then 2 else 0) 0x02
        if r.1 then r.2.onCtl e.1 fun k => { k with warnSeen := k.warnSeen ||| 2 ^ i } else s1) s

/-! ### The other standard pages -/

/-- The ANA log page (R270): one group, its state, and the tenant's namespaces. -/
def State.anaPage (s : State) (c : NvmeCtl) : Nat :=
  let l := s.tenantNs c.tenant
  let st := match s.ana with
    | .optimized => 1
    | .nonOptimized => 2
    | .inaccessible => 3
    | .persistentLoss => 4
  pack ([(0, c.anaChanges), (8, 1), (16, 1), (20, l.length), (24, c.anaChanges), (32, st)]
    ++ (List.range l.length).map fun i => (48 + 4 * i, (match l[i]? with
      | some e => e.1 + 1
      | none => 0)))

/-- Commands Supported and Effects (R248): bit 0 supported, bit 1 logical block contents change. -/
def effectsPage : Nat :=
  pack ([0x06, 0x02, 0x09, 0x0A, 0x0C, 0x18, 0x08, 0x7F, 0xC0].map (fun o => (4 * o, 1))
    ++ [(0x00, 1), (0x01, 3), (0x02, 1), (0x05, 1), (0x08, 3), (0x09, 3)].map fun e => (1024 + 4 * e.1, e.2))

/-- Error Information: the controller's entries, newest first, at most 64 (Table 10.2). -/
def errorPage (c : NvmeCtl) : Nat :=
  pack ((List.range (min 64 c.errors.length)).flatMap fun i =>
    match c.errors[i]? with
    | none => []
    | some (q, cid, st) => [(64 * i, c.errCount - i), (64 * i + 8, q), (64 * i + 10, cid), (64 * i + 12, 2 * st)])

/-- ASCII of a string. -/
def ascii (x : String) : List Nat := x.toList.map Char.toNat

/-- A lower-case hexadecimal digit. -/
def hexDigit (n : Nat) : Nat := if n < 10 then 48 + n else 87 + n

/-- SHELF_ID as four groups of eight lower-case hexadecimal digits, most significant byte first (R250). -/
def shelfHex (id : BitVec 128) : List Nat :=
  (List.range 4).flatMap fun g =>
    (if g = 0 then [] else [45]) ++ (List.range 8).map fun i => hexDigit (id.toNat / 16 ^ (31 - (8 * g + i)) % 16)

/-- The subsystem NQN (R250). -/
def subNqn (id : BitVec 128) : List Nat := ascii "nqn.2031-04.com.goltas:gt4880:" ++ shelfHex id

/-- Identify Controller (Table 10.2), at the standard's offsets. -/
def State.identCtl (s : State) (cntlid : Nat) (discovery : Bool) : Nat :=
  let id := match s.fn.committed with
    | some i => i.shelfId
    | none => 0
  let fw := if s.boot.running = 2 then s.boot.slotB.build else s.boot.slotA.build
  let nqn := if discovery then ascii "nqn.2014-08.org.nvmexpress.discovery" else subNqn id
  pack ([(4, Config.identStrings id fw % 2 ^ 544), (76, 0x0B), (77, 9), (78, cntlid), (80, 0x00020000), (111, if discovery then 2 else 1),
    (256, 0), (258, 3), (259, 3), (261, 0x06), (262, 63), (320, 1), (342, 1), (343, 0x4F), (344, 1), (348, 1), (512, 0x66),
    (513, 0x44), (514, 1024), (516, 4096), (520, 0x0D), (522, 0), (525, 0x07), (526, 127), (528, 127), (536, 0x00000005),
    (1792, 4), (1796, 1), (1800, 0), (1803, 1)]
    ++ (List.range nqn.length).map fun i => (768 + i, nth nqn i 0))

/-- Identify Namespace (R256). -/
def State.identNs (s : State) (n : Nat) (e : NsEntry) : Nat :=
  let noLane : Bool := (s.laneOf e.tenant (1 + e.nsType)).isNone
  pack [(0, e.capacity), (8, e.capacity), (16, tabGetD s.map.nus n 0), (30, 1), (33, if e.nsType = 0 then 0x09 else 0x01),
    (34, 127), (36, 127), (72, if s.pl.layout = 2 then 255 else 127), (92, 1), (99, b2n noLane), (104, e.nguid.toNat),
    (130, 12), (3840, e.nsType), (3841, b2n e.gcm), (3844, e.retPeriod)]

/-- The active namespace list (CNS 02h): the tenant's NSIDs above `from_`. -/
def State.identList (s : State) (t from_ : Nat) : Nat :=
  let l := ((s.tenantNs t).map fun e => e.1 + 1).filter fun n => decide (from_ < n)
  pack ((List.range (min 1024 l.length)).map fun i => (4 * i, nth l i 0))

/-- Namespace identification descriptors (CNS 03h): the NGUID. -/
def identDescs (e : NsEntry) : Nat := pack [(0, 2), (1, 16), (4, e.nguid.toNat)]

/-- The discovery log page: one record for the subsystem, none without a committed image (R250). -/
def State.discoveryPage (s : State) : Nat :=
  match s.fn.committed with
  | none => 0
  | some i =>
    let nqn := subNqn i.shelfId
    pack ([(8, 1), (1024, 1), (1026, 2), (1028, Config.stdPage 0x70 0 % 2 ^ 32), (1032, 0xFFFF), (1034, 32)]
      ++ ((List.range 4).map fun k => (1056 + k, nth (ascii "4420") k 32))
      ++ (List.range nqn.length).map fun k => (1280 + k, nth nqn k 0))

end Sys2Proof.Machine
end

