-- ==== Sys2Proof/Machine/Net.lean ====
section
/-! DEFINITION. Chapters 12 and 13: the front ports, classification, fragments, rule updates, priority flow control
and switch matching. -/

namespace Sys2Proof.Machine

/-- Change front port `p`. -/
def State.onFront (s : State) (p : Nat) (g : FrontPort → FrontPort) : State :=
  s.onNet fun n => { n with ports := modNth n.ports p g }

/-- Front port `p`. -/
def State.front (s : State) (p : Nat) : FrontPort := nth s.net.ports p FrontPort.reset

/-- Pass a frame to its parser cell (2p + n) mod 16 with the port's next sequence number (R299, R300). -/
def frontParse (p sub n : Nat) (f : Frame) (x : FrontPort) : FrontPort :=
  { x with
    pseqNext := (x.pseqNext + 1) % 65536
    ingress := x.ingress ++ [⟨x.pseqNext, sub, f, (2 * p + n) % 16, none, false⟩] }

/-- FRONT_FRAME_RX: a frame that fails its FCS or is longer than MAX_FRAME is dropped and counted; a port held
by a rule update keeps the frame in its 512 KiB FIFO or drops it; any other goes to its parser cell (R299, R302,
R310, R319). -/
def execFrontFrameRx (port : Fin 8) (sub : Fin 4) (raw : RxFrame) (s : State) : Res State :=
  let f := parseFrame raw
  let p := port.val
  let x := s.front p
  let lport := 4 * p + sub.val
  let maxFrame := match s.portEntry p with
    | some e => e.maxFrame
    | none => 9216
  .next (
    if !x.linkUp || !s.nrUp then s
    else if !f.fcsOk then s.onFront p fun x => { x with rxCount := x.rxCount + 1, fcsDrops := x.fcsDrops + 1 }
    else if maxFrame < f.len then
      s.onFront p fun x => { x with rxCount := x.rxCount + 1, longDrops := x.longDrops + 1 }
    else if nth s.net.rulePhase lport .running ≠ .running then
      if x.holdBytes + f.len ≤ 524288 then
        s.onFront p fun x =>
          { x with rxCount := x.rxCount + 1, hold := x.hold ++ [(sub.val, x.rxCount + 1, f)], holdBytes := x.holdBytes + f.len }
      else s.onFront p fun x => { x with rxCount := x.rxCount + 1, pauseDrops := x.pauseDrops + 1 }
    else s.onFront p fun x => frontParse p sub.val (x.rxCount + 1) f { x with rxCount := x.rxCount + 1 })

/-- The fragment key of a frame (R313). -/
def fragKeyOf (f : Frame) : FragKey := ⟨f.sip, f.dip, f.ipId, f.proto⟩

/-- Whether mode 2430 is declared and the frame fails a check of Table 12.9 (R311, R312). -/
def State.malformed2430 (s : State) (f : Frame) : Bool :=
  match s.fn.committed with
  | some i => i.decl.compat == 1 && (f.malf.ipv4 || f.malf.ipv6 || f.malf.udp || f.malf.roce)
  | none => false

/-- Set the action of a frame in the ingress path. -/
def setAction (l : List InFrame) (pseq : Nat) (a : ClsAction) (bad : Bool) : List InFrame :=
  l.map fun r => if r.pseq = pseq then { r with action := some a, malformed := bad } else r

/-- Put frames right after the frame with sequence number `pseq`. -/
def insertAfter (pseq : Nat) (new : List InFrame) : List InFrame → List InFrame
  | [] => []
  | r :: t => if r.pseq = pseq then r :: (new ++ t) else r :: insertAfter pseq new t

/-- Whether a fragment entry is still valid: 2 ms from its first fragment's arrival, that slot included (R64, R313). -/
def State.fragValid (s : State) (e : FragEntry) : Bool := decide (s.now ≤ e.since + ms 2)

/-- Record a first fragment's action and release the fragments parked under its key behind it; entries that have run out are free (R313,
R315). -/
def State.recordFragment (s : State) (p : Nat) (pseq : Nat) (key : FragKey) (a : ClsAction) : State :=
  let live := s.net.frags.filter s.fragValid
  let have_ := live.any fun e => e.key == key
  let entry : FragEntry := ⟨key, a, s.now⟩
  let s1 :=
    if have_ then s.onNet fun n => { n with frags := live.map fun e => if e.key = key then entry else e }
    else if live.length < 4096 then s.onNet fun n => { n with frags := live ++ [entry] }
    else s.onNet fun n => { n with tableFull := n.tableFull + 1 }
  let mine := s1.net.parked.filter fun e => e.key == key
  let rel := mine.map fun e => { e.fr with action := some a }
  (s1.onNet fun n => { n with parked := n.parked.filter fun e => e.key != key }).onFront p fun x =>
    { x with ingress := insertAfter pseq rel x.ingress }

/-- Parked fragments whose 500 µs are over are released with the default action (R315). -/
def State.releaseParked (s : State) (due : Parked → Bool) : State :=
  (s.net.parked.filter due).foldl (fun s e => s.switchFrame e.port { e.fr with action := some defaultAction })
    (s.onNet fun n =>
      { n with parked := n.parked.filter fun x => !(due x), parkTimeouts := n.parkTimeouts + (n.parked.filter due).length })

/-- CLASSIFY: the frame takes its fragment's decision, is parked, takes the malformed action, or is walked
(R305, R311 to R315). -/
def execClassify (port : Fin 8) (pseq : Nat) (s : State) : Res State :=
  let p := port.val
  .next (
    if !s.awake then s else
    match (s.front p).ingress.find? fun r => r.pseq == pseq && r.action.isNone with
    | none => s
    | some r =>
      let lport := 4 * p + r.sub
      let f := r.frame
      let set (s : State) (a : ClsAction) (bad : Bool) : State :=
        s.onFront p fun x => { x with ingress := setAction x.ingress pseq a bad }
      match s.rulesFor lport with
      | none => set s defaultAction false
      | some c =>
        if s.malformed2430 f then
          (set s (actionOf c (match c.ports[lport]? with
            | some e => e.malf
            | none => 0)) true).onFront p fun x => { x with malformed := x.malformed + 1 }
        else if f.frag = 2 then
          match s.net.frags.find? fun e => e.key == fragKeyOf f && s.fragValid e with
          | some e => set s e.action false
          | none =>
            let bytes := s.net.parked.foldl (fun a e => a + e.fr.frame.len) 0
            if s.net.parked.length < 32 ∧ bytes + f.len ≤ 262144 then
              (s.onFront p fun x => { x with ingress := x.ingress.filter fun q => q.pseq != pseq }).onNet fun n =>
                { n with parked := n.parked ++ [⟨fragKeyOf f, p, r, s.now⟩] }
            else (set s defaultAction false).onNet fun n => { n with parkOverflow := n.parkOverflow + 1 }
        else
          let a := classifyKey c lport f
          -- a first fragment that comes after the park timer of one it would release is classified alone (R64, R65)
          if f.frag = 1 then
            ((set s a false).releaseParked fun e => e.key == fragKeyOf f && decide (e.since + us 500 < s.now)).recordFragment p pseq (fragKeyOf f) a
          else set s a false)

/-- REORDER_RELEASE: the oldest frame of the port goes to the switch once its action is known (R300, R325). -/
def execReorderRelease (port : Fin 8) (s : State) : Res State :=
  let p := port.val
  .next (
    if !s.awake then s else
    match (s.front p).ingress with
    | [] => s
    | r :: t =>
      if r.action.isNone then s
      else (s.onFront p fun x => { x with ingress := t, pseqOut := (r.pseq + 1) % 65536 }).switchFrame p r)

/-- FRAGMENT_ENTRY_EXPIRY: the entry is valid for 2 ms from its first fragment's arrival (R313). -/
def execFragmentEntryExpiry (key : FragKey) (s : State) : Res State :=
  .next (if !s.awake then s else s.onNet fun n => { n with frags := n.frags.filter fun e => !(e.key == key && decide (e.since + ms 2 ≤ s.now)) })

/-- FRAGMENT_PARK_TIMEOUT: a fragment parked for 500 µs is released with the default action (R315). -/
def execFragmentParkTimeout (port : Fin 8) (pseq : Nat) (s : State) : Res State :=
  let due : Parked → Bool := fun e => e.port == port.val && e.fr.pseq == pseq && decide (e.since + us 500 ≤ s.now)
  .next (
    if !s.awake then s else
    s.releaseParked due)

/-- CONTROL_PORT_FRAME: firmware answers ARP, neighbour discovery and echo, hands on IEEE 1588 and connection
management, and discards and counts everything else (R307). IEEE 1588 sets the wall time to a free value: the Timebase's discipline is the
standard's. -/
def execControlPortFrame (port : Fin 8) (kind : CtlFrame) (s : State) : Res State :=
  .next (
    if !s.nrUp then s else
    match kind with
    | .other => s.onNet fun n => { n with ctlDiscards := n.ctlDiscards + 1 }
    | .ieee1588 =>
      let t := s.freeNat
      (t.2.onClk fun c => { c with wall := t.1 }).emit (.control port.val .ieee1588)
    | k => s.emit (.control port.val k))

/-! ### Rule updates (R309, R310) -/

/-- What a tree shows at one node. -/
inductive TreeItem where
  | cut (width offset : Nat)
  | leaf (entries : List (Option (BitVec 512 × BitVec 512) × ClsAction))
  | stop
  deriving DecidableEq, Repr

/-- A tree written out from node `n`: every node, rule and action it reaches (R309). -/
def treeImage (c : ClsSection) : Nat → Nat → List TreeItem
  | 0, _ => [.stop]
  | fuel + 1, n =>
    match c.nodes[n - 2 * c.rulesCount]? with
    | some (.cut width offset child _) =>
      .cut width offset :: (List.range (2 ^ width)).flatMap fun v => treeImage c fuel (child + v)
    | some (.leaf entries _) => [.leaf (entries.map fun e => (c.rules[e.1]?, actionOf c e.2))]
    | _ => [.stop]

/-- Whether a logical port is affected by a change of rule sets (R309). -/
def affected (old new : ClsSection) (lport : Nat) : Bool :=
  match old.ports[lport]?, new.ports[lport]? with
  | some a, some b =>
    a.treeV != b.treeV || actionOf old a.malf != actionOf new b.malf
      || (a.treeV && treeImage old 25 a.root != treeImage new 25 b.root)
  | none, none => false
  | _, _ => true

/-- The update ends once every port runs: the new set is in force and its mailbox is answered with the frame number of step 3 of Table
12.8, at which the last port was empty (R309). -/
def State.rulesSettle (s : State) : State :=
  match s.net.ruleNext with
  | none => s
  | some c =>
    if s.net.rulePhase.all fun x => x == .running then
      let s1 := (s.onFn fun f => { f with rules := some c }).onNet fun n => { n with ruleNext := none, ruleMbx := none }
      match s.net.ruleMbx with
      | some m => s1.answer m { mkResp 0 0 0 with frame := s.net.ruleFrame }
      | none => s1
    else s

/-- The rule set is switched at a frame boundary: affected ports hold and, with priority flow control, send
XOFF for all eight priorities (R309, R310, Table 12.8 step 2). -/
def State.rulesBegin (s : State) (c : ClsSection) : State :=
  let old := s.fn.rules.getD c
  let hit := indices 32 (affected old c)
  let s1 := s.onNet fun n =>
    { n with
      ruleNext := some c, ruleFrame := s.clk.frame
      rulePhase := (List.range 32).map fun l => if hit.contains l then .holding else .running }
  let s2 := hit.foldl (fun s l =>
    match s.portEntry (l / 4) with
    | some e =>
      if e.pfc ≠ 0 then (List.range 8).foldl (fun s k => s.emit (.xoff (l / 4) (l % 4) k 0xFFFF)) s else s
    | none => s) s1
  s2.rulesSettle

/-- RULE_UPDATE_PORT_STEP: an affected port drains, reloads its root cache, then passes its held frames to
parsers in port order and runs (Table 12.8). -/
def execRuleUpdatePortStep (lport : Fin 32) (s : State) : Res State :=
  let l := lport.val
  let p := l / 4
  let setPhase (s : State) (x : RulePhase) : State := s.onNet fun n => { n with rulePhase := putNth n.rulePhase l x }
  .next (
    if !s.awake then s else
    match nth s.net.rulePhase l .running with
    | .running => s
    | .holding => if (s.front p).ingress.any fun r => r.sub == l % 4 then s else (setPhase s .empty).onNet fun n => { n with ruleFrame := s.clk.frame }
    | .empty => setPhase s .reloaded
    | .reloaded =>
      let mine := (s.front p).hold.filter fun e => e.1 == l % 4
      let s1 := s.onFront p fun x =>
        { x with
          hold := x.hold.filter fun e => e.1 != l % 4
          holdBytes := x.holdBytes - mine.foldl (fun a e => a + e.2.2.len) 0 }
      let s2 := mine.foldl (fun s e => s.onFront p fun x => frontParse p e.1 e.2.1 e.2.2 x) s1
      let s3 := match s.portEntry p with
        | some e =>
          if e.pfc ≠ 0 then (List.range 8).foldl (fun s k => s.emit (.xoff p (l % 4) k 0)) s2 else s2
        | none => s2
      (setPhase s3 .running).rulesSettle)

/-! ### Priority flow control (R333) -/

/-- Key of a paused class: port, sub-port and class. -/
def pauseKey (port sub cls : Nat) : Nat := 32 * port + 8 * sub + cls

/-- Classes mapped to priority `k` by CLS_PCP. -/
def classesOf (e : PortEntry) (k : Nat) : List Nat := indices 8 fun c => nth e.clsPcp c 0 == k

/-- Slots of a pause of `quanta` quanta of 512 bit times on a sub-port (breakout 0, 1, 2: 800, 400, 200
Gb/s). -/
def quantaSlots (e : PortEntry) (quanta : Nat) : Nat :=
  let gbps := if e.breakout = 0 then 800 else if e.breakout = 1 then 400 else 200
  (quanta * 512 * 8 + 5 * gbps - 1) / (5 * gbps)

/-- PFC_FRAME_RX: pause every class mapped to a paused enabled priority for the quanta given; quanta 0 ends the
pause (R333). -/
def execPfcFrameRx (port : Fin 8) (sub : Fin 4) (prios : BitVec 8) (quanta : Nat) (s : State) : Res State :=
  .next (
    if !s.awake then s else
    match s.portEntry port.val with
    | none => s
    | some e =>
      let ks := indices 8 fun k => prios.getLsbD k && e.pfc.getLsbD k
      let until_ := s.now + quantaSlots e quanta
      s.onNet fun n =>
        { n with
          paused := (ks.flatMap (classesOf e)).foldl (fun t c =>
            if quanta = 0 then tabDel t (pauseKey port.val sub.val c)
            else tabPut t (pauseKey port.val sub.val c) until_) n.paused })

/-- PFC_PAUSE_EXPIRY: the pause of a priority's classes ends once its quanta have passed (R333). -/
def execPfcPauseExpiry (port : Fin 8) (sub : Fin 4) (prio : Fin 8) (s : State) : Res State :=
  .next (
    if !s.awake then s else
    match s.portEntry port.val with
    | none => s
    | some e =>
      s.onNet fun n =>
        { n with
          paused := (classesOf e prio.val).foldl (fun t c =>
            if tabGetD t (pauseKey port.val sub.val c) (s.now + 1) ≤ s.now then
              tabDel t (pauseKey port.val sub.val c) else t) n.paused })

/-- PFC_XOFF_REPEAT: a sub-port in XOFF sends XON once its held cells fall to XON_CELLS, else repeats its XOFF
(R333). -/
def execPfcXoffRepeat (port : Fin 8) (sub : Fin 4) (prio : Fin 8) (s : State) : Res State :=
  let me := (port.val, sub.val, prio.val)
  .next (
    if !s.awake then s else
    if !s.net.xoff.contains me then s
    else
      let xon := match s.qos with
        | some q => q.xonCells
        | none => 0
      if s.net.prioCells port.val sub.val prio.val ≤ xon then
        (s.emit (.xoff port.val sub.val prio.val 0)).onNet fun n => { n with xoff := n.xoff.filter (· != me) }
      else s.emit (.xoff port.val sub.val prio.val 0xFFFF))

/-- FRONT_LINK_CHANGE: each loss and restoration of a front port's link or FEC raises an event; the port
retrains without limit (R443, Table 19.5). A loss also raises a T word of cause LANE at its MAC/PCS cell. -/
def execFrontLinkChange (port : Fin 8) (up : Bool) (s : State) : Res State :=
  let p := port.val
  .next (
    if !s.awake then s else
    if (s.front p).linkUp = up then s
    else
      let s1 := s.onFront p fun x => { x with linkUp := up }
      let s2 := if up then s1 else s1.raise (0x310 + p) classT 0x08 (addrLane p 0 0)
      s2.event (0x310 + p) (if up then 6 else 5) p 0)

/-! ### Matching (R322, R323, R330 to R332) -/

/-- A shaper's bucket refilled to now, at most SH_BURST (R330); an unlisted shaper is full. -/
def State.shaperCount (s : State) (q : QueueEntry) (key : Nat) : Int :=
  let b := tabGetD s.net.shapers key ⟨(q.shBurst : Int) * 1024, s.now⟩
  min ((q.shBurst : Int) * 1024) (b.count + ((q.shRate * (s.now - b.stamp) * 2 / 25 : Nat) : Int))

/-- Whether a queue holds a cell whose output sub-port is not paused and whose shaper allows it (R322, R330). -/
def State.voqReady (s : State) (k : VoqKey) : Bool :=
  !(voqGet s.net.voqs k).isEmpty
    && (decide (8 ≤ k.outp) || (tabGet s.net.paused (pauseKey k.outp k.sub k.cls)).isNone)
    && (match s.queueEntry k.outp k.sub k.cls with
      | some q =>
        decide (8 ≤ k.outp) || q.shRate == 0
          || decide (0 ≤ s.shaperCount q (8 * queueTarget k.outp k.sub + k.cls))
      | none => true)

/-- The ready queues. -/
def State.readyQueues (s : State) : List VoqKey := (s.net.voqs.map (·.1)).filter s.voqReady

/-- The slot table entry of sequencer 0x30 that reserves output `o` at cell time `t` (R323), while the sequencers run (Table 2.11). -/
def State.reservedCell (s : State) (o t : Nat) : Option SlotEntry :=
  match s.fn.committed, s.sequencing with
  | none, _ => none
  | _, false => none
  | some i, true => (i.slotTables.filter fun x => x.seqId == 0x30).flatMap (·.entries) |>.find? fun e =>
      e.resource == o && decide (e.start ≤ t ∧ t ≤ e.start + e.length)

/-- The best of some queues: highest class, then lowest sub-port. -/
def bestQueue (l : List VoqKey) : Option VoqKey :=
  l.foldl (fun b k => match b with
    | none => some k
    | some x => if x.cls < k.cls ∨ (x.cls = k.cls ∧ k.sub < x.sub) then some k else some x) none

/-- What matching has settled: the inputs and outputs still free, the queues matched, and the pointers. -/
structure MatchSt where
  inputs : List Nat
  outputs : List Nat
  matched : List VoqKey
  grantPtr : Tab Nat
  acceptPtr : List Nat
  deficit : Tab Nat
  deriving DecidableEq, Repr

/-- Reserved cell times (R322): the reserved input and class, else that input's highest ready class, else the
output stays idle. -/
def State.matchReserved (s : State) (ready : List VoqKey) (t : Nat) (m : MatchSt) (o : Nat) : MatchSt :=
  match s.reservedCell o t with
  | none => m
  | some e =>
    let mine := ready.filter fun k => k.inp == e.lane && k.outp == o && m.inputs.contains k.inp
    let pick := match bestQueue (mine.filter fun k => k.cls == e.cls) with
      | some k => some k
      | none => bestQueue mine
    match pick with
    | some k =>
      { m with inputs := m.inputs.filter (· != k.inp), outputs := m.outputs.filter (· != o), matched := m.matched ++ [k] }
    | none => { m with outputs := m.outputs.filter (· != o) }

/-- The first element at or after `ptr` modulo 14, of a list of ports. -/
def roundRobin (ptr : Nat) (l : List Nat) : Option Nat :=
  (List.range 14).foldl (fun b i => match b with
    | some x => some x
    | none => if l.contains ((ptr + i) % 14) then some ((ptr + i) % 14) else none) none

/-- Whether a queue's class is strict (R331: outputs 8 to 13 serve every class as strict). -/
def State.isStrict (s : State) (k : VoqKey) : Bool :=
  decide (8 ≤ k.outp) || (match s.queueEntry k.outp k.sub k.cls with
    | some q => q.strict
    | none => true)

/-- The sub-port and class an output grants among its requests: strict from class 7 down, then weighted by
deficit round robin with a quantum of WEIGHT × 256 bytes (R331). -/
def State.pickClass (s : State) (reqs : List VoqKey) (deficit : Tab Nat) : Option VoqKey × Tab Nat :=
  match bestQueue (reqs.filter s.isStrict) with
  | some k => (some k, deficit)
  | none =>
    let dk (k : VoqKey) := 8 * queueTarget k.outp k.sub + k.cls
    match bestQueue (reqs.filter fun k => decide (256 ≤ tabGetD deficit (dk k) 0)) with
    | some k => (some k, deficit)
    | none =>
      let names := (reqs.map dk).eraseDups
      let weight (j : Nat) : Nat := match s.qos.bind fun q => q.queues[j]? with
        | some q => q.weight
        | none => 1
      let d := names.foldl (fun d j => tabUpd 0 d j (· + weight j * 256)) deficit
      (bestQueue (reqs.filter fun k => decide (256 ≤ tabGetD d (dk k) 0)), d)

/-- One iteration of request, grant and accept (R322); pointers move only when `first`. -/
def State.matchIter (s : State) (ready : List VoqKey) (first : Bool) (m : MatchSt) : MatchSt :=
  let step1 := m.outputs.foldl (fun (acc : List VoqKey × Tab Nat) o =>
    let reqs := ready.filter fun k => k.outp == o && m.inputs.contains k.inp
    let pick := s.pickClass reqs acc.2
    match pick.1 with
    | none => (acc.1, pick.2)
    | some k0 =>
      let same := reqs.filter fun k => k.cls == k0.cls && k.sub == k0.sub
      match roundRobin (tabGetD m.grantPtr (8 * o + k0.cls) 0) (same.map (·.inp)) with
      | some i => (acc.1 ++ [{ k0 with inp := i }], pick.2)
      | none => (acc.1, pick.2)) ([], m.deficit)
  let grants := step1.1
  m.inputs.foldl (fun m i =>
    let mine := grants.filter fun k => k.inp == i
    let top := mine.foldl (fun a k => max a k.cls) 0
    match roundRobin (nth m.acceptPtr i 0) ((mine.filter fun k => k.cls == top).map (·.outp)) with
    | none => m
    | some o =>
      match mine.find? fun k => k.outp == o with
      | none => m
      | some k =>
        { inputs := m.inputs.filter (· != i)
          outputs := m.outputs.filter (· != o)
          matched := m.matched ++ [k]
          grantPtr := if first then tabPut m.grantPtr (8 * o + k.cls) ((i + 1) % 14) else m.grantPtr
          acceptPtr := if first then putNth m.acceptPtr i ((o + 1) % 14) else m.acceptPtr
          deficit := if s.isStrict k then m.deficit
            else tabUpd 0 m.deficit (8 * queueTarget o k.sub + k.cls) (· - 256) })
    { m with deficit := step1.2 }

/-- The whole matching of a cell time (R322). -/
def State.matching (s : State) (t : Nat) : MatchSt :=
  let ready := s.readyQueues
  let m0 : MatchSt := ⟨List.range 14, List.range 14, [], s.net.grantPtr, s.net.acceptPtr, s.net.deficit⟩
  let m1 := (List.range 14).foldl (s.matchReserved ready t) m0
  s.matchIter ready false (s.matchIter ready false (s.matchIter ready true m1))

/-- Move one cell of a matched queue: the shaper is charged at a frame's first cell, and a frame whose last
cell has crossed leaves through its output and frees its cells (R317, R330). -/
def State.moveCell (s : State) (k : VoqKey) : State :=
  match voqGet s.net.voqs k with
  | [] => s
  | f :: t =>
    let key := 8 * queueTarget k.outp k.sub + k.cls
    let s1 := match s.queueEntry k.outp k.sub k.cls with
      | some q =>
        if f.crossed = 0 ∧ k.outp < 8 ∧ q.shRate ≠ 0 then
          s.onNet fun n => { n with
            shapers := tabPut n.shapers key ⟨s.shaperCount q key - ((f.len + 20) * 1024 : Nat), s.now⟩ }
        else s
      | none => s
    if f.crossed + 1 < f.cells then
      s1.onNet fun n => { n with voqs := n.voqs.map fun e => if e.1 = k then (k, { f with crossed := f.crossed + 1 } :: t) else e }
    else
      let s2 := s1.onNet fun n => { n with voqs := voqPut n.voqs k t }
      match s.portEntry k.outp with
      | some e =>
        if k.outp < 8 ∧ e.maxFrame < f.len then s2.onFront k.outp fun x => { x with longDrops := x.longDrops + 1 }
        else s2.emit (.frame k.outp k.sub k.cls f.id f.len f.ce)
      | none => s2.emit (.frame k.outp k.sub k.cls f.id f.len f.ce)

/-- TX_CIR of a tenant, Mb/s (R298). -/
def State.txCir (s : State) (t : Nat) : Nat :=
  match s.fn.committed with
  | some i => match i.tenants.tenants.find? fun e => e.1 == t with
    | some e => e.2.txCir
    | none => 0
  | none => 0

/-- A tenant's committed transmit bucket now, at most 64 KiB (R332). -/
def State.cirNow (s : State) (t : Nat) : Nat :=
  let b := tabGetD s.net.cirBucket t ⟨65536 * 1024, 0, s.now⟩
  refill b.tc (s.txCir t) (s.now - b.stamp) 65536

/-- The offers at the front of their queue pairs. -/
def offerHeads : List Offer → List Nat → List Offer
  | [], _ => []
  | o :: t, seen => if seen.contains o.q then offerHeads t seen else o :: offerHeads t (o.q :: seen)

/-- Storage input 9 + `b` takes one frame from its four RDMA cells: first those whose tenant's committed bucket
holds their length, then the others, round-robin among the cells (R332). -/
def State.takeOffer (s : State) (b : Nat) : State :=
  let heads := offerHeads (s.net.offers.filter fun o => o.cell / 4 == b) []
  let ok := heads.filter fun o => decide ((o.len + 20) * 1024 ≤ s.cirNow o.tenant)
  let pool := if ok.isEmpty then heads else ok
  let ptr := nth s.net.offerPtr b 0
  let pick := (List.range 4).foldl (fun x i => match x with
    | some o => some o
    | none => pool.find? fun o => o.cell % 4 == (ptr + i) % 4) none
  match pick with
  | none => s
  | some o =>
    let now := s.cirNow o.tenant
    let left := if ok.isEmpty then now else now - (o.len + 20) * 1024
    (s.onNet fun n =>
      { n with
        offers := n.offers.erase o
        offerPtr := putNth n.offerPtr b ((o.cell % 4 + 1) % 4)
        cirBucket := tabPut n.cirBucket o.tenant ⟨left, 0, s.now⟩ }).admitFrame o.key o.len 0x7FF 0 0 0

/-- The packet a control queue entry stands for: an ACK with its credit code, a NAK by its syndrome, or a CNP (R286 to R288). -/
def CtlEntry.packet (e : CtlEntry) : Pkt :=
  match e.kind with
  | .ack => .ack e.psn e.msn e.syndrome
  | .nak =>
    if e.syndrome / 32 = 1 then .nakRnr e.psn (e.syndrome % 32)
    else if e.syndrome = 0x60 then .nakSequence e.psn e.msn
    else .nakInvalid e.psn
  | .cnp => .cnp

/-- The next control entry of storage input 9 + `b`'s four RDMA cells leaves, ahead of their offered frames (R288). -/
def State.takeControl (s : State) (b : Nat) : Bool × State :=
  match (List.range 4).findSome? fun i => ((s.cell (4 * b + i)).control.head?).map fun e => (4 * b + i, e) with
  | none => (false, s)
  | some (c, e) =>
    let x := s.qp e.q
    (true, ((s.onCell c fun x => { x with control := x.control.drop 1 }).emit (.rdma e.q e.packet)).admitFrame
      ⟨9 + b, x.port, s.qpSub x, s.storageClass⟩ (frameLen 4) 0x7FF 0 0 0)

/-- One frame of a storage input: a control packet first, else an offered frame. -/
def State.takeStorage (s : State) (b : Nat) : State :=
  match s.takeControl b with
  | (true, t) => t
  | (false, t) => t.takeOffer b

/-- SWITCH_MATCH: storage inputs take their RDMA cells' frames, then one matching moves at most one cell per
input and output (R316, R322, R332). -/
def execSwitchMatch (cell : Fin 7680) (s : State) : Res State :=
  let s0 := (List.range 4).foldl State.takeStorage s
  let m := s0.matching cell.val
  let s1 := s0.onNet fun n => { n with grantPtr := m.grantPtr, acceptPtr := m.acceptPtr, deficit := m.deficit }
  .next (if !s.awake then s else m.matched.foldl State.moveCell s1)

end Sys2Proof.Machine
end

