-- ==== Sys2Proof/Machine/Tc.lean ====
section
/-! DEFINITION. Chapter 5: the Translation Cache's fills, write-backs, locked ways, way power and range engine. -/

namespace Sys2Proof.Machine

/-! ### Fills and write-backs (R115, R116, R118, R120) -/

/-- The way a finished fill installs in: the reserved one, or for a preload-and-lock a locked way if one can be had; an ordinary
fill whose way has been locked meanwhile installs nowhere (R118, R126). -/
def State.fillWay (s : State) (m : TcMiss) : Option Nat × State :=
  match m.way with
  | none => (none, s)
  | some w =>
    if m.lock && !s.tc.lockMask.getLsbD w then
      match s.victim (tcSet m.la) fun x => s.wayOn x && s.tc.lockMask.getLsbD x with
      | some (x, t) => (some x, (t.dropLine (tcSet m.la) x).putLine (tcSet m.la) w TcLine.blank)
      | none => (some w, s)
    else if !m.lock && s.tc.lockMask.getLsbD w then (none, s.putLine (tcSet m.la) w TcLine.blank)
    else (some w, s)

/-- A finished fill leaves the range engine's list and is counted there (Table 5.10). -/
def State.countFill (s : State) (m : TcMiss) (locked : Bool) : State :=
  if s.tc.range.contains m.la then
    s.onTc fun t =>
      { t with
        range := t.range.filter (· != m.la), resLines := satAdd 0xFFFFFF t.resLines 1
        resNotLocked := if t.runOp == 5 && !locked then satAdd 0xFFFF t.resNotLocked 1 else t.resNotLocked }
  else s

/-- Serve the lookups parked on a fill: with the map's entry, which is the new line's or, where none was installed, the pool slot's; the line keeps
the AGE it was installed with (R116, R118). -/
def State.servePool (s : State) (m : TcMiss) : State :=
  m.parked.foldl (fun s ord => match s.cmd ord with
    | none => s
    | some c => (c.results.filter fun e => e.2 == .waiting).foldl (fun s e =>
        if lineAddr (s.mpnOf c.ns (c.lba + e.1)) (c.lba + e.1) = m.la ∧ (s.ovWrite ord c.ns (c.lba + e.1)).isNone then
          match s.mapNow c.ns (c.lba + e.1) with
          | some x => s.serveEntry ord c e.1 x
          | none => s
        else s.serveSector ord c e.1) s) s

/-- A miss entry of a cell has come free: the oldest miss that waits for one takes it, or looks up again if its page has left the pool
(R115). -/
def State.nextMiss (s : State) (cell : Nat) : State :=
  match s.tc.queue.find? fun m => tcSet m.la % 4 == cell with
  | none => s
  | some m =>
    let s1 := s.onTc fun t => { t with queue := t.queue.filter fun x => x.la != m.la }
    if (s1.gmd (m.la / 68)).resident then m.parked.foldl (fun s o => s.startFill m.la m.ns m.streaming m.lock (some o)) s1
    else s1.serveAll m.parked

/-- TC_FILL_COMPLETE: the line is installed from the pool slot with the updates recorded for it, and the lookups parked on it are
served; after an invalidate's visit it installs with V = 0 and they look up again; its miss entry goes to the next miss that waits (R115, R116,
R118, "Update meets fill", "Range operation meets fill"). -/
def execTcFillComplete (la : Nat) (s : State) : Res State :=
  .next (
    match s.tc.miss.find? fun m => m.la == la with
    | none => s
    | some m =>
      let mpn := la / 68
      let set := tcSet la
      match s.slotOf mpn with
      | none => s
      | some p =>
        let s0 := s.onTc fun t => { t with miss := t.miss.filter fun x => x.la != la }
        let r := s0.fillWay m
        let s1 := r.2.pin mpn false
        match r.1 with
        | none => ((s1.countFill m false).servePool m).nextMiss (set % 4)
        | some w =>
          if m.dropV then (((s1.putLine set w TcLine.blank).countFill m false).serveAll m.parked).nextMiss (set % 4)
          else
            let base := (List.range 12).map fun i => tabGetD p.entries (la % 68 * 12 + i) eUnmapped
            let entries := m.updates.foldl (fun l u => putNth l u.1 u.2) base
            let locked := m.lock && s1.tc.lockMask.getLsbD w
            let demand := !m.streaming || (m.lock && !locked)
            let line : TcLine :=
              { TcLine.blank with
                la := la, v := true, l := locked, age := if demand then 1 else 3, entries := entries, ns := m.ns, streamed := !demand }
            let s2 := s1.putLine set w line
            (((if locked then s2.pin mpn true else s2).countFill m locked).servePool m).nextMiss (set % 4))

/-- TC_WRITEBACK_TIMER: lines dirty for 64 frames are written back, in the queue's order (R120). -/
def execTcWritebackTimer (s : State) : Res State :=
  .next ((s.tc.wb.filter fun e => decide (e.frame + 64 ≤ s.clk.frame)).foldl (fun s e => s.writeBack (tcSet e.la) e.way) s)

/-! ### Lines in a set of ways -/

/-- Sets and ways of the listed lines that satisfy `p`. -/
def State.linesWhere (s : State) (p : Nat → TcLine → Bool) : List (Nat × Nat) :=
  (s.tc.lines.filter fun e => p (e.1 % 16) e.2).map fun e => (e.1 / 16, e.1 % 16)

/-- Write back and invalidate every valid line of some ways. -/
def State.dropWays (s : State) (ok : Nat → Bool) : State :=
  (s.linesWhere fun w l => ok w && l.v).foldl (fun s x => s.dropLine x.1 x.2) s

/-- The cache starts empty at a start of the storage function, what it held dirty written back first (R110, "Power loss"). -/
def State.tcEmpty (s : State) : State := s.dropWays fun _ => true

/-! ### Way locking (R125, R126) -/

/-- Whether R125 accepts a mask: at most 8 ways, all from 4 to 15, every one powered; a way whose group is asked to go down counts as not powered
although ON still shows it (DESIGN CHOICE, log 50: the spec does not say). -/
def State.lockOk (s : State) (m : BitVec 16) : Bool :=
  decide (ones m ≤ 8) && (List.range 16).all fun w => !m.getLsbD w || (decide (4 ≤ w) && s.wayOn w)

/-- A write of `TC_LOCK_WAYS`: a mask that breaks R125 is ignored; ways an accepted mask clears lose their locks at once (R125, R126). -/
def State.lockWays (s : State) (value : BitVec 32) : State :=
  let m : BitVec 16 := value.setWidth 16
  if !s.lockOk m then s
  else
    let s1 := (s.linesWhere fun w l => !m.getLsbD w && l.v && l.l).foldl (fun s x =>
      let l := s.tcWayOf x.1 x.2
      (s.pin (l.la / 68) false).putLine x.1 x.2 { l with l := false, age := 3 }) s
    s1.onTc fun t => { t with lockMask := t.lockMask &&& m, lockNext := some m }

/-- TC_LOCK_WAYS_WRITE: an accepted mask takes effect way by way: ways it clears lose their locks at once, ways it sets are locked
when they have been written back and invalidated (R125, R126). -/
def execTcLockWaysWrite (value : BitVec 32) (s : State) : Res State := .next (s.lockWays value)

/-! ### Way power (R128, R129) -/

/-- Whether group `g` holds a locked way, or one being locked. -/
def State.groupLocked (s : State) (g : Nat) : Bool :=
  (List.range 4).any fun i => s.tc.lockMask.getLsbD (4 * g + i) || (match s.tc.lockNext with
    | some m => m.getLsbD (4 * g + i)
    | none => false)

/-- A request for the power groups: bit 0 ignored, a request for a group with a locked way ignored (Table 5.11). -/
def State.reqOff (s : State) (v : BitVec 4) : State :=
  s.onTc fun t =>
    { t with reqOff := BitVec.ofNat 4 ((List.range 4).foldl (fun a g =>
        if g != 0 && v.getLsbD g && (t.reqOff.getLsbD g || !s.groupLocked g) then a + 2 ^ g else a) 0) }

/-- TC_WAY_PWR_WRITE: firmware requests groups down or up (R128, R129). -/
def execTcWayPwrWrite (value : BitVec 32) (s : State) : Res State := .next (s.reqOff (value.setWidth 4))

/-- A fill in flight into some ways reserves none any longer. -/
def State.unreserve (s : State) (ok : Nat → Bool) : State :=
  let hit (m : TcMiss) : Bool := match m.way with
    | some w => ok w
    | none => false
  let s1 := (s.tc.miss.filter hit).foldl (fun s m => match m.way with
    | some w => s.putLine (tcSet m.la) w TcLine.blank
    | none => s) s
  s1.onTc fun t => { t with miss := t.miss.map fun m => if hit m then { m with way := none } else m }

/-- TC_GROUP_POWER_DOWN_DONE: the group's dirty lines are written back, its lines invalidated and its power removed (R128). -/
def execTcGroupPowerDownDone (g : Fin 4) (s : State) : Res State :=
  .next (
    if s.tc.reqOff.getLsbD g.val && s.tc.on.getLsbD g.val then
      ((s.dropWays fun w => w / 4 == g.val).unreserve fun w => w / 4 == g.val).onTc fun t =>
        { t with on := t.on &&& ~~~ (BitVec.ofNat 4 (2 ^ g.val)) }
    else s)

/-- TC_GROUP_POWER_UP_DONE: the group's ways come up invalid and are eligible (R129). -/
def execTcGroupPowerUpDone (g : Fin 4) (s : State) : Res State :=
  .next (
    if !s.tc.reqOff.getLsbD g.val && !s.tc.on.getLsbD g.val then s.onTc fun t => { t with on := t.on ||| BitVec.ofNat 4 (2 ^ g.val) }
    else s)

/-! ### The range engine (R127, R130, R131, Tables 5.6 to 5.10) -/

/-- The line addresses of a range operation: first and last. -/
def State.rangeLines (s : State) (o : RangeOp) : Option (Nat × Nat) :=
  (s.nsEntry o.ns).map fun e =>
    if o.byNs then (68 * e.mapBase, 68 * (e.mapBase + (e.capacity + 815) / 816) - 1)
    else (lineAddr (e.mapBase + o.lba / 816) o.lba, lineAddr (e.mapBase + (o.lba + o.len) / 816) (o.lba + o.len))

/-- ERR_CODE of a GO, 0 where it is accepted (Table 5.9); of several the one in the table's order (DESIGN CHOICE, log 50). -/
def State.rangeErr (s : State) (op : Nat) (o : RangeOp) : Nat :=
  if op < 1 ∨ 5 < op then 1
  else match s.nsEntry o.ns with
    | none => 2
    | some e => if !o.byNs ∧ e.capacity ≤ o.lba + o.len then 3 else if op = 5 ∧ s.tc.lockMask = 0 then 4 else 0

/-- `TC_RANGE_BUSY`: an operation or a lock change runs (R126, R130). -/
def State.rangeBusy (s : State) : Bool := s.tc.busy || s.tc.lockNext.isSome

/-- Operations 1 to 3 on one line (Table 5.6). LINES counts every valid line that a clean visits, and the lines that the others drop (DESIGN CHOICE,
log 50: Table 5.10 says "visited, filled or dropped"). -/
def State.rangeLine (s : State) (op : Nat) (unlock : Bool) (x : Nat × Nat) : State :=
  let l := s.tcWayOf x.1 x.2
  if op ≠ 2 ∧ l.l ∧ !unlock then s else
  let s1 := if l.dirtyMask ≠ 0 then
      (s.writeBack x.1 x.2).onTc fun t => { t with resWritten := satAdd 0xFFFFFF t.resWritten 1 }
    else s
  let count (s : State) : State := s.onTc fun t => { t with resLines := satAdd 0xFFFFFF t.resLines 1 }
  if op = 2 then count s1 else count (s1.dropLine x.1 x.2)

/-- One line of a preload that runs: its fill starts once its page is resident, brought in blank, or asked for. LINES counts the lines filled and,
for a preload-and-lock, those already there (DESIGN CHOICE, log 50). -/
def State.preloadLine (s : State) (la : Nat) : State :=
  let mpn := la / 68
  let lock := s.tc.runOp == 5
  let done (s : State) (notLocked : Bool) : State := s.onTc fun t =>
    { t with
      range := t.range.filter (· != la), resLines := if lock then satAdd 0xFFFFFF t.resLines 1 else t.resLines
      resNotLocked := if notLocked then satAdd 0xFFFF t.resNotLocked 1 else t.resNotLocked }
  let fill (s : State) : State :=
    let r := s.readyPage mpn
    if r.1 then r.2.startFill la s.tc.runNs true lock none else r.2.needPage mpn none false
  match s.tcHit la with
  | none => fill s
  | some w =>
    let l := s.tcWayOf (tcSet la) w
    if !lock || l.l then done s false
    else if s.tc.lockMask.getLsbD w then done ((s.putLine (tcSet la) w { l with l := true }).pin mpn true) false
    else match s.victim (tcSet la) fun x => s.wayOn x && s.tc.lockMask.getLsbD x with
      | none => done s true
      | some _ => fill (s.dropLine (tcSet la) w)

/-- Start the fills of a preload that can start: as many as the miss entries allow. -/
def State.rangeAdvance (s : State) : State := (s.tc.range.take 256).foldl (fun s la => if s.tc.busy && s.tc.range.contains la then s.preloadLine la else s) s

/-- Lines in the order the range engine visits them: below 65,536 in LA order, else by set (R131). -/
def visitOrder (l : List Nat) : List Nat := if l.length < 65536 then l else sortBy tcSet l

/-- A write of `TC_RANGE_CTRL` with GO (R130, R131, "GO meets busy"): the fields are written, a GO while BUSY only sets OVERRUN, a
refused one sets ERROR and leaves the result as it was (DESIGN CHOICE, log 50); operations 1 to 3 visit their lines, 4 and 5 start their fills. -/
def State.goRange (s : State) (op : Nat) (o : RangeOp) (mbx : Option Nat) : State :=
  if s.rangeBusy then s.onTc fun t => { t with overrun := true }
  else
    let s1 := s.onTc fun t =>
      { t with ctrlOp := op % 8, ctrlByNs := o.byNs, ctrlUnlock := o.unlock, ctrlNs := o.ns % 4096, lba := o.lba % 2 ^ 48, len := o.len % 2 ^ 48 }
    let e := s.rangeErr op o
    if e ≠ 0 then s1.onTc fun t => { t with error := true, errCode := e, goMbx := mbx }
    else
      let b := (s.rangeLines o).getD (1, 0)
      let s2 := s1.onTc fun t => { t with busy := true, runOp := op, runNs := o.ns, errCode := 0, resLines := 0, resWritten := 0, resNotLocked := 0, goMbx := mbx, range := [] }
      if op ≤ 3 then
        let hit := s2.linesWhere fun _ l => l.v && decide (b.1 ≤ l.la ∧ l.la ≤ b.2)
        let order := if b.2 + 1 - b.1 < 65536 then sortBy (fun x => (s2.tcWayOf x.1 x.2).la) hit else hit
        let s3 := order.foldl (fun s x => s.rangeLine op o.unlock x) s2
        if op = 2 then s3
        else s3.onTc fun t => { t with miss := t.miss.map fun m => if b.1 ≤ m.la ∧ m.la ≤ b.2 then { m with dropV := true } else m }
      else (s2.onTc fun t => { t with range := visitOrder ((List.range (b.2 + 1 - b.1)).map (b.1 + ·)) }).rangeAdvance

/-- TC_INVALIDATE: lines of the range are written back if dirty and dropped, locked ones only with UNLOCK (R130). -/
def execTcInvalidate (op : RangeOp) (s : State) : Res State := .next (s.goRange 1 op none)

/-- TC_CLEAN: dirty lines of the range are written back and kept (R130). -/
def execTcClean (op : RangeOp) (s : State) : Res State := .next (s.goRange 2 op none)

/-- TC_CLEAN_INVALIDATE: lines of the range are written back and dropped (R130). -/
def execTcCleanInvalidate (op : RangeOp) (s : State) : Res State := .next (s.goRange 3 op none)

/-- TC_PRELOAD: absent lines of the range are filled as streaming fills (R130). -/
def execTcPreload (op : RangeOp) (s : State) : Res State := .next (s.goRange 4 op none)

/-- TC_PRELOAD_LOCK: every line of the range is filled into a locked way and locked (R130). -/
def execTcPreloadLock (op : RangeOp) (s : State) : Res State := .next (s.goRange 5 op none)

/-- Start the preload-and-lock of the next namespace marked for pinning, if the engine is free (R127). -/
def State.nextPin (s : State) : State :=
  if s.rangeBusy then s
  else match s.tc.pinQueue with
    | [] => s
    | n :: t => (s.onTc fun x => { x with pinQueue := t }).goRange 5 ⟨true, false, n, 0, 0⟩ none

/-- TC_LOCK_CHANGE_DONE: every dirty line of the newly named ways is written back and every line in them invalidated, and only then
are they locked; a preload that waited for the change starts (R126, R127). -/
def execTcLockChangeDone (s : State) : Res State :=
  .next (
    match s.tc.lockNext with
    | none => s
    | some m =>
      ((s.dropWays fun w => m.getLsbD w && !s.tc.lockMask.getLsbD w).onTc fun t => { t with lockMask := m, lockNext := none }).nextPin)

/-- The pinned namespaces are preloaded and locked, one operation each, in ascending number (R127; DESIGN CHOICE, log 50: the spec gives no
order). -/
def State.preloadPinned (s : State) : State :=
  match s.fn.committed with
  | none => s
  | some i =>
    (s.onTc fun t => { t with pinQueue := (i.ns.entries.filter fun e => e.2.present && e.2.pin).map (·.1) }).nextPin

/-- The mailbox that started a range operation is answered (R433): with the result counts, or with CONDITION and ERR_CODE. -/
def State.rangeAnswer (s : State) : State :=
  match s.tc.goMbx with
  | none => s
  | some m =>
    let t := s.onTc fun x => { x with goMbx := none }
    let res := leBytes 8 (s.tc.resLines + 2 ^ 24 * s.tc.resWritten + 2 ^ 48 * s.tc.resNotLocked)
    t.answer m (if s.tc.errCode ≠ 0 then mkResp 0 9 s.tc.errCode else { mkResp 0 0 0 with result := res })

/-- TC_RANGE_DONE: once every line is done the operation ends with DONE, or with ERROR where it stopped; the next pinned namespace
follows (R127, R131). -/
def execTcRangeDone (s : State) : Res State :=
  .next (
    if !s.tc.busy then s
    else
      let s1 := s.rangeAdvance
      if s1.tc.range.isEmpty then
        let stopped := s1.tc.errCode == 5
        ((s1.onTc fun t => { t with busy := false, done := t.done || !stopped }).rangeAnswer).nextPin
      else s1)

end Sys2Proof.Machine
end

