-- ==== Sys2Proof/Machine/LiveOps.lean ====
section
/-! DEFINITION. Live settings taking effect at a frame boundary (R47, R429, R430), and the budgets of a frame (R31, R484). -/

namespace Sys2Proof.Machine

/-! ### Budgets (R31, R484) -/

/-- A lane's budget in a frame at the present throttle level: host lanes three quarters or half, never less than 1, the patrol
lane half at level 2 (R484, Table 22.6). -/
def State.frameBudget (s : State) (e : LaneEntry) : Nat :=
  let t := s.boot.thermal
  if e.lclass ≤ 3 then
    if t = 0 then e.budget else max 1 (if t = 1 then 3 * e.budget / 4 else e.budget / 2)
  else if e.lclass = 7 ∧ 2 ≤ t then e.budget / 2
  else e.budget

/-- A lane's budget is restored in full, less its debt, which carries into the following frames while it is larger (R31). -/
def State.restoreLane (s : State) (l : Nat) (e : LaneEntry) : State :=
  let b := s.frameBudget e
  s.onSched fun x =>
    let d := tabGetD x.debt l 0
    { x with left := tabPut x.left l (b - d), debt := tabPutD 0 x.debt l (d - b) }

/-- Every lane's budget is restored (R31). -/
def State.restoreBudgets (s : State) : State :=
  match s.fn.committed with
  | none => s
  | some i => i.lanes.foldl (fun (s : State) (e : Nat × LaneEntry) => if e.2.budget = 0 then s else s.restoreLane e.1 e.2) s

/-- The power groups that heat takes down: as many as the throttle level, the highest that hold no locked way first, and up again
when the level is left (R128, R484). -/
def State.thermalGroups (s : State) : State :=
  let have_ := s.tc.thermalOff.length
  if have_ < s.boot.thermal then
    match [3, 2, 1].find? fun g => !s.tc.reqOff.getLsbD g && !s.groupLocked g with
    | some g => (s.reqOff (s.tc.reqOff ||| BitVec.ofNat 4 (2 ^ g))).onTc fun t => { t with thermalOff := t.thermalOff ++ [g] }
    | none => s
  else if s.boot.thermal < have_ then
    match s.tc.thermalOff.getLast? with
    | some g =>
      (s.reqOff (s.tc.reqOff &&& ~~~ (BitVec.ofNat 4 (2 ^ g)))).onTc fun t => { t with thermalOff := t.thermalOff.dropLast }
    | none => s
  else s

/-! ### Live changes (R47, R407, R454, R390, R394, R395, R346, R309) -/

/-- Whether the module of a bay must be quiesced before this controller's channel is turned off: the lease holder's, powered by
this channel alone, at least READY and not yet in power state 2 (R395). -/
def State.mustQuiesce (s : State) (b : Nat) : Bool :=
  let p := s.port b
  s.holder && p.up && (s.chan b).st == .on && !s.pair.peerChan.getLsbD b
    && (p.modSt == .ready || p.modSt == .fencing || p.modSt == .inService)
    && (match s.module b with
      | some m => m.power != 2 && !m.fatal
      | none => false)

/-- Send POWER_STATE 2 to a bay's module, once (R395). -/
def State.quiesce (s : State) (b : Nat) : State :=
  if (s.port b).ops.any fun e => e.2.code == 0x0A && e.2.arg == 2 then s else s.ask b 0x0A 2 0

/-- A channel's enable is set: an off channel may start, and a set after a clear is a toggle (R391, R394). -/
def State.enableBay (s : State) (b : Nat) : State :=
  let c := s.chan b
  let s1 := s.onChan b fun c => { c with enabled := true }
  if c.enabled then s1
  else match c.st with
    | .latched | .cooldown => s1.toggle b
    | _ => s1.chanTry b

/-- A channel's enable is cleared: a channel that waits, ramps or is on goes off (Table 16.7). -/
def State.disableBay (s : State) (b : Nat) : State :=
  let s1 := s.onChan b fun c => { c with enabled := false }
  match (s.chan b).st with
  | .waitInsert | .ramp | .on => s1.setChan b .off
  | _ => s1

/-- The counters that a PMC.PROGRAM names take their selectors, at 0 and with their overflow bits clear (R454). -/
def State.programCounters (s : State) (first : Nat) (sels : List (BitVec 32)) : State :=
  (List.range sels.length).foldl (fun s k =>
    s.onPmc fun p =>
      { p with
        sels := tabPutD 0 p.sels (first + k) (nth sels k 0)
        vals := tabDel p.vals (first + k)
        ovf := tabDel p.ovf (first + k) }) s

/-- Every reclaim unit that holds an obsolete copy of a key slot's page takes the highest reclaim score until that copy is erased (R348). -/
def State.shredKey (s : State) (slot : Nat) : State :=
  let mpn := s.keyBase + slot / 31
  s.written.foldl (fun s e =>
    if mdKind e.2 = 2 ∧ mdLba e.2 = mpn ∧ (s.gmd mpn).loc ≠ e.1 then
      match s.locUnit e.1 with
      | some u => s.onUnit u fun x => { x with topScore := true }
      | none => s
    else s) s

/-- A key slot takes its new record: the key of a DESTROYED slot is gone from both key stores, the peer's by a mailbox effect; the
standby takes the change (R346, R348, R419, Table 15.6). -/
def State.setKey (s : State) (slot : Nat) (k : KeySlot) : State :=
  let k1 := { k with sectors := (s.keySlot slot).sectors }
  let s1 := s.onCip fun c => { c with slots := tabPut c.slots slot k1 }
  let s2 := if s.ships then s1.emit (.ship (.key slot k1.st k1.mode k1.gen k1.material)) else s1
  if k1.st ≠ 2 then s2
  else ((if s.peerLink then s2.emit (.peerEffect (.keyDestroy (slot / 4) (slot % 4))) else s2).keyEmpty slot).shredKey slot

/-- What answers a live setting: OK with the frame at which it took effect (R429). -/
def State.liveOk (s : State) (m : Nat) (result : List (BitVec 8)) : State :=
  s.answer m { mkResp 0 0 0 with frame := s.clk.frame, result := result }

/-- A live change takes effect at this frame boundary; false where it must wait on: a bay whose module is being quiesced, a rule set behind
another, or a key slot whose record is not durable yet (R47, R309, R346, R395). -/
def State.applyChange (s : State) (m : Nat) (c : LiveChange) : Bool × State :=
  match c with
  | .setting id v =>
    let s1 := s.onFn fun f => { f with live := tabPut f.live id v }
    (true, (if 3 ≤ id ∧ id ≤ 8 then s1.bays.foldl (fun s b => s.checkBay b) s1 else s1).liveOk m [])
  | .evqCreate q log2n vector countTh timeTh base =>
    if (s.evq q).enabled then (true, s.answer m (mkResp 0 0xA 0))
    else
      (true, (s.onEvq q fun _ =>
        { Evq.reset with
          enabled := true, base := base, log2n := log2n, vector := vector, countTh := countTh, timeTh := timeTh,
          armed := true }).liveOk m [])
  | .evqDelete q => (true, (s.onEvq q fun _ => Evq.reset).liveOk m [])
  | .evqMod q countTh timeTh =>
    if (s.evq q).enabled then
      (true, ((s.onEvq q fun e => { e with countTh := countTh, timeTh := timeTh }).evqSignal q false).liveOk m [])
    else (true, s.answer m (mkResp 0 0xA 0))
  | .route first last q on =>
    (true, ((List.range (last + 1 - first)).foldl (fun s i =>
      s.onMgmt fun g => { g with routes := if on then tabPut g.routes (first + i) q else tabDel g.routes (first + i) }) s).liveOk m [])
  | .cplto t => (true, (s.onMgmt fun g => { g with cplTo := t }).liveOk m [])
  | .pmcProgram first sels => (true, (s.programCounters first sels).liveOk m [])
  | .pmcUser bank allow =>
    (true, (s.onPmc fun p => { p with banks := modNth p.banks bank fun b => { b with user := allow } }).liveOk m [])
  | .pmcSample bank counter on =>
    (true, (s.onPmc fun p =>
      { p with banks := modNth p.banks bank fun b =>
          { b with sampleEn := on, sampleCtr := if on then counter else b.sampleCtr } }).liveOk m [])
  | .bayCfg b cfg => (true, (s.onChan b fun c => { c with cfg := cfg }).liveOk m [])
  | .bayEnable b true => (true, (s.enableBay b).liveOk m [])
  | .bayEnable b false =>
    if s.mustQuiesce b then (false, s.quiesce b) else (true, (s.disableBay b).liveOk m [])
  | .bayToggle b =>
    if (s.chan b).st = .fetFault then (true, s.answer m (mkResp 0 0xA 0))
    else if s.mustQuiesce b then (false, s.quiesce b)
    else (true, (((s.onChan b fun c => { c with enabled := true }).toggle b).chanTry b).liveOk m [])
  | .keySlot slot k =>
    if !s.holder then (true, s.answer m (mkResp 0 5 (pairCode s.pair.st)))
    else if s.keyDurable slot k then (true, (s.setKey slot k).liveOk m (if k.st = 1 then leBytes 4 k.check else []))
    else (false, s.pushKey slot k)
  | .retAdvance delta =>
    let s1 := s.onCip fun c => { c with rclkPs := c.rclkPs + delta * 10 ^ 9 }
    if !s.holder then (true, s.answer m (mkResp 0 5 (pairCode s.pair.st)))
    else (true, (s1.event 0x631 8 s.rclkMin s1.rclkMin).liveOk m (leBytes 8 s.rclk ++ leBytes 8 s1.rclk))
  | .binVec key => (true, s.onMed fun d => { d with bins := tabMod d.bins key fun v => { v with offsets := v.next } })
  | .rules cls =>
    if s.net.ruleNext.isSome then (false, s)
    else (true, (s.onNet fun n => { n with ruleMbx := some m }).rulesBegin cls)

/-- Every validated live change takes effect, in the order of validation; what must wait stays (R47, "Live setting meets live
setting"). -/
def State.applyChanges (s : State) : State :=
  s.fn.changes.foldl (fun (s : State) (e : Nat × LiveChange) =>
    let r := s.applyChange e.1 e.2
    if r.1 then r.2.onFn fun f => { f with changes := f.changes.erase e } else r.2) s

/-- Seals in progress charge the tenant's read lane at most half of its BUDGET in a frame (R358). `fetchNext` counts the units
charged. -/
def State.sealCharge (s : State) : State :=
  (s.sched.cmds.filter fun e => e.2.kind == .seal && e.2.phase != .taken && decide (e.2.fetchNext < e.2.len)).foldl
    (fun (s : State) (e : Nat × Cmd) =>
      match e.2.lane.bind s.laneEntry, e.2.lane with
      | some l, some n =>
        let u := min (e.2.len - e.2.fetchNext) (l.budget / 2)
        (s.onCmd e.1 fun c => { c with fetchNext := c.fetchNext + u }).onSched fun x =>
          { x with
            left := tabUpd 0 x.left n fun v => v - u
            debt := tabPutD 0 x.debt n (tabGetD x.debt n 0 + (u - tabGetD x.left n 0)) }
      | _, _ => s) s

end Sys2Proof.Machine
end

