-- ==== Sys2Proof/Machine/Flags.lean ====
section
/-! DEFINITION. What every register of the BAR0 and BAR2 windows reads as: the status flags, and the counts derived from the state
(chapters 2, 5, 16, 17, 19 and 20). -/

namespace Sys2Proof.Machine

/-- A register from its fields: (lowest bit, width, value); a value is cut to its width. -/
def fields (l : List (Nat × Nat × Nat)) : Nat := l.foldl (fun a f => a + f.2.2 % 2 ^ f.2.1 * 2 ^ f.1) 0

/-- A saturated count of `w` bits. -/
def satTo (w n : Nat) : Nat := min (2 ^ w - 1) n

/-- `FN_STATE`, Table 2.13. -/
def State.fnStateReg (s : State) : Nat :=
  fields [(0, 3, fnCode s.fn.st), (3, 1, b2n s.fn.readOnly), (4, 1, b2n s.fn.staged.isSome), (5, 1, b2n s.boot.rigKey.isSome),
    (8, 4, s.fn.lastCheck)]

/-! ### Mailboxes, event queues and PCIe (Tables 17.6, 17.9, 17.12) -/

/-- STATE of `MBX_STATUS`. -/
def mbxCode : MbxState → Nat
  | .idle => 0
  | .busy => 1
  | .done => 2

/-- `MBX_STATUS[m]`, Table 17.6. -/
def State.mbxStatusReg (s : State) (m : Nat) : Nat :=
  let b := s.mbx m
  fields [(0, 2, mbxCode b.st), (2, 1, b2n b.overrun), (3, 1, b2n b.wrBusy), (4, 1, b2n b.dmaHold), (16, 16, b.token)]

/-- An event queue's register at word offset `k` of its group, Tables 17.8 and 17.9. -/
def Evq.reg (e : Evq) (k : Nat) : Nat :=
  match k with
  | 0 => e.base.toNat % 2 ^ 32
  | 1 => e.base.toNat / 2 ^ 32
  | 2 => fields [(0, 1, b2n e.enabled), (8, 5, e.log2n), (16, 6, e.vector)]
  | 3 => fields [(0, 11, e.countTh), (16, 14, e.timeTh)]
  | 4 => e.head
  | 5 => e.tail
  | 6 => fields [(0, 1, b2n e.overflow), (1, 1, b2n e.headErr), (2, 1, b2n e.armed), (8, 8, e.heldRecs.length)]
  | _ => 0

/-- A `PCX_` register word, Tables 17.11 and 17.12. -/
def State.pcxReg (s : State) (k : Nat) : Nat :=
  match k with
  | 0 => fields [(0, 3, s.mgmt.linkSpeed), (3, 4, s.mgmt.linkWidth), (8, 8, satTo 8 s.mgmt.retrains)]
  | 1 => fields [(0, 13, s.mgmt.cplTo)]
  | 2 => satTo 32 s.mgmt.poisonIn
  | 3 => satTo 32 s.mgmt.poisonOut
  | 4 => satTo 32 s.mgmt.cplTimeout
  | 5 => satTo 32 s.mgmt.lateCpl
  | _ => 0

/-- A word of the MSI-X table: address, data and vector control of 16 bytes a vector (Table 17.1). -/
def State.msixReg (s : State) (k : Nat) : Nat :=
  let v := nth s.mgmt.msix (k / 4) Msix.reset
  match k % 4 with
  | 0 => v.addr.toNat % 2 ^ 32
  | 1 => v.addr.toNat / 2 ^ 32
  | 2 => v.data.toNat
  | _ => b2n v.masked

/-- The MSI-X pending bits. -/
def State.pendBits (s : State) : Nat :=
  (List.range 64).foldl (fun a v => a + b2n (nth s.mgmt.msix v Msix.reset).pend * 2 ^ v) 0

/-! ### Crowsnest (Tables 19.6 to 19.8) -/

/-- HIST of `CWN_STATUS`. -/
def histCode : HistState → Nat
  | .recording => 0
  | .triggered => 1
  | .frozen => 2

/-- `CWN_STATUS`, Table 19.8. -/
def State.cwnStatusReg (s : State) : Nat :=
  let f := s.flt
  fields [(0, 2, histCode f.hist), (2, 1, b2n f.preserved), (3, 1, b2n f.fSeen), (4, 6, f.histHead), (16, 8, satTo 8 f.opens.length)]

/-- The 32 bytes of a history entry as a number (Table 19.6). -/
def HistEntry.toNat (e : HistEntry) : Nat :=
  fields [(0, 64, e.word.toNat), (64, 32, e.seq), (96, 16, satTo 16 e.merged), (112, 8, e.flags.toNat), (120, 8, e.handled),
    (128, 64, e.time), (192, 64, e.frame)]

/-- Entry `i` of `CWN_HIST`, in ring order: 0 where none is valid. -/
def State.histEntry (s : State) (i : Nat) : Nat :=
  match s.flt.history[(i + 64 - s.flt.histHead) % 64]? with
  | some e => e.toNat
  | none => 0

/-- A `CWN_` register word, Table 19.7. -/
def State.cwnReg (s : State) (off : Nat) : Nat :=
  let f := s.flt
  if off = 0 then s.cwnStatusReg
  else if off = 4 then fields [(0, 4, f.fenced.toNat), (16, 16, satTo 16 f.summarised)]
  else if off = 8 then f.seqNext
  else if off = 0x10 then f.trigSeq
  else if 0x20 ≤ off ∧ off < 0x48 then nth f.counts ((off - 0x20) / 8) 0 / 2 ^ (8 * (off % 8))
  else if 0x1000 ≤ off ∧ off < 0x1800 then s.histEntry ((off - 0x1000) / 32) / 2 ^ (8 * (off % 32))
  else 0

/-- What `CWN.HISTORY` returns: the header and the 64 entries, oldest first. -/
def State.historyBytes (s : State) : List (BitVec 8) :=
  leBytes 4 s.cwnStatusReg ++ leBytes 4 s.flt.trigSeq ++ leBytes 2 s.flt.history.length ++ leBytes 6 0
    ++ (List.range 64).flatMap fun i => leBytes 32 (match s.flt.history[i]? with
      | some e => e.toNat
      | none => 0)

/-! ### Translation Cache (Tables 5.7 to 5.11) -/

/-- BUSY of `TC_WAY_PWR`: a group is cleaning, powering down or powering up. -/
def State.wayPwrBusy (s : State) : Bool := (List.range 4).any fun g => s.tc.reqOff.getLsbD g == s.tc.on.getLsbD g

/-- A `TC_` register word, Tables 5.7 to 5.11. -/
def State.tcReg (s : State) (off : Nat) : Nat :=
  let t := s.tc
  let res := fields [(0, 24, satTo 24 t.resLines), (24, 24, satTo 24 t.resWritten), (48, 16, satTo 16 t.resNotLocked)]
  let err := fields [(0, 32, satTo 32 t.errCorrected), (32, 16, satTo 16 t.errParity), (48, 16, satTo 16 t.errRebuilt)]
  match off with
  | 0x00 => fields [(0, 3, t.ctrlOp), (3, 1, b2n t.ctrlByNs), (4, 1, b2n t.ctrlUnlock), (16, 12, t.ctrlNs)]
  | 0x08 => t.lba
  | 0x0C => t.lba / 2 ^ 32
  | 0x10 => t.len
  | 0x14 => t.len / 2 ^ 32
  | 0x18 => fields [(0, 1, b2n s.rangeBusy), (1, 1, b2n t.done), (2, 1, b2n t.error), (3, 1, b2n t.overrun), (4, 4, t.errCode)]
  | 0x20 => res
  | 0x24 => res / 2 ^ 32
  | 0x28 => t.lockMask.toNat
  | 0x30 => fields [(0, 4, t.reqOff.toNat), (4, 4, t.on.toNat), (8, 1, b2n s.wayPwrBusy)]
  | 0x38 => fields [(0, 17, t.wb.length)]
  | 0x40 => err
  | 0x44 => err / 2 ^ 32
  | _ => 0

/-! ### Bay Power Die (Tables 16.8 to 16.13) -/

/-- `BPD_STATUS`, Table 16.9. -/
def State.bpdStatusReg (s : State) : Nat :=
  let b := s.bpd
  fields [(0, 1, b2n b.aux), (1, 1, b2n b.mainOn), (2, 1, b2n s.holdupGood), (3, 1, b2n b.strikeTrig), (4, 1, b2n b.lostWords),
    (8, 5, b.held.length), (16, 8, (b.temp % 256).toNat)]

/-- `BPD_FEED`, Table 16.10. -/
def State.bpdFeedReg (s : State) : Nat :=
  let b := s.bpd
  fields [(0, 3, selCode b.sel), (3, 1, b2n b.feedA.good), (4, 1, b2n b.feedB.good), (5, 1, b2n b.feedA.stuck), (6, 1, b2n b.feedB.stuck),
    (8, 8, b.feedA.volt), (16, 8, b.feedB.volt), (24, 8, satTo 8 b.switches)]

/-- AGE of `BPD_HOLDUP`: hours since the last test, saturating; 255 before any. -/
def State.testAge (s : State) : Nat :=
  match s.bpd.testAt with
  | some t => satTo 8 ((s.now - t) / secs 3600)
  | none => 255

/-- `BPD_HOLDUP`, Table 16.11. -/
def State.bpdHoldupReg (s : State) : Nat :=
  let b := s.bpd
  fields [(0, 16, satTo 16 b.holdUs), (16, 8, s.testAge), (24, 1, b2n b.testFail), (25, 1, b2n b.testBusy)]

/-- `BPD_BAY_STATUS[n]`, Table 16.12. -/
def Chan.statusReg (c : Chan) : Nat :=
  fields [(0, 3, chanCode c.st), (3, 1, b2n c.pres), (4, 1, b2n c.pg), (5, 1, b2n c.ilimAct), (6, 1, b2n c.enabled), (7, 1, b2n c.togglePend),
    (8, 4, c.lastFault), (16, 8, satTo 8 c.current), (24, 8, satTo 8 c.trips)]

/-- `BPD_BAY_CFG[n]`, Table 16.13: gate code 8 reads 0. -/
def bayCfgReg (c : BayCfg) : Nat :=
  fields [(0, 3, c.gateI), (3, 1, b2n c.ft3), (4, 8, c.insDelay), (12, 6, c.ilim), (18, 5, c.soa), (23, 8, c.rampTo)]

/-- A `BPD_` register word, Table 16.8. -/
def State.bpdReg (s : State) (off : Nat) : Nat :=
  if off = 0 then s.bpdStatusReg
  else if off = 4 then s.bpdFeedReg
  else if off = 8 then s.bpdHoldupReg
  else if 0x100 ≤ off ∧ off < 0x1C0 then (s.chan ((off - 0x100) / 4)).statusReg
  else if 0x200 ≤ off ∧ off < 0x2C0 then bayCfgReg (s.chan ((off - 0x200) / 4)).cfg
  else 0

/-! ### Counters (Tables 20.3 to 20.6) -/

/-- A sample entry as a number (Table 20.6). -/
def Sample.toNat (x : Sample) : Nat := fields [(0, 64, x.place.toNat), (64, 9, x.counter), (73, 12, x.unit), (85, 2, x.core)]

/-- Bank `b`'s overflow bits from counter `k` of the bank, 32 of them (Table 20.4). -/
def State.ovfBits (s : State) (b k : Nat) : Nat :=
  (List.range 32).foldl (fun a j => a + b2n (tabGetD s.pmc.ovf (512 * b + k + j) false) * 2 ^ j) 0

/-- A word of bank `b`'s control window, Table 20.3. -/
def State.pmcReg (s : State) (b off : Nat) : Nat :=
  let k := nth s.pmc.banks b Bank.reset
  if off < 0x1000 then (tabGetD s.pmc.vals (512 * b + off / 8) 0).toNat / 2 ^ (8 * (off % 8))
  else if off < 0x1800 then (tabGetD s.pmc.sels (512 * b + (off - 0x1000) / 4) 0).toNat
  else if off < 0x1840 then s.ovfBits b (8 * (off - 0x1800))
  else if off = 0x1840 then fields [(0, 1, b2n k.user), (1, 1, b2n k.sampleEn), (8, 9, k.sampleCtr)]
  else if off = 0x1844 then k.head
  else if off = 0x1848 then k.tail
  else if off = 0x184C then satTo 32 k.lost
  else if 0x2000 ≤ off ∧ off < 0x3000 then
    (match k.ring[(off - 0x2000) / 16]? with
    | some x => x.toNat
    | none => 0) / 2 ^ (8 * (off % 16))
  else 0

/-! ### Shelf Descriptor Table (R402, Tables 17.2 to 17.4) -/

/-- The windows of Table 17.2: directory ID, BAR, offset, size. -/
def windows : List (Nat × Nat × Nat × Nat) :=
  [(1, 0, 0x0000000, 0x10000), (2, 0, 0x0010000, 0x1000), (3, 0, 0x0020000, 0x1000), (4, 0, 0x0030000, 0x1000), (5, 0, 0x0031000, 0x1000),
   (6, 0, 0x0040000, 0x1000), (7, 0, 0x0050000, 0x10000), (8, 0, 0x0060000, 0x1000), (9, 0, 0x0070000, 0x1000), (10, 0, 0x0080000, 0x80000),
   (11, 0, 0x0100000, 0x1000), (12, 0, 0x1000000, 0x40000)]
  ++ (List.range 16).map fun b => (16 + b, 2, 0x10000 * b, 0x10000)

/-- The running firmware slot's contents (R465). -/
def State.runningFw (s : State) : FwSlot := if s.boot.running = 2 then s.boot.slotB else s.boot.slotA

/-- The descriptor table's header up to `SDT_CRC` (Table 17.3). -/
def State.sdtHeader (s : State) : List (BitVec 8) :=
  let n := windows.length
  let im := s.fn.committed
  leBytes 4 0x54445347 ++ leBytes 2 1 ++ leBytes 2 (0x100 + 16 * n) ++ leBytes 4 s.mgmt.sdtGen ++ leBytes 4 s.runningFw.fwIf.toNat
    ++ leBytes 2 0x00B0 ++ leBytes 1 s.boot.board.slot ++ leBytes 1 (pairCode s.pair.st) ++ leBytes 2 0x4880 ++ leBytes 2 0
    ++ leBytes 8 s.runningFw.build.toNat
    ++ leBytes 16 ((im.map fun i => i.shelfId.toNat).getD 0) ++ leBytes 8 ((im.map fun i => i.rigGen).getD 0)
    ++ leBytes 8 s.usable ++ leBytes 8 ((im.map fun _ => s.rawSectors).getD 0)
    ++ leBytes 1 ((im.map fun i => i.decl.layout).getD 0) ++ leBytes 1 ((im.map fun i => i.decl.bays).getD 0)
    ++ leBytes 2 ((im.map fun i => (i.ns.entries.filter fun e => e.2.present).length).getD 0)
    ++ leBytes 1 64 ++ leBytes 1 48 ++ leBytes 1 64 ++ leBytes 1 64 ++ leBytes 8 s.boot.board.chipId.toNat
    ++ leBytes 2 n ++ leBytes 2 0x100 ++ leBytes 4 s.boot.board.dramGib ++ leBytes 156 0

/-- The window entries (Table 17.4). -/
def windowBytes : List (BitVec 8) :=
  windows.flatMap fun w => leBytes 2 w.1 ++ leBytes 1 w.2.1 ++ leBytes 1 1 ++ leBytes 4 0 ++ leBytes 4 w.2.2.1 ++ leBytes 4 w.2.2.2

/-- The Shelf Descriptor Table (R402). -/
def State.sdtBytes (s : State) : List (BitVec 8) :=
  s.sdtHeader ++ leBytes 4 (crc32c (s.sdtHeader ++ windowBytes)).toNat ++ windowBytes

/-! ### Reads (R401, R404, R419, R461) -/

/-- Whether a client reaches the registers and buffer of a mailbox: the management host those of 0 to 47, the debug port those of 60
to 63 while it is enabled (R404, R419). -/
def State.ownsMbx (s : State) (client : RegClient) (m : Nat) : Bool :=
  match client with
  | .host => decide (m < 48)
  | .debug => s.boot.board.debugPort && decide (60 ≤ m ∧ m < 64)
  | .firmware => false

/-- A 32-bit word of BAR0 as a client reads it; 0 where no window covers the offset or it is reserved (R401). -/
def State.bar0Read (s : State) (client : RegClient) (off : Nat) : BitVec 32 :=
  BitVec.ofNat 32 (
    if 0x0100000 ≤ off ∧ off < 0x0100400 then
      let m := (off - 0x0100000) / 16
      if s.ownsMbx client m && off % 16 == 4 then s.mbxStatusReg m else 0
    else if 0x1000000 ≤ off ∧ off < 0x1040000 then
      let m := (off - 0x1000000) / 4096
      if s.ownsMbx client m then ofLe ((List.range 4).map fun k => tabGetD (s.mbx m).buf (off % 4096 + k) 0) else 0
    else if client = .debug then 0
    else if off < 0x0010000 then ofLe ((s.sdtBytes.drop off).take 4)
    else if off = 0x0010000 then s.fnStateReg
    else if 0x0020000 ≤ off ∧ off < 0x0021000 then s.pcxReg ((off - 0x0020000) / 4)
    else if 0x0030000 ≤ off ∧ off < 0x0030400 then s.msixReg ((off - 0x0030000) / 4)
    else if 0x0031000 ≤ off ∧ off < 0x0031008 then s.pendBits / 2 ^ (8 * (off - 0x0031000))
    else if 0x0040000 ≤ off ∧ off < 0x0041000 then (s.evq ((off - 0x0040000) / 64)).reg (off % 64 / 4)
    else if 0x0050000 ≤ off ∧ off < 0x0060000 then s.cwnReg (off - 0x0050000)
    else if 0x0060000 ≤ off ∧ off < 0x0061000 then s.tcReg (off - 0x0060000)
    else if 0x0070000 ≤ off ∧ off < 0x0071000 then s.bpdReg (off - 0x0070000)
    else if 0x0080000 ≤ off ∧ off < 0x0100000 then s.pmcReg ((off - 0x0080000) / 0x8000) (off % 0x8000)
    else 0)

/-- An aligned 64-bit read of BAR2: a counter, or 0 while its bank is closed to user mapping (R401, R460, R461). -/
def State.bar2Read (s : State) (off : Nat) : BitVec 64 :=
  let b := off / 0x10000
  let i := off % 0x10000 / 8
  if b < 16 ∧ i < 512 ∧ (nth s.pmc.banks b Bank.reset).user then tabGetD s.pmc.vals (512 * b + i) 0 else 0

end Sys2Proof.Machine
end

