-- ==== Sys2Proof/Machine/MbxOps.lean ====
section
/-! DEFINITION. What every mailbox command shares: submission, taking in, the checks of Table 18.6, waiting, bulk data and the written
response (chapters 17 and 18). -/

namespace Sys2Proof.Machine

/-! ### Submission and completion (R404 to R406, R421, R425) -/

/-- Mailboxes answer from the end of start-up step 5 (Table 21.2). -/
def State.mailboxesUp (s : State) : Bool := s.awake && decide (6 ≤ s.boot.step)

/-- A GO on mailbox `m` (R405): BUSY, or OVERRUN while it is BUSY. -/
def State.go (s : State) (m token : Nat) (notify : Bool) (evq : Nat) : State :=
  if (s.mbx m).st = .busy then s.onMbx m fun b => { b with overrun := true }
  else s.onMbx m fun b =>
    { b with
      st := .busy, token := token, notify := notify, evq := evq, takenSeq := 0, wait := .free, bay := none
      fetching := false, dmaHold := false }

/-- The bytes of a response (Table 18.5). -/
def Resp.bytes (r : Resp) : List (BitVec 8) :=
  leBytes 2 r.opcode ++ leBytes 2 r.status ++ leBytes 2 r.result.length ++ leBytes 2 r.detail ++ leBytes 8 r.frame ++ leBytes 8 r.order
    ++ leBytes 4 r.xfer ++ leBytes 4 0 ++ r.result

/-- The response that stands in a mailbox's buffer (Table 18.5). -/
def bufResp (buf : Tab (BitVec 8)) : Resp :=
  let at_ (off n : Nat) : Nat := ofLe ((List.range n).map fun k => tabGetD buf (off + k) 0)
  { opcode := at_ 0 2, status := at_ 2 2, detail := at_ 6 2, frame := at_ 8 8, order := at_ 16 8, xfer := at_ 24 4,
    result := (List.range (at_ 4 2)).map fun k => tabGetD buf (32 + k) 0 }

/-- The mailbox after its command: not running, holding nothing. -/
def Mbx.ended (b : Mbx) (st : MbxState) : Mbx :=
  { b with st := st, wait := .free, bay := none, fetching := false, dmaHold := false, discard := false, takenSeq := 0 }

/-! ### Request tags (R400, R414) -/

/-- Requests outstanding. -/
def State.requestsOut (s : State) : Nat := (s.mgmt.tags.filter fun e => match e.2 with
  | .outstanding _ => true
  | _ => false).length

/-- The tag a new request takes: the lowest not in use, at most 256 outstanding (R400). -/
def State.freeReqTag (s : State) : Option Nat :=
  if 256 ≤ s.requestsOut then none else (List.range 1024).find? fun t => (tabGet s.mgmt.tags t).isNone

/-- Whether mailbox `m` has a request outstanding. -/
def State.mbxRequest (s : State) (m : Nat) : Bool := tabAny (fun _ t => t == .outstanding m) s.mgmt.tags

/-- Issue the read of mailbox `m`'s bulk data or list; false when no tag is free. -/
def State.fetchBulk (s : State) (m : Nat) : Bool × State :=
  match s.freeReqTag with
  | none => (false, s)
  | some t => (true, (s.onMgmt fun g => { g with tags := tabPut g.tags t (.outstanding m) }).emit (.dmaRead m t))

/-! ### Taking in (R427, R428) -/

/-- Whether mailbox `m` holds a GO not yet taken. -/
def State.goPending (s : State) (m : Nat) : Bool :=
  let b := s.mbx m
  b.st == .busy && b.wait == .free && b.takenSeq == 0

/-- The mailbox whose GO is taken next: the first pending in the order p, p + 1 and so on, p the frame number mod 64 (R427). -/
def State.nextGo (s : State) : Option Nat :=
  ((List.range 64).map fun k => (s.clk.frame + k) % 64).find? s.goPending

/-- Mailbox `m`'s GO is taken. -/
def State.takeGo (s : State) (m : Nat) (key : Option Nat) : State :=
  let n := s.mgmt.taken + 1
  (s.onMgmt fun g => { g with taken := n }).onMbx m fun b => { b with takenSeq := n, bay := key }

/-- Whether an earlier taken command holds what mailbox `m`'s command names: the same bay, tenant page, or the range engine (R428). -/
def State.mbxWaits (s : State) (m : Nat) : Bool :=
  let b := s.mbx m
  b.bay.isSome && (List.range 64).any fun n =>
    let o := s.mbx n
    n != m && o.st == .busy && o.bay == b.bay && decide (o.takenSeq ≠ 0 ∧ o.takenSeq < b.takenSeq)

/-! ### The checks of Table 18.6 -/

/-- What a command's row of Tables 18.7 to 18.10 says, and what its parameters give. `bad` is the offset of the first parameter out of its
range, `out` the bulk bytes moved out, `sig` the DETAIL of a failed signature check, 0 for none. -/
structure MbxSpec where
  op : Nat
  states : List FnState := [.empty, .stopped, .armed, .running, .draining, .fenced]
  holder : Bool := false
  dataIn : Bool := false
  out : Option Nat := none
  key : Option Nat := none
  bad : Option Nat := none
  sig : Nat := 0

/-- Live settings bounded by section 0x000D, and key, rule and retention commands: S, A, R. -/
def stSAR : List FnState := [.stopped, .armed, .running]

/-- The states of R430. -/
def stR430 : List FnState := [.empty, .stopped, .armed, .running, .draining]

/-- The first offset, of those found wrong. -/
def firstOff (l : List (Option Nat)) : Option Nat := l.foldl (fun a x => match a, x with
  | some i, some j => some (min i j)
  | some i, none => some i
  | none, y => y) none

/-- The field a command is refused for, if any (R422, R424). -/
def MbxSpec.field (sp : MbxSpec) (h : MbxHdr) : Option Nat :=
  match firstOff [if h.plenOk then none else some 4, h.reserved, sp.bad, if 2 ^ 28 < h.dlen then some 0x10 else none] with
  | some o => some o
  | none =>
    if h.dptr ≠ 0 ∧ h.dlen = 0 then some 8
    else if h.list ∧ h.dlen = 0 then some 2
    else if h.dlen ≠ 0 ∧ !sp.dataIn ∧ sp.out.isNone then some 0x10
    else match sp.out with
      | some n => if h.dlen < n then some 0x10 else none
      | none => none

/-- Function and rig commands that exclude one another (R42). -/
def excludes : List Nat := [0x0101, 0x0102, 0x0103, 0x0105, 0x0201, 0x0204, 0x0206]

/-- The opcodes that may not run beside an opcode (R428). -/
def excludedBy (op : Nat) : List Nat :=
  if excludes.contains op then excludes ++ [0x0B02]
  else if op = 0x0B01 then [0x0B01, 0x0B02]
  else if op = 0x0B02 then excludes ++ [0x0B01, 0x0B02]
  else []

/-- The opcode running in mailbox `m`. -/
def State.runningOp (s : State) (m : Nat) : Option Nat :=
  match (s.mbx m).wait with
  | .running op => some op
  | _ => none

/-- The running command that holds an exclusion against `op`. -/
def State.busyWith (s : State) (m op : Nat) : Option Nat :=
  (List.range 64).findSome? fun n =>
    if n = m then none
    else match s.runningOp n with
      | some o => if (excludedBy op).contains o then some o else none
      | none => none

/-- The first failure of the checks down to SIGNATURE, in the order of Table 18.6 (R426). -/
def State.mbxCheck (s : State) (h : MbxHdr) (sp : MbxSpec) : Option Resp :=
  let m := h.mbx.val
  if (48 ≤ m ∧ h.dlen ≠ 0) ∨ (48 ≤ m ∧ m ≤ 55 ∧ [0x0204, 0x0506, 0x0507].contains sp.op) then some (mkResp sp.op 1 m)
  else match sp.field h with
  | some o => some (mkResp sp.op 3 o)
  | none =>
    match s.busyWith m sp.op with
    | some o => some (mkResp sp.op 4 o)
    | none =>
      if sp.holder ∧ !s.holder then some (mkResp sp.op 5 (pairCode s.pair.st))
      else if !sp.states.contains s.fn.st then some (mkResp sp.op 6 (fnCode s.fn.st))
      else if sp.sig ≠ 0 then some (mkResp sp.op 7 sp.sig)
      else none

/-! ### Running a command -/

/-- The DETAIL of a signed command's signature check (R36, R37, R308, R353): nothing is asked before a customer key is enrolled, but a
signature that is given must verify. -/
def State.sigCheck (s : State) (sig : Option SigBlock) : Nat :=
  match s.boot.rigKey, sig with
  | none, none => 0
  | some _, none => 1
  | none, some g => if g.alg = 1 ∧ g.verifies then 0 else 3
  | some k, some g => if g.keyId ≠ k.1 then 2 else if g.alg = 1 ∧ g.verifies then 0 else 3

/-- Whether a command needs a bulk transfer before it can run: its data, or the list of where its result goes (R424). -/
def MbxSpec.fetches (sp : MbxSpec) (h : MbxHdr) : Bool := decide (h.dlen ≠ 0) && (sp.dataIn || h.list)

/-- What became of the bulk data: none when it is there, else the response (R412, R414, R424). -/
def bulkFailed (op : Nat) (d : Dma) : Option Resp :=
  match d with
  | .ok => none
  | .poisoned => if op = 0x0403 then none else some (mkResp op 0xE 0)
  | .timedOut => some (mkResp op 0xC 0)
  | .badList i => some { mkResp op 3 8 with result := leBytes 4 i }
  | .badSum => some (mkResp op 3 0x10)

/-- Run a mailbox command (R405, R415, R422 to R428). `start` carries it out once; `again` goes on with one that has started and has not
answered. A command whose turn has not come, or that waits for another or for its data, leaves the state as it is. -/
def State.mbxRun (s : State) (h : MbxHdr) (sp : MbxSpec) (start again : State → State) : State :=
  let m := h.mbx.val
  let b := s.mbx m
  if !s.mailboxesUp || b.st != .busy then s
  else match b.wait with
  | .answer _ => s
  | .running op =>
    if op ≠ sp.op then s
    else if !b.fetching then again s
    else if b.dmaHold || s.mbxRequest m then s
    else
      let s1 := s.onMbx m fun b => { b with fetching := false }
      match bulkFailed op h.dma with
      | some r => s1.answer m r
      | none => start s1
  | .free =>
    if b.takenSeq = 0 ∧ s.nextGo ≠ some m then s
    else
      let s0 := if b.takenSeq = 0 then s.takeGo m sp.key else s
      if s0.mbxWaits m then s0
      else
        let s1 := s0.onMbx m fun b => { b with wait := .running sp.op }
        match s0.mbxCheck h sp with
        | some r => s1.answer m r
        | none =>
          let bulk := sp.fetches h || sp.out.isSome
          if bulk && !s.master then s1.onMbx m fun b => { b with dmaHold := true, fetching := true }
          else if sp.fetches h then
            let f := s1.fetchBulk m
            if f.1 then f.2.onMbx m fun b => { b with fetching := true } else s0
          else start s1

/-- Answer mailbox `m` with OK and a result. -/
def State.mbxOk (s : State) (m : Nat) (result : List (BitVec 8)) : State := s.answer m { mkResp 0 0 0 with result := result }

/-- Answer mailbox `m` with a status and a detail. -/
def State.mbxFail (s : State) (m status detail : Nat) : State := s.answer m (mkResp 0 status detail)

/-- Move bulk data out and answer OK (R424, R425). -/
def State.mbxData (s : State) (m : Nat) (bytes : List (BitVec 8)) : State :=
  (s.emit (.dmaData m (packSectors bytes.length bytes))).answer m { mkResp 0 0 0 with xfer := bytes.length }

/-- A live change is validated: it waits for the next frame boundary, or, while the function is STOPPED and the change is not one of R430,
is kept for FN.ARM and answered at once (R47, R429, R430). -/
def State.live (s : State) (m : Nat) (always : Bool) (c : LiveChange) : State :=
  if s.fn.st = .stopped ∧ !always then (s.onFn fun f => { f with kept := f.kept ++ [c] }).mbxOk m []
  else s.onFn fun f => { f with changes := f.changes ++ [(m, c)] }

/-- Answer every mailbox whose running command has opcode `op`. -/
def State.answerOp (s : State) (op : Nat) (r : Resp) : State :=
  (List.range 64).foldl (fun s m => if s.runningOp m = some op then s.answer m r else s) s

/-! ### Mailbox and PCIe effects of a reset or a session's end (R417, R421) -/

/-- A command source with mailbox `m` replaced by none (64). -/
def CmdSrc.detach (m : Nat) : CmdSrc → CmdSrc
  | .mbx n => if n = m then .mbx 64 else .mbx n
  | x => x

/-- Nothing that runs for mailbox `m` answers it any longer: its order-numbered commands and validated changes run to their end without
it; what waits in the intake without an order number is discarded (R417). -/
def State.detach (s : State) (m : Nat) : State :=
  let off (o : Option Nat) : Option Nat := if o = some m then none else o
  let gone := (s.sched.inputs.flatMap id).filter fun h => h.src == .mbx m
  let s0 := s.onSched fun x =>
    { x with
      cmds := tabMap (fun _ c => { c with src := c.src.detach m }) x.cmds
      inputs := x.inputs.map fun l => l.filter fun h => h.src != .mbx m }
  let s1 := gone.foldl (fun s h => s.returnCredit h.lane) s0
  let s2 := s1.onFn fun f => { f with changes := f.changes.map fun e => if e.1 = m then (64, e.2) else e }
  let s3 := s2.onTc fun t => { t with goMbx := off t.goMbx }
  let s4 := s3.onBpd fun b => { b with testMbx := off b.testMbx }
  let s5 := s4.onNet fun n => { n with ruleMbx := off n.ruleMbx }
  s5.onCip fun c => { c with seals := c.seals.map fun x => if x.mbx = m then { x with mbx := 64 + m } else x }

/-- An FN.ARM that a reset discards leaves the image that the durable root names committed; one that has erased the shelf's data stays
with its image (R43, R417). -/
def State.armDropped (s : State) (m : Nat) : State :=
  if s.runningOp m = some 0x0103 && s.fn.staged.isSome then
    s.onFn fun f => { f with arming := none, committed := if s.log.rootImage.isSome then s.log.rootImage else f.committed }
  else s

end Sys2Proof.Machine
end

