-- ==== Sys2Proof/Machine/PmcOps.lean ====
section
/-! DEFINITION. Counter selectors and what they may name (chapter 20, Tables 20.1 and 20.2). -/

namespace Sys2Proof.Machine

/-- UNIT of a selector (Table 20.1). -/
def selUnit (x : BitVec 32) : Nat := x.toNat % 4096

/-- EVENT of a selector. -/
def selEvent (x : BitVec 32) : Nat := x.toNat / 4096 % 256

/-- MODE of a selector. -/
def selMode (x : BitVec 32) : Nat := x.toNat / 2 ^ 20 % 4

/-- TENANT of a selector. -/
def selTenant (x : BitVec 32) : Bool := x.getLsbD 22

/-- SPAN of a selector. -/
def selSpan (x : BitVec 32) : Nat := x.toNat / 2 ^ 24 % 32

/-- The wrap value a SPAN names (Table 20.1). -/
def spanTop (n : Nat) : Nat := if n = 0 then 2 ^ 64 else 2 ^ (n + 16)

/-- The mode of event `e` at a cell, and whether it may be counted per tenant (Table 20.2). -/
def cellEvent (u e : Nat) : Option (Nat × Bool) :=
  if (cellBlock u).isNone then none
  else if e = 1 then some (2, false)
  else if e < 4 then some (0, false)
  else if e < 0x10 ∨ 0x18 < e then none
  else
    let k := e - 0x10
    let row (modes : List Nat) (tenant : Bool) : Option (Nat × Bool) := modes[k]?.map fun m => (m, tenant)
    if 0x110 ≤ u ∧ u ≤ 0x117 then row [0, 1, 0, 0] true
    else if 0x118 ≤ u ∧ u ≤ 0x11B then row [0, 0, 0, 0] (decide (k < 2))
    else if 0x210 ≤ u ∧ u ≤ 0x23F then row [0, 0, 1] false
    else if 0x240 ≤ u ∧ u ≤ 0x29F then row [0, 1, 0, 0] false
    else if 0x1C0 ≤ u ∧ u ≤ 0x1DF then row [0, 0, 0] true
    else if 0x370 ≤ u ∧ u ≤ 0x37F then row [0, 1, 1, 0, 0, 0, 0, 0, 2] true
    else if (0x310 ≤ u ∧ u ≤ 0x327) ∨ (0x330 ≤ u ∧ u ≤ 0x333) then row [0, 0, 0, 0, 0, 0, 0, 0] false
    else if u = 0x368 then row [0, 0, 0] true
    else if 0x350 ≤ u ∧ u ≤ 0x35F then row [0, 0, 0] false
    else if 0x410 ≤ u ∧ u ≤ 0x413 then row [0, 0] false
    else if 0x430 ≤ u ∧ u ≤ 0x43B then row [0, 0, 0] false
    else none

/-- Whether a block or region unit holds a cell: the cell's block, or its block's region (R453). -/
def unitHolds (u cell : Nat) : Bool :=
  match cellBlock cell with
  | some b => b == u || blockRegion b == some u
  | none => false

/-- What a unit of Table 1.4 offers for event `e` in mode `m`: whether it has it, and whether per tenant. A number that Table 1.4 gives to
both a cell and a block names the cell where the cell has the event in that mode. -/
def unitEvent (u e m : Nat) : Option Bool :=
  if u = 0 then (if e = 1 ∧ m = 0 then some false else none)
  else
    match cellEvent u e with
    | some x => if x.1 = m then some x.2 else blockHas
    | none => blockHas
where
  /-- The event at the cells of a block or region, or the late arrivals of a block. -/
  blockHas : Option Bool :=
    if e = 4 ∧ m = 0 ∧ (List.range 0x472).any (fun c => unitHolds u c) then some false
    else
      let l := (List.range 0x472).filterMap fun c => if unitHolds u c then cellEvent c e else none
      match l.find? fun x => x.1 == m with
      | some x => some x.2
      | none => none

/-- The tenant whose window holds counter `i`, if any (R280, R455). -/
def windowOf (t : Option TenantTable) (i : Nat) : Option Nat :=
  match t with
  | none => none
  | some x => (x.tenants.find? fun e => e.2.present && decide (e.2.ctrBase ≤ i ∧ i < e.2.ctrBase + e.2.ctrLen)).map (·.1)

/-- R455: whether a selector may be written to counter `i`. -/
def selOk (t : Option TenantTable) (i : Nat) (x : BitVec 32) : Bool :=
  if x = 0 then true
  else
    let w := windowOf t i
    match unitEvent (selUnit x) (selEvent x) (selMode x) with
    | none => false
    | some ten =>
      selMode x != 3 && !x.getLsbD 23 && x.toNat / 2 ^ 29 == 0 && (!selTenant x || (ten && w.isSome))
        && (w.isNone || (selTenant x && selSpan x == 0))

/-- Whether a selector counts a happening (R452, R453): its unit names the cell or holds it, the event agrees, and a tenant's counter
takes only that tenant's. -/
def selTakes (t : Option TenantTable) (i : Nat) (x : BitVec 32) (h : Happening) : Bool :=
  let u := selUnit x
  let own := match cellEvent u (selEvent x) with
    | some e => e.1 == selMode x
    | none => false
  x != 0 && selEvent x == h.event
    && (if u = 0 then h.unit == 0 else if own then h.unit == u else h.unit == u || unitHolds u h.unit)
    && (!selTenant x || (h.tenant.isSome && h.tenant == windowOf t i))

/-- Section 0x000F takes effect at FN.ARM: selectors and user mapping replace those in force, and every counter is 0;
the sticky overflow bits stay (R456, R457). -/
def State.armCounters (s : State) (sec : Option PmcSection) : State :=
  s.onPmc fun p =>
    { p with
      vals := []
      sels := (sec.map fun x => x.selectors.foldl (fun (t : Tab (BitVec 32)) e => tabPutD 0 t e.1 e.2) []).getD []
      banks := (List.range p.banks.length).map fun b =>
        { nth p.banks b Bank.reset with user := (sec.map fun x => x.userMask.getLsbD b).getD false } }

end Sys2Proof.Machine
end

