-- ==== Sys2Proof/Machine/Loader.lean ====
section
/-! DEFINITION. The loader's checks of a rig image, Table 2.10 (R34 to R39, R72, R146, R254, R255, R281, R306, R323, R335, R456, R470,
R491 to R494). Each function says whether its check refuses the image. -/

namespace Sys2Proof

open Machine

/-- No two of a list agree under `f`. -/
def distinctBy {α : Type} (f : α → Nat) (l : List α) : Bool := decide ((l.map f).Nodup)

/-- The intervals [start, end) of a list do not overlap. -/
def disjoint (l : List (Nat × Nat)) : Bool := decide (l.Pairwise fun a b => a.2 ≤ b.1 ∨ b.2 ≤ a.1 ∨ a.1 = a.2 ∨ b.1 = b.2)

/-! ### Checks 1 to 3 -/

/-- Reserved fields of the sections that their owners name, all 0 (R9). -/
def RigImage.reservedZero (i : RigImage) : Bool :=
  i.reserved == 0 && i.flagsReserved == 0 && i.sections.all (fun e => e.reserved == 0) && (i.sig.map fun g => g.reserved == 0).getD true
    && i.decl.reserved == 0 && i.decl.types.all (fun t => t.reserved == 0)
    && i.slotTables.all (fun t => t.reserved == 0 && t.entries.all fun e => e.reserved == 0)
    && i.lanes.all (fun e => e.2.reserved == 0) && i.placement.reserved == 0 && i.placement.table.all (fun e => e.reserved == 0)
    && i.ns.reserved == 0 && i.ns.entries.all (fun e => e.2.reserved == 0) && i.tenants.reserved == 0
    && i.tenants.tenants.all (fun e => e.2.reserved == 0) && i.tenants.hosts.all (fun e => e.reserved == 0)
    && i.credits.all (fun e => e.reserved == 0) && i.streams.reserved == 0 && i.streams.streams.all (fun e => e.reserved == 0)
    && i.settings.reserved == 0 && i.settings.bounds.all (fun e => e.reserved == 0) && (i.routes.map fun r => r.reserved == 0).getD true
    && (i.pmc.map fun r => r.reserved == 0).getD true

/-- Check 1 on section 0x0008: its reserved fields (R9). -/
def clsForm (c : ClsSection) : Bool :=
  c.reserved == 0 && c.ports.all (fun p => p.reserved == 0) && c.actions.all (fun a => a.reserved == 0)
    && c.nodes.all fun n => match n with
      | .cut _ _ _ r => r == 0
      | .leaf _ r => r == 0
      | .badKind => true

/-- An absent entry of the namespace table, all zero (R254). -/
def NsEntry.blank : NsEntry := ⟨false, false, false, 0, 0, 0, 0, 0, 0, 0, 0, 0, 0⟩

/-- The slot table sections in order with their section table entries. -/
def RigImage.slotSections (i : RigImage) : List (SectionEntry × SlotTable) := (i.sections.filter fun e => e.type == 2).zip i.slotTables

/-- A signature block as R36 has it: 112 bytes inside the image. -/
def RigImage.sigForm (i : RigImage) : Bool := i.sigLen == 112 && i.sig.isSome && decide (i.sigOff + 112 ≤ i.imgLen)

/-- Check 1, Form (R34, R254, R491, Table 2.6). A SEC_COUNT outside 1 to 64 or unlike the sections present, a signature block over another
part of the image, and an unsigned image with SIG_OFF or SIG_LEN not 0 are refused here (DESIGN CHOICE, notes/assumptions/49.md: Table
2.10 names no check for them). -/
def RigImage.bad1 (i : RigImage) : Bool :=
  let ends := i.sections.map fun e => (e.offset, e.offset + e.length)
  let sigEnd := if i.signed && i.sigForm then [(i.sigOff, i.sigOff + 112)] else []
  !(i.magic == 0x47495247 && i.fmtMajor == 1 && i.hdrSize == 0x100 && i.secEntSize == 80 && i.secTblOff == 0x100 && i.fmtMinor == 0
    && decide (i.imgLen ≤ 2 ^ 28 ∧ i.imgLen ≤ i.fetched) && decide (1 ≤ i.secCount ∧ i.secCount ≤ 64) && i.secCount == i.sections.length
    && i.sections.all (fun e => e.offset % 4096 == 0 && decide (e.offset + e.length ≤ i.imgLen) && e.version == 1)
    && disjoint ((0, 0x100 + 80 * i.secCount) :: ends ++ sigEnd)
    && (i.signed || (i.sigLen == 0 && i.sigOff == 0))
    && i.slotSections.all (fun x => x.1.length == 16 + 8 * x.2.entries.length)
    && i.ns.entries.all (fun e => e.2.present || decide (e.2 = NsEntry.blank))
    && i.ns.count == (i.ns.entries.filter fun e => e.2.present).length
    && i.reservedZero && clsForm i.cls)

/-- Check 2, Digests. -/
def RigImage.bad2 (i : RigImage) : Bool := !(i.hdrDigestOk && i.secTblDigestOk && i.sections.all fun e => e.digestOk)

/-- Check 3, Signature (R36, R37): a SIGNED image without its block as R36 has it, or one that R37 refuses. -/
def Machine.State.bad3 (s : State) (i : RigImage) : Bool := (i.signed && !i.sigForm) || s.sigCheck (if i.signed then i.sig else none) != 0

/-! ### Checks 4 to 7 -/

/-- Check 4, Target (R363). The peer's LEASE_MS is the one its lease messages carry; its guards, which no message carries, and a LEASE_MS
not heard yet are those of this controller's own committed image (DEDUCED, notes/assumptions/49.md). -/
def Machine.State.bad4 (s : State) (i : RigImage) : Bool :=
  i.stepping != 0x00B0 || decide (s.runningFw.fwIf.toNat < i.fwIf.toNat)
    || (match s.fn.committed with
      | none => false
      | some c =>
        (s.fn.st != .empty && !i.format && c.shelfId != i.shelfId)
          || (s.pair.peerState == some .standby
            && !(s.pair.peerLeaseMs.getD c.decl.leaseMs == i.decl.leaseMs && c.decl.holderGuard == i.decl.holderGuard && c.decl.takerGuard == i.decl.takerGuard)))

/-- Check 5, Generation. -/
def Machine.State.bad5 (s : State) (i : RigImage) : Bool := match s.fn.committed with
  | none => false
  | some c => decide (i.rigGen ≤ c.rigGen)

/-- The sequencers of Table 2.1. -/
def seqIds : List Nat := List.range 8 ++ (List.range 12).map (0x10 + ·) ++ [0x20, 0x30]

/-- Check 6, Presence (R35, R491, Table 2.8). -/
def RigImage.bad6 (i : RigImage) : Bool :=
  let count (t : Nat) : Nat := (i.sections.filter fun e => e.type == t).length
  !((List.range 13).all (fun k => count (k + 1) == if k = 1 then 22 else 1) && decide (count 0x0E ≤ 1) && decide (count 0x0F ≤ 1)
    && i.sections.all (fun e => decide (1 ≤ e.type ∧ e.type ≤ 0x0F)) && i.slotTables.length == 22
    && i.slotSections.all (fun x => x.2.seqId == x.1.inst && seqIds.contains x.2.seqId) && distinctBy (·.seqId) i.slotTables
    && i.routes.isSome == (count 0x0E == 1) && i.pmc.isSome == (count 0x0F == 1))

/-- Check 7, Limits (Table 2.9, R281, R306). -/
def RigImage.bad7 (i : RigImage) : Bool :=
  !(decide (10 ≤ i.decl.bays ∧ i.decl.bays ≤ 48) && i.tenants.tenants.all (fun e => decide (e.1 < 1024 ∧ e.2.qpLimit ≤ 16384))
    && i.ns.entries.all (fun e => decide (e.1 < 4096)) && i.lanes.all (fun e => decide (e.1 < 8191)) && i.lanes.all (fun e => decide (e.2.spillLen ≤ 8))
    && decide (i.cls.rulesCount ≤ 65536) && decide (1 ≤ i.tenants.hostsCount ∧ i.tenants.hostsCount ≤ 4096) && i.streams.streams.length == 64)

/-! ### Check 8, Closure -/

/-- A lane's entry, absent where BUDGET is 0. -/
def RigImage.lane (i : RigImage) (l : Nat) : Option LaneEntry := (i.lanes.find? fun e => e.1 == l && e.2.budget != 0).map (·.2)

/-- A PRESENT tenant. -/
def RigImage.hasTenant (i : RigImage) (t : Nat) : Bool := i.tenants.tenants.any fun e => e.1 == t && e.2.present

/-- The work classes that a lane class's own units are named for (Tables 2.3, 2.4). -/
def laneWork : Nat → List Nat
  | 0 => [1]
  | 1 => [2]
  | 2 => [2]
  | 3 => [2]
  | 4 => [3, 4]
  | 5 => [8]
  | 6 => [9]
  | 7 => [0xA]
  | _ => []

/-- The work classes in which a lane class's units travel further on (Table 2.3): a read's map fetch and the modules' responses; a write's
map fetch, stripe program, parity and mirror copy; the map stream's and the background's programs, parity, erases and responses
(DEDUCED, notes/assumptions/49.md: the spec ties no work class to a lane class). -/
def laneWorkOn : Nat → List Nat
  | 0 => [3, 0xC]
  | 1 => [3, 5, 7, 0xB]
  | 2 => [3, 4, 5, 7, 0xB]
  | 3 => [3, 5, 7, 0xB]
  | 4 => [5, 7, 0xC]
  | 5 => [3, 5, 6, 7, 0xC]
  | 6 => [3, 5, 7, 0xC]
  | 7 => [3, 0xC]
  | _ => []

/-- The resources of a sequencer (Table 2.1). -/
def hasResource (seq r : Nat) : Bool :=
  if seq < 8 then decide (r < 64) || r == 0x80
  else if seq = 0x20 then r == 0 || r == 1 || r == 4
  else if seq = 0x30 then decide (r < 14)
  else decide (r < 12) || r == 0x80

/-- Slots in a frame of a sequencer (R26, R492). -/
def frameSlots (seq : Nat) : Nat := if seq = 0x30 then 7680 else 16384

/-- R28: entries sorted, without overlap, inside the frame and on the sequencer's resources. -/
def SlotTable.formOk (t : SlotTable) : Bool :=
  t.entries.all (fun e => hasResource t.seqId e.resource && decide (e.start + e.length < frameSlots t.seqId)
      && (if t.seqId = 0x30 then decide (e.cls < 8) else decide (1 ≤ e.cls ∧ e.cls ≤ 0xE)))
    && decide (t.entries.Pairwise fun a b => a.resource < b.resource ∨ (a.resource = b.resource ∧ a.start + a.length < b.start))

/-- R323: a switch entry reserves a storage port, names an input, and no input twice in a cell time; on a storage port its class is a storage
class. -/
def SlotTable.switchOk (t : SlotTable) (storage : BitVec 8) : Bool :=
  t.seqId != 0x30
    || (t.entries.all (fun e =>
        let port (p : Nat) : Bool := decide (9 ≤ p ∧ p ≤ 12)
        decide (e.lane ≤ 13) && (port e.lane || port e.resource) && storage.getLsbD e.cls)
      && decide (t.entries.Pairwise fun a b => a.lane ≠ b.lane ∨ a.start + a.length < b.start ∨ b.start + b.length < a.start))

/-- The spill list of a lane. -/
def RigImage.spillOf (i : RigImage) (e : LaneEntry) : List Nat := (i.spill.drop e.spillOff).take e.spillLen

/-- R30, R33 and Table 2.5 for one lane. An LCLASS or DRAIN out of range, and a tenant that is not PRESENT, are refused here, under check 8
(DESIGN CHOICE, notes/assumptions/49.md: Table 2.10 names no check for them). -/
def RigImage.laneOk (i : RigImage) (l : Nat) (e : LaneEntry) : Bool :=
  decide (e.spillOff + e.spillLen ≤ i.spill.length) && decide (e.lclass < 8)
    && (if e.lclass ≤ 3 then i.hasTenant e.tenant else e.tenant == 0x7FF) && decide (1 ≤ e.drain ∧ e.drain ≤ 7)
    && (i.spillOf e).all fun x => x != l && (match i.lane x with
      | some d => laneWork d.lclass == laneWork e.lclass
      | none => false)

/-- R84: a namespace's streams by its TYPE. -/
def streamsOk (t : StreamTable) (e : NsEntry) : Bool :=
  let kind (k : Nat) : Nat := if k < 56 then ((t.streams[k]?).map (·.kind)).getD 0 else 0
  match e.nsType with
  | 0 => kind e.stream0 == 1 && kind e.stream1 == 2
  | 1 => kind e.stream0 == 3 && e.stream1 == 0xFF
  | _ => kind e.stream0 == 4 && e.stream1 == 0xFF

/-- The map pages of a namespace (R75): first page and one past its last. -/
def nsRange (e : NsEntry) : Nat × Nat := (e.mapBase, e.mapBase + (e.capacity + 815) / 816)

/-- R255 and the tenant of each namespace. -/
def RigImage.nsOk (i : RigImage) : Bool :=
  let l := (i.ns.entries.filter fun e => e.2.present).map (·.2)
  disjoint (l.map nsRange) && decide (i.ns.dirBase + i.ns.sysPages ≤ 2 ^ 32) && l.all fun e =>
    i.hasTenant e.tenant && decide ((nsRange e).2 ≤ i.ns.dirBase) && decide (1 ≤ e.capacity ∧ e.capacity < 2 ^ 48) && streamsOk i.streams e
      && decide (e.nsType < 3) && decide (e.keysel < 4)
      && (if e.nsType = 2 then e.gcm && decide (1440 ≤ e.retPeriod ∧ e.retPeriod ≤ 52560000) else e.retPeriod == 0)

/-- R281 and the ranges of Table 11.3. -/
def RigImage.tenantsOk (i : RigImage) : Bool :=
  let t := i.tenants
  let p := t.tenants.filter fun e => e.2.present
  t.version == 1 && t.hostsCount == t.hosts.length && distinctBy (·.nqn) t.hosts && t.hosts.all (fun h => i.hasTenant h.tenant)
    && p.all (fun e => decide (1 ≤ e.2.qpLimit ∧ e.2.ctrLen ≤ 512 ∧ e.2.ctrBase + e.2.ctrLen ≤ 8192 ∧ e.2.txCir ≤ 64000))
    && disjoint (p.map fun e => (e.2.ctrBase, e.2.ctrBase + e.2.ctrLen))
    && p.all fun e => i.lanes.any fun l => l.2.budget != 0 && l.2.tenant == e.1 && l.2.lclass == 0

/-- R146 with R139, R144 and R153. -/
def RigImage.placementOk (i : RigImage) : Bool :=
  let p := i.placement
  let n := p.data + p.parity
  let bay (b : Nat) : Bool := decide (b < 48) && p.bayMask.getLsbD b
  let declared := (List.range 48).filter fun b => p.bayMask.getLsbD b
  let uses (b : Nat) : Nat := (p.table.filter fun e => (e.members.take n).contains b).length
  let both (a b : Nat) : Nat := (p.table.filter fun e => (e.members.take n).contains a && (e.members.take n).contains b).length
  let apart (l : List Nat) : Bool := l.all bay && decide (l.Nodup) && decide ((l.map (· / 4)).Nodup)
  let copies := if p.layout = 1 then 2 else 3
  p.layout == i.decl.layout && p.bays == i.decl.bays && p.bays == declared.length && p.bayMask == i.decl.bayMask
    && (if p.layout = 1 then p.data == 8 && p.parity == 1 && decide (p.bays < 24) else p.layout == 2 && p.data == 16 && p.parity == 2 && decide (24 ≤ p.bays))
    && p.patterns == p.table.length && decide (1 ≤ p.patterns ∧ p.patterns ≤ 16384) && p.patterns * n % p.bays == 0
    && p.table.all (fun e =>
      let used := e.members.take n ++ [e.alt0] ++ (if e.alt1 = 0xFF then [] else [e.alt1])
      e.members.length == 18 && (e.members.drop n).all (· == 0xFF) && used.all bay && decide (used.Nodup)
        && ((e.alt1 == 0xFF) == (p.bays - n == 1)))
    && declared.all (fun b => uses b == uses (declared.headD 0))
    && declared.all (fun a => declared.all fun b => a == b || decide (p.pairMin ≤ both a b ∧ both a b ≤ p.pairMax))
    && decide (p.pairMax ≤ p.pairMin + 2)
    && apart (p.journal.take copies) && (p.journal.drop copies).all (· == 0xFF) && p.journal.length == 3 && apart p.root && p.root.length == 3
    && p.reserve == i.decl.reserve
    && decide (80 ≤ p.reserve ∧ p.reserve ≤ 400 ∧ 1000 * p.parity ≤ (p.reserve - 20) * p.bays) && p.sysblk == i.decl.sysblk && decide (1 ≤ p.sysblk ∧ p.sysblk ≤ 64)

/-- R470: the shelf declaration, with R141 and R363. -/
def RigImage.declOk (i : RigImage) : Bool :=
  let d := i.decl
  let n := if d.layout = 1 then 9 else 18
  let declared := (List.range 48).filter fun b => d.bayMask.getLsbD b
  let within (x lo hi : Nat) : Bool := decide (lo ≤ x ∧ x ≤ hi)
  d.version == 1 && d.bays == declared.length && decide (d.bayMask.toNat < 2 ^ 48) && (d.layout == 1 || d.layout == 2)
    && d.typesCount == d.types.length && within d.typesCount 1 4 && d.bayType.length == 48
    && (List.range 48).all (fun b =>
      let t := nth d.bayType b 0xFF
      if d.bayMask.getLsbD b then decide (t < d.typesCount) else t == 0xFF)
    && within d.minBays (max 10 n) d.bays && within d.reserve 80 400 && within d.sysblk 1 64 && decide (d.compat ≤ 1 ∧ d.durability ≤ 1)
    && within d.leaseMs 20 500 && within d.holderGuard 1 20 && within d.takerGuard 2 50
    && within (d.holderGuard + d.takerGuard) 3 (d.leaseMs / 2) && within d.dramMin 768 1536 && decide (340 ≤ d.strikeWA ∧ 340 ≤ d.strikeWB)
    && d.types.all fun t =>
      let e := d.types.headD t
      t.dies == e.dies && t.cell == e.cell && t.ppb == e.ppb && t.epp == e.epp && within t.dies 16 128 && t.dies % 16 == 0
        && (t.cell == 3 || t.cell == 4) && within t.ppb 256 1536 && t.ppb % 64 == 0 && within t.epp 1024 16384 && decide (t.trMax ≤ 100)
        && decide (t.trSlcMax ≤ 50 ∧ t.tprogMax ≤ 655 ∧ t.tprogSlcMax ≤ 150 ∧ t.tbersMax ≤ 8000 ∧ t.tsusMax ≤ 40)

/-- A node's longest path of cut nodes, from those of the nodes after it. -/
def nodeDepths (first : Nat) (l : List (ClsNode × Nat)) : List Nat :=
  l.foldr (fun x acc => (match x.1 with
    | .cut w _ c _ => 1 + ((List.range (2 ^ w)).map fun v => nth acc (c + v - (first + x.2 + 1)) 0).foldl max 0
    | _ => 0) :: acc) []

/-- R306 on section 0x0008, with the storage classes of section 0x0009. -/
def clsOk (t : TenantTable) (storage : BitVec 8) (compat : Nat) (c : ClsSection) : Bool :=
  let first := 2 * c.rulesCount
  let nodes := c.nodes.zip (List.range c.nodes.length)
  let depths := nodeDepths first nodes
  c.version == 1 && decide (first ≤ c.nodesCount ∧ c.nodesCount ≤ 262144) && decide (1 ≤ c.actionsCount ∧ c.actionsCount ≤ 65536)
    && c.nodeOff % 64 == 0 && decide (0x120 + 8 * c.actionsCount ≤ c.nodeOff) && c.rules.length == c.rulesCount
    && c.nodes.length == c.nodesCount - first && c.actions.length == c.actionsCount && c.ports.length == 32
    && c.rules.all (fun r => r.1 &&& ~~~ r.2 == 0)
    && nodes.all (fun x => match x.1 with
      | .cut w o ch _ => decide (1 ≤ w ∧ w ≤ 8 ∧ o + w ≤ 512 ∧ first + x.2 < ch ∧ first ≤ ch ∧ ch + 2 ^ w ≤ c.nodesCount)
      | .leaf l _ => decide (l.length ≤ 15) && l.all fun e => decide (e.1 < c.rulesCount ∧ e.2 < c.actionsCount)
      | .badKind => false)
    && c.ports.all (fun p =>
      (!p.treeV || (decide (first ≤ p.root ∧ p.root < c.nodesCount) && decide (nth depths (p.root - first) 0 ≤ 24)))
        && decide (p.malf < c.actionsCount) && (p.malf == 0 || compat == 1))
    && (c.actions.headD defaultAction == defaultAction)
    && c.actions.all fun a =>
      (match a.kind with
        | 0 => a.out == 0
        | 1 => a.out == 0
        | 2 => decide (9 ≤ a.out ∧ a.out ≤ 12) && (!a.setclass || storage.getLsbD a.swclass)
        | 3 => a.out == 0
        | 4 => decide (a.out < 8)
        | _ => false)
      && decide (a.swclass < 8) && (a.policer == 0x7FF || t.tenants.any fun e => e.1 == a.policer && e.2.present)

/-- R335 on section 0x0009. -/
def RigImage.qosOk (i : RigImage) : Bool :=
  let q := i.qos
  q.version == 1 && q.reserved == 0 && q.policers.length == 1024 && q.profiles.length == 64 && q.queues.length == 304
    && decide (q.xonCells < q.xoffCells)
    && q.policers.all (fun p => p.reserved == 0 && decide (p.cir ≤ p.pir ∧ p.cbs ≤ p.pbs ∧ p.pbs < 2 ^ 24)
      && (!p.enabled || decide (16384 ≤ p.cbs)) && decide (-32 ≤ p.overhead ∧ p.overhead ≤ 63))
    && q.profiles.all (fun p => p.reserved == 0 && decide (p.maxTh < 2 ^ 24 ∧ p.maxp < 256 ∧ p.w < 16)
      && (decide (p.minTh < p.maxTh) || (p.minTh == 0 && p.maxTh == 0 && p.maxp == 0 && p.w == 0)))
    && (List.range 304).all fun k =>
      match q.queues[k]? with
      | none => false
      | some e =>
        let port := k / 8 / 4
        e.reserved == 0 && (if e.strict then e.weight == 0 else decide (1 ≤ e.weight ∧ e.weight ≤ 255))
          && decide (e.green < 64 ∧ e.yellow < 64 ∧ e.red < 64 ∧ 17 ≤ e.maxCells ∧ e.maxCells ≤ 262144)
          && (decide (8 ≤ port) || decide ((((i.ports.ports[port]?).map (·.maxFrame)).getD 0) ≤ e.shBurst))

/-- R335 on section 0x000A. -/
def RigImage.portsOk (i : RigImage) : Bool :=
  let p := i.ports
  p.version == 1 && p.reserved == 0 && p.ports.length == 8 && p.eligible.length == 14
    && p.eligible.all (fun l => l.length == 8 && l.all fun m => decide (m.toNat < 2 ^ 14))
    && p.ports.all (fun e => e.reserved == 0 && decide (e.breakout ≤ 2 ∧ 1522 ≤ e.maxFrame ∧ e.maxFrame ≤ 9216 ∧ e.defClass < 8 ∧ e.ctlClass < 8)
      && e.pcpMap.all (fun c => decide (c < 8)) && e.clsPcp.all (fun c => decide (c < 8)) && e.dscpMap.all fun c => decide (c < 8))
    && decide (1 ≤ p.addrsCount ∧ p.addrsCount ≤ 256) && p.addrsCount == p.addrs.length
    && p.addrs.all (fun a => a.reserved == 0 && decide (1 ≤ a.kind ∧ a.kind ≤ 3)
      && decide (a.lport < 32 ∧ a.lport % 4 < 2 ^ (((p.ports[a.lport / 4]?).map (·.breakout)).getD 0)))
    && decide ((p.addrs.map fun a => (a.kind, a.addr)).Nodup)

/-- Table 4.4: the KIND of every stream entry (R83). -/
def RigImage.streamKindsOk (i : RigImage) : Bool :=
  (List.range 64).all fun k =>
    let x := ((i.streams.streams[k]?).map (·.kind)).getD 0
    if k < 56 then decide (x ≤ 4) else x == nth [5, 5, 5, 6, 7, 8, 0, 0] (k - 56) 0

/-- The ranges of Table 2.17, in ID order. -/
def settingRanges : List (Nat × Nat) :=
  [(0, 2), (0, 16), (30, 95), (1, 50), (50, 200), (10, 95), (1, 65535), (1, 65535), (1, 255), (0, 30), (90, 115), (1, 30), (0, 720)]

/-- R493 on section 0x000D. -/
def RigImage.settingsOk (i : RigImage) : Bool :=
  let l := i.settings.bounds
  i.settings.version == 1 && i.settings.count == 13 && l.length == 13 && distinctBy (·.id) l && l.all fun e =>
    decide (1 ≤ e.id ∧ e.id ≤ 13 ∧ e.min ≤ e.default ∧ e.default ≤ e.max) && (
      let r := nth settingRanges (e.id - 1) (0, 0)
      decide (r.1 ≤ e.min ∧ e.max ≤ r.2))

/-- Sections 0x000E and 0x000F (R450, R455, R456). -/
def RigImage.optionalOk (i : RigImage) : Bool :=
  (match i.routes with
    | none => true
    | some r => r.version == 1 && r.routes.all fun e => decide (e.1 < 0xF00 ∧ e.2 < 64))
  && (match i.pmc with
    | none => true
    | some c => c.version == 1 && c.selectors.all fun e => decide (e.1 < 8192) && selOk (some i.tenants) e.1 e.2)

/-- Check 8, Closure. -/
def RigImage.bad8 (i : RigImage) : Bool :=
  !(i.slotTables.all (fun t => t.formOk && t.switchOk i.qos.storageMask
      && (t.seqId == 0x30 || t.entries.all fun e => e.lane == 0x1FFF || (i.lane e.lane).isSome))
    && i.lanes.all (fun e => e.2.budget == 0 || i.laneOk e.1 e.2)
    && decide (((i.lanes.filter fun e => e.2.budget != 0).map fun e => (e.2.tenant, e.2.lclass)).Nodup)
    && i.nsOk && i.tenantsOk && i.placementOk && i.declOk && clsOk i.tenants i.qos.storageMask i.decl.compat i.cls && i.qosOk && i.portsOk
    && i.streamKindsOk && i.settingsOk && i.optionalOk)

/-! ### Checks 9 to 12 -/

/-- Slots of the entries of some sequencers and resources, of a work class, that a lane owns. -/
def RigImage.slotsOf (i : RigImage) (seq res : Nat → Bool) (cls lane : Nat) : Nat :=
  i.slotTables.foldl (fun n t => if seq t.seqId then
    t.entries.foldl (fun n e => if res e.resource && e.cls == cls && e.lane == lane then n + e.length + 1 else n) n else n) 0

/-- A resource kind of Table 2.16: its sequencers and resources, the work classes it serves, those of them in which every lane of the class
must hold slots here, and its slots per work unit. -/
structure UnitKind where
  seq : Nat → Bool
  res : Nat → Bool
  classes : List Nat
  must : List Nat
  figure : Nat

/-- The resource kinds of Table 2.16 outside the switch, whose entries name an input port in place of a lane (R323). On a Sheet port an
erase is an operation without data, 7 slots, and any other class moves codewords. -/
def kinds : List UnitKind :=
  let cell (r : Nat) : Bool := decide (r < 64)
  let flash (q : Nat) : Bool := decide (0x10 ≤ q ∧ q ≤ 0x1B)
  let all := List.range 16
  let reads := [1, 3, 8, 9, 0xA]
  [⟨(· == 0), cell, all, all, 1⟩, ⟨(· == 1), cell, reads, reads, 2⟩, ⟨(· == 2), cell, [2, 4, 8, 9], [2, 4, 8, 9], 65⟩,
   ⟨(· == 3), cell, [7, 9], [9], 33⟩, ⟨(· == 4), cell, [4], [4], 9⟩, ⟨(· == 5), cell, [1, 2], [1, 2], 260⟩, ⟨(· == 6), cell, [8], [8], 9⟩,
   ⟨(· == 7), cell, [9, 0xA], [9, 0xA], 9⟩, ⟨fun q => decide (q < 8), (· == 0x80), all, all, 9⟩,
   ⟨flash, fun r => decide (r < 4), all.filter (· != 6), reads, 593⟩, ⟨flash, fun r => decide (r < 4), [6], [], 7⟩,
   ⟨flash, fun r => decide (4 ≤ r ∧ r < 12), reads ++ [0xC], reads, 2560⟩, ⟨flash, (· == 0x80), all, all, 9⟩,
   ⟨(· == 0x20), fun r => decide (r < 2), all, all, 9⟩, ⟨(· == 0x20), (· == 4), all, all, 9⟩]

/-- Check 9, Budget sums (R492): a lane's own entries of a class hold its budget on the resource kind, and the shared entries that of every
lane of the class; a lane without entries of its own in a class it is named for is served by shared ones. -/
def RigImage.bad9 (i : RigImage) : Bool :=
  let present := i.lanes.filter fun e => e.2.budget != 0
  kinds.any (fun k =>
    k.classes.any fun c =>
      let need (e : Nat × LaneEntry) : Nat := e.2.budget * k.figure
      let shared := i.slotsOf k.seq k.res c 0x1FFF
      (decide (0 < shared) && decide (shared < ((present.filter fun e => (laneWork e.2.lclass ++ laneWorkOn e.2.lclass).contains c).foldl
          (fun n e => n + need e) 0)))
        || present.any fun e =>
          let own := i.slotsOf k.seq k.res c e.1
          (decide (0 < own) || (shared == 0 && k.must.contains c && (laneWork e.2.lclass).contains c)) && decide (own < need e))
  || i.slotTables.any fun t => (List.range 256).any fun r =>
    decide (frameSlots t.seqId < (t.entries.filter fun e => e.resource == r).foldl (fun n e => n + e.length + 1) 0)

/-- The minimum escape credits of a pool, and its drain class (Table 3.6); none where the entry breaks the use rule of R71. -/
def poolMin (e : CreditEntry) (storage : BitVec 8) : Option Nat :=
  match e.pool with
  | 1 => if e.drain = 1 ∧ e.inst < 48 then some 0 else none
  | 2 => if e.drain = 2 ∧ e.inst < 48 then some 1 else none
  | 3 => if e.drain = 3 ∧ e.inst = 0 then some 2 else none
  | 4 => if e.drain = 3 ∧ e.inst = 0 then some 256 else none
  | 5 => if e.drain = 4 ∧ e.inst < 16 then some 16 else none
  | 6 =>
    if e.swclass < 8 ∧ ((e.drain = 5 ∧ e.inst < 14) ∨ (e.drain = 4 ∧ e.inst < 8 ∧ storage.getLsbD e.swclass)) then some 17 else none
  | 7 => if e.drain = 6 ∧ e.inst = 0 then some 132 else none
  | _ => none

/-- Capacity of a pool's instance: 256 send entries a cell (R293), 262,144 switch cells (R324), else as the implementation has it. -/
def poolCap (pool : Nat) : Nat := if pool = 5 then 256 else if pool = 6 then 262144 else Config.poolCapacity pool

/-- Check 10, Credits (R71, R72). -/
def RigImage.bad10 (i : RigImage) : Bool :=
  let st := i.qos.storageMask
  let has (pool drain inst sw : Nat) : Bool := i.credits.any fun e => e.pool == pool && e.drain == drain && e.inst == inst && e.swclass == sw
  let total (f : CreditEntry → Bool) : Nat := (i.credits.filter f).foldl (fun n e => n + e.escapeCr) 0
  !(i.credits.all (fun e => (e.pool == 6 || e.swclass == 0) && (match poolMin e st with
      | some m => decide (m ≤ e.escapeCr)
      | none => false))
    && decide ((i.credits.map fun e => (e.pool, e.drain, e.inst, e.swclass)).Nodup)
    && (List.range 48).all (fun b => !i.decl.bayMask.getLsbD b || has 2 2 b 0) && has 3 3 0 0 && has 4 3 0 0
    && (List.range 16).all (fun c => has 5 4 c 0) && has 7 6 0 0
    && (List.range 14).all (fun o => (List.range 8).all fun c => has 6 5 o c && (!(decide (o < 8) && st.getLsbD c) || has 6 4 o c))
    && i.credits.all (fun e => decide (total (fun x => x.pool == e.pool && (e.pool == 6 || x.inst == e.inst)) ≤ poolCap e.pool))
    && i.lanes.all (fun e => e.2.budget == 0 || decide (1 ≤ e.2.escapeCr))
    && decide ((i.lanes.filter fun e => e.2.budget != 0).foldl (fun n e => n + e.2.escapeCr) 0 ≤ poolCap 8))

/-- The work classes whose units move to or from DRAM: host write data, map fetches, map and journal writes, stripe programs, parity,
reclaim, rebuild and the peer mirror. Read data never goes to DRAM (R24), nor do patrol reads, Sheet responses, erases, or what passes
through (DEDUCED, notes/assumptions/49.md). -/
def dramClasses : List Nat := [2, 3, 4, 5, 7, 8, 9, 0xB]

/-- Check 11, Crossbar (R12, R492): no port twice in a slot, and for each work class that moves units to or from DRAM, DRAM slots enough for
what its SR and FR slots carry. -/
def RigImage.bad11 (i : RigImage) : Bool :=
  let xbar := i.slotTables.filter fun t => t.seqId == 0x20
  xbar.any (fun t => !decide (t.entries.Pairwise fun a b =>
      a.resource ≠ b.resource ∨ a.start + a.length < b.start ∨ b.start + b.length < a.start))
    || dramClasses.any fun c =>
      let slots (f : Nat → Bool) : Nat :=
        xbar.foldl (fun n t => t.entries.foldl (fun n e => if f e.resource && e.cls == c then n + e.length + 1 else n) n) 0
      decide (slots (· == 4) < 9 * (slots (fun r => decide (r < 2)) / 9))

/-- Whether a namespace holds unexpired Retention data. -/
def Machine.State.holdsUnexpired (s : State) (n : Nat) (e : NsEntry) : Bool :=
  e.nsType == 2 && (s.retIndex n).any fun x => decide (0 < x.count ∧ s.rclkMin < x.minute + 1 + e.retPeriod)

/-- Whether a namespace holds data: some sector is not unmapped (R256). -/
def Machine.State.holdsData (s : State) (n : Nat) : Bool := tabGetD s.map.nus n 0 != 0

/-- Check 12, Stored data (R254, R255, R338). A committed image is what makes stored data exist. -/
def Machine.State.bad12 (s : State) (i : RigImage) : Bool :=
  match s.fn.committed with
  | none => false
  | some c =>
    let old := c.ns.entries.filter fun e => e.2.present
    if i.format then old.any fun e => s.holdsUnexpired e.1 e.2
    else
      c.placement != i.placement || c.decl.layout != i.decl.layout || c.decl.reserve != i.decl.reserve
        || c.ns.dirBase != i.ns.dirBase || c.ns.sysPages != i.ns.sysPages
        || old.any fun e =>
          match i.ns.entries.find? fun x => x.1 == e.1 && x.2.present with
          | none => s.holdsUnexpired e.1 e.2
          | some x =>
            decide (x.2.capacity < e.2.capacity) || (s.holdsUnexpired e.1 e.2 && decide (x.2.retPeriod < e.2.retPeriod))
              || (s.holdsData e.1 && !(x.2.nsType == e.2.nsType && x.2.gcm == e.2.gcm && x.2.tenant == e.2.tenant))

/-- The first check of Table 2.10 that refuses an image, 0 if none does (R39). -/
def Machine.State.loaderCheck (s : State) (i : RigImage) : Nat :=
  if i.bad1 then 1 else if i.bad2 then 2 else if s.bad3 i then 3 else if s.bad4 i then 4 else if s.bad5 i then 5 else if i.bad6 then 6
  else if i.bad7 then 7 else if i.bad8 then 8 else if i.bad9 then 9 else if i.bad10 then 10 else if i.bad11 then 11 else if s.bad12 i then 12
  else 0

end Sys2Proof
end

