-- ==== Sys2Proof/Machine/Pair.lean ====
section
/-! DEFINITION. Chapter 15: lease messages and timers, the shrouds and the peer link, takeover, the lapsed holder, swaps and
drains. -/

namespace Sys2Proof.Machine

/-! ### Hearing the peer (R362, R367, R369, R378) -/

/-- The pair state a message's PSTATE names (Table 15.1). -/
def pairOf : Nat → Option PairState
  | 0 => some .init
  | 1 => some .joining
  | 2 => some .standby
  | 3 => some .active
  | 4 => some .single
  | 5 => some .taking
  | 6 => some .giving
  | 7 => some .lapsed
  | _ => none

/-- Whether a lease message is valid (R362, Table 15.3). -/
def leaseValid (m : LeaseMsg) : Bool :=
  m.crcOk && m.reserved == 0 && decide (1 ≤ m.type ∧ m.type ≤ 4) && decide (m.reach.toNat < 2 ^ 48 ∧ m.chan.toNat < 2 ^ 48)

/-- The state of a shroud. -/
def State.shroud (s : State) (sh : Shroud) : ShroudSt :=
  match sh with
  | .a => s.pair.shA
  | .b => s.pair.shB

/-- Set the state of a shroud. -/
def State.setShroud (s : State) (sh : Shroud) (x : ShroudSt) : State :=
  s.onPair fun p => match sh with
    | .a => { p with shA := x }
    | .b => { p with shB := x }

/-- Event source of a shroud (Table 19.11). -/
def shroudSource : Shroud → Nat
  | .a => 0x611
  | .b => 0x612

/-- A valid message has arrived on a shroud: a lost one is restored by 3 within 24 ms (R369). -/
def State.noteShroud (s : State) (sh : Shroud) : State :=
  let x := s.shroud sh
  let times := (x.times.filter fun t => decide (s.now ≤ t + ms 24)) ++ [s.now]
  if x.lost ∧ 3 ≤ times.length then (s.setShroud sh ⟨false, times⟩).event (shroudSource sh) 6 0 0
  else s.setShroud sh { x with times := times }

/-- The lease holder's modules that neither port reaches any longer are retired (R242). -/
def State.checkReach (s : State) : State :=
  (List.range 48).foldl (fun s b =>
    if s.holder ∧ (s.port b).modSt = .unreachable ∧ !s.peerUp b then s.loseModule b else s) s

/-- The active enters SINGLE (Table 15.2): writes in flight are acknowledged under Table 15.8. -/
def State.toSingle (s : State) : State := if s.pair.st = .active then (s.setPair .single).tryAll else s

/-- SINGLE becomes ACTIVE when the peer reaches STANDBY; a write already placed was not mirrored under R86 (Tables 15.2, 15.8). -/
def State.toActive (s : State) : State :=
  if s.pair.st = .single then
    (s.onSched fun x => { x with cmds := tabMap (fun _ c => if c.allPlaced then { c with mirrorLost := true } else c) x.cmds }).setPair .active
  else s

/-- What the active sends a controller that begins to join (R381): the map journal after the root, the stripe journal's records,
its stripe buffers, and the reservation table. -/
def State.sendResync (s : State) : State :=
  if !s.ships then s
  else
    let s1 := s.log.journal.foldl (fun s j =>
      s.emit (.ship (.journal j.jpos j.record.type j.record.count j.record.ns j.record.pos j.record.lba j.record.arg j.record.wseq))) s
    let s2 := s1.log.stripes.foldl (fun s e => s.sjShip (sjOf e.1 e.2 (if e.2.st = .committed then 2 else if e.2.st = .abandoned then 3 else 1))) s1
    let bufs : List (Nat × BufSector) :=
      ((List.range 64).flatMap fun k => (s.stream k).held.map fun e => (k, e)) ++ s.log.stripes.flatMap fun e => e.2.sectors.map fun x => (e.2.stream, x)
    let s3 := bufs.foldl (fun s e => s.emit (.mirror e.1 e.2.payload)) s2
    let s3 := s.sysImage.foldl (fun s e => s.emit (.ship (.page e.1 (sysPageData e.1 (s.log.jposNext - 1) e.2)))) s3
    s3.nvme.resv.foldl (fun s e => s.emit (.ship (.reservation e.1 e.2.entries e.2.tenant true))) s3

/-- A holder in LAPSED whose peer has taken discards what it admitted and joins with its function STOPPED; its taking time runs from
then until a RENEW comes (R374, R375; DEDUCED, notes/assumptions/43.md). -/
def State.lapsedJoin (s : State) : State :=
  let s1 := if s.fn.st = .fenced ∨ s.fn.st = .empty then s else s.setFn .stopped 0
  ((s1.discardAll).onPair fun p => { p with lastRenew := s.now }).join

/-- The standby leaves for JOINING (Table 15.2). -/
def State.standbyBack (s : State) : State :=
  if s.pair.st = .standby then (s.onPair fun p => { p with resync := 0 }).setPair .joining else s

/-- What every valid message does: its shroud, what the sender says of itself, the pair states that follow, and a higher TERM,
which a holder meets by stopping at once and a LAPSED controller by joining (R367, R369, R375, R378, R395, Table 15.2). -/
def State.heard (s : State) (sh : Shroud) (m : LeaseMsg) : State :=
  let s1 := s.noteShroud sh
  let before := s.pair.peerChan
  let fresh := s.pair.peerState ≠ some .joining ∧ pairOf m.pstate = some .joining
  let s2 := s1.onPair fun p =>
    { p with
      peerState := pairOf m.pstate, peerFn := m.fn, peerLeaseMs := some m.leaseMs, peerReach := m.reach, peerChan := m.chan, seenTerm := max p.seenTerm m.term
      heardSince := true
      swap := { p.swap with reachSince := if ones s.reach < ones m.reach then some (p.swap.reachSince.getD s.now) else none } }
  let s3 := (List.range 48).foldl (fun s b =>
    if before.getLsbD b = m.chan.getLsbD b then s else (s.powerFollow b).modulePower b) s2
  let s4 := s3.checkReach
  if s4.holder ∧ s4.pair.term < m.term then s4.lapse
  else if s4.pair.st = .lapsed ∧ s4.pair.term < m.term then s4.lapsedJoin
  else
    let peer := pairOf m.pstate
    if peer = some .standby then s4.toActive
    else if peer = some .giving then s4
    else
      let s5 := s4.toSingle
      if fresh then s5.sendResync else s5

/-- The non-holder's clock follows the holder's: never back (R352). -/
def State.followRclk (s : State) (m : LeaseMsg) : State :=
  if s.pair.st = .joining ∨ s.pair.st = .standby then s.onCip fun c => { c with rclkPs := max c.rclkPs (m.rclk * 10 ^ 9) } else s

/-! ### Lease messages and timers (R364 to R368, Table 15.2) -/

/-- RENEW_TIMER: the holder sends a RENEW on both shrouds with the next SEQ; a controller in INIT sends HELLO (R364, Table 15.1). -/
def execRenewTimer (s : State) : Res State :=
  .next (
    if !s.awake then s
    else if s.holder then
      let n := (s.pair.seq + 1) % 2 ^ 32
      let s1 := s.onPair fun p =>
        { p with seq := n, sent := (p.sent.filter fun e => decide (s.now ≤ e.2 + s.leaseLen)) ++ [(n, s.now)] }
      s1.sendLease (s1.mkLease 1 n false false)
    else if s.pair.st = .init then s.sendLease (s.mkLease 4 0 false false)
    else s)

/-- The holder's stop time lies in an earlier cycle: it has stopped acting before what arrives now (R64, R364). -/
def State.stopPast (s : State) : State :=
  if s.holder && s.pair.hold == .granted && decide (s.pair.expiry < s.now + s.holderGuard) then s.lapse else s

/-- The taking time lies in an earlier cycle: the take has gone ahead before what arrives now (R64, R365, "Renewal meets expiry"). -/
def State.takePast (s : State) : State :=
  let wait := s.leaseLen + s.takerGuard
  match s.pair.st with
  | .joining => if s.pair.lastRenew + wait < s.now then s.takeLease .cold else s
  | .standby => if s.pair.lastRenew + wait < s.now then s.takeLease .warm else s
  | .giving => if s.pair.releaseAt + wait < s.now then s.takeLease .warm else s
  | .init | .active | .single | .taking | .lapsed => s

/-- RENEW_RX: a non-holder answers a valid RENEW of the highest TERM with GRANT on the path it came by; INIT goes to JOINING, and
GIVING to STANDBY on the taker's first one; one that comes after the taking time is ignored and the take proceeds (R64, R364, R365,
Table 15.2). -/
def execRenewRx (sh : Shroud) (m : LeaseMsg) (s : State) : Res State :=
  .next (
    if !s.awake || !leaseValid m || m.type != 1 then s
    else
      let s1 := s.takePast.heard sh m
      if s1.holder ∨ m.term < s1.pair.seenTerm then s1
      else
        let s2 := (s1.onPair fun p => { p with lastRenew := s.now, lastGranted := true }).followRclk m
        let s3 := s2.emit (.lease sh { s2.mkLease 2 m.seq false false with term := m.term })
        match s3.pair.st with
        | .init => if 10 ≤ s3.boot.step then s3.join else s3
        | .giving => if s3.pair.term < m.term then s3.setPair .standby else s3
        | .joining | .standby | .active | .single | .taking | .lapsed => s3)

/-- GRANT_RX: the first GRANT for a SEQ sets the holder's expiry to that RENEW's send time + LEASE_MS and makes the lease granted; one that
comes after the holder's stop time does not count (R64, R364, R368). -/
def execGrantRx (sh : Shroud) (m : LeaseMsg) (s : State) : Res State :=
  .next (
    if !s.awake || !leaseValid m || m.type != 2 then s
    else
      let s1 := s.stopPast.heard sh m
      if !s1.holder || m.term != s1.pair.term then s1
      else match s1.pair.sent.find? fun e => e.1 == m.seq with
        | none => s1
        | some e =>
          (s1.onPair fun p =>
            { p with sent := p.sent.filter fun x => x.1 != m.seq, expiry := e.2 + s1.leaseLen, hold := .granted }).tryAll)

/-- RELEASE_RX: a WITHDRAW makes the holder's lease self-held; a holder's RELEASE lets a joining controller or standby take, unless
its TERM is below one already taken (R367, R368, "Release meets expiry"). -/
def execReleaseRx (sh : Shroud) (m : LeaseMsg) (s : State) : Res State :=
  .next (
    if !s.awake || !leaseValid m || m.type != 3 then s
    else
      let s1 := s.heard sh m
      if m.withdraw then
        if s1.holder then s1.onPair fun p => { p with hold := .self, sent := [] } else s1
      else if m.term < s1.pair.term then s1
      else match s1.pair.st with
        | .joining => s1.takeLease .cold
        | .standby => s1.takeLease (if m.toPeer then .swap else .warm)
        | .init | .active | .single | .taking | .giving | .lapsed => s1)

/-- HELLO_RX: a HELLO from a peer in INIT is heard (R360). -/
def execHelloRx (sh : Shroud) (m : LeaseMsg) (s : State) : Res State :=
  .next (if !s.awake || !leaseValid m || m.type != 4 then s else s.heard sh m)

/-- LEASE_HOLDER_STOP: a granted lease without a GRANT by expiry − HOLDER_GUARD is given up: the holder stops acting (R364). -/
def execLeaseHolderStop (s : State) : Res State :=
  .next (
    if s.awake && s.holder && s.pair.hold == .granted && decide (s.pair.expiry ≤ s.now + s.holderGuard) then s.lapse else s)

/-- LEASE_TAKE_TIMER: no valid RENEW by the last one + LEASE_MS + TAKER_GUARD, or in GIVING by the RELEASE's time, the controller
takes the lease: cold from JOINING, else warm (R365, R368, Table 15.2). -/
def execLeaseTakeTimer (s : State) : Res State :=
  .next (
    if !s.awake then s
    else
      let wait := s.leaseLen + s.takerGuard
      match s.pair.st with
      | .joining => if s.pair.lastRenew + wait ≤ s.now then s.takeLease .cold else s
      | .standby => if s.pair.lastRenew + wait ≤ s.now then s.takeLease .warm else s
      | .giving => if s.pair.releaseAt + wait ≤ s.now then s.takeLease .warm else s
      | .init | .active | .single | .taking | .lapsed => s)

/-- Whether the peer is silent: both its shrouds have carried nothing for 24 ms (R369). -/
def State.peerSilent (s : State) : Bool :=
  (s.pair.shA.times ++ s.pair.shB.times).all fun t => decide (t + ms 24 ≤ s.now)

/-- COLD_TAKE_TIMER: in INIT with no RENEW for 2 × LEASE_MS, the peer silent or in INIT while this controller is in slot A, and no
start-up refusal, the controller takes the lease cold (R373, R474, Table 15.2). -/
def execColdTakeTimer (s : State) : Res State :=
  .next (
    let wait := 2 * s.leaseLen
    if s.awake && s.pair.st == .init && decide (10 ≤ s.boot.step) && s.fn.refusal == 0 && s.fn.committed.isSome
        && decide (s.pair.initSince + wait ≤ s.now) && decide (s.pair.lastRenew = 0 ∨ s.pair.lastRenew + wait ≤ s.now)
        && (s.peerSilent || (s.pair.peerState == some .init && s.boot.board.slot == 1)) && s.fn.st != .fenced then
      s.takeLease .cold
    else s)

/-! ### Takeover (R371 to R373, R375, Table 15.7) -/

/-- Step 7 of Table 15.7: the function runs where start-up or an aborted swap left it waiting, host lanes open, rebuild resumes,
and pinned namespaces are preloaded. A warm or cold taker drops the reservations of the queues the previous holder lost (R251). -/
def State.takeEnd (s : State) : State :=
  let s1 :=
    if s.fn.st = .armed ∧ s.boot.step = 13 then (if s.fn.stoppedByCmd then s.setFn .stopped 0 else (s.tcEmpty).setFn .running 0)
    else if s.fn.st = .draining ∧ s.fn.drain = some .swap then (s.onFn fun f => { f with drain := none }).setFn .running 0
    else s
  let s2 := s1.onFn fun f => { f with lanesOpen := f.st == .running }
  let s3 := if s.pair.take = .warm ∨ s.pair.take = .cold then
      s2.onNvme fun n => { n with resv := tabKeep (fun k _ => decide (k < 2 ^ 20)) n.resv }
    else s2
  let s4 := s3.onPair fun p => { p with takeStep := 0, swap := { p.swap with running := false, lastEnd := s.now, postponed := false } }
  let s5 := s4.setPair (if s4.pair.peerState = some .standby ∨ s4.pair.peerState = some .giving then .active else .single)
  let s6 := s5.resumeRebuild
  (if s6.fn.st = .running then s6.preloadPinned else s6).tryAll

/-- TAKEOVER_STEP: TAKING advances through Table 15.7: once every STATUS has ended a new epoch is fenced; once no FENCE is outstanding the journal is read and
candidates applied, or replay runs on a cold take, or on a probe only the cipher epoch changes; Strike is armed and a checkpoint
made durable; then host lanes open. At start-up each part waits for its step of Table 21.2. A shelf that holds no image, taken for
its first format, has nothing to make durable (DESIGN CHOICE). -/
def execTakeoverStep (s : State) : Res State :=
  .next (
    if !s.awake || s.pair.st != .taking then s
    else if s.pair.takeStep ≤ 2 then
      if s.statusOut then s else (s.fenceAll).onPair fun p => { p with takeStep := 3 }
    else if s.pair.takeStep = 3 then
      if s.sheet.ports.any fun p => p.modSt == .fencing then s
      else if s.boot.step < 11 then s
      else
        let s1 := match s.pair.take with
          | .cold => s.replay
          | .warm => s.warmApply.newEpoch
          | .swap => s.warmApply
          | .probe => s.newEpoch
        s1.onPair fun p => { p with takeStep := 6 }
    else if s.pair.takeStep = 6 then
      if s.boot.step < 12 then s
      else if s.log.rootImage.isNone then s.onPair fun p => { p with takeStep := 7 }
      else ((s.checkStrike).startCkpt.ckptStep).onPair fun p => { p with takeStep := 7 }
    else if s.log.ckpt.isSome then s.ckptStep
    else if s.boot.step < 13 then s
    else s.takeEnd)

/-- LAPSED_PROBE: at T + TAKER_GUARD + 12 ms a LAPSED controller, its function not FENCED, takes the lease again if every module that
answers a STATUS reports its own epoch and port and nothing has been heard from the peer; else it joins. The first step sends the
STATUS, and until the last has ended the next ones wait (R375). -/
def execLapsedProbe (s : State) : Res State :=
  .next (
    if !s.awake || s.pair.st != .lapsed || s.fn.st == .fenced || decide (s.now < s.pair.lapsedT + s.takerGuard + ms 12) then s
    else
      let own := if s.boot.board.slot = 2 then 2 else 1
      let s1 := if s.pair.takeStep = 0 then s.statusAll.onPair fun p => { p with takeStep := 1 } else s
      let bad := s1.sheet.ports.any fun p => p.up && p.answered && (p.epochSeen != s.sheet.epoch || p.ownerSeen != own)
      if s.pair.heardSince then s.lapsedJoin
      else if s1.statusOut then s1
      else if bad then s1.lapsedJoin
      else s1.takeLease .probe)

/-! ### Shrouds and the peer link (R369, R443, Table 15.5) -/

/-- SHROUD_LOSS_TIMER: a shroud with no valid message for 24 ms is lost (R369). -/
def execShroudLossTimer (sh : Shroud) (s : State) : Res State :=
  .next (
    let x := s.shroud sh
    let last := x.times.foldl max s.pair.initSince
    if s.awake && !x.lost && decide (last + ms 24 ≤ s.now) then
      (s.setShroud sh { x with lost := true }).event (shroudSource sh) 5 0 0
    else s)

/-- PEER_LINK_GROUP_LOSS: a lane group that loses lock retrains up to three times and then goes down until the chip reset; with both
down mirror, shipping and forwarding stop: the active enters SINGLE and the standby JOINING (R443, Tables 15.5 and 19.5). -/
def execPeerLinkGroupLoss (g : Fin 2) (s : State) : Res State :=
  .next (
    if !(nth s.pair.groups g.val false) then s
    else
      let n := nth s.pair.groupTries g.val 0 + 1
      let s1 := s.onPair fun p => { p with groupTries := putNth p.groupTries g.val n }
      if n < 3 then s1
      else
        let s2 := (s1.onPair fun p => { p with groups := putNth p.groups g.val false }).event 0x613 5 g.val 0
        if s2.peerLink then s2 else (s2.toSingle.standbyBack).checkReach)

/-- PEER_LINK_RESTORED: a group comes up within its attempts; a group that went down stays down until the chip reset (R369, Table
19.5). -/
def execPeerLinkRestored (g : Fin 2) (s : State) : Res State :=
  .next (
    if nth s.pair.groupTries g.val 0 = 0 then s
    else
      (s.onPair fun p => { p with groups := putNth p.groups g.val true, groupTries := putNth p.groupTries g.val 0 }).event 0x613 6 g.val 0)

/-- RESYNC_COMPLETE: a joining controller holds what the active sent; with its function RUNNING it is STANDBY (R381, Table 15.2). -/
def execResyncComplete (s : State) : Res State :=
  .next (
    if s.pair.st = .joining ∧ s.peerLink then
      let s1 := s.onPair fun p => { p with resync := 1 }
      if s1.fn.st = .running then s1.setPair .standby else s1
    else s)

/-! ### Swaps (R46, R376 to R378, Table 2.14) -/

/-- The first condition of R376 not met: 1 peer not STANDBY and RUNNING, 2 a shroud lost, 3 the peer link down; 0 when all hold. -/
def State.swapLack (s : State) : Nat :=
  if s.pair.peerState ≠ some .standby ∨ s.pair.peerFn ≠ 3 then 1
  else if s.pair.shA.lost ∨ s.pair.shB.lost then 2
  else if !s.peerLink then 3
  else 0

/-- Step 1 of Table 2.14: host lanes close and the function drains, its open stripes closed and a checkpoint begun (R89, R102). -/
def State.beginSwap (s : State) : State :=
  let s1 := s.onPair fun p => { p with swap := { p.swap with running := true, postponed := false } }
  let s2 := ((s1.onFn fun f => { f with lanesOpen := false, drain := some .swap }).setFn .draining 0).pauseRebuild.drainLog
  s2.emit .swapStarted

/-- Whether the active may start a swap of its own accord. -/
def State.swapIdle (s : State) : Bool := s.awake && s.active && s.fn.st == .running && !s.pair.swap.running

/-- PERIODIC_SWAP_TIMER: when the interval has run since the last swap or takeover the active starts a swap; if R376 is not met it is
postponed by 10 minutes, the first postponement with an event (R377, ES 0x614). -/
def execPeriodicSwapTimer (s : State) : Res State :=
  .next (
    let hours := s.setting 12
    let due := if s.pair.swap.postponed then decide (s.pair.swap.retryAt ≤ s.now) else decide (s.pair.swap.lastEnd + secs (3600 * hours) ≤ s.now)
    if !s.swapIdle || hours == 0 || !due then s
    else if s.swapLack = 0 then s.beginSwap
    else
      let s1 := s.onPair fun p => { p with swap := { p.swap with postponed := true, retryAt := s.now + secs 600 } }
      if s.pair.swap.postponed then s1 else s1.event 0x614 0x0A 2 0)

/-- REACH_SWAP_TIMER: a standby that has reached more bays for 100 ms takes the active role by a swap, at least 2 s after the last
one (R378, ES 0x614). -/
def execReachSwapTimer (s : State) : Res State :=
  .next (
    let long := match s.pair.swap.reachSince with
      | some t => decide (t + ms 100 ≤ s.now)
      | none => false
    if s.swapIdle && long && decide (ones s.reach < ones s.pair.peerReach) && s.swapLack == 0
        && (s.pair.take != .swap || decide (s.pair.swap.lastEnd + secs 2 ≤ s.now)) then
      (s.beginSwap).event 0x614 8 0 0
    else s)

/-- SWAP_RELEASE: once every admitted write is acknowledged the giving controller sends its last log position and RELEASE with
TO_PEER, stops programs and erases and enters GIVING (R46, R376, Table 2.14). -/
def execSwapRelease (s : State) : Res State :=
  .next (
    let writes := s.sched.cmds.any fun e => e.2.kind == .write || e.2.kind == .zeroes || e.2.kind == .dsm
    if s.awake && s.active && s.pair.swap.running && s.fn.st == .draining && !writes then
      let s1 := s.emit (.ship (.highWater (s.sched.nextOrder - 1)))
      (((s1.release true).setPair .giving).modulesBack).holdRebuild
    else s)

/-- The giving controller's own buffers become mirrored state, as the taker's other copies are (R46, Table 15.6). -/
def State.toMirror (s : State) : State :=
  let bufs : List (Nat × BufSector) :=
    ((List.range 64).flatMap fun k => (s.stream k).held.map fun e => (k, e)) ++ s.log.stripes.flatMap fun e => e.2.sectors.map fun x => (e.2.stream, x)
  let keep := (bufs.filter fun e => mdKind e.2.payload == 0 && !e.2.mapped).map fun e => (e.1, e.2.payload)
  s.onLog fun l =>
    { l with
      mirrorBuf := keep ++ l.mirrorBuf, stripes := [], rows := [], sjPage := none, sjWait := [], ckpt := none
      sjPeer := (l.stripes.map fun e => sjOf e.1 e.2 (if e.2.st = .committed then 2 else 1)) ++ l.sjPeer
      streams := l.streams.map fun x => { x with stripe := none, openUnit := none } }

/-- Whether the shelf's log shows the drain's checkpoint: nothing dirty, nothing waiting, and the root's STOPPED flag (R41, R476). -/
def State.drainedLog (s : State) : Bool :=
  s.log.ckpt.isNone && s.dirtyPages.isEmpty && s.map.gmdDirty.isEmpty
    && (s.log.journal.all fun j => j.durable || (j.record.type == 6 && decide (2 ^ 63 ≤ j.record.lba)))
    && (match s.log.root with
      | some r => r.stopped
      | none => false)

/-- DRAIN_COMPLETE: a drain by FN.STOP ends in STOPPED once every admitted command has completed, the open stripes are closed and
programmed and the checkpoint is durable; on a standby, once its commands have and it has handed its mirrored state back to the active. A
drain by a swap ends in RUNNING once the
controller is STANDBY and its last command has completed (R41, R46, Table 2.12). -/
def execDrainComplete (s : State) : Res State :=
  .next (
    if s.fn.st ≠ .draining ∨ !s.sched.cmds.isEmpty then s
    else match s.fn.drain with
    | some .swap =>
      if s.pair.st = .standby then
        ((s.toMirror.onPair fun p => { p with swap := { p.swap with running := false, lastEnd := s.now, postponed := false } }).onFn fun f =>
          { f with drain := none }).setFn .running 0
      else s
    | _ =>
      let done (s : State) : State :=
        ((s.onFn fun f => { f with drain := none }).setFn .stopped 0).answerOp 0x0102 (mkResp 0 0 0)
      if !s.holder then
        done ((s.onLog fun l => { l with mirrorBuf := [], sjPeer := [] }).emit (.handBack s.log.mirrorBuf))
      else if s.log.streams.any fun x => !x.held.isEmpty then s.closeAll
      else if s.log.stripes.any fun e => e.2.st == .programming || e.2.st == .journaling then s.kick
      else if s.drainedLog then done s
      else s.startCkpt.ckptStep)

end Sys2Proof.Machine
end

