-- ==== Sys2Proof/Machine/FnCmds.lean ====
section
/-! DEFINITION. The function and rig commands, Table 18.7 (chapters 2 and 18). -/

namespace Sys2Proof.Machine

/-! ### FN.START and FN.STOP (R40, R41, R110, R476) -/

/-- FN.START's effect: the cache starts empty, the active's host lanes open and its pinned namespaces are preloaded; a joining
controller that holds what the active sent is the standby (R40, R110, R127, Table 15.2). -/
def State.fnStart (s : State) : State :=
  let s1 := ((s.tcEmpty).onFn fun f => { f with lanesOpen := s.active }).setFn .running 0
  if s1.active then s1.preloadPinned
  else if s1.pair.st = .joining ∧ s1.pair.resync = 1 then s1.setPair .standby
  else s1

/-- FN_START: FN.START opens host lanes and moves ARMED to RUNNING (R40, Table 2.12). -/
def execFnStart (h : MbxHdr) (s : State) : Res State :=
  .next (s.mbxRun h { op := 0x0101, states := [.armed] } (fun s => (s.fnStart).mbxOk h.mbx.val []) id)

/-- FN.STOP begins: ARMED goes to STOPPED at once, RUNNING drains with its host lanes closed; the standby leaves its role. The next
root says the function was stopped (R40, R41, R476, Table 2.12). -/
def State.fnStop (s : State) (m : Nat) : State :=
  let s1 := s.onFn fun f => { f with stoppedByCmd := true, lanesOpen := false }
  if s.fn.st = .armed then ((s1.setFn .stopped 0).pauseRebuild.startCkpt).mbxOk m []
  else (((s1.onFn fun f => { f with drain := some .stop }).setFn .draining 0).standbyBack.pauseRebuild).drainLog

/-- FN_STOP: FN.STOP answers when the function is STOPPED; a fence during the drain answers it with STATE (R41, "Fence meets drain"). -/
def execFnStop (h : MbxHdr) (s : State) : Res State :=
  .next (s.mbxRun h { op := 0x0102, states := [.armed, .running] } (fun s => s.fnStop h.mbx.val) fun s =>
    match s.fn.st with
    | .stopped => s.mbxOk h.mbx.val []
    | .fenced => s.mbxFail h.mbx.val 6 5
    | _ => s)

/-! ### FN.ARM (R43, R45, R47, R95, R456) -/

/-- Whether a table of the shelf's data is cleared by a format on bay `b`: the module is there and answers. -/
def State.formats (s : State) (b : Nat) : Bool :=
  (s.port b).up && ((s.port b).modSt == .inService || (s.port b).modSt == .ready || (s.port b).modSt == .fencing)

/-- Whether an erase block is of the strike area: system block 0 or 1 of its die (R103; the blocks' assignment is the model's). -/
def strikeBlock (block : Nat) : Bool := block == 0 || block == 1

/-- Every module that answers is erased but for its strike areas: pages, block records and blocks in SLC (Table 2.10, check 12). -/
def State.eraseModules (s : State) : State :=
  let ppb := max 1 s.geo.ppb
  let s1 := s.onSheet fun x =>
    { x with
      media := tabKeep (fun l _ => !s.formats (locBay l) || strikeBlock (locPage l / ppb)) x.media
      modules := (List.range 48).map fun b => (nth x.modules b none).map fun m =>
        if s.formats b then { m with slcBlocks := m.slcBlocks.filter fun e => strikeBlock e.2 } else m
      ports := (List.range 48).map fun b =>
        let p := nth x.ports b Port.reset
        { p with presentAtFormat := s.formats b, returned := p.returned && !s.formats b, needErase := [], erasedBack := [] } }
  s1.onMed fun m =>
    { m with
      blocks := tabMap (fun k r =>
        if s.formats (k / 2 ^ 21) && !strikeBlock (k % 2 ^ 14) then
          { r with pe := satAdd 0xFFFFF r.pe 1, bin := 0, shift := 0, reads := 0, ageMark := 0, st := if r.bad then .bad else .erased }
        else r) m.blocks
      bins := [], probes := [], reconCycle := [], condemned := []
      records := m.records.filter fun r => r.kind != 8
      unitHealth := tabMap (fun _ u => ⟨u.wear + 1, 0, 0⟩) m.unitHealth }

/-- The shelf is formatted for an image (Table 2.10, R143, R146, R189, R202, R341, Table 14.2): modules erased, the log, the map, the
directory and the key range begin anew, a new shelf key is drawn, and the image is committed. Order numbers, the strike halves' state
and retired dies stay. -/
def State.format (s : State) (i : RigImage) : State :=
  let s0 := (s.tcEmpty.eraseModules).onFn fun f => { f with committed := some i, staged := none, rules := some i.cls, stoppedByCmd := false, readOnly := false, roCause := 0 }
  let d := s0.draw
  let key := d.1.setWidth 256
  let s1 := (d.2.onCip fun c =>
    { c with
      slots := tabMap (fun _ k => { k with st := 0, mode := 0, sectors := 0, material := 0, check := 0, wrapped := 0 }) c.slots
      shelfKey := some key, epochs := [], index := [], retFirst := [], seals := [] }).onBoot fun b => { b with shelfKeyNor := some key }
  let s2 := s1.onLog fun l =>
    { LogSt.reset with
      strikeHalf := l.strikeHalf, halfErased := l.halfErased
      halfUsed := match s0.usedHalf l.halfUsed with
        | some x => some x
        | none => l.halfUsed
      sjCopies := (i.placement.journal.filter (· != 0xFF)).map fun b => ⟨b, 0, 0, true, []⟩ }
  let s3 := s2.onReb fun r =>
    { RebSt.reset with
      patrolCycleStart := s.now, batchNo := r.batchNo + 1
      loss := r.loss.filter fun x => match x with
        | .die _ _ => true
        | .bay b => (s.port b).latchedLost }
  (((s3.onMap fun _ => MapSt.reset).onRd fun _ => RdSt.reset).newEpoch).checkSpace

/-- Namespaces that an image does not have: their cached lines are written back and dropped, locked ones too, and their chains and
retention indexes end (R95, chapter 5). -/
def State.dropNamespaces (s : State) (i : RigImage) : State :=
  let gone (n : Nat) : Bool := !(i.ns.entries.any fun e => e.1 == n && e.2.present)
  let s1 := (s.linesWhere fun _ l => l.v && gone l.ns).foldl (fun (s : State) (e : Nat × Nat) => s.dropLine e.1 e.2) s
  (s1.onLog fun l => { l with chains := tabKeep (fun _ c => !gone c.ns) l.chains }).onCip fun c =>
    { c with index := tabKeep (fun n _ => !gone n) c.index }

/-- The changes kept while STOPPED take effect: a kept rule set replaces the image's (R47, R308). Neither they nor the live values already
set are checked again against the bounds of the image armed (DESIGN CHOICE, notes/assumptions/49.md). -/
def State.applyKept (s : State) : State :=
  s.fn.kept.foldl (fun (s : State) c =>
    match c with
    | .rules r => s.onFn fun f => { f with rules := some r }
    | .keySlot slot k => s.setKey slot k
    | x => (s.applyChange 64 x).2) (s.onFn fun f => { f with kept := [] })

/-- FN.ARM ends well: the image is committed and its declaration copy written, kept settings apply, counters start, policers' buckets are
full, and the function is ARMED with host lanes closed (R43, R47, R329, R456, R471, Table 2.12). -/
def State.armDone (s : State) (m : Nat) (i : RigImage) : State :=
  let fresh := s.fn.staged.isSome || s.fn.rules.isNone
  let s1 := (s.onFn fun f =>
    { f with committed := some i, arming := none, staged := none, stoppedByCmd := false, rules := if fresh then some i.cls else f.rules }).dropNamespaces i
  let s2 := (s1.applyKept.armCounters i.pmc).onBoot fun b => { b with declCopy := some ⟨i.shelfId, i.rigGen, i.decl.bayMask⟩ }
  let s3 := (((s2.onNet fun n => { n with buckets := [] }).onFn fun f => { f with lanesOpen := false }).setFn .armed 0).sdtChange 1
  (s3.resumeRebuild.checkStrike).mbxOk m []

/-- FN.ARM ends without effect: the image that the durable root names stays committed (R43, Table 2.12). -/
def State.armFail (s : State) (m status detail : Nat) : State := (s.armDropped m).mbxFail m status detail

/-- FN.ARM goes on. On the lease holder a format erases the shelf first, and the image is committed once the checkpoint that carries its
commit record is durable; a controller that has not taken a lease yet takes one first; a joining controller or a standby, which may not
write a checkpoint, arms at once (R43 to R45; DEDUCED, notes/assumptions/49.md). -/
def State.armStep (s : State) (m format : Nat) : State :=
  match (match s.fn.staged with
    | some i => some i
    | none => s.fn.committed) with
  | none => s.armFail m 0xA 0
  | some i =>
    let wipe : Bool := format == 1 && s.fn.staged.isSome
    if s.fn.st ≠ .stopped then s.armFail m 6 (fnCode s.fn.st)
    else if s.fn.refusal ≠ 0 then s.armFail m 0xA 0
    else if s.boot.step < 14 then s
    else match s.pair.st with
    | .init => s.onFn fun f => if f.committed.isSome then { f with arming := some i } else { f with committed := some i }
    | .taking => s
    | .active | .single =>
      if wipe then
        if s.log.ckpt.isSome || s.sheet.ports.any fun p => !p.ops.isEmpty then s.ckptStep else ((s.format i).startCkpt).ckptStep
      else if s.nextImage ≠ some i ∨ s.fn.stoppedByCmd then
        if s.log.ckpt.isSome then s.ckptStep
        else ((s.onFn fun f => { f with arming := if f.committed = some i then none else some i, stoppedByCmd := false }).startCkpt).ckptStep
      else if s.log.rootImage = some i ∧ s.log.ckpt.isNone ∧ (s.log.root.map (·.stopped)) = some false then s.armDone m i
      else (s.startCkpt).ckptStep
    | _ => if format = 1 then s.armFail m 8 12 else s.armDone m i

/-- Whether a peer that is heard serves the shelf, its function ARMED, RUNNING or DRAINING: a format needs both controllers STOPPED
(R45). -/
def State.peerServes (s : State) : Bool :=
  !(s.pair.shA.lost && s.pair.shB.lost) && s.pair.peerState.isSome && decide (2 ≤ s.pair.peerFn ∧ s.pair.peerFn ≤ 4)

/-- FN.ARM begins: an image that no longer agrees with the stored data is refused, and so is a format while the peer serves (R45). -/
def State.armStart (s : State) (m format : Nat) : State :=
  let no : Bool := (s.fn.staged.map fun i => s.bad12 i).getD false
  if no || (format == 1 && s.peerServes) then s.mbxFail m 8 12 else s.armStep m format

/-- FN_ARM: FN.ARM commits a staged image, formats if asked, and arms the function (R43, Tables 2.12 and 18.7). -/
def execFnArm (h : MbxHdr) (format : Nat) (s : State) : Res State :=
  let m := h.mbx.val
  let staged : Bool := (s.fn.staged.map (·.format)).getD false
  let sp : MbxSpec :=
    { op := 0x0103, states := [.stopped], bad := if 1 < format ∨ (format == 1) ≠ staged then some 0x20 else none }
  .next (s.mbxRun h sp (fun s => s.armStart m format) fun s => s.armStep m format)

/-! ### FN.STATUS, FN.CHIPRESET, FN.CPLTO -/

/-- FN_STATUS: the function state, pair state, frame number and highest order number (Table 18.7). -/
def execFnStatus (h : MbxHdr) (s : State) : Res State :=
  .next (s.mbxRun h { op := 0x0104 } (fun s =>
    s.mbxOk h.mbx.val (leBytes 4 s.fnStateReg ++ leBytes 4 (pairCode s.pair.st) ++ leBytes 8 s.clk.frame ++ leBytes 8 (s.sched.nextOrder - 1))) id)

/-- FN_CHIPRESET: a lease holder releases, and the command is answered; the reset itself follows within 1 ms as CHIP_RESET (R367, Table
18.7). -/
def execFnChipreset (h : MbxHdr) (s : State) : Res State :=
  .next (s.mbxRun h { op := 0x0105, states := [.empty, .stopped, .fenced] } (fun s => (if s.holder then s.giveUpLease else s).mbxOk h.mbx.val []) id)

/-- FN_CPLTO: the completion timeout is changed as a live setting (R414, R430, Table 18.7). -/
def execFnCplto (h : MbxHdr) (timeout : Nat) (s : State) : Res State :=
  let sp : MbxSpec := { op := 0x0106, states := stR430, bad := if timeout < 5 ∨ 5000 < timeout then some 0x20 else none }
  .next (s.mbxRun h sp (fun s => s.live h.mbx.val true (.cplto timeout)) id)

/-! ### Rig commands (R36, R37, R39, R308) -/

/-- RIG.LOAD's effect: in EMPTY only a format image; the checks of Table 2.10; an accepted image is staged in place of any other (R39,
R40, Table 2.12, ES 0x600). -/
def State.rigLoad (s : State) (m : Nat) (i : RigImage) : State :=
  if s.fn.st = .empty ∧ !i.format then s.mbxFail m 6 0
  else
    let n := s.loaderCheck i
    let s1 := s.onFn fun f => { f with lastCheck := n }
    if n ≠ 0 then (s1.eventState 0x600 (fnCode s.fn.st) (fnCode s.fn.st) n 0).mbxFail m 8 n
    else
      let s2 := s1.onFn fun f => { f with staged := some i }
      (if s.fn.st = .empty then s2.setFn .stopped 0 else s2).mbxOk m []

/-- RIG_LOAD: RIG.LOAD fetches and checks an image and stages it or refuses it (R39). -/
def execRigLoad (h : MbxHdr) (image : RigImage) (s : State) : Res State :=
  .next (s.mbxRun h { op := 0x0201, states := [.empty, .stopped], dataIn := true } (fun s => s.rigLoad h.mbx.val image) id)

/-- RIG_VERIFY: RIG.VERIFY runs the same checks without staging, in every state (R39). -/
def execRigVerify (h : MbxHdr) (image : RigImage) (s : State) : Res State :=
  .next (s.mbxRun h { op := 0x0202, dataIn := true } (fun s =>
    let n := s.loaderCheck image
    if n = 0 then s.mbxOk h.mbx.val [] else s.mbxFail h.mbx.val 8 n) id)

/-- Header bytes 0x000 to 0x07F of an image (Table 2.6); the digest's bytes are free. -/
def headerBytes (i : RigImage) : List (BitVec 8) :=
  leBytes 4 i.magic.toNat ++ leBytes 2 i.fmtMajor ++ leBytes 2 i.fmtMinor ++ leBytes 2 i.hdrSize ++ leBytes 2 i.secCount
    ++ leBytes 4 (b2n i.signed + 2 * b2n i.format + 4 * i.flagsReserved) ++ leBytes 8 i.imgLen ++ leBytes 4 i.zenuxVer.toNat
    ++ leBytes 4 i.fwIf.toNat ++ leBytes 2 i.stepping ++ leBytes 2 i.secEntSize ++ leBytes 4 i.secTblOff ++ leBytes 8 i.rigGen
    ++ leBytes 16 i.shelfId.toNat ++ leBytes 4 i.sigOff ++ leBytes 4 i.sigLen ++ leBytes 8 i.reserved
    ++ leBytes 48 (Config.stdPage 0x10050 i.rigGen)

/-- RIG_INFO: the committed and staged image headers, zero where absent (Table 18.7). -/
def execRigInfo (h : MbxHdr) (s : State) : Res State :=
  let page (i : Option RigImage) : List (BitVec 8) := match i with
    | some x => headerBytes x
    | none => leBytes 128 0
  .next (s.mbxRun h { op := 0x0203 } (fun s => s.mbxOk h.mbx.val (page s.fn.committed ++ page s.fn.staged)) id)

/-- RIG_ENROLL: RIG.ENROLL enrols the customer rig key once and for all (R37, Table 18.7). -/
def execRigEnroll (h : MbxHdr) (keyId : BitVec 64) (pubkey : BitVec 776) (s : State) : Res State :=
  let sp : MbxSpec :=
    { op := 0x0204, states := [.empty, .stopped], bad := if pubkey.toNat % 256 ≠ 4 then some 0x28 else none }
  .next (s.mbxRun h sp (fun s =>
    if s.boot.rigKey.isSome then s.mbxFail h.mbx.val 0xA 0
    else (s.onBoot fun b => { b with rigKey := some (keyId, pubkey) }).mbxOk h.mbx.val []) id)

/-- RIG.RULES' effect: the section's checks, the node memory's room, then the rule set is a live setting (R306, R308, R309). -/
def State.rigRules (s : State) (m : Nat) (c : ClsSection) : State :=
  let img := match s.fn.committed with
    | some i => some i
    | none => s.fn.staged
  let ok : Bool := (img.map fun i => clsOk i.tenants i.qos.storageMask i.decl.compat c).getD true
  let running := (s.fn.rules.map (·.nodesCount)).getD 0
  if !clsForm c then s.mbxFail m 8 1
  else if 65536 < c.rulesCount then s.mbxFail m 8 7
  else if !ok then s.mbxFail m 8 8
  else if 262144 < running + c.nodesCount then s.answer m { mkResp 0 0xB 0 with result := leBytes 4 (running + c.nodesCount - 262144) }
  else s.live m false (.rules c)

/-- RIG_RULES: RIG.RULES checks and stages a new classification rule set (R308). -/
def execRigRules (h : MbxHdr) (cls : ClsSection) (s : State) : Res State :=
  let sp : MbxSpec :=
    { op := 0x0206, states := stSAR, dataIn := true, sig := if s.boot.rigKey.isSome then s.sigCheck h.sig else 0 }
  .next (s.mbxRun h sp (fun s => s.rigRules h.mbx.val cls) id)

end Sys2Proof.Machine
end

