-- ==== Sys2Proof/Machine/Pmc.lean ====
section
/-! DEFINITION. Counting, wrap and sampling (chapter 20). -/

namespace Sys2Proof.Machine

/-- What a sample captures (R459, Table 20.6): the program counter for a Masthead core or the cluster's L2, else the slot, the sequencer
of a Storage or Flash block (0xFF elsewhere) and the frame. -/
def State.samplePlace (s : State) (h : Happening) : BitVec 64 :=
  if 0x410 ≤ h.unit ∧ h.unit ≤ 0x414 then h.pc
  else
    let b := (cellBlock h.unit).getD h.unit
    let sequencer := if 0x101 ≤ b ∧ b ≤ 0x108 then b - 0x101 else if 0x201 ≤ b ∧ b ≤ 0x20C then b - 0x201 + 0x10 else 0xFF
    BitVec.ofNat 64 (s.clk.slot % 2 ^ 16 + 2 ^ 16 * sequencer + 2 ^ 24 * (s.clk.frame % 2 ^ 40))

/-- A ring with sample `x` at entry `j`, as entries are first filled in order. -/
def putSample (l : List Sample) (j : Nat) (x : Sample) : List Sample := if j < l.length then putNth l j x else l ++ [x]

/-- A bank writes `n` equal samples into its ring of 256: what finds no room is dropped and counted ("Sample meets full ring"). -/
def Bank.take (k : Bank) (x : Sample) (n : Nat) : Bank :=
  let room := 256 - (k.tail + 2 ^ 32 - k.head) % 2 ^ 32
  let w := min room n
  { k with
    ring := (List.range w).foldl (fun l i => putSample l ((k.tail + i) % 256) x) k.ring
    tail := (k.tail + w) % 2 ^ 32
    lost := satAdd (2 ^ 32 - 1) k.lost (n - w) }

/-- Counter `i` takes a value: it wraps under its SPAN, its overflow bit is set at a wrap, and the bank's sampling counter writes a
sample at each wrap (R452, R457, R459). -/
def State.countUp (s : State) (i add : Nat) (h : Happening) : State :=
  let top := spanTop (selSpan (tabGetD s.pmc.sels i 0))
  let v := (tabGetD s.pmc.vals i 0).toNat + add
  let wraps := v / top
  let s1 := s.onPmc fun p =>
    { p with
      vals := tabPutD 0 p.vals i (BitVec.ofNat 64 (v % top))
      ovf := if wraps = 0 then p.ovf else tabPut p.ovf i true }
  let k := nth s.pmc.banks (i / 512) Bank.reset
  if wraps = 0 ∨ !k.sampleEn ∨ k.sampleCtr ≠ i % 512 then s1
  else
    let core := if 0x410 ≤ h.unit ∧ h.unit ≤ 0x413 then h.core % 4 else 0
    s1.onPmc fun p => { p with banks := modNth p.banks (i / 512) fun b => b.take ⟨s.samplePlace h, i % 512, h.unit, core⟩ wraps }

/-- COUNTER_HAPPENING: every counter whose selector takes the happening adds 1, or the value it carries in mode 1 (R451 to R453, R457,
R459). -/
def execCounterHappening (h : Happening) (s : State) : Res State :=
  .next (
    if !s.awake then s
    else
      let t := s.fn.committed.map (·.tenants)
      (s.pmc.sels.filter fun e => selTakes t e.1 e.2 h).foldl (fun (s : State) (e : Nat × BitVec 32) =>
        s.countUp e.1 (if selMode e.2 = 1 then h.value else 1) h) s)

/-- A write of `PMC_SMP_HEAD`: samples are consumed; a value that makes TAIL − HEAD negative or above 256 is ignored (Table 20.5). -/
def State.smpHead (s : State) (bank value : Nat) : State :=
  s.onPmc fun p =>
    { p with banks := modNth p.banks bank fun k => if (k.tail + 2 ^ 32 - value) % 2 ^ 32 ≤ 256 then { k with head := value } else k }

/-- PMC_SMP_HEAD_WRITE: the host consumes samples (R459, Table 20.5). -/
def execPmcSmpHeadWrite (bank : Fin 16) (value : BitVec 32) (s : State) : Res State :=
  .next (if !s.awake then s else s.smpHead bank.val value.toNat)

end Sys2Proof.Machine
end

