-- ==== Sys2Proof/Machine/Mgmt.lean ====
section
/-! DEFINITION. The management endpoint: PCIe, event queues, MSI-X, register writes, sessions and mailbox completion (chapters 17, 18). -/

namespace Sys2Proof.Machine

/-! ### Event queues (R410, R411) -/

/-- A write of `EVQ_HEAD` (R410, R411): a value that makes P negative or greater than N is ignored with HEAD_ERR; else the queue is armed and
the records left pending count as unsignalled from now. -/
def State.evqHead (s : State) (q value : Nat) : State :=
  let e := s.evq q
  let p := (e.tail + 2 ^ 32 - value) % 2 ^ 32
  if !e.enabled then s
  else if 2 ^ e.log2n < p then s.onEvq q fun e => { e with headErr := true }
  else (s.onEvq q fun e => { e with head := value, armed := true, unsignalled := p, oldest := s.now }).evqSignal q false

/-- EVQ_HEAD_WRITE: the host consumes entries and re-arms the queue, or sets HEAD_ERR. -/
def execEvqHeadWrite (q : Fin 64) (value : BitVec 32) (s : State) : Res State :=
  .next (if !s.mailboxesUp then s else s.evqHead q.val value.toNat)

/-- EVQ_TIME_THRESHOLD: the oldest unsignalled record of an armed queue has waited TIME_TH: its vector is sent (R411). -/
def execEvqTimeThreshold (q : Fin 64) (s : State) : Res State :=
  .next (
    let e := s.evq q.val
    if e.enabled && e.timeTh != 0 && decide (0 < e.unsignalled) && decide (e.oldest + us e.timeTh ≤ s.now) then s.evqSignal q.val true else s)

/-- Unmask a vector: a pending message is sent (R411). -/
def State.unmask (s : State) (v : Nat) : State :=
  let e := nth s.mgmt.msix v Msix.reset
  let s1 := s.onMgmt fun g => { g with msix := modNth g.msix v fun e => { e with masked := false } }
  if e.pend && s.master then (s1.onMgmt fun g => { g with msix := modNth g.msix v fun e => { e with pend := false } }).emit (.msix v) else s1

/-- MSIX_VECTOR_UNMASK: the vector's mask is cleared, and a message its pending bit holds is sent (R411). -/
def execMsixVectorUnmask (v : Fin 64) (s : State) : Res State := .next (if !s.mailboxesUp then s else s.unmask v.val)

/-! ### Requests (R400, R412, R414, R415) -/

/-- AER status bits, as PCI Express numbers them: Poisoned TLP 12, Completion Timeout 14, Unexpected Completion 16 (PRESUMED). -/
def State.logAer (s : State) (bit : Nat) : State :=
  if s.mgmt.aer / 2 ^ bit % 2 = 1 then s else s.onMgmt fun g => { g with aer := g.aer + 2 ^ bit }

/-- A tag's state after its request. -/
def State.setTag (s : State) (t : Nat) (x : Option TagState) : State :=
  s.onMgmt fun g => { g with tags := match x with
    | some v => tabPut g.tags t v
    | none => tabDel g.tags t }

/-- The mailbox whose data was awaited is refused. -/
def State.fetchRefused (s : State) (m status : Nat) : State := (s.onMbx m fun b => { b with fetching := false }).answer m (mkResp 0 status 0)

/-- PCIE_COMPLETION_RX: the data of a request has come. Poisoned data is logged, counted and reported, and refuses every command but a
storage write, which stores its sectors marked (R412); a completion of a discarded request is dropped (R415), and one after the timeout is
unexpected (R414). -/
def execPcieCompletionRx (tag : Fin 1024) (poisoned : Bool) (s : State) : Res State :=
  .next (
    match tabGet s.mgmt.tags tag.val with
    | some (.outstanding m) =>
      let s1 := s.setTag tag.val none
      if !poisoned then s1
      else
        let s2 := ((s1.logAer 12).onMgmt fun g => { g with poisonIn := satAdd (2 ^ 32 - 1) g.poisonIn 1 }).event 0x638 8 1 0
        if s.runningOp m = some 0x0403 then s2 else s2.fetchRefused m 0xE
    | some (.dead _) => s.setTag tag.val none
    | some (.quarantine _) => (s.logAer 16).onMgmt fun g => { g with lateCpl := satAdd (2 ^ 32 - 1) g.lateCpl 1 }
    | none => s.logAer 16)

/-- PCIE_COMPLETION_TIMEOUT: a request has timed out: its command fails, the timeout is logged and counted, and its tag is quarantined
(R414). -/
def execPcieCompletionTimeout (tag : Fin 1024) (s : State) : Res State :=
  .next (
    let late (s : State) : State :=
      ((s.setTag tag.val (some (.quarantine s.now))).logAer 14).onMgmt fun g => { g with cplTimeout := satAdd (2 ^ 32 - 1) g.cplTimeout 1 }
    match tabGet s.mgmt.tags tag.val with
    | some (.outstanding m) => (late s).fetchRefused m 0xC
    | some (.dead _) => late s
    | _ => s)

/-- TAG_QUARANTINE_EXPIRY: after 100 ms a timed-out request's tag may be used again (R414). -/
def execTagQuarantineExpiry (tag : Fin 1024) (s : State) : Res State :=
  .next (
    match tabGet s.mgmt.tags tag.val with
    | some (.quarantine t) => if t + ms 100 ≤ s.now then s.setTag tag.val none else s
    | _ => s)

/-- Requests stop: what is outstanding will be discarded, and commands that await data are held (R415). -/
def State.mastersOff (s : State) : State :=
  let s1 := s.onMgmt fun g => { g with
    tags := tabMap (fun _ t => match t with
      | .outstanding _ => .dead s.now
      | x => x) g.tags }
  s1.onMgmt fun g => { g with mbx := g.mbx.map fun b => if b.fetching then { b with dmaHold := true } else b }

/-- Requests start again: held records are written in order, pending messages sent, and held commands end with DMA_ABORTED (R415). -/
def State.mastersOn (s : State) : State :=
  let s1 := (List.range 64).foldl (fun (s : State) q =>
    let held := (s.evq q).heldRecs
    held.foldl (fun (s : State) r => s.evqWrite q r) (s.onEvq q fun e => { e with heldRecs := [] })) s
  let s2 := (List.range 64).foldl (fun (s : State) v =>
    let e := nth s.mgmt.msix v Msix.reset
    if e.pend && !e.masked then (s.onMgmt fun g => { g with msix := modNth g.msix v fun e => { e with pend := false } }).emit (.msix v) else s) s1
  (List.range 64).foldl (fun (s : State) m =>
    if (s.mbx m).dmaHold then
      (s.onMbx m fun b => { b with dmaHold := false, fetching := false }).answer m (mkResp 0 0xD 0)
    else s) s2

/-- BUS_MASTER_ENABLE_CLEAR: no request leaves from now on (R415). -/
def execBusMasterEnableClear (s : State) : Res State :=
  .next (if !s.mailboxesUp then s
    else if s.master then (s.onMgmt fun g => { g with bme := false }).mastersOff else s.onMgmt fun g => { g with bme := false })

/-- BUS_MASTER_ENABLE_SET: what was held goes out, and held commands end (R415). -/
def execBusMasterEnableSet (s : State) : Res State :=
  .next (if !s.mailboxesUp then s
    else
      let s1 := s.onMgmt fun g => { g with bme := true }
      if s1.master && !s.master then s1.mastersOn else s1)

/-- D3HOT_TRANSITION: in D3hot the function behaves as with bus mastering off; on the return to D0 every register is kept (R400). -/
def execD3hotTransition (enter : Bool) (s : State) : Res State :=
  .next (if !s.mailboxesUp then s
    else
      let s1 := s.onMgmt fun g => { g with d3 := enter }
      if s.master && !s1.master then s1.mastersOff else if s1.master && !s.master then s1.mastersOn else s1)

/-! ### Function-level reset (R416, R417) -/

/-- FUNCTION_LEVEL_RESET: outstanding requests are abandoned with their tags quarantined, held records dropped, mailboxes 0 to 47 ended,
and configuration, MSI-X, event queues and the PCIe error counts are at their reset values; nothing else changes (R416, R417). -/
def execFunctionLevelReset (s : State) : Res State :=
  .next (if s.bpd.mainReset then s
    else
      let s1 := (List.range 48).foldl (fun (s : State) m => ((s.armDropped m).detach m).onMbx m fun _ => Mbx.reset) s
      s1.onMgmt fun g =>
        { g with
          bme := false, d3 := false, aer := 0, poisonIn := 0, poisonOut := 0, cplTimeout := 0, lateCpl := 0
          tags := tabMap (fun _ t => match t with
            | .quarantine x => .quarantine x
            | _ => .quarantine s.now) g.tags
          msix := List.replicate 64 Msix.reset, evqs := List.replicate 64 Evq.reset })

/-! ### Register writes (R9, R401, R404, R405, R447, R457, Tables 5.8, 16.9, 16.10, 17.9) -/

/-- Clear the flag where the written bit is 1 (RW1C). -/
def w1c (v : BitVec 32) (bit : Nat) (b : Bool) : Bool := b && !v.getLsbD bit

/-- A write to a mailbox's doorbell or status (Table 17.6). -/
def State.mbxRegWrite (s : State) (m k : Nat) (v : BitVec 32) : State :=
  if k = 0 then
    if v.getLsbD 0 then s.go m (v.toNat / 65536) (v.getLsbD 6) (v.toNat / 256 % 64) else s
  else if k = 4 then s.onMbx m fun b => { b with overrun := w1c v 2 b.overrun, wrBusy := w1c v 3 b.wrBusy }
  else s

/-- A write to a mailbox's buffer: dropped with WR_BUSY while BUSY (R405). -/
def State.mbxBufWrite (s : State) (m off : Nat) (v : BitVec 32) : State :=
  s.onMbx m fun b =>
    if b.st = .busy then { b with wrBusy := true }
    else { b with buf := (List.range 4).foldl (fun t k => tabPutD 0 t (off + k) (v.extractLsb' (8 * k) 8)) b.buf }

/-- A write to the MSI-X table (Table 17.1). -/
def State.msixWrite (s : State) (k : Nat) (v : BitVec 32) : State :=
  let set (f : Msix → Msix) : State := s.onMgmt fun g => { g with msix := modNth g.msix (k / 4) f }
  match k % 4 with
  | 0 => set fun e => { e with addr := (e.addr.extractLsb' 32 32) ++ v }
  | 1 => set fun e => { e with addr := v ++ (e.addr.extractLsb' 0 32) }
  | 2 => set fun e => { e with data := v }
  | _ => if v.getLsbD 0 then set fun e => { e with masked := true } else s.unmask (k / 4)

/-- A write of a 32-bit word of the Translation Cache's registers by Masthead firmware (Tables 5.7 to 5.11). -/
def State.tcRegWrite (s : State) (off : Nat) (v : BitVec 32) : State :=
  let n := v.toNat
  match off with
  | 0x00 =>
    if v.getLsbD 31 then s.goRange (n % 8) ⟨v.getLsbD 3, v.getLsbD 4, n / 65536 % 4096, s.tc.lba, s.tc.len⟩ none
    else s.onTc fun t => { t with ctrlOp := n % 8, ctrlByNs := v.getLsbD 3, ctrlUnlock := v.getLsbD 4, ctrlNs := n / 65536 % 4096 }
  | 0x08 => s.onTc fun t => { t with lba := t.lba / 2 ^ 32 * 2 ^ 32 + n }
  | 0x0C => s.onTc fun t => { t with lba := n % 65536 * 2 ^ 32 + t.lba % 2 ^ 32 }
  | 0x10 => s.onTc fun t => { t with len := t.len / 2 ^ 32 * 2 ^ 32 + n }
  | 0x14 => s.onTc fun t => { t with len := n % 65536 * 2 ^ 32 + t.len % 2 ^ 32 }
  | 0x18 => s.onTc fun t => { t with done := w1c v 1 t.done, error := w1c v 2 t.error, overrun := w1c v 3 t.overrun }
  | 0x28 => s.lockWays v
  | 0x30 => s.reqOff (v.setWidth 4)
  | _ => s

/-- A write to a counter bank's control window: the overflow bits and `PMC_SMP_HEAD` (R457, Tables 20.3 to 20.5). -/
def State.pmcWrite (s : State) (b off : Nat) (v : BitVec 32) : State :=
  if 0x1800 ≤ off ∧ off < 0x1840 then
    let first := 512 * b + 8 * (off - 0x1800)
    s.onPmc fun p => { p with ovf := tabKeep (fun i _ => !(decide (first ≤ i ∧ i < first + 32) && v.getLsbD (i - first))) p.ovf }
  else if off = 0x1844 then s.smpHead b v.toNat
  else s

/-- A 32-bit write to BAR0 by a client: what no window covers, what is reserved and what the client may only read is ignored (R9, R401,
R404, R419). -/
def State.write32 (s : State) (client : RegClient) (off : Nat) (v : BitVec 32) : State :=
  if 0x0100000 ≤ off ∧ off < 0x0100400 then
    let m := (off - 0x0100000) / 16
    if s.ownsMbx client m then s.mbxRegWrite m (off % 16) v else s
  else if 0x1000000 ≤ off ∧ off < 0x1040000 then
    let m := (off - 0x1000000) / 4096
    if s.ownsMbx client m then s.mbxBufWrite m (off % 4096) v else s
  else
    match client with
    | .debug => s
    | .firmware =>
      if 0x0060000 ≤ off ∧ off < 0x0061000 then s.tcRegWrite (off - 0x0060000) v
      else if off = 0x005000C then s.ackRecord v.toNat
      else s
    | .host =>
      if 0x0030000 ≤ off ∧ off < 0x0030400 then s.msixWrite ((off - 0x0030000) / 4) v
      else if 0x0040000 ≤ off ∧ off < 0x0041000 then
        let q := (off - 0x0040000) / 64
        if off % 64 = 0x10 then s.evqHead q v.toNat
        else if off % 64 = 0x18 then s.onEvq q fun e => { e with overflow := w1c v 0 e.overflow, headErr := w1c v 1 e.headErr }
        else s
      else if off = 0x0070000 then s.onBpd fun b => { b with lostWords := w1c v 4 b.lostWords }
      else if off = 0x0070004 then
        s.onBpd fun b =>
          { b with feedA := { b.feedA with stuck := w1c v 5 b.feedA.stuck }, feedB := { b.feedB with stuck := w1c v 6 b.feedB.stuck } }
      else if 0x0080000 ≤ off ∧ off < 0x0100000 then s.pmcWrite ((off - 0x0080000) / 0x8000) (off % 0x8000) v
      else s

/-- REGISTER_WRITE: an aligned 32-bit or 64-bit write to BAR0 (R401); a 64-bit write writes both its words, the lower first. -/
def execRegisterWrite (client : RegClient) (offset : Nat) (wide : Bool) (value : BitVec 64) (s : State) : Res State :=
  .next (
    if !s.mailboxesUp ∨ offset % 4 ≠ 0 ∨ (wide ∧ offset % 8 ≠ 0) then s
    else
      let s1 := s.write32 client offset (value.extractLsb' 0 32)
      if wide then s1.write32 client (offset + 4) (value.extractLsb' 32 32) else s1)

/-! ### Management Ethernet sessions (R420, R421) -/

/-- A datagram is dropped and counted (R421). -/
def State.dropDatagram (s : State) : State := s.onMgmt fun g => { g with dropped := g.dropped + 1 }

/-- The session in place `i`. -/
def State.session (s : State) (i : Nat) : Option Session := nth s.mgmt.sessions i none

/-- A session ends: a command still running in its mailbox runs to its end and its response is discarded (R421). -/
def State.endSession (s : State) (i : Nat) : State :=
  (s.onMgmt fun g => { g with sessions := putNth g.sessions i none }).onMbx (48 + i) fun b =>
    if b.st = .busy then { b with discard := true } else Mbx.reset

/-- SESSION_OPEN: a valid OPEN takes the lowest free session and is answered with ACCEPT; one whose signature fails, or that finds all eight
open, is dropped and counted (R420, R421). -/
def execSessionOpen (m : OpenMsg) (s : State) : Res State :=
  .next (
    if !s.mailboxesUp then s
    else
      let key : BitVec 776 := nth s.boot.opKeys m.keyIndex 0
      match (List.range 8).find? fun i => (s.session i).isNone with
      | none => s.dropDatagram
      | some i =>
        if !m.sigOk ∨ key = 0 then s.dropDatagram
        else
          (s.onMgmt fun g =>
            { g with
              sessions := putNth g.sessions i (some ⟨g.nextSession, m.keyIndex, 0, 0, s.now⟩)
              nextSession := (g.nextSession + 1) % 2 ^ 32 }).emit (.sessionAccept i))

/-- SESSION_CLOSE: a valid CLOSE ends the session (R421). -/
def execSessionClose (i : Fin 8) (seq : Nat) (tagOk : Bool) (s : State) : Res State :=
  .next (
    match s.session i.val with
    | none => s
    | some x => if !s.mailboxesUp then s else if !tagOk ∨ seq < x.rxSeq then s.dropDatagram else s.endSession i.val)

/-- SESSION_TIMEOUT: 60 s without a valid datagram end a session (R421). -/
def execSessionTimeout (i : Fin 8) (s : State) : Res State :=
  .next (
    match s.session i.val with
    | none => s
    | some x => if x.lastRx + secs 60 ≤ s.now then s.endSession i.val else s)

/-- COMMAND_DATAGRAM_RX: a failed tag or an older SEQ is dropped and counted; the last SEQ again resends the last RESPONSE; a higher one is
a GO for the session's mailbox (R421). -/
def execCommandDatagramRx (i : Fin 8) (seq : Nat) (tagOk : Bool) (s : State) : Res State :=
  .next (
    match s.session i.val with
    | none => s
    | some x =>
      if !s.mailboxesUp then s
      else if !tagOk ∨ seq < x.rxSeq then s.dropDatagram
      else
        let m := 48 + i.val
        let s1 := s.onMgmt fun g => { g with sessions := putNth g.sessions i.val (some { x with rxSeq := seq, lastRx := s.now }) }
        if x.rxSeq < seq then s1.go m 0 false 0
        else if (s.mbx m).st = .done then s1.emit (.response m (bufResp (s.mbx m).buf))
        else s1)

/-! ### Completion (R405, R406, R425) -/

/-- MAILBOX_COMPLETION: the response is written into the buffer, then STATE is DONE, and a completion record is posted if asked for; a
response that nobody awaits is discarded (R405, R406, R421, R425). -/
def execMailboxCompletion (m : Fin 64) (s : State) : Res State :=
  .next (
    let b := s.mbx m.val
    match b.wait with
    | .answer r =>
      if b.st ≠ .busy then s
      else if b.discard then s.onMbx m.val fun b => b.ended .idle
      else
        let put (t : Tab (BitVec 8)) : Tab (BitVec 8) :=
          ((List.range r.bytes.length).zip r.bytes).foldl (fun t e => tabPutD 0 t e.1 e.2) t
        let s1 := (s.onMbx m.val fun b => { b.ended .done with buf := put b.buf }).emit (.response m.val r)
        let s2 :=
          if 48 ≤ m.val ∧ m.val ≤ 55 then
            s1.onMgmt fun g =>
              { g with sessions := modNth g.sessions (m.val - 48) fun x => x.map fun y => { y with txSeq := y.txSeq + 1 } }
          else s1
        if m.val < 48 ∧ b.notify ∧ (s.evq b.evq).enabled then s2.evqPost b.evq (0xF00 + m.val) 1 (b.token + 2 ^ 16 * r.status) 0 else s2
    | _ => s)

/-- The opcodes of Tables 18.7 to 18.10. -/
def mbxOpcodes : List Nat :=
  [0x0101, 0x0102, 0x0103, 0x0104, 0x0105, 0x0106, 0x0201, 0x0202, 0x0203, 0x0204, 0x0206, 0x0301, 0x0302, 0x0303, 0x0304, 0x0305,
   0x0401, 0x0402, 0x0403, 0x0404, 0x0405, 0x0501, 0x0502, 0x0503, 0x0504, 0x0505, 0x0506, 0x0507, 0x0601, 0x0602, 0x0603, 0x0604, 0x0605,
   0x0701, 0x0702, 0x0703, 0x0704, 0x0705, 0x0706, 0x0801, 0x0802, 0x0803, 0x0901, 0x0902, 0x0903, 0x0904, 0x0905, 0x0906,
   0x0A01, 0x0A02, 0x0A03, 0x0B01, 0x0B02, 0x0B03, 0x0C01, 0x0C02, 0x0C03, 0x0C04, 0x0D01, 0x0D02]

/-- MAILBOX_INVALID_OPCODE: a command whose opcode no table lists is refused by name (R426, R436). -/
def execMailboxInvalidOpcode (h : MbxHdr) (opcode : Nat) (s : State) : Res State :=
  .next (
    let m := h.mbx.val
    let b := s.mbx m
    if !s.mailboxesUp ∨ mbxOpcodes.contains opcode ∨ b.st ≠ .busy ∨ b.wait ≠ .free ∨ s.nextGo ≠ some m then s
    else
      let s1 := (s.takeGo m none).onMbx m fun b => { b with wait := .running opcode }
      if 48 ≤ m ∧ h.dlen ≠ 0 then s1.mbxFail m 1 m else s1.mbxFail m 2 0)

end Sys2Proof.Machine
end

