-- ==== Sys2Proof/Machine/KeyCmds.lean ====
section
/-! DEFINITION. The key and retention commands of Tables 18.9 and 18.10 (R345 to R353, R434, R435). -/

namespace Sys2Proof.Machine

/-! ### Key slots (R345, R346, Table 14.4) -/

/-- The parameters of a key command: TENANT to 1,023, SLOT 0 to 3. -/
def badSlot (tenant slot : Nat) : List (Option Nat) := [if 1023 < tenant then some 0x20 else none, if 3 < slot then some 0x22 else none]

/-- MODE is 1 XTS or 2 Sector-GCM (Table 14.3). -/
def badMode (mode : Nat) : Option Nat := if mode = 1 ∨ mode = 2 then none else some 0x23

/-- A key command's place among the checks and the waits (R346, R428). -/
def keySpec (op tenant : Nat) (bad : List (Option Nat)) : MbxSpec :=
  { op := op, states := stSAR, holder := true, key := some (1000 + tenant), bad := firstOff bad }

/-- A key change is validated: a live setting; one kept while STOPPED is answered with its result at once (R47, R346, Table 18.9). -/
def State.keyLive (s : State) (m slot : Nat) (k : KeySlot) : State :=
  if s.fn.st = .stopped then
    (s.onFn fun f => { f with kept := f.kept ++ [.keySlot slot k] }).mbxOk m (if k.st = 1 then leBytes 4 k.check else [])
  else s.live m false (.keySlot slot k)

/-- A key is placed in an EMPTY slot: GEN + 1, and the KCV of the material (Tables 14.3 and 14.4). -/
def State.placeKey (s : State) (m slot mode : Nat) (material : BitVec 512) : State :=
  let old := s.keyView slot
  let k : KeySlot := { st := 1, mode := mode, gen := (old.gen + 1) % 2 ^ 32, sectors := 0, material := material, check := 0,
                        wrapped := (s.cip.shelfKey.map fun x => Config.keyWrap x material).getD 0 }
  s.keyLive m slot { k with check := kcv k }

/-- KEY_GENERATE: key material drawn from a DRBG goes to an EMPTY slot; a Sector-GCM key's upper half is 0 (R345, Table 14.4). -/
def execKeyGenerate (h : MbxHdr) (tenant : Nat) (slot : Nat) (mode : Nat) (s : State) : Res State :=
  let m := h.mbx.val
  let k := 4 * tenant + slot
  .next (s.mbxRun h (keySpec 0x0501 tenant (badMode mode :: badSlot tenant slot)) (fun s =>
    if (s.keyView k).st ≠ 0 ∨ s.cip.shelfKey.isNone then s.mbxFail m 0xA 0
    else
      let d := s.draw
      d.2.placeKey m k mode (if mode = 2 then (d.1.setWidth 256).setWidth 512 else d.1)) id)

/-- KEY_IMPORT: key material encrypted to the device key goes to an EMPTY slot; material that does not unwrap, or a Sector-GCM key with
bytes 32 to 63 not 0, is refused (Table 14.4). -/
def execKeyImport (h : MbxHdr) (tenant : Nat) (slot : Nat) (mode : Nat) (unwrapped : Option (BitVec 512)) (s : State) : Res State :=
  let m := h.mbx.val
  let k := 4 * tenant + slot
  .next (s.mbxRun h (keySpec 0x0502 tenant (badMode mode :: badSlot tenant slot)) (fun s =>
    if (s.keyView k).st ≠ 0 ∨ s.cip.shelfKey.isNone then s.mbxFail m 0xA 0
    else match unwrapped with
      | none => s.mbxFail m 3 0x85
      | some x => if mode = 2 ∧ x.toNat / 2 ^ 256 ≠ 0 then s.mbxFail m 3 0x85 else s.placeKey m k mode x) id)

/-- Whether a Retention namespace of a tenant holds unexpired sectors (Table 14.4). -/
def State.tenantHolds (s : State) (tenant : Nat) : Bool := (s.tenantNs tenant).any fun e => s.holdsUnexpired e.1 e.2

/-- KEY_DESTROY: an ACTIVE slot's key is erased from the key stores of both controllers, unless a Retention namespace of the tenant
holds unexpired sectors (R348, Table 14.4). -/
def execKeyDestroy (h : MbxHdr) (tenant : Nat) (slot : Nat) (s : State) : Res State :=
  let m := h.mbx.val
  let k := 4 * tenant + slot
  .next (s.mbxRun h (keySpec 0x0503 tenant (badSlot tenant slot)) (fun s =>
    let old := s.keyView k
    if old.st ≠ 1 ∨ s.tenantHolds tenant then s.mbxFail m 0xA 0 else s.keyLive m k { old with st := 2, material := 0, wrapped := 0 }) id)

/-- The record of a key slot without WRAPPED: bytes 0x00 to 0x17 and 0x60 to 0x7F of Table 14.3. -/
def keyBytes (k : KeySlot) : List (BitVec 8) :=
  let n := k.recNat
  leBytes 24 n ++ leBytes 32 (n / 2 ^ 768)

/-- KEY_STATUS: the record of a key slot without WRAPPED (Tables 14.3 and 14.4). -/
def execKeyStatus (h : MbxHdr) (tenant : Nat) (slot : Nat) (s : State) : Res State :=
  let k := 4 * tenant + slot
  .next (s.mbxRun h { op := 0x0504, bad := firstOff (badSlot tenant slot) } (fun s => s.mbxOk h.mbx.val (keyBytes (s.keySlot k))) id)

/-! ### The shelf key and operator keys (R346, R347, R434) -/

/-- The offset of a P-384 point that is not in uncompressed form. -/
def badPoint (p : BitVec 776) (off : Nat) : Option Nat := if p.toNat % 256 = 4 then none else some off

/-- KEY_ESCROW: the shelf key encrypted to a customer public key, once a customer rig key is enrolled (Table 14.4). -/
def execKeyEscrow (h : MbxHdr) (cpub : BitVec 776) (s : State) : Res State :=
  let m := h.mbx.val
  .next (s.mbxRun h { op := 0x0505, bad := badPoint cpub 0x20 } (fun s =>
    match s.boot.rigKey, s.cip.shelfKey with
    | some _, some key =>
      let f := s.freeNat
      let w := Config.escrowWrap f.1 key cpub
      f.2.mbxOk m (leBytes 97 w.1.toNat ++ leBytes 40 w.2.toNat)
    | _, _ => s.mbxFail m 0xA 0) id)

/-- KEY_RESTORE: an escrowed shelf key is installed on a controller that has none (R347, Table 14.4). -/
def execKeyRestore (h : MbxHdr) (unwrapped : Option (BitVec 256)) (s : State) : Res State :=
  let m := h.mbx.val
  .next (s.mbxRun h { op := 0x0506, states := [.empty, .stopped] } (fun s =>
    if s.cip.shelfKey.isSome then s.mbxFail m 0xA 0
    else match unwrapped with
      | none => s.mbxFail m 3 0x81
      | some k => ((s.onCip fun c => { c with shelfKey := some k }).onBoot fun b => { b with shelfKeyNor := some k }).mbxOk m []) id)

/-- KEY_MGMTENROLL: an operator key is written or, with PUBKEY all zero, removed, which closes every session opened with it (R434). -/
def execKeyMgmtenroll (h : MbxHdr) (index : Nat) (pubkey : BitVec 776) (s : State) : Res State :=
  let sp : MbxSpec :=
    { op := 0x0507, states := stR430, bad := firstOff [if 7 < index then some 0x20 else none, if pubkey = 0 then none else badPoint pubkey 0x21] }
  .next (s.mbxRun h sp (fun s =>
    let s1 := s.onBoot fun b => { b with opKeys := putNth b.opKeys index pubkey }
    let s2 := if pubkey ≠ 0 then s1 else
      (List.range 8).foldl (fun (s : State) i => match s.session i with
        | some x => if x.keyIndex = index then s.endSession i else s
        | none => s) s1
    s2.mbxOk h.mbx.val []) id)

/-! ### The retention clock (R353, R435) -/

/-- RET_ADVANCE: RCLK moves forward by 1 ms to 31 days at the next frame boundary, if ADV_SEQ exceeds the last one accepted; every advance raises
an event with the old and new values ("Advance meets deallocate", R353, R435, ES 0x631). -/
def execRetAdvance (h : MbxHdr) (delta : Nat) (advSeq : Nat) (s : State) : Res State :=
  let m := h.mbx.val
  let sp : MbxSpec :=
    { op := 0x0C03, states := stSAR, holder := true, sig := if s.boot.rigKey.isSome then s.sigCheck h.sig else 0
      bad := if delta = 0 ∨ 2678400000 < delta then some 0x20 else none }
  .next (s.mbxRun h sp (fun s =>
    if advSeq ≤ s.boot.advSeq then s.mbxFail m 0xA 0
    else (s.onBoot fun b => { b with advSeq := advSeq }).live m true (.retAdvance delta)) id)

/-- RET_CLOCK: RCLK, on the lease holder (R353). -/
def execRetClock (h : MbxHdr) (s : State) : Res State :=
  .next (s.mbxRun h { op := 0x0C04, holder := true } (fun s => s.mbxOk h.mbx.val (leBytes 8 s.rclk)) id)

/-- SEAL_CERT: the device certificate (R359, Table 18.10). -/
def execSealCert (h : MbxHdr) (s : State) : Res State :=
  let cert := Config.deviceCert s.boot.devKeyId
  let len := 4096 * cert.length
  .next (s.mbxRun h { op := 0x0C02, out := some len } (fun s =>
    (s.emit (.dmaData h.mbx.val cert)).answer h.mbx.val { mkResp 0 0 0 with xfer := len }) id)

end Sys2Proof.Machine
end

