-- ==== Sys2Proof/Machine/LiveCmds.lean ====
section
/-! DEFINITION. The health, event, Crowsnest, counter and bay commands of Tables 18.9 and 18.10, and PAIR.INTERVAL: live settings and what
reads them (R47, R430, R434, R435). -/

namespace Sys2Proof.Machine

/-! ### Settings of section 0x000D (R47, R493, Table 2.17) -/

/-- Bounds of live setting `i`: the committed image's, or without one the ranges of Table 2.17 (R47, R493). -/
def State.bounds (s : State) (i : Nat) : Nat × Nat :=
  match s.fn.committed.bind fun x => x.settings.bounds.find? fun e => e.id == i + 1 with
  | some e => (e.min, e.max)
  | none => nth settingRanges i (0, 0)

/-- The offset of a setting's parameter whose value is outside its bounds. -/
def State.badSetting (s : State) (i v off : Nat) : Option Nat :=
  let b := s.bounds i
  if v < b.1 ∨ b.2 < v then some off else none

/-- Several settings change together; the last carries the mailbox that is answered (R47, R429). -/
def State.liveSettings (s : State) (m : Nat) (l : List (Nat × Nat)) : State :=
  let n := l.length - 1
  (List.range l.length).foldl (fun (s : State) k =>
    let e := nth l k (0, 0)
    s.live (if k = n then m else 64) false (.setting e.1 e.2)) s

/-- HLTH_CAPS: the host read cap and the background cap (Tables 8.5 and 18.9). -/
def execHlthCaps (h : MbxHdr) (hostCap : Nat) (bgCap : Nat) (s : State) : Res State :=
  let sp : MbxSpec := { op := 0x0603, states := stSAR, bad := firstOff [s.badSetting 0 hostCap 0x20, s.badSetting 1 bgCap 0x21] }
  .next (s.mbxRun h sp (fun s => s.liveSettings h.mbx.val [(0, hostCap), (1, bgCap)]) id)

/-- HLTH_THRESH: the rewrite threshold and the eight early-warning thresholds of Table 8.10 in table order (R180, R211, Table 18.9). -/
def execHlthThresh (h : MbxHdr) (rewrite : Nat) (thresholds : List Nat) (s : State) : Res State :=
  let vals := (2, rewrite) :: (List.range 8).map fun k => (3 + k, nth thresholds k 0)
  let sp : MbxSpec :=
    { op := 0x0604, states := stSAR
      bad := firstOff (s.badSetting 2 rewrite 0x20 :: (List.range 8).map fun k => s.badSetting (3 + k) (nth thresholds k 0) (0x21 + 4 * k)) }
  .next (s.mbxRun h sp (fun s => s.liveSettings h.mbx.val vals) id)

/-- HLTH_PATROL: the patrol cycle in days (R178, Table 18.9). -/
def execHlthPatrol (h : MbxHdr) (days : Nat) (s : State) : Res State :=
  .next (s.mbxRun h { op := 0x0605, states := stSAR, bad := s.badSetting 11 days 0x20 } (fun s => s.liveSettings h.mbx.val [(11, days)]) id)

/-- PAIR_INTERVAL: the periodic swap interval in hours, 0 for none (R377, Table 18.10). -/
def execPairInterval (h : MbxHdr) (hours : Nat) (s : State) : Res State :=
  .next (s.mbxRun h { op := 0x0A03, states := stSAR, bad := s.badSetting 12 hours 0x20 } (fun s => s.liveSettings h.mbx.val [(12, hours)]) id)

/-- HLTH_MODULE: the health record of a bay (R209, Table 18.9). -/
def execHlthModule (h : MbxHdr) (bay : Nat) (s : State) : Res State :=
  let sp : MbxSpec := { op := 0x0601, bad := if 47 < bay then some 0x20 else none }
  .next (s.mbxRun h sp (fun s => s.mbxOk h.mbx.val (leBytes 128 (s.healthRecord bay))) id)

/-- The namespaces of the committed image, ascending. -/
def State.allNs (s : State) : List (Nat × NsEntry) := (s.fn.committed.map fun i => i.ns.entries.filter fun e => e.2.present).getD []

/-- HLTH_PAGE: page C0h's layout over every namespace (Tables 10.11 and 18.9). -/
def execHlthPage (h : MbxHdr) (s : State) : Res State :=
  let len := healthLen s.allNs.length
  .next (s.mbxRun h { op := 0x0602, out := some len } (fun s => s.mbxData h.mbx.val (leBytes len (s.healthPage s.allNs))) id)

/-! ### Event queues (R407, R430, R450) -/

/-- The offset of a number above its range's top. -/
def badAbove (top v off : Nat) : Option Nat := if top < v then some off else none

/-- COUNT_TH is 1 to 1,024 and TIME_TH at most 10,000 µs (R407). -/
def badModeration (countTh timeTh : Nat) : List (Option Nat) :=
  [if countTh = 0 ∨ 1024 < countTh then some 0x24 else none, badAbove 10000 timeTh 0x26]

/-- EVT_QCREATE: an event queue is created; one that exists is a CONFLICT (R407). -/
def execEvtQcreate (h : MbxHdr) (q : Nat) (log2n : Nat) (vector : Nat) (countTh : Nat) (timeTh : Nat) (base : BitVec 64) (s : State) : Res State :=
  let m := h.mbx.val
  let sp : MbxSpec :=
    { op := 0x0701, states := stR430
      bad := firstOff ([badAbove 63 q 0x20, if log2n < 6 ∨ 16 < log2n then some 0x21 else none, badAbove 63 vector 0x22,
        if base.toNat % 4096 = 0 then none else some 0x28] ++ badModeration countTh timeTh) }
  .next (s.mbxRun h sp (fun s =>
    if (s.evq q).enabled then s.mbxFail m 0xA 0 else s.live m true (.evqCreate q log2n vector countTh timeTh base)) id)

/-- EVT_QDELETE: an event queue is deleted; one that does not exist completes with OK and changes nothing (R407, R410). -/
def execEvtQdelete (h : MbxHdr) (q : Nat) (s : State) : Res State :=
  let m := h.mbx.val
  .next (s.mbxRun h { op := 0x0702, states := stR430, bad := badAbove 63 q 0x20 } (fun s =>
    if (s.evq q).enabled then s.live m true (.evqDelete q) else s.mbxOk m []) id)

/-- EVT_QMOD: an event queue's thresholds change; one that does not exist is a CONFLICT (R407). On a queue that exists the parameters
are Q, a reserved byte, COUNT_TH and TIME_TH. -/
def execEvtQmod (h : MbxHdr) (q : Nat) (countTh : Nat) (timeTh : Nat) (s : State) : Res State :=
  let m := h.mbx.val
  let sp : MbxSpec :=
    { op := 0x0703, states := stR430
      bad := firstOff [badAbove 63 q 0x20, if countTh = 0 ∨ 1024 < countTh then some 0x22 else none, badAbove 10000 timeTh 0x24] }
  .next (s.mbxRun h sp (fun s =>
    if (s.evq q).enabled then s.live m true (.evqMod q countTh timeTh) else s.mbxFail m 0xA 0) id)

/-- EVT_ROUTE: a range of event sources below 0xF00 is routed to a queue or to none (R450). -/
def execEvtRoute (h : MbxHdr) (first : Nat) (last : Nat) (q : Nat) (enable : Nat) (s : State) : Res State :=
  let sp : MbxSpec :=
    { op := 0x0704, states := stR430
      bad := firstOff [badAbove 0xEFF first 0x20, if 0xEFF < last ∨ last < first then some 0x22 else none, badAbove 63 q 0x24,
        badAbove 1 enable 0x25] }
  .next (s.mbxRun h sp (fun s => s.live h.mbx.val true (.route first last q (decide (enable = 1)))) id)

/-! ### The Crowsnest history (R445, R447) -/

/-- CWN_HISTORY: the history's header and its 64 entries, oldest first (chapter 19). -/
def execCwnHistory (h : MbxHdr) (s : State) : Res State :=
  .next (s.mbxRun h { op := 0x0705 } (fun s => s.mbxOk h.mbx.val s.historyBytes) id)

/-- CWN_ACK: the trigger's FAULT_SEQ re-arms the history, whose entries are all invalid then; any other value is a CONFLICT (R445). -/
def execCwnAck (h : MbxHdr) (seq : Nat) (s : State) : Res State :=
  let m := h.mbx.val
  .next (s.mbxRun h { op := 0x0706 } (fun s =>
    if s.flt.trigSeq = 0 ∨ seq ≠ s.flt.trigSeq then s.mbxFail m 0xA 0
    else
      (s.onFlt fun f =>
        { f with hist := .recording, history := [], histHead := 0, after := 0, trigSeq := 0, preserved := false, fSeen := false }).mbxOk m []) id)

/-! ### Counters (R454, R455, R459, R461) -/

/-- PMC_PROGRAM: counters of a bank take new selectors at the next frame boundary; a selector that breaks R455, or a range past the
bank's end, is refused (R454, R455). -/
def execPmcProgram (h : MbxHdr) (bank : Nat) (first : Nat) (selectors : List (BitVec 32)) (s : State) : Res State :=
  let n := selectors.length
  let at_ := 512 * bank + first
  let tenants := s.fn.committed.map (·.tenants)
  let wrong := (List.range n).find? fun k => !selOk tenants (at_ + k) (nth selectors k 0)
  let sp : MbxSpec :=
    { op := 0x0801, states := stR430
      bad := firstOff [badAbove 15 bank 0x20, if n = 0 ∨ 512 < n then some 0x23 else none, if 512 < first + n then some 0x21 else none,
        wrong.map fun k => 0x25 + 4 * k] }
  .next (s.mbxRun h sp (fun s => s.live h.mbx.val true (.pmcProgram at_ selectors)) id)

/-- PMC_USERMAP: whether a bank's BAR2 page may be mapped into user space (R461). -/
def execPmcUsermap (h : MbxHdr) (bank : Nat) (allow : Nat) (s : State) : Res State :=
  let sp : MbxSpec := { op := 0x0802, states := stR430, bad := firstOff [badAbove 15 bank 0x20, badAbove 1 allow 0x21] }
  .next (s.mbxRun h sp (fun s => s.live h.mbx.val true (.pmcUser bank (decide (allow = 1)))) id)

/-- PMC_SAMPLE: a bank's sampling counter, never one of a tenant's window (R459). -/
def execPmcSample (h : MbxHdr) (bank : Nat) (counter : Nat) (enable : Nat) (s : State) : Res State :=
  let owned : Bool := (windowOf (s.fn.committed.map (·.tenants)) (512 * bank + counter)).isSome
  let sp : MbxSpec :=
    { op := 0x0803, states := stR430
      bad := firstOff [badAbove 15 bank 0x20, if 511 < counter ∨ (owned ∧ enable = 1) then some 0x21 else none, badAbove 1 enable 0x23] }
  .next (s.mbxRun h sp (fun s => s.live h.mbx.val true (.pmcSample bank counter (decide (enable = 1)))) id)

/-! ### Bay power (R390, R394, R395, R435) -/

/-- A bay command's place among the checks and the waits. -/
def baySpec (op bay : Nat) (bad : List (Option Nat)) : MbxSpec :=
  { op := op, states := stR430, key := some bay, bad := firstOff (badAbove 47 bay 0x20 :: bad) }

/-- BAY_ENABLE: a bay channel is enabled at the next frame boundary (R390, R394). -/
def execBayEnable (h : MbxHdr) (bay : Nat) (s : State) : Res State :=
  .next (s.mbxRun h (baySpec 0x0901 bay []) (fun s => s.live h.mbx.val true (.bayEnable bay true)) id)

/-- BAY_DISABLE: a bay channel is disabled, its module quiesced first where it must be (R390, R395). -/
def execBayDisable (h : MbxHdr) (bay : Nat) (s : State) : Res State :=
  .next (s.mbxRun h (baySpec 0x0902 bay []) (fun s => s.live h.mbx.val true (.bayEnable bay false)) id)

/-- BAY_CONFIG: a bay channel's settings for its next start (R390, Tables 16.4 and 18.10). -/
def execBayConfig (h : MbxHdr) (bay : Nat) (gate : Nat) (ft3 : Nat) (insDelay : Nat) (ilim : Nat) (soa : Nat) (rampTo : Nat) (s : State) : Res State :=
  let rng (lo hi v off : Nat) : Option Nat := if v < lo ∨ hi < v then some off else none
  .next (s.mbxRun h (baySpec 0x0903 bay [rng 1 8 gate 0x21, badAbove 1 ft3 0x22, rng 5 200 insDelay 0x23, rng 10 63 ilim 0x24, rng 1 20 soa 0x25,
      rng 5 200 rampTo 0x26]) (fun s => s.live h.mbx.val true (.bayCfg bay ⟨gate, decide (ft3 = 1), insDelay, ilim, soa, rampTo⟩)) id)

/-- BAY_TOGGLE: a bay channel is toggled; one in FET_FAULT is a CONFLICT (R391, R394, R435). -/
def execBayToggle (h : MbxHdr) (bay : Nat) (s : State) : Res State :=
  .next (s.mbxRun h (baySpec 0x0904 bay []) (fun s =>
    if (s.chan bay).st = .fetFault then s.mbxFail h.mbx.val 0xA 0 else s.live h.mbx.val true (.bayToggle bay)) id)

end Sys2Proof.Machine
end

