-- ==== Sys2Proof/Machine/Sheet.lean ====
section
/-! DEFINITION. The controller's end of the Sheet link: training, initialisation, replay and credits, and the flash module's
identification (chapters 8 and 9, R183, R212 to R221, R239 to R247, R471 to R474). -/

namespace Sys2Proof.Machine

/-! ### Identification (R183, R473) -/

/-- Whether a descriptor passes R183: its form, and every parameter within Table 8.1. -/
def descOk (d : ModuleDesc) : Bool :=
  d.formOk && d.version == 1 && d.pages == d.dies + 1 && d.planes == 4
    && decide (16 ≤ d.dies ∧ d.dies ≤ 128 ∧ d.dies % 16 = 0 ∧ 256 ≤ d.ppb ∧ d.ppb ≤ 1536 ∧ d.ppb % 64 = 0)
    && decide (1024 ≤ d.epp ∧ d.epp ≤ 16384 ∧ 262144 ≤ d.epp * d.ppb ∧ d.epp * d.ppb ≤ 4194304)
    && ((d.cell == 3 && d.levels == 7) || (d.cell == 4 && d.levels == 15))
    && decide (d.trMax ≤ 100 ∧ d.trSlcMax ≤ 50 ∧ d.tprogMax ≤ 655 ∧ d.tprogSlcMax ≤ 150 ∧ d.tbersMax ≤ 8000 ∧ d.tsusMax ≤ 40)
    && decide (4 ≤ d.opsPerDie ∧ 1000 ≤ d.peRated ∧ 20000 ≤ d.peSlcRated ∧ 10000 ≤ d.rdLimit ∧ d.rdLimit ≤ 10000000)
    && decide (720 ≤ d.retHours ∧ d.retHours ≤ 87600 ∧ 2 ≤ d.retryCount ∧ d.retryCount ≤ 16)

/-- Whether a die's factory bad-block list breaks Table 8.1 (R185): too many indices, one named twice, or an empty plane mask. -/
def factoryBreaks (d : ModuleDesc) (die : Nat) : Bool :=
  let l := nth d.badBlocks die []
  decide (min 1020 (d.epp / 50) < l.length) || !((l.map (·.1)).eraseDups.length == l.length) || l.any fun e => e.2 == 0

/-! ### The descriptor's pages (R185, Tables 8.2, 8.3) -/

/-- Fields at their byte offsets and sizes. -/
def atBytes (l : List (Nat × Nat × Nat)) : Nat := l.foldl (fun a f => a + f.2.2 % 2 ^ (8 * f.2.1) * 2 ^ (8 * f.1)) 0

/-- A descriptor page: its body and, at 0xFFC, the CRC-32C over bytes 0x000 to 0xFFB. -/
def descSeal (body : Nat) : Sector := BitVec.ofNat 32768 (body % 2 ^ 32736 + 2 ^ 32736 * (crc32c (leBytes 4092 body)).toNat)

/-- Page 0 (Table 8.2). -/
def descPage0 (d : ModuleDesc) : Sector :=
  descSeal (atBytes ([(0, 4, 0x444F4D47), (4, 2, 1), (6, 2, d.dies + 1), (8, 16, d.maker), (0x18, 16, d.part), (0x28, 16, d.serial),
    (0x38, 4, d.bridgeFw), (0x3C, 1, d.dies), (0x3D, 1, d.planes), (0x3E, 1, d.cell), (0x3F, 1, d.levels), (0x40, 2, d.ppb), (0x42, 2, d.epp),
    (0x44, 2, d.trMax), (0x46, 2, d.trSlcMax), (0x48, 2, d.tprogMax), (0x4A, 2, d.tprogSlcMax), (0x4C, 2, d.tbersMax), (0x4E, 2, d.tsusMax),
    (0x50, 4, d.peRated), (0x54, 4, d.peSlcRated), (0x58, 4, d.rdLimit), (0x5C, 4, d.retHours), (0x60, 1, d.offsetStep), (0x61, 1, d.retryCount),
    (0x62, 1, d.tempMax)]
    ++ ((List.range 16).map fun k => (0x64 + 2 * k, 2, nth d.af k 0))
    ++ (List.range 256).map fun i =>
      (0x84 + i, 1, if i / 16 < d.retryCount ∧ i % 16 < d.levels then (nth (nth d.retry (i / 16) []) (i % 16) 0 % 256).toNat else 0)))

/-- The factory bad-block page of a die (Table 8.3). -/
def descFactory (d : ModuleDesc) (die : Nat) : Sector :=
  let l := nth d.badBlocks die []
  descSeal (atBytes ((0, 4, l.length) :: (List.range (min 1020 l.length)).map fun i =>
    (8 + 4 * i, 4, match l[i]? with
      | some e => e.1 % 2 ^ 14 + 2 ^ 14 * (e.2 % 16)
      | none => 0)))

/-- A descriptor page as its bytes (R185). -/
def descPage (d : ModuleDesc) (n : Nat) : Sector := if n = 0 then descPage0 d else descFactory d (n - 1)

/-- The type the declaration gives a bay. -/
def State.bayType (s : State) (b : Nat) : Option ModuleType :=
  match s.decl with
  | some d => d.types[nth d.bayType b 0xFF]?
  | none => none

/-- Whether a descriptor matches its bay's type (R473); without a declaration nothing is compared. -/
def State.typeOk (s : State) (b : Nat) (d : ModuleDesc) : Bool :=
  match s.decl with
  | none => true
  | some _ =>
    match s.bayType b with
    | none => false
    | some t =>
      d.dies == t.dies && d.planes == 4 && d.cell == t.cell && d.ppb == t.ppb && d.epp == t.epp
        && decide (d.trMax ≤ t.trMax ∧ d.trSlcMax ≤ t.trSlcMax ∧ d.tprogMax ≤ t.tprogMax)
        && decide (d.tprogSlcMax ≤ t.tprogSlcMax ∧ d.tbersMax ≤ t.tbersMax ∧ d.tsusMax ≤ t.tsusMax)
        && (t.maker == 0 || t.maker == d.maker) && (t.part == 0 || t.part == d.part)

/-- Modules at least in READY and usable (R474, cause 0x11). -/
def State.readyCount (s : State) : Nat :=
  (s.sheet.ports.filter fun p => p.modSt == .ready || p.modSt == .fencing || p.modSt == .inService).length

/-- Cause 0x11 is tested again each time a module reaches READY (R474). -/
def State.retestMin (s : State) : State :=
  match s.decl with
  | some d => if s.fn.refusal = 0x11 ∧ d.minBays ≤ s.readyCount then s.onFn fun f => { f with refusal := 0 } else s
  | none => s

/-- A module is marked foreign, with its report (R183, R221, R473). -/
def State.foreign (s : State) (b : Nat) : State :=
  if (s.port b).modSt = .foreign then s else (s.event (0x500 + b) 0x0B 4 0).setMod b .foreign

/-- A module reaches READY; the lease holder fences it at the same epoch (R236, R246, Table 9.13). -/
def State.toReady (s : State) (b : Nat) : State :=
  let s1 := (s.setMod b .ready).retestMin
  if s1.holder && (s1.pair.st != .taking || decide (3 ≤ s1.pair.takeStep)) && (s1.port b).up then s1.sendFence b else s1

/-- Another module is in the bay: the records of the one before, its retired dies and their losses, and its block records go (R207,
R209, R473). -/
def State.forgetBay (s : State) (b : Nat) : State :=
  (s.onMed fun m =>
    { m with
      records := m.records.filter fun r => r.bay != b, dieRetired := m.dieRetired.filter fun x => x.1 != b
      blocks := tabKeep (fun k _ => k / blockKey 1 0 0 != b) m.blocks }).onReb fun r =>
    { r with loss := r.loss.filter fun x => match x with
      | .die c _ => c != b
      | .bay _ => true }

/-- A module whose descriptor has been read is verified (R183, R473): foreign, or READY. One whose SERIAL differs from the bay's
health record, or that was not in the shelf at the last format, returns empty (R161, R247). -/
def State.identify (s : State) (b : Nat) (d : ModuleDesc) : State :=
  if !(descOk d && s.typeOk b d) then s.foreign b
  else
    let h := s.health b
    let other := h.serial != d.serial
    let back := (other && h.serial != 0) || (s.fn.committed.isSome && !(s.port b).presentAtFormat)
    let s1 := s.onPort b fun p =>
      { p with
        desc := some d, serialOk := some d.serial, presentAtFormat := p.presentAtFormat && !(other && h.serial != 0)
        returned := p.returned || back, erasedBack := if back && !p.returned then [] else p.erasedBack }
    let s2 := if other then (s1.forgetBay b).onHealth b fun _ => { Health.reset with serial := d.serial } else s1
    s2.toReady b

/-- A page of the descriptor of a module in IDENTIFY has come (R185): page 0 gives the fields, the next D the factory lists, and the module is
verified when all have come, or at once when page 0 already fails. -/
def State.tookDesc (s : State) (b page : Nat) (d : ModuleDesc) : State :=
  let more (q : ModuleDesc) (n : Nat) : State := (s.onPort b fun p => { p with descPart := some q }).ask b 7 n 0
  if page = 0 then
    let q := { d with badBlocks := [] }
    if descOk q && s.typeOk b q then more q 1 else s.identify b q
  else match (s.port b).descPart with
    | none => s
    | some q =>
      let q := { q with badBlocks := q.badBlocks ++ [nth d.badBlocks (page - 1) []], formOk := q.formOk && d.formOk }
      if q.badBlocks.length ≠ page then s
      else if q.dies ≤ page then (s.onPort b fun p => { p with descPart := none }).identify b q
      else more q (page + 1)

/-- A module is retired (R242): the lease holder's bay enters the loss set; elsewhere it is latched. Its operations end. -/
def State.retireModule (s : State) (b : Nat) : State :=
  if (s.port b).modSt = .lost ∨ (s.port b).modSt = .foreign then s
  else
    let s1 :=
      if s.holder then s.loseModule b
      else ((s.setMod b .lost).event (0x500 + b) 7 2 0).onPort b fun p => { p with latchedLost := true }
    ((s1.endOps b).sjOff b).checkSpace

/-- A module that has been fenced enters service: its factory bad blocks count as records of generation 0, a die whose factory
list breaks Table 8.1 is retired, a returned bay leaves the loss set, and it is made active (R161, R204, R207, R228). -/
def State.enterService (s : State) (b : Nat) : State :=
  let s1 := s.setMod b .inService
  let s2 := s1.onReb fun r => { r with loss := r.loss.filter (· != .bay b) }
  let s3 := match s2.desc b with
    | none => s2
    | some d =>
      let known := s2.med.records.any fun r => r.bay == b && r.mgen == 0
      let t := if known then s2 else
        (List.range d.dies).foldl (fun (s : State) die =>
          (nth d.badBlocks die []).foldl (fun (s : State) (e : Nat × Nat) =>
            (s.onMed fun m => { m with records := m.records ++ [(⟨0, b, die, e.1, 3, 0, 0xFFFFFFFF⟩ : MediaRec)] }).onBlock b die e.1 fun r =>
              { r with bad := true, st := .bad }) s) s2
      (List.range d.dies).foldl (fun s die => if factoryBreaks d die then s.retireDie b die else s) t
  ((s3.ask b 0x0A 0 0).checkSpace).checkStrike

/-! ### Lanes and ports (R213, R240, R241, Tables 9.10 and 9.11) -/

/-- A lane of a port. -/
def Port.lane (p : Port) (l : Nat) : SheetLane := if l = 0 then p.lane0 else p.lane1

/-- Change a lane of a port. -/
def Port.onLane (p : Port) (l : Nat) (g : SheetLane → SheetLane) : Port :=
  if l = 0 then { p with lane0 := g p.lane0 } else { p with lane1 := g p.lane1 }

/-- Both lanes lose lock, and initialisation starts again. -/
def Port.unlocked (p : Port) : Port :=
  { p with
    lane0 := { p.lane0 with locked := false }, lane1 := { p.lane1 with locked := false }, initRx := false, initSeen := false
    seenSent := false }

/-- The port retrains: at most one attempt (Table 9.10). -/
def State.retrain (s : State) (b : Nat) : State := s.onPort b fun p => { p.unlocked with st := .retrain }

/-- A lane is retired (R240); the port retrains on the other, or is retired with none left (R241, Table 9.11). -/
def State.retireLane (s : State) (b l : Nat) : State :=
  let p := s.port b
  if (p.lane l).retired then s
  else
    let s1 := (s.onPort b fun p => p.onLane l fun x => { x with retired := true, locked := false }).event (0x500 + b) 7 (256 * l) 0
    if (p.lane (1 - l)).retired ∨ (p.st = .up1 ∧ (p.lane l).locked) then s1.retirePort b
    else if p.st = .up then s1.retrain b
    else s1

/-- TRAINING_ATTEMPT: an attempt starts on each lane that is not retired (R212, R213). -/
def execTrainingAttempt (bay : Fin 48) (s : State) : Res State :=
  .next (
    let p := s.port bay.val
    if s.awake && (p.st == .training || p.st == PortState.retrain) then s.onPort bay.val fun p => p.unlocked else s)

/-- The attempt fails: another, up to three; a retrain has one (R213, Table 9.11). -/
def State.attemptFailed (s : State) (b : Nat) : State :=
  let p := s.port b
  if p.st = PortState.retrain then s.retirePort b
  else if p.attempts < 3 then s.onPort b fun p => { p.unlocked with st := .training, attempts := p.attempts + 1 }
  else s.retirePort b

/-- LANES_ALIGNED: training ends with the lanes that locked; a lane left out three times while the other locks is retired, and the
port enters INIT (R213, R240, Table 9.11). -/
def execLanesAligned (bay : Fin 48) (lane0 : Bool) (lane1 : Bool) (s : State) : Res State :=
  .next (
    let b := bay.val
    let p := s.port b
    let ok0 : Bool := lane0 && !p.lane0.retired
    let ok1 : Bool := lane1 && !p.lane1.retired
    if !s.awake || !(p.st == .training || p.st == PortState.retrain) then s
    else if !(ok0 || ok1) then s.attemptFailed b
    else
      let mark (x : SheetLane) (ok : Bool) : SheetLane :=
        { x with locked := ok, failed := if ok then 0 else if x.retired then x.failed else x.failed + 1 }
      let s1 := s.onPort b fun p =>
        { p with
          lane0 := mark p.lane0 ok0, lane1 := mark p.lane1 ok1, st := if p.st = .training then .init else p.st
          initRx := false, initSeen := false, seenSent := false }
      [0, 1].foldl (fun s l => if 3 ≤ ((s.port b).lane l).failed then s.retireLane b l else s) s1)

/-- TRAINING_TIMEOUT: a training attempt or the INIT exchange has exceeded its time and counts as failed; a refused port stays in
INIT (R213, R221, Table 9.11). -/
def execTrainingTimeout (bay : Fin 48) (s : State) : Res State :=
  .next (
    let p := s.port bay.val
    if s.awake && (p.st == .training || p.st == PortState.retrain || (p.st == .init && p.modSt != .foreign)) then
      s.attemptFailed bay.val
    else s)

/-- What a port that has come up does with its module (R231, R242, R246, Table 9.13): a linking module is identified; one already
verified has its tags queried and its SERIAL read again; one held unreachable is fenced at the holder's epoch. -/
def State.portCameUp (s : State) (b : Nat) : State :=
  let tags := ((s.port b).ops.filter fun e => e.2.code != 4).map (·.1)
  let s1 := s.onPort b fun p => { p with ops := tabKeep (fun _ o => o.code != 4) p.ops }
  match (s.port b).modSt with
  | .linking => (s1.setMod b .identify).ask b 7 0 0
  | .identify => s1.ask b 7 0 0
  | .unreachable => ((if s1.holder then s1.sendFence b else s1.setMod b .ready).ask b 7 0 0).checkSpace
  | .ready | .fencing | .inService => ((tags.foldl (fun s t => s.ask b 4 t 0) s1).ask b 7 0 0).checkSpace
  | .absent | .powering | .lost | .foreign => s1

/-- The port is up once it has received an INIT with SEEN and has sent one: sequence spaces start at 0 (R221). -/
def State.tryUp (s : State) (b : Nat) : State :=
  let p := s.port b
  let n := b2n (p.lane0.locked && decide (p.modLanes % 2 = 1)) + b2n (p.lane1.locked && decide (p.modLanes / 2 % 2 = 1))
  if !(p.initSeen && p.seenSent) || n == 0 || !(p.st == .init || p.st == PortState.retrain) then s
  else
    (s.onPort b fun p =>
      { p with
        st := if n = 2 then .up else .up1, attempts := 0, txSeq := 0, rxSeq := 0, replay := [], nakSent := false, ackDue := false }).portCameUp b

/-- Whether a port exchanges INIT frames: its lanes are aligned and it is not up (R221). -/
def Port.initing (p : Port) : Bool :=
  (p.st == .init || p.st == PortState.retrain) && (p.lane0.locked || p.lane1.locked) && p.modSt != .foreign

/-- SHEET_INIT_SEND_TIMER: each end sends INIT every 10 µs until the port is up; SEEN once a valid INIT has arrived (R221). -/
def execSheetInitSendTimer (bay : Fin 48) (s : State) : Res State :=
  .next (
    let b := bay.val
    let p := s.port b
    if s.awake && p.initing then
      ((s.emit (.sheet b (.init p.initRx))).onPort b fun p => { p with seenSent := p.seenSent || p.initRx }).tryUp b
    else s)

/-- Fewest command credits a module may advertise (R220). -/
def State.minCmdCredit (s : State) : Nat := 4 * (if s.geo.dies = 0 then 16 else s.geo.dies) + 16

/-- SHEET_INIT_RX: a received INIT is checked; one refused leaves the port in INIT and the module foreign; a valid one gives the
credits, the epoch and the owner, and may bring the port up (R220, R221). A frame with a reserved field set is corrupt. -/
def execSheetInitRx (bay : Fin 48) (i : SheetInit) (s : State) : Res State :=
  .next (
    let b := bay.val
    let p := s.port b
    if !s.awake || !p.initing || i.reserved != 0 then s
    else if i.version ≠ 1 ∨ i.port + 1 ≠ s.boot.board.slot ∨ i.crCmd < s.minCmdCredit ∨ i.crData < 32 then
      (s.onPort b fun p => { p with st := .init }).foreign b
    else
      (s.onPort b fun p =>
        { p with
          initRx := true, initSeen := p.initSeen || i.seen, modLanes := i.lanes, crCmd := i.crCmd, crData := i.crData
          epochSeen := i.epoch, ownerSeen := i.owner }).tryUp b)

/-! ### Sequenced frames, replay and credits (R215 to R220) -/

/-- ACK frees the replay buffer up to the sequence number it names, cumulatively (R217). -/
def ackFrees (ack : Nat) (l : List ReplayFrame) : List ReplayFrame :=
  match l.findIdx? fun f => f.seq == ack with
  | some i => l.drop (i + 1)
  | none => l

/-- The last SEQ accepted in order. -/
def Port.lastSeq (p : Port) : Nat := (p.rxSeq + 65535) % 65536

/-- A frame has been replayed 8 times without an acknowledgement: a U fault; the port retrains, and the second such frame within
60 s retires it (R219, R241). -/
def State.frameFailed (s : State) (b : Nat) : State :=
  let times := ((s.port b).failTimes.filter fun t => decide (s.now ≤ t + secs 60)) ++ [s.now]
  let s1 := (s.raiseBlock (0x201 + b / 4) classU 0x07 (2 ^ 36 * b)).onPort b fun p => { p with failTimes := times }
  if 2 ≤ times.length then s1.retirePort b else (s1.retrain b).checkSpace

/-- Every unacknowledged frame is sent again from the oldest (R218); each round raises a T fault (R219). -/
def State.replayAll (s : State) (b : Nat) : State :=
  let p := s.port b
  match p.replay with
  | [] => s
  | _ :: _ =>
    ((s.onPort b fun p => { p with replay := p.replay.map fun f => { f with replays := f.replays + 1 } }).emit
      (.sheet b (.replay (p.replay.map ReplayFrame.seq)))).raise (portUnit b) classT 0x07 (2 ^ 36 * b)

/-- The oldest frame has spent its 8 replays. -/
def Port.spent (p : Port) : Bool :=
  match p.replay with
  | f :: _ => decide (8 ≤ f.replays)
  | [] => false

/-- A frame failed its CRC: an uncorrectable codeword of a lane, the one in use or, with two, a free choice; more than 64 within
1 s retire the lane (R240). -/
def State.uncorrectable (s : State) (b : Nat) : State :=
  let p := s.port b
  let r := s.freeNat
  let l := if p.lane0.locked && p.lane1.locked then r.1 % 2 else if p.lane0.locked then 0 else 1
  let s1 := r.2.onPort b fun p => p.onLane l fun x => { x with uncorr := x.uncorr + 1 }
  if 64 < ((s1.port b).lane l).uncorr then s1.retireLane b l else s1

/-- SHEET_FRAME_RX: a sequenced frame is accepted only if it is not corrupt and carries the expected SEQ; one corrupt or ahead is
answered with one NAK until the next acceptance; a duplicate repeats the ACK. An accepted frame's ACK and credits count (R215
to R220). -/
def execSheetFrameRx (bay : Fin 48) (h : SheetHdr) (s : State) : Res State :=
  .next (
    let b := bay.val
    let p := s.port b
    if !s.awake || !p.up then s
    else
      let known : Bool := h.type == 1 || h.type == 2 || h.type == 3 || h.type == 4 || h.type == 0x10 || h.type == 0x20 || h.type == 0x30
      let corrupt : Bool := !h.crcOk || decide (4608 < h.len) || !known || h.reserved != 0 || decide (16 ≤ h.flags)
      let d := (h.seq + 65536 - p.rxSeq) % 65536
      let nak (s : State) : State :=
        if (s.port b).nakSent then s
        else (s.onPort b fun p => { p with nakSent := true }).emit (.sheet b (.nak p.lastSeq))
      if corrupt then nak (if h.crcOk then s else s.uncorrectable b)
      else if h.type < 0x10 then s
      else if d = 0 then
        s.onPort b fun p =>
          { p with
            rxSeq := (p.rxSeq + 1) % 65536, ackDue := true, nakSent := false, crCmd := p.crCmd + h.crCmd
            crData := p.crData + h.crData, replay := if h.flags % 2 = 1 then ackFrees h.ack p.replay else p.replay }
      else if 32768 ≤ d then s.emit (.sheet b (.ack p.lastSeq))
      else nak s)

/-- SHEET_ACK_RX: acknowledgement is cumulative (R217). -/
def execSheetAckRx (bay : Fin 48) (ack : Nat) (s : State) : Res State :=
  .next (
    if s.awake && (s.port bay.val).up then (s.onPort bay.val fun p => { p with replay := ackFrees ack p.replay }).kick else s)

/-- SHEET_NAK_RX: a NAK acknowledges what it names and causes a replay of the rest (R218). -/
def execSheetNakRx (bay : Fin 48) (ack : Nat) (s : State) : Res State :=
  .next (
    if !s.awake || !(s.port bay.val).up then s
    else
      let s1 := s.onPort bay.val fun p => { p with replay := ackFrees ack p.replay }
      if (s1.port bay.val).spent then s1 else s1.replayAll bay.val)

/-- SHEET_CREDIT_RX: returned credits count for their channels (R220). -/
def execSheetCreditRx (bay : Fin 48) (cmd : Nat) (data : Nat) (s : State) : Res State :=
  .next (
    if s.awake && (s.port bay.val).up then
      (s.onPort bay.val fun p => { p with crCmd := p.crCmd + cmd, crData := p.crData + data }).kick
    else s)

/-- SHEET_ACK_TIMER: a frame was accepted and nothing has been sent for 0.5 µs: an ACK goes (R217). -/
def execSheetAckTimer (bay : Fin 48) (s : State) : Res State :=
  .next (
    let p := s.port bay.val
    if s.awake && p.up && p.ackDue then
      (s.onPort bay.val fun p => { p with ackDue := false }).emit (.sheet bay.val (.ack p.lastSeq))
    else s)

/-- SHEET_REPLAY_TIMER: 4 µs after the oldest unacknowledged frame was last sent, it and those after it are replayed, or after 8
replays the frame is declared failed (R218, R219). -/
def execSheetReplayTimer (bay : Fin 48) (s : State) : Res State :=
  .next (
    let p := s.port bay.val
    if !s.awake || !p.up || p.replay.isEmpty then s
    else if p.spent then s.frameFailed bay.val
    else s.replayAll bay.val)

/-- SHEET_LANE_LOCK_LOSS: the port retrains; a third loss within 60 s retires the lane (R239, R240, Table 9.11). -/
def execSheetLaneLockLoss (bay : Fin 48) (lane : Fin 2) (s : State) : Res State :=
  .next (
    let b := bay.val
    let l := lane.val
    let p := s.port b
    if !s.awake || !p.up || !(p.lane l).locked then s
    else
      let times := ((p.lane l).lossTimes.filter fun t => decide (s.now ≤ t + secs 60)) ++ [s.now]
      let s1 := (s.onPort b fun p => p.onLane l fun x => { x with lossTimes := times }).raise (portUnit b) classT 0x08
        (addrLane b l times.length)
      if 3 ≤ times.length then (s1.retireLane b l).checkSpace else (s1.retrain b).checkSpace)

/-- SHEET_STATUS_POLL: every 100 ms STATUS goes out on each port whose module is at least in READY (R235). -/
def execSheetStatusPoll (s : State) : Res State :=
  .next (
    if !s.awake then s
    else (List.range 48).foldl (fun s b =>
      let p := s.port b
      if p.up && (p.modSt == .ready || p.modSt == .fencing || p.modSt == .inService) then s.ask b 4 0xFFF 0 else s) s)

/-- LANE_ERR_POLL: once a second the module receiver's FEC counts are read, and the second's uncorrectable counts start again (R239,
R240). -/
def execLaneErrPoll (s : State) : Res State :=
  .next (
    if !s.awake then s
    else (List.range 48).foldl (fun s b =>
      let p := s.port b
      let s1 := s.onPort b fun p => { p with lane0 := { p.lane0 with uncorr := 0 }, lane1 := { p.lane1 with uncorr := 0 } }
      if p.up && (p.modSt == .ready || p.modSt == .fencing || p.modSt == .inService) then s1.ask b 5 0x10 0 else s1) s)

/-- UNREACHABLE_TIMEOUT: a module unreachable for 1 s is retired (R242). -/
def execUnreachableTimeout (bay : Fin 48) (s : State) : Res State :=
  .next (
    let p := s.port bay.val
    if s.awake && s.holder && p.modSt == .unreachable && decide (p.unreachSince + secs 1 ≤ s.now) then s.retireModule bay.val else s)

/-- FENCE_TIMEOUT: a FENCE unanswered within TBERS_MAX + 1 ms retires its module (R236, R242). -/
def execFenceTimeout (bay : Fin 48) (s : State) : Res State :=
  .next (if s.awake && (s.port bay.val).modSt == .fencing then s.retireModule bay.val else s)

end Sys2Proof.Machine
end

