-- ==== Sys2Proof/Machine/SheetResp.lean ====
section
/-! DEFINITION. What the controller does with the end of a Sheet operation: responses, tag states and timeouts (R203, R207, R229 to
R231, R236 to R239), and a module's temperature (R485). -/

namespace Sys2Proof.Machine

/-! ### Temperatures (R197, R210, R485) -/

/-- A module's NAND temperature has been read: TEMP_NOW, the warmest so far, and what R485 asks of the lease holder. -/
def State.noteTemp (s : State) (b : Nat) (t : Int) : State :=
  let s1 := (s.onPort b fun p => { p with temp := t }).onHealth b fun h => { h with tempNow := t, tempPeak := max h.tempPeak t }
  match s1.desc b with
  | none => s1
  | some d =>
    let top : Int := d.tempMax
    let p := s1.port b
    let s2 :=
      if !s1.holder then s1
      else if top - 3 ≤ t ∧ !p.slowed then (s1.ask b 0x0A 1 0).onPort b fun p => { p with slowed := true }
      else if t < top - 8 ∧ p.slowed then (s1.ask b 0x0A 0 0).onPort b fun p => { p with slowed := false }
      else s1
    let s3 := s2.onPort b fun p => { p with hot := if top ≤ t then true else if t < top - 5 then false else p.hot }
    let line : Int := top - s3.setting 9
    (s3.monitor (0x500 + b) 7 b 128 t.toNat (decide (line < t)) (decide (t ≤ line - 5))).checkSpace

/-! ### Operations that did not succeed -/

/-- Reset a die (R227, R238): the lease holder alone. -/
def State.resetDie (s : State) (b die : Nat) : State :=
  if s.holder then (s.issue b (s.mkOp 9 die 0 false .other) 0 [] []).getD s else s

/-- An operation of a die timed out: three in a row after a die reset retire the die (R207). -/
def State.dieTimeout (s : State) (b die : Nat) : State :=
  if (tabGet (s.port b).dieReset die).isNone then s
  else
    let n := tabGetD (s.port b).dieTimeouts die 0 + 1
    let s1 := s.onPort b fun p => { p with dieTimeouts := tabPut p.dieTimeouts die n }
    if 3 ≤ n then s1.retireDie b die else s1

/-- The open row's accumulator gives a failed page set's payloads back ("Program failure meets an open row"); a row whose XOR page
set has been issued has none that is valid. -/
def State.outOfRow (s : State) (u b row : Nat) (frames : List Payload) : State :=
  match tabGet s.log.rows (rowKey u b row) with
  | some a =>
    s.onLog fun l => { l with rows := tabPut l.rows (rowKey u b row) { a with acc := List.zipWith (· ^^^ ·) a.acc frames } }
  | none => s.rowWithoutXor u b row

/-- Stripes whose member still waits for its program on a block. -/
def State.waitingOn (s : State) (b die block : Nat) : List Nat :=
  (s.log.stripes.filter fun e => e.2.st == .programming && e.2.members.any fun m =>
    m.bay == b && m.die == die && m.page / (max 1 s.geo.ppb) == block && m.st == .waiting).map (·.1)

/-- A program of a root copy has failed: with no copy's program left and fewer than two durable, the root record is written again
with the next number (R101). -/
def State.rootFailed (s : State) : State :=
  let left := s.sheet.ports.any fun p => p.ops.any fun e => e.2.user == .root
  match s.log.ckpt with
  | some c =>
    if !left && c.phase == 4 && decide (c.rootDone < 2) then
      (s.issueRoot { c with number := c.number + 1, rootDone := 0 }).onLog fun l =>
        { l with ckpt := some { c with number := c.number + 1, rootDone := 0 } }
    else s
  | none => s

/-- A program did not leave its page set as written (R203, "Program failure meets a stripe", "Row XOR program meets failure", R168,
R206): the block is grown-bad and what the page set was for goes elsewhere. -/
def State.programFailed (s : State) (b : Nat) (op : SheetOp) : State :=
  let ppb := max 1 s.geo.ppb
  let block := op.page / ppb
  let row := op.page % ppb
  let loc := mkLoc b op.die op.page 0 0
  let s1 := (s.onHealth b fun h => { h with programFails := satAdd 0xFFFFFFFF h.programFails 1 }).raise (portUnit b) classU 0x0A (addrLoc b loc)
  let grow (s : State) : State :=
    if (s.block b op.die block).bad then s
    else s.growBad b op.die block 2 (match s.locUnit loc with
      | some u => s.voidRow u b op.die
      | none => 0)
  match op.user with
  | .member id r =>
    let u := id / 65536 % 2 ^ 20
    let s2 := s1.onLog fun l => { l with stripes := tabMod l.stripes id fun y =>
      { y with members := modNth y.members r fun m => { m with st := .failed } } }
    ((grow (s2.outOfRow u b row op.frames)).tryXor u b row).abandonStripe id
  | .rowXor u r => grow (s1.rowWithoutXor u b r)
  | .repair no slot =>
    let s2 := match s.locUnit loc with
      | some u => s1.outOfRow u b row op.frames
      | none => s1
    if no ≠ s.reb.batchNo then grow s2 else (grow s2).onReb fun r => { r with batch := modNth r.batch slot fun q => { q with reserved := false, programmed := false, bay := 0xFF } }
  | .sjPage => (grow s1).moveRing b
  | .root => (grow s1).rootFailed
  | .strike => (grow s1).strikeRedo b op
  | .read _ | .unitErase _ | .firstErase _ | .strikeErase _ | .other => s1

/-- An erase failed (R203, "Erase failure meets reuse"): the block is grown-bad; its unit is freed without it, and strips that
waited for its first erase go elsewhere. -/
def State.eraseFailed (s : State) (b : Nat) (op : SheetOp) : State :=
  let s1 := (s.onHealth b fun h => { h with eraseFails := satAdd 0xFFFFFFFF h.eraseFails 1 }).raise (portUnit b) classU 0x0B
    (addrLoc b (mkLoc b op.die (op.page * s.geo.ppb) 0 0))
  match op.user with
  | .unitErase u => (s1.growBad b op.die op.page 3 0).eraseStep u
  | .firstErase block =>
    let u := s1.locUnit (mkLoc b op.die (block * s1.geo.ppb) 0 0)
    let s2 := s1.growBad b op.die block 2 (match u with
      | some u => s1.voidRow u b op.die
      | none => 0)
    (s1.waitingOn b op.die block).foldl (fun s id => s.abandonStripe id) s2
  | .strikeErase _ => s1.growBad b op.die op.page 3 0
  | .read _ | .member _ _ | .rowXor _ _ | .sjPage | .root | .strike | .repair _ _ | .other => s1

/-- An operation ends and is not repeated: a read is reconstructed, a program and an erase count as failed. -/
def State.failOp (s : State) (b : Nat) (op : SheetOp) : State :=
  if op.code = 2 then s.programFailed b op else if op.code = 3 then s.eraseFailed b op else s.endOp b op

/-- Send an operation again, at most twice (R229, R231, Table 19.5): then it is a U fault and ends. Where the port has no room a read
or a first erase is left to be issued again, and a module operation to its next occasion. -/
def State.reissue (s : State) (b : Nat) (op : SheetOp) : State :=
  if 2 ≤ op.tries then
    (s.raise (portUnit b) classU 0x09 (addrLoc b (mkLoc b op.die op.page 0 0))).failOp b op
  else
    match s.issue b { op with tries := op.tries + 1, timedOut := false, requery := false } op.value op.offsets op.frames with
    | some t => t
    | none =>
      match op.user with
      | .read job => s.onRd fun x => { x with jobs := tabMod x.jobs job fun r => { r with phase := .waiting } }
      | .firstErase _ | .other => s
      | _ => s.endOp b op

/-! ### Success (R101, R155, R157, R183, R231, R235, R246) -/

/-- A STATUS of the module has come (R235, Table 9.6): the epoch and owner it reports; FATAL retires it. -/
def State.tookStatus (s : State) (b epoch owner flags : Nat) (res : SheetResult) : State :=
  let s1 := s.onPort b fun p => { p with epochSeen := epoch, ownerSeen := owner, status := res, answered := true }
  if flags % 2 = 1 then s1.retireModule b else s1

/-- An operation has ended with OK. -/
def State.opDone (s : State) (b : Nat) (op : SheetOp) (res : SheetResult) : State :=
  let ppb := max 1 s.geo.ppb
  let s0 := if isDieOp op.code then s.onPort b fun p => { p with dieTimeouts := tabDel p.dieTimeouts op.die, dieReset := tabDel p.dieReset op.die } else s
  let s1 := if op.code = 2 then s0.blockProgrammed b op.die (op.page / ppb)
    else if op.code = 3 then
      (s0.blockErased b op.die op.page).onPort b fun p =>
        { p with
          needErase := p.needErase.filter (· != ⟨b, op.die, op.page⟩)
          erasedBack := if p.returned && !p.erasedBack.contains ⟨b, op.die, op.page⟩ then p.erasedBack ++ [⟨b, op.die, op.page⟩] else p.erasedBack }
    else s0
  match op.user with
  | .read job => s1.toDecode job b
  | .member id r => s1.memberDone id r
  | .rowXor _ _ | .firstErase _ => s1
  | .unitErase u => s1.eraseStep u
  | .sjPage => s1.sjDone b true
  | .root => (s1.onLog fun l => { l with ckpt := l.ckpt.map fun c => { c with rootDone := c.rootDone + 1 } }).ckptStep
  | .strike =>
    let s2 := s1.strikeStep b op
    if s2.log.strike = .complete then s2.strikeEnd else s2
  | .repair no slot =>
    if no ≠ s1.reb.batchNo then s1 else s1.onReb fun r => { r with batch := modNth r.batch slot fun q => { q with programmed := true } }
  | .strikeErase _ => s1.tryHalf
  | .other =>
    match op.code, res with
    | 4, .status e o f _ => s1.tookStatus b e o f res
    | 5, .value v =>
      let n := bits v.toNat 31 0 + bits v.toNat 63 32
      let s2 := s1.onPort b fun p =>
        { p with
          laneErr := v, lane0 := { p.lane0 with corr := p.lane0.corr + bits v.toNat 31 0 }
          lane1 := { p.lane1 with corr := p.lane1.corr + bits v.toNat 63 32 } }
      if n = 0 then s2 else s2.raise (portUnit b) classT 0x08 (addrLane b 0 (min n 0xFFFFFFFF))
    | 7, .desc d =>
      let p := s1.port b
      match p.modSt with
      | .identify => s1.tookDesc b op.arg d
      | .ready | .fencing | .inService | .unreachable =>
        if (match p.serialOk with
          | some n => n != d.serial
          | none => false) then (s1.retireModule b).foreign b else s1
      | .absent | .powering | .linking | .lost | .foreign => s1
    | 8, .temp t _ => s1.noteTemp b t
    | 9, _ => s1.onPort b fun p => { p with dieReset := tabPut p.dieReset op.die 1, dieTimeouts := tabDel p.dieTimeouts op.die }
    | 0x0B, .epoch e =>
      let s2 := s1.onPort b fun p => { p with epochSeen := e, ownerSeen := s.boot.board.slot }
      if (s2.port b).modSt != .fencing then s2 else if s2.holder then s2.enterService b else s2.setMod b .ready
    | _, _ => s1

/-! ### Responses (R229, R231, R237, Table 9.8) -/

/-- An operation ends with a status code of Table 9.8. -/
def State.respond (s : State) (b : Nat) (op : SheetOp) (code : Nat) (res : SheetResult) : State :=
  let u (s : State) (cause : Nat) : State := s.raise (portUnit b) classU cause (addrLoc b (mkLoc b op.die op.page 0 0))
  if code = 0x0F then (s.endOp b op).retireModule b
  else if op.code = 9 ∧ code ≠ 0 then s.retireDie b op.die
  else if code = 0 then s.opDone b op res
  else if code = 1 then s.programFailed b op
  else if code = 2 then s.eraseFailed b op
  else if code = 3 then
    if !s.holder ∨ op.epoch ≠ s.sheet.epoch then s
    else ((u s 0x18).endOp b op).staleLease
  else if code = 4 then
    if !s.holder then s else ((u s 0x18).setMod b .ready).staleLease
  else if code = 6 then
    if op.code = 2 then s.programFailed b op
    else (s.raise (portUnit b) classT 0x09 (addrLoc b (mkLoc b op.die op.page 0 0))).reissue b op
  else if code = 7 then
    let s1 := ((u s 0x0C).resetDie b op.die).dieTimeout b op.die
    if op.code = 3 then s1.reissue b op else s1.failOp b op
  else (u s 0x09).failOp b op

/-- What may go on once an operation has ended. -/
def State.goOn (s : State) : State := ((s.kick.tryHalf.ckptStep).tryAll).strikeEnd

/-- Take a tag off the port. -/
def State.freeTag (s : State) (b tag : Nat) : State := s.onPort b fun p => { p with ops := tabDel p.ops tag }

/-- A tag state has come for an operation outstanding before a re-initialisation or a timeout (R231, R238): a timed-out tag is
free once it is unknown or completed. -/
def State.tookTag (s : State) (b tag st code : Nat) : State :=
  match tabGet (s.port b).ops tag with
  | none => s
  | some op =>
    let free := s.freeTag b tag
    if op.timedOut then (if st = 0 ∨ st = 3 then free else s.onPort b fun p => { p with ops := tabMod p.ops tag fun o => { o with requery := true } })
    else if st = 2 then s.onPort b fun p => { p with ops := tabMod p.ops tag fun o => { o with requery := true } }
    else if st = 3 ∧ (op.code = 2 ∨ op.code = 3) then free.respond b op code .none
    else if st = 0 ∧ op.code = 2 then free.programFailed b op
    else free.reissue b op

/-- An operation's timer has run out: a read goes to reconstruction; a program has failed; a program or erase is followed by a die reset and
its tag is queried, and an erase is issued again (R238). Its tag waits for STATUS. -/
def State.opTimedOut (s : State) (b tag : Nat) (op : SheetOp) : State :=
  let s1 := (s.onPort b fun p => { p with ops := tabMod p.ops tag fun o => { o with timedOut := true } }).raise (portUnit b) classT 0x09
    (addrLoc b (mkLoc b op.die op.page 0 0))
  let s2 :=
    if op.code = 1 then (s1.dieTimeout b op.die).failOp b op
    else if op.code = 2 then (((s1.dieTimeout b op.die).resetDie b op.die).ask b 4 tag 0).programFailed b op
    else if op.code = 3 then (((s1.dieTimeout b op.die).resetDie b op.die).ask b 4 tag 0).reissue b op
    else if op.code = 9 then s1.retireDie b op.die
    else if op.code = 0x0B then s1
    else if op.code = 4 then s1.freeTag b tag
    else (s1.ask b 4 tag 0).reissue b op
  s2.goOn

/-- What has come for an operation loses to a timer that expired in an earlier slot: the timeout stands, and the arrival is discarded and
counted (R64, R65). -/
def State.lateSheet (s : State) (b tag : Nat) (op : SheetOp) : State :=
  (if op.timedOut then s else s.opTimedOut b tag op).countLate (0x201 + b / 4)

/-- SHEET_RESPONSE: a response completes an operation with its status; one that lost to its timer is discarded and counted (R65, R229,
R238). -/
def execSheetResponse (bay : Fin 48) (tag : Nat) (code : Nat) (res : SheetResult) (s : State) : Res State :=
  .next (
    let b := bay.val
    if !s.awake || !(s.port b).up then s
    else match tabGet (s.port b).ops tag with
      | none => s
      | some op =>
        if op.timedOut || decide (op.due < s.now) then s.lateSheet b tag op
        else
          let s1 := s.freeTag b tag
          match op.code, op.arg, res with
          | 4, q, .tagState st c => if code = 0 then (s1.tookTag b q st c).goOn else (s1.respond b op code res).goOn
          | _, _, _ => (s1.respond b op code res).goOn)

/-- SHEET_DATA_RX: a codeword of an outstanding read, exactly as read, goes to decoding (R11, R225). -/
def execSheetDataRx (bay : Fin 48) (tag : Nat) (index : Fin 16) (payload : Payload) (s : State) : Res State :=
  .next (
    let p := s.port bay.val
    match tabGet p.ops tag with
    | none => s
    | some op =>
      match op.user with
      | .read job =>
        if s.awake && p.up && !op.timedOut && decide (op.due < s.now) then s.lateSheet bay.val tag op
        else if s.awake && p.up && !op.timedOut && op.cwmask.getLsbD index.val then
          s.onRd fun x => { x with jobs := tabMod x.jobs job fun r => { r with raw := some payload } }
        else s
      | _ => s)

/-- SHEET_OP_TIMEOUT: an operation whose timer expires in this slot or has expired times out (R64, R238). -/
def execSheetOpTimeout (bay : Fin 48) (tag : Nat) (s : State) : Res State :=
  .next (
    let b := bay.val
    match tabGet (s.port b).ops tag with
    | none => s
    | some op =>
      if !s.awake || op.timedOut || decide (s.now < op.due) then s else s.opTimedOut b tag op)

/-- TAG_REQUERY_TIMER: a tag found in the array is queried again after 1 ms (R231). -/
def execTagRequeryTimer (bay : Fin 48) (tag : Nat) (s : State) : Res State :=
  .next (
    let b := bay.val
    match tabGet (s.port b).ops tag with
    | some op =>
      if s.awake && (s.port b).up && op.requery then
        (s.onPort b fun p => { p with ops := tabMod p.ops tag fun o => { o with requery := false } }).ask b 4 tag 0
      else s
    | none => s)

end Sys2Proof.Machine
end

