-- ==== Sys2Proof/Machine/Media.lean ====
section
/-! DEFINITION. Flash media: decodes, retries and tracking, probes, age clocks, scans and wear: the meanings of the media commands
(chapter 8). -/

namespace Sys2Proof.Machine

/-- The LDPC cell that decodes for a bay: one of its Channel block's eight that is not withdrawn (R11, Table 1.4). -/
def State.ldpcUnit (s : State) (b job : Nat) : Nat :=
  let cells := (List.range 8).map fun j => 0x240 + 8 * (b / 4) + (job + j) % 8
  (cells.find? fun u => !s.flt.withdrawn.contains u).getD (0x240 + 8 * (b / 4))

/-- Add the level imbalances of a decode to the sums of its die and bin; every 256 decodes a level whose sum lies beyond ±64
moves its offset by one step, from the next frame boundary on (R191). -/
def State.track (s : State) (b die bin : Nat) (imb : Option (List Int)) : State :=
  let k := binKey b die bin
  let v := tabGetD s.med.bins k BinVec.blank
  let sums := match imb with
    | some l => (List.range 15).map fun i => nth v.sums i 0 + nth l i 0
    | none => v.sums
  if v.decodes + 1 < 256 then
    s.onMed fun m => { m with bins := tabPut m.bins k { v with sums := sums, decodes := v.decodes + 1 } }
  else
    let next := (List.range 15).map fun i =>
      let x := nth sums i 0
      clampOff (nth v.next i 0 + (if 64 < x then 1 else if x < -64 then -1 else 0))
    let s1 := s.onMed fun m =>
      { m with bins := tabPut m.bins k { v with next := next, sums := List.replicate 15 0, decodes := 0 } }
    if next = v.offsets then s1 else s1.onFn fun f => { f with changes := f.changes ++ [(64, .binVec k)] }

/-- SHIFT moves one step toward the mean of RETRY entry `n` over the read levels, rounded toward zero; at −8 or +7 it moves no
further (R194). -/
def State.moveShift (s : State) (b die block n : Nat) : State :=
  match s.desc b with
  | none => s
  | some d =>
    let l := (retryEntry d n).take d.levels
    let mean : Int := (l.foldl (· + ·) 0).tdiv (max 1 l.length)
    s.onBlock b die block fun r =>
      if r.shift = -8 ∨ r.shift = 7 then r
      else { r with shift := if r.shift < mean then r.shift + 1 else if mean < r.shift then r.shift - 1 else r.shift }

/-- A read of a block decoded at retry `n`: SHIFT moves and the block is queued for rewrite (R180, R194). -/
def State.retryHit (s : State) (b die block n : Nat) : State := (s.moveShift b die block n).queueRewrite b die block

/-- Whether a user is the patrol. -/
def RdFor.isPatrol : RdFor → Bool
  | .patrol _ _ _ _ | .patrolRow _ _ _ _ => true
  | _ => false

/-- The health counts of one decode (Table 8.8). -/
def State.countDecode (s : State) (b : Nat) (d : Decode) : State :=
  (s.onHealth b fun h =>
    { h with
      cwRead := satAdd (2 ^ 64 - 1) h.cwRead 1
      bitsCorrected := if d.ok then satAdd (2 ^ 64 - 1) h.bitsCorrected d.bits else h.bitsCorrected
      hourCw := if d.ok then h.hourCw + 1 else h.hourCw
      hourBits := if d.ok then h.hourBits + d.bits else h.hourBits })

/-- LDPC_DECODE_DONE: a decode that succeeds is counted, feeds the tracking loop, and is checked and delivered; one that fails is
retried with the next entry up to the cap, and then goes to reconstruction, a host read with a probe besides (R92, R165, R180,
R188, R191 to R195). -/
def execLdpcDecodeDone (job : Nat) (d : Decode) (s : State) : Res State :=
  .next (
    match tabGet s.rd.jobs job with
    | none => s
    | some r =>
      match r.phase, r.raw with
      | .decoding, some raw =>
        if !s.awake then s
        else
          let b := locBay r.loc
          let die := locDie r.loc
          let block := s.locBlock r.loc
          let n := r.attempt
          let isProbe : Bool := r.user == .probe
          let p := d.altered.getD raw
          let s1 := (s.countDecode b d).track b die (s.block b die block).bin (if d.ok ∧ n = 0 then some d.imbalance else none)
          let s2 := s1.checkBay b
          if d.ok then
            let s3 :=
              if n = 0 then s2
              else (s2.onHealth b fun h => if isProbe then h else { h with retries := satAdd 0xFFFFFFFF h.retries 1 }).retryHit b die block n
            let s4 := if r.user.isPatrol && decide (160 * s.setting 2 < 100 * d.bits) then s3.queueRewrite b die block else s3
            if isProbe then (((s4.capCost b die).endProbe r.loc).endJob job).kick
            else if s4.acceptable r.user p then (State.deliver deliverFuel s4 job (some p)).kick
            else (((s4.raise (s4.ldpcUnit b job) classU 0x06 (addrLoc b r.loc)).noteRecon r.loc).reconstruct job).kick
          else if n < r.cap then
            let s3 := if isProbe then s2 else s2.raise (s2.ldpcUnit b job) classT 0x05 (addrLoc b r.loc)
            let s4 := s3.onRd fun x =>
              { x with jobs := tabMod x.jobs job fun r => { r with attempt := n + 1, phase := .waiting, raw := none } }
            s4.kick
          else if isProbe then ((s2.endProbe r.loc).endJob job).kick
          else
            let s3 := s2.raise (s2.ldpcUnit b job) classU 0x05 (addrLoc b r.loc)
            let s4 := if r.host then s3.queueProbe r else s3
            ((s4.noteRecon r.loc).reconstruct job).kick
      | _, _ => s)

/-- PROBE_ISSUE: the oldest pending probe is issued in the patrol lane, for one unit: the same array read with the retry entries
from the cap plus 1 up to the background cap (R195). -/
def execProbeIssue (s : State) : Res State :=
  .next (
    match s.med.probes.find? fun p => !p.inflight with
    | none => s
    | some p =>
      if !s.awake ∨ s.backLeft 7 = 0 then s
      else if s.placeLost p.loc ∨ !s.readable (locBay p.loc) then
        (s.onMed fun m => { m with probes := m.probes.erase p }).onHealth (locBay p.loc) fun h =>
          { h with probesDropped := satAdd 0xFFFFFFFF h.probesDropped 1 }
      else
        let n := s.newJob p.loc .probe false
        let s1 := n.2.onRd fun x =>
          { x with jobs := tabMod x.jobs n.1 fun r => { r with attempt := p.next, cap := p.last, offsets := p.offsets } }
        let s2 := s1.onMed fun m => { m with probes := m.probes.map fun q => if q == p then { q with inflight := true } else q }
        (s2.chargeBack 7 1).tryRead n.1)

/-- AGE_CLOCK_TICK: once a second a module's temperature is read; its age clock takes the AF of the band of that reading, or of
the last one where the module does not answer, and the band's minutes are counted (R197, R209, R485). -/
def execAgeClockTick (bay : Fin 48) (reading : Option Int) (s : State) : Res State :=
  .next (
    let b := bay.val
    match s.desc b with
    | none => s
    | some d =>
      if !s.awake then s
      else
        let s1 := match reading with
          | some t => s.noteTemp b t
          | none => s
        let k := tempBand (s1.health b).tempNow
        s1.onHealth b fun h =>
          let full := h.minuteBands + 1 = 60
          { h with
            ageClock := (h.ageClock + nth d.af k 0) % 2 ^ 64
            minuteBands := if full then 0 else h.minuteBands + 1
            tempHist := if full then modNth h.tempHist k fun n => satAdd 0xFFFFFFFF n 1 else h.tempHist })

/-- BLOCK_RECORD_SCAN: the hourly scan queues the programmed blocks whose equivalent age has reached 80 % of RET_HOURS; the hour's
mean of corrected bits starts again (R198, Table 8.8). -/
def execBlockRecordScan (s : State) : Res State :=
  .next (
    if !s.awake then s
    else
      let old := s.med.blocks.filterMap fun e =>
        let b := e.1 / 16384 / 128
        match s.desc b with
        | some d =>
          if (e.2.st = .opened ∨ e.2.st = .programmed) ∧ 8 * d.retHours * 3600 ≤ 10 * s.blockAge b e.2 then
            some (b, e.1 / 16384 % 128, e.1 % 16384)
          else none
        | none => none
      let s1 := old.foldl (fun (s : State) (x : Nat × Nat × Nat) => s.queueRewrite x.1 x.2.1 x.2.2) s
      let s2 := s1.bays.foldl (fun s b => s.checkBay b) s1
      s2.onMed fun m => { m with health := m.health.map fun h => { h with hourCw := 0, hourBits := 0 } })

/-- Check WEAR_MAX of a bay against its threshold (Table 8.10). -/
def State.checkWear (s : State) (b : Nat) : State :=
  let w := s.wearMax b
  s.monitor (0x500 + b) 2 b 128 w (decide (10 * s.setting 4 < w)) (decide (w + 20 ≤ 10 * s.setting 4))

/-- WEAR_CHECK: once a second, when the wear gap exceeds 5 % of PE_RATED and free units are above twice the reclaim-only part, the
programmed unit with the lowest wear is taken as victim out of turn; wear is checked against its early warning (R201, R211). -/
def execWearCheck (s : State) : Res State :=
  .next (
    if !s.awake then s
    else
      let s1 := s.bays.foldl (fun s b => s.checkWear b) s
      let used := (s.log.units.filter fun e => e.2.st != .free).map fun e => s.wear e.1
      let rated := (s.bays.filterMap fun b => (s.desc b).map fun d => d.peRated).foldl min (2 ^ 32)
      let gap := used.foldl max 0 - used.foldl min (used.foldl max 0)
      if s.logRuns && decide (5 * rated < 100 * gap) && decide (2 * s.reclaimReserve < s.freeUnits) then
        match bestBy (fun u => s.wear u) s.victims with
        | some u => s1.onUnit u fun x => { x with st := .victim }
        | none => s1
      else s1)

/-- JUNCTION_SAMPLE: once a minute the controller's junction temperature adds to its histogram (R210, Table 8.9). -/
def execJunctionSample (s : State) : Res State :=
  .next (
    if s.awake then
      s.onMed fun m => { m with ctlHist := modNth m.ctlHist (junctionBand s.boot.junction) fun n => satAdd 0xFFFFFFFF n 1 }
    else s)

end Sys2Proof.Machine
end

