-- ==== Sys2Proof/Machine/ModCmds.lean ====
section
/-! DEFINITION. The module and namespace commands, Table 18.8, SEAL.RANGE, and what a peer's mailbox command does here (R419, R433). -/

namespace Sys2Proof.Machine

/-! ### Module commands (R242, R243, R433) -/

/-- The offset of a bay parameter out of range: BAY is 0 to 47. -/
def badBay (bay : Nat) : Option Nat := if 47 < bay then some 0x20 else none

/-- What the peer last made known of a bay, as its module state and port state: both free, in the states its REACH allows (R378; the
spec does not say how the peer reports them). -/
def State.peerBay (s : State) (b : Nat) : List (BitVec 8) × State :=
  let f := s.freeNat
  let n := f.1
  let x := if s.pair.peerReach.getLsbD b then (4 + n % 3, 3 + n / 16 % 2) else (n % 10, n / 16 % 7)
  ([BitVec.ofNat 8 x.1, BitVec.ofNat 8 x.2], f.2)

/-- MOD_LIST: module and port states of the 48 bays, this controller's and the peer's (Table 18.8). -/
def execModList (h : MbxHdr) (s : State) : Res State :=
  .next (s.mbxRun h { op := 0x0301 } (fun s =>
    let r := (List.range 48).foldl (fun (a : List (BitVec 8) × State) b =>
      let p := a.2.peerBay b
      (a.1 ++ [BitVec.ofNat 8 (modCode (s.port b).modSt), BitVec.ofNat 8 (portCode (s.port b).st)] ++ p.1, p.2)) ([], s)
    r.2.mbxOk h.mbx.val r.1) id)

/-- MOD_DESC: one page of the module's descriptor, as read at its identification (R185, Table 18.8). -/
def execModDesc (h : MbxHdr) (bay : Nat) (page : Nat) (s : State) : Res State :=
  let m := h.mbx.val
  let last := ((s.port bay).desc.map (·.dies)).getD 128
  let sp : MbxSpec :=
    { op := 0x0302, states := stR430, out := some 4096
      bad := firstOff [badBay bay, if last < page then some 0x21 else none] }
  .next (s.mbxRun h sp (fun s =>
    match (s.port bay).desc with
    | none => s.mbxFail m 0xA 0
    | some d => (s.emit (.dmaData m [descPage d page])).answer m { mkResp 0 0 0 with xfer := 4096 }) id)

/-- The 32 bytes of a module's status (Table 9.6) as STATUS last gave it; zeros before the first. -/
def statusBytes (r : SheetResult) : List (BitVec 8) :=
  match r with
  | .status epoch owner flags dieFault => leBytes 4 epoch ++ leBytes 1 owner ++ leBytes 1 flags ++ leBytes 2 0 ++ leBytes 16 dieFault.toNat ++ leBytes 8 0
  | _ => leBytes 32 0

/-- MOD_STATUS: the module's status (Tables 9.6 and 18.8). -/
def execModStatus (h : MbxHdr) (bay : Nat) (s : State) : Res State :=
  .next (s.mbxRun h { op := 0x0303, states := stR430, bad := badBay bay } (fun s => s.mbxOk h.mbx.val (statusBytes (s.port bay).status)) id)

/-- MOD_RETIRE: the lease holder retires and latches a module, as a retirement it found itself (R242, R243, R433). -/
def execModRetire (h : MbxHdr) (bay : Nat) (s : State) : Res State :=
  let sp : MbxSpec := { op := 0x0304, states := [.armed, .running], holder := true, key := some bay, bad := badBay bay }
  .next (s.mbxRun h sp (fun s => (s.retireModule bay).mbxOk h.mbx.val []) id)

/-- Every retirement of a bay's lanes, port and module is cleared: the port starts anew and a LOST module links again, as a returning
one (R243, Tables 9.11 and 9.13). -/
def State.modClear (s : State) (b : Nat) : State :=
  let p := s.port b
  let lost : Bool := p.latchedLost || p.modSt == .lost
  let s1 := s.onPort b fun p =>
    { p with
      st := if p.st = .retired then .off else p.st
      lane0 := { p.lane0 with retired := false }, lane1 := { p.lane1 with retired := false }
      failTimes := [], latchedLost := false, returned := p.returned || lost
      erasedBack := if lost then [] else p.erasedBack }
  let s2 := if p.modSt = .lost then s1.setMod b .linking else s1
  let s3 := s2.powerFollow b
  if p.modSt = .lost ∧ (s3.port b).up then s3.portCameUp b else s3

/-- Whether the peer can be reached with a mailbox effect: the peer link is up and the peer is heard (R419, R433). -/
def State.peerReachable (s : State) : Bool := s.peerLink && !s.peerSilent

/-- MOD_CLEAR: this controller's retirements of a bay are cleared and the command is carried to the peer; DETAIL 1 where the peer cannot
be reached (R243, R433). -/
def execModClear (h : MbxHdr) (bay : Nat) (s : State) : Res State :=
  let m := h.mbx.val
  .next (s.mbxRun h { op := 0x0305, states := stR430, key := some bay, bad := badBay bay } (fun s =>
    let s1 := s.modClear bay
    if s1.peerReachable then (s1.emit (.peerEffect (.modClear (Fin.ofNat 48 bay)))).mbxOk m [] else s1.answer m (mkResp 0 0 1)) id)

/-! ### Namespace commands (R63, R84, R412, R433) -/

/-- An entry of the namespace table as its 64 bytes (Table 10.4). -/
def nsBytes (e : NsEntry) : List (BitVec 8) :=
  leBytes 2 (b2n e.present + 2 * b2n e.pin + 4 * b2n e.gcm + 8 * e.nsType) ++ leBytes 2 e.tenant ++ leBytes 4 e.mapBase ++ leBytes 8 e.capacity
    ++ leBytes 1 e.stream0 ++ leBytes 1 e.stream1 ++ leBytes 1 e.keysel ++ leBytes 1 0 ++ leBytes 4 e.retPeriod ++ leBytes 16 e.nguid.toNat
    ++ leBytes 24 0

/-- Section 0x0006 in force (R254); all zero without a committed image. -/
def State.nsSection (s : State) : List (BitVec 8) :=
  match s.fn.committed with
  | none => leBytes 262160 0
  | some i =>
    leBytes 4 i.ns.count ++ leBytes 4 i.ns.dirBase ++ leBytes 4 i.ns.sysPages ++ leBytes 4 0
      ++ (List.range 4096).flatMap fun n => match i.ns.entries.find? fun e => e.1 == n with
        | some e => nsBytes e.2
        | none => leBytes 64 0

/-- NS_LIST: the namespace table in force (R254, Table 18.8). -/
def execNsList (h : MbxHdr) (s : State) : Res State :=
  .next (s.mbxRun h { op := 0x0401, out := some 262160 } (fun s => s.mbxData h.mbx.val s.nsSection) id)

/-- An empty capsule, for a storage command of a mailbox. -/
def Capsule.blank : Capsule :=
  { opcode := 0, fctype := 0, cid := 0, nsid := 0, sglKeyed := false, sglAddr := 0, sglKey := 0, sglLen := 0, slba := 0, nlb := 0, deac := false
    cdw10 := 0, cdw11 := 0, cdw12 := 0, cdw13 := 0, ranges := [], dealloc := false, connect := none }

/-- Whether a mailbox's storage command is in the intake or holds an order number. -/
def State.mbxOrdered (s : State) (m : Nat) : Bool :=
  (nth s.sched.inputs 17 []).any (fun h => h.src == .mbx m) || s.sched.cmds.any fun e => e.2.src == .mbx m

/-- A storage command of a mailbox goes to intake input 17 once its lane has a staging credit, and is answered when its order number
has been served; without the lease it ends with NOT_HOLDER unless it has been ordered (R57, R63, R374, R429, R431, R433). -/
def State.mbxStore (s : State) (m ns : Nat) (kind : CmdKind) (cap : Capsule) (data : List (Nat × Sector)) (marked : List Nat) : State :=
  if s.mbxOrdered m then s
  else if !s.holder then s.mbxFail m 5 (pairCode s.pair.st)
  else
    let lane := s.laneFor kind ns ((s.nsEntry ns).map (·.tenant) |>.getD 0)
    if !s.hasCredit lane then s
    else
      s.enqueue 17 { src := .mbx m, cap := cap, kind := kind, ns := ns, visible := s.now + 2, lane := lane, data := data, marked := marked }

/-- The offset of a namespace number out of range. -/
def badNs (ns off : Nat) : Option Nat := if 4095 < ns then some off else none

/-- Whether COUNT of NS.READ and NS.WRITE is out of range: 1 to 128, at offset 0x2A. -/
def badCount (count : Nat) : Option Nat := if count = 0 ∨ 128 < count then some 0x2A else none

/-- NS_READ: sectors are read through intake input 17 to management host memory (R413, R429, R433). -/
def execNsRead (h : MbxHdr) (ns : Nat) (lba : Nat) (count : Nat) (s : State) : Res State :=
  let go (s : State) : State :=
    s.mbxStore h.mbx.val ns .read { Capsule.blank with opcode := 2, nsid := ns + 1, slba := lba, nlb := count - 1 } [] []
  let sp : MbxSpec :=
    { op := 0x0402, states := [.running], holder := true, out := some (4096 * count), bad := firstOff [badNs ns 0x20, badCount count] }
  .next (s.mbxRun h sp go go)

/-- NS_WRITE: sectors fetched from management host memory are written through intake input 17; those marked with EP are stored as
poisoned (R412, R429, R433). -/
def execNsWrite (h : MbxHdr) (ns : Nat) (lba : Nat) (count : Nat) (data : List Sector) (poisoned : List Nat) (s : State) : Res State :=
  let sectors := (List.range count).map fun i => (i, nth data i 0)
  let bad := if h.dma = .poisoned then (List.range count).filter poisoned.contains else []
  let go (s : State) : State :=
    s.mbxStore h.mbx.val ns .write { Capsule.blank with opcode := 1, nsid := ns + 1, slba := lba, nlb := count - 1 } sectors bad
  let sp : MbxSpec :=
    { op := 0x0403, states := [.running], holder := true, dataIn := true
      bad := firstOff [badNs ns 0x20, badCount count, if h.dlen ≠ 4096 * count then some 0x10 else none] }
  .next (s.mbxRun h sp go go)

/-- NS_DEALLOC: a range is deallocated through intake input 17 (R429, R433, R494). -/
def execNsDealloc (h : MbxHdr) (ns : Nat) (lba : Nat) (count : Nat) (s : State) : Res State :=
  let go (s : State) : State :=
    s.mbxStore h.mbx.val ns .dsm { Capsule.blank with opcode := 9, nsid := ns + 1, ranges := [(lba, count)], dealloc := true } [] []
  .next (s.mbxRun h { op := 0x0404, states := [.running], holder := true, bad := badNs ns 0x20 } go go)

/-- SEAL_RANGE: a seal takes an order number through intake input 17, and reads its range as of that number (R358, R429, R435). -/
def execSealRange (h : MbxHdr) (ns : Nat) (lba : Nat) (count : Nat) (s : State) : Res State :=
  let go (s : State) : State :=
    s.mbxStore h.mbx.val ns .seal { Capsule.blank with nsid := ns + 1, ranges := [(lba, count)] } [] []
  .next (s.mbxRun h { op := 0x0C01, states := [.running], holder := true, bad := badNs ns 0x20 } go go)

/-- NS_CACHE: a range operation of the Translation Cache; a busy engine is waited for (R130, R131, R428, R433). -/
def execNsCache (h : MbxHdr) (op : Nat) (unlock : Nat) (ns : Nat) (lba : Nat) (len : Nat) (s : State) : Res State :=
  let m := h.mbx.val
  let go (s : State) : State :=
    if s.tc.goMbx = some m ∨ s.rangeBusy then s
    else
      let s1 := s.goRange op ⟨decide (len = 0), decide (unlock = 1), ns, lba, len⟩ (some m)
      if s1.rangeBusy then s1 else s1.rangeAnswer
  let sp : MbxSpec :=
    { op := 0x0405, states := [.armed, .running], holder := true, key := some 5000
      bad := firstOff [if 1 < unlock then some 0x21 else none, badNs ns 0x22] }
  .next (s.mbxRun h sp go go)

/-! ### What a peer's command does here (R419, R433, Table 14.4) -/

/-- The key of a slot is erased here as its holder erased it (Table 14.4). -/
def State.keyGone (s : State) (slot : Nat) : State :=
  (s.onCip fun c => { c with slots := tabMod c.slots slot fun k => { k with st := 2, material := 0, wrapped := 0 } }).keyEmpty slot

/-- PEER_MAILBOX_EFFECT: mailboxes 56 to 59 carry out MOD.CLEAR or KEY.DESTROY as the peer has checked it, without the NOT_HOLDER and
STATE checks, and answer by a peer control frame (R419). -/
def execPeerMailboxEffect (m : Fin 64) (e : PeerEffect) (s : State) : Res State :=
  .next (
    if !s.mailboxesUp || m.val < 56 || 59 < m.val then s
    else match e with
    | .modClear b => (s.modClear b.val).emit (.response m.val (mkResp 0x0305 0 0))
    | .keyDestroy t slot => (s.keyGone (4 * t + slot)).emit (.response m.val (mkResp 0x0503 0 0)))

end Sys2Proof.Machine
end

