-- ==== Sys2Proof/Machine/Module.lean ====
section
/-! DEFINITION. The flash module's end of the Sheet link: the operations of Table 9.4 as the bridge performs them (R222 to R234).
A module takes each die operation to its end in the step that receives it. -/

namespace Sys2Proof.Machine

/-- Keep a result among the last 8 of its die and port (Table 9.9, R231). -/
def Module.keep (m : Module) (o : ModOp) : Module :=
  let same (x : ModOp) : Bool := x.portB == o.portB && x.die == o.die
  let mine := m.ops.filter same
  let old := if mine.length < 8 then mine else mine.drop (mine.length - 7)
  { m with ops := (m.ops.filter fun x => !same x) ++ old ++ [o] }

/-- The module answers a command: its result is kept and a RESPONSE goes out (R229, R231). -/
def State.moduleSays (s : State) (b : Nat) (c : SheetCmd) (code status : Nat) (res : SheetResult) (frames : List Payload) : State :=
  (s.onModule b fun m => m.keep ⟨c.portB, c.tag, c.die, code, 3, status⟩).emit (.module b c.tag code status res frames)

/-- A module performs a command: nothing without power; MODULE_FATAL from a module that can no longer serve; INVALID for tag
0xFFF or a reserved field (R224, R229). -/
def State.moduleDoes (s : State) (b : Nat) (c : SheetCmd) (code : Nat) (f : Module → State) : State :=
  match s.module b with
  | none => s
  | some m =>
    if !s.bayPowered b then s
    else if m.fatal then s.moduleSays b c code 0x0F .none []
    else if c.tag = 0xFFF ∨ c.reserved then s.moduleSays b c code 5 .none []
    else f m

/-- Whether a die operation's fields are in range, and the module takes die operations (R223, R228). -/
def State.dieOp (s : State) (b : Nat) (c : SheetCmd) (code : Nat) (inRange : Module → Bool) (f : Module → State) : State :=
  s.moduleDoes b c code fun m =>
    if !(decide (c.die < m.desc.dies) && inRange m) then s.moduleSays b c code 5 .none []
    else if m.power = 2 then s.moduleSays b c code 8 .none []
    else f m

/-- The fence rule: from the owner port at the current epoch (R232). -/
def Module.fenceOk (m : Module) (c : SheetCmd) : Bool := m.owner == (if c.portB then 2 else 1) && c.epoch == m.epoch

/-- A die that does not answer is shown in DIE_FAULT (Table 9.6). -/
def Module.dieGone (m : Module) (d : Nat) : Module := { m with dieFault := m.dieFault ||| BitVec.ofNat 128 (2 ^ d) }

/-- The 16 codewords of a page set hold the given payloads. -/
def State.putPage (s : State) (b die page : Nat) (l : List Payload) : State :=
  s.onSheet fun x =>
    { x with media := (List.range 16).foldl (fun t k => match l[k]? with
      | some p => tabPut t (locAt (mkLoc b die page 0 0) k).toNat p
      | none => t) x.media }

/-- The page set is left undefined: free contents (R227). -/
def State.freePage (s : State) (b die page : Nat) : State :=
  (s.putPage b die page ((List.range 16).map fun k => Config.freePayload (16 * s.freeNo + k))).tick

/-- Whether a codeword lies in an erase block. -/
def inBlock (ppb b die block : Nat) (k : Nat) : Bool :=
  let l : Loc := BitVec.ofNat 40 k
  locBay l == b && locDie l == die && locPage l / (max 1 ppb) == block

/-- SHEET_READ: a multi-plane array read at PAGE returns each requested codeword exactly as read; an unprogrammed page gives free
contents (R225). -/
def execSheetRead (bay : Fin 48) (c : SheetCmd) (nand : NandResult) (s : State) : Res State :=
  .next (s.dieOp bay.val c 1
    (fun m => decide (c.page < m.desc.epp * m.desc.ppb) && c.cwmask != 0 && (c.offsets.drop m.desc.levels).all (· == 0)) fun _ =>
    match nand with
    | .noAnswer => (s.onModule bay.val fun m => m.dieGone c.die).moduleSays bay.val c 1 7 .none []
    | .ok | .fail =>
      let ks := (List.range 16).filter fun k => c.cwmask.getLsbD k
      let frames := ks.map fun k => match tabGet s.sheet.media (locAt (mkLoc bay.val c.die c.page 0 0) k).toNat with
        | some p => p
        | none => Config.freePayload (16 * s.freeNo + k)
      s.tick.moduleSays bay.val c 1 0 .none frames)

/-- SHEET_PROGRAM: once all 16 frames have arrived, and only from the owner port at the current epoch, the four planes take the
frames' bytes; OK only when the NAND reports success (R226, R232). -/
def execSheetProgram (bay : Fin 48) (c : SheetCmd) (frames : List Payload) (nand : NandResult) (s : State) : Res State :=
  .next (
    if frames.length ≠ 16 then s
    else s.dieOp bay.val c 2 (fun m => decide (c.page < m.desc.epp * m.desc.ppb)) fun m =>
      if !m.fenceOk c then s.moduleSays bay.val c 2 3 .none []
      else match nand with
      | .ok => (s.putPage bay.val c.die c.page frames).moduleSays bay.val c 2 0 .none []
      | .fail => (s.freePage bay.val c.die c.page).moduleSays bay.val c 2 1 .none []
      | .noAnswer =>
        ((s.freePage bay.val c.die c.page).onModule bay.val fun m => m.dieGone c.die).moduleSays bay.val c 2 7 .none [])

/-- SHEET_ERASE: only from the owner port at the current epoch, the block is erased on all four planes and is in SLC mode, or
not, until its next erase (R227, R232). A failed erase leaves its pages undefined. -/
def execSheetErase (bay : Fin 48) (c : SheetCmd) (nand : NandResult) (s : State) : Res State :=
  .next (s.dieOp bay.val c 3 (fun m => decide (c.page < m.desc.epp)) fun m =>
    let b := bay.val
    let gone (s : State) : State :=
      (s.onSheet fun x => { x with media := tabMap (fun k p => if inBlock m.desc.ppb b c.die c.page k then Config.freePayload (16 * s.freeNo + k) else p) x.media }).tick
    if !m.fenceOk c then s.moduleSays b c 3 3 .none []
    else match nand with
    | .ok =>
      ((s.onSheet fun x => { x with media := tabKeep (fun k _ => !inBlock m.desc.ppb b c.die c.page k) x.media }).onModule b fun m =>
        { m with slcBlocks := (m.slcBlocks.filter (· != (c.die, c.page))) ++ (if c.slc then [(c.die, c.page)] else []) }).moduleSays
        b c 3 0 .none []
    | .fail => (gone s).moduleSays b c 3 2 .none []
    | .noAnswer => ((gone s).onModule b fun m => m.dieGone c.die).moduleSays b c 3 7 .none [])

/-- SHEET_STATUS: the module status of Table 9.6 for ARG 0xFFF, else the state of a tag (R228, R231). -/
def execSheetStatus (bay : Fin 48) (c : SheetCmd) (s : State) : Res State :=
  .next (s.moduleDoes bay.val c 4 fun m =>
    if 0xFFF < c.arg then s.moduleSays bay.val c 4 5 .none []
    else
      let res := if c.arg = 0xFFF then
          SheetResult.status m.epoch m.owner (b2n m.fatal + 2 * b2n (m.overtemp || decide ((m.desc.tempMax : Int) < m.nand)) + 4 * m.power) m.dieFault
        else match m.ops.reverse.find? fun o => o.portB == c.portB && o.tag == c.arg with
          | some o => .tagState o.state o.result
          | none => .tagState 0 0
      s.moduleSays bay.val c 4 0 res [])

/-- GET_PARAM: a parameter of Table 9.7; LANE_ERR clears when read, MODULE_OPS and a maker's own parameter have open values (R228). -/
def execGetParam (bay : Fin 48) (c : SheetCmd) (s : State) : Res State :=
  .next (s.moduleDoes bay.val c 5 fun m =>
    let b := bay.val
    if c.arg = 1 then s.moduleSays b c 5 0 (.value (BitVec.ofNat 64 m.desc.opsPerDie)) []
    else if c.arg = 2 then
      let r := s.freeNat
      r.2.moduleSays b c 5 0 (.value (BitVec.ofNat 64 (16 + r.1))) []
    else if c.arg = 0x10 then
      (s.onModule b fun m => if c.portB then { m with laneErrB := 0 } else { m with laneErrA := 0 }).moduleSays b c 5 0
        (.value (if c.portB then m.laneErrB else m.laneErrA)) []
    else if c.arg = 0x20 then s.moduleSays b c 5 0 (.value (BitVec.ofNat 64 m.idleDelay)) []
    else if 0x8000 ≤ c.arg ∧ c.arg ≤ 0xFFFF then
      let r := s.freeNat
      r.2.moduleSays b c 5 0 (.value (BitVec.ofNat 64 r.1)) []
    else s.moduleSays b c 5 5 .none [])

/-- SET_PARAM: IDLE_DELAY from 1 to 10,000; a maker's own parameter is taken without effect here; any other ID, and one that is
read only, is INVALID (R228, Table 9.7). -/
def execSetParam (bay : Fin 48) (c : SheetCmd) (s : State) : Res State :=
  .next (s.moduleDoes bay.val c 6 fun _ =>
    let v := c.value.toNat
    if c.arg = 0x20 ∧ 1 ≤ v ∧ v ≤ 10000 then (s.onModule bay.val fun m => { m with idleDelay := v }).moduleSays bay.val c 6 0 .none []
    else if 0x8000 ≤ c.arg ∧ c.arg ≤ 0xFFFF then s.moduleSays bay.val c 6 0 .none []
    else s.moduleSays bay.val c 6 5 .none [])

/-- DESC_READ: page ARG of the descriptor (R185, R228). -/
def execDescRead (bay : Fin 48) (c : SheetCmd) (s : State) : Res State :=
  .next (s.moduleDoes bay.val c 7 fun m =>
    if c.arg ≤ m.desc.dies then s.moduleSays bay.val c 7 0 (.desc m.desc) [] else s.moduleSays bay.val c 7 5 .none [])

/-- TEMP: the highest NAND case temperature and the bridge temperature (R228). -/
def execTemp (bay : Fin 48) (c : SheetCmd) (s : State) : Res State :=
  .next (s.moduleDoes bay.val c 8 fun m => s.moduleSays bay.val c 8 0 (.temp m.nand m.bridge) [])

/-- DIE_RESET: every operation on the die that has not ended completes with ABORTED, then the die idles (R227). -/
def execDieReset (bay : Fin 48) (c : SheetCmd) (s : State) : Res State :=
  .next (s.moduleDoes bay.val c 9 fun m =>
    if m.desc.dies ≤ c.die then s.moduleSays bay.val c 9 5 .none []
    else (s.onModule bay.val fun m =>
      { m with ops := m.ops.map fun o => if o.die = c.die ∧ o.state ≠ 3 then { o with state := 3, result := 6 } else o }).moduleSays
      bay.val c 9 0 .none [])

/-- POWER_STATE: active, idle or quiesced (R228). -/
def execPowerState (bay : Fin 48) (c : SheetCmd) (s : State) : Res State :=
  .next (s.moduleDoes bay.val c 0x0A fun _ =>
    if c.arg ≤ 2 then (s.onModule bay.val fun m => { m with power := c.arg }).moduleSays bay.val c 0x0A 0 .none []
    else s.moduleSays bay.val c 0x0A 5 .none [])

/-- FENCE: a higher epoch is taken with its port as owner; the current epoch from its owner changes nothing and is OK; anything
else is EPOCH_STALE (R233). -/
def execFence (bay : Fin 48) (c : SheetCmd) (s : State) : Res State :=
  .next (s.moduleDoes bay.val c 0x0B fun m =>
    let x := if c.portB then 2 else 1
    if m.epoch < c.epoch ∧ c.epoch < 0xFFFFFFFF then
      (s.onModule bay.val fun m =>
        { m with
          epoch := c.epoch, owner := x
          ops := m.ops.map fun o =>
            if o.portB ≠ c.portB ∧ o.state = 1 ∧ (o.code = 2 ∨ o.code = 3) then { o with state := 3, result := 3 } else o }).moduleSays
        bay.val c 0x0B 0 (.epoch c.epoch) []
    else if c.epoch = m.epoch ∧ m.owner = x ∧ c.epoch ≠ 0 ∧ c.epoch ≠ 0xFFFFFFFF then
      s.moduleSays bay.val c 0x0B 0 (.epoch m.epoch) []
    else s.moduleSays bay.val c 0x0B 4 (.epoch m.epoch) [])

end Sys2Proof.Machine
end

