-- ==== Sys2Proof/Machine/Nvme.lean ====
section
/-! DEFINITION. Chapter 10: the I/O and admin commands, connecting and teardown, Ledger chains, and the commands that
cross the peer link. -/

namespace Sys2Proof.Machine

/-! ### Checks of an I/O command (R253, R257, R263, R349, R494) -/

/-- The tenant a command acts for, if it came from a host (R253). -/
def State.srcTenant (s : State) (c : Cmd) : Option Nat :=
  match c.src with
  | .qp q _ => (s.qp q).tenant
  | .peer _ t _ => some t
  | .mbx _ => none

/-- The Ledger chain of the queue a command came by, as (namespace, chain) (R262). -/
def State.srcChain (s : State) (c : Cmd) : Option (Nat × Nat) :=
  match c.src with
  | .qp q _ => (s.qp q).chain
  | .peer _ _ ch => ch
  | .mbx _ => none

/-- The status that the checks of R253, R257, R263 and R494 give a command, none where it passes. -/
def State.ioCheck (s : State) (c : Cmd) : Option (Nat × Nat × Bool) :=
  match s.nsEntry c.ns with
  | none => some (0, 0x0B, true)
  | some e =>
    let host : Bool := match s.srcTenant c with
      | some t => t != e.tenant
      | none => false
    let chain := s.srcChain c
    let otherNs : Bool := match chain with
      | some x => x.1 != c.ns
      | none => false
    let data := c.kind = .read ∨ c.kind = .write ∨ c.kind = .compare ∨ c.kind = .dsm
    let isHost := (s.srcTenant c).isSome
    let stores := c.kind = .write ∨ c.kind = .zeroes ∨ c.kind = .dsm
    if host || otherNs then some (0, 0x0B, true)
    else if isHost ∧ data ∧ !c.cap.sglKeyed then some (0, 0x11, true)
    else if isHost ∧ c.kind ≠ .dsm ∧ 512 < c.len then some (0, 0x02, true)
    else if e.nsType = 1 ∧ (c.kind = .zeroes ∨ c.kind = .dsm) then some (0, 0x02, true)
    else if e.nsType = 1 ∧ c.kind = .write ∧ 128 < c.len then some (0, 0x02, true)
    else if c.kind = .dsm ∧ 256 < c.cap.ranges.length then some (0, 0x02, true)
    else if c.ranges.any fun r => decide (e.capacity < r.1 + r.2) then some (0, 0x80, true)
    else if e.nsType = 1 ∧ c.kind = .write ∧ chain.isNone then some (7, 0xC5, true)
    else if stores ∧ (s.laneOf e.tenant (1 + e.nsType)).isNone then some (0, 0x20, true)
    else none

/-- Whether the key slot a command was admitted with serves its namespace: ACTIVE with the MODE of the GCM flag
(R349). -/
def State.keyReady (s : State) (c : Cmd) : Bool :=
  match s.nsEntry c.ns, c.key with
  | some e, some k => k.2.st == 1 && (decide (k.2.mode = 2) == e.gcm)
  | _, _ => false

/-- The write, of lower order number and not yet applied, that holds a sector (R80, R266). -/
def State.pendingWrite (s : State) (ord ns lba : Nat) : Option Nat := s.ovWrite ord ns lba

/-- Whether a sector is written (R265), or `none` while its map page is not in the pool. -/
def State.sectorWritten (s : State) (ord ns lba : Nat) : Option Bool :=
  if (s.pendingWrite ord ns lba).isSome then some true
  else (s.mapNow ns lba).map fun e => e != eUnmapped

/-- Ask for every map page that a range needs and that is only in flash. -/
def State.needRange (s : State) (ns lba len : Nat) : State :=
  ((List.range len).filterMap fun i => match s.look ns (lba + i) with
    | .fetch mpn => some mpn
    | _ => none).eraseDups.foldl (fun s m => s.needPage m none true) s

/-- Whether every map page of a range is known. -/
def State.knowsRange (s : State) (ns lba len : Nat) : Bool := (List.range len).all fun i => (s.mapNow ns (lba + i)).isSome

/-- Whether any sector of a range is written. -/
def State.anyWritten (s : State) (ord ns lba len : Nat) : Bool :=
  (List.range len).any fun i => (s.sectorWritten ord ns (lba + i)).getD false

/-- Whether a sector is written and unexpired at a clock minute: by its WSEQ, read from its metadata; a sector with no
codeword counts as unexpired while any entry of the index is (R265, R267, R355). -/
def State.heldBack (s : State) (ord ns lba minute : Nat) : Bool :=
  let live : Bool := match s.nsEntry ns with
    | some e => (s.retIndex ns).any fun x => decide (minute < x.minute + 1 + e.retPeriod)
    | none => false
  match s.pendingWrite ord ns lba with
  | some w => s.unexpired ns w minute
  | none =>
    match s.mapNow ns lba with
    | none => true
    | some e =>
      if e = eUnmapped then false
      else
        match (if isLoc e then (match s.codeword e with
          | some p => some p
          | none => s.bufferAt e) else none) with
        | some p => s.unexpired ns (mdWseq p) minute
        | none => live

/-! ### Read, Write, Flush, Compare -/

/-- Start a command's service: the state and the command when it is admitted, in sequence and passes its checks. -/
def State.startCmd (s : State) (ord : Nat) (k : CmdKind) (needSeq : Bool) : Option Cmd :=
  match s.cmd ord with
  | some c => if c.kind = k ∧ c.phase = .admitted ∧ (c.seq ∨ !needSeq) then some c else none
  | none => none

/-- READ: the checks, then each sector from the stripe buffers or the map; sectors in flash are read (R59, R76, R81,
R253, R257, R349). -/
def execRead (ord : Nat) (s : State) : Res State :=
  .next (
    match s.startCmd ord .read true with
    | none => s
    | some c =>
      match s.ioCheck c with
      | some (sct, sc, dnr) => s.finish ord sct sc dnr 0
      | none =>
        (s.onCmd ord fun c =>
          { c with phase := .running, fetchNext := 0, results := (List.range c.len).map fun i => (i, .waiting) }).serveRead ord)

/-- WRITE: the checks, a Retention write's check that no sector is written, then its data may be fetched; a mailbox's or
forwarded write holds its data already (R49, R108, R253, R257, R263, R266, R349, R494). -/
def execWrite (ord : Nat) (s : State) : Res State :=
  .next (
    match s.cmd ord with
    | none => s
    | some c0 =>
      let type := match s.nsEntry c0.ns with
        | some e => e.nsType
        | none => 0
      match s.startCmd ord .write (type != 0) with
      | none => s
      | some c =>
        match s.ioCheck c with
        | some (sct, sc, dnr) => s.failCmd ord sct sc dnr
        | none =>
          if s.fn.readOnly then s.failCmd ord 0 0x81 true
          else if !s.keyReady c then s.failCmd ord 0 0x82 true
          else if type = 2 ∧ !s.knowsRange c.ns c.lba c.len then s.needRange c.ns c.lba c.len
          else if type = 2 ∧ s.anyWritten ord c.ns c.lba c.len then s.finish ord 7 0xC1 true 0
          else
            let run (c : Cmd) : Cmd := { c with phase := .running, fetchNext := 0, units := List.replicate (unitCount c.len) .fetching }
            let s1 := s.onCmd ord fun c =>
              let d := run c
              match c.src with
              | .qp _ _ => d
              | _ => { d with fetched := [] }.addSectors c.fetched
            if c.orphan then s1.endFetch ord else s1)

/-- FLUSH: every open stripe with an earlier sector of the namespace is closed; it completes when all such stripes are
committed (R90). -/
def execFlush (ord : Nat) (s : State) : Res State :=
  .next (
    match s.startCmd ord .flush true with
    | none => s.tryFlush ord
    | some c =>
      let all : Bool := c.cap.nsid == 0xFFFFFFFF
      let t := (s.srcTenant c).getD 1024
      let otherNs : Bool := match s.srcChain c with
        | some x => x.1 != c.ns
        | none => false
      if (!all && !s.mineNs t c.ns) || otherNs then s.finish ord 0 0x0B true 0
      else
        let hit (e : BufSector) : Bool :=
          mdKind e.payload == 0 && decide (mdWseq e.payload < ord)
            && (if all then s.mineNs t (mdNs e.payload) else mdNs e.payload == c.ns)
        let open_ := (List.range 64).filter fun k => (s.stream k).held.any hit
        let s1 := open_.foldl (fun s k => s.closeStripe k) s
        ((s1.onCmd ord fun c => { c with phase := .running }).kick).tryFlush ord)

/-- COMPARE: the range as of its order number against the host's data, which is fetched (R258, R349). -/
def execCompare (ord : Nat) (s : State) : Res State :=
  .next (
    match s.startCmd ord .compare true with
    | some c =>
      match s.ioCheck c with
      | some (sct, sc, dnr) => s.finish ord sct sc dnr 0
      | none =>
        if !s.keyReady c then s.finish ord 0 0x82 true 0
        else
          (s.onCmd ord fun c =>
            { c with
              phase := .running, fetchNext := 0, units := List.replicate (unitCount c.len) .fetching
              results := (List.range c.len).map fun i => (i, .waiting) }).serveRead ord
    | none =>
      match s.cmd ord with
      | none => s
      | some c =>
        if c.kind ≠ .compare ∨ c.phase ≠ .running ∨ !c.allRead then s
        else
          let free (s : State) : State := match c.src with
            | .qp q _ => s.onCell q fun x => { x with stagingUsed := x.stagingUsed - min c.len c.fetchNext }
            | _ => s
          let s0 := s.settle ord
          match c.readError with
          | some (_, sct, sc) => (free s0).finish ord sct sc true 0
          | none =>
            if c.fetched.length < c.len then s
            else
              match c.firstTagFail with
              | some i => (free s0).finish ord 7 0xC0 true (1 + 65536 * i)
              | none =>
                let same : Bool := (List.range c.len).all fun i =>
                  ((c.fetched.find? fun e => e.1 == i).map (·.2)) == some (c.outSector i)
                if same then (free s0).finishOk ord else (free s0).finish ord 2 0x85 true 0)

/-! ### Write Zeroes and Deallocate (R92, R93, R258, R265 to R267) -/

/-- A range becomes unmapped or zeroes at its order number: earlier writes not yet applied lose those sectors, the map is
updated, and one journal record says so (R93, R94, R258). -/
def State.clearRange (s : State) (ord ns lba len : Nat) (zeroes : Bool) : State :=
  let s0 := s.supersede ord ns lba len
  let entry := if zeroes then eZeroes else eUnmapped
  let s1 := (List.range len).foldl (fun s i =>
    let mpn := s.mpnOf ns (lba + i)
    if !zeroes ∧ (s.gmd mpn).empty ∧ !(s.gmd mpn).resident then s
    else
      let t := s.applyEntry ns (lba + i) entry none
      if zeroes then t.retCount ns ord 1 else t) s0
  let s2 := (s1.journal ⟨if zeroes then 4 else 3, 0, ns, 0, lba, len, ord⟩).settleEmptied s.log.jposNext
  let top := s2.log.jposNext - 1
  ((List.range len).map fun i => s2.mpnOf ns (lba + i)).eraseDups.foldl (fun s m => s.stampPage m top) s2

/-- Whether the map pages of the ranges can take the update now; a zeroes update brings in blank pages, and what is only
in flash is fetched. -/
def State.readyRanges (s : State) (ns : Nat) (l : List (Nat × Nat)) (zeroes : Bool) : Bool × State :=
  let pages := (l.flatMap fun r => (List.range r.2).map fun i => s.mpnOf ns (r.1 + i)).eraseDups
  s.readyPages (fun s m => s.needPage m none true) (pages.filter fun m => zeroes || !(s.gmd m).empty || (s.gmd m).resident)

/-- The update of a Deallocate or Write Zeroes, at its effect, whereupon it leaves the overlap table (R80); it completes when it may be acknowledged (R86, R88). -/
def State.clearCmd (s : State) (ord : Nat) (c : Cmd) (zeroes : Bool) : State :=
  let r := s.readyRanges c.ns c.ranges zeroes
  if !r.1 then r.2
  else
    let s1 := c.ranges.foldl (fun s x => s.clearRange ord c.ns x.1 x.2 zeroes) r.2
    ((s1.onCmd ord fun c => { c with phase := .done, placedAt := s.now + 1 }).onSched fun x =>
      { x with overlap := tabDel x.overlap ord }).tryAck ord

/-- WRITE_ZEROES: Standard with DEAC = 1 deallocates, any other stores zeroes; in a Retention namespace every sector must
be unwritten (R108, R257, R258, R266, R349). -/
def execWriteZeroes (ord : Nat) (s : State) : Res State :=
  .next (
    match s.startCmd ord .zeroes true with
    | none => s.tryAck ord
    | some c =>
      match s.ioCheck c with
      | some (sct, sc, dnr) => s.finish ord sct sc dnr 0
      | none =>
        let type := match s.nsEntry c.ns with
          | some e => e.nsType
          | none => 0
        let dealloc : Bool := type == 0 && c.cap.deac
        if !s.keyReady c then s.finish ord 0 0x82 true 0
        else if !dealloc ∧ s.fn.readOnly then s.finish ord 0 0x81 true 0
        else if type = 2 ∧ !s.knowsRange c.ns c.lba c.len then s.needRange c.ns c.lba c.len
        else if type = 2 ∧ s.anyWritten ord c.ns c.lba c.len then s.finish ord 7 0xC1 true 0
        else s.clearCmd ord c (!dealloc))

/-- DATASET_MANAGEMENT: Deallocate of up to 256 ranges; other attributes are ignored; in a Retention namespace only
unwritten or expired sectors, judged by the clock of its intake (R257, R258, R267, R355). -/
def execDatasetManagement (ord : Nat) (s : State) : Res State :=
  .next (
    match s.startCmd ord .dsm true with
    | none => s.tryAck ord
    | some c =>
      match s.ioCheck c with
      | some (sct, sc, dnr) => s.finish ord sct sc dnr 0
      | none =>
        let type := match s.nsEntry c.ns with
          | some e => e.nsType
          | none => 0
        if !c.cap.dealloc ∧ (s.srcTenant c).isSome then s.finishOk ord
        else if type = 2 ∧ !(c.ranges.all fun r => s.knowsRange c.ns r.1 r.2) then
          c.ranges.foldl (fun s r => s.needRange c.ns r.1 r.2) s
        else if type = 2 ∧ (c.ranges.any fun r => (List.range r.2).any fun i => s.heldBack ord c.ns (r.1 + i) c.retClock) then
          s.finish ord 7 0xC2 true 0
        else
          let reads := if type = 2 ∧ !(s.retIndex c.ns).isEmpty then
            c.ranges.foldl (fun n r => n + ((List.range r.2).filter fun i => (s.sectorWritten ord c.ns (r.1 + i)).getD false).length) 0
            else 0
          let s1 := match c.lane with
            | some l => s.onSched fun x =>
              { x with
                left := tabUpd 0 x.left l fun n => n - reads
                debt := tabUpd 0 x.debt l fun n => n + (reads - tabGetD x.left l 0) }
            | none => s
          s1.clearCmd ord c false)

/-! ### Admin commands that take no order number (R248, R249, R259, R268, R270) -/

/-- The head capsule of a READY queue pair when it satisfies `p`. -/
def State.headCap (s : State) (q : Nat) (p : Capsule → Bool) : Option Capsule :=
  let x := s.qp q
  match x.st, x.inq with
  | .ready, c :: _ => if p c then some c else none
  | _, _ => none

/-- Take the head capsule; a command on an admin queue keeps its controller alive (R252). -/
def State.popCap (s : State) (q : Nat) : State :=
  let s1 := s.onQp q fun x => { x with inq := x.inq.drop 1 }
  match (s.qp q).ctl, (s.qp q).admin with
  | some c, true => s1.onCtl c fun k => { k with lastAdmin := s.now }
  | _, _ => s1

/-- Complete a command that takes no order number; an error is logged by its controller (Table 10.9). -/
def State.endCap (s : State) (q cid sct sc : Nat) (dnr : Bool) (dw0 : Nat) : State :=
  let x := s.qp q
  let s1 := if sct = 0 ∧ sc = 0 then s
    else match x.ctl with
      | some c => s.onCtl c fun k =>
        { k with errCount := k.errCount + 1, errors := ((x.qid, cid, 256 * sct + sc) :: k.errors).take 64 }
      | none => s
  s1.returnCqe q 0 ⟨cid, sct, sc, dnr, dw0⟩

/-- The NVMe controller of a queue pair. -/
def State.ctlOf (s : State) (q : Nat) : Option (Nat × NvmeCtl) :=
  (s.qp q).ctl.bind fun c => (tabGet s.nvme.ctls c).map fun k => (c, k)

/-- CNTLID of controller index `c` (R250). -/
def State.cntlid (s : State) (c : Nat) : Nat := 0x1000 * s.boot.board.slot + c

/-- Packets that `n` bytes need on a queue pair. -/
def Qp.packetsOf (x : Qp) (n : Nat) : Nat := (n + max 1 x.pmtu - 1) / max 1 x.pmtu

/-- Whether `n` send entries are free (R293). -/
def State.sendRoom (s : State) (q n : Nat) : Bool :=
  decide ((s.qp q).sends.length + n ≤ 64 ∧ (s.cell q).sendUsed + n ≤ 256)

/-- Send `len` bytes of a page from byte `off` to the host buffer of a capsule (R293). -/
def State.sendPage (s : State) (q : Nat) (c : Capsule) (page off len : Nat) : State :=
  let m := max 1 (s.qp q).pmtu
  (List.range ((s.qp q).packetsOf len)).foldl (fun s i =>
    let x := s.qp q
    let n := min m (len - m * i)
    let d : Sector := BitVec.ofNat 32768 (page / 2 ^ (8 * (off + m * i)) % 2 ^ (8 * n))
    (s.sendPkt q (.rdmaWrite x.sPsn.toNat (c.sglAddr + m * i) c.sglKey d) n).takeSend q false n) s

/-- An admin command with a data page: sent when send entries are free, then completed. -/
def State.pageReply (s : State) (q : Nat) (c : Capsule) (page off len : Nat) : State :=
  if s.sendRoom q ((s.qp q).packetsOf len) then ((s.popCap q).sendPage q c page off len).endCap q c.cid 0 0 false 0 else s

/-- An admin capsule of an opcode on a connected admin queue. -/
def State.adminCap (s : State) (q opcode : Nat) : Option Capsule :=
  if (s.qp q).admin ∧ (s.qp q).ctl.isSome then s.headCap q fun c => c.opcode == opcode else none

/-- IDENTIFY: the controller, a namespace of the tenant, the tenant's namespace list, or a namespace's descriptors
(R249, R253, R256). -/
def execIdentify (q : Fin 16384) (s : State) : Res State :=
  .next (
    match s.adminCap q.val 0x06, s.ctlOf q.val with
    | some c, some (i, k) =>
      let cns := c.cdw10 % 256
      let mine := match s.nsEntry (capNs c) with
        | some e => if e.tenant = k.tenant ∧ c.nsid ≠ 0 then some e else none
        | none => none
      let fail (sc : Nat) : State := (s.popCap q.val).endCap q.val c.cid 0 sc true 0
      if cns = 1 then s.pageReply q.val c (s.identCtl (s.cntlid i) k.discovery) 0 4096
      else if k.discovery then fail 2
      else if cns = 2 then s.pageReply q.val c (s.identList k.tenant c.nsid) 0 4096
      else if cns = 0 then match mine with
        | some e => s.pageReply q.val c (s.identNs (capNs c) e) 0 4096
        | none => fail 0x0B
      else if cns = 3 then match mine with
        | some e => s.pageReply q.val c (identDescs e) 0 4096
        | none => fail 0x0B
      else fail 2
    | _, _ => s)

/-- The page of a log identifier that takes an order number, for a tenant and its error count (Table 10.10). -/
def State.orderedPage (s : State) (lid t errs : Nat) : Nat :=
  if lid = 0x02 then s.smartPage t errs
  else if lid = 0xC0 then s.healthPage (s.tenantNs t)
  else if lid = 0xC1 then s.chainPage t
  else if lid = 0xC2 then s.capacityPage t
  else if lid = 0xC3 then match s.tenantEntry t with
    | some e => s.counterPage e
    | none => 0
  else s.retentionPage t

/-- The byte offset of a Get Log Page: LPOL and LPOU. -/
def logOffset (c : Capsule) : Nat := c.cdw12 % 2 ^ 32 + 2 ^ 32 * c.cdw13

/-- GET_LOG_PAGE: pages 01h, 05h, 0Ch (and 70h of a discovery controller) at once, pages 02h and C0h to C4h assembled at
their order number (R250, R270, R275, R276); any other page is refused (R248). -/
def execGetLogPage (ref : CmdRef) (s : State) : Res State :=
  .next (
    match ref with
    | .ord n =>
      match s.startCmd n .log true with
      | none => s
      | some c =>
        let errs := match c.src with
          | .qp q _ => ((s.ctlOf q).map fun e => e.2.errCount).getD 0
          | _ => 0
        let page := s.orderedPage (c.cap.cdw10 % 256) ((s.srcTenant c).getD 1024) errs
        let secs := pageSectors page (logOffset c.cap) (4 * (logNumd c.cap + 1))
        s.onCmd n fun c =>
          { c with
            phase := .running, fetchNext := 0
            results := (List.range secs.length).map fun i => (i, .data (nth secs i 0)) }
    | .qp q =>
      match s.adminCap q.val 0x02, s.ctlOf q.val with
      | some c, some (_, k) =>
        let lid := c.cdw10 % 256
        let len := 4 * (logNumd c + 1)
        let off := logOffset c
        if k.discovery then
          if lid = 0x70 then s.pageReply q.val c s.discoveryPage off len
          else (s.popCap q.val).endCap q.val c.cid 1 9 true 0
        else if lid = 0x01 then s.pageReply q.val c (errorPage k) off len
        else if lid = 0x05 then s.pageReply q.val c effectsPage off len
        else if lid = 0x0C then s.pageReply q.val c (s.anaPage k) off len
        else if (adminKind c).isSome then s
        else (s.popCap q.val).endCap q.val c.cid 1 9 true 0
      | _, _ => s)

/-- Whether KATO lies in 1 s to 120 s in multiples of 100 ms (Table 10.3). -/
def katoOk (k : Nat) : Bool := decide (1000 ≤ k ∧ k ≤ 120000 ∧ k % 100 = 0)

/-- SET_FEATURES: WCE cannot be cleared (R259); the event configuration and KATO are set; any other feature is refused
(R248, Table 10.1). -/
def execSetFeatures (q : Fin 16384) (s : State) : Res State :=
  .next (
    match s.adminCap q.val 0x09, s.ctlOf q.val with
    | some c, some (i, _) =>
      let fid := c.cdw10 % 256
      let s1 := s.popCap q.val
      if fid = 0x06 then
        if c.cdw11 % 2 = 0 then s1.endCap q.val c.cid 0 0x0E true 0 else s1.endCap q.val c.cid 0 0 false 0
      else if fid = 0x07 then s1.endCap q.val c.cid 0 0 false (63 + 65536 * 63)
      else if fid = 0x0B then (s1.onCtl i fun k => { k with aec := c.cdw11 }).endCap q.val c.cid 0 0 false 0
      else if fid = 0x0F ∧ katoOk c.cdw11 then (s1.onCtl i fun k => { k with kato := c.cdw11 }).endCap q.val c.cid 0 0 false 0
      else s1.endCap q.val c.cid 0 0x02 true 0
    | _, _ => s)

/-- GET_FEATURES: the five features of Table 10.1; WCE always reads 1 (R251, R259). -/
def execGetFeatures (q : Fin 16384) (s : State) : Res State :=
  .next (
    match s.adminCap q.val 0x0A, s.ctlOf q.val with
    | some c, some (_, k) =>
      let fid := c.cdw10 % 256
      let s1 := s.popCap q.val
      let ok (v : Nat) : State := s1.endCap q.val c.cid 0 0 false v
      if fid = 0x04 then ok (Config.nvmeValue 4 % 65536)
      else if fid = 0x06 then ok 1
      else if fid = 0x07 then ok (63 + 65536 * 63)
      else if fid = 0x0B then ok k.aec
      else if fid = 0x0F then ok k.kato
      else s1.endCap q.val c.cid 0 0x02 true 0
    | _, _ => s)

/-- ASYNCHRONOUS_EVENT_REQUEST: at most 4 wait on a controller; a notice owed is given at once (R249, R270, R275). -/
def execAsynchronousEventRequest (q : Fin 16384) (s : State) : Res State :=
  .next (
    match s.adminCap q.val 0x0C, s.ctlOf q.val with
    | some c, some (i, k) =>
      let s1 := s.popCap q.val
      if 4 ≤ k.aers.length then s1.endCap q.val c.cid 1 5 true 0
      else
        let s2 := s1.onCtl i fun k => { k with aers := k.aers ++ [c.cid] }
        if k.noticePend ∧ k.aec.testBit 11 then ((s2.sendAen i 2 3 0x0C).2).onCtl i fun k => { k with noticePend := false }
        else s2.smartCheck
    | _, _ => s)

/-- KEEP_ALIVE: the command itself keeps the controller alive (R252). -/
def execKeepAlive (q : Fin 16384) (s : State) : Res State :=
  .next (
    match s.adminCap q.val 0x18 with
    | some c => (s.popCap q.val).endCap q.val c.cid 0 0 false 0
    | none => s)

/-- ABORT: always succeeds with DW0 bit 0 set, and changes nothing (R268). -/
def execAbort (q : Fin 16384) (s : State) : Res State :=
  .next (
    match s.adminCap q.val 0x08 with
    | some c => (s.popCap q.val).endCap q.val c.cid 0 0 false 1
    | none => s)

/-! ### Fabrics commands (R250 to R252, R269, R279) -/

/-- Queue pairs of a tenant that are not FREE, over the pair (R251). -/
def State.tenantQueues (s : State) (t : Nat) : Nat := (s.nvme.resv.filter fun e => e.2.tenant == t).length

/-- Submission queue entries reserved in the pair (R251). -/
def State.entriesUsed (s : State) : Nat := s.nvme.resv.foldl (fun a e => a + e.2.entries) 0

/-- The status of a reservation of `n` entries for tenant `t`, none where it fits (R251). -/
def State.reserveCheck (s : State) (t n : Nat) : Option (Nat × Nat × Bool) :=
  let limit := match s.tenantEntry t with
    | some e => e.qpLimit
    | none => 16384
  if limit ≤ s.tenantQueues t then some (1, 0x81, false)
  else if 65536 < s.entriesUsed + n then some (1, 0x82, true)
  else none

/-- Whether this controller can reach the active: it is the active, or the peer link is up to one (R251). -/
def State.reachesActive (s : State) : Bool :=
  s.active || s.pair.hold != .no || (s.peerLink && (match s.pair.peerState with
    | some .active | some .single => true
    | _ => false))

/-- Take a reservation for queue pair `q`; the other controller is told (R251, Table 15.6). -/
def State.reserve (s : State) (q t n : Nat) : State :=
  let s1 := s.onNvme fun v => { v with resv := tabPut v.resv q ⟨n, t, false⟩ }
  if s.active then s1.emit (.ship (.reservation q n t true)) else s1.emit (.reserve q t n)

/-- The free NVMe controller index, if one is left. -/
def State.freeCtl (s : State) : Option Nat := (List.range 4096).find? fun c => (tabGet s.nvme.ctls c).isNone

/-- The tenant a host NQN selects (R281). -/
def State.hostTenant (s : State) (nqn : Nat) : Option Nat :=
  match s.fn.committed with
  | some i => (i.tenants.hosts.find? fun h => h.nqn == nqn).map (·.tenant)
  | none => none

/-- The tenant number that stands for a discovery controller's association, which no tenant has. -/
def noTenant : Nat := 1024

/-- CONNECT: the NQNs, the tenant, the limits of Table 10.3 and the reservation; then the queue joins its controller
and protection domain (R250, R251, R279). -/
def execConnect (q : Fin 16384) (s : State) : Res State :=
  .next (
    match s.headCap q.val fun c => c.opcode == 0x7F && c.fctype == 1 with
    | none => s
    | some c =>
      let x := s.qp q.val
      let s1 := s.popCap q.val
      let fail (sct sc : Nat) (dnr : Bool) : State := s1.endCap q.val c.cid sct sc dnr 0
      let qid := c.cdw10 / 65536
      let size := c.cdw11 % 65536 + 1
      match c.connect with
      | none => fail 0 2 true
      | some d =>
        if x.ctl.isSome then fail 0 0x0C false
        else if s.fn.committed.isNone ∧ !d.discovery then fail 1 0x81 false
        else if !d.discovery ∧ !d.subNqnOk then fail 1 0x82 true
        else
          match (if d.discovery then some noTenant else s.hostTenant d.hostNqn) with
          | none => fail 1 0x84 true
          | some t =>
            if !s.reachesActive then fail 1 0x81 false
            else if qid = 0 then
              if d.cntlid ≠ 0xFFFF ∨ 32 < size ∨ 32 < x.entries ∨ (!d.discovery ∧ !katoOk c.cdw12) then fail 1 0x82 true
              else
                match s.freeCtl, s.reserveCheck t x.entries with
                | none, _ => fail 1 0x81 false
                | _, some (a, b, dnr) => fail a b dnr
                | some i, none =>
                  let k : NvmeCtl :=
                    { tenant := t, discovery := d.discovery, adminQp := q.val, enabled := false, ready := false, kato := c.cdw12,
                      lastAdmin := s.now, aers := [], aec := 0, anaChanges := 0, warnSeen := 0, noticePend := false,
                      errCount := 0, errors := [] }
                  let s2 := (s1.reserve q.val t x.entries).onNvme fun n => { n with ctls := tabPut n.ctls i k }
                  (s2.onQp q.val fun x => { x with tenant := some t, ctl := some i, qid := 0, admin := true }).endCap q.val c.cid 0 0
                    false (s.cntlid i)
            else
              let i := d.cntlid - 0x1000 * s.boot.board.slot
              match tabGet s.nvme.ctls i with
              | none => fail 1 0x82 true
              | some k =>
                let mine := s.rdma.qps.filter fun e => e.2.ctl == some i && !e.2.admin && e.2.st == .ready
                if d.cntlid < 0x1000 * s.boot.board.slot ∨ k.tenant ≠ t ∨ k.discovery ∨ 1024 < size ∨ 1024 < x.entries
                    ∨ 64 < qid ∨ (mine.any fun e => e.2.qid == qid) ∨ 64 ≤ mine.length then fail 1 0x82 true
                else if !k.enabled then fail 0 0x0C false
                else
                  match s.reserveCheck t x.entries with
                  | some (a, b, dnr) => fail a b dnr
                  | none =>
                    ((s1.reserve q.val t x.entries).onQp q.val fun x =>
                      { x with tenant := some t, ctl := some i, qid := qid, admin := false }).endCap q.val c.cid 0 0 false
                      (s.cntlid i))

/-- A Fabrics capsule of a command type on a connected queue. -/
def State.fabricsCap (s : State) (q fctype : Nat) : Option Capsule :=
  if (s.qp q).ctl.isSome then s.headCap q fun c => c.opcode == 0x7F && c.fctype == fctype else none

/-- PROPERTY_GET: CAP, VS, CC and CSTS (R248, R269). -/
def execPropertyGet (q : Fin 16384) (s : State) : Res State :=
  .next (
    match s.fabricsCap q.val 4, s.ctlOf q.val with
    | some c, some (_, k) =>
      let s1 := s.popCap q.val
      let ok (v : Nat) : State := s1.endCap q.val c.cid 0 0 false v
      if !(s.qp q.val).admin then s1.endCap q.val c.cid 0 0x02 true 0
      else if c.cdw11 = 0x00 then ok (Config.nvmeValue 0 % 2 ^ 32)
      else if c.cdw11 = 0x08 then ok 0x00020000
      else if c.cdw11 = 0x14 then ok (b2n k.enabled + 0x00460000)
      else if c.cdw11 = 0x1C then ok (b2n k.ready)
      else s1.endCap q.val c.cid 0 0x02 true 0
    | _, _ => s)

/-- PROPERTY_SET of CC: setting EN makes the controller ready; clearing it sends every I/O queue to FLUSHING, and RDY
follows when the last ordered command has ended (R269). -/
def execPropertySet (q : Fin 16384) (s : State) : Res State :=
  .next (
    match s.fabricsCap q.val 0, s.ctlOf q.val with
    | some c, some (i, k) =>
      let s1 := s.popCap q.val
      if !(s.qp q.val).admin ∨ c.cdw11 ≠ 0x14 then s1.endCap q.val c.cid 0 0x02 true 0
      else if c.cdw12 % 2 = 1 then
        (s1.onCtl i fun k => { k with enabled := true, ready := true }).endCap q.val c.cid 0 0 false 0
      else if k.enabled then
        let mine := s1.rdma.qps.filter fun e => e.2.ctl == some i && !e.2.admin && e.2.st == .ready
        let s2 := mine.foldl (fun s e => s.flushQp e.1) s1
        (s2.onCtl i fun k => { k with enabled := false }).endCap q.val c.cid 0 0 false 0
      else s1.endCap q.val c.cid 0 0 false 0
    | _, _ => s)

/-- CC_EN_CLEAR_COMPLETE: CSTS.RDY clears when the last ordered command of the controller's I/O queues has ended
(R269). -/
def execCcEnClearComplete (ctl : Fin 4096) (s : State) : Res State :=
  .next (
    match tabGet s.nvme.ctls ctl.val with
    | none => s
    | some k =>
      let busy := s.rdma.qps.any fun e => e.2.ctl == some ctl.val && !e.2.admin && s.qpBusy e.1
      if k.ready ∧ !k.enabled ∧ !busy then s.onCtl ctl.val fun k => { k with ready := false } else s)

/-- DISCONNECT: the I/O queue is deleted; an admin queue's is refused (R269). -/
def execDisconnect (q : Fin 16384) (s : State) : Res State :=
  .next (
    match s.fabricsCap q.val 8 with
    | none => s
    | some c =>
      let s1 := s.popCap q.val
      if (s.qp q.val).admin then s1.endCap q.val c.cid 0 0x02 true 0
      else (s1.endCap q.val c.cid 0 0 false 0).flushQp q.val)

/-- KEEP_ALIVE_TIMEOUT: nothing on the admin queue within KATO: the controller is torn down (R252). -/
def execKeepAliveTimeout (ctl : Fin 4096) (s : State) : Res State :=
  .next (
    match tabGet s.nvme.ctls ctl.val with
    | none => s
    | some k => if 0 < k.kato ∧ k.lastAdmin + ms k.kato ≤ s.now then s.teardownCtl ctl.val else s)

/-- Whether a capsule's command is one of Table 10.1 on its kind of queue. -/
def capSupported (admin : Bool) (c : Capsule) : Bool :=
  if c.opcode = 0x7F then c.fctype == 0 || c.fctype == 1 || c.fctype == 4 || c.fctype == 8
  else if admin then [0x02, 0x06, 0x08, 0x09, 0x0A, 0x0C, 0x18, 0xC0].contains c.opcode
  else (ioKind c.opcode).isSome

/-- NVME_UNSUPPORTED_OPCODE: Invalid Command Opcode for a command outside Table 10.1, and Command Sequence Error for any
capsule but the Connect before the Connect succeeds (R248, R279). On a Ledger queue it waits its turn (R261). -/
def execNvmeUnsupportedOpcode (q : Fin 16384) (s : State) : Res State :=
  .next (
    match s.headCap q.val fun _ => true with
    | none => s
    | some c =>
      let x := s.qp q.val
      let waiting : Bool := x.chain.isSome && (!x.ledgerWait.isEmpty || s.sched.inputs.any fun l => l.any fun h => match h.src with
        | .qp q2 _ => q2 == q.val
        | _ => false)
      if waiting then s
      else if x.ctl.isNone then
        if c.opcode = 0x7F ∧ c.fctype = 1 then s else (s.popCap q.val).endCap q.val c.cid 0 0x0C false 0
      else if capSupported x.admin c then s
      else (s.popCap q.val).endCap q.val c.cid 0 0x01 true 0)

/-! ### Ledger chains (R262) -/

/-- The I/O queue pair of an association with an SQID. -/
def State.sqidQp (s : State) (ctl sqid : Nat) : Option Nat :=
  (s.rdma.qps.find? fun e => e.2.ctl == some ctl && !e.2.admin && e.2.st == .ready && e.2.qid == sqid).map (·.1)

/-- Whether a queue has a command outstanding. -/
def State.queueBusy (s : State) (q : Nat) : Bool :=
  let x := s.qp q
  !x.inq.isEmpty || !x.held.isEmpty || s.qpBusy q || (s.nvme.forwards.any fun e => e.2.1 == q)
    || (s.sched.inputs.any fun l => l.any fun h => match h.src with
      | .qp q2 _ => q2 == q
      | _ => false)

/-- The refusal of a LEDGER BIND's target queue (Table 10.6), or the queue. -/
def State.bindTarget (s : State) (ctl : Nat) (c : Capsule) : (Nat × Nat) ⊕ Nat :=
  match s.sqidQp ctl (c.cdw10 % 65536) with
  | none => .inl (0, 0x02)
  | some t =>
    if (s.qp t).chain.isSome then .inl (0, 0x02)
    else if s.queueBusy t then .inl (0, 0x0C)
    else .inr t

/-- Decide a chain's bind at the active (Table 10.6, "Bind meets bind"). -/
def State.bindChain (s : State) (tenant ns ch _q : Nat) : Option (Nat × Nat) × State :=
  match s.nsEntry ns with
  | none => (some (0, 0x0B), s)
  | some e =>
    let k := chainKey ns ch
    if e.nsType ≠ 1 ∨ e.tenant ≠ tenant then (some (0, 0x0B), s)
    else if (s.chain k).bound then (some (7, 0xC6), s)
    else if 16384 ≤ (s.log.chains.filter fun e => e.2.bound).length then (some (1, 0x81), s)
    else (none, s.onLog fun l => { l with chains := tabPut l.chains k { s.chain k with bound := true } })

/-- LEDGER_BIND: the refusals of Table 10.6, else the queue is bound and DW0 is the counter the next write will take
(R262). -/
def execLedgerBind (ord : Nat) (s : State) : Res State :=
  .next (
    match s.startCmd ord .bind true with
    | none => s
    | some c =>
      let ns := c.ns
      let ch := c.cap.cdw11 % 65536
      let dnrOf (e : Nat × Nat) : Bool := e == (0, 0x0B) || e == (0, 0x02)
      match c.src with
      | .qp q _ =>
        match s.ctlOf q with
        | none => s.finish ord 0 0x02 true 0
        | some (i, k) =>
          let nsOk : Bool := match s.nsEntry ns with
            | some e => e.nsType == 1 && e.tenant == k.tenant
            | none => false
          if !nsOk then s.finish ord 0 0x0B true 0
          else
            match s.bindTarget i c.cap with
            | .inl e => s.finish ord e.1 e.2 (dnrOf e) 0
            | .inr t =>
              match s.bindChain k.tenant ns ch t with
              | (some e, s1) => s1.finish ord e.1 e.2 (dnrOf e) 0
              | (none, s1) =>
                (s1.onQp t fun x => { x with chain := some (ns, ch) }).finish ord 0 0 false (s.chain (chainKey ns ch)).next
      | .peer h t _ =>
        match s.bindChain t ns ch (2 ^ 20 + h) with
        | (some e, s1) => s1.finish ord e.1 e.2 (dnrOf e) 0
        | (none, s1) => s1.finish ord 0 0 false (s.chain (chainKey ns ch)).next
      | .mbx _ => s.finish ord 0 0x02 true 0)

/-! ### Across the peer link (R251, R271) -/

/-- QUEUE_RESERVATION: the active decides the other controller's Connect in order of arrival; 0 entries give the
reservation back (R251). -/
def execQueueReservation (handle : Nat) (tenant : Nat) (entries : Nat) (s : State) : Res State :=
  .next (
    let k := 2 ^ 20 + handle
    if !s.active then s.emit (.reserveAnswer handle false)
    else if entries = 0 then (s.onNvme fun n => { n with resv := tabDel n.resv k }).emit (.reserveAnswer handle true)
    else
      match s.reserveCheck tenant entries with
      | some _ => s.emit (.reserveAnswer handle false)
      | none => (s.onNvme fun n => { n with resv := tabPut n.resv k ⟨entries, tenant, true⟩ }).emit (.reserveAnswer handle true))

/-- The ANA status of a command that cannot be given an order number (R271). -/
def State.anaCqe (s : State) (cid : Nat) : Cqe := ⟨cid, 3, s.anaSc, false, 0⟩

/-- A command the standby holds for the active: its handle, and for a write or compare the data it fetches first. -/
def State.sendForward (s : State) (q : Nat) (c : Capsule) (k : CmdKind) : State :=
  let h := s.nvme.nextHandle
  let s1 := s.onNvme fun n => { n with nextHandle := h + 1, forwards := tabPut n.forwards h (q, c) }
  let s2 := if (s.qp q).chain.isSome then s1.onQp q fun x => { x with ledgerWait := x.ledgerWait ++ [(fwdKey h, none)] } else s1
  if (k = .write ∨ k = .compare) ∧ c.sglKeyed ∧ c.nlb < 512 then
    let n := c.nlb + 1
    let d : Cmd :=
      { src := .qp q c.cid, kind := k, ns := capNs c, lba := c.slba, len := n, cap := c, lane := none, phase := .running,
        seq := true, chain := none, lcount := 0, retClock := 0, stream := 0, fetched := [], fetchNext := 0,
        units := List.replicate (unitCount n) .fetching, results := [], placedAt := 0, mirrored := false, mirrorLost := false,
        acked := false, status := none, orphan := false, marked := [], key := none, readCap := s.readCap true }
    s2.onSched fun x => { x with cmds := tabPut x.cmds (fwdKey h) d }
  else s2.emit (.forward h c [])

/-- FORWARD_COMMAND: the standby forwards its queue's head to the active, or answers ANA Inaccessible when that command
cannot be given an order number; at the active it joins intake input 16 against a staging credit of its lane, and waits in the Peer block
for one (R57, R271). -/
def execForwardCommand (f : FwdCmd) (s : State) : Res State :=
  .next (
    match f with
    | .send q =>
      let x := s.qp q.val
      match s.headCap q.val fun c => (capKind x.admin c).isSome with
      | none => s
      | some c =>
        match capKind x.admin c, s.pair.st, x.ctl with
        | some k, .standby, some i =>
          let s1 := s.popCap q.val
          let reach : Bool := s.fn.st == .running && s.peerLink && (match s.pair.peerState with
            | some .active | some .single => true
            | _ => false)
          if !reach then s1.returnCqe q.val 0 (s.anaCqe c.cid)
          else if k = .bind then
            match s.bindTarget i c with
            | .inl e => s1.endCap q.val c.cid e.1 e.2 (e.2 == 0x02) 0
            | .inr _ => s1.sendForward q.val c k
          else s1.sendForward q.val c k
        | _, _, _ => s
    | .arrive h tenant chain c data delay =>
      let admin : Bool := (adminKind c).isSome
      match capKind admin c with
      | none => s.emit (.forwardCqe h ⟨c.cid, 0, 0x01, true, 0⟩ [])
      | some k =>
        if !s.canOrder then s.emit (.forwardCqe h (s.anaCqe c.cid) [])
        else
          let lane := s.laneFor k (capNs c) tenant
          let head : Head :=
            { src := .peer h tenant chain, cap := c, kind := k, ns := capNs c, visible := s.now + 2 + delay.val, lane := lane,
              data := (List.range data.length).map fun i => (i, nth data i 0), marked := [] }
          if s.hasCredit lane then s.enqueue 16 head else s.onSched fun d => { d with peerHeld := d.peerHeld ++ [head] })

/-- FORWARD_COMPLETION_RX: the active's completion returns on the standby's own queue, after a read's data has been
written to the host; a bind binds the queue here (R262, R271). -/
def execForwardCompletionRx (handle : Nat) (cqe : FwdCqe) (s : State) : Res State :=
  .next (
    match tabGet s.nvme.forwards handle with
    | none => s
    | some (q, c) =>
      let s1 := s.onNvme fun n => { n with forwards := tabDel n.forwards handle }
      let s2 := match (if c.opcode = 0xC0 ∧ (s.qp q).admin ∧ cqe.sct = 0 ∧ cqe.sc = 0 then (s.qp q).ctl else none) with
        | some i => match s1.sqidQp i (c.cdw10 % 65536) with
          | some t => s1.onQp t fun x => { x with chain := some (capNs c, c.cdw11 % 65536) }
          | none => s1
        | none => s1
      if cqe.data.isEmpty ∨ (s.qp q).st ≠ .ready then s2.returnCqe q (fwdKey handle) ⟨c.cid, cqe.sct, cqe.sc, cqe.dnr, cqe.dw0⟩
      else
        let kind := if c.opcode = 0x02 ∧ (s.qp q).admin then CmdKind.log else CmdKind.read
        let d : Cmd :=
          { src := .qp q c.cid, kind := kind, ns := capNs c, lba := c.slba, len := cqe.data.length, cap := c, lane := none,
            phase := .running, seq := true, chain := none, lcount := cqe.dw0, retClock := 0, stream := 0, fetched := [],
            fetchNext := 0, units := [], results := (List.range cqe.data.length).map fun i => (i, .data (nth cqe.data i 0)),
            placedAt := 0, mirrored := false, mirrorLost := false, acked := false, status := some (cqe.sct, cqe.sc, cqe.dnr), orphan := false, marked := [], key := none, readCap := s.readCap true }
        s2.onSched fun x => { x with cmds := tabPut x.cmds (fwdKey handle) d })

/-- FORWARD_RECALL: a forwarded command that intake has not taken is discarded (R271). -/
def execForwardRecall (handle : Nat) (s : State) : Res State :=
  .next (
    let mine : Head → Bool := fun h => match h.src with
      | .peer x _ _ => x == handle
      | _ => false
    let gone := (nth s.sched.inputs 16 []).filter mine
    let s1 := s.onSched fun d =>
      { d with inputs := modNth d.inputs 16 fun l => l.filter fun h => !mine h, peerHeld := d.peerHeld.filter fun h => !mine h }
    gone.foldl (fun s h => s.returnCredit h.lane) s1)

end Sys2Proof.Machine
end

