-- ==== Sys2Proof/Machine/Power.lean ====
section
/-! DEFINITION. Chapters 16 and 22: presence, feeds, hold-up, bay channels, the main die's rails and reference, and heat. The
Bay Power Die's timers run on its own clock, so a row of one says that its time has run. -/

namespace Sys2Proof.Machine

/-! ### Presence -/

/-- A module put into a bay: the one that was there before, or another, with epoch 0 and no owner (R232, R234). -/
def State.insertModule (s : State) (b : Nat) (d : ModuleDesc) : State :=
  let same := match s.module b with
    | some m => m.desc.serial == d.serial
    | none => false
  let fresh : Module :=
    { desc := d, epoch := 0, owner := 0, power := 0, fatal := false, overtemp := false, dieFault := 0, idleDelay := 1, laneErrA := 0
      laneErrB := 0, slcBlocks := [], ops := [], nand := 0, bridge := 0 }
  if same then s.onModule b fun m => { m with desc := d, ops := [], dieFault := 0, power := 0, fatal := false }
  else s.onSheet fun x =>
    { x with
      modules := putNth x.modules b (some fresh)
      media := x.media.filter fun e => locBay (BitVec.ofNat 40 e.1) != b }

/-- PRESENCE_CHANGE: a module's debounced presence asserts or goes. A module that comes is POWERING and its channel may
start; one that goes turns its channel off, ends every operation on it, and is LOST if it was in use by the lease holder
(R242, R388, Tables 9.12, 9.13 and 16.7). -/
def execPresenceChange (bay : Fin 48) (present : Option ModuleDesc) (s : State) : Res State :=
  .next (
    let b := bay.val
    match present with
    | some d =>
      if (s.chan b).pres then s
      else
        let s1 := (s.insertModule b d).onChan b fun c => { c with pres := true }
        let s2 := if s1.awake ∧ (s1.port b).modSt = .absent then s1.setMod b .powering else s1
        (s2.chanTry b).powerFollow b
    | none =>
      if !(s.chan b).pres then s
      else
        let s1 := s.onChan b fun c => { c with pres := false }
        let s2 := match (s1.port b).modSt with
          | .inService | .unreachable | .fencing => if s1.holder then s1.loseModule b else s1.setMod b .absent
          | .powering | .linking | .identify | .ready => s1.setMod b .absent
          | .absent | .lost | .foreign => s1
        let s3 := match (s2.chan b).st with
          | .waitInsert | .ramp | .on => s2.setChan b .off
          | .off | .cooldown | .latched | .fetFault => s2
        ((s3.portOff b).endOps b).onModule b fun m => { m with ops := [] })

/-- PRESENCE_ABSENT_100MS: 100 ms of absence is a reseat and a toggle: latched retirements of the lanes, the port and the
module end, and the module that comes next is a returning one (R243, R391, R394, Tables 9.11 and 9.13). -/
def execPresenceAbsent100ms (bay : Fin 48) (s : State) : Res State :=
  .next (
    let b := bay.val
    if (s.chan b).pres then s
    else
      let s1 := match (s.chan b).st with
        | .cooldown => s.onChan b fun c => { c with togglePend := true }
        | .latched => (s.setChan b .waitInsert).setChan b .off
        | .off | .waitInsert | .ramp | .on | .fetFault => s
      let s2 := s1.onPort b fun p =>
        { p with
          st := if p.st = .retired then .off else p.st
          lane0 := { p.lane0 with retired := false }, lane1 := { p.lane1 with retired := false }
          failTimes := [], latchedLost := false, returned := true, erasedBack := [], needErase := [] }
      if (s2.port b).modSt = .lost ∨ (s2.port b).modSt = .foreign then s2.setMod b .absent else s2)

/-! ### Feeds and the selector -/

/-- A feed. -/
def State.feed (s : State) (f : Feed) : FeedSt :=
  match f with
  | .a => s.bpd.feedA
  | .b => s.bpd.feedB

/-- Change a feed. -/
def State.onFeed (s : State) (f : Feed) (g : FeedSt → FeedSt) : State :=
  match f with
  | .a => s.onBpd fun b => { b with feedA := g b.feedA }
  | .b => s.onBpd fun b => { b with feedB := g b.feedB }

/-- FEED_WINDOW_CHANGE: a feed's voltage leaves or re-enters its window (R382, Tables 16.1 and 16.10). -/
def execFeedWindowChange (f : Feed) (inWindow : Bool) (decivolts : Nat) (s : State) : Res State :=
  .next (if s.bpd.aux then s.onFeed f fun x => { x with inWindow := inWindow, since := s.now, volt := min decivolts 255 } else s)

/-- FEED_LOST: a feed out of its window for 5 µs is lost, and the selector leaves it: during a hold-up test the path already
counts as off and the test is abandoned (R382, R383, "Test meets feed loss"). -/
def execFeedLost (f : Feed) (s : State) : Res State :=
  .next (
    if (s.feed f).inWindow ∨ !s.bpd.aux then s
    else
      let s1 := s.onFeed f fun x => { x with lost := true, good := false }
      let abandoned := s1.bpd.testBusy
      let off (s : State) : State := (s.onBpd fun b => { b with testBusy := false, testMbx := none }).pathOff
      match f, s1.bpd.sel with
      | .a, .onA => let t := s1.setSel .breakAB; if abandoned then off t else t
      | .b, .onB =>
        if s1.bpd.feedA.inWindow then (let t := s1.setSel .breakBA; if abandoned then off t else t) else s1.enterHoldup
      | _, _ => s1)

/-- FEED_GOOD: a feed in its window for 10 ms is good, and INIT takes it (R382, Table 16.3). -/
def execFeedGood (f : Feed) (s : State) : Res State :=
  .next (
    if (s.feed f).inWindow ∧ s.bpd.aux then
      (s.onFeed f fun x => { x with lost := false, good := true }).selInit
    else s)

/-- PATH_CONFIRMED_OFF: the path being left is confirmed off and the other is driven, if its feed is in window (R384, Table
16.3). -/
def execPathConfirmedOff (s : State) : Res State := .next s.pathOff

/-- PATH_CONFIRM_TIMEOUT: a path not confirmed off within 2 µs sets its STUCK bit, raises a fault, and the selector enters
HOLDUP (R384). -/
def execPathConfirmTimeout (s : State) : Res State :=
  .next (
    match s.bpd.sel with
    | .breakAB => ((s.onFeed .a fun x => { x with stuck := true }).raise 0x470 classU 0x16 (2 ^ 36 * 0x3E)).enterHoldup
    | .breakBA => ((s.onFeed .b fun x => { x with stuck := true }).raise 0x471 classU 0x16 (2 ^ 36 * 0x3F)).enterHoldup
    | .init | .onA | .onB | .holdup | .down => s)

/-- FEED_RETURN_TIMER: feed A has been good for 1 s in ON_B: the switch back begins (R385, Table 16.3). -/
def execFeedReturnTimer (s : State) : Res State :=
  .next (if s.bpd.sel = .onB ∧ s.bpd.feedA.good then s.setSel .breakBA else s)

/-- DOWN_RESTART_TIMER: a feed has been good for 1 s in DOWN: the selector passes through INIT (R397, Table 16.3). -/
def execDownRestartTimer (s : State) : Res State :=
  .next (if s.bpd.sel = .down ∧ (s.bpd.feedA.good ∨ s.bpd.feedB.good) then (s.setSel .init).selInit else s)

/-! ### Hold-up -/

/-- HOLDUP_PEER_TIMER: the controller that runs no Strike turns everything off 12 ms after entering HOLDUP (R396). -/
def execHoldupPeerTimer (s : State) : Res State :=
  .next (if s.bpd.sel = .holdup ∧ s.log.strike ≠ .running then s.goDown false else s)

/-- BUS_BELOW_HOLD_MIN: the bus falls below HOLD_MIN: all channels and regulators are turned off, and a Strike not complete is
torn (R393, R397). -/
def execBusBelowHoldMin (s : State) : Res State :=
  .next (
    if s.bpd.sel = .down ∨ !s.bpd.aux then s
    else (s.onBpd fun b => { b with busOk := false, busIn := false }).goDown true)

/-- BUS_START_WINDOW_CHANGE: the bus leaves or re-enters the start window: insertion delays start again when it returns, and
hold-up good follows the 11.0 V level (R387, R388). -/
def execBusStartWindowChange (inWindow : Bool) (above11 : Bool) (s : State) : Res State :=
  .next (
    let back := inWindow && !s.bpd.busIn
    let s1 := s.onBpd fun b =>
      { b with
        busIn := inWindow, busOk := above11
        chans := if back then b.chans.map fun c => if c.st = .waitInsert then { c with since := s.now } else c else b.chans }
    s1.checkStrike)

/-- Whether the selected feed is good (R386). -/
def State.selGood (s : State) : Bool := (s.bpd.sel == .onA && s.bpd.feedA.good) || (s.bpd.sel == .onB && s.bpd.feedB.good)

/-- HOLDUP_TEST_START: a hold-up test begins while the selected feed is good, before Strike is first armed after a start or 24 h after
the last; the selected path goes off (R386). -/
def execHoldupTestStart (why : HoldTest) (s : State) : Res State :=
  .next (
    let due : Bool := match why with
      | .startUp => decide (s.boot.step ≤ 12)
      | .daily => match s.bpd.testAt with
        | some t => decide (t + secs 86400 ≤ s.now)
        | none => true
    if due && s.selGood && !s.bpd.testBusy && s.awake then s.onBpd fun b => { b with testBusy := true } else s)

/-- Declared Strike power of this controller in watts (Table 21.6). -/
def State.strikeWatts (s : State) : Nat :=
  match s.decl with
  | some d => if s.boot.board.slot = 2 then d.strikeWB else d.strikeWA
  | none => 0

/-- The hold time in units of 10 µs (R386): C = I × t / ΔV and C × (V0² − HOLD_MIN²) / (2 × P), computed exactly from milliamperes,
millivolts and microseconds and rounded down. Without droop it is the greatest value the register holds. -/
def holdTime (milliamps v0 droop micros watts : Nat) : Nat :=
  if droop = 0 ∨ watts = 0 then 65535
  else min 65535 (milliamps * micros * (v0 * v0 - 8500 * 8500) / (droop * 2 * watts * 10 * 1000000))

/-- HOLDUP_TEST_END: the test ends, the path is turned on again, and the hold time and TEST_FAIL are recorded; PWR.HOLDTEST, if it
asked, is answered, and Strike's arming follows (R386, R387, ES 0x621). -/
def execHoldupTestEnd (milliamps : Nat) (v0Mv : Nat) (droopMv : Nat) (micros : Nat) (s : State) : Res State :=
  .next (
    if !s.bpd.testBusy then s
    else
      let us10 := holdTime milliamps v0Mv droopMv micros s.strikeWatts
      let bad := decide (us10 < 1200)
      let s1 := s.onBpd fun b => { b with testBusy := false, testMbx := none, holdUs := us10, testAt := some s.now, testFail := bad }
      let s2 := s1.event 0x621 8 us10 0
      let s3 := if bad then s2.event 0x621 0x0A 1 0 else s2
      let s4 := match s.bpd.testMbx with
        | some m => s3.answer m { mkResp 0 0 0 with result := leBytes 2 (min 65535 us10) ++ leBytes 1 (b2n bad) }
        | none => s3
      s4.checkStrike)

/-- HOLDUP_TEST_AGE_EXPIRY: the last test is older than 25 h: hold-up good ends and Strike is disarmed (R387). -/
def execHoldupTestAgeExpiry (s : State) : Res State := .next s.checkStrike

/-! ### Bay channels -/

/-- INSERTION_DELAY_EXPIRY: the insertion delay ends with the bus in its start window and a feed selected: the channel ramps
(R388). -/
def execInsertionDelayExpiry (bay : Fin 48) (s : State) : Res State :=
  .next (
    let c := s.chan bay.val
    if c.st = .waitInsert ∧ c.enabled ∧ c.pres ∧ s.bpd.busIn ∧ s.feedOn then s.setChan bay.val .ramp else s)

/-- CHANNEL_POWER_GOOD: the output reaches the bus: the channel is ON and the bay powered (R389, Table 9.11). -/
def execChannelPowerGood (bay : Fin 48) (s : State) : Res State :=
  .next (if (s.chan bay.val).st = .ramp then s.setChan bay.val .on else s)

/-- FAST_TRIP: the fast-trip comparator fires: kind 2 in RAMP, kind 5 in ON (R389, Table 16.5). -/
def execFastTrip (bay : Fin 48) (s : State) : Res State :=
  .next (
    match (s.chan bay.val).st with
    | .ramp => s.trip bay.val 2
    | .on => s.trip bay.val 5
    | .off | .waitInsert | .cooldown | .latched | .fetFault => s)

/-- SOA_TIMEOUT: the SOA timer runs out while the current limit regulates: kind 3 in RAMP, kind 4 in ON (R389, Table 16.5). -/
def execSoaTimeout (bay : Fin 48) (s : State) : Res State :=
  .next (
    match (s.chan bay.val).st with
    | .ramp => s.trip bay.val 3
    | .on => s.trip bay.val 4
    | .off | .waitInsert | .cooldown | .latched | .fetFault => s)

/-- RAMP_TIMEOUT: no power good within the ramp timeout: kind 1 (R391, Table 16.5). -/
def execRampTimeout (bay : Fin 48) (s : State) : Res State :=
  .next (if (s.chan bay.val).st = .ramp then s.trip bay.val 1 else s)

/-- PG_LOST: power good is lost in ON: kind 6 (R389, Table 16.5). -/
def execPgLost (bay : Fin 48) (s : State) : Res State :=
  .next (if (s.chan bay.val).st = .on then s.trip bay.val 6 else s)

/-- COOLDOWN_EXPIRY: 1 s after the trip the channel is LATCHED, or in WAIT_INSERT if a toggle was recorded (R391, R394). -/
def execCooldownExpiry (bay : Fin 48) (s : State) : Res State :=
  .next (
    let c := s.chan bay.val
    if c.st ≠ .cooldown then s
    else if c.togglePend then
      let s1 := (s.onChan bay.val fun c => { c with togglePend := false }).setChan bay.val .waitInsert
      if c.enabled ∧ c.pres ∧ s.feedOn then s1 else s1.setChan bay.val .off
    else s.setChan bay.val .latched)

/-- FET_FAULT_TIMER: the output stays above 1.5 V for 20 ms while the channel is commanded off: the pass FET is damaged (R392). -/
def execFetFaultTimer (bay : Fin 48) (s : State) : Res State :=
  .next (
    match (s.chan bay.val).st with
    | .off | .cooldown | .latched =>
      let s1 := s.onChan bay.val fun c => { c with lastFault := 7, togglePend := false }
      (s1.setChan bay.val .fetFault).raise (0x440 + bay.val) classU 0x15 (2 ^ 36 * bay.val + 7)
    | .waitInsert | .ramp | .on | .fetFault => s)

/-! ### Rails and reference -/

/-- RAIL_POWER_GOOD: rail `k`, the next in order, is good: the next is enabled, and after the last the main die's reset is
released (R479, Table 22.3). -/
def execRailPowerGood (k : Fin 7) (s : State) : Res State :=
  .next (
    let b := s.bpd
    if s.feedOn && b.refclk && !b.railsOff && !b.pwrFault && b.mainReset && b.rails == k.val then
      s.onBpd fun b =>
        if k.val = 6 then { b with rails := 7, railAttempt := 0, mainOn := true, mainReset := false } else { b with rails := k.val + 1 }
    else s)

/-- RAIL_PG_TIMEOUT: a rail's power good does not rise in 4 ms: all rails go off and PWR_FAULT_N low; the second failure keeps
the main die off (R479). -/
def execRailPgTimeout (s : State) : Res State :=
  .next (
    let b := s.bpd
    if s.feedOn && !b.railsOff && !b.pwrFault && decide (b.rails < 7) then
      s.onBpd fun b => { b with rails := 0, pwrFault := true, railAttempt := b.railAttempt + 1, railsOff := decide (1 ≤ b.railAttempt) }
    else s)

/-- RAIL_RETRY_TIMER: 1 s after a power failure the sequence is tried again (R479). -/
def execRailRetryTimer (s : State) : Res State :=
  .next (
    if s.bpd.pwrFault ∧ !s.bpd.railsOff ∧ s.bpd.refclk ∧ s.feedOn then s.onBpd fun b => { b with pwrFault := false, rails := 0 } else s)

/-- RAIL_PG_LOST: a rail's power good falls for 10 µs in service: the main die is reset and powered down without Strike or
RELEASE (R480, "Rail loss meets service"). -/
def execRailPgLost (_k : Fin 7) (s : State) : Res State := .next (if s.bpd.mainOn then s.railLost else s)

/-- REFCLK_SYS_LOSS: no edge of REFCLK_SYS for 20 µs is handled as a lost rail ("Reference loss meets lease"). -/
def execRefclkSysLoss (s : State) : Res State :=
  .next (
    let s1 := s.onBpd fun b => { b with refclk := false }
    if s1.bpd.mainOn then s1.railLost else s1.onBpd fun b => { b with rails := 0 })

/-- REFCLK_SYS_RESTORED: the clock has run for 10 ms: the sequence of R479 starts (R481). -/
def execRefclkSysRestored (s : State) : Res State :=
  .next (
    if s.bpd.refclk then s
    else s.onBpd fun b => { b with refclk := true, pwrFault := b.pwrFault && b.railsOff, rails := 0 })

/-- AUXILIARY_POWER_REMOVED: the Bay Power Die stops: every channel and path is off, and the holds that only this ends are
over (R19, R392, R479). -/
def execAuxiliaryPowerRemoved (s : State) : Res State :=
  .next (
    if !s.bpd.aux then s
    else
      let s1 := (List.range 48).foldl (fun s b => s.modulePower b)
        (s.onBpd fun b =>
          { BpdSt.reset with aux := false, chans := b.chans.map fun c => { Chan.reset with pres := c.pres } })
      let s2 := s1.diePowerOff
      { s2 with flt := FltSt.reset, boot := { s2.boot with step := 1, tripHold := false } })

/-! ### Heat -/

/-- JUNCTION_SENSOR_READ: the junction temperature is the highest of the sixteen readings; it feeds the early warning and the
thermal levels' times (R211, R483, R484). -/
def execJunctionSensorRead (values : List Int) (s : State) : Res State :=
  .next (
    match values with
    | [] => s
    | v :: t =>
      if !s.awake then s.onBoot fun b => { b with junction := t.foldl max v, tripHold := b.tripHold && decide (100 ≤ t.foldl max v) }
      else
        let j := t.foldl max v
        let s1 := (s.onBoot fun b => { b with junction := j }).junctionTimes
        let th : Int := s1.setting 10
        s1.monitor 0x632 8 63 128 j.toNat (decide (th < j)) (decide (j < th - 5)))

/-- THERMAL_LEVEL_CHANGE: the junction has held past a threshold long enough: a level is entered or left, or the chip trips (R484,
Table 22.6). Budgets and the cache's groups follow at the next frame boundary. -/
def execThermalLevelChange (s : State) : Res State :=
  .next (
    let b := s.boot
    let tripped := match b.tripSince with
      | some t => decide (t + ms 1 ≤ s.now)
      | none => false
    if !s.awake then s
    else if tripped && !b.tripHold then (s.onBoot fun b => { b with tripHold := true }).raise 0x419 classF 0x19 0
    else if b.aboveSince ≠ 0 ∧ b.aboveSince + ms 10 ≤ s.now + 1 then
      (s.onBoot fun b => { b with thermal := b.thermal + 1, aboveSince := 0, belowSince := 0 }).junctionTimes
    else if b.belowSince ≠ 0 ∧ b.belowSince + secs 1 ≤ s.now + 1 then
      (s.onBoot fun b => { b with thermal := b.thermal - 1, aboveSince := 0, belowSince := 0 }).junctionTimes
    else s)

end Sys2Proof.Machine
end

