-- ==== Sys2Proof/Machine/Rebuild.lean ====
section
/-! DEFINITION. Rebuild, the sweep, rewrites and the Ratline patrol: the meanings of the rebuild commands (chapter 7). -/

namespace Sys2Proof.Machine

/-! ### Journal and root copies (R156, "Journal copy meets failure") -/

/-- The JALT bay a lost copy goes to: the first in service whose placement group holds no other copy; `e` is 64 + bay for a root
copy. -/
def State.jaltFor (s : State) (e : Nat) : Option Nat :=
  let others := if e < 64 then s.log.sjCopies.map SjCopy.bay else s.rootBays.filter (· != e - 64)
  s.pl.jalt.find? fun b => s.inService b && !(others.any fun c => c / 4 == b / 4)

/-- Whether every member of the loss set lies in one bay (R172). -/
def State.lossInOneBay (s : State) : Bool :=
  decide ((s.reb.loss.map fun x => match x with
    | .bay b => b
    | .die b _ => b).eraseDups.length ≤ 1)

/-- JOURNAL is over: CRITICAL in Twin, left at once when every loss lies in one bay, SINGLE in Spread; the cursor is at unit 0
(R172, Table 7.5). -/
def State.leaveJournal (s : State) : State :=
  let s1 := s.onReb fun r => { r with unit := 0, index := 0 }
  if s.pl.parity ≠ 2 then s1.setReb .single
  else if s.lossInOneBay then (s1.setReb .critical).setReb .single
  else s1.setReb .critical

/-- Lost copies for which no JALT bay qualifies are given up with an event; with none left to place, JOURNAL ends. -/
def State.journalStep (s : State) : State :=
  let none_ := s.reb.journalLost.filter fun e => (s.jaltFor e).isNone
  let s1 := none_.foldl (fun (s : State) (_ : Nat) => s.event 0x608 0x0A 3 0) s
  let s2 := s1.onReb fun r => { r with journalLost := r.journalLost.filter fun e => !none_.contains e }
  if s2.reb.journalLost.isEmpty then s2.leaveJournal else s2

/-- JOURNAL_COPY_PLACED: a lost stripe journal copy, or root copy, is placed on a JALT bay; a journal copy takes every record not
yet droppable, from a surviving copy or the peer's (R156, R158). -/
def execJournalCopyPlaced (bay : Fin 48) (s : State) : Res State :=
  .next (
    let b := bay.val
    let s0 := s.resumeRebuild
    if !s.awake ∨ s0.reb.st ≠ .journal then s
    else match s0.reb.journalLost.find? fun e => s0.jaltFor e == some b with
      | none => s0
      | some e =>
        let s1 := s0.onReb fun r => { r with journalLost := r.journalLost.erase e }
        let s2 :=
          if 64 ≤ e then s1.onLog fun l =>
            { l with rootMoved := s1.pl.root.foldl (fun t r => if tabGetD t r r = e - 64 then tabPut t r b else t) l.rootMoved }
          else
            let all := match s1.log.sjCopies with
              | c :: _ => c.records.map fun x : SjLive => x.record
              | [] => s1.log.sjPeer
            let live := all.filter fun r => (tabGet s1.log.stripes r.stripe).isSome
            let pages := (chunks 127 (live.length / 127 + 1) live).filter fun p => !p.isEmpty
            (s1.onLog fun l =>
              { l with
                sjCopies := l.sjCopies ++ [⟨b, 0, 0, true, []⟩]
                sjWait := pages.map (fun p => (⟨p, s1.now, [b], 0⟩ : SjPage)) ++ l.sjWait }).trySj
        if s2.reb.journalLost.isEmpty then s2.leaveJournal else s2)

/-! ### Rebuild (R170 to R173) -/

/-- The roles of a stripe that lie on a lost member (R160, R161, R170). -/
def State.goneRoles (s : State) (u i : Nat) : List Nat :=
  (List.range s.roles).filter fun r => match s.roleLoc u i r with
    | some l => s.placeLost l
    | none => true

/-- Whether a role must be repaired: parity, or a data role whose bay still holds valid data of the unit (R170). -/
def State.worthRepair (s : State) (u i r : Nat) : Bool :=
  decide (s.pl.data ≤ r) || (match s.roleLoc u i r with
    | some l => tabGetD s.log.validBay (u * 64 + locBay l) 0 != 0
    | none => false)

/-- The next stripe at or after the cursor, in a unit that holds valid data (R170, R172). -/
def State.nextStripe (s : State) : Option (Nat × Nat) :=
  s.reb.dirs.findSome? fun e =>
    if (s.unit e.1).valid = 0 ∨ e.1 < s.reb.unit then none
    else
      let i := if e.1 = s.reb.unit then s.reb.index else 0
      if i < e.2.stripes then some (e.1, i) else none

/-- Move the cursor past a stripe. -/
def State.pastStripe (s : State) (u i : Nat) : State := s.onReb fun r => { r with unit := u, index := i + 1 }

/-- Process one stripe: its lost roles go to the batch, 16 work units each; one beyond its parity, or without a target bay, is
relocated to stream 59, one work unit a sector (R169 to R171). -/
def State.rebuildStripe (s : State) (u i : Nat) (critical : Bool) : State :=
  let gone := s.goneRoles u i
  let dead : Bool := match tabGet s.reb.dirs u with
    | some d => abandonedIn d i
    | none => true
  let todo := gone.filter fun r => s.worthRepair u i r && !s.inBatch u i r
  if dead ∨ todo.isEmpty ∨ (critical ∧ gone.length ≠ 2) then s.pastStripe u i
  else if s.pl.parity < gone.length ∨ (s.repairTarget u i).isNone then
    if s.canRelocate then (s.relocateStripe u i).pastStripe u i
    else if s.reb.retryHeld then s
    else (s.onReb fun r => { r with retryHeld := true }).event 0x608 0x0A 4 0
  else if !s.batchRoom todo.length then s
  else
    (todo.foldl (fun (s : State) (r : Nat) => match s.roleLoc u i r with
      | some l => (s.addRepair u i r l []).chargeBack 6 16
      | none => s) s).pastStripe u i

/-- One step of rebuild at its cursor: JOURNAL waits for its copies; CRITICAL and SINGLE take the stripe under the cursor and pass on
when it is past the last unit and the batch is done; CRITICAL also once every loss lies in one bay (R172, Table 7.5). -/
def State.rebuildStep (s : State) : State :=
  match s.reb.st with
  | .journal => s.journalStep
  | .critical | .single =>
    if s.reb.st = .critical ∧ s.lossInOneBay then (s.onReb fun r => { r with unit := 0, index := 0 }).setReb .single
    else if s.reb.retryHeld ∨ s.backLeft 6 = 0 then s
    else match s.nextStripe with
      | some (u, i) => s.rebuildStripe u i (s.reb.st == .critical)
      | none =>
        if !s.reb.batch.isEmpty then s
        else if s.reb.st = .critical then (s.onReb fun r => { r with unit := 0, index := 0 }).setReb .single
        else (s.onReb fun r => { r with unit := 0, index := 0, sweepMpn := 0, sweepPending := false }).setReb .sweep
  | .idle | .sweep | .held => s

/-- REBUILD_STEP: rebuild works on the lease holder while the function is ARMED or RUNNING, and is held otherwise (R170 to R173). -/
def execRebuildStep (s : State) : Res State :=
  .next (
    if !s.awake then s
    else
      let s1 := s.pauseRebuild.resumeRebuild
      if s1.rebuildMay then s1.rebuildStep else s1)

/-- REBUILD_RETRY_TIMER: a stripe held for want of a target and of a stripe of stream 59 is tried again (R169). -/
def execRebuildRetryTimer (s : State) : Res State :=
  .next (
    if !s.awake ∨ !s.reb.retryHeld ∨ !s.rebuildMay then s
    else
      let s1 := s.onReb fun r => { r with retryHeld := false }
      if s1.reb.batchPhase ≠ 0 then s1.batchStep else s1.rebuildStep)

/-- REPAIR_BATCH_ADVANCE: the directory pages of the batch's last step are durable, and it takes its next one (R168). -/
def execRepairBatchAdvance (s : State) : Res State :=
  .next (if !s.awake ∨ !s.rebuildMay then s else s.batchStep)

/-! ### The sweep (R174) -/

/-- Sweep one entry: one in the loss set, or recorded as unrecoverable, is repointed to its role's repair strip or poisoned
(R174). -/
def State.sweepEntry (s : State) (ns lba : Nat) (e : MapEntry) : State :=
  if !isLoc e then s
  else if !s.placeLost e ∧ !s.reb.lostCw.contains e then s
  else
    let k := 4 * locPlane e + locCw e
    let strip := (s.stripeOf e).bind fun x => (s.repairStrip x.1 x.2.1 x.2.2).bind fun l =>
      if l = pageSet e ∨ s.placeLost l then none else some (x, locAt l k)
    match strip with
    | some ((u, i, r), new) =>
      let w := (s.codeword new).elim 0 mdWseq
      let s1 := (s.applyEntry ns lba new (s.keyOfLoc new)).journal ⟨2, 0, ns, 16 * r + k, lba, stripeId i u (s.unit u).use, w⟩
      s1.stampPage (s1.mpnOf ns lba) (s1.log.jposNext - 1)
    | none => s.poisonSector ns lba e

/-- The lines of a map page that the sweep reads are filled as streaming fills (R116, R174). -/
def State.streamPage (s : State) (mpn : Nat) : State :=
  (List.range 68).foldl (fun s i =>
    let la := 68 * mpn + i
    match s.tcHit la, s.ownerOf mpn (12 * i) with
    | none, some (ns, _) => s.startFill la ns true false none
    | _, _ => s) s

/-- SWEEP_STEP: the next map page of every namespace, in MPN order, is read as streaming fills and its entries swept, within the updates of a
frame (R122); past the last one the record of
unrecoverable codewords is cleared and rebuild is IDLE (R174, R175). -/
def execSweepStep (s : State) : Res State :=
  .next (
    let s0 := s.resumeRebuild
    if !s.awake ∨ s0.reb.st ≠ .sweep ∨ !s0.rebuildMay then s
    else match s0.map.gmd.find? fun e => decide (s0.reb.sweepMpn ≤ e.1) && !s0.sysPage e.1 && (e.2.resident || !e.2.empty) with
      | none => (s0.onReb fun r => { r with lostCw := [], sweepMpn := 0 }).setReb .idle
      | some (mpn, g) =>
        if !g.resident then s0.needPage mpn none false
        else if updateLimit < s0.map.applied + 816 then s0
        else
          let s1 := (s0.writeBackPage mpn).streamPage mpn
          let ents := match s1.slotOf mpn with
            | some p => p.entries
            | none => []
          let s2 := ents.foldl (fun (s : State) (e : Nat × MapEntry) => match s.ownerOf mpn e.1 with
            | some (ns, lba) => s.sweepEntry ns lba e.2
            | none => s) s1
          (s2.onMap fun m => { m with applied := m.applied + (s2.log.jposNext - s1.log.jposNext) }).onReb fun r => { r with sweepMpn := mpn + 1 })

/-! ### Rewrites (R181) -/

/-- A sector's map entry, from the cache or the pool, or else from the page's copy in flash. -/
def State.entryNow (s : State) (ns lba : Nat) : Option MapEntry :=
  match s.mapNow ns lba with
  | some e => some e
  | none =>
    let g := s.gmd (s.mpnOf ns lba)
    if g.empty then some eUnmapped
    else (s.codeword g.loc).map fun p => tabGetD (mapPageEntries (plData p)) (lba % 816) eUnmapped

/-- Whether a codeword holds valid data: the copy that its map entry, its map page's or its GMD page's record names; of one that cannot be read,
whether its unit holds valid sectors on its bay (R97, R181). -/
def State.liveAt (s : State) (l : Loc) : Bool :=
  (s.map.pool.any fun e => e.2.loc == l) || (s.map.gmd.any fun e => !e.2.resident && !e.2.empty && e.2.loc == l) || (s.gmdPages.any fun e => e.2 == l)
    || (match s.codeword l with
      | some p => mdKind p == 0 && s.entryNow (mdNs p) (mdLba p) == some l
      | none => match s.locUnit l with
        | some u => tabGetD s.log.validBay (u * 64 + locBay l) 0 != 0
        | none => false)

/-- Whether a stripe holds valid data (R181, Table 7.7). -/
def State.stripeLive (s : State) (u i : Nat) : Bool :=
  (List.range s.pl.data).any fun r => match s.roleLoc u i r with
    | some l => (List.range 16).any fun k => s.liveAt (locAt l k)
    | none => false

/-- Programmed page sets of an erase block. -/
def State.blockPages (s : State) (x : EraseBlock) : List Loc :=
  (List.range s.geo.ppb).filterMap fun p =>
    let l := mkLoc x.bay x.die (x.block * s.geo.ppb + p) 0 0
    if (tabGet s.sheet.media l.toNat).isSome then some l else none

/-- REWRITE_ISSUE: while rebuild is IDLE or SWEEP the oldest queued erase block's roles of stripes that hold valid data go to the
batch; a row's XOR page set gives its unit the highest reclaim score; a system block's structure moves on (R181, R206). -/
def execRewriteIssue (s : State) : Res State :=
  .next (
    match s.reb.rewrite with
    | [] => s
    | x :: rest =>
      if !s.awake ∨ !s.rebuildMay ∨ (s.reb.st ≠ .idle ∧ s.reb.st ≠ .sweep) ∨ s.backLeft 6 = 0 then s
      else if x.block < s.pl.sysblk then
        let s1 := s.onReb fun r => { r with rewrite := rest }
        if x.die = 1 ∧ 2 ≤ x.block then s1.moveRing x.bay else s1
      else
        let pages := s.blockPages x
        let todo := pages.filterMap fun l => match s.stripeOf l with
          | some (u, i, r) =>
            if s.roleLoc u i r == some l && s.stripeLive u i && !s.inBatch u i r && !(s.placeLost l) then some (u, i, r, l) else none
          | none => none
        let xors := pages.filterMap fun l => (s.locUnit l).bind fun u => if s.xorPage u x.bay (s.locRow l) = l then some u else none
        let s1 := xors.eraseDups.foldl (fun (s : State) (u : Nat) => s.onUnit u fun y => { y with topScore := true }) s
        let free := if s.reb.batchPhase = 0 then 256 - s.reb.batch.length else 0
        let now := todo.take free
        let s2 := now.foldl (fun (s : State) (q : Nat × Nat × Nat × Loc) => (s.addRepair q.1 q.2.1 q.2.2.1 q.2.2.2 []).chargeBack 6 16) s1
        if todo.length ≤ free then s2.onReb fun r => { r with rewrite := rest } else s2)

/-! ### The patrol (R178, R179, R182) -/

/-- The page sets of stripe `i` of unit `u` that the patrol reads, each with its role: a stripe that is committed, without the roles on
lost members (R178, "Patrol meets loss"). -/
def State.patrolRoles (s : State) (u i : Nat) : List (Nat × Loc) :=
  let live : Bool := match tabGet s.reb.dirs u with
    | some d => !abandonedIn d i && (match tabGet s.log.stripes (stripeId i u d.use) with
      | some x => x.st == .committed
      | none => true)
    | none => false
  if live then (List.range s.roles).filterMap fun r => match s.roleLoc u i r with
    | some l => if s.placeLost l ∨ !s.readable (locBay l) then none else some (r, l)
    | none => none
  else []

/-- The rows of a unit that hold a programmed page set, as (bay, row). -/
def State.patrolRows (s : State) (u : Nat) : List (Nat × Nat) :=
  (s.sheet.media.filterMap fun e =>
    let l : Loc := BitVec.ofNat 40 e.1
    if s.locUnit l = some u ∧ !s.placeLost l then some (locBay l, s.locRow l) else none).eraseDups

/-- The programmed page sets of a row that lie on no lost member: its positions, then its XOR page set (R178). -/
def State.rowSets (s : State) (u b row : Nat) : List Loc :=
  (s.rowPages u b row ++ [s.xorPage u b row]).filter fun l => (tabGet s.sheet.media l.toNat).isSome && !s.placeLost l

/-- Whether a page set of unit `u` is a repair strip whose owner stripe the patrol comes to later: it is read with that (R178). -/
def State.ownerLater (s : State) (u : Nat) (l : Loc) : Bool :=
  s.reb.dirs.any fun e => decide (u < e.1 ∧ s.reb.patrolUnit ≤ e.1)
    && e.2.exceptions.any fun x => x.type == 4 && x.arg == (pageSet l).toNat && (decide (s.reb.patrolUnit < e.1 ∨ s.reb.patrolIndex ≤ x.index))

/-- Reads of the patrol in flight. -/
def State.patrolBusy (s : State) : Bool := s.rd.jobs.any fun e => e.2.user.isPatrol

/-- Count silent corruption in a role of a stripe: its module's count, and the event that names the stripe ID and the role (R182). -/
def State.countSilent (s : State) (u i r : Nat) : State :=
  let s1 := match s.roleLoc u i r with
    | some l => (s.onHealth (locBay l) fun h => { h with silent := satAdd 0xFFFFFFFF h.silent 1, silentCycle := h.silentCycle + 1 }).checkBay (locBay l)
    | none => s
  s1.event 0x607 8 (stripeId i u (s.unit u).use) r

/-- Located silent corruption in a role: it is counted, and repaired while the stripe holds valid data, 16 work units (R171, R182, Table 7.7). -/
def State.located (s : State) (u i r : Nat) (fixed : List (Nat × Payload)) : State :=
  match s.roleLoc u i r with
  | none => s
  | some l =>
    let s1 := (s.countSilent u i r).onReb fun x => { x with patrolBad := x.patrolBad ++ [pageSet l] }
    if s.stripeLive u i ∧ !s1.inBatch u i r then (s1.addRepair u i r l fixed).chargeBack 6 16 else s1

/-- A stripe beyond its layout's correction: every role found at fault is counted, the stripe itself, as role 0xFF, where none is; it is
unrecoverable, its faulty codewords are recorded and the rest relocated (R170, R182, Table 7.7). -/
def State.stripeBeyond (s : State) (u i : Nat) (roles : List Nat) (faulty : List Loc) : State :=
  let s0 := match roles with
    | [] => s.event 0x607 8 (stripeId i u (s.unit u).use) 0xFF
    | l => l.foldl (fun s r => s.countSilent u i r) s
  let s1 := faulty.foldl (fun (s : State) (l : Loc) => s.recordLost l) s0
  if (s1.unit u).valid = 0 then s1 else s1.relocateStripe u i

/-- Whether a data role's codeword passes R92 for the patrol: its CRC, its KIND, and, while the journal holds the record of its place, the
namespace and LBA that gives (R92, R182, Table 7.7). -/
def State.roleGood (s : State) (id pos : Nat) (p : Payload) : Bool :=
  mdCrc p == plCrc p && decide (mdKind p < 7)
    && s.log.journal.all fun j =>
      let r := j.record
      !((r.type == 1 || r.type == 2) && r.arg == id && decide (r.pos ≤ pos ∧ pos ≤ r.pos + r.count))
        || (mdKind p == 0 && mdNs p == r.ns && mdLba p == r.lba + (pos - r.pos))

/-- Compare a stripe read whole (Table 7.7): the CRC and ADDR of each data role first, the syndromes second. -/
def State.compareStripe (s : State) (u i : Nat) : State :=
  let d := s.pl.data
  let twin := s.pl.parity == 2
  let got (r k : Nat) : Payload := ((s.reb.patrolGot.find? fun e => e.1 == r && e.2.1 == k).bind fun e => e.2.2).getD 0
  let ks := List.range 16
  let data (k : Nat) : List Payload := (List.range d).map fun r => got r k
  let sp (k : Nat) : Payload := got d k ^^^ parityP (data k)
  let sq (k : Nat) : Payload := if twin then got (d + 1) k ^^^ parityQ 0 (data k) else 0
  let id := stripeId i u (s.unit u).use
  let fails (r k : Nat) : Bool := !s.roleGood id (16 * r + k) (got r k)
  let bad := (List.range d).filter fun r => ks.any fun k => fails r k
  let spBad := ks.any fun k => sp k != 0
  let sqBad := ks.any fun k => sq k != 0
  let solve (lost : List Nat) (want : Nat) : List (Nat × Payload) := ks.filterMap fun k =>
    (solveRole d (((List.range s.roles).filter fun r => !lost.contains r).map fun r => (r, got r k)) lost want).map fun p => (k, p)
  let sound (r : Nat) (l : List (Nat × Payload)) : Bool := l.length == 16 && l.all fun e => s.roleGood id (16 * r + e.1) e.2
  let faulty := bad.flatMap fun r => match s.roleLoc u i r with
    | some l => (ks.filter fun k => fails r k).map fun k => locAt l k
    | none => []
  match bad with
  | [] =>
    if !spBad && !sqBad then s
    else if !sqBad then s.located u i d (ks.map fun k => (k, parityP (data k)))
    else if !spBad then s.located u i (d + 1) (ks.map fun k => (k, parityQ 0 (data k)))
    else match (List.range d).find? fun j => ks.all fun k => sq k == gfPow j (sp k) && (sp k).setWidth 33184 == 0 with
      | some j => s.located u i j (ks.map fun k => (k, got j k ^^^ sp k))
      | none => s.stripeBeyond u i [] []
  | [j] =>
    let l := solve [j] j
    if sound j l then s.located u i j l else s.stripeBeyond u i bad faulty
  | [j, m] =>
    let a := solve [j, m] j
    let b := solve [j, m] m
    if twin && sound j a && sound m b then (s.located u i j a).located u i m b else s.stripeBeyond u i bad faulty
  | _ => s.stripeBeyond u i bad faulty

/-- Check a row read whole: an XOR that is not zero while its stripes check is the XOR page set's (Table 7.7). A row with repair strips whose
owner stripes come later is kept for then (R178). -/
def State.compareRow (s : State) (u b row : Nat) : State :=
  let sets := s.rowSets u b row
  if sets.any fun l => s.ownerLater u l then
    s.onReb fun r => { r with patrolLate := if r.patrolLate.contains (u, b, row) then r.patrolLate else r.patrolLate ++ [(u, b, row)] }
  else
    let s0 := s.onReb fun r =>
      { r with patrolSeen := tabKeep (fun k _ => !sets.any fun l => l == pageSet (BitVec.ofNat 40 k)) r.patrolSeen
               patrolLate := r.patrolLate.filter (· != (u, b, row)) }
    let whole := sets.all fun l => (List.range 16).all fun k => (tabGet s.reb.patrolSeen (locAt l k).toNat).isSome
    let pages := s.rowPages u b row
    let lost := (pages ++ [s.xorPage u b row]).any fun l => s.placeLost l
    if lost ∨ !whole ∨ !s.rowXorValid u b row ∨ (sets.any fun l => s.reb.patrolBad.contains l) then s0
    else
      let used := sets.filter fun l => !s.failedAt u l && !s.deadAt u l
      let clean := (List.range 16).all fun k => xorAll (used.map fun l => (tabGet s.reb.patrolSeen (locAt l k).toNat).getD 0) == 0
      if clean then s0
      else
        let x := s.xorPage u b row
        let id := match tabGet s.reb.dirs u with
          | some d => stripeId 0 u d.use
          | none => 0
        (((s0.onHealth b fun h => { h with silent := satAdd 0xFFFFFFFF h.silent 1, silentCycle := h.silentCycle + 1 }).checkBay b).event
          0x607 8 id (0x100 + locDie x)).onUnit u fun y => { y with topScore := true }

/-- The rows kept for later whose last repair strip the patrol has now come past (R178). -/
def State.lateRows (s : State) : State :=
  let now := s.reb.patrolLate.filter fun x => !(s.rowSets x.1 x.2.1 x.2.2).any fun l => s.ownerLater x.1 l
  now.foldl (fun s x => s.compareRow x.1 x.2.1 x.2.2) (s.onReb fun r => { r with patrolLate := r.patrolLate.filter fun x => !now.contains x })

/-- Programmed codewords of the system blocks: stripe journal rings, root blocks and the used strike half (R178). -/
def State.sysCodewords (s : State) : List Loc :=
  s.sheet.media.filterMap fun e =>
    let l : Loc := BitVec.ofNat 40 e.1
    if s.locUnit l = none ∧ !s.placeLost l ∧ s.readable (locBay l) then some l else none

/-- What stands at the patrol's cursor: the codewords it has to read there. A unit's stripes come first, then its rows, then, past the
last unit, the system blocks. -/
def State.patrolTodo (s : State) : List (RdFor × Loc) :=
  let u := s.reb.patrolUnit
  let i := s.reb.patrolIndex
  match tabGet s.reb.dirs u with
  | some d =>
    if i < d.stripes then (s.patrolRoles u i).flatMap fun x => (List.range 16).map fun k => (.patrol u i x.1 k, locAt x.2 k)
    else match (s.patrolRows u)[i - d.stripes]? with
      | some (b, row) => ((s.rowSets u b row).filter fun l => !s.ownerLater u l).flatMap fun l =>
          (List.range 16).map fun k => (.patrolRow u row (locDie l) k, locAt l k)
      | none => []
  | none => if s.unitTotal ≤ u then s.sysCodewords.map fun l => (.patrolRow u 0 0 0, l) else []

/-- The patrol has read what stands at its cursor: it compares, and moves on; past the system blocks a new cycle begins, with its
SILENT monitors armed again (R178, R182, Table 8.10). -/
def State.patrolAdvance (s : State) : State :=
  let u := s.reb.patrolUnit
  let i := s.reb.patrolIndex
  let clear (s : State) : State := s.onReb fun r => { r with patrolGot := [], patrolRole := 0 }
  let nextUnit (s : State) : State := clear (s.onReb fun r =>
    { r with
      patrolUnit := match r.dirs.find? fun e => decide (u < e.1) with
        | some e => e.1
        | none => max (u + 1) s.unitTotal
      patrolIndex := 0 })
  match tabGet s.reb.dirs u with
  | some d =>
    if i < d.stripes then
      let whole := (s.patrolRoles u i).length == s.roles && s.reb.patrolGot.length == 16 * s.roles
        && s.reb.patrolGot.all fun e => e.2.2.isSome
      clear (((if whole then s.compareStripe u i else s).onReb fun r => { r with patrolIndex := i + 1 }).lateRows)
    else match (s.patrolRows u)[i - d.stripes]? with
      | some (b, row) => clear ((s.compareRow u b row).onReb fun r => { r with patrolIndex := i + 1 })
      | none => nextUnit s
  | none =>
    if s.unitTotal ≤ u then
      clear ((s.onReb fun r => { r with patrolUnit := 0, patrolIndex := 0, patrolCycleStart := s.now, patrolSeen := [], patrolBad := [], patrolLate := [] }).onMed
        fun m =>
          { m with
            reconCycle := []
            health := m.health.map fun h => { h with silentCycle := 0 }
            warns := (List.range 48).foldl (fun t b => tabMod t (warnKey 6 b 128) fun w => { w with armed := true }) m.warns })
    else nextUnit s

/-- Whether the cursor stands at a row of a unit: what its stripes' reads have given is not read again. -/
def State.rowStep (s : State) : Bool :=
  match tabGet s.reb.dirs s.reb.patrolUnit with
  | some d => decide (d.stripes ≤ s.reb.patrolIndex)
  | none => false

/-- Play the patrol's reads: at most `n` more codewords, one work unit each (R179), `fuel` steps in all. It waits at the end of a stripe or row for the reads in
flight, and for a batch that can take repairs. -/
def State.patrolRun : Nat → Nat → State → State
  | 0, _, s => s
  | fuel + 1, n, s =>
    let todo := s.patrolTodo
    match todo[s.reb.patrolRole]? with
    | some (user, loc) =>
      if n = 0 then s
      else
        let s1 := s.onReb fun r => { r with patrolRole := r.patrolRole + 1 }
        if s.rowStep ∧ (tabGet s.reb.patrolSeen loc.toNat).isSome then
          State.patrolRun fuel n s1
        else State.patrolRun fuel (n - 1) ((s1.chargeBack 7 1).readCw loc user false)
    | none => if s.patrolBusy ∨ !s.batchRoom 2 then s else State.patrolRun fuel n s.patrolAdvance

/-- Whether the patrol still has to read a programmed codeword in this cycle: it lies on no lost member, has not been read, and stands at or
behind the cursor: with its owner stripe for a repair strip, else with its unit (R178, R179). -/
def State.patrolAhead (s : State) (l : Loc) : Bool :=
  if s.placeLost l ∨ !s.readable (locBay l) ∨ (tabGet s.reb.patrolSeen l.toNat).isSome then false
  else match s.locUnit l with
    | none => true
    | some u =>
      if u < s.reb.patrolUnit then s.ownerLater u l
      else if s.reb.patrolUnit < u then true
      else match tabGet s.reb.dirs u with
        | some d => !(((s.patrolRows u).take (s.reb.patrolIndex - d.stripes)).contains (locBay l, s.locRow l)) || s.ownerLater u l
        | none => false

/-- Codewords left in the patrol's cycle: those ahead of it less those whose reads are issued (R179). -/
def State.patrolLeft (s : State) : Nat :=
  let ahead := s.sheet.media.filter fun e => s.patrolAhead (BitVec.ofNat 40 e.1)
  let issued := if s.unitTotal ≤ s.reb.patrolUnit then s.reb.patrolRole else (s.rd.jobs.filter fun e => e.2.user.isPatrol).length
  ahead.length - issued

/-- What the patrol asks for in this frame: the units left in the cycle over the frames left, at most BUDGET (R179). -/
def State.patrolAsk (s : State) : Nat :=
  let frames := s.setting 11 * 86400 * 1600000000 / 16384
  let gone := (s.now - s.reb.patrolCycleStart) / 16384
  let left := frames - gone
  let units := s.patrolLeft
  min (s.backLeft 7) (if left = 0 then units else (units + left - 1) / left)

/-- PATROL_ISSUE: the patrol issues its frame's codeword reads in cycle order, one work unit each, on the lease holder (R178, R179,
R182). -/
def execPatrolIssue (s : State) : Res State :=
  .next (
    if !s.awake ∨ !s.rebuildMay then s
    else
      State.patrolRun (s.patrolAsk + 1024) s.patrolAsk s)

end Sys2Proof.Machine
end

