-- ==== Sys2Proof/Machine/Sched.lean ====
section
/-! DEFINITION. Frames, slots, intake and admission: the meanings of the scheduling commands (chapters 2 and 3). -/

namespace Sys2Proof.Machine

/-- FRAME_BOUNDARY: the frame number rises, budgets are restored less debt, validated live settings take effect, the retention
clock counts a frame at 0.9999, the DRAM pointer alternates, and the intake pointer moves with the frame number (R26, R31, R47,
R58, R62, R351, R484); a checkpoint begins when the last is a second old (R102). -/
def execFrameBoundary (s : State) : Res State :=
  .next (
    if !s.awake then s
    else
      let s1 := s.onClk fun c => { c with frame := (c.frame + 1) % 2 ^ 64, slot := 0, dramNet := !c.dramNet }
      let s1 := s1.onMap fun m => { m with applied := 0 }
      let s2 := (s1.restoreBudgets.thermalGroups).onCip fun c => { c with rclkPs := c.rclkPs + 10238976 }
      ((s2.applyChanges.sealCharge.smartCheck).ckptAge).ckptStep)

/-! ### The slot tables (R27 to R29, R32, R60) -/

/-- Whether a shelf background lane has work of a class ready (Tables 2.3, 2.4). -/
def State.backReady (s : State) (lclass cls : Nat) : Bool :=
  if lclass = 4 then
    (cls == 4 && (s.log.ckpt.isSome || s.log.journal.any fun j => !j.written)) || (cls == 5 && !s.log.stripes.isEmpty)
      || (cls == 3 && !s.map.waits.isEmpty)
  else if lclass = 5 then (cls == 8 && tabAny (fun _ u => u.st == .victim) s.log.units)
      || (cls == 6 && tabAny (fun _ u => u.st == .erasing) s.log.units)
  else if lclass = 6 then cls == 9 && s.reb.st != .idle && s.reb.st != .held
  else if lclass = 7 then cls == 10 && !s.reb.dirs.isEmpty
  else false

/-- Whether an admitted command has work of a class ready (R32, R60, Table 2.3): its own class once no earlier overlapping command holds it
back, for a write once a unit has its data; the map fetch a read waits for and the Sheet responses its codewords await; the program
and the parity of a stripe that holds a write's sectors, and the mirror copy a write awaits. -/
def State.cmdReady (s : State) (ord : Nat) (c : Cmd) (cls : Nat) : Bool :=
  let mine (o : OpenStripe) : Bool := o.sectors.any fun x => mdKind x.payload == 0 && mdWseq x.payload == ord
  match c.kind with
  | .write =>
    (cls == 2 && c.seq && c.units.any (· == .whole)) || (cls == 0xB && c.allPlaced && !c.mirrored && s.ships)
      || (cls == 5 && s.log.stripes.any fun e => e.2.st == .programming && e.2.sectors.any fun x => mdWseq x.payload == ord)
      || (cls == 7 && s.log.streams.any fun x => (x.stripe.map mine).getD false)
  | .zeroes | .dsm => cls == 2 && c.seq
  | .read | .compare | .seal | .flush | .log | .bind =>
    (cls == 1 && c.seq && !(s.map.waits.any fun w => w.2 == .read ord)) || (cls == 3 && s.map.waits.any fun w => w.2 == .read ord)
      || (cls == 0xC && s.rd.jobs.any fun j => j.2.phase == .reading && (match j.2.user with
        | .host o _ => o == ord
        | _ => false))

/-- Whether a piece of admitted work is ready in a class. -/
def State.workReady (s : State) (w : Work) (cls : Nat) : Bool :=
  match w.ord.bind s.cmd with
  | some c => s.cmdReady (w.ord.getD 0) c cls
  | none => w.cls == cls

/-- Whether a lane has admitted work of a class ready (R32). -/
def State.laneReady (s : State) (l cls : Nat) : Bool :=
  (s.sched.work.any fun w => w.lane == l && s.workReady w cls)
    || (match s.laneEntry l with
      | some e => e.tenant == 0x7FF && s.backReady e.lclass cls
      | none => false)

/-- The shelf background lane that takes a slot nobody else takes: the one with the lowest number that has ready work of the class (R32,
R60). -/
def State.backTaker (s : State) (i : RigImage) (cls : Nat) : Option Nat :=
  ((i.lanes.filter fun e => e.2.tenant == 0x7FF && e.2.budget != 0 && s.backReady e.2.lclass cls).map (·.1)).min?

/-- The host lane of the ready work with the lowest order number of a class (R60). -/
def State.lowestTaker (s : State) (cls : Nat) : Option Nat :=
  let best := (s.sched.work.filter fun w => w.ord.isSome && s.workReady w cls).foldl (fun (b : Option Work) w =>
    match b with
    | none => some w
    | some x => if w.ord.getD 0 < x.ord.getD 0 then some w else some x) none
  best.map (·.lane)

/-- Who takes a granted slot: the owner, its spill list in order, then the background lanes of the class; class 0xD only Strike
(R29, R32, R33, R60). -/
def State.taker (s : State) (i : RigImage) (e : SlotEntry) : Option Nat :=
  if e.cls = 0xD then if s.log.strike = .running then some e.lane else none
  else if e.lane = 0x1FFF then
    match s.lowestTaker e.cls with
    | some l => some l
    | none => s.backTaker i e.cls
  else if s.laneReady e.lane e.cls then some e.lane
  else
    let spill := match s.laneEntry e.lane with
      | some x => (i.spill.drop x.spillOff).take x.spillLen
      | none => []
    match spill.find? fun l => s.laneReady l e.cls with
    | some l => some l
    | none => s.backTaker i e.cls

/-- SEQUENCER_SLOT: each Storage, Flash and crossbar sequencer plays its table's entries for the slot; a slot with no entry stays
idle, and one that lies behind in this frame is not played again (R27, R29, R32). The switch sequencer's cell times are SWITCH_MATCH's. -/
def execSequencerSlot (slot : Fin 16384) (s : State) : Res State :=
  .next (
    if slot.val < s.clk.slot then s else
    let s1 := s.onClk fun c => { c with slot := slot.val }
    match s.fn.committed with
    | some i =>
      if s.sequencing then
        let hit (e : SlotEntry) : Bool := decide (e.start ≤ slot.val ∧ slot.val ≤ e.start + e.length)
        let grants := (i.slotTables.filter fun t => t.seqId != 0x30).flatMap fun t =>
          (t.entries.filter hit).map fun e => (⟨t.seqId, e.resource, e.cls, e.lane, s1.taker i e⟩ : Grant)
        s1.onSched fun x => { x with grants := grants }
      else s1.onSched fun x => { x with grants := [] }
    | none => s1.onSched fun x => { x with grants := [] })

/-! ### Intake (R57 to R59, R80, R95, R116, R355) -/

/-- The first slot of the head of an input (R56, R58). -/
def State.firstSlot (s : State) (q : Nat) (h : Head) : Nat := max (h.visible + 1) (nth s.sched.lastTaken q 0 + 1)

/-- Insert a head behind those of the same first slot. -/
def insertHead (x : Nat × Nat) : List (Nat × Nat) → List (Nat × Nat)
  | [] => [x]
  | y :: t => if x.1 < y.1 then x :: y :: t else y :: insertHead x t

/-- The inputs whose heads are taken in this slot, in order: at most 8, the oldest first slot first, the scan beginning at
frame mod 18 (R58). -/
def State.intakeOrder (s : State) : List Nat :=
  let scan := (List.range 18).filterMap fun i =>
    let q := (s.clk.frame % 18 + i) % 18
    match nth s.sched.inputs q [] with
    | h :: _ => if s.firstSlot q h ≤ s.now then some (s.firstSlot q h, q) else none
    | [] => none
  ((scan.foldl (fun l x => insertHead x l) []).take 8).map (·.2)

/-- A visible command that cannot take an order number here completes with its path's ANA status (R54, R270). -/
def State.pathStatus (s : State) (h : Head) : State :=
  let s1 := s.returnCredit h.lane
  match h.src with
  | .qp q cid => s1.returnCqe q 0 (s1.anaCqe cid)
  | .peer n _ _ => s1.emit (.forwardCqe n (s1.anaCqe h.cap.cid) [])
  | .mbx m => s1.answer m (mkResp 0 (mbxStorage 3 s1.anaSc) 0)

/-- The kind of an overlap table entry, for the commands that have one (R80). -/
def ovKindOf : CmdKind → Option OvKind
  | .read => some .read
  | .write => some .write
  | .zeroes => some .zeroes
  | .compare => some .compare
  | .dsm => some .dealloc
  | .seal => some .read
  | .flush | .log | .bind => none

/-- The write stream a command goes to (R84): a Standard write of at least 128 KiB, or one that follows on from the last write,
goes to the cold stream. For a read, 1 when it counts as streaming in the cache (R116). -/
def State.streamOf (s : State) (kind : CmdKind) (ns lba len : Nat) : Nat :=
  match kind, s.nsEntry ns with
  | .write, some e =>
    if e.nsType = 0 ∧ (32 ≤ len ∨ tabGet s.sched.lastWrite ns = some lba) then e.stream1 else e.stream0
  | .read, _ => if 32 ≤ len ∨ tabGet s.sched.lastRead ns = some lba then 1 else 0
  | _, _ => 0

/-- The tenant whose counts a command raises, if it is a host's (Table 10.9). -/
def State.headTenant (s : State) (h : Head) : Option Nat :=
  match h.src with
  | .qp q _ => (s.qp q).tenant
  | .peer _ t _ => some t
  | .mbx _ => none

/-- A host's read or write is counted for its tenant (Table 10.9). -/
def State.countHost (s : State) (h : Head) (len : Nat) : State :=
  match s.headTenant h with
  | none => s
  | some t =>
    match h.kind with
    | .read | .compare =>
      s.onNvme fun n => { n with hostRead := tabUpd 0 n.hostRead t (· + 1), dataRead := tabUpd 0 n.dataRead t (· + len) }
    | .write =>
      s.onNvme fun n => { n with hostWrite := tabUpd 0 n.hostWrite t (· + 1), dataWritten := tabUpd 0 n.dataWritten t (· + len) }
    | _ => s

/-- First sector and length of the span of some ranges. -/
def spanOf (l : List (Nat × Nat)) : Nat × Nat :=
  let lo := l.foldl (fun a r => min a r.1) (l.headD (0, 0)).1
  (lo, l.foldl (fun a r => max a (r.1 + r.2)) lo - lo)

/-- A head is given the next order number and becomes a command (R58, R59): its overlap entry, its stream, its Ledger counter,
its place in a Ledger queue's order, and a Retention namespace's index entry. -/
def State.takeHead (s : State) (h : Head) : State :=
  let ord := s.sched.nextOrder
  let lba := match h.kind with
    | .dsm | .seal => (h.cap.ranges.headD (0, 0)).1
    | .read | .write | .zeroes | .compare => h.cap.slba
    | .flush | .log | .bind => 0
  let len := match h.kind with
    | .seal => (h.cap.ranges.headD (0, 0)).2
    | k => capLen k h.cap
  let srcCh := match h.src with
    | .qp q _ => (s.qp q).chain
    | .peer _ _ ch => ch
    | .mbx _ => none
  let chain := match srcCh with
    | some (ns, ch) => if h.kind = .write ∧ ns = h.ns then some ch else none
    | none => none
  let count := match chain with
    | some ch => (s.chain (chainKey h.ns ch)).next
    | none => 0
  let spent := chain.isSome && decide (0xFFFFFFFF < count)
  let c : Cmd :=
    { src := h.src, kind := h.kind, ns := h.ns, lba := lba, len := len, cap := h.cap, lane := h.lane, phase := .taken,
      seq := false, chain := if spent then none else chain, lcount := count, retClock := s.rclkMin,
      stream := s.streamOf h.kind h.ns lba len, fetched := h.data, fetchNext := 0, units := [], results := [], placedAt := 0,
      mirrored := false, mirrorLost := false, acked := false, status := none, orphan := false,
      marked := h.marked, key := none, readCap := s.readCap true }
  let s1 := s.onSched fun x =>
    { x with
      nextOrder := ord + 1
      cmds := tabPut x.cmds ord c
      overlap := match ovKindOf h.kind with
        | some k =>
          let span := if h.kind = .dsm then spanOf h.cap.ranges else (lba, len)
          tabPut x.overlap ord ⟨h.ns, span.1, span.2, k, false, []⟩
        | none => x.overlap
      lastRead := if h.kind = .read then tabPut x.lastRead h.ns (lba + len) else x.lastRead
      lastWrite := if h.kind = .write then tabPut x.lastWrite h.ns (lba + len) else x.lastWrite }
  let s2 := s1.countHost h len
  let s3 := match h.src with
    | .qp q _ => if srcCh.isSome then s2.onQp q fun x => { x with ledgerWait := x.ledgerWait ++ [(ord, none)] } else s2
    | _ => s2
  let s4 := match c.chain with
    | some ch => s3.onLog fun l =>
      { l with chains := tabPut l.chains (chainKey h.ns ch) { s3.chain (chainKey h.ns ch) with next := count + 1 } }
    | none => s3
  let ret : Bool := (h.kind == .write || h.kind == .zeroes) && (match s.nsEntry h.ns with
    | some e => e.nsType == 2
    | none => false)
  let s5 := if ret then s4.retAppend h.ns s.rclkMin ord else s4
  let s6 := if h.kind = .seal then
      let w := s5.freeNat
      match h.src with
      | .mbx m => w.2.onCip fun x => { x with seals := x.seals ++ [⟨m, h.ns, lba, len, ord, s.rclk, w.1⟩] }
      | _ => s5
    else s5
  let s7 := s6.onCmd ord fun c => { c with seq := !s6.mustWait ord c }
  if spent then (s7.returnCredit h.lane).finish ord 7 0xC4 false 0 else s7

/-- INTAKE_SLOT: at the start of a slot at most 8 visible heads are taken, at most one from each input, oldest first slot first,
and each takes the next order number (R56 to R59). A slot that lies behind in this frame has passed. A command that cannot be ordered here is answered with its path's status; while
Strike has stopped intake nothing is taken (R104). -/
def execIntakeSlot (slot : Fin 16384) (s : State) : Res State :=
  .next (
    if slot.val < s.clk.slot then s else
    let s1 := s.onClk fun c => { c with slot := slot.val }
    if !s.awake || s.sched.intakeStopped then s1
    else s1.intakeOrder.foldl (fun s q =>
      match nth s.sched.inputs q [] with
      | [] => s
      | h :: t =>
        let s2 := s.onSched fun x => { x with inputs := putNth x.inputs q t, lastTaken := putNth x.lastTaken q s.now }
        if s2.canOrder then s2.takeHead h else s2.pathStatus h) s1)

/-! ### Admission and sequence (R31, R57, R59) -/

/-- Work units of a command: one for each started 4 KiB of its length. A command without such a length (Dataset Management, Flush, a log or
a bind) costs none, and is admitted with none left (DESIGN CHOICE, notes/assumptions/49.md). A seal charges at most half of its lane's BUDGET in a
frame (R31, R358). -/
def Cmd.units4k (c : Cmd) (e : LaneEntry) : Nat := if c.kind = .seal then min c.len (e.budget / 2) else c.len

/-- The work class of an admitted command (Table 2.3). -/
def workClass : CmdKind → Nat
  | .write | .zeroes | .dsm => 2
  | .read | .compare | .seal | .flush | .log | .bind => 1

/-- The key slot a namespace's KEYSEL names, as it stands (R337, R349). -/
def State.keyNow (s : State) (ns : Nat) : Option (Nat × KeySlot) :=
  match s.nsEntry ns with
  | some e => let k := 4 * e.tenant + e.keysel; some (k, s.storeKey k)
  | none => none

/-- ADMISSION: a taken command enters its lane's service when the lane is out of debt and has budget for it, or at least one unit:
the excess becomes debt (R31). Its staging credit returns, and it keeps the key slot of this moment (R47, R57). -/
def execAdmission (ord : Nat) (s : State) : Res State :=
  .next (
    match s.cmd ord with
    | none => s
    | some c =>
      if c.phase ≠ .taken ∨ !s.sequencing ∨ s.pair.st = .lapsed then s
      else
        let letIn (s : State) (l charged : Nat) : State :=
          ((s.onCmd ord fun c =>
            { c with
              phase := .admitted, key := s.keyNow c.ns, readCap := s.readCap true
              fetchNext := if c.kind = .seal then charged else c.fetchNext }).onSched fun x =>
            { x with work := x.work ++ [⟨workClass c.kind, l, some ord⟩] }).returnCredit c.lane
        match c.lane with
        | none => letIn s 0x1FFF 0
        | some l =>
          match s.laneEntry l with
          | none => letIn s l 0
          | some e =>
            let u := c.units4k e
            let left := tabGetD s.sched.left l 0
            if tabGetD s.sched.debt l 0 ≠ 0 ∨ (left = 0 ∧ u ≠ 0) then s
            else
              letIn (s.onSched fun x =>
                { x with left := tabPut x.left l (left - u), debt := tabPutD 0 x.debt l (u - left) }) l u)

/-- OVERLAP_WAIT_END: the command goes on once every earlier overlapping command has taken effect (R59, R261). -/
def execOverlapWaitEnd (ord : Nat) (s : State) : Res State :=
  .next (
    match s.cmd ord with
    | some c => if c.seq ∨ s.mustWait ord c then s else s.onCmd ord fun c => { c with seq := true }
    | none => s)

end Sys2Proof.Machine
end

