-- ==== Sys2Proof/Machine/StartUp.lean ====
section
/-! DEFINITION. Resets and the start-up sequence (chapter 21). -/

namespace Sys2Proof.Machine

/-! ### Resets (R463, Table 21.1) -/

/-- What auxiliary power-on leaves of a port: what the shelf's records keep of the bay. A module latched LOST comes back as a returning
one (R161, Table 21.1). -/
def Port.powered (p : Port) : Port :=
  { Port.reset with
    serialOk := p.serialOk, needErase := p.needErase, erasedBack := p.erasedBack, returned := p.returned || p.latchedLost
    presentAtFormat := p.presentAtFormat }

/-- AUX_POWER_ON: auxiliary 12 V enters its window: the Bay Power Die runs, fuses are read, and start-up begins at step 1. Only stored data,
module epochs and the SPI NOR are kept (R463, Table 21.1). -/
def execAuxPowerOn (board : Board) (s : State) : Res State :=
  .next (
    if s.bpd.aux ∧ s.boot.step ≠ 1 then s
    else
      let s1 := s.dieReset
      { s1 with
        flt := FltSt.reset
        bpd := { BpdSt.reset with chans := s.bpd.chans.map fun c => { Chan.reset with pres := c.pres } }
        sheet := { s1.sheet with ports := s.sheet.ports.map Port.powered }
        boot := { s1.boot with board := board, svnFuses := max s.boot.svnFuses board.svnFuses, step := 1, tripHold := false } })

/-- MAIN_DIE_POWER_UP: a feed selector has left DOWN: the main die is powered up from step 3 (R463, Table 21.1). -/
def execMainDiePowerUp (s : State) : Res State :=
  .next (if s.bpd.aux && s.feedOn && s.bpd.mainReset then s.onBoot fun b => { b with step := 3 } else s)

/-- CHIP_RESET: the main die starts again at step 4; the Bay Power Die and the Crowsnest history are kept (R446, R463, Table 21.1). -/
def execChipReset (cause : ResetCause) (s : State) : Res State :=
  .next (
    let may : Bool := match cause with
      | .chipReset | .fwActivate => !s.flt.stopped
      | .fStop => s.flt.stopped && !s.flt.stuck
    if s.bpd.mainReset || !may then s else s.dieReset)

/-! ### Steps 4 to 8 (R465 to R468, R471, R472) -/

/-- Whether a firmware slot is valid for the boot ROM (R466). -/
def State.slotValid (s : State) (n : Nat) : Bool :=
  let x := if n = 2 then s.boot.slotB else s.boot.slotA
  x.valid && decide (s.boot.svnFuses ≤ x.svn)

/-- Step 4: the boot ROM boots the ACTIVE slot if it is valid, else the other; with neither the chip stays in boot ROM. A failed-boot count
of 3 makes the other slot ACTIVE, with an event; firmware counts the boot (R467, ES 0x638). -/
def State.bootRom (s : State) : State :=
  let back : Bool := decide (3 ≤ s.boot.failed)
  let active := if back then 3 - s.boot.active else s.boot.active
  let s1 := if back then
      (s.onBoot fun b => { b with active := active, failed := 0 }).event 0x638 8 (2 + 256 * active + 65536 * s.boot.active) s.boot.failed
    else s
  let pick := if s1.slotValid active then some active else if s1.slotValid (3 - active) then some (3 - active) else none
  match pick with
  | none => s1
  | some n => s1.onBoot fun b => { b with running := n, failed := b.failed + 1, step := 5 }

/-- Whether a cell may be withdrawn and start-up go on: LDPC and cipher cells (R468, Table 19.5). -/
def withdrawable (u : Nat) : Bool := decide (0x240 ≤ u ∧ u ≤ 0x29F ∨ 0x1C0 ≤ u ∧ u ≤ 0x1DF)

/-- A failure that start-up cannot go on with: an X fault of the region concerned, kept by the history, and a FENCED function (R468). -/
def State.testFault (s : State) (u : Nat) : State :=
  let w := FWord.fresh (mkWord 0 u classX 4 0)
  let r := s.recordWord w 2 true false
  let s1 := r.2.faultEvent w r.1
  let s2 := match nodeRegion u with
    | some n => if n < 3 then s1.fenceRegion n else s1
    | none => s1
  (s2.onFn fun f => { f with lanesOpen := false }).setFn .fenced 0

/-- Step 7: self-test. Cells that fail are withdrawn where that is allowed; every other failure fences. The failed-boot count ends (R467,
R468). -/
def State.selfTests (s : State) (fails : List (Nat × Nat)) : State :=
  let s1 := (fails.filter fun e => e.1 != 3).foldl (fun (s : State) (e : Nat × Nat) =>
    if withdrawable e.2 then s.withdraw e.2 else s.testFault e.2) (s.onBoot fun b => { b with failed := 0 })
  if s1.fn.st = .fenced then s1 else s1.onBoot fun b => { b with step := 8 }

/-- Step 8: the declaration copy is verified. Declared bays are enabled in ascending order; without a valid copy every bay with its
presence asserted, with default settings (R471, R472). -/
def State.enableBays (s : State) (ok : Bool) : State :=
  let s1 := match s.boot.declCopy with
    | some c =>
      if ok then (List.range 48).foldl (fun (s : State) b => if c.bays.getLsbD b then s.enableBay b else s) s
      else s.onBoot fun b => { b with declCopy := none }
    | none => s
  let s2 := if s1.boot.declCopy.isSome then s1
    else (List.range 48).foldl (fun (s : State) b =>
      if (s.chan b).pres then (s.onChan b fun c => { c with cfg := BayCfg.reset }).enableBay b else s) s1
  (List.range 48).foldl (fun (s : State) b => s.powerFollow b) (s2.onBoot fun b => { b with step := 9 })

/-! ### Step 9: what the shelf holds (R471, R473, R474) -/

/-- The root of the highest number that two copies hold. -/
def bestRoot (l : List RootFound) : Option RootFound :=
  (l.filter fun r => decide (2 ≤ r.copies)).foldl (fun (b : Option RootFound) r => match b with
    | some x => if x.number < r.number then some r else b
    | none => some r) none

/-- Whether exactly one SHELF_ID holds two readable root copies at the highest number. -/
def oneShelf (l : List RootFound) (r : RootFound) : Bool :=
  l.all fun x => !(decide (2 ≤ x.copies) && x.number == r.number) || x.shelfId == r.shelfId

/-- The cause for which start-up is refused when the roots and the copy are compared, 0 for none (R471, Table 21.8). A peer whose
function is RUNNING shares the shelf it is connected to. -/
def State.rootCause (s : State) (roots : List RootFound) : Nat :=
  match bestRoot roots, s.boot.declCopy with
  | none, none => 0x13
  | none, some _ => 0
  | some r, some c =>
    if r.shelfId = c.shelfId then (if r.rigGen < c.rigGen then 0x12 else 0) else if s.pair.peerFn = 3 then 0 else 0x12
  | some r, none => if s.pair.peerFn = 3 ∨ oneShelf roots r then 0 else 0x12

/-- Whether the image found on the shelf is the one the root names, or without a root the copy, and passes loader checks 1, 2 and 4
(R471, cause 0x14). -/
def State.imageOk (s : State) (roots : List RootFound) (i : RigImage) : Bool :=
  let named : Bool := match bestRoot roots, s.boot.declCopy with
    | some r, _ => i.shelfId == r.shelfId && i.rigGen == r.rigGen
    | none, some c => i.shelfId == c.shelfId && i.rigGen == c.rigGen
    | none, none => false
  -- the committed image is the durable root's, whole: no other of its generation is it (R43)
  let whole : Bool := match s.log.rootImage with
    | some x => x.rigGen != i.rigGen || x.shelfId != i.shelfId || decide (x = i)
    | none => true
  named && whole && !i.bad1 && !i.bad2 && !s.bad4 i

/-- Start-up is refused: the function is STOPPED, or EMPTY for cause 0x13, with the cause in an event (R474, ES 0x600). -/
def State.refuse (s : State) (cause : Nat) : State :=
  let s1 := (s.onFn fun f => { f with refusal := cause }).onBoot fun b => { b with step := 10 }
  let s2 := s1.onPair fun p => { p with initSince := s.now }
  if cause = 0x13 then s2.eventState 0x600 0 0 cause 0 else s2.setFn .stopped cause

/-- The committed image is known: routing starts from its section 0x000E, the copy names it, and what was verified without it is verified
again (R450, R471, R473). After a restart with the history preserved the trigger's event is raised (R446). -/
def State.imageFound (s : State) (i : RigImage) : State :=
  let s1 := (s.onFn fun f => { f with committed := some i }).onLog fun l => { l with rootImage := some i }
  let s2 := (s1.onBoot fun b => { b with declCopy := some ⟨i.shelfId, i.rigGen, i.decl.bayMask⟩ }).onMgmt fun g =>
    { g with routes := (i.routes.map fun r => r.routes.foldl (fun (t : Tab Nat) e => tabPut t e.1 e.2) []).getD [] }
  let s3 := if !s.flt.preserved then s2 else match s.flt.history.find? fun e => e.flags.getLsbD 0 with
    | some e => s2.faultEvent { FWord.fresh e.word with merged := e.merged } e.seq
    | none => s2
  (List.range 48).foldl (fun (s : State) b =>
    match (s.port b).modSt, (s.port b).desc with
    | .ready, some d => if s.bayDeclared b then s.identify b d else s.foreign b
    | _, _ => s) s3

/-- Step 9: descriptors verified, roots and image read; start-up is refused, or waits on a new shelf for a format image, or goes on (R471,
R474, Table 21.8). -/
def State.shelfRead (s : State) (roots : List RootFound) (image : Option RigImage) (readable : Bool) : State :=
  if roots.isEmpty ∧ s.boot.declCopy.isNone then
    (s.onBoot fun b => { b with step := 14 }).onPair fun p => { p with initSince := s.now }
  else
    let c := s.rootCause roots
    if c ≠ 0 then s.refuse c
    else match image with
    | none => s.refuse 0x14
    | some i =>
      if !readable ∨ !s.imageOk roots i then s.refuse 0x14
      else
        let s1 := s.imageFound i
        if s.boot.board.dramGib < i.decl.dramMin then s1.refuse 0x10
        else if s1.readyCount < i.decl.minBays then s1.refuse 0x11
        else
          ((s1.onBoot fun b => { b with step := 10 }).onPair fun p => { p with initSince := s.now }).setFn .stopped 0

/-! ### Steps 10 to 13 (R373, R381, R473, R476) -/

/-- Whether the controller hears a holder: it joins, or has joined, rather than takes ("Peer meets start-up"). -/
def State.joined (s : State) : Bool := s.pair.st == .joining || s.pair.st == .standby

/-- Declared bays that held a module's data and are ABSENT or FOREIGN enter the loss set (R160, R473). -/
def State.missingBays (s : State) : State :=
  s.bays.foldl (fun (s : State) b =>
    let p := s.port b
    if (p.modSt == .absent || p.modSt == .foreign) && p.serialOk.isSome && !s.bayLost b then s.addLoss (.bay b) else s) s

/-- Step 12 ends: the committed image runs, its counter programming with it, and the function is ARMED (R87, R456, R473). -/
def State.loaded (s : State) : State :=
  let s1 := s.onFn fun f => { f with rules := f.committed.map (·.cls), lanesOpen := false }
  let s2 := s1.armCounters (s1.fn.committed.bind (·.pmc))
  let s3 := if s2.holder then s2.missingBays else s2
  (((s3.setFn .armed 0).checkStrike).resumeRebuild).onBoot fun b => { b with step := 13 }

/-- Step 13 ends: a joined controller's function runs, and it is the standby once it holds what the active sent; an image with RAISE_SVN
raises the fuses (R381, R467, Table 15.2). -/
def State.startEnd (s : State) : State :=
  let s1 := if s.joined ∧ s.fn.st = .armed then
      let t := s.tcEmpty.setFn .running 0
      if t.pair.st = .joining ∧ t.pair.resync = 1 then t.setPair .standby else t
    else s
  let fw := if s1.boot.running = 2 then s1.boot.slotB else s1.boot.slotA
  s1.onBoot fun b => { b with step := 14, svnFuses := if fw.raiseSvn then max b.svnFuses fw.svn else b.svnFuses }

/-- START_UP_STEP_END: the present step of Table 21.2 ends, if what it waits for is there, and the next begins (R464). Step 14 stands for
start-up being over. -/
def execStartUpStepEnd (env : StepEnv) (s : State) : Res State :=
  let goTo (s : State) (n : Nat) : State := s.onBoot fun b => { b with step := n }
  .next (
    if !s.bpd.aux then s
    else match s.boot.step with
    | 1 => goTo s 2
    | 2 => if s.feedOn then goTo s 3 else s
    | 3 => if s.bpd.mainReset then s else goTo s 4
    | n =>
      if !s.awake ∨ s.fn.st = .fenced then s
      else match n with
      | 4 => if s.boot.tripHold then s else s.bootRom
      | 5 => (goTo s 6).onCip fun c => { c with shelfKey := s.boot.shelfKeyNor }
      | 6 => match env with
        | .dram gib => (goTo s 7).onBoot fun b => { b with board := { b.board with dramGib := gib } }
        | _ => goTo s 7
      | 7 => match env with
        | .selfTest fails => s.selfTests fails
        | _ => s.selfTests []
      | 8 => match env with
        | .declCopy ok => s.enableBays ok
        | _ => s.enableBays true
      | 9 => match env with
        | .shelf roots image readable => s.shelfRead roots image readable
        | _ => s
      | 10 =>
        if s.joined then
          if s.fn.refusal = 0 ∨ s.fn.refusal = 0x11 then (goTo s 11).onFn fun f => { f with refusal := 0 } else s
        else if s.fn.refusal = 0 ∧ s.pair.st = .taking ∧ s.pair.takeStep = 3 ∧ !(s.sheet.ports.any fun p => p.modSt == .fencing) then goTo s 11
        else s
      | 11 =>
        if s.joined then (if s.pair.resync = 1 then goTo s 12 else s)
        else if s.pair.st = .taking ∧ 6 ≤ s.pair.takeStep then
          (goTo s 12).onFn fun f => { f with stoppedByCmd := (s.log.root.map (·.stopped)).getD false }
        else s
      | 12 => if s.joined ∨ (s.pair.st = .taking ∧ s.pair.takeStep = 7 ∧ s.log.ckpt.isNone) then s.loaded else s
      | 13 => if s.pair.st = .taking then s else s.startEnd
      | _ => s)

end Sys2Proof.Machine
end

