-- ==== Sys2Proof/Machine/SysCmds.lean ====
section
/-! DEFINITION. The power, pair, firmware and diagnostic commands of Table 18.10 (R376, R386, R435, R466 to R468). -/

namespace Sys2Proof.Machine

/-! ### Hold-up test and power status (R386, R435) -/

/-- PWR_HOLDTEST: a hold-up test on the selected feed, answered when it ends; CONDITION 1 unless that feed is good. A test already
running is waited for, and one that a feed loss abandoned is tried again (R386, R435). -/
def execPwrHoldtest (h : MbxHdr) (s : State) : Res State :=
  let m := h.mbx.val
  let go (s : State) : State :=
    if s.bpd.testBusy then s
    else if s.selGood then s.onBpd fun b => { b with testBusy := true, testMbx := some m }
    else s.mbxFail m 9 1
  .next (s.mbxRun h { op := 0x0905, states := stR430 } go go)

/-- PWR_STATUS: the Bay Power Die's status registers (Tables 16.9 to 16.12 and 18.10). -/
def execPwrStatus (h : MbxHdr) (s : State) : Res State :=
  .next (s.mbxRun h { op := 0x0906 } (fun s =>
    s.mbxOk h.mbx.val (leBytes 4 s.bpdStatusReg ++ leBytes 4 s.bpdFeedReg ++ leBytes 4 s.bpdHoldupReg
      ++ (List.range 48).flatMap fun b => leBytes 4 (s.chan b).statusReg)) id)

/-! ### The pair (R364, R365, R368, R376, R378) -/

/-- Lease left in microseconds: to the expiry of a granted lease, all ones for a self-held one, and for a non-holder the time until its
promise ends (R364, R365, R368, Table 18.10). -/
def State.leaseLeft (s : State) : Nat :=
  let left (t : Nat) : Nat := min 0xFFFFFFFE ((t - s.now) / us 1)
  match s.pair.hold with
  | .self => 0xFFFFFFFF
  | .granted => left s.pair.expiry
  | .no => if s.pair.lastGranted then left (s.pair.lastRenew + s.leaseLen + s.takerGuard) else 0

/-- PAIR_STATUS: pair states, shrouds, TERM, lease left and both REACH masks (Tables 15.1 and 18.10). -/
def execPairStatus (h : MbxHdr) (s : State) : Res State :=
  .next (s.mbxRun h { op := 0x0A01 } (fun s =>
    s.mbxOk h.mbx.val (leBytes 1 (pairCode s.pair.st) ++ leBytes 1 ((s.pair.peerState.map pairCode).getD 0) ++ leBytes 1 (b2n !s.pair.shA.lost)
      ++ leBytes 1 (b2n !s.pair.shB.lost) ++ leBytes 8 s.pair.term ++ leBytes 4 s.leaseLeft ++ leBytes 8 s.reach.toNat
      ++ leBytes 8 s.pair.peerReach.toNat)) id)

/-- PAIR_SWAP: a planned swap starts, or the first unmet condition of R376 is named (R376, R435). -/
def execPairSwap (h : MbxHdr) (s : State) : Res State :=
  let m := h.mbx.val
  .next (s.mbxRun h { op := 0x0A02, states := [.running], holder := true } (fun s =>
    if !s.active then s.mbxFail m 9 1
    else if s.swapLack ≠ 0 then s.mbxFail m 9 s.swapLack
    else (s.beginSwap).mbxOk m []) id)

/-! ### Firmware (R435, R465 to R467) -/

/-- Whether a firmware image is valid (R9, R466). -/
def State.fwValid (s : State) (i : FwImage) : Bool :=
  i.magicOk && i.fmt == 1 && i.stepping == 0xB0 && decide (i.length ≤ 2 ^ 24 - 512) && i.digestOk && i.sigOk && decide (i.keyId < 4)
    && !s.boot.board.revoked.contains i.keyId && decide (s.boot.svnFuses ≤ i.svn ∧ i.svn ≤ 64) && i.reserved == 0

/-- The offset of a SLOT that is neither 1 nor 2 (R435). -/
def badFwSlot (slot : Nat) : Option Nat := if slot = 1 ∨ slot = 2 then none else some 0x20

/-- FW_DOWNLOAD: a verified image is written into the slot that is not running; one that fails verification leaves the slot's
contents (R435, R466). -/
def execFwDownload (h : MbxHdr) (slot : Nat) (image : FwImage) (s : State) : Res State :=
  let m := h.mbx.val
  let sp : MbxSpec :=
    { op := 0x0B01, states := stR430, dataIn := true, bad := firstOff [badFwSlot slot, if slot = s.boot.running then some 0x20 else none] }
  .next (s.mbxRun h sp (fun s =>
    if !s.fwValid image then s.mbxFail m 7 3
    else
      let x : FwSlot := { valid := true, build := image.build, fwIf := image.fwIf, svn := image.svn, raiseSvn := image.raiseSvn }
      (s.onBoot fun b => if slot = 2 then { b with slotB := x } else { b with slotA := x }).mbxOk m []) id)

/-- FW_ACTIVATE: ACTIVE is set; with RESTART 1 the chip restarts within 1 ms of the answer, as CHIP_RESET (R435, R467). -/
def execFwActivate (h : MbxHdr) (slot : Nat) (restart : Nat) (s : State) : Res State :=
  let sp : MbxSpec :=
    { op := 0x0B02, states := if restart = 1 then [.empty, .stopped] else stR430
      bad := firstOff [badFwSlot slot, if 1 < restart then some 0x21 else none] }
  .next (s.mbxRun h sp (fun s => ((s.onBoot fun b => { b with active := slot }).sdtChange 3).mbxOk h.mbx.val []) id)

/-- FW_INFO: the running slot, and the builds and interfaces of both slots (Table 18.10). -/
def execFwInfo (h : MbxHdr) (s : State) : Res State :=
  .next (s.mbxRun h { op := 0x0B03 } (fun s =>
    s.mbxOk h.mbx.val (leBytes 1 s.boot.running ++ leBytes 7 0 ++ leBytes 8 s.boot.slotA.build.toNat ++ leBytes 8 s.boot.slotB.build.toNat
      ++ leBytes 4 s.boot.slotA.fwIf.toNat ++ leBytes 4 s.boot.slotB.fwIf.toNat)) id)

/-! ### Diagnostics (R468) -/

/-- DIAG_ECHO: the bytes come back (Table 18.10). -/
def execDiagEcho (h : MbxHdr) (bytes : List (BitVec 8)) (s : State) : Res State :=
  .next (s.mbxRun h { op := 0x0D01, bad := if 3952 < bytes.length then some 4 else none } (fun s => s.mbxOk h.mbx.val bytes) id)

/-- The result word of a self-test: pass, or fail with the first failing unit (Table 21.5). -/
def selfTestWord (fails : List (Nat × Nat)) (bit : Nat) : Nat :=
  match fails.find? fun e => e.1 == bit with
  | some e => 1 + 256 * (e.2 % 4096)
  | none => 0

/-- DIAG_SELFTEST: the tests of MASK, four bytes each (R468, Table 21.5). -/
def execDiagSelftest (h : MbxHdr) (mask : BitVec 32) (fails : List (Nat × Nat)) (s : State) : Res State :=
  let sp : MbxSpec := { op := 0x0D02, states := [.empty, .stopped], bad := if mask.toNat < 512 then none else some 0x20 }
  .next (s.mbxRun h sp (fun s =>
    s.mbxOk h.mbx.val ((List.range 9).flatMap fun b => if mask.getLsbD b then leBytes 4 (selfTestWord fails b) else [])) id)

end Sys2Proof.Machine
end

