-- ==== Sys2Proof/Machine/Dispatch.lean ====
section
/-! DEFINITION. The dispatcher: each command has one arm, a direct call of its meaning. -/

namespace Sys2Proof.Machine

def exec (i : Instr) (s : State) : Host.Outcome State Fault Refusal :=
  match i with
  | .auxPowerOn board => Sys2Proof.Machine.execAuxPowerOn board s
  | .mainDiePowerUp => Sys2Proof.Machine.execMainDiePowerUp s
  | .chipReset cause => Sys2Proof.Machine.execChipReset cause s
  | .startUpStepEnd env => Sys2Proof.Machine.execStartUpStepEnd env s
  | .frameBoundary => Sys2Proof.Machine.execFrameBoundary s
  | .sequencerSlot slot => Sys2Proof.Machine.execSequencerSlot slot s
  | .intakeSlot slot => Sys2Proof.Machine.execIntakeSlot slot s
  | .admission ord => Sys2Proof.Machine.execAdmission ord s
  | .overlapWaitEnd ord => Sys2Proof.Machine.execOverlapWaitEnd ord s
  | .switchMatch cell => Sys2Proof.Machine.execSwitchMatch cell s
  | .frontFrameRx port sub f => Sys2Proof.Machine.execFrontFrameRx port sub f s
  | .classify port pseq => Sys2Proof.Machine.execClassify port pseq s
  | .reorderRelease port => Sys2Proof.Machine.execReorderRelease port s
  | .fragmentEntryExpiry key => Sys2Proof.Machine.execFragmentEntryExpiry key s
  | .fragmentParkTimeout port pseq => Sys2Proof.Machine.execFragmentParkTimeout port pseq s
  | .controlPortFrame port kind => Sys2Proof.Machine.execControlPortFrame port kind s
  | .ruleUpdatePortStep lport => Sys2Proof.Machine.execRuleUpdatePortStep lport s
  | .pfcFrameRx port sub prios quanta => Sys2Proof.Machine.execPfcFrameRx port sub prios quanta s
  | .pfcPauseExpiry port sub prio => Sys2Proof.Machine.execPfcPauseExpiry port sub prio s
  | .pfcXoffRepeat port sub prio => Sys2Proof.Machine.execPfcXoffRepeat port sub prio s
  | .frontLinkChange port up => Sys2Proof.Machine.execFrontLinkChange port up s
  | .cmRequest req => Sys2Proof.Machine.execCmRequest req s
  | .cmReadyToUse q => Sys2Proof.Machine.execCmReadyToUse q s
  | .cmRejectRx q => Sys2Proof.Machine.execCmRejectRx q s
  | .cmDisconnect q => Sys2Proof.Machine.execCmDisconnect q s
  | .connectingTimeout q => Sys2Proof.Machine.execConnectingTimeout q s
  | .timewaitExpiry q => Sys2Proof.Machine.execTimewaitExpiry q s
  | .qpFlushComplete q => Sys2Proof.Machine.execQpFlushComplete q s
  | .rdmaSendRx h c => Sys2Proof.Machine.execRdmaSendRx h c s
  | .rdmaAckRx h msn code => Sys2Proof.Machine.execRdmaAckRx h msn code s
  | .rdmaNakRx h kind => Sys2Proof.Machine.execRdmaNakRx h kind s
  | .rdmaReadResponseRx h bytes payload => Sys2Proof.Machine.execRdmaReadResponseRx h bytes payload s
  | .rdmaOpcodeRefused h opcode => Sys2Proof.Machine.execRdmaOpcodeRefused h opcode s
  | .cnpRx h => Sys2Proof.Machine.execCnpRx h s
  | .capsuleToIntake q delay => Sys2Proof.Machine.execCapsuleToIntake q delay s
  | .rdmaReadIssue q => Sys2Proof.Machine.execRdmaReadIssue q s
  | .readDataToHost ord => Sys2Proof.Machine.execReadDataToHost ord s
  | .rdmaRequestGapTimer q => Sys2Proof.Machine.execRdmaRequestGapTimer q s
  | .rdmaResponseGapTimer q => Sys2Proof.Machine.execRdmaResponseGapTimer q s
  | .rdmaAckTimeout q => Sys2Proof.Machine.execRdmaAckTimeout q s
  | .rdmaAckCoalesceTimer q => Sys2Proof.Machine.execRdmaAckCoalesceTimer q s
  | .rdmaRnrRetryTimer q => Sys2Proof.Machine.execRdmaRnrRetryTimer q s
  | .rateIncreaseTimer q => Sys2Proof.Machine.execRateIncreaseTimer q s
  | .txCirWindow tenant sent held => Sys2Proof.Machine.execTxCirWindow tenant sent held s
  | .read ord => Sys2Proof.Machine.execRead ord s
  | .write ord => Sys2Proof.Machine.execWrite ord s
  | .flush ord => Sys2Proof.Machine.execFlush ord s
  | .writeZeroes ord => Sys2Proof.Machine.execWriteZeroes ord s
  | .compare ord => Sys2Proof.Machine.execCompare ord s
  | .datasetManagement ord => Sys2Proof.Machine.execDatasetManagement ord s
  | .identify q => Sys2Proof.Machine.execIdentify q s
  | .getLogPage ref => Sys2Proof.Machine.execGetLogPage ref s
  | .setFeatures q => Sys2Proof.Machine.execSetFeatures q s
  | .getFeatures q => Sys2Proof.Machine.execGetFeatures q s
  | .asynchronousEventRequest q => Sys2Proof.Machine.execAsynchronousEventRequest q s
  | .keepAlive q => Sys2Proof.Machine.execKeepAlive q s
  | .abort q => Sys2Proof.Machine.execAbort q s
  | .connect q => Sys2Proof.Machine.execConnect q s
  | .propertyGet q => Sys2Proof.Machine.execPropertyGet q s
  | .propertySet q => Sys2Proof.Machine.execPropertySet q s
  | .ccEnClearComplete ctl => Sys2Proof.Machine.execCcEnClearComplete ctl s
  | .disconnect q => Sys2Proof.Machine.execDisconnect q s
  | .ledgerBind ord => Sys2Proof.Machine.execLedgerBind ord s
  | .nvmeUnsupportedOpcode q => Sys2Proof.Machine.execNvmeUnsupportedOpcode q s
  | .keepAliveTimeout ctl => Sys2Proof.Machine.execKeepAliveTimeout ctl s
  | .queueReservation handle tenant entries => Sys2Proof.Machine.execQueueReservation handle tenant entries s
  | .forwardCommand f => Sys2Proof.Machine.execForwardCommand f s
  | .forwardCompletionRx handle cqe => Sys2Proof.Machine.execForwardCompletionRx handle cqe s
  | .forwardRecall handle => Sys2Proof.Machine.execForwardRecall handle s
  | .writePlace ord unit => Sys2Proof.Machine.execWritePlace ord unit s
  | .mirrorConfirm ord => Sys2Proof.Machine.execMirrorConfirm ord s
  | .mirrorTimeout ord => Sys2Proof.Machine.execMirrorTimeout ord s
  | .mirrorDataRx stream payload => Sys2Proof.Machine.execMirrorDataRx stream payload s
  | .logShipRecordRx r => Sys2Proof.Machine.execLogShipRecordRx r s
  | .stripeDeadline stream => Sys2Proof.Machine.execStripeDeadline stream s
  | .journalPageTimer => Sys2Proof.Machine.execJournalPageTimer s
  | .sheetResponse bay tag code res => Sys2Proof.Machine.execSheetResponse bay tag code res s
  | .mapUpdateApply stripe wseq => Sys2Proof.Machine.execMapUpdateApply stripe wseq s
  | .mapFetchComplete mpn => Sys2Proof.Machine.execMapFetchComplete mpn s
  | .ldpcDecodeDone job d => Sys2Proof.Machine.execLdpcDecodeDone job d s
  | .probeIssue => Sys2Proof.Machine.execProbeIssue s
  | .tcFillComplete la => Sys2Proof.Machine.execTcFillComplete la s
  | .tcWritebackTimer => Sys2Proof.Machine.execTcWritebackTimer s
  | .tcLockWaysWrite value => Sys2Proof.Machine.execTcLockWaysWrite value s
  | .tcLockChangeDone => Sys2Proof.Machine.execTcLockChangeDone s
  | .tcWayPwrWrite value => Sys2Proof.Machine.execTcWayPwrWrite value s
  | .tcGroupPowerDownDone g => Sys2Proof.Machine.execTcGroupPowerDownDone g s
  | .tcGroupPowerUpDone g => Sys2Proof.Machine.execTcGroupPowerUpDone g s
  | .tcInvalidate op => Sys2Proof.Machine.execTcInvalidate op s
  | .tcClean op => Sys2Proof.Machine.execTcClean op s
  | .tcCleanInvalidate op => Sys2Proof.Machine.execTcCleanInvalidate op s
  | .tcPreload op => Sys2Proof.Machine.execTcPreload op s
  | .tcPreloadLock op => Sys2Proof.Machine.execTcPreloadLock op s
  | .tcRangeDone => Sys2Proof.Machine.execTcRangeDone s
  | .reclaimVictimSelect => Sys2Proof.Machine.execReclaimVictimSelect s
  | .relocation loc => Sys2Proof.Machine.execRelocation loc s
  | .reclaimErase unit => Sys2Proof.Machine.execReclaimErase unit s
  | .checkpointStart => Sys2Proof.Machine.execCheckpointStart s
  | .strikeTrigger => Sys2Proof.Machine.execStrikeTrigger s
  | .repairBatchAdvance => Sys2Proof.Machine.execRepairBatchAdvance s
  | .rebuildStep => Sys2Proof.Machine.execRebuildStep s
  | .rebuildRetryTimer => Sys2Proof.Machine.execRebuildRetryTimer s
  | .journalCopyPlaced bay => Sys2Proof.Machine.execJournalCopyPlaced bay s
  | .sweepStep => Sys2Proof.Machine.execSweepStep s
  | .patrolIssue => Sys2Proof.Machine.execPatrolIssue s
  | .rewriteIssue => Sys2Proof.Machine.execRewriteIssue s
  | .ageClockTick bay reading => Sys2Proof.Machine.execAgeClockTick bay reading s
  | .blockRecordScan => Sys2Proof.Machine.execBlockRecordScan s
  | .wearCheck => Sys2Proof.Machine.execWearCheck s
  | .junctionSample => Sys2Proof.Machine.execJunctionSample s
  | .trainingAttempt bay => Sys2Proof.Machine.execTrainingAttempt bay s
  | .lanesAligned bay lane0 lane1 => Sys2Proof.Machine.execLanesAligned bay lane0 lane1 s
  | .trainingTimeout bay => Sys2Proof.Machine.execTrainingTimeout bay s
  | .sheetInitSendTimer bay => Sys2Proof.Machine.execSheetInitSendTimer bay s
  | .sheetInitRx bay idx => Sys2Proof.Machine.execSheetInitRx bay idx s
  | .sheetFrameRx bay h => Sys2Proof.Machine.execSheetFrameRx bay h s
  | .sheetDataRx bay tag index payload => Sys2Proof.Machine.execSheetDataRx bay tag index payload s
  | .sheetAckRx bay ack => Sys2Proof.Machine.execSheetAckRx bay ack s
  | .sheetNakRx bay ack => Sys2Proof.Machine.execSheetNakRx bay ack s
  | .sheetCreditRx bay cmd data => Sys2Proof.Machine.execSheetCreditRx bay cmd data s
  | .sheetAckTimer bay => Sys2Proof.Machine.execSheetAckTimer bay s
  | .sheetReplayTimer bay => Sys2Proof.Machine.execSheetReplayTimer bay s
  | .sheetRead bay c nand => Sys2Proof.Machine.execSheetRead bay c nand s
  | .sheetProgram bay c frames nand => Sys2Proof.Machine.execSheetProgram bay c frames nand s
  | .sheetErase bay c nand => Sys2Proof.Machine.execSheetErase bay c nand s
  | .sheetStatus bay c => Sys2Proof.Machine.execSheetStatus bay c s
  | .getParam bay c => Sys2Proof.Machine.execGetParam bay c s
  | .setParam bay c => Sys2Proof.Machine.execSetParam bay c s
  | .descRead bay c => Sys2Proof.Machine.execDescRead bay c s
  | .temp bay c => Sys2Proof.Machine.execTemp bay c s
  | .dieReset bay c => Sys2Proof.Machine.execDieReset bay c s
  | .powerState bay c => Sys2Proof.Machine.execPowerState bay c s
  | .fence bay c => Sys2Proof.Machine.execFence bay c s
  | .sheetOpTimeout bay tag => Sys2Proof.Machine.execSheetOpTimeout bay tag s
  | .fenceTimeout bay => Sys2Proof.Machine.execFenceTimeout bay s
  | .tagRequeryTimer bay tag => Sys2Proof.Machine.execTagRequeryTimer bay tag s
  | .sheetStatusPoll => Sys2Proof.Machine.execSheetStatusPoll s
  | .laneErrPoll => Sys2Proof.Machine.execLaneErrPoll s
  | .unreachableTimeout bay => Sys2Proof.Machine.execUnreachableTimeout bay s
  | .presenceChange bay present => Sys2Proof.Machine.execPresenceChange bay present s
  | .feedWindowChange f inWindow decivolts => Sys2Proof.Machine.execFeedWindowChange f inWindow decivolts s
  | .feedLost f => Sys2Proof.Machine.execFeedLost f s
  | .feedGood f => Sys2Proof.Machine.execFeedGood f s
  | .pathConfirmedOff => Sys2Proof.Machine.execPathConfirmedOff s
  | .pathConfirmTimeout => Sys2Proof.Machine.execPathConfirmTimeout s
  | .feedReturnTimer => Sys2Proof.Machine.execFeedReturnTimer s
  | .downRestartTimer => Sys2Proof.Machine.execDownRestartTimer s
  | .holdupPeerTimer => Sys2Proof.Machine.execHoldupPeerTimer s
  | .busBelowHoldMin => Sys2Proof.Machine.execBusBelowHoldMin s
  | .holdupTestStart why => Sys2Proof.Machine.execHoldupTestStart why s
  | .holdupTestEnd milliamps v0Mv droopMv micros => Sys2Proof.Machine.execHoldupTestEnd milliamps v0Mv droopMv micros s
  | .insertionDelayExpiry bay => Sys2Proof.Machine.execInsertionDelayExpiry bay s
  | .channelPowerGood bay => Sys2Proof.Machine.execChannelPowerGood bay s
  | .fastTrip bay => Sys2Proof.Machine.execFastTrip bay s
  | .soaTimeout bay => Sys2Proof.Machine.execSoaTimeout bay s
  | .rampTimeout bay => Sys2Proof.Machine.execRampTimeout bay s
  | .pgLost bay => Sys2Proof.Machine.execPgLost bay s
  | .cooldownExpiry bay => Sys2Proof.Machine.execCooldownExpiry bay s
  | .fetFaultTimer bay => Sys2Proof.Machine.execFetFaultTimer bay s
  | .railPowerGood k => Sys2Proof.Machine.execRailPowerGood k s
  | .railPgTimeout => Sys2Proof.Machine.execRailPgTimeout s
  | .railRetryTimer => Sys2Proof.Machine.execRailRetryTimer s
  | .railPgLost k => Sys2Proof.Machine.execRailPgLost k s
  | .refclkSysLoss => Sys2Proof.Machine.execRefclkSysLoss s
  | .junctionSensorRead values => Sys2Proof.Machine.execJunctionSensorRead values s
  | .thermalLevelChange => Sys2Proof.Machine.execThermalLevelChange s
  | .renewTimer => Sys2Proof.Machine.execRenewTimer s
  | .renewRx sh m => Sys2Proof.Machine.execRenewRx sh m s
  | .grantRx sh m => Sys2Proof.Machine.execGrantRx sh m s
  | .releaseRx sh m => Sys2Proof.Machine.execReleaseRx sh m s
  | .helloRx sh m => Sys2Proof.Machine.execHelloRx sh m s
  | .leaseHolderStop => Sys2Proof.Machine.execLeaseHolderStop s
  | .leaseTakeTimer => Sys2Proof.Machine.execLeaseTakeTimer s
  | .coldTakeTimer => Sys2Proof.Machine.execColdTakeTimer s
  | .takeoverStep => Sys2Proof.Machine.execTakeoverStep s
  | .lapsedProbe => Sys2Proof.Machine.execLapsedProbe s
  | .shroudLossTimer sh => Sys2Proof.Machine.execShroudLossTimer sh s
  | .peerLinkGroupLoss g => Sys2Proof.Machine.execPeerLinkGroupLoss g s
  | .resyncComplete => Sys2Proof.Machine.execResyncComplete s
  | .shelfKeyTransfer certOk key => Sys2Proof.Machine.execShelfKeyTransfer certOk key s
  | .periodicSwapTimer => Sys2Proof.Machine.execPeriodicSwapTimer s
  | .reachSwapTimer => Sys2Proof.Machine.execReachSwapTimer s
  | .drainComplete => Sys2Proof.Machine.execDrainComplete s
  | .swapRelease => Sys2Proof.Machine.execSwapRelease s
  | .drbgReseed idx healthy => Sys2Proof.Machine.execDrbgReseed idx healthy s
  | .drbgStallTimer => Sys2Proof.Machine.execDrbgStallTimer s
  | .retentionExpiry ns => Sys2Proof.Machine.execRetentionExpiry ns s
  | .sealDigestDone m digest bad => Sys2Proof.Machine.execSealDigestDone m digest bad s
  | .faultRaise word => Sys2Proof.Machine.execFaultRaise word s
  | .faultConcentratorTake unit => Sys2Proof.Machine.execFaultConcentratorTake unit s
  | .fStopResetTimer => Sys2Proof.Machine.execFStopResetTimer s
  | .faultHandlingEnd unit completed => Sys2Proof.Machine.execFaultHandlingEnd unit completed s
  | .bpdWordsDelivered => Sys2Proof.Machine.execBpdWordsDelivered s
  | .cwnAckWrite seq => Sys2Proof.Machine.execCwnAckWrite seq s
  | .evqHeadWrite q value => Sys2Proof.Machine.execEvqHeadWrite q value s
  | .evqTimeThreshold q => Sys2Proof.Machine.execEvqTimeThreshold q s
  | .msixVectorUnmask v => Sys2Proof.Machine.execMsixVectorUnmask v s
  | .counterHappening h => Sys2Proof.Machine.execCounterHappening h s
  | .pmcSmpHeadWrite bank value => Sys2Proof.Machine.execPmcSmpHeadWrite bank value s
  | .registerWrite client offset wide value => Sys2Proof.Machine.execRegisterWrite client offset wide value s
  | .pcieCompletionRx tag poisoned => Sys2Proof.Machine.execPcieCompletionRx tag poisoned s
  | .pcieCompletionTimeout tag => Sys2Proof.Machine.execPcieCompletionTimeout tag s
  | .tagQuarantineExpiry tag => Sys2Proof.Machine.execTagQuarantineExpiry tag s
  | .busMasterEnableClear => Sys2Proof.Machine.execBusMasterEnableClear s
  | .busMasterEnableSet => Sys2Proof.Machine.execBusMasterEnableSet s
  | .functionLevelReset => Sys2Proof.Machine.execFunctionLevelReset s
  | .sessionOpen m => Sys2Proof.Machine.execSessionOpen m s
  | .sessionClose idx seq tagOk => Sys2Proof.Machine.execSessionClose idx seq tagOk s
  | .sessionTimeout idx => Sys2Proof.Machine.execSessionTimeout idx s
  | .peerMailboxEffect m e => Sys2Proof.Machine.execPeerMailboxEffect m e s
  | .mailboxCompletion m => Sys2Proof.Machine.execMailboxCompletion m s
  | .mailboxInvalidOpcode h opcode => Sys2Proof.Machine.execMailboxInvalidOpcode h opcode s
  | .fnStart h => Sys2Proof.Machine.execFnStart h s
  | .fnStop h => Sys2Proof.Machine.execFnStop h s
  | .fnArm h format => Sys2Proof.Machine.execFnArm h format s
  | .fnStatus h => Sys2Proof.Machine.execFnStatus h s
  | .fnChipreset h => Sys2Proof.Machine.execFnChipreset h s
  | .fnCplto h timeout => Sys2Proof.Machine.execFnCplto h timeout s
  | .rigLoad h image => Sys2Proof.Machine.execRigLoad h image s
  | .rigVerify h image => Sys2Proof.Machine.execRigVerify h image s
  | .rigInfo h => Sys2Proof.Machine.execRigInfo h s
  | .rigEnroll h keyId pubkey => Sys2Proof.Machine.execRigEnroll h keyId pubkey s
  | .rigRules h cls => Sys2Proof.Machine.execRigRules h cls s
  | .modList h => Sys2Proof.Machine.execModList h s
  | .modDesc h bay page => Sys2Proof.Machine.execModDesc h bay page s
  | .modStatus h bay => Sys2Proof.Machine.execModStatus h bay s
  | .modRetire h bay => Sys2Proof.Machine.execModRetire h bay s
  | .modClear h bay => Sys2Proof.Machine.execModClear h bay s
  | .nsList h => Sys2Proof.Machine.execNsList h s
  | .nsRead h ns lba count => Sys2Proof.Machine.execNsRead h ns lba count s
  | .nsWrite h ns lba count data poisoned => Sys2Proof.Machine.execNsWrite h ns lba count data poisoned s
  | .nsDealloc h ns lba count => Sys2Proof.Machine.execNsDealloc h ns lba count s
  | .nsCache h op unlock ns lba len => Sys2Proof.Machine.execNsCache h op unlock ns lba len s
  | .keyGenerate h tenant slot mode => Sys2Proof.Machine.execKeyGenerate h tenant slot mode s
  | .keyImport h tenant slot mode unwrapped => Sys2Proof.Machine.execKeyImport h tenant slot mode unwrapped s
  | .keyDestroy h tenant slot => Sys2Proof.Machine.execKeyDestroy h tenant slot s
  | .keyStatus h tenant slot => Sys2Proof.Machine.execKeyStatus h tenant slot s
  | .keyEscrow h cpub => Sys2Proof.Machine.execKeyEscrow h cpub s
  | .keyRestore h unwrapped => Sys2Proof.Machine.execKeyRestore h unwrapped s
  | .keyMgmtenroll h index pubkey => Sys2Proof.Machine.execKeyMgmtenroll h index pubkey s
  | .hlthModule h bay => Sys2Proof.Machine.execHlthModule h bay s
  | .hlthPage h => Sys2Proof.Machine.execHlthPage h s
  | .hlthCaps h hostCap bgCap => Sys2Proof.Machine.execHlthCaps h hostCap bgCap s
  | .hlthThresh h rewrite thresholds => Sys2Proof.Machine.execHlthThresh h rewrite thresholds s
  | .hlthPatrol h days => Sys2Proof.Machine.execHlthPatrol h days s
  | .evtQcreate h q log2n vector countTh timeTh base => Sys2Proof.Machine.execEvtQcreate h q log2n vector countTh timeTh base s
  | .evtQdelete h q => Sys2Proof.Machine.execEvtQdelete h q s
  | .evtQmod h q countTh timeTh => Sys2Proof.Machine.execEvtQmod h q countTh timeTh s
  | .evtRoute h first last q enable => Sys2Proof.Machine.execEvtRoute h first last q enable s
  | .cwnHistory h => Sys2Proof.Machine.execCwnHistory h s
  | .cwnAck h seq => Sys2Proof.Machine.execCwnAck h seq s
  | .pmcProgram h bank first selectors => Sys2Proof.Machine.execPmcProgram h bank first selectors s
  | .pmcUsermap h bank allow => Sys2Proof.Machine.execPmcUsermap h bank allow s
  | .pmcSample h bank counter enable => Sys2Proof.Machine.execPmcSample h bank counter enable s
  | .bayEnable h bay => Sys2Proof.Machine.execBayEnable h bay s
  | .bayDisable h bay => Sys2Proof.Machine.execBayDisable h bay s
  | .bayConfig h bay gate ft3 insDelay ilim soa rampTo => Sys2Proof.Machine.execBayConfig h bay gate ft3 insDelay ilim soa rampTo s
  | .bayToggle h bay => Sys2Proof.Machine.execBayToggle h bay s
  | .pwrHoldtest h => Sys2Proof.Machine.execPwrHoldtest h s
  | .pwrStatus h => Sys2Proof.Machine.execPwrStatus h s
  | .pairStatus h => Sys2Proof.Machine.execPairStatus h s
  | .pairSwap h => Sys2Proof.Machine.execPairSwap h s
  | .pairInterval h hours => Sys2Proof.Machine.execPairInterval h hours s
  | .fwDownload h slot image => Sys2Proof.Machine.execFwDownload h slot image s
  | .fwActivate h slot restart => Sys2Proof.Machine.execFwActivate h slot restart s
  | .fwInfo h => Sys2Proof.Machine.execFwInfo h s
  | .sealRange h ns lba count => Sys2Proof.Machine.execSealRange h ns lba count s
  | .sealCert h => Sys2Proof.Machine.execSealCert h s
  | .retAdvance h delta advSeq => Sys2Proof.Machine.execRetAdvance h delta advSeq s
  | .retClock h => Sys2Proof.Machine.execRetClock h s
  | .diagEcho h bytes => Sys2Proof.Machine.execDiagEcho h bytes s
  | .diagSelftest h mask fails => Sys2Proof.Machine.execDiagSelftest h mask fails s
  | .sheetLaneLockLoss bay lane => Sys2Proof.Machine.execSheetLaneLockLoss bay lane s
  | .busStartWindowChange inWindow above11 => Sys2Proof.Machine.execBusStartWindowChange inWindow above11 s
  | .holdupTestAgeExpiry => Sys2Proof.Machine.execHoldupTestAgeExpiry s
  | .presenceAbsent100ms bay => Sys2Proof.Machine.execPresenceAbsent100ms bay s
  | .auxiliaryPowerRemoved => Sys2Proof.Machine.execAuxiliaryPowerRemoved s
  | .refclkSysRestored => Sys2Proof.Machine.execRefclkSysRestored s
  | .peerLinkRestored g => Sys2Proof.Machine.execPeerLinkRestored g s
  | .drbgReseedOverdue idx => Sys2Proof.Machine.execDrbgReseedOverdue idx s
  | .commandDatagramRx idx seq tagOk => Sys2Proof.Machine.execCommandDatagramRx idx seq tagOk s
  | .d3hotTransition enter => Sys2Proof.Machine.execD3hotTransition enter s

end Sys2Proof.Machine
end

