-- ==== Sys2Proof/Safety.lean ====
section
/-! DEFINITION. What the statements say of a run: which groups of the state a command may change, and the conditions that every step
keeps. -/

namespace Sys2Proof.Machine

/-- The groups of the state: one for each field of `State`, with the flash media and the modules apart from the Sheet ports, the fault
words held for the main die apart from the rest of the Bay Power Die, and the event queues and the mailboxes apart from the rest of the
management endpoint. -/
inductive Part where
  | clk | fn | sched | map | tc | log | reb | med | rd | sheet | mods | media | nvme | rdma | net | cip | pair | bpd | held | mgmt | evqs | mbx
  | flt | pmc | boot | out | pending | freeNo
  deriving DecidableEq, Repr

/-- A group holds the same in both states. -/
def Part.same (s t : State) : Part → Prop
  | .clk => t.clk = s.clk
  | .fn => t.fn = s.fn
  | .sched => t.sched = s.sched
  | .map => t.map = s.map
  | .tc => t.tc = s.tc
  | .log => t.log = s.log
  | .reb => t.reb = s.reb
  | .med => t.med = s.med
  | .rd => t.rd = s.rd
  | .sheet => { t.sheet with modules := s.sheet.modules, media := s.sheet.media } = s.sheet
  | .mods => t.sheet.modules = s.sheet.modules
  | .media => t.sheet.media = s.sheet.media
  | .nvme => t.nvme = s.nvme
  | .rdma => t.rdma = s.rdma
  | .net => t.net = s.net
  | .cip => t.cip = s.cip
  | .pair => t.pair = s.pair
  | .bpd => { t.bpd with held := s.bpd.held, lostWords := s.bpd.lostWords } = s.bpd
  | .held => t.bpd.held = s.bpd.held ∧ t.bpd.lostWords = s.bpd.lostWords
  | .mgmt => { t.mgmt with evqs := s.mgmt.evqs, msix := s.mgmt.msix, dropped := s.mgmt.dropped, mbx := s.mgmt.mbx } = s.mgmt
  | .evqs => t.mgmt.evqs = s.mgmt.evqs ∧ t.mgmt.msix = s.mgmt.msix ∧ t.mgmt.dropped = s.mgmt.dropped
  | .mbx => t.mgmt.mbx = s.mgmt.mbx
  | .flt => t.flt = s.flt
  | .pmc => t.pmc = s.pmc
  | .boot => t.boot = s.boot
  | .out => t.out = s.out
  | .pending => t.pending = s.pending
  | .freeNo => t.freeNo = s.freeNo

/-- Outside the listed groups the second state holds what the first does: the frame of a command. -/
def Only (ps : List Part) (s t : State) : Prop := ∀ p, p ∉ ps → p.same s t

/-- The command answers a next state, of which `P` holds. -/
def Completes (i : Instr) (s : State) (P : State → Prop) : Prop := ∃ t, exec i s = .next t ∧ P t

/-- A lookup of the line finds no error of Table 5.5: the tags of its set have their parity, and no word of the way that hits is wrong. -/
def State.tcSound (s : State) (la : Nat) : Bool :=
  ((List.range 16).all fun w => (s.tcWayOf (tcSet la) w).tagOk) && (match s.tcHit la with
    | none => true
    | some w => (s.tcWayOf (tcSet la) w).dataErr.isNone)

/-- Nothing waits for room on a port, for a decoding cell or for a map page: no stripe is to be closed or is being programmed, no row or
closed unit is to be completed, no pad set, journal page, read or decode is to be issued, and Strike does not run. -/
def State.quiet (s : State) : Bool :=
  (s.log.streams.all fun x => match x.stripe with
    | none => true
    | some o => o.next.isEmpty && (s.stripeSectors == 0 || decide (o.sectors.length < s.stripeSectors)))
  && (s.log.stripes.all fun e => e.2.st != .programming) && s.log.padWait.isEmpty && s.log.sjWait.isEmpty && s.log.rows.isEmpty
  && (s.log.units.all fun e => e.2.st != .closed) && (s.rd.jobs.all fun e => e.2.phase != .waiting && e.2.phase != .queued)
  && s.map.waits.isEmpty && s.log.strike != .running

/-- A command to the module itself can be sent on the bay's port: the flash region stands, the port has room, and a credit beyond its escape
share (R71, R220). -/
def State.canAsk (s : State) (b : Fin 48) (code : Nat) : Bool :=
  !s.flt.isFenced 1 && s.creditFor b code && (s.port b).room code 0xFF 0

/-- The completion has been sent on queue pair `q`, or waits there for a credit or a send entry (R261, R293). -/
def State.returned (t : State) (q : Nat) (c : Cqe) : Prop :=
  c ∈ (t.qp q).cqes ∨ ∃ psn, Emit.rdma q (.sendOnly psn c) ∈ t.out

/-- Whoever sent the command can be told its end at once: a READY queue pair with no Ledger order to keep, the peer, or a mailbox whose
command still runs. -/
def State.listening (s : State) (c : Cmd) : Bool :=
  match c.src with
  | .qp q _ => (s.qp q).st == .ready && (s.qp q).ledgerWait.isEmpty
  | .peer _ _ _ => true
  | .mbx m => decide (m < s.mgmt.mbx.length) && (match (s.mbx m).wait with
    | .running _ => true
    | _ => false)

/-- The end of command `c` with a status and DW0 has been told to its sender: a completion on its queue pair, one across the peer link, or
the storage status in the answer of its mailbox. -/
def State.told (t : State) (c : Cmd) (sct sc : Nat) (dnr : Bool) (dw0 : Nat) : Prop :=
  match c.src with
  | .qp q cid => t.returned q ⟨cid, sct, sc, dnr, dw0⟩
  | .peer h _ _ => Emit.forwardCqe h ⟨c.cap.cid, sct, sc, dnr, dw0⟩ [] ∈ t.out
  | .mbx m => ∃ r, (t.mbx m).wait = .answer r ∧ r.status = mbxStorage sct sc

/-- The GO of a command's mailbox is the next to be taken, and no other mailbox is in use: the command runs when it is given. -/
def State.turn (s : State) (h : MbxHdr) : Bool :=
  s.mailboxesUp && s.mgmt.mbx.length == 64
    && (s.mbx h.mbx.val).st == .busy && (s.mbx h.mbx.val).wait == .free && (s.mbx h.mbx.val).takenSeq == 0
    && (List.range 64).all fun n => n == h.mbx.val || ((s.mbx n).st != .busy && (s.mbx n).wait == .free)

/-- The bulk data that the command with this opcode asked for has come (R424). -/
def State.fetched (s : State) (h : MbxHdr) (op : Nat) : Bool :=
  s.mailboxesUp && s.mgmt.mbx.length == 64
    && (s.mbx h.mbx.val).st == .busy && (s.mbx h.mbx.val).wait == .running op
    && (s.mbx h.mbx.val).fetching && !(s.mbx h.mbx.val).dmaHold && !s.mbxRequest h.mbx.val && h.dma == .ok

/-- A well-formed header with no bulk transfer. -/
def hdrPlain (h : MbxHdr) : Bool := h.plenOk && h.reserved.isNone && h.dptr == 0 && h.dlen == 0 && !h.list

/-- A well-formed header of a mailbox with bus access that names room for `n` bytes in one piece. -/
def hdrRoom (h : MbxHdr) (n : Nat) : Bool :=
  h.plenOk && h.reserved.isNone && decide (0 < h.dlen ∧ n ≤ h.dlen ∧ h.dlen ≤ 2 ^ 28) && !h.list && decide (h.mbx.val < 48)

/-- The command's mailbox holds its answer: opcode, status, DETAIL and result. -/
def State.replied (t : State) (h : MbxHdr) (op status detail : Nat) (result : List (BitVec 8)) : Prop :=
  (t.mbx h.mbx.val).wait = .answer { mkResp op status detail with result := result }

/-- The command's mailbox runs its command on, with no answer yet. -/
def State.runs (t : State) (h : MbxHdr) (op : Nat) : Prop := (t.mbx h.mbx.val).wait = .running op

/-- The groups that each command may change: what the chapters that own it let it touch. A command that reaches the map, the write log
or a reset touches many; the rest of the state is left alone (`Only`). -/
def touches : Instr → List Part
  | .mainDiePowerUp .. =>
    [.boot]
  | .feedWindowChange .. | .holdupTestStart .. | .railPowerGood .. | .railPgTimeout .. | .railRetryTimer ..
  | .refclkSysRestored .. =>
    [.bpd]
  | .retentionExpiry .. | .drbgReseedOverdue .. =>
    [.cip]
  | .cwnAckWrite .. =>
    [.flt]
  | .reclaimVictimSelect .. =>
    [.log]
  | .junctionSample .. =>
    [.med]
  | .tagQuarantineExpiry .. =>
    [.mgmt]
  | .frontFrameRx .. | .fragmentEntryExpiry .. | .pfcFrameRx .. | .pfcPauseExpiry .. =>
    [.net]
  | .ccEnClearComplete .. =>
    [.nvme]
  | .counterHappening .. | .pmcSmpHeadWrite .. =>
    [.pmc]
  | .cmReadyToUse .. | .cmRejectRx .. | .connectingTimeout .. | .qpFlushComplete .. | .rdmaSendRx .. | .cnpRx ..
  | .rdmaRequestGapTimer .. | .rdmaAckCoalesceTimer .. | .rateIncreaseTimer .. =>
    [.rdma]
  | .admission .. | .overlapWaitEnd .. | .forwardRecall .. =>
    [.sched]
  | .trainingAttempt .. =>
    [.sheet]
  | .tcWayPwrWrite .. | .tcGroupPowerUpDone .. =>
    [.tc]
  | .shelfKeyTransfer .. =>
    [.cip, .boot]
  | .sequencerSlot .. =>
    [.clk, .sched]
  | .evqHeadWrite .. | .evqTimeThreshold .. | .msixVectorUnmask .. =>
    [.evqs, .out]
  | .mirrorDataRx .. =>
    [.log, .out]
  | .tcWritebackTimer .. | .tcLockWaysWrite .. | .tcGroupPowerDownDone .. =>
    [.map, .tc]
  | .pcieCompletionTimeout .. | .busMasterEnableClear .. | .sessionTimeout .. | .mailboxInvalidOpcode .. =>
    [.mgmt, .mbx]
  | .sheetStatus .. | .setParam .. | .descRead .. | .temp .. | .dieReset .. | .powerState .. | .fence .. =>
    [.mods, .out]
  | .pfcXoffRepeat .. =>
    [.net, .out]
  | .queueReservation .. =>
    [.nvme, .out]
  | .timewaitExpiry .. =>
    [.nvme, .rdma]
  | .renewTimer .. =>
    [.pair, .out]
  | .cmRequest .. | .rdmaRnrRetryTimer .. =>
    [.rdma, .out]
  | .capsuleToIntake .. =>
    [.sched, .rdma]
  | .sheetAckTimer .. | .tagRequeryTimer .. | .sheetStatusPoll .. | .laneErrPoll .. =>
    [.sheet, .out]
  | .drbgReseed .. =>
    [.cip, .held, .flt]
  | .thermalLevelChange .. =>
    [.held, .flt, .boot]
  | .holdupTestAgeExpiry .. =>
    [.log, .evqs, .out]
  | .journalPageTimer .. =>
    [.log, .sheet, .out]
  | .sessionClose .. =>
    [.mgmt, .evqs, .mbx]
  | .sessionOpen .. =>
    [.mgmt, .evqs, .out]
  | .fnStatus .. | .rigVerify .. | .rigInfo .. | .modDesc .. | .modStatus .. | .nsList .. | .keyStatus ..
  | .hlthModule .. | .hlthPage .. | .cwnHistory .. | .pwrStatus .. | .pairStatus .. | .fwInfo .. | .sealCert ..
  | .retClock .. | .diagEcho .. | .diagSelftest .. =>
    [.mgmt, .mbx, .out]
  | .sheetRead .. | .getParam .. =>
    [.mods, .out, .freeNo]
  | .classify .. | .reorderRelease .. | .fragmentParkTimeout .. =>
    [.net, .out, .freeNo]
  | .shroudLossTimer .. | .peerLinkRestored .. =>
    [.pair, .evqs, .out]
  | .txCirWindow .. =>
    [.rdma, .evqs, .out]
  | .rdmaAckRx .. =>
    [.rdma, .net, .out]
  | .rdmaReadResponseRx .. =>
    [.sched, .rdma, .out]
  | .pwrHoldtest .. =>
    [.bpd, .mgmt, .mbx, .out]
  | .controlPortFrame .. =>
    [.clk, .net, .out, .freeNo]
  | .fnCplto .. | .rigRules .. | .keyImport .. | .keyDestroy .. | .hlthCaps .. | .hlthThresh .. | .hlthPatrol ..
  | .evtQcreate .. | .evtQdelete .. | .evtQmod .. | .evtRoute .. | .pmcProgram .. | .pmcUsermap .. | .pmcSample ..
  | .bayEnable .. | .bayDisable .. | .bayConfig .. | .bayToggle .. | .pairInterval .. =>
    [.fn, .mgmt, .mbx, .out]
  | .ruleUpdatePortStep .. =>
    [.fn, .net, .mbx, .out]
  | .sheetInitSendTimer .. | .sheetInitRx .. =>
    [.fn, .sheet, .evqs, .out]
  | .busStartWindowChange .. =>
    [.log, .bpd, .evqs, .out]
  | .wearCheck .. =>
    [.log, .med, .evqs, .out]
  | .junctionSensorRead .. =>
    [.med, .evqs, .boot, .out]
  | .pcieCompletionRx .. | .busMasterEnableSet .. | .mailboxCompletion .. | .commandDatagramRx .. | .d3hotTransition .. =>
    [.mgmt, .evqs, .mbx, .out]
  | .rigEnroll .. | .keyMgmtenroll .. | .fwDownload .. =>
    [.mgmt, .mbx, .boot, .out]
  | .cwnAck .. =>
    [.mgmt, .mbx, .flt, .out]
  | .modList .. | .keyEscrow .. =>
    [.mgmt, .mbx, .out, .freeNo]
  | .sheetProgram .. | .sheetErase .. =>
    [.mods, .media, .out, .freeNo]
  | .identify .. | .setFeatures .. | .getFeatures .. | .asynchronousEventRequest .. | .keepAlive .. | .abort ..
  | .connect .. | .propertyGet .. | .nvmeUnsupportedOpcode .. =>
    [.nvme, .rdma, .net, .out]
  | .switchMatch .. =>
    [.rdma, .net, .out, .freeNo]
  | .nsRead .. | .nsWrite .. | .nsDealloc .. | .sealRange .. =>
    [.sched, .mgmt, .mbx, .out]
  | .rdmaReadIssue .. =>
    [.sched, .rdma, .net, .out]
  | .sheetNakRx .. =>
    [.sheet, .held, .flt, .out]
  | .faultRaise .. =>
    [.tc, .held, .flt, .pmc]
  | .keyRestore .. =>
    [.cip, .mgmt, .mbx, .boot, .out]
  | .ageClockTick .. =>
    [.fn, .med, .sheet, .evqs, .out]
  | .keyGenerate .. =>
    [.fn, .mgmt, .mbx, .out, .freeNo]
  | .holdupTestEnd .. =>
    [.log, .bpd, .evqs, .mbx, .out]
  | .blockRecordScan .. =>
    [.log, .reb, .med, .evqs, .out]
  | .journalCopyPlaced .. =>
    [.log, .reb, .sheet, .evqs, .out]
  | .fwActivate .. =>
    [.mgmt, .evqs, .mbx, .boot, .out]
  | .frontLinkChange .. =>
    [.net, .held, .evqs, .flt, .out]
  | .getLogPage .. | .forwardCommand .. | .forwardCompletionRx .. =>
    [.sched, .nvme, .rdma, .net, .out]
  | .retAdvance .. =>
    [.cip, .mgmt, .evqs, .mbx, .boot, .out]
  | .sealDigestDone .. =>
    [.sched, .cip, .evqs, .mbx, .boot, .out]
  | .stripeDeadline .. =>
    [.fn, .log, .reb, .med, .sheet, .evqs, .out]
  | .logShipRecordRx .. =>
    [.map, .tc, .log, .reb, .med, .nvme, .cip]
  | .resyncComplete .. =>
    [.nvme, .rdma, .net, .pair, .mgmt, .evqs, .out]
  | .cmDisconnect .. | .propertySet .. | .disconnect .. | .ledgerBind .. | .keepAliveTimeout .. =>
    [.sched, .log, .nvme, .rdma, .net, .mbx, .out]
  | .rigLoad .. =>
    [.fn, .nvme, .rdma, .net, .mgmt, .evqs, .mbx, .out]
  | .rdmaNakRx .. | .rdmaOpcodeRefused .. | .rdmaResponseGapTimer .. | .rdmaAckTimeout .. =>
    [.sched, .log, .nvme, .rdma, .net, .evqs, .mbx, .out]
  | .probeIssue .. =>
    [.sched, .log, .reb, .med, .rd, .sheet, .evqs, .out]
  | .readDataToHost .. =>
    [.sched, .nvme, .rdma, .net, .mgmt, .evqs, .mbx, .out]
  | .reclaimErase .. | .checkpointStart .. =>
    [.fn, .map, .tc, .log, .reb, .med, .sheet, .evqs, .out]
  | .functionLevelReset .. =>
    [.fn, .sched, .tc, .net, .cip, .bpd, .mgmt, .evqs, .mbx]
  | .leaseTakeTimer .. | .coldTakeTimer .. =>
    [.fn, .sheet, .nvme, .rdma, .net, .pair, .mgmt, .evqs, .out]
  | .leaseHolderStop .. | .swapRelease .. =>
    [.reb, .sheet, .nvme, .rdma, .net, .pair, .mgmt, .evqs, .out]
  | .fnChipreset .. =>
    [.reb, .sheet, .nvme, .rdma, .net, .pair, .mgmt, .evqs, .mbx, .out]
  | .mirrorConfirm .. | .mirrorTimeout .. =>
    [.sched, .log, .nvme, .rdma, .net, .pair, .mgmt, .evqs, .mbx, .out]
  | .intakeSlot .. =>
    [.clk, .sched, .log, .nvme, .rdma, .net, .cip, .evqs, .mbx, .out, .freeNo]
  | .drbgStallTimer .. | .faultConcentratorTake .. =>
    [.fn, .reb, .sheet, .nvme, .rdma, .net, .pair, .mgmt, .evqs, .flt, .out]
  | .writePlace .. =>
    [.fn, .sched, .log, .reb, .med, .sheet, .nvme, .rdma, .net, .evqs, .mbx, .out]
  | .peerLinkGroupLoss .. =>
    [.sched, .log, .reb, .sheet, .nvme, .rdma, .net, .pair, .mgmt, .evqs, .mbx, .out]
  | .periodicSwapTimer .. | .reachSwapTimer .. =>
    [.fn, .map, .tc, .log, .reb, .med, .sheet, .nvme, .rdma, .net, .pair, .evqs, .out]
  | .bpdWordsDelivered .. =>
    [.fn, .reb, .sheet, .nvme, .rdma, .net, .pair, .held, .mgmt, .evqs, .flt, .out, .freeNo]
  | .mapFetchComplete .. | .ldpcDecodeDone .. | .tcFillComplete .. | .tcLockChangeDone .. | .tcInvalidate ..
  | .tcClean .. | .tcCleanInvalidate .. | .tcPreload .. | .tcPreloadLock .. | .relocation .. | .repairBatchAdvance ..
  | .rebuildStep .. | .rebuildRetryTimer .. | .sweepStep .. | .patrolIssue .. | .rewriteIssue .. | .lanesAligned ..
  | .trainingTimeout .. | .sheetAckRx .. | .sheetCreditRx .. | .sheetReplayTimer .. | .fenceTimeout ..
  | .unreachableTimeout .. | .peerMailboxEffect .. | .sheetLaneLockLoss .. =>
    [.fn, .sched, .map, .tc, .log, .reb, .med, .rd, .sheet, .cip, .held, .evqs, .flt, .out]
  | .fnStop .. | .pairSwap .. =>
    [.fn, .map, .tc, .log, .reb, .med, .sheet, .nvme, .rdma, .net, .pair, .mgmt, .evqs, .mbx, .out]
  | .sheetFrameRx .. =>
    [.fn, .sched, .map, .tc, .log, .reb, .med, .rd, .sheet, .cip, .held, .evqs, .flt, .out, .freeNo]
  | .tcRangeDone .. =>
    [.fn, .sched, .map, .tc, .log, .reb, .med, .rd, .sheet, .cip, .held, .evqs, .mbx, .flt, .out]
  | .lapsedProbe .. =>
    [.fn, .sched, .map, .tc, .log, .reb, .rd, .sheet, .nvme, .rdma, .net, .pair, .mgmt, .evqs, .out]
  | .modRetire .. | .modClear .. | .nsCache .. =>
    [.fn, .sched, .map, .tc, .log, .reb, .med, .rd, .sheet, .cip, .held, .mgmt, .evqs, .mbx, .flt, .out]
  | .feedLost .. | .feedGood .. | .pathConfirmedOff .. | .pathConfirmTimeout .. | .feedReturnTimer ..
  | .downRestartTimer .. | .insertionDelayExpiry .. | .channelPowerGood .. | .fastTrip .. | .soaTimeout ..
  | .rampTimeout .. | .pgLost .. | .cooldownExpiry .. | .fetFaultTimer .. | .presenceAbsent100ms .. =>
    [.fn, .sched, .map, .tc, .log, .reb, .med, .rd, .sheet, .mods, .cip, .bpd, .held, .evqs, .flt, .out]
  | .registerWrite .. =>
    [.fn, .sched, .map, .tc, .log, .reb, .med, .rd, .sheet, .cip, .bpd, .held, .evqs, .mbx, .flt, .pmc, .out]
  | .presenceChange .. =>
    [.fn, .sched, .map, .tc, .log, .reb, .med, .rd, .sheet, .mods, .media, .cip, .bpd, .held, .evqs, .flt, .out]
  | .read .. | .write .. | .flush .. | .writeZeroes .. | .compare .. | .datasetManagement .. | .mapUpdateApply .. =>
    [.fn, .sched, .map, .tc, .log, .reb, .med, .rd, .sheet, .nvme, .rdma, .net, .cip, .held, .evqs, .mbx, .flt, .out]
  | .drainComplete .. =>
    [.fn, .sched, .map, .tc, .log, .reb, .med, .rd, .sheet, .nvme, .rdma, .net, .cip, .pair, .held, .evqs, .mbx, .flt, .out]
  | .faultHandlingEnd .. =>
    [.fn, .sched, .map, .tc, .log, .reb, .med, .rd, .sheet, .nvme, .rdma, .net, .cip, .pair, .held, .mgmt, .evqs, .flt, .out]
  | .takeoverStep .. | .fnStart .. =>
    [.fn, .sched, .map, .tc, .log, .reb, .med, .rd, .sheet, .nvme, .rdma, .net, .cip, .pair, .held, .mgmt, .evqs, .mbx, .flt, .out]
  | .chipReset .. | .fStopResetTimer .. =>
    [.clk, .fn, .sched, .map, .tc, .log, .reb, .med, .rd, .sheet, .nvme, .rdma, .net, .cip, .pair, .mgmt, .evqs, .mbx, .flt, .pmc, .boot]
  | .renewRx .. | .grantRx .. | .releaseRx .. | .helloRx .. =>
    [.fn, .sched, .map, .tc, .log, .reb, .med, .rd, .sheet, .mods, .nvme, .rdma, .net, .cip, .pair, .held, .mgmt, .evqs, .mbx, .flt, .out]
  | .railPgLost .. | .refclkSysLoss .. =>
    [.clk, .fn, .sched, .map, .tc, .log, .reb, .med, .rd, .sheet, .nvme, .rdma, .net, .cip, .pair, .bpd, .mgmt, .evqs, .mbx, .flt, .pmc, .boot]
  | .frameBoundary .. =>
    [.clk, .fn, .sched, .map, .tc, .log, .reb, .med, .rd, .sheet, .mods, .nvme, .rdma, .net, .cip, .bpd, .held, .mgmt, .evqs, .mbx, .flt, .pmc, .out]
  | .auxPowerOn .. =>
    [.clk, .fn, .sched, .map, .tc, .log, .reb, .med, .rd, .sheet, .nvme, .rdma, .net, .cip, .pair, .bpd, .held, .mgmt, .evqs, .mbx, .flt, .pmc, .boot]
  | .startUpStepEnd .. =>
    [.fn, .sched, .map, .tc, .log, .reb, .med, .rd, .sheet, .mods, .nvme, .rdma, .net, .cip, .pair, .bpd, .held, .mgmt, .evqs, .flt, .pmc, .boot, .out]
  | .auxiliaryPowerRemoved .. =>
    [.clk, .fn, .sched, .map, .tc, .log, .reb, .med, .rd, .sheet, .mods, .nvme, .rdma, .net, .cip, .pair, .bpd, .held, .mgmt, .evqs, .mbx, .flt, .pmc, .boot]
  | .sheetResponse .. | .strikeTrigger .. | .sheetDataRx .. | .sheetOpTimeout .. | .holdupPeerTimer ..
  | .busBelowHoldMin .. =>
    [.clk, .fn, .sched, .map, .tc, .log, .reb, .med, .rd, .sheet, .mods, .nvme, .rdma, .net, .cip, .pair, .bpd, .held, .mgmt, .evqs, .mbx, .flt, .pmc, .boot, .out]
  | .fnArm .. =>
    [.fn, .sched, .map, .tc, .log, .reb, .med, .rd, .sheet, .mods, .media, .nvme, .rdma, .net, .cip, .bpd, .held, .mgmt, .evqs, .mbx, .flt, .pmc, .boot, .out, .freeNo]

/-- A table of a mailbox buffer's bytes is canonical: offsets strictly rising, and no byte listed that an unlisted offset reads as. -/
def bufWf (t : Tab (BitVec 8)) : Bool := tabWf t && t.all fun e => e.2 != 0

/-- What every step keeps. The register files have the sizes the spec gives them: 18 intake inputs (R56), 64 streams (R82), the two
strike halves (R103), 48 bays with their ports, modules, health records and channels (R209, R217, R388), 16 RDMA cells (R277), 8 front
ports of 4 logical ports (R299, R309), 4 storage inputs (R316), 4 DRBGs (R344), the peer link's 2 lane groups (R369), 64 mailboxes,
event queues and vectors and 8 sessions (R404, R407, R411, R420), 8 operator keys (R420), 5 fault classes (R437), 16 counter banks
(R451). The two memories are canonical, the slot is one of a frame's 16,384 (R26), and the next FAULT_SEQ is a 32-bit number other than
0 (R442). -/
structure State.Inv (s : State) : Prop where
  inputs : s.sched.inputs.length = 18
  lastTaken : s.sched.lastTaken.length = 18
  streams : s.log.streams.length = 64
  halves : s.log.halfErased.length = 2
  health : s.med.health.length = 48
  ctlHist : s.med.ctlHist.length = 16
  ports : s.sheet.ports.length = 48
  modules : s.sheet.modules.length = 48
  cells : s.rdma.cells.length = 16
  fronts : s.net.ports.length = 8
  phases : s.net.rulePhase.length = 32
  offers : s.net.offerPtr.length = 4
  drbgs : s.cip.drbgs.length = 4
  chans : s.bpd.chans.length = 48
  msix : s.mgmt.msix.length = 64
  mbx : s.mgmt.mbx.length = 64
  evqs : s.mgmt.evqs.length = 64
  sessions : s.mgmt.sessions.length = 8
  counts : s.flt.counts.length = 5
  banks : s.pmc.banks.length = 16
  groups : s.pair.groups.length = 2
  tries : s.pair.groupTries.length = 2
  opKeys : s.boot.opKeys.length = 8
  media : tabWf s.sheet.media = true
  bufs : ∀ m ∈ s.mgmt.mbx, bufWf m.buf = true
  slot : s.clk.slot < 16384
  seq : 0 < s.flt.seqNext ∧ s.flt.seqNext < 2 ^ 32

end Sys2Proof.Machine
end

