-- ==== Sys2Proof/Certificates/Slice0/Obligations.lean ====
section
/-! DEFINITION. The statements for the provers, from the numbered rules of the spec. -/

open Sys2Proof Sys2Proof.Machine

/-- For every command c, queue q and state s: one step of the state s with c at the front of its queue followed by q is exec of c on
s with the queue q. -/
def Obligations.StepRunsFront : Prop :=
  ∀ (c : Instr) (q : List Instr) (s : State), step (s.withPending (c :: q)) = exec c (s.withPending q)

/-- For every command i and all states s and t: if exec of i on s answers the next state t, then every group of the state that
touches i does not list is the same in t as in s. The lists name, for each of the 282 rows, the register groups, FIFOs, buffers,
tables and memories that the chapters owning the row let it change; no command but what is listed changes keys, the lease, bay
power, mailboxes, the write log, the map, the media, counters or fault records. -/
def Obligations.CommandFrames : Prop :=
  ∀ (i : Instr) (s t : State), exec i s = .next t → Only (touches i) s t

/-- For every command i and state s, exec of i on s answers a next state, and that state's queue of waiting commands is the one of
s: no row of the table ends in a fault or a refusal, and none takes or adds a command. -/
def Obligations.QueueUntouched : Prop :=
  ∀ (i : Instr) (s : State), ∃ t, exec i s = .next t ∧ t.pending = s.pending

/-- For every state s with Inv s and every state t: if step s answers the next state t, then Inv t. Inv says that the register files
have the sizes the spec gives them (18 intake inputs, 64 streams, 2 strike halves, 48 bays, 16 RDMA cells, 8 front ports, 32
logical ports, 4 DRBGs, 48 channels, 64 mailboxes, event queues and vectors, 8 sessions, 8 operator keys, 5 fault classes, 16
counter banks), that the flash media and every mailbox buffer are canonical tables, that the slot is below 16,384, and that the
next FAULT_SEQ is from 1 to 0xFFFF_FFFF. -/
def Obligations.InvKept : Prop :=
  ∀ s t : State, s.Inv → step s = .next t → t.Inv

/-- The state right after reset meets Inv: its register files have the sizes of the spec, both memories list nothing, the slot is 0
and the next FAULT_SEQ is 1. -/
def Obligations.InvAtReset : Prop :=
  State.reset.Inv

/-- Hold-up good is reported exactly while the last hold-up test finished within 25 h and did not set TEST_FAIL, the selector is in
ON_A or ON_B, and the bus is at 11.0 V or more. Each command that can end it (BUS_START_WINDOW_CHANGE, HOLDUP_TEST_AGE_EXPIRY,
HOLDUP_TEST_END, and FEED_LOST of the selected feed) leaves Strike disarmed when hold-up good does not hold after it. While
Strike is disarmed a write is acknowledged only when its stripes are committed and its records durable and no Strike runs, as
R88 says. -/
def Obligations.HoldupGood : Prop :=
  ∀ s : State,
    let disarmed := fun (t : State) => t.holdupGood = false → t.log.strikeArmed = false
    (s.holdupGood = true ↔
      (∃ τ, s.bpd.testAt = some τ ∧ s.now ≤ τ + secs (25 * 3600) ∧ s.bpd.testFail = false) ∧ (s.bpd.sel = .onA ∨ s.bpd.sel = .onB) ∧ s.bpd.busOk = true) ∧
    ((∀ w a, Completes (.busStartWindowChange w a) s disarmed) ∧ Completes .holdupTestAgeExpiry s disarmed ∧
      (∀ ma v dv us, s.bpd.testBusy = true → Completes (.holdupTestEnd ma v dv us) s disarmed) ∧
      (s.bpd.aux = true → s.bpd.feedA.inWindow = false → s.bpd.sel = .onA → Completes (.feedLost .a) s disarmed) ∧
      (s.bpd.aux = true → s.bpd.feedB.inWindow = false → s.bpd.sel = .onB → Completes (.feedLost .b) s disarmed)) ∧
    (s.log.strikeArmed = false → ∀ ord c, s.mayAck ord c = true → s.log.strike = .idle ∧ s.committedWrite ord = true ∧ s.recordsDurable ord = true)

/-- The main die awake, CLASSIFY of a later fragment that waits in the ingress path of a port with rules, that is not malformed, and
whose key has a fragment table entry not yet 2 ms old: the frame's action is the entry's, whatever the port's rules say of it,
no other frame of the path changes, and neither do the fragment table, the parked fragments and the other ports. -/
def Obligations.LaterFragment : Prop :=
  ∀ (p : Fin 8) pseq r c e (s : State), s.net.ports.length = 8 → s.awake = true →
    (s.front p).ingress.find? (fun r => r.pseq == pseq && r.action.isNone) = some r → s.rulesFor (4 * p + r.sub) = some c → s.malformed2430 r.frame = false →
    r.frame.frag = 2 → s.net.frags.find? (fun e => e.key == fragKeyOf r.frame) = some e → s.now < e.since + ms 2 →
    Completes (.classify p pseq) s fun t =>
      (t.front p).ingress = (s.front p).ingress.map (fun x => if x.pseq = pseq then { x with action := some e.action, malformed := false } else x)
        ∧ t.net.frags = s.net.frags ∧ t.net.parked = s.net.parked ∧ ∀ q : Nat, q ≠ p → t.front q = s.front q

/-- SHEET_PROGRAM with its 16 frames and SHEET_ERASE, with fields in range, at a module that has power and takes die operations:
from the OWNER port with EPOCH equal to CURRENT_EPOCH, and the NAND reporting success, the page set holds the frames, or the
block's page sets are no longer programmed, every other codeword is as before, and the response is OK; otherwise the response is
FENCED (3) and every codeword is as before. A module that a bay did not hold comes with CURRENT_EPOCH 0 and no owner. Each other
operation answers with a code other than FENCED, whatever its port and epoch. -/
def Obligations.OwnerOnlyWrites : Prop :=
  ∀ (bay : Fin 48) (s : State), s.sheet.modules.length = 48 →
    (∀ c m, s.module bay = some m → s.bayPowered bay = true → m.fatal = false → c.tag ≠ 0xFFF → c.reserved = false → c.die < m.desc.dies → m.power ≠ 2 →
      let owner := m.owner = (if c.portB then 2 else 1) ∧ c.epoch = m.epoch
      (∀ frames nand, frames.length = 16 → c.page < m.desc.epp * m.desc.ppb →
        (owner → Completes (.sheetProgram bay c frames .ok) s fun t => t.out = .module bay c.tag 2 0 .none [] :: s.out
          ∧ (∀ k : Fin 16, tabGet t.sheet.media (locAt (mkLoc bay c.die c.page 0 0) k).toNat = frames[(k : Nat)]?)
          ∧ ∀ a, (∀ k : Fin 16, a ≠ (locAt (mkLoc bay c.die c.page 0 0) k).toNat) → tabGet t.sheet.media a = tabGet s.sheet.media a) ∧
        (¬ owner → Completes (.sheetProgram bay c frames nand) s fun t =>
          t.out = .module bay c.tag 2 3 .none [] :: s.out ∧ t.sheet.media = s.sheet.media)) ∧
      (∀ nand, c.page < m.desc.epp →
        (owner → tabWf s.sheet.media = true → Completes (.sheetErase bay c .ok) s fun t => t.out = .module bay c.tag 3 0 .none [] :: s.out
          ∧ ∀ a, tabGet t.sheet.media a = if inBlock m.desc.ppb bay c.die c.page a then none else tabGet s.sheet.media a) ∧
        (¬ owner → Completes (.sheetErase bay c nand) s fun t =>
          t.out = .module bay c.tag 3 3 .none [] :: s.out ∧ t.sheet.media = s.sheet.media))) ∧
    (∀ d, (s.chan bay).pres = false → s.module bay = none → Completes (.presenceChange bay (some d)) s fun t =>
      ∃ m, t.module bay = some m ∧ m.epoch = 0 ∧ m.owner = 0) ∧
    (∀ c m nand i, s.module bay = some m → s.bayPowered bay = true →
      i ∈ [.sheetRead bay c nand, .sheetStatus bay c, .getParam bay c, .setParam bay c, .descRead bay c, .temp bay c, .dieReset bay c, .powerState bay c, .fence bay c] →
      Completes i s fun t => ∃ code status res frames, t.out = .module bay c.tag code status res frames :: s.out ∧ status ≠ 3)

/-- FENCE with epoch E on port X at a module that has power. E above CURRENT_EPOCH and below 0xFFFF_FFFF: CURRENT_EPOCH is E and
OWNER is X, every PROGRAM and ERASE of the other port not started on its die is completed with FENCED, what is in the array or
completed stays, the response is OK, and from then on a PROGRAM or ERASE passes only from X at E. E equal to CURRENT_EPOCH on
the owner's port: OK, with the epoch, the owner and the operations unchanged but for the response kept. Otherwise, 0 and
0xFFFF_FFFF included: EPOCH_STALE (4), with the same unchanged. Codewords and other modules never change. -/
def Obligations.FenceThreeWays : Prop :=
  ∀ (bay : Fin 48) c m (s : State), s.sheet.modules.length = 48 → s.module bay = some m → s.bayPowered bay = true → m.fatal = false → c.tag ≠ 0xFFF → c.reserved = false →
    let x := if c.portB then 2 else 1
    let others := fun (t : State) => t.sheet.media = s.sheet.media ∧ ∀ b : Nat, b ≠ bay → t.module b = s.module b
    (m.epoch < c.epoch → c.epoch < 0xFFFFFFFF → Completes (.fence bay c) s fun t => others t ∧ t.out = .module bay c.tag 0x0B 0 (.epoch c.epoch) [] :: s.out
      ∧ ∃ m', t.module bay = some m' ∧ m'.epoch = c.epoch ∧ m'.owner = x ∧ (∀ c', m'.fenceOk c' = (c'.portB == c.portB && c'.epoch == c.epoch))
        ∧ (∀ o ∈ m'.ops, o.portB ≠ c.portB → (o.code = 2 ∨ o.code = 3) → o.state ≠ 1)
        ∧ ∀ o ∈ m.ops, o.portB ≠ c.portB → (if o.state = 1 ∧ (o.code = 2 ∨ o.code = 3) then { o with state := 3, result := 3 } else o) ∈ m'.ops) ∧
    (c.epoch = m.epoch → m.owner = x → c.epoch ≠ 0 → c.epoch ≠ 0xFFFFFFFF → Completes (.fence bay c) s fun t =>
      others t ∧ t.out = .module bay c.tag 0x0B 0 (.epoch m.epoch) [] :: s.out
        ∧ t.module bay = some (m.keep ⟨c.portB, c.tag, c.die, 0x0B, 3, 0⟩)) ∧
    (c.epoch < m.epoch ∨ (c.epoch = m.epoch ∧ m.owner ≠ x) ∨ c.epoch = 0 ∨ c.epoch = 0xFFFFFFFF → Completes (.fence bay c) s fun t =>
      others t ∧ t.out = .module bay c.tag 0x0B 4 (.epoch m.epoch) [] :: s.out
        ∧ t.module bay = some (m.keep ⟨c.portB, c.tag, c.die, 0x0B, 3, 4⟩))

/-- For every command i, every state s in which bay b holds a module, and every next state t that exec of i on s answers: bay b
still holds a module in t, and if it is the same module (the same serial number) its CURRENT_EPOCH is not lower than before, and
at the same epoch its OWNER is the same. The loss of power, DIE_RESET, re-initialisation of the link, reseating, a format and
every operation of the link are among the commands. -/
def Obligations.EpochsNeverLowered : Prop :=
  ∀ (i : Instr) (s t : State) (bay : Fin 48) (m : Module), exec i s = .next t → s.module bay = some m →
    ∃ m', t.module bay = some m' ∧ (m'.desc.serial = m.desc.serial → m.epoch ≤ m'.epoch ∧ (m'.epoch = m.epoch → m'.owner = m.owner))

/-- At a module with power: SHEET_READ of a die operation in range returns, for each requested codeword in order, the payload it
holds, one that nothing programmed being free, and status OK (R225). SHEET_STATUS of ARG 0xFFF returns its epoch, owner, flags
and DIE_FAULT. GET_PARAM 1 and 0x20 return the operations for each die and IDLE_DELAY; SET_PARAM 0x20 from 1 to 10,000 sets it,
and any ID outside Table 9.7 is INVALID (5). DESC_READ of a page the descriptor has returns it, TEMP the temperatures. DIE_RESET
ends each operation on the die that has not ended with ABORTED (6) (R227), and POWER_STATE up to 2 sets the power state, any
other is INVALID (R228). No codeword and no other module changes. -/
def Obligations.ModuleOperations : Prop :=
  ∀ (bay : Fin 48) c m (s : State), s.sheet.modules.length = 48 → s.module bay = some m → s.bayPowered bay = true → m.fatal = false → c.tag ≠ 0xFFF → c.reserved = false →
    let answers := fun (t : State) (code status : Nat) (res : SheetResult) (frames : List Payload) =>
      t.out = .module bay c.tag code status res frames :: s.out ∧ t.sheet.media = s.sheet.media ∧ ∀ b : Nat, b ≠ bay → t.module b = s.module b
    (c.die < m.desc.dies → m.power ≠ 2 → c.page < m.desc.epp * m.desc.ppb → c.cwmask ≠ 0 → (c.offsets.drop m.desc.levels).all (· == 0) = true →
      (Completes (.sheetRead bay c .ok) s fun t => ∃ frames, answers t 1 0 .none frames ∧ frames.length = ones c.cwmask
        ∧ ∀ (k : Fin 16) p, c.cwmask.getLsbD k = true → tabGet s.sheet.media (locAt (mkLoc bay c.die c.page 0 0) k).toNat = some p →
            frames[((List.range k).filter fun j => c.cwmask.getLsbD j).length]? = some p) ∧
      Completes (.sheetRead bay c .noAnswer) s fun t => answers t 1 7 .none []) ∧
    (c.arg = 0xFFF → Completes (.sheetStatus bay c) s fun t => ∃ flags, answers t 4 0 (.status m.epoch m.owner flags m.dieFault) []) ∧
    (c.arg = 1 → Completes (.getParam bay c) s fun t => answers t 5 0 (.value (BitVec.ofNat 64 m.desc.opsPerDie)) []) ∧
    (c.arg = 0x20 → Completes (.getParam bay c) s fun t => answers t 5 0 (.value (BitVec.ofNat 64 m.idleDelay)) []) ∧
    (c.arg = 0x20 → 1 ≤ c.value.toNat → c.value.toNat ≤ 10000 → Completes (.setParam bay c) s fun t =>
      answers t 6 0 .none [] ∧ ∃ m', t.module bay = some m' ∧ m'.idleDelay = c.value.toNat ∧ m'.epoch = m.epoch) ∧
    (c.arg < 0x20 → Completes (.setParam bay c) s fun t => answers t 6 5 .none []) ∧
    (c.arg ≤ m.desc.dies → Completes (.descRead bay c) s fun t => answers t 7 0 (.desc m.desc) []) ∧
    Completes (.temp bay c) s (fun t => answers t 8 0 (.temp m.nand m.bridge) []) ∧
    (c.die < m.desc.dies → Completes (.dieReset bay c) s fun t => answers t 9 0 .none [] ∧ ∃ m', t.module bay = some m' ∧ m'.epoch = m.epoch ∧ m'.owner = m.owner
      ∧ ∀ o ∈ m'.ops, o.die = c.die → o.state = 3) ∧
    (c.arg ≤ 2 → Completes (.powerState bay c) s fun t => answers t 0x0A 0 .none [] ∧ ∃ m', t.module bay = some m' ∧ m'.power = c.arg) ∧
    (2 < c.arg → Completes (.powerState bay c) s fun t => answers t 0x0A 5 .none [] ∧ ∃ m', t.module bay = some m' ∧ m'.power = m.power)

/-- INSERTION_DELAY_EXPIRY: a channel in WAIT_INSERT that is enabled, with presence asserted, the bus in its start window and the
selector in ON_A or ON_B, is in RAMP after the command. CHANNEL_POWER_GOOD: a channel in RAMP is ON with power good after it. In
both every other channel is unchanged, and the settings, TRIPS and last fault of the channel stay. -/
def Obligations.BayChannelStarts : Prop :=
  ∀ (bay : Fin 48) (s : State), s.bpd.chans.length = 48 →
    ((s.chan bay).st = .waitInsert → (s.chan bay).enabled = true → (s.chan bay).pres = true → s.bpd.busIn = true →
        (s.bpd.sel = .onA ∨ s.bpd.sel = .onB) →
      Completes (.insertionDelayExpiry bay) s fun t =>
        (t.chan bay).st = .ramp ∧ (t.chan bay).cfg = (s.chan bay).cfg ∧ (t.chan bay).run = (s.chan bay).run
          ∧ (t.chan bay).trips = (s.chan bay).trips ∧ (t.chan bay).lastFault = (s.chan bay).lastFault
          ∧ ∀ b : Nat, b ≠ bay → t.chan b = s.chan b) ∧
    ((s.chan bay).st = .ramp →
      Completes (.channelPowerGood bay) s fun t =>
        (t.chan bay).st = .on ∧ (t.chan bay).pg = true ∧ (t.chan bay).run = (s.chan bay).run
          ∧ (t.chan bay).trips = (s.chan bay).trips ∧ ∀ b : Nat, b ≠ bay → t.chan b = s.chan b)

/-- Each trip of Table 16.5: FAST_TRIP in RAMP is kind 2 and in ON kind 5, SOA_TIMEOUT in RAMP kind 3 and in ON kind 4, RAMP_TIMEOUT
in RAMP kind 1, PG_LOST in ON kind 6. After it the channel is in COOLDOWN, its last fault is the kind, TRIPS is one more (at
most 255), no toggle is recorded, its settings are the same, and every other channel is unchanged. -/
def Obligations.BayChannelTrips : Prop :=
  ∀ (bay : Fin 48) (s : State), s.bpd.chans.length = 48 →
    let tripped := fun (kind : Nat) (t : State) =>
      (t.chan bay).st = .cooldown ∧ (t.chan bay).lastFault = kind ∧ (t.chan bay).trips = satAdd 255 (s.chan bay).trips 1
        ∧ (t.chan bay).togglePend = false ∧ (t.chan bay).cfg = (s.chan bay).cfg ∧ (t.chan bay).pres = (s.chan bay).pres
        ∧ (t.chan bay).enabled = (s.chan bay).enabled ∧ ∀ b : Nat, b ≠ bay → t.chan b = s.chan b
    ((s.chan bay).st = .ramp →
      Completes (.rampTimeout bay) s (tripped 1) ∧ Completes (.fastTrip bay) s (tripped 2) ∧ Completes (.soaTimeout bay) s (tripped 3)) ∧
    ((s.chan bay).st = .on →
      Completes (.soaTimeout bay) s (tripped 4) ∧ Completes (.fastTrip bay) s (tripped 5) ∧ Completes (.pgLost bay) s (tripped 6))

/-- COOLDOWN_EXPIRY: a channel in COOLDOWN with no recorded toggle is LATCHED after it. FET_FAULT_TIMER: a channel commanded off
(OFF, COOLDOWN or LATCHED) is in FET_FAULT with last fault 7 and no recorded toggle after it. PRESENCE_ABSENT_100MS with
presence absent: a LATCHED channel is OFF, a COOLDOWN channel has its toggle recorded, and a retired port of the bay is OFF with
its latched retirement ended. In each, every other channel is unchanged. -/
def Obligations.BayChannelLatches : Prop :=
  ∀ (bay : Fin 48) (s : State), s.bpd.chans.length = 48 → s.sheet.ports.length = 48 →
    let others := fun (t : State) => ∀ b : Nat, b ≠ bay → t.chan b = s.chan b
    ((s.chan bay).st = .cooldown → (s.chan bay).togglePend = false →
      Completes (.cooldownExpiry bay) s fun t => (t.chan bay).st = .latched ∧ others t) ∧
    ((s.chan bay).st = .off ∨ (s.chan bay).st = .cooldown ∨ (s.chan bay).st = .latched →
      Completes (.fetFaultTimer bay) s fun t =>
        (t.chan bay).st = .fetFault ∧ (t.chan bay).lastFault = 7 ∧ (t.chan bay).togglePend = false
          ∧ (t.chan bay).trips = (s.chan bay).trips ∧ others t) ∧
    ((s.chan bay).pres = false → (s.chan bay).st = .latched →
      Completes (.presenceAbsent100ms bay) s fun t => (t.chan bay).st = .off ∧ (t.port bay).latchedLost = false ∧ others t) ∧
    ((s.chan bay).pres = false → (s.chan bay).st = .cooldown → (s.port bay).st = .retired →
      Completes (.presenceAbsent100ms bay) s fun t =>
        (t.chan bay).st = .cooldown ∧ (t.chan bay).togglePend = true ∧ (t.port bay).st = .off ∧ others t)

/-- FEED_WINDOW_CHANGE records the feed's window and voltage. FEED_LOST in ON_A, with no hold-up test running: feed A is lost and
not good, and the selector is in BREAK_AB. FEED_GOOD in INIT for feed A: ON_A. PATH_CONFIRMED_OFF in BREAK_AB with feed B in
window: ON_B; in BREAK_BA with feed A in window: ON_A; with the other feed out of window: HOLDUP with the Strike trigger set.
PATH_CONFIRM_TIMEOUT in BREAK_AB: the stuck bit of feed A is set and the selector is in HOLDUP. FEED_RETURN_TIMER in ON_B with
feed A good: BREAK_BA. DOWN_RESTART_TIMER with feed A good: ON_A through INIT. In every case the rails and the other feed's
record stay. -/
def Obligations.FeedSelector : Prop :=
  ∀ s : State,
    (∀ f w v, s.bpd.aux = true → Completes (.feedWindowChange f w v) s fun t =>
      (t.feed f).inWindow = w ∧ (t.feed f).since = s.now ∧ (t.feed f).volt = min v 255 ∧ (t.feed f).lost = (s.feed f).lost
        ∧ (t.feed f).good = (s.feed f).good ∧ t.bpd.sel = s.bpd.sel) ∧
    (s.bpd.aux = true → s.bpd.feedA.inWindow = false → s.bpd.sel = .onA → s.bpd.testBusy = false →
      Completes (.feedLost .a) s fun t =>
        t.bpd.sel = .breakAB ∧ t.bpd.feedA.lost = true ∧ t.bpd.feedA.good = false ∧ t.bpd.feedB = s.bpd.feedB ∧ t.bpd.rails = s.bpd.rails) ∧
    (s.bpd.aux = true → s.bpd.feedA.inWindow = true → s.bpd.sel = .init →
      Completes (.feedGood .a) s fun t => t.bpd.sel = .onA ∧ t.bpd.feedA.good = true ∧ t.bpd.feedA.lost = false ∧ t.bpd.feedB = s.bpd.feedB) ∧
    (s.bpd.sel = .breakAB → s.bpd.feedB.inWindow = true → Completes .pathConfirmedOff s fun t => t.bpd.sel = .onB ∧ t.bpd.rails = s.bpd.rails) ∧
    (s.bpd.sel = .breakBA → s.bpd.feedA.inWindow = true → Completes .pathConfirmedOff s fun t => t.bpd.sel = .onA ∧ t.bpd.rails = s.bpd.rails) ∧
    (s.bpd.sel = .breakAB → s.bpd.feedB.inWindow = false →
      Completes .pathConfirmedOff s fun t => t.bpd.sel = .holdup ∧ t.bpd.strikeTrig = true) ∧
    (s.bpd.sel = .breakAB → Completes .pathConfirmTimeout s fun t =>
      t.bpd.sel = .holdup ∧ t.bpd.feedA.stuck = true ∧ t.bpd.strikeTrig = true ∧ t.bpd.feedB = s.bpd.feedB) ∧
    (s.bpd.sel = .onB → s.bpd.feedA.good = true → Completes .feedReturnTimer s fun t => t.bpd.sel = .breakBA ∧ t.bpd.feedA = s.bpd.feedA) ∧
    (s.bpd.sel = .down → s.bpd.feedA.good = true → Completes .downRestartTimer s fun t => t.bpd.sel = .onA)

/-- BUS_BELOW_HOLD_MIN outside DOWN, and HOLDUP_PEER_TIMER in HOLDUP on a controller that runs no Strike, leave the selector in
DOWN, the main die off and in reset, the rails at 0, the Strike trigger off and no channel ON. HOLDUP_TEST_START (daily, never
tested) with the selected feed good, no test running and the main die awake starts the test. HOLDUP_TEST_END of a running test
records the hold time in units of 10 microseconds, the moment, and TEST_FAIL exactly when the time is below 12 ms.
BUS_START_WINDOW_CHANGE records the two window bits. HOLDUP_TEST_AGE_EXPIRY with hold-up good ended disarms Strike. -/
def Obligations.HoldupEndsDown : Prop :=
  ∀ s : State, s.bpd.chans.length = 48 →
    let down := fun (t : State) => t.bpd.sel = .down ∧ t.bpd.mainOn = false ∧ t.bpd.mainReset = true ∧ t.bpd.rails = 0
      ∧ t.bpd.strikeTrig = false ∧ ∀ b : Nat, (t.chan b).st ≠ .on
    (s.bpd.sel ≠ .down → s.bpd.aux = true → Completes .busBelowHoldMin s fun t => down t ∧ t.bpd.busOk = false ∧ t.bpd.busIn = false) ∧
    (s.bpd.sel = .holdup → s.log.strike ≠ .running → Completes .holdupPeerTimer s down) ∧
    (s.bpd.testAt = none → s.selGood = true → s.bpd.testBusy = false → s.awake = true →
      Completes (.holdupTestStart .daily) s fun t => t.bpd = { s.bpd with testBusy := true }) ∧
    (s.bpd.testBusy = true → ∀ ma v0 dv us, Completes (.holdupTestEnd ma v0 dv us) s fun t =>
      t.bpd = { s.bpd with
        testBusy := false, testMbx := none, holdUs := holdTime ma v0 dv us s.strikeWatts, testAt := some s.now
        testFail := decide (holdTime ma v0 dv us s.strikeWatts < 1200) }) ∧
    (∀ w a, Completes (.busStartWindowChange w a) s fun t => t.bpd.busIn = w ∧ t.bpd.busOk = a ∧ t.bpd.sel = s.bpd.sel) ∧
    (s.holdupGood = false → s.log.strikeArmed = true → Completes .holdupTestAgeExpiry s fun t => t.log.strikeArmed = false)

/-- RAIL_POWER_GOOD of rail k, the next in order, with the selector on a feed, the reference running, no power fault and the die in
reset: the next rail is enabled, and after rail 6 main power is on and the die's reset is released. RAIL_PG_TIMEOUT with rails
still to come: all rails off, PWR_FAULT_N low, and the second failure keeps the die off. RAIL_RETRY_TIMER: PWR_FAULT_N is
released and the sequence starts again. RAIL_PG_LOST and REFCLK_SYS_LOSS with main power on: main power off, die in reset, all
rails off, PWR_FAULT_N low, start-up at step 3. REFCLK_SYS_RESTORED: the reference runs again with all rails off. The selector
and the bay channels are not affected by any of them. -/
def Obligations.RailSequence : Prop :=
  ∀ s : State,
    let same := fun (t : State) => t.bpd.sel = s.bpd.sel ∧ t.bpd.chans = s.bpd.chans
    (s.feedOn = true → s.bpd.refclk = true → s.bpd.railsOff = false → s.bpd.pwrFault = false → s.bpd.mainReset = true → ∀ k : Fin 7, s.bpd.rails = k →
      Completes (.railPowerGood k) s fun t =>
        t.bpd.rails = k + 1 ∧ (t.bpd.mainOn = true ↔ k = 6 ∨ s.bpd.mainOn = true) ∧ (t.bpd.mainReset = false ↔ k = 6) ∧ same t) ∧
    (s.feedOn = true → s.bpd.railsOff = false → s.bpd.pwrFault = false → s.bpd.rails < 7 →
      Completes .railPgTimeout s fun t =>
        t.bpd.rails = 0 ∧ t.bpd.pwrFault = true ∧ t.bpd.railAttempt = s.bpd.railAttempt + 1
          ∧ t.bpd.railsOff = decide (1 ≤ s.bpd.railAttempt) ∧ same t) ∧
    (s.feedOn = true → s.bpd.refclk = true → s.bpd.railsOff = false → s.bpd.pwrFault = true →
      Completes .railRetryTimer s fun t => t.bpd.pwrFault = false ∧ t.bpd.rails = 0 ∧ t.bpd.railAttempt = s.bpd.railAttempt ∧ same t) ∧
    (s.bpd.mainOn = true →
      let off := fun (t : State) => t.bpd.mainOn = false ∧ t.bpd.mainReset = true ∧ t.bpd.rails = 0 ∧ t.bpd.pwrFault = true ∧ t.boot.step = 3 ∧ same t
      (∀ k, Completes (.railPgLost k) s off) ∧ Completes .refclkSysLoss s fun t => off t ∧ t.bpd.refclk = false) ∧
    (s.bpd.refclk = false → Completes .refclkSysRestored s fun t => t.bpd.refclk = true ∧ t.bpd.rails = 0 ∧ same t)

/-- PRESENCE_CHANGE with a module the bay did not hold: the bay holds a module of that descriptor with epoch 0 and no owner, and
presence is asserted. PRESENCE_CHANGE to absent: presence is off and the bay's channel is neither waiting, ramping nor ON.
AUXILIARY_POWER_REMOVED: the Bay Power Die is at reset with auxiliary power off, no channel ON, the F stop over and start-up at
step 1. JUNCTION_SENSOR_READ: the junction temperature is the highest reading. THERMAL_LEVEL_CHANGE on a die 1 ms past the trip
threshold holds the trip; 10 ms past the entry threshold raises the level by one; 1 s below the exit threshold lowers it by one. -/
def Obligations.HeatAndPresence : Prop :=
  ∀ s : State, s.bpd.chans.length = 48 → s.sheet.modules.length = 48 →
    (∀ (bay : Fin 48) d, (s.chan bay).pres = false → s.module bay = none →
      Completes (.presenceChange bay (some d)) s fun t =>
        (t.chan bay).pres = true ∧ (∃ m, t.module bay = some m ∧ m.desc = d ∧ m.epoch = 0 ∧ m.owner = 0)
          ∧ ∀ b : Nat, b ≠ bay → t.chan b = s.chan b ∧ t.module b = s.module b) ∧
    (∀ bay : Fin 48, (s.chan bay).pres = true →
      Completes (.presenceChange bay none) s fun t =>
        (t.chan bay).pres = false ∧ (t.chan bay).st ≠ .waitInsert ∧ (t.chan bay).st ≠ .ramp ∧ (t.chan bay).st ≠ .on
          ∧ ∀ b : Nat, b ≠ bay → t.chan b = s.chan b) ∧
    (s.bpd.aux = true → Completes .auxiliaryPowerRemoved s fun t =>
      t.bpd.aux = false ∧ t.bpd.sel = .init ∧ t.bpd.mainOn = false ∧ t.flt.stopped = false ∧ t.boot.step = 1
        ∧ ∀ b : Nat, (t.chan b).st = .off ∧ (t.chan b).pres = (s.chan b).pres) ∧
    (∀ v l, Completes (.junctionSensorRead (v :: l)) s fun t => t.boot.junction = l.foldl max v) ∧
    (s.awake = true → s.boot.tripHold = false →
      (∀ τ, s.boot.tripSince = some τ → τ + ms 1 ≤ s.now → Completes .thermalLevelChange s fun t => t.boot = { s.boot with tripHold := true }) ∧
      (s.boot.tripSince = none → s.boot.aboveSince ≠ 0 → s.boot.aboveSince + ms 10 ≤ s.now + 1 →
        Completes .thermalLevelChange s fun t => t.boot.thermal = s.boot.thermal + 1 ∧ t.boot.junction = s.boot.junction) ∧
      (s.boot.tripSince = none → s.boot.aboveSince = 0 → s.boot.belowSince ≠ 0 → s.boot.belowSince + secs 1 ≤ s.now + 1 →
        Completes .thermalLevelChange s fun t => t.boot.thermal = s.boot.thermal - 1 ∧ t.boot.junction = s.boot.junction))

/-- FRAME_BOUNDARY with the main die awake: the frame number is one more, the slot is 0 and the DRAM pointer alternates. With no
live change due, the retention clock has gained 0.9999 of a frame (10,238,976 ps) and the intake queues and the next order
number are as before; and, with no seal running, a lane of the committed image with a budget has the budget of the throttle
level less its debt, and its debt is what the budget did not cover (R31). SEQUENCER_SLOT of a controller that plays a committed
image, the slot not behind: the slot number is the command's, and the grants are exactly those of the entries of the Storage,
Flash and crossbar tables whose run covers the slot, each with its sequencer, resource, class and owning lane; a lane with ready
work takes the slot granted to it, and class 0xD goes to nobody while Strike does not run. -/
def Obligations.FrameAndSlots : Prop :=
  ∀ s : State,
    (s.awake = true → Completes .frameBoundary s fun t =>
      t.clk = { s.clk with frame := (s.clk.frame + 1) % 2 ^ 64, slot := 0, dramNet := !s.clk.dramNet } ∧ t.boot = s.boot ∧ t.pair = s.pair) ∧
    (s.awake = true → s.fn.changes = [] → Completes .frameBoundary s fun t =>
      t.cip.rclkPs = s.cip.rclkPs + 10238976 ∧ t.sched.inputs = s.sched.inputs ∧ t.sched.nextOrder = s.sched.nextOrder
        ∧ (∀ i l e, s.fn.committed = some i → (l, e) ∈ i.lanes → (i.lanes.map Prod.fst).Nodup → e.budget ≠ 0 →
            tabWf s.sched.debt = true → (∀ n c, (n, c) ∈ s.sched.cmds → c.kind ≠ .seal) →
            tabGetD t.sched.left l 0 = s.frameBudget e - tabGetD s.sched.debt l 0
              ∧ tabGetD t.sched.debt l 0 = tabGetD s.sched.debt l 0 - s.frameBudget e)) ∧
    (∀ (slot : Fin 16384) i, s.clk.slot ≤ slot → s.fn.committed = some i → s.sequencing = true →
      Completes (.sequencerSlot slot) s fun t =>
        t.clk = { s.clk with slot := slot } ∧ { t.sched with grants := s.sched.grants } = s.sched
          ∧ (∀ q r c l, (∃ g ∈ t.sched.grants, g.seq = q ∧ g.resource = r ∧ g.cls = c ∧ g.owner = l) ↔
              ∃ tb ∈ i.slotTables, tb.seqId = q ∧ q ≠ 0x30 ∧ ∃ e ∈ tb.entries,
                e.start ≤ slot ∧ slot ≤ e.start + e.length ∧ e.resource = r ∧ e.cls = c ∧ e.lane = l)
          ∧ ∀ g ∈ t.sched.grants,
              (g.cls ≠ 0xD → g.owner ≠ 0x1FFF → s.laneReady g.owner g.cls = true → g.taker = some g.owner)
                ∧ (g.cls = 0xD → s.log.strike ≠ .running → g.taker = none))

/-- INTAKE_SLOT of a slot not behind, when one input alone has a visible head, no forwarded command waits for a credit and the
controller orders commands: the head leaves its input, the order number rises by one, and the other inputs are as before; a
command that is no write and no seal is then in the table of commands under that number with its source, namespace and capsule,
not yet admitted. With intake stopped nothing is taken. ADMISSION of a taken command whose lane is out of debt and has a unit
left, or that needs none: it is admitted, its units leave the lane's budget and the excess is debt; a lane in debt admits
nothing. OVERLAP_WAIT_END: a command that no earlier overlapping command holds back goes on; one that is held back stays. -/
def Obligations.IntakeAndAdmission : Prop :=
  ∀ s : State, s.sched.inputs.length = 18 → s.sched.lastTaken.length = 18 →
    (∀ (slot : Fin 16384) (q : Fin 18) h l, s.clk.slot ≤ slot → s.sched.peerHeld = [] → s.awake = true → s.sched.intakeStopped = false → s.canOrder = true →
        nth s.sched.inputs q [] = h :: l → (∀ p : Fin 18, p ≠ q → nth s.sched.inputs p [] = []) →
        s.firstSlot q h ≤ s.clk.base + 16384 * s.clk.frame + slot →
      Completes (.intakeSlot slot) s fun t =>
        t.sched.nextOrder = s.sched.nextOrder + 1 ∧ nth t.sched.inputs q [] = l
          ∧ (∀ p : Fin 18, p ≠ q → nth t.sched.inputs p [] = []) ∧ t.clk = { s.clk with slot := slot }
          ∧ (h.kind ≠ .write → h.kind ≠ .seal → ∃ c, t.cmd s.sched.nextOrder = some c ∧ c.src = h.src ∧ c.kind = h.kind ∧ c.ns = h.ns
              ∧ c.cap = h.cap ∧ c.lane = h.lane ∧ c.phase = .taken)) ∧
    (∀ slot : Fin 16384, s.clk.slot ≤ slot → s.sched.intakeStopped = true → Completes (.intakeSlot slot) s fun t => t = s.onClk fun c => { c with slot := slot }) ∧
    (∀ ord c l e, s.cmd ord = some c → c.phase = .taken → s.sequencing = true → s.pair.st ≠ .lapsed → c.lane = some l →
        s.laneEntry l = some e →
      (tabGetD s.sched.debt l 0 = 0 → tabGetD s.sched.left l 0 ≠ 0 ∨ c.units4k e = 0 → tabWf s.sched.debt = true →
        Completes (.admission ord) s fun t =>
          (∃ d, t.cmd ord = some d ∧ d.phase = .admitted ∧ d.key = s.keyNow c.ns ∧ d.cap = c.cap)
            ∧ tabGetD t.sched.left l 0 = tabGetD s.sched.left l 0 - c.units4k e
            ∧ tabGetD t.sched.debt l 0 = c.units4k e - tabGetD s.sched.left l 0
            ∧ (∀ n, n ≠ ord → t.cmd n = s.cmd n) ∧ t.sched.nextOrder = s.sched.nextOrder) ∧
      (tabGetD s.sched.debt l 0 ≠ 0 → exec (.admission ord) s = .next s)) ∧
    (∀ ord c, s.cmd ord = some c →
      (s.mustWait ord c = false → Completes (.overlapWaitEnd ord) s fun t =>
        t.cmd ord = some { c with seq := true } ∧ (∀ n, n ≠ ord → t.cmd n = s.cmd n) ∧ t.sched.overlap = s.sched.overlap) ∧
      (s.mustWait ord c = true → exec (.overlapWaitEnd ord) s = .next s))

/-- The Network Region up. FRONT_FRAME_RX on a linked port: a frame with a bad FCS or longer than MAX_FRAME is dropped and counted;
on a logical port held by a rule update the frame goes to the hold FIFO while 512 KiB hold it and is dropped and counted
otherwise; else it enters the ingress path with the next sequence number and the parser cell of its count (R299, R302, R310).
REORDER_RELEASE: the oldest frame leaves the ingress path once its action is known and PSEQ goes on; an unclassified one holds
the port (R300). FRONT_LINK_CHANGE records the link, and CONTROL_PORT_FRAME answers or hands on its kinds and discards the
others with a count (R307). Other ports are unchanged in each. -/
def Obligations.FrontFrames : Prop :=
  ∀ (p : Fin 8) (s : State), s.net.ports.length = 8 → s.nrUp = true →
    let x := s.front p
    let others := fun (t : State) => ∀ q : Nat, q ≠ p → t.front q = s.front q
    let big := fun (n : Nat) => match s.portEntry p with | some e => e.maxFrame < n | none => 9216 < n
    (∀ (sub : Fin 4) f, x.linkUp = true → f.fcsOk = false → Completes (.frontFrameRx p sub f) s fun t =>
      t.front p = { x with rxCount := x.rxCount + 1, fcsDrops := x.fcsDrops + 1 } ∧ others t) ∧
    (∀ (sub : Fin 4) f, x.linkUp = true → f.fcsOk = true → big f.len → Completes (.frontFrameRx p sub f) s fun t =>
      t.front p = { x with rxCount := x.rxCount + 1, longDrops := x.longDrops + 1 } ∧ others t) ∧
    (∀ (sub : Fin 4) f, x.linkUp = true → f.fcsOk = true → ¬ big f.len → nth s.net.rulePhase (4 * p + sub) .running ≠ .running →
      Completes (.frontFrameRx p sub f) s fun t => others t ∧
        if x.holdBytes + f.len ≤ 524288 then
          t.front p = { x with rxCount := x.rxCount + 1, hold := x.hold ++ [((sub : Nat), x.rxCount + 1, parseFrame f)], holdBytes := x.holdBytes + f.len }
        else t.front p = { x with rxCount := x.rxCount + 1, pauseDrops := x.pauseDrops + 1 }) ∧
    (∀ (sub : Fin 4) f, x.linkUp = true → f.fcsOk = true → ¬ big f.len → nth s.net.rulePhase (4 * p + sub) .running = .running →
      Completes (.frontFrameRx p sub f) s fun t => others t ∧ (t.front p).rxCount = x.rxCount + 1 ∧ (t.front p).pseqNext = (x.pseqNext + 1) % 65536
        ∧ (t.front p).ingress = x.ingress ++ [⟨x.pseqNext, sub, parseFrame f, (2 * p + (x.rxCount + 1)) % 16, none, false⟩]) ∧
    (∀ r l a, x.ingress = r :: l → r.action = some a → Completes (.reorderRelease p) s fun t =>
      (t.front p).ingress = l ∧ (t.front p).pseqOut = (r.pseq + 1) % 65536 ∧ others t ∧ (a.kind = 1 → t.net.clsDrops = s.net.clsDrops + 1)) ∧
    (∀ r l, x.ingress = r :: l → r.action = none → exec (.reorderRelease p) s = .next s) ∧
    (∀ up, Completes (.frontLinkChange p up) s fun t => t.front p = { x with linkUp := up } ∧ others t) ∧
    (∀ kind, Completes (.controlPortFrame p kind) s fun t =>
      if kind = .other then t.net.ctlDiscards = s.net.ctlDiscards + 1 ∧ t.out = s.out
      else t.out = .control p kind :: s.out ∧ t.net = s.net ∧ (kind ≠ .ieee1588 → t.clk = s.clk))

/-- The main die awake. CLASSIFY of a frame that waits in the ingress path, with rules in force: a malformed frame in mode 2430
takes the port's malformed action; an unfragmented frame takes the action of the tree walk of its key; a first fragment does too
and its entry is in the fragment table when the table has room; a later fragment takes the action of its entry within 2 ms of
the first, or is parked while 32 fragments and 256 KiB are not exceeded (R305, R311 to R315). FRAGMENT_ENTRY_EXPIRY removes an
entry 2 ms old and no younger one. FRAGMENT_PARK_TIMEOUT releases each fragment of that number parked for 500 us and counts it.
RULE_UPDATE_PORT_STEP moves a holding port with nothing of its own in the ingress path to empty, and an empty one to reloaded
(Table 12.8). -/
def Obligations.ClassifyAndFragments : Prop :=
  ∀ s : State, s.net.ports.length = 8 → s.net.rulePhase.length = 32 → s.awake = true →
    (∀ (p : Fin 8) pseq r c, (s.front p).ingress.find? (fun r => r.pseq == pseq && r.action.isNone) = some r → s.rulesFor (4 * p + r.sub) = some c →
      let given := fun (t : State) (a : ClsAction) (bad : Bool) =>
        (t.front p).ingress = (s.front p).ingress.map fun x => if x.pseq = pseq then { x with action := some a, malformed := bad } else x
      let a := classifyKey c (4 * p + r.sub) r.frame
      (s.malformed2430 r.frame = true → Completes (.classify p pseq) s fun t =>
        (∀ e, c.ports[4 * p + r.sub]? = some e → given t (actionOf c e.malf) true) ∧ (t.front p).malformed = (s.front p).malformed + 1) ∧
      (s.malformed2430 r.frame = false → r.frame.frag ≠ 1 → r.frame.frag ≠ 2 → Completes (.classify p pseq) s fun t =>
        given t a false ∧ t.net.frags = s.net.frags ∧ t.net.parked = s.net.parked) ∧
      (s.malformed2430 r.frame = false → r.frame.frag = 1 → (∀ e ∈ s.net.parked, e.key ≠ fragKeyOf r.frame) →
          let live := s.net.frags.filter fun e => decide (s.now ≤ e.since + ms 2)
          (∀ e ∈ live, e.key ≠ fragKeyOf r.frame) → Completes (.classify p pseq) s fun t =>
        given t a false ∧ t.net.parked = s.net.parked ∧
          (if live.length < 4096 then t.net.frags = live ++ [⟨fragKeyOf r.frame, a, s.now⟩]
            else t.net.frags = s.net.frags ∧ t.net.tableFull = s.net.tableFull + 1)) ∧
      (s.malformed2430 r.frame = false → r.frame.frag = 2 → ∀ e, s.net.frags.find? (fun e => e.key == fragKeyOf r.frame && decide (s.now ≤ e.since + ms 2)) = some e →
        Completes (.classify p pseq) s fun t => given t e.action false ∧ t.net.frags = s.net.frags) ∧
      (s.malformed2430 r.frame = false → r.frame.frag = 2 → (∀ e ∈ s.net.frags, s.now ≤ e.since + ms 2 → e.key ≠ fragKeyOf r.frame) → s.net.parked.length < 32 →
          s.net.parked.foldl (fun n e => n + e.fr.frame.len) 0 + r.frame.len ≤ 262144 → Completes (.classify p pseq) s fun t =>
        t.net.parked = s.net.parked ++ [⟨fragKeyOf r.frame, p, r, s.now⟩] ∧ (t.front p).ingress = (s.front p).ingress.filter fun x => x.pseq != pseq)) ∧
    (∀ key, Completes (.fragmentEntryExpiry key) s fun t =>
      ∀ e, e ∈ t.net.frags ↔ e ∈ s.net.frags ∧ ¬ (e.key = key ∧ e.since + ms 2 ≤ s.now)) ∧
    (∀ (p : Fin 8) pseq, (∃ e ∈ s.net.parked, e.port = p ∧ e.fr.pseq = pseq ∧ e.since + us 500 ≤ s.now) →
      Completes (.fragmentParkTimeout p pseq) s fun t =>
        t.net.parkTimeouts = s.net.parkTimeouts + (s.net.parked.filter fun e => e.port == p.val && e.fr.pseq == pseq && decide (e.since + us 500 ≤ s.now)).length
          ∧ ∀ e, e ∈ t.net.parked ↔ e ∈ s.net.parked ∧ ¬ (e.port = p ∧ e.fr.pseq = pseq ∧ e.since + us 500 ≤ s.now)) ∧
    (∀ l : Fin 32,
      (nth s.net.rulePhase l .running = .holding → (∀ r ∈ (s.front (l / 4 : Nat)).ingress, r.sub ≠ l % 4) →
        Completes (.ruleUpdatePortStep l) s fun t => t.net.rulePhase = putNth s.net.rulePhase l .empty ∧ t.net.ports = s.net.ports) ∧
      (nth s.net.rulePhase l .running = .empty →
        Completes (.ruleUpdatePortStep l) s fun t => t.net.rulePhase = putNth s.net.rulePhase l .reloaded ∧ t.net.ports = s.net.ports) ∧
      (nth s.net.rulePhase l .running = .reloaded → s.net.ruleNext = none →
        Completes (.ruleUpdatePortStep l) s fun t => t.net.rulePhase = putNth s.net.rulePhase l .running
          ∧ ∀ e ∈ (t.front (l / 4 : Nat)).hold, e.1 ≠ l % 4))

/-- The main die awake. PFC_FRAME_RX on a port of the committed image: every class mapped by CLS_PCP to an enabled priority of the
frame is paused until its quanta have passed, or is no longer paused when the quanta are 0, and no other class changes (R333).
PFC_PAUSE_EXPIRY: the classes of the priority whose time has passed are no longer paused. PFC_XOFF_REPEAT of a sub-port in XOFF:
with at most XON_CELLS held it sends XON and leaves XOFF, else it sends XOFF again. SWITCH_MATCH: at most one frame ends at each
output; and with one queue alone, ready, at an output from 8 to 13 whose cell time is not reserved, one cell of its one frame
moves, and the frame leaves at its last cell (R317, R322). -/
def Obligations.FlowControlAndMatching : Prop :=
  ∀ s : State, s.awake = true →
    (∀ (port : Fin 8) (sub : Fin 4) (prios : BitVec 8) quanta e, s.portEntry port = some e → tabWf s.net.paused = true →
      Completes (.pfcFrameRx port sub prios quanta) s fun t => ∀ cls : Nat, cls < 8 →
        tabGet t.net.paused (pauseKey port sub cls) =
          if prios.getLsbD (nth e.clsPcp cls 0) = true ∧ e.pfc.getLsbD (nth e.clsPcp cls 0) = true ∧ nth e.clsPcp cls 0 < 8 then
            if quanta = 0 then none else some (s.now + quantaSlots e quanta)
          else tabGet s.net.paused (pauseKey port sub cls)) ∧
    (∀ (port : Fin 8) (sub : Fin 4) (prio : Fin 8) e, s.portEntry port = some e → tabWf s.net.paused = true →
      Completes (.pfcPauseExpiry port sub prio) s fun t => ∀ cls : Nat, cls < 8 →
        tabGet t.net.paused (pauseKey port sub cls) =
          if nth e.clsPcp cls 0 = prio ∧ tabGetD s.net.paused (pauseKey port sub cls) (s.now + 1) ≤ s.now then none
          else tabGet s.net.paused (pauseKey port sub cls)) ∧
    (∀ (port : Fin 8) (sub : Fin 4) (prio : Fin 8) q, s.qos = some q → ((port : Nat), (sub : Nat), (prio : Nat)) ∈ s.net.xoff →
      (s.net.prioCells port sub prio ≤ q.xonCells → Completes (.pfcXoffRepeat port sub prio) s fun t =>
        t.out = .xoff port sub prio 0 :: s.out ∧ ((port : Nat), (sub : Nat), (prio : Nat)) ∉ t.net.xoff) ∧
      (q.xonCells < s.net.prioCells port sub prio → Completes (.pfcXoffRepeat port sub prio) s fun t =>
        t.out = .xoff port sub prio 0xFFFF :: s.out ∧ t.net = s.net)) ∧
    (∀ cell : Fin 7680, Completes (.switchMatch cell) s fun t => ∃ new, t.out = new ++ s.out ∧ ∀ o : Nat,
      (new.filter fun e => match e with | .frame outp .. => outp == o | _ => false).length ≤ 1) ∧
    (∀ (cell : Fin 7680) k f, s.net.voqs = [(k, [f])] → s.net.offers = [] → (∀ c ∈ s.rdma.cells, c.control = []) → s.voqReady k = true →
        k.inp < 14 → 8 ≤ k.outp → k.outp < 14 → s.reservedCell k.outp cell = none →
      Completes (.switchMatch cell) s fun t =>
        if f.crossed + 1 < f.cells then t.net.voqs = [(k, [{ f with crossed := f.crossed + 1 }])] ∧ t.out = s.out
        else voqGet t.net.voqs k = [] ∧ t.out = .frame k.outp k.sub k.cls f.id f.len f.ce :: s.out)

/-- The main die awake. CM_REQUEST within Table 11.5, with a cell that has room and the Network region in service: a FREE queue pair
of a cell with the fewest queue pairs is CONNECTING with the request's port, address, QPN, PMTU and starting PSN, and the
request is accepted; one with an option outside the table is rejected and no queue pair changes (R278, R282). CM_READY_TO_USE:
CONNECTING becomes READY. CM_REJECT_RX, and CONNECTING_TIMEOUT after 1 s: CONNECTING becomes TIMEWAIT. CM_DISCONNECT: READY
becomes FLUSHING with nothing to send or fetch, and the controller of an admin queue is gone. QP_FLUSH_COMPLETE with no command
left: TIMEWAIT. TIMEWAIT_EXPIRY after 100 ms: FREE, its reservation released (R251, R269, R283). -/
def Obligations.ConnectionStates : Prop :=
  ∀ s : State, tabWf s.rdma.qps = true → s.awake = true →
    (∀ req, req.optionsOk = true → (req.pmtu = 1024 ∨ req.pmtu = 2048 ∨ req.pmtu = 4096) → s.nrUp = true →
        (∃ c : Fin 16, s.cellLoad c < 1024) → Completes (.cmRequest req) s fun t => ∃ q, q < 16384 ∧ (s.qp q).st = .free
      ∧ (∀ c : Fin 16, s.cellLoad (q % 16) ≤ s.cellLoad c) ∧ (t.qp q).st = .connecting ∧ (t.qp q).port = req.frontPort ∧ (t.qp q).addr = req.addr
      ∧ (t.qp q).hostQpn = req.hostQpn ∧ (t.qp q).pmtu = req.pmtu ∧ (t.qp q).ePsn = req.startPsn ∧ (t.qp q).entries = req.sqEntries
      ∧ t.out = .cm q true :: s.out ∧ ∀ p, p ≠ q → t.qp p = s.qp p) ∧
    (∀ req, req.optionsOk = false → Completes (.cmRequest req) s fun t => t.out = .cmReject :: s.out ∧ t.rdma = s.rdma) ∧
    ∀ q : Fin 16384,
      let x := s.qp q
      let others := fun (t : State) => ∀ p : Nat, p ≠ q → t.qp p = s.qp p
      (x.st = .connecting → Completes (.cmReadyToUse q) s fun t => t.qp q = { x with st := .ready, since := s.now } ∧ others t) ∧
      (x.st = .connecting → Completes (.cmRejectRx q) s fun t => (t.qp q).st = .timewait ∧ (t.qp q).since = s.now ∧ others t) ∧
      (x.st = .connecting → x.since + secs 1 ≤ s.now → Completes (.connectingTimeout q) s fun t =>
        (t.qp q).st = .timewait ∧ (t.qp q).since = s.now ∧ others t) ∧
      (x.st = .connecting → s.now < x.since + secs 1 → exec (.connectingTimeout q) s = .next s) ∧
      (x.st = .ready → Completes (.cmDisconnect q) s fun t =>
        (t.qp q).st = .flushing ∧ (t.qp q).reqs = [] ∧ (t.qp q).inq = [] ∧ (t.qp q).cqes = []
          ∧ ∀ c, x.ctl = some c → x.admin = true → tabWf s.nvme.ctls = true → tabGet t.nvme.ctls c = none) ∧
      (x.st = .flushing → s.qpBusy q = false → Completes (.qpFlushComplete q) s fun t =>
        (t.qp q).st = .timewait ∧ (t.qp q).since = s.now ∧ (t.qp q).held = [] ∧ others t) ∧
      (x.st = .flushing → s.qpBusy q = true → exec (.qpFlushComplete q) s = .next s) ∧
      (x.st = .timewait → x.since + ms 100 ≤ s.now → tabWf s.nvme.resv = true → Completes (.timewaitExpiry q) s fun t =>
        (t.qp q).st = .free ∧ tabGet t.nvme.resv q = none ∧ others t)

/-- The main die awake and, for a SEND, the Network Region up. For a packet whose QPN names a READY queue pair and whose keys, ICRC
and address are right: RDMA_SEND_RX at the expected PSN with a receive buffer free queues the capsule and moves the PSN on, past
the held ones too; with none free it answers with an RNR NAK and queues nothing; up to 255 ahead it is held while buffers last;
further ahead one sequence NAK goes out; behind it is acknowledged and counted (R284 to R288). RDMA_REQUEST_GAP_TIMER 32 us
after a capsule was held ahead sends the sequence NAK. RDMA_ACK_COALESCE_TIMER sends the ACK that is due. RDMA_OPCODE_REFUSED
sends the queue pair to FLUSHING. CAPSULE_TO_INTAKE with a staging credit: the oldest capsule is at the end of its input,
visible from the second slot edge and the edge delay (R56, R57). -/
def Obligations.InboundSends : Prop :=
  ∀ s : State, s.rdma.cells.length = 16 → s.awake = true → ∀ q : Fin 16384, (s.qp q).st = .ready →
    let x := s.qp q
    let nak := fun (t : State) (syndrome : Nat) => ∃ e ∈ (t.cell q).control, e.q = q ∧ e.kind = .nak ∧ e.psn = x.ePsn.toNat ∧ e.syndrome = syndrome
    (∀ (h : PktHdr) (c : Capsule), s.nrUp = true → s.qpnIndex h.qpn = some (q : Nat) → h.pkeyOk = true → h.icrcOk = true → h.addrOk = true →
      (h.psn = x.ePsn → x.freeBufs ≠ 0 → Completes (.rdmaSendRx h c) s fun t =>
        (∃ l, (t.qp q).inq = x.inq ++ c :: l ∧ (t.qp q).ePsn = x.ePsn + 1 + BitVec.ofNat 24 l.length ∧ (x.held = [] → l = []))
          ∧ (t.qp q).st = .ready ∧ (t.qp q).nakOut = false) ∧
      (h.psn = x.ePsn → x.freeBufs = 0 → Completes (.rdmaSendRx h c) s fun t => (t.qp q).inq = x.inq ∧ (t.qp q).ePsn = x.ePsn ∧ nak t 0x21) ∧
      (0 < psnDist h.psn x.ePsn → psnDist h.psn x.ePsn ≤ 255 → psnDist h.psn x.ePsn < x.freeBufs → (∀ e ∈ x.held, e.1 ≠ h.psn.toNat) →
        Completes (.rdmaSendRx h c) s fun t => (t.qp q).held = x.held ++ [(h.psn.toNat, c)] ∧ (t.qp q).inq = x.inq ∧ (t.qp q).ePsn = x.ePsn) ∧
      (255 < psnDist h.psn x.ePsn → psnDist h.psn x.ePsn < 2 ^ 23 → x.nakOut = false → Completes (.rdmaSendRx h c) s fun t =>
        (t.qp q).inq = x.inq ∧ (t.qp q).nakOut = true ∧ nak t 0x60) ∧
      (2 ^ 23 ≤ psnDist h.psn x.ePsn → Completes (.rdmaSendRx h c) s fun t =>
        (t.qp q).inq = x.inq ∧ (t.qp q).ePsn = x.ePsn ∧ (t.cell q).duplicates = (s.cell q).duplicates + 1)) ∧
    (∀ τ, x.heldSince = some τ → τ + us 32 ≤ s.now → Completes (.rdmaRequestGapTimer q) s fun t =>
      (t.qp q).nakOut = true ∧ (t.qp q).heldSince = some s.now ∧ (t.qp q).held = x.held ∧ nak t 0x60) ∧
    (∀ τ, x.ackDue = some τ → τ ≤ s.now → Completes (.rdmaAckCoalesceTimer q) s fun t =>
      (t.qp q).ackDue = none ∧ ∃ e ∈ (t.cell q).control, e.q = q ∧ e.kind = .ack ∧ e.psn = (x.ePsn - 1).toNat ∧ e.msn = x.msn) ∧
    (∀ (h : PktHdr) opcode, s.qpnIndex h.qpn = some (q : Nat) → h.pkeyOk = true → h.icrcOk = true → h.addrOk = true →
        opcode ≠ 0x04 → opcode ≠ 0x11 → opcode ≠ 0x81 → opcode < 0x0D ∨ 0x10 < opcode →
      Completes (.rdmaOpcodeRefused h opcode) s fun t => (t.qp q).st = .flushing) ∧
    (∀ (delay : Fin 3) c l tenant k n e, x.inq = c :: l → x.tenant = some tenant → capKind x.admin c = some k → s.pair.st ≠ .standby →
        s.laneFor k (capNs c) tenant = some n → s.laneEntry n = some e → tabGetD s.sched.staged n 0 < max 1 e.escapeCr →
        s.sched.inputs.length = 18 → Completes (.capsuleToIntake q delay) s fun t =>
      (t.qp q).inq = l ∧ tabGetD t.sched.staged n 0 = tabGetD s.sched.staged n 0 + 1
        ∧ nth t.sched.inputs (q % 16 : Nat) [] = nth s.sched.inputs (q % 16 : Nat) [] ++
            [{ src := .qp q c.cid, cap := c, kind := k, ns := capNs c, visible := s.now + 2 + delay, lane := some n, data := [], marked := [] }])

/-- The main die awake, on a READY queue pair: RDMA_READ_ISSUE for the oldest command with data to fetch, within the window, the
request count and the staging slots, sends one request of at most 128 KiB at the next PSN, and the PSN, the slots and the
command's fetched count move on (R289, R290); outside them nothing happens. RDMA_READ_RESPONSE_RX: a packet of the right length
for an outstanding request sets its bit, or completes the request when the bitmap is full; one whose bit is set changes no
request; one of no request is counted late. RDMA_RESPONSE_GAP_TIMER 32 us after a later response re-issues from the first
missing PSN and counts a retry; RDMA_ACK_TIMEOUT resends from the oldest unacknowledged packet and counts one; with the retries
spent the queue pair is FLUSHING (R291, R295). -/
def Obligations.FetchingHostData : Prop :=
  ∀ s : State, s.rdma.cells.length = 16 → s.awake = true → ∀ q : Fin 16384, (s.qp q).st = .ready →
    let x := s.qp q
    (∀ ord c, s.nextFetch q = some (ord, c) → s.cmd ord = some c →
      let n := min 32 (c.len - c.fetchNext)
      let pk := (4096 * n + x.pmtu - 1) / x.pmtu
      let last := x.sPsn + BitVec.ofNat 24 pk - 1
      (x.reqs.length < 16 → x.reqs.length < x.responder → psnDist last x.windowBase < 256 → (s.cell q).stagingUsed + n ≤ 512 →
        Completes (.rdmaReadIssue q) s fun t =>
          (∃ r, (t.qp q).reqs = x.reqs ++ [r] ∧ r.ord = ord ∧ r.offset = 4096 * c.fetchNext ∧ r.length = 4096 * n ∧ r.firstPsn = x.sPsn.toNat)
            ∧ (t.qp q).sPsn = x.sPsn + BitVec.ofNat 24 pk ∧ (t.cell q).stagingUsed = (s.cell q).stagingUsed + n
            ∧ t.cmd ord = some { c with fetchNext := c.fetchNext + n }
            ∧ t.out = .rdma q (.readRequest x.sPsn.toNat (c.cap.sglAddr + 4096 * c.fetchNext) c.cap.sglKey (4096 * n)) :: s.out) ∧
      (16 ≤ x.reqs.length ∨ x.responder ≤ x.reqs.length ∨ 256 ≤ psnDist last x.windowBase ∨ 512 < (s.cell q).stagingUsed + n →
        exec (.rdmaReadIssue q) s = .next s)) ∧
    (∀ (h : PktHdr) bytes payload, s.qpnIndex h.qpn = some (q : Nat) → h.pkeyOk = true → h.icrcOk = true → h.addrOk = true →
      (∀ r, psnDist h.psn x.windowBase < 256 → x.reqOf h.psn = some r →
        let i := psnDist h.psn (BitVec.ofNat 24 r.firstPsn)
        (i ∉ r.got → bytes = min x.pmtu (r.length - i * x.pmtu) → Completes (.rdmaReadResponseRx h bytes payload) s fun t =>
          if r.got.length + 1 = r.packets x.pmtu then ∀ y ∈ (t.qp q).reqs, y.firstPsn ≠ r.firstPsn
          else ∃ y ∈ (t.qp q).reqs, y.firstPsn = r.firstPsn ∧ y.got = i :: r.got ∧ y.chunks = (i, payload) :: r.chunks) ∧
        (i ∈ r.got → Completes (.rdmaReadResponseRx h bytes payload) s fun t => (t.qp q).reqs = x.reqs ∧ t.sched = s.sched)) ∧
      (256 ≤ psnDist h.psn x.windowBase ∨ x.reqOf h.psn = none → Completes (.rdmaReadResponseRx h bytes payload) s fun t =>
        (t.qp q).reqs = x.reqs ∧ (t.cell q).late = (s.cell q).late + 1)) ∧
    (∀ r l m c τ, x.reqs = r :: l → r.reissue = false → r.higherAt = some τ → τ + us 32 ≤ s.now →
        (List.range (r.packets x.pmtu)).find? (fun j => !r.got.contains j) = some m → s.cmd r.ord = some c →
      (x.retries < x.retryMax → Completes (.rdmaResponseGapTimer q) s fun t =>
        (t.qp q).retries = x.retries + 1 ∧ t.out = .rdma q (.readRequest ((r.firstPsn + m) % 2 ^ 24) (c.cap.sglAddr + r.offset + m * x.pmtu)
          c.cap.sglKey (r.length - m * x.pmtu)) :: s.out) ∧
      (x.retryMax ≤ x.retries → Completes (.rdmaResponseGapTimer q) s fun t => (t.qp q).st = .flushing)) ∧
    (∀ e l, x.sends = e :: l → e.sentAt + x.ackTimeout ≤ s.now →
      (x.retries < x.retryMax → Completes (.rdmaAckTimeout q) s fun t =>
        (t.qp q).retries = x.retries + 1 ∧ t.out = .rdma q (.resendFrom e.psn) :: s.out ∧ (t.qp q).st = .ready) ∧
      (x.retryMax ≤ x.retries → Completes (.rdmaAckTimeout q) s fun t => (t.qp q).st = .flushing))

/-- The main die awake. For a right packet to a READY queue pair: RDMA_ACK_RX takes the credit count of its code and, with no
completion waiting, the packets not yet sent entries are those beyond the PSN (R293, R294). RDMA_NAK_RX: a sequence error that
acknowledges nothing resends from the oldest packet and counts a retry; an RNR NAK within the RNR retry count waits out its
timer; any other NAK leaves the queue pair FLUSHING (R283, R294, R295). RDMA_RNR_RETRY_TIMER resends once the timer has run out.
READ_DATA_TO_HOST of a read whose sectors are all present: a forwarded one's data goes back with its completion over the peer
link, one of a queue pair goes out as RDMA WRITE and the command is gone, and a forwarded one with an unreadable sector
completes with that status and no data (R166, R271, R293). -/
def Obligations.SendingToHost : Prop :=
  ∀ s : State, s.rdma.cells.length = 16 → tabWf s.sched.cmds = true → s.awake = true →
    (∀ q : Fin 16384, (s.qp q).st = .ready →
      let x := s.qp q
      (∀ h : PktHdr, s.qpnIndex h.qpn = some (q : Nat) → h.pkeyOk = true → h.icrcOk = true → h.addrOk = true →
        (∀ msn code, Completes (.rdmaAckRx h msn code) s fun t =>
          (t.qp q).hostCredit = (if code = 31 then 65536 else nth creditCounts code 0)
            ∧ (x.cqes = [] → ∀ e, e ∈ (t.qp q).sends ↔ e ∈ x.sends ∧ 2 ^ 23 ≤ psnDist h.psn (BitVec.ofNat 24 e.psn))) ∧
        (∀ e l, x.sends = e :: l → (∀ f ∈ x.sends, 2 ^ 23 ≤ psnDist (h.psn - 1) (BitVec.ofNat 24 f.psn)) → x.retries < x.retryMax →
          Completes (.rdmaNakRx h .sequenceError) s fun t => (t.qp q).retries = x.retries + 1 ∧ .rdma q (.resendFrom e.psn) ∈ t.out) ∧
        (∀ u, x.rnrMax = 7 ∨ x.rnrTries < x.rnrMax → Completes (.rdmaNakRx h (.rnr u)) s fun t =>
          (t.qp q).rnrUntil = s.now + us u ∧ (t.qp q).st = .ready) ∧
        ∀ kind, (kind = .remoteAccess ∨ kind = .remoteOperational ∨ kind = .invalidRequest) →
          Completes (.rdmaNakRx h kind) s fun t => (t.qp q).st = .flushing) ∧
      (∀ e l, x.sends = e :: l → 0 < x.rnrUntil → x.rnrUntil ≤ s.now → Completes (.rdmaRnrRetryTimer q) s fun t =>
        (t.qp q).rnrUntil = 0 ∧ t.out = .rdma q (.resendFrom e.psn) :: s.out)) ∧
    (∀ ord c, s.cmd ord = some c → c.phase = .running → c.kind = .read → c.allRead = true →
      (∀ hd tn ch, c.src = .peer hd tn ch → c.readError = none → c.firstTagFail = none → c.status = none →
        Completes (.readDataToHost ord) s fun t => t.cmd ord = none ∧
          t.out = .forwardCqe hd ⟨c.cap.cid, 0, 0, false, 0⟩ ((List.range c.results.length).map c.outSector) :: s.out) ∧
      (∀ hd tn ch i sct sc, c.src = .peer hd tn ch → c.readError = some (i, sct, sc) → Completes (.readDataToHost ord) s fun t =>
        t.cmd ord = none ∧ ∃ dw0, t.out = .forwardCqe hd ⟨c.cap.cid, sct, sc, true, dw0⟩ [] :: s.out) ∧
      (∀ (q : Fin 16384) cid r, c.src = .qp q cid → (s.qp q).st = .ready → (s.qp q).pmtu = 4096 → c.results = [(0, r)] → c.readError = none →
          c.firstTagFail = none → c.fetchNext = 0 → s.sendFree q = true → Completes (.readDataToHost ord) s fun t =>
        t.cmd ord = none ∧ .rdma q (.rdmaWrite (s.qp q).sPsn.toNat c.cap.sglAddr c.cap.sglKey (rdPlain r)) ∈ t.out))

/-- The main die awake. CNP_RX for a READY queue pair: the target rate is the former rate, the rate falls by half of alpha and never
below 100 Mb/s, and alpha rises by 1/256 of its distance to 1 (R297). RATE_INCREASE_TIMER 55 us after the last CNP or step:
alpha decays by 255/256, and the rate is half way to its target, which after five steps rises by 100 Mb/s up to the port rate;
before 55 us nothing changes. TX_CIR_WINDOW for a PRESENT tenant held by a limiter below its committed rate, not reported in the
last second: the moment of the report is recorded; otherwise nothing changes (R298). -/
def Obligations.CongestionControl : Prop :=
  ∀ s : State, s.awake = true →
    (∀ q : Fin 16384, (s.qp q).st = .ready →
      let x := s.qp q
      (∀ h : PktHdr, s.qpnIndex h.qpn = some (q : Nat) → h.pkeyOk = true → h.icrcOk = true → h.addrOk = true →
        Completes (.cnpRx h) s fun t =>
          (t.qp q).rt = x.rc ∧ (t.qp q).rc = max 100 (x.rc - x.rc * x.alpha / 131072) ∧ (t.qp q).alpha = x.alpha * 255 / 256 + 256 ∧ (t.qp q).k = 0
            ∧ (t.qp q).lastCnpRx = s.now ∧ ∀ p : Nat, p ≠ q → t.qp p = s.qp p) ∧
      (x.lastCnpRx + us 55 ≤ s.now → Completes (.rateIncreaseTimer q) s fun t =>
        let rt := if 5 < x.k + 1 then min (s.portRate x) (x.rt + 100) else x.rt
        t.qp q = { x with alpha := x.alpha * 255 / 256, k := x.k + 1, rt := rt, rc := (x.rc + rt) / 2, lastCnpRx := s.now }
          ∧ ∀ p : Nat, p ≠ q → t.qp p = s.qp p) ∧
      (s.now < x.lastCnpRx + us 55 → exec (.rateIncreaseTimer q) s = .next s)) ∧
    (∀ (tenant : Fin 1024) sent e, s.tenantEntry tenant = some e → 8 * sent < e.txCir * 10 ^ 6 →
        (∀ τ, tabGet s.rdma.cirEvent tenant = some τ → τ + secs 1 ≤ s.now) →
      Completes (.txCirWindow tenant sent true) s fun t =>
        tabGet t.rdma.cirEvent tenant = some s.now ∧ t.rdma.qps = s.rdma.qps ∧ ∀ u, u ≠ tenant.val → tabGet t.rdma.cirEvent u = tabGet s.rdma.cirEvent u) ∧
    (∀ (tenant : Fin 1024) sent, exec (.txCirWindow tenant sent false) s = .next s)

/-- READ, COMPARE, WRITE_ZEROES and DATASET_MANAGEMENT, admitted and in sequence, that fail a check of R253, R257, R263 or R494 end
with that status. A one-sector READ that passes and finds, with no earlier write held and no error in the cache set, a map entry
that is no place in flash has zeroes as its result, or the error of a poisoned entry (R76, R258). A WRITE to a Standard
namespace that passes waits for its data, or ends with 0h/81h on a read-only function, or 0h/82h with no key. A COMPARE with no
key ends with 0h/82h; one that has all its sectors and data ends with success when they are equal, else 2h/85h. A WRITE_ZEROES
of a Standard namespace without DEAC, and the one-range Deallocate of DATASET_MANAGEMENT, with their pages ready and room in the
journal tail, leave a journal record of type 4 or 3 with the range and the command's order number (R94); without the Deallocate
attribute a host's command ends with success. A FLUSH of a namespace of no tenant's own ends with 0h/0Bh; one of all namespaces
with no stripe open or uncommitted ends with success (R90). -/
def Obligations.StorageCommands : Prop :=
  ∀ (ord : Nat) (c : Cmd) (s : State), tabWf s.sched.cmds = true → s.cmd ord = some c → s.listening c = true →
    let ends := fun (t : State) (sct sc : Nat) (dnr : Bool) (dw0 : Nat) => t.cmd ord = none ∧ t.told c sct sc dnr dw0
    let starts := fun (k : CmdKind) => c.kind = k ∧ c.phase = .admitted ∧ c.seq = true
    (∀ sct sc dnr, s.ioCheck c = some (sct, sc, dnr) →
      (starts .read → Completes (.read ord) s fun t => ends t sct sc dnr 0) ∧ (starts .compare → Completes (.compare ord) s fun t => ends t sct sc dnr 0) ∧
      (starts .zeroes → Completes (.writeZeroes ord) s fun t => ends t sct sc dnr 0) ∧
      (starts .dsm → Completes (.datasetManagement ord) s fun t => ends t sct sc dnr 0)) ∧
    (s.ioCheck c = none →
      (starts .read → c.len = 1 → s.ovWrite ord c.ns c.lba = none → s.tcSound (lineAddr (s.mpnOf c.ns c.lba) c.lba) = true → ∀ e, s.look c.ns c.lba = .entry e → isLoc e = false →
        Completes (.read ord) s fun t => ∃ d, t.cmd ord = some d ∧ d.phase = .running ∧ d.results = [(0, if e = ePoisoned then .unrecovered else .zero)]) ∧
      (starts .write → c.chain = none → ∀ e, s.nsEntry c.ns = some e → e.nsType = 0 →
        (s.fn.readOnly = true → Completes (.write ord) s fun t => ends t 0 0x81 true 0) ∧
        (s.fn.readOnly = false → s.keyReady c = false → Completes (.write ord) s fun t => ends t 0 0x82 true 0) ∧
        (s.fn.readOnly = false → s.keyReady c = true → c.orphan = false → ∀ q cid, c.src = .qp q cid → Completes (.write ord) s fun t =>
          t.cmd ord = some { c with phase := .running, fetchNext := 0, units := List.replicate (unitCount c.len) .fetching })) ∧
      (starts .compare → s.keyReady c = false → Completes (.compare ord) s fun t => ends t 0 0x82 true 0) ∧
      (starts .zeroes → s.keyReady c = true → s.fn.readOnly = false → c.cap.deac = false → (∀ e, s.nsEntry c.ns = some e → e.nsType = 0) →
        (s.log.journal.filter fun j => !j.written).length < 126 → s.log.journal.length < 262144 →
        (s.readyRanges c.ns c.ranges true).1 = true → Completes (.writeZeroes ord) s fun t =>
          ∃ j ∈ t.log.journal, j.record.type = 4 ∧ j.record.ns = c.ns ∧ j.record.lba = c.lba ∧ j.record.arg = c.len ∧ j.record.wseq = ord) ∧
      (starts .dsm → (∀ e, s.nsEntry c.ns = some e → e.nsType = 0) → c.cap.dealloc = true → (s.log.journal.filter fun j => !j.written).length < 126 →
        s.log.journal.length < 262144 → (s.readyRanges c.ns c.ranges false).1 = true → ∀ r, c.cap.ranges = [r] →
        Completes (.datasetManagement ord) s fun t => ∃ j ∈ t.log.journal,
          j.record.type = 3 ∧ j.record.ns = c.ns ∧ j.record.lba = r.1 ∧ j.record.arg = r.2 ∧ j.record.wseq = ord) ∧
      (starts .dsm → c.cap.dealloc = false → (s.srcTenant c).isSome = true → Completes (.datasetManagement ord) s fun t => ends t 0 0 false 0)) ∧
    (c.kind = .compare → c.phase = .running → c.allRead = true → c.readError = none → c.firstTagFail = none → c.len ≤ c.fetched.length →
      Completes (.compare ord) s fun t =>
        if (∀ i < c.len, (c.fetched.find? fun e => e.1 == i).map Prod.snd = some (c.outSector i)) then ends t 0 0 false 0 else ends t 2 0x85 true 0) ∧
    (starts .flush → ¬ (c.cap.nsid = 0xFFFFFFFF) → s.mineNs ((s.srcTenant c).getD 1024) c.ns = false → Completes (.flush ord) s fun t => ends t 0 0x0B true 0) ∧
    (starts .flush → c.cap.nsid = 0xFFFFFFFF → s.srcChain c = none → (∀ x ∈ s.log.streams, x.stripe = none) → s.log.stripes = [] → s.log.sjWait = [] →
        s.log.rows = [] → s.log.units = [] → s.rd.jobs = [] → s.map.waits = [] → s.log.strike = .idle → s.pair.st ≠ .lapsed → Completes (.flush ord) s fun t => ends t 0 0 false 0)

/-- A READY admin queue pair of a controller with such a command at its head, and no Ledger order to keep: the capsule leaves the
queue and its completion is sent or waits to be sent. IDENTIFY of CNS 1, with send entries free, writes the controller's page to
the host and succeeds; CNS above 3 ends with 0h/02h, CNS 0 of a namespace not the tenant's with 0h/0Bh. GET_LOG_PAGE of page 01h
succeeds, of a page that Table 10.10 does not have ends with 1h/09h; an ordered one has its page at its order number (R275,
R276). SET_FEATURES sets the event configuration and KATO and refuses to clear WCE with 0h/0Eh (R259). GET_FEATURES returns
them, and 1 for WCE. ASYNCHRONOUS_EVENT_REQUEST waits, and the fifth ends with 1h/05h. KEEP_ALIVE keeps the controller alive
(R252), and ABORT succeeds with DW0 bit 0 set (R268). NVME_UNSUPPORTED_OPCODE: 0h/0Ch before the Connect, 0h/01h outside Table
10.1 (R248). -/
def Obligations.AdminCommands : Prop :=
  ∀ (q : Fin 16384) (s : State), (s.qp q).ledgerWait = [] →
    let ends := fun (t : State) (c : Capsule) (sct sc : Nat) (dnr : Bool) (dw0 : Nat) =>
      (t.qp q).inq = (s.qp q).inq.drop 1 ∧ t.returned q ⟨c.cid, sct, sc, dnr, dw0⟩
    (∀ i k, s.ctlOf q = some (i, k) →
      (∀ c, s.adminCap q 0x06 = some c →
        (c.cdw10 % 256 = 1 → (s.qp q).pmtu = 4096 → s.sendRoom q 1 = true → Completes (.identify q) s fun t => ends t c 0 0 false 0 ∧
          .rdma q (.rdmaWrite (s.qp q).sPsn.toNat c.sglAddr c.sglKey (BitVec.ofNat 32768 (s.identCtl (s.cntlid i) k.discovery))) ∈ t.out) ∧
        (k.discovery = false → 3 < c.cdw10 % 256 → Completes (.identify q) s fun t => ends t c 0 2 true 0) ∧
        (k.discovery = false → c.cdw10 % 256 = 0 → s.nsEntry (capNs c) = none → Completes (.identify q) s fun t => ends t c 0 0x0B true 0)) ∧
      (∀ c, s.adminCap q 0x02 = some c → k.discovery = false →
        (c.cdw10 % 256 = 1 → s.sendRoom q ((s.qp q).packetsOf (4 * (logNumd c + 1))) = true →
          Completes (.getLogPage (.qp q)) s fun t => ends t c 0 0 false 0) ∧
        (c.cdw10 % 256 ∉ [1, 5, 12] → adminKind c = none → Completes (.getLogPage (.qp q)) s fun t => ends t c 1 9 true 0)) ∧
      (∀ c, s.adminCap q 0x09 = some c →
        (c.cdw10 % 256 = 0x06 → c.cdw11 % 2 = 0 → Completes (.setFeatures q) s fun t => ends t c 0 0x0E true 0) ∧
        (c.cdw10 % 256 = 0x0B → Completes (.setFeatures q) s fun t =>
          ends t c 0 0 false 0 ∧ ∃ k', tabGet t.nvme.ctls i = some k' ∧ k'.aec = c.cdw11 ∧ k'.kato = k.kato) ∧
        (c.cdw10 % 256 = 0x0F → katoOk c.cdw11 = true → Completes (.setFeatures q) s fun t =>
          ends t c 0 0 false 0 ∧ ∃ k', tabGet t.nvme.ctls i = some k' ∧ k'.kato = c.cdw11 ∧ k'.aec = k.aec)) ∧
      (∀ c, s.adminCap q 0x0A = some c →
        (c.cdw10 % 256 = 0x06 → Completes (.getFeatures q) s fun t => ends t c 0 0 false 1) ∧
        (c.cdw10 % 256 = 0x0B → Completes (.getFeatures q) s fun t => ends t c 0 0 false k.aec) ∧
        (c.cdw10 % 256 = 0x0F → Completes (.getFeatures q) s fun t => ends t c 0 0 false k.kato)) ∧
      (∀ c, s.adminCap q 0x0C = some c →
        (4 ≤ k.aers.length → Completes (.asynchronousEventRequest q) s fun t => ends t c 1 5 true 0) ∧
        (k.aers.length < 4 → k.noticePend = false → s.criticalWarning = 0 → Completes (.asynchronousEventRequest q) s fun t =>
          (t.qp q).inq = (s.qp q).inq.drop 1 ∧ ∃ k', tabGet t.nvme.ctls i = some k' ∧ k'.aers = k.aers ++ [c.cid])) ∧
      (∀ c, s.adminCap q 0x18 = some c → Completes (.keepAlive q) s fun t =>
        ends t c 0 0 false 0 ∧ ∃ k', tabGet t.nvme.ctls i = some k' ∧ k'.lastAdmin = s.now ∧ k'.kato = k.kato) ∧
      (∀ c, s.adminCap q 0x08 = some c → Completes (.abort q) s fun t => ends t c 0 0 false 1 ∧ t.sched = s.sched)) ∧
    (∀ (n : Nat) c, s.cmd n = some c → c.kind = .log → c.phase = .admitted → c.seq = true → (∀ a b, c.src ≠ .qp a b) → Completes (.getLogPage (.ord n)) s fun t =>
      let l := pageSectors (s.orderedPage (c.cap.cdw10 % 256) ((s.srcTenant c).getD 1024) 0) (logOffset c.cap) (4 * (logNumd c.cap + 1))
      t.cmd n = some { c with phase := .running, fetchNext := 0, results := (List.range l.length).map fun i => (i, .data (nth l i 0)) }) ∧
    (∀ c, s.headCap q (fun _ => true) = some c → (s.qp q).chain = none →
      ((s.qp q).ctl = none → ¬ (c.opcode = 0x7F ∧ c.fctype = 1) → Completes (.nvmeUnsupportedOpcode q) s fun t => ends t c 0 0x0C false 0) ∧
      ((s.qp q).ctl.isSome = true → capSupported (s.qp q).admin c = false → Completes (.nvmeUnsupportedOpcode q) s fun t => ends t c 0 1 true 0))

/-- CONNECT of an unconnected READY queue pair of a known host that reaches the active, within Table 10.3 and its tenant's limits:
with QID 0 a new controller of the tenant holds the queue as its admin queue and DW0 is its CNTLID; with another QID, free in an
enabled controller of the tenant, the queue joins it (R250, R251); a host NQN with no entry ends with 1h/84h (R281).
PROPERTY_GET returns VS 2.0 and CSTS.RDY. PROPERTY_SET of CC.EN 1 enables the controller and makes it ready; of 0 it disables it
and its READY I/O queues go to FLUSHING. CC_EN_CLEAR_COMPLETE with nothing ordered left ends RDY. DISCONNECT of an I/O queue
sends it to FLUSHING; of an admin queue it ends with 0h/02h (R269). KEEP_ALIVE_TIMEOUT after KATO of silence tears the
controller down and its queues go to FLUSHING; before that nothing changes (R252). -/
def Obligations.FabricsCommands : Prop :=
  ∀ s : State, tabWf s.rdma.qps = true → tabWf s.nvme.ctls = true →
    (∀ q : Fin 16384, (s.qp q).ledgerWait = [] →
      let ends := fun (t : State) (c : Capsule) (sct sc : Nat) (dnr : Bool) (dw0 : Nat) =>
        (t.qp q).inq = (s.qp q).inq.drop 1 ∧ t.returned q ⟨c.cid, sct, sc, dnr, dw0⟩
      (∀ c d, s.headCap q (fun c => c.opcode == 0x7F && c.fctype == 1) = some c → c.connect = some d → (s.qp q).ctl = none →
          s.fn.committed.isSome = true → d.discovery = false → d.subNqnOk = true →
        (s.hostTenant d.hostNqn = none → Completes (.connect q) s fun t => ends t c 1 0x84 true 0) ∧
        (∀ tn i, s.hostTenant d.hostNqn = some tn → s.reachesActive = true → s.reserveCheck tn (s.qp q).entries = none →
          (c.cdw10 / 65536 = 0 → d.cntlid = 0xFFFF → c.cdw11 % 65536 < 32 → (s.qp q).entries ≤ 32 → katoOk c.cdw12 = true → s.freeCtl = some i →
            Completes (.connect q) s fun t => ends t c 0 0 false (s.cntlid i) ∧ (t.qp q).tenant = some tn ∧ (t.qp q).ctl = some i
              ∧ (t.qp q).admin = true ∧ tabGet t.nvme.resv q = some ⟨(s.qp q).entries, tn, false⟩
              ∧ ∃ k, tabGet t.nvme.ctls i = some k ∧ k.tenant = tn ∧ k.adminQp = q ∧ k.kato = c.cdw12 ∧ k.enabled = false) ∧
          (∀ k, c.cdw10 / 65536 ≠ 0 → c.cdw10 / 65536 ≤ 64 → d.cntlid = s.cntlid i → tabGet s.nvme.ctls i = some k → k.tenant = tn →
              k.discovery = false → k.enabled = true → c.cdw11 % 65536 < 1024 → (s.qp q).entries ≤ 1024 →
              (∀ e ∈ s.rdma.qps, e.2.ctl = some i → e.2.admin = true) →
            Completes (.connect q) s fun t => ends t c 0 0 false (s.cntlid i) ∧ (t.qp q).tenant = some tn ∧ (t.qp q).ctl = some i
              ∧ (t.qp q).admin = false ∧ (t.qp q).qid = c.cdw10 / 65536))) ∧
      (∀ i k, s.ctlOf q = some (i, k) →
        (∀ c, s.fabricsCap q 4 = some c → (s.qp q).admin = true →
          (c.cdw11 = 0x08 → Completes (.propertyGet q) s fun t => ends t c 0 0 false 0x00020000) ∧
          (c.cdw11 = 0x1C → Completes (.propertyGet q) s fun t => ends t c 0 0 false (b2n k.ready))) ∧
        (∀ c, s.fabricsCap q 0 = some c → (s.qp q).admin = true → c.cdw11 = 0x14 →
          (c.cdw12 % 2 = 1 → Completes (.propertySet q) s fun t =>
            ends t c 0 0 false 0 ∧ ∃ k', tabGet t.nvme.ctls i = some k' ∧ k'.enabled = true ∧ k'.ready = true) ∧
          (c.cdw12 % 2 = 0 → k.enabled = true → Completes (.propertySet q) s fun t =>
            (∃ k', tabGet t.nvme.ctls i = some k' ∧ k'.enabled = false)
              ∧ ∀ p, (s.qp p).ctl = some i → (s.qp p).admin = false → (s.qp p).st = .ready → (t.qp p).st = .flushing)) ∧
        (∀ c, s.fabricsCap q 8 = some c →
          ((s.qp q).admin = true → Completes (.disconnect q) s fun t => ends t c 0 2 true 0) ∧
          ((s.qp q).admin = false → Completes (.disconnect q) s fun t => (t.qp q).st = .flushing)))) ∧
    (∀ (ctl : Fin 4096) k, tabGet s.nvme.ctls ctl = some k →
      (k.ready = true → k.enabled = false → (∀ e ∈ s.rdma.qps, e.2.ctl = some ctl.val → e.2.admin = false → s.qpBusy e.1 = false) →
        Completes (.ccEnClearComplete ctl) s fun t => tabGet t.nvme.ctls ctl = some { k with ready := false } ∧ t.rdma = s.rdma) ∧
      (0 < k.kato → k.lastAdmin + ms k.kato ≤ s.now → Completes (.keepAliveTimeout ctl) s fun t =>
        tabGet t.nvme.ctls ctl = none ∧ ∀ p, (s.qp p).ctl = some ctl.val → (s.qp p).st = .ready → (t.qp p).st = .flushing) ∧
      (s.now < k.lastAdmin + ms k.kato → exec (.keepAliveTimeout ctl) s = .next s))

/-- LEDGER_BIND of a Ledger namespace of the tenant to a chain that is not bound, with an idle target queue and fewer than 16,384
chains bound: the queue is bound to the chain, the chain is bound, and DW0 is the counter its next write will take; for the peer
the chain is bound; a bound chain ends with 7h/C6h (R262, Table 10.6). QUEUE_RESERVATION at the active: 0 entries give the
reservation back, entries that fit are held, others and those at a controller that is not the active are refused (R251).
FORWARD_COMMAND: a standby that reaches the active sends on a READ of its queue head under the next handle; at the active an
arriving command waits at the end of input 16, or for a staging credit of its lane. FORWARD_COMPLETION_RX without data returns
the completion on the queue of the handle; with data the data is first to be written to the host. FORWARD_RECALL with no command
waiting for a credit takes the handle's heads out of input 16 and leaves the others (R271). -/
def Obligations.LedgerAndForwarding : Prop :=
  ∀ s : State, tabWf s.sched.cmds = true → tabWf s.nvme.forwards = true → tabWf s.nvme.resv = true →
    (∀ ord c e, s.cmd ord = some c → s.listening c = true → c.kind = .bind → c.phase = .admitted → c.seq = true → s.nsEntry c.ns = some e → e.nsType = 1 →
      let ch := chainKey c.ns (c.cap.cdw11 % 65536)
      ((s.log.chains.filter fun e => e.2.bound).length < 16384 → (s.chain ch).bound = false →
        (∀ q cid i k tq, c.src = .qp q cid → s.ctlOf q = some (i, k) → e.tenant = k.tenant → s.bindTarget i c.cap = .inr tq → Completes (.ledgerBind ord) s fun t =>
          t.cmd ord = none ∧ (t.qp tq).chain = some (c.ns, c.cap.cdw11 % 65536) ∧ (t.chain ch).bound = true ∧ (t.chain ch).next = (s.chain ch).next
            ∧ t.told c 0 0 false (s.chain ch).next) ∧
        (∀ h x, c.src = .peer h e.tenant x → Completes (.ledgerBind ord) s fun t =>
          t.cmd ord = none ∧ (t.chain ch).bound = true ∧ t.told c 0 0 false (s.chain ch).next)) ∧
      ((s.chain ch).bound = true → ∀ h x, c.src = .peer h e.tenant x → Completes (.ledgerBind ord) s fun t =>
        t.cmd ord = none ∧ t.told c 7 0xC6 false 0 ∧ t.log = s.log)) ∧
    (∀ h tn n,
      (s.active = true → n = 0 → Completes (.queueReservation h tn n) s fun t =>
        tabGet t.nvme.resv (2 ^ 20 + h) = none ∧ t.out = .reserveAnswer h true :: s.out) ∧
      (s.active = true → n ≠ 0 → s.reserveCheck tn n = none → Completes (.queueReservation h tn n) s fun t =>
        tabGet t.nvme.resv (2 ^ 20 + h) = some ⟨n, tn, true⟩ ∧ t.out = .reserveAnswer h true :: s.out) ∧
      ((s.active = true ∧ n ≠ 0 ∧ s.reserveCheck tn n ≠ none) ∨ s.active = false → Completes (.queueReservation h tn n) s fun t =>
        t.nvme = s.nvme ∧ t.out = .reserveAnswer h false :: s.out)) ∧
    (∀ (q : Fin 16384) c i, s.headCap q (fun c => (capKind (s.qp q).admin c).isSome) = some c → capKind (s.qp q).admin c = some .read → s.pair.st = .standby →
        (s.qp q).ctl = some i → s.fn.st = .running → s.peerLink = true → s.pair.peerState = some .active → Completes (.forwardCommand (.send q)) s fun t =>
      tabGet t.nvme.forwards s.nvme.nextHandle = some ((q : Nat), c) ∧ t.nvme.nextHandle = s.nvme.nextHandle + 1
        ∧ (t.qp q).inq = (s.qp q).inq.drop 1 ∧ t.out = .forward s.nvme.nextHandle c [] :: s.out) ∧
    (∀ h tn ch c data (delay : Fin 3) k, capKind (adminKind c).isSome c = some k → s.canOrder = true → s.sched.inputs.length = 18 →
      Completes (.forwardCommand (.arrive h tn ch c data delay)) s fun t => ∃ x : Head, x.src = .peer h tn ch ∧ x.cap = c ∧ x.kind = k ∧ x.visible = s.now + 2 + delay
        ∧ x.lane = s.laneFor k (capNs c) tn ∧ if s.hasCredit x.lane then nth t.sched.inputs 16 [] = nth s.sched.inputs 16 [] ++ [x] ∧ t.sched.peerHeld = s.sched.peerHeld
          else t.sched.inputs = s.sched.inputs ∧ t.sched.peerHeld = s.sched.peerHeld ++ [x]) ∧
    (∀ h q c (f : FwdCqe), tabGet s.nvme.forwards h = some (q, c) → c.opcode ≠ 0xC0 → (s.qp q).st = .ready → (s.qp q).ledgerWait = [] →
      (f.data = [] → Completes (.forwardCompletionRx h f) s fun t =>
        tabGet t.nvme.forwards h = none ∧ t.returned q ⟨c.cid, f.sct, f.sc, f.dnr, f.dw0⟩) ∧
      (f.data ≠ [] → Completes (.forwardCompletionRx h f) s fun t => tabGet t.nvme.forwards h = none ∧
        ∃ d, t.cmd (fwdKey h) = some d ∧ d.phase = .running ∧ d.src = .qp q c.cid ∧ d.results = (List.range f.data.length).map fun i => (i, .data (nth f.data i 0)))) ∧
    (∀ h, s.sched.inputs.length = 18 → s.sched.peerHeld = [] → Completes (.forwardRecall h) s fun t =>
      t.sched.peerHeld = [] ∧ (∀ x, x ∈ nth t.sched.inputs 16 [] ↔ x ∈ nth s.sched.inputs 16 [] ∧ ∀ tn ch, x.src ≠ .peer h tn ch)
        ∧ ∀ i : Nat, i ≠ 16 → nth t.sched.inputs i [] = nth s.sched.inputs i [])

/-- WRITE_PLACE of a whole unit of a running write at the lease holder, within the dirty budget, with room for its sectors in the
open stripe and positions to spare: the stripe ends with the unit's enciphered sectors, in order, and the unit is placed (R85).
A Ledger write's commit record is in the map journal (R95). Over the budget the command waits and nothing is placed (R87). In
LAPSED, or once Strike runs, nothing happens. MIRROR_CONFIRM: the write counts as mirrored; with every unit placed and Strike
armed in ACTIVE it is acknowledged with success (R86); 100 us after placement it comes too late and the pair is in SINGLE; after
the timer has won it is only counted as late (R64, R65). MIRROR_TIMEOUT 100 us after placement, unconfirmed: the pair is in
SINGLE and the write, unless it has ended, counts as one of SINGLE (R379); earlier it does nothing. MIRROR_DATA_RX at a standby
or joining controller: the sector is in the mirror buffer and confirmed, and elsewhere it is ignored (R370). -/
def Obligations.PlacingAndMirroring : Prop :=
  ∀ ord (s : State), tabWf s.sched.cmds = true → s.log.streams.length = 64 →
    (∀ c unit, s.cmd ord = some c →
      let n := unitLen c.len unit
      (c.kind = .write → c.phase = .running → c.units[unit]? = some .whole → s.pair.st ≠ .lapsed → s.log.strike = .idle → s.holder = true →
          s.roomFor c.stream n = true →
        (s.dirty + n ≤ s.dirtyBudget → c.chain = none → c.stream < 64 → ({ c with units := putNth c.units unit .placed }).allPlaced = false →
            ∀ o, (s.stream c.stream).stripe = some o → o.next = [] → s.now ≤ o.since + us (s.deadline c.stream) → n < s.freePos c.stream →
          Completes (.writePlace ord unit) s fun t =>
            (t.stream c.stream).stripe = some ⟨o.sectors ++ (s.unitPayloads ord c unit).map (fun p => ⟨p, none, false⟩), o.since, []⟩
              ∧ (∀ k : Nat, k ≠ c.stream → t.stream k = s.stream k)
              ∧ t.cmd ord = some { c with units := putNth c.units unit .placed, placedAt := s.now + 1, fetched := c.fetched.filter fun e => e.1 / 128 ≠ unit }
              ∧ ord ∉ t.log.waiting) ∧
        (s.dirty + n ≤ s.dirtyBudget → ∀ ch, c.chain = some ch → Completes (.writePlace ord unit) s fun t =>
          ∃ j ∈ t.log.journal, j.record = ⟨7, 0, c.ns, ch, c.lba, c.lcount, ord⟩) ∧
        (s.dirtyBudget < s.dirty + n → Completes (.writePlace ord unit) s fun t =>
          ord ∈ t.log.waiting ∧ t.cmd ord = some c ∧ t.log.streams = s.log.streams)) ∧
      (s.pair.st = .lapsed ∨ s.log.strike ≠ .idle → exec (.writePlace ord unit) s = .next s)) ∧
    (∀ c, s.cmd ord = some c →
      (c.mirrorLost = false → c.allPlaced = false → c.kind = .write → Completes (.mirrorConfirm ord) s fun t =>
        t.cmd ord = some { c with mirrored := true } ∧ ∀ n, n ≠ ord → t.cmd n = s.cmd n) ∧
      (c.mirrorLost = false → c.allPlaced = true → c.kind = .write → c.acked = false → s.pair.st = .active → s.log.strike = .idle →
          s.log.strikeArmed = true → s.listening c = true → s.now < c.placedAt + us 100 → Completes (.mirrorConfirm ord) s fun t =>
        t.cmd ord = none ∧ t.told c 0 0 false 0) ∧
      (c.mirrorLost = false → c.allPlaced = true → c.mirrored = false → s.pair.st = .active → c.placedAt + us 100 ≤ s.now →
        Completes (.mirrorConfirm ord) s fun t => t.pair.st = .single ∧ ∀ d, t.cmd ord = some d → d.mirrorLost = true) ∧
      (c.mirrorLost = true → exec (.mirrorConfirm ord) s = .next (s.countLate 0x312)) ∧
      (c.allPlaced = true → c.mirrored = false → c.mirrorLost = false → s.pair.st = .active → c.placedAt + us 100 ≤ s.now + 1 →
        Completes (.mirrorTimeout ord) s fun t => t.pair.st = .single ∧ ∀ d, t.cmd ord = some d → d.mirrorLost = true) ∧
      (s.now + 1 < c.placedAt + us 100 ∨ c.mirrored = true → exec (.mirrorTimeout ord) s = .next s)) ∧
    (∀ (k : Fin 64) p,
      (s.pair.st = .standby ∨ s.pair.st = .joining → Completes (.mirrorDataRx k p) s fun t =>
        t.log.mirrorBuf = s.log.mirrorBuf ++ [((k : Nat), p)] ∧ t.out = .mirrorAck (mdLba p) (mdNs p) :: s.out) ∧
      (s.pair.st ≠ .standby → s.pair.st ≠ .joining → exec (.mirrorDataRx k p) s = .next s))

/-- LOG_SHIP_RECORD_RX at a standby or joining controller: a journal record is durable in the warm journal at its position, a write-
zeroes record of a sector whose map page is in the pool makes its entry zeroes, a stripe record is kept, and the highest order
number, chain counters, reservations and keys are taken over; elsewhere it is ignored (R370). STRIPE_DEADLINE of a stream other
than 61 whose open stripe is as old as DEADLINE: the stripe is padded to its size, takes its page sets under its ID and starts
programming, and no stripe is open; a younger one stays (R89). JOURNAL_PAGE_TIMER 20 us after the page's first record: the page
waits for every copy in service; earlier it stays open (R157). MAP_UPDATE_APPLY of a committed stripe whose one sector of the
write is due and not superseded: the map names the sector's new place, and a record of it is in the journal (R93); an update
that must wait changes no map entry. MAP_FETCH_COMPLETE: the waits for a page in the pool are gone, and a read that waited on it
parks on the fill of its cache line (R76). -/
def Obligations.JournalsAndUpdates : Prop :=
  ∀ s : State,
    (s.pair.st = .standby ∨ s.pair.st = .joining →
      (s.log.journal.length < 262144 → ∀ jpos type count ns pos lba arg wseq, Completes (.logShipRecordRx (.journal jpos type count ns pos lba arg wseq)) s fun t =>
        t.log.journal = s.log.journal ++ [⟨jpos, ⟨type, count, ns, pos, lba, arg, wseq⟩, false, true⟩] ∧ t.log.jposNext = jpos + 1) ∧
      (∀ jpos ns lba wseq p, tabWf s.map.gmd = true → tabWf s.map.pool = true → s.slotOf (s.mpnOf ns lba) = some p → tabWf p.entries = true →
          s.tcHit (lineAddr (s.mpnOf ns lba) lba) = none →
        Completes (.logShipRecordRx (.journal jpos 4 0 ns 0 lba 1 wseq)) s fun t => t.mapNow ns lba = some eZeroes) ∧
      (∀ id kind st r a p w m, kind ≠ 4 → Completes (.logShipRecordRx (.stripe id kind st r a p w m)) s fun t =>
        t.log.sjPeer = s.log.sjPeer ++ [⟨id, kind, st, r, a, p, w, m⟩] ∧ t.map = s.map) ∧
      (∀ o, Completes (.logShipRecordRx (.highWater o)) s fun t => t.log = { s.log with peerHigh := max s.log.peerHigh o }) ∧
      (∀ ns ch n, tabWf s.log.chains = true → Completes (.logShipRecordRx (.chain ns ch n)) s fun t => (t.chain (chainKey ns ch)).next = n) ∧
      (∀ q n tn, tabWf s.nvme.resv = true → Completes (.logShipRecordRx (.reservation q n tn true)) s fun t => tabGet t.nvme.resv (2 ^ 20 + q) = some ⟨n, tn, true⟩) ∧
      (∀ k st mode g m, tabWf s.cip.slots = true → Completes (.logShipRecordRx (.key k st mode g m)) s fun t =>
        (t.keySlot k).st = st ∧ (t.keySlot k).gen = g ∧ (t.keySlot k).material = m ∧ (t.keySlot k).sectors = (s.keySlot k).sectors)) ∧
    (∀ r, s.pair.st ≠ .standby → s.pair.st ≠ .joining → exec (.logShipRecordRx r) s = .next s) ∧
    (∀ (k : Fin 64) o, k.val ≠ 61 → (s.stream k).stripe = some o → o.next = [] → s.log.streams.length = 64 →
      (o.since + us (s.deadline k) ≤ s.now → o.sectors ≠ [] → tabWf s.log.stripes = true → ∀ u skip pages, (s.stream k).openUnit = some u →
          s.members k u = some (skip, pages) → pages.all Option.isSome = true → s.stripeSectors ≠ 0 →
        Completes (.stripeDeadline k) s fun t =>
          (t.stream k).stripe = none ∧ (t.stream k).index = (s.stream k).index + 1 ∧ (t.stream k).counter = (s.stream k).counter + 1 + skip
            ∧ ∃ x, tabGet t.log.stripes (stripeId (s.stream k).index u (s.unit u).use) = some x ∧ x.st = .programming ∧ x.stream = k
              ∧ x.sectors = o.sectors ++ List.replicate (s.stripeSectors - o.sectors.length) (sysSector padPayload) ∧ x.members.length = pages.length) ∧
      (s.now < o.since + us (s.deadline k) → exec (.stripeDeadline k) s = .next s)) ∧
    (∀ p, s.log.sjPage = some p →
      (p.since + us 20 ≤ s.now → Completes .journalPageTimer s fun t =>
        t.log.sjPage = none ∧ t.log.sjWait = s.log.sjWait ++ [{ p with waitBays := s.sjBays, done := 0 }] ∧ t.log.stripes = s.log.stripes) ∧
      (s.now < p.since + us 20 → exec .journalPageTimer s = .next s)) ∧
    (∀ id w x i e slot, tabGet s.log.stripes id = some x → x.st = .committed → x.due w = [i] → x.sectors[i]? = some e → e.source = none →
        s.updateWaits w = false → (∀ o, tabGet s.sched.overlap w = some o → o.superseded.contains (mdLba e.payload - o.lba) = false) →
        s.slotOf (s.mpnOf (mdNs e.payload) (mdLba e.payload)) = some slot → tabWf slot.entries = true → tabWf s.map.gmd = true → tabWf s.map.pool = true →
        s.tcHit (lineAddr (s.mpnOf (mdNs e.payload) (mdLba e.payload)) (mdLba e.payload)) = none → s.map.applied < updateLimit →
      Completes (.mapUpdateApply id w) s fun t => t.mapNow (mdNs e.payload) (mdLba e.payload) = some (memberLoc x i)
        ∧ ∃ j ∈ t.log.journal, j.record = ⟨1, 0, mdNs e.payload, i, mdLba e.payload, id, w⟩) ∧
    (∀ id w x i e, tabGet s.log.stripes id = some x → i ∈ x.due w → x.sectors[i]? = some e → e.source = none → s.updateWaits w = true →
      Completes (.mapUpdateApply id w) s fun t => t.map = s.map) ∧
    (∀ mpn ord c slot, s.slotOf mpn = some slot → s.map.waits.filter (fun w => w.1 == mpn) = [(mpn, .read ord)] → s.cmd ord = some c → c.results = [(0, .waiting)] →
        s.ovWrite ord c.ns c.lba = none → s.mpnOf c.ns c.lba = mpn → s.tcSound (lineAddr mpn c.lba) = true → s.tcHit (lineAddr mpn c.lba) = none →
        (s.tc.miss.filter fun m => tcSet m.la % 4 == tcSet (lineAddr mpn c.lba) % 4).length < 64 →
      Completes (.mapFetchComplete mpn) s fun t => t.map.waits = s.map.waits.filter (fun w => w.1 != mpn)
        ∧ ∃ m ∈ t.tc.miss, m.la = lineAddr mpn c.lba ∧ ord ∈ m.parked) ∧
    (∀ mpn, (s.gmd mpn).resident = false → exec (.mapFetchComplete mpn) s = .next s)

/-- RECLAIM_VICTIM_SELECT at a controller that reclaims, with free units above the reserve and eligible units: exactly one unit
becomes the victim, the eligible one of the highest score, the lowest number at a tie; with none eligible nothing changes (R98).
RELOCATION of a map page's copy in a victim marks the page dirty; of a host codeword that the map still names, on a readable
bay, starts a read of it for its stream; outside a victim it does nothing (R99). RECLAIM_ERASE of a victim whose emptying a
durable checkpoint has passed: it is being erased, or free where no block of it can be; before that it changes nothing (R100),
or, with free units under twice the reserve, begins a checkpoint (R102). CHECKPOINT_START with none running and Strike idle: a
checkpoint of the next number begins, its target the last JPOS and its RCLK sample now (R101). STRIKE_TRIGGER, the selector not
on HOLDUP: the holder stops intake and closes its lanes, Strike has begun, and every dirty sector of an acknowledged write is in
its rows (R104); another controller stops intake; without the trigger nothing changes. -/
def Obligations.ReclaimAndStrike : Prop :=
  ∀ s : State,
    (s.logRuns = true → s.reclaimReserve < s.freeUnits → tabWf s.log.units = true → (∀ v ∈ s.victims, s.score v < 2 ^ 110) →
      (s.victims ≠ [] → Completes .reclaimVictimSelect s fun t => ∃ u ∈ s.victims, t = s.onUnit u (fun x => { x with st := .victim })
        ∧ ∀ v ∈ s.victims, s.score v ≤ s.score u ∧ (s.score v = s.score u → u ≤ v)) ∧
      (s.victims = [] → exec .reclaimVictimSelect s = .next s)) ∧
    (∀ loc u, s.locUnit loc = some u → s.logRuns = true →
      ((s.unit u).st = .victim → (s.stripsIn u).contains (pageSet loc) = false →
        (∀ i p, s.map.pool.find? (fun e => e.2.loc == loc) = some (i, p) → tabWf s.map.gmd = true → Completes (.relocation loc) s fun t =>
          (t.gmd p.mpn).dirty = true ∧ ∀ m, m ≠ p.mpn → t.gmd m = s.gmd m) ∧
        (∀ p, s.map.pool.find? (fun e => e.2.loc == loc) = none → s.map.gmd.find? (fun e => !e.2.resident && !e.2.empty && e.2.loc == loc) = none →
            s.gmdPages.find? (fun e => e.2 == loc) = none → s.rd.jobs.any (fun e => e.2.loc == loc && e.2.user == .relocate u) = false →
            s.codeword loc = some p → mdKind p = 0 → s.mapNow (mdNs p) (mdLba p) = some loc → s.placeLost loc = false → s.readable (locBay loc) = true →
            s.tcSound (lineAddr (s.mpnOf (mdNs p) (mdLba p)) (mdLba p)) = true →
            tabWf s.rd.jobs = true →
          Completes (.relocation loc) s fun t => t.rd.nextJob = s.rd.nextJob + 1 ∧
            ∃ r, tabGet t.rd.jobs s.rd.nextJob = some r ∧ r.loc = loc ∧ r.user = .relocate u ∧ r.host = false)) ∧
      ((s.unit u).st ≠ .victim → exec (.relocation loc) s = .next s)) ∧
    (∀ u, s.logRuns = true → s.sheet.programsHeld = false → tabWf s.log.units = true →
      (s.eraseMay u = true → Completes (.reclaimErase u) s fun t =>
        ((t.unit u).st = .erasing ∧ 0 < (t.unit u).erasesLeft) ∨ (t.unit u).st = .free) ∧
      (s.eraseMay u = false → s.eraseWaits u = false → exec (.reclaimErase u) s = .next s)) ∧
    (∀ i u, i = .checkpointStart ∨ (i = .reclaimErase u ∧ s.eraseMay u = false ∧ s.eraseWaits u = true) →
        s.logRuns = true → s.log.ckpt = none → s.fn.committed.isSome = true → s.log.strike = .idle → Completes i s fun t =>
      ∃ c, t.log.ckpt = some c ∧ c.number = (match s.log.root with | some r => r.number | none => 0) + 1 ∧ c.jposTarget = s.log.jposNext - 1
        ∧ c.phase ≤ 2 ∧ t.log.rootRclk = s.rclk) ∧
    (s.bpd.strikeTrig = true → s.awake = true →
      (s.holder = true → s.log.strike = .idle → s.bpd.sel ≠ .holdup → s.log.streams.length = 64 → Completes .strikeTrigger s fun t =>
        t.sched.intakeStopped = true ∧ t.fn.lanesOpen = false ∧ t.log.strike ≠ .idle
          ∧ ∀ p ∈ s.ackedDirty, ∃ r ∈ t.log.strikeRows, p ∈ r.sectors) ∧
      (s.holder = false → exec .strikeTrigger s = .next (s.onSched fun x => { x with intakeStopped := true }))) ∧
    (s.bpd.strikeTrig = false → exec .strikeTrigger s = .next s)

/-- At an awake controller. TRAINING_ATTEMPT of a training port unlocks both lanes. LANES_ALIGNED: lanes that lock and are not
retired put a training port into INIT; with none the attempt fails and the next begins, up to three (R213). TRAINING_TIMEOUT
counts as a failed attempt; a retrain that fails retires the port. SHEET_INIT_SEND_TIMER of a port in INIT sends INIT, SEEN once
one has come. SHEET_INIT_RX of a valid INIT takes credits, epoch and owner; when both ends have seen the other, the port of a
linking module is up on its lanes, sequence numbers start at 0 and the module is to be identified (R221); one of another
version, port or with too few credits makes the module foreign. SHEET_LANE_LOCK_LOSS of a port that is up retrains it, the first
two times within 60 s (R240). UNREACHABLE_TIMEOUT after 1 s at the lease holder and FENCE_TIMEOUT make the module lost, at the
holder in the loss set (R242, R236). In each case no other port changes but through what a lost module sets off. -/
def Obligations.LinkTraining : Prop :=
  ∀ (b : Fin 48) (s : State), s.sheet.ports.length = 48 → s.awake = true →
    let p := s.port b
    let others := fun (t : State) => ∀ c : Nat, c ≠ b → t.port c = s.port c
    (p.st = .training ∨ p.st = PortState.retrain →
      (Completes (.trainingAttempt b) s fun t => (t.port b).lane0.locked = false ∧ (t.port b).lane1.locked = false ∧ (t.port b).st = p.st ∧ others t) ∧
      (∀ x y, p.st = .training → p.lane0.retired = false → p.lane1.retired = false → p.lane0.failed < 2 → p.lane1.failed < 2 → x || y →
        Completes (.lanesAligned b x y) s fun t => (t.port b).st = .init ∧ (t.port b).lane0.locked = x ∧ (t.port b).lane1.locked = y ∧ others t) ∧
      (p.st = .training → p.attempts < 3 →
        (Completes (.lanesAligned b false false) s fun t => (t.port b).st = .training ∧ (t.port b).attempts = p.attempts + 1 ∧ others t) ∧
        Completes (.trainingTimeout b) s fun t => (t.port b).st = .training ∧ (t.port b).attempts = p.attempts + 1 ∧ others t) ∧
      (p.st = PortState.retrain → Completes (.trainingTimeout b) s fun t => (t.port b).st = .retired)) ∧
    (p.initing = true →
      (Completes (.sheetInitSendTimer b) s fun t => .sheet b (.init p.initRx) ∈ t.out) ∧
      (∀ i : SheetInit, i.reserved = 0 → i.version = 1 → i.port + 1 = s.boot.board.slot → s.minCmdCredit ≤ i.crCmd → 32 ≤ i.crData →
        (p.seenSent = false ∨ (p.initSeen = false ∧ i.seen = false) → Completes (.sheetInitRx b i) s fun t =>
          (t.port b).initRx = true ∧ (t.port b).crCmd = i.crCmd ∧ (t.port b).crData = i.crData ∧ (t.port b).epochSeen = i.epoch
            ∧ (t.port b).ownerSeen = i.owner ∧ (t.port b).st = p.st ∧ others t) ∧
        (p.seenSent = true → i.seen = true → i.lanes = 3 → p.lane0.locked = true → p.lane1.locked = true → p.modSt = .linking →
          Completes (.sheetInitRx b i) s fun t => (t.port b).st = .up ∧ (t.port b).modSt = .identify ∧ (t.port b).rxSeq = 0
            ∧ (t.port b).attempts = 0 ∧ others t)) ∧
      (∀ i : SheetInit, i.reserved = 0 → i.version ≠ 1 ∨ i.port + 1 ≠ s.boot.board.slot ∨ i.crCmd < s.minCmdCredit ∨ i.crData < 32 →
        Completes (.sheetInitRx b i) s fun t => (t.port b).st = .init ∧ (t.port b).modSt = .foreign ∧ others t)) ∧
    (∀ l : Fin 2, p.up = true → (p.lane l).locked = true → ((p.lane l).lossTimes.filter fun x => decide (s.now ≤ x + secs 60)).length < 2 →
      Completes (.sheetLaneLockLoss b l) s fun t => (t.port b).st = PortState.retrain ∧ (t.port b).lane0.locked = false ∧ others t) ∧
    (p.modSt = .unreachable →
      (s.holder = true → p.unreachSince + secs 1 ≤ s.now → Completes (.unreachableTimeout b) s fun t =>
        (t.port b).modSt = .lost ∧ .bay b ∈ t.reb.loss) ∧
      (s.now < p.unreachSince + secs 1 → exec (.unreachableTimeout b) s = .next s)) ∧
    (p.modSt = .fencing → Completes (.fenceTimeout b) s fun t => (t.port b).modSt = .lost)

/-- At an awake controller on a port that is up. SHEET_FRAME_RX of a sound sequenced frame with the expected SEQ: the expected SEQ
is one more, an ACK is due and its credits count; one ahead is answered with a NAK once; a duplicate with an ACK; nothing else
changes (R215 to R218). SHEET_ACK_RX frees the frames up to the one it names; SHEET_NAK_RX frees them and replays the rest with
their replay counts raised. SHEET_CREDIT_RX adds the credits. SHEET_ACK_TIMER sends the ACK that is due. SHEET_REPLAY_TIMER
replays every frame in the replay buffer; once the oldest has been replayed 8 times the port retrains, and at the second such
frame within 60 s it is retired (R219). SHEET_STATUS_POLL asks each module at least in READY, its port having room, for its
STATUS (R235). LANE_ERR_POLL reads its receiver's counts and starts every bay's uncorrectable counts again (R239). For ACK and
credit frames nothing waits for room on a port. -/
def Obligations.LinkFrames : Prop :=
  ∀ (b : Fin 48) (s : State), s.sheet.ports.length = 48 → s.awake = true → (s.port b).up = true →
    let p := s.port b
    let others := fun (t : State) => ∀ c : Nat, c ≠ b → t.port c = s.port c
    (∀ h : SheetHdr, h.crcOk = true → h.len ≤ 4608 → h.reserved = 0 → h.flags < 16 → (h.type = 0x10 ∨ h.type = 0x20 ∨ h.type = 0x30) →
      (h.seq = p.rxSeq → h.flags % 2 = 0 → Completes (.sheetFrameRx b h) s fun t =>
        t.port b = { p with rxSeq := (p.rxSeq + 1) % 65536, ackDue := true, nakSent := false, crCmd := p.crCmd + h.crCmd, crData := p.crData + h.crData }
          ∧ others t ∧ t.out = s.out) ∧
      (0 < (h.seq + 65536 - p.rxSeq) % 65536 → (h.seq + 65536 - p.rxSeq) % 65536 < 32768 →
        (p.nakSent = false → Completes (.sheetFrameRx b h) s fun t => t.port b = { p with nakSent := true } ∧ others t ∧ t.out = .sheet b (.nak p.lastSeq) :: s.out) ∧
        (p.nakSent = true → exec (.sheetFrameRx b h) s = .next s)) ∧
      (32768 ≤ (h.seq + 65536 - p.rxSeq) % 65536 → Completes (.sheetFrameRx b h) s fun t => t.sheet = s.sheet ∧ t.out = .sheet b (.ack p.lastSeq) :: s.out)) ∧
    (∀ pre f post, p.replay = pre ++ f :: post → (∀ g ∈ pre, g.seq ≠ f.seq) →
      (s.quiet = true → Completes (.sheetAckRx b f.seq) s fun t => t.port b = { p with replay := post } ∧ others t) ∧
      (∀ g l, post = g :: l → g.replays < 8 → Completes (.sheetNakRx b f.seq) s fun t =>
        t.port b = { p with replay := post.map fun x => { x with replays := x.replays + 1 } } ∧ others t
          ∧ t.out = .sheet b (.replay (post.map ReplayFrame.seq)) :: s.out)) ∧
    (∀ c d, s.quiet = true → Completes (.sheetCreditRx b c d) s fun t => t.port b = { p with crCmd := p.crCmd + c, crData := p.crData + d } ∧ others t) ∧
    (p.ackDue = true → Completes (.sheetAckTimer b) s fun t => t.port b = { p with ackDue := false } ∧ others t ∧ t.out = .sheet b (.ack p.lastSeq) :: s.out) ∧
    (∀ f l, p.replay = f :: l →
      (f.replays < 8 → Completes (.sheetReplayTimer b) s fun t => t.port b = { p with replay := p.replay.map fun x => { x with replays := x.replays + 1 } }
        ∧ others t ∧ t.out = .sheet b (.replay (p.replay.map ReplayFrame.seq)) :: s.out) ∧
      (8 ≤ f.replays → (p.failTimes.filter fun x => decide (s.now ≤ x + secs 60)) = [] → Completes (.sheetReplayTimer b) s fun t =>
        (t.port b).st = PortState.retrain ∧ others t) ∧
      (8 ≤ f.replays → (p.failTimes.filter fun x => decide (s.now ≤ x + secs 60)) ≠ [] → Completes (.sheetReplayTimer b) s fun t => (t.port b).st = .retired)) ∧
    (p.modSt = .ready ∨ p.modSt = .fencing ∨ p.modSt = .inService →
      (s.canAsk b 4 = true → Completes .sheetStatusPoll s fun t =>
        ∃ tag op v o, .sheet b (.command tag op v o) ∈ t.out ∧ op.code = 4 ∧ op.arg = 0xFFF) ∧
      (s.canAsk b 5 = true → Completes .laneErrPoll s fun t =>
        (∃ tag op v o, .sheet b (.command tag op v o) ∈ t.out ∧ op.code = 5 ∧ op.arg = 0x10)
          ∧ ∀ c : Fin 48, (t.port c).lane0.uncorr = 0 ∧ (t.port c).lane1.uncorr = 0))

/-- At an awake controller. SHEET_RESPONSE within its time on a port that is up with OK to a read: its job goes to decoding, a cell
of its block being free and nothing waiting for a port; to a STATUS: the epoch and owner of the module are those it reports; to
a TEMP: the health record's temperature is the module's; a response whose tag is not outstanding is discarded, one lost to its
timer discarded and counted (R229, R65, R238). SHEET_DATA_RX: an asked codeword is kept, as read, with its job. SHEET_OP_TIMEOUT
of a FENCE past its time: the tag stays, timed out; before it, or of a timed-out one, nothing changes. TAG_REQUERY_TIMER of a
tag found in the array: the query is sent where the port has room, and is no longer due (R231). -/
def Obligations.OperationEnds : Prop :=
  ∀ (b : Fin 48) (tag : Nat) op (s : State), s.sheet.ports.length = 48 → s.awake = true → tabWf (s.port b).ops = true → tabGet (s.port b).ops tag = some op →
    ((s.port b).up = true → op.timedOut = false → s.now ≤ op.due → s.bpd.sel ≠ .holdup →
      (∀ j r res, op.code = 1 → op.user = .read j → s.quiet = true → tabWf s.rd.jobs = true → tabGet s.rd.jobs j = some r →
          s.decodeRoom b = true → Completes (.sheetResponse b tag 0 res) s fun t => tabGet t.rd.jobs j = some { r with phase := .decoding }) ∧
      (∀ e o d, op.code = 4 → op.user = .other → Completes (.sheetResponse b tag 0 (.status e o 0 d)) s fun t =>
        (t.port b).epochSeen = e ∧ (t.port b).ownerSeen = o) ∧
      (∀ x y, op.code = 8 → op.user = .other → s.med.health.length = 48 → Completes (.sheetResponse b tag 0 (.temp x y)) s fun t => (t.health b).tempNow = x)) ∧
    (op.timedOut = true → (∀ code res, (s.port b).up = true → exec (.sheetResponse b tag code res) s = .next (s.countLate (0x201 + b / 4)))
      ∧ exec (.sheetOpTimeout b tag) s = .next s) ∧
    (s.now < op.due → exec (.sheetOpTimeout b tag) s = .next s) ∧
    (∀ g code res, tabGet (s.port b).ops g = none → exec (.sheetResponse b g code res) s = .next s) ∧
    (∀ j r (i : Fin 16) p, op.user = .read j → (s.port b).up = true → op.timedOut = false → s.now ≤ op.due → op.cwmask.getLsbD i = true → tabWf s.rd.jobs = true →
        tabGet s.rd.jobs j = some r → Completes (.sheetDataRx b tag i p) s fun t =>
      tabGet t.rd.jobs j = some { r with raw := some p } ∧ (∀ k, k ≠ j → tabGet t.rd.jobs k = tabGet s.rd.jobs k) ∧ t.sheet = s.sheet) ∧
    (op.timedOut = false → op.code = 0x0B → op.due ≤ s.now → s.bpd.sel ≠ .holdup → s.quiet = true → Completes (.sheetOpTimeout b tag) s fun t => tabGet (t.port b).ops tag = some { op with timedOut := true }) ∧
    ((s.port b).up = true → op.requery = true →
      (Completes (.tagRequeryTimer b tag) s fun t => tabGet (t.port b).ops tag = some { op with requery := false } ∧ ∀ c : Nat, c ≠ b → t.port c = s.port c) ∧
      (s.canAsk b 4 = true → Completes (.tagRequeryTimer b tag) s fun t =>
        ∃ g o, t.out = .sheet b (.command g o 0 []) :: s.out ∧ o.code = 4 ∧ o.arg = tag))

/-- At an awake controller. LDPC_DECODE_DONE of a host read's first, good and acceptable decode: the read has the sector's result,
deciphered from the payload, and the job is done (R92, R273); of one that failed below the cap: the job is to read again with
the next entry (R192). PROBE_ISSUE with a unit left in the patrol lane: the oldest waiting probe of a readable place is read
from the retry after the cap (R195). AGE_CLOCK_TICK without a reading: the module's age clock takes the factor of the last
temperature's band, and a minute is counted at the 60th; with a reading the temperature is the new one (R197, R209).
BLOCK_RECORD_SCAN: each block in use whose age has reached 80 % of its retention is queued for rewrite, and every hour's mean
starts again (R198). WEAR_CHECK with a wear gap over 5 % and free units over twice the reserve: the eligible unit of lowest wear
is the victim (R201). JUNCTION_SAMPLE counts the temperature's band (R210). -/
def Obligations.MediaWork : Prop :=
  ∀ s : State, s.awake = true → s.med.health.length = 48 →
    (∀ job r raw d, tabWf s.rd.jobs = true → tabGet s.rd.jobs job = some r → r.phase = .decoding → r.raw = some raw →
      (∀ ord off c, r.user = .host ord off → s.quiet = true → tabWf s.sched.cmds = true → s.cmd ord = some c → d.ok = true → r.attempt = 0 →
          s.acceptable r.user (d.altered.getD raw) = true → Completes (.ldpcDecodeDone job d) s fun t =>
        tabGet t.rd.jobs job = none
          ∧ t.cmd ord = some { c with results := c.results.map fun e => if e.1 = off then (off, s.hostResult c.ns (d.altered.getD raw)) else e }) ∧
      (d.ok = false → r.attempt < r.cap → s.quiet = true → Completes (.ldpcDecodeDone job d) s fun t =>
        ∃ x, tabGet t.rd.jobs job = some x ∧ x.attempt = r.attempt + 1 ∧ x.raw = none ∧ x.loc = r.loc ∧ x.user = r.user ∧ x.phase ≠ .decoding)) ∧
    (∀ p, s.med.probes.find? (fun p => !p.inflight) = some p → s.backLeft 7 ≠ 0 → s.placeLost p.loc = false → s.readable (locBay p.loc) = true →
        tabWf s.rd.jobs = true → Completes .probeIssue s fun t =>
      (∃ x, tabGet t.rd.jobs s.rd.nextJob = some x ∧ x.loc = p.loc ∧ x.attempt = p.next ∧ x.cap = p.last ∧ x.user = .probe)
        ∧ { p with inflight := true } ∈ t.med.probes) ∧
    (s.backLeft 7 = 0 → exec .probeIssue s = .next s) ∧
    (∀ (b : Fin 48) d, s.desc b = some d →
      (Completes (.ageClockTick b none) s fun t =>
        (t.health b).ageClock = ((s.health b).ageClock + nth d.af (tempBand (s.health b).tempNow) 0) % 2 ^ 64
          ∧ (t.health b).minuteBands = (if (s.health b).minuteBands + 1 = 60 then 0 else (s.health b).minuteBands + 1)
          ∧ ∀ c : Nat, c ≠ b → t.health c = s.health c) ∧
      (∀ x, Completes (.ageClockTick b (some x)) s fun t => (t.health b).tempNow = x
        ∧ (t.health b).ageClock = ((s.health b).ageClock + nth d.af (tempBand x) 0) % 2 ^ 64)) ∧
    (Completes .blockRecordScan s fun t =>
      (∀ e d, e ∈ s.med.blocks → s.desc (e.1 / 16384 / 128) = some d → (e.2.st = .opened ∨ e.2.st = .programmed) →
          8 * d.retHours * 3600 ≤ 10 * s.blockAge (e.1 / 16384 / 128) e.2 → s.reb.rewrite.length + s.med.blocks.length ≤ 4096 →
        ⟨e.1 / 16384 / 128, e.1 / 16384 % 128, e.1 % 16384⟩ ∈ t.reb.rewrite)
      ∧ ∀ h ∈ t.med.health, h.hourCw = 0 ∧ h.hourBits = 0) ∧
    (let used := (s.log.units.filter fun e => e.2.st != .free).map fun e => s.wear e.1
      let rated := (s.bays.filterMap fun b => (s.desc b).map fun d => d.peRated).foldl min (2 ^ 32)
      s.logRuns = true → s.victims ≠ [] → 2 * s.reclaimReserve < s.freeUnits → tabWf s.log.units = true →
        5 * rated < 100 * (used.foldl max 0 - used.foldl min (used.foldl max 0)) → Completes .wearCheck s fun t =>
      ∃ u ∈ s.victims, (t.unit u).st = .victim ∧ (∀ v ∈ s.victims, s.wear u ≤ s.wear v) ∧ ∀ v, v ≠ u → t.unit v = s.unit v) ∧
    (Completes .junctionSample s fun t => t = s.onMed fun m =>
      { m with ctlHist := modNth m.ctlHist (junctionBand s.boot.junction) fun n => if n + 1 ≤ 0xFFFFFFFF then n + 1 else 0xFFFFFFFF })

/-- TC_FILL_COMPLETE of a fill with a reserved ordinary way and nothing parked on it: the way holds the line, its entries those of
the pool slot, AGE 1 and STREAMED 0 for a demand fill and AGE 3 and STREAMED 1 for a streaming one, and its miss entry is free
(R115, R116). TC_WRITEBACK_TIMER of the one queued line, dirty for 64 frames: it is clean, off the queue, and its dirty entries
are in its page's slot; lines younger stay (R120). TC_LOCK_WAYS_WRITE of a mask that R125 refuses changes nothing; of one it
accepts, lines of the ways it clears are unlocked with AGE 3 at once, and the new mask awaits TC_LOCK_CHANGE_DONE, which empties
the newly named ways makes the mask that of the locked ways and lets the next preload that waits for the engine begin (R126,
R127). TC_WAY_PWR_WRITE takes each group's request but for group 0 and those with a locked way (R128). TC_GROUP_POWER_DOWN_DONE
of a requested group empties it and removes its power; TC_GROUP_POWER_UP_DONE gives it back (R129). -/
def Obligations.CacheLines : Prop :=
  ∀ s : State, tabWf s.tc.lines = true →
    (∀ la m p w, s.tc.miss.find? (fun m => m.la == la) = some m → s.slotOf (la / 68) = some p → m.way = some w → m.lock = false → w < 16 →
        s.tc.lockMask.getLsbD w = false → m.dropV = false → m.parked = [] → m.updates = [] → s.tc.queue = [] → Completes (.tcFillComplete la) s fun t =>
      let l := t.tcWayOf (tcSet la) w
      l.v = true ∧ l.f = false ∧ l.la = la ∧ l.l = false ∧ l.dirtyMask = 0 ∧ l.age = (if m.streaming then 3 else 1) ∧ l.streamed = m.streaming
        ∧ (∀ i : Fin 12, nth l.entries i eUnmapped = tabGetD p.entries (la % 68 * 12 + i) eUnmapped) ∧ ∀ x ∈ t.tc.miss, x.la ≠ la) ∧
    (∀ la, s.tc.miss.find? (fun m => m.la == la) = none → exec (.tcFillComplete la) s = .next s) ∧
    (∀ e p, s.tc.wb = [e] → e.frame + 64 ≤ s.clk.frame → s.slotOf (e.la / 68) = some p → tabWf s.map.pool = true → tabWf p.entries = true → e.way < 16 →
      let l := s.tcWayOf (tcSet e.la) e.way
      l.v = true → l.la = e.la → l.dirtyMask ≠ 0 → Completes .tcWritebackTimer s fun t =>
        t.tcWayOf (tcSet e.la) e.way = TcLine.sealed { l with dirtyMask := 0 } ∧ t.tc.wb = []
          ∧ ∃ q, t.slotOf (e.la / 68) = some q ∧ ∀ i : Fin 12, tabGetD q.entries (e.la % 68 * 12 + i) eUnmapped =
              if l.dirtyMask.getLsbD i then nth l.entries i eUnmapped else tabGetD p.entries (e.la % 68 * 12 + i) eUnmapped) ∧
    ((∀ e ∈ s.tc.wb, s.clk.frame < e.frame + 64) → exec .tcWritebackTimer s = .next s) ∧
    (∀ v : BitVec 32, let m : BitVec 16 := v.setWidth 16
      (s.lockOk m = false → exec (.tcLockWaysWrite v) s = .next s) ∧
      (s.lockOk m = true → Completes (.tcLockWaysWrite v) s fun t => t.tc.lockMask = s.tc.lockMask &&& m ∧ t.tc.lockNext = some m
        ∧ (∀ k w, w < 16 → m.getLsbD w = false → (s.tcWayOf k w).v = true → (s.tcWayOf k w).l = true →
            t.tcWayOf k w = TcLine.sealed { s.tcWayOf k w with l := false, age := 3 })
        ∧ ∀ k w, w < 16 → m.getLsbD w = true → t.tcWayOf k w = s.tcWayOf k w)) ∧
    (∀ m, s.tc.lockNext = some m → Completes .tcLockChangeDone s fun t => t.tc.lockMask = m ∧ t.tc.lockNext = none) ∧
    (∀ m, s.tc.lockNext = some m → s.tc.pinQueue = [] → Completes .tcLockChangeDone s fun t =>
      (∀ k w, w < 16 → m.getLsbD w = true → s.tc.lockMask.getLsbD w = false → (t.tcWayOf k w).v = false)
      ∧ ∀ k w, w < 16 → m.getLsbD w = false → t.tcWayOf k w = s.tcWayOf k w) ∧
    (s.tc.lockNext = none → exec .tcLockChangeDone s = .next s) ∧
    (∀ v : BitVec 32, Completes (.tcWayPwrWrite v) s fun t => { t.tc with reqOff := s.tc.reqOff } = s.tc
      ∧ ∀ g : Fin 4, t.tc.reqOff.getLsbD g = (decide (g.val ≠ 0) && v.getLsbD g && (s.tc.reqOff.getLsbD g || !s.groupLocked g))) ∧
    (∀ g : Fin 4,
      (s.tc.reqOff.getLsbD g = true → s.tc.on.getLsbD g = true → Completes (.tcGroupPowerDownDone g) s fun t =>
        (∀ h : Fin 4, t.tc.on.getLsbD h = (s.tc.on.getLsbD h && decide (h ≠ g)))
          ∧ ∀ k w, w < 16 → w / 4 = g.val → (t.tcWayOf k w).v = false) ∧
      (s.tc.reqOff.getLsbD g = false → exec (.tcGroupPowerDownDone g) s = .next s) ∧
      (s.tc.reqOff.getLsbD g = false → s.tc.on.getLsbD g = false → Completes (.tcGroupPowerUpDone g) s fun t =>
        (∀ h : Fin 4, t.tc.on.getLsbD h = (s.tc.on.getLsbD h || decide (h = g))) ∧ t.tc.lines = s.tc.lines) ∧
      (s.tc.reqOff.getLsbD g = true → exec (.tcGroupPowerUpDone g) s = .next s))

/-- TC_INVALIDATE, TC_CLEAN, TC_CLEAN_INVALIDATE, TC_PRELOAD and TC_PRELOAD_LOCK while an operation or a lock change runs set
OVERRUN and change nothing else (R130). For a namespace that is absent they set ERROR with ERR_CODE 2 and the engine stays free.
Taken: the engine is busy; after clean every valid line of the range is clean and as it was; after invalidate and clean-and-
invalidate a valid line of the range is one that is locked, UNLOCK was not given, and it is as it was. Preload of one absent
line whose page is in the pool starts its streaming fill, and preload-and-lock one that locks. TC_RANGE_DONE with no line left:
the engine is free and DONE is set, and a mailbox that started it has its answer, OK, or CONDITION with its ERR_CODE (R131);
with no operation running it changes nothing. -/
def Obligations.RangeEngine : Prop :=
  ∀ (o : RangeOp) (s : State), tabWf s.tc.lines = true →
    let inR := fun (l : TcLine) => ∃ b, s.rangeLines o = some b ∧ b.1 ≤ l.la ∧ l.la ≤ b.2
    (∀ i, i = .tcInvalidate o ∨ i = .tcClean o ∨ i = .tcCleanInvalidate o ∨ i = .tcPreload o ∨ i = .tcPreloadLock o →
      (s.rangeBusy = true → exec i s = .next (s.onTc fun t => { t with overrun := true })) ∧
      (s.rangeBusy = false → s.nsEntry o.ns = none → Completes i s fun t =>
        t.tc.error = true ∧ t.tc.errCode = 2 ∧ t.tc.busy = false ∧ t.tc.lines = s.tc.lines ∧ t.map = s.map)) ∧
    (∀ e, s.rangeBusy = false → s.nsEntry o.ns = some e → o.byNs = true ∨ o.lba + o.len < e.capacity →
      (Completes (.tcClean o) s fun t => t.tc.busy = true ∧ ∀ k w, w < 16 → (s.tcWayOf k w).v = true → inR (s.tcWayOf k w) →
        t.tcWayOf k w = (if (s.tcWayOf k w).dirtyMask = 0 then s.tcWayOf k w else TcLine.sealed { s.tcWayOf k w with dirtyMask := 0 })) ∧
      (Completes (.tcInvalidate o) s fun t => t.tc.busy = true ∧ ∀ k w, w < 16 → (t.tcWayOf k w).v = true → inR (t.tcWayOf k w) →
        o.unlock = false ∧ (s.tcWayOf k w).l = true ∧ t.tcWayOf k w = s.tcWayOf k w) ∧
      (Completes (.tcCleanInvalidate o) s fun t => t.tc.busy = true ∧ ∀ k w, w < 16 → (t.tcWayOf k w).v = true → inR (t.tcWayOf k w) →
        o.unlock = false ∧ (s.tcWayOf k w).l = true ∧ t.tcWayOf k w = s.tcWayOf k w) ∧
      (∀ la, s.rangeLines o = some (la, la) → s.tcHit la = none → (s.gmd (la / 68)).resident = true →
          (s.tc.miss.filter fun m => tcSet m.la % 4 == tcSet la % 4).length < 64 →
        (Completes (.tcPreload o) s fun t => t.tc.busy = true ∧ ∃ m ∈ t.tc.miss, m.la = la ∧ m.streaming = true) ∧
        (s.tc.lockMask ≠ 0 → Completes (.tcPreloadLock o) s fun t => t.tc.busy = true ∧ ∃ m ∈ t.tc.miss, m.la = la ∧ m.streaming = true ∧ m.lock = true))) ∧
    (s.tc.busy = true → s.tc.range = [] → s.tc.pinQueue = [] →
      (s.tc.errCode ≠ 5 → Completes .tcRangeDone s fun t => t.tc.busy = false ∧ t.tc.done = true ∧ t.tc.lines = s.tc.lines) ∧
      (∀ m c, s.tc.goMbx = some m → m < s.mgmt.mbx.length → (s.mbx m).wait = .running c → Completes .tcRangeDone s fun t =>
        t.tc.busy = false ∧ ∃ r, (t.mbx m).wait = .answer r ∧ r.opcode = c ∧ (if s.tc.errCode = 0 then r.status = 0
          ∧ r.result = leBytes 8 (s.tc.resLines + 2 ^ 24 * s.tc.resWritten + 2 ^ 48 * s.tc.resNotLocked) else r.status = 9 ∧ r.detail = s.tc.errCode))) ∧
    (s.tc.busy = false → exec .tcRangeDone s = .next s)

/-- At an awake lease holder whose function is ARMED or RUNNING. REBUILD_STEP in JOURNAL with no copy left to place goes to SINGLE
in Spread or with one bay's losses, else to CRITICAL, the cursor at unit 0 (R172); in CRITICAL or SINGLE a stripe with nothing
to repair is passed, a lost role with a target goes to the batch, and past the last stripe with an empty batch SINGLE or SWEEP
follows. JOURNAL_COPY_PLACED places the lost copy on its bay. REBUILD_RETRY_TIMER ends the wait and tries again.
REPAIR_BATCH_ADVANCE, the unit directory's pages being durable, of a programmed batch makes each TYPE 4 entry, and of a
repointed one of parity strips empties it (R168). SWEEP_STEP with 816 map updates left in the frame poisons the one entry
recorded as unrecoverable, moves past the page, and past the last page is IDLE with the record cleared (R174). REWRITE_ISSUE
takes the oldest queued block without programmed page sets, or of the system blocks, off the queue (R181). PATROL_ISSUE with
units left reads the codeword at its cursor (R178). -/
def Obligations.RebuildWork : Prop :=
  ∀ s : State, s.awake = true → s.rebuildMay = true →
    (s.reb.st = .journal → s.reb.journalLost = [] → Completes .rebuildStep s fun t => t.reb.unit = 0 ∧ t.reb.index = 0 ∧ t.reb.loss = s.reb.loss ∧
      t.reb.st = (if s.pl.parity = 2 ∧ 1 < (s.reb.loss.map fun x => match x with | .bay b => b | .die b _ => b).eraseDups.length then .critical else .single)) ∧
    (s.reb.retryHeld = false → s.backLeft 6 ≠ 0 →
      (∀ u i, s.nextStripe = some (u, i) → s.reb.st = .single →
        ((s.goneRoles u i).filter (fun r => s.worthRepair u i r && !s.inBatch u i r) = [] → Completes .rebuildStep s fun t =>
          t.reb = { s.reb with unit := u, index := i + 1 }) ∧
        (∀ r l d, s.goneRoles u i = [r] → s.worthRepair u i r = true → s.inBatch u i r = false → tabGet s.reb.dirs u = some d → abandonedIn d i = false →
            1 ≤ s.pl.parity → (s.repairTarget u i).isSome = true → s.batchRoom 1 = true → s.roleLoc u i r = some l → Completes .rebuildStep s fun t =>
          t.reb.unit = u ∧ t.reb.index = i + 1 ∧ ∃ q ∈ t.reb.batch, q.unit = u ∧ q.index = i ∧ q.role = r ∧ q.oldLoc = pageSet l)) ∧
      (s.nextStripe = none → s.reb.batch = [] →
        (s.reb.st = .critical → Completes .rebuildStep s fun t => t.reb.st = .single ∧ t.reb.unit = 0) ∧
        (s.reb.st = .single → Completes .rebuildStep s fun t => t.reb.st = .sweep ∧ t.reb.sweepMpn = 0 ∧ t.reb.sweepPending = false))) ∧
    (s.reb.retryHeld = true → s.reb.batchPhase = 0 → s.backLeft 6 ≠ 0 → s.nextStripe = none → s.reb.batch = [] → s.reb.st = .single →
      Completes .rebuildRetryTimer s fun t => t.reb.st = .sweep ∧ t.reb.retryHeld = false) ∧
    (s.reb.retryHeld = false → exec .rebuildRetryTimer s = .next s) ∧
    (∀ (b : Fin 48) e, s.reb.st = .journal → s.reb.journalLost = [e] → s.jaltFor e = some b →
      (e < 64 → Completes (.journalCopyPlaced b) s fun t =>
        (∃ c ∈ t.log.sjCopies, c.bay = b ∧ c.placed = true) ∧ t.reb.journalLost = [] ∧ t.reb.st ≠ .journal) ∧
      (64 ≤ e → tabWf s.log.rootMoved = true → Completes (.journalCopyPlaced b) s fun t =>
        (∀ r ∈ s.pl.root, tabGetD s.log.rootMoved r r = e - 64 → tabGetD t.log.rootMoved r r = b) ∧ t.reb.st ≠ .journal)) ∧
    (∀ q, s.reb.batch = [q] → s.sheet.programsHeld = false → s.dirDurable = true →
      (∀ d, s.reb.batchPhase = 1 → q.reserved = true → q.programmed = true → q.unit ≠ 0xFFFFFFFF → tabWf s.reb.dirs = true → tabGet s.reb.dirs q.unit = some d →
          (s.unit q.unit).st ≠ .free → Completes .repairBatchAdvance s fun t => t.reb.batchPhase = 2 ∧ t.reb.repaired = s.reb.repaired + 1
          ∧ ∃ d', tabGet t.reb.dirs q.unit = some d' ∧ ⟨q.index, 4, q.role, q.bay, 0, q.newLoc.toNat⟩ ∈ d'.exceptions) ∧
      (s.reb.batchPhase = 2 → s.pl.data ≤ q.role → s.map.applied + 16 ≤ updateLimit → Completes .repairBatchAdvance s fun t =>
        t.reb = { s.reb with batch := [], batchPhase := 0, batchNo := s.reb.batchNo + 1 })) ∧
    (s.reb.st = .sweep →
      (s.map.gmd.find? (fun e => decide (s.reb.sweepMpn ≤ e.1) && !s.sysPage e.1 && (e.2.resident || !e.2.empty)) = none →
        Completes .sweepStep s fun t => t.reb.st = .idle ∧ t.reb.lostCw = [] ∧ t.map = s.map) ∧
      (∀ mpn g p e ns lba, s.map.gmd.find? (fun e => decide (s.reb.sweepMpn ≤ e.1) && !s.sysPage e.1 && (e.2.resident || !e.2.empty)) = some (mpn, g) →
          tabWf s.map.gmd = true → tabWf s.map.pool = true → s.slotOf mpn = some p → p.entries = [(lba % 816, e)] → s.ownerOf mpn (lba % 816) = some (ns, lba) →
          s.mpnOf ns lba = mpn → s.tc.lines = [] → s.map.applied + 816 ≤ updateLimit → isLoc e = true → s.reb.lostCw.contains e = true → s.stripeOf e = none →
        Completes .sweepStep s fun t => t.mapNow ns lba = some ePoisoned ∧ t.reb.sweepMpn = mpn + 1)) ∧
    (s.reb.rewrite = [] → exec .rewriteIssue s = .next s) ∧
    (∀ x rest, s.reb.rewrite = x :: rest → s.reb.st = .idle ∨ s.reb.st = .sweep → s.backLeft 6 ≠ 0 → x.block < s.pl.sysblk ∨ s.blockPages x = [] →
      Completes .rewriteIssue s fun t => t.reb.rewrite = rest) ∧
    (∀ user loc, s.patrolTodo[s.reb.patrolRole]? = some (user, loc) → s.patrolAsk ≠ 0 → s.rowStep = false → s.placeLost loc = false →
        s.readable (locBay loc) = true → tabWf s.rd.jobs = true → (∀ e ∈ s.rd.jobs, e.1 < s.rd.nextJob) → Completes .patrolIssue s fun t =>
      ∃ x, tabGet t.rd.jobs s.rd.nextJob = some x ∧ x.loc = loc ∧ x.user = user)

/-- At an awake controller. RENEW_TIMER: a holder sends RENEW with the next SEQ, a controller in INIT sends HELLO, another nothing
(R364). RENEW_RX of a valid RENEW at a non-holder in STANDBY, JOINING, INIT past step 10 or GIVING, not below a TERM seen: a
GRANT of its SEQ and TERM goes back on the path it came by; INIT is JOINING, and GIVING of a lower TERM is STANDBY. One that
comes to a STANDBY after its taking time is ignored and the take proceeds (R64). At a holder of a lower TERM it ends the lease:
LAPSED (R367). GRANT_RX of a sent SEQ at its TERM: the lease is granted and expires LEASE_MS after that RENEW was sent; past the
guard it comes too late, and the holder is LAPSED (R64). RELEASE_RX: WITHDRAW makes the holder's lease self-held; a RELEASE is
taken cold from JOINING, and from STANDBY warm or by swap (R368). HELLO_RX notes what the peer says. LEASE_HOLDER_STOP at the
guard before expiry, LEASE_TAKE_TIMER after LEASE_MS and guard without a RENEW, COLD_TAKE_TIMER in INIT and LAPSED_PROBE lapse
or take, or join where the peer has been heard or a module that answered reports another epoch, the probe waiting while a STATUS
is outstanding (R365, R373, R375), and earlier do nothing. A taking controller's TERM is one above every TERM it has seen. -/
def Obligations.LeaseMessages : Prop :=
  ∀ s : State, s.awake = true → s.sheet.ports.length = 48 →
    let takes := fun (t : State) (k : TakeKind) (seen : Nat) => t.pair.st = .taking ∧ t.pair.hold = .self ∧ t.pair.take = k ∧ t.pair.takeStep = 1
      ∧ t.pair.term = max s.pair.term seen + 1 ∧ t.fn.lanesOpen = false
    let lapses := fun (t : State) => t.pair.st = .lapsed ∧ t.pair.hold = .no ∧ t.reb.st = .held
      ∧ ∀ b : Fin 48, (t.port b).modSt ≠ .inService ∧ (t.port b).modSt ≠ .fencing ∧ (t.port b).modSt ≠ .unreachable
    let wait := s.leaseLen + s.takerGuard
    (s.holder = true → Completes .renewTimer s fun t => t.pair.seq = (s.pair.seq + 1) % 2 ^ 32 ∧ (t.pair.seq, s.now) ∈ t.pair.sent
      ∧ ∃ m, .lease .b m ∈ t.out ∧ (s.peerLink = true → .lease .a m ∈ t.out) ∧ m.type = 1 ∧ m.seq = t.pair.seq ∧ m.term = s.pair.term) ∧
    (s.pair.st = .init → Completes .renewTimer s fun t => t.pair = s.pair ∧ ∃ m, .lease .b m ∈ t.out ∧ m.type = 4) ∧
    (∀ sh m, leaseValid m = true →
      (m.type = 1 →
        (s.pair.seenTerm ≤ m.term → (((s.pair.st = .standby ∨ s.pair.st = .joining) ∧ s.now ≤ s.pair.lastRenew + wait)
            ∨ (s.pair.st = .init ∧ 10 ≤ s.boot.step) ∨ (s.pair.st = .giving ∧ s.now ≤ s.pair.releaseAt + wait ∧ s.pair.term < m.term)) →
          Completes (.renewRx sh m) s fun t => t.pair.lastRenew = s.now ∧ t.pair.lastGranted = true
            ∧ t.pair.st = (match s.pair.st with | .init => .joining | .giving => .standby | x => x)
            ∧ ∃ g, .lease sh g ∈ t.out ∧ g.type = 2 ∧ g.seq = m.seq ∧ g.term = m.term) ∧
        (s.pair.st = .standby → s.pair.lastRenew + wait < s.now → m.term ≤ s.pair.seenTerm →
          Completes (.renewRx sh m) s fun t => takes t .warm s.pair.seenTerm ∧ t.pair.lastRenew = s.now) ∧
        (s.holder = true → s.pair.term < m.term → Completes (.renewRx sh m) s lapses)) ∧
      (∀ e, m.type = 2 → s.holder = true → (s.pair.hold = .granted → s.now + s.holderGuard ≤ s.pair.expiry) → m.term = s.pair.term → s.pair.sent.find? (fun e => e.1 == m.seq) = some e → Completes (.grantRx sh m) s fun t =>
        t.pair.hold = .granted ∧ t.pair.expiry = e.2 + s.leaseLen ∧ ∀ x ∈ t.pair.sent, x.1 ≠ m.seq) ∧
      (m.type = 2 → s.holder = true → s.pair.hold = .granted → s.pair.expiry < s.now + s.holderGuard → m.term ≤ s.pair.term →
        Completes (.grantRx sh m) s fun t => t.pair.st = .lapsed ∧ t.pair.hold = .no) ∧
      (m.type = 3 →
        (m.withdraw = true → s.holder = true → m.term ≤ s.pair.term → Completes (.releaseRx sh m) s fun t => t.pair.hold = .self ∧ t.pair.sent = []) ∧
        (m.withdraw = false → s.pair.term ≤ m.term →
          (s.pair.st = .joining → Completes (.releaseRx sh m) s fun t => takes t .cold (max s.pair.seenTerm m.term)) ∧
          (s.pair.st = .standby → Completes (.releaseRx sh m) s fun t => takes t (if m.toPeer then .swap else .warm) (max s.pair.seenTerm m.term)))) ∧
      (m.type = 4 → Completes (.helloRx sh m) s fun t => t.pair.peerState = pairOf m.pstate ∧ t.pair.peerReach = m.reach
        ∧ t.pair.seenTerm = max s.pair.seenTerm m.term)) ∧
    (s.holder = true → s.pair.hold = .granted →
      (s.pair.expiry ≤ s.now + s.holderGuard → Completes .leaseHolderStop s lapses) ∧
      (s.now + s.holderGuard < s.pair.expiry → exec .leaseHolderStop s = .next s)) ∧
    ((s.pair.st = .joining → s.pair.lastRenew + wait ≤ s.now → Completes .leaseTakeTimer s fun t => takes t .cold s.pair.seenTerm) ∧
      (s.pair.st = .standby → s.pair.lastRenew + wait ≤ s.now → Completes .leaseTakeTimer s fun t => takes t .warm s.pair.seenTerm) ∧
      (s.pair.st = .giving → s.pair.releaseAt + wait ≤ s.now → Completes .leaseTakeTimer s fun t => takes t .warm s.pair.seenTerm) ∧
      (s.pair.st = .joining ∨ s.pair.st = .standby → s.now < s.pair.lastRenew + wait → exec .leaseTakeTimer s = .next s)) ∧
    (s.pair.st = .init → 10 ≤ s.boot.step → s.fn.refusal = 0 → s.fn.committed.isSome = true → s.fn.st ≠ .fenced → s.pair.initSince + 2 * s.leaseLen ≤ s.now →
      (s.pair.lastRenew = 0 ∨ s.pair.lastRenew + 2 * s.leaseLen ≤ s.now → s.peerSilent = true → Completes .coldTakeTimer s fun t => takes t .cold s.pair.seenTerm) ∧
      (s.pair.lastRenew ≠ 0 → s.now < s.pair.lastRenew + 2 * s.leaseLen → exec .coldTakeTimer s = .next s)) ∧
    (s.pair.st = .lapsed → s.fn.st ≠ .fenced →
      (s.pair.lapsedT + s.takerGuard + ms 12 ≤ s.now →
        (s.pair.heardSince = true → Completes .lapsedProbe s fun t => t.pair.st = .joining ∧ t.sched.cmds = []) ∧
        (s.pair.heardSince = false → (∀ p ∈ s.sheet.ports, p.up = false) → Completes .lapsedProbe s fun t => takes t .probe s.pair.seenTerm) ∧
        (s.pair.heardSince = false → s.pair.takeStep ≠ 0 →
          ((∃ p ∈ s.sheet.ports, p.up = true ∧ ∃ e ∈ p.ops, e.2.code = 4) → exec .lapsedProbe s = .next s) ∧
          ((∀ p ∈ s.sheet.ports, p.up = true → ∀ e ∈ p.ops, e.2.code ≠ 4) →
            ((∀ p ∈ s.sheet.ports, p.up = true → p.answered = true → p.epochSeen = s.sheet.epoch ∧ p.ownerSeen = (if s.boot.board.slot = 2 then 2 else 1)) →
              Completes .lapsedProbe s fun t => takes t .probe s.pair.seenTerm) ∧
            ((∃ p ∈ s.sheet.ports, p.up = true ∧ p.answered = true ∧ p.epochSeen ≠ s.sheet.epoch) →
              Completes .lapsedProbe s fun t => t.pair.st = .joining ∧ t.sched.cmds = [])))) ∧
      (s.now < s.pair.lapsedT + s.takerGuard + ms 12 → exec .lapsedProbe s = .next s))

/-- At an awake controller. TAKEOVER_STEP in TAKING: first, once every STATUS has ended, every module in READY on a port that is up
is to be fenced at an epoch above all that are reported; it waits while one is; on a probe past start-up step 11 the cipher
epoch is new; without an image there is nothing to make durable; at the end the controller is ACTIVE beside a STANDBY or GIVING
peer and SINGLE otherwise, the lanes of a RUNNING function open (Table 15.7). SHROUD_LOSS_TIMER after 24 ms of silence: the
shroud is lost (R369). PEER_LINK_GROUP_LOSS: the third one in a row takes the group down, and with both down the active is in
SINGLE and the standby JOINING (R443); PEER_LINK_RESTORED brings a retrying group up. RESYNC_COMPLETE with the function RUNNING:
STANDBY (R381). PERIODIC_SWAP_TIMER and REACH_SWAP_TIMER when due and R376 holds start a swap: lanes closed, draining; if it
does not, the periodic one is put off 10 minutes (R377, R378). SWAP_RELEASE with every write done: GIVING, RELEASE sent to the
peer (R376). DRAIN_COMPLETE: a swap's ends RUNNING in STANDBY, a stop's STOPPED once nothing is left, a standby's with what it
mirrored handed back (R41, R46). -/
def Obligations.PairChanges : Prop :=
  ∀ s : State, s.awake = true → s.sheet.ports.length = 48 → s.pair.groups.length = 2 → s.pair.groupTries.length = 2 →
    let swaps := fun (t : State) => t.fn.st = .draining ∧ t.fn.drain = some .swap ∧ t.fn.lanesOpen = false ∧ t.pair.swap.running = true ∧ .swapStarted ∈ t.out
    (s.pair.st = .taking →
      (s.pair.takeStep ≤ 2 → s.statusOut = true → exec .takeoverStep s = .next s) ∧
      (s.pair.takeStep ≤ 2 → s.statusOut = false → Completes .takeoverStep s fun t => t.pair.takeStep = 3 ∧ t.sheet.epoch = s.nextEpoch
        ∧ (∀ p ∈ s.sheet.ports, p.epochSeen < t.sheet.epoch) ∧ ∀ b : Fin 48, (s.port b).modSt = .ready → (s.port b).up = true → (t.port b).modSt = .fencing) ∧
      (s.pair.takeStep = 3 → s.sheet.ports.any (fun p => p.modSt == .fencing) = true → exec .takeoverStep s = .next s) ∧
      (s.pair.takeStep = 3 → s.sheet.ports.any (fun p => p.modSt == .fencing) = false → 11 ≤ s.boot.step → s.pair.take = .probe →
          s.cip.epochs.length < 1048576 → Completes .takeoverStep s fun t =>
        t.pair.takeStep = 6 ∧ ∃ e, t.cip.epochs = s.cip.epochs ++ [(e, s.sched.nextOrder)] ∧ ∀ x ∈ s.cip.epochs, x.1 < e) ∧
      (s.pair.takeStep = 6 → 12 ≤ s.boot.step → s.log.rootImage = none → Completes .takeoverStep s fun t => t = s.onPair fun p => { p with takeStep := 7 }) ∧
      (s.pair.takeStep = 7 → s.log.ckpt = none → 13 ≤ s.boot.step → Completes .takeoverStep s fun t => t.pair.takeStep = 0
        ∧ t.pair.st = (if s.pair.peerState = some .standby ∨ s.pair.peerState = some .giving then .active else .single)
        ∧ (s.fn.st = .running → t.fn.st = .running ∧ t.fn.lanesOpen = true))) ∧
    (∀ sh : Shroud,
      ((s.shroud sh).lost = false → ((s.shroud sh).times.foldl max s.pair.initSince) + ms 24 ≤ s.now → Completes (.shroudLossTimer sh) s fun t =>
        (t.shroud sh).lost = true ∧ ∀ sh', sh' ≠ sh → t.shroud sh' = s.shroud sh') ∧
      (s.now < ((s.shroud sh).times.foldl max s.pair.initSince) + ms 24 → exec (.shroudLossTimer sh) s = .next s)) ∧
    (∀ g : Fin 2,
      (nth s.pair.groups g false = true →
        (nth s.pair.groupTries g 0 < 2 → Completes (.peerLinkGroupLoss g) s fun t =>
          t = s.onPair fun p => { p with groupTries := putNth p.groupTries g (nth s.pair.groupTries g 0 + 1) }) ∧
        (2 ≤ nth s.pair.groupTries g 0 → Completes (.peerLinkGroupLoss g) s fun t => nth t.pair.groups g true = false ∧
          ((∀ h : Fin 2, h ≠ g → nth s.pair.groups h true = false) → (s.pair.st = .active → t.pair.st = .single) ∧ (s.pair.st = .standby → t.pair.st = .joining)))) ∧
      (nth s.pair.groupTries g 0 ≠ 0 → Completes (.peerLinkRestored g) s fun t => nth t.pair.groups g false = true ∧ nth t.pair.groupTries g 1 = 0
        ∧ ∀ h : Fin 2, h ≠ g → nth t.pair.groups h false = nth s.pair.groups h false) ∧
      (nth s.pair.groupTries g 0 = 0 → exec (.peerLinkRestored g) s = .next s)) ∧
    (s.pair.st = .joining → s.peerLink = true → (s.fn.st = .running → Completes .resyncComplete s fun t => t.pair.st = .standby ∧ t.pair.resync = 1)
      ∧ (s.fn.st ≠ .running → Completes .resyncComplete s fun t => t = s.onPair fun p => { p with resync := 1 })) ∧
    (s.swapIdle = true →
      (s.setting 12 ≠ 0 → s.pair.swap.postponed = false → s.pair.swap.lastEnd + secs (3600 * s.setting 12) ≤ s.now →
        (s.swapLack = 0 → Completes .periodicSwapTimer s swaps) ∧
        (s.swapLack ≠ 0 → Completes .periodicSwapTimer s fun t => t.pair.swap.postponed = true ∧ t.pair.swap.retryAt = s.now + secs 600 ∧ t.fn = s.fn)) ∧
      (∀ x, s.pair.swap.reachSince = some x → x + ms 100 ≤ s.now → ones s.reach < ones s.pair.peerReach → s.swapLack = 0 →
          s.pair.swap.lastEnd + secs 2 ≤ s.now → Completes .reachSwapTimer s swaps) ∧
      (s.pair.swap.reachSince = none → exec .reachSwapTimer s = .next s)) ∧
    (s.active = true → s.pair.swap.running = true → s.fn.st = .draining → s.sched.cmds = [] → Completes .swapRelease s fun t =>
      t.pair.st = .giving ∧ t.pair.hold = .no ∧ t.pair.releaseAt = s.now ∧ t.reb.st = .held
        ∧ (∀ b : Fin 48, (t.port b).modSt ≠ .inService) ∧ ∃ m, .lease .b m ∈ t.out ∧ m.type = 3 ∧ m.toPeer = true) ∧
    (s.sched.cmds = [] → s.fn.st = .draining →
      (s.fn.drain = some .swap → s.pair.st = .standby → Completes .drainComplete s fun t => t.fn.st = .running ∧ t.fn.drain = none ∧ t.pair.swap.running = false) ∧
      (s.fn.drain ≠ some .swap → s.holder = false → Completes .drainComplete s fun t => t.fn.st = .stopped ∧ t.fn.drain = none
        ∧ t.log.mirrorBuf = [] ∧ .handBack s.log.mirrorBuf ∈ t.out) ∧
      (s.fn.drain ≠ some .swap → s.holder = true → (∀ x ∈ s.log.streams, x.stripe = none) → s.log.stripes = [] → s.drainedLog = true →
        Completes .drainComplete s fun t => t.fn.st = .stopped ∧ t.fn.drain = none)) ∧
    (s.sched.cmds ≠ [] → exec .drainComplete s = .next s)

/-- At an awake controller. SHELF_KEY_TRANSFER from a peer whose certificate checks out gives a controller without a shelf key that
key, in its key store and in SPI NOR (R347). DRBG_RESEED leaves the instance seeded, nothing due; after a failed health test it
stays due since the first time and its cell holds a U fault of cause 0x0F (R344). DRBG_RESEED_OVERDUE one second after it became
due, 100 ms after the last reseeding at the latest, stops it, and not before. DRBG_STALL_TIMER when every instance stopped at
least 10 ms ago fences the Storage region, and does nothing while one still runs (R18, R344). RETENTION_EXPIRY drops the head
entry of the index once the retention clock is at MINUTE + 1 + RET_PERIOD, and not before (R355). SEAL_DIGEST_DONE of a taken-
on, fully fetched seal answers its mailbox and is gone: with a failed sector with status 0xF and its LBA, otherwise with a
record of 240 bytes, SEAL_SEQ one higher (R358, R359). -/
def Obligations.CipherWork : Prop :=
  ∀ s : State, s.awake = true →
    (∀ key, s.cip.shelfKey = none → s.peerLink = true → Completes (.shelfKeyTransfer true key) s fun t =>
      t.cip = { s.cip with shelfKey := some key } ∧ t.boot = { s.boot with shelfKeyNor := some key }) ∧
    (∀ ok key, ok = false ∨ s.cip.shelfKey.isSome = true ∨ s.peerLink = false → exec (.shelfKeyTransfer ok key) s = .next s) ∧
    (∀ i : Fin 4, s.cip.drbgs.length = 4 →
      let d := nth s.cip.drbgs i.val Drbg.reset
      let w := mkWord 0 0x41A classU 0x0F 0
      let others := fun (t : State) => ∀ j : Nat, j ≠ i → nth t.cip.drbgs j Drbg.reset = nth s.cip.drbgs j Drbg.reset
      (Completes (.drbgReseed i true) s fun t => nth t.cip.drbgs i.val Drbg.reset = ⟨none, false, s.now⟩ ∧ others t ∧ t.flt = s.flt) ∧
      (s.flt.fenced = 0 → tabGet s.flt.cells (wNode w) = none → handlingOf s.flt (wNode w) = none → Completes (.drbgReseed i false) s fun t =>
        (nth t.cip.drbgs i.val Drbg.reset) = { d with dueAt := some (min s.now d.due) } ∧ others t ∧ tabGet t.flt.cells (wNode w) = some (FWord.fresh w)) ∧
      (d.stopped = false →
        (d.due + secs 1 ≤ s.now → Completes (.drbgReseedOverdue i) s fun t => nth t.cip.drbgs i.val Drbg.reset = { d with stopped := true, lastOut := s.now } ∧ others t) ∧
        (s.now < d.due + secs 1 → exec (.drbgReseedOverdue i) s = .next s))) ∧
    ((∀ d ∈ s.cip.drbgs, d.stopped = true ∧ d.lastOut + ms 10 ≤ s.now) → s.flt.isFenced 0 = false →
      Completes .drbgStallTimer s fun t => t.flt.isFenced 0 = true) ∧
    (∀ d ∈ s.cip.drbgs, d.stopped = false ∨ s.now < d.lastOut + ms 10 → exec .drbgStallTimer s = .next s) ∧
    (∀ (ns : Fin 4096) e x rest, s.nsEntry ns.val = some e → s.retIndex ns.val = x :: rest →
      (x.minute + 1 + e.retPeriod ≤ s.rclkMin → Completes (.retentionExpiry ns) s fun t => t.retIndex ns.val = rest ∧ ∀ n ≠ ns.val, t.retIndex n = s.retIndex n) ∧
      (s.rclkMin < x.minute + 1 + e.retPeriod → exec (.retentionExpiry ns) s = .next s)) ∧
    (∀ (m : Fin 64) digest x c e op, (s.cip.seals.find? fun y => y.mbx % 64 == m.val) = some x → x.mbx = m.val → s.cmd x.ord = some c → s.nsEntry x.ns = some e →
      c.phase ≠ .taken → c.len ≤ c.fetchNext → m.val < s.mgmt.mbx.length → (s.mbx m.val).wait = .running op →
      (∀ lba, Completes (.sealDigestDone m digest (some lba)) s fun t =>
        (t.mbx m.val).wait = .answer { mkResp op 0xF 0 with order := x.ord, result := leBytes 8 lba } ∧ (∀ z ∈ t.cip.seals, z.ord ≠ x.ord)
          ∧ t.boot.sealSeq = s.boot.sealSeq) ∧
      Completes (.sealDigestDone m digest none) s fun t => (∃ r, (t.mbx m.val).wait = .answer r ∧ r.status = 0 ∧ r.order = x.ord ∧ r.result.length = 240
        ∧ r.result.take 144 = leBytes 144 (s.sealBody x e digest)) ∧ (∀ z ∈ t.cip.seals, z.ord ≠ x.ord) ∧ t.boot.sealSeq = s.boot.sealSeq + 1)

/-- At an awake controller. FAULT_RAISE of a word of a known unit and cause, not of the Bay Power Die and not of a fenced region:
class C is counted and nothing else; another waits in its cell, or merges with the word there, which keeps the higher class
(R437, R438, R440). One of a lookup cell finds its way by its ADDRESS: of cause 0x01 the way is corrected, of 0x02 or 0x03 the
clean line refetched from its page, staying locked if it was, or the way emptied, and a queued dirty line rebuilt, each counted
(R114, R123, R124), and a U word of cause 0x02 of a counter bank sets that counter to 0 with its overflow bit (R458).
FAULT_CONCENTRATOR_TAKE at an idle concentrator takes the first offered word by unit number after the last one taken, escalated
where its unit has an open M record; it goes into handling where this level handles the class and waits in the queue otherwise
(R439, R441). A busy concentrator with eight waiting takes nothing, nor does one with no word offered. -/
def Obligations.FaultRise : Prop :=
  ∀ s : State, s.awake = true →
    (∀ w : BitVec 64, unitKnown w = true → causeKnown (wCause w) = true → wClass w ≤ 4 → fromBpdUnit w = false →
        ¬ (wLevel w = 0 ∧ 0x118 ≤ wUnit w ∧ wUnit w ≤ 0x11B ∧ 2 ≤ wCause w ∧ wCause w ≤ 3) →
      (wClass w = classC → 0 < s.flt.counts.length → Completes (.faultRaise w) s fun t =>
        t.flt = { s.flt with counts := modNth s.flt.counts 0 (satAdd (2 ^ 64 - 1) · 1) }) ∧
      (wClass w ≠ classC → (∀ r, nodeRegion (wNode w) = some r → s.flt.isFenced r = false) →
        (∀ a, tabGet s.flt.cells (wNode w) = some a → Completes (.faultRaise w) s fun t =>
          t.flt = { s.flt with cells := tabPut s.flt.cells (wNode w) (mergeWord a w) }) ∧
        (tabGet s.flt.cells (wNode w) = none → handlingOf s.flt (wNode w) = none → Completes (.faultRaise w) s fun t =>
          t.flt = { s.flt with cells := tabPut s.flt.cells (wNode w) (FWord.fresh w) })) ∧
      (∀ b : Fin 16, wLevel w = 0 → wUnit w = 0x420 + b → wClass w = classU → wCause w = 2 → tabWf s.pmc.vals = true → Completes (.faultRaise w) s fun t =>
        tabGetD t.pmc.vals (512 * b + wAddr w % 512) 0 = 0 ∧ tabGetD t.pmc.ovf (512 * b + wAddr w % 512) false = true ∧ t.pmc.sels = s.pmc.sels)) ∧
    (∀ (w : BitVec 64) (set way : Nat), set < 65536 → way < 16 → tabWf s.tc.lines = true → wLevel w = 0 → wUnit w = 0x118 + set % 4 →
      let l := s.tcWayOf set way
      let queued := s.tc.wb.any fun e => tcSet e.la == set && e.way == way
      let refetched := fun (p : PoolSlot) => if l.l && l.v then
          TcLine.sealed { l with dirtyMask := 0, entries := (List.range 12).map fun i => tabGetD p.entries (l.la % 68 * 12 + i) eUnmapped }
        else TcLine.blank
      (∀ k : Fin 8, wAddr w % 2 ^ 32 = 8 * (16 * set + way) + k →
        (wCause w = 1 → Completes (.faultRaise w) s fun t => t.tc.errCorrected = satAdd 0xFFFFFFFF s.tc.errCorrected 1 ∧ t.tcWayOf set way = l.corrected ∧ t.map = s.map) ∧
        (wCause w = 2 → queued = false → l.f = false → ∀ p, s.slotOf (l.la / 68) = some p → Completes (.faultRaise w) s fun t =>
          t.tcWayOf set way = refetched p ∧ t.tc.errRebuilt = s.tc.errRebuilt) ∧
        (wCause w = 2 → queued = true → Completes (.faultRaise w) s fun t =>
          t.tc.errRebuilt = satAdd 0xFFFF s.tc.errRebuilt 1 ∧ (t.tcWayOf set way).v = true ∧ (t.tcWayOf set way).dirtyMask = 0xFFF)) ∧
      (wAddr w % 2 ^ 32 = 16 * set + way → wCause w = 3 → queued = false → l.f = false → ∀ p, s.slotOf (l.la / 68) = some p →
        Completes (.faultRaise w) s fun t => t.tcWayOf set way = refetched p ∧ t.tc.errParity = satAdd 0xFFFF s.tc.errParity 1)) ∧
    (∀ c : Nat, isConc c = true →
      let k := s.conc c
      let l := s.offers c
      (k.handling = none → k.queue = [] → l = [] → exec (.faultConcentratorTake c) s = .next s) ∧
      (k.handling.isSome = true → 8 ≤ k.queue.length → exec (.faultConcentratorTake c) s = .next s) ∧
      (∀ n w a, ((l.find? fun e => decide (k.last < e.1)) = some (n, w) ∨ ((∀ e ∈ l, e.1 ≤ k.last) ∧ l.head? = some (n, w))) → firstConc n = some c →
        k.handling = none → k.queue = [] → tabGet s.flt.cells n = some a → tabWf s.flt.cells = true → wClass (s.escalate w).word < classX →
        Completes (.faultConcentratorTake c) s fun t => tabGet t.flt.cells n = none ∧
          t.conc c = (if handlesHere c (s.escalate w) then { k with handling := some (s.escalate w), last := n } else { k with queue := [s.escalate w], last := n })))

/-- At an awake controller, of a concentrator with nothing queued behind the word it handles. FAULT_HANDLING_END of a T word that
succeeded counts it as C and takes a FAULT_SEQ; one whose budget is spent is raised again as a U word of the block. A U word
that completed, no second watchdog of a core, takes a FAULT_SEQ, and one of an M cause leaves its record open; one that was not
contained waits as an X word at its region (Table 1.3, R441). CWN_ACK_WRITE closes the open record of its FAULT_SEQ and changes
nothing else. BPD_WORDS_DELIVERED with none of class X or F held leaves none, each having taken a FAULT_SEQ, and the interface
runs (R20, R21, R446). F_STOP_RESET_TIMER after a stop resets the chip to start-up step 4, and at the third stop within an hour
leaves it stopped for good (R19); at a controller that is not stopped it does nothing. -/
def Obligations.FaultEnds : Prop :=
  ∀ s : State,
    (∀ c w, (s.conc c).handling = some w → (s.conc c).queue = [] → handlesHere c w = true → s.awake = true →
      (wClass w.word = classT → 0 < s.flt.counts.length → Completes (.faultHandlingEnd c true) s fun t =>
        (t.conc c).handling = none ∧ t.flt.seqNext = seqAfter s.flt.seqNext ∧ nth t.flt.counts 0 0 = satAdd (2 ^ 64 - 1) (nth s.flt.counts 0 0) 1 ∧ t.flt.opens = s.flt.opens) ∧
      (∀ b, c = 4096 + b → b < 4096 → wClass w.word = classT → unitKnown (mkWord 1 b classU (wCause w.word) 0) = true → causeKnown (wCause w.word) = true →
        b ≠ 0x40F → s.flt.fenced = 0 → tabGet s.flt.cells c = none → (∀ e ∈ s.flt.concs, e.1 ≠ c → e.2.handling = none) → tabWf s.flt.concs = true →
        Completes (.faultHandlingEnd c false) s fun t => (t.conc c).handling = none ∧
          tabGet t.flt.cells c = some (FWord.fresh (mkWord 1 b classU (wCause w.word) (wAddr w.word)))) ∧
      (wClass w.word = classU → s.secondWatchdog w.word = false → Completes (.faultHandlingEnd c true) s fun t => t.flt.opens =
        (if causeM (wCause w.word) then s.flt.opens ++ [⟨wUnit w.word, s.flt.seqNext⟩] else s.flt.opens)) ∧
      (wClass w.word = classU → c ≠ 12288 → Completes (.faultHandlingEnd c false) s fun t => (t.conc c).handling = none ∧
        (t.conc c).queue = [{ w with word := withKind w.word (32 * classX + wCause w.word) }] ∧ t.flt.cells = s.flt.cells)) ∧
    (∀ c b, (s.conc c).handling = none → exec (.faultHandlingEnd c b) s = .next s) ∧
    (s.awake = true → ∀ q, Completes (.cwnAckWrite q) s fun t => t = s.onFlt fun f => { f with opens := f.opens.filter fun o => o.seq != q }) ∧
    (s.awake = true → (∀ w ∈ s.bpd.held, wClass w.word < classX) → Completes .bpdWordsDelivered s fun t => t.flt.bpdIf = true ∧
      t.bpd = { s.bpd with held := [], lostWords := false } ∧ t.flt.seqNext = seqAfter^[s.bpd.held.length + b2n s.bpd.lostWords] s.flt.seqNext ∧ t.flt.cells = s.flt.cells) ∧
    (s.flt.stopped = true → s.flt.stuck = false → s.bpd.mainReset = false →
      (((s.flt.stopTimes.filter fun x => decide (s.now < x + secs 3600)).length < 3) → Completes .fStopResetTimer s fun t =>
        t.flt.stopped = false ∧ t.boot.step = 4 ∧ t.flt.stopTimes = s.flt.stopTimes ∧ t.sheet.media = s.sheet.media) ∧
      (3 ≤ ((s.flt.stopTimes.filter fun x => decide (s.now < x + secs 3600)).length) → Completes .fStopResetTimer s fun t =>
        t.flt = { s.flt with stuck := true })) ∧
    (s.flt.stopped = false ∨ s.flt.stuck = true → exec .fStopResetTimer s = .next s)

/-- PCIE_COMPLETION_RX of an outstanding request frees its tag; poisoned data is also logged and counted, and answers its mailbox
with status 0xE unless a storage write runs there, whose mailbox is left alone (R412). One of a discarded request frees the tag
alone (R415); one of a timed-out request is counted late and logged as unexpected, as one of no request is (R414).
PCIE_COMPLETION_TIMEOUT puts the tag in quarantine, is logged and counted, and answers the mailbox with status 0xC;
TAG_QUARANTINE_EXPIRY frees the tag after 100 ms and not before (R414). BUS_MASTER_ENABLE_CLEAR and D3HOT_TRANSITION into D3hot
leave no request outstanding but discarded, and hold the mailboxes that await data; BUS_MASTER_ENABLE_SET and the return to D0
post the records held, send the messages held for vectors that are not masked, and answer held mailboxes with status 0xD (R400,
R415). -/
def Obligations.PcieRequests : Prop :=
  ∀ s : State, s.mgmt.mbx.length = 64 → s.mgmt.evqs.length = 64 → s.mgmt.msix.length = 64 → tabWf s.mgmt.tags = true →
    let bit := fun (t : State) k => t.mgmt.aer / 2 ^ k % 2 = 1
    let halted := fun (t : State) => t.master = false ∧ (∀ k m, tabGet s.mgmt.tags k = some (.outstanding m) → tabGet t.mgmt.tags k = some (.dead s.now)) ∧
      (∀ m : Fin 64, (t.mbx m.val).dmaHold = ((s.mbx m.val).dmaHold || (s.mbx m.val).fetching)) ∧ t.mgmt.evqs = s.mgmt.evqs
    let resumed := fun (t : State) => t.master = true ∧ (∀ q : Fin 64, (t.evq q.val).heldRecs = []) ∧
      (∀ v : Fin 64, (nth s.mgmt.msix v.val Msix.reset).pend = true → (nth s.mgmt.msix v.val Msix.reset).masked = false →
        .msix v.val ∈ t.out ∧ (nth t.mgmt.msix v.val Msix.reset).pend = false) ∧
      (∀ (m : Fin 64) op, (s.mbx m.val).wait = .running op → (s.mbx m.val).dmaHold = true →
        (t.mbx m.val).wait = .answer (mkResp op 0xD 0) ∧ (t.mbx m.val).dmaHold = false) ∧
      (∀ m : Fin 64, (s.mbx m.val).dmaHold = false → t.mbx m.val = s.mbx m.val)
    (∀ k : Fin 1024,
      (∀ (m : Fin 64), tabGet s.mgmt.tags k.val = some (.outstanding m.val) →
        (Completes (.pcieCompletionRx k false) s fun t => t = s.onMgmt fun g => { g with tags := tabDel g.tags k.val }) ∧
        ((s.mbx m.val).wait = .running 0x0403 → Completes (.pcieCompletionRx k true) s fun t => t.mgmt.mbx = s.mgmt.mbx ∧ tabGet t.mgmt.tags k.val = none ∧
          bit t 12 ∧ t.mgmt.poisonIn = satAdd (2 ^ 32 - 1) s.mgmt.poisonIn 1) ∧
        (∀ op, (s.mbx m.val).wait = .running op →
          (op ≠ 0x0403 → Completes (.pcieCompletionRx k true) s fun t => (t.mbx m.val).wait = .answer (mkResp op 0xE 0) ∧ (t.mbx m.val).fetching = false ∧
            tabGet t.mgmt.tags k.val = none ∧ bit t 12 ∧ t.mgmt.poisonIn = satAdd (2 ^ 32 - 1) s.mgmt.poisonIn 1) ∧
          (Completes (.pcieCompletionTimeout k) s fun t => (t.mbx m.val).wait = .answer (mkResp op 0xC 0) ∧ (t.mbx m.val).fetching = false ∧
            tabGet t.mgmt.tags k.val = some (.quarantine s.now) ∧ bit t 14 ∧ t.mgmt.cplTimeout = satAdd (2 ^ 32 - 1) s.mgmt.cplTimeout 1))) ∧
      (∀ x b, tabGet s.mgmt.tags k.val = some (.dead x) → Completes (.pcieCompletionRx k b) s fun t => t = s.onMgmt fun g => { g with tags := tabDel g.tags k.val }) ∧
      (∀ x b, tabGet s.mgmt.tags k.val = some (.quarantine x) →
        (Completes (.pcieCompletionRx k b) s fun t => bit t 16 ∧ t.mgmt.lateCpl = satAdd (2 ^ 32 - 1) s.mgmt.lateCpl 1 ∧ t.mgmt.tags = s.mgmt.tags) ∧
        (x + ms 100 ≤ s.now → Completes (.tagQuarantineExpiry k) s fun t => t = s.onMgmt fun g => { g with tags := tabDel g.tags k.val }) ∧
        (s.now < x + ms 100 → exec (.tagQuarantineExpiry k) s = .next s)) ∧
      (∀ b, tabGet s.mgmt.tags k.val = none → (Completes (.pcieCompletionRx k b) s fun t => bit t 16 ∧ t.mgmt.tags = s.mgmt.tags) ∧
        exec (.pcieCompletionTimeout k) s = .next s)) ∧
    (s.mailboxesUp = true → s.master = true → Completes .busMasterEnableClear s halted ∧ Completes (.d3hotTransition true) s halted) ∧
    (s.mailboxesUp = true → s.master = false →
      (s.mgmt.d3 = false → Completes .busMasterEnableSet s resumed) ∧ (s.mgmt.bme = true → Completes (.d3hotTransition false) s resumed))

/-- With mailboxes answering and every queue and vector there. EVQ_HEAD_WRITE of a queue: a head that leaves more pending than it
has entries sets HEAD_ERR alone; otherwise the head is taken, the pending records count as unsignalled from now and, at the
count threshold, the vector is sent and the queue disarmed (R410, R411). EVQ_TIME_THRESHOLD of an armed queue whose oldest
unsignalled record has waited TIME_TH sends its vector, and not before. MSIX_VECTOR_UNMASK clears the mask and sends what is
pending. No other queue changes. REGISTER_WRITE to EVQ_HEAD does what EVQ_HEAD_WRITE does; to a doorbell of the client's own
mailbox that is not BUSY makes it BUSY with its token (R404, R405); to the buffer of a BUSY one sets WR_BUSY alone; an aligned
64-bit write is the lower word's and then the upper's (R401); a misaligned one, and one of a client outside its windows, does
nothing. -/
def Obligations.EventQueues : Prop :=
  ∀ s : State, s.mailboxesUp = true → s.mgmt.evqs.length = 64 → s.mgmt.msix.length = 64 → s.mgmt.mbx.length = 64 →
    (∀ q : Fin 64, (s.evq q.val).enabled = true →
      let e := s.evq q.val
      let others := fun (t : State) => ∀ r : Nat, r ≠ q → t.evq r = s.evq r
      (∀ v : BitVec 32,
        let p := (e.tail + 2 ^ 32 - v.toNat) % 2 ^ 32
        (2 ^ e.log2n < p → Completes (.evqHeadWrite q v) s fun t => t.evq q.val = { e with headErr := true } ∧ others t ∧ t.out = s.out) ∧
        (p ≤ 2 ^ e.log2n → p = 0 ∨ p < e.countTh → Completes (.evqHeadWrite q v) s fun t =>
          t.evq q.val = { e with head := v.toNat, armed := true, unsignalled := p, oldest := s.now } ∧ others t ∧ t.out = s.out) ∧
        (p ≤ 2 ^ e.log2n → 0 < p → e.countTh ≤ p → s.master = true → (nth s.mgmt.msix e.vector Msix.reset).masked = false → Completes (.evqHeadWrite q v) s fun t =>
          t.evq q.val = { e with head := v.toNat, armed := false, unsignalled := 0, oldest := s.now } ∧ others t ∧ t.out = .msix e.vector :: s.out) ∧
        exec (.registerWrite .host (0x0040010 + 64 * q) false (v.setWidth 64)) s = exec (.evqHeadWrite q v) s) ∧
      (e.timeTh ≠ 0 → 0 < e.unsignalled → e.armed = true →
        (e.oldest + us e.timeTh ≤ s.now → s.master = true → (nth s.mgmt.msix e.vector Msix.reset).masked = false → Completes (.evqTimeThreshold q) s fun t =>
          t.evq q.val = { e with armed := false, unsignalled := 0 } ∧ others t ∧ t.out = .msix e.vector :: s.out) ∧
        (s.now < e.oldest + us e.timeTh → exec (.evqTimeThreshold q) s = .next s))) ∧
    (∀ v : Fin 64,
      let e := nth s.mgmt.msix v.val Msix.reset
      (e.pend = true → s.master = true → Completes (.msixVectorUnmask v) s fun t =>
        nth t.mgmt.msix v.val Msix.reset = { e with masked := false, pend := false } ∧ t.out = .msix v.val :: s.out ∧ t.mgmt.evqs = s.mgmt.evqs) ∧
      (e.pend = false → Completes (.msixVectorUnmask v) s fun t =>
        nth t.mgmt.msix v.val Msix.reset = { e with masked := false } ∧ t.out = s.out ∧ t.mgmt.evqs = s.mgmt.evqs)) ∧
    (∀ (c : RegClient) (m : Fin 64) (v : BitVec 64), s.ownsMbx c m.val = true →
      ((s.mbx m.val).st ≠ .busy → v.getLsbD 0 = true → Completes (.registerWrite c (0x0100000 + 16 * m) false v) s fun t =>
        (t.mbx m.val).st = .busy ∧ (t.mbx m.val).token = v.toNat / 65536 % 65536 ∧ (t.mbx m.val).notify = v.getLsbD 6 ∧
          (t.mbx m.val).evq = v.toNat / 256 % 64 ∧ (t.mbx m.val).buf = (s.mbx m.val).buf ∧ ∀ n : Nat, n ≠ m → t.mbx n = s.mbx n) ∧
      ((s.mbx m.val).st = .busy → v.getLsbD 0 = true → Completes (.registerWrite c (0x0100000 + 16 * m) false v) s fun t =>
        t.mbx m.val = { s.mbx m.val with overrun := true }) ∧
      (∀ k, k < 1024 → (s.mbx m.val).st = .busy → Completes (.registerWrite c (0x1000000 + 4096 * m + 4 * k) false v) s fun t =>
        t.mbx m.val = { s.mbx m.val with wrBusy := true }) ∧
      (∀ k, k < 1024 → (s.mbx m.val).st ≠ .busy → tabWf (s.mbx m.val).buf = true → Completes (.registerWrite c (0x1000000 + 4096 * m + 4 * k) false v) s fun t =>
        ∀ a, tabGetD (t.mbx m.val).buf a 0 = if 4 * k ≤ a ∧ a < 4 * k + 4 then v.extractLsb' (8 * (a - 4 * k)) 8 else tabGetD (s.mbx m.val).buf a 0)) ∧
    (∀ (c : RegClient) o v, o % 8 = 0 → ∃ u, exec (.registerWrite c o false v) s = .next u ∧
      exec (.registerWrite c o true v) s = exec (.registerWrite c (o + 4) false (v >>> 32)) u) ∧
    (∀ (c : RegClient) o b v, o % 4 ≠ 0 ∨ (b = true ∧ o % 8 ≠ 0) ∨ (c = .debug ∧ o + 8 ≤ 0x0100000) → exec (.registerWrite c o b v) s = .next s)

/-- SESSION_OPEN with a good signature of an enrolled key takes the lowest free session under the next number and is accepted;
without a free session, key or signature it is counted as dropped (R420, R421). COMMAND_DATAGRAM_RX of a higher SEQ is a GO for
the session's mailbox, an OVERRUN while that is BUSY; of the last SEQ it sends the response again; an older one or a bad tag is
counted as dropped. SESSION_CLOSE, and SESSION_TIMEOUT after 60 s and not before, end the session: a running command's response
will be discarded, an idle mailbox is as after reset. FUNCTION_LEVEL_RESET leaves mailboxes 0 to 47, event queues, vectors, PCIe
error counts and bus mastering at their reset values and every tag in quarantine; the other mailboxes, the sessions and the
routes stay (R416, R417). -/
def Obligations.Sessions : Prop :=
  ∀ s : State, s.mgmt.mbx.length = 64 → s.mgmt.sessions.length = 8 →
    let gone := fun (i : Nat) (t : State) => t.session i = none ∧ (∀ j ≠ i, t.session j = s.session j) ∧
      t.mbx (48 + i) = (if (s.mbx (48 + i)).st = .busy then { s.mbx (48 + i) with discard := true } else Mbx.reset)
    let dropped := fun (t : State) => t = s.onMgmt fun g => { g with dropped := g.dropped + 1 }
    (s.mailboxesUp = true →
      (∀ (o : OpenMsg) (i : Fin 8), (∀ j : Nat, j < i → (s.session j).isSome = true) → s.session i.val = none → o.sigOk = true → nth s.boot.opKeys o.keyIndex 0 ≠ 0 →
        Completes (.sessionOpen o) s fun t => t.session i.val = some ⟨s.mgmt.nextSession, o.keyIndex, 0, 0, s.now⟩ ∧ (∀ j : Nat, j ≠ i → t.session j = s.session j) ∧
          t.mgmt.nextSession = (s.mgmt.nextSession + 1) % 2 ^ 32 ∧ t.out = .sessionAccept i.val :: s.out) ∧
      (∀ o : OpenMsg, (∀ i : Fin 8, (s.session i.val).isSome = true) ∨ o.sigOk = false ∨ nth s.boot.opKeys o.keyIndex 0 = 0 → Completes (.sessionOpen o) s dropped) ∧
      (∀ (i : Fin 8) x, s.session i.val = some x → ∀ n,
        (n < x.rxSeq → ∀ b, Completes (.sessionClose i n b) s dropped ∧ Completes (.commandDatagramRx i n b) s dropped) ∧
        (Completes (.sessionClose i n false) s dropped ∧ Completes (.commandDatagramRx i n false) s dropped) ∧
        (x.rxSeq ≤ n → Completes (.sessionClose i n true) s (gone i)) ∧
        (x.rxSeq < n → (s.mbx (48 + i)).st ≠ .busy → Completes (.commandDatagramRx i n true) s fun t =>
          t.session i.val = some { x with rxSeq := n, lastRx := s.now } ∧ (t.mbx (48 + i)).st = .busy ∧ (t.mbx (48 + i)).wait = .free ∧ t.out = s.out) ∧
        (x.rxSeq < n → (s.mbx (48 + i)).st = .busy → Completes (.commandDatagramRx i n true) s fun t => t.mbx (48 + i) = { s.mbx (48 + i) with overrun := true }) ∧
        (n = x.rxSeq → (s.mbx (48 + i)).st = .done → Completes (.commandDatagramRx i n true) s fun t =>
          t.mgmt.mbx = s.mgmt.mbx ∧ t.out = .response (48 + i) (bufResp (s.mbx (48 + i)).buf) :: s.out))) ∧
    (∀ (i : Fin 8) x, s.session i.val = some x →
      (x.lastRx + secs 60 ≤ s.now → Completes (.sessionTimeout i) s (gone i)) ∧ (s.now < x.lastRx + secs 60 → exec (.sessionTimeout i) s = .next s)) ∧
    (∀ (i : Fin 8) n b, s.session i.val = none → exec (.sessionClose i n b) s = .next s ∧ exec (.commandDatagramRx i n b) s = .next s ∧ exec (.sessionTimeout i) s = .next s) ∧
    (s.bpd.mainReset = false → Completes .functionLevelReset s fun t =>
      (∀ m, m < 48 → t.mbx m = Mbx.reset) ∧ (∀ m, 48 ≤ m → t.mbx m = s.mbx m) ∧ t.mgmt.evqs = List.replicate 64 Evq.reset ∧ t.mgmt.msix = List.replicate 64 Msix.reset ∧
        t.mgmt.bme = false ∧ t.mgmt.d3 = false ∧ t.mgmt.aer = 0 ∧ t.mgmt.cplTimeout = 0 ∧ t.mgmt.lateCpl = 0 ∧ t.mgmt.poisonIn = 0 ∧ t.mgmt.poisonOut = 0 ∧
        (∀ k, (tabGet t.mgmt.tags k).isSome = (tabGet s.mgmt.tags k).isSome) ∧ (∀ k v, tabGet t.mgmt.tags k = some v → ∃ x, v = .quarantine x) ∧
        t.mgmt.sessions = s.mgmt.sessions ∧ t.mgmt.routes = s.mgmt.routes ∧ t.log = s.log ∧ t.fn.st = s.fn.st)

/-- MAILBOX_COMPLETION of an answered mailbox writes the response into its buffer, leaves it DONE and free and posts the completion
record where it was asked for; one that nobody awaits leaves it IDLE with its buffer as it was (R405, R406, R421).
MAILBOX_INVALID_OPCODE of an opcode no table lists, its GO the next to be taken, is answered with status 2 (R426).
PEER_MAILBOX_EFFECT at mailboxes 56 to 59 clears the retirements of the bay, its module READY, or erases the slot's key, and
responds (R419). COUNTER_HAPPENING at an awake controller adds 1, or in mode 1 the value, to each counter whose selector takes
it, under its SPAN, sets the overflow bit at a wrap, and changes no other counter (R451 to R453, R457); the bank's sampling
counter writes a sample at its wrap (R459). PMC_SMP_HEAD_WRITE consumes samples unless the head would leave more than 256. -/
def Obligations.AnswersAndCounts : Prop :=
  ∀ s : State,
    (∀ (m : Fin 64) r, s.mgmt.mbx.length = 64 → (s.mbx m.val).wait = .answer r → (s.mbx m.val).st = .busy →
      let b := s.mbx m.val
      let others := fun (t : State) => ∀ n : Nat, n ≠ m → t.mbx n = s.mbx n
      (b.discard = false → tabWf b.buf = true → Completes (.mailboxCompletion m) s fun t =>
        (t.mbx m.val).st = .done ∧ (t.mbx m.val).wait = .free ∧ .response m.val r ∈ t.out ∧ others t ∧
          (∀ k, tabGetD (t.mbx m.val).buf k 0 = if k < r.bytes.length then nth r.bytes k 0 else tabGetD b.buf k 0) ∧
          (m.val < 48 → b.notify = true → b.evq < s.mgmt.evqs.length → (s.evq b.evq).enabled = true → (t.evq b.evq).seq = ((s.evq b.evq).seq + 1) % 2 ^ 32) ∧
          (b.notify = false → t.mgmt.evqs = s.mgmt.evqs)) ∧
      (b.discard = true → Completes (.mailboxCompletion m) s fun t => (t.mbx m.val).st = .idle ∧ (t.mbx m.val).wait = .free ∧ (t.mbx m.val).buf = b.buf ∧
        others t ∧ t.out = s.out)) ∧
    (∀ (h : MbxHdr) op, s.mgmt.mbx.length = 64 → s.mailboxesUp = true → op ∉ mbxOpcodes → (s.mbx h.mbx.val).st = .busy → (s.mbx h.mbx.val).wait = .free →
      s.nextGo = some h.mbx.val → h.mbx.val < 48 ∨ h.dlen = 0 →
      Completes (.mailboxInvalidOpcode h op) s fun t => (t.mbx h.mbx.val).wait = .answer (mkResp op 2 0) ∧ t.mgmt.taken = s.mgmt.taken + 1) ∧
    (∀ (m : Fin 64), s.mailboxesUp = true → 56 ≤ m.val → m.val ≤ 59 →
      (∀ b : Fin 48, s.sheet.ports.length = 48 → (s.port b).modSt = .ready → (s.port b).ops = [] → Completes (.peerMailboxEffect m (.modClear b)) s fun t =>
        (t.port b).lane0.retired = false ∧ (t.port b).lane1.retired = false ∧ (t.port b).latchedLost = false ∧ t.out.head? = some (.response m.val (mkResp 0x0305 0 0))) ∧
      (∀ a k, (tabGet s.cip.slots (4 * a + k)).isSome = true → Completes (.peerMailboxEffect m (.keyDestroy a k)) s fun t =>
        (s.keySlot (4 * a + k)).gen = (t.keySlot (4 * a + k)).gen ∧ (t.keySlot (4 * a + k)).material = 0 ∧ t.out.head? = some (.response m.val (mkResp 0x0503 0 0)))) ∧
    (∀ h : Happening, s.awake = true → tabWf s.pmc.sels = true → tabWf s.pmc.vals = true →
      let value := fun (t : State) i => tabGetD t.pmc.vals i 0
      (Completes (.counterHappening h) s fun t => t.pmc.sels = s.pmc.sels ∧ ∀ i,
        match tabGet s.pmc.sels i with
        | some x =>
          let sum := (value s i).toNat + (if selMode x = 1 then h.value else 1)
          if selTakes (s.fn.committed.map (·.tenants)) i x h then
            value t i = BitVec.ofNat 64 (sum % spanTop (selSpan x)) ∧ (tabGetD t.pmc.ovf i false = (tabGetD s.pmc.ovf i false || decide (spanTop (selSpan x) ≤ sum)))
          else value t i = value s i ∧ tabGet t.pmc.ovf i = tabGet s.pmc.ovf i
        | none => value t i = value s i ∧ tabGet t.pmc.ovf i = tabGet s.pmc.ovf i) ∧
      (∀ i x, s.pmc.sels = [(i, x)] → selTakes (s.fn.committed.map (·.tenants)) i x h = true → selMode x ≠ 1 → i / 512 < s.pmc.banks.length →
        let k := nth s.pmc.banks (i / 512) Bank.reset
        (value s i).toNat + 1 = spanTop (selSpan x) → k.sampleEn = true → k.sampleCtr = i % 512 → (k.tail + 2 ^ 32 - k.head) % 2 ^ 32 < 256 →
        Completes (.counterHappening h) s fun t => (nth t.pmc.banks (i / 512) Bank.reset).tail = (k.tail + 1) % 2 ^ 32 ∧
          (nth t.pmc.banks (i / 512) Bank.reset).lost = satAdd (2 ^ 32 - 1) k.lost 0)) ∧
    (∀ (b : Fin 16) (v : BitVec 32), s.awake = true → s.pmc.banks.length = 16 →
      let k := nth s.pmc.banks b.val Bank.reset
      Completes (.pmcSmpHeadWrite b v) s fun t => (nth t.pmc.banks b.val Bank.reset = if (k.tail + 2 ^ 32 - v.toNat) % 2 ^ 32 ≤ 256 then { k with head := v.toNat } else k) ∧
        t.pmc.vals = s.pmc.vals ∧ ∀ c : Nat, c ≠ b → nth t.pmc.banks c Bank.reset = nth s.pmc.banks c Bank.reset)

/-- AUX_POWER_ON leaves start-up at step 1 with the faults and the Bay Power Die as after reset, the flash media and the key records
kept; MAIN_DIE_POWER_UP at a held main die with a feed goes to step 3; CHIP_RESET, of a chip that is not stopped or after its F
stop, to step 4, keeping the Bay Power Die, the fault history, the module records and the media, with the function EMPTY (R463,
Table 21.1). START_UP_STEP_END: steps 1 to 3 wait for a feed and the main die's supply; step 4 boots the ACTIVE slot, if it is
not valid the other, and with a third failed boot behind it the other becomes ACTIVE (R466, R467); step 5 takes the shelf key;
step 7 withdraws a failed cipher cell and fences for a cell that may not be withdrawn (R468); step 8 enables the declared bays
(R472); step 9 ends start-up on a new shelf, refuses with the cause named, or commits the image found (R471, R474); steps 10 and
11 wait for the role; step 12 loads the image; step 13 ends start-up (R476). -/
def Obligations.ResetsAndStart : Prop :=
  ∀ s : State,
    (∀ board, s.bpd.aux = false ∨ s.boot.step = 1 → Completes (.auxPowerOn board) s fun t => t.boot.step = 1 ∧ t.boot.board = board ∧ t.flt = FltSt.reset ∧
      t.bpd.mainReset = true ∧ t.bpd.aux = true ∧ t.bpd.sel = .init ∧ t.sheet.media = s.sheet.media ∧ t.sheet.modules = s.sheet.modules ∧
      t.boot.shelfKeyNor = s.boot.shelfKeyNor ∧ t.boot.rigKey = s.boot.rigKey ∧ t.boot.svnFuses = max s.boot.svnFuses board.svnFuses ∧ t.fn = Fn.reset) ∧
    (∀ board, s.bpd.aux = true → s.boot.step ≠ 1 → exec (.auxPowerOn board) s = .next s) ∧
    (s.bpd.aux = true → s.feedOn = true → s.bpd.mainReset = true → Completes .mainDiePowerUp s fun t => t = s.onBoot fun b => { b with step := 3 }) ∧
    (s.feedOn = false ∨ s.bpd.mainReset = false → exec .mainDiePowerUp s = .next s) ∧
    (∀ cause : ResetCause, s.bpd.mainReset = false → (if cause = .fStop then s.flt.stopped = true ∧ s.flt.stuck = false else s.flt.stopped = false) →
      Completes (.chipReset cause) s fun t => t.boot.step = 4 ∧ t.boot.active = s.boot.active ∧ t.bpd = s.bpd ∧ t.fn = Fn.reset ∧ t.mgmt = MgmtSt.reset ∧
        t.flt.history = s.flt.history ∧ t.flt.seqNext = s.flt.seqNext ∧ t.flt.stopped = false ∧ t.flt.fenced = 0 ∧ t.cip.slots = s.cip.slots ∧
        t.cip.shelfKey = none ∧ t.sheet.media = s.sheet.media ∧ t.sheet.modules = s.sheet.modules ∧ t.pair.st = .init) ∧
    (∀ cause : ResetCause, s.bpd.mainReset = true ∨ (cause ≠ .fStop ∧ s.flt.stopped = true) ∨ (cause = .fStop ∧ s.flt.stopped = false) →
      exec (.chipReset cause) s = .next s) ∧
    (∀ e, s.bpd.aux = true →
      let at_ := fun n t => t = s.onBoot fun b => { b with step := n }
      let stay := exec (.startUpStepEnd e) s = .next s
      (s.boot.step = 1 → Completes (.startUpStepEnd e) s (at_ 2)) ∧
      (s.boot.step = 2 → if s.feedOn then Completes (.startUpStepEnd e) s (at_ 3) else stay) ∧
      (s.boot.step = 3 → if s.bpd.mainReset then stay else Completes (.startUpStepEnd e) s (at_ 4)) ∧
      (4 ≤ s.boot.step → s.awake = false ∨ s.fn.st = .fenced → stay) ∧
      (s.awake = true → s.fn.st ≠ .fenced →
        (s.boot.step = 4 → s.boot.tripHold = false →
          let a := if 3 ≤ s.boot.failed then 3 - s.boot.active else s.boot.active
          let f := if 3 ≤ s.boot.failed then 0 else s.boot.failed
          Completes (.startUpStepEnd e) s fun t => t.boot.active = a ∧
            (if s.slotValid a then t.boot.running = a ∧ t.boot.step = 5 ∧ t.boot.failed = f + 1
            else if s.slotValid (3 - a) then t.boot.running = 3 - a ∧ t.boot.step = 5 ∧ t.boot.failed = f + 1
            else t.boot.step = 4 ∧ t.boot.running = s.boot.running)) ∧
        (s.boot.step = 5 → Completes (.startUpStepEnd e) s fun t => t.boot.step = 6 ∧ t.cip = { s.cip with shelfKey := s.boot.shelfKeyNor }) ∧
        (∀ gib, s.boot.step = 6 → Completes (.startUpStepEnd (.dram gib)) s fun t => t.boot.step = 7 ∧ t.boot.board = { s.boot.board with dramGib := gib }) ∧
        (s.boot.step = 7 → (Completes (.startUpStepEnd (.selfTest [])) s fun t => t = s.onBoot fun b => { b with step := 8, failed := 0 }) ∧
          (∀ k u, k ≠ 3 → 0x1C0 ≤ u → u ≤ 0x1DF → u ∉ s.flt.withdrawn → Completes (.startUpStepEnd (.selfTest [(k, u)])) s fun t =>
            t.boot.step = 8 ∧ t.boot.failed = 0 ∧ t.flt.withdrawn = s.flt.withdrawn ++ [u] ∧ t.cip.withdrawn = s.cip.withdrawn ++ [u - 0x1C0]) ∧
          (∀ k u, k ≠ 3 → withdrawable u = false → Completes (.startUpStepEnd (.selfTest [(k, u)])) s fun t =>
            t.fn.st = .fenced ∧ t.boot.step = 7 ∧ t.boot.failed = 0)) ∧
        (∀ c, s.boot.step = 8 → s.bpd.chans.length = 48 → s.boot.declCopy = some c → Completes (.startUpStepEnd (.declCopy true)) s fun t =>
          t.boot.step = 9 ∧ ∀ b : Fin 48, c.bays.getLsbD b = true → (t.chan b).enabled = true) ∧
        (s.boot.step = 9 → (∀ i r, s.boot.declCopy = none → Completes (.startUpStepEnd (.shelf [] i r)) s fun t => t.boot.step = 14 ∧ t.fn = s.fn) ∧
          (∀ l i r, (l ≠ [] ∨ s.boot.declCopy.isSome = true) → s.rootCause l ≠ 0 → Completes (.startUpStepEnd (.shelf l i r)) s fun t =>
            t.fn.refusal = s.rootCause l ∧ t.boot.step = 10 ∧ (s.rootCause l ≠ 0x13 → t.fn.st = .stopped)) ∧
          (∀ l i r, (l ≠ [] ∨ s.boot.declCopy.isSome = true) → s.rootCause l = 0 →
            (r = false ∨ s.imageOk l i = false → Completes (.startUpStepEnd (.shelf l (some i) r)) s fun t => t.fn.refusal = 0x14 ∧ t.boot.step = 10 ∧ t.fn.st = .stopped) ∧
            (r = true → s.imageOk l i = true → i.decl.dramMin ≤ s.boot.board.dramGib → i.decl.minBays = 0 → Completes (.startUpStepEnd (.shelf l (some i) r)) s fun t =>
              t.boot.step = 10 ∧ t.fn.st = .stopped ∧ t.fn.committed = some i ∧ t.boot.declCopy = some ⟨i.shelfId, i.rigGen, i.decl.bayMask⟩))) ∧
        (s.boot.step = 10 → (s.joined = true → s.fn.refusal = 0 → Completes (.startUpStepEnd e) s (at_ 11)) ∧
          (s.pair.st = .taking → s.pair.takeStep ≠ 3 → stay) ∧
          (s.pair.st = .taking → s.pair.takeStep = 3 → s.fn.refusal = 0 → (∀ p ∈ s.sheet.ports, p.modSt ≠ .fencing) → Completes (.startUpStepEnd e) s (at_ 11))) ∧
        (s.boot.step = 11 → s.joined = true → if s.pair.resync = 1 then Completes (.startUpStepEnd e) s (at_ 12) else stay) ∧
        (s.boot.step = 12 → s.joined = true ∨ (s.pair.st = .taking ∧ s.pair.takeStep = 7 ∧ s.log.ckpt = none) → Completes (.startUpStepEnd e) s fun t =>
          t.boot.step = 13 ∧ t.fn.st = .armed ∧ t.fn.lanesOpen = false ∧ t.fn.rules = s.fn.committed.map (·.cls)) ∧
        (s.boot.step = 13 → (s.pair.st = .taking → stay) ∧
          (s.joined = true → s.fn.st = .armed → Completes (.startUpStepEnd e) s fun t => t.boot.step = 14 ∧ t.fn.st = .running ∧
            (s.pair.st = .joining → s.pair.resync = 1 → t.pair.st = .standby)))))

/-- In each case the command's GO is the next to be taken and no other mailbox is in use, the header is well-formed, and the data
that a command with bulk data asked for has come. FN.START of an ARMED function makes it RUNNING, the host lanes open at an
active controller (R40). FN.STOP of an ARMED one makes it STOPPED and is answered; of a RUNNING one it drains with its host
lanes closed, and is answered when STOPPED, or with status 6 once FENCED (R41). FN.ARM with nothing to commit arms a joined
controller, or one whose durable root already names the image (R43), and is answered with status 0xA when start-up was refused.
FN.STATUS answers with the states, the frame and the highest order number; FN.CHIPRESET makes a holder give up the lease.
RIG.LOAD stages an image that passes and names the failed check of one that does not, RIG.VERIFY only checks (R39), RIG.INFO
gives 256 bytes, RIG.ENROLL enrols one key once and for all (R37), and RIG.RULES keeps a sound rule set while STOPPED and queues
it otherwise (R47, R308). -/
def Obligations.FunctionCommands : Prop :=
  ∀ (h : MbxHdr) (s : State),
    let m := h.mbx.val
    (s.turn h = true → hdrPlain h = true → s.tc.goMbx = none → s.mbxOrdered m = false →
      (s.fn.st = .armed → Completes (.fnStart h) s fun t => t.replied h 0x0101 0 0 [] ∧ t.fn.st = .running ∧ t.fn.lanesOpen = s.active) ∧
      (s.fn.st = .armed → Completes (.fnStop h) s fun t => t.replied h 0x0102 0 0 [] ∧ t.fn.st = .stopped ∧ t.fn.stoppedByCmd = true) ∧
      (s.fn.st = .running → Completes (.fnStop h) s fun t => t.runs h 0x0102 ∧ t.fn.st = .draining ∧ t.fn.drain = some .stop ∧ t.fn.lanesOpen = false) ∧
      (∀ i, s.fn.st = .stopped → s.fn.staged = none → s.fn.committed = some i →
        (s.fn.refusal ≠ 0 → Completes (.fnArm h 0) s fun t => t.replied h 0x0103 0xA 0 [] ∧ t.fn = s.fn) ∧
        (s.fn.refusal = 0 → 14 ≤ s.boot.step → s.fn.kept = [] → s.pair.st = .joining ∨ s.pair.st = .standby ∨
            (s.active = true ∧ s.fn.stoppedByCmd = false ∧ s.nextImage = some i ∧ s.log.rootImage = some i ∧ s.log.ckpt = none ∧ s.log.root.map (·.stopped) = some false) →
          Completes (.fnArm h 0) s fun t => t.replied h 0x0103 0 0 [] ∧ t.fn.st = .armed ∧ t.fn.committed = some i ∧ t.fn.lanesOpen = false)) ∧
      (Completes (.fnStatus h) s fun t => t.replied h 0x0104 0 0
        (leBytes 4 s.fnStateReg ++ leBytes 4 (pairCode s.pair.st) ++ leBytes 8 s.clk.frame ++ leBytes 8 (s.sched.nextOrder - 1)) ∧ t.fn = s.fn) ∧
      (s.fn.st = .empty ∨ s.fn.st = .stopped ∨ s.fn.st = .fenced →
        (s.holder = false → Completes (.fnChipreset h) s fun t => t.replied h 0x0105 0 0 [] ∧ t.pair = s.pair) ∧
        (s.holder = true → Completes (.fnChipreset h) s fun t => t.holder = false)) ∧
      (Completes (.rigInfo h) s fun t => t.fn = s.fn ∧ ∃ r, t.replied h 0x0203 0 0 r ∧ r.length = 256 ∧
        (s.fn.committed = none → r.take 128 = leBytes 128 0) ∧ (s.fn.staged = none → r.drop 128 = leBytes 128 0)) ∧
      (∀ k pub, m < 48 ∨ 55 < m → s.fn.st = .empty ∨ s.fn.st = .stopped → pub.toNat % 256 = 4 →
        (s.boot.rigKey = none → Completes (.rigEnroll h k pub) s fun t => t.replied h 0x0204 0 0 [] ∧ t.boot = { s.boot with rigKey := some (k, pub) }) ∧
        (s.boot.rigKey.isSome = true → Completes (.rigEnroll h k pub) s fun t => t.replied h 0x0204 0xA 0 [] ∧ t.boot = s.boot))) ∧
    (s.mailboxesUp = true → s.mgmt.mbx.length = 64 → (s.mbx m).st = .busy → (s.mbx m).fetching = false → (s.mbx m).wait = .running 0x0102 →
      (s.fn.st = .stopped → Completes (.fnStop h) s fun t => t.replied h 0x0102 0 0 [] ∧ t.fn = s.fn) ∧
      (s.fn.st = .fenced → Completes (.fnStop h) s fun t => t.replied h 0x0102 6 5 [] ∧ t.fn = s.fn) ∧
      (s.fn.st = .draining → exec (.fnStop h) s = .next s)) ∧
    (∀ i : RigImage, s.fetched h 0x0201 = true →
      (s.fn.st = .empty → i.format = false → Completes (.rigLoad h i) s fun t => t.replied h 0x0201 6 0 [] ∧ t.fn = s.fn) ∧
      (s.fn.st ≠ .empty ∨ i.format = true →
        (s.loaderCheck i ≠ 0 → Completes (.rigLoad h i) s fun t => t.replied h 0x0201 8 (s.loaderCheck i) [] ∧ t.fn = { s.fn with lastCheck := s.loaderCheck i }) ∧
        (s.loaderCheck i = 0 → Completes (.rigLoad h i) s fun t => t.replied h 0x0201 0 0 [] ∧ t.fn.staged = some i ∧ t.fn.committed = s.fn.committed ∧
          t.fn.st = (if s.fn.st = .empty then .stopped else s.fn.st)))) ∧
    (∀ i : RigImage, s.fetched h 0x0202 = true → Completes (.rigVerify h i) s fun t => t.fn = s.fn ∧
      (if s.loaderCheck i = 0 then t.replied h 0x0202 0 0 [] else t.replied h 0x0202 8 (s.loaderCheck i) [])) ∧
    (∀ c : ClsSection, s.fetched h 0x0206 = true →
      (clsForm c = false → Completes (.rigRules h c) s fun t => t.replied h 0x0206 8 1 [] ∧ t.fn = s.fn) ∧
      (clsForm c = true → 65536 < c.rulesCount → Completes (.rigRules h c) s fun t => t.replied h 0x0206 8 7 [] ∧ t.fn = s.fn) ∧
      (clsForm c = true → c.rulesCount ≤ 65536 → s.fn.committed = none → s.fn.staged = none → s.fn.rules = none → c.nodesCount ≤ 262144 →
        (s.fn.st = .stopped → Completes (.rigRules h c) s fun t => t.replied h 0x0206 0 0 [] ∧ t.fn = { s.fn with kept := s.fn.kept ++ [.rules c] }) ∧
        (s.fn.st ≠ .stopped → Completes (.rigRules h c) s fun t => t.runs h 0x0206 ∧ t.fn = { s.fn with changes := s.fn.changes ++ [(m, .rules c)] })))

/-- In each case the command's GO is the next to be taken and no other mailbox is in use, the header is well-formed, and the data
that a command with bulk data asked for has come. MOD.LIST gives the module and port states of the 48 bays, MOD.DESC moves a
page of a known descriptor out, MOD.STATUS gives the last status. MOD.RETIRE at the lease holder makes a module that is neither
lost nor foreign LOST and latched (R242). MOD.CLEAR of a READY bay clears its retirements and is carried to a peer that can be
reached, DETAIL 1 otherwise (R243, R433). NS.LIST moves 262,160 bytes out. NS.READ, NS.WRITE with its data, NS.DEALLOC and
SEAL.RANGE at a RUNNING lease holder put one command into intake input 17 where its lane has room, wait where it has none, and
run on (R429, R433). NS.CACHE of an absent namespace is answered with status 9 and cause 2; while an operation runs it waits
(R131). A command with bulk data first issues the read of its data, whatever its opcode, and runs on without an answer (R424). -/
def Obligations.ModuleCommands : Prop :=
  ∀ (h : MbxHdr) (s : State),
    let m := h.mbx.val
    let st := s.fn.st
    (s.turn h = true → hdrPlain h = true →
      (Completes (.modList h) s fun t => ∃ r, t.replied h 0x0301 0 0 r ∧ r.length = 192 ∧ ∀ b : Fin 48,
        nth r (4 * b) 0 = BitVec.ofNat 8 (modCode (s.port b).modSt) ∧ nth r (4 * b + 1) 0 = BitVec.ofNat 8 (portCode (s.port b).st)) ∧
      (∀ b : Fin 48, st ≠ .fenced → Completes (.modStatus h b.val) s fun t => t.replied h 0x0303 0 0 (statusBytes (s.port b).status) ∧ t.sheet = s.sheet) ∧
      (∀ b : Fin 48, s.sheet.ports.length = 48 → st = .armed ∨ st = .running → s.holder = true → (s.port b).modSt ≠ .lost → (s.port b).modSt ≠ .foreign →
        Completes (.modRetire h b.val) s fun t => (t.port b).modSt = .lost ∧ (t.port b).latchedLost = true) ∧
      (∀ b : Fin 48, s.sheet.ports.length = 48 → st ≠ .fenced → (s.port b).modSt = .ready → (s.port b).ops = [] → s.mbxOrdered m = false →
        let cleared := fun (t : State) => (t.port b).lane0.retired = false ∧ (t.port b).lane1.retired = false ∧ (t.port b).latchedLost = false
        (s.peerReachable = true → Completes (.modClear h b.val) s fun t => cleared t ∧ t.replied h 0x0305 0 0 [] ∧ .peerEffect (.modClear b) ∈ t.out) ∧
        (s.peerReachable = false → Completes (.modClear h b.val) s fun t => cleared t ∧ t.replied h 0x0305 0 1 [])) ∧
      (∀ ns lba n kind i, ns < 4096 → st = .running → s.holder = true → s.mbxOrdered m = false → 17 < s.sched.inputs.length →
        (i = .nsDealloc h ns lba n ∧ kind = .dsm) ∨ (i = .sealRange h ns lba n ∧ kind = .seal) →
        let lane := s.laneFor kind ns (((s.nsEntry ns).map (·.tenant)).getD 0)
        (lane = none → Completes i s fun t => ∃ x : Head, nth t.sched.inputs 17 [] = nth s.sched.inputs 17 [] ++ [x] ∧ x.src = .mbx m ∧ x.kind = kind ∧ x.ns = ns ∧
          x.cap.ranges = [(lba, n)] ∧ x.visible = s.now + 2 ∧ (t.mbx m).st = .busy ∧ t.sched.staged = s.sched.staged) ∧
        (∀ l e, lane = some l → s.laneEntry l = some e → max 1 e.escapeCr ≤ tabGetD s.sched.staged l 0 → Completes i s fun t => t.sched = s.sched ∧ (t.mbx m).st = .busy)) ∧
      (∀ op u ns lba len, u ≤ 1 → ns < 4096 → st = .armed ∨ st = .running → s.holder = true → s.tc.goMbx = none →
        (s.rangeBusy = true → Completes (.nsCache h op u ns lba len) s fun t => t.tc = s.tc ∧ t.runs h 0x0405) ∧
        (s.rangeBusy = false → 1 ≤ op → op ≤ 5 → s.nsEntry ns = none → Completes (.nsCache h op u ns lba len) s fun t =>
          t.replied h 0x0405 9 2 [] ∧ t.tc.lines = s.tc.lines ∧ t.tc.goMbx = none))) ∧
    (s.turn h = true → s.master = true →
      (hdrRoom h 4096 = true → st ≠ .fenced → ∀ b : Fin 48, ∀ d page, (s.port b).desc = some d → page ≤ d.dies → Completes (.modDesc h b.val page) s fun t =>
        (t.mbx m).wait = .answer { mkResp 0x0302 0 0 with xfer := 4096 } ∧ t.out = .dmaData m [descPage d page] :: s.out) ∧
      (hdrRoom h 262160 = true → Completes (.nsList h) s fun t =>
        (t.mbx m).wait = .answer { mkResp 0x0401 0 0 with xfer := 262160 } ∧ t.out = .dmaData m (packSectors 262160 s.nsSection) :: s.out) ∧
      (∀ ns lba n, hdrRoom h (4096 * n) = true → ns < 4096 → 1 ≤ n → n ≤ 128 → st = .running → s.holder = true → s.mbxOrdered m = false → 17 < s.sched.inputs.length →
        s.laneFor .read ns (((s.nsEntry ns).map (·.tenant)).getD 0) = none → Completes (.nsRead h ns lba n) s fun t =>
          ∃ x : Head, nth t.sched.inputs 17 [] = nth s.sched.inputs 17 [] ++ [x] ∧ x.src = .mbx m ∧ x.kind = .read ∧ x.ns = ns ∧ x.cap.slba = lba ∧ x.cap.nlb = n - 1 ∧
            t.runs h 0x0402) ∧
      (∀ k, hdrRoom h 1 = true → s.freeReqTag = some k → ∀ i op, (∃ x, i = .rigVerify h x ∧ op = 0x0202) ∨
        (∃ x, i = .rigLoad h x ∧ op = 0x0201 ∧ (st = .empty ∨ st = .stopped)) ∨
        (∃ ns lba n d p, i = .nsWrite h ns lba n d p ∧ op = 0x0403 ∧ ns < 4096 ∧ 1 ≤ n ∧ n ≤ 128 ∧ h.dlen = 4096 * n ∧ st = .running ∧ s.holder = true) →
        Completes i s fun t => t.runs h op ∧ (t.mbx m).fetching = true ∧ tabGet t.mgmt.tags k = some (.outstanding m) ∧ t.out = .dmaRead m k :: s.out ∧ t.fn = s.fn)) ∧
    (∀ ns lba n d p, s.fetched h 0x0403 = true → s.holder = true → s.mbxOrdered m = false → 17 < s.sched.inputs.length →
      s.laneFor .write ns (((s.nsEntry ns).map (·.tenant)).getD 0) = none → Completes (.nsWrite h ns lba n d p) s fun t =>
        ∃ x : Head, nth t.sched.inputs 17 [] = nth s.sched.inputs 17 [] ++ [x] ∧ x.src = .mbx m ∧ x.kind = .write ∧ x.ns = ns ∧ x.cap.slba = lba ∧ x.cap.nlb = n - 1 ∧
          x.data = (List.range n).map (fun k => (k, nth d k 0)) ∧ x.marked = [] ∧ t.runs h 0x0403)

/-- In each case the command's GO is the next to be taken and no other mailbox is in use, the header is well-formed, and the data
that a command with bulk data asked for has come. At a lease holder. KEY.GENERATE and KEY.IMPORT of an EMPTY slot with the shelf
key there place a key of the next GEN with its check value, half the material for Sector-GCM: kept and answered with the check
value while STOPPED, queued otherwise; a slot in use is a conflict, and material that does not unwrap is refused at 0x85 (R345,
R346, Table 14.4). KEY.DESTROY of an ACTIVE slot places it erased, unless the tenant holds unexpired sectors (R348). KEY.STATUS
gives the record; KEY.ESCROW with a rig key gives 137 bytes; KEY.RESTORE installs the shelf key in the key store and SPI NOR of
a controller without one (R347); KEY.MGMTENROLL writes an operator key, and removing it ends its sessions (R434). RET.ADVANCE
with a higher ADV_SEQ is queued for the next frame boundary, with a lower one it is a conflict; RET.CLOCK gives RCLK (R353);
SEAL.CERT moves the certificate out (R359). -/
def Obligations.KeyCommands : Prop :=
  ∀ (h : MbxHdr) (s : State) (tenant slot mode : Nat), tenant < 1024 → slot < 4 → mode = 1 ∨ mode = 2 →
    let m := h.mbx.val
    let k := 4 * tenant + slot
    let placed := fun (t : State) op (x : KeySlot) (r : List (BitVec 8)) => if s.fn.st = .stopped then t.replied h op 0 0 r ∧ t.fn = { s.fn with kept := s.fn.kept ++ [.keySlot k x] }
      else t.runs h op ∧ t.fn = { s.fn with changes := s.fn.changes ++ [(m, .keySlot k x)] }
    let active := fun (x : KeySlot) => x.st = 1 ∧ x.mode = mode ∧ x.gen = ((s.keyView k).gen + 1) % 2 ^ 32 ∧ x.sectors = 0 ∧ x.check = kcv { x with check := 0 }
    (s.turn h = true → hdrPlain h = true →
      (s.holder = true → s.fn.st = .stopped ∨ s.fn.st = .armed ∨ s.fn.st = .running →
        ((s.keyView k).st = 0 → s.cip.shelfKey.isSome = true →
          (Completes (.keyGenerate h tenant slot mode) s fun t => ∃ x, active x ∧ (mode = 2 → x.material.toNat < 2 ^ 256) ∧ placed t 0x0501 x (leBytes 4 x.check) ∧
            t.cip = s.cip) ∧
          (∀ v, mode = 1 ∨ v.toNat / 2 ^ 256 = 0 → Completes (.keyImport h tenant slot mode (some v)) s fun t => ∃ x, active x ∧ x.material = v ∧
            placed t 0x0502 x (leBytes 4 x.check)) ∧
          (Completes (.keyImport h tenant slot mode none) s fun t => t.replied h 0x0502 3 0x85 [] ∧ t.fn = s.fn)) ∧
        ((s.keyView k).st ≠ 0 → (Completes (.keyGenerate h tenant slot mode) s fun t => t.replied h 0x0501 0xA 0 [] ∧ t.fn = s.fn) ∧
          ∀ v, Completes (.keyImport h tenant slot mode v) s fun t => t.replied h 0x0502 0xA 0 [] ∧ t.fn = s.fn) ∧
        ((s.keyView k).st = 1 → s.tenantHolds tenant = false → Completes (.keyDestroy h tenant slot) s fun t =>
          placed t 0x0503 { s.keyView k with st := 2, material := 0, wrapped := 0 } []) ∧
        ((s.keyView k).st ≠ 1 ∨ s.tenantHolds tenant = true → Completes (.keyDestroy h tenant slot) s fun t => t.replied h 0x0503 0xA 0 [] ∧ t.fn = s.fn) ∧
        (∀ d n, s.boot.rigKey = none → 1 ≤ d → d ≤ 2678400000 →
          (s.boot.advSeq < n → Completes (.retAdvance h d n) s fun t => t.runs h 0x0C03 ∧
            t.fn = { s.fn with changes := s.fn.changes ++ [(m, .retAdvance d)] } ∧ t.boot = { s.boot with advSeq := n } ∧ t.cip = s.cip) ∧
          (n ≤ s.boot.advSeq → Completes (.retAdvance h d n) s fun t => t.replied h 0x0C03 0xA 0 [] ∧ t.cip = s.cip))) ∧
      (s.holder = true → Completes (.retClock h) s fun t => t.replied h 0x0C04 0 0 (leBytes 8 s.rclk)) ∧
      (Completes (.keyStatus h tenant slot) s fun t => t.replied h 0x0504 0 0 (keyBytes (s.keySlot k)) ∧ t.cip = s.cip) ∧
      (∀ p : BitVec 776, p.toNat % 256 = 4 →
        (s.boot.rigKey.isSome = true → s.cip.shelfKey.isSome = true → Completes (.keyEscrow h p) s fun t => ∃ r, t.replied h 0x0505 0 0 r ∧ r.length = 137) ∧
        (s.boot.rigKey = none ∨ s.cip.shelfKey = none → Completes (.keyEscrow h p) s fun t => t.replied h 0x0505 0xA 0 [])) ∧
      (m < 48 ∨ 55 < m → s.fn.st = .empty ∨ s.fn.st = .stopped →
        (∀ v, s.cip.shelfKey = none → Completes (.keyRestore h (some v)) s fun t => t.replied h 0x0506 0 0 [] ∧ t.cip = { s.cip with shelfKey := some v } ∧
          t.boot = { s.boot with shelfKeyNor := some v }) ∧
        (s.cip.shelfKey = none → Completes (.keyRestore h none) s fun t => t.replied h 0x0506 3 0x81 [] ∧ t.cip = s.cip) ∧
        (∀ v, s.cip.shelfKey.isSome = true → Completes (.keyRestore h v) s fun t => t.replied h 0x0506 0xA 0 [] ∧ t.cip = s.cip)) ∧
      (∀ (i : Fin 8) (p : BitVec 776), m < 48 ∨ 55 < m → s.fn.st ≠ .fenced → p.toNat % 256 = 4 ∨ p = 0 → Completes (.keyMgmtenroll h i.val p) s fun t =>
        t.replied h 0x0507 0 0 [] ∧ t.boot = { s.boot with opKeys := putNth s.boot.opKeys i.val p } ∧
          (p = 0 → ∀ (j : Fin 8) x, t.session j.val = some x → x.keyIndex ≠ i) ∧ (p ≠ 0 → t.mgmt.sessions = s.mgmt.sessions))) ∧
    (s.turn h = true → s.master = true → hdrRoom h (4096 * (Config.deviceCert s.boot.devKeyId).length) = true → Completes (.sealCert h) s fun t =>
      (t.mbx m).wait = .answer { mkResp 0x0C02 0 0 with xfer := 4096 * (Config.deviceCert s.boot.devKeyId).length } ∧
        t.out = .dmaData m (Config.deviceCert s.boot.devKeyId) :: s.out)

/-- In each case the command's GO is the next to be taken and no other mailbox is in use, the header is well-formed, and the data
that a command with bulk data asked for has come. In every state but FENCED: FN.CPLTO, EVT.QCREATE of a queue that does not
exist, EVT.QDELETE and EVT.QMOD of one that does, EVT.ROUTE, PMC.PROGRAM with selectors that R455 allows, PMC.USERMAP,
PMC.SAMPLE outside tenant windows, BAY.ENABLE, BAY.DISABLE, BAY.CONFIG and BAY.TOGGLE with parameters in range each add that one
change to those of the next frame boundary and run on; nothing else of the function changes (R47, R429, R430). Creating a queue
that exists, changing one that does not and toggling a channel in FET_FAULT are conflicts; deleting a queue that does not exist
is OK (R407, R435). HLTH.CAPS, HLTH.THRESH, HLTH.PATROL and PAIR.INTERVAL within their bounds: an ARMED or RUNNING function
queues the settings, the last carrying the mailbox, and a STOPPED one keeps them and answers at once (R47, R493). -/
def Obligations.LiveSettings : Prop :=
  ∀ (h : MbxHdr) (s : State), s.turn h = true → hdrPlain h = true →
    let m := h.mbx.val
    let queued := fun (t : State) op (l : List (Nat × LiveChange)) => t.runs h op ∧ t.fn = { s.fn with changes := s.fn.changes ++ l }
    let conflict := fun (t : State) op => t.replied h op 0xA 0 [] ∧ t.fn = s.fn
    let settings := fun (t : State) op (l : List (Nat × Nat)) => if s.fn.st = .stopped then t.replied h op 0 0 [] ∧
        t.fn = { s.fn with kept := s.fn.kept ++ l.map fun e => .setting e.1 e.2 }
      else queued t op ((l.dropLast.map fun e => (64, .setting e.1 e.2)) ++ (l.drop (l.length - 1)).map fun e => (m, .setting e.1 e.2))
    (s.fn.st ≠ .fenced →
      (∀ x, 5 ≤ x → x ≤ 5000 → Completes (.fnCplto h x) s fun t => queued t 0x0106 [(m, .cplto x)]) ∧
      (∀ (q v : Fin 64) n c x (b : BitVec 64), 6 ≤ n → n ≤ 16 → 1 ≤ c → c ≤ 1024 → x ≤ 10000 → b.toNat % 4096 = 0 →
        ((s.evq q.val).enabled = false → Completes (.evtQcreate h q.val n v.val c x b) s fun t => queued t 0x0701 [(m, .evqCreate q.val n v.val c x b)]) ∧
        ((s.evq q.val).enabled = true → Completes (.evtQcreate h q.val n v.val c x b) s fun t => conflict t 0x0701) ∧
        ((s.evq q.val).enabled = true → Completes (.evtQmod h q.val c x) s fun t => queued t 0x0703 [(m, .evqMod q.val c x)]) ∧
        ((s.evq q.val).enabled = false → Completes (.evtQmod h q.val c x) s fun t => conflict t 0x0703)) ∧
      (∀ q : Fin 64, ((s.evq q.val).enabled = true → Completes (.evtQdelete h q.val) s fun t => queued t 0x0702 [(m, .evqDelete q.val)]) ∧
        ((s.evq q.val).enabled = false → Completes (.evtQdelete h q.val) s fun t => t.replied h 0x0702 0 0 [] ∧ t.fn = s.fn)) ∧
      (∀ (q : Fin 64) a z on, a ≤ z → z ≤ 0xEFF → on ≤ 1 → Completes (.evtRoute h a z q.val on) s fun t => queued t 0x0704 [(m, .route a z q.val (decide (on = 1)))]) ∧
      (∀ (b : Fin 16) a (l : List (BitVec 32)), l ≠ [] → a + l.length ≤ 512 →
        (∀ k, k < l.length → selOk (s.fn.committed.map (·.tenants)) (512 * b + a + k) (nth l k 0) = true) →
        Completes (.pmcProgram h b.val a l) s fun t => queued t 0x0801 [(m, .pmcProgram (512 * b + a) l)]) ∧
      (∀ (b : Fin 16) on, on ≤ 1 → Completes (.pmcUsermap h b.val on) s fun t => queued t 0x0802 [(m, .pmcUser b.val (decide (on = 1)))]) ∧
      (∀ (b : Fin 16) c on, c < 512 → on = 0 ∨ (on = 1 ∧ windowOf (s.fn.committed.map (·.tenants)) (512 * b + c) = none) →
        Completes (.pmcSample h b.val c on) s fun t => queued t 0x0803 [(m, .pmcSample b.val c (decide (on = 1)))]) ∧
      (∀ b : Fin 48, (Completes (.bayEnable h b.val) s fun t => queued t 0x0901 [(m, .bayEnable b.val true)]) ∧
        (Completes (.bayDisable h b.val) s fun t => queued t 0x0902 [(m, .bayEnable b.val false)]) ∧
        (∀ g f i c a r, 1 ≤ g → g ≤ 8 → f ≤ 1 → 5 ≤ i → i ≤ 200 → 10 ≤ c → c ≤ 63 → 1 ≤ a → a ≤ 20 → 5 ≤ r → r ≤ 200 →
          Completes (.bayConfig h b.val g f i c a r) s fun t => queued t 0x0903 [(m, .bayCfg b.val ⟨g, decide (f = 1), i, c, a, r⟩)]) ∧
        ((s.chan b).st ≠ .fetFault → Completes (.bayToggle h b.val) s fun t => queued t 0x0904 [(m, .bayToggle b.val)]) ∧
        ((s.chan b).st = .fetFault → Completes (.bayToggle h b.val) s fun t => conflict t 0x0904))) ∧
    (s.fn.st = .stopped ∨ s.fn.st = .armed ∨ s.fn.st = .running →
      (∀ a b, s.badSetting 0 a 0 = none → s.badSetting 1 b 0 = none → Completes (.hlthCaps h a b) s fun t => settings t 0x0603 [(0, a), (1, b)]) ∧
      (∀ a l, s.badSetting 2 a 0 = none → (∀ k, k < 8 → s.badSetting (3 + k) (nth l k 0) 0 = none) → Completes (.hlthThresh h a l) s fun t =>
        settings t 0x0604 ((2, a) :: (List.range 8).map fun k => (3 + k, nth l k 0))) ∧
      (∀ d, s.badSetting 11 d 0 = none → Completes (.hlthPatrol h d) s fun t => settings t 0x0605 [(11, d)]) ∧
      (∀ d, s.badSetting 12 d 0 = none → Completes (.pairInterval h d) s fun t => settings t 0x0A03 [(12, d)]))

/-- In each case the command's GO is the next to be taken and no other mailbox is in use, the header is well-formed, and the data
that a command with bulk data asked for has come. HLTH.MODULE gives the 128 bytes of a bay's record and HLTH.PAGE moves the
health page out; CWN.HISTORY gives the history and CWN.ACK of the trigger's FAULT_SEQ empties and re-arms it, any other value
being a conflict (R445); PWR.HOLDTEST on a good feed starts the test and runs on, waits while one runs and is refused with
status 9 otherwise (R386); PWR.STATUS gives 204 bytes; PAIR.STATUS gives the pair's states, TERM and lease; PAIR.SWAP on the
active starts a swap, or is refused with the first condition of R376 that is not met; FW.DOWNLOAD writes a valid image into the
slot that is not running and leaves the slots as they are for one that is not; FW.ACTIVATE sets ACTIVE; FW.INFO gives slots and
builds (R466, R467); DIAG.ECHO gives its bytes back and DIAG.SELFTEST four bytes for each test asked for (R468). -/
def Obligations.ReportsAndUpkeep : Prop :=
  ∀ (h : MbxHdr) (s : State),
    let m := h.mbx.val
    (s.turn h = true → hdrPlain h = true →
      (∀ b : Fin 48, Completes (.hlthModule h b.val) s fun t => t.replied h 0x0601 0 0 (leBytes 128 (s.healthRecord b)) ∧ t.med = s.med) ∧
      (Completes (.cwnHistory h) s fun t => t.replied h 0x0705 0 0 s.historyBytes ∧ t.flt = s.flt) ∧
      (∀ n, (n = s.flt.trigSeq → n ≠ 0 → Completes (.cwnAck h n) s fun t => t.replied h 0x0706 0 0 [] ∧ t.flt.hist = .recording ∧ t.flt.history = [] ∧
          t.flt.trigSeq = 0 ∧ t.flt.fSeen = false ∧ t.flt.seqNext = s.flt.seqNext ∧ t.flt.counts = s.flt.counts) ∧
        (n ≠ s.flt.trigSeq ∨ n = 0 → Completes (.cwnAck h n) s fun t => t.replied h 0x0706 0xA 0 [] ∧ t.flt = s.flt)) ∧
      (s.fn.st ≠ .fenced →
        (s.bpd.testBusy = true → Completes (.pwrHoldtest h) s fun t => t.runs h 0x0905 ∧ t.bpd = s.bpd) ∧
        (s.bpd.testBusy = false → s.selGood = true → Completes (.pwrHoldtest h) s fun t => t.runs h 0x0905 ∧ t.bpd = { s.bpd with testBusy := true, testMbx := some m }) ∧
        (s.bpd.testBusy = false → s.selGood = false → Completes (.pwrHoldtest h) s fun t => t.replied h 0x0905 9 1 [] ∧ t.bpd = s.bpd)) ∧
      (Completes (.pwrStatus h) s fun t => ∃ r, t.replied h 0x0906 0 0 r ∧ r.length = 204 ∧ r.take 4 = leBytes 4 s.bpdStatusReg) ∧
      (Completes (.pairStatus h) s fun t => ∃ r, t.replied h 0x0A01 0 0 r ∧ r.length = 32 ∧ r.take 1 = leBytes 1 (pairCode s.pair.st) ∧
        (r.drop 4).take 8 = leBytes 8 s.pair.term ∧ (r.drop 12).take 4 = leBytes 4 s.leaseLeft ∧ t.pair = s.pair) ∧
      (s.fn.st = .running → s.holder = true →
        (s.active = true → s.swapLack = 0 → Completes (.pairSwap h) s fun t => t.replied h 0x0A02 0 0 [] ∧ t.pair.swap.running = true ∧ t.fn.st = .draining ∧
          t.fn.drain = some .swap ∧ t.fn.lanesOpen = false) ∧
        (s.active = true → s.swapLack ≠ 0 → Completes (.pairSwap h) s fun t => t.replied h 0x0A02 9 s.swapLack [] ∧ t.pair = s.pair ∧ t.fn = s.fn) ∧
        (s.active = false → Completes (.pairSwap h) s fun t => t.replied h 0x0A02 9 1 [] ∧ t.pair = s.pair)) ∧
      (∀ n r, n = 1 ∨ n = 2 → r ≤ 1 → s.fn.st = .empty ∨ s.fn.st = .stopped ∨ (r = 0 ∧ s.fn.st ≠ .fenced) → Completes (.fwActivate h n r) s fun t =>
        t.replied h 0x0B02 0 0 [] ∧ t.boot = { s.boot with active := n }) ∧
      (Completes (.fwInfo h) s fun t => t.replied h 0x0B03 0 0 (leBytes 1 s.boot.running ++ leBytes 7 0 ++ leBytes 8 s.boot.slotA.build.toNat ++
        leBytes 8 s.boot.slotB.build.toNat ++ leBytes 4 s.boot.slotA.fwIf.toNat ++ leBytes 4 s.boot.slotB.fwIf.toNat) ∧ t.boot = s.boot) ∧
      (∀ l, l.length ≤ 3952 → Completes (.diagEcho h l) s fun t => t.replied h 0x0D01 0 0 l) ∧
      (∀ (x : BitVec 32) l, x.toNat < 512 → s.fn.st = .empty ∨ s.fn.st = .stopped → Completes (.diagSelftest h x l) s fun t =>
        ∃ r, t.replied h 0x0D02 0 0 r ∧ r.length = 4 * ((List.range 9).filter fun b => x.getLsbD b).length ∧ (l = [] → ∀ b ∈ r, b = 0))) ∧
    (s.turn h = true → s.master = true → hdrRoom h (healthLen s.allNs.length) = true → Completes (.hlthPage h) s fun t =>
      (t.mbx m).wait = .answer { mkResp 0x0602 0 0 with xfer := healthLen s.allNs.length } ∧
        t.out = .dmaData m (packSectors (healthLen s.allNs.length) (leBytes (healthLen s.allNs.length) (s.healthPage s.allNs))) :: s.out) ∧
    (∀ n (i : FwImage), s.fetched h 0x0B01 = true →
      let x : FwSlot := { valid := true, build := i.build, fwIf := i.fwIf, svn := i.svn, raiseSvn := i.raiseSvn }
      (s.fwValid i = true → Completes (.fwDownload h n i) s fun t => t.replied h 0x0B01 0 0 [] ∧
        t.boot = (if n = 2 then { s.boot with slotB := x } else { s.boot with slotA := x })) ∧
      (s.fwValid i = false → Completes (.fwDownload h n i) s fun t => t.replied h 0x0B01 7 3 [] ∧ t.boot = s.boot))

/-- At an awake lease holder, FRAME_BOUNDARY with one live change due. A key change takes effect once the key range page that has
its record is programmed and the type 6 record durable: the slot is the new record with the slot's SECTORS, and every other slot
is as before; until then no slot changes (R346). An advance moves RCLK by DELTA beyond the frame's own 10,238,976 ps (R353). And
a slot that becomes DESTROYED gives every unit that holds a copy of its page other than the current one the highest reclaim
score (R348). -/
def Obligations.KeyChangesTakeEffect : Prop :=
  ∀ (s : State) (m k : Nat), tabWf s.cip.slots = true →
    (s.awake = true → s.holder = true →
      (∀ x : KeySlot, s.fn.changes = [(m, .keySlot k x)] → x.st ≠ 2 →
        (s.keyDurable k x = true → Completes .frameBoundary s fun t =>
          t.keySlot k = { x with sectors := (s.keySlot k).sectors } ∧ ∀ j, j ≠ k → t.keySlot j = s.keySlot j) ∧
        (s.keyDurable k x = false → Completes .frameBoundary s fun t => t.cip.slots = s.cip.slots)) ∧
      (∀ d, s.fn.changes = [(m, .retAdvance d)] → Completes .frameBoundary s fun t => t.cip.rclkPs = s.cip.rclkPs + 10238976 + d * 10 ^ 9)) ∧
    (∀ x : KeySlot, x.st = 2 → ∀ e ∈ s.written, mdKind e.2 = 2 → mdLba e.2 = s.keyBase + k / 31 → (s.gmd (s.keyBase + k / 31)).loc ≠ e.1 →
      ∀ u, s.locUnit e.1 = some u → ((s.setKey k x).unit u).topScore = true)
end

