-- ==== Sys2Proof/Laws/State.lean ====
section
/-! SUPPORT. One lemma per field and updater of the state, true by unfolding. -/

namespace Sys2Proof.Machine

variable (s : State)

@[simp] theorem State.onClk_clk (h : Clk → Clk) : (s.onClk h).clk = h s.clk := rfl
@[simp] theorem State.onClk_fn (h : Clk → Clk) : (s.onClk h).fn = s.fn := rfl
@[simp] theorem State.onClk_sched (h : Clk → Clk) : (s.onClk h).sched = s.sched := rfl
@[simp] theorem State.onClk_map (h : Clk → Clk) : (s.onClk h).map = s.map := rfl
@[simp] theorem State.onClk_tc (h : Clk → Clk) : (s.onClk h).tc = s.tc := rfl
@[simp] theorem State.onClk_log (h : Clk → Clk) : (s.onClk h).log = s.log := rfl
@[simp] theorem State.onClk_reb (h : Clk → Clk) : (s.onClk h).reb = s.reb := rfl
@[simp] theorem State.onClk_med (h : Clk → Clk) : (s.onClk h).med = s.med := rfl
@[simp] theorem State.onClk_rd (h : Clk → Clk) : (s.onClk h).rd = s.rd := rfl
@[simp] theorem State.onClk_sheet (h : Clk → Clk) : (s.onClk h).sheet = s.sheet := rfl
@[simp] theorem State.onClk_nvme (h : Clk → Clk) : (s.onClk h).nvme = s.nvme := rfl
@[simp] theorem State.onClk_rdma (h : Clk → Clk) : (s.onClk h).rdma = s.rdma := rfl
@[simp] theorem State.onClk_net (h : Clk → Clk) : (s.onClk h).net = s.net := rfl
@[simp] theorem State.onClk_cip (h : Clk → Clk) : (s.onClk h).cip = s.cip := rfl
@[simp] theorem State.onClk_pair (h : Clk → Clk) : (s.onClk h).pair = s.pair := rfl
@[simp] theorem State.onClk_bpd (h : Clk → Clk) : (s.onClk h).bpd = s.bpd := rfl
@[simp] theorem State.onClk_mgmt (h : Clk → Clk) : (s.onClk h).mgmt = s.mgmt := rfl
@[simp] theorem State.onClk_flt (h : Clk → Clk) : (s.onClk h).flt = s.flt := rfl
@[simp] theorem State.onClk_pmc (h : Clk → Clk) : (s.onClk h).pmc = s.pmc := rfl
@[simp] theorem State.onClk_boot (h : Clk → Clk) : (s.onClk h).boot = s.boot := rfl
@[simp] theorem State.onClk_out (h : Clk → Clk) : (s.onClk h).out = s.out := rfl
@[simp] theorem State.onClk_pending (h : Clk → Clk) : (s.onClk h).pending = s.pending := rfl
@[simp] theorem State.onClk_freeNo (h : Clk → Clk) : (s.onClk h).freeNo = s.freeNo := rfl
@[simp] theorem State.onFn_clk (h : Fn → Fn) : (s.onFn h).clk = s.clk := rfl
@[simp] theorem State.onFn_fn (h : Fn → Fn) : (s.onFn h).fn = h s.fn := rfl
@[simp] theorem State.onFn_sched (h : Fn → Fn) : (s.onFn h).sched = s.sched := rfl
@[simp] theorem State.onFn_map (h : Fn → Fn) : (s.onFn h).map = s.map := rfl
@[simp] theorem State.onFn_tc (h : Fn → Fn) : (s.onFn h).tc = s.tc := rfl
@[simp] theorem State.onFn_log (h : Fn → Fn) : (s.onFn h).log = s.log := rfl
@[simp] theorem State.onFn_reb (h : Fn → Fn) : (s.onFn h).reb = s.reb := rfl
@[simp] theorem State.onFn_med (h : Fn → Fn) : (s.onFn h).med = s.med := rfl
@[simp] theorem State.onFn_rd (h : Fn → Fn) : (s.onFn h).rd = s.rd := rfl
@[simp] theorem State.onFn_sheet (h : Fn → Fn) : (s.onFn h).sheet = s.sheet := rfl
@[simp] theorem State.onFn_nvme (h : Fn → Fn) : (s.onFn h).nvme = s.nvme := rfl
@[simp] theorem State.onFn_rdma (h : Fn → Fn) : (s.onFn h).rdma = s.rdma := rfl
@[simp] theorem State.onFn_net (h : Fn → Fn) : (s.onFn h).net = s.net := rfl
@[simp] theorem State.onFn_cip (h : Fn → Fn) : (s.onFn h).cip = s.cip := rfl
@[simp] theorem State.onFn_pair (h : Fn → Fn) : (s.onFn h).pair = s.pair := rfl
@[simp] theorem State.onFn_bpd (h : Fn → Fn) : (s.onFn h).bpd = s.bpd := rfl
@[simp] theorem State.onFn_mgmt (h : Fn → Fn) : (s.onFn h).mgmt = s.mgmt := rfl
@[simp] theorem State.onFn_flt (h : Fn → Fn) : (s.onFn h).flt = s.flt := rfl
@[simp] theorem State.onFn_pmc (h : Fn → Fn) : (s.onFn h).pmc = s.pmc := rfl
@[simp] theorem State.onFn_boot (h : Fn → Fn) : (s.onFn h).boot = s.boot := rfl
@[simp] theorem State.onFn_out (h : Fn → Fn) : (s.onFn h).out = s.out := rfl
@[simp] theorem State.onFn_pending (h : Fn → Fn) : (s.onFn h).pending = s.pending := rfl
@[simp] theorem State.onFn_freeNo (h : Fn → Fn) : (s.onFn h).freeNo = s.freeNo := rfl
@[simp] theorem State.onSched_clk (h : Sched → Sched) : (s.onSched h).clk = s.clk := rfl
@[simp] theorem State.onSched_fn (h : Sched → Sched) : (s.onSched h).fn = s.fn := rfl
@[simp] theorem State.onSched_sched (h : Sched → Sched) : (s.onSched h).sched = h s.sched := rfl
@[simp] theorem State.onSched_map (h : Sched → Sched) : (s.onSched h).map = s.map := rfl
@[simp] theorem State.onSched_tc (h : Sched → Sched) : (s.onSched h).tc = s.tc := rfl
@[simp] theorem State.onSched_log (h : Sched → Sched) : (s.onSched h).log = s.log := rfl
@[simp] theorem State.onSched_reb (h : Sched → Sched) : (s.onSched h).reb = s.reb := rfl
@[simp] theorem State.onSched_med (h : Sched → Sched) : (s.onSched h).med = s.med := rfl
@[simp] theorem State.onSched_rd (h : Sched → Sched) : (s.onSched h).rd = s.rd := rfl
@[simp] theorem State.onSched_sheet (h : Sched → Sched) : (s.onSched h).sheet = s.sheet := rfl
@[simp] theorem State.onSched_nvme (h : Sched → Sched) : (s.onSched h).nvme = s.nvme := rfl
@[simp] theorem State.onSched_rdma (h : Sched → Sched) : (s.onSched h).rdma = s.rdma := rfl
@[simp] theorem State.onSched_net (h : Sched → Sched) : (s.onSched h).net = s.net := rfl
@[simp] theorem State.onSched_cip (h : Sched → Sched) : (s.onSched h).cip = s.cip := rfl
@[simp] theorem State.onSched_pair (h : Sched → Sched) : (s.onSched h).pair = s.pair := rfl
@[simp] theorem State.onSched_bpd (h : Sched → Sched) : (s.onSched h).bpd = s.bpd := rfl
@[simp] theorem State.onSched_mgmt (h : Sched → Sched) : (s.onSched h).mgmt = s.mgmt := rfl
@[simp] theorem State.onSched_flt (h : Sched → Sched) : (s.onSched h).flt = s.flt := rfl
@[simp] theorem State.onSched_pmc (h : Sched → Sched) : (s.onSched h).pmc = s.pmc := rfl
@[simp] theorem State.onSched_boot (h : Sched → Sched) : (s.onSched h).boot = s.boot := rfl
@[simp] theorem State.onSched_out (h : Sched → Sched) : (s.onSched h).out = s.out := rfl
@[simp] theorem State.onSched_pending (h : Sched → Sched) : (s.onSched h).pending = s.pending := rfl
@[simp] theorem State.onSched_freeNo (h : Sched → Sched) : (s.onSched h).freeNo = s.freeNo := rfl
@[simp] theorem State.onMap_clk (h : MapSt → MapSt) : (s.onMap h).clk = s.clk := rfl
@[simp] theorem State.onMap_fn (h : MapSt → MapSt) : (s.onMap h).fn = s.fn := rfl
@[simp] theorem State.onMap_sched (h : MapSt → MapSt) : (s.onMap h).sched = s.sched := rfl
@[simp] theorem State.onMap_map (h : MapSt → MapSt) : (s.onMap h).map = h s.map := rfl
@[simp] theorem State.onMap_tc (h : MapSt → MapSt) : (s.onMap h).tc = s.tc := rfl
@[simp] theorem State.onMap_log (h : MapSt → MapSt) : (s.onMap h).log = s.log := rfl
@[simp] theorem State.onMap_reb (h : MapSt → MapSt) : (s.onMap h).reb = s.reb := rfl
@[simp] theorem State.onMap_med (h : MapSt → MapSt) : (s.onMap h).med = s.med := rfl
@[simp] theorem State.onMap_rd (h : MapSt → MapSt) : (s.onMap h).rd = s.rd := rfl
@[simp] theorem State.onMap_sheet (h : MapSt → MapSt) : (s.onMap h).sheet = s.sheet := rfl
@[simp] theorem State.onMap_nvme (h : MapSt → MapSt) : (s.onMap h).nvme = s.nvme := rfl
@[simp] theorem State.onMap_rdma (h : MapSt → MapSt) : (s.onMap h).rdma = s.rdma := rfl
@[simp] theorem State.onMap_net (h : MapSt → MapSt) : (s.onMap h).net = s.net := rfl
@[simp] theorem State.onMap_cip (h : MapSt → MapSt) : (s.onMap h).cip = s.cip := rfl
@[simp] theorem State.onMap_pair (h : MapSt → MapSt) : (s.onMap h).pair = s.pair := rfl
@[simp] theorem State.onMap_bpd (h : MapSt → MapSt) : (s.onMap h).bpd = s.bpd := rfl
@[simp] theorem State.onMap_mgmt (h : MapSt → MapSt) : (s.onMap h).mgmt = s.mgmt := rfl
@[simp] theorem State.onMap_flt (h : MapSt → MapSt) : (s.onMap h).flt = s.flt := rfl
@[simp] theorem State.onMap_pmc (h : MapSt → MapSt) : (s.onMap h).pmc = s.pmc := rfl
@[simp] theorem State.onMap_boot (h : MapSt → MapSt) : (s.onMap h).boot = s.boot := rfl
@[simp] theorem State.onMap_out (h : MapSt → MapSt) : (s.onMap h).out = s.out := rfl
@[simp] theorem State.onMap_pending (h : MapSt → MapSt) : (s.onMap h).pending = s.pending := rfl
@[simp] theorem State.onMap_freeNo (h : MapSt → MapSt) : (s.onMap h).freeNo = s.freeNo := rfl
@[simp] theorem State.onTc_clk (h : TcSt → TcSt) : (s.onTc h).clk = s.clk := rfl
@[simp] theorem State.onTc_fn (h : TcSt → TcSt) : (s.onTc h).fn = s.fn := rfl
@[simp] theorem State.onTc_sched (h : TcSt → TcSt) : (s.onTc h).sched = s.sched := rfl
@[simp] theorem State.onTc_map (h : TcSt → TcSt) : (s.onTc h).map = s.map := rfl
@[simp] theorem State.onTc_tc (h : TcSt → TcSt) : (s.onTc h).tc = h s.tc := rfl
@[simp] theorem State.onTc_log (h : TcSt → TcSt) : (s.onTc h).log = s.log := rfl
@[simp] theorem State.onTc_reb (h : TcSt → TcSt) : (s.onTc h).reb = s.reb := rfl
@[simp] theorem State.onTc_med (h : TcSt → TcSt) : (s.onTc h).med = s.med := rfl
@[simp] theorem State.onTc_rd (h : TcSt → TcSt) : (s.onTc h).rd = s.rd := rfl
@[simp] theorem State.onTc_sheet (h : TcSt → TcSt) : (s.onTc h).sheet = s.sheet := rfl
@[simp] theorem State.onTc_nvme (h : TcSt → TcSt) : (s.onTc h).nvme = s.nvme := rfl
@[simp] theorem State.onTc_rdma (h : TcSt → TcSt) : (s.onTc h).rdma = s.rdma := rfl
@[simp] theorem State.onTc_net (h : TcSt → TcSt) : (s.onTc h).net = s.net := rfl
@[simp] theorem State.onTc_cip (h : TcSt → TcSt) : (s.onTc h).cip = s.cip := rfl
@[simp] theorem State.onTc_pair (h : TcSt → TcSt) : (s.onTc h).pair = s.pair := rfl
@[simp] theorem State.onTc_bpd (h : TcSt → TcSt) : (s.onTc h).bpd = s.bpd := rfl
@[simp] theorem State.onTc_mgmt (h : TcSt → TcSt) : (s.onTc h).mgmt = s.mgmt := rfl
@[simp] theorem State.onTc_flt (h : TcSt → TcSt) : (s.onTc h).flt = s.flt := rfl
@[simp] theorem State.onTc_pmc (h : TcSt → TcSt) : (s.onTc h).pmc = s.pmc := rfl
@[simp] theorem State.onTc_boot (h : TcSt → TcSt) : (s.onTc h).boot = s.boot := rfl
@[simp] theorem State.onTc_out (h : TcSt → TcSt) : (s.onTc h).out = s.out := rfl
@[simp] theorem State.onTc_pending (h : TcSt → TcSt) : (s.onTc h).pending = s.pending := rfl
@[simp] theorem State.onTc_freeNo (h : TcSt → TcSt) : (s.onTc h).freeNo = s.freeNo := rfl
@[simp] theorem State.onLog_clk (h : LogSt → LogSt) : (s.onLog h).clk = s.clk := rfl
@[simp] theorem State.onLog_fn (h : LogSt → LogSt) : (s.onLog h).fn = s.fn := rfl
@[simp] theorem State.onLog_sched (h : LogSt → LogSt) : (s.onLog h).sched = s.sched := rfl
@[simp] theorem State.onLog_map (h : LogSt → LogSt) : (s.onLog h).map = s.map := rfl
@[simp] theorem State.onLog_tc (h : LogSt → LogSt) : (s.onLog h).tc = s.tc := rfl
@[simp] theorem State.onLog_log (h : LogSt → LogSt) : (s.onLog h).log = h s.log := rfl
@[simp] theorem State.onLog_reb (h : LogSt → LogSt) : (s.onLog h).reb = s.reb := rfl
@[simp] theorem State.onLog_med (h : LogSt → LogSt) : (s.onLog h).med = s.med := rfl
@[simp] theorem State.onLog_rd (h : LogSt → LogSt) : (s.onLog h).rd = s.rd := rfl
@[simp] theorem State.onLog_sheet (h : LogSt → LogSt) : (s.onLog h).sheet = s.sheet := rfl
@[simp] theorem State.onLog_nvme (h : LogSt → LogSt) : (s.onLog h).nvme = s.nvme := rfl
@[simp] theorem State.onLog_rdma (h : LogSt → LogSt) : (s.onLog h).rdma = s.rdma := rfl
@[simp] theorem State.onLog_net (h : LogSt → LogSt) : (s.onLog h).net = s.net := rfl
@[simp] theorem State.onLog_cip (h : LogSt → LogSt) : (s.onLog h).cip = s.cip := rfl
@[simp] theorem State.onLog_pair (h : LogSt → LogSt) : (s.onLog h).pair = s.pair := rfl
@[simp] theorem State.onLog_bpd (h : LogSt → LogSt) : (s.onLog h).bpd = s.bpd := rfl
@[simp] theorem State.onLog_mgmt (h : LogSt → LogSt) : (s.onLog h).mgmt = s.mgmt := rfl
@[simp] theorem State.onLog_flt (h : LogSt → LogSt) : (s.onLog h).flt = s.flt := rfl
@[simp] theorem State.onLog_pmc (h : LogSt → LogSt) : (s.onLog h).pmc = s.pmc := rfl
@[simp] theorem State.onLog_boot (h : LogSt → LogSt) : (s.onLog h).boot = s.boot := rfl
@[simp] theorem State.onLog_out (h : LogSt → LogSt) : (s.onLog h).out = s.out := rfl
@[simp] theorem State.onLog_pending (h : LogSt → LogSt) : (s.onLog h).pending = s.pending := rfl
@[simp] theorem State.onLog_freeNo (h : LogSt → LogSt) : (s.onLog h).freeNo = s.freeNo := rfl
@[simp] theorem State.onReb_clk (h : RebSt → RebSt) : (s.onReb h).clk = s.clk := rfl
@[simp] theorem State.onReb_fn (h : RebSt → RebSt) : (s.onReb h).fn = s.fn := rfl
@[simp] theorem State.onReb_sched (h : RebSt → RebSt) : (s.onReb h).sched = s.sched := rfl
@[simp] theorem State.onReb_map (h : RebSt → RebSt) : (s.onReb h).map = s.map := rfl
@[simp] theorem State.onReb_tc (h : RebSt → RebSt) : (s.onReb h).tc = s.tc := rfl
@[simp] theorem State.onReb_log (h : RebSt → RebSt) : (s.onReb h).log = s.log := rfl
@[simp] theorem State.onReb_reb (h : RebSt → RebSt) : (s.onReb h).reb = h s.reb := rfl
@[simp] theorem State.onReb_med (h : RebSt → RebSt) : (s.onReb h).med = s.med := rfl
@[simp] theorem State.onReb_rd (h : RebSt → RebSt) : (s.onReb h).rd = s.rd := rfl
@[simp] theorem State.onReb_sheet (h : RebSt → RebSt) : (s.onReb h).sheet = s.sheet := rfl
@[simp] theorem State.onReb_nvme (h : RebSt → RebSt) : (s.onReb h).nvme = s.nvme := rfl
@[simp] theorem State.onReb_rdma (h : RebSt → RebSt) : (s.onReb h).rdma = s.rdma := rfl
@[simp] theorem State.onReb_net (h : RebSt → RebSt) : (s.onReb h).net = s.net := rfl
@[simp] theorem State.onReb_cip (h : RebSt → RebSt) : (s.onReb h).cip = s.cip := rfl
@[simp] theorem State.onReb_pair (h : RebSt → RebSt) : (s.onReb h).pair = s.pair := rfl
@[simp] theorem State.onReb_bpd (h : RebSt → RebSt) : (s.onReb h).bpd = s.bpd := rfl
@[simp] theorem State.onReb_mgmt (h : RebSt → RebSt) : (s.onReb h).mgmt = s.mgmt := rfl
@[simp] theorem State.onReb_flt (h : RebSt → RebSt) : (s.onReb h).flt = s.flt := rfl
@[simp] theorem State.onReb_pmc (h : RebSt → RebSt) : (s.onReb h).pmc = s.pmc := rfl
@[simp] theorem State.onReb_boot (h : RebSt → RebSt) : (s.onReb h).boot = s.boot := rfl
@[simp] theorem State.onReb_out (h : RebSt → RebSt) : (s.onReb h).out = s.out := rfl
@[simp] theorem State.onReb_pending (h : RebSt → RebSt) : (s.onReb h).pending = s.pending := rfl
@[simp] theorem State.onReb_freeNo (h : RebSt → RebSt) : (s.onReb h).freeNo = s.freeNo := rfl
@[simp] theorem State.onMed_clk (h : MedSt → MedSt) : (s.onMed h).clk = s.clk := rfl
@[simp] theorem State.onMed_fn (h : MedSt → MedSt) : (s.onMed h).fn = s.fn := rfl
@[simp] theorem State.onMed_sched (h : MedSt → MedSt) : (s.onMed h).sched = s.sched := rfl
@[simp] theorem State.onMed_map (h : MedSt → MedSt) : (s.onMed h).map = s.map := rfl
@[simp] theorem State.onMed_tc (h : MedSt → MedSt) : (s.onMed h).tc = s.tc := rfl
@[simp] theorem State.onMed_log (h : MedSt → MedSt) : (s.onMed h).log = s.log := rfl
@[simp] theorem State.onMed_reb (h : MedSt → MedSt) : (s.onMed h).reb = s.reb := rfl
@[simp] theorem State.onMed_med (h : MedSt → MedSt) : (s.onMed h).med = h s.med := rfl
@[simp] theorem State.onMed_rd (h : MedSt → MedSt) : (s.onMed h).rd = s.rd := rfl
@[simp] theorem State.onMed_sheet (h : MedSt → MedSt) : (s.onMed h).sheet = s.sheet := rfl
@[simp] theorem State.onMed_nvme (h : MedSt → MedSt) : (s.onMed h).nvme = s.nvme := rfl
@[simp] theorem State.onMed_rdma (h : MedSt → MedSt) : (s.onMed h).rdma = s.rdma := rfl
@[simp] theorem State.onMed_net (h : MedSt → MedSt) : (s.onMed h).net = s.net := rfl
@[simp] theorem State.onMed_cip (h : MedSt → MedSt) : (s.onMed h).cip = s.cip := rfl
@[simp] theorem State.onMed_pair (h : MedSt → MedSt) : (s.onMed h).pair = s.pair := rfl
@[simp] theorem State.onMed_bpd (h : MedSt → MedSt) : (s.onMed h).bpd = s.bpd := rfl
@[simp] theorem State.onMed_mgmt (h : MedSt → MedSt) : (s.onMed h).mgmt = s.mgmt := rfl
@[simp] theorem State.onMed_flt (h : MedSt → MedSt) : (s.onMed h).flt = s.flt := rfl
@[simp] theorem State.onMed_pmc (h : MedSt → MedSt) : (s.onMed h).pmc = s.pmc := rfl
@[simp] theorem State.onMed_boot (h : MedSt → MedSt) : (s.onMed h).boot = s.boot := rfl
@[simp] theorem State.onMed_out (h : MedSt → MedSt) : (s.onMed h).out = s.out := rfl
@[simp] theorem State.onMed_pending (h : MedSt → MedSt) : (s.onMed h).pending = s.pending := rfl
@[simp] theorem State.onMed_freeNo (h : MedSt → MedSt) : (s.onMed h).freeNo = s.freeNo := rfl
@[simp] theorem State.onRd_clk (h : RdSt → RdSt) : (s.onRd h).clk = s.clk := rfl
@[simp] theorem State.onRd_fn (h : RdSt → RdSt) : (s.onRd h).fn = s.fn := rfl
@[simp] theorem State.onRd_sched (h : RdSt → RdSt) : (s.onRd h).sched = s.sched := rfl
@[simp] theorem State.onRd_map (h : RdSt → RdSt) : (s.onRd h).map = s.map := rfl
@[simp] theorem State.onRd_tc (h : RdSt → RdSt) : (s.onRd h).tc = s.tc := rfl
@[simp] theorem State.onRd_log (h : RdSt → RdSt) : (s.onRd h).log = s.log := rfl
@[simp] theorem State.onRd_reb (h : RdSt → RdSt) : (s.onRd h).reb = s.reb := rfl
@[simp] theorem State.onRd_med (h : RdSt → RdSt) : (s.onRd h).med = s.med := rfl
@[simp] theorem State.onRd_rd (h : RdSt → RdSt) : (s.onRd h).rd = h s.rd := rfl
@[simp] theorem State.onRd_sheet (h : RdSt → RdSt) : (s.onRd h).sheet = s.sheet := rfl
@[simp] theorem State.onRd_nvme (h : RdSt → RdSt) : (s.onRd h).nvme = s.nvme := rfl
@[simp] theorem State.onRd_rdma (h : RdSt → RdSt) : (s.onRd h).rdma = s.rdma := rfl
@[simp] theorem State.onRd_net (h : RdSt → RdSt) : (s.onRd h).net = s.net := rfl
@[simp] theorem State.onRd_cip (h : RdSt → RdSt) : (s.onRd h).cip = s.cip := rfl
@[simp] theorem State.onRd_pair (h : RdSt → RdSt) : (s.onRd h).pair = s.pair := rfl
@[simp] theorem State.onRd_bpd (h : RdSt → RdSt) : (s.onRd h).bpd = s.bpd := rfl
@[simp] theorem State.onRd_mgmt (h : RdSt → RdSt) : (s.onRd h).mgmt = s.mgmt := rfl
@[simp] theorem State.onRd_flt (h : RdSt → RdSt) : (s.onRd h).flt = s.flt := rfl
@[simp] theorem State.onRd_pmc (h : RdSt → RdSt) : (s.onRd h).pmc = s.pmc := rfl
@[simp] theorem State.onRd_boot (h : RdSt → RdSt) : (s.onRd h).boot = s.boot := rfl
@[simp] theorem State.onRd_out (h : RdSt → RdSt) : (s.onRd h).out = s.out := rfl
@[simp] theorem State.onRd_pending (h : RdSt → RdSt) : (s.onRd h).pending = s.pending := rfl
@[simp] theorem State.onRd_freeNo (h : RdSt → RdSt) : (s.onRd h).freeNo = s.freeNo := rfl
@[simp] theorem State.onSheet_clk (h : SheetSt → SheetSt) : (s.onSheet h).clk = s.clk := rfl
@[simp] theorem State.onSheet_fn (h : SheetSt → SheetSt) : (s.onSheet h).fn = s.fn := rfl
@[simp] theorem State.onSheet_sched (h : SheetSt → SheetSt) : (s.onSheet h).sched = s.sched := rfl
@[simp] theorem State.onSheet_map (h : SheetSt → SheetSt) : (s.onSheet h).map = s.map := rfl
@[simp] theorem State.onSheet_tc (h : SheetSt → SheetSt) : (s.onSheet h).tc = s.tc := rfl
@[simp] theorem State.onSheet_log (h : SheetSt → SheetSt) : (s.onSheet h).log = s.log := rfl
@[simp] theorem State.onSheet_reb (h : SheetSt → SheetSt) : (s.onSheet h).reb = s.reb := rfl
@[simp] theorem State.onSheet_med (h : SheetSt → SheetSt) : (s.onSheet h).med = s.med := rfl
@[simp] theorem State.onSheet_rd (h : SheetSt → SheetSt) : (s.onSheet h).rd = s.rd := rfl
@[simp] theorem State.onSheet_sheet (h : SheetSt → SheetSt) : (s.onSheet h).sheet = h s.sheet := rfl
@[simp] theorem State.onSheet_nvme (h : SheetSt → SheetSt) : (s.onSheet h).nvme = s.nvme := rfl
@[simp] theorem State.onSheet_rdma (h : SheetSt → SheetSt) : (s.onSheet h).rdma = s.rdma := rfl
@[simp] theorem State.onSheet_net (h : SheetSt → SheetSt) : (s.onSheet h).net = s.net := rfl
@[simp] theorem State.onSheet_cip (h : SheetSt → SheetSt) : (s.onSheet h).cip = s.cip := rfl
@[simp] theorem State.onSheet_pair (h : SheetSt → SheetSt) : (s.onSheet h).pair = s.pair := rfl
@[simp] theorem State.onSheet_bpd (h : SheetSt → SheetSt) : (s.onSheet h).bpd = s.bpd := rfl
@[simp] theorem State.onSheet_mgmt (h : SheetSt → SheetSt) : (s.onSheet h).mgmt = s.mgmt := rfl
@[simp] theorem State.onSheet_flt (h : SheetSt → SheetSt) : (s.onSheet h).flt = s.flt := rfl
@[simp] theorem State.onSheet_pmc (h : SheetSt → SheetSt) : (s.onSheet h).pmc = s.pmc := rfl
@[simp] theorem State.onSheet_boot (h : SheetSt → SheetSt) : (s.onSheet h).boot = s.boot := rfl
@[simp] theorem State.onSheet_out (h : SheetSt → SheetSt) : (s.onSheet h).out = s.out := rfl
@[simp] theorem State.onSheet_pending (h : SheetSt → SheetSt) : (s.onSheet h).pending = s.pending := rfl
@[simp] theorem State.onSheet_freeNo (h : SheetSt → SheetSt) : (s.onSheet h).freeNo = s.freeNo := rfl
@[simp] theorem State.onNvme_clk (h : NvmeSt → NvmeSt) : (s.onNvme h).clk = s.clk := rfl
@[simp] theorem State.onNvme_fn (h : NvmeSt → NvmeSt) : (s.onNvme h).fn = s.fn := rfl
@[simp] theorem State.onNvme_sched (h : NvmeSt → NvmeSt) : (s.onNvme h).sched = s.sched := rfl
@[simp] theorem State.onNvme_map (h : NvmeSt → NvmeSt) : (s.onNvme h).map = s.map := rfl
@[simp] theorem State.onNvme_tc (h : NvmeSt → NvmeSt) : (s.onNvme h).tc = s.tc := rfl
@[simp] theorem State.onNvme_log (h : NvmeSt → NvmeSt) : (s.onNvme h).log = s.log := rfl
@[simp] theorem State.onNvme_reb (h : NvmeSt → NvmeSt) : (s.onNvme h).reb = s.reb := rfl
@[simp] theorem State.onNvme_med (h : NvmeSt → NvmeSt) : (s.onNvme h).med = s.med := rfl
@[simp] theorem State.onNvme_rd (h : NvmeSt → NvmeSt) : (s.onNvme h).rd = s.rd := rfl
@[simp] theorem State.onNvme_sheet (h : NvmeSt → NvmeSt) : (s.onNvme h).sheet = s.sheet := rfl
@[simp] theorem State.onNvme_nvme (h : NvmeSt → NvmeSt) : (s.onNvme h).nvme = h s.nvme := rfl
@[simp] theorem State.onNvme_rdma (h : NvmeSt → NvmeSt) : (s.onNvme h).rdma = s.rdma := rfl
@[simp] theorem State.onNvme_net (h : NvmeSt → NvmeSt) : (s.onNvme h).net = s.net := rfl
@[simp] theorem State.onNvme_cip (h : NvmeSt → NvmeSt) : (s.onNvme h).cip = s.cip := rfl
@[simp] theorem State.onNvme_pair (h : NvmeSt → NvmeSt) : (s.onNvme h).pair = s.pair := rfl
@[simp] theorem State.onNvme_bpd (h : NvmeSt → NvmeSt) : (s.onNvme h).bpd = s.bpd := rfl
@[simp] theorem State.onNvme_mgmt (h : NvmeSt → NvmeSt) : (s.onNvme h).mgmt = s.mgmt := rfl
@[simp] theorem State.onNvme_flt (h : NvmeSt → NvmeSt) : (s.onNvme h).flt = s.flt := rfl
@[simp] theorem State.onNvme_pmc (h : NvmeSt → NvmeSt) : (s.onNvme h).pmc = s.pmc := rfl
@[simp] theorem State.onNvme_boot (h : NvmeSt → NvmeSt) : (s.onNvme h).boot = s.boot := rfl
@[simp] theorem State.onNvme_out (h : NvmeSt → NvmeSt) : (s.onNvme h).out = s.out := rfl
@[simp] theorem State.onNvme_pending (h : NvmeSt → NvmeSt) : (s.onNvme h).pending = s.pending := rfl
@[simp] theorem State.onNvme_freeNo (h : NvmeSt → NvmeSt) : (s.onNvme h).freeNo = s.freeNo := rfl
@[simp] theorem State.onRdma_clk (h : RdmaSt → RdmaSt) : (s.onRdma h).clk = s.clk := rfl
@[simp] theorem State.onRdma_fn (h : RdmaSt → RdmaSt) : (s.onRdma h).fn = s.fn := rfl
@[simp] theorem State.onRdma_sched (h : RdmaSt → RdmaSt) : (s.onRdma h).sched = s.sched := rfl
@[simp] theorem State.onRdma_map (h : RdmaSt → RdmaSt) : (s.onRdma h).map = s.map := rfl
@[simp] theorem State.onRdma_tc (h : RdmaSt → RdmaSt) : (s.onRdma h).tc = s.tc := rfl
@[simp] theorem State.onRdma_log (h : RdmaSt → RdmaSt) : (s.onRdma h).log = s.log := rfl
@[simp] theorem State.onRdma_reb (h : RdmaSt → RdmaSt) : (s.onRdma h).reb = s.reb := rfl
@[simp] theorem State.onRdma_med (h : RdmaSt → RdmaSt) : (s.onRdma h).med = s.med := rfl
@[simp] theorem State.onRdma_rd (h : RdmaSt → RdmaSt) : (s.onRdma h).rd = s.rd := rfl
@[simp] theorem State.onRdma_sheet (h : RdmaSt → RdmaSt) : (s.onRdma h).sheet = s.sheet := rfl
@[simp] theorem State.onRdma_nvme (h : RdmaSt → RdmaSt) : (s.onRdma h).nvme = s.nvme := rfl
@[simp] theorem State.onRdma_rdma (h : RdmaSt → RdmaSt) : (s.onRdma h).rdma = h s.rdma := rfl
@[simp] theorem State.onRdma_net (h : RdmaSt → RdmaSt) : (s.onRdma h).net = s.net := rfl
@[simp] theorem State.onRdma_cip (h : RdmaSt → RdmaSt) : (s.onRdma h).cip = s.cip := rfl
@[simp] theorem State.onRdma_pair (h : RdmaSt → RdmaSt) : (s.onRdma h).pair = s.pair := rfl
@[simp] theorem State.onRdma_bpd (h : RdmaSt → RdmaSt) : (s.onRdma h).bpd = s.bpd := rfl
@[simp] theorem State.onRdma_mgmt (h : RdmaSt → RdmaSt) : (s.onRdma h).mgmt = s.mgmt := rfl
@[simp] theorem State.onRdma_flt (h : RdmaSt → RdmaSt) : (s.onRdma h).flt = s.flt := rfl
@[simp] theorem State.onRdma_pmc (h : RdmaSt → RdmaSt) : (s.onRdma h).pmc = s.pmc := rfl
@[simp] theorem State.onRdma_boot (h : RdmaSt → RdmaSt) : (s.onRdma h).boot = s.boot := rfl
@[simp] theorem State.onRdma_out (h : RdmaSt → RdmaSt) : (s.onRdma h).out = s.out := rfl
@[simp] theorem State.onRdma_pending (h : RdmaSt → RdmaSt) : (s.onRdma h).pending = s.pending := rfl
@[simp] theorem State.onRdma_freeNo (h : RdmaSt → RdmaSt) : (s.onRdma h).freeNo = s.freeNo := rfl
@[simp] theorem State.onNet_clk (h : NetSt → NetSt) : (s.onNet h).clk = s.clk := rfl
@[simp] theorem State.onNet_fn (h : NetSt → NetSt) : (s.onNet h).fn = s.fn := rfl
@[simp] theorem State.onNet_sched (h : NetSt → NetSt) : (s.onNet h).sched = s.sched := rfl
@[simp] theorem State.onNet_map (h : NetSt → NetSt) : (s.onNet h).map = s.map := rfl
@[simp] theorem State.onNet_tc (h : NetSt → NetSt) : (s.onNet h).tc = s.tc := rfl
@[simp] theorem State.onNet_log (h : NetSt → NetSt) : (s.onNet h).log = s.log := rfl
@[simp] theorem State.onNet_reb (h : NetSt → NetSt) : (s.onNet h).reb = s.reb := rfl
@[simp] theorem State.onNet_med (h : NetSt → NetSt) : (s.onNet h).med = s.med := rfl
@[simp] theorem State.onNet_rd (h : NetSt → NetSt) : (s.onNet h).rd = s.rd := rfl
@[simp] theorem State.onNet_sheet (h : NetSt → NetSt) : (s.onNet h).sheet = s.sheet := rfl
@[simp] theorem State.onNet_nvme (h : NetSt → NetSt) : (s.onNet h).nvme = s.nvme := rfl
@[simp] theorem State.onNet_rdma (h : NetSt → NetSt) : (s.onNet h).rdma = s.rdma := rfl
@[simp] theorem State.onNet_net (h : NetSt → NetSt) : (s.onNet h).net = h s.net := rfl
@[simp] theorem State.onNet_cip (h : NetSt → NetSt) : (s.onNet h).cip = s.cip := rfl
@[simp] theorem State.onNet_pair (h : NetSt → NetSt) : (s.onNet h).pair = s.pair := rfl
@[simp] theorem State.onNet_bpd (h : NetSt → NetSt) : (s.onNet h).bpd = s.bpd := rfl
@[simp] theorem State.onNet_mgmt (h : NetSt → NetSt) : (s.onNet h).mgmt = s.mgmt := rfl
@[simp] theorem State.onNet_flt (h : NetSt → NetSt) : (s.onNet h).flt = s.flt := rfl
@[simp] theorem State.onNet_pmc (h : NetSt → NetSt) : (s.onNet h).pmc = s.pmc := rfl
@[simp] theorem State.onNet_boot (h : NetSt → NetSt) : (s.onNet h).boot = s.boot := rfl
@[simp] theorem State.onNet_out (h : NetSt → NetSt) : (s.onNet h).out = s.out := rfl
@[simp] theorem State.onNet_pending (h : NetSt → NetSt) : (s.onNet h).pending = s.pending := rfl
@[simp] theorem State.onNet_freeNo (h : NetSt → NetSt) : (s.onNet h).freeNo = s.freeNo := rfl
@[simp] theorem State.onCip_clk (h : CipSt → CipSt) : (s.onCip h).clk = s.clk := rfl
@[simp] theorem State.onCip_fn (h : CipSt → CipSt) : (s.onCip h).fn = s.fn := rfl
@[simp] theorem State.onCip_sched (h : CipSt → CipSt) : (s.onCip h).sched = s.sched := rfl
@[simp] theorem State.onCip_map (h : CipSt → CipSt) : (s.onCip h).map = s.map := rfl
@[simp] theorem State.onCip_tc (h : CipSt → CipSt) : (s.onCip h).tc = s.tc := rfl
@[simp] theorem State.onCip_log (h : CipSt → CipSt) : (s.onCip h).log = s.log := rfl
@[simp] theorem State.onCip_reb (h : CipSt → CipSt) : (s.onCip h).reb = s.reb := rfl
@[simp] theorem State.onCip_med (h : CipSt → CipSt) : (s.onCip h).med = s.med := rfl
@[simp] theorem State.onCip_rd (h : CipSt → CipSt) : (s.onCip h).rd = s.rd := rfl
@[simp] theorem State.onCip_sheet (h : CipSt → CipSt) : (s.onCip h).sheet = s.sheet := rfl
@[simp] theorem State.onCip_nvme (h : CipSt → CipSt) : (s.onCip h).nvme = s.nvme := rfl
@[simp] theorem State.onCip_rdma (h : CipSt → CipSt) : (s.onCip h).rdma = s.rdma := rfl
@[simp] theorem State.onCip_net (h : CipSt → CipSt) : (s.onCip h).net = s.net := rfl
@[simp] theorem State.onCip_cip (h : CipSt → CipSt) : (s.onCip h).cip = h s.cip := rfl
@[simp] theorem State.onCip_pair (h : CipSt → CipSt) : (s.onCip h).pair = s.pair := rfl
@[simp] theorem State.onCip_bpd (h : CipSt → CipSt) : (s.onCip h).bpd = s.bpd := rfl
@[simp] theorem State.onCip_mgmt (h : CipSt → CipSt) : (s.onCip h).mgmt = s.mgmt := rfl
@[simp] theorem State.onCip_flt (h : CipSt → CipSt) : (s.onCip h).flt = s.flt := rfl
@[simp] theorem State.onCip_pmc (h : CipSt → CipSt) : (s.onCip h).pmc = s.pmc := rfl
@[simp] theorem State.onCip_boot (h : CipSt → CipSt) : (s.onCip h).boot = s.boot := rfl
@[simp] theorem State.onCip_out (h : CipSt → CipSt) : (s.onCip h).out = s.out := rfl
@[simp] theorem State.onCip_pending (h : CipSt → CipSt) : (s.onCip h).pending = s.pending := rfl
@[simp] theorem State.onCip_freeNo (h : CipSt → CipSt) : (s.onCip h).freeNo = s.freeNo := rfl
@[simp] theorem State.onPair_clk (h : PairSt → PairSt) : (s.onPair h).clk = s.clk := rfl
@[simp] theorem State.onPair_fn (h : PairSt → PairSt) : (s.onPair h).fn = s.fn := rfl
@[simp] theorem State.onPair_sched (h : PairSt → PairSt) : (s.onPair h).sched = s.sched := rfl
@[simp] theorem State.onPair_map (h : PairSt → PairSt) : (s.onPair h).map = s.map := rfl
@[simp] theorem State.onPair_tc (h : PairSt → PairSt) : (s.onPair h).tc = s.tc := rfl
@[simp] theorem State.onPair_log (h : PairSt → PairSt) : (s.onPair h).log = s.log := rfl
@[simp] theorem State.onPair_reb (h : PairSt → PairSt) : (s.onPair h).reb = s.reb := rfl
@[simp] theorem State.onPair_med (h : PairSt → PairSt) : (s.onPair h).med = s.med := rfl
@[simp] theorem State.onPair_rd (h : PairSt → PairSt) : (s.onPair h).rd = s.rd := rfl
@[simp] theorem State.onPair_sheet (h : PairSt → PairSt) : (s.onPair h).sheet = s.sheet := rfl
@[simp] theorem State.onPair_nvme (h : PairSt → PairSt) : (s.onPair h).nvme = s.nvme := rfl
@[simp] theorem State.onPair_rdma (h : PairSt → PairSt) : (s.onPair h).rdma = s.rdma := rfl
@[simp] theorem State.onPair_net (h : PairSt → PairSt) : (s.onPair h).net = s.net := rfl
@[simp] theorem State.onPair_cip (h : PairSt → PairSt) : (s.onPair h).cip = s.cip := rfl
@[simp] theorem State.onPair_pair (h : PairSt → PairSt) : (s.onPair h).pair = h s.pair := rfl
@[simp] theorem State.onPair_bpd (h : PairSt → PairSt) : (s.onPair h).bpd = s.bpd := rfl
@[simp] theorem State.onPair_mgmt (h : PairSt → PairSt) : (s.onPair h).mgmt = s.mgmt := rfl
@[simp] theorem State.onPair_flt (h : PairSt → PairSt) : (s.onPair h).flt = s.flt := rfl
@[simp] theorem State.onPair_pmc (h : PairSt → PairSt) : (s.onPair h).pmc = s.pmc := rfl
@[simp] theorem State.onPair_boot (h : PairSt → PairSt) : (s.onPair h).boot = s.boot := rfl
@[simp] theorem State.onPair_out (h : PairSt → PairSt) : (s.onPair h).out = s.out := rfl
@[simp] theorem State.onPair_pending (h : PairSt → PairSt) : (s.onPair h).pending = s.pending := rfl
@[simp] theorem State.onPair_freeNo (h : PairSt → PairSt) : (s.onPair h).freeNo = s.freeNo := rfl
@[simp] theorem State.onBpd_clk (h : BpdSt → BpdSt) : (s.onBpd h).clk = s.clk := rfl
@[simp] theorem State.onBpd_fn (h : BpdSt → BpdSt) : (s.onBpd h).fn = s.fn := rfl
@[simp] theorem State.onBpd_sched (h : BpdSt → BpdSt) : (s.onBpd h).sched = s.sched := rfl
@[simp] theorem State.onBpd_map (h : BpdSt → BpdSt) : (s.onBpd h).map = s.map := rfl
@[simp] theorem State.onBpd_tc (h : BpdSt → BpdSt) : (s.onBpd h).tc = s.tc := rfl
@[simp] theorem State.onBpd_log (h : BpdSt → BpdSt) : (s.onBpd h).log = s.log := rfl
@[simp] theorem State.onBpd_reb (h : BpdSt → BpdSt) : (s.onBpd h).reb = s.reb := rfl
@[simp] theorem State.onBpd_med (h : BpdSt → BpdSt) : (s.onBpd h).med = s.med := rfl
@[simp] theorem State.onBpd_rd (h : BpdSt → BpdSt) : (s.onBpd h).rd = s.rd := rfl
@[simp] theorem State.onBpd_sheet (h : BpdSt → BpdSt) : (s.onBpd h).sheet = s.sheet := rfl
@[simp] theorem State.onBpd_nvme (h : BpdSt → BpdSt) : (s.onBpd h).nvme = s.nvme := rfl
@[simp] theorem State.onBpd_rdma (h : BpdSt → BpdSt) : (s.onBpd h).rdma = s.rdma := rfl
@[simp] theorem State.onBpd_net (h : BpdSt → BpdSt) : (s.onBpd h).net = s.net := rfl
@[simp] theorem State.onBpd_cip (h : BpdSt → BpdSt) : (s.onBpd h).cip = s.cip := rfl
@[simp] theorem State.onBpd_pair (h : BpdSt → BpdSt) : (s.onBpd h).pair = s.pair := rfl
@[simp] theorem State.onBpd_bpd (h : BpdSt → BpdSt) : (s.onBpd h).bpd = h s.bpd := rfl
@[simp] theorem State.onBpd_mgmt (h : BpdSt → BpdSt) : (s.onBpd h).mgmt = s.mgmt := rfl
@[simp] theorem State.onBpd_flt (h : BpdSt → BpdSt) : (s.onBpd h).flt = s.flt := rfl
@[simp] theorem State.onBpd_pmc (h : BpdSt → BpdSt) : (s.onBpd h).pmc = s.pmc := rfl
@[simp] theorem State.onBpd_boot (h : BpdSt → BpdSt) : (s.onBpd h).boot = s.boot := rfl
@[simp] theorem State.onBpd_out (h : BpdSt → BpdSt) : (s.onBpd h).out = s.out := rfl
@[simp] theorem State.onBpd_pending (h : BpdSt → BpdSt) : (s.onBpd h).pending = s.pending := rfl
@[simp] theorem State.onBpd_freeNo (h : BpdSt → BpdSt) : (s.onBpd h).freeNo = s.freeNo := rfl
@[simp] theorem State.onMgmt_clk (h : MgmtSt → MgmtSt) : (s.onMgmt h).clk = s.clk := rfl
@[simp] theorem State.onMgmt_fn (h : MgmtSt → MgmtSt) : (s.onMgmt h).fn = s.fn := rfl
@[simp] theorem State.onMgmt_sched (h : MgmtSt → MgmtSt) : (s.onMgmt h).sched = s.sched := rfl
@[simp] theorem State.onMgmt_map (h : MgmtSt → MgmtSt) : (s.onMgmt h).map = s.map := rfl
@[simp] theorem State.onMgmt_tc (h : MgmtSt → MgmtSt) : (s.onMgmt h).tc = s.tc := rfl
@[simp] theorem State.onMgmt_log (h : MgmtSt → MgmtSt) : (s.onMgmt h).log = s.log := rfl
@[simp] theorem State.onMgmt_reb (h : MgmtSt → MgmtSt) : (s.onMgmt h).reb = s.reb := rfl
@[simp] theorem State.onMgmt_med (h : MgmtSt → MgmtSt) : (s.onMgmt h).med = s.med := rfl
@[simp] theorem State.onMgmt_rd (h : MgmtSt → MgmtSt) : (s.onMgmt h).rd = s.rd := rfl
@[simp] theorem State.onMgmt_sheet (h : MgmtSt → MgmtSt) : (s.onMgmt h).sheet = s.sheet := rfl
@[simp] theorem State.onMgmt_nvme (h : MgmtSt → MgmtSt) : (s.onMgmt h).nvme = s.nvme := rfl
@[simp] theorem State.onMgmt_rdma (h : MgmtSt → MgmtSt) : (s.onMgmt h).rdma = s.rdma := rfl
@[simp] theorem State.onMgmt_net (h : MgmtSt → MgmtSt) : (s.onMgmt h).net = s.net := rfl
@[simp] theorem State.onMgmt_cip (h : MgmtSt → MgmtSt) : (s.onMgmt h).cip = s.cip := rfl
@[simp] theorem State.onMgmt_pair (h : MgmtSt → MgmtSt) : (s.onMgmt h).pair = s.pair := rfl
@[simp] theorem State.onMgmt_bpd (h : MgmtSt → MgmtSt) : (s.onMgmt h).bpd = s.bpd := rfl
@[simp] theorem State.onMgmt_mgmt (h : MgmtSt → MgmtSt) : (s.onMgmt h).mgmt = h s.mgmt := rfl
@[simp] theorem State.onMgmt_flt (h : MgmtSt → MgmtSt) : (s.onMgmt h).flt = s.flt := rfl
@[simp] theorem State.onMgmt_pmc (h : MgmtSt → MgmtSt) : (s.onMgmt h).pmc = s.pmc := rfl
@[simp] theorem State.onMgmt_boot (h : MgmtSt → MgmtSt) : (s.onMgmt h).boot = s.boot := rfl
@[simp] theorem State.onMgmt_out (h : MgmtSt → MgmtSt) : (s.onMgmt h).out = s.out := rfl
@[simp] theorem State.onMgmt_pending (h : MgmtSt → MgmtSt) : (s.onMgmt h).pending = s.pending := rfl
@[simp] theorem State.onMgmt_freeNo (h : MgmtSt → MgmtSt) : (s.onMgmt h).freeNo = s.freeNo := rfl
@[simp] theorem State.onFlt_clk (h : FltSt → FltSt) : (s.onFlt h).clk = s.clk := rfl
@[simp] theorem State.onFlt_fn (h : FltSt → FltSt) : (s.onFlt h).fn = s.fn := rfl
@[simp] theorem State.onFlt_sched (h : FltSt → FltSt) : (s.onFlt h).sched = s.sched := rfl
@[simp] theorem State.onFlt_map (h : FltSt → FltSt) : (s.onFlt h).map = s.map := rfl
@[simp] theorem State.onFlt_tc (h : FltSt → FltSt) : (s.onFlt h).tc = s.tc := rfl
@[simp] theorem State.onFlt_log (h : FltSt → FltSt) : (s.onFlt h).log = s.log := rfl
@[simp] theorem State.onFlt_reb (h : FltSt → FltSt) : (s.onFlt h).reb = s.reb := rfl
@[simp] theorem State.onFlt_med (h : FltSt → FltSt) : (s.onFlt h).med = s.med := rfl
@[simp] theorem State.onFlt_rd (h : FltSt → FltSt) : (s.onFlt h).rd = s.rd := rfl
@[simp] theorem State.onFlt_sheet (h : FltSt → FltSt) : (s.onFlt h).sheet = s.sheet := rfl
@[simp] theorem State.onFlt_nvme (h : FltSt → FltSt) : (s.onFlt h).nvme = s.nvme := rfl
@[simp] theorem State.onFlt_rdma (h : FltSt → FltSt) : (s.onFlt h).rdma = s.rdma := rfl
@[simp] theorem State.onFlt_net (h : FltSt → FltSt) : (s.onFlt h).net = s.net := rfl
@[simp] theorem State.onFlt_cip (h : FltSt → FltSt) : (s.onFlt h).cip = s.cip := rfl
@[simp] theorem State.onFlt_pair (h : FltSt → FltSt) : (s.onFlt h).pair = s.pair := rfl
@[simp] theorem State.onFlt_bpd (h : FltSt → FltSt) : (s.onFlt h).bpd = s.bpd := rfl
@[simp] theorem State.onFlt_mgmt (h : FltSt → FltSt) : (s.onFlt h).mgmt = s.mgmt := rfl
@[simp] theorem State.onFlt_flt (h : FltSt → FltSt) : (s.onFlt h).flt = h s.flt := rfl
@[simp] theorem State.onFlt_pmc (h : FltSt → FltSt) : (s.onFlt h).pmc = s.pmc := rfl
@[simp] theorem State.onFlt_boot (h : FltSt → FltSt) : (s.onFlt h).boot = s.boot := rfl
@[simp] theorem State.onFlt_out (h : FltSt → FltSt) : (s.onFlt h).out = s.out := rfl
@[simp] theorem State.onFlt_pending (h : FltSt → FltSt) : (s.onFlt h).pending = s.pending := rfl
@[simp] theorem State.onFlt_freeNo (h : FltSt → FltSt) : (s.onFlt h).freeNo = s.freeNo := rfl
@[simp] theorem State.onPmc_clk (h : PmcSt → PmcSt) : (s.onPmc h).clk = s.clk := rfl
@[simp] theorem State.onPmc_fn (h : PmcSt → PmcSt) : (s.onPmc h).fn = s.fn := rfl
@[simp] theorem State.onPmc_sched (h : PmcSt → PmcSt) : (s.onPmc h).sched = s.sched := rfl
@[simp] theorem State.onPmc_map (h : PmcSt → PmcSt) : (s.onPmc h).map = s.map := rfl
@[simp] theorem State.onPmc_tc (h : PmcSt → PmcSt) : (s.onPmc h).tc = s.tc := rfl
@[simp] theorem State.onPmc_log (h : PmcSt → PmcSt) : (s.onPmc h).log = s.log := rfl
@[simp] theorem State.onPmc_reb (h : PmcSt → PmcSt) : (s.onPmc h).reb = s.reb := rfl
@[simp] theorem State.onPmc_med (h : PmcSt → PmcSt) : (s.onPmc h).med = s.med := rfl
@[simp] theorem State.onPmc_rd (h : PmcSt → PmcSt) : (s.onPmc h).rd = s.rd := rfl
@[simp] theorem State.onPmc_sheet (h : PmcSt → PmcSt) : (s.onPmc h).sheet = s.sheet := rfl
@[simp] theorem State.onPmc_nvme (h : PmcSt → PmcSt) : (s.onPmc h).nvme = s.nvme := rfl
@[simp] theorem State.onPmc_rdma (h : PmcSt → PmcSt) : (s.onPmc h).rdma = s.rdma := rfl
@[simp] theorem State.onPmc_net (h : PmcSt → PmcSt) : (s.onPmc h).net = s.net := rfl
@[simp] theorem State.onPmc_cip (h : PmcSt → PmcSt) : (s.onPmc h).cip = s.cip := rfl
@[simp] theorem State.onPmc_pair (h : PmcSt → PmcSt) : (s.onPmc h).pair = s.pair := rfl
@[simp] theorem State.onPmc_bpd (h : PmcSt → PmcSt) : (s.onPmc h).bpd = s.bpd := rfl
@[simp] theorem State.onPmc_mgmt (h : PmcSt → PmcSt) : (s.onPmc h).mgmt = s.mgmt := rfl
@[simp] theorem State.onPmc_flt (h : PmcSt → PmcSt) : (s.onPmc h).flt = s.flt := rfl
@[simp] theorem State.onPmc_pmc (h : PmcSt → PmcSt) : (s.onPmc h).pmc = h s.pmc := rfl
@[simp] theorem State.onPmc_boot (h : PmcSt → PmcSt) : (s.onPmc h).boot = s.boot := rfl
@[simp] theorem State.onPmc_out (h : PmcSt → PmcSt) : (s.onPmc h).out = s.out := rfl
@[simp] theorem State.onPmc_pending (h : PmcSt → PmcSt) : (s.onPmc h).pending = s.pending := rfl
@[simp] theorem State.onPmc_freeNo (h : PmcSt → PmcSt) : (s.onPmc h).freeNo = s.freeNo := rfl
@[simp] theorem State.onBoot_clk (h : BootSt → BootSt) : (s.onBoot h).clk = s.clk := rfl
@[simp] theorem State.onBoot_fn (h : BootSt → BootSt) : (s.onBoot h).fn = s.fn := rfl
@[simp] theorem State.onBoot_sched (h : BootSt → BootSt) : (s.onBoot h).sched = s.sched := rfl
@[simp] theorem State.onBoot_map (h : BootSt → BootSt) : (s.onBoot h).map = s.map := rfl
@[simp] theorem State.onBoot_tc (h : BootSt → BootSt) : (s.onBoot h).tc = s.tc := rfl
@[simp] theorem State.onBoot_log (h : BootSt → BootSt) : (s.onBoot h).log = s.log := rfl
@[simp] theorem State.onBoot_reb (h : BootSt → BootSt) : (s.onBoot h).reb = s.reb := rfl
@[simp] theorem State.onBoot_med (h : BootSt → BootSt) : (s.onBoot h).med = s.med := rfl
@[simp] theorem State.onBoot_rd (h : BootSt → BootSt) : (s.onBoot h).rd = s.rd := rfl
@[simp] theorem State.onBoot_sheet (h : BootSt → BootSt) : (s.onBoot h).sheet = s.sheet := rfl
@[simp] theorem State.onBoot_nvme (h : BootSt → BootSt) : (s.onBoot h).nvme = s.nvme := rfl
@[simp] theorem State.onBoot_rdma (h : BootSt → BootSt) : (s.onBoot h).rdma = s.rdma := rfl
@[simp] theorem State.onBoot_net (h : BootSt → BootSt) : (s.onBoot h).net = s.net := rfl
@[simp] theorem State.onBoot_cip (h : BootSt → BootSt) : (s.onBoot h).cip = s.cip := rfl
@[simp] theorem State.onBoot_pair (h : BootSt → BootSt) : (s.onBoot h).pair = s.pair := rfl
@[simp] theorem State.onBoot_bpd (h : BootSt → BootSt) : (s.onBoot h).bpd = s.bpd := rfl
@[simp] theorem State.onBoot_mgmt (h : BootSt → BootSt) : (s.onBoot h).mgmt = s.mgmt := rfl
@[simp] theorem State.onBoot_flt (h : BootSt → BootSt) : (s.onBoot h).flt = s.flt := rfl
@[simp] theorem State.onBoot_pmc (h : BootSt → BootSt) : (s.onBoot h).pmc = s.pmc := rfl
@[simp] theorem State.onBoot_boot (h : BootSt → BootSt) : (s.onBoot h).boot = h s.boot := rfl
@[simp] theorem State.onBoot_out (h : BootSt → BootSt) : (s.onBoot h).out = s.out := rfl
@[simp] theorem State.onBoot_pending (h : BootSt → BootSt) : (s.onBoot h).pending = s.pending := rfl
@[simp] theorem State.onBoot_freeNo (h : BootSt → BootSt) : (s.onBoot h).freeNo = s.freeNo := rfl
@[simp] theorem State.emit_clk (e : Emit) : (s.emit e).clk = s.clk := rfl
@[simp] theorem State.emit_fn (e : Emit) : (s.emit e).fn = s.fn := rfl
@[simp] theorem State.emit_sched (e : Emit) : (s.emit e).sched = s.sched := rfl
@[simp] theorem State.emit_map (e : Emit) : (s.emit e).map = s.map := rfl
@[simp] theorem State.emit_tc (e : Emit) : (s.emit e).tc = s.tc := rfl
@[simp] theorem State.emit_log (e : Emit) : (s.emit e).log = s.log := rfl
@[simp] theorem State.emit_reb (e : Emit) : (s.emit e).reb = s.reb := rfl
@[simp] theorem State.emit_med (e : Emit) : (s.emit e).med = s.med := rfl
@[simp] theorem State.emit_rd (e : Emit) : (s.emit e).rd = s.rd := rfl
@[simp] theorem State.emit_sheet (e : Emit) : (s.emit e).sheet = s.sheet := rfl
@[simp] theorem State.emit_nvme (e : Emit) : (s.emit e).nvme = s.nvme := rfl
@[simp] theorem State.emit_rdma (e : Emit) : (s.emit e).rdma = s.rdma := rfl
@[simp] theorem State.emit_net (e : Emit) : (s.emit e).net = s.net := rfl
@[simp] theorem State.emit_cip (e : Emit) : (s.emit e).cip = s.cip := rfl
@[simp] theorem State.emit_pair (e : Emit) : (s.emit e).pair = s.pair := rfl
@[simp] theorem State.emit_bpd (e : Emit) : (s.emit e).bpd = s.bpd := rfl
@[simp] theorem State.emit_mgmt (e : Emit) : (s.emit e).mgmt = s.mgmt := rfl
@[simp] theorem State.emit_flt (e : Emit) : (s.emit e).flt = s.flt := rfl
@[simp] theorem State.emit_pmc (e : Emit) : (s.emit e).pmc = s.pmc := rfl
@[simp] theorem State.emit_boot (e : Emit) : (s.emit e).boot = s.boot := rfl
@[simp] theorem State.emit_out (e : Emit) : (s.emit e).out = e :: s.out := rfl
@[simp] theorem State.emit_pending (e : Emit) : (s.emit e).pending = s.pending := rfl
@[simp] theorem State.emit_freeNo (e : Emit) : (s.emit e).freeNo = s.freeNo := rfl
@[simp] theorem State.tick_clk : s.tick.clk = s.clk := rfl
@[simp] theorem State.tick_fn : s.tick.fn = s.fn := rfl
@[simp] theorem State.tick_sched : s.tick.sched = s.sched := rfl
@[simp] theorem State.tick_map : s.tick.map = s.map := rfl
@[simp] theorem State.tick_tc : s.tick.tc = s.tc := rfl
@[simp] theorem State.tick_log : s.tick.log = s.log := rfl
@[simp] theorem State.tick_reb : s.tick.reb = s.reb := rfl
@[simp] theorem State.tick_med : s.tick.med = s.med := rfl
@[simp] theorem State.tick_rd : s.tick.rd = s.rd := rfl
@[simp] theorem State.tick_sheet : s.tick.sheet = s.sheet := rfl
@[simp] theorem State.tick_nvme : s.tick.nvme = s.nvme := rfl
@[simp] theorem State.tick_rdma : s.tick.rdma = s.rdma := rfl
@[simp] theorem State.tick_net : s.tick.net = s.net := rfl
@[simp] theorem State.tick_cip : s.tick.cip = s.cip := rfl
@[simp] theorem State.tick_pair : s.tick.pair = s.pair := rfl
@[simp] theorem State.tick_bpd : s.tick.bpd = s.bpd := rfl
@[simp] theorem State.tick_mgmt : s.tick.mgmt = s.mgmt := rfl
@[simp] theorem State.tick_flt : s.tick.flt = s.flt := rfl
@[simp] theorem State.tick_pmc : s.tick.pmc = s.pmc := rfl
@[simp] theorem State.tick_boot : s.tick.boot = s.boot := rfl
@[simp] theorem State.tick_out : s.tick.out = s.out := rfl
@[simp] theorem State.tick_pending : s.tick.pending = s.pending := rfl
@[simp] theorem State.tick_freeNo : s.tick.freeNo = s.freeNo + 1 := rfl
@[simp] theorem State.withPending_clk (q : List Instr) : (s.withPending q).clk = s.clk := rfl
@[simp] theorem State.withPending_fn (q : List Instr) : (s.withPending q).fn = s.fn := rfl
@[simp] theorem State.withPending_sched (q : List Instr) : (s.withPending q).sched = s.sched := rfl
@[simp] theorem State.withPending_map (q : List Instr) : (s.withPending q).map = s.map := rfl
@[simp] theorem State.withPending_tc (q : List Instr) : (s.withPending q).tc = s.tc := rfl
@[simp] theorem State.withPending_log (q : List Instr) : (s.withPending q).log = s.log := rfl
@[simp] theorem State.withPending_reb (q : List Instr) : (s.withPending q).reb = s.reb := rfl
@[simp] theorem State.withPending_med (q : List Instr) : (s.withPending q).med = s.med := rfl
@[simp] theorem State.withPending_rd (q : List Instr) : (s.withPending q).rd = s.rd := rfl
@[simp] theorem State.withPending_sheet (q : List Instr) : (s.withPending q).sheet = s.sheet := rfl
@[simp] theorem State.withPending_nvme (q : List Instr) : (s.withPending q).nvme = s.nvme := rfl
@[simp] theorem State.withPending_rdma (q : List Instr) : (s.withPending q).rdma = s.rdma := rfl
@[simp] theorem State.withPending_net (q : List Instr) : (s.withPending q).net = s.net := rfl
@[simp] theorem State.withPending_cip (q : List Instr) : (s.withPending q).cip = s.cip := rfl
@[simp] theorem State.withPending_pair (q : List Instr) : (s.withPending q).pair = s.pair := rfl
@[simp] theorem State.withPending_bpd (q : List Instr) : (s.withPending q).bpd = s.bpd := rfl
@[simp] theorem State.withPending_mgmt (q : List Instr) : (s.withPending q).mgmt = s.mgmt := rfl
@[simp] theorem State.withPending_flt (q : List Instr) : (s.withPending q).flt = s.flt := rfl
@[simp] theorem State.withPending_pmc (q : List Instr) : (s.withPending q).pmc = s.pmc := rfl
@[simp] theorem State.withPending_boot (q : List Instr) : (s.withPending q).boot = s.boot := rfl
@[simp] theorem State.withPending_out (q : List Instr) : (s.withPending q).out = s.out := rfl
@[simp] theorem State.withPending_pending (q : List Instr) : (s.withPending q).pending = q := rfl
@[simp] theorem State.withPending_freeNo (q : List Instr) : (s.withPending q).freeNo = s.freeNo := rfl

end Sys2Proof.Machine
end

