-- ==== Sys2Proof/Laws/Mask.lean ====
section
/-! SUPPORT. Frames of the updaters: a state with some groups blanked, and the lemmas that take an updater of a blanked group out. -/

namespace Sys2Proof.Machine

/-- The state with the groups that `P` picks blanked: two states that agree under it differ in those groups at most. -/
def State.mask (P : Part → Bool) (s : State) : State :=
  { clk := bif P .clk then State.reset.clk else s.clk
    fn := bif P .fn then State.reset.fn else s.fn
    sched := bif P .sched then State.reset.sched else s.sched
    map := bif P .map then State.reset.map else s.map
    tc := bif P .tc then State.reset.tc else s.tc
    log := bif P .log then State.reset.log else s.log
    reb := bif P .reb then State.reset.reb else s.reb
    med := bif P .med then State.reset.med else s.med
    rd := bif P .rd then State.reset.rd else s.rd
    sheet := { (bif P .sheet then SheetSt.reset else s.sheet) with
      modules := bif P .mods then [] else s.sheet.modules, media := bif P .media then [] else s.sheet.media }
    nvme := bif P .nvme then State.reset.nvme else s.nvme
    rdma := bif P .rdma then State.reset.rdma else s.rdma
    net := bif P .net then State.reset.net else s.net
    cip := bif P .cip then State.reset.cip else s.cip
    pair := bif P .pair then State.reset.pair else s.pair
    bpd := { (bif P .bpd then BpdSt.reset else s.bpd) with
      held := bif P .held then [] else s.bpd.held, lostWords := bif P .held then false else s.bpd.lostWords }
    mgmt := { (bif P .mgmt then MgmtSt.reset else s.mgmt) with
      evqs := bif P .evqs then [] else s.mgmt.evqs, msix := bif P .evqs then [] else s.mgmt.msix
      dropped := bif P .evqs then 0 else s.mgmt.dropped, mbx := bif P .mbx then [] else s.mgmt.mbx }
    flt := bif P .flt then State.reset.flt else s.flt
    pmc := bif P .pmc then State.reset.pmc else s.pmc
    boot := bif P .boot then State.reset.boot else s.boot
    out := bif P .out then State.reset.out else s.out
    pending := bif P .pending then State.reset.pending else s.pending
    freeNo := bif P .freeNo then State.reset.freeNo else s.freeNo }

variable {P : Part → Bool}

theorem State.mask_clk {s t : State} (h : t.mask P = s.mask P) (hp : P .clk = false) : t.clk = s.clk := by
  have := congrArg State.clk h
  simpa [State.mask, hp] using this

theorem State.mask_fn {s t : State} (h : t.mask P = s.mask P) (hp : P .fn = false) : t.fn = s.fn := by
  have := congrArg State.fn h
  simpa [State.mask, hp] using this

theorem State.mask_sched {s t : State} (h : t.mask P = s.mask P) (hp : P .sched = false) : t.sched = s.sched := by
  have := congrArg State.sched h
  simpa [State.mask, hp] using this

theorem State.mask_map {s t : State} (h : t.mask P = s.mask P) (hp : P .map = false) : t.map = s.map := by
  have := congrArg State.map h
  simpa [State.mask, hp] using this

theorem State.mask_tc {s t : State} (h : t.mask P = s.mask P) (hp : P .tc = false) : t.tc = s.tc := by
  have := congrArg State.tc h
  simpa [State.mask, hp] using this

theorem State.mask_log {s t : State} (h : t.mask P = s.mask P) (hp : P .log = false) : t.log = s.log := by
  have := congrArg State.log h
  simpa [State.mask, hp] using this

theorem State.mask_reb {s t : State} (h : t.mask P = s.mask P) (hp : P .reb = false) : t.reb = s.reb := by
  have := congrArg State.reb h
  simpa [State.mask, hp] using this

theorem State.mask_med {s t : State} (h : t.mask P = s.mask P) (hp : P .med = false) : t.med = s.med := by
  have := congrArg State.med h
  simpa [State.mask, hp] using this

theorem State.mask_rd {s t : State} (h : t.mask P = s.mask P) (hp : P .rd = false) : t.rd = s.rd := by
  have := congrArg State.rd h
  simpa [State.mask, hp] using this

theorem State.mask_mods {s t : State} (h : t.mask P = s.mask P) (hp : P .mods = false) : t.sheet.modules = s.sheet.modules := by
  have := congrArg (·.sheet.modules) h
  simpa [State.mask, hp] using this

theorem State.mask_media {s t : State} (h : t.mask P = s.mask P) (hp : P .media = false) : t.sheet.media = s.sheet.media := by
  have := congrArg (·.sheet.media) h
  simpa [State.mask, hp] using this

theorem State.mask_sheet {s t : State} (h : t.mask P = s.mask P) (hp : P .sheet = false) :
    t.sheet.ports = s.sheet.ports ∧ t.sheet.epoch = s.sheet.epoch ∧ t.sheet.programsHeld = s.sheet.programsHeld := by
  have := congrArg State.sheet h
  simp [State.mask, hp] at this
  exact ⟨this.1, this.2.2.2.1, this.2.2.2.2⟩

theorem State.mask_nvme {s t : State} (h : t.mask P = s.mask P) (hp : P .nvme = false) : t.nvme = s.nvme := by
  have := congrArg State.nvme h
  simpa [State.mask, hp] using this

theorem State.mask_rdma {s t : State} (h : t.mask P = s.mask P) (hp : P .rdma = false) : t.rdma = s.rdma := by
  have := congrArg State.rdma h
  simpa [State.mask, hp] using this

theorem State.mask_net {s t : State} (h : t.mask P = s.mask P) (hp : P .net = false) : t.net = s.net := by
  have := congrArg State.net h
  simpa [State.mask, hp] using this

theorem State.mask_cip {s t : State} (h : t.mask P = s.mask P) (hp : P .cip = false) : t.cip = s.cip := by
  have := congrArg State.cip h
  simpa [State.mask, hp] using this

theorem State.mask_pair {s t : State} (h : t.mask P = s.mask P) (hp : P .pair = false) : t.pair = s.pair := by
  have := congrArg State.pair h
  simpa [State.mask, hp] using this

theorem State.mask_held {s t : State} (h : t.mask P = s.mask P) (hp : P .held = false) :
    t.bpd.held = s.bpd.held ∧ t.bpd.lostWords = s.bpd.lostWords := by
  have h1 := congrArg (·.bpd.held) h
  have h2 := congrArg (·.bpd.lostWords) h
  exact ⟨by simpa [State.mask, hp] using h1, by simpa [State.mask, hp] using h2⟩

theorem State.mask_bpd {s t : State} (h : t.mask P = s.mask P) (hp : P .bpd = false) :
    { t.bpd with held := s.bpd.held, lostWords := s.bpd.lostWords } = s.bpd := by
  have := congrArg (fun x => { x.bpd with held := s.bpd.held, lostWords := s.bpd.lostWords }) h
  simp [State.mask, hp] at this
  simp only [this]

theorem State.mask_evqs {s t : State} (h : t.mask P = s.mask P) (hp : P .evqs = false) :
    t.mgmt.evqs = s.mgmt.evqs ∧ t.mgmt.msix = s.mgmt.msix ∧ t.mgmt.dropped = s.mgmt.dropped := by
  have h1 := congrArg (·.mgmt.evqs) h
  have h2 := congrArg (·.mgmt.msix) h
  have h3 := congrArg (·.mgmt.dropped) h
  exact ⟨by simpa [State.mask, hp] using h1, by simpa [State.mask, hp] using h2, by simpa [State.mask, hp] using h3⟩

theorem State.mask_mbx {s t : State} (h : t.mask P = s.mask P) (hp : P .mbx = false) : t.mgmt.mbx = s.mgmt.mbx := by
  have := congrArg (·.mgmt.mbx) h
  simpa [State.mask, hp] using this

theorem State.mask_mgmt {s t : State} (h : t.mask P = s.mask P) (hp : P .mgmt = false) :
    { t.mgmt with evqs := s.mgmt.evqs, msix := s.mgmt.msix, dropped := s.mgmt.dropped, mbx := s.mgmt.mbx } = s.mgmt := by
  have := congrArg (fun x =>
    { x.mgmt with evqs := s.mgmt.evqs, msix := s.mgmt.msix, dropped := s.mgmt.dropped, mbx := s.mgmt.mbx }) h
  simp [State.mask, hp] at this
  simp only [this]

theorem State.mask_flt {s t : State} (h : t.mask P = s.mask P) (hp : P .flt = false) : t.flt = s.flt := by
  have := congrArg State.flt h
  simpa [State.mask, hp] using this

theorem State.mask_pmc {s t : State} (h : t.mask P = s.mask P) (hp : P .pmc = false) : t.pmc = s.pmc := by
  have := congrArg State.pmc h
  simpa [State.mask, hp] using this

theorem State.mask_boot {s t : State} (h : t.mask P = s.mask P) (hp : P .boot = false) : t.boot = s.boot := by
  have := congrArg State.boot h
  simpa [State.mask, hp] using this

theorem State.mask_out {s t : State} (h : t.mask P = s.mask P) (hp : P .out = false) : t.out = s.out := by
  have := congrArg State.out h
  simpa [State.mask, hp] using this

theorem State.mask_pending {s t : State} (h : t.mask P = s.mask P) (hp : P .pending = false) : t.pending = s.pending := by
  have := congrArg State.pending h
  simpa [State.mask, hp] using this

theorem State.mask_freeNo {s t : State} (h : t.mask P = s.mask P) (hp : P .freeNo = false) : t.freeNo = s.freeNo := by
  have := congrArg State.freeNo h
  simpa [State.mask, hp] using this

/-- A frame from an equation of blanked states. -/
theorem Only.of_mask {ps : List Part} {s t : State} (h : t.mask ps.contains = s.mask ps.contains) : Only ps s t := by
  intro p hp
  have hq : ps.contains p = false := by simpa using hp
  cases p
  · exact State.mask_clk h hq
  · exact State.mask_fn h hq
  · exact State.mask_sched h hq
  · exact State.mask_map h hq
  · exact State.mask_tc h hq
  · exact State.mask_log h hq
  · exact State.mask_reb h hq
  · exact State.mask_med h hq
  · exact State.mask_rd h hq
  · obtain ⟨h1, h2, h3⟩ := State.mask_sheet h hq
    simp only [Part.same, h1, h2, h3]
  · exact State.mask_mods h hq
  · exact State.mask_media h hq
  · exact State.mask_nvme h hq
  · exact State.mask_rdma h hq
  · exact State.mask_net h hq
  · exact State.mask_cip h hq
  · exact State.mask_pair h hq
  · exact State.mask_bpd h hq
  · exact State.mask_held h hq
  · exact State.mask_mgmt h hq
  · exact State.mask_evqs h hq
  · exact State.mask_mbx h hq
  · exact State.mask_flt h hq
  · exact State.mask_pmc h hq
  · exact State.mask_boot h hq
  · exact State.mask_out h hq
  · exact State.mask_pending h hq
  · exact State.mask_freeNo h hq

/-- A frame of more groups follows. -/
theorem Only.mono {ps qs : List Part} {s t : State} (h : Only ps s t) (hs : ∀ p ∈ ps, p ∈ qs) : Only qs s t :=
  fun p hp => h p fun hq => hp (hs p hq)

@[simp] theorem State.onClk_mask (h : P .clk = true) (s : State) (g) : (s.onClk g).mask P = s.mask P := by
  simp [State.mask, State.onClk, h]

@[simp] theorem State.onFn_mask (h : P .fn = true) (s : State) (g) : (s.onFn g).mask P = s.mask P := by
  simp [State.mask, State.onFn, h]

@[simp] theorem State.onSched_mask (h : P .sched = true) (s : State) (g) : (s.onSched g).mask P = s.mask P := by
  simp [State.mask, State.onSched, h]

@[simp] theorem State.onMap_mask (h : P .map = true) (s : State) (g) : (s.onMap g).mask P = s.mask P := by
  simp [State.mask, State.onMap, h]

@[simp] theorem State.onTc_mask (h : P .tc = true) (s : State) (g) : (s.onTc g).mask P = s.mask P := by
  simp [State.mask, State.onTc, h]

@[simp] theorem State.onLog_mask (h : P .log = true) (s : State) (g) : (s.onLog g).mask P = s.mask P := by
  simp [State.mask, State.onLog, h]

@[simp] theorem State.onReb_mask (h : P .reb = true) (s : State) (g) : (s.onReb g).mask P = s.mask P := by
  simp [State.mask, State.onReb, h]

@[simp] theorem State.onMed_mask (h : P .med = true) (s : State) (g) : (s.onMed g).mask P = s.mask P := by
  simp [State.mask, State.onMed, h]

@[simp] theorem State.onRd_mask (h : P .rd = true) (s : State) (g) : (s.onRd g).mask P = s.mask P := by
  simp [State.mask, State.onRd, h]

/-- An updater of the ports, the epoch and the hold alone. -/
@[simp] theorem State.onSheet_mask (h : P .sheet = true) (s : State) (g : SheetSt → SheetSt)
    (hg : ∀ x, (g x).modules = x.modules ∧ (g x).media = x.media) : (s.onSheet g).mask P = s.mask P := by
  simp [State.mask, State.onSheet, h, hg]

/-- An updater of the modules alone. -/
@[simp] theorem State.onSheet_mods_mask (h : P .mods = true) (s : State) (g : SheetSt → SheetSt)
    (hg : ∀ x, g x = { x with modules := (g x).modules }) : (s.onSheet g).mask P = s.mask P := by
  simp only [State.mask, State.onSheet, h]
  rw [hg]
  cases P .sheet <;> simp

/-- An updater of the media alone. -/
@[simp] theorem State.onSheet_media_mask (h : P .media = true) (s : State) (g : SheetSt → SheetSt)
    (hg : ∀ x, g x = { x with media := (g x).media }) : (s.onSheet g).mask P = s.mask P := by
  simp only [State.mask, State.onSheet, h]
  rw [hg]
  cases P .sheet <;> simp

/-- An updater of modules and media. -/
@[simp] theorem State.onSheet_both_mask (h : P .mods = true) (h2 : P .media = true) (s : State) (g : SheetSt → SheetSt)
    (hg : ∀ x, g x = { x with modules := (g x).modules, media := (g x).media }) : (s.onSheet g).mask P = s.mask P := by
  simp only [State.mask, State.onSheet, h, h2]
  rw [hg]
  cases P .sheet <;> simp

theorem State.onSheet_all_mask (h : P .sheet = true) (h1 : P .mods = true) (h2 : P .media = true) (s : State) (g : SheetSt → SheetSt) :
    (s.onSheet g).mask P = s.mask P := by
  simp [State.mask, State.onSheet, h, h1, h2]

@[simp] theorem State.onNvme_mask (h : P .nvme = true) (s : State) (g) : (s.onNvme g).mask P = s.mask P := by
  simp [State.mask, State.onNvme, h]

@[simp] theorem State.onRdma_mask (h : P .rdma = true) (s : State) (g) : (s.onRdma g).mask P = s.mask P := by
  simp [State.mask, State.onRdma, h]

@[simp] theorem State.onNet_mask (h : P .net = true) (s : State) (g) : (s.onNet g).mask P = s.mask P := by
  simp [State.mask, State.onNet, h]

@[simp] theorem State.onCip_mask (h : P .cip = true) (s : State) (g) : (s.onCip g).mask P = s.mask P := by
  simp [State.mask, State.onCip, h]

@[simp] theorem State.onPair_mask (h : P .pair = true) (s : State) (g) : (s.onPair g).mask P = s.mask P := by
  simp [State.mask, State.onPair, h]

/-- An updater that leaves the held words. -/
@[simp] theorem State.onBpd_mask (h : P .bpd = true) (s : State) (g : BpdSt → BpdSt)
    (hg : ∀ x, (g x).held = x.held ∧ (g x).lostWords = x.lostWords) : (s.onBpd g).mask P = s.mask P := by
  simp [State.mask, State.onBpd, h, hg]

/-- An updater of the held words alone. -/
@[simp] theorem State.onBpd_held_mask (h : P .held = true) (s : State) (g : BpdSt → BpdSt)
    (hg : ∀ x, g x = { x with held := (g x).held, lostWords := (g x).lostWords }) : (s.onBpd g).mask P = s.mask P := by
  simp only [State.mask, State.onBpd, h]
  rw [hg]
  cases P .bpd <;> simp

theorem State.onBpd_all_mask (h : P .bpd = true) (h1 : P .held = true) (s : State) (g : BpdSt → BpdSt) :
    (s.onBpd g).mask P = s.mask P := by
  simp [State.mask, State.onBpd, h, h1]

/-- An updater that leaves event queues and mailboxes. -/
@[simp] theorem State.onMgmt_mask (h : P .mgmt = true) (s : State) (g : MgmtSt → MgmtSt)
    (hg : ∀ x, (g x).evqs = x.evqs ∧ (g x).msix = x.msix ∧ (g x).dropped = x.dropped ∧ (g x).mbx = x.mbx) :
    (s.onMgmt g).mask P = s.mask P := by
  simp [State.mask, State.onMgmt, h, hg]

/-- An updater of event queues and vectors alone. -/
@[simp] theorem State.onMgmt_evqs_mask (h : P .evqs = true) (s : State) (g : MgmtSt → MgmtSt)
    (hg : ∀ x, g x = { x with evqs := (g x).evqs, msix := (g x).msix, dropped := (g x).dropped }) : (s.onMgmt g).mask P = s.mask P := by
  simp only [State.mask, State.onMgmt, h]
  rw [hg]
  cases P .mgmt <;> simp

/-- An updater of mailboxes alone. -/
@[simp] theorem State.onMgmt_mbx_mask (h : P .mbx = true) (s : State) (g : MgmtSt → MgmtSt)
    (hg : ∀ x, g x = { x with mbx := (g x).mbx }) : (s.onMgmt g).mask P = s.mask P := by
  simp only [State.mask, State.onMgmt, h]
  rw [hg]
  cases P .mgmt <;> simp

theorem State.onMgmt_all_mask (h : P .mgmt = true) (h1 : P .evqs = true) (h2 : P .mbx = true) (s : State) (g : MgmtSt → MgmtSt) :
    (s.onMgmt g).mask P = s.mask P := by
  simp [State.mask, State.onMgmt, h, h1, h2]

@[simp] theorem State.onFlt_mask (h : P .flt = true) (s : State) (g) : (s.onFlt g).mask P = s.mask P := by
  simp [State.mask, State.onFlt, h]

@[simp] theorem State.onPmc_mask (h : P .pmc = true) (s : State) (g) : (s.onPmc g).mask P = s.mask P := by
  simp [State.mask, State.onPmc, h]

@[simp] theorem State.onBoot_mask (h : P .boot = true) (s : State) (g) : (s.onBoot g).mask P = s.mask P := by
  simp [State.mask, State.onBoot, h]

@[simp] theorem State.emit_mask (h : P .out = true) (s : State) (e) : (s.emit e).mask P = s.mask P := by
  simp [State.mask, State.emit, h]

@[simp] theorem State.tick_mask (h : P .freeNo = true) (s : State)  : (s.tick ).mask P = s.mask P := by
  simp [State.mask, State.tick, h]

@[simp] theorem State.withPending_mask (h : P .pending = true) (s : State) (q) : (s.withPending q).mask P = s.mask P := by
  simp [State.mask, State.withPending, h]

/-- A fold of steps that each keep the blanked state keeps it. -/
@[simp] theorem State.foldl_mask {α : Type} {g : State → α → State} (h : ∀ s a, (g s a).mask P = s.mask P) (l : List α) (s : State) :
    (l.foldl g s).mask P = s.mask P := by
  induction l generalizing s with
  | nil => rfl
  | cons a t ih => rw [List.foldl_cons, ih, h]

/-- The same where the step carries two results beside the state. -/
theorem State.foldl_mask2 {α β γ : Type} {g : β × γ × State → α → β × γ × State} (h : ∀ a x, (g a x).2.2.mask P = a.2.2.mask P) (l : List α)
    (a : β × γ × State) : (l.foldl g a).2.2.mask P = a.2.2.mask P := by
  induction l generalizing a with
  | nil => rfl
  | cons x t ih => rw [List.foldl_cons, ih, h]

/-- A conditional of steps that keep the blanked state. -/
@[simp] theorem State.ite_mask (c : Prop) [Decidable c] (a b : State) :
    (if c then a else b).mask P = if c then a.mask P else b.mask P := by
  split <;> rfl

end Sys2Proof.Machine
end

