-- ==== Sys2Proof/Laws/FrameShared.lean ====
section
/-! SUPPORT. Frames of the shared operations: which groups of the state each may change, as an equation of blanked states; one lemma for
each operation, in the order of the modules. -/

set_option linter.unusedTactic false
set_option linter.unreachableTactic false
set_option linter.unusedSimpArgs false
set_option linter.unusedVariables false

namespace Sys2Proof.Machine

variable {P : Part → Bool}

/-! Machine/Ops.lean -/

@[simp] theorem State.onPort_mask (hsheet : P .sheet = true) (s : State) (b : Nat) (g : Port → Port) : (State.onPort s b g).mask P = s.mask P := by simp [State.onPort, *]

@[simp] theorem State.onModule_mask (hmods : P .mods = true) (s : State) (b : Nat) (g : Module → Module) : (State.onModule s b g).mask P = s.mask P := by simp [State.onModule, *]

@[simp] theorem State.onMbx_mask (hmbx : P .mbx = true) (s : State) (m : Nat) (g : Mbx → Mbx) : (State.onMbx s m g).mask P = s.mask P := by simp [State.onMbx, *]

@[simp] theorem State.onEvq_mask (hevqs : P .evqs = true) (s : State) (q : Nat) (g : Evq → Evq) : (State.onEvq s q g).mask P = s.mask P := by simp [State.onEvq, *]

@[simp] theorem State.onChan_mask (hbpd : P .bpd = true) (s : State) (b : Nat) (g : Chan → Chan) : (State.onChan s b g).mask P = s.mask P := by simp [State.onChan, *]

@[simp] theorem State.onQp_mask (hrdma : P .rdma = true) (s : State) (q : Nat) (g : Qp → Qp) : (State.onQp s q g).mask P = s.mask P := by simp [State.onQp, *]

@[simp] theorem State.onCell_mask (hrdma : P .rdma = true) (s : State) (q : Nat) (g : RdmaCell → RdmaCell) : (State.onCell s q g).mask P = s.mask P := by simp [State.onCell, *]

@[simp] theorem State.onCmd_mask (hsched : P .sched = true) (s : State) (n : Nat) (g : Cmd → Cmd) : (State.onCmd s n g).mask P = s.mask P := by simp [State.onCmd, *]

@[simp] theorem State.onCtl_mask (hnvme : P .nvme = true) (s : State) (c : Nat) (g : NvmeCtl → NvmeCtl) : (State.onCtl s c g).mask P = s.mask P := by simp [State.onCtl, *]

@[simp] theorem State.onHealth_mask (hmed : P .med = true) (s : State) (b : Nat) (g : Health → Health) : (State.onHealth s b g).mask P = s.mask P := by simp [State.onHealth, *]

@[simp] theorem State.countLate_mask (hsched : P .sched = true) (s : State) (block : Nat) : (State.countLate s block).mask P = s.mask P := by simp [State.countLate, *]

@[simp] theorem State.msix_mask (hevqs : P .evqs = true) (hout : P .out = true) (s : State) (v : Nat) : (State.msix s v).mask P = s.mask P := by simp [State.msix, *]

@[simp] theorem State.evqSignal_mask (hevqs : P .evqs = true) (hout : P .out = true) (s : State) (q : Nat) (force : Bool) : (State.evqSignal s q force).mask P = s.mask P := by simp [State.evqSignal, *]

@[simp] theorem State.evqWrite_mask (hevqs : P .evqs = true) (hout : P .out = true) (s : State) (q : Nat) (r : EvRec) : (State.evqWrite s q r).mask P = s.mask P := by simp [State.evqWrite, *]

@[simp] theorem State.evqPost_mask (hevqs : P .evqs = true) (hout : P .out = true) (s : State) (q source kind data0 data1 : Nat) : (State.evqPost s q source kind data0 data1).mask P = s.mask P := by simp [State.evqPost, *]

@[simp] theorem State.event_mask (hevqs : P .evqs = true) (hout : P .out = true) (s : State) (source kind data0 data1 : Nat) : (State.event s source kind data0 data1).mask P = s.mask P := by
  unfold State.event
  split <;> simp [*]

@[simp] theorem State.eventState_mask (hevqs : P .evqs = true) (hout : P .out = true) (s : State) (source new old cause detail : Nat) : (State.eventState s source new old cause detail).mask P = s.mask P := by simp [State.eventState, *]

@[simp] theorem State.raiseWord_mask (hheld : P .held = true) (hflt : P .flt = true) (s : State) (w : BitVec 64) : (State.raiseWord s w).mask P = s.mask P := by
  unfold State.raiseWord
  repeat' (first | rfl | exact State.onBpd_held_mask hheld _ _ fun x => by split <;> rfl | split | simp [*])

@[simp] theorem State.raise_mask (hheld : P .held = true) (hflt : P .flt = true) (s : State) (unit cls cause addr : Nat) : (State.raise s unit cls cause addr).mask P = s.mask P := by simp [State.raise, *]

@[simp] theorem State.raiseBlock_mask (hheld : P .held = true) (hflt : P .flt = true) (s : State) (unit cls cause addr : Nat) : (State.raiseBlock s unit cls cause addr).mask P = s.mask P := by simp [State.raiseBlock, *]

@[simp] theorem State.answer_mask (hmbx : P .mbx = true) (s : State) (m : Nat) (r : Resp) : (State.answer s m r).mask P = s.mask P := by simp [State.answer, *]

@[simp] theorem State.draw_mask (hfreeNo : P .freeNo = true) (s : State) : (State.draw s).2.mask P = s.mask P := by simp [State.draw, *]

@[simp] theorem State.freeNat_mask (hfreeNo : P .freeNo = true) (s : State) : (State.freeNat s).2.mask P = s.mask P := by simp [State.freeNat, *]

/-! Machine/NetOps.lean -/

@[simp] theorem State.police_mask (hnet : P .net = true) (s : State) (t len : Nat) : (State.police s t len).2.mask P = s.mask P := by
  unfold State.police
  (repeat' split) <;> simp [*]

@[simp] theorem State.profile_mask (hnet : P .net = true) (hfreeNo : P .freeNo = true) (s : State) (q : QueueEntry) (col : Colour) (inp o sub c : Nat) (ecn : Nat) : (State.profile s q col inp o sub c ecn).2.mask P = s.mask P := by
  unfold State.profile
  repeat' (first | rfl | split | (refine (State.foldl_mask (fun _ _ => ?_) _ _).trans ?_) | simp [*])

@[simp] theorem State.pfcCheck_mask (hnet : P .net = true) (hout : P .out = true) (s : State) (port sub k : Nat) : (State.pfcCheck s port sub k).mask P = s.mask P := by
  unfold State.pfcCheck
  split <;> simp [*]

@[simp] theorem State.voqPush_mask (hnet : P .net = true) (s : State) (k : VoqKey) (f : VoqFrame) : (State.voqPush s k f).mask P = s.mask P := by simp [State.voqPush, *]

@[simp] theorem State.takeCells_mask (hnet : P .net = true) (hout : P .out = true) (s : State) (k : VoqKey) (len : Nat) (ce : Bool) (inSub prio : Nat) : (State.takeCells s k len ce inSub prio).mask P = s.mask P := by
  unfold State.takeCells
  repeat' (first | rfl | split | (refine (State.foldl_mask (fun _ _ => ?_) _ _).trans ?_) | simp [*])

@[simp] theorem State.admitFrame_mask (hnet : P .net = true) (hout : P .out = true) (hfreeNo : P .freeNo = true) (s : State) (k : VoqKey) (len policer ecn inSub prio : Nat) : (State.admitFrame s k len policer ecn inSub prio).mask P = s.mask P := by
  unfold State.admitFrame
  repeat' (first | rfl | split | (refine (State.foldl_mask (fun _ _ => ?_) _ _).trans ?_) | simp [*])

@[simp] theorem State.switchFrame_mask (hnet : P .net = true) (hout : P .out = true) (hfreeNo : P .freeNo = true) (s : State) (port : Nat) (fr : InFrame) : (State.switchFrame s port fr).mask P = s.mask P := by
  unfold State.switchFrame
  repeat' (first | rfl | split | (refine (State.foldl_mask (fun _ _ => ?_) _ _).trans ?_) | simp [*])

/-! Machine/CmdOps.lean -/

@[simp] theorem State.enqueue_mask (hsched : P .sched = true) (s : State) (input : Nat) (h : Head) : (State.enqueue s input h).mask P = s.mask P := by simp [State.enqueue, *]

@[simp] theorem State.deliverHeld_mask (hsched : P .sched = true) (s : State) : (State.deliverHeld s).mask P = s.mask P := by simp [State.deliverHeld, *]

@[simp] theorem State.returnCredit_mask (hsched : P .sched = true) (s : State) (lane : Option Nat) : (State.returnCredit s lane).mask P = s.mask P := by
  unfold State.returnCredit
  split <;> simp [*]

@[simp] theorem State.sendPkt_mask (hnet : P .net = true) (hout : P .out = true) (s : State) (q : Nat) (p : Pkt) (payload : Nat) : (State.sendPkt s q p payload).mask P = s.mask P := by simp [State.sendPkt, *]

@[simp] theorem State.sendCtl_mask (hrdma : P .rdma = true) (s : State) (q : Nat) (kind : CtlKind) (psn : BitVec 24) (syndrome : Nat) : (State.sendCtl s q kind psn syndrome).mask P = s.mask P := by simp [State.sendCtl, *]

@[simp] theorem State.sendAck_mask (hrdma : P .rdma = true) (s : State) (q : Nat) : (State.sendAck s q).mask P = s.mask P := by simp [State.sendAck, *]

@[simp] theorem State.takeSend_mask (hrdma : P .rdma = true) (s : State) (q : Nat) (isSend : Bool) (bytes : Nat) : (State.takeSend s q isSend bytes).mask P = s.mask P := by simp [State.takeSend, *]

@[simp] theorem State.pump_mask (hrdma : P .rdma = true) (hnet : P .net = true) (hout : P .out = true) (s : State) (q fuel : Nat) : (State.pump s q fuel).mask P = s.mask P := by
  induction fuel generalizing s with
  | zero => rfl
  | succ n ih =>
    unfold State.pump
    repeat' (first | rfl | split | simp [*])

@[simp] theorem State.sendCqe_mask (hrdma : P .rdma = true) (hnet : P .net = true) (hout : P .out = true) (s : State) (q : Nat) (c : Cqe) : (State.sendCqe s q c).mask P = s.mask P := by simp [State.sendCqe, *]

@[simp] theorem State.returnCqe_mask (hrdma : P .rdma = true) (hnet : P .net = true) (hout : P .out = true) (s : State) (q ord : Nat) (c : Cqe) : (State.returnCqe s q ord c).mask P = s.mask P := by simp [State.returnCqe, *]

@[simp] theorem State.sendAen_mask (hnvme : P .nvme = true) (hrdma : P .rdma = true) (hnet : P .net = true) (hout : P .out = true) (s : State) (c type info lid : Nat) : (State.sendAen s c type info lid).2.mask P = s.mask P := by
  unfold State.sendAen
  (repeat' split) <;> simp [*]

@[simp] theorem State.anaNotice_mask (hnvme : P .nvme = true) (hrdma : P .rdma = true) (hnet : P .net = true) (hout : P .out = true) (s : State) : (State.anaNotice s).mask P = s.mask P := by simp [State.anaNotice, *]

@[simp] theorem withAna_mask (hnvme : P .nvme = true) (hrdma : P .rdma = true) (hnet : P .net = true) (hout : P .out = true) (before after : State) : (withAna before after).mask P = after.mask P := by
  unfold withAna
  split <;> simp [*]

@[simp] theorem State.sdtChange_mask (hmgmt : P .mgmt = true) (hevqs : P .evqs = true) (hout : P .out = true) (s : State) (cause : Nat) : (State.sdtChange s cause).mask P = s.mask P := by simp [State.sdtChange, *]

@[simp] theorem State.setFn_mask (hfn : P .fn = true) (hnvme : P .nvme = true) (hrdma : P .rdma = true) (hnet : P .net = true) (hevqs : P .evqs = true) (hout : P .out = true) (s : State) (f : FnState) (cause : Nat) : (State.setFn s f cause).mask P = s.mask P := by simp [State.setFn, *]

@[simp] theorem State.setPair_mask (hnvme : P .nvme = true) (hrdma : P .rdma = true) (hnet : P .net = true) (hpair : P .pair = true) (hmgmt : P .mgmt = true) (hevqs : P .evqs = true) (hout : P .out = true) (s : State) (p : PairState) : (State.setPair s p).mask P = s.mask P := by simp [State.setPair, *]

@[simp] theorem State.countError_mask (hnvme : P .nvme = true) (s : State) (tenant sct sc : Nat) : (State.countError s tenant sct sc).mask P = s.mask P := by simp [State.countError, *]

@[simp] theorem State.reply_mask (hrdma : P .rdma = true) (hnet : P .net = true) (hmbx : P .mbx = true) (hout : P .out = true) (s : State) (ord : Nat) (c : Cmd) (sct sc : Nat) (dnr : Bool) (dw0 : Nat) : (State.reply s ord c sct sc dnr dw0).mask P = s.mask P := by
  unfold State.reply
  split <;> simp [*]

@[simp] theorem State.dropCmd_mask (hsched : P .sched = true) (s : State) (ord : Nat) : (State.dropCmd s ord).mask P = s.mask P := by
  unfold State.dropCmd
  split <;> simp [*]

@[simp] theorem State.finish_mask (hsched : P .sched = true) (hnvme : P .nvme = true) (hrdma : P .rdma = true) (hnet : P .net = true) (hmbx : P .mbx = true) (hout : P .out = true) (s : State) (ord sct sc : Nat) (dnr : Bool) (dw0 : Nat) : (State.finish s ord sct sc dnr dw0).mask P = s.mask P := by
  unfold State.finish
  split <;> simp [*]

@[simp] theorem State.finishOk_mask (hsched : P .sched = true) (hnvme : P .nvme = true) (hrdma : P .rdma = true) (hnet : P .net = true) (hmbx : P .mbx = true) (hout : P .out = true) (s : State) (ord : Nat) : (State.finishOk s ord).mask P = s.mask P := by simp [State.finishOk, *]

@[simp] theorem State.haltChain_mask (hsched : P .sched = true) (hlog : P .log = true) (hnvme : P .nvme = true) (hrdma : P .rdma = true) (hnet : P .net = true) (hmbx : P .mbx = true) (hout : P .out = true) (s : State) (ord : Nat) : (State.haltChain s ord).mask P = s.mask P := by
  unfold State.haltChain
  (repeat' split) <;> simp [*]

@[simp] theorem State.failCmd_mask (hsched : P .sched = true) (hlog : P .log = true) (hnvme : P .nvme = true) (hrdma : P .rdma = true) (hnet : P .net = true) (hmbx : P .mbx = true) (hout : P .out = true) (s : State) (ord sct sc : Nat) (dnr : Bool) : (State.failCmd s ord sct sc dnr).mask P = s.mask P := by simp [State.failCmd, *]

@[simp] theorem State.settle_mask (hsched : P .sched = true) (s : State) (ord : Nat) : (State.settle s ord).mask P = s.mask P := by simp [State.settle, *]

/-! Machine/Net.lean -/

@[simp] theorem State.onFront_mask (hnet : P .net = true) (s : State) (p : Nat) (g : FrontPort → FrontPort) : (State.onFront s p g).mask P = s.mask P := by simp [State.onFront, *]

@[simp] theorem State.recordFragment_mask (hnet : P .net = true) (s : State) (p : Nat) (pseq : Nat) (key : FragKey) (a : ClsAction) : (State.recordFragment s p pseq key a).mask P = s.mask P := by simp [State.recordFragment, *]

@[simp] theorem State.releaseParked_mask (hnet : P .net = true) (hout : P .out = true) (hfreeNo : P .freeNo = true) (s : State) (due : Parked → Bool) : (State.releaseParked s due).mask P = s.mask P := by simp [State.releaseParked, *]

@[simp] theorem State.rulesSettle_mask (hfn : P .fn = true) (hnet : P .net = true) (hmbx : P .mbx = true) (s : State) : (State.rulesSettle s).mask P = s.mask P := by
  unfold State.rulesSettle
  (repeat' split) <;> simp [*]

@[simp] theorem State.rulesBegin_mask (hfn : P .fn = true) (hnet : P .net = true) (hmbx : P .mbx = true) (hout : P .out = true) (s : State) (c : ClsSection) : (State.rulesBegin s c).mask P = s.mask P := by
  simp only [State.rulesBegin, State.rulesSettle_mask hfn hnet hmbx]
  refine (State.foldl_mask (fun s a => ?_) _ _).trans (State.onNet_mask hnet _ _)
  split
  · split
    · exact State.foldl_mask (fun s k => State.emit_mask hout s _) _ _
    · rfl
  · rfl

@[simp] theorem State.moveCell_mask (hnet : P .net = true) (hout : P .out = true) (s : State) (k : VoqKey) : (State.moveCell s k).mask P = s.mask P := by
  unfold State.moveCell
  (repeat' split) <;> simp [*]

@[simp] theorem State.takeOffer_mask (hnet : P .net = true) (hout : P .out = true) (hfreeNo : P .freeNo = true) (s : State) (b : Nat) : (State.takeOffer s b).mask P = s.mask P := by
  unfold State.takeOffer
  repeat' (first | rfl | split | (refine (State.foldl_mask (fun _ _ => ?_) _ _).trans ?_) | simp [*])

@[simp] theorem State.takeControl_mask (hrdma : P .rdma = true) (hnet : P .net = true) (hout : P .out = true) (hfreeNo : P .freeNo = true) (s : State) (b : Nat) : (State.takeControl s b).2.mask P = s.mask P := by
  unfold State.takeControl
  split <;> simp [*]

@[simp] theorem State.takeStorage_mask (hrdma : P .rdma = true) (hnet : P .net = true) (hout : P .out = true) (hfreeNo : P .freeNo = true) (s : State) (b : Nat) : (State.takeStorage s b).mask P = s.mask P := by
  unfold State.takeStorage
  have h : (s.takeControl b).2.mask P = s.mask P := by simp [*]
  split <;> (rename_i heq; rw [heq] at h; simp_all)

/-! Machine/SheetOps.lean -/

@[simp] theorem State.setMod_mask (hsheet : P .sheet = true) (hevqs : P .evqs = true) (hout : P .out = true) (s : State) (b : Nat) (m : ModState) : (State.setMod s b m).mask P = s.mask P := by simp [State.setMod, *]

theorem State.issue_mask (hsheet : P .sheet = true) (hout : P .out = true) {s t : State} {b : Nat} {op : SheetOp} {value : BitVec 64} {offsets : List Int} {frames : List Payload} (h : s.issue b op value offsets frames = some t) : t.mask P = s.mask P := by
  simp only [State.issue] at h
  split at h
  · have := Option.some.inj h
    subst this
    split <;> simp [*]
  · cases h

@[simp] theorem State.issue_getD_mask (hsheet : P .sheet = true) (hout : P .out = true) (s : State) (b : Nat) (op : SheetOp) (value : BitVec 64) (offsets : List Int) (frames : List Payload) : ((s.issue b op value offsets frames).getD s).mask P = s.mask P := by
  cases h : s.issue b op value offsets frames with
  | none => rfl
  | some t => exact State.issue_mask hsheet hout h

@[simp] theorem State.ask_mask (hsheet : P .sheet = true) (hout : P .out = true) (s : State) (b code arg : Nat) (value : BitVec 64) : (State.ask s b code arg value).mask P = s.mask P := by
  unfold State.ask
  cases h : s.issue b { s.mkOp code 0xFF 0 false .other with arg := arg } value [] [] with
  | none => rfl
  | some t => exact State.issue_mask (by assumption) (by assumption) h

@[simp] theorem State.sendFence_mask (hsheet : P .sheet = true) (hevqs : P .evqs = true) (hout : P .out = true) (s : State) (b : Nat) : (State.sendFence s b).mask P = s.mask P := by
  unfold State.sendFence
  split
  · rename_i t h
    simp [*, State.issue_mask (by assumption) (by assumption) h]
  · simp [*]

@[simp] theorem State.chargeBack_mask (hsched : P .sched = true) (s : State) (lclass u : Nat) : (State.chargeBack s lclass u).mask P = s.mask P := by
  unfold State.chargeBack
  split <;> simp [*]

@[simp] theorem State.enterReb_mask (hreb : P .reb = true) (hevqs : P .evqs = true) (hout : P .out = true) (s : State) (r : RebuildState) : (State.enterReb s r).mask P = s.mask P := by simp [State.enterReb, *]

@[simp] theorem State.setReb_mask (hreb : P .reb = true) (hevqs : P .evqs = true) (hout : P .out = true) (s : State) (r : RebuildState) : (State.setReb s r).mask P = s.mask P := by simp [State.setReb, *]

@[simp] theorem State.addLoss_mask (hlog : P .log = true) (hreb : P .reb = true) (hevqs : P .evqs = true) (hout : P .out = true) (s : State) (x : LossItem) : (State.addLoss s x).mask P = s.mask P := by
  unfold State.addLoss
  (repeat' split) <;> simp [*]

/-! Machine/MapOps.lean -/

@[simp] theorem State.onGmd_mask (hmap : P .map = true) (s : State) (mpn : Nat) (g : GmdEntry → GmdEntry) : (State.onGmd s mpn g).mask P = s.mask P := by simp [State.onGmd, *]

@[simp] theorem State.onSlot_mask (hmap : P .map = true) (s : State) (mpn : Nat) (g : PoolSlot → PoolSlot) : (State.onSlot s mpn g).mask P = s.mask P := by simp [State.onSlot, *]

@[simp] theorem State.evict_mask (hmap : P .map = true) (s : State) : (State.evict s).2.mask P = s.mask P := by
  unfold State.evict
  repeat' (first | rfl | split | (refine (State.foldl_mask (fun _ _ => ?_) _ _).trans ?_) | simp [*])

@[simp] theorem State.freeSlot_mask (hmap : P .map = true) (s : State) (mpn : Nat) : (State.freeSlot s mpn).2.mask P = s.mask P := by
  unfold State.freeSlot
  (repeat' split) <;> simp [*]

@[simp] theorem State.takeSlot_mask (hmap : P .map = true) (s : State) (mpn : Nat) (p : PoolSlot) : (State.takeSlot s mpn p).2.mask P = s.mask P := by
  unfold State.takeSlot
  repeat' (first | rfl | split | (refine (State.foldl_mask (fun _ _ => ?_) _ _).trans ?_) | simp [*])

@[simp] theorem State.blankPage_mask (hmap : P .map = true) (s : State) (mpn : Nat) : (State.blankPage s mpn).2.mask P = s.mask P := by simp [State.blankPage, *]

@[simp] theorem State.putLine_mask (htc : P .tc = true) (s : State) (set way : Nat) (l : TcLine) : (State.putLine s set way l).mask P = s.mask P := by simp [State.putLine, *]

@[simp] theorem State.pin_mask (hmap : P .map = true) (s : State) (mpn : Nat) (up : Bool) : (State.pin s mpn up).mask P = s.mask P := by simp [State.pin, *]

@[simp] theorem State.writeBack_mask (hmap : P .map = true) (htc : P .tc = true) (s : State) (set way : Nat) : (State.writeBack s set way).mask P = s.mask P := by simp [State.writeBack, *]

@[simp] theorem State.dropLine_mask (hmap : P .map = true) (htc : P .tc = true) (s : State) (set way : Nat) : (State.dropLine s set way).mask P = s.mask P := by simp [State.dropLine, *]

@[simp] theorem State.writeBackPage_mask (hmap : P .map = true) (htc : P .tc = true) (s : State) (mpn : Nat) : (State.writeBackPage s mpn).mask P = s.mask P := by
  unfold State.writeBackPage
  exact State.foldl_mask (fun s a => by split <;> simp [*]) _ _

theorem State.victim_mask (htc : P .tc = true) {s t : State} {set : Nat} {ok : Nat → Bool} {w : Nat} (h : s.victim set ok = some (w, t)) : t.mask P = s.mask P := by
  simp only [State.victim] at h
  split at h
  · cases h; rfl
  · split at h
    · cases h
    · obtain ⟨-, rfl⟩ := Prod.mk.inj (Option.some.inj h)
      split
      · rfl
      · exact State.foldl_mask (fun s a => by simp [*]) _ _

@[simp] theorem State.startFill_mask (hmap : P .map = true) (htc : P .tc = true) (s : State) (la ns : Nat) (streaming lock : Bool) (parked : Option Nat) : (State.startFill s la ns streaming lock parked).mask P = s.mask P := by
  simp only [State.startFill]
  split
  · simp [*]
  · split
    · split
      · rfl
      · simp [*]
    · split
      · simp [*]
      · rename_i w s1 hp
        have hv : s1.mask P = s.mask P := by
          split at hp
          · rename_i r hr
            cases hp
            exact State.victim_mask (by assumption) hr
          · split at hp
            · exact State.victim_mask (by assumption) hp
            · cases hp
        simp [*]

@[simp] theorem State.markFetch_mask (hmap : P .map = true) (s : State) (mpn : Nat) : (State.markFetch s mpn).mask P = s.mask P := by simp [State.markFetch, *]

@[simp] theorem State.touch_mask (htc : P .tc = true) (s : State) (ns lba : Nat) (streaming : Bool) : (State.touch s ns lba streaming).mask P = s.mask P := by
  unfold State.touch
  repeat' (first | rfl | split | (refine (State.foldl_mask (fun _ _ => ?_) _ _).trans ?_) | simp [*])

@[simp] theorem State.retAppend_mask (hcip : P .cip = true) (hevqs : P .evqs = true) (hout : P .out = true) (s : State) (ns minute wseq : Nat) : (State.retAppend s ns minute wseq).mask P = s.mask P := by
  unfold State.retAppend
  split <;> simp [*]

@[simp] theorem State.retCount_mask (hcip : P .cip = true) (s : State) (ns wseq n : Nat) : (State.retCount s ns wseq n).mask P = s.mask P := by
  unfold State.retCount
  split <;> simp [*]

@[simp] theorem State.keyEmpty_mask (hcip : P .cip = true) (s : State) (k : Nat) : (State.keyEmpty s k).mask P = s.mask P := by simp [State.keyEmpty, *]

@[simp] theorem State.keyCount_mask (hcip : P .cip = true) (s : State) (k : Nat) (up : Bool) : (State.keyCount s k up).mask P = s.mask P := by simp [State.keyCount, *]

@[simp] theorem State.onUnit_mask (hlog : P .log = true) (s : State) (u : Nat) (g : UnitRec → UnitRec) : (State.onUnit s u g).mask P = s.mask P := by simp [State.onUnit, *]

@[simp] theorem State.settleEmptied_mask (hlog : P .log = true) (s : State) (from_ : Nat) : (State.settleEmptied s from_).mask P = s.mask P := by simp [State.settleEmptied, *]

@[simp] theorem State.countLoc_mask (hlog : P .log = true) (hcip : P .cip = true) (s : State) (e : MapEntry) (up : Bool) (key : Option Nat) : (State.countLoc s e up key).mask P = s.mask P := by
  unfold State.countLoc
  (repeat' split) <;> simp [*]

@[simp] theorem State.putEntry_mask (hmap : P .map = true) (htc : P .tc = true) (s : State) (ns lba : Nat) (e : MapEntry) : (State.putEntry s ns lba e).mask P = s.mask P := by
  unfold State.putEntry
  repeat' (first | rfl | split | (refine (State.foldl_mask (fun _ _ => ?_) _ _).trans ?_) | simp [*])

@[simp] theorem State.readyPage_mask (hmap : P .map = true) (s : State) (mpn : Nat) : (State.readyPage s mpn).2.mask P = s.mask P := by
  unfold State.readyPage
  repeat' (first | rfl | split | (refine (State.foldl_mask (fun _ _ => ?_) _ _).trans ?_) | simp [*])

@[simp] theorem State.readyPages_mask (hmap : P .map = true) (s : State) {fetch : State → Nat → State} (hf : ∀ s m, (fetch s m).mask P = s.mask P) (pages : List Nat) : (State.readyPages s fetch pages).2.mask P = s.mask P := by
  unfold State.readyPages
  dsimp only
  refine (State.foldl_mask (fun _ _ => by simp [*]) _ _).trans (State.foldl_mask2 (fun a x => ?_) _ _)
  have h := State.readyPage_mask hmap a.2.2 x
  (repeat' split) <;> simp [*]

@[simp] theorem State.applyEntry_mask (hmap : P .map = true) (htc : P .tc = true) (hlog : P .log = true) (hcip : P .cip = true) (s : State) (ns lba : Nat) (e : MapEntry) (key : Option Nat) : (State.applyEntry s ns lba e key).mask P = s.mask P := by simp [State.applyEntry, *]

@[simp] theorem State.stampPage_mask (hmap : P .map = true) (s : State) (mpn jpos : Nat) : (State.stampPage s mpn jpos).mask P = s.mask P := by simp [State.stampPage, *]

@[simp] theorem State.installPage_mask (hmap : P .map = true) (s : State) (mpn : Nat) (loc : Loc) (jpos : Nat) (entries : Tab MapEntry) : (State.installPage s mpn loc jpos entries).2.mask P = s.mask P := by simp [State.installPage, *]

/-! Machine/LogOps.lean -/

@[simp] theorem State.checkSpace_mask (hfn : P .fn = true) (hevqs : P .evqs = true) (hout : P .out = true) (s : State) : (State.checkSpace s).mask P = s.mask P := by simp [State.checkSpace, *]

@[simp] theorem State.checkStrike_mask (hlog : P .log = true) (hevqs : P .evqs = true) (hout : P .out = true) (s : State) : (State.checkStrike s).mask P = s.mask P := by simp [State.checkStrike, *]

@[simp] theorem State.appendRec_mask (hlog : P .log = true) (hout : P .out = true) (s : State) (r : JRec) : (State.appendRec s r).mask P = s.mask P := by simp [State.appendRec, *]

@[simp] theorem State.onStream_mask (hlog : P .log = true) (s : State) (k : Nat) (g : Stream → Stream) : (State.onStream s k g).mask P = s.mask P := by simp [State.onStream, *]

@[simp] theorem State.openUnit_mask (hlog : P .log = true) (hreb : P .reb = true) (hmed : P .med = true) (s : State) (k u : Nat) (start : Nat) : (State.openUnit s k u start).mask P = s.mask P := by simp [State.openUnit, *]

@[simp] theorem State.addExc_mask (hreb : P .reb = true) (s : State) (u : Nat) (e : ExcEntry) : (State.addExc s u e).mask P = s.mask P := by simp [State.addExc, *]

@[simp] theorem State.tryXor_mask (hlog : P .log = true) (hsheet : P .sheet = true) (hout : P .out = true) (s : State) (u b row : Nat) : (State.tryXor s u b row).mask P = s.mask P := by
  unfold State.tryXor
  repeat' (first | rfl | (rename_i h; first | (simp [*, State.issue_mask hsheet hout h]; done) | (simp [*, State.issueSys_mask hsheet hout h]; done)) | split | (refine (State.foldl_mask (fun _ _ => ?_) _ _).trans ?_) | simp [*])

@[simp] theorem State.intoRow_mask (hlog : P .log = true) (hsheet : P .sheet = true) (hout : P .out = true) (s : State) (u : Nat) (page : Loc) (payloads : List Payload) : (State.intoRow s u page payloads).mask P = s.mask P := by simp [State.intoRow, *]

@[simp] theorem State.firstErase_mask (hsheet : P .sheet = true) (hout : P .out = true) (s : State) (b die block : Nat) : (State.firstErase s b die block).2.mask P = s.mask P := by
  simp only [State.firstErase]
  split
  · split <;> simp [*]
  · rfl

@[simp] theorem State.kickPads_mask (hlog : P .log = true) (hsheet : P .sheet = true) (hout : P .out = true) (s : State) : (State.kickPads s).mask P = s.mask P := by
  unfold State.kickPads
  repeat' (first | with_reducible rfl | (rename_i h; first | (simp [*, State.issue_mask hsheet hout h]; done) | (simp [*, State.issueSys_mask hsheet hout h]; done)) | split | (refine (State.foldl_mask (fun _ _ => ?_) _ _).trans ?_) | simp [*])

@[simp] theorem State.tryMember_mask (hlog : P .log = true) (hsheet : P .sheet = true) (hout : P .out = true) (s : State) (id r : Nat) : (State.tryMember s id r).mask P = s.mask P := by
  unfold State.tryMember
  repeat' (first | rfl | (rename_i h; first | (simp [*, State.issue_mask hsheet hout h]; done) | (simp [*, State.issueSys_mask hsheet hout h]; done)) | split | (refine (State.foldl_mask (fun _ _ => ?_) _ _).trans ?_) | simp [*])

@[simp] theorem State.kickMembers_mask (hlog : P .log = true) (hsheet : P .sheet = true) (hout : P .out = true) (s : State) : (State.kickMembers s).mask P = s.mask P := by
  unfold State.kickMembers
  repeat' (first | with_reducible rfl | (rename_i h; first | (simp [*, State.issue_mask hsheet hout h]; done) | (simp [*, State.issueSys_mask hsheet hout h]; done)) | split | (refine (State.foldl_mask (fun _ _ => ?_) _ _).trans ?_) | simp [*])

@[simp] theorem State.padRow_mask (hlog : P .log = true) (hsheet : P .sheet = true) (hout : P .out = true) (s : State) (u b n : Nat) : (State.padRow s u b n).mask P = s.mask P := by
  induction n generalizing s with
  | zero => rfl
  | succ n ih =>
    simp only [State.padRow]
    repeat' (first | rfl | (rename_i h; simp [*, State.issue_mask hsheet hout h]; done) | split | simp [*])

@[simp] theorem State.finishRows_mask (hlog : P .log = true) (hsheet : P .sheet = true) (hout : P .out = true) (s : State) (u : Nat) : (State.finishRows s u).mask P = s.mask P := by simp [State.finishRows, *]

@[simp] theorem State.closeUnit_mask (hlog : P .log = true) (hsheet : P .sheet = true) (hout : P .out = true) (s : State) (k : Nat) : (State.closeUnit s k).mask P = s.mask P := by
  unfold State.closeUnit
  split <;> simp [*]

@[simp] theorem State.needUnit_mask (hlog : P .log = true) (hreb : P .reb = true) (hmed : P .med = true) (s : State) (k : Nat) : (State.needUnit s k).2.mask P = s.mask P := by
  unfold State.needUnit
  (repeat' split) <;> simp [*]

@[simp] theorem State.sjShip_mask (hout : P .out = true) (s : State) (r : SjRec) : (State.sjShip s r).mask P = s.mask P := by simp [State.sjShip, *]

@[simp] theorem State.takeMembers_mask (hlog : P .log = true) (hreb : P .reb = true) (hsheet : P .sheet = true) (hout : P .out = true) (s : State) (k u skip : Nat) (pages : List Loc) (secs : List BufSector) (padded : Bool) : (State.takeMembers s k u skip pages secs padded).mask P = s.mask P := by simp [State.takeMembers, *]

@[simp] theorem State.closeStripe_mask (hfn : P .fn = true) (hlog : P .log = true) (hreb : P .reb = true) (hmed : P .med = true) (hsheet : P .sheet = true) (hevqs : P .evqs = true) (hout : P .out = true) (s : State) (k : Nat) : (State.closeStripe s k).mask P = s.mask P := by
  unfold State.closeStripe
  repeat' (first | rfl | split | (refine (State.foldl_mask (fun _ _ => ?_) _ _).trans ?_) | simp [*])

@[simp] theorem State.placeSectors_mask (hfn : P .fn = true) (hlog : P .log = true) (hreb : P .reb = true) (hmed : P .med = true) (hsheet : P .sheet = true) (hevqs : P .evqs = true) (hout : P .out = true) (s : State) (k : Nat) (secs : List BufSector) : (State.placeSectors s k secs).mask P = s.mask P := by simp [State.placeSectors, *]

@[simp] theorem State.closeFull_mask (hfn : P .fn = true) (hlog : P .log = true) (hreb : P .reb = true) (hmed : P .med = true) (hsheet : P .sheet = true) (hevqs : P .evqs = true) (hout : P .out = true) (s : State) : (State.closeFull s).mask P = s.mask P := by simp [State.closeFull, *]

@[simp] theorem State.closeAll_mask (hfn : P .fn = true) (hlog : P .log = true) (hreb : P .reb = true) (hmed : P .med = true) (hsheet : P .sheet = true) (hevqs : P .evqs = true) (hout : P .out = true) (s : State) : (State.closeAll s).mask P = s.mask P := by simp [State.closeAll, *]

@[simp] theorem State.writeJournalPage_mask (hfn : P .fn = true) (hlog : P .log = true) (hreb : P .reb = true) (hmed : P .med = true) (hsheet : P .sheet = true) (hevqs : P .evqs = true) (hout : P .out = true) (s : State) : (State.writeJournalPage s).mask P = s.mask P := by
  unfold State.writeJournalPage
  repeat' (first | rfl | split | (refine (State.foldl_mask (fun _ _ => ?_) _ _).trans ?_) | simp [*])

@[simp] theorem State.fullPages_mask (hfn : P .fn = true) (hlog : P .log = true) (hreb : P .reb = true) (hmed : P .med = true) (hsheet : P .sheet = true) (hevqs : P .evqs = true) (hout : P .out = true) (s : State) : (State.fullPages s).mask P = s.mask P := by simp [State.fullPages, *]

@[simp] theorem State.flushTail_mask (hfn : P .fn = true) (hlog : P .log = true) (hreb : P .reb = true) (hmed : P .med = true) (hsheet : P .sheet = true) (hevqs : P .evqs = true) (hout : P .out = true) (n : Nat) (s : State) : (State.flushTail n s).mask P = s.mask P := by
  induction n generalizing s with
  | zero => simp [State.flushTail, *]
  | succ n ih => simp [State.flushTail, *]

@[simp] theorem State.journal_mask (hfn : P .fn = true) (hlog : P .log = true) (hreb : P .reb = true) (hmed : P .med = true) (hsheet : P .sheet = true) (hevqs : P .evqs = true) (hout : P .out = true) (s : State) (r : JRec) : (State.journal s r).mask P = s.mask P := by simp [State.journal, *]

theorem State.issueSys_mask (hsheet : P .sheet = true) (hout : P .out = true) {s t : State} {b die page : Nat} {user : OpFor} {frames : List Payload} (h : s.issueSys b die page user frames = some t) : t.mask P = s.mask P := by
  simp only [State.issueSys] at h
  rw [State.issue_mask hsheet hout h]
  split <;> simp [*]

@[simp] theorem State.trySj_mask (hlog : P .log = true) (hsheet : P .sheet = true) (hout : P .out = true) (s : State) : (State.trySj s).mask P = s.mask P := by
  unfold State.trySj
  repeat' (first | rfl | (rename_i h; first | (simp [*, State.issue_mask hsheet hout h]; done) | (simp [*, State.issueSys_mask hsheet hout h]; done)) | split | (refine (State.foldl_mask (fun _ _ => ?_) _ _).trans ?_) | simp [*])

@[simp] theorem State.moveRing_mask (hlog : P .log = true) (hsheet : P .sheet = true) (hout : P .out = true) (s : State) (b : Nat) : (State.moveRing s b).mask P = s.mask P := by simp [State.moveRing, *]

@[simp] theorem State.closeSjPage_mask (hlog : P .log = true) (hsheet : P .sheet = true) (hout : P .out = true) (s : State) : (State.closeSjPage s).mask P = s.mask P := by
  unfold State.closeSjPage
  split <;> simp [*]

@[simp] theorem State.sjWrite_mask (hlog : P .log = true) (hsheet : P .sheet = true) (hout : P .out = true) (s : State) (r : SjRec) : (State.sjWrite s r).mask P = s.mask P := by
  unfold State.sjWrite
  repeat' (first | rfl | split | (refine (State.foldl_mask (fun _ _ => ?_) _ _).trans ?_) | simp [*])

@[simp] theorem State.tryHalf_mask (hlog : P .log = true) (hsheet : P .sheet = true) (hout : P .out = true) (s : State) : (State.tryHalf s).mask P = s.mask P := by
  unfold State.tryHalf
  split <;> simp [*]

@[simp] theorem State.layRow_mask (hlog : P .log = true) (s : State) (i : Nat) (r : StrikeRow) : (State.layRow s i r).mask P = s.mask P := by
  unfold State.layRow
  repeat' (first | with_reducible rfl | split | (refine (State.foldl_mask (fun _ _ => ?_) _ _).trans ?_) | simp [*])

@[simp] theorem State.issueStrike_mask (hsheet : P .sheet = true) (hout : P .out = true) (s : State) (b : Nat) (l : Loc) (header : Nat) (frames : List Payload) : (State.issueStrike s b l header frames).mask P = s.mask P := by simp [State.issueStrike, *]

@[simp] theorem State.issueRow_mask (hsheet : P .sheet = true) (hout : P .out = true) (s : State) (r : StrikeRow) : (State.issueRow s r).mask P = s.mask P := by
  unfold State.issueRow
  (repeat' split) <;> simp [*]

@[simp] theorem State.strikeDone_mask (hlog : P .log = true) (hout : P .out = true) (s : State) : (State.strikeDone s).mask P = s.mask P := by simp [State.strikeDone, *]

@[simp] theorem State.strikeResetDies_mask (hlog : P .log = true) (hsheet : P .sheet = true) (hout : P .out = true) (s : State) : (State.strikeResetDies s).mask P = s.mask P := by
  unfold State.strikeResetDies
  repeat' (first | with_reducible rfl | (rename_i h; first | (simp [*, State.issue_mask hsheet hout h]; done) | (simp [*, State.issueSys_mask hsheet hout h]; done)) | split | (refine (State.foldl_mask (fun _ _ => ?_) _ _).trans ?_) | simp [*])

@[simp] theorem State.strikeKick_mask (hlog : P .log = true) (hsheet : P .sheet = true) (hout : P .out = true) (s : State) : (State.strikeKick s).mask P = s.mask P := by
  unfold State.strikeKick
  repeat' (first | with_reducible rfl | split | (refine (State.foldl_mask (fun _ _ => ?_) _ _).trans ?_) | simp [*])

@[simp] theorem State.strikeStep_mask (hlog : P .log = true) (hsheet : P .sheet = true) (hout : P .out = true) (s : State) (b : Nat) (op : SheetOp) : (State.strikeStep s b op).mask P = s.mask P := by
  unfold State.strikeStep
  (repeat' split) <;> simp [*]

@[simp] theorem State.strikeRedo_mask (hlog : P .log = true) (hsheet : P .sheet = true) (hout : P .out = true) (s : State) (b : Nat) (op : SheetOp) : (State.strikeRedo s b op).mask P = s.mask P := by
  unfold State.strikeRedo
  (repeat' split) <;> simp [*]

@[simp] theorem State.settleChains_mask (hlog : P .log = true) (s : State) (before : List JSlot) : (State.settleChains s before).mask P = s.mask P := by simp [State.settleChains, *]

@[simp] theorem State.settlePages_mask (hmap : P .map = true) (s : State) (before : List JSlot) : (State.settlePages s before).mask P = s.mask P := by
  unfold State.settlePages
  repeat' (first | rfl | split | (refine (State.foldl_mask (fun _ _ => ?_) _ _).trans ?_) | simp [*])

@[simp] theorem State.settleJournal_mask (hmap : P .map = true) (hlog : P .log = true) (hevqs : P .evqs = true) (hout : P .out = true) (s : State) : (State.settleJournal s).mask P = s.mask P := by simp [State.settleJournal, *]

@[simp] theorem State.noteAck_mask (hlog : P .log = true) (s : State) (c : Cmd) : (State.noteAck s c).mask P = s.mask P := by
  unfold State.noteAck
  split <;> simp [*]

@[simp] theorem State.tryAck_mask (hsched : P .sched = true) (hlog : P .log = true) (hnvme : P .nvme = true) (hrdma : P .rdma = true) (hnet : P .net = true) (hmbx : P .mbx = true) (hout : P .out = true) (s : State) (ord : Nat) : (State.tryAck s ord).mask P = s.mask P := by
  unfold State.tryAck
  split <;> simp [*]

@[simp] theorem State.tryFlush_mask (hsched : P .sched = true) (hnvme : P .nvme = true) (hrdma : P .rdma = true) (hnet : P .net = true) (hmbx : P .mbx = true) (hout : P .out = true) (s : State) (ord : Nat) : (State.tryFlush s ord).mask P = s.mask P := by
  unfold State.tryFlush
  split <;> simp [*]

@[simp] theorem State.tryAll_mask (hsched : P .sched = true) (hlog : P .log = true) (hnvme : P .nvme = true) (hrdma : P .rdma = true) (hnet : P .net = true) (hmbx : P .mbx = true) (hout : P .out = true) (s : State) : (State.tryAll s).mask P = s.mask P := by simp [State.tryAll, *]

/-! Machine/MediaOps.lean -/

@[simp] theorem State.onBlock_mask (hmed : P .med = true) (s : State) (b die block : Nat) (g : BlockRec → BlockRec) : (State.onBlock s b die block g).mask P = s.mask P := by simp [State.onBlock, *]

@[simp] theorem State.monitor_mask (hmed : P .med = true) (hevqs : P .evqs = true) (hout : P .out = true) (s : State) (source row b die value : Nat) (past back : Bool) : (State.monitor s source row b die value past back).mask P = s.mask P := by simp [State.monitor, *]

@[simp] theorem State.checkBay_mask (hmed : P .med = true) (hevqs : P .evqs = true) (hout : P .out = true) (s : State) (b : Nat) : (State.checkBay s b).mask P = s.mask P := by simp [State.checkBay, *]

@[simp] theorem State.queueRewrite_mask (hlog : P .log = true) (hreb : P .reb = true) (hevqs : P .evqs = true) (hout : P .out = true) (s : State) (b die block : Nat) : (State.queueRewrite s b die block).mask P = s.mask P := by
  unfold State.queueRewrite
  (repeat' split) <;> simp [*]

@[simp] theorem State.countRead_mask (hlog : P .log = true) (hreb : P .reb = true) (hmed : P .med = true) (hevqs : P .evqs = true) (hout : P .out = true) (s : State) (b die block : Nat) : (State.countRead s b die block).mask P = s.mask P := by
  unfold State.countRead
  split <;> simp [*]

@[simp] theorem State.mediaRec_mask (hmed : P .med = true) (s : State) (b die block kind row unit : Nat) : (State.mediaRec s b die block kind row unit).mask P = s.mask P := by simp [State.mediaRec, *]

@[simp] theorem State.loseModule_mask (hlog : P .log = true) (hreb : P .reb = true) (hsheet : P .sheet = true) (hevqs : P .evqs = true) (hout : P .out = true) (s : State) (b : Nat) : (State.loseModule s b).mask P = s.mask P := by simp [State.loseModule, *]

@[simp] theorem State.groupRecs_mask (hmed : P .med = true) (s : State) (b die kind : Nat) (row : State → Nat → Nat) : (State.groupRecs s b die kind row).mask P = s.mask P := by
  unfold State.groupRecs
  (repeat' split) <;> simp [*]

@[simp] theorem State.retireDie_mask (hfn : P .fn = true) (hlog : P .log = true) (hreb : P .reb = true) (hmed : P .med = true) (hsheet : P .sheet = true) (hevqs : P .evqs = true) (hout : P .out = true) (s : State) (b die : Nat) : (State.retireDie s b die).mask P = s.mask P := by simp [State.retireDie, *]

@[simp] theorem State.growBad_mask (hfn : P .fn = true) (hlog : P .log = true) (hreb : P .reb = true) (hmed : P .med = true) (hsheet : P .sheet = true) (hevqs : P .evqs = true) (hout : P .out = true) (s : State) (b die block kind row : Nat) : (State.growBad s b die block kind row).mask P = s.mask P := by simp [State.growBad, *]

@[simp] theorem State.rowWithoutXor_mask (hlog : P .log = true) (hmed : P .med = true) (hevqs : P .evqs = true) (hout : P .out = true) (s : State) (u b row : Nat) : (State.rowWithoutXor s u b row).mask P = s.mask P := by simp [State.rowWithoutXor, *]

@[simp] theorem State.dropProbes_mask (hmed : P .med = true) (s : State) (b die block : Nat) : (State.dropProbes s b die block).mask P = s.mask P := by simp [State.dropProbes, *]

@[simp] theorem State.blockErased_mask (hmed : P .med = true) (s : State) (b die block : Nat) : (State.blockErased s b die block).mask P = s.mask P := by simp [State.blockErased, *]

@[simp] theorem State.blockProgrammed_mask (hmed : P .med = true) (s : State) (b die block : Nat) : (State.blockProgrammed s b die block).mask P = s.mask P := by simp [State.blockProgrammed, *]

/-! Machine/SysPages.lean -/

@[simp] theorem State.writeSys_mask (hfn : P .fn = true) (hmap : P .map = true) (hlog : P .log = true) (hreb : P .reb = true) (hmed : P .med = true) (hsheet : P .sheet = true) (hevqs : P .evqs = true) (hout : P .out = true) (s : State) (l : List (Nat × Nat)) : (State.writeSys s l).mask P = s.mask P := by simp [State.writeSys, *]

@[simp] theorem State.sysAgain_mask (hmap : P .map = true) (s : State) (mpn : Nat) : (State.sysAgain s mpn).mask P = s.mask P := by simp [State.sysAgain, *]

@[simp] theorem State.finishSys_mask (hfn : P .fn = true) (hlog : P .log = true) (hreb : P .reb = true) (hmed : P .med = true) (hsheet : P .sheet = true) (hevqs : P .evqs = true) (hout : P .out = true) (s : State) : (State.finishSys s).mask P = s.mask P := by simp [State.finishSys, *]

@[simp] theorem State.pushDir_mask (hfn : P .fn = true) (hmap : P .map = true) (hlog : P .log = true) (hreb : P .reb = true) (hmed : P .med = true) (hsheet : P .sheet = true) (hevqs : P .evqs = true) (hout : P .out = true) (s : State) : (State.pushDir s).mask P = s.mask P := by simp [State.pushDir, *]

@[simp] theorem State.pushKey_mask (hfn : P .fn = true) (hmap : P .map = true) (hlog : P .log = true) (hreb : P .reb = true) (hmed : P .med = true) (hsheet : P .sheet = true) (hevqs : P .evqs = true) (hout : P .out = true) (s : State) (slot : Nat) (k : KeySlot) : (State.pushKey s slot k).mask P = s.mask P := by
  unfold State.pushKey
  split <;> simp [*]

@[simp] theorem State.keysFrom_mask (hcip : P .cip = true) (s : State) (pages : Tab Nat) : (State.keysFrom s pages).mask P = s.mask P := by simp [State.keysFrom, *]

@[simp] theorem State.retFrom_mask (hcip : P .cip = true) (s : State) (pages : Tab Nat) : (State.retFrom s pages).mask P = s.mask P := by simp [State.retFrom, *]

@[simp] theorem State.mediaFrom_mask (hmed : P .med = true) (s : State) (pages : Tab Nat) : (State.mediaFrom s pages).mask P = s.mask P := by simp [State.mediaFrom, *]

@[simp] theorem State.lossFromMedia_mask (hreb : P .reb = true) (s : State) : (State.lossFromMedia s).mask P = s.mask P := by simp [State.lossFromMedia, *]

@[simp] theorem State.tookSysPage_mask (hcip : P .cip = true) (hmap : P .map = true) (hreb : P .reb = true) (hmed : P .med = true) (s : State) (mpn : Nat) (d : Sector) : (State.tookSysPage s mpn d).mask P = s.mask P := by simp [State.tookSysPage, *]

/-! Machine/ReadOps.lean -/

@[simp] theorem State.setResult_mask (hsched : P .sched = true) (s : State) (ord off : Nat) (r : RdResult) : (State.setResult s ord off r).mask P = s.mask P := by simp [State.setResult, *]

@[simp] theorem State.queueProbe_mask (hmed : P .med = true) (s : State) (r : CwRead) : (State.queueProbe s r).mask P = s.mask P := by simp [State.queueProbe, *]

@[simp] theorem State.endProbe_mask (hmed : P .med = true) (s : State) (l : Loc) : (State.endProbe s l).mask P = s.mask P := by simp [State.endProbe, *]

@[simp] theorem State.tryRead_mask (hlog : P .log = true) (hreb : P .reb = true) (hmed : P .med = true) (hrd : P .rd = true) (hsheet : P .sheet = true) (hevqs : P .evqs = true) (hout : P .out = true) (s : State) (job : Nat) : (State.tryRead s job).mask P = s.mask P := by
  unfold State.tryRead
  repeat' (first | rfl | (rename_i h; first | (simp [*, State.issue_mask hsheet hout h]; done) | (simp [*, State.issueSys_mask hsheet hout h]; done)) | split | (refine (State.foldl_mask (fun _ _ => ?_) _ _).trans ?_) | simp [*])

@[simp] theorem State.toDecode_mask (hrd : P .rd = true) (s : State) (job b : Nat) : (State.toDecode s job b).mask P = s.mask P := by simp [State.toDecode, *]

@[simp] theorem State.kickDecodes_mask (hrd : P .rd = true) (s : State) : (State.kickDecodes s).mask P = s.mask P := by simp [State.kickDecodes, *]

@[simp] theorem State.kickReads_mask (hlog : P .log = true) (hreb : P .reb = true) (hmed : P .med = true) (hrd : P .rd = true) (hsheet : P .sheet = true) (hevqs : P .evqs = true) (hout : P .out = true) (s : State) : (State.kickReads s).mask P = s.mask P := by simp [State.kickReads, *]

@[simp] theorem State.newJob_mask (hrd : P .rd = true) (s : State) (loc : Loc) (user : RdFor) (host : Bool) : (State.newJob s loc user host).2.mask P = s.mask P := by simp [State.newJob, *]

@[simp] theorem State.startSurvivors_mask (hlog : P .log = true) (hreb : P .reb = true) (hmed : P .med = true) (hrd : P .rd = true) (hsheet : P .sheet = true) (hevqs : P .evqs = true) (hout : P .out = true) (s : State) (job : Nat) (host : Bool) : (State.startSurvivors s job host).mask P = s.mask P := by
  unfold State.startSurvivors
  repeat' (first | rfl | split | (refine (State.foldl_mask (fun _ _ => ?_) _ _).trans ?_) | simp [*])

@[simp] theorem State.beginDieXor_mask (hlog : P .log = true) (hreb : P .reb = true) (hmed : P .med = true) (hrd : P .rd = true) (hsheet : P .sheet = true) (hevqs : P .evqs = true) (hout : P .out = true) (s : State) (job : Nat) (r : CwRead) : (State.beginDieXor s job r).mask P = s.mask P := by
  unfold State.beginDieXor
  split <;> simp [*]

@[simp] theorem State.beginCross_mask (hlog : P .log = true) (hreb : P .reb = true) (hmed : P .med = true) (hrd : P .rd = true) (hsheet : P .sheet = true) (hevqs : P .evqs = true) (hout : P .out = true) (s : State) (job : Nat) (r : CwRead) : (State.beginCross s job r).2.mask P = s.mask P := by
  unfold State.beginCross
  repeat' (first | with_reducible rfl | split | (refine (State.foldl_mask (fun _ _ => ?_) _ _).trans ?_) | simp [*])

@[simp] theorem State.endJob_mask (hrd : P .rd = true) (s : State) (job : Nat) : (State.endJob s job).mask P = s.mask P := by simp [State.endJob, *]

@[simp] theorem State.poisonSector_mask (hfn : P .fn = true) (hmap : P .map = true) (htc : P .tc = true) (hlog : P .log = true) (hreb : P .reb = true) (hmed : P .med = true) (hsheet : P .sheet = true) (hcip : P .cip = true) (hevqs : P .evqs = true) (hout : P .out = true) (s : State) (ns lba : Nat) (loc : Loc) : (State.poisonSector s ns lba loc).mask P = s.mask P := by
  unfold State.poisonSector
  (repeat' split) <;> simp [*]

@[simp] theorem State.recordLost_mask (hreb : P .reb = true) (hevqs : P .evqs = true) (hout : P .out = true) (s : State) (loc : Loc) : (State.recordLost s loc).mask P = s.mask P := by simp [State.recordLost, *]

@[simp] theorem State.tcLose_mask (htc : P .tc = true) (s : State) (set way : Nat) : (State.tcLose s set way).mask P = s.mask P := by
  unfold State.tcLose
  repeat' (first | with_reducible rfl | split | (refine (State.foldl_mask (fun _ _ => ?_) _ _).trans ?_) | simp [*])

@[simp] theorem State.tcRebuild_mask (htc : P .tc = true) (hheld : P .held = true) (hflt : P .flt = true) (s : State) (set way la cause : Nat) : (State.tcRebuild s set way la cause).mask P = s.mask P := by simp [State.tcRebuild, *]

@[simp] theorem State.tcFix_mask (htc : P .tc = true) (hheld : P .held = true) (hflt : P .flt = true) (s : State) (set way : Nat) (e : TcErr) : (State.tcFix s set way e).mask P = s.mask P := by
  unfold State.tcFix
  repeat' (first | with_reducible rfl | split | (refine (State.foldl_mask (fun _ _ => ?_) _ _).trans ?_) | simp [*])

@[simp] theorem State.tcFound_mask (htc : P .tc = true) (hheld : P .held = true) (hflt : P .flt = true) (s : State) (set way : Nat) (e : TcErr) : (State.tcFound s set way e).mask P = s.mask P := by simp [State.tcFound, *]

@[simp] theorem State.tcMend_mask (htc : P .tc = true) (hheld : P .held = true) (hflt : P .flt = true) (s : State) (set way : Nat) (e : Option TcErr) : (State.tcMend s set way e).mask P = s.mask P := by
  cases e
  · rfl
  · simp only [State.tcMend]
    simp [*]

@[simp] theorem State.tcMendTags_mask (htc : P .tc = true) (hheld : P .held = true) (hflt : P .flt = true) (s : State) (set : Nat) : (State.tcMendTags s set).mask P = s.mask P := by
  rw [State.tcMendTags]
  exact State.foldl_mask (fun s w => by simp [*]) _ _

@[simp] theorem State.tcMendLine_mask (htc : P .tc = true) (hheld : P .held = true) (hflt : P .flt = true) (s : State) (set : Nat) (w : Option Nat) : (State.tcMendLine s set w).mask P = s.mask P := by
  cases w
  · rfl
  · simp only [State.tcMendLine]
    simp [*]

@[simp] theorem State.tcCheck_mask (htc : P .tc = true) (hheld : P .held = true) (hflt : P .flt = true) (s : State) (la : Nat) : (State.tcCheck s la).mask P = s.mask P := by
  rw [State.tcCheck]
  simp [*]

@[simp] theorem State.backLook_mask (hmap : P .map = true) (htc : P .tc = true) (hheld : P .held = true) (hflt : P .flt = true) (s : State) (ns lba : Nat) : (State.backLook s ns lba).2.mask P = s.mask P := by
  unfold State.backLook
  have h1 : (s.tcCheck (lineAddr (s.mpnOf ns lba) lba)).mask P = s.mask P := by simp [*]
  generalize s.tcCheck (lineAddr (s.mpnOf ns lba) lba) = s1 at h1 ⊢
  dsimp only
  split <;> simp [*]

@[simp] theorem State.poisonPage_mask (hmap : P .map = true) (htc : P .tc = true) (hheld : P .held = true) (hflt : P .flt = true) (s : State) (mpn : Nat) : (State.poisonPage s mpn).mask P = s.mask P := by
  unfold State.poisonPage
  repeat' (first | rfl | split | (refine (State.foldl_mask (fun _ _ => ?_) _ _).trans ?_) | simp [*])

@[simp] theorem State.takeWaits_mask (hmap : P .map = true) (s : State) (mpn : Nat) : (State.takeWaits s mpn).2.mask P = s.mask P := by simp [State.takeWaits, *]

@[simp] theorem State.placeReloc_mask (hfn : P .fn = true) (hsched : P .sched = true) (hlog : P .log = true) (hreb : P .reb = true) (hmed : P .med = true) (hsheet : P .sheet = true) (hevqs : P .evqs = true) (hout : P .out = true) (s : State) (u : Nat) (loc : Loc) (p : Payload) : (State.placeReloc s u loc p).mask P = s.mask P := by simp [State.placeReloc, *]

@[simp] theorem State.capCost_mask (hmed : P .med = true) (hevqs : P .evqs = true) (hout : P .out = true) (s : State) (b die : Nat) : (State.capCost s b die).mask P = s.mask P := by simp [State.capCost, *]

@[simp] theorem State.patrolKeep_mask (hreb : P .reb = true) (s : State) (role k : Nat) (loc : Loc) (p : Option Payload) : (State.patrolKeep s role k loc p).mask P = s.mask P := by simp [State.patrolKeep, *]

@[simp] theorem State.deliver_mask (hfn : P .fn = true) (hsched : P .sched = true) (hmap : P .map = true) (htc : P .tc = true) (hlog : P .log = true) (hreb : P .reb = true) (hmed : P .med = true) (hrd : P .rd = true) (hsheet : P .sheet = true) (hcip : P .cip = true) (hheld : P .held = true) (hevqs : P .evqs = true) (hflt : P .flt = true) (hout : P .out = true) (fuel : Nat) (s : State) (job : Nat) (res : Option Payload) : (State.deliver fuel s job res).mask P = s.mask P := by
  induction fuel generalizing s job res with
  | zero => rfl
  | succ n ih =>
    unfold State.deliver
    dsimp only
    have hb : ∀ (s : State) j r, (s.beginCross j r).2.mask P = s.mask P := fun s j r => by simp [*]
    repeat' (first | rfl | (rename_i h; have hc := congrArg Prod.snd h; dsimp only at hc; clear h; subst hc; simp [*]; done) | split | simp [*])

@[simp] theorem State.noteRecon_mask (hmed : P .med = true) (s : State) (x : Loc) : (State.noteRecon s x).mask P = s.mask P := by simp [State.noteRecon, *]

@[simp] theorem State.reconstruct_mask (hfn : P .fn = true) (hsched : P .sched = true) (hmap : P .map = true) (htc : P .tc = true) (hlog : P .log = true) (hreb : P .reb = true) (hmed : P .med = true) (hrd : P .rd = true) (hsheet : P .sheet = true) (hcip : P .cip = true) (hheld : P .held = true) (hevqs : P .evqs = true) (hflt : P .flt = true) (hout : P .out = true) (s : State) (job : Nat) : (State.reconstruct s job).mask P = s.mask P := by
  unfold State.reconstruct
  dsimp only
  repeat' (first | rfl | (rename_i h; have hc := congrArg Prod.snd h; dsimp only at hc; clear h; subst hc; simp [*]; done) | split | simp [*])

@[simp] theorem State.readCw_mask (hfn : P .fn = true) (hsched : P .sched = true) (hmap : P .map = true) (htc : P .tc = true) (hlog : P .log = true) (hreb : P .reb = true) (hmed : P .med = true) (hrd : P .rd = true) (hsheet : P .sheet = true) (hcip : P .cip = true) (hheld : P .held = true) (hevqs : P .evqs = true) (hflt : P .flt = true) (hout : P .out = true) (s : State) (loc : Loc) (user : RdFor) (host : Bool) : (State.readCw s loc user host).mask P = s.mask P := by simp [State.readCw, *]

@[simp] theorem State.needPage_mask (hfn : P .fn = true) (hsched : P .sched = true) (hmap : P .map = true) (htc : P .tc = true) (hlog : P .log = true) (hreb : P .reb = true) (hmed : P .med = true) (hrd : P .rd = true) (hsheet : P .sheet = true) (hcip : P .cip = true) (hheld : P .held = true) (hevqs : P .evqs = true) (hflt : P .flt = true) (hout : P .out = true) (s : State) (mpn : Nat) (wait : Option MapWait) (host : Bool) : (State.needPage s mpn wait host).mask P = s.mask P := by
  unfold State.needPage
  split <;> simp [*]

@[simp] theorem State.kickPages_mask (hfn : P .fn = true) (hsched : P .sched = true) (hmap : P .map = true) (htc : P .tc = true) (hlog : P .log = true) (hreb : P .reb = true) (hmed : P .med = true) (hrd : P .rd = true) (hsheet : P .sheet = true) (hcip : P .cip = true) (hheld : P .held = true) (hevqs : P .evqs = true) (hflt : P .flt = true) (hout : P .out = true) (s : State) : (State.kickPages s).mask P = s.mask P := by simp [State.kickPages, *]

@[simp] theorem State.serveEntry_mask (hfn : P .fn = true) (hsched : P .sched = true) (hmap : P .map = true) (htc : P .tc = true) (hlog : P .log = true) (hreb : P .reb = true) (hmed : P .med = true) (hrd : P .rd = true) (hsheet : P .sheet = true) (hcip : P .cip = true) (hheld : P .held = true) (hevqs : P .evqs = true) (hflt : P .flt = true) (hout : P .out = true) (s : State) (ord : Nat) (c : Cmd) (off : Nat) (e : MapEntry) : (State.serveEntry s ord c off e).mask P = s.mask P := by
  unfold State.serveEntry
  (repeat' split) <;> simp [*]

@[simp] theorem State.serveSector_mask (hfn : P .fn = true) (hsched : P .sched = true) (hmap : P .map = true) (htc : P .tc = true) (hlog : P .log = true) (hreb : P .reb = true) (hmed : P .med = true) (hrd : P .rd = true) (hsheet : P .sheet = true) (hcip : P .cip = true) (hheld : P .held = true) (hevqs : P .evqs = true) (hflt : P .flt = true) (hout : P .out = true) (s : State) (ord : Nat) (c : Cmd) (off : Nat) : (State.serveSector s ord c off).mask P = s.mask P := by
  unfold State.serveSector
  have h1 : (s.tcCheck (lineAddr (s.mpnOf c.ns (c.lba + off)) (c.lba + off))).mask P = s.mask P := by simp [*]
  generalize s.tcCheck (lineAddr (s.mpnOf c.ns (c.lba + off)) (c.lba + off)) = s1 at h1 ⊢
  dsimp only
  split
  · simp [*]
  · split <;> simp [*]

@[simp] theorem State.serveRead_mask (hfn : P .fn = true) (hsched : P .sched = true) (hmap : P .map = true) (htc : P .tc = true) (hlog : P .log = true) (hreb : P .reb = true) (hmed : P .med = true) (hrd : P .rd = true) (hsheet : P .sheet = true) (hcip : P .cip = true) (hheld : P .held = true) (hevqs : P .evqs = true) (hflt : P .flt = true) (hout : P .out = true) (s : State) (ord : Nat) : (State.serveRead s ord).mask P = s.mask P := by
  unfold State.serveRead
  split <;> simp [*]

@[simp] theorem State.serveAll_mask (hfn : P .fn = true) (hsched : P .sched = true) (hmap : P .map = true) (htc : P .tc = true) (hlog : P .log = true) (hreb : P .reb = true) (hmed : P .med = true) (hrd : P .rd = true) (hsheet : P .sheet = true) (hcip : P .cip = true) (hheld : P .held = true) (hevqs : P .evqs = true) (hflt : P .flt = true) (hout : P .out = true) (s : State) (ords : List Nat) : (State.serveAll s ords).mask P = s.mask P := by simp [State.serveAll, *]

@[simp] theorem State.kick_mask (hfn : P .fn = true) (hsched : P .sched = true) (hmap : P .map = true) (htc : P .tc = true) (hlog : P .log = true) (hreb : P .reb = true) (hmed : P .med = true) (hrd : P .rd = true) (hsheet : P .sheet = true) (hcip : P .cip = true) (hheld : P .held = true) (hevqs : P .evqs = true) (hflt : P .flt = true) (hout : P .out = true) (s : State) : (State.kick s).mask P = s.mask P := by simp [State.kick, *]

/-! Machine/CommitOps.lean -/

@[simp] theorem State.commitMapPage_mask (hfn : P .fn = true) (hmap : P .map = true) (hlog : P .log = true) (hreb : P .reb = true) (hmed : P .med = true) (hsheet : P .sheet = true) (hcip : P .cip = true) (hevqs : P .evqs = true) (hout : P .out = true) (s : State) (loc : Loc) (p : Payload) : (State.commitMapPage s loc p).mask P = s.mask P := by simp [State.commitMapPage, *]

@[simp] theorem State.commitGmdPage_mask (hfn : P .fn = true) (hlog : P .log = true) (hreb : P .reb = true) (hmed : P .med = true) (hsheet : P .sheet = true) (hcip : P .cip = true) (hevqs : P .evqs = true) (hout : P .out = true) (s : State) (loc : Loc) (p : Payload) : (State.commitGmdPage s loc p).mask P = s.mask P := by
  unfold State.commitGmdPage
  (repeat' split) <;> simp [*]

@[simp] theorem State.lastOf61_mask (hlog : P .log = true) (s : State) (u j : Nat) : (State.lastOf61 s u j).mask P = s.mask P := by simp [State.lastOf61, *]

@[simp] theorem State.commitStripe_mask (hfn : P .fn = true) (hmap : P .map = true) (hlog : P .log = true) (hreb : P .reb = true) (hmed : P .med = true) (hsheet : P .sheet = true) (hcip : P .cip = true) (hevqs : P .evqs = true) (hout : P .out = true) (s : State) (id : Nat) : (State.commitStripe s id).mask P = s.mask P := by
  unfold State.commitStripe
  repeat' (first | rfl | split | (refine (State.foldl_mask (fun _ _ => ?_) _ _).trans ?_) | simp [*])

@[simp] theorem State.memberDone_mask (hlog : P .log = true) (hsheet : P .sheet = true) (hout : P .out = true) (s : State) (id r : Nat) : (State.memberDone s id r).mask P = s.mask P := by
  unfold State.memberDone
  repeat' (first | rfl | split | (refine (State.foldl_mask (fun _ _ => ?_) _ _).trans ?_) | simp [*])

@[simp] theorem State.sjDone_mask (hfn : P .fn = true) (hmap : P .map = true) (hlog : P .log = true) (hreb : P .reb = true) (hmed : P .med = true) (hsheet : P .sheet = true) (hcip : P .cip = true) (hevqs : P .evqs = true) (hout : P .out = true) (s : State) (b : Nat) (ok : Bool) : (State.sjDone s b ok).mask P = s.mask P := by
  unfold State.sjDone
  split <;> simp [*]

@[simp] theorem State.abandonStripe_mask (hfn : P .fn = true) (hlog : P .log = true) (hreb : P .reb = true) (hmed : P .med = true) (hsheet : P .sheet = true) (hevqs : P .evqs = true) (hout : P .out = true) (s : State) (id : Nat) : (State.abandonStripe s id).mask P = s.mask P := by
  unfold State.abandonStripe
  split <;> simp [*]

@[simp] theorem State.moveMember_mask (hfn : P .fn = true) (hlog : P .log = true) (hreb : P .reb = true) (hmed : P .med = true) (hsheet : P .sheet = true) (hevqs : P .evqs = true) (hout : P .out = true) (s : State) (id r : Nat) : (State.moveMember s id r).mask P = s.mask P := by
  unfold State.moveMember
  repeat' (first | rfl | split | (refine (State.foldl_mask (fun _ _ => ?_) _ _).trans ?_) | simp [*])

@[simp] theorem State.membersOff_mask (hfn : P .fn = true) (hlog : P .log = true) (hreb : P .reb = true) (hmed : P .med = true) (hsheet : P .sheet = true) (hevqs : P .evqs = true) (hout : P .out = true) (s : State) (b : Nat) : (State.membersOff s b).mask P = s.mask P := by
  unfold State.membersOff
  repeat' (first | rfl | split | (refine (State.foldl_mask (fun _ _ => ?_) _ _).trans ?_) | simp [*])

@[simp] theorem State.readyAll_mask (hfn : P .fn = true) (hsched : P .sched = true) (hmap : P .map = true) (htc : P .tc = true) (hlog : P .log = true) (hreb : P .reb = true) (hmed : P .med = true) (hrd : P .rd = true) (hsheet : P .sheet = true) (hcip : P .cip = true) (hheld : P .held = true) (hevqs : P .evqs = true) (hflt : P .flt = true) (hout : P .out = true) (s : State) (l : List (Nat × Nat)) : (State.readyAll s l).2.mask P = s.mask P := by simp [State.readyAll, *]

@[simp] theorem State.settleWrite_mask (hsched : P .sched = true) (s : State) (wseq : Nat) : (State.settleWrite s wseq).mask P = s.mask P := by simp [State.settleWrite, *]

@[simp] theorem State.applyUpdate_mask (hfn : P .fn = true) (hsched : P .sched = true) (hmap : P .map = true) (htc : P .tc = true) (hlog : P .log = true) (hreb : P .reb = true) (hmed : P .med = true) (hrd : P .rd = true) (hsheet : P .sheet = true) (hcip : P .cip = true) (hheld : P .held = true) (hevqs : P .evqs = true) (hflt : P .flt = true) (hout : P .out = true) (s : State) (id wseq : Nat) : (State.applyUpdate s id wseq).mask P = s.mask P := by
  unfold State.applyUpdate
  split <;> simp [*]

@[simp] theorem State.snapshotPage_mask (hfn : P .fn = true) (hmap : P .map = true) (htc : P .tc = true) (hlog : P .log = true) (hreb : P .reb = true) (hmed : P .med = true) (hsheet : P .sheet = true) (hevqs : P .evqs = true) (hout : P .out = true) (s : State) (mpn : Nat) : (State.snapshotPage s mpn).mask P = s.mask P := by
  unfold State.snapshotPage
  dsimp only
  have hw : (s.writeBackPage mpn).mask P = s.mask P := by simp only [State.writeBackPage_mask, *]
  split
  · exact hw
  · simp only [State.placeSectors_mask, State.onSlot_mask, State.writeBackPage_mask, *]

@[simp] theorem State.startCkpt_mask (hfn : P .fn = true) (hmap : P .map = true) (htc : P .tc = true) (hlog : P .log = true) (hreb : P .reb = true) (hmed : P .med = true) (hsheet : P .sheet = true) (hevqs : P .evqs = true) (hout : P .out = true) (s : State) : (State.startCkpt s).mask P = s.mask P := by simp [State.startCkpt, *]

@[simp] theorem State.issueRoot_mask (hsheet : P .sheet = true) (hout : P .out = true) (s : State) (c : Ckpt) : (State.issueRoot s c).mask P = s.mask P := by
  unfold State.issueRoot
  refine State.foldl_mask (fun s b => ?_) _ _
  cases h : s.issueSys b 0 (s.rootPage c.number) .root _ with
  | none => rfl
  | some t => exact State.issueSys_mask hsheet hout h

@[simp] theorem State.ckptFrees_mask (hlog : P .log = true) (s : State) (jpos : Nat) : (State.ckptFrees s jpos).mask P = s.mask P := by simp [State.ckptFrees, *]

@[simp] theorem State.ckptDurable_mask (hlog : P .log = true) (hsheet : P .sheet = true) (hout : P .out = true) (s : State) (c : Ckpt) : (State.ckptDurable s c).mask P = s.mask P := by simp [State.ckptDurable, *]

@[simp] theorem State.ckptStep_mask (hfn : P .fn = true) (hmap : P .map = true) (hlog : P .log = true) (hreb : P .reb = true) (hmed : P .med = true) (hsheet : P .sheet = true) (hevqs : P .evqs = true) (hout : P .out = true) (s : State) : (State.ckptStep s).mask P = s.mask P := by
  unfold State.ckptStep
  split <;> simp [*]

@[simp] theorem State.drainLog_mask (hfn : P .fn = true) (hmap : P .map = true) (htc : P .tc = true) (hlog : P .log = true) (hreb : P .reb = true) (hmed : P .med = true) (hsheet : P .sheet = true) (hevqs : P .evqs = true) (hout : P .out = true) (s : State) : (State.drainLog s).mask P = s.mask P := by simp [State.drainLog, *]

@[simp] theorem State.ckptAge_mask (hfn : P .fn = true) (hmap : P .map = true) (htc : P .tc = true) (hlog : P .log = true) (hreb : P .reb = true) (hmed : P .med = true) (hsheet : P .sheet = true) (hevqs : P .evqs = true) (hout : P .out = true) (s : State) : (State.ckptAge s).mask P = s.mask P := by simp [State.ckptAge, *]

@[simp] theorem State.beginStrike_mask (hfn : P .fn = true) (hsched : P .sched = true) (hlog : P .log = true) (hreb : P .reb = true) (hmed : P .med = true) (hsheet : P .sheet = true) (hevqs : P .evqs = true) (hout : P .out = true) (s : State) : (State.beginStrike s).mask P = s.mask P := by simp [State.beginStrike, *]

@[simp] theorem State.unitErased_mask (hfn : P .fn = true) (hlog : P .log = true) (hreb : P .reb = true) (hmed : P .med = true) (hevqs : P .evqs = true) (hout : P .out = true) (s : State) (u : Nat) : (State.unitErased s u).mask P = s.mask P := by simp [State.unitErased, *]

@[simp] theorem State.eraseStep_mask (hfn : P .fn = true) (hlog : P .log = true) (hreb : P .reb = true) (hmed : P .med = true) (hevqs : P .evqs = true) (hout : P .out = true) (s : State) (u : Nat) : (State.eraseStep s u).mask P = s.mask P := by simp [State.eraseStep, *]

@[simp] theorem State.growCondemned_mask (hfn : P .fn = true) (hlog : P .log = true) (hreb : P .reb = true) (hmed : P .med = true) (hsheet : P .sheet = true) (hevqs : P .evqs = true) (hout : P .out = true) (s : State) (u : Nat) : (State.growCondemned s u).mask P = s.mask P := by simp [State.growCondemned, *]

@[simp] theorem State.issueErases_mask (hfn : P .fn = true) (hlog : P .log = true) (hreb : P .reb = true) (hmed : P .med = true) (hsheet : P .sheet = true) (hevqs : P .evqs = true) (hout : P .out = true) (s0 : State) (u : Nat) : (State.issueErases s0 u).mask P = s0.mask P := by
  unfold State.issueErases
  dsimp only
  split
  · simp only [State.unitErased_mask, *]
    refine (State.foldl_mask (fun s a => ?_) _ _).trans (by simp [*])
    split
    · rename_i h; simp [*, State.issue_mask hsheet hout h]
    · simp [*]
  · refine (State.foldl_mask (fun s a => ?_) _ _).trans (by simp [*])
    split
    · rename_i h; simp [*, State.issue_mask hsheet hout h]
    · simp [*]

/-! Machine/PairOps.lean -/

@[simp] theorem State.sendLease_mask (hout : P .out = true) (s : State) (m : LeaseMsg) : (State.sendLease s m).mask P = s.mask P := by simp [State.sendLease, *]

@[simp] theorem State.modulesBack_mask (hsheet : P .sheet = true) (hevqs : P .evqs = true) (hout : P .out = true) (s : State) : (State.modulesBack s).mask P = s.mask P := by simp [State.modulesBack, *]

@[simp] theorem State.fenceAll_mask (hsheet : P .sheet = true) (hevqs : P .evqs = true) (hout : P .out = true) (s : State) : (State.fenceAll s).mask P = s.mask P := by simp [State.fenceAll, *]

@[simp] theorem State.holdRebuild_mask (hreb : P .reb = true) (s : State) : (State.holdRebuild s).mask P = s.mask P := by simp [State.holdRebuild, *]

@[simp] theorem State.statusAll_mask (hsheet : P .sheet = true) (hout : P .out = true) (s : State) : (State.statusAll s).mask P = s.mask P := by
  unfold State.statusAll
  refine State.foldl_mask (fun _ _ => ?_) _ _
  split <;> simp [*]

@[simp] theorem State.takeLease_mask (hfn : P .fn = true) (hsheet : P .sheet = true) (hnvme : P .nvme = true) (hrdma : P .rdma = true) (hnet : P .net = true) (hpair : P .pair = true) (hmgmt : P .mgmt = true) (hevqs : P .evqs = true) (hout : P .out = true) (s : State) (k : TakeKind) : (State.takeLease s k).mask P = s.mask P := by simp [State.takeLease, *]

@[simp] theorem State.lapse_mask (hreb : P .reb = true) (hsheet : P .sheet = true) (hnvme : P .nvme = true) (hrdma : P .rdma = true) (hnet : P .net = true) (hpair : P .pair = true) (hmgmt : P .mgmt = true) (hevqs : P .evqs = true) (hout : P .out = true) (s : State) : (State.lapse s).mask P = s.mask P := by simp [State.lapse, *]

@[simp] theorem State.release_mask (hpair : P .pair = true) (hout : P .out = true) (s : State) (toPeer : Bool) : (State.release s toPeer).mask P = s.mask P := by simp [State.release, *]

@[simp] theorem State.toInit_mask (hsheet : P .sheet = true) (hnvme : P .nvme = true) (hrdma : P .rdma = true) (hnet : P .net = true) (hpair : P .pair = true) (hmgmt : P .mgmt = true) (hevqs : P .evqs = true) (hout : P .out = true) (s : State) : (State.toInit s).mask P = s.mask P := by simp [State.toInit, *]

@[simp] theorem State.staleLease_mask (hreb : P .reb = true) (hsheet : P .sheet = true) (hnvme : P .nvme = true) (hrdma : P .rdma = true) (hnet : P .net = true) (hpair : P .pair = true) (hmgmt : P .mgmt = true) (hevqs : P .evqs = true) (hout : P .out = true) (s : State) : (State.staleLease s).mask P = s.mask P := by simp [State.staleLease, *]

@[simp] theorem State.discardAll_mask (hsched : P .sched = true) (hmap : P .map = true) (htc : P .tc = true) (hlog : P .log = true) (hreb : P .reb = true) (hrd : P .rd = true) (s : State) : (State.discardAll s).mask P = s.mask P := by simp [State.discardAll, *]

@[simp] theorem State.join_mask (hsheet : P .sheet = true) (hnvme : P .nvme = true) (hrdma : P .rdma = true) (hnet : P .net = true) (hpair : P .pair = true) (hmgmt : P .mgmt = true) (hevqs : P .evqs = true) (hout : P .out = true) (s : State) : (State.join s).mask P = s.mask P := by simp [State.join, *]

@[simp] theorem State.dieReset_mask (hclk : P .clk = true) (hfn : P .fn = true) (hsched : P .sched = true) (hmap : P .map = true) (htc : P .tc = true) (hlog : P .log = true) (hreb : P .reb = true) (hmed : P .med = true) (hrd : P .rd = true) (hsheet : P .sheet = true) (hnvme : P .nvme = true) (hrdma : P .rdma = true) (hnet : P .net = true) (hcip : P .cip = true) (hpair : P .pair = true) (hmgmt : P .mgmt = true) (hevqs : P .evqs = true) (hmbx : P .mbx = true) (hflt : P .flt = true) (hpmc : P .pmc = true) (hboot : P .boot = true) (s : State) : (State.dieReset s).mask P = s.mask P := by
  simp [State.diePowerOff, State.dieReset, State.mask, *]

@[simp] theorem State.diePowerOff_mask (hclk : P .clk = true) (hfn : P .fn = true) (hsched : P .sched = true) (hmap : P .map = true) (htc : P .tc = true) (hlog : P .log = true) (hreb : P .reb = true) (hmed : P .med = true) (hrd : P .rd = true) (hsheet : P .sheet = true) (hnvme : P .nvme = true) (hrdma : P .rdma = true) (hnet : P .net = true) (hcip : P .cip = true) (hpair : P .pair = true) (hmgmt : P .mgmt = true) (hevqs : P .evqs = true) (hmbx : P .mbx = true) (hflt : P .flt = true) (hpmc : P .pmc = true) (hboot : P .boot = true) (s : State) : (State.diePowerOff s).mask P = s.mask P := by
  simp [State.diePowerOff, State.dieReset, State.mask, *]

/-! Machine/MbxOps.lean -/

@[simp] theorem State.go_mask (hmbx : P .mbx = true) (s : State) (m token : Nat) (notify : Bool) (evq : Nat) : (State.go s m token notify evq).mask P = s.mask P := by simp [State.go, *]

@[simp] theorem State.fetchBulk_mask (hmgmt : P .mgmt = true) (hout : P .out = true) (s : State) (m : Nat) : (State.fetchBulk s m).2.mask P = s.mask P := by
  unfold State.fetchBulk
  split <;> simp [*]

@[simp] theorem State.takeGo_mask (hmgmt : P .mgmt = true) (hmbx : P .mbx = true) (s : State) (m : Nat) (key : Option Nat) : (State.takeGo s m key).mask P = s.mask P := by simp [State.takeGo, *]

@[simp] theorem State.mbxRun_mask (hmgmt : P .mgmt = true) (hmbx : P .mbx = true) (hout : P .out = true) (s : State) (h : MbxHdr) (sp : MbxSpec) {start again : State → State} (hs : ∀ x, (start x).mask P = x.mask P) (ha : ∀ x, (again x).mask P = x.mask P) : (State.mbxRun s h sp start again).mask P = s.mask P := by
  unfold State.mbxRun
  dsimp only
  split
  · rfl
  · split
    · rfl
    · split
      · rfl
      · split
        · exact ha s
        · split
          · rfl
          · split
            · simp only [State.answer_mask, State.onMbx_mask, *]
            · rw [hs]; simp only [State.onMbx_mask, *]
    · split
      · rfl
      · have h0 : (if (s.mbx h.mbx.val).takenSeq = 0 then s.takeGo h.mbx.val sp.key else s).mask P = s.mask P := by
          split <;> simp only [State.takeGo_mask, *]
        generalize (if (s.mbx h.mbx.val).takenSeq = 0 then s.takeGo h.mbx.val sp.key else s) = s0 at h0 ⊢
        split
        · exact h0
        · split
          · simp only [State.answer_mask, State.onMbx_mask, h0, *]
          · split
            · simp only [State.onMbx_mask, h0, *]
            · split
              · split
                · simp only [State.onMbx_mask, State.fetchBulk_mask, h0, *]
                · exact h0
              · rw [hs]; simp only [State.onMbx_mask, h0, *]

@[simp] theorem State.mbxOk_mask (hmbx : P .mbx = true) (s : State) (m : Nat) (result : List (BitVec 8)) : (State.mbxOk s m result).mask P = s.mask P := by simp [State.mbxOk, *]

@[simp] theorem State.mbxFail_mask (hmbx : P .mbx = true) (s : State) (m status detail : Nat) : (State.mbxFail s m status detail).mask P = s.mask P := by simp [State.mbxFail, *]

@[simp] theorem State.mbxData_mask (hmbx : P .mbx = true) (hout : P .out = true) (s : State) (m : Nat) (bytes : List (BitVec 8)) : (State.mbxData s m bytes).mask P = s.mask P := by simp [State.mbxData, *]

@[simp] theorem State.live_mask (hfn : P .fn = true) (hmbx : P .mbx = true) (s : State) (m : Nat) (always : Bool) (c : LiveChange) : (State.live s m always c).mask P = s.mask P := by simp [State.live, *]

@[simp] theorem State.answerOp_mask (hmbx : P .mbx = true) (s : State) (op : Nat) (r : Resp) : (State.answerOp s op r).mask P = s.mask P := by simp [State.answerOp, *]

@[simp] theorem State.detach_mask (hfn : P .fn = true) (hsched : P .sched = true) (htc : P .tc = true) (hnet : P .net = true) (hcip : P .cip = true) (hbpd : P .bpd = true) (s : State) (m : Nat) : (State.detach s m).mask P = s.mask P := by simp [State.detach, *]

@[simp] theorem State.armDropped_mask (hfn : P .fn = true) (s : State) (m : Nat) : (State.armDropped s m).mask P = s.mask P := by simp [State.armDropped, *]

/-! Machine/PowerOps.lean -/

@[simp] theorem State.endOp_mask (hfn : P .fn = true) (hsched : P .sched = true) (hmap : P .map = true) (htc : P .tc = true) (hlog : P .log = true) (hreb : P .reb = true) (hmed : P .med = true) (hrd : P .rd = true) (hsheet : P .sheet = true) (hcip : P .cip = true) (hheld : P .held = true) (hevqs : P .evqs = true) (hflt : P .flt = true) (hout : P .out = true) (s : State) (b : Nat) (op : SheetOp) : (State.endOp s b op).mask P = s.mask P := by
  unfold State.endOp
  repeat' (first | rfl | split | (refine (State.foldl_mask (fun _ _ => ?_) _ _).trans ?_) | simp [*])

@[simp] theorem State.endOps_mask (hfn : P .fn = true) (hsched : P .sched = true) (hmap : P .map = true) (htc : P .tc = true) (hlog : P .log = true) (hreb : P .reb = true) (hmed : P .med = true) (hrd : P .rd = true) (hsheet : P .sheet = true) (hcip : P .cip = true) (hheld : P .held = true) (hevqs : P .evqs = true) (hflt : P .flt = true) (hout : P .out = true) (s : State) (b : Nat) : (State.endOps s b).mask P = s.mask P := by simp [State.endOps, *]

@[simp] theorem State.sjOff_mask (hfn : P .fn = true) (hmap : P .map = true) (hlog : P .log = true) (hreb : P .reb = true) (hmed : P .med = true) (hsheet : P .sheet = true) (hcip : P .cip = true) (hevqs : P .evqs = true) (hout : P .out = true) (s : State) (b : Nat) : (State.sjOff s b).mask P = s.mask P := by simp [State.sjOff, *]

@[simp] theorem State.portGone_mask (hfn : P .fn = true) (hsched : P .sched = true) (hmap : P .map = true) (htc : P .tc = true) (hlog : P .log = true) (hreb : P .reb = true) (hmed : P .med = true) (hrd : P .rd = true) (hsheet : P .sheet = true) (hcip : P .cip = true) (hheld : P .held = true) (hevqs : P .evqs = true) (hflt : P .flt = true) (hout : P .out = true) (s : State) (b : Nat) : (State.portGone s b).mask P = s.mask P := by
  unfold State.portGone
  repeat' (first | with_reducible rfl | split | (refine (State.foldl_mask (fun _ _ => ?_) _ _).trans ?_) | simp [*])

@[simp] theorem State.setPort_mask (hsheet : P .sheet = true) (s : State) (b : Nat) (st : PortState) : (State.setPort s b st).mask P = s.mask P := by simp [State.setPort, *]

@[simp] theorem State.retirePort_mask (hfn : P .fn = true) (hsched : P .sched = true) (hmap : P .map = true) (htc : P .tc = true) (hlog : P .log = true) (hreb : P .reb = true) (hmed : P .med = true) (hrd : P .rd = true) (hsheet : P .sheet = true) (hcip : P .cip = true) (hheld : P .held = true) (hevqs : P .evqs = true) (hflt : P .flt = true) (hout : P .out = true) (s : State) (b : Nat) : (State.retirePort s b).mask P = s.mask P := by simp [State.retirePort, *]

@[simp] theorem State.portOff_mask (hfn : P .fn = true) (hsched : P .sched = true) (hmap : P .map = true) (htc : P .tc = true) (hlog : P .log = true) (hreb : P .reb = true) (hmed : P .med = true) (hrd : P .rd = true) (hsheet : P .sheet = true) (hcip : P .cip = true) (hheld : P .held = true) (hevqs : P .evqs = true) (hflt : P .flt = true) (hout : P .out = true) (s : State) (b : Nat) : (State.portOff s b).mask P = s.mask P := by simp [State.portOff, *]

@[simp] theorem State.powerFollow_mask (hfn : P .fn = true) (hsched : P .sched = true) (hmap : P .map = true) (htc : P .tc = true) (hlog : P .log = true) (hreb : P .reb = true) (hmed : P .med = true) (hrd : P .rd = true) (hsheet : P .sheet = true) (hcip : P .cip = true) (hheld : P .held = true) (hevqs : P .evqs = true) (hflt : P .flt = true) (hout : P .out = true) (s : State) (b : Nat) : (State.powerFollow s b).mask P = s.mask P := by simp [State.powerFollow, *]

@[simp] theorem State.modulePower_mask (hmods : P .mods = true) (s : State) (b : Nat) : (State.modulePower s b).mask P = s.mask P := by simp [State.modulePower, *]

@[simp] theorem State.setChan_mask (hfn : P .fn = true) (hsched : P .sched = true) (hmap : P .map = true) (htc : P .tc = true) (hlog : P .log = true) (hreb : P .reb = true) (hmed : P .med = true) (hrd : P .rd = true) (hsheet : P .sheet = true) (hmods : P .mods = true) (hcip : P .cip = true) (hbpd : P .bpd = true) (hheld : P .held = true) (hevqs : P .evqs = true) (hflt : P .flt = true) (hout : P .out = true) (s : State) (b : Nat) (st : ChanState) : (State.setChan s b st).mask P = s.mask P := by simp [State.setChan, *]

@[simp] theorem State.chanTry_mask (hfn : P .fn = true) (hsched : P .sched = true) (hmap : P .map = true) (htc : P .tc = true) (hlog : P .log = true) (hreb : P .reb = true) (hmed : P .med = true) (hrd : P .rd = true) (hsheet : P .sheet = true) (hmods : P .mods = true) (hcip : P .cip = true) (hbpd : P .bpd = true) (hheld : P .held = true) (hevqs : P .evqs = true) (hflt : P .flt = true) (hout : P .out = true) (s : State) (b : Nat) : (State.chanTry s b).mask P = s.mask P := by simp [State.chanTry, *]

@[simp] theorem State.trip_mask (hfn : P .fn = true) (hsched : P .sched = true) (hmap : P .map = true) (htc : P .tc = true) (hlog : P .log = true) (hreb : P .reb = true) (hmed : P .med = true) (hrd : P .rd = true) (hsheet : P .sheet = true) (hmods : P .mods = true) (hcip : P .cip = true) (hbpd : P .bpd = true) (hheld : P .held = true) (hevqs : P .evqs = true) (hflt : P .flt = true) (hout : P .out = true) (s : State) (b kind : Nat) : (State.trip s b kind).mask P = s.mask P := by simp [State.trip, *]

@[simp] theorem State.toggle_mask (hfn : P .fn = true) (hsched : P .sched = true) (hmap : P .map = true) (htc : P .tc = true) (hlog : P .log = true) (hreb : P .reb = true) (hmed : P .med = true) (hrd : P .rd = true) (hsheet : P .sheet = true) (hmods : P .mods = true) (hcip : P .cip = true) (hbpd : P .bpd = true) (hheld : P .held = true) (hevqs : P .evqs = true) (hflt : P .flt = true) (hout : P .out = true) (s : State) (b : Nat) : (State.toggle s b).mask P = s.mask P := by
  unfold State.toggle
  split <;> simp [*]

@[simp] theorem State.setSel_mask (hfn : P .fn = true) (hsched : P .sched = true) (hmap : P .map = true) (htc : P .tc = true) (hlog : P .log = true) (hreb : P .reb = true) (hmed : P .med = true) (hrd : P .rd = true) (hsheet : P .sheet = true) (hmods : P .mods = true) (hcip : P .cip = true) (hbpd : P .bpd = true) (hheld : P .held = true) (hevqs : P .evqs = true) (hflt : P .flt = true) (hout : P .out = true) (s : State) (x : Selector) : (State.setSel s x).mask P = s.mask P := by simp [State.setSel, *]

@[simp] theorem State.enterHoldup_mask (hfn : P .fn = true) (hsched : P .sched = true) (hmap : P .map = true) (htc : P .tc = true) (hlog : P .log = true) (hreb : P .reb = true) (hmed : P .med = true) (hrd : P .rd = true) (hsheet : P .sheet = true) (hmods : P .mods = true) (hcip : P .cip = true) (hbpd : P .bpd = true) (hheld : P .held = true) (hevqs : P .evqs = true) (hflt : P .flt = true) (hout : P .out = true) (s : State) : (State.enterHoldup s).mask P = s.mask P := by simp [State.enterHoldup, *]

@[simp] theorem State.goDown_mask (hclk : P .clk = true) (hfn : P .fn = true) (hsched : P .sched = true) (hmap : P .map = true) (htc : P .tc = true) (hlog : P .log = true) (hreb : P .reb = true) (hmed : P .med = true) (hrd : P .rd = true) (hsheet : P .sheet = true) (hmods : P .mods = true) (hnvme : P .nvme = true) (hrdma : P .rdma = true) (hnet : P .net = true) (hcip : P .cip = true) (hpair : P .pair = true) (hbpd : P .bpd = true) (hheld : P .held = true) (hmgmt : P .mgmt = true) (hevqs : P .evqs = true) (hmbx : P .mbx = true) (hflt : P .flt = true) (hpmc : P .pmc = true) (hboot : P .boot = true) (hout : P .out = true) (s : State) (low : Bool) : (State.goDown s low).mask P = s.mask P := by
  simp only [State.goDown]
  rw [State.diePowerOff_mask (by assumption) (by assumption) (by assumption) (by assumption) (by assumption) (by assumption) (by assumption) (by assumption) (by assumption) (by assumption) (by assumption) (by assumption) (by assumption) (by assumption) (by assumption) (by assumption) (by assumption) (by assumption) (by assumption) (by assumption) (by assumption),
    State.onBpd_all_mask hbpd hheld]
  simp only [State.setSel_mask, *]
  refine (State.foldl_mask (fun s b => ?_) _ _).trans (State.onBpd_all_mask hbpd hheld _ _)
  repeat' (first | rfl | split | simp [*])

@[simp] theorem State.selInit_mask (hfn : P .fn = true) (hsched : P .sched = true) (hmap : P .map = true) (htc : P .tc = true) (hlog : P .log = true) (hreb : P .reb = true) (hmed : P .med = true) (hrd : P .rd = true) (hsheet : P .sheet = true) (hmods : P .mods = true) (hcip : P .cip = true) (hbpd : P .bpd = true) (hheld : P .held = true) (hevqs : P .evqs = true) (hflt : P .flt = true) (hout : P .out = true) (s : State) : (State.selInit s).mask P = s.mask P := by simp [State.selInit, *]

@[simp] theorem State.pathOff_mask (hfn : P .fn = true) (hsched : P .sched = true) (hmap : P .map = true) (htc : P .tc = true) (hlog : P .log = true) (hreb : P .reb = true) (hmed : P .med = true) (hrd : P .rd = true) (hsheet : P .sheet = true) (hmods : P .mods = true) (hcip : P .cip = true) (hbpd : P .bpd = true) (hheld : P .held = true) (hevqs : P .evqs = true) (hflt : P .flt = true) (hout : P .out = true) (s : State) : (State.pathOff s).mask P = s.mask P := by
  unfold State.pathOff
  split <;> simp [*]

@[simp] theorem State.strikeEnd_mask (hclk : P .clk = true) (hfn : P .fn = true) (hsched : P .sched = true) (hmap : P .map = true) (htc : P .tc = true) (hlog : P .log = true) (hreb : P .reb = true) (hmed : P .med = true) (hrd : P .rd = true) (hsheet : P .sheet = true) (hmods : P .mods = true) (hnvme : P .nvme = true) (hrdma : P .rdma = true) (hnet : P .net = true) (hcip : P .cip = true) (hpair : P .pair = true) (hbpd : P .bpd = true) (hheld : P .held = true) (hmgmt : P .mgmt = true) (hevqs : P .evqs = true) (hmbx : P .mbx = true) (hflt : P .flt = true) (hpmc : P .pmc = true) (hboot : P .boot = true) (hout : P .out = true) (s : State) : (State.strikeEnd s).mask P = s.mask P := by simp [State.strikeEnd, *]

@[simp] theorem State.railLost_mask (hclk : P .clk = true) (hfn : P .fn = true) (hsched : P .sched = true) (hmap : P .map = true) (htc : P .tc = true) (hlog : P .log = true) (hreb : P .reb = true) (hmed : P .med = true) (hrd : P .rd = true) (hsheet : P .sheet = true) (hnvme : P .nvme = true) (hrdma : P .rdma = true) (hnet : P .net = true) (hcip : P .cip = true) (hpair : P .pair = true) (hbpd : P .bpd = true) (hmgmt : P .mgmt = true) (hevqs : P .evqs = true) (hmbx : P .mbx = true) (hflt : P .flt = true) (hpmc : P .pmc = true) (hboot : P .boot = true) (s : State) : (State.railLost s).mask P = s.mask P := by simp [State.railLost, *]

@[simp] theorem State.junctionTimes_mask (hboot : P .boot = true) (s : State) : (State.junctionTimes s).mask P = s.mask P := by simp [State.junctionTimes, *]

/-! Machine/ReplayOps.lean -/

@[simp] theorem State.loadGmd_mask (hmap : P .map = true) (s : State) (com : List SjRec) (pages : Tab Loc) : (State.loadGmd s com pages).mask P = s.mask P := by simp [State.loadGmd, *]

@[simp] theorem State.loadPage_mask (hmap : P .map = true) (htc : P .tc = true) (hheld : P .held = true) (hflt : P .flt = true) (s : State) (com : List SjRec) (mpn : Nat) : (State.loadPage s com mpn).mask P = s.mask P := by
  unfold State.loadPage
  repeat' (first | rfl | split | (refine (State.foldl_mask (fun _ _ => ?_) _ _).trans ?_) | simp [*])

@[simp] theorem State.loadSys_mask (hcip : P .cip = true) (hmap : P .map = true) (hreb : P .reb = true) (hmed : P .med = true) (hheld : P .held = true) (hflt : P .flt = true) (s : State) (com : List SjRec) : (State.loadSys s com).mask P = s.mask P := by simp [State.loadSys, *]

@[simp] theorem State.sysPlaces_mask (hmap : P .map = true) (s : State) (recs : List JRec) : (State.sysPlaces s recs).mask P = s.mask P := by simp [State.sysPlaces, *]

@[simp] theorem State.resumeCursor_mask (hreb : P .reb = true) (s : State) (cur : Option RebCursor) (old : Tab UnitDir) : (State.resumeCursor s cur old).mask P = s.mask P := by simp [State.resumeCursor, *]

@[simp] theorem State.restoreReads_mask (hmed : P .med = true) (s : State) : (State.restoreReads s).mask P = s.mask P := by
  unfold State.restoreReads
  repeat' (first | with_reducible rfl | split | (refine (State.foldl_mask (fun _ _ => ?_) _ _).trans ?_) | simp [*])

@[simp] theorem State.setCounter_mask (hlog : P .log = true) (s : State) (k p : Nat) : (State.setCounter s k p).mask P = s.mask P := by simp [State.setCounter, *]

@[simp] theorem State.notedRoles_mask (hreb : P .reb = true) (s : State) (u i : Nat) (r : SjRec) : (State.notedRoles s u i r).mask P = s.mask P := by
  unfold State.notedRoles
  repeat' (first | with_reducible rfl | split | (refine (State.foldl_mask (fun _ _ => ?_) _ _).trans ?_) | simp [*])

@[simp] theorem State.noteStripe_mask (hlog : P .log = true) (hreb : P .reb = true) (hmed : P .med = true) (s : State) (r : SjRec) : (State.noteStripe s r).mask P = s.mask P := by
  unfold State.noteStripe
  repeat' (first | with_reducible rfl | split | (refine (State.foldl_mask (fun _ _ => ?_) _ _).trans ?_) | simp [*])

@[simp] theorem State.noteStripes_mask (hlog : P .log = true) (hreb : P .reb = true) (hmed : P .med = true) (s : State) (sj : List SjRec) : (State.noteStripes s sj).mask P = s.mask P := by
  unfold State.noteStripes
  repeat' (first | rfl | split | (refine (State.foldl_mask (fun _ _ => ?_) _ _).trans ?_) | simp [*])

@[simp] theorem State.adoptUnit_mask (hlog : P .log = true) (s : State) (u : Nat) (d : UnitDir) : (State.adoptUnit s u d).mask P = s.mask P := by simp [State.adoptUnit, *]

@[simp] theorem State.adoptStream_mask (hlog : P .log = true) (s : State) (k : Nat) : (State.adoptStream s k).mask P = s.mask P := by
  unfold State.adoptStream
  repeat' (first | with_reducible rfl | split | (refine (State.foldl_mask (fun _ _ => ?_) _ _).trans ?_) | simp [*])

@[simp] theorem State.adoptUnits_mask (hlog : P .log = true) (s : State) : (State.adoptUnits s).mask P = s.mask P := by simp [State.adoptUnits, *]

@[simp] theorem State.chainsKept_mask (hlog : P .log = true) (s : State) (l : List (Nat × Nat)) (keep : Nat → Nat → Nat) : (State.chainsKept s l keep).mask P = s.mask P := by simp [State.chainsKept, *]

@[simp] theorem State.replaySet_mask (hmap : P .map = true) (htc : P .tc = true) (hheld : P .held = true) (hflt : P .flt = true) (s : State) (com : List SjRec) (ns lba : Nat) (e : MapEntry) (jpos : Nat) : (State.replaySet s com ns lba e jpos).mask P = s.mask P := by
  unfold State.replaySet
  repeat' (first | rfl | split | (refine (State.foldl_mask (fun _ _ => ?_) _ _).trans ?_) | simp [*])

@[simp] theorem State.replayRec_mask (hcip : P .cip = true) (hmap : P .map = true) (htc : P .tc = true) (hlog : P .log = true) (hheld : P .held = true) (hflt : P .flt = true) (s : State) (sj : List SjRec) (jpos : Nat) (r : JRec) : (State.replayRec s sj jpos r).mask P = s.mask P := by simp [State.replayRec, *]

@[simp] theorem State.recount_mask (hmap : P .map = true) (hlog : P .log = true) (hcip : P .cip = true) (s : State) (com : List SjRec) : (State.recount s com).mask P = s.mask P := by
  unfold State.recount
  repeat' (first | rfl | split | (refine (State.foldl_mask (fun _ _ => ?_) _ _).trans ?_) | simp [*])

@[simp] theorem State.closeUnknown_mask (hlog : P .log = true) (s : State) : (State.closeUnknown s).mask P = s.mask P := by simp [State.closeUnknown, *]

@[simp] theorem State.rebuildRow_mask (hlog : P .log = true) (hmed : P .med = true) (hevqs : P .evqs = true) (hout : P .out = true) (s : State) (com : List SjRec) (u b row taken : Nat) : (State.rebuildRow s com u b row taken).mask P = s.mask P := by simp [State.rebuildRow, *]

@[simp] theorem State.rebuildRows_mask (hlog : P .log = true) (hmed : P .med = true) (hevqs : P .evqs = true) (hout : P .out = true) (s : State) (com : List SjRec) : (State.rebuildRows s com).mask P = s.mask P := by
  unfold State.rebuildRows
  repeat' (first | rfl | split | (refine (State.foldl_mask (fun _ _ => ?_) _ _).trans ?_) | simp [*])

@[simp] theorem State.newEpoch_mask (hcip : P .cip = true) (hevqs : P .evqs = true) (hout : P .out = true) (s : State) : (State.newEpoch s).mask P = s.mask P := by simp [State.newEpoch, *]

@[simp] theorem State.restoreRclk_mask (hcip : P .cip = true) (s : State) (sample : Nat) : (State.restoreRclk s sample).mask P = s.mask P := by simp [State.restoreRclk, *]

@[simp] theorem State.retRestart_mask (hcip : P .cip = true) (s : State) (high : Nat) : (State.retRestart s high).mask P = s.mask P := by
  unfold State.retRestart
  split <;> simp [*]

@[simp] theorem State.supersede_mask (hsched : P .sched = true) (s : State) (wseq ns lba len : Nat) : (State.supersede s wseq ns lba len).mask P = s.mask P := by simp [State.supersede, *]

@[simp] theorem State.enterLoose_mask (hsched : P .sched = true) (s : State) (cands : List Cand) : (State.enterLoose s cands).mask P = s.mask P := by simp [State.enterLoose, *]

@[simp] theorem State.applyPlaced_mask (hcip : P .cip = true) (hsched : P .sched = true) (hmap : P .map = true) (htc : P .tc = true) (hlog : P .log = true) (hheld : P .held = true) (hflt : P .flt = true) (hout : P .out = true) (s : State) (com : List SjRec) (p : Payload) (at_ : Option (Nat × Nat)) (l : Loc) : (State.applyPlaced s com p at_ l).mask P = s.mask P := by
  unfold State.applyPlaced
  (repeat' split) <;> simp [*]

@[simp] theorem State.applyAll_mask (hcip : P .cip = true) (hfn : P .fn = true) (hsched : P .sched = true) (hmap : P .map = true) (htc : P .tc = true) (hlog : P .log = true) (hreb : P .reb = true) (hmed : P .med = true) (hsheet : P .sheet = true) (hheld : P .held = true) (hevqs : P .evqs = true) (hflt : P .flt = true) (hout : P .out = true) (s : State) (com : List SjRec) (cands : List Cand) (recs : List JRec) (keep : Nat → Nat → Nat) : (State.applyAll s com cands recs keep).mask P = s.mask P := by
  unfold State.applyAll
  repeat' (first | with_reducible rfl | split | (refine (State.foldl_mask (fun _ _ => ?_) _ _).trans ?_) | simp [*])

@[simp] theorem State.endReplay_mask (hsched : P .sched = true) (hmap : P .map = true) (hlog : P .log = true) (hmed : P .med = true) (hcip : P .cip = true) (hevqs : P .evqs = true) (hout : P .out = true) (s : State) (com : List SjRec) (high : Nat) : (State.endReplay s com high).mask P = s.mask P := by simp [State.endReplay, *]

@[simp] theorem State.setHalves_mask (hlog : P .log = true) (s : State) (used consumed : Option Nat) : (State.setHalves s used consumed).mask P = s.mask P := by simp [State.setHalves, *]

@[simp] theorem State.replayFrom_mask (hfn : P .fn = true) (hsched : P .sched = true) (hmap : P .map = true) (htc : P .tc = true) (hlog : P .log = true) (hreb : P .reb = true) (hmed : P .med = true) (hsheet : P .sheet = true) (hcip : P .cip = true) (hheld : P .held = true) (hevqs : P .evqs = true) (hflt : P .flt = true) (hout : P .out = true) (s : State) (root : Root) (index : List Loc) : (State.replayFrom s root index).mask P = s.mask P := by simp [State.replayFrom, *]

@[simp] theorem State.fullScan_mask (hfn : P .fn = true) (hsched : P .sched = true) (hmap : P .map = true) (htc : P .tc = true) (hlog : P .log = true) (hreb : P .reb = true) (hmed : P .med = true) (hsheet : P .sheet = true) (hcip : P .cip = true) (hheld : P .held = true) (hevqs : P .evqs = true) (hflt : P .flt = true) (hout : P .out = true) (s : State) : (State.fullScan s).mask P = s.mask P := by simp [State.fullScan, *]

@[simp] theorem State.replay_mask (hfn : P .fn = true) (hsched : P .sched = true) (hmap : P .map = true) (htc : P .tc = true) (hlog : P .log = true) (hreb : P .reb = true) (hmed : P .med = true) (hsheet : P .sheet = true) (hcip : P .cip = true) (hheld : P .held = true) (hevqs : P .evqs = true) (hflt : P .flt = true) (hout : P .out = true) (s : State) : (State.replay s).mask P = s.mask P := by
  unfold State.replay
  split <;> simp [*]

@[simp] theorem State.warmApply_mask (hfn : P .fn = true) (hsched : P .sched = true) (hmap : P .map = true) (htc : P .tc = true) (hlog : P .log = true) (hreb : P .reb = true) (hmed : P .med = true) (hsheet : P .sheet = true) (hcip : P .cip = true) (hheld : P .held = true) (hevqs : P .evqs = true) (hflt : P .flt = true) (hout : P .out = true) (s : State) : (State.warmApply s).mask P = s.mask P := by simp [State.warmApply, *]

/-! Machine/Tc.lean -/

@[simp] theorem State.fillWay_mask (hmap : P .map = true) (htc : P .tc = true) (s : State) (m : TcMiss) : (State.fillWay s m).2.mask P = s.mask P := by
  unfold State.fillWay
  split
  · rfl
  · split
    · split
      · rename_i h; simp [*, State.victim_mask htc h]
      · rfl
    · split <;> simp [*]

@[simp] theorem State.countFill_mask (htc : P .tc = true) (s : State) (m : TcMiss) (locked : Bool) : (State.countFill s m locked).mask P = s.mask P := by simp [State.countFill, *]

@[simp] theorem State.servePool_mask (hfn : P .fn = true) (hsched : P .sched = true) (hmap : P .map = true) (htc : P .tc = true) (hlog : P .log = true) (hreb : P .reb = true) (hmed : P .med = true) (hrd : P .rd = true) (hsheet : P .sheet = true) (hcip : P .cip = true) (hheld : P .held = true) (hevqs : P .evqs = true) (hflt : P .flt = true) (hout : P .out = true) (s : State) (m : TcMiss) : (State.servePool s m).mask P = s.mask P := by
  unfold State.servePool
  repeat' (first | rfl | split | (refine (State.foldl_mask (fun _ _ => ?_) _ _).trans ?_) | simp [*])

@[simp] theorem State.nextMiss_mask (hfn : P .fn = true) (hsched : P .sched = true) (hmap : P .map = true) (htc : P .tc = true) (hlog : P .log = true) (hreb : P .reb = true) (hmed : P .med = true) (hrd : P .rd = true) (hsheet : P .sheet = true) (hcip : P .cip = true) (hheld : P .held = true) (hevqs : P .evqs = true) (hflt : P .flt = true) (hout : P .out = true) (s : State) (cell : Nat) : (State.nextMiss s cell).mask P = s.mask P := by
  unfold State.nextMiss
  (repeat' split) <;> simp [*]

@[simp] theorem State.dropWays_mask (hmap : P .map = true) (htc : P .tc = true) (s : State) (ok : Nat → Bool) : (State.dropWays s ok).mask P = s.mask P := by simp [State.dropWays, *]

@[simp] theorem State.tcEmpty_mask (hmap : P .map = true) (htc : P .tc = true) (s : State) : (State.tcEmpty s).mask P = s.mask P := by simp [State.tcEmpty, *]

@[simp] theorem State.lockWays_mask (hmap : P .map = true) (htc : P .tc = true) (s : State) (value : BitVec 32) : (State.lockWays s value).mask P = s.mask P := by simp [State.lockWays, *]

@[simp] theorem State.reqOff_mask (htc : P .tc = true) (s : State) (v : BitVec 4) : (State.reqOff s v).mask P = s.mask P := by simp [State.reqOff, *]

@[simp] theorem State.unreserve_mask (htc : P .tc = true) (s : State) (ok : Nat → Bool) : (State.unreserve s ok).mask P = s.mask P := by
  unfold State.unreserve
  repeat' (first | with_reducible rfl | split | (refine (State.foldl_mask (fun _ _ => ?_) _ _).trans ?_) | simp [*])

@[simp] theorem State.rangeLine_mask (hmap : P .map = true) (htc : P .tc = true) (s : State) (op : Nat) (unlock : Bool) (x : Nat × Nat) : (State.rangeLine s op unlock x).mask P = s.mask P := by simp [State.rangeLine, *]

@[simp] theorem State.preloadLine_mask (hfn : P .fn = true) (hsched : P .sched = true) (hmap : P .map = true) (htc : P .tc = true) (hlog : P .log = true) (hreb : P .reb = true) (hmed : P .med = true) (hrd : P .rd = true) (hsheet : P .sheet = true) (hcip : P .cip = true) (hheld : P .held = true) (hevqs : P .evqs = true) (hflt : P .flt = true) (hout : P .out = true) (s : State) (la : Nat) : (State.preloadLine s la).mask P = s.mask P := by
  unfold State.preloadLine
  (repeat' split) <;> simp [*]

@[simp] theorem State.rangeAdvance_mask (hfn : P .fn = true) (hsched : P .sched = true) (hmap : P .map = true) (htc : P .tc = true) (hlog : P .log = true) (hreb : P .reb = true) (hmed : P .med = true) (hrd : P .rd = true) (hsheet : P .sheet = true) (hcip : P .cip = true) (hheld : P .held = true) (hevqs : P .evqs = true) (hflt : P .flt = true) (hout : P .out = true) (s : State) : (State.rangeAdvance s).mask P = s.mask P := by simp [State.rangeAdvance, *]

@[simp] theorem State.goRange_mask (hfn : P .fn = true) (hsched : P .sched = true) (hmap : P .map = true) (htc : P .tc = true) (hlog : P .log = true) (hreb : P .reb = true) (hmed : P .med = true) (hrd : P .rd = true) (hsheet : P .sheet = true) (hcip : P .cip = true) (hheld : P .held = true) (hevqs : P .evqs = true) (hflt : P .flt = true) (hout : P .out = true) (s : State) (op : Nat) (o : RangeOp) (mbx : Option Nat) : (State.goRange s op o mbx).mask P = s.mask P := by simp [State.goRange, *]

@[simp] theorem State.nextPin_mask (hfn : P .fn = true) (hsched : P .sched = true) (hmap : P .map = true) (htc : P .tc = true) (hlog : P .log = true) (hreb : P .reb = true) (hmed : P .med = true) (hrd : P .rd = true) (hsheet : P .sheet = true) (hcip : P .cip = true) (hheld : P .held = true) (hevqs : P .evqs = true) (hflt : P .flt = true) (hout : P .out = true) (s : State) : (State.nextPin s).mask P = s.mask P := by
  unfold State.nextPin
  (repeat' split) <;> simp [*]

@[simp] theorem State.preloadPinned_mask (hfn : P .fn = true) (hsched : P .sched = true) (hmap : P .map = true) (htc : P .tc = true) (hlog : P .log = true) (hreb : P .reb = true) (hmed : P .med = true) (hrd : P .rd = true) (hsheet : P .sheet = true) (hcip : P .cip = true) (hheld : P .held = true) (hevqs : P .evqs = true) (hflt : P .flt = true) (hout : P .out = true) (s : State) : (State.preloadPinned s).mask P = s.mask P := by
  unfold State.preloadPinned
  split <;> simp [*]

@[simp] theorem State.rangeAnswer_mask (htc : P .tc = true) (hmbx : P .mbx = true) (s : State) : (State.rangeAnswer s).mask P = s.mask P := by
  unfold State.rangeAnswer
  split <;> simp [*]

/-! Machine/RebuildOps.lean -/

@[simp] theorem State.resumeRebuild_mask (hreb : P .reb = true) (hevqs : P .evqs = true) (hout : P .out = true) (s : State) : (State.resumeRebuild s).mask P = s.mask P := by simp [State.resumeRebuild, *]

@[simp] theorem State.pauseRebuild_mask (hreb : P .reb = true) (s : State) : (State.pauseRebuild s).mask P = s.mask P := by simp [State.pauseRebuild, *]

@[simp] theorem State.relocateAt_mask (hfn : P .fn = true) (hsched : P .sched = true) (hmap : P .map = true) (htc : P .tc = true) (hlog : P .log = true) (hreb : P .reb = true) (hmed : P .med = true) (hrd : P .rd = true) (hsheet : P .sheet = true) (hcip : P .cip = true) (hheld : P .held = true) (hevqs : P .evqs = true) (hflt : P .flt = true) (hout : P .out = true) (s : State) (u : Nat) (loc : Loc) : (State.relocateAt s u loc).mask P = s.mask P := by
  have hb (n l : Nat) (e : Option MapEntry) (t : State) (h : s.backLook n l = (e, t)) : t.mask P = s.mask P := by
    have hm := State.backLook_mask hmap htc hheld hflt s n l
    rw [h] at hm
    exact hm
  unfold State.relocateAt
  split
  · clear hb; simp [*]
  · split
    · clear hb
      split <;> simp [*]
    · split
      · clear hb; simp [*]
      · split
        · rfl
        · split
          · split
            · rfl
            · split
              · rename_i t hh
                have ht := hb _ _ _ _ hh
                clear hb hh
                split <;> simp [*]
              · rename_i t hh
                have ht := hb _ _ _ _ hh
                clear hb hh
                simp [*]
          · clear hb
            simp [*]

@[simp] theorem State.relocateStripe_mask (hfn : P .fn = true) (hsched : P .sched = true) (hmap : P .map = true) (htc : P .tc = true) (hlog : P .log = true) (hreb : P .reb = true) (hmed : P .med = true) (hrd : P .rd = true) (hsheet : P .sheet = true) (hcip : P .cip = true) (hheld : P .held = true) (hevqs : P .evqs = true) (hflt : P .flt = true) (hout : P .out = true) (s : State) (u i : Nat) : (State.relocateStripe s u i).mask P = s.mask P := by simp [State.relocateStripe, *]

@[simp] theorem State.addRepair_mask (hfn : P .fn = true) (hsched : P .sched = true) (hmap : P .map = true) (htc : P .tc = true) (hlog : P .log = true) (hreb : P .reb = true) (hmed : P .med = true) (hrd : P .rd = true) (hsheet : P .sheet = true) (hcip : P .cip = true) (hheld : P .held = true) (hevqs : P .evqs = true) (hflt : P .flt = true) (hout : P .out = true) (s : State) (u i r : Nat) (old : Loc) (given : List (Nat × Payload)) : (State.addRepair s u i r old given).mask P = s.mask P := by simp [State.addRepair, *]

theorem State.reserve59_mask (hlog : P .log = true) (hreb : P .reb = true) (hmed : P .med = true) (hsheet : P .sheet = true) (hout : P .out = true) {s t : State} {q : Repair} {b : Nat} {l : Loc} (h : s.reserve59 q b = some (l, t)) : t.mask P = s.mask P := by
  have take : ∀ {s t : State} {l : Loc}, (match (s.stream 59).openUnit with
      | none => none
      | some v =>
        if !s.bayFor v b then none
        else match s.nextPage v b with
          | none => none
          | some l =>
            some (l, (s.addExc v ⟨(s.stream 59).index, 5, q.role, b, 0, q.unit + 2 ^ 20 * q.index + 2 ^ 36 * q.use⟩).onUnit v fun y =>
              { y with nextPos := tabUpd 0 y.nextPos b (· + 1) })) = some (l, t) → t.mask P = s.mask P := by
    intro s t l h
    split at h
    · cases h
    · split at h
      · cases h
      · split at h
        · cases h
        · obtain ⟨-, rfl⟩ := Prod.mk.inj (Option.some.inj h)
          simp [*]
  unfold State.reserve59 at h
  dsimp only at h
  split at h
  · cases h
  · split at h
    · rename_i x hx
      have hh := Option.some.inj h
      subst hh
      rw [take hx]; simp [*]
    · split at h
      · rw [take h]; simp [*]
      · cases h

@[simp] theorem State.reserveSlot_mask (hfn : P .fn = true) (hsched : P .sched = true) (hmap : P .map = true) (htc : P .tc = true) (hlog : P .log = true) (hreb : P .reb = true) (hmed : P .med = true) (hrd : P .rd = true) (hsheet : P .sheet = true) (hcip : P .cip = true) (hheld : P .held = true) (hevqs : P .evqs = true) (hflt : P .flt = true) (hout : P .out = true) (s : State) (slot : Nat) : (State.reserveSlot s slot).mask P = s.mask P := by
  unfold State.reserveSlot
  split
  · rfl
  · split
    · rfl
    · split
      · rename_i b l t h
        obtain ⟨b', -, h2⟩ := Option.bind_eq_some_iff.mp h
        obtain ⟨x, hx, h3⟩ := Option.map_eq_some_iff.mp h2
        cases h3
        simp only [State.onReb_mask, *]
        exact State.reserve59_mask hlog hreb hmed hsheet hout hx
      · split
        · simp [*]
        · split
          · rfl
          · simp [*]

@[simp] theorem State.programSlot_mask (hlog : P .log = true) (hsheet : P .sheet = true) (hout : P .out = true) (s : State) (slot : Nat) : (State.programSlot s slot).mask P = s.mask P := by
  unfold State.programSlot
  dsimp only
  repeat' (first | rfl | (rename_i h; simp [*, State.issue_mask hsheet hout h]; done) | split | simp [*])

@[simp] theorem State.addStrip_mask (hreb : P .reb = true) (s : State) (q : Repair) : (State.addStrip s q).mask P = s.mask P := by simp [State.addStrip, *]

@[simp] theorem State.repointStrip_mask (hfn : P .fn = true) (hmap : P .map = true) (htc : P .tc = true) (hlog : P .log = true) (hreb : P .reb = true) (hmed : P .med = true) (hsheet : P .sheet = true) (hcip : P .cip = true) (hheld : P .held = true) (hevqs : P .evqs = true) (hflt : P .flt = true) (hout : P .out = true) (s : State) (q : Repair) : (State.repointStrip s q).mask P = s.mask P := by simp [State.repointStrip, *]

@[simp] theorem State.batchStep_mask (hfn : P .fn = true) (hsched : P .sched = true) (hmap : P .map = true) (htc : P .tc = true) (hlog : P .log = true) (hreb : P .reb = true) (hmed : P .med = true) (hrd : P .rd = true) (hsheet : P .sheet = true) (hcip : P .cip = true) (hheld : P .held = true) (hevqs : P .evqs = true) (hflt : P .flt = true) (hout : P .out = true) (s : State) : (State.batchStep s).mask P = s.mask P := by
  unfold State.batchStep
  split <;> simp [*]

/-! Machine/Faults.lean -/

@[simp] theorem State.recordWord_mask (hflt : P .flt = true) (s : State) (w : FWord) (level : Nat) (climbed summary : Bool) : (State.recordWord s w level climbed summary).2.mask P = s.mask P := by simp [State.recordWord, *]

@[simp] theorem State.faultEvent_mask (hevqs : P .evqs = true) (hout : P .out = true) (s : State) (w : FWord) (seq : Nat) : (State.faultEvent s w seq).mask P = s.mask P := by simp [State.faultEvent, *]

@[simp] theorem State.giveUpLease_mask (hreb : P .reb = true) (hsheet : P .sheet = true) (hnvme : P .nvme = true) (hrdma : P .rdma = true) (hnet : P .net = true) (hpair : P .pair = true) (hmgmt : P .mgmt = true) (hevqs : P .evqs = true) (hout : P .out = true) (s : State) : (State.giveUpLease s).mask P = s.mask P := by simp [State.giveUpLease, *]

@[simp] theorem State.fenceRegion_mask (hfn : P .fn = true) (hreb : P .reb = true) (hsheet : P .sheet = true) (hnvme : P .nvme = true) (hrdma : P .rdma = true) (hnet : P .net = true) (hpair : P .pair = true) (hmgmt : P .mgmt = true) (hevqs : P .evqs = true) (hflt : P .flt = true) (hout : P .out = true) (s : State) (r : Nat) : (State.fenceRegion s r).mask P = s.mask P := by simp [State.fenceRegion, *]

@[simp] theorem State.chipStop_mask (hsheet : P .sheet = true) (hpair : P .pair = true) (hflt : P .flt = true) (hout : P .out = true) (s : State) : (State.chipStop s).mask P = s.mask P := by simp [State.chipStop, *]

@[simp] theorem State.chipHandle_mask (hfn : P .fn = true) (hreb : P .reb = true) (hsheet : P .sheet = true) (hnvme : P .nvme = true) (hrdma : P .rdma = true) (hnet : P .net = true) (hpair : P .pair = true) (hmgmt : P .mgmt = true) (hevqs : P .evqs = true) (hflt : P .flt = true) (hout : P .out = true) (s : State) (w : FWord) : (State.chipHandle s w).mask P = s.mask P := by
  unfold State.chipHandle
  (repeat' split) <;> simp [*]

@[simp] theorem State.promote_mask (hfn : P .fn = true) (hreb : P .reb = true) (hsheet : P .sheet = true) (hnvme : P .nvme = true) (hrdma : P .rdma = true) (hnet : P .net = true) (hpair : P .pair = true) (hmgmt : P .mgmt = true) (hevqs : P .evqs = true) (hflt : P .flt = true) (hout : P .out = true) (s : State) (c : Node) : (State.promote s c).mask P = s.mask P := by
  unfold State.promote
  repeat' (first | rfl | split | (refine (State.foldl_mask (fun _ _ => ?_) _ _).trans ?_) | simp [*])

@[simp] theorem State.takeWord_mask (hflt : P .flt = true) (s : State) (c : Node) : (State.takeWord s c).mask P = s.mask P := by
  unfold State.takeWord
  repeat' (first | rfl | split | (refine (State.foldl_mask (fun _ _ => ?_) _ _).trans ?_) | simp [*])

@[simp] theorem State.counterLost_mask (hpmc : P .pmc = true) (s : State) (word : BitVec 64) : (State.counterLost s word).mask P = s.mask P := by simp [State.counterLost, *]

@[simp] theorem State.tcFault_mask (htc : P .tc = true) (hheld : P .held = true) (hflt : P .flt = true) (s : State) (word : BitVec 64) : (State.tcFault s word).mask P = s.mask P := by
  unfold State.tcFault
  (repeat' split) <;> simp [*]

@[simp] theorem State.withdraw_mask (hfn : P .fn = true) (hsched : P .sched = true) (hmap : P .map = true) (htc : P .tc = true) (hlog : P .log = true) (hreb : P .reb = true) (hmed : P .med = true) (hrd : P .rd = true) (hsheet : P .sheet = true) (hcip : P .cip = true) (hheld : P .held = true) (hevqs : P .evqs = true) (hflt : P .flt = true) (hout : P .out = true) (s : State) (u : Nat) : (State.withdraw s u).mask P = s.mask P := by simp [State.withdraw, *]

@[simp] theorem State.retireRule_mask (hfn : P .fn = true) (hsched : P .sched = true) (hmap : P .map = true) (htc : P .tc = true) (hlog : P .log = true) (hreb : P .reb = true) (hmed : P .med = true) (hrd : P .rd = true) (hsheet : P .sheet = true) (hcip : P .cip = true) (hheld : P .held = true) (hevqs : P .evqs = true) (hflt : P .flt = true) (hout : P .out = true) (s : State) (w : BitVec 64) : (State.retireRule s w).mask P = s.mask P := by simp [State.retireRule, *]

@[simp] theorem State.ackRecord_mask (hflt : P .flt = true) (s : State) (seq : Nat) : (State.ackRecord s seq).mask P = s.mask P := by simp [State.ackRecord, *]

@[simp] theorem State.takeHeldWord_mask (hfn : P .fn = true) (hreb : P .reb = true) (hsheet : P .sheet = true) (hnvme : P .nvme = true) (hrdma : P .rdma = true) (hnet : P .net = true) (hpair : P .pair = true) (hheld : P .held = true) (hmgmt : P .mgmt = true) (hevqs : P .evqs = true) (hflt : P .flt = true) (hout : P .out = true) (s : State) (w : FWord) : (State.takeHeldWord s w).mask P = s.mask P := by simp [State.takeHeldWord, *]

/-! Machine/WriteLog.lean -/

@[simp] theorem State.pastDeadline_mask (hfn : P .fn = true) (hlog : P .log = true) (hreb : P .reb = true) (hmed : P .med = true) (hsheet : P .sheet = true) (hevqs : P .evqs = true) (hout : P .out = true) (s : State) (k : Nat) : (State.pastDeadline s k).mask P = s.mask P := by
  unfold State.pastDeadline
  (repeat' split) <;> simp [*]

@[simp] theorem State.mirrorOut_mask (hout : P .out = true) (s : State) (k : Nat) (l : List Payload) : (State.mirrorOut s k l).mask P = s.mask P := by simp [State.mirrorOut, *]

@[simp] theorem State.mirrorLate_mask (hsched : P .sched = true) (hlog : P .log = true) (hnvme : P .nvme = true) (hrdma : P .rdma = true) (hnet : P .net = true) (hpair : P .pair = true) (hmgmt : P .mgmt = true) (hevqs : P .evqs = true) (hmbx : P .mbx = true) (hout : P .out = true) (s : State) (ord : Nat) : (State.mirrorLate s ord).mask P = s.mask P := by simp [State.mirrorLate, *]

@[simp] theorem State.applyRec_mask (hmap : P .map = true) (htc : P .tc = true) (hlog : P .log = true) (hcip : P .cip = true) (s : State) (r : JRec) (jpos : Nat) : (State.applyRec s r jpos).mask P = s.mask P := by
  unfold State.applyRec
  repeat' (first | rfl | split | (refine (State.foldl_mask (fun _ _ => ?_) _ _).trans ?_) | simp [*])

@[simp] theorem State.serveWait_mask (hfn : P .fn = true) (hsched : P .sched = true) (hmap : P .map = true) (htc : P .tc = true) (hlog : P .log = true) (hreb : P .reb = true) (hmed : P .med = true) (hrd : P .rd = true) (hsheet : P .sheet = true) (hcip : P .cip = true) (hheld : P .held = true) (hevqs : P .evqs = true) (hflt : P .flt = true) (hout : P .out = true) (s : State) (w : MapWait) : (State.serveWait s w).mask P = s.mask P := by
  cases w <;> simp only [State.serveWait]
  all_goals (repeat' (first | with_reducible rfl | split | simp [*]))

/-! Machine/Rdma.lean -/

@[simp] theorem State.dropPkt_mask (hrdma : P .rdma = true) (s : State) (q : Nat) : (State.dropPkt s q).mask P = s.mask P := by simp [State.dropPkt, *]

@[simp] theorem State.endFetch_mask (hsched : P .sched = true) (hlog : P .log = true) (hnvme : P .nvme = true) (hrdma : P .rdma = true) (hnet : P .net = true) (hmbx : P .mbx = true) (hout : P .out = true) (s : State) (ord : Nat) : (State.endFetch s ord).mask P = s.mask P := by
  unfold State.endFetch
  repeat' (first | rfl | split | (refine (State.foldl_mask (fun _ _ => ?_) _ _).trans ?_) | simp [*])

@[simp] theorem State.flushQp_mask (hsched : P .sched = true) (hlog : P .log = true) (hnvme : P .nvme = true) (hrdma : P .rdma = true) (hnet : P .net = true) (hmbx : P .mbx = true) (hout : P .out = true) (s : State) (q : Nat) : (State.flushQp s q).mask P = s.mask P := by
  unfold State.flushQp
  repeat' (first | rfl | split | (refine (State.foldl_mask (fun _ _ => ?_) _ _).trans ?_) | simp [*])

@[simp] theorem State.failQp_mask (hsched : P .sched = true) (hlog : P .log = true) (hnvme : P .nvme = true) (hrdma : P .rdma = true) (hnet : P .net = true) (hevqs : P .evqs = true) (hmbx : P .mbx = true) (hout : P .out = true) (s : State) (q : Nat) : (State.failQp s q).mask P = s.mask P := by
  unfold State.failQp
  repeat' (first | rfl | split | (refine (State.foldl_mask (fun _ _ => ?_) _ _).trans ?_) | simp [*])

@[simp] theorem State.teardownCtl_mask (hsched : P .sched = true) (hlog : P .log = true) (hnvme : P .nvme = true) (hrdma : P .rdma = true) (hnet : P .net = true) (hmbx : P .mbx = true) (hout : P .out = true) (s : State) (c : Nat) : (State.teardownCtl s c).mask P = s.mask P := by simp [State.teardownCtl, *]

@[simp] theorem State.closeQueue_mask (hsched : P .sched = true) (hlog : P .log = true) (hnvme : P .nvme = true) (hrdma : P .rdma = true) (hnet : P .net = true) (hmbx : P .mbx = true) (hout : P .out = true) (s : State) (q : Nat) : (State.closeQueue s q).mask P = s.mask P := by
  unfold State.closeQueue
  repeat' (first | rfl | split | (refine (State.foldl_mask (fun _ _ => ?_) _ _).trans ?_) | simp [*])

@[simp] theorem State.countRetry_mask (hsched : P .sched = true) (hlog : P .log = true) (hnvme : P .nvme = true) (hrdma : P .rdma = true) (hnet : P .net = true) (hevqs : P .evqs = true) (hmbx : P .mbx = true) (hout : P .out = true) (s : State) (q : Nat) : (State.countRetry s q).2.mask P = s.mask P := by
  unfold State.countRetry
  repeat' (first | rfl | split | (refine (State.foldl_mask (fun _ _ => ?_) _ _).trans ?_) | simp [*])

@[simp] theorem State.acceptPkt_mask (hrdma : P .rdma = true) (s : State) (h : PktHdr) : (State.acceptPkt s h).2.mask P = s.mask P := by
  unfold State.acceptPkt
  repeat' (first | rfl | split | (refine (State.foldl_mask (fun _ _ => ?_) _ _).trans ?_) | simp [*])

@[simp] theorem State.toTimewait_mask (hrdma : P .rdma = true) (s : State) (q : Nat) : (State.toTimewait s q).mask P = s.mask P := by simp [State.toTimewait, *]

@[simp] theorem State.forwardWhole_mask (hsched : P .sched = true) (hrdma : P .rdma = true) (hout : P .out = true) (s : State) (ord : Nat) : (State.forwardWhole s ord).mask P = s.mask P := by
  unfold State.forwardWhole
  (repeat' split) <;> simp [*]

@[simp] theorem State.readAgain_mask (hsched : P .sched = true) (hlog : P .log = true) (hnvme : P .nvme = true) (hrdma : P .rdma = true) (hnet : P .net = true) (hevqs : P .evqs = true) (hmbx : P .mbx = true) (hout : P .out = true) (s : State) (q : Nat) (r : RdReq) : (State.readAgain s q r).mask P = s.mask P := by
  unfold State.readAgain
  dsimp only
  split
  · rfl
  · have h : (s.countRetry q).2.mask P = s.mask P := by simp [*]
    split
    · rename_i h2; rw [h2] at h; exact h
    · rename_i h2
      rw [h2] at h
      clear h2
      split <;> simp_all

@[simp] theorem State.resend_mask (hrdma : P .rdma = true) (hout : P .out = true) (s : State) (q : Nat) : (State.resend s q).mask P = s.mask P := by
  unfold State.resend
  split <;> simp [*]

@[simp] theorem State.freeSends_mask (hrdma : P .rdma = true) (s : State) (q : Nat) (psn : BitVec 24) : (State.freeSends s q psn).mask P = s.mask P := by simp [State.freeSends, *]

@[simp] theorem State.sendData_mask (hsched : P .sched = true) (hrdma : P .rdma = true) (hnet : P .net = true) (hout : P .out = true) (s : State) (q ord fuel : Nat) : (State.sendData s q ord fuel).mask P = s.mask P := by
  induction fuel generalizing s with
  | zero => rfl
  | succ n ih =>
    unfold State.sendData
    repeat' (first | rfl | split | simp [*])

@[simp] theorem State.mbxDataOut_mask (hsched : P .sched = true) (hnvme : P .nvme = true) (hmgmt : P .mgmt = true) (hmbx : P .mbx = true) (hout : P .out = true) (s : State) (ord : Nat) (c : Cmd) (m : Nat) : (State.mbxDataOut s ord c m).mask P = s.mask P := by
  unfold State.mbxDataOut
  split <;> simp [*]

/-! Machine/Logs.lean -/

@[simp] theorem State.smartCheck_mask (hnvme : P .nvme = true) (hrdma : P .rdma = true) (hnet : P .net = true) (hout : P .out = true) (s : State) : (State.smartCheck s).mask P = s.mask P := by
  unfold State.smartCheck
  repeat' (first | rfl | split | (refine (State.foldl_mask (fun _ _ => ?_) _ _).trans ?_) | simp [*])

/-! Machine/Nvme.lean -/

@[simp] theorem State.needRange_mask (hfn : P .fn = true) (hsched : P .sched = true) (hmap : P .map = true) (htc : P .tc = true) (hlog : P .log = true) (hreb : P .reb = true) (hmed : P .med = true) (hrd : P .rd = true) (hsheet : P .sheet = true) (hcip : P .cip = true) (hheld : P .held = true) (hevqs : P .evqs = true) (hflt : P .flt = true) (hout : P .out = true) (s : State) (ns lba len : Nat) : (State.needRange s ns lba len).mask P = s.mask P := by simp [State.needRange, *]

@[simp] theorem State.clearRange_mask (hfn : P .fn = true) (hsched : P .sched = true) (hmap : P .map = true) (htc : P .tc = true) (hlog : P .log = true) (hreb : P .reb = true) (hmed : P .med = true) (hsheet : P .sheet = true) (hcip : P .cip = true) (hevqs : P .evqs = true) (hout : P .out = true) (s : State) (ord ns lba len : Nat) (zeroes : Bool) : (State.clearRange s ord ns lba len zeroes).mask P = s.mask P := by simp [State.clearRange, *]

@[simp] theorem State.readyRanges_mask (hfn : P .fn = true) (hsched : P .sched = true) (hmap : P .map = true) (htc : P .tc = true) (hlog : P .log = true) (hreb : P .reb = true) (hmed : P .med = true) (hrd : P .rd = true) (hsheet : P .sheet = true) (hcip : P .cip = true) (hheld : P .held = true) (hevqs : P .evqs = true) (hflt : P .flt = true) (hout : P .out = true) (s : State) (ns : Nat) (l : List (Nat × Nat)) (zeroes : Bool) : (State.readyRanges s ns l zeroes).2.mask P = s.mask P := by simp [State.readyRanges, *]

@[simp] theorem State.clearCmd_mask (hfn : P .fn = true) (hsched : P .sched = true) (hmap : P .map = true) (htc : P .tc = true) (hlog : P .log = true) (hreb : P .reb = true) (hmed : P .med = true) (hrd : P .rd = true) (hsheet : P .sheet = true) (hnvme : P .nvme = true) (hrdma : P .rdma = true) (hnet : P .net = true) (hcip : P .cip = true) (hheld : P .held = true) (hevqs : P .evqs = true) (hmbx : P .mbx = true) (hflt : P .flt = true) (hout : P .out = true) (s : State) (ord : Nat) (c : Cmd) (zeroes : Bool) : (State.clearCmd s ord c zeroes).mask P = s.mask P := by simp [State.clearCmd, *]

@[simp] theorem State.popCap_mask (hnvme : P .nvme = true) (hrdma : P .rdma = true) (s : State) (q : Nat) : (State.popCap s q).mask P = s.mask P := by
  unfold State.popCap
  split <;> simp [*]

@[simp] theorem State.endCap_mask (hnvme : P .nvme = true) (hrdma : P .rdma = true) (hnet : P .net = true) (hout : P .out = true) (s : State) (q cid sct sc : Nat) (dnr : Bool) (dw0 : Nat) : (State.endCap s q cid sct sc dnr dw0).mask P = s.mask P := by
  unfold State.endCap
  repeat' (first | rfl | split | (refine (State.foldl_mask (fun _ _ => ?_) _ _).trans ?_) | simp [*])

@[simp] theorem State.sendPage_mask (hrdma : P .rdma = true) (hnet : P .net = true) (hout : P .out = true) (s : State) (q : Nat) (c : Capsule) (page off len : Nat) : (State.sendPage s q c page off len).mask P = s.mask P := by simp [State.sendPage, *]

@[simp] theorem State.pageReply_mask (hnvme : P .nvme = true) (hrdma : P .rdma = true) (hnet : P .net = true) (hout : P .out = true) (s : State) (q : Nat) (c : Capsule) (page off len : Nat) : (State.pageReply s q c page off len).mask P = s.mask P := by simp [State.pageReply, *]

@[simp] theorem State.reserve_mask (hnvme : P .nvme = true) (hout : P .out = true) (s : State) (q t n : Nat) : (State.reserve s q t n).mask P = s.mask P := by simp [State.reserve, *]

@[simp] theorem State.bindChain_mask (hlog : P .log = true) (s : State) (tenant ns ch _q : Nat) : (State.bindChain s tenant ns ch _q).2.mask P = s.mask P := by
  unfold State.bindChain
  repeat' (first | rfl | split | (refine (State.foldl_mask (fun _ _ => ?_) _ _).trans ?_) | simp [*])

@[simp] theorem State.sendForward_mask (hsched : P .sched = true) (hnvme : P .nvme = true) (hrdma : P .rdma = true) (hout : P .out = true) (s : State) (q : Nat) (c : Capsule) (k : CmdKind) : (State.sendForward s q c k).mask P = s.mask P := by simp [State.sendForward, *]

/-! Machine/Power.lean -/

@[simp] theorem State.insertModule_mask (hmods : P .mods = true) (hmedia : P .media = true) (s : State) (b : Nat) (d : ModuleDesc) : (State.insertModule s b d).mask P = s.mask P := by simp [State.insertModule, *]

@[simp] theorem State.onFeed_mask (hbpd : P .bpd = true) (s : State) (f : Feed) (g : FeedSt → FeedSt) : (State.onFeed s f g).mask P = s.mask P := by
  unfold State.onFeed
  split <;> simp [*]

/-! Machine/Pair.lean -/

@[simp] theorem State.setShroud_mask (hpair : P .pair = true) (s : State) (sh : Shroud) (x : ShroudSt) : (State.setShroud s sh x).mask P = s.mask P := by simp [State.setShroud, *]

@[simp] theorem State.noteShroud_mask (hpair : P .pair = true) (hevqs : P .evqs = true) (hout : P .out = true) (s : State) (sh : Shroud) : (State.noteShroud s sh).mask P = s.mask P := by simp [State.noteShroud, *]

@[simp] theorem State.checkReach_mask (hlog : P .log = true) (hreb : P .reb = true) (hsheet : P .sheet = true) (hevqs : P .evqs = true) (hout : P .out = true) (s : State) : (State.checkReach s).mask P = s.mask P := by simp [State.checkReach, *]

@[simp] theorem State.toSingle_mask (hsched : P .sched = true) (hlog : P .log = true) (hnvme : P .nvme = true) (hrdma : P .rdma = true) (hnet : P .net = true) (hpair : P .pair = true) (hmgmt : P .mgmt = true) (hevqs : P .evqs = true) (hmbx : P .mbx = true) (hout : P .out = true) (s : State) : (State.toSingle s).mask P = s.mask P := by simp [State.toSingle, *]

@[simp] theorem State.toActive_mask (hsched : P .sched = true) (hnvme : P .nvme = true) (hrdma : P .rdma = true) (hnet : P .net = true) (hpair : P .pair = true) (hmgmt : P .mgmt = true) (hevqs : P .evqs = true) (hout : P .out = true) (s : State) : (State.toActive s).mask P = s.mask P := by simp [State.toActive, *]

@[simp] theorem State.sendResync_mask (hout : P .out = true) (s : State) : (State.sendResync s).mask P = s.mask P := by simp [State.sendResync, *]

@[simp] theorem State.lapsedJoin_mask (hfn : P .fn = true) (hsched : P .sched = true) (hmap : P .map = true) (htc : P .tc = true) (hlog : P .log = true) (hreb : P .reb = true) (hrd : P .rd = true) (hsheet : P .sheet = true) (hnvme : P .nvme = true) (hrdma : P .rdma = true) (hnet : P .net = true) (hpair : P .pair = true) (hmgmt : P .mgmt = true) (hevqs : P .evqs = true) (hout : P .out = true) (s : State) : (State.lapsedJoin s).mask P = s.mask P := by simp [State.lapsedJoin, *]

@[simp] theorem State.standbyBack_mask (hnvme : P .nvme = true) (hrdma : P .rdma = true) (hnet : P .net = true) (hpair : P .pair = true) (hmgmt : P .mgmt = true) (hevqs : P .evqs = true) (hout : P .out = true) (s : State) : (State.standbyBack s).mask P = s.mask P := by simp [State.standbyBack, *]

@[simp] theorem State.heard_mask (hfn : P .fn = true) (hsched : P .sched = true) (hmap : P .map = true) (htc : P .tc = true) (hlog : P .log = true) (hreb : P .reb = true) (hmed : P .med = true) (hrd : P .rd = true) (hsheet : P .sheet = true) (hmods : P .mods = true) (hnvme : P .nvme = true) (hrdma : P .rdma = true) (hnet : P .net = true) (hcip : P .cip = true) (hpair : P .pair = true) (hheld : P .held = true) (hmgmt : P .mgmt = true) (hevqs : P .evqs = true) (hmbx : P .mbx = true) (hflt : P .flt = true) (hout : P .out = true) (s : State) (sh : Shroud) (m : LeaseMsg) : (State.heard s sh m).mask P = s.mask P := by simp [State.heard, *]

@[simp] theorem State.followRclk_mask (hcip : P .cip = true) (s : State) (m : LeaseMsg) : (State.followRclk s m).mask P = s.mask P := by simp [State.followRclk, *]

@[simp] theorem State.takePast_mask (hfn : P .fn = true) (hsheet : P .sheet = true) (hnvme : P .nvme = true) (hrdma : P .rdma = true) (hnet : P .net = true) (hpair : P .pair = true) (hmgmt : P .mgmt = true) (hevqs : P .evqs = true) (hout : P .out = true) (s : State) : (State.takePast s).mask P = s.mask P := by
  unfold State.takePast
  repeat' split
  all_goals simp [*]

@[simp] theorem State.stopPast_mask (hreb : P .reb = true) (hsheet : P .sheet = true) (hnvme : P .nvme = true) (hrdma : P .rdma = true) (hnet : P .net = true) (hpair : P .pair = true) (hmgmt : P .mgmt = true) (hevqs : P .evqs = true) (hout : P .out = true) (s : State) : (State.stopPast s).mask P = s.mask P := by simp [State.stopPast, *]

@[simp] theorem State.takeEnd_mask (hfn : P .fn = true) (hsched : P .sched = true) (hmap : P .map = true) (htc : P .tc = true) (hlog : P .log = true) (hreb : P .reb = true) (hmed : P .med = true) (hrd : P .rd = true) (hsheet : P .sheet = true) (hnvme : P .nvme = true) (hrdma : P .rdma = true) (hnet : P .net = true) (hcip : P .cip = true) (hpair : P .pair = true) (hheld : P .held = true) (hmgmt : P .mgmt = true) (hevqs : P .evqs = true) (hmbx : P .mbx = true) (hflt : P .flt = true) (hout : P .out = true) (s : State) : (State.takeEnd s).mask P = s.mask P := by simp [State.takeEnd, *]

@[simp] theorem State.beginSwap_mask (hfn : P .fn = true) (hmap : P .map = true) (htc : P .tc = true) (hlog : P .log = true) (hreb : P .reb = true) (hmed : P .med = true) (hsheet : P .sheet = true) (hnvme : P .nvme = true) (hrdma : P .rdma = true) (hnet : P .net = true) (hpair : P .pair = true) (hevqs : P .evqs = true) (hout : P .out = true) (s : State) : (State.beginSwap s).mask P = s.mask P := by simp [State.beginSwap, *]

@[simp] theorem State.toMirror_mask (hlog : P .log = true) (s : State) : (State.toMirror s).mask P = s.mask P := by simp [State.toMirror, *]

/-! Machine/Module.lean -/

@[simp] theorem State.moduleSays_mask (hmods : P .mods = true) (hout : P .out = true) (s : State) (b : Nat) (c : SheetCmd) (code status : Nat) (res : SheetResult) (frames : List Payload) : (State.moduleSays s b c code status res frames).mask P = s.mask P := by simp [State.moduleSays, *]

@[simp] theorem State.moduleDoes_mask (hmods : P .mods = true) (hout : P .out = true) (s : State) (b : Nat) (c : SheetCmd) (code : Nat) {f : Module → State} (hf : ∀ m, (f m).mask P = s.mask P) : (State.moduleDoes s b c code f).mask P = s.mask P := by
  unfold State.moduleDoes
  repeat' (first | rfl | split | simp [*])

@[simp] theorem State.dieOp_mask (hmods : P .mods = true) (hout : P .out = true) (s : State) (b : Nat) (c : SheetCmd) (code : Nat) (inRange : Module → Bool) {f : Module → State} (hf : ∀ m, (f m).mask P = s.mask P) : (State.dieOp s b c code inRange f).mask P = s.mask P := by
  unfold State.dieOp
  refine State.moduleDoes_mask hmods hout s b c code fun m => ?_
  repeat' (first | rfl | split | simp [*])

@[simp] theorem State.putPage_mask (hmedia : P .media = true) (s : State) (b die page : Nat) (l : List Payload) : (State.putPage s b die page l).mask P = s.mask P := by simp [State.putPage, *]

@[simp] theorem State.freePage_mask (hmedia : P .media = true) (hfreeNo : P .freeNo = true) (s : State) (b die page : Nat) : (State.freePage s b die page).mask P = s.mask P := by simp [State.freePage, *]

/-! Machine/Sheet.lean -/

@[simp] theorem State.retestMin_mask (hfn : P .fn = true) (s : State) : (State.retestMin s).mask P = s.mask P := by
  unfold State.retestMin
  split <;> simp [*]

@[simp] theorem State.foreign_mask (hsheet : P .sheet = true) (hevqs : P .evqs = true) (hout : P .out = true) (s : State) (b : Nat) : (State.foreign s b).mask P = s.mask P := by simp [State.foreign, *]

@[simp] theorem State.toReady_mask (hfn : P .fn = true) (hsheet : P .sheet = true) (hevqs : P .evqs = true) (hout : P .out = true) (s : State) (b : Nat) : (State.toReady s b).mask P = s.mask P := by simp [State.toReady, *]

@[simp] theorem State.forgetBay_mask (hreb : P .reb = true) (hmed : P .med = true) (s : State) (b : Nat) : (State.forgetBay s b).mask P = s.mask P := by simp [State.forgetBay, *]

@[simp] theorem State.identify_mask (hfn : P .fn = true) (hreb : P .reb = true) (hmed : P .med = true) (hsheet : P .sheet = true) (hevqs : P .evqs = true) (hout : P .out = true) (s : State) (b : Nat) (d : ModuleDesc) : (State.identify s b d).mask P = s.mask P := by simp [State.identify, *]

@[simp] theorem State.tookDesc_mask (hfn : P .fn = true) (hreb : P .reb = true) (hmed : P .med = true) (hsheet : P .sheet = true) (hevqs : P .evqs = true) (hout : P .out = true) (s : State) (b page : Nat) (d : ModuleDesc) : (State.tookDesc s b page d).mask P = s.mask P := by
  unfold State.tookDesc
  (repeat' split) <;> simp [*]

@[simp] theorem State.retireModule_mask (hfn : P .fn = true) (hsched : P .sched = true) (hmap : P .map = true) (htc : P .tc = true) (hlog : P .log = true) (hreb : P .reb = true) (hmed : P .med = true) (hrd : P .rd = true) (hsheet : P .sheet = true) (hcip : P .cip = true) (hheld : P .held = true) (hevqs : P .evqs = true) (hflt : P .flt = true) (hout : P .out = true) (s : State) (b : Nat) : (State.retireModule s b).mask P = s.mask P := by simp [State.retireModule, *]

@[simp] theorem State.enterService_mask (hfn : P .fn = true) (hlog : P .log = true) (hreb : P .reb = true) (hmed : P .med = true) (hsheet : P .sheet = true) (hevqs : P .evqs = true) (hout : P .out = true) (s : State) (b : Nat) : (State.enterService s b).mask P = s.mask P := by
  unfold State.enterService
  repeat' (first | rfl | split | (refine (State.foldl_mask (fun _ _ => ?_) _ _).trans ?_) | simp [*])

@[simp] theorem State.retrain_mask (hsheet : P .sheet = true) (s : State) (b : Nat) : (State.retrain s b).mask P = s.mask P := by simp [State.retrain, *]

@[simp] theorem State.retireLane_mask (hfn : P .fn = true) (hsched : P .sched = true) (hmap : P .map = true) (htc : P .tc = true) (hlog : P .log = true) (hreb : P .reb = true) (hmed : P .med = true) (hrd : P .rd = true) (hsheet : P .sheet = true) (hcip : P .cip = true) (hheld : P .held = true) (hevqs : P .evqs = true) (hflt : P .flt = true) (hout : P .out = true) (s : State) (b l : Nat) : (State.retireLane s b l).mask P = s.mask P := by simp [State.retireLane, *]

@[simp] theorem State.attemptFailed_mask (hfn : P .fn = true) (hsched : P .sched = true) (hmap : P .map = true) (htc : P .tc = true) (hlog : P .log = true) (hreb : P .reb = true) (hmed : P .med = true) (hrd : P .rd = true) (hsheet : P .sheet = true) (hcip : P .cip = true) (hheld : P .held = true) (hevqs : P .evqs = true) (hflt : P .flt = true) (hout : P .out = true) (s : State) (b : Nat) : (State.attemptFailed s b).mask P = s.mask P := by simp [State.attemptFailed, *]

@[simp] theorem State.portCameUp_mask (hfn : P .fn = true) (hsheet : P .sheet = true) (hevqs : P .evqs = true) (hout : P .out = true) (s : State) (b : Nat) : (State.portCameUp s b).mask P = s.mask P := by
  unfold State.portCameUp
  split <;> simp [*]

@[simp] theorem State.tryUp_mask (hfn : P .fn = true) (hsheet : P .sheet = true) (hevqs : P .evqs = true) (hout : P .out = true) (s : State) (b : Nat) : (State.tryUp s b).mask P = s.mask P := by simp [State.tryUp, *]

@[simp] theorem State.frameFailed_mask (hfn : P .fn = true) (hsched : P .sched = true) (hmap : P .map = true) (htc : P .tc = true) (hlog : P .log = true) (hreb : P .reb = true) (hmed : P .med = true) (hrd : P .rd = true) (hsheet : P .sheet = true) (hcip : P .cip = true) (hheld : P .held = true) (hevqs : P .evqs = true) (hflt : P .flt = true) (hout : P .out = true) (s : State) (b : Nat) : (State.frameFailed s b).mask P = s.mask P := by simp [State.frameFailed, *]

@[simp] theorem State.replayAll_mask (hsheet : P .sheet = true) (hheld : P .held = true) (hflt : P .flt = true) (hout : P .out = true) (s : State) (b : Nat) : (State.replayAll s b).mask P = s.mask P := by
  unfold State.replayAll
  repeat' (first | rfl | split | (refine (State.foldl_mask (fun _ _ => ?_) _ _).trans ?_) | simp [*])

@[simp] theorem State.uncorrectable_mask (hfn : P .fn = true) (hsched : P .sched = true) (hmap : P .map = true) (htc : P .tc = true) (hlog : P .log = true) (hreb : P .reb = true) (hmed : P .med = true) (hrd : P .rd = true) (hsheet : P .sheet = true) (hcip : P .cip = true) (hheld : P .held = true) (hevqs : P .evqs = true) (hflt : P .flt = true) (hout : P .out = true) (hfreeNo : P .freeNo = true) (s : State) (b : Nat) : (State.uncorrectable s b).mask P = s.mask P := by simp [State.uncorrectable, *]

/-! Machine/SheetResp.lean -/

@[simp] theorem State.noteTemp_mask (hfn : P .fn = true) (hmed : P .med = true) (hsheet : P .sheet = true) (hevqs : P .evqs = true) (hout : P .out = true) (s : State) (b : Nat) (t : Int) : (State.noteTemp s b t).mask P = s.mask P := by
  unfold State.noteTemp
  repeat' (first | rfl | split | (refine (State.foldl_mask (fun _ _ => ?_) _ _).trans ?_) | simp [*])

@[simp] theorem State.resetDie_mask (hsheet : P .sheet = true) (hout : P .out = true) (s : State) (b die : Nat) : (State.resetDie s b die).mask P = s.mask P := by simp [State.resetDie, *]

@[simp] theorem State.dieTimeout_mask (hfn : P .fn = true) (hlog : P .log = true) (hreb : P .reb = true) (hmed : P .med = true) (hsheet : P .sheet = true) (hevqs : P .evqs = true) (hout : P .out = true) (s : State) (b die : Nat) : (State.dieTimeout s b die).mask P = s.mask P := by simp [State.dieTimeout, *]

@[simp] theorem State.outOfRow_mask (hlog : P .log = true) (hmed : P .med = true) (hevqs : P .evqs = true) (hout : P .out = true) (s : State) (u b row : Nat) (frames : List Payload) : (State.outOfRow s u b row frames).mask P = s.mask P := by
  unfold State.outOfRow
  split <;> simp [*]

@[simp] theorem State.rootFailed_mask (hlog : P .log = true) (hsheet : P .sheet = true) (hout : P .out = true) (s : State) : (State.rootFailed s).mask P = s.mask P := by
  unfold State.rootFailed
  split <;> simp [*]

@[simp] theorem State.programFailed_mask (hfn : P .fn = true) (hlog : P .log = true) (hreb : P .reb = true) (hmed : P .med = true) (hsheet : P .sheet = true) (hheld : P .held = true) (hevqs : P .evqs = true) (hflt : P .flt = true) (hout : P .out = true) (s : State) (b : Nat) (op : SheetOp) : (State.programFailed s b op).mask P = s.mask P := by
  unfold State.programFailed
  repeat' (first | with_reducible rfl | (rename_i h; first | (simp [*, State.issue_mask hsheet hout h]; done) | (simp [*, State.issueSys_mask hsheet hout h]; done)) | split | (refine (State.foldl_mask (fun _ _ => ?_) _ _).trans ?_) | simp [*])

@[simp] theorem State.eraseFailed_mask (hfn : P .fn = true) (hlog : P .log = true) (hreb : P .reb = true) (hmed : P .med = true) (hsheet : P .sheet = true) (hheld : P .held = true) (hevqs : P .evqs = true) (hflt : P .flt = true) (hout : P .out = true) (s : State) (b : Nat) (op : SheetOp) : (State.eraseFailed s b op).mask P = s.mask P := by
  unfold State.eraseFailed
  split <;> simp [*]

@[simp] theorem State.failOp_mask (hfn : P .fn = true) (hsched : P .sched = true) (hmap : P .map = true) (htc : P .tc = true) (hlog : P .log = true) (hreb : P .reb = true) (hmed : P .med = true) (hrd : P .rd = true) (hsheet : P .sheet = true) (hcip : P .cip = true) (hheld : P .held = true) (hevqs : P .evqs = true) (hflt : P .flt = true) (hout : P .out = true) (s : State) (b : Nat) (op : SheetOp) : (State.failOp s b op).mask P = s.mask P := by simp [State.failOp, *]

@[simp] theorem State.reissue_mask (hfn : P .fn = true) (hsched : P .sched = true) (hmap : P .map = true) (htc : P .tc = true) (hlog : P .log = true) (hreb : P .reb = true) (hmed : P .med = true) (hrd : P .rd = true) (hsheet : P .sheet = true) (hcip : P .cip = true) (hheld : P .held = true) (hevqs : P .evqs = true) (hflt : P .flt = true) (hout : P .out = true) (s : State) (b : Nat) (op : SheetOp) : (State.reissue s b op).mask P = s.mask P := by
  unfold State.reissue
  split
  · simp [*]
  · split
    · rename_i t ht
      exact State.issue_mask (by assumption) (by assumption) ht
    · split <;> simp [*]

@[simp] theorem State.tookStatus_mask (hfn : P .fn = true) (hsched : P .sched = true) (hmap : P .map = true) (htc : P .tc = true) (hlog : P .log = true) (hreb : P .reb = true) (hmed : P .med = true) (hrd : P .rd = true) (hsheet : P .sheet = true) (hcip : P .cip = true) (hheld : P .held = true) (hevqs : P .evqs = true) (hflt : P .flt = true) (hout : P .out = true) (s : State) (b epoch owner flags : Nat) (res : SheetResult) : (State.tookStatus s b epoch owner flags res).mask P = s.mask P := by simp [State.tookStatus, *]

@[simp] theorem State.opDone_mask (hclk : P .clk = true) (hfn : P .fn = true) (hsched : P .sched = true) (hmap : P .map = true) (htc : P .tc = true) (hlog : P .log = true) (hreb : P .reb = true) (hmed : P .med = true) (hrd : P .rd = true) (hsheet : P .sheet = true) (hmods : P .mods = true) (hnvme : P .nvme = true) (hrdma : P .rdma = true) (hnet : P .net = true) (hcip : P .cip = true) (hpair : P .pair = true) (hbpd : P .bpd = true) (hheld : P .held = true) (hmgmt : P .mgmt = true) (hevqs : P .evqs = true) (hmbx : P .mbx = true) (hflt : P .flt = true) (hpmc : P .pmc = true) (hboot : P .boot = true) (hout : P .out = true) (s : State) (b : Nat) (op : SheetOp) (res : SheetResult) : (State.opDone s b op res).mask P = s.mask P := by
  unfold State.opDone
  lift_lets
  extract_lets ppb s0 s1 s2 p
  have h0 : s0.mask P = s.mask P := by
    simp only [s0]
    split <;> simp [*]
  have h1 : s1.mask P = s.mask P := by
    simp only [s1]
    split
    · simp [*]
    · split <;> simp [*]
  clear_value s0 s1
  have h2 : s2.mask P = s.mask P := by simp [s2, *]
  clear_value s2 p
  repeat' (first | rfl | split | simp [*])

@[simp] theorem State.respond_mask (hclk : P .clk = true) (hfn : P .fn = true) (hsched : P .sched = true) (hmap : P .map = true) (htc : P .tc = true) (hlog : P .log = true) (hreb : P .reb = true) (hmed : P .med = true) (hrd : P .rd = true) (hsheet : P .sheet = true) (hmods : P .mods = true) (hnvme : P .nvme = true) (hrdma : P .rdma = true) (hnet : P .net = true) (hcip : P .cip = true) (hpair : P .pair = true) (hbpd : P .bpd = true) (hheld : P .held = true) (hmgmt : P .mgmt = true) (hevqs : P .evqs = true) (hmbx : P .mbx = true) (hflt : P .flt = true) (hpmc : P .pmc = true) (hboot : P .boot = true) (hout : P .out = true) (s : State) (b : Nat) (op : SheetOp) (code : Nat) (res : SheetResult) : (State.respond s b op code res).mask P = s.mask P := by
  simp [State.respond, *]
  repeat' (first | with_reducible rfl | split | (refine (State.foldl_mask (fun _ _ => ?_) _ _).trans ?_) | simp [*])

@[simp] theorem State.goOn_mask (hclk : P .clk = true) (hfn : P .fn = true) (hsched : P .sched = true) (hmap : P .map = true) (htc : P .tc = true) (hlog : P .log = true) (hreb : P .reb = true) (hmed : P .med = true) (hrd : P .rd = true) (hsheet : P .sheet = true) (hmods : P .mods = true) (hnvme : P .nvme = true) (hrdma : P .rdma = true) (hnet : P .net = true) (hcip : P .cip = true) (hpair : P .pair = true) (hbpd : P .bpd = true) (hheld : P .held = true) (hmgmt : P .mgmt = true) (hevqs : P .evqs = true) (hmbx : P .mbx = true) (hflt : P .flt = true) (hpmc : P .pmc = true) (hboot : P .boot = true) (hout : P .out = true) (s : State) : (State.goOn s).mask P = s.mask P := by simp [State.goOn, *]

@[simp] theorem State.freeTag_mask (hsheet : P .sheet = true) (s : State) (b tag : Nat) : (State.freeTag s b tag).mask P = s.mask P := by simp [State.freeTag, *]

@[simp] theorem State.tookTag_mask (hclk : P .clk = true) (hfn : P .fn = true) (hsched : P .sched = true) (hmap : P .map = true) (htc : P .tc = true) (hlog : P .log = true) (hreb : P .reb = true) (hmed : P .med = true) (hrd : P .rd = true) (hsheet : P .sheet = true) (hmods : P .mods = true) (hnvme : P .nvme = true) (hrdma : P .rdma = true) (hnet : P .net = true) (hcip : P .cip = true) (hpair : P .pair = true) (hbpd : P .bpd = true) (hheld : P .held = true) (hmgmt : P .mgmt = true) (hevqs : P .evqs = true) (hmbx : P .mbx = true) (hflt : P .flt = true) (hpmc : P .pmc = true) (hboot : P .boot = true) (hout : P .out = true) (s : State) (b tag st code : Nat) : (State.tookTag s b tag st code).mask P = s.mask P := by
  simp only [State.tookTag]
  repeat' (first | with_reducible rfl | split | (refine (State.foldl_mask (fun _ _ => ?_) _ _).trans ?_) | simp [*])

@[simp] theorem State.opTimedOut_mask (hclk : P .clk = true) (hfn : P .fn = true) (hsched : P .sched = true) (hmap : P .map = true) (htc : P .tc = true) (hlog : P .log = true) (hreb : P .reb = true) (hmed : P .med = true) (hrd : P .rd = true) (hsheet : P .sheet = true) (hmods : P .mods = true) (hnvme : P .nvme = true) (hrdma : P .rdma = true) (hnet : P .net = true) (hcip : P .cip = true) (hpair : P .pair = true) (hbpd : P .bpd = true) (hheld : P .held = true) (hmgmt : P .mgmt = true) (hevqs : P .evqs = true) (hmbx : P .mbx = true) (hflt : P .flt = true) (hpmc : P .pmc = true) (hboot : P .boot = true) (hout : P .out = true) (s : State) (b tag : Nat) (op : SheetOp) : (State.opTimedOut s b tag op).mask P = s.mask P := by
  simp [State.opTimedOut, *]
  repeat' (first | with_reducible rfl | split | (refine (State.foldl_mask (fun _ _ => ?_) _ _).trans ?_) | simp [*])

@[simp] theorem State.lateSheet_mask (hclk : P .clk = true) (hfn : P .fn = true) (hsched : P .sched = true) (hmap : P .map = true) (htc : P .tc = true) (hlog : P .log = true) (hreb : P .reb = true) (hmed : P .med = true) (hrd : P .rd = true) (hsheet : P .sheet = true) (hmods : P .mods = true) (hnvme : P .nvme = true) (hrdma : P .rdma = true) (hnet : P .net = true) (hcip : P .cip = true) (hpair : P .pair = true) (hbpd : P .bpd = true) (hheld : P .held = true) (hmgmt : P .mgmt = true) (hevqs : P .evqs = true) (hmbx : P .mbx = true) (hflt : P .flt = true) (hpmc : P .pmc = true) (hboot : P .boot = true) (hout : P .out = true) (s : State) (b tag : Nat) (op : SheetOp) : (State.lateSheet s b tag op).mask P = s.mask P := by
  simp [State.lateSheet, *]
  repeat' (first | with_reducible rfl | split | (refine (State.foldl_mask (fun _ _ => ?_) _ _).trans ?_) | simp [*])

/-! Machine/LiveOps.lean -/

@[simp] theorem State.restoreLane_mask (hsched : P .sched = true) (s : State) (l : Nat) (e : LaneEntry) : (State.restoreLane s l e).mask P = s.mask P := by simp [State.restoreLane, *]

@[simp] theorem State.restoreBudgets_mask (hsched : P .sched = true) (s : State) : (State.restoreBudgets s).mask P = s.mask P := by
  unfold State.restoreBudgets
  split <;> simp [*]

@[simp] theorem State.thermalGroups_mask (htc : P .tc = true) (s : State) : (State.thermalGroups s).mask P = s.mask P := by
  unfold State.thermalGroups
  (repeat' split) <;> simp [*]

@[simp] theorem State.quiesce_mask (hsheet : P .sheet = true) (hout : P .out = true) (s : State) (b : Nat) : (State.quiesce s b).mask P = s.mask P := by simp [State.quiesce, *]

@[simp] theorem State.enableBay_mask (hfn : P .fn = true) (hsched : P .sched = true) (hmap : P .map = true) (htc : P .tc = true) (hlog : P .log = true) (hreb : P .reb = true) (hmed : P .med = true) (hrd : P .rd = true) (hsheet : P .sheet = true) (hmods : P .mods = true) (hcip : P .cip = true) (hbpd : P .bpd = true) (hheld : P .held = true) (hevqs : P .evqs = true) (hflt : P .flt = true) (hout : P .out = true) (s : State) (b : Nat) : (State.enableBay s b).mask P = s.mask P := by
  unfold State.enableBay
  repeat' (first | rfl | split | (refine (State.foldl_mask (fun _ _ => ?_) _ _).trans ?_) | simp [*])

@[simp] theorem State.disableBay_mask (hfn : P .fn = true) (hsched : P .sched = true) (hmap : P .map = true) (htc : P .tc = true) (hlog : P .log = true) (hreb : P .reb = true) (hmed : P .med = true) (hrd : P .rd = true) (hsheet : P .sheet = true) (hmods : P .mods = true) (hcip : P .cip = true) (hbpd : P .bpd = true) (hheld : P .held = true) (hevqs : P .evqs = true) (hflt : P .flt = true) (hout : P .out = true) (s : State) (b : Nat) : (State.disableBay s b).mask P = s.mask P := by
  unfold State.disableBay
  split <;> simp [*]

@[simp] theorem State.programCounters_mask (hpmc : P .pmc = true) (s : State) (first : Nat) (sels : List (BitVec 32)) : (State.programCounters s first sels).mask P = s.mask P := by simp [State.programCounters, *]

@[simp] theorem State.shredKey_mask (hlog : P .log = true) (s : State) (slot : Nat) : (State.shredKey s slot).mask P = s.mask P := by
  unfold State.shredKey
  refine State.foldl_mask (fun _ _ => ?_) _ _
  repeat' split
  all_goals simp [*]

@[simp] theorem State.setKey_mask (hlog : P .log = true) (hcip : P .cip = true) (hout : P .out = true) (s : State) (slot : Nat) (k : KeySlot) : (State.setKey s slot k).mask P = s.mask P := by simp [State.setKey, *]

@[simp] theorem State.liveOk_mask (hmbx : P .mbx = true) (s : State) (m : Nat) (result : List (BitVec 8)) : (State.liveOk s m result).mask P = s.mask P := by simp [State.liveOk, *]

@[simp] theorem State.applyChange_mask (hfn : P .fn = true) (hsched : P .sched = true) (hmap : P .map = true) (htc : P .tc = true) (hlog : P .log = true) (hreb : P .reb = true) (hmed : P .med = true) (hrd : P .rd = true) (hsheet : P .sheet = true) (hmods : P .mods = true) (hnet : P .net = true) (hcip : P .cip = true) (hbpd : P .bpd = true) (hheld : P .held = true) (hmgmt : P .mgmt = true) (hevqs : P .evqs = true) (hmbx : P .mbx = true) (hflt : P .flt = true) (hpmc : P .pmc = true) (hout : P .out = true) (s : State) (m : Nat) (c : LiveChange) : (State.applyChange s m c).2.mask P = s.mask P := by
  unfold State.applyChange
  (repeat' split) <;> simp [*]

@[simp] theorem State.applyChanges_mask (hfn : P .fn = true) (hsched : P .sched = true) (hmap : P .map = true) (htc : P .tc = true) (hlog : P .log = true) (hreb : P .reb = true) (hmed : P .med = true) (hrd : P .rd = true) (hsheet : P .sheet = true) (hmods : P .mods = true) (hnet : P .net = true) (hcip : P .cip = true) (hbpd : P .bpd = true) (hheld : P .held = true) (hmgmt : P .mgmt = true) (hevqs : P .evqs = true) (hmbx : P .mbx = true) (hflt : P .flt = true) (hpmc : P .pmc = true) (hout : P .out = true) (s : State) : (State.applyChanges s).mask P = s.mask P := by simp [State.applyChanges, *]

@[simp] theorem State.sealCharge_mask (hsched : P .sched = true) (s : State) : (State.sealCharge s).mask P = s.mask P := by
  unfold State.sealCharge
  repeat' (first | rfl | split | (refine (State.foldl_mask (fun _ _ => ?_) _ _).trans ?_) | simp [*])

/-! Machine/Sched.lean -/

@[simp] theorem State.pathStatus_mask (hsched : P .sched = true) (hrdma : P .rdma = true) (hnet : P .net = true) (hmbx : P .mbx = true) (hout : P .out = true) (s : State) (h : Head) : (State.pathStatus s h).mask P = s.mask P := by
  unfold State.pathStatus
  split <;> simp [*]

@[simp] theorem State.countHost_mask (hnvme : P .nvme = true) (s : State) (h : Head) (len : Nat) : (State.countHost s h len).mask P = s.mask P := by
  unfold State.countHost
  (repeat' split) <;> simp [*]

@[simp] theorem State.takeHead_mask (hsched : P .sched = true) (hlog : P .log = true) (hnvme : P .nvme = true) (hrdma : P .rdma = true) (hnet : P .net = true) (hcip : P .cip = true) (hevqs : P .evqs = true) (hmbx : P .mbx = true) (hout : P .out = true) (hfreeNo : P .freeNo = true) (s : State) (h : Head) : (State.takeHead s h).mask P = s.mask P := by
  unfold State.takeHead
  lift_lets
  extract_lets ord lba len srcCh chain count spent c span s1 s2 s3 s4 ret s5 w s6 s7
  have h1 : s1.mask P = s.mask P := by simp [s1, *]
  have h2 : s2.mask P = s.mask P := by simp [s2, *]
  clear_value s1 s2
  have h3 : s3.mask P = s.mask P := by
    simp only [s3]
    repeat' (first | rfl | split | simp [*])
  clear_value s3
  have h4 : s4.mask P = s.mask P := by
    simp only [s4]
    split <;> simp [*]
  clear_value s4
  have h5 : s5.mask P = s.mask P := by
    simp only [s5]
    split <;> simp [*]
  clear_value s5
  have hw : w.2.mask P = s.mask P := by simp [w, *]
  have h6 : s6.mask P = s.mask P := by
    simp only [s6]
    clear_value w
    repeat' (first | rfl | split | simp [*])
  clear_value s6
  have h7 : s7.mask P = s.mask P := by simp [s7, *]
  clear_value s7
  split <;> simp [*]

/-! Machine/Media.lean -/

/-! Machine/Media.lean -/

@[simp] theorem State.track_mask (hfn : P .fn = true) (hmed : P .med = true) (s : State) (b die bin : Nat) (imb : Option (List Int)) : (State.track s b die bin imb).mask P = s.mask P := by simp [State.track, *]

@[simp] theorem State.moveShift_mask (hmed : P .med = true) (s : State) (b die block n : Nat) : (State.moveShift s b die block n).mask P = s.mask P := by
  unfold State.moveShift
  split <;> simp [*]

@[simp] theorem State.retryHit_mask (hlog : P .log = true) (hreb : P .reb = true) (hmed : P .med = true) (hevqs : P .evqs = true) (hout : P .out = true) (s : State) (b die block n : Nat) : (State.retryHit s b die block n).mask P = s.mask P := by simp [State.retryHit, *]

@[simp] theorem State.countDecode_mask (hmed : P .med = true) (s : State) (b : Nat) (d : Decode) : (State.countDecode s b d).mask P = s.mask P := by simp [State.countDecode, *]

@[simp] theorem State.checkWear_mask (hmed : P .med = true) (hevqs : P .evqs = true) (hout : P .out = true) (s : State) (b : Nat) : (State.checkWear s b).mask P = s.mask P := by simp [State.checkWear, *]

/-! Machine/Rebuild.lean -/

@[simp] theorem State.leaveJournal_mask (hreb : P .reb = true) (hevqs : P .evqs = true) (hout : P .out = true) (s : State) : (State.leaveJournal s).mask P = s.mask P := by simp [State.leaveJournal, *]

@[simp] theorem State.journalStep_mask (hreb : P .reb = true) (hevqs : P .evqs = true) (hout : P .out = true) (s : State) : (State.journalStep s).mask P = s.mask P := by simp [State.journalStep, *]

@[simp] theorem State.pastStripe_mask (hreb : P .reb = true) (s : State) (u i : Nat) : (State.pastStripe s u i).mask P = s.mask P := by simp [State.pastStripe, *]

@[simp] theorem State.rebuildStripe_mask (hfn : P .fn = true) (hsched : P .sched = true) (hmap : P .map = true) (htc : P .tc = true) (hlog : P .log = true) (hreb : P .reb = true) (hmed : P .med = true) (hrd : P .rd = true) (hsheet : P .sheet = true) (hcip : P .cip = true) (hheld : P .held = true) (hevqs : P .evqs = true) (hflt : P .flt = true) (hout : P .out = true) (s : State) (u i : Nat) (critical : Bool) : (State.rebuildStripe s u i critical).mask P = s.mask P := by
  unfold State.rebuildStripe
  dsimp only
  generalize (List.filter _ (s.goneRoles u i)) = todo
  have hf : ∀ l : List Nat, (l.foldl (fun (s : State) (r : Nat) => match s.roleLoc u i r with
        | some l => (s.addRepair u i r l []).chargeBack 6 16
        | none => s) s).mask P = s.mask P :=
    fun l => State.foldl_mask (fun s r => by split <;> simp [*]) l s
  repeat' (first | rfl | (refine (State.pastStripe_mask hreb _ _ _).trans ?_; exact hf _) | split | simp [*])

@[simp] theorem State.rebuildStep_mask (hfn : P .fn = true) (hsched : P .sched = true) (hmap : P .map = true) (htc : P .tc = true) (hlog : P .log = true) (hreb : P .reb = true) (hmed : P .med = true) (hrd : P .rd = true) (hsheet : P .sheet = true) (hcip : P .cip = true) (hheld : P .held = true) (hevqs : P .evqs = true) (hflt : P .flt = true) (hout : P .out = true) (s : State) : (State.rebuildStep s).mask P = s.mask P := by
  unfold State.rebuildStep
  repeat' (first | rfl | split | (refine (State.foldl_mask (fun _ _ => ?_) _ _).trans ?_) | simp [*])

@[simp] theorem State.sweepEntry_mask (hfn : P .fn = true) (hmap : P .map = true) (htc : P .tc = true) (hlog : P .log = true) (hreb : P .reb = true) (hmed : P .med = true) (hsheet : P .sheet = true) (hcip : P .cip = true) (hevqs : P .evqs = true) (hout : P .out = true) (s : State) (ns lba : Nat) (e : MapEntry) : (State.sweepEntry s ns lba e).mask P = s.mask P := by
  unfold State.sweepEntry
  repeat' (first | rfl | split | (refine (State.foldl_mask (fun _ _ => ?_) _ _).trans ?_) | simp [*])

@[simp] theorem State.streamPage_mask (hmap : P .map = true) (htc : P .tc = true) (s : State) (mpn : Nat) : (State.streamPage s mpn).mask P = s.mask P := by
  unfold State.streamPage
  repeat' (first | with_reducible rfl | split | (refine (State.foldl_mask (fun _ _ => ?_) _ _).trans ?_) | simp [*])

@[simp] theorem State.countSilent_mask (hmed : P .med = true) (hevqs : P .evqs = true) (hout : P .out = true) (s : State) (u i r : Nat) : (State.countSilent s u i r).mask P = s.mask P := by
  unfold State.countSilent
  (repeat' split) <;> simp [*]

@[simp] theorem State.located_mask (hfn : P .fn = true) (hsched : P .sched = true) (hmap : P .map = true) (htc : P .tc = true) (hlog : P .log = true) (hreb : P .reb = true) (hmed : P .med = true) (hrd : P .rd = true) (hsheet : P .sheet = true) (hcip : P .cip = true) (hheld : P .held = true) (hevqs : P .evqs = true) (hflt : P .flt = true) (hout : P .out = true) (s : State) (u i r : Nat) (fixed : List (Nat × Payload)) : (State.located s u i r fixed).mask P = s.mask P := by
  unfold State.located
  split <;> simp [*]

@[simp] theorem State.stripeBeyond_mask (hfn : P .fn = true) (hsched : P .sched = true) (hmap : P .map = true) (htc : P .tc = true) (hlog : P .log = true) (hreb : P .reb = true) (hmed : P .med = true) (hrd : P .rd = true) (hsheet : P .sheet = true) (hcip : P .cip = true) (hheld : P .held = true) (hevqs : P .evqs = true) (hflt : P .flt = true) (hout : P .out = true) (s : State) (u i : Nat) (roles : List Nat) (faulty : List Loc) : (State.stripeBeyond s u i roles faulty).mask P = s.mask P := by
  unfold State.stripeBeyond
  (repeat' split) <;> simp [*]

@[simp] theorem State.compareStripe_mask (hfn : P .fn = true) (hsched : P .sched = true) (hmap : P .map = true) (htc : P .tc = true) (hlog : P .log = true) (hreb : P .reb = true) (hmed : P .med = true) (hrd : P .rd = true) (hsheet : P .sheet = true) (hcip : P .cip = true) (hheld : P .held = true) (hevqs : P .evqs = true) (hflt : P .flt = true) (hout : P .out = true) (s : State) (u i : Nat) : (State.compareStripe s u i).mask P = s.mask P := by
  unfold State.compareStripe
  repeat' (first | rfl | split | (refine (State.foldl_mask (fun _ _ => ?_) _ _).trans ?_) | simp [*])

@[simp] theorem State.compareRow_mask (hlog : P .log = true) (hreb : P .reb = true) (hmed : P .med = true) (hevqs : P .evqs = true) (hout : P .out = true) (s : State) (u b row : Nat) : (State.compareRow s u b row).mask P = s.mask P := by simp [State.compareRow, *]

@[simp] theorem State.lateRows_mask (hlog : P .log = true) (hreb : P .reb = true) (hmed : P .med = true) (hevqs : P .evqs = true) (hout : P .out = true) (s : State) : (State.lateRows s).mask P = s.mask P := by simp [State.lateRows, *]

@[simp] theorem State.patrolAdvance_mask (hfn : P .fn = true) (hsched : P .sched = true) (hmap : P .map = true) (htc : P .tc = true) (hlog : P .log = true) (hreb : P .reb = true) (hmed : P .med = true) (hrd : P .rd = true) (hsheet : P .sheet = true) (hcip : P .cip = true) (hheld : P .held = true) (hevqs : P .evqs = true) (hflt : P .flt = true) (hout : P .out = true) (s : State) : (State.patrolAdvance s).mask P = s.mask P := by
  unfold State.patrolAdvance
  repeat' (first | rfl | split | (refine (State.foldl_mask (fun _ _ => ?_) _ _).trans ?_) | simp [*])

@[simp] theorem State.patrolRun_mask (hfn : P .fn = true) (hsched : P .sched = true) (hmap : P .map = true) (htc : P .tc = true) (hlog : P .log = true) (hreb : P .reb = true) (hmed : P .med = true) (hrd : P .rd = true) (hsheet : P .sheet = true) (hcip : P .cip = true) (hheld : P .held = true) (hevqs : P .evqs = true) (hflt : P .flt = true) (hout : P .out = true) (fuel n : Nat) (s : State) : (State.patrolRun fuel n s).mask P = s.mask P := by
  induction fuel generalizing n s with
  | zero => rfl
  | succ f ih =>
    unfold State.patrolRun
    dsimp only
    repeat' (first | rfl | split | simp [*])

/-! Machine/PmcOps.lean -/

@[simp] theorem State.armCounters_mask (hpmc : P .pmc = true) (s : State) (sec : Option PmcSection) : (State.armCounters s sec).mask P = s.mask P := by simp [State.armCounters, *]

/-! Machine/Pmc.lean -/

@[simp] theorem State.countUp_mask (hpmc : P .pmc = true) (s : State) (i add : Nat) (h : Happening) : (State.countUp s i add h).mask P = s.mask P := by simp [State.countUp, *]

@[simp] theorem State.smpHead_mask (hpmc : P .pmc = true) (s : State) (bank value : Nat) : (State.smpHead s bank value).mask P = s.mask P := by simp [State.smpHead, *]

/-! Machine/Mgmt.lean -/

@[simp] theorem State.evqHead_mask (hevqs : P .evqs = true) (hout : P .out = true) (s : State) (q value : Nat) : (State.evqHead s q value).mask P = s.mask P := by simp [State.evqHead, *]

@[simp] theorem State.unmask_mask (hevqs : P .evqs = true) (hout : P .out = true) (s : State) (v : Nat) : (State.unmask s v).mask P = s.mask P := by simp [State.unmask, *]

@[simp] theorem State.logAer_mask (hmgmt : P .mgmt = true) (s : State) (bit : Nat) : (State.logAer s bit).mask P = s.mask P := by simp [State.logAer, *]

@[simp] theorem State.setTag_mask (hmgmt : P .mgmt = true) (s : State) (t : Nat) (x : Option TagState) : (State.setTag s t x).mask P = s.mask P := by simp [State.setTag, *]

@[simp] theorem State.fetchRefused_mask (hmbx : P .mbx = true) (s : State) (m status : Nat) : (State.fetchRefused s m status).mask P = s.mask P := by simp [State.fetchRefused, *]

@[simp] theorem State.mastersOff_mask (hmgmt : P .mgmt = true) (hmbx : P .mbx = true) (s : State) : (State.mastersOff s).mask P = s.mask P := by simp [State.mastersOff, *]

@[simp] theorem State.mastersOn_mask (hevqs : P .evqs = true) (hmbx : P .mbx = true) (hout : P .out = true) (s : State) : (State.mastersOn s).mask P = s.mask P := by
  unfold State.mastersOn
  dsimp only
  refine (State.foldl_mask (fun s m => ?_) _ _).trans ((State.foldl_mask (fun s v => ?_) _ _).trans
    ((State.foldl_mask (fun s q => ?_) _ _).trans rfl))
  · split <;> simp [*]
  · split <;> simp [*]
  · exact (State.foldl_mask (fun s r => State.evqWrite_mask hevqs hout s q r) _ _).trans (State.onEvq_mask hevqs s q _)

@[simp] theorem State.mbxRegWrite_mask (hmbx : P .mbx = true) (s : State) (m k : Nat) (v : BitVec 32) : (State.mbxRegWrite s m k v).mask P = s.mask P := by simp [State.mbxRegWrite, *]

@[simp] theorem State.mbxBufWrite_mask (hmbx : P .mbx = true) (s : State) (m off : Nat) (v : BitVec 32) : (State.mbxBufWrite s m off v).mask P = s.mask P := by simp [State.mbxBufWrite, *]

@[simp] theorem State.msixWrite_mask (hevqs : P .evqs = true) (hout : P .out = true) (s : State) (k : Nat) (v : BitVec 32) : (State.msixWrite s k v).mask P = s.mask P := by
  unfold State.msixWrite
  split <;> simp [*]

@[simp] theorem State.tcRegWrite_mask (hfn : P .fn = true) (hsched : P .sched = true) (hmap : P .map = true) (htc : P .tc = true) (hlog : P .log = true) (hreb : P .reb = true) (hmed : P .med = true) (hrd : P .rd = true) (hsheet : P .sheet = true) (hcip : P .cip = true) (hheld : P .held = true) (hevqs : P .evqs = true) (hflt : P .flt = true) (hout : P .out = true) (s : State) (off : Nat) (v : BitVec 32) : (State.tcRegWrite s off v).mask P = s.mask P := by
  unfold State.tcRegWrite
  split <;> simp [*]

@[simp] theorem State.pmcWrite_mask (hpmc : P .pmc = true) (s : State) (b off : Nat) (v : BitVec 32) : (State.pmcWrite s b off v).mask P = s.mask P := by simp [State.pmcWrite, *]

@[simp] theorem State.write32_mask (hfn : P .fn = true) (hsched : P .sched = true) (hmap : P .map = true) (htc : P .tc = true) (hlog : P .log = true) (hreb : P .reb = true) (hmed : P .med = true) (hrd : P .rd = true) (hsheet : P .sheet = true) (hcip : P .cip = true) (hbpd : P .bpd = true) (hheld : P .held = true) (hevqs : P .evqs = true) (hmbx : P .mbx = true) (hflt : P .flt = true) (hpmc : P .pmc = true) (hout : P .out = true) (s : State) (client : RegClient) (off : Nat) (v : BitVec 32) : (State.write32 s client off v).mask P = s.mask P := by
  unfold State.write32
  (repeat' split) <;> simp [*]

@[simp] theorem State.dropDatagram_mask (hevqs : P .evqs = true) (s : State) : (State.dropDatagram s).mask P = s.mask P := by simp [State.dropDatagram, *]

@[simp] theorem State.endSession_mask (hmgmt : P .mgmt = true) (hmbx : P .mbx = true) (s : State) (i : Nat) : (State.endSession s i).mask P = s.mask P := by simp [State.endSession, *]

/-! Machine/FnCmds.lean -/

@[simp] theorem State.fnStart_mask (hfn : P .fn = true) (hsched : P .sched = true) (hmap : P .map = true) (htc : P .tc = true) (hlog : P .log = true) (hreb : P .reb = true) (hmed : P .med = true) (hrd : P .rd = true) (hsheet : P .sheet = true) (hnvme : P .nvme = true) (hrdma : P .rdma = true) (hnet : P .net = true) (hcip : P .cip = true) (hpair : P .pair = true) (hheld : P .held = true) (hmgmt : P .mgmt = true) (hevqs : P .evqs = true) (hflt : P .flt = true) (hout : P .out = true) (s : State) : (State.fnStart s).mask P = s.mask P := by simp [State.fnStart, *]

@[simp] theorem State.fnStop_mask (hfn : P .fn = true) (hmap : P .map = true) (htc : P .tc = true) (hlog : P .log = true) (hreb : P .reb = true) (hmed : P .med = true) (hsheet : P .sheet = true) (hnvme : P .nvme = true) (hrdma : P .rdma = true) (hnet : P .net = true) (hpair : P .pair = true) (hmgmt : P .mgmt = true) (hevqs : P .evqs = true) (hmbx : P .mbx = true) (hout : P .out = true) (s : State) (m : Nat) : (State.fnStop s m).mask P = s.mask P := by simp [State.fnStop, *]

@[simp] theorem State.eraseModules_mask (hmed : P .med = true) (hsheet : P .sheet = true) (hmods : P .mods = true) (hmedia : P .media = true) (s : State) : (State.eraseModules s).mask P = s.mask P := by
  unfold State.eraseModules
  dsimp only
  rw [State.onMed_mask hmed, State.onSheet_all_mask hsheet hmods hmedia]

@[simp] theorem State.format_mask (hfn : P .fn = true) (hmap : P .map = true) (htc : P .tc = true) (hlog : P .log = true) (hreb : P .reb = true) (hmed : P .med = true) (hrd : P .rd = true) (hsheet : P .sheet = true) (hmods : P .mods = true) (hmedia : P .media = true) (hcip : P .cip = true) (hevqs : P .evqs = true) (hboot : P .boot = true) (hout : P .out = true) (hfreeNo : P .freeNo = true) (s : State) (i : RigImage) : (State.format s i).mask P = s.mask P := by simp [State.format, *]

@[simp] theorem State.dropNamespaces_mask (hmap : P .map = true) (htc : P .tc = true) (hlog : P .log = true) (hcip : P .cip = true) (s : State) (i : RigImage) : (State.dropNamespaces s i).mask P = s.mask P := by simp [State.dropNamespaces, *]

@[simp] theorem State.applyKept_mask (hfn : P .fn = true) (hsched : P .sched = true) (hmap : P .map = true) (htc : P .tc = true) (hlog : P .log = true) (hreb : P .reb = true) (hmed : P .med = true) (hrd : P .rd = true) (hsheet : P .sheet = true) (hmods : P .mods = true) (hnet : P .net = true) (hcip : P .cip = true) (hbpd : P .bpd = true) (hheld : P .held = true) (hmgmt : P .mgmt = true) (hevqs : P .evqs = true) (hmbx : P .mbx = true) (hflt : P .flt = true) (hpmc : P .pmc = true) (hout : P .out = true) (s : State) : (State.applyKept s).mask P = s.mask P := by
  unfold State.applyKept
  repeat' (first | rfl | split | (refine (State.foldl_mask (fun _ _ => ?_) _ _).trans ?_) | simp [*])

@[simp] theorem State.armDone_mask (hfn : P .fn = true) (hsched : P .sched = true) (hmap : P .map = true) (htc : P .tc = true) (hlog : P .log = true) (hreb : P .reb = true) (hmed : P .med = true) (hrd : P .rd = true) (hsheet : P .sheet = true) (hmods : P .mods = true) (hnvme : P .nvme = true) (hrdma : P .rdma = true) (hnet : P .net = true) (hcip : P .cip = true) (hbpd : P .bpd = true) (hheld : P .held = true) (hmgmt : P .mgmt = true) (hevqs : P .evqs = true) (hmbx : P .mbx = true) (hflt : P .flt = true) (hpmc : P .pmc = true) (hboot : P .boot = true) (hout : P .out = true) (s : State) (m : Nat) (i : RigImage) : (State.armDone s m i).mask P = s.mask P := by simp [State.armDone, *]

@[simp] theorem State.armFail_mask (hfn : P .fn = true) (hmbx : P .mbx = true) (s : State) (m status detail : Nat) : (State.armFail s m status detail).mask P = s.mask P := by simp [State.armFail, *]

@[simp] theorem State.armStep_mask (hfn : P .fn = true) (hsched : P .sched = true) (hmap : P .map = true) (htc : P .tc = true) (hlog : P .log = true) (hreb : P .reb = true) (hmed : P .med = true) (hrd : P .rd = true) (hsheet : P .sheet = true) (hmods : P .mods = true) (hmedia : P .media = true) (hnvme : P .nvme = true) (hrdma : P .rdma = true) (hnet : P .net = true) (hcip : P .cip = true) (hbpd : P .bpd = true) (hheld : P .held = true) (hmgmt : P .mgmt = true) (hevqs : P .evqs = true) (hmbx : P .mbx = true) (hflt : P .flt = true) (hpmc : P .pmc = true) (hboot : P .boot = true) (hout : P .out = true) (hfreeNo : P .freeNo = true) (s : State) (m format : Nat) : (State.armStep s m format).mask P = s.mask P := by
  unfold State.armStep
  (repeat' split) <;> simp [*]

@[simp] theorem State.armStart_mask (hfn : P .fn = true) (hsched : P .sched = true) (hmap : P .map = true) (htc : P .tc = true) (hlog : P .log = true) (hreb : P .reb = true) (hmed : P .med = true) (hrd : P .rd = true) (hsheet : P .sheet = true) (hmods : P .mods = true) (hmedia : P .media = true) (hnvme : P .nvme = true) (hrdma : P .rdma = true) (hnet : P .net = true) (hcip : P .cip = true) (hbpd : P .bpd = true) (hheld : P .held = true) (hmgmt : P .mgmt = true) (hevqs : P .evqs = true) (hmbx : P .mbx = true) (hflt : P .flt = true) (hpmc : P .pmc = true) (hboot : P .boot = true) (hout : P .out = true) (hfreeNo : P .freeNo = true) (s : State) (m format : Nat) : (State.armStart s m format).mask P = s.mask P := by simp [State.armStart, *]

@[simp] theorem State.rigLoad_mask (hfn : P .fn = true) (hnvme : P .nvme = true) (hrdma : P .rdma = true) (hnet : P .net = true) (hevqs : P .evqs = true) (hmbx : P .mbx = true) (hout : P .out = true) (s : State) (m : Nat) (i : RigImage) : (State.rigLoad s m i).mask P = s.mask P := by simp [State.rigLoad, *]

@[simp] theorem State.rigRules_mask (hfn : P .fn = true) (hmbx : P .mbx = true) (s : State) (m : Nat) (c : ClsSection) : (State.rigRules s m c).mask P = s.mask P := by simp [State.rigRules, *]

/-! Machine/ModCmds.lean -/

@[simp] theorem State.peerBay_mask (hfreeNo : P .freeNo = true) (s : State) (b : Nat) : (State.peerBay s b).2.mask P = s.mask P := by simp [State.peerBay, *]

@[simp] theorem State.modClear_mask (hfn : P .fn = true) (hsched : P .sched = true) (hmap : P .map = true) (htc : P .tc = true) (hlog : P .log = true) (hreb : P .reb = true) (hmed : P .med = true) (hrd : P .rd = true) (hsheet : P .sheet = true) (hcip : P .cip = true) (hheld : P .held = true) (hevqs : P .evqs = true) (hflt : P .flt = true) (hout : P .out = true) (s : State) (b : Nat) : (State.modClear s b).mask P = s.mask P := by simp [State.modClear, *]

@[simp] theorem State.mbxStore_mask (hsched : P .sched = true) (hmbx : P .mbx = true) (s : State) (m ns : Nat) (kind : CmdKind) (cap : Capsule) (data : List (Nat × Sector)) (marked : List Nat) : (State.mbxStore s m ns kind cap data marked).mask P = s.mask P := by simp [State.mbxStore, *]

@[simp] theorem State.keyGone_mask (hcip : P .cip = true) (s : State) (slot : Nat) : (State.keyGone s slot).mask P = s.mask P := by simp [State.keyGone, *]

/-! Machine/KeyCmds.lean -/

@[simp] theorem State.keyLive_mask (hfn : P .fn = true) (hmbx : P .mbx = true) (s : State) (m slot : Nat) (k : KeySlot) : (State.keyLive s m slot k).mask P = s.mask P := by simp [State.keyLive, *]

@[simp] theorem State.placeKey_mask (hfn : P .fn = true) (hmbx : P .mbx = true) (s : State) (m slot mode : Nat) (material : BitVec 512) : (State.placeKey s m slot mode material).mask P = s.mask P := by simp [State.placeKey, *]

/-! Machine/LiveCmds.lean -/

@[simp] theorem State.liveSettings_mask (hfn : P .fn = true) (hmbx : P .mbx = true) (s : State) (m : Nat) (l : List (Nat × Nat)) : (State.liveSettings s m l).mask P = s.mask P := by simp [State.liveSettings, *]

/-! Machine/StartUp.lean -/

@[simp] theorem State.bootRom_mask (hevqs : P .evqs = true) (hboot : P .boot = true) (hout : P .out = true) (s : State) : (State.bootRom s).mask P = s.mask P := by
  unfold State.bootRom
  repeat' (first | rfl | split | (refine (State.foldl_mask (fun _ _ => ?_) _ _).trans ?_) | simp [*])

@[simp] theorem State.testFault_mask (hfn : P .fn = true) (hreb : P .reb = true) (hsheet : P .sheet = true) (hnvme : P .nvme = true) (hrdma : P .rdma = true) (hnet : P .net = true) (hpair : P .pair = true) (hmgmt : P .mgmt = true) (hevqs : P .evqs = true) (hflt : P .flt = true) (hout : P .out = true) (s : State) (u : Nat) : (State.testFault s u).mask P = s.mask P := by
  unfold State.testFault
  split <;> simp [*]

@[simp] theorem State.selfTests_mask (hfn : P .fn = true) (hsched : P .sched = true) (hmap : P .map = true) (htc : P .tc = true) (hlog : P .log = true) (hreb : P .reb = true) (hmed : P .med = true) (hrd : P .rd = true) (hsheet : P .sheet = true) (hnvme : P .nvme = true) (hrdma : P .rdma = true) (hnet : P .net = true) (hcip : P .cip = true) (hpair : P .pair = true) (hheld : P .held = true) (hmgmt : P .mgmt = true) (hevqs : P .evqs = true) (hflt : P .flt = true) (hboot : P .boot = true) (hout : P .out = true) (s : State) (fails : List (Nat × Nat)) : (State.selfTests s fails).mask P = s.mask P := by simp [State.selfTests, *]

@[simp] theorem State.enableBays_mask (hfn : P .fn = true) (hsched : P .sched = true) (hmap : P .map = true) (htc : P .tc = true) (hlog : P .log = true) (hreb : P .reb = true) (hmed : P .med = true) (hrd : P .rd = true) (hsheet : P .sheet = true) (hmods : P .mods = true) (hcip : P .cip = true) (hbpd : P .bpd = true) (hheld : P .held = true) (hevqs : P .evqs = true) (hflt : P .flt = true) (hboot : P .boot = true) (hout : P .out = true) (s : State) (ok : Bool) : (State.enableBays s ok).mask P = s.mask P := by
  unfold State.enableBays
  split <;> simp [*]

@[simp] theorem State.refuse_mask (hfn : P .fn = true) (hnvme : P .nvme = true) (hrdma : P .rdma = true) (hnet : P .net = true) (hpair : P .pair = true) (hevqs : P .evqs = true) (hboot : P .boot = true) (hout : P .out = true) (s : State) (cause : Nat) : (State.refuse s cause).mask P = s.mask P := by simp [State.refuse, *]

@[simp] theorem State.imageFound_mask (hfn : P .fn = true) (hlog : P .log = true) (hreb : P .reb = true) (hmed : P .med = true) (hsheet : P .sheet = true) (hmgmt : P .mgmt = true) (hevqs : P .evqs = true) (hboot : P .boot = true) (hout : P .out = true) (s : State) (i : RigImage) : (State.imageFound s i).mask P = s.mask P := by
  unfold State.imageFound
  lift_lets
  extract_lets s1 s2 s3
  have h3 : s3.mask P = s.mask P := by
    simp only [s3]
    repeat' (first | rfl | split | simp [s1, s2, *])
  clear_value s3
  refine (State.foldl_mask (fun s b => ?_) _ _).trans h3
  repeat' (first | rfl | split | simp [*])

@[simp] theorem State.shelfRead_mask (hfn : P .fn = true) (hlog : P .log = true) (hreb : P .reb = true) (hmed : P .med = true) (hsheet : P .sheet = true) (hnvme : P .nvme = true) (hrdma : P .rdma = true) (hnet : P .net = true) (hpair : P .pair = true) (hmgmt : P .mgmt = true) (hevqs : P .evqs = true) (hboot : P .boot = true) (hout : P .out = true) (s : State) (roots : List RootFound) (image : Option RigImage) (readable : Bool) : (State.shelfRead s roots image readable).mask P = s.mask P := by
  unfold State.shelfRead
  (repeat' split) <;> simp [*]

@[simp] theorem State.missingBays_mask (hlog : P .log = true) (hreb : P .reb = true) (hevqs : P .evqs = true) (hout : P .out = true) (s : State) : (State.missingBays s).mask P = s.mask P := by simp [State.missingBays, *]

@[simp] theorem State.loaded_mask (hfn : P .fn = true) (hlog : P .log = true) (hreb : P .reb = true) (hnvme : P .nvme = true) (hrdma : P .rdma = true) (hnet : P .net = true) (hevqs : P .evqs = true) (hpmc : P .pmc = true) (hboot : P .boot = true) (hout : P .out = true) (s : State) : (State.loaded s).mask P = s.mask P := by
  simp only [State.loaded]
  repeat' (first | rfl | split | (refine (State.foldl_mask (fun _ _ => ?_) _ _).trans ?_) | simp [*])

@[simp] theorem State.startEnd_mask (hfn : P .fn = true) (hmap : P .map = true) (htc : P .tc = true) (hnvme : P .nvme = true) (hrdma : P .rdma = true) (hnet : P .net = true) (hpair : P .pair = true) (hmgmt : P .mgmt = true) (hevqs : P .evqs = true) (hboot : P .boot = true) (hout : P .out = true) (s : State) : (State.startEnd s).mask P = s.mask P := by simp [State.startEnd, *]

end Sys2Proof.Machine
end

