-- ==== Sys2Proof/Laws/FrameCommands.lean ====
section
/-! SUPPORT. Frames of the commands: which groups of the state each may change when it answers a next state, as an equation of
blanked states. -/

set_option linter.unusedTactic false
set_option linter.unreachableTactic false
set_option linter.unusedSimpArgs false
set_option linter.unusedVariables false

namespace Sys2Proof.Machine

variable {P : Part → Bool}

/-! Machine/Net.lean -/

theorem execFrontFrameRx_mask (hnet : P .net = true) (port : Fin 8) (sub : Fin 4) (raw : RxFrame) {s t : State} (h : execFrontFrameRx port sub raw s = .next t) : t.mask P = s.mask P := by
  cases h
  repeat' (first | rfl | split | (refine (State.foldl_mask (fun _ _ => ?_) _ _).trans ?_) | simp only [and_self, implies_true, State.onFront_mask, hnet])

theorem execClassify_mask (hnet : P .net = true) (hout : P .out = true) (hfreeNo : P .freeNo = true) (port : Fin 8) (pseq : Nat) {s t : State} (h : execClassify port pseq s = .next t) : t.mask P = s.mask P := by
  cases h
  dsimp only
  (repeat' split) <;> first | with_reducible rfl | simp only [and_self, implies_true, State.onFront_mask, State.onNet_mask, State.recordFragment_mask, State.releaseParked_mask, hnet, hout, hfreeNo]

theorem execReorderRelease_mask (hnet : P .net = true) (hout : P .out = true) (hfreeNo : P .freeNo = true) (port : Fin 8) {s t : State} (h : execReorderRelease port s = .next t) : t.mask P = s.mask P := by
  cases h
  repeat' (first | rfl | split | (refine (State.foldl_mask (fun _ _ => ?_) _ _).trans ?_) | simp only [and_self, implies_true, State.onFront_mask, State.switchFrame_mask, hnet, hout, hfreeNo])

theorem execFragmentEntryExpiry_mask (hnet : P .net = true) (key : FragKey) {s t : State} (h : execFragmentEntryExpiry key s = .next t) : t.mask P = s.mask P := by
  cases h
  split <;> simp only [and_self, implies_true, State.onNet_mask, hnet]

theorem execFragmentParkTimeout_mask (hnet : P .net = true) (hout : P .out = true) (hfreeNo : P .freeNo = true) (port : Fin 8) (pseq : Nat) {s t : State} (h : execFragmentParkTimeout port pseq s = .next t) : t.mask P = s.mask P := by
  cases h
  split <;> simp only [and_self, implies_true, State.releaseParked_mask, hnet, hout, hfreeNo]

theorem execControlPortFrame_mask (hclk : P .clk = true) (hnet : P .net = true) (hout : P .out = true) (hfreeNo : P .freeNo = true) (port : Fin 8) (kind : CtlFrame) {s t : State} (h : execControlPortFrame port kind s = .next t) : t.mask P = s.mask P := by
  cases h
  dsimp only
  (repeat' split) <;> first | with_reducible rfl | simp only [and_self, implies_true, State.emit_mask, State.freeNat_mask, State.onClk_mask, State.onNet_mask, hclk, hnet, hout, hfreeNo]

theorem execRuleUpdatePortStep_mask (hfn : P .fn = true) (hnet : P .net = true) (hmbx : P .mbx = true) (hout : P .out = true) (lport : Fin 32) {s t : State} (h : execRuleUpdatePortStep lport s = .next t) : t.mask P = s.mask P := by
  cases h
  dsimp only
  repeat' (first | rfl | split | (refine (State.foldl_mask (fun _ _ => ?_) _ _).trans ?_) | simp only [and_self, implies_true, State.emit_mask, State.onFront_mask, State.onNet_mask, State.rulesSettle_mask, hfn, hnet, hmbx, hout])

theorem execPfcFrameRx_mask (hnet : P .net = true) (port : Fin 8) (sub : Fin 4) (prios : BitVec 8) (quanta : Nat) {s t : State} (h : execPfcFrameRx port sub prios quanta s = .next t) : t.mask P = s.mask P := by
  cases h
  dsimp only
  (repeat' split) <;> first | with_reducible rfl | simp only [and_self, implies_true, State.onNet_mask, hnet]

theorem execPfcPauseExpiry_mask (hnet : P .net = true) (port : Fin 8) (sub : Fin 4) (prio : Fin 8) {s t : State} (h : execPfcPauseExpiry port sub prio s = .next t) : t.mask P = s.mask P := by
  cases h
  repeat' (first | with_reducible rfl | split | (refine (State.foldl_mask (fun _ _ => ?_) _ _).trans ?_) | simp only [and_self, implies_true, State.onNet_mask, hnet])

theorem execPfcXoffRepeat_mask (hnet : P .net = true) (hout : P .out = true) (port : Fin 8) (sub : Fin 4) (prio : Fin 8) {s t : State} (h : execPfcXoffRepeat port sub prio s = .next t) : t.mask P = s.mask P := by
  cases h
  dsimp only
  (repeat' split) <;> first | rfl | simp only [and_self, implies_true, State.emit_mask, State.onNet_mask, hnet, hout]

theorem execFrontLinkChange_mask (hnet : P .net = true) (hheld : P .held = true) (hevqs : P .evqs = true) (hflt : P .flt = true) (hout : P .out = true) (port : Fin 8) (up : Bool) {s t : State} (h : execFrontLinkChange port up s = .next t) : t.mask P = s.mask P := by
  cases h
  dsimp only
  (repeat' split) <;> first | rfl | simp only [and_self, implies_true, State.event_mask, State.onFront_mask, State.raise_mask, hnet, hheld, hevqs, hflt, hout]

theorem execSwitchMatch_mask (hrdma : P .rdma = true) (hnet : P .net = true) (hout : P .out = true) (hfreeNo : P .freeNo = true) (cell : Fin 7680) {s t : State} (h : execSwitchMatch cell s = .next t) : t.mask P = s.mask P := by
  cases h
  simp [*]

/-! Machine/Tc.lean -/

theorem execTcFillComplete_mask (hfn : P .fn = true) (hsched : P .sched = true) (hmap : P .map = true) (htc : P .tc = true) (hlog : P .log = true) (hreb : P .reb = true) (hmed : P .med = true) (hrd : P .rd = true) (hsheet : P .sheet = true) (hcip : P .cip = true) (hheld : P .held = true) (hevqs : P .evqs = true) (hflt : P .flt = true) (hout : P .out = true) (la : Nat) {s t : State} (h : execTcFillComplete la s = .next t) : t.mask P = s.mask P := by
  cases h
  dsimp only
  (repeat' split) <;> first | with_reducible rfl | simp only [and_self, implies_true, State.countFill_mask, State.fillWay_mask, State.nextMiss_mask, State.onTc_mask, State.pin_mask, State.putLine_mask, State.serveAll_mask, State.servePool_mask, hfn, hsched, hmap, htc, hlog, hreb, hmed, hrd, hsheet, hcip, hheld, hevqs, hflt, hout]

theorem execTcWritebackTimer_mask (hmap : P .map = true) (htc : P .tc = true) {s t : State} (h : execTcWritebackTimer s = .next t) : t.mask P = s.mask P := by
  cases h
  repeat' (first | rfl | split | (refine (State.foldl_mask (fun _ _ => ?_) _ _).trans ?_) | simp only [and_self, implies_true, State.writeBack_mask, hmap, htc])

theorem execTcLockWaysWrite_mask (hmap : P .map = true) (htc : P .tc = true) (value : BitVec 32) {s t : State} (h : execTcLockWaysWrite value s = .next t) : t.mask P = s.mask P := by
  cases h
  simp only [and_self, implies_true, State.lockWays_mask, hmap, htc]

theorem execTcWayPwrWrite_mask (htc : P .tc = true) (value : BitVec 32) {s t : State} (h : execTcWayPwrWrite value s = .next t) : t.mask P = s.mask P := by
  cases h
  simp only [and_self, implies_true, State.reqOff_mask, htc]

theorem execTcGroupPowerDownDone_mask (hmap : P .map = true) (htc : P .tc = true) (g : Fin 4) {s t : State} (h : execTcGroupPowerDownDone g s = .next t) : t.mask P = s.mask P := by
  cases h
  split <;> simp only [and_self, implies_true, State.dropWays_mask, State.onTc_mask, State.unreserve_mask, hmap, htc]

theorem execTcGroupPowerUpDone_mask (htc : P .tc = true) (g : Fin 4) {s t : State} (h : execTcGroupPowerUpDone g s = .next t) : t.mask P = s.mask P := by
  cases h
  split <;> simp only [and_self, implies_true, State.onTc_mask, htc]

theorem execTcInvalidate_mask (hfn : P .fn = true) (hsched : P .sched = true) (hmap : P .map = true) (htc : P .tc = true) (hlog : P .log = true) (hreb : P .reb = true) (hmed : P .med = true) (hrd : P .rd = true) (hsheet : P .sheet = true) (hcip : P .cip = true) (hheld : P .held = true) (hevqs : P .evqs = true) (hflt : P .flt = true) (hout : P .out = true) (op : RangeOp) {s t : State} (h : execTcInvalidate op s = .next t) : t.mask P = s.mask P := by
  cases h
  simp only [and_self, implies_true, State.goRange_mask, hfn, hsched, hmap, htc, hlog, hreb, hmed, hrd, hsheet, hcip, hheld, hevqs, hflt, hout]

theorem execTcClean_mask (hfn : P .fn = true) (hsched : P .sched = true) (hmap : P .map = true) (htc : P .tc = true) (hlog : P .log = true) (hreb : P .reb = true) (hmed : P .med = true) (hrd : P .rd = true) (hsheet : P .sheet = true) (hcip : P .cip = true) (hheld : P .held = true) (hevqs : P .evqs = true) (hflt : P .flt = true) (hout : P .out = true) (op : RangeOp) {s t : State} (h : execTcClean op s = .next t) : t.mask P = s.mask P := by
  cases h
  simp only [and_self, implies_true, State.goRange_mask, hfn, hsched, hmap, htc, hlog, hreb, hmed, hrd, hsheet, hcip, hheld, hevqs, hflt, hout]

theorem execTcCleanInvalidate_mask (hfn : P .fn = true) (hsched : P .sched = true) (hmap : P .map = true) (htc : P .tc = true) (hlog : P .log = true) (hreb : P .reb = true) (hmed : P .med = true) (hrd : P .rd = true) (hsheet : P .sheet = true) (hcip : P .cip = true) (hheld : P .held = true) (hevqs : P .evqs = true) (hflt : P .flt = true) (hout : P .out = true) (op : RangeOp) {s t : State} (h : execTcCleanInvalidate op s = .next t) : t.mask P = s.mask P := by
  cases h
  simp only [and_self, implies_true, State.goRange_mask, hfn, hsched, hmap, htc, hlog, hreb, hmed, hrd, hsheet, hcip, hheld, hevqs, hflt, hout]

theorem execTcPreload_mask (hfn : P .fn = true) (hsched : P .sched = true) (hmap : P .map = true) (htc : P .tc = true) (hlog : P .log = true) (hreb : P .reb = true) (hmed : P .med = true) (hrd : P .rd = true) (hsheet : P .sheet = true) (hcip : P .cip = true) (hheld : P .held = true) (hevqs : P .evqs = true) (hflt : P .flt = true) (hout : P .out = true) (op : RangeOp) {s t : State} (h : execTcPreload op s = .next t) : t.mask P = s.mask P := by
  cases h
  simp only [and_self, implies_true, State.goRange_mask, hfn, hsched, hmap, htc, hlog, hreb, hmed, hrd, hsheet, hcip, hheld, hevqs, hflt, hout]

theorem execTcPreloadLock_mask (hfn : P .fn = true) (hsched : P .sched = true) (hmap : P .map = true) (htc : P .tc = true) (hlog : P .log = true) (hreb : P .reb = true) (hmed : P .med = true) (hrd : P .rd = true) (hsheet : P .sheet = true) (hcip : P .cip = true) (hheld : P .held = true) (hevqs : P .evqs = true) (hflt : P .flt = true) (hout : P .out = true) (op : RangeOp) {s t : State} (h : execTcPreloadLock op s = .next t) : t.mask P = s.mask P := by
  cases h
  simp only [and_self, implies_true, State.goRange_mask, hfn, hsched, hmap, htc, hlog, hreb, hmed, hrd, hsheet, hcip, hheld, hevqs, hflt, hout]

theorem execTcLockChangeDone_mask (hfn : P .fn = true) (hsched : P .sched = true) (hmap : P .map = true) (htc : P .tc = true) (hlog : P .log = true) (hreb : P .reb = true) (hmed : P .med = true) (hrd : P .rd = true) (hsheet : P .sheet = true) (hcip : P .cip = true) (hheld : P .held = true) (hevqs : P .evqs = true) (hflt : P .flt = true) (hout : P .out = true) {s t : State} (h : execTcLockChangeDone s = .next t) : t.mask P = s.mask P := by
  cases h
  split <;> simp only [and_self, implies_true, State.dropWays_mask, State.nextPin_mask, State.onTc_mask, hfn, hsched, hmap, htc, hlog, hreb, hmed, hrd, hsheet, hcip, hheld, hevqs, hflt, hout]

theorem execTcRangeDone_mask (hfn : P .fn = true) (hsched : P .sched = true) (hmap : P .map = true) (htc : P .tc = true) (hlog : P .log = true) (hreb : P .reb = true) (hmed : P .med = true) (hrd : P .rd = true) (hsheet : P .sheet = true) (hcip : P .cip = true) (hheld : P .held = true) (hevqs : P .evqs = true) (hmbx : P .mbx = true) (hflt : P .flt = true) (hout : P .out = true) {s t : State} (h : execTcRangeDone s = .next t) : t.mask P = s.mask P := by
  cases h
  dsimp only
  (repeat' split) <;> first | rfl | simp only [and_self, implies_true, State.nextPin_mask, State.onTc_mask, State.rangeAdvance_mask, State.rangeAnswer_mask, hfn, hsched, hmap, htc, hlog, hreb, hmed, hrd, hsheet, hcip, hheld, hevqs, hmbx, hflt, hout]

/-! Machine/Faults.lean -/

theorem execFaultRaise_mask (htc : P .tc = true) (hheld : P .held = true) (hflt : P .flt = true) (hpmc : P .pmc = true) (word : BitVec 64) {s t : State} (h : execFaultRaise word s = .next t) : t.mask P = s.mask P := by
  cases h
  dsimp only
  (repeat' split) <;> first | with_reducible rfl | simp only [and_self, implies_true, State.counterLost_mask, State.raiseWord_mask, State.tcFault_mask, htc, hheld, hflt, hpmc]

theorem execFaultConcentratorTake_mask (hfn : P .fn = true) (hreb : P .reb = true) (hsheet : P .sheet = true) (hnvme : P .nvme = true) (hrdma : P .rdma = true) (hnet : P .net = true) (hpair : P .pair = true) (hmgmt : P .mgmt = true) (hevqs : P .evqs = true) (hflt : P .flt = true) (hout : P .out = true) (unit : Nat) {s t : State} (h : execFaultConcentratorTake unit s = .next t) : t.mask P = s.mask P := by
  cases h
  split <;> simp only [and_self, implies_true, State.promote_mask, State.takeWord_mask, hfn, hreb, hsheet, hnvme, hrdma, hnet, hpair, hmgmt, hevqs, hflt, hout]

theorem execFaultHandlingEnd_mask (hfn : P .fn = true) (hsched : P .sched = true) (hmap : P .map = true) (htc : P .tc = true) (hlog : P .log = true) (hreb : P .reb = true) (hmed : P .med = true) (hrd : P .rd = true) (hsheet : P .sheet = true) (hnvme : P .nvme = true) (hrdma : P .rdma = true) (hnet : P .net = true) (hcip : P .cip = true) (hpair : P .pair = true) (hheld : P .held = true) (hmgmt : P .mgmt = true) (hevqs : P .evqs = true) (hflt : P .flt = true) (hout : P .out = true) (unit : Nat) (completed : Bool) {s t : State} (h : execFaultHandlingEnd unit completed s = .next t) : t.mask P = s.mask P := by
  cases h
  dsimp only
  (repeat' split) <;> first | rfl | simp only [and_self, implies_true, State.chipHandle_mask, State.faultEvent_mask, State.onFlt_mask, State.promote_mask, State.raiseWord_mask, State.recordWord_mask, State.retireRule_mask, hfn, hsched, hmap, htc, hlog, hreb, hmed, hrd, hsheet, hnvme, hrdma, hnet, hcip, hpair, hheld, hmgmt, hevqs, hflt, hout]

theorem execCwnAckWrite_mask (hflt : P .flt = true) (seq : Nat) {s t : State} (h : execCwnAckWrite seq s = .next t) : t.mask P = s.mask P := by
  cases h
  split <;> simp only [and_self, implies_true, State.ackRecord_mask, hflt]

theorem execBpdWordsDelivered_mask (hfn : P .fn = true) (hreb : P .reb = true) (hsheet : P .sheet = true) (hnvme : P .nvme = true) (hrdma : P .rdma = true) (hnet : P .net = true) (hpair : P .pair = true) (hheld : P .held = true) (hmgmt : P .mgmt = true) (hevqs : P .evqs = true) (hflt : P .flt = true) (hout : P .out = true) (hfreeNo : P .freeNo = true) {s t : State} (h : execBpdWordsDelivered s = .next t) : t.mask P = s.mask P := by
  cases h
  dsimp only
  repeat' (first | with_reducible rfl | (rename_i h; have hc := congrArg Prod.snd h; dsimp only at hc; clear h; subst hc; simp [*]; done) | split | (refine (State.foldl_mask (fun _ _ => ?_) _ _).trans ?_) | simp [*])

theorem execFStopResetTimer_mask (hclk : P .clk = true) (hfn : P .fn = true) (hsched : P .sched = true) (hmap : P .map = true) (htc : P .tc = true) (hlog : P .log = true) (hreb : P .reb = true) (hmed : P .med = true) (hrd : P .rd = true) (hsheet : P .sheet = true) (hnvme : P .nvme = true) (hrdma : P .rdma = true) (hnet : P .net = true) (hcip : P .cip = true) (hpair : P .pair = true) (hmgmt : P .mgmt = true) (hevqs : P .evqs = true) (hmbx : P .mbx = true) (hflt : P .flt = true) (hpmc : P .pmc = true) (hboot : P .boot = true) {s t : State} (h : execFStopResetTimer s = .next t) : t.mask P = s.mask P := by
  cases h
  dsimp only
  (repeat' split) <;> first | rfl | simp only [and_self, implies_true, State.dieReset_mask, State.onClk_mask, State.onFlt_mask, hclk, hfn, hsched, hmap, htc, hlog, hreb, hmed, hrd, hsheet, hnvme, hrdma, hnet, hcip, hpair, hmgmt, hevqs, hmbx, hflt, hpmc, hboot]

/-! Machine/WriteLog.lean -/

theorem execWritePlace_mask (hfn : P .fn = true) (hsched : P .sched = true) (hlog : P .log = true) (hreb : P .reb = true) (hmed : P .med = true) (hsheet : P .sheet = true) (hnvme : P .nvme = true) (hrdma : P .rdma = true) (hnet : P .net = true) (hevqs : P .evqs = true) (hmbx : P .mbx = true) (hout : P .out = true) (ord : Nat) (unit : Nat) {s t : State} (h : execWritePlace ord unit s = .next t) : t.mask P = s.mask P := by
  cases h
  dsimp only
  (repeat' split) <;> first | with_reducible rfl | simp only [and_self, implies_true, State.checkSpace_mask, State.event_mask, State.failCmd_mask, State.journal_mask, State.mirrorOut_mask, State.onCell_mask, State.onCmd_mask, State.onLog_mask, State.pastDeadline_mask, State.placeSectors_mask, State.settle_mask, State.tryAck_mask, hfn, hsched, hlog, hreb, hmed, hsheet, hnvme, hrdma, hnet, hevqs, hmbx, hout]

theorem execMirrorConfirm_mask (hsched : P .sched = true) (hlog : P .log = true) (hnvme : P .nvme = true) (hrdma : P .rdma = true) (hnet : P .net = true) (hpair : P .pair = true) (hmgmt : P .mgmt = true) (hevqs : P .evqs = true) (hmbx : P .mbx = true) (hout : P .out = true) (ord : Nat) {s t : State} (h : execMirrorConfirm ord s = .next t) : t.mask P = s.mask P := by
  cases h
  repeat' (first | with_reducible rfl | split | (refine (State.foldl_mask (fun _ _ => ?_) _ _).trans ?_) | simp only [and_self, implies_true, State.countLate_mask, State.mirrorLate_mask, State.onCmd_mask, State.tryAck_mask, hsched, hlog, hnvme, hrdma, hnet, hpair, hmgmt, hevqs, hmbx, hout])

theorem execMirrorTimeout_mask (hsched : P .sched = true) (hlog : P .log = true) (hnvme : P .nvme = true) (hrdma : P .rdma = true) (hnet : P .net = true) (hpair : P .pair = true) (hmgmt : P .mgmt = true) (hevqs : P .evqs = true) (hmbx : P .mbx = true) (hout : P .out = true) (ord : Nat) {s t : State} (h : execMirrorTimeout ord s = .next t) : t.mask P = s.mask P := by
  cases h
  repeat' (first | with_reducible rfl | (rename_i h; first | (simp [*, State.issue_mask hsheet hout h]; done) | (simp [*, State.issueSys_mask hsheet hout h]; done)) | split | (refine (State.foldl_mask (fun _ _ => ?_) _ _).trans ?_) | simp [*])

theorem execMirrorDataRx_mask (hlog : P .log = true) (hout : P .out = true) (stream : Fin 64) (payload : Payload) {s t : State} (h : execMirrorDataRx stream payload s = .next t) : t.mask P = s.mask P := by
  cases h
  split <;> simp only [and_self, implies_true, State.emit_mask, State.onLog_mask, hlog, hout]

theorem execLogShipRecordRx_mask (hmap : P .map = true) (htc : P .tc = true) (hlog : P .log = true) (hreb : P .reb = true) (hmed : P .med = true) (hnvme : P .nvme = true) (hcip : P .cip = true) (r : ShipRec) {s t : State} (h : execLogShipRecordRx r s = .next t) : t.mask P = s.mask P := by
  cases h
  dsimp only
  (repeat' split) <;> first | with_reducible rfl | simp only [and_self, implies_true, State.applyRec_mask, State.installPage_mask, State.noteStripe_mask, State.onCip_mask, State.onLog_mask, State.onNvme_mask, State.tookSysPage_mask, hmap, htc, hlog, hreb, hmed, hnvme, hcip]

theorem execStripeDeadline_mask (hfn : P .fn = true) (hlog : P .log = true) (hreb : P .reb = true) (hmed : P .med = true) (hsheet : P .sheet = true) (hevqs : P .evqs = true) (hout : P .out = true) (stream : Fin 64) {s t : State} (h : execStripeDeadline stream s = .next t) : t.mask P = s.mask P := by
  cases h
  dsimp only
  (repeat' split) <;> first | with_reducible rfl | simp only [and_self, implies_true, State.closeStripe_mask, State.flushTail_mask, hfn, hlog, hreb, hmed, hsheet, hevqs, hout]

theorem execJournalPageTimer_mask (hlog : P .log = true) (hsheet : P .sheet = true) (hout : P .out = true) {s t : State} (h : execJournalPageTimer s = .next t) : t.mask P = s.mask P := by
  cases h
  repeat' (first | with_reducible rfl | split | (refine (State.foldl_mask (fun _ _ => ?_) _ _).trans ?_) | simp only [and_self, implies_true, State.closeSjPage_mask, hlog, hsheet, hout])

theorem execMapUpdateApply_mask (hfn : P .fn = true) (hsched : P .sched = true) (hmap : P .map = true) (htc : P .tc = true) (hlog : P .log = true) (hreb : P .reb = true) (hmed : P .med = true) (hrd : P .rd = true) (hsheet : P .sheet = true) (hnvme : P .nvme = true) (hrdma : P .rdma = true) (hnet : P .net = true) (hcip : P .cip = true) (hheld : P .held = true) (hevqs : P .evqs = true) (hmbx : P .mbx = true) (hflt : P .flt = true) (hout : P .out = true) (stripe : Nat) (wseq : Nat) {s t : State} (h : execMapUpdateApply stripe wseq s = .next t) : t.mask P = s.mask P := by
  cases h
  simp only [and_self, implies_true, State.applyUpdate_mask, State.tryAll_mask, hfn, hsched, hmap, htc, hlog, hreb, hmed, hrd, hsheet, hnvme, hrdma, hnet, hcip, hheld, hevqs, hmbx, hflt, hout]

theorem execMapFetchComplete_mask (hfn : P .fn = true) (hsched : P .sched = true) (hmap : P .map = true) (htc : P .tc = true) (hlog : P .log = true) (hreb : P .reb = true) (hmed : P .med = true) (hrd : P .rd = true) (hsheet : P .sheet = true) (hcip : P .cip = true) (hheld : P .held = true) (hevqs : P .evqs = true) (hflt : P .flt = true) (hout : P .out = true) (mpn : Nat) {s t : State} (h : execMapFetchComplete mpn s = .next t) : t.mask P = s.mask P := by
  cases h
  split
  · dsimp only
    refine (State.foldl_mask (fun s w => by simp only [State.serveWait_mask, *]) _ _).trans ?_
    simp only [State.takeWaits_mask, *]
  · rfl

theorem execReclaimVictimSelect_mask (hlog : P .log = true) {s t : State} (h : execReclaimVictimSelect s = .next t) : t.mask P = s.mask P := by
  cases h
  dsimp only
  (repeat' split) <;> first | with_reducible rfl | simp only [and_self, implies_true, State.onUnit_mask, hlog]

theorem execRelocation_mask (hfn : P .fn = true) (hsched : P .sched = true) (hmap : P .map = true) (htc : P .tc = true) (hlog : P .log = true) (hreb : P .reb = true) (hmed : P .med = true) (hrd : P .rd = true) (hsheet : P .sheet = true) (hcip : P .cip = true) (hheld : P .held = true) (hevqs : P .evqs = true) (hflt : P .flt = true) (hout : P .out = true) (loc : Loc) {s t : State} (h : execRelocation loc s = .next t) : t.mask P = s.mask P := by
  cases h
  repeat' (first | with_reducible rfl | (rename_i h; first | (simp [*, State.issue_mask hsheet hout h]; done) | (simp [*, State.issueSys_mask hsheet hout h]; done)) | split | (refine (State.foldl_mask (fun _ _ => ?_) _ _).trans ?_) | simp [*])

theorem execReclaimErase_mask (hfn : P .fn = true) (hmap : P .map = true) (htc : P .tc = true) (hlog : P .log = true) (hreb : P .reb = true) (hmed : P .med = true) (hsheet : P .sheet = true) (hevqs : P .evqs = true) (hout : P .out = true) (unit : Nat) {s t : State} (h : execReclaimErase unit s = .next t) : t.mask P = s.mask P := by
  cases h
  repeat' (first | with_reducible rfl | split | (refine (State.foldl_mask (fun _ _ => ?_) _ _).trans ?_) | simp only [and_self, implies_true, State.ckptStep_mask, State.issueErases_mask, State.onUnit_mask, State.startCkpt_mask, hfn, hmap, htc, hlog, hreb, hmed, hsheet, hevqs, hout])

theorem execCheckpointStart_mask (hfn : P .fn = true) (hmap : P .map = true) (htc : P .tc = true) (hlog : P .log = true) (hreb : P .reb = true) (hmed : P .med = true) (hsheet : P .sheet = true) (hevqs : P .evqs = true) (hout : P .out = true) {s t : State} (h : execCheckpointStart s = .next t) : t.mask P = s.mask P := by
  cases h
  split <;> simp only [and_self, implies_true, State.ckptStep_mask, State.startCkpt_mask, hfn, hmap, htc, hlog, hreb, hmed, hsheet, hevqs, hout]

theorem execStrikeTrigger_mask (hclk : P .clk = true) (hfn : P .fn = true) (hsched : P .sched = true) (hmap : P .map = true) (htc : P .tc = true) (hlog : P .log = true) (hreb : P .reb = true) (hmed : P .med = true) (hrd : P .rd = true) (hsheet : P .sheet = true) (hmods : P .mods = true) (hnvme : P .nvme = true) (hrdma : P .rdma = true) (hnet : P .net = true) (hcip : P .cip = true) (hpair : P .pair = true) (hbpd : P .bpd = true) (hheld : P .held = true) (hmgmt : P .mgmt = true) (hevqs : P .evqs = true) (hmbx : P .mbx = true) (hflt : P .flt = true) (hpmc : P .pmc = true) (hboot : P .boot = true) (hout : P .out = true) {s t : State} (h : execStrikeTrigger s = .next t) : t.mask P = s.mask P := by
  cases h
  repeat' (first | with_reducible rfl | split | (refine (State.foldl_mask (fun _ _ => ?_) _ _).trans ?_) | simp only [and_self, implies_true, State.beginStrike_mask, State.onSched_mask, State.strikeEnd_mask, hclk, hfn, hsched, hmap, htc, hlog, hreb, hmed, hrd, hsheet, hmods, hnvme, hrdma, hnet, hcip, hpair, hbpd, hheld, hmgmt, hevqs, hmbx, hflt, hpmc, hboot, hout])

/-! Machine/Rdma.lean -/

theorem execCmRequest_mask (hrdma : P .rdma = true) (hout : P .out = true) (req : CmReq) {s t : State} (h : execCmRequest req s = .next t) : t.mask P = s.mask P := by
  cases h
  dsimp only
  (repeat' split) <;> first | with_reducible rfl | simp only [and_self, implies_true, State.emit_mask, State.onRdma_mask, hrdma, hout]

theorem execCmReadyToUse_mask (hrdma : P .rdma = true) (q : Fin 16384) {s t : State} (h : execCmReadyToUse q s = .next t) : t.mask P = s.mask P := by
  cases h
  repeat' (first | with_reducible rfl | split | (refine (State.foldl_mask (fun _ _ => ?_) _ _).trans ?_) | simp only [and_self, implies_true, State.onQp_mask, hrdma])

theorem execCmRejectRx_mask (hrdma : P .rdma = true) (q : Fin 16384) {s t : State} (h : execCmRejectRx q s = .next t) : t.mask P = s.mask P := by
  cases h
  repeat' (first | with_reducible rfl | split | (refine (State.foldl_mask (fun _ _ => ?_) _ _).trans ?_) | simp only [and_self, implies_true, State.toTimewait_mask, hrdma])

theorem execCmDisconnect_mask (hsched : P .sched = true) (hlog : P .log = true) (hnvme : P .nvme = true) (hrdma : P .rdma = true) (hnet : P .net = true) (hmbx : P .mbx = true) (hout : P .out = true) (q : Fin 16384) {s t : State} (h : execCmDisconnect q s = .next t) : t.mask P = s.mask P := by
  cases h
  split <;> simp only [and_self, implies_true, State.closeQueue_mask, hsched, hlog, hnvme, hrdma, hnet, hmbx, hout]

theorem execConnectingTimeout_mask (hrdma : P .rdma = true) (q : Fin 16384) {s t : State} (h : execConnectingTimeout q s = .next t) : t.mask P = s.mask P := by
  cases h
  dsimp only
  (repeat' split) <;> first | with_reducible rfl | simp only [and_self, implies_true, State.toTimewait_mask, hrdma]

theorem execTimewaitExpiry_mask (hnvme : P .nvme = true) (hrdma : P .rdma = true) (q : Fin 16384) {s t : State} (h : execTimewaitExpiry q s = .next t) : t.mask P = s.mask P := by
  cases h
  dsimp only
  (repeat' split) <;> first | with_reducible rfl | simp only [and_self, implies_true, State.onNvme_mask, State.onRdma_mask, hnvme, hrdma]

theorem execQpFlushComplete_mask (hrdma : P .rdma = true) (q : Fin 16384) {s t : State} (h : execQpFlushComplete q s = .next t) : t.mask P = s.mask P := by
  cases h
  repeat' (first | with_reducible rfl | split | (refine (State.foldl_mask (fun _ _ => ?_) _ _).trans ?_) | simp only [and_self, implies_true, State.toTimewait_mask, hrdma])

theorem execRdmaSendRx_mask (hrdma : P .rdma = true) (p : PktHdr) (c : Capsule) {s t : State} (hx : execRdmaSendRx p c s = .next t) : t.mask P = s.mask P := by
  cases hx
  dsimp only
  repeat' (first | with_reducible rfl | (rename_i h; have hc := congrArg Prod.snd h; dsimp only at hc; clear h; subst hc; simp [*]; done) | split | (refine (State.foldl_mask (fun _ _ => ?_) _ _).trans ?_) | simp [*])

theorem execRdmaRequestGapTimer_mask (hrdma : P .rdma = true) (q : Fin 16384) {s t : State} (h : execRdmaRequestGapTimer q s = .next t) : t.mask P = s.mask P := by
  cases h
  dsimp only
  (repeat' split) <;> first | with_reducible rfl | simp only [and_self, implies_true, State.onQp_mask, State.sendCtl_mask, hrdma]

theorem execRdmaAckCoalesceTimer_mask (hrdma : P .rdma = true) (q : Fin 16384) {s t : State} (h : execRdmaAckCoalesceTimer q s = .next t) : t.mask P = s.mask P := by
  cases h
  repeat' (first | with_reducible rfl | split | (refine (State.foldl_mask (fun _ _ => ?_) _ _).trans ?_) | simp only [and_self, implies_true, State.sendAck_mask, hrdma])

theorem execRdmaOpcodeRefused_mask (hsched : P .sched = true) (hlog : P .log = true) (hnvme : P .nvme = true) (hrdma : P .rdma = true) (hnet : P .net = true) (hevqs : P .evqs = true) (hmbx : P .mbx = true) (hout : P .out = true) (p : PktHdr) (opcode : Nat) {s t : State} (hx : execRdmaOpcodeRefused p opcode s = .next t) : t.mask P = s.mask P := by
  cases hx
  dsimp only
  repeat' (first | with_reducible rfl | (rename_i h; have hc := congrArg Prod.snd h; dsimp only at hc; clear h; subst hc; simp [*]; done) | split | (refine (State.foldl_mask (fun _ _ => ?_) _ _).trans ?_) | simp [*])

theorem execCapsuleToIntake_mask (hsched : P .sched = true) (hrdma : P .rdma = true) (q : Fin 16384) (delay : Fin 3) {s t : State} (h : execCapsuleToIntake q delay s = .next t) : t.mask P = s.mask P := by
  cases h
  dsimp only
  (repeat' split) <;> first | with_reducible rfl | simp only [and_self, implies_true, State.enqueue_mask, State.onQp_mask, hsched, hrdma]

theorem execRdmaReadIssue_mask (hsched : P .sched = true) (hrdma : P .rdma = true) (hnet : P .net = true) (hout : P .out = true) (q : Fin 16384) {s t : State} (h : execRdmaReadIssue q s = .next t) : t.mask P = s.mask P := by
  cases h
  dsimp only
  (repeat' split) <;> first | with_reducible rfl | simp only [and_self, implies_true, State.onCell_mask, State.onCmd_mask, State.onQp_mask, State.sendPkt_mask, hsched, hrdma, hnet, hout]

theorem execRdmaReadResponseRx_mask (hsched : P .sched = true) (hrdma : P .rdma = true) (hout : P .out = true) (p : PktHdr) (bytes : Nat) (payload : Sector) {s t : State} (hx : execRdmaReadResponseRx p bytes payload s = .next t) : t.mask P = s.mask P := by
  have ha : (s.acceptPkt p).2.mask P = s.mask P := by simp only [and_self, implies_true, State.acceptPkt_mask, *]
  unfold execRdmaReadResponseRx at hx
  obtain rfl := Host.Outcome.next.inj hx
  split
  · rename_i s1 hp
    rw [hp] at ha
    exact ha
  · rename_i q s1 hp
    rw [hp] at ha
    clear hp
    dsimp only at ha
    repeat' (first | exact ha | split | simp [*])

theorem execRdmaResponseGapTimer_mask (hsched : P .sched = true) (hlog : P .log = true) (hnvme : P .nvme = true) (hrdma : P .rdma = true) (hnet : P .net = true) (hevqs : P .evqs = true) (hmbx : P .mbx = true) (hout : P .out = true) (q : Fin 16384) {s t : State} (h : execRdmaResponseGapTimer q s = .next t) : t.mask P = s.mask P := by
  cases h
  repeat' (first | with_reducible rfl | split | (refine (State.foldl_mask (fun _ _ => ?_) _ _).trans ?_) | simp only [and_self, implies_true, State.readAgain_mask, hsched, hlog, hnvme, hrdma, hnet, hevqs, hmbx, hout])

theorem execRdmaAckTimeout_mask (hsched : P .sched = true) (hlog : P .log = true) (hnvme : P .nvme = true) (hrdma : P .rdma = true) (hnet : P .net = true) (hevqs : P .evqs = true) (hmbx : P .mbx = true) (hout : P .out = true) (q : Fin 16384) {s t : State} (h : execRdmaAckTimeout q s = .next t) : t.mask P = s.mask P := by
  cases h
  dsimp only
  repeat' (first | with_reducible rfl | (rename_i h; have hc := congrArg Prod.snd h; dsimp only at hc; clear h; subst hc; simp [*]; done) | split | (refine (State.foldl_mask (fun _ _ => ?_) _ _).trans ?_) | simp [*])

theorem execRdmaAckRx_mask (hrdma : P .rdma = true) (hnet : P .net = true) (hout : P .out = true) (p : PktHdr) (_msn : Nat) (code : Nat) {s t : State} (hx : execRdmaAckRx p _msn code s = .next t) : t.mask P = s.mask P := by
  cases hx
  dsimp only
  repeat' (first | with_reducible rfl | (rename_i h; have hc := congrArg Prod.snd h; dsimp only at hc; clear h; subst hc; simp [*]; done) | split | (refine (State.foldl_mask (fun _ _ => ?_) _ _).trans ?_) | simp [*])

theorem execRdmaNakRx_mask (hsched : P .sched = true) (hlog : P .log = true) (hnvme : P .nvme = true) (hrdma : P .rdma = true) (hnet : P .net = true) (hevqs : P .evqs = true) (hmbx : P .mbx = true) (hout : P .out = true) (p : PktHdr) (kind : NakKind) {s t : State} (hx : execRdmaNakRx p kind s = .next t) : t.mask P = s.mask P := by
  have ha : (s.acceptPkt p).2.mask P = s.mask P := by simp only [and_self, implies_true, State.acceptPkt_mask, *]
  unfold execRdmaNakRx at hx
  obtain rfl := Host.Outcome.next.inj hx
  split
  · rename_i s1 hp
    rw [hp] at ha
    exact ha
  · rename_i q s1 hp
    rw [hp] at ha
    clear hp
    dsimp only at ha
    have hc : ((s1.freeSends q (p.psn - 1)).countRetry q).2.mask P = s.mask P := by simp only [and_self, implies_true, State.countRetry_mask, State.freeSends_mask, *]
    dsimp only
    split
    · exact ha
    · split
      · split
        · rename_i heq; rw [heq] at hc; exact hc
        · rename_i heq; rw [heq] at hc; clear heq; simp_all
      · split <;> simp [*]
      · simp [*]
      · simp [*]
      · simp [*]

theorem execRdmaRnrRetryTimer_mask (hrdma : P .rdma = true) (hout : P .out = true) (q : Fin 16384) {s t : State} (h : execRdmaRnrRetryTimer q s = .next t) : t.mask P = s.mask P := by
  cases h
  dsimp only
  (repeat' split) <;> first | with_reducible rfl | simp only [and_self, implies_true, State.onQp_mask, State.resend_mask, hrdma, hout]

theorem execReadDataToHost_mask (hsched : P .sched = true) (hnvme : P .nvme = true) (hrdma : P .rdma = true) (hnet : P .net = true) (hmgmt : P .mgmt = true) (hevqs : P .evqs = true) (hmbx : P .mbx = true) (hout : P .out = true) (ord : Nat) {s t : State} (h : execReadDataToHost ord s = .next t) : t.mask P = s.mask P := by
  cases h
  dsimp only
  (repeat' split) <;> first | with_reducible rfl | simp only [and_self, implies_true, State.countError_mask, State.dropCmd_mask, State.emit_mask, State.event_mask, State.finish_mask, State.mbxDataOut_mask, State.sendData_mask, State.settle_mask, hsched, hnvme, hrdma, hnet, hmgmt, hevqs, hmbx, hout]

theorem execCnpRx_mask (hrdma : P .rdma = true) (p : PktHdr) {s t : State} (hx : execCnpRx p s = .next t) : t.mask P = s.mask P := by
  have ha : (s.acceptPkt p).2.mask P = s.mask P := by simp only [and_self, implies_true, State.acceptPkt_mask, *]
  unfold execCnpRx at hx
  obtain rfl := Host.Outcome.next.inj hx
  split
  · rename_i s1 hp
    rw [hp] at ha
    exact ha
  · rename_i q s1 hp
    rw [hp] at ha
    clear hp
    dsimp only at ha
    repeat' (first | exact ha | split | simp [*])

theorem execRateIncreaseTimer_mask (hrdma : P .rdma = true) (q : Fin 16384) {s t : State} (h : execRateIncreaseTimer q s = .next t) : t.mask P = s.mask P := by
  cases h
  dsimp only
  (repeat' split) <;> first | with_reducible rfl | simp only [and_self, implies_true, State.onQp_mask, hrdma]

theorem execTxCirWindow_mask (hrdma : P .rdma = true) (hevqs : P .evqs = true) (hout : P .out = true) (tenant : Fin 1024) (sent : Nat) (held : Bool) {s t : State} (h : execTxCirWindow tenant sent held s = .next t) : t.mask P = s.mask P := by
  cases h
  dsimp only
  (repeat' split) <;> first | with_reducible rfl | simp only [and_self, implies_true, State.event_mask, State.onRdma_mask, hrdma, hevqs, hout]

/-! Machine/Nvme.lean -/

theorem execRead_mask (hfn : P .fn = true) (hsched : P .sched = true) (hmap : P .map = true) (htc : P .tc = true) (hlog : P .log = true) (hreb : P .reb = true) (hmed : P .med = true) (hrd : P .rd = true) (hsheet : P .sheet = true) (hnvme : P .nvme = true) (hrdma : P .rdma = true) (hnet : P .net = true) (hcip : P .cip = true) (hheld : P .held = true) (hevqs : P .evqs = true) (hmbx : P .mbx = true) (hflt : P .flt = true) (hout : P .out = true) (ord : Nat) {s t : State} (h : execRead ord s = .next t) : t.mask P = s.mask P := by
  cases h
  repeat' (first | rfl | split | (refine (State.foldl_mask (fun _ _ => ?_) _ _).trans ?_) | simp only [and_self, implies_true, State.finish_mask, State.onCmd_mask, State.serveRead_mask, hfn, hsched, hmap, htc, hlog, hreb, hmed, hrd, hsheet, hnvme, hrdma, hnet, hcip, hheld, hevqs, hmbx, hflt, hout])

theorem execWrite_mask (hfn : P .fn = true) (hsched : P .sched = true) (hmap : P .map = true) (htc : P .tc = true) (hlog : P .log = true) (hreb : P .reb = true) (hmed : P .med = true) (hrd : P .rd = true) (hsheet : P .sheet = true) (hnvme : P .nvme = true) (hrdma : P .rdma = true) (hnet : P .net = true) (hcip : P .cip = true) (hheld : P .held = true) (hevqs : P .evqs = true) (hmbx : P .mbx = true) (hflt : P .flt = true) (hout : P .out = true) (ord : Nat) {s t : State} (h : execWrite ord s = .next t) : t.mask P = s.mask P := by
  cases h
  dsimp only
  (repeat' split) <;> first | rfl | simp only [and_self, implies_true, State.endFetch_mask, State.failCmd_mask, State.finish_mask, State.needRange_mask, State.onCmd_mask, hfn, hsched, hmap, htc, hlog, hreb, hmed, hrd, hsheet, hnvme, hrdma, hnet, hcip, hheld, hevqs, hmbx, hflt, hout]

theorem execFlush_mask (hfn : P .fn = true) (hsched : P .sched = true) (hmap : P .map = true) (htc : P .tc = true) (hlog : P .log = true) (hreb : P .reb = true) (hmed : P .med = true) (hrd : P .rd = true) (hsheet : P .sheet = true) (hnvme : P .nvme = true) (hrdma : P .rdma = true) (hnet : P .net = true) (hcip : P .cip = true) (hheld : P .held = true) (hevqs : P .evqs = true) (hmbx : P .mbx = true) (hflt : P .flt = true) (hout : P .out = true) (ord : Nat) {s t : State} (h : execFlush ord s = .next t) : t.mask P = s.mask P := by
  cases h
  repeat' (first | rfl | (rename_i h; first | (simp [*, State.issue_mask hsheet hout h]; done) | (simp [*, State.issueSys_mask hsheet hout h]; done)) | split | (refine (State.foldl_mask (fun _ _ => ?_) _ _).trans ?_) | simp [*])

theorem execCompare_mask (hfn : P .fn = true) (hsched : P .sched = true) (hmap : P .map = true) (htc : P .tc = true) (hlog : P .log = true) (hreb : P .reb = true) (hmed : P .med = true) (hrd : P .rd = true) (hsheet : P .sheet = true) (hnvme : P .nvme = true) (hrdma : P .rdma = true) (hnet : P .net = true) (hcip : P .cip = true) (hheld : P .held = true) (hevqs : P .evqs = true) (hmbx : P .mbx = true) (hflt : P .flt = true) (hout : P .out = true) (ord : Nat) {s t : State} (h : execCompare ord s = .next t) : t.mask P = s.mask P := by
  cases h
  dsimp only
  (repeat' split) <;> first | rfl | simp only [and_self, implies_true, State.finish_mask, State.finishOk_mask, State.onCell_mask, State.onCmd_mask, State.serveRead_mask, State.settle_mask, hfn, hsched, hmap, htc, hlog, hreb, hmed, hrd, hsheet, hnvme, hrdma, hnet, hcip, hheld, hevqs, hmbx, hflt, hout]

theorem execWriteZeroes_mask (hfn : P .fn = true) (hsched : P .sched = true) (hmap : P .map = true) (htc : P .tc = true) (hlog : P .log = true) (hreb : P .reb = true) (hmed : P .med = true) (hrd : P .rd = true) (hsheet : P .sheet = true) (hnvme : P .nvme = true) (hrdma : P .rdma = true) (hnet : P .net = true) (hcip : P .cip = true) (hheld : P .held = true) (hevqs : P .evqs = true) (hmbx : P .mbx = true) (hflt : P .flt = true) (hout : P .out = true) (ord : Nat) {s t : State} (h : execWriteZeroes ord s = .next t) : t.mask P = s.mask P := by
  cases h
  dsimp only
  (repeat' split) <;> first | rfl | simp only [and_self, implies_true, State.clearCmd_mask, State.finish_mask, State.needRange_mask, State.tryAck_mask, hfn, hsched, hmap, htc, hlog, hreb, hmed, hrd, hsheet, hnvme, hrdma, hnet, hcip, hheld, hevqs, hmbx, hflt, hout]

theorem execDatasetManagement_mask (hfn : P .fn = true) (hsched : P .sched = true) (hmap : P .map = true) (htc : P .tc = true) (hlog : P .log = true) (hreb : P .reb = true) (hmed : P .med = true) (hrd : P .rd = true) (hsheet : P .sheet = true) (hnvme : P .nvme = true) (hrdma : P .rdma = true) (hnet : P .net = true) (hcip : P .cip = true) (hheld : P .held = true) (hevqs : P .evqs = true) (hmbx : P .mbx = true) (hflt : P .flt = true) (hout : P .out = true) (ord : Nat) {s t : State} (h : execDatasetManagement ord s = .next t) : t.mask P = s.mask P := by
  cases h
  dsimp only
  repeat' (first | rfl | (rename_i h; have hc := congrArg Prod.snd h; dsimp only at hc; clear h; subst hc; simp [*]; done) | split | (refine (State.foldl_mask (fun _ _ => ?_) _ _).trans ?_) | simp [*])

theorem execIdentify_mask (hnvme : P .nvme = true) (hrdma : P .rdma = true) (hnet : P .net = true) (hout : P .out = true) (q : Fin 16384) {s t : State} (h : execIdentify q s = .next t) : t.mask P = s.mask P := by
  cases h
  dsimp only
  (repeat' split) <;> first | rfl | simp only [and_self, implies_true, State.endCap_mask, State.pageReply_mask, State.popCap_mask, hnvme, hrdma, hnet, hout]

theorem execGetLogPage_mask (hsched : P .sched = true) (hnvme : P .nvme = true) (hrdma : P .rdma = true) (hnet : P .net = true) (hout : P .out = true) (ref : CmdRef) {s t : State} (h : execGetLogPage ref s = .next t) : t.mask P = s.mask P := by
  cases h
  dsimp only
  (repeat' split) <;> first | rfl | simp only [and_self, implies_true, State.endCap_mask, State.onCmd_mask, State.pageReply_mask, State.popCap_mask, hsched, hnvme, hrdma, hnet, hout]

theorem execSetFeatures_mask (hnvme : P .nvme = true) (hrdma : P .rdma = true) (hnet : P .net = true) (hout : P .out = true) (q : Fin 16384) {s t : State} (h : execSetFeatures q s = .next t) : t.mask P = s.mask P := by
  cases h
  dsimp only
  (repeat' split) <;> first | rfl | simp only [and_self, implies_true, State.endCap_mask, State.onCtl_mask, State.popCap_mask, hnvme, hrdma, hnet, hout]

theorem execGetFeatures_mask (hnvme : P .nvme = true) (hrdma : P .rdma = true) (hnet : P .net = true) (hout : P .out = true) (q : Fin 16384) {s t : State} (h : execGetFeatures q s = .next t) : t.mask P = s.mask P := by
  cases h
  dsimp only
  (repeat' split) <;> first | rfl | simp only [and_self, implies_true, State.endCap_mask, State.popCap_mask, hnvme, hrdma, hnet, hout]

theorem execAsynchronousEventRequest_mask (hnvme : P .nvme = true) (hrdma : P .rdma = true) (hnet : P .net = true) (hout : P .out = true) (q : Fin 16384) {s t : State} (h : execAsynchronousEventRequest q s = .next t) : t.mask P = s.mask P := by
  cases h
  dsimp only
  (repeat' split) <;> first | rfl | simp only [and_self, implies_true, State.endCap_mask, State.onCtl_mask, State.popCap_mask, State.sendAen_mask, State.smartCheck_mask, hnvme, hrdma, hnet, hout]

theorem execKeepAlive_mask (hnvme : P .nvme = true) (hrdma : P .rdma = true) (hnet : P .net = true) (hout : P .out = true) (q : Fin 16384) {s t : State} (h : execKeepAlive q s = .next t) : t.mask P = s.mask P := by
  cases h
  split <;> simp only [and_self, implies_true, State.endCap_mask, State.popCap_mask, hnvme, hrdma, hnet, hout]

theorem execAbort_mask (hnvme : P .nvme = true) (hrdma : P .rdma = true) (hnet : P .net = true) (hout : P .out = true) (q : Fin 16384) {s t : State} (h : execAbort q s = .next t) : t.mask P = s.mask P := by
  cases h
  split <;> simp only [and_self, implies_true, State.endCap_mask, State.popCap_mask, hnvme, hrdma, hnet, hout]

theorem execConnect_mask (hnvme : P .nvme = true) (hrdma : P .rdma = true) (hnet : P .net = true) (hout : P .out = true) (q : Fin 16384) {s t : State} (h : execConnect q s = .next t) : t.mask P = s.mask P := by
  cases h
  dsimp only
  (repeat' split) <;> first | rfl | simp only [and_self, implies_true, State.endCap_mask, State.onNvme_mask, State.onQp_mask, State.popCap_mask, State.reserve_mask, hnvme, hrdma, hnet, hout]

theorem execPropertyGet_mask (hnvme : P .nvme = true) (hrdma : P .rdma = true) (hnet : P .net = true) (hout : P .out = true) (q : Fin 16384) {s t : State} (h : execPropertyGet q s = .next t) : t.mask P = s.mask P := by
  cases h
  dsimp only
  (repeat' split) <;> first | rfl | simp only [and_self, implies_true, State.endCap_mask, State.popCap_mask, hnvme, hrdma, hnet, hout]

theorem execPropertySet_mask (hsched : P .sched = true) (hlog : P .log = true) (hnvme : P .nvme = true) (hrdma : P .rdma = true) (hnet : P .net = true) (hmbx : P .mbx = true) (hout : P .out = true) (q : Fin 16384) {s t : State} (h : execPropertySet q s = .next t) : t.mask P = s.mask P := by
  cases h
  dsimp only
  repeat' (first | rfl | split | (refine (State.foldl_mask (fun _ _ => ?_) _ _).trans ?_) | simp only [and_self, implies_true, State.endCap_mask, State.flushQp_mask, State.onCtl_mask, State.popCap_mask, hsched, hlog, hnvme, hrdma, hnet, hmbx, hout])

theorem execCcEnClearComplete_mask (hnvme : P .nvme = true) (ctl : Fin 4096) {s t : State} (h : execCcEnClearComplete ctl s = .next t) : t.mask P = s.mask P := by
  cases h
  dsimp only
  (repeat' split) <;> first | rfl | simp only [and_self, implies_true, State.onCtl_mask, hnvme]

theorem execDisconnect_mask (hsched : P .sched = true) (hlog : P .log = true) (hnvme : P .nvme = true) (hrdma : P .rdma = true) (hnet : P .net = true) (hmbx : P .mbx = true) (hout : P .out = true) (q : Fin 16384) {s t : State} (h : execDisconnect q s = .next t) : t.mask P = s.mask P := by
  cases h
  dsimp only
  (repeat' split) <;> first | rfl | simp only [and_self, implies_true, State.endCap_mask, State.flushQp_mask, State.popCap_mask, hsched, hlog, hnvme, hrdma, hnet, hmbx, hout]

theorem execKeepAliveTimeout_mask (hsched : P .sched = true) (hlog : P .log = true) (hnvme : P .nvme = true) (hrdma : P .rdma = true) (hnet : P .net = true) (hmbx : P .mbx = true) (hout : P .out = true) (ctl : Fin 4096) {s t : State} (h : execKeepAliveTimeout ctl s = .next t) : t.mask P = s.mask P := by
  cases h
  repeat' (first | rfl | split | (refine (State.foldl_mask (fun _ _ => ?_) _ _).trans ?_) | simp only [and_self, implies_true, State.teardownCtl_mask, hsched, hlog, hnvme, hrdma, hnet, hmbx, hout])

theorem execNvmeUnsupportedOpcode_mask (hnvme : P .nvme = true) (hrdma : P .rdma = true) (hnet : P .net = true) (hout : P .out = true) (q : Fin 16384) {s t : State} (h : execNvmeUnsupportedOpcode q s = .next t) : t.mask P = s.mask P := by
  cases h
  dsimp only
  (repeat' split) <;> first | rfl | simp only [and_self, implies_true, State.endCap_mask, State.popCap_mask, hnvme, hrdma, hnet, hout]

theorem execLedgerBind_mask (hsched : P .sched = true) (hlog : P .log = true) (hnvme : P .nvme = true) (hrdma : P .rdma = true) (hnet : P .net = true) (hmbx : P .mbx = true) (hout : P .out = true) (ord : Nat) {s t : State} (h : execLedgerBind ord s = .next t) : t.mask P = s.mask P := by
  cases h
  dsimp only
  repeat' (first | rfl | (rename_i h; have hc := congrArg Prod.snd h; dsimp only at hc; clear h; subst hc; simp [*]; done) | split | (refine (State.foldl_mask (fun _ _ => ?_) _ _).trans ?_) | simp [*])

theorem execQueueReservation_mask (hnvme : P .nvme = true) (hout : P .out = true) (handle : Nat) (tenant : Nat) (entries : Nat) {s t : State} (h : execQueueReservation handle tenant entries s = .next t) : t.mask P = s.mask P := by
  cases h
  dsimp only
  (repeat' split) <;> first | rfl | simp only [and_self, implies_true, State.emit_mask, State.onNvme_mask, hnvme, hout]

theorem execForwardCommand_mask (hsched : P .sched = true) (hnvme : P .nvme = true) (hrdma : P .rdma = true) (hnet : P .net = true) (hout : P .out = true) (f : FwdCmd) {s t : State} (h : execForwardCommand f s = .next t) : t.mask P = s.mask P := by
  cases h
  dsimp only
  (repeat' split) <;> first | with_reducible rfl | simp only [and_self, implies_true, State.emit_mask, State.endCap_mask, State.enqueue_mask, State.onSched_mask, State.popCap_mask, State.returnCqe_mask, State.sendForward_mask, hsched, hnvme, hrdma, hnet, hout]

theorem execForwardCompletionRx_mask (hsched : P .sched = true) (hnvme : P .nvme = true) (hrdma : P .rdma = true) (hnet : P .net = true) (hout : P .out = true) (handle : Nat) (cqe : FwdCqe) {s t : State} (h : execForwardCompletionRx handle cqe s = .next t) : t.mask P = s.mask P := by
  cases h
  dsimp only
  (repeat' split) <;> first | rfl | simp only [and_self, implies_true, State.onNvme_mask, State.onQp_mask, State.onSched_mask, State.returnCqe_mask, hsched, hnvme, hrdma, hnet, hout]

theorem execForwardRecall_mask (hsched : P .sched = true) (handle : Nat) {s t : State} (h : execForwardRecall handle s = .next t) : t.mask P = s.mask P := by
  cases h
  dsimp only
  repeat' (first | with_reducible rfl | split | (refine (State.foldl_mask (fun _ _ => ?_) _ _).trans ?_) | simp only [and_self, implies_true, State.onSched_mask, State.returnCredit_mask, hsched])

/-! Machine/Power.lean -/

theorem execPresenceChange_mask (hfn : P .fn = true) (hsched : P .sched = true) (hmap : P .map = true) (htc : P .tc = true) (hlog : P .log = true) (hreb : P .reb = true) (hmed : P .med = true) (hrd : P .rd = true) (hsheet : P .sheet = true) (hmods : P .mods = true) (hmedia : P .media = true) (hcip : P .cip = true) (hbpd : P .bpd = true) (hheld : P .held = true) (hevqs : P .evqs = true) (hflt : P .flt = true) (hout : P .out = true) (bay : Fin 48) (present : Option ModuleDesc) {s t : State} (h : execPresenceChange bay present s = .next t) : t.mask P = s.mask P := by
  cases h
  repeat' (first | with_reducible rfl | (rename_i h; first | (simp [*, State.issue_mask hsheet hout h]; done) | (simp [*, State.issueSys_mask hsheet hout h]; done)) | split | (refine (State.foldl_mask (fun _ _ => ?_) _ _).trans ?_) | simp [*])

theorem execPresenceAbsent100ms_mask (hfn : P .fn = true) (hsched : P .sched = true) (hmap : P .map = true) (htc : P .tc = true) (hlog : P .log = true) (hreb : P .reb = true) (hmed : P .med = true) (hrd : P .rd = true) (hsheet : P .sheet = true) (hmods : P .mods = true) (hcip : P .cip = true) (hbpd : P .bpd = true) (hheld : P .held = true) (hevqs : P .evqs = true) (hflt : P .flt = true) (hout : P .out = true) (bay : Fin 48) {s t : State} (h : execPresenceAbsent100ms bay s = .next t) : t.mask P = s.mask P := by
  cases h
  dsimp only
  (repeat' split) <;> first | with_reducible rfl | simp only [and_self, implies_true, State.onChan_mask, State.onPort_mask, State.setChan_mask, State.setMod_mask, hfn, hsched, hmap, htc, hlog, hreb, hmed, hrd, hsheet, hmods, hcip, hbpd, hheld, hevqs, hflt, hout]

theorem execFeedWindowChange_mask (hbpd : P .bpd = true) (f : Feed) (inWindow : Bool) (decivolts : Nat) {s t : State} (h : execFeedWindowChange f inWindow decivolts s = .next t) : t.mask P = s.mask P := by
  cases h
  split <;> simp only [and_self, implies_true, State.onFeed_mask, hbpd]

theorem execFeedLost_mask (hfn : P .fn = true) (hsched : P .sched = true) (hmap : P .map = true) (htc : P .tc = true) (hlog : P .log = true) (hreb : P .reb = true) (hmed : P .med = true) (hrd : P .rd = true) (hsheet : P .sheet = true) (hmods : P .mods = true) (hcip : P .cip = true) (hbpd : P .bpd = true) (hheld : P .held = true) (hevqs : P .evqs = true) (hflt : P .flt = true) (hout : P .out = true) (f : Feed) {s t : State} (h : execFeedLost f s = .next t) : t.mask P = s.mask P := by
  unfold execFeedLost at h
  obtain rfl := Host.Outcome.next.inj h
  have hoff : ∀ x : State, ((x.onBpd fun b => { b with testBusy := false, testMbx := none }).pathOff).mask P = x.mask P :=
    fun x => by simp only [and_self, implies_true, State.pathOff_mask, State.onBpd_mask, *]
  split
  · with_reducible rfl
  · dsimp only
    repeat' split
    all_goals first | with_reducible rfl | simp only [and_self, implies_true, hoff, State.enterHoldup_mask, State.setSel_mask, State.onFeed_mask, *]

theorem execFeedGood_mask (hfn : P .fn = true) (hsched : P .sched = true) (hmap : P .map = true) (htc : P .tc = true) (hlog : P .log = true) (hreb : P .reb = true) (hmed : P .med = true) (hrd : P .rd = true) (hsheet : P .sheet = true) (hmods : P .mods = true) (hcip : P .cip = true) (hbpd : P .bpd = true) (hheld : P .held = true) (hevqs : P .evqs = true) (hflt : P .flt = true) (hout : P .out = true) (f : Feed) {s t : State} (h : execFeedGood f s = .next t) : t.mask P = s.mask P := by
  cases h
  split <;> simp only [and_self, implies_true, State.onFeed_mask, State.selInit_mask, hfn, hsched, hmap, htc, hlog, hreb, hmed, hrd, hsheet, hmods, hcip, hbpd, hheld, hevqs, hflt, hout]

theorem execPathConfirmedOff_mask (hfn : P .fn = true) (hsched : P .sched = true) (hmap : P .map = true) (htc : P .tc = true) (hlog : P .log = true) (hreb : P .reb = true) (hmed : P .med = true) (hrd : P .rd = true) (hsheet : P .sheet = true) (hmods : P .mods = true) (hcip : P .cip = true) (hbpd : P .bpd = true) (hheld : P .held = true) (hevqs : P .evqs = true) (hflt : P .flt = true) (hout : P .out = true) {s t : State} (h : execPathConfirmedOff s = .next t) : t.mask P = s.mask P := by
  cases h
  simp only [and_self, implies_true, State.pathOff_mask, hfn, hsched, hmap, htc, hlog, hreb, hmed, hrd, hsheet, hmods, hcip, hbpd, hheld, hevqs, hflt, hout]

theorem execPathConfirmTimeout_mask (hfn : P .fn = true) (hsched : P .sched = true) (hmap : P .map = true) (htc : P .tc = true) (hlog : P .log = true) (hreb : P .reb = true) (hmed : P .med = true) (hrd : P .rd = true) (hsheet : P .sheet = true) (hmods : P .mods = true) (hcip : P .cip = true) (hbpd : P .bpd = true) (hheld : P .held = true) (hevqs : P .evqs = true) (hflt : P .flt = true) (hout : P .out = true) {s t : State} (h : execPathConfirmTimeout s = .next t) : t.mask P = s.mask P := by
  cases h
  split <;> simp only [and_self, implies_true, State.enterHoldup_mask, State.onFeed_mask, State.raise_mask, hfn, hsched, hmap, htc, hlog, hreb, hmed, hrd, hsheet, hmods, hcip, hbpd, hheld, hevqs, hflt, hout]

theorem execFeedReturnTimer_mask (hfn : P .fn = true) (hsched : P .sched = true) (hmap : P .map = true) (htc : P .tc = true) (hlog : P .log = true) (hreb : P .reb = true) (hmed : P .med = true) (hrd : P .rd = true) (hsheet : P .sheet = true) (hmods : P .mods = true) (hcip : P .cip = true) (hbpd : P .bpd = true) (hheld : P .held = true) (hevqs : P .evqs = true) (hflt : P .flt = true) (hout : P .out = true) {s t : State} (h : execFeedReturnTimer s = .next t) : t.mask P = s.mask P := by
  cases h
  split <;> simp only [and_self, implies_true, State.setSel_mask, hfn, hsched, hmap, htc, hlog, hreb, hmed, hrd, hsheet, hmods, hcip, hbpd, hheld, hevqs, hflt, hout]

theorem execDownRestartTimer_mask (hfn : P .fn = true) (hsched : P .sched = true) (hmap : P .map = true) (htc : P .tc = true) (hlog : P .log = true) (hreb : P .reb = true) (hmed : P .med = true) (hrd : P .rd = true) (hsheet : P .sheet = true) (hmods : P .mods = true) (hcip : P .cip = true) (hbpd : P .bpd = true) (hheld : P .held = true) (hevqs : P .evqs = true) (hflt : P .flt = true) (hout : P .out = true) {s t : State} (h : execDownRestartTimer s = .next t) : t.mask P = s.mask P := by
  cases h
  split <;> simp only [and_self, implies_true, State.selInit_mask, State.setSel_mask, hfn, hsched, hmap, htc, hlog, hreb, hmed, hrd, hsheet, hmods, hcip, hbpd, hheld, hevqs, hflt, hout]

theorem execHoldupPeerTimer_mask (hclk : P .clk = true) (hfn : P .fn = true) (hsched : P .sched = true) (hmap : P .map = true) (htc : P .tc = true) (hlog : P .log = true) (hreb : P .reb = true) (hmed : P .med = true) (hrd : P .rd = true) (hsheet : P .sheet = true) (hmods : P .mods = true) (hnvme : P .nvme = true) (hrdma : P .rdma = true) (hnet : P .net = true) (hcip : P .cip = true) (hpair : P .pair = true) (hbpd : P .bpd = true) (hheld : P .held = true) (hmgmt : P .mgmt = true) (hevqs : P .evqs = true) (hmbx : P .mbx = true) (hflt : P .flt = true) (hpmc : P .pmc = true) (hboot : P .boot = true) (hout : P .out = true) {s t : State} (h : execHoldupPeerTimer s = .next t) : t.mask P = s.mask P := by
  cases h
  split <;> simp only [and_self, implies_true, State.goDown_mask, hclk, hfn, hsched, hmap, htc, hlog, hreb, hmed, hrd, hsheet, hmods, hnvme, hrdma, hnet, hcip, hpair, hbpd, hheld, hmgmt, hevqs, hmbx, hflt, hpmc, hboot, hout]

theorem execBusBelowHoldMin_mask (hclk : P .clk = true) (hfn : P .fn = true) (hsched : P .sched = true) (hmap : P .map = true) (htc : P .tc = true) (hlog : P .log = true) (hreb : P .reb = true) (hmed : P .med = true) (hrd : P .rd = true) (hsheet : P .sheet = true) (hmods : P .mods = true) (hnvme : P .nvme = true) (hrdma : P .rdma = true) (hnet : P .net = true) (hcip : P .cip = true) (hpair : P .pair = true) (hbpd : P .bpd = true) (hheld : P .held = true) (hmgmt : P .mgmt = true) (hevqs : P .evqs = true) (hmbx : P .mbx = true) (hflt : P .flt = true) (hpmc : P .pmc = true) (hboot : P .boot = true) (hout : P .out = true) {s t : State} (h : execBusBelowHoldMin s = .next t) : t.mask P = s.mask P := by
  cases h
  split <;> simp only [and_self, implies_true, State.goDown_mask, State.onBpd_mask, hclk, hfn, hsched, hmap, htc, hlog, hreb, hmed, hrd, hsheet, hmods, hnvme, hrdma, hnet, hcip, hpair, hbpd, hheld, hmgmt, hevqs, hmbx, hflt, hpmc, hboot, hout]

theorem execBusStartWindowChange_mask (hlog : P .log = true) (hbpd : P .bpd = true) (hevqs : P .evqs = true) (hout : P .out = true) (inWindow : Bool) (above11 : Bool) {s t : State} (h : execBusStartWindowChange inWindow above11 s = .next t) : t.mask P = s.mask P := by
  cases h
  simp only [and_self, implies_true, State.checkStrike_mask, State.onBpd_mask, hlog, hbpd, hevqs, hout]

theorem execHoldupTestStart_mask (hbpd : P .bpd = true) (why : HoldTest) {s t : State} (h : execHoldupTestStart why s = .next t) : t.mask P = s.mask P := by
  cases h
  dsimp only
  (repeat' split) <;> first | with_reducible rfl | simp only [and_self, implies_true, State.onBpd_mask, hbpd]

theorem execHoldupTestEnd_mask (hlog : P .log = true) (hbpd : P .bpd = true) (hevqs : P .evqs = true) (hmbx : P .mbx = true) (hout : P .out = true) (milliamps : Nat) (v0Mv : Nat) (droopMv : Nat) (micros : Nat) {s t : State} (h : execHoldupTestEnd milliamps v0Mv droopMv micros s = .next t) : t.mask P = s.mask P := by
  cases h
  dsimp only
  (repeat' split) <;> first | with_reducible rfl | simp only [and_self, implies_true, State.answer_mask, State.checkStrike_mask, State.event_mask, State.onBpd_mask, hlog, hbpd, hevqs, hmbx, hout]

theorem execHoldupTestAgeExpiry_mask (hlog : P .log = true) (hevqs : P .evqs = true) (hout : P .out = true) {s t : State} (h : execHoldupTestAgeExpiry s = .next t) : t.mask P = s.mask P := by
  cases h
  simp only [and_self, implies_true, State.checkStrike_mask, hlog, hevqs, hout]

theorem execInsertionDelayExpiry_mask (hfn : P .fn = true) (hsched : P .sched = true) (hmap : P .map = true) (htc : P .tc = true) (hlog : P .log = true) (hreb : P .reb = true) (hmed : P .med = true) (hrd : P .rd = true) (hsheet : P .sheet = true) (hmods : P .mods = true) (hcip : P .cip = true) (hbpd : P .bpd = true) (hheld : P .held = true) (hevqs : P .evqs = true) (hflt : P .flt = true) (hout : P .out = true) (bay : Fin 48) {s t : State} (h : execInsertionDelayExpiry bay s = .next t) : t.mask P = s.mask P := by
  cases h
  dsimp only
  (repeat' split) <;> first | with_reducible rfl | simp only [and_self, implies_true, State.setChan_mask, hfn, hsched, hmap, htc, hlog, hreb, hmed, hrd, hsheet, hmods, hcip, hbpd, hheld, hevqs, hflt, hout]

theorem execChannelPowerGood_mask (hfn : P .fn = true) (hsched : P .sched = true) (hmap : P .map = true) (htc : P .tc = true) (hlog : P .log = true) (hreb : P .reb = true) (hmed : P .med = true) (hrd : P .rd = true) (hsheet : P .sheet = true) (hmods : P .mods = true) (hcip : P .cip = true) (hbpd : P .bpd = true) (hheld : P .held = true) (hevqs : P .evqs = true) (hflt : P .flt = true) (hout : P .out = true) (bay : Fin 48) {s t : State} (h : execChannelPowerGood bay s = .next t) : t.mask P = s.mask P := by
  cases h
  split <;> simp only [and_self, implies_true, State.setChan_mask, hfn, hsched, hmap, htc, hlog, hreb, hmed, hrd, hsheet, hmods, hcip, hbpd, hheld, hevqs, hflt, hout]

theorem execFastTrip_mask (hfn : P .fn = true) (hsched : P .sched = true) (hmap : P .map = true) (htc : P .tc = true) (hlog : P .log = true) (hreb : P .reb = true) (hmed : P .med = true) (hrd : P .rd = true) (hsheet : P .sheet = true) (hmods : P .mods = true) (hcip : P .cip = true) (hbpd : P .bpd = true) (hheld : P .held = true) (hevqs : P .evqs = true) (hflt : P .flt = true) (hout : P .out = true) (bay : Fin 48) {s t : State} (h : execFastTrip bay s = .next t) : t.mask P = s.mask P := by
  cases h
  split <;> simp only [and_self, implies_true, State.trip_mask, hfn, hsched, hmap, htc, hlog, hreb, hmed, hrd, hsheet, hmods, hcip, hbpd, hheld, hevqs, hflt, hout]

theorem execSoaTimeout_mask (hfn : P .fn = true) (hsched : P .sched = true) (hmap : P .map = true) (htc : P .tc = true) (hlog : P .log = true) (hreb : P .reb = true) (hmed : P .med = true) (hrd : P .rd = true) (hsheet : P .sheet = true) (hmods : P .mods = true) (hcip : P .cip = true) (hbpd : P .bpd = true) (hheld : P .held = true) (hevqs : P .evqs = true) (hflt : P .flt = true) (hout : P .out = true) (bay : Fin 48) {s t : State} (h : execSoaTimeout bay s = .next t) : t.mask P = s.mask P := by
  cases h
  split <;> simp only [and_self, implies_true, State.trip_mask, hfn, hsched, hmap, htc, hlog, hreb, hmed, hrd, hsheet, hmods, hcip, hbpd, hheld, hevqs, hflt, hout]

theorem execRampTimeout_mask (hfn : P .fn = true) (hsched : P .sched = true) (hmap : P .map = true) (htc : P .tc = true) (hlog : P .log = true) (hreb : P .reb = true) (hmed : P .med = true) (hrd : P .rd = true) (hsheet : P .sheet = true) (hmods : P .mods = true) (hcip : P .cip = true) (hbpd : P .bpd = true) (hheld : P .held = true) (hevqs : P .evqs = true) (hflt : P .flt = true) (hout : P .out = true) (bay : Fin 48) {s t : State} (h : execRampTimeout bay s = .next t) : t.mask P = s.mask P := by
  cases h
  split <;> simp only [and_self, implies_true, State.trip_mask, hfn, hsched, hmap, htc, hlog, hreb, hmed, hrd, hsheet, hmods, hcip, hbpd, hheld, hevqs, hflt, hout]

theorem execPgLost_mask (hfn : P .fn = true) (hsched : P .sched = true) (hmap : P .map = true) (htc : P .tc = true) (hlog : P .log = true) (hreb : P .reb = true) (hmed : P .med = true) (hrd : P .rd = true) (hsheet : P .sheet = true) (hmods : P .mods = true) (hcip : P .cip = true) (hbpd : P .bpd = true) (hheld : P .held = true) (hevqs : P .evqs = true) (hflt : P .flt = true) (hout : P .out = true) (bay : Fin 48) {s t : State} (h : execPgLost bay s = .next t) : t.mask P = s.mask P := by
  cases h
  split <;> simp only [and_self, implies_true, State.trip_mask, hfn, hsched, hmap, htc, hlog, hreb, hmed, hrd, hsheet, hmods, hcip, hbpd, hheld, hevqs, hflt, hout]

theorem execCooldownExpiry_mask (hfn : P .fn = true) (hsched : P .sched = true) (hmap : P .map = true) (htc : P .tc = true) (hlog : P .log = true) (hreb : P .reb = true) (hmed : P .med = true) (hrd : P .rd = true) (hsheet : P .sheet = true) (hmods : P .mods = true) (hcip : P .cip = true) (hbpd : P .bpd = true) (hheld : P .held = true) (hevqs : P .evqs = true) (hflt : P .flt = true) (hout : P .out = true) (bay : Fin 48) {s t : State} (h : execCooldownExpiry bay s = .next t) : t.mask P = s.mask P := by
  cases h
  dsimp only
  (repeat' split) <;> first | with_reducible rfl | simp only [and_self, implies_true, State.onChan_mask, State.setChan_mask, hfn, hsched, hmap, htc, hlog, hreb, hmed, hrd, hsheet, hmods, hcip, hbpd, hheld, hevqs, hflt, hout]

theorem execFetFaultTimer_mask (hfn : P .fn = true) (hsched : P .sched = true) (hmap : P .map = true) (htc : P .tc = true) (hlog : P .log = true) (hreb : P .reb = true) (hmed : P .med = true) (hrd : P .rd = true) (hsheet : P .sheet = true) (hmods : P .mods = true) (hcip : P .cip = true) (hbpd : P .bpd = true) (hheld : P .held = true) (hevqs : P .evqs = true) (hflt : P .flt = true) (hout : P .out = true) (bay : Fin 48) {s t : State} (h : execFetFaultTimer bay s = .next t) : t.mask P = s.mask P := by
  cases h
  split <;> simp only [and_self, implies_true, State.onChan_mask, State.raise_mask, State.setChan_mask, hfn, hsched, hmap, htc, hlog, hreb, hmed, hrd, hsheet, hmods, hcip, hbpd, hheld, hevqs, hflt, hout]

theorem execRailPowerGood_mask (hbpd : P .bpd = true) (k : Fin 7) {s t : State} (h : execRailPowerGood k s = .next t) : t.mask P = s.mask P := by
  cases h
  dsimp only
  (repeat' split) <;> first | with_reducible rfl | simp only [and_self, implies_true, State.onBpd_mask, hbpd]

theorem execRailPgTimeout_mask (hbpd : P .bpd = true) {s t : State} (h : execRailPgTimeout s = .next t) : t.mask P = s.mask P := by
  cases h
  dsimp only
  (repeat' split) <;> first | with_reducible rfl | simp only [and_self, implies_true, State.onBpd_mask, hbpd]

theorem execRailRetryTimer_mask (hbpd : P .bpd = true) {s t : State} (h : execRailRetryTimer s = .next t) : t.mask P = s.mask P := by
  cases h
  split <;> simp only [and_self, implies_true, State.onBpd_mask, hbpd]

theorem execRailPgLost_mask (hclk : P .clk = true) (hfn : P .fn = true) (hsched : P .sched = true) (hmap : P .map = true) (htc : P .tc = true) (hlog : P .log = true) (hreb : P .reb = true) (hmed : P .med = true) (hrd : P .rd = true) (hsheet : P .sheet = true) (hnvme : P .nvme = true) (hrdma : P .rdma = true) (hnet : P .net = true) (hcip : P .cip = true) (hpair : P .pair = true) (hbpd : P .bpd = true) (hmgmt : P .mgmt = true) (hevqs : P .evqs = true) (hmbx : P .mbx = true) (hflt : P .flt = true) (hpmc : P .pmc = true) (hboot : P .boot = true) (_k : Fin 7) {s t : State} (h : execRailPgLost _k s = .next t) : t.mask P = s.mask P := by
  cases h
  split <;> simp only [and_self, implies_true, State.railLost_mask, hclk, hfn, hsched, hmap, htc, hlog, hreb, hmed, hrd, hsheet, hnvme, hrdma, hnet, hcip, hpair, hbpd, hmgmt, hevqs, hmbx, hflt, hpmc, hboot]

theorem execRefclkSysLoss_mask (hclk : P .clk = true) (hfn : P .fn = true) (hsched : P .sched = true) (hmap : P .map = true) (htc : P .tc = true) (hlog : P .log = true) (hreb : P .reb = true) (hmed : P .med = true) (hrd : P .rd = true) (hsheet : P .sheet = true) (hnvme : P .nvme = true) (hrdma : P .rdma = true) (hnet : P .net = true) (hcip : P .cip = true) (hpair : P .pair = true) (hbpd : P .bpd = true) (hmgmt : P .mgmt = true) (hevqs : P .evqs = true) (hmbx : P .mbx = true) (hflt : P .flt = true) (hpmc : P .pmc = true) (hboot : P .boot = true) {s t : State} (h : execRefclkSysLoss s = .next t) : t.mask P = s.mask P := by
  cases h
  dsimp only
  (repeat' split) <;> first | with_reducible rfl | simp only [and_self, implies_true, State.onBpd_mask, State.railLost_mask, hclk, hfn, hsched, hmap, htc, hlog, hreb, hmed, hrd, hsheet, hnvme, hrdma, hnet, hcip, hpair, hbpd, hmgmt, hevqs, hmbx, hflt, hpmc, hboot]

theorem execRefclkSysRestored_mask (hbpd : P .bpd = true) {s t : State} (h : execRefclkSysRestored s = .next t) : t.mask P = s.mask P := by
  cases h
  split <;> simp only [and_self, implies_true, State.onBpd_mask, hbpd]

theorem execAuxiliaryPowerRemoved_mask (hclk : P .clk = true) (hfn : P .fn = true) (hsched : P .sched = true) (hmap : P .map = true) (htc : P .tc = true) (hlog : P .log = true) (hreb : P .reb = true) (hmed : P .med = true) (hrd : P .rd = true) (hsheet : P .sheet = true) (hmods : P .mods = true) (hnvme : P .nvme = true) (hrdma : P .rdma = true) (hnet : P .net = true) (hcip : P .cip = true) (hpair : P .pair = true) (hbpd : P .bpd = true) (hheld : P .held = true) (hmgmt : P .mgmt = true) (hevqs : P .evqs = true) (hmbx : P .mbx = true) (hflt : P .flt = true) (hpmc : P .pmc = true) (hboot : P .boot = true) {s t : State} (h : execAuxiliaryPowerRemoved s = .next t) : t.mask P = s.mask P := by
  unfold execAuxiliaryPowerRemoved at h
  obtain rfl := Host.Outcome.next.inj h
  have h2 : ((List.range 48).foldl (fun s b => s.modulePower b)
          (s.onBpd fun b =>
            { BpdSt.reset with aux := false, chans := b.chans.map fun c => { Chan.reset with pres := c.pres } })).diePowerOff.mask P = s.mask P := by
    rw [State.diePowerOff_mask (by assumption) (by assumption) (by assumption) (by assumption) (by assumption) (by assumption) (by assumption) (by assumption) (by assumption) (by assumption) (by assumption) (by assumption) (by assumption) (by assumption) (by assumption) (by assumption) (by assumption) (by assumption) (by assumption) (by assumption) (by assumption)]
    exact (State.foldl_mask (fun s b => by simp only [and_self, implies_true, State.modulePower_mask, *]) _ _).trans (State.onBpd_all_mask hbpd hheld s _)
  split
  · with_reducible rfl
  · refine Eq.trans ?_ h2
    dsimp only
    generalize State.diePowerOff _ = s2
    simp only [and_self, implies_true, State.mask, hflt, hboot, cond_true]

theorem execJunctionSensorRead_mask (hmed : P .med = true) (hevqs : P .evqs = true) (hboot : P .boot = true) (hout : P .out = true) (values : List Int) {s t : State} (h : execJunctionSensorRead values s = .next t) : t.mask P = s.mask P := by
  cases h
  dsimp only
  (repeat' split) <;> first | with_reducible rfl | simp only [and_self, implies_true, State.junctionTimes_mask, State.monitor_mask, State.onBoot_mask, hmed, hevqs, hboot, hout]

theorem execThermalLevelChange_mask (hheld : P .held = true) (hflt : P .flt = true) (hboot : P .boot = true) {s t : State} (h : execThermalLevelChange s = .next t) : t.mask P = s.mask P := by
  cases h
  dsimp only
  (repeat' split) <;> first | with_reducible rfl | simp only [and_self, implies_true, State.junctionTimes_mask, State.onBoot_mask, State.raise_mask, hheld, hflt, hboot]

/-! Machine/Pair.lean -/

theorem execRenewTimer_mask (hpair : P .pair = true) (hout : P .out = true) {s t : State} (h : execRenewTimer s = .next t) : t.mask P = s.mask P := by
  cases h
  dsimp only
  (repeat' split) <;> first | with_reducible rfl | simp only [and_self, implies_true, State.onPair_mask, State.sendLease_mask, hpair, hout]

theorem execRenewRx_mask (hfn : P .fn = true) (hsched : P .sched = true) (hmap : P .map = true) (htc : P .tc = true) (hlog : P .log = true) (hreb : P .reb = true) (hmed : P .med = true) (hrd : P .rd = true) (hsheet : P .sheet = true) (hmods : P .mods = true) (hnvme : P .nvme = true) (hrdma : P .rdma = true) (hnet : P .net = true) (hcip : P .cip = true) (hpair : P .pair = true) (hheld : P .held = true) (hmgmt : P .mgmt = true) (hevqs : P .evqs = true) (hmbx : P .mbx = true) (hflt : P .flt = true) (hout : P .out = true) (sh : Shroud) (m : LeaseMsg) {s t : State} (h : execRenewRx sh m s = .next t) : t.mask P = s.mask P := by
  cases h
  dsimp only
  (repeat' split) <;> first | with_reducible rfl | simp only [and_self, implies_true, State.emit_mask, State.followRclk_mask, State.heard_mask, State.join_mask, State.onPair_mask, State.setPair_mask, State.takePast_mask, hfn, hsched, hmap, htc, hlog, hreb, hmed, hrd, hsheet, hmods, hnvme, hrdma, hnet, hcip, hpair, hheld, hmgmt, hevqs, hmbx, hflt, hout]

theorem execGrantRx_mask (hfn : P .fn = true) (hsched : P .sched = true) (hmap : P .map = true) (htc : P .tc = true) (hlog : P .log = true) (hreb : P .reb = true) (hmed : P .med = true) (hrd : P .rd = true) (hsheet : P .sheet = true) (hmods : P .mods = true) (hnvme : P .nvme = true) (hrdma : P .rdma = true) (hnet : P .net = true) (hcip : P .cip = true) (hpair : P .pair = true) (hheld : P .held = true) (hmgmt : P .mgmt = true) (hevqs : P .evqs = true) (hmbx : P .mbx = true) (hflt : P .flt = true) (hout : P .out = true) (sh : Shroud) (m : LeaseMsg) {s t : State} (h : execGrantRx sh m s = .next t) : t.mask P = s.mask P := by
  cases h
  dsimp only
  (repeat' split) <;> first | with_reducible rfl | simp only [and_self, implies_true, State.heard_mask, State.onPair_mask, State.stopPast_mask, State.tryAll_mask, hfn, hsched, hmap, htc, hlog, hreb, hmed, hrd, hsheet, hmods, hnvme, hrdma, hnet, hcip, hpair, hheld, hmgmt, hevqs, hmbx, hflt, hout]

theorem execReleaseRx_mask (hfn : P .fn = true) (hsched : P .sched = true) (hmap : P .map = true) (htc : P .tc = true) (hlog : P .log = true) (hreb : P .reb = true) (hmed : P .med = true) (hrd : P .rd = true) (hsheet : P .sheet = true) (hmods : P .mods = true) (hnvme : P .nvme = true) (hrdma : P .rdma = true) (hnet : P .net = true) (hcip : P .cip = true) (hpair : P .pair = true) (hheld : P .held = true) (hmgmt : P .mgmt = true) (hevqs : P .evqs = true) (hmbx : P .mbx = true) (hflt : P .flt = true) (hout : P .out = true) (sh : Shroud) (m : LeaseMsg) {s t : State} (h : execReleaseRx sh m s = .next t) : t.mask P = s.mask P := by
  cases h
  dsimp only
  (repeat' split) <;> first | with_reducible rfl | simp only [and_self, implies_true, State.heard_mask, State.onPair_mask, State.takeLease_mask, hfn, hsched, hmap, htc, hlog, hreb, hmed, hrd, hsheet, hmods, hnvme, hrdma, hnet, hcip, hpair, hheld, hmgmt, hevqs, hmbx, hflt, hout]

theorem execHelloRx_mask (hfn : P .fn = true) (hsched : P .sched = true) (hmap : P .map = true) (htc : P .tc = true) (hlog : P .log = true) (hreb : P .reb = true) (hmed : P .med = true) (hrd : P .rd = true) (hsheet : P .sheet = true) (hmods : P .mods = true) (hnvme : P .nvme = true) (hrdma : P .rdma = true) (hnet : P .net = true) (hcip : P .cip = true) (hpair : P .pair = true) (hheld : P .held = true) (hmgmt : P .mgmt = true) (hevqs : P .evqs = true) (hmbx : P .mbx = true) (hflt : P .flt = true) (hout : P .out = true) (sh : Shroud) (m : LeaseMsg) {s t : State} (h : execHelloRx sh m s = .next t) : t.mask P = s.mask P := by
  cases h
  split <;> simp only [and_self, implies_true, State.heard_mask, hfn, hsched, hmap, htc, hlog, hreb, hmed, hrd, hsheet, hmods, hnvme, hrdma, hnet, hcip, hpair, hheld, hmgmt, hevqs, hmbx, hflt, hout]

theorem execLeaseHolderStop_mask (hreb : P .reb = true) (hsheet : P .sheet = true) (hnvme : P .nvme = true) (hrdma : P .rdma = true) (hnet : P .net = true) (hpair : P .pair = true) (hmgmt : P .mgmt = true) (hevqs : P .evqs = true) (hout : P .out = true) {s t : State} (h : execLeaseHolderStop s = .next t) : t.mask P = s.mask P := by
  cases h
  split <;> simp only [and_self, implies_true, State.lapse_mask, hreb, hsheet, hnvme, hrdma, hnet, hpair, hmgmt, hevqs, hout]

theorem execLeaseTakeTimer_mask (hfn : P .fn = true) (hsheet : P .sheet = true) (hnvme : P .nvme = true) (hrdma : P .rdma = true) (hnet : P .net = true) (hpair : P .pair = true) (hmgmt : P .mgmt = true) (hevqs : P .evqs = true) (hout : P .out = true) {s t : State} (h : execLeaseTakeTimer s = .next t) : t.mask P = s.mask P := by
  cases h
  repeat' (first | with_reducible rfl | (rename_i h; first | (simp [*, State.issue_mask hsheet hout h]; done) | (simp [*, State.issueSys_mask hsheet hout h]; done)) | split | (refine (State.foldl_mask (fun _ _ => ?_) _ _).trans ?_) | simp [*])

theorem execColdTakeTimer_mask (hfn : P .fn = true) (hsheet : P .sheet = true) (hnvme : P .nvme = true) (hrdma : P .rdma = true) (hnet : P .net = true) (hpair : P .pair = true) (hmgmt : P .mgmt = true) (hevqs : P .evqs = true) (hout : P .out = true) {s t : State} (h : execColdTakeTimer s = .next t) : t.mask P = s.mask P := by
  cases h
  repeat' (first | with_reducible rfl | (rename_i h; first | (simp [*, State.issue_mask hsheet hout h]; done) | (simp [*, State.issueSys_mask hsheet hout h]; done)) | split | (refine (State.foldl_mask (fun _ _ => ?_) _ _).trans ?_) | simp [*])

theorem execTakeoverStep_mask (hfn : P .fn = true) (hsched : P .sched = true) (hmap : P .map = true) (htc : P .tc = true) (hlog : P .log = true) (hreb : P .reb = true) (hmed : P .med = true) (hrd : P .rd = true) (hsheet : P .sheet = true) (hnvme : P .nvme = true) (hrdma : P .rdma = true) (hnet : P .net = true) (hcip : P .cip = true) (hpair : P .pair = true) (hheld : P .held = true) (hmgmt : P .mgmt = true) (hevqs : P .evqs = true) (hmbx : P .mbx = true) (hflt : P .flt = true) (hout : P .out = true) {s t : State} (h : execTakeoverStep s = .next t) : t.mask P = s.mask P := by
  cases h
  dsimp only
  (repeat' split) <;> first | with_reducible rfl | simp only [and_self, implies_true, State.checkStrike_mask, State.ckptStep_mask, State.fenceAll_mask, State.newEpoch_mask, State.onPair_mask, State.replay_mask, State.startCkpt_mask, State.takeEnd_mask, State.warmApply_mask, hfn, hsched, hmap, htc, hlog, hreb, hmed, hrd, hsheet, hnvme, hrdma, hnet, hcip, hpair, hheld, hmgmt, hevqs, hmbx, hflt, hout]

theorem execLapsedProbe_mask (hfn : P .fn = true) (hsched : P .sched = true) (hmap : P .map = true) (htc : P .tc = true) (hlog : P .log = true) (hreb : P .reb = true) (hrd : P .rd = true) (hsheet : P .sheet = true) (hnvme : P .nvme = true) (hrdma : P .rdma = true) (hnet : P .net = true) (hpair : P .pair = true) (hmgmt : P .mgmt = true) (hevqs : P .evqs = true) (hout : P .out = true) {s t : State} (h : execLapsedProbe s = .next t) : t.mask P = s.mask P := by
  cases h
  dsimp only
  (repeat' split) <;> simp only [and_self, implies_true, State.lapsedJoin_mask, State.onPair_mask, State.statusAll_mask, State.takeLease_mask, hfn, hsched, hmap, htc, hlog, hreb, hrd, hsheet, hnvme, hrdma, hnet, hpair, hmgmt, hevqs, hout]

theorem execShroudLossTimer_mask (hpair : P .pair = true) (hevqs : P .evqs = true) (hout : P .out = true) (sh : Shroud) {s t : State} (h : execShroudLossTimer sh s = .next t) : t.mask P = s.mask P := by
  cases h
  dsimp only
  (repeat' split) <;> first | with_reducible rfl | simp only [and_self, implies_true, State.event_mask, State.setShroud_mask, hpair, hevqs, hout]

theorem execPeerLinkGroupLoss_mask (hsched : P .sched = true) (hlog : P .log = true) (hreb : P .reb = true) (hsheet : P .sheet = true) (hnvme : P .nvme = true) (hrdma : P .rdma = true) (hnet : P .net = true) (hpair : P .pair = true) (hmgmt : P .mgmt = true) (hevqs : P .evqs = true) (hmbx : P .mbx = true) (hout : P .out = true) (g : Fin 2) {s t : State} (h : execPeerLinkGroupLoss g s = .next t) : t.mask P = s.mask P := by
  cases h
  repeat' (first | with_reducible rfl | (rename_i h; first | (simp [*, State.issue_mask hsheet hout h]; done) | (simp [*, State.issueSys_mask hsheet hout h]; done)) | split | (refine (State.foldl_mask (fun _ _ => ?_) _ _).trans ?_) | simp [*])

theorem execPeerLinkRestored_mask (hpair : P .pair = true) (hevqs : P .evqs = true) (hout : P .out = true) (g : Fin 2) {s t : State} (h : execPeerLinkRestored g s = .next t) : t.mask P = s.mask P := by
  cases h
  split <;> simp only [and_self, implies_true, State.event_mask, State.onPair_mask, hpair, hevqs, hout]

theorem execResyncComplete_mask (hnvme : P .nvme = true) (hrdma : P .rdma = true) (hnet : P .net = true) (hpair : P .pair = true) (hmgmt : P .mgmt = true) (hevqs : P .evqs = true) (hout : P .out = true) {s t : State} (h : execResyncComplete s = .next t) : t.mask P = s.mask P := by
  cases h
  dsimp only
  (repeat' split) <;> first | with_reducible rfl | simp only [and_self, implies_true, State.onPair_mask, State.setPair_mask, hnvme, hrdma, hnet, hpair, hmgmt, hevqs, hout]

theorem execPeriodicSwapTimer_mask (hfn : P .fn = true) (hmap : P .map = true) (htc : P .tc = true) (hlog : P .log = true) (hreb : P .reb = true) (hmed : P .med = true) (hsheet : P .sheet = true) (hnvme : P .nvme = true) (hrdma : P .rdma = true) (hnet : P .net = true) (hpair : P .pair = true) (hevqs : P .evqs = true) (hout : P .out = true) {s t : State} (h : execPeriodicSwapTimer s = .next t) : t.mask P = s.mask P := by
  cases h
  dsimp only
  (repeat' split) <;> first | with_reducible rfl | simp only [and_self, implies_true, State.beginSwap_mask, State.event_mask, State.onPair_mask, hfn, hmap, htc, hlog, hreb, hmed, hsheet, hnvme, hrdma, hnet, hpair, hevqs, hout]

theorem execReachSwapTimer_mask (hfn : P .fn = true) (hmap : P .map = true) (htc : P .tc = true) (hlog : P .log = true) (hreb : P .reb = true) (hmed : P .med = true) (hsheet : P .sheet = true) (hnvme : P .nvme = true) (hrdma : P .rdma = true) (hnet : P .net = true) (hpair : P .pair = true) (hevqs : P .evqs = true) (hout : P .out = true) {s t : State} (h : execReachSwapTimer s = .next t) : t.mask P = s.mask P := by
  cases h
  dsimp only
  (repeat' split) <;> first | with_reducible rfl | simp only [and_self, implies_true, State.beginSwap_mask, State.event_mask, hfn, hmap, htc, hlog, hreb, hmed, hsheet, hnvme, hrdma, hnet, hpair, hevqs, hout]

theorem execSwapRelease_mask (hreb : P .reb = true) (hsheet : P .sheet = true) (hnvme : P .nvme = true) (hrdma : P .rdma = true) (hnet : P .net = true) (hpair : P .pair = true) (hmgmt : P .mgmt = true) (hevqs : P .evqs = true) (hout : P .out = true) {s t : State} (h : execSwapRelease s = .next t) : t.mask P = s.mask P := by
  cases h
  repeat' (first | with_reducible rfl | (rename_i h; first | (simp [*, State.issue_mask hsheet hout h]; done) | (simp [*, State.issueSys_mask hsheet hout h]; done)) | split | (refine (State.foldl_mask (fun _ _ => ?_) _ _).trans ?_) | simp [*])

theorem execDrainComplete_mask (hfn : P .fn = true) (hsched : P .sched = true) (hmap : P .map = true) (htc : P .tc = true) (hlog : P .log = true) (hreb : P .reb = true) (hmed : P .med = true) (hrd : P .rd = true) (hsheet : P .sheet = true) (hnvme : P .nvme = true) (hrdma : P .rdma = true) (hnet : P .net = true) (hcip : P .cip = true) (hpair : P .pair = true) (hheld : P .held = true) (hevqs : P .evqs = true) (hmbx : P .mbx = true) (hflt : P .flt = true) (hout : P .out = true) {s t : State} (h : execDrainComplete s = .next t) : t.mask P = s.mask P := by
  cases h
  dsimp only
  (repeat' split) <;> first | with_reducible rfl | simp only [and_self, implies_true, State.answerOp_mask, State.ckptStep_mask, State.closeAll_mask, State.emit_mask, State.kick_mask, State.onFn_mask, State.onLog_mask, State.onPair_mask, State.setFn_mask, State.startCkpt_mask, State.toMirror_mask, hfn, hsched, hmap, htc, hlog, hreb, hmed, hrd, hsheet, hnvme, hrdma, hnet, hcip, hpair, hheld, hevqs, hmbx, hflt, hout]

/-! Machine/Module.lean -/

theorem execSheetRead_mask (hmods : P .mods = true) (hout : P .out = true) (hfreeNo : P .freeNo = true) (bay : Fin 48) (c : SheetCmd) (nand : NandResult) {s t : State} (h : execSheetRead bay c nand s = .next t) : t.mask P = s.mask P := by
  cases h
  dsimp only
  repeat' (first | rfl | (rename_i h; have hc := congrArg Prod.snd h; dsimp only at hc; clear h; subst hc; simp [*]; done) | split | (refine (State.foldl_mask (fun _ _ => ?_) _ _).trans ?_) | simp [*])

theorem execSheetProgram_mask (hmods : P .mods = true) (hmedia : P .media = true) (hout : P .out = true) (hfreeNo : P .freeNo = true) (bay : Fin 48) (c : SheetCmd) (frames : List Payload) (nand : NandResult) {s t : State} (h : execSheetProgram bay c frames nand s = .next t) : t.mask P = s.mask P := by
  cases h
  repeat' (first | rfl | (rename_i h; first | (simp [*, State.issue_mask hsheet hout h]; done) | (simp [*, State.issueSys_mask hsheet hout h]; done)) | split | (refine (State.foldl_mask (fun _ _ => ?_) _ _).trans ?_) | simp [*])

theorem execSheetErase_mask (hmods : P .mods = true) (hmedia : P .media = true) (hout : P .out = true) (hfreeNo : P .freeNo = true) (bay : Fin 48) (c : SheetCmd) (nand : NandResult) {s t : State} (h : execSheetErase bay c nand s = .next t) : t.mask P = s.mask P := by
  cases h
  dsimp only
  repeat' (first | rfl | (rename_i h; have hc := congrArg Prod.snd h; dsimp only at hc; clear h; subst hc; simp [*]; done) | split | (refine (State.foldl_mask (fun _ _ => ?_) _ _).trans ?_) | simp [*])

theorem execSheetStatus_mask (hmods : P .mods = true) (hout : P .out = true) (bay : Fin 48) (c : SheetCmd) {s t : State} (h : execSheetStatus bay c s = .next t) : t.mask P = s.mask P := by
  cases h
  dsimp only
  repeat' (first | rfl | (rename_i h; have hc := congrArg Prod.snd h; dsimp only at hc; clear h; subst hc; simp [*]; done) | split | (refine (State.foldl_mask (fun _ _ => ?_) _ _).trans ?_) | simp [*])

theorem execGetParam_mask (hmods : P .mods = true) (hout : P .out = true) (hfreeNo : P .freeNo = true) (bay : Fin 48) (c : SheetCmd) {s t : State} (h : execGetParam bay c s = .next t) : t.mask P = s.mask P := by
  cases h
  dsimp only
  repeat' (first | rfl | (rename_i h; have hc := congrArg Prod.snd h; dsimp only at hc; clear h; subst hc; simp [*]; done) | split | (refine (State.foldl_mask (fun _ _ => ?_) _ _).trans ?_) | simp [*])

theorem execSetParam_mask (hmods : P .mods = true) (hout : P .out = true) (bay : Fin 48) (c : SheetCmd) {s t : State} (h : execSetParam bay c s = .next t) : t.mask P = s.mask P := by
  cases h
  dsimp only
  repeat' (first | rfl | (rename_i h; have hc := congrArg Prod.snd h; dsimp only at hc; clear h; subst hc; simp [*]; done) | split | (refine (State.foldl_mask (fun _ _ => ?_) _ _).trans ?_) | simp [*])

theorem execDescRead_mask (hmods : P .mods = true) (hout : P .out = true) (bay : Fin 48) (c : SheetCmd) {s t : State} (h : execDescRead bay c s = .next t) : t.mask P = s.mask P := by
  cases h
  repeat' (first | rfl | (rename_i h; first | (simp [*, State.issue_mask hsheet hout h]; done) | (simp [*, State.issueSys_mask hsheet hout h]; done)) | split | (refine (State.foldl_mask (fun _ _ => ?_) _ _).trans ?_) | simp [*])

theorem execTemp_mask (hmods : P .mods = true) (hout : P .out = true) (bay : Fin 48) (c : SheetCmd) {s t : State} (h : execTemp bay c s = .next t) : t.mask P = s.mask P := by
  cases h
  repeat' (first | rfl | (rename_i h; first | (simp [*, State.issue_mask hsheet hout h]; done) | (simp [*, State.issueSys_mask hsheet hout h]; done)) | split | (refine (State.foldl_mask (fun _ _ => ?_) _ _).trans ?_) | simp [*])

theorem execDieReset_mask (hmods : P .mods = true) (hout : P .out = true) (bay : Fin 48) (c : SheetCmd) {s t : State} (h : execDieReset bay c s = .next t) : t.mask P = s.mask P := by
  cases h
  repeat' (first | rfl | (rename_i h; first | (simp [*, State.issue_mask hsheet hout h]; done) | (simp [*, State.issueSys_mask hsheet hout h]; done)) | split | (refine (State.foldl_mask (fun _ _ => ?_) _ _).trans ?_) | simp [*])

theorem execPowerState_mask (hmods : P .mods = true) (hout : P .out = true) (bay : Fin 48) (c : SheetCmd) {s t : State} (h : execPowerState bay c s = .next t) : t.mask P = s.mask P := by
  cases h
  repeat' (first | rfl | (rename_i h; first | (simp [*, State.issue_mask hsheet hout h]; done) | (simp [*, State.issueSys_mask hsheet hout h]; done)) | split | (refine (State.foldl_mask (fun _ _ => ?_) _ _).trans ?_) | simp [*])

theorem execFence_mask (hmods : P .mods = true) (hout : P .out = true) (bay : Fin 48) (c : SheetCmd) {s t : State} (h : execFence bay c s = .next t) : t.mask P = s.mask P := by
  cases h
  dsimp only
  repeat' (first | rfl | (rename_i h; have hc := congrArg Prod.snd h; dsimp only at hc; clear h; subst hc; simp [*]; done) | split | (refine (State.foldl_mask (fun _ _ => ?_) _ _).trans ?_) | simp [*])

/-! Machine/Sheet.lean -/

theorem execTrainingAttempt_mask (hsheet : P .sheet = true) (bay : Fin 48) {s t : State} (h : execTrainingAttempt bay s = .next t) : t.mask P = s.mask P := by
  cases h
  dsimp only
  (repeat' split) <;> first | rfl | simp only [and_self, implies_true, State.onPort_mask, State.retrain_mask, hsheet]

theorem execLanesAligned_mask (hfn : P .fn = true) (hsched : P .sched = true) (hmap : P .map = true) (htc : P .tc = true) (hlog : P .log = true) (hreb : P .reb = true) (hmed : P .med = true) (hrd : P .rd = true) (hsheet : P .sheet = true) (hcip : P .cip = true) (hheld : P .held = true) (hevqs : P .evqs = true) (hflt : P .flt = true) (hout : P .out = true) (bay : Fin 48) (lane0 : Bool) (lane1 : Bool) {s t : State} (h : execLanesAligned bay lane0 lane1 s = .next t) : t.mask P = s.mask P := by
  cases h
  dsimp only
  repeat' (first | rfl | split | (refine (State.foldl_mask (fun _ _ => ?_) _ _).trans ?_) | simp only [and_self, implies_true, State.attemptFailed_mask, State.onPort_mask, State.retireLane_mask, State.retrain_mask, hfn, hsched, hmap, htc, hlog, hreb, hmed, hrd, hsheet, hcip, hheld, hevqs, hflt, hout])

theorem execTrainingTimeout_mask (hfn : P .fn = true) (hsched : P .sched = true) (hmap : P .map = true) (htc : P .tc = true) (hlog : P .log = true) (hreb : P .reb = true) (hmed : P .med = true) (hrd : P .rd = true) (hsheet : P .sheet = true) (hcip : P .cip = true) (hheld : P .held = true) (hevqs : P .evqs = true) (hflt : P .flt = true) (hout : P .out = true) (bay : Fin 48) {s t : State} (h : execTrainingTimeout bay s = .next t) : t.mask P = s.mask P := by
  cases h
  dsimp only
  (repeat' split) <;> first | rfl | simp only [and_self, implies_true, State.attemptFailed_mask, State.retrain_mask, hfn, hsched, hmap, htc, hlog, hreb, hmed, hrd, hsheet, hcip, hheld, hevqs, hflt, hout]

theorem execSheetInitSendTimer_mask (hfn : P .fn = true) (hsheet : P .sheet = true) (hevqs : P .evqs = true) (hout : P .out = true) (bay : Fin 48) {s t : State} (h : execSheetInitSendTimer bay s = .next t) : t.mask P = s.mask P := by
  cases h
  dsimp only
  (repeat' split) <;> first | rfl | simp only [and_self, implies_true, State.emit_mask, State.onPort_mask, State.tryUp_mask, hfn, hsheet, hevqs, hout]

theorem execSheetInitRx_mask (hfn : P .fn = true) (hsheet : P .sheet = true) (hevqs : P .evqs = true) (hout : P .out = true) (bay : Fin 48) (i : SheetInit) {s t : State} (h : execSheetInitRx bay i s = .next t) : t.mask P = s.mask P := by
  cases h
  dsimp only
  (repeat' split) <;> first | rfl | simp only [and_self, implies_true, State.foreign_mask, State.onPort_mask, State.tryUp_mask, hfn, hsheet, hevqs, hout]

theorem execSheetFrameRx_mask (hfn : P .fn = true) (hsched : P .sched = true) (hmap : P .map = true) (htc : P .tc = true) (hlog : P .log = true) (hreb : P .reb = true) (hmed : P .med = true) (hrd : P .rd = true) (hsheet : P .sheet = true) (hcip : P .cip = true) (hheld : P .held = true) (hevqs : P .evqs = true) (hflt : P .flt = true) (hout : P .out = true) (hfreeNo : P .freeNo = true) (bay : Fin 48) (h : SheetHdr) {s t : State} (h : execSheetFrameRx bay h s = .next t) : t.mask P = s.mask P := by
  cases h
  dsimp only
  (repeat' split) <;> first | rfl | simp only [and_self, implies_true, State.emit_mask, State.onPort_mask, State.uncorrectable_mask, hfn, hsched, hmap, htc, hlog, hreb, hmed, hrd, hsheet, hcip, hheld, hevqs, hflt, hout, hfreeNo]

theorem execSheetAckRx_mask (hfn : P .fn = true) (hsched : P .sched = true) (hmap : P .map = true) (htc : P .tc = true) (hlog : P .log = true) (hreb : P .reb = true) (hmed : P .med = true) (hrd : P .rd = true) (hsheet : P .sheet = true) (hcip : P .cip = true) (hheld : P .held = true) (hevqs : P .evqs = true) (hflt : P .flt = true) (hout : P .out = true) (bay : Fin 48) (ack : Nat) {s t : State} (h : execSheetAckRx bay ack s = .next t) : t.mask P = s.mask P := by
  cases h
  split <;> simp only [and_self, implies_true, State.kick_mask, State.onPort_mask, hfn, hsched, hmap, htc, hlog, hreb, hmed, hrd, hsheet, hcip, hheld, hevqs, hflt, hout]

theorem execSheetNakRx_mask (hsheet : P .sheet = true) (hheld : P .held = true) (hflt : P .flt = true) (hout : P .out = true) (bay : Fin 48) (ack : Nat) {s t : State} (h : execSheetNakRx bay ack s = .next t) : t.mask P = s.mask P := by
  cases h
  dsimp only
  (repeat' split) <;> first | rfl | simp only [and_self, implies_true, State.onPort_mask, State.replayAll_mask, hsheet, hheld, hflt, hout]

theorem execSheetCreditRx_mask (hfn : P .fn = true) (hsched : P .sched = true) (hmap : P .map = true) (htc : P .tc = true) (hlog : P .log = true) (hreb : P .reb = true) (hmed : P .med = true) (hrd : P .rd = true) (hsheet : P .sheet = true) (hcip : P .cip = true) (hheld : P .held = true) (hevqs : P .evqs = true) (hflt : P .flt = true) (hout : P .out = true) (bay : Fin 48) (cmd : Nat) (data : Nat) {s t : State} (h : execSheetCreditRx bay cmd data s = .next t) : t.mask P = s.mask P := by
  cases h
  split <;> simp only [and_self, implies_true, State.kick_mask, State.onPort_mask, hfn, hsched, hmap, htc, hlog, hreb, hmed, hrd, hsheet, hcip, hheld, hevqs, hflt, hout]

theorem execSheetAckTimer_mask (hsheet : P .sheet = true) (hout : P .out = true) (bay : Fin 48) {s t : State} (h : execSheetAckTimer bay s = .next t) : t.mask P = s.mask P := by
  cases h
  dsimp only
  (repeat' split) <;> first | rfl | simp only [and_self, implies_true, State.emit_mask, State.onPort_mask, hsheet, hout]

theorem execSheetReplayTimer_mask (hfn : P .fn = true) (hsched : P .sched = true) (hmap : P .map = true) (htc : P .tc = true) (hlog : P .log = true) (hreb : P .reb = true) (hmed : P .med = true) (hrd : P .rd = true) (hsheet : P .sheet = true) (hcip : P .cip = true) (hheld : P .held = true) (hevqs : P .evqs = true) (hflt : P .flt = true) (hout : P .out = true) (bay : Fin 48) {s t : State} (h : execSheetReplayTimer bay s = .next t) : t.mask P = s.mask P := by
  cases h
  dsimp only
  (repeat' split) <;> first | rfl | simp only [and_self, implies_true, State.frameFailed_mask, State.replayAll_mask, hfn, hsched, hmap, htc, hlog, hreb, hmed, hrd, hsheet, hcip, hheld, hevqs, hflt, hout]

theorem execSheetLaneLockLoss_mask (hfn : P .fn = true) (hsched : P .sched = true) (hmap : P .map = true) (htc : P .tc = true) (hlog : P .log = true) (hreb : P .reb = true) (hmed : P .med = true) (hrd : P .rd = true) (hsheet : P .sheet = true) (hcip : P .cip = true) (hheld : P .held = true) (hevqs : P .evqs = true) (hflt : P .flt = true) (hout : P .out = true) (bay : Fin 48) (lane : Fin 2) {s t : State} (h : execSheetLaneLockLoss bay lane s = .next t) : t.mask P = s.mask P := by
  cases h
  dsimp only
  (repeat' split) <;> first | rfl | simp only [and_self, implies_true, State.checkSpace_mask, State.onPort_mask, State.raise_mask, State.retireLane_mask, State.retrain_mask, hfn, hsched, hmap, htc, hlog, hreb, hmed, hrd, hsheet, hcip, hheld, hevqs, hflt, hout]

theorem execSheetStatusPoll_mask (hsheet : P .sheet = true) (hout : P .out = true) {s t : State} (h : execSheetStatusPoll s = .next t) : t.mask P = s.mask P := by
  cases h
  simp [*]

theorem execLaneErrPoll_mask (hsheet : P .sheet = true) (hout : P .out = true) {s t : State} (h : execLaneErrPoll s = .next t) : t.mask P = s.mask P := by
  cases h
  simp [*]

theorem execUnreachableTimeout_mask (hfn : P .fn = true) (hsched : P .sched = true) (hmap : P .map = true) (htc : P .tc = true) (hlog : P .log = true) (hreb : P .reb = true) (hmed : P .med = true) (hrd : P .rd = true) (hsheet : P .sheet = true) (hcip : P .cip = true) (hheld : P .held = true) (hevqs : P .evqs = true) (hflt : P .flt = true) (hout : P .out = true) (bay : Fin 48) {s t : State} (h : execUnreachableTimeout bay s = .next t) : t.mask P = s.mask P := by
  cases h
  dsimp only
  (repeat' split) <;> first | rfl | simp only [and_self, implies_true, State.retireModule_mask, hfn, hsched, hmap, htc, hlog, hreb, hmed, hrd, hsheet, hcip, hheld, hevqs, hflt, hout]

theorem execFenceTimeout_mask (hfn : P .fn = true) (hsched : P .sched = true) (hmap : P .map = true) (htc : P .tc = true) (hlog : P .log = true) (hreb : P .reb = true) (hmed : P .med = true) (hrd : P .rd = true) (hsheet : P .sheet = true) (hcip : P .cip = true) (hheld : P .held = true) (hevqs : P .evqs = true) (hflt : P .flt = true) (hout : P .out = true) (bay : Fin 48) {s t : State} (h : execFenceTimeout bay s = .next t) : t.mask P = s.mask P := by
  cases h
  split <;> simp only [and_self, implies_true, State.retireModule_mask, hfn, hsched, hmap, htc, hlog, hreb, hmed, hrd, hsheet, hcip, hheld, hevqs, hflt, hout]

/-! Machine/SheetResp.lean -/

theorem execSheetResponse_mask (hclk : P .clk = true) (hfn : P .fn = true) (hsched : P .sched = true) (hmap : P .map = true) (htc : P .tc = true) (hlog : P .log = true) (hreb : P .reb = true) (hmed : P .med = true) (hrd : P .rd = true) (hsheet : P .sheet = true) (hmods : P .mods = true) (hnvme : P .nvme = true) (hrdma : P .rdma = true) (hnet : P .net = true) (hcip : P .cip = true) (hpair : P .pair = true) (hbpd : P .bpd = true) (hheld : P .held = true) (hmgmt : P .mgmt = true) (hevqs : P .evqs = true) (hmbx : P .mbx = true) (hflt : P .flt = true) (hpmc : P .pmc = true) (hboot : P .boot = true) (hout : P .out = true) (bay : Fin 48) (tag : Nat) (code : Nat) (res : SheetResult) {s t : State} (h : execSheetResponse bay tag code res s = .next t) : t.mask P = s.mask P := by
  cases h
  repeat' (first | with_reducible rfl | (rename_i h; first | (simp [*, State.issue_mask hsheet hout h]; done) | (simp [*, State.issueSys_mask hsheet hout h]; done)) | split | (refine (State.foldl_mask (fun _ _ => ?_) _ _).trans ?_) | simp [*])

theorem execSheetDataRx_mask (hclk : P .clk = true) (hfn : P .fn = true) (hsched : P .sched = true) (hmap : P .map = true) (htc : P .tc = true) (hlog : P .log = true) (hreb : P .reb = true) (hmed : P .med = true) (hrd : P .rd = true) (hsheet : P .sheet = true) (hmods : P .mods = true) (hnvme : P .nvme = true) (hrdma : P .rdma = true) (hnet : P .net = true) (hcip : P .cip = true) (hpair : P .pair = true) (hbpd : P .bpd = true) (hheld : P .held = true) (hmgmt : P .mgmt = true) (hevqs : P .evqs = true) (hmbx : P .mbx = true) (hflt : P .flt = true) (hpmc : P .pmc = true) (hboot : P .boot = true) (hout : P .out = true) (bay : Fin 48) (tag : Nat) (index : Fin 16) (payload : Payload) {s t : State} (h : execSheetDataRx bay tag index payload s = .next t) : t.mask P = s.mask P := by
  cases h
  dsimp only
  (repeat' split) <;> first | with_reducible rfl | simp only [and_self, implies_true, State.lateSheet_mask, State.onRd_mask, hclk, hfn, hsched, hmap, htc, hlog, hreb, hmed, hrd, hsheet, hmods, hnvme, hrdma, hnet, hcip, hpair, hbpd, hheld, hmgmt, hevqs, hmbx, hflt, hpmc, hboot, hout]

theorem execSheetOpTimeout_mask (hclk : P .clk = true) (hfn : P .fn = true) (hsched : P .sched = true) (hmap : P .map = true) (htc : P .tc = true) (hlog : P .log = true) (hreb : P .reb = true) (hmed : P .med = true) (hrd : P .rd = true) (hsheet : P .sheet = true) (hmods : P .mods = true) (hnvme : P .nvme = true) (hrdma : P .rdma = true) (hnet : P .net = true) (hcip : P .cip = true) (hpair : P .pair = true) (hbpd : P .bpd = true) (hheld : P .held = true) (hmgmt : P .mgmt = true) (hevqs : P .evqs = true) (hmbx : P .mbx = true) (hflt : P .flt = true) (hpmc : P .pmc = true) (hboot : P .boot = true) (hout : P .out = true) (bay : Fin 48) (tag : Nat) {s t : State} (h : execSheetOpTimeout bay tag s = .next t) : t.mask P = s.mask P := by
  cases h
  dsimp only
  (repeat' split) <;> first | with_reducible rfl | simp only [and_self, implies_true, State.opTimedOut_mask, hclk, hfn, hsched, hmap, htc, hlog, hreb, hmed, hrd, hsheet, hmods, hnvme, hrdma, hnet, hcip, hpair, hbpd, hheld, hmgmt, hevqs, hmbx, hflt, hpmc, hboot, hout]

theorem execTagRequeryTimer_mask (hsheet : P .sheet = true) (hout : P .out = true) (bay : Fin 48) (tag : Nat) {s t : State} (h : execTagRequeryTimer bay tag s = .next t) : t.mask P = s.mask P := by
  cases h
  dsimp only
  (repeat' split) <;> first | with_reducible rfl | simp only [and_self, implies_true, State.ask_mask, State.onPort_mask, hsheet, hout]

/-! Machine/Sched.lean -/

theorem execFrameBoundary_mask (hclk : P .clk = true) (hfn : P .fn = true) (hsched : P .sched = true) (hmap : P .map = true) (htc : P .tc = true) (hlog : P .log = true) (hreb : P .reb = true) (hmed : P .med = true) (hrd : P .rd = true) (hsheet : P .sheet = true) (hmods : P .mods = true) (hnvme : P .nvme = true) (hrdma : P .rdma = true) (hnet : P .net = true) (hcip : P .cip = true) (hbpd : P .bpd = true) (hheld : P .held = true) (hmgmt : P .mgmt = true) (hevqs : P .evqs = true) (hmbx : P .mbx = true) (hflt : P .flt = true) (hpmc : P .pmc = true) (hout : P .out = true) {s t : State} (h : execFrameBoundary s = .next t) : t.mask P = s.mask P := by
  cases h
  split <;> simp only [and_self, implies_true, State.applyChanges_mask, State.ckptAge_mask, State.ckptStep_mask, State.onCip_mask, State.onClk_mask, State.onMap_mask, State.restoreBudgets_mask, State.sealCharge_mask, State.smartCheck_mask, State.thermalGroups_mask, hclk, hfn, hsched, hmap, htc, hlog, hreb, hmed, hrd, hsheet, hmods, hnvme, hrdma, hnet, hcip, hbpd, hheld, hmgmt, hevqs, hmbx, hflt, hpmc, hout]

theorem execSequencerSlot_mask (hclk : P .clk = true) (hsched : P .sched = true) (slot : Fin 16384) {s t : State} (h : execSequencerSlot slot s = .next t) : t.mask P = s.mask P := by
  cases h
  dsimp only
  (repeat' split) <;> first | rfl | simp only [and_self, implies_true, State.onClk_mask, State.onSched_mask, hclk, hsched]

theorem execIntakeSlot_mask (hclk : P .clk = true) (hsched : P .sched = true) (hlog : P .log = true) (hnvme : P .nvme = true) (hrdma : P .rdma = true) (hnet : P .net = true) (hcip : P .cip = true) (hevqs : P .evqs = true) (hmbx : P .mbx = true) (hout : P .out = true) (hfreeNo : P .freeNo = true) (slot : Fin 16384) {s t : State} (h : execIntakeSlot slot s = .next t) : t.mask P = s.mask P := by
  cases h
  dsimp only
  repeat' (first | rfl | split | (refine (State.foldl_mask (fun _ _ => ?_) _ _).trans ?_) | simp only [and_self, implies_true, State.onClk_mask, State.onSched_mask, State.pathStatus_mask, State.takeHead_mask, hclk, hsched, hlog, hnvme, hrdma, hnet, hcip, hevqs, hmbx, hout, hfreeNo])

theorem execAdmission_mask (hsched : P .sched = true) (ord : Nat) {s t : State} (h : execAdmission ord s = .next t) : t.mask P = s.mask P := by
  cases h
  dsimp only
  (repeat' split) <;> first | rfl | simp only [and_self, implies_true, State.onCmd_mask, State.onSched_mask, State.returnCredit_mask, hsched]

theorem execOverlapWaitEnd_mask (hsched : P .sched = true) (ord : Nat) {s t : State} (h : execOverlapWaitEnd ord s = .next t) : t.mask P = s.mask P := by
  cases h
  repeat' (first | rfl | split | (refine (State.foldl_mask (fun _ _ => ?_) _ _).trans ?_) | simp only [and_self, implies_true, State.onCmd_mask, hsched])

/-! Machine/Media.lean -/

theorem execLdpcDecodeDone_mask (hfn : P .fn = true) (hsched : P .sched = true) (hmap : P .map = true) (htc : P .tc = true) (hlog : P .log = true) (hreb : P .reb = true) (hmed : P .med = true) (hrd : P .rd = true) (hsheet : P .sheet = true) (hcip : P .cip = true) (hheld : P .held = true) (hevqs : P .evqs = true) (hflt : P .flt = true) (hout : P .out = true) (job : Nat) (d : Decode) {s t : State} (h : execLdpcDecodeDone job d s = .next t) : t.mask P = s.mask P := by
  cases h
  repeat' (first | rfl | (rename_i h; first | (simp [*, State.issue_mask hsheet hout h]; done) | (simp [*, State.issueSys_mask hsheet hout h]; done)) | split | (refine (State.foldl_mask (fun _ _ => ?_) _ _).trans ?_) | simp [*])

theorem execProbeIssue_mask (hsched : P .sched = true) (hlog : P .log = true) (hreb : P .reb = true) (hmed : P .med = true) (hrd : P .rd = true) (hsheet : P .sheet = true) (hevqs : P .evqs = true) (hout : P .out = true) {s t : State} (h : execProbeIssue s = .next t) : t.mask P = s.mask P := by
  cases h
  dsimp only
  (repeat' split) <;> first | rfl | simp only [and_self, implies_true, State.chargeBack_mask, State.newJob_mask, State.onHealth_mask, State.onMed_mask, State.onRd_mask, State.tryRead_mask, hsched, hlog, hreb, hmed, hrd, hsheet, hevqs, hout]

theorem execAgeClockTick_mask (hfn : P .fn = true) (hmed : P .med = true) (hsheet : P .sheet = true) (hevqs : P .evqs = true) (hout : P .out = true) (bay : Fin 48) (reading : Option Int) {s t : State} (h : execAgeClockTick bay reading s = .next t) : t.mask P = s.mask P := by
  cases h
  dsimp only
  (repeat' split) <;> first | rfl | simp only [and_self, implies_true, State.noteTemp_mask, State.onHealth_mask, hfn, hmed, hsheet, hevqs, hout]

theorem execBlockRecordScan_mask (hlog : P .log = true) (hreb : P .reb = true) (hmed : P .med = true) (hevqs : P .evqs = true) (hout : P .out = true) {s t : State} (h : execBlockRecordScan s = .next t) : t.mask P = s.mask P := by
  cases h
  dsimp only
  repeat' (first | rfl | split | (refine (State.foldl_mask (fun _ _ => ?_) _ _).trans ?_) | simp only [and_self, implies_true, State.checkBay_mask, State.onMed_mask, State.queueRewrite_mask, hlog, hreb, hmed, hevqs, hout])

theorem execWearCheck_mask (hlog : P .log = true) (hmed : P .med = true) (hevqs : P .evqs = true) (hout : P .out = true) {s t : State} (h : execWearCheck s = .next t) : t.mask P = s.mask P := by
  cases h
  dsimp only
  repeat' (first | rfl | split | (refine (State.foldl_mask (fun _ _ => ?_) _ _).trans ?_) | simp only [and_self, implies_true, State.checkWear_mask, State.onUnit_mask, hlog, hmed, hevqs, hout])

theorem execJunctionSample_mask (hmed : P .med = true) {s t : State} (h : execJunctionSample s = .next t) : t.mask P = s.mask P := by
  cases h
  split <;> simp only [and_self, implies_true, State.onMed_mask, hmed]

/-! Machine/Rebuild.lean -/

theorem execJournalCopyPlaced_mask (hlog : P .log = true) (hreb : P .reb = true) (hsheet : P .sheet = true) (hevqs : P .evqs = true) (hout : P .out = true) (bay : Fin 48) {s t : State} (h : execJournalCopyPlaced bay s = .next t) : t.mask P = s.mask P := by
  cases h
  dsimp only
  (repeat' split) <;> first | with_reducible rfl | simp only [and_self, implies_true, State.leaveJournal_mask, State.onLog_mask, State.onReb_mask, State.resumeRebuild_mask, State.trySj_mask, hlog, hreb, hsheet, hevqs, hout]

theorem execRebuildStep_mask (hfn : P .fn = true) (hsched : P .sched = true) (hmap : P .map = true) (htc : P .tc = true) (hlog : P .log = true) (hreb : P .reb = true) (hmed : P .med = true) (hrd : P .rd = true) (hsheet : P .sheet = true) (hcip : P .cip = true) (hheld : P .held = true) (hevqs : P .evqs = true) (hflt : P .flt = true) (hout : P .out = true) {s t : State} (h : execRebuildStep s = .next t) : t.mask P = s.mask P := by
  cases h
  dsimp only
  (repeat' split) <;> first | with_reducible rfl | simp only [and_self, implies_true, State.pauseRebuild_mask, State.rebuildStep_mask, State.resumeRebuild_mask, hfn, hsched, hmap, htc, hlog, hreb, hmed, hrd, hsheet, hcip, hheld, hevqs, hflt, hout]

theorem execRebuildRetryTimer_mask (hfn : P .fn = true) (hsched : P .sched = true) (hmap : P .map = true) (htc : P .tc = true) (hlog : P .log = true) (hreb : P .reb = true) (hmed : P .med = true) (hrd : P .rd = true) (hsheet : P .sheet = true) (hcip : P .cip = true) (hheld : P .held = true) (hevqs : P .evqs = true) (hflt : P .flt = true) (hout : P .out = true) {s t : State} (h : execRebuildRetryTimer s = .next t) : t.mask P = s.mask P := by
  cases h
  dsimp only
  (repeat' split) <;> first | with_reducible rfl | simp only [and_self, implies_true, State.batchStep_mask, State.onReb_mask, State.rebuildStep_mask, hfn, hsched, hmap, htc, hlog, hreb, hmed, hrd, hsheet, hcip, hheld, hevqs, hflt, hout]

theorem execRepairBatchAdvance_mask (hfn : P .fn = true) (hsched : P .sched = true) (hmap : P .map = true) (htc : P .tc = true) (hlog : P .log = true) (hreb : P .reb = true) (hmed : P .med = true) (hrd : P .rd = true) (hsheet : P .sheet = true) (hcip : P .cip = true) (hheld : P .held = true) (hevqs : P .evqs = true) (hflt : P .flt = true) (hout : P .out = true) {s t : State} (h : execRepairBatchAdvance s = .next t) : t.mask P = s.mask P := by
  cases h
  split <;> simp only [and_self, implies_true, State.batchStep_mask, hfn, hsched, hmap, htc, hlog, hreb, hmed, hrd, hsheet, hcip, hheld, hevqs, hflt, hout]

theorem execSweepStep_mask (hfn : P .fn = true) (hsched : P .sched = true) (hmap : P .map = true) (htc : P .tc = true) (hlog : P .log = true) (hreb : P .reb = true) (hmed : P .med = true) (hrd : P .rd = true) (hsheet : P .sheet = true) (hcip : P .cip = true) (hheld : P .held = true) (hevqs : P .evqs = true) (hflt : P .flt = true) (hout : P .out = true) {s t : State} (h : execSweepStep s = .next t) : t.mask P = s.mask P := by
  unfold execSweepStep at h
  obtain rfl := Host.Outcome.next.inj h
  have h0 : s.resumeRebuild.mask P = s.mask P := by simp only [and_self, implies_true, State.resumeRebuild_mask, *]
  generalize s.resumeRebuild = s0 at h0
  dsimp only
  split
  · with_reducible rfl
  · split
    · simp only [and_self, implies_true, State.setReb_mask, State.onReb_mask, *]
    · split
      · simp only [and_self, implies_true, State.needPage_mask, *]
      · split
        · exact h0
        · rw [State.onReb_mask hreb, State.onMap_mask hmap]
          refine (State.foldl_mask (fun s e => ?_) _ _).trans (by simp only [and_self, implies_true, State.writeBackPage_mask, State.streamPage_mask, *])
          split <;> simp only [and_self, implies_true, State.sweepEntry_mask, *]

theorem execRewriteIssue_mask (hfn : P .fn = true) (hsched : P .sched = true) (hmap : P .map = true) (htc : P .tc = true) (hlog : P .log = true) (hreb : P .reb = true) (hmed : P .med = true) (hrd : P .rd = true) (hsheet : P .sheet = true) (hcip : P .cip = true) (hheld : P .held = true) (hevqs : P .evqs = true) (hflt : P .flt = true) (hout : P .out = true) {s t : State} (h : execRewriteIssue s = .next t) : t.mask P = s.mask P := by
  cases h
  repeat' (first | with_reducible rfl | (rename_i h; first | (simp [*, State.issue_mask hsheet hout h]; done) | (simp [*, State.issueSys_mask hsheet hout h]; done)) | split | (refine (State.foldl_mask (fun _ _ => ?_) _ _).trans ?_) | simp [*])

theorem execPatrolIssue_mask (hfn : P .fn = true) (hsched : P .sched = true) (hmap : P .map = true) (htc : P .tc = true) (hlog : P .log = true) (hreb : P .reb = true) (hmed : P .med = true) (hrd : P .rd = true) (hsheet : P .sheet = true) (hcip : P .cip = true) (hheld : P .held = true) (hevqs : P .evqs = true) (hflt : P .flt = true) (hout : P .out = true) {s t : State} (h : execPatrolIssue s = .next t) : t.mask P = s.mask P := by
  cases h
  split <;> simp only [and_self, implies_true, State.chargeBack_mask, State.patrolRun_mask, hfn, hsched, hmap, htc, hlog, hreb, hmed, hrd, hsheet, hcip, hheld, hevqs, hflt, hout]

/-! Machine/Cipher.lean -/

theorem execShelfKeyTransfer_mask (hcip : P .cip = true) (hboot : P .boot = true) (certOk : Bool) (key : BitVec 256) {s t : State} (h : execShelfKeyTransfer certOk key s = .next t) : t.mask P = s.mask P := by
  cases h
  split <;> simp only [and_self, implies_true, State.onBoot_mask, State.onCip_mask, hcip, hboot]

theorem execDrbgReseed_mask (hcip : P .cip = true) (hheld : P .held = true) (hflt : P .flt = true) (i : Fin 4) (healthy : Bool) {s t : State} (h : execDrbgReseed i healthy s = .next t) : t.mask P = s.mask P := by
  cases h
  repeat' (first | rfl | split | (refine (State.foldl_mask (fun _ _ => ?_) _ _).trans ?_) | simp only [and_self, implies_true, State.onCip_mask, State.raise_mask, hcip, hheld, hflt])

theorem execDrbgReseedOverdue_mask (hcip : P .cip = true) (i : Fin 4) {s t : State} (h : execDrbgReseedOverdue i s = .next t) : t.mask P = s.mask P := by
  cases h
  split <;> simp only [and_self, implies_true, State.onCip_mask, hcip]

theorem execDrbgStallTimer_mask (hfn : P .fn = true) (hreb : P .reb = true) (hsheet : P .sheet = true) (hnvme : P .nvme = true) (hrdma : P .rdma = true) (hnet : P .net = true) (hpair : P .pair = true) (hmgmt : P .mgmt = true) (hevqs : P .evqs = true) (hflt : P .flt = true) (hout : P .out = true) {s t : State} (h : execDrbgStallTimer s = .next t) : t.mask P = s.mask P := by
  cases h
  split <;> simp only [and_self, implies_true, State.chipHandle_mask, hfn, hreb, hsheet, hnvme, hrdma, hnet, hpair, hmgmt, hevqs, hflt, hout]

theorem execRetentionExpiry_mask (hcip : P .cip = true) (ns : Fin 4096) {s t : State} (h : execRetentionExpiry ns s = .next t) : t.mask P = s.mask P := by
  cases h
  repeat' (first | rfl | split | (refine (State.foldl_mask (fun _ _ => ?_) _ _).trans ?_) | simp only [and_self, implies_true, State.onCip_mask, hcip])

theorem execSealDigestDone_mask (hsched : P .sched = true) (hcip : P .cip = true) (hevqs : P .evqs = true) (hmbx : P .mbx = true) (hboot : P .boot = true) (hout : P .out = true) (m : Fin 64) (digest : BitVec 384) (bad : Option Nat) {s t : State} (h : execSealDigestDone m digest bad s = .next t) : t.mask P = s.mask P := by
  cases h
  dsimp only
  (repeat' split) <;> first | rfl | simp only [and_self, implies_true, State.answer_mask, State.dropCmd_mask, State.event_mask, State.onBoot_mask, State.onCip_mask, hsched, hcip, hevqs, hmbx, hboot, hout]

/-! Machine/Pmc.lean -/

theorem execCounterHappening_mask (hpmc : P .pmc = true) (h : Happening) {s t : State} (h : execCounterHappening h s = .next t) : t.mask P = s.mask P := by
  cases h
  dsimp only
  repeat' (first | rfl | split | (refine (State.foldl_mask (fun _ _ => ?_) _ _).trans ?_) | simp only [and_self, implies_true, State.countUp_mask, hpmc])

theorem execPmcSmpHeadWrite_mask (hpmc : P .pmc = true) (bank : Fin 16) (value : BitVec 32) {s t : State} (h : execPmcSmpHeadWrite bank value s = .next t) : t.mask P = s.mask P := by
  cases h
  split <;> simp only [and_self, implies_true, State.smpHead_mask, hpmc]

/-! Machine/Mgmt.lean -/

theorem execEvqHeadWrite_mask (hevqs : P .evqs = true) (hout : P .out = true) (q : Fin 64) (value : BitVec 32) {s t : State} (h : execEvqHeadWrite q value s = .next t) : t.mask P = s.mask P := by
  cases h
  split <;> simp only [and_self, implies_true, State.evqHead_mask, hevqs, hout]

theorem execEvqTimeThreshold_mask (hevqs : P .evqs = true) (hout : P .out = true) (q : Fin 64) {s t : State} (h : execEvqTimeThreshold q s = .next t) : t.mask P = s.mask P := by
  cases h
  dsimp only
  (repeat' split) <;> first | rfl | simp only [and_self, implies_true, State.evqSignal_mask, hevqs, hout]

theorem execMsixVectorUnmask_mask (hevqs : P .evqs = true) (hout : P .out = true) (v : Fin 64) {s t : State} (h : execMsixVectorUnmask v s = .next t) : t.mask P = s.mask P := by
  cases h
  split <;> simp only [and_self, implies_true, State.unmask_mask, hevqs, hout]

theorem execPcieCompletionRx_mask (hmgmt : P .mgmt = true) (hevqs : P .evqs = true) (hmbx : P .mbx = true) (hout : P .out = true) (tag : Fin 1024) (poisoned : Bool) {s t : State} (h : execPcieCompletionRx tag poisoned s = .next t) : t.mask P = s.mask P := by
  cases h
  dsimp only
  (repeat' split) <;> first | rfl | simp only [and_self, implies_true, State.event_mask, State.fetchRefused_mask, State.logAer_mask, State.onMgmt_mask, State.setTag_mask, hmgmt, hevqs, hmbx, hout]

theorem execPcieCompletionTimeout_mask (hmgmt : P .mgmt = true) (hmbx : P .mbx = true) (tag : Fin 1024) {s t : State} (h : execPcieCompletionTimeout tag s = .next t) : t.mask P = s.mask P := by
  cases h
  split <;> simp only [and_self, implies_true, State.fetchRefused_mask, State.logAer_mask, State.onMgmt_mask, State.setTag_mask, hmgmt, hmbx]

theorem execTagQuarantineExpiry_mask (hmgmt : P .mgmt = true) (tag : Fin 1024) {s t : State} (h : execTagQuarantineExpiry tag s = .next t) : t.mask P = s.mask P := by
  cases h
  repeat' (first | rfl | split | (refine (State.foldl_mask (fun _ _ => ?_) _ _).trans ?_) | simp only [and_self, implies_true, State.setTag_mask, hmgmt])

theorem execBusMasterEnableClear_mask (hmgmt : P .mgmt = true) (hmbx : P .mbx = true) {s t : State} (h : execBusMasterEnableClear s = .next t) : t.mask P = s.mask P := by
  cases h
  repeat' (first | rfl | split | (refine (State.foldl_mask (fun _ _ => ?_) _ _).trans ?_) | simp only [and_self, implies_true, State.mastersOff_mask, State.onMgmt_mask, hmgmt, hmbx])

theorem execBusMasterEnableSet_mask (hmgmt : P .mgmt = true) (hevqs : P .evqs = true) (hmbx : P .mbx = true) (hout : P .out = true) {s t : State} (h : execBusMasterEnableSet s = .next t) : t.mask P = s.mask P := by
  cases h
  repeat' (first | rfl | (rename_i h; first | (simp [*, State.issue_mask hsheet hout h]; done) | (simp [*, State.issueSys_mask hsheet hout h]; done)) | split | (refine (State.foldl_mask (fun _ _ => ?_) _ _).trans ?_) | simp [*])

theorem execD3hotTransition_mask (hmgmt : P .mgmt = true) (hevqs : P .evqs = true) (hmbx : P .mbx = true) (hout : P .out = true) (enter : Bool) {s t : State} (h : execD3hotTransition enter s = .next t) : t.mask P = s.mask P := by
  cases h
  repeat' (first | rfl | (rename_i h; first | (simp [*, State.issue_mask hsheet hout h]; done) | (simp [*, State.issueSys_mask hsheet hout h]; done)) | split | (refine (State.foldl_mask (fun _ _ => ?_) _ _).trans ?_) | simp [*])

theorem execFunctionLevelReset_mask (hfn : P .fn = true) (hsched : P .sched = true) (htc : P .tc = true) (hnet : P .net = true) (hcip : P .cip = true) (hbpd : P .bpd = true) (hmgmt : P .mgmt = true) (hevqs : P .evqs = true) (hmbx : P .mbx = true) {s t : State} (h : execFunctionLevelReset s = .next t) : t.mask P = s.mask P := by
  cases h
  split
  · rfl
  · dsimp only
    rw [State.onMgmt_all_mask hmgmt hevqs hmbx]
    exact State.foldl_mask (fun s m => by simp [*]) _ _

theorem execRegisterWrite_mask (hfn : P .fn = true) (hsched : P .sched = true) (hmap : P .map = true) (htc : P .tc = true) (hlog : P .log = true) (hreb : P .reb = true) (hmed : P .med = true) (hrd : P .rd = true) (hsheet : P .sheet = true) (hcip : P .cip = true) (hbpd : P .bpd = true) (hheld : P .held = true) (hevqs : P .evqs = true) (hmbx : P .mbx = true) (hflt : P .flt = true) (hpmc : P .pmc = true) (hout : P .out = true) (client : RegClient) (offset : Nat) (wide : Bool) (value : BitVec 64) {s t : State} (h : execRegisterWrite client offset wide value s = .next t) : t.mask P = s.mask P := by
  cases h
  dsimp only
  (repeat' split) <;> first | rfl | simp only [and_self, implies_true, State.write32_mask, hfn, hsched, hmap, htc, hlog, hreb, hmed, hrd, hsheet, hcip, hbpd, hheld, hevqs, hmbx, hflt, hpmc, hout]

theorem execSessionOpen_mask (hmgmt : P .mgmt = true) (hevqs : P .evqs = true) (hout : P .out = true) (m : OpenMsg) {s t : State} (h : execSessionOpen m s = .next t) : t.mask P = s.mask P := by
  cases h
  dsimp only
  (repeat' split) <;> first | rfl | simp only [and_self, implies_true, State.dropDatagram_mask, State.emit_mask, State.onMgmt_mask, hmgmt, hevqs, hout]

theorem execSessionClose_mask (hmgmt : P .mgmt = true) (hevqs : P .evqs = true) (hmbx : P .mbx = true) (i : Fin 8) (seq : Nat) (tagOk : Bool) {s t : State} (h : execSessionClose i seq tagOk s = .next t) : t.mask P = s.mask P := by
  cases h
  repeat' (first | rfl | split | (refine (State.foldl_mask (fun _ _ => ?_) _ _).trans ?_) | simp only [and_self, implies_true, State.dropDatagram_mask, State.endSession_mask, hmgmt, hevqs, hmbx])

theorem execSessionTimeout_mask (hmgmt : P .mgmt = true) (hmbx : P .mbx = true) (i : Fin 8) {s t : State} (h : execSessionTimeout i s = .next t) : t.mask P = s.mask P := by
  cases h
  repeat' (first | rfl | split | (refine (State.foldl_mask (fun _ _ => ?_) _ _).trans ?_) | simp only [and_self, implies_true, State.endSession_mask, hmgmt, hmbx])

theorem execCommandDatagramRx_mask (hmgmt : P .mgmt = true) (hevqs : P .evqs = true) (hmbx : P .mbx = true) (hout : P .out = true) (i : Fin 8) (seq : Nat) (tagOk : Bool) {s t : State} (h : execCommandDatagramRx i seq tagOk s = .next t) : t.mask P = s.mask P := by
  cases h
  dsimp only
  (repeat' split) <;> first | rfl | simp only [and_self, implies_true, State.dropDatagram_mask, State.emit_mask, State.go_mask, State.onMgmt_mask, hmgmt, hevqs, hmbx, hout]

theorem execMailboxCompletion_mask (hmgmt : P .mgmt = true) (hevqs : P .evqs = true) (hmbx : P .mbx = true) (hout : P .out = true) (m : Fin 64) {s t : State} (h : execMailboxCompletion m s = .next t) : t.mask P = s.mask P := by
  cases h
  dsimp only
  (repeat' split) <;> first | rfl | simp only [and_self, implies_true, State.emit_mask, State.evqPost_mask, State.onMbx_mask, State.onMgmt_mask, hmgmt, hevqs, hmbx, hout]

theorem execMailboxInvalidOpcode_mask (hmgmt : P .mgmt = true) (hmbx : P .mbx = true) (h : MbxHdr) (opcode : Nat) {s t : State} (h : execMailboxInvalidOpcode h opcode s = .next t) : t.mask P = s.mask P := by
  cases h
  repeat' (first | rfl | (rename_i h; first | (simp [*, State.issue_mask hsheet hout h]; done) | (simp [*, State.issueSys_mask hsheet hout h]; done)) | split | (refine (State.foldl_mask (fun _ _ => ?_) _ _).trans ?_) | simp [*])

/-! Machine/FnCmds.lean -/

theorem execFnStart_mask (hfn : P .fn = true) (hsched : P .sched = true) (hmap : P .map = true) (htc : P .tc = true) (hlog : P .log = true) (hreb : P .reb = true) (hmed : P .med = true) (hrd : P .rd = true) (hsheet : P .sheet = true) (hnvme : P .nvme = true) (hrdma : P .rdma = true) (hnet : P .net = true) (hcip : P .cip = true) (hpair : P .pair = true) (hheld : P .held = true) (hmgmt : P .mgmt = true) (hevqs : P .evqs = true) (hmbx : P .mbx = true) (hflt : P .flt = true) (hout : P .out = true) (h : MbxHdr) {s t : State} (h : execFnStart h s = .next t) : t.mask P = s.mask P := by
  cases h
  repeat' (first | rfl | (rename_i h; first | (simp [*, State.issue_mask hsheet hout h]; done) | (simp [*, State.issueSys_mask hsheet hout h]; done)) | split | (refine (State.foldl_mask (fun _ _ => ?_) _ _).trans ?_) | simp [*])

theorem execFnStop_mask (hfn : P .fn = true) (hmap : P .map = true) (htc : P .tc = true) (hlog : P .log = true) (hreb : P .reb = true) (hmed : P .med = true) (hsheet : P .sheet = true) (hnvme : P .nvme = true) (hrdma : P .rdma = true) (hnet : P .net = true) (hpair : P .pair = true) (hmgmt : P .mgmt = true) (hevqs : P .evqs = true) (hmbx : P .mbx = true) (hout : P .out = true) (h : MbxHdr) {s t : State} (h : execFnStop h s = .next t) : t.mask P = s.mask P := by
  unfold execFnStop at h
  obtain rfl := Host.Outcome.next.inj h
  refine State.mbxRun_mask hmgmt hmbx hout s _ _ (fun x => ?_) (fun x => ?_)
  · simp only [and_self, implies_true, State.fnStop_mask, *]
  · split <;> simp only [and_self, implies_true, State.mbxOk_mask, State.mbxFail_mask, *]

theorem execFnArm_mask (hfn : P .fn = true) (hsched : P .sched = true) (hmap : P .map = true) (htc : P .tc = true) (hlog : P .log = true) (hreb : P .reb = true) (hmed : P .med = true) (hrd : P .rd = true) (hsheet : P .sheet = true) (hmods : P .mods = true) (hmedia : P .media = true) (hnvme : P .nvme = true) (hrdma : P .rdma = true) (hnet : P .net = true) (hcip : P .cip = true) (hbpd : P .bpd = true) (hheld : P .held = true) (hmgmt : P .mgmt = true) (hevqs : P .evqs = true) (hmbx : P .mbx = true) (hflt : P .flt = true) (hpmc : P .pmc = true) (hboot : P .boot = true) (hout : P .out = true) (hfreeNo : P .freeNo = true) (h : MbxHdr) (format : Nat) {s t : State} (h : execFnArm h format s = .next t) : t.mask P = s.mask P := by
  cases h
  repeat' (first | rfl | (rename_i h; first | (simp [*, State.issue_mask hsheet hout h]; done) | (simp [*, State.issueSys_mask hsheet hout h]; done)) | split | (refine (State.foldl_mask (fun _ _ => ?_) _ _).trans ?_) | simp [*])

theorem execFnStatus_mask (hmgmt : P .mgmt = true) (hmbx : P .mbx = true) (hout : P .out = true) (h : MbxHdr) {s t : State} (h : execFnStatus h s = .next t) : t.mask P = s.mask P := by
  cases h
  repeat' (first | rfl | (rename_i h; first | (simp [*, State.issue_mask hsheet hout h]; done) | (simp [*, State.issueSys_mask hsheet hout h]; done)) | split | (refine (State.foldl_mask (fun _ _ => ?_) _ _).trans ?_) | simp [*])

theorem execFnChipreset_mask (hreb : P .reb = true) (hsheet : P .sheet = true) (hnvme : P .nvme = true) (hrdma : P .rdma = true) (hnet : P .net = true) (hpair : P .pair = true) (hmgmt : P .mgmt = true) (hevqs : P .evqs = true) (hmbx : P .mbx = true) (hout : P .out = true) (h : MbxHdr) {s t : State} (h : execFnChipreset h s = .next t) : t.mask P = s.mask P := by
  cases h
  repeat' (first | rfl | (rename_i h; first | (simp [*, State.issue_mask hsheet hout h]; done) | (simp [*, State.issueSys_mask hsheet hout h]; done)) | split | (refine (State.foldl_mask (fun _ _ => ?_) _ _).trans ?_) | simp [*])

theorem execFnCplto_mask (hfn : P .fn = true) (hmgmt : P .mgmt = true) (hmbx : P .mbx = true) (hout : P .out = true) (h : MbxHdr) (timeout : Nat) {s t : State} (h : execFnCplto h timeout s = .next t) : t.mask P = s.mask P := by
  cases h
  repeat' (first | rfl | (rename_i h; first | (simp [*, State.issue_mask hsheet hout h]; done) | (simp [*, State.issueSys_mask hsheet hout h]; done)) | split | (refine (State.foldl_mask (fun _ _ => ?_) _ _).trans ?_) | simp [*])

theorem execRigLoad_mask (hfn : P .fn = true) (hnvme : P .nvme = true) (hrdma : P .rdma = true) (hnet : P .net = true) (hmgmt : P .mgmt = true) (hevqs : P .evqs = true) (hmbx : P .mbx = true) (hout : P .out = true) (h : MbxHdr) (image : RigImage) {s t : State} (h : execRigLoad h image s = .next t) : t.mask P = s.mask P := by
  cases h
  repeat' (first | rfl | (rename_i h; first | (simp [*, State.issue_mask hsheet hout h]; done) | (simp [*, State.issueSys_mask hsheet hout h]; done)) | split | (refine (State.foldl_mask (fun _ _ => ?_) _ _).trans ?_) | simp [*])

theorem execRigVerify_mask (hmgmt : P .mgmt = true) (hmbx : P .mbx = true) (hout : P .out = true) (h : MbxHdr) (image : RigImage) {s t : State} (h : execRigVerify h image s = .next t) : t.mask P = s.mask P := by
  cases h
  dsimp only
  repeat' (first | rfl | (rename_i h; have hc := congrArg Prod.snd h; dsimp only at hc; clear h; subst hc; simp [*]; done) | split | (refine (State.foldl_mask (fun _ _ => ?_) _ _).trans ?_) | simp [*])

theorem execRigInfo_mask (hmgmt : P .mgmt = true) (hmbx : P .mbx = true) (hout : P .out = true) (h : MbxHdr) {s t : State} (h : execRigInfo h s = .next t) : t.mask P = s.mask P := by
  cases h
  dsimp only
  repeat' (first | rfl | (rename_i h; have hc := congrArg Prod.snd h; dsimp only at hc; clear h; subst hc; simp [*]; done) | split | (refine (State.foldl_mask (fun _ _ => ?_) _ _).trans ?_) | simp [*])

theorem execRigEnroll_mask (hmgmt : P .mgmt = true) (hmbx : P .mbx = true) (hboot : P .boot = true) (hout : P .out = true) (h : MbxHdr) (keyId : BitVec 64) (pubkey : BitVec 776) {s t : State} (h : execRigEnroll h keyId pubkey s = .next t) : t.mask P = s.mask P := by
  cases h
  repeat' (first | rfl | (rename_i h; first | (simp [*, State.issue_mask hsheet hout h]; done) | (simp [*, State.issueSys_mask hsheet hout h]; done)) | split | (refine (State.foldl_mask (fun _ _ => ?_) _ _).trans ?_) | simp [*])

theorem execRigRules_mask (hfn : P .fn = true) (hmgmt : P .mgmt = true) (hmbx : P .mbx = true) (hout : P .out = true) (h : MbxHdr) (cls : ClsSection) {s t : State} (h : execRigRules h cls s = .next t) : t.mask P = s.mask P := by
  cases h
  repeat' (first | rfl | (rename_i h; first | (simp [*, State.issue_mask hsheet hout h]; done) | (simp [*, State.issueSys_mask hsheet hout h]; done)) | split | (refine (State.foldl_mask (fun _ _ => ?_) _ _).trans ?_) | simp [*])

/-! Machine/ModCmds.lean -/

theorem execModList_mask (hmgmt : P .mgmt = true) (hmbx : P .mbx = true) (hout : P .out = true) (hfreeNo : P .freeNo = true) (h : MbxHdr) {s t : State} (h : execModList h s = .next t) : t.mask P = s.mask P := by
  unfold execModList at h
  obtain rfl := Host.Outcome.next.inj h
  refine State.mbxRun_mask hmgmt hmbx hout s _ _ (fun x => ?_) (fun x => rfl)
  simp only [and_self, implies_true, State.mbxOk_mask, *]
  suffices hl : ∀ (l : List Nat) (a : List (BitVec 8) × State), (l.foldl (fun (a : List (BitVec 8) × State) b =>
      let p := a.2.peerBay b
      (a.1 ++ [BitVec.ofNat 8 (modCode (x.port b).modSt), BitVec.ofNat 8 (portCode (x.port b).st)] ++ p.1, p.2)) a).2.mask P = a.2.mask P from
    hl (List.range 48) ([], x)
  intro l
  induction l with
  | nil => exact fun _ => rfl
  | cons b t ih =>
    intro a
    rw [List.foldl_cons, ih]
    simp [*]

theorem execModDesc_mask (hmgmt : P .mgmt = true) (hmbx : P .mbx = true) (hout : P .out = true) (h : MbxHdr) (bay : Nat) (page : Nat) {s t : State} (h : execModDesc h bay page s = .next t) : t.mask P = s.mask P := by
  unfold execModDesc at h
  obtain rfl := Host.Outcome.next.inj h
  refine State.mbxRun_mask hmgmt hmbx hout s _ _ (fun x => ?_) (fun x => rfl)
  split <;> simp only [and_self, implies_true, State.mbxFail_mask, State.answer_mask, State.emit_mask, *]

theorem execModStatus_mask (hmgmt : P .mgmt = true) (hmbx : P .mbx = true) (hout : P .out = true) (h : MbxHdr) (bay : Nat) {s t : State} (h : execModStatus h bay s = .next t) : t.mask P = s.mask P := by
  cases h
  repeat' (first | rfl | (rename_i h; first | (simp [*, State.issue_mask hsheet hout h]; done) | (simp [*, State.issueSys_mask hsheet hout h]; done)) | split | (refine (State.foldl_mask (fun _ _ => ?_) _ _).trans ?_) | simp [*])

theorem execModRetire_mask (hfn : P .fn = true) (hsched : P .sched = true) (hmap : P .map = true) (htc : P .tc = true) (hlog : P .log = true) (hreb : P .reb = true) (hmed : P .med = true) (hrd : P .rd = true) (hsheet : P .sheet = true) (hcip : P .cip = true) (hheld : P .held = true) (hmgmt : P .mgmt = true) (hevqs : P .evqs = true) (hmbx : P .mbx = true) (hflt : P .flt = true) (hout : P .out = true) (h : MbxHdr) (bay : Nat) {s t : State} (h : execModRetire h bay s = .next t) : t.mask P = s.mask P := by
  cases h
  repeat' (first | rfl | (rename_i h; first | (simp [*, State.issue_mask hsheet hout h]; done) | (simp [*, State.issueSys_mask hsheet hout h]; done)) | split | (refine (State.foldl_mask (fun _ _ => ?_) _ _).trans ?_) | simp [*])

theorem execModClear_mask (hfn : P .fn = true) (hsched : P .sched = true) (hmap : P .map = true) (htc : P .tc = true) (hlog : P .log = true) (hreb : P .reb = true) (hmed : P .med = true) (hrd : P .rd = true) (hsheet : P .sheet = true) (hcip : P .cip = true) (hheld : P .held = true) (hmgmt : P .mgmt = true) (hevqs : P .evqs = true) (hmbx : P .mbx = true) (hflt : P .flt = true) (hout : P .out = true) (h : MbxHdr) (bay : Nat) {s t : State} (h : execModClear h bay s = .next t) : t.mask P = s.mask P := by
  cases h
  dsimp only
  repeat' (first | rfl | (rename_i h; have hc := congrArg Prod.snd h; dsimp only at hc; clear h; subst hc; simp [*]; done) | split | (refine (State.foldl_mask (fun _ _ => ?_) _ _).trans ?_) | simp [*])

theorem execNsList_mask (hmgmt : P .mgmt = true) (hmbx : P .mbx = true) (hout : P .out = true) (h : MbxHdr) {s t : State} (h : execNsList h s = .next t) : t.mask P = s.mask P := by
  cases h
  repeat' (first | rfl | (rename_i h; first | (simp [*, State.issue_mask hsheet hout h]; done) | (simp [*, State.issueSys_mask hsheet hout h]; done)) | split | (refine (State.foldl_mask (fun _ _ => ?_) _ _).trans ?_) | simp [*])

theorem execNsRead_mask (hsched : P .sched = true) (hmgmt : P .mgmt = true) (hmbx : P .mbx = true) (hout : P .out = true) (h : MbxHdr) (ns : Nat) (lba : Nat) (count : Nat) {s t : State} (h : execNsRead h ns lba count s = .next t) : t.mask P = s.mask P := by
  cases h
  dsimp only
  repeat' (first | rfl | (rename_i h; have hc := congrArg Prod.snd h; dsimp only at hc; clear h; subst hc; simp [*]; done) | split | (refine (State.foldl_mask (fun _ _ => ?_) _ _).trans ?_) | simp [*])

theorem execNsWrite_mask (hsched : P .sched = true) (hmgmt : P .mgmt = true) (hmbx : P .mbx = true) (hout : P .out = true) (h : MbxHdr) (ns : Nat) (lba : Nat) (count : Nat) (data : List Sector) (poisoned : List Nat) {s t : State} (h : execNsWrite h ns lba count data poisoned s = .next t) : t.mask P = s.mask P := by
  cases h
  dsimp only
  repeat' (first | rfl | (rename_i h; have hc := congrArg Prod.snd h; dsimp only at hc; clear h; subst hc; simp [*]; done) | split | (refine (State.foldl_mask (fun _ _ => ?_) _ _).trans ?_) | simp [*])

theorem execNsDealloc_mask (hsched : P .sched = true) (hmgmt : P .mgmt = true) (hmbx : P .mbx = true) (hout : P .out = true) (h : MbxHdr) (ns : Nat) (lba : Nat) (count : Nat) {s t : State} (h : execNsDealloc h ns lba count s = .next t) : t.mask P = s.mask P := by
  cases h
  dsimp only
  repeat' (first | rfl | (rename_i h; have hc := congrArg Prod.snd h; dsimp only at hc; clear h; subst hc; simp [*]; done) | split | (refine (State.foldl_mask (fun _ _ => ?_) _ _).trans ?_) | simp [*])

theorem execSealRange_mask (hsched : P .sched = true) (hmgmt : P .mgmt = true) (hmbx : P .mbx = true) (hout : P .out = true) (h : MbxHdr) (ns : Nat) (lba : Nat) (count : Nat) {s t : State} (h : execSealRange h ns lba count s = .next t) : t.mask P = s.mask P := by
  cases h
  dsimp only
  repeat' (first | rfl | (rename_i h; have hc := congrArg Prod.snd h; dsimp only at hc; clear h; subst hc; simp [*]; done) | split | (refine (State.foldl_mask (fun _ _ => ?_) _ _).trans ?_) | simp [*])

theorem execNsCache_mask (hfn : P .fn = true) (hsched : P .sched = true) (hmap : P .map = true) (htc : P .tc = true) (hlog : P .log = true) (hreb : P .reb = true) (hmed : P .med = true) (hrd : P .rd = true) (hsheet : P .sheet = true) (hcip : P .cip = true) (hheld : P .held = true) (hmgmt : P .mgmt = true) (hevqs : P .evqs = true) (hmbx : P .mbx = true) (hflt : P .flt = true) (hout : P .out = true) (h : MbxHdr) (op : Nat) (unlock : Nat) (ns : Nat) (lba : Nat) (len : Nat) {s t : State} (h : execNsCache h op unlock ns lba len s = .next t) : t.mask P = s.mask P := by
  cases h
  dsimp only
  repeat' (first | rfl | (rename_i h; have hc := congrArg Prod.snd h; dsimp only at hc; clear h; subst hc; simp [*]; done) | split | (refine (State.foldl_mask (fun _ _ => ?_) _ _).trans ?_) | simp [*])

theorem execPeerMailboxEffect_mask (hfn : P .fn = true) (hsched : P .sched = true) (hmap : P .map = true) (htc : P .tc = true) (hlog : P .log = true) (hreb : P .reb = true) (hmed : P .med = true) (hrd : P .rd = true) (hsheet : P .sheet = true) (hcip : P .cip = true) (hheld : P .held = true) (hevqs : P .evqs = true) (hflt : P .flt = true) (hout : P .out = true) (m : Fin 64) (e : PeerEffect) {s t : State} (h : execPeerMailboxEffect m e s = .next t) : t.mask P = s.mask P := by
  cases h
  repeat' (first | rfl | split | (refine (State.foldl_mask (fun _ _ => ?_) _ _).trans ?_) | simp only [and_self, implies_true, State.emit_mask, State.keyGone_mask, State.modClear_mask, hfn, hsched, hmap, htc, hlog, hreb, hmed, hrd, hsheet, hcip, hheld, hevqs, hflt, hout])

/-! Machine/KeyCmds.lean -/

theorem execKeyGenerate_mask (hfn : P .fn = true) (hmgmt : P .mgmt = true) (hmbx : P .mbx = true) (hout : P .out = true) (hfreeNo : P .freeNo = true) (h : MbxHdr) (tenant : Nat) (slot : Nat) (mode : Nat) {s t : State} (h : execKeyGenerate h tenant slot mode s = .next t) : t.mask P = s.mask P := by
  cases h
  dsimp only
  repeat' (first | rfl | (rename_i h; have hc := congrArg Prod.snd h; dsimp only at hc; clear h; subst hc; simp [*]; done) | split | (refine (State.foldl_mask (fun _ _ => ?_) _ _).trans ?_) | simp [*])

theorem execKeyImport_mask (hfn : P .fn = true) (hmgmt : P .mgmt = true) (hmbx : P .mbx = true) (hout : P .out = true) (h : MbxHdr) (tenant : Nat) (slot : Nat) (mode : Nat) (unwrapped : Option (BitVec 512)) {s t : State} (h : execKeyImport h tenant slot mode unwrapped s = .next t) : t.mask P = s.mask P := by
  cases h
  repeat' (first | rfl | (rename_i h; first | (simp [*, State.issue_mask hsheet hout h]; done) | (simp [*, State.issueSys_mask hsheet hout h]; done)) | split | (refine (State.foldl_mask (fun _ _ => ?_) _ _).trans ?_) | simp [*])

theorem execKeyDestroy_mask (hfn : P .fn = true) (hmgmt : P .mgmt = true) (hmbx : P .mbx = true) (hout : P .out = true) (h : MbxHdr) (tenant : Nat) (slot : Nat) {s t : State} (h : execKeyDestroy h tenant slot s = .next t) : t.mask P = s.mask P := by
  cases h
  dsimp only
  repeat' (first | rfl | (rename_i h; have hc := congrArg Prod.snd h; dsimp only at hc; clear h; subst hc; simp [*]; done) | split | (refine (State.foldl_mask (fun _ _ => ?_) _ _).trans ?_) | simp [*])

theorem execKeyStatus_mask (hmgmt : P .mgmt = true) (hmbx : P .mbx = true) (hout : P .out = true) (h : MbxHdr) (tenant : Nat) (slot : Nat) {s t : State} (h : execKeyStatus h tenant slot s = .next t) : t.mask P = s.mask P := by
  cases h
  repeat' (first | rfl | (rename_i h; first | (simp [*, State.issue_mask hsheet hout h]; done) | (simp [*, State.issueSys_mask hsheet hout h]; done)) | split | (refine (State.foldl_mask (fun _ _ => ?_) _ _).trans ?_) | simp [*])

theorem execKeyEscrow_mask (hmgmt : P .mgmt = true) (hmbx : P .mbx = true) (hout : P .out = true) (hfreeNo : P .freeNo = true) (h : MbxHdr) (cpub : BitVec 776) {s t : State} (h : execKeyEscrow h cpub s = .next t) : t.mask P = s.mask P := by
  unfold execKeyEscrow at h
  obtain rfl := Host.Outcome.next.inj h
  refine State.mbxRun_mask hmgmt hmbx hout s _ _ (fun x => ?_) (fun x => rfl)
  split <;> simp only [and_self, implies_true, State.mbxFail_mask, State.mbxOk_mask, State.freeNat_mask, *]

theorem execKeyRestore_mask (hcip : P .cip = true) (hmgmt : P .mgmt = true) (hmbx : P .mbx = true) (hboot : P .boot = true) (hout : P .out = true) (h : MbxHdr) (unwrapped : Option (BitVec 256)) {s t : State} (h : execKeyRestore h unwrapped s = .next t) : t.mask P = s.mask P := by
  cases h
  repeat' (first | rfl | (rename_i h; first | (simp [*, State.issue_mask hsheet hout h]; done) | (simp [*, State.issueSys_mask hsheet hout h]; done)) | split | (refine (State.foldl_mask (fun _ _ => ?_) _ _).trans ?_) | simp [*])

theorem execKeyMgmtenroll_mask (hmgmt : P .mgmt = true) (hmbx : P .mbx = true) (hboot : P .boot = true) (hout : P .out = true) (h : MbxHdr) (index : Nat) (pubkey : BitVec 776) {s t : State} (h : execKeyMgmtenroll h index pubkey s = .next t) : t.mask P = s.mask P := by
  unfold execKeyMgmtenroll at h
  obtain rfl := Host.Outcome.next.inj h
  refine State.mbxRun_mask hmgmt hmbx hout s _ _ (fun x => ?_) (fun x => rfl)
  simp only [and_self, implies_true, State.mbxOk_mask, *]
  split
  · simp only [and_self, implies_true, State.onBoot_mask, *]
  · refine (State.foldl_mask (fun s i => ?_) _ _).trans (State.onBoot_mask hboot x _)
    repeat' (first | rfl | split | simp only [and_self, implies_true, State.endSession_mask, *])

theorem execRetAdvance_mask (hfn : P .fn = true) (hmgmt : P .mgmt = true) (hmbx : P .mbx = true) (hboot : P .boot = true) (hout : P .out = true) (h : MbxHdr) (delta : Nat) (advSeq : Nat) {s t : State} (h : execRetAdvance h delta advSeq s = .next t) : t.mask P = s.mask P := by
  cases h
  repeat' (first | rfl | (rename_i h; have hc := congrArg Prod.snd h; dsimp only at hc; clear h; subst hc; simp [*]; done) | split | (refine (State.foldl_mask (fun _ _ => ?_) _ _).trans ?_) | simp [*])


theorem execRetClock_mask (hmgmt : P .mgmt = true) (hmbx : P .mbx = true) (hout : P .out = true) (h : MbxHdr) {s t : State} (h : execRetClock h s = .next t) : t.mask P = s.mask P := by
  cases h
  repeat' (first | rfl | (rename_i h; first | (simp [*, State.issue_mask hsheet hout h]; done) | (simp [*, State.issueSys_mask hsheet hout h]; done)) | split | (refine (State.foldl_mask (fun _ _ => ?_) _ _).trans ?_) | simp [*])

theorem execSealCert_mask (hmgmt : P .mgmt = true) (hmbx : P .mbx = true) (hout : P .out = true) (h : MbxHdr) {s t : State} (h : execSealCert h s = .next t) : t.mask P = s.mask P := by
  cases h
  dsimp only
  repeat' (first | rfl | (rename_i h; have hc := congrArg Prod.snd h; dsimp only at hc; clear h; subst hc; simp [*]; done) | split | (refine (State.foldl_mask (fun _ _ => ?_) _ _).trans ?_) | simp [*])

/-! Machine/LiveCmds.lean -/

theorem execHlthCaps_mask (hfn : P .fn = true) (hmgmt : P .mgmt = true) (hmbx : P .mbx = true) (hout : P .out = true) (h : MbxHdr) (hostCap : Nat) (bgCap : Nat) {s t : State} (h : execHlthCaps h hostCap bgCap s = .next t) : t.mask P = s.mask P := by
  cases h
  repeat' (first | rfl | (rename_i h; first | (simp [*, State.issue_mask hsheet hout h]; done) | (simp [*, State.issueSys_mask hsheet hout h]; done)) | split | (refine (State.foldl_mask (fun _ _ => ?_) _ _).trans ?_) | simp [*])

theorem execHlthThresh_mask (hfn : P .fn = true) (hmgmt : P .mgmt = true) (hmbx : P .mbx = true) (hout : P .out = true) (h : MbxHdr) (rewrite : Nat) (thresholds : List Nat) {s t : State} (h : execHlthThresh h rewrite thresholds s = .next t) : t.mask P = s.mask P := by
  cases h
  repeat' (first | rfl | (rename_i h; first | (simp [*, State.issue_mask hsheet hout h]; done) | (simp [*, State.issueSys_mask hsheet hout h]; done)) | split | (refine (State.foldl_mask (fun _ _ => ?_) _ _).trans ?_) | simp [*])

theorem execHlthPatrol_mask (hfn : P .fn = true) (hmgmt : P .mgmt = true) (hmbx : P .mbx = true) (hout : P .out = true) (h : MbxHdr) (days : Nat) {s t : State} (h : execHlthPatrol h days s = .next t) : t.mask P = s.mask P := by
  cases h
  repeat' (first | rfl | (rename_i h; first | (simp [*, State.issue_mask hsheet hout h]; done) | (simp [*, State.issueSys_mask hsheet hout h]; done)) | split | (refine (State.foldl_mask (fun _ _ => ?_) _ _).trans ?_) | simp [*])

theorem execPairInterval_mask (hfn : P .fn = true) (hmgmt : P .mgmt = true) (hmbx : P .mbx = true) (hout : P .out = true) (h : MbxHdr) (hours : Nat) {s t : State} (h : execPairInterval h hours s = .next t) : t.mask P = s.mask P := by
  cases h
  repeat' (first | rfl | (rename_i h; first | (simp [*, State.issue_mask hsheet hout h]; done) | (simp [*, State.issueSys_mask hsheet hout h]; done)) | split | (refine (State.foldl_mask (fun _ _ => ?_) _ _).trans ?_) | simp [*])

theorem execHlthModule_mask (hmgmt : P .mgmt = true) (hmbx : P .mbx = true) (hout : P .out = true) (h : MbxHdr) (bay : Nat) {s t : State} (h : execHlthModule h bay s = .next t) : t.mask P = s.mask P := by
  cases h
  repeat' (first | rfl | (rename_i h; first | (simp [*, State.issue_mask hsheet hout h]; done) | (simp [*, State.issueSys_mask hsheet hout h]; done)) | split | (refine (State.foldl_mask (fun _ _ => ?_) _ _).trans ?_) | simp [*])

theorem execHlthPage_mask (hmgmt : P .mgmt = true) (hmbx : P .mbx = true) (hout : P .out = true) (h : MbxHdr) {s t : State} (h : execHlthPage h s = .next t) : t.mask P = s.mask P := by
  cases h
  repeat' (first | rfl | (rename_i h; first | (simp [*, State.issue_mask hsheet hout h]; done) | (simp [*, State.issueSys_mask hsheet hout h]; done)) | split | (refine (State.foldl_mask (fun _ _ => ?_) _ _).trans ?_) | simp [*])

theorem execEvtQcreate_mask (hfn : P .fn = true) (hmgmt : P .mgmt = true) (hmbx : P .mbx = true) (hout : P .out = true) (h : MbxHdr) (q : Nat) (log2n : Nat) (vector : Nat) (countTh : Nat) (timeTh : Nat) (base : BitVec 64) {s t : State} (h : execEvtQcreate h q log2n vector countTh timeTh base s = .next t) : t.mask P = s.mask P := by
  cases h
  repeat' (first | rfl | (rename_i h; first | (simp [*, State.issue_mask hsheet hout h]; done) | (simp [*, State.issueSys_mask hsheet hout h]; done)) | split | (refine (State.foldl_mask (fun _ _ => ?_) _ _).trans ?_) | simp [*])

theorem execEvtQdelete_mask (hfn : P .fn = true) (hmgmt : P .mgmt = true) (hmbx : P .mbx = true) (hout : P .out = true) (h : MbxHdr) (q : Nat) {s t : State} (h : execEvtQdelete h q s = .next t) : t.mask P = s.mask P := by
  cases h
  repeat' (first | rfl | (rename_i h; first | (simp [*, State.issue_mask hsheet hout h]; done) | (simp [*, State.issueSys_mask hsheet hout h]; done)) | split | (refine (State.foldl_mask (fun _ _ => ?_) _ _).trans ?_) | simp [*])

theorem execEvtQmod_mask (hfn : P .fn = true) (hmgmt : P .mgmt = true) (hmbx : P .mbx = true) (hout : P .out = true) (h : MbxHdr) (q : Nat) (countTh : Nat) (timeTh : Nat) {s t : State} (h : execEvtQmod h q countTh timeTh s = .next t) : t.mask P = s.mask P := by
  cases h
  repeat' (first | rfl | (rename_i h; first | (simp [*, State.issue_mask hsheet hout h]; done) | (simp [*, State.issueSys_mask hsheet hout h]; done)) | split | (refine (State.foldl_mask (fun _ _ => ?_) _ _).trans ?_) | simp [*])

theorem execEvtRoute_mask (hfn : P .fn = true) (hmgmt : P .mgmt = true) (hmbx : P .mbx = true) (hout : P .out = true) (h : MbxHdr) (first : Nat) (last : Nat) (q : Nat) (enable : Nat) {s t : State} (h : execEvtRoute h first last q enable s = .next t) : t.mask P = s.mask P := by
  cases h
  repeat' (first | rfl | (rename_i h; first | (simp [*, State.issue_mask hsheet hout h]; done) | (simp [*, State.issueSys_mask hsheet hout h]; done)) | split | (refine (State.foldl_mask (fun _ _ => ?_) _ _).trans ?_) | simp [*])

theorem execCwnHistory_mask (hmgmt : P .mgmt = true) (hmbx : P .mbx = true) (hout : P .out = true) (h : MbxHdr) {s t : State} (h : execCwnHistory h s = .next t) : t.mask P = s.mask P := by
  cases h
  repeat' (first | rfl | (rename_i h; first | (simp [*, State.issue_mask hsheet hout h]; done) | (simp [*, State.issueSys_mask hsheet hout h]; done)) | split | (refine (State.foldl_mask (fun _ _ => ?_) _ _).trans ?_) | simp [*])

theorem execCwnAck_mask (hmgmt : P .mgmt = true) (hmbx : P .mbx = true) (hflt : P .flt = true) (hout : P .out = true) (h : MbxHdr) (seq : Nat) {s t : State} (h : execCwnAck h seq s = .next t) : t.mask P = s.mask P := by
  cases h
  repeat' (first | rfl | (rename_i h; first | (simp [*, State.issue_mask hsheet hout h]; done) | (simp [*, State.issueSys_mask hsheet hout h]; done)) | split | (refine (State.foldl_mask (fun _ _ => ?_) _ _).trans ?_) | simp [*])

theorem execPmcProgram_mask (hfn : P .fn = true) (hmgmt : P .mgmt = true) (hmbx : P .mbx = true) (hout : P .out = true) (h : MbxHdr) (bank : Nat) (first : Nat) (selectors : List (BitVec 32)) {s t : State} (h : execPmcProgram h bank first selectors s = .next t) : t.mask P = s.mask P := by
  cases h
  repeat' (first | rfl | (rename_i h; first | (simp [*, State.issue_mask hsheet hout h]; done) | (simp [*, State.issueSys_mask hsheet hout h]; done)) | split | (refine (State.foldl_mask (fun _ _ => ?_) _ _).trans ?_) | simp [*])

theorem execPmcUsermap_mask (hfn : P .fn = true) (hmgmt : P .mgmt = true) (hmbx : P .mbx = true) (hout : P .out = true) (h : MbxHdr) (bank : Nat) (allow : Nat) {s t : State} (h : execPmcUsermap h bank allow s = .next t) : t.mask P = s.mask P := by
  cases h
  repeat' (first | rfl | (rename_i h; first | (simp [*, State.issue_mask hsheet hout h]; done) | (simp [*, State.issueSys_mask hsheet hout h]; done)) | split | (refine (State.foldl_mask (fun _ _ => ?_) _ _).trans ?_) | simp [*])

theorem execPmcSample_mask (hfn : P .fn = true) (hmgmt : P .mgmt = true) (hmbx : P .mbx = true) (hout : P .out = true) (h : MbxHdr) (bank : Nat) (counter : Nat) (enable : Nat) {s t : State} (h : execPmcSample h bank counter enable s = .next t) : t.mask P = s.mask P := by
  cases h
  repeat' (first | rfl | (rename_i h; first | (simp [*, State.issue_mask hsheet hout h]; done) | (simp [*, State.issueSys_mask hsheet hout h]; done)) | split | (refine (State.foldl_mask (fun _ _ => ?_) _ _).trans ?_) | simp [*])

theorem execBayEnable_mask (hfn : P .fn = true) (hmgmt : P .mgmt = true) (hmbx : P .mbx = true) (hout : P .out = true) (h : MbxHdr) (bay : Nat) {s t : State} (h : execBayEnable h bay s = .next t) : t.mask P = s.mask P := by
  cases h
  repeat' (first | rfl | (rename_i h; first | (simp [*, State.issue_mask hsheet hout h]; done) | (simp [*, State.issueSys_mask hsheet hout h]; done)) | split | (refine (State.foldl_mask (fun _ _ => ?_) _ _).trans ?_) | simp [*])

theorem execBayDisable_mask (hfn : P .fn = true) (hmgmt : P .mgmt = true) (hmbx : P .mbx = true) (hout : P .out = true) (h : MbxHdr) (bay : Nat) {s t : State} (h : execBayDisable h bay s = .next t) : t.mask P = s.mask P := by
  cases h
  repeat' (first | rfl | (rename_i h; first | (simp [*, State.issue_mask hsheet hout h]; done) | (simp [*, State.issueSys_mask hsheet hout h]; done)) | split | (refine (State.foldl_mask (fun _ _ => ?_) _ _).trans ?_) | simp [*])

theorem execBayConfig_mask (hfn : P .fn = true) (hmgmt : P .mgmt = true) (hmbx : P .mbx = true) (hout : P .out = true) (h : MbxHdr) (bay : Nat) (gate : Nat) (ft3 : Nat) (insDelay : Nat) (ilim : Nat) (soa : Nat) (rampTo : Nat) {s t : State} (h : execBayConfig h bay gate ft3 insDelay ilim soa rampTo s = .next t) : t.mask P = s.mask P := by
  cases h
  dsimp only
  repeat' (first | rfl | (rename_i h; have hc := congrArg Prod.snd h; dsimp only at hc; clear h; subst hc; simp [*]; done) | split | (refine (State.foldl_mask (fun _ _ => ?_) _ _).trans ?_) | simp [*])

theorem execBayToggle_mask (hfn : P .fn = true) (hmgmt : P .mgmt = true) (hmbx : P .mbx = true) (hout : P .out = true) (h : MbxHdr) (bay : Nat) {s t : State} (h : execBayToggle h bay s = .next t) : t.mask P = s.mask P := by
  cases h
  repeat' (first | rfl | (rename_i h; first | (simp [*, State.issue_mask hsheet hout h]; done) | (simp [*, State.issueSys_mask hsheet hout h]; done)) | split | (refine (State.foldl_mask (fun _ _ => ?_) _ _).trans ?_) | simp [*])

/-! Machine/SysCmds.lean -/

theorem execPwrHoldtest_mask (hbpd : P .bpd = true) (hmgmt : P .mgmt = true) (hmbx : P .mbx = true) (hout : P .out = true) (h : MbxHdr) {s t : State} (h : execPwrHoldtest h s = .next t) : t.mask P = s.mask P := by
  cases h
  repeat' (first | rfl | (rename_i h; first | (simp [*, State.issue_mask hsheet hout h]; done) | (simp [*, State.issueSys_mask hsheet hout h]; done)) | split | (refine (State.foldl_mask (fun _ _ => ?_) _ _).trans ?_) | simp [*])

theorem execPwrStatus_mask (hmgmt : P .mgmt = true) (hmbx : P .mbx = true) (hout : P .out = true) (h : MbxHdr) {s t : State} (h : execPwrStatus h s = .next t) : t.mask P = s.mask P := by
  cases h
  repeat' (first | rfl | (rename_i h; first | (simp [*, State.issue_mask hsheet hout h]; done) | (simp [*, State.issueSys_mask hsheet hout h]; done)) | split | (refine (State.foldl_mask (fun _ _ => ?_) _ _).trans ?_) | simp [*])

theorem execPairStatus_mask (hmgmt : P .mgmt = true) (hmbx : P .mbx = true) (hout : P .out = true) (h : MbxHdr) {s t : State} (h : execPairStatus h s = .next t) : t.mask P = s.mask P := by
  cases h
  repeat' (first | rfl | (rename_i h; first | (simp [*, State.issue_mask hsheet hout h]; done) | (simp [*, State.issueSys_mask hsheet hout h]; done)) | split | (refine (State.foldl_mask (fun _ _ => ?_) _ _).trans ?_) | simp [*])

theorem execPairSwap_mask (hfn : P .fn = true) (hmap : P .map = true) (htc : P .tc = true) (hlog : P .log = true) (hreb : P .reb = true) (hmed : P .med = true) (hsheet : P .sheet = true) (hnvme : P .nvme = true) (hrdma : P .rdma = true) (hnet : P .net = true) (hpair : P .pair = true) (hmgmt : P .mgmt = true) (hevqs : P .evqs = true) (hmbx : P .mbx = true) (hout : P .out = true) (h : MbxHdr) {s t : State} (h : execPairSwap h s = .next t) : t.mask P = s.mask P := by
  cases h
  repeat' (first | rfl | (rename_i h; first | (simp [*, State.issue_mask hsheet hout h]; done) | (simp [*, State.issueSys_mask hsheet hout h]; done)) | split | (refine (State.foldl_mask (fun _ _ => ?_) _ _).trans ?_) | simp [*])

theorem execFwDownload_mask (hmgmt : P .mgmt = true) (hmbx : P .mbx = true) (hboot : P .boot = true) (hout : P .out = true) (h : MbxHdr) (slot : Nat) (image : FwImage) {s t : State} (h : execFwDownload h slot image s = .next t) : t.mask P = s.mask P := by
  cases h
  dsimp only
  repeat' (first | rfl | (rename_i h; have hc := congrArg Prod.snd h; dsimp only at hc; clear h; subst hc; simp [*]; done) | split | (refine (State.foldl_mask (fun _ _ => ?_) _ _).trans ?_) | simp [*])

theorem execFwActivate_mask (hmgmt : P .mgmt = true) (hevqs : P .evqs = true) (hmbx : P .mbx = true) (hboot : P .boot = true) (hout : P .out = true) (h : MbxHdr) (slot : Nat) (restart : Nat) {s t : State} (h : execFwActivate h slot restart s = .next t) : t.mask P = s.mask P := by
  cases h
  repeat' (first | rfl | (rename_i h; first | (simp [*, State.issue_mask hsheet hout h]; done) | (simp [*, State.issueSys_mask hsheet hout h]; done)) | split | (refine (State.foldl_mask (fun _ _ => ?_) _ _).trans ?_) | simp [*])

theorem execFwInfo_mask (hmgmt : P .mgmt = true) (hmbx : P .mbx = true) (hout : P .out = true) (h : MbxHdr) {s t : State} (h : execFwInfo h s = .next t) : t.mask P = s.mask P := by
  cases h
  repeat' (first | rfl | (rename_i h; first | (simp [*, State.issue_mask hsheet hout h]; done) | (simp [*, State.issueSys_mask hsheet hout h]; done)) | split | (refine (State.foldl_mask (fun _ _ => ?_) _ _).trans ?_) | simp [*])

theorem execDiagEcho_mask (hmgmt : P .mgmt = true) (hmbx : P .mbx = true) (hout : P .out = true) (h : MbxHdr) (bytes : List (BitVec 8)) {s t : State} (h : execDiagEcho h bytes s = .next t) : t.mask P = s.mask P := by
  cases h
  repeat' (first | rfl | (rename_i h; first | (simp [*, State.issue_mask hsheet hout h]; done) | (simp [*, State.issueSys_mask hsheet hout h]; done)) | split | (refine (State.foldl_mask (fun _ _ => ?_) _ _).trans ?_) | simp [*])

theorem execDiagSelftest_mask (hmgmt : P .mgmt = true) (hmbx : P .mbx = true) (hout : P .out = true) (h : MbxHdr) (mask : BitVec 32) (fails : List (Nat × Nat)) {s t : State} (h : execDiagSelftest h mask fails s = .next t) : t.mask P = s.mask P := by
  cases h
  repeat' (first | rfl | (rename_i h; first | (simp [*, State.issue_mask hsheet hout h]; done) | (simp [*, State.issueSys_mask hsheet hout h]; done)) | split | (refine (State.foldl_mask (fun _ _ => ?_) _ _).trans ?_) | simp [*])

/-! Machine/StartUp.lean -/

theorem execAuxPowerOn_mask (hclk : P .clk = true) (hfn : P .fn = true) (hsched : P .sched = true) (hmap : P .map = true) (htc : P .tc = true) (hlog : P .log = true) (hreb : P .reb = true) (hmed : P .med = true) (hrd : P .rd = true) (hsheet : P .sheet = true) (hnvme : P .nvme = true) (hrdma : P .rdma = true) (hnet : P .net = true) (hcip : P .cip = true) (hpair : P .pair = true) (hbpd : P .bpd = true) (hheld : P .held = true) (hmgmt : P .mgmt = true) (hevqs : P .evqs = true) (hmbx : P .mbx = true) (hflt : P .flt = true) (hpmc : P .pmc = true) (hboot : P .boot = true) (board : Board) {s t : State} (h : execAuxPowerOn board s = .next t) : t.mask P = s.mask P := by
  unfold execAuxPowerOn at h
  obtain rfl := Host.Outcome.next.inj h
  split
  · rfl
  · have h1 : s.dieReset.mask P = s.mask P := by simp only [and_self, implies_true, State.dieReset_mask, *]
    refine Eq.trans ?_ h1
    simp only [and_self, implies_true, State.mask, hflt, hboot, hsheet, hbpd, hheld, cond_true]

theorem execMainDiePowerUp_mask (hboot : P .boot = true) {s t : State} (h : execMainDiePowerUp s = .next t) : t.mask P = s.mask P := by
  cases h
  split <;> simp only [and_self, implies_true, State.onBoot_mask, hboot]

theorem execChipReset_mask (hclk : P .clk = true) (hfn : P .fn = true) (hsched : P .sched = true) (hmap : P .map = true) (htc : P .tc = true) (hlog : P .log = true) (hreb : P .reb = true) (hmed : P .med = true) (hrd : P .rd = true) (hsheet : P .sheet = true) (hnvme : P .nvme = true) (hrdma : P .rdma = true) (hnet : P .net = true) (hcip : P .cip = true) (hpair : P .pair = true) (hmgmt : P .mgmt = true) (hevqs : P .evqs = true) (hmbx : P .mbx = true) (hflt : P .flt = true) (hpmc : P .pmc = true) (hboot : P .boot = true) (cause : ResetCause) {s t : State} (h : execChipReset cause s = .next t) : t.mask P = s.mask P := by
  cases h
  dsimp only
  (repeat' split) <;> first | with_reducible rfl | simp only [and_self, implies_true, State.dieReset_mask, hclk, hfn, hsched, hmap, htc, hlog, hreb, hmed, hrd, hsheet, hnvme, hrdma, hnet, hcip, hpair, hmgmt, hevqs, hmbx, hflt, hpmc, hboot]

theorem execStartUpStepEnd_mask (hfn : P .fn = true) (hsched : P .sched = true) (hmap : P .map = true) (htc : P .tc = true) (hlog : P .log = true) (hreb : P .reb = true) (hmed : P .med = true) (hrd : P .rd = true) (hsheet : P .sheet = true) (hmods : P .mods = true) (hnvme : P .nvme = true) (hrdma : P .rdma = true) (hnet : P .net = true) (hcip : P .cip = true) (hpair : P .pair = true) (hbpd : P .bpd = true) (hheld : P .held = true) (hmgmt : P .mgmt = true) (hevqs : P .evqs = true) (hflt : P .flt = true) (hpmc : P .pmc = true) (hboot : P .boot = true) (hout : P .out = true) (env : StepEnv) {s t : State} (h : execStartUpStepEnd env s = .next t) : t.mask P = s.mask P := by
  cases h
  dsimp only
  (repeat' split) <;> first | with_reducible rfl | simp only [and_self, implies_true, State.bootRom_mask, State.enableBays_mask, State.loaded_mask, State.onBoot_mask, State.onCip_mask, State.onFn_mask, State.selfTests_mask, State.shelfRead_mask, State.startEnd_mask, hfn, hsched, hmap, htc, hlog, hreb, hmed, hrd, hsheet, hmods, hnvme, hrdma, hnet, hcip, hpair, hbpd, hheld, hmgmt, hevqs, hflt, hpmc, hboot, hout]

end Sys2Proof.Machine
end

