-- ==== Sys2Proof/Laws/Tab.lean ====
section
/-! SUPPORT. Sparse tables: the canonical form is kept by every table operation, and what an entry reads after each. -/

namespace Sys2Proof.Machine

variable {α : Type} {t : Tab α}

/-- The canonical form: every key is below the keys after it. -/
theorem tabWf_iff : tabWf t = true ↔ t.Pairwise fun a b => a.1 < b.1 := by
  induction t with
  | nil => simp [tabWf]
  | cons a t ih =>
    cases t with
    | nil => simp [tabWf]
    | cons b t =>
      simp only [tabWf, Bool.and_eq_true, decide_eq_true_eq, ih, List.pairwise_cons, List.mem_cons, forall_eq_or_imp]
      constructor
      · rintro ⟨h, h1, h2⟩
        exact ⟨⟨h, fun c hc => lt_trans h (h1 c hc)⟩, h1, h2⟩
      · rintro ⟨⟨h, -⟩, h1, h2⟩
        exact ⟨h, h1, h2⟩

theorem mem_tabPut {k : Nat} {v : α} {e : Nat × α} (h : e ∈ tabPut t k v) : e = (k, v) ∨ e ∈ t := by
  induction t with
  | nil => simpa [tabPut] using h
  | cons a t ih =>
    rw [tabPut] at h
    split at h
    · simpa using h
    · split at h
      · rcases List.mem_cons.1 h with h | h
        · exact .inl h
        · exact .inr (by simp [h])
      · rcases List.mem_cons.1 h with h | h
        · exact .inr (by simp [h])
        · exact (ih h).imp id (by simp +contextual)

/-- Storing keeps the canonical form. -/
@[simp] theorem tabWf_tabPut (h : tabWf t = true) (k : Nat) (v : α) : tabWf (tabPut t k v) = true := by
  rw [tabWf_iff] at *
  induction t with
  | nil => simp [tabPut]
  | cons a t ih =>
    obtain ⟨h1, h2⟩ := List.pairwise_cons.1 h
    rw [tabPut]
    split
    · rename_i hk
      refine List.pairwise_cons.2 ⟨?_, h⟩
      intro e he
      rcases List.mem_cons.1 he with rfl | he
      · exact hk
      · exact lt_trans hk (h1 e he)
    · split
      · rename_i hk; subst hk; exact List.pairwise_cons.2 ⟨h1, h2⟩
      · refine List.pairwise_cons.2 ⟨?_, ih h2⟩
        intro e he
        rcases mem_tabPut he with rfl | he
        · dsimp only; omega
        · exact h1 e he

theorem tabDel_sublist (t : Tab α) (k : Nat) : (tabDel t k).Sublist t := by
  induction t with
  | nil => simp [tabDel]
  | cons a t ih =>
    rw [tabDel]
    split
    · exact List.sublist_cons_self _ _
    · split
      · exact .refl _
      · exact ih.cons_cons _

/-- Deleting keeps the canonical form. -/
@[simp] theorem tabWf_tabDel (h : tabWf t = true) (k : Nat) : tabWf (tabDel t k) = true := by
  rw [tabWf_iff] at *
  exact h.sublist (tabDel_sublist t k)

/-- Filtering keeps the canonical form. -/
@[simp] theorem tabWf_filter (h : tabWf t = true) (p : Nat × α → Bool) : tabWf (t.filter p) = true := by
  rw [tabWf_iff] at *
  exact h.sublist List.filter_sublist

@[simp] theorem tabWf_tabKeep (h : tabWf t = true) (p : Nat → α → Bool) : tabWf (tabKeep p t) = true := tabWf_filter h _

/-- Changing the listed values keeps the canonical form. -/
@[simp] theorem tabWf_tabMap (h : tabWf t = true) (f : Nat → α → α) : tabWf (tabMap f t) = true := by
  rw [tabWf_iff] at *
  exact List.pairwise_map.2 h

/-- Storing a byte, zero not listed, keeps a mailbox buffer canonical. -/
theorem bufWf_tabPutD {t : Tab (BitVec 8)} (h : bufWf t = true) (k : Nat) (v : BitVec 8) : bufWf (tabPutD 0 t k v) = true := by
  simp only [bufWf, Bool.and_eq_true, List.all_eq_true, bne_iff_ne, ne_eq] at *
  rw [tabPutD]
  split
  · exact ⟨tabWf_tabDel h.1 k, fun e he => h.2 e ((tabDel_sublist t k).subset he)⟩
  · refine ⟨tabWf_tabPut h.1 k v, fun e he => ?_⟩
    rcases mem_tabPut he with rfl | he
    · assumption
    · exact h.2 e he

theorem tabGet_none_of_lt (h : t.Pairwise fun a b => a.1 < b.1) {k : Nat} (hk : ∀ e ∈ t, k < e.1) : tabGet t k = none := by
  cases t with
  | nil => rfl
  | cons a t =>
    have := hk a (by simp)
    rw [tabGet, if_neg (by omega), if_pos this]

/-- Reading after storing: the value stored under its own key, what was listed before under every other. -/
theorem tabGet_tabPut (h : tabWf t = true) (k j : Nat) (v : α) : tabGet (tabPut t k v) j = if j = k then some v else tabGet t j := by
  rw [tabWf_iff] at h
  induction t with
  | nil =>
    simp only [tabPut, tabGet]
    grind
  | cons a t ih =>
    obtain ⟨h1, h2⟩ := List.pairwise_cons.1 h
    rw [tabPut]
    split
    · simp only [tabGet]; grind
    · split
      · simp only [tabGet]; grind
      · simp only [tabGet, ih h2]; grind

/-- Reading after deleting: nothing under the key deleted. -/
theorem tabGet_tabDel (h : tabWf t = true) (k j : Nat) : tabGet (tabDel t k) j = if j = k then none else tabGet t j := by
  rw [tabWf_iff] at h
  induction t with
  | nil => simp [tabDel, tabGet]
  | cons a t ih =>
    obtain ⟨h1, h2⟩ := List.pairwise_cons.1 h
    rw [tabDel]
    split
    · rename_i hk
      subst hk
      by_cases hj : j = a.1
      · rw [if_pos hj, hj]; exact tabGet_none_of_lt h2 h1
      · simp only [if_neg hj, tabGet, if_neg (Ne.symm hj)]
        split
        · exact tabGet_none_of_lt h2 fun e he => by have := h1 e he; omega
        · rfl
    · split
      · by_cases hj : j = k
        · subst hj; simp only [tabGet]; grind
        · simp [hj]
      · simp only [tabGet, ih h2]; grind

end Sys2Proof.Machine
end

