-- ==== Sys2Proof/Laws/Inv.lean ====
section
/-! SUPPORT. What every step keeps (`State.Inv`), under the updaters. -/

namespace Sys2Proof.Machine

variable {s : State} {α : Type}

@[simp] theorem modNth_length (l : List α) (i : Nat) (f : α → α) : (modNth l i f).length = l.length := by
  induction l generalizing i with
  | nil => rfl
  | cons x t ih => cases i <;> simp [modNth, *]

@[simp] theorem putNth_length (l : List α) (i : Nat) (v : α) : (putNth l i v).length = l.length := modNth_length l i _

theorem modNth_forall {p : α → Prop} {l : List α} {i : Nat} {f : α → α} (h : ∀ x ∈ l, p x) (hf : ∀ x, p x → p (f x)) : ∀ x ∈ modNth l i f, p x := by
  induction l generalizing i with
  | nil => exact h
  | cons x t ih =>
    cases i <;> simp only [modNth, List.mem_cons, forall_eq_or_imp] at *
    · exact ⟨hf _ h.1, h.2⟩
    · exact ⟨h.1, ih h.2⟩

@[simp] theorem State.onClk_inv {g : Clk → Clk} (h : s.Inv) (hg : ∀ x : Clk, x.slot < 16384 → (g x).slot < 16384) : (s.onClk g).Inv :=
  { h with slot := hg _ h.slot }

@[simp] theorem State.onFn_inv {g} (h : s.Inv) : (s.onFn g).Inv := { h with }

@[simp] theorem State.onSched_inv {g : Sched → Sched} (h : s.Inv) (hg : ∀ x, (g x).inputs.length = x.inputs.length ∧ (g x).lastTaken.length = x.lastTaken.length) : (s.onSched g).Inv :=
  { h with inputs := by have := hg s.sched; have := h.inputs; simp_all [State.onSched], lastTaken := by have := hg s.sched; have := h.lastTaken; simp_all [State.onSched] }

@[simp] theorem State.onMap_inv {g} (h : s.Inv) : (s.onMap g).Inv := { h with }

@[simp] theorem State.onTc_inv {g} (h : s.Inv) : (s.onTc g).Inv := { h with }

@[simp] theorem State.onLog_inv {g : LogSt → LogSt} (h : s.Inv) (hg : ∀ x, (g x).streams.length = x.streams.length ∧ (g x).halfErased.length = x.halfErased.length) : (s.onLog g).Inv :=
  { h with streams := by have := hg s.log; have := h.streams; simp_all [State.onLog], halves := by have := hg s.log; have := h.halves; simp_all [State.onLog] }

@[simp] theorem State.onReb_inv {g} (h : s.Inv) : (s.onReb g).Inv := { h with }

@[simp] theorem State.onMed_inv {g : MedSt → MedSt} (h : s.Inv) (hg : ∀ x, (g x).health.length = x.health.length ∧ (g x).ctlHist.length = x.ctlHist.length) : (s.onMed g).Inv :=
  { h with health := by have := hg s.med; have := h.health; simp_all [State.onMed], ctlHist := by have := hg s.med; have := h.ctlHist; simp_all [State.onMed] }

@[simp] theorem State.onRd_inv {g} (h : s.Inv) : (s.onRd g).Inv := { h with }

@[simp] theorem State.onSheet_inv {g : SheetSt → SheetSt} (h : s.Inv) (hg : ∀ x, (g x).ports.length = x.ports.length ∧ (g x).modules.length = x.modules.length ∧ (tabWf x.media = true → tabWf (g x).media = true)) : (s.onSheet g).Inv :=
  { h with media := (hg s.sheet).2.2 h.media, ports := by have := hg s.sheet; have := h.ports; simp_all [State.onSheet], modules := by have := hg s.sheet; have := h.modules; simp_all [State.onSheet] }

@[simp] theorem State.onNvme_inv {g} (h : s.Inv) : (s.onNvme g).Inv := { h with }

@[simp] theorem State.onRdma_inv {g : RdmaSt → RdmaSt} (h : s.Inv) (hg : ∀ x, (g x).cells.length = x.cells.length) : (s.onRdma g).Inv :=
  { h with cells := by have := hg s.rdma; have := h.cells; simp_all [State.onRdma] }

@[simp] theorem State.onNet_inv {g : NetSt → NetSt} (h : s.Inv) (hg : ∀ x, (g x).ports.length = x.ports.length ∧ (g x).rulePhase.length = x.rulePhase.length ∧ (g x).offerPtr.length = x.offerPtr.length) : (s.onNet g).Inv :=
  { h with fronts := by have := hg s.net; have := h.fronts; simp_all [State.onNet], phases := by have := hg s.net; have := h.phases; simp_all [State.onNet], offers := by have := hg s.net; have := h.offers; simp_all [State.onNet] }

@[simp] theorem State.onCip_inv {g : CipSt → CipSt} (h : s.Inv) (hg : ∀ x, (g x).drbgs.length = x.drbgs.length) : (s.onCip g).Inv :=
  { h with drbgs := by have := hg s.cip; have := h.drbgs; simp_all [State.onCip] }

@[simp] theorem State.onPair_inv {g : PairSt → PairSt} (h : s.Inv) (hg : ∀ x, (g x).groups.length = x.groups.length ∧ (g x).groupTries.length = x.groupTries.length) : (s.onPair g).Inv :=
  { h with groups := by have := hg s.pair; have := h.groups; simp_all [State.onPair], tries := by have := hg s.pair; have := h.tries; simp_all [State.onPair] }

@[simp] theorem State.onBpd_inv {g : BpdSt → BpdSt} (h : s.Inv) (hg : ∀ x, (g x).chans.length = x.chans.length) : (s.onBpd g).Inv :=
  { h with chans := by have := hg s.bpd; have := h.chans; simp_all [State.onBpd] }

@[simp] theorem State.onMgmt_inv {g : MgmtSt → MgmtSt} (h : s.Inv) (hg : ∀ x, (g x).msix.length = x.msix.length ∧ (g x).mbx.length = x.mbx.length ∧ (g x).evqs.length = x.evqs.length ∧ (g x).sessions.length = x.sessions.length ∧ ((∀ m ∈ x.mbx, bufWf m.buf = true) → ∀ m ∈ (g x).mbx, bufWf m.buf = true)) : (s.onMgmt g).Inv :=
  { h with bufs := (hg s.mgmt).2.2.2.2 h.bufs, msix := by have := hg s.mgmt; have := h.msix; simp_all [State.onMgmt], mbx := by have := hg s.mgmt; have := h.mbx; simp_all [State.onMgmt], evqs := by have := hg s.mgmt; have := h.evqs; simp_all [State.onMgmt], sessions := by have := hg s.mgmt; have := h.sessions; simp_all [State.onMgmt] }

@[simp] theorem State.onFlt_inv {g : FltSt → FltSt} (h : s.Inv) (hg : ∀ x, (g x).counts.length = x.counts.length ∧ ((0 < x.seqNext ∧ x.seqNext < 2 ^ 32) → 0 < (g x).seqNext ∧ (g x).seqNext < 2 ^ 32)) : (s.onFlt g).Inv :=
  { h with seq := (hg s.flt).2 h.seq, counts := by have := hg s.flt; have := h.counts; simp_all [State.onFlt] }

@[simp] theorem State.onPmc_inv {g : PmcSt → PmcSt} (h : s.Inv) (hg : ∀ x, (g x).banks.length = x.banks.length) : (s.onPmc g).Inv :=
  { h with banks := by have := hg s.pmc; have := h.banks; simp_all [State.onPmc] }

@[simp] theorem State.onBoot_inv {g : BootSt → BootSt} (h : s.Inv) (hg : ∀ x, (g x).opKeys.length = x.opKeys.length) : (s.onBoot g).Inv :=
  { h with opKeys := by have := hg s.boot; have := h.opKeys; simp_all [State.onBoot] }

@[simp] theorem State.emit_inv (h : s.Inv) (e : Emit) : (s.emit e).Inv := { h with }

@[simp] theorem State.tick_inv (h : s.Inv) : s.tick.Inv := { h with }

@[simp] theorem State.withPending_inv (h : s.Inv) (q : List Instr) : (s.withPending q).Inv := { h with }

/-- A fold of steps that each keep the sizes keeps them. -/
@[simp] theorem State.foldl_inv {g : State → α → State} (h : s.Inv) (hg : ∀ s a, s.Inv → (g s a).Inv) (l : List α) :
    (l.foldl g s).Inv := by
  induction l generalizing s with
  | nil => exact h
  | cons a t ih => exact ih (hg s a h)

/-- The same of a fold that carries something beside the state. -/
theorem foldl_pair_inv {β : Type} {g : β × State → α → β × State} {a : β × State} (h : a.2.Inv) (hg : ∀ a x, a.2.Inv → (g a x).2.Inv)
    (l : List α) : (l.foldl g a).2.Inv := by
  induction l generalizing a with
  | nil => exact h
  | cons x t ih => exact ih (hg a x h)

/-- A conditional of states with the sizes. -/
theorem State.ite_inv {c : Prop} [Decidable c] {a b : State} (ha : c → a.Inv) (hb : ¬c → b.Inv) : (if c then a else b).Inv := by
  split
  · exact ha ‹_›
  · exact hb ‹_›

end Sys2Proof.Machine
end

