-- ==== Sys2Proof/WellFormed.lean ====
section
/-! DEFINITION. Well-formed commands: every operand lies in the width the spec gives its field. -/

namespace Sys2Proof

/-- `x` fits in `w` bits. -/
def fits (w x : Nat) : Bool := decide (x < 2 ^ w)

/-- Table 18.3: DPTR is 8 bytes and DLEN 4. -/
def MbxHdr.wellFormed (h : MbxHdr) : Bool := fits 64 h.dptr && fits 32 h.dlen

/-- Tables 9.1 and 9.5: the field widths of a Sheet command. -/
def SheetCmd.wellFormed (c : SheetCmd) : Bool :=
  fits 12 c.tag && fits 8 c.die && fits 24 c.page && fits 32 c.arg && fits 32 c.epoch

/-- The widths of an NVMe capsule's fields. -/
def Capsule.wellFormed (c : Capsule) : Bool :=
  fits 8 c.opcode && fits 8 c.fctype && fits 16 c.cid && fits 32 c.nsid && fits 64 c.sglAddr && fits 32 c.sglKey
    && fits 32 c.sglLen && fits 64 c.slba && fits 16 c.nlb && fits 32 c.cdw10 && fits 32 c.cdw11 && fits 32 c.cdw12
    && fits 32 c.cdw13

/-- The length and the parse window of a frame (R302). -/
def RxFrame.wellFormed (f : RxFrame) : Bool := fits 16 f.len && decide (f.head.length ≤ 128)

/-- The widths of a connection request's fields. -/
def CmReq.wellFormed (r : CmReq) : Bool := fits 128 r.addr && fits 16 r.sqEntries && fits 16 r.qid

/-- Table 15.3: the widths of a lease message's fields. -/
def LeaseMsg.wellFormed (m : LeaseMsg) : Bool :=
  fits 8 m.type && fits 8 m.slot && fits 8 m.pstate && fits 16 m.leaseMs && fits 8 m.fn && fits 64 m.term
    && fits 32 m.seq && fits 64 m.rclk

/-- Table 9.3: the widths of an INIT payload's fields. -/
def SheetInit.wellFormed (i : SheetInit) : Bool :=
  fits 8 i.version && fits 8 i.port && fits 8 i.lanes && fits 16 i.crCmd && fits 16 i.crData && fits 16 i.crRsp
    && fits 32 i.epoch && fits 8 i.owner

/-- Table 9.1: the widths of a sheet frame header's fields. -/
def SheetHdr.wellFormed (h : SheetHdr) : Bool :=
  fits 8 h.type && fits 8 h.flags && fits 16 h.seq && fits 16 h.ack && fits 16 h.len && fits 16 h.tag && fits 8 h.index
    && fits 8 h.code && fits 8 h.die

/-- Table 5.8: the widths of a range operation's fields. -/
def RangeOp.wellFormed (o : RangeOp) : Bool := fits 12 o.ns && fits 64 o.lba && fits 64 o.len

/-- Table 20.1: a unit of 12 bits and an event of 8. -/
def Happening.wellFormed (h : Happening) : Bool := fits 12 h.unit && fits 8 h.event && fits 64 h.value && fits 2 h.core

/-- R420: an operator key index of 0 to 7. -/
def OpenMsg.wellFormed (m : OpenMsg) : Bool := fits 3 m.keyIndex

/-- R313: the widths of a fragment key. -/
def FragKey.wellFormed (k : FragKey) : Bool := fits 32 k.ipId && fits 8 k.proto

/-- R463: a board holds slot 1 (A) or 2 (B). -/
def Board.wellFormed (b : Board) : Bool := b.slot == 1 || b.slot == 2

/-- Whether every operand of a command lies in its field's width. -/
def Instr.wellFormed : Instr → Bool
  | .auxPowerOn board => board.wellFormed
  | .mainDiePowerUp => true
  | .chipReset _ => true
  | .startUpStepEnd _ => true
  | .frameBoundary => true
  | .sequencerSlot _ => true
  | .intakeSlot _ => true
  | .admission ord => fits 64 ord
  | .overlapWaitEnd ord => fits 64 ord
  | .switchMatch _ => true
  | .frontFrameRx _ _ f => f.wellFormed
  | .classify _ pseq => fits 16 pseq
  | .reorderRelease _ => true
  | .fragmentEntryExpiry key => key.wellFormed
  | .fragmentParkTimeout _ pseq => fits 16 pseq
  | .controlPortFrame _ _ => true
  | .ruleUpdatePortStep _ => true
  | .pfcFrameRx _ _ _ quanta => fits 16 quanta
  | .pfcPauseExpiry _ _ _ => true
  | .pfcXoffRepeat _ _ _ => true
  | .frontLinkChange _ _ => true
  | .cmRequest req => req.wellFormed
  | .cmReadyToUse _ => true
  | .cmRejectRx _ => true
  | .cmDisconnect _ => true
  | .connectingTimeout _ => true
  | .timewaitExpiry _ => true
  | .qpFlushComplete _ => true
  | .rdmaSendRx _ c => c.wellFormed
  | .rdmaAckRx _ msn code => fits 24 msn && fits 5 code
  | .rdmaNakRx _ _ => true
  | .rdmaReadResponseRx _ bytes _ => fits 13 bytes && decide (bytes ≤ 4096)
  | .rdmaOpcodeRefused _ opcode => fits 8 opcode
  | .cnpRx _ => true
  | .capsuleToIntake _ _ => true
  | .rdmaReadIssue _ => true
  | .readDataToHost ord => fits 64 ord
  | .rdmaRequestGapTimer _ => true
  | .rdmaResponseGapTimer _ => true
  | .rdmaAckTimeout _ => true
  | .rdmaAckCoalesceTimer _ => true
  | .rdmaRnrRetryTimer _ => true
  | .rateIncreaseTimer _ => true
  | .txCirWindow _ sent _ => fits 64 sent
  | .read ord => fits 64 ord
  | .write ord => fits 64 ord
  | .flush ord => fits 64 ord
  | .writeZeroes ord => fits 64 ord
  | .compare ord => fits 64 ord
  | .datasetManagement ord => fits 64 ord
  | .identify _ => true
  | .getLogPage _ => true
  | .setFeatures _ => true
  | .getFeatures _ => true
  | .asynchronousEventRequest _ => true
  | .keepAlive _ => true
  | .abort _ => true
  | .connect _ => true
  | .propertyGet _ => true
  | .propertySet _ => true
  | .ccEnClearComplete _ => true
  | .disconnect _ => true
  | .ledgerBind ord => fits 64 ord
  | .nvmeUnsupportedOpcode _ => true
  | .keepAliveTimeout _ => true
  | .queueReservation handle tenant entries => fits 64 handle && fits 16 tenant && fits 32 entries
  | .forwardCommand _ => true
  | .forwardCompletionRx handle _ => fits 64 handle
  | .forwardRecall handle => fits 64 handle
  | .writePlace ord unit => fits 64 ord && fits 8 unit
  | .mirrorConfirm ord => fits 64 ord
  | .mirrorTimeout ord => fits 64 ord
  | .mirrorDataRx _ _ => true
  | .logShipRecordRx _ => true
  | .stripeDeadline _ => true
  | .journalPageTimer => true
  | .sheetResponse _ tag code _ => fits 12 tag && fits 8 code
  | .mapUpdateApply stripe wseq => fits 64 stripe && fits 64 wseq
  | .mapFetchComplete mpn => fits 32 mpn
  | .ldpcDecodeDone job _ => fits 64 job
  | .probeIssue => true
  | .tcFillComplete la => fits 39 la
  | .tcWritebackTimer => true
  | .tcLockWaysWrite _ => true
  | .tcLockChangeDone => true
  | .tcWayPwrWrite _ => true
  | .tcGroupPowerDownDone _ => true
  | .tcGroupPowerUpDone _ => true
  | .tcInvalidate op => op.wellFormed
  | .tcClean op => op.wellFormed
  | .tcCleanInvalidate op => op.wellFormed
  | .tcPreload op => op.wellFormed
  | .tcPreloadLock op => op.wellFormed
  | .tcRangeDone => true
  | .reclaimVictimSelect => true
  | .relocation _ => true
  | .reclaimErase unit => fits 20 unit
  | .checkpointStart => true
  | .strikeTrigger => true
  | .repairBatchAdvance => true
  | .rebuildStep => true
  | .rebuildRetryTimer => true
  | .journalCopyPlaced _ => true
  | .sweepStep => true
  | .patrolIssue => true
  | .rewriteIssue => true
  | .ageClockTick _ _ => true
  | .blockRecordScan => true
  | .wearCheck => true
  | .junctionSample => true
  | .trainingAttempt _ => true
  | .lanesAligned _ _ _ => true
  | .trainingTimeout _ => true
  | .sheetInitSendTimer _ => true
  | .sheetInitRx _ i => i.wellFormed
  | .sheetFrameRx _ h => h.wellFormed
  | .sheetDataRx _ tag _ _ => fits 12 tag
  | .sheetAckRx _ ack => fits 16 ack
  | .sheetNakRx _ ack => fits 16 ack
  | .sheetCreditRx _ cmd data => fits 16 cmd && fits 16 data
  | .sheetAckTimer _ => true
  | .sheetReplayTimer _ => true
  | .sheetRead _ c _ => c.wellFormed
  | .sheetProgram _ c frames _ => c.wellFormed && frames.length == 16
  | .sheetErase _ c _ => c.wellFormed
  | .sheetStatus _ c => c.wellFormed
  | .getParam _ c => c.wellFormed
  | .setParam _ c => c.wellFormed
  | .descRead _ c => c.wellFormed
  | .temp _ c => c.wellFormed
  | .dieReset _ c => c.wellFormed
  | .powerState _ c => c.wellFormed
  | .fence _ c => c.wellFormed
  | .sheetOpTimeout _ tag => fits 12 tag
  | .fenceTimeout _ => true
  | .tagRequeryTimer _ tag => fits 12 tag
  | .sheetStatusPoll => true
  | .laneErrPoll => true
  | .unreachableTimeout _ => true
  | .presenceChange _ _ => true
  | .feedWindowChange _ _ decivolts => fits 16 decivolts
  | .feedLost _ => true
  | .feedGood _ => true
  | .pathConfirmedOff => true
  | .pathConfirmTimeout => true
  | .feedReturnTimer => true
  | .downRestartTimer => true
  | .holdupPeerTimer => true
  | .busBelowHoldMin => true
  | .holdupTestStart _ => true
  | .holdupTestEnd milliamps v0Mv droopMv micros => fits 32 milliamps && fits 16 v0Mv && fits 16 droopMv && fits 16 micros
  | .insertionDelayExpiry _ => true
  | .channelPowerGood _ => true
  | .fastTrip _ => true
  | .soaTimeout _ => true
  | .rampTimeout _ => true
  | .pgLost _ => true
  | .cooldownExpiry _ => true
  | .fetFaultTimer _ => true
  | .railPowerGood _ => true
  | .railPgTimeout => true
  | .railRetryTimer => true
  | .railPgLost _ => true
  | .refclkSysLoss => true
  | .junctionSensorRead values => values.length == 16
  | .thermalLevelChange => true
  | .renewTimer => true
  | .renewRx _ m => m.wellFormed
  | .grantRx _ m => m.wellFormed
  | .releaseRx _ m => m.wellFormed
  | .helloRx _ m => m.wellFormed
  | .leaseHolderStop => true
  | .leaseTakeTimer => true
  | .coldTakeTimer => true
  | .takeoverStep => true
  | .lapsedProbe => true
  | .shroudLossTimer _ => true
  | .peerLinkGroupLoss _ => true
  | .resyncComplete => true
  | .shelfKeyTransfer _ _ => true
  | .periodicSwapTimer => true
  | .reachSwapTimer => true
  | .drainComplete => true
  | .swapRelease => true
  | .drbgReseed _ _ => true
  | .drbgStallTimer => true
  | .retentionExpiry _ => true
  | .sealDigestDone _ _ _ => true
  | .faultRaise _ => true
  | .faultConcentratorTake unit => fits 14 unit
  | .fStopResetTimer => true
  | .faultHandlingEnd unit _ => fits 14 unit
  | .bpdWordsDelivered => true
  | .cwnAckWrite seq => fits 32 seq
  | .evqHeadWrite _ _ => true
  | .evqTimeThreshold _ => true
  | .msixVectorUnmask _ => true
  | .counterHappening h => h.wellFormed
  | .pmcSmpHeadWrite _ _ => true
  | .registerWrite _ offset wide _ => fits 25 offset && decide (offset % (if wide then 8 else 4) = 0)
  | .pcieCompletionRx _ _ => true
  | .pcieCompletionTimeout _ => true
  | .tagQuarantineExpiry _ => true
  | .busMasterEnableClear => true
  | .busMasterEnableSet => true
  | .functionLevelReset => true
  | .sessionOpen m => m.wellFormed
  | .sessionClose _ seq _ => fits 64 seq
  | .sessionTimeout _ => true
  | .peerMailboxEffect _ _ => true
  | .mailboxCompletion _ => true
  | .mailboxInvalidOpcode h opcode => h.wellFormed && fits 16 opcode
  | .fnStart h => h.wellFormed
  | .fnStop h => h.wellFormed
  | .fnArm h format => h.wellFormed && fits 8 format
  | .fnStatus h => h.wellFormed
  | .fnChipreset h => h.wellFormed
  | .fnCplto h timeout => h.wellFormed && fits 16 timeout
  | .rigLoad h _ => h.wellFormed
  | .rigVerify h _ => h.wellFormed
  | .rigInfo h => h.wellFormed
  | .rigEnroll h _ _ => h.wellFormed
  | .rigRules h _ => h.wellFormed
  | .modList h => h.wellFormed
  | .modDesc h bay page => h.wellFormed && fits 8 bay && fits 16 page
  | .modStatus h bay => h.wellFormed && fits 8 bay
  | .modRetire h bay => h.wellFormed && fits 8 bay
  | .modClear h bay => h.wellFormed && fits 8 bay
  | .nsList h => h.wellFormed
  | .nsRead h ns lba count => h.wellFormed && fits 16 ns && fits 64 lba && fits 16 count
  | .nsWrite h ns lba count data poisoned => h.wellFormed && fits 16 ns && fits 64 lba && fits 16 count && decide (data.length = count) && poisoned.all (fun i => decide (i < count))
  | .nsDealloc h ns lba count => h.wellFormed && fits 16 ns && fits 64 lba && fits 64 count
  | .nsCache h op unlock ns lba len => h.wellFormed && fits 8 op && fits 8 unlock && fits 16 ns && fits 64 lba && fits 64 len
  | .keyGenerate h tenant slot mode => h.wellFormed && fits 16 tenant && fits 8 slot && fits 8 mode
  | .keyImport h tenant slot mode _ => h.wellFormed && fits 16 tenant && fits 8 slot && fits 8 mode
  | .keyDestroy h tenant slot => h.wellFormed && fits 16 tenant && fits 8 slot
  | .keyStatus h tenant slot => h.wellFormed && fits 16 tenant && fits 8 slot
  | .keyEscrow h _ => h.wellFormed
  | .keyRestore h _ => h.wellFormed
  | .keyMgmtenroll h index _ => h.wellFormed && fits 8 index
  | .hlthModule h bay => h.wellFormed && fits 8 bay
  | .hlthPage h => h.wellFormed
  | .hlthCaps h hostCap bgCap => h.wellFormed && fits 8 hostCap && fits 8 bgCap
  | .hlthThresh h rewrite thresholds => h.wellFormed && fits 8 rewrite && thresholds.length == 8 && thresholds.all (fits 32 ·)
  | .hlthPatrol h days => h.wellFormed && fits 8 days
  | .evtQcreate h q log2n vector countTh timeTh _ => h.wellFormed && fits 8 q && fits 8 log2n && fits 8 vector && fits 16 countTh && fits 16 timeTh
  | .evtQdelete h q => h.wellFormed && fits 8 q
  | .evtQmod h q countTh timeTh => h.wellFormed && fits 8 q && fits 16 countTh && fits 16 timeTh
  | .evtRoute h first last q enable => h.wellFormed && fits 16 first && fits 16 last && fits 8 q && fits 8 enable
  | .cwnHistory h => h.wellFormed
  | .cwnAck h seq => h.wellFormed && fits 32 seq
  | .pmcProgram h bank first selectors => h.wellFormed && fits 8 bank && fits 16 first && decide (selectors.length ≤ 512)
  | .pmcUsermap h bank allow => h.wellFormed && fits 8 bank && fits 8 allow
  | .pmcSample h bank counter enable => h.wellFormed && fits 8 bank && fits 16 counter && fits 8 enable
  | .bayEnable h bay => h.wellFormed && fits 8 bay
  | .bayDisable h bay => h.wellFormed && fits 8 bay
  | .bayConfig h bay gate ft3 insDelay ilim soa rampTo => h.wellFormed && fits 8 bay && fits 8 gate && fits 8 ft3 && fits 8 insDelay && fits 8 ilim && fits 8 soa && fits 8 rampTo
  | .bayToggle h bay => h.wellFormed && fits 8 bay
  | .pwrHoldtest h => h.wellFormed
  | .pwrStatus h => h.wellFormed
  | .pairStatus h => h.wellFormed
  | .pairSwap h => h.wellFormed
  | .pairInterval h hours => h.wellFormed && fits 16 hours
  | .fwDownload h slot _ => h.wellFormed && fits 8 slot
  | .fwActivate h slot restart => h.wellFormed && fits 8 slot && fits 8 restart
  | .fwInfo h => h.wellFormed
  | .sealRange h ns lba count => h.wellFormed && fits 16 ns && fits 64 lba && fits 64 count
  | .sealCert h => h.wellFormed
  | .retAdvance h delta advSeq => h.wellFormed && fits 64 delta && fits 64 advSeq
  | .retClock h => h.wellFormed
  | .diagEcho h bytes => h.wellFormed && decide (bytes.length ≤ 3952)
  | .diagSelftest h _ _ => h.wellFormed
  | .sheetLaneLockLoss _ _ => true
  | .busStartWindowChange _ _ => true
  | .holdupTestAgeExpiry => true
  | .presenceAbsent100ms _ => true
  | .auxiliaryPowerRemoved => true
  | .refclkSysRestored => true
  | .peerLinkRestored _ => true
  | .drbgReseedOverdue _ => true
  | .commandDatagramRx _ seq _ => fits 64 seq
  | .d3hotTransition _ => true

end Sys2Proof
end

