-- ==== Sys2Proof/Tests/Slice0.lean ====
section
/-! SUPPORT. Our own tests: ill-formed commands are refused, and each statement's hypotheses are met by a concrete state. -/

namespace Sys2Proof.Tests

open Sys2Proof Sys2Proof.Machine

/-! ### Small states for the witnesses -/

/-- Reset with the channel of bay `b` in a state, enabled, present, its bus in window and feed A selected. -/
def wBay (b : Nat) (st : ChanState) : State :=
  (State.reset.onBpd fun x => { x with sel := .onA, busIn := true }).onChan b fun c => { c with st := st, enabled := true, pres := true }

/-- Reset with the selector in a state and both feeds in window and good or not. -/
def wSel (x : Selector) (good : Bool) : State :=
  State.reset.onBpd fun b =>
    { b with sel := x, refclk := true, feedA := { b.feedA with inWindow := good, good := good }, feedB := { b.feedB with inWindow := good, good := good } }

/-- Reset with the main die awake, 100 s of time passed and its thermal record changed. -/
def wHot (g : BootSt → BootSt) : State :=
  ((State.reset.onBpd fun b => { b with mainReset := false }).onClk fun c => { c with base := secs 100 }).onBoot g

/-- A lane of tenant 0 with a budget, and a rig image of empty sections but for two lanes, one slot table and one namespace. -/
def lane0 (b : Nat) : LaneEntry := ⟨0, 0, b, 0, 0, 0, 0, 0, 0⟩
def img0 : RigImage :=
  { magic := 0, fmtMajor := 1, fmtMinor := 0, hdrSize := 256, secCount := 0, signed := false, format := false, flagsReserved := 0
    imgLen := 0, fetched := 0, zenuxVer := 0, fwIf := 0, stepping := 0, secEntSize := 80, secTblOff := 256, rigGen := 1, shelfId := 7
    sigOff := 0, sigLen := 0, reserved := 0, hdrDigestOk := true, secTblDigestOk := true, sections := [], sig := none
    decl := ⟨1, 0, 0, 1, 0, 0, [], 0, 0, 0, 40, 2, 4, 0, 0, 0, 0, 0, []⟩
    slotTables := [⟨0, 0, [⟨0, 9, 0, 1, 0, 0⟩]⟩], lanes := [(0, lane0 5), (1, lane0 0)], spill := []
    placement := ⟨1, 8, 1, 10, 0, 0, 0x3FF, [0, 4, 0xFF], [0, 4, 8], [], 8, 8, 8, 0, []⟩
    ns := ⟨1, 0, 0, 0, [(1, ⟨true, false, false, 0, 0, 0, 8192, 0, 1, 0, 0, 7, 0⟩)]⟩
    tenants := ⟨1, 1, 0, [(0, ⟨true, 4, 0, 16, 0, 0⟩)], [⟨5, 0, 0⟩]⟩, cls := ⟨1, 0, 0, 0, 0, 0, [], [], [], []⟩
    qos := ⟨1, 0, 0, 0, 0, [], [], []⟩, ports := ⟨1, 0, 0, [], [], []⟩, credits := []
    streams := ⟨0, 0, List.replicate 64 ⟨0, 200, 0⟩⟩, settings := ⟨1, 0, 0, []⟩, routes := none, pmc := none }

/-- Reset with the main die awake, the function RUNNING on the image above and the pair ACTIVE. -/
def wRun : State :=
  (((State.reset.onBpd fun b => { b with mainReset := false, mainOn := true }).onFn fun f =>
    { f with st := .running, committed := some img0, lanesOpen := true }).onPair fun p => { p with st := .active })

/-- A capsule with every field in range. -/
def cap0 : Capsule := ⟨0, 0, 0, 0, false, 0, 0, 0, 0, 0, false, 0, 0, 0, 0, [], false, none⟩

/-- A command of one sector at LBA 0 of namespace 1 on lane 0, taken and not yet admitted, and the state that holds it under order 1. -/
def cmdOf (k : CmdKind) : Cmd :=
  { src := .mbx 0, kind := k, ns := 1, lba := 0, len := 1, cap := cap0, lane := some 0, phase := .taken, seq := false, chain := none
    lcount := 0, retClock := 0, stream := 0, fetched := [], fetchNext := 0, units := [], results := [], placedAt := 0, mirrored := false
    mirrorLost := false, acked := false, status := none, orphan := false, marked := [], key := none, readCap := 8 }
def wCmd (k : CmdKind) : State := wRun.onSched fun x => { x with cmds := [(1, cmdOf k)], nextOrder := 2 }

/-- Running, 100 s of time passed, with one queue pair. -/
def wQp (q : Nat) (x : Qp) : State :=
  ((wRun.onClk fun c => { c with base := secs 100 }).onBoot fun b => { b with board := { b.board with slot := 1 } }).onRdma fun r => { r with qps := [(q, x)] }

/-- A forwarded command of tenant 0, admitted and in sequence, and the running state that holds it, with the two write lanes it needs. -/
def cmdIn (k : CmdKind) : Cmd := { cmdOf k with src := .peer 3 0 none, phase := .admitted, seq := true, cap := { cap0 with sglKeyed := true } }
def wRef (c : Cmd) : State :=
  (wRun.onFn fun f => { f with committed := some { img0 with lanes := [(0, lane0 5), (1, { lane0 5 with lclass := 1 })] } }).onSched fun x =>
    { x with cmds := [(1, c)], nextOrder := 2 }

/-- A controller, and a running state whose admin queue pair 16383 has a capsule at its head. -/
def ctl0 : NvmeCtl := ⟨0, false, 16383, true, true, 1000, 0, [], 0, 0, 0, false, 0, []⟩
def wAdm (c : Capsule) : State :=
  (wQp 16383 { Qp.reset with st := .ready, pmtu := 4096, ctl := some 0, admin := true, tenant := some 0, inq := [c] }).onNvme fun n => { n with ctls := [(0, ctl0)] }

/-- The running state with a Ledger namespace 1 and one command. -/
def wLedger (c : Cmd) : State :=
  (wRun.onFn fun f => { f with committed := some { img0 with ns := ⟨1, 0, 0, 0, [(1, ⟨true, false, false, 1, 0, 0, 8192, 0, 1, 0, 0, 7, 0⟩)]⟩ } }).onSched fun x =>
    { x with cmds := [(1, c)], nextOrder := 2 }

/-- A write of some units whose stream 0 has an open stripe without sectors, and the running state that holds it. -/
def cmdUnits (l : List UnitPhase) : Cmd :=
  { cmdOf .write with phase := .running, seq := true, units := l, len := 385 }
def wUnits (l : List UnitPhase) : State :=
  (wRun.onSched fun x => { x with cmds := [(1, cmdUnits l)], nextOrder := 2 }).onLog fun g =>
    { g with streams := modNth g.streams 0 fun x => { x with stripe := some ⟨[], 0, []⟩ } }

/-- Map page 0 in the pool with every entry unmapped, and a state that has it. -/
def page0 : PoolSlot := ⟨0, 0, 0, 0, 0, 0, []⟩
def wPage (s : State) : State := s.onMap fun m => { m with gmd := [(0, ⟨true, false, false, false, 0, 0⟩)], pool := [(0, page0)] }

/-- A committed stripe of one sector of order number 0. -/
def stripe0 : Stripe := ⟨0, [⟨0, none, false⟩], [⟨0, 0, 0, 0, .programmed⟩], false, false, 0, .committed, 0⟩

/-- Running on an image of one bay, one data role and one block of one unit; with unit 0 in a state; and with stream 63 on unit 0, its stripe
open with one sector. -/
def img1 : RigImage :=
  { img0 with
    decl := { img0.decl with types := [⟨16, 0, 1, 4, 0, 0, 0, 0, 0, 0, 0, 0, 0⟩] }
    placement := { img0.placement with data := 1, parity := 0, bayMask := 1, sysblk := 0, table := [⟨[0], 0xFF, 0xFF, 0⟩] } }
def wUnit (x : UnitState) : State :=
  ((wPage wRun).onFn fun f => { f with committed := some img1 }).onLog fun l =>
    { l with
      units := [(0, { UnitRec.blank with st := x, stream := 63, nextPos := [(0, 0)] })]
      root := some ⟨0, 0, 0, none, 0, [], false⟩
      streams := modNth l.streams 63 fun y => { y with openUnit := some 0, stripe := some ⟨[⟨0, none, false⟩], 0, []⟩ } }
def wStripe : State :=
  ((wUnit UnitState.opened).onClk fun c => { c with base := secs 1 }).onSheet fun x =>
    { x with ports := modNth x.ports 0 fun p => { p with st := .up, modSt := .inService } }

/-- A codeword of the first page of the key range, and the state above with it programmed in unit 0, the page's current copy elsewhere. -/
def wShredPage : Payload := BitVec.ofNat 33280 (2 ^ (32768 + 64) * (wStripe.keyBase + 2 * 2 ^ 60))
def wShred : State := wStripe.onSheet fun x => { x with media := [(5, wShredPage)] }

/-- A Sheet command with every field in range. -/
def cmd0 : SheetCmd := ⟨false, 0, 0, 0, false, 0, 0, 0, false, [], 0, false⟩

/-- A module of 16 dies of 16 blocks of 16 pages, owned by port A at epoch 0, and a state with it in a powered bay. -/
def desc0 : ModuleDesc :=
  ⟨true, 1, 17, 0, 0, 0, 0, 16, 4, 3, 7, 16, 16, 100, 50, 655, 150, 8000, 40, 3000, 30000, 100000, 8760, 1, 6, 70, [], [], 4, []⟩
def mod0 : Module := ⟨desc0, 0, 1, 0, false, false, 0, 1, 0, 0, [], [], 0, 0⟩
def wMod (b : Nat) (m : Module) : State :=
  (wBay b .on).onSheet fun x => { x with modules := putNth x.modules b (some m) }

/-- Running in slot 1, 100 s of time passed, with the port of bay `b` changed; an operation, a read job and a block record. -/
def wPort (b : Nat) (g : Port → Port) : State :=
  ((wRun.onClk fun c => { c with base := secs 100 }).onBoot fun x => { x with board := { x.board with slot := 1 } }).onSheet fun x =>
    { x with ports := modNth x.ports b g }
def op0 (code : Nat) : SheetOp := ⟨code, 0, 0, false, 0, 0, false, 0, .other, false, false, 0, 0, [], [], secs 100⟩
def job0 (l : Loc) : CwRead := ⟨l, .probe, true, 0, 0, [], .reading, none⟩
def blk0 : BlockRec := ⟨0, 0, 0, false, false, .programmed, 0, 0⟩

/-- A probe that waits with a unit left in the patrol lane; and two closed units of different wear. -/
def wProbe : State :=
  ((((wPort 0 fun p => { p with st := .up, modSt := .inService }).onFn fun f =>
    { f with committed := some { img0 with lanes := [(5, { lane0 5 with tenant := 0x7FF, lclass := 7 })] } }).onSched fun x => { x with left := [(5, 1)] }).onMed
    fun m => { m with probes := [⟨0, 1, 2, [], false⟩] })
def wWear : State :=
  (((wStripe.onSheet fun x => { x with ports := modNth x.ports 0 fun p => { p with desc := some { desc0 with peRated := 1 } } }).onLog fun l =>
    { l with units := [(0, { UnitRec.blank with st := .closed }), (1, { UnitRec.blank with st := .closed })] }).onMed fun m =>
    { m with unitHealth := [(0, ⟨1, 0, 0⟩)] })

/-- Running on an image of three bays, one data role and one parity role; unit 0's one stripe has its data role, with valid data, on the lost
bay 1, its parity role on bay 0, and its repairs a target on bay 2; units of work are left in the lanes of rebuild and patrol. -/
def img2 : RigImage :=
  { img1 with
    ns := { img0.ns with dirBase := 11 }
    lanes := [(5, { lane0 5 with tenant := 0x7FF, lclass := 6 }), (6, { lane0 5 with tenant := 0x7FF, lclass := 7 })]
    placement := { img1.placement with parity := 1, bayMask := 7, root := [0], jalt := [2] } }
def dir0 : UnitDir :=
  ⟨0, 63, 0, 1, [⟨0, 4, 0, 1, 0, (mkLoc 1 0 0 0 0).toNat⟩, ⟨0, 4, 1, 0, 0, (mkLoc 0 0 0 0 0).toNat⟩]⟩
def rep0 : Repair := ⟨0, 0, 0, 1, 0, [], 2, 0, true, true⟩
def wReb (g : RebSt → RebSt) : State :=
  ((((((wUnit .closed).onFn fun f => { f with committed := some img2 }).onLog fun l =>
    { l with units := [(0, { UnitRec.blank with st := .closed, valid := 1 })], validBay := [(1, 1)] }).onSheet fun x =>
    { x with ports := x.ports.map fun p => { p with st := .up, modSt := .inService } }).onSched fun x => { x with left := [(5, 5), (6, 5)] }).onReb fun r =>
    { r with dirs := [(0, dir0)], loss := [.bay 1] }).onReb g

/-- The state with every page of the system range as it was last written. -/
def wSys (s : State) : State := s.onMap fun m => { m with sysSent := s.sysImage }

/-- Running, 100 s of time passed, with the pair's state changed. -/
def wPair (g : PairSt → PairSt) : State := (wPort 0 id).onPair g

/-! ### Ill-formed commands: one term for each check of WellFormed.lean, which refuses it -/

/-- A mailbox header with every field in range. -/
def hdr0 : MbxHdr := ⟨0, false, none, true, none, 0, 0, .ok⟩

/-- A frame with every field in range. -/
def frame0 : Frame :=
  ⟨64, true, false, 0, 0, 0x800, 0, 0, 0, 0, 0, false, false, false, 0, 0, 0, 0, 0, 0, 0, 0, 0, 0, 0, 0, 0, ⟨false, false, false, false⟩⟩

/-- A received frame of 64 zero bytes with a good FCS. -/
def rx0 : RxFrame := ⟨64, true, List.replicate 64 0⟩

/-- A connection request, a lease message, an INIT payload and a frame header with every field in range. -/
def req0 : CmReq := ⟨0, 0, 0, true, 1024, 0, 0, 0, 0, 0, 0, 0⟩
def lease0 : LeaseMsg := ⟨1, 1, 0, false, false, 0, 0, 0, 0, 0, 0, 0, 0, true⟩
def init0 : SheetInit := ⟨1, 0, 0, 0, 0, 0, 0, 0, 0, false⟩
def shdr0 : SheetHdr := ⟨0, 0, 0, 0, 0, 0, 0, 0, 0, 0, 0, 0, 0, true⟩

/-- Awake with mailboxes answering and the management endpoint changed. -/
def wMgmt (g : MgmtSt → MgmtSt) : State := (wHot fun b => { b with step := 6 }).onMgmt g

/-- A well-formed image for this chip with one empty section, no least number of bays and no least DRAM. -/
def img3 : RigImage :=
  { img0 with magic := 0x47495247, stepping := 0xB0, secCount := 1, imgLen := 4096, fetched := 4096, sections := [⟨3, 1, 0, 0, 4096, 0, true⟩]
              decl := { img0.decl with minBays := 0, dramMin := 0, reserved := 0 } }

/-- Start-up over and the function changed: with a GO in mailbox 0, and with the data that the command in mailbox 0 asked for. -/
def wGo (g : Fn → Fn) : State := ((wHot fun b => { b with step := 14 }).onFn g).onMbx 0 fun b => { b with st := .busy }
def wGot (op : Nat) (g : Fn → Fn) : State := (wGo g).onMbx 0 fun b => { b with wait := .running op, fetching := true }

/-- The header of mailbox 0 with room for the namespace table. -/
def hdr4k : MbxHdr := { hdr0 with dptr := 4096, dlen := 262160 }

/-- A valid firmware image. -/
def fw0 : FwImage := ⟨true, 1, 0, 64, false, 1, 2 ^ 24 - 512, 0xB0, true, 0, true, 0⟩

/-- The commands of a list that well-formedness accepts. -/
def accepted (l : List Instr) : List Instr := l.filter Instr.wellFormed

/-- Table 18.3. -/
theorem test_illFormed_mbxHdr : accepted [
      .fnStatus { hdr0 with dptr := 2 ^ 64 },
      .fnStatus { hdr0 with dlen := 2 ^ 32 }] = [] := by decide

/-- Tables 9.1 and 9.5. -/
theorem test_illFormed_sheetCmd : accepted [
      .sheetStatus 0 { cmd0 with tag := 2 ^ 12 },
      .sheetStatus 0 { cmd0 with die := 2 ^ 8 },
      .sheetStatus 0 { cmd0 with page := 2 ^ 24 },
      .sheetStatus 0 { cmd0 with arg := 2 ^ 32 },
      .sheetStatus 0 { cmd0 with epoch := 2 ^ 32 }] = [] := by decide

/-- Chapter 10. -/
theorem test_illFormed_capsule : accepted [
      .rdmaSendRx ⟨0, 0, true, true, true, false, false⟩ { cap0 with opcode := 2 ^ 8 },
      .rdmaSendRx ⟨0, 0, true, true, true, false, false⟩ { cap0 with fctype := 2 ^ 8 },
      .rdmaSendRx ⟨0, 0, true, true, true, false, false⟩ { cap0 with cid := 2 ^ 16 },
      .rdmaSendRx ⟨0, 0, true, true, true, false, false⟩ { cap0 with nsid := 2 ^ 32 },
      .rdmaSendRx ⟨0, 0, true, true, true, false, false⟩ { cap0 with sglAddr := 2 ^ 64 },
      .rdmaSendRx ⟨0, 0, true, true, true, false, false⟩ { cap0 with sglKey := 2 ^ 32 },
      .rdmaSendRx ⟨0, 0, true, true, true, false, false⟩ { cap0 with sglLen := 2 ^ 32 },
      .rdmaSendRx ⟨0, 0, true, true, true, false, false⟩ { cap0 with slba := 2 ^ 64 },
      .rdmaSendRx ⟨0, 0, true, true, true, false, false⟩ { cap0 with nlb := 2 ^ 16 },
      .rdmaSendRx ⟨0, 0, true, true, true, false, false⟩ { cap0 with cdw10 := 2 ^ 32 },
      .rdmaSendRx ⟨0, 0, true, true, true, false, false⟩ { cap0 with cdw11 := 2 ^ 32 },
      .rdmaSendRx ⟨0, 0, true, true, true, false, false⟩ { cap0 with cdw12 := 2 ^ 32 },
      .rdmaSendRx ⟨0, 0, true, true, true, false, false⟩ { cap0 with cdw13 := 2 ^ 32 }] = [] := by decide

/-- R302: the parser sees at most the first 128 bytes of a frame. -/
theorem test_illFormed_frame : accepted [
      .frontFrameRx 0 0 { rx0 with len := 2 ^ 16 },
      .frontFrameRx 0 0 { rx0 with head := List.replicate 129 0 }] = [] := by decide +kernel

/-- Chapter 11. -/
theorem test_illFormed_cmReq : accepted [
      .cmRequest { req0 with addr := 2 ^ 128 },
      .cmRequest { req0 with sqEntries := 2 ^ 16 },
      .cmRequest { req0 with qid := 2 ^ 16 }] = [] := by decide

/-- Table 15.3. -/
theorem test_illFormed_leaseMsg : accepted [
      .renewRx .a { lease0 with type := 2 ^ 8 },
      .renewRx .a { lease0 with slot := 2 ^ 8 },
      .renewRx .a { lease0 with pstate := 2 ^ 8 },
      .renewRx .a { lease0 with leaseMs := 2 ^ 16 },
      .renewRx .a { lease0 with fn := 2 ^ 8 },
      .renewRx .a { lease0 with term := 2 ^ 64 },
      .renewRx .a { lease0 with seq := 2 ^ 32 },
      .renewRx .a { lease0 with rclk := 2 ^ 64 }] = [] := by decide

/-- Table 9.3. -/
theorem test_illFormed_sheetInit : accepted [
      .sheetInitRx 0 { init0 with version := 2 ^ 8 },
      .sheetInitRx 0 { init0 with port := 2 ^ 8 },
      .sheetInitRx 0 { init0 with lanes := 2 ^ 8 },
      .sheetInitRx 0 { init0 with crCmd := 2 ^ 16 },
      .sheetInitRx 0 { init0 with crData := 2 ^ 16 },
      .sheetInitRx 0 { init0 with crRsp := 2 ^ 16 },
      .sheetInitRx 0 { init0 with epoch := 2 ^ 32 },
      .sheetInitRx 0 { init0 with owner := 2 ^ 8 }] = [] := by decide

/-- Table 9.1. -/
theorem test_illFormed_sheetHdr : accepted [
      .sheetFrameRx 0 { shdr0 with type := 2 ^ 8 },
      .sheetFrameRx 0 { shdr0 with flags := 2 ^ 8 },
      .sheetFrameRx 0 { shdr0 with seq := 2 ^ 16 },
      .sheetFrameRx 0 { shdr0 with ack := 2 ^ 16 },
      .sheetFrameRx 0 { shdr0 with len := 2 ^ 16 },
      .sheetFrameRx 0 { shdr0 with tag := 2 ^ 16 },
      .sheetFrameRx 0 { shdr0 with index := 2 ^ 8 },
      .sheetFrameRx 0 { shdr0 with code := 2 ^ 8 },
      .sheetFrameRx 0 { shdr0 with die := 2 ^ 8 }] = [] := by decide

/-- Table 5.8. -/
theorem test_illFormed_rangeOp : accepted [
      .tcClean { (⟨false, false, 0, 0, 0⟩ : RangeOp) with ns := 2 ^ 12 },
      .tcClean { (⟨false, false, 0, 0, 0⟩ : RangeOp) with lba := 2 ^ 64 },
      .tcClean { (⟨false, false, 0, 0, 0⟩ : RangeOp) with len := 2 ^ 64 }] = [] := by decide

/-- Table 20.1. -/
theorem test_illFormed_happening : accepted [
      .counterHappening { (⟨0, 0, 0, none, 0, 0⟩ : Happening) with unit := 2 ^ 12 },
      .counterHappening { (⟨0, 0, 0, none, 0, 0⟩ : Happening) with event := 2 ^ 8 },
      .counterHappening { (⟨0, 0, 0, none, 0, 0⟩ : Happening) with value := 2 ^ 64 },
      .counterHappening { (⟨0, 0, 0, none, 0, 0⟩ : Happening) with core := 2 ^ 2 }] = [] := by decide

/-- R420. -/
theorem test_illFormed_session : accepted [
      .sessionOpen ⟨8, true⟩,
      .sessionClose 0 (2 ^ 64) true,
      .commandDatagramRx 0 (2 ^ 64) true] = [] := by decide

/-- R313. -/
theorem test_illFormed_fragKey : accepted [
      .fragmentEntryExpiry ⟨0, 0, 2 ^ 32, 0⟩,
      .fragmentEntryExpiry ⟨0, 0, 0, 256⟩] = [] := by decide

/-- R463. -/
theorem test_illFormed_board : accepted [
      .auxPowerOn ⟨0, 0, false, 0, [], 0⟩,
      .auxPowerOn ⟨3, 0, false, 0, [], 0⟩] = [] := by decide

/-- Order numbers, sequence numbers, tags and counts. -/
theorem test_illFormed_numbers : accepted [
      .admission (2 ^ 64),
      .overlapWaitEnd (2 ^ 64),
      .classify 0 (2 ^ 16),
      .fragmentParkTimeout 0 (2 ^ 16),
      .pfcFrameRx 0 0 0 (2 ^ 16),
      .rdmaAckRx ⟨0, 0, true, true, true, false, false⟩ (2 ^ 24) 0,
      .rdmaAckRx ⟨0, 0, true, true, true, false, false⟩ 0 32,
      .rdmaReadResponseRx ⟨0, 0, true, true, true, false, false⟩ 4097 0,
      .rdmaOpcodeRefused ⟨0, 0, true, true, true, false, false⟩ 256,
      .readDataToHost (2 ^ 64),
      .txCirWindow 0 (2 ^ 64) false,
      .read (2 ^ 64),
      .write (2 ^ 64),
      .flush (2 ^ 64),
      .writeZeroes (2 ^ 64),
      .compare (2 ^ 64),
      .datasetManagement (2 ^ 64),
      .ledgerBind (2 ^ 64),
      .queueReservation (2 ^ 64) 0 0,
      .queueReservation 0 (2 ^ 16) 0,
      .queueReservation 0 0 (2 ^ 32),
      .forwardCompletionRx (2 ^ 64) ⟨0, 0, false, 0, []⟩,
      .forwardRecall (2 ^ 64),
      .writePlace (2 ^ 64) 0,
      .writePlace 0 256,
      .mirrorConfirm (2 ^ 64),
      .mirrorTimeout (2 ^ 64)] = [] := by decide

/-- Stripes, locations and Sheet tags. -/
theorem test_illFormed_shelf : accepted [
      .sheetResponse 0 (2 ^ 12) 0 .none,
      .sheetResponse 0 0 256 .none,
      .mapUpdateApply (2 ^ 64) 0,
      .mapUpdateApply 0 (2 ^ 64),
      .mapFetchComplete (2 ^ 32),
      .ldpcDecodeDone (2 ^ 64) ⟨true, 0, [], none⟩,
      .tcFillComplete (2 ^ 39),
      .reclaimErase (2 ^ 20),
      .sheetDataRx 0 (2 ^ 12) 0 0,
      .sheetAckRx 0 (2 ^ 16),
      .sheetNakRx 0 (2 ^ 16),
      .sheetCreditRx 0 (2 ^ 16) 0,
      .sheetCreditRx 0 0 (2 ^ 16),
      .sheetProgram 0 cmd0 [] .ok,
      .sheetOpTimeout 0 (2 ^ 12),
      .tagRequeryTimer 0 (2 ^ 12)] = [] := by decide

/-- Feeds, tests, sensors, faults and registers. -/
theorem test_illFormed_power : accepted [
      .feedWindowChange .a true (2 ^ 16),
      .holdupTestEnd (2 ^ 32) 0 0 0,
      .holdupTestEnd 0 (2 ^ 16) 0 0,
      .holdupTestEnd 0 0 (2 ^ 16) 0,
      .holdupTestEnd 0 0 0 (2 ^ 16),
      .junctionSensorRead [],
      .faultConcentratorTake (2 ^ 14),
      .faultHandlingEnd (2 ^ 14) true,
      .cwnAckWrite (2 ^ 32),
      .registerWrite .host (2 ^ 25) false 0,
      .registerWrite .host 2 false 0,
      .registerWrite .host 4 true 0] = [] := by decide

/-- The operands of Tables 18.7 to 18.10. -/
theorem test_illFormed_mbxOperands : accepted [
      .mailboxInvalidOpcode hdr0 (2 ^ 16),
      .fnArm hdr0 256,
      .fnCplto hdr0 (2 ^ 16),
      .modDesc hdr0 256 0,
      .modDesc hdr0 0 (2 ^ 16),
      .modStatus hdr0 256,
      .modRetire hdr0 256,
      .modClear hdr0 256,
      .nsRead hdr0 (2 ^ 16) 0 0,
      .nsRead hdr0 0 (2 ^ 64) 0,
      .nsRead hdr0 0 0 (2 ^ 16),
      .nsWrite hdr0 (2 ^ 16) 0 0 [] [],
      .nsWrite hdr0 0 (2 ^ 64) 0 [] [],
      .nsWrite hdr0 0 0 1 [] [],
      .nsWrite hdr0 0 0 0 [] [0],
      .nsDealloc hdr0 (2 ^ 16) 0 0,
      .nsDealloc hdr0 0 (2 ^ 64) 0,
      .nsDealloc hdr0 0 0 (2 ^ 64),
      .nsCache hdr0 256 0 0 0 0,
      .nsCache hdr0 0 256 0 0 0,
      .nsCache hdr0 0 0 (2 ^ 16) 0 0,
      .nsCache hdr0 0 0 0 (2 ^ 64) 0,
      .nsCache hdr0 0 0 0 0 (2 ^ 64)] = [] := by decide

/-- Keys, health and events. -/
theorem test_illFormed_mbxKeys : accepted [
      .keyGenerate hdr0 (2 ^ 16) 0 0,
      .keyGenerate hdr0 0 256 0,
      .keyGenerate hdr0 0 0 256,
      .keyImport hdr0 (2 ^ 16) 0 0 none,
      .keyImport hdr0 0 256 0 none,
      .keyImport hdr0 0 0 256 none,
      .keyDestroy hdr0 (2 ^ 16) 0,
      .keyDestroy hdr0 0 256,
      .keyStatus hdr0 (2 ^ 16) 0,
      .keyStatus hdr0 0 256,
      .keyMgmtenroll hdr0 256 0,
      .hlthModule hdr0 256,
      .hlthCaps hdr0 256 0,
      .hlthCaps hdr0 0 256,
      .hlthThresh hdr0 256 [0, 0, 0, 0, 0, 0, 0, 0],
      .hlthThresh hdr0 0 [],
      .hlthThresh hdr0 0 [2 ^ 32, 0, 0, 0, 0, 0, 0, 0],
      .hlthPatrol hdr0 256,
      .evtQcreate hdr0 256 0 0 0 0 0,
      .evtQcreate hdr0 0 256 0 0 0 0,
      .evtQcreate hdr0 0 0 256 0 0 0,
      .evtQcreate hdr0 0 0 0 (2 ^ 16) 0 0,
      .evtQcreate hdr0 0 0 0 0 (2 ^ 16) 0,
      .evtQdelete hdr0 256,
      .evtQmod hdr0 256 0 0,
      .evtQmod hdr0 0 (2 ^ 16) 0,
      .evtQmod hdr0 0 0 (2 ^ 16),
      .evtRoute hdr0 (2 ^ 16) 0 0 0,
      .evtRoute hdr0 0 (2 ^ 16) 0 0,
      .evtRoute hdr0 0 0 256 0,
      .evtRoute hdr0 0 0 0 256,
      .cwnAck hdr0 (2 ^ 32)] = [] := by decide

/-- Counters, bays, the pair, firmware, seals and diagnostics. -/
theorem test_illFormed_mbxRest : accepted [
      .pmcProgram hdr0 256 0 [],
      .pmcProgram hdr0 0 (2 ^ 16) [],
      .pmcUsermap hdr0 256 0,
      .pmcUsermap hdr0 0 256,
      .pmcSample hdr0 256 0 0,
      .pmcSample hdr0 0 (2 ^ 16) 0,
      .pmcSample hdr0 0 0 256,
      .bayEnable hdr0 256,
      .bayDisable hdr0 256,
      .bayConfig hdr0 256 0 0 0 0 0 0,
      .bayConfig hdr0 0 256 0 0 0 0 0,
      .bayConfig hdr0 0 0 256 0 0 0 0,
      .bayConfig hdr0 0 0 0 256 0 0 0,
      .bayConfig hdr0 0 0 0 0 256 0 0,
      .bayConfig hdr0 0 0 0 0 0 256 0,
      .bayConfig hdr0 0 0 0 0 0 0 256,
      .bayToggle hdr0 256,
      .pairInterval hdr0 (2 ^ 16),
      .fwDownload hdr0 256 ⟨true, 0, 0, 0, false, 0, 0, 0, true, 0, true, 0⟩,
      .fwActivate hdr0 256 0,
      .fwActivate hdr0 0 256,
      .sealRange hdr0 (2 ^ 16) 0 0,
      .sealRange hdr0 0 (2 ^ 64) 0,
      .sealRange hdr0 0 0 (2 ^ 64),
      .retAdvance hdr0 (2 ^ 64) 0,
      .retAdvance hdr0 0 (2 ^ 64)] = [] := by decide

/-- Table 18.10: a DIAG.ECHO longer than 3,952 bytes, and a PMC.PROGRAM of more than 512 selectors. -/
theorem test_illFormed_echo (l : List (BitVec 8)) (h : l.length = 3953) : Instr.wellFormed (.diagEcho hdr0 l) = false := by
  simp [Instr.wellFormed, h]

theorem test_illFormed_program (l : List (BitVec 32)) (h : l.length = 513) : Instr.wellFormed (.pmcProgram hdr0 0 0 l) = false := by
  simp [Instr.wellFormed, h]

/-- The base terms of the checks above are well formed. -/
theorem test_wellFormed_bases :
    Instr.wellFormed (.fnStatus hdr0) && Instr.wellFormed (.sheetStatus 0 cmd0) && Instr.wellFormed (.frontFrameRx 0 0 rx0)
      && Instr.wellFormed (.cmRequest req0) && Instr.wellFormed (.renewRx .a lease0) && Instr.wellFormed (.sheetInitRx 0 init0)
      && Instr.wellFormed (.sheetFrameRx 0 shdr0) && Instr.wellFormed (.rdmaSendRx ⟨0, 0, true, true, true, false, false⟩ cap0) = true := by
  decide

/-- A tagged IPv4 frame by hand (R302, Table 12.2): priority 3, VLAN 5, DSCP 6, ECN 2, UDP port 4791 and a SEND Only to queue pair 0x102
with a Read capsule of namespace 7. -/
def frameBytes : List (BitVec 8) :=
  [2, 0, 0, 0, 0, 1, 2, 0, 0, 0, 0, 2, 0x81, 0, 0x60, 5, 8, 0]
  ++ [0x45, 0x1a, 0, 0x30, 0x12, 0x34, 0, 0, 0x40, 0x11, 0x54, 0x6d, 0xa, 0, 0, 1, 0xa, 0, 0, 2]
  ++ [0xc0, 0, 0x12, 0xb7, 0, 0x1c, 0, 0]
  ++ [4, 0, 0x12, 0x34, 0, 0, 1, 2, 0, 0, 0, 1]
  ++ [2, 0, 0, 0, 7, 0, 0, 0]

theorem test_parse_tagged :
    (let g := parseFrame ⟨70, true, frameBytes⟩
     g.vlanV && g.l4V && [g.pcp, g.vid, g.etype, g.l3, g.dscp, g.ecn, g.proto, g.frag, g.sport, g.dport]
       == [3, 5, 0x0800, 1, 6, 2, 17, 0, 0xC000, 4791]) = true := by decide +kernel

theorem test_parse_capsule :
    (let g := parseFrame ⟨70, true, frameBytes⟩
     (g.bthV, g.bthOpc, g.pkey, g.dqpn, g.capV, g.capOpc, g.nsid) = (true, 4, 0x1234, 0x102, true, 2, 7)) := by decide +kernel

/-- A header that does not lie wholly inside the window has its fields 0 and its valid bit clear (R302). -/
theorem test_parse_window :
    (let g := parseFrame ⟨70, true, frameBytes.take 57⟩
     (g.l4V, g.bthV, g.bthOpc, g.capV) = (true, false, 0, false)) := by decide +kernel

/-- R114: one wrong bit of a word, or of its check bits, is corrected; two are detected. -/
theorem test_secded_single : readWord (0x0123456789ABCDEF ^^^ 0x10000) (secded 0x0123456789ABCDEF) = .fixed 0x0123456789ABCDEF := by
  decide +kernel

theorem test_secded_double : readWord (0x0123456789ABCDEF ^^^ 0x10001) (secded 0x0123456789ABCDEF) = .bad := by decide +kernel

/-! ### Witnesses: concrete states that meet each statement's hypotheses -/

theorem test_wit_HoldupGood :
    (∃ s : State, s.bpd.testBusy = true) ∧ (∃ s : State, s.bpd.aux = true ∧ s.bpd.feedA.inWindow = false ∧ s.bpd.sel = .onA)
    ∧ (∃ s : State, s.bpd.aux = true ∧ s.bpd.feedB.inWindow = false ∧ s.bpd.sel = .onB)
    ∧ ∃ s : State, ∃ ord c, s.log.strikeArmed = false ∧ s.mayAck ord c = true := ⟨⟨State.reset.onBpd fun b => { b with testBusy := true }, by decide⟩, ⟨wSel .onA false, by decide⟩, ⟨wSel .onB false, by decide⟩,
    ⟨State.reset, 1, cmdOf .write, by decide⟩⟩

theorem test_wit_LaterFragment :
    ∃ s : State, ∃ r c e, s.net.ports.length = 8 ∧ s.awake = true ∧ (s.front 7).ingress.find? (fun r => r.pseq == 0 && r.action.isNone) = some r
      ∧ s.rulesFor (4 * 7 + r.sub) = some c ∧ s.malformed2430 r.frame = false ∧ r.frame.frag = 2
      ∧ s.net.frags.find? (fun e => e.key == fragKeyOf r.frame) = some e ∧ s.now < e.since + ms 2 := ⟨((wRun.onFn fun f => { f with rules := some img0.cls }).onNet fun n => { n with frags := [⟨fragKeyOf frame0, defaultAction, 0⟩] }).onFront 7 fun x =>
      { x with ingress := [⟨0, 3, { frame0 with frag := 2 }, 0, none, false⟩] },
    ⟨0, 3, { frame0 with frag := 2 }, 0, none, false⟩, img0.cls, ⟨fragKeyOf frame0, defaultAction, 0⟩, by decide⟩

theorem test_wit_OwnerOnlyWrites :
    (∃ s : State, ∃ m, s.sheet.modules.length = 48 ∧ s.module 47 = some m ∧ s.bayPowered 47 = true ∧ m.fatal = false ∧ cmd0.tag ≠ 0xFFF ∧ cmd0.reserved = false
      ∧ cmd0.die < m.desc.dies ∧ m.power ≠ 2 ∧ m.owner = 1 ∧ cmd0.epoch = m.epoch ∧ cmd0.page < m.desc.epp ∧ cmd0.page < m.desc.epp * m.desc.ppb ∧ tabWf s.sheet.media = true)
    ∧ (∃ s : State, ∃ m, s.sheet.modules.length = 48 ∧ s.module 47 = some m ∧ s.bayPowered 47 = true ∧ m.owner = 2)
    ∧ ∃ s : State, s.sheet.modules.length = 48 ∧ (s.chan 0).pres = false ∧ s.module 0 = none := ⟨⟨wMod 47 mod0, mod0, by decide⟩, ⟨wMod 47 { mod0 with owner := 2 }, { mod0 with owner := 2 }, by decide⟩, ⟨State.reset, by decide⟩⟩

theorem test_wit_FenceThreeWays :
    (∃ s : State, ∃ m, ∃ c : SheetCmd, s.sheet.modules.length = 48 ∧ s.module 47 = some m ∧ s.bayPowered 47 = true ∧ m.fatal = false ∧ c.tag ≠ 0xFFF ∧ c.reserved = false
      ∧ m.epoch < c.epoch ∧ c.epoch = 0xFFFFFFFE)
    ∧ (∃ s : State, ∃ m, s.sheet.modules.length = 48 ∧ s.module 0 = some m ∧ s.bayPowered 0 = true ∧ m.epoch = 5 ∧ m.owner = 1)
    ∧ ∃ s : State, ∃ m, s.sheet.modules.length = 48 ∧ s.module 0 = some m ∧ s.bayPowered 0 = true ∧ cmd0.epoch = 0 := ⟨⟨wMod 47 mod0, mod0, { cmd0 with epoch := 0xFFFFFFFE }, by decide⟩, ⟨wMod 0 { mod0 with epoch := 5 }, { mod0 with epoch := 5 }, by decide⟩,
    ⟨wMod 0 mod0, mod0, by decide⟩⟩

theorem test_wit_EpochsNeverLowered :
    ∃ s t : State, ∃ m, exec (.temp 47 cmd0) s = .next t ∧ s.module 47 = some m := ⟨wMod 47 mod0, _, mod0, rfl, by decide⟩

theorem test_wit_ModuleOperations :
    ∃ s : State, ∃ m, ∃ c : SheetCmd, s.sheet.modules.length = 48 ∧ s.module 47 = some m ∧ s.bayPowered 47 = true ∧ m.fatal = false ∧ c.tag ≠ 0xFFF ∧ c.reserved = false
      ∧ c.die < m.desc.dies ∧ m.power ≠ 2 ∧ c.page < m.desc.epp * m.desc.ppb ∧ c.cwmask ≠ 0 ∧ (c.offsets.drop m.desc.levels).all (· == 0) = true ∧ c.arg ≤ m.desc.dies
      ∧ 1 ≤ c.value.toNat := ⟨wMod 47 mod0, mod0, { cmd0 with cwmask := 1, value := 1 }, by decide⟩

theorem test_wit_BayChannelStarts :
    (∃ s : State, s.bpd.chans.length = 48 ∧ (s.chan 47).st = .waitInsert ∧ (s.chan 47).enabled = true ∧ (s.chan 47).pres = true
      ∧ s.bpd.busIn = true ∧ (s.bpd.sel = .onA ∨ s.bpd.sel = .onB))
    ∧ ∃ s : State, s.bpd.chans.length = 48 ∧ (s.chan 0).st = .ramp := ⟨⟨wBay 47 .waitInsert, by decide⟩, ⟨wBay 0 .ramp, by decide⟩⟩

theorem test_wit_BayChannelTrips :
    (∃ s : State, s.bpd.chans.length = 48 ∧ (s.chan 0).st = .ramp) ∧ ∃ s : State, s.bpd.chans.length = 48 ∧ (s.chan 47).st = .on := ⟨⟨wBay 0 .ramp, by decide⟩, ⟨wBay 47 .on, by decide⟩⟩

theorem test_wit_BayChannelLatches :
    (∃ s : State, s.bpd.chans.length = 48 ∧ s.sheet.ports.length = 48 ∧ (s.chan 0).st = .cooldown ∧ (s.chan 0).togglePend = false)
    ∧ (∃ s : State, s.bpd.chans.length = 48 ∧ s.sheet.ports.length = 48 ∧ (s.chan 47).st = .latched)
    ∧ (∃ s : State, s.bpd.chans.length = 48 ∧ s.sheet.ports.length = 48 ∧ (s.chan 47).pres = false ∧ (s.chan 47).st = .latched)
    ∧ ∃ s : State, s.bpd.chans.length = 48 ∧ s.sheet.ports.length = 48 ∧ (s.chan 0).pres = false ∧ (s.chan 0).st = .cooldown ∧ (s.port 0).st = .retired := ⟨⟨wBay 0 .cooldown, by decide⟩, ⟨wBay 47 .latched, by decide⟩, ⟨(wBay 47 .latched).onChan 47 fun c => { c with pres := false }, by decide⟩,
    ⟨((wBay 0 .cooldown).onChan 0 fun c => { c with pres := false }).onPort 0 fun p => { p with st := .retired }, by decide⟩⟩

theorem test_wit_FeedSelector :
    (∃ s : State, s.bpd.aux = true)
    ∧ (∃ s : State, s.bpd.aux = true ∧ s.bpd.feedA.inWindow = false ∧ s.bpd.sel = .onA ∧ s.bpd.testBusy = false)
    ∧ (∃ s : State, s.bpd.aux = true ∧ s.bpd.feedA.inWindow = true ∧ s.bpd.sel = .init)
    ∧ (∃ s : State, s.bpd.sel = .breakAB ∧ s.bpd.feedB.inWindow = true) ∧ (∃ s : State, s.bpd.sel = .breakBA ∧ s.bpd.feedA.inWindow = true)
    ∧ (∃ s : State, s.bpd.sel = .breakAB ∧ s.bpd.feedB.inWindow = false) ∧ (∃ s : State, s.bpd.sel = .onB ∧ s.bpd.feedA.good = true)
    ∧ ∃ s : State, s.bpd.sel = .down ∧ s.bpd.feedA.good = true := ⟨⟨wSel .init false, by decide⟩, ⟨wSel .onA false, by decide⟩, ⟨wSel .init true, by decide⟩, ⟨wSel .breakAB true, by decide⟩,
    ⟨wSel .breakBA true, by decide⟩, ⟨wSel .breakAB false, by decide⟩, ⟨wSel .onB true, by decide⟩, ⟨wSel .down true, by decide⟩⟩

theorem test_wit_HoldupEndsDown :
    (∃ s : State, s.bpd.chans.length = 48 ∧ s.bpd.sel ≠ .down ∧ s.bpd.aux = true)
    ∧ (∃ s : State, s.bpd.chans.length = 48 ∧ s.bpd.sel = .holdup ∧ s.log.strike ≠ .running)
    ∧ (∃ s : State, s.bpd.chans.length = 48 ∧ s.bpd.testAt = none ∧ s.selGood = true ∧ s.bpd.testBusy = false ∧ s.awake = true)
    ∧ (∃ s : State, s.bpd.chans.length = 48 ∧ s.bpd.testBusy = true)
    ∧ ∃ s : State, s.bpd.chans.length = 48 ∧ s.holdupGood = false ∧ s.log.strikeArmed = true := ⟨⟨State.reset, by decide⟩, ⟨wSel .holdup false, by decide⟩, ⟨(wSel .onA true).onBpd fun b => { b with mainReset := false }, by decide⟩,
    ⟨State.reset.onBpd fun b => { b with testBusy := true }, by decide⟩, ⟨State.reset.onLog fun l => { l with strikeArmed := true }, by decide⟩⟩

theorem test_wit_RailSequence :
    (∃ s : State, s.feedOn = true ∧ s.bpd.refclk = true ∧ s.bpd.railsOff = false ∧ s.bpd.pwrFault = false ∧ s.bpd.mainReset = true ∧ s.bpd.rails = 0)
    ∧ (∃ s : State, s.feedOn = true ∧ s.bpd.refclk = true ∧ s.bpd.railsOff = false ∧ s.bpd.pwrFault = false ∧ s.bpd.mainReset = true ∧ s.bpd.rails = 6)
    ∧ (∃ s : State, s.feedOn = true ∧ s.bpd.refclk = true ∧ s.bpd.railsOff = false ∧ s.bpd.pwrFault = true)
    ∧ (∃ s : State, s.bpd.mainOn = true) ∧ ∃ s : State, s.bpd.refclk = false := ⟨⟨wSel .onA true, by decide⟩, ⟨(wSel .onB true).onBpd fun b => { b with rails := 6 }, by decide⟩,
    ⟨(wSel .onA true).onBpd fun b => { b with pwrFault := true }, by decide⟩, ⟨State.reset.onBpd fun b => { b with mainOn := true }, by decide⟩,
    ⟨State.reset.onBpd fun b => { b with refclk := false }, by decide⟩⟩

theorem test_wit_HeatAndPresence :
    (∃ s : State, s.bpd.chans.length = 48 ∧ s.sheet.modules.length = 48 ∧ (s.chan 0).pres = false ∧ s.module 0 = none ∧ s.bpd.aux = true)
    ∧ (∃ s : State, s.bpd.chans.length = 48 ∧ s.sheet.modules.length = 48 ∧ (s.chan 47).pres = true)
    ∧ (∃ s : State, s.awake = true ∧ s.boot.tripHold = false ∧ s.boot.tripSince = some 0 ∧ 0 + ms 1 ≤ s.now)
    ∧ (∃ s : State, s.awake = true ∧ s.boot.tripHold = false ∧ s.boot.tripSince = none ∧ s.boot.aboveSince ≠ 0 ∧ s.boot.aboveSince + ms 10 ≤ s.now + 1)
    ∧ ∃ s : State, s.awake = true ∧ s.boot.tripHold = false ∧ s.boot.tripSince = none ∧ s.boot.aboveSince = 0 ∧ s.boot.belowSince ≠ 0
      ∧ s.boot.belowSince + secs 1 ≤ s.now + 1 := ⟨⟨State.reset, by decide⟩, ⟨wBay 47 .on, by decide⟩, ⟨wHot fun b => { b with tripSince := some 0 }, by decide⟩,
    ⟨wHot fun b => { b with aboveSince := 1 }, by decide⟩, ⟨wHot fun b => { b with belowSince := 1 }, by decide⟩⟩

theorem test_wit_FrameAndSlots :
    (∃ s : State, s.awake = true ∧ s.fn.changes = [] ∧ s.fn.committed = some img0 ∧ (0, lane0 5) ∈ img0.lanes ∧ (img0.lanes.map Prod.fst).Nodup
      ∧ tabWf s.sched.debt = true ∧ s.sched.cmds = [])
    ∧ (∃ s : State, s.clk.slot ≤ 16383 ∧ s.fn.committed = some img0 ∧ s.sequencing = true) := ⟨⟨wRun, by decide⟩, ⟨wRun, by decide⟩⟩

theorem test_wit_IntakeAndAdmission :
    (∃ s : State, s.sched.inputs.length = 18 ∧ s.sched.lastTaken.length = 18 ∧ s.clk.slot ≤ 16383 ∧ s.sched.peerHeld = [] ∧ s.awake = true ∧ s.sched.intakeStopped = false ∧ s.canOrder = true
      ∧ (∃ h, nth s.sched.inputs 17 [] = [h] ∧ s.firstSlot 17 h ≤ s.clk.base + 16384 * s.clk.frame + 16383) ∧ ∀ p : Fin 18, p ≠ 17 → nth s.sched.inputs p [] = [])
    ∧ (∃ s : State, s.sched.inputs.length = 18 ∧ s.sched.lastTaken.length = 18 ∧ s.clk.slot ≤ 16383 ∧ s.sched.intakeStopped = true)
    ∧ (∃ s : State, ∃ c e, s.cmd 1 = some c ∧ c.phase = .taken ∧ s.sequencing = true ∧ s.pair.st ≠ .lapsed ∧ c.lane = some 0 ∧ s.laneEntry 0 = some e
        ∧ tabGetD s.sched.debt 0 0 = 0 ∧ tabGetD s.sched.left 0 0 ≠ 0 ∧ tabWf s.sched.debt = true ∧ s.mustWait 1 c = false)
    ∧ (∃ s : State, ∃ c e, s.cmd 1 = some c ∧ c.phase = .taken ∧ s.sequencing = true ∧ s.pair.st ≠ .lapsed ∧ c.lane = some 0 ∧ s.laneEntry 0 = some e
        ∧ tabGetD s.sched.debt 0 0 ≠ 0)
    ∧ ∃ s : State, ∃ c, s.cmd 1 = some c ∧ s.mustWait 1 c = true := ⟨⟨wRun.onSched fun x => { x with inputs := putNth x.inputs 17 [⟨.mbx 0, cap0, .read, 1, 0, none, [], []⟩] }, by decide, by decide, by decide, by decide, by decide, by decide,
      by decide, ⟨⟨.mbx 0, cap0, .read, 1, 0, none, [], []⟩, by decide, by decide⟩, by decide⟩,
    ⟨State.reset.onSched fun x => { x with intakeStopped := true }, by decide⟩,
    ⟨(wCmd .read).onSched fun x => { x with left := [(0, 1)] }, cmdOf .read, lane0 5, by decide⟩,
    ⟨(wCmd .read).onSched fun x => { x with debt := [(0, 1)] }, cmdOf .read, lane0 5, by decide⟩,
    ⟨(wCmd .read).onSched fun x => { x with overlap := [(0, ⟨1, 0, 1, .write, false, []⟩)] }, cmdOf .read, by decide⟩⟩

theorem test_wit_FrontFrames :
    (∃ s : State, s.net.ports.length = 8 ∧ s.nrUp = true ∧ (s.front 7).linkUp = true ∧ nth s.net.rulePhase 31 .running = .running)
    ∧ (∃ s : State, s.net.ports.length = 8 ∧ s.nrUp = true ∧ (s.front 7).linkUp = true ∧ nth s.net.rulePhase 31 .running ≠ .running)
    ∧ (∃ s : State, s.net.ports.length = 8 ∧ s.nrUp = true ∧ (s.front 0).ingress = [⟨0, 0, frame0, 0, some defaultAction, false⟩])
    ∧ (∃ s : State, s.net.ports.length = 8 ∧ s.nrUp = true ∧ (s.front 0).ingress = [⟨0, 0, frame0, 0, none, false⟩])
    ∧ rx0.fcsOk = true ∧ rx0.len ≤ 9216 := ⟨⟨wRun.onFront 7 fun x => { x with linkUp := true }, by decide +kernel⟩,
    ⟨(wRun.onFront 7 fun x => { x with linkUp := true }).onNet fun n => { n with rulePhase := putNth n.rulePhase 31 .holding }, by decide +kernel⟩,
    ⟨wRun.onFront 0 fun x => { x with ingress := [⟨0, 0, frame0, 0, some defaultAction, false⟩] }, by decide +kernel⟩,
    ⟨wRun.onFront 0 fun x => { x with ingress := [⟨0, 0, frame0, 0, none, false⟩] }, by decide +kernel⟩, by decide +kernel⟩

theorem test_wit_ClassifyAndFragments :
    (∃ s : State, s.net.ports.length = 8 ∧ s.net.rulePhase.length = 32 ∧ s.awake = true ∧ (∃ r c, (s.front 7).ingress.find? (fun r => r.pseq == 0 && r.action.isNone) = some r
        ∧ s.rulesFor (4 * 7 + r.sub) = some c ∧ s.malformed2430 r.frame = false ∧ r.frame.frag = 2 ∧ s.net.frags = [] ∧ s.net.parked = []))
    ∧ (∃ s : State, s.net.ports.length = 8 ∧ s.net.rulePhase.length = 32 ∧ s.awake = true ∧ ∃ e ∈ s.net.parked, e.port = 0 ∧ e.fr.pseq = 0 ∧ e.since + us 500 ≤ s.now)
    ∧ (∃ s : State, s.net.ports.length = 8 ∧ s.net.rulePhase.length = 32 ∧ s.awake = true ∧ nth s.net.rulePhase 31 .running = .holding ∧ (s.front 7).ingress = [])
    ∧ (∃ s : State, s.net.ports.length = 8 ∧ s.net.rulePhase.length = 32 ∧ s.awake = true ∧ nth s.net.rulePhase 0 .running = .empty)
    ∧ ∃ s : State, s.net.ports.length = 8 ∧ s.net.rulePhase.length = 32 ∧ s.awake = true ∧ nth s.net.rulePhase 0 .running = .reloaded ∧ s.net.ruleNext = none := ⟨⟨(wRun.onFn fun f => { f with rules := some img0.cls }).onFront 7 fun x => { x with ingress := [⟨0, 3, { frame0 with frag := 2 }, 0, none, false⟩] },
      by decide +kernel, by decide +kernel, by decide +kernel, ⟨0, 3, { frame0 with frag := 2 }, 0, none, false⟩, img0.cls, by decide +kernel⟩,
    ⟨(wRun.onClk fun c => { c with base := secs 1 }).onNet fun n => { n with parked := [⟨⟨0, 0, 0, 0⟩, 0, ⟨0, 0, frame0, 0, none, false⟩, 0⟩] },
      by decide +kernel⟩,
    ⟨wRun.onNet fun n => { n with rulePhase := putNth n.rulePhase 31 .holding }, by decide +kernel⟩,
    ⟨wRun.onNet fun n => { n with rulePhase := putNth n.rulePhase 0 .empty }, by decide +kernel⟩,
    ⟨wRun.onNet fun n => { n with rulePhase := putNth n.rulePhase 0 .reloaded }, by decide +kernel⟩⟩

theorem test_wit_FlowControlAndMatching :
    (∃ s : State, s.awake = true ∧ ∃ e, s.portEntry 0 = some e ∧ tabWf s.net.paused = true)
    ∧ (∃ s : State, s.awake = true ∧ ∃ q, s.qos = some q ∧ (7, 3, 7) ∈ s.net.xoff ∧ s.net.prioCells 7 3 7 ≤ q.xonCells)
    ∧ ∃ s : State, s.awake = true ∧ ∃ k f, s.net.voqs = [(k, [f])] ∧ s.net.offers = [] ∧ (∀ c ∈ s.rdma.cells, c.control = []) ∧ s.voqReady k = true
        ∧ k.inp < 14 ∧ 8 ≤ k.outp ∧ k.outp < 14 ∧ s.reservedCell k.outp 0 = none := ⟨⟨wRun.onFn fun f => { f with committed := some { img0 with ports := { img0.ports with ports := [⟨0, 0xFF, 9216, false, 0, 0, [], [], [], 0⟩] } } },
      by decide, ⟨0, 0xFF, 9216, false, 0, 0, [], [], [], 0⟩, by decide⟩,
    ⟨wRun.onNet fun n => { n with xoff := [(7, 3, 7)] }, by decide, img0.qos, by decide⟩,
    ⟨wRun.onNet fun n => { n with voqs := [(⟨0, 13, 0, 0⟩, [⟨0, 64, 1, 0, .shared, 0, false, 0, 0⟩])] }, by decide, ⟨0, 13, 0, 0⟩,
      ⟨0, 64, 1, 0, .shared, 0, false, 0, 0⟩, by decide⟩⟩

theorem test_wit_ConnectionStates :
    (∃ s : State, tabWf s.rdma.qps = true ∧ s.awake = true ∧ s.nrUp = true ∧ (∃ c : Fin 16, s.cellLoad c < 1024) ∧ req0.optionsOk = true ∧ req0.pmtu = 1024)
    ∧ (∃ s : State, tabWf s.rdma.qps = true ∧ s.awake = true ∧ (s.qp 16383).st = .connecting ∧ (s.qp 16383).since + secs 1 ≤ s.now)
    ∧ (∃ s : State, tabWf s.rdma.qps = true ∧ s.awake = true ∧ (s.qp 0).st = .ready ∧ (s.qp 0).ctl = some 1 ∧ (s.qp 0).admin = true ∧ tabWf s.nvme.ctls = true)
    ∧ (∃ s : State, tabWf s.rdma.qps = true ∧ s.awake = true ∧ (s.qp 0).st = .flushing ∧ s.qpBusy 0 = false)
    ∧ (∃ s : State, tabWf s.rdma.qps = true ∧ s.awake = true ∧ (s.qp 0).st = .flushing ∧ s.qpBusy 0 = true)
    ∧ ∃ s : State, tabWf s.rdma.qps = true ∧ s.awake = true ∧ (s.qp 0).st = .timewait ∧ (s.qp 0).since + ms 100 ≤ s.now ∧ tabWf s.nvme.resv = true := ⟨⟨wRun, by decide⟩, ⟨wQp 16383 { Qp.reset with st := .connecting }, by decide⟩,
    ⟨wQp 0 { Qp.reset with st := .ready, ctl := some 1, admin := true }, by decide⟩, ⟨wQp 0 { Qp.reset with st := .flushing }, by decide⟩,
    ⟨(wQp 0 { Qp.reset with st := .flushing }).onSched fun x => { x with cmds := [(1, { cmdOf .read with src := .qp 0 0 })] }, by decide⟩,
    ⟨wQp 0 { Qp.reset with st := .timewait }, by decide⟩⟩

theorem test_wit_InboundSends :
    (∃ s : State, ∃ h : PktHdr, s.rdma.cells.length = 16 ∧ s.awake = true ∧ s.nrUp = true ∧ (s.qp 16383).st = .ready ∧ s.qpnIndex h.qpn = some 16383 ∧ h.pkeyOk = true ∧ h.icrcOk = true
      ∧ h.addrOk = true ∧ h.psn = (s.qp 16383).ePsn ∧ (s.qp 16383).freeBufs ≠ 0)
    ∧ (∃ s : State, s.rdma.cells.length = 16 ∧ s.awake = true ∧ (s.qp 0).st = .ready ∧ (s.qp 0).freeBufs = 0)
    ∧ (∃ s : State, ∃ h : PktHdr, s.awake = true ∧ (s.qp 0).st = .ready ∧ psnDist h.psn (s.qp 0).ePsn = 255 ∧ 255 < (s.qp 0).freeBufs ∧ (s.qp 0).held = [])
    ∧ (∃ s : State, ∃ h : PktHdr, s.awake = true ∧ (s.qp 0).st = .ready ∧ psnDist h.psn (s.qp 0).ePsn = 256 ∧ (s.qp 0).nakOut = false)
    ∧ (∃ s : State, ∃ h : PktHdr, s.awake = true ∧ (s.qp 0).st = .ready ∧ psnDist h.psn (s.qp 0).ePsn = 2 ^ 23)
    ∧ (∃ s : State, s.awake = true ∧ (s.qp 0).st = .ready ∧ (s.qp 0).heldSince = some 0 ∧ 0 + us 32 ≤ s.now ∧ (s.qp 0).ackDue = some 0)
    ∧ ∃ s : State, ∃ k, s.awake = true ∧ (s.qp 0).st = .ready ∧ (s.qp 0).inq = [{ cap0 with opcode := 2, nsid := 2 }] ∧ (s.qp 0).tenant = some 0
        ∧ capKind (s.qp 0).admin { cap0 with opcode := 2, nsid := 2 } = some k
        ∧ s.pair.st ≠ .standby ∧ s.laneFor k (capNs { cap0 with opcode := 2, nsid := 2 }) 0 = some 0 ∧ s.laneEntry 0 = some (lane0 5)
        ∧ tabGetD s.sched.staged 0 0 < max 1 (lane0 5).escapeCr ∧ s.sched.inputs.length = 18 := ⟨⟨wQp 16383 { Qp.reset with st := .ready, entries := 1 }, ⟨0x13FFF, 0, true, true, true, false, false⟩, by decide⟩,
    ⟨wQp 0 { Qp.reset with st := .ready }, by decide⟩,
    ⟨wQp 0 { Qp.reset with st := .ready, entries := 256 }, ⟨0x10000, 255, true, true, true, false, false⟩, by decide⟩,
    ⟨wQp 0 { Qp.reset with st := .ready, entries := 256 }, ⟨0x10000, 256, true, true, true, false, false⟩, by decide⟩,
    ⟨wQp 0 { Qp.reset with st := .ready, entries := 256 }, ⟨0x10000, 8388608, true, true, true, false, false⟩, by decide⟩,
    ⟨wQp 0 { Qp.reset with st := .ready, heldSince := some 0, ackDue := some 0 }, by decide⟩,
    ⟨wQp 0 { Qp.reset with st := .ready, inq := [{ cap0 with opcode := 2, nsid := 2 }], tenant := some 0 }, .read, by decide⟩⟩

theorem test_wit_FetchingHostData :
    (∃ s : State, ∃ c, s.rdma.cells.length = 16 ∧ s.awake = true ∧ (s.qp 16383).st = .ready ∧ s.nextFetch 16383 = some (1, c) ∧ s.cmd 1 = some c
      ∧ (s.qp 16383).reqs.length < 16 ∧ (s.qp 16383).reqs.length < (s.qp 16383).responder ∧ (s.cell 16383).stagingUsed + 1 ≤ 512
      ∧ psnDist ((s.qp 16383).sPsn + BitVec.ofNat 24 1 - 1) (s.qp 16383).windowBase < 256 ∧ (s.qp 16383).pmtu = 4096)
    ∧ (∃ s : State, ∃ c, s.awake = true ∧ (s.qp 0).st = .ready ∧ s.nextFetch 0 = some (1, c) ∧ s.cmd 1 = some c ∧ (s.qp 0).responder ≤ (s.qp 0).reqs.length)
    ∧ (∃ s : State, ∃ r, s.awake = true ∧ (s.qp 0).st = .ready ∧ psnDist 1 (s.qp 0).windowBase < 256 ∧ (s.qp 0).reqOf 1 = some r ∧ psnDist 1 (BitVec.ofNat 24 r.firstPsn) ∉ r.got
        ∧ (4096 : Nat) = min (s.qp 0).pmtu (r.length - psnDist 1 (BitVec.ofNat 24 r.firstPsn) * (s.qp 0).pmtu))
    ∧ (∃ s : State, s.awake = true ∧ (s.qp 0).st = .ready ∧ (s.qp 0).reqOf 0 = none)
    ∧ (∃ s : State, ∃ r c, s.awake = true ∧ (s.qp 0).st = .ready ∧ (s.qp 0).reqs = [r] ∧ r.reissue = false
        ∧ r.higherAt = some 0 ∧ 0 + us 32 ≤ s.now ∧ (List.range (r.packets (s.qp 0).pmtu)).find? (fun j => !r.got.contains j) = some 0 ∧ s.cmd r.ord = some c ∧ (s.qp 0).retries < (s.qp 0).retryMax)
    ∧ ∃ s : State, ∃ e, s.awake = true ∧ (s.qp 0).st = .ready ∧ (s.qp 0).sends = [e] ∧ e.sentAt + (s.qp 0).ackTimeout ≤ s.now ∧ (s.qp 0).retryMax ≤ (s.qp 0).retries := ⟨⟨(wQp 16383 { Qp.reset with st := .ready, responder := 1, pmtu := 4096 }).onSched fun x => { x with cmds := [(1, { cmdOf .write with src := .qp 16383 0, phase := .running })] },
      { cmdOf .write with src := .qp 16383 0, phase := .running }, by decide⟩,
    ⟨(wQp 0 { Qp.reset with st := .ready }).onSched fun x => { x with cmds := [(1, { cmdOf .write with src := .qp 0 0, phase := .running })] },
      { cmdOf .write with src := .qp 0 0, phase := .running }, by decide⟩,
    ⟨wQp 0 { Qp.reset with st := .ready, pmtu := 4096, reqs := [⟨1, 0, 8192, 0, [0], [], some 0, false, 0⟩] }, ⟨1, 0, 8192, 0, [0], [], some 0, false, 0⟩, by decide⟩,
    ⟨wQp 0 { Qp.reset with st := .ready }, by decide⟩,
    ⟨(wQp 0 { Qp.reset with st := .ready, pmtu := 4096, retryMax := 1, reqs := [⟨1, 0, 8192, 0, [1], [], some 0, false, 0⟩] }).onSched fun x =>
      { x with cmds := [(1, cmdOf .write)] }, ⟨1, 0, 8192, 0, [1], [], some 0, false, 0⟩, cmdOf .write, by decide⟩,
    ⟨wQp 0 { Qp.reset with st := .ready, sends := [⟨0, true, 16, 0⟩] }, ⟨0, true, 16, 0⟩, by decide⟩⟩

theorem test_wit_SendingToHost :
    (∃ s : State, ∃ h : PktHdr, s.rdma.cells.length = 16 ∧ tabWf s.sched.cmds = true ∧ s.awake = true ∧ (s.qp 16383).st = .ready ∧ s.qpnIndex h.qpn = some 16383 ∧ h.pkeyOk = true
        ∧ h.icrcOk = true ∧ h.addrOk = true ∧ (s.qp 16383).sends = [⟨0, true, 16, 0⟩] ∧ psnDist (h.psn - 1) 0 = 2 ^ 24 - 1 ∧ (s.qp 16383).retries < (s.qp 16383).retryMax
        ∧ (s.qp 16383).rnrTries < (s.qp 16383).rnrMax ∧ 0 < (s.qp 16383).rnrUntil ∧ (s.qp 16383).rnrUntil ≤ s.now)
    ∧ (∃ s : State, ∃ c, s.rdma.cells.length = 16 ∧ tabWf s.sched.cmds = true ∧ s.awake = true ∧ s.cmd 1 = some c ∧ c.phase = .running ∧ c.kind = .read ∧ c.allRead = true ∧ c.src = .peer 3 0 none
        ∧ c.readError = none ∧ c.firstTagFail = none ∧ c.status = none)
    ∧ (∃ s : State, ∃ c, s.rdma.cells.length = 16 ∧ tabWf s.sched.cmds = true ∧ s.awake = true ∧ s.cmd 1 = some c ∧ c.phase = .running ∧ c.kind = .read ∧ c.allRead = true ∧ c.src = .peer 3 0 none
        ∧ c.readError = some (0, 2, 0x81))
    ∧ ∃ s : State, ∃ c, s.rdma.cells.length = 16 ∧ tabWf s.sched.cmds = true ∧ s.awake = true ∧ s.cmd 1 = some c ∧ c.phase = .running ∧ c.kind = .read ∧ c.allRead = true ∧ c.src = .qp 0 0
        ∧ (s.qp 0).st = .ready ∧ (s.qp 0).pmtu = 4096 ∧ c.results = [(0, .zero)] ∧ c.readError = none ∧ c.firstTagFail = none ∧ c.fetchNext = 0 ∧ s.sendFree 0 = true := ⟨⟨wQp 16383 { Qp.reset with st := .ready, sends := [⟨0, true, 16, 0⟩], retryMax := 1, rnrMax := 1, rnrUntil := 1 }, ⟨0x13FFF, 0, true, true, true, false, false⟩, by decide⟩,
    ⟨wRun.onSched fun x => { x with cmds := [(1, { cmdOf .read with src := .peer 3 0 none, phase := .running, results := [(0, .zero)] })] },
      { cmdOf .read with src := .peer 3 0 none, phase := .running, results := [(0, .zero)] }, by decide⟩,
    ⟨wRun.onSched fun x => { x with cmds := [(1, { cmdOf .read with src := .peer 3 0 none, phase := .running, results := [(0, .unrecovered)] })] },
      { cmdOf .read with src := .peer 3 0 none, phase := .running, results := [(0, .unrecovered)] }, by decide⟩,
    ⟨(wQp 0 { Qp.reset with st := .ready, pmtu := 4096 }).onSched fun x => { x with cmds := [(1, { cmdOf .read with src := .qp 0 0, phase := .running, results := [(0, .zero)] })] },
      { cmdOf .read with src := .qp 0 0, phase := .running, results := [(0, .zero)] }, by decide⟩⟩

theorem test_wit_CongestionControl :
    (∃ s : State, ∃ h : PktHdr, s.awake = true ∧ (s.qp 16383).st = .ready ∧ s.qpnIndex h.qpn = some 16383 ∧ h.pkeyOk = true ∧ h.icrcOk = true ∧ h.addrOk = true
        ∧ (s.qp 16383).lastCnpRx + us 55 ≤ s.now)
    ∧ ∃ s : State, ∃ e, s.awake = true ∧ s.tenantEntry 0 = some e ∧ 8 * 0 < e.txCir * 10 ^ 6 ∧ tabGet s.rdma.cirEvent 0 = none := ⟨⟨wQp 16383 { Qp.reset with st := .ready }, ⟨0x13FFF, 0, true, true, true, false, false⟩, by decide⟩,
    ⟨wRun.onFn fun f => { f with committed := some { img0 with tenants := { img0.tenants with tenants := [(0, ⟨true, 4, 0, 16, 1, 0⟩)] } } },
      ⟨true, 4, 0, 16, 1, 0⟩, by decide⟩⟩

theorem test_wit_StorageCommands :
    (∃ s : State, ∃ c, tabWf s.sched.cmds = true ∧ s.cmd 1 = some c ∧ s.listening c = true ∧ s.ioCheck c = some (0, 0x80, true)
      ∧ c.kind = .read ∧ c.phase = .admitted ∧ c.seq = true)
    ∧ (∃ s : State, ∃ c, tabWf s.sched.cmds = true ∧ s.cmd 1 = some c ∧ s.listening c = true ∧ s.ioCheck c = none
      ∧ c.kind = .read ∧ c.phase = .admitted ∧ c.seq = true ∧ c.len = 1 ∧ s.look c.ns c.lba = .entry eUnmapped
      ∧ isLoc eUnmapped = false ∧ s.ovWrite 1 c.ns c.lba = none ∧ s.tcSound (lineAddr (s.mpnOf c.ns c.lba) c.lba) = true)
    ∧ (∃ s : State, ∃ c e, tabWf s.sched.cmds = true ∧ s.cmd 1 = some c ∧ s.listening c = true ∧ s.ioCheck c = none
      ∧ c.kind = .write ∧ c.phase = .admitted ∧ c.seq = true ∧ c.chain = none ∧ s.nsEntry c.ns = some e ∧ e.nsType = 0 ∧ s.fn.readOnly = false ∧ s.keyReady c = true
      ∧ c.orphan = false ∧ c.src = .qp 0 0)
    ∧ (∃ s : State, ∃ c, tabWf s.sched.cmds = true ∧ s.cmd 1 = some c ∧ s.listening c = true ∧ s.ioCheck c = none
      ∧ c.kind = .dsm ∧ c.phase = .admitted ∧ c.seq = true ∧ c.cap.dealloc = true ∧ (s.readyRanges c.ns c.ranges false).1 = true)
    ∧ (∃ s : State, ∃ c, tabWf s.sched.cmds = true ∧ s.cmd 1 = some c ∧ s.listening c = true ∧ s.ioCheck c = none
      ∧ c.kind = .zeroes ∧ c.phase = .admitted ∧ c.seq = true ∧ s.keyReady c = true ∧ s.fn.readOnly = false ∧ c.cap.deac = false
      ∧ (s.readyRanges c.ns c.ranges true).1 = true)
    ∧ (∃ s : State, ∃ c, tabWf s.sched.cmds = true ∧ s.cmd 1 = some c ∧ s.listening c = true ∧ c.kind = .compare ∧ c.phase = .running ∧ c.allRead = true
      ∧ c.readError = none ∧ c.firstTagFail = none ∧ c.len ≤ c.fetched.length)
    ∧ ∃ s : State, ∃ c, tabWf s.sched.cmds = true ∧ s.cmd 1 = some c ∧ s.listening c = true ∧ c.kind = .flush ∧ c.phase = .admitted ∧ c.seq = true
      ∧ c.cap.nsid = 0xFFFFFFFF ∧ s.srcChain c = none := ⟨⟨wRef { cmdIn .read with lba := 8192 }, { cmdIn .read with lba := 8192 }, by decide⟩, ⟨wRef (cmdIn .read), cmdIn .read, by decide⟩,
    ⟨(wRef { cmdIn .write with src := .qp 0 0, key := some (0, ⟨1, 1, 0, 0, 0, 0, 0⟩) }).onRdma fun r => { r with qps := [(0, { Qp.reset with st := .ready, tenant := some 0 })] },
      { cmdIn .write with src := .qp 0 0, key := some (0, ⟨1, 1, 0, 0, 0, 0, 0⟩) }, ⟨true, false, false, 0, 0, 0, 8192, 0, 1, 0, 0, 7, 0⟩, by decide, rfl, by decide⟩,
    ⟨wRef { cmdIn .dsm with cap := { cap0 with dealloc := true, ranges := [(0, 1)], sglKeyed := true } },
      { cmdIn .dsm with cap := { cap0 with dealloc := true, ranges := [(0, 1)], sglKeyed := true } }, by decide⟩,
    ⟨(wRef { cmdIn .zeroes with key := some (0, ⟨1, 1, 0, 0, 0, 0, 0⟩) }).onBoot fun b => { b with board := { b.board with dramGib := 1024 } },
      { cmdIn .zeroes with key := some (0, ⟨1, 1, 0, 0, 0, 0, 0⟩) }, by decide, rfl, by decide⟩,
    ⟨wRef { cmdIn .compare with phase := .running, fetched := [(0, 0)], results := [(0, .zero)] },
      { cmdIn .compare with phase := .running, fetched := [(0, 0)], results := [(0, .zero)] }, by decide, rfl, by decide⟩,
    ⟨wRef { cmdIn .flush with cap := { cap0 with nsid := 0xFFFFFFFF } }, { cmdIn .flush with cap := { cap0 with nsid := 0xFFFFFFFF } }, by decide⟩⟩

theorem test_wit_AdminCommands :
    (∃ s : State, ∃ i k c, (s.qp 16383).ledgerWait = [] ∧ s.ctlOf 16383 = some (i, k) ∧ s.adminCap 16383 0x06 = some c ∧ c.cdw10 % 256 = 1
      ∧ (s.qp 16383).pmtu = 4096 ∧ s.sendRoom 16383 1 = true)
    ∧ (∃ s : State, ∃ i k c, s.ctlOf 16383 = some (i, k) ∧ s.adminCap 16383 0x06 = some c ∧ k.discovery = false ∧ c.cdw10 % 256 = 0 ∧ s.nsEntry (capNs c) = none)
    ∧ (∃ s : State, ∃ i k c, s.ctlOf 16383 = some (i, k) ∧ s.adminCap 16383 0x02 = some c ∧ k.discovery = false ∧ c.cdw10 % 256 ∉ [1, 5, 12] ∧ adminKind c = none)
    ∧ (∃ s : State, ∃ i k c, s.ctlOf 16383 = some (i, k) ∧ s.adminCap 16383 0x09 = some c ∧ c.cdw10 % 256 = 0x0F ∧ katoOk c.cdw11 = true)
    ∧ (∃ s : State, ∃ i k c, s.ctlOf 16383 = some (i, k) ∧ s.adminCap 16383 0x0A = some c ∧ c.cdw10 % 256 = 0x06)
    ∧ (∃ s : State, ∃ i k c, s.ctlOf 16383 = some (i, k) ∧ s.adminCap 16383 0x0C = some c ∧ k.aers.length < 4 ∧ k.noticePend = false ∧ s.criticalWarning = 0)
    ∧ (∃ s : State, ∃ i k c, s.ctlOf 16383 = some (i, k) ∧ s.adminCap 16383 0x18 = some c)
    ∧ (∃ s : State, ∃ i k c, s.ctlOf 16383 = some (i, k) ∧ s.adminCap 16383 0x08 = some c)
    ∧ (∃ s : State, ∃ c, s.cmd 1 = some c ∧ c.kind = .log ∧ c.phase = .admitted ∧ c.seq = true ∧ c.src = .peer 3 0 none)
    ∧ ∃ s : State, ∃ c, s.headCap 16383 (fun _ => true) = some c ∧ (s.qp 16383).chain = none ∧ (s.qp 16383).ctl.isSome = true
        ∧ capSupported (s.qp 16383).admin c = false := ⟨⟨wAdm { cap0 with opcode := 6, cdw10 := 1 }, 0, ctl0, { cap0 with opcode := 6, cdw10 := 1 }, by decide⟩,
    ⟨wAdm { cap0 with opcode := 6 }, 0, ctl0, { cap0 with opcode := 6 }, by decide⟩,
    ⟨wAdm { cap0 with opcode := 2, cdw10 := 9 }, 0, ctl0, { cap0 with opcode := 2, cdw10 := 9 }, by decide⟩,
    ⟨wAdm { cap0 with opcode := 9, cdw10 := 15, cdw11 := 1000 }, 0, ctl0, { cap0 with opcode := 9, cdw10 := 15, cdw11 := 1000 }, by decide⟩,
    ⟨wAdm { cap0 with opcode := 10, cdw10 := 6 }, 0, ctl0, { cap0 with opcode := 10, cdw10 := 6 }, by decide⟩,
    ⟨(wAdm { cap0 with opcode := 12 }).onLog fun l => { l with strikeArmed := true }, 0, ctl0, { cap0 with opcode := 12 }, by decide⟩,
    ⟨wAdm { cap0 with opcode := 24 }, 0, ctl0, { cap0 with opcode := 24 }, by decide⟩,
    ⟨wAdm { cap0 with opcode := 8 }, 0, ctl0, { cap0 with opcode := 8 }, by decide⟩,
    ⟨wRef (cmdIn .log), cmdIn .log, by decide⟩,
    ⟨wAdm { cap0 with opcode := 255 }, { cap0 with opcode := 255 }, by decide⟩⟩

theorem test_wit_FabricsCommands :
    (∃ s : State, ∃ c d, tabWf s.rdma.qps = true ∧ tabWf s.nvme.ctls = true ∧ (s.qp 0).ledgerWait = [] ∧ s.headCap 0 (fun c => c.opcode == 0x7F && c.fctype == 1) = some c
        ∧ c.connect = some d ∧ (s.qp 0).ctl = none ∧ s.fn.committed.isSome = true ∧ d.discovery = false ∧ d.subNqnOk = true ∧ s.hostTenant d.hostNqn = some 0
        ∧ s.reachesActive = true ∧ s.reserveCheck 0 (s.qp 0).entries = none ∧ c.cdw10 / 65536 = 0 ∧ d.cntlid = 0xFFFF ∧ c.cdw11 % 65536 < 32
        ∧ (s.qp 0).entries ≤ 32 ∧ katoOk c.cdw12 = true ∧ s.freeCtl = some 0)
    ∧ (∃ s : State, ∃ c d k, (s.qp 0).ledgerWait = [] ∧ s.headCap 0 (fun c => c.opcode == 0x7F && c.fctype == 1) = some c
        ∧ c.connect = some d ∧ (s.qp 0).ctl = none ∧ s.hostTenant d.hostNqn = some 0 ∧ c.cdw10 / 65536 = 64 ∧ d.cntlid = s.cntlid 0 ∧ tabGet s.nvme.ctls 0 = some k
        ∧ k.tenant = 0 ∧ k.discovery = false ∧ k.enabled = true ∧ ∀ e ∈ s.rdma.qps, e.2.ctl = some 0 → e.2.admin = true)
    ∧ (∃ s : State, ∃ i k c, s.ctlOf 16383 = some (i, k) ∧ s.fabricsCap 16383 4 = some c ∧ (s.qp 16383).admin = true ∧ c.cdw11 = 0x1C)
    ∧ (∃ s : State, ∃ i k c, s.ctlOf 16383 = some (i, k) ∧ s.fabricsCap 16383 0 = some c ∧ (s.qp 16383).admin = true ∧ c.cdw11 = 0x14 ∧ c.cdw12 % 2 = 0 ∧ k.enabled = true)
    ∧ (∃ s : State, ∃ i k c, s.ctlOf 16383 = some (i, k) ∧ s.fabricsCap 16383 8 = some c ∧ (s.qp 16383).admin = true)
    ∧ (∃ s : State, ∃ k, tabGet s.nvme.ctls 4095 = some k ∧ k.ready = true ∧ k.enabled = false ∧ s.rdma.qps = [])
    ∧ ∃ s : State, ∃ k, tabGet s.nvme.ctls 0 = some k ∧ 0 < k.kato ∧ k.lastAdmin + ms k.kato ≤ s.now := ⟨⟨wQp 0 { Qp.reset with st := .ready, entries := 32, inq := [{ cap0 with opcode := 0x7F, fctype := 1, cdw12 := 1000, connect := some ⟨5, true, false, 0xFFFF⟩ }] },
      { cap0 with opcode := 0x7F, fctype := 1, cdw12 := 1000, connect := some ⟨5, true, false, 0xFFFF⟩ }, ⟨5, true, false, 0xFFFF⟩, by
      simp only [State.freeCtl, List.find?_range_eq_some, List.mem_range]; decide⟩,
    ⟨(wQp 0 { Qp.reset with st := .ready, inq := [{ cap0 with opcode := 0x7F, fctype := 1, cdw10 := 4194304, connect := some ⟨5, true, false, 0x1000⟩ }] }).onNvme fun n =>
        { n with ctls := [(0, ctl0)] },
      { cap0 with opcode := 0x7F, fctype := 1, cdw10 := 4194304, connect := some ⟨5, true, false, 0x1000⟩ }, ⟨5, true, false, 0x1000⟩, ctl0, by decide⟩,
    ⟨wAdm { cap0 with opcode := 0x7F, fctype := 4, cdw11 := 0x1C }, 0, ctl0, { cap0 with opcode := 0x7F, fctype := 4, cdw11 := 0x1C }, by decide⟩,
    ⟨wAdm { cap0 with opcode := 0x7F, fctype := 0, cdw11 := 0x14 }, 0, ctl0, { cap0 with opcode := 0x7F, fctype := 0, cdw11 := 0x14 }, by decide⟩,
    ⟨wAdm { cap0 with opcode := 0x7F, fctype := 8 }, 0, ctl0, { cap0 with opcode := 0x7F, fctype := 8 }, by decide⟩,
    ⟨wRun.onNvme fun n => { n with ctls := [(4095, { ctl0 with enabled := false })] }, { ctl0 with enabled := false }, by decide⟩,
    ⟨wAdm cap0, ctl0, by decide⟩⟩

theorem test_wit_LedgerAndForwarding :
    (∃ s : State, ∃ c e, tabWf s.sched.cmds = true ∧ s.cmd 1 = some c ∧ s.listening c = true ∧ c.kind = .bind ∧ c.phase = .admitted ∧ c.seq = true
        ∧ s.nsEntry c.ns = some e ∧ e.nsType = 1 ∧ c.src = .peer 3 e.tenant none ∧ (s.chain (chainKey c.ns (c.cap.cdw11 % 65536))).bound = false)
    ∧ (∃ s : State, ∃ c e i k tq, tabWf s.sched.cmds = true ∧ s.cmd 1 = some c ∧ s.listening c = true ∧ c.kind = .bind ∧ c.phase = .admitted ∧ c.seq = true
        ∧ s.nsEntry c.ns = some e ∧ e.nsType = 1 ∧ c.src = .qp 16383 0 ∧ s.ctlOf 16383 = some (i, k) ∧ e.tenant = k.tenant ∧ s.bindTarget i c.cap = .inr tq
        ∧ (s.chain (chainKey c.ns (c.cap.cdw11 % 65536))).bound = false)
    ∧ (∃ s : State, tabWf s.nvme.resv = true ∧ s.active = true ∧ s.reserveCheck 0 65536 = none ∧ s.sched.inputs.length = 18 ∧ s.sched.peerHeld = [] ∧ s.canOrder = true)
    ∧ (∃ s : State, ∃ c i, s.headCap 0 (fun c => (capKind (s.qp 0).admin c).isSome) = some c ∧ capKind (s.qp 0).admin c = some .read ∧ s.pair.st = .standby
        ∧ (s.qp 0).ctl = some i ∧ s.fn.st = .running ∧ s.peerLink = true ∧ s.pair.peerState = some .active)
    ∧ ∃ s : State, ∃ c, tabWf s.nvme.forwards = true ∧ tabGet s.nvme.forwards 4 = some (0, c) ∧ c.opcode ≠ 0xC0 ∧ (s.qp 0).st = .ready ∧ (s.qp 0).ledgerWait = [] := ⟨⟨wLedger (cmdIn .bind), cmdIn .bind, ⟨true, false, false, 1, 0, 0, 8192, 0, 1, 0, 0, 7, 0⟩, by decide⟩,
    ⟨(wLedger { cmdIn .bind with src := .qp 16383 0 }).onRdma (fun r => { r with qps := [(0, { Qp.reset with st := .ready, ctl := some 0 }),
        (16383, { Qp.reset with st := .ready, ctl := some 0, admin := true })] }) |>.onNvme fun n => { n with ctls := [(0, ctl0)] },
      { cmdIn .bind with src := .qp 16383 0 }, ⟨true, false, false, 1, 0, 0, 8192, 0, 1, 0, 0, 7, 0⟩, 0, ctl0, 0, by decide⟩,
    ⟨wRun, by decide⟩,
    ⟨(wQp 0 { Qp.reset with st := .ready, ctl := some 0, inq := [{ cap0 with opcode := 2 }] }).onPair fun p => { p with st := .standby, peerState := some .active },
      { cap0 with opcode := 2 }, 0, by decide⟩,
    ⟨(wQp 0 { Qp.reset with st := .ready }).onNvme fun n => { n with forwards := [(4, (0, cap0))] }, cap0, by decide⟩⟩

theorem test_wit_PlacingAndMirroring :
    (∃ s : State, ∃ c o, tabWf s.sched.cmds = true ∧ s.log.streams.length = 64 ∧ s.cmd 1 = some c ∧ c.kind = .write ∧ c.phase = .running
      ∧ c.units[3]? = some .whole ∧ s.pair.st ≠ .lapsed ∧ s.log.strike = .idle ∧ s.holder = true ∧ s.roomFor c.stream (unitLen c.len 3) = true
      ∧ s.dirty + unitLen c.len 3 ≤ s.dirtyBudget ∧ c.chain = none ∧ c.stream < 64 ∧ ({ c with units := putNth c.units 3 .placed }).allPlaced = false
      ∧ (s.stream c.stream).stripe = some o ∧ o.next = [] ∧ s.now ≤ o.since + us (s.deadline c.stream) ∧ unitLen c.len 3 < s.freePos c.stream)
    ∧ (∃ s : State, ∃ c, tabWf s.sched.cmds = true ∧ s.cmd 1 = some c ∧ c.kind = .write ∧ c.phase = .running ∧ c.units[3]? = some .whole ∧ s.pair.st ≠ .lapsed
      ∧ s.log.strike = .idle ∧ s.holder = true ∧ s.roomFor c.stream (unitLen c.len 3) = true ∧ s.dirtyBudget < s.dirty + unitLen c.len 3)
    ∧ (∃ s : State, ∃ c, tabWf s.sched.cmds = true ∧ s.cmd 1 = some c ∧ c.mirrorLost = false ∧ c.allPlaced = true ∧ c.kind = .write ∧ c.acked = false
      ∧ s.pair.st = .active ∧ s.log.strike = .idle ∧ s.log.strikeArmed = true ∧ s.listening c = true ∧ s.now < c.placedAt + us 100)
    ∧ (∃ s : State, ∃ c, tabWf s.sched.cmds = true ∧ s.cmd 1 = some c ∧ c.mirrorLost = false ∧ c.allPlaced = true ∧ c.kind = .write
      ∧ s.pair.st = .active ∧ c.mirrored = false ∧ c.placedAt + us 100 ≤ s.now)
    ∧ ∃ s : State, s.pair.st = .standby := ⟨⟨(wUnits [.placed, .placed, .fetching, .whole]).onFn fun f => { f with committed := some { img0 with streams := { img0.streams with dirtyBudget := 300 } } },
      cmdUnits [.placed, .placed, .fetching, .whole], ⟨[], 0, []⟩, by decide⟩,
    ⟨wUnits [.placed, .placed, .fetching, .whole], cmdUnits [.placed, .placed, .fetching, .whole], by decide⟩,
    ⟨(wRef { cmdIn .write with units := [.placed], phase := .running }).onLog fun l => { l with strikeArmed := true },
      { cmdIn .write with units := [.placed], phase := .running }, by decide⟩,
    ⟨(wRef { cmdIn .write with units := [.placed], phase := .running }).onClk fun c => { c with base := secs 1 },
      { cmdIn .write with units := [.placed], phase := .running }, by decide⟩,
    ⟨State.reset.onPair fun p => { p with st := .standby }, rfl⟩⟩

theorem test_wit_JournalsAndUpdates :
    (∃ s : State, ∃ p, s.pair.st = .standby ∧ tabWf s.map.gmd = true ∧ tabWf s.map.pool = true ∧ s.slotOf (s.mpnOf 1 0) = some p ∧ tabWf p.entries = true
      ∧ s.tcHit (lineAddr (s.mpnOf 1 0) 0) = none ∧ tabWf s.log.chains = true ∧ tabWf s.nvme.resv = true ∧ tabWf s.cip.slots = true)
    ∧ (∃ s : State, ∃ o u pages, (s.stream 63).stripe = some o ∧ o.next = [] ∧ s.log.streams.length = 64 ∧ o.since + us (s.deadline 63) ≤ s.now ∧ o.sectors ≠ []
      ∧ tabWf s.log.stripes = true ∧ (s.stream 63).openUnit = some u ∧ s.members 63 u = some (0, pages) ∧ pages.all Option.isSome = true ∧ s.stripeSectors ≠ 0)
    ∧ (∃ s : State, ∃ p, s.log.sjPage = some p ∧ p.since + us 20 ≤ s.now)
    ∧ (∃ s : State, ∃ x e slot, tabGet s.log.stripes 0 = some x ∧ x.st = .committed ∧ x.due 0 = [0] ∧ x.sectors[0]? = some e ∧ e.source = none ∧ s.updateWaits 0 = false
      ∧ tabGet s.sched.overlap 0 = none ∧ s.slotOf (s.mpnOf (mdNs e.payload) (mdLba e.payload)) = some slot ∧ tabWf slot.entries = true ∧ tabWf s.map.gmd = true
      ∧ s.map.applied < updateLimit ∧ tabWf s.map.pool = true ∧ s.tcHit (lineAddr (s.mpnOf (mdNs e.payload) (mdLba e.payload)) (mdLba e.payload)) = none)
    ∧ ∃ s : State, ∃ c slot, s.slotOf 0 = some slot ∧ s.map.waits.filter (fun w => w.1 == 0) = [(0, .read 1)] ∧ s.cmd 1 = some c ∧ c.results = [(0, .waiting)]
      ∧ s.ovWrite 1 c.ns c.lba = none ∧ s.mpnOf c.ns c.lba = 0 ∧ s.tcSound (lineAddr 0 c.lba) = true ∧ s.tcHit (lineAddr 0 c.lba) = none
      ∧ (s.tc.miss.filter fun m => tcSet m.la % 4 == tcSet (lineAddr 0 c.lba) % 4).length < 64 := ⟨⟨(wPage wRun).onPair fun p => { p with st := .standby }, page0, by decide⟩,
    ⟨wStripe, ⟨[⟨0, none, false⟩], 0, []⟩, 0, (wStripe.members 63 0).elim [] (·.2), by decide +kernel⟩,
    ⟨wHot id |>.onLog fun l => { l with sjPage := some ⟨[], 0, [], 0⟩ }, ⟨[], 0, [], 0⟩, by decide⟩,
    ⟨(wPage wRun).onLog fun l => { l with stripes := [(0, stripe0)] }, stripe0, ⟨0, none, false⟩, page0, by decide +kernel⟩,
    ⟨((wPage (wCmd .read)).onSched fun x => { x with cmds := [(1, { cmdOf .read with results := [(0, .waiting)] })] }).onMap fun m => { m with waits := [(0, .read 1)] },
      { cmdOf .read with results := [(0, .waiting)] }, page0, by decide⟩⟩

theorem test_wit_ReclaimAndStrike :
    (∃ s : State, s.logRuns = true ∧ s.reclaimReserve < s.freeUnits ∧ tabWf s.log.units = true ∧ s.victims = [0] ∧ s.score 0 < 2 ^ 110)
    ∧ (∃ s : State, ∃ u i p, s.locUnit 0 = some u ∧ s.logRuns = true ∧ (s.unit u).st = .victim ∧ (s.stripsIn u).contains (pageSet 0) = false
      ∧ s.map.pool.find? (fun e => e.2.loc == 0) = some (i, p) ∧ tabWf s.map.gmd = true ∧ s.sheet.programsHeld = false ∧ tabWf s.log.units = true ∧ s.eraseMay u = true)
    ∧ (∃ s : State, ∃ u, s.logRuns = true ∧ s.eraseMay u = false ∧ s.eraseWaits u = true)
    ∧ (∃ s : State, s.logRuns = true ∧ s.log.ckpt = none ∧ s.fn.committed.isSome = true ∧ s.log.strike = .idle)
    ∧ (∃ s : State, s.bpd.strikeTrig = true ∧ s.awake = true ∧ s.holder = true ∧ s.log.strike = .idle ∧ s.bpd.sel ≠ .holdup ∧ s.log.streams.length = 64)
    ∧ ∃ s : State, s.bpd.strikeTrig = true ∧ s.awake = true ∧ s.holder = false := ⟨⟨wUnit .closed, by decide⟩, ⟨wUnit .victim, 0, 0, page0, by decide⟩,
    ⟨((wUnit .victim).onFn fun f => { f with committed := some { img1 with decl := { img1.decl with types := [⟨16, 0, 1, 51, 0, 0, 0, 0, 0, 0, 0, 0, 0⟩] } } }).onLog
        fun l => { l with root := none, units := (List.range 50).map fun i => (i, { UnitRec.blank with st := .victim }) }, 0, by decide⟩, ⟨wRun, by decide⟩,
    ⟨wRun.onBpd fun b => { b with strikeTrig := true }, by decide⟩,
    ⟨(wRun.onBpd fun b => { b with strikeTrig := true }).onPair fun p => { p with st := .standby }, by decide⟩⟩

theorem test_wit_LinkTraining :
    (∃ s : State, s.sheet.ports.length = 48 ∧ s.awake = true ∧ (s.port 47).st = .training ∧ (s.port 47).attempts < 3 ∧ (s.port 47).lane0.retired = false
      ∧ (s.port 47).lane1.retired = false ∧ (s.port 47).lane0.failed < 2 ∧ (s.port 47).lane1.failed < 2)
    ∧ (∃ s : State, s.awake = true ∧ (s.port 47).st = PortState.retrain)
    ∧ (∃ s : State, ∃ i : SheetInit, s.awake = true ∧ (s.port 47).initing = true ∧ i.reserved = 0 ∧ i.version = 1 ∧ i.port + 1 = s.boot.board.slot
      ∧ s.minCmdCredit ≤ i.crCmd ∧ 32 ≤ i.crData ∧ (s.port 47).seenSent = true ∧ i.seen = true ∧ i.lanes = 3 ∧ (s.port 47).lane0.locked = true
      ∧ (s.port 47).lane1.locked = true ∧ (s.port 47).modSt = .linking)
    ∧ (∃ s : State, s.awake = true ∧ (s.port 0).up = true ∧ ((s.port 0).lane (1 : Fin 2)).locked = true ∧ ((s.port 0).lane (1 : Fin 2)).lossTimes = [])
    ∧ (∃ s : State, s.awake = true ∧ s.holder = true ∧ (s.port 0).modSt = .unreachable ∧ (s.port 0).unreachSince + secs 1 ≤ s.now)
    ∧ ∃ s : State, s.awake = true ∧ (s.port 0).modSt = .fencing := ⟨⟨wPort 47 fun p => { p with st := .training }, by decide⟩, ⟨wPort 47 fun p => { p with st := PortState.retrain }, by decide⟩,
    ⟨wPort 47 fun p => { p with st := .init, modSt := .linking, seenSent := true, lane0 := { p.lane0 with locked := true }, lane1 := { p.lane1 with locked := true } },
      ⟨1, 0, 3, 80, 32, 0, 0, 0, 0, true⟩, by decide⟩,
    ⟨wPort 0 fun p => { p with st := .up, lane1 := { p.lane1 with locked := true, lossTimes := [] } }, by decide⟩,
    ⟨wPort 0 fun p => { p with modSt := .unreachable }, by decide⟩, ⟨wPort 0 fun p => { p with modSt := .fencing }, by decide⟩⟩

theorem test_wit_LinkFrames :
    (∃ s : State, ∃ h : SheetHdr, s.sheet.ports.length = 48 ∧ s.awake = true ∧ (s.port 47).up = true ∧ h.crcOk = true ∧ h.len ≤ 4608 ∧ h.reserved = 0
      ∧ h.flags = 0 ∧ h.type = 0x30 ∧ h.seq = (s.port 47).rxSeq ∧ s.quiet = true ∧ (s.port 47).ackDue = true)
    ∧ (∃ s : State, ∃ pre f g, s.awake = true ∧ (s.port 47).up = true ∧ (s.port 47).replay = pre ++ [f, g] ∧ (∀ x ∈ pre, x.seq ≠ f.seq) ∧ s.quiet = true
      ∧ g.replays = 7)
    ∧ (∃ s : State, ∃ f, s.awake = true ∧ (s.port 0).up = true ∧ (s.port 0).replay = [f] ∧ 8 ≤ f.replays ∧ (s.port 0).failTimes = [])
    ∧ ∃ s : State, s.awake = true ∧ (s.port 0).up = true ∧ (s.port 0).modSt = .ready ∧ s.canAsk (0 : Fin 48) 4 = true ∧ s.canAsk (0 : Fin 48) 5 = true := ⟨⟨wPort 47 fun p => { p with st := .up, ackDue := true }, { shdr0 with type := 0x30 }, by decide⟩,
    ⟨wPort 47 fun p => { p with st := .up1, replay := [⟨1, 0, 0, 0⟩, ⟨2, 0, 0, 0⟩, ⟨3, 0, 0, 7⟩] }, [⟨1, 0, 0, 0⟩], ⟨2, 0, 0, 0⟩, ⟨3, 0, 0, 7⟩, by decide⟩,
    ⟨wPort 0 fun p => { p with st := .up, replay := [⟨1, 0, 0, 8⟩] }, ⟨1, 0, 0, 8⟩, by decide⟩,
    ⟨wPort 0 fun p => { p with st := .up, modSt := .ready, crCmd := 1 }, by decide⟩⟩

theorem test_wit_OperationEnds :
    (∃ s : State, ∃ op j r, s.sheet.ports.length = 48 ∧ s.awake = true ∧ tabWf (s.port 47).ops = true ∧ tabGet (s.port 47).ops 4094 = some op
      ∧ (s.port 47).up = true ∧ op.timedOut = false ∧ op.code = 1 ∧ op.user = .read j ∧ tabWf s.rd.jobs = true ∧ tabGet s.rd.jobs j = some r
      ∧ op.cwmask.getLsbD 15 = true ∧ op.requery = true ∧ s.canAsk (47 : Fin 48) 4 = true ∧ s.now ≤ op.due ∧ s.bpd.sel ≠ .holdup ∧ s.quiet = true
      ∧ s.decodeRoom (47 : Fin 48) = true)
    ∧ (∃ s : State, ∃ op, s.awake = true ∧ tabWf (s.port 0).ops = true ∧ tabGet (s.port 0).ops 0 = some op ∧ (s.port 0).up = true ∧ op.timedOut = false
      ∧ op.code = 4 ∧ op.user = .other ∧ s.now ≤ op.due ∧ s.bpd.sel ≠ .holdup)
    ∧ (∃ s : State, ∃ op, s.awake = true ∧ tabGet (s.port 0).ops 0 = some op ∧ (s.port 0).up = true ∧ op.timedOut = false ∧ op.code = 8 ∧ op.user = .other ∧ s.now ≤ op.due
      ∧ s.med.health.length = 48)
    ∧ (∃ s : State, ∃ op, s.awake = true ∧ tabGet (s.port 0).ops 0 = some op ∧ op.timedOut = true)
    ∧ ∃ s : State, ∃ op, s.awake = true ∧ tabGet (s.port 0).ops 0 = some op ∧ op.timedOut = false ∧ op.code = 0x0B ∧ op.due ≤ s.now ∧ s.bpd.sel ≠ .holdup ∧ s.quiet = true := ⟨⟨(wPort 47 fun p => { p with st := .up, crCmd := 1, ops := [(4094, { op0 1 with user := .read 0, cwmask := 0x8000, requery := true })] }).onRd fun x =>
        { x with jobs := [(0, job0 0)] },
      { op0 1 with user := .read 0, cwmask := 0x8000, requery := true }, 0, job0 0, by decide⟩,
    ⟨wPort 0 fun p => { p with st := .up, ops := [(0, op0 4)] }, op0 4, by decide⟩,
    ⟨wPort 0 fun p => { p with st := .up, ops := [(0, op0 8)] }, op0 8, by decide⟩,
    ⟨wPort 0 fun p => { p with st := .up, ops := [(0, { op0 4 with timedOut := true })] }, { op0 4 with timedOut := true }, by decide⟩,
    ⟨wPort 0 fun p => { p with st := .up, ops := [(0, op0 0x0B)] }, op0 0x0B, by decide⟩⟩

theorem test_wit_MediaWork :
    (∃ s : State, ∃ r raw c, s.awake = true ∧ s.med.health.length = 48 ∧ tabWf s.rd.jobs = true ∧ tabGet s.rd.jobs 0 = some r ∧ r.phase = .decoding ∧ r.raw = some raw
      ∧ r.user = .host 1 0 ∧ tabWf s.sched.cmds = true ∧ s.cmd 1 = some c ∧ r.attempt = 0 ∧ r.attempt < r.cap ∧ s.quiet = true)
    ∧ (∃ s : State, ∃ p, s.awake = true ∧ s.med.probes.find? (fun p => !p.inflight) = some p ∧ s.backLeft 7 ≠ 0 ∧ s.placeLost p.loc = false
      ∧ s.readable (locBay p.loc) = true)
    ∧ (∃ s : State, ∃ d, s.awake = true ∧ s.desc 47 = some d)
    ∧ (∃ s : State, ∃ e d, s.awake = true ∧ e ∈ s.med.blocks ∧ s.desc (e.1 / 16384 / 128) = some d ∧ e.2.st = .programmed
      ∧ 8 * d.retHours * 3600 ≤ 10 * s.blockAge (e.1 / 16384 / 128) e.2)
    ∧ ∃ s : State, s.awake = true ∧ s.logRuns = true ∧ s.victims ≠ [] ∧ 2 * s.reclaimReserve < s.freeUnits ∧ tabWf s.log.units = true
      ∧ s.wear 0 = 1 ∧ (s.bays.filterMap fun b => (s.desc b).map fun d => d.peRated) = [1] ∧ s.log.units.length = 2 := ⟨⟨(wCmd .read).onRd fun x => { x with jobs := [(0, { job0 0 with user := .host 1 0, phase := .decoding, raw := some 0, cap := 1 })] },
      { job0 0 with user := .host 1 0, phase := .decoding, raw := some 0, cap := 1 }, 0, cmdOf .read, rfl, by decide, by decide, rfl, rfl, rfl, rfl, by decide, rfl, rfl, by decide⟩,
    ⟨wProbe, ⟨0, 1, 2, [], false⟩, by decide⟩,
    ⟨wPort 47 fun p => { p with desc := some desc0 }, desc0, by decide⟩,
    ⟨(wPort 0 fun p => { p with desc := some { desc0 with retHours := 0 } }).onMed fun m => { m with blocks := [(0, blk0)] }, (0, blk0),
      { desc0 with retHours := 0 }, by decide⟩,
    ⟨wWear, by decide⟩⟩

theorem test_wit_CacheLines :
    (∃ s : State, ∃ m p w, tabWf s.tc.lines = true ∧ s.tc.miss.find? (fun m => m.la == 0) = some m ∧ s.slotOf (0 / 68) = some p ∧ m.way = some w ∧ m.lock = false
      ∧ w = 15 ∧ s.tc.lockMask.getLsbD w = false ∧ m.dropV = false ∧ m.parked = [] ∧ m.updates = [] ∧ s.tc.queue = [])
    ∧ (∃ s : State, ∃ e p, tabWf s.tc.lines = true ∧ s.tc.wb = [e] ∧ e.frame + 64 ≤ s.clk.frame ∧ s.slotOf (e.la / 68) = some p ∧ tabWf s.map.pool = true
      ∧ tabWf p.entries = true ∧ e.way < 16 ∧ (s.tcWayOf (tcSet e.la) e.way).v = true ∧ (s.tcWayOf (tcSet e.la) e.way).la = e.la
      ∧ (s.tcWayOf (tcSet e.la) e.way).dirtyMask ≠ 0)
    ∧ (∃ s : State, ∃ v : BitVec 32, tabWf s.tc.lines = true ∧ s.lockOk (v.setWidth 16) = true ∧ (v.setWidth 16 : BitVec 16).getLsbD 15 = true)
    ∧ (∃ s : State, tabWf s.tc.lines = true ∧ s.tc.lockNext = some 0x8000 ∧ s.tc.pinQueue = [] ∧ s.tc.lockMask = 0)
    ∧ (∃ s : State, tabWf s.tc.lines = true ∧ s.tc.reqOff.getLsbD 3 = true ∧ s.tc.on.getLsbD 3 = true)
    ∧ ∃ s : State, tabWf s.tc.lines = true ∧ s.tc.reqOff.getLsbD 3 = false ∧ s.tc.on.getLsbD 3 = false := ⟨⟨(wPage wRun).onTc fun t => { t with miss := [⟨0, some 15, false, false, 0, [], [], false⟩] }, ⟨0, some 15, false, false, 0, [], [], false⟩, page0, 15, by decide⟩,
    ⟨((wPage wRun).onClk fun c => { c with frame := 64 }).onTc fun t => { t with wb := [⟨0, 0, 0⟩], lines := [(0, { TcLine.blank with v := true, dirtyMask := 1, entries := List.replicate 12 0 })] },
      ⟨0, 0, 0⟩, page0, by decide⟩,
    ⟨wRun.onTc fun t => { t with on := 0xF }, 0x8000, by decide⟩,
    ⟨wRun.onTc fun t => { t with lockNext := some 0x8000 }, by decide⟩,
    ⟨wRun.onTc fun t => { t with on := 0xF, reqOff := 8 }, by decide⟩, ⟨wRun.onTc fun t => { t with on := 0 }, by decide⟩⟩

theorem test_wit_RangeEngine :
    (∃ s : State, tabWf s.tc.lines = true ∧ s.rangeBusy = true) ∧ (∃ s : State, s.rangeBusy = false ∧ s.nsEntry 0 = none)
    ∧ (∃ s : State, ∃ o : RangeOp, ∃ e, s.rangeBusy = false ∧ s.nsEntry o.ns = some e ∧ o.byNs = false ∧ o.lba + o.len < e.capacity ∧ s.rangeLines o = some (0, 0)
      ∧ s.tcHit 0 = none ∧ (s.gmd (0 / 68)).resident = true ∧ s.tc.miss = [] ∧ s.tc.lockMask ≠ 0)
    ∧ ∃ s : State, s.tc.busy = true ∧ s.tc.range = [] ∧ s.tc.pinQueue = [] ∧ s.tc.errCode ≠ 5 ∧ s.tc.goMbx = some 63 ∧ 63 < s.mgmt.mbx.length
      ∧ (s.mbx 63).wait = .running 0x0600 := ⟨⟨wRun.onTc fun t => { t with busy := true }, by decide⟩, ⟨State.reset, by decide⟩,
    ⟨(wPage wRun).onTc fun t => { t with lockMask := 16 }, ⟨false, false, 1, 0, 0⟩, ⟨true, false, false, 0, 0, 0, 8192, 0, 1, 0, 0, 7, 0⟩, by decide⟩,
    ⟨(wRun.onTc fun t => { t with busy := true, goMbx := some 63 }).onMbx 63 fun b => { b with wait := .running 0x0600 }, by decide⟩⟩

theorem test_wit_RebuildWork :
    (∃ s : State, s.awake = true ∧ s.rebuildMay = true ∧ s.reb.st = .journal ∧ s.reb.journalLost = [])
    ∧ (∃ s : State, ∃ u i r l d, s.awake = true ∧ s.rebuildMay = true ∧ s.reb.retryHeld = false ∧ s.backLeft 6 ≠ 0 ∧ s.nextStripe = some (u, i) ∧ s.reb.st = .single
      ∧ s.goneRoles u i = [r] ∧ s.worthRepair u i r = true ∧ s.inBatch u i r = false ∧ tabGet s.reb.dirs u = some d ∧ abandonedIn d i = false ∧ 1 ≤ s.pl.parity
      ∧ (s.repairTarget u i).isSome = true ∧ s.batchRoom 1 = true ∧ s.roleLoc u i r = some l)
    ∧ (∃ s : State, s.awake = true ∧ s.rebuildMay = true ∧ s.reb.retryHeld = true ∧ s.reb.batchPhase = 0 ∧ s.backLeft 6 ≠ 0 ∧ s.nextStripe = none ∧ s.reb.batch = []
      ∧ s.reb.st = .single)
    ∧ (∃ s : State, ∃ e, s.awake = true ∧ s.rebuildMay = true ∧ s.reb.st = .journal ∧ s.reb.journalLost = [e] ∧ s.jaltFor e = some 2 ∧ e = 63)
    ∧ (∃ s : State, ∃ e, s.awake = true ∧ s.rebuildMay = true ∧ s.reb.st = .journal ∧ s.reb.journalLost = [e] ∧ s.jaltFor e = some 2 ∧ e = 64 ∧ tabWf s.log.rootMoved = true)
    ∧ (∃ s : State, ∃ q d, s.awake = true ∧ s.rebuildMay = true ∧ s.reb.batch = [q] ∧ s.sheet.programsHeld = false ∧ s.reb.batchPhase = 1 ∧ q.reserved = true
      ∧ q.programmed = true ∧ q.unit = 0 ∧ tabWf s.reb.dirs = true ∧ tabGet s.reb.dirs q.unit = some d ∧ s.dirDurable = true ∧ (s.unit q.unit).st ≠ .free)
    ∧ (∃ s : State, ∃ q, s.rebuildMay = true ∧ s.reb.batch = [q] ∧ s.sheet.programsHeld = false ∧ s.reb.batchPhase = 2 ∧ s.pl.data ≤ q.role
      ∧ s.dirDurable = true ∧ s.map.applied + 16 ≤ updateLimit)
    ∧ (∃ s : State, ∃ g p e, s.rebuildMay = true ∧ s.reb.st = .sweep ∧ s.map.gmd.find? (fun e => decide (s.reb.sweepMpn ≤ e.1) && !s.sysPage e.1 && (e.2.resident || !e.2.empty)) = some (0, g)
      ∧ tabWf s.map.gmd = true ∧ tabWf s.map.pool = true ∧ s.slotOf 0 = some p ∧ p.entries = [(0 % 816, e)] ∧ s.ownerOf 0 (0 % 816) = some (1, 0) ∧ s.mpnOf 1 0 = 0
      ∧ s.tc.lines = [] ∧ s.map.applied + 816 ≤ updateLimit ∧ isLoc e = true ∧ s.reb.lostCw.contains e = true ∧ s.stripeOf e = none)
    ∧ (∃ s : State, ∃ x, s.awake = true ∧ s.rebuildMay = true ∧ s.reb.rewrite = [x] ∧ s.reb.st = .idle ∧ s.backLeft 6 ≠ 0 ∧ s.blockPages x = [])
    ∧ ∃ s : State, ∃ user loc, s.awake = true ∧ s.rebuildMay = true ∧ s.patrolTodo[s.reb.patrolRole]? = some (user, loc) ∧ s.patrolAsk ≠ 0 ∧ s.rowStep = false
      ∧ s.placeLost loc = false ∧ s.readable (locBay loc) = true ∧ s.rd.jobs = [] := ⟨⟨wReb fun r => { r with st := .journal }, by decide⟩,
    ⟨wReb fun r => { r with st := .single }, 0, 0, 0, mkLoc 1 0 0 0 0, dir0, by decide⟩,
    ⟨wReb fun r => { r with st := .single, retryHeld := true, dirs := [] }, by decide⟩,
    ⟨wReb fun r => { r with st := .journal, journalLost := [63] }, 63, by decide⟩,
    ⟨wReb fun r => { r with st := .journal, journalLost := [64] }, 64, by decide⟩,
    ⟨wSys (wReb fun r => { r with batch := [rep0], batchPhase := 1 }), rep0, dir0, by decide +kernel⟩,
    ⟨wSys (wReb fun r => { r with batch := [rep0], batchPhase := 2 }), rep0, by decide +kernel⟩,
    ⟨(wReb fun r => { r with st := .sweep, lostCw := [0], dirs := [] }).onMap fun m => { m with pool := [(0, { page0 with entries := [(0, 0)] })] },
      ⟨true, false, false, false, 0, 0⟩, { page0 with entries := [(0, 0)] }, 0, by decide, by decide, by decide, by decide, by decide, by decide, rfl, by decide,
      by decide, by decide, by decide, by decide, by decide, by decide⟩,
    ⟨wReb fun r => { r with rewrite := [⟨0, 0, 1⟩] }, ⟨0, 0, 1⟩, by decide⟩,
    ⟨(wReb fun r => { r with loss := [] }).onSheet fun x => { x with media := [(0, 0)] }, _, _, by decide, by decide, rfl, by decide, by decide, by decide, by decide, by decide⟩⟩

theorem test_wit_LeaseMessages :
    (∃ s : State, ∃ m : LeaseMsg, s.awake = true ∧ s.sheet.ports.length = 48 ∧ s.pair.st = .standby ∧ s.pair.seenTerm ≤ m.term ∧ leaseValid m = true ∧ m.type = 1
      ∧ s.pair.lastRenew + (s.leaseLen + s.takerGuard) = s.now)
    ∧ (∃ s : State, ∃ m : LeaseMsg, s.awake = true ∧ s.sheet.ports.length = 48 ∧ s.pair.st = .standby ∧ m.term ≤ s.pair.seenTerm ∧ leaseValid m = true ∧ m.type = 1
      ∧ s.pair.lastRenew + (s.leaseLen + s.takerGuard) < s.now)
    ∧ (∃ s : State, ∃ m : LeaseMsg, s.awake = true ∧ s.sheet.ports.length = 48 ∧ s.holder = true ∧ s.pair.term < m.term ∧ leaseValid m = true ∧ m.type = 1)
    ∧ (∃ s : State, ∃ m : LeaseMsg, ∃ e, s.awake = true ∧ s.holder = true ∧ leaseValid m = true ∧ m.type = 2 ∧ m.term = s.pair.term
      ∧ s.pair.sent.find? (fun e => e.1 == m.seq) = some e ∧ s.pair.hold = .granted ∧ s.pair.expiry = s.now + s.holderGuard)
    ∧ (∃ s : State, ∃ m : LeaseMsg, s.awake = true ∧ s.holder = true ∧ leaseValid m = true ∧ m.type = 2 ∧ m.term = s.pair.term ∧ s.pair.hold = .granted
      ∧ s.pair.expiry < s.now + s.holderGuard)
    ∧ (∃ s : State, ∃ m : LeaseMsg, s.awake = true ∧ s.pair.st = .joining ∧ leaseValid m = true ∧ m.type = 3 ∧ m.withdraw = false ∧ s.pair.term ≤ m.term)
    ∧ (∃ s : State, ∃ m : LeaseMsg, s.awake = true ∧ s.holder = true ∧ leaseValid m = true ∧ m.type = 3 ∧ m.withdraw = true ∧ m.term ≤ s.pair.term)
    ∧ (∃ m : LeaseMsg, leaseValid m = true ∧ m.type = 4)
    ∧ (∃ s : State, s.awake = true ∧ s.pair.st = .init ∧ 10 ≤ s.boot.step ∧ s.fn.refusal = 0 ∧ s.fn.committed.isSome = true ∧ s.fn.st ≠ .fenced
      ∧ s.pair.initSince + 2 * s.leaseLen ≤ s.now ∧ s.pair.lastRenew = 0 ∧ s.peerSilent = true)
    ∧ ∃ s : State, s.awake = true ∧ s.pair.st = .lapsed ∧ s.fn.st ≠ .fenced ∧ s.pair.lapsedT + s.takerGuard + ms 12 ≤ s.now ∧ s.pair.heardSince = false
      ∧ s.pair.takeStep ≠ 0 ∧ ∀ p ∈ s.sheet.ports, p.up = true → (∀ e ∈ p.ops, e.2.code ≠ 4) ∧ p.answered = false := ⟨⟨wPair fun p => { p with st := .standby, lastRenew := (wPort 0 id).now - ((wPort 0 id).leaseLen + (wPort 0 id).takerGuard) }, lease0, by decide⟩, ⟨wPair fun p => { p with st := .standby }, lease0, by decide⟩,
    ⟨wPair fun p => p, { lease0 with term := 1 }, by decide⟩,
    ⟨wPair fun p => { p with sent := [(0, 5)], hold := .granted, expiry := secs 100 + ms 2 }, { lease0 with type := 2 }, (0, 5), by decide⟩,
    ⟨wPair fun p => { p with hold := .granted, expiry := secs 100 }, { lease0 with type := 2 }, by decide⟩,
    ⟨wPair fun p => { p with st := .joining }, { lease0 with type := 3 }, by decide⟩,
    ⟨wPair fun p => p, { lease0 with type := 3, withdraw := true }, by decide⟩, ⟨{ lease0 with type := 4 }, by decide⟩,
    ⟨(wPair fun p => { p with st := .init }).onBoot fun b => { b with step := 10 }, by decide⟩,
    ⟨wPair fun p => { p with st := .lapsed, takeStep := 1 }, by decide⟩⟩

theorem test_wit_PairChanges :
    (∃ s : State, s.awake = true ∧ s.sheet.ports.length = 48 ∧ s.pair.groups.length = 2 ∧ s.pair.groupTries.length = 2 ∧ s.pair.st = .taking ∧ s.pair.takeStep = 2 ∧ s.statusOut = false)
    ∧ (∃ s : State, s.awake = true ∧ s.pair.st = .taking ∧ s.pair.takeStep = 3 ∧ s.sheet.ports.any (fun p => p.modSt == .fencing) = true)
    ∧ (∃ s : State, s.awake = true ∧ s.pair.st = .taking ∧ s.pair.takeStep = 3 ∧ s.sheet.ports.any (fun p => p.modSt == .fencing) = false ∧ 11 ≤ s.boot.step
      ∧ s.pair.take = .probe ∧ s.cip.epochs.length < 1048576)
    ∧ (∃ s : State, s.awake = true ∧ s.pair.st = .taking ∧ s.pair.takeStep = 6 ∧ 12 ≤ s.boot.step ∧ s.log.rootImage = none)
    ∧ (∃ s : State, s.awake = true ∧ s.pair.st = .taking ∧ s.pair.takeStep = 7 ∧ s.log.ckpt = none ∧ 13 ≤ s.boot.step ∧ s.fn.st = .running)
    ∧ (∃ s : State, s.awake = true ∧ (s.shroud .b).lost = false ∧ (s.shroud .b).times.foldl max s.pair.initSince + ms 24 ≤ s.now)
    ∧ (∃ s : State, s.awake = true ∧ nth s.pair.groups 1 false = true ∧ 2 ≤ nth s.pair.groupTries 1 0 ∧ nth s.pair.groups 0 true = false ∧ s.pair.st = .active)
    ∧ (∃ s : State, s.awake = true ∧ s.pair.st = .joining ∧ s.peerLink = true ∧ s.fn.st = .running)
    ∧ (∃ s : State, s.swapIdle = true ∧ s.setting 12 ≠ 0 ∧ s.pair.swap.postponed = false ∧ s.pair.swap.lastEnd + secs (3600 * s.setting 12) ≤ s.now ∧ s.swapLack = 0)
    ∧ (∃ s : State, s.swapIdle = true ∧ s.pair.swap.reachSince = some 0 ∧ 0 + ms 100 ≤ s.now ∧ ones s.reach < ones s.pair.peerReach ∧ s.swapLack = 0
      ∧ s.pair.swap.lastEnd + secs 2 ≤ s.now)
    ∧ (∃ s : State, s.awake = true ∧ s.active = true ∧ s.pair.swap.running = true ∧ s.fn.st = .draining ∧ s.sched.cmds = [] ∧ s.fn.drain = some .swap)
    ∧ ∃ s : State, s.awake = true ∧ s.sched.cmds = [] ∧ s.fn.st = .draining ∧ s.fn.drain ≠ some .swap ∧ s.holder = true ∧ (∀ x ∈ s.log.streams, x.stripe = none)
      ∧ s.log.stripes = [] ∧ s.drainedLog = true := ⟨⟨wPair fun p => { p with st := .taking, takeStep := 2 }, by decide⟩,
    ⟨(wPort 0 fun p => { p with modSt := .fencing }).onPair fun p => { p with st := .taking, takeStep := 3 }, by decide⟩,
    ⟨(wPair fun p => { p with st := .taking, takeStep := 3, take := .probe }).onBoot fun b => { b with step := 13 }, by decide⟩,
    ⟨(wPair fun p => { p with st := .taking, takeStep := 6, take := .probe }).onBoot fun b => { b with step := 13 }, by decide⟩,
    ⟨(wPair fun p => { p with st := .taking, takeStep := 7, take := .probe }).onBoot fun b => { b with step := 13 }, by decide⟩,
    ⟨wPair fun p => p, by decide⟩,
    ⟨wPair fun p => { p with groups := [false, true], groupTries := [0, 2] }, by decide⟩,
    ⟨wPair fun p => { p with st := .joining }, by decide⟩,
    ⟨(wPair fun p => { p with peerState := some .standby, peerFn := 3 }).onClk fun c => { c with base := secs 10000000 }, by decide⟩,
    ⟨wPair fun p => { p with peerState := some .standby, peerFn := 3, peerReach := 1, swap := { p.swap with reachSince := some 0 } }, by decide⟩,
    ⟨(wPair fun p => { p with swap := { p.swap with running := true } }).onFn fun f => { f with st := .draining, drain := some .swap }, by decide⟩,
    ⟨((wPair fun p => p).onFn fun f => { f with st := .draining, drain := some .stop }).onLog fun l => { l with root := some ⟨0, 0, 0, none, 0, [], true⟩ }, by decide⟩⟩

theorem test_wit_CipherWork :
    (∃ s : State, s.awake = true ∧ s.cip.shelfKey = none ∧ s.peerLink = true ∧ s.cip.drbgs.length = 4 ∧ s.flt.fenced = 0 ∧ s.flt.cells = [] ∧ s.flt.concs = [])
    ∧ (∃ s : State, s.awake = true ∧ s.cip.drbgs.length = 4 ∧ (nth s.cip.drbgs 3 Drbg.reset).dueAt = some 0 ∧ (nth s.cip.drbgs 3 Drbg.reset).stopped = false ∧ 0 + secs 1 ≤ s.now)
    ∧ (∃ s : State, s.awake = true ∧ (∀ d ∈ s.cip.drbgs, d.stopped = true ∧ d.lastOut + ms 10 ≤ s.now) ∧ s.flt.isFenced 0 = false)
    ∧ (∃ s : State, ∃ e x, s.awake = true ∧ s.nsEntry 1 = some e ∧ s.retIndex 1 = [x] ∧ x.minute + 1 + e.retPeriod ≤ s.rclkMin)
    ∧ ∃ s : State, ∃ x c e, s.awake = true ∧ (s.cip.seals.find? fun y => y.mbx % 64 == 63) = some x ∧ x.mbx = 63 ∧ s.cmd x.ord = some c ∧ s.nsEntry x.ns = some e
      ∧ c.phase ≠ .taken ∧ c.len ≤ c.fetchNext ∧ 63 < s.mgmt.mbx.length ∧ (s.mbx 63).wait = .running 0x0C01 := ⟨⟨wPair fun p => { p with groups := [true, false] }, by decide⟩,
    ⟨(wPort 0 id).onCip fun c => { c with drbgs := List.replicate 4 ⟨some 0, false, 0⟩ }, by decide⟩,
    ⟨(wPort 0 id).onCip fun c => { c with drbgs := List.replicate 4 ⟨some 0, true, 0⟩ }, by decide⟩,
    ⟨(wCmd .seal).onCip fun c => { c with index := [(1, [⟨0, 0, 0⟩])], rclkPs := 10 ^ 15 }, _, _, by decide, rfl, rfl, by decide⟩,
    ⟨((wRun.onSched fun x => { x with cmds := [(1, { cmdOf .seal with phase := .admitted, fetchNext := 1 })], nextOrder := 2 }).onCip fun c => { c with seals := [⟨63, 1, 0, 0, 1, 0, 0⟩] }).onMbx 63 fun b => { b with st := .busy, wait := .running 0x0C01 }, _, _, _, by decide, rfl, rfl, rfl, rfl, by decide⟩⟩

theorem test_wit_FaultRise :
    (∃ s : State, ∃ w, s.awake = true ∧ unitKnown w = true ∧ causeKnown (wCause w) = true ∧ wClass w = classC ∧ fromBpdUnit w = false ∧ 0 < s.flt.counts.length
      ∧ wLevel w = 0 ∧ Machine.wUnit w = 0x11B ∧ wCause w = 1)
    ∧ (∃ s : State, ∃ w p, s.awake = true ∧ tabWf s.tc.lines = true ∧ wLevel w = 0 ∧ Machine.wUnit w = 0x118 ∧ wCause w = 3 ∧ wAddr w % 2 ^ 32 = 15
      ∧ s.tc.wb = [] ∧ (s.tcWayOf 0 15).f = false ∧ s.slotOf ((s.tcWayOf 0 15).la / 68) = some p)
    ∧ (∃ s : State, ∃ w, s.awake = true ∧ unitKnown w = true ∧ causeKnown (wCause w) = true ∧ wClass w = classU ∧ fromBpdUnit w = false ∧ s.flt.fenced = 0
      ∧ tabGet s.flt.cells (wNode w) = none ∧ handlingOf s.flt (wNode w) = none ∧ wLevel w = 0 ∧ Machine.wUnit w = 0x42F ∧ wCause w = 2 ∧ tabWf s.pmc.vals = true)
    ∧ (∃ s : State, ∃ w a, s.awake = true ∧ unitKnown w = true ∧ causeKnown (wCause w) = true ∧ wClass w = classT ∧ fromBpdUnit w = false ∧ s.flt.fenced = 0
      ∧ tabGet s.flt.cells (wNode w) = some a)
    ∧ ∃ s : State, ∃ w, s.awake = true ∧ isConc 0x1101 = true ∧ (s.conc 0x1101).handling = none ∧ (s.conc 0x1101).queue = [] ∧ s.offers 0x1101 = [(0x110, w)] ∧ firstConc 0x110 = some 0x1101
      ∧ tabGet s.flt.cells 0x110 = some w ∧ tabWf s.flt.cells = true ∧ wClass (s.escalate w).word < classX := ⟨⟨wPort 0 id, mkWord 0 0x11B classC 1 0, by decide⟩, ⟨wPage wRun, mkWord 0 0x118 classT 3 15, page0, by decide⟩, ⟨wPort 0 id, mkWord 0 0x42F classU 2 511, by decide⟩,
    ⟨(wPort 0 id).onFlt fun f => { f with cells := [(0x110, FWord.fresh (mkWord 0 0x110 classC 1 0))] }, mkWord 0 0x110 classT 1 0, FWord.fresh (mkWord 0 0x110 classC 1 0), by decide⟩,
    ⟨(wPort 0 id).onFlt fun f => { f with cells := [(0x110, FWord.fresh (mkWord 0 0x110 classT 1 0))] }, FWord.fresh (mkWord 0 0x110 classT 1 0), by decide⟩⟩

theorem test_wit_FaultEnds :
    (∃ s : State, ∃ w, (s.conc 0x1101).handling = some w ∧ (s.conc 0x1101).queue = [] ∧ handlesHere 0x1101 w = true ∧ s.awake = true ∧ wClass w.word = classT
      ∧ 0 < s.flt.counts.length ∧ unitKnown (mkWord 1 0x101 classU (wCause w.word) 0) = true ∧ causeKnown (wCause w.word) = true ∧ s.flt.fenced = 0
      ∧ tabGet s.flt.cells 0x1101 = none ∧ (∀ e ∈ s.flt.concs, e.1 ≠ 0x1101 → e.2.handling = none) ∧ tabWf s.flt.concs = true)
    ∧ (∃ s : State, ∃ w, (s.conc 0x2100).handling = some w ∧ (s.conc 0x2100).queue = [] ∧ handlesHere 0x2100 w = true ∧ s.awake = true ∧ wClass w.word = classU
      ∧ s.secondWatchdog w.word = false ∧ causeM (wCause w.word) = true)
    ∧ (∃ s : State, s.awake = true ∧ s.bpd.held ≠ [] ∧ (∀ w ∈ s.bpd.held, wClass w.word < classX) ∧ s.bpd.lostWords = true)
    ∧ (∃ s : State, s.flt.stopped = true ∧ s.flt.stuck = false ∧ s.bpd.mainReset = false ∧ s.flt.stopTimes.length = 2)
    ∧ ∃ s : State, s.flt.stopped = true ∧ s.flt.stuck = false ∧ s.bpd.mainReset = false ∧ 3 ≤ (s.flt.stopTimes.filter fun x => decide (s.now < x + secs 3600)).length := ⟨⟨(wPort 0 id).onFlt fun f => { f with concs := [(0x1101, ⟨[], some (FWord.fresh (mkWord 0 0x110 classT 1 0)), 0⟩)] }, FWord.fresh (mkWord 0 0x110 classT 1 0), by decide⟩,
    ⟨(wPort 0 id).onFlt fun f => { f with concs := [(0x2100, ⟨[], some (FWord.fresh (mkWord 0 0x110 classU 2 0)), 0⟩)] }, FWord.fresh (mkWord 0 0x110 classU 2 0), by decide⟩,
    ⟨(wPort 0 id).onBpd fun b => { b with held := [FWord.fresh (mkWord 0 0x440 classU 0x12 0)], lostWords := true }, by decide⟩,
    ⟨(wPort 0 id).onFlt fun f => { f with stopped := true, stopTimes := [0, 0] }, by decide⟩,
    ⟨(wPort 0 id).onFlt fun f => { f with stopped := true, stopTimes := [secs 10, secs 10, secs 10] }, by decide⟩⟩

theorem test_wit_PcieRequests :
    let ok := fun (s : State) => s.mgmt.mbx.length = 64 ∧ s.mgmt.evqs.length = 64 ∧ s.mgmt.msix.length = 64 ∧ tabWf s.mgmt.tags = true
    (∃ s : State, ok s ∧ s.mailboxesUp = true ∧ s.master = true ∧ tabGet s.mgmt.tags 1023 = some (.outstanding 63) ∧ (s.mbx 63).wait = .running 0x0403)
    ∧ (∃ s : State, ok s ∧ tabGet s.mgmt.tags 0 = some (.outstanding 0) ∧ (s.mbx 0).wait = .running 0x0201)
    ∧ (∃ s : State, ok s ∧ tabGet s.mgmt.tags 1023 = some (.dead 0) ∧ tabGet s.mgmt.tags 0 = none)
    ∧ (∃ s : State, ok s ∧ tabGet s.mgmt.tags 1023 = some (.quarantine 0) ∧ 0 + ms 100 ≤ s.now)
    ∧ (∃ s : State, ok s ∧ tabGet s.mgmt.tags 1023 = some (.quarantine 0) ∧ s.now < 0 + ms 100)
    ∧ (∃ s : State, ok s ∧ s.mailboxesUp = true ∧ s.master = false ∧ s.mgmt.d3 = false ∧ (nth s.mgmt.msix 63 Msix.reset).pend = true
      ∧ (nth s.mgmt.msix 63 Msix.reset).masked = false ∧ (s.mbx 63).wait = .running 0x0201 ∧ (s.mbx 63).dmaHold = true)
    ∧ ∃ s : State, ok s ∧ s.mailboxesUp = true ∧ s.master = false ∧ s.mgmt.bme = true := ⟨⟨wMgmt fun g => { g with bme := true, tags := [(1023, .outstanding 63)], mbx := modNth g.mbx 63 fun b => { b with wait := .running 0x0403 } }, by decide⟩,
    ⟨wMgmt fun g => { g with tags := [(0, .outstanding 0)], mbx := modNth g.mbx 0 fun b => { b with wait := .running 0x0201 } }, by decide⟩,
    ⟨wMgmt fun g => { g with tags := [(1023, .dead 0)] }, by decide⟩,
    ⟨wMgmt fun g => { g with tags := [(1023, .quarantine 0)] }, by decide⟩,
    ⟨State.reset.onMgmt fun g => { g with tags := [(1023, .quarantine 0)] }, by decide⟩,
    ⟨wMgmt fun g => { g with msix := modNth g.msix 63 fun _ => ⟨0, 0, false, true⟩, mbx := modNth g.mbx 63 fun b => { b with wait := .running 0x0201, dmaHold := true } }, by decide⟩,
    ⟨wMgmt fun g => { g with bme := true, d3 := true }, by decide⟩⟩

theorem test_wit_EventQueues :
    let ok := fun (s : State) => s.mailboxesUp = true ∧ s.mgmt.evqs.length = 64 ∧ s.mgmt.msix.length = 64 ∧ s.mgmt.mbx.length = 64
    (∃ s : State, ok s ∧ (s.evq 63).enabled = true ∧ (s.evq 63).tail = 2 ∧ (s.evq 63).log2n = 6 ∧ (s.evq 63).countTh = 2 ∧ s.master = true
      ∧ (nth s.mgmt.msix (s.evq 63).vector Msix.reset).masked = false)
    ∧ (∃ s : State, ok s ∧ (s.evq 63).enabled = true ∧ (s.evq 63).timeTh ≠ 0 ∧ 0 < (s.evq 63).unsignalled ∧ (s.evq 63).armed = true
      ∧ (s.evq 63).oldest + us (s.evq 63).timeTh ≤ s.now ∧ s.master = true ∧ (nth s.mgmt.msix (s.evq 63).vector Msix.reset).masked = false)
    ∧ (∃ s : State, ok s ∧ (nth s.mgmt.msix 63 Msix.reset).pend = true ∧ s.master = true)
    ∧ (∃ s : State, ok s ∧ (nth s.mgmt.msix 63 Msix.reset).pend = false ∧ s.ownsMbx .host 47 = true ∧ (s.mbx 47).st ≠ .busy ∧ tabWf (s.mbx 47).buf = true)
    ∧ ∃ s : State, ok s ∧ s.ownsMbx .debug 63 = true ∧ (s.mbx 63).st = .busy := ⟨⟨wMgmt fun g => { g with bme := true, msix := modNth g.msix 0 fun _ => ⟨0, 0, false, false⟩, evqs := modNth g.evqs 63 fun e => { e with enabled := true, tail := 2, log2n := 6, countTh := 2, vector := 0 } }, by decide⟩,
    ⟨wMgmt fun g => { g with bme := true, msix := modNth g.msix 0 fun _ => ⟨0, 0, false, false⟩, evqs := modNth g.evqs 63 fun e => { e with enabled := true, timeTh := 10, unsignalled := 1, armed := true, vector := 0 } }, by decide⟩,
    ⟨wMgmt fun g => { g with bme := true, msix := modNth g.msix 63 fun _ => ⟨0, 0, true, true⟩ }, by decide⟩,
    ⟨wMgmt id, by decide⟩,
    ⟨(wMgmt fun g => { g with mbx := modNth g.mbx 63 fun b => { b with st := .busy } }).onBoot fun b => { b with board := { b.board with debugPort := true } }, by decide⟩⟩

theorem test_wit_Sessions :
    let ok := fun (s : State) => s.mgmt.mbx.length = 64 ∧ s.mgmt.sessions.length = 8
    (∃ s : State, ok s ∧ s.mailboxesUp = true ∧ s.session 0 = none ∧ nth s.boot.opKeys 7 0 ≠ 0)
    ∧ (∃ s : State, ok s ∧ s.mailboxesUp = true ∧ (∀ i : Fin 8, (s.session i.val).isSome = true) ∧ s.session 7 = some ⟨0, 0, 5, 0, 0⟩ ∧ (s.mbx 55).st ≠ .busy
      ∧ 0 + secs 60 ≤ s.now)
    ∧ (∃ s : State, ok s ∧ s.mailboxesUp = true ∧ s.session 7 = some ⟨0, 0, 5, 0, 0⟩ ∧ (s.mbx 55).st = .busy ∧ s.bpd.mainReset = false)
    ∧ (∃ s : State, ok s ∧ s.mailboxesUp = true ∧ s.session 7 = some ⟨0, 0, 5, 0, 0⟩ ∧ (s.mbx 55).st = .done)
    ∧ ∃ s : State, ok s ∧ s.session 7 = some ⟨0, 0, 5, 0, 0⟩ ∧ s.now < 0 + secs 60 := ⟨⟨(wMgmt id).onBoot fun b => { b with opKeys := List.replicate 8 4 }, by decide +kernel⟩,
    ⟨wMgmt fun g => { g with sessions := List.replicate 8 (some ⟨0, 0, 5, 0, 0⟩) }, by decide⟩,
    ⟨wMgmt fun g => { g with sessions := List.replicate 8 (some ⟨0, 0, 5, 0, 0⟩), mbx := modNth g.mbx 55 fun b => { b with st := .busy } }, by decide⟩,
    ⟨wMgmt fun g => { g with sessions := List.replicate 8 (some ⟨0, 0, 5, 0, 0⟩), mbx := modNth g.mbx 55 fun b => { b with st := .done } }, by decide⟩,
    ⟨State.reset.onMgmt fun g => { g with sessions := List.replicate 8 (some ⟨0, 0, 5, 0, 0⟩) }, by decide⟩⟩

theorem test_wit_AnswersAndCounts :
    (∃ s : State, ∃ r, s.mgmt.mbx.length = 64 ∧ (s.mbx 47).wait = .answer r ∧ (s.mbx 47).st = .busy ∧ (s.mbx 47).discard = false ∧ (s.mbx 47).notify = true
      ∧ (s.evq (s.mbx 47).evq).enabled = true ∧ (s.mbx 47).evq < s.mgmt.evqs.length ∧ tabWf (s.mbx 47).buf = true)
    ∧ (∃ s : State, ∃ r, s.mgmt.mbx.length = 64 ∧ (s.mbx 63).wait = .answer r ∧ (s.mbx 63).st = .busy ∧ (s.mbx 63).discard = true)
    ∧ (∃ s : State, s.mgmt.mbx.length = 64 ∧ s.mailboxesUp = true ∧ 0xFFFF ∉ mbxOpcodes ∧ (s.mbx 47).st = .busy ∧ (s.mbx 47).wait = .free ∧ s.nextGo = some 47)
    ∧ (∃ s : State, s.mailboxesUp = true ∧ s.sheet.ports.length = 48 ∧ (s.port 47).modSt = .ready ∧ (s.port 47).ops = [] ∧ (tabGet s.cip.slots 4095).isSome = true)
    ∧ ∃ s : State, ∃ h : Happening, ∃ i x, s.awake = true ∧ tabWf s.pmc.sels = true ∧ tabWf s.pmc.vals = true ∧ s.pmc.sels = [(i, x)]
      ∧ selTakes (s.fn.committed.map (·.tenants)) i x h = true ∧ selMode x ≠ 1 ∧ i / 512 < s.pmc.banks.length ∧ (tabGetD s.pmc.vals i 0).toNat + 1 = spanTop (selSpan x)
      ∧ (nth s.pmc.banks (i / 512) Bank.reset).sampleEn = true ∧ (nth s.pmc.banks (i / 512) Bank.reset).sampleCtr = i % 512 ∧ s.pmc.banks.length = 16 := ⟨⟨wMgmt fun g => { g with mbx := modNth g.mbx 47 fun b => { b with st := .busy, wait := .answer (mkResp 0x0101 0 0), notify := true }, evqs := modNth g.evqs 0 fun e => { e with enabled := true } },
      mkResp 0x0101 0 0, by decide⟩,
    ⟨wMgmt fun g => { g with mbx := modNth g.mbx 63 fun b => { b with st := .busy, wait := .answer (mkResp 0x0101 0 0), discard := true } }, mkResp 0x0101 0 0, by decide⟩,
    ⟨wMgmt fun g => { g with mbx := modNth g.mbx 47 fun b => { b with st := .busy } }, by decide +kernel⟩,
    ⟨((wMgmt id).onPort 47 fun p => { p with modSt := .ready }).onCip fun c => { c with slots := [(4095, ⟨1, 1, 0, 0, 0, 0, 0⟩)] }, by decide⟩,
    ⟨(wMgmt id).onPmc fun p => { p with sels := [(8191, 0x01010110#32)], vals := [(8191, 0x1FFFF)], banks := modNth p.banks 15 fun k => { k with sampleEn := true, sampleCtr := 511 } },
      ⟨0x110, 0x10, 1, none, 0, 0⟩, 8191, 0x01010110#32, by decide +kernel⟩⟩

theorem test_wit_ResetsAndStart :
    (∃ s : State, s.bpd.aux = true ∧ s.boot.step = 1)
    ∧ (∃ s : State, s.bpd.aux = true ∧ s.feedOn = true ∧ s.bpd.mainReset = true)
    ∧ (∃ s : State, s.bpd.mainReset = false ∧ s.flt.stopped = true ∧ s.flt.stuck = false)
    ∧ (∀ n : Fin 15, ∃ s : State, s.bpd.aux = true ∧ s.boot.step = n ∧ s.awake = true ∧ s.fn.st ≠ .fenced ∧ s.boot.tripHold = false ∧ s.bpd.chans.length = 48)
    ∧ (∃ s : State, s.awake = true ∧ s.boot.step = 8 ∧ s.boot.declCopy.isSome = true ∧ s.bpd.chans.length = 48)
    ∧ (∃ s : State, ∃ l, s.awake = true ∧ s.boot.step = 9 ∧ l ≠ [] ∧ s.rootCause l ≠ 0)
    ∧ (∃ s : State, ∃ l, s.awake = true ∧ s.boot.step = 9 ∧ l ≠ [] ∧ s.rootCause l = 0 ∧ s.imageOk l img0 = false)
    ∧ (∃ s : State, ∃ l, s.awake = true ∧ s.boot.step = 9 ∧ l ≠ [] ∧ s.rootCause l = 0 ∧ s.imageOk l img3 = true ∧ img3.decl.dramMin ≤ s.boot.board.dramGib ∧ img3.decl.minBays = 0)
    ∧ (∃ s : State, s.awake = true ∧ s.boot.step = 10 ∧ s.pair.st = .taking ∧ s.pair.takeStep = 3 ∧ s.fn.refusal = 0 ∧ ∀ p ∈ s.sheet.ports, p.modSt ≠ .fencing)
    ∧ (∃ s : State, s.awake = true ∧ s.boot.step = 12 ∧ s.joined = true)
    ∧ ∃ s : State, s.awake = true ∧ s.boot.step = 13 ∧ s.joined = true ∧ s.fn.st = .armed ∧ s.pair.st = .joining ∧ s.pair.resync = 1 := ⟨⟨State.reset, by decide⟩, ⟨wSel .onA true, by decide⟩,
    ⟨(wPort 0 id).onFlt fun f => { f with stopped := true }, by decide⟩,
    fun n => ⟨wHot fun b => { b with step := n }, rfl, rfl, rfl, by decide +revert⟩,
    ⟨wHot fun b => { b with step := 8, declCopy := some ⟨0, 0, 0⟩ }, by decide⟩,
    ⟨wHot fun b => { b with step := 9 }, [⟨0, 0, 0, 1⟩], by decide⟩,
    ⟨wHot fun b => { b with step := 9 }, [⟨0, 0, 0, 2⟩], by decide⟩,
    ⟨wHot fun b => { b with step := 9, board := { b.board with dramGib := 64 } }, [⟨img3.shelfId, img3.rigGen, 0, 2⟩], by decide +kernel⟩,
    ⟨(wHot fun b => { b with step := 10 }).onPair fun p => { p with st := .taking, takeStep := 3 }, by decide⟩,
    ⟨(wHot fun b => { b with step := 12 }).onPair fun p => { p with st := .joining, resync := 1 }, by decide⟩,
    ⟨((wHot fun b => { b with step := 13 }).onPair fun p => { p with st := .joining, resync := 1 }).onFn fun f => { f with st := .armed }, by decide⟩⟩

theorem test_wit_FunctionCommands :
    let ok := fun (s : State) => s.turn hdr0 = true ∧ hdrPlain hdr0 = true ∧ s.tc.goMbx = none ∧ s.mbxOrdered 0 = false
    (∃ s : State, ok s ∧ s.fn.st = .armed) ∧ (∃ s : State, ok s ∧ s.fn.st = .running)
    ∧ (∃ s : State, ok s ∧ s.fn.st = .stopped ∧ s.fn.staged = none ∧ s.fn.committed = some img0 ∧ s.fn.refusal = 0 ∧ 14 ≤ s.boot.step ∧ s.fn.kept = []
      ∧ s.active = true ∧ s.fn.stoppedByCmd = false ∧ s.log.rootImage = some img0 ∧ s.log.ckpt = none ∧ s.log.root.map (·.stopped) = some false)
    ∧ (∃ s : State, ok s ∧ s.fn.st = .stopped ∧ s.fn.staged = none ∧ s.fn.committed = some img0 ∧ s.fn.refusal ≠ 0 ∧ s.holder = true ∧ s.boot.rigKey = none ∧ hdr0.mbx.val < 48)
    ∧ (∃ s : State, ok s ∧ s.fn.st = .fenced ∧ s.holder = false)
    ∧ (∃ s : State, s.mailboxesUp = true ∧ s.mgmt.mbx.length = 64 ∧ (s.mbx 0).st = .busy ∧ (s.mbx 0).fetching = false ∧ (s.mbx 0).wait = .running 0x0102 ∧ s.fn.st = .stopped)
    ∧ (∃ s : State, s.fetched hdr0 0x0201 = true ∧ s.fn.st = .empty ∧ img0.format = false)
    ∧ (∃ s : State, s.fetched hdr0 0x0201 = true ∧ s.fn.st ≠ .empty ∧ s.loaderCheck img0 ≠ 0)
    ∧ (∃ s : State, s.fetched hdr0 0x0206 = true ∧ clsForm img0.cls = true ∧ img0.cls.rulesCount ≤ 65536 ∧ s.fn.committed = none ∧ s.fn.staged = none ∧ s.fn.rules = none
      ∧ img0.cls.nodesCount ≤ 262144 ∧ s.fn.st = .stopped) := ⟨⟨wGo fun f => { f with st := .armed }, by decide⟩, ⟨wGo fun f => { f with st := .running }, by decide⟩,
    ⟨((wGo fun f => { f with st := .stopped, committed := some img0 }).onPair fun p => { p with st := .active }).onLog fun l =>
      { l with rootImage := some img0, root := some ⟨0, 0, 0, none, 0, [], false⟩ }, by decide⟩,
    ⟨(wGo fun f => { f with st := .stopped, committed := some img0, refusal := 0x14 }).onPair fun p => { p with st := .active }, by decide⟩,
    ⟨wGo fun f => { f with st := .fenced }, by decide⟩,
    ⟨(wGot 0x0102 fun f => { f with st := .stopped }).onMbx 0 fun b => { b with fetching := false }, by decide⟩,
    ⟨wGot 0x0201 id, by decide⟩, ⟨wGot 0x0201 fun f => { f with st := .stopped }, by decide⟩,
    ⟨wGot 0x0206 fun f => { f with st := .stopped }, by decide⟩⟩

theorem test_wit_ModuleCommands :
    let ok := fun (s : State) => s.turn hdr0 = true ∧ hdrPlain hdr0 = true
    let out := fun (s : State) => s.turn hdr4k = true ∧ hdrRoom hdr4k 262160 = true ∧ hdrRoom hdr4k 4096 = true ∧ s.master = true
    (∃ s : State, ok s ∧ s.sheet.ports.length = 48 ∧ s.fn.st = .running ∧ s.holder = true ∧ (s.port 47).modSt = .ready ∧ (s.port 47).ops = [] ∧ s.peerReachable = false
      ∧ s.mbxOrdered 0 = false ∧ 17 < s.sched.inputs.length ∧ s.laneFor .dsm 4095 0 = none ∧ s.tc.goMbx = none ∧ s.rangeBusy = false ∧ s.nsEntry 4095 = none)
    ∧ (∃ s : State, ok s ∧ s.sheet.ports.length = 48 ∧ s.fn.st = .running ∧ (s.port 47).modSt = .ready ∧ (s.port 47).ops = [] ∧ s.mbxOrdered 0 = false ∧ s.peerReachable = true)
    ∧ (∃ s : State, ok s ∧ s.fn.st = .running ∧ s.holder = true ∧ s.tc.goMbx = none ∧ s.rangeBusy = true)
    ∧ (∃ s : State, out s ∧ s.fn.st = .running ∧ s.holder = true ∧ s.mbxOrdered 0 = false ∧ 17 < s.sched.inputs.length ∧ s.laneFor .read 4095 0 = none
      ∧ (s.port 47).desc = some desc0 ∧ s.freeReqTag = some 0)
    ∧ (∃ s : State, s.turn { hdr4k with dlen := 4096 } = true ∧ hdrRoom { hdr4k with dlen := 4096 } 1 = true ∧ s.master = true ∧ s.fn.st = .running ∧ s.holder = true ∧ s.freeReqTag = some 0)
    ∧ ∃ s : State, s.fetched hdr0 0x0403 = true ∧ s.holder = true ∧ s.mbxOrdered 0 = false ∧ 17 < s.sched.inputs.length ∧ s.laneFor .write 4095 0 = none := ⟨⟨((wGo fun f => { f with st := .running }).onPair fun p => { p with st := .active }).onPort 47 fun p => { p with modSt := .ready }, by decide⟩,
    ⟨((wGo fun f => { f with st := .running }).onPair fun p => { p with groups := [true, false], shA := { p.shA with times := [secs 100] } }).onPort 47 fun p => { p with modSt := .ready }, by decide⟩,
    ⟨((wGo fun f => { f with st := .running }).onPair fun p => { p with st := .active }).onTc fun t => { t with busy := true }, by decide⟩,
    ⟨(((wGo fun f => { f with st := .running }).onPair fun p => { p with st := .active }).onPort 47 fun p => { p with desc := some desc0 }).onMgmt fun g => { g with bme := true }, by decide +kernel⟩,
    ⟨((wGo fun f => { f with st := .running }).onPair fun p => { p with st := .active }).onMgmt fun g => { g with bme := true }, by decide +kernel⟩,
    ⟨(wGot 0x0403 fun f => { f with st := .running }).onPair fun p => { p with st := .active }, by decide⟩⟩

theorem test_wit_KeyCommands :
    let ok := fun (s : State) => s.turn hdr0 = true ∧ hdrPlain hdr0 = true
    (∃ s : State, ok s ∧ s.holder = true ∧ s.fn.st = .stopped ∧ (s.keyView 4095).st = 0 ∧ s.cip.shelfKey.isSome = true ∧ s.boot.rigKey = none ∧ s.boot.advSeq < 1)
    ∧ (∃ s : State, ok s ∧ s.holder = true ∧ s.fn.st = .armed ∧ (s.keyView 4095).st = 1 ∧ s.tenantHolds 1023 = false)
    ∧ (∃ s : State, ok s ∧ s.fn.st = .empty ∧ s.cip.shelfKey = none ∧ (hdr0.mbx.val < 48 ∨ 55 < hdr0.mbx.val))
    ∧ (∃ s : State, ok s ∧ s.boot.rigKey.isSome = true ∧ s.cip.shelfKey.isSome = true ∧ s.fn.st ≠ .fenced)
    ∧ (4 : BitVec 776).toNat % 256 = 4
    ∧ ∀ n : Nat, n = (Config.deviceCert 0).length → 4096 * n ≤ 2 ^ 28 → ∃ s : State, ∃ h, s.turn h = true ∧ s.master = true ∧ s.boot.devKeyId = 0
      ∧ hdrRoom h (4096 * (Config.deviceCert s.boot.devKeyId).length) = true := ⟨⟨(wGo fun f => { f with st := .stopped }).onPair (fun p => { p with st := .active }) |>.onCip fun c => { c with shelfKey := some 5 }, by decide⟩,
    ⟨(wGo fun f => { f with st := .armed }).onPair (fun p => { p with st := .active }) |>.onCip fun c => { c with slots := [(4095, ⟨1, 1, 0, 0, 0, 0, 0⟩)] }, by decide⟩,
    ⟨wGo id, by decide⟩,
    ⟨(wGo id).onBoot (fun b => { b with rigKey := some (0, 4) }) |>.onCip fun c => { c with shelfKey := some 5 }, by decide⟩,
    by decide +kernel,
    fun n hn hb => ⟨(wGo id).onMgmt fun g => { g with bme := true }, { hdr0 with dlen := max 1 (4096 * n) }, rfl, rfl, rfl, by
      have e : (Config.deviceCert (State.boot ((wGo id).onMgmt fun g => { g with bme := true })).devKeyId).length = n := hn.symm
      simp only [e, hdrRoom, hdr0]
      simp
      omega⟩⟩

theorem test_wit_LiveSettings :
    let ok := fun (s : State) => s.turn hdr0 = true ∧ hdrPlain hdr0 = true
    (∃ s : State, ok s ∧ s.fn.st = .stopped ∧ (s.evq 63).enabled = false ∧ (s.chan 47).st ≠ .fetFault
      ∧ (∀ k : Fin 13, s.badSetting k (s.bounds k).1 0 = none) ∧ selOk (s.fn.committed.map (·.tenants)) 8191 0 = true)
    ∧ (∃ s : State, ok s ∧ s.fn.st = .running ∧ (s.evq 63).enabled = true ∧ (s.chan 47).st = .fetFault) := ⟨⟨wGo fun f => { f with st := .stopped }, by decide⟩,
    ⟨((wGo fun f => { f with st := .running }).onMgmt fun g => { g with evqs := modNth g.evqs 63 fun e => { e with enabled := true } }).onBpd fun b =>
      { b with chans := modNth b.chans 47 fun c => { c with st := .fetFault } }, by decide⟩⟩

theorem test_wit_ReportsAndUpkeep :
    let ok := fun (s : State) => s.turn hdr0 = true ∧ hdrPlain hdr0 = true
    (∃ s : State, ok s ∧ s.flt.trigSeq = 5 ∧ s.fn.st = .empty ∧ s.bpd.testBusy = false ∧ s.selGood = false)
    ∧ (∃ s : State, ok s ∧ s.fn.st ≠ .fenced ∧ s.bpd.testBusy = false ∧ s.selGood = true) ∧ (∃ s : State, ok s ∧ s.fn.st ≠ .fenced ∧ s.bpd.testBusy = true)
    ∧ (∃ s : State, ok s ∧ s.fn.st = .running ∧ s.holder = true ∧ s.active = true ∧ s.swapLack = 0)
    ∧ (∃ s : State, ok s ∧ s.fn.st = .running ∧ s.holder = true ∧ s.active = true ∧ s.swapLack ≠ 0) ∧ (∃ s : State, ok s ∧ s.fn.st = .running ∧ s.holder = true ∧ s.active = false)
    ∧ (∃ s : State, s.turn hdr4k = true ∧ s.master = true ∧ hdrRoom hdr4k (healthLen s.allNs.length) = true)
    ∧ (∃ s : State, s.fetched hdr0 0x0B01 = true ∧ s.fwValid fw0 = true) ∧ ∃ s : State, s.fetched hdr0 0x0B01 = true ∧ s.fwValid { fw0 with sigOk := false } = false := ⟨⟨(wGo id).onFlt fun f => { f with trigSeq := 5 }, by decide⟩,
    ⟨(wGo id).onBpd fun b => { b with sel := .onA, feedA := { b.feedA with inWindow := true, good := true } }, by decide⟩,
    ⟨(wGo id).onBpd fun b => { b with testBusy := true }, by decide⟩,
    ⟨(wGo fun f => { f with st := .running }).onPair fun p => { p with st := .active, peerState := some .standby, peerFn := 3, groups := [true, false], shA := { p.shA with lost := false }, shB := { p.shB with lost := false } }, by decide⟩,
    ⟨(wGo fun f => { f with st := .running }).onPair fun p => { p with st := .active }, by decide⟩,
    ⟨(wGo fun f => { f with st := .running }).onPair fun p => { p with st := .taking }, by decide⟩,
    ⟨(wGo id).onMgmt fun g => { g with bme := true }, by decide⟩, ⟨wGot 0x0B01 id, by decide⟩, ⟨wGot 0x0B01 id, by decide⟩⟩

theorem test_wit_KeyChangesTakeEffect :
    (∃ s : State, ∃ x : KeySlot, tabWf s.cip.slots = true ∧ s.awake = true ∧ s.holder = true ∧ s.fn.changes = [(0, .keySlot 0 x)] ∧ x.st ≠ 2 ∧ s.keyDurable 0 x = true)
    ∧ (∃ s : State, ∃ x : KeySlot, tabWf s.cip.slots = true ∧ s.awake = true ∧ s.holder = true ∧ s.fn.changes = [(0, .keySlot 4095 x)] ∧ x.st ≠ 2 ∧ s.keyDurable 4095 x = false)
    ∧ (∃ s : State, tabWf s.cip.slots = true ∧ s.awake = true ∧ s.holder = true ∧ s.fn.changes = [(0, .retAdvance 1)])
    ∧ ∃ s : State, ∃ e ∈ s.written, ∃ u, tabWf s.cip.slots = true ∧ mdKind e.2 = 2 ∧ mdLba e.2 = s.keyBase + 0 / 31 ∧ (s.gmd (s.keyBase + 0 / 31)).loc ≠ e.1 ∧ s.locUnit e.1 = some u := ⟨⟨(((wPair fun p => p).onFn fun f => { f with changes := [(0, .keySlot 0 ⟨1, 1, 1, 0, 5, 0, 0⟩)] }).onMap fun m =>
        { m with sysSent := [((wPair fun p => p).keyBase, 0x101 + 2 ^ 32)] }), ⟨1, 1, 1, 0, 5, 0, 0⟩, by decide +kernel⟩,
    ⟨(wPair fun p => p).onFn fun f => { f with changes := [(0, .keySlot 4095 ⟨1, 1, 1, 0, 5, 0, 0⟩)] }, ⟨1, 1, 1, 0, 5, 0, 0⟩, by decide +kernel⟩,
    ⟨(wPair fun p => p).onFn fun f => { f with changes := [(0, .retAdvance 1)] }, by decide +kernel⟩,
    wShred, (5, wShredPage), by decide +kernel, 0, by decide +kernel⟩

end Sys2Proof.Tests
end

section
/-! SUPPORT. Fence records: what R234 says of a module's epoch and owner, and the shared operations, which all keep it. A group other than
the modules does not matter to it, so each law speaks of states blanked but for the modules and the frames of Laws/FrameShared apply. -/

namespace Sys2Proof.Machine

variable {b : Fin 48}

/-- What R234 says survives in the module of bay `b`: its CURRENT_EPOCH and OWNER, under the serial number that says which module it is. -/
def State.fenceRec (s : State) (b : Fin 48) : Option (Nat × Nat × Nat) := (s.module b).map fun m => (m.desc.serial, m.epoch, m.owner)

/-- Every group of the state but the modules. -/
def butMods (p : Part) : Bool := decide (p ≠ .mods)

@[simp] theorem butMods_eq_true {p : Part} : butMods p = true ↔ p ≠ .mods := by simp [butMods]

theorem State.fenceRec_mask (s : State) : (s.mask butMods).fenceRec b = s.fenceRec b := rfl

/-- Reading after changing an element; a change past the end shows nowhere. -/
theorem nth_modNth {α : Type} (l : List α) (i j : Nat) (g : α → α) (d : α) (h : i = j → i < l.length ∨ g d = d) :
    nth (modNth l i g) j d = if i = j then g (nth l j d) else nth l j d := by
  induction l generalizing i j with
  | nil =>
    have hd : i = j → g d = d := fun hij => (h hij).resolve_left (Nat.not_lt_zero i)
    simp only [modNth, nth, List.getD_nil]
    split
    next hij => exact (hd hij).symm
    · rfl
  | cons x t ih =>
    cases i with
    | zero => cases j <;> simp [modNth, nth]
    | succ i =>
      cases j with
      | zero => simp [modNth, nth]
      | succ j => simpa [modNth, nth] using ih i j (by simpa using h)

/-- A change of one module reads back in its own bay only. -/
theorem State.module_onModule (s : State) (c : Nat) (g : Module → Module) (i : Nat) :
    (s.onModule c g).module i = if c = i then (s.module i).map g else s.module i :=
  nth_modNth _ _ _ _ _ fun _ => .inr rfl

@[simp] theorem State.onModule_fenceRec (s : State) (c : Nat) {g : Module → Module}
    (hg : ∀ m, (g m).desc = m.desc ∧ (g m).epoch = m.epoch ∧ (g m).owner = m.owner) :
    ((s.onModule c g).mask butMods).fenceRec b = (s.mask butMods).fenceRec b := by
  rw [State.fenceRec_mask, State.fenceRec_mask, State.fenceRec, State.fenceRec, State.module_onModule]
  split
  · simp [Function.comp_def, hg]
  · rfl

@[simp] theorem State.ite_fenceRec (p : Prop) [Decidable p] (s t : State) :
    (if p then s else t).fenceRec b = if p then s.fenceRec b else t.fenceRec b := by
  split <;> rfl

@[simp] theorem State.foldl_fenceRec {α : Type} {g : State → α → State}
    (h : ∀ s a, ((g s a).mask butMods).fenceRec b = (s.mask butMods).fenceRec b) (l : List α) (s : State) :
    ((l.foldl g s).mask butMods).fenceRec b = (s.mask butMods).fenceRec b := by
  induction l generalizing s with
  | nil => rfl
  | cons a t ih => rw [List.foldl_cons, ih, h]

@[simp] theorem State.modulePower_fenceRec (s : State) (c : Nat) : ((s.modulePower c).mask butMods).fenceRec b = (s.mask butMods).fenceRec b := by
  simp [State.modulePower]

@[simp] theorem State.setChan_fenceRec (s : State) (c : Nat) (st : ChanState) :
    ((s.setChan c st).mask butMods).fenceRec b = (s.mask butMods).fenceRec b := by
  simp [State.setChan]

@[simp] theorem State.chanTry_fenceRec (s : State) (c : Nat) : ((s.chanTry c).mask butMods).fenceRec b = (s.mask butMods).fenceRec b := by
  simp [State.chanTry]

@[simp] theorem State.trip_fenceRec (s : State) (c kind : Nat) : ((s.trip c kind).mask butMods).fenceRec b = (s.mask butMods).fenceRec b := by
  simp [State.trip]

@[simp] theorem State.toggle_fenceRec (s : State) (c : Nat) : ((s.toggle c).mask butMods).fenceRec b = (s.mask butMods).fenceRec b := by
  unfold State.toggle
  split <;> simp

@[simp] theorem State.setSel_fenceRec (s : State) (x : Selector) : ((s.setSel x).mask butMods).fenceRec b = (s.mask butMods).fenceRec b := by
  simp [State.setSel]

@[simp] theorem State.enterHoldup_fenceRec (s : State) : (s.enterHoldup.mask butMods).fenceRec b = (s.mask butMods).fenceRec b := by
  simp [State.enterHoldup]

@[simp] theorem State.goDown_fenceRec (s : State) (low : Bool) : ((s.goDown low).mask butMods).fenceRec b = (s.mask butMods).fenceRec b := by
  simp only [State.goDown, State.diePowerOff_mask, State.onBpd_all_mask, State.setSel_fenceRec, butMods_eq_true, ne_eq, reduceCtorEq,
    not_false_eq_true]
  refine (State.foldl_fenceRec (fun s c => ?_) _ _).trans (by simp)
  split <;> simp

@[simp] theorem State.selInit_fenceRec (s : State) : (s.selInit.mask butMods).fenceRec b = (s.mask butMods).fenceRec b := by
  simp [State.selInit]

@[simp] theorem State.pathOff_fenceRec (s : State) : (s.pathOff.mask butMods).fenceRec b = (s.mask butMods).fenceRec b := by
  unfold State.pathOff
  split <;> simp

@[simp] theorem State.strikeEnd_fenceRec (s : State) : (s.strikeEnd.mask butMods).fenceRec b = (s.mask butMods).fenceRec b := by
  simp [State.strikeEnd]

@[simp] theorem State.heard_fenceRec (s : State) (sh : Shroud) (m : LeaseMsg) :
    ((s.heard sh m).mask butMods).fenceRec b = (s.mask butMods).fenceRec b := by
  simp [State.heard]

@[simp] theorem State.goOn_fenceRec (s : State) : (s.goOn.mask butMods).fenceRec b = (s.mask butMods).fenceRec b := by
  simp [State.goOn]

@[simp] theorem State.enableBay_fenceRec (s : State) (c : Nat) : ((s.enableBay c).mask butMods).fenceRec b = (s.mask butMods).fenceRec b := by
  unfold State.enableBay
  dsimp only
  split
  · simp
  · split <;> simp

@[simp] theorem State.disableBay_fenceRec (s : State) (c : Nat) : ((s.disableBay c).mask butMods).fenceRec b = (s.mask butMods).fenceRec b := by
  unfold State.disableBay
  split <;> simp

@[simp] theorem State.applyChange_fenceRec (s : State) (n : Nat) (c : LiveChange) :
    ((s.applyChange n c).2.mask butMods).fenceRec b = (s.mask butMods).fenceRec b := by
  unfold State.applyChange
  (repeat' split) <;> simp

@[simp] theorem State.applyChanges_fenceRec (s : State) : (s.applyChanges.mask butMods).fenceRec b = (s.mask butMods).fenceRec b := by
  simp [State.applyChanges]

@[simp] theorem State.enableBays_fenceRec (s : State) (ok : Bool) : ((s.enableBays ok).mask butMods).fenceRec b = (s.mask butMods).fenceRec b := by
  unfold State.enableBays
  split <;> simp

@[simp] theorem State.opDone_fenceRec (s : State) (c : Nat) (op : SheetOp) (res : SheetResult) :
    ((s.opDone c op res).mask butMods).fenceRec b = (s.mask butMods).fenceRec b := by
  unfold State.opDone
  extract_lets ppb s0 s1 s2 p
  have h0 : s0.mask butMods = s.mask butMods := by
    simp only [s0]
    split <;> simp
  have h1 : s1.mask butMods = s.mask butMods := by
    simp only [s1]
    split_ifs <;> simp [h0]
  clear_value s0 s1
  (repeat' split) <;> simp [s2, h1]

@[simp] theorem State.respond_fenceRec (s : State) (c : Nat) (op : SheetOp) (code : Nat) (res : SheetResult) :
    ((s.respond c op code res).mask butMods).fenceRec b = (s.mask butMods).fenceRec b := by
  simp [State.respond]

@[simp] theorem State.tookTag_fenceRec (s : State) (c tag st code : Nat) :
    ((s.tookTag c tag st code).mask butMods).fenceRec b = (s.mask butMods).fenceRec b := by
  unfold State.tookTag
  split <;> simp

@[simp] theorem State.opTimedOut_fenceRec (s : State) (c tag : Nat) (op : SheetOp) :
    ((s.opTimedOut c tag op).mask butMods).fenceRec b = (s.mask butMods).fenceRec b := by
  simp [State.opTimedOut]

@[simp] theorem State.lateSheet_fenceRec (s : State) (c tag : Nat) (op : SheetOp) :
    ((s.lateSheet c tag op).mask butMods).fenceRec b = (s.mask butMods).fenceRec b := by
  simp [State.lateSheet]

theorem nth_map_range {α : Type} (f : Nat → α) (n i : Nat) (d : α) (h : i < n) : nth ((List.range n).map f) i d = f i := by
  simp [nth, h]

/-- A format keeps every module but for its blocks in SLC. -/
@[simp] theorem State.eraseModules_fenceRec (s : State) : (s.eraseModules.mask butMods).fenceRec b = (s.mask butMods).fenceRec b := by
  have hb : s.eraseModules.module b = (s.module b).map fun m =>
      if s.formats b then { m with slcBlocks := m.slcBlocks.filter fun e => strikeBlock e.2 } else m :=
    nth_map_range _ _ _ _ b.isLt
  rw [State.fenceRec_mask, State.fenceRec_mask, State.fenceRec, hb, State.fenceRec, Option.map_map]
  congr 1
  funext m
  dsimp only [Function.comp]
  split <;> rfl

@[simp] theorem State.format_fenceRec (s : State) (i : RigImage) : ((s.format i).mask butMods).fenceRec b = (s.mask butMods).fenceRec b := by
  simp [State.format]

@[simp] theorem State.applyKept_fenceRec (s : State) : (s.applyKept.mask butMods).fenceRec b = (s.mask butMods).fenceRec b := by
  unfold State.applyKept
  refine (State.foldl_fenceRec (fun s c => ?_) _ _).trans (by simp)
  split <;> simp

@[simp] theorem State.armDone_fenceRec (s : State) (n : Nat) (i : RigImage) :
    ((s.armDone n i).mask butMods).fenceRec b = (s.mask butMods).fenceRec b := by
  simp [State.armDone]

@[simp] theorem State.armStep_fenceRec (s : State) (n format : Nat) :
    ((s.armStep n format).mask butMods).fenceRec b = (s.mask butMods).fenceRec b := by
  unfold State.armStep
  (repeat' split) <;> simp

@[simp] theorem State.armStart_fenceRec (s : State) (n format : Nat) :
    ((s.armStart n format).mask butMods).fenceRec b = (s.mask butMods).fenceRec b := by
  simp [State.armStart]

end Sys2Proof.Machine
end

section
/-! SUPPORT. The commands that touch a module and keep every fence record. -/

namespace Sys2Proof.Machine

variable {b : Fin 48} {s t : State}

@[simp] theorem Module.keep_desc (m : Module) (o : ModOp) : (m.keep o).desc = m.desc := (rfl)
@[simp] theorem Module.keep_epoch (m : Module) (o : ModOp) : (m.keep o).epoch = m.epoch := (rfl)
@[simp] theorem Module.keep_owner (m : Module) (o : ModOp) : (m.keep o).owner = m.owner := (rfl)
@[simp] theorem Module.dieGone_desc (m : Module) (d : Nat) : (m.dieGone d).desc = m.desc := (rfl)
@[simp] theorem Module.dieGone_epoch (m : Module) (d : Nat) : (m.dieGone d).epoch = m.epoch := (rfl)
@[simp] theorem Module.dieGone_owner (m : Module) (d : Nat) : (m.dieGone d).owner = m.owner := (rfl)

@[simp] theorem State.moduleSays_fenceRec (s : State) (n : Nat) (c : SheetCmd) (code status : Nat) (res : SheetResult) (frames : List Payload) :
    ((s.moduleSays n c code status res frames).mask butMods).fenceRec b = (s.mask butMods).fenceRec b := by
  simp [State.moduleSays]

@[simp] theorem State.moduleDoes_fenceRec (s : State) (n : Nat) (c : SheetCmd) (code : Nat) {f : Module → State}
    (hf : ∀ m, ((f m).mask butMods).fenceRec b = (s.mask butMods).fenceRec b) :
    ((s.moduleDoes n c code f).mask butMods).fenceRec b = (s.mask butMods).fenceRec b := by
  unfold State.moduleDoes
  split <;> simp [hf]

@[simp] theorem State.dieOp_fenceRec (s : State) (n : Nat) (c : SheetCmd) (code : Nat) (inRange : Module → Bool) {f : Module → State}
    (hf : ∀ m, ((f m).mask butMods).fenceRec b = (s.mask butMods).fenceRec b) :
    ((s.dieOp n c code inRange f).mask butMods).fenceRec b = (s.mask butMods).fenceRec b := by
  simp [State.dieOp, hf]

/-- A meaning that is a next state keeps the fence records when that state does. -/
theorem fenceRec_of_next {r : State} (h : Host.Outcome.next r = (.next t : Res State))
    (hr : (r.mask butMods).fenceRec b = (s.mask butMods).fenceRec b) : t.fenceRec b = s.fenceRec b := by
  cases h
  exact hr

theorem execSheetRead_fenceRec {bay c nand} (h : execSheetRead bay c nand s = .next t) : t.fenceRec b = s.fenceRec b := by
  refine fenceRec_of_next h (State.dieOp_fenceRec _ _ _ _ _ fun m => ?_)
  cases nand <;> simp

theorem execSheetProgram_fenceRec {bay c frames nand} (h : execSheetProgram bay c frames nand s = .next t) : t.fenceRec b = s.fenceRec b := by
  refine fenceRec_of_next h ?_
  cases nand <;> simp

theorem execSheetErase_fenceRec {bay c nand} (h : execSheetErase bay c nand s = .next t) : t.fenceRec b = s.fenceRec b := by
  refine fenceRec_of_next h (State.dieOp_fenceRec _ _ _ _ _ fun m => ?_)
  cases nand <;> simp

theorem execSheetStatus_fenceRec {bay c} (h : execSheetStatus bay c s = .next t) : t.fenceRec b = s.fenceRec b :=
  fenceRec_of_next h (by simp)

theorem execGetParam_fenceRec {bay c} (h : execGetParam bay c s = .next t) : t.fenceRec b = s.fenceRec b := by
  refine fenceRec_of_next h (State.moduleDoes_fenceRec _ _ _ _ fun m => ?_)
  simp [apply_ite Module.desc, apply_ite Module.epoch, apply_ite Module.owner]

theorem execSetParam_fenceRec {bay c} (h : execSetParam bay c s = .next t) : t.fenceRec b = s.fenceRec b :=
  fenceRec_of_next h (by simp)

theorem execDescRead_fenceRec {bay c} (h : execDescRead bay c s = .next t) : t.fenceRec b = s.fenceRec b :=
  fenceRec_of_next h (by simp)

theorem execTemp_fenceRec {bay c} (h : execTemp bay c s = .next t) : t.fenceRec b = s.fenceRec b :=
  fenceRec_of_next h (by simp)

theorem execDieReset_fenceRec {bay c} (h : execDieReset bay c s = .next t) : t.fenceRec b = s.fenceRec b :=
  fenceRec_of_next h (by simp)

theorem execPowerState_fenceRec {bay c} (h : execPowerState bay c s = .next t) : t.fenceRec b = s.fenceRec b :=
  fenceRec_of_next h (by simp)

theorem execStrikeTrigger_fenceRec (h : execStrikeTrigger s = .next t) : t.fenceRec b = s.fenceRec b :=
  fenceRec_of_next h (by simp)

theorem execPresenceAbsent100ms_fenceRec {bay} (h : execPresenceAbsent100ms bay s = .next t) : t.fenceRec b = s.fenceRec b := by
  refine fenceRec_of_next h ?_
  dsimp only
  split
  · rfl
  · cases (s.chan bay).st <;> simp

theorem execFeedLost_fenceRec {f} (h : execFeedLost f s = .next t) : t.fenceRec b = s.fenceRec b := by
  refine fenceRec_of_next h ?_
  dsimp only
  split
  · rfl
  · split <;> simp

theorem execFeedGood_fenceRec {f} (h : execFeedGood f s = .next t) : t.fenceRec b = s.fenceRec b :=
  fenceRec_of_next h (by simp)

theorem execPathConfirmedOff_fenceRec (h : execPathConfirmedOff s = .next t) : t.fenceRec b = s.fenceRec b :=
  fenceRec_of_next h (by simp)

theorem execPathConfirmTimeout_fenceRec (h : execPathConfirmTimeout s = .next t) : t.fenceRec b = s.fenceRec b := by
  refine fenceRec_of_next h ?_
  split <;> simp

theorem execFeedReturnTimer_fenceRec (h : execFeedReturnTimer s = .next t) : t.fenceRec b = s.fenceRec b :=
  fenceRec_of_next h (by simp)

theorem execDownRestartTimer_fenceRec (h : execDownRestartTimer s = .next t) : t.fenceRec b = s.fenceRec b :=
  fenceRec_of_next h (by simp)

theorem execHoldupPeerTimer_fenceRec (h : execHoldupPeerTimer s = .next t) : t.fenceRec b = s.fenceRec b :=
  fenceRec_of_next h (by simp)

theorem execBusBelowHoldMin_fenceRec (h : execBusBelowHoldMin s = .next t) : t.fenceRec b = s.fenceRec b :=
  fenceRec_of_next h (by simp)

theorem execInsertionDelayExpiry_fenceRec {bay} (h : execInsertionDelayExpiry bay s = .next t) : t.fenceRec b = s.fenceRec b :=
  fenceRec_of_next h (by simp)

theorem execChannelPowerGood_fenceRec {bay} (h : execChannelPowerGood bay s = .next t) : t.fenceRec b = s.fenceRec b :=
  fenceRec_of_next h (by simp)

theorem execFastTrip_fenceRec {bay} (h : execFastTrip bay s = .next t) : t.fenceRec b = s.fenceRec b := by
  refine fenceRec_of_next h ?_
  split <;> simp

theorem execSoaTimeout_fenceRec {bay} (h : execSoaTimeout bay s = .next t) : t.fenceRec b = s.fenceRec b := by
  refine fenceRec_of_next h ?_
  split <;> simp

theorem execRampTimeout_fenceRec {bay} (h : execRampTimeout bay s = .next t) : t.fenceRec b = s.fenceRec b :=
  fenceRec_of_next h (by simp)

theorem execPgLost_fenceRec {bay} (h : execPgLost bay s = .next t) : t.fenceRec b = s.fenceRec b :=
  fenceRec_of_next h (by simp)

theorem execCooldownExpiry_fenceRec {bay} (h : execCooldownExpiry bay s = .next t) : t.fenceRec b = s.fenceRec b :=
  fenceRec_of_next h (by simp)

theorem execFetFaultTimer_fenceRec {bay} (h : execFetFaultTimer bay s = .next t) : t.fenceRec b = s.fenceRec b := by
  refine fenceRec_of_next h ?_
  split <;> simp

theorem execAuxiliaryPowerRemoved_fenceRec (h : execAuxiliaryPowerRemoved s = .next t) : t.fenceRec b = s.fenceRec b := by
  refine fenceRec_of_next h ?_
  split
  · rfl
  · have hoff : ((State.diePowerOff ((List.range 48).foldl (fun s b => s.modulePower b) (s.onBpd fun b =>
        { BpdSt.reset with aux := false, chans := b.chans.map fun c => { Chan.reset with pres := c.pres } }))).mask butMods).fenceRec b
        = (s.mask butMods).fenceRec b := by
      simp [State.diePowerOff_mask, State.onBpd_all_mask]
    dsimp only
    generalize State.diePowerOff _ = off at hoff ⊢
    exact hoff

theorem execRenewRx_fenceRec {sh m} (h : execRenewRx sh m s = .next t) : t.fenceRec b = s.fenceRec b := by
  refine fenceRec_of_next h ?_
  dsimp only
  (repeat' split) <;> simp

theorem execGrantRx_fenceRec {sh m} (h : execGrantRx sh m s = .next t) : t.fenceRec b = s.fenceRec b := by
  refine fenceRec_of_next h ?_
  dsimp only
  (repeat' split) <;> simp

theorem execReleaseRx_fenceRec {sh m} (h : execReleaseRx sh m s = .next t) : t.fenceRec b = s.fenceRec b := by
  refine fenceRec_of_next h ?_
  dsimp only
  (repeat' split) <;> simp

theorem execHelloRx_fenceRec {sh m} (h : execHelloRx sh m s = .next t) : t.fenceRec b = s.fenceRec b :=
  fenceRec_of_next h (by simp)

theorem execSheetResponse_fenceRec {bay tag code res} (h : execSheetResponse bay tag code res s = .next t) : t.fenceRec b = s.fenceRec b := by
  refine fenceRec_of_next h ?_
  dsimp only
  (repeat' split) <;> simp

theorem execSheetDataRx_fenceRec {bay tag index payload} (h : execSheetDataRx bay tag index payload s = .next t) :
    t.fenceRec b = s.fenceRec b := by
  refine fenceRec_of_next h ?_
  dsimp only
  (repeat' split) <;> simp

theorem execSheetOpTimeout_fenceRec {bay tag} (h : execSheetOpTimeout bay tag s = .next t) : t.fenceRec b = s.fenceRec b := by
  refine fenceRec_of_next h ?_
  dsimp only
  split <;> simp

theorem execFrameBoundary_fenceRec (h : execFrameBoundary s = .next t) : t.fenceRec b = s.fenceRec b :=
  fenceRec_of_next h (by simp)

theorem State.mbxRun_fenceRec (s : State) (h : MbxHdr) (sp : MbxSpec) {start again : State → State}
    (hs : ∀ x, ((start x).mask butMods).fenceRec b = (x.mask butMods).fenceRec b)
    (ha : ∀ x, ((again x).mask butMods).fenceRec b = (x.mask butMods).fenceRec b) :
    ((s.mbxRun h sp start again).mask butMods).fenceRec b = (s.mask butMods).fenceRec b := by
  unfold State.mbxRun
  dsimp only
  (repeat' split) <;> simp [hs, ha]

theorem execFnArm_fenceRec {hd format} (h : execFnArm hd format s = .next t) : t.fenceRec b = s.fenceRec b :=
  fenceRec_of_next h (State.mbxRun_fenceRec _ _ _ (fun _ => State.armStart_fenceRec _ _ _) fun _ => State.armStep_fenceRec _ _ _)

theorem execStartUpStepEnd_fenceRec {env} (h : execStartUpStepEnd env s = .next t) : t.fenceRec b = s.fenceRec b := by
  refine fenceRec_of_next h ?_
  dsimp only
  (repeat' split) <;> simp

end Sys2Proof.Machine
end

section
/-! SUPPORT. FENCE and the insertion of a module, which change fence records, and from them R234 for every command. -/

namespace Sys2Proof.Machine

variable {b : Fin 48} {s t r : State}

/-- R234 of a bay in two states: a module there is still there or another is, and of the same module the epoch does not fall, nor does the
owner change at the same epoch. -/
def State.KeepsEpoch (s t : State) (b : Fin 48) : Prop :=
  ∀ n e o, s.fenceRec b = some (n, e, o) → ∃ n' e' o', t.fenceRec b = some (n', e', o') ∧ (n' = n → e ≤ e' ∧ (e' = e → o' = o))

theorem State.KeepsEpoch.of_fenceRec (h : t.fenceRec b = s.fenceRec b) : s.KeepsEpoch t b :=
  fun n e o hs => ⟨n, e, o, h.trans hs, fun _ => ⟨le_rfl, fun _ => rfl⟩⟩

theorem State.KeepsEpoch.of_mask (h : t.mask butMods = s.mask butMods) : s.KeepsEpoch t b :=
  .of_fenceRec (congrArg (·.fenceRec b) h)

/-- What comes after and keeps the fence records does not matter. -/
theorem State.KeepsEpoch.trans_fenceRec (h : s.KeepsEpoch r b) (ht : (t.mask butMods).fenceRec b = (r.mask butMods).fenceRec b) :
    s.KeepsEpoch t b := by
  have hrec : t.fenceRec b = r.fenceRec b := ht
  unfold State.KeepsEpoch
  rwa [hrec]

/-! ### FENCE (R233) -/

/-- The module after it took the epoch of a FENCE: the port that sent it is the owner, and the other port's programs and erases not
started on their dies are FENCED. -/
def Module.takeFence (m : Module) (c : SheetCmd) : Module :=
  { m with
    epoch := c.epoch, owner := if c.portB then 2 else 1
    ops := m.ops.map fun o =>
      if o.portB ≠ c.portB ∧ o.state = 1 ∧ (o.code = 2 ∨ o.code = 3) then { o with state := 3, result := 3 } else o }

theorem execFence_eq (bay : Fin 48) (c : SheetCmd) (s : State) : execFence bay c s = .next (s.moduleDoes bay c 0x0B fun m =>
    if m.epoch < c.epoch ∧ c.epoch < 0xFFFFFFFF then
      (s.onModule bay fun m => m.takeFence c).moduleSays bay c 0x0B 0 (.epoch c.epoch) []
    else if c.epoch = m.epoch ∧ m.owner = (if c.portB then 2 else 1) ∧ c.epoch ≠ 0 ∧ c.epoch ≠ 0xFFFFFFFF then
      s.moduleSays bay c 0x0B 0 (.epoch m.epoch) []
    else s.moduleSays bay c 0x0B 4 (.epoch m.epoch) []) := rfl

/-- What a module does with a command: nothing, a response of its own, or the operation. -/
theorem State.moduleDoes_cases (s : State) (n : Nat) (c : SheetCmd) (code : Nat) (f : Module → State) :
    s.moduleDoes n c code f = s ∨ (∃ status, s.moduleDoes n c code f = s.moduleSays n c code status .none []) ∨
      ∃ m, s.module n = some m ∧ s.moduleDoes n c code f = f m := by
  unfold State.moduleDoes
  split
  · exact .inl rfl
  next m hm =>
    split
    · exact .inl rfl
    · split
      · exact .inr (.inl ⟨_, rfl⟩)
      · split
        · exact .inr (.inl ⟨_, rfl⟩)
        · exact .inr (.inr ⟨m, hm, rfl⟩)

theorem State.onModule_takeFence_keepsEpoch {n : Nat} {c : SheetCmd} {m : Module} (hm : s.module n = some m) (hlt : m.epoch < c.epoch) :
    s.KeepsEpoch (s.onModule n fun m => m.takeFence c) b := by
  intro serial e o hrec
  by_cases hn : n = b
  · subst hn
    simp only [State.fenceRec, State.module_onModule, hm, if_true, Option.map_some, Option.some.injEq, Prod.mk.injEq] at hrec ⊢
    obtain ⟨hserial, rfl, -⟩ := hrec
    exact ⟨_, _, _, ⟨rfl, rfl, rfl⟩, fun _ => ⟨hlt.le, fun heq => absurd heq hlt.ne'⟩⟩
  · refine ⟨serial, e, o, ?_, fun _ => ⟨le_rfl, fun _ => rfl⟩⟩
    rwa [State.fenceRec, State.module_onModule, if_neg hn]

theorem execFence_keepsEpoch {bay c} (h : execFence bay c s = .next t) : s.KeepsEpoch t b := by
  rw [execFence_eq] at h
  obtain rfl := Host.Outcome.next.inj h
  have hsays status res frames : s.KeepsEpoch (s.moduleSays bay c 0x0B status res frames) b :=
    .of_fenceRec (State.moduleSays_fenceRec s bay c 0x0B status res frames)
  obtain heq | ⟨status, heq⟩ | ⟨m, hm, heq⟩ := State.moduleDoes_cases s bay c 0x0B _ <;> rw [heq]
  · exact .of_fenceRec rfl
  · exact hsays _ _ _
  · split
    next hlt => exact (State.onModule_takeFence_keepsEpoch hm hlt.1).trans_fenceRec (State.moduleSays_fenceRec ..)
    · split_ifs <;> exact hsays _ _ _

/-! ### Insertion (R232, R234) -/

/-- The module that was in the bay comes back with its epoch and owner. -/
theorem State.insertModule_same_fenceRec {n : Nat} {d : ModuleDesc} {m : Module} (hm : s.module n = some m) (hd : m.desc.serial = d.serial) :
    (s.insertModule n d).fenceRec b = s.fenceRec b := by
  simp only [State.insertModule, hm, hd, beq_self_eq_true, if_true]
  by_cases hn : n = b
  · subst hn
    simp [State.fenceRec, State.module_onModule, hm, hd]
  · simp [State.fenceRec, State.module_onModule, hn]

/-- A module that the bay did not hold comes new. -/
theorem State.insertModule_other_modules {n : Nat} {d : ModuleDesc} (hd : ∀ m, s.module n = some m → m.desc.serial ≠ d.serial) :
    ∃ fresh : Module, fresh.desc = d ∧ fresh.epoch = 0 ∧ fresh.owner = 0 ∧
      (s.insertModule n d).sheet.modules = putNth s.sheet.modules n (some fresh) := by
  unfold State.insertModule
  cases hm : s.module n with
  | none => exact ⟨_, rfl, rfl, rfl, rfl⟩
  | some m =>
    simp only [beq_eq_false_iff_ne.2 (hd m hm)]
    exact ⟨_, rfl, rfl, rfl, rfl⟩

/-- It comes with epoch 0 and no owner. -/
theorem State.insertModule_other_fenceRec {n : Nat} {d : ModuleDesc} (hlen : n = b → n < s.sheet.modules.length)
    (hd : ∀ m, s.module n = some m → m.desc.serial ≠ d.serial) :
    (s.insertModule n d).fenceRec b = if n = b then some (d.serial, 0, 0) else s.fenceRec b := by
  obtain ⟨fresh, hdesc, hepoch, howner, hmods⟩ := State.insertModule_other_modules hd
  rw [State.fenceRec, State.module, hmods, putNth, nth_modNth _ _ _ _ _ fun hn => .inl (hlen hn)]
  split
  · simp [hdesc, hepoch, howner]
  · rfl

theorem State.lt_of_module_eq_some {n : Nat} {m : Module} (hm : s.module n = some m) : n < s.sheet.modules.length := by
  by_contra hle
  rw [State.module, nth, List.getD_eq_default _ _ (Nat.le_of_not_lt hle)] at hm
  cases hm

theorem State.insertModule_keepsEpoch {n : Nat} {d : ModuleDesc} : s.KeepsEpoch (s.insertModule n d) b := by
  by_cases hsame : ∃ m, s.module n = some m ∧ m.desc.serial = d.serial
  · obtain ⟨m, hm, hd⟩ := hsame
    exact .of_fenceRec (State.insertModule_same_fenceRec hm hd)
  · have hother : ∀ m, s.module n = some m → m.desc.serial ≠ d.serial := fun m hm hd => hsame ⟨m, hm, hd⟩
    intro serial e o hrec
    obtain ⟨m, hm, hval⟩ := Option.map_eq_some_iff.1 hrec
    rw [State.insertModule_other_fenceRec (fun hn => hn ▸ State.lt_of_module_eq_some hm) hother]
    split
    next hn =>
      have hserial : m.desc.serial = serial := congrArg Prod.fst hval
      exact ⟨_, _, _, rfl, fun heq => absurd (hserial.trans heq.symm) (hother m (hn ▸ hm))⟩
    · exact ⟨serial, e, o, hrec, fun _ => ⟨le_rfl, fun _ => rfl⟩⟩

/-- PRESENCE_CHANGE of a module that comes: what follows its insertion keeps the fence records. -/
theorem execPresenceChange_some_fenceRec {bay : Fin 48} {d : ModuleDesc} (h : execPresenceChange bay (some d) s = .next t) :
    t.fenceRec b = if (s.chan bay).pres then s.fenceRec b else (s.insertModule bay d).fenceRec b := by
  obtain rfl := Host.Outcome.next.inj h
  dsimp only
  split
  · rfl
  · rw [← State.fenceRec_mask, ← State.fenceRec_mask (s.insertModule bay d)]
    split <;> simp

theorem execPresenceChange_none_fenceRec {bay : Fin 48} (h : execPresenceChange bay none s = .next t) : t.fenceRec b = s.fenceRec b := by
  refine fenceRec_of_next h ?_
  dsimp only
  split
  · rfl
  · (repeat' split) <;> simp

theorem execPresenceChange_keepsEpoch {bay : Fin 48} {present : Option ModuleDesc} (h : execPresenceChange bay present s = .next t) :
    s.KeepsEpoch t b := by
  cases present with
  | none => exact .of_fenceRec (execPresenceChange_none_fenceRec h)
  | some d =>
    have hrec := execPresenceChange_some_fenceRec (b := b) h
    split at hrec
    · exact .of_fenceRec hrec
    · exact State.insertModule_keepsEpoch.trans_fenceRec hrec

/-- Every command keeps R234: FENCE raises an epoch, an insertion brings the same module or another, the commands of the module, of its
power and of the format keep the fence records, and all others leave the modules alone (their frames). -/
theorem exec_keepsEpoch {i : Instr} (h : exec i s = .next t) : s.KeepsEpoch t b := by
  cases i with
  | auxPowerOn => exact .of_mask (execAuxPowerOn_mask rfl rfl rfl rfl rfl rfl rfl rfl rfl rfl rfl rfl rfl rfl rfl rfl rfl rfl rfl rfl rfl rfl rfl _ h)
  | mainDiePowerUp => exact .of_mask (execMainDiePowerUp_mask rfl h)
  | chipReset => exact .of_mask (execChipReset_mask rfl rfl rfl rfl rfl rfl rfl rfl rfl rfl rfl rfl rfl rfl rfl rfl rfl rfl rfl rfl rfl _ h)
  | startUpStepEnd => exact .of_fenceRec (execStartUpStepEnd_fenceRec h)
  | frameBoundary => exact .of_fenceRec (execFrameBoundary_fenceRec h)
  | sequencerSlot => exact .of_mask (execSequencerSlot_mask rfl rfl _ h)
  | intakeSlot => exact .of_mask (execIntakeSlot_mask rfl rfl rfl rfl rfl rfl rfl rfl rfl rfl rfl _ h)
  | admission => exact .of_mask (execAdmission_mask rfl _ h)
  | overlapWaitEnd => exact .of_mask (execOverlapWaitEnd_mask rfl _ h)
  | switchMatch => exact .of_mask (execSwitchMatch_mask rfl rfl rfl rfl _ h)
  | frontFrameRx => exact .of_mask (execFrontFrameRx_mask rfl _ _ _ h)
  | classify => exact .of_mask (execClassify_mask rfl rfl rfl _ _ h)
  | reorderRelease => exact .of_mask (execReorderRelease_mask rfl rfl rfl _ h)
  | fragmentEntryExpiry => exact .of_mask (execFragmentEntryExpiry_mask rfl _ h)
  | fragmentParkTimeout => exact .of_mask (execFragmentParkTimeout_mask rfl rfl rfl _ _ h)
  | controlPortFrame => exact .of_mask (execControlPortFrame_mask rfl rfl rfl rfl _ _ h)
  | ruleUpdatePortStep => exact .of_mask (execRuleUpdatePortStep_mask rfl rfl rfl rfl _ h)
  | pfcFrameRx => exact .of_mask (execPfcFrameRx_mask rfl _ _ _ _ h)
  | pfcPauseExpiry => exact .of_mask (execPfcPauseExpiry_mask rfl _ _ _ h)
  | pfcXoffRepeat => exact .of_mask (execPfcXoffRepeat_mask rfl rfl _ _ _ h)
  | frontLinkChange => exact .of_mask (execFrontLinkChange_mask rfl rfl rfl rfl rfl _ _ h)
  | cmRequest => exact .of_mask (execCmRequest_mask rfl rfl _ h)
  | cmReadyToUse => exact .of_mask (execCmReadyToUse_mask rfl _ h)
  | cmRejectRx => exact .of_mask (execCmRejectRx_mask rfl _ h)
  | cmDisconnect => exact .of_mask (execCmDisconnect_mask rfl rfl rfl rfl rfl rfl rfl _ h)
  | connectingTimeout => exact .of_mask (execConnectingTimeout_mask rfl _ h)
  | timewaitExpiry => exact .of_mask (execTimewaitExpiry_mask rfl rfl _ h)
  | qpFlushComplete => exact .of_mask (execQpFlushComplete_mask rfl _ h)
  | rdmaSendRx => exact .of_mask (execRdmaSendRx_mask rfl _ _ h)
  | rdmaAckRx hdr msn code => exact .of_mask (execRdmaAckRx_mask rfl rfl rfl hdr msn code h)
  | rdmaNakRx => exact .of_mask (execRdmaNakRx_mask rfl rfl rfl rfl rfl rfl rfl rfl _ _ h)
  | rdmaReadResponseRx => exact .of_mask (execRdmaReadResponseRx_mask rfl rfl rfl _ _ _ h)
  | rdmaOpcodeRefused => exact .of_mask (execRdmaOpcodeRefused_mask rfl rfl rfl rfl rfl rfl rfl rfl _ _ h)
  | cnpRx => exact .of_mask (execCnpRx_mask rfl _ h)
  | capsuleToIntake => exact .of_mask (execCapsuleToIntake_mask rfl rfl _ _ h)
  | rdmaReadIssue => exact .of_mask (execRdmaReadIssue_mask rfl rfl rfl rfl _ h)
  | readDataToHost => exact .of_mask (execReadDataToHost_mask rfl rfl rfl rfl rfl rfl rfl rfl _ h)
  | rdmaRequestGapTimer => exact .of_mask (execRdmaRequestGapTimer_mask rfl _ h)
  | rdmaResponseGapTimer => exact .of_mask (execRdmaResponseGapTimer_mask rfl rfl rfl rfl rfl rfl rfl rfl _ h)
  | rdmaAckTimeout => exact .of_mask (execRdmaAckTimeout_mask rfl rfl rfl rfl rfl rfl rfl rfl _ h)
  | rdmaAckCoalesceTimer => exact .of_mask (execRdmaAckCoalesceTimer_mask rfl _ h)
  | rdmaRnrRetryTimer => exact .of_mask (execRdmaRnrRetryTimer_mask rfl rfl _ h)
  | rateIncreaseTimer => exact .of_mask (execRateIncreaseTimer_mask rfl _ h)
  | txCirWindow => exact .of_mask (execTxCirWindow_mask rfl rfl rfl _ _ _ h)
  | read => exact .of_mask (execRead_mask rfl rfl rfl rfl rfl rfl rfl rfl rfl rfl rfl rfl rfl rfl rfl rfl rfl rfl _ h)
  | write => exact .of_mask (execWrite_mask rfl rfl rfl rfl rfl rfl rfl rfl rfl rfl rfl rfl rfl rfl rfl rfl rfl rfl _ h)
  | flush => exact .of_mask (execFlush_mask rfl rfl rfl rfl rfl rfl rfl rfl rfl rfl rfl rfl rfl rfl rfl rfl rfl rfl _ h)
  | writeZeroes => exact .of_mask (execWriteZeroes_mask rfl rfl rfl rfl rfl rfl rfl rfl rfl rfl rfl rfl rfl rfl rfl rfl rfl rfl _ h)
  | compare => exact .of_mask (execCompare_mask rfl rfl rfl rfl rfl rfl rfl rfl rfl rfl rfl rfl rfl rfl rfl rfl rfl rfl _ h)
  | datasetManagement => exact .of_mask (execDatasetManagement_mask rfl rfl rfl rfl rfl rfl rfl rfl rfl rfl rfl rfl rfl rfl rfl rfl rfl rfl _ h)
  | identify => exact .of_mask (execIdentify_mask rfl rfl rfl rfl _ h)
  | getLogPage => exact .of_mask (execGetLogPage_mask rfl rfl rfl rfl rfl _ h)
  | setFeatures => exact .of_mask (execSetFeatures_mask rfl rfl rfl rfl _ h)
  | getFeatures => exact .of_mask (execGetFeatures_mask rfl rfl rfl rfl _ h)
  | asynchronousEventRequest => exact .of_mask (execAsynchronousEventRequest_mask rfl rfl rfl rfl _ h)
  | keepAlive => exact .of_mask (execKeepAlive_mask rfl rfl rfl rfl _ h)
  | abort => exact .of_mask (execAbort_mask rfl rfl rfl rfl _ h)
  | connect => exact .of_mask (execConnect_mask rfl rfl rfl rfl _ h)
  | propertyGet => exact .of_mask (execPropertyGet_mask rfl rfl rfl rfl _ h)
  | propertySet => exact .of_mask (execPropertySet_mask rfl rfl rfl rfl rfl rfl rfl _ h)
  | ccEnClearComplete => exact .of_mask (execCcEnClearComplete_mask rfl _ h)
  | disconnect => exact .of_mask (execDisconnect_mask rfl rfl rfl rfl rfl rfl rfl _ h)
  | ledgerBind => exact .of_mask (execLedgerBind_mask rfl rfl rfl rfl rfl rfl rfl _ h)
  | nvmeUnsupportedOpcode => exact .of_mask (execNvmeUnsupportedOpcode_mask rfl rfl rfl rfl _ h)
  | keepAliveTimeout => exact .of_mask (execKeepAliveTimeout_mask rfl rfl rfl rfl rfl rfl rfl _ h)
  | queueReservation => exact .of_mask (execQueueReservation_mask rfl rfl _ _ _ h)
  | forwardCommand => exact .of_mask (execForwardCommand_mask rfl rfl rfl rfl rfl _ h)
  | forwardCompletionRx => exact .of_mask (execForwardCompletionRx_mask rfl rfl rfl rfl rfl _ _ h)
  | forwardRecall => exact .of_mask (execForwardRecall_mask rfl _ h)
  | writePlace => exact .of_mask (execWritePlace_mask rfl rfl rfl rfl rfl rfl rfl rfl rfl rfl rfl rfl _ _ h)
  | mirrorConfirm => exact .of_mask (execMirrorConfirm_mask rfl rfl rfl rfl rfl rfl rfl rfl rfl rfl _ h)
  | mirrorTimeout => exact .of_mask (execMirrorTimeout_mask rfl rfl rfl rfl rfl rfl rfl rfl rfl rfl _ h)
  | mirrorDataRx => exact .of_mask (execMirrorDataRx_mask rfl rfl _ _ h)
  | logShipRecordRx => exact .of_mask (execLogShipRecordRx_mask rfl rfl rfl rfl rfl rfl rfl _ h)
  | stripeDeadline => exact .of_mask (execStripeDeadline_mask rfl rfl rfl rfl rfl rfl rfl _ h)
  | journalPageTimer => exact .of_mask (execJournalPageTimer_mask rfl rfl rfl h)
  | sheetResponse => exact .of_fenceRec (execSheetResponse_fenceRec h)
  | mapUpdateApply => exact .of_mask (execMapUpdateApply_mask rfl rfl rfl rfl rfl rfl rfl rfl rfl rfl rfl rfl rfl rfl rfl rfl rfl rfl _ _ h)
  | mapFetchComplete => exact .of_mask (execMapFetchComplete_mask rfl rfl rfl rfl rfl rfl rfl rfl rfl rfl rfl rfl rfl rfl _ h)
  | ldpcDecodeDone => exact .of_mask (execLdpcDecodeDone_mask rfl rfl rfl rfl rfl rfl rfl rfl rfl rfl rfl rfl rfl rfl _ _ h)
  | probeIssue => exact .of_mask (execProbeIssue_mask rfl rfl rfl rfl rfl rfl rfl rfl h)
  | tcFillComplete => exact .of_mask (execTcFillComplete_mask rfl rfl rfl rfl rfl rfl rfl rfl rfl rfl rfl rfl rfl rfl _ h)
  | tcWritebackTimer => exact .of_mask (execTcWritebackTimer_mask rfl rfl h)
  | tcLockWaysWrite => exact .of_mask (execTcLockWaysWrite_mask rfl rfl _ h)
  | tcLockChangeDone => exact .of_mask (execTcLockChangeDone_mask rfl rfl rfl rfl rfl rfl rfl rfl rfl rfl rfl rfl rfl rfl h)
  | tcWayPwrWrite => exact .of_mask (execTcWayPwrWrite_mask rfl _ h)
  | tcGroupPowerDownDone => exact .of_mask (execTcGroupPowerDownDone_mask rfl rfl _ h)
  | tcGroupPowerUpDone => exact .of_mask (execTcGroupPowerUpDone_mask rfl _ h)
  | tcInvalidate => exact .of_mask (execTcInvalidate_mask rfl rfl rfl rfl rfl rfl rfl rfl rfl rfl rfl rfl rfl rfl _ h)
  | tcClean => exact .of_mask (execTcClean_mask rfl rfl rfl rfl rfl rfl rfl rfl rfl rfl rfl rfl rfl rfl _ h)
  | tcCleanInvalidate => exact .of_mask (execTcCleanInvalidate_mask rfl rfl rfl rfl rfl rfl rfl rfl rfl rfl rfl rfl rfl rfl _ h)
  | tcPreload => exact .of_mask (execTcPreload_mask rfl rfl rfl rfl rfl rfl rfl rfl rfl rfl rfl rfl rfl rfl _ h)
  | tcPreloadLock => exact .of_mask (execTcPreloadLock_mask rfl rfl rfl rfl rfl rfl rfl rfl rfl rfl rfl rfl rfl rfl _ h)
  | tcRangeDone => exact .of_mask (execTcRangeDone_mask rfl rfl rfl rfl rfl rfl rfl rfl rfl rfl rfl rfl rfl rfl rfl h)
  | reclaimVictimSelect => exact .of_mask (execReclaimVictimSelect_mask rfl h)
  | relocation => exact .of_mask (execRelocation_mask rfl rfl rfl rfl rfl rfl rfl rfl rfl rfl rfl rfl rfl rfl _ h)
  | reclaimErase => exact .of_mask (execReclaimErase_mask rfl rfl rfl rfl rfl rfl rfl rfl rfl _ h)
  | checkpointStart => exact .of_mask (execCheckpointStart_mask rfl rfl rfl rfl rfl rfl rfl rfl rfl h)
  | strikeTrigger => exact .of_fenceRec (execStrikeTrigger_fenceRec h)
  | repairBatchAdvance => exact .of_mask (execRepairBatchAdvance_mask rfl rfl rfl rfl rfl rfl rfl rfl rfl rfl rfl rfl rfl rfl h)
  | rebuildStep => exact .of_mask (execRebuildStep_mask rfl rfl rfl rfl rfl rfl rfl rfl rfl rfl rfl rfl rfl rfl h)
  | rebuildRetryTimer => exact .of_mask (execRebuildRetryTimer_mask rfl rfl rfl rfl rfl rfl rfl rfl rfl rfl rfl rfl rfl rfl h)
  | journalCopyPlaced => exact .of_mask (execJournalCopyPlaced_mask rfl rfl rfl rfl rfl _ h)
  | sweepStep => exact .of_mask (execSweepStep_mask rfl rfl rfl rfl rfl rfl rfl rfl rfl rfl rfl rfl rfl rfl h)
  | patrolIssue => exact .of_mask (execPatrolIssue_mask rfl rfl rfl rfl rfl rfl rfl rfl rfl rfl rfl rfl rfl rfl h)
  | rewriteIssue => exact .of_mask (execRewriteIssue_mask rfl rfl rfl rfl rfl rfl rfl rfl rfl rfl rfl rfl rfl rfl h)
  | ageClockTick => exact .of_mask (execAgeClockTick_mask rfl rfl rfl rfl rfl _ _ h)
  | blockRecordScan => exact .of_mask (execBlockRecordScan_mask rfl rfl rfl rfl rfl h)
  | wearCheck => exact .of_mask (execWearCheck_mask rfl rfl rfl rfl h)
  | junctionSample => exact .of_mask (execJunctionSample_mask rfl h)
  | trainingAttempt => exact .of_mask (execTrainingAttempt_mask rfl _ h)
  | lanesAligned => exact .of_mask (execLanesAligned_mask rfl rfl rfl rfl rfl rfl rfl rfl rfl rfl rfl rfl rfl rfl _ _ _ h)
  | trainingTimeout => exact .of_mask (execTrainingTimeout_mask rfl rfl rfl rfl rfl rfl rfl rfl rfl rfl rfl rfl rfl rfl _ h)
  | sheetInitSendTimer => exact .of_mask (execSheetInitSendTimer_mask rfl rfl rfl rfl _ h)
  | sheetInitRx => exact .of_mask (execSheetInitRx_mask rfl rfl rfl rfl _ _ h)
  | sheetFrameRx => exact .of_mask (execSheetFrameRx_mask rfl rfl rfl rfl rfl rfl rfl rfl rfl rfl rfl rfl rfl rfl rfl _ _ h)
  | sheetDataRx => exact .of_fenceRec (execSheetDataRx_fenceRec h)
  | sheetAckRx => exact .of_mask (execSheetAckRx_mask rfl rfl rfl rfl rfl rfl rfl rfl rfl rfl rfl rfl rfl rfl _ _ h)
  | sheetNakRx => exact .of_mask (execSheetNakRx_mask rfl rfl rfl rfl _ _ h)
  | sheetCreditRx => exact .of_mask (execSheetCreditRx_mask rfl rfl rfl rfl rfl rfl rfl rfl rfl rfl rfl rfl rfl rfl _ _ _ h)
  | sheetAckTimer => exact .of_mask (execSheetAckTimer_mask rfl rfl _ h)
  | sheetReplayTimer => exact .of_mask (execSheetReplayTimer_mask rfl rfl rfl rfl rfl rfl rfl rfl rfl rfl rfl rfl rfl rfl _ h)
  | sheetRead => exact .of_fenceRec (execSheetRead_fenceRec h)
  | sheetProgram => exact .of_fenceRec (execSheetProgram_fenceRec h)
  | sheetErase => exact .of_fenceRec (execSheetErase_fenceRec h)
  | sheetStatus => exact .of_fenceRec (execSheetStatus_fenceRec h)
  | getParam => exact .of_fenceRec (execGetParam_fenceRec h)
  | setParam => exact .of_fenceRec (execSetParam_fenceRec h)
  | descRead => exact .of_fenceRec (execDescRead_fenceRec h)
  | temp => exact .of_fenceRec (execTemp_fenceRec h)
  | dieReset => exact .of_fenceRec (execDieReset_fenceRec h)
  | powerState => exact .of_fenceRec (execPowerState_fenceRec h)
  | fence => exact execFence_keepsEpoch h
  | sheetOpTimeout => exact .of_fenceRec (execSheetOpTimeout_fenceRec h)
  | fenceTimeout => exact .of_mask (execFenceTimeout_mask rfl rfl rfl rfl rfl rfl rfl rfl rfl rfl rfl rfl rfl rfl _ h)
  | tagRequeryTimer => exact .of_mask (execTagRequeryTimer_mask rfl rfl _ _ h)
  | sheetStatusPoll => exact .of_mask (execSheetStatusPoll_mask rfl rfl h)
  | laneErrPoll => exact .of_mask (execLaneErrPoll_mask rfl rfl h)
  | unreachableTimeout => exact .of_mask (execUnreachableTimeout_mask rfl rfl rfl rfl rfl rfl rfl rfl rfl rfl rfl rfl rfl rfl _ h)
  | presenceChange => exact execPresenceChange_keepsEpoch h
  | feedWindowChange => exact .of_mask (execFeedWindowChange_mask rfl _ _ _ h)
  | feedLost => exact .of_fenceRec (execFeedLost_fenceRec h)
  | feedGood => exact .of_fenceRec (execFeedGood_fenceRec h)
  | pathConfirmedOff => exact .of_fenceRec (execPathConfirmedOff_fenceRec h)
  | pathConfirmTimeout => exact .of_fenceRec (execPathConfirmTimeout_fenceRec h)
  | feedReturnTimer => exact .of_fenceRec (execFeedReturnTimer_fenceRec h)
  | downRestartTimer => exact .of_fenceRec (execDownRestartTimer_fenceRec h)
  | holdupPeerTimer => exact .of_fenceRec (execHoldupPeerTimer_fenceRec h)
  | busBelowHoldMin => exact .of_fenceRec (execBusBelowHoldMin_fenceRec h)
  | holdupTestStart => exact .of_mask (execHoldupTestStart_mask rfl _ h)
  | holdupTestEnd => exact .of_mask (execHoldupTestEnd_mask rfl rfl rfl rfl rfl _ _ _ _ h)
  | insertionDelayExpiry => exact .of_fenceRec (execInsertionDelayExpiry_fenceRec h)
  | channelPowerGood => exact .of_fenceRec (execChannelPowerGood_fenceRec h)
  | fastTrip => exact .of_fenceRec (execFastTrip_fenceRec h)
  | soaTimeout => exact .of_fenceRec (execSoaTimeout_fenceRec h)
  | rampTimeout => exact .of_fenceRec (execRampTimeout_fenceRec h)
  | pgLost => exact .of_fenceRec (execPgLost_fenceRec h)
  | cooldownExpiry => exact .of_fenceRec (execCooldownExpiry_fenceRec h)
  | fetFaultTimer => exact .of_fenceRec (execFetFaultTimer_fenceRec h)
  | railPowerGood => exact .of_mask (execRailPowerGood_mask rfl _ h)
  | railPgTimeout => exact .of_mask (execRailPgTimeout_mask rfl h)
  | railRetryTimer => exact .of_mask (execRailRetryTimer_mask rfl h)
  | railPgLost k => exact .of_mask (execRailPgLost_mask rfl rfl rfl rfl rfl rfl rfl rfl rfl rfl rfl rfl rfl rfl rfl rfl rfl rfl rfl rfl rfl rfl k h)
  | refclkSysLoss => exact .of_mask (execRefclkSysLoss_mask rfl rfl rfl rfl rfl rfl rfl rfl rfl rfl rfl rfl rfl rfl rfl rfl rfl rfl rfl rfl rfl rfl h)
  | junctionSensorRead => exact .of_mask (execJunctionSensorRead_mask rfl rfl rfl rfl _ h)
  | thermalLevelChange => exact .of_mask (execThermalLevelChange_mask rfl rfl rfl h)
  | renewTimer => exact .of_mask (execRenewTimer_mask rfl rfl h)
  | renewRx sh m => exact .of_fenceRec (execRenewRx_fenceRec (sh := sh) (m := m) h)
  | grantRx sh m => exact .of_fenceRec (execGrantRx_fenceRec (sh := sh) (m := m) h)
  | releaseRx => exact .of_fenceRec (execReleaseRx_fenceRec h)
  | helloRx => exact .of_fenceRec (execHelloRx_fenceRec h)
  | leaseHolderStop => exact .of_mask (execLeaseHolderStop_mask rfl rfl rfl rfl rfl rfl rfl rfl rfl h)
  | leaseTakeTimer => exact .of_mask (execLeaseTakeTimer_mask rfl rfl rfl rfl rfl rfl rfl rfl rfl h)
  | coldTakeTimer => exact .of_mask (execColdTakeTimer_mask rfl rfl rfl rfl rfl rfl rfl rfl rfl h)
  | takeoverStep => exact .of_mask (execTakeoverStep_mask rfl rfl rfl rfl rfl rfl rfl rfl rfl rfl rfl rfl rfl rfl rfl rfl rfl rfl rfl rfl h)
  | lapsedProbe => exact .of_mask (execLapsedProbe_mask rfl rfl rfl rfl rfl rfl rfl rfl rfl rfl rfl rfl rfl rfl rfl h)
  | shroudLossTimer => exact .of_mask (execShroudLossTimer_mask rfl rfl rfl _ h)
  | peerLinkGroupLoss => exact .of_mask (execPeerLinkGroupLoss_mask rfl rfl rfl rfl rfl rfl rfl rfl rfl rfl rfl rfl _ h)
  | resyncComplete => exact .of_mask (execResyncComplete_mask rfl rfl rfl rfl rfl rfl rfl h)
  | shelfKeyTransfer => exact .of_mask (execShelfKeyTransfer_mask rfl rfl _ _ h)
  | periodicSwapTimer => exact .of_mask (execPeriodicSwapTimer_mask rfl rfl rfl rfl rfl rfl rfl rfl rfl rfl rfl rfl rfl h)
  | reachSwapTimer => exact .of_mask (execReachSwapTimer_mask rfl rfl rfl rfl rfl rfl rfl rfl rfl rfl rfl rfl rfl h)
  | drainComplete => exact .of_mask (execDrainComplete_mask rfl rfl rfl rfl rfl rfl rfl rfl rfl rfl rfl rfl rfl rfl rfl rfl rfl rfl rfl h)
  | swapRelease => exact .of_mask (execSwapRelease_mask rfl rfl rfl rfl rfl rfl rfl rfl rfl h)
  | drbgReseed => exact .of_mask (execDrbgReseed_mask rfl rfl rfl _ _ h)
  | drbgStallTimer => exact .of_mask (execDrbgStallTimer_mask rfl rfl rfl rfl rfl rfl rfl rfl rfl rfl rfl h)
  | retentionExpiry => exact .of_mask (execRetentionExpiry_mask rfl _ h)
  | sealDigestDone => exact .of_mask (execSealDigestDone_mask rfl rfl rfl rfl rfl rfl _ _ _ h)
  | faultRaise => exact .of_mask (execFaultRaise_mask rfl rfl rfl rfl _ h)
  | faultConcentratorTake => exact .of_mask (execFaultConcentratorTake_mask rfl rfl rfl rfl rfl rfl rfl rfl rfl rfl rfl _ h)
  | fStopResetTimer => exact .of_mask (execFStopResetTimer_mask rfl rfl rfl rfl rfl rfl rfl rfl rfl rfl rfl rfl rfl rfl rfl rfl rfl rfl rfl rfl rfl h)
  | faultHandlingEnd => exact .of_mask (execFaultHandlingEnd_mask rfl rfl rfl rfl rfl rfl rfl rfl rfl rfl rfl rfl rfl rfl rfl rfl rfl rfl rfl _ _ h)
  | bpdWordsDelivered => exact .of_mask (execBpdWordsDelivered_mask rfl rfl rfl rfl rfl rfl rfl rfl rfl rfl rfl rfl rfl h)
  | cwnAckWrite => exact .of_mask (execCwnAckWrite_mask rfl _ h)
  | evqHeadWrite => exact .of_mask (execEvqHeadWrite_mask rfl rfl _ _ h)
  | evqTimeThreshold => exact .of_mask (execEvqTimeThreshold_mask rfl rfl _ h)
  | msixVectorUnmask => exact .of_mask (execMsixVectorUnmask_mask rfl rfl _ h)
  | counterHappening => exact .of_mask (execCounterHappening_mask rfl _ h)
  | pmcSmpHeadWrite => exact .of_mask (execPmcSmpHeadWrite_mask rfl _ _ h)
  | registerWrite => exact .of_mask (execRegisterWrite_mask rfl rfl rfl rfl rfl rfl rfl rfl rfl rfl rfl rfl rfl rfl rfl rfl rfl _ _ _ _ h)
  | pcieCompletionRx => exact .of_mask (execPcieCompletionRx_mask rfl rfl rfl rfl _ _ h)
  | pcieCompletionTimeout => exact .of_mask (execPcieCompletionTimeout_mask rfl rfl _ h)
  | tagQuarantineExpiry => exact .of_mask (execTagQuarantineExpiry_mask rfl _ h)
  | busMasterEnableClear => exact .of_mask (execBusMasterEnableClear_mask rfl rfl h)
  | busMasterEnableSet => exact .of_mask (execBusMasterEnableSet_mask rfl rfl rfl rfl h)
  | functionLevelReset => exact .of_mask (execFunctionLevelReset_mask rfl rfl rfl rfl rfl rfl rfl rfl rfl h)
  | sessionOpen => exact .of_mask (execSessionOpen_mask rfl rfl rfl _ h)
  | sessionClose => exact .of_mask (execSessionClose_mask rfl rfl rfl _ _ _ h)
  | sessionTimeout => exact .of_mask (execSessionTimeout_mask rfl rfl _ h)
  | peerMailboxEffect => exact .of_mask (execPeerMailboxEffect_mask rfl rfl rfl rfl rfl rfl rfl rfl rfl rfl rfl rfl rfl rfl _ _ h)
  | mailboxCompletion => exact .of_mask (execMailboxCompletion_mask rfl rfl rfl rfl _ h)
  | mailboxInvalidOpcode => exact .of_mask (execMailboxInvalidOpcode_mask rfl rfl _ _ h)
  | fnStart => exact .of_mask (execFnStart_mask rfl rfl rfl rfl rfl rfl rfl rfl rfl rfl rfl rfl rfl rfl rfl rfl rfl rfl rfl rfl _ h)
  | fnStop => exact .of_mask (execFnStop_mask rfl rfl rfl rfl rfl rfl rfl rfl rfl rfl rfl rfl rfl rfl rfl _ h)
  | fnArm => exact .of_fenceRec (execFnArm_fenceRec h)
  | fnStatus => exact .of_mask (execFnStatus_mask rfl rfl rfl _ h)
  | fnChipreset => exact .of_mask (execFnChipreset_mask rfl rfl rfl rfl rfl rfl rfl rfl rfl rfl _ h)
  | fnCplto => exact .of_mask (execFnCplto_mask rfl rfl rfl rfl _ _ h)
  | rigLoad => exact .of_mask (execRigLoad_mask rfl rfl rfl rfl rfl rfl rfl rfl _ _ h)
  | rigVerify => exact .of_mask (execRigVerify_mask rfl rfl rfl _ _ h)
  | rigInfo => exact .of_mask (execRigInfo_mask rfl rfl rfl _ h)
  | rigEnroll => exact .of_mask (execRigEnroll_mask rfl rfl rfl rfl _ _ _ h)
  | rigRules => exact .of_mask (execRigRules_mask rfl rfl rfl rfl _ _ h)
  | modList => exact .of_mask (execModList_mask rfl rfl rfl rfl _ h)
  | modDesc => exact .of_mask (execModDesc_mask rfl rfl rfl _ _ _ h)
  | modStatus => exact .of_mask (execModStatus_mask rfl rfl rfl _ _ h)
  | modRetire => exact .of_mask (execModRetire_mask rfl rfl rfl rfl rfl rfl rfl rfl rfl rfl rfl rfl rfl rfl rfl rfl _ _ h)
  | modClear => exact .of_mask (execModClear_mask rfl rfl rfl rfl rfl rfl rfl rfl rfl rfl rfl rfl rfl rfl rfl rfl _ _ h)
  | nsList => exact .of_mask (execNsList_mask rfl rfl rfl _ h)
  | nsRead => exact .of_mask (execNsRead_mask rfl rfl rfl rfl _ _ _ _ h)
  | nsWrite => exact .of_mask (execNsWrite_mask rfl rfl rfl rfl _ _ _ _ _ _ h)
  | nsDealloc => exact .of_mask (execNsDealloc_mask rfl rfl rfl rfl _ _ _ _ h)
  | nsCache => exact .of_mask (execNsCache_mask rfl rfl rfl rfl rfl rfl rfl rfl rfl rfl rfl rfl rfl rfl rfl rfl _ _ _ _ _ _ h)
  | keyGenerate => exact .of_mask (execKeyGenerate_mask rfl rfl rfl rfl rfl _ _ _ _ h)
  | keyImport => exact .of_mask (execKeyImport_mask rfl rfl rfl rfl _ _ _ _ _ h)
  | keyDestroy => exact .of_mask (execKeyDestroy_mask rfl rfl rfl rfl _ _ _ h)
  | keyStatus => exact .of_mask (execKeyStatus_mask rfl rfl rfl _ _ _ h)
  | keyEscrow => exact .of_mask (execKeyEscrow_mask rfl rfl rfl rfl _ _ h)
  | keyRestore => exact .of_mask (execKeyRestore_mask rfl rfl rfl rfl rfl _ _ h)
  | keyMgmtenroll => exact .of_mask (execKeyMgmtenroll_mask rfl rfl rfl rfl _ _ _ h)
  | hlthModule => exact .of_mask (execHlthModule_mask rfl rfl rfl _ _ h)
  | hlthPage => exact .of_mask (execHlthPage_mask rfl rfl rfl _ h)
  | hlthCaps => exact .of_mask (execHlthCaps_mask rfl rfl rfl rfl _ _ _ h)
  | hlthThresh => exact .of_mask (execHlthThresh_mask rfl rfl rfl rfl _ _ _ h)
  | hlthPatrol => exact .of_mask (execHlthPatrol_mask rfl rfl rfl rfl _ _ h)
  | evtQcreate => exact .of_mask (execEvtQcreate_mask rfl rfl rfl rfl _ _ _ _ _ _ _ h)
  | evtQdelete => exact .of_mask (execEvtQdelete_mask rfl rfl rfl rfl _ _ h)
  | evtQmod => exact .of_mask (execEvtQmod_mask rfl rfl rfl rfl _ _ _ _ h)
  | evtRoute => exact .of_mask (execEvtRoute_mask rfl rfl rfl rfl _ _ _ _ _ h)
  | cwnHistory => exact .of_mask (execCwnHistory_mask rfl rfl rfl _ h)
  | cwnAck => exact .of_mask (execCwnAck_mask rfl rfl rfl rfl _ _ h)
  | pmcProgram => exact .of_mask (execPmcProgram_mask rfl rfl rfl rfl _ _ _ _ h)
  | pmcUsermap => exact .of_mask (execPmcUsermap_mask rfl rfl rfl rfl _ _ _ h)
  | pmcSample => exact .of_mask (execPmcSample_mask rfl rfl rfl rfl _ _ _ _ h)
  | bayEnable => exact .of_mask (execBayEnable_mask rfl rfl rfl rfl _ _ h)
  | bayDisable => exact .of_mask (execBayDisable_mask rfl rfl rfl rfl _ _ h)
  | bayConfig => exact .of_mask (execBayConfig_mask rfl rfl rfl rfl _ _ _ _ _ _ _ _ h)
  | bayToggle => exact .of_mask (execBayToggle_mask rfl rfl rfl rfl _ _ h)
  | pwrHoldtest => exact .of_mask (execPwrHoldtest_mask rfl rfl rfl rfl _ h)
  | pwrStatus => exact .of_mask (execPwrStatus_mask rfl rfl rfl _ h)
  | pairStatus => exact .of_mask (execPairStatus_mask rfl rfl rfl _ h)
  | pairSwap => exact .of_mask (execPairSwap_mask rfl rfl rfl rfl rfl rfl rfl rfl rfl rfl rfl rfl rfl rfl rfl _ h)
  | pairInterval => exact .of_mask (execPairInterval_mask rfl rfl rfl rfl _ _ h)
  | fwDownload => exact .of_mask (execFwDownload_mask rfl rfl rfl rfl _ _ _ h)
  | fwActivate => exact .of_mask (execFwActivate_mask rfl rfl rfl rfl rfl _ _ _ h)
  | fwInfo => exact .of_mask (execFwInfo_mask rfl rfl rfl _ h)
  | sealRange => exact .of_mask (execSealRange_mask rfl rfl rfl rfl _ _ _ _ h)
  | sealCert => exact .of_mask (execSealCert_mask rfl rfl rfl _ h)
  | retAdvance => exact .of_mask (execRetAdvance_mask rfl rfl rfl rfl rfl _ _ _ h)
  | retClock => exact .of_mask (execRetClock_mask rfl rfl rfl _ h)
  | diagEcho => exact .of_mask (execDiagEcho_mask rfl rfl rfl _ _ h)
  | diagSelftest => exact .of_mask (execDiagSelftest_mask rfl rfl rfl _ _ _ h)
  | sheetLaneLockLoss => exact .of_mask (execSheetLaneLockLoss_mask rfl rfl rfl rfl rfl rfl rfl rfl rfl rfl rfl rfl rfl rfl _ _ h)
  | busStartWindowChange => exact .of_mask (execBusStartWindowChange_mask rfl rfl rfl rfl _ _ h)
  | holdupTestAgeExpiry => exact .of_mask (execHoldupTestAgeExpiry_mask rfl rfl rfl h)
  | presenceAbsent100ms => exact .of_fenceRec (execPresenceAbsent100ms_fenceRec h)
  | auxiliaryPowerRemoved => exact .of_fenceRec (execAuxiliaryPowerRemoved_fenceRec h)
  | refclkSysRestored => exact .of_mask (execRefclkSysRestored_mask rfl h)
  | peerLinkRestored => exact .of_mask (execPeerLinkRestored_mask rfl rfl rfl _ h)
  | drbgReseedOverdue => exact .of_mask (execDrbgReseedOverdue_mask rfl _ h)
  | commandDatagramRx => exact .of_mask (execCommandDatagramRx_mask rfl rfl rfl rfl _ _ _ h)
  | d3hotTransition => exact .of_mask (execD3hotTransition_mask rfl rfl rfl rfl _ h)

/-- Settles O10: no command but FENCE and the insertion of a module changes a fence record, a FENCE only raises the epoch, and an insertion
brings the module that was there back with its record. -/
theorem epochsNeverLowered : Obligations.EpochsNeverLowered := by
  intro i s t bay m h hm
  have hrec : s.fenceRec bay = some (m.desc.serial, m.epoch, m.owner) := by rw [State.fenceRec, hm]; rfl
  obtain ⟨serial, epoch, owner, hrec', hkeep⟩ := exec_keepsEpoch h _ _ _ hrec
  obtain ⟨m', hm', heq⟩ := Option.map_eq_some_iff.1 hrec'
  cases heq
  exact ⟨m', hm', hkeep⟩

end Sys2Proof.Machine
end

section
/-! SUPPORT. A module that serves a FENCE, by the three ways of R233. -/

namespace Sys2Proof.Machine

/-! ### A module that serves -/

section
variable {s : State} {n : Nat} {c : SheetCmd} {m : Module} {code : Nat}

theorem State.moduleSays_module (s : State) (n : Nat) (c : SheetCmd) (code status : Nat) (res : SheetResult) (frames : List Payload) (i : Nat) :
    (s.moduleSays n c code status res frames).module i
      = if n = i then (s.module i).map fun m => m.keep ⟨c.portB, c.tag, c.die, code, 3, status⟩ else s.module i :=
  State.module_onModule _ _ _ _

theorem State.moduleDoes_of_serving {f : Module → State} (hm : s.module n = some m) (hp : s.bayPowered n = true) (hfatal : m.fatal = false)
    (htag : c.tag ≠ 0xFFF) (hres : c.reserved = false) : s.moduleDoes n c code f = f m := by
  simp [State.moduleDoes, hm, hp, hfatal, htag, hres]

theorem State.dieOp_of_serving {inRange : Module → Bool} {f : Module → State} (hm : s.module n = some m) (hp : s.bayPowered n = true)
    (hfatal : m.fatal = false) (htag : c.tag ≠ 0xFFF) (hres : c.reserved = false) (hdie : c.die < m.desc.dies) (hin : inRange m = true)
    (hpow : m.power ≠ 2) : s.dieOp n c code inRange f = f m := by
  rw [State.dieOp, State.moduleDoes_of_serving hm hp hfatal htag hres]
  simp [hdie, hin, hpow]

end

/-! ### Results kept -/

theorem Module.mem_keep_of_mem {m : Module} {o x : ModOp} (hx : x ∈ m.ops) (hp : x.portB ≠ o.portB) : x ∈ (m.keep o).ops := by
  simp [Module.keep, hx, hp]

theorem Module.eq_or_mem_of_mem_keep {m : Module} {o x : ModOp} (hx : x ∈ (m.keep o).ops) : x = o ∨ x ∈ m.ops := by
  simp only [Module.keep, List.mem_append, List.mem_filter, List.mem_singleton] at hx
  obtain (⟨hx, -⟩ | hx) | hx := hx
  · exact .inr hx
  · split at hx
    · exact .inr (List.mem_filter.1 hx).1
    · exact .inr (List.mem_filter.1 (List.mem_of_mem_drop hx)).1
  · exact .inl hx

/-! ### FENCE, by its three ways (R233) -/

theorem Module.takeFence_fenceOk (m : Module) (c c' : SheetCmd) :
    (m.takeFence c).fenceOk c' = (c'.portB == c.portB && c'.epoch == c.epoch) := by
  cases hc : c.portB <;> cases hc' : c'.portB <;> simp [Module.fenceOk, Module.takeFence, hc, hc']

/-- After a fence taken no program or erase of the other port waits to start. -/
theorem Module.takeFence_not_waiting {m : Module} {c : SheetCmd} {o : ModOp} (ho : o ∈ (m.takeFence c).ops) (hp : o.portB ≠ c.portB)
    (hcode : o.code = 2 ∨ o.code = 3) : o.state ≠ 1 := by
  obtain ⟨x, -, rfl⟩ := List.mem_map.1 ho
  split
  · simp
  next hx =>
    rw [if_neg hx] at hp hcode
    exact fun hst => hx ⟨hp, hst, hcode⟩

/-- An operation of the other port stays, but a program or erase not started is FENCED. -/
theorem Module.mem_takeFence {m : Module} {c : SheetCmd} {o : ModOp} (ho : o ∈ m.ops) (hp : o.portB ≠ c.portB) :
    (if o.state = 1 ∧ (o.code = 2 ∨ o.code = 3) then { o with state := 3, result := 3 } else o) ∈ (m.takeFence c).ops :=
  List.mem_map.2 ⟨o, ho, by simp only [hp, ne_eq, not_false_eq_true, true_and]⟩

section
variable {bay : Fin 48} {c : SheetCmd} {m : Module} {s : State} (hm : s.module bay = some m) (hp : s.bayPowered bay = true)
  (hfatal : m.fatal = false) (htag : c.tag ≠ 0xFFF) (hres : c.reserved = false)
include hm hp hfatal htag hres

theorem execFence_higher (h1 : m.epoch < c.epoch) (h2 : c.epoch < 0xFFFFFFFF) : execFence bay c s
    = .next ((s.onModule bay fun m => m.takeFence c).moduleSays bay c 0x0B 0 (.epoch c.epoch) []) := by
  rw [execFence_eq, State.moduleDoes_of_serving hm hp hfatal htag hres, if_pos ⟨h1, h2⟩]

theorem execFence_current (he : c.epoch = m.epoch) (ho : m.owner = if c.portB then 2 else 1) (h0 : c.epoch ≠ 0)
    (h1 : c.epoch ≠ 0xFFFFFFFF) : execFence bay c s = .next (s.moduleSays bay c 0x0B 0 (.epoch m.epoch) []) := by
  rw [execFence_eq, State.moduleDoes_of_serving hm hp hfatal htag hres, if_neg fun h => h.1.ne' he, if_pos ⟨he, ho, h0, h1⟩]

theorem execFence_stale
    (h : c.epoch < m.epoch ∨ (c.epoch = m.epoch ∧ m.owner ≠ if c.portB then 2 else 1) ∨ c.epoch = 0 ∨ c.epoch = 0xFFFFFFFF) :
    execFence bay c s = .next (s.moduleSays bay c 0x0B 4 (.epoch m.epoch) []) := by
  rw [execFence_eq, State.moduleDoes_of_serving hm hp hfatal htag hres, if_neg (by omega), if_neg (by omega)]

end

/-- Settles O9, by the three ways of R233: what each sends, and the module after it. -/
theorem fenceThreeWays : Obligations.FenceThreeWays := by
  intro bay c m s _ hm hp hfatal htag hres
  have hother (r : State) status res (b : Nat) (hb : b ≠ bay) : (r.moduleSays bay c 0x0B status res []).module b = r.module b := by
    rw [State.moduleSays_module, if_neg hb.symm]
  have hown (status : Nat) res : (s.moduleSays bay c 0x0B status res []).module bay = some (m.keep ⟨c.portB, c.tag, c.die, 0x0B, 3, status⟩) := by
    rw [State.moduleSays_module, if_pos rfl, hm, Option.map_some]
  refine ⟨fun h1 h2 => ?_, fun he ho h0 h1 => ?_, fun h => ?_⟩
  · refine ⟨_, execFence_higher hm hp hfatal htag hres h1 h2, ⟨rfl, fun b hb => ?_⟩, rfl,
      (m.takeFence c).keep ⟨c.portB, c.tag, c.die, 0x0B, 3, 0⟩, ?_, rfl, rfl, m.takeFence_fenceOk c, fun o ho hport hcode => ?_,
      fun o ho hport => ?_⟩
    · rw [hother _ _ _ b hb, State.module_onModule, if_neg hb.symm]
    · rw [State.moduleSays_module, if_pos rfl, State.module_onModule, if_pos rfl, hm, Option.map_some, Option.map_some]
    · obtain rfl | ho := Module.eq_or_mem_of_mem_keep ho
      · exact absurd rfl hport
      · exact Module.takeFence_not_waiting ho hport hcode
    · refine Module.mem_keep_of_mem (Module.mem_takeFence ho hport) ?_
      split <;> exact hport
  · exact ⟨_, execFence_current hm hp hfatal htag hres he ho h0 h1, ⟨rfl, hother s _ _⟩, rfl, hown _ _⟩
  · exact ⟨_, execFence_stale hm hp hfatal htag hres h, ⟨rfl, hother s _ _⟩, rfl, hown _ _⟩

end Sys2Proof.Machine
end

section
/-! SUPPORT. The fence rule of programs and erases, and what they leave in the media (R226, R227, R232). -/

namespace Sys2Proof.Machine

/-! ### Tables -/

section
variable {α : Type}

/-- Reading a key just stored, in any table. -/
theorem tabGet_tabPut_same (t : Tab α) (k : Nat) (v : α) : tabGet (tabPut t k v) k = some v := by
  induction t with
  | nil => simp [tabPut, tabGet]
  | cons e t ih =>
    rw [tabPut]
    split_ifs with hlt heq
    · simp [tabGet]
    · simp [tabGet]
    · rw [tabGet, if_neg heq, if_neg hlt, ih]

/-- Storing leaves every other key, in any table. -/
theorem tabGet_tabPut_other (t : Tab α) {k j : Nat} (v : α) (h : j ≠ k) : tabGet (tabPut t k v) j = tabGet t j := by
  induction t with
  | nil => simp [tabPut, tabGet, h.symm]
  | cons e t ih =>
    rw [tabPut]
    split_ifs with hlt heq
    · grind [tabGet]
    · grind [tabGet]
    · simp only [tabGet, ih]

/-- Reading what a choice of keys keeps. -/
theorem tabGet_tabKeep {t : Tab α} (h : tabWf t = true) (q : Nat → Bool) (k : Nat) :
    tabGet (tabKeep (fun k _ => q k) t) k = if q k then tabGet t k else none := by
  rw [tabWf_iff] at h
  induction t with
  | nil => simp [tabKeep, tabGet]
  | cons e t ih =>
    obtain ⟨hlt, ht⟩ := List.pairwise_cons.1 h
    have hbelow : k < e.1 → tabGet t k = none := fun hk => tabGet_none_of_lt ht fun e' he' => hk.trans (hlt e' he')
    have ih := ih ht
    rw [tabKeep] at ih ⊢
    rw [List.filter_cons]
    by_cases hq : q e.1 = true
    · rw [if_pos hq, tabGet, ih, tabGet]
      grind
    · rw [if_neg hq, ih, tabGet]
      grind

end

/-! ### The codewords of a page set (R140) -/

/-- The key of codeword `k` of a page set. -/
def pageKey (b die page k : Nat) : Nat := (locAt (mkLoc b die page 0 0) k).toNat

theorem mkLoc_toNat_mod (b die page plane cw : Nat) : (mkLoc b die page plane cw).toNat % 16 = cw % 4 + 4 * (plane % 4) := by
  rw [mkLoc, BitVec.toNat_ofNat]
  omega

theorem pageKey_mod (b die page : Nat) {k : Nat} (hk : k < 16) : pageKey b die page k % 16 = k := by
  rw [pageKey, locAt, mkLoc_toNat_mod]
  omega

/-- The media after the first `n` frames of a page set are stored. -/
def putFrames (b die page : Nat) (l : List Payload) (n : Nat) (t : Tab Payload) : Tab Payload :=
  (List.range n).foldl (fun t k => match l[k]? with
    | some p => tabPut t (pageKey b die page k) p
    | none => t) t

theorem State.putPage_media (s : State) (b die page : Nat) (l : List Payload) :
    (s.putPage b die page l).sheet.media = putFrames b die page l 16 s.sheet.media := rfl

theorem putFrames_succ {b die page n : Nat} {l : List Payload} (t : Tab Payload) (hn : n < l.length) :
    putFrames b die page l (n + 1) t = tabPut (putFrames b die page l n t) (pageKey b die page n) l[n] := by
  simp [putFrames, List.range_succ, List.getElem?_eq_getElem hn]

/-- Each codeword reads its frame. -/
theorem tabGet_putFrames {b die page n k : Nat} {l : List Payload} (t : Tab Payload) (hn : n ≤ 16) (hl : n ≤ l.length) (hk : k < n) :
    tabGet (putFrames b die page l n t) (pageKey b die page k) = l[k]? := by
  induction n with
  | zero => cases hk
  | succ n ih =>
    rw [putFrames_succ t hl]
    by_cases heq : k = n
    · rw [heq, tabGet_tabPut_same, List.getElem?_eq_getElem hl]
    · have hkey : pageKey b die page k ≠ pageKey b die page n := fun h => heq <| by
        rw [← pageKey_mod b die page (show k < 16 by omega), h, pageKey_mod b die page (by omega)]
      rw [tabGet_tabPut_other _ _ hkey, ih (by omega) (by omega) (by omega)]

/-- Every other codeword is as before. -/
theorem tabGet_putFrames_other {b die page n a : Nat} {l : List Payload} (t : Tab Payload) (hl : n ≤ l.length)
    (ha : ∀ k < n, a ≠ pageKey b die page k) : tabGet (putFrames b die page l n t) a = tabGet t a := by
  induction n with
  | zero => rfl
  | succ n ih => rw [putFrames_succ t hl, tabGet_tabPut_other _ _ (ha n n.lt_succ_self), ih (by omega) fun k hk => ha k (by omega)]

/-! ### Programs and erases, by the fence rule (R226, R227, R232) -/

theorem Module.fenceOk_iff (m : Module) (c : SheetCmd) : m.fenceOk c = true ↔ m.owner = (if c.portB then 2 else 1) ∧ c.epoch = m.epoch := by
  rw [Module.fenceOk, Bool.and_eq_true, beq_iff_eq, beq_iff_eq]

section
variable {bay : Fin 48} {c : SheetCmd} {m : Module} {s : State} (hm : s.module bay = some m) (hp : s.bayPowered bay = true)
  (hfatal : m.fatal = false) (htag : c.tag ≠ 0xFFF) (hres : c.reserved = false) (hdie : c.die < m.desc.dies) (hpow : m.power ≠ 2)
include hm hp hfatal htag hres hdie hpow

theorem execSheetProgram_owner {frames : List Payload} (hlen : frames.length = 16) (hpage : c.page < m.desc.epp * m.desc.ppb)
    (hok : m.fenceOk c = true) : execSheetProgram bay c frames .ok s
      = .next ((s.putPage bay c.die c.page frames).moduleSays bay c 2 0 .none []) := by
  unfold execSheetProgram
  rw [if_neg (not_not.2 hlen), State.dieOp_of_serving hm hp hfatal htag hres hdie (decide_eq_true hpage) hpow, hok]
  rfl

theorem execSheetProgram_fenced {frames : List Payload} {nand : NandResult} (hlen : frames.length = 16)
    (hpage : c.page < m.desc.epp * m.desc.ppb) (hno : m.fenceOk c = false) : execSheetProgram bay c frames nand s
      = .next (s.moduleSays bay c 2 3 .none []) := by
  unfold execSheetProgram
  rw [if_neg (not_not.2 hlen), State.dieOp_of_serving hm hp hfatal htag hres hdie (decide_eq_true hpage) hpow, hno]
  rfl

theorem execSheetErase_fenced {nand : NandResult} (hpage : c.page < m.desc.epp) (hno : m.fenceOk c = false) :
    execSheetErase bay c nand s = .next (s.moduleSays bay c 3 3 .none []) := by
  rw [execSheetErase, State.dieOp_of_serving hm hp hfatal htag hres hdie (decide_eq_true hpage) hpow, hno]
  rfl

theorem execSheetErase_owner (hpage : c.page < m.desc.epp) (hok : m.fenceOk c = true) : ∃ t, execSheetErase bay c .ok s = .next t
    ∧ t.out = .module bay c.tag 3 0 .none [] :: s.out
    ∧ t.sheet.media = tabKeep (fun k _ => !inBlock m.desc.ppb bay c.die c.page k) s.sheet.media := by
  rw [execSheetErase, State.dieOp_of_serving hm hp hfatal htag hres hdie (decide_eq_true hpage) hpow, hok]
  exact ⟨_, rfl, rfl, rfl⟩

theorem sheetProgram_owner_completes {frames : List Payload} (hlen : frames.length = 16) (hpage : c.page < m.desc.epp * m.desc.ppb)
    (hok : m.fenceOk c = true) : Completes (.sheetProgram bay c frames .ok) s fun t => t.out = .module bay c.tag 2 0 .none [] :: s.out
      ∧ (∀ k : Fin 16, tabGet t.sheet.media (pageKey bay c.die c.page k) = frames[(k : Nat)]?)
      ∧ ∀ a, (∀ k : Fin 16, a ≠ pageKey bay c.die c.page k) → tabGet t.sheet.media a = tabGet s.sheet.media a :=
  ⟨_, execSheetProgram_owner hm hp hfatal htag hres hdie hpow hlen hpage hok, rfl,
    fun k => tabGet_putFrames _ le_rfl hlen.ge k.isLt, fun _ ha => tabGet_putFrames_other _ hlen.ge fun k hk => ha ⟨k, hk⟩⟩

theorem sheetErase_owner_completes (hpage : c.page < m.desc.epp) (hok : m.fenceOk c = true) (hwf : tabWf s.sheet.media = true) :
    Completes (.sheetErase bay c .ok) s fun t => t.out = .module bay c.tag 3 0 .none [] :: s.out
      ∧ ∀ a, tabGet t.sheet.media a = if inBlock m.desc.ppb bay c.die c.page a then none else tabGet s.sheet.media a := by
  obtain ⟨t, ht, hout, hmedia⟩ := execSheetErase_owner hm hp hfatal htag hres hdie hpow hpage hok
  refine ⟨t, ht, hout, fun a => ?_⟩
  rw [hmedia, tabGet_tabKeep hwf fun k => !inBlock m.desc.ppb bay c.die c.page k]
  cases inBlock m.desc.ppb bay c.die c.page a <;> rfl

end

/-! ### A module that comes (R232) -/

theorem presenceChange_fresh {bay : Fin 48} {s : State} (hlen : s.sheet.modules.length = 48) (d : ModuleDesc)
    (hpres : (s.chan bay).pres = false) (hm : s.module bay = none) : Completes (.presenceChange bay (some d)) s fun t =>
      ∃ m, t.module bay = some m ∧ m.epoch = 0 ∧ m.owner = 0 := by
  refine ⟨_, rfl, ?_⟩
  have hrec := execPresenceChange_some_fenceRec (s := s) (b := bay) (bay := bay) (d := d) rfl
  rw [if_neg (by simp [hpres]), State.insertModule_other_fenceRec (fun _ => bay.isLt.trans_eq hlen.symm) (by simp [hm]), if_pos rfl] at hrec
  simp only [State.fenceRec, Option.map_eq_some_iff, Prod.mk.injEq] at hrec
  obtain ⟨m, hm', -, hepoch, howner⟩ := hrec
  exact ⟨m, hm', hepoch, howner⟩

/-! ### The operations that the fence rule does not cover (R232) -/

/-- The module of bay `n` has answered the command with a code other than FENCED. -/
def State.AnsweredUnfenced (s : State) (n : Nat) (c : SheetCmd) (t : State) : Prop :=
  ∃ code status res frames, t.out = .module n c.tag code status res frames :: s.out ∧ status ≠ 3

section
variable {s : State} {n : Nat} {c : SheetCmd} {m : Module} {code : Nat}

theorem State.moduleSays_unfenced {r : State} {status : Nat} {res : SheetResult} {frames : List Payload} (hout : r.out = s.out)
    (hst : status ≠ 3) : s.AnsweredUnfenced n c (r.moduleSays n c code status res frames) :=
  ⟨code, status, res, frames, congrArg _ hout, hst⟩

theorem State.moduleDoes_unfenced {f : Module → State} (hm : s.module n = some m) (hp : s.bayPowered n = true)
    (hf : s.AnsweredUnfenced n c (f m)) : s.AnsweredUnfenced n c (s.moduleDoes n c code f) := by
  simp only [State.moduleDoes, hm, hp, Bool.not_true, Bool.false_eq_true, if_false]
  split_ifs
  · exact State.moduleSays_unfenced rfl (by decide)
  · exact State.moduleSays_unfenced rfl (by decide)
  · exact hf

theorem State.dieOp_unfenced {inRange : Module → Bool} {f : Module → State} (hm : s.module n = some m) (hp : s.bayPowered n = true)
    (hf : s.AnsweredUnfenced n c (f m)) : s.AnsweredUnfenced n c (s.dieOp n c code inRange f) := by
  refine State.moduleDoes_unfenced hm hp ?_
  split_ifs
  · exact State.moduleSays_unfenced rfl (by decide)
  · exact State.moduleSays_unfenced rfl (by decide)
  · exact hf

end

section
variable {bay : Fin 48} {c : SheetCmd} {m : Module} {s : State} (hm : s.module bay = some m) (hp : s.bayPowered bay = true)
include hm hp

theorem sheetRead_unfenced (nand : NandResult) : Completes (.sheetRead bay c nand) s (s.AnsweredUnfenced bay c) := by
  refine ⟨_, rfl, State.dieOp_unfenced hm hp ?_⟩
  cases nand <;> exact State.moduleSays_unfenced rfl (by decide)

theorem sheetStatus_unfenced : Completes (.sheetStatus bay c) s (s.AnsweredUnfenced bay c) := by
  refine ⟨_, rfl, State.moduleDoes_unfenced hm hp ?_⟩
  split_ifs <;> exact State.moduleSays_unfenced rfl (by decide)

theorem getParam_unfenced : Completes (.getParam bay c) s (s.AnsweredUnfenced bay c) := by
  refine ⟨_, rfl, State.moduleDoes_unfenced hm hp ?_⟩
  dsimp only
  split_ifs <;> exact State.moduleSays_unfenced rfl (by decide)

theorem setParam_unfenced : Completes (.setParam bay c) s (s.AnsweredUnfenced bay c) := by
  refine ⟨_, rfl, State.moduleDoes_unfenced hm hp ?_⟩
  dsimp only
  split_ifs <;> exact State.moduleSays_unfenced rfl (by decide)

theorem descRead_unfenced : Completes (.descRead bay c) s (s.AnsweredUnfenced bay c) := by
  refine ⟨_, rfl, State.moduleDoes_unfenced hm hp ?_⟩
  split_ifs <;> exact State.moduleSays_unfenced rfl (by decide)

theorem temp_unfenced : Completes (.temp bay c) s (s.AnsweredUnfenced bay c) :=
  ⟨_, rfl, State.moduleDoes_unfenced hm hp (State.moduleSays_unfenced rfl (by decide))⟩

theorem dieReset_unfenced : Completes (.dieReset bay c) s (s.AnsweredUnfenced bay c) := by
  refine ⟨_, rfl, State.moduleDoes_unfenced hm hp ?_⟩
  split_ifs <;> exact State.moduleSays_unfenced rfl (by decide)

theorem powerState_unfenced : Completes (.powerState bay c) s (s.AnsweredUnfenced bay c) := by
  refine ⟨_, rfl, State.moduleDoes_unfenced hm hp ?_⟩
  split_ifs <;> exact State.moduleSays_unfenced rfl (by decide)

theorem fence_unfenced : Completes (.fence bay c) s (s.AnsweredUnfenced bay c) := by
  refine ⟨_, execFence_eq bay c s, State.moduleDoes_unfenced hm hp ?_⟩
  split_ifs <;> exact State.moduleSays_unfenced rfl (by decide)

end

/-- Settles O8: the fence rule decides a program and an erase, and no other operation answers FENCED. -/
theorem ownerOnlyWrites : Obligations.OwnerOnlyWrites := by
  intro bay s hlen
  refine ⟨fun c m hm hp hfatal htag hres hdie hpow => ?_, presenceChange_fresh hlen, fun c m nand i hm hp hi => ?_⟩
  · simp only [← Module.fenceOk_iff, Bool.not_eq_true]
    exact ⟨fun frames nand hframes hpage =>
        ⟨sheetProgram_owner_completes hm hp hfatal htag hres hdie hpow hframes hpage,
          fun hno => ⟨_, execSheetProgram_fenced hm hp hfatal htag hres hdie hpow hframes hpage hno, rfl, rfl⟩⟩,
      fun nand hpage =>
        ⟨sheetErase_owner_completes hm hp hfatal htag hres hdie hpow hpage,
          fun hno => ⟨_, execSheetErase_fenced hm hp hfatal htag hres hdie hpow hpage hno, rfl, rfl⟩⟩⟩
  · simp only [List.mem_cons, List.not_mem_nil, or_false] at hi
    obtain rfl | rfl | rfl | rfl | rfl | rfl | rfl | rfl | rfl := hi
    · exact sheetRead_unfenced hm hp nand
    · exact sheetStatus_unfenced hm hp
    · exact getParam_unfenced hm hp
    · exact setParam_unfenced hm hp
    · exact descRead_unfenced hm hp
    · exact temp_unfenced hm hp
    · exact dieReset_unfenced hm hp
    · exact powerState_unfenced hm hp
    · exact fence_unfenced hm hp

end Sys2Proof.Machine
end

section
/-! SUPPORT. CLASSIFY of a later fragment whose first fragment has been classified (R313, R314). -/

namespace Sys2Proof.Machine

/-- The first element that meets one test is the first that meets two, where it meets the second as well. -/
theorem find?_and_of_find? {α : Type} {p q : α → Bool} {l : List α} {a : α} (h : l.find? p = some a) (hq : q a = true) :
    l.find? (fun x => p x && q x) = some a := by
  obtain ⟨hp, before, after, hl, hbefore⟩ := List.find?_eq_some_iff_append.1 h
  refine List.find?_eq_some_iff_append.2 ⟨by rw [hp, hq]; rfl, before, after, hl, fun x hx => ?_⟩
  rw [Bool.not_and, hbefore x hx, Bool.true_or]

/-- A change of one front port reads back in that port only. -/
theorem State.front_onFront {s : State} {p : Nat} (hp : p < s.net.ports.length) (g : FrontPort → FrontPort) (q : Nat) :
    (s.onFront p g).front q = if p = q then g (s.front q) else s.front q :=
  nth_modNth _ _ _ _ _ fun _ => .inl hp

theorem State.fragValid_of_lt {s : State} {e : FragEntry} (h : s.now < e.since + ms 2) : s.fragValid e = true :=
  decide_eq_true h.le

/-- R314: a later fragment whose key finds a valid entry takes that entry's action, and the state changes nowhere else. -/
theorem execClassify_laterFragment {p : Fin 8} {pseq : Nat} {r : InFrame} {c : ClsSection} {e : FragEntry} {s : State}
    (hawake : s.awake = true) (hfind : (s.front p).ingress.find? (fun r => r.pseq == pseq && r.action.isNone) = some r)
    (hrules : s.rulesFor (4 * p + r.sub) = some c) (hmalf : s.malformed2430 r.frame = false) (hfrag : r.frame.frag = 2)
    (hentry : s.net.frags.find? (fun e => e.key == fragKeyOf r.frame && s.fragValid e) = some e) :
    execClassify p pseq s = .next (s.onFront p fun x => { x with ingress := setAction x.ingress pseq e.action false }) := by
  simp only [execClassify, hawake, hfind, hrules, hmalf, hfrag, hentry, Bool.not_true, Bool.false_eq_true, if_false, if_true]

/-- Settles O7: the entry of the fragment's key is valid, and CLASSIFY sets its action in the ingress path of the port. -/
theorem laterFragment : Obligations.LaterFragment := by
  intro p pseq r c e s hports hawake hfind hrules hmalf hfrag hkey hvalid
  have hentry := find?_and_of_find? hkey (State.fragValid_of_lt hvalid)
  have hfront := State.front_onFront (p.isLt.trans_eq hports.symm) fun x => { x with ingress := setAction x.ingress pseq e.action false }
  refine ⟨_, execClassify_laterFragment hawake hfind hrules hmalf hfrag hentry, ?_, rfl, rfl, fun q hq => ?_⟩
  · rw [hfront, if_pos rfl]
    rfl
  · rw [hfront, if_neg hq.symm]

end Sys2Proof.Machine
end

section
/-! SUPPORT. What every command leaves alone: it answers a next state and keeps the queue of waiting commands; and the one group that the list
of a command lacks. -/

namespace Sys2Proof.Machine

/-- Every row of the table answers a next state (chapter 95). -/
theorem exec_next (i : Instr) (s : State) : ∃ t, exec i s = .next t := by
  cases i <;> exact ⟨_, rfl⟩

/-- Every group of the state but the queue of waiting commands. -/
def butPending (p : Part) : Bool := decide (p ≠ .pending)

/-- Two next states that agree with the groups outside the queue blanked differ in no waiting command: each meaning does, by its own frame. -/
theorem exec_mask_butPending {i : Instr} {s t : State} (h : exec i s = .next t) : t.mask butPending = s.mask butPending := by
  cases i with
  | auxPowerOn _ => exact execAuxPowerOn_mask rfl rfl rfl rfl rfl rfl rfl rfl rfl rfl rfl rfl rfl rfl rfl rfl rfl rfl rfl rfl rfl rfl rfl _ h
  | mainDiePowerUp => exact execMainDiePowerUp_mask rfl h
  | chipReset _ => exact execChipReset_mask rfl rfl rfl rfl rfl rfl rfl rfl rfl rfl rfl rfl rfl rfl rfl rfl rfl rfl rfl rfl rfl _ h
  | startUpStepEnd _ => exact execStartUpStepEnd_mask rfl rfl rfl rfl rfl rfl rfl rfl rfl rfl rfl rfl rfl rfl rfl rfl rfl rfl rfl rfl rfl rfl rfl _ h
  | frameBoundary => exact execFrameBoundary_mask rfl rfl rfl rfl rfl rfl rfl rfl rfl rfl rfl rfl rfl rfl rfl rfl rfl rfl rfl rfl rfl rfl rfl h
  | sequencerSlot _ => exact execSequencerSlot_mask rfl rfl _ h
  | intakeSlot _ => exact execIntakeSlot_mask rfl rfl rfl rfl rfl rfl rfl rfl rfl rfl rfl _ h
  | admission _ => exact execAdmission_mask rfl _ h
  | overlapWaitEnd _ => exact execOverlapWaitEnd_mask rfl _ h
  | switchMatch _ => exact execSwitchMatch_mask rfl rfl rfl rfl _ h
  | frontFrameRx _ _ _ => exact execFrontFrameRx_mask rfl _ _ _ h
  | classify _ _ => exact execClassify_mask rfl rfl rfl _ _ h
  | reorderRelease _ => exact execReorderRelease_mask rfl rfl rfl _ h
  | fragmentEntryExpiry _ => exact execFragmentEntryExpiry_mask rfl _ h
  | fragmentParkTimeout _ _ => exact execFragmentParkTimeout_mask rfl rfl rfl _ _ h
  | controlPortFrame _ _ => exact execControlPortFrame_mask rfl rfl rfl rfl _ _ h
  | ruleUpdatePortStep _ => exact execRuleUpdatePortStep_mask rfl rfl rfl rfl _ h
  | pfcFrameRx _ _ _ _ => exact execPfcFrameRx_mask rfl _ _ _ _ h
  | pfcPauseExpiry _ _ _ => exact execPfcPauseExpiry_mask rfl _ _ _ h
  | pfcXoffRepeat _ _ _ => exact execPfcXoffRepeat_mask rfl rfl _ _ _ h
  | frontLinkChange _ _ => exact execFrontLinkChange_mask rfl rfl rfl rfl rfl _ _ h
  | cmRequest _ => exact execCmRequest_mask rfl rfl _ h
  | cmReadyToUse _ => exact execCmReadyToUse_mask rfl _ h
  | cmRejectRx _ => exact execCmRejectRx_mask rfl _ h
  | cmDisconnect _ => exact execCmDisconnect_mask rfl rfl rfl rfl rfl rfl rfl _ h
  | connectingTimeout _ => exact execConnectingTimeout_mask rfl _ h
  | timewaitExpiry _ => exact execTimewaitExpiry_mask rfl rfl _ h
  | qpFlushComplete _ => exact execQpFlushComplete_mask rfl _ h
  | rdmaSendRx _ _ => exact execRdmaSendRx_mask rfl _ _ h
  | rdmaAckRx p msn code => exact execRdmaAckRx_mask rfl rfl rfl p msn code h
  | rdmaNakRx _ _ => exact execRdmaNakRx_mask rfl rfl rfl rfl rfl rfl rfl rfl _ _ h
  | rdmaReadResponseRx _ _ _ => exact execRdmaReadResponseRx_mask rfl rfl rfl _ _ _ h
  | rdmaOpcodeRefused _ _ => exact execRdmaOpcodeRefused_mask rfl rfl rfl rfl rfl rfl rfl rfl _ _ h
  | cnpRx _ => exact execCnpRx_mask rfl _ h
  | capsuleToIntake _ _ => exact execCapsuleToIntake_mask rfl rfl _ _ h
  | rdmaReadIssue _ => exact execRdmaReadIssue_mask rfl rfl rfl rfl _ h
  | readDataToHost _ => exact execReadDataToHost_mask rfl rfl rfl rfl rfl rfl rfl rfl _ h
  | rdmaRequestGapTimer _ => exact execRdmaRequestGapTimer_mask rfl _ h
  | rdmaResponseGapTimer _ => exact execRdmaResponseGapTimer_mask rfl rfl rfl rfl rfl rfl rfl rfl _ h
  | rdmaAckTimeout _ => exact execRdmaAckTimeout_mask rfl rfl rfl rfl rfl rfl rfl rfl _ h
  | rdmaAckCoalesceTimer _ => exact execRdmaAckCoalesceTimer_mask rfl _ h
  | rdmaRnrRetryTimer _ => exact execRdmaRnrRetryTimer_mask rfl rfl _ h
  | rateIncreaseTimer _ => exact execRateIncreaseTimer_mask rfl _ h
  | txCirWindow _ _ _ => exact execTxCirWindow_mask rfl rfl rfl _ _ _ h
  | read _ => exact execRead_mask rfl rfl rfl rfl rfl rfl rfl rfl rfl rfl rfl rfl rfl rfl rfl rfl rfl rfl _ h
  | write _ => exact execWrite_mask rfl rfl rfl rfl rfl rfl rfl rfl rfl rfl rfl rfl rfl rfl rfl rfl rfl rfl _ h
  | flush _ => exact execFlush_mask rfl rfl rfl rfl rfl rfl rfl rfl rfl rfl rfl rfl rfl rfl rfl rfl rfl rfl _ h
  | writeZeroes _ => exact execWriteZeroes_mask rfl rfl rfl rfl rfl rfl rfl rfl rfl rfl rfl rfl rfl rfl rfl rfl rfl rfl _ h
  | compare _ => exact execCompare_mask rfl rfl rfl rfl rfl rfl rfl rfl rfl rfl rfl rfl rfl rfl rfl rfl rfl rfl _ h
  | datasetManagement _ => exact execDatasetManagement_mask rfl rfl rfl rfl rfl rfl rfl rfl rfl rfl rfl rfl rfl rfl rfl rfl rfl rfl _ h
  | identify _ => exact execIdentify_mask rfl rfl rfl rfl _ h
  | getLogPage _ => exact execGetLogPage_mask rfl rfl rfl rfl rfl _ h
  | setFeatures _ => exact execSetFeatures_mask rfl rfl rfl rfl _ h
  | getFeatures _ => exact execGetFeatures_mask rfl rfl rfl rfl _ h
  | asynchronousEventRequest _ => exact execAsynchronousEventRequest_mask rfl rfl rfl rfl _ h
  | keepAlive _ => exact execKeepAlive_mask rfl rfl rfl rfl _ h
  | abort _ => exact execAbort_mask rfl rfl rfl rfl _ h
  | connect _ => exact execConnect_mask rfl rfl rfl rfl _ h
  | propertyGet _ => exact execPropertyGet_mask rfl rfl rfl rfl _ h
  | propertySet _ => exact execPropertySet_mask rfl rfl rfl rfl rfl rfl rfl _ h
  | ccEnClearComplete _ => exact execCcEnClearComplete_mask rfl _ h
  | disconnect _ => exact execDisconnect_mask rfl rfl rfl rfl rfl rfl rfl _ h
  | ledgerBind _ => exact execLedgerBind_mask rfl rfl rfl rfl rfl rfl rfl _ h
  | nvmeUnsupportedOpcode _ => exact execNvmeUnsupportedOpcode_mask rfl rfl rfl rfl _ h
  | keepAliveTimeout _ => exact execKeepAliveTimeout_mask rfl rfl rfl rfl rfl rfl rfl _ h
  | queueReservation _ _ _ => exact execQueueReservation_mask rfl rfl _ _ _ h
  | forwardCommand _ => exact execForwardCommand_mask rfl rfl rfl rfl rfl _ h
  | forwardCompletionRx _ _ => exact execForwardCompletionRx_mask rfl rfl rfl rfl rfl _ _ h
  | forwardRecall _ => exact execForwardRecall_mask rfl _ h
  | writePlace _ _ => exact execWritePlace_mask rfl rfl rfl rfl rfl rfl rfl rfl rfl rfl rfl rfl _ _ h
  | mirrorConfirm _ => exact execMirrorConfirm_mask rfl rfl rfl rfl rfl rfl rfl rfl rfl rfl _ h
  | mirrorTimeout _ => exact execMirrorTimeout_mask rfl rfl rfl rfl rfl rfl rfl rfl rfl rfl _ h
  | mirrorDataRx _ _ => exact execMirrorDataRx_mask rfl rfl _ _ h
  | logShipRecordRx _ => exact execLogShipRecordRx_mask rfl rfl rfl rfl rfl rfl rfl _ h
  | stripeDeadline _ => exact execStripeDeadline_mask rfl rfl rfl rfl rfl rfl rfl _ h
  | journalPageTimer => exact execJournalPageTimer_mask rfl rfl rfl h
  | sheetResponse _ _ _ _ => exact execSheetResponse_mask rfl rfl rfl rfl rfl rfl rfl rfl rfl rfl rfl rfl rfl rfl rfl rfl rfl rfl rfl rfl rfl rfl rfl rfl rfl _ _ _ _ h
  | mapUpdateApply _ _ => exact execMapUpdateApply_mask rfl rfl rfl rfl rfl rfl rfl rfl rfl rfl rfl rfl rfl rfl rfl rfl rfl rfl _ _ h
  | mapFetchComplete _ => exact execMapFetchComplete_mask rfl rfl rfl rfl rfl rfl rfl rfl rfl rfl rfl rfl rfl rfl _ h
  | ldpcDecodeDone _ _ => exact execLdpcDecodeDone_mask rfl rfl rfl rfl rfl rfl rfl rfl rfl rfl rfl rfl rfl rfl _ _ h
  | probeIssue => exact execProbeIssue_mask rfl rfl rfl rfl rfl rfl rfl rfl h
  | tcFillComplete _ => exact execTcFillComplete_mask rfl rfl rfl rfl rfl rfl rfl rfl rfl rfl rfl rfl rfl rfl _ h
  | tcWritebackTimer => exact execTcWritebackTimer_mask rfl rfl h
  | tcLockWaysWrite _ => exact execTcLockWaysWrite_mask rfl rfl _ h
  | tcLockChangeDone => exact execTcLockChangeDone_mask rfl rfl rfl rfl rfl rfl rfl rfl rfl rfl rfl rfl rfl rfl h
  | tcWayPwrWrite _ => exact execTcWayPwrWrite_mask rfl _ h
  | tcGroupPowerDownDone _ => exact execTcGroupPowerDownDone_mask rfl rfl _ h
  | tcGroupPowerUpDone _ => exact execTcGroupPowerUpDone_mask rfl _ h
  | tcInvalidate _ => exact execTcInvalidate_mask rfl rfl rfl rfl rfl rfl rfl rfl rfl rfl rfl rfl rfl rfl _ h
  | tcClean _ => exact execTcClean_mask rfl rfl rfl rfl rfl rfl rfl rfl rfl rfl rfl rfl rfl rfl _ h
  | tcCleanInvalidate _ => exact execTcCleanInvalidate_mask rfl rfl rfl rfl rfl rfl rfl rfl rfl rfl rfl rfl rfl rfl _ h
  | tcPreload _ => exact execTcPreload_mask rfl rfl rfl rfl rfl rfl rfl rfl rfl rfl rfl rfl rfl rfl _ h
  | tcPreloadLock _ => exact execTcPreloadLock_mask rfl rfl rfl rfl rfl rfl rfl rfl rfl rfl rfl rfl rfl rfl _ h
  | tcRangeDone => exact execTcRangeDone_mask rfl rfl rfl rfl rfl rfl rfl rfl rfl rfl rfl rfl rfl rfl rfl h
  | reclaimVictimSelect => exact execReclaimVictimSelect_mask rfl h
  | relocation _ => exact execRelocation_mask rfl rfl rfl rfl rfl rfl rfl rfl rfl rfl rfl rfl rfl rfl _ h
  | reclaimErase _ => exact execReclaimErase_mask rfl rfl rfl rfl rfl rfl rfl rfl rfl _ h
  | checkpointStart => exact execCheckpointStart_mask rfl rfl rfl rfl rfl rfl rfl rfl rfl h
  | strikeTrigger => exact execStrikeTrigger_mask rfl rfl rfl rfl rfl rfl rfl rfl rfl rfl rfl rfl rfl rfl rfl rfl rfl rfl rfl rfl rfl rfl rfl rfl rfl h
  | repairBatchAdvance => exact execRepairBatchAdvance_mask rfl rfl rfl rfl rfl rfl rfl rfl rfl rfl rfl rfl rfl rfl h
  | rebuildStep => exact execRebuildStep_mask rfl rfl rfl rfl rfl rfl rfl rfl rfl rfl rfl rfl rfl rfl h
  | rebuildRetryTimer => exact execRebuildRetryTimer_mask rfl rfl rfl rfl rfl rfl rfl rfl rfl rfl rfl rfl rfl rfl h
  | journalCopyPlaced _ => exact execJournalCopyPlaced_mask rfl rfl rfl rfl rfl _ h
  | sweepStep => exact execSweepStep_mask rfl rfl rfl rfl rfl rfl rfl rfl rfl rfl rfl rfl rfl rfl h
  | patrolIssue => exact execPatrolIssue_mask rfl rfl rfl rfl rfl rfl rfl rfl rfl rfl rfl rfl rfl rfl h
  | rewriteIssue => exact execRewriteIssue_mask rfl rfl rfl rfl rfl rfl rfl rfl rfl rfl rfl rfl rfl rfl h
  | ageClockTick _ _ => exact execAgeClockTick_mask rfl rfl rfl rfl rfl _ _ h
  | blockRecordScan => exact execBlockRecordScan_mask rfl rfl rfl rfl rfl h
  | wearCheck => exact execWearCheck_mask rfl rfl rfl rfl h
  | junctionSample => exact execJunctionSample_mask rfl h
  | trainingAttempt _ => exact execTrainingAttempt_mask rfl _ h
  | lanesAligned _ _ _ => exact execLanesAligned_mask rfl rfl rfl rfl rfl rfl rfl rfl rfl rfl rfl rfl rfl rfl _ _ _ h
  | trainingTimeout _ => exact execTrainingTimeout_mask rfl rfl rfl rfl rfl rfl rfl rfl rfl rfl rfl rfl rfl rfl _ h
  | sheetInitSendTimer _ => exact execSheetInitSendTimer_mask rfl rfl rfl rfl _ h
  | sheetInitRx _ _ => exact execSheetInitRx_mask rfl rfl rfl rfl _ _ h
  | sheetFrameRx _ _ => exact execSheetFrameRx_mask rfl rfl rfl rfl rfl rfl rfl rfl rfl rfl rfl rfl rfl rfl rfl _ _ h
  | sheetDataRx _ _ _ _ => exact execSheetDataRx_mask rfl rfl rfl rfl rfl rfl rfl rfl rfl rfl rfl rfl rfl rfl rfl rfl rfl rfl rfl rfl rfl rfl rfl rfl rfl _ _ _ _ h
  | sheetAckRx _ _ => exact execSheetAckRx_mask rfl rfl rfl rfl rfl rfl rfl rfl rfl rfl rfl rfl rfl rfl _ _ h
  | sheetNakRx _ _ => exact execSheetNakRx_mask rfl rfl rfl rfl _ _ h
  | sheetCreditRx _ _ _ => exact execSheetCreditRx_mask rfl rfl rfl rfl rfl rfl rfl rfl rfl rfl rfl rfl rfl rfl _ _ _ h
  | sheetAckTimer _ => exact execSheetAckTimer_mask rfl rfl _ h
  | sheetReplayTimer _ => exact execSheetReplayTimer_mask rfl rfl rfl rfl rfl rfl rfl rfl rfl rfl rfl rfl rfl rfl _ h
  | sheetRead _ _ _ => exact execSheetRead_mask rfl rfl rfl _ _ _ h
  | sheetProgram _ _ _ _ => exact execSheetProgram_mask rfl rfl rfl rfl _ _ _ _ h
  | sheetErase _ _ _ => exact execSheetErase_mask rfl rfl rfl rfl _ _ _ h
  | sheetStatus _ _ => exact execSheetStatus_mask rfl rfl _ _ h
  | getParam _ _ => exact execGetParam_mask rfl rfl rfl _ _ h
  | setParam _ _ => exact execSetParam_mask rfl rfl _ _ h
  | descRead _ _ => exact execDescRead_mask rfl rfl _ _ h
  | temp _ _ => exact execTemp_mask rfl rfl _ _ h
  | dieReset _ _ => exact execDieReset_mask rfl rfl _ _ h
  | powerState _ _ => exact execPowerState_mask rfl rfl _ _ h
  | fence _ _ => exact execFence_mask rfl rfl _ _ h
  | sheetOpTimeout _ _ => exact execSheetOpTimeout_mask rfl rfl rfl rfl rfl rfl rfl rfl rfl rfl rfl rfl rfl rfl rfl rfl rfl rfl rfl rfl rfl rfl rfl rfl rfl _ _ h
  | fenceTimeout _ => exact execFenceTimeout_mask rfl rfl rfl rfl rfl rfl rfl rfl rfl rfl rfl rfl rfl rfl _ h
  | tagRequeryTimer _ _ => exact execTagRequeryTimer_mask rfl rfl _ _ h
  | sheetStatusPoll => exact execSheetStatusPoll_mask rfl rfl h
  | laneErrPoll => exact execLaneErrPoll_mask rfl rfl h
  | unreachableTimeout _ => exact execUnreachableTimeout_mask rfl rfl rfl rfl rfl rfl rfl rfl rfl rfl rfl rfl rfl rfl _ h
  | presenceChange _ _ => exact execPresenceChange_mask rfl rfl rfl rfl rfl rfl rfl rfl rfl rfl rfl rfl rfl rfl rfl rfl rfl _ _ h
  | feedWindowChange _ _ _ => exact execFeedWindowChange_mask rfl _ _ _ h
  | feedLost _ => exact execFeedLost_mask rfl rfl rfl rfl rfl rfl rfl rfl rfl rfl rfl rfl rfl rfl rfl rfl _ h
  | feedGood _ => exact execFeedGood_mask rfl rfl rfl rfl rfl rfl rfl rfl rfl rfl rfl rfl rfl rfl rfl rfl _ h
  | pathConfirmedOff => exact execPathConfirmedOff_mask rfl rfl rfl rfl rfl rfl rfl rfl rfl rfl rfl rfl rfl rfl rfl rfl h
  | pathConfirmTimeout => exact execPathConfirmTimeout_mask rfl rfl rfl rfl rfl rfl rfl rfl rfl rfl rfl rfl rfl rfl rfl rfl h
  | feedReturnTimer => exact execFeedReturnTimer_mask rfl rfl rfl rfl rfl rfl rfl rfl rfl rfl rfl rfl rfl rfl rfl rfl h
  | downRestartTimer => exact execDownRestartTimer_mask rfl rfl rfl rfl rfl rfl rfl rfl rfl rfl rfl rfl rfl rfl rfl rfl h
  | holdupPeerTimer => exact execHoldupPeerTimer_mask rfl rfl rfl rfl rfl rfl rfl rfl rfl rfl rfl rfl rfl rfl rfl rfl rfl rfl rfl rfl rfl rfl rfl rfl rfl h
  | busBelowHoldMin => exact execBusBelowHoldMin_mask rfl rfl rfl rfl rfl rfl rfl rfl rfl rfl rfl rfl rfl rfl rfl rfl rfl rfl rfl rfl rfl rfl rfl rfl rfl h
  | holdupTestStart _ => exact execHoldupTestStart_mask rfl _ h
  | holdupTestEnd _ _ _ _ => exact execHoldupTestEnd_mask rfl rfl rfl rfl rfl _ _ _ _ h
  | insertionDelayExpiry _ => exact execInsertionDelayExpiry_mask rfl rfl rfl rfl rfl rfl rfl rfl rfl rfl rfl rfl rfl rfl rfl rfl _ h
  | channelPowerGood _ => exact execChannelPowerGood_mask rfl rfl rfl rfl rfl rfl rfl rfl rfl rfl rfl rfl rfl rfl rfl rfl _ h
  | fastTrip _ => exact execFastTrip_mask rfl rfl rfl rfl rfl rfl rfl rfl rfl rfl rfl rfl rfl rfl rfl rfl _ h
  | soaTimeout _ => exact execSoaTimeout_mask rfl rfl rfl rfl rfl rfl rfl rfl rfl rfl rfl rfl rfl rfl rfl rfl _ h
  | rampTimeout _ => exact execRampTimeout_mask rfl rfl rfl rfl rfl rfl rfl rfl rfl rfl rfl rfl rfl rfl rfl rfl _ h
  | pgLost _ => exact execPgLost_mask rfl rfl rfl rfl rfl rfl rfl rfl rfl rfl rfl rfl rfl rfl rfl rfl _ h
  | cooldownExpiry _ => exact execCooldownExpiry_mask rfl rfl rfl rfl rfl rfl rfl rfl rfl rfl rfl rfl rfl rfl rfl rfl _ h
  | fetFaultTimer _ => exact execFetFaultTimer_mask rfl rfl rfl rfl rfl rfl rfl rfl rfl rfl rfl rfl rfl rfl rfl rfl _ h
  | railPowerGood _ => exact execRailPowerGood_mask rfl _ h
  | railPgTimeout => exact execRailPgTimeout_mask rfl h
  | railRetryTimer => exact execRailRetryTimer_mask rfl h
  | railPgLost k => exact execRailPgLost_mask rfl rfl rfl rfl rfl rfl rfl rfl rfl rfl rfl rfl rfl rfl rfl rfl rfl rfl rfl rfl rfl rfl k h
  | refclkSysLoss => exact execRefclkSysLoss_mask rfl rfl rfl rfl rfl rfl rfl rfl rfl rfl rfl rfl rfl rfl rfl rfl rfl rfl rfl rfl rfl rfl h
  | junctionSensorRead _ => exact execJunctionSensorRead_mask rfl rfl rfl rfl _ h
  | thermalLevelChange => exact execThermalLevelChange_mask rfl rfl rfl h
  | renewTimer => exact execRenewTimer_mask rfl rfl h
  | renewRx sh m => exact execRenewRx_mask rfl rfl rfl rfl rfl rfl rfl rfl rfl rfl rfl rfl rfl rfl rfl rfl rfl rfl rfl rfl rfl sh m h
  | grantRx sh m => exact execGrantRx_mask rfl rfl rfl rfl rfl rfl rfl rfl rfl rfl rfl rfl rfl rfl rfl rfl rfl rfl rfl rfl rfl sh m h
  | releaseRx _ _ => exact execReleaseRx_mask rfl rfl rfl rfl rfl rfl rfl rfl rfl rfl rfl rfl rfl rfl rfl rfl rfl rfl rfl rfl rfl _ _ h
  | helloRx _ _ => exact execHelloRx_mask rfl rfl rfl rfl rfl rfl rfl rfl rfl rfl rfl rfl rfl rfl rfl rfl rfl rfl rfl rfl rfl _ _ h
  | leaseHolderStop => exact execLeaseHolderStop_mask rfl rfl rfl rfl rfl rfl rfl rfl rfl h
  | leaseTakeTimer => exact execLeaseTakeTimer_mask rfl rfl rfl rfl rfl rfl rfl rfl rfl h
  | coldTakeTimer => exact execColdTakeTimer_mask rfl rfl rfl rfl rfl rfl rfl rfl rfl h
  | takeoverStep => exact execTakeoverStep_mask rfl rfl rfl rfl rfl rfl rfl rfl rfl rfl rfl rfl rfl rfl rfl rfl rfl rfl rfl rfl h
  | lapsedProbe => exact execLapsedProbe_mask rfl rfl rfl rfl rfl rfl rfl rfl rfl rfl rfl rfl rfl rfl rfl h
  | shroudLossTimer _ => exact execShroudLossTimer_mask rfl rfl rfl _ h
  | peerLinkGroupLoss _ => exact execPeerLinkGroupLoss_mask rfl rfl rfl rfl rfl rfl rfl rfl rfl rfl rfl rfl _ h
  | resyncComplete => exact execResyncComplete_mask rfl rfl rfl rfl rfl rfl rfl h
  | shelfKeyTransfer _ _ => exact execShelfKeyTransfer_mask rfl rfl _ _ h
  | periodicSwapTimer => exact execPeriodicSwapTimer_mask rfl rfl rfl rfl rfl rfl rfl rfl rfl rfl rfl rfl rfl h
  | reachSwapTimer => exact execReachSwapTimer_mask rfl rfl rfl rfl rfl rfl rfl rfl rfl rfl rfl rfl rfl h
  | drainComplete => exact execDrainComplete_mask rfl rfl rfl rfl rfl rfl rfl rfl rfl rfl rfl rfl rfl rfl rfl rfl rfl rfl rfl h
  | swapRelease => exact execSwapRelease_mask rfl rfl rfl rfl rfl rfl rfl rfl rfl h
  | drbgReseed _ _ => exact execDrbgReseed_mask rfl rfl rfl _ _ h
  | drbgStallTimer => exact execDrbgStallTimer_mask rfl rfl rfl rfl rfl rfl rfl rfl rfl rfl rfl h
  | retentionExpiry _ => exact execRetentionExpiry_mask rfl _ h
  | sealDigestDone _ _ _ => exact execSealDigestDone_mask rfl rfl rfl rfl rfl rfl _ _ _ h
  | faultRaise _ => exact execFaultRaise_mask rfl rfl rfl rfl _ h
  | faultConcentratorTake _ => exact execFaultConcentratorTake_mask rfl rfl rfl rfl rfl rfl rfl rfl rfl rfl rfl _ h
  | fStopResetTimer => exact execFStopResetTimer_mask rfl rfl rfl rfl rfl rfl rfl rfl rfl rfl rfl rfl rfl rfl rfl rfl rfl rfl rfl rfl rfl h
  | faultHandlingEnd _ _ => exact execFaultHandlingEnd_mask rfl rfl rfl rfl rfl rfl rfl rfl rfl rfl rfl rfl rfl rfl rfl rfl rfl rfl rfl _ _ h
  | bpdWordsDelivered => exact execBpdWordsDelivered_mask rfl rfl rfl rfl rfl rfl rfl rfl rfl rfl rfl rfl rfl h
  | cwnAckWrite _ => exact execCwnAckWrite_mask rfl _ h
  | evqHeadWrite _ _ => exact execEvqHeadWrite_mask rfl rfl _ _ h
  | evqTimeThreshold _ => exact execEvqTimeThreshold_mask rfl rfl _ h
  | msixVectorUnmask _ => exact execMsixVectorUnmask_mask rfl rfl _ h
  | counterHappening _ => exact execCounterHappening_mask rfl _ h
  | pmcSmpHeadWrite _ _ => exact execPmcSmpHeadWrite_mask rfl _ _ h
  | registerWrite _ _ _ _ => exact execRegisterWrite_mask rfl rfl rfl rfl rfl rfl rfl rfl rfl rfl rfl rfl rfl rfl rfl rfl rfl _ _ _ _ h
  | pcieCompletionRx _ _ => exact execPcieCompletionRx_mask rfl rfl rfl rfl _ _ h
  | pcieCompletionTimeout _ => exact execPcieCompletionTimeout_mask rfl rfl _ h
  | tagQuarantineExpiry _ => exact execTagQuarantineExpiry_mask rfl _ h
  | busMasterEnableClear => exact execBusMasterEnableClear_mask rfl rfl h
  | busMasterEnableSet => exact execBusMasterEnableSet_mask rfl rfl rfl rfl h
  | functionLevelReset => exact execFunctionLevelReset_mask rfl rfl rfl rfl rfl rfl rfl rfl rfl h
  | sessionOpen _ => exact execSessionOpen_mask rfl rfl rfl _ h
  | sessionClose _ _ _ => exact execSessionClose_mask rfl rfl rfl _ _ _ h
  | sessionTimeout _ => exact execSessionTimeout_mask rfl rfl _ h
  | peerMailboxEffect _ _ => exact execPeerMailboxEffect_mask rfl rfl rfl rfl rfl rfl rfl rfl rfl rfl rfl rfl rfl rfl _ _ h
  | mailboxCompletion _ => exact execMailboxCompletion_mask rfl rfl rfl rfl _ h
  | mailboxInvalidOpcode _ _ => exact execMailboxInvalidOpcode_mask rfl rfl _ _ h
  | fnStart _ => exact execFnStart_mask rfl rfl rfl rfl rfl rfl rfl rfl rfl rfl rfl rfl rfl rfl rfl rfl rfl rfl rfl rfl _ h
  | fnStop _ => exact execFnStop_mask rfl rfl rfl rfl rfl rfl rfl rfl rfl rfl rfl rfl rfl rfl rfl _ h
  | fnArm _ _ => exact execFnArm_mask rfl rfl rfl rfl rfl rfl rfl rfl rfl rfl rfl rfl rfl rfl rfl rfl rfl rfl rfl rfl rfl rfl rfl rfl rfl _ _ h
  | fnStatus _ => exact execFnStatus_mask rfl rfl rfl _ h
  | fnChipreset _ => exact execFnChipreset_mask rfl rfl rfl rfl rfl rfl rfl rfl rfl rfl _ h
  | fnCplto _ _ => exact execFnCplto_mask rfl rfl rfl rfl _ _ h
  | rigLoad _ _ => exact execRigLoad_mask rfl rfl rfl rfl rfl rfl rfl rfl _ _ h
  | rigVerify _ _ => exact execRigVerify_mask rfl rfl rfl _ _ h
  | rigInfo _ => exact execRigInfo_mask rfl rfl rfl _ h
  | rigEnroll _ _ _ => exact execRigEnroll_mask rfl rfl rfl rfl _ _ _ h
  | rigRules _ _ => exact execRigRules_mask rfl rfl rfl rfl _ _ h
  | modList _ => exact execModList_mask rfl rfl rfl rfl _ h
  | modDesc _ _ _ => exact execModDesc_mask rfl rfl rfl _ _ _ h
  | modStatus _ _ => exact execModStatus_mask rfl rfl rfl _ _ h
  | modRetire _ _ => exact execModRetire_mask rfl rfl rfl rfl rfl rfl rfl rfl rfl rfl rfl rfl rfl rfl rfl rfl _ _ h
  | modClear _ _ => exact execModClear_mask rfl rfl rfl rfl rfl rfl rfl rfl rfl rfl rfl rfl rfl rfl rfl rfl _ _ h
  | nsList _ => exact execNsList_mask rfl rfl rfl _ h
  | nsRead _ _ _ _ => exact execNsRead_mask rfl rfl rfl rfl _ _ _ _ h
  | nsWrite _ _ _ _ _ _ => exact execNsWrite_mask rfl rfl rfl rfl _ _ _ _ _ _ h
  | nsDealloc _ _ _ _ => exact execNsDealloc_mask rfl rfl rfl rfl _ _ _ _ h
  | nsCache _ _ _ _ _ _ => exact execNsCache_mask rfl rfl rfl rfl rfl rfl rfl rfl rfl rfl rfl rfl rfl rfl rfl rfl _ _ _ _ _ _ h
  | keyGenerate _ _ _ _ => exact execKeyGenerate_mask rfl rfl rfl rfl rfl _ _ _ _ h
  | keyImport _ _ _ _ _ => exact execKeyImport_mask rfl rfl rfl rfl _ _ _ _ _ h
  | keyDestroy _ _ _ => exact execKeyDestroy_mask rfl rfl rfl rfl _ _ _ h
  | keyStatus _ _ _ => exact execKeyStatus_mask rfl rfl rfl _ _ _ h
  | keyEscrow _ _ => exact execKeyEscrow_mask rfl rfl rfl rfl _ _ h
  | keyRestore _ _ => exact execKeyRestore_mask rfl rfl rfl rfl rfl _ _ h
  | keyMgmtenroll _ _ _ => exact execKeyMgmtenroll_mask rfl rfl rfl rfl _ _ _ h
  | hlthModule _ _ => exact execHlthModule_mask rfl rfl rfl _ _ h
  | hlthPage _ => exact execHlthPage_mask rfl rfl rfl _ h
  | hlthCaps _ _ _ => exact execHlthCaps_mask rfl rfl rfl rfl _ _ _ h
  | hlthThresh _ _ _ => exact execHlthThresh_mask rfl rfl rfl rfl _ _ _ h
  | hlthPatrol _ _ => exact execHlthPatrol_mask rfl rfl rfl rfl _ _ h
  | evtQcreate _ _ _ _ _ _ _ => exact execEvtQcreate_mask rfl rfl rfl rfl _ _ _ _ _ _ _ h
  | evtQdelete _ _ => exact execEvtQdelete_mask rfl rfl rfl rfl _ _ h
  | evtQmod _ _ _ _ => exact execEvtQmod_mask rfl rfl rfl rfl _ _ _ _ h
  | evtRoute _ _ _ _ _ => exact execEvtRoute_mask rfl rfl rfl rfl _ _ _ _ _ h
  | cwnHistory _ => exact execCwnHistory_mask rfl rfl rfl _ h
  | cwnAck _ _ => exact execCwnAck_mask rfl rfl rfl rfl _ _ h
  | pmcProgram _ _ _ _ => exact execPmcProgram_mask rfl rfl rfl rfl _ _ _ _ h
  | pmcUsermap _ _ _ => exact execPmcUsermap_mask rfl rfl rfl rfl _ _ _ h
  | pmcSample _ _ _ _ => exact execPmcSample_mask rfl rfl rfl rfl _ _ _ _ h
  | bayEnable _ _ => exact execBayEnable_mask rfl rfl rfl rfl _ _ h
  | bayDisable _ _ => exact execBayDisable_mask rfl rfl rfl rfl _ _ h
  | bayConfig _ _ _ _ _ _ _ _ => exact execBayConfig_mask rfl rfl rfl rfl _ _ _ _ _ _ _ _ h
  | bayToggle _ _ => exact execBayToggle_mask rfl rfl rfl rfl _ _ h
  | pwrHoldtest _ => exact execPwrHoldtest_mask rfl rfl rfl rfl _ h
  | pwrStatus _ => exact execPwrStatus_mask rfl rfl rfl _ h
  | pairStatus _ => exact execPairStatus_mask rfl rfl rfl _ h
  | pairSwap _ => exact execPairSwap_mask rfl rfl rfl rfl rfl rfl rfl rfl rfl rfl rfl rfl rfl rfl rfl _ h
  | pairInterval _ _ => exact execPairInterval_mask rfl rfl rfl rfl _ _ h
  | fwDownload _ _ _ => exact execFwDownload_mask rfl rfl rfl rfl _ _ _ h
  | fwActivate _ _ _ => exact execFwActivate_mask rfl rfl rfl rfl rfl _ _ _ h
  | fwInfo _ => exact execFwInfo_mask rfl rfl rfl _ h
  | sealRange _ _ _ _ => exact execSealRange_mask rfl rfl rfl rfl _ _ _ _ h
  | sealCert _ => exact execSealCert_mask rfl rfl rfl _ h
  | retAdvance _ _ _ => exact execRetAdvance_mask rfl rfl rfl rfl rfl _ _ _ h
  | retClock _ => exact execRetClock_mask rfl rfl rfl _ h
  | diagEcho _ _ => exact execDiagEcho_mask rfl rfl rfl _ _ h
  | diagSelftest _ _ _ => exact execDiagSelftest_mask rfl rfl rfl _ _ _ h
  | sheetLaneLockLoss _ _ => exact execSheetLaneLockLoss_mask rfl rfl rfl rfl rfl rfl rfl rfl rfl rfl rfl rfl rfl rfl _ _ h
  | busStartWindowChange _ _ => exact execBusStartWindowChange_mask rfl rfl rfl rfl _ _ h
  | holdupTestAgeExpiry => exact execHoldupTestAgeExpiry_mask rfl rfl rfl h
  | presenceAbsent100ms _ => exact execPresenceAbsent100ms_mask rfl rfl rfl rfl rfl rfl rfl rfl rfl rfl rfl rfl rfl rfl rfl rfl _ h
  | auxiliaryPowerRemoved => exact execAuxiliaryPowerRemoved_mask rfl rfl rfl rfl rfl rfl rfl rfl rfl rfl rfl rfl rfl rfl rfl rfl rfl rfl rfl rfl rfl rfl rfl rfl h
  | refclkSysRestored => exact execRefclkSysRestored_mask rfl h
  | peerLinkRestored _ => exact execPeerLinkRestored_mask rfl rfl rfl _ h
  | drbgReseedOverdue _ => exact execDrbgReseedOverdue_mask rfl _ h
  | commandDatagramRx _ _ _ => exact execCommandDatagramRx_mask rfl rfl rfl rfl _ _ _ h
  | d3hotTransition _ => exact execD3hotTransition_mask rfl rfl rfl rfl _ h

theorem exec_pending {i : Instr} {s t : State} (h : exec i s = .next t) : t.pending = s.pending :=
  State.mask_pending (exec_mask_butPending h) rfl

/-- A controller whose GO of RET.ADVANCE is the next to be taken: awake, ACTIVE, RUNNING, mailbox 0 BUSY, no other in use. -/
def stAdvance : State :=
  (((State.reset.onBpd fun b => { b with mainReset := false }).onFn fun f => { f with st := .running }).onPair fun p =>
    { p with st := .active }).onBoot (fun b => { b with step := 14 }) |>.onMbx 0 fun b => { b with st := .busy }

/-- Settles O3: every row answers, and the frame of its meaning leaves the queue. -/
theorem queueUntouched : Obligations.QueueUntouched := fun i s => by
  obtain ⟨t, ht⟩ := exec_next i s
  exact ⟨t, ht, exec_pending ht⟩

/-- Refutes O2: an accepted RET.ADVANCE waits among the live changes of the function (R353, R429), and its list has no such group. -/
theorem not_commandFrames : ¬ Obligations.CommandFrames := by
  intro h
  obtain ⟨t, ht⟩ := exec_next (.retAdvance ⟨0, false, none, true, none, 0, 0, .ok⟩ 1 1) stAdvance
  have hf : t.fn = stAdvance.fn := h _ _ _ ht .fn (by decide)
  have hc : t.fn.changes = [(0, .retAdvance 1)] := by
    cases ht; decide +kernel
  rw [hf] at hc
  exact absurd hc (by decide)

/-- Settles O1: the front of the queue is taken. -/
theorem stepRunsFront : Obligations.StepRunsFront := fun _ _ _ => rfl

/-- Settles O5: each register file of the reset state has its size. -/
theorem invAtReset : Obligations.InvAtReset := by
  unfold Obligations.InvAtReset
  constructor <;> decide

end Sys2Proof.Machine
end

section
/-! SUPPORT. What every step keeps (`State.Inv`), under the shared operations: one lemma for each operation, in the order of the modules. Each
proof takes the operation apart along its branches and cites the lemmas of what it calls. -/

namespace Sys2Proof.Machine

/-- An updater that sets a size outright: the sizes of its group are asked for at this state alone. -/
theorem State.onSheet_inv_of {s : State} (hi : s.Inv) {g : SheetSt → SheetSt} (hp : (g s.sheet).ports.length = 48)
    (hm : (g s.sheet).modules.length = 48) (hw : tabWf (g s.sheet).media = true) : (s.onSheet g).Inv :=
  { hi with ports := hp, modules := hm, media := hw }

theorem State.onLog_inv_of {s : State} (hi : s.Inv) {g : LogSt → LogSt} (hs : (g s.log).streams.length = 64)
    (hh : (g s.log).halfErased.length = 2) : (s.onLog g).Inv :=
  { hi with streams := hs, halves := hh }

theorem State.onNet_inv_of {s : State} (hi : s.Inv) {g : NetSt → NetSt} (hp : (g s.net).ports.length = 8)
    (hr : (g s.net).rulePhase.length = 32) (ho : (g s.net).offerPtr.length = 4) : (s.onNet g).Inv :=
  { hi with fronts := hp, phases := hr, offers := ho }

theorem State.onSched_inv_of {s : State} (hi : s.Inv) {g : Sched → Sched} (hp : (g s.sched).inputs.length = 18)
    (hl : (g s.sched).lastTaken.length = 18) : (s.onSched g).Inv :=
  { hi with inputs := hp, lastTaken := hl }

theorem foldl_triple_inv {α β γ : Type} {g : β × γ × State → α → β × γ × State} {a : β × γ × State} (h : a.2.2.Inv)
    (hg : ∀ a x, a.2.2.Inv → (g a x).2.2.Inv) (l : List α) : (l.foldl g a).2.2.Inv := by
  induction l generalizing a with
  | nil => exact h
  | cons x t ih => exact ih (hg a x h)

/-- What the second part of a pair keeps, the pair taken apart by a match. -/
theorem State.inv_of_pair {α : Type} {p : α × State} {a : α} {t : State} (h : p = (a, t)) (hp : p.2.Inv) : t.Inv := by
  subst h; exact hp

theorem State.onFlt_inv_of {s : State} (hi : s.Inv) {g : FltSt → FltSt} (hc : (g s.flt).counts.length = 5)
    (hq : 0 < (g s.flt).seqNext ∧ (g s.flt).seqNext < 2 ^ 32) : (s.onFlt g).Inv :=
  { hi with counts := hc, seq := hq }

/-- The FAULT_SEQ after any other is a 32-bit number other than 0 (R442). -/
theorem seqAfter_range {n : Nat} (h : n < 2 ^ 32) : 0 < seqAfter n ∧ seqAfter n < 2 ^ 32 := by
  unfold seqAfter
  split <;> omega

theorem foldl_tabWf {α β : Type} {g : Tab α → β → Tab α} {t : Tab α} (h : tabWf t = true)
    (hg : ∀ t k, tabWf t = true → tabWf (g t k) = true) (l : List β) : tabWf (l.foldl g t) = true := by
  induction l generalizing t with
  | nil => exact h
  | cons x l ih => exact ih (hg t x h)

theorem NetSt.pushOut_sizes (outp sub cls total need fuel : Nat) (n : NetSt) :
    (n.pushOut outp sub cls total need fuel).ports = n.ports ∧ (n.pushOut outp sub cls total need fuel).rulePhase = n.rulePhase
      ∧ (n.pushOut outp sub cls total need fuel).offerPtr = n.offerPtr := by
  induction fuel generalizing n with
  | zero => exact ⟨rfl, rfl, rfl⟩
  | succ k ih =>
    unfold NetSt.pushOut
    repeat' first | exact ⟨rfl, rfl, rfl⟩ | exact ih _ | split

theorem State.onPort_inv {s : State} (hi : s.Inv) (b : Nat) (g : Port → Port) : (State.onPort s b g).Inv := by
  unfold State.onPort
  repeat' first | with_reducible assumption | with_reducible apply State.onSheet_inv | split | exact fun _ => ⟨rfl, rfl⟩ | exact fun _ h => h | simp

theorem State.onModule_inv {s : State} (hi : s.Inv) (b : Nat) (g : Module → Module) : (State.onModule s b g).Inv := by
  unfold State.onModule
  repeat' first | with_reducible assumption | with_reducible apply State.onSheet_inv | split | exact fun _ => ⟨rfl, rfl⟩ | exact fun _ h => h | simp

theorem State.onMbx_inv {s : State} (hi : s.Inv) (m : Nat) {g : Mbx → Mbx} (hg : ∀ x, bufWf x.buf = true → bufWf (g x).buf = true) : (State.onMbx s m g).Inv := by
  unfold State.onMbx
  exact State.onMgmt_inv hi fun x => ⟨rfl, modNth_length .., rfl, rfl, fun h => modNth_forall h hg⟩

theorem State.onEvq_inv {s : State} (hi : s.Inv) (q : Nat) (g : Evq → Evq) : (State.onEvq s q g).Inv := by
  unfold State.onEvq
  repeat' first | with_reducible assumption | with_reducible apply State.onMgmt_inv | split | exact fun _ => ⟨rfl, rfl⟩ | exact fun _ h => h | simp

theorem State.onChan_inv {s : State} (hi : s.Inv) (b : Nat) (g : Chan → Chan) : (State.onChan s b g).Inv := by
  unfold State.onChan
  repeat' first | with_reducible assumption | with_reducible apply State.onBpd_inv | split | exact fun _ => ⟨rfl, rfl⟩ | exact fun _ h => h | simp

theorem State.onQp_inv {s : State} (hi : s.Inv) (q : Nat) (g : Qp → Qp) : (State.onQp s q g).Inv := by
  unfold State.onQp
  repeat' first | with_reducible assumption | with_reducible apply State.onRdma_inv | split | exact fun _ => ⟨rfl, rfl⟩ | exact fun _ h => h | simp

theorem State.onCell_inv {s : State} (hi : s.Inv) (q : Nat) (g : RdmaCell → RdmaCell) : (State.onCell s q g).Inv := by
  unfold State.onCell
  repeat' first | with_reducible assumption | with_reducible apply State.onRdma_inv | split | exact fun _ => ⟨rfl, rfl⟩ | exact fun _ h => h | simp

theorem State.onCmd_inv {s : State} (hi : s.Inv) (n : Nat) (g : Cmd → Cmd) : (State.onCmd s n g).Inv := by
  unfold State.onCmd
  repeat' first | with_reducible assumption | with_reducible apply State.onSched_inv | split | exact fun _ => ⟨rfl, rfl⟩

theorem State.onCtl_inv {s : State} (hi : s.Inv) (c : Nat) (g : NvmeCtl → NvmeCtl) : (State.onCtl s c g).Inv := by
  unfold State.onCtl
  repeat' first | with_reducible assumption | with_reducible apply State.onNvme_inv

theorem State.onHealth_inv {s : State} (hi : s.Inv) (b : Nat) (g : Health → Health) : (State.onHealth s b g).Inv := by
  unfold State.onHealth
  repeat' first | with_reducible assumption | with_reducible apply State.onMed_inv | split | exact fun _ => ⟨rfl, rfl⟩ | exact fun _ h => h | simp

theorem State.countLate_inv {s : State} (hi : s.Inv) (block : Nat) : (State.countLate s block).Inv := by
  unfold State.countLate
  repeat' first | with_reducible assumption | with_reducible apply State.onSched_inv | split | exact fun _ => ⟨rfl, rfl⟩

theorem State.msix_inv {s : State} (hi : s.Inv) (v : Nat) : (State.msix s v).Inv := by
  unfold State.msix
  repeat' first
    | with_reducible assumption | with_reducible apply State.emit_inv | with_reducible apply State.onMgmt_inv | split | exact fun _ => ⟨rfl, rfl⟩
    | exact fun _ h => h | simp

theorem State.evqSignal_inv {s : State} (hi : s.Inv) (q : Nat) (force : Bool) : (State.evqSignal s q force).Inv := by
  unfold State.evqSignal
  dsimp only
  repeat' first | with_reducible assumption | with_reducible apply State.onEvq_inv | with_reducible apply State.msix_inv | split

theorem State.evqWrite_inv {s : State} (hi : s.Inv) (q : Nat) (r : EvRec) : (State.evqWrite s q r).Inv := by
  unfold State.evqWrite
  dsimp only
  repeat' first
    | with_reducible assumption | with_reducible apply State.emit_inv | with_reducible apply State.onEvq_inv
    | with_reducible apply State.evqSignal_inv | split

theorem State.evqPost_inv {s : State} (hi : s.Inv) (q source kind data0 data1 : Nat) : (State.evqPost s q source kind data0 data1).Inv := by
  unfold State.evqPost
  dsimp only
  repeat' first
    | with_reducible assumption | with_reducible apply State.onMgmt_inv | with_reducible apply State.onEvq_inv
    | with_reducible apply State.evqWrite_inv | split | exact fun _ => ⟨rfl, rfl⟩ | exact fun _ h => h | simp

theorem State.event_inv {s : State} (hi : s.Inv) (source kind data0 data1 : Nat) : (State.event s source kind data0 data1).Inv := by
  unfold State.event
  repeat' first | with_reducible assumption | with_reducible apply State.evqPost_inv | split

theorem State.eventState_inv {s : State} (hi : s.Inv) (source new old cause detail : Nat) : (State.eventState s source new old cause detail).Inv := by
  unfold State.eventState
  repeat' first | with_reducible assumption | with_reducible apply State.event_inv

theorem State.raiseWord_inv {s : State} (hi : s.Inv) (w : BitVec 64) : (State.raiseWord s w).Inv := by
  unfold State.raiseWord
  dsimp only
  repeat' first
    | with_reducible assumption | exact State.onBpd_inv hi fun x => by split <;> rfl | with_reducible apply State.onFlt_inv | split
    | simp [FltSt.summarise]

theorem State.raise_inv {s : State} (hi : s.Inv) (unit cls cause addr : Nat) : (State.raise s unit cls cause addr).Inv := by
  unfold State.raise
  repeat' first | with_reducible assumption | with_reducible apply State.raiseWord_inv

theorem State.raiseBlock_inv {s : State} (hi : s.Inv) (unit cls cause addr : Nat) : (State.raiseBlock s unit cls cause addr).Inv := by
  unfold State.raiseBlock
  repeat' first | with_reducible assumption | with_reducible apply State.raiseWord_inv

theorem State.answer_inv {s : State} (hi : s.Inv) (m : Nat) (r : Resp) : (State.answer s m r).Inv := by
  unfold State.answer
  exact State.onMbx_inv hi m fun x h => by split <;> exact h

theorem State.draw_inv {s : State} (hi : s.Inv) : (State.draw s).2.Inv := by
  unfold State.draw
  dsimp only
  repeat' first | with_reducible assumption | with_reducible apply State.tick_inv

theorem State.freeNat_inv {s : State} (hi : s.Inv) : (State.freeNat s).2.Inv := by
  unfold State.freeNat
  dsimp only
  repeat' first | with_reducible assumption | with_reducible apply State.tick_inv

theorem State.police_inv {s : State} (hi : s.Inv) (t len : Nat) : (State.police s t len).2.Inv := by
  unfold State.police
  dsimp only
  repeat' first | with_reducible assumption | with_reducible apply State.onNet_inv | split | exact fun _ => ⟨rfl, rfl⟩ | exact fun _ h => h | simp

theorem State.profile_inv {s : State} (hi : s.Inv) (q : QueueEntry) (col : Colour) (inp o sub c : Nat) (ecn : Nat) : (State.profile s q col inp o sub c ecn).2.Inv := by
  unfold State.profile
  dsimp only
  repeat' first
    | with_reducible assumption | with_reducible apply State.onNet_inv | with_reducible apply State.draw_inv
    | with_reducible apply State.freeNat_inv | with_reducible apply State.tick_inv | split | refine State.inv_of_pair (by assumption) ?_
    | exact fun _ => ⟨rfl, rfl⟩ | exact fun _ h => h | simp

theorem State.pfcCheck_inv {s : State} (hi : s.Inv) (port sub k : Nat) : (State.pfcCheck s port sub k).Inv := by
  unfold State.pfcCheck
  repeat' first
    | with_reducible assumption | with_reducible apply State.emit_inv | with_reducible apply State.onNet_inv | split | exact fun _ => ⟨rfl, rfl⟩
    | exact fun _ h => h | simp

theorem State.voqPush_inv {s : State} (hi : s.Inv) (k : VoqKey) (f : VoqFrame) : (State.voqPush s k f).Inv := by
  unfold State.voqPush
  repeat' first | with_reducible assumption | with_reducible apply State.onNet_inv | split | exact fun _ => ⟨rfl, rfl⟩ | exact fun _ h => h | simp

theorem State.takeCells_inv {s : State} (hi : s.Inv) (k : VoqKey) (len : Nat) (ce : Bool) (inSub prio : Nat) : (State.takeCells s k len ce inSub prio).Inv := by
  unfold State.takeCells
  dsimp only
  repeat' first
    | with_reducible assumption | with_reducible apply State.pfcCheck_inv | with_reducible apply State.voqPush_inv
    | with_reducible apply State.onNet_inv | split | exact fun _ => ⟨rfl, rfl⟩ | simp [NetSt.pushOut_sizes]

theorem State.admitFrame_inv {s : State} (hi : s.Inv) (k : VoqKey) (len policer ecn inSub prio : Nat) : (State.admitFrame s k len policer ecn inSub prio).Inv := by
  unfold State.admitFrame
  dsimp only
  repeat' first
    | with_reducible assumption | with_reducible apply State.onNet_inv | with_reducible apply State.police_inv
    | with_reducible apply State.takeCells_inv | with_reducible apply State.profile_inv | split | refine State.inv_of_pair (by assumption) ?_
    | exact fun _ => ⟨rfl, rfl⟩ | exact fun _ h => h | simp

theorem State.switchFrame_inv {s : State} (hi : s.Inv) (port : Nat) (fr : InFrame) : (State.switchFrame s port fr).Inv := by
  unfold State.switchFrame
  dsimp only
  repeat' first
    | with_reducible assumption | with_reducible apply State.onNet_inv | with_reducible apply State.admitFrame_inv | split
    | exact fun _ => ⟨rfl, rfl⟩ | exact fun _ h => h | simp

theorem State.enqueue_inv {s : State} (hi : s.Inv) (input : Nat) (h : Head) : (State.enqueue s input h).Inv := by
  unfold State.enqueue
  repeat' first | with_reducible assumption | with_reducible apply State.onSched_inv | split | exact fun _ => ⟨rfl, rfl⟩ | exact fun _ h => h | simp

theorem State.deliverHeld_inv {s : State} (hi : s.Inv) : (State.deliverHeld s).Inv := by
  unfold State.deliverHeld
  repeat' first
    | with_reducible assumption | with_reducible apply State.enqueue_inv | with_reducible apply State.onSched_inv | split
    | refine State.foldl_inv ?_ (fun _ _ hi => ?_) _ | exact fun _ => ⟨rfl, rfl⟩

theorem State.returnCredit_inv {s : State} (hi : s.Inv) (lane : Option Nat) : (State.returnCredit s lane).Inv := by
  unfold State.returnCredit
  repeat' first
    | with_reducible assumption | with_reducible apply State.onSched_inv | with_reducible apply State.deliverHeld_inv | split
    | exact fun _ => ⟨rfl, rfl⟩

theorem State.sendPkt_inv {s : State} (hi : s.Inv) (q : Nat) (p : Pkt) (payload : Nat) : (State.sendPkt s q p payload).Inv := by
  unfold State.sendPkt
  dsimp only
  repeat' first
    | with_reducible assumption | with_reducible apply State.emit_inv | with_reducible apply State.onNet_inv | split | exact fun _ => ⟨rfl, rfl⟩
    | exact fun _ h => h | simp

theorem State.sendCtl_inv {s : State} (hi : s.Inv) (q : Nat) (kind : CtlKind) (psn : BitVec 24) (syndrome : Nat) : (State.sendCtl s q kind psn syndrome).Inv := by
  unfold State.sendCtl
  dsimp only
  repeat' first | with_reducible assumption | with_reducible apply State.onCell_inv

theorem State.sendAck_inv {s : State} (hi : s.Inv) (q : Nat) : (State.sendAck s q).Inv := by
  unfold State.sendAck
  dsimp only
  repeat' first | with_reducible assumption | with_reducible apply State.sendCtl_inv | with_reducible apply State.onQp_inv

theorem State.takeSend_inv {s : State} (hi : s.Inv) (q : Nat) (isSend : Bool) (bytes : Nat) : (State.takeSend s q isSend bytes).Inv := by
  unfold State.takeSend
  repeat' first | with_reducible assumption | with_reducible apply State.onQp_inv | with_reducible apply State.onCell_inv

theorem State.pump_inv {s : State} (hi : s.Inv) (q fuel : Nat) : (State.pump s q fuel).Inv := by
  induction fuel generalizing s with
  | zero => exact hi
  | succ n ih =>
    unfold State.pump
    dsimp only
    repeat' first
      | with_reducible assumption | with_reducible apply State.onQp_inv | with_reducible apply State.takeSend_inv
      | with_reducible apply State.sendPkt_inv | with_reducible apply ih | split

theorem State.sendCqe_inv {s : State} (hi : s.Inv) (q : Nat) (c : Cqe) : (State.sendCqe s q c).Inv := by
  unfold State.sendCqe
  dsimp only
  repeat' first | with_reducible assumption | with_reducible apply State.onQp_inv | with_reducible apply State.pump_inv | split

theorem State.returnCqe_inv {s : State} (hi : s.Inv) (q ord : Nat) (c : Cqe) : (State.returnCqe s q ord c).Inv := by
  unfold State.returnCqe
  dsimp only
  repeat' first
    | with_reducible assumption | with_reducible apply State.sendCqe_inv | with_reducible apply State.onQp_inv | split
    | refine State.foldl_inv ?_ (fun _ _ hi => ?_) _

theorem State.sendAen_inv {s : State} (hi : s.Inv) (c type info lid : Nat) : (State.sendAen s c type info lid).2.Inv := by
  unfold State.sendAen
  repeat' first | with_reducible assumption | with_reducible apply State.onCtl_inv | with_reducible apply State.sendCqe_inv | split

theorem State.anaNotice_inv {s : State} (hi : s.Inv) : (State.anaNotice s).Inv := by
  unfold State.anaNotice
  dsimp only
  repeat' first
    | with_reducible assumption | with_reducible apply State.onCtl_inv | with_reducible apply State.sendAen_inv | split
    | refine State.inv_of_pair (by assumption) ?_ | refine State.foldl_inv ?_ (fun _ _ hi => ?_) _

theorem withAna_inv {t : State} (hi : t.Inv) (s : State) : (withAna s t).Inv := by
  unfold withAna
  split
  · exact hi
  · exact State.anaNotice_inv hi

theorem State.sdtChange_inv {s : State} (hi : s.Inv) (cause : Nat) : (State.sdtChange s cause).Inv := by
  unfold State.sdtChange
  dsimp only
  repeat' first
    | with_reducible assumption | with_reducible apply State.onMgmt_inv | with_reducible apply State.eventState_inv | split
    | exact fun _ => ⟨rfl, rfl⟩ | exact fun _ h => h | simp

theorem State.setFn_inv {s : State} (hi : s.Inv) (f : FnState) (cause : Nat) : (State.setFn s f cause).Inv := by
  unfold State.setFn
  split
  · exact hi
  · exact withAna_inv (State.eventState_inv (State.onFn_inv hi) _ _ _ _ _) s

theorem State.setPair_inv {s : State} (hi : s.Inv) (p : PairState) : (State.setPair s p).Inv := by
  unfold State.setPair
  split
  · exact hi
  · refine withAna_inv (State.sdtChange_inv (State.eventState_inv (State.onPair_inv hi ?_) _ _ _ _ _) _) s
    exact fun _ => ⟨rfl, rfl⟩

theorem State.countError_inv {s : State} (hi : s.Inv) (tenant sct sc : Nat) : (State.countError s tenant sct sc).Inv := by
  unfold State.countError
  repeat' first | with_reducible assumption | with_reducible apply State.onNvme_inv | split

theorem State.reply_inv {s : State} (hi : s.Inv) (ord : Nat) (c : Cmd) (sct sc : Nat) (dnr : Bool) (dw0 : Nat) : (State.reply s ord c sct sc dnr dw0).Inv := by
  unfold State.reply
  dsimp only
  repeat' first
    | with_reducible assumption | with_reducible apply State.returnCqe_inv | with_reducible apply State.emit_inv
    | with_reducible apply State.answer_inv | split

theorem State.dropCmd_inv {s : State} (hi : s.Inv) (ord : Nat) : (State.dropCmd s ord).Inv := by
  unfold State.dropCmd
  dsimp only
  repeat' first | with_reducible assumption | with_reducible apply State.onSched_inv | split | exact fun _ => ⟨rfl, rfl⟩

theorem State.finish_inv {s : State} (hi : s.Inv) (ord sct sc : Nat) (dnr : Bool) (dw0 : Nat) : (State.finish s ord sct sc dnr dw0).Inv := by
  unfold State.finish
  repeat' first
    | with_reducible assumption | with_reducible apply State.countError_inv | with_reducible apply State.reply_inv
    | with_reducible apply State.dropCmd_inv | split

theorem State.finishOk_inv {s : State} (hi : s.Inv) (ord : Nat) : (State.finishOk s ord).Inv := by
  unfold State.finishOk
  repeat' first | with_reducible assumption | with_reducible apply State.finish_inv

theorem State.haltChain_inv {s : State} (hi : s.Inv) (ord : Nat) : (State.haltChain s ord).Inv := by
  unfold State.haltChain
  dsimp only
  repeat' first
    | with_reducible assumption | with_reducible apply State.finish_inv | with_reducible apply State.onLog_inv | split
    | refine State.foldl_inv ?_ (fun _ _ hi => ?_) _ | exact fun _ => ⟨rfl, rfl⟩

theorem State.failCmd_inv {s : State} (hi : s.Inv) (ord sct sc : Nat) (dnr : Bool) : (State.failCmd s ord sct sc dnr).Inv := by
  unfold State.failCmd
  repeat' first | with_reducible assumption | with_reducible apply State.haltChain_inv | with_reducible apply State.finish_inv

theorem State.settle_inv {s : State} (hi : s.Inv) (ord : Nat) : (State.settle s ord).Inv := by
  unfold State.settle
  repeat' first | with_reducible assumption | with_reducible apply State.onSched_inv | split | exact fun _ => ⟨rfl, rfl⟩

theorem State.onFront_inv {s : State} (hi : s.Inv) (p : Nat) (g : FrontPort → FrontPort) : (State.onFront s p g).Inv := by
  unfold State.onFront
  repeat' first | with_reducible assumption | with_reducible apply State.onNet_inv | split | exact fun _ => ⟨rfl, rfl⟩ | exact fun _ h => h | simp

theorem State.recordFragment_inv {s : State} (hi : s.Inv) (p : Nat) (pseq : Nat) (key : FragKey) (a : ClsAction) : (State.recordFragment s p pseq key a).Inv := by
  unfold State.recordFragment
  dsimp only
  repeat' first
    | with_reducible assumption | with_reducible apply State.live_inv | with_reducible apply State.onNet_inv
    | with_reducible apply State.onFront_inv | split | exact fun _ => ⟨rfl, rfl⟩ | exact fun _ h => h | simp

theorem State.releaseParked_inv {s : State} (hi : s.Inv) (due : Parked → Bool) : (State.releaseParked s due).Inv := by
  unfold State.releaseParked
  dsimp only
  repeat' first
    | with_reducible assumption | with_reducible apply State.switchFrame_inv | with_reducible apply State.onNet_inv | split
    | refine State.foldl_inv ?_ (fun _ _ hi => ?_) _ | exact fun _ => ⟨rfl, rfl⟩ | exact fun _ h => h | simp

theorem State.rulesSettle_inv {s : State} (hi : s.Inv) : (State.rulesSettle s).Inv := by
  unfold State.rulesSettle
  dsimp only
  repeat' first
    | with_reducible assumption | with_reducible apply State.onFn_inv | with_reducible apply State.onNet_inv
    | with_reducible apply State.answer_inv | split | exact fun _ => ⟨rfl, rfl⟩ | exact fun _ h => h | simp

theorem State.rulesBegin_inv {s : State} (hi : s.Inv) (c : ClsSection) : (State.rulesBegin s c).Inv := by
  unfold State.rulesBegin
  dsimp only
  refine State.rulesSettle_inv (State.foldl_inv (State.onNet_inv_of hi hi.fronts (by simp) hi.offers) (fun _ _ h => ?_) _)
  repeat' first | with_reducible assumption | with_reducible apply State.emit_inv | split | refine State.foldl_inv ?_ (fun _ _ h => ?_) _

theorem State.moveCell_inv {s : State} (hi : s.Inv) (k : VoqKey) : (State.moveCell s k).Inv := by
  unfold State.moveCell
  dsimp only
  repeat' first
    | with_reducible assumption | with_reducible apply State.onNet_inv | with_reducible apply State.onFront_inv
    | with_reducible apply State.emit_inv | split | exact fun _ => ⟨rfl, rfl⟩ | exact fun _ h => h | simp

theorem State.takeOffer_inv {s : State} (hi : s.Inv) (b : Nat) : (State.takeOffer s b).Inv := by
  unfold State.takeOffer
  dsimp only
  repeat' first
    | with_reducible assumption | with_reducible apply State.onNet_inv | with_reducible apply State.admitFrame_inv | split
    | refine State.foldl_inv ?_ (fun _ _ hi => ?_) _ | exact fun _ => ⟨rfl, rfl⟩ | exact fun _ h => h | simp

theorem State.takeControl_inv {s : State} (hi : s.Inv) (b : Nat) : (State.takeControl s b).2.Inv := by
  unfold State.takeControl
  dsimp only
  repeat' first
    | with_reducible assumption | with_reducible apply State.onCell_inv | with_reducible apply State.emit_inv
    | with_reducible apply State.admitFrame_inv | split

theorem State.takeStorage_inv {s : State} (hi : s.Inv) (b : Nat) : (State.takeStorage s b).Inv := by
  unfold State.takeStorage
  repeat' first
    | with_reducible assumption | with_reducible apply State.takeControl_inv | with_reducible apply State.takeOffer_inv | split
    | refine State.inv_of_pair (by assumption) ?_

theorem State.setMod_inv {s : State} (hi : s.Inv) (b : Nat) (m : ModState) : (State.setMod s b m).Inv := by
  unfold State.setMod
  repeat' first | with_reducible assumption | with_reducible apply State.onPort_inv | with_reducible apply State.eventState_inv | split

theorem State.issue_inv {s t : State} (hi : s.Inv) {b : Nat} {op : SheetOp} {value : BitVec 64} {offsets : List Int} {frames : List Payload} (h : s.issue b op value offsets frames = some t) : t.Inv := by
  unfold State.issue at h
  dsimp only at h
  split at h
  · obtain rfl := Option.some.inj h
    repeat' first | with_reducible assumption | with_reducible apply State.onPort_inv | with_reducible apply State.emit_inv | split
  · cases h

theorem State.issue_getD_inv {s : State} (hi : s.Inv) (b : Nat) (op : SheetOp) (value : BitVec 64) (offsets : List Int) (frames : List Payload) : ((s.issue b op value offsets frames).getD s).Inv := by
  cases h : s.issue b op value offsets frames with
  | none => exact hi
  | some t => exact State.issue_inv hi h

theorem State.ask_inv {s : State} (hi : s.Inv) (b code arg : Nat) (value : BitVec 64) : (State.ask s b code arg value).Inv := by
  unfold State.ask
  dsimp only
  repeat' first | with_reducible assumption | split | refine State.issue_inv ?_ (by assumption) | with_reducible apply State.issue_getD_inv

theorem State.sendFence_inv {s : State} (hi : s.Inv) (b : Nat) : (State.sendFence s b).Inv := by
  unfold State.sendFence
  repeat' first | with_reducible assumption | with_reducible apply State.setMod_inv | split | refine State.issue_inv ?_ (by assumption)

theorem State.chargeBack_inv {s : State} (hi : s.Inv) (lclass u : Nat) : (State.chargeBack s lclass u).Inv := by
  unfold State.chargeBack
  dsimp only
  repeat' first | with_reducible assumption | with_reducible apply State.onSched_inv | split | exact fun _ => ⟨rfl, rfl⟩

theorem State.enterReb_inv {s : State} (hi : s.Inv) (r : RebuildState) : (State.enterReb s r).Inv := by
  unfold State.enterReb
  dsimp only
  repeat' first
    | with_reducible assumption | with_reducible apply State.onReb_inv | with_reducible apply State.event_inv
    | with_reducible apply State.eventState_inv | split

theorem State.setReb_inv {s : State} (hi : s.Inv) (r : RebuildState) : (State.setReb s r).Inv := by
  unfold State.setReb
  repeat' first | with_reducible assumption | with_reducible apply State.enterReb_inv | split

theorem State.addLoss_inv {s : State} (hi : s.Inv) (x : LossItem) : (State.addLoss s x).Inv := by
  unfold State.addLoss
  dsimp only
  repeat' first
    | with_reducible assumption | with_reducible apply State.onReb_inv | with_reducible apply State.onLog_inv
    | with_reducible apply State.enterReb_inv | with_reducible apply State.journal_inv | split | exact fun _ => ⟨rfl, rfl⟩

theorem State.onGmd_inv {s : State} (hi : s.Inv) (mpn : Nat) (g : GmdEntry → GmdEntry) : (State.onGmd s mpn g).Inv := by
  unfold State.onGmd
  repeat' first | with_reducible assumption | with_reducible apply State.onMap_inv

theorem State.onSlot_inv {s : State} (hi : s.Inv) (mpn : Nat) (g : PoolSlot → PoolSlot) : (State.onSlot s mpn g).Inv := by
  unfold State.onSlot
  repeat' first | with_reducible assumption | with_reducible apply State.onMap_inv | split

theorem State.evict_inv {s : State} (hi : s.Inv) : (State.evict s).2.Inv := by
  unfold State.evict
  dsimp only
  repeat' first | with_reducible assumption | with_reducible apply State.onMap_inv | split

theorem State.freeSlot_inv {s : State} (hi : s.Inv) (mpn : Nat) : (State.freeSlot s mpn).2.Inv := by
  unfold State.freeSlot
  repeat' first | with_reducible assumption | with_reducible apply State.evict_inv | split

theorem State.takeSlot_inv {s : State} (hi : s.Inv) (mpn : Nat) (p : PoolSlot) : (State.takeSlot s mpn p).2.Inv := by
  unfold State.takeSlot
  dsimp only
  repeat' first | with_reducible assumption | with_reducible apply State.freeSlot_inv | with_reducible apply State.onMap_inv | split

theorem State.blankPage_inv {s : State} (hi : s.Inv) (mpn : Nat) : (State.blankPage s mpn).2.Inv := by
  unfold State.blankPage
  repeat' first | with_reducible assumption | with_reducible apply State.takeSlot_inv

theorem State.putLine_inv {s : State} (hi : s.Inv) (set way : Nat) (l : TcLine) : (State.putLine s set way l).Inv := by
  unfold State.putLine
  repeat' first | with_reducible assumption | with_reducible apply State.onTc_inv

theorem State.pin_inv {s : State} (hi : s.Inv) (mpn : Nat) (up : Bool) : (State.pin s mpn up).Inv := by
  unfold State.pin
  repeat' first | with_reducible assumption | with_reducible apply State.onSlot_inv

theorem State.writeBack_inv {s : State} (hi : s.Inv) (set way : Nat) : (State.writeBack s set way).Inv := by
  unfold State.writeBack
  dsimp only
  repeat' first
    | with_reducible assumption | with_reducible apply State.onSlot_inv | with_reducible apply State.putLine_inv
    | with_reducible apply State.pin_inv | with_reducible apply State.onTc_inv | split

theorem State.dropLine_inv {s : State} (hi : s.Inv) (set way : Nat) : (State.dropLine s set way).Inv := by
  unfold State.dropLine
  dsimp only
  repeat' first
    | with_reducible assumption | with_reducible apply State.writeBack_inv | with_reducible apply State.pin_inv
    | with_reducible apply State.putLine_inv | split

theorem State.writeBackPage_inv {s : State} (hi : s.Inv) (mpn : Nat) : (State.writeBackPage s mpn).Inv := by
  unfold State.writeBackPage
  repeat' first | with_reducible assumption | with_reducible apply State.writeBack_inv | split | refine State.foldl_inv ?_ (fun _ _ hi => ?_) _

theorem State.victim_inv {s t : State} (hi : s.Inv) {set : Nat} {ok : Nat → Bool} {w : Nat} (h : s.victim set ok = some (w, t)) : t.Inv := by
  unfold State.victim at h
  dsimp only at h
  split at h
  · cases h; exact hi
  · split at h
    · cases h
    · cases h
      split
      · exact hi
      · exact State.foldl_inv hi (fun _ _ h => State.putLine_inv h _ _ _) _

theorem State.startFill_inv {s : State} (hi : s.Inv) (la ns : Nat) (streaming lock : Bool) (parked : Option Nat) : (State.startFill s la ns streaming lock parked).Inv := by
  unfold State.startFill
  dsimp only
  split
  · exact State.onTc_inv hi
  · split
    · split
      · exact hi
      · exact State.onTc_inv hi
    · split
      · exact State.onTc_inv (State.pin_inv hi _ _)
      · rename_i hp
        refine State.onTc_inv (State.pin_inv (State.putLine_inv (State.dropLine_inv ?_ _ _) _ _ _) _ _)
        split at hp
        · next hr => cases hp; exact State.victim_inv hi hr
        · split at hp
          · exact State.victim_inv hi hp
          · cases hp

theorem State.markFetch_inv {s : State} (hi : s.Inv) (mpn : Nat) : (State.markFetch s mpn).Inv := by
  unfold State.markFetch
  repeat' first | with_reducible assumption | with_reducible apply State.onMap_inv

theorem State.touch_inv {s : State} (hi : s.Inv) (ns lba : Nat) (streaming : Bool) : (State.touch s ns lba streaming).Inv := by
  unfold State.touch
  dsimp only
  repeat' first | with_reducible assumption | with_reducible apply State.putLine_inv | split

theorem State.retAppend_inv {s : State} (hi : s.Inv) (ns minute wseq : Nat) : (State.retAppend s ns minute wseq).Inv := by
  unfold State.retAppend
  dsimp only
  repeat' first
    | with_reducible assumption | with_reducible apply State.onCip_inv | with_reducible apply State.event_inv | split | exact fun _ => ⟨rfl, rfl⟩
    | exact fun _ h => h | simp

theorem State.retCount_inv {s : State} (hi : s.Inv) (ns wseq n : Nat) : (State.retCount s ns wseq n).Inv := by
  unfold State.retCount
  repeat' first | with_reducible assumption | with_reducible apply State.onCip_inv | split | exact fun _ => ⟨rfl, rfl⟩ | exact fun _ h => h | simp

theorem State.keyEmpty_inv {s : State} (hi : s.Inv) (k : Nat) : (State.keyEmpty s k).Inv := by
  unfold State.keyEmpty
  dsimp only
  repeat' first | with_reducible assumption | with_reducible apply State.onCip_inv | split | exact fun _ => ⟨rfl, rfl⟩ | exact fun _ h => h | simp

theorem State.keyCount_inv {s : State} (hi : s.Inv) (k : Nat) (up : Bool) : (State.keyCount s k up).Inv := by
  unfold State.keyCount
  dsimp only
  repeat' first
    | with_reducible assumption | with_reducible apply State.onCip_inv | with_reducible apply State.keyEmpty_inv | split
    | exact fun _ => ⟨rfl, rfl⟩ | exact fun _ h => h | simp

theorem State.onUnit_inv {s : State} (hi : s.Inv) (u : Nat) (g : UnitRec → UnitRec) : (State.onUnit s u g).Inv := by
  unfold State.onUnit
  repeat' first | with_reducible assumption | with_reducible apply State.onLog_inv | split | exact fun _ => ⟨rfl, rfl⟩

theorem State.settleEmptied_inv {s : State} (hi : s.Inv) (from_ : Nat) : (State.settleEmptied s from_).Inv := by
  unfold State.settleEmptied
  repeat' first | with_reducible assumption | with_reducible apply State.onLog_inv | split | exact fun _ => ⟨rfl, rfl⟩

theorem State.countLoc_inv {s : State} (hi : s.Inv) (e : MapEntry) (up : Bool) (key : Option Nat) : (State.countLoc s e up key).Inv := by
  unfold State.countLoc
  dsimp only
  repeat' first
    | with_reducible assumption | with_reducible apply State.onUnit_inv | with_reducible apply State.onLog_inv
    | with_reducible apply State.keyCount_inv | split | exact fun _ => ⟨rfl, rfl⟩

theorem State.putEntry_inv {s : State} (hi : s.Inv) (ns lba : Nat) (e : MapEntry) : (State.putEntry s ns lba e).Inv := by
  unfold State.putEntry
  dsimp only
  repeat' first
    | with_reducible assumption | with_reducible apply State.onSlot_inv | with_reducible apply State.onGmd_inv
    | with_reducible apply State.putLine_inv | with_reducible apply State.pin_inv | with_reducible apply State.onTc_inv | split

theorem State.readyPage_inv {s : State} (hi : s.Inv) (mpn : Nat) : (State.readyPage s mpn).2.Inv := by
  unfold State.readyPage
  dsimp only
  repeat' first | with_reducible assumption | with_reducible apply State.blankPage_inv | split

theorem State.readyPages_inv {s : State} (hi : s.Inv) {fetch : State → Nat → State} (hf : ∀ s m, s.Inv → (fetch s m).Inv) (pages : List Nat) : (State.readyPages s fetch pages).2.Inv := by
  unfold State.readyPages
  dsimp only
  refine State.foldl_inv ?_ (fun _ _ h => State.pin_inv h _ _) _
  refine foldl_triple_inv hi (fun a x h => ?_) pages
  have hr := State.readyPage_inv h x
  repeat' first | with_reducible assumption | with_reducible apply State.pin_inv | exact hf _ _ hr | split

theorem State.applyEntry_inv {s : State} (hi : s.Inv) (ns lba : Nat) (e : MapEntry) (key : Option Nat) : (State.applyEntry s ns lba e key).Inv := by
  unfold State.applyEntry
  dsimp only
  repeat' first
    | with_reducible assumption | with_reducible apply State.countLoc_inv | with_reducible apply State.putEntry_inv
    | with_reducible apply State.onMap_inv

theorem State.stampPage_inv {s : State} (hi : s.Inv) (mpn jpos : Nat) : (State.stampPage s mpn jpos).Inv := by
  unfold State.stampPage
  repeat' first | with_reducible assumption | with_reducible apply State.onSlot_inv

theorem State.installPage_inv {s : State} (hi : s.Inv) (mpn : Nat) (loc : Loc) (jpos : Nat) (entries : Tab MapEntry) : (State.installPage s mpn loc jpos entries).2.Inv := by
  unfold State.installPage
  repeat' first | with_reducible assumption | with_reducible apply State.takeSlot_inv

theorem State.checkSpace_inv {s : State} (hi : s.Inv) : (State.checkSpace s).Inv := by
  unfold State.checkSpace
  dsimp only
  repeat' first | with_reducible assumption | with_reducible apply State.onFn_inv | with_reducible apply State.eventState_inv | split

theorem State.checkStrike_inv {s : State} (hi : s.Inv) : (State.checkStrike s).Inv := by
  unfold State.checkStrike
  dsimp only
  repeat' first
    | with_reducible assumption | with_reducible apply State.onLog_inv | with_reducible apply State.eventState_inv | split
    | exact fun _ => ⟨rfl, rfl⟩

theorem State.appendRec_inv {s : State} (hi : s.Inv) (r : JRec) : (State.appendRec s r).Inv := by
  unfold State.appendRec
  dsimp only
  repeat' first
    | with_reducible assumption | with_reducible apply State.onLog_inv | with_reducible apply State.journal_inv
    | with_reducible apply State.emit_inv | split | exact fun _ => ⟨rfl, rfl⟩

theorem State.onStream_inv {s : State} (hi : s.Inv) (k : Nat) (g : Stream → Stream) : (State.onStream s k g).Inv := by
  unfold State.onStream
  repeat' first | with_reducible assumption | with_reducible apply State.onLog_inv | split | exact fun _ => ⟨rfl, rfl⟩ | exact fun _ h => h | simp

theorem State.openUnit_inv {s : State} (hi : s.Inv) (k u : Nat) (start : Nat) : (State.openUnit s k u start).Inv := by
  unfold State.openUnit
  dsimp only
  repeat' first
    | with_reducible assumption | with_reducible apply State.onUnit_inv | with_reducible apply State.onMed_inv
    | with_reducible apply State.onReb_inv | with_reducible apply State.onStream_inv | split | exact fun _ => ⟨rfl, rfl⟩

theorem State.addExc_inv {s : State} (hi : s.Inv) (u : Nat) (e : ExcEntry) : (State.addExc s u e).Inv := by
  unfold State.addExc
  repeat' first | with_reducible assumption | with_reducible apply State.onReb_inv

theorem State.tryXor_inv {s : State} (hi : s.Inv) (u b row : Nat) : (State.tryXor s u b row).Inv := by
  unfold State.tryXor
  dsimp only
  repeat' first
    | with_reducible assumption | with_reducible apply State.onLog_inv | split | refine State.issue_inv ?_ (by assumption)
    | exact fun _ => ⟨rfl, rfl⟩

theorem State.intoRow_inv {s : State} (hi : s.Inv) (u : Nat) (page : Loc) (payloads : List Payload) : (State.intoRow s u page payloads).Inv := by
  unfold State.intoRow
  dsimp only
  repeat' first
    | with_reducible assumption | with_reducible apply State.onLog_inv | with_reducible apply State.tryXor_inv | split | exact fun _ => ⟨rfl, rfl⟩

theorem State.firstErase_inv {s : State} (hi : s.Inv) (b die block : Nat) : (State.firstErase s b die block).2.Inv := by
  unfold State.firstErase
  dsimp only
  repeat' first | with_reducible assumption | split | refine State.issue_inv ?_ (by assumption) | with_reducible apply State.issue_getD_inv

theorem State.kickPads_inv {s : State} (hi : s.Inv) : (State.kickPads s).Inv := by
  unfold State.kickPads
  dsimp only
  repeat' first
    | with_reducible assumption | with_reducible apply State.onLog_inv | with_reducible apply State.intoRow_inv | split
    | refine State.issue_inv ?_ (by assumption) | refine State.foldl_inv ?_ (fun _ _ hi => ?_) _ | exact fun _ => ⟨rfl, rfl⟩

theorem State.tryMember_inv {s : State} (hi : s.Inv) (id r : Nat) : (State.tryMember s id r).Inv := by
  unfold State.tryMember
  dsimp only
  repeat' first
    | with_reducible assumption | with_reducible apply State.tryXor_inv | with_reducible apply State.firstErase_inv
    | with_reducible apply State.onLog_inv | with_reducible apply State.intoRow_inv | split | refine State.issue_inv ?_ (by assumption)
    | refine State.inv_of_pair (by assumption) ?_ | exact fun _ => ⟨rfl, rfl⟩

theorem State.kickMembers_inv {s : State} (hi : s.Inv) : (State.kickMembers s).Inv := by
  unfold State.kickMembers
  repeat' first
    | with_reducible assumption | with_reducible apply State.tryMember_inv | with_reducible apply State.kickPads_inv | split
    | refine State.foldl_inv ?_ (fun _ _ hi => ?_) _

theorem State.padRow_inv {s : State} (hi : s.Inv) (u b n : Nat) : (State.padRow s u b n).Inv := by
  induction n generalizing s with
  | zero => exact hi
  | succ n ih =>
    unfold State.padRow
    dsimp only
    split
    · exact hi
    · split
      · exact hi
      · split
        · exact hi
        · next h => exact ih (State.intoRow_inv (State.onUnit_inv (State.issue_inv hi h) _ _) _ _ _)

theorem State.finishRows_inv {s : State} (hi : s.Inv) (u : Nat) : (State.finishRows s u).Inv := by
  unfold State.finishRows
  repeat' first | with_reducible assumption | with_reducible apply State.padRow_inv | split | refine State.foldl_inv ?_ (fun _ _ hi => ?_) _

theorem State.closeUnit_inv {s : State} (hi : s.Inv) (k : Nat) : (State.closeUnit s k).Inv := by
  unfold State.closeUnit
  repeat' first
    | with_reducible assumption | with_reducible apply State.openUnit_inv | with_reducible apply State.onUnit_inv
    | with_reducible apply State.onStream_inv | with_reducible apply State.finishRows_inv | split

theorem State.needUnit_inv {s : State} (hi : s.Inv) (k : Nat) : (State.needUnit s k).2.Inv := by
  unfold State.needUnit
  repeat' first | with_reducible assumption | with_reducible apply State.openUnit_inv | split

theorem State.sjShip_inv {s : State} (hi : s.Inv) (r : SjRec) : (State.sjShip s r).Inv := by
  unfold State.sjShip
  repeat' first | with_reducible assumption | with_reducible apply State.emit_inv | split

theorem State.takeMembers_inv {s : State} (hi : s.Inv) (k u skip : Nat) (pages : List Loc) (secs : List BufSector) (padded : Bool) : (State.takeMembers s k u skip pages secs padded).Inv := by
  unfold State.takeMembers
  dsimp only
  repeat' first
    | with_reducible assumption | with_reducible apply State.addExc_inv | with_reducible apply State.onUnit_inv
    | with_reducible apply State.onReb_inv | with_reducible apply State.onStream_inv | with_reducible apply State.onLog_inv
    | with_reducible apply State.sjShip_inv | with_reducible apply State.tryMember_inv | split | refine State.foldl_inv ?_ (fun _ _ hi => ?_) _
    | exact fun _ => ⟨rfl, rfl⟩

theorem State.closeStripe_inv {s : State} (hi : s.Inv) (k : Nat) : (State.closeStripe s k).Inv := by
  unfold State.closeStripe
  dsimp only
  repeat' first
    | with_reducible assumption | with_reducible apply State.go_inv | with_reducible apply State.takeMembers_inv
    | with_reducible apply State.needUnit_inv | with_reducible apply State.checkSpace_inv | with_reducible apply State.openUnit_inv
    | with_reducible apply State.closeUnit_inv | split | refine State.inv_of_pair (by assumption) ?_ | exact fun _ => ⟨rfl, rfl⟩
    | exact fun _ h => h | simp

theorem State.placeSectors_inv {s : State} (hi : s.Inv) (k : Nat) (secs : List BufSector) : (State.placeSectors s k secs).Inv := by
  unfold State.placeSectors
  dsimp only
  repeat' first
    | with_reducible assumption | with_reducible apply State.closeStripe_inv | with_reducible apply State.onStream_inv
    | with_reducible apply State.checkStrike_inv | split

theorem State.closeFull_inv {s : State} (hi : s.Inv) : (State.closeFull s).Inv := by
  unfold State.closeFull
  repeat' first | with_reducible assumption | with_reducible apply State.closeStripe_inv | split | refine State.foldl_inv ?_ (fun _ _ hi => ?_) _

theorem State.closeAll_inv {s : State} (hi : s.Inv) : (State.closeAll s).Inv := by
  unfold State.closeAll
  repeat' first | with_reducible assumption | with_reducible apply State.closeStripe_inv | split | refine State.foldl_inv ?_ (fun _ _ hi => ?_) _

theorem State.writeJournalPage_inv {s : State} (hi : s.Inv) : (State.writeJournalPage s).Inv := by
  unfold State.writeJournalPage
  dsimp only
  repeat' first
    | with_reducible assumption | with_reducible apply State.journal_inv | with_reducible apply State.onLog_inv
    | with_reducible apply State.placeSectors_inv | split | exact fun _ => ⟨rfl, rfl⟩

theorem State.fullPages_inv {s : State} (hi : s.Inv) : (State.fullPages s).Inv := by
  unfold State.fullPages
  repeat' first | with_reducible assumption | with_reducible apply State.journal_inv | with_reducible apply State.writeJournalPage_inv | split

theorem State.flushTail_inv {s : State} (hi : s.Inv) (n : Nat) : (State.flushTail n s).Inv := by
  induction n generalizing s with
  | zero => exact State.closeStripe_inv hi 61
  | succ n ih =>
    rw [State.flushTail]
    split
    · exact ih (State.writeJournalPage_inv hi)
    · exact State.closeStripe_inv hi 61

theorem State.journal_inv {s : State} (hi : s.Inv) (r : JRec) : (State.journal s r).Inv := by
  unfold State.journal
  repeat' first | with_reducible assumption | with_reducible apply State.appendRec_inv | with_reducible apply State.fullPages_inv

theorem State.issueSys_inv {s t : State} (hi : s.Inv) {b die page : Nat} {user : OpFor} {frames : List Payload} (h : s.issueSys b die page user frames = some t) : t.Inv := by
  unfold State.issueSys at h
  dsimp only at h
  refine State.issue_inv ?_ h
  split
  · exact State.issue_getD_inv hi _ _ _ _ _
  · exact hi

theorem State.trySj_inv {s : State} (hi : s.Inv) : (State.trySj s).Inv := by
  unfold State.trySj
  dsimp only
  repeat' first
    | with_reducible assumption | with_reducible apply State.onLog_inv | split | refine State.issueSys_inv ?_ (by assumption)
    | refine State.foldl_inv ?_ (fun _ _ hi => ?_) _ | exact fun _ => ⟨rfl, rfl⟩

theorem State.moveRing_inv {s : State} (hi : s.Inv) (b : Nat) : (State.moveRing s b).Inv := by
  unfold State.moveRing
  dsimp only
  repeat' first
    | with_reducible assumption | with_reducible apply State.onLog_inv | with_reducible apply State.trySj_inv | split | exact fun _ => ⟨rfl, rfl⟩

theorem State.closeSjPage_inv {s : State} (hi : s.Inv) : (State.closeSjPage s).Inv := by
  unfold State.closeSjPage
  repeat' first
    | with_reducible assumption | with_reducible apply State.onLog_inv | with_reducible apply State.trySj_inv | split | exact fun _ => ⟨rfl, rfl⟩

theorem State.sjWrite_inv {s : State} (hi : s.Inv) (r : SjRec) : (State.sjWrite s r).Inv := by
  unfold State.sjWrite
  dsimp only
  repeat' first
    | with_reducible assumption | with_reducible apply State.sjShip_inv | with_reducible apply State.onLog_inv
    | with_reducible apply State.closeSjPage_inv | split | exact fun _ => ⟨rfl, rfl⟩

theorem State.tryHalf_inv {s : State} (hi : s.Inv) : (State.tryHalf s).Inv := by
  unfold State.tryHalf
  dsimp only
  repeat' first
    | with_reducible assumption | with_reducible apply State.onLog_inv | split | refine State.issue_inv ?_ (by assumption)
    | with_reducible apply State.issue_getD_inv | refine State.foldl_inv ?_ (fun _ _ hi => ?_) _ | exact fun _ => ⟨rfl, rfl⟩ | exact fun _ h => h
    | simp

theorem State.layRow_inv {s : State} (hi : s.Inv) (i : Nat) (r : StrikeRow) : (State.layRow s i r).Inv := by
  unfold State.layRow
  dsimp only
  repeat' first
    | with_reducible assumption | with_reducible apply State.onLog_inv | split | refine State.foldl_inv ?_ (fun _ _ hi => ?_) _
    | exact fun _ => ⟨rfl, rfl⟩

theorem State.issueStrike_inv {s : State} (hi : s.Inv) (b : Nat) (l : Loc) (header : Nat) (frames : List Payload) : (State.issueStrike s b l header frames).Inv := by
  unfold State.issueStrike
  dsimp only
  repeat' first | with_reducible assumption | split | refine State.issue_inv ?_ (by assumption) | with_reducible apply State.issue_getD_inv

theorem State.issueRow_inv {s : State} (hi : s.Inv) (r : StrikeRow) : (State.issueRow s r).Inv := by
  unfold State.issueRow
  dsimp only
  repeat' first | with_reducible assumption | with_reducible apply State.issueStrike_inv | split | refine State.foldl_inv ?_ (fun _ _ hi => ?_) _

theorem State.strikeDone_inv {s : State} (hi : s.Inv) : (State.strikeDone s).Inv := by
  unfold State.strikeDone
  repeat' first
    | with_reducible assumption | with_reducible apply State.onLog_inv | with_reducible apply State.emit_inv | split | exact fun _ => ⟨rfl, rfl⟩

theorem State.strikeResetDies_inv {s : State} (hi : s.Inv) : (State.strikeResetDies s).Inv := by
  unfold State.strikeResetDies
  dsimp only
  repeat' first
    | with_reducible assumption | with_reducible apply State.onLog_inv | split | refine State.issue_inv ?_ (by assumption)
    | refine State.foldl_inv ?_ (fun _ _ hi => ?_) _ | exact fun _ => ⟨rfl, rfl⟩

theorem State.strikeKick_inv {s : State} (hi : s.Inv) : (State.strikeKick s).Inv := by
  unfold State.strikeKick
  dsimp only
  repeat' first
    | with_reducible assumption | with_reducible apply State.strikeResetDies_inv | with_reducible apply State.strikeDone_inv
    | with_reducible apply State.layRow_inv | with_reducible apply State.issueRow_inv | split

theorem State.strikeStep_inv {s : State} (hi : s.Inv) (b : Nat) (op : SheetOp) : (State.strikeStep s b op).Inv := by
  unfold State.strikeStep
  repeat' first
    | with_reducible assumption | with_reducible apply State.strikeKick_inv | with_reducible apply State.onLog_inv | split
    | exact fun _ => ⟨rfl, rfl⟩

theorem State.strikeRedo_inv {s : State} (hi : s.Inv) (b : Nat) (op : SheetOp) : (State.strikeRedo s b op).Inv := by
  unfold State.strikeRedo
  dsimp only
  repeat' first
    | with_reducible assumption | with_reducible apply State.onLog_inv | with_reducible apply State.strikeKick_inv | split
    | exact fun _ => ⟨rfl, rfl⟩

theorem State.settleChains_inv {s : State} (hi : s.Inv) (before : List JSlot) : (State.settleChains s before).Inv := by
  unfold State.settleChains
  repeat' first
    | with_reducible assumption | with_reducible apply State.journal_inv | with_reducible apply State.onLog_inv | split
    | refine State.foldl_inv ?_ (fun _ _ hi => ?_) _ | exact fun _ => ⟨rfl, rfl⟩

theorem State.settlePages_inv {s : State} (hi : s.Inv) (before : List JSlot) : (State.settlePages s before).Inv := by
  unfold State.settlePages
  repeat' first
    | with_reducible assumption | with_reducible apply State.journal_inv | with_reducible apply State.onMap_inv | split
    | refine State.foldl_inv ?_ (fun _ _ hi => ?_) _

theorem State.settleJournal_inv {s : State} (hi : s.Inv) : (State.settleJournal s).Inv := by
  unfold State.settleJournal
  dsimp only
  repeat' first
    | with_reducible assumption | with_reducible apply State.journal_inv | with_reducible apply State.onLog_inv
    | with_reducible apply State.settleChains_inv | with_reducible apply State.settlePages_inv | with_reducible apply State.sjShip_inv
    | with_reducible apply State.checkStrike_inv | split | refine State.foldl_inv ?_ (fun _ _ hi => ?_) _ | exact fun _ => ⟨rfl, rfl⟩

theorem State.noteAck_inv {s : State} (hi : s.Inv) (c : Cmd) : (State.noteAck s c).Inv := by
  unfold State.noteAck
  dsimp only
  repeat' first | with_reducible assumption | with_reducible apply State.onLog_inv | split | exact fun _ => ⟨rfl, rfl⟩

theorem State.tryAck_inv {s : State} (hi : s.Inv) (ord : Nat) : (State.tryAck s ord).Inv := by
  unfold State.tryAck
  dsimp only
  repeat' first
    | with_reducible assumption | with_reducible apply State.noteAck_inv | with_reducible apply State.onCmd_inv
    | with_reducible apply State.finishOk_inv | split

theorem State.tryFlush_inv {s : State} (hi : s.Inv) (ord : Nat) : (State.tryFlush s ord).Inv := by
  unfold State.tryFlush
  dsimp only
  repeat' first | with_reducible assumption | with_reducible apply State.settle_inv | with_reducible apply State.finishOk_inv | split

theorem State.tryAll_inv {s : State} (hi : s.Inv) : (State.tryAll s).Inv := by
  unfold State.tryAll
  repeat' first
    | with_reducible assumption | with_reducible apply State.tryAck_inv | with_reducible apply State.tryFlush_inv | split
    | refine State.foldl_inv ?_ (fun _ _ hi => ?_) _

theorem State.onBlock_inv {s : State} (hi : s.Inv) (b die block : Nat) (g : BlockRec → BlockRec) : (State.onBlock s b die block g).Inv := by
  unfold State.onBlock
  repeat' first | with_reducible assumption | with_reducible apply State.onMed_inv | split | exact fun _ => ⟨rfl, rfl⟩

theorem State.monitor_inv {s : State} (hi : s.Inv) (source row b die value : Nat) (past back : Bool) : (State.monitor s source row b die value past back).Inv := by
  unfold State.monitor
  dsimp only
  repeat' first
    | with_reducible assumption | with_reducible apply State.onMed_inv | with_reducible apply State.event_inv | split | exact fun _ => ⟨rfl, rfl⟩

theorem State.checkBay_inv {s : State} (hi : s.Inv) (b : Nat) : (State.checkBay s b).Inv := by
  unfold State.checkBay
  dsimp only
  repeat' first | with_reducible assumption | with_reducible apply State.monitor_inv

theorem State.queueRewrite_inv {s : State} (hi : s.Inv) (b die block : Nat) : (State.queueRewrite s b die block).Inv := by
  unfold State.queueRewrite
  dsimp only
  repeat' first
    | with_reducible assumption | with_reducible apply State.onReb_inv | with_reducible apply State.onUnit_inv
    | with_reducible apply State.event_inv | split

theorem State.countRead_inv {s : State} (hi : s.Inv) (b die block : Nat) : (State.countRead s b die block).Inv := by
  unfold State.countRead
  dsimp only
  repeat' first
    | with_reducible assumption | with_reducible apply State.onBlock_inv | with_reducible apply State.event_inv
    | with_reducible apply State.queueRewrite_inv | split

theorem State.mediaRec_inv {s : State} (hi : s.Inv) (b die block kind row unit : Nat) : (State.mediaRec s b die block kind row unit).Inv := by
  unfold State.mediaRec
  repeat' first | with_reducible assumption | with_reducible apply State.onMed_inv | split | exact fun _ => ⟨rfl, rfl⟩

theorem State.loseModule_inv {s : State} (hi : s.Inv) (b : Nat) : (State.loseModule s b).Inv := by
  unfold State.loseModule
  dsimp only
  repeat' first
    | with_reducible assumption | with_reducible apply State.setMod_inv | with_reducible apply State.event_inv
    | with_reducible apply State.onPort_inv | with_reducible apply State.addLoss_inv | with_reducible apply State.onLog_inv | split
    | exact fun _ => ⟨rfl, rfl⟩

theorem State.groupRecs_inv {s : State} (hi : s.Inv) (b die kind : Nat) (row : State → Nat → Nat) : (State.groupRecs s b die kind row).Inv := by
  unfold State.groupRecs
  repeat' first | with_reducible assumption | with_reducible apply State.mediaRec_inv | split | refine State.foldl_inv ?_ (fun _ _ hi => ?_) _

theorem State.retireDie_inv {s : State} (hi : s.Inv) (b die : Nat) : (State.retireDie s b die).Inv := by
  unfold State.retireDie
  dsimp only
  repeat' first
    | with_reducible assumption | with_reducible apply State.groupRecs_inv | with_reducible apply State.onMed_inv
    | with_reducible apply State.addLoss_inv | with_reducible apply State.event_inv | with_reducible apply State.loseModule_inv
    | with_reducible apply State.checkBay_inv | with_reducible apply State.checkSpace_inv | split | refine State.foldl_inv ?_ (fun _ _ hi => ?_) _
    | exact fun _ => ⟨rfl, rfl⟩

theorem State.growBad_inv {s : State} (hi : s.Inv) (b die block kind row : Nat) : (State.growBad s b die block kind row).Inv := by
  unfold State.growBad
  dsimp only
  repeat' first
    | with_reducible assumption | with_reducible apply State.mediaRec_inv | with_reducible apply State.onBlock_inv
    | with_reducible apply State.retireDie_inv | with_reducible apply State.checkBay_inv | split

theorem State.rowWithoutXor_inv {s : State} (hi : s.Inv) (u b row : Nat) : (State.rowWithoutXor s u b row).Inv := by
  unfold State.rowWithoutXor
  dsimp only
  repeat' first
    | with_reducible assumption | with_reducible apply State.mediaRec_inv | with_reducible apply State.event_inv
    | with_reducible apply State.onUnit_inv

theorem State.dropProbes_inv {s : State} (hi : s.Inv) (b die block : Nat) : (State.dropProbes s b die block).Inv := by
  unfold State.dropProbes
  dsimp only
  repeat' first
    | with_reducible assumption | with_reducible apply State.onMed_inv | with_reducible apply State.onHealth_inv | split
    | exact fun _ => ⟨rfl, rfl⟩

theorem State.blockErased_inv {s : State} (hi : s.Inv) (b die block : Nat) : (State.blockErased s b die block).Inv := by
  unfold State.blockErased
  repeat' first | with_reducible assumption | with_reducible apply State.dropProbes_inv | with_reducible apply State.onBlock_inv

theorem State.blockProgrammed_inv {s : State} (hi : s.Inv) (b die block : Nat) : (State.blockProgrammed s b die block).Inv := by
  unfold State.blockProgrammed
  dsimp only
  repeat' first | with_reducible assumption | with_reducible apply State.onBlock_inv

theorem State.writeSys_inv {s : State} (hi : s.Inv) (l : List (Nat × Nat)) : (State.writeSys s l).Inv := by
  unfold State.writeSys
  dsimp only
  repeat' first
    | with_reducible assumption | with_reducible apply State.onMap_inv | with_reducible apply State.emit_inv
    | with_reducible apply State.placeSectors_inv | split | refine State.foldl_inv ?_ (fun _ _ hi => ?_) _

theorem State.sysAgain_inv {s : State} (hi : s.Inv) (mpn : Nat) : (State.sysAgain s mpn).Inv := by
  unfold State.sysAgain
  repeat' first | with_reducible assumption | with_reducible apply State.onMap_inv

theorem State.finishSys_inv {s : State} (hi : s.Inv) : (State.finishSys s).Inv := by
  unfold State.finishSys
  dsimp only
  repeat' first | with_reducible assumption | with_reducible apply State.closeStripe_inv | with_reducible apply State.flushTail_inv

theorem State.pushDir_inv {s : State} (hi : s.Inv) : (State.pushDir s).Inv := by
  unfold State.pushDir
  repeat' first | with_reducible assumption | with_reducible apply State.writeSys_inv | with_reducible apply State.finishSys_inv

theorem State.pushKey_inv {s : State} (hi : s.Inv) (slot : Nat) (k : KeySlot) : (State.pushKey s slot k).Inv := by
  unfold State.pushKey
  repeat' first | with_reducible assumption | with_reducible apply State.writeSys_inv | with_reducible apply State.finishSys_inv | split

theorem State.keysFrom_inv {s : State} (hi : s.Inv) (pages : Tab Nat) : (State.keysFrom s pages).Inv := by
  unfold State.keysFrom
  dsimp only
  repeat' first
    | with_reducible assumption | with_reducible apply State.onCip_inv | split | refine State.foldl_inv ?_ (fun _ _ hi => ?_) _
    | exact fun _ => ⟨rfl, rfl⟩ | exact fun _ h => h | simp

theorem State.retFrom_inv {s : State} (hi : s.Inv) (pages : Tab Nat) : (State.retFrom s pages).Inv := by
  unfold State.retFrom
  dsimp only
  repeat' first
    | with_reducible assumption | with_reducible apply State.onCip_inv | split | refine State.foldl_inv ?_ (fun _ _ hi => ?_) _
    | exact fun _ => ⟨rfl, rfl⟩ | exact fun _ h => h | simp

theorem State.mediaFrom_inv {s : State} (hi : s.Inv) (pages : Tab Nat) : (State.mediaFrom s pages).Inv := by
  unfold State.mediaFrom
  dsimp only
  repeat' first
    | with_reducible assumption | with_reducible apply State.onMed_inv | split | refine State.foldl_inv ?_ (fun _ _ hi => ?_) _
    | exact fun _ => ⟨rfl, rfl⟩

theorem State.lossFromMedia_inv {s : State} (hi : s.Inv) : (State.lossFromMedia s).Inv := by
  unfold State.lossFromMedia
  repeat' first | with_reducible assumption | with_reducible apply State.onReb_inv

theorem State.tookSysPage_inv {s : State} (hi : s.Inv) (mpn : Nat) (d : Sector) : (State.tookSysPage s mpn d).Inv := by
  unfold State.tookSysPage
  dsimp only
  repeat' first
    | with_reducible assumption | with_reducible apply State.onMap_inv | with_reducible apply State.onReb_inv
    | with_reducible apply State.mediaFrom_inv | with_reducible apply State.keysFrom_inv | with_reducible apply State.retFrom_inv | split

theorem State.setResult_inv {s : State} (hi : s.Inv) (ord off : Nat) (r : RdResult) : (State.setResult s ord off r).Inv := by
  unfold State.setResult
  repeat' first | with_reducible assumption | with_reducible apply State.onCmd_inv

theorem State.queueProbe_inv {s : State} (hi : s.Inv) (r : CwRead) : (State.queueProbe s r).Inv := by
  unfold State.queueProbe
  dsimp only
  repeat' first
    | with_reducible assumption | with_reducible apply State.onMed_inv | with_reducible apply State.onHealth_inv | split
    | exact fun _ => ⟨rfl, rfl⟩

theorem State.endProbe_inv {s : State} (hi : s.Inv) (l : Loc) : (State.endProbe s l).Inv := by
  unfold State.endProbe
  repeat' first | with_reducible assumption | with_reducible apply State.onMed_inv | split | exact fun _ => ⟨rfl, rfl⟩

theorem State.tryRead_inv {s : State} (hi : s.Inv) (job : Nat) : (State.tryRead s job).Inv := by
  unfold State.tryRead
  dsimp only
  repeat' first
    | with_reducible assumption | with_reducible apply State.countRead_inv | with_reducible apply State.onRd_inv | split
    | refine State.issue_inv ?_ (by assumption)

theorem State.toDecode_inv {s : State} (hi : s.Inv) (job b : Nat) : (State.toDecode s job b).Inv := by
  unfold State.toDecode
  repeat' first | with_reducible assumption | with_reducible apply State.onRd_inv

theorem State.kickDecodes_inv {s : State} (hi : s.Inv) : (State.kickDecodes s).Inv := by
  unfold State.kickDecodes
  repeat' first | with_reducible assumption | with_reducible apply State.toDecode_inv | split | refine State.foldl_inv ?_ (fun _ _ hi => ?_) _

theorem State.kickReads_inv {s : State} (hi : s.Inv) : (State.kickReads s).Inv := by
  unfold State.kickReads
  repeat' first | with_reducible assumption | with_reducible apply State.tryRead_inv | split | refine State.foldl_inv ?_ (fun _ _ hi => ?_) _

theorem State.newJob_inv {s : State} (hi : s.Inv) (loc : Loc) (user : RdFor) (host : Bool) : (State.newJob s loc user host).2.Inv := by
  unfold State.newJob
  dsimp only
  repeat' first | with_reducible assumption | with_reducible apply State.onRd_inv

theorem State.startSurvivors_inv {s : State} (hi : s.Inv) (job : Nat) (host : Bool) : (State.startSurvivors s job host).Inv := by
  unfold State.startSurvivors
  dsimp only
  repeat' first
    | with_reducible assumption | with_reducible apply State.newJob_inv | with_reducible apply State.tryRead_inv | split
    | refine State.inv_of_pair (by assumption) ?_ | refine State.foldl_inv ?_ (fun _ _ hi => ?_) _

theorem State.beginDieXor_inv {s : State} (hi : s.Inv) (job : Nat) (r : CwRead) : (State.beginDieXor s job r).Inv := by
  unfold State.beginDieXor
  dsimp only
  repeat' first | with_reducible assumption | with_reducible apply State.onRd_inv | with_reducible apply State.startSurvivors_inv | split

theorem State.beginCross_inv {s : State} (hi : s.Inv) (job : Nat) (r : CwRead) : (State.beginCross s job r).2.Inv := by
  unfold State.beginCross
  dsimp only
  repeat' first | with_reducible assumption | with_reducible apply State.onRd_inv | with_reducible apply State.startSurvivors_inv | split

theorem State.endJob_inv {s : State} (hi : s.Inv) (job : Nat) : (State.endJob s job).Inv := by
  unfold State.endJob
  repeat' first | with_reducible assumption | with_reducible apply State.onRd_inv

theorem State.poisonSector_inv {s : State} (hi : s.Inv) (ns lba : Nat) (loc : Loc) : (State.poisonSector s ns lba loc).Inv := by
  unfold State.poisonSector
  dsimp only
  repeat' first
    | with_reducible assumption | with_reducible apply State.onMap_inv | with_reducible apply State.applyEntry_inv
    | with_reducible apply State.journal_inv | with_reducible apply State.settleEmptied_inv | with_reducible apply State.stampPage_inv
    | with_reducible apply State.onReb_inv | split

theorem State.recordLost_inv {s : State} (hi : s.Inv) (loc : Loc) : (State.recordLost s loc).Inv := by
  unfold State.recordLost
  dsimp only
  repeat' first | with_reducible assumption | with_reducible apply State.onReb_inv | with_reducible apply State.setReb_inv | split

theorem State.tcLose_inv {s : State} (hi : s.Inv) (set way : Nat) : (State.tcLose s set way).Inv := by
  unfold State.tcLose
  dsimp only
  repeat' first | with_reducible assumption | with_reducible apply State.putLine_inv | split

theorem State.tcRebuild_inv {s : State} (hi : s.Inv) (set way la cause : Nat) : (State.tcRebuild s set way la cause).Inv := by
  unfold State.tcRebuild
  dsimp only
  repeat' first
    | with_reducible assumption | with_reducible apply State.journal_inv | with_reducible apply State.putLine_inv
    | with_reducible apply State.onTc_inv | with_reducible apply State.raise_inv | split

theorem State.tcFix_inv {s : State} (hi : s.Inv) (set way : Nat) (e : TcErr) : (State.tcFix s set way e).Inv := by
  unfold State.tcFix
  dsimp only
  repeat' first
    | with_reducible assumption | with_reducible apply State.putLine_inv | with_reducible apply State.onTc_inv
    | with_reducible apply State.tcRebuild_inv | with_reducible apply State.tcLose_inv | split

theorem State.tcFound_inv {s : State} (hi : s.Inv) (set way : Nat) (e : TcErr) : (State.tcFound s set way e).Inv := by
  unfold State.tcFound
  repeat' first | with_reducible assumption | with_reducible apply State.raise_inv | with_reducible apply State.tcFix_inv

theorem State.tcMend_inv {s : State} (hi : s.Inv) (set way : Nat) (e : Option TcErr) : (State.tcMend s set way e).Inv := by
  unfold State.tcMend
  repeat' first | with_reducible assumption | with_reducible apply State.tcFound_inv | split

theorem State.tcMendTags_inv {s : State} (hi : s.Inv) (set : Nat) : (State.tcMendTags s set).Inv := by
  unfold State.tcMendTags
  repeat' first | with_reducible assumption | with_reducible apply State.tcMend_inv | split | refine State.foldl_inv ?_ (fun _ _ hi => ?_) _

theorem State.tcMendLine_inv {s : State} (hi : s.Inv) (set : Nat) (w : Option Nat) : (State.tcMendLine s set w).Inv := by
  unfold State.tcMendLine
  repeat' first | with_reducible assumption | with_reducible apply State.tcMend_inv | split

theorem State.tcCheck_inv {s : State} (hi : s.Inv) (la : Nat) : (State.tcCheck s la).Inv := by
  unfold State.tcCheck
  dsimp only
  repeat' first | with_reducible assumption | with_reducible apply State.tcMendTags_inv | with_reducible apply State.tcMendLine_inv

theorem State.backLook_inv {s : State} (hi : s.Inv) (ns lba : Nat) : (State.backLook s ns lba).2.Inv := by
  unfold State.backLook
  dsimp only
  repeat' first | with_reducible assumption | with_reducible apply State.tcCheck_inv | with_reducible apply State.startFill_inv | split

theorem State.poisonPage_inv {s : State} (hi : s.Inv) (mpn : Nat) : (State.poisonPage s mpn).Inv := by
  unfold State.poisonPage
  dsimp only
  repeat' first
    | with_reducible assumption | with_reducible apply State.installPage_inv | with_reducible apply State.onMap_inv
    | with_reducible apply State.onTc_inv | with_reducible apply State.raise_inv

theorem State.takeWaits_inv {s : State} (hi : s.Inv) (mpn : Nat) : (State.takeWaits s mpn).2.Inv := by
  unfold State.takeWaits
  dsimp only
  repeat' first | with_reducible assumption | with_reducible apply State.onMap_inv

theorem State.placeReloc_inv {s : State} (hi : s.Inv) (u : Nat) (loc : Loc) (p : Payload) : (State.placeReloc s u loc p).Inv := by
  unfold State.placeReloc
  repeat' first | with_reducible assumption | with_reducible apply State.chargeBack_inv | with_reducible apply State.placeSectors_inv | split

theorem State.capCost_inv {s : State} (hi : s.Inv) (b die : Nat) : (State.capCost s b die).Inv := by
  unfold State.capCost
  dsimp only
  repeat' first
    | with_reducible assumption | with_reducible apply State.onHealth_inv | with_reducible apply State.onMed_inv
    | with_reducible apply State.monitor_inv | split | exact fun _ => ⟨rfl, rfl⟩

theorem State.patrolKeep_inv {s : State} (hi : s.Inv) (role k : Nat) (loc : Loc) (p : Option Payload) : (State.patrolKeep s role k loc p).Inv := by
  unfold State.patrolKeep
  repeat' first | with_reducible assumption | with_reducible apply State.onReb_inv

theorem State.deliver_inv {s : State} (hi : s.Inv) (fuel : Nat) (job : Nat) (res : Option Payload) : (State.deliver fuel s job res).Inv := by
  induction fuel generalizing s job res with
  | zero => exact hi
  | succ n ih =>
    unfold State.deliver
    dsimp only
    repeat' first
      | with_reducible assumption | with_reducible apply State.endJob_inv | with_reducible apply State.setResult_inv
      | with_reducible apply State.event_inv | with_reducible apply State.poisonSector_inv | with_reducible apply State.installPage_inv
      | with_reducible apply State.poisonPage_inv | with_reducible apply State.placeReloc_inv | with_reducible apply State.recordLost_inv
      | with_reducible apply State.onRd_inv | with_reducible apply State.beginCross_inv | with_reducible apply State.startSurvivors_inv
      | with_reducible apply State.onReb_inv | with_reducible apply State.patrolKeep_inv | with_reducible apply ih | split
      | refine State.inv_of_pair (by assumption) ?_ | refine State.foldl_inv ?_ (fun _ _ hi => ?_) _

theorem State.noteRecon_inv {s : State} (hi : s.Inv) (x : Loc) : (State.noteRecon s x).Inv := by
  unfold State.noteRecon
  dsimp only
  repeat' first | with_reducible assumption | with_reducible apply State.onMed_inv | split | exact fun _ => ⟨rfl, rfl⟩

theorem State.reconstruct_inv {s : State} (hi : s.Inv) (job : Nat) : (State.reconstruct s job).Inv := by
  unfold State.reconstruct
  dsimp only
  repeat' first
    | with_reducible assumption | with_reducible apply State.endProbe_inv | with_reducible apply State.endJob_inv
    | with_reducible apply State.onHealth_inv | with_reducible apply State.checkBay_inv | with_reducible apply State.queueRewrite_inv
    | with_reducible apply State.beginDieXor_inv | with_reducible apply State.deliver_inv | with_reducible apply State.beginCross_inv | split
    | refine State.inv_of_pair (by assumption) ?_

theorem State.readCw_inv {s : State} (hi : s.Inv) (loc : Loc) (user : RdFor) (host : Bool) : (State.readCw s loc user host).Inv := by
  unfold State.readCw
  dsimp only
  repeat' first
    | with_reducible assumption | with_reducible apply State.newJob_inv | with_reducible apply State.reconstruct_inv
    | with_reducible apply State.tryRead_inv | split

theorem State.needPage_inv {s : State} (hi : s.Inv) (mpn : Nat) (wait : Option MapWait) (host : Bool) : (State.needPage s mpn wait host).Inv := by
  unfold State.needPage
  dsimp only
  repeat' first
    | with_reducible assumption | with_reducible apply State.onMap_inv | with_reducible apply State.freeSlot_inv
    | with_reducible apply State.markFetch_inv | with_reducible apply State.readCw_inv | split

theorem State.kickPages_inv {s : State} (hi : s.Inv) : (State.kickPages s).Inv := by
  unfold State.kickPages
  dsimp only
  repeat' first | with_reducible assumption | with_reducible apply State.needPage_inv | split | refine State.foldl_inv ?_ (fun _ _ hi => ?_) _

theorem State.serveEntry_inv {s : State} (hi : s.Inv) (ord : Nat) (c : Cmd) (off : Nat) (e : MapEntry) : (State.serveEntry s ord c off e).Inv := by
  unfold State.serveEntry
  dsimp only
  repeat' first | with_reducible assumption | with_reducible apply State.setResult_inv | with_reducible apply State.readCw_inv | split

theorem State.serveSector_inv {s : State} (hi : s.Inv) (ord : Nat) (c : Cmd) (off : Nat) : (State.serveSector s ord c off).Inv := by
  unfold State.serveSector
  dsimp only
  repeat' first
    | with_reducible assumption | with_reducible apply State.setResult_inv | with_reducible apply State.tcCheck_inv
    | with_reducible apply State.startFill_inv | with_reducible apply State.needPage_inv | with_reducible apply State.touch_inv
    | with_reducible apply State.serveEntry_inv | split

theorem State.serveRead_inv {s : State} (hi : s.Inv) (ord : Nat) : (State.serveRead s ord).Inv := by
  unfold State.serveRead
  repeat' first | with_reducible assumption | with_reducible apply State.serveSector_inv | split | refine State.foldl_inv ?_ (fun _ _ hi => ?_) _

theorem State.serveAll_inv {s : State} (hi : s.Inv) (ords : List Nat) : (State.serveAll s ords).Inv := by
  unfold State.serveAll
  repeat' first | with_reducible assumption | with_reducible apply State.serveRead_inv | split | refine State.foldl_inv ?_ (fun _ _ hi => ?_) _

theorem State.kick_inv {s : State} (hi : s.Inv) : (State.kick s).Inv := by
  unfold State.kick
  dsimp only
  repeat' first
    | with_reducible assumption | with_reducible apply State.closeFull_inv | with_reducible apply State.kickMembers_inv
    | with_reducible apply State.trySj_inv | with_reducible apply State.tryXor_inv | with_reducible apply State.finishRows_inv
    | with_reducible apply State.kickDecodes_inv | with_reducible apply State.kickReads_inv | with_reducible apply State.kickPages_inv
    | with_reducible apply State.strikeKick_inv | split | refine State.foldl_inv ?_ (fun _ _ hi => ?_) _

theorem State.commitMapPage_inv {s : State} (hi : s.Inv) (loc : Loc) (p : Payload) : (State.commitMapPage s loc p).Inv := by
  unfold State.commitMapPage
  dsimp only
  repeat' first
    | with_reducible assumption | with_reducible apply State.countLoc_inv | with_reducible apply State.onSlot_inv
    | with_reducible apply State.onGmd_inv | with_reducible apply State.journal_inv

theorem State.commitGmdPage_inv {s : State} (hi : s.Inv) (loc : Loc) (p : Payload) : (State.commitGmdPage s loc p).Inv := by
  unfold State.commitGmdPage
  dsimp only
  repeat' first | with_reducible assumption | with_reducible apply State.countLoc_inv | with_reducible apply State.journal_inv | split

theorem State.lastOf61_inv {s : State} (hi : s.Inv) (u j : Nat) : (State.lastOf61 s u j).Inv := by
  unfold State.lastOf61
  repeat' first | with_reducible assumption | with_reducible apply State.onUnit_inv

theorem State.commitStripe_inv {s : State} (hi : s.Inv) (id : Nat) : (State.commitStripe s id).Inv := by
  unfold State.commitStripe
  dsimp only
  repeat' first
    | with_reducible assumption | with_reducible apply State.onLog_inv | with_reducible apply State.onUnit_inv
    | with_reducible apply State.commitMapPage_inv | with_reducible apply State.commitGmdPage_inv | with_reducible apply State.lastOf61_inv
    | with_reducible apply State.settleJournal_inv | split | refine State.foldl_inv ?_ (fun _ _ hi => ?_) _ | exact fun _ => ⟨rfl, rfl⟩

theorem State.memberDone_inv {s : State} (hi : s.Inv) (id r : Nat) : (State.memberDone s id r).Inv := by
  unfold State.memberDone
  dsimp only
  repeat' first
    | with_reducible assumption | with_reducible apply State.onLog_inv | with_reducible apply State.sjWrite_inv | split | exact fun _ => ⟨rfl, rfl⟩

theorem State.sjDone_inv {s : State} (hi : s.Inv) (b : Nat) (ok : Bool) : (State.sjDone s b ok).Inv := by
  unfold State.sjDone
  dsimp only
  repeat' first
    | with_reducible assumption | with_reducible apply State.onLog_inv | with_reducible apply State.commitStripe_inv | split
    | refine State.foldl_inv ?_ (fun _ _ hi => ?_) _ | exact fun _ => ⟨rfl, rfl⟩

theorem State.abandonStripe_inv {s : State} (hi : s.Inv) (id : Nat) : (State.abandonStripe s id).Inv := by
  unfold State.abandonStripe
  dsimp only
  repeat' first
    | with_reducible assumption | with_reducible apply State.sjWrite_inv | with_reducible apply State.addExc_inv
    | with_reducible apply State.onLog_inv | with_reducible apply State.placeSectors_inv | split | exact fun _ => ⟨rfl, rfl⟩

theorem State.moveMember_inv {s : State} (hi : s.Inv) (id r : Nat) : (State.moveMember s id r).Inv := by
  unfold State.moveMember
  dsimp only
  repeat' first
    | with_reducible assumption | with_reducible apply State.abandonStripe_inv | with_reducible apply State.onLog_inv
    | with_reducible apply State.addExc_inv | with_reducible apply State.onUnit_inv | with_reducible apply State.tryMember_inv | split
    | exact fun _ => ⟨rfl, rfl⟩

theorem State.membersOff_inv {s : State} (hi : s.Inv) (b : Nat) : (State.membersOff s b).Inv := by
  unfold State.membersOff
  dsimp only
  repeat' first
    | with_reducible assumption | with_reducible apply State.rowWithoutXor_inv | with_reducible apply State.moveMember_inv | split
    | refine State.foldl_inv ?_ (fun _ _ hi => ?_) _

theorem State.readyAll_inv {s : State} (hi : s.Inv) (l : List (Nat × Nat)) : (State.readyAll s l).2.Inv := by
  exact State.readyPages_inv hi (fun _ m h => State.needPage_inv h m none false) _

theorem State.settleWrite_inv {s : State} (hi : s.Inv) (wseq : Nat) : (State.settleWrite s wseq).Inv := by
  unfold State.settleWrite
  repeat' first | with_reducible assumption | with_reducible apply State.onSched_inv | split | exact fun _ => ⟨rfl, rfl⟩

theorem State.applyUpdate_inv {s : State} (hi : s.Inv) (id wseq : Nat) : (State.applyUpdate s id wseq).Inv := by
  unfold State.applyUpdate
  dsimp only
  repeat' first
    | with_reducible assumption | with_reducible apply State.readyAll_inv | with_reducible apply State.applyEntry_inv
    | with_reducible apply State.retCount_inv | with_reducible apply State.journal_inv | with_reducible apply State.settleEmptied_inv
    | with_reducible apply State.stampPage_inv | with_reducible apply State.onLog_inv | with_reducible apply State.onMap_inv
    | with_reducible apply State.settleWrite_inv | with_reducible apply State.settleJournal_inv | split
    | refine State.inv_of_pair (by assumption) ?_ | refine State.foldl_inv ?_ (fun _ _ hi => ?_) _ | exact fun _ => ⟨rfl, rfl⟩

theorem State.snapshotPage_inv {s : State} (hi : s.Inv) (mpn : Nat) : (State.snapshotPage s mpn).Inv := by
  unfold State.snapshotPage
  dsimp only
  repeat' first
    | with_reducible assumption | with_reducible apply State.writeBackPage_inv | with_reducible apply State.onSlot_inv
    | with_reducible apply State.placeSectors_inv | split

theorem State.startCkpt_inv {s : State} (hi : s.Inv) : (State.startCkpt s).Inv := by
  unfold State.startCkpt
  dsimp only
  repeat' first
    | with_reducible assumption | with_reducible apply State.onLog_inv | with_reducible apply State.writeSys_inv
    | with_reducible apply State.snapshotPage_inv | with_reducible apply State.closeStripe_inv | with_reducible apply State.flushTail_inv
    | with_reducible apply State.journal_inv | split | refine State.foldl_inv ?_ (fun _ _ hi => ?_) _ | exact fun _ => ⟨rfl, rfl⟩

theorem State.issueRoot_inv {s : State} (hi : s.Inv) (c : Ckpt) : (State.issueRoot s c).Inv := by
  refine State.foldl_inv hi (fun s b h => ?_) _
  cases hr : s.issueSys b 0 (s.rootPage c.number) .root _ with
  | none => exact h
  | some t => exact State.issueSys_inv h hr

theorem State.ckptFrees_inv {s : State} (hi : s.Inv) (jpos : Nat) : (State.ckptFrees s jpos).Inv := by
  unfold State.ckptFrees
  dsimp only
  repeat' first
    | with_reducible assumption | with_reducible apply State.onUnit_inv | with_reducible apply State.onLog_inv | split
    | refine State.victim_inv ?_ (by assumption) | refine State.foldl_inv ?_ (fun _ _ hi => ?_) _ | exact fun _ => ⟨rfl, rfl⟩

theorem State.ckptDurable_inv {s : State} (hi : s.Inv) (c : Ckpt) : (State.ckptDurable s c).Inv := by
  unfold State.ckptDurable
  dsimp only
  repeat' first
    | with_reducible assumption | with_reducible apply State.onLog_inv | with_reducible apply State.ckptFrees_inv
    | with_reducible apply State.tryHalf_inv | split | exact fun _ => ⟨rfl, rfl⟩

theorem State.ckptStep_inv {s : State} (hi : s.Inv) : (State.ckptStep s).Inv := by
  unfold State.ckptStep
  dsimp only
  repeat' first
    | with_reducible assumption | with_reducible apply State.journal_inv | with_reducible apply State.flushTail_inv
    | with_reducible apply State.onMap_inv | with_reducible apply State.placeSectors_inv | with_reducible apply State.closeStripe_inv
    | with_reducible apply State.onLog_inv | with_reducible apply State.issueRoot_inv | with_reducible apply State.ckptDurable_inv | split
    | refine State.foldl_inv ?_ (fun _ _ hi => ?_) _ | exact fun _ => ⟨rfl, rfl⟩

theorem State.drainLog_inv {s : State} (hi : s.Inv) : (State.drainLog s).Inv := by
  unfold State.drainLog
  repeat' first | with_reducible assumption | with_reducible apply State.closeAll_inv | with_reducible apply State.startCkpt_inv | split

theorem State.ckptAge_inv {s : State} (hi : s.Inv) : (State.ckptAge s).Inv := by
  unfold State.ckptAge
  repeat' first | with_reducible assumption | with_reducible apply State.startCkpt_inv | split

theorem State.beginStrike_inv {s : State} (hi : s.Inv) : (State.beginStrike s).Inv := by
  unfold State.beginStrike
  dsimp only
  repeat' first
    | with_reducible assumption | with_reducible apply State.onSched_inv | with_reducible apply State.onFn_inv
    | with_reducible apply State.closeAll_inv | with_reducible apply State.onPort_inv | with_reducible apply State.journal_inv
    | with_reducible apply State.onLog_inv | with_reducible apply State.strikeKick_inv | split | refine State.foldl_inv ?_ (fun _ _ hi => ?_) _
    | exact fun _ => ⟨rfl, rfl⟩ | exact fun _ h => h | simp

theorem State.unitErased_inv {s : State} (hi : s.Inv) (u : Nat) : (State.unitErased s u).Inv := by
  unfold State.unitErased
  dsimp only
  repeat' first
    | with_reducible assumption | with_reducible apply State.onUnit_inv | with_reducible apply State.onReb_inv
    | with_reducible apply State.onMed_inv | with_reducible apply State.onLog_inv | with_reducible apply State.checkSpace_inv | split
    | refine State.foldl_inv ?_ (fun _ _ hi => ?_) _ | exact fun _ => ⟨rfl, rfl⟩

theorem State.eraseStep_inv {s : State} (hi : s.Inv) (u : Nat) : (State.eraseStep s u).Inv := by
  unfold State.eraseStep
  dsimp only
  repeat' first | with_reducible assumption | with_reducible apply State.onUnit_inv | with_reducible apply State.unitErased_inv | split

theorem State.growCondemned_inv {s : State} (hi : s.Inv) (u : Nat) : (State.growCondemned s u).Inv := by
  unfold State.growCondemned
  dsimp only
  repeat' first
    | with_reducible assumption | with_reducible apply State.growBad_inv | with_reducible apply State.onMed_inv | split
    | refine State.foldl_inv ?_ (fun _ _ hi => ?_) _ | exact fun _ => ⟨rfl, rfl⟩

theorem State.issueErases_inv {s0 : State} (hi : s0.Inv) (u : Nat) : (State.issueErases s0 u).Inv := by
  unfold State.issueErases
  dsimp only
  repeat' first
    | with_reducible assumption | with_reducible apply State.growCondemned_inv | with_reducible apply State.onUnit_inv
    | with_reducible apply State.onPort_inv | with_reducible apply State.unitErased_inv | split | refine State.issue_inv ?_ (by assumption)
    | refine State.foldl_inv ?_ (fun _ _ hi => ?_) _

theorem State.sendLease_inv {s : State} (hi : s.Inv) (m : LeaseMsg) : (State.sendLease s m).Inv := by
  unfold State.sendLease
  repeat' first | with_reducible assumption | with_reducible apply State.emit_inv | split

theorem State.modulesBack_inv {s : State} (hi : s.Inv) : (State.modulesBack s).Inv := by
  unfold State.modulesBack
  repeat' first | with_reducible assumption | with_reducible apply State.setMod_inv | split | refine State.foldl_inv ?_ (fun _ _ hi => ?_) _

theorem State.fenceAll_inv {s : State} (hi : s.Inv) : (State.fenceAll s).Inv := by
  unfold State.fenceAll
  dsimp only
  repeat' first
    | with_reducible assumption | with_reducible apply State.onSheet_inv | with_reducible apply State.sendFence_inv | split
    | refine State.foldl_inv ?_ (fun _ _ hi => ?_) _ | exact fun _ => ⟨rfl, rfl⟩ | exact fun _ h => h | simp

theorem State.holdRebuild_inv {s : State} (hi : s.Inv) : (State.holdRebuild s).Inv := by
  unfold State.holdRebuild
  repeat' first | with_reducible assumption | with_reducible apply State.onReb_inv

theorem State.statusAll_inv {s : State} (hi : s.Inv) : (State.statusAll s).Inv := by
  unfold State.statusAll
  repeat' first
    | with_reducible assumption | with_reducible apply State.onPort_inv | with_reducible apply State.ask_inv | split
    | refine State.foldl_inv ?_ (fun _ _ hi => ?_) _

theorem State.takeLease_inv {s : State} (hi : s.Inv) (k : TakeKind) : (State.takeLease s k).Inv := by
  unfold State.takeLease
  dsimp only
  repeat' first
    | with_reducible assumption | with_reducible apply State.onPair_inv | with_reducible apply State.setPair_inv
    | with_reducible apply State.onFn_inv | with_reducible apply State.sendLease_inv | with_reducible apply State.statusAll_inv | split
    | exact fun _ => ⟨rfl, rfl⟩

theorem State.lapse_inv {s : State} (hi : s.Inv) : (State.lapse s).Inv := by
  unfold State.lapse
  dsimp only
  repeat' first
    | with_reducible assumption | with_reducible apply State.onPair_inv | with_reducible apply State.setPair_inv
    | with_reducible apply State.modulesBack_inv | with_reducible apply State.holdRebuild_inv | split | exact fun _ => ⟨rfl, rfl⟩

theorem State.release_inv {s : State} (hi : s.Inv) (toPeer : Bool) : (State.release s toPeer).Inv := by
  unfold State.release
  dsimp only
  repeat' first
    | with_reducible assumption | with_reducible apply State.sendLease_inv | with_reducible apply State.onPair_inv | split
    | exact fun _ => ⟨rfl, rfl⟩

theorem State.toInit_inv {s : State} (hi : s.Inv) : (State.toInit s).Inv := by
  unfold State.toInit
  repeat' first
    | with_reducible assumption | with_reducible apply State.onPair_inv | with_reducible apply State.setPair_inv
    | with_reducible apply State.modulesBack_inv | split | exact fun _ => ⟨rfl, rfl⟩

theorem State.staleLease_inv {s : State} (hi : s.Inv) : (State.staleLease s).Inv := by
  unfold State.staleLease
  dsimp only
  repeat' first
    | with_reducible assumption | with_reducible apply State.event_inv | with_reducible apply State.sendLease_inv
    | with_reducible apply State.onPair_inv | with_reducible apply State.toInit_inv | with_reducible apply State.lapse_inv | split
    | exact fun _ => ⟨rfl, rfl⟩

theorem State.discardAll_inv {s : State} (hi : s.Inv) : (State.discardAll s).Inv := by
  unfold State.discardAll
  dsimp only
  refine State.onReb_inv (State.onTc_inv (State.onMap_inv (State.onRd_inv (State.onLog_inv ?_ fun _ => ?_))))
  · exact State.onSched_inv_of hi rfl hi.lastTaken
  · exact ⟨List.length_map _, rfl⟩

theorem State.join_inv {s : State} (hi : s.Inv) : (State.join s).Inv := by
  unfold State.join
  repeat' first
    | with_reducible assumption | with_reducible apply State.onPair_inv | with_reducible apply State.setPair_inv
    | with_reducible apply State.modulesBack_inv | split | exact fun _ => ⟨rfl, rfl⟩

theorem State.dieReset_inv {s : State} (hi : s.Inv) : s.dieReset.Inv := by
  have hr := invAtReset
  exact
    { inputs := rfl, lastTaken := rfl, streams := (List.length_map _).trans hi.streams, halves := hi.halves, health := hi.health
      ctlHist := hi.ctlHist, ports := (List.length_map _).trans List.length_range, modules := hi.modules, cells := hr.cells, fronts := hr.fronts
      phases := hr.phases, offers := hr.offers, drbgs := rfl, chans := hi.chans, msix := hr.msix, mbx := hr.mbx, evqs := hr.evqs
      sessions := hr.sessions, counts := rfl, banks := hr.banks, groups := hr.groups, tries := hr.tries, opKeys := hi.opKeys
      media := hi.media, bufs := hr.bufs, slot := Nat.zero_lt_succ _, seq := hi.seq }

theorem State.diePowerOff_inv {s : State} (hi : s.Inv) : s.diePowerOff.Inv := by
  exact { State.dieReset_inv hi with counts := rfl, opKeys := hi.opKeys, seq := invAtReset.seq }

theorem State.go_inv {s : State} (hi : s.Inv) (m token : Nat) (notify : Bool) (evq : Nat) : (State.go s m token notify evq).Inv := by
  unfold State.go
  repeat' first | with_reducible assumption | with_reducible apply State.onMbx_inv | split | exact fun _ => ⟨rfl, rfl⟩ | exact fun _ h => h

theorem State.fetchBulk_inv {s : State} (hi : s.Inv) (m : Nat) : (State.fetchBulk s m).2.Inv := by
  unfold State.fetchBulk
  repeat' first
    | with_reducible assumption | with_reducible apply State.onMgmt_inv | with_reducible apply State.emit_inv | split | exact fun _ => ⟨rfl, rfl⟩
    | exact fun _ h => h | simp

theorem State.takeGo_inv {s : State} (hi : s.Inv) (m : Nat) (key : Option Nat) : (State.takeGo s m key).Inv := by
  unfold State.takeGo
  dsimp only
  repeat' first
    | with_reducible assumption | with_reducible apply State.onMgmt_inv | with_reducible apply State.onMbx_inv | split | exact fun _ => ⟨rfl, rfl⟩
    | exact fun _ h => h | simp

theorem State.mbxRun_inv {s : State} (hi : s.Inv) (h : MbxHdr) (sp : MbxSpec) {start again : State → State} (hs : ∀ x, x.Inv → (start x).Inv) (ha : ∀ x, x.Inv → (again x).Inv) : (State.mbxRun s h sp start again).Inv := by
  unfold State.mbxRun
  dsimp only
  repeat' first
    | with_reducible assumption | with_reducible apply State.answer_inv | with_reducible apply State.onMbx_inv
    | with_reducible apply State.takeGo_inv | with_reducible apply State.fetchBulk_inv | apply hs | apply ha | exact fun _ h => h | split

theorem State.mbxOk_inv {s : State} (hi : s.Inv) (m : Nat) (result : List (BitVec 8)) : (State.mbxOk s m result).Inv := by
  unfold State.mbxOk
  dsimp only
  repeat' first | with_reducible assumption | with_reducible apply State.answer_inv

theorem State.mbxFail_inv {s : State} (hi : s.Inv) (m status detail : Nat) : (State.mbxFail s m status detail).Inv := by
  unfold State.mbxFail
  repeat' first | with_reducible assumption | with_reducible apply State.answer_inv

theorem State.mbxData_inv {s : State} (hi : s.Inv) (m : Nat) (bytes : List (BitVec 8)) : (State.mbxData s m bytes).Inv := by
  unfold State.mbxData
  dsimp only
  repeat' first | with_reducible assumption | with_reducible apply State.emit_inv | with_reducible apply State.answer_inv

theorem State.live_inv {s : State} (hi : s.Inv) (m : Nat) (always : Bool) (c : LiveChange) : (State.live s m always c).Inv := by
  unfold State.live
  repeat' first | with_reducible assumption | with_reducible apply State.onFn_inv | with_reducible apply State.mbxOk_inv | split

theorem State.answerOp_inv {s : State} (hi : s.Inv) (op : Nat) (r : Resp) : (State.answerOp s op r).Inv := by
  unfold State.answerOp
  repeat' first | with_reducible assumption | with_reducible apply State.answer_inv | split | refine State.foldl_inv ?_ (fun _ _ hi => ?_) _

theorem State.detach_inv {s : State} (hi : s.Inv) (m : Nat) : (State.detach s m).Inv := by
  unfold State.detach
  dsimp only
  repeat' first
    | with_reducible assumption | with_reducible apply State.onSched_inv | with_reducible apply State.returnCredit_inv
    | with_reducible apply State.onFn_inv | with_reducible apply State.onTc_inv | with_reducible apply State.onBpd_inv
    | with_reducible apply State.onNet_inv | with_reducible apply State.onCip_inv | split | refine State.foldl_inv ?_ (fun _ _ hi => ?_) _
    | exact fun _ => ⟨rfl, rfl⟩ | exact fun _ h => h | simp

theorem State.armDropped_inv {s : State} (hi : s.Inv) (m : Nat) : (State.armDropped s m).Inv := by
  unfold State.armDropped
  repeat' first | with_reducible assumption | with_reducible apply State.onFn_inv | split

theorem State.endOp_inv {s : State} (hi : s.Inv) (b : Nat) (op : SheetOp) : (State.endOp s b op).Inv := by
  unfold State.endOp
  dsimp only
  repeat' first
    | with_reducible assumption | with_reducible apply State.reconstruct_inv | with_reducible apply State.rowWithoutXor_inv
    | with_reducible apply State.onPort_inv | with_reducible apply State.eraseStep_inv | with_reducible apply State.sjDone_inv
    | with_reducible apply State.onReb_inv | with_reducible apply State.strikeRedo_inv | with_reducible apply State.firstErase_inv | split

theorem State.endOps_inv {s : State} (hi : s.Inv) (b : Nat) : (State.endOps s b).Inv := by
  unfold State.endOps
  dsimp only
  repeat' first
    | with_reducible assumption | with_reducible apply State.onPort_inv | with_reducible apply State.replay_inv
    | with_reducible apply State.endOp_inv | with_reducible apply State.membersOff_inv | split | refine State.foldl_inv ?_ (fun _ _ hi => ?_) _

theorem State.sjOff_inv {s : State} (hi : s.Inv) (b : Nat) : (State.sjOff s b).Inv := by
  unfold State.sjOff
  repeat' first | with_reducible assumption | with_reducible apply State.sjDone_inv | split | refine State.foldl_inv ?_ (fun _ _ hi => ?_) _

theorem State.portGone_inv {s : State} (hi : s.Inv) (b : Nat) : (State.portGone s b).Inv := by
  unfold State.portGone
  dsimp only
  repeat' first
    | with_reducible assumption | with_reducible apply State.setMod_inv | with_reducible apply State.onPort_inv
    | with_reducible apply State.loseModule_inv | with_reducible apply State.identify_inv | with_reducible apply State.foreign_inv
    | with_reducible apply State.endOps_inv | with_reducible apply State.sjOff_inv | with_reducible apply State.checkSpace_inv | split

theorem State.setPort_inv {s : State} (hi : s.Inv) (b : Nat) (st : PortState) : (State.setPort s b st).Inv := by
  unfold State.setPort
  repeat' first | with_reducible assumption | with_reducible apply State.onPort_inv

theorem State.retirePort_inv {s : State} (hi : s.Inv) (b : Nat) : (State.retirePort s b).Inv := by
  unfold State.retirePort
  repeat' first
    | with_reducible assumption | with_reducible apply State.setPort_inv | with_reducible apply State.event_inv
    | with_reducible apply State.portGone_inv | split

theorem State.portOff_inv {s : State} (hi : s.Inv) (b : Nat) : (State.portOff s b).Inv := by
  unfold State.portOff
  repeat' first | with_reducible assumption | with_reducible apply State.onPort_inv | with_reducible apply State.portGone_inv | split

theorem State.powerFollow_inv {s : State} (hi : s.Inv) (b : Nat) : (State.powerFollow s b).Inv := by
  unfold State.powerFollow
  dsimp only
  repeat' first
    | with_reducible assumption | with_reducible apply State.setMod_inv | with_reducible apply State.onPort_inv
    | with_reducible apply State.portOff_inv | split

theorem State.modulePower_inv {s : State} (hi : s.Inv) (b : Nat) : (State.modulePower s b).Inv := by
  unfold State.modulePower
  repeat' first | with_reducible assumption | with_reducible apply State.onModule_inv | split

theorem State.setChan_inv {s : State} (hi : s.Inv) (b : Nat) (st : ChanState) : (State.setChan s b st).Inv := by
  unfold State.setChan
  dsimp only
  repeat' first
    | with_reducible assumption | with_reducible apply State.onChan_inv | with_reducible apply State.eventState_inv
    | with_reducible apply State.powerFollow_inv | with_reducible apply State.modulePower_inv | split

theorem State.chanTry_inv {s : State} (hi : s.Inv) (b : Nat) : (State.chanTry s b).Inv := by
  unfold State.chanTry
  dsimp only
  repeat' first | with_reducible assumption | with_reducible apply State.setChan_inv | split

theorem State.trip_inv {s : State} (hi : s.Inv) (b kind : Nat) : (State.trip s b kind).Inv := by
  unfold State.trip
  dsimp only
  repeat' first
    | with_reducible assumption | with_reducible apply State.onChan_inv | with_reducible apply State.setChan_inv
    | with_reducible apply State.event_inv | with_reducible apply State.raise_inv

theorem State.toggle_inv {s : State} (hi : s.Inv) (b : Nat) : (State.toggle s b).Inv := by
  unfold State.toggle
  repeat' first
    | with_reducible assumption | with_reducible apply State.onChan_inv | with_reducible apply State.setChan_inv
    | with_reducible apply State.chanTry_inv | split

theorem State.setSel_inv {s : State} (hi : s.Inv) (x : Selector) : (State.setSel s x).Inv := by
  unfold State.setSel
  dsimp only
  repeat' first
    | with_reducible assumption | with_reducible apply State.onBpd_inv | with_reducible apply State.eventState_inv
    | with_reducible apply State.checkStrike_inv | with_reducible apply State.chanTry_inv | split | refine State.foldl_inv ?_ (fun _ _ hi => ?_) _
    | exact fun _ => ⟨rfl, rfl⟩ | exact fun _ h => h | simp

theorem State.enterHoldup_inv {s : State} (hi : s.Inv) : (State.enterHoldup s).Inv := by
  unfold State.enterHoldup
  dsimp only
  repeat' first
    | with_reducible assumption | with_reducible apply State.setSel_inv | with_reducible apply State.onBpd_inv
    | with_reducible apply State.setChan_inv | with_reducible apply State.emit_inv | split | refine State.foldl_inv ?_ (fun _ _ hi => ?_) _
    | exact fun _ => ⟨rfl, rfl⟩ | exact fun _ h => h | simp

theorem State.goDown_inv {s : State} (hi : s.Inv) (low : Bool) : (State.goDown s low).Inv := by
  unfold State.goDown
  dsimp only
  repeat' first
    | with_reducible assumption | with_reducible apply State.onBpd_inv | with_reducible apply State.onChan_inv
    | with_reducible apply State.setChan_inv | with_reducible apply State.setSel_inv | with_reducible apply State.diePowerOff_inv | split
    | refine State.foldl_inv ?_ (fun _ _ hi => ?_) _ | exact fun _ => ⟨rfl, rfl⟩ | exact fun _ h => h | simp

theorem State.selInit_inv {s : State} (hi : s.Inv) : (State.selInit s).Inv := by
  unfold State.selInit
  repeat' first | with_reducible assumption | with_reducible apply State.setSel_inv | split

theorem State.pathOff_inv {s : State} (hi : s.Inv) : (State.pathOff s).Inv := by
  unfold State.pathOff
  repeat' first | with_reducible assumption | with_reducible apply State.setSel_inv | with_reducible apply State.enterHoldup_inv | split

theorem State.strikeEnd_inv {s : State} (hi : s.Inv) : (State.strikeEnd s).Inv := by
  unfold State.strikeEnd
  repeat' first | with_reducible assumption | with_reducible apply State.release_inv | with_reducible apply State.goDown_inv | split

theorem State.railLost_inv {s : State} (hi : s.Inv) : (State.railLost s).Inv := by
  unfold State.railLost
  repeat' first
    | with_reducible assumption | with_reducible apply State.onBpd_inv | with_reducible apply State.diePowerOff_inv | split
    | exact fun _ => ⟨rfl, rfl⟩ | exact fun _ h => h | simp

theorem State.junctionTimes_inv {s : State} (hi : s.Inv) : (State.junctionTimes s).Inv := by
  unfold State.junctionTimes
  repeat' first | with_reducible assumption | with_reducible apply State.onBoot_inv | split | exact fun _ => ⟨rfl, rfl⟩ | exact fun _ h => h | simp

theorem State.loadGmd_inv {s : State} (hi : s.Inv) (com : List SjRec) (pages : Tab Loc) : (State.loadGmd s com pages).Inv := by
  unfold State.loadGmd
  dsimp only
  repeat' first | with_reducible assumption | with_reducible apply State.onMap_inv

theorem State.loadPage_inv {s : State} (hi : s.Inv) (com : List SjRec) (mpn : Nat) : (State.loadPage s com mpn).Inv := by
  unfold State.loadPage
  dsimp only
  repeat' first
    | with_reducible assumption | with_reducible apply State.blankPage_inv | with_reducible apply State.installPage_inv
    | with_reducible apply State.poisonPage_inv | split

theorem State.loadSys_inv {s : State} (hi : s.Inv) (com : List SjRec) : (State.loadSys s com).Inv := by
  unfold State.loadSys
  dsimp only
  repeat' first
    | with_reducible assumption | with_reducible apply State.onMap_inv | with_reducible apply State.onReb_inv
    | with_reducible apply State.raise_inv | with_reducible apply State.mediaFrom_inv | with_reducible apply State.keysFrom_inv
    | with_reducible apply State.retFrom_inv | with_reducible apply State.lossFromMedia_inv | split
    | refine State.foldl_inv ?_ (fun _ _ hi => ?_) _

theorem State.sysPlaces_inv {s : State} (hi : s.Inv) (recs : List JRec) : (State.sysPlaces s recs).Inv := by
  unfold State.sysPlaces
  repeat' first | with_reducible assumption | with_reducible apply State.onGmd_inv | split | refine State.foldl_inv ?_ (fun _ _ hi => ?_) _

theorem State.resumeCursor_inv {s : State} (hi : s.Inv) (cur : Option RebCursor) (old : Tab UnitDir) : (State.resumeCursor s cur old).Inv := by
  unfold State.resumeCursor
  dsimp only
  repeat' first | with_reducible assumption | with_reducible apply State.journal_inv | with_reducible apply State.onReb_inv

theorem State.restoreReads_inv {s : State} (hi : s.Inv) : (State.restoreReads s).Inv := by
  unfold State.restoreReads
  dsimp only
  repeat' first
    | with_reducible assumption | with_reducible apply State.onMed_inv | split | refine State.foldl_inv ?_ (fun _ _ hi => ?_) _
    | exact fun _ => ⟨rfl, rfl⟩

theorem State.setCounter_inv {s : State} (hi : s.Inv) (k p : Nat) : (State.setCounter s k p).Inv := by
  unfold State.setCounter
  dsimp only
  repeat' first | with_reducible assumption | with_reducible apply State.onStream_inv

theorem State.notedRoles_inv {s : State} (hi : s.Inv) (u i : Nat) (r : SjRec) : (State.notedRoles s u i r).Inv := by
  unfold State.notedRoles
  dsimp only
  repeat' first | with_reducible assumption | with_reducible apply State.addExc_inv | split | refine State.foldl_inv ?_ (fun _ _ hi => ?_) _

theorem State.noteStripe_inv {s : State} (hi : s.Inv) (r : SjRec) : (State.noteStripe s r).Inv := by
  unfold State.noteStripe
  extract_lets u i use s1 known stale e p s2
  have h1 : s1.Inv := State.onMed_inv hi fun _ => ⟨rfl, rfl⟩
  have h2 : s2.Inv := by
    dsimp only [s2]
    split
    · exact h1
    · exact State.onReb_inv h1
  split
  · exact hi
  · split
    · exact h2
    · extract_lets j t s3 s4 s5
      have ht : t.Inv := by
        dsimp only [t]
        split
        · exact h2
        · exact State.addExc_inv h2 _ _
      have h3 : s3.Inv := by
        dsimp only [s3]
        repeat' first | exact h2 | exact State.onReb_inv ht | with_reducible apply State.onReb_inv | with_reducible apply State.addExc_inv | split
      have h4 : s4.Inv := by
        dsimp only [s4]
        repeat' first | exact h3 | with_reducible apply State.setCounter_inv | split
      have h5 : s5.Inv := State.notedRoles_inv h4 _ _ _
      split
      · exact State.addExc_inv h5 _ _
      · exact h5

theorem State.noteStripes_inv {s : State} (hi : s.Inv) (sj : List SjRec) : (State.noteStripes s sj).Inv := by
  unfold State.noteStripes
  repeat' first | with_reducible assumption | with_reducible apply State.noteStripe_inv | split | refine State.foldl_inv ?_ (fun _ _ hi => ?_) _

theorem State.adoptUnit_inv {s : State} (hi : s.Inv) (u : Nat) (d : UnitDir) : (State.adoptUnit s u d).Inv := by
  unfold State.adoptUnit
  dsimp only
  repeat' first | with_reducible assumption | with_reducible apply State.onUnit_inv

theorem State.adoptStream_inv {s : State} (hi : s.Inv) (k : Nat) : (State.adoptStream s k).Inv := by
  unfold State.adoptStream
  dsimp only
  repeat' first
    | with_reducible assumption | with_reducible apply State.setCounter_inv | with_reducible apply State.onUnit_inv
    | with_reducible apply State.onStream_inv | with_reducible apply State.openUnit_inv | split

theorem State.adoptUnits_inv {s : State} (hi : s.Inv) : (State.adoptUnits s).Inv := by
  unfold State.adoptUnits
  dsimp only
  repeat' first
    | with_reducible assumption | with_reducible apply State.onLog_inv | with_reducible apply State.openUnit_inv
    | with_reducible apply State.adoptStream_inv | with_reducible apply State.adoptUnit_inv | split
    | refine State.foldl_inv ?_ (fun _ _ hi => ?_) _ | exact fun _ => ⟨rfl, rfl⟩ | exact fun _ h => h | simp

theorem State.chainsKept_inv {s : State} (hi : s.Inv) (l : List (Nat × Nat)) (keep : Nat → Nat → Nat) : (State.chainsKept s l keep).Inv := by
  unfold State.chainsKept
  repeat' first
    | with_reducible assumption | with_reducible apply State.onLog_inv | split | refine State.foldl_inv ?_ (fun _ _ hi => ?_) _
    | exact fun _ => ⟨rfl, rfl⟩

theorem State.replaySet_inv {s : State} (hi : s.Inv) (com : List SjRec) (ns lba : Nat) (e : MapEntry) (jpos : Nat) : (State.replaySet s com ns lba e jpos).Inv := by
  unfold State.replaySet
  dsimp only
  repeat' first | with_reducible assumption | with_reducible apply State.loadPage_inv | with_reducible apply State.putEntry_inv | split

theorem State.replayRec_inv {s : State} (hi : s.Inv) (sj : List SjRec) (jpos : Nat) (r : JRec) : (State.replayRec s sj jpos r).Inv := by
  unfold State.replayRec
  dsimp only
  repeat' first
    | with_reducible assumption | with_reducible apply State.onSlot_inv | with_reducible apply State.replaySet_inv
    | with_reducible apply State.retCount_inv | with_reducible apply State.onGmd_inv | with_reducible apply State.onLog_inv | split
    | refine State.foldl_inv ?_ (fun _ _ hi => ?_) _ | exact fun _ => ⟨rfl, rfl⟩

theorem State.recount_inv {s : State} (hi : s.Inv) (com : List SjRec) : (State.recount s com).Inv := by
  unfold State.recount
  dsimp only
  repeat' first
    | with_reducible assumption | with_reducible apply State.onLog_inv | with_reducible apply State.onMap_inv
    | with_reducible apply State.onCip_inv | with_reducible apply State.countLoc_inv | split | refine State.foldl_inv ?_ (fun _ _ hi => ?_) _
    | exact fun _ => ⟨rfl, rfl⟩ | exact fun _ h => h | simp

theorem State.closeUnknown_inv {s : State} (hi : s.Inv) : (State.closeUnknown s).Inv := by
  unfold State.closeUnknown
  dsimp only
  repeat' first | with_reducible assumption | with_reducible apply State.onUnit_inv | split | refine State.foldl_inv ?_ (fun _ _ hi => ?_) _

theorem State.rebuildRow_inv {s : State} (hi : s.Inv) (com : List SjRec) (u b row taken : Nat) : (State.rebuildRow s com u b row taken).Inv := by
  unfold State.rebuildRow
  dsimp only
  repeat' first
    | with_reducible assumption | with_reducible apply State.onLog_inv | with_reducible apply State.rowWithoutXor_inv | split
    | exact fun _ => ⟨rfl, rfl⟩

theorem State.rebuildRows_inv {s : State} (hi : s.Inv) (com : List SjRec) : (State.rebuildRows s com).Inv := by
  unfold State.rebuildRows
  dsimp only
  repeat' first | with_reducible assumption | with_reducible apply State.rebuildRow_inv | split | refine State.foldl_inv ?_ (fun _ _ hi => ?_) _

theorem State.newEpoch_inv {s : State} (hi : s.Inv) : (State.newEpoch s).Inv := by
  unfold State.newEpoch
  dsimp only
  repeat' first
    | with_reducible assumption | with_reducible apply State.onCip_inv | with_reducible apply State.event_inv | split
    | refine State.foldl_inv ?_ (fun _ _ hi => ?_) _ | exact fun _ => ⟨rfl, rfl⟩ | exact fun _ h => h | simp

theorem State.restoreRclk_inv {s : State} (hi : s.Inv) (sample : Nat) : (State.restoreRclk s sample).Inv := by
  unfold State.restoreRclk
  repeat' first | with_reducible assumption | with_reducible apply State.onCip_inv | split | exact fun _ => ⟨rfl, rfl⟩ | exact fun _ h => h | simp

theorem State.retRestart_inv {s : State} (hi : s.Inv) (high : Nat) : (State.retRestart s high).Inv := by
  unfold State.retRestart
  repeat' first
    | with_reducible assumption | with_reducible apply State.onCip_inv | split | refine State.foldl_inv ?_ (fun _ _ hi => ?_) _
    | exact fun _ => ⟨rfl, rfl⟩ | exact fun _ h => h | simp

theorem State.supersede_inv {s : State} (hi : s.Inv) (wseq ns lba len : Nat) : (State.supersede s wseq ns lba len).Inv := by
  unfold State.supersede
  dsimp only
  repeat' first | with_reducible assumption | with_reducible apply State.onSched_inv | split | exact fun _ => ⟨rfl, rfl⟩

theorem State.enterLoose_inv {s : State} (hi : s.Inv) (cands : List Cand) : (State.enterLoose s cands).Inv := by
  unfold State.enterLoose
  dsimp only
  repeat' first
    | with_reducible assumption | with_reducible apply State.onSched_inv | split | refine State.foldl_inv ?_ (fun _ _ hi => ?_) _
    | exact fun _ => ⟨rfl, rfl⟩

theorem State.applyPlaced_inv {s : State} (hi : s.Inv) (com : List SjRec) (p : Payload) (at_ : Option (Nat × Nat)) (l : Loc) : (State.applyPlaced s com p at_ l).Inv := by
  unfold State.applyPlaced
  dsimp only
  repeat' first
    | with_reducible assumption | with_reducible apply State.loadPage_inv | with_reducible apply State.appendRec_inv
    | with_reducible apply State.putEntry_inv | with_reducible apply State.stampPage_inv | with_reducible apply State.supersede_inv
    | with_reducible apply State.retCount_inv | split

theorem State.applyAll_inv {s : State} (hi : s.Inv) (com : List SjRec) (cands : List Cand) (recs : List JRec) (keep : Nat → Nat → Nat) : (State.applyAll s com cands recs keep).Inv := by
  unfold State.applyAll
  dsimp only
  repeat' first
    | with_reducible assumption | with_reducible apply State.applyPlaced_inv | with_reducible apply State.placeSectors_inv
    | with_reducible apply State.appendRec_inv | with_reducible apply State.replayRec_inv | with_reducible apply State.supersede_inv
    | with_reducible apply State.enterLoose_inv | split | refine State.foldl_inv ?_ (fun _ _ hi => ?_) _

theorem State.endReplay_inv {s : State} (hi : s.Inv) (com : List SjRec) (high : Nat) : (State.endReplay s com high).Inv := by
  unfold State.endReplay
  dsimp only
  repeat' first
    | with_reducible assumption | with_reducible apply State.recount_inv | with_reducible apply State.closeUnknown_inv
    | with_reducible apply State.rebuildRows_inv | with_reducible apply State.restoreReads_inv | with_reducible apply State.onSched_inv
    | with_reducible apply State.newEpoch_inv | split | exact fun _ => ⟨rfl, rfl⟩

theorem State.setHalves_inv {s : State} (hi : s.Inv) (used consumed : Option Nat) : (State.setHalves s used consumed).Inv := by
  exact State.onLog_inv_of hi hi.streams rfl

theorem State.replayFrom_inv {s : State} (hi : s.Inv) (root : Root) (index : List Loc) : (State.replayFrom s root index).Inv := by
  unfold State.replayFrom
  dsimp only
  repeat' first
    | with_reducible assumption | with_reducible apply State.onLog_inv | with_reducible apply State.journal_inv
    | with_reducible apply State.loadGmd_inv | with_reducible apply State.loadSys_inv | with_reducible apply State.sysPlaces_inv
    | with_reducible apply State.onCip_inv | with_reducible apply State.restoreRclk_inv | with_reducible apply State.retRestart_inv
    | with_reducible apply State.noteStripes_inv | with_reducible apply State.resumeCursor_inv | with_reducible apply State.adoptUnits_inv
    | with_reducible apply State.replayRec_inv | with_reducible apply State.setHalves_inv | with_reducible apply State.applyAll_inv
    | with_reducible apply State.chainsKept_inv | with_reducible apply State.endReplay_inv | with_reducible apply State.event_inv | split
    | refine State.foldl_inv ?_ (fun _ _ hi => ?_) _ | exact fun _ => ⟨rfl, rfl⟩ | exact fun _ h => h | simp

theorem State.fullScan_inv {s : State} (hi : s.Inv) : (State.fullScan s).Inv := by
  unfold State.fullScan
  dsimp only
  repeat' first
    | with_reducible assumption | with_reducible apply State.onLog_inv | with_reducible apply State.journal_inv
    | with_reducible apply State.onMap_inv | with_reducible apply State.onGmd_inv | with_reducible apply State.loadSys_inv
    | with_reducible apply State.onCip_inv | with_reducible apply State.noteStripes_inv | with_reducible apply State.resumeCursor_inv
    | with_reducible apply State.adoptUnits_inv | with_reducible apply State.setHalves_inv | with_reducible apply State.applyAll_inv
    | with_reducible apply State.chainsKept_inv | with_reducible apply State.restoreRclk_inv | with_reducible apply State.retRestart_inv
    | with_reducible apply State.endReplay_inv | with_reducible apply State.event_inv | split | refine State.foldl_inv ?_ (fun _ _ hi => ?_) _
    | exact fun _ => ⟨rfl, rfl⟩ | exact fun _ h => h | simp

theorem State.replay_inv {s : State} (hi : s.Inv) : (State.replay s).Inv := by
  unfold State.replay
  repeat' first | with_reducible assumption | with_reducible apply State.replayFrom_inv | with_reducible apply State.fullScan_inv | split

theorem State.warmApply_inv {s : State} (hi : s.Inv) : (State.warmApply s).Inv := by
  unfold State.warmApply
  dsimp only
  repeat' first
    | with_reducible assumption | with_reducible apply State.noteStripes_inv | with_reducible apply State.resumeCursor_inv
    | with_reducible apply State.onMap_inv | with_reducible apply State.adoptUnits_inv | with_reducible apply State.journal_inv
    | with_reducible apply State.applyAll_inv | with_reducible apply State.closeStripe_inv | with_reducible apply State.onSched_inv
    | with_reducible apply State.onLog_inv | with_reducible apply State.setHalves_inv | with_reducible apply State.retRestart_inv
    | with_reducible apply State.recount_inv | with_reducible apply State.closeUnknown_inv | with_reducible apply State.rebuildRows_inv | split
    | refine State.foldl_inv ?_ (fun _ _ hi => ?_) _ | exact fun _ => ⟨rfl, rfl⟩

theorem State.fillWay_inv {s : State} (hi : s.Inv) (m : TcMiss) : (State.fillWay s m).2.Inv := by
  unfold State.fillWay
  repeat' first
    | with_reducible assumption | with_reducible apply State.dropLine_inv | with_reducible apply State.putLine_inv | split
    | refine State.victim_inv ?_ (by assumption)

theorem State.countFill_inv {s : State} (hi : s.Inv) (m : TcMiss) (locked : Bool) : (State.countFill s m locked).Inv := by
  unfold State.countFill
  repeat' first | with_reducible assumption | with_reducible apply State.onTc_inv | split

theorem State.servePool_inv {s : State} (hi : s.Inv) (m : TcMiss) : (State.servePool s m).Inv := by
  unfold State.servePool
  repeat' first
    | with_reducible assumption | with_reducible apply State.serveEntry_inv | with_reducible apply State.serveSector_inv | split
    | refine State.foldl_inv ?_ (fun _ _ hi => ?_) _

theorem State.nextMiss_inv {s : State} (hi : s.Inv) (cell : Nat) : (State.nextMiss s cell).Inv := by
  unfold State.nextMiss
  dsimp only
  repeat' first
    | with_reducible assumption | with_reducible apply State.onTc_inv | with_reducible apply State.startFill_inv
    | with_reducible apply State.serveAll_inv | split | refine State.foldl_inv ?_ (fun _ _ hi => ?_) _

theorem State.dropWays_inv {s : State} (hi : s.Inv) (ok : Nat → Bool) : (State.dropWays s ok).Inv := by
  unfold State.dropWays
  repeat' first | with_reducible assumption | with_reducible apply State.dropLine_inv | split | refine State.foldl_inv ?_ (fun _ _ hi => ?_) _

theorem State.tcEmpty_inv {s : State} (hi : s.Inv) : (State.tcEmpty s).Inv := by
  unfold State.tcEmpty
  repeat' first | with_reducible assumption | with_reducible apply State.dropWays_inv

theorem State.lockWays_inv {s : State} (hi : s.Inv) (value : BitVec 32) : (State.lockWays s value).Inv := by
  unfold State.lockWays
  dsimp only
  repeat' first
    | with_reducible assumption | with_reducible apply State.pin_inv | with_reducible apply State.putLine_inv | with_reducible apply State.onTc_inv
    | split | refine State.foldl_inv ?_ (fun _ _ hi => ?_) _

theorem State.reqOff_inv {s : State} (hi : s.Inv) (v : BitVec 4) : (State.reqOff s v).Inv := by
  unfold State.reqOff
  repeat' first | with_reducible assumption | with_reducible apply State.onTc_inv

theorem State.unreserve_inv {s : State} (hi : s.Inv) (ok : Nat → Bool) : (State.unreserve s ok).Inv := by
  unfold State.unreserve
  dsimp only
  repeat' first
    | with_reducible assumption | with_reducible apply State.putLine_inv | with_reducible apply State.onTc_inv | split
    | refine State.foldl_inv ?_ (fun _ _ hi => ?_) _

theorem State.rangeLine_inv {s : State} (hi : s.Inv) (op : Nat) (unlock : Bool) (x : Nat × Nat) : (State.rangeLine s op unlock x).Inv := by
  unfold State.rangeLine
  dsimp only
  repeat' first
    | with_reducible assumption | with_reducible apply State.writeBack_inv | with_reducible apply State.onTc_inv
    | with_reducible apply State.dropLine_inv | split

theorem State.preloadLine_inv {s : State} (hi : s.Inv) (la : Nat) : (State.preloadLine s la).Inv := by
  unfold State.preloadLine
  dsimp only
  repeat' first
    | with_reducible assumption | with_reducible apply State.onTc_inv | with_reducible apply State.readyPage_inv
    | with_reducible apply State.startFill_inv | with_reducible apply State.needPage_inv | with_reducible apply State.putLine_inv
    | with_reducible apply State.pin_inv | with_reducible apply State.dropLine_inv | split

theorem State.rangeAdvance_inv {s : State} (hi : s.Inv) : (State.rangeAdvance s).Inv := by
  unfold State.rangeAdvance
  repeat' first | with_reducible assumption | with_reducible apply State.preloadLine_inv | split | refine State.foldl_inv ?_ (fun _ _ hi => ?_) _

theorem State.goRange_inv {s : State} (hi : s.Inv) (op : Nat) (o : RangeOp) (mbx : Option Nat) : (State.goRange s op o mbx).Inv := by
  unfold State.goRange
  dsimp only
  repeat' first
    | with_reducible assumption | with_reducible apply State.onTc_inv | with_reducible apply State.rangeLine_inv
    | with_reducible apply State.rangeAdvance_inv | split | refine State.foldl_inv ?_ (fun _ _ hi => ?_) _

theorem State.nextPin_inv {s : State} (hi : s.Inv) : (State.nextPin s).Inv := by
  unfold State.nextPin
  repeat' first | with_reducible assumption | with_reducible apply State.onTc_inv | with_reducible apply State.goRange_inv | split

theorem State.preloadPinned_inv {s : State} (hi : s.Inv) : (State.preloadPinned s).Inv := by
  unfold State.preloadPinned
  repeat' first
    | with_reducible assumption | with_reducible apply State.onTc_inv | with_reducible apply State.pin_inv | with_reducible apply State.nextPin_inv
    | split

theorem State.rangeAnswer_inv {s : State} (hi : s.Inv) : (State.rangeAnswer s).Inv := by
  unfold State.rangeAnswer
  dsimp only
  repeat' first | with_reducible assumption | with_reducible apply State.onTc_inv | with_reducible apply State.answer_inv | split

theorem State.resumeRebuild_inv {s : State} (hi : s.Inv) : (State.resumeRebuild s).Inv := by
  unfold State.resumeRebuild
  dsimp only
  repeat' first | with_reducible assumption | with_reducible apply State.setReb_inv | with_reducible apply State.onReb_inv | split

theorem State.pauseRebuild_inv {s : State} (hi : s.Inv) : (State.pauseRebuild s).Inv := by
  unfold State.pauseRebuild
  repeat' first | with_reducible assumption | with_reducible apply State.onReb_inv | split

theorem State.relocateAt_inv {s : State} (hi : s.Inv) (u : Nat) (loc : Loc) : (State.relocateAt s u loc).Inv := by
  unfold State.relocateAt
  repeat' first
    | with_reducible assumption | with_reducible apply State.onGmd_inv | with_reducible apply State.sysAgain_inv
    | with_reducible apply State.needPage_inv | with_reducible apply State.onMap_inv | with_reducible apply State.backLook_inv
    | with_reducible apply State.readCw_inv | split | refine State.inv_of_pair (by assumption) ?_

theorem State.relocateStripe_inv {s : State} (hi : s.Inv) (u i : Nat) : (State.relocateStripe s u i).Inv := by
  unfold State.relocateStripe
  repeat' first | with_reducible assumption | with_reducible apply State.relocateAt_inv | split | refine State.foldl_inv ?_ (fun _ _ hi => ?_) _

theorem State.addRepair_inv {s : State} (hi : s.Inv) (u i r : Nat) (old : Loc) (given : List (Nat × Payload)) : (State.addRepair s u i r old given).Inv := by
  unfold State.addRepair
  dsimp only
  repeat' first
    | with_reducible assumption | with_reducible apply State.onReb_inv | with_reducible apply State.readCw_inv | split
    | refine State.foldl_inv ?_ (fun _ _ hi => ?_) _

theorem State.reserve59_inv {s t : State} (hi : s.Inv) {q : Repair} {b : Nat} {l : Loc} (h : s.reserve59 q b = some (l, t)) : t.Inv := by
  have hn : ∀ {s : State}, s.Inv → (s.needUnit 59).2.Inv := fun h => State.needUnit_inv h 59
  have hc : ∀ {s : State}, s.Inv → (s.closeUnit 59).Inv := fun h => State.closeUnit_inv h 59
  unfold State.reserve59 at h
  extract_lets take n m at h
  have ht : ∀ {s t : State} {l : Loc}, s.Inv → take s = some (l, t) → t.Inv := by
    intro s t l hs ht
    dsimp only [take] at ht
    repeat' split at ht
    all_goals cases ht
    exact State.onUnit_inv (State.addExc_inv hs _ _) _ _
  split at h
  · cases h
  · split at h
    · next hx => cases h; exact ht (hn hi) hx
    · split at h
      · exact ht (hn (hc (hn hi))) h
      · cases h

theorem State.reserveSlot_inv {s : State} (hi : s.Inv) (slot : Nat) : (State.reserveSlot s slot).Inv := by
  unfold State.reserveSlot
  split
  · exact hi
  · split
    · exact hi
    · split
      · next hx =>
        obtain ⟨b, -, hb⟩ := Option.bind_eq_some_iff.1 hx
        obtain ⟨x, hx, he⟩ := Option.map_eq_some_iff.1 hb
        cases he
        exact State.onReb_inv (State.reserve59_inv hi hx)
      · split
        · exact State.onReb_inv (State.relocateStripe_inv hi _ _)
        · split
          · exact hi
          · exact State.event_inv (State.onReb_inv hi) _ _ _ _

theorem State.programSlot_inv {s : State} (hi : s.Inv) (slot : Nat) : (State.programSlot s slot).Inv := by
  unfold State.programSlot
  dsimp only
  repeat' first
    | with_reducible assumption | with_reducible apply State.tryXor_inv | with_reducible apply State.firstErase_inv
    | with_reducible apply State.intoRow_inv | split | refine State.issue_inv ?_ (by assumption)

theorem State.addStrip_inv {s : State} (hi : s.Inv) (q : Repair) : (State.addStrip s q).Inv := by
  unfold State.addStrip
  dsimp only
  repeat' first | with_reducible assumption | with_reducible apply State.onReb_inv | with_reducible apply State.addExc_inv | split

theorem State.repointStrip_inv {s : State} (hi : s.Inv) (q : Repair) : (State.repointStrip s q).Inv := by
  unfold State.repointStrip
  dsimp only
  repeat' first
    | with_reducible assumption | with_reducible apply State.backLook_inv | with_reducible apply State.applyEntry_inv
    | with_reducible apply State.journal_inv | with_reducible apply State.stampPage_inv | with_reducible apply State.onGmd_inv
    | with_reducible apply State.commitMapPage_inv | with_reducible apply State.commitGmdPage_inv | split
    | refine State.inv_of_pair (by assumption) ?_ | refine State.foldl_inv ?_ (fun _ _ hi => ?_) _

theorem State.batchStep_inv {s : State} (hi : s.Inv) : (State.batchStep s).Inv := by
  unfold State.batchStep
  dsimp only
  repeat' first
    | with_reducible assumption | with_reducible apply State.onReb_inv | with_reducible apply State.relocateStripe_inv
    | with_reducible apply State.reserveSlot_inv | with_reducible apply State.pushDir_inv | with_reducible apply State.programSlot_inv
    | with_reducible apply State.addStrip_inv | with_reducible apply State.readyAll_inv | with_reducible apply State.repointStrip_inv
    | with_reducible apply State.onMap_inv | split | refine State.inv_of_pair (by assumption) ?_ | refine State.foldl_inv ?_ (fun _ _ hi => ?_) _

theorem State.recordWord_inv {s : State} (hi : s.Inv) (w : FWord) (level : Nat) (climbed summary : Bool) : (State.recordWord s w level climbed summary).2.Inv := by
  unfold State.recordWord
  dsimp only
  refine State.onFlt_inv_of hi ?_ ?_
  · repeat' split
    all_goals simp [hi.counts]
  · split <;> exact seqAfter_range hi.seq.2

theorem State.faultEvent_inv {s : State} (hi : s.Inv) (w : FWord) (seq : Nat) : (State.faultEvent s w seq).Inv := by
  unfold State.faultEvent
  repeat' first | with_reducible assumption | with_reducible apply State.event_inv

theorem State.giveUpLease_inv {s : State} (hi : s.Inv) : (State.giveUpLease s).Inv := by
  unfold State.giveUpLease
  dsimp only
  repeat' first
    | with_reducible assumption | with_reducible apply State.sendLease_inv | with_reducible apply State.onPair_inv
    | with_reducible apply State.toInit_inv | with_reducible apply State.lapse_inv | with_reducible apply State.setPair_inv | split
    | exact fun _ => ⟨rfl, rfl⟩

theorem State.fenceRegion_inv {s : State} (hi : s.Inv) (r : Nat) : (State.fenceRegion s r).Inv := by
  unfold State.fenceRegion
  dsimp only
  repeat' first
    | with_reducible assumption | with_reducible apply State.pauseRebuild_inv | with_reducible apply State.giveUpLease_inv
    | with_reducible apply State.setFn_inv | with_reducible apply State.onFn_inv | with_reducible apply State.onSheet_inv
    | with_reducible apply State.recordWord_inv | exact State.onFlt_inv hi fun _ => ⟨rfl, id⟩ | split | exact fun _ => ⟨rfl, rfl, id⟩

theorem State.chipStop_inv {s : State} (hi : s.Inv) : (State.chipStop s).Inv := by
  unfold State.chipStop
  dsimp only
  repeat' first
    | with_reducible assumption | with_reducible apply State.onSheet_inv | with_reducible apply State.emit_inv
    | with_reducible apply State.onPair_inv | with_reducible apply State.onFlt_inv | split | exact fun _ => ⟨rfl, rfl⟩ | exact fun _ h => h | simp

theorem State.chipHandle_inv {s : State} (hi : s.Inv) (w : FWord) : (State.chipHandle s w).Inv := by
  unfold State.chipHandle
  dsimp only
  repeat' first
    | with_reducible assumption | with_reducible apply State.recordWord_inv | with_reducible apply State.chipStop_inv
    | with_reducible apply State.faultEvent_inv | with_reducible apply State.fenceRegion_inv | split

theorem State.promote_inv {s : State} (hi : s.Inv) (c : Node) : (State.promote s c).Inv := by
  unfold State.promote
  dsimp only
  repeat' first
    | with_reducible assumption | with_reducible apply State.onFlt_inv | with_reducible apply State.chipHandle_inv | split
    | exact fun _ => ⟨rfl, rfl⟩ | exact fun _ h => h | simp

theorem State.takeWord_inv {s : State} (hi : s.Inv) (c : Node) : (State.takeWord s c).Inv := by
  unfold State.takeWord
  dsimp only
  repeat' first | with_reducible assumption | with_reducible apply State.onFlt_inv | split | exact fun _ => ⟨rfl, rfl⟩ | exact fun _ h => h | simp

theorem State.counterLost_inv {s : State} (hi : s.Inv) (word : BitVec 64) : (State.counterLost s word).Inv := by
  unfold State.counterLost
  dsimp only
  repeat' first | with_reducible assumption | with_reducible apply State.onPmc_inv | split | exact fun _ => ⟨rfl, rfl⟩ | exact fun _ h => h | simp

theorem State.tcFault_inv {s : State} (hi : s.Inv) (word : BitVec 64) : (State.tcFault s word).Inv := by
  unfold State.tcFault
  dsimp only
  repeat' first | with_reducible assumption | with_reducible apply State.tcFix_inv | split

theorem State.withdraw_inv {s : State} (hi : s.Inv) (u : Nat) : (State.withdraw s u).Inv := by
  unfold State.withdraw
  dsimp only
  repeat' first
    | with_reducible assumption | with_reducible apply State.onFlt_inv | with_reducible apply State.retirePort_inv
    | with_reducible apply State.onCip_inv | split | refine State.foldl_inv ?_ (fun _ _ hi => ?_) _ | exact fun _ => ⟨rfl, rfl⟩
    | exact fun _ h => h | simp

theorem State.retireRule_inv {s : State} (hi : s.Inv) (w : BitVec 64) : (State.retireRule s w).Inv := by
  unfold State.retireRule
  dsimp only
  repeat' first
    | with_reducible assumption | with_reducible apply State.withdraw_inv | with_reducible apply State.onFlt_inv
    | with_reducible apply State.event_inv | split | exact fun _ => ⟨rfl, rfl⟩ | exact fun _ h => h | simp

theorem State.ackRecord_inv {s : State} (hi : s.Inv) (seq : Nat) : (State.ackRecord s seq).Inv := by
  unfold State.ackRecord
  repeat' first | with_reducible assumption | with_reducible apply State.onFlt_inv | split | exact fun _ => ⟨rfl, rfl⟩ | exact fun _ h => h | simp

theorem State.takeHeldWord_inv {s : State} (hi : s.Inv) (w : FWord) : (State.takeHeldWord s w).Inv := by
  unfold State.takeHeldWord
  dsimp only
  repeat' first
    | with_reducible assumption | with_reducible apply State.onBpd_inv | with_reducible apply State.chipHandle_inv
    | with_reducible apply State.recordWord_inv | with_reducible apply State.faultEvent_inv | with_reducible apply State.onFlt_inv | split
    | refine State.inv_of_pair (by assumption) ?_ | exact fun _ => ⟨rfl, rfl⟩ | exact fun _ h => h | simp

theorem State.pastDeadline_inv {s : State} (hi : s.Inv) (k : Nat) : (State.pastDeadline s k).Inv := by
  unfold State.pastDeadline
  repeat' first | with_reducible assumption | with_reducible apply State.closeStripe_inv | split

theorem State.mirrorOut_inv {s : State} (hi : s.Inv) (k : Nat) (l : List Payload) : (State.mirrorOut s k l).Inv := by
  unfold State.mirrorOut
  repeat' first | with_reducible assumption | with_reducible apply State.emit_inv | split | refine State.foldl_inv ?_ (fun _ _ hi => ?_) _

theorem State.mirrorLate_inv {s : State} (hi : s.Inv) (ord : Nat) : (State.mirrorLate s ord).Inv := by
  unfold State.mirrorLate
  repeat' first
    | with_reducible assumption | with_reducible apply State.onCmd_inv | with_reducible apply State.setPair_inv
    | with_reducible apply State.tryAll_inv

theorem State.applyRec_inv {s : State} (hi : s.Inv) (r : JRec) (jpos : Nat) : (State.applyRec s r jpos).Inv := by
  unfold State.applyRec
  dsimp only
  repeat' first
    | with_reducible assumption | with_reducible apply State.readyPage_inv | with_reducible apply State.applyEntry_inv
    | with_reducible apply State.stampPage_inv | with_reducible apply State.retCount_inv | with_reducible apply State.onSlot_inv
    | with_reducible apply State.onGmd_inv | split | refine State.inv_of_pair (by assumption) ?_ | refine State.foldl_inv ?_ (fun _ _ hi => ?_) _

theorem State.serveWait_inv {s : State} (hi : s.Inv) (w : MapWait) : (State.serveWait s w).Inv := by
  unfold State.serveWait
  repeat' first
    | with_reducible assumption | with_reducible apply State.serveRead_inv | with_reducible apply State.relocateAt_inv
    | with_reducible apply State.poisonSector_inv | split

theorem State.dropPkt_inv {s : State} (hi : s.Inv) (q : Nat) : (State.dropPkt s q).Inv := by
  unfold State.dropPkt
  repeat' first | with_reducible assumption | with_reducible apply State.onCell_inv

theorem State.endFetch_inv {s : State} (hi : s.Inv) (ord : Nat) : (State.endFetch s ord).Inv := by
  unfold State.endFetch
  dsimp only
  repeat' first
    | with_reducible assumption | with_reducible apply State.onCmd_inv | with_reducible apply State.onCell_inv
    | with_reducible apply State.finish_inv | with_reducible apply State.onSched_inv | with_reducible apply State.failCmd_inv
    | with_reducible apply State.settle_inv | with_reducible apply State.finishOk_inv | with_reducible apply State.tryAck_inv | split
    | exact fun _ => ⟨rfl, rfl⟩

theorem State.flushQp_inv {s : State} (hi : s.Inv) (q : Nat) : (State.flushQp s q).Inv := by
  unfold State.flushQp
  dsimp only
  repeat' first
    | with_reducible assumption | with_reducible apply State.onQp_inv | with_reducible apply State.onCell_inv
    | with_reducible apply State.onLog_inv | with_reducible apply State.onNvme_inv | with_reducible apply State.emit_inv
    | with_reducible apply State.endFetch_inv | split | refine State.foldl_inv ?_ (fun _ _ hi => ?_) _ | exact fun _ => ⟨rfl, rfl⟩

theorem State.failQp_inv {s : State} (hi : s.Inv) (q : Nat) : (State.failQp s q).Inv := by
  unfold State.failQp
  dsimp only
  repeat' first | with_reducible assumption | with_reducible apply State.flushQp_inv | with_reducible apply State.event_inv | split

theorem State.teardownCtl_inv {s : State} (hi : s.Inv) (c : Nat) : (State.teardownCtl s c).Inv := by
  unfold State.teardownCtl
  dsimp only
  repeat' first
    | with_reducible assumption | with_reducible apply State.flushQp_inv | with_reducible apply State.onNvme_inv | split
    | refine State.foldl_inv ?_ (fun _ _ hi => ?_) _

theorem State.closeQueue_inv {s : State} (hi : s.Inv) (q : Nat) : (State.closeQueue s q).Inv := by
  unfold State.closeQueue
  dsimp only
  repeat' first | with_reducible assumption | with_reducible apply State.teardownCtl_inv | with_reducible apply State.flushQp_inv | split

theorem State.countRetry_inv {s : State} (hi : s.Inv) (q : Nat) : (State.countRetry s q).2.Inv := by
  unfold State.countRetry
  dsimp only
  repeat' first | with_reducible assumption | with_reducible apply State.failQp_inv | with_reducible apply State.onQp_inv | split

theorem State.acceptPkt_inv {s : State} (hi : s.Inv) (h : PktHdr) : (State.acceptPkt s h).2.Inv := by
  unfold State.acceptPkt
  dsimp only
  repeat' first
    | with_reducible assumption | with_reducible apply State.dropPkt_inv | with_reducible apply State.onQp_inv
    | with_reducible apply State.sendCtl_inv | split

theorem State.toTimewait_inv {s : State} (hi : s.Inv) (q : Nat) : (State.toTimewait s q).Inv := by
  unfold State.toTimewait
  repeat' first | with_reducible assumption | with_reducible apply State.onQp_inv

theorem State.forwardWhole_inv {s : State} (hi : s.Inv) (ord : Nat) : (State.forwardWhole s ord).Inv := by
  unfold State.forwardWhole
  dsimp only
  repeat' first
    | with_reducible assumption | with_reducible apply State.onCell_inv | with_reducible apply State.emit_inv
    | with_reducible apply State.dropCmd_inv | split

theorem State.readAgain_inv {s : State} (hi : s.Inv) (q : Nat) (r : RdReq) : (State.readAgain s q r).Inv := by
  unfold State.readAgain
  dsimp only
  repeat' first
    | with_reducible assumption | with_reducible apply State.countRetry_inv | with_reducible apply State.sendPkt_inv
    | with_reducible apply State.onQp_inv | with_reducible apply State.reissue_inv | split | refine State.inv_of_pair (by assumption) ?_

theorem State.resend_inv {s : State} (hi : s.Inv) (q : Nat) : (State.resend s q).Inv := by
  unfold State.resend
  repeat' first | with_reducible assumption | with_reducible apply State.emit_inv | with_reducible apply State.onQp_inv | split

theorem State.freeSends_inv {s : State} (hi : s.Inv) (q : Nat) (psn : BitVec 24) : (State.freeSends s q psn).Inv := by
  unfold State.freeSends
  dsimp only
  repeat' first | with_reducible assumption | with_reducible apply State.onQp_inv | with_reducible apply State.onCell_inv

theorem State.sendData_inv {s : State} (hi : s.Inv) (q ord fuel : Nat) : (State.sendData s q ord fuel).Inv := by
  induction fuel generalizing s with
  | zero => exact hi
  | succ n ih =>
    unfold State.sendData
    dsimp only
    repeat' first
      | with_reducible assumption | with_reducible apply State.onCmd_inv | with_reducible apply State.takeSend_inv
      | with_reducible apply State.sendPkt_inv | with_reducible apply ih | split

theorem State.mbxDataOut_inv {s : State} (hi : s.Inv) (ord : Nat) (c : Cmd) (m : Nat) : (State.mbxDataOut s ord c m).Inv := by
  unfold State.mbxDataOut
  dsimp only
  repeat' first
    | with_reducible assumption | with_reducible apply State.onMbx_inv | with_reducible apply State.emit_inv
    | with_reducible apply State.onMgmt_inv | with_reducible apply State.countError_inv | with_reducible apply State.answer_inv
    | with_reducible apply State.dropCmd_inv | split | exact fun _ => ⟨rfl, rfl⟩ | exact fun _ h => h | simp

theorem State.smartCheck_inv {s : State} (hi : s.Inv) : (State.smartCheck s).Inv := by
  unfold State.smartCheck
  dsimp only
  repeat' first
    | with_reducible assumption | with_reducible apply State.onCtl_inv | with_reducible apply State.sendAen_inv | split
    | refine State.inv_of_pair (by assumption) ?_ | refine State.foldl_inv ?_ (fun _ _ hi => ?_) _

theorem State.needRange_inv {s : State} (hi : s.Inv) (ns lba len : Nat) : (State.needRange s ns lba len).Inv := by
  unfold State.needRange
  repeat' first | with_reducible assumption | with_reducible apply State.needPage_inv | split | refine State.foldl_inv ?_ (fun _ _ hi => ?_) _

theorem State.clearRange_inv {s : State} (hi : s.Inv) (ord ns lba len : Nat) (zeroes : Bool) : (State.clearRange s ord ns lba len zeroes).Inv := by
  unfold State.clearRange
  dsimp only
  repeat' first
    | with_reducible assumption | with_reducible apply State.supersede_inv | with_reducible apply State.applyEntry_inv
    | with_reducible apply State.retCount_inv | with_reducible apply State.journal_inv | with_reducible apply State.settleEmptied_inv
    | with_reducible apply State.stampPage_inv | split | refine State.foldl_inv ?_ (fun _ _ hi => ?_) _

theorem State.readyRanges_inv {s : State} (hi : s.Inv) (ns : Nat) (l : List (Nat × Nat)) (zeroes : Bool) : (State.readyRanges s ns l zeroes).2.Inv := by
  exact State.readyPages_inv hi (fun _ m h => State.needPage_inv h m none true) _

theorem State.clearCmd_inv {s : State} (hi : s.Inv) (ord : Nat) (c : Cmd) (zeroes : Bool) : (State.clearCmd s ord c zeroes).Inv := by
  unfold State.clearCmd
  dsimp only
  repeat' first
    | with_reducible assumption | with_reducible apply State.readyRanges_inv | with_reducible apply State.clearRange_inv
    | with_reducible apply State.onCmd_inv | with_reducible apply State.onSched_inv | with_reducible apply State.tryAck_inv | split
    | refine State.inv_of_pair (by assumption) ?_ | refine State.foldl_inv ?_ (fun _ _ hi => ?_) _ | exact fun _ => ⟨rfl, rfl⟩

theorem State.popCap_inv {s : State} (hi : s.Inv) (q : Nat) : (State.popCap s q).Inv := by
  unfold State.popCap
  dsimp only
  repeat' first | with_reducible assumption | with_reducible apply State.onQp_inv | with_reducible apply State.onCtl_inv | split

theorem State.endCap_inv {s : State} (hi : s.Inv) (q cid sct sc : Nat) (dnr : Bool) (dw0 : Nat) : (State.endCap s q cid sct sc dnr dw0).Inv := by
  unfold State.endCap
  dsimp only
  repeat' first | with_reducible assumption | with_reducible apply State.onCtl_inv | with_reducible apply State.returnCqe_inv | split

theorem State.sendPage_inv {s : State} (hi : s.Inv) (q : Nat) (c : Capsule) (page off len : Nat) : (State.sendPage s q c page off len).Inv := by
  unfold State.sendPage
  dsimp only
  repeat' first
    | with_reducible assumption | with_reducible apply State.sendPkt_inv | with_reducible apply State.takeSend_inv | split
    | refine State.foldl_inv ?_ (fun _ _ hi => ?_) _

theorem State.pageReply_inv {s : State} (hi : s.Inv) (q : Nat) (c : Capsule) (page off len : Nat) : (State.pageReply s q c page off len).Inv := by
  unfold State.pageReply
  repeat' first
    | with_reducible assumption | with_reducible apply State.popCap_inv | with_reducible apply State.sendPage_inv
    | with_reducible apply State.endCap_inv | split

theorem State.reserve_inv {s : State} (hi : s.Inv) (q t n : Nat) : (State.reserve s q t n).Inv := by
  unfold State.reserve
  dsimp only
  repeat' first | with_reducible assumption | with_reducible apply State.onNvme_inv | with_reducible apply State.emit_inv | split

theorem State.bindChain_inv {s : State} (hi : s.Inv) (tenant ns ch _q : Nat) : (State.bindChain s tenant ns ch _q).2.Inv := by
  unfold State.bindChain
  dsimp only
  repeat' first | with_reducible assumption | with_reducible apply State.onLog_inv | split | exact fun _ => ⟨rfl, rfl⟩

theorem State.sendForward_inv {s : State} (hi : s.Inv) (q : Nat) (c : Capsule) (k : CmdKind) : (State.sendForward s q c k).Inv := by
  unfold State.sendForward
  dsimp only
  repeat' first
    | with_reducible assumption | with_reducible apply State.onNvme_inv | with_reducible apply State.onQp_inv
    | with_reducible apply State.onSched_inv | with_reducible apply State.emit_inv | split | exact fun _ => ⟨rfl, rfl⟩

theorem State.insertModule_inv {s : State} (hi : s.Inv) (b : Nat) (d : ModuleDesc) : (State.insertModule s b d).Inv := by
  unfold State.insertModule
  dsimp only
  repeat' first
    | with_reducible assumption | with_reducible apply State.onModule_inv
    | exact State.onSheet_inv hi fun _ => ⟨rfl, putNth_length .., fun h => tabWf_filter h _⟩ | split

theorem State.onFeed_inv {s : State} (hi : s.Inv) (f : Feed) (g : FeedSt → FeedSt) : (State.onFeed s f g).Inv := by
  unfold State.onFeed
  repeat' first | with_reducible assumption | with_reducible apply State.onBpd_inv | split | exact fun _ => ⟨rfl, rfl⟩ | exact fun _ h => h | simp

theorem State.setShroud_inv {s : State} (hi : s.Inv) (sh : Shroud) (x : ShroudSt) : (State.setShroud s sh x).Inv := by
  unfold State.setShroud
  repeat' first | with_reducible assumption | with_reducible apply State.onPair_inv | split | exact fun _ => ⟨rfl, rfl⟩

theorem State.noteShroud_inv {s : State} (hi : s.Inv) (sh : Shroud) : (State.noteShroud s sh).Inv := by
  unfold State.noteShroud
  dsimp only
  repeat' first | with_reducible assumption | with_reducible apply State.setShroud_inv | with_reducible apply State.event_inv | split

theorem State.checkReach_inv {s : State} (hi : s.Inv) : (State.checkReach s).Inv := by
  unfold State.checkReach
  repeat' first | with_reducible assumption | with_reducible apply State.loseModule_inv | split | refine State.foldl_inv ?_ (fun _ _ hi => ?_) _

theorem State.toSingle_inv {s : State} (hi : s.Inv) : (State.toSingle s).Inv := by
  unfold State.toSingle
  repeat' first | with_reducible assumption | with_reducible apply State.setPair_inv | with_reducible apply State.tryAll_inv | split

theorem State.toActive_inv {s : State} (hi : s.Inv) : (State.toActive s).Inv := by
  unfold State.toActive
  repeat' first
    | with_reducible assumption | with_reducible apply State.onSched_inv | with_reducible apply State.setPair_inv | split
    | exact fun _ => ⟨rfl, rfl⟩

theorem State.sendResync_inv {s : State} (hi : s.Inv) : (State.sendResync s).Inv := by
  unfold State.sendResync
  dsimp only
  repeat' first
    | with_reducible assumption | with_reducible apply State.journal_inv | with_reducible apply State.emit_inv
    | with_reducible apply State.sjShip_inv | split | refine State.foldl_inv ?_ (fun _ _ hi => ?_) _

theorem State.lapsedJoin_inv {s : State} (hi : s.Inv) : (State.lapsedJoin s).Inv := by
  unfold State.lapsedJoin
  dsimp only
  repeat' first
    | with_reducible assumption | with_reducible apply State.setFn_inv | with_reducible apply State.discardAll_inv
    | with_reducible apply State.onPair_inv | with_reducible apply State.join_inv | split | exact fun _ => ⟨rfl, rfl⟩

theorem State.standbyBack_inv {s : State} (hi : s.Inv) : (State.standbyBack s).Inv := by
  unfold State.standbyBack
  repeat' first
    | with_reducible assumption | with_reducible apply State.onPair_inv | with_reducible apply State.setPair_inv | split
    | exact fun _ => ⟨rfl, rfl⟩

theorem State.heard_inv {s : State} (hi : s.Inv) (sh : Shroud) (m : LeaseMsg) : (State.heard s sh m).Inv := by
  unfold State.heard
  dsimp only
  repeat' first
    | with_reducible assumption | with_reducible apply State.noteShroud_inv | with_reducible apply State.onPair_inv
    | with_reducible apply State.powerFollow_inv | with_reducible apply State.modulePower_inv | with_reducible apply State.checkReach_inv
    | with_reducible apply State.lapse_inv | with_reducible apply State.lapsedJoin_inv | with_reducible apply State.toActive_inv
    | with_reducible apply State.toSingle_inv | with_reducible apply State.sendResync_inv | split | refine State.foldl_inv ?_ (fun _ _ hi => ?_) _
    | exact fun _ => ⟨rfl, rfl⟩

theorem State.followRclk_inv {s : State} (hi : s.Inv) (m : LeaseMsg) : (State.followRclk s m).Inv := by
  unfold State.followRclk
  repeat' first | with_reducible assumption | with_reducible apply State.onCip_inv | split | exact fun _ => ⟨rfl, rfl⟩ | exact fun _ h => h | simp

theorem State.takePast_inv {s : State} (hi : s.Inv) : (State.takePast s).Inv := by
  unfold State.takePast
  dsimp only
  repeat' first | with_reducible assumption | with_reducible apply State.takeLease_inv | split

theorem State.stopPast_inv {s : State} (hi : s.Inv) : (State.stopPast s).Inv := by
  unfold State.stopPast
  repeat' first | with_reducible assumption | with_reducible apply State.lapse_inv | split

theorem State.takeEnd_inv {s : State} (hi : s.Inv) : (State.takeEnd s).Inv := by
  unfold State.takeEnd
  dsimp only
  repeat' first
    | with_reducible assumption | with_reducible apply State.setFn_inv | with_reducible apply State.tcEmpty_inv
    | with_reducible apply State.onFn_inv | with_reducible apply State.onNvme_inv | with_reducible apply State.onPair_inv
    | with_reducible apply State.setPair_inv | with_reducible apply State.resumeRebuild_inv | with_reducible apply State.preloadPinned_inv
    | with_reducible apply State.tryAll_inv | split | exact fun _ => ⟨rfl, rfl⟩

theorem State.beginSwap_inv {s : State} (hi : s.Inv) : (State.beginSwap s).Inv := by
  unfold State.beginSwap
  dsimp only
  repeat' first
    | with_reducible assumption | with_reducible apply State.onPair_inv | with_reducible apply State.onFn_inv
    | with_reducible apply State.setFn_inv | with_reducible apply State.pauseRebuild_inv | with_reducible apply State.drainLog_inv
    | with_reducible apply State.emit_inv | split | exact fun _ => ⟨rfl, rfl⟩

theorem State.toMirror_inv {s : State} (hi : s.Inv) : (State.toMirror s).Inv := by
  unfold State.toMirror
  dsimp only
  repeat' first
    | with_reducible assumption | with_reducible apply State.onLog_inv | with_reducible apply State.openUnit_inv | split
    | exact fun _ => ⟨rfl, rfl⟩ | exact fun _ h => h | simp

theorem State.moduleSays_inv {s : State} (hi : s.Inv) (b : Nat) (c : SheetCmd) (code status : Nat) (res : SheetResult) (frames : List Payload) : (State.moduleSays s b c code status res frames).Inv := by
  unfold State.moduleSays
  repeat' first | with_reducible assumption | with_reducible apply State.onModule_inv | with_reducible apply State.emit_inv

theorem State.moduleDoes_inv {s : State} (hi : s.Inv) (b : Nat) (c : SheetCmd) (code : Nat) {f : Module → State} (hf : ∀ m, (f m).Inv) : (State.moduleDoes s b c code f).Inv := by
  unfold State.moduleDoes
  repeat' first | with_reducible assumption | with_reducible apply State.moduleSays_inv | apply hf | split

theorem State.dieOp_inv {s : State} (hi : s.Inv) (b : Nat) (c : SheetCmd) (code : Nat) (inRange : Module → Bool) {f : Module → State} (hf : ∀ m, (f m).Inv) : (State.dieOp s b c code inRange f).Inv := by
  unfold State.dieOp
  refine State.moduleDoes_inv hi b c code fun m => ?_
  repeat' first | with_reducible assumption | with_reducible apply State.moduleSays_inv | apply hf | split

theorem State.putPage_inv {s : State} (hi : s.Inv) (b die page : Nat) (l : List Payload) : (State.putPage s b die page l).Inv := by
  unfold State.putPage
  refine State.onSheet_inv hi fun x => ⟨rfl, rfl, fun h => ?_⟩
  exact foldl_tabWf h (fun t k ht => by split <;> [exact tabWf_tabPut ht _ _; exact ht]) _

theorem State.freePage_inv {s : State} (hi : s.Inv) (b die page : Nat) : (State.freePage s b die page).Inv := by
  unfold State.freePage
  repeat' first | with_reducible assumption | with_reducible apply State.putPage_inv | with_reducible apply State.tick_inv

theorem State.retestMin_inv {s : State} (hi : s.Inv) : (State.retestMin s).Inv := by
  unfold State.retestMin
  repeat' first | with_reducible assumption | with_reducible apply State.onFn_inv | split

theorem State.foreign_inv {s : State} (hi : s.Inv) (b : Nat) : (State.foreign s b).Inv := by
  unfold State.foreign
  repeat' first | with_reducible assumption | with_reducible apply State.event_inv | with_reducible apply State.setMod_inv | split

theorem State.toReady_inv {s : State} (hi : s.Inv) (b : Nat) : (State.toReady s b).Inv := by
  unfold State.toReady
  dsimp only
  repeat' first
    | with_reducible assumption | with_reducible apply State.setMod_inv | with_reducible apply State.retestMin_inv
    | with_reducible apply State.sendFence_inv | split

theorem State.forgetBay_inv {s : State} (hi : s.Inv) (b : Nat) : (State.forgetBay s b).Inv := by
  unfold State.forgetBay
  repeat' first
    | with_reducible assumption | with_reducible apply State.onMed_inv | with_reducible apply State.onReb_inv | split | exact fun _ => ⟨rfl, rfl⟩

theorem State.identify_inv {s : State} (hi : s.Inv) (b : Nat) (d : ModuleDesc) : (State.identify s b d).Inv := by
  unfold State.identify
  dsimp only
  repeat' first
    | with_reducible assumption | with_reducible apply State.foreign_inv | with_reducible apply State.onPort_inv
    | with_reducible apply State.forgetBay_inv | with_reducible apply State.onHealth_inv | with_reducible apply State.toReady_inv | split

theorem State.tookDesc_inv {s : State} (hi : s.Inv) (b page : Nat) (d : ModuleDesc) : (State.tookDesc s b page d).Inv := by
  unfold State.tookDesc
  dsimp only
  repeat' first
    | with_reducible assumption | with_reducible apply State.onPort_inv | with_reducible apply State.ask_inv
    | with_reducible apply State.identify_inv | split

theorem State.retireModule_inv {s : State} (hi : s.Inv) (b : Nat) : (State.retireModule s b).Inv := by
  unfold State.retireModule
  dsimp only
  repeat' first
    | with_reducible assumption | with_reducible apply State.foreign_inv | with_reducible apply State.loseModule_inv
    | with_reducible apply State.setMod_inv | with_reducible apply State.event_inv | with_reducible apply State.onPort_inv
    | with_reducible apply State.endOps_inv | with_reducible apply State.sjOff_inv | with_reducible apply State.checkSpace_inv | split

theorem State.enterService_inv {s : State} (hi : s.Inv) (b : Nat) : (State.enterService s b).Inv := by
  unfold State.enterService
  dsimp only
  repeat' first
    | with_reducible assumption | with_reducible apply State.setMod_inv | with_reducible apply State.onReb_inv
    | with_reducible apply State.onMed_inv | with_reducible apply State.onBlock_inv | with_reducible apply State.retireDie_inv
    | with_reducible apply State.ask_inv | with_reducible apply State.checkSpace_inv | with_reducible apply State.checkStrike_inv | split
    | refine State.foldl_inv ?_ (fun _ _ hi => ?_) _ | exact fun _ => ⟨rfl, rfl⟩

theorem State.retrain_inv {s : State} (hi : s.Inv) (b : Nat) : (State.retrain s b).Inv := by
  unfold State.retrain
  dsimp only
  repeat' first | with_reducible assumption | with_reducible apply State.onPort_inv

theorem State.retireLane_inv {s : State} (hi : s.Inv) (b l : Nat) : (State.retireLane s b l).Inv := by
  unfold State.retireLane
  dsimp only
  repeat' first
    | with_reducible assumption | with_reducible apply State.onPort_inv | with_reducible apply State.event_inv
    | with_reducible apply State.retirePort_inv | with_reducible apply State.retrain_inv | split

theorem State.attemptFailed_inv {s : State} (hi : s.Inv) (b : Nat) : (State.attemptFailed s b).Inv := by
  unfold State.attemptFailed
  dsimp only
  repeat' first
    | with_reducible assumption | with_reducible apply State.retrain_inv | with_reducible apply State.retirePort_inv
    | with_reducible apply State.onPort_inv | split

theorem State.portCameUp_inv {s : State} (hi : s.Inv) (b : Nat) : (State.portCameUp s b).Inv := by
  unfold State.portCameUp
  dsimp only
  repeat' first
    | with_reducible assumption | with_reducible apply State.onPort_inv | with_reducible apply State.setMod_inv
    | with_reducible apply State.identify_inv | with_reducible apply State.ask_inv | with_reducible apply State.sendFence_inv
    | with_reducible apply State.checkSpace_inv | with_reducible apply State.foreign_inv | split | refine State.foldl_inv ?_ (fun _ _ hi => ?_) _

theorem State.tryUp_inv {s : State} (hi : s.Inv) (b : Nat) : (State.tryUp s b).Inv := by
  unfold State.tryUp
  dsimp only
  repeat' first
    | with_reducible assumption | with_reducible apply State.retrain_inv | with_reducible apply State.onPort_inv
    | with_reducible apply State.replay_inv | with_reducible apply State.portCameUp_inv | split

theorem State.frameFailed_inv {s : State} (hi : s.Inv) (b : Nat) : (State.frameFailed s b).Inv := by
  unfold State.frameFailed
  dsimp only
  repeat' first
    | with_reducible assumption | with_reducible apply State.raiseBlock_inv | with_reducible apply State.onPort_inv
    | with_reducible apply State.retirePort_inv | with_reducible apply State.retrain_inv | with_reducible apply State.checkSpace_inv | split

theorem State.replayAll_inv {s : State} (hi : s.Inv) (b : Nat) : (State.replayAll s b).Inv := by
  unfold State.replayAll
  dsimp only
  repeat' first
    | with_reducible assumption | with_reducible apply State.replay_inv | with_reducible apply State.onPort_inv
    | with_reducible apply State.emit_inv | with_reducible apply State.raise_inv | split

theorem State.uncorrectable_inv {s : State} (hi : s.Inv) (b : Nat) : (State.uncorrectable s b).Inv := by
  unfold State.uncorrectable
  dsimp only
  repeat' first
    | with_reducible assumption | with_reducible apply State.freeNat_inv | with_reducible apply State.onPort_inv
    | with_reducible apply State.retireLane_inv | split

theorem State.noteTemp_inv {s : State} (hi : s.Inv) (b : Nat) (t : Int) : (State.noteTemp s b t).Inv := by
  unfold State.noteTemp
  dsimp only
  repeat' first
    | with_reducible assumption | with_reducible apply State.onPort_inv | with_reducible apply State.onHealth_inv
    | with_reducible apply State.ask_inv | with_reducible apply State.monitor_inv | with_reducible apply State.checkSpace_inv | split

theorem State.resetDie_inv {s : State} (hi : s.Inv) (b die : Nat) : (State.resetDie s b die).Inv := by
  unfold State.resetDie
  repeat' first | with_reducible assumption | split | refine State.issue_inv ?_ (by assumption) | with_reducible apply State.issue_getD_inv

theorem State.dieTimeout_inv {s : State} (hi : s.Inv) (b die : Nat) : (State.dieTimeout s b die).Inv := by
  unfold State.dieTimeout
  dsimp only
  repeat' first
    | with_reducible assumption | with_reducible apply State.dieReset_inv | with_reducible apply State.onPort_inv
    | with_reducible apply State.retireDie_inv | split

theorem State.outOfRow_inv {s : State} (hi : s.Inv) (u b row : Nat) (frames : List Payload) : (State.outOfRow s u b row frames).Inv := by
  unfold State.outOfRow
  repeat' first
    | with_reducible assumption | with_reducible apply State.onLog_inv | with_reducible apply State.rowWithoutXor_inv | split
    | exact fun _ => ⟨rfl, rfl⟩

theorem State.rootFailed_inv {s : State} (hi : s.Inv) : (State.rootFailed s).Inv := by
  unfold State.rootFailed
  dsimp only
  repeat' first
    | with_reducible assumption | with_reducible apply State.issueRoot_inv | with_reducible apply State.onLog_inv | split
    | exact fun _ => ⟨rfl, rfl⟩

theorem State.programFailed_inv {s : State} (hi : s.Inv) (b : Nat) (op : SheetOp) : (State.programFailed s b op).Inv := by
  unfold State.programFailed
  dsimp only
  repeat' first
    | with_reducible assumption | with_reducible apply State.onHealth_inv | with_reducible apply State.raise_inv
    | with_reducible apply State.growBad_inv | with_reducible apply State.onLog_inv | with_reducible apply State.outOfRow_inv
    | with_reducible apply State.tryXor_inv | with_reducible apply State.abandonStripe_inv | with_reducible apply State.rowWithoutXor_inv
    | with_reducible apply State.onReb_inv | with_reducible apply State.moveRing_inv | with_reducible apply State.rootFailed_inv
    | with_reducible apply State.strikeRedo_inv | with_reducible apply State.firstErase_inv | split | refine State.inv_of_pair (by assumption) ?_
    | exact fun _ => ⟨rfl, rfl⟩

theorem State.eraseFailed_inv {s : State} (hi : s.Inv) (b : Nat) (op : SheetOp) : (State.eraseFailed s b op).Inv := by
  unfold State.eraseFailed
  dsimp only
  repeat' first
    | with_reducible assumption | with_reducible apply State.onHealth_inv | with_reducible apply State.raise_inv
    | with_reducible apply State.growBad_inv | with_reducible apply State.eraseStep_inv | with_reducible apply State.firstErase_inv
    | with_reducible apply State.abandonStripe_inv | split | refine State.inv_of_pair (by assumption) ?_
    | refine State.foldl_inv ?_ (fun _ _ hi => ?_) _

theorem State.failOp_inv {s : State} (hi : s.Inv) (b : Nat) (op : SheetOp) : (State.failOp s b op).Inv := by
  unfold State.failOp
  repeat' first
    | with_reducible assumption | with_reducible apply State.programFailed_inv | with_reducible apply State.eraseFailed_inv
    | with_reducible apply State.endOp_inv | split

theorem State.reissue_inv {s : State} (hi : s.Inv) (b : Nat) (op : SheetOp) : (State.reissue s b op).Inv := by
  unfold State.reissue
  repeat' first
    | with_reducible assumption | with_reducible apply State.raise_inv | with_reducible apply State.failOp_inv
    | with_reducible apply State.onRd_inv | with_reducible apply State.firstErase_inv | with_reducible apply State.endOp_inv | split
    | refine State.issue_inv ?_ (by assumption)

theorem State.tookStatus_inv {s : State} (hi : s.Inv) (b epoch owner flags : Nat) (res : SheetResult) : (State.tookStatus s b epoch owner flags res).Inv := by
  unfold State.tookStatus
  dsimp only
  repeat' first | with_reducible assumption | with_reducible apply State.onPort_inv | with_reducible apply State.retireModule_inv | split

theorem State.opDone_inv {s : State} (hi : s.Inv) (b : Nat) (op : SheetOp) (res : SheetResult) : (State.opDone s b op res).Inv := by
  unfold State.opDone
  dsimp only
  repeat' first
    | with_reducible assumption | with_reducible apply State.onPort_inv | with_reducible apply State.dieReset_inv
    | with_reducible apply State.blockProgrammed_inv | with_reducible apply State.blockErased_inv | with_reducible apply State.toDecode_inv
    | with_reducible apply State.memberDone_inv | with_reducible apply State.firstErase_inv | with_reducible apply State.eraseStep_inv
    | with_reducible apply State.sjDone_inv | with_reducible apply State.onLog_inv | with_reducible apply State.ckptStep_inv
    | with_reducible apply State.strikeStep_inv | with_reducible apply State.strikeEnd_inv | with_reducible apply State.onReb_inv
    | with_reducible apply State.tryHalf_inv | with_reducible apply State.tookStatus_inv | with_reducible apply State.raise_inv
    | with_reducible apply State.identify_inv | with_reducible apply State.tookDesc_inv | with_reducible apply State.retireModule_inv
    | with_reducible apply State.foreign_inv | with_reducible apply State.noteTemp_inv | with_reducible apply State.enterService_inv
    | with_reducible apply State.setMod_inv | split | refine State.inv_of_pair (by assumption) ?_ | exact fun _ => ⟨rfl, rfl⟩

theorem State.respond_inv {s : State} (hi : s.Inv) (b : Nat) (op : SheetOp) (code : Nat) (res : SheetResult) : (State.respond s b op code res).Inv := by
  unfold State.respond
  dsimp only
  repeat' first
    | with_reducible assumption | with_reducible apply State.raise_inv | with_reducible apply State.endOp_inv
    | with_reducible apply State.retireModule_inv | with_reducible apply State.retireDie_inv | with_reducible apply State.opDone_inv
    | with_reducible apply State.programFailed_inv | with_reducible apply State.eraseFailed_inv | with_reducible apply State.staleLease_inv
    | with_reducible apply State.setMod_inv | with_reducible apply State.reissue_inv | with_reducible apply State.resetDie_inv
    | with_reducible apply State.dieTimeout_inv | with_reducible apply State.failOp_inv | split

theorem State.goOn_inv {s : State} (hi : s.Inv) : (State.goOn s).Inv := by
  unfold State.goOn
  repeat' first
    | with_reducible assumption | with_reducible apply State.kick_inv | with_reducible apply State.tryHalf_inv
    | with_reducible apply State.ckptStep_inv | with_reducible apply State.tryAll_inv | with_reducible apply State.strikeEnd_inv

theorem State.freeTag_inv {s : State} (hi : s.Inv) (b tag : Nat) : (State.freeTag s b tag).Inv := by
  unfold State.freeTag
  repeat' first | with_reducible assumption | with_reducible apply State.onPort_inv

theorem State.tookTag_inv {s : State} (hi : s.Inv) (b tag st code : Nat) : (State.tookTag s b tag st code).Inv := by
  unfold State.tookTag
  dsimp only
  repeat' first
    | with_reducible assumption | with_reducible apply State.freeTag_inv | with_reducible apply State.onPort_inv
    | with_reducible apply State.respond_inv | with_reducible apply State.programFailed_inv | with_reducible apply State.reissue_inv | split

theorem State.opTimedOut_inv {s : State} (hi : s.Inv) (b tag : Nat) (op : SheetOp) : (State.opTimedOut s b tag op).Inv := by
  unfold State.opTimedOut
  dsimp only
  repeat' first
    | with_reducible assumption | with_reducible apply State.onPort_inv | with_reducible apply State.raise_inv
    | with_reducible apply State.dieTimeout_inv | with_reducible apply State.failOp_inv | with_reducible apply State.resetDie_inv
    | with_reducible apply State.ask_inv | with_reducible apply State.programFailed_inv | with_reducible apply State.reissue_inv
    | with_reducible apply State.retireDie_inv | with_reducible apply State.freeTag_inv | with_reducible apply State.goOn_inv | split

theorem State.lateSheet_inv {s : State} (hi : s.Inv) (b tag : Nat) (op : SheetOp) : (State.lateSheet s b tag op).Inv := by
  unfold State.lateSheet
  repeat' first | with_reducible assumption | with_reducible apply State.opTimedOut_inv | with_reducible apply State.countLate_inv | split

theorem State.restoreLane_inv {s : State} (hi : s.Inv) (l : Nat) (e : LaneEntry) : (State.restoreLane s l e).Inv := by
  unfold State.restoreLane
  dsimp only
  repeat' first | with_reducible assumption | with_reducible apply State.onSched_inv | split | exact fun _ => ⟨rfl, rfl⟩

theorem State.restoreBudgets_inv {s : State} (hi : s.Inv) : (State.restoreBudgets s).Inv := by
  unfold State.restoreBudgets
  repeat' first | with_reducible assumption | with_reducible apply State.restoreLane_inv | split | refine State.foldl_inv ?_ (fun _ _ hi => ?_) _

theorem State.thermalGroups_inv {s : State} (hi : s.Inv) : (State.thermalGroups s).Inv := by
  unfold State.thermalGroups
  dsimp only
  repeat' first | with_reducible assumption | with_reducible apply State.reqOff_inv | with_reducible apply State.onTc_inv | split

theorem State.quiesce_inv {s : State} (hi : s.Inv) (b : Nat) : (State.quiesce s b).Inv := by
  unfold State.quiesce
  repeat' first | with_reducible assumption | with_reducible apply State.ask_inv | split

theorem State.enableBay_inv {s : State} (hi : s.Inv) (b : Nat) : (State.enableBay s b).Inv := by
  unfold State.enableBay
  dsimp only
  repeat' first
    | with_reducible assumption | with_reducible apply State.onChan_inv | with_reducible apply State.toggle_inv
    | with_reducible apply State.chanTry_inv | split

theorem State.disableBay_inv {s : State} (hi : s.Inv) (b : Nat) : (State.disableBay s b).Inv := by
  unfold State.disableBay
  dsimp only
  repeat' first | with_reducible assumption | with_reducible apply State.onChan_inv | with_reducible apply State.setChan_inv | split

theorem State.programCounters_inv {s : State} (hi : s.Inv) (first : Nat) (sels : List (BitVec 32)) : (State.programCounters s first sels).Inv := by
  unfold State.programCounters
  repeat' first
    | with_reducible assumption | with_reducible apply State.onPmc_inv | split | refine State.foldl_inv ?_ (fun _ _ hi => ?_) _
    | exact fun _ => ⟨rfl, rfl⟩ | exact fun _ h => h | simp

theorem State.shredKey_inv {s : State} (hi : s.Inv) (slot : Nat) : (State.shredKey s slot).Inv := by
  unfold State.shredKey
  dsimp only
  repeat' first | with_reducible assumption | with_reducible apply State.onUnit_inv | split | refine State.foldl_inv ?_ (fun _ _ hi => ?_) _

theorem State.setKey_inv {s : State} (hi : s.Inv) (slot : Nat) (k : KeySlot) : (State.setKey s slot k).Inv := by
  unfold State.setKey
  dsimp only
  repeat' first
    | with_reducible assumption | with_reducible apply State.onCip_inv | with_reducible apply State.emit_inv
    | with_reducible apply State.keyEmpty_inv | with_reducible apply State.shredKey_inv | split | exact fun _ => ⟨rfl, rfl⟩ | exact fun _ h => h
    | simp

theorem State.liveOk_inv {s : State} (hi : s.Inv) (m : Nat) (result : List (BitVec 8)) : (State.liveOk s m result).Inv := by
  unfold State.liveOk
  dsimp only
  repeat' first | with_reducible assumption | with_reducible apply State.answer_inv

theorem State.applyChange_inv {s : State} (hi : s.Inv) (m : Nat) (c : LiveChange) : (State.applyChange s m c).2.Inv := by
  unfold State.applyChange
  dsimp only
  repeat' first
    | with_reducible assumption | with_reducible apply State.onFn_inv | with_reducible apply State.live_inv
    | with_reducible apply State.checkBay_inv | with_reducible apply State.liveOk_inv | with_reducible apply State.answer_inv
    | with_reducible apply State.onEvq_inv | with_reducible apply State.evqSignal_inv | with_reducible apply State.onMgmt_inv
    | with_reducible apply State.programCounters_inv | with_reducible apply State.onPmc_inv | with_reducible apply State.onChan_inv
    | with_reducible apply State.enableBay_inv | with_reducible apply State.quiesce_inv | with_reducible apply State.disableBay_inv
    | with_reducible apply State.toggle_inv | with_reducible apply State.chanTry_inv | with_reducible apply State.setKey_inv
    | with_reducible apply State.pushKey_inv | with_reducible apply State.onCip_inv | with_reducible apply State.event_inv
    | with_reducible apply State.onMed_inv | with_reducible apply State.onNet_inv | with_reducible apply State.rulesBegin_inv | split
    | refine State.foldl_inv ?_ (fun _ _ hi => ?_) _ | exact fun _ => ⟨rfl, rfl⟩ | exact fun _ h => h | simp

theorem State.applyChanges_inv {s : State} (hi : s.Inv) : (State.applyChanges s).Inv := by
  unfold State.applyChanges
  dsimp only
  repeat' first
    | with_reducible assumption | with_reducible apply State.applyChange_inv | with_reducible apply State.onFn_inv | split
    | refine State.inv_of_pair (by assumption) ?_ | refine State.foldl_inv ?_ (fun _ _ hi => ?_) _

theorem State.sealCharge_inv {s : State} (hi : s.Inv) : (State.sealCharge s).Inv := by
  unfold State.sealCharge
  dsimp only
  repeat' first
    | with_reducible assumption | with_reducible apply State.onCmd_inv | with_reducible apply State.onSched_inv | split
    | refine State.foldl_inv ?_ (fun _ _ hi => ?_) _ | exact fun _ => ⟨rfl, rfl⟩

theorem State.pathStatus_inv {s : State} (hi : s.Inv) (h : Head) : (State.pathStatus s h).Inv := by
  unfold State.pathStatus
  dsimp only
  repeat' first
    | with_reducible assumption | with_reducible apply State.returnCredit_inv | with_reducible apply State.returnCqe_inv
    | with_reducible apply State.emit_inv | with_reducible apply State.answer_inv | split

theorem State.countHost_inv {s : State} (hi : s.Inv) (h : Head) (len : Nat) : (State.countHost s h len).Inv := by
  unfold State.countHost
  repeat' first | with_reducible assumption | with_reducible apply State.onNvme_inv | split

theorem State.takeHead_inv {s : State} (hi : s.Inv) (h : Head) : (State.takeHead s h).Inv := by
  unfold State.takeHead
  extract_lets ord lba len srcCh chain count spent c span s1 s2 s3 s4 ret s5 w s6 s7
  have h1 : s1.Inv := State.onSched_inv hi fun _ => ⟨rfl, rfl⟩
  have h2 : s2.Inv := State.countHost_inv h1 _ _
  have h3 : s3.Inv := by
    dsimp only [s3]
    repeat' split
    · exact State.onQp_inv h2 _ _
    all_goals exact h2
  have h4 : s4.Inv := by
    dsimp only [s4]
    split
    · exact State.onLog_inv h3 fun _ => ⟨rfl, rfl⟩
    · exact h3
  have h5 : s5.Inv := by
    dsimp only [s5]
    split
    · exact State.retAppend_inv h4 _ _ _
    · exact h4
  have h6 : s6.Inv := by
    dsimp only [s6]
    repeat' split
    · exact State.onCip_inv (State.freeNat_inv h5) fun _ => rfl
    all_goals exact h5
  have h7 : s7.Inv := State.onCmd_inv h6 _ _
  split
  · exact State.finish_inv (State.returnCredit_inv h7 _) _ _ _ _ _
  · exact h7

theorem State.track_inv {s : State} (hi : s.Inv) (b die bin : Nat) (imb : Option (List Int)) : (State.track s b die bin imb).Inv := by
  unfold State.track
  dsimp only
  repeat' first
    | with_reducible assumption | with_reducible apply State.onMed_inv | with_reducible apply State.onFn_inv | split | exact fun _ => ⟨rfl, rfl⟩

theorem State.moveShift_inv {s : State} (hi : s.Inv) (b die block n : Nat) : (State.moveShift s b die block n).Inv := by
  unfold State.moveShift
  dsimp only
  repeat' first | with_reducible assumption | with_reducible apply State.onBlock_inv | split

theorem State.retryHit_inv {s : State} (hi : s.Inv) (b die block n : Nat) : (State.retryHit s b die block n).Inv := by
  unfold State.retryHit
  repeat' first | with_reducible assumption | with_reducible apply State.moveShift_inv | with_reducible apply State.queueRewrite_inv

theorem State.countDecode_inv {s : State} (hi : s.Inv) (b : Nat) (d : Decode) : (State.countDecode s b d).Inv := by
  unfold State.countDecode
  repeat' first | with_reducible assumption | with_reducible apply State.onHealth_inv

theorem State.checkWear_inv {s : State} (hi : s.Inv) (b : Nat) : (State.checkWear s b).Inv := by
  unfold State.checkWear
  dsimp only
  repeat' first | with_reducible assumption | with_reducible apply State.monitor_inv

theorem State.leaveJournal_inv {s : State} (hi : s.Inv) : (State.leaveJournal s).Inv := by
  unfold State.leaveJournal
  dsimp only
  repeat' first | with_reducible assumption | with_reducible apply State.onReb_inv | with_reducible apply State.setReb_inv | split

theorem State.journalStep_inv {s : State} (hi : s.Inv) : (State.journalStep s).Inv := by
  unfold State.journalStep
  dsimp only
  repeat' first
    | with_reducible assumption | with_reducible apply State.event_inv | with_reducible apply State.onReb_inv
    | with_reducible apply State.leaveJournal_inv | split | refine State.foldl_inv ?_ (fun _ _ hi => ?_) _

theorem State.pastStripe_inv {s : State} (hi : s.Inv) (u i : Nat) : (State.pastStripe s u i).Inv := by
  unfold State.pastStripe
  repeat' first | with_reducible assumption | with_reducible apply State.onReb_inv

theorem State.rebuildStripe_inv {s : State} (hi : s.Inv) (u i : Nat) (critical : Bool) : (State.rebuildStripe s u i critical).Inv := by
  unfold State.rebuildStripe
  dsimp only
  repeat' first
    | with_reducible assumption | with_reducible apply State.pastStripe_inv | with_reducible apply State.relocateStripe_inv
    | with_reducible apply State.onReb_inv | with_reducible apply State.event_inv | with_reducible apply State.addRepair_inv
    | with_reducible apply State.chargeBack_inv | split | refine State.foldl_inv ?_ (fun _ _ hi => ?_) _

theorem State.rebuildStep_inv {s : State} (hi : s.Inv) : (State.rebuildStep s).Inv := by
  unfold State.rebuildStep
  repeat' first
    | with_reducible assumption | with_reducible apply State.journal_inv | with_reducible apply State.journalStep_inv
    | with_reducible apply State.onReb_inv | with_reducible apply State.setReb_inv | with_reducible apply State.rebuildStripe_inv | split

theorem State.sweepEntry_inv {s : State} (hi : s.Inv) (ns lba : Nat) (e : MapEntry) : (State.sweepEntry s ns lba e).Inv := by
  unfold State.sweepEntry
  dsimp only
  repeat' first
    | with_reducible assumption | with_reducible apply State.applyEntry_inv | with_reducible apply State.journal_inv
    | with_reducible apply State.stampPage_inv | with_reducible apply State.poisonSector_inv | split

theorem State.streamPage_inv {s : State} (hi : s.Inv) (mpn : Nat) : (State.streamPage s mpn).Inv := by
  unfold State.streamPage
  dsimp only
  repeat' first | with_reducible assumption | with_reducible apply State.startFill_inv | split | refine State.foldl_inv ?_ (fun _ _ hi => ?_) _

theorem State.countSilent_inv {s : State} (hi : s.Inv) (u i r : Nat) : (State.countSilent s u i r).Inv := by
  unfold State.countSilent
  dsimp only
  repeat' first
    | with_reducible assumption | with_reducible apply State.onHealth_inv | with_reducible apply State.checkBay_inv
    | with_reducible apply State.event_inv | split

theorem State.located_inv {s : State} (hi : s.Inv) (u i r : Nat) (fixed : List (Nat × Payload)) : (State.located s u i r fixed).Inv := by
  unfold State.located
  dsimp only
  repeat' first
    | with_reducible assumption | with_reducible apply State.countSilent_inv | with_reducible apply State.onReb_inv
    | with_reducible apply State.addRepair_inv | with_reducible apply State.chargeBack_inv | split

theorem State.stripeBeyond_inv {s : State} (hi : s.Inv) (u i : Nat) (roles : List Nat) (faulty : List Loc) : (State.stripeBeyond s u i roles faulty).Inv := by
  unfold State.stripeBeyond
  dsimp only
  repeat' first
    | with_reducible assumption | with_reducible apply State.event_inv | with_reducible apply State.countSilent_inv
    | with_reducible apply State.recordLost_inv | with_reducible apply State.relocateStripe_inv | split
    | refine State.foldl_inv ?_ (fun _ _ hi => ?_) _

theorem State.compareStripe_inv {s : State} (hi : s.Inv) (u i : Nat) : (State.compareStripe s u i).Inv := by
  unfold State.compareStripe
  dsimp only
  repeat' first | with_reducible assumption | with_reducible apply State.located_inv | with_reducible apply State.stripeBeyond_inv | split

theorem State.compareRow_inv {s : State} (hi : s.Inv) (u b row : Nat) : (State.compareRow s u b row).Inv := by
  unfold State.compareRow
  dsimp only
  repeat' first
    | with_reducible assumption | with_reducible apply State.onReb_inv | with_reducible apply State.onHealth_inv
    | with_reducible apply State.checkBay_inv | with_reducible apply State.event_inv | with_reducible apply State.onUnit_inv | split

theorem State.lateRows_inv {s : State} (hi : s.Inv) : (State.lateRows s).Inv := by
  unfold State.lateRows
  dsimp only
  repeat' first
    | with_reducible assumption | with_reducible apply State.compareRow_inv | with_reducible apply State.onReb_inv | split
    | refine State.foldl_inv ?_ (fun _ _ hi => ?_) _

theorem State.patrolAdvance_inv {s : State} (hi : s.Inv) : (State.patrolAdvance s).Inv := by
  unfold State.patrolAdvance
  dsimp only
  repeat' first
    | with_reducible assumption | with_reducible apply State.onReb_inv | with_reducible apply State.compareStripe_inv
    | with_reducible apply State.lateRows_inv | with_reducible apply State.compareRow_inv | with_reducible apply State.onMed_inv | split
    | refine State.foldl_inv ?_ (fun _ _ hi => ?_) _ | exact fun _ => ⟨rfl, rfl⟩ | exact fun _ h => h | simp

theorem State.patrolRun_inv {s : State} (hi : s.Inv) (fuel n : Nat) : (State.patrolRun fuel n s).Inv := by
  induction fuel generalizing s n with
  | zero => exact hi
  | succ k ih =>
    unfold State.patrolRun
    dsimp only
    repeat' first
      | with_reducible assumption | with_reducible apply State.onReb_inv | with_reducible apply State.chargeBack_inv
      | with_reducible apply State.readCw_inv | with_reducible apply State.patrolAdvance_inv | with_reducible apply ih | split

theorem State.armCounters_inv {s : State} (hi : s.Inv) (sec : Option PmcSection) : (State.armCounters s sec).Inv := by
  unfold State.armCounters
  dsimp only
  repeat' first
    | with_reducible assumption | with_reducible apply State.onPmc_inv | split | refine State.foldl_inv ?_ (fun _ _ hi => ?_) _
    | exact fun _ => ⟨rfl, rfl⟩ | exact fun _ h => h | simp

theorem State.countUp_inv {s : State} (hi : s.Inv) (i add : Nat) (h : Happening) : (State.countUp s i add h).Inv := by
  unfold State.countUp
  dsimp only
  repeat' first | with_reducible assumption | with_reducible apply State.onPmc_inv | split | exact fun _ => ⟨rfl, rfl⟩ | exact fun _ h => h | simp

theorem State.smpHead_inv {s : State} (hi : s.Inv) (bank value : Nat) : (State.smpHead s bank value).Inv := by
  unfold State.smpHead
  repeat' first | with_reducible assumption | with_reducible apply State.onPmc_inv | split | exact fun _ => ⟨rfl, rfl⟩ | exact fun _ h => h | simp

theorem State.evqHead_inv {s : State} (hi : s.Inv) (q value : Nat) : (State.evqHead s q value).Inv := by
  unfold State.evqHead
  dsimp only
  repeat' first | with_reducible assumption | with_reducible apply State.onEvq_inv | with_reducible apply State.evqSignal_inv | split

theorem State.unmask_inv {s : State} (hi : s.Inv) (v : Nat) : (State.unmask s v).Inv := by
  unfold State.unmask
  dsimp only
  repeat' first
    | with_reducible assumption | with_reducible apply State.msix_inv | with_reducible apply State.onMgmt_inv | with_reducible apply State.emit_inv
    | split | exact fun _ => ⟨rfl, rfl⟩ | exact fun _ h => h | simp

theorem State.logAer_inv {s : State} (hi : s.Inv) (bit : Nat) : (State.logAer s bit).Inv := by
  unfold State.logAer
  repeat' first | with_reducible assumption | with_reducible apply State.onMgmt_inv | split | exact fun _ => ⟨rfl, rfl⟩ | exact fun _ h => h | simp

theorem State.setTag_inv {s : State} (hi : s.Inv) (t : Nat) (x : Option TagState) : (State.setTag s t x).Inv := by
  unfold State.setTag
  repeat' first | with_reducible assumption | with_reducible apply State.onMgmt_inv | split | exact fun _ => ⟨rfl, rfl⟩ | exact fun _ h => h | simp

theorem State.fetchRefused_inv {s : State} (hi : s.Inv) (m status : Nat) : (State.fetchRefused s m status).Inv := by
  unfold State.fetchRefused
  repeat' first
    | with_reducible assumption | with_reducible apply State.onMbx_inv | with_reducible apply State.answer_inv | split | exact fun _ => ⟨rfl, rfl⟩
    | exact fun _ h => h

theorem State.mastersOff_inv {s : State} (hi : s.Inv) : s.mastersOff.Inv := by
  unfold State.mastersOff
  dsimp only
  refine State.onMgmt_inv (State.onMgmt_inv hi fun _ => ⟨rfl, rfl, rfl, rfl, id⟩) fun x => ⟨rfl, List.length_map _, rfl, rfl, fun h m hm => ?_⟩
  obtain ⟨b, hb, rfl⟩ := List.mem_map.1 hm
  split
  all_goals exact h b hb

theorem State.mastersOn_inv {s : State} (hi : s.Inv) : (State.mastersOn s).Inv := by
  unfold State.mastersOn
  dsimp only
  repeat' first
    | with_reducible assumption | with_reducible apply State.evqWrite_inv | with_reducible apply State.onEvq_inv
    | with_reducible apply State.msix_inv | with_reducible apply State.onMgmt_inv | with_reducible apply State.emit_inv
    | with_reducible apply State.onMbx_inv | with_reducible apply State.answer_inv | split | refine State.foldl_inv ?_ (fun _ _ hi => ?_) _
    | exact fun _ => ⟨rfl, rfl⟩ | exact fun _ h => h | simp

theorem State.mbxRegWrite_inv {s : State} (hi : s.Inv) (m k : Nat) (v : BitVec 32) : (State.mbxRegWrite s m k v).Inv := by
  unfold State.mbxRegWrite
  repeat' first
    | with_reducible assumption | with_reducible apply State.go_inv | with_reducible apply State.onMbx_inv | split | exact fun _ => ⟨rfl, rfl⟩
    | exact fun _ h => h

theorem State.mbxBufWrite_inv {s : State} (hi : s.Inv) (m off : Nat) (v : BitVec 32) : (State.mbxBufWrite s m off v).Inv := by
  unfold State.mbxBufWrite
  refine State.onMbx_inv hi m fun x h => ?_
  split
  · exact h
  · exact List.foldlRecOn (motive := fun t => bufWf t = true) _ _ h fun t ht k _ => bufWf_tabPutD ht _ _

theorem State.msixWrite_inv {s : State} (hi : s.Inv) (k : Nat) (v : BitVec 32) : (State.msixWrite s k v).Inv := by
  unfold State.msixWrite
  dsimp only
  repeat' first
    | with_reducible assumption | with_reducible apply State.onMgmt_inv | with_reducible apply State.msix_inv
    | with_reducible apply State.unmask_inv | split | exact fun _ => ⟨rfl, rfl⟩ | exact fun _ h => h | simp

theorem State.tcRegWrite_inv {s : State} (hi : s.Inv) (off : Nat) (v : BitVec 32) : (State.tcRegWrite s off v).Inv := by
  unfold State.tcRegWrite
  dsimp only
  repeat' first
    | with_reducible assumption | with_reducible apply State.goRange_inv | with_reducible apply State.onTc_inv
    | with_reducible apply State.lockWays_inv | with_reducible apply State.reqOff_inv | split

theorem State.pmcWrite_inv {s : State} (hi : s.Inv) (b off : Nat) (v : BitVec 32) : (State.pmcWrite s b off v).Inv := by
  unfold State.pmcWrite
  dsimp only
  repeat' first
    | with_reducible assumption | with_reducible apply State.onPmc_inv | with_reducible apply State.smpHead_inv | split | exact fun _ => ⟨rfl, rfl⟩
    | exact fun _ h => h | simp

theorem State.write32_inv {s : State} (hi : s.Inv) (client : RegClient) (off : Nat) (v : BitVec 32) : (State.write32 s client off v).Inv := by
  unfold State.write32
  dsimp only
  repeat' first
    | with_reducible assumption | with_reducible apply State.mbxRegWrite_inv | with_reducible apply State.mbxBufWrite_inv
    | with_reducible apply State.tcRegWrite_inv | with_reducible apply State.ackRecord_inv | with_reducible apply State.msixWrite_inv
    | with_reducible apply State.evqHead_inv | with_reducible apply State.onEvq_inv | with_reducible apply State.onBpd_inv
    | with_reducible apply State.pmcWrite_inv | split | exact fun _ => ⟨rfl, rfl⟩ | exact fun _ h => h | simp

theorem State.dropDatagram_inv {s : State} (hi : s.Inv) : (State.dropDatagram s).Inv := by
  unfold State.dropDatagram
  repeat' first | with_reducible assumption | with_reducible apply State.onMgmt_inv | split | exact fun _ => ⟨rfl, rfl⟩ | exact fun _ h => h | simp

theorem State.endSession_inv {s : State} (hi : s.Inv) (i : Nat) : (State.endSession s i).Inv := by
  unfold State.endSession
  refine State.onMbx_inv (State.onMgmt_inv hi ?_) _ fun x h => ?_
  · exact fun _ => ⟨rfl, rfl, rfl, putNth_length .., id⟩
  split
  · exact h
  · rfl

theorem State.fnStart_inv {s : State} (hi : s.Inv) : (State.fnStart s).Inv := by
  unfold State.fnStart
  dsimp only
  repeat' first
    | with_reducible assumption | with_reducible apply State.tcEmpty_inv | with_reducible apply State.onFn_inv
    | with_reducible apply State.setFn_inv | with_reducible apply State.preloadPinned_inv | with_reducible apply State.setPair_inv | split

theorem State.fnStop_inv {s : State} (hi : s.Inv) (m : Nat) : (State.fnStop s m).Inv := by
  unfold State.fnStop
  dsimp only
  repeat' first
    | with_reducible assumption | with_reducible apply State.onFn_inv | with_reducible apply State.setFn_inv
    | with_reducible apply State.pauseRebuild_inv | with_reducible apply State.startCkpt_inv | with_reducible apply State.mbxOk_inv
    | with_reducible apply State.standbyBack_inv | with_reducible apply State.drainLog_inv | split

theorem State.eraseModules_inv {s : State} (hi : s.Inv) : (State.eraseModules s).Inv := by
  unfold State.eraseModules
  dsimp only
  refine State.onMed_inv (State.onSheet_inv_of hi ?_ ?_ ?_) fun _ => ⟨rfl, rfl⟩
  · simp
  · simp
  · simp [hi.media]

theorem State.format_inv {s : State} (hi : s.Inv) (i : RigImage) : (State.format s i).Inv := by
  unfold State.format
  dsimp only
  refine State.checkSpace_inv (State.newEpoch_inv (State.onRd_inv (State.onMap_inv (State.onReb_inv (State.onLog_inv_of ?_ rfl ?_)))))
  · refine State.onBoot_inv (State.onCip_inv (State.draw_inv (State.onFn_inv (State.eraseModules_inv (State.tcEmpty_inv hi)))) fun _ => rfl) fun _ => rfl
  · exact (State.eraseModules_inv (State.tcEmpty_inv hi)).halves

theorem State.dropNamespaces_inv {s : State} (hi : s.Inv) (i : RigImage) : (State.dropNamespaces s i).Inv := by
  unfold State.dropNamespaces
  dsimp only
  repeat' first
    | with_reducible assumption | with_reducible apply State.dropLine_inv | with_reducible apply State.onLog_inv
    | with_reducible apply State.onCip_inv | split | refine State.foldl_inv ?_ (fun _ _ hi => ?_) _ | exact fun _ => ⟨rfl, rfl⟩
    | exact fun _ h => h | simp

theorem State.applyKept_inv {s : State} (hi : s.Inv) : (State.applyKept s).Inv := by
  unfold State.applyKept
  repeat' first
    | with_reducible assumption | with_reducible apply State.onFn_inv | with_reducible apply State.setKey_inv
    | with_reducible apply State.applyChange_inv | split | refine State.inv_of_pair (by assumption) ?_
    | refine State.foldl_inv ?_ (fun _ _ hi => ?_) _

theorem State.armDone_inv {s : State} (hi : s.Inv) (m : Nat) (i : RigImage) : (State.armDone s m i).Inv := by
  unfold State.armDone
  dsimp only
  repeat' first
    | with_reducible assumption | with_reducible apply State.onFn_inv | with_reducible apply State.dropNamespaces_inv
    | with_reducible apply State.applyKept_inv | with_reducible apply State.armCounters_inv | with_reducible apply State.onBoot_inv
    | with_reducible apply State.onNet_inv | with_reducible apply State.setFn_inv | with_reducible apply State.sdtChange_inv
    | with_reducible apply State.resumeRebuild_inv | with_reducible apply State.checkStrike_inv | with_reducible apply State.mbxOk_inv | split
    | exact fun _ => ⟨rfl, rfl⟩ | exact fun _ h => h | simp

theorem State.armFail_inv {s : State} (hi : s.Inv) (m status detail : Nat) : (State.armFail s m status detail).Inv := by
  unfold State.armFail
  repeat' first | with_reducible assumption | with_reducible apply State.armDropped_inv | with_reducible apply State.mbxFail_inv

theorem State.armStep_inv {s : State} (hi : s.Inv) (m format : Nat) : (State.armStep s m format).Inv := by
  unfold State.armStep
  dsimp only
  repeat' first
    | with_reducible assumption | with_reducible apply State.format_inv | with_reducible apply State.armFail_inv
    | with_reducible apply State.onFn_inv | with_reducible apply State.ckptStep_inv | with_reducible apply State.startCkpt_inv
    | with_reducible apply State.armDone_inv | split

theorem State.armStart_inv {s : State} (hi : s.Inv) (m format : Nat) : (State.armStart s m format).Inv := by
  unfold State.armStart
  dsimp only
  repeat' first
    | with_reducible assumption | with_reducible apply State.format_inv | with_reducible apply State.mbxFail_inv
    | with_reducible apply State.armStep_inv | split

theorem State.rigLoad_inv {s : State} (hi : s.Inv) (m : Nat) (i : RigImage) : (State.rigLoad s m i).Inv := by
  unfold State.rigLoad
  dsimp only
  repeat' first
    | with_reducible assumption | with_reducible apply State.format_inv | with_reducible apply State.mbxFail_inv
    | with_reducible apply State.onFn_inv | with_reducible apply State.eventState_inv | with_reducible apply State.setFn_inv
    | with_reducible apply State.mbxOk_inv | split

theorem State.rigRules_inv {s : State} (hi : s.Inv) (m : Nat) (c : ClsSection) : (State.rigRules s m c).Inv := by
  unfold State.rigRules
  dsimp only
  repeat' first
    | with_reducible assumption | with_reducible apply State.mbxFail_inv | with_reducible apply State.answer_inv
    | with_reducible apply State.live_inv | split

theorem State.peerBay_inv {s : State} (hi : s.Inv) (b : Nat) : (State.peerBay s b).2.Inv := by
  unfold State.peerBay
  dsimp only
  repeat' first | with_reducible assumption | with_reducible apply State.freeNat_inv

theorem State.modClear_inv {s : State} (hi : s.Inv) (b : Nat) : (State.modClear s b).Inv := by
  unfold State.modClear
  dsimp only
  repeat' first
    | with_reducible assumption | with_reducible apply State.onPort_inv | with_reducible apply State.setMod_inv
    | with_reducible apply State.powerFollow_inv | with_reducible apply State.portCameUp_inv | split

theorem State.mbxStore_inv {s : State} (hi : s.Inv) (m ns : Nat) (kind : CmdKind) (cap : Capsule) (data : List (Nat × Sector)) (marked : List Nat) : (State.mbxStore s m ns kind cap data marked).Inv := by
  unfold State.mbxStore
  dsimp only
  repeat' first | with_reducible assumption | with_reducible apply State.mbxFail_inv | with_reducible apply State.enqueue_inv | split

theorem State.keyGone_inv {s : State} (hi : s.Inv) (slot : Nat) : (State.keyGone s slot).Inv := by
  unfold State.keyGone
  repeat' first
    | with_reducible assumption | with_reducible apply State.onCip_inv | with_reducible apply State.keyEmpty_inv | split
    | exact fun _ => ⟨rfl, rfl⟩ | exact fun _ h => h | simp

theorem State.keyLive_inv {s : State} (hi : s.Inv) (m slot : Nat) (k : KeySlot) : (State.keyLive s m slot k).Inv := by
  unfold State.keyLive
  repeat' first
    | with_reducible assumption | with_reducible apply State.onFn_inv | with_reducible apply State.mbxOk_inv | with_reducible apply State.live_inv
    | split

theorem State.placeKey_inv {s : State} (hi : s.Inv) (m slot mode : Nat) (material : BitVec 512) : (State.placeKey s m slot mode material).Inv := by
  unfold State.placeKey
  dsimp only
  repeat' first | with_reducible assumption | with_reducible apply State.keyLive_inv

theorem State.liveSettings_inv {s : State} (hi : s.Inv) (m : Nat) (l : List (Nat × Nat)) : (State.liveSettings s m l).Inv := by
  unfold State.liveSettings
  dsimp only
  repeat' first | with_reducible assumption | with_reducible apply State.live_inv | split | refine State.foldl_inv ?_ (fun _ _ hi => ?_) _

theorem State.bootRom_inv {s : State} (hi : s.Inv) : (State.bootRom s).Inv := by
  unfold State.bootRom
  dsimp only
  repeat' first
    | with_reducible assumption | with_reducible apply State.onBoot_inv | with_reducible apply State.event_inv | split | exact fun _ => ⟨rfl, rfl⟩
    | exact fun _ h => h | simp

theorem State.testFault_inv {s : State} (hi : s.Inv) (u : Nat) : (State.testFault s u).Inv := by
  unfold State.testFault
  dsimp only
  repeat' first
    | with_reducible assumption | with_reducible apply State.recordWord_inv | with_reducible apply State.faultEvent_inv
    | with_reducible apply State.fenceRegion_inv | with_reducible apply State.onFn_inv | with_reducible apply State.setFn_inv | split

theorem State.selfTests_inv {s : State} (hi : s.Inv) (fails : List (Nat × Nat)) : (State.selfTests s fails).Inv := by
  unfold State.selfTests
  dsimp only
  repeat' first
    | with_reducible assumption | with_reducible apply State.withdraw_inv | with_reducible apply State.testFault_inv
    | with_reducible apply State.onBoot_inv | split | refine State.foldl_inv ?_ (fun _ _ hi => ?_) _ | exact fun _ => ⟨rfl, rfl⟩
    | exact fun _ h => h | simp

theorem State.enableBays_inv {s : State} (hi : s.Inv) (ok : Bool) : (State.enableBays s ok).Inv := by
  unfold State.enableBays
  dsimp only
  repeat' first
    | with_reducible assumption | with_reducible apply State.enableBay_inv | with_reducible apply State.onBoot_inv
    | with_reducible apply State.onChan_inv | with_reducible apply State.powerFollow_inv | split | refine State.foldl_inv ?_ (fun _ _ hi => ?_) _
    | exact fun _ => ⟨rfl, rfl⟩ | exact fun _ h => h | simp

theorem State.refuse_inv {s : State} (hi : s.Inv) (cause : Nat) : (State.refuse s cause).Inv := by
  unfold State.refuse
  dsimp only
  repeat' first
    | with_reducible assumption | with_reducible apply State.onFn_inv | with_reducible apply State.onBoot_inv
    | with_reducible apply State.onPair_inv | with_reducible apply State.eventState_inv | with_reducible apply State.setFn_inv | split
    | exact fun _ => ⟨rfl, rfl⟩ | exact fun _ h => h | simp

theorem State.imageFound_inv {s : State} (hi : s.Inv) (i : RigImage) : (State.imageFound s i).Inv := by
  unfold State.imageFound
  dsimp only
  repeat' first
    | with_reducible assumption | with_reducible apply State.onFn_inv | with_reducible apply State.onLog_inv
    | with_reducible apply State.onBoot_inv | with_reducible apply State.onMgmt_inv | with_reducible apply State.faultEvent_inv
    | with_reducible apply State.identify_inv | with_reducible apply State.foreign_inv | split | refine State.foldl_inv ?_ (fun _ _ hi => ?_) _
    | exact fun _ => ⟨rfl, rfl⟩ | exact fun _ h => h | simp

theorem State.shelfRead_inv {s : State} (hi : s.Inv) (roots : List RootFound) (image : Option RigImage) (readable : Bool) : (State.shelfRead s roots image readable).Inv := by
  unfold State.shelfRead
  dsimp only
  repeat' first
    | with_reducible assumption | with_reducible apply State.onBoot_inv | with_reducible apply State.onPair_inv
    | with_reducible apply State.refuse_inv | with_reducible apply State.imageFound_inv | with_reducible apply State.setFn_inv | split
    | exact fun _ => ⟨rfl, rfl⟩ | exact fun _ h => h | simp

theorem State.missingBays_inv {s : State} (hi : s.Inv) : (State.missingBays s).Inv := by
  unfold State.missingBays
  dsimp only
  repeat' first
    | with_reducible assumption | with_reducible apply State.foreign_inv | with_reducible apply State.addLoss_inv | split
    | refine State.foldl_inv ?_ (fun _ _ hi => ?_) _

theorem State.loaded_inv {s : State} (hi : s.Inv) : (State.loaded s).Inv := by
  unfold State.loaded
  dsimp only
  repeat' first
    | with_reducible assumption | with_reducible apply State.onFn_inv | with_reducible apply State.armCounters_inv
    | with_reducible apply State.missingBays_inv | with_reducible apply State.setFn_inv | with_reducible apply State.checkStrike_inv
    | with_reducible apply State.resumeRebuild_inv | with_reducible apply State.onBoot_inv | split | exact fun _ => ⟨rfl, rfl⟩ | exact fun _ h => h
    | simp

theorem State.startEnd_inv {s : State} (hi : s.Inv) : (State.startEnd s).Inv := by
  unfold State.startEnd
  dsimp only
  repeat' first
    | with_reducible assumption | with_reducible apply State.tcEmpty_inv | with_reducible apply State.setFn_inv
    | with_reducible apply State.setPair_inv | with_reducible apply State.onBoot_inv | split | exact fun _ => ⟨rfl, rfl⟩ | exact fun _ h => h
    | simp

end Sys2Proof.Machine
end

section
/-! SUPPORT. What every step keeps (`State.Inv`), under the commands, and from them the invariant of every step. -/

namespace Sys2Proof.Machine

theorem execFrontFrameRx_inv (port : Fin 8) (sub : Fin 4) (raw : RxFrame) {s t : State} (hi : s.Inv) (he : execFrontFrameRx port sub raw s = .next t) : t.Inv := by
  cases he
  repeat' first | with_reducible assumption | with_reducible apply State.onFront_inv | split

theorem execClassify_inv (port : Fin 8) (pseq : Nat) {s t : State} (hi : s.Inv) (he : execClassify port pseq s = .next t) : t.Inv := by
  cases he
  dsimp only
  repeat' first
    | with_reducible assumption | with_reducible apply State.onFront_inv | with_reducible apply State.onNet_inv
    | with_reducible apply State.release_inv | with_reducible apply State.releaseParked_inv | with_reducible apply State.recordFragment_inv | split
    | refine State.foldl_inv ?_ (fun _ _ hi => ?_) _ | exact fun _ => ⟨rfl, rfl⟩ | simp

theorem execReorderRelease_inv (port : Fin 8) {s t : State} (hi : s.Inv) (he : execReorderRelease port s = .next t) : t.Inv := by
  cases he
  repeat' first | with_reducible assumption | with_reducible apply State.onFront_inv | with_reducible apply State.switchFrame_inv | split

theorem execFragmentEntryExpiry_inv (key : FragKey) {s t : State} (hi : s.Inv) (he : execFragmentEntryExpiry key s = .next t) : t.Inv := by
  cases he
  repeat' first | with_reducible assumption | with_reducible apply State.onNet_inv | split | exact fun _ => ⟨rfl, rfl⟩ | simp

theorem execFragmentParkTimeout_inv (port : Fin 8) (pseq : Nat) {s t : State} (hi : s.Inv) (he : execFragmentParkTimeout port pseq s = .next t) : t.Inv := by
  cases he
  repeat' first | with_reducible assumption | with_reducible apply State.releaseParked_inv | split

theorem execControlPortFrame_inv (port : Fin 8) (kind : CtlFrame) {s t : State} (hi : s.Inv) (he : execControlPortFrame port kind s = .next t) : t.Inv := by
  cases he
  dsimp only
  repeat' first
    | with_reducible assumption | with_reducible apply State.onNet_inv | with_reducible apply State.freeNat_inv
    | with_reducible apply State.onClk_inv | with_reducible apply State.emit_inv | split | refine State.inv_of_pair (by assumption) ?_
    | exact fun _ => ⟨rfl, rfl⟩ | simp

theorem execRuleUpdatePortStep_inv (lport : Fin 32) {s t : State} (hi : s.Inv) (he : execRuleUpdatePortStep lport s = .next t) : t.Inv := by
  cases he
  dsimp only
  repeat' first
    | with_reducible assumption | with_reducible apply State.onNet_inv | with_reducible apply State.onFront_inv
    | with_reducible apply State.emit_inv | with_reducible apply State.rulesSettle_inv | split | refine State.foldl_inv ?_ (fun _ _ hi => ?_) _
    | exact fun _ => ⟨rfl, rfl⟩ | simp

theorem execPfcFrameRx_inv (port : Fin 8) (sub : Fin 4) (prios : BitVec 8) (quanta : Nat) {s t : State} (hi : s.Inv) (he : execPfcFrameRx port sub prios quanta s = .next t) : t.Inv := by
  cases he
  dsimp only
  repeat' first
    | with_reducible assumption | with_reducible apply State.onNet_inv | split | refine State.foldl_inv ?_ (fun _ _ hi => ?_) _
    | exact fun _ => ⟨rfl, rfl⟩ | simp

theorem execPfcPauseExpiry_inv (port : Fin 8) (sub : Fin 4) (prio : Fin 8) {s t : State} (hi : s.Inv) (he : execPfcPauseExpiry port sub prio s = .next t) : t.Inv := by
  cases he
  repeat' first
    | with_reducible assumption | with_reducible apply State.onNet_inv | split | refine State.foldl_inv ?_ (fun _ _ hi => ?_) _
    | exact fun _ => ⟨rfl, rfl⟩ | simp

theorem execPfcXoffRepeat_inv (port : Fin 8) (sub : Fin 4) (prio : Fin 8) {s t : State} (hi : s.Inv) (he : execPfcXoffRepeat port sub prio s = .next t) : t.Inv := by
  cases he
  dsimp only
  repeat' first
    | with_reducible assumption | with_reducible apply State.emit_inv | with_reducible apply State.onNet_inv | split | exact fun _ => ⟨rfl, rfl⟩
    | simp

theorem execFrontLinkChange_inv (port : Fin 8) (up : Bool) {s t : State} (hi : s.Inv) (he : execFrontLinkChange port up s = .next t) : t.Inv := by
  cases he
  dsimp only
  repeat' first
    | with_reducible assumption | with_reducible apply State.onFront_inv | with_reducible apply State.raise_inv
    | with_reducible apply State.event_inv | split

theorem execSwitchMatch_inv (cell : Fin 7680) {s t : State} (hi : s.Inv) (he : execSwitchMatch cell s = .next t) : t.Inv := by
  cases he
  repeat' first
    | with_reducible assumption | with_reducible apply State.takeStorage_inv | with_reducible apply State.onNet_inv
    | with_reducible apply State.moveCell_inv | split | refine State.foldl_inv ?_ (fun _ _ hi => ?_) _ | exact fun _ => ⟨rfl, rfl⟩ | simp

theorem execTcFillComplete_inv (la : Nat) {s t : State} (hi : s.Inv) (he : execTcFillComplete la s = .next t) : t.Inv := by
  cases he
  dsimp only
  repeat' first
    | with_reducible assumption | with_reducible apply State.onTc_inv | with_reducible apply State.fillWay_inv | with_reducible apply State.pin_inv
    | with_reducible apply State.countFill_inv | with_reducible apply State.servePool_inv | with_reducible apply State.nextMiss_inv
    | with_reducible apply State.putLine_inv | with_reducible apply State.serveAll_inv | split

theorem execTcWritebackTimer_inv {s t : State} (hi : s.Inv) (he : execTcWritebackTimer s = .next t) : t.Inv := by
  cases he
  repeat' first | with_reducible assumption | with_reducible apply State.writeBack_inv | split | refine State.foldl_inv ?_ (fun _ _ hi => ?_) _

theorem execTcLockWaysWrite_inv (value : BitVec 32) {s t : State} (hi : s.Inv) (he : execTcLockWaysWrite value s = .next t) : t.Inv := by
  cases he
  repeat' first | with_reducible assumption | with_reducible apply State.lockWays_inv

theorem execTcWayPwrWrite_inv (value : BitVec 32) {s t : State} (hi : s.Inv) (he : execTcWayPwrWrite value s = .next t) : t.Inv := by
  cases he
  repeat' first | with_reducible assumption | with_reducible apply State.reqOff_inv

theorem execTcGroupPowerDownDone_inv (g : Fin 4) {s t : State} (hi : s.Inv) (he : execTcGroupPowerDownDone g s = .next t) : t.Inv := by
  cases he
  repeat' first
    | with_reducible assumption | with_reducible apply State.reqOff_inv | with_reducible apply State.dropWays_inv
    | with_reducible apply State.unreserve_inv | with_reducible apply State.onTc_inv | split

theorem execTcGroupPowerUpDone_inv (g : Fin 4) {s t : State} (hi : s.Inv) (he : execTcGroupPowerUpDone g s = .next t) : t.Inv := by
  cases he
  repeat' first | with_reducible assumption | with_reducible apply State.reqOff_inv | with_reducible apply State.onTc_inv | split

theorem execTcInvalidate_inv (op : RangeOp) {s t : State} (hi : s.Inv) (he : execTcInvalidate op s = .next t) : t.Inv := by
  cases he
  repeat' first | with_reducible assumption | with_reducible apply State.goRange_inv

theorem execTcClean_inv (op : RangeOp) {s t : State} (hi : s.Inv) (he : execTcClean op s = .next t) : t.Inv := by
  cases he
  repeat' first | with_reducible assumption | with_reducible apply State.goRange_inv

theorem execTcCleanInvalidate_inv (op : RangeOp) {s t : State} (hi : s.Inv) (he : execTcCleanInvalidate op s = .next t) : t.Inv := by
  cases he
  repeat' first | with_reducible assumption | with_reducible apply State.goRange_inv

theorem execTcPreload_inv (op : RangeOp) {s t : State} (hi : s.Inv) (he : execTcPreload op s = .next t) : t.Inv := by
  cases he
  repeat' first | with_reducible assumption | with_reducible apply State.goRange_inv

theorem execTcPreloadLock_inv (op : RangeOp) {s t : State} (hi : s.Inv) (he : execTcPreloadLock op s = .next t) : t.Inv := by
  cases he
  repeat' first | with_reducible assumption | with_reducible apply State.goRange_inv

theorem execTcLockChangeDone_inv {s t : State} (hi : s.Inv) (he : execTcLockChangeDone s = .next t) : t.Inv := by
  cases he
  repeat' first
    | with_reducible assumption | with_reducible apply State.dropWays_inv | with_reducible apply State.onTc_inv
    | with_reducible apply State.nextPin_inv | split

theorem execTcRangeDone_inv {s t : State} (hi : s.Inv) (he : execTcRangeDone s = .next t) : t.Inv := by
  cases he
  dsimp only
  repeat' first
    | with_reducible assumption | with_reducible apply State.rangeAdvance_inv | with_reducible apply State.onTc_inv
    | with_reducible apply State.rangeAnswer_inv | with_reducible apply State.nextPin_inv | split

theorem execFaultRaise_inv (word : BitVec 64) {s t : State} (hi : s.Inv) (he : execFaultRaise word s = .next t) : t.Inv := by
  cases he
  dsimp only
  repeat' first
    | with_reducible assumption | with_reducible apply State.raiseWord_inv | with_reducible apply State.counterLost_inv
    | with_reducible apply State.tcFault_inv | split

theorem execFaultConcentratorTake_inv (unit : Nat) {s t : State} (hi : s.Inv) (he : execFaultConcentratorTake unit s = .next t) : t.Inv := by
  cases he
  repeat' first | with_reducible assumption | with_reducible apply State.promote_inv | with_reducible apply State.takeWord_inv | split

theorem execFaultHandlingEnd_inv (unit : Nat) (completed : Bool) {s t : State} (hi : s.Inv) (he : execFaultHandlingEnd unit completed s = .next t) : t.Inv := by
  cases he
  dsimp only
  repeat' first
    | with_reducible assumption | with_reducible apply State.onFlt_inv | with_reducible apply State.promote_inv
    | with_reducible apply State.recordWord_inv | with_reducible apply State.raiseWord_inv | with_reducible apply State.faultEvent_inv
    | with_reducible apply State.retireRule_inv | with_reducible apply State.chipHandle_inv | split | refine State.inv_of_pair (by assumption) ?_
    | exact fun _ => ⟨rfl, rfl⟩ | simp

theorem execCwnAckWrite_inv (seq : Nat) {s t : State} (hi : s.Inv) (he : execCwnAckWrite seq s = .next t) : t.Inv := by
  cases he
  repeat' first | with_reducible assumption | with_reducible apply State.ackRecord_inv | split

theorem execBpdWordsDelivered_inv {s t : State} (hi : s.Inv) (he : execBpdWordsDelivered s = .next t) : t.Inv := by
  cases he
  dsimp only
  repeat' first
    | with_reducible assumption | with_reducible apply State.onFlt_inv | with_reducible apply State.onBpd_inv
    | with_reducible apply State.takeHeldWord_inv | with_reducible apply State.freeNat_inv | split | refine State.inv_of_pair (by assumption) ?_
    | refine State.foldl_inv ?_ (fun _ _ hi => ?_) _ | exact fun _ => ⟨rfl, rfl⟩ | simp

theorem execFStopResetTimer_inv {s t : State} (hi : s.Inv) (he : execFStopResetTimer s = .next t) : t.Inv := by
  cases he
  dsimp only
  repeat' first
    | with_reducible assumption | with_reducible apply State.onClk_inv | with_reducible apply State.onFlt_inv
    | with_reducible apply State.dieReset_inv | split | exact fun _ => ⟨rfl, rfl⟩ | simp

theorem execWritePlace_inv (ord : Nat) (unit : Nat) {s t : State} (hi : s.Inv) (he : execWritePlace ord unit s = .next t) : t.Inv := by
  cases he
  dsimp only
  repeat' first
    | with_reducible assumption | with_reducible apply State.checkSpace_inv | with_reducible apply State.failCmd_inv
    | with_reducible apply State.onLog_inv | with_reducible apply State.event_inv | with_reducible apply State.pastDeadline_inv
    | with_reducible apply State.placeSectors_inv | with_reducible apply State.mirrorOut_inv | with_reducible apply State.journal_inv
    | with_reducible apply State.onCmd_inv | with_reducible apply State.onCell_inv | with_reducible apply State.settle_inv
    | with_reducible apply State.tryAck_inv | split | exact fun _ => ⟨rfl, rfl⟩

theorem execMirrorConfirm_inv (ord : Nat) {s t : State} (hi : s.Inv) (he : execMirrorConfirm ord s = .next t) : t.Inv := by
  cases he
  repeat' first
    | with_reducible assumption | with_reducible apply State.countLate_inv | with_reducible apply State.mirrorLate_inv
    | with_reducible apply State.onCmd_inv | with_reducible apply State.tryAck_inv | split

theorem execMirrorTimeout_inv (ord : Nat) {s t : State} (hi : s.Inv) (he : execMirrorTimeout ord s = .next t) : t.Inv := by
  cases he
  repeat' first | with_reducible assumption | with_reducible apply State.mirrorLate_inv | split

theorem execMirrorDataRx_inv (stream : Fin 64) (payload : Payload) {s t : State} (hi : s.Inv) (he : execMirrorDataRx stream payload s = .next t) : t.Inv := by
  cases he
  repeat' first
    | with_reducible assumption | with_reducible apply State.onLog_inv | with_reducible apply State.emit_inv | split | exact fun _ => ⟨rfl, rfl⟩

theorem execLogShipRecordRx_inv (r : ShipRec) {s t : State} (hi : s.Inv) (he : execLogShipRecordRx r s = .next t) : t.Inv := by
  cases he
  dsimp only
  repeat' first
    | with_reducible assumption | with_reducible apply State.journal_inv | with_reducible apply State.onLog_inv
    | with_reducible apply State.applyRec_inv | with_reducible apply State.noteStripe_inv | with_reducible apply State.onNvme_inv
    | with_reducible apply State.tookSysPage_inv | with_reducible apply State.installPage_inv | with_reducible apply State.onCip_inv | split
    | refine State.inv_of_pair (by assumption) ?_ | exact fun _ => ⟨rfl, rfl⟩ | simp

theorem execStripeDeadline_inv (stream : Fin 64) {s t : State} (hi : s.Inv) (he : execStripeDeadline stream s = .next t) : t.Inv := by
  cases he
  dsimp only
  repeat' first
    | with_reducible assumption | with_reducible apply State.journal_inv | with_reducible apply State.flushTail_inv
    | with_reducible apply State.closeStripe_inv | split

theorem execJournalPageTimer_inv {s t : State} (hi : s.Inv) (he : execJournalPageTimer s = .next t) : t.Inv := by
  cases he
  repeat' first | with_reducible assumption | with_reducible apply State.closeSjPage_inv | split

theorem execMapUpdateApply_inv (stripe : Nat) (wseq : Nat) {s t : State} (hi : s.Inv) (he : execMapUpdateApply stripe wseq s = .next t) : t.Inv := by
  cases he
  repeat' first | with_reducible assumption | with_reducible apply State.applyUpdate_inv | with_reducible apply State.tryAll_inv

theorem execMapFetchComplete_inv (mpn : Nat) {s t : State} (hi : s.Inv) (he : execMapFetchComplete mpn s = .next t) : t.Inv := by
  cases he
  dsimp only
  repeat' first
    | with_reducible assumption | with_reducible apply State.takeWaits_inv | with_reducible apply State.serveWait_inv | split
    | refine State.inv_of_pair (by assumption) ?_ | refine State.foldl_inv ?_ (fun _ _ hi => ?_) _

theorem execReclaimVictimSelect_inv {s t : State} (hi : s.Inv) (he : execReclaimVictimSelect s = .next t) : t.Inv := by
  cases he
  dsimp only
  repeat' first | with_reducible assumption | with_reducible apply State.onUnit_inv | split

theorem execRelocation_inv (loc : Loc) {s t : State} (hi : s.Inv) (he : execRelocation loc s = .next t) : t.Inv := by
  cases he
  repeat' first | with_reducible assumption | with_reducible apply State.addRepair_inv | with_reducible apply State.relocateAt_inv | split

theorem execReclaimErase_inv (unit : Nat) {s t : State} (hi : s.Inv) (he : execReclaimErase unit s = .next t) : t.Inv := by
  cases he
  repeat' first
    | with_reducible assumption | with_reducible apply State.onUnit_inv | with_reducible apply State.issueErases_inv
    | with_reducible apply State.startCkpt_inv | with_reducible apply State.ckptStep_inv | split

theorem execCheckpointStart_inv {s t : State} (hi : s.Inv) (he : execCheckpointStart s = .next t) : t.Inv := by
  cases he
  repeat' first | with_reducible assumption | with_reducible apply State.startCkpt_inv | with_reducible apply State.ckptStep_inv | split

theorem execStrikeTrigger_inv {s t : State} (hi : s.Inv) (he : execStrikeTrigger s = .next t) : t.Inv := by
  cases he
  repeat' first
    | with_reducible assumption | with_reducible apply State.beginStrike_inv | with_reducible apply State.strikeEnd_inv
    | with_reducible apply State.onSched_inv | split | exact fun _ => ⟨rfl, rfl⟩

theorem execCmRequest_inv (req : CmReq) {s t : State} (hi : s.Inv) (he : execCmRequest req s = .next t) : t.Inv := by
  cases he
  dsimp only
  repeat' first
    | with_reducible assumption | with_reducible apply State.emit_inv | with_reducible apply State.onRdma_inv | split | exact fun _ => ⟨rfl, rfl⟩
    | simp

theorem execCmReadyToUse_inv (q : Fin 16384) {s t : State} (hi : s.Inv) (he : execCmReadyToUse q s = .next t) : t.Inv := by
  cases he
  repeat' first | with_reducible assumption | with_reducible apply State.onQp_inv | split

theorem execCmRejectRx_inv (q : Fin 16384) {s t : State} (hi : s.Inv) (he : execCmRejectRx q s = .next t) : t.Inv := by
  cases he
  repeat' first | with_reducible assumption | with_reducible apply State.toTimewait_inv | split

theorem execCmDisconnect_inv (q : Fin 16384) {s t : State} (hi : s.Inv) (he : execCmDisconnect q s = .next t) : t.Inv := by
  cases he
  repeat' first | with_reducible assumption | with_reducible apply State.closeQueue_inv | split

theorem execConnectingTimeout_inv (q : Fin 16384) {s t : State} (hi : s.Inv) (he : execConnectingTimeout q s = .next t) : t.Inv := by
  cases he
  dsimp only
  repeat' first | with_reducible assumption | with_reducible apply State.toTimewait_inv | split

theorem execTimewaitExpiry_inv (q : Fin 16384) {s t : State} (hi : s.Inv) (he : execTimewaitExpiry q s = .next t) : t.Inv := by
  cases he
  dsimp only
  repeat' first
    | with_reducible assumption | with_reducible apply State.onRdma_inv | with_reducible apply State.onNvme_inv | split | exact fun _ => ⟨rfl, rfl⟩
    | simp

theorem execQpFlushComplete_inv (q : Fin 16384) {s t : State} (hi : s.Inv) (he : execQpFlushComplete q s = .next t) : t.Inv := by
  cases he
  repeat' first | with_reducible assumption | with_reducible apply State.toTimewait_inv | split

theorem execRdmaSendRx_inv (p : PktHdr) (c : Capsule) {s t : State} (hi : s.Inv) (he : execRdmaSendRx p c s = .next t) : t.Inv := by
  cases he
  dsimp only
  repeat' first
    | with_reducible assumption | with_reducible apply State.acceptPkt_inv | with_reducible apply State.sendAck_inv
    | with_reducible apply State.onCell_inv | with_reducible apply State.sendCtl_inv | with_reducible apply State.onQp_inv
    | with_reducible apply State.dropPkt_inv | split | refine State.inv_of_pair (by assumption) ?_

theorem execRdmaRequestGapTimer_inv (q : Fin 16384) {s t : State} (hi : s.Inv) (he : execRdmaRequestGapTimer q s = .next t) : t.Inv := by
  cases he
  dsimp only
  repeat' first | with_reducible assumption | with_reducible apply State.sendCtl_inv | with_reducible apply State.onQp_inv | split

theorem execRdmaAckCoalesceTimer_inv (q : Fin 16384) {s t : State} (hi : s.Inv) (he : execRdmaAckCoalesceTimer q s = .next t) : t.Inv := by
  cases he
  repeat' first | with_reducible assumption | with_reducible apply State.sendAck_inv | split

theorem execRdmaOpcodeRefused_inv (p : PktHdr) (opcode : Nat) {s t : State} (hi : s.Inv) (he : execRdmaOpcodeRefused p opcode s = .next t) : t.Inv := by
  cases he
  dsimp only
  repeat' first
    | with_reducible assumption | with_reducible apply State.acceptPkt_inv | with_reducible apply State.sendCtl_inv
    | with_reducible apply State.failQp_inv | split | refine State.inv_of_pair (by assumption) ?_

theorem execCapsuleToIntake_inv (q : Fin 16384) (delay : Fin 3) {s t : State} (hi : s.Inv) (he : execCapsuleToIntake q delay s = .next t) : t.Inv := by
  cases he
  dsimp only
  repeat' first | with_reducible assumption | with_reducible apply State.onQp_inv | with_reducible apply State.enqueue_inv | split

theorem execRdmaReadIssue_inv (q : Fin 16384) {s t : State} (hi : s.Inv) (he : execRdmaReadIssue q s = .next t) : t.Inv := by
  cases he
  dsimp only
  repeat' first
    | with_reducible assumption | with_reducible apply State.reissue_inv | with_reducible apply State.sendPkt_inv
    | with_reducible apply State.onQp_inv | with_reducible apply State.onCell_inv | with_reducible apply State.onCmd_inv | split

theorem execRdmaReadResponseRx_inv (p : PktHdr) (bytes : Nat) (payload : Sector) {s t : State} (hi : s.Inv) (he : execRdmaReadResponseRx p bytes payload s = .next t) : t.Inv := by
  cases he
  dsimp only
  repeat' first
    | with_reducible assumption | with_reducible apply State.acceptPkt_inv | with_reducible apply State.onCell_inv
    | with_reducible apply State.dropPkt_inv | with_reducible apply State.onQp_inv | with_reducible apply State.onCmd_inv
    | with_reducible apply State.forwardWhole_inv | split | refine State.inv_of_pair (by assumption) ?_

theorem execRdmaResponseGapTimer_inv (q : Fin 16384) {s t : State} (hi : s.Inv) (he : execRdmaResponseGapTimer q s = .next t) : t.Inv := by
  cases he
  repeat' first | with_reducible assumption | with_reducible apply State.reissue_inv | with_reducible apply State.readAgain_inv | split

theorem execRdmaAckTimeout_inv (q : Fin 16384) {s t : State} (hi : s.Inv) (he : execRdmaAckTimeout q s = .next t) : t.Inv := by
  cases he
  dsimp only
  repeat' first
    | with_reducible assumption | with_reducible apply State.countRetry_inv | with_reducible apply State.resend_inv
    | with_reducible apply State.readAgain_inv | split | refine State.inv_of_pair (by assumption) ?_

theorem execRdmaAckRx_inv (p : PktHdr) (_msn : Nat) (code : Nat) {s t : State} (hi : s.Inv) (he : execRdmaAckRx p _msn code s = .next t) : t.Inv := by
  cases he
  dsimp only
  repeat' first
    | with_reducible assumption | with_reducible apply State.acceptPkt_inv | with_reducible apply State.freeSends_inv
    | with_reducible apply State.onQp_inv | with_reducible apply State.pump_inv | split | refine State.inv_of_pair (by assumption) ?_

theorem execRdmaNakRx_inv (p : PktHdr) (kind : NakKind) {s t : State} (hi : s.Inv) (he : execRdmaNakRx p kind s = .next t) : t.Inv := by
  cases he
  dsimp only
  repeat' first
    | with_reducible assumption | with_reducible apply State.acceptPkt_inv | with_reducible apply State.freeSends_inv
    | with_reducible apply State.countRetry_inv | with_reducible apply State.resend_inv | with_reducible apply State.failQp_inv
    | with_reducible apply State.onQp_inv | split | refine State.inv_of_pair (by assumption) ?_

theorem execRdmaRnrRetryTimer_inv (q : Fin 16384) {s t : State} (hi : s.Inv) (he : execRdmaRnrRetryTimer q s = .next t) : t.Inv := by
  cases he
  dsimp only
  repeat' first | with_reducible assumption | with_reducible apply State.onQp_inv | with_reducible apply State.resend_inv | split

theorem execReadDataToHost_inv (ord : Nat) {s t : State} (hi : s.Inv) (he : execReadDataToHost ord s = .next t) : t.Inv := by
  cases he
  dsimp only
  repeat' first
    | with_reducible assumption | with_reducible apply State.settle_inv | with_reducible apply State.event_inv
    | with_reducible apply State.finish_inv | with_reducible apply State.sendData_inv | with_reducible apply State.countError_inv
    | with_reducible apply State.emit_inv | with_reducible apply State.dropCmd_inv | with_reducible apply State.mbxDataOut_inv | split

theorem execCnpRx_inv (p : PktHdr) {s t : State} (hi : s.Inv) (he : execCnpRx p s = .next t) : t.Inv := by
  cases he
  repeat' first
    | with_reducible assumption | with_reducible apply State.acceptPkt_inv | with_reducible apply State.onQp_inv | split
    | refine State.inv_of_pair (by assumption) ?_

theorem execRateIncreaseTimer_inv (q : Fin 16384) {s t : State} (hi : s.Inv) (he : execRateIncreaseTimer q s = .next t) : t.Inv := by
  cases he
  dsimp only
  repeat' first | with_reducible assumption | with_reducible apply State.onQp_inv | split

theorem execTxCirWindow_inv (tenant : Fin 1024) (sent : Nat) (held : Bool) {s t : State} (hi : s.Inv) (he : execTxCirWindow tenant sent held s = .next t) : t.Inv := by
  cases he
  dsimp only
  repeat' first
    | with_reducible assumption | with_reducible apply State.event_inv | with_reducible apply State.onRdma_inv | split | exact fun _ => ⟨rfl, rfl⟩
    | simp

theorem execRead_inv (ord : Nat) {s t : State} (hi : s.Inv) (he : execRead ord s = .next t) : t.Inv := by
  cases he
  repeat' first
    | with_reducible assumption | with_reducible apply State.finish_inv | with_reducible apply State.onCmd_inv
    | with_reducible apply State.serveRead_inv | split

theorem execWrite_inv (ord : Nat) {s t : State} (hi : s.Inv) (he : execWrite ord s = .next t) : t.Inv := by
  cases he
  dsimp only
  repeat' first
    | with_reducible assumption | with_reducible apply State.failCmd_inv | with_reducible apply State.needRange_inv
    | with_reducible apply State.finish_inv | with_reducible apply State.onCmd_inv | with_reducible apply State.endFetch_inv | split

theorem execFlush_inv (ord : Nat) {s t : State} (hi : s.Inv) (he : execFlush ord s = .next t) : t.Inv := by
  cases he
  dsimp only
  repeat' first
    | with_reducible assumption | with_reducible apply State.tryFlush_inv | with_reducible apply State.finish_inv
    | with_reducible apply State.closeStripe_inv | with_reducible apply State.onCmd_inv | with_reducible apply State.kick_inv | split
    | refine State.foldl_inv ?_ (fun _ _ hi => ?_) _

theorem execCompare_inv (ord : Nat) {s t : State} (hi : s.Inv) (he : execCompare ord s = .next t) : t.Inv := by
  cases he
  dsimp only
  repeat' first
    | with_reducible assumption | with_reducible apply State.finish_inv | with_reducible apply State.onCmd_inv
    | with_reducible apply State.serveRead_inv | with_reducible apply State.onCell_inv | with_reducible apply State.settle_inv
    | with_reducible apply State.finishOk_inv | split

theorem execWriteZeroes_inv (ord : Nat) {s t : State} (hi : s.Inv) (he : execWriteZeroes ord s = .next t) : t.Inv := by
  cases he
  dsimp only
  repeat' first
    | with_reducible assumption | with_reducible apply State.tryAck_inv | with_reducible apply State.finish_inv
    | with_reducible apply State.needRange_inv | with_reducible apply State.clearCmd_inv | split

theorem execDatasetManagement_inv (ord : Nat) {s t : State} (hi : s.Inv) (he : execDatasetManagement ord s = .next t) : t.Inv := by
  cases he
  dsimp only
  repeat' first
    | with_reducible assumption | with_reducible apply State.tryAck_inv | with_reducible apply State.finish_inv
    | with_reducible apply State.finishOk_inv | with_reducible apply State.needRange_inv | with_reducible apply State.onSched_inv
    | with_reducible apply State.clearCmd_inv | split | refine State.foldl_inv ?_ (fun _ _ hi => ?_) _ | exact fun _ => ⟨rfl, rfl⟩

theorem execIdentify_inv (q : Fin 16384) {s t : State} (hi : s.Inv) (he : execIdentify q s = .next t) : t.Inv := by
  cases he
  dsimp only
  repeat' first
    | with_reducible assumption | with_reducible apply State.popCap_inv | with_reducible apply State.endCap_inv
    | with_reducible apply State.pageReply_inv | split

theorem execGetLogPage_inv (ref : CmdRef) {s t : State} (hi : s.Inv) (he : execGetLogPage ref s = .next t) : t.Inv := by
  cases he
  dsimp only
  repeat' first
    | with_reducible assumption | with_reducible apply State.onCmd_inv | with_reducible apply State.pageReply_inv
    | with_reducible apply State.popCap_inv | with_reducible apply State.endCap_inv | split

theorem execSetFeatures_inv (q : Fin 16384) {s t : State} (hi : s.Inv) (he : execSetFeatures q s = .next t) : t.Inv := by
  cases he
  dsimp only
  repeat' first
    | with_reducible assumption | with_reducible apply State.popCap_inv | with_reducible apply State.endCap_inv
    | with_reducible apply State.onCtl_inv | split

theorem execGetFeatures_inv (q : Fin 16384) {s t : State} (hi : s.Inv) (he : execGetFeatures q s = .next t) : t.Inv := by
  cases he
  dsimp only
  repeat' first | with_reducible assumption | with_reducible apply State.popCap_inv | with_reducible apply State.endCap_inv | split

theorem execAsynchronousEventRequest_inv (q : Fin 16384) {s t : State} (hi : s.Inv) (he : execAsynchronousEventRequest q s = .next t) : t.Inv := by
  cases he
  dsimp only
  repeat' first
    | with_reducible assumption | with_reducible apply State.popCap_inv | with_reducible apply State.endCap_inv
    | with_reducible apply State.onCtl_inv | with_reducible apply State.sendAen_inv | with_reducible apply State.smartCheck_inv | split

theorem execKeepAlive_inv (q : Fin 16384) {s t : State} (hi : s.Inv) (he : execKeepAlive q s = .next t) : t.Inv := by
  cases he
  repeat' first | with_reducible assumption | with_reducible apply State.popCap_inv | with_reducible apply State.endCap_inv | split

theorem execAbort_inv (q : Fin 16384) {s t : State} (hi : s.Inv) (he : execAbort q s = .next t) : t.Inv := by
  cases he
  repeat' first | with_reducible assumption | with_reducible apply State.popCap_inv | with_reducible apply State.endCap_inv | split

theorem execConnect_inv (q : Fin 16384) {s t : State} (hi : s.Inv) (he : execConnect q s = .next t) : t.Inv := by
  cases he
  dsimp only
  repeat' first
    | with_reducible assumption | with_reducible apply State.popCap_inv | with_reducible apply State.endCap_inv
    | with_reducible apply State.reserve_inv | with_reducible apply State.onNvme_inv | with_reducible apply State.onQp_inv | split

theorem execPropertyGet_inv (q : Fin 16384) {s t : State} (hi : s.Inv) (he : execPropertyGet q s = .next t) : t.Inv := by
  cases he
  dsimp only
  repeat' first | with_reducible assumption | with_reducible apply State.popCap_inv | with_reducible apply State.endCap_inv | split

theorem execPropertySet_inv (q : Fin 16384) {s t : State} (hi : s.Inv) (he : execPropertySet q s = .next t) : t.Inv := by
  cases he
  dsimp only
  repeat' first
    | with_reducible assumption | with_reducible apply State.popCap_inv | with_reducible apply State.endCap_inv
    | with_reducible apply State.onCtl_inv | with_reducible apply State.flushQp_inv | split | refine State.foldl_inv ?_ (fun _ _ hi => ?_) _

theorem execCcEnClearComplete_inv (ctl : Fin 4096) {s t : State} (hi : s.Inv) (he : execCcEnClearComplete ctl s = .next t) : t.Inv := by
  cases he
  dsimp only
  repeat' first | with_reducible assumption | with_reducible apply State.onCtl_inv | split

theorem execDisconnect_inv (q : Fin 16384) {s t : State} (hi : s.Inv) (he : execDisconnect q s = .next t) : t.Inv := by
  cases he
  dsimp only
  repeat' first
    | with_reducible assumption | with_reducible apply State.popCap_inv | with_reducible apply State.endCap_inv
    | with_reducible apply State.flushQp_inv | split

theorem execKeepAliveTimeout_inv (ctl : Fin 4096) {s t : State} (hi : s.Inv) (he : execKeepAliveTimeout ctl s = .next t) : t.Inv := by
  cases he
  repeat' first | with_reducible assumption | with_reducible apply State.teardownCtl_inv | split

theorem execNvmeUnsupportedOpcode_inv (q : Fin 16384) {s t : State} (hi : s.Inv) (he : execNvmeUnsupportedOpcode q s = .next t) : t.Inv := by
  cases he
  dsimp only
  repeat' first | with_reducible assumption | with_reducible apply State.popCap_inv | with_reducible apply State.endCap_inv | split

theorem execLedgerBind_inv (ord : Nat) {s t : State} (hi : s.Inv) (he : execLedgerBind ord s = .next t) : t.Inv := by
  cases he
  dsimp only
  repeat' first
    | with_reducible assumption | with_reducible apply State.finish_inv | with_reducible apply State.bindChain_inv
    | with_reducible apply State.onQp_inv | split | refine State.inv_of_pair (by assumption) ?_

theorem execQueueReservation_inv (handle : Nat) (tenant : Nat) (entries : Nat) {s t : State} (hi : s.Inv) (he : execQueueReservation handle tenant entries s = .next t) : t.Inv := by
  cases he
  dsimp only
  repeat' first | with_reducible assumption | with_reducible apply State.emit_inv | with_reducible apply State.onNvme_inv | split

theorem execForwardCommand_inv (f : FwdCmd) {s t : State} (hi : s.Inv) (he : execForwardCommand f s = .next t) : t.Inv := by
  cases he
  dsimp only
  repeat' first
    | with_reducible assumption | with_reducible apply State.popCap_inv | with_reducible apply State.returnCqe_inv
    | with_reducible apply State.endCap_inv | with_reducible apply State.sendForward_inv | with_reducible apply State.emit_inv
    | with_reducible apply State.enqueue_inv | with_reducible apply State.onSched_inv | split | exact fun _ => ⟨rfl, rfl⟩

theorem execForwardCompletionRx_inv (handle : Nat) (cqe : FwdCqe) {s t : State} (hi : s.Inv) (he : execForwardCompletionRx handle cqe s = .next t) : t.Inv := by
  cases he
  dsimp only
  repeat' first
    | with_reducible assumption | with_reducible apply State.onNvme_inv | with_reducible apply State.onQp_inv
    | with_reducible apply State.returnCqe_inv | with_reducible apply State.onSched_inv | split | exact fun _ => ⟨rfl, rfl⟩

theorem execForwardRecall_inv (handle : Nat) {s t : State} (hi : s.Inv) (he : execForwardRecall handle s = .next t) : t.Inv := by
  cases he
  dsimp only
  repeat' first
    | with_reducible assumption | with_reducible apply State.onSched_inv | with_reducible apply State.returnCredit_inv | split
    | refine State.foldl_inv ?_ (fun _ _ hi => ?_) _ | exact fun _ => ⟨rfl, rfl⟩ | simp

theorem execPresenceChange_inv (bay : Fin 48) (present : Option ModuleDesc) {s t : State} (hi : s.Inv) (he : execPresenceChange bay present s = .next t) : t.Inv := by
  cases he
  dsimp only
  repeat' first
    | with_reducible assumption | with_reducible apply State.insertModule_inv | with_reducible apply State.onChan_inv
    | with_reducible apply State.setMod_inv | with_reducible apply State.chanTry_inv | with_reducible apply State.powerFollow_inv
    | with_reducible apply State.loseModule_inv | with_reducible apply State.identify_inv | with_reducible apply State.foreign_inv
    | with_reducible apply State.setChan_inv | with_reducible apply State.portOff_inv | with_reducible apply State.endOps_inv
    | with_reducible apply State.onModule_inv | split

theorem execPresenceAbsent100ms_inv (bay : Fin 48) {s t : State} (hi : s.Inv) (he : execPresenceAbsent100ms bay s = .next t) : t.Inv := by
  cases he
  dsimp only
  repeat' first
    | with_reducible assumption | with_reducible apply State.onChan_inv | with_reducible apply State.setChan_inv
    | with_reducible apply State.onPort_inv | with_reducible apply State.foreign_inv | with_reducible apply State.setMod_inv | split

theorem execFeedWindowChange_inv (f : Feed) (inWindow : Bool) (decivolts : Nat) {s t : State} (hi : s.Inv) (he : execFeedWindowChange f inWindow decivolts s = .next t) : t.Inv := by
  cases he
  repeat' first | with_reducible assumption | with_reducible apply State.onFeed_inv | split

theorem execFeedLost_inv (f : Feed) {s t : State} (hi : s.Inv) (he : execFeedLost f s = .next t) : t.Inv := by
  cases he
  dsimp only
  repeat' first
    | with_reducible assumption | with_reducible apply State.onFeed_inv | with_reducible apply State.onBpd_inv
    | with_reducible apply State.pathOff_inv | with_reducible apply State.setSel_inv | with_reducible apply State.enterHoldup_inv | split
    | exact fun _ => ⟨rfl, rfl⟩ | simp

theorem execFeedGood_inv (f : Feed) {s t : State} (hi : s.Inv) (he : execFeedGood f s = .next t) : t.Inv := by
  cases he
  repeat' first | with_reducible assumption | with_reducible apply State.onFeed_inv | with_reducible apply State.selInit_inv | split

theorem execPathConfirmedOff_inv {s t : State} (hi : s.Inv) (he : execPathConfirmedOff s = .next t) : t.Inv := by
  cases he
  repeat' first | with_reducible assumption | with_reducible apply State.pathOff_inv

theorem execPathConfirmTimeout_inv {s t : State} (hi : s.Inv) (he : execPathConfirmTimeout s = .next t) : t.Inv := by
  cases he
  repeat' first
    | with_reducible assumption | with_reducible apply State.onFeed_inv | with_reducible apply State.raise_inv
    | with_reducible apply State.enterHoldup_inv | split

theorem execFeedReturnTimer_inv {s t : State} (hi : s.Inv) (he : execFeedReturnTimer s = .next t) : t.Inv := by
  cases he
  repeat' first | with_reducible assumption | with_reducible apply State.setSel_inv | split

theorem execDownRestartTimer_inv {s t : State} (hi : s.Inv) (he : execDownRestartTimer s = .next t) : t.Inv := by
  cases he
  repeat' first | with_reducible assumption | with_reducible apply State.setSel_inv | with_reducible apply State.selInit_inv | split

theorem execHoldupPeerTimer_inv {s t : State} (hi : s.Inv) (he : execHoldupPeerTimer s = .next t) : t.Inv := by
  cases he
  repeat' first | with_reducible assumption | with_reducible apply State.goDown_inv | split

theorem execBusBelowHoldMin_inv {s t : State} (hi : s.Inv) (he : execBusBelowHoldMin s = .next t) : t.Inv := by
  cases he
  repeat' first
    | with_reducible assumption | with_reducible apply State.onBpd_inv | with_reducible apply State.goDown_inv | split | exact fun _ => ⟨rfl, rfl⟩
    | simp

theorem execBusStartWindowChange_inv (inWindow : Bool) (above11 : Bool) {s t : State} (hi : s.Inv) (he : execBusStartWindowChange inWindow above11 s = .next t) : t.Inv := by
  cases he
  dsimp only
  repeat' first
    | with_reducible assumption | with_reducible apply State.onBpd_inv | with_reducible apply State.checkStrike_inv | split
    | exact fun _ => ⟨rfl, rfl⟩ | simp

theorem execHoldupTestStart_inv (why : HoldTest) {s t : State} (hi : s.Inv) (he : execHoldupTestStart why s = .next t) : t.Inv := by
  cases he
  dsimp only
  repeat' first | with_reducible assumption | with_reducible apply State.onBpd_inv | split | exact fun _ => ⟨rfl, rfl⟩ | simp

theorem execHoldupTestEnd_inv (milliamps : Nat) (v0Mv : Nat) (droopMv : Nat) (micros : Nat) {s t : State} (hi : s.Inv) (he : execHoldupTestEnd milliamps v0Mv droopMv micros s = .next t) : t.Inv := by
  cases he
  dsimp only
  repeat' first
    | with_reducible assumption | with_reducible apply State.onBpd_inv | with_reducible apply State.event_inv
    | with_reducible apply State.answer_inv | with_reducible apply State.checkStrike_inv | split | exact fun _ => ⟨rfl, rfl⟩ | simp

theorem execHoldupTestAgeExpiry_inv {s t : State} (hi : s.Inv) (he : execHoldupTestAgeExpiry s = .next t) : t.Inv := by
  cases he
  repeat' first | with_reducible assumption | with_reducible apply State.checkStrike_inv

theorem execInsertionDelayExpiry_inv (bay : Fin 48) {s t : State} (hi : s.Inv) (he : execInsertionDelayExpiry bay s = .next t) : t.Inv := by
  cases he
  dsimp only
  repeat' first | with_reducible assumption | with_reducible apply State.setChan_inv | split

theorem execChannelPowerGood_inv (bay : Fin 48) {s t : State} (hi : s.Inv) (he : execChannelPowerGood bay s = .next t) : t.Inv := by
  cases he
  repeat' first | with_reducible assumption | with_reducible apply State.setChan_inv | split

theorem execFastTrip_inv (bay : Fin 48) {s t : State} (hi : s.Inv) (he : execFastTrip bay s = .next t) : t.Inv := by
  cases he
  repeat' first | with_reducible assumption | with_reducible apply State.trip_inv | split

theorem execSoaTimeout_inv (bay : Fin 48) {s t : State} (hi : s.Inv) (he : execSoaTimeout bay s = .next t) : t.Inv := by
  cases he
  repeat' first | with_reducible assumption | with_reducible apply State.trip_inv | split

theorem execRampTimeout_inv (bay : Fin 48) {s t : State} (hi : s.Inv) (he : execRampTimeout bay s = .next t) : t.Inv := by
  cases he
  repeat' first | with_reducible assumption | with_reducible apply State.trip_inv | split

theorem execPgLost_inv (bay : Fin 48) {s t : State} (hi : s.Inv) (he : execPgLost bay s = .next t) : t.Inv := by
  cases he
  repeat' first | with_reducible assumption | with_reducible apply State.trip_inv | split

theorem execCooldownExpiry_inv (bay : Fin 48) {s t : State} (hi : s.Inv) (he : execCooldownExpiry bay s = .next t) : t.Inv := by
  cases he
  dsimp only
  repeat' first | with_reducible assumption | with_reducible apply State.onChan_inv | with_reducible apply State.setChan_inv | split

theorem execFetFaultTimer_inv (bay : Fin 48) {s t : State} (hi : s.Inv) (he : execFetFaultTimer bay s = .next t) : t.Inv := by
  cases he
  dsimp only
  repeat' first
    | with_reducible assumption | with_reducible apply State.onChan_inv | with_reducible apply State.setChan_inv
    | with_reducible apply State.raise_inv | split

theorem execRailPowerGood_inv (k : Fin 7) {s t : State} (hi : s.Inv) (he : execRailPowerGood k s = .next t) : t.Inv := by
  cases he
  dsimp only
  repeat' first | with_reducible assumption | with_reducible apply State.onBpd_inv | split | exact fun _ => ⟨rfl, rfl⟩ | simp

theorem execRailPgTimeout_inv {s t : State} (hi : s.Inv) (he : execRailPgTimeout s = .next t) : t.Inv := by
  cases he
  dsimp only
  repeat' first | with_reducible assumption | with_reducible apply State.onBpd_inv | split | exact fun _ => ⟨rfl, rfl⟩ | simp

theorem execRailRetryTimer_inv {s t : State} (hi : s.Inv) (he : execRailRetryTimer s = .next t) : t.Inv := by
  cases he
  repeat' first | with_reducible assumption | with_reducible apply State.onBpd_inv | split | exact fun _ => ⟨rfl, rfl⟩ | simp

theorem execRailPgLost_inv (_k : Fin 7) {s t : State} (hi : s.Inv) (he : execRailPgLost _k s = .next t) : t.Inv := by
  cases he
  repeat' first | with_reducible assumption | with_reducible apply State.railLost_inv | split

theorem execRefclkSysLoss_inv {s t : State} (hi : s.Inv) (he : execRefclkSysLoss s = .next t) : t.Inv := by
  cases he
  dsimp only
  repeat' first
    | with_reducible assumption | with_reducible apply State.onBpd_inv | with_reducible apply State.railLost_inv | split
    | exact fun _ => ⟨rfl, rfl⟩ | simp

theorem execRefclkSysRestored_inv {s t : State} (hi : s.Inv) (he : execRefclkSysRestored s = .next t) : t.Inv := by
  cases he
  repeat' first | with_reducible assumption | with_reducible apply State.onBpd_inv | split | exact fun _ => ⟨rfl, rfl⟩ | simp

theorem execAuxiliaryPowerRemoved_inv {s t : State} (hi : s.Inv) (he : execAuxiliaryPowerRemoved s = .next t) : t.Inv := by
  cases he
  dsimp only
  generalize List.range 48 = bays
  split
  · exact hi
  · have h1 : (s.onBpd fun b => { BpdSt.reset with aux := false, chans := b.chans.map fun c => { Chan.reset with pres := c.pres } }).Inv :=
      State.onBpd_inv hi fun _ => List.length_map _
    have h2 := State.diePowerOff_inv (State.foldl_inv h1 (fun _ b h => State.modulePower_inv h b) bays)
    exact { h2 with counts := invAtReset.counts, seq := invAtReset.seq }

theorem execJunctionSensorRead_inv (values : List Int) {s t : State} (hi : s.Inv) (he : execJunctionSensorRead values s = .next t) : t.Inv := by
  cases he
  dsimp only
  repeat' first
    | with_reducible assumption | with_reducible apply State.onBoot_inv | with_reducible apply State.junctionTimes_inv
    | with_reducible apply State.monitor_inv | split | refine State.foldl_inv ?_ (fun _ _ hi => ?_) _ | exact fun _ => ⟨rfl, rfl⟩ | simp

theorem execThermalLevelChange_inv {s t : State} (hi : s.Inv) (he : execThermalLevelChange s = .next t) : t.Inv := by
  cases he
  dsimp only
  repeat' first
    | with_reducible assumption | with_reducible apply State.onBoot_inv | with_reducible apply State.raise_inv
    | with_reducible apply State.junctionTimes_inv | split | exact fun _ => ⟨rfl, rfl⟩ | simp

theorem execRenewTimer_inv {s t : State} (hi : s.Inv) (he : execRenewTimer s = .next t) : t.Inv := by
  cases he
  dsimp only
  repeat' first
    | with_reducible assumption | with_reducible apply State.onPair_inv | with_reducible apply State.sendLease_inv | split
    | exact fun _ => ⟨rfl, rfl⟩

theorem execRenewRx_inv (sh : Shroud) (m : LeaseMsg) {s t : State} (hi : s.Inv) (he : execRenewRx sh m s = .next t) : t.Inv := by
  cases he
  dsimp only
  repeat' first
    | with_reducible assumption | with_reducible apply State.takePast_inv | with_reducible apply State.heard_inv
    | with_reducible apply State.onPair_inv | with_reducible apply State.followRclk_inv | with_reducible apply State.emit_inv
    | with_reducible apply State.join_inv | with_reducible apply State.setPair_inv | split | exact fun _ => ⟨rfl, rfl⟩

theorem execGrantRx_inv (sh : Shroud) (m : LeaseMsg) {s t : State} (hi : s.Inv) (he : execGrantRx sh m s = .next t) : t.Inv := by
  cases he
  dsimp only
  repeat' first
    | with_reducible assumption | with_reducible apply State.stopPast_inv | with_reducible apply State.heard_inv
    | with_reducible apply State.onPair_inv | with_reducible apply State.tryAll_inv | split | exact fun _ => ⟨rfl, rfl⟩

theorem execReleaseRx_inv (sh : Shroud) (m : LeaseMsg) {s t : State} (hi : s.Inv) (he : execReleaseRx sh m s = .next t) : t.Inv := by
  cases he
  dsimp only
  repeat' first
    | with_reducible assumption | with_reducible apply State.heard_inv | with_reducible apply State.withdraw_inv
    | with_reducible apply State.onPair_inv | with_reducible apply State.takeLease_inv | split | exact fun _ => ⟨rfl, rfl⟩

theorem execHelloRx_inv (sh : Shroud) (m : LeaseMsg) {s t : State} (hi : s.Inv) (he : execHelloRx sh m s = .next t) : t.Inv := by
  cases he
  repeat' first | with_reducible assumption | with_reducible apply State.heard_inv | split

theorem execLeaseHolderStop_inv {s t : State} (hi : s.Inv) (he : execLeaseHolderStop s = .next t) : t.Inv := by
  cases he
  repeat' first | with_reducible assumption | with_reducible apply State.lapse_inv | split

theorem execLeaseTakeTimer_inv {s t : State} (hi : s.Inv) (he : execLeaseTakeTimer s = .next t) : t.Inv := by
  cases he
  dsimp only
  repeat' first | with_reducible assumption | with_reducible apply State.takeLease_inv | split

theorem execColdTakeTimer_inv {s t : State} (hi : s.Inv) (he : execColdTakeTimer s = .next t) : t.Inv := by
  cases he
  dsimp only
  repeat' first | with_reducible assumption | with_reducible apply State.takeLease_inv | split

theorem execTakeoverStep_inv {s t : State} (hi : s.Inv) (he : execTakeoverStep s = .next t) : t.Inv := by
  cases he
  dsimp only
  repeat' first
    | with_reducible assumption | with_reducible apply State.fenceAll_inv | with_reducible apply State.onPair_inv
    | with_reducible apply State.replay_inv | with_reducible apply State.warmApply_inv | with_reducible apply State.newEpoch_inv
    | with_reducible apply State.checkStrike_inv | with_reducible apply State.startCkpt_inv | with_reducible apply State.ckptStep_inv
    | with_reducible apply State.takeEnd_inv | split | exact fun _ => ⟨rfl, rfl⟩

theorem execLapsedProbe_inv {s t : State} (hi : s.Inv) (he : execLapsedProbe s = .next t) : t.Inv := by
  cases he
  dsimp only
  repeat' first
    | with_reducible assumption | with_reducible apply State.statusAll_inv | with_reducible apply State.onPair_inv
    | with_reducible apply State.lapsedJoin_inv | with_reducible apply State.takeLease_inv | split | exact fun _ => ⟨rfl, rfl⟩

theorem execShroudLossTimer_inv (sh : Shroud) {s t : State} (hi : s.Inv) (he : execShroudLossTimer sh s = .next t) : t.Inv := by
  cases he
  dsimp only
  repeat' first | with_reducible assumption | with_reducible apply State.setShroud_inv | with_reducible apply State.event_inv | split

theorem execPeerLinkGroupLoss_inv (g : Fin 2) {s t : State} (hi : s.Inv) (he : execPeerLinkGroupLoss g s = .next t) : t.Inv := by
  cases he
  dsimp only
  repeat' first
    | with_reducible assumption | with_reducible apply State.onPair_inv | with_reducible apply State.event_inv
    | with_reducible apply State.toSingle_inv | with_reducible apply State.standbyBack_inv | with_reducible apply State.checkReach_inv | split
    | exact fun _ => ⟨rfl, rfl⟩ | simp

theorem execPeerLinkRestored_inv (g : Fin 2) {s t : State} (hi : s.Inv) (he : execPeerLinkRestored g s = .next t) : t.Inv := by
  cases he
  repeat' first
    | with_reducible assumption | with_reducible apply State.onPair_inv | with_reducible apply State.event_inv | split | exact fun _ => ⟨rfl, rfl⟩
    | simp

theorem execResyncComplete_inv {s t : State} (hi : s.Inv) (he : execResyncComplete s = .next t) : t.Inv := by
  cases he
  dsimp only
  repeat' first
    | with_reducible assumption | with_reducible apply State.onPair_inv | with_reducible apply State.setPair_inv | split
    | exact fun _ => ⟨rfl, rfl⟩

theorem execPeriodicSwapTimer_inv {s t : State} (hi : s.Inv) (he : execPeriodicSwapTimer s = .next t) : t.Inv := by
  cases he
  dsimp only
  repeat' first
    | with_reducible assumption | with_reducible apply State.beginSwap_inv | with_reducible apply State.onPair_inv
    | with_reducible apply State.event_inv | split | exact fun _ => ⟨rfl, rfl⟩

theorem execReachSwapTimer_inv {s t : State} (hi : s.Inv) (he : execReachSwapTimer s = .next t) : t.Inv := by
  cases he
  dsimp only
  repeat' first | with_reducible assumption | with_reducible apply State.beginSwap_inv | with_reducible apply State.event_inv | split

theorem execSwapRelease_inv {s t : State} (hi : s.Inv) (he : execSwapRelease s = .next t) : t.Inv := by
  cases he
  dsimp only
  repeat' first
    | with_reducible assumption | with_reducible apply State.emit_inv | with_reducible apply State.release_inv
    | with_reducible apply State.setPair_inv | with_reducible apply State.modulesBack_inv | with_reducible apply State.holdRebuild_inv | split

theorem execDrainComplete_inv {s t : State} (hi : s.Inv) (he : execDrainComplete s = .next t) : t.Inv := by
  cases he
  dsimp only
  repeat' first
    | with_reducible assumption | with_reducible apply State.toMirror_inv | with_reducible apply State.onPair_inv
    | with_reducible apply State.onFn_inv | with_reducible apply State.setFn_inv | with_reducible apply State.answerOp_inv
    | with_reducible apply State.onLog_inv | with_reducible apply State.emit_inv | with_reducible apply State.closeAll_inv
    | with_reducible apply State.kick_inv | with_reducible apply State.startCkpt_inv | with_reducible apply State.ckptStep_inv | split
    | exact fun _ => ⟨rfl, rfl⟩

theorem execSheetRead_inv (bay : Fin 48) (c : SheetCmd) (nand : NandResult) {s t : State} (hi : s.Inv) (he : execSheetRead bay c nand s = .next t) : t.Inv := by
  cases he
  dsimp only
  repeat' first
    | with_reducible assumption | refine State.dieOp_inv ?_ _ _ _ _ fun _ => ?_ | with_reducible apply State.onModule_inv
    | with_reducible apply State.moduleSays_inv | with_reducible apply State.tick_inv | split

theorem execSheetProgram_inv (bay : Fin 48) (c : SheetCmd) (frames : List Payload) (nand : NandResult) {s t : State} (hi : s.Inv) (he : execSheetProgram bay c frames nand s = .next t) : t.Inv := by
  cases he
  repeat' first
    | with_reducible assumption | refine State.dieOp_inv ?_ _ _ _ _ fun _ => ?_ | with_reducible apply State.moduleSays_inv
    | with_reducible apply State.putPage_inv | with_reducible apply State.freePage_inv | with_reducible apply State.onModule_inv | split

theorem execSheetErase_inv (bay : Fin 48) (c : SheetCmd) (nand : NandResult) {s t : State} (hi : s.Inv) (he : execSheetErase bay c nand s = .next t) : t.Inv := by
  cases he
  refine State.dieOp_inv hi _ _ _ _ fun m => ?_
  dsimp only
  have hgone : ∀ f : Nat → Payload → Payload, ((s.onSheet fun x => { x with media := tabMap f x.media }).tick).Inv := fun f =>
    State.tick_inv (State.onSheet_inv hi fun _ => ⟨rfl, rfl, fun h => tabWf_tabMap h f⟩)
  repeat' first
    | with_reducible assumption | with_reducible apply State.moduleSays_inv | with_reducible apply State.onModule_inv | exact hgone _ | split
    | exact State.onSheet_inv hi (by simp +contextual)

theorem execSheetStatus_inv (bay : Fin 48) (c : SheetCmd) {s t : State} (hi : s.Inv) (he : execSheetStatus bay c s = .next t) : t.Inv := by
  cases he
  dsimp only
  repeat' first | with_reducible assumption | refine State.moduleDoes_inv ?_ _ _ _ fun _ => ?_ | with_reducible apply State.moduleSays_inv | split

theorem execGetParam_inv (bay : Fin 48) (c : SheetCmd) {s t : State} (hi : s.Inv) (he : execGetParam bay c s = .next t) : t.Inv := by
  cases he
  dsimp only
  repeat' first
    | with_reducible assumption | refine State.moduleDoes_inv ?_ _ _ _ fun _ => ?_ | with_reducible apply State.moduleSays_inv
    | with_reducible apply State.freeNat_inv | with_reducible apply State.onModule_inv | split

theorem execSetParam_inv (bay : Fin 48) (c : SheetCmd) {s t : State} (hi : s.Inv) (he : execSetParam bay c s = .next t) : t.Inv := by
  cases he
  dsimp only
  repeat' first
    | with_reducible assumption | refine State.moduleDoes_inv ?_ _ _ _ fun _ => ?_ | with_reducible apply State.onModule_inv
    | with_reducible apply State.moduleSays_inv | split

theorem execDescRead_inv (bay : Fin 48) (c : SheetCmd) {s t : State} (hi : s.Inv) (he : execDescRead bay c s = .next t) : t.Inv := by
  cases he
  repeat' first | with_reducible assumption | refine State.moduleDoes_inv ?_ _ _ _ fun _ => ?_ | with_reducible apply State.moduleSays_inv | split

theorem execTemp_inv (bay : Fin 48) (c : SheetCmd) {s t : State} (hi : s.Inv) (he : execTemp bay c s = .next t) : t.Inv := by
  cases he
  repeat' first | with_reducible assumption | refine State.moduleDoes_inv ?_ _ _ _ fun _ => ?_ | with_reducible apply State.moduleSays_inv

theorem execDieReset_inv (bay : Fin 48) (c : SheetCmd) {s t : State} (hi : s.Inv) (he : execDieReset bay c s = .next t) : t.Inv := by
  cases he
  repeat' first
    | with_reducible assumption | refine State.moduleDoes_inv ?_ _ _ _ fun _ => ?_ | with_reducible apply State.moduleSays_inv
    | with_reducible apply State.onModule_inv | split

theorem execPowerState_inv (bay : Fin 48) (c : SheetCmd) {s t : State} (hi : s.Inv) (he : execPowerState bay c s = .next t) : t.Inv := by
  cases he
  repeat' first
    | with_reducible assumption | refine State.moduleDoes_inv ?_ _ _ _ fun _ => ?_ | with_reducible apply State.onModule_inv
    | with_reducible apply State.moduleSays_inv | split

theorem execFence_inv (bay : Fin 48) (c : SheetCmd) {s t : State} (hi : s.Inv) (he : execFence bay c s = .next t) : t.Inv := by
  cases he
  dsimp only
  repeat' first
    | with_reducible assumption | refine State.moduleDoes_inv ?_ _ _ _ fun _ => ?_ | with_reducible apply State.onModule_inv
    | with_reducible apply State.moduleSays_inv | split

theorem execTrainingAttempt_inv (bay : Fin 48) {s t : State} (hi : s.Inv) (he : execTrainingAttempt bay s = .next t) : t.Inv := by
  cases he
  dsimp only
  repeat' first | with_reducible assumption | with_reducible apply State.retrain_inv | with_reducible apply State.onPort_inv | split

theorem execLanesAligned_inv (bay : Fin 48) (lane0 : Bool) (lane1 : Bool) {s t : State} (hi : s.Inv) (he : execLanesAligned bay lane0 lane1 s = .next t) : t.Inv := by
  cases he
  dsimp only
  repeat' first
    | with_reducible assumption | with_reducible apply State.retrain_inv | with_reducible apply State.attemptFailed_inv
    | with_reducible apply State.onPort_inv | with_reducible apply State.retireLane_inv | split | refine State.foldl_inv ?_ (fun _ _ hi => ?_) _

theorem execTrainingTimeout_inv (bay : Fin 48) {s t : State} (hi : s.Inv) (he : execTrainingTimeout bay s = .next t) : t.Inv := by
  cases he
  dsimp only
  repeat' first
    | with_reducible assumption | with_reducible apply State.retrain_inv | with_reducible apply State.foreign_inv
    | with_reducible apply State.attemptFailed_inv | split

theorem execSheetInitSendTimer_inv (bay : Fin 48) {s t : State} (hi : s.Inv) (he : execSheetInitSendTimer bay s = .next t) : t.Inv := by
  cases he
  dsimp only
  repeat' first
    | with_reducible assumption | with_reducible apply State.emit_inv | with_reducible apply State.onPort_inv
    | with_reducible apply State.tryUp_inv | split

theorem execSheetInitRx_inv (bay : Fin 48) (i : SheetInit) {s t : State} (hi : s.Inv) (he : execSheetInitRx bay i s = .next t) : t.Inv := by
  cases he
  dsimp only
  repeat' first
    | with_reducible assumption | with_reducible apply State.onPort_inv | with_reducible apply State.foreign_inv
    | with_reducible apply State.tryUp_inv | split

theorem execSheetFrameRx_inv (bay : Fin 48) (h : SheetHdr) {s t : State} (hi : s.Inv) (he : execSheetFrameRx bay h s = .next t) : t.Inv := by
  cases he
  dsimp only
  repeat' first
    | with_reducible assumption | with_reducible apply State.onPort_inv | with_reducible apply State.emit_inv
    | with_reducible apply State.uncorrectable_inv | with_reducible apply State.replay_inv | split

theorem execSheetAckRx_inv (bay : Fin 48) (ack : Nat) {s t : State} (hi : s.Inv) (he : execSheetAckRx bay ack s = .next t) : t.Inv := by
  cases he
  repeat' first
    | with_reducible assumption | with_reducible apply State.onPort_inv | with_reducible apply State.replay_inv
    | with_reducible apply State.kick_inv | split

theorem execSheetNakRx_inv (bay : Fin 48) (ack : Nat) {s t : State} (hi : s.Inv) (he : execSheetNakRx bay ack s = .next t) : t.Inv := by
  cases he
  dsimp only
  repeat' first
    | with_reducible assumption | with_reducible apply State.onPort_inv | with_reducible apply State.replay_inv
    | with_reducible apply State.replayAll_inv | split

theorem execSheetCreditRx_inv (bay : Fin 48) (cmd : Nat) (data : Nat) {s t : State} (hi : s.Inv) (he : execSheetCreditRx bay cmd data s = .next t) : t.Inv := by
  cases he
  repeat' first | with_reducible assumption | with_reducible apply State.onPort_inv | with_reducible apply State.kick_inv | split

theorem execSheetAckTimer_inv (bay : Fin 48) {s t : State} (hi : s.Inv) (he : execSheetAckTimer bay s = .next t) : t.Inv := by
  cases he
  dsimp only
  repeat' first | with_reducible assumption | with_reducible apply State.onPort_inv | with_reducible apply State.emit_inv | split

theorem execSheetReplayTimer_inv (bay : Fin 48) {s t : State} (hi : s.Inv) (he : execSheetReplayTimer bay s = .next t) : t.Inv := by
  cases he
  dsimp only
  repeat' first
    | with_reducible assumption | with_reducible apply State.replay_inv | with_reducible apply State.frameFailed_inv
    | with_reducible apply State.replayAll_inv | split

theorem execSheetLaneLockLoss_inv (bay : Fin 48) (lane : Fin 2) {s t : State} (hi : s.Inv) (he : execSheetLaneLockLoss bay lane s = .next t) : t.Inv := by
  cases he
  dsimp only
  repeat' first
    | with_reducible assumption | with_reducible apply State.onPort_inv | with_reducible apply State.raise_inv
    | with_reducible apply State.retireLane_inv | with_reducible apply State.checkSpace_inv | with_reducible apply State.retrain_inv | split

theorem execSheetStatusPoll_inv {s t : State} (hi : s.Inv) (he : execSheetStatusPoll s = .next t) : t.Inv := by
  cases he
  dsimp only
  repeat' first | with_reducible assumption | with_reducible apply State.ask_inv | split | refine State.foldl_inv ?_ (fun _ _ hi => ?_) _

theorem execLaneErrPoll_inv {s t : State} (hi : s.Inv) (he : execLaneErrPoll s = .next t) : t.Inv := by
  cases he
  dsimp only
  repeat' first
    | with_reducible assumption | with_reducible apply State.onPort_inv | with_reducible apply State.ask_inv | split
    | refine State.foldl_inv ?_ (fun _ _ hi => ?_) _

theorem execUnreachableTimeout_inv (bay : Fin 48) {s t : State} (hi : s.Inv) (he : execUnreachableTimeout bay s = .next t) : t.Inv := by
  cases he
  dsimp only
  repeat' first | with_reducible assumption | with_reducible apply State.retireModule_inv | split

theorem execFenceTimeout_inv (bay : Fin 48) {s t : State} (hi : s.Inv) (he : execFenceTimeout bay s = .next t) : t.Inv := by
  cases he
  repeat' first | with_reducible assumption | with_reducible apply State.retireModule_inv | split

theorem execSheetResponse_inv (bay : Fin 48) (tag : Nat) (code : Nat) (res : SheetResult) {s t : State} (hi : s.Inv) (he : execSheetResponse bay tag code res s = .next t) : t.Inv := by
  cases he
  dsimp only
  repeat' first
    | with_reducible assumption | with_reducible apply State.lateSheet_inv | with_reducible apply State.freeTag_inv
    | with_reducible apply State.tookTag_inv | with_reducible apply State.goOn_inv | with_reducible apply State.respond_inv | split

theorem execSheetDataRx_inv (bay : Fin 48) (tag : Nat) (index : Fin 16) (payload : Payload) {s t : State} (hi : s.Inv) (he : execSheetDataRx bay tag index payload s = .next t) : t.Inv := by
  cases he
  dsimp only
  repeat' first | with_reducible assumption | with_reducible apply State.lateSheet_inv | with_reducible apply State.onRd_inv | split

theorem execSheetOpTimeout_inv (bay : Fin 48) (tag : Nat) {s t : State} (hi : s.Inv) (he : execSheetOpTimeout bay tag s = .next t) : t.Inv := by
  cases he
  dsimp only
  repeat' first | with_reducible assumption | with_reducible apply State.opTimedOut_inv | split

theorem execTagRequeryTimer_inv (bay : Fin 48) (tag : Nat) {s t : State} (hi : s.Inv) (he : execTagRequeryTimer bay tag s = .next t) : t.Inv := by
  cases he
  dsimp only
  repeat' first | with_reducible assumption | with_reducible apply State.onPort_inv | with_reducible apply State.ask_inv | split

theorem execFrameBoundary_inv {s t : State} (hi : s.Inv) (he : execFrameBoundary s = .next t) : t.Inv := by
  cases he
  dsimp only
  repeat' first
    | with_reducible assumption | with_reducible apply State.onClk_inv | with_reducible apply State.onMap_inv
    | with_reducible apply State.restoreBudgets_inv | with_reducible apply State.thermalGroups_inv | with_reducible apply State.onCip_inv
    | with_reducible apply State.applyChanges_inv | with_reducible apply State.sealCharge_inv | with_reducible apply State.smartCheck_inv
    | with_reducible apply State.ckptAge_inv | with_reducible apply State.ckptStep_inv | split | exact fun _ => ⟨rfl, rfl⟩ | simp

theorem execSequencerSlot_inv (slot : Fin 16384) {s t : State} (hi : s.Inv) (he : execSequencerSlot slot s = .next t) : t.Inv := by
  cases he
  dsimp only
  repeat' first
    | with_reducible assumption | with_reducible apply State.onClk_inv | with_reducible apply State.onSched_inv | split | exact fun _ => ⟨rfl, rfl⟩
    | simp

theorem execIntakeSlot_inv (slot : Fin 16384) {s t : State} (hi : s.Inv) (he : execIntakeSlot slot s = .next t) : t.Inv := by
  cases he
  dsimp only
  repeat' first
    | with_reducible assumption | with_reducible apply State.onClk_inv | with_reducible apply State.onSched_inv
    | with_reducible apply State.takeHead_inv | with_reducible apply State.pathStatus_inv | split | refine State.foldl_inv ?_ (fun _ _ hi => ?_) _
    | exact fun _ => ⟨rfl, rfl⟩ | simp

theorem execAdmission_inv (ord : Nat) {s t : State} (hi : s.Inv) (he : execAdmission ord s = .next t) : t.Inv := by
  cases he
  dsimp only
  repeat' first
    | with_reducible assumption | with_reducible apply State.onCmd_inv | with_reducible apply State.onSched_inv
    | with_reducible apply State.returnCredit_inv | split | exact fun _ => ⟨rfl, rfl⟩

theorem execOverlapWaitEnd_inv (ord : Nat) {s t : State} (hi : s.Inv) (he : execOverlapWaitEnd ord s = .next t) : t.Inv := by
  cases he
  repeat' first | with_reducible assumption | with_reducible apply State.onCmd_inv | split

theorem execLdpcDecodeDone_inv (job : Nat) (d : Decode) {s t : State} (hi : s.Inv) (he : execLdpcDecodeDone job d s = .next t) : t.Inv := by
  cases he
  dsimp only
  repeat' first
    | with_reducible assumption | with_reducible apply State.countDecode_inv | with_reducible apply State.track_inv
    | with_reducible apply State.checkBay_inv | with_reducible apply State.onHealth_inv | with_reducible apply State.retryHit_inv
    | with_reducible apply State.queueRewrite_inv | with_reducible apply State.capCost_inv | with_reducible apply State.endProbe_inv
    | with_reducible apply State.endJob_inv | with_reducible apply State.kick_inv | with_reducible apply State.deliver_inv
    | with_reducible apply State.raise_inv | with_reducible apply State.noteRecon_inv | with_reducible apply State.reconstruct_inv
    | with_reducible apply State.onRd_inv | with_reducible apply State.queueProbe_inv | split

theorem execProbeIssue_inv {s t : State} (hi : s.Inv) (he : execProbeIssue s = .next t) : t.Inv := by
  cases he
  dsimp only
  repeat' first
    | with_reducible assumption | with_reducible apply State.onMed_inv | with_reducible apply State.onHealth_inv
    | with_reducible apply State.newJob_inv | with_reducible apply State.onRd_inv | with_reducible apply State.chargeBack_inv
    | with_reducible apply State.tryRead_inv | split | refine State.inv_of_pair (by assumption) ?_ | exact fun _ => ⟨rfl, rfl⟩

theorem execAgeClockTick_inv (bay : Fin 48) (reading : Option Int) {s t : State} (hi : s.Inv) (he : execAgeClockTick bay reading s = .next t) : t.Inv := by
  cases he
  dsimp only
  repeat' first | with_reducible assumption | with_reducible apply State.noteTemp_inv | with_reducible apply State.onHealth_inv | split

theorem execBlockRecordScan_inv {s t : State} (hi : s.Inv) (he : execBlockRecordScan s = .next t) : t.Inv := by
  cases he
  dsimp only
  repeat' first
    | with_reducible assumption | with_reducible apply State.queueRewrite_inv | with_reducible apply State.checkBay_inv
    | with_reducible apply State.onMed_inv | split | refine State.foldl_inv ?_ (fun _ _ hi => ?_) _ | exact fun _ => ⟨rfl, rfl⟩ | simp

theorem execWearCheck_inv {s t : State} (hi : s.Inv) (he : execWearCheck s = .next t) : t.Inv := by
  cases he
  dsimp only
  repeat' first
    | with_reducible assumption | with_reducible apply State.checkWear_inv | with_reducible apply State.onUnit_inv | split
    | refine State.victim_inv ?_ (by assumption) | refine State.foldl_inv ?_ (fun _ _ hi => ?_) _

theorem execJunctionSample_inv {s t : State} (hi : s.Inv) (he : execJunctionSample s = .next t) : t.Inv := by
  cases he
  repeat' first | with_reducible assumption | with_reducible apply State.onMed_inv | split | exact fun _ => ⟨rfl, rfl⟩ | simp

theorem execJournalCopyPlaced_inv (bay : Fin 48) {s t : State} (hi : s.Inv) (he : execJournalCopyPlaced bay s = .next t) : t.Inv := by
  cases he
  dsimp only
  repeat' first
    | with_reducible assumption | with_reducible apply State.resumeRebuild_inv | with_reducible apply State.journal_inv
    | with_reducible apply State.onReb_inv | with_reducible apply State.onLog_inv | with_reducible apply State.live_inv
    | with_reducible apply State.trySj_inv | with_reducible apply State.leaveJournal_inv | split | refine State.foldl_inv ?_ (fun _ _ hi => ?_) _
    | exact fun _ => ⟨rfl, rfl⟩

theorem execRebuildStep_inv {s t : State} (hi : s.Inv) (he : execRebuildStep s = .next t) : t.Inv := by
  cases he
  dsimp only
  repeat' first
    | with_reducible assumption | with_reducible apply State.pauseRebuild_inv | with_reducible apply State.resumeRebuild_inv
    | with_reducible apply State.rebuildStep_inv | split

theorem execRebuildRetryTimer_inv {s t : State} (hi : s.Inv) (he : execRebuildRetryTimer s = .next t) : t.Inv := by
  cases he
  dsimp only
  repeat' first
    | with_reducible assumption | with_reducible apply State.onReb_inv | with_reducible apply State.batchStep_inv
    | with_reducible apply State.rebuildStep_inv | split

theorem execRepairBatchAdvance_inv {s t : State} (hi : s.Inv) (he : execRepairBatchAdvance s = .next t) : t.Inv := by
  cases he
  repeat' first | with_reducible assumption | with_reducible apply State.batchStep_inv | split

theorem execSweepStep_inv {s t : State} (hi : s.Inv) (he : execSweepStep s = .next t) : t.Inv := by
  cases he
  dsimp only
  repeat' first
    | with_reducible assumption | with_reducible apply State.resumeRebuild_inv | with_reducible apply State.onReb_inv
    | with_reducible apply State.setReb_inv | with_reducible apply State.needPage_inv | with_reducible apply State.writeBackPage_inv
    | with_reducible apply State.streamPage_inv | with_reducible apply State.sweepEntry_inv | with_reducible apply State.onMap_inv | split
    | refine State.foldl_inv ?_ (fun _ _ hi => ?_) _

theorem execRewriteIssue_inv {s t : State} (hi : s.Inv) (he : execRewriteIssue s = .next t) : t.Inv := by
  cases he
  dsimp only
  repeat' first
    | with_reducible assumption | with_reducible apply State.onReb_inv | with_reducible apply State.moveRing_inv
    | with_reducible apply State.onUnit_inv | with_reducible apply State.addRepair_inv | with_reducible apply State.chargeBack_inv | split
    | refine State.foldl_inv ?_ (fun _ _ hi => ?_) _

theorem execPatrolIssue_inv {s t : State} (hi : s.Inv) (he : execPatrolIssue s = .next t) : t.Inv := by
  cases he
  repeat' first | with_reducible assumption | with_reducible apply State.patrolRun_inv | split

theorem execShelfKeyTransfer_inv (certOk : Bool) (key : BitVec 256) {s t : State} (hi : s.Inv) (he : execShelfKeyTransfer certOk key s = .next t) : t.Inv := by
  cases he
  repeat' first
    | with_reducible assumption | with_reducible apply State.onCip_inv | with_reducible apply State.onBoot_inv | split | exact fun _ => ⟨rfl, rfl⟩
    | simp

theorem execDrbgReseed_inv (i : Fin 4) (healthy : Bool) {s t : State} (hi : s.Inv) (he : execDrbgReseed i healthy s = .next t) : t.Inv := by
  cases he
  repeat' first
    | with_reducible assumption | with_reducible apply State.onCip_inv | with_reducible apply State.raise_inv | split | exact fun _ => ⟨rfl, rfl⟩
    | simp

theorem execDrbgReseedOverdue_inv (i : Fin 4) {s t : State} (hi : s.Inv) (he : execDrbgReseedOverdue i s = .next t) : t.Inv := by
  cases he
  repeat' first | with_reducible assumption | with_reducible apply State.onCip_inv | split | exact fun _ => ⟨rfl, rfl⟩ | simp

theorem execDrbgStallTimer_inv {s t : State} (hi : s.Inv) (he : execDrbgStallTimer s = .next t) : t.Inv := by
  cases he
  repeat' first | with_reducible assumption | with_reducible apply State.chipHandle_inv | split

theorem execRetentionExpiry_inv (ns : Fin 4096) {s t : State} (hi : s.Inv) (he : execRetentionExpiry ns s = .next t) : t.Inv := by
  cases he
  repeat' first | with_reducible assumption | with_reducible apply State.onCip_inv | split | exact fun _ => ⟨rfl, rfl⟩ | simp

theorem execSealDigestDone_inv (m : Fin 64) (digest : BitVec 384) (bad : Option Nat) {s t : State} (hi : s.Inv) (he : execSealDigestDone m digest bad s = .next t) : t.Inv := by
  cases he
  dsimp only
  repeat' first
    | with_reducible assumption | with_reducible apply State.onCip_inv | with_reducible apply State.event_inv
    | with_reducible apply State.answer_inv | with_reducible apply State.dropCmd_inv | with_reducible apply State.onBoot_inv | split
    | exact fun _ => ⟨rfl, rfl⟩ | simp

theorem execCounterHappening_inv (h : Happening) {s t : State} (hi : s.Inv) (he : execCounterHappening h s = .next t) : t.Inv := by
  cases he
  dsimp only
  repeat' first | with_reducible assumption | with_reducible apply State.countUp_inv | split | refine State.foldl_inv ?_ (fun _ _ hi => ?_) _

theorem execPmcSmpHeadWrite_inv (bank : Fin 16) (value : BitVec 32) {s t : State} (hi : s.Inv) (he : execPmcSmpHeadWrite bank value s = .next t) : t.Inv := by
  cases he
  repeat' first | with_reducible assumption | with_reducible apply State.smpHead_inv | split

theorem execEvqHeadWrite_inv (q : Fin 64) (value : BitVec 32) {s t : State} (hi : s.Inv) (he : execEvqHeadWrite q value s = .next t) : t.Inv := by
  cases he
  repeat' first | with_reducible assumption | with_reducible apply State.evqHead_inv | split

theorem execEvqTimeThreshold_inv (q : Fin 64) {s t : State} (hi : s.Inv) (he : execEvqTimeThreshold q s = .next t) : t.Inv := by
  cases he
  dsimp only
  repeat' first | with_reducible assumption | with_reducible apply State.evqSignal_inv | split

theorem execMsixVectorUnmask_inv (v : Fin 64) {s t : State} (hi : s.Inv) (he : execMsixVectorUnmask v s = .next t) : t.Inv := by
  cases he
  repeat' first | with_reducible assumption | with_reducible apply State.unmask_inv | split

theorem execPcieCompletionRx_inv (tag : Fin 1024) (poisoned : Bool) {s t : State} (hi : s.Inv) (he : execPcieCompletionRx tag poisoned s = .next t) : t.Inv := by
  cases he
  dsimp only
  repeat' first
    | with_reducible assumption | with_reducible apply State.setTag_inv | with_reducible apply State.logAer_inv
    | with_reducible apply State.onMgmt_inv | with_reducible apply State.event_inv | with_reducible apply State.fetchRefused_inv | split
    | exact fun _ => ⟨rfl, rfl⟩ | simp

theorem execPcieCompletionTimeout_inv (tag : Fin 1024) {s t : State} (hi : s.Inv) (he : execPcieCompletionTimeout tag s = .next t) : t.Inv := by
  cases he
  dsimp only
  repeat' first
    | with_reducible assumption | with_reducible apply State.setTag_inv | with_reducible apply State.logAer_inv
    | with_reducible apply State.onMgmt_inv | with_reducible apply State.fetchRefused_inv | split | exact fun _ => ⟨rfl, rfl⟩ | simp

theorem execTagQuarantineExpiry_inv (tag : Fin 1024) {s t : State} (hi : s.Inv) (he : execTagQuarantineExpiry tag s = .next t) : t.Inv := by
  cases he
  repeat' first | with_reducible assumption | with_reducible apply State.setTag_inv | split

theorem execBusMasterEnableClear_inv {s t : State} (hi : s.Inv) (he : execBusMasterEnableClear s = .next t) : t.Inv := by
  cases he
  repeat' first
    | with_reducible assumption | with_reducible apply State.onMgmt_inv | with_reducible apply State.mastersOff_inv | split
    | exact fun _ => ⟨rfl, rfl⟩ | simp

theorem execBusMasterEnableSet_inv {s t : State} (hi : s.Inv) (he : execBusMasterEnableSet s = .next t) : t.Inv := by
  cases he
  dsimp only
  repeat' first
    | with_reducible assumption | with_reducible apply State.onMgmt_inv | with_reducible apply State.mastersOn_inv | split
    | exact fun _ => ⟨rfl, rfl⟩ | simp

theorem execD3hotTransition_inv (enter : Bool) {s t : State} (hi : s.Inv) (he : execD3hotTransition enter s = .next t) : t.Inv := by
  cases he
  dsimp only
  repeat' first
    | with_reducible assumption | with_reducible apply State.onMgmt_inv | with_reducible apply State.mastersOff_inv
    | with_reducible apply State.mastersOn_inv | split | exact fun _ => ⟨rfl, rfl⟩ | simp

theorem execFunctionLevelReset_inv {s t : State} (hi : s.Inv) (he : execFunctionLevelReset s = .next t) : t.Inv := by
  cases he
  dsimp only
  generalize List.range 48 = own
  split
  · exact hi
  · have h1 : (own.foldl (fun (s : State) m => ((s.armDropped m).detach m).onMbx m fun _ => Mbx.reset) s).Inv :=
      State.foldl_inv hi (fun _ m h => State.onMbx_inv (State.detach_inv (State.armDropped_inv h m) m) m fun _ _ => rfl) _
    exact { h1 with msix := List.length_replicate, evqs := List.length_replicate }

theorem execRegisterWrite_inv (client : RegClient) (offset : Nat) (wide : Bool) (value : BitVec 64) {s t : State} (hi : s.Inv) (he : execRegisterWrite client offset wide value s = .next t) : t.Inv := by
  cases he
  dsimp only
  repeat' first | with_reducible assumption | with_reducible apply State.write32_inv | split

theorem execSessionOpen_inv (m : OpenMsg) {s t : State} (hi : s.Inv) (he : execSessionOpen m s = .next t) : t.Inv := by
  cases he
  dsimp only
  repeat' first
    | with_reducible assumption | with_reducible apply State.dropDatagram_inv | with_reducible apply State.onMgmt_inv
    | with_reducible apply State.emit_inv | split | exact fun _ => ⟨rfl, rfl⟩ | simp

theorem execSessionClose_inv (i : Fin 8) (seq : Nat) (tagOk : Bool) {s t : State} (hi : s.Inv) (he : execSessionClose i seq tagOk s = .next t) : t.Inv := by
  cases he
  repeat' first | with_reducible assumption | with_reducible apply State.dropDatagram_inv | with_reducible apply State.endSession_inv | split

theorem execSessionTimeout_inv (i : Fin 8) {s t : State} (hi : s.Inv) (he : execSessionTimeout i s = .next t) : t.Inv := by
  cases he
  repeat' first | with_reducible assumption | with_reducible apply State.endSession_inv | split

theorem execCommandDatagramRx_inv (i : Fin 8) (seq : Nat) (tagOk : Bool) {s t : State} (hi : s.Inv) (he : execCommandDatagramRx i seq tagOk s = .next t) : t.Inv := by
  cases he
  dsimp only
  repeat' first
    | with_reducible assumption | with_reducible apply State.dropDatagram_inv | with_reducible apply State.onMgmt_inv
    | with_reducible apply State.go_inv | with_reducible apply State.emit_inv | split | exact fun _ => ⟨rfl, rfl⟩ | simp

theorem execMailboxCompletion_inv (m : Fin 64) {s t : State} (hi : s.Inv) (he : execMailboxCompletion m s = .next t) : t.Inv := by
  cases he
  dsimp only
  split
  · next r hr =>
    generalize (List.range r.bytes.length).zip r.bytes = bytes
    have hp : ∀ t : Tab (BitVec 8), bufWf t = true → bufWf (bytes.foldl (fun t e => tabPutD 0 t e.1 e.2) t) = true := fun t h =>
      List.foldlRecOn (motive := fun t => bufWf t = true) _ _ h fun t ht e _ => bufWf_tabPutD ht _ _
    repeat' first
      | with_reducible assumption | with_reducible apply State.evqPost_inv | with_reducible apply State.emit_inv
      | exact State.onMbx_inv hi _ fun _ h => h | exact State.onMbx_inv hi _ fun _ h => hp _ h
      | refine State.onMgmt_inv ?_ fun _ => ⟨rfl, rfl, rfl, modNth_length .., id⟩ | split
  · exact hi

theorem execMailboxInvalidOpcode_inv (h : MbxHdr) (opcode : Nat) {s t : State} (hi : s.Inv) (he : execMailboxInvalidOpcode h opcode s = .next t) : t.Inv := by
  cases he
  dsimp only
  repeat' first
    | with_reducible assumption | with_reducible apply State.takeGo_inv | refine State.onMbx_inv ?_ _ fun _ hb => ?_
    | with_reducible apply State.mbxFail_inv | split

theorem execFnStart_inv (h : MbxHdr) {s t : State} (hi : s.Inv) (he : execFnStart h s = .next t) : t.Inv := by
  cases he
  repeat' first
    | with_reducible assumption | refine State.mbxRun_inv ?_ _ _ (fun _ hi => ?_) (fun _ hi => ?_) | with_reducible apply State.fnStart_inv
    | with_reducible apply State.mbxOk_inv | split | exact fun _ => ⟨rfl, rfl⟩ | simp

theorem execFnStop_inv (h : MbxHdr) {s t : State} (hi : s.Inv) (he : execFnStop h s = .next t) : t.Inv := by
  cases he
  repeat' first
    | with_reducible assumption | refine State.mbxRun_inv ?_ _ _ (fun _ hi => ?_) (fun _ hi => ?_) | with_reducible apply State.fnStop_inv
    | with_reducible apply State.mbxOk_inv | with_reducible apply State.mbxFail_inv | split

theorem execFnArm_inv (h : MbxHdr) (format : Nat) {s t : State} (hi : s.Inv) (he : execFnArm h format s = .next t) : t.Inv := by
  cases he
  repeat' first
    | with_reducible assumption | with_reducible apply State.format_inv | refine State.mbxRun_inv ?_ _ _ (fun _ hi => ?_) (fun _ hi => ?_)
    | with_reducible apply State.armStart_inv | with_reducible apply State.armStep_inv

theorem execFnStatus_inv (h : MbxHdr) {s t : State} (hi : s.Inv) (he : execFnStatus h s = .next t) : t.Inv := by
  cases he
  repeat' first
    | with_reducible assumption | refine State.mbxRun_inv ?_ _ _ (fun _ hi => ?_) (fun _ hi => ?_) | with_reducible apply State.mbxOk_inv | split
    | exact fun _ => ⟨rfl, rfl⟩ | simp

theorem execFnChipreset_inv (h : MbxHdr) {s t : State} (hi : s.Inv) (he : execFnChipreset h s = .next t) : t.Inv := by
  cases he
  repeat' first
    | with_reducible assumption | refine State.mbxRun_inv ?_ _ _ (fun _ hi => ?_) (fun _ hi => ?_) | with_reducible apply State.giveUpLease_inv
    | with_reducible apply State.mbxOk_inv | split | exact fun _ => ⟨rfl, rfl⟩ | simp

theorem execFnCplto_inv (h : MbxHdr) (timeout : Nat) {s t : State} (hi : s.Inv) (he : execFnCplto h timeout s = .next t) : t.Inv := by
  cases he
  repeat' first
    | with_reducible assumption | refine State.mbxRun_inv ?_ _ _ (fun _ hi => ?_) (fun _ hi => ?_) | with_reducible apply State.live_inv | split
    | exact fun _ => ⟨rfl, rfl⟩ | simp

theorem execRigLoad_inv (h : MbxHdr) (image : RigImage) {s t : State} (hi : s.Inv) (he : execRigLoad h image s = .next t) : t.Inv := by
  cases he
  repeat' first
    | with_reducible assumption | refine State.mbxRun_inv ?_ _ _ (fun _ hi => ?_) (fun _ hi => ?_) | with_reducible apply State.rigLoad_inv | split
    | exact fun _ => ⟨rfl, rfl⟩ | simp

theorem execRigVerify_inv (h : MbxHdr) (image : RigImage) {s t : State} (hi : s.Inv) (he : execRigVerify h image s = .next t) : t.Inv := by
  cases he
  dsimp only
  repeat' first
    | with_reducible assumption | refine State.mbxRun_inv ?_ _ _ (fun _ hi => ?_) (fun _ hi => ?_) | with_reducible apply State.mbxOk_inv
    | with_reducible apply State.mbxFail_inv | split | exact fun _ => ⟨rfl, rfl⟩ | simp

theorem execRigInfo_inv (h : MbxHdr) {s t : State} (hi : s.Inv) (he : execRigInfo h s = .next t) : t.Inv := by
  cases he
  dsimp only
  repeat' first
    | with_reducible assumption | refine State.mbxRun_inv ?_ _ _ (fun _ hi => ?_) (fun _ hi => ?_) | with_reducible apply State.mbxOk_inv | split
    | exact fun _ => ⟨rfl, rfl⟩ | simp

theorem execRigEnroll_inv (h : MbxHdr) (keyId : BitVec 64) (pubkey : BitVec 776) {s t : State} (hi : s.Inv) (he : execRigEnroll h keyId pubkey s = .next t) : t.Inv := by
  cases he
  repeat' first
    | with_reducible assumption | refine State.mbxRun_inv ?_ _ _ (fun _ hi => ?_) (fun _ hi => ?_) | with_reducible apply State.mbxFail_inv
    | with_reducible apply State.onBoot_inv | with_reducible apply State.mbxOk_inv | split | exact fun _ => ⟨rfl, rfl⟩ | simp

theorem execRigRules_inv (h : MbxHdr) (cls : ClsSection) {s t : State} (hi : s.Inv) (he : execRigRules h cls s = .next t) : t.Inv := by
  cases he
  repeat' first
    | with_reducible assumption | refine State.mbxRun_inv ?_ _ _ (fun _ hi => ?_) (fun _ hi => ?_) | with_reducible apply State.rigRules_inv
    | split | exact fun _ => ⟨rfl, rfl⟩ | simp

theorem execModList_inv (h : MbxHdr) {s t : State} (hi : s.Inv) (he : execModList h s = .next t) : t.Inv := by
  cases he
  generalize List.range 48 = bays
  refine State.mbxRun_inv hi _ _ (fun s hs => State.mbxOk_inv ?_ _ _) (fun _ h => h)
  have h0 : (([] : List (BitVec 8)), s).2.Inv := hs
  refine foldl_pair_inv h0 (fun a b h => ?_) _
  exact State.peerBay_inv h b

theorem execModDesc_inv (h : MbxHdr) (bay : Nat) (page : Nat) {s t : State} (hi : s.Inv) (he : execModDesc h bay page s = .next t) : t.Inv := by
  cases he
  dsimp only
  repeat' first
    | with_reducible assumption | refine State.mbxRun_inv ?_ _ _ (fun _ hi => ?_) (fun _ hi => ?_) | with_reducible apply State.mbxFail_inv
    | with_reducible apply State.emit_inv | with_reducible apply State.answer_inv | split | exact fun _ => ⟨rfl, rfl⟩ | simp

theorem execModStatus_inv (h : MbxHdr) (bay : Nat) {s t : State} (hi : s.Inv) (he : execModStatus h bay s = .next t) : t.Inv := by
  cases he
  repeat' first
    | with_reducible assumption | refine State.mbxRun_inv ?_ _ _ (fun _ hi => ?_) (fun _ hi => ?_) | with_reducible apply State.mbxOk_inv | split
    | exact fun _ => ⟨rfl, rfl⟩ | simp

theorem execModRetire_inv (h : MbxHdr) (bay : Nat) {s t : State} (hi : s.Inv) (he : execModRetire h bay s = .next t) : t.Inv := by
  cases he
  repeat' first
    | with_reducible assumption | refine State.mbxRun_inv ?_ _ _ (fun _ hi => ?_) (fun _ hi => ?_) | with_reducible apply State.retireModule_inv
    | with_reducible apply State.mbxOk_inv | split | exact fun _ => ⟨rfl, rfl⟩ | simp

theorem execModClear_inv (h : MbxHdr) (bay : Nat) {s t : State} (hi : s.Inv) (he : execModClear h bay s = .next t) : t.Inv := by
  cases he
  dsimp only
  repeat' first
    | with_reducible assumption | refine State.mbxRun_inv ?_ _ _ (fun _ hi => ?_) (fun _ hi => ?_) | with_reducible apply State.modClear_inv
    | with_reducible apply State.emit_inv | with_reducible apply State.mbxOk_inv | with_reducible apply State.answer_inv | split
    | exact fun _ => ⟨rfl, rfl⟩ | simp

theorem execNsList_inv (h : MbxHdr) {s t : State} (hi : s.Inv) (he : execNsList h s = .next t) : t.Inv := by
  cases he
  repeat' first
    | with_reducible assumption | refine State.mbxRun_inv ?_ _ _ (fun _ hi => ?_) (fun _ hi => ?_) | with_reducible apply State.mbxData_inv | split
    | exact fun _ => ⟨rfl, rfl⟩ | simp

theorem execNsRead_inv (h : MbxHdr) (ns : Nat) (lba : Nat) (count : Nat) {s t : State} (hi : s.Inv) (he : execNsRead h ns lba count s = .next t) : t.Inv := by
  cases he
  dsimp only
  repeat' first
    | with_reducible assumption | with_reducible apply State.go_inv | with_reducible apply State.mbxStore_inv
    | refine State.mbxRun_inv ?_ _ _ (fun _ hi => ?_) (fun _ hi => ?_)

theorem execNsWrite_inv (h : MbxHdr) (ns : Nat) (lba : Nat) (count : Nat) (data : List Sector) (poisoned : List Nat) {s t : State} (hi : s.Inv) (he : execNsWrite h ns lba count data poisoned s = .next t) : t.Inv := by
  cases he
  dsimp only
  repeat' first
    | with_reducible assumption | with_reducible apply State.go_inv | with_reducible apply State.mbxStore_inv
    | refine State.mbxRun_inv ?_ _ _ (fun _ hi => ?_) (fun _ hi => ?_)

theorem execNsDealloc_inv (h : MbxHdr) (ns : Nat) (lba : Nat) (count : Nat) {s t : State} (hi : s.Inv) (he : execNsDealloc h ns lba count s = .next t) : t.Inv := by
  cases he
  dsimp only
  repeat' first
    | with_reducible assumption | with_reducible apply State.go_inv | with_reducible apply State.mbxStore_inv
    | refine State.mbxRun_inv ?_ _ _ (fun _ hi => ?_) (fun _ hi => ?_)

theorem execSealRange_inv (h : MbxHdr) (ns : Nat) (lba : Nat) (count : Nat) {s t : State} (hi : s.Inv) (he : execSealRange h ns lba count s = .next t) : t.Inv := by
  cases he
  dsimp only
  repeat' first
    | with_reducible assumption | with_reducible apply State.go_inv | with_reducible apply State.mbxStore_inv
    | refine State.mbxRun_inv ?_ _ _ (fun _ hi => ?_) (fun _ hi => ?_)

theorem execNsCache_inv (h : MbxHdr) (op : Nat) (unlock : Nat) (ns : Nat) (lba : Nat) (len : Nat) {s t : State} (hi : s.Inv) (he : execNsCache h op unlock ns lba len s = .next t) : t.Inv := by
  cases he
  dsimp only
  repeat' first
    | with_reducible assumption | with_reducible apply State.go_inv | with_reducible apply State.goRange_inv
    | with_reducible apply State.rangeAnswer_inv | refine State.mbxRun_inv ?_ _ _ (fun _ hi => ?_) (fun _ hi => ?_) | split

theorem execPeerMailboxEffect_inv (m : Fin 64) (e : PeerEffect) {s t : State} (hi : s.Inv) (he : execPeerMailboxEffect m e s = .next t) : t.Inv := by
  cases he
  repeat' first
    | with_reducible assumption | with_reducible apply State.modClear_inv | with_reducible apply State.emit_inv
    | with_reducible apply State.keyGone_inv | split

theorem execKeyGenerate_inv (h : MbxHdr) (tenant : Nat) (slot : Nat) (mode : Nat) {s t : State} (hi : s.Inv) (he : execKeyGenerate h tenant slot mode s = .next t) : t.Inv := by
  cases he
  dsimp only
  repeat' first
    | with_reducible assumption | refine State.mbxRun_inv ?_ _ _ (fun _ hi => ?_) (fun _ hi => ?_) | with_reducible apply State.mbxFail_inv
    | with_reducible apply State.draw_inv | with_reducible apply State.placeKey_inv | split | refine State.inv_of_pair (by assumption) ?_
    | exact fun _ => ⟨rfl, rfl⟩ | simp

theorem execKeyImport_inv (h : MbxHdr) (tenant : Nat) (slot : Nat) (mode : Nat) (unwrapped : Option (BitVec 512)) {s t : State} (hi : s.Inv) (he : execKeyImport h tenant slot mode unwrapped s = .next t) : t.Inv := by
  cases he
  repeat' first
    | with_reducible assumption | refine State.mbxRun_inv ?_ _ _ (fun _ hi => ?_) (fun _ hi => ?_) | with_reducible apply State.mbxFail_inv
    | with_reducible apply State.placeKey_inv | split | exact fun _ => ⟨rfl, rfl⟩ | simp

theorem execKeyDestroy_inv (h : MbxHdr) (tenant : Nat) (slot : Nat) {s t : State} (hi : s.Inv) (he : execKeyDestroy h tenant slot s = .next t) : t.Inv := by
  cases he
  dsimp only
  repeat' first
    | with_reducible assumption | refine State.mbxRun_inv ?_ _ _ (fun _ hi => ?_) (fun _ hi => ?_) | with_reducible apply State.mbxFail_inv
    | with_reducible apply State.keyLive_inv | split | exact fun _ => ⟨rfl, rfl⟩ | simp

theorem execKeyStatus_inv (h : MbxHdr) (tenant : Nat) (slot : Nat) {s t : State} (hi : s.Inv) (he : execKeyStatus h tenant slot s = .next t) : t.Inv := by
  cases he
  repeat' first
    | with_reducible assumption | refine State.mbxRun_inv ?_ _ _ (fun _ hi => ?_) (fun _ hi => ?_) | with_reducible apply State.mbxOk_inv | split
    | exact fun _ => ⟨rfl, rfl⟩ | simp

theorem execKeyEscrow_inv (h : MbxHdr) (cpub : BitVec 776) {s t : State} (hi : s.Inv) (he : execKeyEscrow h cpub s = .next t) : t.Inv := by
  cases he
  dsimp only
  repeat' first
    | with_reducible assumption | refine State.mbxRun_inv ?_ _ _ (fun _ hi => ?_) (fun _ hi => ?_) | with_reducible apply State.freeNat_inv
    | with_reducible apply State.mbxOk_inv | with_reducible apply State.mbxFail_inv | split | refine State.inv_of_pair (by assumption) ?_
    | exact fun _ => ⟨rfl, rfl⟩ | simp

theorem execKeyRestore_inv (h : MbxHdr) (unwrapped : Option (BitVec 256)) {s t : State} (hi : s.Inv) (he : execKeyRestore h unwrapped s = .next t) : t.Inv := by
  cases he
  repeat' first
    | with_reducible assumption | refine State.mbxRun_inv ?_ _ _ (fun _ hi => ?_) (fun _ hi => ?_) | with_reducible apply State.mbxFail_inv
    | with_reducible apply State.onCip_inv | with_reducible apply State.onBoot_inv | with_reducible apply State.mbxOk_inv | split
    | exact fun _ => ⟨rfl, rfl⟩ | simp

theorem execKeyMgmtenroll_inv (h : MbxHdr) (index : Nat) (pubkey : BitVec 776) {s t : State} (hi : s.Inv) (he : execKeyMgmtenroll h index pubkey s = .next t) : t.Inv := by
  cases he
  dsimp only
  repeat' first
    | with_reducible assumption | refine State.mbxRun_inv ?_ _ _ (fun _ hi => ?_) (fun _ hi => ?_) | with_reducible apply State.onBoot_inv
    | with_reducible apply State.endSession_inv | with_reducible apply State.mbxOk_inv | split | refine State.foldl_inv ?_ (fun _ _ hi => ?_) _
    | exact fun _ => ⟨rfl, rfl⟩ | simp

theorem execRetAdvance_inv (h : MbxHdr) (delta : Nat) (advSeq : Nat) {s t : State} (hi : s.Inv) (he : execRetAdvance h delta advSeq s = .next t) : t.Inv := by
  cases he
  repeat' first
    | with_reducible assumption | refine State.mbxRun_inv ?_ _ _ (fun _ hi => ?_) (fun _ hi => ?_) | with_reducible apply State.mbxFail_inv
    | with_reducible apply State.onBoot_inv | with_reducible apply State.live_inv | split | exact fun _ => ⟨rfl, rfl⟩ | simp

theorem execRetClock_inv (h : MbxHdr) {s t : State} (hi : s.Inv) (he : execRetClock h s = .next t) : t.Inv := by
  cases he
  repeat' first
    | with_reducible assumption | refine State.mbxRun_inv ?_ _ _ (fun _ hi => ?_) (fun _ hi => ?_) | with_reducible apply State.mbxOk_inv | split
    | exact fun _ => ⟨rfl, rfl⟩ | simp

theorem execSealCert_inv (h : MbxHdr) {s t : State} (hi : s.Inv) (he : execSealCert h s = .next t) : t.Inv := by
  cases he
  dsimp only
  repeat' first
    | with_reducible assumption | refine State.mbxRun_inv ?_ _ _ (fun _ hi => ?_) (fun _ hi => ?_) | with_reducible apply State.emit_inv
    | with_reducible apply State.answer_inv | split | exact fun _ => ⟨rfl, rfl⟩ | simp

theorem execHlthCaps_inv (h : MbxHdr) (hostCap : Nat) (bgCap : Nat) {s t : State} (hi : s.Inv) (he : execHlthCaps h hostCap bgCap s = .next t) : t.Inv := by
  cases he
  repeat' first
    | with_reducible assumption | refine State.mbxRun_inv ?_ _ _ (fun _ hi => ?_) (fun _ hi => ?_) | with_reducible apply State.liveSettings_inv
    | split | exact fun _ => ⟨rfl, rfl⟩ | simp

theorem execHlthThresh_inv (h : MbxHdr) (rewrite : Nat) (thresholds : List Nat) {s t : State} (hi : s.Inv) (he : execHlthThresh h rewrite thresholds s = .next t) : t.Inv := by
  obtain rfl := Host.Outcome.next.inj he
  exact State.mbxRun_inv hi _ _ (fun _ h => State.liveSettings_inv h _ _) (fun _ h => h)

theorem execHlthPatrol_inv (h : MbxHdr) (days : Nat) {s t : State} (hi : s.Inv) (he : execHlthPatrol h days s = .next t) : t.Inv := by
  cases he
  repeat' first
    | with_reducible assumption | refine State.mbxRun_inv ?_ _ _ (fun _ hi => ?_) (fun _ hi => ?_) | with_reducible apply State.liveSettings_inv
    | split | exact fun _ => ⟨rfl, rfl⟩ | simp

theorem execPairInterval_inv (h : MbxHdr) (hours : Nat) {s t : State} (hi : s.Inv) (he : execPairInterval h hours s = .next t) : t.Inv := by
  cases he
  repeat' first
    | with_reducible assumption | refine State.mbxRun_inv ?_ _ _ (fun _ hi => ?_) (fun _ hi => ?_) | with_reducible apply State.liveSettings_inv
    | split | exact fun _ => ⟨rfl, rfl⟩ | simp

theorem execHlthModule_inv (h : MbxHdr) (bay : Nat) {s t : State} (hi : s.Inv) (he : execHlthModule h bay s = .next t) : t.Inv := by
  cases he
  repeat' first
    | with_reducible assumption | refine State.mbxRun_inv ?_ _ _ (fun _ hi => ?_) (fun _ hi => ?_) | with_reducible apply State.mbxOk_inv | split
    | exact fun _ => ⟨rfl, rfl⟩ | simp

theorem execHlthPage_inv (h : MbxHdr) {s t : State} (hi : s.Inv) (he : execHlthPage h s = .next t) : t.Inv := by
  cases he
  repeat' first
    | with_reducible assumption | refine State.mbxRun_inv ?_ _ _ (fun _ hi => ?_) (fun _ hi => ?_) | with_reducible apply State.mbxData_inv | split
    | exact fun _ => ⟨rfl, rfl⟩ | simp

theorem execEvtQcreate_inv (h : MbxHdr) (q : Nat) (log2n : Nat) (vector : Nat) (countTh : Nat) (timeTh : Nat) (base : BitVec 64) {s t : State} (hi : s.Inv) (he : execEvtQcreate h q log2n vector countTh timeTh base s = .next t) : t.Inv := by
  cases he
  repeat' first
    | with_reducible assumption | refine State.mbxRun_inv ?_ _ _ (fun _ hi => ?_) (fun _ hi => ?_) | with_reducible apply State.mbxFail_inv
    | with_reducible apply State.live_inv | split | exact fun _ => ⟨rfl, rfl⟩ | simp

theorem execEvtQdelete_inv (h : MbxHdr) (q : Nat) {s t : State} (hi : s.Inv) (he : execEvtQdelete h q s = .next t) : t.Inv := by
  cases he
  repeat' first
    | with_reducible assumption | refine State.mbxRun_inv ?_ _ _ (fun _ hi => ?_) (fun _ hi => ?_) | with_reducible apply State.live_inv
    | with_reducible apply State.mbxOk_inv | split | exact fun _ => ⟨rfl, rfl⟩ | simp

theorem execEvtQmod_inv (h : MbxHdr) (q : Nat) (countTh : Nat) (timeTh : Nat) {s t : State} (hi : s.Inv) (he : execEvtQmod h q countTh timeTh s = .next t) : t.Inv := by
  cases he
  repeat' first
    | with_reducible assumption | refine State.mbxRun_inv ?_ _ _ (fun _ hi => ?_) (fun _ hi => ?_) | with_reducible apply State.live_inv
    | with_reducible apply State.mbxFail_inv | split | exact fun _ => ⟨rfl, rfl⟩ | simp

theorem execEvtRoute_inv (h : MbxHdr) (first : Nat) (last : Nat) (q : Nat) (enable : Nat) {s t : State} (hi : s.Inv) (he : execEvtRoute h first last q enable s = .next t) : t.Inv := by
  cases he
  repeat' first
    | with_reducible assumption | refine State.mbxRun_inv ?_ _ _ (fun _ hi => ?_) (fun _ hi => ?_) | with_reducible apply State.live_inv | split
    | exact fun _ => ⟨rfl, rfl⟩ | simp

theorem execCwnHistory_inv (h : MbxHdr) {s t : State} (hi : s.Inv) (he : execCwnHistory h s = .next t) : t.Inv := by
  cases he
  repeat' first
    | with_reducible assumption | refine State.mbxRun_inv ?_ _ _ (fun _ hi => ?_) (fun _ hi => ?_) | with_reducible apply State.mbxOk_inv | split
    | exact fun _ => ⟨rfl, rfl⟩ | simp

theorem execCwnAck_inv (h : MbxHdr) (seq : Nat) {s t : State} (hi : s.Inv) (he : execCwnAck h seq s = .next t) : t.Inv := by
  cases he
  repeat' first
    | with_reducible assumption | refine State.mbxRun_inv ?_ _ _ (fun _ hi => ?_) (fun _ hi => ?_) | with_reducible apply State.mbxFail_inv
    | with_reducible apply State.onFlt_inv | with_reducible apply State.mbxOk_inv | split | exact fun _ => ⟨rfl, rfl⟩ | simp

theorem execPmcProgram_inv (h : MbxHdr) (bank : Nat) (first : Nat) (selectors : List (BitVec 32)) {s t : State} (hi : s.Inv) (he : execPmcProgram h bank first selectors s = .next t) : t.Inv := by
  cases he
  repeat' first
    | with_reducible assumption | refine State.mbxRun_inv ?_ _ _ (fun _ hi => ?_) (fun _ hi => ?_) | with_reducible apply State.live_inv | split
    | exact fun _ => ⟨rfl, rfl⟩ | simp

theorem execPmcUsermap_inv (h : MbxHdr) (bank : Nat) (allow : Nat) {s t : State} (hi : s.Inv) (he : execPmcUsermap h bank allow s = .next t) : t.Inv := by
  cases he
  repeat' first
    | with_reducible assumption | refine State.mbxRun_inv ?_ _ _ (fun _ hi => ?_) (fun _ hi => ?_) | with_reducible apply State.live_inv | split
    | exact fun _ => ⟨rfl, rfl⟩ | simp

theorem execPmcSample_inv (h : MbxHdr) (bank : Nat) (counter : Nat) (enable : Nat) {s t : State} (hi : s.Inv) (he : execPmcSample h bank counter enable s = .next t) : t.Inv := by
  cases he
  repeat' first
    | with_reducible assumption | refine State.mbxRun_inv ?_ _ _ (fun _ hi => ?_) (fun _ hi => ?_) | with_reducible apply State.live_inv | split
    | exact fun _ => ⟨rfl, rfl⟩ | simp

theorem execBayEnable_inv (h : MbxHdr) (bay : Nat) {s t : State} (hi : s.Inv) (he : execBayEnable h bay s = .next t) : t.Inv := by
  cases he
  repeat' first
    | with_reducible assumption | refine State.mbxRun_inv ?_ _ _ (fun _ hi => ?_) (fun _ hi => ?_) | with_reducible apply State.live_inv | split
    | exact fun _ => ⟨rfl, rfl⟩ | simp

theorem execBayDisable_inv (h : MbxHdr) (bay : Nat) {s t : State} (hi : s.Inv) (he : execBayDisable h bay s = .next t) : t.Inv := by
  cases he
  repeat' first
    | with_reducible assumption | refine State.mbxRun_inv ?_ _ _ (fun _ hi => ?_) (fun _ hi => ?_) | with_reducible apply State.live_inv | split
    | exact fun _ => ⟨rfl, rfl⟩ | simp

theorem execBayConfig_inv (h : MbxHdr) (bay : Nat) (gate : Nat) (ft3 : Nat) (insDelay : Nat) (ilim : Nat) (soa : Nat) (rampTo : Nat) {s t : State} (hi : s.Inv) (he : execBayConfig h bay gate ft3 insDelay ilim soa rampTo s = .next t) : t.Inv := by
  cases he
  dsimp only
  repeat' first
    | with_reducible assumption | refine State.mbxRun_inv ?_ _ _ (fun _ hi => ?_) (fun _ hi => ?_) | with_reducible apply State.live_inv | split
    | exact fun _ => ⟨rfl, rfl⟩ | simp

theorem execBayToggle_inv (h : MbxHdr) (bay : Nat) {s t : State} (hi : s.Inv) (he : execBayToggle h bay s = .next t) : t.Inv := by
  cases he
  repeat' first
    | with_reducible assumption | refine State.mbxRun_inv ?_ _ _ (fun _ hi => ?_) (fun _ hi => ?_) | with_reducible apply State.mbxFail_inv
    | with_reducible apply State.live_inv | split | exact fun _ => ⟨rfl, rfl⟩ | simp

theorem execPwrHoldtest_inv (h : MbxHdr) {s t : State} (hi : s.Inv) (he : execPwrHoldtest h s = .next t) : t.Inv := by
  cases he
  repeat' first
    | with_reducible assumption | with_reducible apply State.go_inv | with_reducible apply State.onBpd_inv | with_reducible apply State.mbxFail_inv
    | refine State.mbxRun_inv ?_ _ _ (fun _ hi => ?_) (fun _ hi => ?_) | split | exact fun _ => ⟨rfl, rfl⟩ | simp

theorem execPwrStatus_inv (h : MbxHdr) {s t : State} (hi : s.Inv) (he : execPwrStatus h s = .next t) : t.Inv := by
  cases he
  repeat' first
    | with_reducible assumption | refine State.mbxRun_inv ?_ _ _ (fun _ hi => ?_) (fun _ hi => ?_) | with_reducible apply State.mbxOk_inv | split
    | exact fun _ => ⟨rfl, rfl⟩ | simp

theorem execPairStatus_inv (h : MbxHdr) {s t : State} (hi : s.Inv) (he : execPairStatus h s = .next t) : t.Inv := by
  cases he
  repeat' first
    | with_reducible assumption | refine State.mbxRun_inv ?_ _ _ (fun _ hi => ?_) (fun _ hi => ?_) | with_reducible apply State.mbxOk_inv | split
    | exact fun _ => ⟨rfl, rfl⟩ | simp

theorem execPairSwap_inv (h : MbxHdr) {s t : State} (hi : s.Inv) (he : execPairSwap h s = .next t) : t.Inv := by
  cases he
  repeat' first
    | with_reducible assumption | refine State.mbxRun_inv ?_ _ _ (fun _ hi => ?_) (fun _ hi => ?_) | with_reducible apply State.mbxFail_inv
    | with_reducible apply State.beginSwap_inv | with_reducible apply State.mbxOk_inv | split | exact fun _ => ⟨rfl, rfl⟩ | simp

theorem execFwDownload_inv (h : MbxHdr) (slot : Nat) (image : FwImage) {s t : State} (hi : s.Inv) (he : execFwDownload h slot image s = .next t) : t.Inv := by
  cases he
  dsimp only
  repeat' first
    | with_reducible assumption | refine State.mbxRun_inv ?_ _ _ (fun _ hi => ?_) (fun _ hi => ?_) | with_reducible apply State.mbxFail_inv
    | with_reducible apply State.onBoot_inv | with_reducible apply State.mbxOk_inv | split | exact fun _ => ⟨rfl, rfl⟩ | simp

theorem execFwActivate_inv (h : MbxHdr) (slot : Nat) (restart : Nat) {s t : State} (hi : s.Inv) (he : execFwActivate h slot restart s = .next t) : t.Inv := by
  cases he
  repeat' first
    | with_reducible assumption | refine State.mbxRun_inv ?_ _ _ (fun _ hi => ?_) (fun _ hi => ?_) | with_reducible apply State.onBoot_inv
    | with_reducible apply State.sdtChange_inv | with_reducible apply State.mbxOk_inv | split | exact fun _ => ⟨rfl, rfl⟩ | simp

theorem execFwInfo_inv (h : MbxHdr) {s t : State} (hi : s.Inv) (he : execFwInfo h s = .next t) : t.Inv := by
  cases he
  repeat' first
    | with_reducible assumption | refine State.mbxRun_inv ?_ _ _ (fun _ hi => ?_) (fun _ hi => ?_) | with_reducible apply State.mbxOk_inv | split
    | exact fun _ => ⟨rfl, rfl⟩ | simp

theorem execDiagEcho_inv (h : MbxHdr) (bytes : List (BitVec 8)) {s t : State} (hi : s.Inv) (he : execDiagEcho h bytes s = .next t) : t.Inv := by
  cases he
  repeat' first
    | with_reducible assumption | refine State.mbxRun_inv ?_ _ _ (fun _ hi => ?_) (fun _ hi => ?_) | with_reducible apply State.mbxOk_inv | split
    | exact fun _ => ⟨rfl, rfl⟩ | simp

theorem execDiagSelftest_inv (h : MbxHdr) (mask : BitVec 32) (fails : List (Nat × Nat)) {s t : State} (hi : s.Inv) (he : execDiagSelftest h mask fails s = .next t) : t.Inv := by
  cases he
  repeat' first
    | with_reducible assumption | refine State.mbxRun_inv ?_ _ _ (fun _ hi => ?_) (fun _ hi => ?_) | with_reducible apply State.mbxOk_inv | split
    | exact fun _ => ⟨rfl, rfl⟩ | simp

theorem execAuxPowerOn_inv (board : Board) {s t : State} (hi : s.Inv) (he : execAuxPowerOn board s = .next t) : t.Inv := by
  cases he
  dsimp only
  split
  · exact hi
  · have h1 := State.dieReset_inv hi
    exact { h1 with
      counts := invAtReset.counts, seq := invAtReset.seq, chans := (List.length_map _).trans hi.chans
      ports := (List.length_map _).trans hi.ports }

theorem execMainDiePowerUp_inv {s t : State} (hi : s.Inv) (he : execMainDiePowerUp s = .next t) : t.Inv := by
  cases he
  repeat' first | with_reducible assumption | with_reducible apply State.onBoot_inv | split | exact fun _ => ⟨rfl, rfl⟩ | simp

theorem execChipReset_inv (cause : ResetCause) {s t : State} (hi : s.Inv) (he : execChipReset cause s = .next t) : t.Inv := by
  cases he
  dsimp only
  repeat' first | with_reducible assumption | with_reducible apply State.dieReset_inv | split

theorem execStartUpStepEnd_inv (env : StepEnv) {s t : State} (hi : s.Inv) (he : execStartUpStepEnd env s = .next t) : t.Inv := by
  cases he
  dsimp only
  repeat' first
    | with_reducible assumption | with_reducible apply State.onBoot_inv | with_reducible apply State.bootRom_inv
    | with_reducible apply State.onCip_inv | with_reducible apply State.selfTests_inv | with_reducible apply State.enableBays_inv
    | with_reducible apply State.shelfRead_inv | with_reducible apply State.onFn_inv | with_reducible apply State.loaded_inv
    | with_reducible apply State.startEnd_inv | split | exact fun _ => ⟨rfl, rfl⟩ | simp

/-- Every command keeps the sizes of the register files and the canonical memories. -/
theorem exec_inv {i : Instr} {s t : State} (hi : s.Inv) (h : exec i s = .next t) : t.Inv := by
  cases i with
  | auxPowerOn board => exact execAuxPowerOn_inv board hi h
  | mainDiePowerUp => exact execMainDiePowerUp_inv hi h
  | chipReset cause => exact execChipReset_inv cause hi h
  | startUpStepEnd env => exact execStartUpStepEnd_inv env hi h
  | frameBoundary => exact execFrameBoundary_inv hi h
  | sequencerSlot slot => exact execSequencerSlot_inv slot hi h
  | intakeSlot slot => exact execIntakeSlot_inv slot hi h
  | admission ord => exact execAdmission_inv ord hi h
  | overlapWaitEnd ord => exact execOverlapWaitEnd_inv ord hi h
  | switchMatch cell => exact execSwitchMatch_inv cell hi h
  | frontFrameRx port sub f => exact execFrontFrameRx_inv port sub f hi h
  | classify port pseq => exact execClassify_inv port pseq hi h
  | reorderRelease port => exact execReorderRelease_inv port hi h
  | fragmentEntryExpiry key => exact execFragmentEntryExpiry_inv key hi h
  | fragmentParkTimeout port pseq => exact execFragmentParkTimeout_inv port pseq hi h
  | controlPortFrame port kind => exact execControlPortFrame_inv port kind hi h
  | ruleUpdatePortStep lport => exact execRuleUpdatePortStep_inv lport hi h
  | pfcFrameRx port sub prios quanta => exact execPfcFrameRx_inv port sub prios quanta hi h
  | pfcPauseExpiry port sub prio => exact execPfcPauseExpiry_inv port sub prio hi h
  | pfcXoffRepeat port sub prio => exact execPfcXoffRepeat_inv port sub prio hi h
  | frontLinkChange port up => exact execFrontLinkChange_inv port up hi h
  | cmRequest req => exact execCmRequest_inv req hi h
  | cmReadyToUse q => exact execCmReadyToUse_inv q hi h
  | cmRejectRx q => exact execCmRejectRx_inv q hi h
  | cmDisconnect q => exact execCmDisconnect_inv q hi h
  | connectingTimeout q => exact execConnectingTimeout_inv q hi h
  | timewaitExpiry q => exact execTimewaitExpiry_inv q hi h
  | qpFlushComplete q => exact execQpFlushComplete_inv q hi h
  | rdmaSendRx x c => exact execRdmaSendRx_inv x c hi h
  | rdmaAckRx x msn code => exact execRdmaAckRx_inv x msn code hi h
  | rdmaNakRx x kind => exact execRdmaNakRx_inv x kind hi h
  | rdmaReadResponseRx x bytes payload => exact execRdmaReadResponseRx_inv x bytes payload hi h
  | rdmaOpcodeRefused x opcode => exact execRdmaOpcodeRefused_inv x opcode hi h
  | cnpRx x => exact execCnpRx_inv x hi h
  | capsuleToIntake q delay => exact execCapsuleToIntake_inv q delay hi h
  | rdmaReadIssue q => exact execRdmaReadIssue_inv q hi h
  | readDataToHost ord => exact execReadDataToHost_inv ord hi h
  | rdmaRequestGapTimer q => exact execRdmaRequestGapTimer_inv q hi h
  | rdmaResponseGapTimer q => exact execRdmaResponseGapTimer_inv q hi h
  | rdmaAckTimeout q => exact execRdmaAckTimeout_inv q hi h
  | rdmaAckCoalesceTimer q => exact execRdmaAckCoalesceTimer_inv q hi h
  | rdmaRnrRetryTimer q => exact execRdmaRnrRetryTimer_inv q hi h
  | rateIncreaseTimer q => exact execRateIncreaseTimer_inv q hi h
  | txCirWindow tenant sent held => exact execTxCirWindow_inv tenant sent held hi h
  | read ord => exact execRead_inv ord hi h
  | write ord => exact execWrite_inv ord hi h
  | flush ord => exact execFlush_inv ord hi h
  | writeZeroes ord => exact execWriteZeroes_inv ord hi h
  | compare ord => exact execCompare_inv ord hi h
  | datasetManagement ord => exact execDatasetManagement_inv ord hi h
  | identify q => exact execIdentify_inv q hi h
  | getLogPage ref => exact execGetLogPage_inv ref hi h
  | setFeatures q => exact execSetFeatures_inv q hi h
  | getFeatures q => exact execGetFeatures_inv q hi h
  | asynchronousEventRequest q => exact execAsynchronousEventRequest_inv q hi h
  | keepAlive q => exact execKeepAlive_inv q hi h
  | abort q => exact execAbort_inv q hi h
  | connect q => exact execConnect_inv q hi h
  | propertyGet q => exact execPropertyGet_inv q hi h
  | propertySet q => exact execPropertySet_inv q hi h
  | ccEnClearComplete ctl => exact execCcEnClearComplete_inv ctl hi h
  | disconnect q => exact execDisconnect_inv q hi h
  | ledgerBind ord => exact execLedgerBind_inv ord hi h
  | nvmeUnsupportedOpcode q => exact execNvmeUnsupportedOpcode_inv q hi h
  | keepAliveTimeout ctl => exact execKeepAliveTimeout_inv ctl hi h
  | queueReservation handle tenant entries => exact execQueueReservation_inv handle tenant entries hi h
  | forwardCommand f => exact execForwardCommand_inv f hi h
  | forwardCompletionRx handle cqe => exact execForwardCompletionRx_inv handle cqe hi h
  | forwardRecall handle => exact execForwardRecall_inv handle hi h
  | writePlace ord unit => exact execWritePlace_inv ord unit hi h
  | mirrorConfirm ord => exact execMirrorConfirm_inv ord hi h
  | mirrorTimeout ord => exact execMirrorTimeout_inv ord hi h
  | mirrorDataRx stream payload => exact execMirrorDataRx_inv stream payload hi h
  | logShipRecordRx r => exact execLogShipRecordRx_inv r hi h
  | stripeDeadline stream => exact execStripeDeadline_inv stream hi h
  | journalPageTimer => exact execJournalPageTimer_inv hi h
  | sheetResponse bay tag code res => exact execSheetResponse_inv bay tag code res hi h
  | mapUpdateApply stripe wseq => exact execMapUpdateApply_inv stripe wseq hi h
  | mapFetchComplete mpn => exact execMapFetchComplete_inv mpn hi h
  | ldpcDecodeDone job d => exact execLdpcDecodeDone_inv job d hi h
  | probeIssue => exact execProbeIssue_inv hi h
  | tcFillComplete la => exact execTcFillComplete_inv la hi h
  | tcWritebackTimer => exact execTcWritebackTimer_inv hi h
  | tcLockWaysWrite value => exact execTcLockWaysWrite_inv value hi h
  | tcLockChangeDone => exact execTcLockChangeDone_inv hi h
  | tcWayPwrWrite value => exact execTcWayPwrWrite_inv value hi h
  | tcGroupPowerDownDone g => exact execTcGroupPowerDownDone_inv g hi h
  | tcGroupPowerUpDone g => exact execTcGroupPowerUpDone_inv g hi h
  | tcInvalidate op => exact execTcInvalidate_inv op hi h
  | tcClean op => exact execTcClean_inv op hi h
  | tcCleanInvalidate op => exact execTcCleanInvalidate_inv op hi h
  | tcPreload op => exact execTcPreload_inv op hi h
  | tcPreloadLock op => exact execTcPreloadLock_inv op hi h
  | tcRangeDone => exact execTcRangeDone_inv hi h
  | reclaimVictimSelect => exact execReclaimVictimSelect_inv hi h
  | relocation loc => exact execRelocation_inv loc hi h
  | reclaimErase unit => exact execReclaimErase_inv unit hi h
  | checkpointStart => exact execCheckpointStart_inv hi h
  | strikeTrigger => exact execStrikeTrigger_inv hi h
  | repairBatchAdvance => exact execRepairBatchAdvance_inv hi h
  | rebuildStep => exact execRebuildStep_inv hi h
  | rebuildRetryTimer => exact execRebuildRetryTimer_inv hi h
  | journalCopyPlaced bay => exact execJournalCopyPlaced_inv bay hi h
  | sweepStep => exact execSweepStep_inv hi h
  | patrolIssue => exact execPatrolIssue_inv hi h
  | rewriteIssue => exact execRewriteIssue_inv hi h
  | ageClockTick bay reading => exact execAgeClockTick_inv bay reading hi h
  | blockRecordScan => exact execBlockRecordScan_inv hi h
  | wearCheck => exact execWearCheck_inv hi h
  | junctionSample => exact execJunctionSample_inv hi h
  | trainingAttempt bay => exact execTrainingAttempt_inv bay hi h
  | lanesAligned bay lane0 lane1 => exact execLanesAligned_inv bay lane0 lane1 hi h
  | trainingTimeout bay => exact execTrainingTimeout_inv bay hi h
  | sheetInitSendTimer bay => exact execSheetInitSendTimer_inv bay hi h
  | sheetInitRx bay idx => exact execSheetInitRx_inv bay idx hi h
  | sheetFrameRx bay x => exact execSheetFrameRx_inv bay x hi h
  | sheetDataRx bay tag index payload => exact execSheetDataRx_inv bay tag index payload hi h
  | sheetAckRx bay ack => exact execSheetAckRx_inv bay ack hi h
  | sheetNakRx bay ack => exact execSheetNakRx_inv bay ack hi h
  | sheetCreditRx bay cmd data => exact execSheetCreditRx_inv bay cmd data hi h
  | sheetAckTimer bay => exact execSheetAckTimer_inv bay hi h
  | sheetReplayTimer bay => exact execSheetReplayTimer_inv bay hi h
  | sheetRead bay c nand => exact execSheetRead_inv bay c nand hi h
  | sheetProgram bay c frames nand => exact execSheetProgram_inv bay c frames nand hi h
  | sheetErase bay c nand => exact execSheetErase_inv bay c nand hi h
  | sheetStatus bay c => exact execSheetStatus_inv bay c hi h
  | getParam bay c => exact execGetParam_inv bay c hi h
  | setParam bay c => exact execSetParam_inv bay c hi h
  | descRead bay c => exact execDescRead_inv bay c hi h
  | temp bay c => exact execTemp_inv bay c hi h
  | dieReset bay c => exact execDieReset_inv bay c hi h
  | powerState bay c => exact execPowerState_inv bay c hi h
  | fence bay c => exact execFence_inv bay c hi h
  | sheetOpTimeout bay tag => exact execSheetOpTimeout_inv bay tag hi h
  | fenceTimeout bay => exact execFenceTimeout_inv bay hi h
  | tagRequeryTimer bay tag => exact execTagRequeryTimer_inv bay tag hi h
  | sheetStatusPoll => exact execSheetStatusPoll_inv hi h
  | laneErrPoll => exact execLaneErrPoll_inv hi h
  | unreachableTimeout bay => exact execUnreachableTimeout_inv bay hi h
  | presenceChange bay present => exact execPresenceChange_inv bay present hi h
  | feedWindowChange f inWindow decivolts => exact execFeedWindowChange_inv f inWindow decivolts hi h
  | feedLost f => exact execFeedLost_inv f hi h
  | feedGood f => exact execFeedGood_inv f hi h
  | pathConfirmedOff => exact execPathConfirmedOff_inv hi h
  | pathConfirmTimeout => exact execPathConfirmTimeout_inv hi h
  | feedReturnTimer => exact execFeedReturnTimer_inv hi h
  | downRestartTimer => exact execDownRestartTimer_inv hi h
  | holdupPeerTimer => exact execHoldupPeerTimer_inv hi h
  | busBelowHoldMin => exact execBusBelowHoldMin_inv hi h
  | holdupTestStart why => exact execHoldupTestStart_inv why hi h
  | holdupTestEnd milliamps v0Mv droopMv micros => exact execHoldupTestEnd_inv milliamps v0Mv droopMv micros hi h
  | insertionDelayExpiry bay => exact execInsertionDelayExpiry_inv bay hi h
  | channelPowerGood bay => exact execChannelPowerGood_inv bay hi h
  | fastTrip bay => exact execFastTrip_inv bay hi h
  | soaTimeout bay => exact execSoaTimeout_inv bay hi h
  | rampTimeout bay => exact execRampTimeout_inv bay hi h
  | pgLost bay => exact execPgLost_inv bay hi h
  | cooldownExpiry bay => exact execCooldownExpiry_inv bay hi h
  | fetFaultTimer bay => exact execFetFaultTimer_inv bay hi h
  | railPowerGood k => exact execRailPowerGood_inv k hi h
  | railPgTimeout => exact execRailPgTimeout_inv hi h
  | railRetryTimer => exact execRailRetryTimer_inv hi h
  | railPgLost k => exact execRailPgLost_inv k hi h
  | refclkSysLoss => exact execRefclkSysLoss_inv hi h
  | junctionSensorRead values => exact execJunctionSensorRead_inv values hi h
  | thermalLevelChange => exact execThermalLevelChange_inv hi h
  | renewTimer => exact execRenewTimer_inv hi h
  | renewRx sh m => exact execRenewRx_inv sh m hi h
  | grantRx sh m => exact execGrantRx_inv sh m hi h
  | releaseRx sh m => exact execReleaseRx_inv sh m hi h
  | helloRx sh m => exact execHelloRx_inv sh m hi h
  | leaseHolderStop => exact execLeaseHolderStop_inv hi h
  | leaseTakeTimer => exact execLeaseTakeTimer_inv hi h
  | coldTakeTimer => exact execColdTakeTimer_inv hi h
  | takeoverStep => exact execTakeoverStep_inv hi h
  | lapsedProbe => exact execLapsedProbe_inv hi h
  | shroudLossTimer sh => exact execShroudLossTimer_inv sh hi h
  | peerLinkGroupLoss g => exact execPeerLinkGroupLoss_inv g hi h
  | resyncComplete => exact execResyncComplete_inv hi h
  | shelfKeyTransfer certOk key => exact execShelfKeyTransfer_inv certOk key hi h
  | periodicSwapTimer => exact execPeriodicSwapTimer_inv hi h
  | reachSwapTimer => exact execReachSwapTimer_inv hi h
  | drainComplete => exact execDrainComplete_inv hi h
  | swapRelease => exact execSwapRelease_inv hi h
  | drbgReseed idx healthy => exact execDrbgReseed_inv idx healthy hi h
  | drbgStallTimer => exact execDrbgStallTimer_inv hi h
  | retentionExpiry ns => exact execRetentionExpiry_inv ns hi h
  | sealDigestDone m digest bad => exact execSealDigestDone_inv m digest bad hi h
  | faultRaise word => exact execFaultRaise_inv word hi h
  | faultConcentratorTake unit => exact execFaultConcentratorTake_inv unit hi h
  | fStopResetTimer => exact execFStopResetTimer_inv hi h
  | faultHandlingEnd unit completed => exact execFaultHandlingEnd_inv unit completed hi h
  | bpdWordsDelivered => exact execBpdWordsDelivered_inv hi h
  | cwnAckWrite seq => exact execCwnAckWrite_inv seq hi h
  | evqHeadWrite q value => exact execEvqHeadWrite_inv q value hi h
  | evqTimeThreshold q => exact execEvqTimeThreshold_inv q hi h
  | msixVectorUnmask v => exact execMsixVectorUnmask_inv v hi h
  | counterHappening x => exact execCounterHappening_inv x hi h
  | pmcSmpHeadWrite bank value => exact execPmcSmpHeadWrite_inv bank value hi h
  | registerWrite client offset wide value => exact execRegisterWrite_inv client offset wide value hi h
  | pcieCompletionRx tag poisoned => exact execPcieCompletionRx_inv tag poisoned hi h
  | pcieCompletionTimeout tag => exact execPcieCompletionTimeout_inv tag hi h
  | tagQuarantineExpiry tag => exact execTagQuarantineExpiry_inv tag hi h
  | busMasterEnableClear => exact execBusMasterEnableClear_inv hi h
  | busMasterEnableSet => exact execBusMasterEnableSet_inv hi h
  | functionLevelReset => exact execFunctionLevelReset_inv hi h
  | sessionOpen m => exact execSessionOpen_inv m hi h
  | sessionClose idx seq tagOk => exact execSessionClose_inv idx seq tagOk hi h
  | sessionTimeout idx => exact execSessionTimeout_inv idx hi h
  | peerMailboxEffect m e => exact execPeerMailboxEffect_inv m e hi h
  | mailboxCompletion m => exact execMailboxCompletion_inv m hi h
  | mailboxInvalidOpcode x opcode => exact execMailboxInvalidOpcode_inv x opcode hi h
  | fnStart x => exact execFnStart_inv x hi h
  | fnStop x => exact execFnStop_inv x hi h
  | fnArm x format => exact execFnArm_inv x format hi h
  | fnStatus x => exact execFnStatus_inv x hi h
  | fnChipreset x => exact execFnChipreset_inv x hi h
  | fnCplto x timeout => exact execFnCplto_inv x timeout hi h
  | rigLoad x image => exact execRigLoad_inv x image hi h
  | rigVerify x image => exact execRigVerify_inv x image hi h
  | rigInfo x => exact execRigInfo_inv x hi h
  | rigEnroll x keyId pubkey => exact execRigEnroll_inv x keyId pubkey hi h
  | rigRules x cls => exact execRigRules_inv x cls hi h
  | modList x => exact execModList_inv x hi h
  | modDesc x bay page => exact execModDesc_inv x bay page hi h
  | modStatus x bay => exact execModStatus_inv x bay hi h
  | modRetire x bay => exact execModRetire_inv x bay hi h
  | modClear x bay => exact execModClear_inv x bay hi h
  | nsList x => exact execNsList_inv x hi h
  | nsRead x ns lba count => exact execNsRead_inv x ns lba count hi h
  | nsWrite x ns lba count data poisoned => exact execNsWrite_inv x ns lba count data poisoned hi h
  | nsDealloc x ns lba count => exact execNsDealloc_inv x ns lba count hi h
  | nsCache x op unlock ns lba len => exact execNsCache_inv x op unlock ns lba len hi h
  | keyGenerate x tenant slot mode => exact execKeyGenerate_inv x tenant slot mode hi h
  | keyImport x tenant slot mode unwrapped => exact execKeyImport_inv x tenant slot mode unwrapped hi h
  | keyDestroy x tenant slot => exact execKeyDestroy_inv x tenant slot hi h
  | keyStatus x tenant slot => exact execKeyStatus_inv x tenant slot hi h
  | keyEscrow x cpub => exact execKeyEscrow_inv x cpub hi h
  | keyRestore x unwrapped => exact execKeyRestore_inv x unwrapped hi h
  | keyMgmtenroll x index pubkey => exact execKeyMgmtenroll_inv x index pubkey hi h
  | hlthModule x bay => exact execHlthModule_inv x bay hi h
  | hlthPage x => exact execHlthPage_inv x hi h
  | hlthCaps x hostCap bgCap => exact execHlthCaps_inv x hostCap bgCap hi h
  | hlthThresh x rewrite thresholds => exact execHlthThresh_inv x rewrite thresholds hi h
  | hlthPatrol x days => exact execHlthPatrol_inv x days hi h
  | evtQcreate x q log2n vector countTh timeTh base => exact execEvtQcreate_inv x q log2n vector countTh timeTh base hi h
  | evtQdelete x q => exact execEvtQdelete_inv x q hi h
  | evtQmod x q countTh timeTh => exact execEvtQmod_inv x q countTh timeTh hi h
  | evtRoute x first last q enable => exact execEvtRoute_inv x first last q enable hi h
  | cwnHistory x => exact execCwnHistory_inv x hi h
  | cwnAck x seq => exact execCwnAck_inv x seq hi h
  | pmcProgram x bank first selectors => exact execPmcProgram_inv x bank first selectors hi h
  | pmcUsermap x bank allow => exact execPmcUsermap_inv x bank allow hi h
  | pmcSample x bank counter enable => exact execPmcSample_inv x bank counter enable hi h
  | bayEnable x bay => exact execBayEnable_inv x bay hi h
  | bayDisable x bay => exact execBayDisable_inv x bay hi h
  | bayConfig x bay gate ft3 insDelay ilim soa rampTo => exact execBayConfig_inv x bay gate ft3 insDelay ilim soa rampTo hi h
  | bayToggle x bay => exact execBayToggle_inv x bay hi h
  | pwrHoldtest x => exact execPwrHoldtest_inv x hi h
  | pwrStatus x => exact execPwrStatus_inv x hi h
  | pairStatus x => exact execPairStatus_inv x hi h
  | pairSwap x => exact execPairSwap_inv x hi h
  | pairInterval x hours => exact execPairInterval_inv x hours hi h
  | fwDownload x slot image => exact execFwDownload_inv x slot image hi h
  | fwActivate x slot restart => exact execFwActivate_inv x slot restart hi h
  | fwInfo x => exact execFwInfo_inv x hi h
  | sealRange x ns lba count => exact execSealRange_inv x ns lba count hi h
  | sealCert x => exact execSealCert_inv x hi h
  | retAdvance x delta advSeq => exact execRetAdvance_inv x delta advSeq hi h
  | retClock x => exact execRetClock_inv x hi h
  | diagEcho x bytes => exact execDiagEcho_inv x bytes hi h
  | diagSelftest x mask fails => exact execDiagSelftest_inv x mask fails hi h
  | sheetLaneLockLoss bay lane => exact execSheetLaneLockLoss_inv bay lane hi h
  | busStartWindowChange inWindow above11 => exact execBusStartWindowChange_inv inWindow above11 hi h
  | holdupTestAgeExpiry => exact execHoldupTestAgeExpiry_inv hi h
  | presenceAbsent100ms bay => exact execPresenceAbsent100ms_inv bay hi h
  | auxiliaryPowerRemoved => exact execAuxiliaryPowerRemoved_inv hi h
  | refclkSysRestored => exact execRefclkSysRestored_inv hi h
  | peerLinkRestored g => exact execPeerLinkRestored_inv g hi h
  | drbgReseedOverdue idx => exact execDrbgReseedOverdue_inv idx hi h
  | commandDatagramRx idx seq tagOk => exact execCommandDatagramRx_inv idx seq tagOk hi h
  | d3hotTransition enter => exact execD3hotTransition_inv enter hi h

/-- Settles O4: a step runs the front of the queue, and each command keeps the invariant. -/
theorem invKept : Obligations.InvKept := by
  intro s t hi h
  unfold step at h
  split at h
  · cases h; exact hi
  · exact exec_inv (State.withPending_inv hi _) h

end Sys2Proof.Machine
end

section
/-! SUPPORT. What an operation leaves alone, read off the equation of blanked states: a group that is not blanked is the same. And what the
elements of the register files read after a change. -/

namespace Sys2Proof.Machine

/-- Every group of the state but those listed. -/
def but (l : List Part) (p : Part) : Bool := !l.contains p

@[simp] theorem but_eq_true {l : List Part} {p : Part} : but l p = true ↔ p ∉ l := by simp [but]

/-- The listed groups of the state. -/
def these (l : List Part) (p : Part) : Bool := l.contains p

@[simp] theorem these_eq_true {l : List Part} {p : Part} : these l p = true ↔ p ∈ l := by simp [these]

theorem State.bpd_of_mask {s t : State} (h : t.mask (but [.bpd, .held]) = s.mask (but [.bpd, .held])) : t.bpd = s.bpd := by
  have h1 := State.mask_bpd h rfl
  obtain ⟨h2, h3⟩ := State.mask_held h rfl
  rw [← h2, ← h3] at h1
  exact h1

theorem State.mgmt_of_mask {s t : State} (h : t.mask (but [.mgmt, .evqs, .mbx]) = s.mask (but [.mgmt, .evqs, .mbx])) : t.mgmt = s.mgmt := by
  have h1 := State.mask_mgmt h rfl
  obtain ⟨h2, h3, h4⟩ := State.mask_evqs h rfl
  rw [← h2, ← h3, ← h4, ← State.mask_mbx h rfl] at h1
  exact h1

theorem State.sheet_of_mask {s t : State} (h : t.mask (but [.sheet, .mods, .media]) = s.mask (but [.sheet, .mods, .media])) : t.sheet = s.sheet := by
  obtain ⟨h1, h2, h3⟩ := State.mask_sheet h rfl
  have h4 := State.mask_mods h rfl
  have h5 := State.mask_media h rfl
  generalize s.sheet = u at *
  generalize t.sheet = v at *
  cases u; cases v
  simp_all only

theorem State.chans_of_mask {s t : State} (h : t.mask (but [.bpd]) = s.mask (but [.bpd])) : t.bpd.chans = s.bpd.chans := by
  have h1 := congrArg BpdSt.chans (State.mask_bpd h rfl)
  exact h1

theorem State.ports_of_mask {s t : State} (h : t.mask (but [.sheet]) = s.mask (but [.sheet])) : t.sheet.ports = s.sheet.ports :=
  (State.mask_sheet h rfl).1

/-- Reading after changing an element that is there. -/
theorem nth_modNth_of_lt {α : Type} {l : List α} {i : Nat} (j : Nat) (g : α → α) (d : α) (h : i < l.length) :
    nth (modNth l i g) j d = if i = j then g (nth l j d) else nth l j d :=
  nth_modNth l i j g d fun _ => .inl h

theorem nth_putNth {α : Type} {l : List α} {i : Nat} (j : Nat) (v d : α) (h : i < l.length) :
    nth (putNth l i v) j d = if i = j then v else nth l j d :=
  nth_modNth_of_lt j _ d h

theorem nth_map {α β : Type} (l : List α) (f : α → β) (i : Nat) (d : α) : nth (l.map f) i (f d) = f (nth l i d) := by
  simp [nth, List.getD_eq_getElem?_getD, List.getElem?_map]

theorem State.chan_onChan {s : State} {b : Nat} (hb : b < s.bpd.chans.length) (g : Chan → Chan) (c : Nat) :
    (s.onChan b g).chan c = if b = c then g (s.chan c) else s.chan c :=
  nth_modNth_of_lt c g _ hb

theorem State.port_onPort {s : State} {b : Nat} (hb : b < s.sheet.ports.length) (g : Port → Port) (c : Nat) :
    (s.onPort b g).port c = if b = c then g (s.port c) else s.port c :=
  nth_modNth_of_lt c g _ hb

theorem State.mbx_onMbx {s : State} {m : Nat} (hm : m < s.mgmt.mbx.length) (g : Mbx → Mbx) (c : Nat) :
    (s.onMbx m g).mbx c = if m = c then g (s.mbx c) else s.mbx c :=
  nth_modNth_of_lt c g _ hm

theorem State.evq_onEvq {s : State} {q : Nat} (hq : q < s.mgmt.evqs.length) (g : Evq → Evq) (c : Nat) :
    (s.onEvq q g).evq c = if q = c then g (s.evq c) else s.evq c :=
  nth_modNth_of_lt c g _ hq

end Sys2Proof.Machine
end

section
/-! PROOF. Chapter 16 and 22: the bay channels (O12, O13, O14). What a channel's change of state does to the channels. -/

namespace Sys2Proof.Machine

/-- An operation that leaves the Bay Power Die's own registers alone leaves every channel alone. -/
theorem State.chan_of_mask {s t : State} (h : t.mask (but [.bpd]) = s.mask (but [.bpd])) (b : Nat) : t.chan b = s.chan b := by
  rw [State.chan, State.chan, State.chans_of_mask h]

@[simp] theorem State.event_chan (s : State) (src kind d0 d1 b : Nat) : (s.event src kind d0 d1).chan b = s.chan b :=
  State.chan_of_mask (by simp) b

@[simp] theorem State.raise_chan (s : State) (unit cls cause addr b : Nat) : (s.raise unit cls cause addr).chan b = s.chan b :=
  State.chan_of_mask (by simp) b

@[simp] theorem State.setMod_chan (s : State) (n : Nat) (m : ModState) (b : Nat) : (s.setMod n m).chan b = s.chan b :=
  State.chan_of_mask (by simp) b

@[simp] theorem State.onPort_chan (s : State) (n : Nat) (g : Port → Port) (b : Nat) : (s.onPort n g).chan b = s.chan b := rfl

@[simp] theorem State.event_chans (s : State) (src kind d0 d1 : Nat) : (s.event src kind d0 d1).bpd.chans = s.bpd.chans :=
  State.chans_of_mask (by simp)

@[simp] theorem State.onChan_chans_length (s : State) (b : Nat) (g : Chan → Chan) : (s.onChan b g).bpd.chans.length = s.bpd.chans.length := by
  simp [State.onChan, State.onBpd]

/-- What a channel holds after it entered a state. -/
def Chan.entered (c : Chan) (st : ChanState) (now : Nat) : Chan :=
  { c with
    st := st, since := now, pg := decide (st = .on), ilimAct := c.ilimAct && (st == .ramp || st == .on)
    run := if st = .waitInsert then c.cfg else c.run }

theorem State.setChan_chans (s : State) (b : Nat) (st : ChanState) (h : (s.chan b).st ≠ st) :
    (s.setChan b st).bpd.chans = (s.onChan b fun c => c.entered st s.now).bpd.chans := by
  rw [State.setChan, if_neg h]
  refine State.chans_of_mask ?_
  simp [Chan.entered]

/-- Entering a state changes that channel alone. -/
theorem State.setChan_chan {s : State} {b : Nat} (hb : b < s.bpd.chans.length) {st : ChanState} (h : (s.chan b).st ≠ st) (c : Nat) :
    (s.setChan b st).chan c = if b = c then (s.chan c).entered st s.now else s.chan c := by
  have h1 := State.chan_onChan hb (fun c => c.entered st s.now) c
  rwa [State.chan, ← State.setChan_chans s b st h] at h1

/-- What a channel holds after a trip. -/
def Chan.tripped (c : Chan) (kind now : Nat) : Chan :=
  { c with lastFault := kind, trips := satAdd 255 c.trips 1, togglePend := false }.entered .cooldown now

/-- A trip changes the tripped channel alone. -/
theorem State.trip_chan {s : State} {b : Nat} (hb : b < s.bpd.chans.length) (h : (s.chan b).st ≠ .cooldown) (kind c : Nat) :
    (s.trip b kind).chan c = if b = c then (s.chan c).tripped kind s.now else s.chan c := by
  have hst : ((s.onChan b fun c => { c with lastFault := kind, trips := satAdd 255 c.trips 1, togglePend := false }).chan b).st ≠ .cooldown := by
    rwa [State.chan_onChan hb, if_pos rfl]
  rw [State.trip, State.raise_chan, State.event_chan, State.setChan_chan (by simpa using hb) hst, State.chan_onChan hb]
  split
  · rfl
  · rfl

/-- The kind of the trip of each command on a channel that is ramping. -/
theorem exec_trip_of_ramp {bay : Fin 48} {s : State} (h : (s.chan bay).st = .ramp) :
    exec (.rampTimeout bay) s = .next (s.trip bay 1) ∧ exec (.fastTrip bay) s = .next (s.trip bay 2)
      ∧ exec (.soaTimeout bay) s = .next (s.trip bay 3) := by
  simp [exec, execRampTimeout, execFastTrip, execSoaTimeout, h]

/-- The kind of the trip of each command on a channel that is ON. -/
theorem exec_trip_of_on {bay : Fin 48} {s : State} (h : (s.chan bay).st = .on) :
    exec (.soaTimeout bay) s = .next (s.trip bay 4) ∧ exec (.fastTrip bay) s = .next (s.trip bay 5)
      ∧ exec (.pgLost bay) s = .next (s.trip bay 6) := by
  simp [exec, execFastTrip, execSoaTimeout, execPgLost, h]

/-- Settles O12: both commands are one change of state of the channel. -/
theorem bayChannelStarts : Obligations.BayChannelStarts := by
  intro bay s hlen
  have hb : bay.val < s.bpd.chans.length := by rw [hlen]; exact bay.isLt
  refine ⟨fun hst hen hpr hbus hsel => ⟨s.setChan bay .ramp, ?_, ?_⟩, fun hst => ⟨s.setChan bay .on, ?_, ?_⟩⟩
  · have hfeed : s.feedOn = true := by simpa [State.feedOn] using hsel
    simp [exec, execInsertionDelayExpiry, hst, hen, hpr, hbus, hfeed]
  · simp only [State.setChan_chan hb (show (s.chan bay).st ≠ .ramp by simp [hst])]
    simp +contextual [Chan.entered, eq_comm]
  · simp [exec, execChannelPowerGood, hst]
  · simp only [State.setChan_chan hb (show (s.chan bay).st ≠ .on by simp [hst])]
    simp +contextual [Chan.entered, eq_comm]

/-- Settles O13: each command is one trip, and a trip changes its channel alone. -/
theorem bayChannelTrips : Obligations.BayChannelTrips := by
  intro bay s hlen
  have hb : bay.val < s.bpd.chans.length := by rw [hlen]; exact bay.isLt
  have key (hst : (s.chan bay).st ≠ .cooldown) (kind c : Nat) := State.trip_chan hb hst kind c
  constructor
  · intro hst
    obtain ⟨h1, h2, h3⟩ := exec_trip_of_ramp hst
    refine ⟨⟨_, h1, ?_⟩, ⟨_, h2, ?_⟩, ⟨_, h3, ?_⟩⟩ <;> simp +contextual [key (by simp [hst]), Chan.tripped, Chan.entered, eq_comm]
  · intro hst
    obtain ⟨h1, h2, h3⟩ := exec_trip_of_on hst
    refine ⟨⟨_, h1, ?_⟩, ⟨_, h2, ?_⟩, ⟨_, h3, ?_⟩⟩ <;> simp +contextual [key (by simp [hst]), Chan.tripped, Chan.entered, eq_comm]

theorem State.setChan_chans_length (s : State) (b : Nat) (st : ChanState) : (s.setChan b st).bpd.chans.length = s.bpd.chans.length := by
  by_cases h : (s.chan b).st = st
  · rw [State.setChan, if_pos h]
  · rw [State.setChan_chans s b st h, State.onChan_chans_length]

/-- A channel that is not ON and does not become ON has no effect at its port. -/
theorem State.setChan_ports {s : State} {b : Nat} {st : ChanState} (hold : (s.chan b).st ≠ .on) (hnew : st ≠ .on) :
    (s.setChan b st).sheet.ports = s.sheet.ports := by
  by_cases h : (s.chan b).st = st
  · rw [State.setChan, if_pos h]
  · refine State.ports_of_mask ?_
    simp [State.setChan, h, hold, hnew]

theorem State.event_port (s : State) (src kind d0 d1 b : Nat) : (s.event src kind d0 d1).port b = s.port b := by
  rw [State.port, State.port, State.ports_of_mask (s := s) (by simp)]

/-- What a change of the module's state leaves in a port's record. -/
theorem State.setMod_port {s : State} {b : Nat} (hb : b < s.sheet.ports.length) (m : ModState) (c : Nat) :
    (s.setMod b m).port c = if b = c then { s.port c with modSt := m } else s.port c := by
  unfold State.setMod
  split
  · next h => split
              · next hc => subst hc; rw [← h]
              · rfl
  · rw [State.eventState, State.event_port, State.port_onPort hb]

/-- What 100 ms of absence does at the port of the bay (R391, R394, Table 9.11). -/
def Port.reseated (p : Port) : Port :=
  { p with
    st := if p.st = .retired then .off else p.st
    lane0 := { p.lane0 with retired := false }, lane1 := { p.lane1 with retired := false }
    failTimes := [], latchedLost := false, returned := true, erasedBack := [], needErase := [] }

/-- What 100 ms of absence does to the bay's channel. -/
def State.absentChan (s : State) (b : Nat) : State :=
  match (s.chan b).st with
  | .cooldown => s.onChan b fun c => { c with togglePend := true }
  | .latched => (s.setChan b .waitInsert).setChan b .off
  | .off | .waitInsert | .ramp | .on | .fetFault => s

/-- PRESENCE_ABSENT_100MS on an absent bay: the channel as `absentChan` says, the port as `Port.reseated` says. -/
theorem exec_presenceAbsent100ms {bay : Fin 48} {s : State} (hpres : (s.chan bay).pres = false)
    (hlen : (s.absentChan bay).sheet.ports.length = 48) :
    ∃ t, exec (.presenceAbsent100ms bay) s = .next t ∧ (∀ b, t.chan b = (s.absentChan bay).chan b)
      ∧ (t.port bay).st = (((s.absentChan bay).port bay).reseated).st ∧ (t.port bay).latchedLost = false := by
  have hb : bay.val < (s.absentChan bay).sheet.ports.length := by rw [hlen]; exact bay.isLt
  have hp := State.port_onPort hb Port.reseated bay
  rw [if_pos rfl] at hp
  let u := (s.absentChan bay).onPort bay Port.reseated
  refine ⟨if (u.port bay).modSt = .lost ∨ (u.port bay).modSt = .foreign then u.setMod bay .absent else u, ?_, ?_⟩
  · simp only [exec, execPresenceAbsent100ms, hpres]
    rfl
  · split
    · have hu : bay.val < u.sheet.ports.length := by simpa [u, State.onPort, State.onSheet] using hb
      refine ⟨fun b => by rw [State.setMod_chan]; rfl, ?_⟩
      rw [State.setMod_port hu, if_pos rfl, hp]
      exact ⟨rfl, rfl⟩
    · exact ⟨fun b => rfl, by rw [hp]; exact ⟨rfl, rfl⟩⟩

/-- Settles O14: each command is one change of state of the channel, with the port's reseating for the absence. -/
theorem bayChannelLatches : Obligations.BayChannelLatches := by
  intro bay s hlen hplen
  have hb : bay.val < s.bpd.chans.length := by rw [hlen]; exact bay.isLt
  refine ⟨fun hst htog => ⟨s.setChan bay .latched, ?_, ?_⟩, fun hst => ?_, fun hpres hst => ?_, fun hpres hst hret => ?_⟩
  · simp [exec, execCooldownExpiry, hst, htog]
  · simp only [State.setChan_chan hb (show (s.chan bay).st ≠ .latched by simp [hst])]
    simp +contextual [Chan.entered, eq_comm]
  · let u := s.onChan bay fun c => { c with lastFault := 7, togglePend := false }
    refine ⟨(u.setChan bay .fetFault).raise (0x440 + bay) classU 0x15 (2 ^ 36 * bay + 7), ?_, ?_⟩
    · rcases hst with h | h | h <;> simp only [exec, execFetFaultTimer, h] <;> rfl
    · have hu : (u.chan bay).st ≠ .fetFault := by
        rw [State.chan_onChan hb, if_pos rfl]
        rcases hst with h | h | h <;> simp [h]
      simp only [State.raise_chan, State.setChan_chan (s := u) (by simpa [u] using hb) hu]
      simp only [u, State.chan_onChan hb]
      simp +contextual [Chan.entered, eq_comm]
  · have hoff : s.absentChan bay = (s.setChan bay .waitInsert).setChan bay .off := by simp [State.absentChan, hst]
    have h1 := State.setChan_chan hb (show (s.chan bay).st ≠ .waitInsert by simp [hst])
    have hw : ((s.setChan bay .waitInsert).chan bay).st = .waitInsert := by simp [h1, Chan.entered]
    have hports : (s.absentChan bay).sheet.ports = s.sheet.ports := by
      rw [hoff, State.setChan_ports (by simp [hw]) (by simp), State.setChan_ports (by simp [hst]) (by simp)]
    obtain ⟨t, ht, hchan, -, hll⟩ := exec_presenceAbsent100ms hpres (by rw [hports, hplen])
    refine ⟨t, ht, ?_, hll, fun b hne => ?_⟩ <;>
      simp only [hchan, hoff, State.setChan_chan (by rwa [State.setChan_chans_length]) (show ((s.setChan bay .waitInsert).chan bay).st ≠ .off by simp [hw]), h1]
    · simp [Chan.entered]
    · simp [Ne.symm hne]
  · have hcd : s.absentChan bay = s.onChan bay fun c => { c with togglePend := true } := by simp [State.absentChan, hst]
    obtain ⟨t, ht, hchan, hpst, -⟩ := exec_presenceAbsent100ms hpres (by rw [hcd]; exact hplen)
    simp only [hcd, State.chan_onChan hb] at hchan
    refine ⟨t, ht, by simp [hchan, hst], by simp [hchan], ?_, fun b hne => by simp [hchan, Ne.symm hne]⟩
    rw [hpst, hcd]
    exact if_pos hret

end Sys2Proof.Machine
end

section
/-! PROOF. Chapters 16 and 22: hold-up, the rails, presence and heat (O16, O17, O18). -/

namespace Sys2Proof.Machine

/-- The Bay Power Die's registers but its channels and the fault words it holds. -/
def BpdSt.core (b : BpdSt) : BpdSt := { b with chans := [], held := [], lostWords := false }

theorem State.core_of_mask {s t : State} (h : t.mask (but [.bpd]) = s.mask (but [.bpd])) : t.bpd.core = s.bpd.core := by
  have h1 := congrArg BpdSt.core (State.mask_bpd h rfl)
  exact h1

@[simp] theorem State.setChan_core (s : State) (b : Nat) (st : ChanState) : (s.setChan b st).bpd.core = s.bpd.core := by
  by_cases h : (s.chan b).st = st
  · rw [State.setChan, if_pos h]
  · have h1 : (s.setChan b st).mask (but [.bpd]) = (s.onChan b fun c => c.entered st s.now).mask (but [.bpd]) := by
      simp [State.setChan, h, Chan.entered]
    rw [State.core_of_mask h1]
    rfl

@[simp] theorem State.diePowerOff_bpd (s : State) : s.diePowerOff.bpd = s.bpd := State.bpd_of_mask (by simp)

@[simp] theorem State.event_bpd (s : State) (src kind d0 d1 : Nat) : (s.event src kind d0 d1).bpd = s.bpd := State.bpd_of_mask (by simp)

@[simp] theorem State.checkStrike_bpd (s : State) : s.checkStrike.bpd = s.bpd := State.bpd_of_mask (by simp)

/-- The selector in DOWN: nothing else of the Bay Power Die's registers changes. -/
theorem State.setSel_down_bpd (s : State) : (s.setSel .down).bpd = { s.bpd with sel := .down } := by
  unfold State.setSel
  split
  · next h => rw [← h]
  · simp [State.eventState, State.onBpd]

/-- A channel as going down leaves it: off, with fault kind 8 recorded when the bus fell. -/
def State.chanDown (low : Bool) (s : State) (b : Nat) : State :=
  match (s.chan b).st with
  | .on => (if low then s.onChan b fun c => { c with lastFault := 8 } else s).setChan b .off
  | .waitInsert | .ramp => s.setChan b .off
  | .off | .cooldown | .latched | .fetFault => s

theorem State.chanDown_length (low : Bool) (s : State) (b : Nat) : (s.chanDown low b).bpd.chans.length = s.bpd.chans.length := by
  unfold State.chanDown
  split <;> simp only [State.setChan_chans_length]
  cases low <;> simp

theorem State.chanDown_core (low : Bool) (s : State) (b : Nat) : (s.chanDown low b).bpd.core = s.bpd.core := by
  unfold State.chanDown
  split <;> simp only [State.setChan_core]
  cases low <;> rfl

/-- Going down leaves the channel it is at not ON, and turns none on. -/
theorem State.chanDown_not_on (low : Bool) {s : State} {b : Nat} (hb : b < s.bpd.chans.length) {c : Nat} (hc : b = c ∨ (s.chan c).st ≠ .on) :
    ((s.chanDown low b).chan c).st ≠ .on := by
  unfold State.chanDown
  split
  · next h =>
    let u := if low then s.onChan b fun c => { c with lastFault := 8 } else s
    have hu (c : Nat) : (u.chan c).st = (s.chan c).st := by
      cases low
      · rfl
      · show ((s.onChan b _).chan c).st = _
        rw [State.chan_onChan hb]
        split <;> rfl
    have hlen : b < u.bpd.chans.length := by cases low <;> simpa [u]
    rw [State.setChan_chan hlen (by simp [hu, h])]
    split
    · simp [Chan.entered]
    · next hne => rw [hu]; exact hc.resolve_left hne
  · next h =>
    rw [State.setChan_chan hb (by simp [h])]
    split
    · simp [Chan.entered]
    · next hne => exact hc.resolve_left hne
  · next h =>
    rw [State.setChan_chan hb (by simp [h])]
    split
    · simp [Chan.entered]
    · next hne => exact hc.resolve_left hne
  all_goals
    next h =>
    rcases hc with rfl | hc
    · simp [h]
    · exact hc

/-- Going down over a list of bays leaves none of them ON, and the other registers alone. -/
theorem State.foldl_chanDown (low : Bool) (l : List Nat) (s : State) (hl : ∀ b ∈ l, b < s.bpd.chans.length) :
    (l.foldl (State.chanDown low) s).bpd.core = s.bpd.core ∧
      ∀ c, c ∈ l ∨ (s.chan c).st ≠ .on → ((l.foldl (State.chanDown low) s).chan c).st ≠ .on := by
  induction l generalizing s with
  | nil => exact ⟨rfl, fun c h => by simpa using h⟩
  | cons b l ih =>
    obtain ⟨hcore, hnot⟩ := ih (s.chanDown low b) fun b' h => by
      rw [State.chanDown_length]
      exact hl b' (List.mem_cons_of_mem b h)
    have hb := hl b List.mem_cons_self
    refine ⟨hcore.trans (State.chanDown_core low s b), fun c hc => hnot c ?_⟩
    rcases hc with hc | hc
    · rcases List.mem_cons.mp hc with rfl | hc
      · exact .inr (State.chanDown_not_on low hb (.inl rfl))
      · exact .inl hc
    · exact .inr (State.chanDown_not_on low hb (.inr hc))

/-- The rest of going down, once every channel is off. -/
def State.downWith (u : State) : State :=
  ((u.setSel .down).onBpd fun b =>
    { b with strikeTrig := false, mainOn := false, rails := 0, railAttempt := 0, mainReset := true, pwrFault := b.pwrFault && b.railsOff }).diePowerOff

theorem State.goDown_eq (s : State) (low : Bool) :
    s.goDown low = ((List.range 48).foldl (State.chanDown low) (s.onBpd fun b => { b with mainReset := true })).downWith := rfl

theorem State.downWith_bpd (u : State) : u.downWith.bpd = { u.bpd with
    sel := .down, strikeTrig := false, mainOn := false, rails := 0, railAttempt := 0, mainReset := true
    pwrFault := u.bpd.pwrFault && u.bpd.railsOff } := by
  rw [State.downWith, State.diePowerOff_bpd, State.onBpd]
  simp only [State.setSel_down_bpd]

/-- The Bay Power Die after everything was turned off. -/
theorem State.goDown_bpd (s : State) (low : Bool) (h48 : s.bpd.chans.length = 48) :
    (s.goDown low).bpd.sel = .down ∧ (s.goDown low).bpd.mainOn = false ∧ (s.goDown low).bpd.mainReset = true ∧ (s.goDown low).bpd.rails = 0
      ∧ (s.goDown low).bpd.strikeTrig = false ∧ (∀ b : Nat, ((s.goDown low).chan b).st ≠ .on)
      ∧ (s.goDown low).bpd.busOk = s.bpd.busOk ∧ (s.goDown low).bpd.busIn = s.bpd.busIn := by
  obtain ⟨hcore, hnot⟩ := State.foldl_chanDown low (List.range 48) (s.onBpd fun b => { b with mainReset := true })
    (fun b hb => by have := List.mem_range.mp hb; simpa [State.onBpd, h48])
  rw [State.goDown_eq]
  generalize (List.range 48).foldl (State.chanDown low) (s.onBpd fun b => { b with mainReset := true }) = u at hcore hnot
  have hok : u.bpd.busOk = s.bpd.busOk := by
    have := congrArg BpdSt.busOk hcore
    exact this
  have hin : u.bpd.busIn = s.bpd.busIn := by
    have := congrArg BpdSt.busIn hcore
    exact this
  rw [State.downWith_bpd]
  refine ⟨rfl, rfl, rfl, rfl, rfl, fun b => ?_, hok, hin⟩
  have hchan : u.downWith.chan b = u.chan b := by rw [State.chan, State.downWith_bpd]; rfl
  rw [hchan]
  refine hnot b ?_
  by_cases hb : b < 48
  · exact .inl (List.mem_range.mpr hb)
  · right
    have : (s.onBpd fun b => { b with mainReset := true }).chan b = Chan.reset := by
      simp [State.chan, State.onBpd, nth, List.getD_eq_getElem?_getD, List.getElem?_eq_none (show s.bpd.chans.length ≤ b by omega)]
    simp [this, Chan.reset]

/-- Strike is not armed once hold-up good has ended (R387). -/
theorem State.checkStrike_disarmed {s : State} (h : s.holdupGood = false) (ha : s.log.strikeArmed = true) : s.checkStrike.log.strikeArmed = false := by
  have hlack : s.strikeLack = 1 := by simp [State.strikeLack, h]
  have hne : ¬ (s.log.strikeArmed = decide (s.strikeLack = 0)) := by simp [hlack, ha]
  have hlog (u : State) (a b c d : Nat) : (u.eventState a b c d 0).log = u.log :=
    State.mask_log (P := but [.log]) (by simp) rfl
  rw [State.checkStrike]
  simp only [if_neg hne, hlog]
  simp [State.onLog, hlack]

/-- Settles O16: going down is `goDown`, whose effect on the Bay Power Die is `goDown_bpd`; the others are read off. -/
theorem holdupEndsDown : Obligations.HoldupEndsDown := by
  intro s h48
  refine ⟨fun hsel haux => ?_, fun hsel hstr => ?_, fun hat hgood hbusy haw => ?_, fun hbusy ma v0 dv us => ?_, fun w a => ?_, fun hg ha => ?_⟩
  · have he : exec .busBelowHoldMin s = .next ((s.onBpd fun b => { b with busOk := false, busIn := false }).goDown true) := by
      simp [exec, execBusBelowHoldMin, hsel, haux]
    obtain ⟨h1, h2, h3, h4, h5, h6, h7, h8⟩ := State.goDown_bpd (s.onBpd fun b => { b with busOk := false, busIn := false }) true h48
    exact ⟨_, he, ⟨h1, h2, h3, h4, h5, h6⟩, h7, h8⟩
  · have he : exec .holdupPeerTimer s = .next (s.goDown false) := by simp [exec, execHoldupPeerTimer, hsel, hstr]
    obtain ⟨h1, h2, h3, h4, h5, h6, -⟩ := State.goDown_bpd s false h48
    exact ⟨_, he, h1, h2, h3, h4, h5, h6⟩
  · have he : exec (.holdupTestStart .daily) s = .next (s.onBpd fun b => { b with testBusy := true }) := by
      simp [exec, execHoldupTestStart, hat, hgood, hbusy, haw]
    exact ⟨_, he, rfl⟩
  · refine ⟨_, rfl, ?_⟩
    simp only [hbusy, Bool.not_true, Bool.false_eq_true, if_false]
    refine State.bpd_of_mask (s := s.onBpd fun b => { b with
      testBusy := false, testMbx := none, holdUs := holdTime ma v0 dv us s.strikeWatts, testAt := some s.now
      testFail := decide (holdTime ma v0 dv us s.strikeWatts < 1200) }) ?_
    cases s.bpd.testMbx <;> simp
  · exact ⟨_, rfl, by simp [State.onBpd], by simp [State.onBpd], by simp [State.onBpd]⟩
  · exact ⟨_, rfl, State.checkStrike_disarmed hg ha⟩

/-- Settles O17: each command writes the sequence's registers as Table 22.3 gives. -/
theorem railSequence : Obligations.RailSequence := by
  intro s
  have hlost (u : State) : u.railLost.bpd = { u.bpd with mainOn := false, rails := 0, railAttempt := 0, pwrFault := true, mainReset := true } :=
    State.diePowerOff_bpd _
  have hstep (u : State) : u.railLost.boot.step = 3 := rfl
  refine ⟨fun hf hr ho hp hm k hk => ?_, fun hf ho hp hlt => ?_, fun hf hr ho hp => ?_, fun hm => ⟨fun k => ?_, ?_⟩, fun hr => ?_⟩
  · have he : exec (.railPowerGood k) s = .next (s.onBpd fun b =>
        if k.val = 6 then { b with rails := 7, railAttempt := 0, mainOn := true, mainReset := false } else { b with rails := k.val + 1 }) := by
      simp [exec, execRailPowerGood, hf, hr, ho, hp, hm, hk]
    refine ⟨_, he, ?_⟩
    by_cases h6 : k.val = 6
    · have hk6 : k = 6 := Fin.ext h6
      simp [State.onBpd, hk6]
    · have hk6 : k ≠ 6 := fun h => h6 (congrArg Fin.val h)
      simp [State.onBpd, h6, hk6, hm]
  · have he : exec .railPgTimeout s = .next (s.onBpd fun b =>
        { b with rails := 0, pwrFault := true, railAttempt := b.railAttempt + 1, railsOff := decide (1 ≤ b.railAttempt) }) := by
      simp [exec, execRailPgTimeout, hf, ho, hp, hlt]
    exact ⟨_, he, rfl, rfl, rfl, rfl, rfl, rfl⟩
  · have he : exec .railRetryTimer s = .next (s.onBpd fun b => { b with pwrFault := false, rails := 0 }) := by
      simp [exec, execRailRetryTimer, hf, ho, hp, hr]
    exact ⟨_, he, rfl, rfl, rfl, rfl, rfl⟩
  · have he : exec (.railPgLost k) s = .next s.railLost := by simp [exec, execRailPgLost, hm]
    exact ⟨_, he, by simp [hlost, hstep]⟩
  · have he : exec .refclkSysLoss s = .next (s.onBpd fun b => { b with refclk := false }).railLost := by
      simp [exec, execRefclkSysLoss, State.onBpd, hm]
    exact ⟨_, he, by simp [hlost, hstep, State.onBpd]⟩
  · have he : exec .refclkSysRestored s = .next (s.onBpd fun b => { b with refclk := true, pwrFault := b.pwrFault && b.railsOff, rails := 0 }) := by
      simp [exec, execRefclkSysRestored, hr]
    exact ⟨_, he, rfl, rfl, rfl, rfl⟩

end Sys2Proof.Machine
end

section
/-! PROOF. Chapters 16 and 22: presence, auxiliary power and heat (O18). -/

namespace Sys2Proof.Machine

theorem State.module_of_mask {s t : State} (h : t.mask (but [.mods]) = s.mask (but [.mods])) (b : Nat) : t.module b = s.module b := by
  rw [State.module, State.module, State.mask_mods h rfl]

/-- A channel that is not ON and does not become ON leaves the modules alone. -/
theorem State.setChan_module {s : State} {b : Nat} {st : ChanState} (hold : (s.chan b).st ≠ .on) (hnew : st ≠ .on) (c : Nat) :
    (s.setChan b st).module c = s.module c := by
  by_cases h : (s.chan b).st = st
  · rw [State.setChan, if_pos h]
  · refine State.module_of_mask ?_ c
    simp [State.setChan, h, hold, hnew]

theorem State.chanTry_module (s : State) (b c : Nat) : (s.chanTry b).module c = s.module c := by
  simp only [State.chanTry]
  split
  · next h => exact State.setChan_module (by simp [h.1]) (by simp) c
  · rfl

/-- Trying to leave OFF keeps a channel's presence and every other channel. -/
theorem State.chanTry_chan {s : State} {b : Nat} (hb : b < s.bpd.chans.length) (c : Nat) :
    ((s.chanTry b).chan c).pres = (s.chan c).pres ∧ (b ≠ c → (s.chanTry b).chan c = s.chan c) := by
  simp only [State.chanTry]
  split
  · next h =>
    rw [State.setChan_chan hb (by simp [h.1])]
    split
    · next hc => exact ⟨rfl, fun h => absurd hc h⟩
    · exact ⟨rfl, fun _ => rfl⟩
  · exact ⟨rfl, fun _ => rfl⟩

@[simp] theorem State.powerFollow_chan (s : State) (n b : Nat) : (s.powerFollow n).chan b = s.chan b :=
  State.chan_of_mask (by simp) b

@[simp] theorem State.powerFollow_module (s : State) (n b : Nat) : (s.powerFollow n).module b = s.module b :=
  State.module_of_mask (by simp) b

/-- A module put into an empty bay. -/
theorem State.insertModule_empty {s : State} {b : Nat} (hb : b < s.sheet.modules.length) (h : s.module b = none) (d : ModuleDesc) :
    (∃ m, (s.insertModule b d).module b = some m ∧ m.desc = d ∧ m.epoch = 0 ∧ m.owner = 0)
      ∧ (∀ c, c ≠ b → (s.insertModule b d).module c = s.module c) ∧ (s.insertModule b d).bpd = s.bpd := by
  simp only [State.insertModule, h, Bool.false_eq_true, if_false]
  refine ⟨⟨_, (nth_putNth b _ none hb).trans (if_pos rfl), rfl, rfl, rfl⟩, fun c hc => ?_, rfl⟩
  exact (nth_putNth c _ none hb).trans (if_neg (Ne.symm hc))

/-- A channel that presence leaves is neither waiting nor ramping nor ON. -/
def State.chanLeft (s : State) (b : Nat) : State :=
  match (s.chan b).st with
  | .waitInsert | .ramp | .on => s.setChan b .off
  | .off | .cooldown | .latched | .fetFault => s

theorem State.chanLeft_chan {s : State} {b : Nat} (hb : b < s.bpd.chans.length) :
    ((s.chanLeft b).chan b).pres = (s.chan b).pres ∧ ((s.chanLeft b).chan b).st ≠ .waitInsert ∧ ((s.chanLeft b).chan b).st ≠ .ramp
      ∧ ((s.chanLeft b).chan b).st ≠ .on ∧ ∀ c, c ≠ b → (s.chanLeft b).chan c = s.chan c := by
  have hoff (h : (s.chan b).st ≠ .off) : ((s.setChan b .off).chan b).pres = (s.chan b).pres ∧ ((s.setChan b .off).chan b).st = .off
      ∧ ∀ c, c ≠ b → (s.setChan b .off).chan c = s.chan c := by
    simp +contextual [State.setChan_chan hb h, Chan.entered, eq_comm]
  unfold State.chanLeft
  split
  all_goals
    next h =>
    simp +contextual [h, hoff]

/-- The state without auxiliary power; the modules of the bays of `l` have none either. -/
def State.auxOff (l : List Nat) (s : State) : State :=
  let s2 := (l.foldl (fun s b => s.modulePower b)
    (s.onBpd fun b => { BpdSt.reset with aux := false, chans := b.chans.map fun c => { Chan.reset with pres := c.pres } })).diePowerOff
  { s2 with flt := FltSt.reset, boot := { s2.boot with step := 1, tripHold := false } }

theorem State.auxOff_bpd (l : List Nat) (s : State) :
    (s.auxOff l).bpd = { BpdSt.reset with aux := false, chans := s.bpd.chans.map fun c => { Chan.reset with pres := c.pres } } := by
  refine (State.diePowerOff_bpd (l.foldl (fun s b => s.modulePower b) _)).trans ?_
  exact State.bpd_of_mask (s := s.onBpd fun b =>
    { BpdSt.reset with aux := false, chans := b.chans.map fun c => { Chan.reset with pres := c.pres } })
    (State.foldl_mask (fun u b => State.modulePower_mask rfl u b) _ _)

theorem State.auxOff_flt (l : List Nat) (s : State) : (s.auxOff l).flt = FltSt.reset ∧ (s.auxOff l).boot.step = 1 := ⟨rfl, rfl⟩

/-- Settles O18: presence moves the bay's channel and module alone, and each heat command writes the registers of Table 22.6. -/
theorem heatAndPresence : Obligations.HeatAndPresence := by
  intro s hclen hmlen
  refine ⟨fun bay d hpres hmod => ?_, fun bay hpres => ?_, fun haux => ?_, fun v l => ?_, fun haw hth => ⟨fun τ hτ hle => ?_, ?_, ?_⟩⟩
  · have hb : bay.val < s.bpd.chans.length := by rw [hclen]; exact bay.isLt
    obtain ⟨hm, hother, hbpd⟩ := State.insertModule_empty (by rw [hmlen]; exact bay.isLt) hmod d
    let s1 := (s.insertModule bay d).onChan bay fun c => { c with pres := true }
    let s2 := if s1.awake ∧ (s1.port bay).modSt = .absent then s1.setMod bay .powering else s1
    have he : exec (.presenceChange bay (some d)) s = .next ((s2.chanTry bay).powerFollow bay) := by
      simp only [exec, execPresenceChange, hpres]
      rfl
    have hchan (c : Nat) : s2.chan c = s1.chan c := by
      simp only [s2]
      split <;> simp
    have hmods (c : Nat) : s2.module c = (s.insertModule bay d).module c := by
      have h1 : s1.module c = (s.insertModule bay d).module c := rfl
      simp only [s2]
      split
      · rw [← h1]; exact State.module_of_mask (by simp) c
      · exact h1
    have hs1 (c : Nat) : s1.chan c = if bay.val = c then { s.chan c with pres := true } else s.chan c := by
      have h1 (c : Nat) : (s.insertModule bay d).chan c = s.chan c := by rw [State.chan, hbpd]; rfl
      have := State.chan_onChan (s := s.insertModule bay d) (b := bay.val) (by rwa [hbpd]) (fun c => { c with pres := true }) c
      rwa [h1] at this
    have hlen : bay.val < s2.bpd.chans.length := by
      have h2 : s2.bpd.chans = s1.bpd.chans := by
        simp only [s2]
        split
        · exact State.chans_of_mask (by simp)
        · rfl
      rw [h2, State.onChan_chans_length]
      rwa [hbpd]
    refine ⟨_, he, ?_, ?_, fun b hne => ⟨?_, ?_⟩⟩
    · rw [State.powerFollow_chan, (State.chanTry_chan hlen _).1, hchan, hs1]
      simp
    · simpa only [State.powerFollow_module, State.chanTry_module, hmods] using hm
    · rw [State.powerFollow_chan, (State.chanTry_chan hlen _).2 (Ne.symm hne), hchan, hs1, if_neg (Ne.symm hne)]
    · rw [State.powerFollow_module, State.chanTry_module, hmods, hother b hne]
  · have hb : bay.val < s.bpd.chans.length := by rw [hclen]; exact bay.isLt
    let s1 := s.onChan bay fun c => { c with pres := false }
    obtain ⟨s2, hs2⟩ : ∃ s2, s2 = match (s1.port bay).modSt with
      | .inService | .unreachable | .fencing => if s1.holder then s1.loseModule bay else s1.setMod bay .absent
      | .powering | .linking | .identify | .ready => s1.setMod bay .absent
      | .absent | .lost | .foreign => s1 := ⟨_, rfl⟩
    have he : exec (.presenceChange bay none) s
        = .next ((((s2.chanLeft bay).portOff bay).endOps bay).onModule bay fun m => { m with ops := [] }) := by
      subst hs2
      simp only [exec, execPresenceChange, hpres]
      rfl
    have hchans : s2.bpd.chans = s1.bpd.chans := by
      subst hs2
      refine State.chans_of_mask ?_
      split
      · split <;> simp
      all_goals simp
    have hs1 (c : Nat) : s2.chan c = if bay.val = c then { s.chan c with pres := false } else s.chan c := by
      rw [State.chan, hchans]
      exact State.chan_onChan hb _ c
    have hend (c : Nat) : ((((s2.chanLeft bay).portOff bay).endOps bay).onModule bay fun m => { m with ops := [] }).chan c = (s2.chanLeft bay).chan c :=
      State.chan_of_mask (by simp) c
    obtain ⟨h1, h2, h3, h4, h5⟩ := State.chanLeft_chan (s := s2) (b := bay) (by rw [hchans, State.onChan_chans_length]; exact hb)
    refine ⟨_, he, ?_, ?_, ?_, ?_, fun b hne => ?_⟩
    · rw [hend, h1, hs1, if_pos rfl]
    · rwa [hend]
    · rwa [hend]
    · rwa [hend]
    · rw [hend, h5 b hne, hs1, if_neg (Ne.symm hne)]
  · have he : exec .auxiliaryPowerRemoved s = .next (s.auxOff (List.range 48)) := by
      simp only [exec, execAuxiliaryPowerRemoved, State.auxOff, haux, Bool.not_true, Bool.false_eq_true, if_false]
    have hbpd := State.auxOff_bpd (List.range 48) s
    obtain ⟨hflt, hstep⟩ := State.auxOff_flt (List.range 48) s
    generalize s.auxOff (List.range 48) = t at he hbpd hflt hstep
    refine ⟨t, he, by rw [hbpd], by rw [hbpd]; rfl, by rw [hbpd]; rfl, by rw [hflt]; rfl, hstep, fun b => ?_⟩
    have hmap : t.chan b = { Chan.reset with pres := (s.chan b).pres } := by
      rw [State.chan, hbpd]
      exact nth_map s.bpd.chans (fun c => { Chan.reset with pres := c.pres }) b Chan.reset
    rw [hmap]
    exact ⟨rfl, rfl⟩
  · by_cases haw : s.awake = true
    · refine ⟨_, rfl, ?_⟩
      simp only [haw, Bool.not_true, Bool.false_eq_true, if_false]
      rw [State.mask_boot (P := but [.boot]) (State.monitor_mask rfl rfl rfl _ _ _ _ _ _ _ _) rfl]
      rfl
    · exact ⟨_, rfl, by simp [haw, State.onBoot]⟩
  · have he : exec .thermalLevelChange s = .next ((s.onBoot fun b => { b with tripHold := true }).raise 0x419 classF 0x19 0) := by
      simp [exec, execThermalLevelChange, haw, hth, hτ, hle]
    exact ⟨_, he, State.mask_boot (s := s.onBoot fun b => { b with tripHold := true }) (P := but [.boot]) (by simp) rfl⟩
  · intro ht ha hle
    have he : exec .thermalLevelChange s
        = .next ((s.onBoot fun b => { b with thermal := b.thermal + 1, aboveSince := 0, belowSince := 0 }).junctionTimes) := by
      simp [exec, execThermalLevelChange, haw, ht, ha, hle]
    exact ⟨_, he, rfl, rfl⟩
  · intro ht ha hb hle
    have he : exec .thermalLevelChange s
        = .next ((s.onBoot fun b => { b with thermal := b.thermal - 1, aboveSince := 0, belowSince := 0 }).junctionTimes) := by
      simp [exec, execThermalLevelChange, haw, ht, ha, hb, hle]
    exact ⟨_, he, rfl, rfl⟩

end Sys2Proof.Machine
end

section
/-! SUPPORT. What a queue pair reads after a change (chapter 11), what an accepted packet leaves, and the rate of a queue pair (O28). -/

namespace Sys2Proof.Machine

theorem tabGet_tabMod {α : Type} (t : Tab α) (k : Nat) (f : α → α) (j : Nat) :
    tabGet (tabMod t k f) j = if k = j then (tabGet t j).map f else tabGet t j := by
  unfold tabMod
  split
  · next h => split
              · next hj => subst hj; simp [h]
              · rfl
  · next v h =>
    split
    · next hj => subst hj; rw [tabGet_tabPut_same, h]; rfl
    · next hj => exact tabGet_tabPut_other t _ (Ne.symm hj)

/-- A queue pair that is not FREE is in the table. -/
theorem State.qp_present {s : State} {q : Nat} (h : (s.qp q).st ≠ .free) : (tabGet s.rdma.qps q).isSome = true := by
  rw [State.qp, tabGetD] at h
  cases hq : tabGet s.rdma.qps q with
  | none => rw [hq] at h; exact absurd rfl h
  | some x => rfl

/-- Changing a queue pair that is in the table changes that one alone. -/
theorem State.qp_onQp {s : State} {q : Nat} (h : (s.qp q).st ≠ .free) (g : Qp → Qp) (p : Nat) :
    (s.onQp q g).qp p = if q = p then g (s.qp p) else s.qp p := by
  have h1 := State.qp_present h
  show (tabGet (tabMod s.rdma.qps q g) p).getD Qp.reset = _
  rw [tabGet_tabMod]
  split
  · next hp =>
    subst hp
    obtain ⟨x, hx⟩ := Option.isSome_iff_exists.mp h1
    simp [State.qp, tabGetD, hx]
  · rfl

theorem State.qp_onQp_same {s : State} {q : Nat} (h : (s.qp q).st ≠ .free) (g : Qp → Qp) : (s.onQp q g).qp q = g (s.qp q) := by
  rw [State.qp_onQp h, if_pos rfl]

/-- Changing a queue pair leaves the others alone. -/
theorem State.qp_onQp_other (s : State) {q p : Nat} (g : Qp → Qp) (h : p ≠ q) : (s.onQp q g).qp p = s.qp p := by
  show (tabGet (tabMod s.rdma.qps q g) p).getD Qp.reset = _
  rw [tabGet_tabMod, if_neg (Ne.symm h)]
  rfl

@[simp] theorem State.sendCtl_qp (s : State) (q : Nat) (kind : CtlKind) (psn : BitVec 24) (syn p : Nat) :
    (s.sendCtl q kind psn syn).qp p = s.qp p := rfl

/-- What an accepted right packet leaves: a READY queue pair, but for the moment of the last CNP sent, is as it was, and the others are. -/
theorem State.acceptPkt_ready {s : State} (haw : s.awake = true) {h : PktHdr} {q : Nat} (hq : s.qpnIndex h.qpn = some q) (hst : (s.qp q).st = .ready)
    (hk : h.pkeyOk = true) (hi : h.icrcOk = true) (ha : h.addrOk = true) :
    ∃ s1 c, s.acceptPkt h = (some q, s1) ∧ s1.qp q = { s.qp q with lastCnpTx := c } ∧ (∀ p, p ≠ q → s1.qp p = s.qp p)
      ∧ s1.mask (these [.rdma]) = s.mask (these [.rdma]) := by
  obtain ⟨due, hacc⟩ : ∃ due : Bool, s.acceptPkt h = (some q, if due then
      (s.sendCtl q .cnp 0 0).onQp q fun x => { x with lastCnpTx := some s.now } else s) := by
    refine ⟨h.ce && (match (s.qp q).lastCnpTx with
      | some t => decide (t + us 50 ≤ s.now)
      | none => true), ?_⟩
    simp only [State.acceptPkt, haw, hq, hst, hk, hi, ha, Bool.and_eq_true]
    rfl
  cases due
  · exact ⟨s, (s.qp q).lastCnpTx, hacc, rfl, fun _ _ => rfl, rfl⟩
  · refine ⟨_, some s.now, hacc, ?_, fun p hp => ?_, by simp⟩
    · exact State.qp_onQp_same (s := s.sendCtl q .cnp 0 0) (by simp [hst]) _
    · exact State.qp_onQp_other (s.sendCtl q .cnp 0 0) _ hp

theorem State.now_of_mask {s t : State} (h : t.mask (these [.rdma]) = s.mask (these [.rdma])) : t.now = s.now := by
  have h1 := State.mask_clk h rfl
  rw [State.now, State.now, h1]

/-- Settles O28: a CNP and a step of the rate each change the one queue pair's rate registers; the report records its moment. -/
theorem congestionControl : Obligations.CongestionControl := by
  intro s haw
  refine ⟨fun q hst => ⟨fun h hq hk hi ha => ?_, fun hle => ?_, fun hlt => ?_⟩, fun tenant sent e he hlt hrec => ?_, fun tenant sent => ?_⟩
  · obtain ⟨s1, c, hacc, hqp, hother, hm⟩ := State.acceptPkt_ready haw hq hst hk hi ha
    have hex : exec (.cnpRx h) s = .next (s1.onQp q fun x =>
        { x with rt := x.rc, rc := max 100 (x.rc - x.rc * x.alpha / 131072), alpha := x.alpha * 255 / 256 + 256, k := 0, lastCnpRx := s.now }) := by
      simp [exec, execCnpRx, hacc]
    have hnew := State.qp_onQp_same (s := s1) (q := q) (by rw [hqp]; simp [hst]) fun x =>
      { x with rt := x.rc, rc := max 100 (x.rc - x.rc * x.alpha / 131072), alpha := x.alpha * 255 / 256 + 256, k := 0, lastCnpRx := s.now }
    rw [hqp] at hnew
    refine ⟨_, hex, by rw [hnew], by rw [hnew], by rw [hnew], by rw [hnew], by rw [hnew], fun p hp => ?_⟩
    rw [State.qp_onQp_other _ _ hp, hother p hp]
  · have hnlt : ¬ s.now < (s.qp q).lastCnpRx + us 55 := by omega
    have hex := fun g => State.qp_onQp_same (s := s) (q := q) (by simp [hst]) g
    refine ⟨_, by simp only [exec, execRateIncreaseTimer, haw, hst, hnlt]; rfl, ?_, fun p hp => State.qp_onQp_other _ _ hp⟩
    exact hex _
  · simp [exec, execRateIncreaseTimer, hlt]
  · have hno : ¬ e.txCir * 10 ^ 6 ≤ 8 * sent := by omega
    have hev : (s.event (0x800 + tenant.val) 0x0A 2 0).rdma = s.rdma := State.mask_rdma (P := but [.rdma]) (by simp) rfl
    have hex : exec (.txCirWindow tenant sent true) s
        = .next ((s.event (0x800 + tenant.val) 0x0A 2 0).onRdma fun r => { r with cirEvent := tabPut r.cirEvent tenant.val s.now }) := by
      simp only [exec, execTxCirWindow, haw, he, hno]
      cases hc : tabGet s.rdma.cirEvent tenant.val with
      | none => rfl
      | some τ => simp [hrec τ hc]
    refine ⟨_, hex, ?_, ?_, fun u hu => ?_⟩
    · exact tabGet_tabPut_same _ _ _
    · show (s.event (0x800 + tenant.val) 0x0A 2 0).rdma.qps = _
      rw [hev]
    · refine (tabGet_tabPut_other _ _ hu).trans ?_
      rw [hev]
  · simp only [exec, execTxCirWindow, haw]
    cases s.tenantEntry tenant.val <;> rfl

end Sys2Proof.Machine
end

section
/-! PROOF. Chapter 14: the shelf key, the generators, retention and the seal (O45), with the rule of a fault word that finds its cell free. -/

namespace Sys2Proof.Machine

theorem modNth_of_fix {α : Type} (l : List α) (i : Nat) (f : α → α) (d : α) (h : f (nth l i d) = nth l i d) : modNth l i f = l := by
  induction l generalizing i with
  | nil => rfl
  | cons x t ih =>
    cases i with
    | zero => exact congrArg (· :: t) h
    | succ i => exact congrArg (x :: ·) (ih i h)

@[simp] theorem leBytes_length (n x : Nat) : (leBytes n x).length = n := by
  induction n generalizing x with
  | zero => rfl
  | succ n ih => simp [leBytes, ih]

/-- A word of a known unit and cause above class C, of the main die's own, whose region is not fenced, on an awake die. -/
structure State.Raisable (s : State) (w : BitVec 64) : Prop where
  awake : s.awake = true
  unit : unitKnown w = true
  cause : causeKnown (wCause w) = true
  class_le : wClass w ≤ 4
  own : fromBpdUnit w = false
  above : wClass w ≠ classC
  free : ∀ r, nodeRegion (wNode w) = some r → s.flt.isFenced r = false

theorem State.Raisable.raiseWord_eq {s : State} {w : BitVec 64} (h : s.Raisable w) :
    s.raiseWord w = match tabGet s.flt.cells (wNode w) with
      | some a => s.onFlt fun f => { f with cells := tabPut f.cells (wNode w) (mergeWord a w) }
      | none =>
        match handlingOf s.flt (wNode w) with
        | some c => s.onFlt fun f =>
            { f with concs := tabMod f.concs c fun k => { k with handling := k.handling.map (mergeWord · w) } }
        | none => s.onFlt fun f => { f with cells := tabPut f.cells (wNode w) (FWord.fresh w) } := by
  have haw : s.bpd.mainReset = false ∧ s.flt.stopped = false := by simpa [State.awake] using h.awake
  have hreg : ((nodeRegion (wNode w)).map s.flt.isFenced).getD false = false := by
    cases hr : nodeRegion (wNode w) with
    | none => rfl
    | some r => exact h.free r hr
  have hle : ¬ 4 < wClass w := by have := h.class_le; omega
  simp [State.raiseWord, h.unit, h.cause, hle, h.own, haw, h.above, hreg] <;> rfl

/-- A word whose cell is free and that no concentrator handles waits in its cell. -/
theorem State.Raisable.raiseWord_fresh {s : State} {w : BitVec 64} (h : s.Raisable w) (hc : tabGet s.flt.cells (wNode w) = none)
    (hh : handlingOf s.flt (wNode w) = none) :
    s.raiseWord w = s.onFlt fun f => { f with cells := tabPut f.cells (wNode w) (FWord.fresh w) } := by
  rw [h.raiseWord_eq, hc, hh]

theorem State.recordWord_isFenced (s : State) (w : FWord) (level : Nat) (climbed summary : Bool) (r : Nat) :
    (s.recordWord w level climbed summary).2.flt.isFenced r = s.flt.isFenced r := by
  simp only [State.recordWord, State.onFlt, FltSt.isFenced]
  split <;> rfl

/-- An operation that leaves the fault registers alone leaves the fences. -/
theorem State.flt_of_mask {s t : State} (h : t.mask (but [.flt]) = s.mask (but [.flt])) : t.flt = s.flt := State.mask_flt h rfl

/-- Fencing a region leaves it fenced. -/
theorem State.fenceRegion_isFenced (s : State) (r : Nat) (hr : r < 4) : (s.fenceRegion r).flt.isFenced r = true := by
  unfold State.fenceRegion
  split
  · assumption
  · dsimp only
    generalize hw : FWord.fresh (mkWord 2 (0x100 * (r + 1)) classX 0 (s.flt.regionWords r)) = w
    generalize hu : (s.onFlt fun f =>
      { (f.dropRegion r) with
        fenced := f.fenced ||| BitVec.ofNat 4 (2 ^ r)
        summarised := satAdd 65535 f.summarised (s.flt.regionWords r)
        summary := f.summary ++ [(r, s.flt.regionWords r)] }) = u
    have h1 : u.flt.isFenced r = true := by
      have hbit : (BitVec.ofNat 4 (2 ^ r)).getLsbD r = true := by interval_cases r <;> rfl
      rw [← hu]
      simp only [State.onFlt, FltSt.isFenced, BitVec.getLsbD_or, hbit, Bool.or_true]
    have h2 : ((u.recordWord w 3 false true).2.onSheet fun x => { x with programsHeld := true }).flt.isFenced r = true :=
      (State.recordWord_isFenced u w 3 false true r).trans h1
    refine (congrArg (fun f => FltSt.isFenced f r) (State.flt_of_mask ?_)).trans h2
    simp only [State.pauseRebuild_mask, State.giveUpLease_mask, but_eq_true, List.mem_singleton, reduceCtorEq, not_false_eq_true]
    split <;> simp

/-- An answer at a mailbox that runs a command. -/
theorem State.mbx_answer {s : State} {m op : Nat} (hm : m < s.mgmt.mbx.length) (hw : (s.mbx m).wait = .running op) (r : Resp) :
    ((s.answer m r).mbx m).wait = .answer { r with opcode := op } := by
  rw [State.answer, State.mbx_onMbx hm, if_pos rfl, hw]

/-- Settles O45: each command writes the key store's registers as its section says; a seal's end answers and drops its command. -/
theorem cipherWork : Obligations.CipherWork := by
  intro s haw
  refine ⟨fun key hno hpl => ?_, fun ok key hor => ?_, fun i hlen => ⟨?_, fun hf hc hh => ?_, fun hst => ⟨fun hle => ?_, fun hlt => ?_⟩⟩,
    fun hall hf => ?_, fun d hd hor => ?_, fun ns e x rest he hx => ⟨fun hle => ?_, fun hlt => ?_⟩,
    fun m digest x c e op hx hm hc he hph hle hml hw => ⟨fun lba => ?_, ?_⟩⟩
  · have hex : exec (.shelfKeyTransfer true key) s
        = .next ((s.onCip fun c => { c with shelfKey := some key }).onBoot fun b => { b with shelfKeyNor := some key }) := by
      simp [exec, execShelfKeyTransfer, haw, hno, hpl]
    exact ⟨_, hex, rfl, rfl⟩
  · rcases hor with h | h | h
    · simp [exec, execShelfKeyTransfer, h]
    · have hn : s.cip.shelfKey.isNone = false := by rw [← Option.not_isSome, h]; rfl
      simp [exec, execShelfKeyTransfer, hn]
    · simp [exec, execShelfKeyTransfer, h]
  · have hi : i.val < s.cip.drbgs.length := by rw [hlen]; exact i.isLt
    have hex : exec (.drbgReseed i true) s = .next (s.onCip fun c => { c with drbgs := modNth c.drbgs i.val fun _ => ⟨none, false, s.now⟩ }) := by
      simp [exec, execDrbgReseed, haw]
    refine ⟨_, hex, ?_, fun j hj => ?_, rfl⟩
    · exact (nth_modNth_of_lt _ _ _ hi).trans (if_pos rfl)
    · exact (nth_modNth_of_lt _ _ _ hi).trans (if_neg (Ne.symm hj))
  · have hi : i.val < s.cip.drbgs.length := by rw [hlen]; exact i.isLt
    let u := s.onCip fun c => { c with drbgs := modNth c.drbgs i.val fun d => { d with dueAt := some (min s.now d.due) } }
    have hex : exec (.drbgReseed i false) s = .next (u.raise 0x41A classU 0x0F 0) := by
      simp [exec, execDrbgReseed, haw, u]
    have hr : u.Raisable (mkWord 0 0x41A classU 0x0F 0) :=
      ⟨haw, by decide, by decide, by decide, by decide, by decide, fun r _ => by simp [u, State.onCip, FltSt.isFenced, hf]⟩
    have hrw := hr.raiseWord_fresh hc hh
    refine ⟨_, hex, ?_, fun j hj => ?_, ?_⟩
    · rw [State.raise, hrw]
      exact (nth_modNth_of_lt _ _ _ hi).trans (if_pos rfl)
    · rw [State.raise, hrw]
      exact (nth_modNth_of_lt _ _ _ hi).trans (if_neg (Ne.symm hj))
    · rw [State.raise, hrw]
      exact tabGet_tabPut_same _ _ _
  · have hi : i.val < s.cip.drbgs.length := by rw [hlen]; exact i.isLt
    have hex : exec (.drbgReseedOverdue i) s = .next (s.onCip fun c =>
        { c with drbgs := modNth c.drbgs i.val fun d => if d.due + secs 1 ≤ s.now ∧ !d.stopped then { d with stopped := true, lastOut := s.now } else d }) := by
      simp [exec, execDrbgReseedOverdue, haw]
    refine ⟨_, hex, ?_, fun j hj => ?_⟩
    · refine ((nth_modNth_of_lt _ _ _ hi).trans (if_pos rfl)).trans (if_pos ⟨hle, ?_⟩)
      simpa using hst
    · exact (nth_modNth_of_lt _ _ _ hi).trans (if_neg (Ne.symm hj))
  · have hfix := modNth_of_fix s.cip.drbgs i.val
      (fun d => if d.due + secs 1 ≤ s.now ∧ !d.stopped then { d with stopped := true, lastOut := s.now } else d) Drbg.reset
      (if_neg fun h => by omega)
    simp only [exec, execDrbgReseedOverdue, haw, Bool.not_true, Bool.false_eq_true, if_false, State.onCip, hfix]
  · have hdrb : s.cip.drbgs.all (fun d => d.stopped && decide (d.lastOut + ms 10 ≤ s.now)) = true := by
      rw [List.all_eq_true]
      intro d hd
      obtain ⟨h1, h2⟩ := hall d hd
      simp [h1, h2]
    generalize hw : FWord.fresh (mkWord 1 0x106 classX 0x10 0) = w
    have hex : exec .drbgStallTimer s = .next (s.chipHandle w) := by
      simp [exec, execDrbgStallTimer, haw, hdrb, hf, ← hw]
    have hch : s.chipHandle w = ((s.recordWord w 3 true false).2.faultEvent w (s.recordWord w 3 true false).1).fenceRegion 0 := by
      subst hw
      rfl
    refine ⟨_, hex, ?_⟩
    rw [hch]
    exact State.fenceRegion_isFenced _ 0 (by decide)
  · have hall : s.cip.drbgs.all (fun d => d.stopped && decide (d.lastOut + ms 10 ≤ s.now)) = false := by
      rw [List.all_eq_false]
      refine ⟨d, hd, ?_⟩
      rcases hor with h | h
      · simp [h]
      · have : ¬ d.lastOut + ms 10 ≤ s.now := by omega
        simp [this]
    simp [exec, execDrbgStallTimer, hall]
  · have hex : exec (.retentionExpiry ns) s
        = .next (s.onCip fun c => { c with index := tabPut c.index ns.val rest, retFirst := tabUpd 0 c.retFirst ns.val (· + 1) }) := by
      simp [exec, execRetentionExpiry, he, hx, haw, hle]
    refine ⟨_, hex, ?_, fun n hn => ?_⟩
    · simp [State.retIndex, State.onCip, tabGetD, tabGet_tabPut_same]
    · simp [State.retIndex, State.onCip, tabGetD, tabGet_tabPut_other _ _ hn]
  · have hnle : ¬ x.minute + 1 + e.retPeriod ≤ s.rclkMin := by omega
    simp [exec, execRetentionExpiry, he, hx, hnle]
  · let s1 := s.onCip fun y => { y with seals := y.seals.filter fun z => z.ord != x.ord }
    let s2 := (s1.event 0x631 0x0A 2 0).answer x.mbx { mkResp 0 0xF 0 with order := x.ord, result := leBytes 8 lba }
    have hex : exec (.sealDigestDone m digest (some lba)) s = .next (s2.dropCmd x.ord) := by
      simp [exec, execSealDigestDone, hx, hc, he, haw, hph, Nat.not_lt.mpr hle, s1, s2]
    have hmb : (s1.event 0x631 0x0A 2 0).mgmt.mbx = s.mgmt.mbx := State.mask_mbx (P := but [.mbx]) (s := s) (by simp [s1]) rfl
    have hans := State.mbx_answer (s := s1.event 0x631 0x0A 2 0) (m := m.val) (op := op) (by rwa [hmb]) (by rw [State.mbx, hmb]; exact hw)
      { mkResp 0 0xF 0 with order := x.ord, result := leBytes 8 lba }
    have hk : (s2.dropCmd x.ord).mask (but [.mbx, .cip, .boot]) = s2.mask (but [.mbx, .cip, .boot]) := by simp
    refine ⟨_, hex, ?_, ?_, ?_⟩
    · rw [State.mbx, State.mask_mbx hk rfl]
      simp only [s2, hm]
      exact hans
    · have hcip : s2.cip = s1.cip := State.mask_cip (P := but [.cip]) (by simp [s2]) rfl
      rw [State.mask_cip hk rfl, hcip]
      intro z hz
      simpa [s1, State.onCip] using (List.mem_filter.mp hz).2
    · have hboot : s2.boot = s.boot := State.mask_boot (P := but [.boot]) (by simp [s2, s1]) rfl
      rw [State.mask_boot hk rfl, hboot]
  · let s1 := s.onCip fun y => { y with seals := y.seals.filter fun z => z.ord != x.ord }
    let sg := Config.deviceSign s.boot.sealSeq (s.sealBody x e digest)
    let r : Resp := { mkResp 0 0 0 with
      order := x.ord, result := leBytes 144 (s.sealBody x e digest) ++ leBytes 48 sg.1.toNat ++ leBytes 48 sg.2.toNat }
    let s2 := (s1.onBoot fun b => { b with sealSeq := b.sealSeq + 1 }).answer x.mbx r
    have hex : exec (.sealDigestDone m digest none) s = .next (s2.dropCmd x.ord) := by
      simp [exec, execSealDigestDone, hx, hc, he, haw, hph, Nat.not_lt.mpr hle, s1, s2, r, sg]
    have hans := State.mbx_answer (s := s1.onBoot fun b => { b with sealSeq := b.sealSeq + 1 }) (m := m.val) (op := op) hml hw r
    have hk : (s2.dropCmd x.ord).mask (but [.mbx, .cip, .boot]) = s2.mask (but [.mbx, .cip, .boot]) := by simp
    refine ⟨_, hex, ⟨{ r with opcode := op }, ?_, rfl, rfl, ?_, ?_⟩, ?_, ?_⟩
    · rw [State.mbx, State.mask_mbx hk rfl]
      simp only [s2, hm]
      exact hans
    · simp [r]
    · simp [r]
    · rw [State.mask_cip hk rfl]
      intro z hz
      simpa using (List.mem_filter.mp hz).2
    · rw [State.mask_boot hk rfl]
      rfl

end Sys2Proof.Machine
end

section
/-! PROOF. Chapter 19 and Table 5.5: a word is raised, a way of the Translation Cache is mended, and a concentrator takes a word (O46). -/

namespace Sys2Proof.Machine

theorem tabGet_tabPutD {α : Type} [DecidableEq α] {t : Tab α} (h : tabWf t = true) (d v : α) (k j : Nat) :
    tabGetD (tabPutD d t k v) j d = if j = k then v else tabGetD t j d := by
  unfold tabPutD tabGetD
  split
  · next hv =>
    rw [tabGet_tabDel h]
    split
    · exact hv.symm
    · rfl
  · rw [tabGet_tabPut h]
    split <;> rfl

theorem TcLine.sealed_sealed (l : TcLine) : l.sealed.sealed = l.sealed := rfl

theorem TcLine.sealed_blank : TcLine.blank.sealed = TcLine.blank := by decide +kernel

/-- A way after a line was put into it. -/
theorem State.tcWayOf_putLine {s : State} (h : tabWf s.tc.lines = true) (set way : Nat) (l : TcLine) :
    (s.putLine set way l).tcWayOf set way = l.sealed := by
  simp only [State.tcWayOf, State.putLine, State.onTc, tabGet_tabPutD h, if_true]

theorem TcLine.sealed_corrected (l : TcLine) : l.corrected.sealed = l.corrected := by
  unfold TcLine.corrected
  exact TcLine.sealed_sealed _

/-- A single-bit error is corrected in place. -/
theorem State.tcFix_single {s : State} (h : tabWf s.tc.lines = true) (set way : Nat) :
    (s.tcFix set way .single).tcWayOf set way = (s.tcWayOf set way).corrected := by
  have h1 := State.tcWayOf_putLine h set way (s.tcWayOf set way).corrected
  rw [TcLine.sealed_corrected] at h1
  exact h1

/-- Putting a line changes the lines alone. -/
theorem State.putLine_counts (s : State) (set way : Nat) (l : TcLine) :
    (s.putLine set way l).tc.errRebuilt = s.tc.errRebuilt ∧ (s.putLine set way l).tc.errParity = s.tc.errParity := ⟨rfl, rfl⟩

/-- What losing a way without updates of its own puts there: the pinned page's entries again, or nothing. -/
theorem State.tcLose_way {s : State} (h : tabWf s.tc.lines = true) {set way : Nat} (hf : (s.tcWayOf set way).f = false) {p : PoolSlot}
    (hp : s.slotOf ((s.tcWayOf set way).la / 68) = some p) :
    (s.tcLose set way).tcWayOf set way = (if (s.tcWayOf set way).l && (s.tcWayOf set way).v then
        TcLine.sealed { s.tcWayOf set way with
          dirtyMask := 0, entries := (List.range 12).map fun i => tabGetD p.entries ((s.tcWayOf set way).la % 68 * 12 + i) eUnmapped }
      else TcLine.blank)
    ∧ (s.tcLose set way).tc.errRebuilt = s.tc.errRebuilt ∧ (s.tcLose set way).tc.errParity = s.tc.errParity := by
  simp only [State.tcLose, hf, Bool.false_eq_true, if_false, hp]
  split
  · exact ⟨State.tcWayOf_putLine h set way _, State.putLine_counts s set way _⟩
  · exact ⟨(State.tcWayOf_putLine h set way TcLine.blank).trans TcLine.sealed_blank, State.putLine_counts s set way _⟩

@[simp] theorem State.raise_tc (s : State) (unit cls cause addr : Nat) : (s.raise unit cls cause addr).tc = s.tc :=
  State.mask_tc (P := but [.tc]) (by simp) rfl

/-- What rebuilding a dirty way leaves: a valid line whose entries are all to be written back. -/
theorem State.tcRebuild_way {s : State} (h : tabWf s.tc.lines = true) (set way la cause : Nat) :
    (s.tcRebuild set way la cause).tc.errRebuilt = satAdd 0xFFFF s.tc.errRebuilt 1
      ∧ ((s.tcRebuild set way la cause).tcWayOf set way).v = true ∧ ((s.tcRebuild set way la cause).tcWayOf set way).dirtyMask = 0xFFF := by
  let l (m : List MapEntry) : TcLine := { s.tcWayOf set way with la := la, v := true, f := false, entries := m, dirtyMask := 0xFFF }
  have key : ∃ m, (s.tcRebuild set way la cause).tc = { (s.putLine set way (l m)).tc with errRebuilt := satAdd 0xFFFF s.tc.errRebuilt 1 } := by
    simp only [State.tcRebuild]
    split
    · exact ⟨_, State.raise_tc _ _ _ _ _⟩
    · exact ⟨_, rfl⟩
  obtain ⟨m, hm⟩ := key
  have hway : (s.tcRebuild set way la cause).tcWayOf set way = (l m).sealed := by
    have := State.tcWayOf_putLine h set way (l m)
    rw [State.tcWayOf, hm]
    exact this
  rw [hway, hm]
  exact ⟨rfl, rfl, rfl⟩

/-- The place of a way in the data array, from a word's ADDRESS. -/
theorem tc_place {a set way k : Nat} (hway : way < 16) (hk : k < 8) (h : a = 8 * (16 * set + way) + k) : a / 8 / 16 = set ∧ a / 8 % 16 = way := by
  omega

/-- What a word of a lookup cell does, its ADDRESS naming the way. -/
theorem exec_faultRaise_lookup {s : State} (haw : s.awake = true) {w : BitVec 64} {set way : Nat} (hset : set < 65536) (hway : way < 16)
    (hl : wLevel w = 0) (hu : wUnit w = 0x118 + set % 4) :
    (∀ k < 8, wAddr w % 2 ^ 32 = 8 * (16 * set + way) + k →
      (wCause w = 1 → exec (.faultRaise w) s = .next ((s.raiseWord w).tcFix set way .single)) ∧
      (wCause w = 2 → exec (.faultRaise w) s = .next ((s.raiseWord w).tcFix set way .double))) ∧
    (wAddr w % 2 ^ 32 = 16 * set + way → wCause w = 3 → exec (.faultRaise w) s = .next ((s.raiseWord w).tcFix set way .parity)) := by
  have hex : exec (.faultRaise w) s = .next ((s.raiseWord w).tcFault w) := by
    have hr : 0x118 ≤ wUnit w ∧ wUnit w ≤ 0x11B := by omega
    simp [exec, execFaultRaise, haw, hl, hr]
  have hu' : ¬ (65536 ≤ set ∨ set % 4 + 0x118 ≠ wUnit w) := by omega
  rw [hex]
  unfold State.tcFault
  generalize wAddr w % 2 ^ 32 = a
  constructor
  · intro k hk ha
    obtain ⟨hs, hw⟩ := tc_place hway hk ha
    constructor <;> intro hc <;> simp [hc, hs, hw, hu']
  · intro ha hc
    have hs : a / 16 = set := by omega
    have hw : a % 16 = way := by omega
    simp [hc, hs, hw, hu']

/-- The concentrator that takes a word: the word waits in its queue, or goes into handling. -/
theorem State.takeWord_eq {s : State} {c n : Nat} {w : FWord} (hq : (s.conc c).queue = [])
    (hsel : ((s.offers c).find? fun e => decide ((s.conc c).last < e.1)) = some (n, w)
      ∨ ((∀ e ∈ s.offers c, e.1 ≤ (s.conc c).last) ∧ (s.offers c).head? = some (n, w))) (hn : firstConc n = some c) :
    s.takeWord c = s.onFlt fun f =>
      { f with cells := tabDel f.cells n, concs := tabPut f.concs c { s.conc c with queue := [s.escalate w], last := n } } := by
  rcases hsel with h | ⟨hle, hh⟩
  · simp [State.takeWord, hq, h, hn]
  · have hnone : ((s.offers c).find? fun e => decide ((s.conc c).last < e.1)) = none := by
      rw [List.find?_eq_none]
      intro e he
      have := hle e he
      simpa using this
    simp [State.takeWord, hq, hnone, hh, hn]

theorem State.conc_onFlt_put (s : State) (g : FltSt → FltSt) (c : Nat) (k : Conc) (h : (g s.flt).concs = tabPut s.flt.concs c k) :
    (s.onFlt g).conc c = k := by
  simp [State.conc, State.onFlt, h, tabGetD, tabGet_tabPut_same]

/-- Raising a word changes the fault registers as `raiseWord` says, unless a way of the Translation Cache is to be mended. -/
theorem exec_faultRaise_flt {s : State} {w : BitVec 64} (haw : s.awake = true)
    (hn : ¬ (wLevel w = 0 ∧ 0x118 ≤ wUnit w ∧ wUnit w ≤ 0x11B ∧ 2 ≤ wCause w ∧ wCause w ≤ 3)) :
    ∃ t, exec (.faultRaise w) s = .next t ∧ t.flt = (s.raiseWord w).flt := by
  by_cases hlk : wLevel w = 0 ∧ 0x118 ≤ wUnit w ∧ wUnit w ≤ 0x11B
  · have hex : exec (.faultRaise w) s = .next ((s.raiseWord w).tcFault w) := by
      simp [exec, execFaultRaise, haw, hlk]
    refine ⟨_, hex, ?_⟩
    have h23 : wCause w ≠ 2 ∧ wCause w ≠ 3 := by omega
    unfold State.tcFault
    simp only [if_neg h23.2]
    split
    · rfl
    · split
      · rfl
      · next h => exact absurd h h23.1
      · next h => exact absurd h h23.2
      · rfl
  · have hex : exec (.faultRaise w) s = .next ((s.raiseWord w).counterLost w) := by
      have hb : (s.awake && wLevel w == 0 && decide (0x118 ≤ wUnit w ∧ wUnit w ≤ 0x11B)) = false := by
        rw [haw, Bool.true_and, Bool.eq_false_iff]
        intro h
        exact hlk (by simpa using h)
      simp only [exec, execFaultRaise, hb]
      simp [haw]
    exact ⟨_, hex, State.flt_of_mask (by simp)⟩

/-- Settles O46: a raised word changes its cell alone; each error of a way is mended as Table 5.5 says; the taken word leaves its cell. -/
theorem faultRise : Obligations.FaultRise := by
  intro s haw
  have htc (w : BitVec 64) : (s.raiseWord w).tc = s.tc := State.mask_tc (P := but [.tc]) (by simp) rfl
  have hmap (w : BitVec 64) : (s.raiseWord w).map = s.map := State.mask_map (P := but [.map]) (by simp) rfl
  have hline (w : BitVec 64) (set way : Nat) : (s.raiseWord w).tcWayOf set way = s.tcWayOf set way := by rw [State.tcWayOf, htc]; rfl
  have hslot (w : BitVec 64) (n : Nat) : (s.raiseWord w).slotOf n = s.slotOf n := by
    rw [State.slotOf, State.gmd, hmap]
    rfl
  refine ⟨fun w hu hc hcl hown hnl => ⟨fun hC hcnt => ?_, fun hC hfree => ⟨fun a ha => ?_, fun hno hh => ?_⟩, fun b hl hunit hcls hcause hwf => ?_⟩,
    fun w set way hset hway hwf hl hunit => ⟨fun k ha => ⟨fun hc => ?_, fun hc hq hf p hp => ?_, fun hc hq => ?_⟩, fun ha hc hq hf p hp => ?_⟩,
    fun c hconc => ⟨fun hh hq hl => ?_, fun hh hq => ?_, fun n w a hsel hfirst hh hq ha hwf hlt => ?_⟩⟩
  · obtain ⟨t, hex, hflt⟩ := exec_faultRaise_flt haw hnl
    refine ⟨t, hex, hflt.trans ?_⟩
    have hm : s.bpd.mainReset = false ∧ s.flt.stopped = false := by simpa [State.awake] using haw
    have hraise : s.raiseWord w = s.onFlt fun f => { f with counts := modNth f.counts 0 (satAdd (2 ^ 64 - 1) · 1) } := by
      simp [State.raiseWord, hu, hc, hown, hm, hC, show ¬ 4 < classC by decide]
    rw [hraise]
    rfl
  · obtain ⟨t, hex, hflt⟩ := exec_faultRaise_flt haw hnl
    have hr : s.Raisable w := ⟨haw, hu, hc, hcl, hown, hC, hfree⟩
    refine ⟨t, hex, hflt.trans ?_⟩
    rw [hr.raiseWord_eq, ha]
    rfl
  · obtain ⟨t, hex, hflt⟩ := exec_faultRaise_flt haw hnl
    have hr : s.Raisable w := ⟨haw, hu, hc, hcl, hown, hC, hfree⟩
    refine ⟨t, hex, hflt.trans ?_⟩
    rw [hr.raiseWord_fresh hno hh]
    rfl
  · have hpmc : (s.raiseWord w).pmc = s.pmc := State.mask_pmc (P := but [.pmc]) (by simp) rfl
    have hbl := b.isLt
    have hex : exec (.faultRaise w) s = .next ((s.raiseWord w).counterLost w) := by
      have : ¬ (0x118 ≤ wUnit w ∧ wUnit w ≤ 0x11B) := by omega
      simp [exec, execFaultRaise, haw, this]
    have hcl : (s.raiseWord w).counterLost w = (s.raiseWord w).onPmc fun p =>
        { p with vals := tabDel p.vals (512 * b + wAddr w % 512), ovf := tabPut p.ovf (512 * b + wAddr w % 512) true } := by
      have h1 : 0x420 ≤ wUnit w ∧ wUnit w ≤ 0x42F := by omega
      have h2 : wUnit w - 0x420 = b := by omega
      simp only [State.counterLost, hl, h1, hcls, hcause, h2, and_self, if_true]
    refine ⟨_, hex, ?_, ?_, ?_⟩ <;> rw [hcl, State.onPmc, hpmc]
    · simp [tabGetD, tabGet_tabDel hwf]
    · simp [tabGetD, tabGet_tabPut_same]
  · obtain ⟨h1, -⟩ := ((exec_faultRaise_lookup haw hset hway hl hunit).1 k k.isLt ha)
    refine ⟨_, h1 hc, ?_, ?_, hmap w⟩
    · show satAdd _ (s.raiseWord w).tc.errCorrected 1 = _
      rw [htc]
    · rw [State.tcFix_single (by rwa [htc]), hline]
  · obtain ⟨-, h1⟩ := ((exec_faultRaise_lookup haw hset hway hl hunit).1 k k.isLt ha)
    have hnamed : ((s.raiseWord w).tc.wb.find? fun x => tcSet x.la == set && x.way == way) = none := by
      rw [htc, List.find?_eq_none]
      simpa using hq
    have hlose := State.tcLose_way (s := s.raiseWord w) (set := set) (way := way) (p := p) (by rwa [htc]) (by rwa [hline]) (by rwa [hline, hslot])
    rw [hline] at hlose
    refine ⟨_, h1 hc, ?_⟩
    simp only [State.tcFix, hnamed, Option.map_none]
    exact ⟨hlose.1, hlose.2.1.trans (by rw [htc])⟩
  · obtain ⟨-, h1⟩ := ((exec_faultRaise_lookup haw hset hway hl hunit).1 k k.isLt ha)
    obtain ⟨x, hx⟩ : ∃ x, ((s.raiseWord w).tc.wb.find? fun x => tcSet x.la == set && x.way == way) = some x := by
      rw [htc, ← Option.isSome_iff_exists, List.find?_isSome]
      simpa using hq
    obtain ⟨h2, h3, h4⟩ := State.tcRebuild_way (s := s.raiseWord w) (by rwa [htc]) set way x.la 2
    refine ⟨_, h1 hc, ?_⟩
    simp only [State.tcFix, hx, Option.map_some]
    exact ⟨h2.trans (by rw [htc]), h3, h4⟩
  · have h1 := (exec_faultRaise_lookup haw hset hway hl hunit).2 ha
    have hnamed : ((s.raiseWord w).tc.wb.find? fun x => tcSet x.la == set && x.way == way) = none := by
      rw [htc, List.find?_eq_none]
      simpa using hq
    let u := (s.raiseWord w).onTc fun t => { t with errParity := satAdd 0xFFFF t.errParity 1 }
    have hu : u.tcWayOf set way = s.tcWayOf set way := hline w set way
    have hlose := State.tcLose_way (s := u) (set := set) (way := way) (p := p) (by simpa [u, State.onTc, htc]) (by rwa [hu]) (by rw [hu, ← hp]; exact hslot w _)
    rw [hu] at hlose
    refine ⟨_, h1 hc, ?_⟩
    simp only [State.tcFix, hnamed, Option.map_none]
    refine ⟨hlose.1, hlose.2.2.trans ?_⟩
    show satAdd 0xFFFF (s.raiseWord w).tc.errParity 1 = _
    rw [htc]
  · have hp : s.promote c = s := by simp [State.promote, hh, hq]
    have ht : s.takeWord c = s := by simp [State.takeWord, hl, hq]
    simp [exec, execFaultConcentratorTake, haw, hconc, hp, ht]
  · obtain ⟨y, hy⟩ := Option.isSome_iff_exists.mp hh
    have hp : s.promote c = s := by simp [State.promote, hy]
    have ht : s.takeWord c = s := by simp [State.takeWord, hq]
    simp [exec, execFaultConcentratorTake, haw, hconc, hp, ht]
  · have hp : s.promote c = s := by simp [State.promote, hh, hq]
    have ht := State.takeWord_eq (w := w) hq hsel hfirst
    have hex : exec (.faultConcentratorTake c) s = .next ((s.takeWord c).promote c) := by
      simp [exec, execFaultConcentratorTake, haw, hconc, hp]
    generalize hu : s.takeWord c = u at ht hex
    have hk : u.conc c = { s.conc c with queue := [s.escalate w], last := n } := by
      rw [ht]
      exact State.conc_onFlt_put s _ c _ rfl
    have hcells : tabGet u.flt.cells n = none := by
      rw [ht]
      exact (tabGet_tabDel hwf n n).trans (if_pos rfl)
    refine ⟨_, hex, ?_⟩
    by_cases hhere : handlesHere c (s.escalate w) = true
    · have hnx : ¬ (c = 12288 ∧ classX ≤ wClass (s.escalate w).word) := fun h => absurd h.2 (Nat.not_le.mpr hlt)
      have hpr : u.promote c = u.onFlt fun f =>
          { f with concs := tabPut f.concs c { s.conc c with queue := [], handling := some (s.escalate w), last := n } } := by
        simp [State.promote, hk, hh, hhere, hnx]
      rw [hpr, if_pos hhere]
      refine ⟨hcells, ?_⟩
      rw [State.conc_onFlt_put u _ c _ rfl, hq]
    · have hpr : u.promote c = u := by simp [State.promote, hk, hh, hhere]
      rw [hpr, if_neg hhere]
      exact ⟨hcells, hk⟩

end Sys2Proof.Machine
end

section
/-! PROOF. Chapter 19: the end of a handling, acknowledgements, held words and the F stop (O47). Retiring a unit may raise further words,
but it closes no record and leaves every concentrator's queue. -/

namespace Sys2Proof.Machine

/-- The open records, the stop and the queues of the concentrators are those of `f`. -/
def State.FltKept (f : FltSt) (s : State) : Prop :=
  s.flt.opens = f.opens ∧ s.flt.stopped = f.stopped ∧ ∀ c, (s.conc c).queue = (tabGetD f.concs c ⟨[], none, 0⟩).queue

theorem State.FltKept.refl (s : State) : s.FltKept s.flt := ⟨rfl, rfl, fun _ => rfl⟩

theorem State.FltKept.of_mask {f : FltSt} {s t : State} (h : t.mask (but [.flt]) = s.mask (but [.flt])) (hk : s.FltKept f) : t.FltKept f := by
  have h1 := State.flt_of_mask h
  unfold State.FltKept State.conc at *
  rwa [h1]

theorem State.FltKept.onFlt {f : FltSt} {s : State} (hk : s.FltKept f) {g : FltSt → FltSt}
    (hg : ∀ x, (g x).opens = x.opens ∧ (g x).stopped = x.stopped ∧ (g x).concs = x.concs) : (s.onFlt g).FltKept f := by
  obtain ⟨h1, h2, h3⟩ := hg s.flt
  unfold State.FltKept State.conc at *
  simpa only [State.onFlt, h1, h2, h3] using hk

theorem State.FltKept.foldl {α : Type} {f : FltSt} {g : State → α → State} (hg : ∀ s a, s.FltKept f → (g s a).FltKept f) (l : List α)
    {s : State} (hk : s.FltKept f) : (l.foldl g s).FltKept f := by
  induction l generalizing s with
  | nil => exact hk
  | cons a l ih => exact ih (hg s a hk)

theorem tabGetD_tabMod {α β : Type} (t : Tab α) (k : Nat) (g : α → α) (j : Nat) (d : α) (p : α → β) (hp : ∀ x, p (g x) = p x) :
    p (tabGetD (tabMod t k g) j d) = p (tabGetD t j d) := by
  rw [tabGetD, tabGet_tabMod, tabGetD]
  split
  · cases tabGet t j with
    | none => rfl
    | some x => exact hp x
  · rfl

/-- Raising a word closes no record and lengthens no queue. -/
theorem State.FltKept.raise {f : FltSt} {s : State} (hk : s.FltKept f) (unit cls cause addr : Nat) : (s.raise unit cls cause addr).FltKept f := by
  have hmerge (w : BitVec 64) (c : Node) :
      (s.onFlt fun f => { f with concs := tabMod f.concs c fun k => { k with handling := k.handling.map (mergeWord · w) } }).FltKept f :=
    ⟨hk.1, hk.2.1, fun d => (tabGetD_tabMod s.flt.concs c (fun k => { k with handling := k.handling.map (mergeWord · w) }) d _ Conc.queue fun _ => rfl).trans
      (hk.2.2 d)⟩
  have hput (t : Tab FWord) : (s.onFlt fun f => { f with cells := t }).FltKept f := hk.onFlt fun _ => ⟨rfl, rfl, rfl⟩
  unfold State.raise State.raiseWord
  dsimp only
  repeat' split
  · exact hk
  · exact hk.of_mask (State.onBpd_all_mask rfl rfl _ _)
  · exact hk
  · exact hk.onFlt fun _ => ⟨rfl, rfl, rfl⟩
  · exact hk.onFlt fun _ => ⟨rfl, rfl, rfl⟩
  · exact hput _
  · exact hmerge _ _
  · exact hput _

theorem State.FltKept.poisonPage {f : FltSt} {s : State} (hk : s.FltKept f) (mpn : Nat) : (s.poisonPage mpn).FltKept f := by
  unfold State.poisonPage
  dsimp only
  refine State.FltKept.raise (State.FltKept.of_mask ?_ hk) _ _ _ _
  simp

/-- The second of a pair, named by a match. -/
theorem State.FltKept.of_pair {α : Type} {f : FltSt} {r : α × State} {x : α} {t : State} (h : r = (x, t)) (hk : r.2.FltKept f) : t.FltKept f := by
  subst h
  exact hk

theorem State.FltKept.deliver {f : FltSt} (fuel : Nat) {s : State} (hk : s.FltKept f) (job : Nat) (res : Option Payload) :
    (State.deliver fuel s job res).FltKept f := by
  induction fuel generalizing s job res with
  | zero => exact hk
  | succ n ih =>
    unfold State.deliver
    dsimp only
    repeat' first
      | with_reducible assumption | with_reducible apply State.FltKept.poisonPage | with_reducible apply ih
      | refine State.FltKept.of_pair (by assumption) ?_ | split
    all_goals exact hk.of_mask (by simp)

theorem State.FltKept.reconstruct {f : FltSt} {s : State} (hk : s.FltKept f) (job : Nat) : (s.reconstruct job).FltKept f := by
  unfold State.reconstruct
  dsimp only
  repeat' first
    | with_reducible assumption | with_reducible apply State.FltKept.deliver | refine State.FltKept.of_pair (by assumption) ?_ | split
  all_goals exact hk.of_mask (by simp)

theorem State.FltKept.endOp {f : FltSt} {s : State} (hk : s.FltKept f) (b : Nat) (op : SheetOp) : (s.endOp b op).FltKept f := by
  unfold State.endOp
  dsimp only
  split
  · exact hk.reconstruct _
  all_goals
    repeat' split
    all_goals exact hk.of_mask (by simp)

theorem State.FltKept.membersOff {f : FltSt} {s : State} (hk : s.FltKept f) (b : Nat) : (s.membersOff b).FltKept f :=
  hk.of_mask (by simp)

theorem State.FltKept.sjOff {f : FltSt} {s : State} (hk : s.FltKept f) (b : Nat) : (s.sjOff b).FltKept f :=
  hk.of_mask (by simp)

theorem State.FltKept.checkSpace {f : FltSt} {s : State} (hk : s.FltKept f) : s.checkSpace.FltKept f :=
  hk.of_mask (by simp)

theorem State.FltKept.endOps {f : FltSt} {s : State} (hk : s.FltKept f) (b : Nat) : (s.endOps b).FltKept f := by
  unfold State.endOps
  exact (State.FltKept.foldl (fun s a h => h.endOp b _) _ (hk.of_mask (by simp))).membersOff b

theorem State.FltKept.portGone {f : FltSt} {s : State} (hk : s.FltKept f) (b : Nat) : (s.portGone b).FltKept f := by
  unfold State.portGone
  dsimp only
  repeat' split
  all_goals exact (((hk.of_mask (by simp)).endOps b).sjOff b).checkSpace

theorem State.FltKept.retirePort {f : FltSt} {s : State} (hk : s.FltKept f) (b : Nat) : (s.retirePort b).FltKept f := by
  unfold State.retirePort
  split
  · exact hk
  · exact (hk.of_mask (by simp)).portGone b

theorem State.FltKept.withdraw {f : FltSt} {s : State} (hk : s.FltKept f) (u : Nat) : (s.withdraw u).FltKept f := by
  have h1 := hk.onFlt (g := fun f => { f with withdrawn := f.withdrawn ++ [u] }) fun _ => ⟨rfl, rfl, rfl⟩
  unfold State.withdraw
  dsimp only
  repeat' split
  · exact hk
  · exact State.FltKept.foldl (fun s i h => h.retirePort _) _ h1
  · exact h1
  · exact h1.of_mask (by simp)
  · exact h1

theorem State.FltKept.retireRule {f : FltSt} {s : State} (hk : s.FltKept f) (w : BitVec 64) : (s.retireRule w).FltKept f := by
  have htimes (t : Tab (List Nat)) : (s.onFlt fun f => { f with withdrawTimes := t }).FltKept f := hk.onFlt fun _ => ⟨rfl, rfl, rfl⟩
  have hpages (t : Tab Nat) : (s.onFlt fun f => { f with dramPages := t }).FltKept f := hk.onFlt fun _ => ⟨rfl, rfl, rfl⟩
  unfold State.retireRule
  dsimp only
  repeat' split
  · exact hk
  · exact hk.withdraw _
  · exact htimes _
  · exact (htimes _).withdraw _
  · exact (hpages _).of_mask (State.event_mask rfl rfl _ _ _ _ _)
  · exact hpages _
  · exact hk

/-- A concentrator that handles nothing and has nothing queued has nothing to put into handling. -/
theorem State.promote_idle {s : State} {c : Node} (hq : (s.conc c).queue = []) : s.promote c = s := by
  unfold State.promote
  dsimp only
  split
  · next h => rw [hq] at h; cases h
  · rfl

/-- A concentrator whose handling has ended. -/
def State.handled (s : State) (c : Node) : State :=
  s.onFlt fun f => { f with concs := tabMod f.concs c fun k => { k with handling := none } }

/-- Changing a concentrator that is there. -/
theorem State.conc_tabMod {s : State} {c : Node} (h : (tabGet s.flt.concs c).isSome = true) (g : Conc → Conc) :
    (s.onFlt fun f => { f with concs := tabMod f.concs c g }).conc c = g (s.conc c) := by
  obtain ⟨k, hk⟩ := Option.isSome_iff_exists.mp h
  simp [State.conc, State.onFlt, tabGetD, tabGet_tabMod, hk]

theorem State.conc_present {s : State} {c : Node} {w : FWord} (h : (s.conc c).handling = some w) : (tabGet s.flt.concs c).isSome = true := by
  rw [State.conc, tabGetD] at h
  cases hc : tabGet s.flt.concs c with
  | none => rw [hc] at h; cases h
  | some k => rfl

theorem State.conc_handled {s : State} {c : Node} {w : FWord} (h : (s.conc c).handling = some w) :
    (s.handled c).conc c = { s.conc c with handling := none } :=
  State.conc_tabMod (State.conc_present h) _

theorem wLevel_mkWord (l u c k a : Nat) : wLevel (mkWord l u c k a) = l % 4 := by
  simp only [wLevel, mkWord, bits, BitVec.toNat_ofNat]
  omega

theorem wUnit_mkWord (l u c k a : Nat) : wUnit (mkWord l u c k a) = u % 4096 := by
  simp only [wUnit, mkWord, bits, BitVec.toNat_ofNat]
  omega

theorem wClass_mkWord (l u c k a : Nat) : wClass (mkWord l u c k a) = c % 8 := by
  simp only [wClass, mkWord, bits, BitVec.toNat_ofNat]
  omega

theorem wCause_mkWord (l u c k a : Nat) : wCause (mkWord l u c k a) = k % 32 := by
  simp only [wCause, mkWord, bits, BitVec.toNat_ofNat]
  omega

theorem wCause_lt (w : BitVec 64) : wCause w < 32 := by
  unfold wCause bits
  omega

/-- Whether a unit is known does not depend on the word's class, cause and address. -/
theorem unitKnown_mkWord (l u c k a a' : Nat) : unitKnown (mkWord l u c k a) = unitKnown (mkWord l u c k a') := by
  simp only [unitKnown, wLevel_mkWord, wUnit_mkWord]

theorem State.recordWord_fields (s : State) (w : FWord) (level : Nat) (climbed summary : Bool) :
    let t := (s.recordWord w level climbed summary).2
    t.flt.cells = s.flt.cells ∧ t.flt.concs = s.flt.concs ∧ t.flt.opens = s.flt.opens ∧ t.flt.fenced = s.flt.fenced
      ∧ t.flt.stopped = s.flt.stopped ∧ t.flt.bpdIf = s.flt.bpdIf ∧ t.flt.seqNext = seqAfter s.flt.seqNext
      ∧ t.flt.counts = if summary then s.flt.counts else modNth s.flt.counts (wClass w.word) (satAdd (2 ^ 64 - 1) · 1) := by
  simp only [State.recordWord, State.onFlt]
  split <;> exact ⟨rfl, rfl, rfl, rfl, rfl, rfl, rfl, rfl⟩

theorem mem_of_tabGet {α : Type} {t : Tab α} {k : Nat} {v : α} (h : tabGet t k = some v) : (k, v) ∈ t := by
  induction t with
  | nil => cases h
  | cons e t ih =>
    obtain ⟨j, w⟩ := e
    simp only [tabGet] at h
    split at h
    · next hj => subst hj; cases h; exact List.mem_cons_self
    · split at h
      · cases h
      · exact List.mem_cons_of_mem _ (ih h)

theorem tabGet_of_mem {α : Type} {t : Tab α} (hwf : tabWf t = true) {e : Nat × α} (h : e ∈ t) : tabGet t e.1 = some e.2 := by
  rw [tabWf_iff] at hwf
  induction t with
  | nil => cases h
  | cons x t ih =>
    obtain ⟨hlt, hrest⟩ := List.pairwise_cons.mp hwf
    simp only [tabGet]
    rcases List.mem_cons.mp h with rfl | h
    · rw [if_pos rfl]
    · have := hlt e h
      rw [if_neg (by omega), if_neg (by omega), ih hrest h]

theorem tabWf_tabMod {α : Type} {t : Tab α} (hwf : tabWf t = true) (k : Nat) (g : α → α) : tabWf (tabMod t k g) = true := by
  unfold tabMod
  split
  · exact hwf
  · exact tabWf_tabPut hwf _ _

/-- With nothing else in handling, the end of a handling leaves no word in handling. -/
theorem State.handlingOf_handled {s : State} {c : Node} (hwf : tabWf s.flt.concs = true) (h : ∀ e ∈ s.flt.concs, e.1 ≠ c → e.2.handling = none)
    (n : Node) : handlingOf (s.handled c).flt n = none := by
  have hnone : ∀ e ∈ (s.handled c).flt.concs, e.2.handling = none := by
    intro e he
    have h1 := tabGet_of_mem (tabWf_tabMod hwf c _) he
    rw [tabGet_tabMod] at h1
    split at h1
    · obtain ⟨k, -, hk⟩ := Option.map_eq_some_iff.mp h1
      rw [← hk]
    · next hne => exact h e (mem_of_tabGet h1) (Ne.symm hne)
  rw [handlingOf, Option.map_eq_none_iff, List.find?_eq_none]
  intro e he
  simp [hnone e he]

/-- A held word of class C, T or U is recorded under the next FAULT_SEQ; the Bay Power Die and the cells are as before. -/
theorem State.takeHeldWord_eq {s : State} {w : FWord} (hst : s.flt.stopped = false) (hw : wClass w.word < classX) :
    (s.takeHeldWord w).flt.stopped = false ∧ (s.takeHeldWord w).flt.seqNext = seqAfter s.flt.seqNext ∧ (s.takeHeldWord w).flt.cells = s.flt.cells
      ∧ (s.takeHeldWord w).flt.bpdIf = s.flt.bpdIf ∧ (s.takeHeldWord w).bpd = s.bpd := by
  obtain ⟨hc, -, -, -, hs, hb, hq, -⟩ := State.recordWord_fields s w 3 true false
  have hev (u : State) (n : Nat) : (u.faultEvent w n).flt = u.flt := State.flt_of_mask (by simp)
  have hbpd (u : State) (n : Nat) : (u.faultEvent w n).bpd = u.bpd := State.bpd_of_mask (by simp)
  have hrec : (s.recordWord w 3 true false).2.bpd = s.bpd := rfl
  have hnx : ¬ classX ≤ wClass w.word := by omega
  unfold State.takeHeldWord
  simp only [hst, Bool.false_eq_true, if_false, hnx]
  split
  · exact ⟨hs.trans hst, hq, hc, hb, hrec⟩
  · split
    · simp only [State.onFlt, hev, hbpd]
      exact ⟨hs.trans hst, hq, hc, hb, hrec⟩
    · rw [hev, hbpd]
      exact ⟨hs.trans hst, hq, hc, hb, hrec⟩

theorem State.foldl_takeHeldWord (l : List FWord) {s : State} (hst : s.flt.stopped = false) (hl : ∀ w ∈ l, wClass w.word < classX) :
    let t := l.foldl State.takeHeldWord s
    t.flt.stopped = false ∧ t.flt.seqNext = seqAfter^[l.length] s.flt.seqNext ∧ t.flt.cells = s.flt.cells ∧ t.flt.bpdIf = s.flt.bpdIf
      ∧ t.bpd = s.bpd := by
  induction l generalizing s with
  | nil => exact ⟨hst, rfl, rfl, rfl, rfl⟩
  | cons w l ih =>
    obtain ⟨h1, h2, h3, h4, h5⟩ := State.takeHeldWord_eq hst (hl w List.mem_cons_self)
    obtain ⟨i1, i2, i3, i4, i5⟩ := ih h1 fun v hv => hl v (List.mem_cons_of_mem w hv)
    exact ⟨i1, i2.trans (by rw [h2]; rfl), i3.trans h3, i4.trans h4, i5.trans h5⟩

theorem node_of_block {b : Nat} (hb : b < 4096) : (4096 + b) / 4096 = 1 ∧ (4096 + b) % 4096 = b := by
  omega

/-- Settles O47: each end of a handling by its class; a further word raised by a retirement closes no record and lengthens no queue. -/
theorem faultEnds : Obligations.FaultEnds := by
  intro s
  refine ⟨fun c w hh hq hhere haw => ⟨fun hT hcnt => ?_, fun b hcb hb hT hu hcause hne hf hcell hothers hwf => ?_, fun hU h2 => ?_, fun hU hc => ?_⟩,
    fun c b hh => ?_, fun haw q => ?_, fun haw hheld => ?_, fun hst hstuck hres => ⟨fun hlt => ?_, fun hle => ?_⟩, fun hor => ?_⟩
  · have hcl : wClass w.word ≤ classT := hT.le
    let r := (s.handled c).recordWord w (c / 4096) false false
    let t := r.2.onFlt fun f => { f with counts := modNth (modNth f.counts classT (· - 1)) classC (satAdd (2 ^ 64 - 1) · 1) }
    obtain ⟨-, hconcs, hopens, -, -, -, hseq, hcounts⟩ := State.recordWord_fields (s.handled c) w (c / 4096) false false
    have hk : t.conc c = { s.conc c with handling := none } := by
      rw [← State.conc_handled hh, State.conc, State.conc, ← hconcs]
      rfl
    have hex : exec (.faultHandlingEnd c true) s = .next (t.promote c) := by
      simp only [exec, execFaultHandlingEnd, hh, haw, hhere, hcl]
      rfl
    rw [State.promote_idle (by rw [hk]; exact hq)] at hex
    refine ⟨t, hex, by rw [hk], hseq, ?_, hopens⟩
    have htc : t.flt.counts = modNth (modNth (modNth s.flt.counts classT (satAdd (2 ^ 64 - 1) · 1)) classT (· - 1)) classC (satAdd (2 ^ 64 - 1) · 1) := by
      show modNth (modNth (State.recordWord _ _ _ _ _).2.flt.counts _ _) _ _ = _
      rw [hcounts, hT]
      rfl
    rw [htc]
    have hlen : classC < (modNth (modNth s.flt.counts classT (satAdd (2 ^ 64 - 1) · 1)) classT (· - 1)).length := by
      rw [modNth_length, modNth_length]
      exact hcnt
    have hT0 : classT ≠ 0 := by decide
    rw [nth_modNth_of_lt 0 _ 0 hlen, if_pos (by decide), nth_modNth _ _ _ _ _ (fun h => absurd h hT0), if_neg hT0,
      nth_modNth _ _ _ _ _ (fun h => absurd h hT0), if_neg hT0]
  · have hcl : wClass w.word ≤ classT := hT.le
    obtain ⟨hdiv, hmod⟩ : c / 4096 = 1 ∧ c % 4096 = b := hcb ▸ node_of_block hb
    let u := ((s.handled c).recordWord w 1 false false).2
    let m := mkWord 1 b classU (wCause w.word) (wAddr w.word)
    obtain ⟨hcells, hconcs, -, hfen, hstop, -, -, -⟩ := State.recordWord_fields (s.handled c) w 1 false false
    have hex : exec (.faultHandlingEnd c false) s = .next ((u.raiseWord m).promote c) := by
      simp [exec, execFaultHandlingEnd, State.handled, hh, haw, hhere, hcl, hdiv, hmod, u, m]
    have hnode : wNode m = c := by
      rw [wNode, wLevel_mkWord, wUnit_mkWord, Nat.mod_eq_of_lt hb, hcb]
    have hcz : wCause m = wCause w.word := by
      rw [wCause_mkWord, Nat.mod_eq_of_lt (wCause_lt w.word)]
    have hr : u.Raisable m := by
      refine ⟨?_, ?_, by rwa [hcz], by rw [wClass_mkWord]; decide, ?_, by rw [wClass_mkWord]; decide, fun r _ => ?_⟩
      · exact (congrArg (fun x => !s.bpd.mainReset && !x) hstop).trans haw
      · rw [unitKnown_mkWord 1 b classU (wCause w.word) (wAddr w.word) 0]
        exact hu
      · have : ¬ b % 4096 = 0x40F := by rwa [Nat.mod_eq_of_lt hb]
        simp [fromBpdUnit, m, wLevel_mkWord, wUnit_mkWord, this]
      · have : u.flt.fenced = 0 := hfen.trans hf
        simp [FltSt.isFenced, this]
    have hraise : u.raiseWord m = u.onFlt fun f => { f with cells := tabPut f.cells c (FWord.fresh m) } := by
      refine (hr.raiseWord_fresh ?_ ?_).trans (by rw [hnode])
      · rw [hnode]
        exact (congrArg (fun t => tabGet t c) hcells).trans hcell
      · have h1 := State.handlingOf_handled hwf hothers c
        rw [hnode, handlingOf, hconcs]
        exact h1
    have hk : (u.raiseWord m).conc c = { s.conc c with handling := none } := by
      rw [← State.conc_handled hh, hraise]
      show tabGetD u.flt.concs c _ = _
      rw [hconcs]
      rfl
    rw [State.promote_idle (by rw [hk]; exact hq)] at hex
    refine ⟨_, hex, by rw [hk], ?_⟩
    rw [hraise]
    exact tabGet_tabPut_same _ _ _
  · have hcl : ¬ wClass w.word ≤ classT := by rw [hU]; decide
    let r := (s.handled c).recordWord w (c / 4096) (c == 12288) false
    obtain ⟨-, hconcs, hopens, -, hstop, -, -, -⟩ := State.recordWord_fields (s.handled c) w (c / 4096) (c == 12288) false
    obtain ⟨u, hex, hk⟩ : ∃ u : State, exec (.faultHandlingEnd c true) s = .next ((u.retireRule w.word).promote c) ∧ u.FltKept { s.flt with
        opens := if causeM (wCause w.word) then s.flt.opens ++ [⟨wUnit w.word, s.flt.seqNext⟩] else s.flt.opens } := by
      let v := r.2.faultEvent w r.1
      have hv : v.FltKept s.flt := by
        refine State.FltKept.of_mask (s := r.2) (by simp [v]) ⟨hopens, hstop, fun d => ?_⟩
        rw [State.conc, hconcs]
        exact tabGetD_tabMod s.flt.concs c (fun k => { k with handling := none }) d _ Conc.queue fun _ => rfl
      let s2 := if causeM (wCause w.word) then v.onFlt fun f => { f with opens := f.opens ++ [⟨wUnit w.word, r.1⟩] } else v
      let s3 := if wCause w.word = 0x14 then s2.onFlt fun f => { f with coreResets := f.coreResets ++ [s.now] } else s2
      have h2k : s2.FltKept { s.flt with
          opens := if causeM (wCause w.word) then s.flt.opens ++ [⟨wUnit w.word, s.flt.seqNext⟩] else s.flt.opens } := by
        by_cases hm : causeM (wCause w.word) = true
        · simp only [s2, hm, if_true]
          exact ⟨congrArg (fun l => l ++ [OpenRec.mk (wUnit w.word) s.flt.seqNext]) hv.1, hv.2⟩
        · simp only [s2, hm, Bool.false_eq_true, if_false]
          exact hv
      refine ⟨s3, ?_, ?_⟩
      · simp [exec, execFaultHandlingEnd, State.handled, hh, haw, hhere, hcl, h2, s3, s2, v, r]
      · by_cases h14 : wCause w.word = 0x14
        · rw [show s3 = s2.onFlt fun f => { f with coreResets := f.coreResets ++ [s.now] } from if_pos h14]
          exact h2k.onFlt (g := fun f => { f with coreResets := f.coreResets ++ [s.now] }) fun _ => ⟨rfl, rfl, rfl⟩
        · rw [show s3 = s2 from if_neg h14]
          exact h2k
    have hk2 := hk.retireRule w.word
    rw [State.promote_idle ((hk2.2.2 c).trans hq)] at hex
    exact ⟨_, hex, hk2.1⟩
  · have hcl : ¬ wClass w.word ≤ classT := by rw [hU]; decide
    have hex : exec (.faultHandlingEnd c false) s = .next ((s.handled c).onFlt fun f => { f with concs := tabMod f.concs c fun k =>
        { k with queue := { w with word := withKind w.word (32 * classX + wCause w.word) } :: k.queue } }) := by
      simp only [exec, execFaultHandlingEnd, hh, haw, hhere, hcl, hc]
      rfl
    have hk := State.conc_handled hh
    have hk2 : ((s.handled c).onFlt fun f => { f with concs := tabMod f.concs c fun k =>
        { k with queue := { w with word := withKind w.word (32 * classX + wCause w.word) } :: k.queue } }).conc c
        = { s.conc c with handling := none, queue := [{ w with word := withKind w.word (32 * classX + wCause w.word) }] } := by
      have hp : (tabGet (s.handled c).flt.concs c).isSome = true := by
        obtain ⟨k, hk⟩ := Option.isSome_iff_exists.mp (State.conc_present hh)
        simp [State.handled, State.onFlt, tabGet_tabMod, hk]
      rw [State.conc_tabMod hp, hk, hq]
    exact ⟨_, hex, by rw [hk2], by rw [hk2], rfl⟩
  · simp only [exec, execFaultHandlingEnd, hh]
  · have hex : exec (.cwnAckWrite q) s = .next (s.ackRecord q) := by simp [exec, execCwnAckWrite, haw]
    exact ⟨_, hex, rfl⟩
  · let s1 := (s.onFlt fun f => { f with bpdIf := true }).onBpd fun b => { b with held := [], lostWords := false }
    have hst : s1.flt.stopped = false := by
      have h : s.bpd.mainReset = false ∧ s.flt.stopped = false := by simpa [State.awake] using haw
      exact h.2
    obtain ⟨h1, h2, h3, h4, h5⟩ := State.foldl_takeHeldWord s.bpd.held hst hheld
    cases hl : s.bpd.lostWords
    · have hex : exec .bpdWordsDelivered s = .next (s.bpd.held.foldl State.takeHeldWord s1) := by
        simp only [exec, execBpdWordsDelivered, haw, hl]
        rfl
      exact ⟨_, hex, h4, h5, h2, h3⟩
    · obtain ⟨n, hex⟩ : ∃ n, exec .bpdWordsDelivered s = .next ((s.bpd.held.foldl State.takeHeldWord s1).tick.takeHeldWord
          { FWord.fresh (mkWord 0 0x41B classU 0x1F n) with fromBpd := true }) := by
        refine ⟨(s.bpd.held.foldl State.takeHeldWord s1).freeNat.1, ?_⟩
        simp only [exec, execBpdWordsDelivered, haw, hl]
        rfl
      obtain ⟨i1, i2, i3, i4, i5⟩ := State.takeHeldWord_eq (s := (s.bpd.held.foldl State.takeHeldWord s1).tick)
        (w := { FWord.fresh (mkWord 0 0x41B classU 0x1F n) with fromBpd := true }) h1 (by
          show wClass (mkWord 0 0x41B classU 0x1F n) < classX
          rw [wClass_mkWord]
          decide)
      refine ⟨_, hex, i4.trans h4, i5.trans h5, i2.trans ?_, i3.trans h3⟩
      exact (congrArg seqAfter h2).trans (Function.iterate_succ_apply' seqAfter s.bpd.held.length s.flt.seqNext).symm
  · have hnle : ¬ 3 ≤ (s.flt.stopTimes.filter fun x => decide (s.now < x + secs 3600)).length := by omega
    have hex : exec .fStopResetTimer s = .next (s.onClk fun c => { c with base := c.base + ms 100 }).dieReset := by
      simp [exec, execFStopResetTimer, hst, hstuck, hres, hnle]
    exact ⟨_, hex, rfl, rfl, rfl, rfl⟩
  · have hex : exec .fStopResetTimer s = .next ((s.onClk fun c => { c with base := c.base + ms 100 }).onFlt fun f => { f with stuck := true }) := by
      simp [exec, execFStopResetTimer, hst, hstuck, hres, hle]
    exact ⟨_, hex, rfl⟩
  · have hno : (!s.flt.stopped) = true ∨ s.flt.stuck = true ∨ s.bpd.mainReset = true := by
      rcases hor with h | h
      · exact .inl (by rw [h]; rfl)
      · exact .inr (.inl h)
    simp only [exec, execFStopResetTimer, hno, if_true]

end Sys2Proof.Machine
end

section
/-! PROOF. Chapter 17: completions, tags and bus mastering (O48). What a loop over the queues, the vectors or the mailboxes does to each. -/

namespace Sys2Proof.Machine

/-- A loop over 0 to n − 1 whose step at `i` establishes `Q i`, which the other steps keep. -/
theorem foldl_range_each {σ : Type} {f : σ → Nat → σ} {I : σ → Prop} {Q : Nat → σ → Prop} (n : Nat) (hI : ∀ s i, i < n → I s → I (f s i))
    (hdo : ∀ s i, i < n → I s → Q i (f s i)) (hkeep : ∀ s i j, i < n → j ≠ i → I s → Q j s → Q j (f s i)) {s : σ} (h : I s) :
    I ((List.range n).foldl f s) ∧ ∀ i < n, Q i ((List.range n).foldl f s) := by
  induction n with
  | zero => exact ⟨h, fun i hi => absurd hi (Nat.not_lt_zero i)⟩
  | succ n ih =>
    obtain ⟨h1, h2⟩ := ih (fun s i hi => hI s i (by omega)) (fun s i hi => hdo s i (by omega)) (fun s i j hi => hkeep s i j (by omega))
    rw [List.range_succ, List.foldl_append]
    refine ⟨hI _ n (by omega) h1, fun i hi => ?_⟩
    by_cases hin : i = n
    · subst hin
      exact hdo _ i (by omega) h1
    · exact hkeep _ n i (by omega) hin h1 (h2 i (by omega))

theorem tabGet_tabMap {α : Type} (f : Nat → α → α) (t : Tab α) (k : Nat) : tabGet (tabMap f t) k = (tabGet t k).map (f k) := by
  induction t with
  | nil => rfl
  | cons e t ih =>
    obtain ⟨j, v⟩ := e
    show (if j = k then some (f j v) else if k < j then none else tabGet (tabMap f t) k) = _
    simp only [tabGet]
    split
    · next h => rw [h]; rfl
    · split
      · rfl
      · exact ih

/-- A bit of the AER status is set after it was logged. -/
theorem State.logAer_bit (s : State) (k : Nat) : (s.logAer k).mgmt.aer / 2 ^ k % 2 = 1 := by
  unfold State.logAer
  split
  · assumption
  · next h =>
    show (s.mgmt.aer + 2 ^ k) / 2 ^ k % 2 = 1
    rw [Nat.add_div_right _ (Nat.two_pow_pos k)]
    omega

theorem State.logAer_mgmt (s : State) (k : Nat) : ∃ a, s.logAer k = s.onMgmt fun g => { g with aer := a } := by
  unfold State.logAer
  split
  · exact ⟨s.mgmt.aer, rfl⟩
  · exact ⟨_, rfl⟩

/-- A register of the endpoint outside the queues, vectors and mailboxes. -/
theorem State.mgmt_field {α : Type} (p : MgmtSt → α)
    (hp : ∀ g e m d b, p { g with evqs := e, msix := m, dropped := d, mbx := b } = p g) {s t : State}
    (h : t.mask (but [.mgmt]) = s.mask (but [.mgmt])) : p t.mgmt = p s.mgmt := by
  have h1 := congrArg p (State.mask_mgmt h rfl)
  rwa [hp] at h1

theorem State.event_mbx (s : State) (src kind d0 d1 m : Nat) : (s.event src kind d0 d1).mbx m = s.mbx m := by
  rw [State.mbx, State.mbx, State.mask_mbx (P := but [.mbx]) (s := s) (by simp) rfl]

/-- A refused fetch answers its mailbox alone. -/
theorem State.mbx_fetchRefused {s : State} {m op : Nat} (hm : m < s.mgmt.mbx.length) (hw : (s.mbx m).wait = .running op) (st : Nat) :
    ((s.fetchRefused m st).mbx m).wait = .answer (mkResp op st 0) ∧ ((s.fetchRefused m st).mbx m).fetching = false := by
  let u := s.onMbx m fun b => { b with fetching := false }
  have hu : u.mbx m = { s.mbx m with fetching := false } := (State.mbx_onMbx hm _ m).trans (if_pos rfl)
  have hlen : m < u.mgmt.mbx.length := by
    show m < (modNth s.mgmt.mbx m _).length
    rwa [modNth_length]
  have hans := (State.mbx_onMbx hlen (fun b => match b.wait with
    | .running op => { b with wait := .answer { mkResp 0 st 0 with opcode := op } }
    | .answer _ => b
    | .free => b) m).trans (if_pos rfl)
  rw [hu, hw] at hans
  have heq : (s.fetchRefused m st).mbx m = { s.mbx m with fetching := false, wait := .answer { mkResp 0 st 0 with opcode := op } } := hans
  rw [heq]
  exact ⟨rfl, rfl⟩

/-- A completion with poisoned data: its tag is free, and the poison is logged and counted. -/
def State.poisonedAt (s : State) (k : Nat) : State :=
  ((s.setTag k none).logAer 12).onMgmt fun g => { g with poisonIn := satAdd (2 ^ 32 - 1) g.poisonIn 1 }

theorem State.poisonedAt_mgmt (s : State) (k : Nat) : (s.poisonedAt k).mgmt.aer / 2 ^ 12 % 2 = 1
    ∧ (s.poisonedAt k).mgmt.tags = tabDel s.mgmt.tags k ∧ (s.poisonedAt k).mgmt.poisonIn = satAdd (2 ^ 32 - 1) s.mgmt.poisonIn 1
    ∧ (s.poisonedAt k).mgmt.mbx = s.mgmt.mbx := by
  obtain ⟨a, ha⟩ := State.logAer_mgmt (s.setTag k none) 12
  refine ⟨State.logAer_bit (s.setTag k none) 12, ?_⟩
  rw [State.poisonedAt, ha]
  exact ⟨rfl, rfl, rfl⟩

/-- A request that has timed out: its tag is in quarantine, and the timeout is logged and counted. -/
def State.lateAt (s : State) (k : Nat) : State :=
  ((s.setTag k (some (.quarantine s.now))).logAer 14).onMgmt fun g => { g with cplTimeout := satAdd (2 ^ 32 - 1) g.cplTimeout 1 }

theorem State.lateAt_mgmt (s : State) (k : Nat) : (s.lateAt k).mgmt.aer / 2 ^ 14 % 2 = 1
    ∧ (s.lateAt k).mgmt.tags = tabPut s.mgmt.tags k (.quarantine s.now) ∧ (s.lateAt k).mgmt.cplTimeout = satAdd (2 ^ 32 - 1) s.mgmt.cplTimeout 1
    ∧ (s.lateAt k).mgmt.mbx = s.mgmt.mbx := by
  obtain ⟨a, ha⟩ := State.logAer_mgmt (s.setTag k (some (.quarantine s.now))) 14
  refine ⟨State.logAer_bit (s.setTag k _) 14, ?_⟩
  rw [State.lateAt, ha]
  exact ⟨rfl, rfl, rfl⟩

/-- A mailbox that awaits data is held while no request may leave. -/
def Mbx.held (b : Mbx) : Mbx := if b.fetching then { b with dmaHold := true } else b

/-- A tag whose request will be discarded. -/
def TagState.off (now : Nat) (t : TagState) : TagState :=
  match t with
  | .outstanding _ => .dead now
  | x => x

theorem State.mastersOff_eq (s : State) : s.mastersOff = s.onMgmt fun g =>
    { g with tags := tabMap (fun _ t => t.off s.now) g.tags, mbx := g.mbx.map Mbx.held } := rfl

/-- Whatever is outstanding is dead, and the mailboxes that await data are held. -/
theorem State.mastersOff_mgmt (s : State) : (∀ k m, tabGet s.mgmt.tags k = some (.outstanding m) → tabGet s.mastersOff.mgmt.tags k = some (.dead s.now))
    ∧ (∀ m, (s.mastersOff.mbx m).dmaHold = ((s.mbx m).dmaHold || (s.mbx m).fetching)) ∧ s.mastersOff.mgmt.evqs = s.mgmt.evqs
    ∧ s.mastersOff.master = s.master := by
  refine ⟨fun k m h => ?_, fun m => ?_, rfl, rfl⟩
  · rw [State.mastersOff_eq]
    simp [State.onMgmt, tabGet_tabMap, h, TagState.off]
  · have h1 : s.mastersOff.mbx m = (s.mbx m).held := nth_map s.mgmt.mbx Mbx.held m Mbx.reset
    rw [h1, Mbx.held]
    split
    · next h => rw [h, Bool.or_true]
    · next h => rw [Bool.not_eq_true] at h; rw [h, Bool.or_false]

/-! ### Bus mastering comes back -/

/-- A change that keeps a field of an element keeps it in every element. -/
theorem nth_modNth_field {α β : Type} (p : α → β) (l : List α) (i j : Nat) {g : α → α} (d : α) (hp : ∀ x, p (g x) = p x) :
    p (nth (modNth l i g) j d) = p (nth l j d) := by
  by_cases hij : i = j
  · by_cases hi : i < l.length
    · rw [nth_modNth_of_lt j g d hi, if_pos hij, hp]
    · have hout : ∀ (l : List α), l.length ≤ j → nth l j d = d := fun l h => by simp [nth, List.getD_eq_getElem?_getD, List.getElem?_eq_none h]
      rw [hout _ (by rw [modNth_length]; omega), hout l (by omega)]
  · rw [nth_modNth l i j g d fun h => absurd h hij, if_neg hij]

theorem State.msix_evqs (s : State) (v : Nat) : (s.msix v).mgmt.evqs = s.mgmt.evqs := by
  unfold State.msix
  split <;> rfl

/-- Writing a record leaves the held records of every queue. -/
theorem State.evqWrite_heldRecs (s : State) (q : Nat) (r : EvRec) (p : Nat) : ((s.evqWrite q r).evq p).heldRecs = (s.evq p).heldRecs := by
  have hsig (u : State) (force : Bool) : ((u.evqSignal q force).evq p).heldRecs = (u.evq p).heldRecs := by
    unfold State.evqSignal
    dsimp only
    split
    · rw [State.evq, State.msix_evqs]
      exact nth_modNth_field Evq.heldRecs u.mgmt.evqs q p Evq.reset fun _ => rfl
    · rfl
  unfold State.evqWrite
  dsimp only
  split
  · rfl
  · rw [hsig]
    exact nth_modNth_field Evq.heldRecs s.mgmt.evqs q p Evq.reset fun _ => rfl

theorem State.evqWrite_evqs_length (s : State) (q : Nat) (r : EvRec) : (s.evqWrite q r).mgmt.evqs.length = s.mgmt.evqs.length := by
  have hsig (u : State) (force : Bool) : (u.evqSignal q force).mgmt.evqs.length = u.mgmt.evqs.length := by
    unfold State.evqSignal
    dsimp only
    split
    · rw [State.msix_evqs]
      exact modNth_length _ _ _
    · rfl
  unfold State.evqWrite
  dsimp only
  split
  · rfl
  · rw [hsig]
    exact modNth_length _ _ _

theorem State.msix_msix_length (s : State) (v : Nat) : (s.msix v).mgmt.msix.length = s.mgmt.msix.length := by
  unfold State.msix
  split
  · rfl
  · exact modNth_length _ _ _

theorem State.evqWrite_msix_length (s : State) (q : Nat) (r : EvRec) : (s.evqWrite q r).mgmt.msix.length = s.mgmt.msix.length := by
  have hsig (u : State) (force : Bool) : (u.evqSignal q force).mgmt.msix.length = u.mgmt.msix.length := by
    unfold State.evqSignal
    dsimp only
    split
    · exact State.msix_msix_length _ _
    · rfl
  unfold State.evqWrite
  dsimp only
  split
  · rfl
  · rw [hsig]
    rfl

/-- A loop whose steps keep a field keeps it. -/
theorem foldl_field {σ α β : Type} {f : σ → α → σ} (p : σ → β) (hp : ∀ s a, p (f s a) = p s) (l : List α) (s : σ) : p (l.foldl f s) = p s := by
  induction l generalizing s with
  | nil => rfl
  | cons a l ih => exact (ih (f s a)).trans (hp s a)

/-- A vector whose pending message may go. -/
def State.vectorDue (s : State) (v : Nat) : Prop :=
  (nth s.mgmt.msix v Msix.reset).pend = true ∧ (nth s.mgmt.msix v Msix.reset).masked = false

/-- A vector whose message has gone. -/
def State.vectorSent (s : State) (v : Nat) : Prop := .msix v ∈ s.out ∧ (nth s.mgmt.msix v Msix.reset).pend = false

/-- With bus mastering on, only a masked vector becomes pending. -/
theorem State.msix_vectorDue {s : State} (hm : s.master = true) {v : Nat} (h : s.vectorDue v) (w : Nat) : (s.msix w).vectorDue v := by
  unfold State.msix
  split
  · exact h
  · next hw =>
    have hmasked : (nth s.mgmt.msix w Msix.reset).masked = true := by simpa [hm] using hw
    have hne : w ≠ v := by
      rintro rfl
      rw [h.2] at hmasked
      cases hmasked
    have hsame : nth (modNth s.mgmt.msix w fun e => { e with pend := true }) v Msix.reset = nth s.mgmt.msix v Msix.reset := by
      rw [nth_modNth _ _ _ _ _ fun h => absurd h hne, if_neg hne]
    unfold State.vectorDue at h ⊢
    rw [← hsame] at h
    exact h

/-- Bus mastering does not follow from what the queues, the vectors and the mailboxes hold. -/
theorem State.master_of_mask {s t : State} (h : t.mask (but [.mgmt]) = s.mask (but [.mgmt])) : t.master = s.master := by
  rw [State.master, State.master, State.mgmt_field MgmtSt.bme (fun _ _ _ _ _ => rfl) h, State.mgmt_field MgmtSt.d3 (fun _ _ _ _ _ => rfl) h]

theorem State.evqSignal_vectorDue {s : State} (hm : s.master = true) {v : Nat} (h : s.vectorDue v) (q : Nat) (force : Bool) :
    (s.evqSignal q force).vectorDue v := by
  unfold State.evqSignal
  dsimp only
  split
  · exact State.msix_vectorDue (s := s.onEvq q fun e => { e with armed := false, unsignalled := 0 }) hm h _
  · exact h

theorem State.evqWrite_vectorDue {s : State} (hm : s.master = true) {v : Nat} (h : s.vectorDue v) (q : Nat) (r : EvRec) :
    (s.evqWrite q r).vectorDue v := by
  unfold State.evqWrite
  dsimp only
  split
  · exact h
  · apply State.evqSignal_vectorDue
    · exact hm
    · exact h

/-- The held records of a queue are written in order. -/
def State.queueOn (s : State) (q : Nat) : State :=
  (s.evq q).heldRecs.foldl (fun (s : State) r => s.evqWrite q r) (s.onEvq q fun e => { e with heldRecs := [] })

/-- The held message of a vector is sent. -/
def State.vectorOn (s : State) (v : Nat) : State :=
  if (nth s.mgmt.msix v Msix.reset).pend && !(nth s.mgmt.msix v Msix.reset).masked then
    (s.onMgmt fun g => { g with msix := modNth g.msix v fun e => { e with pend := false } }).emit (.msix v)
  else s

/-- The held command of a mailbox ends. -/
def State.mailboxOn (s : State) (m : Nat) : State :=
  if (s.mbx m).dmaHold then (s.onMbx m fun b => { b with dmaHold := false, fetching := false }).answer m (mkResp 0 0xD 0) else s

theorem State.mastersOn_eq (s : State) : s.mastersOn =
    (List.range 64).foldl State.mailboxOn ((List.range 64).foldl State.vectorOn ((List.range 64).foldl State.queueOn s)) := rfl

/-- What writing held records leaves alone: each queue's held records and their number, the due vectors, bus mastering and the mailboxes. -/
theorem State.foldl_evqWrite (l : List EvRec) (q : Nat) {s : State} (hm : s.master = true) :
    let t := l.foldl (fun (s : State) r => s.evqWrite q r) s
    (∀ p, (t.evq p).heldRecs = (s.evq p).heldRecs) ∧ t.mgmt.evqs.length = s.mgmt.evqs.length ∧ (∀ v, s.vectorDue v → t.vectorDue v)
      ∧ t.master = true := by
  induction l generalizing s with
  | nil => exact ⟨fun _ => rfl, rfl, fun _ h => h, hm⟩
  | cons r l ih =>
    obtain ⟨h1, h2, h3, h4⟩ := ih (s := s.evqWrite q r) ((State.master_of_mask (by simp)).trans hm)
    exact ⟨fun p => (h1 p).trans (State.evqWrite_heldRecs s q r p), h2.trans (State.evqWrite_evqs_length s q r),
      fun v h => h3 v (State.evqWrite_vectorDue hm h q r), h4⟩

/-- What the queues' loop leaves: no held record; the due vectors and bus mastering as they were. -/
theorem State.queuesOn {s : State} (hevq : s.mgmt.evqs.length = 64) (hm : s.master = true) :
    let t := (List.range 64).foldl State.queueOn s
    (∀ q < 64, (t.evq q).heldRecs = []) ∧ (∀ v, s.vectorDue v → t.vectorDue v) ∧ t.master = true := by
  have step (u : State) (q : Nat) (hq : q < 64) (hu : u.mgmt.evqs.length = 64) (hum : u.master = true) :
      ((u.queueOn q).evq q).heldRecs = [] ∧ (∀ p ≠ q, ((u.queueOn q).evq p).heldRecs = (u.evq p).heldRecs)
        ∧ (u.queueOn q).mgmt.evqs.length = 64 ∧ (∀ v, u.vectorDue v → (u.queueOn q).vectorDue v) ∧ (u.queueOn q).master = true := by
    obtain ⟨h1, h2, h3, h4⟩ := State.foldl_evqWrite (u.evq q).heldRecs q (s := u.onEvq q fun e => { e with heldRecs := [] }) hum
    have hget (p : Nat) := State.evq_onEvq (s := u) (q := q) (by rwa [hu]) (fun e => { e with heldRecs := [] }) p
    refine ⟨(h1 q).trans (by rw [hget, if_pos rfl]), fun p hp => (h1 p).trans (by rw [hget, if_neg (Ne.symm hp)]), h2.trans ?_, h3, h4⟩
    exact (modNth_length _ _ _).trans hu
  obtain ⟨⟨-, h1, h2⟩, h3⟩ := foldl_range_each (f := State.queueOn) (I := fun u => u.mgmt.evqs.length = 64 ∧ u.master = true ∧ ∀ v, s.vectorDue v → u.vectorDue v)
    (Q := fun q u => (u.evq q).heldRecs = []) 64
    (fun u q hq hu => by
      obtain ⟨hl, hum, hv⟩ := hu
      obtain ⟨-, -, i3, i4, i5⟩ := step u q hq hl hum
      exact ⟨i3, i5, fun v h => i4 v (hv v h)⟩)
    (fun u q hq hu => (step u q hq hu.1 hu.2.1).1)
    (fun u q p hq hp hu h => ((step u q hq hu.1 hu.2.1).2.1 p hp).trans h)
    (s := s) ⟨hevq, hm, fun _ h => h⟩
  exact ⟨h3, h2, h1⟩

theorem State.vectorOn_step {s : State} (hlen : s.mgmt.msix.length = 64) {i v : Nat} (hi : i < 64) (h : s.vectorDue v ∨ s.vectorSent v) :
    ((s.vectorOn i).vectorDue v ∨ (s.vectorOn i).vectorSent v) ∧ (i = v → (s.vectorOn i).vectorSent v) ∧ (s.vectorOn i).mgmt.msix.length = 64
      ∧ (s.vectorSent v → (s.vectorOn i).vectorSent v) := by
  unfold State.vectorOn
  split
  · next hdue =>
    have hget (j : Nat) := nth_modNth_of_lt (l := s.mgmt.msix) (i := i) j (fun e => { e with pend := false }) Msix.reset (by rwa [hlen])
    have hlen2 : (modNth s.mgmt.msix i fun e => { e with pend := false }).length = 64 := (modNth_length _ _ _).trans hlen
    have hsent (hiv : i = v) : ((s.onMgmt fun g => { g with msix := modNth g.msix i fun e => { e with pend := false } }).emit (.msix i)).vectorSent v := by
      subst hiv
      refine ⟨List.mem_cons_self, ?_⟩
      show (nth (modNth s.mgmt.msix i _) i Msix.reset).pend = false
      rw [hget, if_pos rfl]
    have hkeep (hs : s.vectorSent v) : ((s.onMgmt fun g => { g with msix := modNth g.msix i fun e => { e with pend := false } }).emit (.msix i)).vectorSent v := by
      refine ⟨List.mem_cons_of_mem _ hs.1, ?_⟩
      show (nth (modNth s.mgmt.msix i _) v Msix.reset).pend = false
      rw [hget]
      split
      · rfl
      · exact hs.2
    refine ⟨?_, hsent, hlen2, hkeep⟩
    by_cases hiv : i = v
    · exact .inr (hsent hiv)
    · rcases h with h | h
      · left
        show (nth (modNth s.mgmt.msix i _) v Msix.reset).pend = true ∧ (nth (modNth s.mgmt.msix i _) v Msix.reset).masked = false
        rw [hget, if_neg hiv]
        exact h
      · exact .inr (hkeep h)
  · next hno =>
    refine ⟨h, fun hiv => ?_, hlen, fun hs => hs⟩
    subst hiv
    rcases h with h | h
    · exact absurd (by rw [h.1, h.2]; rfl) hno
    · exact h

/-- What the vectors' loop leaves: every due vector's message is sent. -/
theorem State.vectorsOn {s : State} (hlen : s.mgmt.msix.length = 64) {v : Nat} (hv : v < 64) (h : s.vectorDue v) :
    ((List.range 64).foldl State.vectorOn s).vectorSent v := by
  have key := (foldl_range_each (f := State.vectorOn) (I := fun u => u.mgmt.msix.length = 64 ∧ (u.vectorDue v ∨ u.vectorSent v))
    (Q := fun i u => i = v → u.vectorSent v) 64
    (fun u i hi hu => ⟨(State.vectorOn_step hu.1 hi hu.2).2.2.1, (State.vectorOn_step hu.1 hi hu.2).1⟩)
    (fun u i hi hu => (State.vectorOn_step hu.1 hi hu.2).2.1)
    (fun u i j hi _ hu hq hjv => (State.vectorOn_step hu.1 hi hu.2).2.2.2 (hq hjv)) (s := s) ⟨hlen, .inl h⟩).2
  exact key v hv rfl

/-- How a held mailbox ends. -/
def Mbx.aborted (b : Mbx) : Mbx :=
  if b.dmaHold then
    match b.wait with
    | .running op => { b with dmaHold := false, fetching := false, wait := .answer (mkResp op 0xD 0) }
    | .answer _ | .free => { b with dmaHold := false, fetching := false }
  else b

theorem Mbx.aborted_aborted (b : Mbx) : b.aborted.aborted = b.aborted := by
  have h : b.aborted.dmaHold = false := by
    unfold Mbx.aborted
    split
    · split <;> rfl
    · next h => simpa using h
  rw [Mbx.aborted, if_neg (by rw [h]; simp)]

theorem modNth_modNth {α : Type} (l : List α) (i : Nat) (f g : α → α) : modNth (modNth l i f) i g = modNth l i fun x => g (f x) := by
  induction l generalizing i with
  | nil => rfl
  | cons x t ih =>
    cases i with
    | zero => rfl
    | succ i => exact congrArg (x :: ·) (ih i)

theorem State.mailboxOn_mbx {s : State} (hlen : s.mgmt.mbx.length = 64) {m : Nat} (hm : m < 64) (n : Nat) :
    (s.mailboxOn m).mbx n = (if m = n then (s.mbx n).aborted else s.mbx n) ∧ (s.mailboxOn m).mgmt.mbx.length = 64 := by
  unfold State.mailboxOn
  split
  · next hd =>
    let g (b : Mbx) : Mbx := match b.wait with
      | .running op => { b with dmaHold := false, fetching := false, wait := .answer (mkResp op 0xD 0) }
      | .answer _ | .free => { b with dmaHold := false, fetching := false }
    have hmbx : ((s.onMbx m fun b => { b with dmaHold := false, fetching := false }).answer m (mkResp 0 0xD 0)).mgmt.mbx = modNth s.mgmt.mbx m g := by
      refine (modNth_modNth s.mgmt.mbx m _ _).trans ?_
      congr 1
    rw [State.mbx, hmbx]
    refine ⟨?_, (modNth_length _ _ _).trans hlen⟩
    rw [nth_modNth_of_lt n g Mbx.reset (by rwa [hlen])]
    split
    · next hmn =>
      subst hmn
      rw [Mbx.aborted, if_pos hd]
      rfl
    · rfl
  · next hd =>
    refine ⟨?_, hlen⟩
    split
    · next hmn =>
      subst hmn
      rw [Mbx.aborted, if_neg hd]
    · rfl

/-- What the mailboxes' loop leaves. -/
theorem State.mailboxesOn {s : State} (hlen : s.mgmt.mbx.length = 64) {m : Nat} (hm : m < 64) :
    ((List.range 64).foldl State.mailboxOn s).mbx m = (s.mbx m).aborted := by
  have key := (foldl_range_each (f := State.mailboxOn) (I := fun u => u.mgmt.mbx.length = 64 ∧ (u.mbx m = s.mbx m ∨ u.mbx m = (s.mbx m).aborted))
    (Q := fun i u => i = m → u.mbx m = (s.mbx m).aborted) 64
    (fun u i hi hu => by
      refine ⟨(State.mailboxOn_mbx hu.1 hi m).2, ?_⟩
      rw [(State.mailboxOn_mbx hu.1 hi m).1]
      split
      · rcases hu.2 with h | h <;> rw [h]
        · exact .inr rfl
        · exact .inr (Mbx.aborted_aborted _)
      · exact hu.2)
    (fun u i hi hu him => by
      rw [(State.mailboxOn_mbx hu.1 hi m).1, if_pos him]
      rcases hu.2 with h | h <;> rw [h]
      exact Mbx.aborted_aborted _)
    (fun u i j hi hj hu hq hjm => by
      rw [(State.mailboxOn_mbx hu.1 hi m).1, if_neg (by rw [← hjm]; exact Ne.symm hj)]
      exact hq hjm) (s := s) ⟨hlen, .inl rfl⟩).2
  exact key m hm rfl

theorem State.mastersOn_mgmt {s : State} (hmbx : s.mgmt.mbx.length = 64) (hevq : s.mgmt.evqs.length = 64) (hmsix : s.mgmt.msix.length = 64)
    (hm : s.master = true) : s.mastersOn.master = true ∧ (∀ q : Fin 64, (s.mastersOn.evq q.val).heldRecs = []) ∧
      (∀ v : Fin 64, (nth s.mgmt.msix v.val Msix.reset).pend = true → (nth s.mgmt.msix v.val Msix.reset).masked = false →
        .msix v.val ∈ s.mastersOn.out ∧ (nth s.mastersOn.mgmt.msix v.val Msix.reset).pend = false) ∧
      (∀ (m : Fin 64) op, (s.mbx m.val).wait = .running op → (s.mbx m.val).dmaHold = true →
        (s.mastersOn.mbx m.val).wait = .answer (mkResp op 0xD 0) ∧ (s.mastersOn.mbx m.val).dmaHold = false) ∧
      (∀ m : Fin 64, (s.mbx m.val).dmaHold = false → s.mastersOn.mbx m.val = s.mbx m.val) := by
  obtain ⟨hheld, hdue, hmaster⟩ := State.queuesOn hevq hm
  rw [State.mastersOn_eq]
  have hmbx1 : ((List.range 64).foldl State.queueOn s).mgmt.mbx = s.mgmt.mbx :=
    State.mask_mbx (P := but [.mbx]) (State.foldl_mask (g := State.queueOn) (fun u q => by simp [State.queueOn]) (List.range 64) s) rfl
  have hlen1 (l : List Nat) : (l.foldl State.queueOn s).mgmt.msix.length = 64 :=
    (foldl_field (f := State.queueOn) (fun u : State => u.mgmt.msix.length) (fun u q => by
      unfold State.queueOn
      exact foldl_field (fun u : State => u.mgmt.msix.length) (fun u r => State.evqWrite_msix_length u q r) _ _) l s).trans hmsix
  replace hlen1 := hlen1 (List.range 64)
  generalize (List.range 64).foldl State.queueOn s = s1 at hheld hdue hmaster hmbx1 hlen1
  have hkeep2 (l : List Nat) : ((l.foldl State.vectorOn s1).master, (l.foldl State.vectorOn s1).mgmt.mbx, (l.foldl State.vectorOn s1).mgmt.evqs)
      = (s1.master, s1.mgmt.mbx, s1.mgmt.evqs) :=
    foldl_field (fun u : State => (u.master, u.mgmt.mbx, u.mgmt.evqs)) (fun u v => by unfold State.vectorOn; split <;> rfl) l s1
  replace hkeep2 := hkeep2 (List.range 64)
  have hsent := fun v hv (h : s1.vectorDue v) => State.vectorsOn hlen1 hv h
  generalize (List.range 64).foldl State.vectorOn s1 = s2 at hkeep2 hsent
  simp only [Prod.mk.injEq] at hkeep2
  obtain ⟨hm2, hmbx2, hevq2⟩ := hkeep2
  have hkeep3 (l : List Nat) : ((l.foldl State.mailboxOn s2).master, (l.foldl State.mailboxOn s2).mgmt.evqs, (l.foldl State.mailboxOn s2).mgmt.msix,
      (l.foldl State.mailboxOn s2).out) = (s2.master, s2.mgmt.evqs, s2.mgmt.msix, s2.out) :=
    foldl_field (fun u : State => (u.master, u.mgmt.evqs, u.mgmt.msix, u.out)) (fun u m => by unfold State.mailboxOn; split <;> rfl) l s2
  replace hkeep3 := hkeep3 (List.range 64)
  have hmb := fun m hm => State.mailboxesOn (s := s2) (m := m) (by rw [hmbx2, hmbx1, hmbx]) hm
  generalize (List.range 64).foldl State.mailboxOn s2 = s3 at hkeep3 hmb
  simp only [Prod.mk.injEq] at hkeep3
  obtain ⟨hm3, hevq3, hmsix3, hout3⟩ := hkeep3
  have hget (m : Nat) : s2.mbx m = s.mbx m := by rw [State.mbx, hmbx2, hmbx1]; rfl
  refine ⟨?_, fun q => ?_, fun v hp hmask => ?_, fun m op hw hd => ?_, fun m hd => ?_⟩
  · rw [hm3, hm2, hmaster]
  · rw [State.evq, hevq3, hevq2]
    exact hheld q.val q.isLt
  · obtain ⟨h1, h2⟩ := hsent v.val v.isLt (hdue v.val ⟨hp, hmask⟩)
    rw [hout3, hmsix3]
    exact ⟨h1, h2⟩
  · have h := hmb m.val m.isLt
    rw [hget, Mbx.aborted, if_pos hd, hw] at h
    rw [h]
    exact ⟨rfl, rfl⟩
  · rw [hmb m.val m.isLt, hget, Mbx.aborted, if_neg (by rw [hd]; simp)]

/-- Settles O48: the tag, the counts and the mailbox of a completion by its case; the loops of `mastersOn` by what each step establishes. -/
theorem pcieRequests : Obligations.PcieRequests := by
  intro s hmbx hevq hmsix hwf
  have hmaster (g : MgmtSt → MgmtSt) : (s.onMgmt g).master = ((g s.mgmt).bme && !(g s.mgmt).d3) := rfl
  refine ⟨fun k => ⟨fun m hk => ⟨?_, fun hrun => ?_, fun op hw => ⟨fun hop => ?_, ?_⟩⟩, fun x b hk => ?_, fun x b hk => ⟨?_, fun hle => ?_, fun hlt => ?_⟩, fun b hk => ⟨?_, ?_⟩⟩,
    fun hup hm => ⟨?_, ?_⟩, fun hup hm => ⟨fun hd => ?_, fun hb => ?_⟩⟩
  · have hex : exec (.pcieCompletionRx k false) s = .next (s.setTag k none) := by simp [exec, execPcieCompletionRx, hk]
    exact ⟨_, hex, rfl⟩
  · obtain ⟨h1, h2, h3, h4⟩ := State.poisonedAt_mgmt s k
    have hwait : (((s.poisonedAt k).event 0x638 8 1 0).mbx m.val).wait = .running 0x0403 := by rw [State.event_mbx, State.mbx, h4]; exact hrun
    have hex : exec (.pcieCompletionRx k true) s = .next ((s.poisonedAt k).event 0x638 8 1 0) := by
      have hro : ((s.poisonedAt k).event 0x638 8 1 0).runningOp m.val = some 0x0403 := by simp only [State.runningOp, hwait]
      have hrs : s.runningOp m.val = some 0x0403 := by simp only [State.runningOp, hrun]
      simp only [exec, execPcieCompletionRx, hk, hrs]
      rfl
    have hu (k' : Nat) : ((s.poisonedAt k).event 0x638 8 1 0).mask (but [.mgmt]) = (s.poisonedAt k).mask (but [.mgmt]) := by simp
    refine ⟨_, hex, (State.mask_mbx (P := but [.mbx]) (s := s.poisonedAt k) (by simp) rfl).trans h4, ?_, ?_, ?_⟩
    · rw [State.mgmt_field MgmtSt.tags (fun _ _ _ _ _ => rfl) (hu 0), h2, tabGet_tabDel hwf, if_pos rfl]
    · show MgmtSt.aer _ / _ % _ = 1
      rw [State.mgmt_field MgmtSt.aer (fun _ _ _ _ _ => rfl) (hu 0), h1]
    · rw [State.mgmt_field MgmtSt.poisonIn (fun _ _ _ _ _ => rfl) (hu 0), h3]
  · obtain ⟨h1, h2, h3, h4⟩ := State.poisonedAt_mgmt s k
    let u := (s.poisonedAt k).event 0x638 8 1 0
    have hum : u.mgmt.mbx = s.mgmt.mbx := (State.mask_mbx (P := but [.mbx]) (s := s.poisonedAt k) (by simp [u]) rfl).trans h4
    have huw : (u.mbx m.val).wait = .running op := by rw [State.mbx, hum]; exact hw
    obtain ⟨hans, hfet⟩ := State.mbx_fetchRefused (s := u) (m := m.val) (by rw [hum, hmbx]; exact m.isLt) huw 0xE
    have hex : exec (.pcieCompletionRx k true) s = .next (u.fetchRefused m.val 0xE) := by
      have hrs : s.runningOp m.val ≠ some 0x0403 := by simpa only [State.runningOp, hw, ne_eq, Option.some.injEq] using hop
      simp only [exec, execPcieCompletionRx, hk, hrs]
      rfl
    have hu : (u.fetchRefused m.val 0xE).mask (but [.mgmt]) = (s.poisonedAt k).mask (but [.mgmt]) := by simp [u]
    refine ⟨_, hex, hans, hfet, ?_, ?_, ?_⟩
    · rw [State.mgmt_field MgmtSt.tags (fun _ _ _ _ _ => rfl) hu, h2, tabGet_tabDel hwf, if_pos rfl]
    · show MgmtSt.aer _ / _ % _ = 1
      rw [State.mgmt_field MgmtSt.aer (fun _ _ _ _ _ => rfl) hu, h1]
    · rw [State.mgmt_field MgmtSt.poisonIn (fun _ _ _ _ _ => rfl) hu, h3]
  · obtain ⟨h1, h2, h3, h4⟩ := State.lateAt_mgmt s k
    have huw : ((s.lateAt k).mbx m.val).wait = .running op := by rw [State.mbx, h4]; exact hw
    obtain ⟨hans, hfet⟩ := State.mbx_fetchRefused (s := s.lateAt k) (m := m.val) (by rw [h4, hmbx]; exact m.isLt) huw 0xC
    have hex : exec (.pcieCompletionTimeout k) s = .next ((s.lateAt k).fetchRefused m.val 0xC) := by
      simp only [exec, execPcieCompletionTimeout, hk]
      rfl
    have hu : ((s.lateAt k).fetchRefused m.val 0xC).mask (but [.mgmt]) = (s.lateAt k).mask (but [.mgmt]) := by simp
    refine ⟨_, hex, hans, hfet, ?_, ?_, ?_⟩
    · rw [State.mgmt_field MgmtSt.tags (fun _ _ _ _ _ => rfl) hu, h2, tabGet_tabPut_same]
    · show MgmtSt.aer _ / _ % _ = 1
      rw [State.mgmt_field MgmtSt.aer (fun _ _ _ _ _ => rfl) hu, h1]
    · rw [State.mgmt_field MgmtSt.cplTimeout (fun _ _ _ _ _ => rfl) hu, h3]
  · have hex : exec (.pcieCompletionRx k b) s = .next (s.setTag k none) := by simp [exec, execPcieCompletionRx, hk]
    exact ⟨_, hex, rfl⟩
  · have hex : exec (.pcieCompletionRx k b) s = .next ((s.logAer 16).onMgmt fun g => { g with lateCpl := satAdd (2 ^ 32 - 1) g.lateCpl 1 }) := by
      simp [exec, execPcieCompletionRx, hk]
    obtain ⟨a, ha⟩ := State.logAer_mgmt s 16
    refine ⟨_, hex, State.logAer_bit s 16, ?_, ?_⟩ <;> rw [ha] <;> rfl
  · have hex : exec (.tagQuarantineExpiry k) s = .next (s.setTag k none) := by simp [exec, execTagQuarantineExpiry, hk, hle]
    exact ⟨_, hex, rfl⟩
  · have hnle : ¬ x + ms 100 ≤ s.now := by omega
    simp [exec, execTagQuarantineExpiry, hk, hnle]
  · have hex : exec (.pcieCompletionRx k b) s = .next (s.logAer 16) := by simp [exec, execPcieCompletionRx, hk]
    obtain ⟨a, ha⟩ := State.logAer_mgmt s 16
    refine ⟨_, hex, State.logAer_bit s 16, ?_⟩
    rw [ha]
    rfl
  · simp [exec, execPcieCompletionTimeout, hk]
  · obtain ⟨h1, h2, h3, h4⟩ := State.mastersOff_mgmt (s.onMgmt fun g => { g with bme := false })
    have hex : exec .busMasterEnableClear s = .next (s.onMgmt fun g => { g with bme := false }).mastersOff := by
      simp [exec, execBusMasterEnableClear, hup, hm]
    exact ⟨_, hex, h4, h1, fun m => h2 m, h3⟩
  · obtain ⟨h1, h2, h3, h4⟩ := State.mastersOff_mgmt (s.onMgmt fun g => { g with d3 := true })
    have hoff : (s.onMgmt fun g => { g with d3 := true }).master = false := by simp [hmaster]
    have hex : exec (.d3hotTransition true) s = .next (s.onMgmt fun g => { g with d3 := true }).mastersOff := by
      simp [exec, execD3hotTransition, hup, hm, hoff]
    exact ⟨_, hex, h4.trans hoff, h1, fun m => h2 m, h3⟩
  · have hon : (s.onMgmt fun g => { g with bme := true }).master = true := by simp [hmaster, hd]
    have hex : exec .busMasterEnableSet s = .next (s.onMgmt fun g => { g with bme := true }).mastersOn := by
      simp [exec, execBusMasterEnableSet, hup, hm, hon]
    exact ⟨_, hex, State.mastersOn_mgmt (s := s.onMgmt fun g => { g with bme := true }) hmbx hevq hmsix hon⟩
  · have hon : (s.onMgmt fun g => { g with d3 := false }).master = true := by simp [hmaster, hb]
    have hex : exec (.d3hotTransition false) s = .next (s.onMgmt fun g => { g with d3 := false }).mastersOn := by
      simp [exec, execD3hotTransition, hup, hm, hon]
    exact ⟨_, hex, State.mastersOn_mgmt (s := s.onMgmt fun g => { g with d3 := false }) hmbx hevq hmsix hon⟩

end Sys2Proof.Machine
end

section
/-! PROOF. Chapter 17: event queues, vectors and register writes (O49). A register write leaves the mailboxes answering. -/

namespace Sys2Proof.Machine

theorem State.FltKept.readCw {f : FltSt} {s : State} (hk : s.FltKept f) (loc : Loc) (user : RdFor) (host : Bool) :
    (s.readCw loc user host).FltKept f := by
  unfold State.readCw
  dsimp only
  split
  · exact (hk.of_mask (by simp)).reconstruct _
  · exact hk.of_mask (by simp)

theorem State.FltKept.needPage {f : FltSt} {s : State} (hk : s.FltKept f) (mpn : Nat) (wait : Option MapWait) (host : Bool) :
    (s.needPage mpn wait host).FltKept f := by
  unfold State.needPage
  dsimp only
  repeat' split
  all_goals first
    | exact (hk.of_mask (by simp)).readCw _ _ _
    | exact hk.of_mask (by simp)

theorem State.FltKept.preloadLine {f : FltSt} {s : State} (hk : s.FltKept f) (la : Nat) : (s.preloadLine la).FltKept f := by
  have hready (u : State) (hu : u.FltKept f) (mpn ns : Nat) (lock : Bool) : (if (u.readyPage mpn).1 then (u.readyPage mpn).2.startFill la ns true lock none
      else (u.readyPage mpn).2.needPage mpn none false).FltKept f := by
    split
    · exact hu.of_mask (by simp)
    · exact (hu.of_mask (by simp)).needPage _ _ _
  unfold State.preloadLine
  dsimp only
  split
  · exact hready s hk _ _ _
  · split
    · exact hk.of_mask (by simp)
    · split
      · exact hk.of_mask (by simp)
      · split
        · exact hk.of_mask (by simp)
        · exact hready _ (hk.of_mask (by simp)) _ _ _

theorem State.FltKept.rangeAdvance {f : FltSt} {s : State} (hk : s.FltKept f) : s.rangeAdvance.FltKept f := by
  unfold State.rangeAdvance
  refine State.FltKept.foldl (fun u la hu => ?_) _ hk
  split
  · exact hu.preloadLine la
  · exact hu

theorem State.FltKept.goRange {f : FltSt} {s : State} (hk : s.FltKept f) (op : Nat) (o : RangeOp) (mbx : Option Nat) :
    (s.goRange op o mbx).FltKept f := by
  unfold State.goRange
  dsimp only
  repeat' split
  all_goals first
    | exact State.FltKept.rangeAdvance (hk.of_mask (by simp))
    | exact hk.of_mask (by simp)

theorem State.FltKept.tcRegWrite {f : FltSt} {s : State} (hk : s.FltKept f) (off : Nat) (v : BitVec 32) : (s.tcRegWrite off v).FltKept f := by
  unfold State.tcRegWrite
  dsimp only
  repeat' split
  all_goals first
    | exact hk.goRange _ _ _
    | exact hk.of_mask (by simp)

/-- A register write neither resets, stops nor starts the main die. -/
theorem State.write32_mailboxesUp (s : State) (c : RegClient) (off : Nat) (v : BitVec 32) : (s.write32 c off v).mailboxesUp = s.mailboxesUp := by
  have hmask {t : State} (h : t.mask (but [.bpd, .flt, .boot]) = s.mask (but [.bpd, .flt, .boot])) : t.mailboxesUp = s.mailboxesUp := by
    have hb := congrArg BpdSt.mainReset (State.mask_bpd h rfl)
    have hb' : t.bpd.mainReset = s.bpd.mainReset := hb
    rw [State.mailboxesUp, State.mailboxesUp, State.awake, State.awake, hb', State.mask_flt h rfl, State.mask_boot h rfl]
  have htc (n : Nat) : (s.tcRegWrite n v).mailboxesUp = s.mailboxesUp := by
    have h : (s.tcRegWrite n v).mask (but [.bpd, .boot]) = s.mask (but [.bpd, .boot]) := by simp
    have hb := congrArg BpdSt.mainReset (State.mask_bpd h rfl)
    have hb' : (s.tcRegWrite n v).bpd.mainReset = s.bpd.mainReset := hb
    obtain ⟨-, hs, -⟩ := (State.FltKept.refl s).tcRegWrite n v
    rw [State.mailboxesUp, State.mailboxesUp, State.awake, State.awake, hb', hs, State.mask_boot h rfl]
  unfold State.write32
  dsimp only
  split
  · split
    · exact hmask (by simp)
    · rfl
  · split
    · split
      · exact hmask (by simp [State.mbxBufWrite])
      · rfl
    · split
      · rfl
      · split
        · exact htc _
        · split <;> rfl
      · split
        · exact hmask (by simp)
        · split
          · split
            · exact hmask (by simp)
            · split
              · exact hmask (by simp)
              · rfl
          · split
            · rfl
            · split
              · rfl
              · split
                · exact hmask (by simp)
                · rfl

/-! ### Event queues -/

/-- The head of a queue is written while the mailboxes answer. -/
theorem exec_evqHeadWrite {s : State} (hup : s.mailboxesUp = true) (q : Fin 64) (v : BitVec 32) :
    exec (.evqHeadWrite q v) s = .next (s.evqHead q v.toNat) := by
  simp [exec, execEvqHeadWrite, hup]

theorem State.onEvq_length (s : State) (q : Nat) (g : Evq → Evq) : (s.onEvq q g).mgmt.evqs.length = s.mgmt.evqs.length :=
  modNth_length _ _ _

/-- A vector that is not masked is sent at once while requests may leave. -/
theorem State.msix_sent {s : State} {v : Nat} (hm : s.master = true) (h : (nth s.mgmt.msix v Msix.reset).masked = false) :
    s.msix v = s.emit (.msix v) := by
  simp [State.msix, hm, h]

/-- A signal that sends: the queue is disarmed, its vector's message goes out. -/
theorem State.evqSignal_sent {s : State} {q : Nat} {force : Bool} (ha : (s.evq q).armed = true)
    (hc : force = true ∨ (0 < (s.evq q).unsignalled ∧ (s.evq q).countTh ≤ (s.evq q).unsignalled)) (hm : s.master = true)
    (hmask : (nth s.mgmt.msix (s.evq q).vector Msix.reset).masked = false) :
    s.evqSignal q force = (s.onEvq q fun e => { e with armed := false, unsignalled := 0 }).emit (.msix (s.evq q).vector) := by
  have hcond : ((s.evq q).armed && (force || decide (0 < (s.evq q).unsignalled ∧ (s.evq q).countTh ≤ (s.evq q).unsignalled))) = true := by
    rcases hc with h | h
    · rw [ha, h]; rfl
    · rw [ha, decide_eq_true h, Bool.or_true]; rfl
  simp only [State.evqSignal, hcond, if_true]
  exact State.msix_sent (s := s.onEvq q fun e => { e with armed := false, unsignalled := 0 }) hm hmask

/-- A signal whose count is not reached sends nothing. -/
theorem State.evqSignal_quiet {s : State} {q : Nat} (hc : ¬ (0 < (s.evq q).unsignalled ∧ (s.evq q).countTh ≤ (s.evq q).unsignalled)) :
    s.evqSignal q false = s := by
  simp only [State.evqSignal, decide_eq_false hc, Bool.or_self, Bool.and_false, Bool.false_eq_true, if_false]

theorem tabWf_tabPutD {α : Type} [DecidableEq α] {t : Tab α} (h : tabWf t = true) (d v : α) (k : Nat) :
    tabWf (tabPutD d t k v) = true := by
  unfold tabPutD
  split
  · exact tabWf_tabDel h k
  · exact tabWf_tabPut h k v

/-- A row of bytes stored one after the other in a canonical table. -/
theorem tabGetD_putBytes (f : Nat → BitVec 8) (off : Nat) (n : Nat) {t : Tab (BitVec 8)} (h : tabWf t = true) :
    tabWf ((List.range n).foldl (fun t k => tabPutD 0 t (off + k) (f k)) t) = true ∧
    ∀ a, tabGetD ((List.range n).foldl (fun t k => tabPutD 0 t (off + k) (f k)) t) a 0 =
      if off ≤ a ∧ a < off + n then f (a - off) else tabGetD t a 0 := by
  induction n with
  | zero =>
    refine ⟨h, fun a => ?_⟩
    rw [if_neg (by omega)]
    rfl
  | succ n ih =>
    obtain ⟨hwf, hget⟩ := ih
    simp only [List.range_succ, List.foldl_append, List.foldl_cons, List.foldl_nil]
    refine ⟨tabWf_tabPutD hwf _ _ _, fun a => ?_⟩
    rw [tabGet_tabPutD hwf, hget]
    by_cases ha : a = off + n
    · rw [if_pos ha, if_pos (by omega), ha, Nat.add_sub_cancel_left]
    · rw [if_neg ha]
      by_cases hr : off ≤ a ∧ a < off + n
      · rw [if_pos hr, if_pos (by omega)]
      · rw [if_neg hr, if_neg (by omega)]

/-- The four bytes of the lower word of `v`, stored at `off`. -/
theorem tabGetD_wordBytes {t : Tab (BitVec 8)} (h : tabWf t = true) (off : Nat) (v : BitVec 64) (a : Nat) :
    tabGetD ((List.range 4).foldl (fun t k => tabPutD 0 t (off + k) ((v.extractLsb' 0 32).extractLsb' (8 * k) 8)) t) a 0 =
      if off ≤ a ∧ a < off + 4 then v.extractLsb' (8 * (a - off)) 8 else tabGetD t a 0 := by
  rw [(tabGetD_putBytes (fun k => (v.extractLsb' 0 32).extractLsb' (8 * k) 8) off 4 h).2 a]
  split
  · next ha =>
    ext i hi
    have h1 : 8 * (a - off) + i < 32 := by omega
    simp only [BitVec.getElem_extractLsb', BitVec.getLsbD_extractLsb', h1, decide_true, Bool.true_and, Nat.zero_add]
  · rfl

/-- Settles O49, an event queue by a head write, its two moderation thresholds and the register window that writes the head, a
vector by its unmasking, and a mailbox by the doorbell and the buffer word that the client's window names. -/
theorem eventQueues : Obligations.EventQueues := by
  intro s hup hevq hmsix hmbx
  have hqlen (q : Fin 64) : q.val < s.mgmt.evqs.length := by rw [hevq]; exact q.isLt
  have hvlen (v : Fin 64) : v.val < s.mgmt.msix.length := by rw [hmsix]; exact v.isLt
  have hmlen (m : Fin 64) : m.val < s.mgmt.mbx.length := by rw [hmbx]; exact m.isLt
  let taken (q : Fin 64) (v : BitVec 32) (e : Evq) : Evq :=
    { e with head := v.toNat, armed := true, unsignalled := ((s.evq q).tail + 2 ^ 32 - v.toNat) % 2 ^ 32, oldest := s.now }
  have htaken (q : Fin 64) (v : BitVec 32) (hen : (s.evq q).enabled = true)
      (hle : ((s.evq q).tail + 2 ^ 32 - v.toNat) % 2 ^ 32 ≤ 2 ^ (s.evq q).log2n) :
      s.evqHead q v.toNat = (s.onEvq q (taken q v)).evqSignal q false := by
    simp only [State.evqHead, hen, Bool.not_true, Bool.false_eq_true, if_false, if_neg (Nat.not_lt.mpr hle)]
    rfl
  have hexec (c : RegClient) (o : Nat) (v : BitVec 64) (h4 : o % 4 = 0) :
      exec (.registerWrite c o false v) s = .next (s.write32 c o (v.extractLsb' 0 32)) := by
    simp [exec, execRegisterWrite, hup, h4]
  have hbell (c : RegClient) (m : Fin 64) (v : BitVec 64) (hown : s.ownsMbx c m = true) (hgo : v.getLsbD 0 = true) :
      s.write32 c (0x0100000 + 16 * m) (v.extractLsb' 0 32) = s.go m ((v.extractLsb' 0 32).toNat / 65536) ((v.extractLsb' 0 32).getLsbD 6)
        ((v.extractLsb' 0 32).toNat / 256 % 64) := by
    have hm := m.isLt
    have n1 : 0x0100000 ≤ 0x0100000 + 16 * m.val ∧ 0x0100000 + 16 * m.val < 0x0100400 := by omega
    have n2 : (0x0100000 + 16 * m.val - 0x0100000) / 16 = m.val := by omega
    have n3 : (0x0100000 + 16 * m.val) % 16 = 0 := by omega
    have n4 : (v.extractLsb' 0 32).getLsbD 0 = true := by simpa using hgo
    simp only [State.write32, n1, n2, n3, hown, State.mbxRegWrite, n4, and_self, if_true]
  have hbuf (c : RegClient) (m : Fin 64) (k : Nat) (v : BitVec 64) (hown : s.ownsMbx c m = true) (hk : k < 1024) :
      s.write32 c (0x1000000 + 4096 * m + 4 * k) (v.extractLsb' 0 32) = s.mbxBufWrite m (4 * k) (v.extractLsb' 0 32) := by
    have hm := m.isLt
    have n1 : ¬ (0x0100000 ≤ 0x1000000 + 4096 * m.val + 4 * k ∧ 0x1000000 + 4096 * m.val + 4 * k < 0x0100400) := by omega
    have n2 : 0x1000000 ≤ 0x1000000 + 4096 * m.val + 4 * k ∧ 0x1000000 + 4096 * m.val + 4 * k < 0x1040000 := by omega
    have n3 : (0x1000000 + 4096 * m.val + 4 * k - 0x1000000) / 4096 = m.val := by omega
    have n4 : (0x1000000 + 4096 * m.val + 4 * k) % 4096 = 4 * k := by omega
    simp only [State.write32, n1, n2, n3, n4, hown, and_self, if_true, if_false]
  refine ⟨fun q hen => ⟨fun v => ⟨fun hlt => ?_, fun hle hp => ?_, fun hle hp hc hm hmask => ?_, ?_⟩, fun ht hu ha => ⟨fun hle hm hmask => ?_, fun hlt => ?_⟩⟩,
    fun v => ⟨fun hp hm => ?_, fun hp => ?_⟩,
    fun c m v hown => ⟨fun hb hgo => ?_, fun hb hgo => ?_, fun k hk hb => ?_, fun k hk hb hwf => ?_⟩, fun c o v ho => ?_, fun c o b v hor => ?_⟩
  · have hget := State.evq_onEvq (hqlen q) (fun e => { e with headErr := true })
    have hh : s.evqHead q v.toNat = s.onEvq q fun e => { e with headErr := true } := by
      simp only [State.evqHead, hen, Bool.not_true, Bool.false_eq_true, if_false, if_pos hlt]
    exact ⟨_, exec_evqHeadWrite hup q v, by rw [hh, hget, if_pos rfl], fun r hr => by rw [hh, hget, if_neg (Ne.symm hr)], by rw [hh]; rfl⟩
  · have hget := State.evq_onEvq (hqlen q) (taken q v)
    have hh : s.evqHead q v.toNat = s.onEvq q (taken q v) := by
      rw [htaken q v hen hle]
      refine State.evqSignal_quiet ?_
      rw [hget, if_pos rfl]
      show ¬ (0 < ((s.evq q).tail + 2 ^ 32 - v.toNat) % 2 ^ 32 ∧ (s.evq q).countTh ≤ ((s.evq q).tail + 2 ^ 32 - v.toNat) % 2 ^ 32)
      omega
    exact ⟨_, exec_evqHeadWrite hup q v, by rw [hh, hget, if_pos rfl], fun r hr => by rw [hh, hget, if_neg (Ne.symm hr)], by rw [hh]; rfl⟩
  · have hget := State.evq_onEvq (hqlen q) (taken q v)
    have hget2 := State.evq_onEvq (s := s.onEvq q (taken q v)) (q := q.val) (by
      rw [State.onEvq_length]
      exact hqlen q) (fun e => { e with armed := false, unsignalled := 0 })
    have hq : (s.onEvq q (taken q v)).evq q = taken q v (s.evq q) := by rw [hget, if_pos rfl]
    have hh : s.evqHead q v.toNat = ((s.onEvq q (taken q v)).onEvq q fun e => { e with armed := false, unsignalled := 0 }).emit (.msix (s.evq q).vector) := by
      rw [htaken q v hen hle, State.evqSignal_sent (s := s.onEvq q (taken q v)) (by rw [hq]) (.inr (by rw [hq]; exact ⟨hp, hc⟩)) hm
        (by rw [hq]; exact hmask), hq]
    refine ⟨_, exec_evqHeadWrite hup q v, ?_, fun r hr => ?_, by rw [hh]; rfl⟩
    · rw [hh]
      exact (hget2 q).trans (by rw [if_pos rfl, hq])
    · rw [hh]
      exact (hget2 r).trans (by rw [if_neg (Ne.symm hr), hget, if_neg (Ne.symm hr)])
  · have hql := q.isLt
    have h1 : (0x0040010 + 64 * q.val) % 4 = 0 := by omega
    have h2 : s.write32 .host (0x0040010 + 64 * q) ((v.setWidth 64).extractLsb' 0 32) = s.evqHead q v.toNat := by
      have hv : (v.setWidth 64).extractLsb' 0 32 = v := by
        ext i hi
        simp only [BitVec.getElem_extractLsb', BitVec.getLsbD_setWidth, Nat.zero_add, BitVec.getLsbD_eq_getElem hi]
        simp only [Nat.lt_trans hi (by decide : 32 < 64), decide_true, Bool.true_and]
      have n1 : ¬ (0x0100000 ≤ 0x0040010 + 64 * q.val ∧ 0x0040010 + 64 * q.val < 0x0100400) := by omega
      have n2 : ¬ (0x1000000 ≤ 0x0040010 + 64 * q.val ∧ 0x0040010 + 64 * q.val < 0x1040000) := by omega
      have n3 : ¬ (0x0030000 ≤ 0x0040010 + 64 * q.val ∧ 0x0040010 + 64 * q.val < 0x0030400) := by omega
      have n4 : 0x0040000 ≤ 0x0040010 + 64 * q.val ∧ 0x0040010 + 64 * q.val < 0x0041000 := by omega
      have n5 : (0x0040010 + 64 * q.val) % 64 = 0x10 := by omega
      have n6 : (0x0040010 + 64 * q.val - 0x0040000) / 64 = q.val := by omega
      simp only [State.write32, n1, n2, n3, n4, n5, n6, hv, and_self, if_true, if_false]
    rw [exec_evqHeadWrite hup]
    simp only [exec, execRegisterWrite, hup, h1, h2, Bool.not_true, Bool.false_eq_true, false_and, or_self, if_false, ne_eq, not_true_eq_false]
  · have hex : exec (.evqTimeThreshold q) s = .next (s.evqSignal q true) := by
      simp [exec, execEvqTimeThreshold, hen, ht, hu, hle]
    have hget := State.evq_onEvq (hqlen q) (fun e => { e with armed := false, unsignalled := 0 })
    rw [State.evqSignal_sent ha (.inl rfl) hm hmask] at hex
    exact ⟨_, hex, (hget q).trans (if_pos rfl), fun r hr => (hget r).trans (if_neg (Ne.symm hr)), rfl⟩
  · have hnle : ¬ (s.evq q).oldest + us (s.evq q).timeTh ≤ s.now := by omega
    simp [exec, execEvqTimeThreshold, hnle]
  · have hex : exec (.msixVectorUnmask v) s = .next (s.unmask v) := by simp [exec, execMsixVectorUnmask, hup]
    refine ⟨_, hex, ?_⟩
    simp only [State.unmask, hp, hm, Bool.and_self, if_true]
    refine ⟨?_, rfl, rfl⟩
    refine (congrArg (fun l => nth l v.val Msix.reset) (modNth_modNth s.mgmt.msix v.val _ _)).trans ?_
    rw [nth_modNth_of_lt _ _ _ (hvlen v), if_pos rfl]
  · have hex : exec (.msixVectorUnmask v) s = .next (s.unmask v) := by simp [exec, execMsixVectorUnmask, hup]
    refine ⟨_, hex, ?_⟩
    simp only [State.unmask, hp, Bool.false_and, Bool.false_eq_true, if_false]
    exact ⟨(nth_modNth_of_lt _ _ _ (hvlen v)).trans ((if_pos rfl).trans (by rw [hp])), rfl, rfl⟩
  · have hget := State.mbx_onMbx (hmlen m) (fun b => { b with
      st := .busy, token := (v.extractLsb' 0 32).toNat / 65536, notify := (v.extractLsb' 0 32).getLsbD 6
      evq := (v.extractLsb' 0 32).toNat / 256 % 64, takenSeq := 0, wait := .free, bay := none, fetching := false, dmaHold := false })
    have hw : s.write32 c (0x0100000 + 16 * m) (v.extractLsb' 0 32) = _ := (hbell c m _ hown hgo).trans (by rw [State.go, if_neg hb])
    refine ⟨_, hexec c (0x0100000 + 16 * m) v (by omega), ?_⟩
    rw [hw]
    simp only [hget, if_true]
    refine ⟨trivial, ?_, ?_, ?_, trivial, fun n hn => if_neg (Ne.symm hn)⟩
    · simp only [BitVec.extractLsb'_toNat]
      omega
    · simp
    · simp only [BitVec.extractLsb'_toNat]
      omega
  · have hget := State.mbx_onMbx (hmlen m) (fun b => { b with overrun := true })
    have hw : s.write32 c (0x0100000 + 16 * m) (v.extractLsb' 0 32) = _ := (hbell c m _ hown hgo).trans (by rw [State.go, if_pos hb])
    refine ⟨_, hexec c (0x0100000 + 16 * m) v (by omega), ?_⟩
    rw [hw]
    exact (hget _).trans (if_pos rfl)
  · have hk4 : (0x1000000 + 4096 * m.val + 4 * k) % 4 = 0 := by omega
    refine ⟨_, hexec c _ v hk4, ?_⟩
    rw [hbuf c m k v hown hk, State.mbxBufWrite]
    exact (State.mbx_onMbx (hmlen m) _ _).trans ((if_pos rfl).trans (if_pos hb))
  · have hk4 : (0x1000000 + 4096 * m.val + 4 * k) % 4 = 0 := by omega
    refine ⟨_, hexec c _ v hk4, fun a => ?_⟩
    rw [hbuf c m k v hown hk, State.mbxBufWrite]
    have hb := (State.mbx_onMbx (hmlen m) (fun b => if b.st = .busy then { b with wrBusy := true }
      else { b with buf := (List.range 4).foldl (fun t i => tabPutD 0 t (4 * k + i) ((v.extractLsb' 0 32).extractLsb' (8 * i) 8)) b.buf })
      m).trans ((if_pos rfl).trans (if_neg hb))
    exact (congrArg (fun b : Mbx => tabGetD b.buf a 0) hb).trans (tabGetD_wordBytes hwf (4 * k) v a)
  · refine ⟨s.write32 c o (v.extractLsb' 0 32), ?_, ?_⟩
    · have h4 : o % 4 = 0 := by omega
      simp [exec, execRegisterWrite, hup, h4]
    · have h4 : o % 4 = 0 := by omega
      have h4' : (o + 4) % 4 = 0 := by omega
      have hv : (v >>> 32).extractLsb' 0 32 = v.extractLsb' 32 32 := by
        ext i hi
        simp [BitVec.getElem_extractLsb', BitVec.getLsbD_ushiftRight]
      simp [exec, execRegisterWrite, hup, h4, h4', ho, State.write32_mailboxesUp, hv]
  · rcases hor with h | ⟨hb, h⟩ | ⟨rfl, h⟩
    · simp [exec, execRegisterWrite, h]
    · simp [exec, execRegisterWrite, hb, h]
    · have hw (x : Nat) (hx : x + 4 ≤ 0x0100000) (u : BitVec 32) : s.write32 .debug x u = s := by
        have h1 : ¬ (0x0100000 ≤ x ∧ x < 0x0100400) := by omega
        have h2 : ¬ (0x1000000 ≤ x ∧ x < 0x1040000) := by omega
        simp only [State.write32, h1, h2, if_false]
      simp only [exec, execRegisterWrite, hw o (by omega), hw (o + 4) (by omega), ite_self]

end Sys2Proof.Machine
end

section
/-! PROOF. Chapters 17 and 18: sessions of operators, their datagrams, and the function-level reset (O50). -/

namespace Sys2Proof.Machine

/-- The first of the first `n` numbers that a test takes. -/
theorem find?_range_first {p : Nat → Bool} {n i : Nat} (hi : i < n) (hp : p i = true) (hlow : ∀ j < i, p j = false) :
    (List.range n).find? p = some i := by
  rw [List.find?_range_eq_some]
  exact ⟨hp, List.mem_range.2 hi, fun j hj => by rw [hlow j hj]; rfl⟩

theorem State.session_put {s : State} {i : Nat} (h : i < s.mgmt.sessions.length) (x : Option Session) (j : Nat) :
    nth (putNth s.mgmt.sessions i x) j none = if i = j then x else s.session j :=
  nth_putNth j x none h

/-- A new session under the next number, in session register `i`. -/
def State.openSession (s : State) (o : OpenMsg) (i : Nat) : State :=
  (s.onMgmt fun g =>
    { g with
      sessions := putNth g.sessions i (some ⟨g.nextSession, o.keyIndex, 0, 0, s.now⟩)
      nextSession := (g.nextSession + 1) % 2 ^ 32 }).emit (.sessionAccept i)

theorem exec_sessionOpen {s : State} (hup : s.mailboxesUp = true) (o : OpenMsg) {i : Nat} (hi : i < 8) (hlow : ∀ j < i, (s.session j).isSome = true)
    (hfree : s.session i = none) (hsig : o.sigOk = true) (hkey : nth s.boot.opKeys o.keyIndex 0 ≠ 0) :
    exec (.sessionOpen o) s = .next (s.openSession o i) := by
  have hfind : (List.range 8).find? (fun i => (s.session i).isNone) = some i :=
    find?_range_first hi (by rw [hfree]; rfl) fun j hj => by
      rw [Option.isNone_eq_false_iff]
      exact hlow j hj
  have hgood : ¬ ((!o.sigOk) = true ∨ nth s.boot.opKeys o.keyIndex 0 = 0) := by
    rw [hsig]
    exact fun h => h.elim Bool.noConfusion hkey
  simp only [exec, execSessionOpen, hup, hfind, if_neg hgood, State.openSession, Bool.not_true, Bool.false_eq_true, if_false]

/-- An open message that names no enrolled key, is not signed or finds every session taken is dropped. -/
theorem exec_sessionOpen_refused {s : State} (hup : s.mailboxesUp = true) {o : OpenMsg}
    (hbad : (∀ i : Fin 8, (s.session i.val).isSome = true) ∨ o.sigOk = false ∨ nth s.boot.opKeys o.keyIndex 0 = 0) :
    exec (.sessionOpen o) s = .next s.dropDatagram := by
  simp only [exec, execSessionOpen, hup, Bool.not_true, Bool.false_eq_true, if_false]
  split
  · rfl
  · next i hfind =>
    have hi : i < 8 := List.mem_range.1 (List.mem_of_find?_eq_some hfind)
    have hnone : (s.session i).isNone = true := List.find?_some (p := fun i => (s.session i).isNone) hfind
    have hbad2 : (!o.sigOk) = true ∨ nth s.boot.opKeys o.keyIndex 0 = 0 := by
      rcases hbad with h | h | h
      · have hsome := h ⟨i, hi⟩
        rw [Option.isNone_iff_eq_none.1 hnone] at hsome
        cases hsome
      · exact .inl (by rw [h]; rfl)
      · exact .inr h
    rw [if_pos hbad2]

/-- The session of a datagram of the sequence number `n`. -/
def State.heardFrom (s : State) (i : Nat) (x : Session) (n : Nat) : State :=
  s.onMgmt fun g => { g with sessions := putNth g.sessions i (some { x with rxSeq := n, lastRx := s.now }) }

theorem exec_commandDatagramRx {s : State} (hup : s.mailboxesUp = true) {i : Fin 8} {x : Session} (hx : s.session i.val = some x) (n : Nat) (b : Bool) :
    exec (.commandDatagramRx i n b) s = .next (if b = false ∨ n < x.rxSeq then s.dropDatagram
      else if x.rxSeq < n then (s.heardFrom i x n).go (48 + i.val) 0 false 0
      else if (s.mbx (48 + i.val)).st = .done then (s.heardFrom i x n).emit (.response (48 + i.val) (bufResp (s.mbx (48 + i.val)).buf))
      else s.heardFrom i x n) := by
  simp [exec, execCommandDatagramRx, hx, hup, State.heardFrom]

theorem exec_sessionClose {s : State} (hup : s.mailboxesUp = true) {i : Fin 8} {x : Session} (hx : s.session i.val = some x) (n : Nat) (b : Bool) :
    exec (.sessionClose i n b) s = .next (if b = false ∨ n < x.rxSeq then s.dropDatagram else s.endSession i.val) := by
  simp [exec, execSessionClose, hx, hup]

theorem exec_sessionTimeout {s : State} {i : Fin 8} {x : Session} (hx : s.session i.val = some x) :
    exec (.sessionTimeout i) s = .next (if x.lastRx + secs 60 ≤ s.now then s.endSession i.val else s) := by
  simp [exec, execSessionTimeout, hx]

/-- An ended session: its register is free; a running command's response will be discarded, an idle mailbox is as after reset. -/
theorem State.endSession_gone {s : State} (hmbx : s.mgmt.mbx.length = 64) (hses : s.mgmt.sessions.length = 8) (i : Fin 8) :
    (s.endSession i).session i = none ∧ (∀ j ≠ i.val, (s.endSession i).session j = s.session j)
      ∧ (s.endSession i).mbx (48 + i) = (if (s.mbx (48 + i)).st = .busy then { s.mbx (48 + i) with discard := true } else Mbx.reset) := by
  have hi : i.val < s.mgmt.sessions.length := by rw [hses]; exact i.isLt
  have hm : 48 + i.val < s.mgmt.mbx.length := by rw [hmbx]; omega
  have hget (j : Nat) : (s.endSession i).session j = if i.val = j then none else s.session j := State.session_put hi none j
  refine ⟨(hget _).trans (if_pos rfl), fun j hj => (hget j).trans (if_neg (Ne.symm hj)), ?_⟩
  have hset := State.mbx_onMbx (s := s.onMgmt fun g => { g with sessions := putNth g.sessions i none }) hm
    (fun b => if b.st = .busy then { b with discard := true } else Mbx.reset) (48 + i.val)
  exact hset.trans (if_pos rfl)

theorem State.detach_fnSt (s : State) (m : Nat) : (s.detach m).fn.st = s.fn.st := by
  have hfold (l : List Head) (u : State) : (l.foldl (fun s h => s.returnCredit h.lane) u).fn = u.fn :=
    foldl_field State.fn (fun u h => State.mask_fn (P := but [.fn]) (by simp) rfl) l u
  unfold State.detach
  dsimp only
  simp only [State.onCip, State.onNet, State.onBpd, State.onTc, State.onFn, hfold, State.onSched]

theorem State.armDropped_fnSt (s : State) (m : Nat) : (s.armDropped m).fn.st = s.fn.st := by
  unfold State.armDropped
  split <;> rfl

/-- A mailbox that a function-level reset ends. -/
def State.mbxEnded (s : State) (m : Nat) : State := ((s.armDropped m).detach m).onMbx m fun _ => Mbx.reset

theorem State.mbxEnded_mask (s : State) (m : Nat) : (s.mbxEnded m).mask (these [.fn, .sched, .tc, .net, .cip, .bpd, .mbx])
    = s.mask (these [.fn, .sched, .tc, .net, .cip, .bpd, .mbx]) := by
  simp [State.mbxEnded]

theorem State.mbxEnded_mbx {s : State} {m : Nat} (hm : m < s.mgmt.mbx.length) (c : Nat) :
    (s.mbxEnded m).mbx c = if m = c then Mbx.reset else s.mbx c := by
  have hsame : ((s.armDropped m).detach m).mgmt.mbx = s.mgmt.mbx := State.mask_mbx (P := but [.mbx]) (by simp) rfl
  have hget := State.mbx_onMbx (s := (s.armDropped m).detach m) (m := m) (by rwa [hsame]) (fun _ => Mbx.reset) c
  refine hget.trans ?_
  rw [State.mbx, hsame]
  rfl

theorem State.mbxEnded_length (s : State) (m : Nat) : (s.mbxEnded m).mgmt.mbx.length = s.mgmt.mbx.length := by
  have hsame : ((s.armDropped m).detach m).mgmt.mbx = s.mgmt.mbx := State.mask_mbx (P := but [.mbx]) (by simp) rfl
  rw [← hsame]
  exact modNth_length _ _ _

theorem State.mbxEnded_fnSt (s : State) (m : Nat) : (s.mbxEnded m).fn.st = s.fn.st := by
  rw [← State.armDropped_fnSt s m, ← State.detach_fnSt (s.armDropped m) m]
  rfl

/-- The mailboxes after the first `n` ended. -/
theorem State.mbxesEnded {s : State} (n : Nat) (hn : n ≤ s.mgmt.mbx.length) :
    let t := (List.range n).foldl State.mbxEnded s
    (∀ m, t.mbx m = if m < n then Mbx.reset else s.mbx m) ∧ t.fn.st = s.fn.st ∧ t.mgmt.mbx.length = s.mgmt.mbx.length := by
  induction n with
  | zero => exact ⟨fun _ => rfl, rfl, rfl⟩
  | succ n ih =>
    obtain ⟨hget, hfn, hlen⟩ := ih (by omega)
    simp only [List.range_succ, List.foldl_append, List.foldl_cons, List.foldl_nil]
    generalize (List.range n).foldl State.mbxEnded s = u at *
    refine ⟨fun m => ?_, ?_, ?_⟩
    · rw [State.mbxEnded_mbx (by rw [hlen]; exact hn), hget]
      grind
    · rw [State.mbxEnded_fnSt, hfn]
    · rw [State.mbxEnded_length, hlen]

/-- A tag after a function-level reset. -/
def TagState.afterFlr (now : Nat) : TagState → TagState
  | .quarantine x => .quarantine x
  | _ => .quarantine now

theorem TagState.afterFlr_quarantine (now : Nat) (t : TagState) : ∃ x, t.afterFlr now = .quarantine x := by
  cases t
  case quarantine x => exact ⟨x, rfl⟩
  all_goals exact ⟨now, rfl⟩

/-- The endpoint after a function-level reset of the mailboxes. -/
def MgmtSt.afterFlr (now : Nat) (g : MgmtSt) : MgmtSt :=
  { g with
    bme := false, d3 := false, aer := 0, poisonIn := 0, poisonOut := 0, cplTimeout := 0, lateCpl := 0
    tags := tabMap (fun _ t => t.afterFlr now) g.tags
    msix := List.replicate 64 Msix.reset, evqs := List.replicate 64 Evq.reset }

theorem exec_functionLevelReset {s : State} (h : s.bpd.mainReset = false) :
    exec .functionLevelReset s = .next (((List.range 48).foldl State.mbxEnded s).onMgmt fun g => g.afterFlr s.now) := by
  have hstep : (fun (s : State) m => ((s.armDropped m).detach m).onMbx m fun _ => Mbx.reset) = State.mbxEnded := rfl
  have htag : (fun _ (t : TagState) => match t with | .quarantine x => TagState.quarantine x | _ => .quarantine s.now)
      = fun (_ : Nat) (t : TagState) => t.afterFlr s.now := by
    funext _ t
    cases t <;> rfl
  simp only [exec, execFunctionLevelReset, h, Bool.false_eq_true, if_false, hstep, MgmtSt.afterFlr, ← htag] <;> rfl

/-- Settles O50, message by message; the function-level reset by what it does to each mailbox in turn. -/
theorem sessions : Obligations.Sessions := by
  intro s hmbx hses
  have hilen (i : Fin 8) : i.val < s.mgmt.sessions.length := by rw [hses]; exact i.isLt
  have hmlen (i : Fin 8) : 48 + i.val < s.mgmt.mbx.length := by rw [hmbx]; omega
  have hgone (i : Fin 8) := State.endSession_gone hmbx hses i
  refine ⟨fun hup => ⟨fun o i hlow hfree hsig hkey => ?_, fun o hbad => ⟨_, exec_sessionOpen_refused hup hbad, rfl⟩, fun i x hx n => ?_⟩,
    fun i x hx => ⟨fun h => ⟨_, by rw [exec_sessionTimeout hx, if_pos h], hgone i⟩, fun h => by rw [exec_sessionTimeout hx, if_neg (by omega)]⟩,
    fun i n b h => ?_, fun hres => ?_⟩
  · refine ⟨_, exec_sessionOpen hup o i.isLt hlow hfree hsig hkey, ?_, fun j hj => ?_, rfl, rfl⟩
    · exact (State.session_put (hilen i) _ _).trans (if_pos rfl)
    · exact (State.session_put (hilen i) _ _).trans (if_neg (Ne.symm hj))
  · have hdrop (b : Bool) (h : b = false ∨ n < x.rxSeq) : (exec (.sessionClose i n b) s = .next s.dropDatagram)
        ∧ exec (.commandDatagramRx i n b) s = .next s.dropDatagram := by
      rw [exec_sessionClose hup hx, exec_commandDatagramRx hup hx, if_pos h, if_pos h]
      exact ⟨rfl, rfl⟩
    have hrx (h : ¬ n < x.rxSeq) := exec_commandDatagramRx hup hx n true
    refine ⟨fun h b => ⟨⟨_, (hdrop b (.inr h)).1, rfl⟩, _, (hdrop b (.inr h)).2, rfl⟩, ⟨⟨_, (hdrop false (.inl rfl)).1, rfl⟩, _, (hdrop false (.inl rfl)).2, rfl⟩,
      fun h => ⟨_, by rw [exec_sessionClose hup hx, if_neg (by simp; omega)], hgone i⟩, fun h hb => ?_, fun h hb => ?_, fun h hb => ?_⟩
    · have hgo := exec_commandDatagramRx hup hx n true
      rw [if_neg (by simp; omega), if_pos h, State.go, if_neg (show ¬ ((s.heardFrom i x n).mbx (48 + i.val)).st = .busy from hb)] at hgo
      have hget := State.mbx_onMbx (s := s.heardFrom i x n) (hmlen i) (fun b => { b with
        st := .busy, token := 0, notify := false, evq := 0, takenSeq := 0, wait := .free, bay := none, fetching := false, dmaHold := false }) (48 + i.val)
      rw [if_pos rfl] at hget
      exact ⟨_, hgo, (State.session_put (hilen i) _ _).trans (if_pos rfl), by rw [hget], by rw [hget], rfl⟩
    · have hgo := exec_commandDatagramRx hup hx n true
      rw [if_neg (by simp; omega), if_pos h, State.go, if_pos (show ((s.heardFrom i x n).mbx (48 + i.val)).st = .busy from hb)] at hgo
      exact ⟨_, hgo, (State.mbx_onMbx (s := s.heardFrom i x n) (hmlen i) _ _).trans (if_pos rfl)⟩
    · have hgo := exec_commandDatagramRx hup hx n true
      rw [if_neg (by simp; omega), if_neg (by omega), if_pos hb] at hgo
      exact ⟨_, hgo, rfl, rfl⟩
  · simp [exec, execSessionClose, execCommandDatagramRx, execSessionTimeout, h]
  · obtain ⟨hget, hfn, -⟩ := State.mbxesEnded (s := s) 48 (by rw [hmbx]; decide)
    have hmask : ((List.range 48).foldl State.mbxEnded s).mask (these [.fn, .sched, .tc, .net, .cip, .bpd, .mbx])
        = s.mask (these [.fn, .sched, .tc, .net, .cip, .bpd, .mbx]) :=
      foldl_field (State.mask _) State.mbxEnded_mask _ s
    refine ⟨_, exec_functionLevelReset hres, ?_⟩
    generalize (List.range 48).foldl State.mbxEnded s = u at *
    have hlog := State.mask_log hmask rfl
    have hm := State.mask_mgmt hmask rfl
    have htags := congrArg MgmtSt.tags hm
    have hsess := congrArg MgmtSt.sessions hm
    have hroutes := congrArg MgmtSt.routes hm
    dsimp only at htags hsess hroutes
    have htag (k : Nat) : tabGet (tabMap (fun _ t => t.afterFlr s.now) u.mgmt.tags) k = (tabGet s.mgmt.tags k).map (·.afterFlr s.now) := by
      rw [tabGet_tabMap, htags]
    refine ⟨fun m hm => (hget m).trans (if_pos hm), fun m hm => (hget m).trans (if_neg (by omega)), rfl, rfl, rfl, rfl, rfl, rfl, rfl, rfl, rfl,
      fun k => ?_, fun k v hv => ?_, hsess, hroutes, hlog, hfn⟩
    · have h1 := congrArg Option.isSome (htag k)
      rw [Option.isSome_map] at h1
      exact h1
    · have h1 := (htag k).symm.trans hv
      obtain ⟨w, -, rfl⟩ := Option.map_eq_some_iff.1 h1
      exact TagState.afterFlr_quarantine s.now w

end Sys2Proof.Machine
end

section
/-! PROOF. Chapter 21: the resets and the steps of start-up (O52). -/

namespace Sys2Proof.Machine

theorem State.boot_of_mask {s t : State} (h : t.mask (but [.boot]) = s.mask (but [.boot])) : t.boot = s.boot := State.mask_boot h rfl

theorem State.fn_of_mask {s t : State} (h : t.mask (but [.fn]) = s.mask (but [.fn])) : t.fn = s.fn := State.mask_fn h rfl

/-- A change of the function's state changes nothing else of the function. -/
theorem State.setFn_fn (s : State) (f : FnState) (c : Nat) : (s.setFn f c).fn = { s.fn with st := f } := by
  unfold State.setFn
  split
  · next h => rw [← h]
  · rw [State.fn_of_mask (s := s.onFn fun x => { x with st := f }) (by simp)]
    rfl

theorem State.setPair_st (s : State) (p : PairState) : (s.setPair p).pair.st = p := by
  unfold State.setPair
  split
  · assumption
  · have h1 : (withAna s (((s.onPair fun x => { x with st := p }).eventState 0x610 (pairCode p) (pairCode s.pair.st) 0 0).sdtChange 2)).pair
        = (s.onPair fun x => { x with st := p }).pair := State.mask_pair (P := but [.pair]) (by simp) rfl
    rw [h1]
    rfl

/-! ### The bays of a declaration copy -/

theorem State.setChan_enabled (s : State) (b : Nat) (st : ChanState) (c : Nat) : ((s.setChan b st).chan c).enabled = (s.chan c).enabled := by
  by_cases h : (s.chan b).st = st
  · rw [State.setChan, if_pos h]
  · rw [State.chan, State.setChan_chans s b st h]
    exact nth_modNth_field Chan.enabled s.bpd.chans b c Chan.reset fun _ => rfl

theorem State.chanTry_enabled (s : State) (b c : Nat) : ((s.chanTry b).chan c).enabled = (s.chan c).enabled := by
  simp only [State.chanTry]
  split
  · exact State.setChan_enabled s b _ c
  · rfl

theorem State.toggle_enabled (s : State) (b c : Nat) : ((s.toggle b).chan c).enabled = (s.chan c).enabled := by
  have hpend : ((s.onChan b fun c => { c with togglePend := true }).chan c).enabled = (s.chan c).enabled :=
    nth_modNth_field Chan.enabled s.bpd.chans b c Chan.reset fun _ => rfl
  unfold State.toggle
  split <;> simp only [State.chanTry_enabled, State.setChan_enabled, hpend]

/-- Enabling a bay's channel enables it, and no channel becomes disabled. -/
theorem State.enableBay_enabled {s : State} {b : Nat} (hb : b < s.bpd.chans.length) (c : Nat) :
    ((s.enableBay b).chan c).enabled = (decide (b = c) || (s.chan c).enabled) := by
  have hset : ((s.onChan b fun c => { c with enabled := true }).chan c).enabled = (decide (b = c) || (s.chan c).enabled) := by
    rw [State.chan_onChan hb]
    split
    · next h => rw [decide_eq_true h, Bool.true_or]
    · next h => rw [decide_eq_false h, Bool.false_or]
  rw [← hset]
  simp only [State.enableBay]
  split
  · rfl
  · split
    · exact State.toggle_enabled _ b c
    · exact State.toggle_enabled _ b c
    · exact State.chanTry_enabled _ b c

theorem State.enableBay_chans_length (s : State) (b : Nat) : (s.enableBay b).bpd.chans.length = s.bpd.chans.length := by
  have htry (u : State) (b : Nat) : (u.chanTry b).bpd.chans.length = u.bpd.chans.length := by
    simp only [State.chanTry]
    split
    · exact State.setChan_chans_length u b _
    · rfl
  have htog (u : State) (b : Nat) : (u.toggle b).bpd.chans.length = u.bpd.chans.length := by
    unfold State.toggle
    split <;> simp only [htry, State.setChan_chans_length, State.onChan_chans_length]
  simp only [State.enableBay]
  split
  · exact State.onChan_chans_length _ _ _
  · split <;> simp only [htry, htog, State.onChan_chans_length]

/-- The bays that a declaration copy names are enabled. -/
def State.enableDeclared (n : Nat) (bays : BitVec 64) (s : State) : State :=
  (List.range n).foldl (fun (s : State) b => if bays.getLsbD b then s.enableBay b else s) s

theorem State.enableDeclared_mask (n : Nat) (bays : BitVec 64) (s : State) :
    (s.enableDeclared n bays).mask (but [.boot, .pair, .clk]) = s.mask (but [.boot, .pair, .clk]) := by
  refine foldl_field (State.mask _) (fun u b => ?_) _ s
  split
  · simp
  · rfl

theorem State.enableDeclared_enabled {s : State} {n : Nat} (hn : n ≤ s.bpd.chans.length) (bays : BitVec 64) {b : Nat} (hb : b < n)
    (hd : bays.getLsbD b = true) : ((s.enableDeclared n bays).chan b).enabled = true := by
  refine (foldl_range_each (f := fun (s : State) b => if bays.getLsbD b then s.enableBay b else s) (I := fun u => n ≤ u.bpd.chans.length)
    (Q := fun b u => bays.getLsbD b = true → (u.chan b).enabled = true) n (fun u i _ hI => ?_) (fun u i hi hI hd => ?_)
    (fun u i j hi _ hI hQ hd => ?_) hn).2 b hb hd
  · split
    · rwa [State.enableBay_chans_length]
    · exact hI
  · rw [if_pos hd, State.enableBay_enabled (by omega), decide_eq_true rfl, Bool.true_or]
  · split
    · rw [State.enableBay_enabled (by omega), hQ hd, Bool.or_true]
    · exact hQ hd

/-- Whether the bays' power is followed after step 8. -/
def State.followAll (n : Nat) (s : State) : State := (List.range n).foldl (fun (s : State) b => s.powerFollow b) s

theorem State.followAll_mask (n : Nat) (s : State) : (s.followAll n).mask (but [.boot, .bpd]) = s.mask (but [.boot, .bpd]) :=
  foldl_field (State.mask _) (fun u b => by simp) _ s

theorem State.enableBays_declared {s : State} {c : DeclCopy} (h : s.boot.declCopy = some c) :
    s.enableBays true = ((s.enableDeclared 48 c.bays).onBoot fun b => { b with step := 9 }).followAll 48 := by
  have hboot : (s.enableDeclared 48 c.bays).boot = s.boot := State.mask_boot (State.enableDeclared_mask 48 c.bays s) rfl
  have h1 : (s.enableDeclared 48 c.bays).boot.declCopy.isSome = true := by rw [hboot, h]; rfl
  unfold State.enableDeclared at h1
  simp only [State.enableBays, h, if_true, h1, State.followAll, State.enableDeclared]

/-! ### Step 9 -/

/-- What the shelf's image leaves of the function when modules are identified again. -/
theorem State.identify_committed (s : State) (b : Nat) (d : ModuleDesc) : (s.identify b d).fn.committed = s.fn.committed := by
  have hready (u : State) : (u.toReady b).fn.committed = u.fn.committed := by
    have htest (u : State) : (u.retestMin).fn.committed = u.fn.committed := by
      unfold State.retestMin
      split
      · split <;> rfl
      · rfl
    have hfence (u : State) : (u.sendFence b).fn = u.fn := State.fn_of_mask (by simp)
    have hmod : (u.setMod b .ready).fn = u.fn := State.fn_of_mask (by simp)
    simp only [State.toReady]
    split
    · rw [hfence, htest, hmod]
    · rw [htest, hmod]
  have hforeign : (s.foreign b).fn = s.fn := State.fn_of_mask (by simp)
  simp only [State.identify]
  split
  · rw [hforeign]
  · rw [hready]
    split <;> rfl

theorem State.imageFound_kept (s : State) (i : RigImage) : (s.imageFound i).fn.committed = some i
    ∧ (s.imageFound i).boot = { s.boot with declCopy := some ⟨i.shelfId, i.rigGen, i.decl.bayMask⟩ } := by
  have hev (u : State) (w : FWord) (n : Nat) : (u.faultEvent w n).fn = u.fn ∧ (u.faultEvent w n).boot = u.boot :=
    ⟨State.fn_of_mask (by simp), State.boot_of_mask (by simp)⟩
  have hforeign (u : State) (b : Nat) : (u.foreign b).fn = u.fn ∧ (u.foreign b).boot = u.boot :=
    ⟨State.fn_of_mask (by simp), State.boot_of_mask (by simp)⟩
  unfold State.imageFound
  dsimp only
  refine ⟨(foldl_field (fun u : State => u.fn.committed) (fun u b => ?_) _ _).trans ?_, (foldl_field State.boot (fun u b => ?_) _ _).trans ?_⟩
  · split
    · split
      · exact State.identify_committed u b _
      · rw [(hforeign u b).1]
    · rfl
  · split
    · rfl
    · split
      · rw [(hev _ _ _).1]
        rfl
      · rfl
  · split
    · split
      · exact State.boot_of_mask (by simp)
      · exact (hforeign u b).2
    · rfl
  · split
    · rfl
    · split
      · rw [(hev _ _ _).2]
        rfl
      · rfl

theorem State.setFn_boot (s : State) (f : FnState) (c : Nat) : (s.setFn f c).boot = s.boot := State.boot_of_mask (by simp)

theorem State.refuse_kept (s : State) (c : Nat) : (s.refuse c).fn.refusal = c ∧ (s.refuse c).boot = { s.boot with step := 10 }
    ∧ (c ≠ 0x13 → (s.refuse c).fn.st = .stopped) := by
  have hev (u : State) (a b c d e : Nat) : (u.eventState a b c d e).fn = u.fn ∧ (u.eventState a b c d e).boot = u.boot :=
    ⟨State.fn_of_mask (by simp), State.boot_of_mask (by simp)⟩
  simp only [State.refuse]
  split
  · next h =>
    rw [(hev _ _ _ _ _ _).1, (hev _ _ _ _ _ _).2]
    exact ⟨rfl, rfl, fun hn => absurd h hn⟩
  · rw [State.setFn_fn, State.setFn_boot]
    exact ⟨rfl, rfl, fun _ => rfl⟩

theorem State.shelfRead_held {s : State} {l : List RootFound} {i : Option RigImage} {r : Bool} (h : l ≠ [] ∨ s.boot.declCopy.isSome = true) :
    s.shelfRead l i r = if s.rootCause l ≠ 0 then s.refuse (s.rootCause l) else match i with
      | none => s.refuse 0x14
      | some i =>
        if (!r) = true ∨ (!s.imageOk l i) = true then s.refuse 0x14
        else
          let s1 := s.imageFound i
          if s.boot.board.dramGib < i.decl.dramMin then s1.refuse 0x10
          else if s1.readyCount < i.decl.minBays then s1.refuse 0x11
          else ((s1.onBoot fun b => { b with step := 10 }).onPair fun p => { p with initSince := s.now }).setFn .stopped 0 := by
  have hno : ¬ (l.isEmpty = true ∧ s.boot.declCopy.isNone = true) := by
    rintro ⟨h1, h2⟩
    rw [List.isEmpty_iff] at h1
    rw [Option.isNone_iff_eq_none] at h2
    rcases h with h | h
    · exact h h1
    · rw [h2] at h
      cases h
  unfold State.shelfRead
  refine (if_neg hno).trans ?_
  cases i <;> rfl

/-! ### Steps 4, 7, 12 and 13 -/

/-- The state in which the boot ROM looks for a valid slot. -/
def State.bootTry (s : State) : State :=
  if 3 ≤ s.boot.failed then
    (s.onBoot fun b => { b with active := 3 - s.boot.active, failed := 0 }).event 0x638 8
      (2 + 256 * (3 - s.boot.active) + 65536 * s.boot.active) s.boot.failed
  else s

theorem State.bootTry_boot (s : State) : s.bootTry.boot = { s.boot with
    active := if 3 ≤ s.boot.failed then 3 - s.boot.active else s.boot.active, failed := if 3 ≤ s.boot.failed then 0 else s.boot.failed } := by
  have hev (u : State) (a b c d : Nat) : (u.event a b c d).boot = u.boot := State.boot_of_mask (by simp)
  unfold State.bootTry
  split
  · rw [hev]
    rfl
  · rfl

/-- A slot is valid by what it holds and by the fuses. -/
theorem State.slotValid_of_boot {s t : State} {a f : Nat} (h : t.boot = { s.boot with active := a, failed := f }) (n : Nat) :
    t.slotValid n = s.slotValid n := by
  simp only [State.slotValid, h]

theorem State.bootRom_eq (s : State) :
    let a := if 3 ≤ s.boot.failed then 3 - s.boot.active else s.boot.active
    s.bootRom = if s.slotValid a then s.bootTry.onBoot fun b => { b with running := a, failed := b.failed + 1, step := 5 }
      else if s.slotValid (3 - a) then s.bootTry.onBoot fun b => { b with running := 3 - a, failed := b.failed + 1, step := 5 }
      else s.bootTry := by
  have hv := State.slotValid_of_boot (State.bootTry_boot s)
  by_cases h3 : 3 ≤ s.boot.failed
  · have hs : ((s.onBoot fun b => { b with active := 3 - s.boot.active, failed := 0 }).event 0x638 8
        (2 + 256 * (3 - s.boot.active) + 65536 * s.boot.active) s.boot.failed) = s.bootTry := by rw [State.bootTry, if_pos h3]
    by_cases h1 : s.slotValid (3 - s.boot.active) = true
    · simp only [State.bootRom, h3, decide_true, if_true, hs, hv, h1]
    · by_cases h2 : s.slotValid (3 - (3 - s.boot.active)) = true
      · simp only [State.bootRom, h3, decide_true, if_true, hs, hv, h1, h2, if_false, Bool.false_eq_true]
      · simp only [State.bootRom, h3, decide_true, if_true, hs, hv, h1, h2, if_false, Bool.false_eq_true]
  · have hs : s.bootTry = s := by rw [State.bootTry, if_neg h3]
    by_cases h1 : s.slotValid s.boot.active = true
    · simp only [State.bootRom, h3, decide_false, Bool.false_eq_true, if_false, hs, h1, if_true]
    · by_cases h2 : s.slotValid (3 - s.boot.active) = true
      · simp only [State.bootRom, h3, decide_false, Bool.false_eq_true, if_false, hs, h1, h2, if_true]
      · simp only [State.bootRom, h3, decide_false, Bool.false_eq_true, if_false, hs, h1, h2]

/-- The slot that the boot ROM boots. -/
theorem State.bootRom_boot (s : State) :
    let a := if 3 ≤ s.boot.failed then 3 - s.boot.active else s.boot.active
    let f := if 3 ≤ s.boot.failed then 0 else s.boot.failed
    s.bootRom.boot.active = a ∧ (if s.slotValid a then s.bootRom.boot.running = a ∧ s.bootRom.boot.step = 5 ∧ s.bootRom.boot.failed = f + 1
      else if s.slotValid (3 - a) then s.bootRom.boot.running = 3 - a ∧ s.bootRom.boot.step = 5 ∧ s.bootRom.boot.failed = f + 1
      else s.bootRom.boot.step = s.boot.step ∧ s.bootRom.boot.running = s.boot.running) := by
  intro a f
  have hboot : s.bootTry.boot = { s.boot with active := a, failed := f } := State.bootTry_boot s
  have hrom : s.bootRom = if s.slotValid a then s.bootTry.onBoot fun b => { b with running := a, failed := b.failed + 1, step := 5 }
      else if s.slotValid (3 - a) then s.bootTry.onBoot fun b => { b with running := 3 - a, failed := b.failed + 1, step := 5 }
      else s.bootTry := State.bootRom_eq s
  rw [hrom]
  by_cases h1 : s.slotValid a = true
  · simp only [if_pos h1, State.onBoot, hboot, and_self]
  · by_cases h2 : s.slotValid (3 - a) = true
    · simp only [if_neg h1, if_pos h2, State.onBoot, hboot, and_self]
    · simp only [if_neg h1, if_neg h2, hboot, and_self]

theorem State.testFault_kept (s : State) (u : Nat) : (s.testFault u).fn.st = .fenced ∧ (s.testFault u).boot = s.boot := by
  simp only [State.testFault]
  rw [State.setFn_fn]
  refine ⟨rfl, State.boot_of_mask ?_⟩
  simp only [nodeRegion]
  split <;> simp

/-- A withdrawn cell of the Cipher Ring. -/
theorem State.withdraw_cipher {s : State} {u : Nat} (h1 : 0x1C0 ≤ u) (h2 : u ≤ 0x1DF) (hnew : u ∉ s.flt.withdrawn) :
    s.withdraw u = (s.onFlt fun f => { f with withdrawn := f.withdrawn ++ [u] }).onCip fun c => { c with withdrawn := c.withdrawn ++ [u - 0x1C0] } := by
  have n1 : s.flt.withdrawn.contains u = false := by simpa using hnew
  have n2 : ¬ (0x240 ≤ u ∧ u ≤ 0x29F) := by omega
  simp only [State.withdraw, n1, Bool.false_eq_true, if_false, if_neg n2, if_pos (And.intro h1 h2)]

theorem State.loaded_kept (s : State) : s.loaded.boot.step = 13
    ∧ s.loaded.fn = { s.fn with rules := s.fn.committed.map (·.cls), lanesOpen := false, st := .armed } := by
  have hmiss (u : State) : (if u.holder then u.missingBays else u).fn = u.fn := by
    split
    · exact State.fn_of_mask (by simp)
    · rfl
  have hres (u : State) : u.resumeRebuild.fn = u.fn := State.fn_of_mask (by simp)
  have hchk (u : State) : u.checkStrike.fn = u.fn := State.fn_of_mask (by simp)
  refine ⟨rfl, ?_⟩
  simp only [State.loaded]
  show (State.resumeRebuild _).fn = _
  rw [hres, hchk, State.setFn_fn, hmiss]
  rfl

theorem State.startEnd_joined {s : State} (hj : s.joined = true) (hf : s.fn.st = .armed) :
    s.startEnd.boot.step = 14 ∧ s.startEnd.fn.st = .running ∧ (s.pair.st = .joining → s.pair.resync = 1 → s.startEnd.pair.st = .standby) := by
  have hpair : (s.tcEmpty.setFn .running 0).pair = s.pair := State.mask_pair (P := but [.pair]) (by simp) rfl
  have hfn : (s.tcEmpty.setFn .running 0).fn.st = .running := by rw [State.setFn_fn]
  have hset : ((s.tcEmpty.setFn .running 0).setPair .standby).fn = (s.tcEmpty.setFn .running 0).fn := State.fn_of_mask (by simp)
  simp only [State.startEnd, if_pos (And.intro hj hf)]
  refine ⟨rfl, ?_, fun h1 h2 => ?_⟩
  · show (if _ then _ else _ : State).fn.st = _
    split
    · rw [hset, hfn]
    · exact hfn
  · rw [if_pos (by rw [hpair]; exact ⟨h1, h2⟩)]
    exact State.setPair_st _ _

/-! ### The resets -/

theorem exec_chipReset {s : State} {cause : ResetCause} (hreset : s.bpd.mainReset = false)
    (hmay : if cause = .fStop then s.flt.stopped = true ∧ s.flt.stuck = false else s.flt.stopped = false) :
    exec (.chipReset cause) s = .next s.dieReset := by
  cases cause
  case fStop =>
    obtain ⟨h1, h2⟩ := (if_pos rfl).mp hmay
    simp [exec, execChipReset, hreset, h1, h2]
  all_goals
    have h1 : s.flt.stopped = false := hmay
    simp [exec, execChipReset, hreset, h1]

theorem exec_chipReset_refused {s : State} {cause : ResetCause} (hno : s.bpd.mainReset = true ∨ (cause ≠ .fStop ∧ s.flt.stopped = true)
    ∨ (cause = .fStop ∧ s.flt.stopped = false)) : exec (.chipReset cause) s = .next s := by
  rcases hno with h | ⟨hc, h⟩ | ⟨rfl, h⟩
  · simp [exec, execChipReset, h]
  · cases cause
    case fStop => exact absurd rfl hc
    all_goals simp [exec, execChipReset, h]
  · simp [exec, execChipReset, h]

theorem exec_auxPowerOn {s : State} {board : Board} (h : s.bpd.aux = false ∨ s.boot.step = 1) :
    exec (.auxPowerOn board) s = .next { s.dieReset with
      flt := FltSt.reset
      bpd := { BpdSt.reset with chans := s.bpd.chans.map fun c => { Chan.reset with pres := c.pres } }
      sheet := { s.dieReset.sheet with ports := s.sheet.ports.map Port.powered }
      boot := { s.dieReset.boot with board := board, svnFuses := max s.boot.svnFuses board.svnFuses, step := 1, tripHold := false } } := by
  have hno : ¬ (s.bpd.aux = true ∧ s.boot.step ≠ 1) := by
    rcases h with h | h <;> simp [h]
  simp only [exec, execAuxPowerOn, if_neg hno]

theorem exec_startUpStepEnd (s : State) (e : StepEnv) : exec (.startUpStepEnd e) s = execStartUpStepEnd e s := rfl

/-- What ends step `n` of start-up, from step 4, at an awake controller that is not fenced. -/
theorem exec_startUp {s : State} (haux : s.bpd.aux = true) (haw : s.awake = true) (hf : s.fn.st ≠ .fenced) (e : StepEnv) :
    (s.boot.step = 4 → s.boot.tripHold = false → exec (.startUpStepEnd e) s = .next s.bootRom) ∧
    (s.boot.step = 5 → exec (.startUpStepEnd e) s = .next ((s.onBoot fun b => { b with step := 6 }).onCip fun c => { c with shelfKey := s.boot.shelfKeyNor })) ∧
    (∀ gib, s.boot.step = 6 → exec (.startUpStepEnd (.dram gib)) s =
      .next ((s.onBoot fun b => { b with step := 7 }).onBoot fun b => { b with board := { b.board with dramGib := gib } })) ∧
    (∀ l, s.boot.step = 7 → exec (.startUpStepEnd (.selfTest l)) s = .next (s.selfTests l)) ∧
    (s.boot.step = 8 → exec (.startUpStepEnd (.declCopy true)) s = .next (s.enableBays true)) ∧
    (∀ l i r, s.boot.step = 9 → exec (.startUpStepEnd (.shelf l i r)) s = .next (s.shelfRead l i r)) ∧
    (s.boot.step = 12 → s.joined = true ∨ (s.pair.st = .taking ∧ s.pair.takeStep = 7 ∧ s.log.ckpt = none) → exec (.startUpStepEnd e) s = .next s.loaded) ∧
    (s.boot.step = 13 → exec (.startUpStepEnd e) s = .next (if s.pair.st = .taking then s else s.startEnd)) := by
  have hno : ¬ ((!s.awake) = true ∨ s.fn.st = .fenced) := by simp [haw, hf]
  refine ⟨fun h h2 => ?_, fun h => ?_, fun gib h => ?_, fun l h => ?_, fun h => ?_, fun l i r h => ?_, fun h h2 => ?_, fun h => ?_⟩
  all_goals
    rw [exec_startUpStepEnd]
    unfold execStartUpStepEnd
    rw [haux, h]
    refine congrArg Host.Outcome.next ((if_neg hno).trans ?_)
  · exact if_neg (by rw [h2]; exact Bool.false_ne_true)
  · rfl
  · rfl
  · rfl
  · rfl
  · rfl
  · have hrole : s.joined = true ∨ (s.pair.st = .taking ∧ s.pair.takeStep = 7 ∧ s.log.ckpt.isNone = true) :=
      h2.imp_right fun ⟨h1, h2, h3⟩ => ⟨h1, h2, by rw [h3]; rfl⟩
    exact if_pos hrole
  · rfl
/-- Steps 10 and 11 wait for the controller's role. -/
theorem exec_startUp_role {s : State} (haux : s.bpd.aux = true) (haw : s.awake = true) (hf : s.fn.st ≠ .fenced) (e : StepEnv) :
    let at_ := fun n => s.onBoot fun b => { b with step := n }
    (s.boot.step = 10 → (s.joined = true → s.fn.refusal = 0 → exec (.startUpStepEnd e) s = .next (at_ 11)) ∧
      (s.pair.st = .taking → s.pair.takeStep ≠ 3 → exec (.startUpStepEnd e) s = .next s) ∧
      (s.pair.st = .taking → s.pair.takeStep = 3 → s.fn.refusal = 0 → (∀ p ∈ s.sheet.ports, p.modSt ≠ .fencing) →
        exec (.startUpStepEnd e) s = .next (at_ 11))) ∧
    (s.boot.step = 11 → s.joined = true → exec (.startUpStepEnd e) s = .next (if s.pair.resync = 1 then at_ 12 else s)) := by
  have hno : ¬ ((!s.awake) = true ∨ s.fn.st = .fenced) := by simp [haw, hf]
  have hnot (h : s.pair.st = .taking) : ¬ s.joined = true := by simp [State.joined, h]
  refine ⟨fun h => ⟨fun hj hr => ?_, fun hp ht => ?_, fun hp ht hr hfen => ?_⟩, fun h hj => ?_⟩
  all_goals
    rw [exec_startUpStepEnd]
    unfold execStartUpStepEnd
    rw [haux, h]
    refine congrArg Host.Outcome.next ((if_neg hno).trans ?_)
  · have hsame : { s.fn with refusal := 0 } = s.fn := by rw [← hr]
    refine (if_pos hj).trans ((if_pos (Or.inl hr)).trans ?_)
    exact congrArg (fun f => { s.onBoot (fun b => { b with step := 11 }) with fn := f }) hsame
  · exact (if_neg (hnot hp)).trans (if_neg fun h => ht h.2.2.1)
  · refine (if_neg (hnot hp)).trans (if_pos ⟨hr, hp, ht, ?_⟩)
    rw [Bool.not_eq_true', List.any_eq_false]
    exact fun p hm => by simpa using hfen p hm
  · exact if_pos hj

/-- The first three steps wait for the supply; a stopped or fenced controller stays at its later step. -/
theorem exec_startUp_early {s : State} (haux : s.bpd.aux = true) (e : StepEnv) :
    (s.boot.step = 1 → exec (.startUpStepEnd e) s = .next (s.onBoot fun b => { b with step := 2 })) ∧
    (s.boot.step = 2 → exec (.startUpStepEnd e) s = .next (if s.feedOn then s.onBoot fun b => { b with step := 3 } else s)) ∧
    (s.boot.step = 3 → exec (.startUpStepEnd e) s = .next (if s.bpd.mainReset then s else s.onBoot fun b => { b with step := 4 })) ∧
    (4 ≤ s.boot.step → s.awake = false ∨ s.fn.st = .fenced → exec (.startUpStepEnd e) s = .next s) := by
  refine ⟨fun h => ?_, fun h => ?_, fun h => ?_, fun h hno => ?_⟩
  · rw [exec_startUpStepEnd]
    unfold execStartUpStepEnd
    rw [haux, h]
    rfl
  · rw [exec_startUpStepEnd]
    unfold execStartUpStepEnd
    rw [haux, h]
    rfl
  · rw [exec_startUpStepEnd]
    unfold execStartUpStepEnd
    rw [haux, h]
    rfl
  · have hcond : (!s.awake) = true ∨ s.fn.st = .fenced := hno.imp_left fun h => by rw [h]; rfl
    obtain ⟨n, hn⟩ : ∃ n, s.boot.step = n + 4 := ⟨s.boot.step - 4, by omega⟩
    rw [exec_startUpStepEnd]
    unfold execStartUpStepEnd
    rw [haux, hn]
    exact congrArg Host.Outcome.next (if_pos hcond)

/-- Settles O52, reset by reset and step by step of Table 21.2. -/
theorem resetsAndStart : Obligations.ResetsAndStart := by
  intro s
  refine ⟨fun board h => ⟨_, exec_auxPowerOn h, rfl, rfl, rfl, rfl, rfl, rfl, rfl, rfl, rfl, rfl, rfl, rfl⟩, fun board h1 h2 => by
      simp only [exec, execAuxPowerOn, if_pos (And.intro h1 h2)], fun h1 h2 h3 => ⟨_, by
      simp only [exec, execMainDiePowerUp, h1, h2, h3, Bool.and_self, if_true], rfl⟩, fun h => ?_,
    fun cause hr hm => ⟨_, exec_chipReset hr hm, rfl, rfl, rfl, rfl, rfl, rfl, rfl, rfl, rfl, rfl, rfl, rfl, rfl, rfl⟩,
    fun cause h => exec_chipReset_refused h, fun e haux => ?_⟩
  · rcases h with h | h <;> simp [exec, execMainDiePowerUp, h]
  · obtain ⟨h1, h2, h3, hstay⟩ := exec_startUp_early haux e
    refine ⟨fun h => ⟨_, h1 h, rfl⟩, fun h => ?_, fun h => ?_, hstay, fun haw hf => ?_⟩
    · split
      · next hfeed => exact ⟨_, (h2 h).trans (by rw [if_pos hfeed]), rfl⟩
      · next hfeed => exact (h2 h).trans (by rw [if_neg hfeed])
    · split
      · next hres => exact (h3 h).trans (by rw [if_pos hres])
      · next hres => exact ⟨_, (h3 h).trans (by rw [if_neg hres]), rfl⟩
    · obtain ⟨h4, h5, h6, h7, h8, h9, h12, h13⟩ := exec_startUp haux haw hf e
      obtain ⟨h10, h11⟩ := exec_startUp_role haux haw hf e
      refine ⟨fun h ht => ?_, fun h => ⟨_, h5 h, rfl, rfl⟩, fun gib h => ⟨_, h6 gib h, rfl, rfl⟩, fun h => ⟨⟨_, h7 [] h, ?_⟩, fun k u hk hu1 hu2 hnew => ⟨_, h7 _ h, ?_⟩,
        fun k u hk hu => ⟨_, h7 _ h, ?_⟩⟩, fun c h hlen hc => ?_, fun h => ⟨fun i r hc => ⟨_, h9 [] i r h, ?_⟩, fun l i r hl hcause => ⟨_, h9 l i r h, ?_⟩,
          fun l i r hl hcause => ⟨fun hbad => ⟨_, h9 l (some i) r h, ?_⟩, fun hr hok hd hb => ⟨_, h9 l (some i) r h, ?_⟩⟩⟩,
        fun h => ⟨fun hj hr => ⟨_, (h10 h).1 hj hr, rfl⟩, (h10 h).2.1, fun hp ht hr hno => ⟨_, (h10 h).2.2 hp ht hr hno, rfl⟩⟩, fun h hj => ?_,
        fun h hrole => ⟨_, h12 h hrole, ?_⟩, fun h => ⟨fun hp => (h13 h).trans (by rw [if_pos hp]), fun hj ha => ⟨_, h13 h, ?_⟩⟩⟩
      · obtain ⟨k1, k2⟩ := State.bootRom_boot s
        rw [h] at k2
        exact ⟨s.bootRom, h4 h ht, k1, k2⟩
      · exact if_neg hf
      · have hw := State.withdraw_cipher (s := s.onBoot fun b => { b with failed := 0 }) hu1 hu2 hnew
        have hwd : withdrawable u = true := decide_eq_true (.inr ⟨hu1, hu2⟩)
        have hf2 : ¬ ((s.onBoot fun b => { b with failed := 0 }).withdraw u).fn.st = .fenced := by
          rw [hw]
          exact hf
        simp only [State.selfTests, List.filter_cons, bne_iff_ne, ne_eq, hk, not_false_eq_true, if_true, List.filter_nil, List.foldl_cons, List.foldl_nil,
          hwd, if_neg hf2]
        rw [hw]
        exact ⟨rfl, rfl, rfl, rfl⟩
      · obtain ⟨k1, k2⟩ := State.testFault_kept (s.onBoot fun b => { b with failed := 0 }) u
        simp only [State.selfTests, List.filter_cons, bne_iff_ne, ne_eq, hk, not_false_eq_true, if_true, List.filter_nil, List.foldl_cons, List.foldl_nil,
          hu, Bool.false_eq_true, if_false, k1]
        rw [k2]
        exact ⟨trivial, h, rfl⟩
      · have hm := State.followAll_mask 48 ((s.enableDeclared 48 c.bays).onBoot fun b => { b with step := 9 })
        refine ⟨_, h8 h, ?_⟩
        rw [State.enableBays_declared hc]
        have hboot := State.mask_boot hm rfl
        have hchan (b : Fin 48) (hb : c.bays.getLsbD b = true) := State.enableDeclared_enabled (n := 48) (by rw [hlen]) c.bays b.isLt hb
        generalize ((s.enableDeclared 48 c.bays).onBoot fun b => { b with step := 9 }).followAll 48 = u at *
        have hchans := congrArg BpdSt.chans (State.mask_bpd hm rfl)
        refine ⟨by rw [hboot]; rfl, fun b hb => ?_⟩
        rw [← hchan b hb, State.chan]
        exact congrArg (fun l => (nth l b.val Chan.reset).enabled) hchans
      · have hnew : s.shelfRead [] i r = (s.onBoot fun b => { b with step := 14 }).onPair fun p => { p with initSince := s.now } := by
          simp [State.shelfRead, hc]
        rw [hnew]
        exact ⟨rfl, rfl⟩
      · obtain ⟨k1, k2, k3⟩ := State.refuse_kept s (s.rootCause l)
        rw [State.shelfRead_held hl, if_pos hcause, k2]
        exact ⟨k1, rfl, k3⟩
      · have himg : (!r) = true ∨ (!s.imageOk l i) = true := by
          rcases hbad with h | h <;> simp [h]
        obtain ⟨k1, k2, k3⟩ := State.refuse_kept s 0x14
        rw [State.shelfRead_held hl, if_neg (not_not_intro hcause)]
        dsimp only
        rw [if_pos himg, k2]
        exact ⟨k1, rfl, k3 (by decide)⟩
      · have himg : ¬ ((!r) = true ∨ (!s.imageOk l i) = true) := by simp [hr, hok]
        obtain ⟨k1, k2⟩ := State.imageFound_kept s i
        have hdram : ¬ (s.imageFound i).boot.board.dramGib < i.decl.dramMin := by
          rw [k2]
          exact Nat.not_lt.2 hd
        have hbays : ¬ (s.imageFound i).readyCount < i.decl.minBays := by
          rw [hb]
          exact Nat.not_lt_zero _
        have hram : ¬ s.boot.board.dramGib < i.decl.dramMin := Nat.not_lt.2 hd
        rw [State.shelfRead_held hl, if_neg (not_not_intro hcause)]
        dsimp only
        rw [if_neg himg, if_neg hram, if_neg hbays, State.setFn_fn, State.setFn_boot]
        simp only [State.onPair, State.onBoot, k1, k2, and_self]
      · have hx := h11 h hj
        split
        · next hres => exact ⟨_, hx.trans (by rw [if_pos hres]), rfl⟩
        · next hres => exact hx.trans (by rw [if_neg hres])
      · obtain ⟨k1, k2⟩ := State.loaded_kept s
        rw [k2]
        exact ⟨k1, rfl, rfl, rfl⟩
      · have hnt : ¬ s.pair.st = .taking := fun ht => by simp [State.joined, ht] at hj
        rw [if_neg hnt]
        exact State.startEnd_joined hj ha

end Sys2Proof.Machine
end

section
/-! PROOF. Chapters 2 and 3: the frame boundary and the slots of the committed image (O19). -/

namespace Sys2Proof.Machine

theorem State.sched_of_mask {s t : State} (h : t.mask (but [.sched]) = s.mask (but [.sched])) : t.sched = s.sched := State.mask_sched h rfl

/-- What a boundary leaves of the intake: the queues and the next order number. -/
def Sched.intake (x : Sched) : List (List Head) × Nat := (x.inputs, x.nextOrder)

theorem State.restoreBudgets_intake (s : State) : s.restoreBudgets.sched.intake = s.sched.intake := by
  unfold State.restoreBudgets
  split
  · rfl
  · refine foldl_field (fun u : State => u.sched.intake) (fun u e => ?_) _ s
    split <;> rfl

theorem State.sealCharge_intake (s : State) : s.sealCharge.sched.intake = s.sched.intake := by
  unfold State.sealCharge
  refine foldl_field (fun u : State => u.sched.intake) (fun u e => ?_) _ s
  split <;> rfl

/-- With no seal in the table of commands nothing is charged. -/
theorem State.sealCharge_eq_self {s : State} (h : ∀ n c, (n, c) ∈ s.sched.cmds → c.kind ≠ .seal) : s.sealCharge = s := by
  have hnil : (s.sched.cmds.filter fun e => e.2.kind == .seal && e.2.phase != .taken && decide (e.2.fetchNext < e.2.len)) = [] := by
    rw [List.filter_eq_nil_iff]
    intro e he
    have hk := h e.1 e.2 he
    simp [hk]
  simp only [State.sealCharge, hnil, List.foldl_nil]

/-- The budgets and debts after the boundary's pass over the lanes in the list. -/
theorem State.foldl_restoreLane (lanes : List (Nat × LaneEntry)) (hnd : (lanes.map Prod.fst).Nodup) {s : State} (hwf : tabWf s.sched.debt = true) :
    let t := lanes.foldl (fun (s : State) (e : Nat × LaneEntry) => if e.2.budget = 0 then s else s.restoreLane e.1 e.2) s
    (∀ l, l ∉ lanes.map Prod.fst → tabGetD t.sched.left l 0 = tabGetD s.sched.left l 0 ∧ tabGetD t.sched.debt l 0 = tabGetD s.sched.debt l 0) ∧
    ∀ l e, (l, e) ∈ lanes → e.budget ≠ 0 → tabGetD t.sched.left l 0 = s.frameBudget e - tabGetD s.sched.debt l 0
      ∧ tabGetD t.sched.debt l 0 = tabGetD s.sched.debt l 0 - s.frameBudget e := by
  induction lanes generalizing s with
  | nil => exact ⟨fun l _ => ⟨rfl, rfl⟩, fun l e h => absurd h List.not_mem_nil⟩
  | cons a rest ih =>
    obtain ⟨k, x⟩ := a
    rw [List.map_cons, List.nodup_cons] at hnd
    obtain ⟨hk, hrest⟩ := hnd
    have hstep : ∃ u : State, u = (if x.budget = 0 then s else s.restoreLane k x) ∧ tabWf u.sched.debt = true ∧ (∀ e, u.frameBudget e = s.frameBudget e) ∧
        (∀ l, l ≠ k → tabGetD u.sched.left l 0 = tabGetD s.sched.left l 0 ∧ tabGetD u.sched.debt l 0 = tabGetD s.sched.debt l 0) ∧
        (x.budget ≠ 0 → tabGetD u.sched.left k 0 = s.frameBudget x - tabGetD s.sched.debt k 0
          ∧ tabGetD u.sched.debt k 0 = tabGetD s.sched.debt k 0 - s.frameBudget x) := by
      refine ⟨_, rfl, ?_⟩
      split
      · next h0 => exact ⟨hwf, fun _ => rfl, fun _ _ => ⟨rfl, rfl⟩, fun h => absurd h0 h⟩
      · refine ⟨tabWf_tabPutD hwf _ _ _, fun _ => rfl, fun l hl => ⟨?_, ?_⟩, fun _ => ⟨?_, ?_⟩⟩
        · exact congrArg (·.getD 0) (tabGet_tabPut_other s.sched.left _ hl)
        · exact (tabGet_tabPutD hwf 0 _ k l).trans (if_neg hl)
        · exact congrArg (·.getD 0) (tabGet_tabPut_same s.sched.left k _)
        · exact (tabGet_tabPutD hwf 0 _ k k).trans (if_pos rfl)
    obtain ⟨u, hu, hw, hb, hother, hthis⟩ := hstep
    obtain ⟨i1, i2⟩ := ih hrest hw
    simp only [List.foldl_cons, ← hu]
    refine ⟨fun l hl => ?_, fun l e hm h0 => ?_⟩
    · rw [List.map_cons, List.mem_cons, not_or] at hl
      obtain ⟨h1, h2⟩ := i1 l hl.2
      exact ⟨h1.trans (hother l hl.1).1, h2.trans (hother l hl.1).2⟩
    · rcases List.mem_cons.1 hm with h | h
      · injection h with h1 h2
        subst h1 h2
        obtain ⟨j1, j2⟩ := i1 l hk
        exact ⟨j1.trans (hthis h0).1, j2.trans (hthis h0).2⟩
      · have hne : l ≠ k := by
          rintro rfl
          exact hk (List.mem_map.2 ⟨_, h, rfl⟩)
        obtain ⟨j1, j2⟩ := i2 l e h h0
        rw [hb, (hother l hne).2] at j1 j2
        exact ⟨j1, j2⟩

/-- The state in which the queued changes of a boundary take effect. -/
def State.atBoundary (s : State) : State :=
  (((s.onClk fun c => { c with frame := (c.frame + 1) % 2 ^ 64, slot := 0, dramNet := !c.dramNet }).onMap
    fun m => { m with applied := 0 }).restoreBudgets.thermalGroups).onCip fun c => { c with rclkPs := c.rclkPs + 10238976 }

theorem exec_frameBoundary {s : State} (h : s.awake = true) :
    exec .frameBoundary s = .next ((s.atBoundary.applyChanges.sealCharge.smartCheck).ckptAge).ckptStep := by
  simp only [exec, execFrameBoundary, h, Bool.not_true, Bool.false_eq_true, if_false, State.atBoundary]

/-- A boundary with nothing queued. -/
theorem State.applyChanges_nil {s : State} (h : s.fn.changes = []) : s.applyChanges = s := by simp [State.applyChanges, h]

/-- Whether an entry's run covers the slot. -/
def SlotEntry.covers (slot : Nat) (e : SlotEntry) : Bool := decide (e.start ≤ slot ∧ slot ≤ e.start + e.length)

/-- The grants of a slot. -/
def State.slotGrants (s : State) (i : RigImage) (slot : Nat) : List Grant :=
  (i.slotTables.filter fun t => t.seqId != 0x30).flatMap fun t =>
    (t.entries.filter (SlotEntry.covers slot)).map fun e => ⟨t.seqId, e.resource, e.cls, e.lane, s.taker i e⟩

theorem exec_sequencerSlot {s : State} {slot : Fin 16384} {i : RigImage} (hle : s.clk.slot ≤ slot) (hi : s.fn.committed = some i)
    (hseq : s.sequencing = true) :
    exec (.sequencerSlot slot) s = .next ((s.onClk fun c => { c with slot := slot.val }).onSched fun x => { x with grants := s.slotGrants i slot }) := by
  have hsame : s.slotGrants i slot = (s.onClk fun c => { c with slot := slot.val }).slotGrants i slot := rfl
  rw [hsame]
  simp only [exec, execSequencerSlot, if_neg (Nat.not_lt.2 hle), hi, hseq, if_true]
  rfl

theorem State.mem_slotGrants {s : State} {i : RigImage} {slot : Nat} {g : Grant} : g ∈ s.slotGrants i slot ↔
    ∃ tb ∈ i.slotTables, tb.seqId ≠ 0x30 ∧ ∃ e ∈ tb.entries, (e.start ≤ slot ∧ slot ≤ e.start + e.length)
      ∧ g = ⟨tb.seqId, e.resource, e.cls, e.lane, s.taker i e⟩ := by
  simp only [State.slotGrants, List.mem_flatMap, List.mem_filter, bne_iff_ne, List.mem_map, SlotEntry.covers, decide_eq_true_eq]
  constructor
  · rintro ⟨tb, ⟨h1, h2⟩, e, ⟨h3, h4⟩, rfl⟩
    exact ⟨tb, h1, h2, e, h3, h4, rfl⟩
  · rintro ⟨tb, h1, h2, e, h3, h4, rfl⟩
    exact ⟨tb, ⟨h1, h2⟩, e, ⟨h3, h4⟩, rfl⟩

/-- Settles O19, from what the boundary's pass over the lanes leaves and from the entries whose run covers the slot. -/
theorem frameAndSlots : Obligations.FrameAndSlots := by
  intro s
  refine ⟨fun haw => ⟨_, exec_frameBoundary haw, ?_, ?_, ?_⟩, fun haw hch => ⟨_, exec_frameBoundary haw, ?_⟩, fun slot i hle hi hseq =>
    ⟨_, exec_sequencerSlot hle hi hseq, rfl, rfl, fun q r c l => ?_, fun g hg => ?_⟩⟩
  · exact State.mask_clk (P := but [.clk]) (s := s.onClk fun c => { c with frame := (c.frame + 1) % 2 ^ 64, slot := 0, dramNet := !c.dramNet })
      (by simp [State.atBoundary]) rfl
  · exact State.boot_of_mask (by simp [State.atBoundary])
  · exact State.mask_pair (P := but [.pair]) (by simp [State.atBoundary]) rfl
  · have hfn : s.atBoundary.fn = s.fn := State.fn_of_mask (by simp [State.atBoundary])
    rw [State.applyChanges_nil (by rw [hfn]; exact hch)]
    have hcip : s.atBoundary.sealCharge.smartCheck.ckptAge.ckptStep.cip = s.atBoundary.cip := State.mask_cip (P := but [.cip]) (by simp) rfl
    have hsched : s.atBoundary.sealCharge.smartCheck.ckptAge.ckptStep.sched = s.atBoundary.sealCharge.sched := State.sched_of_mask (by simp)
    let u := (s.onClk fun c => { c with frame := (c.frame + 1) % 2 ^ 64, slot := 0, dramNet := !c.dramNet }).onMap fun m => { m with applied := 0 }
    have hat : s.atBoundary.sched = u.restoreBudgets.sched := State.sched_of_mask (s := u.restoreBudgets) (by simp [State.atBoundary, u])
    have hclk : s.atBoundary.cip.rclkPs = s.cip.rclkPs + 10238976 := by
      have h1 : (u.restoreBudgets.thermalGroups).cip = s.cip := State.mask_cip (P := but [.cip]) (by simp [u]) rfl
      show (u.restoreBudgets.thermalGroups).cip.rclkPs + 10238976 = _
      rw [h1]
    have hin : s.atBoundary.sealCharge.sched.intake = s.sched.intake := by
      rw [State.sealCharge_intake, hat]
      exact State.restoreBudgets_intake u
    dsimp only
    rw [hcip, hsched]
    refine ⟨hclk, congrArg Prod.fst hin, congrArg Prod.snd hin, fun i l e hi hle hnd hb hwf hnos => ?_⟩
    have hbud : u.restoreBudgets = i.lanes.foldl (fun (s : State) (e : Nat × LaneEntry) => if e.2.budget = 0 then s else s.restoreLane e.1 e.2) u := by
      have hu : u.fn.committed = some i := hi
      simp only [State.restoreBudgets, hu]
    have hcmds : s.atBoundary.sched.cmds = s.sched.cmds := by
      rw [hat, hbud]
      refine foldl_field (fun u : State => u.sched.cmds) (fun u e => ?_) _ u
      split <;> rfl
    rw [State.sealCharge_eq_self (by rw [hcmds]; exact hnos), hat, hbud]
    exact (State.foldl_restoreLane i.lanes hnd (s := u) hwf).2 l e hle hb
  · show (∃ g ∈ s.slotGrants i slot, _) ↔ _
    simp only [State.mem_slotGrants]
    constructor
    · rintro ⟨g, ⟨tb, h1, h2, e, h3, ⟨h4, h5⟩, rfl⟩, rfl, rfl, rfl, rfl⟩
      exact ⟨tb, h1, rfl, h2, e, h3, h4, h5, rfl, rfl, rfl⟩
    · rintro ⟨tb, h1, rfl, h2, e, h3, h4, h5, rfl, rfl, rfl⟩
      exact ⟨_, ⟨tb, h1, h2, e, h3, ⟨h4, h5⟩, rfl⟩, rfl, rfl, rfl, rfl⟩
  · obtain ⟨tb, -, -, e, -, -, rfl⟩ := State.mem_slotGrants.1 hg
    refine ⟨fun hc ho hready => ?_, fun hc hst => ?_⟩
    · simp only [State.taker, if_neg hc, if_neg ho, if_pos hready]
    · simp only [State.taker, if_pos hc, if_neg hst]

end Sys2Proof.Machine
end

section
/-! PROOF. Chapters 2 and 3: intake, admission and the overlap wait (O20). -/

namespace Sys2Proof.Machine

/-- A list in which one element alone is taken. -/
theorem filterMap_single {α β : Type} {f : α → Option β} {l : List α} (hnd : l.Nodup) {a : α} (ha : a ∈ l) {b : β} (hfa : f a = some b)
    (hno : ∀ x ∈ l, x ≠ a → f x = none) : l.filterMap f = [b] := by
  induction l with
  | nil => cases ha
  | cons c l ih =>
    obtain ⟨hc, hl⟩ := List.nodup_cons.1 hnd
    by_cases hca : c = a
    · subst hca
      have hrest : l.filterMap f = [] := List.filterMap_eq_nil_iff.2 fun x hx =>
        hno x (List.mem_cons_of_mem _ hx) fun h => hc (h ▸ hx)
      rw [List.filterMap_cons_some hfa, hrest]
    · rw [List.filterMap_cons_none (hno c List.mem_cons_self hca)]
      refine ih hl ?_ fun x hx => hno x (List.mem_cons_of_mem _ hx)
      rcases List.mem_cons.1 ha with h | h
      · exact absurd h.symm hca
      · exact h

/-- One input alone has a head, and it is visible: intake takes it alone. -/
theorem State.intakeOrder_single {s : State} {q : Fin 18} {h : Head} {l : List Head} (hq : nth s.sched.inputs q [] = h :: l)
    (hno : ∀ p : Fin 18, p ≠ q → nth s.sched.inputs p [] = []) (hvis : s.firstSlot q h ≤ s.now) : s.intakeOrder = [q.val] := by
  have hscan : ((List.range 18).filterMap fun i =>
      let q := (s.clk.frame % 18 + i) % 18
      match nth s.sched.inputs q [] with
      | h :: _ => if s.firstSlot q h ≤ s.now then some (s.firstSlot q h, q) else none
      | [] => none) = [(s.firstSlot q h, q.val)] := by
    refine filterMap_single (a := (q.val + 18 - s.clk.frame % 18) % 18) List.nodup_range (List.mem_range.2 (Nat.mod_lt _ (by decide))) ?_ fun i hi hne => ?_
    · have hpos : (s.clk.frame % 18 + (q.val + 18 - s.clk.frame % 18) % 18) % 18 = q.val := by omega
      simp only [hpos, hq, if_pos hvis]
    · have hi18 := List.mem_range.1 hi
      have hlt : (s.clk.frame % 18 + i) % 18 < 18 := Nat.mod_lt _ (by decide)
      have hnil := hno ⟨(s.clk.frame % 18 + i) % 18, hlt⟩ fun h => hne (by
        have h2 := congrArg Fin.val h
        dsimp only at h2
        omega)
      dsimp only at hnil
      simp only [hnil]
  unfold State.intakeOrder
  refine (congrArg (fun l => ((l.foldl (fun l x => insertHead x l) []).take 8).map (·.2)) hscan).trans rfl

/-- Returning a staging credit leaves the queues when no forwarded command waits for one. -/
theorem State.returnCredit_sched {s : State} (h : s.sched.peerHeld = []) (lane : Option Nat) :
    ∃ t, (s.returnCredit lane).sched = { s.sched with staged := t } := by
  cases lane with
  | none => exact ⟨s.sched.staged, rfl⟩
  | some l =>
    refine ⟨tabPutD 0 s.sched.staged l (tabGetD s.sched.staged l 0 - 1), ?_⟩
    simp [State.returnCredit, State.deliverHeld, State.onSched, h]

/-- Returning a staging credit leaves the commands, the budgets and the next order number. -/
theorem State.returnCredit_kept (s : State) (lane : Option Nat) : (s.returnCredit lane).sched.cmds = s.sched.cmds
    ∧ (s.returnCredit lane).sched.left = s.sched.left ∧ (s.returnCredit lane).sched.debt = s.sched.debt
    ∧ (s.returnCredit lane).sched.nextOrder = s.sched.nextOrder := by
  cases lane with
  | none => exact ⟨rfl, rfl, rfl, rfl⟩
  | some l =>
    have hfold {β : Type} (p : Sched → β) (hp : ∀ x i st ph, p { x with inputs := i, staged := st, peerHeld := ph } = p x) :
        p (s.returnCredit (some l)).sched = p s.sched := by
      refine (foldl_field (fun u : State => p u.sched) (fun u h => ?_) _ _).trans (hp s.sched s.sched.inputs _ [])
      split
      · exact hp u.sched _ _ u.sched.peerHeld
      · exact hp u.sched u.sched.inputs u.sched.staged _
    exact ⟨hfold Sched.cmds fun _ _ _ _ => rfl, hfold Sched.left fun _ _ _ _ => rfl, hfold Sched.debt fun _ _ _ _ => rfl,
      hfold Sched.nextOrder fun _ _ _ _ => rfl⟩

/-- Ending a command leaves the queues and the next order number. -/
theorem State.finish_sched (s : State) (ord sct sc : Nat) (dnr : Bool) (dw0 : Nat) :
    (s.finish ord sct sc dnr dw0).sched.inputs = s.sched.inputs ∧ (s.finish ord sct sc dnr dw0).sched.nextOrder = s.sched.nextOrder := by
  have hdrop (u : State) : (u.dropCmd ord).sched.inputs = u.sched.inputs ∧ (u.dropCmd ord).sched.nextOrder = u.sched.nextOrder := by
    unfold State.dropCmd
    split <;> exact ⟨rfl, rfl⟩
  unfold State.finish
  split
  · exact ⟨rfl, rfl⟩
  · next c _ =>
    have hsame : ((s.countError (s.tenantOf c) sct sc).reply ord c sct sc dnr dw0).sched = s.sched := State.sched_of_mask (by simp)
    rw [(hdrop _).1, (hdrop _).2, hsame]
    exact ⟨rfl, rfl⟩

/-- A head that is taken: the next order number, the queues as they are, and a command that is no write under its order number. -/
theorem State.takeHead_sched {s : State} (hheld : s.sched.peerHeld = []) (h : Head) :
    (s.takeHead h).sched.nextOrder = s.sched.nextOrder + 1 ∧ (s.takeHead h).sched.inputs = s.sched.inputs ∧
    (h.kind ≠ .write → ∃ c, (s.takeHead h).cmd s.sched.nextOrder = some c ∧ c.src = h.src ∧ c.kind = h.kind ∧ c.ns = h.ns
      ∧ c.cap = h.cap ∧ c.lane = h.lane ∧ c.phase = .taken) := by
  unfold State.takeHead
  extract_lets ord lba len srcCh chain count spent c span s1 s2 s3 s4 ret s5 w s6 s7
  have h2 : s2.sched = s1.sched := State.sched_of_mask (by simp [s2])
  have h3 : s3.sched = s2.sched := by
    simp only [s3]
    split
    · split <;> rfl
    · rfl
  have h4 : s4.sched = s3.sched := by
    simp only [s4]
    split <;> rfl
  have h5 : s5.sched = s4.sched := by
    simp only [s5]
    split
    · exact State.sched_of_mask (by simp)
    · rfl
  have h6 : s6.sched = s5.sched := by
    simp only [s6]
    split
    · split <;> rfl
    · rfl
  have h16 : s6.sched = s1.sched := h6.trans (h5.trans (h4.trans (h3.trans h2)))
  have hin : s7.sched.inputs = s.sched.inputs := by
    have h := congrArg Sched.inputs h16
    exact h
  have hord : s7.sched.nextOrder = s.sched.nextOrder + 1 := by
    have h := congrArg Sched.nextOrder h16
    exact h
  have hph : s7.sched.peerHeld = [] := by
    have h := congrArg Sched.peerHeld h16
    exact h.trans hheld
  have hcmd : s7.cmd ord = some { c with seq := !s6.mustWait ord c } := by
    have h1 : s6.sched.cmds = tabPut s.sched.cmds ord c := by
      have h := congrArg Sched.cmds h16
      exact h
    show tabGet (tabMod s6.sched.cmds ord fun c => { c with seq := !s6.mustWait ord c }) ord = _
    rw [tabGet_tabMod, if_pos rfl, h1, tabGet_tabPut_same]
    rfl
  have hnospent (hk : h.kind ≠ .write) : spent = false := by
    have hchain : chain = none := by
      simp only [chain]
      generalize srcCh = z
      split
      · exact if_neg fun hh => hk hh.1
      · rfl
    simp only [spent, hchain, Option.isSome_none, Bool.false_and]
  obtain ⟨st, hret⟩ := State.returnCredit_sched hph h.lane
  obtain ⟨f1, f2⟩ := State.finish_sched (s7.returnCredit h.lane) ord 7 0xC4 false 0
  refine ⟨?_, ?_, fun hk => ?_⟩
  · split
    · rw [f2, hret]
      exact hord
    · exact hord
  · split
    · rw [f1, hret]
      exact hin
    · exact hin
  · rw [if_neg (by rw [hnospent hk]; exact Bool.false_ne_true)]
    exact ⟨_, hcmd, rfl, rfl, rfl, rfl, rfl, rfl⟩

/-- The state in which an input's head is taken. -/
def State.headLeft (s : State) (slot q : Nat) (l : List Head) : State :=
  let s1 := s.onClk fun c => { c with slot := slot }
  s1.onSched fun x => { x with inputs := putNth x.inputs q l, lastTaken := putNth x.lastTaken q s1.now }

theorem exec_intakeSlot {s : State} {slot : Fin 16384} {q : Fin 18} {h : Head} {l : List Head} (hle : s.clk.slot ≤ slot)
    (haw : s.awake = true) (hstop : s.sched.intakeStopped = false) (hcan : s.canOrder = true) (hq : nth s.sched.inputs q [] = h :: l)
    (hno : ∀ p : Fin 18, p ≠ q → nth s.sched.inputs p [] = []) (hvis : s.firstSlot q h ≤ s.clk.base + 16384 * s.clk.frame + slot) :
    exec (.intakeSlot slot) s = .next ((s.headLeft slot q l).takeHead h) := by
  have horder := State.intakeOrder_single (s := s.onClk fun c => { c with slot := slot.val }) hq hno hvis
  have hcan2 : (s.headLeft slot q l).canOrder = true := hcan
  unfold State.headLeft at hcan2
  have hq2 : nth (s.onClk fun c => { c with slot := slot.val }).sched.inputs q.val [] = h :: l := hq
  simp only [exec, execIntakeSlot, if_neg (Nat.not_lt.2 hle), haw, hstop, Bool.not_true, Bool.or_self, Bool.false_eq_true, if_false, horder,
    List.foldl_cons, List.foldl_nil, hq2]
  exact congrArg Host.Outcome.next (if_pos hcan2)

/-- A command that admission lets in, charged to its lane. -/
def State.letIn (s : State) (ord : Nat) (c : Cmd) (l charged : Nat) : State :=
  ((s.onCmd ord fun c =>
    { c with
      phase := .admitted, key := s.keyNow c.ns, readCap := s.readCap true
      fetchNext := if c.kind = .seal then charged else c.fetchNext }).onSched fun x =>
    { x with work := x.work ++ [⟨workClass c.kind, l, some ord⟩] }).returnCredit c.lane

/-- What letting a command in changes: that command, and the work. -/
theorem State.letIn_kept {s : State} {ord : Nat} {c : Cmd} (hc : s.cmd ord = some c) (l charged : Nat) :
    let t := s.letIn ord c l charged
    (∃ d, t.cmd ord = some d ∧ d.phase = .admitted ∧ d.key = s.keyNow c.ns ∧ d.cap = c.cap) ∧ t.sched.left = s.sched.left
      ∧ t.sched.debt = s.sched.debt ∧ (∀ n, n ≠ ord → t.cmd n = s.cmd n) ∧ t.sched.nextOrder = s.sched.nextOrder := by
  unfold State.letIn
  dsimp only
  generalize s.readCap true = r
  have hmod (n : Nat) := tabGet_tabMod s.sched.cmds ord (fun c : Cmd =>
    { c with phase := .admitted, key := s.keyNow c.ns, readCap := r, fetchNext := if c.kind = .seal then charged else c.fetchNext }) n
  obtain ⟨k1, k2, k3, k4⟩ := State.returnCredit_kept ((s.onCmd ord fun c =>
    { c with phase := .admitted, key := s.keyNow c.ns, readCap := r, fetchNext := if c.kind = .seal then charged else c.fetchNext }).onSched
      fun x => { x with work := x.work ++ [⟨workClass c.kind, l, some ord⟩] }) c.lane
  simp only [State.cmd] at hc ⊢
  rw [k1, k2, k3, k4]
  refine ⟨⟨_, (hmod ord).trans ((if_pos rfl).trans (congrArg (Option.map _) hc)), rfl, rfl, rfl⟩, rfl, rfl, fun n hn => (hmod n).trans (if_neg (Ne.symm hn)), rfl⟩

theorem exec_admission {s : State} {ord l : Nat} {c : Cmd} {e : LaneEntry} (hc : s.cmd ord = some c) (hph : c.phase = .taken)
    (hseq : s.sequencing = true) (hp : s.pair.st ≠ .lapsed) (hl : c.lane = some l) (he : s.laneEntry l = some e) :
    exec (.admission ord) s = .next (if tabGetD s.sched.debt l 0 ≠ 0 ∨ (tabGetD s.sched.left l 0 = 0 ∧ c.units4k e ≠ 0) then s
      else (s.onSched fun x =>
        { x with
          left := tabPut x.left l (tabGetD s.sched.left l 0 - c.units4k e)
          debt := tabPutD 0 x.debt l (c.units4k e - tabGetD s.sched.left l 0) }).letIn ord c l (c.units4k e)) := by
  simp [exec, execAdmission, hc, hph, hseq, hp, hl, he, State.letIn]

/-- Settles O20: what intake does to the one visible head, what admission charges, and what ends an overlap's wait. -/
theorem intakeAndAdmission : Obligations.IntakeAndAdmission := by
  intro s hin hlast
  refine ⟨fun slot q h l hle hheld haw hstop hcan hq hno hvis => ⟨_, exec_intakeSlot hle haw hstop hcan hq hno hvis, ?_⟩, fun slot hle hstop => ⟨_, ?_, rfl⟩,
    fun ord c l e hc hph hseq hp hl he => ⟨fun hd hu hwf => ⟨_, (exec_admission hc hph hseq hp hl he).trans (congrArg _ (if_neg ?_)), ?_⟩, fun hd => ?_⟩,
    fun ord c hc => ⟨fun hw => ?_, fun hw => ?_⟩⟩
  · obtain ⟨k1, k2, k3⟩ := State.takeHead_sched (s := s.headLeft slot q l) hheld h
    have hclk : ((s.headLeft slot q l).takeHead h).clk = { s.clk with slot := slot.val } :=
      State.mask_clk (P := but [.clk]) (s := s.headLeft slot q l) (by simp) rfl
    have hget (p : Fin 18) := nth_putNth (l := s.sched.inputs) (i := q.val) p l [] (by rw [hin]; exact q.isLt)
    have hput (p : Fin 18) : nth ((s.headLeft slot q l).takeHead h).sched.inputs p [] = if q.val = p.val then l else nth s.sched.inputs p [] := by
      rw [k2]
      exact hget p
    exact ⟨k1, (hput q).trans (if_pos rfl), fun p hp => (hput p).trans ((if_neg fun h => hp (Fin.ext h.symm)).trans (hno p hp)), hclk,
      fun hw _ => k3 hw⟩
  · simp [exec, execIntakeSlot, Nat.not_lt.2 hle, hstop]
  · rintro (h | ⟨h1, h2⟩)
    · exact h hd
    · rcases hu with h | h
      · exact h h1
      · exact h2 h
  · obtain ⟨k1, k2, k3, k4, k5⟩ := State.letIn_kept (s := s.onSched fun x =>
      { x with
        left := tabPut x.left l (tabGetD s.sched.left l 0 - c.units4k e)
        debt := tabPutD 0 x.debt l (c.units4k e - tabGetD s.sched.left l 0) }) (ord := ord) hc l (c.units4k e)
    refine ⟨k1, ?_, ?_, k4, k5⟩
    · rw [k2]
      exact congrArg (·.getD 0) (tabGet_tabPut_same s.sched.left l _)
    · rw [k3]
      exact (tabGet_tabPutD hwf 0 _ l l).trans (if_pos rfl)
  · rw [exec_admission hc hph hseq hp hl he, if_pos (.inl hd)]
  · by_cases hs : c.seq = true
    · refine ⟨s, by simp [exec, execOverlapWaitEnd, hc, hs], hc.trans (by rw [← hs]), fun _ _ => rfl, rfl⟩
    · have hget (n : Nat) : (s.onCmd ord fun c => { c with seq := true }).cmd n = if ord = n then (s.cmd n).map fun c => { c with seq := true } else s.cmd n :=
        tabGet_tabMod s.sched.cmds ord _ n
      refine ⟨s.onCmd ord fun c => { c with seq := true }, by simp [exec, execOverlapWaitEnd, hc, hs, hw], ?_, fun n hn => ?_, rfl⟩
      · rw [hget, if_pos rfl, hc]
        rfl
      · rw [hget, if_neg (Ne.symm hn)]
  · simp [exec, execOverlapWaitEnd, hc, hw]

end Sys2Proof.Machine
end

section
/-! PROOF. Chapters 12 and 13: frames of the front ports, their classification and the fragments (O21, O22). -/

namespace Sys2Proof.Machine

/-! ### What the parser keeps of a received frame -/

/-- The length and the FCS verdict of a frame. -/
def frameWire (f : Frame) : Nat × Bool := (f.len, f.fcsOk)

theorem parseCapsule_wire (f : RxFrame) (h : Nat) (g : Frame) : frameWire (parseCapsule f h g) = frameWire g := by
  unfold parseCapsule
  split <;> rfl

theorem parseBth_wire (f : RxFrame) (h n : Nat) (g : Frame) : frameWire (parseBth f h n g) = frameWire g := by
  unfold parseBth
  repeat' split
  · rfl
  · rfl
  · exact parseCapsule_wire f _ _
  · rfl

theorem parseL4_wire (f : RxFrame) (h n icmp : Nat) (g : Frame) : frameWire (parseL4 f h n icmp g) = frameWire g := by
  unfold parseL4
  dsimp only
  repeat' split
  all_goals first | rfl | exact parseBth_wire f _ _ _

theorem parseL3_wire (f : RxFrame) (h : Nat) (g : Frame) : frameWire (parseL3 f h g) = frameWire g := by
  unfold parseL3 parseIpv4 parseIpv6
  dsimp only
  repeat' split
  all_goals first | rfl | exact parseL4_wire f _ _ _ _

theorem parseFrame_wire (f : RxFrame) : frameWire (parseFrame f) = (f.len, f.fcsOk) := by
  unfold parseFrame
  dsimp only
  repeat' split
  · rfl
  · exact parseL3_wire f _ _
  · exact parseL3_wire f _ _

theorem parseFrame_len (f : RxFrame) : (parseFrame f).len = f.len := congrArg Prod.fst (parseFrame_wire f)

theorem parseFrame_fcsOk (f : RxFrame) : (parseFrame f).fcsOk = f.fcsOk := congrArg Prod.snd (parseFrame_wire f)

/-! ### What switching a frame changes -/

/-- The network records that admitting a frame to the switch leaves alone: all but the queues, meters, pauses and counters of the switch. -/
def NetSt.outside (n : NetSt) : NetSt :=
  { n with
    voqs := [], nextFrame := 0, avg := [], buckets := [], xoff := [], eligDrops := 0, profileDrops := 0, pushDrops := 0, admitDrops := 0
    redDrops := 0, ecnMarks := 0 }

theorem NetSt.pushOut_outside (n : NetSt) (o sub c total need fuel : Nat) : (n.pushOut o sub c total need fuel).outside = n.outside := by
  induction fuel generalizing n with
  | zero => rfl
  | succ fuel ih =>
    rw [NetSt.pushOut]
    split
    · rfl
    · split
      · rfl
      · exact ih _

theorem State.net_of_mask {s t : State} (h : t.mask (but [.net]) = s.mask (but [.net])) : t.net = s.net := State.mask_net h rfl

theorem State.pfcCheck_outside (s : State) (port sub k : Nat) : (s.pfcCheck port sub k).net.outside = s.net.outside := by
  unfold State.pfcCheck
  split
  · split <;> rfl
  · rfl

theorem State.takeCells_outside (s : State) (k : VoqKey) (len : Nat) (ce : Bool) (inSub prio : Nat) :
    (s.takeCells k len ce inSub prio).net.outside = s.net.outside := by
  unfold State.takeCells
  extract_lets
  split
  · rw [State.pfcCheck_outside]
    rfl
  · split
    · rw [State.pfcCheck_outside]
      exact NetSt.pushOut_outside _ _ _ _ _ _ _
    · split <;> rfl

theorem State.police_outside (s : State) (t len : Nat) : (s.police t len).2.net.outside = s.net.outside := by
  unfold State.police
  split
  · rfl
  · split <;> rfl

theorem State.profile_outside (s : State) (q : QueueEntry) (col : Colour) (inp o sub c ecn : Nat) :
    (s.profile q col inp o sub c ecn).2.net.outside = s.net.outside := by
  unfold State.profile
  extract_lets
  split
  · rfl
  · extract_lets a' s1 lo hi meets s2
    have hs2 : s2.net.outside = s.net.outside := by
      simp only [s2]
      split <;> rfl
    repeat' split
    all_goals exact hs2

theorem State.admitFrame_outside (s : State) (k : VoqKey) (len policer ecn inSub prio : Nat) :
    (s.admitFrame k len policer ecn inSub prio).net.outside = s.net.outside := by
  unfold State.admitFrame
  extract_lets mask pc redDrop
  have hpc : pc.2.net.outside = s.net.outside := by
    simp only [pc]
    split
    · rfl
    · exact State.police_outside s policer len
  split
  · rfl
  · split
    · exact hpc
    · split
      · exact (State.takeCells_outside _ _ _ _ _ _).trans hpc
      · extract_lets v
        have hv : v.2.net.outside = s.net.outside := (State.profile_outside _ _ _ _ _ _ _ _).trans hpc
        split
        · exact (State.takeCells_outside _ _ _ _ _ _).trans hv
        · exact (State.takeCells_outside _ _ _ _ _ _).trans hv
        · exact hv

/-- Switching a frame changes two counters beside the switch's own records, and a dropped one counts. -/
theorem State.switchFrame_outside (s : State) (port : Nat) (fr : InFrame) : ∃ nd cd, (s.switchFrame port fr).net.outside
    = { s.net.outside with noDest := nd, clsDrops := cd } ∧ (fr.action.map (·.kind) = some 1 → cd = s.net.clsDrops + 1) := by
  have hact (h1 : fr.action.map (·.kind) = some 1) : (fr.action.getD defaultAction).kind = 1 := by
    obtain ⟨a, ha, hk⟩ := Option.map_eq_some_iff.1 h1
    rw [ha]
    exact hk
  unfold State.switchFrame
  extract_lets act lport dest
  have hdest (h1 : act.kind = 1) : dest = none := by simp [dest, h1]
  clear_value dest
  cases dest with
  | none =>
    dsimp only
    split
    · next h0 => exact ⟨s.net.noDest + 1, s.net.clsDrops, rfl, fun h1 => absurd ((hact h1).symm.trans h0) (by decide)⟩
    · exact ⟨s.net.noDest, s.net.clsDrops + 1, rfl, fun _ => rfl⟩
  | some o =>
    refine ⟨s.net.noDest, s.net.clsDrops, State.admitFrame_outside s _ _ _ _ _ _, fun h1 => ?_⟩
    cases hdest (hact h1)

theorem State.switchFrame_ports (s : State) (port : Nat) (fr : InFrame) : (s.switchFrame port fr).net.ports = s.net.ports := by
  obtain ⟨nd, cd, h, -⟩ := State.switchFrame_outside s port fr
  have h1 := congrArg NetSt.ports h
  exact h1

/-- Settles O21, branch by branch of what a port does with a received frame. -/
theorem frontFrames : Obligations.FrontFrames := by
  intro p s hlen hup x others big
  have hp : p.val < s.net.ports.length := by rw [hlen]; exact p.isLt
  have haw : s.awake = true := by
    rw [State.nrUp, Bool.and_eq_true] at hup
    exact hup.1
  have hset (u : State) (g : FrontPort → FrontPort) (hu : ∀ q, u.front q = (s.onFront p g).front q) : u.front p = g x ∧ others u :=
    ⟨(hu p).trans ((State.front_onFront hp g p).trans (if_pos rfl)), fun q hq => (hu q).trans ((State.front_onFront hp g q).trans (if_neg (Ne.symm hq)))⟩
  have hbig (n : Nat) : (match s.portEntry p.val with | some e => e.maxFrame | none => 9216) < n ↔ big n := by
    simp only [big]
    cases s.portEntry p.val <;> exact Iff.rfl
  have hrx (sub : Fin 4) (f : RxFrame) (hlink : x.linkUp = true) : exec (.frontFrameRx p sub f) s = .next (
      if !f.fcsOk then s.onFront p fun x => { x with rxCount := x.rxCount + 1, fcsDrops := x.fcsDrops + 1 }
      else if (match s.portEntry p.val with | some e => e.maxFrame | none => 9216) < f.len then
        s.onFront p fun x => { x with rxCount := x.rxCount + 1, longDrops := x.longDrops + 1 }
      else if nth s.net.rulePhase (4 * p + sub) .running ≠ .running then
        if x.holdBytes + f.len ≤ 524288 then
          s.onFront p fun x =>
            { x with rxCount := x.rxCount + 1, hold := x.hold ++ [(sub.val, x.rxCount + 1, parseFrame f)], holdBytes := x.holdBytes + f.len }
        else s.onFront p fun x => { x with rxCount := x.rxCount + 1, pauseDrops := x.pauseDrops + 1 }
      else s.onFront p fun x => frontParse p sub.val (x.rxCount + 1) (parseFrame f) { x with rxCount := x.rxCount + 1 }) := by
    have hno : ¬ ((!(s.front p).linkUp || !s.nrUp) = true) := by
      rw [show (s.front p).linkUp = true from hlink, hup]
      decide
    simp only [exec, execFrontFrameRx, parseFrame_fcsOk, parseFrame_len]
    exact congrArg Host.Outcome.next (if_neg hno)
  have hok {f : RxFrame} (hf : f.fcsOk = true) : ¬ ((!f.fcsOk) = true) := by simp [hf]
  refine ⟨fun sub f hl hf => ?_, fun sub f hl hf hb => ?_, fun sub f hl hf hb hph => ?_, fun sub f hl hf hb hph => ?_, fun r l a hi ha => ?_, fun r l hi ha => ?_,
    fun up => ?_, fun kind => ?_⟩
  · exact ⟨_, (hrx sub f hl).trans (congrArg _ (if_pos (by rw [hf]; rfl))), hset _ _ fun _ => rfl⟩
  · exact ⟨_, (hrx sub f hl).trans (congrArg _ ((if_neg (hok hf)).trans (if_pos ((hbig _).2 hb)))), hset _ _ fun _ => rfl⟩
  · have hx := (hrx sub f hl).trans (congrArg _ ((if_neg (hok hf)).trans ((if_neg fun h => hb ((hbig f.len).1 h)).trans (if_pos hph))))
    by_cases hfit : x.holdBytes + f.len ≤ 524288
    · obtain ⟨h1, h2⟩ := hset _ _ fun _ => rfl
      exact ⟨_, hx.trans (congrArg _ (if_pos hfit)), h2, (if_pos hfit).mpr h1⟩
    · obtain ⟨h1, h2⟩ := hset _ _ fun _ => rfl
      exact ⟨_, hx.trans (congrArg _ (if_neg hfit)), h2, (if_neg hfit).mpr h1⟩
  · have hx := (hrx sub f hl).trans (congrArg _ ((if_neg (hok hf)).trans ((if_neg fun h => hb ((hbig f.len).1 h)).trans (if_neg (not_not_intro hph)))))
    obtain ⟨h1, h2⟩ := hset (s.onFront p fun x => frontParse p sub.val (x.rxCount + 1) (parseFrame f) { x with rxCount := x.rxCount + 1 }) _ fun _ => rfl
    refine ⟨_, hx, h2, ?_⟩
    rw [h1]
    exact ⟨rfl, rfl, rfl⟩
  · have hex : exec (.reorderRelease p) s = .next ((s.onFront p fun x => { x with ingress := l, pseqOut := (r.pseq + 1) % 65536 }).switchFrame p r) := by
      simp [exec, execReorderRelease, haw, show (s.front p).ingress = r :: l from hi, ha]
    obtain ⟨nd, cd, hout, hcd⟩ := State.switchFrame_outside (s.onFront p fun x => { x with ingress := l, pseqOut := (r.pseq + 1) % 65536 }) p r
    obtain ⟨h1, h2⟩ := hset ((s.onFront p fun x => { x with ingress := l, pseqOut := (r.pseq + 1) % 65536 }).switchFrame p r)
      (fun x => { x with ingress := l, pseqOut := (r.pseq + 1) % 65536 }) fun q => by rw [State.front, State.switchFrame_ports]; rfl
    refine ⟨_, hex, ?_, ?_, h2, fun hk => ?_⟩
    · rw [h1]
    · rw [h1]
    · have h3 := congrArg NetSt.clsDrops hout
      exact h3.trans (hcd (by rw [ha]; exact congrArg some hk))
  · simp [exec, execReorderRelease, haw, show (s.front p).ingress = r :: l from hi, ha]
  · by_cases hsame : x.linkUp = up
    · refine ⟨s, by simp [exec, execFrontLinkChange, haw, show (s.front p).linkUp = up from hsame], ?_, fun _ _ => rfl⟩
      rw [← hsame]
    · have hex : exec (.frontLinkChange p up) s = .next (((if up then s.onFront p fun x => { x with linkUp := up } else
          (s.onFront p fun x => { x with linkUp := up }).raise (0x310 + p) classT 0x08 (addrLane p 0 0))).event (0x310 + p) (if up then 6 else 5) p 0) := by
        simp only [exec, execFrontLinkChange, haw, Bool.not_true, Bool.false_eq_true, if_false]
        exact congrArg Host.Outcome.next (if_neg hsame)
      refine ⟨_, hex, hset _ (fun x => { x with linkUp := up }) fun q => ?_⟩
      rw [State.front, State.net_of_mask (s := s.onFront p fun x => { x with linkUp := up })]
      · rfl
      · by_cases hu : up = true <;> simp [hu]
  · by_cases h1 : kind = .other
    · subst h1
      exact ⟨s.onNet fun n => { n with ctlDiscards := n.ctlDiscards + 1 }, by simp [exec, execControlPortFrame, hup], rfl, rfl⟩
    · simp only [if_neg h1]
      by_cases h2 : kind = .ieee1588
      · subst h2
        exact ⟨(s.freeNat.2.onClk fun c => { c with wall := s.freeNat.1 }).emit (.control p .ieee1588), by
          simp [exec, execControlPortFrame, hup], rfl, rfl, fun h => absurd rfl h⟩
      · have hplain : exec (.controlPortFrame p kind) s = .next (s.emit (.control p kind)) := by
          cases kind <;> simp_all [exec, execControlPortFrame]
        exact ⟨_, hplain, rfl, rfl, fun _ => rfl⟩

/-! ### Classification (R311 to R315) -/

theorem insertAfter_nil (pseq : Nat) (l : List InFrame) : insertAfter pseq [] l = l := by
  induction l with
  | nil => rfl
  | cons r l ih =>
    rw [insertAfter, ih]
    split <;> rfl

/-- A frame of the ingress path that gets an action. -/
def State.givenAction (s : State) (p pseq : Nat) (a : ClsAction) (bad : Bool) : State :=
  s.onFront p fun x => { x with ingress := setAction x.ingress pseq a bad }

/-- The frame that CLASSIFY is about, with the rules in force for it. -/
theorem exec_classify {s : State} {p : Fin 8} {pseq : Nat} {r : InFrame} {c : ClsSection} (haw : s.awake = true)
    (hfind : (s.front p).ingress.find? (fun r => r.pseq == pseq && r.action.isNone) = some r) (hrules : s.rulesFor (4 * p + r.sub) = some c) :
    let a := classifyKey c (4 * p + r.sub) r.frame
    (s.malformed2430 r.frame = true → exec (.classify p pseq) s = .next ((s.givenAction p pseq (actionOf c (match c.ports[4 * p.val + r.sub]? with
      | some e => e.malf
      | none => 0)) true).onFront p fun x => { x with malformed := x.malformed + 1 })) ∧
    (s.malformed2430 r.frame = false → r.frame.frag ≠ 1 → r.frame.frag ≠ 2 → exec (.classify p pseq) s = .next (s.givenAction p pseq a false)) ∧
    (s.malformed2430 r.frame = false → r.frame.frag = 1 → exec (.classify p pseq) s = .next
      (((s.givenAction p pseq a false).releaseParked fun e => e.key == fragKeyOf r.frame && decide (e.since + us 500 < s.now)).recordFragment p pseq (fragKeyOf r.frame) a)) ∧
    (s.malformed2430 r.frame = false → r.frame.frag = 2 → (∀ e ∈ s.net.frags, s.fragValid e = true → e.key ≠ fragKeyOf r.frame) → s.net.parked.length < 32 →
      s.net.parked.foldl (fun n e => n + e.fr.frame.len) 0 + r.frame.len ≤ 262144 → exec (.classify p pseq) s = .next
        ((s.onFront p fun x => { x with ingress := x.ingress.filter fun q => q.pseq != pseq }).onNet fun n =>
          { n with parked := n.parked ++ [⟨fragKeyOf r.frame, p, r, s.now⟩] })) := by
  refine ⟨fun hm => ?_, fun hm h1 h2 => ?_, fun hm h1 => ?_, fun hm h2 hno hlen hb => ?_⟩
  · simp only [exec, execClassify, haw, hfind, hrules, hm, Bool.not_true, Bool.false_eq_true, if_false, if_true, State.givenAction] <;> rfl
  · simp only [exec, execClassify, haw, hfind, hrules, hm, Bool.not_true, Bool.false_eq_true, if_false, h1, h2, State.givenAction]
  · simp only [exec, execClassify, haw, hfind, hrules, hm, Bool.not_true, Bool.false_eq_true, if_false, h1, (by decide : ¬ (1 = 2)), if_true, State.givenAction]
  · have hnone : s.net.frags.find? (fun e => e.key == fragKeyOf r.frame && s.fragValid e) = none := by
      rw [List.find?_eq_none]
      intro e he
      simp only [Bool.and_eq_true, beq_iff_eq, not_and]
      exact fun hk hv => hno e he hv hk
    simp only [exec, execClassify, haw, hfind, hrules, hm, Bool.not_true, Bool.false_eq_true, if_false, h2, if_true, hnone, hlen, hb, and_self]

/-- With no parked fragment due, none is released. -/
theorem State.releaseParked_none {s : State} {due : Parked → Bool} (h : ∀ e ∈ s.net.parked, due e = false) : s.releaseParked due = s := by
  have h1 : s.net.parked.filter due = [] := List.filter_eq_nil_iff.2 fun e he => by simp [h e he]
  have h2 : (s.net.parked.filter fun x => !(due x)) = s.net.parked := List.filter_eq_self.2 fun e he => by simp [h e he]
  simp only [State.releaseParked, h1, List.foldl_nil, State.onNet, h2, List.length_nil, Nat.add_zero]

/-- The parked fragments after the due ones left. -/
theorem State.releaseParked_net (s : State) (due : Parked → Bool) :
    (s.releaseParked due).net.parked = s.net.parked.filter (fun e => !due e) ∧
    (s.releaseParked due).net.parkTimeouts = s.net.parkTimeouts + (s.net.parked.filter due).length := by
  have hstep (u : State) (e : Parked) (fr : InFrame) : (u.switchFrame e.port fr).net.parked = u.net.parked
      ∧ (u.switchFrame e.port fr).net.parkTimeouts = u.net.parkTimeouts := by
    obtain ⟨nd, cd, h, -⟩ := State.switchFrame_outside u e.port fr
    have h1 := congrArg NetSt.parked h
    have h2 := congrArg NetSt.parkTimeouts h
    exact ⟨h1, h2⟩
  exact ⟨foldl_field (fun u : State => u.net.parked) (fun u e => (hstep u e _).1) _ _,
    foldl_field (fun u : State => u.net.parkTimeouts) (fun u e => (hstep u e _).2) _ _⟩

/-- A first fragment whose key nothing live or parked has: its entry is recorded where the table has room. -/
theorem State.recordFragment_fresh {s : State} {p : Nat} (hp : p < s.net.ports.length) (pseq : Nat) {key : FragKey} (a : ClsAction)
    (hlive : ∀ e ∈ s.net.frags.filter s.fragValid, e.key ≠ key) (hpark : ∀ e ∈ s.net.parked, e.key ≠ key) :
    ∃ t, s.recordFragment p pseq key a = t ∧ (t.front p).ingress = (s.front p).ingress ∧ t.net.parked = s.net.parked ∧
      (if (s.net.frags.filter s.fragValid).length < 4096 then t.net.frags = s.net.frags.filter s.fragValid ++ [⟨key, a, s.now⟩]
        else t.net.frags = s.net.frags ∧ t.net.tableFull = s.net.tableFull + 1) := by
  have hany : (s.net.frags.filter s.fragValid).any (fun e => e.key == key) = false := by
    rw [List.any_eq_false]
    exact fun e he => by simpa using hlive e he
  have hmine : (s.net.parked.filter fun e => e.key == key) = [] := List.filter_eq_nil_iff.2 fun e he => by simpa using hpark e he
  have hrest : (s.net.parked.filter fun e => e.key != key) = s.net.parked := List.filter_eq_self.2 fun e he => by simpa using hpark e he
  refine ⟨_, rfl, ?_⟩
  unfold State.recordFragment
  extract_lets live have_ entry s1 mine rel
  have hs1 : s1.net.parked = s.net.parked ∧ s1.net.ports = s.net.ports ∧ (if live.length < 4096 then s1.net.frags = live ++ [entry]
      else s1.net.frags = s.net.frags ∧ s1.net.tableFull = s.net.tableFull + 1) := by
    simp only [s1, show have_ = false from hany, Bool.false_eq_true, if_false]
    by_cases hroom : live.length < 4096
    · simp only [if_pos hroom]
      exact ⟨rfl, rfl, rfl⟩
    · simp only [if_neg hroom]
      exact ⟨rfl, rfl, rfl, rfl⟩
  obtain ⟨h1, h2, h3⟩ := hs1
  have hrel : rel = [] := by simp only [rel, mine, h1, hmine, List.map_nil]
  rw [hrel]
  refine ⟨?_, ?_, h3⟩
  · have hset := State.front_onFront (s := s1.onNet fun n => { n with parked := n.parked.filter fun e => e.key != key }) (p := p)
      (by show p < s1.net.ports.length; rw [h2]; exact hp) (fun x => { x with ingress := insertAfter pseq [] x.ingress }) p
    have hget := congrArg FrontPort.ingress (hset.trans (if_pos rfl))
    refine hget.trans ((insertAfter_nil pseq _).trans ?_)
    exact congrArg (fun l => (nth l p FrontPort.reset).ingress) h2
  · show s1.net.parked.filter _ = _
    rw [h1, hrest]

/-- A port that has its new rules takes its held frames in and runs. -/
theorem State.reloadedStep {s : State} {l : Fin 32} (hp : l.val / 4 < s.net.ports.length) (haw : s.awake = true)
    (hph : nth s.net.rulePhase l .running = .reloaded) (hnext : s.net.ruleNext = none) :
    Completes (.ruleUpdatePortStep l) s fun t => t.net.rulePhase = putNth s.net.rulePhase l .running ∧ ∀ e ∈ (t.front (l / 4 : Nat)).hold, e.1 ≠ l % 4 := by
  let q := l.val / 4
  let mine := (s.front q).hold.filter fun e => e.1 == l.val % 4
  let s1 := s.onFront q fun x =>
    { x with
      hold := x.hold.filter fun e => e.1 != l.val % 4
      holdBytes := x.holdBytes - mine.foldl (fun a e => a + e.2.2.len) 0 }
  let s2 := mine.foldl (fun s e => s.onFront q fun x => frontParse q e.1 e.2.1 e.2.2 x) s1
  let s3 := match s.portEntry q with
    | some e => if e.pfc ≠ 0 then (List.range 8).foldl (fun (s : State) k => s.emit (.xoff q (l.val % 4) k 0)) s2 else s2
    | none => s2
  have hex : exec (.ruleUpdatePortStep l) s = .next (s3.onNet fun n => { n with rulePhase := putNth n.rulePhase l .running }).rulesSettle := by
    simp only [exec, execRuleUpdatePortStep, haw, Bool.not_true, Bool.false_eq_true, if_false, hph] <;> rfl
  let held (u : State) := (u.net.rulePhase, u.net.ruleNext, (u.front q).hold)
  have h2 : held s2 = held s1 := foldl_field held (fun u e => by
    refine Prod.ext rfl (Prod.ext rfl ?_)
    exact nth_modNth_field FrontPort.hold u.net.ports q q FrontPort.reset fun _ => rfl) mine s1
  have h3 : held s3 = held s2 := by
    have hemit (ks : List Nat) : held (ks.foldl (fun (s : State) k => s.emit (.xoff q (l.val % 4) k 0)) s2) = held s2 :=
      foldl_field (f := fun (s : State) (k : Nat) => s.emit (.xoff q (l.val % 4) k 0)) held (fun _ _ => rfl) ks s2
    simp only [s3]
    cases s.portEntry q with
    | none => rfl
    | some e =>
      dsimp only
      split
      · exact hemit _
      · rfl
  have h31 := h3.trans h2
  have hphase : s3.net.rulePhase = s.net.rulePhase := congrArg Prod.fst h31
  have hnone : s3.net.ruleNext = none := (congrArg (fun x => x.2.1) h31).trans hnext
  have hhold : (s3.front q).hold = (s1.front q).hold := congrArg (fun x => x.2.2) h31
  have hsettle : (s3.onNet fun n => { n with rulePhase := putNth n.rulePhase l .running }).rulesSettle
      = s3.onNet fun n => { n with rulePhase := putNth n.rulePhase l .running } := by
    simp [State.rulesSettle, State.onNet, hnone]
  refine ⟨_, hex, ?_⟩
  rw [hsettle]
  refine ⟨congrArg (fun l' => putNth l' l.val RulePhase.running) hphase, fun e he => ?_⟩
  have hset := (State.front_onFront hp (fun x => { x with
    hold := x.hold.filter fun e => e.1 != l.val % 4
    holdBytes := x.holdBytes - mine.foldl (fun a e => a + e.2.2.len) 0 }) q).trans (if_pos rfl)
  have hrest : (s3.front q).hold = (s.front q).hold.filter fun e => e.1 != l.val % 4 := hhold.trans (congrArg FrontPort.hold hset)
  have hmem : e ∈ (s3.front q).hold := he
  rw [hrest] at hmem
  simpa using (List.mem_filter.1 hmem).2

/-- Settles O22: what CLASSIFY does by kind of frame, and what ends a fragment's entry, its parking and a port's hold. -/
theorem classifyAndFragments : Obligations.ClassifyAndFragments := by
  intro s hports hphase haw
  have hp (p : Fin 8) : p.val < s.net.ports.length := by rw [hports]; exact p.isLt
  refine ⟨fun p pseq r c hfind hrules => ?_, fun key => ?_, fun p pseq hdue => ?_, fun l => ⟨fun hph hno => ?_, fun hph => ?_, fun hph hnext => ?_⟩⟩
  · intro given a
    obtain ⟨c1, c2, c3, c4⟩ := exec_classify haw hfind hrules
    have hgiven (a : ClsAction) (bad : Bool) : given (s.givenAction p pseq a bad) a bad := by
      have h1 := (State.front_onFront (hp p) (fun x => { x with ingress := setAction x.ingress pseq a bad }) p).trans (if_pos rfl)
      exact congrArg FrontPort.ingress h1
    refine ⟨fun hm => ⟨_, c1 hm, fun e he => ?_, ?_⟩, fun hm h1 h2 => ⟨_, c2 hm h1 h2, hgiven _ _, rfl, rfl⟩, ?_,
      fun hm h2 e he => ⟨_, execClassify_laterFragment haw hfind hrules hm h2 he, hgiven _ _, rfl⟩, fun hm h2 hno hlen hb => ⟨_, c4 hm h2 ?_ hlen hb, rfl, ?_⟩⟩
    · simp only [he]
      have h1 := State.front_onFront (s := s.givenAction p pseq (actionOf c e.malf) true) (by
        show p.val < (modNth s.net.ports p.val _).length
        rw [modNth_length]
        exact hp p) (fun x => { x with malformed := x.malformed + 1 }) p
      have h2 := congrArg FrontPort.ingress (h1.trans (if_pos rfl))
      exact h2.trans (hgiven _ _)
    · generalize (match c.ports[4 * p.val + r.sub]? with
        | some e => e.malf
        | none => 0) = m
      have h1 := State.front_onFront (s := s.givenAction p pseq (actionOf c m) true) (by
        show p.val < (modNth s.net.ports p.val _).length
        rw [modNth_length]
        exact hp p) (fun x => { x with malformed := x.malformed + 1 }) p
      have h2 := congrArg FrontPort.malformed (h1.trans (if_pos rfl))
      have h3 := congrArg FrontPort.malformed
        ((State.front_onFront (hp p) (fun x => { x with ingress := setAction x.ingress pseq (actionOf c m) true }) p).trans (if_pos rfl))
      exact h2.trans (congrArg (· + 1) h3)
    · intro hm h1 hpark live hlive
      refine ⟨_, c3 hm h1, ?_⟩
      have hdue : ∀ e ∈ (s.givenAction p pseq a false).net.parked, (e.key == fragKeyOf r.frame && decide (e.since + us 500 < s.now)) = false := by
        intro e he
        have hne : (e.key == fragKeyOf r.frame) = false := by simpa using hpark e he
        rw [hne, Bool.false_and]
      have hnone := State.releaseParked_none (s := s.givenAction p pseq a false) hdue
      have hlen : p.val < (s.givenAction p pseq a false).net.ports.length := by
        show p.val < (modNth s.net.ports p.val _).length
        rw [modNth_length]
        exact hp p
      obtain ⟨t, ht, k1, k2, k3⟩ := State.recordFragment_fresh (s := s.givenAction p pseq a false) hlen pseq a hlive hpark
      dsimp only
      rw [hnone, ht]
      exact ⟨k1.trans (hgiven a false), k2, k3⟩
    · exact fun e he hv => hno e he (of_decide_eq_true hv)
    · have h1 := (State.front_onFront (hp p) (fun x => { x with ingress := x.ingress.filter fun q => q.pseq != pseq }) p).trans (if_pos rfl)
      exact congrArg FrontPort.ingress h1
  · have hex : exec (.fragmentEntryExpiry key) s = .next (s.onNet fun n =>
        { n with frags := n.frags.filter fun e => !(e.key == key && decide (e.since + ms 2 ≤ s.now)) }) := by
      simp only [exec, execFragmentEntryExpiry, haw, Bool.not_true, Bool.false_eq_true, if_false]
    refine ⟨_, hex, fun e => ?_⟩
    show e ∈ s.net.frags.filter _ ↔ _
    simp only [List.mem_filter, Bool.not_eq_true', Bool.and_eq_false_iff, beq_eq_false_iff_ne, ne_eq, decide_eq_false_iff_not, not_and_or]
  · have hex : exec (.fragmentParkTimeout p pseq) s = .next (s.releaseParked fun e =>
        e.port == p.val && e.fr.pseq == pseq && decide (e.since + us 500 ≤ s.now)) := by
      simp only [exec, execFragmentParkTimeout, haw, Bool.not_true, Bool.false_eq_true, if_false]
    obtain ⟨k1, k2⟩ := State.releaseParked_net s fun e => e.port == p.val && e.fr.pseq == pseq && decide (e.since + us 500 ≤ s.now)
    refine ⟨_, hex, k2, fun e => ?_⟩
    rw [k1]
    simp only [List.mem_filter, Bool.not_eq_true', Bool.and_eq_false_iff, beq_eq_false_iff_ne, ne_eq, decide_eq_false_iff_not, not_and_or, or_assoc]
  · have hany : ((s.front (l.val / 4)).ingress.any fun r => r.sub == l.val % 4) = false := by
      rw [List.any_eq_false]
      exact fun r hr => by simpa using hno r hr
    refine ⟨(s.onNet fun n => { n with rulePhase := putNth n.rulePhase l .empty }).onNet fun n => { n with ruleFrame := s.clk.frame }, ?_, rfl, rfl⟩
    simp only [exec, execRuleUpdatePortStep, haw, Bool.not_true, Bool.false_eq_true, if_false, hph, hany]
  · refine ⟨s.onNet fun n => { n with rulePhase := putNth n.rulePhase l .reloaded }, ?_, rfl, rfl⟩
    simp only [exec, execRuleUpdatePortStep, haw, Bool.not_true, Bool.false_eq_true, if_false, hph]
  · exact State.reloadedStep (by rw [hports]; omega) haw hph hnext

end Sys2Proof.Machine
end

section
/-! PROOF. Chapter 13: flow control, and the matching of a cell time (O23). -/

namespace Sys2Proof.Machine

/-! ### Paused classes (R333) -/

theorem mem_classesOf {e : PortEntry} {k c : Nat} : c ∈ classesOf e k ↔ c < 8 ∧ nth e.clsPcp c 0 = k := by
  simp [classesOf, indices, List.mem_filter, List.mem_range]

theorem pauseKey_inj {port sub c d : Nat} : pauseKey port sub c = pauseKey port sub d ↔ c = d := by
  unfold pauseKey
  omega

/-- What pausing, or no longer pausing, a list of classes leaves. -/
theorem foldl_pause (port sub q v : Nat) (l : List Nat) {t : Tab Nat} (h : tabWf t = true) (c : Nat) :
    let u := l.foldl (fun t c => if q = 0 then tabDel t (pauseKey port sub c) else tabPut t (pauseKey port sub c) v) t
    tabGet u (pauseKey port sub c) = if c ∈ l then (if q = 0 then none else some v) else tabGet t (pauseKey port sub c) := by
  induction l generalizing t with
  | nil => simp
  | cons a l ih =>
    have hwf : tabWf (if q = 0 then tabDel t (pauseKey port sub a) else tabPut t (pauseKey port sub a) v) = true := by
      split
      · exact tabWf_tabDel h _
      · exact tabWf_tabPut h _ _
    have hstep : tabGet (if q = 0 then tabDel t (pauseKey port sub a) else tabPut t (pauseKey port sub a) v) (pauseKey port sub c)
        = if c = a then (if q = 0 then none else some v) else tabGet t (pauseKey port sub c) := by
      by_cases hq : q = 0
      · simp only [if_pos hq, tabGet_tabDel h, pauseKey_inj]
      · simp only [if_neg hq, tabGet_tabPut h, pauseKey_inj]
    dsimp only at ih ⊢
    rw [List.foldl_cons, ih hwf, hstep]
    by_cases hl : c ∈ l
    · simp [hl]
    · by_cases ha : c = a
      · simp [ha]
      · simp [hl, ha]

/-- What the end of a pause leaves: the classes in the list whose time has passed are no longer paused. -/
theorem foldl_unpause (port sub now : Nat) (l : List Nat) {t : Tab Nat} (h : tabWf t = true) (c : Nat) :
    let u := l.foldl (fun t c => if tabGetD t (pauseKey port sub c) (now + 1) ≤ now then tabDel t (pauseKey port sub c) else t) t
    tabGet u (pauseKey port sub c) = if c ∈ l ∧ tabGetD t (pauseKey port sub c) (now + 1) ≤ now then none else tabGet t (pauseKey port sub c) := by
  induction l generalizing t with
  | nil => simp
  | cons a l ih =>
    have hstep : ∃ u, u = (if tabGetD t (pauseKey port sub a) (now + 1) ≤ now then tabDel t (pauseKey port sub a) else t) ∧ tabWf u = true ∧
        tabGet u (pauseKey port sub c) = if c = a ∧ tabGetD t (pauseKey port sub c) (now + 1) ≤ now then none else tabGet t (pauseKey port sub c) := by
      refine ⟨_, rfl, ?_⟩
      split
      · next hle =>
        refine ⟨tabWf_tabDel h _, ?_⟩
        rw [tabGet_tabDel h]
        by_cases hca : c = a
        · rw [if_pos (pauseKey_inj.2 hca), if_pos ⟨hca, by rw [hca]; exact hle⟩]
        · rw [if_neg (fun hk => hca (pauseKey_inj.1 hk)), if_neg fun hh => hca hh.1]
      · next hle => exact ⟨h, by rw [if_neg]; rintro ⟨rfl, hh⟩; exact hle hh⟩
    obtain ⟨u, hu, hwf, hget⟩ := hstep
    dsimp only at ih ⊢
    rw [List.foldl_cons, ← hu, ih hwf]
    have hD : tabGetD u (pauseKey port sub c) (now + 1) = if c = a ∧ tabGetD t (pauseKey port sub c) (now + 1) ≤ now then now + 1 else tabGetD t (pauseKey port sub c) (now + 1) := by
      rw [tabGetD, hget]
      split <;> rfl
    rw [hD, hget]
    grind

/-! ### What leaves through an output -/

/-- Whether an output is a frame that leaves through output `o`. -/
def Emit.frameAt (o : Nat) (e : Emit) : Bool :=
  match e with
  | .frame outp .. => outp == o
  | _ => false

/-- The states from `s` on in which no frame has left. -/
def State.NoFrame (s t : State) : Prop := ∃ new, t.out = new ++ s.out ∧ ∀ e ∈ new, ∀ o, e.frameAt o = false

theorem State.NoFrame.of_out {s t : State} (h : t.out = s.out) : s.NoFrame t := ⟨[], h, fun _ he => absurd he List.not_mem_nil⟩

theorem State.NoFrame.trans {s t u : State} (h1 : s.NoFrame t) (h2 : t.NoFrame u) : s.NoFrame u := by
  obtain ⟨n1, e1, f1⟩ := h1
  obtain ⟨n2, e2, f2⟩ := h2
  refine ⟨n2 ++ n1, by rw [e2, e1, List.append_assoc], fun e he => ?_⟩
  rcases List.mem_append.1 he with h | h
  · exact f2 e h
  · exact f1 e h

theorem State.NoFrame.emit (s : State) {e : Emit} (h : ∀ o, e.frameAt o = false) : s.NoFrame (s.emit e) :=
  ⟨[e], rfl, fun x hx => by rw [List.mem_singleton.1 hx]; exact h⟩

theorem State.pfcCheck_noFrame (s : State) (port sub k : Nat) : s.NoFrame (s.pfcCheck port sub k) := by
  unfold State.pfcCheck
  split
  · split
    · exact .trans (.emit s fun _ => rfl) (.of_out rfl)
    · exact .of_out rfl
  · exact .of_out rfl

theorem State.takeCells_noFrame (s : State) (k : VoqKey) (len : Nat) (ce : Bool) (inSub prio : Nat) : s.NoFrame (s.takeCells k len ce inSub prio) := by
  unfold State.takeCells
  extract_lets
  split
  · exact .trans (.of_out rfl) (State.pfcCheck_noFrame _ _ _ _)
  · split
    · exact .trans (.of_out rfl) (State.pfcCheck_noFrame _ _ _ _)
    · split <;> exact .of_out rfl

theorem State.police_out (s : State) (t len : Nat) : (s.police t len).2.out = s.out := State.mask_out (P := but [.out]) (by simp) rfl

theorem State.profile_out (s : State) (q : QueueEntry) (col : Colour) (inp o sub c ecn : Nat) : (s.profile q col inp o sub c ecn).2.out = s.out :=
  State.mask_out (P := but [.out]) (by simp) rfl

theorem State.admitFrame_noFrame (s : State) (k : VoqKey) (len policer ecn inSub prio : Nat) :
    s.NoFrame (s.admitFrame k len policer ecn inSub prio) := by
  unfold State.admitFrame
  extract_lets mask pc redDrop
  have hpc : pc.2.out = s.out := by
    simp only [pc]
    split
    · rfl
    · exact State.police_out s policer len
  split
  · exact .of_out rfl
  · split
    · exact .of_out hpc
    · split
      · exact .trans (.of_out hpc) (State.takeCells_noFrame _ _ _ _ _ _)
      · extract_lets v
        have hv : v.2.out = s.out := (State.profile_out _ _ _ _ _ _ _ _).trans hpc
        split
        · exact .trans (.of_out hv) (State.takeCells_noFrame _ _ _ _ _ _)
        · exact .trans (.of_out (t := v.2.onNet fun n => { n with ecnMarks := n.ecnMarks + 1 }) hv) (State.takeCells_noFrame _ _ _ _ _ _)
        · exact .of_out hv

theorem State.takeStorage_noFrame (s : State) (b : Nat) : s.NoFrame (s.takeStorage b) := by
  have hcontrol : s.NoFrame (s.takeControl b).2 := by
    unfold State.takeControl
    split
    · exact .of_out rfl
    · next c e _ =>
      generalize hu : s.onCell c (fun x => { x with control := x.control.drop 1 }) = u
      have hout : u.out = s.out := by rw [← hu]; rfl
      exact ((State.NoFrame.of_out hout).trans (.emit u fun _ => rfl)).trans (State.admitFrame_noFrame _ _ _ _ _ _ _)
  have hoffer (u : State) : u.NoFrame (u.takeOffer b) := by
    unfold State.takeOffer
    extract_lets heads ok pool ptr pick
    clear_value pick
    cases pick with
    | none => exact .of_out rfl
    | some o =>
      exact .trans (t := u.onNet fun n =>
        { n with
          offers := n.offers.erase o
          offerPtr := putNth n.offerPtr b ((o.cell % 4 + 1) % 4)
          cirBucket := tabPut n.cirBucket o.tenant ⟨if ok.isEmpty then u.cirNow o.tenant else u.cirNow o.tenant - (o.len + 20) * 1024, 0, u.now⟩ })
        (.of_out rfl) (State.admitFrame_noFrame _ _ _ _ _ _ _)
  unfold State.takeStorage
  split
  · next h => rwa [h] at hcontrol
  · next h =>
    rw [h] at hcontrol
    exact hcontrol.trans (hoffer _)

/-- Moving a cell lets at most one frame out, through its queue's output. -/
theorem State.moveCell_out (s : State) (k : VoqKey) : ∃ new, (s.moveCell k).out = new ++ s.out ∧
    ∀ o, (new.filter (Emit.frameAt o)).length ≤ if k.outp = o then 1 else 0 := by
  have hnone {t : State} (h : t.out = s.out) : ∃ new, t.out = new ++ s.out ∧ ∀ o, (new.filter (Emit.frameAt o)).length ≤ if k.outp = o then 1 else 0 :=
    ⟨[], h, fun o => Nat.zero_le _⟩
  have hone {t : State} (id len : Nat) (ce : Bool) (h : t.out = s.out) : ∃ new, (t.emit (.frame k.outp k.sub k.cls id len ce)).out = new ++ s.out ∧
      ∀ o, (new.filter (Emit.frameAt o)).length ≤ if k.outp = o then 1 else 0 := by
    refine ⟨[.frame k.outp k.sub k.cls id len ce], by show _ :: t.out = _; rw [h]; rfl, fun o => ?_⟩
    by_cases ho : k.outp = o
    · simp [Emit.frameAt, ho]
    · simp [Emit.frameAt, ho]
  unfold State.moveCell
  split
  · exact hnone rfl
  · extract_lets key s1 s2
    have h1 : s1.out = s.out := by
      simp only [s1]
      split
      · split <;> rfl
      · rfl
    split
    · exact hnone h1
    · split
      · split
        · exact hnone h1
        · exact hone _ _ _ h1
      · exact hone _ _ _ h1

theorem State.foldl_moveCell_out (l : List VoqKey) (s : State) : ∃ new, (l.foldl State.moveCell s).out = new ++ s.out ∧
    ∀ o, (new.filter (Emit.frameAt o)).length ≤ (l.map VoqKey.outp).count o := by
  induction l generalizing s with
  | nil => exact ⟨[], rfl, fun _ => Nat.zero_le _⟩
  | cons k l ih =>
    obtain ⟨n1, e1, f1⟩ := State.moveCell_out s k
    obtain ⟨n2, e2, f2⟩ := ih (s.moveCell k)
    refine ⟨n2 ++ n1, by rw [List.foldl_cons, e2, e1, List.append_assoc], fun o => ?_⟩
    have h1 := f1 o
    have h2 := f2 o
    rw [List.filter_append, List.length_append, List.map_cons, List.count_cons]
    simp only [beq_iff_eq]
    omega

/-! ### A matching serves each output once (R322) -/

theorem bestQueue_mem {l : List VoqKey} {k : VoqKey} (h : bestQueue l = some k) : k ∈ l := by
  have key (l : List VoqKey) (b : Option VoqKey) (k : VoqKey) (h : l.foldl (fun b k => match b with
      | none => some k
      | some x => if x.cls < k.cls ∨ (x.cls = k.cls ∧ k.sub < x.sub) then some k else some x) b = some k) : k ∈ l ∨ b = some k := by
    induction l generalizing b with
    | nil => exact .inr h
    | cons a l ih =>
      rcases ih _ h with h | h
      · exact .inl (List.mem_cons_of_mem _ h)
      · cases b with
        | none => exact .inl (by rw [← Option.some.inj h]; exact List.mem_cons_self)
        | some x =>
          dsimp only at h
          split at h
          · exact .inl (by rw [← Option.some.inj h]; exact List.mem_cons_self)
          · exact .inr h
  exact (key l none k h).resolve_right (by simp)

theorem State.pickClass_mem {s : State} {reqs : List VoqKey} {d : Tab Nat} {k : VoqKey} (h : (s.pickClass reqs d).1 = some k) : k ∈ reqs := by
  unfold State.pickClass at h
  extract_lets dk names weight d2 at h
  split at h
  · next hb => exact List.mem_of_mem_filter (bestQueue_mem (hb.trans h))
  · split at h
    · next hb => exact List.mem_of_mem_filter (bestQueue_mem (hb.trans h))
    · exact List.mem_of_mem_filter (bestQueue_mem h)

/-- What a matching keeps: the matched outputs are distinct and no longer free, and the free inputs and outputs are listed once. -/
structure MatchSt.Sound (m : MatchSt) : Prop where
  nodup : (m.matched.map VoqKey.outp).Nodup
  taken : ∀ k ∈ m.matched, k.outp ∉ m.outputs
  outputs : m.outputs.Nodup
  inputs : m.inputs.Nodup

/-- Serving queue `k` at a free output keeps a matching sound. -/
theorem MatchSt.Sound.serve {m : MatchSt} (h : m.Sound) {k : VoqKey} (hk : ∀ x ∈ m.matched, x.outp ≠ k.outp) {m2 : MatchSt}
    (hin : m2.inputs.Nodup) (hout : m2.outputs = m.outputs.filter (· != k.outp)) (hmat : m2.matched = m.matched ++ [k]) : m2.Sound := by
  refine ⟨?_, ?_, ?_, hin⟩
  · rw [hmat, List.map_append, List.map_cons, List.map_nil, List.nodup_append]
    refine ⟨h.nodup, List.nodup_singleton _, ?_⟩
    rintro a ha b hb rfl
    obtain ⟨x, hx, rfl⟩ := List.mem_map.1 ha
    exact hk x hx (List.mem_singleton.1 hb)
  · intro x hx hmem
    rw [hout, List.mem_filter, bne_iff_ne] at hmem
    rw [hmat] at hx
    rcases List.mem_append.1 hx with hx | hx
    · exact h.taken x hx hmem.1
    · exact hmem.2 (by rw [List.mem_singleton.1 hx])
  · rw [hout]
    exact h.outputs.filter _

/-- The reserved cell times of the first outputs. -/
theorem State.matchReserved_sound (s : State) (ready : List VoqKey) (t n : Nat) {m : MatchSt} (h : m.Sound) (hm : m.matched = []) :
    ((List.range n).foldl (s.matchReserved ready t) m).Sound ∧ ∀ k ∈ ((List.range n).foldl (s.matchReserved ready t) m).matched, k.outp < n := by
  induction n with
  | zero => exact ⟨h, fun k hk => by rw [List.range_zero, List.foldl_nil, hm] at hk; cases hk⟩
  | succ n ih =>
    obtain ⟨h1, h2⟩ := ih
    rw [List.range_succ, List.foldl_append, List.foldl_cons, List.foldl_nil]
    generalize (List.range n).foldl (s.matchReserved ready t) m = u at *
    have hkeep : u.Sound ∧ ∀ k ∈ u.matched, k.outp < n + 1 := ⟨h1, fun k hk => Nat.lt_succ_of_lt (h2 k hk)⟩
    unfold State.matchReserved
    split
    · exact hkeep
    · next e _ =>
      extract_lets mine pick
      have hpick (k : VoqKey) (hp : pick = some k) : k.outp = n := by
        have hmem : k ∈ mine := by
          simp only [pick] at hp
          split at hp
          · next hb =>
            rw [← Option.some.inj hp]
            exact List.mem_of_mem_filter (bestQueue_mem hb)
          · exact bestQueue_mem hp
        have hf := (List.mem_filter.1 hmem).2
        simp only [Bool.and_eq_true, beq_iff_eq] at hf
        exact hf.1.2
      clear_value pick
      cases pick with
      | none =>
        refine ⟨⟨h1.nodup, fun k hk hmem => h1.taken k hk (List.mem_of_mem_filter hmem), h1.outputs.filter _, h1.inputs⟩, hkeep.2⟩
      | some k =>
        have hk := hpick k rfl
        refine ⟨h1.serve (k := k) (fun x hx => ?_) (h1.inputs.filter _) (by rw [hk]) rfl, fun x hx => ?_⟩
        · rw [hk]
          exact Nat.ne_of_lt (h2 x hx)
        · rcases List.mem_append.1 hx with hx | hx
          · exact hkeep.2 x hx
          · rw [List.mem_singleton.1 hx, hk]
            exact Nat.lt_succ_self n

/-- What output `o` grants (R322, R331). -/
def State.grantStep (s : State) (ready : List VoqKey) (m : MatchSt) (acc : List VoqKey × Tab Nat) (o : Nat) : List VoqKey × Tab Nat :=
  let reqs := ready.filter fun k => k.outp == o && m.inputs.contains k.inp
  let pick := s.pickClass reqs acc.2
  match pick.1 with
  | none => (acc.1, pick.2)
  | some k0 =>
    let same := reqs.filter fun k => k.cls == k0.cls && k.sub == k0.sub
    match roundRobin (tabGetD m.grantPtr (8 * o + k0.cls) 0) (same.map (·.inp)) with
    | some i => (acc.1 ++ [{ k0 with inp := i }], pick.2)
    | none => (acc.1, pick.2)

/-- What input `i` accepts of the grants (R322). -/
def State.acceptStep (s : State) (grants : List VoqKey) (first : Bool) (m : MatchSt) (i : Nat) : MatchSt :=
  let mine := grants.filter fun k => k.inp == i
  let top := mine.foldl (fun a k => max a k.cls) 0
  match roundRobin (nth m.acceptPtr i 0) ((mine.filter fun k => k.cls == top).map (·.outp)) with
  | none => m
  | some o =>
    match mine.find? fun k => k.outp == o with
    | none => m
    | some k =>
      { inputs := m.inputs.filter (· != i)
        outputs := m.outputs.filter (· != o)
        matched := m.matched ++ [k]
        grantPtr := if first then tabPut m.grantPtr (8 * o + k.cls) ((i + 1) % 14) else m.grantPtr
        acceptPtr := if first then putNth m.acceptPtr i ((o + 1) % 14) else m.acceptPtr
        deficit := if s.isStrict k then m.deficit
          else tabUpd 0 m.deficit (8 * queueTarget o k.sub + k.cls) (· - 256) }

theorem State.matchIter_eq (s : State) (ready : List VoqKey) (first : Bool) (m : MatchSt) : s.matchIter ready first m =
    let step1 := m.outputs.foldl (s.grantStep ready m) ([], m.deficit)
    m.inputs.foldl (s.acceptStep step1.1 first) { m with deficit := step1.2 } := rfl

/-- An output grants to itself alone, or to nobody. -/
theorem State.grantStep_cases (s : State) (ready : List VoqKey) (m : MatchSt) (acc : List VoqKey × Tab Nat) (o : Nat) :
    (s.grantStep ready m acc o).1 = acc.1 ∨ ∃ k, k.outp = o ∧ (s.grantStep ready m acc o).1 = acc.1 ++ [k] := by
  unfold State.grantStep
  extract_lets reqs pick
  split
  · exact .inl rfl
  · next k0 hpick =>
    have hk : k0.outp = o := by
      have hf := (List.mem_filter.1 (State.pickClass_mem hpick)).2
      simp only [Bool.and_eq_true, beq_iff_eq] at hf
      exact hf.1
    extract_lets same
    split
    · next i _ => exact .inr ⟨{ k0 with inp := i }, hk, rfl⟩
    · exact .inl rfl

/-- The grants of a round are to distinct outputs, each of the free ones. -/
theorem State.foldl_grantStep (s : State) (ready : List VoqKey) (m : MatchSt) (l : List Nat) (hl : l.Nodup) (acc : List VoqKey × Tab Nat)
    (hacc : (acc.1.map VoqKey.outp).Nodup) (hdis : ∀ k ∈ acc.1, k.outp ∉ l) :
    ((l.foldl (s.grantStep ready m) acc).1.map VoqKey.outp).Nodup ∧ ∀ k ∈ (l.foldl (s.grantStep ready m) acc).1, k ∈ acc.1 ∨ k.outp ∈ l := by
  induction l generalizing acc with
  | nil => exact ⟨hacc, fun k hk => .inl hk⟩
  | cons o l ih =>
    obtain ⟨ho, hl2⟩ := List.nodup_cons.1 hl
    rw [List.foldl_cons]
    rcases State.grantStep_cases s ready m acc o with h | ⟨k, hk, h⟩
    · obtain ⟨h1, h2⟩ := ih hl2 (s.grantStep ready m acc o) (by rwa [h]) (fun k hk => by rw [h] at hk; exact fun hm => hdis k hk (List.mem_cons_of_mem _ hm))
      refine ⟨h1, fun k hk => (h2 k hk).imp (fun hm => by rwa [h] at hm) (List.mem_cons_of_mem _)⟩
    · have hnd : ((acc.1 ++ [k]).map VoqKey.outp).Nodup := by
        rw [List.map_append, List.map_cons, List.map_nil, List.nodup_append]
        refine ⟨hacc, List.nodup_singleton _, ?_⟩
        rintro a ha b hb rfl
        obtain ⟨x, hx, hxa⟩ := List.mem_map.1 ha
        refine hdis x hx ?_
        rw [hxa, List.mem_singleton.1 hb, hk]
        exact List.mem_cons_self
      obtain ⟨h1, h2⟩ := ih hl2 (s.grantStep ready m acc o) (by rwa [h]) (fun x hx => by
        rw [h] at hx
        rcases List.mem_append.1 hx with hx | hx
        · exact fun hm => hdis x hx (List.mem_cons_of_mem _ hm)
        · rw [List.mem_singleton.1 hx, hk]
          exact ho)
      refine ⟨h1, fun x hx => ?_⟩
      rcases h2 x hx with hx | hx
      · rw [h] at hx
        rcases List.mem_append.1 hx with hx | hx
        · exact .inl hx
        · exact .inr (by rw [List.mem_singleton.1 hx, hk]; exact List.mem_cons_self)
      · exact .inr (List.mem_cons_of_mem _ hx)

/-- An input accepts one of its grants, or none. -/
theorem State.acceptStep_cases (s : State) (grants : List VoqKey) (first : Bool) (m : MatchSt) (i : Nat) :
    s.acceptStep grants first m i = m ∨ ∃ k, k ∈ grants ∧ k.inp = i ∧ (s.acceptStep grants first m i).inputs = m.inputs.filter (· != i)
      ∧ (s.acceptStep grants first m i).outputs = m.outputs.filter (· != k.outp) ∧ (s.acceptStep grants first m i).matched = m.matched ++ [k] := by
  unfold State.acceptStep
  extract_lets mine top
  split
  · exact .inl rfl
  · next o _ =>
    split
    · exact .inl rfl
    · next k hk =>
      have hmem := List.mem_of_find?_eq_some hk
      have hout : k.outp = o := by
        have h := List.find?_some hk
        simpa using h
      obtain ⟨h1, h2⟩ := List.mem_filter.1 hmem
      exact .inr ⟨k, h1, by simpa using h2, rfl, by rw [hout], rfl⟩

/-- The accepted grants keep a matching sound. -/
theorem State.foldl_acceptStep (s : State) {grants : List VoqKey} (hg : (grants.map VoqKey.outp).Nodup) (first : Bool) (l : List Nat) (hl : l.Nodup)
    {m : MatchSt} (h : m.Sound) (hfree : ∀ k ∈ grants, k.inp ∈ l → ∀ x ∈ m.matched, x.outp ≠ k.outp) :
    (l.foldl (s.acceptStep grants first) m).Sound := by
  induction l generalizing m with
  | nil => exact h
  | cons i l ih =>
    obtain ⟨hi, hl2⟩ := List.nodup_cons.1 hl
    rw [List.foldl_cons]
    rcases State.acceptStep_cases s grants first m i with he | ⟨k, hk, hinp, h1, h2, h3⟩
    · rw [he]
      exact ih hl2 h fun k hk hm => hfree k hk (List.mem_cons_of_mem _ hm)
    · have hnew := h.serve (hfree k hk (by rw [hinp]; exact List.mem_cons_self)) (by rw [h1]; exact h.inputs.filter _) h2 h3
      refine ih hl2 hnew fun g hgm hgi x hx => ?_
      rw [h3] at hx
      rcases List.mem_append.1 hx with hx | hx
      · exact hfree g hgm (List.mem_cons_of_mem _ hgi) x hx
      · rw [List.mem_singleton.1 hx]
        intro heq
        have hsame : k = g := List.inj_on_of_nodup_map hg hk hgm heq
        rw [← hsame, hinp] at hgi
        exact hi hgi

theorem State.matchIter_sound (s : State) (ready : List VoqKey) (first : Bool) {m : MatchSt} (h : m.Sound) : (s.matchIter ready first m).Sound := by
  rw [State.matchIter_eq]
  obtain ⟨h1, h2⟩ := State.foldl_grantStep s ready m m.outputs h.outputs ([], m.deficit) List.nodup_nil fun k hk => absurd hk List.not_mem_nil
  refine State.foldl_acceptStep s h1 first m.inputs h.inputs (m := { m with deficit := _ }) ⟨h.nodup, h.taken, h.outputs, h.inputs⟩ fun k hk _ x hx heq => ?_
  rcases h2 k hk with hm | hm
  · cases hm
  · exact h.taken x hx (by rw [heq]; exact hm)

/-- A matching serves each output at most once. -/
theorem State.matching_nodup (s : State) (t : Nat) : ((s.matching t).matched.map VoqKey.outp).Nodup := by
  refine MatchSt.Sound.nodup ?_
  refine s.matchIter_sound _ _ (s.matchIter_sound _ _ (s.matchIter_sound _ _ (s.matchReserved_sound _ t 14 ?_ rfl).1))
  exact ⟨List.nodup_nil, fun k hk => absurd hk List.not_mem_nil, List.nodup_range, List.nodup_range⟩

/-! ### One queue alone -/

/-- A loop that keeps the first it finds. -/
theorem foldl_first {α β : Type} {f : Option β → α → Option β} (p : α → Bool) (g : α → β) (hsome : ∀ x a, f (some x) a = some x)
    (hnone : ∀ a, f none a = if p a then some (g a) else none) (l : List α) : l.foldl f none = (l.find? p).map g := by
  induction l with
  | nil => rfl
  | cons a l ih =>
    rw [List.foldl_cons, hnone]
    by_cases ha : p a = true
    · rw [if_pos ha, List.find?_cons_of_pos ha, List.foldl_fixed' (hsome (g a))]
      rfl
    · rw [if_neg ha, ih, List.find?_cons_of_neg ha]

theorem roundRobin_eq (ptr : Nat) (l : List Nat) :
    roundRobin ptr l = ((List.range 14).find? fun i => l.contains ((ptr + i) % 14)).map fun i => (ptr + i) % 14 := by
  unfold roundRobin
  exact foldl_first _ _ (fun _ _ => rfl) (fun _ => rfl) _

/-- The round robin over one port takes it. -/
theorem roundRobin_single {x : Nat} (hx : x < 14) (ptr : Nat) : roundRobin ptr [x] = some x := by
  rw [roundRobin_eq]
  have hsome : ((List.range 14).find? fun i => [x].contains ((ptr + i) % 14)).isSome = true := by
    rw [List.find?_isSome]
    refine ⟨(x + 14 - ptr % 14) % 14, List.mem_range.2 (Nat.mod_lt _ (by decide)), ?_⟩
    simp only [List.contains_cons, List.contains_nil, Bool.or_false, beq_iff_eq]
    omega
  obtain ⟨i, hi⟩ := Option.isSome_iff_exists.1 hsome
  have hp := List.find?_some hi
  simp only [List.contains_cons, List.contains_nil, Bool.or_false, beq_iff_eq] at hp
  rw [hi, Option.map_some, hp]

theorem roundRobin_nil (ptr : Nat) : roundRobin ptr [] = none := by
  rw [roundRobin_eq, List.find?_eq_none.2 (by simp)]
  rfl

/-- An output that no ready queue is for grants nothing. -/
theorem State.grantStep_other (s : State) {k : VoqKey} (m : MatchSt) (acc : List VoqKey × Tab Nat) {o : Nat} (h : o ≠ k.outp) :
    (s.grantStep [k] m acc o).1 = acc.1 := by
  unfold State.grantStep
  extract_lets reqs pick
  have hnil : reqs = [] := by simp [reqs, Ne.symm h]
  split
  · rfl
  · next k0 hk0 =>
    have hmem := State.pickClass_mem hk0
    rw [hnil] at hmem
    cases hmem

/-- An output from 8 on grants to the one ready queue that is for it. -/
theorem State.grantStep_this (s : State) {k : VoqKey} (m : MatchSt) (acc : List VoqKey × Tab Nat) (hin : k.inp < 14) (hfree : k.inp ∈ m.inputs)
    (h8 : 8 ≤ k.outp) : (s.grantStep [k] m acc k.outp).1 = acc.1 ++ [k] := by
  have hreqs : ([k].filter fun x => x.outp == k.outp && m.inputs.contains x.inp) = [k] := by simp [hfree]
  have hstrict : s.isStrict k = true := by simp [State.isStrict, h8]
  have hpick : (s.pickClass [k] acc.2).1 = some k := by
    simp [State.pickClass, hstrict, bestQueue]
  have hsame : ([k].filter fun x => x.cls == k.cls && x.sub == k.sub) = [k] := by simp
  unfold State.grantStep
  dsimp only
  rw [hreqs, hpick]
  dsimp only
  rw [hsame, List.map_cons, List.map_nil, roundRobin_single hin]

theorem State.foldl_grantStep_single (s : State) {k : VoqKey} (m : MatchSt) (hin : k.inp < 14) (hfree : k.inp ∈ m.inputs) (h8 : 8 ≤ k.outp)
    (l : List Nat) (hl : l.Nodup) (acc : List VoqKey × Tab Nat) :
    (l.foldl (s.grantStep [k] m) acc).1 = if k.outp ∈ l then acc.1 ++ [k] else acc.1 := by
  induction l generalizing acc with
  | nil => rfl
  | cons o l ih =>
    obtain ⟨ho, hl2⟩ := List.nodup_cons.1 hl
    rw [List.foldl_cons, ih hl2]
    by_cases hk : o = k.outp
    · subst hk
      rw [if_neg ho, if_pos List.mem_cons_self, State.grantStep_this s m acc hin hfree h8]
    · rw [State.grantStep_other s m acc hk]
      simp only [List.mem_cons, Ne.symm hk, false_or]

theorem State.acceptStep_other (s : State) (first : Bool) (m : MatchSt) {grants : List VoqKey} {i : Nat} (h : ∀ k ∈ grants, k.inp ≠ i) :
    s.acceptStep grants first m i = m := by
  have hnil : (grants.filter fun k => k.inp == i) = [] := List.filter_eq_nil_iff.2 fun k hk => by simpa using h k hk
  unfold State.acceptStep
  dsimp only
  rw [hnil, List.filter_nil, List.map_nil, roundRobin_nil]

theorem State.acceptStep_this (s : State) (first : Bool) (m : MatchSt) {k : VoqKey} (hout : k.outp < 14) :
    (s.acceptStep [k] first m k.inp).matched = m.matched ++ [k] ∧ (s.acceptStep [k] first m k.inp).outputs = m.outputs.filter (· != k.outp) := by
  have hmine : ([k].filter fun x => x.inp == k.inp) = [k] := by simp
  have htop : ([k].filter fun x => x.cls == [k].foldl (fun a x => max a x.cls) 0) = [k] := by simp
  have hfind : ([k].find? fun x => x.outp == k.outp) = some k := by simp
  unfold State.acceptStep
  dsimp only
  rw [hmine, htop, List.map_cons, List.map_nil, roundRobin_single hout]
  dsimp only
  rw [hfind]
  exact ⟨rfl, rfl⟩

theorem State.foldl_acceptStep_single (s : State) (first : Bool) {k : VoqKey} (hout : k.outp < 14) (l : List Nat) (hl : l.Nodup) (m : MatchSt) :
    (l.foldl (s.acceptStep [k] first) m).matched = (if k.inp ∈ l then m.matched ++ [k] else m.matched)
      ∧ (l.foldl (s.acceptStep [k] first) m).outputs = if k.inp ∈ l then m.outputs.filter (· != k.outp) else m.outputs := by
  induction l generalizing m with
  | nil => exact ⟨rfl, rfl⟩
  | cons i l ih =>
    obtain ⟨hi, hl2⟩ := List.nodup_cons.1 hl
    rw [List.foldl_cons]
    obtain ⟨h1, h2⟩ := ih hl2 (s.acceptStep [k] first m i)
    rw [h1, h2]
    by_cases hk : i = k.inp
    · subst hk
      obtain ⟨a1, a2⟩ := State.acceptStep_this s first m hout
      rw [if_neg hi, if_neg hi, if_pos List.mem_cons_self, if_pos List.mem_cons_self]
      exact ⟨a1, a2⟩
    · rw [State.acceptStep_other s first m fun x hx => by rw [List.mem_singleton.1 hx]; exact Ne.symm hk]
      simp only [List.mem_cons, Ne.symm hk, false_or, and_self]

/-- A round with the queue's input and output free serves it. -/
theorem State.matchIter_single (s : State) (first : Bool) {m : MatchSt} (hm : m.Sound) {k : VoqKey} (hin : k.inp < 14) (hout : k.outp < 14) (h8 : 8 ≤ k.outp)
    (hi : k.inp ∈ m.inputs) (ho : k.outp ∈ m.outputs) (hno : m.matched = []) :
    (s.matchIter [k] first m).matched = [k] ∧ k.outp ∉ (s.matchIter [k] first m).outputs := by
  rw [State.matchIter_eq]
  have hg := State.foldl_grantStep_single s m hin hi h8 m.outputs hm.outputs ([], m.deficit)
  rw [if_pos ho, List.nil_append] at hg
  dsimp only
  rw [hg]
  obtain ⟨h1, h2⟩ := State.foldl_acceptStep_single s first hout m.inputs hm.inputs { m with deficit := (m.outputs.foldl (s.grantStep [k] m) ([], m.deficit)).2 }
  rw [h1, h2, if_pos hi, if_pos hi, hno]
  exact ⟨rfl, fun h => by simp at h⟩

/-- A round with the queue's output served changes neither. -/
theorem State.matchIter_done (s : State) (first : Bool) {m : MatchSt} {k : VoqKey} (ho : k.outp ∉ m.outputs) :
    (s.matchIter [k] first m).matched = m.matched ∧ (s.matchIter [k] first m).outputs = m.outputs := by
  rw [State.matchIter_eq]
  have hg (l : List Nat) (hl : k.outp ∉ l) (acc : List VoqKey × Tab Nat) : (l.foldl (s.grantStep [k] m) acc).1 = acc.1 := by
    induction l generalizing acc with
    | nil => rfl
    | cons o l ih =>
      rw [List.mem_cons, not_or] at hl
      rw [List.foldl_cons, ih hl.2, State.grantStep_other s m acc (Ne.symm hl.1)]
  have ha (l : List Nat) (m : MatchSt) : l.foldl (s.acceptStep [] first) m = m := by
    induction l with
    | nil => rfl
    | cons i l ih => rw [List.foldl_cons, State.acceptStep_other s first m (by simp), ih]
  dsimp only
  rw [hg m.outputs ho, ha]
  exact ⟨rfl, rfl⟩

/-- The reserved cell times leave the queue's input and output free when its output has none. -/
theorem State.matchReserved_single (s : State) {k : VoqKey} {t : Nat} (hres : s.reservedCell k.outp t = none) (l : List Nat) {m : MatchSt}
    (hm : m.matched = [] ∧ m.inputs = List.range 14 ∧ k.outp ∈ m.outputs) :
    let u := l.foldl (s.matchReserved [k] t) m
    u.matched = [] ∧ u.inputs = List.range 14 ∧ k.outp ∈ u.outputs := by
  induction l generalizing m with
  | nil => exact hm
  | cons o l ih =>
    obtain ⟨h1, h2, h3⟩ := hm
    rw [List.foldl_cons]
    refine ih ?_
    by_cases hk : o = k.outp
    · subst hk
      simp only [State.matchReserved, hres]
      exact ⟨h1, h2, h3⟩
    · have hnil : ([k].filter fun x => x.inp == (s.reservedCell o t).elim 0 SlotEntry.lane && x.outp == o && m.inputs.contains x.inp) = [] := by
        simp [Ne.symm hk]
      unfold State.matchReserved
      cases hr : s.reservedCell o t with
      | none => exact ⟨h1, h2, h3⟩
      | some e =>
        rw [hr] at hnil
        dsimp only [Option.elim] at hnil ⊢
        rw [hnil]
        exact ⟨h1, h2, List.mem_filter.2 ⟨h3, by simpa using Ne.symm hk⟩⟩

theorem State.matching_single {s : State} {k : VoqKey} {t : Nat} (hready : s.readyQueues = [k]) (hin : k.inp < 14) (hout : k.outp < 14) (h8 : 8 ≤ k.outp)
    (hres : s.reservedCell k.outp t = none) : (s.matching t).matched = [k] := by
  unfold State.matching
  dsimp only
  rw [hready]
  have hsound := (s.matchReserved_sound [k] t 14 (m := ⟨List.range 14, List.range 14, [], s.net.grantPtr, s.net.acceptPtr, s.net.deficit⟩)
    ⟨List.nodup_nil, fun k hk => absurd hk List.not_mem_nil, List.nodup_range, List.nodup_range⟩ rfl).1
  obtain ⟨r1, r2, r3⟩ := State.matchReserved_single s hres (List.range 14)
    (m := ⟨List.range 14, List.range 14, [], s.net.grantPtr, s.net.acceptPtr, s.net.deficit⟩) ⟨rfl, rfl, List.mem_range.2 hout⟩
  generalize (List.range 14).foldl (s.matchReserved [k] t) ⟨List.range 14, List.range 14, [], s.net.grantPtr, s.net.acceptPtr, s.net.deficit⟩ = m at *
  obtain ⟨i1, i2⟩ := s.matchIter_single true hsound hin hout h8 (by rw [r2]; exact List.mem_range.2 hin) r3 r1
  obtain ⟨j1, j2⟩ := s.matchIter_done false i2
  obtain ⟨l1, -⟩ := s.matchIter_done false (m := s.matchIter [k] false (s.matchIter [k] true m)) (k := k) (by rw [j2]; exact i2)
  rw [l1, j1, i1]

/-- With nothing to send from the RDMA cells the storage inputs take nothing. -/
theorem State.takeStorage_none {s : State} (hoff : s.net.offers = []) (hctl : ∀ c ∈ s.rdma.cells, c.control = []) (b : Nat) : s.takeStorage b = s := by
  have hcell (q : Nat) : (s.cell q).control = [] := by
    rw [State.cell, nth, List.getD_eq_getElem?_getD]
    cases h : s.rdma.cells[q % 16]? with
    | none => rfl
    | some c => exact hctl c (List.mem_of_getElem? h)
  have hcontrol : s.takeControl b = (false, s) := by
    have hnone : ((List.range 4).findSome? fun i => ((s.cell (4 * b + i)).control.head?).map fun e => (4 * b + i, e)) = none := by
      rw [List.findSome?_eq_none_iff]
      intro i _
      rw [hcell]
      rfl
    unfold State.takeControl
    rw [hnone]
  have hoffer : s.takeOffer b = s := by
    unfold State.takeOffer
    simp only [hoff, List.filter_nil, offerHeads, List.isEmpty_nil, if_true, List.find?_nil]
    rw [List.foldl_fixed' fun _ => rfl]
  unfold State.takeStorage
  rw [hcontrol]
  exact hoffer

/-- At an output from 8 on a cell moves, or the frame leaves: there is no shaper and no frame is too long. -/
theorem State.moveCell_inner {s : State} {k : VoqKey} {f : VoqFrame} {l : List VoqFrame} (hget : voqGet s.net.voqs k = f :: l) (h8 : 8 ≤ k.outp) :
    s.moveCell k = if f.crossed + 1 < f.cells then
      s.onNet fun n => { n with voqs := n.voqs.map fun e => if e.1 = k then (k, { f with crossed := f.crossed + 1 } :: l) else e }
    else (s.onNet fun n => { n with voqs := voqPut n.voqs k l }).emit (.frame k.outp k.sub k.cls f.id f.len f.ce) := by
  have hn8 : ¬ k.outp < 8 := Nat.not_lt.2 h8
  cases hq : s.queueEntry k.outp k.sub k.cls <;> cases hp : s.portEntry k.outp <;>
    simp only [State.moveCell, hget, hq, hp, hn8, false_and, and_false, if_false]

/-- The one queue's one frame moves a cell, or leaves at its last. -/
theorem State.moveCell_single {s : State} {k : VoqKey} {f : VoqFrame} (hv : s.net.voqs = [(k, [f])]) (h8 : 8 ≤ k.outp) :
    if f.crossed + 1 < f.cells then (s.moveCell k).net.voqs = [(k, [{ f with crossed := f.crossed + 1 }])] ∧ (s.moveCell k).out = s.out
    else voqGet (s.moveCell k).net.voqs k = [] ∧ (s.moveCell k).out = .frame k.outp k.sub k.cls f.id f.len f.ce :: s.out := by
  rw [State.moveCell_inner (f := f) (l := []) (by simp [hv, voqGet]) h8]
  by_cases hc : f.crossed + 1 < f.cells
  · simp [hc, State.onNet, hv]
  · simp [hc, State.onNet, State.emit, hv, voqPut, voqGet]

/-- The state in which the matching of a cell time is made. -/
def State.afterStorage (s : State) (n : Nat) : State := (List.range n).foldl State.takeStorage s

theorem exec_switchMatch {s : State} (haw : s.awake = true) (cell : Fin 7680) : exec (.switchMatch cell) s =
    .next (((s.afterStorage 4).matching cell).matched.foldl State.moveCell ((s.afterStorage 4).onNet fun n =>
      { n with
        grantPtr := ((s.afterStorage 4).matching cell).grantPtr
        acceptPtr := ((s.afterStorage 4).matching cell).acceptPtr, deficit := ((s.afterStorage 4).matching cell).deficit })) := by
  simp only [exec, execSwitchMatch, haw, Bool.not_true, Bool.false_eq_true, if_false, State.afterStorage]

/-- Settles O23: the pauses class by class, and the matching from its soundness. -/
theorem flowControlAndMatching : Obligations.FlowControlAndMatching := by
  intro s haw
  refine ⟨fun port sub prios quanta e he hwf => ?_, fun port sub prio e he hwf => ?_, fun port sub prio q hq hx => ⟨fun hle => ?_, fun hlt => ?_⟩, fun cell => ?_,
    fun cell k f hv hoff hctl hready hin h8 hout hres => ?_⟩
  · let ks := indices 8 fun k => prios.getLsbD k && e.pfc.getLsbD k
    refine ⟨s.onNet fun n =>
      { n with
        paused := (ks.flatMap (classesOf e)).foldl (fun t c =>
          if quanta = 0 then tabDel t (pauseKey port sub c) else tabPut t (pauseKey port sub c) (s.now + quantaSlots e quanta)) n.paused },
      by simp only [exec, execPfcFrameRx, haw, he, Bool.not_true, Bool.false_eq_true, if_false] <;> rfl, fun cls hcls => ?_⟩
    have hmem : cls ∈ ks.flatMap (classesOf e) ↔ prios.getLsbD (nth e.clsPcp cls 0) = true ∧ e.pfc.getLsbD (nth e.clsPcp cls 0) = true ∧ nth e.clsPcp cls 0 < 8 := by
      simp only [ks, List.mem_flatMap, mem_classesOf, indices, List.mem_filter, List.mem_range, Bool.and_eq_true]
      constructor
      · rintro ⟨k, ⟨h1, h2, h3⟩, -, rfl⟩
        exact ⟨h2, h3, h1⟩
      · rintro ⟨h2, h3, h1⟩
        exact ⟨_, ⟨h1, h2, h3⟩, hcls, rfl⟩
    refine (foldl_pause port sub quanta (s.now + quantaSlots e quanta) (ks.flatMap (classesOf e)) hwf cls).trans ?_
    simp only [hmem]
  · refine ⟨s.onNet fun n =>
      { n with
        paused := (classesOf e prio).foldl (fun t c =>
          if tabGetD t (pauseKey port sub c) (s.now + 1) ≤ s.now then tabDel t (pauseKey port sub c) else t) n.paused },
      by simp only [exec, execPfcPauseExpiry, haw, he, Bool.not_true, Bool.false_eq_true, if_false] <;> rfl, fun cls hcls => ?_⟩
    refine (foldl_unpause port sub s.now (classesOf e prio) hwf cls).trans ?_
    simp only [mem_classesOf, hcls, true_and]
  · refine ⟨(s.emit (.xoff port sub prio 0)).onNet fun n => { n with xoff := n.xoff.filter (· != ((port : Nat), (sub : Nat), (prio : Nat))) }, ?_, rfl, ?_⟩
    · simp [exec, execPfcXoffRepeat, haw, hx, hq, hle]
    · show _ ∉ s.net.xoff.filter _
      simp
  · refine ⟨s.emit (.xoff port sub prio 0xFFFF), ?_, rfl, rfl⟩
    simp [exec, execPfcXoffRepeat, haw, hx, hq, Nat.not_le.2 hlt]
  · have hstorage (n : Nat) : s.NoFrame (s.afterStorage n) := by
      induction n with
      | zero => exact .of_out rfl
      | succ n ih =>
        rw [State.afterStorage, List.range_succ, List.foldl_append]
        exact ih.trans (State.takeStorage_noFrame _ _)
    have hex := exec_switchMatch haw cell
    have hstor := hstorage 4
    generalize s.afterStorage 4 = u at hex hstor
    have hcount := State.matching_nodup u cell
    generalize u.matching cell = m at hex hcount
    generalize hw : u.onNet (fun n => { n with grantPtr := m.grantPtr, acceptPtr := m.acceptPtr, deficit := m.deficit }) = w at hex
    have hout : w.out = u.out := by rw [← hw]; rfl
    obtain ⟨n1, e1, f1⟩ := hstor
    obtain ⟨n2, e2, f2⟩ := State.foldl_moveCell_out m.matched w
    refine ⟨_, hex, n2 ++ n1, by rw [e2, hout, e1, List.append_assoc], fun o => ?_⟩
    have hfilter (l : List Emit) : (l.filter fun e => match e with | .frame outp .. => outp == o | _ => false) = l.filter (Emit.frameAt o) :=
      List.filter_congr fun e _ => by cases e <;> rfl
    have hnil : n1.filter (Emit.frameAt o) = [] := List.filter_eq_nil_iff.2 fun e he => by simp [f1 e he o]
    refine (congrArg List.length (hfilter (n2 ++ n1))).trans_le ?_
    rw [List.filter_append, hnil, List.append_nil]
    exact (f2 o).trans (List.nodup_iff_count_le_one.1 hcount o)
  · have hsame : s.afterStorage 4 = s := List.foldl_fixed' (State.takeStorage_none hoff hctl) _
    have hreadyq : s.readyQueues = [k] := by simp [State.readyQueues, hv, hready]
    have hmat := State.matching_single (s := s) (k := k) (t := cell) hreadyq hin hout h8 hres
    have hex := exec_switchMatch haw cell
    rw [hsame, hmat, List.foldl_cons, List.foldl_nil] at hex
    generalize hw : s.onNet _ = w at hex
    have hvw : w.net.voqs = [(k, [f])] := by rw [← hw]; exact hv
    have how : w.out = s.out := by rw [← hw]; rfl
    have hcell := State.moveCell_single hvw h8
    rw [how] at hcell
    exact ⟨_, hex, hcell⟩

end Sys2Proof.Machine
end

section
/-! SUPPORT. What a completion leaves of the queue pairs (chapter 11): a queue pair keeps its record but for its completions, packets
and Ledger order, and one that is not READY keeps those too but for the order. -/

namespace Sys2Proof.Machine

/-- What completions leave of a queue pair. -/
def Qp.Replied (x y : Qp) : Prop :=
  ∃ w cs es n, y = { x with ledgerWait := w, cqes := cs, sends := es, sPsn := n } ∧ (x.st ≠ .ready → cs = x.cqes ∧ es = x.sends ∧ n = x.sPsn)

theorem Qp.Replied.of_wait (x : Qp) (w : List (Nat × Option Cqe)) : x.Replied { x with ledgerWait := w } :=
  ⟨w, x.cqes, x.sends, x.sPsn, rfl, fun _ => ⟨rfl, rfl, rfl⟩⟩

theorem Qp.Replied.refl (x : Qp) : x.Replied x := .of_wait x x.ledgerWait

theorem Qp.Replied.trans {x y z : Qp} (h : x.Replied y) (h2 : y.Replied z) : x.Replied z := by
  obtain ⟨w, cs, es, n, rfl, h⟩ := h
  obtain ⟨w2, cs2, es2, n2, rfl, h2⟩ := h2
  refine ⟨w2, cs2, es2, n2, rfl, fun hst => ?_⟩
  obtain ⟨rfl, rfl, rfl⟩ := h hst
  exact h2 hst

/-- What completions leave of the state: each queue pair replied to, the controllers as they are, and nothing sent is taken back. -/
def State.Replies (s t : State) : Prop := (∀ p, (s.qp p).Replied (t.qp p)) ∧ t.nvme.ctls = s.nvme.ctls ∧ s.out <:+ t.out

theorem State.Replies.of_eq {s t : State} (h : t.rdma.qps = s.rdma.qps) (hn : t.nvme.ctls = s.nvme.ctls)
    (ho : s.out <:+ t.out := by exact List.suffix_refl _) : s.Replies t := by
  refine ⟨fun p => ?_, hn, ho⟩
  rw [State.qp, State.qp, h]
  exact .refl _

theorem State.Replies.refl (s : State) : s.Replies s := .of_eq rfl rfl

theorem State.Replies.trans {s t u : State} (h : s.Replies t) (h2 : t.Replies u) : s.Replies u :=
  ⟨fun p => (h.1 p).trans (h2.1 p), h2.2.1.trans h.2.1, h.2.2.trans h2.2.2⟩

theorem State.Replies.foldl {α : Type} {f : State → α → State} (hf : ∀ (s : State) a, s.Replies (f s a)) (l : List α) (s : State) : s.Replies (l.foldl f s) := by
  induction l generalizing s with
  | nil => exact .refl s
  | cons a l ih => exact (hf s a).trans (ih _)

/-- A change of one queue pair that completions may make. -/
theorem State.Replies.onQp (s : State) (q : Nat) {g : Qp → Qp} (hg : (s.qp q).Replied (g (s.qp q))) : s.Replies (s.onQp q g) := by
  refine ⟨fun p => ?_, rfl, List.suffix_refl _⟩
  by_cases hp : p = q
  · subst hp
    cases hq : tabGet s.rdma.qps p with
    | none =>
      have h1 : (s.onQp p g).qp p = s.qp p := by
        show (tabGet (tabMod s.rdma.qps p g) p).getD Qp.reset = (tabGet s.rdma.qps p).getD Qp.reset
        rw [tabGet_tabMod, if_pos rfl, hq]
        rfl
      rw [h1]
      exact .refl _
    | some x =>
      have h1 : (s.onQp p g).qp p = g (s.qp p) := by
        show (tabGet (tabMod s.rdma.qps p g) p).getD Qp.reset = g ((tabGet s.rdma.qps p).getD Qp.reset)
        rw [tabGet_tabMod, if_pos rfl, hq]
        rfl
      rw [h1]
      exact hg
  · rw [State.qp_onQp_other s g hp]
    exact .refl _

theorem State.pump_replies (s : State) (q fuel : Nat) : s.Replies (s.pump q fuel) := by
  induction fuel generalizing s with
  | zero => exact .refl s
  | succ fuel ih =>
    unfold State.pump
    extract_lets x
    split
    · exact .refl s
    · next c l hc =>
      split
      · next hsend =>
        have hready : (s.qp q).st = .ready := by
          simp only [Bool.and_eq_true, beq_iff_eq] at hsend
          exact hsend.1.1
        have hpkt : s.Replies (s.sendPkt q (.sendOnly x.sPsn.toNat c) 16) := .of_eq rfl rfl (List.suffix_cons _ _)
        have htake : (s.sendPkt q (.sendOnly x.sPsn.toNat c) 16).Replies ((s.sendPkt q (.sendOnly x.sPsn.toNat c) 16).takeSend q true 16) :=
          .trans (.onQp _ q ⟨x.ledgerWait, _, _, _, rfl, fun h => absurd hready h⟩) (.of_eq rfl rfl)
        have h1 := hpkt.trans htake
        generalize ((s.sendPkt q (.sendOnly x.sPsn.toNat c) 16).takeSend q true 16) = u at h1 ⊢
        have hu : (u.qp q).st = .ready := by
          obtain ⟨w, cs, es, n, hx, -⟩ := h1.1 q
          rw [hx]
          exact hready
        exact (h1.trans (.onQp u q ⟨(u.qp q).ledgerWait, _, _, _, rfl, fun h => absurd hu h⟩)).trans (ih _)
      · exact .refl s

theorem State.sendCqe_replies (s : State) (q : Nat) (c : Cqe) : s.Replies (s.sendCqe q c) := by
  unfold State.sendCqe
  split
  · next hready => exact (State.Replies.onQp s q ⟨(s.qp q).ledgerWait, _, _, _, rfl, fun h => absurd hready h⟩).trans (State.pump_replies _ _ _)
  · exact .refl s

theorem State.returnCqe_replies (s : State) (q ord : Nat) (c : Cqe) : s.Replies (s.returnCqe q ord c) := by
  unfold State.returnCqe
  extract_lets x marked r
  split
  · exact (State.Replies.onQp s q (.of_wait _ _)).trans (.foldl (fun s c => s.sendCqe_replies q c) _ _)
  · exact s.sendCqe_replies q c

theorem State.reply_replies (s : State) (ord : Nat) (c : Cmd) (sct sc : Nat) (dnr : Bool) (dw0 : Nat) : s.Replies (s.reply ord c sct sc dnr dw0) := by
  unfold State.reply
  split
  · exact s.returnCqe_replies _ _ _
  · exact .of_eq rfl rfl (List.suffix_cons _ _)
  · exact .of_eq rfl rfl

theorem State.finish_replies (s : State) (ord sct sc : Nat) (dnr : Bool) (dw0 : Nat) : s.Replies (s.finish ord sct sc dnr dw0) := by
  unfold State.finish
  split
  · exact .refl s
  · next c hc =>
    have hcount : s.Replies (s.countError (s.tenantOf c) sct sc) := by
      unfold State.countError
      split <;> exact .of_eq rfl rfl
    have hdrop (u : State) : u.Replies (u.dropCmd ord) := by
      unfold State.dropCmd
      split <;> exact .of_eq rfl rfl
    exact (hcount.trans (State.reply_replies _ ord c sct sc dnr dw0)).trans (hdrop _)

theorem State.failCmd_replies (s : State) (ord sct sc : Nat) (dnr : Bool) : s.Replies (s.failCmd ord sct sc dnr) := by
  refine State.Replies.trans ?_ (State.finish_replies _ ord sct sc dnr 0)
  unfold State.haltChain
  split
  · exact .refl s
  · split
    · exact .refl s
    · exact (State.Replies.foldl (fun u e => u.finish_replies _ _ _ _ _) _ _).trans (.of_eq rfl rfl)

theorem State.tryAck_replies (s : State) (ord : Nat) : s.Replies (s.tryAck ord) := by
  unfold State.tryAck
  split
  · exact .refl s
  · next c hc =>
    extract_lets ready
    split
    · have hnote : s.Replies (s.noteAck c) := by
        unfold State.noteAck
        split <;> exact .of_eq rfl rfl
      exact (hnote.trans (.of_eq rfl rfl)).trans (State.finish_replies _ ord 0 0 false 0)
    · exact .refl s

theorem State.endFetch_replies (s : State) (ord : Nat) : s.Replies (s.endFetch ord) := by
  unfold State.endFetch
  split
  · exact .refl s
  · next c hc =>
    split
    · exact .of_eq rfl rfl
    · split
      · split
        · refine State.Replies.trans ?_ (State.finish_replies _ ord 3 2 false 0)
          split <;> exact .of_eq rfl rfl
        · exact .refl s
      · split
        · extract_lets freed offs s1 s2
          have h1 : s.Replies s1 := by
            unfold s1
            split <;> exact .of_eq rfl rfl
          have h2 : s.Replies s2 := h1.trans (.of_eq rfl rfl)
          clear_value s2
          have hsettle : s.Replies (s2.settle ord) := h2.trans (.of_eq rfl rfl)
          split
          · exact h2
          · split
            · split
              · exact h2.trans (State.failCmd_replies _ _ _ _ _)
              · exact hsettle.trans (State.finish_replies _ _ _ _ _ _)
            · split
              · exact hsettle.trans (State.tryAck_replies _ _)
              · exact h2
        · exact .refl s

/-- A queue pair that enters FLUSHING. -/
def Qp.flushed (now : Nat) (x : Qp) : Qp :=
  { x with
    st := .flushing, since := now, held := [], heldSince := none, inq := [], cqes := [], sends := [], reqs := [],
    chain := none }

theorem State.flushQp_replies {s : State} {q : Nat} (h : (s.qp q).st = .ready) : (s.onQp q (Qp.flushed s.now)).Replies (s.flushQp q) := by
  unfold State.flushQp
  extract_lets x used s1 s2 s3 s4 recalled s5 s6 mine
  have h2 : s1.Replies s2 := .of_eq rfl rfl
  have h3 : s2.Replies s3 := by
    unfold s3
    split <;> exact .of_eq rfl rfl
  have h4 : s3.Replies s4 := .of_eq rfl rfl
  have h5 : s4.Replies s5 := .foldl (f := fun u (e : Nat × Nat × Capsule) => u.emit (.recall e.1)) (fun u e => .of_eq rfl rfl (List.suffix_cons _ _)) recalled s4
  have h6 : s5.Replies s6 := .of_eq rfl rfl
  rw [if_neg (by rw [h]; decide)]
  exact ((((h2.trans h3).trans h4).trans h5).trans h6).trans (.foldl (fun u (e : Nat × Cmd) => u.endFetch_replies e.1) mine s6)

theorem State.flushQp_ctls (s : State) (q : Nat) : (s.flushQp q).nvme.ctls = s.nvme.ctls := by
  by_cases h : (s.qp q).st = .ready
  · exact (State.flushQp_replies h).2.1
  · rw [State.flushQp, if_pos h]

/-- What flushing a READY queue pair leaves of it: it is FLUSHING with nothing to send or fetch. -/
theorem State.flushQp_flushed {s : State} {q : Nat} (h : (s.qp q).st = .ready) : ((s.qp q).flushed s.now).Replied ((s.flushQp q).qp q) := by
  have h1 := (State.flushQp_replies h).1 q
  rwa [State.qp_onQp_same (by simp [h])] at h1

/-- Flushing a queue pair replies to the others. -/
theorem State.flushQp_other (s : State) {q p : Nat} (hp : p ≠ q) : (s.qp p).Replied ((s.flushQp q).qp p) := by
  by_cases h : (s.qp q).st = .ready
  · have h1 := (State.flushQp_replies h).1 p
    rwa [State.qp_onQp_other s _ hp] at h1
  · rw [State.flushQp, if_pos h]
    exact .refl _

theorem Qp.Replied.st {x y : Qp} (h : x.Replied y) : y.st = x.st := by
  obtain ⟨w, cs, es, n, rfl, -⟩ := h
  rfl

/-- A queue pair that is done with: FLUSHING, with nothing to send, fetch or start. -/
def Qp.Quiet (x : Qp) : Prop := x.st = .flushing ∧ x.reqs = [] ∧ x.inq = [] ∧ x.cqes = []

theorem Qp.Quiet.replied {x y : Qp} (h : x.Quiet) (hr : x.Replied y) : y.Quiet := by
  obtain ⟨hst, hreqs, hinq, hcqes⟩ := h
  obtain ⟨w, cs, es, n, rfl, hkeep⟩ := hr
  obtain ⟨rfl, rfl, rfl⟩ := hkeep (by simp [hst])
  exact ⟨hst, hreqs, hinq, hcqes⟩

theorem State.flushQp_quiet {s : State} {q : Nat} (h : (s.qp q).st = .ready) : ((s.flushQp q).qp q).Quiet :=
  Qp.Quiet.replied (x := (s.qp q).flushed s.now) ⟨rfl, rfl, rfl, rfl⟩ (State.flushQp_flushed h)

/-- Once quiet, a queue pair stays so while others are flushed. -/
theorem State.flushQp_keeps_quiet {s : State} {q : Nat} (p : Nat) (h : (s.qp q).Quiet) : ((s.flushQp p).qp q).Quiet := by
  by_cases hp : q = p
  · rw [State.flushQp, if_pos (by rw [← hp, h.1]; decide)]
    exact h
  · exact h.replied (State.flushQp_other s hp)

theorem State.flushAll_keeps_quiet {q : Nat} (l : List (Nat × Qp)) {s : State} (h : (s.qp q).Quiet) :
    ((l.foldl (fun (s : State) e => s.flushQp e.1) s).qp q).Quiet := by
  induction l generalizing s with
  | nil => exact h
  | cons a l ih => exact ih (State.flushQp_keeps_quiet a.1 h)

/-- A READY queue pair of the list that is flushed ends quiet. -/
theorem State.flushAll_quiet {q : Nat} (l : List (Nat × Qp)) {s : State} (hst : (s.qp q).st = .ready) (hq : ∃ e ∈ l, e.1 = q) :
    ((l.foldl (fun (s : State) e => s.flushQp e.1) s).qp q).Quiet := by
  induction l generalizing s with
  | nil => simp at hq
  | cons a l ih =>
    by_cases ha : a.1 = q
    · exact State.flushAll_keeps_quiet l (s := s.flushQp a.1) (by rw [ha]; exact State.flushQp_quiet hst)
    · refine ih (s := s.flushQp a.1) ((State.flushQp_other s (Ne.symm ha)).st.trans hst) ?_
      obtain ⟨e, he, heq⟩ := hq
      rcases List.mem_cons.1 he with rfl | he
      · exact absurd heq ha
      · exact ⟨e, he, heq⟩

theorem State.flushAll_ctls (l : List (Nat × Qp)) (s : State) : (l.foldl (fun (s : State) e => s.flushQp e.1) s).nvme.ctls = s.nvme.ctls := by
  induction l generalizing s with
  | nil => rfl
  | cons a l ih => exact (ih (s.flushQp a.1)).trans (s.flushQp_ctls a.1)

/-- The READY queue pairs of a controller that is torn down end quiet. -/
theorem State.teardownCtl_quiet {s : State} {c q : Nat} (hst : (s.qp q).st = .ready) (hc : (s.qp q).ctl = some c) : ((s.teardownCtl c).qp q).Quiet := by
  obtain ⟨x, hx⟩ := Option.isSome_iff_exists.mp (State.qp_present (s := s) (q := q) (by simp [hst]))
  have hqx : s.qp q = x := by simp [State.qp, tabGetD, hx]
  refine State.flushAll_quiet _ hst ⟨(q, x), List.mem_filter.2 ⟨mem_of_tabGet hx, ?_⟩, rfl⟩
  simp [← hqx, hst, hc]

theorem State.teardownCtl_ctls (s : State) (c : Nat) : (s.teardownCtl c).nvme.ctls = tabDel s.nvme.ctls c :=
  congrArg (fun t => tabDel t c) (State.flushAll_ctls _ s)

end Sys2Proof.Machine
end

section
/-! PROOF. The states of a connection (O24). -/

namespace Sys2Proof.Machine

/-- The entries of distinct keys that a table's list names are as many as the keys at the least. -/
theorem length_le_filter_of_keys {α : Type} (t : Tab α) (p : Nat × α → Bool) (ks : List Nat) (hnd : ks.Nodup)
    (h : ∀ k ∈ ks, ∃ e ∈ t, e.1 = k ∧ p e = true) : ks.length ≤ (t.filter p).length := by
  have hsub : ks ⊆ (t.filter p).map Prod.fst := fun k hk => by
    obtain ⟨e, he, rfl, hp⟩ := h k hk
    exact List.mem_map_of_mem (List.mem_filter.2 ⟨he, hp⟩)
  simpa using (List.subperm_of_subset hnd hsub).length_le

/-- A cell with room has a free index. -/
theorem State.freeIndex_some {s : State} {c : Nat} (hc : c < 16) (hroom : s.cellLoad c < 1024) :
    ∃ q, s.freeIndex c = some q ∧ q < 16384 ∧ q % 16 = c ∧ (s.qp q).st = .free := by
  cases hf : s.freeIndex c with
  | some q =>
    have hmem := List.mem_of_find?_eq_some hf
    obtain ⟨k, hk, rfl⟩ := List.mem_map.1 hmem
    rw [List.mem_range] at hk
    refine ⟨_, rfl, by omega, by omega, ?_⟩
    simpa using List.find?_some hf
  | none =>
    rw [State.freeIndex, List.find?_eq_none] at hf
    refine absurd (length_le_filter_of_keys s.rdma.qps (fun e => e.1 % 16 == c && e.2.st != .free)
      ((List.range 1024).map fun k => c + 16 * k) ?_ fun q hq => ?_) ?_
    · exact List.Nodup.map (fun a b h => by simpa using h) List.nodup_range
    · have hne : (s.qp q).st ≠ .free := by simpa using hf q hq
      obtain ⟨x, hx⟩ := Option.isSome_iff_exists.mp (State.qp_present hne)
      have hqx : s.qp q = x := by simp [State.qp, tabGetD, hx]
      obtain ⟨k, -, rfl⟩ := List.mem_map.1 hq
      exact ⟨_, mem_of_tabGet hx, rfl, by simp [← hqx, hne]; omega⟩
    · rw [List.length_map, List.length_range]
      exact Nat.not_le.2 hroom

/-- The fold that keeps the first least element of a list. -/
theorem foldl_least {f : Nat → Nat} {g : Option Nat → Nat → Option Nat} (hnone : ∀ c, g none c = some c)
    (hsome : ∀ x c, g (some x) c = if f c < f x then some c else some x) (l : List Nat) (b : Option Nat) (h : b.isSome = true ∨ l ≠ []) :
    ∃ x, l.foldl g b = some x ∧ (x ∈ l ∨ b = some x) ∧ (∀ c ∈ l, f x ≤ f c) ∧ ∀ y, b = some y → f x ≤ f y := by
  induction l generalizing b with
  | nil =>
    obtain ⟨x, rfl⟩ := Option.isSome_iff_exists.mp (h.resolve_right (by simp))
    exact ⟨x, rfl, .inr rfl, by simp, fun y hy => by cases hy; exact Nat.le_refl _⟩
  | cons a l ih =>
    obtain ⟨x, hx, hin, hle, hb⟩ := ih (g b a) (.inl (by cases b <;> simp only [hnone, hsome] <;> (try split) <;> rfl))
    refine ⟨x, hx, ?_, ?_, ?_⟩
    · cases b with
      | none => rw [hnone] at hin; grind
      | some y => rw [hsome] at hin; grind
    · cases b with
      | none => rw [hnone] at hb; grind
      | some y => rw [hsome] at hb; grind
    · cases b with
      | none => simp
      | some y => rw [hsome] at hb; grind

/-- With a cell that has room, the index chosen is a FREE one of a cell with the fewest queue pairs. -/
theorem State.chooseQp_some {s : State} (hroom : ∃ c : Fin 16, s.cellLoad c < 1024) :
    ∃ q, s.chooseQp = some q ∧ q < 16384 ∧ (s.qp q).st = .free ∧ ∀ c : Fin 16, s.cellLoad (q % 16) ≤ s.cellLoad c := by
  obtain ⟨c0, hc0⟩ := hroom
  have hmem {c : Nat} : c ∈ ((List.range 16).filter fun c => decide (s.cellLoad c < 1024)) ↔ c < 16 ∧ s.cellLoad c < 1024 := by simp
  obtain ⟨x, hx, hin, hle, -⟩ := foldl_least (f := s.cellLoad)
    (g := fun (b : Option Nat) c => match b with
      | none => some c
      | some x => if s.cellLoad c < s.cellLoad x then some c else b)
    (fun _ => rfl) (fun _ _ => rfl) ((List.range 16).filter fun c => decide (s.cellLoad c < 1024)) none
    (.inr (List.ne_nil_of_mem (hmem.2 ⟨c0.isLt, hc0⟩)))
  obtain ⟨hx16, hxroom⟩ := hmem.1 (hin.resolve_right (by simp))
  obtain ⟨q, hq, hlt, hmod, hfree⟩ := State.freeIndex_some hx16 hxroom
  refine ⟨q, ?_, hlt, hfree, fun c => ?_⟩
  · have hb : s.chooseQp = (some x).bind s.freeIndex := congrArg (fun b => b.bind s.freeIndex) hx
    rw [hb, Option.bind_some, hq]
  · rw [hmod]
    by_cases hc : s.cellLoad c < 1024
    · exact hle _ (hmem.2 ⟨c.isLt, hc⟩)
    · omega

theorem State.toTimewait_qp {s : State} {q : Nat} (h : (s.qp q).st ≠ .free) : (s.toTimewait q).qp q =
    { s.qp q with st := .timewait, since := s.now, inq := [], held := [], ledgerWait := [] } :=
  State.qp_onQp_same h _

theorem State.toTimewait_other (s : State) {q p : Nat} (hp : p ≠ q) : (s.toTimewait q).qp p = s.qp p :=
  State.qp_onQp_other s _ hp

/-- Closing a READY queue pair leaves it quiet; that of an admin queue ends the controller. -/
theorem State.closeQueue_quiet {s : State} {q : Nat} (hst : (s.qp q).st = .ready) : ((s.closeQueue q).qp q).Quiet := by
  unfold State.closeQueue
  extract_lets x
  split
  · next c hc =>
    split
    · exact State.teardownCtl_quiet hst hc
    · exact State.flushQp_quiet hst
  · exact State.flushQp_quiet hst

theorem State.closeQueue_admin {s : State} {q c : Nat} (hst : (s.qp q).st = .ready) (hc : (s.qp q).ctl = some c) (ha : (s.qp q).admin = true) :
    s.closeQueue q = s.teardownCtl c := by
  simp [State.closeQueue, hc, ha, hst]

/-- Settles O24: the index chosen is a free one of a least loaded cell, and each state change is one of the queue pair alone. -/
theorem connectionStates : Obligations.ConnectionStates := by
  intro s hwf haw
  refine ⟨fun req hopt hpmtu hup hroom => ?_, fun req hopt => ?_, fun q => ?_⟩
  · obtain ⟨q, hq, hlt, hfree, hleast⟩ := State.chooseQp_some hroom
    have hp : (req.pmtu == 1024 || req.pmtu == 2048 || req.pmtu == 4096) = true := by
      rcases hpmtu with h | h | h <;> simp [h]
    refine ⟨_, by simp only [exec, execCmRequest, haw, hopt, hp, hup, hq, Bool.and_self, Bool.not_true, Bool.false_eq_true, if_false, if_true]; rfl,
      q, hlt, hfree, hleast, ?_⟩
    generalize s.portRate _ = rate
    have hget (t : State) (x : Qp) (ht : t.rdma.qps = tabPut s.rdma.qps q x) : t.qp q = x := by
      rw [State.qp, ht, tabGetD, tabGet_tabPut_same]
      rfl
    rw [hget _ _ rfl]
    refine ⟨rfl, rfl, rfl, rfl, rfl, rfl, rfl, rfl, fun p hp => ?_⟩
    exact congrArg (fun o => o.getD Qp.reset) (tabGet_tabPut_other s.rdma.qps _ hp)
  · exact ⟨s.emit .cmReject, by simp [exec, execCmRequest, haw, hopt], rfl, rfl⟩
  · intro x others
    refine ⟨fun hst => ?_, fun hst => ?_, fun hst hdue => ?_, fun hst hdue => ?_, fun hst => ?_, fun hst hb => ?_, fun hst hb => ?_,
      fun hst hdue hrwf => ?_⟩
    · refine ⟨s.onQp q fun x => { x with st := .ready, since := s.now }, ?_, ?_, fun p hp => State.qp_onQp_other s _ hp⟩
      · simp only [exec, execCmReadyToUse, haw, Bool.not_true, Bool.false_eq_true, if_false]
        exact congrArg _ (if_pos hst)
      · exact State.qp_onQp_same (by rw [show (s.qp q).st = _ from hst]; decide) _
    · refine ⟨s.toTimewait q, ?_, ?_, ?_, fun p hp => State.toTimewait_other s hp⟩
      · simp only [exec, execCmRejectRx, haw, Bool.not_true, Bool.false_eq_true, if_false]
        exact congrArg _ (if_pos hst)
      · rw [State.toTimewait_qp (by rw [show (s.qp q).st = _ from hst]; decide)]
      · rw [State.toTimewait_qp (by rw [show (s.qp q).st = _ from hst]; decide)]
    · refine ⟨s.toTimewait q, ?_, ?_, ?_, fun p hp => State.toTimewait_other s hp⟩
      · simp only [exec, execConnectingTimeout, haw, Bool.not_true, Bool.false_eq_true, if_false]
        exact congrArg _ (if_pos ⟨hst, hdue⟩)
      · rw [State.toTimewait_qp (by rw [show (s.qp q).st = _ from hst]; decide)]
      · rw [State.toTimewait_qp (by rw [show (s.qp q).st = _ from hst]; decide)]
    · simp only [exec, execConnectingTimeout, haw, Bool.not_true, Bool.false_eq_true, if_false]
      exact congrArg _ (if_neg fun h => absurd h.2 (Nat.not_le.2 hdue))
    · obtain ⟨hflush, hreqs, hinq, hcqes⟩ := State.closeQueue_quiet hst
      refine ⟨s.closeQueue q, by simp [exec, execCmDisconnect, haw], hflush, hreqs, hinq, hcqes, fun c hc ha hcw => ?_⟩
      rw [State.closeQueue_admin hst hc ha, State.teardownCtl_ctls, tabGet_tabDel hcw, if_pos rfl]
    · refine ⟨s.toTimewait q, ?_, ?_, ?_, ?_, fun p hp => State.toTimewait_other s hp⟩
      · simp only [exec, execQpFlushComplete, haw, Bool.not_true, Bool.false_eq_true, if_false]
        exact congrArg _ (if_pos ⟨hst, by simp [hb]⟩)
      · rw [State.toTimewait_qp (by rw [show (s.qp q).st = _ from hst]; decide)]
      · rw [State.toTimewait_qp (by rw [show (s.qp q).st = _ from hst]; decide)]
      · rw [State.toTimewait_qp (by rw [show (s.qp q).st = _ from hst]; decide)]
    · simp only [exec, execQpFlushComplete, haw, Bool.not_true, Bool.false_eq_true, if_false]
      exact congrArg _ (if_neg fun h => by simp [hb] at h)
    · refine ⟨(s.onRdma fun r => { r with qps := tabDel r.qps q }).onNvme fun n => { n with resv := tabDel n.resv q }, ?_, ?_, ?_, fun p hp => ?_⟩
      · simp only [exec, execTimewaitExpiry, haw, Bool.not_true, Bool.false_eq_true, if_false]
        exact congrArg _ (if_pos ⟨hst, hdue⟩)
      · show ((tabGet (tabDel s.rdma.qps q) q).getD Qp.reset).st = _
        rw [tabGet_tabDel hwf, if_pos rfl]
        rfl
      · show tabGet (tabDel s.nvme.resv q) q = none
        rw [tabGet_tabDel hrwf, if_pos rfl]
      · show (tabGet (tabDel s.rdma.qps q) p).getD Qp.reset = _
        rw [tabGet_tabDel hwf, if_neg hp]
        rfl

end Sys2Proof.Machine
end

section
/-! PROOF. Fetching a command's data from the host (O26). -/

namespace Sys2Proof.Machine

theorem State.cell_onCell {s : State} (hlen : s.rdma.cells.length = 16) (q : Nat) (g : RdmaCell → RdmaCell) :
    (s.onCell q g).cell q = g (s.cell q) := by
  show nth (modNth s.rdma.cells (q % 16) g) (q % 16) _ = _
  rw [nth_modNth_of_lt _ _ _ (by rw [hlen]; exact Nat.mod_lt _ (by decide)), if_pos rfl]
  rfl

@[simp] theorem State.onCell_qp (s : State) (q : Nat) (g : RdmaCell → RdmaCell) (p : Nat) : (s.onCell q g).qp p = s.qp p := rfl

@[simp] theorem State.sendPkt_qp (s : State) (q : Nat) (k : Pkt) (n p : Nat) : (s.sendPkt q k n).qp p = s.qp p := rfl

@[simp] theorem State.onCmd_qp (s : State) (ord : Nat) (g : Cmd → Cmd) (p : Nat) : (s.onCmd ord g).qp p = s.qp p := rfl

/-- An accepted right packet of a READY queue pair changes no counter of its cell, and leaves the cells 16. -/
theorem State.acceptPkt_cell {s : State} (hlen : s.rdma.cells.length = 16) (haw : s.awake = true) {h : PktHdr} {q : Nat} (hq : s.qpnIndex h.qpn = some q)
    (hst : (s.qp q).st = .ready) (hk : h.pkeyOk = true) (hi : h.icrcOk = true) (ha : h.addrOk = true) :
    (s.acceptPkt h).2.rdma.cells.length = 16 ∧ ((s.acceptPkt h).2.cell q).late = (s.cell q).late := by
  obtain ⟨due, hacc⟩ : ∃ due : Bool, (s.acceptPkt h).2 = if due then
      (s.sendCtl q .cnp 0 0).onQp q fun x => { x with lastCnpTx := some s.now } else s := by
    refine ⟨h.ce && (match (s.qp q).lastCnpTx with
      | some t => decide (t + us 50 ≤ s.now)
      | none => true), ?_⟩
    simp only [State.acceptPkt, haw, hq, hst, hk, hi, ha, Bool.and_eq_true]
    rfl
  rw [hacc]
  cases due
  · exact ⟨hlen, rfl⟩
  · rw [if_pos rfl]
    refine ⟨?_, (congrArg RdmaCell.late (State.cell_onCell hlen q _)).trans rfl⟩
    show (modNth s.rdma.cells (q % 16) _).length = 16
    rw [modNth_length, hlen]

theorem State.flushQp_st {s : State} {q : Nat} (h : (s.qp q).st = .ready) : ((s.flushQp q).qp q).st = .flushing := (State.flushQp_quiet h).1

/-- A READY queue pair that fails is FLUSHING. -/
theorem State.failQp_st {s : State} {q : Nat} (h : (s.qp q).st = .ready) : ((s.failQp q).qp q).st = .flushing := by
  unfold State.failQp
  extract_lets x s1
  split
  · next t _ =>
    have h1 : (s1.event (0x800 + t) 0x0A (3 + 256 * s.qpnOf q) 0).rdma = s1.rdma := State.mask_rdma (P := but [.rdma]) (by simp) rfl
    rw [State.qp, h1]
    exact State.flushQp_st h
  · exact State.flushQp_st h

theorem State.countRetry_left {s : State} {q : Nat} (h : (s.qp q).retries < (s.qp q).retryMax) :
    s.countRetry q = (true, s.onQp q fun x => { x with retries := x.retries + 1 }) := by
  rw [State.countRetry, if_neg (Nat.not_le.2 h)]

theorem State.countRetry_spent {s : State} {q : Nat} (h : (s.qp q).retryMax ≤ (s.qp q).retries) : s.countRetry q = (false, s.failQp q) := by
  rw [State.countRetry, if_pos h]

theorem State.forwardWhole_qps (s : State) (ord : Nat) : (s.forwardWhole ord).rdma.qps = s.rdma.qps := by
  have hdrop (u : State) : (u.dropCmd ord).rdma = u.rdma := State.mask_rdma (P := these [.sched]) (by simp) rfl
  unfold State.forwardWhole
  split
  · rfl
  · split
    · extract_lets data s1
      rw [hdrop]
      show s1.rdma.qps = _
      unfold s1
      split <;> rfl
    · rfl

/-- A READ request within its limits goes out at the next PSN. -/
theorem exec_rdmaReadIssue {s : State} (hlen : s.rdma.cells.length = 16) (haw : s.awake = true) {q : Fin 16384} (hst : (s.qp q).st = .ready) {ord : Nat} {c : Cmd}
    (hn : s.nextFetch q = some (ord, c)) (hc : s.cmd ord = some c) {n pk : Nat} (hnn : min 32 (c.len - c.fetchNext) = n)
    (hpk : (4096 * n + (s.qp q).pmtu - 1) / (s.qp q).pmtu = pk) (h16 : (s.qp q).reqs.length < 16) (hr : (s.qp q).reqs.length < (s.qp q).responder)
    (hw : psnDist ((s.qp q).sPsn + BitVec.ofNat 24 pk - 1) (s.qp q).windowBase < 256) (hslots : (s.cell q).stagingUsed + n ≤ 512) :
    Completes (.rdmaReadIssue q) s fun t =>
      (∃ r, (t.qp q).reqs = (s.qp q).reqs ++ [r] ∧ r.ord = ord ∧ r.offset = 4096 * c.fetchNext ∧ r.length = 4096 * n ∧ r.firstPsn = (s.qp q).sPsn.toNat)
        ∧ (t.qp q).sPsn = (s.qp q).sPsn + BitVec.ofNat 24 pk ∧ (t.cell q).stagingUsed = (s.cell q).stagingUsed + n
        ∧ t.cmd ord = some { c with fetchNext := c.fetchNext + n }
        ∧ t.out = .rdma q (.readRequest (s.qp q).sPsn.toNat (c.cap.sglAddr + 4096 * c.fetchNext) c.cap.sglKey (4096 * n)) :: s.out := by
  let r : RdReq :=
    { ord := ord, offset := 4096 * c.fetchNext, length := 4096 * n, firstPsn := (s.qp q).sPsn.toNat, got := [], chunks := [],
      higherAt := none, reissue := false, sentAt := s.now }
  let s1 := s.sendPkt q (.readRequest (s.qp q).sPsn.toNat (c.cap.sglAddr + r.offset) c.cap.sglKey (4096 * n)) 16
  let s2 := s1.onQp q fun x => { x with reqs := x.reqs ++ [r], sPsn := x.sPsn + BitVec.ofNat 24 pk }
  let s3 := s2.onCell q fun k => { k with stagingUsed := k.stagingUsed + n }
  have hex : exec (.rdmaReadIssue q) s = .next (s3.onCmd ord fun c => { c with fetchNext := c.fetchNext + n }) := by
    simp only [exec, execRdmaReadIssue, haw, hn, hnn, hpk, Bool.not_true, Bool.false_eq_true, if_false]
    refine congrArg Host.Outcome.next (if_neg ?_)
    rintro (h | h | h | h | h)
    · exact h hst
    all_goals omega
  have hqp : s2.qp q = { s.qp q with reqs := (s.qp q).reqs ++ [r], sPsn := (s.qp q).sPsn + BitVec.ofNat 24 pk } :=
    State.qp_onQp_same (s := s1) (by rw [show (s1.qp q).st = _ from hst]; decide) _
  refine ⟨_, hex, ⟨r, ?_, rfl, rfl, rfl, rfl⟩, ?_, ?_, ?_, rfl⟩
  · exact congrArg Qp.reqs hqp
  · exact congrArg Qp.sPsn hqp
  · exact congrArg RdmaCell.stagingUsed (State.cell_onCell (s := s2) hlen q _)
  · show tabGet (tabMod s.sched.cmds ord _) ord = _
    rw [tabGet_tabMod, if_pos rfl, show tabGet s.sched.cmds ord = _ from hc]
    rfl

/-- What a request becomes when a later response shows a gap in it. -/
theorem exec_rdmaReadResponseRx {s s1 : State} {h : PktHdr} {bytes q : Nat} {payload : Sector} (hacc : s.acceptPkt h = (some q, s1)) (hst : (s1.qp q).st = .ready)
    (hw : psnDist h.psn (s1.qp q).windowBase < 256) {r : RdReq} (hr : (s1.qp q).reqOf h.psn = some r) {i : Nat}
    (hi : psnDist h.psn (BitVec.ofNat 24 r.firstPsn) = i) (hnot : i ∉ r.got) (hb : bytes = min (s1.qp q).pmtu (r.length - i * (s1.qp q).pmtu)) :
    Completes (.rdmaReadResponseRx h bytes payload) s fun t =>
      if r.got.length + 1 = r.packets (s1.qp q).pmtu then ∀ y ∈ (t.qp q).reqs, y.firstPsn ≠ r.firstPsn
      else ∃ y ∈ (t.qp q).reqs, y.firstPsn = r.firstPsn ∧ y.got = i :: r.got ∧ y.chunks = (i, payload) :: r.chunks := by
  have hin : r ∈ (s1.qp q).reqs := List.mem_of_find?_eq_some hr
  have hex : ∃ (r1 : RdReq) (mark : RdReq → RdReq), r1.firstPsn = r.firstPsn ∧ r1.got = i :: r.got ∧ r1.chunks = (i, payload) :: r.chunks
      ∧ (∀ y, ∃ τ, mark y = { y with higherAt := τ })
      ∧ exec (.rdmaReadResponseRx h bytes payload) s = .next (((s1.onQp q fun x =>
          { x with
            reqs := if r.got.length + 1 = r.packets (s1.qp q).pmtu
              then (((s1.qp q).reqs.map fun y => if y.firstPsn = r.firstPsn then r1 else y).map mark).filter fun y => y.firstPsn != r.firstPsn
              else ((s1.qp q).reqs.map fun y => if y.firstPsn = r.firstPsn then r1 else y).map mark }).onCmd r.ord
            fun c => c.addSectors (r1.sectors (s1.qp q).pmtu)).forwardWhole r.ord) := by
    refine ⟨{ r with got := i :: r.got, chunks := (i, payload) :: r.chunks, sentAt := s1.now }, fun y =>
      if (List.range (y.packets (s1.qp q).pmtu)).any (fun j =>
        !y.got.contains j && decide (psnDist (BitVec.ofNat 24 (y.firstPsn + j)) (s1.qp q).windowBase < psnDist h.psn (s1.qp q).windowBase)) = true
        ∧ y.higherAt = none then { y with higherAt := some s1.now } else y, rfl, rfl, rfl, fun y => ?_, ?_⟩
    · beta_reduce
      split
      · exact ⟨_, rfl⟩
      · exact ⟨y.higherAt, rfl⟩
    · have hnc : r.got.contains i = false := by simpa using hnot
      have hw1 : ¬ 256 ≤ psnDist h.psn (s1.qp q).windowBase := Nat.not_le.2 hw
      simp only [exec, execRdmaReadResponseRx, hacc, if_neg hw1, hr, hi, hnc, Bool.false_eq_true, if_false, hb, ne_eq, not_true_eq_false]
      rfl
  obtain ⟨r1, mark, h1, h2, h3, hmark, hex⟩ := hex
  refine ⟨_, hex, ?_⟩
  have hreqs : ∀ g : Qp → Qp, ∀ f, ((((s1.onQp q g).onCmd r.ord f).forwardWhole r.ord).qp q) = g (s1.qp q) := fun g f => by
    rw [State.qp, State.forwardWhole_qps]
    exact State.qp_onQp_same (s := s1) (by simp [hst]) g
  beta_reduce
  simp only [hreqs]
  split
  · next hfull =>
    intro y hy
    simpa using (List.mem_filter.1 hy).2
  · next hfull =>
    obtain ⟨τ, hτ⟩ := hmark r1
    refine ⟨mark r1, ?_, by rw [hτ]; exact h1, by rw [hτ]; exact h2, by rw [hτ]; exact h3⟩
    exact List.mem_map_of_mem (List.mem_map.2 ⟨r, hin, if_pos rfl⟩)

/-- A request read again from its first missing packet, the retry count not spent. -/
theorem State.readAgain_left {s : State} {q m : Nat} {r : RdReq} {c : Cmd} (hst : (s.qp q).st = .ready)
    (hm : (List.range (r.packets (s.qp q).pmtu)).find? (fun j => !r.got.contains j) = some m) (hleft : (s.qp q).retries < (s.qp q).retryMax)
    (hc : s.cmd r.ord = some c) : ((s.readAgain q r).qp q).retries = (s.qp q).retries + 1 ∧ (s.readAgain q r).out =
      .rdma q (.readRequest ((r.firstPsn + m) % 2 ^ 24) (c.cap.sglAddr + r.offset + m * (s.qp q).pmtu) c.cap.sglKey (r.length - m * (s.qp q).pmtu)) :: s.out := by
  let s1 := s.onQp q fun x => { x with retries := x.retries + 1 }
  have h1 : s1.qp q = { s.qp q with retries := (s.qp q).retries + 1 } := State.qp_onQp_same (by simp [hst]) _
  have hc1 : s1.cmd r.ord = some c := hc
  unfold State.readAgain
  extract_lets x
  simp only [x, hm, State.countRetry_left hleft]
  rw [show (s.onQp q fun x => { x with retries := x.retries + 1 }) = s1 from rfl, hc1]
  refine ⟨?_, rfl⟩
  have h2 := fun k n g => State.qp_onQp_same (s := s1.sendPkt q k n) (q := q) (by rw [State.sendPkt_qp, h1]; simp [hst]) g
  dsimp only
  rw [h2, State.sendPkt_qp, h1]

theorem State.readAgain_spent {s : State} {q m : Nat} {r : RdReq}
    (hm : (List.range (r.packets (s.qp q).pmtu)).find? (fun j => !r.got.contains j) = some m) (hspent : (s.qp q).retryMax ≤ (s.qp q).retries) :
    s.readAgain q r = s.failQp q := by
  simp only [State.readAgain, hm, State.countRetry_spent hspent]

/-- Resending starts at the oldest packet and changes but the moments of the packets. -/
theorem State.resend_kept {s : State} {q : Nat} {e : SendEntry} {l : List SendEntry} (hst : (s.qp q).st ≠ .free) (h : (s.qp q).sends = e :: l) :
    (s.resend q).out = .rdma q (.resendFrom e.psn) :: s.out ∧ ∃ m, (s.resend q).qp q = { s.qp q with sends := m } := by
  have h1 := fun g => State.qp_onQp_same (s := s.emit (.rdma q (.resendFrom e.psn))) hst g
  simp only [State.resend, h]
  exact ⟨rfl, _, h1 _⟩

/-- Settles O26: requests and responses from the equations of their commands, the timers from the retry count. -/
theorem fetchingHostData : Obligations.FetchingHostData := by
  intro s hlen haw q hst x
  refine ⟨fun ord c hn hc => And.intro (fun h16 hr hw hslots => ?_) (fun hout => ?_), fun h bytes payload hq hk hi ha => And.intro (fun r hw hr => And.intro (fun hnot hb => ?_) (fun hin => ?_)) (fun hno => ?_),
    fun r l m c τ hreqs hre hτ hdue hm hc => ⟨fun hleft => ?_, fun hspent => ?_⟩, fun e l hsends hdue => ⟨fun hleft => ?_, fun hspent => ?_⟩⟩
  · exact exec_rdmaReadIssue hlen haw hst hn hc rfl rfl h16 hr hw hslots
  · simp only [exec, execRdmaReadIssue, haw, hn, Bool.not_true, Bool.false_eq_true, if_false]
    exact congrArg Host.Outcome.next (if_pos (.inr hout))
  · obtain ⟨s1, k, hacc, hqp, -, -⟩ := State.acceptPkt_ready haw hq hst hk hi ha
    have h1 := exec_rdmaReadResponseRx (bytes := bytes) (payload := payload) hacc (by rw [hqp]; exact hst) (by rw [hqp]; exact hw)
      (r := r) (by rw [hqp]; exact hr) (i := psnDist h.psn (BitVec.ofNat 24 r.firstPsn)) rfl hnot (by rw [hqp]; exact hb)
    rw [hqp] at h1
    exact h1
  · obtain ⟨s1, k, hacc, hqp, -, hm⟩ := State.acceptPkt_ready haw hq hst hk hi ha
    have hw1 : ¬ 256 ≤ psnDist h.psn (s1.qp q).windowBase := by rw [hqp]; exact Nat.not_le.2 hw
    have hr1 : (s1.qp q).reqOf h.psn = some r := by rw [hqp]; exact hr
    have hc : r.got.contains (psnDist h.psn (BitVec.ofNat 24 r.firstPsn)) = true := by simpa using hin
    refine ⟨s1, ?_, by rw [hqp], State.mask_sched hm rfl⟩
    simp only [exec, execRdmaReadResponseRx, hacc, if_neg hw1, hr1, hc, if_true]
  · obtain ⟨s1, k, hacc, hqp, -, -⟩ := State.acceptPkt_ready haw hq hst hk hi ha
    obtain ⟨hlen1, hlate⟩ := State.acceptPkt_cell hlen haw hq hst hk hi ha
    rw [hacc] at hlen1 hlate
    have hnone : (if 256 ≤ psnDist h.psn (s1.qp q).windowBase then none else (s1.qp q).reqOf h.psn) = none := by
      rw [hqp]
      rcases hno with hno | hno
      · exact if_pos hno
      · exact ite_eq_left_iff.2 fun _ => hno
    refine ⟨s1.onCell q fun c => { c with late := c.late + 1 }, ?_, ?_, ?_⟩
    · simp only [exec, execRdmaReadResponseRx, hacc, hnone]
    · rw [State.onCell_qp, hqp]
    · rw [State.cell_onCell hlen1]
      exact congrArg (· + 1) hlate
  · have hex : exec (.rdmaResponseGapTimer q) s = .next (s.readAgain q r) := by
      simp only [exec, execRdmaResponseGapTimer, haw, Bool.not_true, Bool.false_eq_true, if_false, show (s.qp q).reqs = r :: l from hreqs]
      rw [List.find?_cons_of_pos (by simp [hre, hτ, hdue])]
    exact ⟨_, hex, State.readAgain_left hst hm hleft hc⟩
  · have hex : exec (.rdmaResponseGapTimer q) s = .next (s.readAgain q r) := by
      simp only [exec, execRdmaResponseGapTimer, haw, Bool.not_true, Bool.false_eq_true, if_false, show (s.qp q).reqs = r :: l from hreqs]
      rw [List.find?_cons_of_pos (by simp [hre, hτ, hdue])]
    refine ⟨_, hex, ?_⟩
    rw [State.readAgain_spent hm hspent]
    exact State.failQp_st hst
  · have hex : exec (.rdmaAckTimeout q) s = .next ((s.onQp q fun x => { x with retries := x.retries + 1 }).resend q) := by
      simp [exec, execRdmaAckTimeout, haw, hst, show (s.qp q).sends = e :: l from hsends, show e.sentAt + (s.qp q).ackTimeout ≤ s.now from hdue, State.countRetry_left hleft]
    have h1 := State.qp_onQp_same (s := s) (q := q) (by simp [hst]) fun x => { x with retries := x.retries + 1 }
    obtain ⟨hout, m, hqp⟩ := State.resend_kept (s := s.onQp q fun x => { x with retries := x.retries + 1 }) (q := q) (e := e) (l := l)
      (by rw [h1]; simp [hst]) (by rw [h1]; exact hsends)
    refine ⟨_, hex, ?_, hout, ?_⟩
    · rw [hqp, h1]
    · rw [hqp, h1]
      exact hst
  · have hex : exec (.rdmaAckTimeout q) s = .next (s.failQp q) := by
      simp [exec, execRdmaAckTimeout, haw, hst, show (s.qp q).sends = e :: l from hsends, show e.sentAt + (s.qp q).ackTimeout ≤ s.now from hdue, State.countRetry_spent hspent]
    exact ⟨_, hex, State.failQp_st hst⟩

end Sys2Proof.Machine
end

section
/-! SUPPORT. The end of a command (chapter 10): it leaves the table, and whoever sent it is told. -/

namespace Sys2Proof.Machine

/-- A command that is dropped is in the table no more. -/
theorem State.dropCmd_cmd {s : State} (hwf : tabWf s.sched.cmds = true) (ord : Nat) : (s.dropCmd ord).cmd ord = none := by
  unfold State.dropCmd
  split
  · assumption
  · show tabGet (tabDel s.sched.cmds ord) ord = none
    rw [tabGet_tabDel hwf, if_pos rfl]

theorem State.dropCmd_kept (s : State) (ord : Nat) : (s.dropCmd ord).rdma = s.rdma ∧ (s.dropCmd ord).out = s.out ∧ (s.dropCmd ord).mgmt = s.mgmt := by
  unfold State.dropCmd
  split <;> exact ⟨rfl, rfl, rfl⟩

theorem State.reply_sched (s : State) (ord : Nat) (c : Cmd) (sct sc : Nat) (dnr : Bool) (dw0 : Nat) : (s.reply ord c sct sc dnr dw0).sched = s.sched :=
  State.mask_sched (P := but [.sched]) (by simp) rfl

theorem State.countError_kept (s : State) (tenant sct sc : Nat) : (s.countError tenant sct sc).rdma = s.rdma ∧ (s.countError tenant sct sc).out = s.out
    ∧ (s.countError tenant sct sc).sched = s.sched ∧ (s.countError tenant sct sc).mgmt = s.mgmt := by
  unfold State.countError
  split <;> exact ⟨rfl, rfl, rfl, rfl⟩

/-- A command that ends is in the table no more. -/
theorem State.finish_cmd {s : State} (hwf : tabWf s.sched.cmds = true) (ord sct sc : Nat) (dnr : Bool) (dw0 : Nat) :
    (s.finish ord sct sc dnr dw0).cmd ord = none := by
  unfold State.finish
  split
  · assumption
  · next c hc =>
    refine State.dropCmd_cmd ?_ ord
    rw [State.reply_sched, (State.countError_kept s _ sct sc).2.2.1]
    exact hwf

/-- A completion that waits on a queue pair waits on or is sent. -/
theorem State.pump_returned {q : Nat} {c : Cqe} (fuel : Nat) {s : State} (h : s.returned q c) : (s.pump q fuel).returned q c := by
  induction fuel generalizing s with
  | zero => exact h
  | succ fuel ih =>
    unfold State.pump
    extract_lets x
    split
    · exact h
    · next c1 l hc =>
      split
      · next hsend =>
        have hready : (s.qp q).st = .ready := by
          simp only [Bool.and_eq_true, beq_iff_eq] at hsend
          exact hsend.1.1
        let s1 := (s.sendPkt q (.sendOnly x.sPsn.toNat c1) 16).takeSend q true 16
        have h1 : s1.qp q = { s.qp q with sends := (s.qp q).sends ++ [⟨x.sPsn.toNat, true, 16, s.now⟩], sPsn := (s.qp q).sPsn + 1 } :=
          State.qp_onQp_same (s := s.sendPkt q (.sendOnly x.sPsn.toNat c1) 16) (by rw [State.sendPkt_qp, hready]; decide) _
        have h2 : (s1.onQp q fun x => { x with cqes := l }).qp q = { s1.qp q with cqes := l } :=
          State.qp_onQp_same (by rw [h1]; simp [hready]) _
        have hout : (s1.onQp q fun x => { x with cqes := l }).out = .rdma q (.sendOnly x.sPsn.toNat c1) :: s.out := rfl
        refine ih ?_
        rw [State.returned, hout, h2]
        rcases h with h | ⟨psn, h⟩
        · rw [show (s.qp q).cqes = c1 :: l from hc, List.mem_cons] at h
          rcases h with rfl | h
          · exact .inr ⟨_, List.mem_cons_self ..⟩
          · exact .inl h
        · exact .inr ⟨psn, List.mem_cons_of_mem _ h⟩
      · exact h

/-- A completion for a READY queue pair is sent or waits there. -/
theorem State.sendCqe_returned {s : State} {q : Nat} (h : (s.qp q).st = .ready) (c : Cqe) : (s.sendCqe q c).returned q c := by
  rw [State.sendCqe, if_pos h]
  refine State.pump_returned _ (.inl ?_)
  rw [State.qp_onQp_same (by simp [h])]
  simp

/-- A command that ends has its end told to its sender. -/
theorem State.finish_told {s : State} {ord : Nat} {c : Cmd} (hc : s.cmd ord = some c) (hl : s.listening c = true) (sct sc : Nat) (dnr : Bool) (dw0 : Nat) :
    (s.finish ord sct sc dnr dw0).told c sct sc dnr dw0 := by
  obtain ⟨kq, ko, -, km⟩ := State.countError_kept s (s.tenantOf c) sct sc
  simp only [State.finish, hc]
  generalize s.countError (s.tenantOf c) sct sc = u at *
  obtain ⟨dq, do_, dm⟩ := State.dropCmd_kept (u.reply ord c sct sc dnr dw0) ord
  unfold State.told State.reply at *
  unfold State.listening at hl
  cases hsrc : c.src with
  | qp q cid =>
    simp only [hsrc, Bool.and_eq_true, beq_iff_eq, List.isEmpty_iff] at hl dq do_ ⊢
    have hqp : u.qp q = s.qp q := by rw [State.qp, State.qp, kq]
    have h1 : u.returnCqe q ord ⟨cid, sct, sc, dnr, dw0⟩ = u.sendCqe q ⟨cid, sct, sc, dnr, dw0⟩ := by
      simp [State.returnCqe, hqp, hl.2]
    have h2 := State.sendCqe_returned (s := u) (q := q) (by rw [hqp]; exact hl.1) ⟨cid, sct, sc, dnr, dw0⟩
    rw [← h1] at h2
    rw [State.returned, State.qp, dq, do_]
    exact h2
  | peer h t ch =>
    simp only [hsrc] at do_ ⊢
    rw [do_]
    exact List.mem_cons_self ..
  | mbx m =>
    simp only [hsrc, Bool.and_eq_true, decide_eq_true_eq] at hl dm ⊢
    obtain ⟨hm, hrun⟩ := hl
    obtain ⟨op, hw⟩ : ∃ op, (s.mbx m).wait = .running op := by
      cases h : (s.mbx m).wait with
      | running op => exact ⟨op, rfl⟩
      | answer r => simp [h] at hrun
      | free => simp [h] at hrun
    have h1 := fun r => State.mbx_answer (s := u) (m := m) (op := op) (by rw [km]; exact hm) (by rw [State.mbx, km]; exact hw) r
    have hkept (v : State) : (v.dropCmd ord).mbx m = v.mbx m := by
      rw [State.mbx, State.mbx, (v.dropCmd_kept ord).2.2]
    simp only [hkept, h1]
    exact ⟨_, rfl, rfl⟩

end Sys2Proof.Machine
end

section
/-! PROOF. Sending a command's data and completions to the host (O27). -/

namespace Sys2Proof.Machine

/-- The data that goes back for a read of one sector fits one packet of 4096 bytes. -/
theorem State.sendData_single {s : State} {q ord : Nat} {c : Cmd} {r : RdResult} (hc : s.cmd ord = some c) (hk : c.kind = .read) (hr : c.results = [(0, r)])
    (h0 : c.fetchNext = 0) (hp : (s.qp q).pmtu = 4096) (hf : s.sendFree q = true) (fuel : Nat) :
    s.sendData q ord (fuel + 2) = ((s.sendPkt q (.rdmaWrite (s.qp q).sPsn.toNat c.cap.sglAddr c.cap.sglKey (rdPlain r)) 4096).takeSend q false 4096).onCmd ord
      fun c => { c with fetchNext := 4096 } := by
  have hbytes (d : Cmd) (hdk : d.kind = .read) (hdr : d.results = [(0, r)]) : d.outBytes = 4096 := by
    simp [Cmd.outBytes, hdk, hdr]
  have hsector : c.outSector 0 = rdPlain r := by simp [Cmd.outSector, hr]
  have hgo : ¬ (c.outBytes ≤ 0 ∨ (!s.sendFree q) = true) := by simp [hbytes c hk hr, hf]
  let s1 := ((s.sendPkt q (.rdmaWrite (s.qp q).sPsn.toNat c.cap.sglAddr c.cap.sglKey (rdPlain r)) 4096).takeSend q false 4096).onCmd ord
    fun c => { c with fetchNext := 4096 }
  have hc1 : s1.cmd ord = some { c with fetchNext := 4096 } := by
    show tabGet (tabMod s.sched.cmds ord _) ord = _
    rw [tabGet_tabMod, if_pos rfl, show tabGet s.sched.cmds ord = _ from hc]
    rfl
  have hstop : s1.sendData q ord (fuel + 1) = s1 := by
    rw [State.sendData, hc1]
    exact if_pos (.inl (hbytes _ hk hr).le)
  rw [State.sendData, hc]
  dsimp only
  rw [h0, if_neg hgo, hp, hbytes c hk hr]
  simpa [hsector] using hstop

theorem State.settle_cmd (s : State) (n ord : Nat) : (s.settle n).cmd ord = s.cmd ord := rfl

theorem State.finish_out (s : State) (ord sct sc : Nat) (dnr : Bool) (dw0 : Nat) : s.out <:+ (s.finish ord sct sc dnr dw0).out :=
  (s.finish_replies ord sct sc dnr dw0).2.2

/-- What frees the packets before a PSN leaves of the queue pair. -/
theorem State.freeSends_qp {s : State} {q : Nat} (hst : (s.qp q).st ≠ .free) (psn : BitVec 24) : ∃ n m, (s.freeSends q psn).qp q =
    { s.qp q with
      sends := (s.qp q).sends.filter fun e => decide (2 ^ 23 ≤ psnDist psn (BitVec.ofNat 24 e.psn))
      retries := n, rnrTries := m }
    ∧ (((s.qp q).sends.filter fun e => decide (psnDist psn (BitVec.ofNat 24 e.psn) < 2 ^ 23)) = [] → n = (s.qp q).retries) := by
  refine ⟨_, _, State.qp_onQp_same hst _, fun h => ?_⟩
  rw [h]
  rfl

/-- A read whose data goes back over the peer link ends with all its sectors. -/
theorem exec_readDataToHost_peer {s : State} (haw : s.awake = true) {ord : Nat} {c : Cmd} (hc : s.cmd ord = some c) (hph : c.phase = .running)
    (hk : c.kind = .read) (hall : c.allRead = true) {hd tn : Nat} {ch : Option (Nat × Nat)} (hsrc : c.src = .peer hd tn ch) (herr : c.readError = none)
    (htag : c.firstTagFail = none) (hstat : c.status = none) : exec (.readDataToHost ord) s =
      .next (((s.settle ord).emit (.forwardCqe hd ⟨c.cap.cid, 0, 0, false, 0⟩ ((List.range c.results.length).map c.outSector))).dropCmd ord) := by
  have hgo : ¬ ((c.kind ≠ .read ∧ c.kind ≠ .log) ∨ c.phase ≠ .running ∨ (!c.allRead) = true) := by simp [hk, hph, hall]
  have hst : c.readStatus = (0, 0, 0) := by simp [Cmd.readStatus, herr, htag, hstat]
  have hlen : (c.outBytes + 4095) / 4096 = c.results.length := by
    have h1 : c.outBytes = 4096 * c.results.length := by simp [Cmd.outBytes, hk]
    omega
  have hcount (u : State) (t : Nat) : u.countError t 0 0 = u := if_neg (by decide)
  simp only [exec, execReadDataToHost, haw, hc, if_neg hgo, hst, herr, htag, hsrc, hlen, hcount, ite_self, Option.isSome_none, Bool.false_and,
    Bool.not_true, Bool.false_eq_true, if_false]
  rfl

/-- Settles O27: what is acknowledged is freed, and a read's end from the rules for a command's end. -/
theorem sendingToHost : Obligations.SendingToHost := by
  intro s hlen hwf haw
  refine ⟨fun q hst => And.intro (fun h hq hk hi ha => ?_) (fun e l hs hpos hdue => ?_),
    fun ord c hc hph hk hall => ⟨fun hd tn ch hsrc herr htag hstat => ?_, fun hd tn ch i sct sc hsrc herr => ?_, fun q cid r hsrc hst hp hr herr htag h0 hf => ?_⟩⟩
  · obtain ⟨s1, k, hacc, hqp, -, -⟩ := State.acceptPkt_ready haw hq hst hk hi ha
    have hst1 : (s1.qp q).st = .ready := by rw [hqp]; exact hst
    have hno : ¬ (s1.qp q).st ≠ .ready := by simp [hst1]
    refine ⟨fun msn code => ?_, fun e l hs hnone hleft => ?_, fun u hleft => ?_, fun kind hkind => ?_⟩
    · obtain ⟨n, m, hfree, -⟩ := State.freeSends_qp (s := s1) (q := q) (by rw [hst1]; decide) h.psn
      let s2 := (s1.freeSends q h.psn).onQp q fun x => { x with hostCredit := if code = 31 then 65536 else nth creditCounts code 0 }
      have h2 : s2.qp q = { (s1.freeSends q h.psn).qp q with hostCredit := if code = 31 then 65536 else nth creditCounts code 0 } :=
        State.qp_onQp_same (by rw [hfree]; simp [hst1]) _
      have hex : exec (.rdmaAckRx h msn code) s = .next (s2.pump q (s2.qp q).cqes.length) := by
        simp only [exec, execRdmaAckRx, hacc, if_neg hno]
        rfl
      refine ⟨_, hex, ?_, fun hcq e => ?_⟩
      · obtain ⟨w, cs, es, sn, hx, -⟩ := (s2.pump_replies q (s2.qp q).cqes.length).1 q
        rw [hx, h2]
      · have hcq2 : (s2.qp q).cqes = [] := by
          rw [h2, hfree, hqp]
          exact hcq
        rw [hcq2]
        show e ∈ (s2.qp q).sends ↔ _
        rw [h2, hfree, hqp]
        simp
    · obtain ⟨n, m, hfree, hn⟩ := State.freeSends_qp (s := s1) (q := q) (by rw [hst1]; decide) (h.psn - 1)
      have hs1 : (s1.qp q).sends = e :: l := by rw [hqp]; exact hs
      have hfar (f : SendEntry) (hf : f ∈ e :: l) : 2 ^ 23 ≤ psnDist (h.psn - 1) (BitVec.ofNat 24 f.psn) := hnone f (hs ▸ hf)
      have hkept : (s1.qp q).sends.filter (fun f => decide (2 ^ 23 ≤ psnDist (h.psn - 1) (BitVec.ofNat 24 f.psn))) = e :: l := by
        rw [hs1, List.filter_eq_self]
        exact fun f hf => decide_eq_true (hfar f hf)
      have hgone : (s1.qp q).sends.filter (fun f => decide (psnDist (h.psn - 1) (BitVec.ofNat 24 f.psn) < 2 ^ 23)) = [] := by
        rw [hs1, List.filter_eq_nil_iff]
        exact fun f hf => by simpa using hfar f hf
      have hret := hn hgone
      subst hret
      rw [hkept] at hfree
      have hleft2 : ((s1.freeSends q (h.psn - 1)).qp q).retries < ((s1.freeSends q (h.psn - 1)).qp q).retryMax := by
        rw [hfree, hqp]
        exact hleft
      let s2 := (s1.freeSends q (h.psn - 1)).onQp q fun x => { x with retries := x.retries + 1 }
      have h2 : s2.qp q = { (s1.freeSends q (h.psn - 1)).qp q with retries := ((s1.freeSends q (h.psn - 1)).qp q).retries + 1 } :=
        State.qp_onQp_same (by rw [hfree]; simp [hst1]) _
      have hex : exec (.rdmaNakRx h .sequenceError) s = .next (s2.resend q) := by
        simp only [exec, execRdmaNakRx, hacc, if_neg hno, State.countRetry_left hleft2]
        rfl
      obtain ⟨hout, m2, h3⟩ := State.resend_kept (s := s2) (q := q) (e := e) (l := l) (by rw [h2, hfree]; simp [hst1]) (by rw [h2, hfree])
      refine ⟨_, hex, ?_, ?_⟩
      · rw [h3, h2, hfree, hqp]
      · rw [hout]
        exact List.mem_cons_self ..
    · obtain ⟨n, m, hfree, -⟩ := State.freeSends_qp (s := s1) (q := q) (by rw [hst1]; decide) (h.psn - 1)
      have hleft1 : ¬ ((s1.qp q).rnrMax ≠ 7 ∧ (s1.qp q).rnrMax ≤ (s1.qp q).rnrTries) := by
        rw [hqp]
        rintro ⟨h7, hle⟩
        rcases hleft with hleft | hleft
        · exact h7 hleft
        · exact Nat.not_le.2 hleft hle
      have h2 := State.qp_onQp_same (s := s1.freeSends q (h.psn - 1)) (q := q) (by rw [hfree]; simp [hst1]) fun x =>
        { x with rnrTries := x.rnrTries + 1, rnrUntil := s.now + us u }
      refine ⟨(s1.freeSends q (h.psn - 1)).onQp q fun x => { x with rnrTries := x.rnrTries + 1, rnrUntil := s.now + us u }, ?_, ?_, ?_⟩
      · simp only [exec, execRdmaNakRx, hacc, if_neg hno, if_neg hleft1]
      · rw [h2]
      · rw [h2, hfree]
        exact hst1
    · have hex : exec (.rdmaNakRx h kind) s = .next (s1.failQp q) := by
        simp only [exec, execRdmaNakRx, hacc, if_neg hno]
        rcases hkind with rfl | rfl | rfl <;> rfl
      exact ⟨_, hex, State.failQp_st hst1⟩
  · have h1 := State.qp_onQp_same (s := s) (q := q) (by simp [hst]) fun x => { x with rnrUntil := 0 }
    obtain ⟨hout, m, hqp⟩ := State.resend_kept (s := s.onQp q fun x => { x with rnrUntil := 0 }) (q := q) (e := e) (l := l)
      (by rw [h1]; simp [hst]) (by rw [h1]; exact hs)
    refine ⟨(s.onQp q fun x => { x with rnrUntil := 0 }).resend q, ?_, ?_, hout⟩
    · simp only [exec, execRdmaRnrRetryTimer, haw, Bool.not_true, Bool.false_eq_true, if_false]
      exact congrArg Host.Outcome.next (if_pos ⟨hst, hpos, hdue⟩)
    · rw [hqp, h1]
  · exact ⟨_, exec_readDataToHost_peer haw hc hph hk hall hsrc herr htag hstat, State.dropCmd_cmd (s := (s.settle ord).emit _) hwf ord, (State.dropCmd_kept _ ord).2.1⟩
  · have hgo : ¬ ((c.kind ≠ .read ∧ c.kind ≠ .log) ∨ c.phase ≠ .running ∨ (!c.allRead) = true) := by simp [hk, hph, hall]
    have hst : c.readStatus = (sct, sc, 0) := by simp [Cmd.readStatus, herr]
    have hmbx : c.src.isMbx = false := by rw [hsrc]; rfl
    have hex : exec (.readDataToHost ord) s = .next ((s.settle ord).finish ord sct sc true 0) := by
      simp only [exec, execReadDataToHost, haw, hc, if_neg hgo, hst, herr, hmbx, Option.isSome_some, Option.isNone_some, Bool.not_false, Bool.and_self,
        Bool.false_and, Bool.not_true, Bool.false_eq_true, if_false, if_true]
    refine ⟨_, hex, State.finish_cmd (s := s.settle ord) hwf ord sct sc true 0, 0, ?_⟩
    simp only [State.finish, State.settle_cmd, hc, State.reply, hsrc, (State.dropCmd_kept _ ord).2.1, State.emit, (State.countError_kept _ _ sct sc).2.1]
    rfl
  · have hgo : ¬ ((c.kind ≠ .read ∧ c.kind ≠ .log) ∨ c.phase ≠ .running ∨ (!c.allRead) = true) := by simp [hk, hph, hall]
    have hno : ¬ (s.qp q).st ≠ .ready := by simp [hst]
    let s1 := (((s.settle ord).sendPkt q (.rdmaWrite (s.qp q).sPsn.toNat c.cap.sglAddr c.cap.sglKey (rdPlain r)) 4096).takeSend q false 4096).onCmd ord
      fun c => { c with fetchNext := 4096 }
    have hdata : (s.settle ord).sendData q ord 64 = s1 := State.sendData_single (s := s.settle ord) hc hk hr h0 hp hf 62
    have hc1 : s1.cmd ord = some { c with fetchNext := 4096 } := by
      show tabGet (tabMod s.sched.cmds ord _) ord = _
      rw [tabGet_tabMod, if_pos rfl, show tabGet s.sched.cmds ord = _ from hc]
      rfl
    have hdone : ({ c with fetchNext := 4096 } : Cmd).outBytes ≤ 4096 := by simp [Cmd.outBytes, hk, hr]
    obtain ⟨st, hex⟩ : ∃ st : Nat × Nat × Bool × Nat, exec (.readDataToHost ord) s = .next (s1.finish ord st.1 st.2.1 st.2.2.1 st.2.2.2) := by
      refine ⟨(c.readStatus.1, c.readStatus.2.1, c.readStatus.1 != 0, c.readStatus.2.2), ?_⟩
      simp only [exec, execReadDataToHost, haw, hc, if_neg hgo, if_neg hno, herr, htag, hsrc, hdata, hc1, ite_self, Option.isSome_none,
        Bool.false_and, Bool.not_true, Bool.false_eq_true, if_false]
      exact congrArg Host.Outcome.next (if_pos hdone)
    refine ⟨_, hex, State.finish_cmd (s := s1) (tabWf_tabMod hwf _ _) ord _ _ _ _, ?_⟩
    exact (State.finish_out s1 ord _ _ _ _).subset (List.mem_cons_self ..)

end Sys2Proof.Machine
end

section
/-! PROOF. The admin commands that take no order number (chapter 10, O30). -/

namespace Sys2Proof.Machine

/-- What a command at the head of a queue pair is: the pair is READY and the capsule its oldest. -/
theorem State.headCap_some {s : State} {q : Nat} {p : Capsule → Bool} {c : Capsule} (h : s.headCap q p = some c) :
    (s.qp q).st = .ready ∧ p c = true := by
  unfold State.headCap at h
  extract_lets x at h
  split at h
  · next c1 l hst hinq =>
    split at h
    · next hp => exact ⟨hst, by cases h; exact hp⟩
    · cases h
  · cases h

theorem State.adminCap_some {s : State} {q opcode : Nat} {c : Capsule} (h : s.adminCap q opcode = some c) : (s.qp q).st = .ready ∧ (s.qp q).admin = true := by
  unfold State.adminCap at h
  split at h
  · next ha => exact ⟨(State.headCap_some h).1, ha.1⟩
  · cases h

theorem State.ctlOf_some {s : State} {q i : Nat} {k : NvmeCtl} (h : s.ctlOf q = some (i, k)) : (s.qp q).ctl = some i ∧ tabGet s.nvme.ctls i = some k := by
  unfold State.ctlOf at h
  cases hc : (s.qp q).ctl with
  | none => simp [hc] at h
  | some j =>
    cases hk : tabGet s.nvme.ctls j with
    | none => simp [hc, hk] at h
    | some k1 =>
      simp only [hc, hk, Option.bind_some, Option.map_some, Option.some.injEq, Prod.mk.injEq] at h
      obtain ⟨rfl, rfl⟩ := h
      exact ⟨rfl, hk⟩

@[simp] theorem State.onCtl_qp (s : State) (i : Nat) (g : NvmeCtl → NvmeCtl) (p : Nat) : (s.onCtl i g).qp p = s.qp p := rfl

theorem State.ctl_onCtl {s : State} {i : Nat} {k : NvmeCtl} (h : tabGet s.nvme.ctls i = some k) (g : NvmeCtl → NvmeCtl) :
    tabGet (s.onCtl i g).nvme.ctls i = some (g k) := by
  show tabGet (tabMod s.nvme.ctls i g) i = _
  rw [tabGet_tabMod, if_pos rfl, h]
  rfl

/-- Taking the head capsule leaves the queue pair the rest. -/
theorem State.popCap_qp {s : State} {q : Nat} (hst : (s.qp q).st = .ready) : (s.popCap q).qp q = { s.qp q with inq := (s.qp q).inq.drop 1 } := by
  have h1 := State.qp_onQp_same (s := s) (q := q) (by rw [hst]; decide) fun x => { x with inq := x.inq.drop 1 }
  unfold State.popCap
  extract_lets s1
  split
  · exact h1
  · exact h1

/-- Taking the head capsule of an admin queue keeps its controller alive. -/
theorem State.popCap_ctl {s : State} {q i : Nat} {k : NvmeCtl} (hadmin : (s.qp q).admin = true) (hc : (s.qp q).ctl = some i) (hk : tabGet s.nvme.ctls i = some k) :
    tabGet (s.popCap q).nvme.ctls i = some { k with lastAdmin := s.now } := by
  simp only [State.popCap, hc, hadmin]
  exact State.ctl_onCtl (s := s.onQp q fun x => { x with inq := x.inq.drop 1 }) hk _

/-- Completing a command of a READY queue pair with no Ledger order to keep: the completion is sent or waits, the capsules waiting stay, and
a success leaves the controllers as they are. -/
theorem State.endCap_ends {s : State} {q : Nat} (hst : (s.qp q).st = .ready) (hl : (s.qp q).ledgerWait = []) (cid sct sc : Nat) (dnr : Bool) (dw0 : Nat) :
    (s.endCap q cid sct sc dnr dw0).returned q ⟨cid, sct, sc, dnr, dw0⟩
      ∧ ((s.endCap q cid sct sc dnr dw0).qp q).inq = (s.qp q).inq
      ∧ (sct = 0 ∧ sc = 0 → (s.endCap q cid sct sc dnr dw0).nvme.ctls = s.nvme.ctls)
      ∧ s.out <:+ (s.endCap q cid sct sc dnr dw0).out := by
  unfold State.endCap
  extract_lets x s1
  have h1 : s1.qp q = s.qp q := by
    unfold s1
    split
    · rfl
    · split <;> rfl
  have hout : s1.out = s.out := by
    unfold s1
    split
    · rfl
    · split <;> rfl
  have hctls : sct = 0 ∧ sc = 0 → s1.nvme.ctls = s.nvme.ctls := fun h => by
    unfold s1
    rw [if_pos h]
  clear_value s1
  have hret : s1.returnCqe q 0 ⟨cid, sct, sc, dnr, dw0⟩ = s1.sendCqe q ⟨cid, sct, sc, dnr, dw0⟩ := by
    simp [State.returnCqe, h1, hl]
  rw [hret]
  obtain ⟨hqps, hc, ho⟩ := s1.sendCqe_replies q ⟨cid, sct, sc, dnr, dw0⟩
  refine ⟨State.sendCqe_returned (by rw [h1]; exact hst) _, ?_, fun h => hc.trans (hctls h), by rw [← hout]; exact ho⟩
  obtain ⟨w, cs, es, n, hx, -⟩ := hqps q
  rw [hx, h1]

/-- The end of the head capsule of a READY queue pair with no Ledger order to keep. -/
theorem State.popCap_endCap {s : State} {q : Nat} (hst : (s.qp q).st = .ready) (hl : (s.qp q).ledgerWait = []) (cid sct sc : Nat) (dnr : Bool) (dw0 : Nat) :
    (((s.popCap q).endCap q cid sct sc dnr dw0).qp q).inq = (s.qp q).inq.drop 1 ∧ ((s.popCap q).endCap q cid sct sc dnr dw0).returned q ⟨cid, sct, sc, dnr, dw0⟩ := by
  have hp := State.popCap_qp hst
  obtain ⟨h1, h2, -, -⟩ := State.endCap_ends (s := s.popCap q) (q := q) (by rw [hp]; exact hst) (by rw [hp]; exact hl) cid sct sc dnr dw0
  exact ⟨by rw [h2, hp], h1⟩

/-- A queue pair with other packets in flight. -/
def Qp.sending (x : Qp) (es : List SendEntry) (n : BitVec 24) : Qp := { x with sends := es, sPsn := n }

theorem State.takeSend_qp {s : State} {q : Nat} (hst : (s.qp q).st = .ready) (b : Bool) (n : Nat) :
    ∃ es k, (s.takeSend q b n).qp q = (s.qp q).sending es k := by
  refine ⟨(s.qp q).sends ++ [⟨(s.qp q).sPsn.toNat, b, n, s.now⟩], (s.qp q).sPsn + 1, ?_⟩
  unfold State.takeSend
  rw [State.onCell_qp, State.qp_onQp_same (by rw [hst]; decide)]
  rfl

/-- What packets leave of a queue pair and the controllers: the packets alone are new. -/
def State.Packets (q : Nat) (s t : State) : Prop := (∃ es n, t.qp q = (s.qp q).sending es n) ∧ t.nvme = s.nvme

theorem State.sendPage_kept {s : State} {q : Nat} (hst : (s.qp q).st = .ready) (c : Capsule) (page off len : Nat) :
    s.Packets q (s.sendPage q c page off len) := by
  refine List.foldlRecOn (motive := State.Packets q s) _ _ ⟨⟨(s.qp q).sends, (s.qp q).sPsn, rfl⟩, rfl⟩ fun u hu i _ => ?_
  obtain ⟨⟨es, n, hq⟩, hn⟩ := hu
  extract_lets x m d
  obtain ⟨es2, n2, h2⟩ := State.takeSend_qp (s := u.sendPkt q (.rdmaWrite x.sPsn.toNat (c.sglAddr + max 1 (s.qp q).pmtu * i) c.sglKey d) m) (q := q)
    (by rw [State.sendPkt_qp, hq]; exact hst) false m
  refine ⟨⟨es2, n2, h2.trans ?_⟩, hn⟩
  rw [State.sendPkt_qp, hq]
  rfl

/-- A page reply with send entries free ends its command with success. -/
theorem State.pageReply_ends {s : State} {q : Nat} (hst : (s.qp q).st = .ready) (hl : (s.qp q).ledgerWait = []) (c : Capsule) (page off len : Nat)
    (hroom : s.sendRoom q ((s.qp q).packetsOf len) = true) :
    ((s.pageReply q c page off len).qp q).inq = (s.qp q).inq.drop 1 ∧ (s.pageReply q c page off len).returned q ⟨c.cid, 0, 0, false, 0⟩
      ∧ ((s.popCap q).sendPage q c page off len).out <:+ (s.pageReply q c page off len).out := by
  rw [State.pageReply, if_pos hroom]
  have hp := State.popCap_qp hst
  obtain ⟨⟨es, n, h1⟩, -⟩ := State.sendPage_kept (s := s.popCap q) (q := q) (by rw [hp]; exact hst) c page off len
  obtain ⟨hret, hinq, -, hout⟩ := State.endCap_ends (s := (s.popCap q).sendPage q c page off len) (q := q) (by rw [h1, hp]; exact hst)
    (by rw [h1, hp]; exact hl) c.cid 0 0 false 0
  exact ⟨by rw [hinq, h1, hp]; rfl, hret, hout⟩

/-- A page of 4096 bytes is one packet of 4096. -/
theorem State.sendPage_out {s : State} {q : Nat} (hp : (s.qp q).pmtu = 4096) (c : Capsule) (page : Nat) :
    (s.sendPage q c page 0 4096).out = .rdma q (.rdmaWrite (s.qp q).sPsn.toNat c.sglAddr c.sglKey (BitVec.ofNat 32768 page)) :: s.out := by
  have h1 : (s.qp q).packetsOf 4096 = 1 := by simp [Qp.packetsOf, hp]
  have h2 (w : Nat) : BitVec.ofNat w (page % 2 ^ w) = BitVec.ofNat w page := BitVec.eq_of_toNat_eq (by simp)
  have h3 := h2 (8 * 4096)
  unfold State.sendPage
  rw [h1, hp]
  simp only [List.range_one, List.foldl_cons, List.foldl_nil, Nat.mul_zero, Nat.add_zero, Nat.pow_zero, Nat.div_one, Nat.sub_zero, Nat.max_eq_right (show 1 ≤ 4096 by decide), Nat.min_self]
  show Emit.rdma q (.rdmaWrite (s.qp q).sPsn.toNat c.sglAddr c.sglKey _) :: s.out = _
  exact congrArg (fun d => Emit.rdma q (.rdmaWrite (s.qp q).sPsn.toNat c.sglAddr c.sglKey d) :: s.out) h3

/-- The end of the head capsule of an admin queue that sets a register of its controller. -/
theorem State.popCap_set {s : State} {q i : Nat} {k : NvmeCtl} (hst : (s.qp q).st = .ready) (hl : (s.qp q).ledgerWait = []) (hadmin : (s.qp q).admin = true)
    (hc : (s.qp q).ctl = some i) (hk : tabGet s.nvme.ctls i = some k) (cid : Nat) (g : NvmeCtl → NvmeCtl) :
    ((((s.popCap q).onCtl i g).endCap q cid 0 0 false 0).qp q).inq = (s.qp q).inq.drop 1
      ∧ (((s.popCap q).onCtl i g).endCap q cid 0 0 false 0).returned q ⟨cid, 0, 0, false, 0⟩
      ∧ tabGet (((s.popCap q).onCtl i g).endCap q cid 0 0 false 0).nvme.ctls i = some (g { k with lastAdmin := s.now }) := by
  have hp := State.popCap_qp hst
  obtain ⟨h1, h2, h3, -⟩ := State.endCap_ends (s := (s.popCap q).onCtl i g) (q := q) (by rw [State.onCtl_qp, hp]; exact hst)
    (by rw [State.onCtl_qp, hp]; exact hl) cid 0 0 false 0
  exact ⟨by rw [h2, State.onCtl_qp, hp], h1, by rw [h3 ⟨rfl, rfl⟩, State.ctl_onCtl (State.popCap_ctl hadmin hc hk)]⟩

/-- With no critical warning, no event is sent for one. -/
theorem State.smartCheck_quiet {s : State} (h : s.criticalWarning = 0) :
    s.smartCheck.rdma = s.rdma ∧ ∀ i k, tabGet s.nvme.ctls i = some k → ∃ k', tabGet s.smartCheck.nvme.ctls i = some k' ∧ k'.aers = k.aers := by
  unfold State.smartCheck
  extract_lets w
  have hw : w = 0 := h
  clear_value w
  subst hw
  refine List.foldlRecOn (motive := fun (u : State) => u.rdma = s.rdma ∧ ∀ i k, tabGet s.nvme.ctls i = some k → ∃ k', tabGet u.nvme.ctls i = some k' ∧ k'.aers = k.aers)
    _ _ ⟨rfl, fun i k hk => ⟨k, hk, rfl⟩⟩ fun u hu e _ => ?_
  obtain ⟨hr, hc⟩ := hu
  have hnone : (List.range 5).filter (fun i => (0 : Nat).testBit i && !e.2.warnSeen.testBit i && e.2.aec.testBit i) = [] := by simp
  simp only [hnone]
  split
  · exact ⟨hr, hc⟩
  · refine ⟨hr, fun i k hk => ?_⟩
    obtain ⟨k', hk', ha⟩ := hc i k hk
    by_cases hi : e.1 = i
    · subst hi
      exact ⟨_, State.ctl_onCtl hk' _, ha⟩
    · refine ⟨k', ?_, ha⟩
      show tabGet (tabMod u.nvme.ctls e.1 _) i = _
      rw [tabGet_tabMod, if_neg hi, hk']

/-- Settles O30: the head capsule leaves its queue, and its end is told. -/
theorem adminCommands : Obligations.AdminCommands := by
  intro q s hl
  refine And.intro (fun i k hctl => ?_) (And.intro (fun n c hc hk hph hseq hsrc => ?_) (fun c hcap hchain => ?_))
  · obtain ⟨hci, htk⟩ := State.ctlOf_some hctl
    refine ⟨fun c hcap => ?_, fun c hcap hdisc => ?_, fun c hcap => ?_, fun c hcap => ?_, fun c hcap => ?_, fun c hcap => ?_, fun c hcap => ?_⟩
    all_goals
      obtain ⟨hst, hadmin⟩ := State.adminCap_some hcap
      have hend := State.popCap_endCap hst hl c.cid
    · refine ⟨fun hcns hp hroom => ?_, fun hdisc hcns => ?_, fun hdisc hcns hns => ?_⟩
      · have hpk : (s.qp q).packetsOf 4096 = 1 := by simp [Qp.packetsOf, hp]
        obtain ⟨h1, h2, hout⟩ := State.pageReply_ends hst hl c (s.identCtl (s.cntlid i) k.discovery) 0 4096 (by rw [hpk]; exact hroom)
        refine ⟨s.pageReply q c (s.identCtl (s.cntlid i) k.discovery) 0 4096, ?_, ⟨h1, h2⟩, hout.subset ?_⟩
        · simp only [exec, execIdentify, hcap, hctl, if_pos hcns]
        · have hpop := State.popCap_qp hst
          rw [State.sendPage_out (s := s.popCap q) (by rw [hpop]; exact hp), hpop]
          exact List.mem_cons_self ..
      · refine ⟨(s.popCap q).endCap q c.cid 0 2 true 0, ?_, hend 0 2 true 0⟩
        simp only [exec, execIdentify, hcap, hctl, hdisc]
        simp only [show ¬ c.cdw10 % 256 = 1 by omega, show ¬ c.cdw10 % 256 = 2 by omega, show ¬ c.cdw10 % 256 = 0 by omega,
          show ¬ c.cdw10 % 256 = 3 by omega, Bool.false_eq_true, if_false]
      · refine ⟨(s.popCap q).endCap q c.cid 0 0x0B true 0, ?_, hend 0 0x0B true 0⟩
        simp [exec, execIdentify, hcap, hctl, hdisc, hcns, hns]
    · refine ⟨fun hlid hroom => ?_, fun hlid hno => ?_⟩
      · obtain ⟨h1, h2, -⟩ := State.pageReply_ends hst hl c (errorPage k) (logOffset c) (4 * (logNumd c + 1)) hroom
        refine ⟨s.pageReply q c (errorPage k) (logOffset c) (4 * (logNumd c + 1)), ?_, h1, h2⟩
        simp [exec, execGetLogPage, hcap, hctl, hdisc, hlid]
      · refine ⟨(s.popCap q).endCap q c.cid 1 9 true 0, ?_, hend 1 9 true 0⟩
        have h1 : c.cdw10 % 256 ≠ 1 := fun h => hlid (by simp [h])
        have h5 : c.cdw10 % 256 ≠ 5 := fun h => hlid (by simp [h])
        have h12 : c.cdw10 % 256 ≠ 12 := fun h => hlid (by simp [h])
        simp [exec, execGetLogPage, hcap, hctl, hdisc, h1, h5, h12, hno]
    · refine ⟨fun hfid hwce => ?_, fun hfid => ?_, fun hfid hkato => ?_⟩
      · refine ⟨(s.popCap q).endCap q c.cid 0 0x0E true 0, ?_, hend 0 0x0E true 0⟩
        simp [exec, execSetFeatures, hcap, hctl, hfid, hwce]
      · obtain ⟨h1, h2, h3⟩ := State.popCap_set hst hl hadmin hci htk c.cid (fun k => { k with aec := c.cdw11 })
        refine ⟨_, ?_, ⟨h1, h2⟩, _, h3, rfl, rfl⟩
        simp [exec, execSetFeatures, hcap, hctl, hfid]
      · obtain ⟨h1, h2, h3⟩ := State.popCap_set hst hl hadmin hci htk c.cid (fun k => { k with kato := c.cdw11 })
        refine ⟨_, ?_, ⟨h1, h2⟩, _, h3, rfl, rfl⟩
        simp [exec, execSetFeatures, hcap, hctl, hfid, hkato]
    · refine ⟨fun hfid => ?_, fun hfid => ?_, fun hfid => ?_⟩
      · refine ⟨(s.popCap q).endCap q c.cid 0 0 false 1, ?_, hend 0 0 false 1⟩
        simp [exec, execGetFeatures, hcap, hctl, hfid]
      · refine ⟨(s.popCap q).endCap q c.cid 0 0 false k.aec, ?_, hend 0 0 false k.aec⟩
        simp [exec, execGetFeatures, hcap, hctl, hfid]
      · refine ⟨(s.popCap q).endCap q c.cid 0 0 false k.kato, ?_, hend 0 0 false k.kato⟩
        simp [exec, execGetFeatures, hcap, hctl, hfid]
    · refine ⟨fun hfull => ?_, fun hroom hnotice hwarn => ?_⟩
      · refine ⟨(s.popCap q).endCap q c.cid 1 5 true 0, ?_, hend 1 5 true 0⟩
        simp [exec, execAsynchronousEventRequest, hcap, hctl, hfull]
      · have hpop := State.popCap_qp hst
        have hwarn2 : ((s.popCap q).onCtl i fun k => { k with aers := k.aers ++ [c.cid] }).criticalWarning = 0 := by
          rw [← hwarn]
          simp only [State.popCap, hci, hadmin]
          rfl
        obtain ⟨hr, hctls⟩ := State.smartCheck_quiet hwarn2
        obtain ⟨k', hk', haers⟩ := hctls i _ (State.ctl_onCtl (State.popCap_ctl hadmin hci htk) _)
        refine ⟨_, ?_, ?_, k', hk', haers⟩
        · simp [exec, execAsynchronousEventRequest, hcap, hctl, Nat.not_le.2 hroom, hnotice]
        · rw [State.qp, hr]
          exact congrArg Qp.inq hpop
    · have hpop := State.popCap_qp hst
      obtain ⟨-, -, hctls, -⟩ := State.endCap_ends (s := s.popCap q) (q := q) (by rw [hpop]; exact hst) (by rw [hpop]; exact hl) c.cid 0 0 false 0
      refine ⟨(s.popCap q).endCap q c.cid 0 0 false 0, ?_, hend 0 0 false 0, { k with lastAdmin := s.now }, ?_, rfl, rfl⟩
      · simp [exec, execKeepAlive, hcap]
      · rw [hctls ⟨rfl, rfl⟩, State.popCap_ctl hadmin hci htk]
    · refine ⟨(s.popCap q).endCap q c.cid 0 0 false 1, ?_, hend 0 0 false 1, ?_⟩
      · simp [exec, execAbort, hcap]
      · exact State.mask_sched (P := but [.sched]) (by simp) rfl
  · have hstart : s.startCmd n .log true = some c := by simp [State.startCmd, hc, hk, hph, hseq]
    have hget (g : Cmd → Cmd) : (s.onCmd n g).cmd n = some (g c) := by
      show tabGet (tabMod s.sched.cmds n g) n = _
      rw [tabGet_tabMod, if_pos rfl, show tabGet s.sched.cmds n = _ from hc]
      rfl
    let l := pageSectors (s.orderedPage (c.cap.cdw10 % 256) ((s.srcTenant c).getD 1024) 0) (logOffset c.cap) (4 * (logNumd c.cap + 1))
    have hex : exec (.getLogPage (.ord n)) s = .next (s.onCmd n fun c =>
        { c with phase := .running, fetchNext := 0, results := (List.range l.length).map fun i => (i, .data (nth l i 0)) }) := by
      simp only [exec, execGetLogPage, hstart] <;> rfl
    exact ⟨_, hex, hget _⟩
  · have hst := (State.headCap_some hcap).1
    have hend := State.popCap_endCap hst hl c.cid
    refine ⟨fun hnone hnot => ⟨(s.popCap q).endCap q c.cid 0 0x0C false 0, ?_, hend 0 0x0C false 0⟩,
      fun hsome hno => ⟨(s.popCap q).endCap q c.cid 0 1 true 0, ?_, hend 0 1 true 0⟩⟩
    · simp only [exec, execNvmeUnsupportedOpcode, hcap, hchain, hnone, Option.isSome_none, Option.isNone_none, Bool.false_and, Bool.false_eq_true, if_false, if_true, if_neg hnot]
    · obtain ⟨i, hi⟩ := Option.isSome_iff_exists.mp hsome
      simp only [exec, execNvmeUnsupportedOpcode, hcap, hchain, hi, hno, Option.isSome_none, Option.isNone_some, Bool.false_and, Bool.false_eq_true, if_false]

end Sys2Proof.Machine
end

section
/-! PROOF. Fabrics commands: connecting, properties and the ends of controllers (chapter 10, O31). -/

namespace Sys2Proof.Machine

/-- Completing a command replies to the queue pairs. -/
theorem State.endCap_replied (s : State) (q cid sct sc : Nat) (dnr : Bool) (dw0 p : Nat) : (s.qp p).Replied ((s.endCap q cid sct sc dnr dw0).qp p) := by
  unfold State.endCap
  extract_lets x s1
  have h1 : s1.qp p = s.qp p := by
    unfold s1
    split
    · rfl
    · split <;> rfl
  rw [← h1]
  exact (s1.returnCqe_replies q 0 _).1 p

/-- A success changes nothing of the controllers and reservations. -/
theorem State.endCap_ok_nvme (s : State) (q cid : Nat) (dnr : Bool) (dw0 : Nat) : (s.endCap q cid 0 0 dnr dw0).nvme = s.nvme := by
  have h : s.endCap q cid 0 0 dnr dw0 = s.returnCqe q 0 ⟨cid, 0, 0, dnr, dw0⟩ := by simp [State.endCap]
  rw [h]
  exact State.mask_nvme (P := but [.nvme]) (by simp) rfl

theorem State.fabricsCap_ready {s : State} {q f : Nat} {c : Capsule} (h : s.fabricsCap q f = some c) : (s.qp q).st = .ready := by
  unfold State.fabricsCap at h
  split at h
  · exact (State.headCap_some h).1
  · cases h

theorem State.popCap_qp_other (s : State) {q p : Nat} (h : p ≠ q) : (s.popCap q).qp p = s.qp p := by
  unfold State.popCap
  extract_lets s1
  split
  · exact State.qp_onQp_other s _ h
  · exact State.qp_onQp_other s _ h

theorem State.reserve_kept (s : State) (q t n : Nat) : (s.reserve q t n).rdma = s.rdma ∧ (s.reserve q t n).nvme.ctls = s.nvme.ctls
    ∧ tabGet (s.reserve q t n).nvme.resv q = some ⟨n, t, false⟩ := by
  unfold State.reserve
  extract_lets s1
  have hr : tabGet s1.nvme.resv q = some ⟨n, t, false⟩ := tabGet_tabPut_same _ _ _
  split <;> exact ⟨rfl, rfl, hr⟩

/-- What the end of a connecting command is: the head capsule gone, the queue pair a member `g` makes, and DW0 the controller. -/
theorem State.connect_ends {s u : State} {q : Nat} (hst : (s.qp q).st = .ready) (hl : (s.qp q).ledgerWait = []) (hu : u.rdma = (s.popCap q).rdma) (g : Qp → Qp)
    (hg : ∀ x, (g x).st = x.st ∧ (g x).ledgerWait = x.ledgerWait ∧ (g x).inq = x.inq) (cid dw0 : Nat) :
    let t := (u.onQp q g).endCap q cid 0 0 false dw0
    (t.qp q).inq = (s.qp q).inq.drop 1 ∧ t.returned q ⟨cid, 0, 0, false, dw0⟩ ∧ t.nvme = u.nvme ∧ (g { s.qp q with inq := (s.qp q).inq.drop 1 }).Replied (t.qp q) := by
  intro t
  have hq : u.qp q = { s.qp q with inq := (s.qp q).inq.drop 1 } := by
    rw [State.qp, hu]
    exact State.popCap_qp hst
  have h1 : (u.onQp q g).qp q = g { s.qp q with inq := (s.qp q).inq.drop 1 } := by
    rw [State.qp_onQp_same (by rw [hq]; simp [hst]), hq]
  obtain ⟨g1, g2, g3⟩ := hg { s.qp q with inq := (s.qp q).inq.drop 1 }
  obtain ⟨h2, h3, -, -⟩ := State.endCap_ends (s := u.onQp q g) (q := q) (by rw [h1, g1]; exact hst) (by rw [h1, g2]; exact hl) cid 0 0 false dw0
  refine ⟨by rw [h3, h1, g3], h2, State.endCap_ok_nvme _ _ _ _ _, ?_⟩
  have h4 := (u.onQp q g).endCap_replied q cid 0 0 false dw0 q
  rwa [h1] at h4

/-- The queue pairs of a disabled controller that were READY and no admin queue go to FLUSHING. -/
theorem State.flushMine_quiet {s : State} {i p : Nat} (hc : (s.qp p).ctl = some i) (ha : (s.qp p).admin = false) (hst : (s.qp p).st = .ready) :
    (((s.rdma.qps.filter fun e => e.2.ctl == some i && !e.2.admin && e.2.st == .ready).foldl (fun (s : State) e => s.flushQp e.1) s).qp p).Quiet := by
  obtain ⟨x, hx⟩ := Option.isSome_iff_exists.mp (State.qp_present (s := s) (q := p) (by simp [hst]))
  have hqx : s.qp p = x := by simp [State.qp, tabGetD, hx]
  refine State.flushAll_quiet _ hst ⟨(p, x), List.mem_filter.2 ⟨mem_of_tabGet hx, ?_⟩, rfl⟩
  simp [← hqx, hst, hc, ha]

/-- Settles O31: a queue that connects, the registers of its controller, and the flushing of a controller's queues. -/
theorem fabricsCommands : Obligations.FabricsCommands := by
  intro s hwf hcwf
  refine And.intro (fun q hl => ⟨fun c d hcap hd hctl hcom hdisc hsub => ⟨fun hno => ?_, fun tn i hten hreach hres => ⟨fun hqid hcnt hsize hent hkato hfree => ?_,
      fun k hqid hqid64 hcnt hk hkt hkd hken hsize hent hmine => ?_⟩⟩, fun i k hctl => ⟨fun c hcap hadmin => ⟨fun hoff => ?_, fun hoff => ?_⟩,
      fun c hcap hadmin hoff => ⟨fun hen => ?_, fun hen hken => ?_⟩, fun c hcap => ⟨fun hadmin => ?_, fun hadmin => ?_⟩⟩⟩)
    (fun ctl k hk => ⟨fun hr hen hbusy => ?_, fun hkato hdue => ?_, fun hdue => ?_⟩)
  · have hst := (State.headCap_some hcap).1
    refine ⟨(s.popCap q).endCap q c.cid 1 0x84 true 0, ?_, State.popCap_endCap hst hl c.cid 1 0x84 true 0⟩
    simp [exec, execConnect, hcap, hd, hctl, Option.isNone_eq_false_iff.2 hcom, hdisc, hsub, hno]
  · have hst := (State.headCap_some hcap).1
    let k : NvmeCtl :=
      { tenant := tn, discovery := false, adminQp := q, enabled := false, ready := false, kato := c.cdw12,
        lastAdmin := s.now, aers := [], aec := 0, anaChanges := 0, warnSeen := 0, noticePend := false,
        errCount := 0, errors := [] }
    let s2 := ((s.popCap q).reserve q tn (s.qp q).entries).onNvme fun n => { n with ctls := tabPut n.ctls i k }
    obtain ⟨r1, -, r3⟩ := State.reserve_kept (s.popCap q) q tn (s.qp q).entries
    obtain ⟨e1, e2, e3, w, cs, es, n, e4, -⟩ := State.connect_ends (u := s2) hst hl r1 (fun x => { x with tenant := some tn, ctl := some i, qid := 0, admin := true })
      (fun x => ⟨rfl, rfl, rfl⟩) c.cid (s.cntlid i)
    refine ⟨_, ?_, ⟨e1, e2⟩, by rw [e4], by rw [e4], by rw [e4], by rw [e3]; exact r3, k, ?_, rfl, rfl, rfl, rfl⟩
    · simp only [exec, execConnect, hcap, hd, hctl, hdisc, hsub, hten, hreach, hqid, hfree, hres, Option.isNone_eq_false_iff.2 hcom, Option.isSome_none,
        Bool.not_true, Bool.not_false, Bool.false_eq_true, and_false, false_and, if_false, if_true]
      refine congrArg Host.Outcome.next (if_neg ?_)
      rintro (h | h | h | h)
      · exact h hcnt
      · omega
      · omega
      · simp [hkato] at h
    · rw [e3]
      exact tabGet_tabPut_same _ _ _
  · have hst := (State.headCap_some hcap).1
    obtain ⟨r1, -, -⟩ := State.reserve_kept (s.popCap q) q tn (s.qp q).entries
    obtain ⟨e1, e2, -, w, cs, es, n, e4, -⟩ := State.connect_ends (u := (s.popCap q).reserve q tn (s.qp q).entries) hst hl r1
      (fun x => { x with tenant := some tn, ctl := some i, qid := c.cdw10 / 65536, admin := false }) (fun x => ⟨rfl, rfl, rfl⟩) c.cid (s.cntlid i)
    have hi : d.cntlid - 0x1000 * s.boot.board.slot = i := by rw [hcnt, State.cntlid, Nat.add_sub_cancel_left]
    have hnone : (s.rdma.qps.filter fun e => e.2.ctl == some i && !e.2.admin && e.2.st == .ready) = [] := by
      rw [List.filter_eq_nil_iff]
      intro e he h
      simp only [Bool.and_eq_true, beq_iff_eq, Bool.not_eq_true'] at h
      rw [hmine e he h.1.1] at h
      exact absurd h.1.2 (by decide)
    refine ⟨_, ?_, ⟨e1, e2⟩, by rw [e4], by rw [e4], by rw [e4], by rw [e4]⟩
    simp only [exec, execConnect, hcap, hd, hctl, hdisc, hsub, hten, hreach, if_neg hqid, hi, hk, hnone, hken, hres, Option.isNone_eq_false_iff.2 hcom, Option.isSome_none,
      Bool.not_true, Bool.not_false, Bool.false_eq_true, and_false, false_and, if_false]
    refine congrArg Host.Outcome.next (if_neg ?_)
    rintro (h | h | h | h | h | h | h | h)
    · rw [hcnt, State.cntlid] at h
      omega
    · exact h hkt
    · simp [hkd] at h
    · omega
    · omega
    · omega
    · simp at h
    · simp at h
  · have hst := State.fabricsCap_ready hcap
    refine ⟨_, ?_, State.popCap_endCap hst hl c.cid 0 0 false 0x00020000⟩
    simp [exec, execPropertyGet, hcap, hctl, hadmin, hoff]
  · have hst := State.fabricsCap_ready hcap
    refine ⟨_, ?_, State.popCap_endCap hst hl c.cid 0 0 false (b2n k.ready)⟩
    simp [exec, execPropertyGet, hcap, hctl, hadmin, hoff]
  · obtain ⟨hci, htk⟩ := State.ctlOf_some hctl
    have hst := State.fabricsCap_ready hcap
    obtain ⟨h1, h2, h3⟩ := State.popCap_set hst hl hadmin hci htk c.cid fun k => { k with enabled := true, ready := true }
    refine ⟨_, ?_, ⟨h1, h2⟩, _, h3, rfl, rfl⟩
    simp [exec, execPropertySet, hcap, hctl, hadmin, hoff, hen]
  · obtain ⟨hci, htk⟩ := State.ctlOf_some hctl
    let s2 := ((s.popCap q).rdma.qps.filter fun e => e.2.ctl == some i && !e.2.admin && e.2.st == .ready).foldl (fun (s : State) e => s.flushQp e.1) (s.popCap q)
    have hctls : s2.nvme.ctls = (s.popCap q).nvme.ctls := State.flushAll_ctls _ _
    refine ⟨(s2.onCtl i fun k => { k with enabled := false }).endCap q c.cid 0 0 false 0, ?_, ⟨{ { k with lastAdmin := s.now } with enabled := false }, ?_, rfl⟩,
      fun p hp ha hr => ?_⟩
    · have h2 : ¬ c.cdw12 % 2 = 1 := by omega
      simp only [exec, execPropertySet, hcap, hctl, hadmin, hoff, h2, hken, Bool.not_true, Bool.false_eq_true, ne_eq, not_true_eq_false, or_self, if_false, if_true]
      rfl
    · rw [State.endCap_ok_nvme]
      exact State.ctl_onCtl (by rw [hctls]; exact State.popCap_ctl hadmin hci htk) _
    · have hne : p ≠ q := by
        rintro rfl
        rw [hadmin] at ha
        exact absurd ha (by decide)
      have hpop := s.popCap_qp_other hne
      rw [(State.endCap_replied _ q c.cid 0 0 false 0 p).st]
      exact (State.flushMine_quiet (s := s.popCap q) (by rw [hpop]; exact hp) (by rw [hpop]; exact ha) (by rw [hpop]; exact hr)).1
  · have hst := State.fabricsCap_ready hcap
    refine ⟨_, ?_, State.popCap_endCap hst hl c.cid 0 2 true 0⟩
    simp [exec, execDisconnect, hcap, hadmin]
  · have hst := State.fabricsCap_ready hcap
    have hpop := State.popCap_qp hst
    refine ⟨((s.popCap q).endCap q c.cid 0 0 false 0).flushQp q, by simp [exec, execDisconnect, hcap, hadmin], State.flushQp_st ?_⟩
    rw [((s.popCap q).endCap_replied q c.cid 0 0 false 0 q).st, hpop]
    exact hst
  · have hnb : (s.rdma.qps.any fun e => e.2.ctl == some ctl.val && !e.2.admin && s.qpBusy e.1) = false := by
      rw [List.any_eq_false]
      intro e he h
      simp only [Bool.and_eq_true, beq_iff_eq, Bool.not_eq_true'] at h
      rw [hbusy e he h.1.1 h.1.2] at h
      exact absurd h.2 (by decide)
    refine ⟨s.onCtl ctl fun k => { k with ready := false }, by simp [exec, execCcEnClearComplete, hk, hr, hen, hnb], State.ctl_onCtl hk _, rfl⟩
  · refine ⟨s.teardownCtl ctl, by simp [exec, execKeepAliveTimeout, hk, hkato, hdue], ?_, fun p hp hst => (State.teardownCtl_quiet hst hp).1⟩
    rw [State.teardownCtl_ctls, tabGet_tabDel hcwf, if_pos rfl]
  · simp [exec, execKeepAliveTimeout, hk, Nat.not_le.2 hdue]

end Sys2Proof.Machine
end

section
/-! PROOF. A bind of a queue that the table of queue pairs lists out of order (O32). -/

namespace Sys2Proof.Machine

/-- A Ledger namespace of tenant 0. -/
def ledgerNs : NsEntry := ⟨true, false, false, 1, 0, 0, 8192, 0, 1, 0, 0, 7, 0⟩

/-- A rig image of empty sections but for one Ledger namespace, of ID 1. -/
def ledgerImage : RigImage :=
  { magic := 0, fmtMajor := 1, fmtMinor := 0, hdrSize := 256, secCount := 0, signed := false, format := false, flagsReserved := 0
    imgLen := 0, fetched := 0, zenuxVer := 0, fwIf := 0, stepping := 0, secEntSize := 80, secTblOff := 256, rigGen := 1, shelfId := 0
    sigOff := 0, sigLen := 0, reserved := 0, hdrDigestOk := true, secTblDigestOk := true, sections := [], sig := none
    decl := ⟨0, 0, 0, 0, 0, 0, [], 0, 0, 0, 0, 0, 0, 0, 0, 0, 0, 0, []⟩, slotTables := [], lanes := [], spill := []
    placement := ⟨0, 0, 0, 0, 0, 0, 0, [], [], [], 0, 0, 0, 0, []⟩, ns := ⟨1, 0, 0, 0, [(1, ledgerNs)]⟩, tenants := ⟨0, 0, 0, [], []⟩
    cls := ⟨0, 0, 0, 0, 0, 0, [], [], [], []⟩, qos := ⟨0, 0, 0, 0, 0, [], [], []⟩, ports := ⟨0, 0, 0, [], [], []⟩, credits := []
    streams := ⟨0, 0, []⟩, settings := ⟨0, 0, 0, []⟩, routes := none, pmc := none }

/-- A LEDGER BIND of the I/O queue 0 to chain 0 of that namespace, from the admin queue 16383. -/
def bindCmd : Cmd :=
  { src := .qp 16383 0, kind := .bind, ns := 1, lba := 0, len := 1, cap := ⟨0, 0, 0, 0, false, 0, 0, 0, 0, 0, false, 0, 0, 0, 0, [], false, none⟩, lane := none
    phase := .admitted, seq := true, chain := none, lcount := 0, retClock := 0, stream := 0, fetched := [], fetchNext := 0, units := [], results := []
    placedAt := 0, mirrored := false, mirrorLost := false, acked := false, status := none, orphan := false, marked := [], key := none, readCap := 0 }

/-- The controller of tenant 0 that both queues belong to. -/
def bindCtl : NvmeCtl := ⟨0, false, 16383, true, true, 1000, 0, [], 0, 0, 0, false, 0, []⟩

/-- A controller with that command, whose table of queue pairs is out of order: queue 16383 stands before queue 0, so the search by SQID finds
queue 0 and the search by number does not. -/
def qpsOutOfOrder : State :=
  (((State.reset.onFn fun f => { f with committed := some ledgerImage }).onSched fun x => { x with cmds := [(1, bindCmd)] }).onRdma fun r =>
    { r with qps := [(16383, { Qp.reset with st := .ready, ctl := some 0, admin := true }), (0, { Qp.reset with st := .ready, ctl := some 0 })] }).onNvme fun n =>
    { n with ctls := [(0, bindCtl)] }

/-- The bind there binds no queue. -/
theorem qpsOutOfOrder_unbound {t : State} (h : exec (.ledgerBind 1) qpsOutOfOrder = .next t) : (t.qp 0).chain = none := by
  have h1 : (match exec (.ledgerBind 1) qpsOutOfOrder with
    | .next t => (t.qp 0).chain == none
    | _ => false) = true := by decide
  rw [h] at h1
  simpa using h1

/-- Refutes O32: the statement leaves out that the table of queue pairs is in order, and with queue 0 listed after queue 16383 a LEDGER BIND
of queue 0 ends with success and leaves queue 0 without its chain. -/
theorem not_ledgerAndForwarding : ¬ Obligations.LedgerAndForwarding := by
  intro h
  obtain ⟨hbind, -⟩ := h qpsOutOfOrder (by decide) (by decide) (by decide)
  obtain ⟨hfree, -⟩ := hbind 1 bindCmd ledgerNs (by decide) (by decide) rfl rfl rfl (by decide) rfl
  obtain ⟨t, hex, -, hchain, -⟩ := (hfree (by decide) (by decide)).1 16383 0 0 bindCtl 0 rfl (by decide) (by decide) (by decide)
  rw [qpsOutOfOrder_unbound hex] at hchain
  exact absurd hchain (by decide)

end Sys2Proof.Machine
end

section
/-! PROOF. The storage commands (chapters 4 and 10, O29). -/

namespace Sys2Proof.Machine

theorem State.startCmd_some {s : State} {ord : Nat} {c : Cmd} {k : CmdKind} (hc : s.cmd ord = some c) (hk : c.kind = k) (hph : c.phase = .admitted) (hseq : c.seq = true) (b : Bool) :
    s.startCmd ord k b = some c := by
  simp [State.startCmd, hc, hk, hph, hseq]

theorem State.cmd_onCmd {s : State} {ord : Nat} {c : Cmd} (h : s.cmd ord = some c) (g : Cmd → Cmd) : (s.onCmd ord g).cmd ord = some (g c) := by
  show tabGet (tabMod s.sched.cmds ord g) ord = _
  rw [tabGet_tabMod, if_pos rfl, show tabGet s.sched.cmds ord = _ from h]
  rfl

/-- Both halves of a command's end: it leaves the table and its sender is told. -/
theorem State.finish_ends {s : State} {ord : Nat} {c : Cmd} (hwf : tabWf s.sched.cmds = true) (hc : s.cmd ord = some c) (hl : s.listening c = true)
    (sct sc : Nat) (dnr : Bool) (dw0 : Nat) :
    (s.finish ord sct sc dnr dw0).cmd ord = none ∧ (s.finish ord sct sc dnr dw0).told c sct sc dnr dw0 :=
  ⟨State.finish_cmd hwf ord sct sc dnr dw0, State.finish_told hc hl sct sc dnr dw0⟩

/-- A command of no Ledger chain fails by ending. -/
theorem State.failCmd_noChain {s : State} {ord : Nat} {c : Cmd} (hc : s.cmd ord = some c) (hn : c.chain = none) (sct sc : Nat) (dnr : Bool) :
    s.failCmd ord sct sc dnr = s.finish ord sct sc dnr 0 := by
  simp [State.failCmd, State.haltChain, hc, hn]

/-- A lookup of a sound line mends nothing. -/
theorem State.tcCheck_sound {s : State} {la : Nat} (h : s.tcSound la = true) : s.tcCheck la = s := by
  simp only [State.tcSound, Bool.and_eq_true, List.all_eq_true, List.mem_range] at h
  obtain ⟨htags, hline⟩ := h
  have hmend : s.tcMendTags (tcSet la) = s := by
    unfold State.tcMendTags
    refine List.foldlRecOn (motive := fun u => u = s) _ _ rfl fun u hu w hw => ?_
    rw [hu, htags w (List.mem_range.1 hw), if_pos rfl]
    rfl
  rw [State.tcCheck, hmend]
  cases hw : s.tcHit la with
  | none => rfl
  | some w =>
    simp only [hw] at hline
    simp only [State.tcMendLine, Option.isNone_iff_eq_none.1 hline]
    rfl

@[simp] theorem State.touch_sched (s : State) (ns lba : Nat) (b : Bool) : (s.touch ns lba b).sched = s.sched :=
  State.mask_sched (P := but [.sched]) (by simp) rfl

/-- A sector whose map entry is no place in flash: zeroes, or an error where the entry is poisoned. -/
theorem State.serveSector_noPlace {s : State} {ord off : Nat} {c : Cmd} (how : s.ovWrite ord c.ns (c.lba + off) = none)
    (hsound : s.tcSound (lineAddr (s.mpnOf c.ns (c.lba + off)) (c.lba + off)) = true) {e : MapEntry} (hlook : s.look c.ns (c.lba + off) = .entry e) (hloc : isLoc e = false) :
    s.serveSector ord c off = (s.touch c.ns (c.lba + off) c.streaming).setResult ord off (if e = ePoisoned then .unrecovered else .zero) := by
  unfold State.serveSector
  simp only [how, State.tcCheck_sound hsound, hlook, State.serveEntry, hloc, Bool.not_false, if_true]
  split <;> rfl

/-- A read of one sector whose map entry is no place in flash has its result at once. -/
theorem State.serveRead_noPlace {s : State} {ord : Nat} {d : Cmd} (hd : s.cmd ord = some d) (hres : d.results = [(0, .waiting)])
    (how : s.ovWrite ord d.ns d.lba = none) (hsound : s.tcSound (lineAddr (s.mpnOf d.ns d.lba) d.lba) = true) {e : MapEntry} (hlook : s.look d.ns d.lba = .entry e)
    (hloc : isLoc e = false) : (s.serveRead ord).cmd ord = some { d with results := [(0, if e = ePoisoned then .unrecovered else .zero)] } := by
  have hserve : s.serveRead ord = (s.touch d.ns d.lba d.streaming).setResult ord 0 (if e = ePoisoned then .unrecovered else .zero) := by
    unfold State.serveRead
    rw [hd]
    have hf : [(0, RdResult.waiting)].filter (fun e => e.2 == .waiting) = [(0, .waiting)] := rfl
    simp only [hres, hf, List.foldl_cons, List.foldl_nil]
    exact State.serveSector_noPlace (ord := ord) (off := 0) (c := d) how hsound hlook hloc
  rw [hserve, State.setResult, State.cmd_onCmd (s := s.touch d.ns d.lba d.streaming) (by rw [State.cmd, State.touch_sched]; exact hd), hres]
  rfl

/-- What filling in the rows of dies and their pads leaves of the log: the rows and pads alone change. -/
def State.RowsOnly (s t : State) : Prop :=
  (∃ r w, t.log = { s.log with rows := r, padWait := w }) ∧ t.mask (these [.log, .sheet, .out]) = s.mask (these [.log, .sheet, .out])

theorem State.RowsOnly.refl (s : State) : s.RowsOnly s := ⟨⟨s.log.rows, s.log.padWait, rfl⟩, rfl⟩

theorem State.RowsOnly.trans {s t u : State} (h : s.RowsOnly t) (h2 : t.RowsOnly u) : s.RowsOnly u := by
  obtain ⟨⟨r, w, h⟩, hm⟩ := h
  obtain ⟨⟨r2, w2, h2⟩, hm2⟩ := h2
  exact ⟨⟨r2, w2, by rw [h2, h]⟩, hm2.trans hm⟩

theorem State.RowsOnly.foldl {α : Type} {f : State → α → State} (hf : ∀ (s : State) a, s.RowsOnly (f s a)) (l : List α) (s : State) : s.RowsOnly (l.foldl f s) := by
  induction l generalizing s with
  | nil => exact .refl s
  | cons a l ih => exact (hf s a).trans (ih _)

theorem State.RowsOnly.rows (s : State) (g : LogSt → Tab RowAcc) : s.RowsOnly (s.onLog fun l => { l with rows := g l }) :=
  ⟨⟨g s.log, s.log.padWait, rfl⟩, by simp⟩

theorem State.RowsOnly.issue {s t : State} {b : Nat} {op : SheetOp} {v : BitVec 64} {o : List Int} {f : List Payload} (h : s.issue b op v o f = some t) : s.RowsOnly t := by
  have hlog : t.log = s.log := State.mask_log (State.issue_mask (P := these [.sheet, .out]) rfl rfl h) rfl
  exact ⟨⟨s.log.rows, s.log.padWait, hlog⟩, State.issue_mask rfl rfl h⟩

theorem State.tryXor_rowsOnly (s : State) (u b row : Nat) : s.RowsOnly (s.tryXor u b row) := by
  unfold State.tryXor
  split
  · exact .refl s
  · extract_lets w voids x frames
    split
    · exact .refl s
    · split
      · exact .rows s _
      · split
        · next t ht => exact (State.RowsOnly.issue ht).trans (.rows t _)
        · exact .refl s

theorem State.intoRow_rowsOnly (s : State) (u : Nat) (page : Loc) (l : List Payload) : s.RowsOnly (s.intoRow u page l) :=
  (State.RowsOnly.rows s _).trans (State.tryXor_rowsOnly _ _ _ _)

theorem State.kickPads_rowsOnly (s : State) : s.RowsOnly s.kickPads := by
  unfold State.kickPads
  refine State.RowsOnly.foldl (fun s e => ?_) _ _
  have hdrop (u : State) : u.RowsOnly (u.onLog fun l => { l with padWait := l.padWait.filter (· != e) }) :=
    ⟨⟨u.log.rows, u.log.padWait.filter (· != e), rfl⟩, by simp⟩
  extract_lets b drop
  split
  · exact hdrop s
  · split
    · exact .refl s
    · split
      · next t ht => exact ((State.RowsOnly.issue ht).trans (hdrop t)).trans (State.intoRow_rowsOnly _ _ _ _)
      · exact .refl s

/-- No stripe is open, programming or waiting, and nothing is read: there is nothing to wait for in a flush. -/
def State.Settled (s : State) : Prop :=
  (∀ x ∈ s.log.streams, x.stripe = none) ∧ s.log.stripes = [] ∧ s.log.sjWait = [] ∧ s.log.units = [] ∧ s.rd.jobs = [] ∧ s.map.waits = [] ∧ s.log.strike = .idle

theorem State.Settled.stream {s : State} (h : s.Settled) (k : Nat) : (s.stream k).stripe = none := by
  show (nth s.log.streams k Stream.reset).stripe = none
  rw [nth, List.getD_eq_getElem?_getD]
  cases hk : s.log.streams[k]? with
  | none => rfl
  | some x => exact h.1 x (List.mem_of_getElem? hk)

/-- With everything settled, the work that may follow is the rows' and their pads' alone. -/
theorem State.kick_settled {s : State} (h : s.Settled) : s.RowsOnly s.kick := by
  obtain ⟨hst, hstripes, hsj, hunits, hjobs, hwaits, hstrike⟩ := id h
  have hfull : s.closeFull = s := by
    unfold State.closeFull
    simp only [h.stream, List.filter_false, List.foldl_nil]
  have hmem : s.kickMembers = s.kickPads := by
    unfold State.kickMembers
    rw [hstripes, List.foldl_nil]
  have hpads := s.kickPads_rowsOnly
  have hsj2 : s.kickPads.trySj = s.kickPads := by
    obtain ⟨⟨r, w, hlog⟩, -⟩ := hpads
    unfold State.trySj
    rw [hlog]
    simp only [hsj, List.foldl_nil]
  unfold State.kick
  rw [hfull, hmem, hsj2]
  extract_lets s1 s2 s3
  have h2 : s.RowsOnly s2 := hpads.trans
    (.foldl (f := fun u (e : Nat × RowAcc) => u.tryXor (e.1 / 2048 / 64) (e.1 / 2048 % 64) (e.1 % 2048)) (fun u e => u.tryXor_rowsOnly _ _ _) s.kickPads.log.rows s.kickPads)
  have h3 : s3 = s2 := by
    obtain ⟨⟨r, w, hlog⟩, -⟩ := h2
    unfold s3
    rw [hlog]
    simp only [hunits, List.foldl_nil]
  rw [h3]
  obtain ⟨⟨r, w, hlog⟩, hm⟩ := id h2
  have hrd : s2.rd = s.rd := State.mask_rd hm rfl
  have hmap : s2.map = s.map := State.mask_map hm rfl
  have hk : ((s2.kickDecodes.kickReads).kickPages).strikeKick = s2 := by
    rw [State.kickDecodes, hrd, hjobs, List.foldl_nil, State.kickReads, hrd, hjobs, List.foldl_nil, State.kickPages, hmap, hwaits, List.foldl_nil,
      State.strikeKick, hlog]
    simp [hstrike]
  rw [hk]
  exact h2

/-! The journal records of commands that clear sectors. -/

theorem State.readyPages_log (s : State) (fetch : State → Nat → State) (pages : List Nat) (h : (s.readyPages fetch pages).1 = true) :
    (s.readyPages fetch pages).2.log = s.log := by
  have hpage (u : State) (m : Nat) : (u.readyPage m).2.log = u.log := State.mask_log (P := but [.log]) (by simp) rfl
  have hpin (u : State) (m : Nat) (b : Bool) : (u.pin m b).log = u.log := State.mask_log (P := but [.log]) (by simp) rfl
  unfold State.readyPages at h ⊢
  extract_lets a at h
  have ha : a.1 = true → a.2.2.log = s.log := by
    refine List.foldlRecOn (motive := fun (a : Bool × List Nat × State) => a.1 = true → a.2.2.log = s.log) _ _ (fun _ => rfl) fun a ih m _ => ?_
    dsimp only
    split
    · exact fun hb => (hpin _ _ _).trans ((hpage _ _).trans (ih hb))
    · exact fun hb => absurd hb Bool.false_ne_true
  exact (foldl_field (fun u : State => u.log) (fun u m => hpin u m false) _ _).trans (ha h)

/-! Making pages ready does not look at the commands or the budgets. -/

theorem State.evict_onSched (s : State) (g : Sched → Sched) : (s.onSched g).evict = (s.evict.1, s.evict.2.onSched g) := by
  unfold State.evict
  extract_lets cand top cand2 top2
  have hcand : cand2 = cand := rfl
  have htop : top2 = top := rfl
  clear_value cand top
  subst hcand htop
  split <;> rfl

theorem State.freeSlot_onSched (s : State) (g : Sched → Sched) (mpn : Nat) : (s.onSched g).freeSlot mpn = ((s.freeSlot mpn).1, (s.freeSlot mpn).2.onSched g) := by
  have h : ((s.onSched g).map.pool.length + (s.onSched g).slotsHeld mpn < (s.onSched g).poolCap) = (s.map.pool.length + s.slotsHeld mpn < s.poolCap) := rfl
  unfold State.freeSlot
  by_cases hc : s.map.pool.length + s.slotsHeld mpn < s.poolCap
  · rw [if_pos hc, if_pos (h ▸ hc)]
  · rw [if_neg hc, if_neg (h ▸ hc), State.evict_onSched]

theorem State.takeSlot_onSched (s : State) (g : Sched → Sched) (mpn : Nat) (p : PoolSlot) : (s.onSched g).takeSlot mpn p =
    ((s.takeSlot mpn p).1, (s.takeSlot mpn p).2.onSched g) := by
  unfold State.takeSlot
  rw [State.freeSlot_onSched]
  extract_lets r s1 n free slot r2 s2 n2 free2 slot2
  by_cases hr : r.1 = true
  · have hr2 : r2.1 = true := hr
    rw [if_pos hr, if_pos hr2]
    rfl
  · have hr2 : ¬ r2.1 = true := hr
    rw [if_neg hr, if_neg hr2]
    rfl

theorem State.readyPage_onSched (s : State) (g : Sched → Sched) (mpn : Nat) : (s.onSched g).readyPage mpn = ((s.readyPage mpn).1, (s.readyPage mpn).2.onSched g) := by
  unfold State.readyPage
  extract_lets x y
  have h : y = x := rfl
  clear_value x
  subst h
  split
  · rfl
  · split
    · exact State.takeSlot_onSched s g mpn _
    · rfl

theorem State.pin_onSched (s : State) (g : Sched → Sched) (mpn : Nat) (b : Bool) : (s.onSched g).pin mpn b = (s.pin mpn b).onSched g := by
  have h : (s.onSched g).gmd mpn = s.gmd mpn := rfl
  unfold State.pin State.onSlot
  rw [h]
  split <;> rfl

/-- One page made ready and pinned, or found not ready. -/
def readyStep (fetch : State → Nat → State) (a : Bool × List Nat × State) (m : Nat) : Bool × List Nat × State :=
  let r := a.2.2.readyPage m
  if r.1 then (a.1, m :: a.2.1, r.2.pin m true) else (false, a.2.1, if (r.2.gmd m).empty then r.2 else fetch r.2 m)

theorem readyStep_false (fetch : State → Nat → State) (pages : List Nat) {a : Bool × List Nat × State} (h : a.1 = false) :
    (pages.foldl (readyStep fetch) a).1 = false := by
  refine List.foldlRecOn (motive := fun (a : Bool × List Nat × State) => a.1 = false) _ _ h fun a ih m _ => ?_
  unfold readyStep
  dsimp only
  split
  · exact ih
  · rfl

theorem readyStep_onSched (fetch : State → Nat → State) (g : Sched → Sched) (pages : List Nat) (l : List Nat) (u : State)
    (h : (pages.foldl (readyStep fetch) (true, l, u)).1 = true) : (pages.foldl (readyStep fetch) (true, l, u.onSched g)).1 = true := by
  induction pages generalizing l u with
  | nil => rfl
  | cons m pages ih =>
    rw [List.foldl_cons] at h ⊢
    by_cases hr : (u.readyPage m).1 = true
    · have h1 : readyStep fetch (true, l, u) m = (true, m :: l, (u.readyPage m).2.pin m true) := if_pos hr
      have h2 : readyStep fetch (true, l, u.onSched g) m = (true, m :: l, ((u.readyPage m).2.pin m true).onSched g) := by
        rw [readyStep, State.readyPage_onSched, if_pos hr, State.pin_onSched]
      rw [h1] at h
      rw [h2]
      exact ih _ _ h
    · have h1 : (readyStep fetch (true, l, u) m).1 = false := congrArg Prod.fst (if_neg hr)
      rw [readyStep_false fetch pages h1] at h
      exact absurd h Bool.false_ne_true

/-- Whether the pages of a range are ready does not depend on the commands or the budgets. -/
theorem State.readyRanges_onSched (s : State) (g : Sched → Sched) (ns : Nat) (l : List (Nat × Nat)) (b : Bool) (h : (s.readyRanges ns l b).1 = true) :
    ((s.onSched g).readyRanges ns l b).1 = true :=
  readyStep_onSched (fun s m => s.needPage m none true) g _ [] s h

/-- What counting a sector of a place in or out leaves of the log: the records of units alone change. -/
theorem State.countLoc_journal (s : State) (e : MapEntry) (up : Bool) (key : Option Nat) : (s.countLoc e up key).log.journal = s.log.journal := by
  have hkey (u : State) (k : Nat) : (u.keyCount k up).log = u.log := State.mask_log (P := but [.log]) (by simp) rfl
  unfold State.countLoc
  split
  · rfl
  · extract_lets s1
    have h1 : s1.log.journal = s.log.journal := by
      unfold s1
      split <;> rfl
    split
    · rw [hkey, h1]
    · exact h1

theorem State.applyEntry_journal (s : State) (ns lba : Nat) (e : MapEntry) (key : Option Nat) : (s.applyEntry ns lba e key).log.journal = s.log.journal := by
  have hput (u : State) : (u.putEntry ns lba e).log = u.log := State.mask_log (P := but [.log]) (by simp) rfl
  unfold State.applyEntry
  extract_lets old s1 s2
  show s2.log.journal = _
  unfold s2 s1
  rw [State.countLoc_journal, hput, State.countLoc_journal]

theorem State.tryAck_journal (s : State) (ord : Nat) : (s.tryAck ord).log.journal = s.log.journal := by
  have hfin (u : State) : (u.finishOk ord).log = u.log := State.mask_log (P := but [.log]) (by simp) rfl
  unfold State.tryAck
  split
  · rfl
  · next c hc =>
    extract_lets ready
    split
    · rw [hfin]
      show (s.noteAck c).log.journal = _
      unfold State.noteAck
      split <;> rfl
    · rfl

/-- With room in the tail and no full page, a record is appended and no page is written. -/
theorem State.journal_appended {s : State} (hlen : s.log.journal.length < 262144) (hopen : (s.log.journal.filter fun j => !j.written).length < 126) (r : JRec) :
    (s.journal r).log.journal = s.log.journal ++ [⟨s.log.jposNext, r, false, false⟩] := by
  have happ : (s.appendRec r).log.journal = s.log.journal ++ [⟨s.log.jposNext, r, false, false⟩] := by
    have htrim : ringTrim (s.log.journal ++ [⟨s.log.jposNext, r, false, false⟩]) = s.log.journal ++ [⟨s.log.jposNext, r, false, false⟩] := by
      have h0 : (s.log.journal ++ [(⟨s.log.jposNext, r, false, false⟩ : JSlot)]).length - 262144 = 0 := by
        rw [List.length_append, List.length_singleton]
        omega
      rw [ringTrim, h0, List.take_zero, List.drop_zero]
      rfl
    unfold State.appendRec
    extract_lets j s1
    split
    · split <;> exact htrim
    · exact htrim
  rw [State.journal, State.fullPages, if_neg ?_, happ]
  rw [happ, List.filter_append, List.length_append]
  have h1 : (List.filter (fun j => !j.written) [(⟨s.log.jposNext, r, false, false⟩ : JSlot)]).length = 1 := rfl
  omega

/-- A cleared range leaves its record in the journal. -/
theorem State.clearRange_journal {s : State} (hlen : s.log.journal.length < 262144) (hopen : (s.log.journal.filter fun j => !j.written).length < 126)
    (ord ns lba len : Nat) (zeroes : Bool) : ∃ j ∈ (s.clearRange ord ns lba len zeroes).log.journal,
      j.record = ⟨if zeroes then 4 else 3, 0, ns, 0, lba, len, ord⟩ := by
  have hret (u : State) : (u.retCount ns ord 1).log = u.log := State.mask_log (P := but [.log]) (by simp) rfl
  have hstamp (u : State) (m top : Nat) : (u.stampPage m top).log = u.log := State.mask_log (P := but [.log]) (by simp) rfl
  unfold State.clearRange
  extract_lets s0 entry s1 s2 top
  have h1 : s1.log.journal = s.log.journal := by
    refine (foldl_field (fun u : State => u.log.journal) (fun u i => ?_) _ _).trans rfl
    extract_lets mpn t
    have ht : t.log.journal = u.log.journal := State.applyEntry_journal _ _ _ _ _
    split
    · rfl
    · split
      · rw [hret, ht]
      · exact ht
  have h2 : s2.log.journal = s1.log.journal ++ [⟨s1.log.jposNext, ⟨if zeroes then 4 else 3, 0, ns, 0, lba, len, ord⟩, false, false⟩] :=
    State.journal_appended (by rw [h1]; exact hlen) (by rw [h1]; exact hopen) _
  have h3 := foldl_field (fun u : State => u.log) (fun u m => hstamp u m top) (((List.range len).map fun i => s2.mpnOf ns (lba + i)).eraseDups) s2
  rw [show _ = s2.log from h3, h2]
  exact ⟨_, List.mem_append_right _ (List.mem_singleton_self _), rfl⟩

/-- A command that clears one range leaves the range's record. -/
theorem State.clearCmd_journal {s : State} {ord : Nat} {c : Cmd} {r : Nat × Nat} (hr : c.ranges = [r]) {zeroes : Bool}
    (hready : (s.readyRanges c.ns c.ranges zeroes).1 = true) (hlen : s.log.journal.length < 262144)
    (hopen : (s.log.journal.filter fun j => !j.written).length < 126) :
    ∃ j ∈ (s.clearCmd ord c zeroes).log.journal, j.record = ⟨if zeroes then 4 else 3, 0, c.ns, 0, r.1, r.2, ord⟩ := by
  have hlog : (s.readyRanges c.ns c.ranges zeroes).2.log = s.log := State.readyPages_log _ _ _ hready
  unfold State.clearCmd
  extract_lets p s1
  have hp : p.1 = true := hready
  rw [if_neg (by rw [hp]; decide), State.tryAck_journal]
  show ∃ j ∈ s1.log.journal, _
  unfold s1
  rw [hr]
  exact State.clearRange_journal (s := p.2) (by rw [show p.2.log = s.log from hlog]; exact hlen) (by rw [show p.2.log = s.log from hlog]; exact hopen) _ _ _ _ _

theorem State.listening_of {s t : State} {c d : Cmd} (hr : t.rdma = s.rdma) (hm : t.mgmt = s.mgmt) (hsrc : d.src = c.src) (h : s.listening c = true) :
    t.listening d = true := by
  unfold State.listening at h ⊢
  rw [hsrc]
  cases hc : c.src with
  | qp q cid => simpa [hc, State.qp, hr] using h
  | peer a b d => rfl
  | mbx m => simpa [hc, State.mbx, hm] using h

theorem State.mgmt_of_parts {P : Part → Bool} {s t : State} (h : t.mask P = s.mask P) (hg : P .mgmt = false) (he : P .evqs = false) (hb : P .mbx = false) :
    t.mgmt = s.mgmt := by
  have h1 := State.mask_mgmt h hg
  obtain ⟨h2, h3, h4⟩ := State.mask_evqs h he
  rw [← h2, ← h3, ← h4, ← State.mask_mbx h hb] at h1
  exact h1

/-- With nothing written held, a flush of all namespaces closes no stripe. -/
theorem exec_flush_all {s : State} {ord : Nat} {c : Cmd} (hc : s.cmd ord = some c) (hk : c.kind = .flush) (hph : c.phase = .admitted) (hseq : c.seq = true)
    (hall : c.cap.nsid = 0xFFFFFFFF) (hchain : s.srcChain c = none) (hheld : ∀ p : BufSector → Bool, (List.range 64).filter (fun k => (s.stream k).held.any p) = []) :
    exec (.flush ord) s = .next (((s.onCmd ord fun c => { c with phase := .running }).kick).tryFlush ord) := by
  have hb : (c.cap.nsid == 0xFFFFFFFF) = true := by simp [hall]
  simp only [exec, execFlush, State.startCmd_some hc hk hph hseq, hb, hchain, Bool.not_true, Bool.false_and, Bool.or_self, Bool.false_eq_true, if_false, hheld,
    List.foldl_nil]

/-- A running flush with nothing left to wait for ends with success. -/
theorem State.tryFlush_done {s : State} {ord : Nat} {c : Cmd} (hc : s.cmd ord = some c) (hk : c.kind = .flush) (hph : c.phase = .running) (hl : s.pair.st ≠ .lapsed)
    (hdone : ∀ mine, s.flushDone ord c.ns (c.cap.nsid == 0xFFFFFFFF) mine = true) : s.tryFlush ord = (s.settle ord).finishOk ord := by
  have hp : (s.pair.st != .lapsed) = true := by simp [hl]
  simp only [State.tryFlush, hc, hk, hph, hp, hdone, beq_self_eq_true, Bool.and_self, if_true]

theorem State.flushDone_settled {s : State} (hst : ∀ x ∈ s.log.streams, x.stripe = none) (hstripes : s.log.stripes = []) (ord ns : Nat) (all : Bool)
    (mine : Nat → Bool) : s.flushDone ord ns all mine = true := by
  have hno : ∀ x ∈ s.log.streams, x.held = [] := fun x hx => by simp [Stream.held, hst x hx]
  simp only [State.flushDone, Bool.and_eq_true, List.all_eq_true]
  refine ⟨fun x hx e he => ?_, fun e he => ?_⟩
  · rw [hno x hx] at he
    exact absurd he List.not_mem_nil
  · rw [hstripes] at he
    exact absurd he List.not_mem_nil

/-- A flush of all namespaces with everything settled ends with success. -/
theorem exec_flush_settled {s : State} {ord : Nat} {c : Cmd} (hc : s.cmd ord = some c) (hk : c.kind = .flush) (hph : c.phase = .admitted) (hseq : c.seq = true)
    (hall : c.cap.nsid = 0xFFFFFFFF) (hchain : s.srcChain c = none) (h : s.Settled) (hl : s.pair.st ≠ .lapsed) :
    ∃ t : State, exec (.flush ord) s = .next (t.finishOk ord) ∧ t.sched.cmds = tabMod s.sched.cmds ord (fun c => { c with phase := .running })
      ∧ t.rdma = s.rdma ∧ t.mgmt = s.mgmt := by
  have hex := exec_flush_all hc hk hph hseq hall hchain fun p => by
    rw [List.filter_eq_nil_iff]
    intro k _
    simp [Stream.held, h.stream k]
  obtain ⟨s1, hs1⟩ : ∃ s1, (s.onCmd ord fun c => { c with phase := .running }) = s1 := ⟨_, rfl⟩
  have hc1 : s1.cmd ord = some { c with phase := .running } := by
    rw [← hs1]
    exact State.cmd_onCmd hc _
  have h1 : s1.log = s.log ∧ s1.rd = s.rd ∧ s1.map = s.map ∧ s1.pair = s.pair ∧ s1.rdma = s.rdma ∧ s1.mgmt = s.mgmt
      ∧ s1.sched.cmds = tabMod s.sched.cmds ord (fun c => { c with phase := .running }) := by
    rw [← hs1]
    exact ⟨rfl, rfl, rfl, rfl, rfl, rfl, rfl⟩
  rw [hs1] at hex
  clear hs1
  obtain ⟨hlog1, hrd1, hmap1, hpair1, hrdma1, hmgmt1, hsched1⟩ := h1
  have hset : s1.Settled := by
    rw [State.Settled, hlog1, hrd1, hmap1]
    exact h
  obtain ⟨⟨r, w, hlog⟩, hmask⟩ := State.kick_settled hset
  obtain ⟨hst, hstripes, -⟩ := hset
  have hsched : s1.kick.sched = s1.sched := State.mask_sched hmask rfl
  have hrdma : s1.kick.rdma = s1.rdma := State.mask_rdma hmask rfl
  have hmgmt : s1.kick.mgmt = s1.mgmt := State.mgmt_of_parts hmask rfl rfl rfl
  have hpair : s1.kick.pair = s1.pair := State.mask_pair hmask rfl
  have hdone (mine : Nat → Bool) : s1.kick.flushDone ord c.ns (c.cap.nsid == 0xFFFFFFFF) mine = true :=
    State.flushDone_settled (by rw [hlog]; exact hst) (by rw [hlog]; exact hstripes) _ _ _ _
  generalize s1.kick = u at hex hsched hrdma hmgmt hpair hdone
  have hc2 : u.cmd ord = some { c with phase := .running } := by
    rw [State.cmd, hsched]
    exact hc1
  rw [State.tryFlush_done hc2 hk rfl (by rw [hpair, hpair1]; exact hl) hdone] at hex
  have hcmds : (u.settle ord).sched.cmds = u.sched.cmds := rfl
  exact ⟨u.settle ord, hex, hcmds.trans (by rw [hsched, hsched1]), hrdma.trans hrdma1, hmgmt.trans hmgmt1⟩

theorem exec_read_checked {s : State} {ord : Nat} {c : Cmd} (hc : s.cmd ord = some c) (hk : c.kind = .read) (hph : c.phase = .admitted) (hseq : c.seq = true)
    (hchk : s.ioCheck c = none) : exec (.read ord) s = .next ((s.onCmd ord fun c =>
      { c with phase := .running, fetchNext := 0, results := (List.range c.len).map fun i => (i, .waiting) }).serveRead ord) := by
  simp only [exec, execRead, State.startCmd_some hc hk hph hseq, hchk]

/-- A compare with all its sectors and data ends as they are equal or not; the staging slots it held are free. -/
theorem exec_compare_read {s : State} {ord : Nat} {c : Cmd} (hc : s.cmd ord = some c) (hk : c.kind = .compare) (hph : c.phase = .running) (hall : c.allRead = true)
    (herr : c.readError = none) (htag : c.firstTagFail = none) (hfetched : c.len ≤ c.fetched.length) :
    ∃ v : State, v.sched.cmds = s.sched.cmds ∧ (s.listening c = true → v.listening c = true) ∧ exec (.compare ord) s = .next
      (if ((List.range c.len).all fun i => ((c.fetched.find? fun e => e.1 == i).map (·.2)) == some (c.outSector i)) = true then v.finishOk ord
        else v.finish ord 2 0x85 true 0) := by
  have hno : s.startCmd ord .compare true = none := by simp [State.startCmd, hc, hph]
  have hgo : ¬ (c.kind ≠ .compare ∨ c.phase ≠ .running ∨ (!c.allRead) = true) := by simp [hk, hph, hall]
  have hfull : ¬ c.fetched.length < c.len := Nat.not_lt.2 hfetched
  cases hsrc : c.src with
  | qp q cid =>
    refine ⟨(s.settle ord).onCell q fun x => { x with stagingUsed := x.stagingUsed - min c.len c.fetchNext }, rfl, fun h => ?_, ?_⟩
    · unfold State.listening at h ⊢
      rw [hsrc] at h ⊢
      exact h
    · simp only [exec, execCompare, hno, hc, if_neg hgo, herr, htag, if_neg hfull, hsrc]
  | peer a b d =>
    refine ⟨s.settle ord, rfl, fun h => h, ?_⟩
    simp only [exec, execCompare, hno, hc, if_neg hgo, herr, htag, if_neg hfull, hsrc]
  | mbx m =>
    refine ⟨s.settle ord, rfl, fun h => h, ?_⟩
    simp only [exec, execCompare, hno, hc, if_neg hgo, herr, htag, if_neg hfull, hsrc]

/-- Settles O29: each check and each outcome of a storage command from what it does with its command. -/
theorem storageCommands : Obligations.StorageCommands := by
  intro ord c s hwf hc hl ends starts
  have hend := State.finish_ends hwf hc hl
  refine ⟨fun sct sc dnr hchk => ⟨?_, ?_, ?_, ?_⟩, fun hchk => ⟨?_, ?_, ?_, ?_, ?_, ?_⟩, ?_, ?_, ?_⟩
  · rintro ⟨hk, hph, hseq⟩
    exact ⟨_, by simp only [exec, execRead, State.startCmd_some hc hk hph hseq, hchk], hend sct sc dnr 0⟩
  · rintro ⟨hk, hph, hseq⟩
    exact ⟨_, by simp only [exec, execCompare, State.startCmd_some hc hk hph hseq, hchk], hend sct sc dnr 0⟩
  · rintro ⟨hk, hph, hseq⟩
    exact ⟨_, by simp only [exec, execWriteZeroes, State.startCmd_some hc hk hph hseq, hchk], hend sct sc dnr 0⟩
  · rintro ⟨hk, hph, hseq⟩
    exact ⟨_, by simp only [exec, execDatasetManagement, State.startCmd_some hc hk hph hseq, hchk], hend sct sc dnr 0⟩
  · rintro ⟨hk, hph, hseq⟩ hlen how hsound e hlook hloc
    have hres : (List.range c.len).map (fun i => (i, RdResult.waiting)) = [(0, .waiting)] := by
      rw [hlen]
      rfl
    have hserve := State.serveRead_noPlace (s := s.onCmd ord fun c => { c with phase := .running, fetchNext := 0, results := (List.range c.len).map fun i => (i, .waiting) })
      (State.cmd_onCmd hc _) hres how hsound hlook hloc
    exact ⟨_, exec_read_checked hc hk hph hseq hchk, _, hserve, rfl, rfl⟩
  · rintro ⟨hk, hph, hseq⟩ hnc e he hty
    refine ⟨fun hro => ⟨s.finish ord 0 0x81 true 0, ?_, hend 0 0x81 true 0⟩, fun hro hkey => ⟨s.finish ord 0 0x82 true 0, ?_, hend 0 0x82 true 0⟩,
      fun hro hkey horph q cid hsrc => ?_⟩
    · simp only [exec, execWrite, hc, State.startCmd_some hc hk hph hseq, hchk, hro, State.failCmd_noChain hc hnc, if_true]
    · simp only [exec, execWrite, hc, State.startCmd_some hc hk hph hseq, hchk, hro, hkey, State.failCmd_noChain hc hnc, Bool.not_false, Bool.false_eq_true, if_false, if_true]
    · have hex : exec (.write ord) s = .next (s.onCmd ord fun c => match c.src with
          | .qp _ _ => { c with phase := .running, fetchNext := 0, units := List.replicate (unitCount c.len) .fetching }
          | _ => ({ { c with phase := .running, fetchNext := 0, units := List.replicate (unitCount c.len) .fetching } with fetched := [] } : Cmd).addSectors c.fetched) := by
        have h2 : ¬ e.nsType = 2 := by omega
        simp only [exec, execWrite, hc, State.startCmd_some hc hk hph hseq, hchk, he, h2, hro, hkey, horph, Bool.not_true, Bool.false_eq_true, false_and, if_false] <;> rfl
      refine ⟨_, hex, (State.cmd_onCmd hc _).trans ?_⟩
      rw [hsrc]
  · rintro ⟨hk, hph, hseq⟩ hkey
    refine ⟨s.finish ord 0 0x82 true 0, ?_, hend 0 0x82 true 0⟩
    simp only [exec, execCompare, State.startCmd_some hc hk hph hseq, hchk, hkey, Bool.not_false, if_true]
  · rintro ⟨hk, hph, hseq⟩ hkey hro hdeac htype hopen hjlen hready
    have hr : c.ranges = [(c.lba, c.len)] := by
      have hd : ¬ c.kind = .dsm := by rw [hk]; decide
      rw [Cmd.ranges, if_neg hd]
    obtain ⟨j, hj, hrec⟩ := State.clearCmd_journal (ord := ord) hr hready hjlen hopen
    refine ⟨s.clearCmd ord c true, ?_, j, hj, by rw [hrec]; exact ⟨rfl, rfl, rfl, rfl, rfl⟩⟩
    cases hns : s.nsEntry c.ns with
    | none =>
      simp [exec, execWriteZeroes, State.startCmd_some hc hk hph hseq, hchk, hkey, hro, hdeac, hns]
    | some e =>
      have h0 := htype e hns
      simp [exec, execWriteZeroes, State.startCmd_some hc hk hph hseq, hchk, hkey, hro, hdeac, hns, h0]
  · rintro ⟨hk, hph, hseq⟩ htype hdealloc hopen hjlen hready r hranges
    have hr : c.ranges = [r] := by rw [Cmd.ranges, if_pos hk, hranges]
    obtain ⟨g, hex⟩ : ∃ g : Sched → Sched, exec (.datasetManagement ord) s = .next ((s.onSched g).clearCmd ord c false) := by
      have hty : ∀ e, s.nsEntry c.ns = some e → ¬ e.nsType = 2 := fun e he h2 => by
        rw [htype e he] at h2
        exact absurd h2 (by decide)
      cases hns : s.nsEntry c.ns with
      | none =>
        cases hlane : c.lane with
        | none => exact ⟨id, by simp [exec, execDatasetManagement, State.startCmd_some hc hk hph hseq, hchk, hdealloc, hns, hlane, State.onSched]⟩
        | some l => exact ⟨_, by simp [exec, execDatasetManagement, State.startCmd_some hc hk hph hseq, hchk, hdealloc, hns, hlane] <;> rfl⟩
      | some e =>
        have h2 := hty e hns
        cases hlane : c.lane with
        | none => exact ⟨id, by simp [exec, execDatasetManagement, State.startCmd_some hc hk hph hseq, hchk, hdealloc, hns, hlane, h2, State.onSched]⟩
        | some l => exact ⟨_, by simp [exec, execDatasetManagement, State.startCmd_some hc hk hph hseq, hchk, hdealloc, hns, hlane, h2] <;> rfl⟩
    obtain ⟨j, hj, hrec⟩ := State.clearCmd_journal (s := s.onSched g) (ord := ord) hr (s.readyRanges_onSched g _ _ _ hready) hjlen hopen
    exact ⟨_, hex, j, hj, by rw [hrec]; exact ⟨rfl, rfl, rfl, rfl, rfl⟩⟩
  · rintro ⟨hk, hph, hseq⟩ hdealloc hten
    refine ⟨s.finishOk ord, ?_, hend 0 0 false 0⟩
    simp only [exec, execDatasetManagement, State.startCmd_some hc hk hph hseq, hchk, hdealloc, hten, Bool.not_false, and_self, if_true]
  · intro hk hph hall herr htag hfetched
    obtain ⟨v, hcv, hlv, hex⟩ := exec_compare_read hc hk hph hall herr htag hfetched
    have hv := State.finish_ends (s := v) (ord := ord) (c := c) (by rw [hcv]; exact hwf) (by rw [State.cmd, hcv]; exact hc) (hlv hl)
    by_cases hsame : ∀ i < c.len, (c.fetched.find? fun e => e.1 == i).map Prod.snd = some (c.outSector i)
    · have hb : ((List.range c.len).all fun i => ((c.fetched.find? fun e => e.1 == i).map (·.2)) == some (c.outSector i)) = true := by
        simpa using hsame
      refine ⟨_, hex, ?_⟩
      beta_reduce
      rw [if_pos hsame, if_pos hb]
      exact hv 0 0 false 0
    · have hb : ¬ ((List.range c.len).all fun i => ((c.fetched.find? fun e => e.1 == i).map (·.2)) == some (c.outSector i)) = true := by
        simpa using hsame
      refine ⟨_, hex, ?_⟩
      beta_reduce
      rw [if_neg hsame, if_neg hb]
      exact hv 2 0x85 true 0
  · rintro ⟨hk, hph, hseq⟩ hns hmine
    refine ⟨s.finish ord 0 0x0B true 0, ?_, hend 0 0x0B true 0⟩
    have hb : (c.cap.nsid == 0xFFFFFFFF) = false := by simp [hns]
    simp only [exec, execFlush, State.startCmd_some hc hk hph hseq, hb, hmine, Bool.not_false, Bool.and_self, Bool.true_or, if_true]
  · rintro ⟨hk, hph, hseq⟩ hall hchain hst hstripes hsj hrows hunits hjobs hwaits hstrike hpair
    obtain ⟨t, hex, hcmds, hr, hm⟩ := exec_flush_settled hc hk hph hseq hall hchain ⟨hst, hstripes, hsj, hunits, hjobs, hwaits, hstrike⟩ hpair
    have ht : t.cmd ord = some { c with phase := .running } := by
      rw [State.cmd, hcmds]
      exact State.cmd_onCmd hc _
    exact ⟨_, hex, State.finish_ends (s := t) (by rw [hcmds]; exact tabWf_tabMod hwf _ _) ht (State.listening_of (c := c) hr hm rfl hl) 0 0 false 0⟩

end Sys2Proof.Machine
end

section
/-! SUPPORT. What closing stripes and taking sectors leave of the log (chapters 4 and 6): the streams, stripes, units and rows alone change. -/

namespace Sys2Proof.Machine

/-- The log but for what closing a stripe may change. -/
def LogSt.laid (l : LogSt) : LogSt := { l with streams := [], stripes := [], units := [], rows := [], padWait := [], strikeArmed := false }

/-- A step that changes of the log but streams, stripes, units and rows. -/
def State.Lays (s t : State) : Prop := t.log.laid = s.log.laid

theorem State.Lays.refl (s : State) : s.Lays s := rfl

theorem State.Lays.trans {s t u : State} (h : s.Lays t) (h2 : t.Lays u) : s.Lays u := Eq.trans h2 h

theorem State.Lays.of_log {s t : State} (h : t.log = s.log) : s.Lays t := congrArg LogSt.laid h

theorem State.Lays.of_mask {s t : State} (h : t.mask (but [.log]) = s.mask (but [.log])) : s.Lays t := .of_log (State.mask_log h rfl)

theorem State.Lays.foldl {α : Type} {f : State → α → State} (hf : ∀ (s : State) a, s.Lays (f s a)) (l : List α) (s : State) : s.Lays (l.foldl f s) := by
  induction l generalizing s with
  | nil => exact .refl s
  | cons a l ih => exact (hf s a).trans (ih _)

theorem State.RowsOnly.lays {s t : State} (h : s.RowsOnly t) : s.Lays t := by
  obtain ⟨⟨r, w, hlog⟩, -⟩ := h
  rw [State.Lays, hlog]
  rfl

theorem State.onUnit_lays (s : State) (u : Nat) (g : UnitRec → UnitRec) : s.Lays (s.onUnit u g) := rfl

theorem State.onStream_lays (s : State) (k : Nat) (g : Stream → Stream) : s.Lays (s.onStream k g) := rfl

theorem State.firstErase_log (s : State) (b die blk : Nat) : (s.firstErase b die blk).2.log = s.log :=
  State.mask_log (P := but [.log]) (by simp) rfl

theorem State.tryMember_lays (s : State) (id r : Nat) : s.Lays (s.tryMember id r) := by
  unfold State.tryMember
  split
  · exact .refl s
  · next x hx =>
    split
    · exact .refl s
    · next m hm =>
      split
      · exact .refl s
      · extract_lets u row e frames
        split
        · exact .refl s
        · split
          · exact (s.tryXor_rowsOnly _ _ _).lays
          · split
            · split
              · exact .refl s
              · next t ht =>
                refine State.Lays.trans ?_ (State.intoRow_rowsOnly _ _ _ _).lays
                exact (State.RowsOnly.issue ht).lays
            · exact .of_log (s.firstErase_log _ _ _)

theorem State.padRow_lays (u b fuel : Nat) (s : State) : s.Lays (s.padRow u b fuel) := by
  induction fuel generalizing s with
  | zero => exact .refl s
  | succ fuel ih =>
    unfold State.padRow
    split
    · exact .refl s
    · next page _ =>
      split
      · exact .refl s
      · extract_lets pads
        split
        · exact .refl s
        · next t ht => exact (((State.RowsOnly.issue ht).lays.trans (t.onUnit_lays u _)).trans (State.intoRow_rowsOnly _ _ _ _).lays).trans (ih _)

theorem State.finishRows_lays (s : State) (u : Nat) : s.Lays (s.finishRows u) :=
  .foldl (f := fun s (e : Nat × Nat) => s.padRow u e.1 16) (fun s e => State.padRow_lays u e.1 16 s) _ s

theorem State.openUnit_lays (s : State) (k u start : Nat) : s.Lays (s.openUnit k u start) := by
  unfold State.openUnit
  extract_lets h blank s1 s2 s3
  have h1 : s.Lays s1 := s.onUnit_lays u _
  have h2 : s1.Lays s2 := rfl
  have h3 : s2.Lays s3 := rfl
  exact ((h1.trans h2).trans h3).trans (s3.onStream_lays k _)

theorem State.needUnit_lays (s : State) (k : Nat) : s.Lays (s.needUnit k).2 := by
  unfold State.needUnit
  split
  · exact .refl s
  · split
    · exact s.openUnit_lays _ _ _
    · exact .refl s

theorem State.closeUnit_lays (s : State) (k : Nat) : s.Lays (s.closeUnit k) := by
  unfold State.closeUnit
  split
  · exact .refl s
  · next u _ => exact ((s.onUnit_lays u _).trans (State.onStream_lays _ k _)).trans (State.finishRows_lays _ u)

theorem State.takeMembers_lays (s : State) (k u skip : Nat) (pages : List Loc) (secs : List BufSector) (padded : Bool) :
    s.Lays (s.takeMembers k u skip pages secs padded) := by
  unfold State.takeMembers
  extract_lets idx id pat moved x s1 s2 s3 s4 s5 s6
  have h1 : s.Lays s1 := by
    unfold s1
    split
    · exact .refl s
    · rfl
  have h2 : s1.Lays s2 := .foldl (f := fun s r => s.addExc u ⟨idx, 1, r, locBay (nth pages r 0), 0, 0⟩) (fun _ _ => rfl) _ _
  have h3 : s2.Lays s3 := s2.onUnit_lays u _
  have h4 : s3.Lays s4 := rfl
  have h5 : s4.Lays s5 := s4.onStream_lays k _
  have h6 : s5.Lays s6 := by
    refine State.Lays.trans (t := s5.onLog fun l => { l with stripes := tabPut l.stripes id x }) rfl ?_
    exact .of_log (State.mask_log (State.sjShip_mask rfl _ _) (P := but [.log]) rfl)
  exact (((((h1.trans h2).trans h3).trans h4).trans h5).trans h6).trans (.foldl (fun s r => s.tryMember_lays id r) _ _)

theorem State.closeStripe_lays (s : State) (k : Nat) : s.Lays (s.closeStripe k) := by
  have hspace (u : State) : u.Lays u.checkSpace := .of_mask (by simp)
  unfold State.closeStripe
  split
  · exact .refl s
  · next o ho =>
    split
    · exact .refl s
    · extract_lets pads secs go n1 n2
      have hgo (u : State) (v : Nat) (t : State) (h : go u v = some t) : u.Lays t := by
        unfold go at h
        split at h
        · split at h
          · cases h
            exact u.takeMembers_lays _ _ _ _ _ _
          · cases h
        · cases h
      have hgetD (u : State) (v : Nat) : u.Lays ((go u v).getD u) := by
        cases hg : go u v with
        | none => exact .refl u
        | some t => exact hgo u v t hg
      have hn1 : s.Lays n1.2 := s.needUnit_lays k
      clear_value go
      split
      · exact hspace s
      · split
        · exact .refl s
        · split
          · exact hn1.trans (hspace _)
          · split
            · exact hn1.trans (hgetD _ _)
            · have hn2 : s.Lays n2.2 := (hn1.trans (n1.2.closeUnit_lays k)).trans (State.needUnit_lays _ k)
              split
              · exact hn2.trans (hspace _)
              · exact hn2.trans (hgetD _ _)

theorem State.checkStrike_lays (s : State) : s.Lays s.checkStrike := by
  unfold State.checkStrike
  extract_lets c
  split
  · exact .refl s
  · exact State.Lays.trans (t := s.onLog fun l => { l with strikeArmed := decide (c = 0) }) rfl (.of_mask (by simp))

theorem State.placeSectors_lays (s : State) (k : Nat) (secs : List BufSector) : s.Lays (s.placeSectors k secs) := by
  unfold State.placeSectors
  extract_lets s1 s2 s3
  have h1 : s.Lays s1 := by
    unfold s1
    split
    · exact s.closeStripe_lays k
    · exact .refl s
  have h2 : s1.Lays s2 := s1.onStream_lays k _
  have h3 : s2.Lays s3 := by
    unfold s3
    split
    · exact s2.closeStripe_lays k
    · exact .refl s2
  exact ((h1.trans h2).trans h3).trans s3.checkStrike_lays

/-- The records of the journal, as they stand but for whether their page is written. -/
def LogSt.records (l : LogSt) : List (Nat × JRec × Bool) := l.journal.map fun j => (j.jpos, j.record, j.durable)

theorem State.Lays.journal {s t : State} (h : s.Lays t) : t.log.journal = s.log.journal := by
  have h1 : t.log.laid = s.log.laid := h
  have h2 := congrArg LogSt.journal h1
  exact h2

theorem State.fullPages_records (s : State) : s.fullPages.log.records = s.log.records := by
  unfold State.fullPages
  split
  · unfold State.writeJournalPage
    extract_lets l
    clear_value l
    split
    · rfl
    · next f r _ =>
      extract_lets last
      rw [LogSt.records, (State.placeSectors_lays _ _ _).journal]
      show ((s.log.journal.map _).map _) = _
      rw [List.map_map]
      refine List.map_congr_left fun j _ => ?_
      show (fun j : JSlot => (j.jpos, j.record, j.durable)) (if _ then _ else _) = _
      split <;> rfl
  · rfl

/-- Trimming a list to its end keeps what the filter keeps. -/
theorem mem_trim {α : Type} {l : List α} {a : α} {p : α → Bool} (n : Nat) (hp : p a = true) (h : a ∈ l) : a ∈ (l.take n).filter p ++ l.drop n := by
  rw [← List.take_append_drop n l, List.mem_append] at h
  rw [List.mem_append]
  exact h.imp_left fun h => List.mem_filter.2 ⟨h, hp⟩

theorem mem_ringTrim {l : List JSlot} {j : JSlot} (h : j ∈ l) (hd : j.durable = false) : j ∈ ringTrim l := by
  unfold ringTrim
  generalize l.length - 262144 = n
  exact mem_trim (p := fun j => !j.durable) n (by rw [hd]; rfl) h

theorem State.appendRec_journal (s : State) (r : JRec) :
    (s.appendRec r).log.journal = ringTrim (s.log.journal ++ [⟨s.log.jposNext, r, false, false⟩]) := by
  unfold State.appendRec
  extract_lets j s1
  split
  · split <;> rfl
  · rfl

/-- A record that is journalled stands in the journal. -/
theorem State.journal_mem (s : State) (r : JRec) : ∃ j ∈ (s.journal r).log.journal, j.record = r := by
  obtain ⟨l, hl, hin⟩ : ∃ l, (s.appendRec r).log.journal = l ∧ (⟨s.log.jposNext, r, false, false⟩ : JSlot) ∈ l :=
    ⟨_, s.appendRec_journal r, mem_ringTrim (List.mem_append_right _ (List.mem_singleton_self _)) rfl⟩
  have h1 : (s.journal r).log.records = l.map fun j => (j.jpos, j.record, j.durable) :=
    ((s.appendRec r).fullPages_records).trans (congrArg (List.map fun j : JSlot => (j.jpos, j.record, j.durable)) hl)
  have hrec : (s.log.jposNext, r, false) ∈ (s.journal r).log.records := h1 ▸ List.mem_map_of_mem hin
  obtain ⟨j, hj, he⟩ := List.mem_map.1 hrec
  exact ⟨j, hj, (Prod.mk.inj (Prod.mk.inj he).2).1⟩

end Sys2Proof.Machine
end

section
/-! PROOF. Placing writes and their mirror (chapters 4 and 15, O33). -/

namespace Sys2Proof.Machine

/-- What acknowledging and flushing leave of the commands: those that stay keep whether their mirror is lost. -/
def State.KeepsLost (s t : State) : Prop :=
  tabWf s.sched.cmds = true → tabWf t.sched.cmds = true ∧ ∀ n d, t.cmd n = some d → ∃ d0, s.cmd n = some d0 ∧ d.mirrorLost = d0.mirrorLost

theorem State.KeepsLost.refl (s : State) : s.KeepsLost s := fun h => ⟨h, fun _ d hd => ⟨d, hd, rfl⟩⟩

theorem State.KeepsLost.trans {s t u : State} (h : s.KeepsLost t) (h2 : t.KeepsLost u) : s.KeepsLost u := fun hwf => by
  obtain ⟨hwt, ht⟩ := h hwf
  obtain ⟨hwu, hu⟩ := h2 hwt
  refine ⟨hwu, fun n d hd => ?_⟩
  obtain ⟨d1, hd1, e1⟩ := hu n d hd
  obtain ⟨d0, hd0, e0⟩ := ht n d1 hd1
  exact ⟨d0, hd0, e1.trans e0⟩

theorem State.KeepsLost.foldl {α : Type} {f : State → α → State} (hf : ∀ (s : State) a, s.KeepsLost (f s a)) (l : List α) (s : State) : s.KeepsLost (l.foldl f s) := by
  induction l generalizing s with
  | nil => exact .refl s
  | cons a l ih => exact (hf s a).trans (ih _)

theorem State.KeepsLost.of_cmds {s t : State} (h : t.sched.cmds = s.sched.cmds) : s.KeepsLost t := fun hwf =>
  ⟨by rw [h]; exact hwf, fun n d hd => ⟨d, by rw [State.cmd, ← h]; exact hd, rfl⟩⟩

theorem State.onCmd_keepsLost (s : State) (ord : Nat) {g : Cmd → Cmd} (hg : ∀ c, (g c).mirrorLost = c.mirrorLost) : s.KeepsLost (s.onCmd ord g) := fun hwf => by
  refine ⟨tabWf_tabMod hwf _ _, fun n d hd => ?_⟩
  rw [State.cmd, show (s.onCmd ord g).sched.cmds = tabMod s.sched.cmds ord g from rfl, tabGet_tabMod] at hd
  split at hd
  · obtain ⟨d0, hd0, rfl⟩ := Option.map_eq_some_iff.1 hd
    exact ⟨d0, hd0, hg d0⟩
  · exact ⟨d, hd, rfl⟩

theorem State.dropCmd_keepsLost (s : State) (ord : Nat) : s.KeepsLost (s.dropCmd ord) := by
  unfold State.dropCmd
  split
  · exact .refl s
  · intro hwf
    refine ⟨tabWf_tabDel hwf _, fun n d hd => ⟨d, ?_, rfl⟩⟩
    have hd1 : tabGet (tabDel s.sched.cmds ord) n = some d := hd
    rw [tabGet_tabDel hwf] at hd1
    split at hd1
    · cases hd1
    · exact hd1

theorem State.finish_keepsLost (s : State) (ord sct sc : Nat) (dnr : Bool) (dw0 : Nat) : s.KeepsLost (s.finish ord sct sc dnr dw0) := by
  unfold State.finish
  split
  · exact .refl s
  · next c _ =>
    refine State.KeepsLost.trans (t := (s.countError (s.tenantOf c) sct sc).reply ord c sct sc dnr dw0) (.of_cmds ?_) (State.dropCmd_keepsLost _ _)
    rw [State.reply_sched, (State.countError_kept s _ sct sc).2.2.1]

theorem State.tryAck_keepsLost (s : State) (ord : Nat) : s.KeepsLost (s.tryAck ord) := by
  unfold State.tryAck
  split
  · exact .refl s
  · next c _ =>
    extract_lets ready
    split
    · have hnote : (s.noteAck c).sched = s.sched := by
        unfold State.noteAck
        split <;> rfl
      have hacked : (s.noteAck c).KeepsLost ((s.noteAck c).onCmd ord fun c => { c with acked := true }) := State.onCmd_keepsLost _ ord fun _ => rfl
      exact ((State.KeepsLost.of_cmds (congrArg Sched.cmds hnote)).trans hacked).trans (State.finish_keepsLost _ _ _ _ _ _)
    · exact .refl s

theorem State.tryFlush_keepsLost (s : State) (ord : Nat) : s.KeepsLost (s.tryFlush ord) := by
  unfold State.tryFlush
  split
  · exact .refl s
  · extract_lets tenant
    split
    · exact (State.KeepsLost.of_cmds (t := s.settle ord) rfl).trans (State.finish_keepsLost _ _ _ _ _ _)
    · exact .refl s

theorem State.tryAll_keepsLost (s : State) : s.KeepsLost s.tryAll :=
  .foldl (f := fun s o => (s.tryAck o).tryFlush o) (fun s o => (s.tryAck_keepsLost o).trans (State.tryFlush_keepsLost _ o)) _ s

/-- A write whose mirror comes too late: the pair is in SINGLE, and the write, unless it has ended, counts as one of SINGLE. -/
theorem State.mirrorLate_single {s : State} {ord : Nat} {c : Cmd} (hwf : tabWf s.sched.cmds = true) (hc : s.cmd ord = some c) :
    (s.mirrorLate ord).pair.st = .single ∧ ∀ d, (s.mirrorLate ord).cmd ord = some d → d.mirrorLost = true := by
  let s1 := s.onCmd ord fun c => { c with mirrorLost := true }
  let s2 := s1.setPair .single
  have hsched : s2.sched = s1.sched := State.mask_sched (P := but [.sched]) (by simp [s2]) rfl
  have hpair : s2.tryAll.pair = s2.pair := State.mask_pair (P := but [.pair]) (by simp) rfl
  refine ⟨?_, fun d hd => ?_⟩
  · show s2.tryAll.pair.st = _
    rw [hpair]
    exact s1.setPair_st .single
  · obtain ⟨-, hkept⟩ := s2.tryAll_keepsLost (by rw [hsched]; exact tabWf_tabMod hwf _ _)
    obtain ⟨d0, hd0, he⟩ := hkept ord d hd
    rw [State.cmd, hsched] at hd0
    have h1 := State.cmd_onCmd hc fun c => { c with mirrorLost := true }
    rw [State.cmd, hd0] at h1
    rw [he, Option.some.inj h1]

theorem State.cmd_onCmd_other (s : State) {ord n : Nat} (h : n ≠ ord) (g : Cmd → Cmd) : (s.onCmd ord g).cmd n = s.cmd n := by
  show tabGet (tabMod s.sched.cmds ord g) n = _
  rw [tabGet_tabMod, if_neg (Ne.symm h)]
  rfl

/-- A command that is not a placed write is not acknowledged. -/
theorem State.tryAck_unplaced {s : State} {ord : Nat} {c : Cmd} (hc : s.cmd ord = some c) (hk : c.kind = .write) (h : c.allPlaced = false) : s.tryAck ord = s := by
  simp [State.tryAck, hc, hk, h]

/-- Sectors that fit with a position to spare stand at the end of the open stripe, and no stripe closes. -/
theorem State.placeSectors_fit {s : State} {k : Nat} {o : OpenStripe} {secs : List BufSector} (hlen : s.log.streams.length = 64) (hk : k < 64)
    (ho : (s.stream k).stripe = some o) (hnext : o.next = []) (hfit : secs.length < s.freePos k) :
    ((s.placeSectors k secs).stream k).stripe = some ⟨o.sectors ++ secs, o.since, []⟩ ∧ ∀ j, j ≠ k → (s.placeSectors k secs).stream j = s.stream j := by
  let s2 := s.onStream k fun x => { x with stripe := some (takeInto (s.freePos k) s.now secs x.stripe) }
  have hstream (j : Nat) : s2.stream j = if k = j then { s.stream j with stripe := some (takeInto (s.freePos k) s.now secs (s.stream j).stripe) } else s.stream j :=
    nth_modNth_of_lt j _ _ (by rw [hlen]; exact hk)
  have hk2 : (s2.stream k).stripe = some ⟨o.sectors ++ secs, o.since, []⟩ := by
    rw [hstream, if_pos rfl, ho]
    simp [takeInto, hnext, Nat.le_of_lt hfit]
  have hfree : s.freePos k = s.stripeSectors - o.sectors.length := by rw [State.freePos, ho]
  have hss : s2.stripeSectors = s.stripeSectors := rfl
  have hfree2 : ¬ s2.freePos k = 0 := by
    rw [State.freePos, hk2, hss]
    show ¬ (s.stripeSectors - (o.sectors ++ secs).length = 0)
    rw [List.length_append]
    omega
  have hplace : s.placeSectors k secs = s2.checkStrike := by
    rw [State.placeSectors, if_neg (Nat.not_lt.2 (Nat.le_of_lt hfit))]
    exact congrArg State.checkStrike (if_neg hfree2)
  have hcheck (j : Nat) : (s2.checkStrike).stream j = s2.stream j := by
    have h1 : s2.checkStrike.log.streams = s2.log.streams := by
      unfold State.checkStrike
      extract_lets c
      split
      · rfl
      · have hlog : ((s2.onLog fun l => { l with strikeArmed := decide (c = 0) }).eventState 0x602 (b2n (decide (c = 0))) (b2n s2.log.strikeArmed) c 0).log
            = (s2.onLog fun l => { l with strikeArmed := decide (c = 0) }).log := State.mask_log (P := but [.log]) (by simp) rfl
        rw [hlog]
        rfl
    rw [State.stream, State.stream, h1]
  rw [hplace, hcheck]
  exact ⟨hk2, fun j hj => by rw [hcheck, hstream, if_neg (Ne.symm hj)]⟩

/-- The state in which a unit's sectors are placed and mirrored, and a Ledger write's record is journalled. -/
def State.unitPlaced (s : State) (ord unit : Nat) (c : Cmd) : State :=
  let pays := s.unitPayloads ord c unit
  let s1 := ((s.pastDeadline c.stream).placeSectors c.stream (pays.map fun p => ⟨p, none, false⟩)).mirrorOut c.stream pays
  match c.chain with
  | some ch => s1.journal ⟨7, 0, c.ns, ch, c.lba, c.lcount, ord⟩
  | none => s1

/-- The last thing a Ledger write's placing does is to journal its commit record. -/
theorem State.unitPlaced_chain (s : State) (ord unit : Nat) {c : Cmd} {ch : Nat} (hch : c.chain = some ch) :
    ∃ u : State, s.unitPlaced ord unit c = u.journal ⟨7, 0, c.ns, ch, c.lba, c.lcount, ord⟩ := by
  unfold State.unitPlaced
  rw [hch]
  exact ⟨_, rfl⟩

theorem State.unitPlaced_sched (s : State) (ord unit : Nat) (c : Cmd) : (s.unitPlaced ord unit c).sched = s.sched := by
  have hpast : (s.pastDeadline c.stream).sched = s.sched := State.mask_sched (P := but [.sched]) (by simp) rfl
  have hplace (u : State) (l : List BufSector) (m : List Payload) : ((u.placeSectors c.stream l).mirrorOut c.stream m).sched = u.sched :=
    State.mask_sched (P := but [.sched]) (by simp) rfl
  have hjournal (u : State) (r : JRec) : (u.journal r).sched = u.sched := State.mask_sched (P := but [.sched]) (by simp) rfl
  unfold State.unitPlaced
  extract_lets pays s1
  have h1 : s1.sched = s.sched := (hplace _ _ _).trans hpast
  split
  · rw [hjournal, h1]
  · exact h1

/-- What placing a whole unit does once its sectors are placed: the command has the unit placed and waits no longer; with units left that is all. -/
theorem exec_writePlace_placed {s : State} {ord unit : Nat} {c : Cmd} (hc : s.cmd ord = some c) (hk : c.kind = .write) (hph : c.phase = .running)
    (hunit : c.units[unit]? = some .whole) (hpair : s.pair.st ≠ .lapsed) (hstrike : s.log.strike = .idle) (hhold : s.holder = true)
    (hroom : s.roomFor c.stream (unitLen c.len unit) = true) (hbudget : s.dirty + unitLen c.len unit ≤ s.dirtyBudget) :
    ∃ t : State, exec (.writePlace ord unit) s = .next t ∧
      (({ c with units := putNth c.units unit .placed }).allPlaced = false → t.log.streams = (s.unitPlaced ord unit c).log.streams ∧
        t.cmd ord = some { c with units := putNth c.units unit .placed, placedAt := s.now + 1, fetched := c.fetched.filter fun e => e.1 / 128 ≠ unit } ∧ ord ∉ t.log.waiting) ∧
      t.log.journal = (s.unitPlaced ord unit c).log.journal := by
  let c1 : Cmd := { c with units := putNth c.units unit .placed, fetched := c.fetched.filter fun e => e.1 / 128 != unit, placedAt := s.now + 1 }
  let s3 := (s.unitPlaced ord unit c).onCmd ord fun c =>
    { c with
      units := putNth c.units unit .placed
      fetched := c.fetched.filter fun e => e.1 / 128 != unit
      placedAt := s.now + 1 }
  obtain ⟨s4, hs4, hlog4, hsched4⟩ : ∃ s4 : State, (match c.src with
      | .qp q _ => s3.onCell q fun x => { x with stagingUsed := x.stagingUsed - unitLen c.len unit }
      | _ => s3) = s4 ∧ s4.log = s3.log ∧ s4.sched = s3.sched := by
    refine ⟨_, rfl, ?_, ?_⟩
    · split <;> rfl
    · split <;> rfl
  let s5 := s4.onLog fun l => { l with waiting := l.waiting.filter (· != ord) }
  have hc5 : s5.cmd ord = some c1 := by
    show s4.cmd ord = _
    rw [State.cmd, hsched4]
    exact State.cmd_onCmd (s := s.unitPlaced ord unit c) (by rw [State.cmd, State.unitPlaced_sched]; exact hc) _
  have hno : ¬ (c.kind ≠ .write ∨ c.phase ≠ .running ∨ c.units[unit]? ≠ some .whole ∨ s.pair.st = .lapsed ∨ s.log.strike ≠ .idle ∨ (!s.holder) = true) := by
    simp [hk, hph, hunit, hpair, hstrike, hhold]
  have hb : ¬ s.dirtyBudget < s.dirty + unitLen c.len unit := Nat.not_lt.2 hbudget
  have hex : exec (.writePlace ord unit) s = .next (match s5.cmd ord with
      | some c1 => if c1.allPlaced then (s5.settle ord).tryAck ord else s5
      | none => s5) := by
    simp only [exec, execWritePlace, hc, if_neg hno, hroom, Bool.not_true, Bool.false_eq_true, if_false, if_neg hb, s5, ← hs4]
    rfl
  have hfetched : c.fetched.filter (fun e => e.1 / 128 != unit) = c.fetched.filter fun e => e.1 / 128 ≠ unit :=
    List.filter_congr fun e _ => by by_cases h : e.1 / 128 = unit <;> simp [h]
  rw [hc5] at hex
  dsimp only at hex
  refine ⟨_, hex, fun hall => ?_, ?_⟩
  · have hall1 : ¬ c1.allPlaced = true := by
      rw [show c1.allPlaced = _ from hall]
      decide
    rw [if_neg hall1]
    refine ⟨?_, ?_, ?_⟩
    · show s4.log.streams = _
      rw [hlog4]
      rfl
    · rw [hc5, ← hfetched]
    · show ord ∉ s4.log.waiting.filter (· != ord)
      simp
  · have hj5 : s5.log.journal = (s.unitPlaced ord unit c).log.journal := by
      show s4.log.journal = _
      rw [hlog4]
      rfl
    split
    · rw [State.tryAck_journal]
      exact hj5
    · exact hj5

/-- A placed write that may be acknowledged is: it ends with success. -/
theorem State.tryAck_placed {s : State} {ord : Nat} {c : Cmd} (hc : s.cmd ord = some c) (hk : c.kind = .write) (hall : c.allPlaced = true) (hack : c.acked = false)
    (hp : s.pair.st ≠ .lapsed) (hmay : s.mayAck ord c = true) :
    s.tryAck ord = ((s.noteAck c).onCmd ord fun c => { c with acked := true }).finishOk ord := by
  have hp1 : (s.pair.st != .lapsed) = true := by simp [hp]
  simp only [State.tryAck, hc, hk, hall, hack, hp1, hmay, Bool.not_false, Bool.and_self, if_true]

/-- Settles O33: the stripe a unit goes to, and the confirmations of its mirror. -/
theorem placingAndMirroring : Obligations.PlacingAndMirroring := by
  intro ord s hwf hstreams
  refine ⟨fun c unit hc => And.intro (fun hk hph hunit hpair hstrike hhold hroom => ⟨fun hbudget hnc hlt hall o ho hnext hdue hfree => ?_, fun hbudget ch hch => ?_,
      fun hbudget => ?_⟩) (fun hno => ?_),
    fun c hc => ⟨fun hlost hall hk => ?_, fun hlost hall hk hack hpair hstrike harm hl hdue => ?_, fun hlost hall hm hpair hdue => ?_, fun hlost => ?_,
      fun hall hm hlost hpair hdue => ?_, fun hno => ?_⟩, fun k p => ⟨fun hst => ?_, fun h1 h2 => ?_⟩⟩
  · have hpast : s.pastDeadline c.stream = s := by
      rw [State.pastDeadline, ho]
      exact if_neg (Nat.not_lt.2 hdue)
    have hlen : (s.unitPayloads ord c unit).length = unitLen c.len unit := by simp [State.unitPayloads]
    let secs : List BufSector := (s.unitPayloads ord c unit).map fun p => ⟨p, none, false⟩
    obtain ⟨p1, p2⟩ := State.placeSectors_fit (secs := secs) hstreams hlt ho hnext (by rw [List.length_map, hlen]; exact hfree)
    have hlog : (s.unitPlaced ord unit c).log = (s.placeSectors c.stream secs).log := by
      have hmirror (u : State) (m : List Payload) : (u.mirrorOut c.stream m).log = u.log := State.mask_log (P := but [.log]) (by simp) rfl
      rw [State.unitPlaced, hpast, hnc]
      exact hmirror _ _
    obtain ⟨t, hex, ht, -⟩ := exec_writePlace_placed hc hk hph hunit hpair hstrike hhold hroom hbudget
    obtain ⟨h1, h2, h3⟩ := ht hall
    have hst (j : Nat) : t.stream j = (s.placeSectors c.stream secs).stream j := by
      rw [State.stream, State.stream, h1, hlog]
    refine ⟨t, hex, ?_, fun j hj => ?_, h2, h3⟩
    · rw [hst]
      exact p1
    · rw [hst]
      exact p2 j hj
  · obtain ⟨t, hex, -, hj⟩ := exec_writePlace_placed hc hk hph hunit hpair hstrike hhold hroom hbudget
    refine ⟨t, hex, ?_⟩
    obtain ⟨u, hu⟩ := s.unitPlaced_chain ord unit hch
    obtain ⟨j, hin, hrec⟩ := State.journal_mem u ⟨7, 0, c.ns, ch, c.lba, c.lcount, ord⟩
    exact ⟨j, by rw [hj, hu]; exact hin, hrec⟩
  · have hno : ¬ (c.kind ≠ .write ∨ c.phase ≠ .running ∨ c.units[unit]? ≠ some .whole ∨ s.pair.st = .lapsed ∨ s.log.strike ≠ .idle ∨ (!s.holder) = true) := by
      simp [hk, hph, hunit, hpair, hstrike, hhold]
    have hroom2 : ¬ (!s.roomFor c.stream (unitLen c.len unit)) = true := by
      rw [show s.roomFor c.stream (unitLen c.len unit) = true from hroom]
      decide
    have hb : s.dirtyBudget < s.dirty + unitLen c.len unit := hbudget
    by_cases hin : s.log.waiting.contains ord = true
    · refine ⟨s, ?_, by simpa using hin, hc, rfl⟩
      simp only [exec, execWritePlace, hc, if_neg hno, if_neg hroom2, if_pos hb, if_pos hin]
    · let s1 := s.onLog fun l => { l with waiting := l.waiting ++ [ord] }
      have hlog : (s1.event 0x603 8 c.stream 0).log = s1.log := State.mask_log (P := but [.log]) (by simp) rfl
      have hsched : (s1.event 0x603 8 c.stream 0).sched = s1.sched := State.mask_sched (P := but [.sched]) (by simp) rfl
      refine ⟨s1.event 0x603 8 c.stream 0, ?_, ?_, ?_, ?_⟩
      · simp only [exec, execWritePlace, hc, if_neg hno, if_neg hroom2, if_pos hb, if_neg hin]
        rfl
      · rw [hlog]
        exact List.mem_append_right _ (List.mem_singleton_self _)
      · rw [State.cmd, hsched]
        exact hc
      · rw [hlog]
        rfl
  · simp only [exec, execWritePlace, hc]
    refine congrArg Host.Outcome.next (if_pos ?_)
    rcases hno with hno | hno
    · exact .inr (.inr (.inr (.inl hno)))
    · exact .inr (.inr (.inr (.inr (.inl hno))))
  · have hex : exec (.mirrorConfirm ord) s = .next ((s.onCmd ord fun c => { c with mirrored := true }).tryAck ord) := by
      simp [exec, execMirrorConfirm, hc, hlost, State.mirrorWaits, hall]
    have h1 := State.cmd_onCmd hc fun c => { c with mirrored := true }
    refine ⟨_, hex, ?_, fun n hn => ?_⟩
    · rw [State.tryAck_unplaced h1 hk hall]
      exact h1
    · rw [State.tryAck_unplaced h1 hk hall]
      exact s.cmd_onCmd_other hn _
  · let s1 := s.onCmd ord fun c => { c with mirrored := true }
    have hex : exec (.mirrorConfirm ord) s = .next (s1.tryAck ord) := by
      have hno : ¬ c.placedAt + us 100 ≤ s.now := Nat.not_le.2 hdue
      simp only [exec, execMirrorConfirm, hc, hlost, decide_eq_false hno, Bool.and_false, Bool.false_eq_true, if_false]
      rfl
    have h1 : s1.cmd ord = some { c with mirrored := true } := State.cmd_onCmd hc _
    have hheld : s1.mirrorHeld { c with mirrored := true } = true := by
      have hp : s1.pair.st = .active ∧ (!({ c with mirrored := true } : Cmd).mirrorLost) = true := ⟨hpair, by simp [hlost]⟩
      rw [State.mirrorHeld, if_pos hp]
    have hmay : s1.mayAck ord { c with mirrored := true } = true := by
      have ha : s1.log.strikeArmed = true := harm
      have hs : s1.log.strike = .idle := hstrike
      simp [State.mayAck, hheld, ha, hs]
    have hack1 := State.tryAck_placed (s := s1) h1 hk hall hack (by rw [show s1.pair.st = _ from hpair]; decide) hmay
    have hnote : ((s1.noteAck { c with mirrored := true }).rdma = s1.rdma ∧ (s1.noteAck { c with mirrored := true }).mgmt = s1.mgmt)
        ∧ (s1.noteAck { c with mirrored := true }).sched = s1.sched := by
      unfold State.noteAck
      split <;> exact ⟨⟨rfl, rfl⟩, rfl⟩
    have h2 := State.cmd_onCmd (s := s1.noteAck { c with mirrored := true }) (ord := ord) (c := { c with mirrored := true })
      (by rw [State.cmd, hnote.2]; exact h1) fun c => { c with acked := true }
    refine ⟨_, hex, ?_⟩
    rw [hack1]
    exact State.finish_ends (tabWf_tabMod (by rw [hnote.2]; exact tabWf_tabMod hwf _ _) _ _) h2
      (State.listening_of (s := s) (c := c) hnote.1.1 hnote.1.2 rfl hl) 0 0 false 0
  · have hex : exec (.mirrorConfirm ord) s = .next ((s.mirrorLate ord).countLate 0x312) := by
      simp [exec, execMirrorConfirm, hc, hlost, State.mirrorWaits, hall, hm, hpair, hdue]
    exact ⟨_, hex, State.mirrorLate_single hwf hc⟩
  · simp [exec, execMirrorConfirm, hc, hlost]
  · have hex : exec (.mirrorTimeout ord) s = .next (s.mirrorLate ord) := by
      simp [exec, execMirrorTimeout, hc, hlost, State.mirrorWaits, hall, hm, hpair, hdue]
    exact ⟨_, hex, State.mirrorLate_single hwf hc⟩
  · have hnot : ¬ ((s.mirrorWaits c && decide (c.placedAt + us 100 ≤ s.now + 1)) = true) := by
      rcases hno with hno | hno
      · have h1 : ¬ c.placedAt + us 100 ≤ s.now + 1 := Nat.not_le.2 hno
        simp [h1]
      · simp [State.mirrorWaits, hno]
    simp only [exec, execMirrorTimeout, hc]
    exact congrArg Host.Outcome.next (if_neg hnot)
  · refine ⟨(s.onLog fun l => { l with mirrorBuf := l.mirrorBuf ++ [((k : Nat), p)] }).emit (.mirrorAck (mdLba p) (mdNs p)), ?_, rfl, rfl⟩
    simp only [exec, execMirrorDataRx, if_pos hst]
  · have hno : ¬ (s.pair.st = .standby ∨ s.pair.st = .joining) := fun h => h.elim h1 h2
    simp only [exec, execMirrorDataRx, if_neg hno]

end Sys2Proof.Machine
end

section
/-! SUPPORT. A mailbox command whose turn it is: its GO is taken, the checks of Table 18.6 pass, and it starts (chapter 18). -/

namespace Sys2Proof.Machine

/-! ### The first offset found wrong -/

/-- Nothing is found wrong where every check finds nothing. -/
theorem firstOff_none {l : List (Option Nat)} (h : ∀ x ∈ l, x = none) : firstOff l = none := by
  induction l with
  | nil => rfl
  | cons x l ih =>
    obtain rfl := h x (List.mem_cons_self)
    exact ih fun y hy => h y (List.mem_cons_of_mem _ hy)

theorem badAbove_none {top v : Nat} (h : v ≤ top) (off : Nat) : badAbove top v off = none := if_neg (Nat.not_lt.2 h)

/-! ### A command taken -/

/-- The state in which a command starts: its GO taken, its mailbox running it. -/
def State.begun (s : State) (m : Nat) (sp : MbxSpec) : State := (s.takeGo m sp.key).onMbx m fun b => { b with wait := .running sp.op }

/-- What `turn` says of the mailboxes. -/
theorem State.turn_iff {s : State} {h : MbxHdr} : s.turn h = true ↔
    (s.mailboxesUp = true ∧ s.mgmt.mbx.length = 64 ∧ (s.mbx h.mbx.val).st = .busy ∧ (s.mbx h.mbx.val).wait = .free ∧ (s.mbx h.mbx.val).takenSeq = 0)
      ∧ ∀ n < 64, n ≠ h.mbx.val → (s.mbx n).st ≠ .busy ∧ (s.mbx n).wait = .free := by
  simp only [State.turn, Bool.and_eq_true, beq_iff_eq, List.all_eq_true, List.mem_range, Bool.or_eq_true, bne_iff_ne, ne_eq, and_assoc]
  refine ⟨fun ⟨h1, h2, h3, h4, h5, h6⟩ => ⟨h1, h2, h3, h4, h5, fun n hn hne => (h6 n hn).resolve_left hne⟩, fun ⟨h1, h2, h3, h4, h5, h6⟩ =>
    ⟨h1, h2, h3, h4, h5, fun n hn => or_iff_not_imp_left.2 (h6 n hn)⟩⟩

section turn
variable {s : State} {h : MbxHdr} (ht : s.turn h = true)
include ht

theorem State.turn_length : s.mgmt.mbx.length = 64 := (State.turn_iff.1 ht).1.2.1

/-- The one pending GO is the next to be taken. -/
theorem State.turn_nextGo : s.nextGo = some h.mbx.val := by
  obtain ⟨⟨-, -, hb, hw, hq⟩, hoth⟩ := State.turn_iff.1 ht
  have honly (n : Nat) (hn : n < 64) : s.goPending n = decide (n = h.mbx.val) := by
    by_cases he : n = h.mbx.val
    · simp [State.goPending, he, hb, hw, hq]
    · simp [State.goPending, he, (hoth n hn he).1]
  have hin : h.mbx.val ∈ (List.range 64).map fun k => (s.clk.frame + k) % 64 :=
    List.mem_map.2 ⟨(h.mbx.val + 64 - s.clk.frame % 64) % 64, List.mem_range.2 (Nat.mod_lt _ (by decide)), by omega⟩
  obtain ⟨n, hn⟩ := Option.isSome_iff_exists.1 (List.find?_isSome.2 ⟨_, hin, (honly _ h.mbx.isLt).trans (decide_eq_true rfl)⟩)
  have hlt : n < 64 := by
    obtain ⟨k, -, rfl⟩ := List.mem_map.1 (List.mem_of_find?_eq_some hn)
    exact Nat.mod_lt _ (by decide)
  have he : n = h.mbx.val := of_decide_eq_true ((honly n hlt).symm.trans (List.find?_some hn))
  rw [State.nextGo, hn, he]

/-- Nothing that runs excludes the command. -/
theorem State.turn_busyWith {t : State} (hk : ∀ n < 64, n ≠ h.mbx.val → (t.mbx n).wait = (s.mbx n).wait) (op : Nat) : t.busyWith h.mbx.val op = none := by
  obtain ⟨-, hoth⟩ := State.turn_iff.1 ht
  refine List.findSome?_eq_none_iff.2 fun n hn => ?_
  rw [List.mem_range] at hn
  by_cases he : n = h.mbx.val
  · exact if_pos he
  · rw [if_neg he, State.runningOp, hk n hn he, (hoth n hn he).2]

theorem State.takeGo_mbx (key : Option Nat) (n : Nat) :
    (s.takeGo h.mbx.val key).mbx n = if h.mbx.val = n then { s.mbx n with takenSeq := s.mgmt.taken + 1, bay := key } else s.mbx n :=
  State.mbx_onMbx (s := s.onMgmt fun g => { g with taken := s.mgmt.taken + 1 })
    (by rw [show (s.onMgmt fun g => { g with taken := s.mgmt.taken + 1 }).mgmt.mbx = s.mgmt.mbx from rfl, State.turn_length ht]; exact h.mbx.isLt) _ n

/-- The command's mailbox runs it, and no other is changed. -/
theorem State.begun_mbx (sp : MbxSpec) (n : Nat) : (s.begun h.mbx.val sp).mbx n =
    if h.mbx.val = n then { s.mbx n with takenSeq := s.mgmt.taken + 1, bay := sp.key, wait := .running sp.op } else s.mbx n := by
  have hlen : h.mbx.val < (s.takeGo h.mbx.val sp.key).mgmt.mbx.length := by
    show _ < (modNth s.mgmt.mbx _ _).length
    rw [modNth_length, State.turn_length ht]
    exact h.mbx.isLt
  rw [State.begun, State.mbx_onMbx hlen, State.takeGo_mbx ht]
  split <;> rfl

theorem State.begun_wait (sp : MbxSpec) : ((s.begun h.mbx.val sp).mbx h.mbx.val).wait = .running sp.op := by
  rw [State.begun_mbx ht, if_pos rfl]

theorem State.begun_length (sp : MbxSpec) : (s.begun h.mbx.val sp).mgmt.mbx.length = 64 := by
  show (modNth (modNth s.mgmt.mbx _ _) _ _).length = _
  rw [modNth_length, modNth_length, State.turn_length ht]

/-- Nothing holds what the command names. -/
theorem State.turn_mbxWaits (key : Option Nat) : (s.takeGo h.mbx.val key).mbxWaits h.mbx.val = false := by
  obtain ⟨-, hoth⟩ := State.turn_iff.1 ht
  refine Bool.and_eq_false_iff.2 (.inr (List.any_eq_false.2 fun n hn => ?_))
  rw [List.mem_range] at hn
  by_cases he : n = h.mbx.val
  · simp [he]
  · have h1 : (s.takeGo h.mbx.val key).mbx n = s.mbx n := by rw [State.takeGo_mbx ht, if_neg (Ne.symm he)]
    simp [h1, (hoth n hn he).1]

end turn

/-- The checks of Table 18.6 that a command's own row and parameters decide all pass. -/
structure MbxSpec.Passes (sp : MbxSpec) (s : State) (h : MbxHdr) : Prop where
  bad : sp.bad = none := by rfl
  state : sp.states.contains s.fn.st = true
  holder : sp.holder = true → s.holder = true := by exact nofun
  sig : sp.sig = 0 := by rfl
  place : (h.mbx.val < 48 ∨ 55 < h.mbx.val) ∨ [0x0204, 0x0506, 0x0507].contains sp.op = false := by exact .inr rfl

theorem MbxSpec.field_plain {sp : MbxSpec} {h : MbxHdr} (hp : hdrPlain h = true) (hbad : sp.bad = none) (hout : sp.out = none) : sp.field h = none := by
  simp only [hdrPlain, Bool.and_eq_true, beq_iff_eq, Option.isNone_iff_eq_none, Bool.not_eq_true'] at hp
  obtain ⟨⟨⟨⟨hplen, hres⟩, hptr⟩, hlen⟩, hlist⟩ := hp
  simp [MbxSpec.field, hbad, hout, hplen, hres, hptr, hlen, hlist, firstOff]

section turn
variable {s : State} {h : MbxHdr} {sp : MbxSpec} (ht : s.turn h = true)
include ht

/-- The checks of a passing command find nothing, once its fields do not. -/
theorem State.mbxCheck_turn (hlen : 48 ≤ h.mbx.val → h.dlen = 0) (hfield : sp.field h = none) (hpass : sp.Passes s h) :
    (s.takeGo h.mbx.val sp.key).mbxCheck h sp = none := by
  obtain ⟨-, hstate, hhold, hsig, hplace⟩ := hpass
  have hbusy := State.turn_busyWith ht (t := s.takeGo h.mbx.val sp.key) (fun n _ hne => by rw [State.takeGo_mbx ht, if_neg (Ne.symm hne)]) sp.op
  have h1 : ¬ ((48 ≤ h.mbx.val ∧ h.dlen ≠ 0) ∨ (48 ≤ h.mbx.val ∧ h.mbx.val ≤ 55 ∧ [0x0204, 0x0506, 0x0507].contains sp.op = true)) := by
    rintro (⟨ha, hb⟩ | ⟨ha, hb, hc⟩)
    · exact hb (hlen ha)
    · rcases hplace with hplace | hplace
      · omega
      · rw [hplace] at hc
        exact Bool.noConfusion hc
  have h2 : ¬ (sp.holder = true ∧ (!(s.takeGo h.mbx.val sp.key).holder) = true) := by
    rintro ⟨ha, hb⟩
    have h3 : (s.takeGo h.mbx.val sp.key).holder = true := hhold ha
    rw [h3] at hb
    exact Bool.noConfusion hb
  have h3 : sp.states.contains (s.takeGo h.mbx.val sp.key).fn.st = true := hstate
  rw [State.mbxCheck, if_neg h1, hfield, hbusy]
  simp only [if_neg h2, h3, hsig, Bool.not_true, Bool.false_eq_true, if_false, ne_eq, not_true]

/-- A passing command with no bulk transfer starts. -/
theorem State.mbxRun_turn (hp : hdrPlain h = true) (hpass : sp.Passes s h) (hout : sp.out = none := by rfl) (start again : State → State) :
    s.mbxRun h sp start again = start (s.begun h.mbx.val sp) := by
  obtain ⟨⟨hup, -, hb, hw, hq⟩, -⟩ := State.turn_iff.1 ht
  have hlen : h.dlen = 0 := by
    simp only [hdrPlain, Bool.and_eq_true, beq_iff_eq] at hp
    exact hp.1.2
  have hcheck := State.mbxCheck_turn ht (fun _ => hlen) (MbxSpec.field_plain hp hpass.bad hout) hpass
  simp [State.mbxRun, hup, hb, hw, hq, State.turn_nextGo ht, State.turn_mbxWaits ht, hcheck, MbxSpec.fetches, hlen, hout, State.begun]

/-- A passing command that moves bulk data out, with room for it in one piece and with bus access, starts. -/
theorem State.mbxRun_turn_out {n : Nat} (hroom : hdrRoom h n = true) (hout : sp.out = some n) (hm : s.master = true) (hin : sp.dataIn = false)
    (hpass : sp.Passes s h) (start again : State → State) : s.mbxRun h sp start again = start (s.begun h.mbx.val sp) := by
  obtain ⟨⟨hup, -, hb, hw, hq⟩, -⟩ := State.turn_iff.1 ht
  simp only [hdrRoom, Bool.and_eq_true, Option.isNone_iff_eq_none, decide_eq_true_eq, Bool.not_eq_true'] at hroom
  obtain ⟨⟨⟨⟨hplen, hres⟩, hlen, hn, hmax⟩, hlist⟩, hmbx⟩ := hroom
  have hfield : sp.field h = none := by
    have h1 : ¬ 2 ^ 28 < h.dlen := Nat.not_lt.2 hmax
    have h2 : h.dlen ≠ 0 := Nat.ne_of_gt hlen
    have h3 : ¬ h.dlen < n := Nat.not_lt.2 hn
    simp only [MbxSpec.field, hplen, hres, hpass.bad, if_neg h1, hout, hlist, h2]
    simp [firstOff, h3]
  have hcheck := State.mbxCheck_turn ht (fun h48 => absurd hmbx (Nat.not_lt.2 h48)) hfield hpass
  have hm1 : (s.takeGo h.mbx.val sp.key).master = true := hm
  have hm2 : (s.begun h.mbx.val sp).master = true := hm
  simp [State.mbxRun, hup, hb, hw, hq, State.turn_nextGo ht, State.turn_mbxWaits ht, hcheck, MbxSpec.fetches, hlist, hout, hin, hm, State.begun]

end turn

/-- The state in which a command whose bulk data has come goes on. -/
def State.dataCame (s : State) (m : Nat) : State := s.onMbx m fun b => { b with fetching := false }

/-- A command starts once its data has come. -/
theorem State.mbxRun_fetched {s : State} {h : MbxHdr} {sp : MbxSpec} (hf : s.fetched h sp.op = true) (start again : State → State) :
    s.mbxRun h sp start again = start (s.dataCame h.mbx.val) := by
  simp only [State.fetched, Bool.and_eq_true, beq_iff_eq, Bool.not_eq_true'] at hf
  obtain ⟨⟨⟨⟨⟨⟨⟨hup, -⟩, hb⟩, hw⟩, hfe⟩, hhold⟩, hreq⟩, hdma⟩ := hf
  simp [State.mbxRun, hup, hb, hw, hfe, hhold, hreq, hdma, bulkFailed, State.dataCame]

theorem State.dataCame_wait {s : State} {h : MbxHdr} {op : Nat} (hf : s.fetched h op = true) :
    h.mbx.val < (s.dataCame h.mbx.val).mgmt.mbx.length ∧ ((s.dataCame h.mbx.val).mbx h.mbx.val).wait = .running op := by
  simp only [State.fetched, Bool.and_eq_true, beq_iff_eq, Bool.not_eq_true'] at hf
  obtain ⟨⟨⟨⟨⟨⟨⟨-, hlen⟩, -⟩, hw⟩, -⟩, -⟩, -⟩, -⟩ := hf
  have hlt : h.mbx.val < s.mgmt.mbx.length := by
    rw [hlen]
    exact h.mbx.isLt
  refine ⟨?_, ?_⟩
  · show _ < (modNth s.mgmt.mbx _ _).length
    rw [modNth_length]
    exact hlt
  · rw [State.dataCame, State.mbx_onMbx hlt, if_pos rfl]
    exact hw


end Sys2Proof.Machine
end

section
/-! PROOF. Live changes and settings through the mailboxes (O56). -/

namespace Sys2Proof.Machine

/-- The state is one of R430's wherever the function is not fenced. -/
theorem stR430_of_not_fenced {x : FnState} (h : x ≠ .fenced) : stR430.contains x = true := by
  revert h
  cases x <;> decide

theorem stSAR_of {x : FnState} (h : x = .stopped ∨ x = .armed ∨ x = .running) : stSAR.contains x = true := by
  rcases h with rfl | rfl | rfl <;> rfl

theorem State.badSetting_none {s : State} {i v : Nat} (h : s.badSetting i v 0 = none) (off : Nat) : s.badSetting i v off = none := by
  unfold State.badSetting at h ⊢
  simp only [ite_eq_right_iff, reduceCtorEq, imp_false] at h
  exact if_neg h

section live
variable {s : State} {h : MbxHdr} (ht : s.turn h = true) (hp : hdrPlain h = true)
include ht hp

/-- A live change of R430 that passes its checks is queued for the next frame boundary. -/
theorem live_queued {i : Instr} {sp : MbxSpec} {again : State → State} {c : LiveChange} {start : State → State}
    (hi : exec i s = .next (s.mbxRun h sp start again)) (hpass : sp.Passes s h) (hstart : start (s.begun h.mbx.val sp) = (s.begun h.mbx.val sp).live h.mbx.val true c)
    (hout : sp.out = none := by rfl) :
    Completes i s fun t => t.runs h sp.op ∧ t.fn = { s.fn with changes := s.fn.changes ++ [(h.mbx.val, c)] } := by
  rw [State.mbxRun_turn ht hp hpass hout, hstart, State.live, if_neg (by simp)] at hi
  exact ⟨_, hi, State.begun_wait ht sp, rfl⟩

/-- A command that starts by answering has replied. -/
theorem answer_replied {i : Instr} {sp : MbxSpec} {again start : State → State} {r : Resp}
    (hi : exec i s = .next (s.mbxRun h sp start again)) (hpass : sp.Passes s h) (hstart : start (s.begun h.mbx.val sp) = (s.begun h.mbx.val sp).answer h.mbx.val r)
    (hout : sp.out = none := by rfl) :
    Completes i s fun t => (t.mbx h.mbx.val).wait = .answer { r with opcode := sp.op } ∧ t.fn = s.fn := by
  rw [State.mbxRun_turn ht hp hpass hout, hstart] at hi
  have hfn (u : State) : (u.answer h.mbx.val r).fn = u.fn := rfl
  refine ⟨_, hi, State.mbx_answer ?_ (State.begun_wait ht sp) r, (hfn _).trans rfl⟩
  rw [State.begun_length ht]
  exact h.mbx.isLt

end live

/-- A conflict is answered with status 0xA. -/
theorem conflict_replied {s : State} {h : MbxHdr} (ht : s.turn h = true) (hp : hdrPlain h = true) {i : Instr} {sp : MbxSpec} {again start : State → State}
    (hi : exec i s = .next (s.mbxRun h sp start again)) (hpass : sp.Passes s h) (hstart : start (s.begun h.mbx.val sp) = (s.begun h.mbx.val sp).mbxFail h.mbx.val 0xA 0)
    (hout : sp.out = none := by rfl) : Completes i s fun t => t.replied h sp.op 0xA 0 [] ∧ t.fn = s.fn :=
  answer_replied ht hp hi hpass hstart hout

/-! ### The settings of section 0x000D -/

/-- What queueing a list of settings appends: all for no mailbox but the last. -/
def settingChanges (m : Nat) (l : List (Nat × Nat)) : List (Nat × LiveChange) :=
  (l.dropLast.map fun e => (64, .setting e.1 e.2)) ++ (l.drop (l.length - 1)).map fun e => (m, .setting e.1 e.2)

/-- The changes a list of settings stands for. -/
def settingList (l : List (Nat × Nat)) : List LiveChange := l.map fun e => .setting e.1 e.2

/-- There is no mailbox 64. -/
theorem State.answer_none {s : State} (h : s.mgmt.mbx.length = 64) (r : Resp) : s.answer 64 r = s := by
  have hd : nth s.mgmt.mbx 64 Mbx.reset = Mbx.reset := List.getD_eq_default _ _ h.le
  have hmbx : (s.answer 64 r).mgmt.mbx = s.mgmt.mbx := modNth_of_fix _ _ _ Mbx.reset (by rw [hd]; rfl)
  show { s with mgmt := { s.mgmt with mbx := (s.answer 64 r).mgmt.mbx } } = s
  rw [hmbx]

theorem nth_concat {α : Type} (l : List α) (x d : α) : nth (l ++ [x]) l.length d = x := by simp [nth]

theorem nth_append_lt {α : Type} {l : List α} {k : Nat} (h : k < l.length) (r : List α) (d : α) : nth (l ++ r) k d = nth l k d :=
  List.getD_append _ _ _ _ h

/-- A list of settings, split at its last, as the mailbox command runs through it. -/
theorem State.liveSettings_concat (s : State) (m : Nat) (l : List (Nat × Nat)) (x : Nat × Nat) : s.liveSettings m (l ++ [x]) =
    (l.foldl (fun (s : State) e => s.live 64 false (.setting e.1 e.2)) s).live m false (.setting x.1 x.2) := by
  have hrange : (List.range l.length).map (fun k => nth l k (0, 0)) = l := by
    refine List.ext_getElem (by simp) fun i h1 h2 => ?_
    simp [nth, h2]
  have hinit (u : State) : (List.range l.length).foldl (fun (s : State) k =>
      s.live (if k = l.length then m else 64) false (.setting (nth (l ++ [x]) k (0, 0)).1 (nth (l ++ [x]) k (0, 0)).2)) u =
        l.foldl (fun (s : State) e => s.live 64 false (.setting e.1 e.2)) u := by
    conv_rhs => rw [← hrange]
    rw [List.foldl_map]
    refine List.foldl_ext _ _ _ fun a k hk => ?_
    have hlt := List.mem_range.1 hk
    rw [if_neg (Nat.ne_of_lt hlt), nth_append_lt hlt]
  rw [State.liveSettings, List.length_append, List.length_singleton, Nat.add_sub_cancel, List.range_succ, List.foldl_append]
  exact (congrArg (fun u : State => List.foldl _ u [l.length]) (hinit s)).trans (by
    simp only [List.foldl_cons, List.foldl_nil, if_true, nth_concat])

/-- The state with changes kept for FN.ARM. -/
def State.keeping (s : State) (l : List LiveChange) : State := s.onFn fun f => { f with kept := f.kept ++ l }

/-- The state with changes queued for the next frame boundary. -/
def State.queueing (s : State) (l : List (Nat × LiveChange)) : State := s.onFn fun f => { f with changes := f.changes ++ l }

/-- The settings of no mailbox: queued, or kept while STOPPED. -/
theorem State.foldl_live (l : List (Nat × Nat)) (s : State) (hlen : s.mgmt.mbx.length = 64) :
    l.foldl (fun (s : State) e => s.live 64 false (.setting e.1 e.2)) s =
      if s.fn.st = .stopped then s.keeping (settingList l) else s.queueing (l.map fun e => (64, .setting e.1 e.2)) := by
  induction l generalizing s with
  | nil => simp [settingList, State.keeping, State.queueing, State.onFn]
  | cons e l ih =>
    by_cases hst : s.fn.st = .stopped
    · have h1 : s.live 64 false (.setting e.1 e.2) = s.keeping [.setting e.1 e.2] := by
        rw [State.live, if_pos (by simp [hst])]
        exact State.answer_none (s := s.keeping [.setting e.1 e.2]) hlen _
      rw [List.foldl_cons, h1, ih (s.keeping _) hlen, if_pos (show (s.keeping _).fn.st = _ from hst), if_pos hst]
      simp [State.keeping, State.onFn, settingList]
    · have h1 : s.live 64 false (.setting e.1 e.2) = s.queueing [(64, .setting e.1 e.2)] := by
        rw [State.live, if_neg (by simp [hst])]
        rfl
      rw [List.foldl_cons, h1, ih (s.queueing _) hlen, if_neg (show ¬ (s.queueing _).fn.st = _ from hst), if_neg hst]
      simp [State.queueing, State.onFn]

/-- Settings in their bounds: kept and answered while STOPPED, else queued, the last with the mailbox. -/
theorem settings_taken {s : State} {h : MbxHdr} (ht : s.turn h = true) (hp : hdrPlain h = true) {i : Instr} {sp : MbxSpec} {again : State → State}
    {l : List (Nat × Nat)} (hl : l ≠ []) (hi : exec i s = .next (s.mbxRun h sp (fun u => u.liveSettings h.mbx.val l) again)) (hpass : sp.Passes s h)
    (hout : sp.out = none := by rfl) :
    Completes i s fun t => if s.fn.st = .stopped then t.replied h sp.op 0 0 [] ∧ t.fn = { s.fn with kept := s.fn.kept ++ settingList l }
      else t.runs h sp.op ∧ t.fn = { s.fn with changes := s.fn.changes ++ settingChanges h.mbx.val l } := by
  obtain ⟨l0, x, rfl⟩ : ∃ l0 x, l = l0 ++ [x] := ⟨_, _, (List.dropLast_append_getLast hl).symm⟩
  have hlen := State.begun_length ht sp
  have hw := State.begun_wait ht sp
  have hfn : (s.begun h.mbx.val sp).fn = s.fn := rfl
  rw [State.mbxRun_turn ht hp hpass hout] at hi
  rw [State.liveSettings_concat] at hi
  generalize s.begun h.mbx.val sp = u at hi hlen hw hfn
  rw [State.foldl_live _ _ hlen] at hi
  have hm : h.mbx.val < u.mgmt.mbx.length := by
    rw [hlen]
    exact h.mbx.isLt
  refine ⟨_, hi, ?_⟩
  rw [← hfn]
  beta_reduce
  by_cases hst : u.fn.st = .stopped
  · rw [if_pos hst, if_pos hst, State.live, if_pos ⟨hst, rfl⟩]
    refine ⟨State.mbx_answer (s := (u.keeping (settingList l0)).keeping [.setting x.1 x.2]) hm hw _, ?_⟩
    rw [show u.fn.kept ++ settingList (l0 ++ [x]) = (u.fn.kept ++ settingList l0) ++ [.setting x.1 x.2] by simp [settingList]]
    rfl
  · rw [if_neg hst, if_neg hst, State.live, if_neg (fun hc => hst hc.1)]
    refine ⟨hw, ?_⟩
    rw [show u.fn.changes ++ settingChanges h.mbx.val (l0 ++ [x]) = (u.fn.changes ++ l0.map fun e => (64, .setting e.1 e.2)) ++ [(h.mbx.val, .setting x.1 x.2)] by
      simp [settingChanges]]
    rfl

/-! ### The commands -/

/-- A command takes its GO and queues a live change for the next frame boundary. -/
def State.Queues (s : State) (h : MbxHdr) (i : Instr) (op : Nat) (c : LiveChange) : Prop :=
  Completes i s fun t => t.runs h op ∧ t.fn = { s.fn with changes := s.fn.changes ++ [(h.mbx.val, c)] }

/-- A command takes its GO and is a conflict. -/
def State.Conflicts (s : State) (h : MbxHdr) (i : Instr) (op : Nat) : Prop :=
  Completes i s fun t => t.replied h op 0xA 0 [] ∧ t.fn = s.fn

section commands
variable {s : State} {h : MbxHdr} (ht : s.turn h = true) (hp : hdrPlain h = true)
include ht hp

theorem evq_changes (hst : stR430.contains s.fn.st = true) {q v : Fin 64} {n c x : Nat} {b : BitVec 64} (h1 : 6 ≤ n) (h2 : n ≤ 16) (h3 : 1 ≤ c) (h4 : c ≤ 1024)
    (h5 : x ≤ 10000) (h6 : b.toNat % 4096 = 0) :
    ((s.evq q.val).enabled = false → s.Queues h (.evtQcreate h q.val n v.val c x b) 0x0701 (.evqCreate q.val n v.val c x b)) ∧
    ((s.evq q.val).enabled = true → s.Conflicts h (.evtQcreate h q.val n v.val c x b) 0x0701) ∧
    ((s.evq q.val).enabled = true → s.Queues h (.evtQmod h q.val c x) 0x0703 (.evqMod q.val c x)) ∧
    ((s.evq q.val).enabled = false → s.Conflicts h (.evtQmod h q.val c x) 0x0703) := by
  have hq : badAbove 63 q.val 0x20 = none := badAbove_none (by omega) _
  have hmod (o1 o2 : Nat) : (if c = 0 ∨ 1024 < c then some o1 else none) = (none : Option Nat) ∧ badAbove 10000 x o2 = none :=
    ⟨if_neg (by omega), badAbove_none h5 _⟩
  have hcreate : firstOff ([badAbove 63 q.val 0x20, if n < 6 ∨ 16 < n then some 0x21 else none, badAbove 63 v.val 0x22,
      if b.toNat % 4096 = 0 then none else some 0x28] ++ badModeration c x) = none := by
    rw [hq, if_neg (by omega), badAbove_none (by omega), if_pos h6, badModeration, (hmod 0x24 0x26).1, (hmod 0x24 0x26).2]
    rfl
  have hmodify : firstOff [badAbove 63 q.val 0x20, if c = 0 ∨ 1024 < c then some 0x22 else none, badAbove 10000 x 0x24] = none := by
    rw [hq, (hmod 0x22 0x24).1, (hmod 0x22 0x24).2]
    rfl
  refine ⟨fun he => ?_, fun he => ?_, fun he => ?_, fun he => ?_⟩
  · have hl := live_queued (i := .evtQcreate h q.val n v.val c x b) (c := .evqCreate q.val n v.val c x b) ht hp rfl
    exact hl { bad := hcreate, state := hst } (if_neg (by rw [show ((s.begun _ _).evq q.val).enabled = _ from he]; decide))
  · have hl := conflict_replied (i := .evtQcreate h q.val n v.val c x b) ht hp rfl
    exact hl { bad := hcreate, state := hst } (if_pos he)
  · have hl := live_queued (i := .evtQmod h q.val c x) (c := .evqMod q.val c x) ht hp rfl
    exact hl { bad := hmodify, state := hst } (if_pos he)
  · have hl := conflict_replied (i := .evtQmod h q.val c x) ht hp rfl
    exact hl { bad := hmodify, state := hst } (if_neg (by rw [show ((s.begun _ _).evq q.val).enabled = _ from he]; decide))

theorem evtQdelete_changes (hst : stR430.contains s.fn.st = true) (q : Fin 64) :
    ((s.evq q.val).enabled = true → s.Queues h (.evtQdelete h q.val) 0x0702 (.evqDelete q.val)) ∧
    ((s.evq q.val).enabled = false → Completes (.evtQdelete h q.val) s fun t => t.replied h 0x0702 0 0 [] ∧ t.fn = s.fn) := by
  refine ⟨fun hq => ?_, fun hq => ?_⟩
  · have hl := live_queued (i := .evtQdelete h q.val) (c := .evqDelete q.val) ht hp rfl
    exact hl { bad := badAbove_none (by omega) _, state := hst } (if_pos hq)
  · have hl := answer_replied (i := .evtQdelete h q.val) (r := { mkResp 0 0 0 with result := [] }) ht hp rfl
    exact hl { bad := badAbove_none (by omega) _, state := hst } (if_neg (by rw [show ((s.begun _ _).evq q.val).enabled = _ from hq]; decide))

theorem evtRoute_queues (hst : stR430.contains s.fn.st = true) {q : Fin 64} {a z on : Nat} (h1 : a ≤ z) (h2 : z ≤ 0xEFF) (h3 : on ≤ 1) :
    s.Queues h (.evtRoute h a z q.val on) 0x0704 (.route a z q.val (decide (on = 1))) := by
  have hbad : firstOff [badAbove 0xEFF a 0x20, if 0xEFF < z ∨ z < a then some 0x22 else none, badAbove 63 q.val 0x24, badAbove 1 on 0x25] = none := by
    rw [badAbove_none (by omega), if_neg (by omega), badAbove_none (by omega), badAbove_none h3]
    rfl
  have hl := live_queued (i := .evtRoute h a z q.val on) (c := .route a z q.val (decide (on = 1))) ht hp rfl
  exact hl { bad := hbad, state := hst } rfl

theorem pmcProgram_queues (hst : stR430.contains s.fn.st = true) {b : Fin 16} {a : Nat} {l : List (BitVec 32)} (h1 : l ≠ []) (h2 : a + l.length ≤ 512)
    (h3 : ∀ k, k < l.length → selOk (s.fn.committed.map (·.tenants)) (512 * b + a + k) (nth l k 0) = true) :
    s.Queues h (.pmcProgram h b.val a l) 0x0801 (.pmcProgram (512 * b + a) l) := by
  have hlen : l.length ≠ 0 := fun h0 => h1 (List.length_eq_zero_iff.1 h0)
  have hwrong : ((List.range l.length).find? fun k => !selOk (s.fn.committed.map (·.tenants)) (512 * b.val + a + k) (nth l k 0)) = none :=
    List.find?_eq_none.2 fun k hk hno => by
      rw [h3 k (List.mem_range.1 hk)] at hno
      exact Bool.noConfusion hno
  have hbad : firstOff [badAbove 15 b.val 0x20, if l.length = 0 ∨ 512 < l.length then some 0x23 else none, if 512 < a + l.length then some 0x21 else none,
      ((List.range l.length).find? fun k => !selOk (s.fn.committed.map (·.tenants)) (512 * b.val + a + k) (nth l k 0)).map fun k => 0x25 + 4 * k] = none := by
    rw [badAbove_none (by omega), if_neg (by omega), if_neg (by omega), hwrong]
    rfl
  have hl := live_queued (i := .pmcProgram h b.val a l) (c := .pmcProgram (512 * b + a) l) ht hp rfl
  exact hl { bad := hbad, state := hst } rfl

theorem pmcUsermap_queues (hst : stR430.contains s.fn.st = true) {b : Fin 16} {on : Nat} (h1 : on ≤ 1) :
    s.Queues h (.pmcUsermap h b.val on) 0x0802 (.pmcUser b.val (decide (on = 1))) := by
  have hbad : firstOff [badAbove 15 b.val 0x20, badAbove 1 on 0x21] = none := by
    rw [badAbove_none (by omega), badAbove_none h1]
    rfl
  have hl := live_queued (i := .pmcUsermap h b.val on) (c := .pmcUser b.val (decide (on = 1))) ht hp rfl
  exact hl { bad := hbad, state := hst } rfl

theorem pmcSample_queues (hst : stR430.contains s.fn.st = true) {b : Fin 16} {c on : Nat} (h1 : c < 512)
    (h2 : on = 0 ∨ (on = 1 ∧ windowOf (s.fn.committed.map (·.tenants)) (512 * b + c) = none)) :
    s.Queues h (.pmcSample h b.val c on) 0x0803 (.pmcSample b.val c (decide (on = 1))) := by
  have hon : on ≤ 1 := by omega
  have hown : ¬ (511 < c ∨ ((windowOf (s.fn.committed.map (·.tenants)) (512 * b.val + c)).isSome = true ∧ on = 1)) := by
    rintro (hlt | ⟨hsome, h1⟩)
    · omega
    · rcases h2 with h2 | ⟨-, h2⟩
      · omega
      · rw [h2] at hsome
        exact Bool.noConfusion hsome
  have hbad : firstOff [badAbove 15 b.val 0x20, if 511 < c ∨ ((windowOf (s.fn.committed.map (·.tenants)) (512 * b.val + c)).isSome = true ∧ on = 1) then some 0x21 else none,
      badAbove 1 on 0x23] = none := by
    rw [badAbove_none (by omega), if_neg hown, badAbove_none hon]
    rfl
  have hl := live_queued (i := .pmcSample h b.val c on) (c := .pmcSample b.val c (decide (on = 1))) ht hp rfl
  exact hl { bad := hbad, state := hst } rfl

theorem bay_changes (hst : stR430.contains s.fn.st = true) (b : Fin 48) :
    s.Queues h (.bayEnable h b.val) 0x0901 (.bayEnable b.val true) ∧ s.Queues h (.bayDisable h b.val) 0x0902 (.bayEnable b.val false) ∧
    ((s.chan b).st ≠ .fetFault → s.Queues h (.bayToggle h b.val) 0x0904 (.bayToggle b.val)) ∧
    ((s.chan b).st = .fetFault → s.Conflicts h (.bayToggle h b.val) 0x0904) := by
  refine ⟨?_, ?_, fun hc => ?_, fun hc => ?_⟩
  · have hl := live_queued (i := .bayEnable h b.val) (c := .bayEnable b.val true) ht hp rfl
    exact hl { bad := badAbove_none (by omega) _, state := hst } rfl
  · have hl := live_queued (i := .bayDisable h b.val) (c := .bayEnable b.val false) ht hp rfl
    exact hl { bad := badAbove_none (by omega) _, state := hst } rfl
  · have hl := live_queued (i := .bayToggle h b.val) (c := .bayToggle b.val) ht hp rfl
    exact hl { bad := badAbove_none (by omega) _, state := hst } (if_neg hc)
  · have hl := conflict_replied (i := .bayToggle h b.val) ht hp rfl
    exact hl { bad := badAbove_none (by omega) _, state := hst } (if_pos hc)

theorem bayConfig_queues (hst : stR430.contains s.fn.st = true) (b : Fin 48) {g f i c a r : Nat} (h1 : 1 ≤ g) (h2 : g ≤ 8) (h3 : f ≤ 1) (h4 : 5 ≤ i) (h5 : i ≤ 200)
    (h6 : 10 ≤ c) (h7 : c ≤ 63) (h8 : 1 ≤ a) (h9 : a ≤ 20) (h10 : 5 ≤ r) (h11 : r ≤ 200) :
    s.Queues h (.bayConfig h b.val g f i c a r) 0x0903 (.bayCfg b.val ⟨g, decide (f = 1), i, c, a, r⟩) := by
  have hl := live_queued (i := .bayConfig h b.val g f i c a r) (c := .bayCfg b.val ⟨g, decide (f = 1), i, c, a, r⟩) ht hp rfl
  refine hl { bad := firstOff_none ?_, state := hst } rfl
  simp only [List.mem_cons, List.not_mem_nil, or_false]
  rintro y (rfl | rfl | rfl | rfl | rfl | rfl | rfl)
  · exact badAbove_none (by omega) _
  · exact if_neg (by omega)
  · exact badAbove_none h3 _
  all_goals exact if_neg (by omega)

end commands

/-- A command takes its GO and its settings are kept while the function is STOPPED, and queued otherwise. -/
def State.Settles (s : State) (h : MbxHdr) (i : Instr) (op : Nat) (l : List (Nat × Nat)) : Prop :=
  Completes i s fun t => if s.fn.st = .stopped then t.replied h op 0 0 [] ∧ t.fn = { s.fn with kept := s.fn.kept ++ settingList l }
    else t.runs h op ∧ t.fn = { s.fn with changes := s.fn.changes ++ settingChanges h.mbx.val l }

theorem settings_settle {s : State} {h : MbxHdr} (ht : s.turn h = true) (hp : hdrPlain h = true) (hst : stSAR.contains s.fn.st = true) :
    (∀ a b, s.badSetting 0 a 0 = none → s.badSetting 1 b 0 = none → s.Settles h (.hlthCaps h a b) 0x0603 [(0, a), (1, b)]) ∧
    (∀ a l, s.badSetting 2 a 0 = none → (∀ k, k < 8 → s.badSetting (3 + k) (nth l k 0) 0 = none) →
      s.Settles h (.hlthThresh h a l) 0x0604 ((2, a) :: (List.range 8).map fun k => (3 + k, nth l k 0))) ∧
    (∀ d, s.badSetting 11 d 0 = none → s.Settles h (.hlthPatrol h d) 0x0605 [(11, d)]) ∧
    (∀ d, s.badSetting 12 d 0 = none → s.Settles h (.pairInterval h d) 0x0A03 [(12, d)]) := by
  have hnone (i v off : Nat) (h : s.badSetting i v 0 = none) := s.badSetting_none h off
  refine ⟨fun a b ha hb => ?_, fun a l ha hl => ?_, fun d hd => ?_, fun d hd => ?_⟩
  · have ht := settings_taken (i := .hlthCaps h a b) (l := [(0, a), (1, b)]) ht hp (by simp) rfl
    refine ht { bad := firstOff_none ?_, state := hst }
    simp [hnone, ha, hb]
  · have ht := settings_taken (i := .hlthThresh h a l) (l := (2, a) :: (List.range 8).map fun k => (3 + k, nth l k 0)) ht hp (by simp) rfl
    refine ht { bad := firstOff_none ?_, state := hst }
    simp only [List.mem_cons, List.mem_map, List.mem_range]
    rintro y (rfl | ⟨k, hk, rfl⟩)
    · exact hnone _ _ _ ha
    · exact hnone _ _ _ (hl k hk)
  · have ht := settings_taken (i := .hlthPatrol h d) (l := [(11, d)]) ht hp (by simp) rfl
    exact ht { bad := hnone _ _ _ hd, state := hst }
  · have ht := settings_taken (i := .pairInterval h d) (l := [(12, d)]) ht hp (by simp) rfl
    exact ht { bad := hnone _ _ _ hd, state := hst }

/-- Settles O56: each setting passes its checks and is queued, kept, or in conflict. -/
theorem liveSettings : Obligations.LiveSettings := by
  intro h s ht hp
  refine ⟨fun hf => ?_, fun hf => settings_settle ht hp (stSAR_of hf)⟩
  have hst := stR430_of_not_fenced hf
  refine ⟨fun x h1 h2 => ?_, fun q v n c x b h1 h2 h3 h4 h5 h6 => evq_changes ht hp hst h1 h2 h3 h4 h5 h6, fun q => evtQdelete_changes ht hp hst q,
    fun q a z on h1 h2 h3 => evtRoute_queues ht hp hst h1 h2 h3, fun b a l h1 h2 h3 => pmcProgram_queues ht hp hst h1 h2 h3,
    fun b on h1 => pmcUsermap_queues ht hp hst h1, fun b c on h1 h2 => pmcSample_queues ht hp hst h1 h2, fun b => ?_⟩
  · have hq := live_queued (i := .fnCplto h x) (c := .cplto x) ht hp rfl
    exact hq { bad := if_neg (by omega), state := hst } rfl
  · obtain ⟨h1, h2, h3, h4⟩ := bay_changes ht hp hst b
    exact ⟨h1, h2, fun g f i c a r => bayConfig_queues ht hp hst b, h3, h4⟩

end Sys2Proof.Machine
end

section
/-! PROOF. The key and retention commands (O55). -/

namespace Sys2Proof.Machine

/-- The management registers with which a command starts: its mailbox runs it. -/
structure MgmtSt.Runs (g : MgmtSt) (s : State) (m op : Nat) : Prop where
  lt : m < g.mbx.length
  wait : (nth g.mbx m Mbx.reset).wait = .running op
  sessions : g.sessions = s.mgmt.sessions
  others : ∀ n, n ≠ m → nth g.mbx n Mbx.reset = s.mbx n

theorem State.begun_runs {s : State} {h : MbxHdr} (ht : s.turn h = true) (sp : MbxSpec) : (s.begun h.mbx.val sp).mgmt.Runs s h.mbx.val sp.op where
  lt := lt_of_lt_of_eq h.mbx.isLt (State.begun_length ht sp).symm
  wait := State.begun_wait ht sp
  sessions := rfl
  others n hn := (State.begun_mbx ht sp n).trans (if_neg hn.symm)

/-- A passing command with no bulk transfer is its start on the state with its GO taken. -/
theorem exec_begun {s : State} {h : MbxHdr} (ht : s.turn h = true) (hp : hdrPlain h = true) {i : Instr} {sp : MbxSpec} {start again : State → State}
    (hi : exec i s = .next (s.mbxRun h sp start again)) (hpass : sp.Passes s h) (hout : sp.out = none := by rfl) :
    ∃ g : MgmtSt, exec i s = .next (start (s.onMgmt fun _ => g)) ∧ g.Runs s h.mbx.val sp.op :=
  ⟨_, by rw [hi, State.mbxRun_turn ht hp hpass hout]; rfl, State.begun_runs ht sp⟩

/-- A key change in its slot: kept and answered while STOPPED, else queued. -/
theorem State.keyLive_placed {u : State} {m op : Nat} (hlt : m < u.mgmt.mbx.length) (hw : (u.mbx m).wait = .running op) (k : Nat) (x : KeySlot) :
    (if u.fn.st = .stopped then ((u.keyLive m k x).mbx m).wait = .answer { mkResp op 0 0 with result := if x.st = 1 then leBytes 4 x.check else [] }
        ∧ (u.keyLive m k x).fn = { u.fn with kept := u.fn.kept ++ [.keySlot k x] }
      else ((u.keyLive m k x).mbx m).wait = .running op ∧ (u.keyLive m k x).fn = { u.fn with changes := u.fn.changes ++ [(m, .keySlot k x)] })
      ∧ (u.keyLive m k x).cip = u.cip := by
  unfold State.keyLive
  by_cases hst : u.fn.st = .stopped
  · rw [if_pos hst, if_pos hst]
    exact ⟨⟨State.mbx_answer (s := u.keeping [.keySlot k x]) hlt hw _, rfl⟩, rfl⟩
  · rw [if_neg hst, if_neg hst, State.live, if_neg (fun hc => hst hc.1)]
    exact ⟨⟨hw, rfl⟩, rfl⟩

/-- A conflict, or another refusal of a command that has started. -/
theorem State.mbxFail_replied {u : State} {m op : Nat} (hlt : m < u.mgmt.mbx.length) (hw : (u.mbx m).wait = .running op) (st d : Nat) :
    ((u.mbxFail m st d).mbx m).wait = .answer { mkResp op st d with result := [] } :=
  State.mbx_answer hlt hw _

theorem State.mbxOk_replied {u : State} {m op : Nat} (hlt : m < u.mgmt.mbx.length) (hw : (u.mbx m).wait = .running op) (l : List (BitVec 8)) :
    ((u.mbxOk m l).mbx m).wait = .answer { mkResp op 0 0 with result := l } :=
  State.mbx_answer hlt hw _

/-- The record that a key of the next GEN is placed with. -/
def State.newKey (s : State) (k mode : Nat) (material : BitVec 512) : KeySlot :=
  let x : KeySlot := { st := 1, mode := mode, gen := ((s.keyView k).gen + 1) % 2 ^ 32, sectors := 0, material := material, check := 0,
                       wrapped := (s.cip.shelfKey.map fun x => Config.keyWrap x material).getD 0 }
  { x with check := kcv x }

/-- A key placed by a command whose mailbox runs it: kept and answered with its check value, or queued. -/
theorem State.placeKey_placed {u : State} {m op : Nat} (hlt : m < u.mgmt.mbx.length) (hw : (u.mbx m).wait = .running op) (k mode : Nat) (v : BitVec 512) :
    (if u.fn.st = .stopped then ((u.placeKey m k mode v).mbx m).wait = .answer { mkResp op 0 0 with result := leBytes 4 (u.newKey k mode v).check }
        ∧ (u.placeKey m k mode v).fn = { u.fn with kept := u.fn.kept ++ [.keySlot k (u.newKey k mode v)] }
      else ((u.placeKey m k mode v).mbx m).wait = .running op
        ∧ (u.placeKey m k mode v).fn = { u.fn with changes := u.fn.changes ++ [(m, .keySlot k (u.newKey k mode v))] })
      ∧ (u.placeKey m k mode v).cip = u.cip :=
  State.keyLive_placed hlt hw k (u.newKey k mode v)

/-! ### Removing an operator key -/

theorem State.session_endSession (s : State) (i j : Nat) : (s.endSession i).session j = if i = j then none else s.session j :=
  nth_modNth _ _ _ _ _ fun _ => .inr rfl

theorem State.endSession_mbx (s : State) {i m : Nat} (hm : m ≠ 48 + i) : (s.endSession i).mbx m = s.mbx m := by
  have h1 (f : Mbx → Mbx) (l : List Mbx) : nth (modNth l (48 + i) f) m Mbx.reset = nth l m Mbx.reset := by
    rw [nth_modNth _ _ _ _ _ fun he => absurd he.symm hm, if_neg hm.symm]
  exact h1 _ _

/-- Every session of an operator key ended. -/
def State.endSessionsOf (s : State) (index : Nat) (l : List Nat) : State :=
  l.foldl (fun (s : State) i => match s.session i with
    | some x => if x.keyIndex = index then s.endSession i else s
    | none => s) s

theorem State.endSessionsOf_kept (index : Nat) (l : List Nat) (s : State) :
    (s.endSessionsOf index l).boot = s.boot ∧ (s.endSessionsOf index l).mgmt.mbx.length = s.mgmt.mbx.length
      ∧ (∀ m, (∀ i ∈ l, m ≠ 48 + i) → (s.endSessionsOf index l).mbx m = s.mbx m)
      ∧ ∀ j x, (s.endSessionsOf index l).session j = some x → s.session j = some x ∧ (j ∈ l → x.keyIndex ≠ index) := by
  induction l generalizing s with
  | nil => exact ⟨rfl, rfl, fun _ _ => rfl, fun j x h => ⟨h, nofun⟩⟩
  | cons i l ih =>
    obtain ⟨t, ht, hstep⟩ : ∃ t, s.endSessionsOf index (i :: l) = State.endSessionsOf t index l ∧
        ((t = s ∧ ∀ x, s.session i = some x → x.keyIndex ≠ index) ∨ t = s.endSession i) := by
      refine ⟨_, rfl, ?_⟩
      beta_reduce
      split
      · next x hx =>
        split
        · exact .inr rfl
        · next hne => exact .inl ⟨rfl, fun y hy => by rw [hx, Option.some.injEq] at hy; exact hy ▸ hne⟩
      · next hx => exact .inl ⟨rfl, fun y hy => by rw [hx] at hy; exact nomatch hy⟩
    obtain ⟨hboot, hlen, hmbx, hses⟩ := ih t
    rw [ht]
    rcases hstep with ⟨rfl, hne⟩ | rfl
    · refine ⟨hboot, hlen, fun m hm => hmbx m fun k hk => hm k (List.mem_cons_of_mem _ hk), fun j x hj => ?_⟩
      obtain ⟨h1, h2⟩ := hses j x hj
      exact ⟨h1, fun hin => (List.mem_cons.1 hin).elim (fun he => hne x (he ▸ h1)) h2⟩
    · refine ⟨hboot, hlen.trans (modNth_length ..), fun m hm => ?_, fun j x hj => ?_⟩
      · rw [hmbx m fun k hk => hm k (List.mem_cons_of_mem _ hk)]
        exact s.endSession_mbx (hm i List.mem_cons_self)
      · obtain ⟨h1, h2⟩ := hses j x hj
        rw [State.session_endSession] at h1
        split at h1
        · exact nomatch h1
        · next hne => exact ⟨h1, fun hin => (List.mem_cons.1 hin).elim (fun he => absurd he.symm hne) h2⟩

/-- KEY.MGMTENROLL writes its key, and a removed one leaves no session. -/
theorem keyMgmtenroll_ends {h : MbxHdr} {s : State} (ht : s.turn h = true) (hp : hdrPlain h = true) (i : Fin 8) {p : BitVec 776}
    (hm : h.mbx.val < 48 ∨ 55 < h.mbx.val) (hf : s.fn.st ≠ .fenced) (hp4 : p.toNat % 256 = 4 ∨ p = 0) :
    Completes (.keyMgmtenroll h i.val p) s fun t => t.replied h 0x0507 0 0 [] ∧ t.boot = { s.boot with opKeys := putNth s.boot.opKeys i.val p }
      ∧ (p = 0 → ∀ (j : Fin 8) x, t.session j.val = some x → x.keyIndex ≠ i) ∧ (p ≠ 0 → t.mgmt.sessions = s.mgmt.sessions) := by
  have hbad : firstOff [if 7 < i.val then some 0x20 else none, if p = 0 then none else badPoint p 0x21] = none := by
    refine firstOff_none ?_
    simp only [List.mem_cons, List.not_mem_nil, or_false]
    rintro y (rfl | rfl)
    · exact if_neg (by omega)
    · split
      · rfl
      · next hne => exact if_pos (hp4.resolve_right hne)
  obtain ⟨g, hex, hg⟩ := exec_begun (i := .keyMgmtenroll h i.val p) ht hp rfl { bad := hbad, state := stR430_of_not_fenced hf, place := .inl hm }
  obtain ⟨u, hu⟩ : ∃ u, u = (s.onMgmt fun _ => g).onBoot fun b => { b with opKeys := putNth b.opKeys i.val p } := ⟨_, rfl⟩
  have hub : u.boot = { s.boot with opKeys := putNth s.boot.opKeys i.val p } := by rw [hu]; rfl
  have hug : u.mgmt = g := by rw [hu]; rfl
  have hlt : h.mbx.val < u.mgmt.mbx.length := by rw [hug]; exact hg.lt
  have hw : (u.mbx h.mbx.val).wait = .running 0x0507 := by rw [State.mbx, hug]; exact hg.wait
  by_cases h0 : p = 0
  · have hex1 : exec (.keyMgmtenroll h i.val p) s = .next ((u.endSessionsOf i.val (List.range 8)).mbxOk h.mbx.val []) :=
      hex.trans (congrArg (fun x : State => Host.Outcome.next (x.mbxOk h.mbx.val [])) ((if_neg (not_not_intro h0)).trans (by rw [hu]; rfl)))
    obtain ⟨hboot, hlen, hmbx, hses⟩ := State.endSessionsOf_kept i.val (List.range 8) u
    generalize u.endSessionsOf i.val (List.range 8) = v at hex1 hboot hlen hmbx hses
    have hown : v.mbx h.mbx.val = u.mbx h.mbx.val := hmbx h.mbx.val fun k hk => by
      rw [List.mem_range] at hk
      omega
    exact ⟨_, hex1, State.mbxOk_replied (by rw [hlen]; exact hlt) (by rw [hown]; exact hw) [], hboot.trans hub,
      fun _ j x hx => (hses j.val x hx).2 (List.mem_range.2 j.isLt), fun hne => absurd h0 hne⟩
  · have hex1 : exec (.keyMgmtenroll h i.val p) s = .next (u.mbxOk h.mbx.val []) :=
      hex.trans (congrArg (fun x : State => Host.Outcome.next (x.mbxOk h.mbx.val [])) ((if_pos h0).trans hu.symm))
    exact ⟨_, hex1, State.mbxOk_replied hlt hw [], hub, fun he => absurd he h0, fun _ => (congrArg MgmtSt.sessions hug).trans hg.sessions⟩

/-- Settles O55: each command passes its checks, starts, and answers or queues its change. -/
theorem keyCommands : Obligations.KeyCommands := by
  intro h s tenant slot mode htenant hslot hmode
  have hslots : ∀ y ∈ badSlot tenant slot, y = none := by
    simp only [badSlot, List.mem_cons, List.not_mem_nil, or_false]
    rintro y (rfl | rfl) <;> exact if_neg (by omega)
  have hboth : ∀ y ∈ badMode mode :: badSlot tenant slot, y = none := by
    intro y hy
    rcases List.mem_cons.1 hy with rfl | hy
    · exact if_pos hmode
    · exact hslots y hy
  have hplace {g : MgmtSt} (hempty : (s.keyView (4 * tenant + slot)).st = 0) (hkey : s.cip.shelfKey.isSome = true) :
      ¬ (((s.onMgmt fun _ => g).keyView (4 * tenant + slot)).st ≠ 0 ∨ (s.onMgmt fun _ => g).cip.shelfKey.isNone = true) := by
    rintro (hc | hc)
    · exact hc hempty
    · have hc : s.cip.shelfKey.isNone = true := hc
      rw [Option.isNone_iff_eq_none.1 hc] at hkey
      exact Bool.noConfusion hkey
  have hall : [FnState.empty, .stopped, .armed, .running, .draining, .fenced].contains s.fn.st = true := by cases s.fn.st <;> rfl
  have hrest (hst : s.fn.st = .empty ∨ s.fn.st = .stopped) : [FnState.empty, .stopped].contains s.fn.st = true := by
    rcases hst with hst | hst <;> rw [hst] <;> rfl
  refine And.intro (fun ht hp => ⟨fun hhold hst => ?_, fun hhold => ?_, ?_, fun p hp4 => ⟨fun hrig hkey => ?_, fun hno => ?_⟩, fun hm hst => ⟨fun v hk => ?_, fun hk => ?_, fun v hk => ?_⟩,
    fun i p hm hf hp4 => ?_⟩) (fun ht hmaster hroom => ?_)
  · have hspec (op : Nat) (bad : List (Option Nat)) (hbad : ∀ y ∈ bad, y = none) (hop : [0x0204, 0x0506, 0x0507].contains op = false) :
        (keySpec op tenant bad).Passes s h := { bad := firstOff_none hbad, state := stSAR_of hst, holder := fun _ => hhold, place := .inr hop }
    have hconf {i : Instr} {sp : MbxSpec} {start again : State → State} (hi : exec i s = .next (s.mbxRun h sp start again)) (hpass : sp.Passes s h)
        (hout : sp.out = none) (st d : Nat) (hstart : ∀ g, start (s.onMgmt fun _ => g) = (s.onMgmt fun _ => g).mbxFail h.mbx.val st d) :
        Completes i s fun t => t.replied h sp.op st d [] ∧ t.fn = s.fn ∧ t.cip = s.cip := by
      obtain ⟨g, hex, hg⟩ := exec_begun ht hp hi hpass hout
      rw [hstart] at hex
      exact ⟨_, hex, State.mbxFail_replied (u := s.onMgmt fun _ => g) hg.lt hg.wait st d, rfl, rfl⟩
    refine ⟨fun hempty hkey => ⟨?_, fun v hv => ?_, ?_⟩, fun hused => ⟨?_, fun v => ?_⟩, fun hact hfree => ?_, fun hno => ?_, fun d n hrig h1 h2 => ⟨fun hlt => ?_, fun hle => ?_⟩⟩
    · obtain ⟨g, hex, hg⟩ := exec_begun (i := .keyGenerate h tenant slot mode) ht hp rfl (hspec 0x0501 _ hboth rfl)
      let u := (s.onMgmt fun _ => g).draw.2
      let v := if mode = 2 then ((s.onMgmt fun _ => g).draw.1.setWidth 256).setWidth 512 else (s.onMgmt fun _ => g).draw.1
      obtain ⟨h1, h2⟩ := State.placeKey_placed (u := u) hg.lt hg.wait (4 * tenant + slot) mode v
      refine ⟨u.placeKey h.mbx.val (4 * tenant + slot) mode v, hex.trans (congrArg Host.Outcome.next (if_neg (hplace hempty hkey))),
        u.newKey (4 * tenant + slot) mode v, ⟨rfl, rfl, rfl, rfl, rfl⟩, fun h2 => ?_, h1, h2⟩
      show (if mode = 2 then _ else _ : BitVec 512).toNat < 2 ^ 256
      rw [if_pos h2, BitVec.toNat_setWidth]
      exact lt_of_le_of_lt (Nat.mod_le _ _) (BitVec.isLt _)
    · obtain ⟨g, hex, hg⟩ := exec_begun (i := .keyImport h tenant slot mode (some v)) ht hp rfl (hspec 0x0502 _ hboth rfl)
      have hwhole : ¬ (mode = 2 ∧ v.toNat / 2 ^ 256 ≠ 0) := by omega
      refine ⟨(s.onMgmt fun _ => g).placeKey h.mbx.val (4 * tenant + slot) mode v, hex.trans (congrArg Host.Outcome.next ((if_neg (hplace hempty hkey)).trans (if_neg hwhole))),
        (s.onMgmt fun _ => g).newKey (4 * tenant + slot) mode v, ⟨rfl, rfl, rfl, rfl, rfl⟩, rfl, ?_⟩
      exact (State.placeKey_placed (u := s.onMgmt fun _ => g) hg.lt hg.wait (4 * tenant + slot) mode v).1
    · obtain ⟨t, hex, h1, h2, -⟩ := hconf (i := .keyImport h tenant slot mode none) rfl (hspec 0x0502 _ hboth rfl) rfl 3 0x85 fun g => if_neg (hplace hempty hkey)
      exact ⟨t, hex, h1, h2⟩
    · obtain ⟨t, hex, h1, h2, -⟩ := hconf (i := .keyGenerate h tenant slot mode) rfl (hspec 0x0501 _ hboth rfl) rfl 0xA 0 fun g => if_pos (.inl hused)
      exact ⟨t, hex, h1, h2⟩
    · obtain ⟨t, hex, h1, h2, -⟩ := hconf (i := .keyImport h tenant slot mode v) rfl (hspec 0x0502 _ hboth rfl) rfl 0xA 0 fun g => if_pos (.inl hused)
      exact ⟨t, hex, h1, h2⟩
    · obtain ⟨g, hex, hg⟩ := exec_begun (i := .keyDestroy h tenant slot) ht hp rfl (hspec 0x0503 _ hslots rfl)
      have hdo : ¬ (((s.onMgmt fun _ => g).keyView (4 * tenant + slot)).st ≠ 1 ∨ (s.onMgmt fun _ => g).tenantHolds tenant = true) := by
        rintro (hc | hc)
        · exact hc hact
        · rw [show (s.onMgmt fun _ => g).tenantHolds tenant = false from hfree] at hc
          exact Bool.noConfusion hc
      exact ⟨_, hex.trans (congrArg Host.Outcome.next (if_neg hdo)),
        (State.keyLive_placed (u := s.onMgmt fun _ => g) hg.lt hg.wait _ { s.keyView (4 * tenant + slot) with st := 2, material := 0, wrapped := 0 }).1⟩
    · obtain ⟨t, hex, h1, h2, -⟩ := hconf (i := .keyDestroy h tenant slot) rfl (hspec 0x0503 _ hslots rfl) rfl 0xA 0 fun g => if_pos hno
      exact ⟨t, hex, h1, h2⟩
    · have hsig : (if s.boot.rigKey.isSome then s.sigCheck h.sig else 0) = 0 := by rw [hrig]; rfl
      obtain ⟨g, hex, hg⟩ := exec_begun (i := .retAdvance h d n) ht hp rfl
        { bad := if_neg (by omega), state := stSAR_of hst, holder := fun _ => hhold, sig := hsig }
      refine ⟨_, hex.trans (congrArg Host.Outcome.next ((if_neg (Nat.not_le.2 hlt)).trans (if_neg (by simp)))), hg.wait, rfl, rfl, rfl⟩
    · have hsig : (if s.boot.rigKey.isSome then s.sigCheck h.sig else 0) = 0 := by rw [hrig]; rfl
      obtain ⟨t, hex, h1, -, h2⟩ := hconf (i := .retAdvance h d n) rfl
        { bad := if_neg (by omega), state := stSAR_of hst, holder := fun _ => hhold, sig := hsig } rfl 0xA 0 fun g => if_pos hle
      exact ⟨t, hex, h1, h2⟩
  · obtain ⟨g, hex, hg⟩ := exec_begun (i := .retClock h) ht hp rfl { state := hall, holder := fun _ => hhold }
    exact ⟨_, hex, State.mbxOk_replied (u := s.onMgmt fun _ => g) hg.lt hg.wait _⟩
  · obtain ⟨g, hex, hg⟩ := exec_begun (i := .keyStatus h tenant slot) ht hp rfl { bad := firstOff_none hslots, state := hall }
    exact ⟨_, hex, State.mbxOk_replied (u := s.onMgmt fun _ => g) hg.lt hg.wait _, rfl⟩
  · obtain ⟨g, hex, hg⟩ := exec_begun (i := .keyEscrow h p) ht hp rfl { bad := if_pos hp4, state := hall }
    obtain ⟨r, hr⟩ := Option.isSome_iff_exists.1 hrig
    obtain ⟨k, hk⟩ := Option.isSome_iff_exists.1 hkey
    have hr' : (s.onMgmt fun _ => g).boot.rigKey = some r := hr
    have hk' : (s.onMgmt fun _ => g).cip.shelfKey = some k := hk
    simp only [hr', hk'] at hex
    exact ⟨_, hex, _, State.mbxOk_replied (u := (s.onMgmt fun _ => g).freeNat.2) hg.lt hg.wait _, by simp⟩
  · obtain ⟨g, hex, hg⟩ := exec_begun (i := .keyEscrow h p) ht hp rfl { bad := if_pos hp4, state := hall }
    have hfail : exec (.keyEscrow h p) s = .next ((s.onMgmt fun _ => g).mbxFail h.mbx.val 0xA 0) := by
      rw [hex]
      split
      · next r k hr hk =>
        rcases hno with hno | hno
        · exact absurd (hno.symm.trans hr) nofun
        · exact absurd (hno.symm.trans hk) nofun
      · rfl
    exact ⟨_, hfail, State.mbxFail_replied (u := s.onMgmt fun _ => g) hg.lt hg.wait _ _⟩
  · obtain ⟨g, hex, hg⟩ := exec_begun (i := .keyRestore h (some v)) ht hp rfl { state := hrest hst, place := .inl hm }
    have hno : ¬ (s.onMgmt fun _ => g).cip.shelfKey.isSome = true := by
      rw [show (s.onMgmt fun _ => g).cip.shelfKey = none from hk]
      decide
    exact ⟨_, hex.trans (congrArg Host.Outcome.next (if_neg hno)),
      State.mbxOk_replied (u := ((s.onMgmt fun _ => g).onCip fun c => { c with shelfKey := some v }).onBoot fun b => { b with shelfKeyNor := some v }) hg.lt hg.wait _,
      rfl, rfl⟩
  · obtain ⟨g, hex, hg⟩ := exec_begun (i := .keyRestore h none) ht hp rfl { state := hrest hst, place := .inl hm }
    have hno : ¬ (s.onMgmt fun _ => g).cip.shelfKey.isSome = true := by
      rw [show (s.onMgmt fun _ => g).cip.shelfKey = none from hk]
      decide
    exact ⟨_, hex.trans (congrArg Host.Outcome.next (if_neg hno)), State.mbxFail_replied (u := s.onMgmt fun _ => g) hg.lt hg.wait _ _, rfl⟩
  · obtain ⟨g, hex, hg⟩ := exec_begun (i := .keyRestore h v) ht hp rfl { state := hrest hst, place := .inl hm }
    exact ⟨_, hex.trans (congrArg Host.Outcome.next (if_pos hk)), State.mbxFail_replied (u := s.onMgmt fun _ => g) hg.lt hg.wait _ _, rfl⟩
  · exact keyMgmtenroll_ends ht hp i hm hf hp4
  · have hex : exec (.sealCert h) s = .next _ := congrArg Host.Outcome.next (State.mbxRun_turn_out ht hroom rfl hmaster rfl { state := hall } _ _)
    have hg := State.begun_runs ht (s := s) { op := 0x0C02, out := some (4096 * (Config.deviceCert s.boot.devKeyId).length) }
    exact ⟨_, hex, State.mbx_answer (s := (s.begun h.mbx.val _).emit (.dmaData h.mbx.val (Config.deviceCert s.boot.devKeyId))) hg.lt hg.wait _, rfl⟩

end Sys2Proof.Machine
end

section
/-! SUPPORT. What a shared operation may change of the function's registers: only whether it is read-only, and why (R103). -/

namespace Sys2Proof.Machine

/-- The function's registers but for read-only and its cause. -/
def State.fnCore (s : State) : Fn := { s.fn with readOnly := false, roCause := 0 }

/-- Every group of the state but the function's registers. -/
def butFn (p : Part) : Bool := decide (p ≠ .fn)

@[simp] theorem butFn_eq_true {p : Part} : butFn p = true ↔ p ≠ .fn := by simp [butFn]

theorem State.fnCore_mask (s : State) : (s.mask butFn).fnCore = s.fnCore := rfl

@[simp] theorem State.ite_fnCore (p : Prop) [Decidable p] (s t : State) : (if p then s else t).fnCore = if p then s.fnCore else t.fnCore := by
  split <;> rfl

@[simp] theorem State.foldl_fnCore {α : Type} {g : State → α → State} (h : ∀ s a, ((g s a).mask butFn).fnCore = (s.mask butFn).fnCore) (l : List α)
    (s : State) : ((l.foldl g s).mask butFn).fnCore = (s.mask butFn).fnCore := by
  induction l generalizing s with
  | nil => rfl
  | cons a t ih => rw [List.foldl_cons, ih, h]

@[simp] theorem State.onFn_fnCore (s : State) {g : Fn → Fn} (hg : ∀ f, { g f with readOnly := false, roCause := 0 } = { f with readOnly := false, roCause := 0 }) :
    ((s.onFn g).mask butFn).fnCore = (s.mask butFn).fnCore :=
  hg s.fn

@[simp] theorem State.checkSpace_fnCore (s : State) : ((State.checkSpace s).mask butFn).fnCore = (s.mask butFn).fnCore := by simp [State.checkSpace]

@[simp] theorem State.closeStripe_fnCore (s : State) (k : Nat) : ((State.closeStripe s k).mask butFn).fnCore = (s.mask butFn).fnCore := by
  unfold State.closeStripe
  repeat' (first | rfl | split | simp)

@[simp] theorem State.placeSectors_fnCore (s : State) (k : Nat) (secs : List BufSector) : ((State.placeSectors s k secs).mask butFn).fnCore = (s.mask butFn).fnCore := by simp [State.placeSectors]

@[simp] theorem State.closeAll_fnCore (s : State) : ((State.closeAll s).mask butFn).fnCore = (s.mask butFn).fnCore := by simp [State.closeAll]

@[simp] theorem State.writeJournalPage_fnCore (s : State) : ((State.writeJournalPage s).mask butFn).fnCore = (s.mask butFn).fnCore := by
  unfold State.writeJournalPage
  dsimp only
  split
  · rfl
  · simp

@[simp] theorem State.fullPages_fnCore (s : State) : ((State.fullPages s).mask butFn).fnCore = (s.mask butFn).fnCore := by simp [State.fullPages]

@[simp] theorem State.flushTail_fnCore (n : Nat) (s : State) : ((State.flushTail n s).mask butFn).fnCore = (s.mask butFn).fnCore := by
  induction n generalizing s with
  | zero => simp [State.flushTail]
  | succ n ih => simp [State.flushTail, ih]

@[simp] theorem State.journal_fnCore (s : State) (r : JRec) : ((State.journal s r).mask butFn).fnCore = (s.mask butFn).fnCore := by simp [State.journal]

@[simp] theorem State.writeSys_fnCore (s : State) (l : List (Nat × Nat)) : ((State.writeSys s l).mask butFn).fnCore = (s.mask butFn).fnCore := by simp [State.writeSys]

@[simp] theorem State.poisonSector_fnCore (s : State) (ns lba : Nat) (loc : Loc) : ((State.poisonSector s ns lba loc).mask butFn).fnCore = (s.mask butFn).fnCore := by
  unfold State.poisonSector
  (repeat' split) <;> simp

@[simp] theorem State.placeReloc_fnCore (s : State) (u : Nat) (loc : Loc) (p : Payload) : ((State.placeReloc s u loc p).mask butFn).fnCore = (s.mask butFn).fnCore := by simp [State.placeReloc]

@[simp] theorem State.deliver_fnCore (fuel : Nat) (s : State) (job : Nat) (res : Option Payload) : ((State.deliver fuel s job res).mask butFn).fnCore = (s.mask butFn).fnCore := by
  induction fuel generalizing s job res with
  | zero => rfl
  | succ n ih =>
    unfold State.deliver
    dsimp only
    repeat' (first | rfl | (rename_i h; have hc := congrArg Prod.snd h; dsimp only at hc; clear h; subst hc; simp [ih]) | split | simp [ih])

@[simp] theorem State.reconstruct_fnCore (s : State) (job : Nat) : ((State.reconstruct s job).mask butFn).fnCore = (s.mask butFn).fnCore := by
  unfold State.reconstruct
  dsimp only
  repeat' (first | rfl | (rename_i h; have hc := congrArg Prod.snd h; dsimp only at hc; clear h; subst hc; simp) | split | simp)

@[simp] theorem State.readCw_fnCore (s : State) (loc : Loc) (user : RdFor) (host : Bool) : ((State.readCw s loc user host).mask butFn).fnCore = (s.mask butFn).fnCore := by simp [State.readCw]

@[simp] theorem State.needPage_fnCore (s : State) (mpn : Nat) (wait : Option MapWait) (host : Bool) : ((State.needPage s mpn wait host).mask butFn).fnCore = (s.mask butFn).fnCore := by
  unfold State.needPage
  split <;> simp

@[simp] theorem State.commitMapPage_fnCore (s : State) (loc : Loc) (p : Payload) : ((State.commitMapPage s loc p).mask butFn).fnCore = (s.mask butFn).fnCore := by simp [State.commitMapPage]

@[simp] theorem State.commitGmdPage_fnCore (s : State) (loc : Loc) (p : Payload) : ((State.commitGmdPage s loc p).mask butFn).fnCore = (s.mask butFn).fnCore := by
  unfold State.commitGmdPage
  (repeat' split) <;> simp

@[simp] theorem State.commitStripe_fnCore (s : State) (id : Nat) : ((State.commitStripe s id).mask butFn).fnCore = (s.mask butFn).fnCore := by
  unfold State.commitStripe
  split
  · rfl
  · split
    · rfl
    · dsimp only
      rw [State.settleJournal_mask rfl rfl rfl rfl]
      refine (State.foldl_fnCore (fun u i => ?_) _ _).trans (by simp)
      (repeat' split) <;> simp

@[simp] theorem State.sjDone_fnCore (s : State) (b : Nat) (ok : Bool) : ((State.sjDone s b ok).mask butFn).fnCore = (s.mask butFn).fnCore := by
  unfold State.sjDone
  split <;> simp

@[simp] theorem State.abandonStripe_fnCore (s : State) (id : Nat) : ((State.abandonStripe s id).mask butFn).fnCore = (s.mask butFn).fnCore := by
  unfold State.abandonStripe
  split <;> simp

@[simp] theorem State.moveMember_fnCore (s : State) (id r : Nat) : ((State.moveMember s id r).mask butFn).fnCore = (s.mask butFn).fnCore := by
  unfold State.moveMember
  repeat' (first | rfl | split | simp)

@[simp] theorem State.membersOff_fnCore (s : State) (b : Nat) : ((State.membersOff s b).mask butFn).fnCore = (s.mask butFn).fnCore := by
  unfold State.membersOff
  repeat' (first | rfl | split | refine (State.foldl_fnCore (fun _ _ => ?_) _ _).trans ?_ | simp)

@[simp] theorem State.unitErased_fnCore (s : State) (u : Nat) : ((State.unitErased s u).mask butFn).fnCore = (s.mask butFn).fnCore := by simp [State.unitErased]

@[simp] theorem State.eraseStep_fnCore (s : State) (u : Nat) : ((State.eraseStep s u).mask butFn).fnCore = (s.mask butFn).fnCore := by simp [State.eraseStep]

@[simp] theorem State.endOp_fnCore (s : State) (b : Nat) (op : SheetOp) : ((State.endOp s b op).mask butFn).fnCore = (s.mask butFn).fnCore := by
  unfold State.endOp
  repeat' (first | rfl | split | simp)

@[simp] theorem State.endOps_fnCore (s : State) (b : Nat) : ((State.endOps s b).mask butFn).fnCore = (s.mask butFn).fnCore := by simp [State.endOps]

@[simp] theorem State.sjOff_fnCore (s : State) (b : Nat) : ((State.sjOff s b).mask butFn).fnCore = (s.mask butFn).fnCore := by simp [State.sjOff]

@[simp] theorem State.portGone_fnCore (s : State) (b : Nat) : ((State.portGone s b).mask butFn).fnCore = (s.mask butFn).fnCore := by
  unfold State.portGone
  repeat' (first | split | simp)

@[simp] theorem State.portOff_fnCore (s : State) (b : Nat) : ((State.portOff s b).mask butFn).fnCore = (s.mask butFn).fnCore := by simp [State.portOff]

@[simp] theorem State.powerFollow_fnCore (s : State) (b : Nat) : ((State.powerFollow s b).mask butFn).fnCore = (s.mask butFn).fnCore := by simp [State.powerFollow]

@[simp] theorem State.snapshotPage_fnCore (s : State) (mpn : Nat) : ((State.snapshotPage s mpn).mask butFn).fnCore = (s.mask butFn).fnCore := by
  unfold State.snapshotPage
  dsimp only
  split <;> simp

@[simp] theorem State.startCkpt_fnCore (s : State) : ((State.startCkpt s).mask butFn).fnCore = (s.mask butFn).fnCore := by simp [State.startCkpt]

@[simp] theorem State.ckptStep_fnCore (s : State) : ((State.ckptStep s).mask butFn).fnCore = (s.mask butFn).fnCore := by
  unfold State.ckptStep
  split <;> simp

@[simp] theorem State.drainLog_fnCore (s : State) : ((State.drainLog s).mask butFn).fnCore = (s.mask butFn).fnCore := by simp [State.drainLog]

@[simp] theorem State.preloadLine_fnCore (s : State) (la : Nat) : ((State.preloadLine s la).mask butFn).fnCore = (s.mask butFn).fnCore := by
  unfold State.preloadLine
  (repeat' split) <;> simp

@[simp] theorem State.rangeAdvance_fnCore (s : State) : ((State.rangeAdvance s).mask butFn).fnCore = (s.mask butFn).fnCore := by simp [State.rangeAdvance]

@[simp] theorem State.goRange_fnCore (s : State) (op : Nat) (o : RangeOp) (mbx : Option Nat) : ((State.goRange s op o mbx).mask butFn).fnCore = (s.mask butFn).fnCore := by simp [State.goRange]

@[simp] theorem State.nextPin_fnCore (s : State) : ((State.nextPin s).mask butFn).fnCore = (s.mask butFn).fnCore := by
  unfold State.nextPin
  (repeat' split) <;> simp

@[simp] theorem State.preloadPinned_fnCore (s : State) : ((State.preloadPinned s).mask butFn).fnCore = (s.mask butFn).fnCore := by
  unfold State.preloadPinned
  split <;> simp

end Sys2Proof.Machine
end

section
/-! PROOF. The function and rig commands (O53). -/

namespace Sys2Proof.Machine

/-! ### What start, stop and arm do -/

theorem State.fn_of_core {s t : State} (h : (t.mask butFn).fnCore = (s.mask butFn).fnCore) :
    t.fn.st = s.fn.st ∧ t.fn.lanesOpen = s.fn.lanesOpen ∧ t.fn.drain = s.fn.drain ∧ t.fn.stoppedByCmd = s.fn.stoppedByCmd ∧ t.fn.committed = s.fn.committed := by
  rw [State.fnCore_mask, State.fnCore_mask] at h
  have h1 := congrArg Fn.st h
  have h2 := congrArg Fn.lanesOpen h
  have h3 := congrArg Fn.drain h
  have h4 := congrArg Fn.stoppedByCmd h
  have h5 := congrArg Fn.committed h
  exact ⟨h1, h2, h3, h4, h5⟩

theorem State.fnStart_ends (s : State) : s.fnStart.mgmt.mbx = s.mgmt.mbx ∧ s.fnStart.fn.st = .running ∧ s.fnStart.fn.lanesOpen = s.active := by
  unfold State.fnStart
  extract_lets s1
  have hmbx : s1.mgmt.mbx = s.mgmt.mbx := State.mask_mbx (P := but [.mbx]) (by simp [s1]) rfl
  have hfn : s1.fn.st = .running ∧ s1.fn.lanesOpen = s.active := by
    unfold s1
    rw [State.setFn_fn]
    exact ⟨rfl, rfl⟩
  clear_value s1
  split
  · obtain ⟨h1, h2, -⟩ := State.fn_of_core (t := s1.preloadPinned) (s := s1) (by simp)
    exact ⟨(State.mask_mbx (P := but [.mbx]) (by simp) rfl).trans hmbx, h1.trans hfn.1, h2.trans hfn.2⟩
  · split
    · have h1 : (s1.setPair .standby).fn = s1.fn := State.mask_fn (P := but [.fn]) (by simp) rfl
      exact ⟨(State.mask_mbx (P := but [.mbx]) (by simp) rfl).trans hmbx, by rw [h1]; exact hfn.1, by rw [h1]; exact hfn.2⟩
    · exact ⟨hmbx, hfn⟩

/-- The function of an ARMED controller stopped, but for its answer. -/
def State.armedStopped (s : State) : State :=
  ((s.onFn fun f => { f with stoppedByCmd := true, lanesOpen := false }).setFn .stopped 0).pauseRebuild.startCkpt

/-- The function of a RUNNING controller with its drain begun. -/
def State.drainBegun (s : State) : State :=
  ((((s.onFn fun f => { f with stoppedByCmd := true, lanesOpen := false }).onFn fun f => { f with drain := some .stop }).setFn .draining 0).standbyBack.pauseRebuild).drainLog

theorem State.armedStopped_ends (s : State) : s.armedStopped.mgmt.mbx = s.mgmt.mbx ∧ s.armedStopped.fn.st = .stopped ∧ s.armedStopped.fn.stoppedByCmd = true := by
  obtain ⟨u, hu⟩ : ∃ u, u = (s.onFn fun f => { f with stoppedByCmd := true, lanesOpen := false }).setFn .stopped 0 := ⟨_, rfl⟩
  have hfn : u.fn.st = .stopped ∧ u.fn.stoppedByCmd = true := by
    rw [hu, State.setFn_fn]
    exact ⟨rfl, rfl⟩
  obtain ⟨h1, -, -, h2, -⟩ := State.fn_of_core (t := u.pauseRebuild.startCkpt) (s := u) (by simp)
  have hmbx : u.mgmt.mbx = s.mgmt.mbx := State.mask_mbx (P := but [.mbx]) (by simp [hu]) rfl
  have hlater : u.pauseRebuild.startCkpt.mgmt.mbx = u.mgmt.mbx := State.mask_mbx (P := but [.mbx]) (by simp) rfl
  rw [State.armedStopped, ← hu]
  exact ⟨hlater.trans hmbx, h1.trans hfn.1, h2.trans hfn.2⟩

theorem State.drainBegun_ends (s : State) : s.drainBegun.mgmt.mbx = s.mgmt.mbx ∧ s.drainBegun.fn.st = .draining ∧ s.drainBegun.fn.drain = some .stop
    ∧ s.drainBegun.fn.lanesOpen = false := by
  obtain ⟨u, hu⟩ : ∃ u, u = ((s.onFn fun f => { f with stoppedByCmd := true, lanesOpen := false }).onFn fun f => { f with drain := some .stop }).setFn .draining 0 := ⟨_, rfl⟩
  have hfn : u.fn.st = .draining ∧ u.fn.drain = some .stop ∧ u.fn.lanesOpen = false := by
    rw [hu, State.setFn_fn]
    exact ⟨rfl, rfl, rfl⟩
  obtain ⟨h1, h2, h3, -, -⟩ := State.fn_of_core (t := u.standbyBack.pauseRebuild.drainLog) (s := u) (by simp)
  have hmbx : u.mgmt.mbx = s.mgmt.mbx := State.mask_mbx (P := but [.mbx]) (by simp [hu]) rfl
  have hlater : u.standbyBack.pauseRebuild.drainLog.mgmt.mbx = u.mgmt.mbx := State.mask_mbx (P := but [.mbx]) (by simp) rfl
  rw [State.drainBegun, ← hu]
  exact ⟨hlater.trans hmbx, h1.trans hfn.1, h3.trans hfn.2.1, h2.trans hfn.2.2⟩

/-- The function armed with an image, but for its answer. -/
def State.armedWith (s : State) (i : RigImage) : State :=
  let fresh := s.fn.staged.isSome || s.fn.rules.isNone
  let s1 := (s.onFn fun f =>
    { f with committed := some i, arming := none, staged := none, stoppedByCmd := false, rules := if fresh then some i.cls else f.rules }).dropNamespaces i
  let s2 := (s1.applyKept.armCounters i.pmc).onBoot fun b => { b with declCopy := some ⟨i.shelfId, i.rigGen, i.decl.bayMask⟩ }
  (((s2.onNet fun n => { n with buckets := [] }).onFn fun f => { f with lanesOpen := false }).setFn .armed 0).sdtChange 1 |>.resumeRebuild.checkStrike

theorem State.armedWith_ends {s : State} {i : RigImage} (hkept : s.fn.kept = []) :
    (s.armedWith i).mgmt.mbx = s.mgmt.mbx ∧ (s.armedWith i).fn.st = .armed ∧ (s.armedWith i).fn.committed = some i ∧ (s.armedWith i).fn.lanesOpen = false := by
  unfold State.armedWith
  extract_lets fresh s1 s2
  have hfn1 : s1.fn.committed = some i ∧ s1.fn.kept = [] := by
    have h1 : s1.fn = _ := State.mask_fn (State.dropNamespaces_mask (P := but [.fn]) rfl rfl rfl rfl _ i) rfl
    rw [h1]
    exact ⟨rfl, hkept⟩
  have hmbx1 : s1.mgmt.mbx = s.mgmt.mbx := State.mask_mbx (P := but [.mbx]) (by simp [s1]) rfl
  clear_value s1
  have hs2 : s2.fn.committed = some i ∧ s2.mgmt.mbx = s.mgmt.mbx := by
    unfold s2 State.applyKept
    rw [hfn1.2]
    exact ⟨hfn1.1, hmbx1⟩
  clear_value s2
  obtain ⟨u, hu⟩ : ∃ u, u = (((s2.onNet fun n => { n with buckets := [] }).onFn fun f => { f with lanesOpen := false }).setFn .armed 0) := ⟨_, rfl⟩
  have hfn : u.fn.st = .armed ∧ u.fn.committed = some i ∧ u.fn.lanesOpen = false := by
    rw [hu, State.setFn_fn]
    exact ⟨rfl, hs2.1, rfl⟩
  have hmbx : u.mgmt.mbx = s.mgmt.mbx := by
    rw [hu]
    exact (State.mask_mbx (P := but [.mbx]) (by simp) rfl).trans hs2.2
  rw [← hu]
  have hk : ((u.sdtChange 1).resumeRebuild.checkStrike).fn = u.fn := State.mask_fn (P := but [.fn]) (by simp) rfl
  rw [hk]
  exact ⟨(State.mask_mbx (P := but [.mbx]) (by simp) rfl).trans hmbx, hfn⟩

/-- A holder that gives up the lease holds it no longer. -/
theorem State.giveUpLease_holder {s : State} (h : s.holder = true) : s.giveUpLease.holder = false := by
  unfold State.giveUpLease
  rw [if_pos h]
  extract_lets was s1
  have hpair (u : State) : u.modulesBack.pair = u.pair := State.mask_pair (P := but [.pair]) (by simp) rfl
  have hnot (u : State) (p : PairState) (hp : p = .init ∨ p = .lapsed) (hu : u.pair.st = p) : u.holder = false := by
    rcases hp with rfl | rfl <;> simp [State.holder, State.active, hu]
  clear_value s1
  split
  · refine hnot _ .init (.inl rfl) ?_
    rw [State.toInit, hpair, State.setPair_st]
  · refine hnot _ .lapsed (.inr rfl) ?_
    have hhold (u : State) : u.holdRebuild.pair = u.pair := rfl
    rw [State.lapse, hhold, hpair, State.setPair_st]

/-- FN.ARM of nothing new is refused where start-up was. -/
theorem State.armStart_refused {u : State} {i : RigImage} (hst : u.fn.st = .stopped) (hstaged : u.fn.staged = none) (hcom : u.fn.committed = some i)
    (href : u.fn.refusal ≠ 0) (m : Nat) : u.armStart m 0 = u.mbxFail m 0xA 0 := by
  simp [State.armStart, State.armStep, State.armFail, State.armDropped, hst, hstaged, hcom, href]

/-- FN.ARM of nothing new arms at once a controller that has joined, and an active one whose durable root names the image. -/
theorem State.armStart_arms {u : State} {i : RigImage} (hst : u.fn.st = .stopped) (hstaged : u.fn.staged = none) (hcom : u.fn.committed = some i)
    (href : u.fn.refusal = 0) (hstep : 14 ≤ u.boot.step)
    (hcase : u.pair.st = .joining ∨ u.pair.st = .standby ∨ (u.active = true ∧ u.fn.stoppedByCmd = false ∧ u.nextImage = some i ∧ u.log.rootImage = some i
      ∧ u.log.ckpt = none ∧ u.log.root.map (·.stopped) = some false)) (m : Nat) : u.armStart m 0 = (u.armedWith i).mbxOk m [] := by
  have harm : u.armStart m 0 = u.armDone m i := by
    have hstep1 : ¬ u.boot.step < 14 := Nat.not_lt.2 hstep
    rcases hcase with hp | hp | ⟨hact, hcmd, hnext, hroot, hckpt, hstop⟩
    · simp [State.armStart, State.armStep, hst, hstaged, hcom, href, hstep1, hp]
    · simp [State.armStart, State.armStep, hst, hstaged, hcom, href, hstep1, hp]
    · have hp : u.pair.st = .active ∨ u.pair.st = .single := by simpa [State.active] using hact
      rcases hp with hp | hp <;> simp [State.armStart, State.armStep, hst, hstaged, hcom, href, hstep1, hp, hnext, hcmd, hroot, hckpt, hstop]
  rw [harm]
  rfl

/-- A fetched image is checked as it was before the data came. -/
theorem loaderCheck_onMgmt (s : State) (g : MgmtSt) (i : RigImage) : (s.onMgmt fun _ => g).loaderCheck i = s.loaderCheck i := rfl

/-- A command that has changed no mailbox answers. -/
theorem MgmtSt.Runs.answered {g : MgmtSt} {s : State} {m op : Nat} (hg : g.Runs s m op) {u : State} (hu : u.mgmt.mbx = g.mbx) (r : Resp) :
    ((u.answer m r).mbx m).wait = .answer { r with opcode := op } :=
  State.mbx_answer (by rw [hu]; exact hg.lt) (by rw [State.mbx, hu]; exact hg.wait) r

/-- Mailbox registers as they are once the data of a command has come. -/
theorem State.dataCame_runs {s : State} {h : MbxHdr} {op : Nat} (hf : s.fetched h op = true) :
    ∃ g : MgmtSt, s.dataCame h.mbx.val = s.onMgmt (fun _ => g) ∧ h.mbx.val < g.mbx.length ∧ (nth g.mbx h.mbx.val Mbx.reset).wait = .running op := by
  obtain ⟨h1, h2⟩ := State.dataCame_wait hf
  exact ⟨_, rfl, h1, h2⟩

/-- The image header pages of RIG.INFO. -/
theorem headerBytes_length (i : RigImage) : (headerBytes i).length = 128 := by simp [headerBytes]

/-- A new rule set's node memory has room, and nothing to check it against. -/
theorem State.rigRules_plain {u : State} {c : ClsSection} (hform : clsForm c = true) (hcount : c.rulesCount ≤ 65536) (hcom : u.fn.committed = none)
    (hst : u.fn.staged = none) (hr : u.fn.rules = none) (hnodes : c.nodesCount ≤ 262144) (m : Nat) : u.rigRules m c = u.live m false (.rules c) := by
  unfold State.rigRules
  simp [hform, Nat.not_lt.2 hcount, hcom, hst, hr, Nat.not_lt.2 hnodes]

/-! ### The commands -/

theorem State.anyState (s : State) : [FnState.empty, .stopped, .armed, .running, .draining, .fenced].contains s.fn.st = true := by cases s.fn.st <;> rfl

section commands
variable {s : State} {h : MbxHdr} (ht : s.turn h = true) (hp : hdrPlain h = true)
include ht hp

theorem fnStart_starts (hst : s.fn.st = .armed) :
    Completes (.fnStart h) s fun t => t.replied h 0x0101 0 0 [] ∧ t.fn.st = .running ∧ t.fn.lanesOpen = s.active := by
  obtain ⟨g, hex, hg⟩ := exec_begun (i := .fnStart h) ht hp rfl { state := by rw [hst]; rfl }
  obtain ⟨h1, h2, h3⟩ := (s.onMgmt fun _ => g).fnStart_ends
  exact ⟨_, hex, hg.answered h1 _, h2, h3⟩

theorem fnStop_stops (hst : s.fn.st = .armed) :
    Completes (.fnStop h) s fun t => t.replied h 0x0102 0 0 [] ∧ t.fn.st = .stopped ∧ t.fn.stoppedByCmd = true := by
  obtain ⟨g, hex, hg⟩ := exec_begun (i := .fnStop h) ht hp rfl { state := by rw [hst]; rfl }
  obtain ⟨h1, h2, h3⟩ := (s.onMgmt fun _ => g).armedStopped_ends
  have hex1 : exec (.fnStop h) s = .next ((s.onMgmt fun _ => g).armedStopped.mbxOk h.mbx.val []) := hex.trans (congrArg Host.Outcome.next (if_pos hst))
  exact ⟨_, hex1, hg.answered h1 _, h2, h3⟩

theorem fnStop_drains (hst : s.fn.st = .running) :
    Completes (.fnStop h) s fun t => t.runs h 0x0102 ∧ t.fn.st = .draining ∧ t.fn.drain = some .stop ∧ t.fn.lanesOpen = false := by
  obtain ⟨g, hex, hg⟩ := exec_begun (i := .fnStop h) ht hp rfl { state := by rw [hst]; rfl }
  obtain ⟨h1, h2, h3, h4⟩ := (s.onMgmt fun _ => g).drainBegun_ends
  have hne : ¬ (s.onMgmt fun _ => g).fn.st = .armed := by
    rw [show (s.onMgmt fun _ => g).fn.st = _ from hst]
    decide
  have hex1 : exec (.fnStop h) s = .next (s.onMgmt fun _ => g).drainBegun := hex.trans (congrArg Host.Outcome.next (if_neg hne))
  refine ⟨_, hex1, ?_, h2, h3, h4⟩
  rw [State.runs, State.mbx, h1]
  exact hg.wait

theorem fnArm_arms {i : RigImage} (hst : s.fn.st = .stopped) (hstaged : s.fn.staged = none) (hcom : s.fn.committed = some i) :
    (s.fn.refusal ≠ 0 → Completes (.fnArm h 0) s fun t => t.replied h 0x0103 0xA 0 [] ∧ t.fn = s.fn) ∧
    (s.fn.refusal = 0 → 14 ≤ s.boot.step → s.fn.kept = [] → s.pair.st = .joining ∨ s.pair.st = .standby ∨
        (s.active = true ∧ s.fn.stoppedByCmd = false ∧ s.nextImage = some i ∧ s.log.rootImage = some i ∧ s.log.ckpt = none ∧ s.log.root.map (·.stopped) = some false) →
      Completes (.fnArm h 0) s fun t => t.replied h 0x0103 0 0 [] ∧ t.fn.st = .armed ∧ t.fn.committed = some i ∧ t.fn.lanesOpen = false) := by
  have hformat : (if 1 < 0 ∨ ((0 : Nat) == 1) ≠ (s.fn.staged.map (·.format)).getD false then some 0x20 else none) = (none : Option Nat) := by
    rw [hstaged]
    rfl
  refine ⟨fun href => ?_, fun href hstep hkept hcase => ?_⟩
  · obtain ⟨g, hex, hg⟩ := exec_begun (i := .fnArm h 0) ht hp rfl { bad := hformat, state := by rw [hst]; rfl }
    have hex1 := hex.trans (congrArg Host.Outcome.next (State.armStart_refused (u := s.onMgmt fun _ => g) hst hstaged hcom href h.mbx.val))
    exact ⟨_, hex1, hg.answered (u := s.onMgmt fun _ => g) rfl _, rfl⟩
  · obtain ⟨g, hex, hg⟩ := exec_begun (i := .fnArm h 0) ht hp rfl { bad := hformat, state := by rw [hst]; rfl }
    have hex1 := hex.trans (congrArg Host.Outcome.next (State.armStart_arms (u := s.onMgmt fun _ => g) hst hstaged hcom href hstep hcase h.mbx.val))
    obtain ⟨h1, h2, h3, h4⟩ := State.armedWith_ends (s := s.onMgmt fun _ => g) (i := i) hkept
    exact ⟨_, hex1, hg.answered h1 _, h2, h3, h4⟩

theorem fnStatus_reports : Completes (.fnStatus h) s fun t => t.replied h 0x0104 0 0
    (leBytes 4 s.fnStateReg ++ leBytes 4 (pairCode s.pair.st) ++ leBytes 8 s.clk.frame ++ leBytes 8 (s.sched.nextOrder - 1)) ∧ t.fn = s.fn := by
  obtain ⟨g, hex, hg⟩ := exec_begun (i := .fnStatus h) ht hp rfl { state := s.anyState }
  exact ⟨_, hex, hg.answered (u := s.onMgmt fun _ => g) rfl _, rfl⟩

theorem fnChipreset_resets (hst : s.fn.st = .empty ∨ s.fn.st = .stopped ∨ s.fn.st = .fenced) :
    (s.holder = false → Completes (.fnChipreset h) s fun t => t.replied h 0x0105 0 0 [] ∧ t.pair = s.pair) ∧
    (s.holder = true → Completes (.fnChipreset h) s fun t => t.holder = false) := by
  have hreset : [FnState.empty, .stopped, .fenced].contains s.fn.st = true := by
    rcases hst with hst | hst | hst <;> rw [hst] <;> rfl
  refine ⟨fun hh => ?_, fun hh => ?_⟩
  · obtain ⟨g, hex, hg⟩ := exec_begun (i := .fnChipreset h) ht hp rfl { state := hreset }
    have hno : ¬ (s.onMgmt fun _ => g).holder = true := by
      rw [show (s.onMgmt fun _ => g).holder = false from hh]
      decide
    have hex1 : exec (.fnChipreset h) s = .next ((s.onMgmt fun _ => g).mbxOk h.mbx.val []) :=
      hex.trans (congrArg (fun x : State => Host.Outcome.next (x.mbxOk h.mbx.val [])) (if_neg hno))
    exact ⟨_, hex1, hg.answered (u := s.onMgmt fun _ => g) rfl _, rfl⟩
  · obtain ⟨g, hex, -⟩ := exec_begun (i := .fnChipreset h) ht hp rfl { state := hreset }
    have hex1 : exec (.fnChipreset h) s = .next ((s.onMgmt fun _ => g).giveUpLease.mbxOk h.mbx.val []) :=
      hex.trans (congrArg (fun x : State => Host.Outcome.next (x.mbxOk h.mbx.val [])) (if_pos hh))
    exact ⟨_, hex1, State.giveUpLease_holder hh⟩

theorem rigInfo_reports : Completes (.rigInfo h) s fun t => t.fn = s.fn ∧ ∃ r, t.replied h 0x0203 0 0 r ∧ r.length = 256 ∧
    (s.fn.committed = none → r.take 128 = leBytes 128 0) ∧ (s.fn.staged = none → r.drop 128 = leBytes 128 0) := by
  obtain ⟨g, hex, hg⟩ := exec_begun (i := .rigInfo h) ht hp rfl { state := s.anyState }
  refine ⟨_, hex, rfl, _, hg.answered (u := s.onMgmt fun _ => g) rfl _, ?_, fun hc => ?_, fun hc => ?_⟩
  · simp only [List.length_append]
    cases (s.onMgmt fun _ => g).fn.committed <;> cases (s.onMgmt fun _ => g).fn.staged <;> simp [headerBytes_length]
  · simp only [show (s.onMgmt fun _ => g).fn.committed = none from hc]
    exact List.take_left' (leBytes_length 128 0)
  · simp only [show (s.onMgmt fun _ => g).fn.staged = none from hc]
    cases (s.onMgmt fun _ => g).fn.committed <;> exact List.drop_left' (by simp [headerBytes_length])

theorem rigEnroll_enrols {k pub} (hm : h.mbx.val < 48 ∨ 55 < h.mbx.val) (hst : s.fn.st = .empty ∨ s.fn.st = .stopped) (hpub : pub.toNat % 256 = 4) :
    (s.boot.rigKey = none → Completes (.rigEnroll h k pub) s fun t => t.replied h 0x0204 0 0 [] ∧ t.boot = { s.boot with rigKey := some (k, pub) }) ∧
    (s.boot.rigKey.isSome = true → Completes (.rigEnroll h k pub) s fun t => t.replied h 0x0204 0xA 0 [] ∧ t.boot = s.boot) := by
  have hrest : [FnState.empty, .stopped].contains s.fn.st = true := by
    rcases hst with hst | hst <;> rw [hst] <;> rfl
  refine ⟨fun hk => ?_, fun hk => ?_⟩
  · obtain ⟨g, hex, hg⟩ := exec_begun (i := .rigEnroll h k pub) ht hp rfl { bad := if_neg (not_not_intro hpub), state := hrest, place := .inl hm }
    have hno : ¬ (s.onMgmt fun _ => g).boot.rigKey.isSome = true := by
      rw [show (s.onMgmt fun _ => g).boot.rigKey = none from hk]
      decide
    have hex1 := hex.trans (congrArg Host.Outcome.next (if_neg hno))
    exact ⟨_, hex1, hg.answered (u := (s.onMgmt fun _ => g).onBoot fun b => { b with rigKey := some (k, pub) }) rfl _, rfl⟩
  · obtain ⟨g, hex, hg⟩ := exec_begun (i := .rigEnroll h k pub) ht hp rfl { bad := if_neg (not_not_intro hpub), state := hrest, place := .inl hm }
    exact ⟨_, hex.trans (congrArg Host.Outcome.next (if_pos hk)), hg.answered (u := s.onMgmt fun _ => g) rfl _, rfl⟩

end commands

theorem fnStop_again {s : State} {h : MbxHdr} (hup : s.mailboxesUp = true) (hlen : s.mgmt.mbx.length = 64) (hb : (s.mbx h.mbx.val).st = .busy)
    (hfe : (s.mbx h.mbx.val).fetching = false) (hw : (s.mbx h.mbx.val).wait = .running 0x0102) :
    (s.fn.st = .stopped → Completes (.fnStop h) s fun t => t.replied h 0x0102 0 0 [] ∧ t.fn = s.fn) ∧
    (s.fn.st = .fenced → Completes (.fnStop h) s fun t => t.replied h 0x0102 6 5 [] ∧ t.fn = s.fn) ∧
    (s.fn.st = .draining → exec (.fnStop h) s = .next s) := by
  have hlt : h.mbx.val < s.mgmt.mbx.length := by
    rw [hlen]
    exact h.mbx.isLt
  have hagain : exec (.fnStop h) s = .next (match s.fn.st with
      | .stopped => s.mbxOk h.mbx.val []
      | .fenced => s.mbxFail h.mbx.val 6 5
      | _ => s) := by
    refine congrArg Host.Outcome.next ?_
    simp only [State.mbxRun, hup, hb, hfe, hw]
    rfl
  refine ⟨fun hst => ?_, fun hst => ?_, fun hst => ?_⟩
  · have hex : exec (.fnStop h) s = .next (s.mbxOk h.mbx.val []) := by
      rw [hagain, hst]
    exact ⟨_, hex, State.mbxOk_replied (hlt) hw _, rfl⟩
  · have hex : exec (.fnStop h) s = .next (s.mbxFail h.mbx.val 6 5) := by
      rw [hagain, hst]
    exact ⟨_, hex, State.mbxFail_replied (hlt) hw _ _, rfl⟩
  · rw [hagain, hst]

theorem rigLoad_loads {s : State} {h : MbxHdr} {i : RigImage} (hf : s.fetched h 0x0201 = true) :
    (s.fn.st = .empty → i.format = false → Completes (.rigLoad h i) s fun t => t.replied h 0x0201 6 0 [] ∧ t.fn = s.fn) ∧
    (s.fn.st ≠ .empty ∨ i.format = true →
      (s.loaderCheck i ≠ 0 → Completes (.rigLoad h i) s fun t => t.replied h 0x0201 8 (s.loaderCheck i) [] ∧ t.fn = { s.fn with lastCheck := s.loaderCheck i }) ∧
      (s.loaderCheck i = 0 → Completes (.rigLoad h i) s fun t => t.replied h 0x0201 0 0 [] ∧ t.fn.staged = some i ∧ t.fn.committed = s.fn.committed ∧
        t.fn.st = (if s.fn.st = .empty then .stopped else s.fn.st))) := by
  have hload (hst : s.fn.st ≠ .empty ∨ i.format = true) : ¬ (s.fn.st = .empty ∧ (!i.format) = true) := by
    rintro ⟨h1, h2⟩
    rcases hst with hst | hst
    · exact hst h1
    · rw [hst] at h2
      exact Bool.noConfusion h2
  refine ⟨fun hst hform => ?_, fun hst => ⟨fun hn => ?_, fun hn => ?_⟩⟩
  · obtain ⟨g, hg, hl, hw⟩ := State.dataCame_runs hf
    have hex : exec (.rigLoad h i) s = .next ((s.onMgmt fun _ => g).mbxFail h.mbx.val 6 0) := by
      refine congrArg Host.Outcome.next ((State.mbxRun_fetched hf _ _).trans ?_)
      rw [hg]
      exact if_pos ⟨hst, by rw [hform]; rfl⟩
    exact ⟨_, hex, State.mbxFail_replied (u := s.onMgmt fun _ => g) hl hw _ _, rfl⟩
  · obtain ⟨g, hg, hl, hw⟩ := State.dataCame_runs hf
    have hno : ¬ (s.fn.st = .empty ∧ (!i.format) = true) := hload hst
    let u := (s.onMgmt fun _ => g).onFn fun f => { f with lastCheck := s.loaderCheck i }
    have hex : exec (.rigLoad h i) s = .next ((u.eventState 0x600 (fnCode s.fn.st) (fnCode s.fn.st) (s.loaderCheck i) 0).mbxFail h.mbx.val 8 (s.loaderCheck i)) := by
      refine congrArg Host.Outcome.next ((State.mbxRun_fetched hf _ _).trans ?_)
      rw [hg]
      exact (if_neg hno).trans (if_pos hn)
    have hev : (u.eventState 0x600 (fnCode s.fn.st) (fnCode s.fn.st) (s.loaderCheck i) 0).mgmt.mbx = g.mbx :=
      State.mask_mbx (t := u.eventState 0x600 (fnCode s.fn.st) (fnCode s.fn.st) (s.loaderCheck i) 0) (s := u) (P := but [.mbx]) (by simp) rfl
    have hfn : (u.eventState 0x600 (fnCode s.fn.st) (fnCode s.fn.st) (s.loaderCheck i) 0).fn = u.fn := State.mask_fn (P := but [.fn]) (by simp) rfl
    exact ⟨_, hex, State.mbx_answer (by rw [hev]; exact hl) (by rw [State.mbx, hev]; exact hw) _, hfn⟩
  · obtain ⟨g, hg, hl, hw⟩ := State.dataCame_runs hf
    have hno : ¬ (s.fn.st = .empty ∧ (!i.format) = true) := hload hst
    let u := (s.onMgmt fun _ => g).onFn fun f => { f with lastCheck := s.loaderCheck i, staged := some i }
    let v := if s.fn.st = .empty then u.setFn .stopped 0 else u
    have hex : exec (.rigLoad h i) s = .next (v.mbxOk h.mbx.val []) := by
      refine congrArg Host.Outcome.next ((State.mbxRun_fetched hf _ _).trans ?_)
      rw [hg]
      exact (if_neg hno).trans (if_neg (not_not_intro hn))
    have hmbx : v.mgmt.mbx = g.mbx := by
      unfold v
      split
      · exact State.mask_mbx (t := u.setFn .stopped 0) (s := u) (P := but [.mbx]) (by simp) rfl
      · rfl
    have hfn : v.fn = { u.fn with st := if s.fn.st = .empty then .stopped else s.fn.st } := by
      unfold v
      split
      · exact State.setFn_fn _ _ _
      · rfl
    clear_value v
    have hstaged : v.fn.staged = some i := congrArg Fn.staged hfn
    have hcom := congrArg Fn.committed hfn
    have hst := congrArg Fn.st hfn
    exact ⟨_, hex, State.mbx_answer (by rw [hmbx]; exact hl) (by rw [State.mbx, hmbx]; exact hw) _, hstaged, hcom, hst⟩

theorem rigVerify_checks {s : State} {h : MbxHdr} {i : RigImage} (hf : s.fetched h 0x0202 = true) : Completes (.rigVerify h i) s fun t => t.fn = s.fn ∧
    (if s.loaderCheck i = 0 then t.replied h 0x0202 0 0 [] else t.replied h 0x0202 8 (s.loaderCheck i) []) := by
  obtain ⟨g, hg, hl, hw⟩ := State.dataCame_runs hf
  have hex : exec (.rigVerify h i) s = .next (if s.loaderCheck i = 0 then (s.onMgmt fun _ => g).mbxOk h.mbx.val []
      else (s.onMgmt fun _ => g).mbxFail h.mbx.val 8 (s.loaderCheck i)) := by
    refine congrArg Host.Outcome.next ((State.mbxRun_fetched hf _ _).trans ?_)
    rw [hg]
    rfl
  by_cases hn : s.loaderCheck i = 0
  · rw [if_pos hn] at hex
    exact ⟨_, hex, rfl, by rw [if_pos hn]; exact State.mbxOk_replied (u := s.onMgmt fun _ => g) hl hw _⟩
  · rw [if_neg hn] at hex
    exact ⟨_, hex, rfl, by rw [if_neg hn]; exact State.mbxFail_replied (u := s.onMgmt fun _ => g) hl hw _ _⟩

theorem rigRules_taken {s : State} {h : MbxHdr} {c : ClsSection} (hf : s.fetched h 0x0206 = true) :
    (clsForm c = false → Completes (.rigRules h c) s fun t => t.replied h 0x0206 8 1 [] ∧ t.fn = s.fn) ∧
    (clsForm c = true → 65536 < c.rulesCount → Completes (.rigRules h c) s fun t => t.replied h 0x0206 8 7 [] ∧ t.fn = s.fn) ∧
    (clsForm c = true → c.rulesCount ≤ 65536 → s.fn.committed = none → s.fn.staged = none → s.fn.rules = none → c.nodesCount ≤ 262144 →
      (s.fn.st = .stopped → Completes (.rigRules h c) s fun t => t.replied h 0x0206 0 0 [] ∧ t.fn = { s.fn with kept := s.fn.kept ++ [.rules c] }) ∧
      (s.fn.st ≠ .stopped → Completes (.rigRules h c) s fun t => t.runs h 0x0206 ∧ t.fn = { s.fn with changes := s.fn.changes ++ [(h.mbx.val, .rules c)] })) := by
  refine ⟨fun hform => ?_, fun hform hcount => ?_, fun hform hcount hc hst hr hnodes => ⟨fun hstop => ?_, fun hstop => ?_⟩⟩
  · obtain ⟨g, hg, hl, hw⟩ := State.dataCame_runs hf
    have hex : exec (.rigRules h c) s = .next ((s.onMgmt fun _ => g).mbxFail h.mbx.val 8 1) := by
      refine congrArg Host.Outcome.next ((State.mbxRun_fetched hf _ _).trans ?_)
      rw [hg]
      simp [State.rigRules, hform]
    exact ⟨_, hex, State.mbxFail_replied (u := s.onMgmt fun _ => g) hl hw _ _, rfl⟩
  · obtain ⟨g, hg, hl, hw⟩ := State.dataCame_runs hf
    have hex : exec (.rigRules h c) s = .next ((s.onMgmt fun _ => g).mbxFail h.mbx.val 8 7) := by
      refine congrArg Host.Outcome.next ((State.mbxRun_fetched hf _ _).trans ?_)
      rw [hg]
      simp [State.rigRules, hform, hcount]
    exact ⟨_, hex, State.mbxFail_replied (u := s.onMgmt fun _ => g) hl hw _ _, rfl⟩
  · obtain ⟨g, hg, hl, hw⟩ := State.dataCame_runs hf
    have hex : exec (.rigRules h c) s = .next ((s.onMgmt fun _ => g).live h.mbx.val false (.rules c)) := by
      refine congrArg Host.Outcome.next ((State.mbxRun_fetched hf _ _).trans ?_)
      rw [hg]
      exact State.rigRules_plain (u := s.onMgmt fun _ => g) hform hcount hc hst hr hnodes h.mbx.val
    rw [State.live, if_pos ⟨hstop, rfl⟩] at hex
    exact ⟨_, hex, State.mbxOk_replied (u := (s.onMgmt fun _ => g).keeping [.rules c]) hl hw _, rfl⟩
  · obtain ⟨g, hg, hl, hw⟩ := State.dataCame_runs hf
    have hex : exec (.rigRules h c) s = .next ((s.onMgmt fun _ => g).live h.mbx.val false (.rules c)) := by
      refine congrArg Host.Outcome.next ((State.mbxRun_fetched hf _ _).trans ?_)
      rw [hg]
      exact State.rigRules_plain (u := s.onMgmt fun _ => g) hform hcount hc hst hr hnodes h.mbx.val
    rw [State.live, if_neg fun hc => hstop hc.1] at hex
    exact ⟨_, hex, hw, rfl⟩

/-- Settles O53: each command passes its checks, starts, and answers. -/
theorem functionCommands : Obligations.FunctionCommands := by
  intro h s
  refine ⟨fun ht hp _ _ => ⟨fnStart_starts ht hp, fnStop_stops ht hp, fnStop_drains ht hp, fun i hst hstaged hcom => fnArm_arms ht hp hst hstaged hcom, fnStatus_reports ht hp,
    fnChipreset_resets ht hp, rigInfo_reports ht hp, fun k pub hm hst hpub => rigEnroll_enrols ht hp hm hst hpub⟩, fnStop_again, fun i hf => rigLoad_loads hf,
    fun i hf => rigVerify_checks hf, fun c hf => rigRules_taken hf⟩

end Sys2Proof.Machine
end

section
/-! SUPPORT. What is sent stays sent; the pair's registers through its shared operations; the modules when the lease goes (chapter 15). -/

namespace Sys2Proof.Machine

/-! ### What is sent -/

/-- All that one state has sent, the other has sent. -/
def State.Says (s t : State) : Prop := s.out <:+ t.out

theorem State.Says.refl (s : State) : s.Says s := List.suffix_refl _

theorem State.Says.trans {s t u : State} (h1 : s.Says t) (h2 : t.Says u) : s.Says u := List.IsSuffix.trans h1 h2

theorem State.Says.of_eq {s t : State} (h : t.out = s.out) : s.Says t := by rw [State.Says, h]

theorem State.Says.of_mask {s t : State} (h : t.mask (but [.out]) = s.mask (but [.out])) : s.Says t := .of_eq (State.mask_out h rfl)

theorem State.Says.mem {s t : State} (h : s.Says t) {x : Emit} (hx : x ∈ s.out) : x ∈ t.out := h.subset hx

theorem State.Says.foldl {α : Type} {f : State → α → State} (hf : ∀ (s : State) a, s.Says (f s a)) (l : List α) (s : State) : s.Says (l.foldl f s) := by
  induction l generalizing s with
  | nil => exact .refl s
  | cons a l ih => exact (hf s a).trans (ih _)

theorem State.emit_says (s : State) (e : Emit) : s.Says (s.emit e) := List.suffix_cons e s.out

theorem State.msix_says (s : State) (v : Nat) : s.Says (s.msix v) := by
  unfold State.msix
  split
  · exact s.emit_says _
  · exact .refl s

theorem State.evqSignal_says (s : State) (q : Nat) (force : Bool) : s.Says (s.evqSignal q force) := by
  unfold State.evqSignal
  dsimp only
  split
  · exact State.Says.trans (t := s.onEvq q fun e => { e with armed := false, unsignalled := 0 }) (.refl s) (State.msix_says _ _)
  · exact .refl s

theorem State.evqWrite_says (s : State) (q : Nat) (r : EvRec) : s.Says (s.evqWrite q r) := by
  unfold State.evqWrite
  extract_lets e n p ovf rec0 s1 s2
  split
  · exact .refl s
  · have h1 : s.Says s1 := s.emit_says _
    have h2 : s1.Says s2 := .refl s1
    exact (h1.trans h2).trans (s2.evqSignal_says q _)

theorem State.event_says (s : State) (source kind d0 d1 : Nat) : s.Says (s.event source kind d0 d1) := by
  unfold State.event
  split
  · next q _ =>
    unfold State.evqPost
    extract_lets e r s1
    have h1 : s.Says s1 := .refl s
    split
    · exact .refl s
    · split
      · exact h1.trans (s1.evqWrite_says q r)
      · split
        · exact h1
        · exact h1
  · exact .refl s

theorem State.sdtChange_says (s : State) (cause : Nat) : s.Says (s.sdtChange cause) :=
  State.Says.trans (t := s.onMgmt fun m => { m with sdtGen := (s.mgmt.sdtGen + 2) % 2 ^ 32 }) (.refl s) (State.event_says _ _ _ _ _)

theorem State.sendAen_says (s : State) (c type info lid : Nat) : s.Says (s.sendAen c type info lid).2 := by
  unfold State.sendAen
  split
  · next k _ =>
    split
    · next cid l _ =>
      obtain ⟨-, -, h⟩ := (s.onCtl c fun k => { k with aers := l }).sendCqe_replies k.adminQp ⟨cid, 0, 0, false, aenDw0 type info lid⟩
      exact h
    · exact .refl s
  · exact .refl s

theorem State.anaNotice_says (s : State) : s.Says s.anaNotice := by
  refine .foldl (fun s e => ?_) _ _
  extract_lets s1 r
  have h1 : s.Says s1 := .refl s
  split
  · exact h1
  · split
    · exact h1.trans (s1.sendAen_says _ _ _ _)
    · exact h1

theorem withAna_says {s t : State} (u : State) (h : s.Says t) : s.Says (withAna u t) := by
  unfold withAna
  split
  · exact h
  · exact h.trans t.anaNotice_says

theorem State.setPair_says (s : State) (p : PairState) : s.Says (s.setPair p) := by
  unfold State.setPair
  split
  · exact .refl s
  · have h1 : s.Says (s.onPair fun x => { x with st := p }) := .refl s
    exact withAna_says s ((h1.trans (State.event_says _ _ _ _ _)).trans (State.sdtChange_says _ _))

theorem State.setFn_says (s : State) (f : FnState) (c : Nat) : s.Says (s.setFn f c) := by
  unfold State.setFn
  split
  · exact .refl s
  · have h1 : s.Says (s.onFn fun x => { x with st := f }) := .refl s
    exact withAna_says s (h1.trans (State.event_says _ _ _ _ _))

theorem State.setMod_says (s : State) (b : Nat) (m : ModState) : s.Says (s.setMod b m) := by
  unfold State.setMod
  split
  · exact .refl s
  · have h1 : s.Says (s.onPort b fun p => { p with modSt := m }) := .refl s
    exact h1.trans (State.event_says _ _ _ _ _)

theorem State.modulesBack_says (s : State) : s.Says s.modulesBack := by
  refine .foldl (fun s b => ?_) _ _
  split
  · exact s.setMod_says b _
  · exact .refl s

theorem State.sendLease_says (s : State) (m : LeaseMsg) : s.Says (s.sendLease m) ∧ Emit.lease .b m ∈ (s.sendLease m).out
    ∧ (s.peerLink = true → Emit.lease .a m ∈ (s.sendLease m).out) := by
  unfold State.sendLease
  split
  · next h => exact ⟨(s.emit_says _).trans (State.emit_says _ _), List.mem_cons_self, fun _ => List.mem_cons_of_mem _ List.mem_cons_self⟩
  · next h => exact ⟨s.emit_says _, List.mem_cons_self, fun h1 => absurd h1 h⟩

/-! ### The pair's registers -/

theorem State.setPair_pair (s : State) (p : PairState) : (s.setPair p).pair = { s.pair with st := p } := by
  unfold State.setPair
  split
  · next h => rw [← h]
  · have h1 (u : State) (a b c d : Nat) : ((u.eventState 0x610 a b c d).sdtChange 2).pair = u.pair := State.mask_pair (P := but [.pair]) (by simp) rfl
    have h2 (u v : State) : (withAna u v).pair = v.pair := State.mask_pair (P := but [.pair]) (by simp) rfl
    rw [h2, h1]
    rfl

theorem State.modulesBack_pair (s : State) : s.modulesBack.pair = s.pair := State.mask_pair (P := but [.pair]) (by simp) rfl

/-! ### The modules when the lease goes -/

theorem State.setMod_port_other (s : State) {b c : Nat} (m : ModState) (h : b ≠ c) : (s.setMod b m).port c = s.port c := by
  unfold State.setMod
  split
  · rfl
  · rw [State.eventState, State.event_port]
    exact (nth_modNth _ _ _ _ _ fun he => absurd he h).trans (if_neg h)

/-- The module of a port is in none of the states that only a lease holder's modules have. -/
def Port.notHeld (p : Port) : Prop := p.modSt ≠ .inService ∧ p.modSt ≠ .fencing ∧ p.modSt ≠ .unreachable

theorem State.modulesBack_ports (s : State) : ∀ b < 48, (s.modulesBack.port b).notHeld := by
  refine (foldl_range_each (f := fun (s : State) b => if (s.port b).modSt = .inService ∨ (s.port b).modSt = .fencing ∨ (s.port b).modSt = .unreachable then
    s.setMod b .ready else s) (I := fun _ => True) (Q := fun b u => (u.port b).notHeld) 48 (fun _ _ _ _ => trivial) (fun u b _ _ => ?_) (fun u b c _ hne _ hc => ?_) trivial).2
  · split
    · next hheld =>
      by_cases hb : b < u.sheet.ports.length
      · rw [State.setMod_port hb, if_pos rfl]
        exact ⟨nofun, nofun, nofun⟩
      · rw [State.port, nth, List.getD_eq_default _ _ (Nat.not_lt.1 hb)] at hheld
        exact absurd hheld (by decide)
    · next hheld =>
      rw [not_or, not_or] at hheld
      exact hheld
  · split
    · rwa [State.setMod_port_other _ _ hne.symm]
    · exact hc

/-! ### Taking and losing the lease -/

/-- The pair's registers when the lease is taken. -/
def PairSt.taken (p : PairSt) (k : TakeKind) (now : Nat) : PairSt :=
  { p with
    st := .taking, term := max p.term p.seenTerm + 1, seenTerm := max p.term p.seenTerm + 1, hold := .self, seq := p.seq + 1, sent := [(p.seq + 1, now)],
    lastRenew := now, take := k, takeStep := 1 }

theorem State.takeLease_pair (s : State) (k : TakeKind) : (s.takeLease k).pair = s.pair.taken k s.now ∧ (s.takeLease k).fn.lanesOpen = false := by
  unfold State.takeLease
  extract_lets s1 s2 s3
  have h2 : s2.pair = s.pair.taken k s.now := by
    show (s1.setPair .taking).pair = _
    rw [State.setPair_pair]
    rfl
  have h3 : s3.pair = s2.pair := State.mask_pair (P := but [.pair]) (by simp [s3]) rfl
  have h4 : s3.statusAll.pair = s3.pair := State.mask_pair (P := but [.pair]) (by simp) rfl
  have h5 : s3.statusAll.fn = s2.fn := State.mask_fn (P := but [.fn]) (by simp [s3]) rfl
  exact ⟨(h4.trans h3).trans h2, by rw [h5]; rfl⟩

/-- The pair's registers when the lease runs out. -/
def PairSt.lapsed (p : PairSt) (t : Nat) : PairSt :=
  { p with st := .lapsed, hold := .no, lapsedT := t, heardSince := false, sent := [], takeStep := 0 }

theorem State.lapse_ends (s : State) : (∃ x, s.lapse.pair = s.pair.lapsed x) ∧ s.lapse.reb.st = .held ∧ ∀ b < 48, (s.lapse.port b).notHeld := by
  unfold State.lapse
  extract_lets x s1
  have hreb (u : State) : u.holdRebuild.reb.st = .held ∧ u.holdRebuild.pair = u.pair ∧ u.holdRebuild.port = u.port := ⟨rfl, rfl, rfl⟩
  obtain ⟨h1, h2, h3⟩ := hreb (s1.setPair .lapsed).modulesBack
  refine ⟨⟨x, ?_⟩, h1, fun b hb => by rw [h3]; exact State.modulesBack_ports _ b hb⟩
  rw [h2]
  rw [State.modulesBack_pair, State.setPair_pair]
  rfl

/-- The pair's registers of a controller that begins to join. -/
def PairSt.joining (p : PairSt) : PairSt := { p with hold := .no, resync := 0, takeStep := 0, st := .joining }

theorem State.join_pair (s : State) : s.join.pair = s.pair.joining := by
  rw [State.join, State.modulesBack_pair, State.setPair_pair]
  rfl

theorem State.lapsedJoin_ends (s : State) : s.lapsedJoin.pair = PairSt.joining { s.pair with lastRenew := s.now } ∧ s.lapsedJoin.sched.cmds = [] := by
  unfold State.lapsedJoin
  extract_lets s1
  have h1 : s1.pair = s.pair := by
    unfold s1
    split
    · rfl
    · exact State.mask_pair (P := but [.pair]) (by simp) rfl
  clear_value s1
  have h2 : s1.discardAll.pair = s1.pair := rfl
  have h3 (u : State) : u.join.sched = u.sched := State.mask_sched (P := but [.sched]) (by simp) rfl
  refine ⟨?_, ?_⟩
  · rw [State.join_pair]
    show PairSt.joining { s1.discardAll.pair with lastRenew := s.now } = _
    rw [h2, h1]
  · rw [h3]
    rfl

/-! ### Hearing the peer -/

/-- What a valid message tells of its sender. -/
def PairSt.told (p : PairSt) (a b : ShroudSt) (w : Swap) (m : LeaseMsg) : PairSt :=
  { p with
    shA := a, shB := b, peerState := pairOf m.pstate, peerFn := m.fn, peerLeaseMs := some m.leaseMs, peerReach := m.reach, peerChan := m.chan,
    seenTerm := max p.seenTerm m.term, heardSince := true, swap := w }

theorem State.noteShroud_pair (s : State) (sh : Shroud) : ∃ a b, (s.noteShroud sh).pair = { s.pair with shA := a, shB := b } := by
  have hset (x : ShroudSt) : ∃ a b, (s.setShroud sh x).pair = { s.pair with shA := a, shB := b } := by
    cases sh
    · exact ⟨_, _, rfl⟩
    · exact ⟨_, _, rfl⟩
  have hev (u : State) (a b c d : Nat) : (u.event a b c d).pair = u.pair := State.mask_pair (P := but [.pair]) (by simp) rfl
  unfold State.noteShroud
  extract_lets x times
  split
  · rw [hev]
    exact hset _
  · exact hset _

/-- The state a message leaves before the pair's states follow: its sender noted, bays and modules after the peer's channels. -/
theorem State.heard_shape (s : State) (sh : Shroud) (m : LeaseMsg) : ∃ (u : State) (a b : ShroudSt) (w : Swap) (fresh : Bool),
    u.pair = s.pair.told a b w m ∧ (u.mask butFn).fnCore = (s.mask butFn).fnCore ∧ u.boot = s.boot ∧ u.clk = s.clk ∧
    s.heard sh m = if u.holder ∧ u.pair.term < m.term then u.lapse
      else if u.pair.st = .lapsed ∧ u.pair.term < m.term then u.lapsedJoin
      else if pairOf m.pstate = some .standby then u.toActive
      else if pairOf m.pstate = some .giving then u
      else if fresh then u.toSingle.sendResync else u.toSingle := by
  obtain ⟨a, b, hp⟩ := s.noteShroud_pair sh
  unfold State.heard
  extract_lets s1 before fresh s2 s3 s4 peer s5
  have h4 : s4.pair = s2.pair := State.mask_pair (P := but [.pair]) (by simp [s4, s3]) rfl
  refine ⟨s4, a, b, s2.pair.swap, decide fresh, ?_, ?_, ?_, ?_, ?_⟩
  · rw [h4]
    have h2 : s2.pair = s1.pair.told s1.pair.shA s1.pair.shB s2.pair.swap m := rfl
    have h1 : s1.pair = { s.pair with shA := a, shB := b } := hp
    rw [h2]
    generalize s2.pair.swap = w
    rw [h1]
    rfl
  · simp [s4, s3, s2, s1]
  · exact State.boot_of_mask (by simp [s4, s3, s2, s1])
  · exact (State.mask_clk (P := but [.clk]) (by simp [s4, s3, s2, s1]) rfl)
  · by_cases hf : fresh
    · simp [s5, peer, hf]
    · simp [s5, peer, hf]

end Sys2Proof.Machine
end

section
/-! PROOF. Lease messages and timers (O43). -/

namespace Sys2Proof.Machine

/-! ### What a message leaves -/

theorem State.holder_iff {s : State} : s.holder = true ↔ s.pair.st = .active ∨ s.pair.st = .single ∨ s.pair.st = .taking := by
  simp [State.holder, State.active, or_assoc]

theorem State.not_holder {s : State} (h : s.pair.st = .init ∨ s.pair.st = .joining ∨ s.pair.st = .standby ∨ s.pair.st = .giving ∨ s.pair.st = .lapsed) :
    s.holder = false := by
  rcases h with h | h | h | h | h <;> simp [State.holder, State.active, h]

/-- The pair's state may have gone between ACTIVE and SINGLE; the function, the start-up registers and the time are as they were. -/
def State.Follows (u v : State) : Prop :=
  ∃ p, v.pair = { u.pair with st := p } ∧ (p = u.pair.st ∨ (u.active = true ∧ (p = .active ∨ p = .single))) ∧ v.fn = u.fn ∧ v.boot = u.boot ∧ v.clk = u.clk

theorem State.Follows.refl (u : State) : u.Follows u := ⟨u.pair.st, rfl, .inl rfl, rfl, rfl, rfl⟩

theorem State.toActive_follows (u : State) : u.Follows u.toActive := by
  unfold State.toActive
  split
  · next h =>
    refine ⟨.active, ?_, .inr ⟨by simp [State.active, h], .inl rfl⟩, State.mask_fn (P := but [.fn]) (by simp) rfl, State.boot_of_mask (by simp),
      State.mask_clk (P := but [.clk]) (by simp) rfl⟩
    rw [State.setPair_pair]
    rfl
  · exact .refl u

theorem State.toSingle_follows (u : State) : u.Follows u.toSingle := by
  unfold State.toSingle
  split
  · next h =>
    refine ⟨.single, ?_, .inr ⟨by simp [State.active, h], .inr rfl⟩, State.mask_fn (P := but [.fn]) (by simp) rfl, State.boot_of_mask (by simp),
      State.mask_clk (P := but [.clk]) (by simp) rfl⟩
    have h1 (v : State) : v.tryAll.pair = v.pair := State.mask_pair (P := but [.pair]) (by simp) rfl
    rw [h1, State.setPair_pair]
  · exact .refl u

theorem State.sendResync_follows {u v : State} (h : u.Follows v) : u.Follows v.sendResync := by
  obtain ⟨p, h1, h2, h3, h4, h5⟩ := h
  have e1 : v.sendResync.pair = v.pair := State.mask_pair (P := but [.pair]) (by simp) rfl
  have e2 : v.sendResync.fn = v.fn := State.mask_fn (P := but [.fn]) (by simp) rfl
  have e3 : v.sendResync.boot = v.boot := State.boot_of_mask (by simp)
  have e4 : v.sendResync.clk = v.clk := State.mask_clk (P := but [.clk]) (by simp) rfl
  exact ⟨p, e1.trans h1, h2, e2.trans h3, e3.trans h4, e4.trans h5⟩

/-- A message of no higher TERM than a holder's own, or than a LAPSED controller's, tells of its sender; only the active's states follow. -/
theorem State.heard_follows {s : State} (sh : Shroud) {m : LeaseMsg} (hterm : s.holder = true ∨ s.pair.st = .lapsed → m.term ≤ s.pair.term) :
    ∃ a b w p, (s.heard sh m).pair = { s.pair.told a b w m with st := p } ∧ (p = s.pair.st ∨ (s.active = true ∧ (p = .active ∨ p = .single)))
      ∧ (s.heard sh m).fn.lanesOpen = s.fn.lanesOpen ∧ (s.heard sh m).leaseLen = s.leaseLen ∧ (s.heard sh m).boot = s.boot ∧ (s.heard sh m).clk = s.clk := by
  obtain ⟨u, a, b, w, fresh, hp, hfn, hb, hclk, hu⟩ := s.heard_shape sh m
  have hst : u.pair.st = s.pair.st := by rw [hp]; rfl
  have ht : u.pair.term = s.pair.term := by rw [hp]; rfl
  have hhold : u.holder = s.holder := by rw [State.holder, State.holder, State.active, State.active, hst]
  have h1 : ¬ (u.holder = true ∧ u.pair.term < m.term) := by
    rintro ⟨h1, h2⟩
    exact absurd (hterm (.inl (hhold ▸ h1))) (Nat.not_le.2 (ht ▸ h2))
  have h2 : ¬ (u.pair.st = .lapsed ∧ u.pair.term < m.term) := by
    rintro ⟨h1, h2⟩
    exact absurd (hterm (.inr (hst ▸ h1))) (Nat.not_le.2 (ht ▸ h2))
  rw [if_neg h1, if_neg h2] at hu
  obtain ⟨-, hlanes, -, -, hcom⟩ := State.fn_of_core hfn
  have hv : u.Follows (s.heard sh m) := by
    rw [hu]
    split
    · exact u.toActive_follows
    · split
      · exact .refl u
      · split
        · exact State.sendResync_follows u.toSingle_follows
        · exact u.toSingle_follows
  obtain ⟨p, hvp, hor, hvf, hvb, hvc⟩ := hv
  have hact : u.active = s.active := by rw [State.active, State.active, hst]
  rw [hst, hact] at hor
  refine ⟨a, b, w, p, hvp.trans (by rw [hp]), hor, (congrArg Fn.lanesOpen hvf).trans hlanes, ?_, hvb.trans hb, hvc.trans hclk⟩
  rw [State.leaseLen, State.leaseLen, State.decl, State.decl, hvf, hcom]

/-- A holder that hears of a higher TERM lapses. -/
theorem State.heard_lapses {s : State} (sh : Shroud) {m : LeaseMsg} (hh : s.holder = true) (hterm : s.pair.term < m.term) :
    ∃ (u : State) (a b : ShroudSt) (w : Swap), u.pair = s.pair.told a b w m ∧ s.heard sh m = u.lapse := by
  obtain ⟨u, a, b, w, fresh, hp, -, -, -, hu⟩ := s.heard_shape sh m
  have hst : u.pair.st = s.pair.st := by rw [hp]; rfl
  have ht : u.pair.term = s.pair.term := by rw [hp]; rfl
  have hhold : u.holder = true := by rw [← hh, State.holder, State.holder, State.active, State.active, hst]
  exact ⟨u, a, b, w, hp, by rw [hu, if_pos ⟨hhold, by rw [ht]; exact hterm⟩]⟩

/-- Whatever a message sets off, what it says of its sender is noted. -/
theorem State.heard_tells (s : State) (sh : Shroud) (m : LeaseMsg) : (s.heard sh m).pair.peerState = pairOf m.pstate ∧ (s.heard sh m).pair.peerReach = m.reach
    ∧ (s.heard sh m).pair.seenTerm = max s.pair.seenTerm m.term := by
  by_cases hlow : s.holder = true ∨ s.pair.st = .lapsed → m.term ≤ s.pair.term
  · obtain ⟨a, b, w, p, hp, -⟩ := s.heard_follows sh hlow
    rw [hp]
    exact ⟨rfl, rfl, rfl⟩
  · obtain ⟨h1, h2⟩ := Classical.not_imp.1 hlow
    rcases h1 with h1 | h1
    · obtain ⟨u, a, b, w, hp, hu⟩ := s.heard_lapses sh h1 (Nat.lt_of_not_le h2)
      obtain ⟨⟨x, hx⟩, -⟩ := u.lapse_ends
      rw [hu, hx, hp]
      exact ⟨rfl, rfl, rfl⟩
    · obtain ⟨u, a, b, w, fresh, hp, -, -, -, hu⟩ := s.heard_shape sh m
      have hst : u.pair.st = .lapsed := by rw [hp]; exact h1
      have hnh : ¬ (u.holder = true ∧ u.pair.term < m.term) := by simp [State.not_holder (.inr (.inr (.inr (.inr hst))))]
      have ht : u.pair.term < m.term := by rw [hp]; exact Nat.lt_of_not_le h2
      rw [hu, if_neg hnh, if_pos ⟨hst, ht⟩, u.lapsedJoin_ends.1, hp]
      exact ⟨rfl, rfl, rfl⟩

/-- What `takes` says, of a state whose registers are those of a take. -/
theorem PairSt.taken_takes {p q : PairSt} {k : TakeKind} {now seen : Nat} (h : q = p.taken k now) (hseen : p.seenTerm = seen) :
    q.st = .taking ∧ q.hold = .self ∧ q.take = k ∧ q.takeStep = 1 ∧ q.term = max p.term seen + 1 := by
  subst h hseen
  exact ⟨rfl, rfl, rfl, rfl, rfl⟩

/-! ### RENEW and GRANT -/

/-- The state that has granted a RENEW. -/
def State.granting (s1 : State) (now : Nat) (sh : Shroud) (m : LeaseMsg) : State :=
  let s2 := (s1.onPair fun p => { p with lastRenew := now, lastGranted := true }).followRclk m
  s2.emit (.lease sh { s2.mkLease 2 m.seq false false with term := m.term })

theorem State.granting_pair (s1 : State) (now : Nat) (sh : Shroud) (m : LeaseMsg) :
    (s1.granting now sh m).pair = { s1.pair with lastRenew := now, lastGranted := true } ∧ (s1.granting now sh m).boot = s1.boot
      ∧ ∃ g, Emit.lease sh g ∈ (s1.granting now sh m).out ∧ g.type = 2 ∧ g.seq = m.seq ∧ g.term = m.term := by
  unfold State.granting
  extract_lets s2
  have h1 : s2.pair = { s1.pair with lastRenew := now, lastGranted := true } := State.mask_pair (State.followRclk_mask (P := but [.pair]) rfl _ m) rfl
  have h2 : s2.boot = s1.boot := State.mask_boot (State.followRclk_mask (P := but [.boot]) rfl _ m) rfl
  exact ⟨h1, h2, _, List.mem_cons_self, rfl, rfl, rfl⟩

/-- The pair's state after a grant: INIT past start-up step 10 joins, and GIVING of a lower TERM is STANDBY. -/
def State.granted (v : State) (m : LeaseMsg) : State :=
  match v.pair.st with
  | .init => if 10 ≤ v.boot.step then v.join else v
  | .giving => if v.pair.term < m.term then v.setPair .standby else v
  | .joining | .standby | .active | .single | .taking | .lapsed => v

theorem exec_renewRx {s : State} {sh : Shroud} {m : LeaseMsg} (haw : s.awake = true) (hv : leaseValid m = true) (ht : m.type = 1) :
    exec (.renewRx sh m) s = .next (if (s.takePast.heard sh m).holder = true ∨ m.term < (s.takePast.heard sh m).pair.seenTerm then s.takePast.heard sh m
      else ((s.takePast.heard sh m).granting s.now sh m).granted m) := by
  have hgo : ¬ ((!s.awake || !leaseValid m || m.type != 1) = true) := by simp [haw, hv, ht]
  rw [show exec (.renewRx sh m) s = execRenewRx sh m s from rfl, execRenewRx, if_neg hgo]
  dsimp only
  generalize s.takePast.heard sh m = s1
  unfold State.granted State.granting
  rfl

/-- A state whose lease a take has gone ahead for, or that waits on, before a message arrives. -/
theorem State.takePast_early {s : State} (h : ((s.pair.st = .standby ∨ s.pair.st = .joining) ∧ s.now ≤ s.pair.lastRenew + (s.leaseLen + s.takerGuard))
    ∨ s.pair.st = .init ∨ (s.pair.st = .giving ∧ s.now ≤ s.pair.releaseAt + (s.leaseLen + s.takerGuard))) : s.takePast = s := by
  unfold State.takePast
  rcases h with ⟨h | h, hn⟩ | h | ⟨h, hn⟩
  · simp [h, Nat.not_lt.2 hn]
  · simp [h, Nat.not_lt.2 hn]
  · simp [h]
  · simp [h, Nat.not_lt.2 hn]

/-- What `granted` does to a controller that holds no lease. -/
theorem State.granted_ends {v : State} {m : LeaseMsg} (h : v.pair.st = .standby ∨ v.pair.st = .joining ∨ (v.pair.st = .init ∧ 10 ≤ v.boot.step)
    ∨ (v.pair.st = .giving ∧ v.pair.term < m.term)) :
    (v.granted m).pair.lastRenew = v.pair.lastRenew ∧ (v.granted m).pair.lastGranted = v.pair.lastGranted
      ∧ (v.granted m).pair.st = (match v.pair.st with | .init => .joining | .giving => .standby | x => x) ∧ v.Says (v.granted m) := by
  unfold State.granted
  rcases h with h | h | ⟨h, h2⟩ | ⟨h, h2⟩
  · rw [h]
    exact ⟨rfl, rfl, h, .refl v⟩
  · rw [h]
    exact ⟨rfl, rfl, h, .refl v⟩
  · rw [h]
    dsimp only
    rw [if_pos h2, State.join_pair]
    have h1 : v.Says (v.onPair fun p => { p with hold := .no, resync := 0, takeStep := 0 }) := .refl v
    exact ⟨rfl, rfl, rfl, (h1.trans (State.setPair_says _ _)).trans (State.modulesBack_says _)⟩
  · rw [h]
    dsimp only
    rw [if_pos h2, State.setPair_pair]
    exact ⟨rfl, rfl, rfl, v.setPair_says _⟩

theorem renewRx_grants {s : State} {sh : Shroud} {m : LeaseMsg} (haw : s.awake = true) (hv : leaseValid m = true) (ht : m.type = 1)
    (hseen : s.pair.seenTerm ≤ m.term)
    (h : ((s.pair.st = .standby ∨ s.pair.st = .joining) ∧ s.now ≤ s.pair.lastRenew + (s.leaseLen + s.takerGuard)) ∨ (s.pair.st = .init ∧ 10 ≤ s.boot.step)
      ∨ (s.pair.st = .giving ∧ s.now ≤ s.pair.releaseAt + (s.leaseLen + s.takerGuard) ∧ s.pair.term < m.term)) :
    Completes (.renewRx sh m) s fun t => t.pair.lastRenew = s.now ∧ t.pair.lastGranted = true
      ∧ t.pair.st = (match s.pair.st with | .init => .joining | .giving => .standby | x => x)
      ∧ ∃ g, Emit.lease sh g ∈ t.out ∧ g.type = 2 ∧ g.seq = m.seq ∧ g.term = m.term := by
  have hpast : s.takePast = s := State.takePast_early (h.imp_right (Or.imp And.left fun h => ⟨h.1, h.2.1⟩))
  have hcases : s.pair.st = .init ∨ s.pair.st = .joining ∨ s.pair.st = .standby ∨ s.pair.st = .giving := by
    rcases h with ⟨h | h, -⟩ | ⟨h, -⟩ | ⟨h, -⟩ <;> simp [h]
  have hact : s.active = false := by rcases hcases with h | h | h | h <;> simp [State.active, h]
  have hidle : s.holder = true ∨ s.pair.st = .lapsed → m.term ≤ s.pair.term := by
    rcases hcases with h | h | h | h <;> simp [State.holder, State.active, h]
  obtain ⟨a, b, w, p, hp, hor, -, -, hboot, -⟩ := s.heard_follows sh hidle
  obtain rfl : p = s.pair.st := hor.resolve_right fun hc => by simp [hact] at hc
  have hex := exec_renewRx (sh := sh) haw hv ht
  rw [hpast] at hex
  generalize s.heard sh m = u at hp hboot hex
  have hst : u.pair.st = s.pair.st := by rw [hp]
  have hterm : u.pair.term = s.pair.term := by rw [hp]; rfl
  have hlow : ¬ (u.holder = true ∨ m.term < u.pair.seenTerm) := by
    rintro (h1 | h1)
    · rw [State.holder_iff, hst] at h1
      rcases hcases with h | h | h | h <;> simp [h] at h1
    · rw [hp] at h1
      have h2 : m.term < max s.pair.seenTerm m.term := h1
      omega
  rw [if_neg hlow] at hex
  obtain ⟨e1, e2, g, e3, e4⟩ := u.granting_pair s.now sh m
  have est : (u.granting s.now sh m).pair.st = s.pair.st := by rw [e1]; exact hst
  have eterm : (u.granting s.now sh m).pair.term = s.pair.term := by rw [e1]; exact hterm
  obtain ⟨r1, r2, r3, r4⟩ := State.granted_ends (v := u.granting s.now sh m) (m := m) (by
    rw [est, e2, hboot, eterm]
    rcases h with ⟨h | h, -⟩ | ⟨h, h2⟩ | ⟨h, -, h2⟩
    · exact .inl h
    · exact .inr (.inl h)
    · exact .inr (.inr (.inl ⟨h, h2⟩))
    · exact .inr (.inr (.inr ⟨h, h2⟩)))
  rw [est] at r3
  exact ⟨_, hex, r1.trans (by rw [e1]), r2.trans (by rw [e1]), r3, g, r4.mem e3, e4⟩

/-- A controller that holds the lease waits to take none. -/
theorem State.takePast_holder {s : State} (h : s.holder = true) : s.takePast = s := by
  unfold State.takePast
  rcases State.holder_iff.1 h with h | h | h <;> simp [h]

/-- What `lapses` says of a state. -/
def State.lapsedNow (t : State) : Prop :=
  t.pair.st = .lapsed ∧ t.pair.hold = .no ∧ t.reb.st = .held ∧ ∀ b : Fin 48, (t.port b).modSt ≠ .inService ∧ (t.port b).modSt ≠ .fencing ∧ (t.port b).modSt ≠ .unreachable

theorem State.lapse_lapsedNow (s : State) : s.lapse.lapsedNow := by
  obtain ⟨⟨x, hx⟩, h2, h3⟩ := s.lapse_ends
  exact ⟨by rw [hx]; rfl, by rw [hx]; rfl, h2, fun b => h3 b.val b.isLt⟩

/-- A RENEW that comes after the taking time is ignored and the take proceeds. -/
theorem renewRx_late {s : State} {sh : Shroud} {m : LeaseMsg} (haw : s.awake = true) (hv : leaseValid m = true) (ht : m.type = 1)
    (hst : s.pair.st = .standby) (hlate : s.pair.lastRenew + (s.leaseLen + s.takerGuard) < s.now) (hterm : m.term ≤ s.pair.seenTerm) :
    Completes (.renewRx sh m) s fun t => (t.pair.st = .taking ∧ t.pair.hold = .self ∧ t.pair.take = .warm ∧ t.pair.takeStep = 1
      ∧ t.pair.term = max s.pair.term s.pair.seenTerm + 1 ∧ t.fn.lanesOpen = false) ∧ t.pair.lastRenew = s.now := by
  have hpast : s.takePast = s.takeLease .warm := by
    unfold State.takePast
    simp only [hst]
    exact if_pos hlate
  obtain ⟨hp, hlanes⟩ := s.takeLease_pair .warm
  have hex := exec_renewRx (sh := sh) haw hv ht
  rw [hpast] at hex
  generalize s.takeLease .warm = u at hp hlanes hex
  have hut : u.pair.term = max s.pair.term s.pair.seenTerm + 1 := by rw [hp]; rfl
  have hust : u.pair.st = .taking := by rw [hp]; rfl
  obtain ⟨a, b, w, p, hq, hor, hl, -⟩ := u.heard_follows sh (m := m) fun _ => by rw [hut]; omega
  obtain rfl : p = u.pair.st := hor.resolve_right fun hc => by simp [State.active, hust] at hc
  generalize u.heard sh m = v at hq hl hex
  have hhold : v.holder = true := State.holder_iff.2 (.inr (.inr (by rw [hq]; exact hust)))
  rw [if_pos (.inl hhold)] at hex
  refine ⟨v, hex, ⟨?_, ?_, ?_, ?_, ?_, hl.trans hlanes⟩, ?_⟩ <;> rw [hq, hp] <;> rfl

/-- A RENEW of a higher TERM ends a holder's lease. -/
theorem renewRx_higher {s : State} {sh : Shroud} {m : LeaseMsg} (haw : s.awake = true) (hv : leaseValid m = true) (ht : m.type = 1)
    (hh : s.holder = true) (hterm : s.pair.term < m.term) : Completes (.renewRx sh m) s State.lapsedNow := by
  have hex := exec_renewRx (sh := sh) haw hv ht
  rw [State.takePast_holder hh] at hex
  obtain ⟨u, a, b, w, -, hu⟩ := s.heard_lapses sh hh hterm
  rw [hu] at hex
  obtain ⟨h1, h2, h3, h4⟩ := u.lapse_lapsedNow
  generalize u.lapse = v at hex h1 h2 h3 h4
  split at hex
  · exact ⟨v, hex, h1, h2, h3, h4⟩
  · obtain ⟨e1, -, -⟩ := v.granting_pair s.now sh m
    have hreb : (v.granting s.now sh m).reb = v.reb := State.mask_reb (t := v.granting s.now sh m) (s := v) (P := but [.reb]) (by simp [State.granting]) rfl
    have hport : (v.granting s.now sh m).port = v.port :=
      funext fun b => congrArg (fun l => nth l b Port.reset) (State.ports_of_mask (s := v) (t := v.granting s.now sh m) (by simp [State.granting]))
    have hst : (v.granting s.now sh m).pair.st = .lapsed := by rw [e1]; exact h1
    have hg : (v.granting s.now sh m).granted m = v.granting s.now sh m := by
      rw [State.granted, hst]
    rw [hg] at hex
    exact ⟨_, hex, hst, by rw [e1]; exact h2, by rw [hreb]; exact h3, by rw [hport]; exact h4⟩

/-- What a GRANT that has been heard does at a holder of its TERM. -/
def State.grantTaken (s1 : State) (m : LeaseMsg) : State :=
  if !s1.holder || m.term != s1.pair.term then s1
  else match s1.pair.sent.find? fun e => e.1 == m.seq with
    | none => s1
    | some e => (s1.onPair fun p =>
        { p with sent := p.sent.filter fun x => x.1 != m.seq, expiry := e.2 + s1.leaseLen, hold := .granted }).tryAll

theorem exec_grantRx {s : State} {sh : Shroud} {m : LeaseMsg} (haw : s.awake = true) (hv : leaseValid m = true) (ht : m.type = 2) :
    exec (.grantRx sh m) s = .next ((s.stopPast.heard sh m).grantTaken m) := by
  have hgo : ¬ ((!s.awake || !leaseValid m || m.type != 2) = true) := by simp [haw, hv, ht]
  rw [show exec (.grantRx sh m) s = execGrantRx sh m s from rfl, execGrantRx, if_neg hgo]
  dsimp only
  generalize s.stopPast.heard sh m = s1
  unfold State.grantTaken
  rfl

/-- A GRANT of a RENEW that is out sets the expiry. -/
theorem grantRx_grants {s : State} {sh : Shroud} {m : LeaseMsg} {e : Nat × Nat} (haw : s.awake = true) (hv : leaseValid m = true) (ht : m.type = 2)
    (hh : s.holder = true) (hearly : s.pair.hold = .granted → s.now + s.holderGuard ≤ s.pair.expiry) (hterm : m.term = s.pair.term)
    (hsent : s.pair.sent.find? (fun e => e.1 == m.seq) = some e) :
    Completes (.grantRx sh m) s fun t => t.pair.hold = .granted ∧ t.pair.expiry = e.2 + s.leaseLen ∧ ∀ x ∈ t.pair.sent, x.1 ≠ m.seq := by
  have hpast : s.stopPast = s := by
    unfold State.stopPast
    by_cases hg : s.pair.hold = .granted
    · simp [Nat.not_lt.2 (hearly hg)]
    · simp [hg]
  have hex := exec_grantRx (sh := sh) haw hv ht
  rw [hpast] at hex
  obtain ⟨a, b, w, p, hp, hor, -, hlen, -⟩ := s.heard_follows sh (m := m) fun _ => hterm.le
  generalize s.heard sh m = u at hp hlen hex
  have hhold : u.holder = true := by
    have hst : u.pair.st = p := by rw [hp]
    rcases hor with rfl | ⟨-, hor⟩
    · rwa [State.holder_iff, hst, ← State.holder_iff]
    · rw [State.holder_iff, hst]
      rcases hor with h | h
      · exact .inl h
      · exact .inr (.inl h)
  have hut : u.pair.term = s.pair.term := by rw [hp]; rfl
  have hus : u.pair.sent = s.pair.sent := by rw [hp]; rfl
  rw [State.grantTaken, if_neg (by simp [hhold, hut, hterm]), hus, hsent] at hex
  dsimp only at hex
  have htry (v : State) : v.tryAll.pair = v.pair := State.mask_pair (P := but [.pair]) (by simp) rfl
  refine ⟨_, hex, ?_⟩
  beta_reduce
  rw [htry, hlen]
  exact ⟨rfl, rfl, fun x hx => by simpa using (List.mem_filter.1 hx).2⟩

/-- A GRANT past the holder's stop time does not count: the holder is LAPSED. -/
theorem grantRx_late {s : State} {sh : Shroud} {m : LeaseMsg} (haw : s.awake = true) (hv : leaseValid m = true) (ht : m.type = 2)
    (hh : s.holder = true) (hg : s.pair.hold = .granted) (hlate : s.pair.expiry < s.now + s.holderGuard) (hterm : m.term ≤ s.pair.term) :
    Completes (.grantRx sh m) s fun t => t.pair.st = .lapsed ∧ t.pair.hold = .no := by
  have hpast : s.stopPast = s.lapse := by simp [State.stopPast, hh, hg, hlate]
  have hex := exec_grantRx (sh := sh) haw hv ht
  rw [hpast] at hex
  obtain ⟨⟨x, hx⟩, -⟩ := s.lapse_ends
  generalize s.lapse = u at hx hex
  have hut : u.pair.term = s.pair.term := by rw [hx]; rfl
  have hust : u.pair.st = .lapsed := by rw [hx]; rfl
  obtain ⟨a, b, w, p, hp, hor, -⟩ := u.heard_follows sh (m := m) fun _ => by rw [hut]; exact hterm
  obtain rfl : p = u.pair.st := hor.resolve_right fun hc => by simp [State.active, hust] at hc
  generalize u.heard sh m = v at hp hex
  have hst : v.pair.st = .lapsed := by rw [hp]; exact hust
  have hno : v.pair.hold = .no := by rw [hp, hx]; rfl
  rw [State.grantTaken, if_pos (by simp [State.not_holder (.inr (.inr (.inr (.inr hst))))])] at hex
  exact ⟨v, hex, hst, hno⟩

/-! ### RELEASE -/

/-- What `takes` says of a state that has taken the lease. -/
theorem State.takeLease_takes (s : State) (k : TakeKind) : (s.takeLease k).pair.st = .taking ∧ (s.takeLease k).pair.hold = .self
    ∧ (s.takeLease k).pair.take = k ∧ (s.takeLease k).pair.takeStep = 1 ∧ (s.takeLease k).pair.term = max s.pair.term s.pair.seenTerm + 1
    ∧ (s.takeLease k).fn.lanesOpen = false := by
  obtain ⟨h1, h2⟩ := s.takeLease_pair k
  refine ⟨?_, ?_, ?_, ?_, ?_, h2⟩ <;> rw [h1] <;> rfl

/-- What a RELEASE that has been heard does. -/
def State.releaseTaken (s1 : State) (m : LeaseMsg) : State :=
  if m.withdraw then
    if s1.holder then s1.onPair fun p => { p with hold := .self, sent := [] } else s1
  else if m.term < s1.pair.term then s1
  else match s1.pair.st with
    | .joining => s1.takeLease .cold
    | .standby => s1.takeLease (if m.toPeer then .swap else .warm)
    | .init | .active | .single | .taking | .giving | .lapsed => s1

theorem exec_releaseRx {s : State} {sh : Shroud} {m : LeaseMsg} (haw : s.awake = true) (hv : leaseValid m = true) (ht : m.type = 3) :
    exec (.releaseRx sh m) s = .next ((s.heard sh m).releaseTaken m) := by
  have hgo : ¬ ((!s.awake || !leaseValid m || m.type != 3) = true) := by simp [haw, hv, ht]
  rw [show exec (.releaseRx sh m) s = execReleaseRx sh m s from rfl, execReleaseRx, if_neg hgo]
  dsimp only
  generalize s.heard sh m = s1
  unfold State.releaseTaken
  rfl

theorem releaseRx_withdraws {s : State} {sh : Shroud} {m : LeaseMsg} (haw : s.awake = true) (hv : leaseValid m = true) (ht : m.type = 3)
    (hw : m.withdraw = true) (hh : s.holder = true) (hterm : m.term ≤ s.pair.term) :
    Completes (.releaseRx sh m) s fun t => t.pair.hold = .self ∧ t.pair.sent = [] := by
  have hex := exec_releaseRx (sh := sh) haw hv ht
  obtain ⟨a, b, w, p, hp, hor, -⟩ := s.heard_follows sh (m := m) fun _ => hterm
  generalize s.heard sh m = u at hp hex
  have hhold : u.holder = true := by
    have hst : u.pair.st = p := by rw [hp]
    rcases hor with rfl | ⟨-, hor⟩
    · rwa [State.holder_iff, hst, ← State.holder_iff]
    · rw [State.holder_iff, hst]
      exact hor.imp_right .inl
  rw [State.releaseTaken, if_pos hw, if_pos hhold] at hex
  exact ⟨_, hex, rfl, rfl⟩

/-- A RELEASE lets a controller that has joined take: a state of no higher TERM has heard it, and takes. -/
theorem releaseRx_takes {s : State} {sh : Shroud} {m : LeaseMsg} (haw : s.awake = true) (hv : leaseValid m = true) (ht : m.type = 3)
    (hw : m.withdraw = false) (hterm : s.pair.term ≤ m.term) {k : TakeKind}
    (h : (s.pair.st = .joining ∧ k = .cold) ∨ (s.pair.st = .standby ∧ k = if m.toPeer then .swap else .warm)) :
    Completes (.releaseRx sh m) s fun t => t.pair.st = .taking ∧ t.pair.hold = .self ∧ t.pair.take = k ∧ t.pair.takeStep = 1
      ∧ t.pair.term = max s.pair.term (max s.pair.seenTerm m.term) + 1 ∧ t.fn.lanesOpen = false := by
  have hex := exec_releaseRx (sh := sh) haw hv ht
  have hidle : s.holder = true ∨ s.pair.st = .lapsed → m.term ≤ s.pair.term := by
    rcases h with ⟨h, -⟩ | ⟨h, -⟩ <;> simp [State.holder, State.active, h]
  have hact : s.active = false := by rcases h with ⟨h, -⟩ | ⟨h, -⟩ <;> simp [State.active, h]
  obtain ⟨a, b, w, p, hp, hor, -⟩ := s.heard_follows sh hidle
  obtain rfl : p = s.pair.st := hor.resolve_right fun hc => by simp [hact] at hc
  generalize s.heard sh m = u at hp hex
  have hst : u.pair.st = s.pair.st := by rw [hp]
  have hut : u.pair.term = s.pair.term := by rw [hp]; rfl
  have hus : u.pair.seenTerm = max s.pair.seenTerm m.term := by rw [hp]; rfl
  rw [State.releaseTaken, if_neg (by simp [hw]), if_neg (by rw [hut]; exact Nat.not_lt.2 hterm), hst] at hex
  have htakes := u.takeLease_takes k
  rw [hut, hus] at htakes
  rcases h with ⟨h, rfl⟩ | ⟨h, rfl⟩
  · rw [h] at hex
    dsimp only at hex
    exact ⟨_, hex, htakes⟩
  · rw [h] at hex
    dsimp only at hex
    exact ⟨_, hex, htakes⟩

/-! ### Timers -/

theorem renewTimer_renews {s : State} (haw : s.awake = true) (hh : s.holder = true) :
    Completes .renewTimer s fun t => t.pair.seq = (s.pair.seq + 1) % 2 ^ 32 ∧ (t.pair.seq, s.now) ∈ t.pair.sent
      ∧ ∃ m, Emit.lease .b m ∈ t.out ∧ (s.peerLink = true → Emit.lease .a m ∈ t.out) ∧ m.type = 1 ∧ m.seq = t.pair.seq ∧ m.term = s.pair.term := by
  obtain ⟨n, hn⟩ : ∃ n, n = (s.pair.seq + 1) % 2 ^ 32 := ⟨_, rfl⟩
  let s1 := s.onPair fun p => { p with seq := n, sent := (p.sent.filter fun e => decide (s.now ≤ e.2 + s.leaseLen)) ++ [(n, s.now)] }
  have hex : exec .renewTimer s = .next (s1.sendLease (s1.mkLease 1 n false false)) := by
    simp only [exec, execRenewTimer, haw, hh, ← hn]
    rfl
  obtain ⟨-, h1, h2⟩ := s1.sendLease_says (s1.mkLease 1 n false false)
  have hp : (s1.sendLease (s1.mkLease 1 n false false)).pair = s1.pair := State.mask_pair (P := but [.pair]) (by simp) rfl
  refine ⟨_, hex, ?_⟩
  beta_reduce
  rw [hp]
  exact ⟨hn, List.mem_append_right _ List.mem_cons_self, _, h1, h2, rfl, rfl, rfl⟩

theorem renewTimer_hello {s : State} (haw : s.awake = true) (hst : s.pair.st = .init) :
    Completes .renewTimer s fun t => t.pair = s.pair ∧ ∃ m, Emit.lease .b m ∈ t.out ∧ m.type = 4 := by
  have hno : ¬ s.holder = true := by simp [State.not_holder (.inl hst)]
  have hex : exec .renewTimer s = .next (s.sendLease (s.mkLease 4 0 false false)) := by
    simp only [exec, execRenewTimer, haw, hst, if_neg hno]
    rfl
  obtain ⟨-, h1, -⟩ := s.sendLease_says (s.mkLease 4 0 false false)
  exact ⟨_, hex, State.mask_pair (P := but [.pair]) (by simp) rfl, _, h1, rfl⟩

/-! ### The probe of a LAPSED controller -/

/-- The state that asks every module for its STATUS, once. -/
def State.probing (s : State) : State := if s.pair.takeStep = 0 then s.statusAll.onPair fun p => { p with takeStep := 1 } else s

/-- Whether a module that answered reports an epoch or an owner that is not this controller's. -/
def State.strange (s1 s : State) : Bool :=
  s1.sheet.ports.any fun p => p.up && p.answered && (p.epochSeen != s.sheet.epoch || p.ownerSeen != if s.boot.board.slot = 2 then 2 else 1)

theorem exec_lapsedProbe {s : State} (haw : s.awake = true) (hst : s.pair.st = .lapsed) (hfn : s.fn.st ≠ .fenced)
    (hdue : s.pair.lapsedT + s.takerGuard + ms 12 ≤ s.now) :
    exec .lapsedProbe s = .next (if s.pair.heardSince = true then s.lapsedJoin else if s.probing.statusOut = true then s.probing
      else if s.probing.strange s = true then s.probing.lapsedJoin else s.probing.takeLease .probe) := by
  have hgo : ¬ ((!s.awake || s.pair.st != .lapsed || s.fn.st == .fenced || decide (s.now < s.pair.lapsedT + s.takerGuard + ms 12)) = true) := by
    simp [haw, hst, hfn, Nat.not_lt.2 hdue]
  rw [show exec .lapsedProbe s = execLapsedProbe s from rfl, execLapsedProbe, if_neg hgo]
  rfl

/-- With every port down there is nothing to ask. -/
theorem State.probing_down {s : State} (h : ∀ p ∈ s.sheet.ports, p.up = false) :
    (s.probing.pair.term = s.pair.term ∧ s.probing.pair.seenTerm = s.pair.seenTerm) ∧ s.probing.sheet.ports = s.sheet.ports := by
  have hall : s.statusAll = s := by
    refine List.foldl_fixed' (fun b => if_neg ?_) _
    have hup : (s.port b).up = false := by
      by_cases hb : b < s.sheet.ports.length
      · rw [State.port, nth, List.getD_eq_getElem _ _ hb]
        exact h _ (List.getElem_mem hb)
      · rw [State.port, nth, List.getD_eq_default _ _ (Nat.not_lt.1 hb)]
        rfl
    simp [hup]
  unfold State.probing
  split
  · rw [hall]
    exact ⟨⟨rfl, rfl⟩, rfl⟩
  · exact ⟨⟨rfl, rfl⟩, rfl⟩

theorem State.not_statusOut {s : State} (h : ∀ p ∈ s.sheet.ports, p.up = true → ∀ e ∈ p.ops, e.2.code ≠ 4) : ¬ s.statusOut = true := by
  intro hc
  obtain ⟨p, hp, hq⟩ := List.any_eq_true.1 hc
  simp only [Bool.and_eq_true, List.any_eq_true, beq_iff_eq] at hq
  obtain ⟨hup, e, he, hcode⟩ := hq
  exact h p hp hup e he hcode

/-- Settles O43: each message and timer moves the pair as its section says. -/
theorem leaseMessages : Obligations.LeaseMessages := by
  intro s haw hports
  have hprobe := @exec_lapsedProbe s haw
  refine And.intro (renewTimer_renews haw) (And.intro (renewTimer_hello haw) (And.intro (fun sh m hv => ⟨fun ht => ⟨fun hseen hcase => ?_, fun hst hlate hterm => ?_, fun hh hterm => ?_⟩,
    fun e ht hh hearly hterm hsent => ?_, fun ht hh hg hlate hterm => ?_, fun ht => ⟨fun hw hh hterm => ?_, fun hw hterm => ⟨fun hst => ?_, fun hst => ?_⟩⟩, fun ht => ?_⟩)
    ⟨fun hh hg => ⟨fun hdue => ?_, fun hearly => ?_⟩, ⟨fun hst hdue => ?_, fun hst hdue => ?_, fun hst hdue => ?_, fun hst hearly => ?_⟩,
      fun hst hstep href hcom hfn hdue => ⟨fun hnone hsil => ?_, fun hsome hearly => ?_⟩, fun hst hfn => ⟨fun hdue => ⟨fun hheard => ?_, fun hheard hdown => ?_,
        fun hheard hstep => ⟨fun hout => ?_, fun hnone => ⟨fun hown => ?_, fun hbad => ?_⟩⟩⟩, fun hearly => ?_⟩⟩))
  · exact renewRx_grants haw hv ht hseen hcase
  · exact renewRx_late haw hv ht hst hlate hterm
  · exact renewRx_higher haw hv ht hh hterm
  · exact grantRx_grants haw hv ht hh hearly hterm hsent
  · exact grantRx_late haw hv ht hh hg hlate hterm
  · exact releaseRx_withdraws haw hv ht hw hh hterm
  · exact releaseRx_takes haw hv ht hw hterm (.inl ⟨hst, rfl⟩)
  · exact releaseRx_takes haw hv ht hw hterm (.inr ⟨hst, rfl⟩)
  · have hex : exec (.helloRx sh m) s = .next (s.heard sh m) := congrArg Host.Outcome.next (if_neg (by simp [haw, hv, ht]))
    exact ⟨_, hex, s.heard_tells sh m⟩
  · have hex : exec .leaseHolderStop s = .next s.lapse := congrArg Host.Outcome.next (if_pos (by simp [haw, hh, hg, hdue]))
    exact ⟨_, hex, s.lapse_lapsedNow⟩
  · exact congrArg Host.Outcome.next (if_neg (by simp [Nat.not_le.2 hearly]))
  · have hex : exec .leaseTakeTimer s = .next (s.takeLease .cold) := by
      simp only [exec, execLeaseTakeTimer, haw, hst]
      exact congrArg Host.Outcome.next (if_pos hdue)
    exact ⟨_, hex, s.takeLease_takes .cold⟩
  · have hex : exec .leaseTakeTimer s = .next (s.takeLease .warm) := by
      simp only [exec, execLeaseTakeTimer, haw, hst]
      exact congrArg Host.Outcome.next (if_pos hdue)
    exact ⟨_, hex, s.takeLease_takes .warm⟩
  · have hex : exec .leaseTakeTimer s = .next (s.takeLease .warm) := by
      simp only [exec, execLeaseTakeTimer, haw, hst]
      exact congrArg Host.Outcome.next (if_pos hdue)
    exact ⟨_, hex, s.takeLease_takes .warm⟩
  · rcases hst with hst | hst
    · simp only [exec, execLeaseTakeTimer, haw, hst]
      exact congrArg Host.Outcome.next (if_neg (Nat.not_le.2 hearly))
    · simp only [exec, execLeaseTakeTimer, haw, hst]
      exact congrArg Host.Outcome.next (if_neg (Nat.not_le.2 hearly))
  · have hex : exec .coldTakeTimer s = .next (s.takeLease .cold) :=
      congrArg Host.Outcome.next (if_pos (by simp [haw, hst, hstep, href, hcom, hdue, hnone, hsil, hfn]))
    exact ⟨_, hex, s.takeLease_takes .cold⟩
  · have hno : ¬ (s.pair.lastRenew = 0 ∨ s.pair.lastRenew + 2 * s.leaseLen ≤ s.now) := by omega
    exact congrArg Host.Outcome.next (if_neg (by simp [hno]))
  · have hex : exec .lapsedProbe s = .next s.lapsedJoin := by rw [hprobe hst hfn hdue, if_pos hheard]
    exact ⟨_, hex, by rw [s.lapsedJoin_ends.1]; rfl, s.lapsedJoin_ends.2⟩
  · obtain ⟨hp, hports⟩ := s.probing_down hdown
    have hnoUp (p : Port) (hp : p ∈ s.probing.sheet.ports) : ¬ p.up = true := by
      rw [hdown p (hports ▸ hp)]
      decide
    have hquiet : ¬ s.probing.statusOut = true := State.not_statusOut fun p hp hup => absurd hup (hnoUp p hp)
    have hsame : ¬ s.probing.strange s = true := fun hc => by
      obtain ⟨p, hp, hq⟩ := List.any_eq_true.1 hc
      simp only [Bool.and_eq_true] at hq
      exact hnoUp p hp hq.1.1
    have hex : exec .lapsedProbe s = .next (s.probing.takeLease .probe) := by
      rw [hprobe hst hfn hdue, if_neg (by simp [hheard]), if_neg hquiet, if_neg hsame]
    have htakes := s.probing.takeLease_takes .probe
    rw [hp.1, hp.2] at htakes
    exact ⟨_, hex, htakes⟩
  · obtain ⟨p, hp, hup, e, he, hcode⟩ := hout
    have hp1 : s.probing = s := if_neg hstep
    have hout : s.statusOut = true := List.any_eq_true.2 ⟨p, hp, by simp only [hup, Bool.true_and, List.any_eq_true]; exact ⟨e, he, by simp [hcode]⟩⟩
    rw [hprobe hst hfn hdue, if_neg (by simp [hheard]), hp1, if_pos hout]
  · have hp1 : s.probing = s := if_neg hstep
    have hex : exec .lapsedProbe s = .next (s.takeLease .probe) := by
      rw [hprobe hst hfn hdue, if_neg (by simp [hheard]), hp1, if_neg (State.not_statusOut hnone), if_neg ?_]
      intro hc
      obtain ⟨p, hp, hq⟩ := List.any_eq_true.1 hc
      simp only [Bool.and_eq_true, Bool.or_eq_true, bne_iff_ne] at hq
      obtain ⟨⟨hup, hans⟩, hne⟩ := hq
      obtain ⟨h1, h2⟩ := hown p hp hup hans
      exact hne.elim (absurd h1) (absurd h2)
    exact ⟨_, hex, s.takeLease_takes .probe⟩
  · have hp1 : s.probing = s := if_neg hstep
    have hex : exec .lapsedProbe s = .next s.lapsedJoin := by
      rw [hprobe hst hfn hdue, if_neg (by simp [hheard]), hp1, if_neg (State.not_statusOut hnone), if_pos ?_]
      obtain ⟨p, hp, hup, hans, hne⟩ := hbad
      exact List.any_eq_true.2 ⟨p, hp, by simp [hup, hans, hne]⟩
    exact ⟨_, hex, by rw [s.lapsedJoin_ends.1]; rfl, s.lapsedJoin_ends.2⟩
  · exact congrArg Host.Outcome.next (if_pos (by simp [hearly]))

end Sys2Proof.Machine
end

section
/-! PROOF. Taking over, swapping and draining, and what the peer link and the shrouds do (O44). -/

namespace Sys2Proof.Machine

/-! ### Fencing -/

/-- `t` is `s` but for what its port `b` holds: as many ports, the same epoch, the other ports as they were. -/
def State.OnlyPort (b : Nat) (s t : State) : Prop :=
  t.sheet.ports.length = s.sheet.ports.length ∧ t.sheet.epoch = s.sheet.epoch ∧ ∀ c, c ≠ b → t.port c = s.port c

theorem State.OnlyPort.refl (b : Nat) (s : State) : State.OnlyPort b s s := ⟨rfl, rfl, fun _ _ => rfl⟩

theorem State.OnlyPort.trans {b : Nat} {s t u : State} (h : State.OnlyPort b s t) (h2 : State.OnlyPort b t u) : State.OnlyPort b s u :=
  ⟨h2.1.trans h.1, h2.2.1.trans h.2.1, fun c hc => (h2.2.2 c hc).trans (h.2.2 c hc)⟩

theorem State.onPort_onlyPort (s : State) (b : Nat) (g : Port → Port) : State.OnlyPort b s (s.onPort b g) :=
  ⟨modNth_length _ _ _, rfl, fun _ hc => (nth_modNth _ _ _ _ _ fun he => absurd he hc.symm).trans (if_neg hc.symm)⟩

theorem State.issue_onlyPort {s t : State} {b : Nat} {op : SheetOp} {v : BitVec 64} {o : List Int} {f : List Payload} (h : s.issue b op v o f = some t) :
    State.OnlyPort b s t := by
  unfold State.issue at h
  extract_lets p tag s1 s2 at h
  have h1 : State.OnlyPort b s s1 := s.onPort_onlyPort b _
  split at h
  · rw [← Option.some.inj h]
    split
    · exact h1
    · exact h1
  · exact absurd h nofun

theorem State.setMod_onlyPort (s : State) (b : Nat) (m : ModState) : State.OnlyPort b s (s.setMod b m) := by
  unfold State.setMod
  split
  · exact .refl b s
  · refine (s.onPort_onlyPort b fun p => { p with modSt := m }).trans ?_
    generalize s.onPort b (fun p => { p with modSt := m }) = u
    have h : (u.eventState (0x500 + b) (modCode m) (modCode (s.port b).modSt) 0 (portCode (s.port b).st)).sheet = u.sheet := State.sheet_of_mask (by simp)
    exact ⟨by rw [h], by rw [h], fun c _ => by rw [State.port, h]; rfl⟩

theorem State.sendFence_fences {s : State} {b : Nat} (hb : b < s.sheet.ports.length) :
    State.OnlyPort b s (s.sendFence b) ∧ ((s.sendFence b).port b).modSt = .fencing := by
  unfold State.sendFence
  split
  · next t ht =>
    have h := State.issue_onlyPort ht
    refine ⟨h.trans (t.setMod_onlyPort b _), ?_⟩
    rw [State.setMod_port (h.1 ▸ hb), if_pos rfl]
  · refine ⟨s.setMod_onlyPort b _, ?_⟩
    rw [State.setMod_port hb, if_pos rfl]

/-- A port that was READY and up is fenced; every other port is as it was. -/
def State.FencedAt (s : State) (b : Nat) (t : State) : Prop :=
  (s.port b).modSt = .ready → (s.port b).up = true → (t.port b).modSt = .fencing

theorem State.fenceAll_fences {s : State} (hlen : s.sheet.ports.length = 48) :
    s.fenceAll.sheet.epoch = s.nextEpoch ∧ ∀ b < 48, s.FencedAt b s.fenceAll := by
  unfold State.fenceAll
  extract_lets e s1
  have h := foldl_range_each (f := fun (u : State) b => if (u.port b).modSt = .ready ∧ (u.port b).up then u.sendFence b else u)
    (I := fun u => u.sheet.ports.length = 48 ∧ u.sheet.epoch = e ∧ ∀ b, u.port b = s.port b ∨ (u.port b).modSt = .fencing) (Q := fun b u => s.FencedAt b u) 48
    (fun u b hb ⟨hl, he, hp⟩ => ?_) (fun u b hb ⟨hl, he, hp⟩ hready hup => ?_) (fun u b c hb hne ⟨hl, he, hp⟩ hc => ?_) (s := s1) ⟨hlen, rfl, fun b => .inl rfl⟩
  · exact ⟨h.1.2.1, h.2⟩
  · split
    · obtain ⟨⟨hl2, he2, hother⟩, hfence⟩ := State.sendFence_fences (s := u) (hl.symm ▸ hb)
      refine ⟨hl2.trans hl, he2.trans he, fun c => ?_⟩
      by_cases hc : c = b
      · exact .inr (hc ▸ hfence)
      · rw [hother c hc]
        exact hp c
    · exact ⟨hl, he, hp⟩
  · split
    · exact (State.sendFence_fences (hl.symm ▸ hb)).2
    · next hno => exact (hp b).resolve_left fun heq => hno (heq ▸ ⟨hready, hup⟩)
  · split
    · intro hready hup
      rw [(State.sendFence_fences (s := u) (b := b) (hl.symm ▸ hb)).1.2.2 c hne]
      exact hc hready hup
    · exact hc

theorem le_foldl_max {α : Type} (f : α → Nat) (l : List α) (n : Nat) : n ≤ l.foldl (fun a p => max a (f p)) n ∧ ∀ p ∈ l, f p ≤ l.foldl (fun a p => max a (f p)) n := by
  induction l generalizing n with
  | nil => exact ⟨Nat.le_refl n, fun p hp => absurd hp List.not_mem_nil⟩
  | cons q l ih =>
    obtain ⟨h1, h2⟩ := ih (max n (f q))
    refine ⟨Nat.le_trans (Nat.le_max_left _ _) h1, fun p hp => ?_⟩
    rcases List.mem_cons.1 hp with rfl | hp
    · exact Nat.le_trans (Nat.le_max_right _ _) h1
    · exact h2 p hp

theorem State.epochSeen_lt_next {s : State} {p : Port} (hp : p ∈ s.sheet.ports) : p.epochSeen < s.nextEpoch :=
  Nat.lt_succ_of_le ((le_foldl_max Port.epochSeen s.sheet.ports s.sheet.epoch).2 p hp)

/-! ### The steps of a take-over -/

theorem exec_takeoverStep {s : State} (haw : s.awake = true) (hst : s.pair.st = .taking) :
    (s.pair.takeStep ≤ 2 → exec .takeoverStep s = .next (if s.statusOut then s else s.fenceAll.onPair fun p => { p with takeStep := 3 })) ∧
    (s.pair.takeStep = 3 → s.sheet.ports.any (fun p => p.modSt == .fencing) = true → exec .takeoverStep s = .next s) ∧
    (s.pair.takeStep = 3 → s.sheet.ports.any (fun p => p.modSt == .fencing) = false → 11 ≤ s.boot.step → s.pair.take = .probe →
      exec .takeoverStep s = .next (s.newEpoch.onPair fun p => { p with takeStep := 6 })) ∧
    (s.pair.takeStep = 6 → 12 ≤ s.boot.step → s.log.rootImage = none → exec .takeoverStep s = .next (s.onPair fun p => { p with takeStep := 7 })) ∧
    (s.pair.takeStep = 7 → s.log.ckpt = none → 13 ≤ s.boot.step → exec .takeoverStep s = .next s.takeEnd) := by
  rw [show exec .takeoverStep s = execTakeoverStep s from rfl, execTakeoverStep, if_neg (by simp [haw, hst])]
  refine ⟨fun h => ?_, fun h hf => ?_, fun h hf hb ht => ?_, fun h hb hr => ?_, fun h hc hb => ?_⟩
  · rw [if_pos h]
  · rw [if_neg (by omega), if_pos h, if_pos hf]
  · rw [if_neg (by omega), if_pos h, if_neg (by rw [hf]; exact Bool.false_ne_true), if_neg (by omega), ht]
  · rw [if_neg (by omega), if_neg (by omega), if_pos h, if_neg (by omega), if_pos (by rw [hr]; rfl)]
  · rw [if_neg (by omega), if_neg (by omega), if_neg (by omega), if_neg (by rw [hc]; exact Bool.false_ne_true), if_neg (by omega)]

theorem State.newEpoch_ends {s : State} (hn : s.cip.epochs.length < 1048576) :
    ∃ e, s.newEpoch.cip.epochs = s.cip.epochs ++ [(e, s.sched.nextOrder)] ∧ ∀ x ∈ s.cip.epochs, x.1 < e := by
  unfold State.newEpoch
  rw [if_pos hn]
  extract_lets e
  refine ⟨e, ?_, fun x hx => Nat.lt_succ_of_le ((le_foldl_max Prod.fst s.cip.epochs 0).2 x hx)⟩
  generalize hu : s.onCip (fun c => { c with epochs := c.epochs ++ [(e, s.sched.nextOrder)] }) = u
  have hcip : (u.event 0x630 8 1 e).cip = u.cip := State.mask_cip (P := but [.cip]) (by simp) rfl
  rw [hcip, ← hu]
  rfl

/-- The function when a take-over ends, before the lanes open. -/
def State.takeFn (s : State) : State :=
  if s.fn.st = .armed ∧ s.boot.step = 13 then (if s.fn.stoppedByCmd then s.setFn .stopped 0 else (s.tcEmpty).setFn .running 0)
  else if s.fn.st = .draining ∧ s.fn.drain = some .swap then (s.onFn fun f => { f with drain := none }).setFn .running 0
  else s

theorem State.takeFn_pair (s : State) : s.takeFn.pair = s.pair := by
  unfold State.takeFn
  split
  · split
    · exact State.mask_pair (P := but [.pair]) (by simp) rfl
    · exact State.mask_pair (P := but [.pair]) (by simp) rfl
  · split
    · exact State.mask_pair (P := but [.pair]) (by simp) rfl
    · rfl

theorem State.takeFn_running {s : State} (h : s.fn.st = .running) : s.takeFn = s := by
  rw [State.takeFn, if_neg (by simp [h]), if_neg (by simp [h])]

/-- What follows once the pair has its new state: the rebuild goes on, the pinned namespaces are loaded, what waits is tried. -/
def State.takenUp (s : State) : State :=
  (if s.resumeRebuild.fn.st = .running then s.resumeRebuild.preloadPinned else s.resumeRebuild).tryAll

theorem State.takenUp_ends (s : State) : s.takenUp.pair = s.pair ∧ s.takenUp.fn.st = s.fn.st ∧ s.takenUp.fn.lanesOpen = s.fn.lanesOpen := by
  have hfn (u : State) : u.resumeRebuild.tryAll.fn = u.fn := State.mask_fn (P := but [.fn]) (by simp) rfl
  unfold State.takenUp
  split
  · obtain ⟨h1, h2, -⟩ := State.fn_of_core (t := s.resumeRebuild.preloadPinned.tryAll) (s := s) (by simp)
    exact ⟨State.mask_pair (P := but [.pair]) (by simp) rfl, h1, h2⟩
  · exact ⟨State.mask_pair (P := but [.pair]) (by simp) rfl, by rw [hfn], by rw [hfn]⟩

theorem State.takeEnd_ends (s : State) : s.takeEnd.pair.takeStep = 0
    ∧ s.takeEnd.pair.st = (if s.pair.peerState = some .standby ∨ s.pair.peerState = some .giving then .active else .single)
    ∧ (s.fn.st = .running → s.takeEnd.fn.st = .running ∧ s.takeEnd.fn.lanesOpen = true) := by
  unfold State.takeEnd
  extract_lets s1 s2 s3 s4 s5 s6
  have hs1 : s1 = s.takeFn := rfl
  have hp3 : s3.pair = s.pair := by
    have h2 : s2.pair = s.pair := by
      show s1.pair = s.pair
      rw [hs1, State.takeFn_pair]
    unfold s3
    split
    · exact h2
    · exact h2
  have hf3 : s3.fn = { s1.fn with lanesOpen := s1.fn.st == .running } := by
    unfold s3
    split <;> rfl
  have hp5 : s5.pair = { s4.pair with st := if s4.pair.peerState = some .standby ∨ s4.pair.peerState = some .giving then .active else .single } := State.setPair_pair _ _
  have hf5 : s5.fn = s3.fn := State.mask_fn (P := but [.fn]) (s := s4) (by simp [s5]) rfl
  obtain ⟨h1, h2, h3⟩ := s5.takenUp_ends
  rw [show (if s6.fn.st = .running then s6.preloadPinned else s6).tryAll = s5.takenUp from rfl, h1, h2, h3, hp5, hf5, hf3]
  refine ⟨rfl, ?_, fun hrun => ?_⟩
  · show (if s3.pair.peerState = some .standby ∨ s3.pair.peerState = some .giving then PairState.active else .single) = _
    rw [hp3]
  · rw [hs1, State.takeFn_running hrun, hrun]
    exact ⟨rfl, rfl⟩

/-! ### The shrouds and the peer link -/

theorem shroudLossTimer_loses {s : State} {sh : Shroud} (haw : s.awake = true) (hl : (s.shroud sh).lost = false)
    (hdue : (s.shroud sh).times.foldl max s.pair.initSince + ms 24 ≤ s.now) :
    Completes (.shroudLossTimer sh) s fun t => (t.shroud sh).lost = true ∧ ∀ sh', sh' ≠ sh → t.shroud sh' = s.shroud sh' := by
  have hex : exec (.shroudLossTimer sh) s = .next ((s.setShroud sh { s.shroud sh with lost := true }).event (shroudSource sh) 5 0 0) :=
    congrArg Host.Outcome.next (if_pos (by simp [haw, hl, hdue]))
  refine ⟨_, hex, ?_⟩
  beta_reduce
  generalize hx : { s.shroud sh with lost := true } = x
  have hp : ((s.setShroud sh x).event (shroudSource sh) 5 0 0).pair = (s.setShroud sh x).pair := State.mask_pair (P := but [.pair]) (by simp) rfl
  have hlost : x.lost = true := hx ▸ rfl
  cases sh
  · exact ⟨by rw [State.shroud, hp]; exact hlost, fun sh' hne => by cases sh' with | a => exact absurd rfl hne | b => rw [State.shroud, hp]; rfl⟩
  · exact ⟨by rw [State.shroud, hp]; exact hlost, fun sh' hne => by cases sh' with | a => rw [State.shroud, hp]; rfl | b => exact absurd rfl hne⟩

/-- A lane group of the peer link has failed for good. -/
def State.groupDown (s : State) (g n : Nat) : State :=
  ((s.onPair fun p => { p with groupTries := putNth p.groupTries g n }).onPair fun p => { p with groups := putNth p.groups g false }).event 0x613 5 g 0

theorem State.groupDown_pair (s : State) (g n : Nat) :
    (s.groupDown g n).pair = { s.pair with groupTries := putNth s.pair.groupTries g n, groups := putNth s.pair.groups g false } :=
  State.mask_pair (P := but [.pair]) (t := s.groupDown g n)
    (s := (s.onPair fun p => { p with groupTries := putNth p.groupTries g n }).onPair fun p => { p with groups := putNth p.groups g false }) (by simp [State.groupDown]) rfl

theorem exec_peerLinkGroupLoss {s : State} {g : Fin 2} (hg : nth s.pair.groups g false = true) (hn : 2 ≤ nth s.pair.groupTries g 0) :
    exec (.peerLinkGroupLoss g) s = .next (if (s.groupDown g (nth s.pair.groupTries g 0 + 1)).peerLink then s.groupDown g (nth s.pair.groupTries g 0 + 1)
      else ((s.groupDown g (nth s.pair.groupTries g 0 + 1)).toSingle.standbyBack).checkReach) := by
  rw [show exec (.peerLinkGroupLoss g) s = execPeerLinkGroupLoss g s from rfl, execPeerLinkGroupLoss, if_neg (by rw [hg]; exact Bool.false_ne_true)]
  dsimp only
  rw [if_neg (by omega)]
  rfl

theorem State.toSingle_pair (s : State) : s.toSingle.pair = { s.pair with st := if s.pair.st = .active then .single else s.pair.st } := by
  unfold State.toSingle
  split
  · have h : (s.setPair .single).tryAll.pair = (s.setPair .single).pair := State.mask_pair (P := but [.pair]) (by simp) rfl
    rw [h, State.setPair_pair]
  · rfl

theorem State.standbyBack_pair (s : State) : s.standbyBack.pair.groups = s.pair.groups ∧ s.standbyBack.pair.st = (if s.pair.st = .standby then .joining else s.pair.st) := by
  unfold State.standbyBack
  split
  · rw [State.setPair_pair]
    exact ⟨rfl, rfl⟩
  · exact ⟨rfl, rfl⟩

theorem putNth_none_of_other {l : List Bool} {g : Fin 2} (hl : l.length = 2) (h : ∀ i : Fin 2, i ≠ g → nth l i true = false) :
    (putNth l g false).any id = false := by
  refine List.any_eq_false.2 fun x hx => ?_
  obtain ⟨i, hi, rfl⟩ := List.mem_iff_getElem.1 hx
  have hi2 : i < 2 := by rwa [putNth, modNth_length, hl] at hi
  have hget : (putNth l g false)[i] = nth (putNth l g false) i true := by rw [nth, List.getD_eq_getElem _ _ hi]
  rw [hget, nth_putNth _ _ _ (by omega)]
  split
  · exact Bool.false_ne_true
  · next hne => rw [h ⟨i, hi2⟩ fun he => hne (by rw [← he])]; exact Bool.false_ne_true

theorem peerLinkGroupLoss_third {s : State} {g : Fin 2} (hlen : s.pair.groups.length = 2) (hg : nth s.pair.groups g false = true)
    (hn : 2 ≤ nth s.pair.groupTries g 0) : Completes (.peerLinkGroupLoss g) s fun t => nth t.pair.groups g true = false ∧
      ((∀ h : Fin 2, h ≠ g → nth s.pair.groups h true = false) → (s.pair.st = .active → t.pair.st = .single) ∧ (s.pair.st = .standby → t.pair.st = .joining)) := by
  have hex := exec_peerLinkGroupLoss hg hn
  have hp := s.groupDown_pair g (nth s.pair.groupTries g 0 + 1)
  generalize s.groupDown g (nth s.pair.groupTries g 0 + 1) = u at hex hp
  have hdown : nth u.pair.groups g true = false := by
    rw [hp]
    exact (nth_putNth _ _ _ (by omega)).trans (if_pos rfl)
  split at hex
  · next hlink =>
    refine ⟨_, hex, hdown, fun hother => absurd hlink ?_⟩
    rw [State.peerLink, hp]
    exact Bool.eq_false_iff.1 (putNth_none_of_other hlen hother)
  · refine ⟨_, hex, ?_⟩
    beta_reduce
    have h1 : (u.toSingle.standbyBack.checkReach).pair = u.toSingle.standbyBack.pair := State.mask_pair (P := but [.pair]) (by simp) rfl
    have h2 := u.toSingle_pair
    obtain ⟨h3, h4⟩ := u.toSingle.standbyBack_pair
    rw [h1, h3, h4, h2]
    refine ⟨hdown, fun _ => ⟨fun hst => ?_, fun hst => ?_⟩⟩
    · have : u.pair.st = .active := by rw [hp]; exact hst
      simp [this]
    · have : u.pair.st = .standby := by rw [hp]; exact hst
      simp [this]

/-! ### Swaps -/

theorem State.beginSwap_ends (s : State) : s.beginSwap.fn.st = .draining ∧ s.beginSwap.fn.drain = some .swap ∧ s.beginSwap.fn.lanesOpen = false
    ∧ s.beginSwap.pair.swap.running = true ∧ .swapStarted ∈ s.beginSwap.out := by
  unfold State.beginSwap
  extract_lets s1 s2
  obtain ⟨u, hu⟩ : ∃ u, u = (s1.onFn fun f => { f with lanesOpen := false, drain := some .swap }).setFn .draining 0 := ⟨_, rfl⟩
  have hfn : u.fn.st = .draining ∧ u.fn.drain = some .swap ∧ u.fn.lanesOpen = false := by
    rw [hu, State.setFn_fn]
    exact ⟨rfl, rfl, rfl⟩
  have hpair : u.pair = s1.pair := State.mask_pair (P := but [.pair]) (by simp [hu]) rfl
  have hs2 : s2 = u.pauseRebuild.drainLog := by rw [hu]
  have hpair2 : s2.pair = u.pair := State.mask_pair (P := but [.pair]) (by simp [hs2]) rfl
  obtain ⟨h1, h2, h3, -⟩ := State.fn_of_core (t := s2) (s := u) (by simp [hs2])
  exact ⟨h1.trans hfn.1, h3.trans hfn.2.1, h2.trans hfn.2.2, (congrArg (fun p => p.swap.running) (hpair2.trans hpair)), List.mem_cons_self⟩

theorem swapRelease_gives {s : State} (haw : s.awake = true) (ha : s.active = true) (hr : s.pair.swap.running = true) (hf : s.fn.st = .draining)
    (hc : s.sched.cmds = []) : Completes .swapRelease s fun t => t.pair.st = .giving ∧ t.pair.hold = .no ∧ t.pair.releaseAt = s.now ∧ t.reb.st = .held
      ∧ (∀ b : Fin 48, (t.port b).modSt ≠ .inService) ∧ ∃ m, .lease .b m ∈ t.out ∧ m.type = 3 ∧ m.toPeer = true := by
  obtain ⟨v, hv⟩ : ∃ v, v = s.emit (.ship (.highWater (s.sched.nextOrder - 1))) := ⟨_, rfl⟩
  have hex : exec .swapRelease s = .next (((v.release true).setPair .giving).modulesBack).holdRebuild := by
    rw [show exec .swapRelease s = execSwapRelease s from rfl, execSwapRelease, if_pos (by simp [haw, ha, hr, hf, hc]), hv]
  have hm := (v.sendLease_says (v.mkLease 3 0 true false)).2.1
  refine ⟨_, hex, ?_⟩
  obtain ⟨w, hw⟩ : ∃ w, w = v.release true := ⟨_, rfl⟩
  have hwp : w.pair.hold = .no ∧ w.pair.releaseAt = s.now := by
    rw [hw, hv]
    exact ⟨rfl, rfl⟩
  have hwo : Emit.lease .b (v.mkLease 3 0 true false) ∈ w.out := by
    rw [hw]
    exact hm
  rw [← hw]
  have hp : (w.setPair .giving).modulesBack.pair = { w.pair with st := .giving } := by rw [State.modulesBack_pair, State.setPair_pair]
  have hsays : w.Says (w.setPair .giving).modulesBack := (w.setPair_says .giving).trans (State.modulesBack_says _)
  have hports := (w.setPair .giving).modulesBack_ports
  generalize (w.setPair .giving).modulesBack = x at hp hsays hports
  have hx : x.holdRebuild.pair = x.pair ∧ x.holdRebuild.out = x.out ∧ x.holdRebuild.reb.st = .held ∧ ∀ b, x.holdRebuild.port b = x.port b := ⟨rfl, rfl, rfl, fun _ => rfl⟩
  obtain ⟨h1, h2, h3, h4⟩ := hx
  generalize x.holdRebuild = y at h1 h2 h3 h4
  rw [h1, h2, h3, hp]
  refine ⟨rfl, hwp.1, hwp.2, rfl, fun b => ?_, v.mkLease 3 0 true false, hsays.mem hwo, rfl, rfl⟩
  rw [h4]
  exact (hports b b.isLt).1

theorem exec_drainComplete {s : State} (hf : s.fn.st = .draining) (hc : s.sched.cmds = []) :
    (s.fn.drain = some .swap → s.pair.st = .standby → exec .drainComplete s = .next
      (((s.toMirror.onPair fun p => { p with swap := { p.swap with running := false, lastEnd := s.now, postponed := false } }).onFn fun f =>
        { f with drain := none }).setFn .running 0)) ∧
    (s.fn.drain ≠ some .swap → s.holder = false → exec .drainComplete s = .next
      ((((((s.onLog fun l => { l with mirrorBuf := [], sjPeer := [] }).emit (.handBack s.log.mirrorBuf)).onFn fun f => { f with drain := none }).setFn .stopped 0)).answerOp
        0x0102 (mkResp 0 0 0))) ∧
    (s.fn.drain ≠ some .swap → s.holder = true → (∀ x ∈ s.log.streams, x.stripe = none) → s.log.stripes = [] → s.drainedLog = true → exec .drainComplete s = .next
      (((s.onFn fun f => { f with drain := none }).setFn .stopped 0).answerOp 0x0102 (mkResp 0 0 0))) := by
  rw [show exec .drainComplete s = execDrainComplete s from rfl, execDrainComplete, if_neg (by simp [hf, hc])]
  refine ⟨fun hd hst => ?_, fun hd hh => ?_, fun hd hh hopen hst hdr => ?_⟩
  · rw [hd]
    dsimp only
    rw [if_pos hst]
  · split
    · next h => exact absurd h hd
    · dsimp only
      rw [if_pos (by rw [hh]; rfl)]
  · split
    · next h => exact absurd h hd
    · have hheld : ¬ (s.log.streams.any fun x => !x.held.isEmpty) = true := by
        rw [List.any_eq_true]
        rintro ⟨x, hx, hne⟩
        rw [Stream.held, hopen x hx] at hne
        exact absurd hne (by decide)
      dsimp only
      rw [if_neg (by rw [hh]; decide), if_neg hheld, if_neg (by rw [hst]; exact Bool.false_ne_true), if_pos hdr]

theorem State.drained_ends (u : State) (f : FnState) : ((u.onFn fun f => { f with drain := none }).setFn f 0).fn.st = f
    ∧ ((u.onFn fun f => { f with drain := none }).setFn f 0).fn.drain = none := by
  rw [State.setFn_fn]
  exact ⟨rfl, rfl⟩

theorem State.answerOp_kept (s : State) (op : Nat) (r : Resp) : (s.answerOp op r).fn = s.fn ∧ (s.answerOp op r).log = s.log ∧ (s.answerOp op r).out = s.out :=
  ⟨State.mask_fn (P := these [.mbx]) (by simp) rfl, State.mask_log (P := these [.mbx]) (by simp) rfl, State.mask_out (P := these [.mbx]) (by simp) rfl⟩

theorem exec_periodicSwapTimer {s : State} (hi : s.swapIdle = true) (hset : s.setting 12 ≠ 0) (hp : s.pair.swap.postponed = false)
    (hdue : s.pair.swap.lastEnd + secs (3600 * s.setting 12) ≤ s.now) : exec .periodicSwapTimer s = .next (if s.swapLack = 0 then s.beginSwap else
      (s.onPair fun p => { p with swap := { p.swap with postponed := true, retryAt := s.now + secs 600 } }).event 0x614 0x0A 2 0) := by
  rw [show exec .periodicSwapTimer s = execPeriodicSwapTimer s from rfl, execPeriodicSwapTimer]
  extract_lets hours due s1
  have hdue2 : due = true := by
    unfold due
    rw [hp]
    exact decide_eq_true hdue
  rw [if_neg (by rw [hi, hdue2]; simp [hours, hset])]
  simp only [hp, Bool.false_eq_true, if_false]
  rfl

/-- Settles O44: each step of a take-over, a swap and a drain, and each loss, ends as its section says. -/
theorem pairChanges : Obligations.PairChanges := by
  intro s haw hports hgroups htries swaps
  refine ⟨fun hst => ?_, fun sh => ⟨fun hl hdue => shroudLossTimer_loses haw hl hdue, fun hearly => ?_⟩,
    fun g => ⟨fun hg => ⟨fun hn => ?_, fun hn => peerLinkGroupLoss_third hgroups hg hn⟩, fun hn => ?_, fun hn => ?_⟩,
    fun hst hlink => ⟨fun hf => ?_, fun hf => ?_⟩, fun hi => ⟨fun hset hp hdue => ⟨fun hl => ?_, fun hl => ?_⟩, fun x hx hlong hones hl hlast => ?_, fun hx => ?_⟩,
    fun ha hr hf hc => swapRelease_gives haw ha hr hf hc, fun hc hf => ?_, fun hc => ?_⟩
  · obtain ⟨h2, h3w, h3, h6, h7⟩ := exec_takeoverStep haw hst
    refine ⟨fun hn ho => ?_, fun hn ho => ?_, h3w, fun hn hf hb ht he => ?_, fun hn hb hr => ⟨_, h6 hn hb hr, rfl⟩, fun hn hc hb => ⟨_, h7 hn hc hb, s.takeEnd_ends⟩⟩
    · rw [h2 hn, if_pos ho]
    · obtain ⟨hep, hfence⟩ := State.fenceAll_fences hports
      have hex := (h2 hn).trans (by rw [if_neg (by rw [ho]; exact Bool.false_ne_true)])
      generalize s.fenceAll = u at hep hfence hex
      refine ⟨_, hex, rfl, hep, fun p hp => ?_, fun b => hfence b b.isLt⟩
      exact hep ▸ State.epochSeen_lt_next hp
    · exact ⟨_, h3 hn hf hb ht, rfl, State.newEpoch_ends he⟩
  · exact congrArg Host.Outcome.next (if_neg (by simp [Nat.not_le.2 hearly]))
  · refine ⟨_, ?_, rfl⟩
    rw [show exec (.peerLinkGroupLoss g) s = execPeerLinkGroupLoss g s from rfl, execPeerLinkGroupLoss, if_neg (by rw [hg]; exact Bool.false_ne_true)]
    dsimp only
    rw [if_pos (by omega)]
  · have hex : exec (.peerLinkRestored g) s = .next ((s.onPair fun p => { p with groups := putNth p.groups g true, groupTries := putNth p.groupTries g 0 }).event 0x613 6 g 0) :=
      congrArg Host.Outcome.next (if_neg hn)
    refine ⟨_, hex, ?_⟩
    have hp : ((s.onPair fun p => { p with groups := putNth p.groups g true, groupTries := putNth p.groupTries g 0 }).event 0x613 6 g 0).pair
        = { s.pair with groups := putNth s.pair.groups g true, groupTries := putNth s.pair.groupTries g 0 } :=
      State.mask_pair (P := but [.pair]) (s := s.onPair fun p => { p with groups := putNth p.groups g true, groupTries := putNth p.groupTries g 0 }) (by simp) rfl
    beta_reduce
    rw [hp]
    refine ⟨(nth_putNth _ _ _ (by omega)).trans (if_pos rfl), (nth_putNth _ _ _ (by omega)).trans (if_pos rfl), fun h hne => ?_⟩
    exact (nth_putNth _ _ _ (by omega)).trans (if_neg fun he => hne (Fin.ext he.symm))
  · exact congrArg Host.Outcome.next (if_pos hn)
  · have hex : exec .resyncComplete s = .next ((s.onPair fun p => { p with resync := 1 }).setPair .standby) := by
      rw [show exec .resyncComplete s = execResyncComplete s from rfl, execResyncComplete, if_pos ⟨hst, hlink⟩]
      exact congrArg Host.Outcome.next (if_pos hf)
    refine ⟨_, hex, ?_⟩
    beta_reduce
    rw [State.setPair_pair]
    exact ⟨rfl, rfl⟩
  · refine ⟨_, ?_, rfl⟩
    rw [show exec .resyncComplete s = execResyncComplete s from rfl, execResyncComplete, if_pos ⟨hst, hlink⟩]
    exact congrArg Host.Outcome.next (if_neg hf)
  · exact ⟨_, (exec_periodicSwapTimer hi hset hp hdue).trans (by rw [if_pos hl]), s.beginSwap_ends⟩
  · refine ⟨_, (exec_periodicSwapTimer hi hset hp hdue).trans (by rw [if_neg hl]), ?_⟩
    generalize hu : s.onPair (fun p => { p with swap := { p.swap with postponed := true, retryAt := s.now + secs 600 } }) = u
    have hpair : (u.event 0x614 0x0A 2 0).pair = u.pair := State.mask_pair (P := but [.pair]) (by simp) rfl
    have hfn : (u.event 0x614 0x0A 2 0).fn = u.fn := State.mask_fn (P := but [.fn]) (by simp) rfl
    rw [hpair, hfn, ← hu]
    exact ⟨rfl, rfl, rfl⟩
  · have hex : exec .reachSwapTimer s = .next (s.beginSwap.event 0x614 8 0 0) := by
      rw [show exec .reachSwapTimer s = execReachSwapTimer s from rfl, execReachSwapTimer, hx]
      exact congrArg Host.Outcome.next (if_pos (by simp [hi, hlong, hones, hl, hlast]))
    obtain ⟨h1, h2, h3, h4, h5⟩ := s.beginSwap_ends
    have hfn : (s.beginSwap.event 0x614 8 0 0).fn = s.beginSwap.fn := State.mask_fn (P := but [.fn]) (by simp) rfl
    have hpair : (s.beginSwap.event 0x614 8 0 0).pair = s.beginSwap.pair := State.mask_pair (P := but [.pair]) (by simp) rfl
    refine ⟨_, hex, by rw [hfn]; exact h1, by rw [hfn]; exact h2, by rw [hfn]; exact h3, by rw [hpair]; exact h4, (State.event_says _ _ _ _ _).mem h5⟩
  · rw [show exec .reachSwapTimer s = execReachSwapTimer s from rfl, execReachSwapTimer, hx]
    exact congrArg Host.Outcome.next (if_neg (by simp))
  · obtain ⟨h1, h2, h3⟩ := exec_drainComplete hf hc
    refine ⟨fun hd hst => ?_, fun hd hh => ?_, fun hd hh hopen hst hdr => ?_⟩
    · refine ⟨_, h1 hd hst, ?_⟩
      generalize hu : s.toMirror.onPair (fun p => { p with swap := { p.swap with running := false, lastEnd := s.now, postponed := false } }) = u
      obtain ⟨h4, h5⟩ := u.drained_ends .running
      have hpair : ((u.onFn fun f => { f with drain := none }).setFn .running 0).pair = u.pair := State.mask_pair (P := but [.pair]) (by simp) rfl
      exact ⟨h4, h5, by rw [hpair, ← hu]; rfl⟩
    · refine ⟨_, h2 hd hh, ?_⟩
      generalize hu : (s.onLog fun l => { l with mirrorBuf := [], sjPeer := [] }).emit (.handBack s.log.mirrorBuf) = u
      obtain ⟨h4, h5⟩ := u.drained_ends .stopped
      have hlog : ((u.onFn fun f => { f with drain := none }).setFn .stopped 0).log = u.log := State.mask_log (P := but [.log]) (by simp) rfl
      have hsays : u.Says ((u.onFn fun f => { f with drain := none }).setFn .stopped 0) := State.setFn_says (u.onFn fun f => { f with drain := none }) .stopped 0
      have hout : Emit.handBack s.log.mirrorBuf ∈ u.out := by
        rw [← hu]
        exact List.mem_cons_self
      obtain ⟨h6, h7, h8⟩ := ((u.onFn fun f => { f with drain := none }).setFn .stopped 0).answerOp_kept 0x0102 (mkResp 0 0 0)
      refine ⟨by rw [h6]; exact h4, by rw [h6]; exact h5, by rw [h7, hlog, ← hu]; rfl, by rw [h8]; exact hsays.mem hout⟩
    · obtain ⟨h4, h5⟩ := s.drained_ends .stopped
      obtain ⟨h6, -, -⟩ := ((s.onFn fun f => { f with drain := none }).setFn .stopped 0).answerOp_kept 0x0102 (mkResp 0 0 0)
      exact ⟨_, h3 hd hh hopen hst hdr, by rw [h6]; exact h4, by rw [h6]; exact h5⟩
  · rw [show exec .drainComplete s = execDrainComplete s from rfl, execDrainComplete, if_pos (by simp [hc])]

end Sys2Proof.Machine
end

section
/-! PROOF. The range engine of the Translation Cache (O41). -/

namespace Sys2Proof.Machine

/-! ### Lines of the cache -/

theorem mem_sortBy {α : Type} (f : α → Nat) (l : List α) (x : α) : x ∈ sortBy f l ↔ x ∈ l := by
  have hins (y : α) (t : List α) : x ∈ insertBy f y t ↔ x = y ∨ x ∈ t := by
    induction t with
    | nil => simp [insertBy]
    | cons z t ih =>
      unfold insertBy
      split
      · exact List.mem_cons
      · rw [List.mem_cons, ih, List.mem_cons]
        exact or_left_comm
  induction l with
  | nil => rfl
  | cons y t ih => rw [show sortBy f (y :: t) = insertBy f y (sortBy f t) from rfl, hins, List.mem_cons, or_congr_right ih]

/-- The line `l` once its changed entries are in the pool. -/
def TcLine.cleaned (l : TcLine) : TcLine := if l.dirtyMask = 0 then l else TcLine.sealed { l with dirtyMask := 0 }

theorem TcLine.cleaned_cleaned (l : TcLine) : l.cleaned.cleaned = l.cleaned := by
  unfold TcLine.cleaned
  split
  · rfl
  · rfl

theorem TcLine.cleaned_v (l : TcLine) : l.cleaned.v = l.v := by
  unfold TcLine.cleaned
  split <;> rfl

theorem TcLine.cleaned_l (l : TcLine) : l.cleaned.l = l.l := by
  unfold TcLine.cleaned
  split <;> rfl

@[simp] theorem State.onSlot_tc (s : State) (mpn : Nat) (g : PoolSlot → PoolSlot) : (s.onSlot mpn g).tc = s.tc := State.mask_tc (P := but [.tc]) (by simp) rfl

@[simp] theorem State.pin_tc (s : State) (mpn : Nat) (up : Bool) : (s.pin mpn up).tc = s.tc := s.onSlot_tc mpn _

/-- `t` is `s` but for the line at `k`, `w` and counts of the engine: the others, the fills and the run of the engine are as they were. -/
def State.OnlyLine (k w : Nat) (s t : State) : Prop :=
  tabWf t.tc.lines = true ∧ t.tc.busy = s.tc.busy ∧ t.tc.miss = s.tc.miss ∧ ∀ k' w', tcKey k' w' ≠ tcKey k w → t.tcWayOf k' w' = s.tcWayOf k' w'

theorem State.putLine_way {s : State} (h : tabWf s.tc.lines = true) (k w : Nat) (l : TcLine) :
    State.OnlyLine k w s (s.putLine k w l) ∧ (s.putLine k w l).tcWayOf k w = l.sealed :=
  ⟨⟨tabWf_tabPutD h _ _ _, rfl, rfl, fun k' w' hne => (tabGet_tabPutD h TcLine.blank l.sealed (tcKey k w) (tcKey k' w')).trans (if_neg hne)⟩,
    State.tcWayOf_putLine h k w l⟩

theorem State.writeBack_way {s : State} (h : tabWf s.tc.lines = true) (k w : Nat) : State.OnlyLine k w s (s.writeBack k w)
    ∧ (s.writeBack k w).tcWayOf k w = (if (s.tcWayOf k w).v then (s.tcWayOf k w).cleaned else s.tcWayOf k w) := by
  unfold State.writeBack
  extract_lets l mpn first s1
  split
  · next hd =>
    rw [Bool.and_eq_true, bne_iff_ne] at hd
    obtain ⟨hv, hd⟩ := hd
    have htc : s1.tc = s.tc := State.onSlot_tc _ _ _
    have hway (k' w' : Nat) : s1.tcWayOf k' w' = s.tcWayOf k' w' := by rw [State.tcWayOf, State.tcWayOf, htc]
    obtain ⟨⟨h1, h2, h3, h4⟩, h5⟩ := State.putLine_way (s := s1) (htc ▸ h) k w { l with dirtyMask := 0 }
    generalize s1.putLine k w { l with dirtyMask := 0 } = u at h1 h2 h3 h4 h5
    have hp := u.pin_tc mpn false
    generalize u.pin mpn false = v at hp
    have hvl : v.tc.lines = u.tc.lines := by rw [hp]
    refine ⟨⟨hvl.symm ▸ h1, (congrArg TcSt.busy hp).trans (h2.trans (congrArg TcSt.busy htc)), (congrArg TcSt.miss hp).trans (h3.trans (congrArg TcSt.miss htc)), fun k' w' hne => ?_⟩, ?_⟩
    · refine Eq.trans ?_ ((h4 k' w' hne).trans (hway k' w'))
      show tabGetD v.tc.lines _ _ = tabGetD u.tc.lines _ _
      rw [hvl]
    · refine Eq.trans ?_ (h5.trans ?_)
      · show tabGetD v.tc.lines _ _ = tabGetD u.tc.lines _ _
        rw [hvl]
      · rw [if_pos hv, TcLine.cleaned, if_neg hd]
  · next hd =>
    refine ⟨⟨h, rfl, rfl, fun _ _ _ => rfl⟩, ?_⟩
    split
    · next hv =>
      have hclean : (s.tcWayOf k w).dirtyMask = 0 := by
        rw [Bool.and_eq_true, bne_iff_ne] at hd
        exact Classical.byContradiction fun hne => hd ⟨hv, hne⟩
      rw [TcLine.cleaned, if_pos hclean]
    · rfl

theorem State.dropLine_way {s : State} (h : tabWf s.tc.lines = true) (k w : Nat) : State.OnlyLine k w s (s.dropLine k w) ∧ ((s.dropLine k w).tcWayOf k w).v = false := by
  unfold State.dropLine
  extract_lets s1 l s2
  obtain ⟨⟨h1, h2, h3, h4⟩, -⟩ := State.writeBack_way h k w
  have htc : s2.tc = s1.tc := by
    unfold s2
    split
    · exact State.pin_tc _ _ _
    · rfl
  have hway (k' w' : Nat) : s2.tcWayOf k' w' = s1.tcWayOf k' w' := by rw [State.tcWayOf, State.tcWayOf, htc]
  obtain ⟨⟨h5, h6, h7, h8⟩, h9⟩ := State.putLine_way (s := s2) (htc.symm ▸ h1) k w TcLine.blank
  refine ⟨⟨h5, h6.trans ((congrArg TcSt.busy htc).trans h2), h7.trans ((congrArg TcSt.miss htc).trans h3), fun k' w' hne => (h8 k' w' hne).trans ((hway k' w').trans (h4 k' w' hne))⟩, ?_⟩
  rw [h9]
  rfl

/-! ### One line of a range -/

theorem State.rangeLine_cleans {s : State} (h : tabWf s.tc.lines = true) (unlock : Bool) (x : Nat × Nat) :
    State.OnlyLine x.1 x.2 s (s.rangeLine 2 unlock x) ∧ (s.rangeLine 2 unlock x).tcWayOf x.1 x.2 = (if (s.tcWayOf x.1 x.2).v then (s.tcWayOf x.1 x.2).cleaned else s.tcWayOf x.1 x.2) := by
  unfold State.rangeLine
  extract_lets l s1 count
  rw [if_neg (by simp), if_pos rfl]
  show State.OnlyLine x.1 x.2 s s1 ∧ s1.tcWayOf x.1 x.2 = _
  unfold s1
  split
  · exact State.writeBack_way h x.1 x.2
  · next hd =>
    refine ⟨⟨h, rfl, rfl, fun _ _ _ => rfl⟩, ?_⟩
    rw [TcLine.cleaned, if_pos (Classical.not_not.1 hd), ite_self]

theorem State.rangeLine_drops {s : State} (h : tabWf s.tc.lines = true) {op : Nat} (hop : op ≠ 2) (unlock : Bool) (x : Nat × Nat) :
    State.OnlyLine x.1 x.2 s (s.rangeLine op unlock x) ∧ (((s.rangeLine op unlock x).tcWayOf x.1 x.2 = s.tcWayOf x.1 x.2 ∧ (s.tcWayOf x.1 x.2).l = true ∧ unlock = false)
      ∨ ((s.rangeLine op unlock x).tcWayOf x.1 x.2).v = false) := by
  unfold State.rangeLine
  extract_lets l s1 count
  split
  · next hl => exact ⟨⟨h, rfl, rfl, fun _ _ _ => rfl⟩, .inl ⟨rfl, hl.2.1, by simpa using hl.2.2⟩⟩
  · have hs1 : State.OnlyLine x.1 x.2 s s1 := by
      unfold s1
      split
      · exact (State.writeBack_way h x.1 x.2).1
      · exact ⟨h, rfl, rfl, fun _ _ _ => rfl⟩
    obtain ⟨h1, h2, h3, h4⟩ := hs1
    obtain ⟨⟨h5, h6, h7, h8⟩, h9⟩ := State.dropLine_way h1 x.1 x.2
    generalize s1.dropLine x.1 x.2 = v at h5 h6 h7 h8 h9
    have hc : (count v).tc.busy = v.tc.busy ∧ (count v).tc.miss = v.tc.miss ∧ (count v).tc.lines = v.tc.lines ∧ ∀ k' w', (count v).tcWayOf k' w' = v.tcWayOf k' w' :=
      ⟨rfl, rfl, rfl, fun _ _ => rfl⟩
    clear_value count
    obtain ⟨hc1, hc2, hc3, hc4⟩ := hc
    exact ⟨⟨hc3 ▸ h5, hc1.trans (h6.trans h2), hc2.trans (h7.trans h3), fun k' w' hne => (hc4 k' w').trans ((h8 k' w' hne).trans (h4 k' w' hne))⟩, .inr (hc4 _ _ ▸ h9)⟩

theorem State.OnlyLine.way {k w : Nat} {s t : State} (h : State.OnlyLine k w s t) (k' w' : Nat) (hw : w < 16) (hw' : w' < 16) :
    (k' = k ∧ w' = w) ∨ t.tcWayOf k' w' = s.tcWayOf k' w' := by
  by_cases he : tcKey k' w' = tcKey k w
  · unfold tcKey at he
    exact .inl (by omega)
  · exact .inr (h.2.2.2 k' w' he)

/-- The ways of lines are below 16. -/
theorem State.linesWhere_way {s : State} {p : Nat → TcLine → Bool} {x : Nat × Nat} (h : x ∈ s.linesWhere p) : x.2 < 16 := by
  obtain ⟨e, -, rfl⟩ := List.mem_map.1 h
  exact Nat.mod_lt _ (by decide)

theorem State.mem_linesWhere {s : State} {f : TcLine → Bool} {k w : Nat} (hw : w < 16) (hv : (s.tcWayOf k w).v = true) (hf : f (s.tcWayOf k w) = true) :
    (k, w) ∈ s.linesWhere fun _ l => f l := by
  cases hg : tabGet s.tc.lines (tcKey k w) with
  | none =>
    rw [State.tcWayOf, tabGetD, hg] at hv
    exact absurd hv (by decide)
  | some l =>
    rw [State.tcWayOf, tabGetD, hg] at hf
    refine List.mem_map.2 ⟨(tcKey k w, l), List.mem_filter.2 ⟨mem_of_tabGet hg, hf⟩, ?_⟩
    unfold tcKey
    exact Prod.ext (by show (16 * k + w) / 16 = k; omega) (by show (16 * k + w) % 16 = w; omega)

/-- What a fold does to the lines it visits, when each visit changes its own line alone, and again and again as once. -/
theorem State.foldl_ways {f : State → Nat × Nat → State} {R : TcLine → TcLine → Prop}
    (hone : ∀ (u : State) x, tabWf u.tc.lines = true → State.OnlyLine x.1 x.2 u (f u x) ∧ R (u.tcWayOf x.1 x.2) ((f u x).tcWayOf x.1 x.2))
    (htrans : ∀ a b c, R a b → R b c → R a c) (xs : List (Nat × Nat)) (hxs : ∀ x ∈ xs, x.2 < 16) {s : State} (h : tabWf s.tc.lines = true) :
    (xs.foldl f s).tc.busy = s.tc.busy ∧ (∀ x ∈ xs, R (s.tcWayOf x.1 x.2) ((xs.foldl f s).tcWayOf x.1 x.2))
      ∧ ∀ k w, w < 16 → (k, w) ∉ xs → (xs.foldl f s).tcWayOf k w = s.tcWayOf k w := by
  induction xs generalizing s with
  | nil => exact ⟨rfl, fun x hx => absurd hx List.not_mem_nil, fun _ _ _ _ => rfl⟩
  | cons a l ih =>
    obtain ⟨honly, hr⟩ := hone s a h
    obtain ⟨h1, h2, h3⟩ := ih (fun x hx => hxs x (List.mem_cons_of_mem _ hx)) honly.1
    have ha := hxs a List.mem_cons_self
    refine ⟨h1.trans honly.2.1, fun x hx => ?_, fun k w hw hx => ?_⟩
    · by_cases hxl : x ∈ l
      · have h4 := h2 x hxl
        rcases honly.way x.1 x.2 ha (hxs x hx) with he | he
        · have hxa : x = a := Prod.ext he.1 he.2
          subst hxa
          exact htrans _ _ _ hr h4
        · rwa [he] at h4
      · rcases List.mem_cons.1 hx with rfl | hx
        · rw [List.foldl_cons, h3 x.1 x.2 ha hxl]
          exact hr
        · exact absurd hx hxl
    · rw [List.mem_cons, not_or] at hx
      rw [List.foldl_cons, h3 k w hw hx.2]
      exact (honly.way k w ha hw).resolve_left fun he => hx.1 (Prod.ext he.1 he.2)

/-- A line before and after it is cleaned. -/
def TcLine.Cleans (l l' : TcLine) : Prop := l' = if l.v then l.cleaned else l

theorem TcLine.Cleans.trans {a b c : TcLine} (h : a.Cleans b) (h2 : b.Cleans c) : a.Cleans c := by
  unfold TcLine.Cleans at *
  subst h h2
  cases hv : a.v with
  | true => simp [hv, TcLine.cleaned_v, TcLine.cleaned_cleaned]
  | false => simp [hv]

/-- A line before and after it is dropped: gone, or locked and kept. -/
def TcLine.Drops (unlock : Bool) (l l' : TcLine) : Prop := (l' = l ∧ l.l = true ∧ unlock = false) ∨ l'.v = false

theorem TcLine.Drops.trans {u : Bool} {a b c : TcLine} (h : a.Drops u b) (h2 : b.Drops u c) : a.Drops u c := by
  rcases h2 with ⟨rfl, -, -⟩ | h2
  · exact h
  · exact .inr h2

/-! ### A range operation taken -/

theorem State.goRange_err {s : State} {op e : Nat} {o : RangeOp} (hb : s.rangeBusy = false) (he : s.rangeErr op o = e) (h0 : e ≠ 0) :
    (s.goRange op o none).tc.error = true ∧ (s.goRange op o none).tc.errCode = e ∧ (s.goRange op o none).tc.busy = false
      ∧ (s.goRange op o none).tc.lines = s.tc.lines ∧ (s.goRange op o none).map = s.map := by
  have hbusy : s.tc.busy = false := (Bool.or_eq_false_iff.1 hb).1
  unfold State.goRange
  extract_lets s1 e' b s2 hit order s3
  rw [if_neg (by rw [hb]; exact Bool.false_ne_true), if_pos (by rw [show e' = e from he]; exact h0)]
  exact ⟨rfl, he, hbusy, rfl, rfl⟩

/-- The engine started on `o`, before its first line. -/
def State.rangeGoing (s : State) (op : Nat) (o : RangeOp) : State :=
  (s.onTc fun t =>
    { t with ctrlOp := op % 8, ctrlByNs := o.byNs, ctrlUnlock := o.unlock, ctrlNs := o.ns % 4096, lba := o.lba % 2 ^ 48, len := o.len % 2 ^ 48 }).onTc fun t =>
    { t with busy := true, runOp := op, runNs := o.ns, errCode := 0, resLines := 0, resWritten := 0, resNotLocked := 0, goMbx := none, range := [] }

theorem State.rangeGoing_way (s : State) (op : Nat) (o : RangeOp) (k w : Nat) : (s.rangeGoing op o).tcWayOf k w = s.tcWayOf k w := rfl

/-- What an operation of clean or invalidate does: each line of the range is visited. -/
theorem State.goRange_visits {s : State} {op : Nat} {o : RangeOp} {b : Nat × Nat} {R : TcLine → TcLine → Prop} (hwf : tabWf s.tc.lines = true)
    (hb : s.rangeBusy = false) (he : s.rangeErr op o = 0) (hop : op ≤ 3) (hr : s.rangeLines o = some b)
    (hone : ∀ (u : State) x, tabWf u.tc.lines = true → State.OnlyLine x.1 x.2 u (u.rangeLine op o.unlock x) ∧ R (u.tcWayOf x.1 x.2) ((u.rangeLine op o.unlock x).tcWayOf x.1 x.2))
    (htrans : ∀ a b c, R a b → R b c → R a c) :
    (s.goRange op o none).tc.busy = true ∧ ∀ k w, w < 16 →
      (((s.tcWayOf k w).v = true ∧ b.1 ≤ (s.tcWayOf k w).la ∧ (s.tcWayOf k w).la ≤ b.2) → R (s.tcWayOf k w) ((s.goRange op o none).tcWayOf k w))
      ∧ (R (s.tcWayOf k w) ((s.goRange op o none).tcWayOf k w) ∨ (s.goRange op o none).tcWayOf k w = s.tcWayOf k w) := by
  have hgo : ∃ xs : List (Nat × Nat), (∀ x, x ∈ xs ↔ x ∈ s.linesWhere fun _ l => l.v && decide (b.1 ≤ l.la ∧ l.la ≤ b.2))
      ∧ (s.goRange op o none).tc.busy = (xs.foldl (fun s x => s.rangeLine op o.unlock x) (s.rangeGoing op o)).tc.busy
      ∧ ∀ k w, (s.goRange op o none).tcWayOf k w = (xs.foldl (fun s x => s.rangeLine op o.unlock x) (s.rangeGoing op o)).tcWayOf k w := by
    unfold State.goRange
    extract_lets s1 e b' s2 hit order s3
    have hbb : b' = b := by
      unfold b'
      rw [hr]
      rfl
    refine ⟨order, fun x => ?_, ?_⟩
    · have hhit : x ∈ hit ↔ x ∈ s.linesWhere fun _ l => l.v && decide (b.1 ≤ l.la ∧ l.la ≤ b.2) := by
        unfold hit
        rw [hbb]
        rfl
      unfold order
      split
      · rw [mem_sortBy, hhit]
      · exact hhit
    · rw [if_neg (by rw [hb]; exact Bool.false_ne_true), if_neg (fun h => h he), if_pos hop]
      split
      · exact ⟨rfl, fun _ _ => rfl⟩
      · exact ⟨rfl, fun _ _ => rfl⟩
  obtain ⟨xs, hmem, hbusy, hway⟩ := hgo
  have hxs : ∀ x ∈ xs, x.2 < 16 := fun x hx => State.linesWhere_way ((hmem x).1 hx)
  obtain ⟨h1, h2, h3⟩ := State.foldl_ways hone htrans xs hxs (s := s.rangeGoing op o) hwf
  refine ⟨hbusy.trans h1, fun k w hw => ⟨fun ⟨hv, hlo, hhi⟩ => ?_, ?_⟩⟩
  · rw [hway]
    exact h2 (k, w) ((hmem _).2 (State.mem_linesWhere hw hv (by simp [hv, hlo, hhi])))
  · rw [hway]
    by_cases hx : (k, w) ∈ xs
    · exact .inl (h2 (k, w) hx)
    · exact .inr (h3 k w hw hx)

/-! ### A line preloaded -/

/-- The fills under way and the run of the engine are the same in `s` and `t`. -/
def State.SameRun (s t : State) : Prop := t.tc.miss = s.tc.miss ∧ t.tc.busy = s.tc.busy

theorem State.SameRun.trans {s t u : State} (h : s.SameRun t) (h2 : t.SameRun u) : s.SameRun u := ⟨h2.1.trans h.1, h2.2.trans h.2⟩

theorem State.SameRun.of_tc {s t : State} (h : t.tc = s.tc) : s.SameRun t := ⟨congrArg TcSt.miss h, congrArg TcSt.busy h⟩

theorem State.putLine_sameRun (s : State) (k w : Nat) (l : TcLine) : s.SameRun (s.putLine k w l) := ⟨rfl, rfl⟩

theorem State.dropLine_sameRun (s : State) (k w : Nat) : s.SameRun (s.dropLine k w) := by
  have hback : s.SameRun (s.writeBack k w) := by
    unfold State.writeBack
    extract_lets l mpn first s1
    split
    · have h1 := ((State.SameRun.of_tc (State.onSlot_tc _ _ _) : s.SameRun s1).trans (s1.putLine_sameRun k w { l with dirtyMask := 0 })).trans
        (.of_tc ((s1.putLine k w { l with dirtyMask := 0 }).pin_tc mpn false))
      generalize (s1.putLine k w { l with dirtyMask := 0 }).pin mpn false = v at h1
      exact h1
    · exact ⟨rfl, rfl⟩
  unfold State.dropLine
  extract_lets s1 l s2
  have hpin : s1.SameRun s2 := by
    unfold s2
    split
    · exact .of_tc (State.pin_tc _ _ _)
    · exact ⟨rfl, rfl⟩
  exact (hback.trans hpin).trans (s2.putLine_sameRun k w TcLine.blank)

theorem State.victim_sameRun {s t : State} {k w : Nat} {ok : Nat → Bool} (h : s.victim k ok = some (w, t)) : s.SameRun t := by
  have hfold (xs : List Nat) (f : State → Nat → State) (hf : ∀ u w, State.SameRun u (f u w)) (u : State) : u.SameRun (xs.foldl f u) := by
    induction xs generalizing u with
    | nil => exact ⟨rfl, rfl⟩
    | cons x xs ih => exact ⟨(ih (f u x)).1.trans (hf u x).1, (ih (f u x)).2.trans (hf u x).2⟩
  unfold State.victim at h
  extract_lets elig top at h
  split at h
  · rw [← (Prod.mk.inj (Option.some.inj h)).2]
    exact ⟨rfl, rfl⟩
  · split at h
    · exact absurd h nofun
    · rw [← (Prod.mk.inj (Option.some.inj h)).2]
      split
      · exact ⟨rfl, rfl⟩
      · exact hfold elig _ (fun u w => u.putLine_sameRun k w _) s

/-- A streaming fill that no command waits for is under way once it is started, where its bank has room. -/
theorem State.startFill_streams {s : State} {la ns : Nat} {lock : Bool} (hroom : (s.tc.miss.filter fun m => tcSet m.la % 4 == tcSet la % 4).length < 64) :
    (s.startFill la ns true lock none).tc.busy = s.tc.busy ∧ ∃ m ∈ (s.startFill la ns true lock none).tc.miss, m.la = la ∧ m.streaming = true ∧ (lock = true → m.lock = true) := by
  have happend (u : State) (w : Option Nat) (add : TcMiss → TcMiss) (hadd : ∀ m, add m = m) (h : s.SameRun u) :
      (u.onTc fun t => { t with miss := t.miss ++ [add ⟨la, w, true, lock, ns, [], [], false⟩] }).tc.busy = s.tc.busy
        ∧ ∃ m ∈ (u.onTc fun t => { t with miss := t.miss ++ [add ⟨la, w, true, lock, ns, [], [], false⟩] }).tc.miss, m.la = la ∧ m.streaming = true ∧ (lock = true → m.lock = true) :=
    ⟨h.2, _, List.mem_append_right _ List.mem_cons_self, by rw [hadd], by rw [hadd], by rw [hadd]; exact id⟩
  unfold State.startFill
  extract_lets add set okWay pick mpn
  have hadd : ∀ m, add m = m := fun _ => rfl
  clear_value add
  split
  · next hany =>
    obtain ⟨m, hm, hla⟩ := List.any_eq_true.1 hany
    rw [beq_iff_eq] at hla
    refine ⟨rfl, _, List.mem_map.2 ⟨m, hm, if_pos hla⟩, ?_, rfl, fun hl => ?_⟩
    · show (add m).la = la
      rw [hadd, hla]
    · show (m.lock || lock) = true
      rw [hl, Bool.or_true]
  · rw [if_neg (Nat.not_le.2 hroom)]
    have hpick : ∀ w u, pick = some (w, u) → s.SameRun u := by
      intro w u hp
      unfold pick at hp
      split at hp
      · next r hr =>
        cases hp
        exact State.victim_sameRun hr
      · split at hp
        · exact State.victim_sameRun hp
        · exact absurd hp nofun
    clear_value pick
    split
    · have htc := s.pin_tc mpn true
      exact happend (s.pin mpn true) none add hadd (.of_tc htc)
    · next w u =>
      have h1 := hpick w u rfl
      extract_lets s2
      have h2 : u.SameRun s2 := u.dropLine_sameRun set w
      have h3 := s2.putLine_sameRun set w { TcLine.blank with la := la, f := true }
      generalize s2.putLine set w { TcLine.blank with la := la, f := true } = v at h3 ⊢
      have h4 : v.SameRun (v.pin mpn true) := .of_tc (v.pin_tc mpn true)
      generalize v.pin mpn true = x at h4 ⊢
      exact happend x (some w) add hadd (((h1.trans h2).trans h3).trans h4)

theorem visitOrder_single (n : Nat) : visitOrder [n] = [n] := if_pos (show 1 < 65536 by decide)

theorem State.goRange_preloads {s : State} {op la : Nat} {o : RangeOp} (hb : s.rangeBusy = false) (he : s.rangeErr op o = 0) (hop : ¬ op ≤ 3)
    (hr : s.rangeLines o = some (la, la)) (hhit : s.tcHit la = none) (hres : (s.gmd (la / 68)).resident = true)
    (hroom : (s.tc.miss.filter fun m => tcSet m.la % 4 == tcSet la % 4).length < 64) :
    (s.goRange op o none).tc.busy = true ∧ ∃ m ∈ (s.goRange op o none).tc.miss, m.la = la ∧ m.streaming = true ∧ (op = 5 → m.lock = true) := by
  obtain ⟨u, hu⟩ : ∃ u, u = (s.rangeGoing op o).onTc fun t => { t with range := [la] } := ⟨_, rfl⟩
  have hgo : s.goRange op o none = u.rangeAdvance := by
    unfold State.goRange
    extract_lets s1 e b s2 hit order s3
    have hbb : b = (la, la) := by
      unfold b
      rw [hr]
      rfl
    have hrange : visitOrder ((List.range (b.2 + 1 - b.1)).map (b.1 + ·)) = [la] := by
      rw [hbb]
      show visitOrder ((List.range (la + 1 - la)).map (la + ·)) = [la]
      rw [Nat.add_sub_cancel_left]
      exact visitOrder_single la
    rw [if_neg (by rw [hb]; exact Bool.false_ne_true), if_neg (fun h => h he), if_neg hop, hrange, hu]
    rfl
  have hu1 : u.tc.range = [la] ∧ u.tc.busy = true ∧ u.tc.miss = s.tc.miss ∧ u.tcHit la = none ∧ (u.gmd (la / 68)).resident = true ∧ u.tc.runOp = op := by
    rw [hu]
    exact ⟨rfl, rfl, rfl, hhit, hres, rfl⟩
  clear hu
  obtain ⟨hrange, hbusy, hmiss, hhit, hres, hrun⟩ := hu1
  have hadv : u.rangeAdvance = u.startFill la u.tc.runNs true (u.tc.runOp == 5) none := by
    rw [State.rangeAdvance, hrange]
    show (if (u.tc.busy && u.tc.range.contains la) = true then u.preloadLine la else u) = _
    have hready : u.readyPage (la / 68) = (true, u) := if_pos hres
    rw [if_pos (by simp [hbusy, hrange]), State.preloadLine, hhit]
    dsimp only
    rw [hready, if_pos rfl]
  obtain ⟨h1, m, hm, h2, h3, h4⟩ := State.startFill_streams (s := u) (la := la) (ns := u.tc.runNs) (lock := u.tc.runOp == 5) (by rw [hmiss]; exact hroom)
  rw [hgo, hadv]
  exact ⟨h1.trans hbusy, m, hm, h2, h3, fun h5 => h4 (by rw [hrun, h5]; rfl)⟩

/-! ### The end of an operation -/

theorem exec_tcRangeDone {s : State} (hb : s.tc.busy = true) (hr : s.tc.range = []) (hp : s.tc.pinQueue = []) :
    exec .tcRangeDone s = .next (s.onTc fun t => { t with busy := false, done := t.done || !(s.tc.errCode == 5) }).rangeAnswer := by
  have hadv : s.rangeAdvance = s := by
    rw [State.rangeAdvance, hr]
    rfl
  have hpin (u : State) (h : u.tc.pinQueue = []) : u.nextPin = u := by
    unfold State.nextPin
    split
    · rfl
    · rw [h]
  rw [show exec .tcRangeDone s = execTcRangeDone s from rfl, execTcRangeDone, if_neg (by rw [hb]; decide)]
  simp only [hadv, hr, List.isEmpty_nil, if_true]
  rw [hpin]
  unfold State.rangeAnswer
  split
  · exact hp
  · exact hp

theorem State.rangeAnswer_tc (s : State) : s.rangeAnswer.tc.busy = s.tc.busy ∧ s.rangeAnswer.tc.done = s.tc.done ∧ s.rangeAnswer.tc.lines = s.tc.lines := by
  unfold State.rangeAnswer
  split <;> exact ⟨rfl, rfl, rfl⟩

theorem State.rangeAnswer_answers {s : State} {m c : Nat} (hg : s.tc.goMbx = some m) (hm : m < s.mgmt.mbx.length) (hw : (s.mbx m).wait = .running c) :
    ∃ r, (s.rangeAnswer.mbx m).wait = .answer r ∧ r.opcode = c ∧ (if s.tc.errCode = 0 then r.status = 0
      ∧ r.result = leBytes 8 (s.tc.resLines + 2 ^ 24 * s.tc.resWritten + 2 ^ 48 * s.tc.resNotLocked) else r.status = 9 ∧ r.detail = s.tc.errCode) := by
  unfold State.rangeAnswer
  rw [hg]
  dsimp only
  generalize leBytes 8 (s.tc.resLines + 2 ^ 24 * s.tc.resWritten + 2 ^ 48 * s.tc.resNotLocked) = res
  refine ⟨_, State.mbx_answer (s := s.onTc fun x => { x with goMbx := none }) hm hw _, rfl, ?_⟩
  by_cases h0 : s.tc.errCode = 0
  · rw [if_pos h0, if_neg (fun h => h h0)]
    exact ⟨rfl, rfl⟩
  · rw [if_neg h0, if_pos h0]
    exact ⟨rfl, rfl⟩

theorem State.rangeErr_of_entry {s : State} {op : Nat} {o : RangeOp} {e : NsEntry} (hop : 1 ≤ op ∧ op ≤ 5) (hns : s.nsEntry o.ns = some e)
    (hlen : o.byNs = true ∨ o.lba + o.len < e.capacity) (hlock : op = 5 → s.tc.lockMask ≠ 0) : s.rangeErr op o = 0 := by
  unfold State.rangeErr
  rw [if_neg (by omega), hns]
  dsimp only
  rw [if_neg, if_neg fun h => hlock h.1 h.2]
  rintro ⟨hby, hcap⟩
  rcases hlen with h | h
  · rw [h] at hby
    exact absurd hby (by decide)
  · omega

theorem State.rangeErr_absent {s : State} {op : Nat} {o : RangeOp} (hop : 1 ≤ op ∧ op ≤ 5) (hns : s.nsEntry o.ns = none) : s.rangeErr op o = 2 := by
  unfold State.rangeErr
  rw [if_neg (by omega), hns]

/-- Settles O41: a busy engine notes the overrun, an absent namespace is an error, each line of a range is visited, and the end answers. -/
theorem rangeEngine : Obligations.RangeEngine := by
  intro o s hwf inR
  have hexec : ∀ i, i = .tcInvalidate o ∨ i = .tcClean o ∨ i = .tcCleanInvalidate o ∨ i = .tcPreload o ∨ i = .tcPreloadLock o →
      ∃ op, 1 ≤ op ∧ op ≤ 5 ∧ exec i s = .next (s.goRange op o none) := by
    rintro i (rfl | rfl | rfl | rfl | rfl)
    · exact ⟨1, by decide, by decide, rfl⟩
    · exact ⟨2, by decide, by decide, rfl⟩
    · exact ⟨3, by decide, by decide, rfl⟩
    · exact ⟨4, by decide, by decide, rfl⟩
    · exact ⟨5, by decide, by decide, rfl⟩
  refine ⟨fun i hi => ⟨fun hb => ?_, fun hb hns => ?_⟩, fun e hb hns hlen => ?_, fun hb hr hp => ⟨fun herr => ?_, fun m c hg hm hw => ?_⟩, fun hb => ?_⟩
  · obtain ⟨op, -, -, hex⟩ := hexec i hi
    rw [hex, State.goRange, if_pos hb]
  · obtain ⟨op, h1, h5, hex⟩ := hexec i hi
    exact ⟨_, hex, State.goRange_err hb (State.rangeErr_absent ⟨h1, h5⟩ hns) (by decide)⟩
  · have herr (op : Nat) (hop : 1 ≤ op ∧ op ≤ 5) (hl : op = 5 → s.tc.lockMask ≠ 0) : s.rangeErr op o = 0 := State.rangeErr_of_entry hop hns hlen hl
    obtain ⟨b, hrl⟩ : ∃ b, s.rangeLines o = some b := by
      rw [State.rangeLines, hns]
      exact ⟨_, rfl⟩
    have hin (l : TcLine) (h : inR l) : b.1 ≤ l.la ∧ l.la ≤ b.2 := by
      obtain ⟨b', hb', hlo, hhi⟩ := h
      rw [hrl] at hb'
      cases hb'
      exact ⟨hlo, hhi⟩
    have hdrops (op : Nat) (h1 : 1 ≤ op) (h3 : op ≤ 3) (h2 : op ≠ 2) : (s.goRange op o none).tc.busy = true ∧ ∀ k w, w < 16 →
        ((s.goRange op o none).tcWayOf k w).v = true → inR ((s.goRange op o none).tcWayOf k w) →
        o.unlock = false ∧ (s.tcWayOf k w).l = true ∧ (s.goRange op o none).tcWayOf k w = s.tcWayOf k w := by
      obtain ⟨hbusy, hways⟩ := State.goRange_visits (R := TcLine.Drops o.unlock) hwf hb (herr op (by omega) (by omega)) h3 hrl
        (fun u x hu => State.rangeLine_drops hu h2 o.unlock x) (fun _ _ _ => TcLine.Drops.trans)
      refine ⟨hbusy, fun k w hw hv hr => ?_⟩
      obtain ⟨hvis, hor⟩ := hways k w hw
      have hd : (s.tcWayOf k w).Drops o.unlock ((s.goRange op o none).tcWayOf k w) := by
        rcases hor with h | h
        · exact h
        · rw [h] at hv hr
          exact hvis ⟨hv, hin _ hr⟩
      rcases hd with ⟨h, hl, hu⟩ | h
      · exact ⟨hu, hl, h⟩
      · rw [h] at hv
        exact absurd hv Bool.false_ne_true
    refine ⟨⟨s.goRange 2 o none, rfl, ?_⟩, ⟨s.goRange 1 o none, rfl, hdrops 1 (by decide) (by decide) (by decide)⟩, ⟨s.goRange 3 o none, rfl, hdrops 3 (by decide) (by decide) (by decide)⟩,
      fun la hla hhit hres hroom => ⟨?_, fun hlock => ?_⟩⟩
    · obtain ⟨hbusy, hways⟩ := State.goRange_visits (R := TcLine.Cleans) hwf hb (herr 2 (by decide) (by omega)) (by decide) hrl
        (fun u x hu => State.rangeLine_cleans hu o.unlock x) (fun _ _ _ => TcLine.Cleans.trans)
      refine ⟨hbusy, fun k w hw hv hr => ?_⟩
      have h := (hways k w hw).1 ⟨hv, hin _ hr⟩
      rw [TcLine.Cleans, if_pos hv] at h
      exact h
    · obtain ⟨h1, m, hm, h2, h3, -⟩ := State.goRange_preloads (op := 4) hb (herr 4 (by decide) (by omega)) (by decide) hla hhit hres hroom
      exact ⟨s.goRange 4 o none, rfl, h1, m, hm, h2, h3⟩
    · obtain ⟨h1, m, hm, h2, h3, h4⟩ := State.goRange_preloads (op := 5) hb (herr 5 (by decide) fun _ => hlock) (by decide) hla hhit hres hroom
      exact ⟨s.goRange 5 o none, rfl, h1, m, hm, h2, h3, h4 rfl⟩
  · refine ⟨_, exec_tcRangeDone hb hr hp, ?_⟩
    obtain ⟨h1, h2, h3⟩ := (s.onTc fun t => { t with busy := false, done := t.done || !(s.tc.errCode == 5) }).rangeAnswer_tc
    refine ⟨h1, h2.trans ?_, h3⟩
    show (s.tc.done || !(s.tc.errCode == 5)) = true
    rw [beq_false_of_ne herr]
    exact Bool.or_true _
  · refine ⟨_, exec_tcRangeDone hb hr hp, ?_⟩
    obtain ⟨h1, -, -⟩ := (s.onTc fun t => { t with busy := false, done := t.done || !(s.tc.errCode == 5) }).rangeAnswer_tc
    exact ⟨h1, State.rangeAnswer_answers (s := s.onTc fun t => { t with busy := false, done := t.done || !(s.tc.errCode == 5) }) hg hm hw⟩
  · exact congrArg Host.Outcome.next (if_pos (by rw [hb]; rfl))

end Sys2Proof.Machine
end

section
/-! PROOF. What a read of the media leaves, and the work on its wear, its age and its heat (O39). -/

namespace Sys2Proof.Machine

/-! ### A controller with nothing to be done -/

/-- Nothing of the log waits to be issued: no stripe to close, programme or record, no row, no unit to finish, no page to read, no Strike. -/
def State.logQuiet (s : State) : Prop :=
  (∀ k o, (s.stream k).stripe = some o → o.next = [] ∧ (s.stripeSectors = 0 ∨ o.sectors.length < s.stripeSectors)) ∧ (∀ e ∈ s.log.stripes, e.2.st ≠ .programming)
    ∧ s.log.padWait = [] ∧ s.log.sjWait = [] ∧ s.log.rows = [] ∧ (∀ e ∈ s.log.units, e.2.st ≠ .closed) ∧ s.map.waits = [] ∧ s.log.strike ≠ .running

theorem State.quiet_iff {s : State} (h : s.quiet = true) : s.logQuiet ∧ ∀ e ∈ s.rd.jobs, e.2.phase ≠ .waiting ∧ e.2.phase ≠ .queued := by
  unfold State.quiet at h
  simp only [Bool.and_eq_true, List.all_eq_true, bne_iff_ne, List.isEmpty_iff, Prod.forall] at h
  obtain ⟨⟨⟨⟨⟨⟨⟨⟨h1, h2⟩, h3⟩, h4⟩, h5⟩, h6⟩, h7⟩, h8⟩, h9⟩ := h
  refine ⟨⟨fun k o hk => ?_, fun e he => h2 e.1 e.2 he, h3, h4, h5, fun e he => h6 e.1 e.2 he, h8, h9⟩, fun e he => h7 e.1 e.2 he⟩
  have hmem : s.stream k ∈ s.log.streams := by
    rw [State.stream, nth, List.getD_eq_getElem?_getD] at hk ⊢
    cases hg : s.log.streams[k]? with
    | none =>
      rw [hg] at hk
      exact absurd hk nofun
    | some x => exact List.mem_of_getElem? hg
  have h := h1 _ hmem
  rw [hk] at h
  simpa using h

theorem State.logQuiet.congr {s t : State} (h : s.logQuiet) (hlog : t.log = s.log) (hmap : t.map = s.map) (hfn : t.fn.committed = s.fn.committed) : t.logQuiet := by
  have hsec : t.stripeSectors = s.stripeSectors := by rw [State.stripeSectors, State.stripeSectors, State.pl, State.pl, hfn]
  have hstream (k : Nat) : t.stream k = s.stream k := by rw [State.stream, State.stream, hlog]
  unfold State.logQuiet
  simp only [hlog, hmap, hsec, hstream]
  exact h

theorem State.kickPages_idle {s : State} (h : s.map.waits = []) : s.kickPages = s := by rw [State.kickPages, h, List.foldl_nil]

theorem State.strikeKick_idle {s : State} (h : s.log.strike ≠ .running) : s.strikeKick = s := by rw [State.strikeKick, if_pos h]

theorem foldl_same {σ α : Type} {f : σ → α → σ} {s : σ} {l : List α} (h : ∀ a ∈ l, f s a = s) : l.foldl f s = s := by
  induction l with
  | nil => rfl
  | cons a l ih => rw [List.foldl_cons, h a List.mem_cons_self, ih fun b hb => h b (List.mem_cons_of_mem _ hb)]

/-- With nothing of the log to be done and no decode waiting for a cell, only the reads that wait are tried. -/
theorem State.kick_reads {s : State} (h : s.logQuiet) (hq : ∀ e ∈ s.rd.jobs, e.2.phase ≠ .queued) : s.kick = s.kickReads.kickPages.strikeKick := by
  obtain ⟨h1, h2, h3, h4, h5, h6, -, -⟩ := h
  have hfull : s.closeFull = s := by
    unfold State.closeFull
    rw [List.filter_eq_nil_iff.2, List.foldl_nil]
    intro k _
    cases hk : (s.stream k).stripe with
    | none => exact Bool.false_ne_true
    | some o =>
      obtain ⟨hn, hs⟩ := h1 k o hk
      dsimp only
      rw [hn]
      rcases hs with hs | hs
      · simp [hs]
      · simp [Nat.not_le.2 hs]
  have hpads : s.kickPads = s := by rw [State.kickPads, h3, List.foldl_nil]
  have hmem : s.kickMembers = s := by
    unfold State.kickMembers
    rw [hpads]
    exact foldl_same fun e he => if_neg (h2 e he)
  have hsj : s.trySj = s := by rw [State.trySj, h4, List.foldl_nil]
  have hrows : s.log.rows.foldl (fun (s : State) e => s.tryXor (e.1 / 2048 / 64) (e.1 / 2048 % 64) (e.1 % 2048)) s = s := by rw [h5, List.foldl_nil]
  have hunits : s.log.units.foldl (fun (s : State) e => if e.2.st = .closed then s.finishRows e.1 else s) s = s := foldl_same fun e he => if_neg (h6 e he)
  have hdec : s.kickDecodes = s := foldl_same fun e he => if_neg (hq e he)
  unfold State.kick
  simp only [hfull, hmem, hsj, hrows, hunits, hdec]

theorem State.kick_idle {s : State} (h : s.logQuiet) (hj : ∀ e ∈ s.rd.jobs, e.2.phase ≠ .waiting ∧ e.2.phase ≠ .queued) : s.kick = s := by
  have hreads : s.kickReads = s := foldl_same fun e he => if_neg (hj e he).1
  rw [State.kick_reads h fun e he => (hj e he).2, hreads, State.kickPages_idle h.2.2.2.2.2.2.1, State.strikeKick_idle h.2.2.2.2.2.2.2]

theorem State.kick_quiet {s : State} (h : s.quiet = true) : s.kick = s := State.kick_idle (State.quiet_iff h).1 (State.quiet_iff h).2

/-! ### What is read of a sector does not depend on the counts -/

theorem State.hostResult_congr {s t : State} (hcip : t.cip = s.cip) (hfn : t.fn.committed = s.fn.committed) : t.hostResult = s.hostResult := by
  have hkey : t.storeKey = s.storeKey := by
    funext k
    rw [State.storeKey, State.storeKey, State.keySlot, State.keySlot, hcip]
  have hepoch : t.epochOf = s.epochOf := by
    funext w
    simp only [State.epochOf, hcip]
  have hns : t.nsEntry = s.nsEntry := by
    funext n
    simp only [State.nsEntry, hfn]
  have hdec : decipher t = decipher s := by
    funext p k
    simp only [decipher, hepoch]
  have htag : tagGood t = tagGood s := by
    funext p k
    simp only [tagGood, hepoch]
  funext ns p
  simp only [State.hostResult, hkey, hns, hdec, htag]

theorem State.acceptable_host_congr {s t : State} (h : t.sched = s.sched) (ord off : Nat) (p : Payload) :
    t.acceptable (.host ord off) p = s.acceptable (.host ord off) p := by
  have hcmd : t.cmd ord = s.cmd ord := by rw [State.cmd, State.cmd, h]
  simp only [State.acceptable, hcmd]

/-- The counts of a decode: of the bay's health and of the block's bin, and the warnings they cross. -/
def State.counted (s : State) (b die block n : Nat) (d : Decode) : State :=
  ((s.countDecode b d).track b die (s.block b die block).bin (if d.ok ∧ n = 0 then some d.imbalance else none)).checkBay b

theorem State.counted_keeps (s : State) (b die block n : Nat) (d : Decode) : (s.counted b die block n d).fn.committed = s.fn.committed
    ∧ (s.counted b die block n d).mask (these [.fn, .med, .evqs, .out]) = s.mask (these [.fn, .med, .evqs, .out]) := by
  refine ⟨?_, by simp [State.counted]⟩
  have h1 (u : State) (bin : Nat) (imb) : (u.track b die bin imb).fn.committed = u.fn.committed := by
    unfold State.track
    extract_lets k v sums next s1
    split
    · rfl
    · split
      · rfl
      · rfl
  have h2 (u : State) : (u.checkBay b).fn = u.fn := State.mask_fn (P := but [.fn]) (by simp) rfl
  rw [State.counted, h2, h1]
  rfl

/-! ### The end of a decode -/

section decode
variable {s : State} {job : Nat} {d : Decode} {r : CwRead} {raw : Payload} (haw : s.awake = true) (hj : tabGet s.rd.jobs job = some r) (hph : r.phase = .decoding)
  (hraw : r.raw = some raw)
include haw hj hph hraw

theorem exec_ldpcDecodeDone_good {ord off : Nat} (hu : r.user = .host ord off) (hok : d.ok = true) (hn : r.attempt = 0)
    (hacc : (s.counted (locBay r.loc) (locDie r.loc) (s.locBlock r.loc) r.attempt d).acceptable r.user (d.altered.getD raw) = true) :
    exec (.ldpcDecodeDone job d) s = .next (State.deliver deliverFuel (s.counted (locBay r.loc) (locDie r.loc) (s.locBlock r.loc) r.attempt d) job (some (d.altered.getD raw))).kick := by
  have hprobe : (r.user == .probe) = false := by
    rw [hu]
    rfl
  have hpat : r.user.isPatrol = false := by
    rw [hu]
    rfl
  rw [show exec (.ldpcDecodeDone job d) s = execLdpcDecodeDone job d s from rfl, execLdpcDecodeDone, hj]
  dsimp only
  rw [hph, hraw]
  dsimp only
  generalize hv : s.counted (locBay r.loc) (locDie r.loc) (s.locBlock r.loc) r.attempt d = v at hacc ⊢
  rw [State.counted] at hv
  rw [hv, haw, hprobe, hpat]
  simp only [Bool.not_true, Bool.false_eq_true, if_false, hok, hn, if_true, Bool.false_and, hacc]

theorem exec_ldpcDecodeDone_bad (hok : d.ok = false) (hn : r.attempt < r.cap) : ∃ u : State,
    u.mask (these [.fn, .med, .evqs, .out, .held, .flt]) = s.mask (these [.fn, .med, .evqs, .out, .held, .flt]) ∧ u.fn.committed = s.fn.committed
      ∧ exec (.ldpcDecodeDone job d) s = .next
        (u.onRd fun x => { x with jobs := tabMod x.jobs job fun r' => { r' with attempt := r.attempt + 1, phase := .waiting, raw := none } }).kick := by
  obtain ⟨hcom, -⟩ := s.counted_keeps (locBay r.loc) (locDie r.loc) (s.locBlock r.loc) r.attempt d
  have hmask : (s.counted (locBay r.loc) (locDie r.loc) (s.locBlock r.loc) r.attempt d).mask (these [.fn, .med, .evqs, .out, .held, .flt])
      = s.mask (these [.fn, .med, .evqs, .out, .held, .flt]) := by simp [State.counted]
  rw [show exec (.ldpcDecodeDone job d) s = execLdpcDecodeDone job d s from rfl, execLdpcDecodeDone, hj]
  dsimp only
  rw [hph, hraw]
  dsimp only
  generalize hv : s.counted (locBay r.loc) (locDie r.loc) (s.locBlock r.loc) r.attempt d = v at hcom hmask
  rw [State.counted] at hv
  rw [hv, haw]
  simp only [Bool.not_true, Bool.false_eq_true, if_false, hok, hn, if_true]
  refine ⟨if (r.user == .probe) = true then v else v.raise (v.ldpcUnit (locBay r.loc) job) classT 0x05 (addrLoc (locBay r.loc) r.loc), ?_, ?_, rfl⟩
  · split
    · exact hmask
    · exact (State.raise_mask rfl rfl _ _ _ _ _).trans hmask
  · split
    · exact hcom
    · exact (congrArg Fn.committed (State.mask_fn (P := but [.fn]) (by simp) rfl)).trans hcom

end decode

theorem ldpcDecodeDone_reads {s : State} {job : Nat} {d : Decode} {r : CwRead} {raw : Payload} {ord off : Nat} {c : Cmd} (haw : s.awake = true)
    (hwf : tabWf s.rd.jobs = true) (hj : tabGet s.rd.jobs job = some r) (hph : r.phase = .decoding) (hraw : r.raw = some raw) (hu : r.user = .host ord off)
    (hq : s.quiet = true) (hc : s.cmd ord = some c) (hok : d.ok = true) (hn : r.attempt = 0) (hacc : s.acceptable r.user (d.altered.getD raw) = true) :
    Completes (.ldpcDecodeDone job d) s fun t => tabGet t.rd.jobs job = none
      ∧ t.cmd ord = some { c with results := c.results.map fun e => if e.1 = off then (off, s.hostResult c.ns (d.altered.getD raw)) else e } := by
  obtain ⟨hcom, hmask⟩ := s.counted_keeps (locBay r.loc) (locDie r.loc) (s.locBlock r.loc) r.attempt d
  have hex := exec_ldpcDecodeDone_good (d := d) haw hj hph hraw hu hok hn
  generalize s.counted (locBay r.loc) (locDie r.loc) (s.locBlock r.loc) r.attempt d = v at hcom hmask hex
  have hsched : v.sched = s.sched := State.mask_sched hmask rfl
  have hrd : v.rd = s.rd := State.mask_rd hmask rfl
  have hcmd : (v.endJob job).cmd ord = some c := by
    show tabGet v.sched.cmds ord = some c
    rw [hsched]
    exact hc
  have hhost : v.hostResult = s.hostResult := State.hostResult_congr (State.mask_cip hmask rfl) hcom
  have hdel : State.deliver deliverFuel v job (some (d.altered.getD raw)) = (v.endJob job).setResult ord off (s.hostResult c.ns (d.altered.getD raw)) := by
    rw [show deliverFuel = 7 + 1 from rfl, State.deliver, hrd, hj]
    dsimp only
    rw [hu]
    dsimp only
    rw [hcmd]
    dsimp only
    rw [show (v.endJob job).hostResult = v.hostResult from rfl, hhost]
  have hex1 := hex (by rw [hu, State.acceptable_host_congr hsched, ← hu]; exact hacc)
  obtain ⟨hlq, hjobs⟩ := State.quiet_iff hq
  have hlog : v.log = s.log := State.mask_log hmask rfl
  have hmap : v.map = s.map := State.mask_map hmask rfl
  have hquiet : ((v.endJob job).setResult ord off (s.hostResult c.ns (d.altered.getD raw))).logQuiet := hlq.congr hlog hmap hcom
  rw [hdel, State.kick_idle hquiet fun e he => hjobs e (hrd ▸ (tabDel_sublist _ _).subset he)] at hex1
  refine ⟨_, hex1, ?_, State.cmd_onCmd hcmd _⟩
  show tabGet (tabDel v.rd.jobs job) job = none
  rw [hrd, tabGet_tabDel hwf, if_pos rfl]

/-- The read `job` is to be tried again, and nothing else can be. -/
def State.Retries (job : Nat) (r : CwRead) (t : State) : Prop :=
  (∃ x, tabGet t.rd.jobs job = some x ∧ x.attempt = r.attempt + 1 ∧ x.raw = none ∧ x.loc = r.loc ∧ x.user = r.user ∧ x.phase ≠ .decoding)
    ∧ t.map.waits = [] ∧ t.log.strike ≠ .running

theorem State.queueRewrite_strike (s : State) (b die block : Nat) : (s.queueRewrite b die block).log.strike = s.log.strike := by
  unfold State.queueRewrite
  extract_lets e s1
  have hs1 : s1.log.strike = s.log.strike := by
    unfold s1
    split <;> rfl
  clear_value s1
  split
  · rfl
  · split
    · rfl
    · have hev : (s1.event 0x608 0x0A 1 0).log = s1.log := State.mask_log (P := but [.log]) (by simp) rfl
      rw [hev]
      exact hs1

theorem State.countRead_strike (s : State) (b die block : Nat) : (s.countRead b die block).log.strike = s.log.strike := by
  have hev (u : State) (k v : Nat) : (u.event (0x500 + b) k v 0).log = u.log := State.mask_log (P := but [.log]) (by simp) rfl
  unfold State.countRead
  extract_lets r reads s1
  split
  · rfl
  · extract_lets s2
    have hs2 : s2.log.strike = s.log.strike := by
      unfold s2
      split
      · rw [hev]
        rfl
      · rfl
    clear_value s2
    split
    · rw [State.queueRewrite_strike, hs2]
    · exact hs2

theorem State.tryRead_retries {t : State} {job : Nat} {r : CwRead} (h : State.Retries job r t) (j : Nat) : State.Retries job r (t.tryRead j) := by
  obtain ⟨⟨x, hx, h1, h2, h3, h4, h5⟩, hw, hs⟩ := id h
  unfold State.tryRead
  split
  · exact h
  · next q hq =>
    extract_lets b block offs slc op
    split
    · exact h
    · split
      · exact h
      · next u hu =>
        have hm : u.mask (these [.sheet, .out]) = t.mask (these [.sheet, .out]) := State.issue_mask rfl rfl hu
        have hrd : (u.countRead b (locDie q.loc) block).rd = t.rd := (State.mask_rd (P := but [.rd]) (by simp) rfl).trans (State.mask_rd hm rfl)
        have hmap : (u.countRead b (locDie q.loc) block).map = t.map := (State.mask_map (P := but [.map]) (by simp) rfl).trans (State.mask_map hm rfl)
        have hstrike : (u.countRead b (locDie q.loc) block).log.strike = t.log.strike := by rw [State.countRead_strike, State.mask_log hm rfl]
        generalize u.countRead b (locDie q.loc) block = v at hrd hmap hstrike
        refine ⟨?_, by rw [show (v.onRd _).map = v.map from rfl, hmap]; exact hw, by rw [show (v.onRd _).log = v.log from rfl, hstrike]; exact hs⟩
        show ∃ x, tabGet (tabMod v.rd.jobs j _) job = some x ∧ _
        rw [hrd]
        by_cases hjj : j = job
        · exact ⟨{ x with offsets := offs, phase := .reading }, by rw [tabGet_tabMod, if_pos hjj, hx]; rfl, h1, h2, h3, h4, nofun⟩
        · exact ⟨x, by rw [tabGet_tabMod, if_neg hjj]; exact hx, h1, h2, h3, h4, h5⟩

theorem ldpcDecodeDone_retries {s : State} {job : Nat} {d : Decode} {r : CwRead} {raw : Payload} (haw : s.awake = true)
    (hj : tabGet s.rd.jobs job = some r) (hph : r.phase = .decoding) (hraw : r.raw = some raw) (hok : d.ok = false) (hn : r.attempt < r.cap) (hq : s.quiet = true) :
    Completes (.ldpcDecodeDone job d) s fun t =>
      ∃ x, tabGet t.rd.jobs job = some x ∧ x.attempt = r.attempt + 1 ∧ x.raw = none ∧ x.loc = r.loc ∧ x.user = r.user ∧ x.phase ≠ .decoding := by
  obtain ⟨u, hmask, hcom, hex⟩ := exec_ldpcDecodeDone_bad haw hj hph hraw hok hn
  obtain ⟨v, hv⟩ : ∃ v, v = u.onRd fun x => { x with jobs := tabMod x.jobs job fun r' => { r' with attempt := r.attempt + 1, phase := .waiting, raw := none } } := ⟨_, rfl⟩
  rw [← hv] at hex
  obtain ⟨hlq, hjobs⟩ := State.quiet_iff hq
  have hrd : v.rd.jobs = tabPut s.rd.jobs job { r with attempt := r.attempt + 1, phase := .waiting, raw := none } := by
    rw [hv]
    show tabMod u.rd.jobs job _ = _
    rw [State.mask_rd hmask rfl, tabMod, hj]
  have hlog : u.log = s.log := State.mask_log hmask rfl
  have hmap : u.map = s.map := State.mask_map hmask rfl
  have hquiet : v.logQuiet := hlq.congr (by rw [hv]; exact hlog) (by rw [hv]; exact hmap) (by rw [hv]; exact hcom)
  have hretry : State.Retries job r v := by
    refine ⟨⟨{ r with attempt := r.attempt + 1, phase := .waiting, raw := none }, by rw [hrd]; exact tabGet_tabPut_same _ _ _, rfl, rfl, rfl, rfl, nofun⟩, hquiet.2.2.2.2.2.2.1, hquiet.2.2.2.2.2.2.2⟩
  have hkeep : State.Retries job r v.kickReads := by
    unfold State.kickReads
    refine List.foldlRecOn (motive := State.Retries job r) _ _ hretry fun t ht e _ => ?_
    split
    · exact State.tryRead_retries ht _
    · exact ht
  rw [State.kick_reads hquiet fun e he => ?_, State.kickPages_idle hkeep.2.1, State.strikeKick_idle hkeep.2.2] at hex
  · exact ⟨_, hex, hkeep.1⟩
  · rw [hrd] at he
    rcases mem_tabPut he with rfl | he
    · exact nofun
    · exact (hjobs e he).2

/-! ### Probes -/

theorem State.queueRewrite_med (s : State) (b die block : Nat) : (s.queueRewrite b die block).med = s.med := State.mask_med (P := but [.med]) (by simp) rfl

theorem State.countRead_probes (s : State) (b die block : Nat) : (s.countRead b die block).med.probes = s.med.probes := by
  have hev (u : State) (k v : Nat) : (u.event (0x500 + b) k v 0).med = u.med := State.mask_med (P := but [.med]) (by simp) rfl
  unfold State.countRead
  extract_lets r reads s1
  split
  · rfl
  · extract_lets s2
    have hs2 : s2.med.probes = s.med.probes := by
      unfold s2
      split
      · rw [hev]
        rfl
      · rfl
    clear_value s2
    split
    · rw [State.queueRewrite_med, hs2]
    · exact hs2

/-- The read of a probe that is not under way yet. -/
def State.probeRead (s : State) (p : Probe) : State :=
  (((s.newJob p.loc .probe false).2.onRd fun x =>
    { x with jobs := tabMod x.jobs s.rd.nextJob fun r => { r with attempt := p.next, cap := p.last, offsets := p.offsets } }).onMed fun m =>
    { m with probes := m.probes.map fun q => if q == p then { q with inflight := true } else q }).chargeBack 7 1

theorem probeIssue_reads {s : State} {p : Probe} (haw : s.awake = true) (hp : s.med.probes.find? (fun p => !p.inflight) = some p) (hl : s.backLeft 7 ≠ 0)
    (hlost : s.placeLost p.loc = false) (hread : s.readable (locBay p.loc) = true) : Completes .probeIssue s fun t =>
      (∃ x, tabGet t.rd.jobs s.rd.nextJob = some x ∧ x.loc = p.loc ∧ x.attempt = p.next ∧ x.cap = p.last ∧ x.user = .probe)
        ∧ { p with inflight := true } ∈ t.med.probes := by
  have hex : exec .probeIssue s = .next ((s.probeRead p).tryRead s.rd.nextJob) := by
    rw [show exec .probeIssue s = execProbeIssue s from rfl, execProbeIssue, hp]
    dsimp only
    rw [if_neg (by simp [haw, hl]), if_neg (by simp [hlost, hread])]
    rfl
  have hrd : (s.probeRead p).rd.jobs = tabMod (tabPut s.rd.jobs s.rd.nextJob ⟨p.loc, .probe, false, 0, s.capOf .probe false, [], .waiting, none⟩) s.rd.nextJob
      fun r => { r with attempt := p.next, cap := p.last, offsets := p.offsets } := by
    unfold State.probeRead State.chargeBack
    split <;> rfl
  have hmed : { p with inflight := true } ∈ (s.probeRead p).med.probes := by
    have h1 : (s.probeRead p).med.probes = s.med.probes.map fun q => if q == p then { q with inflight := true } else q := by
      unfold State.probeRead State.chargeBack
      split <;> rfl
    rw [h1]
    exact List.mem_map.2 ⟨p, List.mem_of_find?_eq_some hp, if_pos (by simp)⟩
  generalize s.probeRead p = u at hex hrd hmed
  have hget : tabGet u.rd.jobs s.rd.nextJob = some ⟨p.loc, .probe, false, p.next, p.last, p.offsets, .waiting, none⟩ := by
    rw [hrd, tabGet_tabMod, if_pos rfl, tabGet_tabPut_same]
    rfl
  refine ⟨_, hex, ?_⟩
  beta_reduce
  rw [State.tryRead, hget]
  dsimp only
  rw [if_neg (fun h => h rfl)]
  split
  · exact ⟨⟨_, hget, rfl, rfl, rfl, rfl⟩, hmed⟩
  · next v hv =>
    have hm : v.mask (these [.sheet, .out]) = u.mask (these [.sheet, .out]) := State.issue_mask rfl rfl hv
    have hrd2 (b die block : Nat) : (v.countRead b die block).rd = u.rd := (State.mask_rd (P := but [.rd]) (by simp) rfl).trans (State.mask_rd hm rfl)
    have hprobes (b die block : Nat) : (v.countRead b die block).med.probes = u.med.probes := by rw [State.countRead_probes, State.mask_med hm rfl]
    have hread (w : State) (hw : w.rd = u.rd) (offs : List Int) : tabGet (w.onRd fun x => { x with jobs := tabMod x.jobs s.rd.nextJob fun r => { r with offsets := offs, phase := .reading } }).rd.jobs
        s.rd.nextJob = some ⟨p.loc, .probe, false, p.next, p.last, offs, .reading, none⟩ := by
      show tabGet (tabMod w.rd.jobs _ _) _ = _
      rw [hw, tabGet_tabMod, if_pos rfl, hget]
      rfl
    exact ⟨⟨_, hread _ (hrd2 _ _ _) _, rfl, rfl, rfl, rfl⟩, by rw [← hprobes] at hmed; exact hmed⟩

/-! ### Warnings and health -/

theorem State.monitor_health (s : State) (source row b die value : Nat) (past back : Bool) : (s.monitor source row b die value past back).med.health = s.med.health := by
  have hev (u : State) (k x y : Nat) : (u.event source k x y).med = u.med := State.mask_med (P := but [.med]) (by simp) rfl
  unfold State.monitor
  extract_lets k w put
  have hput (u : State) (w : Warn) : (put u w).med.health = u.med.health := rfl
  clear_value put
  split
  · split
    · rw [hev, hput]
    · rw [hput]
  · split
    · rw [hev, hput]
    · rfl

theorem State.noteTemp_health (s : State) (b : Nat) (t : Int) :
    (s.noteTemp b t).med.health = (s.onHealth b fun h => { h with tempNow := t, tempPeak := max h.tempPeak t }).med.health := by
  unfold State.noteTemp
  extract_lets s1 port
  have h1 : s1.med.health = (s.onHealth b fun h => { h with tempNow := t, tempPeak := max h.tempPeak t }).med.health := rfl
  clear_value s1
  split
  · exact h1
  · extract_lets top s2 s3 line
    have hask (u : State) (c a v) : (u.ask b c a v).med = u.med := State.mask_med (P := but [.med]) (by simp) rfl
    have hport (u : State) (g : Port → Port) : (u.onPort b g).med = u.med := rfl
    have h2 : s2.med = s1.med := by
      unfold s2
      split
      · rfl
      · split
        · exact (hport _ _).trans (hask _ _ _ _)
        · split
          · exact (hport _ _).trans (hask _ _ _ _)
          · rfl
    have h3 : s3.med = s2.med := rfl
    clear_value s3 s2
    have hspace (u : State) : u.checkSpace.med = u.med := State.mask_med (P := but [.med]) (by simp) rfl
    rw [hspace, State.monitor_health, h3, h2, h1]

theorem State.health_onHealth {s : State} {b : Nat} (hb : b < s.med.health.length) (g : Health → Health) (c : Nat) :
    (s.onHealth b g).health c = if b = c then g (s.health c) else s.health c :=
  nth_modNth_of_lt c g Health.reset hb

/-- One second of a module's age clock: the factor of its band of temperature, and a minute of that band once 60 have passed. -/
def Health.ticked (h : Health) (d : ModuleDesc) (k : Nat) : Health :=
  { h with
    ageClock := (h.ageClock + nth d.af k 0) % 2 ^ 64
    minuteBands := if h.minuteBands + 1 = 60 then 0 else h.minuteBands + 1
    tempHist := if h.minuteBands + 1 = 60 then modNth h.tempHist k fun n => satAdd 0xFFFFFFFF n 1 else h.tempHist }

theorem exec_ageClockTick {s : State} {b : Fin 48} {d : ModuleDesc} (haw : s.awake = true) (hd : s.desc b = some d) :
    exec (.ageClockTick b none) s = .next (s.onHealth b fun h => h.ticked d (tempBand (s.health b).tempNow)) ∧
    ∀ x, exec (.ageClockTick b (some x)) s = .next ((s.noteTemp b x).onHealth b fun h => h.ticked d (tempBand ((s.noteTemp b x).health b).tempNow)) := by
  refine ⟨?_, fun x => ?_⟩
  · rw [show exec (.ageClockTick b none) s = execAgeClockTick b none s from rfl, execAgeClockTick]
    dsimp only
    rw [hd]
    exact congrArg Host.Outcome.next (if_neg (by rw [haw]; decide))
  · rw [show exec (.ageClockTick b (some x)) s = execAgeClockTick b (some x) s from rfl, execAgeClockTick]
    dsimp only
    rw [hd]
    exact congrArg Host.Outcome.next (if_neg (by rw [haw]; decide))

/-! ### The scan of the blocks -/

theorem State.queueRewrite_rewrite {s : State} (b die block : Nat) (hroom : s.reb.rewrite.length < 4096) :
    (∀ e ∈ s.reb.rewrite, e ∈ (s.queueRewrite b die block).reb.rewrite) ∧ ⟨b, die, block⟩ ∈ (s.queueRewrite b die block).reb.rewrite
      ∧ (s.queueRewrite b die block).reb.rewrite.length ≤ s.reb.rewrite.length + 1 := by
  unfold State.queueRewrite
  extract_lets e s1
  split
  · next hc => exact ⟨fun _ h => h, List.contains_iff_mem.1 hc, Nat.le_succ _⟩
  · exact ⟨fun _ h => List.mem_append_left _ h, List.mem_append_right _ List.mem_cons_self, (List.length_append).le⟩

theorem State.queueRewrite_all (l : List (Nat × Nat × Nat)) {s : State} (hroom : s.reb.rewrite.length + l.length ≤ 4096) :
    (∀ e ∈ s.reb.rewrite, e ∈ (l.foldl (fun (s : State) x => s.queueRewrite x.1 x.2.1 x.2.2) s).reb.rewrite)
      ∧ ∀ x ∈ l, ⟨x.1, x.2.1, x.2.2⟩ ∈ (l.foldl (fun (s : State) x => s.queueRewrite x.1 x.2.1 x.2.2) s).reb.rewrite := by
  induction l generalizing s with
  | nil => exact ⟨fun _ h => h, fun x hx => absurd hx List.not_mem_nil⟩
  | cons a l ih =>
    rw [List.length_cons] at hroom
    obtain ⟨h1, h2, h3⟩ := State.queueRewrite_rewrite a.1 a.2.1 a.2.2 (s := s) (by omega)
    obtain ⟨h4, h5⟩ := ih (s := s.queueRewrite a.1 a.2.1 a.2.2) (by omega)
    refine ⟨fun e he => h4 e (h1 e he), fun x hx => ?_⟩
    rcases List.mem_cons.1 hx with rfl | hx
    · exact h4 _ h2
    · exact h5 x hx

/-- The place of a block in use that has reached 80 % of its retention. -/
def State.oldBlock (s : State) (e : Nat × BlockRec) : Option (Nat × Nat × Nat) :=
  let b := e.1 / 16384 / 128
  match s.desc b with
  | some d =>
    if (e.2.st = .opened ∨ e.2.st = .programmed) ∧ 8 * d.retHours * 3600 ≤ 10 * s.blockAge b e.2 then some (b, e.1 / 16384 % 128, e.1 % 16384) else none
  | none => none

theorem exec_blockRecordScan {s : State} (haw : s.awake = true) : ∃ u : State,
    u.reb = ((s.med.blocks.filterMap s.oldBlock).foldl (fun (s : State) x => s.queueRewrite x.1 x.2.1 x.2.2) s).reb ∧
      exec .blockRecordScan s = .next (u.onMed fun m => { m with health := m.health.map fun h => { h with hourCw := 0, hourBits := 0 } }) := by
  have hreb (v : State) (l : List Nat) : (l.foldl (fun (s : State) b => s.checkBay b) v).reb = v.reb := State.mask_reb (P := but [.reb]) (by simp) rfl
  obtain ⟨v, hv⟩ : ∃ v, v = (s.med.blocks.filterMap s.oldBlock).foldl (fun (s : State) x => s.queueRewrite x.1 x.2.1 x.2.2) s := ⟨_, rfl⟩
  refine ⟨_, (hreb v v.bays).trans (by rw [hv]), ?_⟩
  · rw [hv]
    exact congrArg Host.Outcome.next (if_neg (by rw [haw]; decide))

theorem blockRecordScan_queues {s : State} (haw : s.awake = true) : Completes .blockRecordScan s fun t =>
    (∀ e d, e ∈ s.med.blocks → s.desc (e.1 / 16384 / 128) = some d → (e.2.st = .opened ∨ e.2.st = .programmed) →
        8 * d.retHours * 3600 ≤ 10 * s.blockAge (e.1 / 16384 / 128) e.2 → s.reb.rewrite.length + s.med.blocks.length ≤ 4096 →
      ⟨e.1 / 16384 / 128, e.1 / 16384 % 128, e.1 % 16384⟩ ∈ t.reb.rewrite)
    ∧ ∀ h ∈ t.med.health, h.hourCw = 0 ∧ h.hourBits = 0 := by
  obtain ⟨u, hu, hex⟩ := exec_blockRecordScan haw
  refine ⟨_, hex, fun e d he hd hst hage hroom => ?_, fun h hh => ?_⟩
  · show _ ∈ u.reb.rewrite
    rw [hu]
    refine (State.queueRewrite_all _ (Nat.le_trans (Nat.add_le_add_left (List.length_filterMap_le _ _) _) hroom)).2 (e.1 / 16384 / 128, e.1 / 16384 % 128, e.1 % 16384)
      (List.mem_filterMap.2 ⟨e, he, ?_⟩)
    rw [State.oldBlock, hd]
    exact if_pos ⟨hst, hage⟩
  · obtain ⟨x, -, rfl⟩ := List.mem_map.1 hh
    exact ⟨rfl, rfl⟩

/-! ### Wear -/

theorem bestBy_isSome {f : Nat → Nat} {l : List Nat} (h : l ≠ []) : ∃ u, bestBy f l = some u ∧ u ∈ l ∧ ∀ v ∈ l, f u ≤ f v := by
  have key (l : List Nat) (w : Nat) : ∃ u, l.foldl (fun b u => match b with
      | some v => if f u < f v then some u else some v
      | none => some u) (some w) = some u ∧ (u = w ∨ u ∈ l) ∧ f u ≤ f w ∧ ∀ v ∈ l, f u ≤ f v := by
    induction l generalizing w with
    | nil => exact ⟨w, rfl, .inl rfl, Nat.le_refl _, fun v hv => absurd hv List.not_mem_nil⟩
    | cons a l ih =>
      rw [List.foldl_cons]
      by_cases hlt : f a < f w
      · obtain ⟨u, h1, h2, h3, h4⟩ := ih a
        refine ⟨u, by simp only [if_pos hlt, h1], .inr (h2.elim (fun h => h ▸ List.mem_cons_self) fun h => List.mem_cons_of_mem _ h), by omega, fun v hv => ?_⟩
        rcases List.mem_cons.1 hv with rfl | hv
        · exact h3
        · exact h4 v hv
      · obtain ⟨u, h1, h2, h3, h4⟩ := ih w
        refine ⟨u, by simp only [if_neg hlt, h1], h2.imp_right fun h => List.mem_cons_of_mem _ h, h3, fun v hv => ?_⟩
        rcases List.mem_cons.1 hv with rfl | hv
        · omega
        · exact h4 v hv
  cases l with
  | nil => exact absurd rfl h
  | cons a l =>
    obtain ⟨u, h1, h2, h3, h4⟩ := key l a
    refine ⟨u, h1, List.mem_cons.2 h2, fun v hv => ?_⟩
    rcases List.mem_cons.1 hv with rfl | hv
    · exact h3
    · exact h4 v hv

theorem State.unit_onUnit {s : State} (hwf : tabWf s.log.units = true) (u : Nat) (g : UnitRec → UnitRec) (v : Nat) :
    (s.onUnit u g).unit v = if v = u then g (s.unit u) else s.unit v := by
  show tabGetD (tabUpd UnitRec.blank s.log.units u g) v UnitRec.blank = _
  rw [tabUpd, tabGetD, tabGet_tabPut hwf]
  split
  · rfl
  · rfl

/-- The wear gap that makes a victim (R201). -/
def State.wearGap (s : State) : Nat :=
  let used := (s.log.units.filter fun e => e.2.st != .free).map fun e => s.wear e.1
  used.foldl max 0 - used.foldl min (used.foldl max 0)

/-- The lowest rated wear of the declared bays. -/
def State.ratedWear (s : State) : Nat := (s.bays.filterMap fun b => (s.desc b).map fun d => d.peRated).foldl min (2 ^ 32)

theorem wearCheck_picks {s : State} (haw : s.awake = true) (hruns : s.logRuns = true) (hv : s.victims ≠ []) (hfree : 2 * s.reclaimReserve < s.freeUnits)
    (hwf : tabWf s.log.units = true) (hgap : 5 * s.ratedWear < 100 * s.wearGap) : Completes .wearCheck s fun t =>
      ∃ u ∈ s.victims, (t.unit u).st = .victim ∧ (∀ v ∈ s.victims, s.wear u ≤ s.wear v) ∧ ∀ v, v ≠ u → t.unit v = s.unit v := by
  obtain ⟨u, hbest, hmem, hmin⟩ := bestBy_isSome (f := fun u => s.wear u) hv
  obtain ⟨s1, hs1⟩ : ∃ s1, s1 = s.bays.foldl (fun (s : State) b => s.checkWear b) s := ⟨_, rfl⟩
  have hlog : s1.log = s.log := State.mask_log (P := but [.log]) (by simp [hs1]) rfl
  have hex : exec .wearCheck s = .next (s1.onUnit u fun x => { x with st := .victim }) := by
    rw [show exec .wearCheck s = execWearCheck s from rfl, execWearCheck, if_neg (by rw [haw]; decide)]
    dsimp only
    rw [if_pos (by rw [hruns]; simpa using ⟨hgap, hfree⟩), hbest, hs1]
  have hunit := State.unit_onUnit (s := s1) (by rw [hlog]; exact hwf) u fun x => { x with st := .victim }
  refine ⟨_, hex, u, hmem, ?_, hmin, fun v hne => ?_⟩
  · rw [hunit, if_pos rfl]
  · rw [hunit, if_neg hne, State.unit, State.unit, hlog]

/-- Settles O39: a decode ends or retries, a probe is read, and the clocks, the scan and the wear check do their work. -/
theorem mediaWork : Obligations.MediaWork := by
  intro s haw hlen
  refine ⟨fun job r raw d hwf hj hph hraw => ⟨fun ord off c hu hq _ hc hok hn hacc => ldpcDecodeDone_reads haw hwf hj hph hraw hu hq hc hok hn hacc,
    fun hok hn hq => ldpcDecodeDone_retries haw hj hph hraw hok hn hq⟩, fun p hp hl hlost hread _ => probeIssue_reads haw hp hl hlost hread, fun hl => ?_,
    fun b d hd => ⟨?_, fun x => ?_⟩, blockRecordScan_queues haw, fun hruns hv hfree hwf hgap => wearCheck_picks haw hruns hv hfree hwf hgap, ?_⟩
  · rw [show exec .probeIssue s = execProbeIssue s from rfl, execProbeIssue]
    split
    · rfl
    · exact congrArg Host.Outcome.next (if_pos (.inr hl))
  · have hb : b.val < s.med.health.length := by rw [hlen]; exact b.isLt
    have hh := State.health_onHealth hb fun h => h.ticked d (tempBand (s.health b).tempNow)
    refine ⟨_, (exec_ageClockTick haw hd).1, ?_, ?_, fun c hc => ?_⟩
    · rw [hh, if_pos rfl]
      rfl
    · rw [hh, if_pos rfl]
      rfl
    · rw [hh, if_neg (Ne.symm hc)]
  · have hb : b.val < s.med.health.length := by rw [hlen]; exact b.isLt
    have hnote := s.noteTemp_health b x
    have hb2 : b.val < (s.noteTemp b x).med.health.length := by
      rw [hnote]
      exact (modNth_length _ _ _).symm ▸ hb
    have hh := State.health_onHealth hb2 fun h => h.ticked d (tempBand ((s.noteTemp b x).health b).tempNow)
    have hnow : (s.noteTemp b x).health b = { s.health b with tempNow := x, tempPeak := max (s.health b).tempPeak x } := by
      rw [State.health, hnote]
      exact (State.health_onHealth hb _ b).trans (if_pos rfl)
    refine ⟨_, (exec_ageClockTick haw hd).2 x, ?_, ?_⟩
    · rw [hh, if_pos rfl, hnow]
      rfl
    · rw [hh, if_pos rfl, hnow]
      rfl
  · exact ⟨_, congrArg Host.Outcome.next (if_pos haw), rfl⟩

end Sys2Proof.Machine
end

section
/-! SUPPORT. What the work that follows an operation's end may change of a port: its operations, its frames and its credits only. -/

namespace Sys2Proof.Machine

/-- A port but for its operations, its replay buffer, its sequence and its credits. -/
@[simp] def Port.core (p : Port) : Port :=
  { p with txSeq := 0, replay := [], nakSent := false, ackDue := false, crCmd := 0, crData := 0, ops := [], nextTag := 0, needErase := [] }

/-- The ports of the sheet, but for what commands and frames change of them. -/
def State.cores (s : State) : List Port := s.sheet.ports.map Port.core

/-- Every group of the state but the sheet. -/
def butSheet (p : Part) : Bool := decide (p ≠ .sheet)

@[simp] theorem butSheet_eq_true {p : Part} : butSheet p = true ↔ p ≠ .sheet := by simp [butSheet]

theorem State.cores_mask (s : State) : (s.mask butSheet).cores = s.cores := rfl

@[simp] theorem State.ite_cores (p : Prop) [Decidable p] (s t : State) : (if p then s else t).cores = if p then s.cores else t.cores := by
  split <;> rfl

@[simp] theorem State.foldl_cores {α : Type} {g : State → α → State} (h : ∀ s a, ((g s a).mask butSheet).cores = (s.mask butSheet).cores) (l : List α)
    (s : State) : ((l.foldl g s).mask butSheet).cores = (s.mask butSheet).cores := by
  induction l generalizing s with
  | nil => rfl
  | cons a t ih => rw [List.foldl_cons, ih, h]

theorem map_modNth_of_fix {α β : Type} {f : α → β} {g : α → α} (hg : ∀ a, f (g a) = f a) (l : List α) (i : Nat) : (modNth l i g).map f = l.map f := by
  induction l generalizing i with
  | nil => rfl
  | cons a l ih => cases i with
    | zero => rw [modNth, List.map_cons, List.map_cons, hg]
    | succ i => rw [modNth, List.map_cons, List.map_cons, ih]

@[simp] theorem State.onPort_cores (s : State) (b : Nat) {g : Port → Port} (hg : ∀ p, (g p).core = p.core) :
    ((s.onPort b g).mask butSheet).cores = (s.mask butSheet).cores :=
  map_modNth_of_fix hg s.sheet.ports b

theorem Port.seqFrames_core (p : Port) (type tag n : Nat) : (p.seqFrames type tag n).core = p.core := by
  induction n generalizing p with
  | zero => rfl
  | succ n ih => exact ih _

theorem State.issue_cores {s t : State} {b : Nat} {op : SheetOp} {value : BitVec 64} {offsets : List Int} {frames : List Payload} (h : s.issue b op value offsets frames = some t) :
    (t.mask butSheet).cores = (s.mask butSheet).cores := by
  unfold State.issue at h
  extract_lets p tag s1 s2 at h
  have h1 : (s1.mask butSheet).cores = (s.mask butSheet).cores :=
    s.onPort_cores b fun p => (Port.seqFrames_core _ _ _ _).trans ((Port.seqFrames_core _ _ _ _).trans rfl)
  split at h
  · rw [← Option.some.inj h]
    split
    · exact h1
    · exact h1
  · exact absurd h nofun

@[simp] theorem State.issue_getD_cores (s : State) (b : Nat) (op : SheetOp) (value : BitVec 64) (offsets : List Int) (frames : List Payload) :
    (((s.issue b op value offsets frames).getD s).mask butSheet).cores = (s.mask butSheet).cores := by
  cases h : s.issue b op value offsets frames with
  | none => rfl
  | some t => exact State.issue_cores h

@[simp] theorem State.tryXor_cores (s : State) (u b row : Nat) : ((State.tryXor s u b row).mask butSheet).cores = (s.mask butSheet).cores := by
  unfold State.tryXor
  repeat' (first | with_reducible rfl | (rename_i h; simp [State.issue_cores h]) | split | (refine (State.foldl_cores (fun _ _ => ?_) _ _).trans ?_) | simp)

@[simp] theorem State.intoRow_cores (s : State) (u : Nat) (page : Loc) (payloads : List Payload) : ((State.intoRow s u page payloads).mask butSheet).cores = (s.mask butSheet).cores := by simp [State.intoRow]

@[simp] theorem State.firstErase_cores (s : State) (b die block : Nat) : ((State.firstErase s b die block).2.mask butSheet).cores = (s.mask butSheet).cores := by
  simp only [State.firstErase]
  split
  · split <;> simp
  · rfl

@[simp] theorem State.kickPads_cores (s : State) : ((State.kickPads s).mask butSheet).cores = (s.mask butSheet).cores := by
  unfold State.kickPads
  repeat' (first | with_reducible rfl | (rename_i h; simp [State.issue_cores h]) | split | (refine (State.foldl_cores (fun _ _ => ?_) _ _).trans ?_) | simp)

@[simp] theorem State.tryMember_cores (s : State) (id r : Nat) : ((State.tryMember s id r).mask butSheet).cores = (s.mask butSheet).cores := by
  unfold State.tryMember
  repeat' (first | with_reducible rfl | (rename_i h; simp [State.issue_cores h]) | split | (refine (State.foldl_cores (fun _ _ => ?_) _ _).trans ?_) | simp)

@[simp] theorem State.kickMembers_cores (s : State) : ((State.kickMembers s).mask butSheet).cores = (s.mask butSheet).cores := by
  unfold State.kickMembers
  repeat' (first | with_reducible rfl | (rename_i h; simp [State.issue_cores h]) | split | (refine (State.foldl_cores (fun _ _ => ?_) _ _).trans ?_) | simp)

@[simp] theorem State.padRow_cores (s : State) (u b n : Nat) : ((State.padRow s u b n).mask butSheet).cores = (s.mask butSheet).cores := by
  induction n generalizing s with
  | zero => rfl
  | succ n ih =>
    simp only [State.padRow]
    repeat' (first | with_reducible rfl | (rename_i h; simp [ih, State.issue_cores h]) | split)

@[simp] theorem State.finishRows_cores (s : State) (u : Nat) : ((State.finishRows s u).mask butSheet).cores = (s.mask butSheet).cores := by simp [State.finishRows]

@[simp] theorem State.closeUnit_cores (s : State) (k : Nat) : ((State.closeUnit s k).mask butSheet).cores = (s.mask butSheet).cores := by
  unfold State.closeUnit
  split <;> simp

@[simp] theorem State.takeMembers_cores (s : State) (k u skip : Nat) (pages : List Loc) (secs : List BufSector) (padded : Bool) : ((State.takeMembers s k u skip pages secs padded).mask butSheet).cores = (s.mask butSheet).cores := by simp [State.takeMembers]

@[simp] theorem State.closeStripe_cores (s : State) (k : Nat) : ((State.closeStripe s k).mask butSheet).cores = (s.mask butSheet).cores := by
  unfold State.closeStripe
  repeat' (first | with_reducible rfl | split | (refine (State.foldl_cores (fun _ _ => ?_) _ _).trans ?_) | simp)

@[simp] theorem State.placeSectors_cores (s : State) (k : Nat) (secs : List BufSector) : ((State.placeSectors s k secs).mask butSheet).cores = (s.mask butSheet).cores := by simp [State.placeSectors]

@[simp] theorem State.closeFull_cores (s : State) : ((State.closeFull s).mask butSheet).cores = (s.mask butSheet).cores := by simp [State.closeFull]

@[simp] theorem State.writeJournalPage_cores (s : State) : ((State.writeJournalPage s).mask butSheet).cores = (s.mask butSheet).cores := by
  unfold State.writeJournalPage
  repeat' (first | with_reducible rfl | split | (refine (State.foldl_cores (fun _ _ => ?_) _ _).trans ?_) | simp)

@[simp] theorem State.fullPages_cores (s : State) : ((State.fullPages s).mask butSheet).cores = (s.mask butSheet).cores := by simp [State.fullPages]

@[simp] theorem State.journal_cores (s : State) (r : JRec) : ((State.journal s r).mask butSheet).cores = (s.mask butSheet).cores := by simp [State.journal]

theorem State.issueSys_cores {s t : State} {b die page : Nat} {user : OpFor} {frames : List Payload} (h : s.issueSys b die page user frames = some t) : (t.mask butSheet).cores = (s.mask butSheet).cores := by
  simp only [State.issueSys] at h
  rw [State.issue_cores h]
  (repeat' split) <;> simp

@[simp] theorem State.trySj_cores (s : State) : ((State.trySj s).mask butSheet).cores = (s.mask butSheet).cores := by
  unfold State.trySj
  repeat' (first | with_reducible rfl | (rename_i h; simp [State.issueSys_cores h]) | split | (refine (State.foldl_cores (fun _ _ => ?_) _ _).trans ?_) | simp)

@[simp] theorem State.closeSjPage_cores (s : State) : ((State.closeSjPage s).mask butSheet).cores = (s.mask butSheet).cores := by
  unfold State.closeSjPage
  split <;> simp

@[simp] theorem State.sjWrite_cores (s : State) (r : SjRec) : ((State.sjWrite s r).mask butSheet).cores = (s.mask butSheet).cores := by
  unfold State.sjWrite
  repeat' (first | with_reducible rfl | split | (refine (State.foldl_cores (fun _ _ => ?_) _ _).trans ?_) | simp)

@[simp] theorem State.issueStrike_cores (s : State) (b : Nat) (l : Loc) (header : Nat) (frames : List Payload) : ((State.issueStrike s b l header frames).mask butSheet).cores = (s.mask butSheet).cores := by simp [State.issueStrike]

@[simp] theorem State.issueRow_cores (s : State) (r : StrikeRow) : ((State.issueRow s r).mask butSheet).cores = (s.mask butSheet).cores := by
  unfold State.issueRow
  (repeat' split) <;> simp

@[simp] theorem State.strikeResetDies_cores (s : State) : ((State.strikeResetDies s).mask butSheet).cores = (s.mask butSheet).cores := by
  unfold State.strikeResetDies
  repeat' (first | with_reducible rfl | (rename_i h; simp [State.issue_cores h]) | split | (refine (State.foldl_cores (fun _ _ => ?_) _ _).trans ?_) | simp)

@[simp] theorem State.strikeKick_cores (s : State) : ((State.strikeKick s).mask butSheet).cores = (s.mask butSheet).cores := by
  unfold State.strikeKick
  repeat' (first | with_reducible rfl | split | (refine (State.foldl_cores (fun _ _ => ?_) _ _).trans ?_) | simp)

@[simp] theorem State.strikeRedo_cores (s : State) (b : Nat) (op : SheetOp) : ((State.strikeRedo s b op).mask butSheet).cores = (s.mask butSheet).cores := by
  unfold State.strikeRedo
  (repeat' split) <;> simp

@[simp] theorem State.tryRead_cores (s : State) (job : Nat) : ((State.tryRead s job).mask butSheet).cores = (s.mask butSheet).cores := by
  unfold State.tryRead
  repeat' (first | with_reducible rfl | (rename_i h; simp [State.issue_cores h]) | split | (refine (State.foldl_cores (fun _ _ => ?_) _ _).trans ?_) | simp)

@[simp] theorem State.kickReads_cores (s : State) : ((State.kickReads s).mask butSheet).cores = (s.mask butSheet).cores := by simp [State.kickReads]

@[simp] theorem State.startSurvivors_cores (s : State) (job : Nat) (host : Bool) : ((State.startSurvivors s job host).mask butSheet).cores = (s.mask butSheet).cores := by
  unfold State.startSurvivors
  repeat' (first | with_reducible rfl | split | (refine (State.foldl_cores (fun _ _ => ?_) _ _).trans ?_) | simp)

@[simp] theorem State.beginDieXor_cores (s : State) (job : Nat) (r : CwRead) : ((State.beginDieXor s job r).mask butSheet).cores = (s.mask butSheet).cores := by
  unfold State.beginDieXor
  split <;> simp

@[simp] theorem State.beginCross_cores (s : State) (job : Nat) (r : CwRead) : ((State.beginCross s job r).2.mask butSheet).cores = (s.mask butSheet).cores := by
  unfold State.beginCross
  repeat' (first | with_reducible rfl | split | (refine (State.foldl_cores (fun _ _ => ?_) _ _).trans ?_) | simp)

@[simp] theorem State.poisonSector_cores (s : State) (ns lba : Nat) (loc : Loc) : ((State.poisonSector s ns lba loc).mask butSheet).cores = (s.mask butSheet).cores := by
  unfold State.poisonSector
  (repeat' split) <;> simp

@[simp] theorem State.placeReloc_cores (s : State) (u : Nat) (loc : Loc) (p : Payload) : ((State.placeReloc s u loc p).mask butSheet).cores = (s.mask butSheet).cores := by simp [State.placeReloc]

@[simp] theorem State.deliver_cores (fuel : Nat) (s : State) (job : Nat) (res : Option Payload) : ((State.deliver fuel s job res).mask butSheet).cores = (s.mask butSheet).cores := by
  induction fuel generalizing s job res with
  | zero => rfl
  | succ n ih =>
    unfold State.deliver
    dsimp only
    repeat' (first | with_reducible rfl | (rename_i h; have hc := congrArg Prod.snd h; dsimp only at hc; clear h; subst hc; simp [ih]) | split | simp [ih])

@[simp] theorem State.reconstruct_cores (s : State) (job : Nat) : ((State.reconstruct s job).mask butSheet).cores = (s.mask butSheet).cores := by
  unfold State.reconstruct
  dsimp only
  repeat' (first | with_reducible rfl | (rename_i h; have hc := congrArg Prod.snd h; dsimp only at hc; clear h; subst hc; simp) | split | simp)

@[simp] theorem State.readCw_cores (s : State) (loc : Loc) (user : RdFor) (host : Bool) : ((State.readCw s loc user host).mask butSheet).cores = (s.mask butSheet).cores := by simp [State.readCw]

@[simp] theorem State.needPage_cores (s : State) (mpn : Nat) (wait : Option MapWait) (host : Bool) : ((State.needPage s mpn wait host).mask butSheet).cores = (s.mask butSheet).cores := by
  unfold State.needPage
  split <;> simp

@[simp] theorem State.kickPages_cores (s : State) : ((State.kickPages s).mask butSheet).cores = (s.mask butSheet).cores := by simp [State.kickPages]

@[simp] theorem State.kick_cores (s : State) : ((State.kick s).mask butSheet).cores = (s.mask butSheet).cores := by simp [State.kick]

@[simp] theorem State.commitMapPage_cores (s : State) (loc : Loc) (p : Payload) : ((State.commitMapPage s loc p).mask butSheet).cores = (s.mask butSheet).cores := by simp [State.commitMapPage]

@[simp] theorem State.commitGmdPage_cores (s : State) (loc : Loc) (p : Payload) : ((State.commitGmdPage s loc p).mask butSheet).cores = (s.mask butSheet).cores := by
  unfold State.commitGmdPage
  (repeat' split) <;> simp

@[simp] theorem State.commitStripe_cores (s : State) (id : Nat) : ((State.commitStripe s id).mask butSheet).cores = (s.mask butSheet).cores := by
  unfold State.commitStripe
  split
  · rfl
  · split
    · rfl
    · dsimp only
      rw [State.settleJournal_mask rfl rfl rfl rfl]
      refine (State.foldl_cores (fun u i => ?_) _ _).trans (by simp)
      (repeat' split) <;> simp

@[simp] theorem State.sjDone_cores (s : State) (b : Nat) (ok : Bool) : ((State.sjDone s b ok).mask butSheet).cores = (s.mask butSheet).cores := by
  unfold State.sjDone
  split <;> simp

@[simp] theorem State.abandonStripe_cores (s : State) (id : Nat) : ((State.abandonStripe s id).mask butSheet).cores = (s.mask butSheet).cores := by
  unfold State.abandonStripe
  split <;> simp

@[simp] theorem State.moveMember_cores (s : State) (id r : Nat) : ((State.moveMember s id r).mask butSheet).cores = (s.mask butSheet).cores := by
  unfold State.moveMember
  repeat' (first | with_reducible rfl | split | (refine (State.foldl_cores (fun _ _ => ?_) _ _).trans ?_) | simp)

@[simp] theorem State.membersOff_cores (s : State) (b : Nat) : ((State.membersOff s b).mask butSheet).cores = (s.mask butSheet).cores := by
  unfold State.membersOff
  repeat' (first | with_reducible rfl | split | (refine (State.foldl_cores (fun _ _ => ?_) _ _).trans ?_) | simp)

theorem State.needErase_cores (s : State) (b : Nat) (e : EraseBlock) :
    ((s.onPort b fun p => { p with needErase := p.needErase ++ [e] }).mask butSheet).cores = (s.mask butSheet).cores :=
  s.onPort_cores b fun _ => rfl

@[simp] theorem State.endOp_cores (s : State) (b : Nat) (op : SheetOp) : ((State.endOp s b op).mask butSheet).cores = (s.mask butSheet).cores := by
  unfold State.endOp
  repeat' (first | with_reducible rfl | split | simp [State.needErase_cores])

theorem State.opsGone_cores (s : State) (b : Nat) :
    ((s.onPort b fun p => { p with ops := [], replay := [], nakSent := false, ackDue := false }).mask butSheet).cores = (s.mask butSheet).cores :=
  s.onPort_cores b fun _ => rfl

@[simp] theorem State.endOps_cores (s : State) (b : Nat) : ((State.endOps s b).mask butSheet).cores = (s.mask butSheet).cores := by
  simp [State.endOps, State.opsGone_cores]

@[simp] theorem State.sjOff_cores (s : State) (b : Nat) : ((State.sjOff s b).mask butSheet).cores = (s.mask butSheet).cores := by simp [State.sjOff]

/-- A port after a change that keeps the ports' cores. -/
theorem State.port_core {s t : State} (h : (t.mask butSheet).cores = (s.mask butSheet).cores) (b : Nat) : (t.port b).core = (s.port b).core := by
  have hc (u : State) : (u.port b).core = nth u.cores b Port.reset.core := (nth_map u.sheet.ports Port.core b Port.reset).symm
  rw [hc, hc, ← State.cores_mask t, h, State.cores_mask]

end Sys2Proof.Machine
end

section
/-! PROOF. Frames, acknowledgements, credits and polls of a Sheet Link port (O37). -/

namespace Sys2Proof.Machine

/-! ### A port that goes -/

theorem State.ports_length_of {s t : State} (h : (t.mask butSheet).cores = (s.mask butSheet).cores) : t.sheet.ports.length = s.sheet.ports.length := by
  have h1 := congrArg List.length h
  rw [State.cores_mask, State.cores_mask, State.cores, State.cores, List.length_map, List.length_map] at h1
  exact h1

theorem State.addLoss_port (s : State) (x : LossItem) (c : Nat) : (s.addLoss x).port c = s.port c := by
  have h : (s.addLoss x).sheet.ports = s.sheet.ports := State.ports_of_mask (by simp)
  rw [State.port, State.port, h]

theorem State.loseModule_port {s : State} {b : Nat} (hb : b < s.sheet.ports.length) (c : Nat) :
    (s.loseModule b).port c = if b = c then { s.port c with modSt := .lost, latchedLost := true } else s.port c := by
  have hlen : (s.setMod b .lost).sheet.ports.length = s.sheet.ports.length := (s.setMod_onlyPort b .lost).1
  unfold State.loseModule
  show (State.addLoss _ _).port c = _
  have hl2 : ((s.setMod b .lost).event (0x500 + b) 7 2 0).sheet.ports.length = s.sheet.ports.length := by
    rw [State.ports_of_mask (t := (s.setMod b .lost).event (0x500 + b) 7 2 0) (s := s.setMod b .lost) (by simp)]
    exact hlen
  rw [State.addLoss_port, State.port_onPort (hl2.symm ▸ hb), State.event_port, State.setMod_port hb]
  split <;> rfl

/-- A port with its module in the state `m`, lost for good where `l`, and not answering since `u`. -/
def Port.gone (p : Port) (m : ModState) (l : Bool) (u : Nat) : Port := { p with modSt := m, latchedLost := l, unreachSince := u }

/-- The module of port `b` changes state; the other ports are as they were. -/
def State.GoneAt (b : Nat) (s t : State) : Prop := (∃ m l u, t.port b = (s.port b).gone m l u) ∧ ∀ c, c ≠ b → t.port c = s.port c

theorem State.GoneAt.refl (b : Nat) (s : State) : State.GoneAt b s s := ⟨⟨(s.port b).modSt, (s.port b).latchedLost, (s.port b).unreachSince, rfl⟩, fun _ _ => rfl⟩

theorem State.setMod_goneAt {s : State} {b : Nat} (hb : b < s.sheet.ports.length) (m : ModState) : State.GoneAt b s (s.setMod b m) :=
  ⟨⟨m, (s.port b).latchedLost, (s.port b).unreachSince, by rw [State.setMod_port hb, if_pos rfl]; rfl⟩, fun c hc => by rw [State.setMod_port hb, if_neg (Ne.symm hc)]⟩

theorem State.loseModule_goneAt {s : State} {b : Nat} (hb : b < s.sheet.ports.length) : State.GoneAt b s (s.loseModule b) :=
  ⟨⟨.lost, true, (s.port b).unreachSince, by rw [State.loseModule_port hb, if_pos rfl]; rfl⟩, fun c hc => by rw [State.loseModule_port hb, if_neg (Ne.symm hc)]⟩

theorem State.unreachable_goneAt {s : State} {b : Nat} (hb : b < s.sheet.ports.length) (n : Nat) :
    State.GoneAt b s ((s.setMod b .unreachable).onPort b fun p => { p with unreachSince := n }) := by
  have hl : b < (s.setMod b .unreachable).sheet.ports.length := by
    rw [(s.setMod_onlyPort b .unreachable).1]
    exact hb
  refine ⟨⟨.unreachable, (s.port b).latchedLost, n, ?_⟩, fun c hc => ?_⟩
  · rw [State.port_onPort hl, if_pos rfl, State.setMod_port hb, if_pos rfl]
    rfl
  · rw [State.port_onPort hl, if_neg (Ne.symm hc), State.setMod_port hb, if_neg (Ne.symm hc)]

/-- A port that goes down: its operations end and its module changes state. -/
theorem State.portGone_port {s : State} {b : Nat} (hb : b < s.sheet.ports.length) :
    (∃ m l u, ((s.portGone b).port b).core = ((s.port b).gone m l u).core) ∧ ∀ c, c ≠ b → ((s.portGone b).port c).core = (s.port c).core := by
  unfold State.portGone
  extract_lets p s1
  have hs1 : State.GoneAt b s s1 := by
    unfold s1
    repeat' split
    all_goals first
      | with_reducible exact State.loseModule_goneAt hb
      | with_reducible exact State.setMod_goneAt hb _
      | with_reducible exact State.unreachable_goneAt hb _
      | with_reducible exact State.GoneAt.refl b s
  have hc (c : Nat) : ((((s1.endOps b).sjOff b).checkSpace).port c).core = (s1.port c).core := State.port_core (by simp) c
  obtain ⟨⟨m, l, u, h1⟩, h2⟩ := hs1
  exact ⟨⟨m, l, u, by rw [hc, h1]⟩, fun c hne => by rw [hc, h2 c hne]⟩

theorem State.retirePort_retires {s : State} {b : Nat} (hb : b < s.sheet.ports.length) : ((s.retirePort b).port b).st = .retired := by
  unfold State.retirePort
  split
  · next h => exact h
  · obtain ⟨v, hv⟩ : ∃ v, v = (s.setPort b .retired).event (0x500 + b) 7 1 0 := ⟨_, rfl⟩
    have hport : (v.port b).st = .retired := by
      rw [hv, State.event_port, State.setPort, State.port_onPort hb, if_pos rfl]
    have hlen : b < v.sheet.ports.length := by
      rw [hv, State.ports_of_mask (t := (s.setPort b .retired).event (0x500 + b) 7 1 0) (s := s.setPort b .retired) (by simp)]
      exact (modNth_length _ _ _).symm ▸ hb
    obtain ⟨⟨m, l, u, h1⟩, -⟩ := State.portGone_port hlen
    rw [← hv]
    generalize (v.portGone b).port b = q at h1 ⊢
    have h2 := congrArg Port.st h1
    exact h2.trans hport

/-! ### Replays -/

theorem State.raiseWord_ports (s : State) (w : BitVec 64) : (s.raiseWord w).sheet = s.sheet ∧ (s.raiseWord w).out = s.out :=
  ⟨State.sheet_of_mask (by simp), State.mask_out (P := but [.out]) (by simp) rfl⟩

theorem State.replayAll_replays {s : State} {b : Nat} (hb : b < s.sheet.ports.length) (hne : (s.port b).replay ≠ []) :
    (s.replayAll b).port b = { s.port b with replay := (s.port b).replay.map fun x => { x with replays := x.replays + 1 } }
      ∧ (∀ c : Nat, c ≠ b → (s.replayAll b).port c = s.port c) ∧ (s.replayAll b).out = .sheet b (.replay ((s.port b).replay.map ReplayFrame.seq)) :: s.out := by
  unfold State.replayAll
  extract_lets p
  split
  · next h => exact absurd h hne
  · generalize hu : (s.onPort b fun p => { p with replay := p.replay.map fun f => { f with replays := f.replays + 1 } }).emit (.sheet b (.replay (p.replay.map ReplayFrame.seq))) = u
    obtain ⟨h1, h2⟩ := u.raiseWord_ports (mkWord 0 (portUnit b) classT 0x07 (2 ^ 36 * b))
    have hport (c : Nat) : (u.raise (portUnit b) classT 0x07 (2 ^ 36 * b)).port c = if b = c then { s.port c with replay := (s.port c).replay.map fun f => { f with replays := f.replays + 1 } } else s.port c := by
      rw [State.raise, State.port, h1, ← hu]
      exact State.port_onPort hb _ c
    refine ⟨by rw [hport, if_pos rfl], fun c hc => by rw [hport, if_neg (Ne.symm hc)], ?_⟩
    rw [State.raise, h2, ← hu]
    rfl

theorem State.frameFailed_ends {s : State} {b : Nat} (hb : b < s.sheet.ports.length) :
    (((s.port b).failTimes.filter fun x => decide (s.now ≤ x + secs 60)) = [] → ((s.frameFailed b).port b).st = .retrain ∧ ∀ c : Nat, c ≠ b → (s.frameFailed b).port c = s.port c) ∧
    (((s.port b).failTimes.filter fun x => decide (s.now ≤ x + secs 60)) ≠ [] → ((s.frameFailed b).port b).st = .retired) := by
  unfold State.frameFailed
  generalize hx : (s.port b).failTimes.filter (fun x => decide (s.now ≤ x + secs 60)) = x
  extract_lets times s1
  have hsheet : (s.raiseBlock (0x201 + b / 4) classU 0x07 (2 ^ 36 * b)).sheet = s.sheet := (s.raiseWord_ports _).1
  have hb1 : b < (s.raiseBlock (0x201 + b / 4) classU 0x07 (2 ^ 36 * b)).sheet.ports.length := by
    rw [hsheet]
    exact hb
  have hs1 (c : Nat) (hc : c ≠ b) : s1.port c = s.port c := by
    refine (State.port_onPort hb1 _ c).trans ((if_neg (Ne.symm hc)).trans ?_)
    rw [State.port, hsheet]
    rfl
  have hl1 : b < s1.sheet.ports.length := (modNth_length _ _ _).symm ▸ hb1
  clear_value s1
  refine ⟨fun h => ?_, fun h => ?_⟩
  · rw [if_neg (by rw [show times = [s.now] by unfold times; rw [h]; rfl]; exact Nat.not_succ_le_self 1)]
    have hspace (u : State) (c : Nat) : u.checkSpace.port c = u.port c := by
      rw [State.port, State.port, State.ports_of_mask (t := u.checkSpace) (s := u) (by simp)]
    refine ⟨?_, fun c hc => ?_⟩
    · rw [hspace, State.retrain, State.port_onPort hl1, if_pos rfl]
    · rw [hspace, State.retrain, State.port_onPort hl1, if_neg (Ne.symm hc), hs1 c hc]
  · have hlen : 2 ≤ times.length := by
      unfold times
      rw [List.length_append, List.length_singleton]
      exact Nat.succ_le_succ (List.length_pos_of_ne_nil h)
    rw [if_pos hlen]
    exact State.retirePort_retires hl1

theorem ackFrees_upTo {pre post : List ReplayFrame} {f : ReplayFrame} (h : ∀ g ∈ pre, g.seq ≠ f.seq) : ackFrees f.seq (pre ++ f :: post) = post := by
  unfold ackFrees
  have hidx : (pre ++ f :: post).findIdx? (fun g => g.seq == f.seq) = some pre.length := by
    induction pre with
    | nil => rw [List.nil_append, List.findIdx?_cons, beq_self_eq_true, if_pos rfl]; rfl
    | cons g l ih =>
      rw [List.cons_append, List.findIdx?_cons, if_neg (by simpa using h g List.mem_cons_self), ih fun x hx => h x (List.mem_cons_of_mem _ hx)]
      rfl
  rw [hidx]
  simp

/-! ### Polls -/

/-- The module of port `c` has been asked by the command `code` with the argument `arg`. -/
def State.Asked (c code arg : Nat) (u : State) : Prop := ∃ tag op v o, Emit.sheet c (.command tag op v o) ∈ u.out ∧ op.code = code ∧ op.arg = arg

/-- The ports `p` and `q` differ in their lanes alone. -/
def Port.LanesOnly (p q : Port) : Prop := ∃ a b, q = { p with lane0 := a, lane1 := b }

theorem State.ask_says (s : State) (b code arg : Nat) (v : BitVec 64) : s.Says (s.ask b code arg v) := by
  unfold State.ask State.issue
  extract_lets op p tag s1 s2
  split
  · exact List.suffix_cons _ _
  · exact .refl s

theorem State.ask_onlyPort (s : State) (b code arg : Nat) (v : BitVec 64) : State.OnlyPort b s (s.ask b code arg v) := by
  unfold State.ask
  cases h : s.issue b { s.mkOp code 0xFF 0 false .other with arg := arg } v [] [] with
  | none => exact .refl b s
  | some t => exact State.issue_onlyPort h

theorem State.ask_core (s : State) (b code arg c : Nat) (v : BitVec 64) : ((s.ask b code arg v).port c).core = (s.port c).core :=
  State.port_core (State.issue_getD_cores _ _ _ _ _ _) c

/-- A port that had room for the command still has it when its lanes alone have changed. -/
theorem State.ask_asks {s u : State} {b : Fin 48} {code : Nat} (hcode : code = 4 ∨ code = 5) (hc : s.canAsk b code = true) (hflt : u.flt = s.flt) (hfn : u.fn = s.fn)
    (hp : (s.port b).LanesOnly (u.port b)) (arg : Nat) (v : BitVec 64) : State.Asked b code arg (u.ask b code arg v) := by
  unfold State.canAsk at hc
  rw [Bool.and_eq_true, Bool.and_eq_true] at hc
  obtain ⟨⟨hfen, hcr⟩, hroom⟩ := hc
  obtain ⟨x, y, hp⟩ := hp
  have h1 : u.mayIssue b code = true := by
    unfold State.mayIssue
    rw [hflt, if_neg (by simpa using hfen)]
    rcases hcode with rfl | rfl <;> rfl
  have h2 : u.creditFor b code = true := by
    have hesc : u.cmdEscape b = s.cmdEscape b := by rw [State.cmdEscape, State.cmdEscape, hfn]
    unfold State.creditFor at hcr ⊢
    rw [hesc, hp]
    exact hcr
  have h3 : (u.port b).room code 0xFF 0 = true := by
    rw [hp]
    exact hroom
  unfold State.ask State.issue
  dsimp only
  rw [if_pos (by simp only [Bool.and_eq_true]; exact ⟨⟨h1, h2⟩, h3⟩)]
  exact ⟨_, _, _, _, List.mem_cons_self, rfl, rfl⟩

/-- A module at least in READY on a port that is up. -/
def Port.polled (p : Port) : Bool := p.up && (p.modSt == .ready || p.modSt == .fencing || p.modSt == .inService)

/-- A poll asks every module at least in READY whose port has room. -/
theorem State.poll_asks {s : State} {code arg : Nat} (hcode : code = 4 ∨ code = 5) {f pre : State → Nat → State}
    (hf : ∀ u c, f u c = if (u.port c).polled then (pre u c).ask c code arg 0 else pre u c)
    (hpre : ∀ u c, State.OnlyPort c u (pre u c) ∧ (u.port c).LanesOnly ((pre u c).port c) ∧ (pre u c).flt = u.flt ∧ (pre u c).fn = u.fn ∧ (pre u c).out = u.out)
    {b : Fin 48} (hb : (s.port b).polled = true) (hc : s.canAsk b code = true) : State.Asked b code arg ((List.range 48).foldl f s) := by
  have hstep (u : State) (c : Nat) (h : c ≠ b) (hu : u.flt = s.flt ∧ u.fn = s.fn ∧ u.port b = s.port b) : (f u c).flt = s.flt ∧ (f u c).fn = s.fn ∧ (f u c).port b = s.port b := by
    obtain ⟨⟨-, -, h1⟩, -, h2, h3, -⟩ := hpre u c
    obtain ⟨h4, h5, h6⟩ := hu
    rw [hf]
    split
    · exact ⟨((State.mask_flt (P := but [.flt]) (by simp) rfl).trans h2).trans h4, ((State.mask_fn (P := but [.fn]) (by simp) rfl).trans h3).trans h5,
        (((State.ask_onlyPort _ _ _ _ _).2.2 b (Ne.symm h)).trans (h1 b (Ne.symm h))).trans h6⟩
    · exact ⟨h2.trans h4, h3.trans h5, (h1 b (Ne.symm h)).trans h6⟩
  have hsays (u : State) (c : Nat) : u.Says (f u c) := by
    have hout := (hpre u c).2.2.2.2
    rw [hf]
    split
    · exact (State.Says.of_eq hout).trans (State.ask_says _ _ _ _ _)
    · exact .of_eq hout
  obtain ⟨l, r, hl, hnot⟩ := List.eq_append_cons_of_mem (List.mem_range.2 b.isLt)
  rw [hl, List.foldl_append, List.foldl_cons]
  have hbefore : (l.foldl f s).flt = s.flt ∧ (l.foldl f s).fn = s.fn ∧ (l.foldl f s).port b = s.port b :=
    List.foldlRecOn (motive := fun u => u.flt = s.flt ∧ u.fn = s.fn ∧ u.port b = s.port b) l f ⟨rfl, rfl, rfl⟩ fun u hu c hcl => hstep u c (fun he => hnot (he ▸ hcl)) hu
  obtain ⟨h1, h2, h3⟩ := hbefore
  generalize l.foldl f s = u at h1 h2 h3 ⊢
  have hasked : State.Asked b code arg (f u b) := by
    obtain ⟨-, hl, h4, h5, -⟩ := hpre u b
    rw [hf, if_pos (by rw [h3]; exact hb)]
    exact State.ask_asks hcode hc (h4.trans h1) (h5.trans h2) (h3 ▸ hl) arg 0
  obtain ⟨tag, op, v, o, hm, h4, h5⟩ := hasked
  exact ⟨tag, op, v, o, (State.Says.foldl hsays r (f u b)).mem hm, h4, h5⟩

/-- The receiver's counts of port `c` start again. -/
def State.clearUncorr (s : State) (c : Nat) : State :=
  s.onPort c fun p => { p with lane0 := { p.lane0 with uncorr := 0 }, lane1 := { p.lane1 with uncorr := 0 } }

theorem State.clearUncorr_pre (u : State) (c : Nat) :
    State.OnlyPort c u (u.clearUncorr c) ∧ (u.port c).LanesOnly ((u.clearUncorr c).port c) ∧ (u.clearUncorr c).flt = u.flt ∧ (u.clearUncorr c).fn = u.fn ∧ (u.clearUncorr c).out = u.out := by
  refine ⟨u.onPort_onlyPort c _, ?_, rfl, rfl, rfl⟩
  by_cases hc : c < u.sheet.ports.length
  · exact ⟨_, _, (State.port_onPort hc _ c).trans (if_pos rfl)⟩
  · have hd (v : State) (h : v.sheet.ports.length = u.sheet.ports.length) : v.port c = Port.reset := List.getD_eq_default _ _ (h.symm ▸ Nat.not_lt.1 hc)
    rw [hd u rfl, hd (u.clearUncorr c) (modNth_length _ _ _)]
    exact ⟨_, _, rfl⟩

/-- The ports of a poll of the lanes: every uncorrectable count is 0. -/
theorem State.lanePoll_counts {s : State} (hlen : s.sheet.ports.length = 48) : ∀ c < 48,
    (((List.range 48).foldl (fun (s : State) b => if (s.port b).polled then (s.clearUncorr b).ask b 5 0x10 0 else s.clearUncorr b) s).port c).lane0.uncorr = 0
      ∧ (((List.range 48).foldl (fun (s : State) b => if (s.port b).polled then (s.clearUncorr b).ask b 5 0x10 0 else s.clearUncorr b) s).port c).lane1.uncorr = 0 := by
  have hone (u : State) (b : Nat) (hb : b < 48) (hu : u.sheet.ports.length = 48) : ((u.clearUncorr b).port b).lane0.uncorr = 0 ∧ ((u.clearUncorr b).port b).lane1.uncorr = 0 := by
    rw [State.clearUncorr, State.port_onPort (by omega), if_pos rfl]
    exact ⟨rfl, rfl⟩
  have hask (u : State) (b c : Nat) : ((u.ask b 5 0x10 0).port c).lane0 = (u.port c).lane0 ∧ ((u.ask b 5 0x10 0).port c).lane1 = (u.port c).lane1 := by
    have h := u.ask_core b 5 0x10 c 0
    have h0 := congrArg Port.lane0 h
    have h1 := congrArg Port.lane1 h
    exact ⟨h0, h1⟩
  refine (foldl_range_each (I := fun (u : State) => u.sheet.ports.length = 48) (Q := fun c (u : State) => (u.port c).lane0.uncorr = 0 ∧ (u.port c).lane1.uncorr = 0) 48
    (fun u b hb hu => ?_) (fun u b hb hu => ?_) (fun u b c hb hne hu hq => ?_) hlen).2
  · have hl : (u.clearUncorr b).sheet.ports.length = 48 := (u.clearUncorr_pre b).1.1.trans hu
    split
    · exact ((u.clearUncorr b).ask_onlyPort b 5 0x10 0).1.trans hl
    · exact hl
  · split
    · rw [(hask _ b b).1, (hask _ b b).2]
      exact hone u b hb hu
    · exact hone u b hb hu
  · have hsame : (u.clearUncorr b).port c = u.port c := (u.clearUncorr_pre b).1.2.2 c hne
    split
    · rw [(hask _ b c).1, (hask _ b c).2, hsame]
      exact hq
    · rw [hsame]
      exact hq

/-! ### Frames -/

section frames
variable {s : State} {b : Fin 48} (hlen : s.sheet.ports.length = 48) (haw : s.awake = true) (hup : (s.port b).up = true)
include hlen haw hup

theorem sheetFrameRx_takes {h : SheetHdr} (hcrc : h.crcOk = true) (hl : h.len ≤ 4608) (hres : h.reserved = 0) (hfl : h.flags < 16)
    (hty : h.type = 0x10 ∨ h.type = 0x20 ∨ h.type = 0x30) :
    (h.seq = (s.port b).rxSeq → h.flags % 2 = 0 → Completes (.sheetFrameRx b h) s fun t =>
      t.port b = { s.port b with rxSeq := ((s.port b).rxSeq + 1) % 65536, ackDue := true, nakSent := false, crCmd := (s.port b).crCmd + h.crCmd, crData := (s.port b).crData + h.crData }
        ∧ (∀ c : Nat, c ≠ b → t.port c = s.port c) ∧ t.out = s.out) ∧
    (0 < (h.seq + 65536 - (s.port b).rxSeq) % 65536 → (h.seq + 65536 - (s.port b).rxSeq) % 65536 < 32768 →
      ((s.port b).nakSent = false → Completes (.sheetFrameRx b h) s fun t => t.port b = { s.port b with nakSent := true } ∧ (∀ c : Nat, c ≠ b → t.port c = s.port c)
        ∧ t.out = .sheet b (.nak (s.port b).lastSeq) :: s.out) ∧
      ((s.port b).nakSent = true → exec (.sheetFrameRx b h) s = .next s)) ∧
    (32768 ≤ (h.seq + 65536 - (s.port b).rxSeq) % 65536 → Completes (.sheetFrameRx b h) s fun t => t.sheet = s.sheet ∧ t.out = .sheet b (.ack (s.port b).lastSeq) :: s.out) := by
  have hb : b.val < s.sheet.ports.length := by rw [hlen]; exact b.isLt
  have hknown : (h.type == 1 || h.type == 2 || h.type == 3 || h.type == 4 || h.type == 0x10 || h.type == 0x20 || h.type == 0x30) = true ∧ ¬ h.type < 0x10 := by
    rcases hty with h | h | h <;> rw [h] <;> exact ⟨rfl, by decide⟩
  have hex : exec (.sheetFrameRx b h) s = .next (if (h.seq + 65536 - (s.port b).rxSeq) % 65536 = 0 then
      (s.onPort b fun p => { p with rxSeq := (p.rxSeq + 1) % 65536, ackDue := true, nakSent := false, crCmd := p.crCmd + h.crCmd, crData := p.crData + h.crData, replay := if h.flags % 2 = 1 then ackFrees h.ack p.replay else p.replay })
      else if 32768 ≤ (h.seq + 65536 - (s.port b).rxSeq) % 65536 then s.emit (.sheet b (.ack (s.port b).lastSeq))
      else if (s.port b).nakSent then s else (s.onPort b fun p => { p with nakSent := true }).emit (.sheet b (.nak (s.port b).lastSeq))) := by
    rw [show exec (.sheetFrameRx b h) s = execSheetFrameRx b h s from rfl, execSheetFrameRx]
    dsimp only
    rw [if_neg (by simp [haw, hup]), hknown.1, if_neg (by simp [hcrc, Nat.not_lt.2 hl, hres, Nat.not_le.2 hfl]), if_neg hknown.2]
  refine ⟨fun hseq hev => ?_, fun h0 h1 => ⟨fun hn => ?_, fun hn => ?_⟩, fun h2 => ?_⟩
  · rw [if_pos (by omega)] at hex
    refine ⟨_, hex, ?_, fun c hc => ?_, rfl⟩
    · rw [State.port_onPort hb, if_pos rfl, if_neg (by omega)]
    · rw [State.port_onPort hb, if_neg (Ne.symm hc)]
  · rw [if_neg (by omega), if_neg (by omega), if_neg (by rw [hn]; exact Bool.false_ne_true)] at hex
    exact ⟨_, hex, (State.port_onPort hb _ _).trans (if_pos rfl), fun c hc => (State.port_onPort hb _ c).trans (if_neg (Ne.symm hc)), rfl⟩
  · rw [if_neg (by omega), if_neg (by omega), if_pos hn] at hex
    exact hex
  · rw [if_neg (by omega), if_pos h2] at hex
    exact ⟨_, hex, rfl, rfl⟩

theorem sheetAck_frees {pre post : List ReplayFrame} {f : ReplayFrame} (hr : (s.port b).replay = pre ++ f :: post) (hpre : ∀ g ∈ pre, g.seq ≠ f.seq) :
    (s.quiet = true → Completes (.sheetAckRx b f.seq) s fun t => t.port b = { s.port b with replay := post } ∧ ∀ c : Nat, c ≠ b → t.port c = s.port c) ∧
    (∀ g l, post = g :: l → g.replays < 8 → Completes (.sheetNakRx b f.seq) s fun t =>
      t.port b = { s.port b with replay := post.map fun x => { x with replays := x.replays + 1 } } ∧ (∀ c : Nat, c ≠ b → t.port c = s.port c)
        ∧ t.out = .sheet b (.replay (post.map ReplayFrame.seq)) :: s.out) := by
  have hb : b.val < s.sheet.ports.length := by rw [hlen]; exact b.isLt
  obtain ⟨u, hu⟩ : ∃ u, u = s.onPort b fun p => { p with replay := ackFrees f.seq p.replay } := ⟨_, rfl⟩
  have hpost : ackFrees f.seq (s.port b).replay = post := by rw [hr, ackFrees_upTo hpre]
  have hport : u.port b = { s.port b with replay := post } := by rw [hu, State.port_onPort hb, if_pos rfl, hpost]
  have hother (c : Nat) (hc : c ≠ b) : u.port c = s.port c := by rw [hu, State.port_onPort hb, if_neg (Ne.symm hc)]
  refine ⟨fun hq => ?_, fun g l hg hn => ?_⟩
  · have hkick : u.kick = u := State.kick_quiet (by rw [hu]; exact hq)
    have hex : exec (.sheetAckRx b f.seq) s = .next u.kick := by
      rw [hu]
      exact congrArg Host.Outcome.next (if_pos (by simp [haw, hup]))
    rw [hkick] at hex
    exact ⟨_, hex, hport, hother⟩
  · have hex : exec (.sheetNakRx b f.seq) s = .next (if (u.port b).spent then u else u.replayAll b) := by
      rw [hu]
      exact congrArg Host.Outcome.next (if_neg (by simp [haw, hup]))
    have hspent : (u.port b).spent = false := by
      rw [hport, Port.spent, hg]
      exact decide_eq_false (by omega)
    rw [if_neg (by rw [hspent]; exact Bool.false_ne_true)] at hex
    have hul : b.val < u.sheet.ports.length := by
      rw [hu]
      exact (modNth_length _ _ _).symm ▸ hb
    obtain ⟨h1, h2, h3⟩ := State.replayAll_replays hul (by rw [hport, hg]; exact List.cons_ne_nil _ _)
    rw [hport] at h1 h3
    refine ⟨_, hex, h1, fun c hc => (h2 c hc).trans (hother c hc), h3.trans ?_⟩
    rw [hu]
    rfl

theorem sheetReplayTimer_replays {f : ReplayFrame} {l : List ReplayFrame} (hr : (s.port b).replay = f :: l) :
    (f.replays < 8 → Completes (.sheetReplayTimer b) s fun t => t.port b = { s.port b with replay := (s.port b).replay.map fun x => { x with replays := x.replays + 1 } }
      ∧ (∀ c : Nat, c ≠ b → t.port c = s.port c) ∧ t.out = .sheet b (.replay ((s.port b).replay.map ReplayFrame.seq)) :: s.out) ∧
    (8 ≤ f.replays → exec (.sheetReplayTimer b) s = .next (s.frameFailed b)) := by
  have hex : exec (.sheetReplayTimer b) s = .next (if (s.port b).spent then s.frameFailed b else s.replayAll b) :=
    congrArg Host.Outcome.next (if_neg (by simp [haw, hup, hr]))
  have hspent : (s.port b).spent = decide (8 ≤ f.replays) := by
    unfold Port.spent
    rw [hr]
  rw [hspent] at hex
  refine ⟨fun hn => ?_, fun hn => ?_⟩
  · rw [if_neg (by simpa using hn)] at hex
    exact ⟨_, hex, State.replayAll_replays (by rw [hlen]; exact b.isLt) (by rw [hr]; exact List.cons_ne_nil _ _)⟩
  · rw [if_pos (decide_eq_true hn)] at hex
    exact hex

end frames

/-- Settles O37: each frame, timer and poll moves its port as its rule says. -/
theorem linkFrames : Obligations.LinkFrames := by
  intro b s hlen haw hup p others
  have hb : b.val < s.sheet.ports.length := by rw [hlen]; exact b.isLt
  refine ⟨fun h hcrc hl hres hfl hty => sheetFrameRx_takes hlen haw hup hcrc hl hres hfl hty, fun pre f post hr hpre => sheetAck_frees hlen haw hup hr hpre, fun c d hq => ?_, fun hdue => ?_,
    fun f l hr => ?_, fun hmod => ⟨fun hc => ?_, fun hc => ?_⟩⟩
  · obtain ⟨u, hu⟩ : ∃ u, u = s.onPort b fun p => { p with crCmd := p.crCmd + c, crData := p.crData + d } := ⟨_, rfl⟩
    have hkick : u.kick = u := State.kick_quiet (by rw [hu]; exact hq)
    have hex : exec (.sheetCreditRx b c d) s = .next u.kick := by
      rw [hu]
      exact congrArg Host.Outcome.next (if_pos (by simp [haw, hup]))
    rw [hkick] at hex
    exact ⟨_, hex, by rw [hu, State.port_onPort hb, if_pos rfl], fun k hk => by rw [hu, State.port_onPort hb, if_neg (Ne.symm hk)]⟩
  · have hex : exec (.sheetAckTimer b) s = .next ((s.onPort b fun p => { p with ackDue := false }).emit (.sheet b (.ack (s.port b).lastSeq))) :=
      congrArg Host.Outcome.next (if_pos (by simp [haw, hup, show (s.port b).ackDue = true from hdue]))
    exact ⟨_, hex, (State.port_onPort hb _ _).trans (if_pos rfl), fun k hk => (State.port_onPort hb _ k).trans (if_neg (Ne.symm hk)), rfl⟩
  · obtain ⟨h1, h2⟩ := sheetReplayTimer_replays hlen haw hup hr
    exact ⟨h1, fun hn hf => ⟨_, h2 hn, (State.frameFailed_ends hb).1 hf⟩, fun hn hf => ⟨_, h2 hn, (State.frameFailed_ends hb).2 hf⟩⟩
  · have hpolled : (s.port b).polled = true := by
      unfold Port.polled
      rw [hup]
      rcases hmod with h | h | h <;> rw [h] <;> rfl
    have hex : exec .sheetStatusPoll s = .next ((List.range 48).foldl (fun s b => if (s.port b).polled then s.ask b 4 0xFFF 0 else s) s) :=
      congrArg Host.Outcome.next (if_neg (by rw [haw]; decide))
    exact ⟨_, hex, State.poll_asks (.inl rfl) (pre := fun u _ => u) (fun u c => rfl) (fun u c => ⟨.refl c u, ⟨_, _, rfl⟩, rfl, rfl, rfl⟩) hpolled hc⟩
  · have hpolled : (s.port b).polled = true := by
      unfold Port.polled
      rw [hup]
      rcases hmod with h | h | h <;> rw [h] <;> rfl
    have hex : exec .laneErrPoll s = .next ((List.range 48).foldl (fun (s : State) b => if (s.port b).polled then (s.clearUncorr b).ask b 5 0x10 0 else s.clearUncorr b) s) :=
      congrArg Host.Outcome.next (if_neg (by rw [haw]; decide))
    exact ⟨_, hex, State.poll_asks (.inr rfl) (pre := State.clearUncorr) (fun u c => rfl) State.clearUncorr_pre hpolled hc, fun c => State.lanePoll_counts hlen c c.isLt⟩

end Sys2Proof.Machine
end

section
/-! SUPPORT. The work that follows an operation's end leaves the loss set as it is. -/

namespace Sys2Proof.Machine

/-- The loss set of the rebuild. -/
def State.loss (s : State) : List LossItem := s.reb.loss

/-- Every group of the state but the rebuild. -/
def butReb (p : Part) : Bool := decide (p ≠ .reb)

@[simp] theorem butReb_eq_true {p : Part} : butReb p = true ↔ p ≠ .reb := by simp [butReb]

theorem State.loss_mask (s : State) : (s.mask butReb).loss = s.loss := rfl

@[simp] theorem State.ite_loss (p : Prop) [Decidable p] (s t : State) : (if p then s else t).loss = if p then s.loss else t.loss := by
  split <;> rfl

@[simp] theorem State.foldl_loss {α : Type} {g : State → α → State} (h : ∀ s a, ((g s a).mask butReb).loss = (s.mask butReb).loss) (l : List α)
    (s : State) : ((l.foldl g s).mask butReb).loss = (s.mask butReb).loss := by
  induction l generalizing s with
  | nil => rfl
  | cons a t ih => rw [List.foldl_cons, ih, h]

@[simp] theorem State.onReb_loss (s : State) {g : RebSt → RebSt} (hg : ∀ r, (g r).loss = r.loss) : ((s.onReb g).mask butReb).loss = (s.mask butReb).loss :=
  hg s.reb

@[simp] theorem State.enterReb_loss (s : State) (r : RebuildState) : ((State.enterReb s r).mask butReb).loss = (s.mask butReb).loss := by simp [State.enterReb]

@[simp] theorem State.setReb_loss (s : State) (r : RebuildState) : ((State.setReb s r).mask butReb).loss = (s.mask butReb).loss := by simp [State.setReb]

@[simp] theorem State.openUnit_loss (s : State) (k u : Nat) (start : Nat) : ((State.openUnit s k u start).mask butReb).loss = (s.mask butReb).loss := by simp [State.openUnit]

@[simp] theorem State.addExc_loss (s : State) (u : Nat) (e : ExcEntry) : ((State.addExc s u e).mask butReb).loss = (s.mask butReb).loss := by simp [State.addExc]

@[simp] theorem State.needUnit_loss (s : State) (k : Nat) : ((State.needUnit s k).2.mask butReb).loss = (s.mask butReb).loss := by
  unfold State.needUnit
  (repeat' split) <;> simp

@[simp] theorem State.takeMembers_loss (s : State) (k u skip : Nat) (pages : List Loc) (secs : List BufSector) (padded : Bool) : ((State.takeMembers s k u skip pages secs padded).mask butReb).loss = (s.mask butReb).loss := by simp [State.takeMembers]

@[simp] theorem State.closeStripe_loss (s : State) (k : Nat) : ((State.closeStripe s k).mask butReb).loss = (s.mask butReb).loss := by
  unfold State.closeStripe
  repeat' (first | with_reducible rfl | split | (refine (State.foldl_loss (fun _ _ => ?_) _ _).trans ?_) | simp)

@[simp] theorem State.placeSectors_loss (s : State) (k : Nat) (secs : List BufSector) : ((State.placeSectors s k secs).mask butReb).loss = (s.mask butReb).loss := by simp [State.placeSectors]

@[simp] theorem State.writeJournalPage_loss (s : State) : ((State.writeJournalPage s).mask butReb).loss = (s.mask butReb).loss := by
  unfold State.writeJournalPage
  repeat' (first | with_reducible rfl | split | (refine (State.foldl_loss (fun _ _ => ?_) _ _).trans ?_) | simp)

@[simp] theorem State.fullPages_loss (s : State) : ((State.fullPages s).mask butReb).loss = (s.mask butReb).loss := by simp [State.fullPages]

@[simp] theorem State.journal_loss (s : State) (r : JRec) : ((State.journal s r).mask butReb).loss = (s.mask butReb).loss := by simp [State.journal]

@[simp] theorem State.queueRewrite_loss (s : State) (b die block : Nat) : ((State.queueRewrite s b die block).mask butReb).loss = (s.mask butReb).loss := by
  unfold State.queueRewrite
  (repeat' split) <;> simp

@[simp] theorem State.countRead_loss (s : State) (b die block : Nat) : ((State.countRead s b die block).mask butReb).loss = (s.mask butReb).loss := by
  unfold State.countRead
  split <;> simp

@[simp] theorem State.tryRead_loss (s : State) (job : Nat) : ((State.tryRead s job).mask butReb).loss = (s.mask butReb).loss := by
  unfold State.tryRead
  repeat' (first | with_reducible rfl | (rename_i h; simp [State.issue_mask (P := butReb) rfl rfl h]) | split | (refine (State.foldl_loss (fun _ _ => ?_) _ _).trans ?_) | simp)

@[simp] theorem State.startSurvivors_loss (s : State) (job : Nat) (host : Bool) : ((State.startSurvivors s job host).mask butReb).loss = (s.mask butReb).loss := by
  unfold State.startSurvivors
  repeat' (first | with_reducible rfl | split | (refine (State.foldl_loss (fun _ _ => ?_) _ _).trans ?_) | simp)

@[simp] theorem State.beginDieXor_loss (s : State) (job : Nat) (r : CwRead) : ((State.beginDieXor s job r).mask butReb).loss = (s.mask butReb).loss := by
  unfold State.beginDieXor
  split <;> simp

@[simp] theorem State.beginCross_loss (s : State) (job : Nat) (r : CwRead) : ((State.beginCross s job r).2.mask butReb).loss = (s.mask butReb).loss := by
  unfold State.beginCross
  repeat' (first | with_reducible rfl | split | (refine (State.foldl_loss (fun _ _ => ?_) _ _).trans ?_) | simp)

@[simp] theorem State.poisonSector_loss (s : State) (ns lba : Nat) (loc : Loc) : ((State.poisonSector s ns lba loc).mask butReb).loss = (s.mask butReb).loss := by
  unfold State.poisonSector
  (repeat' split) <;> simp

@[simp] theorem State.recordLost_loss (s : State) (loc : Loc) : ((State.recordLost s loc).mask butReb).loss = (s.mask butReb).loss := by simp [State.recordLost]

@[simp] theorem State.placeReloc_loss (s : State) (u : Nat) (loc : Loc) (p : Payload) : ((State.placeReloc s u loc p).mask butReb).loss = (s.mask butReb).loss := by simp [State.placeReloc]

@[simp] theorem State.patrolKeep_loss (s : State) (role k : Nat) (loc : Loc) (p : Option Payload) : ((State.patrolKeep s role k loc p).mask butReb).loss = (s.mask butReb).loss := by simp [State.patrolKeep]

@[simp] theorem State.deliver_loss (fuel : Nat) (s : State) (job : Nat) (res : Option Payload) : ((State.deliver fuel s job res).mask butReb).loss = (s.mask butReb).loss := by
  induction fuel generalizing s job res with
  | zero => rfl
  | succ n ih =>
    unfold State.deliver
    dsimp only
    repeat' (first | with_reducible rfl | (rename_i h; have hc := congrArg Prod.snd h; dsimp only at hc; clear h; subst hc; simp [ih]) | split | simp [ih])

@[simp] theorem State.reconstruct_loss (s : State) (job : Nat) : ((State.reconstruct s job).mask butReb).loss = (s.mask butReb).loss := by
  unfold State.reconstruct
  dsimp only
  repeat' (first | with_reducible rfl | (rename_i h; have hc := congrArg Prod.snd h; dsimp only at hc; clear h; subst hc; simp) | split | simp)

@[simp] theorem State.commitMapPage_loss (s : State) (loc : Loc) (p : Payload) : ((State.commitMapPage s loc p).mask butReb).loss = (s.mask butReb).loss := by simp [State.commitMapPage]

@[simp] theorem State.commitGmdPage_loss (s : State) (loc : Loc) (p : Payload) : ((State.commitGmdPage s loc p).mask butReb).loss = (s.mask butReb).loss := by
  unfold State.commitGmdPage
  (repeat' split) <;> simp

@[simp] theorem State.commitStripe_loss (s : State) (id : Nat) : ((State.commitStripe s id).mask butReb).loss = (s.mask butReb).loss := by
  unfold State.commitStripe
  split
  · rfl
  · split
    · rfl
    · dsimp only
      rw [State.settleJournal_mask rfl rfl rfl rfl]
      refine (State.foldl_loss (fun u i => ?_) _ _).trans (by simp)
      (repeat' split) <;> simp

@[simp] theorem State.sjDone_loss (s : State) (b : Nat) (ok : Bool) : ((State.sjDone s b ok).mask butReb).loss = (s.mask butReb).loss := by
  unfold State.sjDone
  split <;> simp

@[simp] theorem State.abandonStripe_loss (s : State) (id : Nat) : ((State.abandonStripe s id).mask butReb).loss = (s.mask butReb).loss := by
  unfold State.abandonStripe
  split <;> simp

@[simp] theorem State.moveMember_loss (s : State) (id r : Nat) : ((State.moveMember s id r).mask butReb).loss = (s.mask butReb).loss := by
  unfold State.moveMember
  repeat' (first | with_reducible rfl | split | (refine (State.foldl_loss (fun _ _ => ?_) _ _).trans ?_) | simp)

@[simp] theorem State.membersOff_loss (s : State) (b : Nat) : ((State.membersOff s b).mask butReb).loss = (s.mask butReb).loss := by
  unfold State.membersOff
  repeat' (first | with_reducible rfl | split | (refine (State.foldl_loss (fun _ _ => ?_) _ _).trans ?_) | simp)

@[simp] theorem State.unitErased_loss (s : State) (u : Nat) : ((State.unitErased s u).mask butReb).loss = (s.mask butReb).loss := by simp [State.unitErased]

@[simp] theorem State.eraseStep_loss (s : State) (u : Nat) : ((State.eraseStep s u).mask butReb).loss = (s.mask butReb).loss := by simp [State.eraseStep]

@[simp] theorem State.endOp_loss (s : State) (b : Nat) (op : SheetOp) : ((State.endOp s b op).mask butReb).loss = (s.mask butReb).loss := by
  unfold State.endOp
  repeat' (first | with_reducible rfl | split | (refine (State.foldl_loss (fun _ _ => ?_) _ _).trans ?_) | simp)

@[simp] theorem State.endOps_loss (s : State) (b : Nat) : ((State.endOps s b).mask butReb).loss = (s.mask butReb).loss := by simp [State.endOps]

@[simp] theorem State.sjOff_loss (s : State) (b : Nat) : ((State.sjOff s b).mask butReb).loss = (s.mask butReb).loss := by simp [State.sjOff]

end Sys2Proof.Machine
end

section
/-! PROOF. Training and bring-up of a Sheet Link port, and its modules lost (O36). -/

namespace Sys2Proof.Machine

theorem State.event_port_length (s : State) (src kind d0 d1 : Nat) : (s.event src kind d0 d1).sheet.ports.length = s.sheet.ports.length := by
  rw [State.ports_of_mask (t := s.event src kind d0 d1) (s := s) (by simp)]

/-! ### Training -/

theorem State.attemptFailed_ends {s : State} {b : Nat} (hb : b < s.sheet.ports.length) :
    ((s.port b).st = .training → (s.port b).attempts < 3 → ((s.attemptFailed b).port b).st = .training ∧ ((s.attemptFailed b).port b).attempts = (s.port b).attempts + 1
      ∧ ∀ c : Nat, c ≠ b → (s.attemptFailed b).port c = s.port c) ∧
    ((s.port b).st = .retrain → ((s.attemptFailed b).port b).st = .retired) := by
  unfold State.attemptFailed
  refine ⟨fun hst hn => ?_, fun hst => ?_⟩
  · rw [if_neg (by rw [hst]; exact nofun), if_pos hn]
    refine ⟨?_, ?_, fun c hc => (State.port_onPort hb _ c).trans (if_neg (Ne.symm hc))⟩
    · rw [State.port_onPort hb, if_pos rfl]
    · rw [State.port_onPort hb, if_pos rfl]
  · rw [if_pos hst]
    exact State.retirePort_retires hb

/-- A lane after the lanes of its port have aligned, itself or not. -/
def SheetLane.aligned (x : SheetLane) (ok : Bool) : SheetLane :=
  { x with locked := ok, failed := if ok then 0 else if x.retired then x.failed else x.failed + 1 }

theorem SheetLane.aligned_failed {x : SheetLane} (h : x.failed < 2) (ok : Bool) : (x.aligned ok).failed < 3 := by
  unfold SheetLane.aligned
  dsimp only
  split
  · omega
  · split <;> omega

/-- A training port whose lanes have aligned, lane 0 where `x` and lane 1 where `y`: it goes to INIT. -/
def Port.aligned (p : Port) (x y : Bool) : Port :=
  { p with
    lane0 := p.lane0.aligned x, lane1 := p.lane1.aligned y, st := if p.st = .training then .init else p.st
    initRx := false, initSeen := false, seenSent := false }

section train
variable {s : State} {b : Fin 48} (hlen : s.sheet.ports.length = 48) (haw : s.awake = true)

include haw in
theorem trainingFails {i : Instr} (hi : i = .lanesAligned b false false ∨ i = .trainingTimeout b) (hst : (s.port b).st = .training ∨ (s.port b).st = .retrain) :
    exec i s = .next (s.attemptFailed b) := by
  have htr : ((s.port b).st == .training || (s.port b).st == PortState.retrain) = true := by
    rcases hst with h | h <;> rw [h] <;> rfl
  rcases hi with rfl | rfl
  · rw [show exec (.lanesAligned b false false) s = execLanesAligned b false false s from rfl, execLanesAligned]
    dsimp only
    rw [haw, htr]
    rfl
  · exact congrArg Host.Outcome.next (if_pos (by rw [haw, htr]; rfl))

include hlen haw

theorem lanesAligned_inits {x y : Bool} (hst : (s.port b).st = .training) (hr0 : (s.port b).lane0.retired = false) (hr1 : (s.port b).lane1.retired = false)
    (hf0 : (s.port b).lane0.failed < 2) (hf1 : (s.port b).lane1.failed < 2) (hxy : (x || y) = true) : Completes (.lanesAligned b x y) s fun t =>
      (t.port b).st = .init ∧ (t.port b).lane0.locked = x ∧ (t.port b).lane1.locked = y ∧ ∀ c : Nat, c ≠ b → t.port c = s.port c := by
  have hb : b.val < s.sheet.ports.length := by rw [hlen]; exact b.isLt
  obtain ⟨s1, hs1⟩ : ∃ s1, s1 = s.onPort b fun p => p.aligned x y := ⟨_, rfl⟩
  have hport : s1.port b = (s.port b).aligned x y := by rw [hs1, State.port_onPort hb, if_pos rfl]
  have hex : exec (.lanesAligned b x y) s = .next ([0, 1].foldl (fun s l => if 3 ≤ ((s.port b).lane l).failed then s.retireLane b l else s) s1) := by
    rw [show exec (.lanesAligned b x y) s = execLanesAligned b x y s from rfl, execLanesAligned]
    dsimp only
    rw [if_neg (by simp [haw, hst]), hr0, hr1, Bool.not_false, Bool.and_true, Bool.and_true, if_neg (by rw [hxy]; decide), hs1]
    rfl
  have h0 : ¬ 3 ≤ ((s1.port b).lane 0).failed := by
    rw [hport]
    exact Nat.not_le.2 (SheetLane.aligned_failed hf0 x)
  have h1 : ¬ 3 ≤ ((s1.port b).lane 1).failed := by
    rw [hport]
    exact Nat.not_le.2 (SheetLane.aligned_failed hf1 y)
  rw [List.foldl_cons, if_neg h0, List.foldl_cons, if_neg h1, List.foldl_nil] at hex
  refine ⟨_, hex, by rw [hport, Port.aligned, hst]; rfl, by rw [hport]; rfl, by rw [hport]; rfl, fun c hc => ?_⟩
  rw [hs1, State.port_onPort hb, if_neg (Ne.symm hc)]

theorem laneLockLoss_retrains {l : Fin 2} (hup : (s.port b).up = true) (hlk : ((s.port b).lane l).locked = true)
    (hn : (((s.port b).lane l).lossTimes.filter fun x => decide (s.now ≤ x + secs 60)).length < 2) : Completes (.sheetLaneLockLoss b l) s fun t =>
      (t.port b).st = PortState.retrain ∧ (t.port b).lane0.locked = false ∧ ∀ c : Nat, c ≠ b → t.port c = s.port c := by
  have hb : b.val < s.sheet.ports.length := by rw [hlen]; exact b.isLt
  obtain ⟨times, ht⟩ : ∃ times, times = (((s.port b).lane l).lossTimes.filter fun x => decide (s.now ≤ x + secs 60)) ++ [s.now] := ⟨_, rfl⟩
  obtain ⟨u, hu⟩ : ∃ u, u = s.onPort b fun p => p.onLane l fun x => { x with lossTimes := times } := ⟨_, rfl⟩
  have hlt : ¬ 3 ≤ times.length := by
    rw [ht, List.length_append, List.length_singleton]
    omega
  have hex : exec (.sheetLaneLockLoss b l) s = .next (((u.raise (portUnit b) classT 0x08 (addrLane b l times.length)).retrain b).checkSpace) := by
    rw [show exec (.sheetLaneLockLoss b l) s = execSheetLaneLockLoss b l s from rfl, execSheetLaneLockLoss]
    dsimp only
    rw [if_neg (by simp [haw, hup, hlk]), ← ht, if_neg hlt, hu]
  obtain ⟨v, hv⟩ : ∃ v, v = u.raise (portUnit b) classT 0x08 (addrLane b l times.length) := ⟨_, rfl⟩
  have hsheet : v.sheet = u.sheet := by
    rw [hv]
    exact (u.raiseWord_ports _).1
  have hvl : b.val < v.sheet.ports.length := by
    rw [hsheet, hu]
    exact (modNth_length _ _ _).symm ▸ hb
  have hspace (w : State) (c : Nat) : w.checkSpace.port c = w.port c := by
    rw [State.port, State.port, State.ports_of_mask (t := w.checkSpace) (s := w) (by simp)]
  rw [← hv] at hex
  refine ⟨_, hex, ?_, ?_, fun c hc => ?_⟩
  · rw [hspace, State.retrain, State.port_onPort hvl, if_pos rfl]
  · rw [hspace, State.retrain, State.port_onPort hvl, if_pos rfl]
    rfl
  · rw [hspace, State.retrain, State.port_onPort hvl, if_neg (Ne.symm hc), State.port, hsheet, hu]
    exact (State.port_onPort hb _ c).trans (if_neg (Ne.symm hc))

end train

/-! ### The INIT exchange -/

theorem Port.initing_iff {p : Port} (h : p.initing = true) : (p.st = .init ∨ p.st = .retrain) ∧ p.modSt ≠ .foreign := by
  unfold Port.initing at h
  simp only [Bool.and_eq_true, Bool.or_eq_true, beq_iff_eq, bne_iff_ne] at h
  exact ⟨h.1.1, h.2⟩

/-- A port that has taken the INIT of its other end. -/
def Port.initTaken (p : Port) (i : SheetInit) : Port :=
  { p with
    initRx := true, initSeen := p.initSeen || i.seen, modLanes := i.lanes, crCmd := i.crCmd, crData := i.crData
    epochSeen := i.epoch, ownerSeen := i.owner }

theorem State.tryUp_waits {s : State} {b : Nat} (h : ((s.port b).initSeen && (s.port b).seenSent) = false) : s.tryUp b = s := by
  unfold State.tryUp
  dsimp only
  rw [if_pos (by rw [h]; rfl)]

/-- A port that is up on both lanes, its sequence numbers at 0. -/
def Port.cameUp (p : Port) : Port :=
  { p with st := .up, attempts := 0, txSeq := 0, rxSeq := 0, replay := [], nakSent := false, ackDue := false }

theorem State.tryUp_up {s : State} {b : Nat} (hseen : (s.port b).initSeen = true) (hsent : (s.port b).seenSent = true) (hst : (s.port b).st = .init ∨ (s.port b).st = .retrain)
    (h0 : (s.port b).lane0.locked = true) (h1 : (s.port b).lane1.locked = true) (hl : (s.port b).modLanes = 3) : s.tryUp b = (s.onPort b Port.cameUp).portCameUp b := by
  have hst2 : ((s.port b).st == .init || (s.port b).st == PortState.retrain) = true := by
    rcases hst with h | h <;> rw [h] <;> rfl
  unfold State.tryUp
  dsimp only
  rw [hseen, hsent, h0, h1, hl, hst2]
  rfl

theorem State.portCameUp_identifies {s : State} {b : Nat} (hb : b < s.sheet.ports.length) (hm : (s.port b).modSt = .linking) :
    ((s.portCameUp b).port b).core = ({ s.port b with modSt := .identify } : Port).core ∧ ∀ c, c ≠ b → (s.portCameUp b).port c = s.port c := by
  unfold State.portCameUp
  extract_lets tags s1
  have hp (c : Nat) : s1.port c = if b = c then { s.port c with ops := tabKeep (fun _ o => o.code != 4) (s.port c).ops } else s.port c := State.port_onPort hb _ c
  have hl : b < s1.sheet.ports.length := (modNth_length _ _ _).symm ▸ hb
  clear_value s1
  rw [hm]
  dsimp only
  refine ⟨?_, fun c hc => ?_⟩
  · rw [State.ask_core, State.setMod_port hl, if_pos rfl, hp, if_pos rfl]
    rfl
  · rw [(State.ask_onlyPort _ _ _ _ _).2.2 c hc, State.setMod_port hl, if_neg (Ne.symm hc), hp, if_neg (Ne.symm hc)]

theorem State.checkSpace_says (s : State) : s.Says s.checkSpace := by
  unfold State.checkSpace
  extract_lets space few
  split
  · exact .refl s
  · split
    · split
      · exact State.event_says (s.onFn _) _ _ _ _
      · exact .refl s
    · split
      · exact State.event_says (s.onFn _) _ _ _ _
      · exact .refl s

theorem State.issue_says {s t : State} {b : Nat} {op : SheetOp} {v : BitVec 64} {o : List Int} {f : List Payload} (h : s.issue b op v o f = some t) : s.Says t := by
  unfold State.issue at h
  extract_lets p tag s1 s2 at h
  split at h
  · rw [← Option.some.inj h]
    split
    · exact List.suffix_cons _ s.out
    · exact (List.suffix_cons _ s.out).trans (List.suffix_cons _ _)
  · exact absurd h nofun

theorem State.sendFence_says (s : State) (b : Nat) : s.Says (s.sendFence b) := by
  unfold State.sendFence
  split
  · next t ht => exact (State.issue_says ht).trans (t.setMod_says b _)
  · exact s.setMod_says b _

theorem State.portCameUp_says (s : State) (b : Nat) : s.Says (s.portCameUp b) := by
  unfold State.portCameUp
  extract_lets tags s1
  have h1 : s.Says s1 := .of_eq rfl
  clear_value s1
  refine h1.trans ?_
  split
  · exact (s1.setMod_says b _).trans (State.ask_says _ _ _ _ _)
  · exact s1.ask_says _ _ _ _
  · refine State.Says.trans (State.Says.trans ?_ (State.ask_says _ _ _ _ _)) (State.checkSpace_says _)
    split
    · exact s1.sendFence_says b
    · exact s1.setMod_says b _
  case h_4 | h_5 | h_6 =>
    exact ((State.Says.foldl (fun u t => State.ask_says u b 4 t 0) tags s1).trans (State.ask_says _ _ _ _ _)).trans (State.checkSpace_says _)
  all_goals exact .refl s1

theorem State.tryUp_says (s : State) (b : Nat) : s.Says (s.tryUp b) := by
  unfold State.tryUp
  extract_lets p n
  split
  · exact .refl s
  · refine State.Says.trans ?_ (State.portCameUp_says _ b)
    exact .of_eq rfl

section init
variable {s : State} {b : Fin 48} (hlen : s.sheet.ports.length = 48) (haw : s.awake = true) (hin : (s.port b).initing = true)
include haw hin

theorem exec_sheetInitRx {i : SheetInit} (hres : i.reserved = 0) :
    (i.version = 1 → i.port + 1 = s.boot.board.slot → s.minCmdCredit ≤ i.crCmd → 32 ≤ i.crData →
      exec (.sheetInitRx b i) s = .next ((s.onPort b fun p => p.initTaken i).tryUp b)) ∧
    (i.version ≠ 1 ∨ i.port + 1 ≠ s.boot.board.slot ∨ i.crCmd < s.minCmdCredit ∨ i.crData < 32 →
      exec (.sheetInitRx b i) s = .next ((s.onPort b fun p => { p with st := .init }).foreign b)) := by
  rw [show exec (.sheetInitRx b i) s = execSheetInitRx b i s from rfl, execSheetInitRx]
  dsimp only
  rw [if_neg (by simp [haw, hin, hres])]
  refine ⟨fun h1 h2 h3 h4 => ?_, fun h => ?_⟩
  · rw [if_neg (by omega)]
    rfl
  · rw [if_pos h]

include hlen in
theorem sheetInitRx_takes {i : SheetInit} (hres : i.reserved = 0) (h1 : i.version = 1) (h2 : i.port + 1 = s.boot.board.slot) (h3 : s.minCmdCredit ≤ i.crCmd) (h4 : 32 ≤ i.crData) :
    ((s.port b).seenSent = false ∨ ((s.port b).initSeen = false ∧ i.seen = false) → Completes (.sheetInitRx b i) s fun t =>
      (t.port b).initRx = true ∧ (t.port b).crCmd = i.crCmd ∧ (t.port b).crData = i.crData ∧ (t.port b).epochSeen = i.epoch
        ∧ (t.port b).ownerSeen = i.owner ∧ (t.port b).st = (s.port b).st ∧ ∀ c : Nat, c ≠ b → t.port c = s.port c) ∧
    ((s.port b).seenSent = true → i.seen = true → i.lanes = 3 → (s.port b).lane0.locked = true → (s.port b).lane1.locked = true → (s.port b).modSt = .linking →
      Completes (.sheetInitRx b i) s fun t => (t.port b).st = .up ∧ (t.port b).modSt = .identify ∧ (t.port b).rxSeq = 0
        ∧ (t.port b).attempts = 0 ∧ ∀ c : Nat, c ≠ b → t.port c = s.port c) := by
  have hb : b.val < s.sheet.ports.length := by rw [hlen]; exact b.isLt
  have hex := (exec_sheetInitRx haw hin hres).1 h1 h2 h3 h4
  have hp (c : Nat) : (s.onPort b fun p => p.initTaken i).port c = if b = c then (s.port c).initTaken i else s.port c := State.port_onPort hb _ c
  have hul : b.val < (s.onPort b fun p => p.initTaken i).sheet.ports.length := (modNth_length _ _ _).symm ▸ hb
  generalize (s.onPort b fun p => p.initTaken i) = u at hex hp hul
  have hpb : u.port b = (s.port b).initTaken i := by rw [hp, if_pos rfl]
  refine ⟨fun hno => ?_, fun hsent hseen hl h0 h1 hm => ?_⟩
  · have hwait : ((u.port b).initSeen && (u.port b).seenSent) = false := by
      rw [hpb]
      show (((s.port b).initSeen || i.seen) && (s.port b).seenSent) = false
      rcases hno with h | ⟨h, h'⟩
      · rw [h, Bool.and_false]
      · rw [h, h']
        rfl
    rw [State.tryUp_waits hwait] at hex
    exact ⟨_, hex, by rw [hpb]; rfl, by rw [hpb]; rfl, by rw [hpb]; rfl, by rw [hpb]; rfl, by rw [hpb]; rfl, by rw [hpb]; rfl,
      fun c hc => by rw [hp, if_neg (Ne.symm hc)]⟩
  · have hup : u.tryUp b = (u.onPort b Port.cameUp).portCameUp b := by
      refine State.tryUp_up ?_ ?_ ?_ ?_ ?_ ?_ <;> rw [hpb]
      · show ((s.port b).initSeen || i.seen) = true
        rw [hseen, Bool.or_true]
      · exact hsent
      · exact (Port.initing_iff hin).1
      · exact h0
      · exact h1
      · exact hl
    have hv (c : Nat) : (u.onPort b Port.cameUp).port c = if b = c then (u.port c).cameUp else u.port c := State.port_onPort hul _ c
    have hvl : b.val < (u.onPort b Port.cameUp).sheet.ports.length := (modNth_length _ _ _).symm ▸ hul
    generalize u.onPort b Port.cameUp = v at hup hv hvl
    have hvb : v.port b = ((s.port b).initTaken i).cameUp := by rw [hv, if_pos rfl, hpb]
    obtain ⟨h5, h6⟩ := State.portCameUp_identifies hvl (by rw [hvb]; exact hm)
    rw [hup] at hex
    rw [hvb] at h5
    have h7 := congrArg Port.st h5
    have h8 := congrArg Port.modSt h5
    have h9 := congrArg Port.rxSeq h5
    have h10 := congrArg Port.attempts h5
    exact ⟨_, hex, h7, h8, h9, h10, fun c hc => by rw [h6 c hc, hv, if_neg (Ne.symm hc), hp, if_neg (Ne.symm hc)]⟩

end init

theorem State.foreign_port {s : State} {b : Nat} (hb : b < s.sheet.ports.length) (h : (s.port b).modSt ≠ .foreign) (c : Nat) :
    (s.foreign b).port c = if b = c then { s.port c with modSt := .foreign } else s.port c := by
  unfold State.foreign
  rw [if_neg h, State.setMod_port (by rw [State.event_port_length]; exact hb), State.event_port]

/-! ### Lost modules -/

theorem State.loseModule_loss (s : State) (b : Nat) : .bay b ∈ (s.loseModule b).loss := by
  have hadd (u : State) : LossItem.bay b ∈ (u.addLoss (.bay b)).reb.loss := by
    have hin (r : RebSt) (x : List LossItem) : LossItem.bay b ∈ x ++ [LossItem.bay b] := List.mem_append_right _ List.mem_cons_self
    unfold State.addLoss
    extract_lets rings s1 s2
    split
    · next h => exact List.contains_iff_mem.1 h
    · have h1 : LossItem.bay b ∈ s2.loss := hin s.reb _
      clear_value s2
      split
      · have h2 := State.enterReb_loss s2 .journal
        rw [State.loss_mask, State.loss_mask] at h2
        show _ ∈ (s2.enterReb .journal).loss
        rw [h2]
        exact h1
      · exact h1
  unfold State.loseModule
  exact hadd _

theorem State.retireModule_loses {s : State} {b : Nat} (hb : b < s.sheet.ports.length) (hm : (s.port b).modSt = .unreachable ∨ (s.port b).modSt = .fencing) :
    ((s.retireModule b).port b).modSt = .lost ∧ (s.holder = true → .bay b ∈ (s.retireModule b).reb.loss) := by
  unfold State.retireModule
  extract_lets s1
  rw [if_neg (by rcases hm with h | h <;> rw [h] <;> decide)]
  have hs1 : (s1.port b).modSt = .lost ∧ (s.holder = true → .bay b ∈ s1.loss) := by
    unfold s1
    split
    · exact ⟨by rw [State.loseModule_port hb, if_pos rfl], fun _ => s.loseModule_loss b⟩
    · next hno =>
      refine ⟨?_, fun h => absurd h hno⟩
      have hl : b < ((s.setMod b .lost).event (0x500 + b) 7 2 0).sheet.ports.length := by
        rw [State.event_port_length, (s.setMod_onlyPort b .lost).1]
        exact hb
      rw [State.port_onPort hl, if_pos rfl, State.event_port, State.setMod_port hb, if_pos rfl]
  clear_value s1
  have hcore : ((((s1.endOps b).sjOff b).checkSpace).port b).core = (s1.port b).core := State.port_core (by simp) b
  have hloss : ((((s1.endOps b).sjOff b).checkSpace).mask butReb).loss = (s1.mask butReb).loss := by simp
  generalize ((s1.endOps b).sjOff b).checkSpace = u at hcore hloss
  have h1 := congrArg Port.modSt hcore
  rw [State.loss_mask, State.loss_mask] at hloss
  refine ⟨h1.trans hs1.1, fun h => ?_⟩
  show _ ∈ u.loss
  rw [hloss]
  exact hs1.2 h

/-- Settles O36: a port trains, exchanges INIT and comes up, and a module that does not answer is lost. -/
theorem linkTraining : Obligations.LinkTraining := by
  intro b s hlen haw p others
  have hb : b.val < s.sheet.ports.length := by rw [hlen]; exact b.isLt
  refine ⟨fun hst => ⟨?_, fun x y ht hr0 hr1 hf0 hf1 hxy => lanesAligned_inits hlen haw ht hr0 hr1 hf0 hf1 hxy, fun ht hn => ⟨?_, ?_⟩, fun hr => ?_⟩,
    fun hin => ⟨?_, fun i hres h1 h2 h3 h4 => sheetInitRx_takes hlen haw hin hres h1 h2 h3 h4, fun i hres hbad => ?_⟩, fun l hup hlk hn => laneLockLoss_retrains hlen haw hup hlk hn,
    fun hm => ⟨fun hh hdue => ?_, fun hearly => ?_⟩, fun hm => ?_⟩
  · have htr : ((s.port b).st == .training || (s.port b).st == PortState.retrain) = true := by
      rcases hst with h | h <;> rw [show (s.port b).st = _ from h] <;> rfl
    have hex : exec (.trainingAttempt b) s = .next (s.onPort b fun p => p.unlocked) := congrArg Host.Outcome.next (if_pos (by rw [haw, htr]; rfl))
    have hp (c : Nat) : (s.onPort b fun p => p.unlocked).port c = if b = c then (s.port c).unlocked else s.port c := State.port_onPort hb _ c
    exact ⟨_, hex, by rw [hp, if_pos rfl]; rfl, by rw [hp, if_pos rfl]; rfl, by rw [hp, if_pos rfl]; rfl, fun c hc => by rw [hp, if_neg (Ne.symm hc)]⟩
  · exact ⟨_, trainingFails haw (.inl rfl) hst, (State.attemptFailed_ends hb).1 ht hn⟩
  · exact ⟨_, trainingFails haw (.inr rfl) hst, (State.attemptFailed_ends hb).1 ht hn⟩
  · exact ⟨_, trainingFails haw (.inr rfl) hst, (State.attemptFailed_ends hb).2 hr⟩
  · have hex : exec (.sheetInitSendTimer b) s = .next (((s.emit (.sheet b (.init (s.port b).initRx))).onPort b fun p => { p with seenSent := p.seenSent || p.initRx }).tryUp b) :=
      congrArg Host.Outcome.next (if_pos (by rw [haw, show (s.port b).initing = true from hin]; rfl))
    exact ⟨_, hex, (State.tryUp_says _ b).mem List.mem_cons_self⟩
  · have hex := (exec_sheetInitRx haw hin hres).2 hbad
    have hp (c : Nat) : (s.onPort b fun p => { p with st := .init }).port c = if b = c then { s.port c with st := .init } else s.port c := State.port_onPort hb _ c
    have hul : b.val < (s.onPort b fun p => { p with st := .init }).sheet.ports.length := (modNth_length _ _ _).symm ▸ hb
    generalize (s.onPort b fun p => { p with st := .init }) = u at hex hp hul
    have hf := State.foreign_port hul (by rw [hp, if_pos rfl]; exact (Port.initing_iff hin).2)
    exact ⟨_, hex, by rw [hf, if_pos rfl, hp, if_pos rfl], by rw [hf, if_pos rfl], fun c hc => by rw [hf, if_neg (Ne.symm hc), hp, if_neg (Ne.symm hc)]⟩
  · have hex : exec (.unreachableTimeout b) s = .next (s.retireModule b) :=
      congrArg Host.Outcome.next (if_pos (by simp [haw, hh, show (s.port b).modSt = _ from hm, show (s.port b).unreachSince + secs 1 ≤ s.now from hdue]))
    obtain ⟨h1, h2⟩ := State.retireModule_loses hb (.inl hm)
    exact ⟨_, hex, h1, h2 hh⟩
  · exact congrArg Host.Outcome.next (if_neg (by simp [show ¬ (s.port b).unreachSince + secs 1 ≤ s.now from Nat.not_le.2 hearly]))
  · have hex : exec (.fenceTimeout b) s = .next (s.retireModule b) := congrArg Host.Outcome.next (if_pos (by simp [haw, show (s.port b).modSt = _ from hm]))
    exact ⟨_, hex, (State.retireModule_loses hb (.inr hm)).1⟩

end Sys2Proof.Machine
end

section
/-! PROOF. Mailbox answers, peer effects and performance counters (O51). -/

namespace Sys2Proof.Machine

/-! ### Completion -/

theorem State.msix_mbx (s : State) (v : Nat) : (s.msix v).mgmt.mbx = s.mgmt.mbx := by
  unfold State.msix
  split <;> rfl

/-- Writing a record leaves the mailboxes, and each queue's next record number. -/
theorem State.evqWrite_keeps (s : State) (q : Nat) (r : EvRec) :
    (s.evqWrite q r).mgmt.mbx = s.mgmt.mbx ∧ ∀ p, ((s.evqWrite q r).evq p).seq = (s.evq p).seq := by
  have hsig (u : State) (force : Bool) : (u.evqSignal q force).mgmt.mbx = u.mgmt.mbx ∧ ∀ p, ((u.evqSignal q force).evq p).seq = (u.evq p).seq := by
    unfold State.evqSignal
    dsimp only
    split
    · refine ⟨State.msix_mbx _ _, fun p => ?_⟩
      rw [State.evq, State.msix_evqs]
      exact nth_modNth_field Evq.seq u.mgmt.evqs q p Evq.reset fun _ => rfl
    · exact ⟨rfl, fun _ => rfl⟩
  unfold State.evqWrite
  extract_lets e n p ovf rec0 s1 s2
  split
  · exact ⟨rfl, fun _ => rfl⟩
  · obtain ⟨h1, h2⟩ := hsig s2 ovf
    exact ⟨h1, fun p => (h2 p).trans (nth_modNth_field Evq.seq s.mgmt.evqs q p Evq.reset fun _ => rfl)⟩

/-- A record posted to an enabled queue takes its next number, and changes no mailbox. -/
theorem State.evqPost_posts {s : State} {q : Nat} (hq : q < s.mgmt.evqs.length) (hen : (s.evq q).enabled = true) (src kind d0 d1 : Nat) :
    let t := s.evqPost q src kind d0 d1
    t.mgmt.mbx = s.mgmt.mbx ∧ s.Says t ∧ (t.evq q).seq = ((s.evq q).seq + 1) % 2 ^ 32 := by
  have hseq (g : Evq → Evq) (hg : (g (s.evq q)).seq = ((s.evq q).seq + 1) % 2 ^ 32) : ((s.onEvq q g).evq q).seq = ((s.evq q).seq + 1) % 2 ^ 32 := by
    rw [State.evq_onEvq hq, if_pos rfl, hg]
  unfold State.evqPost
  extract_lets e r s1 t
  have h1 : (s1.evq q).seq = ((s.evq q).seq + 1) % 2 ^ 32 := hseq _ rfl
  have hsays : s.Says s1 := .refl s
  unfold t
  rw [if_neg (by rw [show e.enabled = true from hen]; decide)]
  split
  · obtain ⟨hm, hs⟩ := s1.evqWrite_keeps q r
    exact ⟨hm, hsays.trans (s1.evqWrite_says q r), (hs q).trans h1⟩
  · split
    · refine ⟨rfl, hsays, (?_ : _ = _).trans h1⟩
      exact nth_modNth_field Evq.seq s1.mgmt.evqs q q Evq.reset fun _ => rfl
    · exact ⟨rfl, hsays, h1⟩

/-- A mailbox that has its response in its buffer. -/
def Mbx.delivered (b : Mbx) (r : Resp) : Mbx :=
  { b.ended .done with
    buf := ((List.range r.bytes.length).zip r.bytes).foldl (fun t e => tabPutD 0 t e.1 e.2) b.buf }

/-- The bytes of a list laid one by one from the start of a buffer. -/
theorem tabGetD_putList (l : List (BitVec 8)) {t : Tab (BitVec 8)} (h : tabWf t = true) (k : Nat) :
    tabGetD (((List.range l.length).zip l).foldl (fun t e => tabPutD 0 t e.1 e.2) t) k 0 = if k < l.length then nth l k 0 else tabGetD t k 0 := by
  have hzip : (List.range l.length).zip l = (List.range l.length).map fun k => (k, nth l k 0) := by
    refine List.ext_getElem (by simp) fun i h1 h2 => ?_
    have hi : i < l.length := by simpa using h1
    simp [nth, hi]
  rw [hzip, List.foldl_map]
  have h1 := (tabGetD_putBytes (fun k => nth l k 0) 0 l.length h).2 k
  simpa using h1

section completion
variable {s : State} {m : Fin 64} {r : Resp} (hlen : s.mgmt.mbx.length = 64) (hw : (s.mbx m.val).wait = .answer r) (hst : (s.mbx m.val).st = .busy)
include hw hst

include hlen in
theorem mailboxCompletion_delivers (hd : (s.mbx m.val).discard = false) :
    ∃ t, exec (.mailboxCompletion m) s = .next t ∧ t.mbx m.val = (s.mbx m.val).delivered r ∧ (∀ n : Nat, n ≠ m → t.mbx n = s.mbx n) ∧ .response m.val r ∈ t.out
      ∧ (m.val < 48 → (s.mbx m.val).notify = true → (s.mbx m.val).evq < s.mgmt.evqs.length → (s.evq (s.mbx m.val).evq).enabled = true →
        (t.evq (s.mbx m.val).evq).seq = ((s.evq (s.mbx m.val).evq).seq + 1) % 2 ^ 32)
      ∧ ((s.mbx m.val).notify = false → t.mgmt.evqs = s.mgmt.evqs) := by
  have hm : m.val < s.mgmt.mbx.length := by rw [hlen]; exact m.isLt
  obtain ⟨u, hu⟩ : ∃ u, u = (s.onMbx m.val fun b => b.delivered r).emit (.response m.val r) := ⟨_, rfl⟩
  have hum (n : Nat) : u.mbx n = if m.val = n then (s.mbx m.val).delivered r else s.mbx n := by
    rw [hu]
    refine (State.mbx_onMbx hm _ n).trans ?_
    split
    · next h => rw [← h]
    · rfl
  have huo : .response m.val r ∈ u.out := by rw [hu]; exact List.mem_cons_self
  have hue : u.mgmt.evqs = s.mgmt.evqs := by rw [hu]; rfl
  have hexec : exec (.mailboxCompletion m) s = .next (
      let v := if 48 ≤ m.val ∧ m.val ≤ 55 then u.onMgmt fun g => { g with sessions := modNth g.sessions (m.val - 48) fun x => x.map fun y => { y with txSeq := y.txSeq + 1 } } else u
      if m.val < 48 ∧ (s.mbx m.val).notify ∧ (s.evq (s.mbx m.val).evq).enabled then
        v.evqPost (s.mbx m.val).evq (0xF00 + m.val) 1 ((s.mbx m.val).token + 2 ^ 16 * r.status) 0 else v) := by
    rw [show exec (.mailboxCompletion m) s = execMailboxCompletion m s from rfl, execMailboxCompletion, hu]
    dsimp only
    rw [hw]
    dsimp only
    rw [if_neg (by rw [hst]; exact fun h => h rfl), hd, if_neg (by decide)]
    rfl
  rw [hexec]
  dsimp only
  have hdone (t : State) (h : t.mgmt.mbx = u.mgmt.mbx) : t.mbx m.val = (s.mbx m.val).delivered r ∧ ∀ n : Nat, n ≠ m → t.mbx n = s.mbx n := by
    have ht (n : Nat) : t.mbx n = u.mbx n := by rw [State.mbx, h]; rfl
    exact ⟨by rw [ht, hum, if_pos rfl], fun n hn => by rw [ht, hum, if_neg (Ne.symm hn)]⟩
  by_cases h48 : 48 ≤ m.val ∧ m.val ≤ 55
  · rw [if_pos h48, if_neg fun h => absurd h.1 (by omega)]
    refine ⟨_, rfl, (hdone _ rfl).1, (hdone _ rfl).2, huo, fun h => absurd h (by omega), fun _ => hue⟩
  · rw [if_neg h48]
    by_cases hp : m.val < 48 ∧ (s.mbx m.val).notify ∧ (s.evq (s.mbx m.val).evq).enabled
    · rw [if_pos hp]
      obtain ⟨-, hn, hen⟩ := hp
      by_cases hq : (s.mbx m.val).evq < s.mgmt.evqs.length
      · have hue' : u.evq (s.mbx m.val).evq = s.evq (s.mbx m.val).evq := by rw [State.evq, hue]; rfl
        obtain ⟨h1, h2, h3⟩ := State.evqPost_posts (s := u) (q := (s.mbx m.val).evq) (by rw [hue]; exact hq) (by rw [hue']; exact hen) (0xF00 + m.val) 1
          ((s.mbx m.val).token + 2 ^ 16 * r.status) 0
        rw [hue'] at h3
        exact ⟨_, rfl, (hdone _ h1).1, (hdone _ h1).2, h2.mem huo, fun _ _ _ _ => h3, fun h => absurd (hn.symm.trans h) (by decide)⟩
      · have hoff : s.evq (s.mbx m.val).evq = Evq.reset := by
          simp [State.evq, nth, List.getD_eq_getElem?_getD, List.getElem?_eq_none (Nat.not_lt.1 hq)]
        exact absurd hen (by rw [hoff]; decide)
    · rw [if_neg hp]
      exact ⟨_, rfl, (hdone _ rfl).1, (hdone _ rfl).2, huo, fun h1 h2 _ h4 => absurd ⟨h1, h2, h4⟩ hp, fun _ => hue⟩

theorem mailboxCompletion_discards (hd : (s.mbx m.val).discard = true) :
    exec (.mailboxCompletion m) s = .next (s.onMbx m.val fun b => b.ended .idle) := by
  rw [show exec (.mailboxCompletion m) s = execMailboxCompletion m s from rfl, execMailboxCompletion]
  dsimp only
  rw [hw]
  dsimp only
  rw [if_neg (by rw [hst]; exact fun h => h rfl), hd, if_pos rfl]

end completion

/-- An opcode of no table, its GO the next: refused. -/
theorem mailboxInvalidOpcode_refuses {s : State} {h : MbxHdr} {op : Nat} (hlen : s.mgmt.mbx.length = 64) (hup : s.mailboxesUp = true) (hop : op ∉ mbxOpcodes)
    (hst : (s.mbx h.mbx.val).st = .busy) (hw : (s.mbx h.mbx.val).wait = .free) (hnext : s.nextGo = some h.mbx.val) (hd : h.mbx.val < 48 ∨ h.dlen = 0) :
    Completes (.mailboxInvalidOpcode h op) s fun t => (t.mbx h.mbx.val).wait = .answer (mkResp op 2 0) ∧ t.mgmt.taken = s.mgmt.taken + 1 := by
  have hops : mbxOpcodes.contains op = false := by simpa using hop
  obtain ⟨u, hu⟩ : ∃ u, u = (s.takeGo h.mbx.val none).onMbx h.mbx.val fun b => { b with wait := .running op } := ⟨_, rfl⟩
  have hlt : h.mbx.val < (s.takeGo h.mbx.val none).mgmt.mbx.length := by
    show _ < (modNth s.mgmt.mbx _ _).length
    rw [modNth_length, hlen]
    exact h.mbx.isLt
  have hult : h.mbx.val < u.mgmt.mbx.length := by
    rw [hu]
    show _ < (modNth (s.takeGo h.mbx.val none).mgmt.mbx _ _).length
    rw [modNth_length]
    exact hlt
  have huw : (u.mbx h.mbx.val).wait = .running op := by rw [hu, State.mbx_onMbx hlt, if_pos rfl]
  have hut : u.mgmt.taken = s.mgmt.taken + 1 := by rw [hu]; rfl
  refine ⟨u.mbxFail h.mbx.val 2 0, ?_, State.mbxFail_replied hult huw 2 0, hut⟩
  rw [show exec (.mailboxInvalidOpcode h op) s = execMailboxInvalidOpcode h op s from rfl, execMailboxInvalidOpcode]
  dsimp only
  rw [if_neg (by rw [hup, hops, hst, hw, hnext]; simp), if_neg (fun hc => by omega), ← hu]

/-! ### Effects asked for by the peer -/

/-- Neither lane of a port is retired, nor its module's loss latched. -/
def Port.unretired (p : Port) : Prop := p.lane0.retired = false ∧ p.lane1.retired = false ∧ p.latchedLost = false

theorem Port.unretired_core {p q : Port} (h : p.core = q.core) (hq : q.unretired) : p.unretired := by
  obtain ⟨h1, h2, h3⟩ := hq
  have e1 := congrArg (fun x => x.lane0.retired) h
  have e2 := congrArg (fun x => x.lane1.retired) h
  have e3 := congrArg Port.latchedLost h
  exact ⟨e1.trans h1, e2.trans h2, e3.trans h3⟩

/-- The port of a module that serves nothing yet goes down without a loss. -/
theorem State.portGone_unretired {s : State} {b : Nat} (hb : b < s.sheet.ports.length) (hm : (s.port b).modSt = .ready) (h : (s.port b).unretired) :
    ((s.portGone b).port b).unretired := by
  have hset (m : ModState) : ((s.setMod b m).port b).unretired := by
    rw [State.setMod_port hb, if_pos rfl]
    exact h
  unfold State.portGone
  extract_lets p s1
  have hs1 : (s1.port b).unretired := by
    have hp : p.modSt = .ready := hm
    unfold s1
    rw [hp]
    split
    · dsimp only
      split
      · exact h
      · exact hset _
    · dsimp only
      split
      · exact h
      · exact hset _
  have hc : (((s1.endOps b).sjOff b).checkSpace.port b).core = (s1.port b).core := State.port_core (by simp) b
  exact Port.unretired_core hc hs1

theorem State.portOff_unretired {s : State} {b : Nat} (hb : b < s.sheet.ports.length) (hm : (s.port b).modSt = .ready) (h : (s.port b).unretired) :
    ((s.portOff b).port b).unretired := by
  unfold State.portOff
  split
  · exact h
  · obtain ⟨u, hu⟩ : ∃ u, u = s.onPort b fun p => { p with st := .off, attempts := 0, initRx := false, initSeen := false, seenSent := false } := ⟨_, rfl⟩
    have hlen : b < u.sheet.ports.length := by
      rw [hu]
      exact (modNth_length _ _ _).symm ▸ hb
    have hport := State.port_onPort hb (fun p => { p with st := .off, attempts := 0, initRx := false, initSeen := false, seenSent := false }) b
    rw [← hu, if_pos rfl] at hport
    rw [← hu]
    exact State.portGone_unretired hlen (by rw [hport]; exact hm) (by rw [hport]; exact h)

theorem State.powerFollow_unretired {s : State} {b : Nat} (hb : b < s.sheet.ports.length) (hm : (s.port b).modSt = .ready) (h : (s.port b).unretired) :
    ((s.powerFollow b).port b).unretired := by
  unfold State.powerFollow
  split
  · exact h
  · split
    · have hs1 : (if (s.port b).modSt = .powering ∧ s.bayDeclared b then s.setMod b .linking else s) = s := if_neg fun hc => by rw [hm] at hc; exact nomatch hc.1
      rw [hs1]
      dsimp only
      split
      · rw [State.port_onPort hb, if_pos rfl]
        exact h
      · exact h
    · exact State.portOff_unretired hb hm h

/-- MOD.CLEAR of a bay whose module is READY leaves nothing of it retired. -/
theorem State.modClear_unretired {s : State} {b : Nat} (hb : b < s.sheet.ports.length) (hm : (s.port b).modSt = .ready) : ((s.modClear b).port b).unretired := by
  unfold State.modClear
  extract_lets p lost s1 s2 s3
  have hp : ¬ p.modSt = .lost := fun hc => nomatch hm.symm.trans hc
  have hs2 : s2 = s1 := if_neg hp
  have h3 : (s3.port b).unretired := by
    have hlen : b < s1.sheet.ports.length := (modNth_length _ _ _).symm ▸ hb
    have hport : s1.port b = _ := (State.port_onPort hb _ b).trans (if_pos rfl)
    unfold s3
    rw [hs2]
    exact State.powerFollow_unretired hlen (by rw [hport]; exact hm) (by rw [hport]; exact ⟨rfl, rfl, rfl⟩)
  rw [if_neg fun hc => hp hc.1]
  exact h3

/-- A slot that holds a key, erased: its GEN stays, its material is gone. -/
theorem State.keyGone_erases {s : State} {k : Nat} (h : (tabGet s.cip.slots k).isSome = true) :
    ((s.keyGone k).keySlot k).gen = (s.keySlot k).gen ∧ ((s.keyGone k).keySlot k).material = 0 := by
  obtain ⟨x, hx⟩ := Option.isSome_iff_exists.1 h
  obtain ⟨u, hu⟩ : ∃ u, u = s.onCip fun c => { c with slots := tabMod c.slots k fun k => { k with st := 2, material := 0, wrapped := 0 } } := ⟨_, rfl⟩
  have hs : s.keySlot k = x := by simp [State.keySlot, tabGetD, hx]
  have huk : u.keySlot k = { x with st := 2, material := 0, wrapped := 0 } := by
    rw [hu]
    simp [State.keySlot, tabGetD, State.onCip, tabGet_tabMod, hx]
  rw [State.keyGone, ← hu, hs]
  unfold State.keyEmpty
  extract_lets y named
  have hy : y = { x with st := 2, material := 0, wrapped := 0 } := huk
  split
  · simp [State.keySlot, tabGetD, State.onCip, tabGet_tabPut_same, hy]
  · rw [huk]
    exact ⟨rfl, rfl⟩

/-! ### Counters -/

/-- What a happening adds to a counter of selector `x`. -/
def happeningAdds (h : Happening) (x : BitVec 32) : Nat := if selMode x = 1 then h.value else 1

/-- Counter `i` of selector `x` has added `n`: its value wraps at its SPAN, and the overflow bit says so. -/
def State.Counted (s t : State) (i : Nat) (x : BitVec 32) (n : Nat) : Prop :=
  tabGetD t.pmc.vals i 0 = BitVec.ofNat 64 (((tabGetD s.pmc.vals i 0).toNat + n) % spanTop (selSpan x)) ∧
    tabGetD t.pmc.ovf i false = (tabGetD s.pmc.ovf i false || decide (spanTop (selSpan x) ≤ (tabGetD s.pmc.vals i 0).toNat + n))

/-- Counter `i` is as it was. -/
def State.SameCounter (s t : State) (i : Nat) : Prop := tabGetD t.pmc.vals i 0 = tabGetD s.pmc.vals i 0 ∧ tabGet t.pmc.ovf i = tabGet s.pmc.ovf i

theorem spanTop_pos (n : Nat) : 0 < spanTop n := by
  unfold spanTop
  split
  · decide
  · exact Nat.two_pow_pos _

/-- The counter part of an addition, before its bank takes a sample. -/
theorem State.countUp_pmc (s : State) (i add : Nat) (h : Happening) :
    let top := spanTop (selSpan (tabGetD s.pmc.sels i 0))
    let v := (tabGetD s.pmc.vals i 0).toNat + add
    (s.countUp i add h).pmc.sels = s.pmc.sels ∧ (s.countUp i add h).pmc.vals = tabPutD 0 s.pmc.vals i (BitVec.ofNat 64 (v % top))
      ∧ (s.countUp i add h).pmc.ovf = if v / top = 0 then s.pmc.ovf else tabPut s.pmc.ovf i true := by
  intro top v
  unfold State.countUp
  dsimp only
  split
  · exact ⟨rfl, rfl, rfl⟩
  · exact ⟨rfl, rfl, rfl⟩

theorem State.countUp_counts {s : State} {i : Nat} {x : BitVec 32} (hx : tabGet s.pmc.sels i = some x) (hv : tabWf s.pmc.vals = true) (n : Nat) (h : Happening) :
    s.Counted (s.countUp i n h) i x n ∧ (∀ j, j ≠ i → s.SameCounter (s.countUp i n h) j) := by
  obtain ⟨-, hvals, hovf⟩ := s.countUp_pmc i n h
  have hsel : tabGetD s.pmc.sels i 0 = x := by rw [tabGetD, hx]; rfl
  rw [hsel] at hvals hovf
  refine ⟨⟨?_, ?_⟩, fun j hj => ⟨?_, ?_⟩⟩
  · rw [hvals, tabGet_tabPutD hv, if_pos rfl]
  · have hdiv : ((tabGetD s.pmc.vals i 0).toNat + n) / spanTop (selSpan x) = 0 ↔ ¬ spanTop (selSpan x) ≤ (tabGetD s.pmc.vals i 0).toNat + n := by
      rw [Nat.div_eq_zero_iff_lt (spanTop_pos _), Nat.not_le]
    rw [hovf]
    by_cases hw : spanTop (selSpan x) ≤ (tabGetD s.pmc.vals i 0).toNat + n
    · rw [if_neg fun h0 => hdiv.1 h0 hw, tabGetD, tabGet_tabPut_same, decide_eq_true hw, Bool.or_true]
      rfl
    · rw [if_pos (hdiv.2 hw), decide_eq_false hw, Bool.or_false]
  · rw [hvals, tabGet_tabPutD hv, if_neg hj]
  · rw [hovf]
    split
    · rfl
    · exact tabGet_tabPut_other _ _ hj

/-- One happening added to each counter of a list: each is counted once, the others are as they were. -/
theorem State.foldl_countUp (h : Happening) (l : Tab (BitVec 32)) (s : State) (hl : l.Pairwise fun a b => a.1 ≠ b.1)
    (hmem : ∀ e ∈ l, tabGet s.pmc.sels e.1 = some e.2) (hv : tabWf s.pmc.vals = true) :
    let t := l.foldl (fun (s : State) (e : Nat × BitVec 32) => s.countUp e.1 (happeningAdds h e.2) h) s
    t.pmc.sels = s.pmc.sels ∧ (∀ e ∈ l, s.Counted t e.1 e.2 (happeningAdds h e.2)) ∧ ∀ i, (∀ e ∈ l, e.1 ≠ i) → s.SameCounter t i := by
  induction l generalizing s with
  | nil => exact ⟨rfl, nofun, fun i _ => ⟨rfl, rfl⟩⟩
  | cons e l ih =>
    obtain ⟨hne, hl⟩ := List.pairwise_cons.1 hl
    obtain ⟨hsels, hvals, -⟩ := s.countUp_pmc e.1 (happeningAdds h e.2) h
    obtain ⟨hc, hsame⟩ := State.countUp_counts (hmem e List.mem_cons_self) hv (happeningAdds h e.2) h
    obtain ⟨i1, i2, i3⟩ := ih (s.countUp e.1 (happeningAdds h e.2) h) hl (fun a ha => by rw [hsels]; exact hmem a (List.mem_cons_of_mem _ ha))
      (by rw [hvals]; exact tabWf_tabPutD hv _ _ _)
    rw [List.foldl_cons]
    refine ⟨i1.trans hsels, fun a ha => ?_, fun i hi => ?_⟩
    · rcases List.mem_cons.1 ha with rfl | ha
      · obtain ⟨k1, k2⟩ := i3 a.1 fun b hb => (hne b hb).symm
        obtain ⟨c1, c2⟩ := hc
        exact ⟨k1.trans c1, by rw [tabGetD, k2]; exact c2⟩
      · obtain ⟨k1, k2⟩ := hsame a.1 (hne a ha).symm
        obtain ⟨c1, c2⟩ := i2 a ha
        have k2' : tabGetD (s.countUp e.1 (happeningAdds h e.2) h).pmc.ovf a.1 false = tabGetD s.pmc.ovf a.1 false := by rw [tabGetD, k2]; rfl
        rw [k1] at c1 c2
        rw [k2'] at c2
        exact ⟨c1, c2⟩
    · obtain ⟨k1, k2⟩ := hsame i (hi e List.mem_cons_self).symm
      obtain ⟨c1, c2⟩ := i3 i fun a ha => hi a (List.mem_cons_of_mem _ ha)
      exact ⟨c1.trans k1, c2.trans k2⟩

theorem exec_counterHappening {s : State} (haw : s.awake = true) (h : Happening) : exec (.counterHappening h) s = .next
    ((s.pmc.sels.filter fun e => selTakes (s.fn.committed.map (·.tenants)) e.1 e.2 h).foldl
      (fun (s : State) (e : Nat × BitVec 32) => s.countUp e.1 (happeningAdds h e.2) h) s) :=
  congrArg Host.Outcome.next (if_neg (by rw [haw]; decide))

theorem counterHappening_counts {s : State} (haw : s.awake = true) (hsel : tabWf s.pmc.sels = true) (hv : tabWf s.pmc.vals = true) (h : Happening) :
    ∃ t, exec (.counterHappening h) s = .next t ∧ t.pmc.sels = s.pmc.sels ∧ ∀ i,
      (∀ x, tabGet s.pmc.sels i = some x → selTakes (s.fn.committed.map (·.tenants)) i x h = true → s.Counted t i x (happeningAdds h x)) ∧
      ((∀ x, tabGet s.pmc.sels i = some x → selTakes (s.fn.committed.map (·.tenants)) i x h = false) → s.SameCounter t i) := by
  refine ⟨_, exec_counterHappening haw h, ?_⟩
  have hpair : (s.pmc.sels.filter fun e => selTakes (s.fn.committed.map (·.tenants)) e.1 e.2 h).Pairwise fun a b => a.1 ≠ b.1 :=
    ((tabWf_iff.1 hsel).sublist List.filter_sublist).imp Nat.ne_of_lt
  obtain ⟨h1, h2, h3⟩ := State.foldl_countUp h _ s hpair (fun e he => tabGet_of_mem hsel (List.mem_of_mem_filter he)) hv
  refine ⟨h1, fun i => ⟨fun x hx ht => h2 (i, x) (List.mem_filter.2 ⟨mem_of_tabGet hx, ht⟩), fun hn => h3 i fun e he => ?_⟩⟩
  rintro rfl
  obtain ⟨hin, ht⟩ := List.mem_filter.1 he
  exact absurd (ht.symm.trans (hn e.2 (tabGet_of_mem hsel hin))) (by decide)

/-- The sampling counter of a bank that has room, at its wrap by one. -/
theorem State.countUp_samples {s : State} {i : Nat} {x : BitVec 32} (hx : tabGet s.pmc.sels i = some x) (hi : i / 512 < s.pmc.banks.length) (h : Happening)
    (hsum : (tabGetD s.pmc.vals i 0).toNat + 1 = spanTop (selSpan x)) :
    let k := nth s.pmc.banks (i / 512) Bank.reset
    k.sampleEn = true → k.sampleCtr = i % 512 → (k.tail + 2 ^ 32 - k.head) % 2 ^ 32 < 256 →
    (nth (s.countUp i 1 h).pmc.banks (i / 512) Bank.reset).tail = (k.tail + 1) % 2 ^ 32 ∧
      (nth (s.countUp i 1 h).pmc.banks (i / 512) Bank.reset).lost = satAdd (2 ^ 32 - 1) k.lost 0 := by
  intro k hen hctr hroom
  have hsel : tabGetD s.pmc.sels i 0 = x := by rw [tabGetD, hx]; rfl
  have hone : spanTop (selSpan x) / spanTop (selSpan x) = 1 := Nat.div_self (spanTop_pos _)
  have htake (y : Sample) : (k.take y 1).tail = (k.tail + 1) % 2 ^ 32 ∧ (k.take y 1).lost = satAdd (2 ^ 32 - 1) k.lost 0 := by
    have hw : min (256 - (k.tail + 2 ^ 32 - k.head) % 2 ^ 32) 1 = 1 := by omega
    refine ⟨?_, ?_⟩
    · show (k.tail + min (256 - (k.tail + 2 ^ 32 - k.head) % 2 ^ 32) 1) % 2 ^ 32 = _
      rw [hw]
    · show satAdd _ _ (1 - min (256 - (k.tail + 2 ^ 32 - k.head) % 2 ^ 32) 1) = _
      rw [hw]
  unfold State.countUp
  dsimp only
  rw [hsel, hsum, hone, if_neg (by rintro (h0 | h0 | h0); exacts [absurd h0 (by decide), by rw [show (nth s.pmc.banks (i / 512) Bank.reset).sampleEn = true from hen] at h0; exact absurd h0 (by decide), h0 hctr])]
  rw [show ∀ g : PmcSt → PmcSt, ∀ u : State, (u.onPmc g).pmc = g u.pmc from fun _ _ => rfl]
  dsimp only
  rw [show ∀ g : PmcSt → PmcSt, ∀ u : State, (u.onPmc g).pmc = g u.pmc from fun _ _ => rfl]
  dsimp only
  rw [nth_modNth_of_lt _ _ _ hi, if_pos rfl]
  exact htake _

theorem State.smpHead_takes {s : State} {b : Nat} (hb : b < s.pmc.banks.length) (v : Nat) :
    let k := nth s.pmc.banks b Bank.reset
    nth (s.smpHead b v).pmc.banks b Bank.reset = (if (k.tail + 2 ^ 32 - v) % 2 ^ 32 ≤ 256 then { k with head := v } else k) ∧
      ∀ c, c ≠ b → nth (s.smpHead b v).pmc.banks c Bank.reset = nth s.pmc.banks c Bank.reset :=
  ⟨(nth_modNth_of_lt _ _ _ hb).trans (if_pos rfl), fun _ hc => (nth_modNth_of_lt _ _ _ hb).trans (if_neg (Ne.symm hc))⟩

/-- Settles O51: a completion puts the response into the buffer and posts its record; each selected counter is added to once. -/
theorem answersAndCounts : Obligations.AnswersAndCounts := by
  unfold Obligations.AnswersAndCounts
  intro s
  refine ⟨fun m r hlen hw hst => ⟨fun hd hwf => ?_, fun hd => ?_⟩, fun h op hlen hup hop hst hw hnext hd =>
      mailboxInvalidOpcode_refuses hlen hup hop hst hw hnext hd,
    fun m hup h56 h59 => ⟨fun b hlen hm _ => ?_, fun a k hk => ?_⟩, fun h haw hsel hv => ⟨?_, fun i x hs ht hmode hi => ?_⟩, fun b v haw hlen => ?_⟩
  · obtain ⟨t, ht, hmb, ho, hout, hseq, hn⟩ := mailboxCompletion_delivers hlen hw hst hd
    refine ⟨t, ht, by rw [hmb]; rfl, by rw [hmb]; rfl, hout, ho, fun k => ?_, hseq, hn⟩
    rw [hmb]
    exact tabGetD_putList r.bytes hwf k
  · have hm : m.val < s.mgmt.mbx.length := by rw [hlen]; exact m.isLt
    have hget := State.mbx_onMbx hm fun b => b.ended .idle
    refine ⟨_, mailboxCompletion_discards hw hst hd, ?_, ?_, ?_, fun n hn => (hget n).trans (if_neg (Ne.symm hn)), rfl⟩ <;> rw [hget, if_pos rfl] <;> rfl
  · have hb : b.val < s.sheet.ports.length := by rw [hlen]; exact b.isLt
    obtain ⟨h1, h2, h3⟩ := State.modClear_unretired hb hm
    exact ⟨(s.modClear b.val).emit (.response m.val (mkResp 0x0305 0 0)), congrArg Host.Outcome.next (if_neg (by simp [hup]; omega)), h1, h2, h3, rfl⟩
  · obtain ⟨h1, h2⟩ := State.keyGone_erases hk
    exact ⟨(s.keyGone (4 * a + k)).emit (.response m.val (mkResp 0x0503 0 0)), congrArg Host.Outcome.next (if_neg (by simp [hup]; omega)), h1.symm, h2, rfl⟩
  · obtain ⟨t, ht, hs, hc⟩ := counterHappening_counts haw hsel hv h
    refine ⟨t, ht, hs, fun i => ?_⟩
    obtain ⟨h1, h2⟩ := hc i
    cases hx : tabGet s.pmc.sels i with
    | none => exact h2 fun x hx' => nomatch hx.symm.trans hx'
    | some x =>
      dsimp only
      split
      · next htk => exact h1 x hx htk
      · next htk => exact h2 fun y hy => by rw [← Option.some.inj (hx.symm.trans hy)]; exact Bool.eq_false_iff.2 htk
  · intro k hsum hen hctr hroom
    have hget : tabGet s.pmc.sels i = some x := by rw [hs]; simp [tabGet]
    refine ⟨_, (exec_counterHappening haw h).trans ?_, State.countUp_samples hget hi h hsum hen hctr hroom⟩
    rw [hs, List.filter_singleton, ht]
    simp [happeningAdds, hmode]
  · obtain ⟨h1, h2⟩ := State.smpHead_takes (s := s) (b := b.val) (by rw [hlen]; exact b.isLt) v.toNat
    exact ⟨s.smpHead b.val v.toNat, congrArg Host.Outcome.next (if_neg (by rw [haw]; decide)), h1, rfl, h2⟩

end Sys2Proof.Machine
end

section
/-! SUPPORT. Writing the unit directory keeps the exceptions it holds of units in use, and the repair batch's phase and count. -/

namespace Sys2Proof.Machine

/-- Unit `u` is in use, and its directory entry has the exception `x`. -/
def State.HoldsExc (s : State) (u : Nat) (x : ExcEntry) : Prop :=
  (s.unit u).st ≠ .free ∧ ∃ d, tabGet s.reb.dirs u = some d ∧ x ∈ d.exceptions

/-- A step that keeps every exception held, the batch's phase and the count of repairs. -/
def State.DirKept (s t : State) : Prop :=
  t.reb.batchPhase = s.reb.batchPhase ∧ t.reb.repaired = s.reb.repaired ∧ ∀ u x, s.HoldsExc u x → t.HoldsExc u x

theorem State.DirKept.refl (s : State) : s.DirKept s := ⟨rfl, rfl, fun _ _ h => h⟩

theorem State.DirKept.trans {s t u : State} (h : s.DirKept t) (h2 : t.DirKept u) : s.DirKept u := by
  obtain ⟨hp, hr, hx⟩ := h
  obtain ⟨hp2, hr2, hx2⟩ := h2
  exact ⟨hp2.trans hp, hr2.trans hr, fun u x hh => hx2 u x (hx u x hh)⟩

theorem State.DirKept.foldl {α : Type} {f : State → α → State} (hf : ∀ (s : State) a, s.DirKept (f s a)) (l : List α) (s : State) : s.DirKept (l.foldl f s) := by
  induction l generalizing s with
  | nil => exact .refl s
  | cons a l ih => exact (hf s a).trans (ih _)

/-- Neither the units nor the rebuild's registers change. -/
theorem State.DirKept.of_same {s t : State} (hu : t.log.units = s.log.units) (hr : t.reb = s.reb) : s.DirKept t := by
  refine ⟨congrArg RebSt.batchPhase hr, congrArg RebSt.repaired hr, fun u x hh => ?_⟩
  rw [State.HoldsExc, State.unit, hu, hr]
  exact hh

theorem State.DirKept.of_mask {s t : State} (h : t.mask (but [.log, .reb]) = s.mask (but [.log, .reb])) : s.DirKept t :=
  .of_same (congrArg LogSt.units (State.mask_log h rfl)) (State.mask_reb h rfl)

theorem State.RowsOnly.dirKept {s t : State} (h : s.RowsOnly t) : s.DirKept t := by
  obtain ⟨⟨r, w, hlog⟩, hm⟩ := h
  exact .of_same (by rw [hlog]) (State.mask_reb hm rfl)

theorem State.unit_onUnit_cases (s : State) (u v : Nat) (g : UnitRec → UnitRec) : (s.onUnit u g).unit v = if u = v then g (s.unit v) else s.unit v := by
  show tabGetD (tabUpd UnitRec.blank s.log.units u g) v UnitRec.blank = _
  unfold tabUpd
  split
  · next h => rw [h, tabGetD, tabGet_tabPut_same]; rfl
  · next h => rw [tabGetD, tabGet_tabPut_other _ _ (Ne.symm h)]; rfl

/-- A unit in use stays in use. -/
theorem State.onUnit_dirKept (s : State) (u : Nat) {g : UnitRec → UnitRec} (hg : (s.unit u).st ≠ .free → (g (s.unit u)).st ≠ .free) : s.DirKept (s.onUnit u g) := by
  refine ⟨rfl, rfl, fun v x hh => ?_⟩
  obtain ⟨hst, hd⟩ := hh
  refine ⟨?_, hd⟩
  rw [State.unit_onUnit_cases]
  split
  · next h => subst h; exact hg hst
  · exact hst

theorem State.onLog_dirKept (s : State) {g : LogSt → LogSt} (hg : ∀ l, (g l).units = l.units) : s.DirKept (s.onLog g) := .of_same (hg s.log) rfl

theorem State.onStream_dirKept (s : State) (k : Nat) (g : Stream → Stream) : s.DirKept (s.onStream k g) := .of_same rfl rfl

/-- A change of one unit's directory entry that only adds exceptions. -/
theorem State.dirs_dirKept (s : State) (u : Nat) {g : UnitDir → UnitDir} (hg : ∀ d x, x ∈ d.exceptions → x ∈ (g d).exceptions) :
    s.DirKept (s.onReb fun r => { r with dirs := tabMod r.dirs u g }) := by
  refine ⟨rfl, rfl, fun v x hh => ?_⟩
  obtain ⟨hst, d, hd, hx⟩ := hh
  refine ⟨hst, ?_⟩
  show ∃ d, tabGet (tabMod s.reb.dirs u g) v = some d ∧ _
  rw [tabGet_tabMod, hd]
  split
  · exact ⟨_, rfl, hg d x hx⟩
  · exact ⟨_, rfl, hx⟩

theorem mem_addExc {l : List ExcEntry} {e x : ExcEntry} (h : x ∈ l) :
    x ∈ (l.filter fun y => decide (y.index ≤ e.index)) ++ [e] ++ l.filter fun y => decide (e.index < y.index) := by
  by_cases hx : x.index ≤ e.index
  · simp [h, hx]
  · simp [h, Nat.lt_of_not_le hx]

theorem State.addExc_dirKept (s : State) (u : Nat) (e : ExcEntry) : s.DirKept (s.addExc u e) :=
  s.dirs_dirKept u fun _ _ h => mem_addExc h

/-! ### Units opened and closed -/

theorem bestBy_mem {f : Nat → Nat} {l : List Nat} {u : Nat} (h : bestBy f l = some u) : u ∈ l := by
  have hne : l ≠ [] := by rintro rfl; cases h
  obtain ⟨v, hv, hm, -⟩ := bestBy_isSome (f := f) hne
  cases h.symm.trans hv
  exact hm

theorem State.pickUnit_free {s : State} {k u : Nat} (h : s.pickUnit k = some u) : (s.unit u).st = .free := by
  have hfree : u ∈ (List.range s.unitTotal).filter (fun u => (s.unit u).st == .free) → (s.unit u).st = .free := fun hu => by
    simpa using (List.mem_filter.1 hu).2
  unfold State.pickUnit at h
  extract_lets kind free m at h
  split at h
  · cases h
  · split at h
    · exact hfree (bestBy_mem h)
    · exact hfree (List.mem_of_mem_filter (bestBy_mem h))

/-- A free unit is opened. -/
theorem State.openUnit_dirKept {s : State} {u : Nat} (hu : (s.unit u).st = .free) (k start : Nat) : s.DirKept (s.openUnit k u start) := by
  unfold State.openUnit
  extract_lets h blank s1 s2 s3
  have h1 : s.DirKept s1 := s.onUnit_dirKept u fun hne => absurd hu hne
  have h2 : s1.DirKept s2 := .of_same rfl rfl
  have h3 : s.DirKept s3 := by
    obtain ⟨hp, hr, hx⟩ := h1.trans h2
    refine ⟨hp, hr, fun v x hh => ?_⟩
    obtain ⟨hst, d, hd, hm⟩ := hh
    have hne : v ≠ u := fun he => hst (he ▸ hu)
    refine ⟨(hx v x ⟨hst, d, hd, hm⟩).1, d, ?_, hm⟩
    exact (tabGet_tabPut_other _ _ hne).trans hd
  exact h3.trans (s3.onStream_dirKept k _)

theorem State.needUnit_dirKept (s : State) (k : Nat) : s.DirKept (s.needUnit k).2 := by
  unfold State.needUnit
  split
  · exact .refl s
  · split
    · next u hu => exact s.openUnit_dirKept (State.pickUnit_free hu) k _
    · exact .refl s

theorem State.padRow_dirKept (u b fuel : Nat) (s : State) : s.DirKept (s.padRow u b fuel) := by
  induction fuel generalizing s with
  | zero => exact .refl s
  | succ fuel ih =>
    unfold State.padRow
    split
    · exact .refl s
    · next page _ =>
      split
      · exact .refl s
      · extract_lets pads
        split
        · exact .refl s
        · next t ht =>
          exact (((State.RowsOnly.issue ht).dirKept.trans (t.onUnit_dirKept u fun h => h)).trans (State.intoRow_rowsOnly _ _ _ _).dirKept).trans (ih _)

theorem State.closeUnit_dirKept (s : State) (k : Nat) : s.DirKept (s.closeUnit k) := by
  unfold State.closeUnit
  split
  · exact .refl s
  · next u _ =>
    obtain ⟨v, hv⟩ : ∃ v, v = (s.onUnit u fun x => { x with st := .closed }).onStream k fun x => { x with openUnit := none, index := 0 } := ⟨_, rfl⟩
    rw [← hv]
    have h1 : s.DirKept v := hv ▸ (s.onUnit_dirKept u (g := fun x => { x with st := .closed }) fun _ => by dsimp only; decide).trans (State.onStream_dirKept _ k _)
    exact h1.trans (.foldl (f := fun s (e : Nat × Nat) => s.padRow u e.1 16) (fun s e => State.padRow_dirKept u e.1 16 s) _ v)

/-! ### Stripes -/

theorem State.tryMember_dirKept (s : State) (id r : Nat) : s.DirKept (s.tryMember id r) := by
  unfold State.tryMember
  split
  · exact .refl s
  · split
    · exact .refl s
    · split
      · exact .refl s
      · extract_lets u row e frames
        split
        · exact .refl s
        · split
          · exact (s.tryXor_rowsOnly _ _ _).dirKept
          · split
            · split
              · exact .refl s
              · next t ht =>
                refine State.DirKept.trans ?_ (State.intoRow_rowsOnly _ _ _ _).dirKept
                exact (State.RowsOnly.issue ht).dirKept.trans (.of_same rfl rfl)
            · exact .of_mask (by simp [e])

theorem State.takeMembers_dirKept (s : State) (k u skip : Nat) (pages : List Loc) (secs : List BufSector) (padded : Bool) :
    s.DirKept (s.takeMembers k u skip pages secs padded) := by
  unfold State.takeMembers
  extract_lets idx id pat moved x s1 s2 s3 s4 s5 s6
  have h1 : s.DirKept s1 := by
    unfold s1
    split
    · exact .refl s
    · exact s.addExc_dirKept u _
  have h2 : s1.DirKept s2 := .foldl (f := fun s r => s.addExc u ⟨idx, 1, r, locBay (nth pages r 0), 0, 0⟩) (fun s _ => s.addExc_dirKept u _) _ _
  have h3 : s2.DirKept s3 := s2.onUnit_dirKept u fun h => h
  have h4 : s3.DirKept s4 := s3.dirs_dirKept u fun _ _ h => h
  have h5 : s4.DirKept s5 := s4.onStream_dirKept k _
  have h6 : s5.DirKept s6 := by
    refine State.DirKept.trans (t := s5.onLog fun l => { l with stripes := tabPut l.stripes id x }) (.of_same rfl rfl) ?_
    exact .of_mask (State.sjShip_mask rfl _ _)
  exact (((((h1.trans h2).trans h3).trans h4).trans h5).trans h6).trans (.foldl (fun s r => s.tryMember_dirKept id r) _ _)

theorem State.closeStripe_dirKept (s : State) (k : Nat) : s.DirKept (s.closeStripe k) := by
  have hspace (u : State) : u.DirKept u.checkSpace := .of_mask (by simp)
  unfold State.closeStripe
  split
  · exact .refl s
  · next o ho =>
    split
    · exact .refl s
    · extract_lets pads secs go n1 n2
      have hgetD (u : State) (v : Nat) : u.DirKept ((go u v).getD u) := by
        unfold go
        split
        · split
          · exact u.takeMembers_dirKept _ _ _ _ _ _
          · exact .refl u
        · exact .refl u
      have hn1 : s.DirKept n1.2 := s.needUnit_dirKept k
      clear_value go
      split
      · exact hspace s
      · split
        · exact .refl s
        · split
          · exact hn1.trans (hspace _)
          · split
            · exact hn1.trans (hgetD _ _)
            · have hn2 : s.DirKept n2.2 := (hn1.trans (n1.2.closeUnit_dirKept k)).trans (State.needUnit_dirKept _ k)
              split
              · exact hn2.trans (hspace _)
              · exact hn2.trans (hgetD _ _)

theorem State.checkStrike_dirKept (s : State) : s.DirKept s.checkStrike := by
  unfold State.checkStrike
  extract_lets c
  split
  · exact .refl s
  · exact State.DirKept.trans (t := s.onLog fun l => { l with strikeArmed := decide (c = 0) }) (.of_same rfl rfl) (.of_mask (by simp))

theorem State.placeSectors_dirKept (s : State) (k : Nat) (secs : List BufSector) : s.DirKept (s.placeSectors k secs) := by
  unfold State.placeSectors
  extract_lets s1 s2 s3
  have h1 : s.DirKept s1 := by
    unfold s1
    split
    · exact s.closeStripe_dirKept k
    · exact .refl s
  have h2 : s1.DirKept s2 := s1.onStream_dirKept k _
  have h3 : s2.DirKept s3 := by
    unfold s3
    split
    · exact s2.closeStripe_dirKept k
    · exact .refl s2
  exact ((h1.trans h2).trans h3).trans s3.checkStrike_dirKept

theorem State.writeJournalPage_dirKept (s : State) : s.DirKept s.writeJournalPage := by
  unfold State.writeJournalPage
  extract_lets l
  clear_value l
  cases l with
  | nil => exact .refl s
  | cons f l =>
    dsimp only
    refine State.DirKept.trans ?_ (State.placeSectors_dirKept _ 61 _)
    exact s.onLog_dirKept fun _ => rfl

theorem State.flushTail_dirKept (n : Nat) (s : State) : s.DirKept (State.flushTail n s) := by
  induction n generalizing s with
  | zero => exact s.closeStripe_dirKept 61
  | succ n ih =>
    unfold State.flushTail
    split
    · exact s.writeJournalPage_dirKept.trans (ih _)
    · exact s.closeStripe_dirKept 61

theorem State.writeSys_dirKept (s : State) (l : List (Nat × Nat)) : s.DirKept (s.writeSys l) := by
  unfold State.writeSys
  refine .foldl (fun s e => ?_) l s
  extract_lets d s1 s2
  have h2 : s.DirKept s2 := by
    unfold s2
    split
    · exact .of_same rfl rfl
    · exact .of_same rfl rfl
  exact h2.trans (s2.placeSectors_dirKept _ _)

/-- Writing the changed pages of the directory keeps what the directory holds. -/
theorem State.pushDir_dirKept (s : State) : s.DirKept s.pushDir :=
  ((s.writeSys_dirKept _).trans (State.closeStripe_dirKept _ 60)).trans (State.flushTail_dirKept _ _)

end Sys2Proof.Machine
end

section
/-! SUPPORT. The work that follows an operation's end leaves the cursor of the rebuild and the roles of its batch as they are. -/

namespace Sys2Proof.Machine

/-- What says which role an entry of the repair batch is of. -/
def Repair.names (q : Repair) : Nat × Nat × Nat × Loc := (q.unit, q.index, q.role, q.oldLoc)

/-- The cursor of the rebuild, and the roles in its batch. -/
def State.work (s : State) : Nat × Nat × List (Nat × Nat × Nat × Loc) := (s.reb.unit, s.reb.index, s.reb.batch.map Repair.names)

theorem State.work_mask (s : State) : (s.mask butReb).work = s.work := rfl

@[simp] theorem State.ite_work (p : Prop) [Decidable p] (s t : State) : (if p then s else t).work = if p then s.work else t.work := by
  split <;> rfl

@[simp] theorem State.foldl_work {α : Type} {g : State → α → State} (h : ∀ s a, ((g s a).mask butReb).work = (s.mask butReb).work) (l : List α)
    (s : State) : ((l.foldl g s).mask butReb).work = (s.mask butReb).work := by
  induction l generalizing s with
  | nil => rfl
  | cons a t ih => rw [List.foldl_cons, ih, h]

theorem map_modNth_same {α β : Type} (p : α → β) {g : α → α} (hp : ∀ x, p (g x) = p x) (l : List α) (i : Nat) : (modNth l i g).map p = l.map p := by
  induction l generalizing i with
  | nil => rfl
  | cons a l ih =>
    cases i with
    | zero => exact congrArg (· :: l.map p) (hp a)
    | succ i => exact congrArg (p a :: ·) (ih i)

@[simp] theorem State.onReb_work (s : State) {g : RebSt → RebSt} (hu : ∀ r, (g r).unit = r.unit) (hi : ∀ r, (g r).index = r.index)
    (hb : ∀ r, (g r).batch.map Repair.names = r.batch.map Repair.names) : ((s.onReb g).mask butReb).work = (s.mask butReb).work :=
  congrArg₂ Prod.mk (hu s.reb) (congrArg₂ Prod.mk (hi s.reb) (hb s.reb))

@[simp] theorem State.takePayload_work (s : State) (slot : Nat) (l : List (Nat × Payload)) :
    ((s.onReb fun x => { x with batch := modNth x.batch slot fun q => { q with payloads := q.payloads ++ l } }).mask butReb).work = (s.mask butReb).work :=
  s.onReb_work (fun _ => rfl) (fun _ => rfl) fun r => map_modNth_same Repair.names (g := fun q : Repair => { q with payloads := q.payloads ++ l }) (fun _ => rfl) r.batch slot

@[simp] theorem State.enterReb_work (s : State) (r : RebuildState) : ((State.enterReb s r).mask butReb).work = (s.mask butReb).work := by simp [State.enterReb]

@[simp] theorem State.setReb_work (s : State) (r : RebuildState) : ((State.setReb s r).mask butReb).work = (s.mask butReb).work := by simp [State.setReb]

@[simp] theorem State.openUnit_work (s : State) (k u : Nat) (start : Nat) : ((State.openUnit s k u start).mask butReb).work = (s.mask butReb).work := by simp [State.openUnit]

@[simp] theorem State.addExc_work (s : State) (u : Nat) (e : ExcEntry) : ((State.addExc s u e).mask butReb).work = (s.mask butReb).work := by simp [State.addExc]

@[simp] theorem State.needUnit_work (s : State) (k : Nat) : ((State.needUnit s k).2.mask butReb).work = (s.mask butReb).work := by
  unfold State.needUnit
  (repeat' split) <;> simp

@[simp] theorem State.takeMembers_work (s : State) (k u skip : Nat) (pages : List Loc) (secs : List BufSector) (padded : Bool) : ((State.takeMembers s k u skip pages secs padded).mask butReb).work = (s.mask butReb).work := by simp [State.takeMembers]

@[simp] theorem State.closeStripe_work (s : State) (k : Nat) : ((State.closeStripe s k).mask butReb).work = (s.mask butReb).work := by
  unfold State.closeStripe
  repeat' (first | with_reducible rfl | split | (refine (State.foldl_work (fun _ _ => ?_) _ _).trans ?_) | simp)

@[simp] theorem State.placeSectors_work (s : State) (k : Nat) (secs : List BufSector) : ((State.placeSectors s k secs).mask butReb).work = (s.mask butReb).work := by simp [State.placeSectors]

@[simp] theorem State.writeJournalPage_work (s : State) : ((State.writeJournalPage s).mask butReb).work = (s.mask butReb).work := by
  unfold State.writeJournalPage
  repeat' (first | with_reducible rfl | split | (refine (State.foldl_work (fun _ _ => ?_) _ _).trans ?_) | simp)

@[simp] theorem State.fullPages_work (s : State) : ((State.fullPages s).mask butReb).work = (s.mask butReb).work := by simp [State.fullPages]

@[simp] theorem State.journal_work (s : State) (r : JRec) : ((State.journal s r).mask butReb).work = (s.mask butReb).work := by simp [State.journal]

@[simp] theorem State.queueRewrite_work (s : State) (b die block : Nat) : ((State.queueRewrite s b die block).mask butReb).work = (s.mask butReb).work := by
  unfold State.queueRewrite
  (repeat' split) <;> simp

@[simp] theorem State.countRead_work (s : State) (b die block : Nat) : ((State.countRead s b die block).mask butReb).work = (s.mask butReb).work := by
  unfold State.countRead
  split <;> simp

@[simp] theorem State.tryRead_work (s : State) (job : Nat) : ((State.tryRead s job).mask butReb).work = (s.mask butReb).work := by
  unfold State.tryRead
  repeat' (first | with_reducible rfl | (rename_i h; simp [State.issue_mask (P := butReb) rfl rfl h]) | split | (refine (State.foldl_work (fun _ _ => ?_) _ _).trans ?_) | simp)

@[simp] theorem State.startSurvivors_work (s : State) (job : Nat) (host : Bool) : ((State.startSurvivors s job host).mask butReb).work = (s.mask butReb).work := by
  unfold State.startSurvivors
  repeat' (first | with_reducible rfl | split | (refine (State.foldl_work (fun _ _ => ?_) _ _).trans ?_) | simp)

@[simp] theorem State.beginDieXor_work (s : State) (job : Nat) (r : CwRead) : ((State.beginDieXor s job r).mask butReb).work = (s.mask butReb).work := by
  unfold State.beginDieXor
  split <;> simp

@[simp] theorem State.beginCross_work (s : State) (job : Nat) (r : CwRead) : ((State.beginCross s job r).2.mask butReb).work = (s.mask butReb).work := by
  unfold State.beginCross
  repeat' (first | with_reducible rfl | split | (refine (State.foldl_work (fun _ _ => ?_) _ _).trans ?_) | simp)

@[simp] theorem State.poisonSector_work (s : State) (ns lba : Nat) (loc : Loc) : ((State.poisonSector s ns lba loc).mask butReb).work = (s.mask butReb).work := by
  unfold State.poisonSector
  (repeat' split) <;> simp

@[simp] theorem State.recordLost_work (s : State) (loc : Loc) : ((State.recordLost s loc).mask butReb).work = (s.mask butReb).work := by simp [State.recordLost]

@[simp] theorem State.placeReloc_work (s : State) (u : Nat) (loc : Loc) (p : Payload) : ((State.placeReloc s u loc p).mask butReb).work = (s.mask butReb).work := by simp [State.placeReloc]

@[simp] theorem State.patrolKeep_work (s : State) (role k : Nat) (loc : Loc) (p : Option Payload) : ((State.patrolKeep s role k loc p).mask butReb).work = (s.mask butReb).work := by simp [State.patrolKeep]

@[simp] theorem State.deliver_work (fuel : Nat) (s : State) (job : Nat) (res : Option Payload) : ((State.deliver fuel s job res).mask butReb).work = (s.mask butReb).work := by
  induction fuel generalizing s job res with
  | zero => rfl
  | succ n ih =>
    unfold State.deliver
    dsimp only
    repeat' (first | with_reducible rfl | (rename_i h; have hc := congrArg Prod.snd h; dsimp only at hc; clear h; subst hc; simp [ih]) | split | simp [ih])

@[simp] theorem State.reconstruct_work (s : State) (job : Nat) : ((State.reconstruct s job).mask butReb).work = (s.mask butReb).work := by
  unfold State.reconstruct
  dsimp only
  repeat' (first | with_reducible rfl | (rename_i h; have hc := congrArg Prod.snd h; dsimp only at hc; clear h; subst hc; simp) | split | simp)

end Sys2Proof.Machine
end

section
/-! SUPPORT. Map pages in the pool: what fills of cache lines leave of them, and what a map update writes into them. -/

namespace Sys2Proof.Machine

/-! ### Reading a page -/

theorem State.mpnOf_same {s t : State} (h : t.fn.committed = s.fn.committed) (ns lba : Nat) : t.mpnOf ns lba = s.mpnOf ns lba := by
  unfold State.mpnOf State.nsEntry
  rw [h]

/-- The map is read from the cache, the pool and the namespaces. -/
theorem State.mapNow_same {s t : State} (hmap : t.map = s.map) (htc : t.tc = s.tc) (hns : t.fn.committed = s.fn.committed) (ns lba : Nat) :
    t.mapNow ns lba = s.mapNow ns lba := by
  have hmpn : t.mpnOf ns lba = s.mpnOf ns lba := State.mpnOf_same hns ns lba
  have hgmd (m : Nat) : t.gmd m = s.gmd m := by unfold State.gmd; rw [hmap]
  have hslot (m : Nat) : t.slotOf m = s.slotOf m := by unfold State.slotOf; rw [hgmd, hmap]
  have hway (k w : Nat) : t.tcWayOf k w = s.tcWayOf k w := by unfold State.tcWayOf; rw [htc]
  have hhit (la : Nat) : t.tcHit la = s.tcHit la := by unfold State.tcHit; simp only [hway]
  unfold State.mapNow State.look
  simp only [hmpn, hgmd, hslot, hway, hhit]

theorem State.resident_of_slotOf {s : State} {mpn : Nat} {p : PoolSlot} (h : s.slotOf mpn = some p) :
    (s.gmd mpn).resident = true ∧ tabGet s.map.pool (s.gmd mpn).slot = some p := by
  unfold State.slotOf at h
  split at h
  · next hr => exact ⟨hr, h⟩
  · cases h

/-- Without its line in the cache, an entry is read from its page in the pool. -/
theorem State.mapNow_page {s : State} {ns lba : Nat} {p : PoolSlot} (hhit : s.tcHit (lineAddr (s.mpnOf ns lba) lba) = none)
    (hp : s.slotOf (s.mpnOf ns lba) = some p) : s.mapNow ns lba = some (tabGetD p.entries (lba % 816) eUnmapped) := by
  unfold State.mapNow State.look
  dsimp only
  rw [hhit]
  dsimp only
  rw [if_pos (State.resident_of_slotOf hp).1, hp]
  rfl

/-! ### Changing a page -/

/-- A change of one page's slot is seen in that page; one that keeps the entries keeps every page's entries. -/
theorem State.slotOf_onSlot {s : State} {mpn : Nat} {p : PoolSlot} (hp : s.slotOf mpn = some p) (g : PoolSlot → PoolSlot) :
    (s.onSlot mpn g).slotOf mpn = some (g p) := by
  obtain ⟨hr, hg⟩ := State.resident_of_slotOf hp
  have hs : s.onSlot mpn g = s.onMap fun m => { m with pool := tabMod m.pool (s.gmd mpn).slot g } := if_pos hr
  rw [hs]
  show (if (s.gmd mpn).resident then tabGet (tabMod s.map.pool (s.gmd mpn).slot g) (s.gmd mpn).slot else none) = _
  rw [if_pos hr, tabGet_tabMod, if_pos rfl, hg]
  rfl

theorem State.slotOf_onSlot_entries {s : State} {mpn : Nat} {p : PoolSlot} (hp : s.slotOf mpn = some p) (n : Nat) {g : PoolSlot → PoolSlot}
    (hg : ∀ p, (g p).entries = p.entries) : ∃ q, (s.onSlot n g).slotOf mpn = some q ∧ q.entries = p.entries := by
  obtain ⟨hr, hget⟩ := State.resident_of_slotOf hp
  unfold State.onSlot
  split
  · show ∃ q, (if (s.gmd mpn).resident then tabGet (tabMod s.map.pool (s.gmd n).slot g) (s.gmd mpn).slot else none) = some q ∧ _
    rw [if_pos hr, tabGet_tabMod, hget]
    split
    · exact ⟨_, rfl, hg p⟩
    · exact ⟨p, rfl, rfl⟩
  · exact ⟨p, hp, rfl⟩

theorem State.onGmd_slotOf {s : State} {mpn : Nat} {p : PoolSlot} (hp : s.slotOf mpn = some p) {g : GmdEntry → GmdEntry}
    (hr : ∀ x, (g x).resident = x.resident) (hs : ∀ x, (g x).slot = x.slot) : (s.onGmd mpn g).slotOf mpn = some p := by
  obtain ⟨hres, hget⟩ := State.resident_of_slotOf hp
  have hgmd : (s.onGmd mpn g).gmd mpn = g (s.gmd mpn) := by
    show tabGetD (tabPut s.map.gmd mpn _) mpn GmdEntry.blank = _
    rw [tabGetD, tabGet_tabPut_same]
    rfl
  unfold State.slotOf
  rw [hgmd, hr, hs, if_pos hres]
  exact hget

theorem State.tcHit_same {s t : State} (h : t.tc.lines = s.tc.lines) (la : Nat) : t.tcHit la = s.tcHit la := by
  unfold State.tcHit State.tcWayOf
  rw [h]

/-- A map update whose line is not in the cache goes to its page in the pool, and to no line. -/
theorem State.putEntry_page {s : State} {ns lba : Nat} {p : PoolSlot} (hhit : s.tcHit (lineAddr (s.mpnOf ns lba) lba) = none)
    (hp : s.slotOf (s.mpnOf ns lba) = some p) (e : MapEntry) :
    (s.putEntry ns lba e).tc.lines = s.tc.lines ∧
      (s.putEntry ns lba e).slotOf (s.mpnOf ns lba) = some { p with entries := setPageEntry p.entries (lba % 816) e } := by
  unfold State.putEntry
  extract_lets mpn la set i direct s1
  have h1 : s1.slotOf mpn = some p := State.onGmd_slotOf hp (fun _ => rfl) fun _ => rfl
  have hit1 : s1.tcHit la = none := hhit
  have h2 : (direct s1).slotOf mpn = some { p with entries := setPageEntry p.entries (lba % 816) e } := State.slotOf_onSlot h1 _
  have hlines : (direct s1).tc.lines = s.tc.lines := congrArg TcSt.lines (State.onSlot_tc s1 mpn _)
  rw [hit1]
  exact ⟨hlines, h2⟩

theorem State.countLoc_kept (s : State) (e : MapEntry) (up : Bool) (key : Option Nat) :
    (s.countLoc e up key).map = s.map ∧ (s.countLoc e up key).tc = s.tc ∧ (s.countLoc e up key).fn = s.fn :=
  ⟨State.mask_map (P := but [.map]) (by simp) rfl, State.mask_tc (P := but [.tc]) (by simp) rfl, State.mask_fn (P := but [.fn]) (by simp) rfl⟩

theorem State.slotOf_same {s t : State} (h : t.map.gmd = s.map.gmd) (hp : t.map.pool = s.map.pool) (mpn : Nat) : t.slotOf mpn = s.slotOf mpn := by
  unfold State.slotOf State.gmd
  rw [h, hp]

/-- An entry applied to a page in the pool, its line not in the cache. -/
theorem State.applyEntry_page {s : State} {ns lba : Nat} {p : PoolSlot} (hhit : s.tcHit (lineAddr (s.mpnOf ns lba) lba) = none)
    (hp : s.slotOf (s.mpnOf ns lba) = some p) (e : MapEntry) (key : Option Nat) :
    (s.applyEntry ns lba e key).tc.lines = s.tc.lines ∧ (s.applyEntry ns lba e key).fn = s.fn ∧
      (s.applyEntry ns lba e key).slotOf (s.mpnOf ns lba) = some { p with entries := setPageEntry p.entries (lba % 816) e } := by
  unfold State.applyEntry
  extract_lets old s1 s2
  obtain ⟨u, hu⟩ : ∃ u, u = s.countLoc old false (s.keyOfLoc old) := ⟨_, rfl⟩
  obtain ⟨hmap, htc, hfn⟩ := s.countLoc_kept old false (s.keyOfLoc old)
  rw [← hu] at hmap htc hfn
  have hmpn : u.mpnOf ns lba = s.mpnOf ns lba := State.mpnOf_same (by rw [hfn]) ns lba
  have hslot : u.slotOf (u.mpnOf ns lba) = some p := by rw [hmpn, ← hp]; exact State.slotOf_same (by rw [hmap]) (by rw [hmap]) _
  have hhitu : u.tcHit (lineAddr (u.mpnOf ns lba) lba) = none := by rw [hmpn]; exact (State.tcHit_same (by rw [htc]) _).trans hhit
  obtain ⟨hl, hs⟩ := State.putEntry_page hhitu hslot e
  have h1 : s1 = u.putEntry ns lba e := by rw [hu]
  obtain ⟨hmap2, htc2, hfn2⟩ := s1.countLoc_kept e true key
  have hfn1 : s1.fn = s.fn := by rw [h1, ← hfn]; exact State.mask_fn (P := but [.fn]) (by simp) rfl
  rw [hmpn, ← h1] at hs
  rw [← h1] at hl
  clear_value s1
  have hm2 : s2.slotOf (s.mpnOf ns lba) = some { p with entries := setPageEntry p.entries (lba % 816) e } := by
    rw [← hs]
    exact State.slotOf_same (by rw [show s2.map = s1.map from hmap2]) (by rw [show s2.map = s1.map from hmap2]) _
  refine ⟨?_, hfn2.trans hfn1, hm2⟩
  show s2.tc.lines = s.tc.lines
  rw [show s2.tc = s1.tc from htc2, hl, htc]

/-- A page stamped with a journal position names what it named. -/
theorem State.stampPage_now {s : State} {ns lba : Nat} {p : PoolSlot} (hhit : s.tcHit (lineAddr (s.mpnOf ns lba) lba) = none)
    (hp : s.slotOf (s.mpnOf ns lba) = some p) (jpos : Nat) : (s.stampPage (s.mpnOf ns lba) jpos).mapNow ns lba = some (tabGetD p.entries (lba % 816) eUnmapped) := by
  have hfn : (s.stampPage (s.mpnOf ns lba) jpos).fn = s.fn := State.mask_fn (P := but [.fn]) (by simp [State.stampPage]) rfl
  have hmpn := State.mpnOf_same (s := s) (t := s.stampPage (s.mpnOf ns lba) jpos) (by rw [hfn]) ns lba
  have hlines : (s.stampPage (s.mpnOf ns lba) jpos).tc.lines = s.tc.lines := congrArg TcSt.lines (State.onSlot_tc s _ _)
  refine State.mapNow_page (p := { p with jpos := jpos }) ?_ ?_
  · rw [hmpn]
    exact (State.tcHit_same hlines _).trans hhit
  · rw [hmpn]
    exact State.slotOf_onSlot hp _

end Sys2Proof.Machine
end

section
/-! PROOF. Rebuild, its repair batches, the sweep, rewrites and the Ratline patrol (O42). -/

namespace Sys2Proof.Machine

/-! ### The states of rebuild -/

/-- A change of the rebuild's state changes nothing else of its registers. -/
theorem State.setReb_reb (s : State) (r : RebuildState) : (s.setReb r).reb = { s.reb with st := r } := by
  have henter : (s.enterReb r).reb = { s.reb with st := r } := by
    unfold State.enterReb
    extract_lets old s1
    have hev (src kind d0 d1 : Nat) : (s1.event src kind d0 d1).reb = s1.reb := State.mask_reb (P := but [.reb]) (State.event_mask rfl rfl ..) rfl
    split
    · rfl
    · split
      · exact hev _ _ _ _
      · exact hev _ _ _ _
  unfold State.setReb
  split
  · next h => rw [← h]
  · exact henter

theorem State.setReb_kept (s : State) (r : RebuildState) : (s.setReb r).map = s.map ∧ (s.setReb r).log = s.log :=
  ⟨State.mask_map (P := but [.map]) (by simp) rfl, State.mask_log (P := but [.log]) (by simp) rfl⟩

section may
variable {s : State} (haw : s.awake = true) (hmay : s.rebuildMay = true)

include hmay

/-- Rebuild that works and is not held goes on as it is. -/
theorem State.resumeRebuild_same (hst : s.reb.st ≠ .held) (hidle : s.reb.st ≠ .idle) : s.resumeRebuild = s := by
  unfold State.resumeRebuild
  dsimp only
  rw [if_neg (by rw [hmay]; decide), if_pos hst, if_neg fun h => hidle h.1]

theorem State.pauseRebuild_same : s.pauseRebuild = s := if_pos (.inr hmay)

include haw

theorem exec_rebuildStep (hst : s.reb.st ≠ .held) (hidle : s.reb.st ≠ .idle) : exec .rebuildStep s = .next s.rebuildStep := by
  rw [show exec .rebuildStep s = execRebuildStep s from rfl, execRebuildStep]
  dsimp only
  rw [if_neg (by rw [haw]; decide), State.pauseRebuild_same hmay, State.resumeRebuild_same hmay hst hidle, if_pos hmay]

theorem exec_rebuildRetryTimer (hheld : s.reb.retryHeld = true) (hph : s.reb.batchPhase = 0) :
    exec .rebuildRetryTimer s = .next (s.onReb fun r => { r with retryHeld := false }).rebuildStep := by
  rw [show exec .rebuildRetryTimer s = execRebuildRetryTimer s from rfl, execRebuildRetryTimer]
  dsimp only
  rw [if_neg (by rw [haw, hheld, hmay]; simp)]
  exact congrArg Host.Outcome.next (if_neg fun h => h hph)

theorem exec_repairBatchAdvance : exec .repairBatchAdvance s = .next s.batchStep :=
  congrArg Host.Outcome.next (if_neg (by rw [haw, hmay]; simp))

end may

/-- JOURNAL ends in SINGLE in Spread, or with every loss in one bay, else in CRITICAL, at unit 0. -/
theorem State.leaveJournal_reb (s : State) : s.leaveJournal.reb = { s.reb with
    unit := 0, index := 0
    st := if s.pl.parity = 2 ∧ 1 < (s.reb.loss.map fun x => match x with | .bay b => b | .die b _ => b).eraseDups.length then .critical else .single } := by
  unfold State.leaveJournal
  extract_lets s1
  have hone : s.lossInOneBay = true ↔ ¬ 1 < (s.reb.loss.map fun x => match x with | .bay b => b | .die b _ => b).eraseDups.length :=
    decide_eq_true_iff.trans Nat.not_lt.symm
  by_cases hp : s.pl.parity = 2
  · rw [if_neg fun h => h hp]
    by_cases hb : s.lossInOneBay = true
    · rw [if_pos hb, State.setReb_reb, State.setReb_reb, if_neg fun h => hone.1 hb h.2]
      rfl
    · rw [if_neg hb, State.setReb_reb, if_pos ⟨hp, by_contra fun h => hb (hone.2 h)⟩]
      rfl
  · rw [if_pos hp, State.setReb_reb, if_neg fun h => hp h.1]
    rfl

theorem State.leaveJournal_log (s : State) : s.leaveJournal.log = s.log := State.mask_log (P := but [.log]) (by simp [State.leaveJournal]) rfl

theorem State.onReb_same {s : State} {g : RebSt → RebSt} (h : g s.reb = s.reb) : s.onReb g = s := by
  unfold State.onReb
  rw [h]

theorem RebSt.journalLost_filter {r : RebSt} (h : r.journalLost = []) (f : Nat → Bool) : { r with journalLost := r.journalLost.filter f } = r := by
  cases r
  cases h
  rfl

theorem State.journalStep_ends {s : State} (h : s.reb.journalLost = []) : s.journalStep = s.leaveJournal := by
  unfold State.journalStep
  extract_lets none_ s1 s2
  have h0 : none_ = [] := by unfold none_; rw [h]; rfl
  have h1 : s1 = s := by unfold s1; rw [h0]; rfl
  have h2 : s2 = s := by
    unfold s2
    rw [h1]
    exact State.onReb_same (RebSt.journalLost_filter h _)
  rw [h2, h]
  rfl

/-! ### Stripes -/

theorem State.rebuildStep_stripe {s : State} {u i : Nat} (hst : s.reb.st = .single) (hheld : s.reb.retryHeld = false) (hb : s.backLeft 6 ≠ 0)
    (hn : s.nextStripe = some (u, i)) : s.rebuildStep = s.rebuildStripe u i false := by
  unfold State.rebuildStep
  rw [hst]
  dsimp only
  rw [if_neg (fun h => nomatch h.1), if_neg (by rw [hheld]; simp [hb]), hn]
  rfl

theorem State.rebuildStripe_passes {s : State} {u i : Nat} (h : (s.goneRoles u i).filter (fun r => s.worthRepair u i r && !s.inBatch u i r) = []) (crit : Bool) :
    s.rebuildStripe u i crit = s.pastStripe u i := by
  unfold State.rebuildStripe
  dsimp only
  rw [h]
  exact if_pos (.inr (.inl rfl))

theorem State.rebuildStripe_repairs {s : State} {u i r : Nat} {l : Loc} {d : UnitDir} (hg : s.goneRoles u i = [r]) (hw : s.worthRepair u i r = true)
    (hin : s.inBatch u i r = false) (hd : tabGet s.reb.dirs u = some d) (hab : abandonedIn d i = false) (hp : 1 ≤ s.pl.parity)
    (ht : (s.repairTarget u i).isSome = true) (hroom : s.batchRoom 1 = true) (hl : s.roleLoc u i r = some l) :
    s.rebuildStripe u i false = ((s.addRepair u i r l []).chargeBack 6 16).pastStripe u i := by
  have htodo : [r].filter (fun r => s.worthRepair u i r && !s.inBatch u i r) = [r] := by simp [hw, hin]
  unfold State.rebuildStripe
  dsimp only
  rw [hg, htodo, hd]
  dsimp only
  rw [if_neg (by rw [hab]; simp), if_neg (by rw [Option.isNone_eq_false_iff.2 ht]; simp; omega), if_neg (by rw [show [r].length = 1 from rfl, hroom]; simp), List.foldl_cons,
    List.foldl_nil, hl]

theorem State.readCw_work (s : State) (loc : Loc) (user : RdFor) (host : Bool) : (s.readCw loc user host).work = s.work := by
  have hnew : (s.newJob loc user host).2.reb = s.reb := rfl
  rw [← State.work_mask (s.readCw loc user host)]
  unfold State.readCw
  dsimp only
  split
  · rw [State.reconstruct_work, State.work_mask, State.work, hnew]
    rfl
  · rw [State.tryRead_work, State.work_mask, State.work, hnew]
    rfl

theorem State.chargeBack_reb (s : State) (c n : Nat) : (s.chargeBack c n).reb = s.reb := State.mask_reb (P := but [.reb]) (by simp) rfl

/-- A role that goes to the batch. -/
theorem State.addRepair_names (s : State) (u i r : Nat) (l : Loc) :
    (s.addRepair u i r l []).reb.batch.map Repair.names = s.reb.batch.map Repair.names ++ [(u, i, r, pageSet l)] := by
  unfold State.addRepair
  extract_lets slot s1
  have h1 : s1.reb.batch.map Repair.names = s.reb.batch.map Repair.names ++ [(u, i, r, pageSet l)] := List.map_append
  have hw : ((List.range 16).foldl (fun s k => s.readCw (locAt l k) (.repair s.reb.batchNo slot k) false) s1).work = s1.work :=
    foldl_field State.work (fun s _ => s.readCw_work _ _ _) _ _
  rw [if_pos (show ([] : List (Nat × Payload)).isEmpty = true from rfl), ← h1]
  generalize (List.range 16).foldl (fun s k => s.readCw (locAt l k) (.repair s.reb.batchNo slot k) false) s1 = v at hw ⊢
  exact congrArg (fun x => x.2.2) hw

theorem State.rebuildStripe_batch {s t : State} {u i r : Nat} {l : Loc} (ht : t = ((s.addRepair u i r l []).chargeBack 6 16).pastStripe u i) :
    t.reb.unit = u ∧ t.reb.index = i + 1 ∧ ∃ q ∈ t.reb.batch, q.unit = u ∧ q.index = i ∧ q.role = r ∧ q.oldLoc = pageSet l := by
  have hmem : (u, i, r, pageSet l) ∈ ((s.addRepair u i r l []).chargeBack 6 16).reb.batch.map Repair.names := by
    rw [State.chargeBack_reb, State.addRepair_names]
    exact List.mem_append_right _ (List.mem_singleton.2 rfl)
  generalize (s.addRepair u i r l []).chargeBack 6 16 = v at ht hmem
  subst ht
  obtain ⟨q, hq, hn⟩ := List.mem_map.1 hmem
  simp only [Repair.names, Prod.mk.injEq] at hn
  exact ⟨rfl, rfl, q, hq, hn⟩

/-- Past the last stripe with an empty batch. -/
theorem State.rebuildStep_past {s : State} (hheld : s.reb.retryHeld = false) (hb : s.backLeft 6 ≠ 0) (hn : s.nextStripe = none) (hbatch : s.reb.batch = []) :
    (s.reb.st = .critical → s.rebuildStep = (s.onReb fun r => { r with unit := 0, index := 0 }).setReb .single) ∧
    (s.reb.st = .single → s.rebuildStep = (s.onReb fun r => { r with unit := 0, index := 0, sweepMpn := 0, sweepPending := false }).setReb .sweep) := by
  refine ⟨fun hst => ?_, fun hst => ?_⟩
  · unfold State.rebuildStep
    rw [hst]
    dsimp only
    by_cases hone : s.lossInOneBay = true
    · exact if_pos ⟨rfl, hone⟩
    · rw [if_neg fun h => hone h.2, if_neg (by rw [hheld]; simp [hb]), hn, hbatch]
      rfl
  · unfold State.rebuildStep
    rw [hst]
    dsimp only
    rw [if_neg (fun h => nomatch h.1), if_neg (by rw [hheld]; simp [hb]), hn, hbatch]
    rfl

/-! ### Journal and root copies -/

/-- A page of a journal copy goes to its ring: of the copies, only the next place changes. -/
theorem State.trySj_copies (s : State) : s.trySj.log.sjCopies.map (fun c => (c.bay, c.placed)) = s.log.sjCopies.map fun c => (c.bay, c.placed) := by
  unfold State.trySj
  refine foldl_field (fun t : State => t.log.sjCopies.map fun c => (c.bay, c.placed)) (fun u p => ?_) _ _
  refine foldl_field (fun t : State => t.log.sjCopies.map fun c => (c.bay, c.placed)) (fun v b => ?_) _ _
  split
  · rfl
  · split
    · rfl
    · dsimp only
      split
      · rfl
      · split
        · next t ht =>
          have hlog : t.log = v.log := State.mask_log (State.issueSys_mask (P := these [.sheet, .out]) rfl rfl ht) rfl
          show (t.log.sjCopies.map _).map _ = _
          rw [hlog, List.map_map]
          refine List.map_congr_left fun c _ => ?_
          dsimp only [Function.comp]
          split <;> rfl
        · rfl

theorem State.trySj_reb (s : State) : s.trySj.reb = s.reb := State.mask_reb (P := but [.reb]) (by simp) rfl

/-- A copy added to the journal's stays one of them as its pages are sent. -/
theorem State.trySj_places (s : State) {g : LogSt → LogSt} {c : SjCopy} (hg : (g s.log).sjCopies = s.log.sjCopies ++ [c]) :
    ∃ x ∈ (s.onLog g).trySj.log.sjCopies, x.bay = c.bay ∧ x.placed = c.placed := by
  have hmem : (c.bay, c.placed) ∈ (s.onLog g).trySj.log.sjCopies.map fun c => (c.bay, c.placed) := by
    rw [State.trySj_copies]
    show _ ∈ (g s.log).sjCopies.map _
    rw [hg]
    exact List.mem_map.2 ⟨c, List.mem_append_right _ (List.mem_singleton.2 rfl), rfl⟩
  obtain ⟨x, hx, hn⟩ := List.mem_map.1 hmem
  rw [Prod.mk.injEq] at hn
  exact ⟨x, hx, hn⟩

/-- The lost copy `e` that `b` takes is placed, and JOURNAL is over. -/
theorem exec_journalCopyPlaced {s : State} {b : Fin 48} {e : Nat} (haw : s.awake = true) (hmay : s.rebuildMay = true) (hst : s.reb.st = .journal)
    (hlost : s.reb.journalLost = [e]) (hb : s.jaltFor e = some b.val) :
    ∃ u : State, exec (.journalCopyPlaced b) s = .next u.leaveJournal ∧ u.reb.journalLost = [] ∧
      (e < 64 → ∃ c ∈ u.log.sjCopies, c.bay = b ∧ c.placed = true) ∧
      (64 ≤ e → u.log.rootMoved = s.pl.root.foldl (fun t r => if tabGetD t r r = e - 64 then tabPut t r b.val else t) s.log.rootMoved) := by
  have hres : s.resumeRebuild = s := State.resumeRebuild_same hmay (by rw [hst]; decide) (by rw [hst]; decide)
  have hfind : s.reb.journalLost.find? (fun e => s.jaltFor e == some b.val) = some e := by rw [hlost]; simp [hb]
  rw [show exec (.journalCopyPlaced b) s = execJournalCopyPlaced b s from rfl, execJournalCopyPlaced]
  dsimp only
  rw [hres, if_neg (by rw [haw, hst]; simp), hfind]
  dsimp only
  obtain ⟨s1, h1⟩ : ∃ s1, s1 = s.onReb fun r => { r with journalLost := r.journalLost.erase e } := ⟨_, rfl⟩
  have hl1 : s1.reb.journalLost = [] := by
    rw [h1]
    show s.reb.journalLost.erase e = []
    rw [hlost]
    simp
  rw [← h1]
  by_cases he : 64 ≤ e
  · rw [if_pos he]
    have hlog : s1.log = s.log ∧ s1.pl = s.pl := by rw [h1]; exact ⟨rfl, rfl⟩
    refine ⟨_, congrArg Host.Outcome.next (if_pos ?_), ?_, fun h => absurd h (by omega), fun _ => ?_⟩
    · exact List.isEmpty_iff.2 hl1
    · exact hl1
    · rw [← hlog.1, ← hlog.2]
      rfl
  · rw [if_neg he]
    refine ⟨_, congrArg Host.Outcome.next (if_pos ?_), ?_, fun _ => ?_, fun h => absurd h he⟩
    · rw [State.trySj_reb]
      exact List.isEmpty_iff.2 hl1
    · rw [State.trySj_reb]
      exact hl1
    · exact s1.trySj_places (c := ⟨b.val, 0, 0, true, []⟩) rfl

/-- A root copy's bay is named for each member of the root that it served. -/
theorem tabGetD_rootMoved (l : List Nat) (from_ to_ : Nat) (t : Tab Nat) {r : Nat} (hr : r ∈ l ∨ tabGetD t r r = to_) (h : tabGetD t r r = from_ ∨ tabGetD t r r = to_) :
    tabGetD (l.foldl (fun t r => if tabGetD t r r = from_ then tabPut t r to_ else t) t) r r = to_ := by
  induction l generalizing t with
  | nil => exact hr.resolve_left nofun
  | cons a l ih =>
    rw [List.foldl_cons]
    have hput : tabGetD (if tabGetD t a a = from_ then tabPut t a to_ else t) r r = if a = r ∧ tabGetD t r r = from_ then to_ else tabGetD t r r := by
      by_cases ha : a = r
      · subst ha
        by_cases hf : tabGetD t a a = from_
        · rw [if_pos hf, if_pos ⟨rfl, hf⟩, tabGetD, tabGet_tabPut_same]
          rfl
        · rw [if_neg hf, if_neg fun h => hf h.2]
      · have hno : ¬ (a = r ∧ tabGetD t r r = from_) := fun h => ha h.1
        rw [if_neg hno]
        split
        · rw [tabGetD, tabGet_tabPut_other _ _ (Ne.symm ha)]
          rfl
        · rfl
    by_cases hto : (if a = r ∧ tabGetD t r r = from_ then to_ else tabGetD t r r) = to_
    · exact ih _ (.inr (hput.trans hto)) (.inr (hput.trans hto))
    · have hne : ¬ (a = r ∧ tabGetD t r r = from_) := fun hc => hto (if_pos hc)
      have hsame := hput.trans (if_neg hne)
      have hto' : tabGetD t r r ≠ to_ := fun hc => hto ((if_neg hne).trans hc)
      have hfrom := h.resolve_right hto'
      refine ih _ (.inl ?_) (.inl (hsame.trans hfrom))
      exact (List.mem_cons.1 (hr.resolve_right hto')).resolve_left fun hc => hne ⟨hc.symm, hfrom⟩

/-! ### Repair batches -/

/-- A repair in a batch of one that is programmed: its exception, and the batch's next phase. -/
theorem State.batchStep_programmed {s : State} {q : Repair} {d : UnitDir} (hbatch : s.reb.batch = [q]) (hheld : s.sheet.programsHeld = false) (hdur : s.dirDurable = true)
    (hph : s.reb.batchPhase = 1) (hres : q.reserved = true) (hprog : q.programmed = true) (hu : q.unit ≠ 0xFFFFFFFF)
    (hd : tabGet s.reb.dirs q.unit = some d) (hst : (s.unit q.unit).st ≠ .free) :
    s.batchStep.reb.batchPhase = 2 ∧ s.batchStep.reb.repaired = s.reb.repaired + 1
      ∧ ∃ d', tabGet s.batchStep.reb.dirs q.unit = some d' ∧ ⟨q.index, 4, q.role, q.bay, 0, q.newLoc.toNat⟩ ∈ d'.exceptions := by
  have hslot : s.programSlot 0 = s := by
    unfold State.programSlot
    rw [hbatch]
    exact if_pos (.inr (.inl hprog))
  have hfold : (List.range [q].length).foldl (fun s k => s.programSlot k) s = s := by
    rw [show List.range [q].length = [0] from rfl]
    exact hslot
  obtain ⟨t, ht⟩ : ∃ t, t = (s.addStrip q).onReb fun r => { r with batchPhase := 2 } := ⟨_, rfl⟩
  have hstep : s.batchStep = t.pushDir := by
    unfold State.batchStep
    dsimp only
    rw [hbatch, if_neg (by rw [hheld]; simp), if_neg (by rw [hph]; decide), if_pos hph, if_neg (by simp [hres]), if_neg (by rw [hdur]; decide)]
    rw [hfold, hbatch, if_pos (by simp [hprog]), List.foldl_cons, List.foldl_nil, ht]
  have hadd : t.reb.batchPhase = 2 ∧ t.reb.repaired = s.reb.repaired + 1 ∧ t.HoldsExc q.unit ⟨q.index, 4, q.role, q.bay, 0, q.newLoc.toNat⟩ := by
    rw [ht, State.addStrip, if_neg hu]
    refine ⟨rfl, rfl, hst, ?_⟩
    show ∃ d, tabGet (tabMod (tabMod s.reb.dirs q.unit _) q.unit _) q.unit = some d ∧ _
    rw [tabGet_tabMod, if_pos rfl, tabGet_tabMod, if_pos rfl, hd]
    exact ⟨_, rfl, by simp⟩
  obtain ⟨hp, hr, hx⟩ := t.pushDir_dirKept
  obtain ⟨hp1, hr1, hx1⟩ := hadd
  rw [hstep]
  exact ⟨hp.trans hp1, hr.trans hr1, (hx _ _ hx1).2⟩

/-- A batch of one parity strip that is repointed: there is nothing to repoint, and the batch is empty. -/
theorem State.batchStep_repointed {s : State} {q : Repair} (hbatch : s.reb.batch = [q]) (hheld : s.sheet.programsHeld = false) (hdur : s.dirDurable = true)
    (hph : s.reb.batchPhase = 2) (hrole : s.pl.data ≤ q.role) (hroom : s.map.applied + 16 ≤ updateLimit) :
    s.batchStep.reb = { s.reb with batch := [], batchPhase := 0, batchNo := s.reb.batchNo + 1 } := by
  have hneed : ([q].flatMap fun q => if q.role < s.pl.data then (q.payloads.filter fun e => mdKind e.2 == 0).map fun e => (mdNs e.2, mdLba e.2) else []) = [] := by
    simp [Nat.not_lt.2 hrole]
  have hready : s.readyAll [] = (true, s) := rfl
  have hnow : [q].take ((updateLimit - s.map.applied) / 16) = [q] := List.take_of_length_le (by rw [List.length_singleton]; omega)
  have hpoint : s.repointStrip q = s := if_pos (.inr hrole)
  unfold State.batchStep
  dsimp only
  rw [hbatch, if_neg (by rw [hheld]; simp), if_neg (by rw [hph]; decide), if_neg (by rw [hph]; decide), if_neg (by rw [hdur]; decide), hneed, hready]
  dsimp only
  rw [if_neg (by decide), hbatch, hnow, List.foldl_cons, List.foldl_nil, hpoint]
  rw [if_pos (by show (List.drop _ s.reb.batch).isEmpty = true; rw [hbatch]; rfl)]
  rfl

/-! ### The sweep -/

/-- No line of the cache is valid. -/
def State.NoLines (s : State) : Prop := ∀ e ∈ s.tc.lines, e.2.v = false

/-- No line of the cache is valid, and map page `mpn` is in the pool with these entries. -/
def State.HasPage (s : State) (mpn : Nat) (ents : Tab MapEntry) : Prop := s.NoLines ∧ ∃ p, s.slotOf mpn = some p ∧ p.entries = ents

theorem State.NoLines.way {s : State} (h : s.NoLines) (k w : Nat) : (s.tcWayOf k w).v = false := by
  unfold State.tcWayOf tabGetD
  cases hg : tabGet s.tc.lines (tcKey k w) with
  | none => rfl
  | some l => exact h _ (mem_of_tabGet hg)

theorem State.NoLines.hit {s : State} (h : s.NoLines) (la : Nat) : s.tcHit la = none := by
  refine List.find?_eq_none.2 fun w _ => ?_
  dsimp only
  rw [h.way, Bool.false_and, Bool.false_and, Bool.false_and]
  decide

theorem State.NoLines.putLine {s : State} (h : s.NoLines) (k w : Nat) {l : TcLine} (hl : l.v = false) : (s.putLine k w l).NoLines := by
  intro e he
  replace he : e ∈ tabPutD TcLine.blank s.tc.lines (tcKey k w) l.sealed := he
  unfold tabPutD at he
  split at he
  · exact h e ((tabDel_sublist _ _).subset he)
  · rcases mem_tabPut he with rfl | hm
    · exact hl
    · exact h e hm

/-- Without a valid line, a way can be taken as it is. -/
theorem State.NoLines.victim {s : State} (h : s.NoLines) (k : Nat) (ok : Nat → Bool) : s.victim k ok = none ∨ ∃ w, s.victim k ok = some (w, s) := by
  unfold State.victim
  extract_lets elig top
  cases he : elig with
  | nil => exact .inl rfl
  | cons w l =>
    have hf : (w :: l).find? (fun w => !(s.tcWayOf k w).v) = some w := List.find?_cons_of_pos (by simp [h.way])
    rw [hf]
    exact .inr ⟨w, rfl⟩

theorem State.HasPage.pin {s : State} {mpn : Nat} {ents : Tab MapEntry} (h : s.HasPage mpn ents) (n : Nat) (up : Bool) : (s.pin n up).HasPage mpn ents := by
  obtain ⟨hl, p, hp, he⟩ := h
  obtain ⟨q, hq, hqe⟩ := State.slotOf_onSlot_entries hp n (g := fun p => { p with pins := if up then p.pins + 1 else p.pins - 1 }) fun _ => rfl
  refine ⟨fun x hx => hl x ?_, q, hq, hqe.trans he⟩
  rw [State.pin_tc] at hx
  exact hx

theorem State.HasPage.putLine {s : State} {mpn : Nat} {ents : Tab MapEntry} (h : s.HasPage mpn ents) (k w : Nat) {l : TcLine} (hl : l.v = false) :
    (s.putLine k w l).HasPage mpn ents := ⟨h.1.putLine k w hl, h.2⟩

theorem State.HasPage.dropLine {s : State} {mpn : Nat} {ents : Tab MapEntry} (h : s.HasPage mpn ents) (k w : Nat) : (s.dropLine k w).HasPage mpn ents := by
  have hback : s.writeBack k w = s := by
    unfold State.writeBack
    dsimp only
    rw [h.1.way]
    exact if_neg (by simp)
  unfold State.dropLine
  dsimp only
  rw [hback, h.1.way, if_neg (by simp)]
  exact h.putLine k w rfl

/-- A fill started for the sweep leaves the page in the pool as it is. -/
theorem State.HasPage.startFill {s : State} {mpn : Nat} {ents : Tab MapEntry} (h : s.HasPage mpn ents) (la ns : Nat) : (s.startFill la ns true false none).HasPage mpn ents := by
  unfold State.startFill
  extract_lets add set okWay pick n
  have hpick : pick = none ∨ ∃ w, pick = some (w, s) := by
    unfold pick
    rcases h.1.victim set okWay with hv | ⟨w, hv⟩
    · rw [hv]; exact .inl rfl
    · rw [hv]; exact .inr ⟨w, rfl⟩
  clear_value pick
  split
  · exact h
  · split
    · exact h
    · rcases hpick with rfl | ⟨w, rfl⟩
      · exact h.pin n true
      · exact ((h.dropLine set w).putLine set w rfl).pin n true

theorem State.HasPage.streamPage {s : State} {mpn : Nat} {ents : Tab MapEntry} (h : s.HasPage mpn ents) (n : Nat) : (s.streamPage n).HasPage mpn ents := by
  unfold State.streamPage
  generalize List.range 68 = l
  induction l generalizing s with
  | nil => exact h
  | cons i l ih =>
    rw [List.foldl_cons]
    refine ih ?_
    dsimp only
    split
    · exact h.startFill _ _
    · exact h

theorem State.NoLines.writeBackPage {s : State} (h : s.NoLines) (mpn : Nat) : s.writeBackPage mpn = s :=
  List.foldl_fixed' (fun i => by rw [h.hit]) _

/-- A sector that its map page still names, its place lost for good, is poisoned. -/
theorem State.sweepEntry_poisons {s : State} {ns lba : Nat} {e : MapEntry} (hh : s.holder = true) (hpage : s.HasPage (s.mpnOf ns lba) [(lba % 816, e)])
    (hloc : isLoc e = true) (hcw : s.reb.lostCw.contains e = true) (hstrip : s.stripeOf e = none) :
    (s.sweepEntry ns lba e).mapNow ns lba = some ePoisoned := by
  obtain ⟨hnl, p, hp, he⟩ := hpage
  have hnow : s.mapNow ns lba = some e := by
    rw [State.mapNow_page (hnl.hit _) hp, he, tabGetD]
    simp [tabGet]
  have hsweep : s.sweepEntry ns lba e = s.poisonSector ns lba e := by
    unfold State.sweepEntry
    dsimp only
    rw [if_neg (by rw [hloc]; decide), if_neg (by rw [hcw]; simp), hstrip]
    rfl
  rw [hsweep]
  unfold State.poisonSector
  rw [if_neg (by rw [hh]; decide), hnow]
  dsimp only
  rw [if_neg (fun h => h rfl)]
  obtain ⟨hlines, hfn, hslot⟩ := State.applyEntry_page (hnl.hit _) hp ePoisoned none
  generalize s.applyEntry ns lba ePoisoned none = u at hlines hfn hslot
  obtain ⟨v, hv⟩ : ∃ v, v = (u.journal ⟨5, 0, ns, 0, lba, 0, (s.codeword e).elim 0 mdWseq⟩).settleEmptied s.log.jposNext := ⟨_, rfl⟩
  rw [← hv]
  have hmap : v.map = u.map := by rw [hv]; exact State.mask_map (P := but [.map]) (by simp) rfl
  have htc : v.tc = u.tc := by rw [hv]; exact State.mask_tc (P := but [.tc]) (by simp) rfl
  obtain ⟨-, -, -, -, hcom⟩ := State.fn_of_core (s := u) (t := v) (by rw [hv]; simp)
  have hmpn : v.mpnOf ns lba = s.mpnOf ns lba := State.mpnOf_same (hcom.trans (by rw [hfn])) ns lba
  have hvs : v.slotOf (v.mpnOf ns lba) = some { p with entries := setPageEntry p.entries (lba % 816) ePoisoned } := by
    rw [hmpn, ← hslot]
    exact State.slotOf_same (by rw [hmap]) (by rw [hmap]) _
  have hhit : v.tcHit (lineAddr (v.mpnOf ns lba) lba) = none := (State.tcHit_same (by rw [htc, hlines]) _).trans (hnl.hit _)
  have hst := State.stampPage_now hhit hvs s.log.jposNext
  rw [hmpn] at hst
  refine (State.mapNow_same (t := State.onReb _ _) rfl rfl rfl ns lba).trans (hst.trans ?_)
  rw [he, setPageEntry]
  simp [tabPutD, tabPut, tabGetD, tabGet, show ePoisoned ≠ eUnmapped from by decide]

/-- The sweep of a page in the pool with one entry, whose sector is lost for good. -/
theorem exec_sweepStep_poisons {s : State} {mpn lba ns : Nat} {g : GmdEntry} {p : PoolSlot} {e : MapEntry} (haw : s.awake = true) (hmay : s.rebuildMay = true)
    (hst : s.reb.st = .sweep)
    (hfind : s.map.gmd.find? (fun e => decide (s.reb.sweepMpn ≤ e.1) && !s.sysPage e.1 && (e.2.resident || !e.2.empty)) = some (mpn, g))
    (hwf : tabWf s.map.gmd = true) (hp : s.slotOf mpn = some p) (hents : p.entries = [(lba % 816, e)]) (hown : s.ownerOf mpn (lba % 816) = some (ns, lba))
    (hmpn : s.mpnOf ns lba = mpn) (hlines : s.tc.lines = []) (hroom : s.map.applied + 816 ≤ updateLimit) (hloc : isLoc e = true)
    (hcw : s.reb.lostCw.contains e = true) (hstrip : s.stripeOf e = none) :
    Completes .sweepStep s fun t => t.mapNow ns lba = some ePoisoned ∧ t.reb.sweepMpn = mpn + 1 := by
  have hres : s.resumeRebuild = s := State.resumeRebuild_same hmay (by rw [hst]; decide) (by rw [hst]; decide)
  have hnl : s.NoLines := fun x hx => by rw [hlines] at hx; cases hx
  have hg : g.resident = true := by
    have h1 := (State.resident_of_slotOf hp).1
    rw [State.gmd, tabGetD, tabGet_of_mem hwf (List.mem_of_find?_eq_some hfind)] at h1
    exact h1
  obtain ⟨u, hu⟩ : ∃ u, u = (s.writeBackPage mpn).streamPage mpn := ⟨_, rfl⟩
  rw [hnl.writeBackPage] at hu
  have hpage : u.HasPage mpn [(lba % 816, e)] := by
    rw [hu]
    exact State.HasPage.streamPage ⟨hnl, p, hp, hents⟩ mpn
  obtain ⟨-, q, hq, hqe⟩ := id hpage
  have hmask : u.mask (these [.map, .tc]) = s.mask (these [.map, .tc]) := by rw [hu]; simp
  have hfn : u.fn = s.fn := State.mask_fn hmask rfl
  have hpair : u.pair = s.pair := State.mask_pair hmask rfl
  have hmpnu : u.mpnOf ns lba = mpn := (State.mpnOf_same (by rw [hfn]) ns lba).trans hmpn
  have hreb : u.reb = s.reb := State.mask_reb hmask rfl
  have hholder : u.holder = true := by
    rw [State.rebuildMay, Bool.and_eq_true] at hmay
    rw [State.holder, State.active, hpair]
    exact hmay.1
  have hownu : u.ownerOf mpn (lba % 816) = some (ns, lba) := by
    rw [← hown, State.ownerOf, State.ownerOf, hfn]
  have hstripu : u.stripeOf e = none := by
    have h1 : (u.mask (these [.map, .tc])).stripeOf e = u.stripeOf e := rfl
    have h2 : (s.mask (these [.map, .tc])).stripeOf e = s.stripeOf e := rfl
    rw [← h1, hmask, h2]
    exact hstrip
  have hpois := State.sweepEntry_poisons hholder (by rw [hmpnu]; exact hpage) hloc (by rw [hreb]; exact hcw) hstripu
  obtain ⟨v, hv⟩ : ∃ v, v = u.sweepEntry ns lba e := ⟨_, rfl⟩
  rw [← hv] at hpois
  have hexec : exec .sweepStep s = .next ((v.onMap fun m => { m with applied := m.applied + (v.log.jposNext - u.log.jposNext) }).onReb fun r => { r with sweepMpn := mpn + 1 }) := by
    rw [show exec .sweepStep s = execSweepStep s from rfl, execSweepStep]
    dsimp only
    rw [hres, if_neg (by rw [haw, hst, hmay]; simp), hfind]
    dsimp only
    rw [if_neg (by rw [hg]; decide), if_neg (Nat.not_lt.2 hroom), hnl.writeBackPage, ← hu, hq]
    dsimp only
    rw [hqe, List.foldl_cons, List.foldl_nil, hownu]
    dsimp only
    rw [← hv]
  refine ⟨_, hexec, ?_, rfl⟩
  have hnow (g : Nat → Nat) : ((v.onMap fun m => { m with applied := g m.applied }).onReb fun r => { r with sweepMpn := mpn + 1 }).mapNow ns lba = v.mapNow ns lba := rfl
  exact (hnow fun n => n + (v.log.jposNext - u.log.jposNext)).trans hpois

/-! ### Rewrites -/

theorem exec_rewriteIssue {s : State} {x : EraseBlock} {rest : List EraseBlock} (haw : s.awake = true) (hmay : s.rebuildMay = true) (hq : s.reb.rewrite = x :: rest)
    (hst : s.reb.st = .idle ∨ s.reb.st = .sweep) (hb : s.backLeft 6 ≠ 0) (hx : x.block < s.pl.sysblk ∨ s.blockPages x = []) :
    Completes .rewriteIssue s fun t => t.reb.rewrite = rest := by
  have hgo : ¬ (!s.awake ∨ !s.rebuildMay ∨ (s.reb.st ≠ .idle ∧ s.reb.st ≠ .sweep) ∨ s.backLeft 6 = 0) := by
    rw [haw, hmay]
    rcases hst with h | h <;> simp [h, hb]
  unfold Completes
  rw [show exec .rewriteIssue s = execRewriteIssue s from rfl, execRewriteIssue]
  dsimp only
  rw [hq]
  dsimp only
  rw [if_neg hgo]
  by_cases hsys : x.block < s.pl.sysblk
  · rw [if_pos hsys]
    have hring (u : State) (b : Nat) : (u.moveRing b).reb = u.reb := State.mask_reb (P := but [.reb]) (by simp) rfl
    split
    · exact ⟨_, rfl, by rw [hring]; rfl⟩
    · exact ⟨_, rfl, rfl⟩
  · rw [if_neg hsys, hx.resolve_left hsys]
    exact ⟨_, rfl, rfl⟩

/-! ### The Ratline patrol -/

/-- Job `j` reads the codeword at `loc` for `user`; jobs are numbered as they come. -/
def State.HasJob (s : State) (j : Nat) (loc : Loc) (user : RdFor) : Prop :=
  tabWf s.rd.jobs = true ∧ (∀ e ∈ s.rd.jobs, e.1 < s.rd.nextJob) ∧ ∃ x, tabGet s.rd.jobs j = some x ∧ x.loc = loc ∧ x.user = user

section job
variable {s : State} {j : Nat} {loc : Loc} {user : RdFor}

theorem State.HasJob.of_rd {t : State} (h : s.HasJob j loc user) (hr : t.rd = s.rd) : t.HasJob j loc user := by
  unfold State.HasJob
  rw [hr]
  exact h

theorem State.HasJob.lt (h : s.HasJob j loc user) : j < s.rd.nextJob := by
  obtain ⟨-, hn, x, hx, -⟩ := h
  exact hn _ (mem_of_tabGet hx)

/-- A change of a job's progress. -/
theorem State.HasJob.onJob (h : s.HasJob j loc user) (k : Nat) {g : CwRead → CwRead} (hl : ∀ r, (g r).loc = r.loc) (hu : ∀ r, (g r).user = r.user)
    {f : RdSt → RdSt} (hf : (f s.rd).jobs = tabMod s.rd.jobs k g) (hn : (f s.rd).nextJob = s.rd.nextJob) : (s.onRd f).HasJob j loc user := by
  obtain ⟨hwf, hlt, x, hx, hxl, hxu⟩ := h
  refine ⟨?_, fun e he => ?_, ?_⟩
  · show tabWf (f s.rd).jobs = true
    rw [hf]
    exact tabWf_tabMod hwf k g
  · show e.1 < (f s.rd).nextJob
    replace he : e ∈ (f s.rd).jobs := he
    rw [hf] at he
    rw [hn]
    unfold tabMod at he
    split at he
    · exact hlt e he
    · next v hv =>
      rcases mem_tabPut he with rfl | hm
      · exact hlt (k, v) (mem_of_tabGet hv)
      · exact hlt e hm
  · show ∃ x, tabGet (f s.rd).jobs j = some x ∧ _
    rw [hf, tabGet_tabMod, hx]
    split
    · exact ⟨_, rfl, (hl x).trans hxl, (hu x).trans hxu⟩
    · exact ⟨x, rfl, hxl, hxu⟩

theorem State.HasJob.newJob (h : s.HasJob j loc user) (loc' : Loc) (user' : RdFor) (host : Bool) : (s.newJob loc' user' host).2.HasJob j loc user := by
  have hlt := h.lt
  obtain ⟨hwf, hn, x, hx, hxl, hxu⟩ := h
  refine ⟨tabWf_tabPut hwf _ _, fun e he => ?_, x, ?_, hxl, hxu⟩
  · show e.1 < s.rd.nextJob + 1
    rcases mem_tabPut he with rfl | hm
    · exact Nat.lt_succ_self _
    · exact Nat.lt_succ_of_lt (hn e hm)
  · exact (tabGet_tabPut_other _ _ (Nat.ne_of_lt hlt)).trans hx

theorem State.HasJob.tryRead (h : s.HasJob j loc user) (k : Nat) : (s.tryRead k).HasJob j loc user := by
  unfold State.tryRead
  split
  · exact h
  · split
    · exact h
    · extract_lets b block offs slc op
      split
      · exact h
      · next t ht =>
        have h1 (die : Nat) : (t.countRead b die block).rd = s.rd :=
          (State.mask_rd (P := but [.rd]) (by simp) rfl).trans (State.mask_rd (State.issue_mask (P := but [.rd]) rfl rfl ht) rfl)
        exact (h.of_rd (h1 _)).onJob k (fun _ => by rfl) (fun _ => by rfl) rfl rfl

theorem State.HasJob.endJob (h : s.HasJob j loc user) {k : Nat} (hk : k ≠ j) : (s.endJob k).HasJob j loc user := by
  obtain ⟨hwf, hn, x, hx, hxl, hxu⟩ := h
  exact ⟨tabWf_tabDel hwf k, fun e he => hn e ((tabDel_sublist _ _).subset he), x, ((tabGet_tabDel hwf k j).trans (if_neg hk.symm)).trans hx, hxl, hxu⟩

theorem State.HasJob.startSurvivors (h : s.HasJob j loc user) (k : Nat) (host : Bool) : (s.startSurvivors k host).HasJob j loc user := by
  unfold State.startSurvivors
  split
  · exact h
  · next r hr =>
    clear hr
    generalize List.range r.survivors.length = l
    induction l generalizing s with
    | nil => exact h
    | cons i l ih =>
      rw [List.foldl_cons]
      refine ih ?_
      split
      · split
        · exact h
        · exact (h.newJob _ _ _).tryRead _
      · exact h

theorem State.HasJob.beginDieXor (h : s.HasJob j loc user) (k : Nat) (r : CwRead) : (s.beginDieXor k r).HasJob j loc user := by
  unfold State.beginDieXor
  split
  · exact h
  · dsimp only
    exact State.HasJob.startSurvivors (h.onJob k (fun _ => by rfl) (fun _ => by rfl) rfl rfl) _ _

theorem State.HasJob.beginCross (h : s.HasJob j loc user) (k : Nat) (r : CwRead) :
    (s.beginCross k r).2.HasJob j loc user ∧ ((s.beginCross k r).1 = false → (s.beginCross k r).2 = s) := by
  unfold State.beginCross
  split
  · exact ⟨h, fun _ => rfl⟩
  · dsimp only
    split
    · exact ⟨h, fun _ => rfl⟩
    · exact ⟨State.HasJob.startSurvivors (h.onJob k (fun _ => by rfl) (fun _ => by rfl) rfl rfl) _ _, nofun⟩

/-- A patrol read that fails ends its own job alone. -/
theorem State.HasJob.deliver_patrol (h : s.HasJob j loc user) {k : Nat} (hk : k ≠ j) {r : CwRead} (hr : tabGet s.rd.jobs k = some r) (hp : r.user.isPatrol = true) (n : Nat)
    (res : Option Payload) : (State.deliver (n + 1) s k res).HasJob j loc user := by
  have hend := h.endJob hk
  unfold State.deliver
  rw [hr]
  dsimp only
  cases hu : r.user with
  | patrol u i role c => exact hend.of_rd rfl
  | patrolRow u row pos c => exact hend.of_rd rfl
  | host o x => rw [hu] at hp; cases hp
  | mapPage m => rw [hu] at hp; cases hp
  | relocate u => rw [hu] at hp; cases hp
  | survivor a b => rw [hu] at hp; cases hp
  | repair a b c => rw [hu] at hp; cases hp
  | probe => rw [hu] at hp; cases hp

theorem State.HasJob.reconstruct_patrol (h : s.HasJob j loc user) {k : Nat} (hk : k ≠ j) {r : CwRead} (hr : tabGet s.rd.jobs k = some r) (hp : r.user.isPatrol = true) :
    (s.reconstruct k).HasJob j loc user := by
  have hprobe : r.user ≠ .probe := fun hc => by rw [hc] at hp; cases hp
  unfold State.reconstruct
  split
  · next hnone => exact nomatch hr.symm.trans hnone
  next r' hr' =>
  cases hr.symm.trans hr'
  rw [if_neg hprobe]
  extract_lets s1 own s2
  have hrd1 : s1.rd = s.rd := State.mask_rd (P := but [.rd]) (by simp [s1]) rfl
  have hrd2 : s2.rd = s.rd := by
    unfold s2
    split
    · exact hrd1
    · exact (State.mask_rd (P := but [.rd]) (by simp) rfl).trans hrd1
  have h2 := h.of_rd hrd2
  have hr2 : tabGet s2.rd.jobs k = some r := by rw [hrd2]; exact hr
  split
  · next hu => rw [hu] at hp; cases hp
  · split
    · exact h2.beginDieXor k r
    · obtain ⟨hc, hf⟩ := h2.beginCross k r
      split
      · next t ht => rw [ht] at hc; exact hc
      · next t ht =>
        rw [ht] at hf
        have hts : t = s2 := hf rfl
        rw [hts]
        exact h2.deliver_patrol hk hr2 hp _ _

/-- Reads of the patrol leave each other's jobs. -/
theorem State.HasJob.readCw (h : s.HasJob j loc user) (loc' : Loc) {user' : RdFor} (hp : user'.isPatrol = true) : (s.readCw loc' user' false).HasJob j loc user := by
  have hnew := h.newJob loc' user' false
  have hget : ∃ r, tabGet (s.newJob loc' user' false).2.rd.jobs (s.newJob loc' user' false).1 = some r ∧ r.user = user' := ⟨_, tabGet_tabPut_same _ _ _, rfl⟩
  have hne : (s.newJob loc' user' false).1 ≠ j := Nat.ne_of_gt h.lt
  obtain ⟨r, hr, hu⟩ := hget
  unfold State.readCw
  dsimp only
  split
  · exact hnew.reconstruct_patrol hne hr (by rw [hu]; exact hp)
  · exact hnew.tryRead _

/-- A read of a place that can be read has a job. -/
theorem State.readCw_hasJob (hwf : tabWf s.rd.jobs = true) (hn : ∀ e ∈ s.rd.jobs, e.1 < s.rd.nextJob) (hl : s.placeLost loc = false) (hb : s.readable (locBay loc) = true) :
    (s.readCw loc user false).HasJob s.rd.nextJob loc user := by
  have hnew : (s.newJob loc user false).2.HasJob s.rd.nextJob loc user := by
    refine ⟨tabWf_tabPut hwf _ _, fun e he => ?_, _, tabGet_tabPut_same _ _ _, rfl, rfl⟩
    show e.1 < s.rd.nextJob + 1
    rcases mem_tabPut he with rfl | hm
    · exact Nat.lt_succ_self _
    · exact Nat.lt_succ_of_lt (hn e hm)
  have hl' : (s.newJob loc user false).2.placeLost loc = false := hl
  have hb' : (s.newJob loc user false).2.readable (locBay loc) = true := hb
  unfold State.readCw
  dsimp only
  rw [if_neg (by rw [hl', hb']; decide)]
  exact hnew.tryRead _

theorem State.patrolTodo_isPatrol {x : RdFor × Loc} (h : x ∈ s.patrolTodo) : x.1.isPatrol = true := by
  unfold State.patrolTodo at h
  dsimp only at h
  split at h
  · split at h
    · obtain ⟨y, -, hy⟩ := List.mem_flatMap.1 h
      obtain ⟨k, -, rfl⟩ := List.mem_map.1 hy
      rfl
    · split at h
      · obtain ⟨y, -, hy⟩ := List.mem_flatMap.1 h
        obtain ⟨k, -, rfl⟩ := List.mem_map.1 hy
        rfl
      · cases h
  · split at h
    · obtain ⟨y, -, rfl⟩ := List.mem_map.1 h
      rfl
    · cases h

theorem State.HasJob.patrolRun (h : s.HasJob j loc user) (hp : user.isPatrol = true) (fuel n : Nat) : (State.patrolRun fuel n s).HasJob j loc user := by
  induction fuel generalizing s n with
  | zero => exact h
  | succ fuel ih =>
    unfold State.patrolRun
    dsimp only
    split
    · next user' loc' htodo =>
      split
      · exact h
      · split
        · exact ih (State.HasJob.of_rd (t := s.onReb _) h rfl) _
        · refine ih (State.HasJob.readCw (h.of_rd ?_) loc' (State.patrolTodo_isPatrol (List.mem_of_getElem? htodo))) _
          exact State.mask_rd (P := but [.rd]) (by simp) rfl
    · have hbusy : s.patrolBusy = true := by
        obtain ⟨-, -, x, hx, -, hu⟩ := h
        exact List.any_eq_true.2 ⟨_, mem_of_tabGet hx, by rw [hu]; exact hp⟩
      rw [if_pos (.inl hbusy)]
      exact h

end job

/-- The patrol reads the codeword at its cursor. -/
theorem exec_patrolIssue {s : State} {user : RdFor} {loc : Loc} (haw : s.awake = true) (hmay : s.rebuildMay = true) (htodo : s.patrolTodo[s.reb.patrolRole]? = some (user, loc))
    (hask : s.patrolAsk ≠ 0) (hrow : s.rowStep = false) (hl : s.placeLost loc = false) (hb : s.readable (locBay loc) = true) (hwf : tabWf s.rd.jobs = true)
    (hn : ∀ e ∈ s.rd.jobs, e.1 < s.rd.nextJob) : Completes .patrolIssue s fun t => ∃ x, tabGet t.rd.jobs s.rd.nextJob = some x ∧ x.loc = loc ∧ x.user = user := by
  obtain ⟨u, hu⟩ : ∃ u, u = (s.onReb fun r => { r with patrolRole := r.patrolRole + 1 }).chargeBack 7 1 := ⟨_, rfl⟩
  have hcharge : ∃ g, u = (s.onReb fun r => { r with patrolRole := r.patrolRole + 1 }).onSched g := by
    rw [hu, State.chargeBack]
    split
    · exact ⟨_, rfl⟩
    · exact ⟨id, rfl⟩
  have hrun : exec .patrolIssue s = .next (State.patrolRun (s.patrolAsk + 1023) (s.patrolAsk - 1) (u.readCw loc user false)) := by
    rw [show exec .patrolIssue s = execPatrolIssue s from rfl, execPatrolIssue, if_neg (by rw [haw, hmay]; decide), State.patrolRun]
    dsimp only
    rw [htodo]
    dsimp only
    rw [if_neg hask, if_neg (by rw [hrow]; exact fun h => nomatch h.1), hu]
  obtain ⟨g, rfl⟩ := hcharge
  have hjob := State.readCw_hasJob (s := (s.onReb fun r => { r with patrolRole := r.patrolRole + 1 }).onSched g) (user := user) hwf hn hl hb
  obtain ⟨-, -, hx⟩ := hjob.patrolRun (State.patrolTodo_isPatrol (List.mem_of_getElem? htodo)) (s.patrolAsk + 1023) (s.patrolAsk - 1)
  exact ⟨_, hrun, hx⟩

/-- Settles O42: rebuild moves from state to state, repairs what is lost, and sweeps, rewrites and patrols. -/
theorem rebuildWork : Obligations.RebuildWork := by
  unfold Obligations.RebuildWork
  intro s haw hmay
  refine ⟨fun hst hlost => ?_, fun hheld hb => ⟨fun u i hn hst => ⟨fun htodo => ?_, fun r l d hg hw hin hd hab hp ht hroom hl => ?_⟩, fun hn hbatch => ⟨fun hst => ?_, fun hst => ?_⟩⟩,
    fun hheld hph hb hn hbatch hst => ?_, fun hheld => ?_, fun b e hst hlost hj => ⟨fun he => ?_, fun he _ => ?_⟩,
    fun q hbatch hheld hdur => ⟨fun d hph hres hprog hu _ hd hst => ?_, fun hph hrole hroom => ?_⟩, fun hst => ⟨fun hfind => ?_, ?_⟩, fun hq => ?_,
    fun x rest hq hst hb hx => exec_rewriteIssue haw hmay hq hst hb hx, fun user loc htodo hask hrow hl hr hwf hn => exec_patrolIssue haw hmay htodo hask hrow hl hr hwf hn⟩
  · have hreb := s.leaveJournal_reb
    refine ⟨s.leaveJournal, ?_, by rw [hreb], by rw [hreb], by rw [hreb], congrArg (fun r => r.st) hreb⟩
    rw [exec_rebuildStep haw hmay (by rw [hst]; decide) (by rw [hst]; decide), ← State.journalStep_ends hlost]
    unfold State.rebuildStep
    rw [hst]
  · refine ⟨s.pastStripe u i, ?_, rfl⟩
    rw [exec_rebuildStep haw hmay (by rw [hst]; decide) (by rw [hst]; decide), State.rebuildStep_stripe hst hheld hb hn, State.rebuildStripe_passes htodo]
  · refine ⟨_, ?_, State.rebuildStripe_batch (s := s) (l := l) rfl⟩
    rw [exec_rebuildStep haw hmay (by rw [hst]; decide) (by rw [hst]; decide), State.rebuildStep_stripe hst hheld hb hn,
      State.rebuildStripe_repairs hg hw hin hd hab hp ht hroom hl]
  · obtain ⟨h1, -⟩ := State.rebuildStep_past hheld hb hn hbatch
    refine ⟨_, (exec_rebuildStep haw hmay (by rw [hst]; decide) (by rw [hst]; decide)).trans (congrArg Host.Outcome.next (h1 hst)), congrArg RebSt.st (State.setReb_reb _ _), congrArg RebSt.unit (State.setReb_reb _ _)⟩
  · obtain ⟨-, h1⟩ := State.rebuildStep_past hheld hb hn hbatch
    refine ⟨_, (exec_rebuildStep haw hmay (by rw [hst]; decide) (by rw [hst]; decide)).trans (congrArg Host.Outcome.next (h1 hst)), congrArg RebSt.st (State.setReb_reb _ _), congrArg RebSt.sweepMpn (State.setReb_reb _ _), congrArg RebSt.sweepPending (State.setReb_reb _ _)⟩
  · obtain ⟨-, h1⟩ := State.rebuildStep_past (s := s.onReb fun r => { r with retryHeld := false }) rfl hb hn hbatch
    refine ⟨_, (exec_rebuildRetryTimer haw hmay hheld hph).trans (congrArg Host.Outcome.next (h1 hst)), congrArg RebSt.st (State.setReb_reb _ _), congrArg RebSt.retryHeld (State.setReb_reb _ _)⟩
  · exact congrArg Host.Outcome.next (if_pos (.inr (.inl (by rw [hheld]; rfl))))
  · obtain ⟨u, hexec, hl, hc, -⟩ := exec_journalCopyPlaced haw hmay hst hlost hj
    refine ⟨_, hexec, by rw [State.leaveJournal_log]; exact hc he, by rw [State.leaveJournal_reb]; exact hl, ?_⟩
    rw [State.leaveJournal_reb]
    dsimp only
    split <;> decide
  · obtain ⟨u, hexec, -, -, hm⟩ := exec_journalCopyPlaced haw hmay hst hlost hj
    refine ⟨_, hexec, fun r hr hfrom => ?_, ?_⟩
    · rw [State.leaveJournal_log, hm he]
      exact tabGetD_rootMoved s.pl.root _ _ _ (.inl hr) (.inl hfrom)
    · rw [State.leaveJournal_reb]
      dsimp only
      split <;> decide
  · exact ⟨_, exec_repairBatchAdvance haw hmay, State.batchStep_programmed hbatch hheld hdur hph hres hprog hu hd hst⟩
  · exact ⟨_, exec_repairBatchAdvance haw hmay, State.batchStep_repointed hbatch hheld hdur hph hrole hroom⟩
  · have hres : s.resumeRebuild = s := State.resumeRebuild_same hmay (by rw [hst]; decide) (by rw [hst]; decide)
    refine ⟨(s.onReb fun r => { r with lostCw := [], sweepMpn := 0 }).setReb .idle, ?_, ?_, ?_, (State.setReb_kept _ _).1⟩
    · rw [show exec .sweepStep s = execSweepStep s from rfl, execSweepStep]
      dsimp only
      rw [hres, if_neg (by rw [haw, hst, hmay]; simp), hfind]
    · rw [State.setReb_reb]
    · rw [State.setReb_reb]
      rfl
  · intro mpn g p e ns lba hfind hwf _ hp hents hown hmpn hlines hroom hloc hcw hstrip
    exact exec_sweepStep_poisons haw hmay hst hfind hwf hp hents hown hmpn hlines hroom hloc hcw hstrip
  · rw [show exec .rewriteIssue s = execRewriteIssue s from rfl, execRewriteIssue, hq]

end Sys2Proof.Machine
end

section
/-! PROOF. Shipped records, stripe deadlines, stripe journal pages, map updates and map fetches (O34). -/

namespace Sys2Proof.Machine

/-! ### What the map names -/

/-- The page of a sector is in the pool, its line not in the cache, and the page names `e` for it. -/
def State.Names (s : State) (ns lba : Nat) (e : MapEntry) : Prop :=
  s.tcHit (lineAddr (s.mpnOf ns lba) lba) = none ∧ ∃ p, s.slotOf (s.mpnOf ns lba) = some p ∧ tabGetD p.entries (lba % 816) eUnmapped = e

section names
variable {s t : State} {ns lba : Nat} {e : MapEntry}

theorem State.Names.mapNow (h : s.Names ns lba e) : s.mapNow ns lba = some e := by
  obtain ⟨hhit, p, hp, he⟩ := h
  rw [State.mapNow_page hhit hp, he]

theorem State.Names.of_same (h : s.Names ns lba e) (hmap : t.map = s.map) (htc : t.tc = s.tc) (hns : t.fn.committed = s.fn.committed) : t.Names ns lba e := by
  obtain ⟨hhit, p, hp, he⟩ := h
  refine ⟨?_, p, ?_, he⟩
  · rw [State.mpnOf_same hns]
    exact (State.tcHit_same (by rw [htc]) _).trans hhit
  · rw [State.mpnOf_same hns, ← hp]
    exact State.slotOf_same (by rw [hmap]) (by rw [hmap]) _

theorem State.Names.of_mask (h : s.Names ns lba e) (hm : t.mask (but [.map, .tc, .fn]) = s.mask (but [.map, .tc, .fn])) : t.Names ns lba e :=
  h.of_same (State.mask_map hm rfl) (State.mask_tc hm rfl) (by rw [State.mask_fn hm rfl])

/-- A change of a page's slot that keeps its entries. -/
theorem State.Names.onSlot (h : s.Names ns lba e) (n : Nat) {g : PoolSlot → PoolSlot} (hg : ∀ p, (g p).entries = p.entries) : (s.onSlot n g).Names ns lba e := by
  obtain ⟨hhit, p, hp, he⟩ := h
  obtain ⟨q, hq, hqe⟩ := State.slotOf_onSlot_entries hp n hg
  have hfn : (s.onSlot n g).fn = s.fn := State.mask_fn (P := but [.fn]) (by simp) rfl
  have hmpn := State.mpnOf_same (s := s) (t := s.onSlot n g) (by rw [hfn]) ns lba
  have hlines : (s.onSlot n g).tc.lines = s.tc.lines := congrArg TcSt.lines (State.onSlot_tc s n g)
  exact ⟨by rw [hmpn]; exact (State.tcHit_same hlines _).trans hhit, q, by rw [hmpn]; exact hq, by rw [hqe]; exact he⟩

theorem State.Names.stampPage (h : s.Names ns lba e) (m jpos : Nat) : (s.stampPage m jpos).Names ns lba e := h.onSlot m fun _ => rfl

/-- A change of a page's directory entry that leaves where the page is. -/
theorem State.Names.onGmds (h : s.Names ns lba e) (k : Nat) {g : GmdEntry → GmdEntry} (hr : ∀ x, (g x).resident = x.resident) (hs : ∀ x, (g x).slot = x.slot) :
    (s.onMap fun m => { m with gmd := tabMod m.gmd k g }).Names ns lba e := by
  obtain ⟨hhit, p, hp, he⟩ := h
  refine ⟨hhit, p, ?_, he⟩
  have hres := tabGetD_tabMod s.map.gmd k g (s.mpnOf ns lba) GmdEntry.blank GmdEntry.resident hr
  have hslot := tabGetD_tabMod s.map.gmd k g (s.mpnOf ns lba) GmdEntry.blank GmdEntry.slot hs
  rw [← hp]
  show (if (tabGetD (tabMod s.map.gmd k g) (s.mpnOf ns lba) GmdEntry.blank).resident then
    tabGet s.map.pool (tabGetD (tabMod s.map.gmd k g) (s.mpnOf ns lba) GmdEntry.blank).slot else none) = _
  rw [hres, hslot]
  rfl

/-- A page that is clean again names what it named. -/
theorem State.Names.settlePages (h : s.Names ns lba e) (before : List JSlot) : (s.settlePages before).Names ns lba e := by
  unfold State.settlePages
  generalize s.log.journal = l
  induction l generalizing s with
  | nil => exact h
  | cons j l ih =>
    rw [List.foldl_cons]
    refine ih ?_
    split
    · split
      · split
        · exact h.onGmds _ (fun _ => rfl) fun _ => rfl
        · exact h
      · exact h
    · exact h

/-- Settling the journal leaves what the map names. -/
theorem State.Names.settleJournal (h : s.Names ns lba e) : s.settleJournal.Names ns lba e := by
  unfold State.settleJournal
  extract_lets before s1 s2 gone s3 past
  have h2 : s2.Names ns lba e := by
    have h1 : s1.Names ns lba e := h.of_same rfl rfl rfl
    have hc : (s1.settleChains before).Names ns lba e := h1.of_mask (by simp)
    exact hc.settlePages before
  have h3 : s3.Names ns lba e := h2.of_mask (by simp [s3])
  obtain ⟨v, hv⟩ : ∃ v, v = s3.onLog fun l => { l with
    stripes := tabKeep (fun k _ => !(gone.any fun e => e.1 == k)) l.stripes
    sjCopies := l.sjCopies.map fun c => { c with records := c.records.map past } } := ⟨_, rfl⟩
  have h4 : v.Names ns lba e := by rw [hv]; exact h3.of_same rfl rfl rfl
  rw [← hv]
  exact h4.of_mask (by simp)

end names

/-- A map update whose page is in the pool, its line not in the cache. -/
theorem State.applyEntry_names {s : State} {ns lba : Nat} {p : PoolSlot} (hhit : s.tcHit (lineAddr (s.mpnOf ns lba) lba) = none)
    (hp : s.slotOf (s.mpnOf ns lba) = some p) (hwf : tabWf p.entries = true) (e : MapEntry) (key : Option Nat) : (s.applyEntry ns lba e key).Names ns lba e := by
  obtain ⟨hlines, hfn, hslot⟩ := State.applyEntry_page hhit hp e key
  generalize s.applyEntry ns lba e key = u at hlines hfn hslot
  have hmpn := State.mpnOf_same (s := s) (t := u) (by rw [hfn]) ns lba
  refine ⟨by rw [hmpn]; exact (State.tcHit_same hlines _).trans hhit, _, by rw [hmpn]; exact hslot, ?_⟩
  exact (tabGet_tabPutD hwf eUnmapped e (lba % 816) (lba % 816)).trans (if_pos rfl)

/-! ### Shipped records -/

/-- The journal ring and the next journal position. -/
def State.tail (s : State) : List JSlot × Nat := (s.log.journal, s.log.jposNext)

theorem State.tail_of_log {s t : State} (h : t.log = s.log) : t.tail = s.tail := by
  unfold State.tail
  rw [h]

theorem State.countLoc_tail (s : State) (e : MapEntry) (up : Bool) (key : Option Nat) : (s.countLoc e up key).tail = s.tail := by
  have hkey (u : State) (k : Nat) : (u.keyCount k up).log = u.log := State.mask_log (P := but [.log]) (by simp) rfl
  unfold State.countLoc
  split
  · rfl
  · extract_lets s1
    have h1 : s1.tail = s.tail := by
      unfold s1
      split <;> rfl
    split
    · exact (State.tail_of_log (hkey s1 _)).trans h1
    · exact h1

theorem State.applyEntry_tail (s : State) (ns lba : Nat) (e : MapEntry) (key : Option Nat) : (s.applyEntry ns lba e key).tail = s.tail := by
  have hput (u : State) : (u.putEntry ns lba e).tail = u.tail := State.tail_of_log (State.mask_log (P := but [.log]) (by simp) rfl)
  unfold State.applyEntry
  extract_lets old s1 s2
  have h2 : s2.tail = s.tail := by
    unfold s2 s1
    rw [State.countLoc_tail, hput, State.countLoc_tail]
  exact h2

theorem State.readyPage_tail (s : State) (m : Nat) : (s.readyPage m).2.tail = s.tail := State.tail_of_log (State.mask_log (P := but [.log]) (by simp) rfl)

/-- Applying a record changes of the log the units alone. -/
theorem State.applyRec_tail (s : State) (r : JRec) (jpos : Nat) : (s.applyRec r jpos).tail = s.tail := by
  have hret (u : State) (n : Nat) : (u.retCount r.ns r.wseq n).tail = u.tail := State.tail_of_log (State.mask_log (P := but [.log]) (by simp) rfl)
  have hslot (u : State) (m : Nat) (g : PoolSlot → PoolSlot) : (u.onSlot m g).tail = u.tail := State.tail_of_log (State.mask_log (P := but [.log]) (by simp) rfl)
  have hput (u : State) (lba : Nat) (e : MapEntry) (key : Option Nat) :
      (((u.readyPage (u.mpnOf r.ns lba)).2.applyEntry r.ns lba e key).stampPage (u.mpnOf r.ns lba) jpos).tail = u.tail :=
    ((hslot _ _ _).trans (State.applyEntry_tail _ _ _ _ _)).trans (u.readyPage_tail _)
  unfold State.applyRec
  extract_lets put m s0
  split
  · refine (foldl_field State.tail (fun u i => ?_) _ _).trans ?_
    · dsimp only
      split
      · exact hput _ _ _ _
      · rfl
    · unfold s0
      split
      · exact hret s _
      · rfl
  · split
    · exact foldl_field State.tail (fun u i => hput _ _ _ _) _ _
    · split
      · exact (foldl_field State.tail (fun u i => hput _ _ _ _) _ _).trans (hret s _)
      · split
        · exact foldl_field State.tail (fun u i => hput _ _ _ _) _ _
        · split
          · split
            · split
              · exact hslot _ _ _
              · rfl
            · rfl
          · rfl

theorem State.readyPage_resident {s : State} {m : Nat} (h : (s.gmd m).resident = true) : s.readyPage m = (true, s) := by
  unfold State.readyPage
  dsimp only
  rw [if_pos h]

/-- A write-zeroes record of one sector whose page is in the pool. -/
theorem State.applyRec_zeroes {s : State} {ns lba wseq : Nat} {p : PoolSlot} (hp : s.slotOf (s.mpnOf ns lba) = some p) (hwf : tabWf p.entries = true)
    (hhit : s.tcHit (lineAddr (s.mpnOf ns lba) lba) = none) (jpos : Nat) : (s.applyRec ⟨4, 0, ns, 0, lba, 1, wseq⟩ jpos).mapNow ns lba = some eZeroes := by
  obtain ⟨u, hu⟩ : ∃ u, u = s.retCount ns wseq 1 := ⟨_, rfl⟩
  have hmask : u.mask (but [.map, .tc, .fn]) = s.mask (but [.map, .tc, .fn]) := by rw [hu]; simp
  have hmap : u.map = s.map := State.mask_map hmask rfl
  have hmpn := State.mpnOf_same (s := s) (t := u) (by rw [State.mask_fn hmask rfl]) ns lba
  have hpu : u.slotOf (u.mpnOf ns lba) = some p := by rw [hmpn, ← hp]; exact State.slotOf_same (by rw [hmap]) (by rw [hmap]) _
  have hhitu : u.tcHit (lineAddr (u.mpnOf ns lba) lba) = none := by rw [hmpn]; exact (State.tcHit_same (by rw [State.mask_tc hmask rfl]) _).trans hhit
  have hrec : s.applyRec ⟨4, 0, ns, 0, lba, 1, wseq⟩ jpos = (u.applyEntry ns lba eZeroes none).stampPage (u.mpnOf ns lba) jpos := by
    unfold State.applyRec
    extract_lets put m s0
    rw [if_neg (by rintro (h | h) <;> cases h), if_neg (by rintro h; cases h), if_pos rfl, show List.range 1 = [0] from rfl, List.foldl_cons, List.foldl_nil, ← hu]
    unfold put
    dsimp only
    rw [Nat.add_zero, State.readyPage_resident (State.resident_of_slotOf hpu).1]
  rw [hrec]
  exact ((State.applyEntry_names hhitu hpu hwf eZeroes none).stampPage _ _).mapNow

theorem State.noteStripe_sjPeer (s : State) (r : SjRec) : (s.noteStripe r).log.sjPeer = s.log.sjPeer := by
  have hexc (u : State) (k : Nat) (e : ExcEntry) : (u.addExc k e).log = u.log := rfl
  have hroles (u : State) (k i : Nat) : (u.notedRoles k i r).log = u.log := State.mask_log (P := but [.log]) (by simp) rfl
  unfold State.noteStripe
  extract_lets u i use s1 known stale e p s2
  split
  · rfl
  · have h2 : s2.log = s.log := by
      unfold s2
      split <;> rfl
    split
    · rw [h2]
    · next d _ =>
      extract_lets j t s3 s4 s5
      have ht : t.log = s.log := by
        unfold t
        split
        · exact h2
        · exact (hexc s2 _ _).trans h2
      have h3 : s3.log = s.log := by
        unfold s3
        split
        · exact h2
        · exact ht
      have h4 : s4.log.sjPeer = s.log.sjPeer := by
        unfold s4
        split
        · rw [h3]
        · split
          · show s3.log.sjPeer = _
            rw [h3]
          · rw [h3]
      have h5 : s5.log.sjPeer = s.log.sjPeer := by
        unfold s5
        rw [hroles]
        exact h4
      split
      · rw [hexc]
        exact h5
      · exact h5

/-- The log with a shipped record in its ring, which keeps the 262,144 most recent ones. -/
def LogSt.shipped (l : LogSt) (jpos : Nat) (r : JRec) : LogSt :=
  { l with journal := (l.journal ++ [(⟨jpos, r, false, true⟩ : JSlot)]).drop (l.journal.length + 1 - 262144), jposNext := jpos + 1 }

theorem LogSt.shipped_journal {l : LogSt} (h : l.journal.length < 262144) (jpos : Nat) (r : JRec) :
    (l.shipped jpos r).journal = l.journal ++ [⟨jpos, r, false, true⟩] := by
  unfold LogSt.shipped
  dsimp only
  rw [Nat.sub_eq_zero_of_le h, List.drop_zero]

section ship
variable {s : State} (hst : s.pair.st = .standby ∨ s.pair.st = .joining)
include hst

theorem ship_taken : ¬ (s.pair.st ≠ .standby ∧ s.pair.st ≠ .joining) := fun hc => hst.elim hc.1 hc.2

theorem exec_ship_journal (jpos type count ns pos lba arg wseq : Nat) : exec (.logShipRecordRx (.journal jpos type count ns pos lba arg wseq)) s =
    .next ((s.onLog fun l => l.shipped jpos ⟨type, count, ns, pos, lba, arg, wseq⟩).applyRec ⟨type, count, ns, pos, lba, arg, wseq⟩ jpos) :=
  congrArg Host.Outcome.next (if_neg (ship_taken hst))

theorem logShipRecordRx_journal (hlen : s.log.journal.length < 262144) (jpos type count ns pos lba arg wseq : Nat) :
    Completes (.logShipRecordRx (.journal jpos type count ns pos lba arg wseq)) s fun t =>
      t.log.journal = s.log.journal ++ [⟨jpos, ⟨type, count, ns, pos, lba, arg, wseq⟩, false, true⟩] ∧ t.log.jposNext = jpos + 1 := by
  refine ⟨_, exec_ship_journal hst .., ?_⟩
  obtain ⟨hj, hn⟩ := Prod.mk.inj
    (State.applyRec_tail (s.onLog fun l => l.shipped jpos ⟨type, count, ns, pos, lba, arg, wseq⟩) ⟨type, count, ns, pos, lba, arg, wseq⟩ jpos)
  exact ⟨hj.trans (LogSt.shipped_journal hlen _ _), hn⟩

theorem logShipRecordRx_stripe (id : Nat) {kind : Nat} (hk : kind ≠ 4) (st r : Nat) (a p : Bool) (w : Nat) (m : List Loc) :
    Completes (.logShipRecordRx (.stripe id kind st r a p w m)) s fun t => t.log.sjPeer = s.log.sjPeer ++ [⟨id, kind, st, r, a, p, w, m⟩] ∧ t.map = s.map := by
  obtain ⟨u, hu⟩ : ∃ u, u = s.onLog fun l => { l with sjPeer := l.sjPeer ++ [(⟨id, kind, st, r, a, p, w, m⟩ : SjRec)] } := ⟨_, rfl⟩
  have hpeer : u.log.sjPeer = s.log.sjPeer ++ [⟨id, kind, st, r, a, p, w, m⟩] := by rw [hu]; rfl
  have hmap : (u.noteStripe ⟨id, kind, st, r, a, p, w, m⟩).map = u.map := State.mask_map (P := but [.map]) (by simp) rfl
  refine ⟨u.noteStripe ⟨id, kind, st, r, a, p, w, m⟩, ?_, (u.noteStripe_sjPeer _).trans hpeer, hmap.trans (by rw [hu]; rfl)⟩
  rw [show exec (.logShipRecordRx (.stripe id kind st r a p w m)) s = execLogShipRecordRx (.stripe id kind st r a p w m) s from rfl, execLogShipRecordRx,
    if_neg (ship_taken hst)]
  dsimp only
  rw [if_neg hk, hu]

theorem logShipRecordRx_chain (ns ch n : Nat) :
    Completes (.logShipRecordRx (.chain ns ch n)) s fun t => (t.chain (chainKey ns ch)).next = n := by
  refine ⟨s.onLog fun l => { l with chains := tabUpd ⟨ns, ch, 1, 0, 0, false⟩ l.chains (chainKey ns ch) fun c => { c with next := n } },
    congrArg Host.Outcome.next (if_neg (ship_taken hst)), ?_⟩
  unfold State.chain State.onLog
  dsimp only
  rw [tabUpd, tabGetD, tabGet_tabPut_same]
  rfl

theorem logShipRecordRx_key (k st mode g : Nat) (m : BitVec 512) :
    Completes (.logShipRecordRx (.key k st mode g m)) s fun t =>
      (t.keySlot k).st = st ∧ (t.keySlot k).gen = g ∧ (t.keySlot k).material = m ∧ (t.keySlot k).sectors = (s.keySlot k).sectors := by
  rw [Completes, show exec (.logShipRecordRx (.key k st mode g m)) s = execLogShipRecordRx (.key k st mode g m) s from rfl, execLogShipRecordRx,
    if_neg (ship_taken hst)]
  refine ⟨_, rfl, ?_⟩
  unfold State.keySlot State.onCip
  dsimp only
  rw [tabUpd, tabGetD, tabGet_tabPut_same]
  dsimp only [Option.getD]
  split <;> exact ⟨rfl, rfl, rfl, rfl⟩

end ship

/-! ### Stripes closed at their deadline -/

/-- A step that changes no stream, and of stripe `id` the states of its members alone. -/
def State.MembersOnly (id : Nat) (s t : State) : Prop :=
  t.log.streams = s.log.streams ∧
    ∀ x, tabGet s.log.stripes id = some x → ∃ m, tabGet t.log.stripes id = some { x with members := m } ∧ m.length = x.members.length

theorem State.MembersOnly.refl (id : Nat) (s : State) : State.MembersOnly id s s := ⟨rfl, fun x hx => ⟨x.members, hx, rfl⟩⟩

theorem State.MembersOnly.trans {id : Nat} {s t u : State} (h : State.MembersOnly id s t) (h2 : State.MembersOnly id t u) : State.MembersOnly id s u := by
  obtain ⟨hs, hx⟩ := h
  obtain ⟨hs2, hx2⟩ := h2
  refine ⟨hs2.trans hs, fun x hg => ?_⟩
  obtain ⟨m, hm, hl⟩ := hx x hg
  obtain ⟨m2, hm2, hl2⟩ := hx2 _ hm
  exact ⟨m2, hm2, hl2.trans hl⟩

theorem State.MembersOnly.of_log {s t : State} (id : Nat) (hs : t.log.streams = s.log.streams) (hx : t.log.stripes = s.log.stripes) : State.MembersOnly id s t :=
  ⟨hs, fun x hg => ⟨x.members, by rw [hx]; exact hg, rfl⟩⟩

theorem State.RowsOnly.membersOnly {s t : State} (h : s.RowsOnly t) (id : Nat) : State.MembersOnly id s t := by
  obtain ⟨⟨r, w, hlog⟩, -⟩ := h
  exact .of_log id (by rw [hlog]) (by rw [hlog])

theorem State.tryMember_membersOnly (s : State) (id r : Nat) : State.MembersOnly id s (s.tryMember id r) := by
  unfold State.tryMember
  split
  · exact .refl id s
  · split
    · exact .refl id s
    · split
      · exact .refl id s
      · extract_lets u row e frames
        split
        · exact .refl id s
        · split
          · exact (s.tryXor_rowsOnly _ _ _).membersOnly id
          · split
            · split
              · exact .refl id s
              · next t ht =>
                refine State.MembersOnly.trans ?_ ((State.intoRow_rowsOnly _ _ _ _).membersOnly id)
                refine ((State.RowsOnly.issue ht).membersOnly id).trans ⟨rfl, fun y hy => ?_⟩
                show ∃ m, tabGet (tabMod t.log.stripes id _) id = _ ∧ _
                rw [tabGet_tabMod, if_pos rfl, hy]
                exact ⟨_, rfl, modNth_length _ _ _⟩
            · exact .of_log id (congrArg LogSt.streams (s.firstErase_log _ _ _)) (congrArg LogSt.stripes (s.firstErase_log _ _ _))

/-- A stripe with all its page sets takes them under its ID and starts programming; the stream goes on. -/
theorem State.takeMembers_stripe {s : State} {k : Nat} (hk : k < s.log.streams.length) (u skip : Nat) (pages : List Loc) (secs : List BufSector) (padded : Bool) :
    let t := s.takeMembers k u skip pages secs padded
    t.stream k = { s.stream k with
      counter := (s.stream k).counter + 1 + skip, index := (s.stream k).index + 1, stripe := Machine.nextStripe s.stripeSectors s.now (s.stream k).stripe } ∧
    ∃ x, tabGet t.log.stripes (stripeId (s.stream k).index u (s.unit u).use) = some x ∧ x.st = .programming ∧ x.stream = k
      ∧ x.sectors = secs ∧ x.members.length = pages.length := by
  unfold State.takeMembers
  extract_lets idx id pat moved x s1 s2 s3 s4 s5 s6 t
  have hs1 : s1.log = s.log := by
    unfold s1
    split <;> rfl
  have hs2 : s2.log = s.log := (foldl_field (f := fun s r => s.addExc u ⟨idx, 1, r, locBay (nth pages r 0), 0, 0⟩) State.log (fun _ _ => rfl) _ _).trans hs1
  have hs4 : s4.log.streams = s.log.streams := by
    show s2.log.streams = _
    rw [hs2]
  have hs5 : s5.stream k = { s.stream k with
      counter := (s.stream k).counter + 1 + skip, index := idx + 1, stripe := Machine.nextStripe s.stripeSectors s.now (s.stream k).stripe } := by
    show nth (modNth s4.log.streams k _) k Stream.reset = _
    rw [nth_modNth_of_lt _ _ _ (by rw [hs4]; exact hk), if_pos rfl, hs4]
    rfl
  have hlog6 : s6.log = (s5.onLog fun l => { l with stripes := tabPut l.stripes id x }).log := State.mask_log (State.sjShip_mask rfl _ _) (P := but [.log]) rfl
  have hx6 : tabGet s6.log.stripes id = some x := by
    rw [hlog6]
    exact tabGet_tabPut_same _ _ _
  have hfold : State.MembersOnly id s6 t := by
    unfold t
    generalize List.range pages.length = l
    clear_value s6
    clear hlog6 hx6
    induction l generalizing s6 with
    | nil => exact .refl id s6
    | cons r l ih => exact (s6.tryMember_membersOnly id r).trans (ih _)
  obtain ⟨hstreams, hstripe⟩ := hfold
  obtain ⟨m, hm, hl⟩ := hstripe x hx6
  refine ⟨?_, _, hm, rfl, rfl, rfl, hl.trans (List.length_map _)⟩
  rw [← hs5, State.stream, hstreams, hlog6]
  rfl

theorem State.closeStripe_takes {s : State} {k u skip : Nat} {pages : List (Option Loc)} {o : OpenStripe} (ho : (s.stream k).stripe = some o) (hne : o.sectors ≠ [])
    (hss : s.stripeSectors ≠ 0) (hu : (s.stream k).openUnit = some u) (hm : s.members k u = some (skip, pages)) (hall : pages.all Option.isSome = true) :
    s.closeStripe k = s.takeMembers k u skip (pages.filterMap id)
      (o.sectors ++ List.replicate (s.stripeSectors - o.sectors.length) (sysSector padPayload)) (decide (0 < s.stripeSectors - o.sectors.length)) := by
  have hneed : s.needUnit k = (true, s) := by
    unfold State.needUnit
    rw [hu]
  unfold State.closeStripe
  rw [ho]
  dsimp only
  rw [if_neg (by rintro (h | h); exacts [hne (List.isEmpty_iff.1 h), hss h]), hneed]
  dsimp only
  rw [if_neg (by decide), hu]
  dsimp only
  rw [hm]
  dsimp only
  rw [if_pos hall, if_pos hall]
  rfl

theorem stripeDeadline_closes {s : State} {k : Fin 64} {o : OpenStripe} {u skip : Nat} {pages : List (Option Loc)} (hk : k.val ≠ 61) (ho : (s.stream k).stripe = some o)
    (hnext : o.next = []) (hlen : s.log.streams.length = 64) (hold : o.since + us (s.deadline k) ≤ s.now) (hne : o.sectors ≠ []) (hu : (s.stream k).openUnit = some u)
    (hm : s.members k u = some (skip, pages)) (hall : pages.all Option.isSome = true) (hss : s.stripeSectors ≠ 0) :
    Completes (.stripeDeadline k) s fun t =>
      (t.stream k).stripe = none ∧ (t.stream k).index = (s.stream k).index + 1 ∧ (t.stream k).counter = (s.stream k).counter + 1 + skip
        ∧ ∃ x, tabGet t.log.stripes (stripeId (s.stream k).index u (s.unit u).use) = some x ∧ x.st = .programming ∧ x.stream = k
          ∧ x.sectors = o.sectors ++ List.replicate (s.stripeSectors - o.sectors.length) (sysSector padPayload) ∧ x.members.length = pages.length := by
  obtain ⟨hs, x, hx, h1, h2, h3, h4⟩ := State.takeMembers_stripe (s := s) (k := k.val) (by rw [hlen]; exact k.isLt) u skip (pages.filterMap id)
    (o.sectors ++ List.replicate (s.stripeSectors - o.sectors.length) (sysSector padPayload)) (decide (0 < s.stripeSectors - o.sectors.length))
  have hexec : exec (.stripeDeadline k) s = .next (s.closeStripe k) := by
    rw [show exec (.stripeDeadline k) s = execStripeDeadline k s from rfl, execStripeDeadline]
    dsimp only
    rw [if_neg fun h => hk h.1, ho]
    exact congrArg Host.Outcome.next (if_pos (decide_eq_true hold))
  rw [State.closeStripe_takes ho hne hss hu hm hall] at hexec
  refine ⟨_, hexec, ?_, by rw [hs], by rw [hs], x, hx, h1, h2, h3, h4.trans (List.filterMap_length_eq_length.2 (List.all_eq_true.1 hall))⟩
  rw [hs, ho]
  simp [nextStripe, hnext]

/-! ### Stripe journal pages -/

theorem State.trySj_log (s : State) : ∃ c, s.trySj.log = { s.log with sjCopies := c } := by
  have hstep (u : State) (h : ∃ c, u.log = { s.log with sjCopies := c }) {t : State} (ht : ∃ g, t.log = { u.log with sjCopies := g }) :
      ∃ c, t.log = { s.log with sjCopies := c } := by
    obtain ⟨c, hc⟩ := h
    obtain ⟨g, hg⟩ := ht
    exact ⟨g, by rw [hg, hc]⟩
  unfold State.trySj
  refine List.foldlRecOn (motive := fun t : State => ∃ c, t.log = { s.log with sjCopies := c }) _ _ ⟨_, rfl⟩ fun u hu p _ => ?_
  refine List.foldlRecOn (motive := fun t : State => ∃ c, t.log = { s.log with sjCopies := c }) _ _ hu fun v hv b _ => hstep v hv ?_
  split
  · exact ⟨_, rfl⟩
  · split
    · exact ⟨_, rfl⟩
    · dsimp only
      split
      · exact ⟨_, rfl⟩
      · split
        · next t ht =>
          have hlog : t.log = v.log := State.mask_log (State.issueSys_mask (P := these [.sheet, .out]) rfl rfl ht) rfl
          exact ⟨_, by rw [← hlog]; rfl⟩
        · exact ⟨_, rfl⟩

theorem State.closeSjPage_waits {s : State} {p : SjPage} (hp : s.log.sjPage = some p) :
    s.closeSjPage.log.sjPage = none ∧ s.closeSjPage.log.sjWait = s.log.sjWait ++ [{ p with waitBays := s.sjBays, done := 0 }]
      ∧ s.closeSjPage.log.stripes = s.log.stripes := by
  unfold State.closeSjPage
  rw [hp]
  dsimp only
  obtain ⟨u, hu⟩ : ∃ u, u = s.onLog fun l => { l with sjPage := none, sjWait := l.sjWait ++ [{ p with waitBays := s.sjBays, done := 0 }] } := ⟨_, rfl⟩
  obtain ⟨c, hc⟩ := u.trySj_log
  rw [← hu, hc, hu]
  exact ⟨rfl, rfl, rfl⟩

/-! ### Map updates -/

theorem State.tryFlush_journal (s : State) (ord : Nat) : (s.tryFlush ord).log.journal = s.log.journal := by
  have hfin (u : State) : (u.finishOk ord).log = u.log := State.mask_log (P := but [.log]) (by simp) rfl
  unfold State.tryFlush
  split
  · rfl
  · extract_lets tenant
    split
    · rw [hfin]
      rfl
    · rfl

theorem State.tryAll_journal (s : State) : s.tryAll.log.journal = s.log.journal :=
  foldl_field (fun u : State => u.log.journal) (fun u o => ((u.tryAck o).tryFlush_journal o).trans (u.tryAck_journal o)) _ _

theorem settleSlots_record (spans : List (Nat × Nat)) (l : List JSlot) : (settleSlots spans l).map JSlot.record = l.map JSlot.record := by
  induction l with
  | nil => rfl
  | cons j l ih =>
    unfold settleSlots
    split
    · rw [List.map_cons, List.map_cons, ih]
    · split
      · rw [List.map_cons, List.map_cons, ih]
      · rfl

/-- Settling the journal keeps every record. -/
theorem State.settleJournal_records (s : State) : s.settleJournal.log.journal.map JSlot.record = s.log.journal.map JSlot.record := by
  unfold State.settleJournal
  extract_lets before s1 s2 gone s3 past
  have h1 : s1.log.journal.map JSlot.record = s.log.journal.map JSlot.record := settleSlots_record _ _
  have hc : (s1.settleChains before).log.journal = s1.log.journal :=
    foldl_field (fun u : State => u.log.journal) (fun u j => by split <;> rfl) _ _
  have h2 : s2.log.journal = s1.log.journal := by
    have hp : s2.log = (s1.settleChains before).log := State.mask_log (P := but [.log]) (by simp [s2]) rfl
    rw [hp, hc]
  have h3 : s3.log = s2.log := State.mask_log (P := but [.log]) (by simp [s3]) rfl
  have hstrike (u : State) : u.checkStrike.log.journal = u.log.journal := by
    unfold State.checkStrike
    dsimp only
    split
    · rfl
    · have hev : ∀ (v : State) (a b c d e : Nat), (v.eventState a b c d e).log = v.log := fun v a b c d e => State.mask_log (P := but [.log]) (by simp) rfl
      rw [hev]
      rfl
  rw [hstrike]
  show s3.log.journal.map _ = _
  rw [h3, h2, h1]

/-- The pages of one sector, which is in the pool, are ready: the pool is as it was. -/
theorem State.readyAll_single {s : State} {ns lba : Nat} (h : (s.gmd (s.mpnOf ns lba)).resident = true) :
    s.readyAll [(ns, lba)] = (true, (s.pin (s.mpnOf ns lba) true).pin (s.mpnOf ns lba) false) := by
  have hone (m : Nat) : [m].eraseDups = [m] := rfl
  unfold State.readyAll State.readyPages
  rw [List.map_cons, List.map_nil, hone]
  dsimp only
  rw [List.foldl_cons, List.foldl_nil]
  dsimp only
  rw [State.readyPage_resident h]
  rfl

/-- A journal record stands in the ring. -/
def State.HasRecord (s : State) (r : JRec) : Prop := r ∈ s.log.journal.map JSlot.record

/-- The one sector of a write that is due is mapped to its place, with its record. -/
theorem State.applyUpdate_maps {s : State} {id w i : Nat} {x : Stripe} {e : BufSector} {slot : PoolSlot} (hx : tabGet s.log.stripes id = some x) (hst : x.st = .committed)
    (hdue : x.due w = [i]) (hi : x.sectors[i]? = some e) (hsrc : e.source = none) (hwait : s.updateWaits w = false)
    (hsup : ∀ o, tabGet s.sched.overlap w = some o → o.superseded.contains (mdLba e.payload - o.lba) = false)
    (hp : s.slotOf (s.mpnOf (mdNs e.payload) (mdLba e.payload)) = some slot) (hwf : tabWf slot.entries = true)
    (hhit : s.tcHit (lineAddr (s.mpnOf (mdNs e.payload) (mdLba e.payload)) (mdLba e.payload)) = none) (happ : s.map.applied < updateLimit) :
    (s.applyUpdate id w).Names (mdNs e.payload) (mdLba e.payload) (memberLoc x i)
      ∧ (s.applyUpdate id w).HasRecord ⟨1, 0, mdNs e.payload, i, mdLba e.payload, id, w⟩ := by
  obtain ⟨u, hu⟩ : ∃ u, u = (s.pin (s.mpnOf (mdNs e.payload) (mdLba e.payload)) true).pin (s.mpnOf (mdNs e.payload) (mdLba e.payload)) false := ⟨_, rfl⟩
  have hmask : u.mask (these [.map]) = s.mask (these [.map]) := by rw [hu]; simp
  have hmpn := State.mpnOf_same (s := s) (t := u) (by rw [State.mask_fn hmask rfl]) (mdNs e.payload) (mdLba e.payload)
  obtain ⟨p, hpu, hpe⟩ : ∃ p, u.slotOf (u.mpnOf (mdNs e.payload) (mdLba e.payload)) = some p ∧ p.entries = slot.entries := by
    obtain ⟨q, hq, hqe⟩ := State.slotOf_onSlot_entries hp (s.mpnOf (mdNs e.payload) (mdLba e.payload))
      (g := fun p => { p with pins := if true then p.pins + 1 else p.pins - 1 }) fun _ => rfl
    obtain ⟨q2, hq2, hqe2⟩ := State.slotOf_onSlot_entries hq (s.mpnOf (mdNs e.payload) (mdLba e.payload))
      (g := fun p => { p with pins := if false then p.pins + 1 else p.pins - 1 }) fun _ => rfl
    exact ⟨q2, by rw [hmpn, hu]; exact hq2, hqe2.trans hqe⟩
  have hhitu : u.tcHit (lineAddr (u.mpnOf (mdNs e.payload) (mdLba e.payload)) (mdLba e.payload)) = none := by
    rw [hmpn]
    exact (State.tcHit_same (by rw [State.mask_tc hmask rfl]) _).trans hhit
  have hready := State.readyAll_single (State.resident_of_slotOf hp).1
  rw [← hu] at hready
  unfold State.applyUpdate
  split
  · next hn => exact nomatch hx.symm.trans hn
  next y hy =>
  cases hx.symm.trans hy
  rw [hdue, if_neg (by rw [hst]; simp), if_neg (by rw [hwait]; exact fun h => nomatch h.1), if_neg (by rw [List.length_singleton]; omega)]
  have hinfo : [i].filterMap (fun i => (x.sectors[i]?).map fun e => (i, e)) = [(i, e)] := by simp [hi]
  rw [hinfo]
  extract_lets info r s0 sup take s1 recs s2 gone top s3 s4
  have hr : r = (true, u) := hready
  have hs0 : s0 = u := congrArg Prod.snd hr
  rw [if_neg (by rw [hr]; exact Bool.false_ne_true)]
  have htake : take = [(i, e)] := by
    unfold take sup info
    rw [hs0, State.mask_sched hmask rfl]
    cases ho : tabGet s.sched.overlap w with
    | none => simp [hsrc]
    | some o => simpa [hsrc] using hsup o ho
  have hs1 : s1 = (u.applyEntry (mdNs e.payload) (mdLba e.payload) (memberLoc x i) (some (mdKey e.payload))).retCount (mdNs e.payload) w 1 := by
    unfold s1
    rw [htake, hs0, List.foldl_cons, List.foldl_nil, hsrc]
    rfl
  have hrecs : recs = [(i, mdNs e.payload, mdLba e.payload, 1, false)] := by
    unfold recs
    rw [htake, List.map_cons, List.map_nil, hsrc]
    rfl
  have hs2 : s2 = (s1.journal ⟨1, 0, mdNs e.payload, i, mdLba e.payload, id, w⟩).settleEmptied u.log.jposNext := by
    unfold s2
    rw [hrecs, hs0, List.foldl_cons, List.foldl_nil]
    rfl
  have hn1 : s1.Names (mdNs e.payload) (mdLba e.payload) (memberLoc x i) := by
    rw [hs1]
    exact (State.applyEntry_names hhitu hpu (by rw [hpe]; exact hwf) (memberLoc x i) (some (mdKey e.payload))).of_mask (by simp)
  clear_value s2 s1
  have hn2 : s2.Names (mdNs e.payload) (mdLba e.payload) (memberLoc x i) := by
    obtain ⟨-, -, -, -, hcom⟩ := State.fn_of_core (s := s1) (t := s2) (by rw [hs2]; simp)
    exact hn1.of_same (State.mask_map (P := but [.map]) (by rw [hs2]; simp) rfl) (State.mask_tc (P := but [.tc]) (by rw [hs2]; simp) rfl) hcom
  have hr2 : s2.HasRecord ⟨1, 0, mdNs e.payload, i, mdLba e.payload, id, w⟩ := by
    obtain ⟨j, hj, hr⟩ := s1.journal_mem ⟨1, 0, mdNs e.payload, i, mdLba e.payload, id, w⟩
    rw [hs2]
    exact List.mem_map.2 ⟨j, hj, hr⟩
  have hn3 : s3.Names (mdNs e.payload) (mdLba e.payload) (memberLoc x i) :=
    List.foldlRecOn (motive := fun t : State => t.Names _ _ _) _ _ hn2 fun t ht m _ => ht.stampPage m top
  have hl3 : s3.log = s2.log :=
    foldl_field State.log (fun t m => State.mask_log (P := but [.log]) (t := t.stampPage m top) (by simp [State.stampPage]) rfl) _ _
  have hn4 : (s4.onMap fun m => { m with applied := m.applied + [i].length }).Names (mdNs e.payload) (mdLba e.payload) (memberLoc x i) := by
    obtain ⟨h1, q, h2, h3⟩ := hn3
    exact ⟨h1, q, h2, h3⟩
  have hr4 : (s4.onMap fun m => { m with applied := m.applied + [i].length }).HasRecord ⟨1, 0, mdNs e.payload, i, mdLba e.payload, id, w⟩ := by
    unfold State.HasRecord at hr2 ⊢
    rw [← hl3] at hr2
    exact hr2
  generalize s4.onMap (fun m => { m with applied := m.applied + [i].length }) = v at hn4 hr4
  have hwrite : (v.settleWrite w).log = v.log := State.mask_log (P := but [.log]) (by simp) rfl
  refine ⟨(hn4.of_mask (by simp)).settleJournal, ?_⟩
  rw [State.HasRecord, State.settleJournal_records, hwrite]
  exact hr4

theorem mapUpdateApply_maps {s : State} {id w i : Nat} {x : Stripe} {e : BufSector} (h : (s.applyUpdate id w).Names (mdNs e.payload) (mdLba e.payload) (memberLoc x i)
      ∧ (s.applyUpdate id w).HasRecord ⟨1, 0, mdNs e.payload, i, mdLba e.payload, id, w⟩) :
    Completes (.mapUpdateApply id w) s fun t => t.mapNow (mdNs e.payload) (mdLba e.payload) = some (memberLoc x i)
      ∧ ∃ j ∈ t.log.journal, j.record = ⟨1, 0, mdNs e.payload, i, mdLba e.payload, id, w⟩ := by
  obtain ⟨hn, hr⟩ := h
  refine ⟨(s.applyUpdate id w).tryAll, rfl, (hn.of_mask (by simp)).mapNow, ?_⟩
  rw [State.tryAll_journal]
  exact List.mem_map.1 hr

/-- An update of a write's sectors that must wait changes nothing. -/
theorem State.applyUpdate_waits {s : State} {id w i : Nat} {x : Stripe} {e : BufSector} (hx : tabGet s.log.stripes id = some x) (hdue : i ∈ x.due w)
    (hi : x.sectors[i]? = some e) (hsrc : e.source = none) (hwait : s.updateWaits w = true) : s.applyUpdate id w = s := by
  unfold State.applyUpdate
  rw [hx]
  dsimp only
  split
  · rfl
  · exact if_pos ⟨hwait, List.any_eq_true.2 ⟨i, hdue, by rw [hi]; simp [hsrc]⟩⟩

/-! ### Map fetches -/

theorem State.onSlot_waits (s : State) (n : Nat) (g : PoolSlot → PoolSlot) : (s.onSlot n g).map.waits = s.map.waits := by
  unfold State.onSlot
  split <;> rfl

theorem State.dropLine_waits (s : State) (k w : Nat) : (s.dropLine k w).map.waits = s.map.waits := by
  have hback : (s.writeBack k w).map.waits = s.map.waits := by
    unfold State.writeBack
    extract_lets l mpn first s1
    split
    · exact (State.onSlot_waits (s1.putLine k w { l with dirtyMask := 0 }) mpn _).trans (s.onSlot_waits mpn _)
    · rfl
  unfold State.dropLine
  extract_lets s1 l s2
  have h2 : s2.map.waits = s1.map.waits := by
    unfold s2
    split
    · exact s1.onSlot_waits _ _
    · rfl
  exact h2.trans hback

/-- A command that waits for a line parks on its fill, where its bank has room. -/
theorem State.startFill_parks {s : State} {la ns : Nat} {st : Bool} {ord : Nat} (hroom : (s.tc.miss.filter fun m => tcSet m.la % 4 == tcSet la % 4).length < 64) :
    (s.startFill la ns st false (some ord)).map.waits = s.map.waits ∧ ∃ m ∈ (s.startFill la ns st false (some ord)).tc.miss, m.la = la ∧ ord ∈ m.parked := by
  unfold State.startFill
  extract_lets add set okWay pick mpn
  have hadd (m : TcMiss) : (add m).la = m.la ∧ ord ∈ (add m).parked := by
    unfold add
    dsimp only
    split
    · next hc => exact ⟨rfl, by simpa using hc⟩
    · exact ⟨rfl, by simp⟩
  have happend (u : State) (w : Option Nat) :
      ∃ m ∈ (u.onTc fun t => { t with miss := t.miss ++ [add ⟨la, w, st, false, ns, [], [], false⟩] }).tc.miss, m.la = la ∧ ord ∈ m.parked := by
    obtain ⟨h1, h2⟩ := hadd ⟨la, w, st, false, ns, [], [], false⟩
    exact ⟨_, List.mem_append_right _ List.mem_cons_self, h1, h2⟩
  clear_value add
  split
  · next hany =>
    obtain ⟨m, hm, hla⟩ := List.any_eq_true.1 hany
    rw [beq_iff_eq] at hla
    obtain ⟨h1, h2⟩ := hadd m
    exact ⟨rfl, _, List.mem_map.2 ⟨m, hm, if_pos hla⟩, h1.trans hla, h2⟩
  · rw [if_neg (Nat.not_le.2 hroom)]
    have hpick : ∀ w u, pick = some (w, u) → u.map = s.map := by
      intro w u hp
      unfold pick at hp
      split at hp
      · next r hr =>
        cases hp
        exact State.mask_map (State.victim_mask (P := but [.map]) rfl hr) rfl
      · exact absurd hp nofun
    clear_value pick
    split
    · exact ⟨s.onSlot_waits mpn _, happend _ none⟩
    · next w u =>
      have h1 := hpick w u rfl
      extract_lets s2
      refine ⟨?_, happend _ (some w)⟩
      have h2 : s2.map.waits = u.map.waits := u.dropLine_waits set w
      refine Eq.trans (State.onSlot_waits (s2.putLine set w { TcLine.blank with la := la, f := true }) mpn _) ?_
      show s2.map.waits = _
      rw [h2, h1]

/-- A read that waited for a map page parks on the fill of its line. -/
theorem mapFetchComplete_parks {s : State} {mpn ord : Nat} {c : Cmd} {slot : PoolSlot} (hp : s.slotOf mpn = some slot)
    (hwaits : s.map.waits.filter (fun w => w.1 == mpn) = [(mpn, .read ord)]) (hc : s.cmd ord = some c) (hres : c.results = [(0, .waiting)])
    (how : s.ovWrite ord c.ns c.lba = none) (hmpn : s.mpnOf c.ns c.lba = mpn) (hsound : s.tcSound (lineAddr mpn c.lba) = true)
    (hhit : s.tcHit (lineAddr mpn c.lba) = none)
    (hroom : (s.tc.miss.filter fun m => tcSet m.la % 4 == tcSet (lineAddr mpn c.lba) % 4).length < 64) :
    Completes (.mapFetchComplete mpn) s fun t => t.map.waits = s.map.waits.filter (fun w => w.1 != mpn)
      ∧ ∃ m ∈ t.tc.miss, m.la = lineAddr mpn c.lba ∧ ord ∈ m.parked := by
  obtain ⟨hresident, -⟩ := State.resident_of_slotOf hp
  obtain ⟨u, hu⟩ : ∃ u, u = s.onMap fun m => { m with waits := m.waits.filter fun w => w.1 != mpn } := ⟨_, rfl⟩
  have hcu : u.cmd ord = some c := by rw [hu]; exact hc
  have hmu : u.mpnOf c.ns c.lba = mpn := by rw [hu]; exact hmpn
  have hlook : u.look c.ns c.lba = .fill (lineAddr mpn c.lba) := by
    have hhu : u.tcHit (lineAddr mpn c.lba) = none := by rw [hu]; exact hhit
    have hru : (u.gmd mpn).resident = true := by rw [hu]; exact hresident
    unfold State.look
    dsimp only
    rw [hmu, hhu]
    dsimp only
    rw [if_pos hru]
  have hsector : u.serveSector ord c 0 = u.startFill (lineAddr mpn c.lba) c.ns c.streaming false (some ord) := by
    have hou : u.ovWrite ord c.ns c.lba = none := by rw [hu]; exact how
    have hsu : u.tcSound (lineAddr mpn c.lba) = true := by rw [hu]; exact hsound
    unfold State.serveSector
    dsimp only
    rw [Nat.add_zero, hou]
    dsimp only
    rw [hmu, State.tcCheck_sound hsu, hlook]
  have hexec : exec (.mapFetchComplete mpn) s = .next (u.startFill (lineAddr mpn c.lba) c.ns c.streaming false (some ord)) := by
    rw [show exec (.mapFetchComplete mpn) s = execMapFetchComplete mpn s from rfl, execMapFetchComplete, if_pos hresident, State.takeWaits, hwaits]
    dsimp only
    rw [List.map_cons, List.map_nil, List.foldl_cons, List.foldl_nil, ← hu]
    unfold State.serveWait State.serveRead
    dsimp only
    rw [hcu]
    dsimp only
    rw [hres, show [((0 : Nat), RdResult.waiting)].filter (fun e => e.2 == .waiting) = [(0, .waiting)] from rfl, List.foldl_cons, List.foldl_nil, hsector]
  obtain ⟨h1, h2⟩ := State.startFill_parks (s := u) (la := lineAddr mpn c.lba) (ns := c.ns) (st := c.streaming) (ord := ord) (by rw [hu]; exact hroom)
  exact ⟨_, hexec, h1.trans (by rw [hu]; rfl), h2⟩

/-- Settles O34: shipped records are taken over, deadlines and timers close stripes and pages, and map updates and fetches do their work. -/
theorem journalsAndUpdates : Obligations.JournalsAndUpdates := by
  unfold Obligations.JournalsAndUpdates
  intro s
  refine ⟨fun hst => ⟨fun hlen jpos type count ns pos lba arg wseq => logShipRecordRx_journal hst hlen .., fun jpos ns lba wseq p _ _ hp hwf hhit => ?_,
      fun id kind st r a p w m hk => logShipRecordRx_stripe hst id hk st r a p w m, fun o => ?_,
      fun ns ch n hwf => ?_, fun q n tn hwf => ?_, fun k st mode g m hwf => ?_⟩,
    fun r h1 h2 => congrArg Host.Outcome.next (if_pos ⟨h1, h2⟩),
    fun k o hk ho hnext hlen => ⟨fun hold hne _ u skip pages hu hm hall hss => stripeDeadline_closes hk ho hnext hlen hold hne hu hm hall hss, fun hyoung => ?_⟩,
    fun p hp => ⟨fun hold => ?_, fun hyoung => ?_⟩,
    fun id w x i e slot hx hst hdue hi hsrc hwait hsup hp hwf _ _ hhit happ =>
      mapUpdateApply_maps (State.applyUpdate_maps hx hst hdue hi hsrc hwait hsup hp hwf hhit happ),
    fun id w x i e hx hdue hi hsrc hwait => ?_,
    fun mpn ord c slot hp hwaits hc hres how hmpn hsound hhit hroom => mapFetchComplete_parks hp hwaits hc hres how hmpn hsound hhit hroom, fun mpn hres => ?_⟩
  · exact ⟨_, exec_ship_journal hst .., State.applyRec_zeroes (s := s.onLog fun l => l.shipped jpos ⟨4, 0, ns, 0, lba, 1, wseq⟩) hp hwf hhit jpos⟩
  · exact ⟨_, congrArg Host.Outcome.next (if_neg (ship_taken hst)), rfl⟩
  · exact logShipRecordRx_chain hst ns ch n
  · exact ⟨s.onNvme fun x => { x with resv := tabPut x.resv (2 ^ 20 + q) ⟨n, tn, true⟩ }, congrArg Host.Outcome.next (if_neg (ship_taken hst)),
      tabGet_tabPut_same _ _ _⟩
  · exact logShipRecordRx_key hst k st mode g m
  · rw [show exec (.stripeDeadline k) s = execStripeDeadline k s from rfl, execStripeDeadline]
    dsimp only
    rw [if_neg fun h => hk h.1, ho]
    exact congrArg Host.Outcome.next (if_neg (by simpa using hyoung))
  · refine ⟨s.closeSjPage, ?_, State.closeSjPage_waits hp⟩
    rw [show exec .journalPageTimer s = execJournalPageTimer s from rfl, execJournalPageTimer, hp]
    exact congrArg Host.Outcome.next (if_pos hold)
  · rw [show exec .journalPageTimer s = execJournalPageTimer s from rfl, execJournalPageTimer, hp]
    exact congrArg Host.Outcome.next (if_neg (Nat.not_le.2 hyoung))
  · refine ⟨(s.applyUpdate id w).tryAll, rfl, ?_⟩
    rw [State.applyUpdate_waits hx hdue hi hsrc hwait]
    exact State.mask_map (P := but [.map]) (by simp) rfl
  · exact congrArg Host.Outcome.next (if_neg (by rw [hres]; decide))

end Sys2Proof.Machine
end
